-- ==== Sys2Proof/Word.lean ====
section
/-! DEFINITION. The word types of the module: a BAR0 register is 32 bits (R12), memory is bytes,
shelf time is 64 bits (R11). -/

namespace Sys2Proof

/-- A BAR0 register, a PCIe address half, a word of a frame (R12). -/
abbrev Word := BitVec 32

/-- A byte of a memory, a record or a frame. -/
abbrev Byte := BitVec 8

/-- A count of 10 ns ticks (R11), or a PCIe address. -/
abbrev Word64 := BitVec 64

end Sys2Proof
end

