-- ==== Sys2Proof/Config.lean ====
section
/-! DEFINITION. What a module fixes (its variant, R1 to R7) and the values the spec leaves open or
takes from a standard it does not restate. An opaque constant has no body: no proof can see its value. -/

namespace Sys2Proof

/-- The three variants of R5. -/
inductive Variant
  | full | half | control
  deriving DecidableEq, Repr

namespace Config

/-- SHA3-512 (FIPS 202), 64 bytes; used by R76, R77, R81 to R83, R104, R420. -/
opaque sha3_512 : List Byte → List Byte

/-- ML-DSA-87 verification of a signature over a message under a public key (R77, R83). -/
opaque mldsaVerify : List Byte → List Byte → List Byte → Bool

/-- The public half of ML-DSA.KeyGen on ID_SEED (R102). -/
opaque mldsaPublicKey : List Byte → List Byte

/-- The ML-DSA-87 signature under the key derived from ID_SEED (R104); the counter is the signer's randomness. -/
opaque mldsaSign : List Byte → List Byte → Nat → List Byte

/-- A value the spec leaves open, drawn fresh by the counter `free` of the state (log 2). -/
opaque freeNat : Nat → Nat

/-- A quotient by zero of the spec's formulas, which state no result there: a value by numerator (log 2). -/
opaque quotByZero : Rat → Int

/-- Random bits of the stochastic rounding of R357: the spec gives no generator. -/
opaque randomBits : Nat → Nat

/-- The 4-byte entry of a BALANCE or BYPASS frame (R247): the spec states its size, not its bits. -/
opaque ringEntry : Nat → Nat → Nat

/-- A byte of module memory whose content the spec calls undefined, by the event that left it so and its place (log 2). -/
opaque freeByte : Nat → Nat → BitVec 8

/-- The bank of an HBM4 row, by stack and address (R457): the spec does not lay the address out. -/
opaque rowBank : Nat → Nat → Nat

/-- The address of the row that holds an address, by the kind of R457 (3 HBM4, 5 DDR5), stack or socket: the spec does not lay
rows out. -/
opaque rowAddr : Nat → Nat → Nat → Nat

/-- The HBM4 channel that holds an address of a stack, 0 to 31 after reduction (R457): the spec does not lay channels out. -/
opaque hbmChannel : Nat → Nat → Nat

/-- V of R402, the elements of a member's update, by MODEL_ID: the spec gives a number in an example only. -/
opaque fleetElements : Nat → Nat

/-- The transcendental unit of R352: its result for a function code and an operand; the spec states
only the error bound. -/
opaque transcendental : Nat → BitVec 32 → BitVec 32

end Config
end Sys2Proof
end

