-- ==== Sys2Proof/Syntax/Events.lean ====
section
/-! DEFINITION. Operands of the commands of Larkspur's queues, training, start-up, Bridle and Remount. -/

namespace Sys2Proof

/-- A command of a submission ring (R383): its fields but for OPCODE. -/
structure SqCmd where
  flags : Fin 256
  entry : Fin 65536
  tag : Word
  image : Word64
  mask : Word64
  arg : Word64
  seed : Word64
  timeout : Word
  threads : Fin 65536
  deriving DecidableEq, Repr

/-- What an evaluation brings (R399): the weights that a burst or a fleet round trained, or none where a
blob was installed; their generation; MAE in 0.1 kW and COVER in 0.1 % of CANDIDATE, MAE of LIVE. -/
structure JudgeIn where
  body : Option (List Byte)
  gen : Fin 65536
  maeLive : Fin 65536
  maeCand : Fin 65536
  coverCand : Fin 1001
  deriving DecidableEq, Repr

/-- A received bulk frame (R404): the path, the Turpor SEQ's parts, the bulk header, the payload's words,
whether its CRC-32C checks. -/
structure BulkIn where
  path : Fin 2
  src : Fin 512
  hall : Fin 65536
  phase : Bool
  dir : Bool
  step : Fin 512
  chunk : Nat
  round : Word
  model : Word
  count : Fin 65536
  words : List Word
  crcOk : Bool
  deriving DecidableEq, Repr

/-- What FEEDBACK_MISMATCH reports (R47, R415): a limit missed on opening or closing, or a feedback that
changed while its enable was steady; 0 and 1 are the strings, 2 is the isolation. -/
inductive FbKind
  | notOpen (w : Fin 3)
  | notClosed (w : Fin 3)
  | changed (w : Fin 3)
  deriving DecidableEq, Repr

/-- What SUBSTITUTION_TRIGGER brings (R460): the kind and the part; for kinds 3 to 5 the stack or socket, the row's
address, the corrected errors counted and whether an uncorrectable one was found; for kind 5 whether the device has
a repair resource left. -/
structure TrigIn where
  kind : Fin 10
  target : Fin 4096
  unit : Fin 2
  addr : Word64
  ce : Fin 65536
  ue : Bool
  resource : Bool
  deriving DecidableEq, Repr

/-- How a substitution's mechanism ends (R462). -/
inductive SwEnd
  | done
  | fault
  | refused
  deriving DecidableEq, Repr

/-- What the MRAM writer is writing when the write fence comes (R299, R445). -/
inductive MramBusy
  | idle
  | journal
  | lastFault
  | record
  | wear
  deriving DecidableEq, Repr

/-- What a rectifier answers to the reads of R53: CAPABILITY, PMBUS_REVISION, MFR_ID, MFR_MODEL. -/
structure RectId where
  answers : Bool
  cap : Fin 256
  rev : Fin 256
  id : List Byte
  model : List Byte
  deriving DecidableEq, Repr

/-- A change of the function's device state or of the link (R36, R121). -/
inductive PcieMove
  | d0
  | d3hot
  | d3cold
  | l1
  | l11
  | l0
  deriving DecidableEq, Repr

end Sys2Proof
end

