-- ==== Sys2Proof/Syntax/Operands.lean ====
section
/-! DEFINITION. The operands of the commands: what the outside world brings to a step. Every number
is in the unit of the register or the rule that reports it; the docstring says which. -/

namespace Sys2Proof

/-- A channel of Harness, PH000 to PH103 (R21). -/
abbrev ChanNo := Fin 104

/-- A group of Harness, G0 to G12 (R21). -/
abbrev GrpNo := Fin 13

/-- A string: 0 for A, 1 for B (R416). -/
abbrev StrNo := Fin 2

/-- A cascade of Rein (R184). -/
abbrev CasNo := Fin 8

/-- The strings that a step event affects (R153). -/
inductive Strings
  | a | b | both
  deriving DecidableEq, Repr

/-- What PENDING_ENABLE_EXPIRY starts (R426). -/
inductive Pending
  | shelf
  | cascade (c : CasNo)
  | group (g : GrpNo)
  deriving DecidableEq, Repr

/-- What a Rein sample captures at its tick (R45, R189): voltages in 10 mV, currents of the 104 channels
in 0.1 A, positive towards the shelf node. -/
structure SampleIn where
  vbus : Nat
  vnode : Nat
  vstrA : Nat
  vstrB : Nat
  isns : List Int
  deriving DecidableEq, Repr

/-- A write of bank map words or of LEN (R203). -/
inductive MapWrite
  | word (bankB : Bool) (upper : Bool) (value : Word)
  | len (bankB : Bool) (n : Fin 16)
  deriving DecidableEq, Repr

/-- How a rectifier answers in a slot (R56): every transaction, only the retry of each, or not even that; `stuck` where SCL
stayed low for 100 µs. A NACK and a PEC mismatch are failures too. -/
inductive RectAns
  | ok
  | retried (stuck : Bool)
  | failed (stuck : Bool)
  deriving DecidableEq, Repr

/-- What happens in one 1 ms slot (R55, R56): how many pieces of the slot's work end in it (its limit writes, then a pending
ramp-rate write, then the alert service or the rotating read), how each rectifier answers, the alerting rectifier and its
STATUS_WORD when SMBALERT_N is low, and the word of the rotating read. -/
structure L1In where
  fit : Fin 9
  answers : List RectAns
  alert : Option (Fin 6 × Fin 65536)
  word : Fin 65536
  deriving DecidableEq, Repr

/-- A valid hint frame (R217) as its last symbol ends at J11, with the lane that took it, and the time
from there to the start of its acknowledge in 8 ns units (R221). -/
structure HintIn where
  lane : Fin 2
  ver : Fin 256
  falls : Bool
  replace : Bool
  seq : Word
  eta : Word
  mag : Fin 256
  duration : Word
  ref : Word
  srcId : Fin 65536
  lat : Fin 65536
  deriving DecidableEq, Repr

/-- A valid cancel frame (R217), its lane and the time to its acknowledge in 8 ns units. -/
structure CancelIn where
  lane : Fin 2
  ver : Fin 256
  seq : Word
  ref : Word
  lat : Fin 65536
  deriving DecidableEq, Repr

/-- What a sweep brings back (R246, R249, R263 to R265): the frame that left end 1 and the one that left end 2, as they
arrive at the far end or come back wrapped, truncated ones as far as they came and silent ones empty; the longest time without
a valid transition at end 2 in ticks, the bit times of valid idle there since, and the skew of the two halves in ticks. -/
structure SweepIn where
  fwd : List Byte
  rev : List Byte
  silence : Nat
  idle : Nat
  skew : Fin 65536
  deriving DecidableEq, Repr

/-- A record of an enumeration frame (R254). -/
structure EnumRec where
  addr : Fin 256
  facing : Bool
  version : Fin 65536
  uid : Word64
  deriving DecidableEq, Repr

/-- The header of a received control record (R309): the path it came on, its fields, and its receive stamp
in 1/256 tick (R314). -/
structure FabHdr where
  path : Fin 2
  src : Fin 512
  hall : Fin 65536
  inc : Fin 65536
  seq : Word
  frame : Word
  stamp : Nat
  deriving DecidableEq, Repr

/-- A SYNC (R318): TX_TIME with its fraction in 1/256 tick, FLAGS, the epoch, H, LIVE_TEAMS, the digest, the team targets. -/
structure SyncIn where
  hdr : FabHdr
  txTime : Nat
  flags : Fin 8
  epoch : Fin 65536
  h : Int
  live : Word
  digest : Word
  targets : List Int
  deriving DecidableEq, Repr

/-- The alarm record of a SHARE (R319). -/
structure AlarmIn where
  code : Fin 65536
  cls : Fin 4
  reps : Fin 256
  seq : Word
  time : Word64
  detail : List Byte
  deriving DecidableEq, Repr

/-- A SHARE (R319). Powers in 10 W. -/
structure ShareIn where
  hdr : FabHdr
  state : Fin 16
  flags : Fin 32
  load : Int
  grid : Int
  hDis : Int
  hChg : Int
  hrDelta : Int
  target : Int
  soc : Fin 65536
  digest : Word
  alarm : AlarmIn
  deriving DecidableEq, Repr

/-- A TEAM_SUMMARY (R321). Powers in 10 W; a member is TARGET, S, STATE, FLAGS, SOC. -/
structure SummIn where
  hdr : FabHdr
  team : Fin 32
  flags : Fin 16
  epoch : Fin 65536
  live : Fin 65536
  flex : Fin 65536
  load : Int
  hDis : Int
  hChg : Int
  target : Int
  grid : Int
  alarm : Fin 65536
  members : List (Int × Int × Nat × Nat × Nat)
  deriving DecidableEq, Repr

/-- Why a path is down (R334). -/
inductive PathCause
  | noLock | los | txFault | missing
  deriving DecidableEq, Repr

/-! ### Larkspur -/

/-- A thread of a logical core (R341, R343). -/
structure ThrNo where
  die : Fin 2
  core : Fin 64
  thr : Fin 128
  deriving DecidableEq, Repr

/-- The element formats of R353 and R354. -/
inductive LFmt
  | fp32 | bf16 | fp16 | e4m3 | e5m2 | e3m2 | e2m3 | e2m1 | int8 | int4 | q131
  deriving DecidableEq, Repr

/-- The rounding modes of R356. -/
inductive RMode
  | rne | rz | rna | sr
  deriving DecidableEq, Repr

/-- A matrix instruction (R349): engine and accumulator set, the formats, K, the addresses in the core's own SRAM of A (32 rows of K
elements), of B (K rows of 32) and of their scales, A's by row and block, B's by column and block (R355; DESIGN CHOICE, log 72), and the SRAM address
to which the tile is written out. -/
structure TileIn where
  at_ : ThrNo
  engine : Fin 8
  set_ : Fin 2
  fa : LFmt
  fb : LFmt
  k : Nat
  a : Nat
  b : Nat
  sa : Option Nat
  sb : Option Nat
  out : Option Nat
  deriving DecidableEq, Repr

/-- A vector multiply-add d = a × b + c over n lanes, one element a register (R352). -/
structure VecIn where
  at_ : ThrNo
  fmt : LFmt
  n : Fin 65
  a : Fin 256
  b : Fin 256
  c : Fin 256
  d : Fin 256
  mode : RMode
  deriving DecidableEq, Repr

/-- A conversion of n elements, one a register (R355 to R357), with the registers of the source's block
scale and of the target's. -/
structure ConvIn where
  at_ : ThrNo
  n : Fin 33
  src : Fin 256
  dst : Fin 256
  from_ : LFmt
  to_ : LFmt
  mode : RMode
  sat : Bool
  srcScale : Option (Fin 256)
  dstScale : Option (Fin 256)
  deriving DecidableEq, Repr

/-- The transcendental functions of R352. -/
inductive TransFn
  | recip | rsqrt | exp2 | log2 | sin | cos | tanh | sigmoid | erf
  deriving DecidableEq, Repr

/-- What the memory's ECC finds on a read (R365). -/
inductive EccIn
  | clean | corrected | uncorrectable
  deriving DecidableEq, Repr

/-- An atomic operation (R347). -/
inductive AtomOp
  | add | min | max | swap | cas
  deriving DecidableEq, Repr

/-- What SFDP answers on the profile SPI (R59, R60): whether it could be read, the density in KiB, and the quad-enable bit, if
the device has one: the status-read instruction that names it and its value. -/
structure Sfdp where
  ok : Bool
  kib : Nat
  quadEnable : Option (Fin 256 × Bool)
  deriving DecidableEq, Repr

/-- The scope of a memory fence (R346). -/
inductive Scope
  | core | die | system
  deriving DecidableEq, Repr

end Sys2Proof
end

