-- ==== Sys2Proof/Syntax.lean ====
section
/-! DEFINITION. The commands: one constructor for every row of spec/opcode_table.json, with the values that the command brings
from outside the block (a register value, a reading, the number of a unit). The commands with operands stand first, then those
without, each in the table's order: so ordered, Lean's compiler runs them all. -/

namespace Sys2Proof

/-- What the host, the pins, the other agents and the engines that tick ask of the module; each is whole and indivisible. -/
inductive Instr
  /-- REGISTER_WRITE (R15). A host write to a BAR0 register that has no row of its own, which takes effect field by field under each field's access code. -/
  | registerWrite (byTack : Bool) (a : Fin 67108864) (be : Fin 16) (v : Word)
  /-- LOW_WORD_READ (R18). A read of the low word of a 64-bit value latches the high word for that requester; `be` are the
  byte enables of the read (R13). -/
  | lowWordRead (who : Fin 256) (a : Fin 67108864) (be : Fin 16)
  /-- VIN_START (R70). VIN rises through the start threshold: DOWN to PASSIVE, the always-on domain starts and the boot ROM begins reading the profile. -/
  | vinStart (conn : Word)
  /-- INPUT_OV_LOCKOUT (R33). The input rises above 63.0 V: the converter stops, 0x010F is logged on the hold-up and DOWN follows. -/
  | inputOvLockout (vin : Nat)
  /-- INPUT_OV_RESTART (R33). After an input over-voltage lockout, the input falls below 61.0 V and the converter restarts. -/
  | inputOvRestart (conn : Word)
  /-- WRITE_FENCE_WARNING (R299). VIN falls through 44.0 V: WARN is set, a journal entry and a control block are triggered, and the MRAM path turns P0-only. -/
  | writeFenceWarning (vin : Nat)
  /-- WRITE_FENCE (R299). VIN falls through the write fence: FENCE is set and no MRAM write starts afterwards. -/
  | writeFence (busy : MramBusy)
  /-- MEZ_PRES_CHANGE (R44). MEZ_PRES_N changes: outside PASSIVE, BRD_DRV_EN of the connector goes low and 0x0109 is raised; in PASSIVE the change is only recorded. -/
  | mezPresChange (n : Fin 4) (present : Bool) (idOk : Bool)
  /-- SFP_INSERTION (R50). An SFP28 module is inserted and its SFF-8472 pages A0h and A2h are read. -/
  | sfpInsertion (p : Fin 2)
  /-- PROFILE_READ_COMPLETE (R77). The boot ROM finishes reading the profile, checks it in the order of R77, sets BOOT_STATUS.PROFILE and releases the SPI bus. -/
  | profileReadComplete (d : Sfdp) (b : List Byte)
  /-- FETCH_COMPLETION_ERROR (R87). An unsuccessful, poisoned or timed-out completion during FETCHING rejects the bundle with ERR_CODE 0x11. -/
  | fetchCompletionError (info : Fin 65536)
  /-- BUNDLE_FETCH_COMPLETE (R87). The bundle fetch ends and BUNDLE moves to VERIFYING. -/
  | bundleFetchComplete (bytes : List Byte)
  /-- ARM_FIRST_STEP (R93). With no blocker of R508 active, arming runs the mezzanine checks, the PMBus identity reads and the IOUT_OC_FAULT_RESPONSE writes. -/
  | armFirstStep (ids : List RectId)
  /-- ARM_ISO_REQUEST (R93). |VNODE − VBUS| ≤ 1.0 V, so ISO_EN is requested high. -/
  | armIsoRequest (vnode : Nat) (vbus : Nat)
  /-- SVN_FUSE_REQUEST (R99). A SEC_SVN_CTRL write with KEY 0x5A starts blowing ROLLBACK bits up to TARGET, or is ignored and recorded. -/
  | svnFuseRequest (v : Word)
  /-- MAIN_SRC_SELECT (R111). A CLK_SRC_SEL.MAIN_SRC write starts a glitch-free switch of the main bus, or is refused. -/
  | mainSrcSelect (v : Word)
  /-- AON_SRC_SELECT (R112). A CLK_SRC_SEL.AON_SRC write moves the always-on domain to SIRC or XTAL-B and clears AON_FIRC. -/
  | aonSrcSelect (v : Word)
  /-- PLL_REF_CHANGE (R506). A change of PLL_REF moves the control domain to FIRC, stops Larkspur issue, puts memories into self-refresh and relocks the PLLs. -/
  | pllRefChange (v : Word)
  /-- SOURCE_READY (R107). A source or PLL completes its qualification time and its CLK_READY bit sets. -/
  | sourceReady (b : Fin 8)
  /-- CLOCK_LOSS_FORCING (R129). A forcing clock loss is declared: the gates are forced off, isolation opens, TX_DISABLE is set, pumps run full and clock-hold starts. -/
  | clockLossForcing (b : Fin 8)
  /-- CLOCK_LOSS_NONFORCING (R128). A non-forcing clock loss is declared, its LOSS bit is set and 0x0602 is recorded. -/
  | clockLossNonforcing (b : Fin 8)
  /-- FMEAS_START (R136). CLK_FMEAS_CTRL.START starts or restarts a frequency measurement, or sets ERR. -/
  | fmeasStart (dut : Fin 16) (ref : Fin 16)
  /-- FMEAS_DONE (R136). The measurement gate ends: the count is valid and DONE is set. -/
  | fmeasDone (count : Nat)
  /-- POWER_MODE_SELECT (R121). A PWR_CTRL.MODE write selects Run or Sleep and applies once any transition in progress is complete. -/
  | powerModeSelect (m : Bool)
  /-- WAKE_SOURCE_FIRED (R124). An enabled wake source fires and Deep-sleep ends along the wake sequence. -/
  | wakeSourceFired (b : Fin 5)
  /-- BAR2_WAKE_LATCH_EXPIRY (R125). After 10 ms without a BAR2 access to a memory domain, its BAR2 wake latch clears. -/
  | bar2WakeLatchExpiry (m : Fin 4)
  /-- SWITCHING_CYCLE_START (R139). A channel's cycle starts: the synchronous switch turns off, the latest reference is loaded, and the direction, diode emulation and state changes are applied. -/
  | switchingCycleStart (n : ChanNo) (iAvg : Int)
  /-- PEAK_COMPARATOR_TRIP (R137). The peak comparator trips and the control switch turns off. -/
  | peakComparatorTrip (n : ChanNo) (isns : Int) (left : Nat)
  /-- BLANKING_END (R140). Leading-edge blanking ends and a trip seen inside it takes effect. -/
  | blankingEnd (n : ChanNo) (isns : Int) (left : Nat)
  /-- LATEST_TURN_OFF (R140). 60 ns before the next cycle start, the control switch turns off whatever the comparator shows. -/
  | latestTurnOff (n : ChanNo) (isns : Int)
  /-- DEAD_TIME_EXPIRY (R137). One dead time after a switch turns off, the other switch turns on. -/
  | deadTimeExpiry (n : ChanNo)
  /-- ZERO_CURRENT_DETECT (R146). In diode emulation, the inductor current reaches zero and the synchronous switch turns off. -/
  | zeroCurrentDetect (n : ChanNo)
  /-- PEAK_LIMIT_TRIP (R163). The cycle-by-cycle limit trips: the control switch is off for the rest of the cycle and the cycle counts as limited. -/
  | peakLimitTrip (n : ChanNo) (isns : Int) (left : Nat)
  /-- HICCUP_OFF_EXPIRY (R164). OFF_MS after a hiccup, the group retries: the restart sequence, then a soft ramp. -/
  | hiccupOffExpiry (g : GrpNo)
  /-- HICCUP_RETRY_COMPLETE (R164). The retry's 3 + SOFT_CYCLES cycles pass without a new hiccup and the group returns to RUN. -/
  | hiccupRetryComplete (g : GrpNo)
  /-- RUN_CLEAR_EXPIRY (R165). After RUN_CLEAR × 10 ms without a hiccup, RETRIES_USED returns to 0. -/
  | runClearExpiry (g : GrpNo)
  /-- STEP_EVENT (R153). A step event reaches Harness: shedding ends, shed channels restart, ABORTED and STEP_ADD are set, and shed slots are suspended for HOLD_MS. -/
  | stepEvent (xs : Strings)
  /-- STEP_HOLD_EXPIRY (R153). HOLD_MS after the last step event, the shed slots resume. -/
  | stepHoldExpiry (x : StrNo)
  /-- FLT_N_LOW (R166). FLT_N goes low: the channel's gates turn off, it enters FAULTED, and an F1 event and a last-fault record follow. -/
  | fltNLow (n : ChanNo)
  /-- STAGE_TEMP_CHECK (R166). The 10 µs comparison of each channel's temperature with T_WARN and T_TRIP sheds or faults the channel. -/
  | stageTempCheck (n : ChanNo) (temp : Int)
  /-- FAULTED_CHANNEL_RETURN (R166). A FAULTED channel returns to SHED once FLT_N is high, its temperature is below T_WARN and the host has cleared its fault bits. -/
  | faultedChannelReturn (n : ChanNo)
  /-- SYNC_EDGE (R159). A SYNC_IN rising edge is accepted or rejected against ±10 % of PERIOD; acquisition and lock follow. -/
  | syncEdge (interval : Nat) (phase : Nat)
  /-- SYNC_SRC_SELECT (R162). A SYNC_SRC write acts as an immediate loss of the old source, or is refused for the fabric source. -/
  | syncSrcSelect (src : Fin 4)
  /-- OVER_VOLTAGE_DECLARED (R167). VNODE has been at or above OV_THRESH for 200 ns: every gate goes low, ISO_EN falls and 0x0103 is raised to Bridle. -/
  | overVoltageDeclared (vnode : Nat)
  /-- OV_LOW_SWITCH_LATCH (R167). After ISO_FB falls, each channel that was active latches its low switch on after its group's dead time. -/
  | ovLowSwitchLatch (n : ChanNo)
  /-- OV_CLEAR (R169). HRN_OV_CTRL.CLEAR releases the over-voltage latch, or is refused while VNODE ≥ OV_THRESH. -/
  | ovClear (vnode : Nat)
  /-- GROUP_ENABLE (R426). HRN_GRP_CTRL.ENABLE written 1 returns the group's channels to SHED, or is held pending within MIN_OFF_MS. -/
  | groupEnable (g : GrpNo)
  /-- GROUP_DISABLE (R148). HRN_GRP_CTRL.ENABLE written 0 sheds the group's channels and then takes them to OFF. -/
  | groupDisable (g : GrpNo)
  /-- FORCE_SHED_WRITE (R176). A write of HRN_CH_CTRL.FORCE_SHED sheds the channel and stops adding it, or lets it return. -/
  | forceShedWrite (n : ChanNo) (v : Bool)
  /-- PENDING_ENABLE_EXPIRY (R425). MIN_OFF_MS after a function reached OFF, its pending enable starts it. -/
  | pendingEnableExpiry (p : Pending)
  /-- REIN_SAMPLE (R189). At each 1 µs tick, Rein captures measurements, computes the due cascades, forms and splits the total command and delivers group references. -/
  | reinSample (i : SampleIn)
  /-- FOLLOWING_ERROR_TRIP (R206). A cascade's following-error count reaches FE_TIME: FE_TRIP is set and the fault of class FE_CLASS is raised. -/
  | followingErrorTrip (c : CasNo)
  /-- CASCADE_ENABLE (R200). REIN_CAS_CTRL.ENABLE written 1 starts the cascade in an armed state, or is held pending while it stops. -/
  | cascadeEnable (c : CasNo)
  /-- CASCADE_DISABLE (R200). REIN_CAS_CTRL.ENABLE written 0 moves the cascade to STOPPING, which ramps it to its stop value. -/
  | cascadeDisable (c : CasNo)
  /-- BANK_SWITCH (R204). A change of BANK_SEL switches the active bank at the next due sample, copying states when INIT_COPY is 1. -/
  | bankSwitch (c : CasNo) (b : Bool)
  /-- CASCADE_HOLD (R205). HOLD set freezes the cascade's sections and output, or is refused for DEST 0x1 and 0x4 while armed. -/
  | cascadeHold (c : CasNo)
  /-- CASCADE_HOLD_CLEAR (R205). HOLD cleared resumes the cascade's sections from their frozen states. -/
  | cascadeHoldClear (c : CasNo)
  /-- COEFFICIENT_WRITE (R202). A write of a section coefficient or SHIFT takes effect at the next sample, word by word (KL-01). -/
  | coefficientWrite (k : Fin 64) (word : Fin 6) (v : Word)
  /-- SECTION_STATE_WRITE (R202). A write to a section state word, refused for a section in the active bank of a running cascade. -/
  | sectionStateWrite (k : Fin 64) (word : Fin 4) (v : Word)
  /-- MAP_WRITE (R203). A write of bank map words or LEN, refused for the active bank or for a conflicting section. -/
  | mapWrite (c : CasNo) (w : MapWrite)
  /-- CAS_SRC_WRITE (R186). A REIN_CAS_SRC write, refused when it would make a second DEST 0x1 or DEST 0x4 cascade. -/
  | casSrcWrite (c : CasNo) (v : Word)
  /-- L1_SLOT (R55). The 1 ms L1 slot runs the six limit writes, any ramp-rate write, then an alert service or a rotating read. -/
  | l1Slot (i : L1In)
  /-- PMBUS_CLEAR_FAULTS (R54). The CLEAR_FAULTS send-byte is sent on a host request. -/
  | pmbusClearFaults (r : Fin 6)
  /-- TUNE_START (R208). REIN_TUNE_CTRL.START starts a relay auto-tune, makes it PENDING, or refuses it. -/
  | tuneStart (c : CasNo)
  /-- SPUR_HINT (R222). A valid hint frame is received: its status is decided, it is acknowledged, and it enters the hint table and raises a step event. -/
  | spurHint (i : HintIn)
  /-- SPUR_CANCEL (R232). A valid cancel frame withdraws the named hint and reverses what it applied. -/
  | spurCancel (i : CancelIn)
  /-- SPUR_INVALID_FRAME (R218). A frame with a code, delimiter, TYPE, CRC or gap error is discarded, counted and not acknowledged. -/
  | spurInvalidFrame (lane : Fin 2) (gap : Bool)
  /-- HINT_EXPIRY (R224). The current step passes the end of a hint's effect and the hint leaves the table. -/
  | hintExpiry (i : Fin 32)
  /-- HEAD_STEP_WRITE (R226). A write of FCST_STR_HEAD_LO applies HEAD_STEP, or refuses it more than 4,096 steps ahead. -/
  | headStepWrite (x : Fin 16) (lo : Word)
  /-- QUIET_UNTIL_WRITE (R237). A stream writes QUIET_UNTIL and declares, extends or shortens a quiet window. -/
  | quietUntilWrite (x : Fin 16) (v : Word64)
  /-- SWEEP_START (R257). Every 1 ms, a SWEEP frame leaves end 1 of each enumerated ring, and VSTR is sampled. -/
  | sweepStart (vstrA : Nat) (vstrB : Nat)
  /-- SWEEP_COMPLETE (R257). The sweep frame returns: the cell window, flags, sum check, limit checks and candidate checks are updated and conditions raised. -/
  | sweepComplete (x : StrNo) (i : SweepIn)
  /-- BREAK_DETECT (R264). No start delimiter reaches end 2 by t0 + 20 µs, so a break is declared and a completion from end 2 starts. -/
  | breakDetect (x : StrNo) (i : SweepIn)
  /-- READ_HELD_COMPLETE (R264). After a break during a sweep, READ_HELD frames from both ends complete the sweep with held samples. -/
  | readHeldComplete (x : StrNo) (i : SweepIn)
  /-- ENUM (R254). RING_CTRL.ENUM_A or ENUM_B starts enumeration in PASSIVE or ISOLATED, or is refused. -/
  | enum (x : StrNo)
  /-- ENUM_ASSIGN_RETURN (R254). ENUM_ASSIGN arrives at end 2 and its counter is checked; ENUM_VERIFY is then sent. -/
  | enumAssignReturn (x : StrNo) (counter : Fin 256) (recs : List EnumRec)
  /-- ENUM_VERIFY_RETURN (R254). ENUM_VERIFY arrives at end 1 and its records are checked against the assignment. -/
  | enumVerifyReturn (x : StrNo) (recs : List EnumRec)
  /-- ENUM_FRAME_TIMEOUT (R255). An enumeration frame does not return within 2 ms and enumeration fails with cause 4. -/
  | enumFrameTimeout (x : StrNo)
  /-- BAL_CMD (R272). A RING_BAL_CMD write queues a balancing entry, or is refused with a cause. -/
  | balCmd (v : Word)
  /-- OPEN_WIRE_START (R269). RING_OW_CTRL.START queues a host open-wire test of one wire. -/
  | openWireStart (x : StrNo) (m : Fin 4) (w : Fin 16)
  /-- OPEN_WIRE_AUTO (R269). Every OW_PERIOD seconds with OW_AUTO at 1, the next inner wire is tested. -/
  | openWireAuto (x : StrNo)
  /-- CORNER_WRITE (R260). A CORNER write is broadcast as CONFIG and pauses the candidate checks for 25 ms. -/
  | cornerWrite (v : Fin 8)
  /-- SWAP_REQUEST (R274). Remount requests a cell swap: both roles become SWITCHING and balancing stops, or the swap is refused. -/
  | swapRequest (x : StrNo) (i : Fin 52) (o : Fin 52)
  /-- SWAP_BREAK (R274). With zero current held for 1 ms, the BYPASS frame opens IN's bypass switch and OUT's cell switch. -/
  | swapBreak (x : StrNo)
  /-- SWAP_WAIT_TIMEOUT (R274). The zero-current condition is not met within 100 ms and the swap ends FAILED with cause 1. -/
  | swapWaitTimeout (x : StrNo)
  /-- SWAP_MAKE (R274). 500 µs after the break, IN's cell switch and OUT's bypass switch close. -/
  | swapMake (x : StrNo)
  /-- ESTIMATOR_RUN (R278). After each sweep, the cell estimates, SoC, capacity and headroom are updated and land in the EST registers. -/
  | estimatorRun (x : StrNo)
  /-- REST_CHECK (R289). Once per second, a due string is checked and a rest starts, or SKIPPED increments. -/
  | restCheck
  /-- JOURNAL_WRITE_COMPLETE (R296). A journal entry finishes writing and is read back; a mismatch rewrites it into the next slot. -/
  | journalWriteComplete (mismatch : Bool)
  /-- EFC_WRITE (R298). A host write of EST_x_EFC sets the cycle count and clears NO_JOURNAL. -/
  | efcWrite (x : StrNo) (v : Word)
  /-- SYNC_SEND (R318). At tick 0, the hall lead sends SYNC with H and the team targets on each path. -/
  | syncSend (tx0 : Nat) (tx1 : Nat)
  /-- DELAY_REQ_SEND (R315). In a designated frame, the module sends DELAY_REQ to the hall lead on a path. -/
  | delayReqSend (p : Fin 2) (t3 : Nat)
  /-- SYNC_RECEIVED (R314). A SYNC copy is received, stamped, used for the offset sample, and accepted or discarded. -/
  | syncReceived (i : SyncIn)
  /-- SHARE_RECEIVED (R325). A SHARE from a team member is accepted, updating liveness and passing on any alarm. -/
  | shareReceived (i : ShareIn)
  /-- TEAM_SUMMARY_RECEIVED (R332). A TEAM_SUMMARY is accepted and followed by epoch; a losing lead stops its lead records. -/
  | teamSummaryReceived (i : SummIn)
  /-- DELAY_REQ_RECEIVED (R315). The hall lead receives a DELAY_REQ and queues a DELAY_RESP for tick 700. -/
  | delayReqReceived (h : FabHdr) (t3 : Nat)
  /-- DELAY_RESP_RECEIVED (R314). A DELAY_RESP gives the path delay d. -/
  | delayRespReceived (h : FabHdr) (reqSeq : Word) (t4 : Nat)
  /-- BULK_FRAME_RECEIVED (R404). A bulk frame is checked and its chunk is taken into the fleet round, or it is discarded. -/
  | bulkFrameReceived (i : BulkIn)
  /-- OFFSET_ESTIMATE (R314). At the end of each 16-frame block, the path offset estimate is formed and the shelf-time rate is steered. -/
  | offsetEstimate (p : Fin 2)
  /-- LEAD_FAILURE (R331). No record of a lead for 3 frames: the successor is found, and takes over if it is this module. -/
  | leadFailure (hall : Bool)
  /-- PATH_DOWN (R334). A path loses block lock, reports LOS or fault, or misses SYNC for 3 frames, so ALARM is set and 0x0701 is raised. -/
  | pathDown (p : Fin 2) (c : PathCause)
  /-- MATRIX_TILE (R349). A matrix instruction accumulates a 32 × K by K × 32 tile into one engine's accumulator. -/
  | matrixTile (i : TileIn)
  /-- VECTOR_OP (R352). A vector multiply-add or format operation on the vector unit. -/
  | vectorOp (i : VecIn)
  /-- TRANSCENDENTAL (R352). A transcendental function evaluated within its error bound. -/
  | transcendental (a : ThrNo) (f : TransFn) (src : Fin 256) (dst : Fin 256)
  /-- CONVERSION (R357). A format conversion with the named rounding mode and the saturation rules. -/
  | conversion (i : ConvIn)
  /-- THREAD_LOAD (R345). A thread load that holds a scoreboard entry until its data returns. -/
  | threadLoad (a : ThrNo) (rd : Fin 256) (addr : Nat) (k : Fin 8) (ecc : EccIn)
  /-- THREAD_STORE (R346). A thread store that holds a scoreboard entry until acknowledged. -/
  | threadStore (a : ThrNo) (rs : Fin 256) (addr : Nat) (k : Fin 8)
  /-- ATOMIC (R347). An atomic add, min, max, swap or compare-and-swap, serialised with the others. -/
  | atomic (a : ThrNo) (op : AtomOp) (wide : Bool) (signed : Bool) (addr : Nat) (rs : Fin 256) (rc : Fin 256) (rd : Fin 256)
  /-- MEMORY_FENCE (R346). A fence of scope CORE, DIE or SYSTEM holds later memory operations until the earlier ones are visible. -/
  | memoryFence (a : ThrNo) (scope : Scope)
  /-- POWER_CAP_TICK (R361). Every 10 µs, each die compares its power with CAP_EFF and moves HOST_DUTY or FCST_DUTY. -/
  | powerCapTick (d : Fin 2) (power : Nat) (env : Nat)
  /-- HOST_CORE_SUSPEND (R362). HOST_DUTY at 0 for 1 ms with the cap still exceeded suspends the host-partition cores. -/
  | hostCoreSuspend (d : Fin 2)
  /-- HOST_CORE_RESUME (R362). After 10 ms of 20 % margin, suspended cores are restored. -/
  | hostCoreResume (d : Fin 2)
  /-- SRAM_SCRUB (R365). Every 10 s, a clocked core's SRAM is scrubbed and its errors are counted or the core fails. -/
  | sramScrub (d : Fin 2) (c : Fin 64) (ce : Fin 256) (ue : Bool)
  /-- TIER_START (R367). LKS_TIER_CTRL.START starts a tiering copy, or refuses it with a cause. -/
  | tierStart (d : Fin 2) (ch : Fin 2) (byTack : Bool)
  /-- TIER_ABORT (R368). LKS_TIER_CTRL.ABORT stops the copy within 10 µs and unfences the destination. -/
  | tierAbort (d : Fin 2) (ch : Fin 2) (byTack : Bool)
  /-- TIER_COPY_COMPLETE (R368). A tiering copy ends DONE, DIRTY or ERROR after any recopy. -/
  | tierCopyComplete (d : Fin 2) (ch : Fin 2) (again : Bool)
  /-- CORE_WAKE_COMPLETE (R373). 8 µs after its gate opens, a waking core becomes IDLE. -/
  | coreWakeComplete (d : Fin 2) (c : Fin 64)
  /-- CORE_DRAIN_COMPLETE (R373). The last thread of a draining core ends and the core enters RETENTION. -/
  | coreDrainComplete (d : Fin 2) (c : Fin 64)
  /-- CORE_FAILURE (R373). An uncorrectable error in a core's logic or SRAM takes the core to FAILED, reported to Remount. -/
  | coreFailure (d : Fin 2) (c : Fin 64)
  /-- CORE_COPY_COMPLETE (R374). The core SRAM copy to the spare ends, the mapping changes and the old core is retired. -/
  | coreCopyComplete (d : Fin 2) (c : Fin 64)
  /-- BAR2_ACCESS (R380). A BAR2 read or write is mapped through its window and the fence, or treated as unmapped. -/
  | bar2Access (off : Nat) (n : Fin 65) (data : Option (List Byte))
  /-- SUBMISSION_DOORBELL (R385). A write of a queue's submission tail makes the module fetch commands, or sets DB_ERR. -/
  | submissionDoorbell (d : Fin 2) (q : Fin 64) (v : Word) (byTack : Bool) (fetchFails : Bool)
  /-- COMPLETION_DOORBELL (R387). A write of a queue's completion head frees ring space and resumes a held queue. -/
  | completionDoorbell (d : Fin 2) (q : Fin 64) (v : Word) (byTack : Bool)
  /-- LAUNCH (R384). A LAUNCH command describes a job to run on the cores of its mask. -/
  | launch (d : Fin 2) (q : Fin 64) (c : SqCmd)
  /-- BARRIER (R384). A BARRIER command completes once every earlier command of the queue has completed. -/
  | barrier (d : Fin 2) (q : Fin 64) (c : SqCmd)
  /-- WAKE (R384). A WAKE command opens the named cores' gates and completes when they are IDLE. -/
  | wake (d : Fin 2) (q : Fin 64) (c : SqCmd)
  /-- SLEEP (R384). A SLEEP command closes the named cores' gates and completes at RETENTION. -/
  | sleep (d : Fin 2) (q : Fin 64) (c : SqCmd)
  /-- NOP (R384). A NOP command completes at once. -/
  | nop (d : Fin 2) (q : Fin 64) (c : SqCmd)
  /-- BAD_COMMAND (R383). A command with an unknown opcode completes as BAD_COMMAND. -/
  | badCommand (d : Fin 2) (q : Fin 64) (op : Fin 256) (c : SqCmd)
  /-- JOB_DISPATCH (R388). Every core of a ready job's mask is free, so the job dispatches, waking cores and loading its image. -/
  | jobDispatch (d : Fin 2) (q : Fin 64)
  /-- JOB_END (R390). A job's last thread ends, or it stops on a fault, and its completion record and MSI-X are written. -/
  | jobEnd (d : Fin 2) (q : Fin 64) (tag : Word)
  /-- JOB_TIMEOUT (R390). RUN_US reaches TIMEOUT_US and the job stops and completes TIMEOUT. -/
  | jobTimeout (d : Fin 2) (q : Fin 64) (tag : Word)
  /-- QUEUE_ABORT (R391). LKS_Q_CTRL.ABORT stops the queue's jobs and completes its pending commands ABORTED. -/
  | queueAbort (d : Fin 2) (q : Fin 64) (rest : List (Word × Bool)) (byTack : Bool)
  /-- CORE_IDLE_TIMEOUT (R392). A core IDLE for IDLE_US has its gate closed. -/
  | coreIdleTimeout (d : Fin 2) (c : Fin 64)
  /-- CANDIDATE_JUDGED (R399). Evaluation ends, RESULT is set, and the candidate is promoted when AUTO_PROMOTE is set and it passes. -/
  | candidateJudged (i : JudgeIn)
  /-- FLEET_ROUND_START (R402). At frame k × ROUND_FRAMES, a member contributes its update to the ring all-reduce. -/
  | fleetRoundStart (own : List Word) (count : Fin 513)
  /-- BUS_OVER_VOLTAGE (R415). VBUS at or above BUS_OV for 1 µs raises 0x0101. -/
  | busOverVoltage (vbus : Nat)
  /-- BUS_UNDER_VOLTAGE (R415). VBUS below BUS_UV for 200 µs while armed raises 0x0102. -/
  | busUnderVoltage (vbus : Nat)
  /-- STRING_OVER_VOLTAGE (R415). VSTR above STR_OV for 100 µs raises 0x0401. -/
  | stringOverVoltage (x : StrNo) (v : Nat)
  /-- STRING_UNDER_VOLTAGE (R415). VSTR below STR_UV for 100 µs with the contactor closed raises 0x0402. -/
  | stringUnderVoltage (x : StrNo) (v : Nat)
  /-- TEMPERATURE_TRIP (R415). A junction, board or cold-plate temperature above its limit raises 0x0506 to 0x0509. -/
  | temperatureTrip (k : Fin 4) (t : Fin 256)
  /-- FEEDBACK_MISMATCH (R415). An isolation or contactor feedback misses its limit or changes with its enable steady. -/
  | feedbackMismatch (k : FbKind)
  /-- FAULT_CONDITION_CLEAR (R415). A level condition's measured value returns within its threshold and the code clears. -/
  | faultConditionClear (code : Fin 65536) (idx : Fin 256) (v : Nat)
  /-- CONTACTOR_OPEN_LOW_CURRENT (R413). The string current falls to 20 A or below, or 200 µs pass, and CONT_x_EN falls. -/
  | contactorOpenLowCurrent (x : StrNo)
  /-- FIRMWARE_RESTART_COMPLETE (R420). The restarted control firmware runs, or the digest check fails and the shelf latches. -/
  | firmwareRestartComplete (ok : Bool)
  /-- PUMP_LOSS (R429). A fitted pump's tach stays below TACH_MIN for 1 s: 0x0501 or 0x0502 derates, and 0x0503 follows for the last pump. -/
  | pumpLoss (p : Fin 2) (pulses : Nat)
  /-- FLOW_LOW (R429). Flow below FLOW_MIN, or FLOW_MIN / 2, for 2 s raises 0x0504 or 0x0503. -/
  | flowLow (pulses : Nat)
  /-- INLET_HIGH (R429). T_IN above 45 °C for 1 s raises 0x0505. -/
  | inletHigh (t : Fin 256)
  /-- COOLING_CLEAR (R429). A cooling condition has been absent for 10 s and its code clears. -/
  | coolingClear (k : Fin 5)
  /-- PUMP_DUTY_UPDATE (R509). Once per second, the pump duty and the cooling-curve values are recomputed. -/
  | pumpDutyUpdate (tIn : Fin 256) (tOut : Int)
  /-- STRING_RETURN (R507). A string held by STR_OUT meets its return conditions, its contactor is closed, and FORCE_SHED clears on feedback. -/
  | stringReturn (x : StrNo)
  /-- FIRMWARE_CLOSE_REQUEST (R25). Tack firmware asks Bridle to close the isolation or a contactor; Bridle closes it, or refuses while a protection condition is active. -/
  | firmwareCloseRequest (w : Fin 3)
  /-- MRAM_RECORD_WRITE (R442). The MRAM writer finishes writing a Saddlebag record into the ring or a pinned slot. -/
  | mramRecordWrite (mismatch : Bool)
  /-- SNAPSHOT_COMPLETE (R447). A list's snapshot reads finish and its SNAPSHOT record is made. -/
  | snapshotComplete (l : Fin 16) (start : Word) (stop : Word)
  /-- SBG_TRIG (R446). An SBG_TRIG bit fires list l when its TKIND is 4. -/
  | sbgTrig (l : Fin 16)
  /-- INC_KEEP_WRITE (R443). A write of SBG_INC_KEEP marks slots kept and writes the control block. -/
  | incKeepWrite (v : Fin 65536)
  /-- GAP_RECORD_DUE (R451). A pending GAP record is written when its path returns to NORMAL or 1 ms after it opened. -/
  | gapRecordDue (i : Fin 5)
  /-- HOST_RING_RECORD_WRITE (R452). A record is written to a host trace ring, with its tail write-back and any MSI-X. -/
  | hostRingRecordWrite (r : Fin 4) (fail : Bool)
  /-- TEL_HEAD_WRITE (R452). The host writes TEL_R_HEAD and frees ring space, ending a full hold. -/
  | telHeadWrite (r : Fin 4) (v : Word)
  /-- HOST_RING_HOLD_END (R453). A hold ends and the held records are delivered, then the GAP record, then new records. -/
  | hostRingHoldEnd (r : Fin 4)
  /-- SUBSTITUTION_TRIGGER (R462). A part meets its wear or failure trigger and its kind goes to WAIT or DUE. -/
  | substitutionTrigger (i : TrigIn)
  /-- RMT_REQ (R462). A host RMT_REQ starts a substitution for a part, or is refused. -/
  | rmtReq (v : Word)
  /-- RMT_CANCEL (R462). RMT_CTRL.CANCEL ends a kind's WAIT as CANCELLED. -/
  | rmtCancel (k : Fin 10)
  /-- RMT_RETIRE (R475). RMT_RETIRE in PASSIVE marks a channel or cell position retired. -/
  | rmtRetire (v : Word)
  /-- SUBSTITUTION_GATE_MET (R462). A waiting substitution's gate is met and its owning mechanism runs. -/
  | substitutionGateMet (k : Fin 10)
  /-- SUBSTITUTION_SWITCH_COMPLETE (R462). The owning mechanism completes, or reports failure, and the substitution moves to VERIFY or FAILED. -/
  | substitutionSwitchComplete (k : Fin 10) (e : SwEnd)
  /-- SUBSTITUTION_VERIFY (R462). The verify check ends the substitution DONE or FAILED and writes the log. -/
  | substitutionVerify (k : Fin 10) (ok : Bool)
  /-- INPUT_TEST (R458). Once per second, each measurement input is tested against an injected reference. -/
  | inputTest (b : Fin 8) (i : Fin 28) (dev : Nat)
  /-- TACK_CORE_FAILURE (R468). A Tack real-time core fails and its logical core moves to the spare within 10 µs. -/
  | tackCoreFailure (c : Fin 4)
  /-- MSIX_UNMASK (R498). Unmasking a vector, or a return to D0, sends its held message. -/
  | msixUnmask (v : Fin 256) (addr : Word64) (data : Word)
  /-- PRECHARGE_NOT_REACHED (R427). The shelf node does not reach |VNODE − VBUS| ≤ 1.0 V within the precharge step of R93, so 0x010A (ERR_CODE 0x24) is raised and a soft-start abort runs. -/
  | prechargeNotReached (vnode : Nat) (vbus : Nat)
  /-- LARKSPUR_JUNCTION_HOT (R417). A Larkspur junction rises above 110 °C: 0x050A is logged, the die cap goes to 0 W, and on die 0 the forecast-loss row of R27 applies. -/
  | larkspurJunctionHot (d : Fin 2) (t : Fin 256)
  /-- LARKSPUR_JUNCTION_COOL (R417). A hot Larkspur junction falls below 100 °C and the 0 W die cap of 0x050A is lifted. -/
  | larkspurJunctionCool (d : Fin 2) (t : Fin 256)
  /-- SPUR_SYMBOL_LOCK (R241). A Spur receive lane gains or loses 8b/10b symbol lock, which updates SPUR_STATUS.LOCK and SYS_CONN_STATUS.SPUR_SIG and sets SYS_CONN_CHG. -/
  | spurSymbolLock (lane : Fin 2) (v : Bool)
  /-- CONNECTOR_PIN_CHANGE (R66). A monitored pin changes level (SMBALERT_N, ISO_FB or CONT_x_FB in normal operation, an SFP28 MOD_ABS removal, RX_LOS or TX_FAULT clearing, pump tach activity), so its SYS_CONN_CHG bit is set and vector 225 is raised. -/
  | connectorPinChange (bit : Fin 24) (v : Bool)
  /-- PCIE_LINK_UP (R37). PCIe link training completes and the function becomes ready, ending Configuration Request Retry Status. -/
  | pcieLinkUp (gen : Fin 6) (w : Fin 4)
  /-- PCIE_POWER_STATE_CHANGE (R121). The host moves the function between D0, D3hot and D3cold, or the link enters L1; this feeds the Deep-sleep conditions and host loss in D3cold, and releases held MSI-X messages on the return to D0. -/
  | pciePowerStateChange (m : PcieMove)
  /-- FCST_NAP_CHANGE (R239). Tack control firmware sets FCST_NAP when the quiet window ends at least NAP_MIN × 10 ms ahead and no hint has been accepted for 10 ms, and clears it when the end comes within 5 ms. -/
  | fcstNapChange (v : Bool)
  /-- LKS_WAKE_LATCH_CLEAR (R392). Every core of a Larkspur domain has been in RETENTION for IDLE_US, so Tack firmware clears that domain's wake latch and the domain gate may close. -/
  | lksWakeLatchClear (x : Fin 15)
  /-- VIN_CONVERTER_STOP (R70). VIN falls through the converter-stop threshold and the module goes to DOWN from any state. -/
  | vinConverterStop
  /-- FENCE_WARN_CLEAR (R299). VIN has stayed above 45.0 V for 10 ms, so WARN and FENCE clear. -/
  | fenceWarnClear
  /-- P0_ONLY_SPAN_END (R445). 10 ms after the write-fence warning without reaching the fence, the MRAM path accepts every priority again. -/
  | p0OnlySpanEnd
  /-- PERST_ASSERT (R38). PERST_N is asserted: the PCIe function and its host queues reset, any fetch aborts and MSI-X pending bits clear; control is unaffected. -/
  | perstAssert
  /-- PERST_DEASSERT (R37). PERST_N rises and link training starts once the profile read has ended. -/
  | perstDeassert
  /-- LINK_LOSS (R394). The PCIe link goes down: host queues are disabled, running host jobs stop, any fetch aborts and the host-loss rules apply. -/
  | linkLoss
  /-- SFP_PERIODIC_READ (R50). Once per second the SFF-8472 pages of each cage are read. -/
  | sfpPeriodicRead
  /-- LOAD (R88). BOOT_CTRL.LOAD: the LOAD is checked, the loaded set is discarded, BOOT_SRC_LEN is checked and the bundle fetch begins. -/
  | load
  /-- BUNDLE_VERIFY_COMPLETE (R83). Verification ends: the manifest, signature, SVN, variant, profile format and image digests have been checked, and the bundle goes to LOADING or REJECTED. -/
  | bundleVerifyComplete
  /-- BUNDLE_LOADED (R87). Loading ends: BUNDLE is LOADED, control firmware runs and the staging region returns to general use. -/
  | bundleLoaded
  /-- ARM (R70). BOOT_CTRL.ARM: arming starts from PASSIVE if a bundle is loaded and the profile is valid, becomes pending during a disarm, or is refused. -/
  | arm
  /-- DISARM (R97). BOOT_CTRL.DISARM starts the orderly stop: Rein ramps current to zero and L1 ramps to HANDOVER_LIMIT. -/
  | disarm
  /-- DISARM_COMPLETE (R97). The disarm ramps end: phases are shed, isolation and contactors open, PASSIVE is entered and a journal entry is written. -/
  | disarmComplete
  /-- CLEAR_LATCH (R424). BOOT_CTRL.CLEAR_LATCH leaves LATCHED for PASSIVE when no latched code is active, and is refused with 0x31 otherwise. -/
  | clearLatch
  /-- ARM_BLOCKER_TIMEOUT (R508). A blocker still active at t0 + 1 s ends the arming attempt with ERR_CODE 0x25 and BOOT_ERR_INFO 1. -/
  | armBlockerTimeout
  /-- ARM_CHECKS_PASSED (R93). The arming checks pass and ring enumeration of both strings starts. -/
  | armChecksPassed
  /-- ARM_CONTACTOR_REQUEST (R93). Both rings are enumerated: learned values are restored and CONT_A_EN and CONT_B_EN are requested high. -/
  | armContactorRequest
  /-- ARM_PRECHARGE_START (R93). Both contactor feedbacks are high: the Harness control clock starts and the phases precharge the shelf node. -/
  | armPrechargeStart
  /-- ARM_LOOPS_START (R93). ISO_FB is high: L0, L2 and L3 start, L1 starts at the next slot, the commit starts and the forecast partition wakes. -/
  | armLoopsStart
  /-- ARMED_REACHED (R93). Every cascade is within its following-error limit and, on F and H, one horizon has been forecast, so the shelf enters ARMED. -/
  | armedReached
  /-- ARMING_TIMEOUT (R93). ARMED is not reached by t0 + 1 s: the attempt aborts with 0x25, or raises 0x010D after the contactor request. -/
  | armingTimeout
  /-- ARM_RETRY (R96). Under the auto policy, RETRY_HOLD_S after a failed attempt, arming is retried and RETRIES_LEFT decrements. -/
  | armRetry
  /-- SVN_FUSE_BIT_BLOWN (R99). One ROLLBACK fuse bit finishes blowing; the next bit starts unless TARGET is reached or the write fence is set. -/
  | svnFuseBitBlown
  /-- ATTESTATION_REQUEST (R103). SEC_ATT_CTRL.REQ starts building a signed report, and the report window reads zero meanwhile. -/
  | attestationRequest
  /-- ATTESTATION_REPORT_DONE (R103). The report is complete: DONE is set, REQ is cleared and the attestation vector is raised. -/
  | attestationReportDone
  /-- PLL_REF_CHANGE_COMPLETE (R506). The relocked PLLs are ready, so the control domain and main bus return to PLL-CTL and the other domains resume. -/
  | pllRefChangeComplete
  /-- CLOCK_SWITCH_COMPLETE (R111). The multiplexer starts on the first full period of the new clock and SW_BUSY clears. -/
  | clockSwitchComplete
  /-- CLOCK_HOLD_CLEAR (R131). The failed source has been ready for 10 ms and its PLLs have relocked, so HOLD clears and re-arming may follow. -/
  | clockHoldClear
  /-- XTAL_B_START_TIMEOUT (R115). XTAL-B is not ready by t0 + 2 s: the always-on domain stays on SIRC and 0x0602 is raised. -/
  | xtalBStartTimeout
  /-- XTAL_A_START_TIMEOUT (R115). XTAL-A is not ready by t0 + 10 ms and this is treated as a clock-source failure in PASSIVE. -/
  | xtalAStartTimeout
  /-- DEEP_SLEEP_ENTRY (R121). The Deep-sleep conditions have held for DEEP_DWELL ms and the module enters Deep-sleep. -/
  | deepSleepEntry
  /-- WAKE_TIMER_EXPIRY (R123). PWR_WAKE_TIMER counts down to 0 and fires the TIMER wake source. -/
  | wakeTimerExpiry
  /-- DOMAIN_GATE_CHANGE (R120). A requested gate change takes effect once crossings are acknowledged and cores are idle; memories enter or leave self-refresh. -/
  | domainGateChange
  /-- SHED_ADD_SLOT (R150). Every two G0 cycles, each string's slot adds one channel, sheds one channel or does nothing. -/
  | shedAddSlot
  /-- SYNC_EDGE_MISSING (R159). An edge window closes without a valid edge, or a fabric cycle start finds TIME_HELD at 0, so a missing edge is counted. -/
  | syncEdgeMissing
  /-- OV_NO_ISO (R167). ISO_FB is still high at t0 + 5 µs: no low switch latches, NO_ISO is set and the channels go to SHED. -/
  | ovNoIso
  /-- OV_AUTO_RELEASE (R169). With AUTO at 1, VNODE has stayed below 5.0 V for AUTO_HOLD_MS and the latch releases. -/
  | ovAutoRelease
  /-- LAST_FAULT_RECORD_WRITE (R172). A queued 256-byte last-fault record finishes its MRAM write into the next slot. -/
  | lastFaultRecordWrite
  /-- TUNE_ABORT (R211). REIN_TUNE_CTRL.ABORT ends the running tune with CAUSE 5 and restarts the cascade. -/
  | tuneAbort
  /-- TUNE_TIME_LIMIT (R211). The tune's time limit is reached and it ends ABORTED with CAUSE 7. -/
  | tuneTimeLimit
  /-- CLR_LAT_MAX (R241). SPUR_CTRL.CLR_LAT_MAX clears the maximum of SPUR_ACK_LAT. -/
  | clrLatMax
  /-- COMMIT_STEP (R228). At each 10 µs step boundary, sample k + 50 is formed and edges are marked; the unannounced check, the quiet window and HR_REQ follow. -/
  | commitStep
  /-- HR_RELEASE (R234). HR_RELEASE_MS after the last clamp or excess, HR_REQ is released and the set-point returns along CAS_RAMP. -/
  | hrRelease
  /-- RING_HB_KICK (R251). A write to RING_HB_KICK lets MHB advance at the following sweeps. -/
  | ringHbKick
  /-- BAL_DISABLE (R276). BAL_EN written 0 sends OFF to every balancing position and refuses further commands. -/
  | balDisable
  /-- REST_NOW (R289). EST_CTRL.REST_NOW makes the string with the older reference due at once. -/
  | restNow
  /-- REST_SHED_COMPLETE (R290). The resting string's current has stayed within 2 A for 1 ms and it enters RESTING. -/
  | restShedComplete
  /-- REST_SHED_TIMEOUT (R291). The current condition is not met by t0 + 100 ms and the rest aborts with cause 4. -/
  | restShedTimeout
  /-- REST_AVERAGE_START (R290). 1.024 s before the end of the rest, averaging of the last 1,024 sweeps starts. -/
  | restAverageStart
  /-- REST_REFERENCE (R292). At t1 + REST_S the reference is taken, FORCE_SHED clears, the cascades are released and a journal entry is made. -/
  | restReference
  /-- REST_ABORT (R291). A rest condition fails and the rest aborts, undoing its holds within 20 µs. -/
  | restAbort
  /-- JOURNAL_PERIODIC (R295). 600 operating seconds since the last entry trigger a journal entry. -/
  | journalPeriodic
  /-- WRITE_NOW (R295). EST_JNL_CTRL.WRITE_NOW triggers a journal entry with CAUSE bit 6. -/
  | writeNow
  /-- SHARE_SEND (R319). At tick 100 + 8k, member k sends its SHARE and alarm slot to its team group. -/
  | shareSend
  /-- SHARE_COLLECTION_CLOSE (R325). At tick 480, the team lead classifies members and computes member targets. -/
  | shareCollectionClose
  /-- TEAM_SUMMARY_SEND (R326). At tick 500, the team lead sends TEAM_SUMMARY to the hall group. -/
  | teamSummarySend
  /-- DELAY_RESP_SEND (R315). At tick 700, the hall lead answers each DELAY_REQ of the frame. -/
  | delayRespSend
  /-- TARGET_SELECT (R327). At tick 1,000, the module selects its grid-draw target from a summary or stand-alone, entering absorption where ABSORB is set. -/
  | targetSelect
  /-- HALL_TARGET_COMPUTE (R323). At tick 1,100, the hall lead computes H and splits it into team targets. -/
  | hallTargetCompute
  /-- BULK_WINDOW (R337). From tick 1,200, bulk frames that fit by tick 1,700 are sent within BUDGET, and the others are deferred. -/
  | bulkWindow
  /-- TIME_STEP (R317). Outside the armed states, an offset beyond ±1 µs steps shelf time at the next frame boundary. -/
  | timeStep
  /-- YIELD (R332). FAB_CTRL.YIELD makes the module stop its lead records and clears LEAD_EN. -/
  | yield
  /-- TRAINING_BURST_START (R398). At each PERIOD_S with TRAIN_EN set, a training burst starts on free host-partition cores. -/
  | trainingBurstStart
  /-- PROMOTE (R400). LKS_TRAIN_CTRL.PROMOTE copies LIVE to PREVIOUS and CANDIDATE to LIVE, or is refused. -/
  | promote
  /-- REVERT (R400). LKS_TRAIN_CTRL.REVERT exchanges LIVE and PREVIOUS. -/
  | revert
  /-- EXPORT (R401). LKS_TRAIN_CTRL.EXPORT copies LIVE to XFER as a weight blob. -/
  | exportWeights
  /-- INSTALL (R401). LKS_TRAIN_CTRL.INSTALL copies a blob from XFER into CANDIDATE and evaluates it. -/
  | install
  /-- WATCHDOG_KICK (R415). Tack firmware writes BRD_WDT_KICK and restarts the watchdog count; host writes are ignored. -/
  | watchdogKick
  /-- WATCHDOG_EXPIRY (R420). No kick for TMO_MS raises 0x0603, resets the Tack cores and restarts the firmware after its digest check. -/
  | watchdogExpiry
  /-- HOLDOFF_EXPIRY (R421). The hold-off expires with no DISARM pending and the recovery re-arms. -/
  | holdoffExpiry
  /-- SETTLE_EXPIRY (R421). SETTLE passes with no F2 or F3 and the recovery ends with the cause set cleared. -/
  | settleExpiry
  /-- SOFT_START_OFF_EXPIRY (R427). SS_OFF_MS after a soft-start abort, BRD_DRV_EN is released and arming resumes at precharge. -/
  | softStartOffExpiry
  /-- HOST_KICK (R431). A BRD_HOST_KICK write restarts the host timeout and, after a loss, raises 0x0706 index 1. -/
  | hostKick
  /-- HOST_TIMEOUT (R431). No host kick within HOST_TMO declares the host lost. -/
  | hostTimeout
  /-- MARK (R444). SBG_CTRL.MARK opens an incident or joins the open one. -/
  | mark
  /-- INCIDENT_CLOSE (R444). 10 s after its last opening event, the incident closes. -/
  | incidentClose
  /-- CONTROL_BLOCK_PERIODIC (R443). Every 16 operating seconds, the Saddlebag control block is written. -/
  | controlBlockPeriodic
  /-- OPERATING_SECOND (R436). The always-on domain counts one more operating second. -/
  | operatingSecond
  /-- PHASE_HOLD_PLACE (R464). At the first sample with |I_s| ≤ PH_GATE_A, Harness places the substitution hold on the target's group. -/
  | phaseHoldPlace
  /-- WEAR_COPY_PERIODIC (R473). Every 600 operating seconds, a wear copy is written. -/
  | wearCopyPeriodic
  /-- FIRC_WAIT_EXPIRY (R470). XTAL-A not ready for FIRC_WAIT_S in clock-hold makes kind 9 DUE, or sets PLL_REF to FIRC. -/
  | fircWaitExpiry
  /-- TAP_BYPASS (R62). The TAP loads the BYPASS instruction. -/
  | tapBypass
  /-- TAP_IDCODE (R62). The TAP IDCODE instruction returns the low word of SYS_ID. -/
  | tapIdcode
  /-- TAP_SAMPLE_PRELOAD (R62). The TAP SAMPLE/PRELOAD instruction. -/
  | tapSamplePreload
  /-- TAP_EXTEST (R63). EXTEST is accepted in PASSIVE with protected outputs held low, or replaced by BYPASS and recorded. -/
  | tapExtest
  /-- TAP_CLAMP (R63). CLAMP is accepted only in PASSIVE, otherwise replaced by BYPASS and recorded. -/
  | tapClamp
  /-- TAP_HIGHZ (R63). HIGHZ is accepted only in PASSIVE, otherwise replaced by BYPASS and recorded. -/
  | tapHighz
  /-- FORECAST_RELOAD_COMPLETE (R372). The forecast runtime finishes reloading the partition's SRAM from LIVE, after a promotion, a revert or a stop, and MODEL streams resume writing. -/
  | forecastReloadComplete
  /-- WEIGHT_EXPORT_COMPLETE (R401). An EXPORT finishes copying LIVE to XFER as a weight blob, clears EXPORT and sets TRANSFERRED. -/
  | weightExportComplete
  deriving DecidableEq, Repr

end Sys2Proof
end

