-- ==== Sys2Proof/Decode.lean ====
section
/-! DEFINITION. The decoder over the rows of spec/opcode_table.json that give bits. -/

namespace Sys2Proof

/-- The command that a word spells by the table's bits. The module is a block: no row of its table gives bits, so no word
spells a command (log 1). -/
def decodeTableWord (_nbits _w : Nat) : Option Instr := none

end Sys2Proof
end

