-- ==== Sys2Proof/Machine/RegMap.lean ====
section
/-! DEFINITION. The register map of BAR0 (R478 to R494): for every register its offset, its array
strides, its reset value (R480 to R494) and, field by field, the access code (R15) and the range
(R175) the chapters' field tables state; the pairs of fields that must stand in order (R175). -/

namespace Sys2Proof.Machine

/-- The access codes of R15. -/
inductive Acc
  | ro | rw | rwl | w1c | w1s | wo
  deriving DecidableEq, Repr

/-- One field of a register: its lowest bit, its width, its access code, its stated range. -/
structure FieldSpec where
  lo : Nat
  w : Nat
  acc : Acc
  min : Nat
  max : Nat
  deriving DecidableEq, Repr

/-- One row of the map: `n1` by `n2` registers, at `base + s1 * i + s2 * j`; `orders` names pairs of
fields (by their place in `fields`) of which the first must stay below the second (R175). -/
structure RegSpec where
  base : Nat
  n1 : Nat
  s1 : Nat
  n2 : Nat
  s2 : Nat
  reset : Nat
  fields : List FieldSpec
  orders : List (Nat × Nat)
  deriving DecidableEq, Repr

/-- A field as the meanings name it: the register's BAR0 offset, the lowest bit, the width. -/
structure Field where
  addr : Nat
  lo : Nat
  w : Nat
  deriving DecidableEq, Repr

def regsSys : List RegSpec := [
  -- SYS_ID
  ⟨0x0, 1, 0x4, 1, 0x4, 0x195124B7,
   [⟨28, 4, .ro, 0, 15⟩, ⟨12, 16, .ro, 0, 65535⟩, ⟨1, 11, .ro, 0, 2047⟩, ⟨0, 1, .ro, 0, 1⟩], []⟩,
  -- SYS_CAPS
  ⟨0x4, 1, 0x4, 1, 0x4, 0x10AB6801,
   [⟨28, 4, .ro, 0, 15⟩, ⟨22, 2, .ro, 0, 3⟩, ⟨20, 2, .ro, 0, 3⟩, ⟨18, 2, .ro, 0, 3⟩, ⟨17, 1, .ro, 0, 1⟩, ⟨16, 1, .ro, 0, 1⟩, ⟨15, 1, .ro, 0, 1⟩, ⟨8, 7, .ro, 0, 127⟩, ⟨0, 8, .ro, 0, 255⟩], []⟩,
  -- SYS_ID_SN
  ⟨0x8, 1, 0x4, 1, 0x4, 0x0,
   [⟨0, 32, .ro, 0, 4294967295⟩], []⟩,
  -- SYS_SHELF_STATE
  ⟨0x10, 1, 0x4, 1, 0x4, 0x1,
   [⟨8, 8, .ro, 0, 255⟩, ⟨5, 1, .ro, 0, 1⟩, ⟨4, 1, .ro, 0, 1⟩, ⟨0, 3, .ro, 0, 7⟩], []⟩,
  -- SYS_EVT
  ⟨0x14, 1, 0x4, 1, 0x4, 0x0,
   [⟨1, 1, .w1c, 0, 1⟩, ⟨0, 1, .w1c, 0, 1⟩], []⟩,
  -- SYS_CONN_STATUS
  ⟨0x20, 1, 0x4, 1, 0x4, 0x800000,
   [⟨23, 1, .ro, 0, 1⟩, ⟨22, 1, .ro, 0, 1⟩, ⟨21, 1, .ro, 0, 1⟩, ⟨20, 1, .ro, 0, 1⟩, ⟨18, 2, .ro, 0, 3⟩, ⟨16, 2, .ro, 0, 3⟩, ⟨14, 2, .ro, 0, 3⟩, ⟨12, 2, .ro, 0, 3⟩, ⟨10, 2, .ro, 0, 3⟩, ⟨8, 2, .ro, 0, 3⟩, ⟨4, 4, .ro, 0, 15⟩, ⟨0, 4, .ro, 0, 15⟩], []⟩,
  -- SYS_CONN_CHG
  ⟨0x24, 1, 0x4, 1, 0x4, 0x0,
   [⟨23, 1, .w1c, 0, 1⟩, ⟨22, 1, .w1c, 0, 1⟩, ⟨21, 1, .w1c, 0, 1⟩, ⟨20, 1, .w1c, 0, 1⟩, ⟨18, 2, .w1c, 0, 3⟩, ⟨16, 2, .w1c, 0, 3⟩, ⟨14, 2, .w1c, 0, 3⟩, ⟨12, 2, .w1c, 0, 3⟩, ⟨10, 2, .w1c, 0, 3⟩, ⟨8, 2, .w1c, 0, 3⟩, ⟨4, 4, .w1c, 0, 15⟩, ⟨0, 4, .w1c, 0, 15⟩], []⟩,
  -- SYS_IRQ_SUM
  ⟨0x30, 1, 0x4, 1, 0x4, 0x0,
   [⟨0, 30, .ro, 0, 1073741823⟩], []⟩]

def regsClk : List RegSpec := [
  -- CLK_READY
  ⟨0x10000, 1, 0x4, 1, 0x4, 0x1,
   [⟨7, 1, .ro, 0, 1⟩, ⟨6, 1, .ro, 0, 1⟩, ⟨5, 1, .ro, 0, 1⟩, ⟨4, 1, .ro, 0, 1⟩, ⟨3, 1, .ro, 0, 1⟩, ⟨2, 1, .ro, 0, 1⟩, ⟨1, 1, .ro, 0, 1⟩, ⟨0, 1, .ro, 0, 1⟩], []⟩,
  -- CLK_SRC_SEL
  ⟨0x10004, 1, 0x4, 1, 0x4, 0x0,
   [⟨8, 1, .rw, 0, 1⟩, ⟨4, 1, .rw, 0, 1⟩, ⟨0, 2, .rw, 0, 3⟩], []⟩,
  -- CLK_DIV
  ⟨0x10008, 1, 0x4, 1, 0x4, 0x10,
   [⟨8, 3, .rwl, 0, 7⟩, ⟨4, 4, .rwl, 0, 15⟩, ⟨0, 4, .rwl, 0, 15⟩], []⟩,
  -- CLK_STATUS
  ⟨0x1000C, 1, 0x4, 1, 0x4, 0x0,
   [⟨18, 1, .ro, 0, 1⟩, ⟨17, 1, .ro, 0, 1⟩, ⟨16, 1, .ro, 0, 1⟩, ⟨8, 8, .w1c, 0, 255⟩, ⟨2, 1, .w1c, 0, 1⟩, ⟨1, 1, .w1c, 0, 1⟩, ⟨0, 1, .ro, 0, 1⟩], []⟩,
  -- CLK_EN_RUN
  ⟨0x10010, 1, 0x4, 1, 0x4, 0x37F,
   [⟨14, 1, .rw, 0, 1⟩, ⟨13, 1, .rw, 0, 1⟩, ⟨12, 1, .rw, 0, 1⟩, ⟨11, 1, .rw, 0, 1⟩, ⟨10, 1, .rw, 0, 1⟩, ⟨9, 1, .rw, 0, 1⟩, ⟨8, 1, .rw, 0, 1⟩, ⟨7, 1, .ro, 0, 1⟩, ⟨6, 1, .rw, 0, 1⟩, ⟨5, 1, .rw, 0, 1⟩, ⟨4, 1, .rw, 0, 1⟩, ⟨3, 1, .ro, 0, 1⟩, ⟨2, 1, .ro, 0, 1⟩, ⟨1, 1, .ro, 0, 1⟩, ⟨0, 1, .ro, 0, 1⟩], []⟩,
  -- CLK_EN_SLEEP
  ⟨0x10014, 1, 0x4, 1, 0x4, 0x13F,
   [⟨14, 1, .rw, 0, 1⟩, ⟨13, 1, .rw, 0, 1⟩, ⟨12, 1, .rw, 0, 1⟩, ⟨11, 1, .rw, 0, 1⟩, ⟨10, 1, .rw, 0, 1⟩, ⟨9, 1, .rw, 0, 1⟩, ⟨8, 1, .rw, 0, 1⟩, ⟨7, 1, .ro, 0, 1⟩, ⟨6, 1, .rw, 0, 1⟩, ⟨5, 1, .rw, 0, 1⟩, ⟨4, 1, .rw, 0, 1⟩, ⟨3, 1, .ro, 0, 1⟩, ⟨2, 1, .ro, 0, 1⟩, ⟨1, 1, .ro, 0, 1⟩, ⟨0, 1, .ro, 0, 1⟩], []⟩,
  -- CLK_EN_DEEP
  ⟨0x10018, 1, 0x4, 1, 0x4, 0x3,
   [⟨14, 1, .rw, 0, 1⟩, ⟨13, 1, .rw, 0, 1⟩, ⟨12, 1, .rw, 0, 1⟩, ⟨11, 1, .rw, 0, 1⟩, ⟨10, 1, .rw, 0, 1⟩, ⟨9, 1, .rw, 0, 1⟩, ⟨8, 1, .rw, 0, 1⟩, ⟨7, 1, .ro, 0, 1⟩, ⟨6, 1, .rw, 0, 1⟩, ⟨5, 1, .rw, 0, 1⟩, ⟨4, 1, .rw, 0, 1⟩, ⟨3, 1, .ro, 0, 1⟩, ⟨2, 1, .ro, 0, 1⟩, ⟨1, 1, .ro, 0, 1⟩, ⟨0, 1, .ro, 0, 1⟩], []⟩,
  -- CLK_GATE_EFF
  ⟨0x1001C, 1, 0x4, 1, 0x4, 0x37F,
   [⟨14, 1, .ro, 0, 1⟩, ⟨13, 1, .ro, 0, 1⟩, ⟨12, 1, .ro, 0, 1⟩, ⟨11, 1, .ro, 0, 1⟩, ⟨10, 1, .ro, 0, 1⟩, ⟨9, 1, .ro, 0, 1⟩, ⟨8, 1, .ro, 0, 1⟩, ⟨7, 1, .ro, 0, 1⟩, ⟨6, 1, .ro, 0, 1⟩, ⟨5, 1, .ro, 0, 1⟩, ⟨4, 1, .ro, 0, 1⟩, ⟨3, 1, .ro, 0, 1⟩, ⟨2, 1, .ro, 0, 1⟩, ⟨1, 1, .ro, 0, 1⟩, ⟨0, 1, .ro, 0, 1⟩], []⟩,
  -- CLK_FMEAS_CTRL
  ⟨0x10020, 1, 0x4, 1, 0x4, 0x0,
   [⟨8, 4, .rw, 0, 15⟩, ⟨4, 4, .rw, 0, 15⟩, ⟨3, 1, .w1c, 0, 1⟩, ⟨1, 1, .w1c, 0, 1⟩, ⟨0, 1, .w1s, 0, 1⟩], []⟩,
  -- CLK_FMEAS_GATE
  ⟨0x10024, 1, 0x4, 1, 0x4, 0x2FAF080,
   [⟨0, 32, .rw, 0, 4294967295⟩], []⟩,
  -- CLK_FMEAS_CNT_LO
  ⟨0x10028, 1, 0x4, 1, 0x4, 0x0,
   [⟨0, 32, .ro, 0, 4294967295⟩], []⟩,
  -- CLK_FMEAS_CNT_HI
  ⟨0x1002C, 1, 0x4, 1, 0x4, 0x0,
   [⟨0, 32, .ro, 0, 4294967295⟩], []⟩,
  -- CLK_XING_OVR
  ⟨0x10030, 1, 0x4, 1, 0x4, 0x0,
   [⟨7, 1, .w1c, 0, 1⟩, ⟨6, 1, .w1c, 0, 1⟩, ⟨5, 1, .w1c, 0, 1⟩, ⟨4, 1, .w1c, 0, 1⟩, ⟨3, 1, .w1c, 0, 1⟩, ⟨2, 1, .w1c, 0, 1⟩, ⟨1, 1, .w1c, 0, 1⟩, ⟨0, 1, .w1c, 0, 1⟩], []⟩,
  -- PWR_CTRL
  ⟨0x10040, 1, 0x4, 1, 0x4, 0x6402,
   [⟨8, 8, .rw, 0, 255⟩, ⟨2, 1, .rw, 0, 1⟩, ⟨1, 1, .rw, 0, 1⟩, ⟨0, 1, .rw, 0, 1⟩], []⟩,
  -- PWR_STATUS
  ⟨0x10044, 1, 0x4, 1, 0x4, 0x0,
   [⟨8, 8, .ro, 0, 255⟩, ⟨6, 1, .ro, 0, 1⟩, ⟨5, 1, .ro, 0, 1⟩, ⟨4, 1, .ro, 0, 1⟩, ⟨0, 2, .ro, 0, 3⟩], []⟩,
  -- PWR_WAKE_EN
  ⟨0x10048, 1, 0x4, 1, 0x4, 0x1F,
   [⟨4, 1, .rw, 0, 1⟩, ⟨3, 1, .rw, 0, 1⟩, ⟨2, 1, .rw, 0, 1⟩, ⟨1, 1, .ro, 0, 1⟩, ⟨0, 1, .ro, 0, 1⟩], []⟩,
  -- PWR_WAKE_SRC
  ⟨0x1004C, 1, 0x4, 1, 0x4, 0x0,
   [⟨4, 1, .w1c, 0, 1⟩, ⟨3, 1, .w1c, 0, 1⟩, ⟨2, 1, .w1c, 0, 1⟩, ⟨1, 1, .w1c, 0, 1⟩, ⟨0, 1, .w1c, 0, 1⟩], []⟩,
  -- PWR_WAKE_TIMER
  ⟨0x10050, 1, 0x4, 1, 0x4, 0x0,
   [⟨0, 32, .rw, 0, 4294967295⟩], []⟩]

def regsBoot : List RegSpec := [
  -- BOOT_STATUS
  ⟨0x20000, 1, 0x4, 1, 0x4, 0x1,
   [⟨24, 8, .ro, 0, 255⟩, ⟨16, 4, .ro, 0, 15⟩, ⟨8, 4, .ro, 0, 15⟩, ⟨4, 4, .ro, 0, 15⟩, ⟨0, 1, .ro, 0, 1⟩], []⟩,
  -- BOOT_CTRL
  ⟨0x20004, 1, 0x4, 1, 0x4, 0x0,
   [⟨3, 1, .w1s, 0, 1⟩, ⟨2, 1, .w1s, 0, 1⟩, ⟨1, 1, .w1s, 0, 1⟩, ⟨0, 1, .w1s, 0, 1⟩], []⟩,
  -- BOOT_ERR_INFO
  ⟨0x20008, 1, 0x4, 1, 0x4, 0x0,
   [⟨0, 32, .ro, 0, 4294967295⟩], []⟩,
  -- BOOT_SRC_ADDR_LO
  ⟨0x20010, 1, 0x4, 1, 0x4, 0x0,
   [⟨0, 32, .rwl, 0, 4294967295⟩], []⟩,
  -- BOOT_SRC_ADDR_HI
  ⟨0x20014, 1, 0x4, 1, 0x4, 0x0,
   [⟨0, 32, .rwl, 0, 4294967295⟩], []⟩,
  -- BOOT_SRC_LEN
  ⟨0x20018, 1, 0x4, 1, 0x4, 0x0,
   [⟨0, 32, .rwl, 0, 4294967295⟩], []⟩,
  -- BOOT_PROFILE_DIGEST
  ⟨0x20040, 16, 0x4, 1, 0x4, 0x0,
   [⟨0, 32, .ro, 0, 4294967295⟩], []⟩,
  -- SEC_SVN
  ⟨0x20100, 1, 0x4, 1, 0x4, 0xFF00,
   [⟨16, 1, .ro, 0, 1⟩, ⟨8, 8, .ro, 0, 255⟩, ⟨0, 8, .ro, 0, 255⟩], []⟩,
  -- SEC_SVN_CTRL
  ⟨0x20104, 1, 0x4, 1, 0x4, 0x0,
   [⟨8, 8, .wo, 0, 255⟩, ⟨0, 8, .wo, 0, 255⟩], []⟩,
  -- SEC_ATT_CTRL
  ⟨0x20110, 1, 0x4, 1, 0x4, 0x0,
   [⟨1, 1, .w1c, 0, 1⟩, ⟨0, 1, .w1s, 0, 1⟩], []⟩,
  -- SEC_ATT_NONCE
  ⟨0x20120, 8, 0x4, 1, 0x4, 0x0,
   [⟨0, 32, .rw, 0, 4294967295⟩], []⟩,
  -- SEC_ATT_REPORT
  ⟨0x21000, 2048, 0x4, 1, 0x4, 0x0,
   [⟨0, 32, .ro, 0, 4294967295⟩], []⟩]

def regsHrnCh : List RegSpec := [
  -- HRN_CH_CTRL
  ⟨0x100000, 104, 0x100, 1, 0x4, 0x0,
   [⟨4, 1, .rw, 0, 1⟩, ⟨0, 2, .ro, 0, 3⟩], []⟩,
  -- HRN_CH_STATUS
  ⟨0x100004, 104, 0x100, 1, 0x4, 0x0,
   [⟨24, 7, .ro, 0, 127⟩, ⟨16, 4, .ro, 0, 15⟩, ⟨15, 1, .ro, 0, 1⟩, ⟨14, 1, .ro, 0, 1⟩, ⟨0, 10, .ro, 0, 1023⟩], []⟩,
  -- HRN_CH_MEAS
  ⟨0x100008, 104, 0x100, 1, 0x4, 0x0,
   [⟨16, 16, .ro, 0, 65535⟩, ⟨0, 16, .ro, 0, 65535⟩], []⟩,
  -- HRN_CH_FAULT
  ⟨0x10000C, 104, 0x100, 1, 0x4, 0x0,
   [⟨5, 1, .w1c, 0, 1⟩, ⟨4, 1, .w1c, 0, 1⟩, ⟨3, 1, .w1c, 0, 1⟩, ⟨2, 1, .w1c, 0, 1⟩, ⟨1, 1, .w1c, 0, 1⟩, ⟨0, 1, .w1c, 0, 1⟩], []⟩,
  -- HRN_CH_TRIM
  ⟨0x100010, 104, 0x100, 1, 0x4, 0x0,
   [⟨8, 8, .rwl, 0, 255⟩, ⟨0, 8, .rwl, 0, 255⟩], []⟩]

def regsHrnGrp : List RegSpec := [
  -- HRN_GRP_CTRL
  ⟨0x110000, 13, 0x100, 1, 0x4, 0x7,
   [⟨2, 1, .rw, 0, 1⟩, ⟨1, 1, .rw, 0, 1⟩, ⟨0, 1, .rw, 0, 1⟩], []⟩,
  -- HRN_GRP_TIMING
  ⟨0x110004, 13, 0x100, 1, 0x4, 0x300000,
   [⟨24, 8, .rwl, 0, 239⟩, ⟨18, 6, .rwl, 4, 40⟩], []⟩,
  -- HRN_GRP_SLOPE
  ⟨0x110008, 13, 0x100, 1, 0x4, 0x116006F,
   [⟨16, 10, .rwl, 0, 1023⟩, ⟨0, 10, .rwl, 0, 1023⟩], []⟩,
  -- HRN_GRP_LIMIT
  ⟨0x11000C, 13, 0x100, 1, 0x4, 0x70384,
   [⟨16, 6, .rw, 0, 63⟩, ⟨0, 10, .rw, 0, 1023⟩], []⟩,
  -- HRN_GRP_HICCUP
  ⟨0x110010, 13, 0x100, 1, 0x4, 0x3040640A,
   [⟨28, 4, .rw, 1, 15⟩, ⟨16, 8, .rw, 8, 255⟩, ⟨8, 8, .rw, 1, 255⟩, ⟨0, 7, .rw, 1, 100⟩], []⟩,
  -- HRN_GRP_DE
  ⟨0x110014, 13, 0x100, 1, 0x4, 0x960064,
   [⟨16, 10, .rw, 0, 1023⟩, ⟨0, 10, .rw, 0, 1023⟩], []⟩,
  -- HRN_GRP_TEMP
  ⟨0x110018, 13, 0x100, 1, 0x4, 0x7D6E,
   [⟨8, 8, .rw, 60, 150⟩, ⟨0, 8, .rw, 50, 140⟩], [(1, 0)]⟩,
  -- HRN_GRP_STATUS
  ⟨0x11001C, 13, 0x100, 1, 0x4, 0x0,
   [⟨28, 4, .ro, 0, 15⟩, ⟨16, 4, .ro, 0, 15⟩, ⟨8, 8, .ro, 0, 255⟩, ⟨1, 1, .w1c, 0, 1⟩, ⟨0, 1, .w1c, 0, 1⟩], []⟩,
  -- HRN_TIMING
  ⟨0x111000, 1, 0x4, 1, 0x4, 0x7D0,
   [⟨0, 12, .rwl, 1000, 4000⟩], []⟩,
  -- HRN_SYNC_CTRL
  ⟨0x111004, 1, 0x4, 1, 0x4, 0x0,
   [⟨8, 12, .rw, 0, 4095⟩, ⟨0, 2, .rw, 0, 3⟩], []⟩,
  -- HRN_SYNC_STATUS
  ⟨0x111008, 1, 0x4, 1, 0x4, 0x0,
   [⟨16, 16, .ro, 0, 65535⟩, ⟨8, 1, .w1c, 0, 1⟩, ⟨7, 1, .w1c, 0, 1⟩, ⟨4, 3, .ro, 0, 7⟩, ⟨0, 2, .ro, 0, 3⟩], []⟩,
  -- HRN_SHED_CFG
  ⟨0x11100C, 1, 0x4, 1, 0x4, 0x408321E,
   [⟨24, 8, .rw, 2, 48⟩, ⟨16, 8, .rw, 2, 32⟩, ⟨8, 8, .rw, 1, 62⟩, ⟨0, 8, .rw, 1, 61⟩], []⟩,
  -- HRN_SHED_STEP
  ⟨0x111010, 1, 0x4, 1, 0x4, 0x14012C,
   [⟨16, 8, .rw, 1, 255⟩, ⟨0, 11, .rw, 1, 2047⟩], []⟩,
  -- HRN_SHED_STATUS
  ⟨0x111014, 1, 0x4, 1, 0x4, 0x0,
   [⟨26, 6, .ro, 0, 63⟩, ⟨20, 6, .ro, 0, 63⟩, ⟨1, 1, .w1c, 0, 1⟩, ⟨0, 1, .w1c, 0, 1⟩], []⟩,
  -- HRN_OV_CFG
  ⟨0x111018, 1, 0x4, 1, 0x4, 0x6416A8,
   [⟨16, 8, .rwl, 1, 255⟩, ⟨15, 1, .rwl, 0, 1⟩, ⟨0, 13, .rwl, 5460, 6200⟩], []⟩,
  -- HRN_OV_CTRL
  ⟨0x11101C, 1, 0x4, 1, 0x4, 0x0,
   [⟨2, 1, .ro, 0, 1⟩, ⟨1, 1, .ro, 0, 1⟩, ⟨0, 1, .w1s, 0, 1⟩], []⟩,
  -- HRN_LFR_STATUS
  ⟨0x111020, 1, 0x4, 1, 0x4, 0x0,
   [⟨16, 16, .ro, 0, 65535⟩, ⟨8, 3, .ro, 0, 7⟩, ⟨7, 1, .ro, 0, 1⟩, ⟨0, 6, .ro, 0, 63⟩], []⟩,
  -- HRN_LFR
  ⟨0x114000, 4096, 0x4, 1, 0x4, 0x0,
   [⟨0, 32, .ro, 0, 4294967295⟩], []⟩]

def regsRein0 : List RegSpec := [
  -- REIN_CTRL
  ⟨0x200000, 1, 0x4, 1, 0x4, 0x0,
   [⟨1, 1, .rw, 0, 1⟩, ⟨0, 1, .rw, 0, 1⟩], []⟩,
  -- REIN_STATUS
  ⟨0x200004, 1, 0x4, 1, 0x4, 0x0,
   [⟨4, 1, .w1c, 0, 1⟩, ⟨3, 1, .w1c, 0, 1⟩, ⟨2, 1, .w1c, 0, 1⟩, ⟨1, 1, .w1c, 0, 1⟩, ⟨0, 1, .ro, 0, 1⟩], []⟩,
  -- REIN_SPLIT_CFG
  ⟨0x200008, 1, 0x4, 1, 0x4, 0x143E01D6,
   [⟨24, 8, .rwl, 1, 62⟩, ⟨16, 8, .rwl, 1, 90⟩, ⟨0, 16, .rwl, 50, 5000⟩], []⟩,
  -- REIN_TOT_LIMIT
  ⟨0x20000C, 1, 0x4, 1, 0x4, 0x186A186A,
   [⟨16, 16, .rw, 0, 65535⟩, ⟨0, 16, .rw, 0, 65535⟩], []⟩,
  -- REIN_FF_GAIN
  ⟨0x200010, 1, 0x4, 1, 0x4, 0x0,
   [⟨0, 32, .rw, 0, 2147483647⟩], []⟩,
  -- REIN_CMD_TOT
  ⟨0x200014, 1, 0x4, 1, 0x4, 0x0,
   [⟨0, 32, .ro, 0, 4294967295⟩], []⟩,
  -- REIN_CMD_STR
  ⟨0x200018, 1, 0x4, 1, 0x4, 0x0,
   [⟨16, 16, .ro, 0, 65535⟩, ⟨0, 16, .ro, 0, 65535⟩], []⟩,
  -- REIN_FF_NOW
  ⟨0x20001C, 1, 0x4, 1, 0x4, 0x0,
   [⟨0, 32, .ro, 0, 4294967295⟩], []⟩,
  -- REIN_UNSERVED
  ⟨0x200020, 1, 0x4, 1, 0x4, 0x0,
   [⟨0, 32, .ro, 0, 4294967295⟩], []⟩,
  -- REIN_SIG
  ⟨0x200024, 4, 0x4, 1, 0x4, 0x0,
   [⟨0, 32, .rw, 0, 4294967295⟩], []⟩,
  -- REIN_L1_CFG
  ⟨0x200040, 1, 0x4, 1, 0x4, 0x0,
   [⟨16, 16, .rw, 0, 65535⟩, ⟨0, 16, .rw, 0, 65535⟩], []⟩,
  -- REIN_L1_ISO
  ⟨0x200044, 1, 0x4, 1, 0x4, 0x0,
   [⟨0, 16, .rw, 0, 65535⟩], []⟩,
  -- REIN_L1_STATUS
  ⟨0x200048, 1, 0x4, 1, 0x4, 0x0,
   [⟨16, 16, .ro, 0, 65535⟩, ⟨4, 6, .ro, 0, 63⟩, ⟨1, 1, .ro, 0, 1⟩, ⟨0, 1, .ro, 0, 1⟩], []⟩,
  -- REIN_L1_LIMIT
  ⟨0x20004C, 1, 0x4, 1, 0x4, 0x0,
   [⟨0, 32, .ro, 0, 4294967295⟩], []⟩,
  -- REIN_TUNE_CTRL
  ⟨0x200080, 1, 0x4, 1, 0x4, 0x400,
   [⟨8, 4, .rw, 2, 15⟩, ⟨2, 3, .rw, 0, 7⟩, ⟨1, 1, .w1s, 0, 1⟩, ⟨0, 1, .w1s, 0, 1⟩], []⟩,
  -- REIN_TUNE_STATUS
  ⟨0x200084, 1, 0x4, 1, 0x4, 0x0,
   [⟨8, 4, .ro, 0, 15⟩, ⟨7, 1, .w1c, 0, 1⟩, ⟨4, 3, .ro, 0, 7⟩, ⟨0, 3, .ro, 0, 7⟩], []⟩,
  -- REIN_TUNE_KU
  ⟨0x200088, 1, 0x4, 1, 0x4, 0x0,
   [⟨0, 32, .ro, 0, 4294967295⟩], []⟩,
  -- REIN_TUNE_TU
  ⟨0x20008C, 1, 0x4, 1, 0x4, 0x0,
   [⟨0, 32, .ro, 0, 4294967295⟩], []⟩,
  -- REIN_TUNE_H
  ⟨0x200090, 1, 0x4, 1, 0x4, 0x0,
   [⟨0, 32, .ro, 0, 4294967295⟩], []⟩,
  -- REIN_TUNE_SUG_B0
  ⟨0x200094, 1, 0x4, 1, 0x4, 0x0,
   [⟨0, 32, .ro, 0, 4294967295⟩], []⟩]

def regsRein1 : List RegSpec := [
  -- REIN_TUNE_SUG_B1
  ⟨0x200098, 1, 0x4, 1, 0x4, 0x0,
   [⟨0, 32, .ro, 0, 4294967295⟩], []⟩,
  -- REIN_TUNE_SUG_B2
  ⟨0x20009C, 1, 0x4, 1, 0x4, 0x0,
   [⟨0, 32, .ro, 0, 4294967295⟩], []⟩,
  -- REIN_TUNE_SUG_A1
  ⟨0x2000A0, 1, 0x4, 1, 0x4, 0x0,
   [⟨0, 32, .ro, 0, 4294967295⟩], []⟩,
  -- REIN_TUNE_SUG_A2
  ⟨0x2000A4, 1, 0x4, 1, 0x4, 0x0,
   [⟨0, 32, .ro, 0, 4294967295⟩], []⟩,
  -- REIN_TUNE_SUG_SHIFT
  ⟨0x2000A8, 1, 0x4, 1, 0x4, 0x0,
   [⟨8, 1, .ro, 0, 1⟩, ⟨0, 3, .ro, 0, 7⟩], []⟩,
  -- REIN_CAS_CTRL
  ⟨0x201000, 8, 0x40, 1, 0x4, 0x10,
   [⟨28, 4, .rw, 0, 8⟩, ⟨24, 4, .rw, 0, 8⟩, ⟨8, 16, .rw, 0, 65535⟩, ⟨4, 1, .rw, 0, 1⟩, ⟨3, 1, .rw, 0, 1⟩, ⟨2, 1, .rw, 0, 1⟩, ⟨1, 1, .rwl, 0, 1⟩, ⟨0, 1, .rw, 0, 1⟩], []⟩,
  -- REIN_CAS_SRC
  ⟨0x201004, 8, 0x40, 1, 0x4, 0x0,
   [⟨8, 4, .rwl, 0, 15⟩, ⟨4, 1, .rwl, 0, 1⟩, ⟨0, 3, .rwl, 0, 7⟩], []⟩,
  -- REIN_CAS_MAP_A0
  ⟨0x201008, 8, 0x40, 1, 0x4, 0x0,
   [⟨24, 6, .rw, 0, 63⟩, ⟨16, 6, .rw, 0, 63⟩, ⟨8, 6, .rw, 0, 63⟩, ⟨0, 6, .rw, 0, 63⟩], []⟩,
  -- REIN_CAS_MAP_A1
  ⟨0x20100C, 8, 0x40, 1, 0x4, 0x0,
   [⟨24, 6, .rw, 0, 63⟩, ⟨16, 6, .rw, 0, 63⟩, ⟨8, 6, .rw, 0, 63⟩, ⟨0, 6, .rw, 0, 63⟩], []⟩,
  -- REIN_CAS_MAP_B0
  ⟨0x201010, 8, 0x40, 1, 0x4, 0x0,
   [⟨24, 6, .rw, 0, 63⟩, ⟨16, 6, .rw, 0, 63⟩, ⟨8, 6, .rw, 0, 63⟩, ⟨0, 6, .rw, 0, 63⟩], []⟩,
  -- REIN_CAS_MAP_B1
  ⟨0x201014, 8, 0x40, 1, 0x4, 0x0,
   [⟨24, 6, .rw, 0, 63⟩, ⟨16, 6, .rw, 0, 63⟩, ⟨8, 6, .rw, 0, 63⟩, ⟨0, 6, .rw, 0, 63⟩], []⟩,
  -- REIN_CAS_SETPOINT
  ⟨0x201018, 8, 0x40, 1, 0x4, 0x0,
   [⟨0, 32, .rw, 0, 4294967295⟩], []⟩,
  -- REIN_CAS_RAMP
  ⟨0x20101C, 8, 0x40, 1, 0x4, 0x0,
   [⟨0, 32, .rw, 0, 4294967295⟩], []⟩,
  -- REIN_CAS_OUT_MIN
  ⟨0x201020, 8, 0x40, 1, 0x4, 0x0,
   [⟨0, 32, .rw, 0, 4294967295⟩], []⟩,
  -- REIN_CAS_OUT_MAX
  ⟨0x201024, 8, 0x40, 1, 0x4, 0x0,
   [⟨0, 32, .rw, 0, 4294967295⟩], []⟩,
  -- REIN_CAS_FE_LIMIT
  ⟨0x201028, 8, 0x40, 1, 0x4, 0x0,
   [⟨0, 32, .rw, 0, 4294967295⟩], []⟩,
  -- REIN_CAS_FE_CFG
  ⟨0x20102C, 8, 0x40, 1, 0x4, 0x0,
   [⟨30, 2, .rw, 0, 3⟩, ⟨0, 24, .rw, 0, 16777215⟩], []⟩,
  -- REIN_CAS_SP_EFF
  ⟨0x201030, 8, 0x40, 1, 0x4, 0x0,
   [⟨0, 32, .ro, 0, 4294967295⟩], []⟩,
  -- REIN_CAS_OUT
  ⟨0x201034, 8, 0x40, 1, 0x4, 0x0,
   [⟨0, 32, .ro, 0, 4294967295⟩], []⟩,
  -- REIN_CAS_STATUS
  ⟨0x201038, 8, 0x40, 1, 0x4, 0x0,
   [⟨12, 12, .ro, 0, 4095⟩, ⟨11, 1, .w1c, 0, 1⟩, ⟨10, 1, .w1c, 0, 1⟩, ⟨9, 1, .w1c, 0, 1⟩, ⟨8, 1, .w1c, 0, 1⟩, ⟨7, 1, .ro, 0, 1⟩, ⟨6, 1, .ro, 0, 1⟩, ⟨5, 1, .ro, 0, 1⟩, ⟨4, 1, .ro, 0, 1⟩, ⟨3, 1, .ro, 0, 1⟩, ⟨2, 1, .ro, 0, 1⟩, ⟨0, 2, .ro, 0, 3⟩], []⟩]

def regsRein2 : List RegSpec := [
  -- REIN_CAS_OUT_BASE
  ⟨0x20103C, 8, 0x40, 1, 0x4, 0x0,
   [⟨0, 32, .ro, 0, 4294967295⟩], []⟩,
  -- REIN_SEC_B0
  ⟨0x202000, 64, 0x20, 1, 0x4, 0x0,
   [⟨0, 32, .rw, 0, 4294967295⟩], []⟩,
  -- REIN_SEC_B1
  ⟨0x202004, 64, 0x20, 1, 0x4, 0x0,
   [⟨0, 32, .rw, 0, 4294967295⟩], []⟩,
  -- REIN_SEC_B2
  ⟨0x202008, 64, 0x20, 1, 0x4, 0x0,
   [⟨0, 32, .rw, 0, 4294967295⟩], []⟩,
  -- REIN_SEC_A1
  ⟨0x20200C, 64, 0x20, 1, 0x4, 0x0,
   [⟨0, 32, .rw, 0, 4294967295⟩], []⟩,
  -- REIN_SEC_A2
  ⟨0x202010, 64, 0x20, 1, 0x4, 0x0,
   [⟨0, 32, .rw, 0, 4294967295⟩], []⟩,
  -- REIN_SEC_CFG
  ⟨0x202014, 64, 0x20, 1, 0x4, 0x0,
   [⟨15, 1, .ro, 0, 1⟩, ⟨14, 1, .ro, 0, 1⟩, ⟨13, 1, .ro, 0, 1⟩, ⟨10, 3, .ro, 0, 7⟩, ⟨8, 1, .w1c, 0, 1⟩, ⟨7, 1, .w1c, 0, 1⟩, ⟨0, 3, .rw, 0, 7⟩], []⟩,
  -- REIN_SEC_X1
  ⟨0x203000, 64, 0x10, 1, 0x4, 0x0,
   [⟨0, 32, .rw, 0, 4294967295⟩], []⟩,
  -- REIN_SEC_X2
  ⟨0x203004, 64, 0x10, 1, 0x4, 0x0,
   [⟨0, 32, .rw, 0, 4294967295⟩], []⟩,
  -- REIN_SEC_Y1
  ⟨0x203008, 64, 0x10, 1, 0x4, 0x0,
   [⟨0, 32, .rw, 0, 4294967295⟩], []⟩,
  -- REIN_SEC_Y2
  ⟨0x20300C, 64, 0x10, 1, 0x4, 0x0,
   [⟨0, 32, .rw, 0, 4294967295⟩], []⟩]

def regsRein : List RegSpec := regsRein0 ++ regsRein1 ++ regsRein2

def regsSpur0 : List RegSpec := [
  -- SPUR_CTRL
  ⟨0x280000, 1, 0x4, 1, 0x4, 0x13,
   [⟨4, 1, .rw, 0, 1⟩, ⟨2, 1, .w1s, 0, 1⟩, ⟨1, 1, .rw, 0, 1⟩, ⟨0, 1, .rw, 0, 1⟩], []⟩,
  -- SPUR_STATUS
  ⟨0x280004, 1, 0x4, 1, 0x4, 0x0,
   [⟨12, 1, .w1c, 0, 1⟩, ⟨11, 1, .w1c, 0, 1⟩, ⟨10, 1, .w1c, 0, 1⟩, ⟨9, 1, .w1c, 0, 1⟩, ⟨8, 1, .w1c, 0, 1⟩, ⟨1, 2, .ro, 0, 3⟩, ⟨0, 1, .ro, 0, 1⟩], []⟩,
  -- SPUR_RX_CNT
  ⟨0x280008, 1, 0x4, 1, 0x4, 0x0,
   [⟨16, 16, .ro, 0, 65535⟩, ⟨0, 16, .ro, 0, 65535⟩], []⟩,
  -- SPUR_BAD_CNT
  ⟨0x28000C, 1, 0x4, 1, 0x4, 0x0,
   [⟨16, 16, .ro, 0, 65535⟩, ⟨0, 16, .ro, 0, 65535⟩], []⟩,
  -- SPUR_ACK_CNT
  ⟨0x280010, 1, 0x4, 1, 0x4, 0x0,
   [⟨0, 32, .ro, 0, 4294967295⟩], []⟩,
  -- SPUR_ACK_LAT
  ⟨0x280014, 1, 0x4, 1, 0x4, 0x0,
   [⟨16, 16, .ro, 0, 65535⟩, ⟨0, 16, .ro, 0, 65535⟩], []⟩,
  -- SPUR_LAST_SEQ
  ⟨0x280018, 1, 0x4, 1, 0x4, 0x0,
   [⟨0, 32, .ro, 0, 4294967295⟩], []⟩,
  -- SPUR_MAG_TBL
  ⟨0x280040, 16, 0x4, 1, 0x4, 0x0,
   [⟨0, 16, .rw, 0, 4000⟩], []⟩,
  -- SPUR_HINT_TBL
  ⟨0x280800, 256, 0x4, 1, 0x4, 0x0,
   [⟨0, 32, .ro, 0, 4294967295⟩], []⟩,
  -- FCST_CTRL
  ⟨0x281000, 1, 0x4, 1, 0x4, 0x0,
   [⟨0, 1, .rw, 0, 1⟩], []⟩,
  -- FCST_STATUS
  ⟨0x281004, 1, 0x4, 1, 0x4, 0x0,
   [⟨12, 1, .w1c, 0, 1⟩, ⟨11, 1, .w1c, 0, 1⟩, ⟨10, 1, .w1c, 0, 1⟩, ⟨9, 1, .w1c, 0, 1⟩, ⟨8, 1, .w1c, 0, 1⟩, ⟨4, 1, .ro, 0, 1⟩, ⟨3, 1, .ro, 0, 1⟩, ⟨2, 1, .ro, 0, 1⟩, ⟨0, 2, .ro, 0, 3⟩], []⟩,
  -- FCST_MERGE_CFG
  ⟨0x281008, 1, 0x4, 1, 0x4, 0x3C1E1E0A,
   [⟨24, 8, .rw, 1, 255⟩, ⟨16, 8, .rw, 1, 255⟩, ⟨8, 8, .rw, 1, 255⟩, ⟨0, 8, .rw, 1, 40⟩], []⟩,
  -- FCST_HOLD_CFG
  ⟨0x28100C, 1, 0x4, 1, 0x4, 0xA050190,
   [⟨24, 8, .rw, 1, 255⟩, ⟨16, 8, .rw, 1, 255⟩, ⟨0, 16, .rw, 1, 4096⟩], []⟩,
  -- FCST_HR_CFG
  ⟨0x281010, 1, 0x4, 1, 0x4, 0xA3214,
   [⟨16, 8, .rw, 1, 255⟩, ⟨8, 8, .rw, 1, 255⟩, ⟨0, 8, .rw, 1, 255⟩], []⟩,
  -- FCST_NOW
  ⟨0x281014, 1, 0x4, 1, 0x4, 0x0,
   [⟨16, 16, .ro, 0, 65535⟩, ⟨0, 16, .ro, 0, 65535⟩], []⟩,
  -- FCST_LOAD_MEAS
  ⟨0x281018, 1, 0x4, 1, 0x4, 0x0,
   [⟨0, 16, .ro, 0, 65535⟩], []⟩,
  -- FCST_HR_TARGET
  ⟨0x28101C, 1, 0x4, 1, 0x4, 0x0,
   [⟨0, 16, .ro, 0, 65535⟩], []⟩,
  -- FCST_OFFSET
  ⟨0x281020, 1, 0x4, 1, 0x4, 0x0,
   [⟨0, 16, .ro, 0, 65535⟩], []⟩,
  -- FCST_CNT
  ⟨0x281024, 1, 0x4, 1, 0x4, 0x0,
   [⟨16, 16, .ro, 0, 65535⟩, ⟨0, 16, .ro, 0, 65535⟩], []⟩,
  -- FCST_QUIET_END_LO
  ⟨0x281028, 1, 0x4, 1, 0x4, 0x0,
   [⟨0, 32, .ro, 0, 4294967295⟩], []⟩]

def regsSpur1 : List RegSpec := [
  -- FCST_QUIET_END_HI
  ⟨0x28102C, 1, 0x4, 1, 0x4, 0x0,
   [⟨0, 32, .ro, 0, 4294967295⟩], []⟩,
  -- FCST_UNANN_TIME_LO
  ⟨0x281030, 1, 0x4, 1, 0x4, 0x0,
   [⟨0, 32, .ro, 0, 4294967295⟩], []⟩,
  -- FCST_UNANN_TIME_HI
  ⟨0x281034, 1, 0x4, 1, 0x4, 0x0,
   [⟨0, 32, .ro, 0, 4294967295⟩], []⟩,
  -- FCST_STR_CTRL
  ⟨0x282000, 16, 0x40, 1, 0x4, 0x0,
   [⟨2, 1, .rwl, 0, 1⟩, ⟨1, 1, .rwl, 0, 1⟩, ⟨0, 1, .rwl, 0, 1⟩], []⟩,
  -- FCST_STR_STATUS
  ⟨0x282004, 16, 0x40, 1, 0x4, 0x0,
   [⟨16, 16, .ro, 0, 65535⟩, ⟨1, 1, .w1c, 0, 1⟩, ⟨0, 1, .ro, 0, 1⟩], []⟩,
  -- FCST_STR_HEAD_LO
  ⟨0x282008, 16, 0x40, 1, 0x4, 0x0,
   [⟨0, 32, .rw, 0, 4294967295⟩], []⟩,
  -- FCST_STR_HEAD_HI
  ⟨0x28200C, 16, 0x40, 1, 0x4, 0x0,
   [⟨0, 32, .rw, 0, 4294967295⟩], []⟩,
  -- FCST_STR_GEN
  ⟨0x282010, 16, 0x40, 1, 0x4, 0x0,
   [⟨0, 32, .rw, 0, 4294967295⟩], []⟩,
  -- FCST_STR_QUIET_LO
  ⟨0x282018, 16, 0x40, 1, 0x4, 0x0,
   [⟨0, 32, .rw, 0, 4294967295⟩], []⟩,
  -- FCST_STR_QUIET_HI
  ⟨0x28201C, 16, 0x40, 1, 0x4, 0x0,
   [⟨0, 32, .rw, 0, 4294967295⟩], []⟩,
  -- FCST_ENTRY
  ⟨0x2C0000, 16, 0x4000, 4096, 0x4, 0x0,
   [⟨16, 16, .rw, 0, 65535⟩, ⟨8, 8, .rw, 0, 255⟩, ⟨1, 1, .rw, 0, 1⟩, ⟨0, 1, .rw, 0, 1⟩], []⟩]

def regsSpur : List RegSpec := regsSpur0 ++ regsSpur1

def regsRing0 : List RegSpec := [
  -- RING_CTRL
  ⟨0x300000, 1, 0x4, 1, 0x4, 0x3,
   [⟨5, 1, .w1s, 0, 1⟩, ⟨4, 1, .w1s, 0, 1⟩, ⟨1, 1, .rw, 0, 1⟩, ⟨0, 1, .rw, 0, 1⟩], []⟩,
  -- RING_CFG
  ⟨0x300004, 1, 0x4, 1, 0x4, 0x44420,
   [⟨16, 3, .rw, 0, 7⟩, ⟨12, 4, .rw, 2, 10⟩, ⟨8, 4, .rw, 2, 10⟩, ⟨4, 4, .rw, 2, 3⟩], []⟩,
  -- RING_VLIM_HI
  ⟨0x300008, 1, 0x4, 1, 0x4, 0x96649470,
   [⟨16, 16, .rwl, 0, 65535⟩, ⟨0, 16, .rwl, 0, 65535⟩], [(1, 0)]⟩,
  -- RING_VLIM_LO
  ⟨0x30000C, 1, 0x4, 1, 0x4, 0x55F05208,
   [⟨16, 16, .rwl, 0, 65535⟩, ⟨0, 16, .rwl, 0, 65535⟩], [(1, 0)]⟩,
  -- RING_TLIM
  ⟨0x300010, 1, 0x4, 1, 0x4, 0x463C,
   [⟨8, 8, .rwl, 0, 255⟩, ⟨0, 8, .rwl, 0, 255⟩], [(1, 0)]⟩,
  -- RING_CHECK
  ⟨0x300014, 1, 0x4, 1, 0x4, 0x501E2814,
   [⟨24, 8, .rw, 0, 255⟩, ⟨16, 8, .rw, 0, 255⟩, ⟨8, 8, .rw, 0, 255⟩, ⟨0, 8, .rw, 0, 255⟩], []⟩,
  -- RING_BAL_POL
  ⟨0x300018, 1, 0x4, 1, 0x4, 0x14051400,
   [⟨24, 8, .rw, 0, 255⟩, ⟨16, 8, .rw, 0, 255⟩, ⟨8, 8, .rw, 1, 20⟩], [(1, 0)]⟩,
  -- RING_HB_KICK
  ⟨0x30001C, 1, 0x4, 1, 0x4, 0x0,
   [⟨0, 32, .wo, 0, 4294967295⟩], []⟩,
  -- RING_BAL_CMD
  ⟨0x300020, 1, 0x4, 1, 0x4, 0x0,
   [⟨31, 1, .wo, 0, 1⟩, ⟨25, 6, .wo, 0, 63⟩, ⟨23, 2, .wo, 0, 3⟩, ⟨18, 5, .wo, 0, 31⟩, ⟨8, 10, .wo, 0, 1023⟩], []⟩,
  -- RING_BAL_STATUS
  ⟨0x300024, 1, 0x4, 1, 0x4, 0x0,
   [⟨31, 1, .w1c, 0, 1⟩, ⟨24, 4, .ro, 0, 15⟩, ⟨16, 8, .ro, 0, 255⟩, ⟨8, 8, .ro, 0, 255⟩, ⟨0, 8, .ro, 0, 255⟩], []⟩,
  -- RING_OW_CTRL
  ⟨0x300028, 1, 0x4, 1, 0x4, 0x1000000,
   [⟨24, 8, .rw, 1, 255⟩, ⟨15, 1, .rw, 0, 1⟩, ⟨13, 2, .rw, 0, 3⟩, ⟨9, 4, .rw, 1, 12⟩, ⟨0, 1, .w1s, 0, 1⟩], []⟩,
  -- RING_OW_RESULT
  ⟨0x30002C, 1, 0x4, 1, 0x4, 0x0,
   [⟨16, 16, .ro, 0, 65535⟩, ⟨15, 1, .ro, 0, 1⟩, ⟨14, 1, .ro, 0, 1⟩, ⟨13, 1, .ro, 0, 1⟩, ⟨11, 1, .ro, 0, 1⟩, ⟨9, 2, .ro, 0, 3⟩, ⟨5, 4, .ro, 0, 15⟩], []⟩,
  -- RING_STATUS
  ⟨0x300100, 2, 0x80, 1, 0x4, 0x70000,
   [⟨28, 4, .ro, 0, 15⟩, ⟨24, 4, .ro, 0, 15⟩, ⟨16, 3, .ro, 0, 7⟩, ⟨14, 2, .ro, 0, 3⟩, ⟨8, 4, .ro, 0, 15⟩, ⟨4, 4, .ro, 0, 15⟩, ⟨0, 4, .ro, 0, 15⟩], []⟩,
  -- RING_EVT
  ⟨0x300104, 2, 0x80, 1, 0x4, 0x0,
   [⟨19, 1, .w1c, 0, 1⟩, ⟨18, 1, .w1c, 0, 1⟩, ⟨17, 1, .w1c, 0, 1⟩, ⟨16, 1, .w1c, 0, 1⟩, ⟨15, 1, .w1c, 0, 1⟩, ⟨14, 1, .w1c, 0, 1⟩, ⟨13, 1, .w1c, 0, 1⟩, ⟨12, 1, .w1c, 0, 1⟩, ⟨11, 1, .w1c, 0, 1⟩, ⟨10, 1, .w1c, 0, 1⟩, ⟨9, 1, .w1c, 0, 1⟩, ⟨8, 1, .w1c, 0, 1⟩, ⟨7, 1, .w1c, 0, 1⟩, ⟨6, 1, .w1c, 0, 1⟩, ⟨5, 1, .w1c, 0, 1⟩, ⟨4, 1, .w1c, 0, 1⟩, ⟨3, 1, .w1c, 0, 1⟩, ⟨2, 1, .w1c, 0, 1⟩, ⟨1, 1, .w1c, 0, 1⟩, ⟨0, 1, .w1c, 0, 1⟩], []⟩,
  -- RING_SEQ
  ⟨0x300108, 2, 0x80, 1, 0x4, 0x0,
   [⟨0, 32, .ro, 0, 4294967295⟩], []⟩,
  -- RING_ERR_CNT
  ⟨0x30010C, 2, 0x80, 1, 0x4, 0x0,
   [⟨16, 16, .ro, 0, 65535⟩, ⟨8, 8, .ro, 0, 255⟩, ⟨0, 8, .ro, 0, 255⟩], []⟩,
  -- RING_TIME_LO
  ⟨0x300110, 2, 0x80, 1, 0x4, 0x0,
   [⟨0, 32, .ro, 0, 4294967295⟩], []⟩,
  -- RING_TIME_HI
  ⟨0x300114, 2, 0x80, 1, 0x4, 0x0,
   [⟨0, 32, .ro, 0, 4294967295⟩], []⟩,
  -- RING_SUM
  ⟨0x300118, 2, 0x80, 1, 0x4, 0x0,
   [⟨16, 16, .ro, 0, 65535⟩, ⟨0, 16, .ro, 0, 65535⟩], []⟩,
  -- RING_SKEW
  ⟨0x30011C, 2, 0x80, 1, 0x4, 0x0,
   [⟨0, 16, .ro, 0, 65535⟩], []⟩]

def regsRing1 : List RegSpec := [
  -- RING_SWAP
  ⟨0x300120, 2, 0x80, 1, 0x4, 0x0,
   [⟨28, 4, .ro, 0, 15⟩, ⟨24, 4, .ro, 0, 15⟩, ⟨16, 6, .ro, 0, 63⟩, ⟨8, 6, .ro, 0, 63⟩], []⟩,
  -- RING_MON_STATUS
  ⟨0x300130, 2, 0x80, 4, 0x4, 0x0,
   [⟨24, 4, .ro, 0, 15⟩, ⟨16, 8, .ro, 0, 255⟩, ⟨0, 16, .ro, 0, 65535⟩], []⟩,
  -- RING_MON_UID_LO
  ⟨0x300140, 2, 0x80, 4, 0x8, 0x0,
   [⟨0, 32, .ro, 0, 4294967295⟩], []⟩,
  -- RING_MON_UID_HI
  ⟨0x300144, 2, 0x80, 4, 0x8, 0x0,
   [⟨0, 32, .ro, 0, 4294967295⟩], []⟩,
  -- RING_CELL_0
  ⟨0x301000, 2, 0x200, 52, 0x8, 0x0,
   [⟨0, 32, .ro, 0, 4294967295⟩], []⟩,
  -- RING_CELL_1
  ⟨0x301004, 2, 0x200, 52, 0x8, 0x0,
   [⟨0, 32, .ro, 0, 4294967295⟩], []⟩]

def regsRing : List RegSpec := regsRing0 ++ regsRing1

def regsEst0 : List RegSpec := [
  -- EST_CTRL
  ⟨0x380000, 1, 0x4, 1, 0x4, 0x3,
   [⟨2, 1, .w1s, 0, 1⟩, ⟨1, 1, .rw, 0, 1⟩, ⟨0, 1, .rw, 0, 1⟩], []⟩,
  -- EST_STATUS
  ⟨0x380004, 1, 0x4, 1, 0x4, 0x0,
   [⟨11, 1, .ro, 0, 1⟩, ⟨10, 1, .w1c, 0, 1⟩, ⟨9, 1, .w1c, 0, 1⟩, ⟨8, 1, .w1c, 0, 1⟩, ⟨7, 1, .w1c, 0, 1⟩], []⟩,
  -- EST_CFG
  ⟨0x380008, 1, 0x4, 1, 0x4, 0x10080064,
   [⟨24, 8, .rwl, 8, 24⟩, ⟨16, 8, .rwl, 1, 16⟩, ⟨0, 16, .rwl, 10, 2000⟩], []⟩,
  -- EST_LIM
  ⟨0x38000C, 1, 0x4, 1, 0x4, 0xE7408FC,
   [⟨16, 16, .rwl, 0, 65535⟩, ⟨0, 16, .rwl, 0, 65535⟩], [(1, 0)]⟩,
  -- EST_UNC
  ⟨0x380010, 1, 0x4, 1, 0x4, 0x3264,
   [⟨8, 8, .rwl, 0, 255⟩, ⟨0, 8, .rwl, 1, 255⟩], []⟩,
  -- EST_REST_CFG
  ⟨0x380014, 1, 0x4, 1, 0x4, 0xC5A6400,
   [⟨24, 8, .rw, 1, 255⟩, ⟨16, 8, .rw, 30, 255⟩, ⟨8, 8, .rw, 1, 150⟩], []⟩,
  -- EST_REST_STATUS
  ⟨0x380018, 1, 0x4, 1, 0x4, 0x0,
   [⟨28, 4, .ro, 0, 15⟩, ⟨24, 4, .ro, 0, 15⟩, ⟨23, 1, .ro, 0, 1⟩, ⟨8, 8, .ro, 0, 255⟩, ⟨1, 1, .w1c, 0, 1⟩, ⟨0, 1, .w1c, 0, 1⟩], []⟩,
  -- EST_SOC
  ⟨0x38001C, 1, 0x4, 1, 0x4, 0x0,
   [⟨16, 16, .ro, 0, 65535⟩, ⟨0, 16, .ro, 0, 65535⟩], []⟩,
  -- EST_SOC_SHELF
  ⟨0x380020, 1, 0x4, 1, 0x4, 0x0,
   [⟨0, 16, .ro, 0, 65535⟩], []⟩,
  -- EST_HR_DN
  ⟨0x380024, 1, 0x4, 1, 0x4, 0x0,
   [⟨0, 32, .ro, 0, 4294967295⟩], []⟩,
  -- EST_HR_UP
  ⟨0x380028, 1, 0x4, 1, 0x4, 0x0,
   [⟨0, 32, .ro, 0, 4294967295⟩], []⟩,
  -- EST_SEQ
  ⟨0x38002C, 1, 0x4, 1, 0x4, 0x0,
   [⟨16, 16, .ro, 0, 65535⟩, ⟨0, 16, .ro, 0, 65535⟩], []⟩,
  -- EST_JNL_CTRL
  ⟨0x380030, 1, 0x4, 1, 0x4, 0x0,
   [⟨0, 1, .w1s, 0, 1⟩], []⟩,
  -- EST_JNL_STATUS
  ⟨0x380034, 1, 0x4, 1, 0x4, 0x0,
   [⟨16, 16, .ro, 0, 65535⟩, ⟨10, 6, .ro, 0, 63⟩, ⟨9, 1, .ro, 0, 1⟩, ⟨8, 1, .ro, 0, 1⟩, ⟨7, 1, .ro, 0, 1⟩, ⟨6, 1, .ro, 0, 1⟩, ⟨5, 1, .ro, 0, 1⟩], []⟩,
  -- EST_JNL_GEN
  ⟨0x380038, 1, 0x4, 1, 0x4, 0x0,
   [⟨0, 32, .ro, 0, 4294967295⟩], []⟩,
  -- EST_STR_STATUS
  ⟨0x380100, 2, 0x40, 1, 0x4, 0x0,
   [⟨24, 8, .ro, 0, 255⟩, ⟨15, 1, .ro, 0, 1⟩, ⟨14, 1, .ro, 0, 1⟩, ⟨13, 1, .ro, 0, 1⟩], []⟩,
  -- EST_EFC
  ⟨0x380104, 2, 0x40, 1, 0x4, 0x0,
   [⟨0, 32, .rwl, 0, 4294967295⟩], []⟩,
  -- EST_CAP
  ⟨0x380108, 2, 0x40, 1, 0x4, 0x0,
   [⟨0, 32, .ro, 0, 4294967295⟩], []⟩,
  -- EST_RES
  ⟨0x38010C, 2, 0x40, 1, 0x4, 0x0,
   [⟨0, 32, .ro, 0, 4294967295⟩], []⟩,
  -- EST_BIAS
  ⟨0x380110, 2, 0x40, 1, 0x4, 0x0,
   [⟨16, 16, .ro, 0, 65535⟩, ⟨0, 16, .ro, 0, 65535⟩], []⟩]

def regsEst1 : List RegSpec := [
  -- EST_REF_LO
  ⟨0x380114, 2, 0x40, 1, 0x4, 0x0,
   [⟨0, 32, .ro, 0, 4294967295⟩], []⟩,
  -- EST_REF_HI
  ⟨0x380118, 2, 0x40, 1, 0x4, 0x0,
   [⟨0, 8, .ro, 0, 255⟩], []⟩,
  -- EST_CELL_0
  ⟨0x381000, 2, 0x200, 52, 0x8, 0x0,
   [⟨0, 32, .ro, 0, 4294967295⟩], []⟩,
  -- EST_CELL_1
  ⟨0x381004, 2, 0x200, 52, 0x8, 0x0,
   [⟨0, 32, .ro, 0, 4294967295⟩], []⟩]

def regsEst : List RegSpec := regsEst0 ++ regsEst1

def regsFab0 : List RegSpec := [
  -- FAB_CTRL
  ⟨0x400000, 1, 0x4, 1, 0x4, 0x7,
   [⟨8, 1, .w1s, 0, 1⟩, ⟨3, 1, .rw, 0, 1⟩, ⟨2, 1, .rw, 0, 1⟩, ⟨1, 1, .rw, 0, 1⟩, ⟨0, 1, .rw, 0, 1⟩], []⟩,
  -- FAB_STATUS
  ⟨0x400004, 1, 0x4, 1, 0x4, 0x0,
   [⟨23, 1, .ro, 0, 1⟩, ⟨22, 1, .w1c, 0, 1⟩, ⟨21, 1, .w1c, 0, 1⟩, ⟨20, 1, .w1c, 0, 1⟩, ⟨19, 1, .ro, 0, 1⟩, ⟨18, 1, .ro, 0, 1⟩, ⟨16, 2, .ro, 0, 3⟩, ⟨11, 1, .ro, 0, 1⟩, ⟨10, 1, .ro, 0, 1⟩, ⟨9, 1, .ro, 0, 1⟩, ⟨8, 1, .ro, 0, 1⟩], []⟩,
  -- FAB_ID
  ⟨0x400008, 1, 0x4, 1, 0x4, 0x0,
   [⟨16, 16, .ro, 0, 65535⟩, ⟨9, 5, .ro, 0, 31⟩, ⟨0, 9, .ro, 0, 511⟩], []⟩,
  -- FAB_LEADS
  ⟨0x40000C, 1, 0x4, 1, 0x4, 0x1FF01FF,
   [⟨16, 9, .ro, 0, 511⟩, ⟨0, 9, .ro, 0, 511⟩], []⟩,
  -- FAB_EPOCH
  ⟨0x400010, 1, 0x4, 1, 0x4, 0x0,
   [⟨16, 16, .ro, 0, 65535⟩, ⟨0, 16, .ro, 0, 65535⟩], []⟩,
  -- FAB_TIME_OFS
  ⟨0x400014, 1, 0x4, 1, 0x4, 0x0,
   [⟨0, 32, .ro, 0, 4294967295⟩], []⟩,
  -- FAB_DELAY
  ⟨0x400018, 1, 0x4, 1, 0x4, 0x0,
   [⟨16, 16, .ro, 0, 65535⟩, ⟨0, 16, .ro, 0, 65535⟩], []⟩,
  -- FAB_TARGET
  ⟨0x40001C, 1, 0x4, 1, 0x4, 0x0,
   [⟨0, 32, .ro, 0, 4294967295⟩], []⟩,
  -- FAB_TEAM
  ⟨0x400020, 1, 0x4, 1, 0x4, 0x0,
   [⟨16, 16, .ro, 0, 65535⟩, ⟨0, 16, .ro, 0, 65535⟩], []⟩,
  -- FAB_PATH
  ⟨0x400024, 2, 0x4, 1, 0x4, 0x0,
   [⟨16, 8, .ro, 0, 255⟩, ⟨4, 1, .w1c, 0, 1⟩, ⟨3, 1, .ro, 0, 1⟩, ⟨2, 1, .ro, 0, 1⟩, ⟨1, 1, .ro, 0, 1⟩, ⟨0, 1, .ro, 0, 1⟩], []⟩,
  -- FAB_RX_CNT
  ⟨0x40002C, 1, 0x4, 1, 0x4, 0x0,
   [⟨0, 32, .ro, 0, 4294967295⟩], []⟩,
  -- FAB_DUP_CNT
  ⟨0x400030, 1, 0x4, 1, 0x4, 0x0,
   [⟨0, 32, .ro, 0, 4294967295⟩], []⟩,
  -- FAB_LATE_CNT
  ⟨0x400034, 1, 0x4, 1, 0x4, 0x0,
   [⟨16, 16, .ro, 0, 65535⟩, ⟨0, 16, .ro, 0, 65535⟩], []⟩,
  -- FAB_ABS_CFG
  ⟨0x400038, 1, 0x4, 1, 0x4, 0x640008,
   [⟨16, 16, .rw, 1, 1000⟩, ⟨0, 8, .rw, 1, 255⟩], []⟩,
  -- FAB_HALL_CFG
  ⟨0x40003C, 1, 0x4, 1, 0x4, 0x0,
   [⟨16, 16, .rw, 0, 65535⟩], []⟩,
  -- FAB_HALL_MIN
  ⟨0x400040, 1, 0x4, 1, 0x4, 0x0,
   [⟨0, 32, .rw, 0, 4294967295⟩], []⟩,
  -- FAB_HALL_MAX
  ⟨0x400044, 1, 0x4, 1, 0x4, 0x0,
   [⟨0, 32, .rw, 0, 4294967295⟩], []⟩,
  -- FAB_HALL_TARGET
  ⟨0x400048, 1, 0x4, 1, 0x4, 0x0,
   [⟨0, 32, .ro, 0, 4294967295⟩], []⟩,
  -- FAB_BULK_CFG
  ⟨0x40004C, 1, 0x4, 1, 0x4, 0x3D090003,
   [⟨16, 16, .rw, 64, 15625⟩, ⟨0, 2, .rw, 0, 3⟩], []⟩,
  -- FAB_BULK_STATUS
  ⟨0x400050, 1, 0x4, 1, 0x4, 0x0,
   [⟨16, 16, .ro, 0, 65535⟩, ⟨0, 16, .ro, 0, 65535⟩], []⟩]

def regsFab1 : List RegSpec := [
  -- FAB_ALARM_Q
  ⟨0x400054, 1, 0x4, 1, 0x4, 0x0,
   [⟨0, 16, .ro, 0, 65535⟩], []⟩]

def regsFab : List RegSpec := regsFab0 ++ regsFab1

def regsBrd : List RegSpec := [
  -- BRD_STATUS
  ⟨0x500000, 1, 0x4, 1, 0x4, 0x0,
   [⟨28, 4, .ro, 0, 15⟩, ⟨26, 2, .ro, 0, 3⟩, ⟨24, 2, .ro, 0, 3⟩, ⟨20, 4, .ro, 0, 15⟩, ⟨8, 8, .ro, 0, 255⟩, ⟨7, 1, .ro, 0, 1⟩, ⟨6, 1, .ro, 0, 1⟩, ⟨5, 1, .ro, 0, 1⟩, ⟨4, 1, .ro, 0, 1⟩, ⟨3, 1, .ro, 0, 1⟩], []⟩,
  -- BRD_EVT
  ⟨0x500004, 1, 0x4, 1, 0x4, 0x0,
   [⟨7, 1, .w1c, 0, 1⟩, ⟨6, 1, .w1c, 0, 1⟩, ⟨5, 1, .w1c, 0, 1⟩, ⟨4, 1, .w1c, 0, 1⟩, ⟨3, 1, .w1c, 0, 1⟩, ⟨2, 1, .w1c, 0, 1⟩, ⟨1, 1, .w1c, 0, 1⟩, ⟨0, 1, .w1c, 0, 1⟩], []⟩,
  -- BRD_LAST
  ⟨0x500008, 1, 0x4, 1, 0x4, 0x0,
   [⟨24, 8, .ro, 0, 255⟩, ⟨16, 2, .ro, 0, 3⟩, ⟨0, 16, .ro, 0, 65535⟩], []⟩,
  -- BRD_COUNT
  ⟨0x50000C, 1, 0x4, 1, 0x4, 0x0,
   [⟨16, 16, .ro, 0, 65535⟩, ⟨8, 8, .ro, 0, 255⟩, ⟨0, 8, .ro, 0, 255⟩], []⟩,
  -- BRD_CAUSE
  ⟨0x500010, 4, 0x4, 1, 0x4, 0x0,
   [⟨16, 16, .ro, 0, 65535⟩, ⟨0, 16, .ro, 0, 65535⟩], []⟩,
  -- BRD_BUS_LIM
  ⟨0x500020, 1, 0x4, 1, 0x4, 0x170C11F8,
   [⟨16, 16, .rwl, 5000, 6500⟩, ⟨0, 16, .rwl, 4000, 4790⟩], []⟩,
  -- BRD_STR_LIM
  ⟨0x500024, 1, 0x4, 1, 0x4, 0x73A0410,
   [⟨16, 16, .rwl, 1600, 2200⟩, ⟨0, 16, .rwl, 900, 1300⟩], []⟩,
  -- BRD_TEMP_LIM
  ⟨0x500028, 1, 0x4, 1, 0x4, 0x7D735541,
   [⟨24, 8, .rwl, 50, 125⟩, ⟨16, 8, .rwl, 50, 115⟩, ⟨8, 8, .rwl, 50, 85⟩, ⟨0, 8, .rwl, 50, 65⟩], []⟩,
  -- BRD_TEMP
  ⟨0x50002C, 1, 0x4, 1, 0x4, 0x0,
   [⟨24, 8, .ro, 0, 255⟩, ⟨16, 8, .ro, 0, 255⟩, ⟨8, 8, .ro, 0, 255⟩, ⟨0, 8, .ro, 0, 255⟩], []⟩,
  -- BRD_RECOV_CFG
  ⟨0x500030, 1, 0x4, 1, 0x4, 0x140A0521,
   [⟨24, 8, .rwl, 1, 255⟩, ⟨16, 8, .rwl, 1, 100⟩, ⟨8, 8, .rwl, 1, 255⟩, ⟨4, 2, .rwl, 2, 3⟩, ⟨0, 4, .rwl, 1, 15⟩], []⟩,
  -- BRD_SS_CFG
  ⟨0x500034, 1, 0x4, 1, 0x4, 0x6403,
   [⟨8, 8, .rwl, 10, 255⟩, ⟨0, 4, .rwl, 1, 15⟩], []⟩,
  -- BRD_WDT_CFG
  ⟨0x500038, 1, 0x4, 1, 0x4, 0xA,
   [⟨0, 8, .rwl, 2, 100⟩], []⟩,
  -- BRD_WDT_KICK
  ⟨0x50003C, 1, 0x4, 1, 0x4, 0x0,
   [⟨0, 32, .wo, 0, 4294967295⟩], []⟩,
  -- BRD_HOST_CFG
  ⟨0x500040, 1, 0x4, 1, 0x4, 0xA,
   [⟨0, 8, .rw, 0, 255⟩], []⟩,
  -- BRD_HOST_KICK
  ⟨0x500044, 1, 0x4, 1, 0x4, 0x0,
   [⟨0, 32, .wo, 0, 4294967295⟩], []⟩,
  -- BRD_COOL
  ⟨0x500048, 1, 0x4, 1, 0x4, 0x64960000,
   [⟨24, 8, .ro, 0, 255⟩, ⟨16, 8, .ro, 0, 255⟩, ⟨8, 2, .ro, 0, 3⟩, ⟨0, 8, .ro, 0, 255⟩], []⟩,
  -- BRD_PENDING
  ⟨0x50004C, 1, 0x4, 1, 0x4, 0x0,
   [⟨24, 1, .ro, 0, 1⟩, ⟨16, 8, .ro, 0, 255⟩, ⟨0, 13, .ro, 0, 8191⟩], []⟩]

def regsSbg : List RegSpec := [
  -- SBG_CTRL
  ⟨0x580000, 1, 0x4, 1, 0x4, 0x0,
   [⟨1, 1, .w1s, 0, 1⟩], []⟩,
  -- SBG_STATUS
  ⟨0x580004, 1, 0x4, 1, 0x4, 0x0,
   [⟨7, 1, .w1c, 0, 1⟩, ⟨6, 1, .ro, 0, 1⟩, ⟨5, 1, .w1c, 0, 1⟩, ⟨4, 1, .ro, 0, 1⟩, ⟨3, 1, .ro, 0, 1⟩, ⟨2, 1, .ro, 0, 1⟩, ⟨0, 2, .ro, 0, 3⟩], []⟩,
  -- SBG_SEQ
  ⟨0x580008, 1, 0x4, 1, 0x4, 0x0,
   [⟨0, 32, .ro, 0, 4294967295⟩], []⟩,
  -- SBG_OPSEC_LO
  ⟨0x58000C, 1, 0x4, 1, 0x4, 0x0,
   [⟨0, 32, .ro, 0, 4294967295⟩], []⟩,
  -- SBG_OPSEC_HI
  ⟨0x580010, 1, 0x4, 1, 0x4, 0x0,
   [⟨0, 8, .ro, 0, 255⟩], []⟩,
  -- SBG_CYCLES
  ⟨0x580014, 1, 0x4, 1, 0x4, 0x0,
   [⟨0, 32, .ro, 0, 4294967295⟩], []⟩,
  -- SBG_RING
  ⟨0x580018, 1, 0x4, 1, 0x4, 0x0,
   [⟨16, 16, .ro, 0, 65535⟩, ⟨0, 16, .ro, 0, 65535⟩], []⟩,
  -- SBG_LOST
  ⟨0x58001C, 1, 0x4, 1, 0x4, 0x0,
   [⟨0, 32, .ro, 0, 4294967295⟩], []⟩,
  -- SBG_INC_KEEP
  ⟨0x580020, 1, 0x4, 1, 0x4, 0x0,
   [⟨0, 16, .rw, 0, 65535⟩], []⟩,
  -- SBG_WIN_SEL
  ⟨0x580024, 1, 0x4, 1, 0x4, 0x0,
   [⟨0, 5, .rw, 0, 23⟩], []⟩,
  -- SBG_TRIG
  ⟨0x580028, 1, 0x4, 1, 0x4, 0x0,
   [⟨0, 16, .w1s, 0, 65535⟩], []⟩,
  -- SBG_INC_SLOT
  ⟨0x580100, 16, 0x10, 1, 0x4, 0x0,
   [⟨16, 16, .ro, 0, 65535⟩, ⟨8, 8, .ro, 0, 255⟩], []⟩,
  -- SBG_INC_TIME_LO
  ⟨0x580108, 16, 0x10, 1, 0x4, 0x0,
   [⟨0, 32, .ro, 0, 4294967295⟩], []⟩,
  -- SBG_INC_TIME_HI
  ⟨0x58010C, 16, 0x10, 1, 0x4, 0x0,
   [⟨0, 32, .ro, 0, 4294967295⟩], []⟩,
  -- SBG_LIST_CFG
  ⟨0x581000, 16, 0x100, 1, 0x4, 0x0,
   [⟨24, 8, .rw, 0, 255⟩, ⟨16, 8, .rw, 0, 255⟩, ⟨8, 8, .rw, 0, 32⟩, ⟨4, 1, .rw, 0, 1⟩, ⟨0, 3, .rw, 0, 4⟩], []⟩,
  -- SBG_LIST_CODE
  ⟨0x581004, 16, 0x100, 1, 0x4, 0x0,
   [⟨16, 16, .rw, 0, 65535⟩, ⟨0, 16, .rw, 0, 65535⟩], []⟩,
  -- SBG_LIST_STATUS
  ⟨0x581008, 16, 0x100, 1, 0x4, 0x0,
   [⟨16, 16, .ro, 0, 65535⟩, ⟨1, 1, .w1c, 0, 1⟩, ⟨0, 1, .ro, 0, 1⟩], []⟩,
  -- SBG_LIST_ADDR
  ⟨0x581080, 16, 0x100, 32, 0x4, 0x0,
   [⟨0, 32, .rw, 0, 4294967295⟩], []⟩,
  -- SBG_WIN
  ⟨0x590000, 16384, 0x4, 1, 0x4, 0x0,
   [⟨0, 32, .ro, 0, 4294967295⟩], []⟩]

def regsRmt : List RegSpec := [
  -- RMT_CTRL
  ⟨0x5C0000, 1, 0x4, 1, 0x4, 0x3FF,
   [⟨16, 10, .w1s, 0, 1023⟩, ⟨9, 1, .rw, 0, 1⟩, ⟨6, 3, .ro, 0, 7⟩, ⟨0, 6, .rw, 0, 63⟩], []⟩,
  -- RMT_STATUS
  ⟨0x5C0004, 1, 0x4, 1, 0x4, 0x4000,
   [⟨15, 1, .ro, 0, 1⟩, ⟨14, 1, .ro, 0, 1⟩, ⟨3, 1, .w1c, 0, 1⟩, ⟨2, 1, .w1c, 0, 1⟩, ⟨1, 1, .w1c, 0, 1⟩, ⟨0, 1, .w1c, 0, 1⟩], []⟩,
  -- RMT_REQ
  ⟨0x5C0008, 1, 0x4, 1, 0x4, 0x0,
   [⟨28, 4, .wo, 0, 15⟩, ⟨16, 12, .wo, 0, 4095⟩, ⟨4, 12, .wo, 0, 4095⟩], []⟩,
  -- RMT_RETIRE
  ⟨0x5C000C, 1, 0x4, 1, 0x4, 0x0,
   [⟨28, 4, .wo, 0, 15⟩, ⟨16, 12, .wo, 0, 4095⟩], []⟩,
  -- RMT_FREE0
  ⟨0x5C0010, 1, 0x4, 1, 0x4, 0x0,
   [⟨28, 4, .ro, 0, 15⟩, ⟨24, 4, .ro, 0, 15⟩, ⟨20, 4, .ro, 0, 15⟩, ⟨16, 4, .ro, 0, 15⟩, ⟨12, 4, .ro, 0, 15⟩, ⟨8, 4, .ro, 0, 15⟩, ⟨4, 4, .ro, 0, 15⟩, ⟨0, 2, .ro, 0, 3⟩], []⟩,
  -- RMT_FREE1
  ⟨0x5C0014, 1, 0x4, 1, 0x4, 0x92492420,
   [⟨8, 24, .ro, 0, 16777215⟩, ⟨0, 8, .ro, 0, 255⟩], []⟩,
  -- RMT_FREE2
  ⟨0x5C0018, 1, 0x4, 1, 0x4, 0x0,
   [⟨16, 16, .ro, 0, 65535⟩, ⟨0, 16, .ro, 0, 65535⟩], []⟩,
  -- RMT_WEAR_SEL
  ⟨0x5C001C, 1, 0x4, 1, 0x4, 0x0,
   [⟨28, 4, .rw, 0, 9⟩, ⟨16, 12, .rw, 0, 4095⟩], []⟩,
  -- RMT_WEAR_DATA
  ⟨0x5C0020, 4, 0x4, 1, 0x4, 0x0,
   [⟨0, 32, .ro, 0, 4294967295⟩], []⟩,
  -- RMT_KIND
  ⟨0x5C0040, 10, 0x4, 1, 0x4, 0x0,
   [⟨28, 4, .ro, 0, 15⟩, ⟨24, 4, .ro, 0, 15⟩, ⟨12, 12, .ro, 0, 4095⟩, ⟨0, 12, .ro, 0, 4095⟩], []⟩,
  -- RMT_LOG_STATUS
  ⟨0x5C0080, 1, 0x4, 1, 0x4, 0x0,
   [⟨16, 16, .ro, 0, 65535⟩, ⟨0, 6, .ro, 0, 63⟩], []⟩,
  -- RMT_LOG
  ⟨0x5C0100, 512, 0x4, 1, 0x4, 0x0,
   [⟨0, 32, .ro, 0, 4294967295⟩], []⟩]

def regsTel : List RegSpec := [
  -- TEL_CTRL
  ⟨0x600000, 1, 0x4, 1, 0x4, 0x0,
   [⟨12, 4, .rw, 0, 8⟩, ⟨4, 4, .rw, 0, 15⟩, ⟨0, 1, .rw, 0, 1⟩], []⟩,
  -- TEL_R_CTRL
  ⟨0x600100, 4, 0x40, 1, 0x4, 0x100CF0,
   [⟨24, 8, .rw, 0, 255⟩, ⟨16, 8, .rw, 1, 255⟩, ⟨8, 8, .rw, 8, 20⟩, ⟨4, 4, .rw, 0, 15⟩, ⟨0, 1, .rw, 0, 1⟩], []⟩,
  -- TEL_R_STATUS
  ⟨0x600104, 4, 0x40, 1, 0x4, 0x0,
   [⟨30, 2, .ro, 0, 3⟩, ⟨16, 1, .ro, 0, 1⟩, ⟨2, 1, .w1c, 0, 1⟩, ⟨1, 1, .w1c, 0, 1⟩, ⟨0, 1, .w1c, 0, 1⟩], []⟩,
  -- TEL_R_BASE_LO
  ⟨0x600108, 4, 0x40, 1, 0x4, 0x0,
   [⟨0, 32, .rw, 0, 4294967295⟩], []⟩,
  -- TEL_R_BASE_HI
  ⟨0x60010C, 4, 0x40, 1, 0x4, 0x0,
   [⟨0, 32, .rw, 0, 4294967295⟩], []⟩,
  -- TEL_R_WB_LO
  ⟨0x600110, 4, 0x40, 1, 0x4, 0x0,
   [⟨0, 32, .rw, 0, 4294967295⟩], []⟩,
  -- TEL_R_WB_HI
  ⟨0x600114, 4, 0x40, 1, 0x4, 0x0,
   [⟨0, 32, .rw, 0, 4294967295⟩], []⟩,
  -- TEL_R_HEAD
  ⟨0x600118, 4, 0x40, 1, 0x4, 0x0,
   [⟨0, 20, .rw, 0, 1048575⟩], []⟩,
  -- TEL_R_TAIL
  ⟨0x60011C, 4, 0x40, 1, 0x4, 0x0,
   [⟨0, 20, .ro, 0, 1048575⟩], []⟩,
  -- TEL_R_LOST
  ⟨0x600120, 4, 0x40, 1, 0x4, 0x0,
   [⟨0, 32, .ro, 0, 4294967295⟩], []⟩]

def regsLks0 : List RegSpec := [
  -- LKS_DIE_STATUS
  ⟨0x1000000, 2, 0x800000, 1, 0x4, 0x44000,
   [⟨23, 1, .w1c, 0, 1⟩, ⟨22, 1, .w1c, 0, 1⟩, ⟨21, 1, .ro, 0, 1⟩, ⟨20, 1, .ro, 0, 1⟩, ⟨16, 4, .ro, 0, 15⟩, ⟨8, 7, .ro, 0, 127⟩, ⟨0, 7, .ro, 0, 127⟩], []⟩,
  -- LKS_PART
  ⟨0x1000004, 2, 0x800000, 1, 0x4, 0x0,
   [⟨16, 16, .ro, 0, 65535⟩, ⟨8, 8, .ro, 0, 255⟩, ⟨0, 8, .ro, 0, 255⟩], []⟩,
  -- LKS_PWR_CAP
  ⟨0x1000008, 2, 0x800000, 1, 0x4, 0x9600,
   [⟨8, 8, .rw, 20, 150⟩], []⟩,
  -- LKS_PWR_STATUS
  ⟨0x100000C, 2, 0x800000, 1, 0x4, 0x96001010,
   [⟨24, 8, .ro, 0, 255⟩, ⟨16, 8, .ro, 0, 255⟩, ⟨8, 5, .ro, 0, 31⟩, ⟨0, 5, .ro, 0, 31⟩], []⟩,
  -- LKS_FENCE_ERR
  ⟨0x1000010, 2, 0x800000, 1, 0x4, 0x0,
   [⟨31, 1, .w1c, 0, 1⟩, ⟨16, 8, .ro, 0, 255⟩, ⟨12, 4, .ro, 0, 15⟩, ⟨0, 12, .ro, 0, 4095⟩], []⟩,
  -- LKS_FENCE_ADDR_LO
  ⟨0x1000014, 2, 0x800000, 1, 0x4, 0x0,
   [⟨0, 32, .ro, 0, 4294967295⟩], []⟩,
  -- LKS_FENCE_ADDR_HI
  ⟨0x1000018, 2, 0x800000, 1, 0x4, 0x0,
   [⟨0, 32, .ro, 0, 4294967295⟩], []⟩,
  -- LKS_ECC
  ⟨0x100001C, 2, 0x800000, 1, 0x4, 0x0,
   [⟨16, 16, .ro, 0, 65535⟩, ⟨8, 8, .ro, 0, 255⟩, ⟨0, 8, .ro, 0, 255⟩], []⟩,
  -- LKS_IDLE_CFG
  ⟨0x1000020, 2, 0x800000, 1, 0x4, 0x3E8,
   [⟨0, 16, .rw, 0, 65535⟩], []⟩,
  -- LKS_CORE
  ⟨0x1000100, 2, 0x800000, 64, 0x4, 0x0,
   [⟨31, 1, .ro, 0, 1⟩, ⟨24, 7, .ro, 0, 127⟩, ⟨21, 3, .ro, 0, 7⟩, ⟨16, 5, .ro, 0, 31⟩, ⟨8, 8, .ro, 0, 255⟩, ⟨0, 8, .ro, 0, 255⟩], []⟩,
  -- LKS_PCORE
  ⟨0x1000200, 2, 0x800000, 68, 0x4, 0x0,
   [⟨30, 2, .ro, 0, 3⟩, ⟨16, 7, .ro, 0, 127⟩, ⟨0, 16, .ro, 0, 65535⟩], []⟩,
  -- LKS_TIER_CTRL
  ⟨0x1000400, 2, 0x800000, 2, 0x20, 0x4,
   [⟨2, 1, .rw, 0, 1⟩, ⟨1, 1, .w1s, 0, 1⟩, ⟨0, 1, .w1s, 0, 1⟩], []⟩,
  -- LKS_TIER_STATUS
  ⟨0x1000404, 2, 0x800000, 2, 0x20, 0x0,
   [⟨28, 4, .ro, 0, 15⟩, ⟨24, 4, .ro, 0, 15⟩, ⟨0, 23, .ro, 0, 8388607⟩], []⟩,
  -- LKS_TIER_SRC_LO
  ⟨0x1000408, 2, 0x800000, 2, 0x20, 0x0,
   [⟨0, 32, .rw, 0, 4294967295⟩], []⟩,
  -- LKS_TIER_SRC_HI
  ⟨0x100040C, 2, 0x800000, 2, 0x20, 0x0,
   [⟨0, 16, .rw, 0, 65535⟩], []⟩,
  -- LKS_TIER_DST_LO
  ⟨0x1000410, 2, 0x800000, 2, 0x20, 0x0,
   [⟨0, 32, .rw, 0, 4294967295⟩], []⟩,
  -- LKS_TIER_DST_HI
  ⟨0x1000414, 2, 0x800000, 2, 0x20, 0x0,
   [⟨0, 16, .rw, 0, 65535⟩], []⟩,
  -- LKS_TIER_LEN
  ⟨0x1000418, 2, 0x800000, 2, 0x20, 0x0,
   [⟨0, 23, .rw, 1, 4194304⟩], []⟩,
  -- LKS_BAR2_WIN
  ⟨0x1000800, 4, 0x4, 1, 0x4, 0x0,
   [⟨31, 1, .rw, 0, 1⟩, ⟨0, 14, .rw, 0, 16383⟩], []⟩,
  -- LKS_BAR2_STATUS
  ⟨0x1000810, 1, 0x4, 1, 0x4, 0x0,
   [⟨0, 1, .w1c, 0, 1⟩], []⟩]

def regsLks1 : List RegSpec := [
  -- LKS_TRAIN_CTRL
  ⟨0x1000900, 1, 0x4, 1, 0x4, 0x3C2002,
   [⟨16, 16, .rw, 1, 65535⟩, ⟨8, 8, .rw, 1, 64⟩, ⟨6, 1, .w1s, 0, 1⟩, ⟨5, 1, .w1s, 0, 1⟩, ⟨4, 1, .w1s, 0, 1⟩, ⟨3, 1, .rw, 0, 1⟩, ⟨2, 1, .w1s, 0, 1⟩, ⟨1, 1, .rw, 0, 1⟩, ⟨0, 1, .rw, 0, 1⟩], []⟩,
  -- LKS_TRAIN_BOUND
  ⟨0x1000904, 1, 0x4, 1, 0x4, 0x6232003C,
   [⟨24, 8, .rw, 50, 100⟩, ⟨16, 8, .rw, 0, 255⟩, ⟨0, 16, .rw, 10, 600⟩], []⟩,
  -- LKS_TRAIN_STATUS
  ⟨0x1000908, 1, 0x4, 1, 0x4, 0x0,
   [⟨28, 4, .ro, 0, 15⟩, ⟨24, 4, .ro, 0, 15⟩, ⟨2, 1, .w1c, 0, 1⟩, ⟨1, 1, .w1c, 0, 1⟩, ⟨0, 1, .w1c, 0, 1⟩], []⟩,
  -- LKS_TRAIN_GEN
  ⟨0x100090C, 1, 0x4, 1, 0x4, 0x0,
   [⟨16, 16, .ro, 0, 65535⟩, ⟨0, 16, .ro, 0, 65535⟩], []⟩,
  -- LKS_TRAIN_MAE
  ⟨0x1000910, 1, 0x4, 1, 0x4, 0x0,
   [⟨16, 16, .ro, 0, 65535⟩, ⟨0, 16, .ro, 0, 65535⟩], []⟩,
  -- LKS_TRAIN_XFER_LO
  ⟨0x1000914, 1, 0x4, 1, 0x4, 0x0,
   [⟨0, 32, .rw, 0, 4294967295⟩], []⟩,
  -- LKS_TRAIN_XFER_HI
  ⟨0x1000918, 1, 0x4, 1, 0x4, 0x0,
   [⟨0, 16, .rw, 0, 65535⟩], []⟩,
  -- LKS_FLEET_CTRL
  ⟨0x1000A00, 1, 0x4, 1, 0x4, 0x0,
   [⟨8, 24, .rw, 0, 16777215⟩, ⟨0, 1, .rw, 0, 1⟩], []⟩,
  -- LKS_FLEET_STATUS
  ⟨0x1000A04, 1, 0x4, 1, 0x4, 0x0,
   [⟨22, 10, .ro, 0, 1023⟩, ⟨3, 1, .w1c, 0, 1⟩, ⟨2, 1, .w1c, 0, 1⟩, ⟨1, 1, .w1c, 0, 1⟩, ⟨0, 1, .ro, 0, 1⟩], []⟩,
  -- LKS_FLEET_ROUND
  ⟨0x1000A08, 1, 0x4, 1, 0x4, 0x0,
   [⟨0, 32, .ro, 0, 4294967295⟩], []⟩,
  -- LKS_FLEET_DISCARD
  ⟨0x1000A0C, 1, 0x4, 1, 0x4, 0x0,
   [⟨0, 32, .ro, 0, 4294967295⟩], []⟩,
  -- LKS_FLEET_MEMBERS
  ⟨0x1000A10, 16, 0x4, 1, 0x4, 0x0,
   [⟨0, 32, .rw, 0, 4294967295⟩], []⟩,
  -- LKS_Q_CTRL
  ⟨0x1010000, 2, 0x800000, 64, 0x40, 0x10800,
   [⟨24, 8, .rw, 0, 255⟩, ⟨16, 8, .rw, 1, 255⟩, ⟨8, 8, .rw, 4, 16⟩, ⟨1, 1, .w1s, 0, 1⟩, ⟨0, 1, .rw, 0, 1⟩], []⟩,
  -- LKS_Q_STATUS
  ⟨0x1010004, 2, 0x800000, 64, 0x40, 0x0,
   [⟨3, 1, .w1c, 0, 1⟩, ⟨2, 1, .w1c, 0, 1⟩, ⟨1, 1, .w1c, 0, 1⟩, ⟨0, 1, .ro, 0, 1⟩], []⟩,
  -- LKS_Q_SQ_BASE_LO
  ⟨0x1010008, 2, 0x800000, 64, 0x40, 0x0,
   [⟨0, 32, .rw, 0, 4294967295⟩], []⟩,
  -- LKS_Q_SQ_BASE_HI
  ⟨0x101000C, 2, 0x800000, 64, 0x40, 0x0,
   [⟨0, 32, .rw, 0, 4294967295⟩], []⟩,
  -- LKS_Q_CQ_BASE_LO
  ⟨0x1010010, 2, 0x800000, 64, 0x40, 0x0,
   [⟨0, 32, .rw, 0, 4294967295⟩], []⟩,
  -- LKS_Q_CQ_BASE_HI
  ⟨0x1010014, 2, 0x800000, 64, 0x40, 0x0,
   [⟨0, 32, .rw, 0, 4294967295⟩], []⟩,
  -- LKS_Q_CORES_LO
  ⟨0x1010018, 2, 0x800000, 64, 0x40, 0x0,
   [⟨0, 32, .rw, 0, 4294967295⟩], []⟩,
  -- LKS_Q_CORES_HI
  ⟨0x101001C, 2, 0x800000, 64, 0x40, 0x0,
   [⟨0, 32, .rw, 0, 4294967295⟩], []⟩]

def regsLks2 : List RegSpec := [
  -- LKS_Q_PTR
  ⟨0x1010020, 2, 0x800000, 64, 0x40, 0x0,
   [⟨16, 16, .ro, 0, 65535⟩, ⟨0, 16, .ro, 0, 65535⟩], []⟩,
  -- LKS_Q_DB
  ⟨0x1010024, 2, 0x800000, 64, 0x40, 0x0,
   [⟨16, 16, .ro, 0, 65535⟩, ⟨0, 16, .ro, 0, 65535⟩], []⟩,
  -- LKS_Q_RUN
  ⟨0x1010028, 2, 0x800000, 64, 0x40, 0x0,
   [⟨16, 16, .ro, 0, 65535⟩, ⟨0, 16, .ro, 0, 65535⟩], []⟩]

def regsLks : List RegSpec := regsLks0 ++ regsLks1 ++ regsLks2

/-- The rows of the block that holds an offset (the ranges of R478). -/
def regBlock (a : Nat) : List RegSpec :=
  if a < 0x10000 then regsSys
  else if a < 0x20000 then regsClk
  else if a < 0x30000 then regsBoot
  else if a < 0x100000 then []
  else if a < 0x110000 then regsHrnCh
  else if a < 0x120000 then regsHrnGrp
  else if a < 0x200000 then []
  else if a < 0x204000 then regsRein
  else if a < 0x280000 then []
  else if a < 0x300000 then regsSpur
  else if a < 0x301400 then regsRing
  else if a < 0x380000 then []
  else if a < 0x381400 then regsEst
  else if a < 0x400000 then []
  else if a < 0x401000 then regsFab
  else if a < 0x500000 then []
  else if a < 0x501000 then regsBrd
  else if a < 0x580000 then []
  else if a < 0x5A0000 then regsSbg
  else if a < 0x5C0000 then []
  else if a < 0x5C1000 then regsRmt
  else if a < 0x600000 then []
  else if a < 0x601000 then regsTel
  else if a < 0x1000000 then []
  else if a < 0x2000000 then regsLks
  else []

/-- Whether a row of the map holds the offset. -/
def RegSpec.holds (r : RegSpec) (a : Nat) : Bool :=
  r.base ≤ a && (a - r.base) / r.s1 < r.n1 && (a - r.base) % r.s1 % r.s2 == 0
    && (a - r.base) % r.s1 / r.s2 < r.n2

/-- The row of an offset, if the offset is a register (R478). -/
def regSpec (a : Nat) : Option RegSpec := (regBlock a).find? (·.holds a)

/-- The first index of an offset within its row. -/
def RegSpec.i1 (r : RegSpec) (a : Nat) : Nat := (a - r.base) / r.s1

/-- The second index of an offset within its row. -/
def RegSpec.i2 (r : RegSpec) (a : Nat) : Nat := (a - r.base) % r.s1 / r.s2

/-- SYS_CAPS by variant (R6). -/
def capsOf : Variant → Nat
  | .full => 0x10AB6801
  | .half => 0x205BE801
  | .control => 0x30046801

/-- The two words of LKS_Q_CORES at reset: the owner's set (R382). -/
def qCoresReset (die q : Nat) : Nat × Nat :=
  if die == 0 then (if q < 4 then (0x0000FFFF, 0) else (0xFFFF0000, 0xFFFFFFFF))
  else (0xFFFFFFFF, 0xFFFFFFFF)

/-- LKS_PCORE at delivery: physical cores 0 to 63 active under their own number, 64 to 67 free
spares (R341, R377). The assignment is the model's choice: the spec says "per module". -/
def lksPcoreReset (p : Nat) : Nat :=
  if p < 64 then p * 0x10000 else 0x40000000 + 127 * 0x10000

/-- The registers whose reset value is a rule and not one number (R6, R7, R108, R485, R487, R493, R494). -/
def regResetSpecial (v : Variant) (a : Nat) : Option Nat :=
  if a == 0x4 then some (capsOf v)
  else if a == 0x10010 then some (if v == .control then 0x17F else 0x37F)
  else if a == 0x1001C then some (if v == .control then 0x17F else 0x37F)
  else if a < 0x100000 then none
  else if a < 0x110000 then
    if a % 0x100 == 0 && (a - 0x100000) / 0x100 < 104 then
      some (if (a - 0x100000) / 0x100 < 96 then 1 else 2)
    else none
  else if a < 0x111000 then
    if a % 0x100 == 4 && (a - 0x110000) / 0x100 < 12 then
      some (5 * ((a - 0x110000) / 0x100 % 6) * 0x1000000 + 0x300000)
    else none
  else if a < 0x280040 then none
  else if a < 0x280080 then
    if a % 4 == 0 then some (if a == 0x280040 then 1500 else 200 * ((a - 0x280040) / 4)) else none
  else if a == 0x5C0010 then
    some (match v with
      | .full => 0x44444413
      | .half => 0x44440411
      | .control => 0x44440010)
  else if a == 0x5C0018 then
    some (match v with
      | .full => 0xFFFFFFFF
      | .half => 0xFFFF
      | .control => 0)
  else if a < 0x1000000 then none
  else if a == 0x1000004 then some 0x00041000
  else if a % 0x800000 ≥ 0x100 && a % 0x800000 < 0x200 && a % 4 == 0 then
    some ((if a < 0x1800000 && (a % 0x100) / 4 < 16 then 0x80000000 else 0)
      + (a % 0x100) / 4 * 0x1000000 + 0x100000)
  else if a % 0x800000 ≥ 0x200 && a % 0x800000 < 0x310 && a % 4 == 0 then
    some (lksPcoreReset ((a % 0x800000 - 0x200) / 4))
  else if 0x1000800 ≤ a && a < 0x1000810 && a % 4 == 0 then some (0x80000008 + (a - 0x1000800) / 4)
  else if a % 0x800000 ≥ 0x10000 && a % 0x800000 < 0x11000 && a % 0x40 == 0x18 then
    some (qCoresReset (a / 0x800000 - 2) (a % 0x800000 / 0x40 % 64)).1
  else if a % 0x800000 ≥ 0x10000 && a % 0x800000 < 0x11000 && a % 0x40 == 0x1C then
    some (qCoresReset (a / 0x800000 - 2) (a % 0x800000 / 0x40 % 64)).2
  else none

/-- What a register reads before anything has written it: its reset value (R480 to R494). -/
def regReset (v : Variant) (a : Nat) : BitVec 32 :=
  match regResetSpecial v a with
  | some n => BitVec.ofNat 32 n
  | none =>
    match regSpec a with
    | some r => BitVec.ofNat 32 r.reset
    | none => 0

end Sys2Proof.Machine
end

