-- ==== Sys2Proof/Machine/Fields.lean ====
section
/-! DEFINITION. The registers and fields by the names the spec gives them (R480 to R494 for the
addresses; the field tables of each chapter for the bits). A register of an array takes its index,
a field of it too. -/

namespace Sys2Proof.Machine

def SYS_ID : Nat := 0x0
def SYS_ID_REV : Field := ⟨SYS_ID, 28, 4⟩
def SYS_ID_PART : Field := ⟨SYS_ID, 12, 16⟩
def SYS_ID_MFR : Field := ⟨SYS_ID, 1, 11⟩
def SYS_ID_ONE : Field := ⟨SYS_ID, 0, 1⟩
def SYS_CAPS : Nat := 0x4
def SYS_CAPS_VARIANT : Field := ⟨SYS_CAPS, 28, 4⟩
def SYS_CAPS_LKS_DIES : Field := ⟨SYS_CAPS, 22, 2⟩
def SYS_CAPS_HBM_STACKS : Field := ⟨SYS_CAPS, 20, 2⟩
def SYS_CAPS_DDR_SOCKETS : Field := ⟨SYS_CAPS, 18, 2⟩
def SYS_CAPS_FCST_ONMOD : Field := ⟨SYS_CAPS, 17, 1⟩
def SYS_CAPS_FCST_TRAIN : Field := ⟨SYS_CAPS, 16, 1⟩
def SYS_CAPS_TRAIN_REDUCED : Field := ⟨SYS_CAPS, 15, 1⟩
def SYS_CAPS_HRN_CHANNELS : Field := ⟨SYS_CAPS, 8, 7⟩
def SYS_CAPS_CAPS_LAYOUT : Field := ⟨SYS_CAPS, 0, 8⟩
def SYS_ID_SN : Nat := 0x8
def SYS_SHELF_STATE : Nat := 0x10
def SYS_SHELF_STATE_ARM_COUNT : Field := ⟨SYS_SHELF_STATE, 8, 8⟩
def SYS_SHELF_STATE_ARM_PENDING : Field := ⟨SYS_SHELF_STATE, 5, 1⟩
def SYS_SHELF_STATE_CLK_HOLD : Field := ⟨SYS_SHELF_STATE, 4, 1⟩
def SYS_SHELF_STATE_STATE : Field := ⟨SYS_SHELF_STATE, 0, 3⟩
def SYS_EVT : Nat := 0x14
def SYS_EVT_BUNDLE_DONE : Field := ⟨SYS_EVT, 1, 1⟩
def SYS_EVT_STATE_CHG : Field := ⟨SYS_EVT, 0, 1⟩
def SYS_CONN_STATUS : Nat := 0x20
def SYS_CONN_STATUS_SPI_OWN : Field := ⟨SYS_CONN_STATUS, 23, 1⟩
def SYS_CONN_STATUS_SYNC_IN_ACT : Field := ⟨SYS_CONN_STATUS, 22, 1⟩
def SYS_CONN_STATUS_SMBALERT : Field := ⟨SYS_CONN_STATUS, 21, 1⟩
def SYS_CONN_STATUS_ISO_FB : Field := ⟨SYS_CONN_STATUS, 20, 1⟩
def SYS_CONN_STATUS_CONT_FB : Field := ⟨SYS_CONN_STATUS, 18, 2⟩
def SYS_CONN_STATUS_PUMP_TACH : Field := ⟨SYS_CONN_STATUS, 16, 2⟩
def SYS_CONN_STATUS_SPUR_SIG : Field := ⟨SYS_CONN_STATUS, 14, 2⟩
def SYS_CONN_STATUS_SFP_TXFAULT : Field := ⟨SYS_CONN_STATUS, 12, 2⟩
def SYS_CONN_STATUS_SFP_LOS : Field := ⟨SYS_CONN_STATUS, 10, 2⟩
def SYS_CONN_STATUS_SFP_PRES : Field := ⟨SYS_CONN_STATUS, 8, 2⟩
def SYS_CONN_STATUS_MEZ_IDOK : Field := ⟨SYS_CONN_STATUS, 4, 4⟩
def SYS_CONN_STATUS_MEZ_PRES : Field := ⟨SYS_CONN_STATUS, 0, 4⟩
def SYS_CONN_CHG : Nat := 0x24
def SYS_CONN_CHG_SPI_OWN : Field := ⟨SYS_CONN_CHG, 23, 1⟩
def SYS_CONN_CHG_SYNC_IN_ACT : Field := ⟨SYS_CONN_CHG, 22, 1⟩
def SYS_CONN_CHG_SMBALERT : Field := ⟨SYS_CONN_CHG, 21, 1⟩
def SYS_CONN_CHG_ISO_FB : Field := ⟨SYS_CONN_CHG, 20, 1⟩
def SYS_CONN_CHG_CONT_FB : Field := ⟨SYS_CONN_CHG, 18, 2⟩
def SYS_CONN_CHG_PUMP_TACH : Field := ⟨SYS_CONN_CHG, 16, 2⟩
def SYS_CONN_CHG_SPUR_SIG : Field := ⟨SYS_CONN_CHG, 14, 2⟩
def SYS_CONN_CHG_SFP_TXFAULT : Field := ⟨SYS_CONN_CHG, 12, 2⟩
def SYS_CONN_CHG_SFP_LOS : Field := ⟨SYS_CONN_CHG, 10, 2⟩
def SYS_CONN_CHG_SFP_PRES : Field := ⟨SYS_CONN_CHG, 8, 2⟩
def SYS_CONN_CHG_MEZ_IDOK : Field := ⟨SYS_CONN_CHG, 4, 4⟩
def SYS_CONN_CHG_MEZ_PRES : Field := ⟨SYS_CONN_CHG, 0, 4⟩
def SYS_IRQ_SUM : Nat := 0x30
def SYS_IRQ_SUM_PEND : Field := ⟨SYS_IRQ_SUM, 0, 30⟩
def CLK_READY : Nat := 0x10000
def CLK_READY_PLL_CORE : Field := ⟨CLK_READY, 7, 1⟩
def CLK_READY_PLL_MEM : Field := ⟨CLK_READY, 6, 1⟩
def CLK_READY_PLL_LINK : Field := ⟨CLK_READY, 5, 1⟩
def CLK_READY_PLL_CTL : Field := ⟨CLK_READY, 4, 1⟩
def CLK_READY_XTAL_A : Field := ⟨CLK_READY, 3, 1⟩
def CLK_READY_FIRC : Field := ⟨CLK_READY, 2, 1⟩
def CLK_READY_XTAL_B : Field := ⟨CLK_READY, 1, 1⟩
def CLK_READY_SIRC : Field := ⟨CLK_READY, 0, 1⟩
def CLK_SRC_SEL : Nat := 0x10004
def CLK_SRC_SEL_AON_SRC : Field := ⟨CLK_SRC_SEL, 8, 1⟩
def CLK_SRC_SEL_PLL_REF : Field := ⟨CLK_SRC_SEL, 4, 1⟩
def CLK_SRC_SEL_MAIN_SRC : Field := ⟨CLK_SRC_SEL, 0, 2⟩
def CLK_DIV : Nat := 0x10008
def CLK_DIV_HRN_BUS_DIV : Field := ⟨CLK_DIV, 8, 3⟩
def CLK_DIV_PERIPH_DIV : Field := ⟨CLK_DIV, 4, 4⟩
def CLK_DIV_MAIN_DIV : Field := ⟨CLK_DIV, 0, 4⟩
def CLK_STATUS : Nat := 0x1000C
def CLK_STATUS_AON_FIRC : Field := ⟨CLK_STATUS, 18, 1⟩
def CLK_STATUS_HOLD : Field := ⟨CLK_STATUS, 17, 1⟩
def CLK_STATUS_CTL_SRC : Field := ⟨CLK_STATUS, 16, 1⟩
def CLK_STATUS_LOSS : Field := ⟨CLK_STATUS, 8, 8⟩
def CLK_STATUS_AUTO_MOVE : Field := ⟨CLK_STATUS, 2, 1⟩
def CLK_STATUS_SW_REFUSED : Field := ⟨CLK_STATUS, 1, 1⟩
def CLK_STATUS_SW_BUSY : Field := ⟨CLK_STATUS, 0, 1⟩
def CLK_EN_RUN : Nat := 0x10010
def CLK_EN_RUN_LKS1 : Field := ⟨CLK_EN_RUN, 14, 1⟩
def CLK_EN_RUN_LKS0_HOST : Field := ⟨CLK_EN_RUN, 13, 1⟩
def CLK_EN_RUN_LKS_FCST : Field := ⟨CLK_EN_RUN, 12, 1⟩
def CLK_EN_RUN_HBM1 : Field := ⟨CLK_EN_RUN, 11, 1⟩
def CLK_EN_RUN_HBM0 : Field := ⟨CLK_EN_RUN, 10, 1⟩
def CLK_EN_RUN_DDR1 : Field := ⟨CLK_EN_RUN, 9, 1⟩
def CLK_EN_RUN_DDR0 : Field := ⟨CLK_EN_RUN, 8, 1⟩
def CLK_EN_RUN_HRN : Field := ⟨CLK_EN_RUN, 7, 1⟩
def CLK_EN_RUN_RING : Field := ⟨CLK_EN_RUN, 6, 1⟩
def CLK_EN_RUN_PMB : Field := ⟨CLK_EN_RUN, 5, 1⟩
def CLK_EN_RUN_FAB : Field := ⟨CLK_EN_RUN, 4, 1⟩
def CLK_EN_RUN_MAIN : Field := ⟨CLK_EN_RUN, 3, 1⟩
def CLK_EN_RUN_TACK_RT : Field := ⟨CLK_EN_RUN, 2, 1⟩
def CLK_EN_RUN_SPUR : Field := ⟨CLK_EN_RUN, 1, 1⟩
def CLK_EN_RUN_AON : Field := ⟨CLK_EN_RUN, 0, 1⟩
def CLK_EN_SLEEP : Nat := 0x10014
def CLK_EN_SLEEP_LKS1 : Field := ⟨CLK_EN_SLEEP, 14, 1⟩
def CLK_EN_SLEEP_LKS0_HOST : Field := ⟨CLK_EN_SLEEP, 13, 1⟩
def CLK_EN_SLEEP_LKS_FCST : Field := ⟨CLK_EN_SLEEP, 12, 1⟩
def CLK_EN_SLEEP_HBM1 : Field := ⟨CLK_EN_SLEEP, 11, 1⟩
def CLK_EN_SLEEP_HBM0 : Field := ⟨CLK_EN_SLEEP, 10, 1⟩
def CLK_EN_SLEEP_DDR1 : Field := ⟨CLK_EN_SLEEP, 9, 1⟩
def CLK_EN_SLEEP_DDR0 : Field := ⟨CLK_EN_SLEEP, 8, 1⟩
def CLK_EN_SLEEP_HRN : Field := ⟨CLK_EN_SLEEP, 7, 1⟩
def CLK_EN_SLEEP_RING : Field := ⟨CLK_EN_SLEEP, 6, 1⟩
def CLK_EN_SLEEP_PMB : Field := ⟨CLK_EN_SLEEP, 5, 1⟩
def CLK_EN_SLEEP_FAB : Field := ⟨CLK_EN_SLEEP, 4, 1⟩
def CLK_EN_SLEEP_MAIN : Field := ⟨CLK_EN_SLEEP, 3, 1⟩
def CLK_EN_SLEEP_TACK_RT : Field := ⟨CLK_EN_SLEEP, 2, 1⟩
def CLK_EN_SLEEP_SPUR : Field := ⟨CLK_EN_SLEEP, 1, 1⟩
def CLK_EN_SLEEP_AON : Field := ⟨CLK_EN_SLEEP, 0, 1⟩
def CLK_EN_DEEP : Nat := 0x10018
def CLK_EN_DEEP_LKS1 : Field := ⟨CLK_EN_DEEP, 14, 1⟩
def CLK_EN_DEEP_LKS0_HOST : Field := ⟨CLK_EN_DEEP, 13, 1⟩
def CLK_EN_DEEP_LKS_FCST : Field := ⟨CLK_EN_DEEP, 12, 1⟩
def CLK_EN_DEEP_HBM1 : Field := ⟨CLK_EN_DEEP, 11, 1⟩
def CLK_EN_DEEP_HBM0 : Field := ⟨CLK_EN_DEEP, 10, 1⟩
def CLK_EN_DEEP_DDR1 : Field := ⟨CLK_EN_DEEP, 9, 1⟩
def CLK_EN_DEEP_DDR0 : Field := ⟨CLK_EN_DEEP, 8, 1⟩
def CLK_EN_DEEP_HRN : Field := ⟨CLK_EN_DEEP, 7, 1⟩
def CLK_EN_DEEP_RING : Field := ⟨CLK_EN_DEEP, 6, 1⟩
def CLK_EN_DEEP_PMB : Field := ⟨CLK_EN_DEEP, 5, 1⟩
def CLK_EN_DEEP_FAB : Field := ⟨CLK_EN_DEEP, 4, 1⟩
def CLK_EN_DEEP_MAIN : Field := ⟨CLK_EN_DEEP, 3, 1⟩
def CLK_EN_DEEP_TACK_RT : Field := ⟨CLK_EN_DEEP, 2, 1⟩
def CLK_EN_DEEP_SPUR : Field := ⟨CLK_EN_DEEP, 1, 1⟩
def CLK_EN_DEEP_AON : Field := ⟨CLK_EN_DEEP, 0, 1⟩
def CLK_GATE_EFF : Nat := 0x1001C
def CLK_GATE_EFF_LKS1 : Field := ⟨CLK_GATE_EFF, 14, 1⟩
def CLK_GATE_EFF_LKS0_HOST : Field := ⟨CLK_GATE_EFF, 13, 1⟩
def CLK_GATE_EFF_LKS_FCST : Field := ⟨CLK_GATE_EFF, 12, 1⟩
def CLK_GATE_EFF_HBM1 : Field := ⟨CLK_GATE_EFF, 11, 1⟩
def CLK_GATE_EFF_HBM0 : Field := ⟨CLK_GATE_EFF, 10, 1⟩
def CLK_GATE_EFF_DDR1 : Field := ⟨CLK_GATE_EFF, 9, 1⟩
def CLK_GATE_EFF_DDR0 : Field := ⟨CLK_GATE_EFF, 8, 1⟩
def CLK_GATE_EFF_HRN : Field := ⟨CLK_GATE_EFF, 7, 1⟩
def CLK_GATE_EFF_RING : Field := ⟨CLK_GATE_EFF, 6, 1⟩
def CLK_GATE_EFF_PMB : Field := ⟨CLK_GATE_EFF, 5, 1⟩
def CLK_GATE_EFF_FAB : Field := ⟨CLK_GATE_EFF, 4, 1⟩
def CLK_GATE_EFF_MAIN : Field := ⟨CLK_GATE_EFF, 3, 1⟩
def CLK_GATE_EFF_TACK_RT : Field := ⟨CLK_GATE_EFF, 2, 1⟩
def CLK_GATE_EFF_SPUR : Field := ⟨CLK_GATE_EFF, 1, 1⟩
def CLK_GATE_EFF_AON : Field := ⟨CLK_GATE_EFF, 0, 1⟩
def CLK_FMEAS_CTRL : Nat := 0x10020
def CLK_FMEAS_CTRL_DUT_SEL : Field := ⟨CLK_FMEAS_CTRL, 8, 4⟩
def CLK_FMEAS_CTRL_REF_SEL : Field := ⟨CLK_FMEAS_CTRL, 4, 4⟩
def CLK_FMEAS_CTRL_ERR : Field := ⟨CLK_FMEAS_CTRL, 3, 1⟩
def CLK_FMEAS_CTRL_DONE : Field := ⟨CLK_FMEAS_CTRL, 1, 1⟩
def CLK_FMEAS_CTRL_START : Field := ⟨CLK_FMEAS_CTRL, 0, 1⟩
def CLK_FMEAS_GATE : Nat := 0x10024
def CLK_FMEAS_CNT_LO : Nat := 0x10028
def CLK_FMEAS_CNT_HI : Nat := 0x1002C
def CLK_XING_OVR : Nat := 0x10030
def CLK_XING_OVR_UNSTABLE : Field := ⟨CLK_XING_OVR, 7, 1⟩
def CLK_XING_OVR_TACK_TO_HRN : Field := ⟨CLK_XING_OVR, 6, 1⟩
def CLK_XING_OVR_AON_EVT : Field := ⟨CLK_XING_OVR, 5, 1⟩
def CLK_XING_OVR_FAB_EVT : Field := ⟨CLK_XING_OVR, 4, 1⟩
def CLK_XING_OVR_RING_EVT : Field := ⟨CLK_XING_OVR, 3, 1⟩
def CLK_XING_OVR_SPUR_EVT : Field := ⟨CLK_XING_OVR, 2, 1⟩
def CLK_XING_OVR_BRD_EVT : Field := ⟨CLK_XING_OVR, 1, 1⟩
def CLK_XING_OVR_HRN_EVT : Field := ⟨CLK_XING_OVR, 0, 1⟩
def PWR_CTRL : Nat := 0x10040
def PWR_CTRL_DEEP_DWELL : Field := ⟨PWR_CTRL, 8, 8⟩
def PWR_CTRL_FCST_NAP : Field := ⟨PWR_CTRL, 2, 1⟩
def PWR_CTRL_DEEP_EN : Field := ⟨PWR_CTRL, 1, 1⟩
def PWR_CTRL_MODE : Field := ⟨PWR_CTRL, 0, 1⟩
def PWR_STATUS : Nat := 0x10044
def PWR_STATUS_LAST_WAKE : Field := ⟨PWR_STATUS, 8, 8⟩
def PWR_STATUS_FCST_AWAKE : Field := ⟨PWR_STATUS, 6, 1⟩
def PWR_STATUS_LKS_BUSY : Field := ⟨PWR_STATUS, 5, 1⟩
def PWR_STATUS_DEEP_READY : Field := ⟨PWR_STATUS, 4, 1⟩
def PWR_STATUS_CUR_MODE : Field := ⟨PWR_STATUS, 0, 2⟩
def PWR_WAKE_EN : Nat := 0x10048
def PWR_WAKE_EN_SPUR : Field := ⟨PWR_WAKE_EN, 4, 1⟩
def PWR_WAKE_EN_TIMER : Field := ⟨PWR_WAKE_EN, 3, 1⟩
def PWR_WAKE_EN_CONN : Field := ⟨PWR_WAKE_EN, 2, 1⟩
def PWR_WAKE_EN_BRIDLE : Field := ⟨PWR_WAKE_EN, 1, 1⟩
def PWR_WAKE_EN_PCIE : Field := ⟨PWR_WAKE_EN, 0, 1⟩
def PWR_WAKE_SRC : Nat := 0x1004C
def PWR_WAKE_SRC_SPUR : Field := ⟨PWR_WAKE_SRC, 4, 1⟩
def PWR_WAKE_SRC_TIMER : Field := ⟨PWR_WAKE_SRC, 3, 1⟩
def PWR_WAKE_SRC_CONN : Field := ⟨PWR_WAKE_SRC, 2, 1⟩
def PWR_WAKE_SRC_BRIDLE : Field := ⟨PWR_WAKE_SRC, 1, 1⟩
def PWR_WAKE_SRC_PCIE : Field := ⟨PWR_WAKE_SRC, 0, 1⟩
def PWR_WAKE_TIMER : Nat := 0x10050
def BOOT_STATUS : Nat := 0x20000
def BOOT_STATUS_ERR_CODE : Field := ⟨BOOT_STATUS, 24, 8⟩
def BOOT_STATUS_RETRIES_LEFT : Field := ⟨BOOT_STATUS, 16, 4⟩
def BOOT_STATUS_BUNDLE : Field := ⟨BOOT_STATUS, 8, 4⟩
def BOOT_STATUS_PROFILE : Field := ⟨BOOT_STATUS, 4, 4⟩
def BOOT_STATUS_WAIT_HOST : Field := ⟨BOOT_STATUS, 0, 1⟩
def BOOT_CTRL : Nat := 0x20004
def BOOT_CTRL_CLEAR_LATCH : Field := ⟨BOOT_CTRL, 3, 1⟩
def BOOT_CTRL_DISARM : Field := ⟨BOOT_CTRL, 2, 1⟩
def BOOT_CTRL_ARM : Field := ⟨BOOT_CTRL, 1, 1⟩
def BOOT_CTRL_LOAD : Field := ⟨BOOT_CTRL, 0, 1⟩
def BOOT_ERR_INFO : Nat := 0x20008
def BOOT_SRC_ADDR_LO : Nat := 0x20010
def BOOT_SRC_ADDR_HI : Nat := 0x20014
def BOOT_SRC_LEN : Nat := 0x20018
def BOOT_PROFILE_DIGEST (i : Nat) : Nat := 0x20040 + 0x4 * i
def SEC_SVN : Nat := 0x20100
def SEC_SVN_BURNING : Field := ⟨SEC_SVN, 16, 1⟩
def SEC_SVN_LOADED_SVN : Field := ⟨SEC_SVN, 8, 8⟩
def SEC_SVN_FUSED_SVN : Field := ⟨SEC_SVN, 0, 8⟩
def SEC_SVN_CTRL : Nat := 0x20104
def SEC_SVN_CTRL_KEY : Field := ⟨SEC_SVN_CTRL, 8, 8⟩
def SEC_SVN_CTRL_TARGET : Field := ⟨SEC_SVN_CTRL, 0, 8⟩
def SEC_ATT_CTRL : Nat := 0x20110
def SEC_ATT_CTRL_DONE : Field := ⟨SEC_ATT_CTRL, 1, 1⟩
def SEC_ATT_CTRL_REQ : Field := ⟨SEC_ATT_CTRL, 0, 1⟩
def SEC_ATT_NONCE (i : Nat) : Nat := 0x20120 + 0x4 * i
def SEC_ATT_REPORT (i : Nat) : Nat := 0x21000 + 0x4 * i
def HRN_CH_CTRL (n : Nat) : Nat := 0x100000 + 0x100 * n
def HRN_CH_CTRL_FORCE_SHED (n : Nat) : Field := ⟨(HRN_CH_CTRL n), 4, 1⟩
def HRN_CH_CTRL_ROLE (n : Nat) : Field := ⟨(HRN_CH_CTRL n), 0, 2⟩
def HRN_CH_STATUS (n : Nat) : Nat := 0x100004 + 0x100 * n
def HRN_CH_STATUS_LIMIT_RUN (n : Nat) : Field := ⟨(HRN_CH_STATUS n), 24, 7⟩
def HRN_CH_STATUS_STATE (n : Nat) : Field := ⟨(HRN_CH_STATUS n), 16, 4⟩
def HRN_CH_STATUS_DE (n : Nat) : Field := ⟨(HRN_CH_STATUS n), 15, 1⟩
def HRN_CH_STATUS_DIR (n : Nat) : Field := ⟨(HRN_CH_STATUS n), 14, 1⟩
def HRN_CH_STATUS_REF_CODE (n : Nat) : Field := ⟨(HRN_CH_STATUS n), 0, 10⟩
def HRN_CH_MEAS (n : Nat) : Nat := 0x100008 + 0x100 * n
def HRN_CH_MEAS_I_AVG (n : Nat) : Field := ⟨(HRN_CH_MEAS n), 16, 16⟩
def HRN_CH_MEAS_TEMP (n : Nat) : Field := ⟨(HRN_CH_MEAS n), 0, 16⟩
def HRN_CH_FAULT (n : Nat) : Nat := 0x10000C + 0x100 * n
def HRN_CH_FAULT_OT_TRIP (n : Nat) : Field := ⟨(HRN_CH_FAULT n), 5, 1⟩
def HRN_CH_FAULT_OT_WARN (n : Nat) : Field := ⟨(HRN_CH_FAULT n), 4, 1⟩
def HRN_CH_FAULT_FLT_N (n : Nat) : Field := ⟨(HRN_CH_FAULT n), 3, 1⟩
def HRN_CH_FAULT_LIMIT (n : Nat) : Field := ⟨(HRN_CH_FAULT n), 2, 1⟩
def HRN_CH_FAULT_SENSE_RANGE (n : Nat) : Field := ⟨(HRN_CH_FAULT n), 1, 1⟩
def HRN_CH_FAULT_MIN_ON (n : Nat) : Field := ⟨(HRN_CH_FAULT n), 0, 1⟩
def HRN_CH_TRIM (n : Nat) : Nat := 0x100010 + 0x100 * n
def HRN_CH_TRIM_ISNS_OFFSET (n : Nat) : Field := ⟨(HRN_CH_TRIM n), 8, 8⟩
def HRN_CH_TRIM_ISNS_GAIN (n : Nat) : Field := ⟨(HRN_CH_TRIM n), 0, 8⟩
def HRN_GRP_CTRL (g : Nat) : Nat := 0x110000 + 0x100 * g
def HRN_GRP_CTRL_SYNC_FOLLOW (g : Nat) : Field := ⟨(HRN_GRP_CTRL g), 2, 1⟩
def HRN_GRP_CTRL_DE_EN (g : Nat) : Field := ⟨(HRN_GRP_CTRL g), 1, 1⟩
def HRN_GRP_CTRL_ENABLE (g : Nat) : Field := ⟨(HRN_GRP_CTRL g), 0, 1⟩
def HRN_GRP_TIMING (g : Nat) : Nat := 0x110004 + 0x100 * g
def HRN_GRP_TIMING_GRP_PHASE (g : Nat) : Field := ⟨(HRN_GRP_TIMING g), 24, 8⟩
def HRN_GRP_TIMING_DEADTIME (g : Nat) : Field := ⟨(HRN_GRP_TIMING g), 18, 6⟩
def HRN_GRP_SLOPE (g : Nat) : Nat := 0x110008 + 0x100 * g
def HRN_GRP_SLOPE_SLOPE_CHG (g : Nat) : Field := ⟨(HRN_GRP_SLOPE g), 16, 10⟩
def HRN_GRP_SLOPE_SLOPE_DIS (g : Nat) : Field := ⟨(HRN_GRP_SLOPE g), 0, 10⟩
def HRN_GRP_LIMIT (g : Nat) : Nat := 0x11000C + 0x100 * g
def HRN_GRP_LIMIT_N_LIMIT (g : Nat) : Field := ⟨(HRN_GRP_LIMIT g), 16, 6⟩
def HRN_GRP_LIMIT_PEAK_LIMIT (g : Nat) : Field := ⟨(HRN_GRP_LIMIT g), 0, 10⟩
def HRN_GRP_HICCUP (g : Nat) : Nat := 0x110010 + 0x100 * g
def HRN_GRP_HICCUP_RETRY_BUDGET (g : Nat) : Field := ⟨(HRN_GRP_HICCUP g), 28, 4⟩
def HRN_GRP_HICCUP_SOFT_CYCLES (g : Nat) : Field := ⟨(HRN_GRP_HICCUP g), 16, 8⟩
def HRN_GRP_HICCUP_RUN_CLEAR (g : Nat) : Field := ⟨(HRN_GRP_HICCUP g), 8, 8⟩
def HRN_GRP_HICCUP_OFF_MS (g : Nat) : Field := ⟨(HRN_GRP_HICCUP g), 0, 7⟩
def HRN_GRP_DE (g : Nat) : Nat := 0x110014 + 0x100 * g
def HRN_GRP_DE_DE_EXIT (g : Nat) : Field := ⟨(HRN_GRP_DE g), 16, 10⟩
def HRN_GRP_DE_DE_ENTER (g : Nat) : Field := ⟨(HRN_GRP_DE g), 0, 10⟩
def HRN_GRP_TEMP (g : Nat) : Nat := 0x110018 + 0x100 * g
def HRN_GRP_TEMP_T_TRIP (g : Nat) : Field := ⟨(HRN_GRP_TEMP g), 8, 8⟩
def HRN_GRP_TEMP_T_WARN (g : Nat) : Field := ⟨(HRN_GRP_TEMP g), 0, 8⟩
def HRN_GRP_STATUS (g : Nat) : Nat := 0x11001C + 0x100 * g
def HRN_GRP_STATUS_RETRIES_USED (g : Nat) : Field := ⟨(HRN_GRP_STATUS g), 28, 4⟩
def HRN_GRP_STATUS_STATE (g : Nat) : Field := ⟨(HRN_GRP_STATUS g), 16, 4⟩
def HRN_GRP_STATUS_ACTIVE_MASK (g : Nat) : Field := ⟨(HRN_GRP_STATUS g), 8, 8⟩
def HRN_GRP_STATUS_ESC (g : Nat) : Field := ⟨(HRN_GRP_STATUS g), 1, 1⟩
def HRN_GRP_STATUS_HICCUP (g : Nat) : Field := ⟨(HRN_GRP_STATUS g), 0, 1⟩
def HRN_TIMING : Nat := 0x111000
def HRN_TIMING_PERIOD : Field := ⟨HRN_TIMING, 0, 12⟩
def HRN_SYNC_CTRL : Nat := 0x111004
def HRN_SYNC_CTRL_FAB_OFFSET : Field := ⟨HRN_SYNC_CTRL, 8, 12⟩
def HRN_SYNC_CTRL_SYNC_SRC : Field := ⟨HRN_SYNC_CTRL, 0, 2⟩
def HRN_SYNC_STATUS : Nat := 0x111008
def HRN_SYNC_STATUS_MEAS_PERIOD : Field := ⟨HRN_SYNC_STATUS, 16, 16⟩
def HRN_SYNC_STATUS_REFUSED : Field := ⟨HRN_SYNC_STATUS, 8, 1⟩
def HRN_SYNC_STATUS_LOST : Field := ⟨HRN_SYNC_STATUS, 7, 1⟩
def HRN_SYNC_STATUS_MISSED : Field := ⟨HRN_SYNC_STATUS, 4, 3⟩
def HRN_SYNC_STATUS_LOCK : Field := ⟨HRN_SYNC_STATUS, 0, 2⟩
def HRN_SHED_CFG : Nat := 0x11100C
def HRN_SHED_CFG_MIN_ACTIVE : Field := ⟨HRN_SHED_CFG, 24, 8⟩
def HRN_SHED_CFG_SHED_RAMP : Field := ⟨HRN_SHED_CFG, 16, 8⟩
def HRN_SHED_CFG_ADD_A : Field := ⟨HRN_SHED_CFG, 8, 8⟩
def HRN_SHED_CFG_DROP_A : Field := ⟨HRN_SHED_CFG, 0, 8⟩
def HRN_SHED_STEP : Nat := 0x111010
def HRN_SHED_STEP_HOLD_MS : Field := ⟨HRN_SHED_STEP, 16, 8⟩
def HRN_SHED_STEP_STEP_A : Field := ⟨HRN_SHED_STEP, 0, 11⟩
def HRN_SHED_STATUS : Nat := 0x111014
def HRN_SHED_STATUS_ACTIVE_B : Field := ⟨HRN_SHED_STATUS, 26, 6⟩
def HRN_SHED_STATUS_ACTIVE_A : Field := ⟨HRN_SHED_STATUS, 20, 6⟩
def HRN_SHED_STATUS_STEP_ADD : Field := ⟨HRN_SHED_STATUS, 1, 1⟩
def HRN_SHED_STATUS_ABORTED : Field := ⟨HRN_SHED_STATUS, 0, 1⟩
def HRN_OV_CFG : Nat := 0x111018
def HRN_OV_CFG_AUTO_HOLD_MS : Field := ⟨HRN_OV_CFG, 16, 8⟩
def HRN_OV_CFG_AUTO : Field := ⟨HRN_OV_CFG, 15, 1⟩
def HRN_OV_CFG_OV_THRESH : Field := ⟨HRN_OV_CFG, 0, 13⟩
def HRN_OV_CTRL : Nat := 0x11101C
def HRN_OV_CTRL_NO_ISO : Field := ⟨HRN_OV_CTRL, 2, 1⟩
def HRN_OV_CTRL_LATCHED : Field := ⟨HRN_OV_CTRL, 1, 1⟩
def HRN_OV_CTRL_CLEAR : Field := ⟨HRN_OV_CTRL, 0, 1⟩
def HRN_LFR_STATUS : Nat := 0x111020
def HRN_LFR_STATUS_LOST : Field := ⟨HRN_LFR_STATUS, 16, 16⟩
def HRN_LFR_STATUS_PENDING : Field := ⟨HRN_LFR_STATUS, 8, 3⟩
def HRN_LFR_STATUS_ANY : Field := ⟨HRN_LFR_STATUS, 7, 1⟩
def HRN_LFR_STATUS_NEWEST : Field := ⟨HRN_LFR_STATUS, 0, 6⟩
def HRN_LFR (i : Nat) : Nat := 0x114000 + 0x4 * i
def REIN_CTRL : Nat := 0x200000
def REIN_CTRL_PEAK_COMP : Field := ⟨REIN_CTRL, 1, 1⟩
def REIN_CTRL_FF_EN : Field := ⟨REIN_CTRL, 0, 1⟩
def REIN_STATUS : Nat := 0x200004
def REIN_STATUS_REF_SAT : Field := ⟨REIN_STATUS, 4, 1⟩
def REIN_STATUS_UNSERVED : Field := ⟨REIN_STATUS, 3, 1⟩
def REIN_STATUS_SPILL : Field := ⟨REIN_STATUS, 2, 1⟩
def REIN_STATUS_TOT_SAT : Field := ⟨REIN_STATUS, 1, 1⟩
def REIN_STATUS_FE : Field := ⟨REIN_STATUS, 0, 1⟩
def REIN_SPLIT_CFG : Nat := 0x200008
def REIN_SPLIT_CFG_PRECHG_A : Field := ⟨REIN_SPLIT_CFG, 24, 8⟩
def REIN_SPLIT_CFG_PH_MAX_A : Field := ⟨REIN_SPLIT_CFG, 16, 8⟩
def REIN_SPLIT_CFG_L_NH : Field := ⟨REIN_SPLIT_CFG, 0, 16⟩
def REIN_TOT_LIMIT : Nat := 0x20000C
def REIN_TOT_LIMIT_TOT_NEG : Field := ⟨REIN_TOT_LIMIT, 16, 16⟩
def REIN_TOT_LIMIT_TOT_POS : Field := ⟨REIN_TOT_LIMIT, 0, 16⟩
def REIN_FF_GAIN : Nat := 0x200010
def REIN_CMD_TOT : Nat := 0x200014
def REIN_CMD_STR : Nat := 0x200018
def REIN_CMD_STR_B : Field := ⟨REIN_CMD_STR, 16, 16⟩
def REIN_CMD_STR_A : Field := ⟨REIN_CMD_STR, 0, 16⟩
def REIN_FF_NOW : Nat := 0x20001C
def REIN_UNSERVED : Nat := 0x200020
def REIN_SIG (i : Nat) : Nat := 0x200024 + 0x4 * i
def REIN_L1_CFG : Nat := 0x200040
def REIN_L1_CFG_FAST_RATE : Field := ⟨REIN_L1_CFG, 16, 16⟩
def REIN_L1_CFG_NORM_RATE : Field := ⟨REIN_L1_CFG, 0, 16⟩
def REIN_L1_ISO : Nat := 0x200044
def REIN_L1_ISO_ISO_LIMIT : Field := ⟨REIN_L1_ISO, 0, 16⟩
def REIN_L1_STATUS : Nat := 0x200048
def REIN_L1_STATUS_CARRIED : Field := ⟨REIN_L1_STATUS, 16, 16⟩
def REIN_L1_STATUS_LOST : Field := ⟨REIN_L1_STATUS, 4, 6⟩
def REIN_L1_STATUS_FAST_ACTIVE : Field := ⟨REIN_L1_STATUS, 1, 1⟩
def REIN_L1_STATUS_SUSPENDED : Field := ⟨REIN_L1_STATUS, 0, 1⟩
def REIN_L1_LIMIT : Nat := 0x20004C
def REIN_TUNE_CTRL : Nat := 0x200080
def REIN_TUNE_CTRL_CYCLES : Field := ⟨REIN_TUNE_CTRL, 8, 4⟩
def REIN_TUNE_CTRL_LOOP : Field := ⟨REIN_TUNE_CTRL, 2, 3⟩
def REIN_TUNE_CTRL_ABORT : Field := ⟨REIN_TUNE_CTRL, 1, 1⟩
def REIN_TUNE_CTRL_START : Field := ⟨REIN_TUNE_CTRL, 0, 1⟩
def REIN_TUNE_STATUS : Nat := 0x200084
def REIN_TUNE_STATUS_CAUSE : Field := ⟨REIN_TUNE_STATUS, 8, 4⟩
def REIN_TUNE_STATUS_DONE : Field := ⟨REIN_TUNE_STATUS, 7, 1⟩
def REIN_TUNE_STATUS_LOOP : Field := ⟨REIN_TUNE_STATUS, 4, 3⟩
def REIN_TUNE_STATUS_STATE : Field := ⟨REIN_TUNE_STATUS, 0, 3⟩
def REIN_TUNE_KU : Nat := 0x200088
def REIN_TUNE_TU : Nat := 0x20008C
def REIN_TUNE_H : Nat := 0x200090
def REIN_TUNE_SUG_B0 : Nat := 0x200094
def REIN_TUNE_SUG_B1 : Nat := 0x200098
def REIN_TUNE_SUG_B2 : Nat := 0x20009C
def REIN_TUNE_SUG_A1 : Nat := 0x2000A0
def REIN_TUNE_SUG_A2 : Nat := 0x2000A4
def REIN_TUNE_SUG_SHIFT : Nat := 0x2000A8
def REIN_TUNE_SUG_SHIFT_SUG_VALID : Field := ⟨REIN_TUNE_SUG_SHIFT, 8, 1⟩
def REIN_TUNE_SUG_SHIFT_SUG_SHIFT : Field := ⟨REIN_TUNE_SUG_SHIFT, 0, 3⟩
def REIN_CAS_CTRL (c : Nat) : Nat := 0x201000 + 0x40 * c
def REIN_CAS_CTRL_LEN_B (c : Nat) : Field := ⟨(REIN_CAS_CTRL c), 28, 4⟩
def REIN_CAS_CTRL_LEN_A (c : Nat) : Field := ⟨(REIN_CAS_CTRL c), 24, 4⟩
def REIN_CAS_CTRL_RATE_DIV (c : Nat) : Field := ⟨(REIN_CAS_CTRL c), 8, 16⟩
def REIN_CAS_CTRL_INIT_COPY (c : Nat) : Field := ⟨(REIN_CAS_CTRL c), 4, 1⟩
def REIN_CAS_CTRL_BANK_SEL (c : Nat) : Field := ⟨(REIN_CAS_CTRL c), 3, 1⟩
def REIN_CAS_CTRL_HOLD (c : Nat) : Field := ⟨(REIN_CAS_CTRL c), 2, 1⟩
def REIN_CAS_CTRL_AUTO_START (c : Nat) : Field := ⟨(REIN_CAS_CTRL c), 1, 1⟩
def REIN_CAS_CTRL_ENABLE (c : Nat) : Field := ⟨(REIN_CAS_CTRL c), 0, 1⟩
def REIN_CAS_SRC (c : Nat) : Nat := 0x201004 + 0x40 * c
def REIN_CAS_SRC_MEAS_SEL (c : Nat) : Field := ⟨(REIN_CAS_SRC c), 8, 4⟩
def REIN_CAS_SRC_SP_SRC (c : Nat) : Field := ⟨(REIN_CAS_SRC c), 4, 1⟩
def REIN_CAS_SRC_DEST_SEL (c : Nat) : Field := ⟨(REIN_CAS_SRC c), 0, 3⟩
def REIN_CAS_MAP_A0 (c : Nat) : Nat := 0x201008 + 0x40 * c
def REIN_CAS_MAP_A0_SLOT3 (c : Nat) : Field := ⟨(REIN_CAS_MAP_A0 c), 24, 6⟩
def REIN_CAS_MAP_A0_SLOT2 (c : Nat) : Field := ⟨(REIN_CAS_MAP_A0 c), 16, 6⟩
def REIN_CAS_MAP_A0_SLOT1 (c : Nat) : Field := ⟨(REIN_CAS_MAP_A0 c), 8, 6⟩
def REIN_CAS_MAP_A0_SLOT0 (c : Nat) : Field := ⟨(REIN_CAS_MAP_A0 c), 0, 6⟩
def REIN_CAS_MAP_A1 (c : Nat) : Nat := 0x20100C + 0x40 * c
def REIN_CAS_MAP_A1_SLOT7 (c : Nat) : Field := ⟨(REIN_CAS_MAP_A1 c), 24, 6⟩
def REIN_CAS_MAP_A1_SLOT6 (c : Nat) : Field := ⟨(REIN_CAS_MAP_A1 c), 16, 6⟩
def REIN_CAS_MAP_A1_SLOT5 (c : Nat) : Field := ⟨(REIN_CAS_MAP_A1 c), 8, 6⟩
def REIN_CAS_MAP_A1_SLOT4 (c : Nat) : Field := ⟨(REIN_CAS_MAP_A1 c), 0, 6⟩
def REIN_CAS_MAP_B0 (c : Nat) : Nat := 0x201010 + 0x40 * c
def REIN_CAS_MAP_B0_SLOT3 (c : Nat) : Field := ⟨(REIN_CAS_MAP_B0 c), 24, 6⟩
def REIN_CAS_MAP_B0_SLOT2 (c : Nat) : Field := ⟨(REIN_CAS_MAP_B0 c), 16, 6⟩
def REIN_CAS_MAP_B0_SLOT1 (c : Nat) : Field := ⟨(REIN_CAS_MAP_B0 c), 8, 6⟩
def REIN_CAS_MAP_B0_SLOT0 (c : Nat) : Field := ⟨(REIN_CAS_MAP_B0 c), 0, 6⟩
def REIN_CAS_MAP_B1 (c : Nat) : Nat := 0x201014 + 0x40 * c
def REIN_CAS_MAP_B1_SLOT7 (c : Nat) : Field := ⟨(REIN_CAS_MAP_B1 c), 24, 6⟩
def REIN_CAS_MAP_B1_SLOT6 (c : Nat) : Field := ⟨(REIN_CAS_MAP_B1 c), 16, 6⟩
def REIN_CAS_MAP_B1_SLOT5 (c : Nat) : Field := ⟨(REIN_CAS_MAP_B1 c), 8, 6⟩
def REIN_CAS_MAP_B1_SLOT4 (c : Nat) : Field := ⟨(REIN_CAS_MAP_B1 c), 0, 6⟩
def REIN_CAS_SETPOINT (c : Nat) : Nat := 0x201018 + 0x40 * c
def REIN_CAS_RAMP (c : Nat) : Nat := 0x20101C + 0x40 * c
def REIN_CAS_OUT_MIN (c : Nat) : Nat := 0x201020 + 0x40 * c
def REIN_CAS_OUT_MAX (c : Nat) : Nat := 0x201024 + 0x40 * c
def REIN_CAS_FE_LIMIT (c : Nat) : Nat := 0x201028 + 0x40 * c
def REIN_CAS_FE_CFG (c : Nat) : Nat := 0x20102C + 0x40 * c
def REIN_CAS_FE_CFG_FE_CLASS (c : Nat) : Field := ⟨(REIN_CAS_FE_CFG c), 30, 2⟩
def REIN_CAS_FE_CFG_FE_TIME (c : Nat) : Field := ⟨(REIN_CAS_FE_CFG c), 0, 24⟩
def REIN_CAS_SP_EFF (c : Nat) : Nat := 0x201030 + 0x40 * c
def REIN_CAS_OUT (c : Nat) : Nat := 0x201034 + 0x40 * c
def REIN_CAS_STATUS (c : Nat) : Nat := 0x201038 + 0x40 * c
def REIN_CAS_STATUS_FE_COUNT (c : Nat) : Field := ⟨(REIN_CAS_STATUS c), 12, 12⟩
def REIN_CAS_STATUS_REFUSED (c : Nat) : Field := ⟨(REIN_CAS_STATUS c), 11, 1⟩
def REIN_CAS_STATUS_FE_TRIP (c : Nat) : Field := ⟨(REIN_CAS_STATUS c), 10, 1⟩
def REIN_CAS_STATUS_SAT (c : Nat) : Field := ⟨(REIN_CAS_STATUS c), 9, 1⟩
def REIN_CAS_STATUS_CLAMP (c : Nat) : Field := ⟨(REIN_CAS_STATUS c), 8, 1⟩
def REIN_CAS_STATUS_CLAMP_HI (c : Nat) : Field := ⟨(REIN_CAS_STATUS c), 7, 1⟩
def REIN_CAS_STATUS_CLAMP_LO (c : Nat) : Field := ⟨(REIN_CAS_STATUS c), 6, 1⟩
def REIN_CAS_STATUS_TUNING (c : Nat) : Field := ⟨(REIN_CAS_STATUS c), 5, 1⟩
def REIN_CAS_STATUS_HELD (c : Nat) : Field := ⟨(REIN_CAS_STATUS c), 4, 1⟩
def REIN_CAS_STATUS_BANK_IN_USE (c : Nat) : Field := ⟨(REIN_CAS_STATUS c), 3, 1⟩
def REIN_CAS_STATUS_ENABLE_PENDING (c : Nat) : Field := ⟨(REIN_CAS_STATUS c), 2, 1⟩
def REIN_CAS_STATUS_STATE (c : Nat) : Field := ⟨(REIN_CAS_STATUS c), 0, 2⟩
def REIN_CAS_OUT_BASE (c : Nat) : Nat := 0x20103C + 0x40 * c
def REIN_SEC_B0 (s : Nat) : Nat := 0x202000 + 0x20 * s
def REIN_SEC_B1 (s : Nat) : Nat := 0x202004 + 0x20 * s
def REIN_SEC_B2 (s : Nat) : Nat := 0x202008 + 0x20 * s
def REIN_SEC_A1 (s : Nat) : Nat := 0x20200C + 0x20 * s
def REIN_SEC_A2 (s : Nat) : Nat := 0x202010 + 0x20 * s
def REIN_SEC_CFG (s : Nat) : Nat := 0x202014 + 0x20 * s
def REIN_SEC_CFG_IN_USE (s : Nat) : Field := ⟨(REIN_SEC_CFG s), 15, 1⟩
def REIN_SEC_CFG_ACTIVE (s : Nat) : Field := ⟨(REIN_SEC_CFG s), 14, 1⟩
def REIN_SEC_CFG_BANK (s : Nat) : Field := ⟨(REIN_SEC_CFG s), 13, 1⟩
def REIN_SEC_CFG_CAS (s : Nat) : Field := ⟨(REIN_SEC_CFG s), 10, 3⟩
def REIN_SEC_CFG_REFUSED (s : Nat) : Field := ⟨(REIN_SEC_CFG s), 8, 1⟩
def REIN_SEC_CFG_SAT (s : Nat) : Field := ⟨(REIN_SEC_CFG s), 7, 1⟩
def REIN_SEC_CFG_SHIFT (s : Nat) : Field := ⟨(REIN_SEC_CFG s), 0, 3⟩
def REIN_SEC_X1 (s : Nat) : Nat := 0x203000 + 0x10 * s
def REIN_SEC_X2 (s : Nat) : Nat := 0x203004 + 0x10 * s
def REIN_SEC_Y1 (s : Nat) : Nat := 0x203008 + 0x10 * s
def REIN_SEC_Y2 (s : Nat) : Nat := 0x20300C + 0x10 * s
def SPUR_CTRL : Nat := 0x280000
def SPUR_CTRL_MERGE_EN : Field := ⟨SPUR_CTRL, 4, 1⟩
def SPUR_CTRL_CLR_LAT_MAX : Field := ⟨SPUR_CTRL, 2, 1⟩
def SPUR_CTRL_LANE1_EN : Field := ⟨SPUR_CTRL, 1, 1⟩
def SPUR_CTRL_LANE0_EN : Field := ⟨SPUR_CTRL, 0, 1⟩
def SPUR_STATUS : Nat := 0x280004
def SPUR_STATUS_DUP : Field := ⟨SPUR_STATUS, 12, 1⟩
def SPUR_STATUS_DEADLINE : Field := ⟨SPUR_STATUS, 11, 1⟩
def SPUR_STATUS_FULL : Field := ⟨SPUR_STATUS, 10, 1⟩
def SPUR_STATUS_GAP_ERR : Field := ⟨SPUR_STATUS, 9, 1⟩
def SPUR_STATUS_BAD : Field := ⟨SPUR_STATUS, 8, 1⟩
def SPUR_STATUS_LOCK : Field := ⟨SPUR_STATUS, 1, 2⟩
def SPUR_STATUS_ACK_LIVE : Field := ⟨SPUR_STATUS, 0, 1⟩
def SPUR_RX_CNT : Nat := 0x280008
def SPUR_RX_CNT_L1 : Field := ⟨SPUR_RX_CNT, 16, 16⟩
def SPUR_RX_CNT_L0 : Field := ⟨SPUR_RX_CNT, 0, 16⟩
def SPUR_BAD_CNT : Nat := 0x28000C
def SPUR_BAD_CNT_L1 : Field := ⟨SPUR_BAD_CNT, 16, 16⟩
def SPUR_BAD_CNT_L0 : Field := ⟨SPUR_BAD_CNT, 0, 16⟩
def SPUR_ACK_CNT : Nat := 0x280010
def SPUR_ACK_LAT : Nat := 0x280014
def SPUR_ACK_LAT_MAX : Field := ⟨SPUR_ACK_LAT, 16, 16⟩
def SPUR_ACK_LAT_LAST : Field := ⟨SPUR_ACK_LAT, 0, 16⟩
def SPUR_LAST_SEQ : Nat := 0x280018
def SPUR_MAG_TBL (m : Nat) : Nat := 0x280040 + 0x4 * m
def SPUR_MAG_TBL_MAG (m : Nat) : Field := ⟨(SPUR_MAG_TBL m), 0, 16⟩
def SPUR_HINT_TBL (i : Nat) : Nat := 0x280800 + 0x4 * i
def FCST_CTRL : Nat := 0x281000
def FCST_CTRL_HINT_ONLY : Field := ⟨FCST_CTRL, 0, 1⟩
def FCST_STATUS : Nat := 0x281004
def FCST_STATUS_QUIET_END : Field := ⟨FCST_STATUS, 12, 1⟩
def FCST_STATUS_STARVED : Field := ⟨FCST_STATUS, 11, 1⟩
def FCST_STATUS_HR_CLAMP : Field := ⟨FCST_STATUS, 10, 1⟩
def FCST_STATUS_CONF_CLAMP : Field := ⟨FCST_STATUS, 9, 1⟩
def FCST_STATUS_UNANN : Field := ⟨FCST_STATUS, 8, 1⟩
def FCST_STATUS_OFFSET : Field := ⟨FCST_STATUS, 4, 1⟩
def FCST_STATUS_HR_REQ : Field := ⟨FCST_STATUS, 3, 1⟩
def FCST_STATUS_QUIET : Field := ⟨FCST_STATUS, 2, 1⟩
def FCST_STATUS_MODE : Field := ⟨FCST_STATUS, 0, 2⟩
def FCST_MERGE_CFG : Nat := 0x281008
def FCST_MERGE_CFG_CONF_MAX : Field := ⟨FCST_MERGE_CFG, 24, 8⟩
def FCST_MERGE_CFG_UNANN_KW : Field := ⟨FCST_MERGE_CFG, 16, 8⟩
def FCST_MERGE_CFG_EDGE_KW : Field := ⟨FCST_MERGE_CFG, 8, 8⟩
def FCST_MERGE_CFG_MATCH_STEPS : Field := ⟨FCST_MERGE_CFG, 0, 8⟩
def FCST_HOLD_CFG : Nat := 0x28100C
def FCST_HOLD_CFG_NAP_MIN : Field := ⟨FCST_HOLD_CFG, 24, 8⟩
def FCST_HOLD_CFG_BASE_RAMP : Field := ⟨FCST_HOLD_CFG, 16, 8⟩
def FCST_HOLD_CFG_HINT_HOLD : Field := ⟨FCST_HOLD_CFG, 0, 16⟩
def FCST_HR_CFG : Nat := 0x281010
def FCST_HR_CFG_HR_RELEASE_MS : Field := ⟨FCST_HR_CFG, 16, 8⟩
def FCST_HR_CFG_HR_RAMP : Field := ⟨FCST_HR_CFG, 8, 8⟩
def FCST_HR_CFG_T_HR : Field := ⟨FCST_HR_CFG, 0, 8⟩
def FCST_NOW : Nat := 0x281014
def FCST_NOW_P_FF : Field := ⟨FCST_NOW, 16, 16⟩
def FCST_NOW_L : Field := ⟨FCST_NOW, 0, 16⟩
def FCST_LOAD_MEAS : Nat := 0x281018
def FCST_LOAD_MEAS_L_M : Field := ⟨FCST_LOAD_MEAS, 0, 16⟩
def FCST_HR_TARGET : Nat := 0x28101C
def FCST_HR_TARGET_G_HR : Field := ⟨FCST_HR_TARGET, 0, 16⟩
def FCST_OFFSET : Nat := 0x281020
def FCST_OFFSET_O : Field := ⟨FCST_OFFSET, 0, 16⟩
def FCST_CNT : Nat := 0x281024
def FCST_CNT_UNANN : Field := ⟨FCST_CNT, 16, 16⟩
def FCST_CNT_CLAMPED : Field := ⟨FCST_CNT, 0, 16⟩
def FCST_QUIET_END_LO : Nat := 0x281028
def FCST_QUIET_END_HI : Nat := 0x28102C
def FCST_UNANN_TIME_LO : Nat := 0x281030
def FCST_UNANN_TIME_HI : Nat := 0x281034
def FCST_STR_CTRL (s : Nat) : Nat := 0x282000 + 0x40 * s
def FCST_STR_CTRL_SRC (s : Nat) : Field := ⟨(FCST_STR_CTRL s), 2, 1⟩
def FCST_STR_CTRL_CONTRIB (s : Nat) : Field := ⟨(FCST_STR_CTRL s), 1, 1⟩
def FCST_STR_CTRL_ENABLE (s : Nat) : Field := ⟨(FCST_STR_CTRL s), 0, 1⟩
def FCST_STR_STATUS (s : Nat) : Nat := 0x282004 + 0x40 * s
def FCST_STR_STATUS_STARVED_CNT (s : Nat) : Field := ⟨(FCST_STR_STATUS s), 16, 16⟩
def FCST_STR_STATUS_HEAD_REFUSED (s : Nat) : Field := ⟨(FCST_STR_STATUS s), 1, 1⟩
def FCST_STR_STATUS_STARVED (s : Nat) : Field := ⟨(FCST_STR_STATUS s), 0, 1⟩
def FCST_STR_HEAD_LO (s : Nat) : Nat := 0x282008 + 0x40 * s
def FCST_STR_HEAD_HI (s : Nat) : Nat := 0x28200C + 0x40 * s
def FCST_STR_GEN (s : Nat) : Nat := 0x282010 + 0x40 * s
def FCST_STR_QUIET_LO (s : Nat) : Nat := 0x282018 + 0x40 * s
def FCST_STR_QUIET_HI (s : Nat) : Nat := 0x28201C + 0x40 * s
def FCST_ENTRY (s : Nat) (i : Nat) : Nat := 0x2C0000 + 0x4000 * s + 0x4 * i
def FCST_ENTRY_LOAD (s : Nat) (i : Nat) : Field := ⟨(FCST_ENTRY s i), 16, 16⟩
def FCST_ENTRY_CONF (s : Nat) (i : Nat) : Field := ⟨(FCST_ENTRY s i), 8, 8⟩
def FCST_ENTRY_EDGE (s : Nat) (i : Nat) : Field := ⟨(FCST_ENTRY s i), 1, 1⟩
def FCST_ENTRY_VALID (s : Nat) (i : Nat) : Field := ⟨(FCST_ENTRY s i), 0, 1⟩
def RING_CTRL : Nat := 0x300000
def RING_CTRL_ENUM_B : Field := ⟨RING_CTRL, 5, 1⟩
def RING_CTRL_ENUM_A : Field := ⟨RING_CTRL, 4, 1⟩
def RING_CTRL_BAL_EN : Field := ⟨RING_CTRL, 1, 1⟩
def RING_CTRL_OW_AUTO : Field := ⟨RING_CTRL, 0, 1⟩
def RING_CFG : Nat := 0x300004
def RING_CFG_CORNER : Field := ⟨RING_CFG, 16, 3⟩
def RING_CFG_RECOV_N : Field := ⟨RING_CFG, 12, 4⟩
def RING_CFG_TEST_N : Field := ⟨RING_CFG, 8, 4⟩
def RING_CFG_START_N : Field := ⟨RING_CFG, 4, 4⟩
def RING_VLIM_HI : Nat := 0x300008
def RING_VLIM_HI_OV_TRIP : Field := ⟨RING_VLIM_HI, 16, 16⟩
def RING_VLIM_HI_OV_WARN : Field := ⟨RING_VLIM_HI, 0, 16⟩
def RING_VLIM_LO : Nat := 0x30000C
def RING_VLIM_LO_UV_WARN : Field := ⟨RING_VLIM_LO, 16, 16⟩
def RING_VLIM_LO_UV_TRIP : Field := ⟨RING_VLIM_LO, 0, 16⟩
def RING_TLIM : Nat := 0x300010
def RING_TLIM_T_TRIP : Field := ⟨RING_TLIM, 8, 8⟩
def RING_TLIM_T_WARN : Field := ⟨RING_TLIM, 0, 8⟩
def RING_CHECK : Nat := 0x300014
def RING_CHECK_SUM_TOL : Field := ⟨RING_CHECK, 24, 8⟩
def RING_CHECK_SUSPECT_MV : Field := ⟨RING_CHECK, 16, 8⟩
def RING_CHECK_OW_MV : Field := ⟨RING_CHECK, 8, 8⟩
def RING_CHECK_SUSPECT_MARGIN : Field := ⟨RING_CHECK, 0, 8⟩
def RING_BAL_POL : Nat := 0x300018
def RING_BAL_POL_START_MV : Field := ⟨RING_BAL_POL, 24, 8⟩
def RING_BAL_POL_STOP_MV : Field := ⟨RING_BAL_POL, 16, 8⟩
def RING_BAL_POL_I_CODE : Field := ⟨RING_BAL_POL, 8, 8⟩
def RING_HB_KICK : Nat := 0x30001C
def RING_BAL_CMD : Nat := 0x300020
def RING_BAL_CMD_STRING : Field := ⟨RING_BAL_CMD, 31, 1⟩
def RING_BAL_CMD_POS : Field := ⟨RING_BAL_CMD, 25, 6⟩
def RING_BAL_CMD_MODE : Field := ⟨RING_BAL_CMD, 23, 2⟩
def RING_BAL_CMD_I_CODE : Field := ⟨RING_BAL_CMD, 18, 5⟩
def RING_BAL_CMD_LEASE : Field := ⟨RING_BAL_CMD, 8, 10⟩
def RING_BAL_STATUS : Nat := 0x300024
def RING_BAL_STATUS_REFUSED : Field := ⟨RING_BAL_STATUS, 31, 1⟩
def RING_BAL_STATUS_CAUSE : Field := ⟨RING_BAL_STATUS, 24, 4⟩
def RING_BAL_STATUS_QUEUED : Field := ⟨RING_BAL_STATUS, 16, 8⟩
def RING_BAL_STATUS_ACTIVE_B : Field := ⟨RING_BAL_STATUS, 8, 8⟩
def RING_BAL_STATUS_ACTIVE_A : Field := ⟨RING_BAL_STATUS, 0, 8⟩
def RING_OW_CTRL : Nat := 0x300028
def RING_OW_CTRL_OW_PERIOD : Field := ⟨RING_OW_CTRL, 24, 8⟩
def RING_OW_CTRL_STRING : Field := ⟨RING_OW_CTRL, 15, 1⟩
def RING_OW_CTRL_MON : Field := ⟨RING_OW_CTRL, 13, 2⟩
def RING_OW_CTRL_WIRE : Field := ⟨RING_OW_CTRL, 9, 4⟩
def RING_OW_CTRL_START : Field := ⟨RING_OW_CTRL, 0, 1⟩
def RING_OW_RESULT : Nat := 0x30002C
def RING_OW_RESULT_SHIFT : Field := ⟨RING_OW_RESULT, 16, 16⟩
def RING_OW_RESULT_BUSY : Field := ⟨RING_OW_RESULT, 15, 1⟩
def RING_OW_RESULT_OPEN : Field := ⟨RING_OW_RESULT, 14, 1⟩
def RING_OW_RESULT_ABORTED : Field := ⟨RING_OW_RESULT, 13, 1⟩
def RING_OW_RESULT_STRING : Field := ⟨RING_OW_RESULT, 11, 1⟩
def RING_OW_RESULT_MON : Field := ⟨RING_OW_RESULT, 9, 2⟩
def RING_OW_RESULT_WIRE : Field := ⟨RING_OW_RESULT, 5, 4⟩
def RING_STATUS (s : Nat) : Nat := 0x300100 + 0x80 * s
def RING_STATUS_ENUM (s : Nat) : Field := ⟨(RING_STATUS s), 28, 4⟩
def RING_STATUS_FAIL_CAUSE (s : Nat) : Field := ⟨(RING_STATUS s), 24, 4⟩
def RING_STATUS_BREAK_HOP (s : Nat) : Field := ⟨(RING_STATUS s), 16, 3⟩
def RING_STATUS_TOPO (s : Nat) : Field := ⟨(RING_STATUS s), 14, 2⟩
def RING_STATUS_MON_LOST (s : Nat) : Field := ⟨(RING_STATUS s), 8, 4⟩
def RING_STATUS_MON_RECOV (s : Nat) : Field := ⟨(RING_STATUS s), 4, 4⟩
def RING_STATUS_MON_MHB_LOST (s : Nat) : Field := ⟨(RING_STATUS s), 0, 4⟩
def RING_EVT (s : Nat) : Nat := 0x300104 + 0x80 * s
def RING_EVT_REFUSED (s : Nat) : Field := ⟨(RING_EVT s), 19, 1⟩
def RING_EVT_SWAP_FAIL (s : Nat) : Field := ⟨(RING_EVT s), 18, 1⟩
def RING_EVT_SWAP_DONE (s : Nat) : Field := ⟨(RING_EVT s), 17, 1⟩
def RING_EVT_REF_FAULT (s : Nat) : Field := ⟨(RING_EVT s), 16, 1⟩
def RING_EVT_ENUM_FAIL (s : Nat) : Field := ⟨(RING_EVT s), 15, 1⟩
def RING_EVT_ENUM_DONE (s : Nat) : Field := ⟨(RING_EVT s), 14, 1⟩
def RING_EVT_OT_TRIP (s : Nat) : Field := ⟨(RING_EVT s), 13, 1⟩
def RING_EVT_OT_WARN (s : Nat) : Field := ⟨(RING_EVT s), 12, 1⟩
def RING_EVT_UV_TRIP (s : Nat) : Field := ⟨(RING_EVT s), 11, 1⟩
def RING_EVT_UV_WARN (s : Nat) : Field := ⟨(RING_EVT s), 10, 1⟩
def RING_EVT_OV_TRIP (s : Nat) : Field := ⟨(RING_EVT s), 9, 1⟩
def RING_EVT_OV_WARN (s : Nat) : Field := ⟨(RING_EVT s), 8, 1⟩
def RING_EVT_SUM_FAIL (s : Nat) : Field := ⟨(RING_EVT s), 7, 1⟩
def RING_EVT_CELL_DEV (s : Nat) : Field := ⟨(RING_EVT s), 6, 1⟩
def RING_EVT_SUSPECT (s : Nat) : Field := ⟨(RING_EVT s), 5, 1⟩
def RING_EVT_CRC_ERR (s : Nat) : Field := ⟨(RING_EVT s), 4, 1⟩
def RING_EVT_MON_BACK (s : Nat) : Field := ⟨(RING_EVT s), 3, 1⟩
def RING_EVT_MON_LOST (s : Nat) : Field := ⟨(RING_EVT s), 2, 1⟩
def RING_EVT_SKIPPED (s : Nat) : Field := ⟨(RING_EVT s), 1, 1⟩
def RING_EVT_SPLIT (s : Nat) : Field := ⟨(RING_EVT s), 0, 1⟩
def RING_SEQ (s : Nat) : Nat := 0x300108 + 0x80 * s
def RING_ERR_CNT (s : Nat) : Nat := 0x30010C + 0x80 * s
def RING_ERR_CNT_CRC_ERR (s : Nat) : Field := ⟨(RING_ERR_CNT s), 16, 16⟩
def RING_ERR_CNT_SKIPPED (s : Nat) : Field := ⟨(RING_ERR_CNT s), 8, 8⟩
def RING_ERR_CNT_SPLIT (s : Nat) : Field := ⟨(RING_ERR_CNT s), 0, 8⟩
def RING_TIME_LO (s : Nat) : Nat := 0x300110 + 0x80 * s
def RING_TIME_HI (s : Nat) : Nat := 0x300114 + 0x80 * s
def RING_SUM (s : Nat) : Nat := 0x300118 + 0x80 * s
def RING_SUM_S (s : Nat) : Field := ⟨(RING_SUM s), 16, 16⟩
def RING_SUM_VSTR (s : Nat) : Field := ⟨(RING_SUM s), 0, 16⟩
def RING_SKEW (s : Nat) : Nat := 0x30011C + 0x80 * s
def RING_SKEW_TICKS (s : Nat) : Field := ⟨(RING_SKEW s), 0, 16⟩
def RING_SWAP (s : Nat) : Nat := 0x300120 + 0x80 * s
def RING_SWAP_STATE (s : Nat) : Field := ⟨(RING_SWAP s), 28, 4⟩
def RING_SWAP_CAUSE (s : Nat) : Field := ⟨(RING_SWAP s), 24, 4⟩
def RING_SWAP_POS_IN (s : Nat) : Field := ⟨(RING_SWAP s), 16, 6⟩
def RING_SWAP_POS_OUT (s : Nat) : Field := ⟨(RING_SWAP s), 8, 6⟩
def RING_MON_STATUS (s : Nat) (m : Nat) : Nat := 0x300130 + 0x80 * s + 0x4 * m
def RING_MON_STATUS_MSTATE (s : Nat) (m : Nat) : Field := ⟨(RING_MON_STATUS s m), 24, 4⟩
def RING_MON_STATUS_HB (s : Nat) (m : Nat) : Field := ⟨(RING_MON_STATUS s m), 16, 8⟩
def RING_MON_STATUS_STATUS (s : Nat) (m : Nat) : Field := ⟨(RING_MON_STATUS s m), 0, 16⟩
def RING_MON_UID_LO (s : Nat) (m : Nat) : Nat := 0x300140 + 0x80 * s + 0x8 * m
def RING_MON_UID_HI (s : Nat) (m : Nat) : Nat := 0x300144 + 0x80 * s + 0x8 * m
def RING_CELL_0 (s : Nat) (p : Nat) : Nat := 0x301000 + 0x200 * s + 0x8 * p
def RING_CELL_1 (s : Nat) (p : Nat) : Nat := 0x301004 + 0x200 * s + 0x8 * p
def EST_CTRL : Nat := 0x380000
def EST_CTRL_REST_NOW : Field := ⟨EST_CTRL, 2, 1⟩
def EST_CTRL_REST_EN : Field := ⟨EST_CTRL, 1, 1⟩
def EST_CTRL_LEARN_R : Field := ⟨EST_CTRL, 0, 1⟩
def EST_STATUS : Nat := 0x380004
def EST_STATUS_NO_JOURNAL : Field := ⟨EST_STATUS, 11, 1⟩
def EST_STATUS_VERIFY_ERR : Field := ⟨EST_STATUS, 10, 1⟩
def EST_STATUS_R_REJECT : Field := ⟨EST_STATUS, 9, 1⟩
def EST_STATUS_CLAMPED : Field := ⟨EST_STATUS, 8, 1⟩
def EST_STATUS_UNCERT : Field := ⟨EST_STATUS, 7, 1⟩
def EST_CFG : Nat := 0x380008
def EST_CFG_K_SHIFT : Field := ⟨EST_CFG, 24, 8⟩
def EST_CFG_R_SHIFT : Field := ⟨EST_CFG, 16, 8⟩
def EST_CFG_R_DI_MIN : Field := ⟨EST_CFG, 0, 16⟩
def EST_LIM : Nat := 0x38000C
def EST_LIM_V_HI : Field := ⟨EST_LIM, 16, 16⟩
def EST_LIM_V_LO : Field := ⟨EST_LIM, 0, 16⟩
def EST_UNC : Nat := 0x380010
def EST_UNC_UNC_MV : Field := ⟨EST_UNC, 8, 8⟩
def EST_UNC_UNC_AGE : Field := ⟨EST_UNC, 0, 8⟩
def EST_REST_CFG : Nat := 0x380014
def EST_REST_CFG_REST_PERIOD : Field := ⟨EST_REST_CFG, 24, 8⟩
def EST_REST_CFG_REST_S : Field := ⟨EST_REST_CFG, 16, 8⟩
def EST_REST_CFG_REST_PMAX : Field := ⟨EST_REST_CFG, 8, 8⟩
def EST_REST_STATUS : Nat := 0x380018
def EST_REST_STATUS_STATE : Field := ⟨EST_REST_STATUS, 28, 4⟩
def EST_REST_STATUS_CAUSE : Field := ⟨EST_REST_STATUS, 24, 4⟩
def EST_REST_STATUS_STRING : Field := ⟨EST_REST_STATUS, 23, 1⟩
def EST_REST_STATUS_SKIPPED : Field := ⟨EST_REST_STATUS, 8, 8⟩
def EST_REST_STATUS_ABORT : Field := ⟨EST_REST_STATUS, 1, 1⟩
def EST_REST_STATUS_DONE : Field := ⟨EST_REST_STATUS, 0, 1⟩
def EST_SOC : Nat := 0x38001C
def EST_SOC_B : Field := ⟨EST_SOC, 16, 16⟩
def EST_SOC_A : Field := ⟨EST_SOC, 0, 16⟩
def EST_SOC_SHELF : Nat := 0x380020
def EST_SOC_SHELF_SOC : Field := ⟨EST_SOC_SHELF, 0, 16⟩
def EST_HR_DN : Nat := 0x380024
def EST_HR_UP : Nat := 0x380028
def EST_SEQ : Nat := 0x38002C
def EST_SEQ_B : Field := ⟨EST_SEQ, 16, 16⟩
def EST_SEQ_A : Field := ⟨EST_SEQ, 0, 16⟩
def EST_JNL_CTRL : Nat := 0x380030
def EST_JNL_CTRL_WRITE_NOW : Field := ⟨EST_JNL_CTRL, 0, 1⟩
def EST_JNL_STATUS : Nat := 0x380034
def EST_JNL_STATUS_LOST : Field := ⟨EST_JNL_STATUS, 16, 16⟩
def EST_JNL_STATUS_NEWEST : Field := ⟨EST_JNL_STATUS, 10, 6⟩
def EST_JNL_STATUS_PENDING : Field := ⟨EST_JNL_STATUS, 9, 1⟩
def EST_JNL_STATUS_BUSY : Field := ⟨EST_JNL_STATUS, 8, 1⟩
def EST_JNL_STATUS_FENCE : Field := ⟨EST_JNL_STATUS, 7, 1⟩
def EST_JNL_STATUS_WARN : Field := ⟨EST_JNL_STATUS, 6, 1⟩
def EST_JNL_STATUS_ANY : Field := ⟨EST_JNL_STATUS, 5, 1⟩
def EST_JNL_GEN : Nat := 0x380038
def EST_STR_STATUS (s : Nat) : Nat := 0x380100 + 0x40 * s
def EST_STR_STATUS_UNCERT_CNT (s : Nat) : Field := ⟨(EST_STR_STATUS s), 24, 8⟩
def EST_STR_STATUS_RESTING (s : Nat) : Field := ⟨(EST_STR_STATUS s), 15, 1⟩
def EST_STR_STATUS_IN_SERVICE (s : Nat) : Field := ⟨(EST_STR_STATUS s), 14, 1⟩
def EST_STR_STATUS_RUN (s : Nat) : Field := ⟨(EST_STR_STATUS s), 13, 1⟩
def EST_EFC (s : Nat) : Nat := 0x380104 + 0x40 * s
def EST_CAP (s : Nat) : Nat := 0x380108 + 0x40 * s
def EST_RES (s : Nat) : Nat := 0x38010C + 0x40 * s
def EST_BIAS (s : Nat) : Nat := 0x380110 + 0x40 * s
def EST_BIAS_SOC_OFFSET (s : Nat) : Field := ⟨(EST_BIAS s), 16, 16⟩
def EST_BIAS_I_BIAS (s : Nat) : Field := ⟨(EST_BIAS s), 0, 16⟩
def EST_REF_LO (s : Nat) : Nat := 0x380114 + 0x40 * s
def EST_REF_HI (s : Nat) : Nat := 0x380118 + 0x40 * s
def EST_REF_HI_OPSEC (s : Nat) : Field := ⟨(EST_REF_HI s), 0, 8⟩
def EST_CELL_0 (s : Nat) (p : Nat) : Nat := 0x381000 + 0x200 * s + 0x8 * p
def EST_CELL_1 (s : Nat) (p : Nat) : Nat := 0x381004 + 0x200 * s + 0x8 * p
def FAB_CTRL : Nat := 0x400000
def FAB_CTRL_YIELD : Field := ⟨FAB_CTRL, 8, 1⟩
def FAB_CTRL_BULK_EN : Field := ⟨FAB_CTRL, 3, 1⟩
def FAB_CTRL_LEAD_EN : Field := ⟨FAB_CTRL, 2, 1⟩
def FAB_CTRL_OFF_EN : Field := ⟨FAB_CTRL, 1, 1⟩
def FAB_CTRL_NEAR_EN : Field := ⟨FAB_CTRL, 0, 1⟩
def FAB_STATUS : Nat := 0x400004
def FAB_STATUS_ID_CONFLICT : Field := ⟨FAB_STATUS, 23, 1⟩
def FAB_STATUS_SUCC_MISMATCH : Field := ⟨FAB_STATUS, 22, 1⟩
def FAB_STATUS_TIME_STEP : Field := ⟨FAB_STATUS, 21, 1⟩
def FAB_STATUS_LEAD_CHANGE : Field := ⟨FAB_STATUS, 20, 1⟩
def FAB_STATUS_SHORT : Field := ⟨FAB_STATUS, 19, 1⟩
def FAB_STATUS_ABSORBING : Field := ⟨FAB_STATUS, 18, 1⟩
def FAB_STATUS_TGT_SRC : Field := ⟨FAB_STATUS, 16, 2⟩
def FAB_STATUS_FAR : Field := ⟨FAB_STATUS, 11, 1⟩
def FAB_STATUS_TIME_HELD : Field := ⟨FAB_STATUS, 10, 1⟩
def FAB_STATUS_HALL_LEAD : Field := ⟨FAB_STATUS, 9, 1⟩
def FAB_STATUS_TEAM_LEAD : Field := ⟨FAB_STATUS, 8, 1⟩
def FAB_ID : Nat := 0x400008
def FAB_ID_HALL_ID : Field := ⟨FAB_ID, 16, 16⟩
def FAB_ID_TEAM : Field := ⟨FAB_ID, 9, 5⟩
def FAB_ID_SHELF_ID : Field := ⟨FAB_ID, 0, 9⟩
def FAB_LEADS : Nat := 0x40000C
def FAB_LEADS_HALL : Field := ⟨FAB_LEADS, 16, 9⟩
def FAB_LEADS_TEAM : Field := ⟨FAB_LEADS, 0, 9⟩
def FAB_EPOCH : Nat := 0x400010
def FAB_EPOCH_HALL : Field := ⟨FAB_EPOCH, 16, 16⟩
def FAB_EPOCH_TEAM : Field := ⟨FAB_EPOCH, 0, 16⟩
def FAB_TIME_OFS : Nat := 0x400014
def FAB_DELAY : Nat := 0x400018
def FAB_DELAY_OFF : Field := ⟨FAB_DELAY, 16, 16⟩
def FAB_DELAY_NEAR : Field := ⟨FAB_DELAY, 0, 16⟩
def FAB_TARGET : Nat := 0x40001C
def FAB_TEAM : Nat := 0x400020
def FAB_TEAM_FLEX : Field := ⟨FAB_TEAM, 16, 16⟩
def FAB_TEAM_LIVE : Field := ⟨FAB_TEAM, 0, 16⟩
def FAB_PATH (p : Nat) : Nat := 0x400024 + 0x4 * p
def FAB_PATH_MISS (p : Nat) : Field := ⟨(FAB_PATH p), 16, 8⟩
def FAB_PATH_ALARM (p : Nat) : Field := ⟨(FAB_PATH p), 4, 1⟩
def FAB_PATH_DOWN (p : Nat) : Field := ⟨(FAB_PATH p), 3, 1⟩
def FAB_PATH_BLOCK_LOCK (p : Nat) : Field := ⟨(FAB_PATH p), 2, 1⟩
def FAB_PATH_FEC (p : Nat) : Field := ⟨(FAB_PATH p), 1, 1⟩
def FAB_PATH_TIME_SRC (p : Nat) : Field := ⟨(FAB_PATH p), 0, 1⟩
def FAB_RX_CNT : Nat := 0x40002C
def FAB_DUP_CNT : Nat := 0x400030
def FAB_LATE_CNT : Nat := 0x400034
def FAB_LATE_CNT_LATE : Field := ⟨FAB_LATE_CNT, 16, 16⟩
def FAB_LATE_CNT_OTHER : Field := ⟨FAB_LATE_CNT, 0, 16⟩
def FAB_ABS_CFG : Nat := 0x400038
def FAB_ABS_CFG_ABS_RAMP : Field := ⟨FAB_ABS_CFG, 16, 16⟩
def FAB_ABS_CFG_TGT_HOLD : Field := ⟨FAB_ABS_CFG, 0, 8⟩
def FAB_HALL_CFG : Nat := 0x40003C
def FAB_HALL_CFG_HALL_RAMP : Field := ⟨FAB_HALL_CFG, 16, 16⟩
def FAB_HALL_MIN : Nat := 0x400040
def FAB_HALL_MAX : Nat := 0x400044
def FAB_HALL_TARGET : Nat := 0x400048
def FAB_BULK_CFG : Nat := 0x40004C
def FAB_BULK_CFG_BUDGET : Field := ⟨FAB_BULK_CFG, 16, 16⟩
def FAB_BULK_CFG_PATHS : Field := ⟨FAB_BULK_CFG, 0, 2⟩
def FAB_BULK_STATUS : Nat := 0x400050
def FAB_BULK_STATUS_SENT : Field := ⟨FAB_BULK_STATUS, 16, 16⟩
def FAB_BULK_STATUS_DEFERRED : Field := ⟨FAB_BULK_STATUS, 0, 16⟩
def FAB_ALARM_Q : Nat := 0x400054
def FAB_ALARM_Q_QUEUED : Field := ⟨FAB_ALARM_Q, 0, 16⟩
def BRD_STATUS : Nat := 0x500000
def BRD_STATUS_RECOV : Field := ⟨BRD_STATUS, 28, 4⟩
def BRD_STATUS_CLASS : Field := ⟨BRD_STATUS, 26, 2⟩
def BRD_STATUS_STARTS : Field := ⟨BRD_STATUS, 24, 2⟩
def BRD_STATUS_SS_USED : Field := ⟨BRD_STATUS, 20, 4⟩
def BRD_STATUS_HOLDOFF_LEFT : Field := ⟨BRD_STATUS, 8, 8⟩
def BRD_STATUS_CAUSE_OVF : Field := ⟨BRD_STATUS, 7, 1⟩
def BRD_STATUS_HOST_LOST : Field := ⟨BRD_STATUS, 6, 1⟩
def BRD_STATUS_DERATE : Field := ⟨BRD_STATUS, 5, 1⟩
def BRD_STATUS_WDT_RUN : Field := ⟨BRD_STATUS, 4, 1⟩
def BRD_STATUS_FORCING : Field := ⟨BRD_STATUS, 3, 1⟩
def BRD_EVT : Nat := 0x500004
def BRD_EVT_STORM : Field := ⟨BRD_EVT, 7, 1⟩
def BRD_EVT_SS_ABORT : Field := ⟨BRD_EVT, 6, 1⟩
def BRD_EVT_HOST : Field := ⟨BRD_EVT, 5, 1⟩
def BRD_EVT_DERATE : Field := ⟨BRD_EVT, 4, 1⟩
def BRD_EVT_F3 : Field := ⟨BRD_EVT, 3, 1⟩
def BRD_EVT_F2 : Field := ⟨BRD_EVT, 2, 1⟩
def BRD_EVT_F1 : Field := ⟨BRD_EVT, 1, 1⟩
def BRD_EVT_F0 : Field := ⟨BRD_EVT, 0, 1⟩
def BRD_LAST : Nat := 0x500008
def BRD_LAST_STATE : Field := ⟨BRD_LAST, 24, 8⟩
def BRD_LAST_CLASS : Field := ⟨BRD_LAST, 16, 2⟩
def BRD_LAST_CODE : Field := ⟨BRD_LAST, 0, 16⟩
def BRD_COUNT : Nat := 0x50000C
def BRD_COUNT_F2 : Field := ⟨BRD_COUNT, 16, 16⟩
def BRD_COUNT_F3 : Field := ⟨BRD_COUNT, 8, 8⟩
def BRD_COUNT_STORMS : Field := ⟨BRD_COUNT, 0, 8⟩
def BRD_CAUSE (i : Nat) : Nat := 0x500010 + 0x4 * i
def BRD_CAUSE_ODD (i : Nat) : Field := ⟨(BRD_CAUSE i), 16, 16⟩
def BRD_CAUSE_EVEN (i : Nat) : Field := ⟨(BRD_CAUSE i), 0, 16⟩
def BRD_BUS_LIM : Nat := 0x500020
def BRD_BUS_LIM_BUS_OV : Field := ⟨BRD_BUS_LIM, 16, 16⟩
def BRD_BUS_LIM_BUS_UV : Field := ⟨BRD_BUS_LIM, 0, 16⟩
def BRD_STR_LIM : Nat := 0x500024
def BRD_STR_LIM_STR_OV : Field := ⟨BRD_STR_LIM, 16, 16⟩
def BRD_STR_LIM_STR_UV : Field := ⟨BRD_STR_LIM, 0, 16⟩
def BRD_TEMP_LIM : Nat := 0x500028
def BRD_TEMP_LIM_HRN_TRIP : Field := ⟨BRD_TEMP_LIM, 24, 8⟩
def BRD_TEMP_LIM_TACK_TRIP : Field := ⟨BRD_TEMP_LIM, 16, 8⟩
def BRD_TEMP_LIM_BOARD_TRIP : Field := ⟨BRD_TEMP_LIM, 8, 8⟩
def BRD_TEMP_LIM_PLATE_TRIP : Field := ⟨BRD_TEMP_LIM, 0, 8⟩
def BRD_TEMP : Nat := 0x50002C
def BRD_TEMP_HRN : Field := ⟨BRD_TEMP, 24, 8⟩
def BRD_TEMP_TACK : Field := ⟨BRD_TEMP, 16, 8⟩
def BRD_TEMP_BOARD : Field := ⟨BRD_TEMP, 8, 8⟩
def BRD_TEMP_PLATE : Field := ⟨BRD_TEMP, 0, 8⟩
def BRD_RECOV_CFG : Nat := 0x500030
def BRD_RECOV_CFG_HOLDOFF : Field := ⟨BRD_RECOV_CFG, 24, 8⟩
def BRD_RECOV_CFG_SETTLE : Field := ⟨BRD_RECOV_CFG, 16, 8⟩
def BRD_RECOV_CFG_MIN_OFF_MS : Field := ⟨BRD_RECOV_CFG, 8, 8⟩
def BRD_RECOV_CFG_ESC_CLASS : Field := ⟨BRD_RECOV_CFG, 4, 2⟩
def BRD_RECOV_CFG_MON_GRACE : Field := ⟨BRD_RECOV_CFG, 0, 4⟩
def BRD_SS_CFG : Nat := 0x500034
def BRD_SS_CFG_SS_OFF_MS : Field := ⟨BRD_SS_CFG, 8, 8⟩
def BRD_SS_CFG_SS_BUDGET : Field := ⟨BRD_SS_CFG, 0, 4⟩
def BRD_WDT_CFG : Nat := 0x500038
def BRD_WDT_CFG_TMO_MS : Field := ⟨BRD_WDT_CFG, 0, 8⟩
def BRD_WDT_KICK : Nat := 0x50003C
def BRD_HOST_CFG : Nat := 0x500040
def BRD_HOST_CFG_HOST_TMO : Field := ⟨BRD_HOST_CFG, 0, 8⟩
def BRD_HOST_KICK : Nat := 0x500044
def BRD_COOL : Nat := 0x500048
def BRD_COOL_STOR_PCT : Field := ⟨BRD_COOL, 24, 8⟩
def BRD_COOL_LKS_CAP : Field := ⟨BRD_COOL, 16, 8⟩
def BRD_COOL_PUMP_LOST : Field := ⟨BRD_COOL, 8, 2⟩
def BRD_COOL_T_IN : Field := ⟨BRD_COOL, 0, 8⟩
def BRD_PENDING : Nat := 0x50004C
def BRD_PENDING_ARM : Field := ⟨BRD_PENDING, 24, 1⟩
def BRD_PENDING_CAS : Field := ⟨BRD_PENDING, 16, 8⟩
def BRD_PENDING_GRP : Field := ⟨BRD_PENDING, 0, 13⟩
def SBG_CTRL : Nat := 0x580000
def SBG_CTRL_MARK : Field := ⟨SBG_CTRL, 1, 1⟩
def SBG_STATUS : Nat := 0x580004
def SBG_STATUS_INC_LOST : Field := ⟨SBG_STATUS, 7, 1⟩
def SBG_STATUS_NO_CB : Field := ⟨SBG_STATUS, 6, 1⟩
def SBG_STATUS_GAP : Field := ⟨SBG_STATUS, 5, 1⟩
def SBG_STATUS_FENCE : Field := ⟨SBG_STATUS, 4, 1⟩
def SBG_STATUS_P0_ONLY : Field := ⟨SBG_STATUS, 3, 1⟩
def SBG_STATUS_INC_OPEN : Field := ⟨SBG_STATUS, 2, 1⟩
def SBG_STATUS_LEVEL : Field := ⟨SBG_STATUS, 0, 2⟩
def SBG_SEQ : Nat := 0x580008
def SBG_OPSEC_LO : Nat := 0x58000C
def SBG_OPSEC_HI : Nat := 0x580010
def SBG_OPSEC_HI_OPSEC : Field := ⟨SBG_OPSEC_HI, 0, 8⟩
def SBG_CYCLES : Nat := 0x580014
def SBG_RING : Nat := 0x580018
def SBG_RING_OLDEST : Field := ⟨SBG_RING, 16, 16⟩
def SBG_RING_NEWEST : Field := ⟨SBG_RING, 0, 16⟩
def SBG_LOST : Nat := 0x58001C
def SBG_INC_KEEP : Nat := 0x580020
def SBG_INC_KEEP_KEEP : Field := ⟨SBG_INC_KEEP, 0, 16⟩
def SBG_WIN_SEL : Nat := 0x580024
def SBG_WIN_SEL_PAGE : Field := ⟨SBG_WIN_SEL, 0, 5⟩
def SBG_TRIG : Nat := 0x580028
def SBG_TRIG_FIRE : Field := ⟨SBG_TRIG, 0, 16⟩
def SBG_INC_SLOT (s : Nat) : Nat := 0x580100 + 0x10 * s
def SBG_INC_SLOT_INCIDENT (s : Nat) : Field := ⟨(SBG_INC_SLOT s), 16, 16⟩
def SBG_INC_SLOT_PINNED (s : Nat) : Field := ⟨(SBG_INC_SLOT s), 8, 8⟩
def SBG_INC_TIME_LO (s : Nat) : Nat := 0x580108 + 0x10 * s
def SBG_INC_TIME_HI (s : Nat) : Nat := 0x58010C + 0x10 * s
def SBG_LIST_CFG (l : Nat) : Nat := 0x581000 + 0x100 * l
def SBG_LIST_CFG_HOLDOFF_MS (l : Nat) : Field := ⟨(SBG_LIST_CFG l), 24, 8⟩
def SBG_LIST_CFG_STATE_CLASS (l : Nat) : Field := ⟨(SBG_LIST_CFG l), 16, 8⟩
def SBG_LIST_CFG_N (l : Nat) : Field := ⟨(SBG_LIST_CFG l), 8, 8⟩
def SBG_LIST_CFG_INCIDENT (l : Nat) : Field := ⟨(SBG_LIST_CFG l), 4, 1⟩
def SBG_LIST_CFG_TKIND (l : Nat) : Field := ⟨(SBG_LIST_CFG l), 0, 3⟩
def SBG_LIST_CODE (l : Nat) : Nat := 0x581004 + 0x100 * l
def SBG_LIST_CODE_CODE_MASK (l : Nat) : Field := ⟨(SBG_LIST_CODE l), 16, 16⟩
def SBG_LIST_CODE_TCODE (l : Nat) : Field := ⟨(SBG_LIST_CODE l), 0, 16⟩
def SBG_LIST_STATUS (l : Nat) : Nat := 0x581008 + 0x100 * l
def SBG_LIST_STATUS_MISSED (l : Nat) : Field := ⟨(SBG_LIST_STATUS l), 16, 16⟩
def SBG_LIST_STATUS_FIRED (l : Nat) : Field := ⟨(SBG_LIST_STATUS l), 1, 1⟩
def SBG_LIST_STATUS_BUSY (l : Nat) : Field := ⟨(SBG_LIST_STATUS l), 0, 1⟩
def SBG_LIST_ADDR (l : Nat) (k : Nat) : Nat := 0x581080 + 0x100 * l + 0x4 * k
def SBG_WIN (i : Nat) : Nat := 0x590000 + 0x4 * i
def TEL_CTRL : Nat := 0x600000
def TEL_CTRL_DECIM : Field := ⟨TEL_CTRL, 12, 4⟩
def TEL_CTRL_VERB : Field := ⟨TEL_CTRL, 4, 4⟩
def TEL_CTRL_TRACE_EN : Field := ⟨TEL_CTRL, 0, 1⟩
def TEL_R_CTRL (r : Nat) : Nat := 0x600100 + 0x40 * r
def TEL_R_CTRL_VEC (r : Nat) : Field := ⟨(TEL_R_CTRL r), 24, 8⟩
def TEL_R_CTRL_THR (r : Nat) : Field := ⟨(TEL_R_CTRL r), 16, 8⟩
def TEL_R_CTRL_SIZE_LOG2 (r : Nat) : Field := ⟨(TEL_R_CTRL r), 8, 8⟩
def TEL_R_CTRL_PRIO_MASK (r : Nat) : Field := ⟨(TEL_R_CTRL r), 4, 4⟩
def TEL_R_CTRL_ENABLE (r : Nat) : Field := ⟨(TEL_R_CTRL r), 0, 1⟩
def TEL_R_STATUS (r : Nat) : Nat := 0x600104 + 0x40 * r
def TEL_R_STATUS_LEVEL (r : Nat) : Field := ⟨(TEL_R_STATUS r), 30, 2⟩
def TEL_R_STATUS_HELD (r : Nat) : Field := ⟨(TEL_R_STATUS r), 16, 1⟩
def TEL_R_STATUS_GAP (r : Nat) : Field := ⟨(TEL_R_STATUS r), 2, 1⟩
def TEL_R_STATUS_HEAD_ERR (r : Nat) : Field := ⟨(TEL_R_STATUS r), 1, 1⟩
def TEL_R_STATUS_WB_ERR (r : Nat) : Field := ⟨(TEL_R_STATUS r), 0, 1⟩
def TEL_R_BASE_LO (r : Nat) : Nat := 0x600108 + 0x40 * r
def TEL_R_BASE_HI (r : Nat) : Nat := 0x60010C + 0x40 * r
def TEL_R_WB_LO (r : Nat) : Nat := 0x600110 + 0x40 * r
def TEL_R_WB_HI (r : Nat) : Nat := 0x600114 + 0x40 * r
def TEL_R_HEAD (r : Nat) : Nat := 0x600118 + 0x40 * r
def TEL_R_HEAD_UNIT (r : Nat) : Field := ⟨(TEL_R_HEAD r), 0, 20⟩
def TEL_R_TAIL (r : Nat) : Nat := 0x60011C + 0x40 * r
def TEL_R_TAIL_UNIT (r : Nat) : Field := ⟨(TEL_R_TAIL r), 0, 20⟩
def TEL_R_LOST (r : Nat) : Nat := 0x600120 + 0x40 * r
def RMT_CTRL : Nat := 0x5C0000
def RMT_CTRL_CANCEL : Field := ⟨RMT_CTRL, 16, 10⟩
def RMT_CTRL_AUTO9 : Field := ⟨RMT_CTRL, 9, 1⟩
def RMT_CTRL_AUTO86 : Field := ⟨RMT_CTRL, 6, 3⟩
def RMT_CTRL_AUTO50 : Field := ⟨RMT_CTRL, 0, 6⟩
def RMT_CTRL_AUTO : Field := ⟨RMT_CTRL, 0, 10⟩
def RMT_STATUS : Nat := 0x5C0004
def RMT_STATUS_SHELF_FOREIGN : Field := ⟨RMT_STATUS, 15, 1⟩
def RMT_STATUS_NO_WEAR : Field := ⟨RMT_STATUS, 14, 1⟩
def RMT_STATUS_NO_SPARE : Field := ⟨RMT_STATUS, 3, 1⟩
def RMT_STATUS_FAILED : Field := ⟨RMT_STATUS, 2, 1⟩
def RMT_STATUS_DONE : Field := ⟨RMT_STATUS, 1, 1⟩
def RMT_STATUS_DUE : Field := ⟨RMT_STATUS, 0, 1⟩
def RMT_REQ : Nat := 0x5C0008
def RMT_REQ_KIND : Field := ⟨RMT_REQ, 28, 4⟩
def RMT_REQ_TARGET : Field := ⟨RMT_REQ, 16, 12⟩
def RMT_REQ_SPARE : Field := ⟨RMT_REQ, 4, 12⟩
def RMT_RETIRE : Nat := 0x5C000C
def RMT_RETIRE_KIND : Field := ⟨RMT_RETIRE, 28, 4⟩
def RMT_RETIRE_TARGET : Field := ⟨RMT_RETIRE, 16, 12⟩
def RMT_FREE0 : Nat := 0x5C0010
def RMT_FREE0_PH_B : Field := ⟨RMT_FREE0, 28, 4⟩
def RMT_FREE0_PH_A : Field := ⟨RMT_FREE0, 24, 4⟩
def RMT_FREE0_CELL_B : Field := ⟨RMT_FREE0, 20, 4⟩
def RMT_FREE0_CELL_A : Field := ⟨RMT_FREE0, 16, 4⟩
def RMT_FREE0_CORE1 : Field := ⟨RMT_FREE0, 12, 4⟩
def RMT_FREE0_CORE0 : Field := ⟨RMT_FREE0, 8, 4⟩
def RMT_FREE0_TACK : Field := ⟨RMT_FREE0, 4, 4⟩
def RMT_FREE0_HBM_CH : Field := ⟨RMT_FREE0, 0, 2⟩
def RMT_FREE1 : Nat := 0x5C0014
def RMT_FREE1_ADC : Field := ⟨RMT_FREE1, 8, 24⟩
def RMT_FREE1_MRAM : Field := ⟨RMT_FREE1, 0, 8⟩
def RMT_FREE2 : Nat := 0x5C0018
def RMT_FREE2_HBM1_ROWS : Field := ⟨RMT_FREE2, 16, 16⟩
def RMT_FREE2_HBM0_ROWS : Field := ⟨RMT_FREE2, 0, 16⟩
def RMT_WEAR_SEL : Nat := 0x5C001C
def RMT_WEAR_SEL_KIND : Field := ⟨RMT_WEAR_SEL, 28, 4⟩
def RMT_WEAR_SEL_INDEX : Field := ⟨RMT_WEAR_SEL, 16, 12⟩
def RMT_WEAR_DATA (i : Nat) : Nat := 0x5C0020 + 0x4 * i
def RMT_KIND (k : Nat) : Nat := 0x5C0040 + 0x4 * k
def RMT_KIND_STATE (k : Nat) : Field := ⟨(RMT_KIND k), 28, 4⟩
def RMT_KIND_CAUSE (k : Nat) : Field := ⟨(RMT_KIND k), 24, 4⟩
def RMT_KIND_TARGET (k : Nat) : Field := ⟨(RMT_KIND k), 12, 12⟩
def RMT_KIND_SPARE (k : Nat) : Field := ⟨(RMT_KIND k), 0, 12⟩
def RMT_LOG_STATUS : Nat := 0x5C0080
def RMT_LOG_STATUS_COUNT : Field := ⟨RMT_LOG_STATUS, 16, 16⟩
def RMT_LOG_STATUS_NEWEST : Field := ⟨RMT_LOG_STATUS, 0, 6⟩
def RMT_LOG (i : Nat) : Nat := 0x5C0100 + 0x4 * i
def LKS_DIE_STATUS (d : Nat) : Nat := 0x1000000 + 0x800000 * d
def LKS_DIE_STATUS_UE (d : Nat) : Field := ⟨(LKS_DIE_STATUS d), 23, 1⟩
def LKS_DIE_STATUS_FENCE (d : Nat) : Field := ⟨(LKS_DIE_STATUS d), 22, 1⟩
def LKS_DIE_STATUS_SUSPENDED (d : Nat) : Field := ⟨(LKS_DIE_STATUS d), 21, 1⟩
def LKS_DIE_STATUS_CAP_ACTIVE (d : Nat) : Field := ⟨(LKS_DIE_STATUS d), 20, 1⟩
def LKS_DIE_STATUS_SPARES_FREE (d : Nat) : Field := ⟨(LKS_DIE_STATUS d), 16, 4⟩
def LKS_DIE_STATUS_CORES_RET (d : Nat) : Field := ⟨(LKS_DIE_STATUS d), 8, 7⟩
def LKS_DIE_STATUS_CORES_RUN (d : Nat) : Field := ⟨(LKS_DIE_STATUS d), 0, 7⟩
def LKS_PART (d : Nat) : Nat := 0x1000004 + 0x800000 * d
def LKS_PART_SYS_GIB (d : Nat) : Field := ⟨(LKS_PART d), 16, 16⟩
def LKS_PART_FCST_CORES (d : Nat) : Field := ⟨(LKS_PART d), 8, 8⟩
def LKS_PART_FCST_FIRST (d : Nat) : Field := ⟨(LKS_PART d), 0, 8⟩
def LKS_PWR_CAP (d : Nat) : Nat := 0x1000008 + 0x800000 * d
def LKS_PWR_CAP_HOST_CAP (d : Nat) : Field := ⟨(LKS_PWR_CAP d), 8, 8⟩
def LKS_PWR_STATUS (d : Nat) : Nat := 0x100000C + 0x800000 * d
def LKS_PWR_STATUS_CAP_EFF (d : Nat) : Field := ⟨(LKS_PWR_STATUS d), 24, 8⟩
def LKS_PWR_STATUS_POWER (d : Nat) : Field := ⟨(LKS_PWR_STATUS d), 16, 8⟩
def LKS_PWR_STATUS_HOST_DUTY (d : Nat) : Field := ⟨(LKS_PWR_STATUS d), 8, 5⟩
def LKS_PWR_STATUS_FCST_DUTY (d : Nat) : Field := ⟨(LKS_PWR_STATUS d), 0, 5⟩
def LKS_FENCE_ERR (d : Nat) : Nat := 0x1000010 + 0x800000 * d
def LKS_FENCE_ERR_VALID (d : Nat) : Field := ⟨(LKS_FENCE_ERR d), 31, 1⟩
def LKS_FENCE_ERR_SOURCE (d : Nat) : Field := ⟨(LKS_FENCE_ERR d), 16, 8⟩
def LKS_FENCE_ERR_KIND (d : Nat) : Field := ⟨(LKS_FENCE_ERR d), 12, 4⟩
def LKS_FENCE_ERR_COUNT (d : Nat) : Field := ⟨(LKS_FENCE_ERR d), 0, 12⟩
def LKS_FENCE_ADDR_LO (d : Nat) : Nat := 0x1000014 + 0x800000 * d
def LKS_FENCE_ADDR_HI (d : Nat) : Nat := 0x1000018 + 0x800000 * d
def LKS_ECC (d : Nat) : Nat := 0x100001C + 0x800000 * d
def LKS_ECC_CE_HBM (d : Nat) : Field := ⟨(LKS_ECC d), 16, 16⟩
def LKS_ECC_CE_SRAM (d : Nat) : Field := ⟨(LKS_ECC d), 8, 8⟩
def LKS_ECC_UE (d : Nat) : Field := ⟨(LKS_ECC d), 0, 8⟩
def LKS_IDLE_CFG (d : Nat) : Nat := 0x1000020 + 0x800000 * d
def LKS_IDLE_CFG_IDLE_US (d : Nat) : Field := ⟨(LKS_IDLE_CFG d), 0, 16⟩
def LKS_CORE (d : Nat) (c : Nat) : Nat := 0x1000100 + 0x800000 * d + 0x4 * c
def LKS_CORE_FCST (d : Nat) (c : Nat) : Field := ⟨(LKS_CORE d c), 31, 1⟩
def LKS_CORE_PHYS (d : Nat) (c : Nat) : Field := ⟨(LKS_CORE d c), 24, 7⟩
def LKS_CORE_STATE (d : Nat) (c : Nat) : Field := ⟨(LKS_CORE d c), 21, 3⟩
def LKS_CORE_DUTY (d : Nat) (c : Nat) : Field := ⟨(LKS_CORE d c), 16, 5⟩
def LKS_CORE_THREADS (d : Nat) (c : Nat) : Field := ⟨(LKS_CORE d c), 8, 8⟩
def LKS_CORE_CE_CNT (d : Nat) (c : Nat) : Field := ⟨(LKS_CORE d c), 0, 8⟩
def LKS_PCORE (d : Nat) (p : Nat) : Nat := 0x1000200 + 0x800000 * d + 0x4 * p
def LKS_PCORE_ROLE (d : Nat) (p : Nat) : Field := ⟨(LKS_PCORE d p), 30, 2⟩
def LKS_PCORE_LOGICAL (d : Nat) (p : Nat) : Field := ⟨(LKS_PCORE d p), 16, 7⟩
def LKS_PCORE_CE_CNT (d : Nat) (p : Nat) : Field := ⟨(LKS_PCORE d p), 0, 16⟩
def LKS_TIER_CTRL (d : Nat) (ch : Nat) : Nat := 0x1000400 + 0x800000 * d + 0x20 * ch
def LKS_TIER_CTRL_DIRTY_RETRY (d : Nat) (ch : Nat) : Field := ⟨(LKS_TIER_CTRL d ch), 2, 1⟩
def LKS_TIER_CTRL_ABORT (d : Nat) (ch : Nat) : Field := ⟨(LKS_TIER_CTRL d ch), 1, 1⟩
def LKS_TIER_CTRL_START (d : Nat) (ch : Nat) : Field := ⟨(LKS_TIER_CTRL d ch), 0, 1⟩
def LKS_TIER_STATUS (d : Nat) (ch : Nat) : Nat := 0x1000404 + 0x800000 * d + 0x20 * ch
def LKS_TIER_STATUS_STATE (d : Nat) (ch : Nat) : Field := ⟨(LKS_TIER_STATUS d ch), 28, 4⟩
def LKS_TIER_STATUS_CAUSE (d : Nat) (ch : Nat) : Field := ⟨(LKS_TIER_STATUS d ch), 24, 4⟩
def LKS_TIER_STATUS_DONE_4K (d : Nat) (ch : Nat) : Field := ⟨(LKS_TIER_STATUS d ch), 0, 23⟩
def LKS_TIER_SRC_LO (d : Nat) (ch : Nat) : Nat := 0x1000408 + 0x800000 * d + 0x20 * ch
def LKS_TIER_SRC_HI (d : Nat) (ch : Nat) : Nat := 0x100040C + 0x800000 * d + 0x20 * ch
def LKS_TIER_SRC_HI_HI (d : Nat) (ch : Nat) : Field := ⟨(LKS_TIER_SRC_HI d ch), 0, 16⟩
def LKS_TIER_DST_LO (d : Nat) (ch : Nat) : Nat := 0x1000410 + 0x800000 * d + 0x20 * ch
def LKS_TIER_DST_HI (d : Nat) (ch : Nat) : Nat := 0x1000414 + 0x800000 * d + 0x20 * ch
def LKS_TIER_DST_HI_HI (d : Nat) (ch : Nat) : Field := ⟨(LKS_TIER_DST_HI d ch), 0, 16⟩
def LKS_TIER_LEN (d : Nat) (ch : Nat) : Nat := 0x1000418 + 0x800000 * d + 0x20 * ch
def LKS_TIER_LEN_LEN (d : Nat) (ch : Nat) : Field := ⟨(LKS_TIER_LEN d ch), 0, 23⟩
def LKS_BAR2_WIN (n : Nat) : Nat := 0x1000800 + 0x4 * n
def LKS_BAR2_WIN_EN (n : Nat) : Field := ⟨(LKS_BAR2_WIN n), 31, 1⟩
def LKS_BAR2_WIN_BASE (n : Nat) : Field := ⟨(LKS_BAR2_WIN n), 0, 14⟩
def LKS_BAR2_STATUS : Nat := 0x1000810
def LKS_BAR2_STATUS_UNMAPPED : Field := ⟨LKS_BAR2_STATUS, 0, 1⟩
def LKS_TRAIN_CTRL : Nat := 0x1000900
def LKS_TRAIN_CTRL_PERIOD_S : Field := ⟨LKS_TRAIN_CTRL, 16, 16⟩
def LKS_TRAIN_CTRL_MAX_CORES : Field := ⟨LKS_TRAIN_CTRL, 8, 8⟩
def LKS_TRAIN_CTRL_EXPORT : Field := ⟨LKS_TRAIN_CTRL, 6, 1⟩
def LKS_TRAIN_CTRL_INSTALL : Field := ⟨LKS_TRAIN_CTRL, 5, 1⟩
def LKS_TRAIN_CTRL_REVERT : Field := ⟨LKS_TRAIN_CTRL, 4, 1⟩
def LKS_TRAIN_CTRL_FORCE : Field := ⟨LKS_TRAIN_CTRL, 3, 1⟩
def LKS_TRAIN_CTRL_PROMOTE : Field := ⟨LKS_TRAIN_CTRL, 2, 1⟩
def LKS_TRAIN_CTRL_AUTO_PROMOTE : Field := ⟨LKS_TRAIN_CTRL, 1, 1⟩
def LKS_TRAIN_CTRL_TRAIN_EN : Field := ⟨LKS_TRAIN_CTRL, 0, 1⟩
def LKS_TRAIN_BOUND : Nat := 0x1000904
def LKS_TRAIN_BOUND_ACCEPT_PCT : Field := ⟨LKS_TRAIN_BOUND, 24, 8⟩
def LKS_TRAIN_BOUND_COVER_MAX : Field := ⟨LKS_TRAIN_BOUND, 16, 8⟩
def LKS_TRAIN_BOUND_VAL_S : Field := ⟨LKS_TRAIN_BOUND, 0, 16⟩
def LKS_TRAIN_STATUS : Nat := 0x1000908
def LKS_TRAIN_STATUS_STATE : Field := ⟨LKS_TRAIN_STATUS, 28, 4⟩
def LKS_TRAIN_STATUS_RESULT : Field := ⟨LKS_TRAIN_STATUS, 24, 4⟩
def LKS_TRAIN_STATUS_TRANSFERRED : Field := ⟨LKS_TRAIN_STATUS, 2, 1⟩
def LKS_TRAIN_STATUS_PROMOTED : Field := ⟨LKS_TRAIN_STATUS, 1, 1⟩
def LKS_TRAIN_STATUS_JUDGED : Field := ⟨LKS_TRAIN_STATUS, 0, 1⟩
def LKS_TRAIN_GEN : Nat := 0x100090C
def LKS_TRAIN_GEN_LIVE : Field := ⟨LKS_TRAIN_GEN, 16, 16⟩
def LKS_TRAIN_GEN_CAND : Field := ⟨LKS_TRAIN_GEN, 0, 16⟩
def LKS_TRAIN_MAE : Nat := 0x1000910
def LKS_TRAIN_MAE_LIVE : Field := ⟨LKS_TRAIN_MAE, 16, 16⟩
def LKS_TRAIN_MAE_CAND : Field := ⟨LKS_TRAIN_MAE, 0, 16⟩
def LKS_TRAIN_XFER_LO : Nat := 0x1000914
def LKS_TRAIN_XFER_HI : Nat := 0x1000918
def LKS_TRAIN_XFER_HI_HI : Field := ⟨LKS_TRAIN_XFER_HI, 0, 16⟩
def LKS_FLEET_CTRL : Nat := 0x1000A00
def LKS_FLEET_CTRL_ROUND_FRAMES : Field := ⟨LKS_FLEET_CTRL, 8, 24⟩
def LKS_FLEET_CTRL_JOIN : Field := ⟨LKS_FLEET_CTRL, 0, 1⟩
def LKS_FLEET_STATUS : Nat := 0x1000A04
def LKS_FLEET_STATUS_MEMBERS : Field := ⟨LKS_FLEET_STATUS, 22, 10⟩
def LKS_FLEET_STATUS_TOO_LONG : Field := ⟨LKS_FLEET_STATUS, 3, 1⟩
def LKS_FLEET_STATUS_ALONE : Field := ⟨LKS_FLEET_STATUS, 2, 1⟩
def LKS_FLEET_STATUS_PARTIAL : Field := ⟨LKS_FLEET_STATUS, 1, 1⟩
def LKS_FLEET_STATUS_ACTIVE : Field := ⟨LKS_FLEET_STATUS, 0, 1⟩
def LKS_FLEET_ROUND : Nat := 0x1000A08
def LKS_FLEET_DISCARD : Nat := 0x1000A0C
def LKS_FLEET_MEMBERS (w : Nat) : Nat := 0x1000A10 + 0x4 * w
def LKS_Q_CTRL (d : Nat) (q : Nat) : Nat := 0x1010000 + 0x800000 * d + 0x40 * q
def LKS_Q_CTRL_VEC (d : Nat) (q : Nat) : Field := ⟨(LKS_Q_CTRL d q), 24, 8⟩
def LKS_Q_CTRL_WEIGHT (d : Nat) (q : Nat) : Field := ⟨(LKS_Q_CTRL d q), 16, 8⟩
def LKS_Q_CTRL_SIZE_LOG2 (d : Nat) (q : Nat) : Field := ⟨(LKS_Q_CTRL d q), 8, 8⟩
def LKS_Q_CTRL_ABORT (d : Nat) (q : Nat) : Field := ⟨(LKS_Q_CTRL d q), 1, 1⟩
def LKS_Q_CTRL_ENABLE (d : Nat) (q : Nat) : Field := ⟨(LKS_Q_CTRL d q), 0, 1⟩
def LKS_Q_STATUS (d : Nat) (q : Nat) : Nat := 0x1010004 + 0x800000 * d + 0x40 * q
def LKS_Q_STATUS_FETCH_ERR (d : Nat) (q : Nat) : Field := ⟨(LKS_Q_STATUS d q), 3, 1⟩
def LKS_Q_STATUS_CQ_FULL (d : Nat) (q : Nat) : Field := ⟨(LKS_Q_STATUS d q), 2, 1⟩
def LKS_Q_STATUS_DB_ERR (d : Nat) (q : Nat) : Field := ⟨(LKS_Q_STATUS d q), 1, 1⟩
def LKS_Q_STATUS_BUSY (d : Nat) (q : Nat) : Field := ⟨(LKS_Q_STATUS d q), 0, 1⟩
def LKS_Q_SQ_BASE_LO (d : Nat) (q : Nat) : Nat := 0x1010008 + 0x800000 * d + 0x40 * q
def LKS_Q_SQ_BASE_HI (d : Nat) (q : Nat) : Nat := 0x101000C + 0x800000 * d + 0x40 * q
def LKS_Q_CQ_BASE_LO (d : Nat) (q : Nat) : Nat := 0x1010010 + 0x800000 * d + 0x40 * q
def LKS_Q_CQ_BASE_HI (d : Nat) (q : Nat) : Nat := 0x1010014 + 0x800000 * d + 0x40 * q
def LKS_Q_CORES_LO (d : Nat) (q : Nat) : Nat := 0x1010018 + 0x800000 * d + 0x40 * q
def LKS_Q_CORES_HI (d : Nat) (q : Nat) : Nat := 0x101001C + 0x800000 * d + 0x40 * q
def LKS_Q_PTR (d : Nat) (q : Nat) : Nat := 0x1010020 + 0x800000 * d + 0x40 * q
def LKS_Q_PTR_SQ_HEAD (d : Nat) (q : Nat) : Field := ⟨(LKS_Q_PTR d q), 16, 16⟩
def LKS_Q_PTR_CQ_TAIL (d : Nat) (q : Nat) : Field := ⟨(LKS_Q_PTR d q), 0, 16⟩
def LKS_Q_DB (d : Nat) (q : Nat) : Nat := 0x1010024 + 0x800000 * d + 0x40 * q
def LKS_Q_DB_SQ_TAIL (d : Nat) (q : Nat) : Field := ⟨(LKS_Q_DB d q), 16, 16⟩
def LKS_Q_DB_CQ_HEAD (d : Nat) (q : Nat) : Field := ⟨(LKS_Q_DB d q), 0, 16⟩
def LKS_Q_RUN (d : Nat) (q : Nat) : Nat := 0x1010028 + 0x800000 * d + 0x40 * q
def LKS_Q_RUN_RUNNING (d : Nat) (q : Nat) : Field := ⟨(LKS_Q_RUN d q), 16, 16⟩
def LKS_Q_RUN_WAITING (d : Nat) (q : Nat) : Field := ⟨(LKS_Q_RUN d q), 0, 16⟩

end Sys2Proof.Machine
end

