-- ==== Sys2Proof/Machine/Sparse.lean ====
section
/-! DEFINITION. A sparse store: a list of (address, value) pairs, addresses strictly rising, no
entry equal to what an unlisted address reads as. The register file and the byte memories are such
stores. -/

namespace Sys2Proof.Machine

/-- What a store reads at an address: the first listed value, or the default. -/
def sparseRead {α : Type} (d : Nat → α) : List (Nat × α) → Nat → α
  | [], a => d a
  | (b, x) :: t, a => if b = a then x else sparseRead d t a

/-- Put a pair at its place in a store that does not list the address. -/
def sparseInsert {α : Type} : List (Nat × α) → Nat → α → List (Nat × α)
  | [], a, x => [(a, x)]
  | (b, y) :: t, a, x => if a < b then (a, x) :: (b, y) :: t else (b, y) :: sparseInsert t a x

/-- Take an address out of a store. -/
def sparseErase {α : Type} : List (Nat × α) → Nat → List (Nat × α)
  | [], _ => []
  | (b, y) :: t, a => if b = a then sparseErase t a else (b, y) :: sparseErase t a

/-- Write a value: an address that would then read as its default is not listed. -/
def sparseWrite {α : Type} [DecidableEq α] (d : Nat → α) (l : List (Nat × α)) (a : Nat) (x : α) :
    List (Nat × α) :=
  if x = d a then sparseErase l a else sparseInsert (sparseErase l a) a x

/-- The canonical form, from a lower bound on. -/
def sparseWfFrom {α : Type} [DecidableEq α] (d : Nat → α) : Nat → List (Nat × α) → Bool
  | _, [] => true
  | n, (b, y) :: t => n ≤ b && y != d b && sparseWfFrom d (b + 1) t

/-- The canonical form: addresses strictly rising, no entry at its default. -/
def sparseWf {α : Type} [DecidableEq α] (d : Nat → α) (l : List (Nat × α)) : Bool :=
  sparseWfFrom d 0 l

/-- What a byte of MRAM, of module memory or of core SRAM reads before anything has written it
(DESIGN CHOICE, log 4). -/
def blankByte : Nat → BitVec 8 := fun _ => 0

/-- Write bytes from an address on. -/
def sparseWriteBytes : List (Nat × BitVec 8) → Nat → List (BitVec 8) → List (Nat × BitVec 8)
  | m, _, [] => m
  | m, a, x :: t => sparseWriteBytes (sparseWrite blankByte m a x) (a + 1) t

/-- Read n bytes from an address on. -/
def sparseReadBytes (m : List (Nat × BitVec 8)) : Nat → Nat → List (BitVec 8)
  | _, 0 => []
  | a, n + 1 => sparseRead blankByte m a :: sparseReadBytes m (a + 1) n

end Sys2Proof.Machine
end

