-- ==== Sys2Proof/Machine/Blocks.lean ====
section
/-! DEFINITION. The state of the blocks of the module, part 1: identity, pins, PCIe, start-up, clocks,
Bridle, the Saddlebag, Harness, Rein, the Spur island. Plain data. -/

namespace Sys2Proof.Machine

/-- The OTP fuse block (R98), with the module's variant. -/
structure Otp where
  variant : Variant := .full
  serial : List Byte := List.replicate 16 0
  vendorKeyHash : List Byte := List.replicate 64 0
  opkeyHash : List Byte := List.replicate 64 0
  opkeyEn : Bool := false
  idSeed : List Byte := List.replicate 32 0
  rollback : Nat := 0
  debugLock : Bool := true
  deriving DecidableEq, Repr

/-- Output pins and the input pins that no register shows (R33, R40, R46, R50, R57). Index 0 is
string A, path Near, pump 1, connector J3. -/
structure Pins where
  isoEn : Bool := false
  contEn : List Bool := [false, false]
  drvEn : List Bool := [false, false, false, false]
  /-- BRD_DRV_EN of a connector held low by R43, R44 or R504. -/
  drvHeld : List Bool := [false, false, false, false]
  txDisable : List Bool := [false, false]
  pumpDuty : List Nat := [100, 100]
  /-- RS1 and RS0 of the two cages, as a two-bit number (R50): no rule says when the module drives them high (log 66). -/
  rateSelect : List Nat := [0, 0]
  /-- PERST_N low. -/
  perst : Bool := true
  /-- VIN above the start threshold and the converter running (R33). -/
  powered : Bool := true
  /-- Input over-voltage lockout (R33). -/
  ovLockout : Bool := false
  /-- GiB of the CAMM2 module in each DDR5 socket, 0 for none (R363, R85). -/
  camm : List Nat := [128, 128]
  /-- WAKE_N asserted (low). -/
  wakeN : Bool := false
  /-- The TAP's current instruction (R41, R134): IDCODE after its reset. -/
  tapIr : Nat := 1
  deriving DecidableEq, Repr

/-- The link state of the PCIe function: L1.1 is the substate of L1 that R36 lists. -/
inductive Link
  | down | training | up | l1 | l11
  deriving DecidableEq, Repr

/-- The link stands in L1 or in its substate L1.1. -/
def Link.low (l : Link) : Bool := l == .l1 || l == .l11

/-- Messages and DMA can leave: the link is up, L1 included. -/
def Link.live (l : Link) : Bool := l == .up || l.low

/-- The PCIe function (R36 to R38) and its MSI-X structures (R496, R498). -/
structure Pcie where
  link : Link := .down
  /-- The data rate, 0 for 2.5 GT/s to 5 for 64 GT/s, and the lanes in use, 0 before training (R36). -/
  gen : Nat := 0
  width : Nat := 0
  /-- 0 D0, 1 D3hot, 2 D3cold. -/
  dstate : Nat := 0
  /-- Configuration requests complete with CRS (R37). -/
  crs : Bool := true
  /-- Vectors whose table entry is unmasked. -/
  unmasked : List Nat := []
  /-- Table entries: vector, message address, message data. -/
  table : List (Nat × Word64 × Word) := []
  /-- The pending-bit array: vectors with a held message. -/
  pendingBits : List Nat := []
  deriving DecidableEq, Repr

/-- What the module has sent out: messages, frames, transactions and DMA writes, newest first. -/
inductive Out
  | msix (vector : Nat)
  /-- The answer to a read: the addressed bytes in their lanes, the other lanes zero (R13). -/
  | readData (requester : Nat) (addr lanes : Nat) (value : Word)
  | hostWrite (addr : Nat) (bytes : List Byte)
  | spurAck (bytes : List Byte)
  /-- A PMBus transaction: address, command code, what the module sends after it, and its PEC byte where the module sends
  one; a read's PEC comes from the rectifier (R53). -/
  | pmbus (addr code : Nat) (data : List Byte) (pec : Option Byte)
  /-- The module ends a stuck transaction: nine SCL clocks and a stop (R56). -/
  | pmbusUnstick
  /-- A profile SPI transaction: instruction, address bytes, address, bytes read (R59, R60). -/
  | spi (instruction addrBytes addr len : Nat)
  | fabric (path : Nat) (bytes : List Byte)
  | hostRead (addr : Nat) (len : Nat)
  | ring (string ringEnd kind : Nat) (line : List Bool)
  | tap (instruction : Nat) (value : Word)
  | i2cRead (cage page : Nat)
  | syncOut
  | bar2 (offset : Nat) (bytes : List Byte)
  deriving DecidableEq, Repr

/-- Profile, bundle, arming, identity (R69 to R104). -/
structure Boot where
  /-- The TLV records of the profile read at power-up: TYPE and value. -/
  profile : List (Nat × List Byte) := []
  /-- Unknown non-critical records skipped (R78). -/
  skipped : Nat := 0
  /-- The module's own copy of the bundle being verified (R83, R85). -/
  staged : List Byte := []
  /-- SHA3-512 of the loaded manifest (R104). -/
  manifestDigest : List Byte := []
  /-- Loaded images: TYPE and digest (R104). -/
  images : List (Nat × List Byte) := []
  /-- A bundle has reached LOADED in this power-up (R510). -/
  everLoaded : Bool := false
  /-- Tack control firmware runs (R75, R84, R420). -/
  fwRuns : Bool := false
  /-- The step of R93 in progress: 0 none, 1 waiting for blockers, 2 checks, 3 enumeration,
  4 contactors requested, 5 precharge, 6 isolation requested, 7 loops started. -/
  armStep : Nat := 0
  /-- The contactors have been requested in this attempt (R95). -/
  contRequested : Bool := false
  /-- This attempt re-arms out of ISOLATED (R96). -/
  rearm : Bool := false
  /-- A disarm is in progress (R97). -/
  disarming : Bool := false
  /-- A DISARM kept by a fault of the same cycle, or written in ISOLATED (R71). -/
  disarmKept : Bool := false
  /-- An automatic retry is due after RETRY_HOLD_S (R96). -/
  retryWait : Bool := false
  /-- RETRIES_LEFT has been loaded since the last host ARM (R96). -/
  retryLoaded : Bool := false
  /-- Target of the fuse programming in progress (R99). -/
  svnTarget : Nat := 0
  /-- The bundle that is loaded has reached ARMED in this power-up (R99). -/
  armedOnce : Bool := false
  /-- The identity key pair has been derived (R102). -/
  idKey : Bool := false
  /-- Learned values have been restored in this power-up (R297). -/
  restored : Bool := false
  deriving DecidableEq, Repr

/-- A clock switch in progress (R111, R506). -/
inductive Switch
  | none
  | main (src : Nat)
  | aon (src : Nat)
  | pllRef (src : Nat)
  deriving DecidableEq, Repr

/-- An access to BAR0 or BAR2 that waits while the PLLs relock (R506). -/
inductive HostAcc
  | write (byTack : Bool) (a : Nat) (be : Nat) (v : Word)
  | read (who : Nat) (a : Nat) (be : Nat)
  | bar2 (off : Nat) (n : Nat) (data : Option (List Byte))
  deriving DecidableEq, Repr

/-- Clocks and power modes (R105 to R136). -/
structure Clk where
  switch : Switch := .none
  /-- Accesses that wait for the end of a PLL_REF change, oldest first (R506). -/
  waiting : List HostAcc := []
  /-- CLK_READY bits of sources whose forcing loss holds the outputs (R129, R131). -/
  holdBits : List Nat := []
  /-- Wake latches, CLK_EN layout (R119, R123). -/
  wakeLatch : Nat := 0
  /-- A MODE write that waits for a transition (R121). -/
  modePending : Option Nat := none
  /-- Sources and PLLs that have been ready, or been given up, in this power-up, in the bits of CLK_READY (R115). -/
  seen : Nat := 0x01
  /-- Elapsed time at XTAL-A's last readiness (R470). -/
  xtalAt : Nat := 0
  /-- A frequency measurement is running (R136). -/
  measuring : Bool := false
  /-- Its reference clock, by R136's code. -/
  measRef : Nat := 0
  /-- Domains whose gate-off waits for acknowledges or idle cores (R120), CLK_EN layout. -/
  gateWait : Nat := 0
  /-- PLL-MEM and PLL-CORE have been started (R115). -/
  pllMem : Bool := false
  pllCore : Bool := false
  /-- Memory domains in self-refresh, CLK_EN layout (R118). -/
  selfRefresh : Nat := 0x0C00
  deriving DecidableEq, Repr

/-- Bridle (R410 to R434, R507 to R509). -/
structure Brd where
  /-- Active level conditions: code and index (R418). -/
  active : List (Nat × Nat) := []
  /-- The cause set, or the latched set in LATCHED: code and class, in joining order (R421, R433). -/
  causes : List (Nat × Nat) := []
  /-- Elapsed time of the recovery starts (R423). -/
  starts : List Nat := []
  /-- The elapsed time at which the running hold-off timer started (R421). -/
  holdoff : Option Nat := none
  /-- Strings whose contactor opens at 20 A or after 200 µs (R413). -/
  openDue : List Nat := []
  /-- Strings whose opening waits for the release of the over-voltage latch (R414). -/
  openAfterOv : List Nat := []
  /-- The action of 0x0103 that waits for the release: 0 none, 2 ISOLATE, 3 LATCH (R414). -/
  ovAction : Nat := 0
  /-- Strings held by STR_OUT (R507). -/
  strOut : List Nat := []
  /-- Strings whose contactor Bridle is closing for a return (R507). -/
  returning : List Nat := []
  /-- The soft-start window is open (R427). -/
  ssWindow : Bool := false
  /-- The off period of a soft-start abort runs (R427). -/
  ssOff : Bool := false
  /-- A host kick has arrived since power-up or since the link returned (R431). -/
  hostKicked : Bool := false
  /-- The control firmware is being restarted after a watchdog expiry (R420). -/
  fwRestart : Bool := false
  /-- Elapsed time at which the shelf reached PASSIVE (R425). -/
  offSince : Option Nat := none
  /-- Elapsed time at which each group's last channel reached OFF (R425, R426). -/
  grpOffSince : List (Option Nat) := List.replicate 13 none
  /-- Fraction of each string under 0x0207, in 48ths (R417, R430). -/
  stringFrac : List Nat := [48, 48]
  /-- ISO_LIMIT waits for the next L1 slot (R413). -/
  isoLimitDue : Bool := false
  deriving DecidableEq, Repr

/-- One Saddlebag record (R439, R440). `key` is DETAIL byte 8, LIST or PATH (R441); `body` is the
payload from 0x20, for a FAULT its DETAIL. -/
structure Rec where
  kind : Nat
  prio : Nat
  units : Nat
  domain : Nat
  seq : Nat
  time : Nat
  opsec : Nat
  cycles : Nat
  code : Nat
  incident : Nat
  cls : Nat
  key : Nat
  reps : Nat
  last : Nat
  incOpen : Bool
  pinned : Bool
  body : List Byte
  deriving DecidableEq, Repr

/-- A queued record, and whether it stands in the reserve (R450). -/
structure QItem where
  rec_ : Rec
  reserve : Bool
  deriving DecidableEq, Repr

/-- A pending GAP record (R451). -/
structure Gap where
  time : Nat
  cause : Nat
  lostP1 : Nat := 0
  lostP2 : Nat := 0
  sampled : Nat := 0
  lostP3 : Nat := 0
  xing : Nat := 0
  stop : Option Nat := none
  deriving DecidableEq, Repr

/-- A record path: 0 the MRAM recorder, 1 to 4 host rings 0 to 3 (R450, R451). -/
structure TPath where
  queue : List QItem := []
  gap : Option Gap := none
  /-- P2 records due since the last one kept at BUSY. -/
  dueP2 : Nat := 0
  /-- Units since the last interrupt of the ring (R452). -/
  sinceIrq : Nat := 0
  /-- The ring has been enabled once (R453). -/
  used : Bool := false
  deriving DecidableEq, Repr

/-- A snapshot whose reads are in progress (R447). -/
structure Snap where
  list : Nat
  time : Nat
  missed : Nat
  incident : Nat
  incOpen : Bool
  deriving DecidableEq, Repr

/-- Saddlebag (R435 to R456). -/
structure Sbg where
  paths : List TPath := List.replicate 5 {}
  /-- Last incident number (R443). -/
  incNum : Nat := 0
  /-- Elapsed time of the open incident's last opening event (R444). -/
  incAt : Nat := 0
  /-- The units that each pinned slot holds of its incident's records (R442, R444). -/
  slotUnits : List Nat := List.replicate 16 0
  /-- The ring's next unit, and its records, oldest first: first unit and units (R442). -/
  ringNext : Nat := 0
  ringRecs : List (Nat × Nat) := []
  /-- GEN of the newest control block, and which copy comes next (R443). -/
  cbGen : Nat := 0
  cbCopy : Nat := 0
  /-- A control block waits for the remap of its sector (R467). -/
  cbDue : Bool := false
  snaps : List Snap := []
  /-- Elapsed time of each list's last firing (R448). -/
  listFired : List (Option Nat) := List.replicate 16 none
  /-- The samples of the TRACE record in progress, and shelf time at the first (R440, R453). -/
  trace : List (List Byte) := []
  traceFirst : Nat := 0
  deriving DecidableEq, Repr

/-- One phase channel of Harness inside its switching cycle (R137 to R153). The channel's state,
direction, diode emulation, limit count and reference code stand in HRN_CH_STATUS. -/
structure Chan where
  /-- DRV_HI and DRV_LO. -/
  hi : Bool := false
  lo : Bool := false
  /-- The most recent reference Rein has delivered, signed, 0.1 A (R139). -/
  ref : Int := 0
  /-- What the gate timer runs for: 0 nothing, 1 the control switch's dead time, 2 the synchronous switch's, 3 the 200 ns of
  the bootstrap refresh (R137, R152). -/
  dead : Nat := 0
  /-- Inside the leading-edge blanking, and a trip seen there (R140). -/
  blank : Bool := false
  tripSeen : Bool := false
  /-- The zero-current comparator saw zero in this cycle (R141, R146, R151). -/
  zeroSeen : Bool := true
  /-- The limit tripped in this cycle (R163). -/
  limited : Bool := false
  /-- Restart cycles begun (R152); the soft-ramp cycle that comes next, counted from 1, 0 for no ramp (R164). -/
  restart : Nat := 0
  soft : Nat := 0
  /-- Cycles left of the shed ramp (R151). -/
  shedLeft : Nat := 0
  /-- The channel leaves service after its shed (R148). -/
  leaving : Bool := false
  /-- Shed for OT_WARN and not yet below T_WARN − 10 °C (R166). -/
  warm : Bool := false
  /-- ISNS at the control-switch turn-off of the last complete cycle in which it conducted, and of the cycle in progress,
  0.1 A (R173); ISNS as last seen. -/
  peak : Int := 0
  peakNow : Option Int := none
  isns : Int := 0
  /-- PEAK_LIMIT, SLOPE_DIS, SLOPE_CHG and DEADTIME as they stood at the cycle start (R174). -/
  limit : Nat := 900
  slopeDis : Nat := 111
  slopeChg : Nat := 278
  deadTime : Nat := 12
  /-- FLT_N is low; the code of the stage fault that has not ended, 0 for none (R166, R171). -/
  flt : Bool := false
  faultCode : Nat := 0
  deriving DecidableEq, Repr

/-- A last-fault record in the queue (R172, R173), captured whole at its trigger. -/
structure Lfr where
  bytes : List Byte
  deriving DecidableEq, Repr

/-- Harness (R137 to R180). -/
structure Hrn where
  chans : List Chan := List.replicate 104 {}
  /-- Groups in diode emulation (R146). -/
  grpDe : List Bool := List.replicate 13 false
  /-- Switching period in effect, in hundredths of T_c: a slew of 1 % of PERIOD moves it by PERIOD (R158 to R161). -/
  period100 : Nat := 200000
  /-- The G0 cycle start against the last valid sync edge, tenths of a degree, positive when late (R161). -/
  phase : Int := 0
  /-- An edge has fallen before the window since the last accepted one (R159). -/
  stray : Bool := false
  /-- Consecutive good sync intervals, and consecutive aligned cycles (R161). -/
  good : Nat := 0
  aligned : Nat := 0
  /-- Shed slots suspended after a step event, by string (R153). -/
  stepHold : List Bool := [false, false]
  /-- The last string current commands, raw Q1.31 of 8,192 A (R150, R153, R192). -/
  strCmd : List Int := [0, 0]
  /-- Channels active at an over-voltage declaration (R167), while its outcome is open. -/
  ovActive : List Nat := []
  ovOpen : Bool := false
  /-- The last-fault queue, the next slot and the next SEQ (R172). -/
  lfrQ : List Lfr := []
  lfrSlot : Nat := 0
  lfrSeq : Nat := 0
  /-- The substitution hold of R464 on a group: string, channel. -/
  phHold : Option (Nat × Nat) := none
  /-- The rank that each spare channel, PH096 on, has taken over (R149). -/
  spareRank : List (Option Nat) := List.replicate 8 none
  /-- HRN_SHED_CFG and HRN_SHED_STEP as of the last Rein sample (R174). -/
  shedCfg : Word := 0x0408321E
  shedStep : Word := 0x0014012C
  /-- Channels that the shed slots have shed, by string, and those counts at each group's last hiccup (R164). -/
  slotSheds : List Nat := [0, 0]
  slotsAtHiccup : List (List Nat) := List.replicate 13 [0, 0]
  /-- The shelf has been ISOLATED or LATCHED since its last ARMING (R165). -/
  freshDue : Bool := false
  deriving DecidableEq, Repr

/-- The measurements Rein took last: VBUS, VNODE and VSTR in 10 mV (R45), and the last twelve samples of
VNODE with each group's current (R173). -/
structure Meas where
  vbus : Nat := 0
  vnode : Nat := 0
  vstr : List Nat := [0, 0]
  /-- Shelf current and string currents at the phases, 0.1 A. -/
  isum : Int := 0
  istr : List Int := [0, 0]
  hist : List (Nat × List Int) := []
  /-- Each channel's ISNS as the last sample took it, 0.1 A, and the channel whose ISNS input has moved to a spare converter since:
  the next sample takes its previous value once more (R469). -/
  isns : List Int := []
  again : Option Nat := none
  deriving DecidableEq, Repr

/-- A relay tune that drives a cascade's output (R209). Amplitudes and outputs are raw Q1.31. -/
structure Tune where
  cas : Nat
  /-- The output at the start, and the relay's amplitude. -/
  u0 : Int
  h : Nat
  /-- The relay stands at u0 + h, or at u0 − h; none before its first switch. -/
  up : Option Bool := none
  /-- Elapsed time of the start and of the last switch up. -/
  start : Nat
  lastUp : Option Nat := none
  /-- Largest and smallest measurement of the cycle in progress. -/
  hi : Int
  lo : Int
  /-- The last full cycle's half peak-to-peak amplitude, and the full cycles run. -/
  amp : Nat := 0
  cycles : Nat := 0
  /-- Consecutive cycles within 10 % of the target. -/
  good : Nat := 0
  /-- Some cycle has been within 10 % of the target (R211). -/
  anyGood : Bool := false
  /-- Measuring has begun; the cycles measured, with the sums of their periods and amplitudes. -/
  measuring : Bool := false
  measured : Nat := 0
  periods : Nat := 0
  amps : Nat := 0
  deriving DecidableEq, Repr

/-- Rein (R181 to R215): what its registers do not show. -/
structure Rein where
  /-- The 24-bit following-error timers, and whether each has tripped since its last reset (R206). -/
  fe : List Nat := List.replicate 8 0
  tripped : List Bool := List.replicate 8 false
  /-- Cascades that start under R198 at the next sample. -/
  restart : List Nat := []
  /-- Elapsed time at which each cascade reached OFF (R425). -/
  offAt : List (Option Nat) := List.replicate 8 none
  tune : Option Tune := none
  /-- The cascade of a PENDING tune (R208). -/
  tunePending : Option Nat := none
  /-- READ_IOUT and READ_VOUT of each rectifier, as LINEAR11 words (R55, R502). -/
  iout : List Nat := List.replicate 6 0
  vout : List Nat := List.replicate 6 0
  /-- Consecutive slots in which a rectifier failed (R56). -/
  fails : List Nat := List.replicate 6 0
  /-- The next rotating read (R55): 4 × rectifier + register. -/
  rotate : Nat := 0
  /-- The ramp rate last written to each rectifier, A/ms (R54, R197). -/
  rates : List (Option Nat) := List.replicate 6 none
  /-- Consecutive samples with current that neither string takes (0x0310). -/
  unserved : Nat := 0
  /-- Limit writes that a later slot sends: rectifier and LINEAR11 word (R55). -/
  carried : List (Nat × Nat) := []
  /-- The total that L1 leaves behind, raw, until a slot has written it (R97, R511). -/
  handover : Option Int := none
  deriving DecidableEq, Repr

/-- A committed sample (R229). Powers are in 0.1 kW. -/
structure Sample where
  step : Nat
  /-- L_2 after the offset and the base ramp, L with every hint, and P_ff. -/
  base : Int
  load : Int
  pff : Int
  /-- The grid draw it was formed with. -/
  grid : Int
  edge : Bool
  /-- The edge's sign, and whether a stream's entry marked it (R230). -/
  sign : Int := 0
  marked : Bool := false
  /-- An earlier hint has claimed the edge. -/
  claimed : Bool := false
  hintOnly : Bool
  /-- The streams gave a forecast for the step, used or not (R219, R229). -/
  present : Bool := false
  /-- ΣCONF in 0.1 kW, and whether it reduced the change (R229, R397). -/
  conf : Int := 0
  confCut : Bool := false
  /-- The clamp of R233 reduced it. -/
  clamped : Bool
  deriving DecidableEq, Repr

/-- A hint-table entry (R224, R242), with what its merge applied (R231). -/
structure Hint where
  slot : Nat
  seq : Nat
  falls : Bool
  lane : Nat
  replace : Bool
  kh : Nat
  dh : Nat
  sh : Int
  known : Bool
  capture : Nat
  srcId : Nat
  /-- The end of its effect (R224). -/
  stop : Nat
  merged : Bool := false
  inserted : Bool := false
  claim : Option Nat := none
  delta : Int := 0
  /-- Re-timed samples: the step, and what was added to its load. -/
  retimed : List (Nat × Int) := []
  deriving DecidableEq, Repr

/-- The Spur island and the commit (R216 to R242). -/
structure Fcst where
  /-- The commit runs (R228), and the step in progress. -/
  running : Bool := false
  step : Nat := 0
  /-- Committed samples, rising steps, the last consumed ones included. -/
  window : List Sample := []
  hints : List Hint := []
  /-- The last 64 SEQ values acknowledged (R222), newest first. -/
  acked : List Nat := []
  /-- The valid frames of the last 1 µs that were no pair copies: lane, SEQ, elapsed time (R223). -/
  lastRx : List (Nat × Nat × Nat) := []
  /-- L_m of the last three steps, newest first (R229, R235). -/
  lm : List Int := []
  /-- Shelf current summed over the samples of the step in progress, 0.1 A, and their number. -/
  curSum : Int := 0
  curN : Nat := 0
  /-- O of R236, the streams' GEN at its detection, and whether it returns to zero. -/
  offset : Int := 0
  genAt : List Nat := []
  decay : Bool := false
  /-- Streams that have not written QUIET_UNTIL since the last unannounced step (R238). -/
  stale : List Nat := []
  /-- Elapsed time of the last accepted hint (R239). -/
  lastAccept : Option Nat := none
  /-- The step of the first sample each rebase changed, and its P_ff before, until Rein has made the transfer (R236). -/
  rebase : List (Nat × Int) := []
  /-- HEAD_STEP of each stream: HI and LO as the last write of LO applied them (R226). -/
  heads : List Nat := List.replicate 16 0
  /-- The base moves along BASE_RAMP after a change between forecast and hint-only (R229). -/
  ramping : Bool := false
  /-- MODEL streams write: the forecast runtime has its image (R372). -/
  model : Bool := false
  /-- The streams' GEN as the commit started (R93). -/
  startGen : List Nat := []
  deriving DecidableEq, Repr

end Sys2Proof.Machine
end

