-- ==== Sys2Proof/Machine/BlocksFab.lean ====
section
/-! DEFINITION. The state of the blocks of the module, part 3: the Turpor fabric and the Larkspur dies.
Plain data. -/

namespace Sys2Proof.Machine

/-! ### Turpor (R304 to R340) -/

/-- An entry of the alarm queue (R319, R320). -/
structure Alarm where
  code : Nat
  cls : Nat
  reps : Nat
  seq : Nat
  time : Nat
  detail : List Byte
  deriving DecidableEq, Repr

/-- A sender's window of control sequence numbers (R310): INC, the highest SEQ accepted, and the bitmap
of the 64 below it. -/
structure RxWin where
  src : Nat
  inc : Nat
  high : Nat
  marks : Nat
  deriving DecidableEq, Repr

/-- Timing of one path (R314, R315), in 1/256 tick. -/
structure PathSt where
  /-- The smallest t_rx − TX_TIME of the block in progress, and its offset sample. -/
  best : Option (Int × Int) := none
  /-- The last two offset estimates, newest first. -/
  ests : List Int := []
  delay : Option Int := none
  delayAt : Nat := 0
  /-- TX_TIME and receive stamp of the last SYNC, and the DELAY_REQ that waits for its answer. -/
  lastSync : Option (Int × Int) := none
  req : Option (Nat × Int) := none
  /-- The last frame in which a SYNC arrived on the path. -/
  heard : Option Nat := none
  /-- A new hall lead's delay is to be measured (R315). -/
  measure : Bool := false
  /-- The path's link is lost: nothing is sent on it (R334). -/
  linkLost : Bool := false
  deriving DecidableEq, Repr

/-- What the module keeps of the newest SYNC (R318). -/
structure SyncRec where
  frame : Nat
  src : Nat
  epoch : Nat
  short : Bool
  h : Int
  targets : List Int
  live : Nat
  digest : Nat
  deriving DecidableEq, Repr

/-- What the module keeps of a team's newest TEAM_SUMMARY (R321). Members: TARGET, S, STATE, FLAGS, SOC. -/
structure SummRec where
  frame : Nat
  team : Nat
  src : Nat
  epoch : Nat
  flags : Nat
  live : Nat
  flex : Nat
  load : Int
  hDis : Int
  hChg : Int
  target : Int
  grid : Int
  alarm : Nat
  members : List (Int × Int × Nat × Nat × Nat)
  /-- The frame in which the newest one arrived, late ones too (R311). -/
  heard : Nat
  deriving DecidableEq, Repr

/-- What the module keeps of a member's newest SHARE (R319). -/
structure ShareRec where
  frame : Nat
  member : Nat
  state : Nat
  flags : Nat
  load : Int
  grid : Int
  hDis : Int
  hChg : Int
  hrDelta : Int
  target : Int
  soc : Nat
  digest : Nat
  /-- The frame in which the newest one arrived, late ones too (R311). -/
  heard : Nat
  deriving DecidableEq, Repr

/-- A bulk frame that waits for its window (R337): path and bytes after the Ethernet header. -/
structure BulkOut where
  path : Nat
  dest : Nat
  seq : Nat
  body : List Byte
  deriving DecidableEq, Repr

/-- Turpor. -/
structure Fab where
  alarms : List Alarm := []
  alarmSeq : Nat := 0
  wins : List RxWin := []
  /-- The last control sequence number sent (R310). -/
  seq : Nat := 0
  paths : List PathSt := [{}, {}]
  sync : Option SyncRec := none
  /-- The newest summary of the module's own team that it follows, and every team's newest one. -/
  summ : Option SummRec := none
  summs : List SummRec := []
  shares : List ShareRec := []
  /-- The hall lead's A and H in 10 W, the targets it computed, and the frame of the computation (R323, R324). -/
  a : Option Rat := none
  h : Rat := 0
  targets : List Int := List.replicate 32 0
  hallShort : Nat := 0
  hallLoad : Int := 0
  hallGrid : Int := 0
  hallLive : Nat := 0
  computed : Option Nat := none
  /-- The team lead's closed collection, the frames of ABSORB left, and the flexible set before (R325 to R328). -/
  closed : Option SummRec := none
  absorbLeft : Nat := 0
  lastFlex : Nat := 0
  lastFixed : Nat := 0
  /-- The frame in which this module took the team lead (R325). -/
  office : Nat := 0
  /-- The frame from which lead records may be sent after a firmware start (R331). -/
  listen : Nat := 0
  /-- The frame in which a successor's role starts: hall, team (R331). -/
  starts : List (Option Nat) := [none, none]
  /-- The stand-alone average in 10 W (R307). -/
  saAvg : Option Rat := none
  /-- Load and grid draw, watt: the sums of the frame in progress, and the last frame's means (R319). -/
  accFrame : Nat := 0
  accLoad : Rat := 0
  accGrid : Rat := 0
  accN : Nat := 0
  prevLoad : Rat := 0
  prevGrid : Rat := 0
  /-- A time step due at the next frame boundary, 1/256 tick (R317). -/
  stepDue : Option Int := none
  /-- DELAY_REQs of this frame: sender, path, SEQ, receive stamp (R315). -/
  reqs : List (Nat × Nat × Nat × Int) := []
  /-- SUCC_DIGEST of the newest accepted SYNC (R331). -/
  digest : Option Nat := none
  /-- The frame in which a lead lost its role to a winning record: hall, team (R332). -/
  ends : List (Option Nat) := [none, none]
  /-- What is left of the offset to steer away, and the part of a tick steered so far, in 1/1,280,000 tick (R314). -/
  steer : Int := 0
  steered : Int := 0
  /-- Bulk frames that wait (R337), and the other modules' bulk chunks taken in this window. -/
  bulk : List BulkOut := []
  deriving DecidableEq, Repr

/-! ### Larkspur (R341 to R409) -/

/-- A running or faulted thread: its registers that are not 0, its sticky flags, its fault (R348, R359). -/
structure LThr where
  die : Nat
  core : Nat
  thr : Nat
  regs : List (Nat × Word) := []
  nv : Bool := false
  ovf : Bool := false
  uf : Bool := false
  faulted : Bool := false
  /-- The seed of its generator, and the numbers drawn (R358, R389). -/
  seed : Nat := 0
  draws : Nat := 0
  deriving DecidableEq, Repr

/-- One accumulator set of one matrix engine (R349, R351). kind: 0 FP32 patterns, 1 INT32, 2 Q2.62 sums. -/
structure LAcc where
  die : Nat
  core : Nat
  engine : Nat
  set_ : Nat
  kind : Nat
  cells : List Int
  deriving DecidableEq, Repr

/-- A fetched command of a queue (R383) and the submission head after it. -/
structure LCmd where
  op : Nat
  flags : Nat
  entry : Nat
  tag : Nat
  image : Nat
  mask : Nat
  arg : Nat
  seed : Nat
  timeout : Nat
  threads : Nat
  head : Nat
  /-- Elapsed time of its fetch. -/
  born : Nat
  deriving DecidableEq, Repr

/-- A job that runs (R384, R390). -/
structure LJob where
  die : Nat
  q : Nat
  cmd : LCmd
  start : Nat
  /-- Its threads have started; before that it waits for its cores to wake. -/
  started : Bool
  /-- Threads that faulted, with the first fault's cause, core, thread, address. -/
  faulted : Nat := 0
  cause : Nat := 0
  core : Nat := 0
  thread : Nat := 0
  addr : Nat := 0
  nv : Bool := false
  ovf : Bool := false
  uf : Bool := false
  deriving DecidableEq, Repr

/-- A hardware queue: commands fetched and not finished, in ring order; the phase of the next completion;
completions held for ring space (R386, R387). -/
structure LQueue where
  waiting : List LCmd := []
  /-- WAKE and SLEEP commands in effect that wait for their cores. -/
  acts : List LCmd := []
  phase : Bool := true
  held : List (List Byte × Bool) := []
  deriving DecidableEq, Repr

/-- What a logical core's register does not show: its own gate (R392), the IMAGE_ID last loaded, the state
before COPYING, the elapsed time it entered its state. -/
structure LCore where
  gate : Bool := false
  image : Option Nat := none
  before : Nat := 0
  since : Nat := 0
  /-- The spare that a copy fills. -/
  spare : Nat := 0
  deriving DecidableEq, Repr

/-- A die: its junction is above the limit of 0x050A, so its cap is 0 W (R417). -/
structure LDie where
  hot : Bool := false
  /-- Since when HOST_DUTY stands at 0, and since when CAP_EFF exceeds the estimate by 20 % (R362). -/
  zeroSince : Option Nat := none
  coolSince : Option Nat := none
  /-- The host queue that the weighted round robin served last, and its serves left (R388). -/
  rrQueue : Nat := 63
  rrLeft : Nat := 0
  deriving DecidableEq, Repr

/-- A tiering channel's copy (R367, R368). -/
structure LTier where
  active : Bool := false
  src : Nat := 0
  dst : Nat := 0
  len : Nat := 0
  dirty : List Nat := []
  deriving DecidableEq, Repr

/-- A weight slot of the system region: empty, or its generation and the length of the weights, whose bytes
stand at the slot's address (R396, R400). -/
structure LWeights where
  present : Bool := false
  gen : Nat := 0
  len : Nat := 0
  deriving DecidableEq, Repr

/-- Training (R398 to R401). pend: requests that wait for a burst's end, in order: 1 EXPORT, 2 INSTALL. -/
structure LTrain where
  live : LWeights := {}
  previous : LWeights := {}
  candidate : LWeights := {}
  modelId : Nat := 0
  burst : Bool := false
  /-- Cores of the burst: die and core. -/
  cores : List (Nat × Nat) := []
  pend : List Nat := []
  /-- The partition reloads, an EXPORT copies, an installed blob is evaluated. -/
  reload : Bool := false
  exporting : Bool := false
  /-- XFER of the EXPORT in progress (R401). -/
  xferAt : Nat := 0
  evaluating : Bool := false
  deriving DecidableEq, Repr

/-- One direction of a fleet round (R402, R403): 0 forward on Near, 1 backward on Off. -/
structure LDir where
  /-- Segments of FP32 words, with each chunk's COUNT. -/
  data : List (List Word) := []
  counts : List (List Nat) := []
  /-- Phase 0 reduce-scatter, 1 all-gather, 2 ended; step and chunk next sent. -/
  phase : Nat := 2
  step : Nat := 0
  chunk : Nat := 0
  /-- Chunks received and not yet used: phase, step, chunk, COUNT, words. -/
  inbox : List (Nat × Nat × Nat × Nat × List Word) := []
  heard : Bool := false
  deriving DecidableEq, Repr

/-- Fleet training (R402 to R405). -/
structure LFleet where
  round : Nat := 0
  running : Bool := false
  dirs : List LDir := [{}, {}]
  deriving DecidableEq, Repr

/-- Larkspur. -/
structure Lks where
  threads : List LThr := []
  accs : List LAcc := []
  jobs : List LJob := []
  queues : List LQueue := List.replicate 128 {}
  cores : List LCore := List.replicate 128 {}
  dies : List LDie := [{}, {}]
  tiers : List LTier := List.replicate 4 {}
  /-- Memory of undefined content: base, length, the event, and the place of its first byte there. -/
  undef : List (Nat × Nat × Nat × Nat) := []
  /-- Poisoned 64-byte blocks of module memory, by address / 64 (R365). -/
  poison : List Nat := []
  train : LTrain := {}
  fleet : LFleet := {}
  /-- The microsecond record in progress: hint accepted, step event, unannounced, shed abort (R397). -/
  usBits : Nat := 0
  deriving DecidableEq, Repr

end Sys2Proof.Machine
end

