-- ==== Sys2Proof/Machine/BlocksRing.lean ====
section
/-! DEFINITION. The state of the blocks of the module, part 2: the Hollyhock rings, state estimation,
Remount. Plain data. -/

namespace Sys2Proof.Machine

/-! ### The Hollyhock ring (R243 to R277) -/

/-- A queued balancing entry (R272): the RING_BAL_CMD word's fields. -/
structure BalEnt where
  pos : Nat
  mode : Nat
  cur : Nat
  lease : Nat
  deriving DecidableEq, Repr

/-- A lease that runs: its position, mode, current and end in elapsed time. -/
structure BalOn where
  pos : Nat
  mode : Nat
  cur : Nat
  stop : Nat
  deriving DecidableEq, Repr

/-- An accepted slot of a monitor (R249): counts, STATUS, 13 readings in 100 µV, T0 and T1 in 0.1 °C, masks. -/
structure Slot where
  hb : Nat
  echo : Nat
  result : Nat
  status : Nat
  volts : List Nat
  t0 : Int
  t1 : Int
  bal : Nat
  byp : Nat
  deriving DecidableEq, Repr

/-- A sweep as the module reads it (R249, R250, R263, R264): the accepted slots of monitors 0 to 3 and which were read from
end 2, whether the CRC-32C of every complete frame checked, whether a break was seen, its hop, and the skew in ticks. -/
structure Sweep where
  slots : List (Option Slot)
  far : List Bool
  crcGood : Bool
  broken : Bool
  hop : Option Nat
  skew : Nat
  deriving DecidableEq, Repr

/-- An open-wire test waiting or running (R267, R269). src: 0 candidate, 1 host, 2 automatic. -/
structure OwReq where
  mon : Nat
  wire : Nat
  src : Nat
  deriving DecidableEq, Repr

/-- The running test: phase 0 baseline, 1 settling, 2 sink on; sweeps in the phase, the readings taken there, and the sums of
the two positions' readings there and in the baseline. -/
structure OwTest where
  req : OwReq
  phase : Nat := 0
  n : Nat := 0
  num : Nat := 0
  sumLo : Nat := 0
  sumHi : Nat := 0
  baseNum : Nat := 0
  baseLo : Nat := 0
  baseHi : Nat := 0
  deriving DecidableEq, Repr

/-- A string's ring. Lists of 52 go by position, lists of 4 by monitor. -/
structure RStr where
  /-- Shelf time of the sweep's start, and VSTR sampled 4 µs later, 10 mV. -/
  t0 : Nat := 0
  vstr : Nat := 0
  /-- The positions' roles (R256, R262); the cell window shows them with its next sweep (R258). -/
  role : List Nat := List.replicate 52 0
  /-- The ring runs in SPLIT (R263), its link at end 2 is present (R246), and HEARTBEAT and the command frames of the sweep
  in progress have yet to leave end 2 (R257). -/
  split : Bool := false
  linkUp : Bool := true
  cmdsDue : Bool := false
  /-- The records of ENUM_ASSIGN, and the first sweep is still to come (R254). -/
  assign : List EnumRec := []
  firstSweep : Bool := false
  /-- The start-up average: readings in by monitor, and sums. -/
  avgN : List Nat := List.replicate 4 0
  avgSum : List Nat := List.replicate 52 0
  /-- Consecutive sweeps without a slot or an advancing HB, with one while lost, and sweeps lost (R252). -/
  miss : List Nat := List.replicate 4 0
  back : List Nat := List.replicate 4 0
  lostFor : List Nat := List.replicate 4 0
  /-- The recovery averages (R261). -/
  recN : List Nat := List.replicate 4 0
  recSum : List Nat := List.replicate 52 0
  /-- Consecutive readings beyond OV_TRIP, UV_TRIP, OT_TRIP, and the warn conditions (bits 0, 1, 2) (R271). -/
  ov : List Nat := List.replicate 52 0
  uv : List Nat := List.replicate 52 0
  ot : List Nat := List.replicate 52 0
  warn : List Nat := List.replicate 52 0
  /-- Consecutive sweeps in which the pair (p − 1, p) was a candidate (R267). -/
  cand : List Nat := List.replicate 52 0
  /-- Tests that wait, the running one, and the next automatic wire (R269). -/
  waiting : List OwReq := []
  test : Option OwTest := none
  autoNext : Nat := 0
  /-- The OPEN_WIRE frame of this sweep, which acts at the next SWEEP: monitor, wire, on; and the wire that carries the sink. -/
  owSent : Option (Nat × Nat × Bool) := none
  sink : Option (Nat × Nat) := none
  /-- Upper positions of the sense-suspect pairs and of the confirmed deviating pairs (R270). -/
  suspect : List Nat := []
  dev : List Nat := []
  /-- Consecutive sweeps beyond SUM_TOL (R268). -/
  sumN : Nat := 0
  /-- Balancing: entries queued, those sent in this sweep, which act at the next SWEEP (R248), leases running, the policy's
  last renewals by position; the BALANCE frames whose RESULT a monitor has yet to report: monitor, CMD_SEQ (R272, R273). -/
  queue : List BalEnt := []
  sent : List BalEnt := []
  asked : List (Nat × Nat) := []
  leases : List BalOn := []
  renewed : List (Nat × Nat) := []
  /-- Command frames that wait: kind and payload after CMD_SEQ (R247, R258). -/
  frames : List (Nat × List Byte) := []
  cmdSeq : Nat := 0
  /-- READ_HELD frames run: the next sweep is skipped (R264). -/
  readHeld : Bool := false
  /-- Consecutive sweeps without WRAP in SPLIT (R263). -/
  intact : Nat := 0
  /-- Elapsed time at which the candidate checks resume (R260). -/
  pauseEnd : Nat := 0
  /-- Sweeps that have verified the swap in progress, and a reverse swap runs (R274). -/
  swapN : Nat := 0
  swapBack : Bool := false
  /-- Elapsed time since which the string has carried no current, the start of the sweep that the BYPASS frame left with, and
  of the sweep at which it executed: t1 (R274). -/
  calm : Option Nat := none
  swapSent : Option Nat := none
  swapAt : Nat := 0
  deriving DecidableEq, Repr

/-- Both rings, the module's heartbeat count, whether it moved at the last sweep and when it last did, and the elapsed time
of the last RING_HB_KICK (R251). -/
structure Ring where
  mhb : Nat := 0
  moved : Bool := false
  movedAt : Option Nat := none
  kick : Option Nat := none
  strs : List RStr := [{}, {}]
  deriving DecidableEq, Repr

/-! ### State estimation (R278 to R303) -/

/-- The estimator of a string. v̂ in 100 µV, R_j in µΩ, EFC in 0.01 cycle, I_BIAS in 10 mA, all exact. -/
structure EstStr where
  vhat : List Rat := List.replicate 52 0
  r : List Rat := List.replicate 52 0
  rBase : List (Option Nat) := List.replicate 52 none
  /-- Observations accepted since the position became ACTIVE (R288). -/
  obs : List Nat := List.replicate 52 0
  age : List Nat := List.replicate 52 0
  efc : Rat := 0
  bias : Rat := 0
  /-- REF, in operating seconds (R292, R293), and the operating seconds of the last reference of this power-up, one that left
  REF alone among them. -/
  ref : Nat := 0
  refAt : Option Nat := none
  /-- i_s in mA, newest first, each with the shelf time from which it held, over the last 3 ms; the last sample's shelf time (R279). -/
  hist : List (Nat × Rat) := []
  lastAt : Option Nat := none
  /-- ∫ i_s dt in mA·ticks since the last sample instant of monitor 0; that of the intervals no run has taken yet; and the start
  of the sweep up to whose instant that one reaches (R279). -/
  acc : Rat := 0
  charge : Rat := 0
  chargeTo : Nat := 0
  /-- The previous run's sweep, its current at each position's instant, mA, and its readings fit for an observation (R287). -/
  lastT0 : Option Nat := none
  lastI : List Rat := List.replicate 52 0
  lastV : List (Option Nat) := List.replicate 52 none
  /-- Monitors whose recovery average is in progress since the last run (R281). -/
  recov : List Nat := []
  /-- Averages of the rest's last 1,024 sweeps: sums and VALID readings (R290). -/
  restSum : List Nat := List.replicate 52 0
  restN : List Nat := List.replicate 52 0
  deriving DecidableEq, Repr

/-- The estimators, the rest and the journal. -/
structure Est where
  strs : List EstStr := [{}, {}]
  /-- CAUSE bits of the pending entry, and the bytes of the entry that is being written, as its write started (R295, R296). -/
  jnlCause : Nat := 0
  snap : List Byte := []
  /-- Slots behind the newest valid one whose read-back failed (R296). -/
  jnlSkip : Nat := 0
  /-- Cascades with DEST 0x2 that a rest holds (R290). -/
  held : List Nat := []
  /-- The string of the rest in progress, its averaging, and a string made due (R289, R290). -/
  rest : Option Nat := none
  averaging : Bool := false
  dueNow : Option Nat := none
  /-- |storage power| summed over the samples since the last check, mW, and their number; the same of the nine seconds before
  (R289). -/
  powSum : Nat := 0
  powN : Nat := 0
  powHist : List (Nat × Nat) := []
  deriving DecidableEq, Repr

/-! ### Remount (R457 to R477) -/

/-- The wear indicators of one phase channel (R460), and the mean of its temperature in progress. -/
structure PhWear where
  /-- Seconds spent switching. -/
  secs : Nat := 0
  cycles : Nat := 0
  faults : Nat := 0
  /-- Sum and number of the 10 µs temperature readings of the 10 ms in progress, 0.1 °C. -/
  sum : Int := 0
  num : Nat := 0
  /-- The last counted minimum, the maximum since, and whether the mean has risen PH_DT_CYC above it. -/
  low : Option Int := none
  high : Int := 0
  rose : Bool := false
  deriving DecidableEq, Repr

/-- The wear of one cell position (R473): swaps, R_j at retirement, and that it is RETIRED. -/
structure CellWear where
  swaps : Nat := 0
  rAt : Nat := 0
  retired : Bool := false
  deriving DecidableEq, Repr

/-- The wear of one Larkspur physical core (R460, R473): operating seconds of the corrected errors of the last
24 operating hours, corrected errors in total, uncorrectable ones. -/
structure CoreWear where
  ceAt : List Nat := []
  total : Nat := 0
  ue : Nat := 0
  deriving DecidableEq, Repr

/-- An entry of the repair map of kinds 3 to 5 (R473). state: 0 counting, 1 repaired, 2 failed. -/
structure Repair where
  kind : Nat
  unit : Nat
  ce : Nat
  addr : Nat
  state : Nat
  deriving DecidableEq, Repr

/-- The wear of one HBM4 channel: operating seconds of the corrected errors of the last 24 operating hours, and their total. -/
structure ChanWear where
  ceAt : List Nat := []
  total : Nat := 0
  deriving DecidableEq, Repr

/-- One measurement input (R458): consecutive failed tests, failures, last deviation, converter in use. -/
structure InputWear where
  run : Nat := 0
  fails : Nat := 0
  last : Nat := 0
  conv : Nat := 0
  deriving DecidableEq, Repr

/-- A substitution in progress or the last of its kind (R462). trigger: 0 threshold, 1 failure, 2 host. -/
structure Subst where
  target : Nat := 0
  spare : Nat := 0
  trigger : Nat := 0
  deriving DecidableEq, Repr

/-- Remount. -/
structure Rmt where
  phase : List PhWear := List.replicate 104 {}
  cells : List CellWear := List.replicate 104 {}
  cores : List CoreWear := List.replicate 136 {}
  /-- Physical core of each logical Tack core, and failures of the five. -/
  tackMap : List Nat := [0, 1, 2, 3]
  tackFail : List Nat := List.replicate 5 0
  repairs : List Repair := []
  hbm : List ChanWear := List.replicate 66 {}
  /-- The channel that each stack's spare stands for. -/
  hbmSpare : List (Option Nat) := [none, none]
  inputs : List InputWear := (List.range 224).map fun i => { conv := i % 28 }
  /-- Verify failures by MRAM sector, and remapped sectors: sector, spare. -/
  mramFail : List (Nat × Nat) := []
  mramMap : List (Nat × Nat) := []
  /-- XTAL-A failures that made kind 9 act. -/
  xtalFail : Nat := 0
  /-- The substitution of each kind, and the parts that wait their turn: kind, target, trigger. -/
  subst : List Subst := List.replicate 10 {}
  turn : List (Nat × Nat × Nat) := []
  /-- Spares marked worn: kind, spare (R462). -/
  worn : List (Nat × Nat) := []
  /-- The substitution log: 64 slots of 32 bytes, and the next SEQ and slot (R474). -/
  log : List (List Byte) := List.replicate 64 []
  logSeq : Nat := 1
  logNext : Nat := 0
  /-- GEN of the newest wear copy, and which copy comes next (R473). -/
  gen : Nat := 0
  copy : Nat := 0
  /-- A wear copy is to be written, or is being written, once the MRAM writer has nothing before it (R296, R473). -/
  due : Bool := false
  /-- Remount has set PLL_REF to FIRC and will return it (R470). -/
  firc : Bool := false
  /-- The shelf-side restore of R475 has been decided; until then, the copy that won at power-up. -/
  shelfDone : Bool := false
  won : Option (List Byte) := none
  deriving DecidableEq, Repr

end Sys2Proof.Machine
end

