-- ==== Sys2Proof/Machine/State.lean ====
section
/-! DEFINITION. The state of the module: the register file, the pins, the memories, every block's
own state, and the queue of commands that wait. Plain data. -/

namespace Sys2Proof.Machine

/-- Why the module stops: never. No rule of the spec stops the module for good: every loss, fault, refused request and
access to an address that holds nothing has an effect, which the meanings take as a next state. Safe: there is no stop. -/
inductive Fault
  deriving DecidableEq, Repr

/-- Why a command is turned away. -/
inductive Refusal
  /-- Answered by a dispatch arm that has no meaning yet; every command has its meaning, so none answers it. Safe. -/
  | notModelled (mnemonic : String)
  deriving DecidableEq, Repr

/-- The module. `regs` holds every BAR0 register that is not at its reset value (`regReset`); the
memories list every byte that is not blank. -/
structure State where
  regs : List (Nat × Word) := []
  otp : Otp := {}
  pins : Pins := {}
  pcie : Pcie := {}
  boot : Boot := {}
  clk : Clk := {}
  hrn : Hrn := {}
  meas : Meas := {}
  rein : Rein := {}
  rmt : Rmt := {}
  fcst : Fcst := {}
  ring : Ring := {}
  est : Est := {}
  fab : Fab := {}
  lks : Lks := {}
  brd : Brd := {}
  sbg : Sbg := {}
  /-- The 2 MiB MRAM (R22). -/
  mram : List (Nat × Byte) := []
  /-- Module memory of the 48-bit map: HBM4, DDR5 and core SRAM. -/
  mem : List (Nat × Byte) := []
  /-- High words latched by a read of the low word: requester, offset of the high word, value (R18). -/
  latches : List (Nat × Nat × Word) := []
  /-- Shelf time (R11), and the ticks that have passed since power-up. -/
  time : Word64 := 0
  elapsed : Nat := 0
  /-- What has been sent out, newest first. -/
  out : List Out := []
  /-- The model's own counter: the next free value (log 2). -/
  free : Nat := 0
  /-- The commands that wait, first in, first out. -/
  pending : List Instr := []
  deriving DecidableEq, Repr

/-- The module at the start of the always-on domain (R70, R74): PASSIVE, every register at the reset
value R480 to R494 state, memories blank, no command waiting. -/
def State.reset : State := {}

end Sys2Proof.Machine
end

