-- ==== Sys2Proof/Machine/Ops.lean ====
section
/-! DEFINITION. The named operations over registers, fields, bytes and lists that every meaning is
written with (R10 to R18), CRC-32C, and the MSI-X message of a status bit (R497, R498). -/

namespace Sys2Proof.Machine

/-- What a command answers. -/
abbrev Res := Host.Outcome State Fault Refusal

/-- A command acts while the module has power (R33, R69): in DOWN every output is off and nothing happens. -/
def State.on (s : State) (f : State → Res) : Res := if s.pins.powered then f s else .next s

/-! ### Registers and fields -/

/-- The reset value of a register on this module. -/
def State.dflt (s : State) : Nat → Word := regReset s.otp.variant

/-- A register's value. -/
def State.rd (s : State) (a : Nat) : Word := sparseRead s.dflt s.regs a

/-- Write a whole register. -/
def State.wr (s : State) (a : Nat) (v : Word) : State :=
  { s with regs := sparseWrite s.dflt s.regs a v }

/-- The bits of a field within a word. -/
def fieldGet (w : Word) (lo n : Nat) : Nat := (w.extractLsb' lo n).toNat

/-- A word with one field replaced. -/
def fieldPut (w : Word) (lo n v : Nat) : Word :=
  (w &&& ~~~(BitVec.setWidth 32 (BitVec.allOnes n) <<< lo))
    ||| (BitVec.setWidth 32 (BitVec.ofNat n v) <<< lo)

/-- A field's value, unsigned. -/
def State.get (s : State) (f : Field) : Nat := fieldGet (s.rd f.addr) f.lo f.w

/-- Set a field, keeping the register's other bits. A value too wide wraps. -/
def State.set (s : State) (f : Field) (v : Nat) : State :=
  s.wr f.addr (fieldPut (s.rd f.addr) f.lo f.w v)

/-- Whether a one-bit field is 1. -/
def State.isSet (s : State) (f : Field) : Bool := s.get f != 0

/-- Set a one-bit field from a truth value. -/
def State.setB (s : State) (f : Field) (b : Bool) : State := s.set f b.toNat

/-- A field's value as two's complement (R10). -/
def State.getI (s : State) (f : Field) : Int := ((s.rd f.addr).extractLsb' f.lo f.w).toInt

/-- Set a field to a two's complement value. -/
def State.setI (s : State) (f : Field) (v : Int) : State := s.set f (v % 2 ^ f.w).toNat

/-- A whole register as two's complement. -/
def State.rdI (s : State) (a : Nat) : Int := (s.rd a).toInt

/-- Write a whole register as two's complement. -/
def State.wrI (s : State) (a : Nat) (v : Int) : State := s.wr a (BitVec.ofInt 32 v)

/-- A whole register as an unsigned number. -/
def State.rdN (s : State) (a : Nat) : Nat := (s.rd a).toNat

/-- Write a whole register as an unsigned number (it wraps at 32 bits). -/
def State.wrN (s : State) (a v : Nat) : State := s.wr a (BitVec.ofNat 32 v)

/-- Raise a saturating counter field by n. -/
def State.bumpSat (s : State) (f : Field) (n : Nat) : State :=
  s.set f (min (s.get f + n) (2 ^ f.w - 1))

/-- Raise a wrapping counter field by one. -/
def State.bumpWrap (s : State) (f : Field) : State := s.set f (s.get f + 1)

/-- Raise a saturating 32-bit counter register by n. -/
def State.satReg (s : State) (a n : Nat) : State := s.wrN a (min (s.rdN a + n) 0xFFFFFFFF)

/-- Raise a wrapping 32-bit counter register by one. -/
def State.wrapReg (s : State) (a : Nat) : State := s.wrN a (s.rdN a + 1)

/-- A 64-bit value held in two registers (R18). -/
def State.rd64 (s : State) (lo hi : Nat) : Nat := s.rdN lo + 0x100000000 * s.rdN hi

/-- Write a 64-bit value into two registers. -/
def State.wr64 (s : State) (lo hi v : Nat) : State := (s.wrN lo v).wrN hi (v / 0x100000000)

/-- Do the same to the state for every number below n. -/
def forN (n : Nat) (f : Nat → State → State) (s : State) : State :=
  (List.range n).foldl (fun t i => f i t) s

/-- Do the same to the state for every element of a list. -/
def forL {α : Type} (l : List α) (f : α → State → State) (s : State) : State :=
  l.foldl (fun t x => f x t) s

/-- Do something only under a condition. -/
def onlyIf (c : Bool) (f : State → State) (s : State) : State := if c then f s else s

/-- Send something out. -/
def State.emit (s : State) (o : Out) : State := { s with out := o :: s.out }

/-- Draw a fresh free value (log 2). -/
def State.fresh (s : State) : Nat × State := (Config.freeNat s.free, { s with free := s.free + 1 })

/-! ### Numbers and bytes -/

/-- Clamp between two bounds. -/
def clampI (lo hi x : Int) : Int := max lo (min hi x)

/-- Move a value towards another by at most a step. -/
def towards (cur target step : Int) : Int :=
  if cur < target then min target (cur + step) else max target (cur - step)

/-- A quotient rounded to the nearest integer, ties away from zero (R502; log 5 elsewhere). -/
def roundDiv (a : Int) (b : Nat) : Int :=
  if 0 ≤ a then (2 * a + b) / (2 * b) else -((2 * (-a) + b) / (2 * b))

/-- A rational rounded to the nearest integer, ties away from zero (log 5). -/
def roundRat (q : Rat) : Int := roundDiv q.num q.den

/-- A quotient; by zero it is a free value (log 2). -/
def quot (a b : Rat) : Rat := if b = 0 then (Config.quotByZero a : Rat) else a / b

/-- n little-endian bytes of a number. -/
def leBytes : Nat → Nat → List Byte
  | 0, _ => []
  | n + 1, v => BitVec.ofNat 8 v :: leBytes n (v / 256)

/-- n little-endian bytes of a two's complement number. -/
def leBytesI (n : Nat) (v : Int) : List Byte := leBytes n (v % 256 ^ n).toNat

/-- The number that little-endian bytes hold. -/
def leNat : List Byte → Nat
  | [] => 0
  | b :: t => b.toNat + 256 * leNat t

/-- The bytes from an offset on, n of them. -/
def slice (l : List Byte) (off n : Nat) : List Byte := (l.drop off).take n

/-- The little-endian number at an offset. -/
def leAt (l : List Byte) (off n : Nat) : Nat := leNat (slice l off n)

/-- A number of w bits as two's complement. -/
def signedOf (w v : Nat) : Int := if v % 2 ^ w < 2 ^ (w - 1) then v % 2 ^ w else (v % 2 ^ w : Int) - 2 ^ w

/-- The two's complement number at an offset. -/
def leAtI (l : List Byte) (off n : Nat) : Int := signedOf (8 * n) (leAt l off n)

/-- n zero bytes. -/
def zeros (n : Nat) : List Byte := List.replicate n 0

/-- Bytes cut or zero-padded to a length. -/
def padTo (n : Nat) (l : List Byte) : List Byte := (l ++ zeros (n - l.length)).take n

/-- One bit of a CRC-32C step (reflected polynomial 0x82F6_3B78). -/
def crc32cBit (c : Word) : Word := if c.getLsbD 0 then (c >>> 1) ^^^ 0x82F63B78#32 else c >>> 1

/-- One byte of a CRC-32C. -/
def crc32cByte (c : Word) (b : Byte) : Word :=
  crc32cBit <| crc32cBit <| crc32cBit <| crc32cBit <| crc32cBit <| crc32cBit <| crc32cBit <|
    crc32cBit (c ^^^ b.setWidth 32)

/-- CRC-32C over bytes (R173, R294, R439, R443). -/
def crc32c (l : List Byte) : Word := ~~~(l.foldl crc32cByte 0xFFFFFFFF#32)

/-- Bytes closed by their CRC-32C. -/
def withCrc (l : List Byte) : List Byte := l ++ leBytes 4 (crc32c l).toNat

/-- Whether bytes close with their own CRC-32C. -/
def crcOk (l : List Byte) : Bool :=
  4 ≤ l.length && leNat (l.drop (l.length - 4)) == (crc32c (l.take (l.length - 4))).toNat

/-! ### Lists of plain data -/

/-- Change one element of a list. -/
def modAt {α : Type} (l : List α) (i : Nat) (f : α → α) : List α :=
  match l[i]? with
  | some x => l.set i (f x)
  | none => l

/-- Add to a list without repeats. -/
def addOnce {α : Type} [DecidableEq α] (l : List α) (x : α) : List α := if x ∈ l then l else l ++ [x]

/-- Whether a bit of a number is set. -/
def bitOf (v i : Nat) : Bool := v.testBit i

/-- A number with a bit set or cleared. -/
def bitPut (v i : Nat) (b : Bool) : Nat :=
  if b then v ||| 2 ^ i else v - (v &&& 2 ^ i)

/-! ### The shelf state (R69, R73) -/

def stDown : Nat := 0
def stPassive : Nat := 1
def stArming : Nat := 2
def stArmed : Nat := 3
def stDerated : Nat := 4
def stIsolated : Nat := 5
def stLatched : Nat := 6

/-- The shelf state in its SYS_SHELF_STATE code. -/
def State.shelf (s : State) : Nat := s.get SYS_SHELF_STATE_STATE

/-- ARMED or DERATED. -/
def State.inService (s : State) : Bool := s.shelf == stArmed || s.shelf == stDerated

/-- ARMING, ARMED or DERATED: the three states with source selections closed (R110). -/
def State.armedStates (s : State) : Bool := s.shelf == stArming || s.inService

/-- Shelf time as a number. -/
def State.now (s : State) : Nat := s.time.toNat

/-- Ticks in a millisecond (R11). -/
def tickMs : Nat := 100000

/-- Ticks in a second (R11). -/
def tickS : Nat := 100000000

/-! ### Units that a variant lacks (R3 to R8) -/

/-- Larkspur dies fitted. -/
def variantDies : Variant → Nat
  | .full => 2
  | .half => 1
  | .control => 0

/-- DDR5 sockets fitted. -/
def variantSockets : Variant → Nat
  | .control => 1
  | _ => 2

/-- Whether an offset belongs to a unit that SYS_CAPS reports as absent (R8). -/
def absentAddr (v : Variant) (a : Nat) : Bool :=
  if a < 0x1000000 then false else if a < 0x1800000 then variantDies v == 0 else variantDies v < 2

/-- The CLK_EN layout bits of domains the variant has (R8, R108). -/
def domainMask : Variant → Nat
  | .full => 0x7FFF
  | .half => 0x37FF
  | .control => 0x01FF

/-- Vectors of absent units, and 254 and 255, are never sent (R8, R497, R498). -/
def vectorAbsent (v : Variant) (n : Nat) : Bool :=
  254 ≤ n || (variantDies v < 2 && (n == 247 || n == 250 || n == 251))
    || (variantDies v == 0 && (n == 246 || n == 248 || n == 249 || n == 252 || n == 253))

/-! ### Clocks that everything waits for (R119, R123, R128, R506) -/

/-- The PLLs relock under a PLL_REF change (R506). -/
def State.relock (s : State) : Bool := match s.clk.switch with | .pllRef _ => true | _ => false

/-- Larkspur issues nothing: a PLL that it runs on is not ready, or the PLLs relock (R128, R506). -/
def State.lksHalted (s : State) : Bool :=
  s.relock || (s.clk.pllMem && !s.isSet CLK_READY_PLL_MEM) || (s.clk.pllCore && !s.isSet CLK_READY_PLL_CORE)

/-- Set wake latches, CLK_EN layout (R119). -/
def State.latchWake (s : State) (mask : Nat) : State :=
  { s with clk := { s.clk with wakeLatch := (s.clk.wakeLatch ||| mask) &&& domainMask s.otp.variant } }

/-- A wake source fires (R123): its PWR_WAKE_SRC bit sets whether or not it is enabled; an enabled one sets the latches of
the domains that it needs. DESIGN CHOICE (log 67): MAIN and TACK_RT, which R124 brings out of retention for every source but SPUR. -/
def State.fireWake (b : Nat) (s : State) : State :=
  let s := s.set ⟨PWR_WAKE_SRC, b, 1⟩ 1
  if b < 4 ∧ s.isSet ⟨PWR_WAKE_EN, b, 1⟩ then s.latchWake 0xC else s

/-! ### The profile (R78) -/

/-- The value of the profile's record of a TYPE, if it has one. -/
def State.profileRec (s : State) (t : Nat) : Option (List Byte) := (s.boot.profile.find? (·.1 == t)).map (·.2)

/-- A little-endian number of a profile record, or the default of an absent record. -/
def State.profileAt (s : State) (t off n dflt : Nat) : Nat :=
  match s.profileRec t with
  | some l => leAt l off n
  | none => dflt

/-- PH_DT_CYC of SPARE_POLICY, in K (R461). -/
def State.phDtCyc (s : State) : Nat := s.profileAt 0x000D 8 1 40

/-! ### MSI-X (R497, R498) -/

/-- Post a vector's message: sent when the vector is unmasked, the function in D0 and the link up,
held as its pending bit otherwise. While PERST_N is low nothing is held (R38, R498). -/
def State.msix (s : State) (v : Nat) : State :=
  if vectorAbsent s.otp.variant v then s
  else if s.pins.perst then s
  else if v ∈ s.pcie.unmasked ∧ s.pcie.dstate = 0 ∧ s.pcie.link.live = true then
    s.emit (.msix v)
  else { s with pcie := { s.pcie with pendingBits := addOnce s.pcie.pendingBits v } }

/-- Set a status bit; only its rise posts the vector's message (R498). -/
def State.raiseBit (s : State) (f : Field) (v : Nat) : State :=
  if s.isSet f then s else (s.set f 1).msix v

/-- Set a status bit that no vector carries. -/
def State.flag (s : State) (f : Field) : State := s.set f 1

/-- Clear a bit. -/
def State.clear (s : State) (f : Field) : State := s.set f 0

/-- π to 50 places. -/
def piRat : Rat := 314159265358979323846264338327950288419716939937510 / 10 ^ 50

end Sys2Proof.Machine
end

