-- ==== Sys2Proof/Machine/Records.lean ====
section
/-! DEFINITION. The Saddlebag's shared operations: a record, its path through the queues (R450), the
merge of R441, the GAP record of R451, incidents (R444), trigger lists (R446 to R448), the control
block (R443), the journal trigger (R295) and the alarm slot's queue (R320). -/

namespace Sys2Proof.Machine

/-! ### Record kinds (R440) -/

def kFault : Nat := 0x01
def kSnapshot : Nat := 0x02
def kGap : Nat := 0x03
def kTrace : Nat := 0x04
def kState : Nat := 0x05
def kClockHold : Nat := 0x06
def kPowerUp : Nat := 0x07
def kTimeStep : Nat := 0x08
def kRemoteAlarm : Nat := 0x09
def kVerbose : Nat := 0x0A

/-- Units of 64 bytes by kind (R440). -/
def kindUnits (k : Nat) : Nat :=
  if k = kSnapshot then 3 else if k = kGap ∨ k = kRemoteAlarm then 2 else if k = kTrace then 4 else 1

/-- Operating seconds (R435), as SBG_OPSEC holds them. -/
def State.opsec (s : State) : Nat := s.rd64 SBG_OPSEC_LO SBG_OPSEC_HI

/-- Whether the write fence is set: no MRAM write starts (R299, R445). -/
def State.fenced (s : State) : Bool := s.isSet EST_JNL_STATUS_FENCE

/-! ### The control block (R443) -/

/-- The bytes of slot s in the control block. -/
def State.cbSlot (s : State) (i : Nat) : List Byte :=
  leBytes 4 (s.get (SBG_INC_SLOT_INCIDENT i))
    ++ leBytes 8 (s.rd64 (SBG_INC_TIME_LO i) (SBG_INC_TIME_HI i))
    ++ leBytes 1 (s.get (SBG_INC_SLOT_PINNED i))
    ++ leBytes 1 (bitOf (s.get SBG_INC_KEEP_KEEP) i).toNat ++ zeros 2

/-- A control-block copy of generation g (R443). -/
def State.cbBytes (s : State) (g : Nat) : List Byte :=
  withCrc ([0x53#8, 0x42#8, 0x47#8, 0x43#8] ++ leBytes 4 g ++ leBytes 8 s.opsec
    ++ leBytes 4 (s.rdN SBG_CYCLES) ++ leBytes 4 (s.rdN SBG_SEQ) ++ leBytes 4 s.sbg.incNum ++ zeros 4
    ++ ((List.range 16).map s.cbSlot).flatten)

/-- The MRAM address lies in a sector that is being remapped: writes to it wait (R467). -/
def State.sectorMoving (s : State) (a : Nat) : Bool :=
  s.get (RMT_KIND_STATE 8) == 3 && s.get (RMT_KIND_TARGET 8) == a / 0x1000

/-- Write the control block: the two copies alternately, in sectors 0 and 1 (R442, R443); nothing
after the write fence, and behind a remap of the sector (R467). -/
def State.writeCb (s : State) : State :=
  if s.fenced then s
  else if s.sectorMoving (0x1000 * s.sbg.cbCopy) then { s with sbg := { s.sbg with cbDue := true } }
  else
    { s with
      mram := sparseWriteBytes s.mram (0x1000 * s.sbg.cbCopy) (s.cbBytes (s.sbg.cbGen + 1)),
      sbg := { s.sbg with cbDue := false, cbGen := s.sbg.cbGen + 1, cbCopy := 1 - s.sbg.cbCopy } }

/-! ### Incidents (R444) -/

/-- How many incidents ago a slot's incident opened, by its number: shelf time starts over at every power-up (R443, R444). -/
def State.slotAge (s : State) (i : Nat) : Nat := (s.sbg.incNum + 65535 - s.get (SBG_INC_SLOT_INCIDENT i)) % 65535

/-- The slot an opening takes: a free one without KEEP first, else the one of the oldest incident
without KEEP (log 21). -/
def State.pickSlot (s : State) : Option Nat :=
  let ok := (List.range 16).filter fun i => !bitOf (s.get SBG_INC_KEEP_KEEP) i
  match ok.find? fun i => s.get (SBG_INC_SLOT_INCIDENT i) == 0 with
  | some i => some i
  | none =>
    ok.foldl (fun b i =>
      match b with
      | none => some i
      | some j => if s.slotAge j < s.slotAge i then some i else some j) none

/-- Open an incident, or join the open one (R444). -/
def State.openIncident (s : State) : State :=
  let s := { s with sbg := { s.sbg with incAt := s.elapsed } }
  if s.isSet SBG_STATUS_INC_OPEN then s
  else
    let n := s.sbg.incNum % 65535 + 1
    let slot := s.pickSlot
    let s := { s with sbg := { s.sbg with incNum := n } }.set SBG_STATUS_INC_OPEN 1
    match slot with
    | none => (s.raiseBit SBG_STATUS_INC_LOST 244).writeCb
    | some i =>
      let s := { s with sbg := { s.sbg with slotUnits := s.sbg.slotUnits.set i 0 } }
      (((s.wr (SBG_INC_SLOT i) (BitVec.ofNat 32 (n * 0x10000))).wr64 (SBG_INC_TIME_LO i)
        (SBG_INC_TIME_HI i) s.now)).writeCb

/-! ### Paths (R450 to R453) -/

/-- The unreserved capacity of a path, in units (R450). -/
def pathCap (i : Nat) : Nat := if i = 0 then 256 else 768

/-- The unreserved units in use on a path. -/
def TPath.fill (p : TPath) : Nat :=
  (p.queue.filter fun q => !q.reserve).foldl (fun n q => n + q.rec_.units) 0

/-- The reserve units in use on a path. -/
def TPath.reserveFill (p : TPath) : Nat :=
  (p.queue.filter fun q => q.reserve).foldl (fun n q => n + q.rec_.units) 0

/-- A path by number. -/
def State.path (s : State) (i : Nat) : TPath := s.sbg.paths.getD i {}

/-- Change a path. -/
def State.setPath (s : State) (i : Nat) (p : TPath) : State :=
  { s with sbg := { s.sbg with paths := s.sbg.paths.set i p } }

/-- The units of host ring r (R452). -/
def State.ringSize (s : State) (r : Nat) : Nat := 2 ^ s.get (TEL_R_CTRL_SIZE_LOG2 r)

/-- Host ring r is full for a record of n units: writing it would bring the tail to HEAD (R452). -/
def State.ringFullFor (s : State) (r n : Nat) : Bool :=
  let size := s.ringSize r
  let head := s.get (TEL_R_HEAD_UNIT r) % size
  let tail := s.get (TEL_R_TAIL_UNIT r) % size
  let free := (head + size - tail - 1) % size
  let pad := if tail + n > size then size - tail else 0
  free < n + pad

/-- A path is held (R453). -/
def State.held (s : State) (i : Nat) : Bool :=
  i != 0 && (s.path i).used &&
    (s.isSet BRD_STATUS_HOST_LOST || s.get (TEL_R_CTRL_ENABLE (i - 1)) == 0
      || (match (s.path i).queue with
          | [] => s.ringFullFor (i - 1) 1
          | q :: _ => s.ringFullFor (i - 1) q.rec_.units))

/-- A path's level: 0 NORMAL, 1 BUSY, 2 FULL (R450). -/
def State.level (s : State) (i : Nat) : Nat :=
  if s.held i then 2
  else if pathCap i ≤ (s.path i).fill then 2
  else if pathCap i ≤ 2 * (s.path i).fill then 1
  else 0

/-- Show a path's level and hold in its status register (R450, R456). -/
def State.showLevel (s : State) (i : Nat) : State :=
  if i = 0 then s.set SBG_STATUS_LEVEL (s.level 0)
  else (s.set (TEL_R_STATUS_LEVEL (i - 1)) (s.level i)).setB (TEL_R_STATUS_HELD (i - 1)) (s.held i)

/-- Count a loss in a path's pending GAP record, which opens at the first one (R451). -/
def Gap.lose (g : Gap) (cause prio : Nat) (sampled : Bool) : Gap :=
  let g := { g with cause := g.cause ||| cause, stop := none }
  if prio = 1 then { g with lostP1 := g.lostP1 + 1 }
  else if prio = 2 then (if sampled then { g with sampled := g.sampled + 1 } else { g with lostP2 := g.lostP2 + 1 })
  else if prio = 3 then { g with lostP3 := g.lostP3 + 1 } else g

/-- Drop or sample out a record on a path: count it (R451, R456). -/
def State.lose (s : State) (i cause prio : Nat) (sampled : Bool) : State :=
  let p := s.path i
  let g := (p.gap.getD { time := s.now, cause := 0 }).lose cause prio sampled
  let s := s.setPath i { p with gap := some g }
  if i = 0 then s.satReg SBG_LOST 1 else s.satReg (TEL_R_LOST (i - 1)) 1

/-- The CAUSE bit of a loss by the path's level: held for the host, held for a full ring, or BUSY/FULL (R451). -/
def State.lossCause (s : State) (i : Nat) : Nat :=
  if s.held i then (if s.isSet BRD_STATUS_HOST_LOST then 2 else if s.get (TEL_R_CTRL_ENABLE (i - 1)) == 0 then 1 else 16)
  else 1

/-- Whether two records share a key (R441). -/
def Rec.sameKey (a b : Rec) : Bool :=
  a.kind == b.kind &&
    (if a.kind = kFault then a.code == b.code && a.key == b.key
     else if a.kind = kSnapshot ∨ a.kind = kGap then a.key == b.key
     else true)

/-- TRACE, VERBOSE and PAD records never merge; only P0 and P1 records do (R441). -/
def Rec.mergeable (r : Rec) : Bool :=
  r.prio ≤ 1 && r.kind != kTrace && r.kind != kVerbose && r.kind != 0

/-- Merge a record into the first waiting record of its key: REPEAT rises and LAST moves (R441).
The answer says whether one was found, and whether REPEAT was saturated. -/
def mergeInto (r : Rec) : List QItem → Option (List QItem × Bool)
  | [] => none
  | q :: t =>
    if q.rec_.sameKey r then
      some ({ q with rec_ := { q.rec_ with
                reps := min (q.rec_.reps + 1) 65535,
                last := min (r.time - q.rec_.time) 0xFFFFFFFF } } :: t, q.rec_.reps == 65535)
    else
      match mergeInto r t with
      | some (t', b) => some (q :: t', b)
      | none => none

/-- Whether a path takes a record at all: the kinds of R442 and the fence of R445 on the MRAM path,
PRIO_MASK on a host ring in use (R456). -/
def State.takes (s : State) (i : Nat) (r : Rec) : Bool :=
  if i = 0 then r.kind != kTrace && r.kind != kVerbose && !s.fenced
  else (s.path i).used && bitOf (s.get (TEL_R_CTRL_PRIO_MASK (i - 1))) r.prio

/-- Queue a record on a path, in its reserve or not; it ends the gap of its priority (R451). A GAP record holds its mask of
lost priorities in `cls`, its END in `last`, and in `reps` whether END is known. -/
def State.enqueue (s : State) (i : Nat) (r : Rec) (reserve : Bool) : State :=
  let p := s.path i
  let gap := p.gap.map fun g =>
    if g.stop.isNone && ((r.prio == 1 && 0 < g.lostP1) || (r.prio == 2 && 0 < g.lostP2 + g.sampled)
        || (r.prio == 3 && 0 < g.lostP3)) then { g with stop := some r.time } else g
  let queue := p.queue.map fun q =>
    if q.rec_.kind == kGap && q.rec_.reps == 0 && bitOf q.rec_.cls r.prio then
      { q with rec_ := { q.rec_ with reps := 1, last := r.time } } else q
  s.setPath i { p with queue := queue ++ [⟨r, reserve⟩], gap := gap }

/-- Give a record to one path: the fate that its priority and the path's level decide (R450). -/
def State.toPath (s : State) (i : Nat) (r : Rec) : State :=
  if !s.takes i r then s
  else if i == 0 && s.isSet SBG_STATUS_P0_ONLY && r.prio != 0 then (s.lose 0 0 r.prio false).showLevel 0
  else
    match (if r.mergeable then mergeInto r (s.path i).queue else none) with
    | some (q, sat) =>
      let s := s.setPath i { s.path i with queue := q }
      (if sat then s.lose i 8 1 false else s).showLevel i
    | none =>
      let lvl := s.level i
      let cause := s.lossCause i
      let fits := (s.path i).fill + r.units ≤ pathCap i
      (if r.prio = 0 ∨ r.kind = kGap then s.enqueue i r (lvl == 2 || !fits)
       else if r.prio = 1 then
         (if (s.held i && fits) || (lvl != 2 && fits) then s.enqueue i r false else s.lose i cause 1 false)
       else if r.prio = 2 then
         (if lvl = 0 then s.enqueue i r false
          else if lvl = 1 then
            (if (s.path i).dueP2 % 8 = 0 then
              (s.enqueue i r false).setPath i { (s.enqueue i r false).path i with dueP2 := 1 }
             else (s.setPath i { s.path i with dueP2 := (s.path i).dueP2 + 1 }).lose i cause 2 true)
          else s.lose i cause 2 false)
       else (if lvl = 0 then s.enqueue i r false else s.lose i cause 3 false)).showLevel i

/-- Make a record: the next SEQ, the three timestamps (R435, R439), the open incident. -/
def State.mkRec (s : State) (kind prio domain code key cls : Nat) (opened : Bool) (body : List Byte) : Rec :=
  { kind := kind, prio := prio, units := kindUnits kind, domain := domain, seq := s.rdN SBG_SEQ,
    time := s.now, opsec := s.opsec, cycles := s.rdN SBG_CYCLES, code := code,
    incident := if s.isSet SBG_STATUS_INC_OPEN then s.sbg.incNum else 0,
    cls := cls, key := key, reps := 0, last := 0, incOpen := opened, pinned := false, body := body }

/-- A P0 record waits for the host on some ring (R38). -/
def State.p0Waiting (s : State) : Bool :=
  (List.range 4).any fun r => (s.path (r + 1)).queue.any fun q => q.rec_.prio == 0

/-- WAKE_N is asserted while a host-bound P0 record waits and the link is in L1 or the function in D3 (R38). -/
def State.showWakeN (s : State) : State :=
  { s with pins := { s.pins with wakeN := s.p0Waiting && (s.pcie.link.low || s.pcie.dstate != 0) } }

/-- Make a record and give it to its paths (R38, R450). -/
def State.record (s : State) (kind prio domain code key cls : Nat) (opens : Bool) (body : List Byte) : State :=
  let opened := opens && !s.isSet SBG_STATUS_INC_OPEN
  let s := if opens then s.openIncident else s
  let r := s.mkRec kind prio domain code key cls opened body
  let s := s.wrapReg SBG_SEQ
  (forN 5 (fun i t => t.toPath i r) s).showWakeN

/-- A VERBOSE record of a source that TEL_CTRL.VERB enables (R440, R446); the spec does not lay out its 27 bytes (log 2). -/
def State.verbose (s : State) (src domain : Nat) : State :=
  if bitOf (s.get TEL_CTRL_VERB) src then
    let f := s.fresh
    f.2.record kVerbose 3 domain 0 0 0 false (leBytes 1 src ++ leBytes 27 f.1)
  else s

/-! ### Trigger lists (R446 to R448) -/

/-- Fire list l: a snapshot starts, or MISSED counts (R447, R448). -/
def State.fireList (s : State) (l : Nat) : State :=
  let soon := match s.sbg.listFired.getD l none with
    | some t => s.elapsed - t < s.get (SBG_LIST_CFG_HOLDOFF_MS l) * tickMs
    | none => false
  if s.isSet (SBG_LIST_STATUS_BUSY l) || soon then s.bumpSat (SBG_LIST_STATUS_MISSED l) 1
  else
    let inc := s.isSet (SBG_LIST_CFG_INCIDENT l)
    let opened := inc && !s.isSet SBG_STATUS_INC_OPEN
    let s := if inc then s.openIncident else s
    let snap : Snap := { list := l, time := s.now, missed := s.get (SBG_LIST_STATUS_MISSED l),
                         incident := if s.isSet SBG_STATUS_INC_OPEN then s.sbg.incNum else 0, incOpen := opened }
    (({ s with sbg := { s.sbg with snaps := s.sbg.snaps ++ [snap], listFired := s.sbg.listFired.set l (some s.elapsed) } }).set
      (SBG_LIST_STATUS_BUSY l) 1).set (SBG_LIST_STATUS_MISSED l) 0

/-- Fire the lists that a FAULT of a code and class triggers (TKIND 1 and 2, R446). -/
def State.fireOnFault (s : State) (code cls : Nat) : State :=
  forN 16 (fun l t =>
    let k := t.get (SBG_LIST_CFG_TKIND l)
    let m := t.get (SBG_LIST_CODE_CODE_MASK l)
    if k = 1 ∧ code &&& m = t.get (SBG_LIST_CODE_TCODE l) &&& m then t.fireList l
    else if k = 2 ∧ t.get (SBG_LIST_CFG_STATE_CLASS l) ≤ cls then t.fireList l
    else t) s

/-- Fire the lists that the entry into a shelf state triggers (TKIND 3, R446). -/
def State.fireOnState (s : State) (st : Nat) : State :=
  forN 16 (fun l t =>
    if t.get (SBG_LIST_CFG_TKIND l) = 3 ∧ t.get (SBG_LIST_CFG_STATE_CLASS l) = st then t.fireList l else t) s

/-! ### Journal, alarm slot, last-fault records -/

/-- A string's estimator. -/
def State.es (s : State) (x : Nat) : EstStr := s.est.strs.getD x {}

/-- A string's part of an entry. -/
def State.jnlStr (s : State) (x : Nat) : List Byte :=
  let e := s.es x
  leBytes 4 (roundRat e.efc).toNat ++ leBytes 2 (s.get (EST_BIAS_SOC_OFFSET x)) ++ leBytesI 2 (roundRat e.bias) ++ leBytes 8 e.ref

/-- R_j and R_BASE_j of a string in an entry. -/
def rBytes (e : EstStr) : List Byte := ((List.range 52).map fun p => leBytes 2 (roundRat (e.r.getD p 0)).toNat).flatten
def rBaseBytes (e : EstStr) : List Byte := ((List.range 52).map fun p => leBytes 2 ((e.rBase.getD p none).getD 0xFFFF)).flatten

/-- An entry of generation g with the causes that have merged into it (R294, R295). -/
def State.jnlBytes (s : State) (g : Nat) : List Byte :=
  withCrc ([0x45#8, 0x53#8, 0x54#8, 0x4A#8] ++ leBytes 4 g ++ leBytes 8 s.now ++ leBytes 8 s.opsec ++ leBytes 4 (s.rdN SBG_CYCLES)
    ++ leBytes 1 s.est.jnlCause ++ leBytes 1 s.shelf
    ++ leBytes 2 ((s.get (RING_STATUS_ENUM 0) == 5).toNat + 2 * (s.get (RING_STATUS_ENUM 1) == 5).toNat)
    ++ s.jnlStr 0 ++ s.jnlStr 1 ++ rBytes (s.es 0) ++ rBytes (s.es 1) ++ rBaseBytes (s.es 0) ++ rBaseBytes (s.es 1) ++ zeros 28)

/-- The MRAM writer takes up the pending journal entry, its values as they are now, once no last-fault record waits and no entry is
being written (R296). -/
def State.jnlStart (s : State) : State :=
  if s.isSet EST_JNL_STATUS_PENDING && !s.isSet EST_JNL_STATUS_BUSY && !s.fenced && s.hrn.lfrQ.isEmpty then
    ({ s with est := { s.est with snap := s.jnlBytes (s.rdN EST_JNL_GEN + 1), jnlCause := 0 } }.clear EST_JNL_STATUS_PENDING).set
      EST_JNL_STATUS_BUSY 1
  else s

/-- Trigger a learned-value journal entry: the CAUSE bit joins the pending entry, which starts as soon as the writer is free; past
the write fence the trigger is lost and counted (R295, R296, R299). -/
def State.jnlTrigger (s : State) (bit : Nat) : State :=
  if s.fenced then s.bumpSat EST_JNL_STATUS_LOST 1
  else ({ s with est := { s.est with jnlCause := s.est.jnlCause ||| 2 ^ bit } }.set EST_JNL_STATUS_PENDING 1).jnlStart

/-- Count a repeat of a code that is already active in the alarm slot (R320, R418). -/
def State.alarmRepeat (s : State) (code : Nat) : State :=
  { s with fab := { s.fab with alarms := s.fab.alarms.map fun a =>
      if a.code = code then { a with reps := min (a.reps + 1) 255 } else a } }

/-- Queue an alarm: one entry per code, a repeat counts (R320). -/
def State.alarm (s : State) (code cls : Nat) (detail : List Byte) : State :=
  let a : Alarm := ⟨code, cls, 0, s.fab.alarmSeq + 1, s.now, detail⟩
  let s := if s.fab.alarms.any (·.code == code) then s.alarmRepeat code
    else { s with fab := { s.fab with alarmSeq := s.fab.alarmSeq + 1, alarms := s.fab.alarms ++ [a] } }
  s.set FAB_ALARM_Q_QUEUED s.fab.alarms.length

/-- A group's switching period in T_c: PERIOD where it does not follow the timebase (R158). -/
def State.grpPeriod (s : State) (g : Nat) : Nat :=
  if s.isSet (HRN_GRP_CTRL_SYNC_FOLLOW g) then (s.hrn.period100 + 50) / 100 else s.get HRN_TIMING_PERIOD

/-- The channel detail of a last-fault record (R173). -/
def State.lfrChan (s : State) (n : Nat) : List Byte :=
  let c := s.hrn.chans.getD n {}
  leBytes 2 (s.get (HRN_CH_STATUS_REF_CODE n) + if s.isSet (HRN_CH_STATUS_DIR n) then 0x8000 else 0)
    ++ leBytesI 2 c.peak ++ leBytesI 2 (s.getI (HRN_CH_MEAS_I_AVG n)) ++ leBytesI 2 (s.getI (HRN_CH_MEAS_TEMP n))
    ++ leBytes 1 (s.get (HRN_CH_STATUS_LIMIT_RUN n)) ++ leBytes 1 (s.get (HRN_CH_STATUS_STATE n))
    ++ leBytes 2 (s.rdN (HRN_CH_FAULT n)) ++ leBytes 2 (s.grpPeriod (n / 8)) ++ zeros 2

/-- The eight channels with the highest |ISNS| (R173): repeated choice of the largest. -/
def topChans (s : State) : Nat → List Nat → List Nat
  | 0, _ => []
  | k + 1, l =>
    match l.foldl (fun b n => match b with
        | none => some n
        | some m => if (s.hrn.chans.getD m {}).isns.natAbs < (s.hrn.chans.getD n {}).isns.natAbs then some n else some m) none with
    | none => []
    | some m => m :: topChans s k (l.filter (· != m))

/-- A last-fault record of 256 bytes (R173). `grp` is 0xFF for a shelf fault. DESIGN CHOICE (log 71): R173 names no group for
the group current of the twelve samples of a shelf fault; it is written 0. -/
def State.lfrBytes (s : State) (code grp : Nat) (involved : List Nat) : List Byte :=
  let chans := if grp < 13 then (List.range 8).map (8 * grp + ·) else topChans s 8 (List.range 104)
  let mask := involved.foldl (fun m n => m ||| 2 ^ n) 0
  let sync := s.get HRN_SYNC_STATUS_LOCK + 16 * s.get HRN_SYNC_STATUS_MISSED + 256 * s.get HRN_OV_CTRL_LATCHED
    + 4096 * (if grp < 13 then s.get (HRN_GRP_STATUS_RETRIES_USED grp) else 0)
  let hist := ((List.replicate (12 - s.meas.hist.length) ((0, []) : Nat × List Int)) ++ s.meas.hist.reverse).map fun h =>
    leBytes 2 h.1 ++ leBytesI 2 (h.2.getD grp 0)
  withCrc ([0x48#8, 0x4C#8, 0x46#8, 0x45#8] ++ leBytes 4 s.hrn.lfrSeq ++ leBytes 8 s.now ++ leBytes 8 s.opsec
    ++ leBytes 4 (s.rdN SBG_CYCLES) ++ leBytes 2 code ++ leBytes 1 grp ++ leBytes 1 s.shelf ++ leBytes 16 mask
    ++ leBytes 2 s.meas.vbus ++ leBytes 2 s.meas.vnode ++ leBytes 2 (s.meas.vstr.getD 0 0)
    ++ leBytes 2 (s.meas.vstr.getD 1 0) ++ leBytes 4 (s.rdN REIN_CMD_TOT) ++ leBytes 4 sync
    ++ (chans.map s.lfrChan).flatten ++ (hist.take 12).flatten ++ zeros 12)

/-- Trigger a last-fault record: queued, or lost when the queue holds four or the write fence is set (R172). -/
def State.lfr (s : State) (code grp : Nat) (involved : List Nat) : State :=
  if s.fenced || 4 ≤ s.hrn.lfrQ.length then s.bumpSat HRN_LFR_STATUS_LOST 1
  else
    let s := { s with hrn := { s.hrn with lfrQ := s.hrn.lfrQ ++ [({ bytes := s.lfrBytes code grp involved } : Lfr)], lfrSeq := s.hrn.lfrSeq + 1 } }
    s.set HRN_LFR_STATUS_PENDING s.hrn.lfrQ.length

/-- A clock of R136's codes loses ready: a measurement that it gates ends in ERR (R136). -/
def State.refLost (b : Nat) (s : State) : State :=
  if s.clk.measuring ∧ s.clk.measRef = b then
    ({ s.clear CLK_FMEAS_CTRL_START with clk := { s.clk with measuring := false } }).raiseBit CLK_FMEAS_CTRL_ERR 228
  else s

/-- The connector-change bit of a SYS_CONN_STATUS field whose value changes (R65, R66): bit by bit, and
the CONN wake source with it (R123). -/
def State.conn (s : State) (bit : Nat) (v : Bool) : State :=
  let f : Field := ⟨SYS_CONN_STATUS, bit, 1⟩
  if s.isSet f = v then s
  else
    let s := (((s.setB f v).raiseBit ⟨SYS_CONN_CHG, bit, 1⟩ 225).fireWake 2)
    if bit = 22 ∧ v = false then s.refLost 8 else s

end Sys2Proof.Machine
end

