-- ==== Sys2Proof/Machine/Protect.lean ====
section
/-! DEFINITION. The shared operations of protection: forcing the gates off (R170, R413), stopping every
cascade (R200), entering a shelf state (R70, R73), and raising a code of R417 with its record, class,
action and recovery (R410 to R424, R432, R507). -/

namespace Sys2Proof.Machine

/-! ### The power path -/

/-- The string of a channel: G12's first four spares belong to A (R21). -/
def chanString (n : Nat) : Nat := if n < 48 then 0 else if n < 96 then 1 else if n < 100 then 0 else 1

/-- The group of a channel (R21). -/
def chanGroup (n : Nat) : Nat := n / 8

/-- The mezzanine connector of a channel, 0 for J3 (R31, R39). -/
def chanMez (n : Nat) : Nat :=
  if n < 24 then 0 else if n < 48 then 1 else if n < 72 then 2 else if n < 96 then 3 else (n - 96) / 2

/-- The channels of a string. -/
def stringChans (x : Nat) : List Nat := (List.range 104).filter fun n => chanString n == x

/-- The channels of a group. -/
def groupChans (g : Nat) : List Nat := (List.range 8).map (8 * g + ·)

/-- A channel of Harness. -/
def State.chan (s : State) (n : Nat) : Chan := s.hrn.chans.getD n {}

/-- Change a channel. -/
def State.setChan (s : State) (n : Nat) (c : Chan) : State :=
  { s with hrn := { s.hrn with chans := s.hrn.chans.set n c } }

/-- A channel's state code (R147). -/
def State.chSt (s : State) (n : Nat) : Nat := s.get (HRN_CH_STATUS_STATE n)

def chOff : Nat := 0
def chShed : Nat := 1
def chRestarting : Nat := 2
def chRun : Nat := 3
def chShedding : Nat := 4
def chHiccup : Nat := 5
def chFaulted : Nat := 6
def chOvLatch : Nat := 7
def chForcedOff : Nat := 8

/-- Whether Rein counts a channel in this state active (R147). -/
def stActive (st : Nat) : Bool := st == chRestarting || st == chRun || st == chShedding

/-- The active channels of a string in HRN_SHED_STATUS and of each group in ACTIVE_MASK (R177, R179). -/
def State.showActive (s : State) : State :=
  let cnt := fun x => ((stringChans x).filter fun n => stActive (s.chSt n)).length
  let s := (s.set HRN_SHED_STATUS_ACTIVE_A (cnt 0)).set HRN_SHED_STATUS_ACTIVE_B (cnt 1)
  forN 13 (fun g t => t.set (HRN_GRP_STATUS_ACTIVE_MASK g)
    ((groupChans g).foldl (fun m n => if stActive (t.chSt n) then m + 2 ^ (n % 8) else m) 0)) s

/-- EXTEST, CLAMP or HIGHZ is the TAP's instruction: the boundary cells of the gate drives, the board enables, the isolation
and the contactors are observe-only, and these outputs stay low (R63). -/
def State.tapHolds (s : State) : Bool := decide (3 ≤ s.pins.tapIr)

/-- Give a channel a state, with both its gates off and its cycle cleared. -/
def State.chPark (s : State) (n st : Nat) : State :=
  (s.setChan n { s.chan n with
      hi := false, lo := false, dead := 0, blank := false, tripSeen := false, limited := false,
      restart := 0, soft := 0, shedLeft := 0 }).set (HRN_CH_STATUS_STATE n) st

/-- A shedding field of HRN_SHED_CFG or HRN_SHED_STEP in effect: as of the last Rein sample (R174). -/
def State.shedGet (s : State) (f : Field) : Nat :=
  fieldGet (if f.addr = HRN_SHED_CFG then s.hrn.shedCfg else s.hrn.shedStep) f.lo f.w

/-- The shedding fields take effect (R174). -/
def State.shedTake (s : State) : State :=
  { s with hrn := { s.hrn with shedCfg := s.rd HRN_SHED_CFG, shedStep := s.rd HRN_SHED_STEP } }

/-- Bridle's forcing on the channels: all gates off; a channel in service is FORCED_OFF, one that is
FAULTED stays so (R170, R171). -/
def State.chansForced (s : State) : State :=
  (forN 104 (fun n t =>
    let st := t.chSt n
    if st = chOff ∨ st = chFaulted then t.chPark n st else t.chPark n chForcedOff) s).showActive

/-- Every BRD_DRV_EN low (R413). -/
def State.drvOff (s : State) : State :=
  { s with pins := { s.pins with drvEn := [false, false, false, false] } }.set BRD_STATUS_FORCING 1

/-- ISO_EN low. -/
def State.isoOff (s : State) : State := { s with pins := { s.pins with isoEn := false } }

/-- A cascade reaches OFF: its following-error count and its hold end (R200, R206). -/
def State.casOff (s : State) (c : Nat) : State :=
  let off := s.get (REIN_CAS_STATUS_STATE c) != 0
  let s := { s with rein := { s.rein with
      fe := s.rein.fe.set c 0, tripped := s.rein.tripped.set c false, restart := s.rein.restart.filter (· != c),
      offAt := if off then s.rein.offAt.set c (some s.elapsed) else s.rein.offAt } }
  ((((s.set (REIN_CAS_STATUS_STATE c) 0).set (REIN_CAS_STATUS_FE_COUNT c) 0).clear (REIN_CAS_STATUS_HELD c)).clear
    (REIN_CAS_STATUS_CLAMP_HI c)).clear (REIN_CAS_STATUS_CLAMP_LO c)

/-- Every cascade to OFF at once, outputs zero, pending enables cancelled (R200, R425). -/
def State.cascadesOff (s : State) : State :=
  let s := forN 8 (fun c t =>
    (((t.casOff c).wr (REIN_CAS_OUT c) 0).set (REIN_CAS_STATUS_ENABLE_PENDING c) 0).wr (REIN_CAS_OUT_BASE c) 0) s
  let s := (s.set BRD_PENDING_CAS 0).wr REIN_CMD_TOT 0 |>.wr REIN_CMD_STR 0 |>.wr REIN_FF_NOW 0 |>.wr REIN_UNSERVED 0
  { s with hrn := { s.hrn with strCmd := [0, 0], chans := s.hrn.chans.map fun c => { c with ref := 0 } },
           rein := { s.rein with restart := [], unserved := 0, carried := [], handover := none },
           brd := { s.brd with active := s.brd.active.filter (·.1 != 0x0310) } }

/-- A running tune ends (R211): ABORTED with its cause, DONE set, and the cascade restarts under R198. DESIGN CHOICE (log 70): an
ABORT finds a PENDING tune, which does not run, and leaves it PENDING. -/
def State.tuneAbort (s : State) (cause : Nat) : State :=
  match s.rein.tune with
  | none => s
  | some t =>
    let s := { s with rein := { s.rein with tune := none, restart := addOnce s.rein.restart t.cas } }
    let s := if s.get (REIN_CAS_STATUS_STATE t.cas) = 1 ∨ s.get (REIN_CAS_STATUS_STATE t.cas) = 2 then
        s.set (REIN_CAS_STATUS_STATE t.cas) 1 else s
    (((s.clear (REIN_CAS_STATUS_TUNING t.cas)).set REIN_TUNE_STATUS_STATE 5).set REIN_TUNE_STATUS_CAUSE cause).raiseBit
      REIN_TUNE_STATUS_DONE 234

/-- A quiet window ends (R238): QUIET_END when one was declared. FCST_NAP ends with it (R239). -/
def State.quietOff (s : State) : State :=
  if s.isSet FCST_STATUS_QUIET then
    ((s.clear FCST_STATUS_QUIET).raiseBit FCST_STATUS_QUIET_END 237).clear PWR_CTRL_FCST_NAP |>.tuneAbort 2
  else s

/-- The commit stops and its window is discarded (R228, R413); the headroom request and the offset end with it. -/
def State.windowOff (s : State) : State :=
  let s := { s with fcst := { s.fcst with
      running := false, window := [], offset := 0, genAt := [], decay := false, rebase := [], ramping := false,
      curSum := 0, curN := 0, lm := [] } }
  ((((s.set FCST_STATUS_MODE 0).clear FCST_STATUS_HR_REQ).clear FCST_STATUS_OFFSET).set FCST_OFFSET_O 0).quietOff

/-- The pending enables of R425 end: the shelf's, every cascade's, every group's. -/
def State.pendingOff (s : State) : State :=
  let s := forN 13 (fun g t =>
    if bitOf (t.get BRD_PENDING_GRP) g then t.set (HRN_GRP_CTRL_ENABLE g) 0 else t) s
  ((s.set SYS_SHELF_STATE_ARM_PENDING 0).wr BRD_PENDING 0)

/-- Mark an event in the microsecond record in progress (R397). -/
def State.usMark (s : State) (bit : Nat) : State := { s with lks := { s.lks with usBits := s.lks.usBits ||| 2 ^ bit } }

/-! ### Entering a shelf state -/

/-- WAIT_HOST shows PASSIVE with no bundle loaded (R90). -/
def State.showWait (s : State) : State :=
  s.setB BOOT_STATUS_WAIT_HOST (s.shelf == stPassive && s.get BOOT_STATUS_BUNDLE != 4)

/-- The codes whose action includes DERATE (R411, R412, R417). -/
def isDerating (code : Nat) : Bool :=
  code == 0x0207 || code == 0x0312 || code == 0x0408 || code == 0x0409 || code == 0x0501 || code == 0x0502
    || code == 0x0504 || code == 0x0505 || code == 0x0608

/-- Codes that clear with a shelf state: BRD_STATUS.DERATE and BRD_EVT.DERATE follow the derating ones (R411, R434). -/
def State.dropCodes (s : State) (p : Nat → Bool) : State :=
  let gone := s.brd.active.any fun c => p c.1 && isDerating c.1
  let s := { s with brd := { s.brd with active := s.brd.active.filter fun c => !p c.1 } }
  let s := s.setB BRD_STATUS_DERATE (s.brd.active.any fun c => isDerating c.1)
  if gone then s.raiseBit BRD_EVT_DERATE 243 else s

/-- Entering ARMING releases every STR_OUT hold and its FORCE_SHED; 0x0408 and 0x0409 clear (R507). -/
def State.strOutEnd (s : State) : State :=
  let s := forL s.brd.strOut (fun x t => forL (stringChans x) (fun n u => u.clear (HRN_CH_CTRL_FORCE_SHED n)) t) s
  { s with brd := { s.brd with strOut := [], returning := [] } }.dropCodes fun c => c == 0x0408 || c == 0x0409

/-- The groups' retries return to 0 and an escalated group to RUN where the shelf has left ISOLATED or LATCHED for ARMING,
through PASSIVE or not (R165). -/
def State.groupsFresh (s : State) : State :=
  if s.hrn.freshDue then
    { (forN 13 (fun g t =>
        let t := t.set (HRN_GRP_STATUS_RETRIES_USED g) 0
        if t.get (HRN_GRP_STATUS_STATE g) = 4 then t.set (HRN_GRP_STATUS_STATE g) 1 else t) s) with
      hrn := { s.hrn with freshDue := false } }
  else s

/-- The Harness control clock stops in PASSIVE (R119, R157, R167): every channel OFF, every group STOPPED but an escalated
one (R165), and no string count of 0x0207. -/
def State.harnessOff (s : State) : State :=
  let s := (forN 104 (fun n t => t.chPark n chOff) s).showActive
  let s := forN 13 (fun g t => if t.get (HRN_GRP_STATUS_STATE g) = 4 then t else t.set (HRN_GRP_STATUS_STATE g) 0) s
  { s with brd := { s.brd with offSince := some s.elapsed, stringFrac := [48, 48] },
           hrn := { s.hrn with phHold := none, stepHold := [false, false] } }.dropCodes (· == 0x0207)

/-- Enter a shelf state: the register, the state-change interrupt, the STATE record, the lists of
TKIND 3, ARM_COUNT, and what R119, R131, R157 and R425 tie to the entry. -/
def State.enter (s : State) (st : Nat) : State :=
  let old := s.shelf
  if old = st then s
  else
    let s := s.set SYS_SHELF_STATE_STATE st
    let s := s.raiseBit SYS_EVT_STATE_CHG 224
    let s := s.record kState 1 2 0 0 0 false (leBytes 1 old ++ leBytes 1 st)
    let s := s.fireOnState st
    let s := s.tuneAbort 4
    let s := if st = stArmed then s.bumpSat SYS_SHELF_STATE_ARM_COUNT 1 else s
    let s := if st = stIsolated ∨ st = stLatched then { s.pendingOff with hrn := { s.hrn with phHold := none, freshDue := true } } else s
    let s := if st = stIsolated then s else s.set SYS_SHELF_STATE_CLK_HOLD 0
    let s := if st = stArming then s.strOutEnd.groupsFresh else s
    let s := if st = stPassive then s.harnessOff else s
    s.showWait

/-! ### The fault table (R417, R418) -/

/-- The codes that last: a level condition whose detector reports for a time (R415, R418, R429, R507; log 22). -/
def isLevel (code : Nat) : Bool :=
  code == 0x0101 || code == 0x0102 || code == 0x0103 || code == 0x0108 || code == 0x010E
    || code == 0x0203 || code == 0x0204 || code == 0x0205 || code == 0x0206 || code == 0x0207
    || code == 0x0310 || code == 0x0311 || code == 0x0312
    || (0x0401 ≤ code && code ≤ 0x040A) || (0x0501 ≤ code && code ≤ 0x050A)
    || code == 0x0601 || code == 0x0602 || code == 0x0608 || code == 0x0701 || code == 0x0702
    || code == 0x0705 || code == 0x0707

/-- The class of a code (R417): fixed, or from the register or the state that the table names. -/
def State.classOf (s : State) (code idx : Nat) : Nat :=
  if code = 0x0103 then (if s.isSet HRN_OV_CFG_AUTO then 2 else 3)
  else if code = 0x0202 then s.get BRD_RECOV_CFG_ESC_CLASS
  else if 0x0300 ≤ code ∧ code < 0x0308 then s.get (REIN_CAS_FE_CFG_FE_CLASS (code - 0x0300))
  else if code = 0x0601 then (if s.armedStates then 2 else 0)
  else if code = 0x0104 ∨ code = 0x0106 ∨ code = 0x010C ∨ code = 0x0708 then 3
  else if code = 0x0101 ∨ code = 0x0102 ∨ code = 0x0105 ∨ code = 0x0107 ∨ code = 0x0108 ∨ code = 0x0109
      ∨ code = 0x010D ∨ code = 0x0401 ∨ code = 0x0402 ∨ code = 0x0403 ∨ code = 0x0503
      ∨ (0x0506 ≤ code ∧ code ≤ 0x0509) then 2
  else if code = 0x0603 then (if idx = 1 then 3 else 2)
  else if code = 0x010A ∨ code = 0x010B ∨ code = 0x0201 ∨ code = 0x0203 ∨ code = 0x0205 then 1
  else 0

/-- The DOMAIN that detects a code (R417, R437). -/
def domainOf (code : Nat) : Nat :=
  if code = 0x010E ∨ code = 0x010F ∨ code = 0x0601 ∨ code = 0x0602 then 0
  else if code < 0x0400 ∨ code = 0x0603 ∨ (0x0506 ≤ code ∧ code ≤ 0x0509) ∨ code = 0x0708 then
    (if code = 0x0311 ∨ code = 0x0312 ∨ code = 0x010A ∨ code = 0x010D then 5 else 2)
  else if 0x0401 ≤ code ∧ code ≤ 0x0402 then 2
  else if code < 0x040C then 3
  else if 0x0701 ≤ code ∧ code ≤ 0x0705 then 4
  else if code = 0x050A ∨ code = 0x0607 then 6
  else 5

/-- The strings whose contactor a code's action opens (R412, R417): ISOLATE+S. -/
def openStrings (code idx : Nat) : List Nat :=
  if code = 0x0108 ∨ code = 0x010D ∨ code = 0x0603 then [0, 1]
  else if code = 0x0107 ∨ code = 0x0401 ∨ code = 0x0402 then (if idx = 2 then [0, 1] else [idx])
  else if code = 0x0403 then [idx / 52]
  else []

/-! ### Sets, starts, hold-off -/

/-- Show the cause or latched set: its first eight codes, its highest class, its overflow (R433, R434). -/
def State.showCauses (s : State) : State :=
  let cs := s.brd.causes.map (·.1)
  let s := forN 4 (fun i t => (t.set (BRD_CAUSE_EVEN i) (cs.getD (2 * i) 0)).set (BRD_CAUSE_ODD i) (cs.getD (2 * i + 1) 0)) s
  (s.setB BRD_STATUS_CAUSE_OVF (8 < cs.length)).set BRD_STATUS_CLASS (s.brd.causes.foldl (fun m c => max m c.2) 0)

/-- A code joins the set, at the higher of its classes (R421, R422). -/
def State.join (s : State) (code cls : Nat) : State :=
  let l := if s.brd.causes.any (·.1 == code) then
      s.brd.causes.map fun c => if c.1 = code then (code, max c.2 cls) else c
    else s.brd.causes ++ [(code, cls)]
  { s with brd := { s.brd with causes := l } }.showCauses

/-- Empty the set. -/
def State.clearCauses (s : State) : State := { s with brd := { s.brd with causes := [], holdoff := none } }.showCauses

/-- Whether a code is active, under any index (R418); the over-voltage latch counts as 0x0103 (R424). -/
def State.codeActive (s : State) (code : Nat) : Bool :=
  s.brd.active.any (·.1 == code) || (code == 0x0103 && s.isSet HRN_OV_CTRL_LATCHED)

/-- The feedback line and the enable of contactor 0 or 1 or, for 2, of the isolation. -/
def State.fbOf (s : State) (w : Nat) : Bool :=
  if w = 2 then s.isSet SYS_CONN_STATUS_ISO_FB else bitOf (s.get SYS_CONN_STATUS_CONT_FB) w
def State.enOf (s : State) (w : Nat) : Bool := if w = 2 then s.pins.isoEn else s.pins.contEn.getD w false

/-- 0x0108 is active while a feedback that changed differs from its enable (R47, R418): index 3 is the isolation. -/
def State.fbSettle (s : State) : State :=
  { s with brd := { s.brd with active := s.brd.active.filter fun c =>
      !(c.1 == 0x0108 && (let w := if c.2 = 3 then 2 else c.2; s.fbOf w == s.enOf w)) } }

/-- The hold-off timer of HOLD runs while every code of the cause set is clear, ISO_FB is low and
clock-hold is off; otherwise it is stopped and reset (R421). A feedback that is back with its enable ends 0x0108 first. -/
def State.checkHoldoff (s : State) : State :=
  let s := s.fbSettle
  if s.get BRD_STATUS_RECOV ≠ 1 then s
  else if s.brd.causes.any (fun c => s.codeActive c.1) || s.isSet SYS_CONN_STATUS_ISO_FB || s.isSet CLK_STATUS_HOLD then
    { s with brd := { s.brd with holdoff := none } }
  else if s.brd.holdoff.isSome then s
  else { s with brd := { s.brd with holdoff := some s.elapsed } }

/-- The recovery starts within the preceding 10 s (R423). -/
def State.recentStarts (s : State) : List Nat := s.brd.starts.filter fun t => s.elapsed - t < 10 * tickS

/-! ### Contactors, forced shedding -/

/-- A contactor opening is due: at 20 A or after 200 µs; while the over-voltage latch holds it waits for
the release (R413, R414). -/
def State.openDue (s : State) (xs : List Nat) : State :=
  let xs := xs.filter fun x => s.pins.contEn.getD x false
  if s.isSet HRN_OV_CTRL_LATCHED || s.brd.ovAction != 0 then
    { s with brd := { s.brd with openAfterOv := xs.foldl addOnce s.brd.openAfterOv } }
  else { s with brd := { s.brd with openDue := xs.foldl addOnce s.brd.openDue } }

/-- Set FORCE_SHED on every in-service channel of a string: an active channel starts its shed ramp (R148, R507). -/
def State.forceShedString (s : State) (x : Nat) : State :=
  forL (stringChans x) (fun n t =>
    if t.get (HRN_CH_CTRL_ROLE n) ≠ 1 then t
    else
      let t := t.set (HRN_CH_CTRL_FORCE_SHED n) 1
      if t.chSt n = chRun ∨ t.chSt n = chRestarting then
        (t.setChan n { t.chan n with shedLeft := t.shedGet HRN_SHED_CFG_SHED_RAMP }).set (HRN_CH_STATUS_STATE n) chShedding
      else t) s

/-! ### Actions (R412, R413) -/

/-- The isolation sequence of R413 into shelf state `st`, for a fault that opens the contactors `xs`.
For 0x0103 the gates stay with Harness and the contactors wait (R414). -/
def State.isolate (s : State) (code st cls : Nat) (xs : List Nat) : State :=
  let s := if code = 0x0103 then s else s.drvOff.chansForced
  let s := s.isoOff
  let journal := s.armedStates || s.shelf == stIsolated
  let s := { s with brd := { s.brd with ssWindow := false, ssOff := false, isoLimitDue := true, returning := [] },
                    boot := { s.boot with armStep := 0, contRequested := false, disarming := false,
                                          disarmKept := s.boot.disarmKept || s.boot.disarming } }
  let s := (s.cascadesOff.windowOff).enter st
  let s := if journal && 2 ≤ cls then s.jnlTrigger 3 else s
  s.openDue xs

/-- The LATCH action: isolation, both contactors, the latched state, the recovery ended (R412, R421). -/
def State.latch (s : State) (code : Nat) : State :=
  ((s.isolate code stLatched 3 [0, 1]).set BRD_STATUS_RECOV 0).checkHoldoff

/-- The bookkeeping of a raised code: BRD_EVT, BRD_LAST, BRD_COUNT, the BRIDLE wake source, the FAULT
record with its detail, the alarm slot, the lists (R416, R417, R434, R440, R446). -/
def State.logCode (s : State) (code idx cls : Nat) (m t : Int) : State :=
  let p0 := decide (2 ≤ cls) || isDerating code
  let detail := leBytesI 4 m ++ leBytesI 4 t ++ leBytes 1 idx ++ leBytes 1 s.shelf ++ zeros 2
  let s := s.raiseBit (if cls = 0 then BRD_EVT_F0 else if cls = 1 then BRD_EVT_F1 else if cls = 2 then BRD_EVT_F2 else BRD_EVT_F3) 243
  let s := ((s.set BRD_LAST_CODE code).set BRD_LAST_CLASS cls).set BRD_LAST_STATE s.shelf
  let s := if 2 ≤ cls then s.lfr code 0xFF [] else s
  let s := if 1 ≤ cls then s.tuneAbort 4 else s
  let s := if cls = 2 then s.bumpSat BRD_COUNT_F2 1 else if cls = 3 then s.bumpSat BRD_COUNT_F3 1 else s
  let s := s.fireWake 1
  let s := s.record kFault (if p0 then 0 else 1) (domainOf code) code idx cls (2 ≤ cls) detail
  let s := if p0 then s.alarm code cls detail else s
  s.fireOnFault code cls

/-- The recovery storm: 0x0708 in place of a third start within 10 s; where the start's code is 0x0103,
R414 governs gates and contactors first (R423). -/
def State.storm (s : State) (code : Nat) : State :=
  let s := s.logCode 0x0708 0 3 0 0
  let s := (s.raiseBit BRD_EVT_STORM 243).bumpSat BRD_COUNT_STORMS 1
  let s := if code = 0x0103 then { s with brd := { s.brd with ovAction := 3 } } else s
  (s.join 0x0708 3).latch (if code = 0x0103 then 0x0103 else 0x0708)

/-- A recovery start, counted, or the storm that it makes (R421 to R423): `fresh` empties the set first. A second F2 code at the
instant of a start makes no start of its own (R432). -/
def State.startRecovery (s : State) (code idx : Nat) (fresh : Bool) : State :=
  let s := if fresh then s.clearCauses else s
  let s := s.join code 2
  let same := !fresh && s.brd.starts.head? == some s.elapsed
  if 2 ≤ s.recentStarts.length ∧ !same then s.storm code
  else
    let s := { s with brd := { s.brd with starts := if same then s.brd.starts else s.elapsed :: s.recentStarts, holdoff := none } }
    let s := if code = 0x0103 then { s with brd := { s.brd with ovAction := 2 } } else s
    let s := s.set BRD_STATUS_RECOV 1
    ((if code = 0x0601 then s else s.isolate code stIsolated 2 (openStrings code idx))).checkHoldoff

/-- An F2 code, by shelf and recovery state (R421, R422, R432). -/
def State.takeF2 (s : State) (code idx : Nat) : State :=
  if s.armedStates then s.startRecovery code idx (s.get BRD_STATUS_RECOV == 0)
  else if s.shelf = stIsolated then
    if s.get BRD_STATUS_RECOV = 1 ∧ s.brd.causes.any (·.1 == code) then
      (({ s with brd := { s.brd with holdoff := none } }.jnlTrigger 3).openDue (openStrings code idx)).checkHoldoff
    else s.startRecovery code idx (s.get BRD_STATUS_RECOV == 0)
  else if s.shelf = stLatched then s.join code 2
  else s

/-- An F3 code (R421, R432): from ARMING, ARMED, DERATED and ISOLATED to LATCHED. -/
def State.takeF3 (s : State) (code : Nat) : State :=
  if s.armedStates || s.shelf == stIsolated then
    let s := if s.get BRD_STATUS_RECOV = 0 then s.clearCauses else s
    let s := s.join code 3
    let s := if code = 0x0103 then { s with brd := { s.brd with ovAction := 3 } } else s
    s.latch code
  else if s.shelf = stLatched then s.join code 3
  else s

/-- Show whether a derating code is active, and move between ARMED and DERATED with it (R70, R411). -/
def State.showDerate (s : State) : State :=
  let d := s.brd.active.any fun c => isDerating c.1
  let s := s.setB BRD_STATUS_DERATE d
  if d && s.shelf == stArmed then s.enter stDerated
  else if !d && s.shelf == stDerated then s.enter stArmed
  else s

/-- STR_OUT on a string, by shelf state (R507). -/
def State.strOutAct (s : State) (x : Nat) : State :=
  if s.armedStates || s.shelf == stIsolated then
    let s := { s with brd := { s.brd with strOut := addOnce s.brd.strOut x } }
    (s.forceShedString x).openDue [x]
  else s

/-- The class-F0 actions that change state: derating (R411) and STR_OUT (R507). -/
def State.takeF0 (s : State) (code idx : Nat) : State :=
  if isDerating code then
    let s := s.raiseBit BRD_EVT_DERATE 243
    let s := if code = 0x0408 then s.strOutAct (idx / 4) else if code = 0x0409 then s.strOutAct idx else s
    s.showDerate
  else s

/-- Raise a code of R417 with its index and measured and threshold values (R416 to R418): a code that
is already active counts as a repeat and is no new fault. -/
def State.raise (s : State) (code idx : Nat) (m t : Int) : State :=
  if (code, idx) ∈ s.brd.active then s.alarmRepeat code
  else
    let cls := s.classOf code idx
    let s := s.logCode code idx cls m t
    let s := if isLevel code then { s with brd := { s.brd with active := s.brd.active ++ [(code, idx)] } } else s
    if cls = 3 then s.takeF3 code
    else if cls = 2 then s.takeF2 code idx
    else if cls = 0 then s.takeF0 code idx
    else s

/-- A level condition that its detector still reports is raised once (R418). -/
def State.raiseOnce (s : State) (code idx : Nat) (m t : Int) : State :=
  if (code, idx) ∈ s.brd.active then s else s.raise code idx m t

/-- A level condition returns within its threshold: the code clears (R415, R418), with what that means
for derating and for the hold-off. -/
def State.unraise (s : State) (code idx : Nat) : State :=
  if (code, idx) ∈ s.brd.active then
    let s := { s with brd := { s.brd with active := s.brd.active.filter (· != (code, idx)) } }
    let s := if isDerating code then (s.raiseBit BRD_EVT_DERATE 243).showDerate else s
    s.checkHoldoff
  else s

/-- An F0 event 0x0605: the refused access's offset and value (R13, R17, R175, R416). -/
def State.refuse (s : State) (addr value : Nat) : State :=
  s.raise 0x0605 0 (signedOf 32 addr) (signedOf 32 value)

/-! ### An over-voltage that latches nothing (R167, R414) -/

/-- With the isolation open and no channel left to latch, an over-voltage ends without a latch: there is no release to wait
for, and the LATCH or ISOLATE action completes (R414). DEDUCED (log 28). -/
def State.ovSettle (s : State) : State :=
  if s.hrn.ovOpen && !s.isSet HRN_OV_CTRL_LATCHED && !s.isSet SYS_CONN_STATUS_ISO_FB
      && s.hrn.ovActive.all (fun n => s.chSt n == chForcedOff) then
    let s := { s with hrn := { s.hrn with ovOpen := false, ovActive := [] } }
    let s := if s.brd.ovAction = 0 then s else s.drvOff.chansForced
    let due := s.brd.openAfterOv
    let s := { s with brd := { s.brd with ovAction := 0, openAfterOv := [] } }
    (s.openDue due).checkHoldoff
  else s

/-! ### Transmitters -/

/-- SPUR_ACK is live: a bundle is loaded, no clock-hold, no FIRC in place of XTAL-A, no relock gap (R220, R506). -/
def State.showAck (s : State) : State :=
  s.setB SPUR_STATUS_ACK_LIVE (s.get BOOT_STATUS_BUNDLE == 4 && !s.isSet CLK_STATUS_HOLD && !s.isSet CLK_SRC_SEL_PLL_REF
    && s.isSet CLK_READY_PLL_LINK)

/-- TX_DISABLE of both cages: in clock-hold, on FIRC in place of XTAL-A, and while the profile marks the path unused (R50). -/
def State.showTx (s : State) : State :=
  let quiet := s.isSet CLK_STATUS_HOLD || s.isSet CLK_SRC_SEL_PLL_REF
  let used := s.profileAt 0x8005 2 1 3
  { s with pins := { s.pins with txDisable := [quiet || !bitOf used 0, quiet || !bitOf used 1] } }

/-! ### Soft start (R427) -/

/-- A soft-start abort for 0x010A or 0x010B: forced off until SS_OFF_MS, or 0x010C with the budget spent. -/
def State.softAbort (s : State) (code idx : Nat) (m t : Int) : State :=
  if s.get BRD_SS_CFG_SS_BUDGET ≤ s.get BRD_STATUS_SS_USED then s.raise 0x010C 0 m t
  else
    let s := s.raise code idx m t
    let s := (s.bumpSat BRD_STATUS_SS_USED 1).raiseBit BRD_EVT_SS_ABORT 243
    let s := s.drvOff.chansForced.isoOff.cascadesOff
    { s with brd := { s.brd with ssOff := true } }

end Sys2Proof.Machine
end

