-- ==== Sys2Proof/Machine/Harness.lean ====
section
/-! DEFINITION. Harness (R137 to R180): one switching cycle, channel states and phase shedding,
synchronisation, over-current, stage faults, over-voltage, last-fault records. -/

namespace Sys2Proof.Machine

/-! ### Shared operations -/

/-- The Harness control clock runs (R119, R167): from the arming step that starts it, and in ARMED,
DERATED, ISOLATED and LATCHED. -/
def State.hrnClocked (s : State) : Bool :=
  s.inService || s.shelf == stIsolated || s.shelf == stLatched || (s.shelf == stArming && 5 ≤ s.boot.armStep)

/-- The phases follow R148 to R153: from the arming step that starts L0 on (R157). -/
def State.shedding (s : State) : Bool := s.inService || (s.shelf == stArming && s.boot.armStep == 7)

/-- The phases precharge the shelf node (R157, R194). -/
def State.precharging (s : State) : Bool := s.shelf == stArming && (s.boot.armStep == 5 || s.boot.armStep == 6)

/-- A channel is in service: ROLE 0b01 and its group enabled (R148). -/
def State.serves (s : State) (n : Nat) : Bool :=
  s.get (HRN_CH_CTRL_ROLE n) == 1 && s.isSet (HRN_GRP_CTRL_ENABLE (chanGroup n))
    && !bitOf (s.get BRD_PENDING_GRP) (chanGroup n)

/-- The position of channel k of a group in the rank list 0, 4, 2, 6, 1, 5, 3, 7, which is its own inverse (R149). -/
def rankPos (k : Nat) : Nat := [0, 4, 2, 6, 1, 5, 3, 7].getD k 0

/-- A channel's rank within its string; a spare's is the one it took over (R149). -/
def State.rank (s : State) (n : Nat) : Option Nat :=
  if n < 96 then some (6 * rankPos (n % 8) + n / 8 % 6) else s.hrn.spareRank.getD (n - 96) none

/-- The channel of a list with the lowest rank. -/
def State.lowestRank (s : State) (l : List Nat) : Option Nat :=
  l.foldl (fun b n => match b with
    | none => some n
    | some m => if (s.rank n).getD 99 < (s.rank m).getD 99 then some n else some m) none

/-- The channel of a list with the highest rank. -/
def State.highestRank (s : State) (l : List Nat) : Option Nat :=
  l.foldl (fun b n => match b with
    | none => some n
    | some m => if (s.rank m).getD 0 < (s.rank n).getD 0 then some n else some m) none

/-- A channel's shed ramp starts (R148, R151). -/
def State.beginShed (s : State) (n : Nat) : State :=
  (s.setChan n { s.chan n with shedLeft := s.shedGet HRN_SHED_CFG_SHED_RAMP, soft := 0, restart := 0 }).set
    (HRN_CH_STATUS_STATE n) chShedding

/-- A channel's restart sequence starts (R152). -/
def State.beginRestart (s : State) (n soft : Nat) : State :=
  (s.setChan n { s.chan n with restart := 0, soft := soft, shedLeft := 0, zeroSeen := true }).set
    (HRN_CH_STATUS_STATE n) chRestarting

/-- The channels of a string in RUN, SHED, RESTARTING or SHEDDING (0x0207). -/
def State.stringCount (s : State) (x : Nat) : Nat :=
  ((stringChans x).filter fun n =>
    s.chSt n == chRun || s.chSt n == chShed || s.chSt n == chRestarting || s.chSt n == chShedding).length

/-- 0x0207 follows each string's count of usable channels while the phases are in use (R417). -/
def State.checkCounts (s : State) : State :=
  if !s.shedding then s
  else
    forN 2 (fun x t =>
      let n := t.stringCount x
      let t := { t with brd := { t.brd with stringFrac := t.brd.stringFrac.set x (min 48 n) } }
      if n < 48 then t.raise 0x0207 x n 48 else t.unraise 0x0207 x) s

/-- A disabled group whose last channel has reached OFF is STOPPED; its off-time counts from here (R425, R426). -/
def State.groupStopped (s : State) (g : Nat) : State :=
  if !s.isSet (HRN_GRP_CTRL_ENABLE g) && s.get (HRN_GRP_STATUS_STATE g) != 0
      && (groupChans g).all (fun n => s.chSt n == chOff) then
    { s.set (HRN_GRP_STATUS_STATE g) 0 with
      brd := { s.brd with grpOffSince := s.brd.grpOffSince.set g (some s.elapsed) } }
  else s

/-- After a change of channel states: stopped groups, the active counts and the usable count. -/
def State.afterChans (s : State) : State := (forN 13 (fun g t => t.groupStopped g) s).showActive.checkCounts

/-- A channel leaves service (R148): SHEDDING, at the shed rate, then OFF at a cycle start. One with its gates off has
nothing left to shed; one that the over-voltage latch or Bridle's forcing holds leaves at its release (R170, R171). -/
def State.leaveService (s : State) (n : Nat) : State :=
  let st := s.chSt n
  if st = chOff then s
  else
    let s := s.setChan n { s.chan n with leaving := true }
    if st = chShedding ∨ st = chOvLatch ∨ st = chForcedOff then s
    else if stActive st then s.beginShed n
    else (s.setChan n { s.chan n with shedLeft := 0, zeroSeen := true }).set (HRN_CH_STATUS_STATE n) chShedding

/-- What ends a stage fault (R166): FLT_N high, the temperature below T_WARN, FLT_N and OT_TRIP cleared by the host. -/
def State.faultOver (s : State) (n : Nat) : Bool :=
  !(s.chan n).flt && decide (s.getI (HRN_CH_MEAS_TEMP n) < 10 * s.get (HRN_GRP_TEMP_T_WARN (chanGroup n)))
    && !s.isSet (HRN_CH_FAULT_FLT_N n) && !s.isSet (HRN_CH_FAULT_OT_TRIP n)

/-- The state a channel takes when a higher rank of R170 releases it (R171). -/
def State.restState (s : State) (n : Nat) : Nat :=
  let g := s.get (HRN_GRP_STATUS_STATE (chanGroup n))
  if (s.chan n).leaving || !s.serves n then chOff
  else if (s.chan n).faultCode ≠ 0 ∧ !s.faultOver n then chFaulted
  else if g = 2 ∨ g = 4 then chHiccup
  else chShed

/-- A channel enters FAULTED: gates off, a last-fault record, Remount's count (R166, R172, R471). -/
def State.enterFaulted (s : State) (n : Nat) : State :=
  let s := s.lfr (s.chan n).faultCode (chanGroup n) [n]
  { s.chPark n chFaulted with rmt := { s.rmt with phase := modAt s.rmt.phase n fun w => { w with faults := w.faults + 1 } } }

/-- Release a channel to its resting state. -/
def State.toRest (s : State) (n : Nat) : State :=
  let st := s.restState n
  if st = chFaulted then (if s.chSt n = chFaulted then s else s.enterFaulted n)
  else
    let s := s.chPark n st
    s.setChan n { s.chan n with leaving := false, faultCode := if st = chOff then (s.chan n).faultCode else 0 }

/-- The Harness control clock starts (R93, R157): channels in service leave OFF and FORCED_OFF for SHED,
groups run; the shedding fields take effect (R174). -/
def State.harnessOn (s : State) : State :=
  let s := forN 13 (fun g t =>
    if t.get (HRN_GRP_STATUS_STATE g) = 0 ∧ t.isSet (HRN_GRP_CTRL_ENABLE g) then t.set (HRN_GRP_STATUS_STATE g) 1 else t) s.shedTake
  forN 104 (fun n t => if t.chSt n = chOff ∨ t.chSt n = chForcedOff then t.toRest n else t) s

/-- The group a substitution hold stands on, if it is this channel's (R464). -/
def State.phHeld (s : State) (n : Nat) : Bool :=
  match s.hrn.phHold with
  | some (_, t) => chanGroup t == chanGroup n
  | none => false

/-- MIN_ACTIVE channels of each string restart, the lowest ranks first (R157). -/
def State.startMinActive (s : State) : State :=
  let s := forN 2 (fun x t =>
    forN (t.shedGet HRN_SHED_CFG_MIN_ACTIVE) (fun _ u =>
      match u.lowestRank ((stringChans x).filter fun n => u.chSt n == chShed && !u.isSet (HRN_CH_CTRL_FORCE_SHED n) && !u.phHeld n) with
      | some n => u.beginRestart n 0
      | none => u) t) s
  s.showActive

/-- A channel that no add slot and no step event may take up (R153, R166). -/
def State.heldDown (s : State) (n : Nat) : Bool :=
  s.isSet (HRN_CH_CTRL_FORCE_SHED n) || (s.chan n).warm

/-- A step event reaches Harness for some strings (R153, R154): shedding ends, SHED channels restart, the
shed slots are suspended, a tune ends (R211), a substitution hold of the string is released (R464). A disarm sheds on (R97). -/
def State.stepEvent (s : State) (xs : List Nat) : State :=
  if !s.shedding || s.boot.disarming then s
  else
    let s := (s.tuneAbort 1).usMark 1
    let s := forL xs (fun x t =>
      let t := match t.hrn.phHold with
        | some (y, _) => if y = x then { t with hrn := { t.hrn with phHold := none } } else t
        | none => t
      let l := (stringChans x).filter t.serves
      let t := onlyIf (l.any fun n => t.chSt n == chShedding) (fun u => (u.raiseBit HRN_SHED_STATUS_ABORTED 231).usMark 4) t
      let t := onlyIf (l.any fun n => t.chSt n == chShed) (·.raiseBit HRN_SHED_STATUS_STEP_ADD 231) t
      let t := forL l (fun n u =>
        if u.heldDown n then u
        else if u.chSt n = chShedding ∧ !(u.chan n).leaving then
          (u.setChan n { u.chan n with shedLeft := 0 }).set (HRN_CH_STATUS_STATE n) chRun
        else if u.chSt n = chShed then u.beginRestart n 0
        else u) t
      { t with hrn := { t.hrn with stepHold := t.hrn.stepHold.set x true } }) s
    s.afterChans

/-- N_LIMIT, where the field value 0 stands for 64 (R177). -/
def State.nLimit (s : State) (g : Nat) : Nat :=
  if s.get (HRN_GRP_LIMIT_N_LIMIT g) = 0 then 64 else s.get (HRN_GRP_LIMIT_N_LIMIT g)

/-- A group enters hiccup, or escalates with its retries spent (R164, R165); a channel that leaves service goes OFF from there. -/
def State.hiccup (s : State) (g : Nat) : State :=
  let esc := decide (s.get (HRN_GRP_HICCUP_RETRY_BUDGET g) ≤ s.get (HRN_GRP_STATUS_RETRIES_USED g))
  let code := if esc then 0x0202 else 0x0201
  let s := s.lfr code g ((groupChans g).filter fun n => s.nLimit g < s.get (HRN_CH_STATUS_LIMIT_RUN n))
  let s := { s with hrn := { s.hrn with slotsAtHiccup := s.hrn.slotsAtHiccup.set g s.hrn.slotSheds } }
  let s := forL (groupChans g) (fun n t =>
    if t.chSt n = chOff ∨ t.chSt n = chFaulted ∨ t.chSt n = chForcedOff ∨ t.chSt n = chOvLatch then t
    else (t.chPark n chHiccup).set (HRN_CH_STATUS_LIMIT_RUN n) 0) s
  let s := if esc then (s.set (HRN_GRP_STATUS_STATE g) 4).raiseBit (HRN_GRP_STATUS_ESC g) 230
    else (s.set (HRN_GRP_STATUS_STATE g) 2).raiseBit (HRN_GRP_STATUS_HICCUP g) 230
  (s.afterChans).raise code g 0 0

/-- A stage fault of a channel (R166): FAULTED, its record, an F1 event. OFF, Bridle's forcing and the over-voltage latch keep the
channel; it is FAULTED when they release it (R170, R171). -/
def State.faultChan (s : State) (n code : Nat) (m t : Int) : State :=
  let st := s.chSt n
  let s := s.setChan n { s.chan n with faultCode := code }
  let s := if st = chOff ∨ st = chFaulted ∨ st = chForcedOff ∨ st = chOvLatch then s else (s.enterFaulted n).afterChans
  s.raiseOnce code n m t

/-! ### ISNS (R137, R143, R163, R176) -/

/-- A channel's ISNS in 0.1 A from the amplifier's, by ISNS_GAIN in 0.02 % and ISNS_OFFSET in 0.05 A (R176). DESIGN CHOICE
(log 71): the gain first, then the offset; a current beyond ±120 A sets SENSE_RANGE. -/
def State.sensed (s : State) (n : Nat) (raw : Int) : Int :=
  roundDiv (2 * raw * (5000 + s.getI (HRN_CH_TRIM_ISNS_GAIN n)) + 5000 * s.getI (HRN_CH_TRIM_ISNS_OFFSET n)) 10000

/-- ISNS as a command brings it: kept, and checked against ±120 A (R176). -/
def State.sense (s : State) (n : Nat) (raw : Int) : State :=
  let i := s.sensed n raw
  let s := s.setChan n { s.chan n with isns := i }
  if 1200 < i.natAbs then s.raiseBit (HRN_CH_FAULT_SENSE_RANGE n) 229 else s

/-- The comparator of R137 at an ISNS and the time left to the next cycle start: the current in the direction of the reference
has reached the reference less the ramp of R143, which rises from the control switch's turn-on, one dead time after the
cycle start, at 0.05 A/µs a code: in 1/1600 of 0.1 A, one per code and T_c. -/
def State.peakTrips (s : State) (n : Nat) (isns : Int) (left : Nat) : Bool :=
  let c := s.chan n
  let charge := s.isSet (HRN_CH_STATUS_DIR n)
  let ramp := (if charge then c.slopeChg else c.slopeDis) * (s.grpPeriod (chanGroup n) - left - c.deadTime)
  decide ((1600 * s.get (HRN_CH_STATUS_REF_CODE n) : Int) ≤ 1600 * (if charge then -isns else isns) + ramp)

/-- The comparator of PEAK_LIMIT: the current magnitude in either direction (R163, R168). -/
def State.limitTrips (s : State) (n : Nat) (isns : Int) : Bool := decide ((s.chan n).limit ≤ isns.natAbs)

/-- A gate output as it may stand: low under EXTEST, CLAMP and HIGHZ (R63). -/
def State.gate (s : State) (b : Bool) : Bool := b && !s.tapHolds

/-- The control switch of a channel is on. -/
def State.ctlOn (s : State) (n : Nat) : Bool :=
  (if s.isSet (HRN_CH_STATUS_DIR n) then (s.chan n).lo else (s.chan n).hi) && (s.chan n).dead == 0
    && stActive (s.chSt n) && !((s.chSt n == chRestarting) && (s.chan n).restart == 1)

/-- The control switch turns off at a current; the synchronous switch follows one dead time later,
or stays off where the rest of the cycle is shorter than two dead times (R137, R140). -/
def State.ctlOff (s : State) (n : Nat) (isns : Int) (left : Nat) : State :=
  let short := decide (left < 2 * (s.chan n).deadTime)
  s.setChan n { s.chan n with
    hi := false, lo := false, blank := false, tripSeen := false, peakNow := some isns, dead := if short then 0 else 2 }

/-- The fraction of its share that a channel carries in the cycle that starts (R151, R152, R164). -/
def State.chFrac (s : State) (n : Nat) : Nat × Nat :=
  let c := s.chan n
  if s.chSt n = chShedding then (min c.shedLeft (s.shedGet HRN_SHED_CFG_SHED_RAMP), max 1 (s.shedGet HRN_SHED_CFG_SHED_RAMP))
  else if s.chSt n = chRestarting then (if c.restart = 1 then (0, 1) else if c.restart = 2 then (1, 2) else (1, 1))
  else if 0 < c.soft then (c.soft - 1, max 1 (s.get (HRN_GRP_HICCUP_SOFT_CYCLES (chanGroup n))))
  else (1, 1)

/-- Diode emulation of a group against a channel's reference magnitude (R146). -/
def State.groupDe (s : State) (n : Nat) : State :=
  let g := chanGroup n
  let m := (s.chan n).ref.natAbs
  let lo := s.get (HRN_GRP_DE_DE_ENTER g)
  let hi := s.get (HRN_GRP_DE_DE_EXIT g)
  let de := if !s.isSet (HRN_GRP_CTRL_DE_EN g) || hi ≤ lo then false
    else if m < lo then true else if hi < m then false else s.hrn.grpDe.getD g false
  { s with hrn := { s.hrn with grpDe := s.hrn.grpDe.set g de } }

/-- Load the reference of a cycle: magnitude, direction, diode emulation; a control switch waits for its
dead time, a magnitude of 0 skips the cycle, the first restart cycle refreshes the bootstrap (R139 to
R141, R146, R151, R152); the group's cycle-level fields take effect (R174). -/
def State.cycleLoad (s : State) (n : Nat) : State :=
  let s := s.groupDe n
  let c := s.chan n
  let g := chanGroup n
  let (num, den) := s.chFrac n
  let charge := decide (c.ref < 0)
  let turn := c.ref != 0 && charge != s.isSet (HRN_CH_STATUS_DIR n) && !c.zeroSeen
  let mag := if turn then 0 else min 1023 (roundDiv (c.ref.natAbs * num) den).toNat
  let dir := if c.ref = 0 ∨ turn then s.isSet (HRN_CH_STATUS_DIR n) else charge
  let refresh := s.chSt n == chRestarting && c.restart == 1
  let de := s.hrn.grpDe.getD g false || turn || s.chSt n == chShedding
    || (s.chSt n == chRestarting && c.restart == 2) || s.precharging
  let s := ((s.set (HRN_CH_STATUS_REF_CODE n) mag).setB (HRN_CH_STATUS_DIR n) dir).setB (HRN_CH_STATUS_DE n) de
  s.setChan n { c with
    limit := s.get (HRN_GRP_LIMIT_PEAK_LIMIT g), slopeDis := s.get (HRN_GRP_SLOPE_SLOPE_DIS g),
    slopeChg := s.get (HRN_GRP_SLOPE_SLOPE_CHG g), deadTime := s.get (HRN_GRP_TIMING_DEADTIME g),
    hi := false, lo := s.gate refresh, dead := if refresh then 3 else if mag == 0 then 0 else 1, blank := false, tripSeen := false,
    limited := false, zeroSeen := if refresh || mag != 0 then false else c.zeroSeen,
    soft := if s.chSt n == chRun && 0 < c.soft then (if c.soft = s.get (HRN_GRP_HICCUP_SOFT_CYCLES g) then 0 else c.soft + 1)
      else c.soft }

/-- The G0 cycle start moves the period by at most 1 % of PERIOD a cycle, which is PERIOD in hundredths of T_c: towards PERIOD
after a loss (R160); during acquisition towards the source's, shortened or lengthened by up to 1 % of PERIOD to take the G0
start to the edge (R161; DESIGN CHOICE, log 71: the rule gives no law for the phase). -/
def State.slew (s : State) : State :=
  let p := s.get HRN_TIMING_PERIOD
  let m := s.get HRN_SYNC_STATUS_MEAS_PERIOD
  let lock := s.get HRN_SYNC_STATUS_LOCK
  let near := fun (q : Int) => (towards s.hrn.period100 q p).toNat
  let s := { s with hrn := { s.hrn with
    period100 := if lock = 0 then 100 * p else if lock = 1 then near (100 * m - clampI (-p) p (s.hrn.phase * m / 36))
      else if lock = 2 then 100 * m else near (100 * p) } }
  if lock = 3 ∧ s.hrn.period100 = 100 * p then s.set HRN_SYNC_STATUS_LOCK 0 else s

/-- The fabric timebase starts a G0 cycle at this tick: (shelf time − FAB_OFFSET) mod (PERIOD / 8) is 0 (R158). -/
def State.fabStart (s : State) : Bool :=
  ((s.now : Int) - s.get HRN_SYNC_CTRL_FAB_OFFSET) % (s.get HRN_TIMING_PERIOD / 8 : Nat) == 0

/-- The cycle that ends is counted: its average, its range, its peak, LIMIT_RUN (R163, R173, R176). -/
def State.cycleEnd (s : State) (n : Nat) (iAvg : Int) : State :=
  let s := (s.setI (HRN_CH_MEAS_I_AVG n) (s.sensed n iAvg)).sense n iAvg
  let c := s.chan n
  let s := s.setChan n { c with peak := c.peakNow.getD c.peak, peakNow := none }
  if s.chSt n = chOvLatch then s
  else s.set (HRN_CH_STATUS_LIMIT_RUN n) (if (s.chan n).limited then min 127 (s.get (HRN_CH_STATUS_LIMIT_RUN n) + 1) else 0)

/-! ### The switching cycle -/

/-- SWITCHING_CYCLE_START (R139, R141, R142, R146, R148, R151, R152, R158, R164, R165): locked to the fabric, G0 starts at the
fabric's ticks alone. -/
def execSwitchingCycleStart (n : ChanNo) (iAvg : Int) (s : State) : Res := s.on fun s =>
  let n := n.val
  if !s.hrnClocked || (n == 0 && s.get HRN_SYNC_CTRL_SYNC_SRC == 2 && s.get HRN_SYNC_STATUS_LOCK == 2 && !s.fabStart) then .next s
  else
    let s := if n = 0 then s.slew.emit .syncOut else s
    let s := s.cycleEnd n iAvg
    let st := s.chSt n
    let g := chanGroup n
    if st = chOvLatch then .next (s.setChan n { s.chan n with lo := s.gate true, limit := s.get (HRN_GRP_LIMIT_PEAK_LIMIT g) })
    else if !stActive st || s.hrn.ovOpen || s.isSet HRN_OV_CTRL_LATCHED then .next s
    else if s.nLimit g < s.get (HRN_CH_STATUS_LIMIT_RUN n) then .next (s.hiccup g)
    else if st = chShedding ∧ (s.chan n).shedLeft = 0 ∧ (s.chan n).zeroSeen then
      .next ((s.toRest n).afterChans)
    else if st = chShedding then
      .next ((s.setChan n { s.chan n with shedLeft := (s.chan n).shedLeft - 1 }).cycleLoad n)
    else if st = chRestarting ∧ (s.chan n).restart = 3 then
      .next (((s.setChan n { s.chan n with restart := 0 }).set (HRN_CH_STATUS_STATE n) chRun).cycleLoad n)
    else if st = chRestarting then
      .next ((s.setChan n { s.chan n with restart := (s.chan n).restart + 1 }).cycleLoad n)
    else .next (s.cycleLoad n)

/-- PEAK_COMPARATOR_TRIP (R137, R140, R143): at an ISNS and a time left to the next cycle start. The comparator trips where the
current has reached the reference less the ramp; inside the blanking the trip is only remembered. -/
def execPeakComparatorTrip (n : ChanNo) (isns : Int) (left : Nat) (s : State) : Res := s.on fun s =>
  let s := s.sense n isns
  let i := (s.chan n).isns
  if !s.ctlOn n || !s.peakTrips n i left then .next s
  else if (s.chan n).blank then .next (s.setChan n { s.chan n with tripSeen := true })
  else .next (s.ctlOff n i left)

/-- BLANKING_END (R140): a trip seen inside the blanking takes effect, and MIN_ON shows the extended on-time. -/
def execBlankingEnd (n : ChanNo) (isns : Int) (left : Nat) (s : State) : Res := s.on fun s =>
  let s := s.sense n isns
  if !(s.chan n).blank then .next s
  else if (s.chan n).tripSeen && s.ctlOn n then
    .next ((s.ctlOff n (s.chan n).isns left).raiseBit (HRN_CH_FAULT_MIN_ON n) 229)
  else .next (s.setChan n { s.chan n with blank := false })

/-- LATEST_TURN_OFF (R140): 60 ns, 48 T_c, before the next cycle start. -/
def execLatestTurnOff (n : ChanNo) (isns : Int) (s : State) : Res := s.on fun s =>
  let s := s.sense n isns
  if s.ctlOn n then .next (s.ctlOff n (s.chan n).isns 48) else .next s

/-- DEAD_TIME_EXPIRY (R137, R41, R152): the gate timer ends: the control switch, or the synchronous switch, turns on; after the
200 ns of a bootstrap refresh the low switch turns off (log 28). -/
def execDeadTimeExpiry (n : ChanNo) (s : State) : Res := s.on fun s =>
  let c := s.chan n
  let charge := s.isSet (HRN_CH_STATUS_DIR n)
  if !stActive (s.chSt n) then .next s
  else if c.dead = 1 then .next (s.setChan n { c with hi := s.gate !charge, lo := s.gate charge, dead := 0, blank := true })
  else if c.dead = 2 then
    (if s.isSet (HRN_CH_STATUS_DE n) && c.zeroSeen then .next (s.setChan n { c with dead := 0 })
     else .next (s.setChan n { c with hi := s.gate charge, lo := s.gate !charge, dead := 0 }))
  else if c.dead = 3 then .next (s.setChan n { c with lo := false, dead := 0 })
  else .next s

/-- ZERO_CURRENT_DETECT (R141, R146): in diode emulation the synchronous switch turns off. -/
def execZeroCurrentDetect (n : ChanNo) (s : State) : Res := s.on fun s =>
  let c := { s.chan n with zeroSeen := true }
  if s.isSet (HRN_CH_STATUS_DE n) && stActive (s.chSt n) && !s.ctlOn n && c.dead == 0 then
    .next (s.setChan n { c with hi := false, lo := false })
  else .next (s.setChan n c)

/-- PEAK_LIMIT_TRIP (R140, R163, R168): at PEAK_LIMIT the control switch is off for the rest of the cycle, which counts as
limited; a latched low switch opens until the next cycle start and counts nothing. -/
def execPeakLimitTrip (n : ChanNo) (isns : Int) (left : Nat) (s : State) : Res := s.on fun s =>
  let s := s.sense n isns
  let i := (s.chan n).isns
  if !s.limitTrips n i then .next s
  else if s.chSt n = chOvLatch then .next (s.setChan n { s.chan n with lo := false })
  else if !stActive (s.chSt n) then .next s
  else
    let s := (s.setChan n { s.chan n with limited := true }).raiseBit (HRN_CH_FAULT_LIMIT n) 229
    if !s.ctlOn n then .next (if (s.chan n).dead = 1 then s.setChan n { s.chan n with dead := 0 } else s)
    else if (s.chan n).blank then .next (s.setChan n { s.chan n with tripSeen := true })
    else .next (s.ctlOff n i left)

/-! ### Over-current -/

/-- HICCUP_OFF_EXPIRY (R164): the group retries; with no channel to restart it returns to RUN. -/
def execHiccupOffExpiry (g : GrpNo) (s : State) : Res := s.on fun s =>
  let g := g.val
  if s.get (HRN_GRP_STATUS_STATE g) ≠ 2 then .next s
  else
    let s := s.bumpSat (HRN_GRP_STATUS_RETRIES_USED g) 1
    let s := s.set (HRN_GRP_STATUS_STATE g) 3
    let s := forL (groupChans g) (fun n t =>
      if t.chSt n ≠ chHiccup then t
      else if (t.chan n).leaving || t.heldDown n || !(t.shedding || t.precharging) then t.toRest n
      else t.beginRestart n 1) s
    let s := if (groupChans g).any (fun n => s.chSt n == chRestarting) then s else s.set (HRN_GRP_STATUS_STATE g) 1
    .next s.afterChans

/-- How many channels of a string the shed slots have shed since a group's hiccup (R164). -/
def State.slotsSince (s : State) (g x : Nat) : Nat := s.hrn.slotSheds.getD x 0 - (s.hrn.slotsAtHiccup.getD g []).getD x 0

/-- The retried channels of a group on a string that are SHED at its end: as many as the shed slots have shed meanwhile, the
highest ranks first (R164; DESIGN CHOICE, log 71: the rule does not say which). -/
def State.retrySheds (s : State) (g x : Nat) : State :=
  forN (s.slotsSince g x) (fun _ t =>
    match t.highestRank ((groupChans g).filter fun n => chanString n == x && t.chSt n == chRestarting) with
    | some n => t.chPark n chShed
    | none => t) s

/-- HICCUP_RETRY_COMPLETE (R164): RUN; the channels in RUN, or SHED where the shed slots have reduced the string's count. -/
def execHiccupRetryComplete (g : GrpNo) (s : State) : Res := s.on fun s =>
  let g := g.val
  if s.get (HRN_GRP_STATUS_STATE g) ≠ 3 then .next s
  else
    let s := ((s.set (HRN_GRP_STATUS_STATE g) 1).retrySheds g 0).retrySheds g 1
    let s := forL (groupChans g) (fun n t =>
      let t := t.setChan n { t.chan n with soft := 0 }
      if t.chSt n = chRestarting then t.set (HRN_CH_STATUS_STATE n) chRun else t) s
    .next s.afterChans

/-- RUN_CLEAR_EXPIRY (R165): RETRIES_USED returns to 0. -/
def execRunClearExpiry (g : GrpNo) (s : State) : Res := s.on fun s =>
  if s.get (HRN_GRP_STATUS_STATE g) = 1 then .next (s.set (HRN_GRP_STATUS_RETRIES_USED g) 0) else .next s

/-! ### Phase shedding -/

/-- The string command of Rein exceeds, or stays below, so many ampere (R150). -/
def State.strAbove (s : State) (x a : Nat) : Bool := a * 2 ^ 31 < (s.hrn.strCmd.getD x 0).natAbs * 8192
def State.strBelow (s : State) (x a : Nat) : Bool := (s.hrn.strCmd.getD x 0).natAbs * 8192 < a * 2 ^ 31

/-- One string's slot (R150): add the lowest-ranked SHED channel, shed the highest-ranked RUN channel, or neither. -/
def State.slot (s : State) (x : Nat) : State :=
  let l := stringChans x
  let n := (l.filter fun k => s.chSt k == chRun || s.chSt k == chRestarting).length
  if s.strAbove x (n * s.shedGet HRN_SHED_CFG_ADD_A) then
    match s.lowestRank (l.filter fun k => s.chSt k == chShed && !s.heldDown k && !s.phHeld k) with
    | some k => s.beginRestart k 0
    | none => s
  else if s.strBelow x (n * s.shedGet HRN_SHED_CFG_DROP_A) && s.shedGet HRN_SHED_CFG_MIN_ACTIVE < n
      && !s.hrn.stepHold.getD x false then
    match s.highestRank (l.filter fun k => s.chSt k == chRun) with
    | some k =>
      let s := s.beginShed k
      { s with hrn := { s.hrn with slotSheds := s.hrn.slotSheds.set x (s.hrn.slotSheds.getD x 0 + 1) } }
    | none => s
  else s

/-- SHED_ADD_SLOT (R149, R150): each string's slot acts on its own; in a disarm Harness sheds every phase and adds none (R97). -/
def execShedAddSlot (s : State) : Res := s.on fun s =>
  if s.shedding && !s.boot.disarming then .next (((s.slot 0).slot 1).afterChans) else .next s

/-- The strings of an operand. -/
def stringsOf : Strings → List Nat
  | .a => [0]
  | .b => [1]
  | .both => [0, 1]

/-- STEP_EVENT (R153, R154). -/
def execStepEvent (xs : Strings) (s : State) : Res := s.on fun s => .next (s.stepEvent (stringsOf xs))

/-- STEP_HOLD_EXPIRY (R153): the shed slots of a string resume. -/
def execStepHoldExpiry (x : StrNo) (s : State) : Res := s.on fun s =>
  .next { s with hrn := { s.hrn with stepHold := s.hrn.stepHold.set x false } }

/-- FORCE_SHED of a channel is written (R176, R148): 1 sheds it and adds it no more; 0 lets it return, but
not while STR_OUT holds its string (R507). -/
def State.forceShed (s : State) (n : Nat) (v : Bool) : State :=
  if !v && s.isSet (HRN_CH_CTRL_FORCE_SHED n) && decide (chanString n ∈ s.brd.strOut) then
    s.refuse (HRN_CH_CTRL n) 0
  else
    let s := s.setB (HRN_CH_CTRL_FORCE_SHED n) v
    if v && (s.chSt n == chRun || s.chSt n == chRestarting) then (s.beginShed n).afterChans else s

/-- FORCE_SHED_WRITE (R176). -/
def execForceShedWrite (n : ChanNo) (v : Bool) (s : State) : Res := s.on fun s => .next (s.forceShed n v)

/-- MIN_OFF_MS in ticks (R425). -/
def State.minOff (s : State) : Nat := s.get BRD_RECOV_CFG_MIN_OFF_MS * tickMs

/-- An enable within MIN_OFF_MS of a stop waits (R425). -/
def State.tooSoon (s : State) (off : Option Nat) : Bool :=
  match off with
  | some t => s.elapsed - t < s.minOff
  | none => false

/-- The channels of an enabled group leave OFF for SHED while Harness is clocked (R148, R426). -/
def State.groupUp (s : State) (g : Nat) : State :=
  if s.hrnClocked then
    let s := if s.get (HRN_GRP_STATUS_STATE g) = 0 then s.set (HRN_GRP_STATUS_STATE g) 1 else s
    (forL (groupChans g) (fun n t => if t.chSt n = chOff then t.toRest n else t) s).afterChans
  else s

/-- ENABLE of a group is written 1 (R426): at once, or pending while channels leave service or within
MIN_OFF_MS of the last one's OFF. -/
def State.groupEnable (s : State) (g : Nat) : State :=
  if s.isSet (HRN_GRP_CTRL_ENABLE g) then s
  else
    let wait := (groupChans g).any (fun n => (s.chan n).leaving && s.chSt n != chOff)
      || s.tooSoon (s.brd.grpOffSince.getD g none)
    let s := s.set (HRN_GRP_CTRL_ENABLE g) 1
    if wait then s.set BRD_PENDING_GRP (bitPut (s.get BRD_PENDING_GRP) g true) else s.groupUp g

/-- ENABLE of a group is written 0 (R148, R425): a pending enable ends, or the channels leave service. -/
def State.groupDisable (s : State) (g : Nat) : State :=
  if !s.isSet (HRN_GRP_CTRL_ENABLE g) then s
  else
    let s := (s.set (HRN_GRP_CTRL_ENABLE g) 0).set BRD_PENDING_GRP (bitPut (s.get BRD_PENDING_GRP) g false)
    (forL (groupChans g) (fun n t => t.leaveService n) s).afterChans

/-- GROUP_ENABLE (R426). -/
def execGroupEnable (g : GrpNo) (s : State) : Res := s.on fun s => .next (s.groupEnable g)

/-- GROUP_DISABLE (R148). -/
def execGroupDisable (g : GrpNo) (s : State) : Res := s.on fun s => .next (s.groupDisable g)

/-! ### Stage faults and temperature -/

/-- FLT_N_LOW (R166). -/
def execFltNLow (n : ChanNo) (s : State) : Res := s.on fun s =>
  .next (((s.setChan n { s.chan n with flt := true }).raiseBit (HRN_CH_FAULT_FLT_N n) 229).faultChan n 0x0203 0 0)

/-- The thermal cycle count of a channel (R460): a 10 ms mean is 1,000 comparisons of R166. -/
def PhWear.temp (w : PhWear) (t dt : Int) : PhWear :=
  if w.num < 999 then { w with sum := w.sum + t, num := w.num + 1 }
  else
    let m := roundDiv (w.sum + t) 1000
    let w := { w with sum := 0, num := 0 }
    match w.low with
    | none => { w with low := some m, high := m }
    | some lo =>
      if w.rose then
        if m ≤ w.high - dt then { w with cycles := w.cycles + 1, low := some m, high := m, rose := false }
        else { w with high := max w.high m }
      else
        let lo := min lo m
        { w with low := some lo, high := m, rose := decide (lo + dt ≤ m) }

/-- STAGE_TEMP_CHECK (R166, R460): above T_WARN the channel sheds, above T_TRIP it is FAULTED. -/
def execStageTempCheck (n : ChanNo) (temp : Int) (s : State) : Res := s.on fun s =>
  let n := n.val
  let g := chanGroup n
  let s := s.setI (HRN_CH_MEAS_TEMP n) temp
  let s := { s with rmt := { s.rmt with phase := modAt s.rmt.phase n fun w => w.temp temp (10 * s.phDtCyc) } }
  if !s.hrnClocked then .next s
  else
    let warn : Int := 10 * s.get (HRN_GRP_TEMP_T_WARN g)
    let trip : Int := 10 * s.get (HRN_GRP_TEMP_T_TRIP g)
    let s :=
      if warn < temp then
        let s := (s.raiseBit (HRN_CH_FAULT_OT_WARN n) 229).setChan n { s.chan n with warm := true }
        let s := if s.chSt n = chRun ∨ s.chSt n = chRestarting then (s.beginShed n).afterChans else s
        s.raiseOnce 0x0204 n temp warn
      else
        let s := s.unraise 0x0204 n
        if temp < warn - 100 then s.setChan n { s.chan n with warm := false } else s
    if trip < temp then .next ((s.raiseBit (HRN_CH_FAULT_OT_TRIP n) 229).faultChan n 0x0205 temp trip)
    else .next (s.unraise 0x0205 n)

/-- FAULTED_CHANNEL_RETURN (R166): FLT_N is high, which ends 0x0203; below T_WARN and with FLT_N and OT_TRIP cleared, the
channel is SHED. -/
def execFaultedChannelReturn (n : ChanNo) (s : State) : Res := s.on fun s =>
  let s := (s.setChan n { s.chan n with flt := false }).unraise 0x0203 n
  if s.chSt n = chFaulted ∧ s.faultOver n then .next ((s.toRest n).afterChans) else .next s

/-! ### Synchronisation -/

/-- A loss of the sync source (R160): LOST, LOCK 0b11, F0 0x0206. -/
def State.syncLost (s : State) : State :=
  let s := { s with hrn := { s.hrn with good := 0, aligned := 0 } }
  ((s.set HRN_SYNC_STATUS_LOCK 3).raiseBit HRN_SYNC_STATUS_LOST 231).raise 0x0206 0 0 0

/-- A phase in tenths of a degree, modulo a turn, as −1800 to 1800. -/
def turnOf (p : Nat) : Int := if p % 3600 ≤ 1800 then p % 3600 else (p % 3600 : Int) - 3600

/-- Whether a sync edge is valid (R158, R159): within ±10 % of PERIOD after the last accepted one with no other in between; the
fabric's edges are the ticks of R158 while fabric time is held. -/
def State.edgeValid (s : State) (interval : Nat) : Bool :=
  let p := s.get HRN_TIMING_PERIOD
  decide (9 * p ≤ 10 * interval) && decide (10 * interval ≤ 11 * p) && !s.hrn.stray
    && (s.get HRN_SYNC_CTRL_SYNC_SRC != 2 || (s.isSet FAB_STATUS_TIME_HELD && s.fabStart))

/-- SYNC_EDGE (R159, R161): an edge `interval` T_c after the last accepted one, with the G0 cycle start
`phase` tenths of a degree after it. One that is not valid breaks the run of good intervals and of aligned cycles. -/
def execSyncEdge (interval phase : Nat) (s : State) : Res := s.on fun s =>
  if s.get HRN_SYNC_CTRL_SYNC_SRC = 0 then .next s
  else if !s.edgeValid interval then
    .next { s with hrn := { s.hrn with good := 0, aligned := 0, stray := decide (10 * interval < 9 * s.get HRN_TIMING_PERIOD) } }
  else
    let s := (s.set HRN_SYNC_STATUS_MEAS_PERIOD interval).set HRN_SYNC_STATUS_MISSED 0
    let lock := s.get HRN_SYNC_STATUS_LOCK
    let good := s.hrn.good + 1
    let aligned := if lock = 1 ∧ (turnOf phase).natAbs ≤ 5 then s.hrn.aligned + 1 else 0
    let s := { s with hrn := { s.hrn with good := good, aligned := aligned, phase := turnOf phase } }
    if lock = 1 ∧ 4 ≤ aligned then
      .next (({ s with hrn := { s.hrn with period100 := 100 * interval } }.set HRN_SYNC_STATUS_LOCK 2).unraise 0x0206 0)
    else if lock = 2 then .next { s with hrn := { s.hrn with period100 := 100 * interval } }
    else if lock ≠ 1 ∧ 8 ≤ good then .next (s.set HRN_SYNC_STATUS_LOCK 1)
    else .next s

/-- SYNC_EDGE_MISSING (R159, R160): counted, for the fabric at a cycle start while fabric time is not held; the fourth in a row
declares the loss of a source in use. -/
def execSyncEdgeMissing (s : State) : Res := s.on fun s =>
  if s.get HRN_SYNC_CTRL_SYNC_SRC = 0 ∨ (s.get HRN_SYNC_CTRL_SYNC_SRC = 2 ∧ s.isSet FAB_STATUS_TIME_HELD) then .next s
  else
    let m := s.get HRN_SYNC_STATUS_MISSED
    let lock := s.get HRN_SYNC_STATUS_LOCK
    let s := ({ s with hrn := { s.hrn with good := 0, aligned := 0, stray := false } }).set HRN_SYNC_STATUS_MISSED (min 4 (m + 1))
    if m = 3 ∧ (lock = 1 ∨ lock = 2) then .next s.syncLost else .next s

/-- A SYNC_SRC write (R158, R162, R178): REFUSED for 0b11, and for the fabric while PERIOD is no multiple
of 8; otherwise an immediate loss of the old source. -/
def State.syncSelect (s : State) (src : Nat) : State :=
  if src = 3 ∨ (src = 2 ∧ s.get HRN_TIMING_PERIOD % 8 ≠ 0) then s.raiseBit HRN_SYNC_STATUS_REFUSED 231
  else if src = s.get HRN_SYNC_CTRL_SYNC_SRC then s
  else
    let old := s.get HRN_SYNC_CTRL_SYNC_SRC
    let s := (s.set HRN_SYNC_CTRL_SYNC_SRC src).set HRN_SYNC_STATUS_MISSED 0
    if old = 0 then { s with hrn := { s.hrn with good := 0, aligned := 0 } } else s.syncLost

/-- SYNC_SRC_SELECT (R162, R175): the value written to SYNC_SRC; 0b11 is recorded. -/
def execSyncSrcSelect (src : Fin 4) (s : State) : Res := s.on fun s =>
  let v := fieldPut (s.rd HRN_SYNC_CTRL) 0 2 src
  .next (if src.val = 3 then (s.syncSelect src).refuse HRN_SYNC_CTRL v.toNat else s.syncSelect src)

/-! ### Over-voltage -/

/-- Both switches off, nothing waiting. -/
def Chan.gatesOff (c : Chan) : Chan :=
  { c with hi := false, lo := false, dead := 0, blank := false, tripSeen := false }

/-- OVER_VOLTAGE_DECLARED (R167, R414): VNODE in 10 mV, at or above OV_THRESH for 200 ns. -/
def execOverVoltageDeclared (vnode : Nat) (s : State) : Res := s.on fun s =>
  let s := s.ovSettle
  if !s.hrnClocked || s.hrn.ovOpen || s.isSet HRN_OV_CTRL_LATCHED || decide (vnode < s.get HRN_OV_CFG_OV_THRESH) then .next s
  else
    let act := (List.range 104).filter fun n => stActive (s.chSt n)
    let s := s.lfr 0x0103 0xFF act
    let s := { s with hrn := { s.hrn with
      ovOpen := true, ovActive := act, chans := s.hrn.chans.map Chan.gatesOff } }
    .next (s.isoOff.raise 0x0103 0 vnode (s.get HRN_OV_CFG_OV_THRESH)).ovSettle

/-- OV_LOW_SWITCH_LATCH (R167): after ISO_FB has fallen and the group's dead time, the low switch of a
channel that was active latches on; one that Bridle has forced off since does not. -/
def execOvLowSwitchLatch (n : ChanNo) (s : State) : Res := s.on fun s =>
  if s.hrn.ovOpen && decide (n.val ∈ s.hrn.ovActive) && !s.isSet SYS_CONN_STATUS_ISO_FB then
    let rest := s.hrn.ovActive.filter (· != n.val)
    if s.chSt n = chForcedOff then .next { s with hrn := { s.hrn with ovActive := rest } }.ovSettle
    else
      let s := { s with hrn := { s.hrn with ovActive := rest, ovOpen := !rest.isEmpty } }
      let s := s.chPark n chOvLatch
      let s := s.setChan n { s.chan n with lo := s.gate true }
      .next (((s.set HRN_OV_CTRL_LATCHED 1).set (HRN_GRP_STATUS_STATE (chanGroup n)) 5).showActive)
  else .next s

/-- OV_NO_ISO (R167): ISO_FB is still high at t0 + 5 µs. -/
def execOvNoIso (s : State) : Res := s.on fun s =>
  if s.hrn.ovOpen && s.isSet SYS_CONN_STATUS_ISO_FB then
    let s := forL s.hrn.ovActive (fun n t => t.toRest n) s
    let s := { s with hrn := { s.hrn with ovOpen := false, ovActive := [] } }
    .next (((s.set HRN_OV_CTRL_LATCHED 1).set HRN_OV_CTRL_NO_ISO 1).afterChans)
  else .next s

/-- The latched channels rest and their groups run again. -/
def State.unlatchChans (s : State) : State :=
  let s := forN 104 (fun n t => if t.chSt n = chOvLatch then t.toRest n else t) s
  let s := forN 13 (fun g t =>
    if t.get (HRN_GRP_STATUS_STATE g) = 5 then (t.set (HRN_GRP_STATUS_STATE g) 1).groupStopped g else t) s
  let s := { s with hrn := { s.hrn with ovOpen := false, ovActive := [] } }
  (s.set HRN_OV_CTRL_LATCHED 0).set HRN_OV_CTRL_NO_ISO 0

/-- The latch releases (R169, R414): the latched channels rest, the LATCH or ISOLATE action completes, the
waiting contactor openings become due. -/
def State.ovRelease (s : State) : State :=
  let s := s.unlatchChans
  let s := if s.brd.ovAction = 0 then s else s.drvOff.chansForced
  let due := s.brd.openAfterOv
  let s := { s with brd := { s.brd with ovAction := 0, openAfterOv := [] } }
  ((s.openDue due).unraise 0x0103 0).showActive.checkHoldoff

/-- OV_CLEAR (R169): refused while VNODE, in 10 mV, is at or above OV_THRESH. -/
def execOvClear (vnode : Nat) (s : State) : Res := s.on fun s =>
  if !s.isSet HRN_OV_CTRL_LATCHED || s.get HRN_OV_CFG_OV_THRESH ≤ vnode then .next s else .next s.ovRelease

/-- OV_AUTO_RELEASE (R169). -/
def execOvAutoRelease (s : State) : Res := s.on fun s =>
  if s.isSet HRN_OV_CTRL_LATCHED && s.isSet HRN_OV_CFG_AUTO then .next s.ovRelease else .next s

/-! ### Last-fault records -/

end Sys2Proof.Machine
end

