-- ==== Sys2Proof/Machine/LksMem.lean ====
section
/-! DEFINITION. Module memory of Larkspur: the 48-bit map (R363), bytes and undefined content, poison
(R365), the partition fence (R366, R370, R371), and the cores' states as every Larkspur row uses them
(R373, R392). -/

namespace Sys2Proof.Machine

/-! ### The map (R363) -/

/-- A memory of the map. -/
inductive LMem
  | sram (d c : Nat)
  | hbm0 | sys | hbm1
  | ddr (socket : Nat)
  deriving DecidableEq, Repr

/-- The address of logical core c of die d's SRAM. -/
def sramBase (d c : Nat) : Nat := 0x100000000 + 0x40000000 * d + 0x800000 * c

/-- The system region's base (R363, R396). -/
def sysBase : Nat := 0x3700000000

/-- DDR5 socket 0, whose first 256 MiB is the staging region (R363, R366). -/
def ddrBase : Nat := 0x8000000000

/-- A core's own SRAM is the low 6 MiB of what it issues. -/
def canonAddr (d c a : Nat) : Nat := if a < 0x600000 then sramBase d c + a else a

/-- Larkspur dies fitted. -/
def State.dies (s : State) : Nat := variantDies s.otp.variant

/-- Whether a die is fitted. -/
def State.dieOk (s : State) (d : Nat) : Bool := decide (d < s.dies)

/-- Bytes of the CAMM2 module in a socket (R363). -/
def State.camm (s : State) (k : Nat) : Nat :=
  if k < variantSockets s.otp.variant then s.pins.camm.getD k 0 * 0x40000000 else 0

/-- The memory that holds an address; none outside every range. -/
def State.memOf (s : State) (a : Nat) : Option LMem :=
  if 0x100000000 ≤ a ∧ a < 0x180000000 then
    (let o := a - 0x100000000
     let d := o / 0x40000000
     let c := o % 0x40000000 / 0x800000
     if d < s.dies ∧ c < 64 ∧ o % 0x800000 < 0x600000 then some (.sram d c) else none)
  else if 0x2000000000 ≤ a ∧ a < sysBase then (if 1 ≤ s.dies then some .hbm0 else none)
  else if sysBase ≤ a ∧ a < 0x3800000000 then (if 1 ≤ s.dies then some .sys else none)
  else if 0x4000000000 ≤ a ∧ a < 0x5800000000 then (if 2 ≤ s.dies then some .hbm1 else none)
  else if ddrBase ≤ a ∧ a < ddrBase + s.camm 0 then some (.ddr 0)
  else if 0xA000000000 ≤ a ∧ a < 0xA000000000 + s.camm 1 then some (.ddr 1)
  else none

/-- The memory that holds all n bytes from an address on. -/
def State.memSpan (s : State) (a n : Nat) : Option LMem :=
  match s.memOf a with
  | some m => if n ≤ 1 ∨ s.memOf (a + n - 1) = some m then some m else none
  | none => none

/-! ### Bytes -/

/-- A range of undefined content: base, length, event, place of its first byte. -/
abbrev Undef := Nat × Nat × Nat × Nat

/-- What is left of a range of undefined content outside the n bytes from a on. -/
def Undef.cut (a n : Nat) (u : Undef) : List Undef :=
  let (b, l, e, p) := u
  (if b < a then [(b, min l (a - b), e, p)] else [])
    ++ (if a + n < b + l then
          (let b' := max b (a + n)
           [(b', b + l - b', e, p + (b' - b))])
        else [])

/-- The undefined ranges after n bytes from a on have a content again. -/
def cutUndef (l : List Undef) (a n : Nat) : List Undef :=
  (l.map fun u => if n = 0 ∨ u.1 + u.2.1 ≤ a ∨ a + n ≤ u.1 then [u] else u.cut a n).flatten

/-- A byte of module memory: an undefined one is a free value of its event and place (log 2). -/
def State.memByte (s : State) (a : Nat) : Byte :=
  match s.lks.undef.find? fun u => u.1 ≤ a && a < u.1 + u.2.1 with
  | some (b, _, e, p) => Config.freeByte e (p + (a - b))
  | none => sparseRead blankByte s.mem a

/-- n bytes of module memory. -/
def State.memBytes (s : State) (a n : Nat) : List Byte := (List.range n).map fun i => s.memByte (a + i)

/-- A little-endian number of n bytes. -/
def State.memNat (s : State) (a n : Nat) : Nat := leNat (s.memBytes a n)

/-- A stack's addresses lie in a range (R363). -/
def stackMeets (n a len : Nat) : Bool :=
  let b := if n = 0 then 0x2000000000 else 0x4000000000
  decide (a < b + 0x1800000000) && decide (b < a + len)

/-- An access of n bytes meets an HBM4 row or channel that Remount is moving: it waits (R467). -/
def State.moving (s : State) (a n : Nat) : Bool :=
  (s.get (RMT_KIND_STATE 4) == 3 && stackMeets (s.get (RMT_KIND_TARGET 4) / 33) a n)
    || (s.get (RMT_KIND_STATE 3) == 3 &&
      (match s.rmt.repairs[s.get (RMT_KIND_TARGET 3)]? with
       | some r => stackMeets r.unit a n && (List.range n).any fun i => Config.rowAddr 3 r.unit (a + i) == r.addr
       | none => false))

/-- The tiering copies whose source holds an address mark the chunk as written (R368). -/
def LTier.mark (t : LTier) (a n : Nat) : LTier :=
  if t.active ∧ a < t.src + t.len ∧ t.src < a + n then
    (let lo := (max a t.src - t.src) / 4096
     let hi := (min (a + n) (t.src + t.len) - 1 - t.src) / 4096
     { t with dirty := ((List.range (hi + 1 - lo)).map (lo + ·)).foldl addOnce t.dirty })
  else t

/-- The 64-byte blocks that the n bytes from a on cover whole are no longer poisoned. -/
def clearPoison (l : List Nat) (a n : Nat) : List Nat := l.filter fun b => !(a ≤ 64 * b && 64 * b + 64 ≤ a + n)

/-- Store bytes. -/
def State.memPut (s : State) (a : Nat) (l : List Byte) : State :=
  { s with
    mem := sparseWriteBytes s.mem a l,
    lks := { s.lks with undef := cutUndef s.lks.undef a l.length, poison := clearPoison s.lks.poison a l.length,
                        tiers := s.lks.tiers.map fun t => t.mark a l.length } }

/-- n bytes from a on become undefined (R366, R368, R373). -/
def State.memLose (s : State) (a n : Nat) : State :=
  { s with
    mem := s.mem.filter fun x => !(a ≤ x.1 && x.1 < a + n),
    lks := { s.lks with undef := cutUndef s.lks.undef a n ++ [(a, n, s.free, 0)], poison := clearPoison s.lks.poison a n },
    free := s.free + 1 }

/-- Copy n bytes: contents, undefined ranges and poison (R365, R368). -/
def State.memCopy (s : State) (src dst n : Nat) : State :=
  let inSrc := s.mem.filter fun x => src ≤ x.1 && x.1 < src + n
  let base := s.mem.filter fun x => !(dst ≤ x.1 && x.1 < dst + n)
  let und := (s.lks.undef.filter fun u => u.1 < src + n && src < u.1 + u.2.1).map fun (b, l, e, p) =>
    let lo := max b src
    ((dst + (lo - src), min (b + l) (src + n) - lo, e, p + (lo - b)) : Undef)
  let poi := (s.lks.poison.filter fun b => src ≤ 64 * b && 64 * b < src + n).map fun b => (dst + 64 * b - src) / 64
  { s with
    mem := inSrc.foldl (fun m x => sparseWrite blankByte m (dst + (x.1 - src)) x.2) base,
    lks := { s.lks with undef := cutUndef s.lks.undef dst n ++ und, poison := clearPoison s.lks.poison dst n ++ poi } }

/-- Whether an access of n bytes meets poisoned data. -/
def State.poisoned (s : State) (a n : Nat) : Bool :=
  s.lks.poison.any fun b => 64 * b < a + n && a < 64 * b + 64

/-- Poison the 64 bytes that hold an address (R365). -/
def State.poisonAt (s : State) (a : Nat) : State := { s with lks := { s.lks with poison := addOnce s.lks.poison (a / 64) } }

/-! ### The fence (R366, R368, R370, R371) -/

/-- Who asks for an access. -/
inductive LReq
  | core (d c : Nat) (tack : Bool)
  | tier (d ch : Nat)
  | bar2
  deriving DecidableEq, Repr

/-- Bundle staging holds the staging region: from LOAD on (R366), until the bundle is LOADED (R85). -/
def State.staging (s : State) : Bool := s.get BOOT_STATUS_BUNDLE != 0 && s.get BOOT_STATUS_BUNDLE != 4

/-- The KIND of memory in R376, as R370 divides it. -/
def State.memKind (s : State) (m : LMem) (a n : Nat) : Nat :=
  match m with
  | .sram d c => if d = 0 ∧ c < 16 then 1 else 2
  | .sys => 3
  | .ddr 0 => if s.staging ∧ a < ddrBase + 0x10000000 ∧ 0 < n then 5 else 4
  | _ => 4

/-- The table of R370. -/
def LReq.may (r : LReq) (kind : Nat) : Bool :=
  match r with
  | .core d c tack =>
    if d = 0 ∧ c < 16 then kind == 1 || kind == 3
    else if tack then kind == 2 || kind == 3
    else kind == 2 || kind == 4
  | .tier _ ch => kind == 4 || (ch == 0 && kind == 3)
  | .bar2 => kind == 4

/-- Whether bytes lie in the destination of a running tiering copy (R368). -/
def State.tierFenced (s : State) (a n : Nat) : Bool :=
  s.lks.tiers.any fun t => t.active && decide (a < t.dst + t.len) && decide (t.dst < a + n)

/-- Whether an access is refused, with the KIND it is refused under. -/
def State.refusedAt (s : State) (r : LReq) (m : LMem) (a n : Nat) : Option Nat :=
  let k := s.memKind m a n
  if !r.may k || s.tierFenced a n then some k else none

/-- An F0 record that no code of R417 names, from the Larkspur domain (R437): measured value, threshold, index. -/
def State.lksNote (s : State) (m t : Int) (idx : Nat) : State :=
  s.record kFault 1 6 0 idx 0 false (leBytesI 4 m ++ leBytesI 4 t ++ leBytes 1 idx ++ leBytes 1 s.shelf ++ zeros 2)

/-- The die that records a refusal, and its SOURCE (R376). -/
def LReq.die : LReq → Nat
  | .core d _ _ => d
  | .tier d _ => d
  | .bar2 => 0
def LReq.source : LReq → Nat
  | .core _ c _ => c
  | .tier _ ch => 0xF1 + ch
  | .bar2 => 0xF0

/-- A refused access: the capture, the count, FENCE with its vector, the F0 event (R371, R376). -/
def State.fenceHit (s : State) (r : LReq) (kind a : Nat) : State :=
  let d := r.die
  let s := if s.isSet (LKS_FENCE_ERR_VALID d) then s
    else ((((s.raiseBit (LKS_FENCE_ERR_VALID d) (246 + d)).set (LKS_FENCE_ERR_SOURCE d) r.source).set (LKS_FENCE_ERR_KIND d) kind).wrN
      (LKS_FENCE_ADDR_LO d) a).wrN (LKS_FENCE_ADDR_HI d) (a / 0x100000000 % 65536)
  ((s.bumpSat (LKS_FENCE_ERR_COUNT d) 1).raiseBit (LKS_DIE_STATUS_FENCE d) (246 + d)).lksNote
    (signedOf 32 a) (signedOf 32 (a / 0x100000000)) r.source

/-! ### Core states (R373) -/

def cRet : Nat := 0
def cWaking : Nat := 1
def cIdle : Nat := 2
def cRun : Nat := 3
def cDrain : Nat := 4
def cSusp : Nat := 5
def cCopy : Nat := 6
def cFailed : Nat := 7

/-- A logical core's state. -/
def State.coreSt (s : State) (d c : Nat) : Nat := s.get (LKS_CORE_STATE d c)

/-- What a core's register does not show. -/
def State.core (s : State) (d c : Nat) : LCore := s.lks.cores.getD (64 * d + c) {}
def State.setCore (s : State) (d c : Nat) (x : LCore) : State :=
  { s with lks := { s.lks with cores := s.lks.cores.set (64 * d + c) x } }

/-- The CLK_EN bit of the domain that clocks a core (R118). -/
def coreDomain (d c : Nat) : Nat := if d = 1 then 14 else if c < 16 then 12 else 13

/-- The cores of a Larkspur domain: die and logical core. -/
def domainCores (b : Nat) : List (Nat × Nat) :=
  if b = 12 then (List.range 16).map fun c => (0, c)
  else if b = 13 then (List.range 48).map fun c => (0, 16 + c)
  else if b = 14 then (List.range 64).map fun c => (1, c)
  else []

/-- CORES_RET and CORES_RUN (R376). -/
def State.showCores (s : State) (d : Nat) : State :=
  let n := fun (f : Nat → Bool) => ((List.range 64).filter fun c => f (s.coreSt d c)).length
  (s.set (LKS_DIE_STATUS_CORES_RET d) (n fun x => x == cRet || x == cSusp)).set (LKS_DIE_STATUS_CORES_RUN d)
    (n fun x => x == cIdle || x == cRun)

/-- Move a core to a state: outside RUN and SUSPENDED no thread is counted (R373, R377). -/
def State.coreTo (s : State) (d c st : Nat) : State :=
  let s := s.setCore d c { s.core d c with since := s.elapsed }
  let s := if st = cRun ∨ st = cSusp ∨ st = cDrain then s else s.set (LKS_CORE_THREADS d c) 0
  (s.set (LKS_CORE_STATE d c) st).showCores d

/-- PWR_STATUS.FCST_AWAKE: the forecast partition is clocked (R122). -/
def State.showAwake (s : State) : State :=
  s.setB PWR_STATUS_FCST_AWAKE (bitOf (s.rdN CLK_GATE_EFF) 12 && (List.range 16).any fun c =>
    s.coreSt 0 c == cIdle || s.coreSt 0 c == cRun)

/-- The core gate opens (R392): with the domain open a core in RETENTION starts to wake. -/
def State.openCore (s : State) (d c : Nat) : State :=
  let s := (s.setCore d c { s.core d c with gate := true }).latchWake (2 ^ coreDomain d c)
  if s.coreSt d c = cRet ∧ bitOf (s.rdN CLK_GATE_EFF) (coreDomain d c) then s.coreTo d c cWaking else s

/-- A core's gate is requested closed (R373, R392): IDLE and RUN drain; a WAKING core does so once it is IDLE. -/
def State.closeCore (s : State) (d c : Nat) : State :=
  let s := s.setCore d c { s.core d c with gate := false }
  if s.coreSt d c = cIdle ∨ s.coreSt d c = cRun then s.coreTo d c cDrain else s

/-! ### The forecast partition stops (R372) -/

/-- The forecast runtime stops: MODEL streams write nothing further and 0x0707 is raised (R27, R372, R417). -/
def State.forecastStop (s : State) : State :=
  if !s.fcst.model then s else ({ s with fcst := { s.fcst with model := false } }).raise 0x0707 0 0 0

/-- An uncorrectable error is found or consumed: UE with its vector, the count, 0x0607 (R376, R417). -/
def State.uncorrectable (s : State) (d : Nat) : State :=
  ((s.bumpSat (LKS_ECC_UE d) 1).raiseBit (LKS_DIE_STATUS_UE d) (246 + d)).raise 0x0607 d 0 0

end Sys2Proof.Machine
end

