-- ==== Sys2Proof/Machine/Rein.lean ====
section
/-! DEFINITION. Rein (R181 to R215): scaling, sections, cascades, the split of the total command, L1 and
the rectifiers, register writes with their refusals, following error, relay auto-tune. Signals are raw
Q1.31 integers. -/

namespace Sys2Proof.Machine

/-! ### Scaling (R181) -/

/-- Saturate to Q1.31. -/
def sat31 (x : Int) : Int := clampI (-(2 ^ 31)) (2 ^ 31 - 1) x

/-- A physical quantity as a fraction of its full scale. -/
def q31 (x full : Rat) : Int := sat31 (roundRat (x * 2 ^ 31 / full))

/-- A raw current as ampere. -/
def rawAmp (x : Int) : Rat := (x : Rat) * 8192 / 2 ^ 31

/-- A raw current in 0.1 A. -/
def rawDeciAmp (x : Int) : Int := roundRat (rawAmp x * 10)

/-- The value of a LINEAR11 word (R502). -/
def linear11 (w : Nat) : Rat :=
  let y : Rat := signedOf 11 w
  let n := signedOf 5 (w / 2048)
  if 0 ≤ n then y * 2 ^ n.toNat else y / 2 ^ (-n).toNat

/-- The LINEAR11 encoding of a value from exponent N on, `k` exponents left to try (R502). -/
def linear11From (x : Rat) : Nat → Int → Nat
  | 0, _ => 0x7BFF
  | k + 1, n =>
    let y := roundRat (if 0 ≤ n then x / 2 ^ n.toNat else x * 2 ^ (-n).toNat)
    if -1024 ≤ y ∧ y ≤ 1023 then (y % 2048).toNat + 2048 * (n % 32).toNat else linear11From x k (n + 1)

/-- The LINEAR11 encoding of a value (R502). -/
def toLinear11 (x : Rat) : Nat := if x = 0 then 0 else linear11From x 32 (-16)

/-! ### Measurements -/

/-- Whether rectifier r is lost (R56). -/
def State.rectLost (s : State) (r : Nat) : Bool := bitOf (s.get REIN_L1_STATUS_LOST) r

/-- The rectifiers not lost. -/
def State.rects (s : State) : List Nat := (List.range 6).filter fun r => !s.rectLost r

/-- The sum of the latest READ_IOUT of the rectifiers not lost, in ampere (R185). -/
def State.rectAmps (s : State) : Rat := s.rects.foldl (fun a r => a + linear11 (s.rein.iout.getD r 0)) 0

/-- The measured grid draw in watt (MEAS_SEL 0x4). -/
def State.gridWatt (s : State) : Rat := s.rectAmps * s.meas.vbus / 100

/-- A string's power at the cells' side of the phases, in watt (MEAS_SEL 0x7). -/
def State.strWatt (s : State) (x : Nat) : Rat := ((s.meas.istr.getD x 0 : Int) : Rat) / 10 * ((s.meas.vstr.getD x 0 : Nat) : Rat) / 100

/-- The measurement of a MEAS_SEL code (R185). -/
def State.measure (s : State) (sel : Nat) : Int :=
  if sel = 1 then q31 s.meas.vbus 10000
  else if sel = 2 then q31 s.meas.vnode 10000
  else if sel = 3 then q31 s.meas.isum 81920
  else if sel = 4 then q31 s.gridWatt 400000
  else if sel = 5 then q31 (s.get EST_SOC_SHELF_SOC) 10000
  else if sel = 6 then q31 ((s.get EST_SOC_B : Int) - s.get EST_SOC_A : Int) 10000
  else if sel = 7 then q31 (s.strWatt 0 - s.strWatt 1) 400000
  else if 8 ≤ sel ∧ sel < 12 then s.rdI (REIN_SIG (sel - 8))
  else 0

/-! ### Sections and banks (R182 to R184) -/

/-- The slots of a bank, below its length. -/
def State.bankSlots (s : State) (c bank : Nat) : List Nat :=
  let w0 := s.rdN (if bank = 0 then REIN_CAS_MAP_A0 c else REIN_CAS_MAP_B0 c)
  let w1 := s.rdN (if bank = 0 then REIN_CAS_MAP_A1 c else REIN_CAS_MAP_B1 c)
  let n := s.get (if bank = 0 then REIN_CAS_CTRL_LEN_A c else REIN_CAS_CTRL_LEN_B c)
  (((List.range 4).map fun i => w0 / 256 ^ i % 64) ++ ((List.range 4).map fun i => w1 / 256 ^ i % 64)).take n

/-- The bank in effect. -/
def State.bankInUse (s : State) (c : Nat) : Nat := s.get (REIN_CAS_STATUS_BANK_IN_USE c)

/-- Show which sections stand in a map, and where (R215). -/
def State.showSections (s : State) : State :=
  let uses := ((List.range 8).map fun c => (List.range 2).map fun b => (s.bankSlots c b).map fun k => (k, c, b)).flatten.flatten
  forN 64 (fun k t =>
    let l := uses.filter (·.1 == k)
    let act := l.filter fun u => t.bankInUse u.2.1 == u.2.2
    match (act ++ l).head? with
    | none => (((t.set (REIN_SEC_CFG_IN_USE k) 0).set (REIN_SEC_CFG_ACTIVE k) 0).set (REIN_SEC_CFG_BANK k) 0).set (REIN_SEC_CFG_CAS k) 0
    | some u => (((t.set (REIN_SEC_CFG_IN_USE k) 1).setB (REIN_SEC_CFG_ACTIVE k) (!act.isEmpty)).set (REIN_SEC_CFG_BANK k) u.2.2).set
        (REIN_SEC_CFG_CAS k) u.2.1) s

/-- One section on one input: its output, and whether it saturated (R182, R183). -/
def State.section (s : State) (k : Nat) (x : Int) : Int × Bool :=
  let acc := s.rdI (REIN_SEC_B0 k) * x + s.rdI (REIN_SEC_B1 k) * s.rdI (REIN_SEC_X1 k) + s.rdI (REIN_SEC_B2 k) * s.rdI (REIN_SEC_X2 k)
    - s.rdI (REIN_SEC_A1 k) * s.rdI (REIN_SEC_Y1 k) - s.rdI (REIN_SEC_A2 k) * s.rdI (REIN_SEC_Y2 k)
  let y := roundDiv acc (2 ^ (31 - s.get (REIN_SEC_CFG_SHIFT k)))
  (sat31 y, sat31 y != y)

/-- The chain of a bank: its output, and for each section its input and output (R184). -/
def State.chain (s : State) : List Nat → Int → Int × List (Nat × Int × Int × Bool)
  | [], x => (x, [])
  | k :: t, x =>
    let (y, sat) := s.section k x
    let (z, l) := s.chain t y
    (z, (k, x, y, sat) :: l)

/-- Move a section's states by one sample. -/
def State.advance (s : State) (k : Nat) (x y : Int) : State :=
  (((s.wr (REIN_SEC_X2 k) (s.rd (REIN_SEC_X1 k))).wrI (REIN_SEC_X1 k) x).wr (REIN_SEC_Y2 k) (s.rd (REIN_SEC_Y1 k))).wrI
    (REIN_SEC_Y1 k) y

/-- Copy the four states of a section to another, or clear them. -/
def State.copySection (s : State) (k : Nat) (src : Option Nat) : State :=
  let v := fun (f : Nat → Nat) => match src with
    | some j => s.rd (f j)
    | none => (0 : Word)
  (((s.wr (REIN_SEC_X1 k) (v REIN_SEC_X1)).wr (REIN_SEC_X2 k) (v REIN_SEC_X2)).wr (REIN_SEC_Y1 k) (v REIN_SEC_Y1)).wr
    (REIN_SEC_Y2 k) (v REIN_SEC_Y2)

/-- A bank switch takes effect at a due sample (R204). -/
def State.takeBank (s : State) (c : Nat) : State :=
  let b := s.get (REIN_CAS_CTRL_BANK_SEL c)
  if b = s.bankInUse c then s
  else
    let old := s.bankSlots c (s.bankInUse c)
    let s1 := if s.isSet (REIN_CAS_CTRL_INIT_COPY c) then
        let news := s.bankSlots c b
        let srcs := (List.range news.length).map fun i => (news.getD i 0, old[i]?.map fun j =>
          (s.rd (REIN_SEC_X1 j), s.rd (REIN_SEC_X2 j), s.rd (REIN_SEC_Y1 j), s.rd (REIN_SEC_Y2 j)))
        forL srcs (fun p t =>
          let v := p.2.getD (0, 0, 0, 0)
          (((t.wr (REIN_SEC_X1 p.1) v.1).wr (REIN_SEC_X2 p.1) v.2.1).wr (REIN_SEC_Y1 p.1) v.2.2.1).wr (REIN_SEC_Y2 p.1) v.2.2.2) s
      else s
    (s1.set (REIN_CAS_STATUS_BANK_IN_USE c) b).showSections

/-! ### Cascades (R185 to R188, R198 to R206) -/

/-- A cascade's destination and state. -/
def State.casDest (s : State) (c : Nat) : Nat := s.get (REIN_CAS_SRC_DEST_SEL c)
def State.casSt (s : State) (c : Nat) : Nat := s.get (REIN_CAS_STATUS_STATE c)

/-- The sum of the outputs of a destination, over the cascades that run. -/
def State.outSum (s : State) (dest : Nat) : Int :=
  (List.range 8).foldl (fun a c => if s.casDest c = dest ∧ s.casSt c ≠ 0 then a + s.rdI (REIN_CAS_OUT c) else a) 0

/-- The cascade of a destination. -/
def State.casOf (s : State) (dest : Nat) : Option Nat := (List.range 8).find? fun c => s.casDest c == dest

/-- The measured value of a destination (R198). -/
def State.destMeasured (s : State) (dest : Nat) : Int :=
  if dest = 1 ∨ dest = 6 then q31 s.meas.isum 81920 else if dest = 4 then q31 s.rectAmps 8192 else 0

/-- The stop value of a destination (R185): for 0x4 the HANDOVER_LIMIT times the rectifiers not lost. -/
def State.stopValue (s : State) (dest : Nat) (out : Int) : Int :=
  if dest = 4 then
    match s.profileRec 0x000B with
    | some l => q31 (linear11 (leAt l 0 2) * s.rects.length) 8192
    | none => out
  else 0

/-- A power ramp of so many kW per due sample, raw. -/
def kwRaw (kw : Rat) : Int := roundRat (kw * 2 ^ 31 / 400)

/-- The set-point a cascade's SP_EFF moves to, with the sum of the DEST 0x3 outputs (R185, R189, R234, R327). -/
def State.casTarget (s : State) (c : Nat) (b3 : Int) : Int :=
  if s.casDest c = 4 ∧ s.isSet FCST_STATUS_HR_REQ then q31 (s.getI FCST_HR_TARGET_G_HR) 4000
  else if s.isSet (REIN_CAS_SRC_SP_SRC c) then sat31 (q31 (s.rdI FAB_TARGET) 40000 + b3)
  else s.rdI (REIN_CAS_SETPOINT c)

/-- The step of SP_EFF per due sample (R198, R234, R327, R328). -/
def State.casRamp (s : State) (c : Nat) : Int :=
  if s.casDest c = 4 ∧ s.isSet FCST_STATUS_HR_REQ then kwRaw (s.get FCST_HR_CFG_HR_RAMP)
  else if s.casDest c = 4 ∧ s.isSet FAB_STATUS_ABSORBING then kwRaw (s.get FAB_ABS_CFG_ABS_RAMP)
  else if s.isSet (REIN_CAS_SRC_SP_SRC c) && s.get FAB_STATUS_TGT_SRC == 3 then
    max 1 (kwRaw ((s.profileAt 0x000A 2 2 30 : Nat) * (s.get (REIN_CAS_CTRL_RATE_DIV c) + 1 : Nat) / 1000000))
  else max 1 (s.rdN (REIN_CAS_RAMP c) : Int)

/-- L1's suspension holds the DEST 0x4 cascade (R197). -/
def State.suspended (s : State) (c : Nat) : Bool := s.casDest c == 4 && s.isSet REIN_L1_STATUS_SUSPENDED

/-- A cascade starts (R198). -/
def State.casStart (s : State) (c : Nat) : State :=
  let m := s.measure (s.get (REIN_CAS_SRC_MEAS_SEL c))
  let d := s.destMeasured (s.casDest c)
  let s := forL (s.bankSlots c (s.bankInUse c)) (fun k t => t.copySection k none) s
  let s := { s with rein := { s.rein with
    restart := s.rein.restart.filter (· != c), fe := s.rein.fe.set c 0, tripped := s.rein.tripped.set c false } }
  (((s.wrI (REIN_CAS_SP_EFF c) m).wrI (REIN_CAS_OUT_BASE c) d).wrI (REIN_CAS_OUT c) d).set (REIN_CAS_STATUS_STATE c) 1

/-- A cascade is to start under R198 at its next sample: STARTING now. -/
def State.casBegin (s : State) (c : Nat) : State :=
  { s with rein := { s.rein with restart := addOnce s.rein.restart c } }.set (REIN_CAS_STATUS_STATE c) 1

/-- SP_EFF moves towards the set-point, and STARTING ends there (R198, R200). An absorption ends there too (R328). -/
def State.casSetpoint (s : State) (c : Nat) (b3 : Int) : State :=
  let t := s.casTarget c b3
  let sp := towards (s.rdI (REIN_CAS_SP_EFF c)) t (s.casRamp c)
  let s := s.wrI (REIN_CAS_SP_EFF c) sp
  let s := if s.casSt c = 1 ∧ sp = t then s.set (REIN_CAS_STATUS_STATE c) 2 else s
  if s.casDest c = 4 ∧ !s.isSet FCST_STATUS_HR_REQ ∧ sp = t then s.clear FAB_STATUS_ABSORBING else s

/-- The following-error timer counts a due sample (R206). -/
def State.casFe (s : State) (c : Nat) (m : Int) : State :=
  let lim := s.rdN (REIN_CAS_FE_LIMIT c)
  if lim = 0 ∨ s.get (REIN_CAS_FE_CFG_FE_TIME c) = 0 ∨ s.isSet (REIN_CAS_STATUS_TUNING c) then s
  else
    let far := decide (lim < (s.rdI (REIN_CAS_SP_EFF c) - m).natAbs)
    let n := if far then min (s.rein.fe.getD c 0 + 1) 0xFFFFFF else 0
    { s with rein := { s.rein with
        fe := s.rein.fe.set c n, tripped := if far then s.rein.tripped else s.rein.tripped.set c false } }.set
      (REIN_CAS_STATUS_FE_COUNT c) (min n 4095)

/-- L1's output moves by at most its rate per update (R197). -/
def State.l1Rate (s : State) : Nat :=
  if s.isSet FCST_STATUS_HR_REQ || s.isSet FAB_STATUS_ABSORBING then s.get REIN_L1_CFG_FAST_RATE
  else max 1 (s.get REIN_L1_CFG_NORM_RATE)

/-- The output of a running cascade: chain, base, clamp, freeze (R187). -/
def State.casOutput (s : State) (c : Nat) (b5 m : Int) : State :=
  let e := sat31 (s.rdI (REIN_CAS_SP_EFF c) + b5 - m)
  let slots := s.bankSlots c (s.bankInUse c)
  let (y, l) := if slots.isEmpty then (0, []) else s.chain slots e
  let raw := sat31 (s.rdI (REIN_CAS_OUT_BASE c) + y)
  let lo := s.rdI (REIN_CAS_OUT_MIN c)
  let hi := s.rdI (REIN_CAS_OUT_MAX c)
  let fhi := decide (hi < raw ∧ 0 < e)
  let flo := decide (raw < lo ∧ e < 0)
  let s := if l.any (·.2.2.2) then
      forL (l.filter (·.2.2.2)) (fun p t => t.set (REIN_SEC_CFG_SAT p.1) 1) (s.set (REIN_CAS_STATUS_SAT c) 1)
    else s
  let s := if fhi || flo then s else forL l (fun p t => t.advance p.1 p.2.1 p.2.2.1) s
  let out := clampI lo hi raw
  let prev := s.rdI (REIN_CAS_OUT c)
  let r := q31 s.l1Rate 8192
  let out := if s.casDest c = 4 then clampI (prev - r) (prev + r) out else out
  let s := ((s.setB (REIN_CAS_STATUS_CLAMP_HI c) fhi).setB (REIN_CAS_STATUS_CLAMP_LO c) flo).wrI (REIN_CAS_OUT c) out
  if fhi || flo then s.set (REIN_CAS_STATUS_CLAMP c) 1 else s

/-- A stopping cascade's output moves to its stop value; there it is OFF (R199, R200). The HANDOVER_LIMIT that L1's output has
reached goes to the rectifiers in the next slot (R97, R511). -/
def State.casStopping (s : State) (c : Nat) : State :=
  let out := s.rdI (REIN_CAS_OUT c)
  let stop := s.stopValue (s.casDest c) out
  let out := towards out stop (max 1 (s.rdN (REIN_CAS_RAMP c) : Int))
  let s := ((s.wrI (REIN_CAS_OUT c) out).clear (REIN_CAS_STATUS_CLAMP_HI c)).clear (REIN_CAS_STATUS_CLAMP_LO c)
  if out ≠ stop then s
  else if s.casDest c = 4 ∧ (s.profileRec 0x000B).isSome then { s with rein := { s.rein with handover := some out } }.casOff c
  else s.casOff c

/-! ### Relay auto-tune (R208 to R211) -/

/-- 0.3 V, the target amplitude for DEST 0x1 and 0x6, raw (R209). -/
def tuneTarget : Int := 6442451

/-- Whether a tune's amplitude is steered to 0.3 V. -/
def State.tuneVolt (s : State) (t : Tune) : Bool := s.casDest t.cas == 1 || s.casDest t.cas == 6

/-- The amplitude a tune aims at: 0.3 V, or what its last cycle gave. -/
def State.tuneAim (s : State) (t : Tune) : Int := if s.tuneVolt t then tuneTarget else t.amp

/-- The smallest scale at which every coefficient of the suggestion fits (R210). -/
def sugShift (b0 b1 : Rat) : Nat → Option Nat
  | 0 => none
  | k + 1 =>
    let n := 7 - k
    let fits := fun (x : Rat) => decide (-1 ≤ x / 2 ^ n ∧ x / 2 ^ n < 1)
    if fits b0 && fits b1 then some n else sugShift b0 b1 k

/-- A tune completes: Ku, Tu, the final h, the suggestion; the cascade restarts (R209, R210). DESIGN CHOICE (log 70): h is
as scaled after the last measured cycle. -/
def State.tuneDone (s : State) (t : Tune) : State :=
  let a : Rat := quot t.amps t.measured
  let tu : Rat := quot t.periods t.measured
  let ku : Rat := quot (4 * t.h) (piRat * a)
  let kp := ku * 45 / 100
  let half := quot ((s.get (REIN_CAS_CTRL_RATE_DIV t.cas) + 1 : Nat) * 100) (2 * tu / (12 / 10))
  let b0 := kp * (1 + half)
  let b1 := -(kp * (1 - half))
  let sh := sugShift b0 b1 8
  let raw := fun (x : Rat) => sat31 (roundRat (x * 2 ^ 31 / 2 ^ (sh.getD 0)))
  let amps := s.casDest t.cas != 3 && s.casDest t.cas != 5
  let s := { s with rein := { s.rein with tune := none, restart := addOnce s.rein.restart t.cas } }
  let s := (s.set (REIN_CAS_STATUS_STATE t.cas) 1).clear (REIN_CAS_STATUS_TUNING t.cas)
  let s := ((s.wrN REIN_TUNE_KU (min 0xFFFFFFFF (roundRat (ku * 65536)).toNat)).wrN REIN_TUNE_TU (roundRat tu).toNat).wrN
    REIN_TUNE_H (if amps then (rawDeciAmp t.h).toNat else (roundRat ((t.h : Rat) * 400000 / 2 ^ 31)).toNat)
  let s := if sh.isSome then
      ((((s.wrI REIN_TUNE_SUG_B0 (raw b0)).wrI REIN_TUNE_SUG_B1 (raw b1)).wr REIN_TUNE_SUG_B2 0).wrI REIN_TUNE_SUG_A1 (raw (-1))).wr
        REIN_TUNE_SUG_A2 0
    else s
  let s := (s.setB REIN_TUNE_SUG_SHIFT_SUG_VALID sh.isSome).set REIN_TUNE_SUG_SHIFT_SUG_SHIFT (sh.getD 0)
  ((s.set REIN_TUNE_STATUS_STATE 4).set REIN_TUNE_STATUS_CAUSE 0).raiseBit REIN_TUNE_STATUS_DONE 234

/-- A full relay cycle ends: its amplitude, h, settling and measuring (R209, R211). -/
def State.tuneCycle (s : State) (t : Tune) (now : Nat) (m : Int) : State :=
  let a := ((t.hi - t.lo) / 2).toNat
  let period := now - t.lastUp.getD now
  let volt := s.tuneVolt t
  let inBand := decide (9 * tuneTarget ≤ 10 * (a : Int) ∧ 10 * (a : Int) ≤ 11 * tuneTarget)
  let h := if volt then
      (clampI (q31 10 8192) (q31 1000 8192) (roundRat (quot ((t.h : Rat) * (tuneTarget : Rat)) a))).toNat
    else t.h
  let measuring := t.measuring
  let t := { t with
    hi := m, lo := m, amp := a, cycles := t.cycles + 1, good := if inBand then t.good + 1 else 0, h := h,
    anyGood := t.anyGood || inBand,
    lastUp := some now, up := some true,
    measured := if measuring then t.measured + 1 else 0, periods := if measuring then t.periods + period else 0,
    amps := if measuring then t.amps + a else 0 }
  let s := { s with rein := { s.rein with tune := some t } }
  if measuring then (if s.get REIN_TUNE_CTRL_CYCLES ≤ t.measured then s.tuneDone t else s)
  else if 2 ≤ t.cycles ∧ (!volt || 2 ≤ t.good) then
    { s with rein := { s.rein with tune := some { t with measuring := true } } }.set REIN_TUNE_STATUS_STATE 3
  else if 16 ≤ t.cycles ∧ volt ∧ !t.anyGood then s.tuneAbort 8
  else s

/-- The relay in one due sample (R209): it switches when the error crosses ±e_h. -/
def State.tuneSample (s : State) (t : Tune) (b5 m : Int) : State :=
  let e := sat31 (s.rdI (REIN_CAS_SP_EFF t.cas) + b5 - m)
  let aim := s.tuneAim t
  let t := { t with hi := max t.hi m, lo := min t.lo m }
  let s := { s with rein := { s.rein with tune := some t } }
  if aim ≠ 0 ∧ 4 * aim < (e.natAbs : Int) then s.tuneAbort 6
  else
    let s :=
      if aim < 10 * e ∧ t.up ≠ some true then
        if t.lastUp.isSome then s.tuneCycle t s.elapsed m
        else { s with rein := { s.rein with tune := some { t with up := some true, lastUp := some s.elapsed, hi := m, lo := m } } }
      else if 10 * e < -aim ∧ t.up ≠ some false then { s with rein := { s.rein with tune := some { t with up := some false } } }
      else s
    match s.rein.tune with
    | none => s
    | some u =>
      s.wrI (REIN_CAS_OUT u.cas) (sat31 (match u.up with
        | none => u.u0
        | some true => u.u0 + u.h
        | some false => u.u0 - u.h))

/-- h at the start of a tune (R209): 50 A, or 2 kW in the output's unit at VNODE; the spec gives no such
conversion for DEST 0x5 (log 2). -/
def State.tuneStep (s : State) (dest : Nat) : Nat :=
  if dest = 1 ∨ dest = 6 then (q31 50 8192).toNat
  else if dest = 3 then (q31 2 400).toNat
  else if dest = 5 then Config.freeNat s.free
  else (q31 (quot 200000 s.meas.vnode) 8192).toNat

/-- A tune starts (R209). -/
def State.tuneBegin (s : State) (c : Nat) : State :=
  let m := s.measure (s.get (REIN_CAS_SRC_MEAS_SEL c))
  let t : Tune := { cas := c, u0 := s.rdI (REIN_CAS_OUT c), h := s.tuneStep (s.casDest c), start := s.elapsed, hi := m, lo := m }
  let s := { s with free := s.free + 1, rein := { s.rein with
    tune := some t, tunePending := none, fe := s.rein.fe.set c 0, tripped := s.rein.tripped.set c false } }
  ((((s.set (REIN_CAS_STATUS_TUNING c) 1).set (REIN_CAS_STATUS_FE_COUNT c) 0).set REIN_TUNE_STATUS_STATE 2).set
    REIN_TUNE_STATUS_CAUSE 0).set REIN_TUNE_STATUS_LOOP c

/-- A START is refused (R208, R211). -/
def State.tuneRefuse (s : State) (cause : Nat) : State :=
  ((s.clear REIN_TUNE_CTRL_START).set REIN_TUNE_STATUS_STATE 6).set REIN_TUNE_STATUS_CAUSE cause

/-- A tune's time limit in ticks: 2 s for a 1 MHz cascade, 30 s otherwise (R211). -/
def State.tuneLimit (s : State) (c : Nat) : Nat :=
  if s.get (REIN_CAS_CTRL_RATE_DIV c) = 0 then 2 * tickS else 30 * tickS

/-- START of the tune of a loop (R208). DESIGN CHOICE (log 70): a START during a tune, or while another is PENDING, is refused
with CAUSE 9. -/
def State.tuneStart (s : State) (c : Nat) : State :=
  let s := s.clear REIN_TUNE_CTRL_START
  if s.casDest c = 0 then s.tuneRefuse 10
  else if s.rein.tune.isSome || s.rein.tunePending.isSome then s.tuneRefuse 9
  else if s.shelf = stPassive then
    if s.isSet (REIN_CAS_CTRL_ENABLE c) || s.isSet (REIN_CAS_CTRL_AUTO_START c) then
      (({ s with rein := { s.rein with tunePending := some c } }.set REIN_TUNE_STATUS_STATE 1).set REIN_TUNE_STATUS_CAUSE 0).set
        REIN_TUNE_STATUS_LOOP c
    else s.tuneRefuse 10
  else if !s.inService then s.tuneRefuse 9
  else if s.casSt c ≠ 1 ∧ s.casSt c ≠ 2 then s.tuneRefuse 10
  else if s.isSet FCST_STATUS_QUIET && decide (s.now + s.tuneLimit c ≤ s.rd64 FCST_QUIET_END_LO FCST_QUIET_END_HI) then
    s.tuneBegin c
  else s.tuneRefuse 9

/-- The entry into ARMED starts a PENDING tune (R208). -/
def State.tuneAtArmed (s : State) : State :=
  match s.rein.tunePending with
  | none => s
  | some c =>
    let s := { s with rein := { s.rein with tunePending := none } }
    if s.casSt c = 1 ∨ s.casSt c = 2 then s.tuneBegin c else s.tuneRefuse 10

/-- TUNE_START (R208). -/
def execTuneStart (c : CasNo) (s : State) : Res := s.on fun s => .next ((s.set REIN_TUNE_CTRL_LOOP c).tuneStart c)

/-- TUNE_ABORT (R211): CAUSE 5. -/
def execTuneAbort (s : State) : Res := s.on fun s => .next ((s.clear REIN_TUNE_CTRL_ABORT).tuneAbort 5)

/-- TUNE_TIME_LIMIT (R211): CAUSE 7. -/
def execTuneTimeLimit (s : State) : Res := s.on fun s => .next (s.tuneAbort 7)

/-! ### One sample (R189 to R194) -/

/-- One due cascade in one sample; `s0` is the state at the end of the previous sample (R189). -/
def State.cascade (s0 : State) (c : Nat) (s : State) : State :=
  let s := s.takeBank c
  if s.casSt c = 0 then s
  else
    let s := if c ∈ s.rein.restart ∧ s.casSt c ≠ 3 then s.casStart c else s
    let tuned := s.isSet (REIN_CAS_STATUS_TUNING c)
    let s := s.setB (REIN_CAS_STATUS_HELD c)
      ((s.isSet (REIN_CAS_CTRL_HOLD c) || decide (c ∈ s.est.held)) && s.casSt c != 3 && !tuned)
    let s := if tuned then (s.clear (REIN_CAS_STATUS_CLAMP_HI c)).clear (REIN_CAS_STATUS_CLAMP_LO c) else s
    if s.suspended c then s
    else
      let m := s.measure (s.get (REIN_CAS_SRC_MEAS_SEL c))
      let b5 := if s.casDest c = 1 then s0.outSum 5 else 0
      let s := (s.casSetpoint c (s0.outSum 3)).casFe c m
      match s.rein.tune with
      | some t =>
        if t.cas = c then s.tuneSample t b5 m
        else if s.casSt c = 3 then s.casStopping c
        else if s.isSet (REIN_CAS_STATUS_HELD c) then s
        else s.casOutput c b5 m
      | none =>
        if s.casSt c = 3 then s.casStopping c
        else if s.isSet (REIN_CAS_STATUS_HELD c) then s
        else s.casOutput c b5 m

/-- A cascade is due in the sample of this shelf time (R188). -/
def State.casDue (s : State) (c : Nat) : Bool := s.now / 100 % (s.get (REIN_CAS_CTRL_RATE_DIV c) + 1) == 0

/-- The due cascades in index order. -/
def State.cascades (s : State) : State := forN 8 (fun c t => if t.casDue c then s.cascade c t else t) s

/-- The lowest of the fractions that bound the rating (R430): STOR_PCT, the strings' fractions under
0x0207 averaged, and one half for a string out of service or resting. -/
def State.ratingFrac (s : State) : Rat :=
  let a : Rat := (s.get BRD_COOL_STOR_PCT : Rat) / 100
  let b : Rat := ((s.brd.stringFrac.getD 0 48 + s.brd.stringFrac.getD 1 48 : Nat) : Rat) / 96
  let rest := s.get EST_REST_STATUS_STATE == 1 || s.get EST_REST_STATUS_STATE == 2
  let c : Rat := if rest || !s.brd.strOut.isEmpty then 1 / 2 else 1
  min a (min b c)

/-- The feed-forward of a storage power in 0.1 kW, raw current (R190). -/
def State.ffRaw (s : State) (pff : Int) : Int :=
  q31 (quot ((s.rdN REIN_FF_GAIN : Rat) / 2 ^ 31 * pff * 100) ((s.meas.vnode : Rat) / 100)) 8192

/-- I_ff in this sample (R190): 0 without FF_EN, outside ARMED and DERATED, in a disarm, without a sample. -/
def State.iff (s : State) : Int :=
  if s.isSet REIN_CTRL_FF_EN && s.inService && !s.boot.disarming then
    match s.fcst.window.find? (·.step == s.now / 1000) with
    | some p => s.ffRaw p.pff
    | none => 0
  else 0

/-- The change of I_ff at a rebase moves into OUT_BASE of the DEST 0x1 cascade (R236). -/
def State.rebaseTransfer (s : State) : State :=
  match s.fcst.rebase.find? fun p => p.1 ≤ s.now / 1000 with
  | none => s
  | some (_, old) =>
    let d := s.iff - (if s.isSet REIN_CTRL_FF_EN && s.inService && !s.boot.disarming then s.ffRaw old else 0)
    let s := { s with fcst := { s.fcst with rebase := s.fcst.rebase.filter fun p => s.now / 1000 < p.1 } }
    match s.casOf 1 with
    | some c => s.wrI (REIN_CAS_OUT_BASE c) (sat31 (s.rdI (REIN_CAS_OUT_BASE c) - d))
    | none => s

/-- A string's active count: one for each RUN or RESTARTING channel, the remaining fraction of each
SHEDDING channel (R191). -/
def State.activeCount (s : State) (x : Nat) : Rat :=
  (stringChans x).foldl (fun a n =>
    if s.chSt n = chRun ∨ s.chSt n = chRestarting then a + 1
    else if s.chSt n = chShedding then a + min 1 (((s.chan n).shedLeft : Rat) / max 1 (s.shedGet HRN_SHED_CFG_SHED_RAMP : Rat))
    else a) 0

/-- Clamp a rational to ±a limit. -/
def clampR (lim x : Rat) : Rat := max (-lim) (min lim x)

/-- The strings' currents in ampere after the share, the offset and the spill, and what neither takes
(R191, R192): I_A, I_B, the current moved, the current not commanded. -/
def splitAmps (tot delta cA cB phMax : Rat) : Rat × Rat × Rat × Rat :=
  if cA + cB = 0 then (0, 0, 0, tot)
  else
    let iA := tot * cA / (cA + cB) + delta
    let iB := tot - iA
    let a := clampR (phMax * cA) iA
    let b := clampR (phMax * cB) iB
    let b' := clampR (phMax * cB) (b + (iA - a))
    let a' := clampR (phMax * cA) (a + (iB - b))
    (a', b', |b' - b| + |a' - a|, tot - a' - b')

/-- The peak offset in ampere of a group on a string, by direction (R193). -/
def State.peakOffset (s : State) (g x : Nat) (charge : Bool) : Rat :=
  let vb : Rat := (s.meas.vnode : Rat) / 100
  let vs : Rat := ((s.meas.vstr.getD x 0 : Nat) : Rat) / 100
  let t : Rat := (s.grpPeriod g : Rat) / 800
  let l : Rat := (s.get REIN_SPLIT_CFG_L_NH : Rat) / 100
  let duty := quot vb vs
  if charge then
    let ton := (1 - duty) * t
    quot vb l * ton / 2 + (s.get (HRN_GRP_SLOPE_SLOPE_CHG g) : Rat) / 20 * ton
  else
    let ton := duty * t
    quot (vs - vb) l * ton / 2 + (s.get (HRN_GRP_SLOPE_SLOPE_DIS g) : Rat) / 20 * ton

/-- The reference code of a group for a per-phase share, and whether it was held at 1,023 (R193). -/
def State.refCode (s : State) (g x : Nat) (share : Rat) : Int × Bool :=
  if share = 0 then (0, false)
  else
    let m := (if share < 0 then -share else share)
      + (if s.isSet REIN_CTRL_PEAK_COMP then s.peakOffset g x (decide (share < 0)) else 0)
    let k := roundRat (m * 10)
    let c := clampI 0 1023 k
    (if share < 0 then -c else c, decide (1023 < k))

/-- Deliver a reference to every channel of a group on a string. -/
def State.deliver (s : State) (l : List Nat) (ref : Int) : State :=
  forL l (fun n t => t.setChan n { t.chan n with ref := ref }) s

/-- Deliver the groups' references of a string: six groups and its half of G12 (R189, R193). -/
def State.deliverString (s : State) (x : Nat) (share : Rat) : State :=
  let l := (stringChans x)
  forL ((List.range 6).map (· + 6 * x) ++ [12]) (fun g t =>
    let (r, held) := t.refCode g x share
    let t := t.deliver (l.filter fun n => chanGroup n == g) r
    if held then t.raiseBit REIN_STATUS_REF_SAT 232 else t) s

/-- Current that neither string takes: UNSERVED, REIN_UNSERVED, and 0x0310 after 1 ms (R192, R417). -/
def State.unservedAmps (s : State) (u : Rat) : State :=
  let s := s.wrI REIN_UNSERVED (roundRat (u * 10))
  if u = 0 then ({ s with rein := { s.rein with unserved := 0 } }).unraise 0x0310 0
  else
    let n := min 1000 (s.rein.unserved + 1)
    let s := { s with rein := { s.rein with unserved := n } }.raiseBit REIN_STATUS_UNSERVED 232
    if n = 1000 then s.raise 0x0310 0 (roundRat (u * 10)) 0 else s

/-- A string command above STEP_A over the last one is a step event of its string (R153); one above
PH_GATE_A releases a substitution hold (R464). -/
def State.strStep (s : State) (x : Nat) (old new : Int) : State :=
  let rise : Int := (new.natAbs : Int) - old.natAbs
  let s := match s.hrn.phHold with
    | some (y, _) =>
      if y = x ∧ s.profileAt 0x000D 10 2 1000 * 2 ^ 31 < new.natAbs * 8192 then { s with hrn := { s.hrn with phHold := none } } else s
    | none => s
  if (s.shedGet HRN_SHED_STEP_STEP_A : Int) * 2 ^ 31 < rise * 8192 then s.stepEvent [x] else s

/-- A limit of REIN_TOT_LIMIT at the rating in effect, raw (R190, R430). -/
def State.totLimit (s : State) (f : Field) : Int := roundRat ((s.get f : Rat) * s.ratingFrac * 2 ^ 31 / 8192)

/-- The total command of this sample, before its clamp (R190). -/
def State.totalRaw (s : State) : Int := s.outSum 1 + s.outSum 6 + s.iff

/-- The total command after its clamp (R190). -/
def State.total (s : State) : Int :=
  clampI (-(s.totLimit REIN_TOT_LIMIT_TOT_NEG)) (s.totLimit REIN_TOT_LIMIT_TOT_POS) s.totalRaw

/-- Show the total command and I_ff; a clamp sets TOT_SAT (R190). -/
def State.showTotal (s : State) : State :=
  let t := if s.total = s.totalRaw then s else s.raiseBit REIN_STATUS_TOT_SAT 232
  (t.wrI REIN_CMD_TOT (rawDeciAmp s.total)).wrI REIN_FF_NOW (rawDeciAmp s.iff)

/-- The strings' currents of this sample (R191, R192). -/
def State.splitNow (s : State) : Rat × Rat × Rat × Rat :=
  splitAmps (rawAmp s.total) (rawAmp (s.outSum 2)) (s.activeCount 0) (s.activeCount 1) (s.get REIN_SPLIT_CFG_PH_MAX_A)

/-- An ampere value as raw current. -/
def ampRaw (a : Rat) : Int := roundRat (a * 2 ^ 31 / 8192)

/-- The share of each active phase of a string (R191). -/
def State.share (s : State) (x : Nat) (a : Rat) : Rat := if s.activeCount x = 0 then 0 else a / s.activeCount x

/-- Record the strings' commands, and deliver one share per phase (R191 to R193). -/
def State.giveShares (s : State) (a b : Rat) : State :=
  let s := (s.setI REIN_CMD_STR_A (roundRat a)).setI REIN_CMD_STR_B (roundRat b)
  let s := { s with hrn := { s.hrn with strCmd := [ampRaw a, ampRaw b] } }
  (s.deliverString 0 (s.share 0 a)).deliverString 1 (s.share 1 b)

/-- The strings take their currents, and a rise may be a step event (R153). -/
def State.giveStrings (s : State) (a b : Rat) : State :=
  ((s.giveShares a b).strStep 0 (s.hrn.strCmd.getD 0 0) (ampRaw a)).strStep 1 (s.hrn.strCmd.getD 1 0) (ampRaw b)

/-- The total command, its split and its delivery (R190 to R193). -/
def State.split (s : State) : State :=
  let r := s.splitNow
  let s := s.showTotal
  let s := if r.2.2.1 = 0 then s else s.raiseBit REIN_STATUS_SPILL 232
  (s.unservedAmps r.2.2.2).giveStrings r.1 r.2.1

/-- The references of the precharge step (R194): PRECHG_A while VNODE stays more than 0.5 V below VBUS; none in a disarm (R97). -/
def State.prechargeRefs (s : State) : State :=
  let r : Int := if s.meas.vnode + 50 < s.meas.vbus ∧ !s.boot.disarming then 10 * s.get REIN_SPLIT_CFG_PRECHG_A else 0
  s.deliver (List.range 104) r

/-- Storage power, W (R45). -/
def State.storWatt (s : State) : Rat := (s.meas.vnode : Rat) * s.meas.isum / 1000

/-- LOAD and GRID of the fabric frame take a sample; a new frame closes the one before (R319). -/
def State.frameMean (s : State) : State :=
  let f := s.now / 2000
  let b := s.fab
  let b := if b.accFrame = f then b else
    { b with
      prevLoad := if b.accN = 0 then 0 else b.accLoad / b.accN, prevGrid := if b.accN = 0 then 0 else b.accGrid / b.accN,
      accFrame := f, accLoad := 0, accGrid := 0, accN := 0 }
  { s with fab := { b with accLoad := b.accLoad + s.gridWatt + s.storWatt, accGrid := b.accGrid + s.gridWatt, accN := b.accN + 1 } }

/-- A channel's ISNS in a sample, 0.1 A: the previous one once more where its input has just moved (R469). -/
def State.sampled (s : State) (i : SampleIn) (n : Nat) : Int :=
  if s.meas.again = some n then s.meas.isns.getD n 0 else i.isns.getD n 0

/-- The measurements of a sample, with the group currents that a last-fault record keeps (R173, R189). -/
def State.capture (s : State) (i : SampleIn) : State :=
  let at_ := s.sampled i
  let sum := fun (l : List Nat) => l.foldl (fun a n => a + at_ n) 0
  let isum := sum (List.range 104)
  { s with
    meas := {
      vbus := i.vbus, vnode := i.vnode, vstr := [i.vstrA, i.vstrB], isum := isum,
      istr := [sum (stringChans 0), sum (stringChans 1)],
      hist := ((i.vnode, (List.range 13).map fun g => sum (groupChans g)) :: s.meas.hist).take 12,
      isns := (List.range 104).map at_ },
    fcst := { s.fcst with curSum := s.fcst.curSum + isum, curN := s.fcst.curN + 1 } }

/-! ### What the estimators take from a sample (R279, R289) -/

/-- i_s in mA: VNODE times the sum of I_AVG over the string's channels in service, by the string voltage (R279). -/
def State.strAmps (s : State) (x : Nat) : Rat :=
  let sum := ((stringChans x).filter fun n => s.get (HRN_CH_CTRL_ROLE n) == 1).foldl (fun (a : Int) n => a + s.getI (HRN_CH_MEAS_I_AVG n)) 0
  quot ((s.meas.vnode : Rat) * sum * 100) (s.meas.vstr.getD x 0 : Nat)

/-- A history of i_s cut behind a time: what still held there stays. -/
def histCut (t : Nat) (l : List (Nat × Rat)) : List (Nat × Rat) :=
  l.takeWhile (fun p => t < p.1) ++ (l.dropWhile fun p => t < p.1).take 1

/-- A sample of a string's current: the charge since the last one, taken up to monitor 0's instant once that is reached (R279). -/
def State.estSample (x : Nat) (s : State) : State :=
  let e := s.est.strs.getD x {}
  let t0 := (s.ring.strs.getD x {}).t0
  let i := s.strAmps x
  let prev := (e.hist.head?.map (·.2)).getD 0
  let acc := e.acc + prev * ((s.now - e.lastAt.getD s.now : Nat) : Rat)
  let reached := t0 + 100 ≤ s.now ∧ e.chargeTo ≠ t0
  let e := { e with
    hist := histCut (s.now - 300000) (if !e.hist.isEmpty && prev == i then e.hist else (s.now, i) :: e.hist), lastAt := some s.now,
    acc := if reached then 0 else acc, charge := if reached then e.charge + acc else e.charge,
    chargeTo := if reached then t0 else e.chargeTo }
  { s with est := { s.est with strs := s.est.strs.set x e } }

/-- What the estimators take from a sample: the strings' currents, and the storage power for the check of a rest. -/
def State.estTake (s : State) : State :=
  let s := State.estSample 1 (State.estSample 0 s)
  { s with est := { s.est with powSum := s.est.powSum + (s.meas.vnode * s.meas.isum).natAbs, powN := s.est.powN + 1 } }

/-- The telemetry rings of the system region hold 67,108,864 records each (R396). -/
def telRecords : Nat := 67108864

/-- The microsecond record of a sample (R397). -/
def State.usRec (s : State) : List Byte :=
  let amps := fun (x : Rat) => roundRat (4 * x)
  leBytes 4 s.now ++ leBytes 2 s.meas.vnode ++ leBytes 2 s.meas.vbus ++ leBytesI 2 (amps ((s.meas.isum : Rat) / 10))
    ++ leBytesI 2 (amps (rawAmp s.iff)) ++ leBytesI 2 (roundRat (s.gridWatt / 100))
    ++ leBytes 2 (s.lks.usBits ||| 8 * s.get FCST_STATUS_HR_REQ)

/-- The microsecond record goes to its ring while the commit runs and the module has its stack (R228, R396). -/
def State.telUs (s : State) : State :=
  if !s.fcst.running || s.dies == 0 then s
  else s.memPut (sysBase + 0x40000000 + 16 * (s.now / 100 % telRecords)) s.usRec

/-- TRACE: one sample of every 2^DECIM, twelve to a record, while TRACE_EN is 1 and the HRN domain is clocked (R440, R453). -/
def State.traceUs (s : State) : State :=
  if !s.isSet TEL_CTRL_TRACE_EN || !bitOf (s.rdN CLK_GATE_EFF) 7 then { s with sbg := { s.sbg with trace := [] } }
  else if s.now / 100 % 2 ^ s.get TEL_CTRL_DECIM ≠ 0 then s
  else
    let first := if s.sbg.trace.isEmpty then s.now else s.sbg.traceFirst
    let l := s.sbg.trace ++ [s.usRec]
    if l.length < 12 then { s with sbg := { s.sbg with trace := l, traceFirst := first } }
    else ({ s with sbg := { s.sbg with trace := [] } }).record kTrace 2 2 0 0 0 false (leBytes 4 first ++ l.flatten)

/-- Both, and the next record's events start afresh. -/
def State.sampleRecords (s : State) : State :=
  let s := s.telUs.traceUs
  { s with lks := { s.lks with usBits := 0 } }

/-- Bank switches of cascades that do not run take effect at their due samples too (R204). -/
def State.banks (s : State) : State := forN 8 (fun c t => if t.casDue c then t.takeBank c else t) s

/-- The orderly stop goes on (R97): with every other cascade OFF, L1 stops; with L1's last limits written, Harness sheds every
phase. A suspended L1 has no rectifier to write to and is OFF at once (log 24). -/
def State.disarmStep (s : State) : State :=
  if !s.boot.disarming || (List.range 8).any (fun c => s.casDest c != 4 && s.casSt c != 0) then s
  else
    match (List.range 8).find? fun c => s.casDest c == 4 && s.casSt c != 0 with
    | some c =>
      if s.isSet REIN_L1_STATUS_SUSPENDED then s.casOff c
      else if s.casSt c = 3 then s else s.set (REIN_CAS_STATUS_STATE c) 3
    | none =>
      if s.rein.handover.isSome || !s.rein.carried.isEmpty then s
      else (forN 104 (fun n t => if t.chSt n = chRun ∨ t.chSt n = chRestarting then t.beginShed n else t) s).afterChans

/-- While a swap waits, how long its string has had no channel in use and at most 2 A (R274). -/
def State.swapCalm (s : State) : State :=
  forN 2 (fun x t =>
    let r := t.ring.strs.getD x {}
    let put := fun (c : Option Nat) => { t with ring := { t.ring with strs := t.ring.strs.set x { r with calm := c } } }
    if t.get (RING_SWAP_STATE x) = 1 ∧ t.activeCount x = 0 ∧ (t.meas.istr.getD x 0).natAbs ≤ 20 then
      (if r.calm.isSome then t else put (some t.elapsed))
    else if r.calm.isSome then put none else t) s

/-- The first Rein sample after a phase switch releases the substitution hold (R464). -/
def State.holdFree (s : State) : State :=
  if s.get (RMT_KIND_STATE 0) = 3 then { s with hrn := { s.hrn with phHold := none } } else s

/-- REIN_SAMPLE (R189): measurements in every state; cascades and the split while the phases are in use. -/
def execReinSample (i : SampleIn) (s : State) : Res := s.on fun s =>
  let s := (s.capture i).frameMean.estTake.shedTake.holdFree
  let s := if s.precharging then s.prechargeRefs.banks
    else if s.shedding && !s.brd.ssOff then s.rebaseTransfer.cascades.split
    else if s.hrnClocked then s.banks else s
  .next s.disarmStep.swapCalm.sampleRecords

/-! ### Following error (R206, R419, R427) -/

/-- The timer of a cascade has expired: FE_TRIP shows, a tune ends (R206, R211). -/
def State.feTripped (s : State) (c : Nat) : State :=
  let s := { s with rein := { s.rein with tripped := s.rein.tripped.set c true } }
  ((s.raiseBit (REIN_CAS_STATUS_FE_TRIP c) 235).set REIN_STATUS_FE 1).tuneAbort 3

/-- The error of a cascade, raw (R206). -/
def State.feError (s : State) (c : Nat) : Int :=
  s.rdI (REIN_CAS_SP_EFF c) - s.measure (s.get (REIN_CAS_SRC_MEAS_SEL c))

/-- An F1 following error stops the cascade; its start waits the minimum off-time (R419). -/
def State.feRestart (s : State) (c : Nat) : State :=
  if s.casSt c = 1 ∨ s.casSt c = 2 then
    ((s.set (REIN_CAS_STATUS_STATE c) 3).set (REIN_CAS_STATUS_ENABLE_PENDING c) 1).set BRD_PENDING_CAS
      (bitPut (s.get BRD_PENDING_CAS) c true)
  else s

/-- The fault of an expired timer: the soft-start abort for L0 in its window, else the cascade's code (R206, R427). -/
def State.feFault (s : State) (c : Nat) : State :=
  if c == 0 && s.brd.ssWindow then s.softAbort 0x010B 0 (s.feError c) (s.rdN (REIN_CAS_FE_LIMIT c))
  else
    let t := s.raise (0x0300 + c) c (s.feError c) (s.rdN (REIN_CAS_FE_LIMIT c))
    if s.get (REIN_CAS_FE_CFG_FE_CLASS c) = 1 then t.feRestart c else t

/-- FOLLOWING_ERROR_TRIP: the count has reached FE_TIME (R206, R419, R427). -/
def execFollowingErrorTrip (c : CasNo) (s : State) : Res := s.on fun s =>
  if s.get (REIN_CAS_FE_CFG_FE_TIME c) = 0 ∨ s.rein.fe.getD c 0 < s.get (REIN_CAS_FE_CFG_FE_TIME c)
      ∨ s.rein.tripped.getD c false then .next s
  else .next ((s.feTripped c).feFault c)

/-! ### Enables, holds, banks (R200 to R205) -/

/-- Show whether a cascade's enable is pending (R426). -/
def State.casPending (s : State) (c : Nat) (b : Bool) : State :=
  (s.setB (REIN_CAS_STATUS_ENABLE_PENDING c) b).set BRD_PENDING_CAS (bitPut (s.get BRD_PENDING_CAS) c b)

/-- ENABLE of a cascade is written 1 (R200, R425). -/
def State.casEnable (s : State) (c : Nat) : State :=
  let s := s.set (REIN_CAS_CTRL_ENABLE c) 1
  if s.casSt c = 3 then s.casPending c true
  else if s.casSt c = 0 ∧ s.inService ∧ !s.boot.disarming then
    if s.tooSoon (s.rein.offAt.getD c none) then s.casPending c true else s.casBegin c
  else s

/-- ENABLE of a cascade is written 0 (R200, R201, R425): a tune of it aborts first. DEDUCED (log 29): a write of REIN_CAS_CTRL that
finds ENABLE at 0 and leaves it so stops nothing, since R205's bank switch writes that register of a cascade that
AUTO_START started. -/
def State.casDisable (s : State) (c : Nat) : State :=
  let s := (s.set (REIN_CAS_CTRL_ENABLE c) 0).casPending c false
  let s := match s.rein.tune with
    | some t => if t.cas = c then s.tuneAbort 5 else s
    | none => s
  if s.casSt c = 1 ∨ s.casSt c = 2 then s.set (REIN_CAS_STATUS_STATE c) 3 else s

/-- CASCADE_ENABLE (R200). -/
def execCascadeEnable (c : CasNo) (s : State) : Res := s.on fun s => .next (s.casEnable c)

/-- CASCADE_DISABLE (R200). -/
def execCascadeDisable (c : CasNo) (s : State) : Res := s.on fun s => .next (s.casDisable c)

/-- BANK_SWITCH (R204): BANK_SEL is written; the switch takes effect at the next due sample. -/
def execBankSwitch (c : CasNo) (b : Bool) (s : State) : Res := s.on fun s => .next (s.setB (REIN_CAS_CTRL_BANK_SEL c) b)

/-- A refused write of a cascade: REFUSED and the F0 event with the address (R203). -/
def State.casRefuse (s : State) (c addr value : Nat) : State :=
  (s.set (REIN_CAS_STATUS_REFUSED c) 1).refuse addr value

/-- HOLD of a cascade is written 1 (R205): refused for DEST 0x1 and 0x4 while armed. -/
def State.casHold (s : State) (c : Nat) : State :=
  if (s.casDest c == 1 || s.casDest c == 4) && s.armedStates then
    s.casRefuse c (REIN_CAS_CTRL c) ((s.rdN (REIN_CAS_CTRL c)) ||| 4)
  else s.set (REIN_CAS_CTRL_HOLD c) 1

/-- CASCADE_HOLD (R205). -/
def execCascadeHold (c : CasNo) (s : State) : Res := s.on fun s => .next (s.casHold c)

/-- CASCADE_HOLD_CLEAR (R205). -/
def execCascadeHoldClear (c : CasNo) (s : State) : Res := s.on fun s => .next (s.set (REIN_CAS_CTRL_HOLD c) 0)

/-- A coefficient or SEC_CFG word of a section is written (R202, R215): word 5 holds SHIFT and the two W1C bits. -/
def State.coefWrite (s : State) (k word : Nat) (v : Word) : State :=
  if word < 5 then s.wr (REIN_SEC_B0 k + 4 * word) v
  else
    let s := s.set (REIN_SEC_CFG_SHIFT k) (fieldGet v 0 3)
    let s := if v.getLsbD 7 then s.clear (REIN_SEC_CFG_SAT k) else s
    if v.getLsbD 8 then s.clear (REIN_SEC_CFG_REFUSED k) else s

/-- COEFFICIENT_WRITE (R202). -/
def execCoefficientWrite (k : Fin 64) (word : Fin 6) (v : Word) (s : State) : Res := s.on fun s => .next (s.coefWrite k word v)

/-- A state word of a section is written (R202): refused in the active bank of a running cascade. -/
def State.secStateWrite (s : State) (k word : Nat) (v : Word) : State :=
  let a := REIN_SEC_X1 k + 4 * word
  if (List.range 8).any (fun c => s.casSt c != 0 && (s.bankSlots c (s.bankInUse c)).contains k) then
    (s.set (REIN_SEC_CFG_REFUSED k) 1).refuse a v.toNat
  else s.wr a v

/-- SECTION_STATE_WRITE (R202). -/
def execSectionStateWrite (k : Fin 64) (word : Fin 4) (v : Word) (s : State) : Res := s.on fun s => .next (s.secStateWrite k word v)

/-- The write of a map word or of a LEN, as it would stand. -/
def State.mapPut (s : State) (c : Nat) : MapWrite → State
  | .word false false v => s.wr (REIN_CAS_MAP_A0 c) (v &&& 0x3F3F3F3F)
  | .word false true v => s.wr (REIN_CAS_MAP_A1 c) (v &&& 0x3F3F3F3F)
  | .word true false v => s.wr (REIN_CAS_MAP_B0 c) (v &&& 0x3F3F3F3F)
  | .word true true v => s.wr (REIN_CAS_MAP_B1 c) (v &&& 0x3F3F3F3F)
  | .len false n => s.set (REIN_CAS_CTRL_LEN_A c) n
  | .len true n => s.set (REIN_CAS_CTRL_LEN_B c) n

/-- The bank, the offset and the value of a map write. -/
def State.mapAddr (s : State) (c : Nat) : MapWrite → Nat × Nat × Nat
  | .word b u v => (b.toNat, REIN_CAS_MAP_A0 c + 8 * b.toNat + 4 * u.toNat, v.toNat)
  | .len false n => (0, REIN_CAS_CTRL c, (fieldPut (s.rd (REIN_CAS_CTRL c)) 24 4 n).toNat)
  | .len true n => (1, REIN_CAS_CTRL c, (fieldPut (s.rd (REIN_CAS_CTRL c)) 28 4 n).toNat)

/-- What is wrong with a write of bank map words or of LEN (R203): 1, refused for the bank in effect, for a section in
use by another cascade, for a section named twice; 2, a LEN above 8 is out of range (R175); 0, nothing. -/
def State.mapBad (s : State) (c : Nat) (w : MapWrite) : Nat :=
  let b := (s.mapAddr c w).1
  let t := s.mapPut c w
  let l := t.bankSlots c b
  let others := ((List.range 8).filter (· != c)).flatMap fun d => s.bankSlots d 0 ++ s.bankSlots d 1
  let len := match w with
    | .len _ n => n.val
    | .word _ _ _ => 0
  if b = s.bankInUse c then 1
  else if 8 < len then 2
  else if l.any (fun k => others.contains k) || decide (¬ l.Nodup) then 1
  else 0

/-- Bank map words or LEN are written (R203). -/
def State.mapWrite (s : State) (c : Nat) (w : MapWrite) : State :=
  let (_, addr, v) := s.mapAddr c w
  match s.mapBad c w with
  | 0 => (s.mapPut c w).showSections
  | 1 => s.casRefuse c addr v
  | _ => s.refuse addr v

/-- MAP_WRITE (R203). -/
def execMapWrite (c : CasNo) (w : MapWrite) (s : State) : Res := s.on fun s => .next (s.mapWrite c w)

/-- REIN_CAS_SRC is written (R17, R186): outside PASSIVE a change is refused; a second DEST 0x1 or 0x4 is
refused; a reserved MEAS_SEL or DEST_SEL leaves its field unchanged (R175, R185). -/
def State.casSrcWrite (s : State) (c : Nat) (v : Word) : State :=
  let a := REIN_CAS_SRC c
  let v' := v &&& 0xF17
  let dest := fieldGet v 0 3
  let meas := fieldGet v 8 4
  if s.shelf ≠ stPassive then (if v' = s.rd a then s else s.refuse a v.toNat)
  else if (dest = 1 ∨ dest = 4) ∧ (List.range 8).any (fun d => d != c && s.casDest d == dest) then s.refuse a v.toNat
  else
    let s' := s.set (REIN_CAS_SRC_SP_SRC c) (fieldGet v 4 1)
    let s' := if dest = 7 then s' else s'.set (REIN_CAS_SRC_DEST_SEL c) dest
    let s' := if 12 ≤ meas then s' else s'.set (REIN_CAS_SRC_MEAS_SEL c) meas
    if dest = 7 ∨ 12 ≤ meas then s'.refuse a v.toNat else s'

/-- CAS_SRC_WRITE (R186). -/
def execCasSrcWrite (c : CasNo) (v : Word) (s : State) : Res := s.on fun s => .next (s.casSrcWrite c v)

/-! ### L1 and the rectifiers (R54 to R56, R197) -/

/-- The RECTIFIER record of a rectifier (R505). -/
def State.rectRec (s : State) (r : Nat) : List Byte :=
  ((s.boot.profile.find? fun p => p.1 == 0x8004 && leAt p.2 0 1 == r).map (·.2)).getD []

/-- A PMBus PEC byte: a CRC-8 over the transaction's bytes; its polynomial is SMBus's (PRESUMED, log 45). -/
def pecByte (l : List Byte) : Byte :=
  l.foldl (fun c b => (List.range 8).foldl (fun (x : Byte) _ => if x.getLsbD 7 then (x <<< 1) ^^^ 0x07#8 else x <<< 1) (c ^^^ b)) 0

/-- The commands that read (R54): the rectifier sends the PEC of these. -/
def pmbusReads (code : Nat) : Bool :=
  code == 0x19 || code == 0x79 || code == 0x8B || code == 0x8C || code == 0x98 || code == 0x99 || code == 0x9A

/-- Send a PMBus transaction to a rectifier, with PEC (R53). -/
def State.pmbus (s : State) (r code : Nat) (data : List Byte) : State :=
  let a := leAt (s.rectRec r) 1 1
  let pec := if pmbusReads code then none
    else some (pecByte (BitVec.ofNat 8 (2 * a) :: BitVec.ofNat 8 code :: data))
  (s.emit (.pmbus a code data pec)).verbose 2 2

/-- Nine SCL clocks and a stop end a stuck transaction (R56). -/
def State.unstick (s : State) (stuck : Bool) : State := if stuck then s.emit .pmbusUnstick else s

/-- A transaction of a slot: one that fails is retried once (R56). -/
def State.pmbusTry (s : State) (a : RectAns) (r code : Nat) (data : List Byte) : State :=
  match a with
  | .ok => s.pmbus r code data
  | .retried stuck => ((s.pmbus r code data).unstick stuck).pmbus r code data
  | .failed stuck => (((s.pmbus r code data).unstick stuck).pmbus r code data).unstick stuck

/-- How a rectifier answers in a slot. -/
def ansOf (i : L1In) (r : Nat) : RectAns := i.answers.getD r (.failed false)

/-- The limit writes of a slot (R55, R197): those carried from the last slot first; a new total replaces every value. -/
def State.limitQueue (s : State) (per : Option Rat) : List (Nat × Nat) :=
  let late := s.rein.carried.filter fun p => !s.rectLost p.1
  match per with
  | none => late
  | some a =>
    let rs := late.map (·.1) ++ s.rects.filter fun r => !(late.map (·.1)).contains r
    rs.map fun r => (r, toLinear11 a)

/-- Send the limit writes that fit; the rest is carried and counted (R55, R197). -/
def State.limitWrites (s : State) (i : L1In) (q : List (Nat × Nat)) : State :=
  let s := forL (q.take i.fit) (fun p t => t.pmbusTry (ansOf i p.1) p.1 0x46 (leBytes 2 p.2)) s
  { s with rein := { s.rein with carried := q.drop i.fit } }.bumpSat REIN_L1_STATUS_CARRIED (q.length - i.fit)

/-- The total limit of this slot, in ampere, if L1 writes one: ISO_LIMIT after an isolation, the limit left behind at a stop
(R511), the output of the DEST 0x4 cascade while it runs. -/
def State.l1Total (s : State) : Option Rat :=
  if s.shelf = stPassive then none
  else if s.brd.isoLimitDue then
    (if s.get REIN_L1_ISO_ISO_LIMIT = 0 then none else some ((s.get REIN_L1_ISO_ISO_LIMIT * s.rects.length : Nat) : Rat))
  else match s.rein.handover with
    | some v => some (rawAmp v)
    | none =>
      match s.casOf 4 with
      | some c => if s.casSt c ≠ 0 ∧ !s.isSet REIN_L1_STATUS_SUSPENDED then some (rawAmp (s.rdI (REIN_CAS_OUT c))) else none
      | none => none

/-- The rectifier whose ramp rate is due (R54, R197, R505). -/
def State.rampDue (s : State) : Option Nat :=
  s.rects.find? fun r => s.rein.rates.getD r none != some s.l1Rate && leAt (s.rectRec r) 5 1 != 2

/-- The ramp-rate write of the slot, to one rectifier (R54, R55, R505). -/
def State.rampWrite (s : State) (i : L1In) (r : Nat) : State :=
  let rate := s.l1Rate
  let d := if leAt (s.rectRec r) 5 1 = 0 then toLinear11 rate else min 65535 (10 * rate)
  let s := { s with rein := { s.rein with rates := s.rein.rates.set r (some rate) } }
  s.pmbusTry (ansOf i r) r (leAt (s.rectRec r) 4 1) (leBytes 2 d)

/-- A rectifier's transactions of a slot failed, or all answered (R56): lost after three slots, back at an answer. -/
def State.rectResult (s : State) (r : Nat) (ok : Bool) : State :=
  if ok then
    let was := s.isSet REIN_L1_STATUS_SUSPENDED
    let s := { s with rein := { s.rein with fails := s.rein.fails.set r 0 } }
    if s.rectLost r then
      let s := ((s.set REIN_L1_STATUS_LOST (bitPut (s.get REIN_L1_STATUS_LOST) r false)).msix 233).unraise 0x0311 r
      if was then
        let s := ((s.clear REIN_L1_STATUS_SUSPENDED).msix 233).unraise 0x0312 0
        match s.casOf 4 with
        | some c => if s.casSt c = 0 then s else s.wrI (REIN_CAS_SP_EFF c) (s.measure 4)
        | none => s
      else s
    else s
  else
    let n := s.rein.fails.getD r 0 + 1
    let s := { s with rein := { s.rein with fails := s.rein.fails.set r (min 3 n) } }
    if 3 ≤ n ∧ !s.rectLost r then
      let s := ((s.set REIN_L1_STATUS_LOST (bitPut (s.get REIN_L1_STATUS_LOST) r true)).msix 233).raise 0x0311 r 0 0
      if s.rects.isEmpty then ((s.set REIN_L1_STATUS_SUSPENDED 1).msix 233).raise 0x0312 0 0 0 else s
    else s

/-- The last place of a slot (R55): an alert service, or the rotating read. An Alert Response Address read carries no PEC: R56's
worked example gives it two bytes. -/
def State.lastRead (s : State) (i : L1In) : State × Nat :=
  match i.alert with
  | some (r, _) => (((s.emit (.pmbus 0x0C 0 [] none)).verbose 2 2).pmbusTry (ansOf i r) r 0x79 [], r.val)
  | none =>
    let k := s.rein.rotate
    let r := k / 2
    let ok := match ansOf i r with
      | .failed _ => false
      | _ => true
    let s1 := s.pmbusTry (ansOf i r) r (if k % 2 = 0 then 0x8C else 0x8B) []
    let rein := { s1.rein with rotate := (k + 1) % 12 }
    let rein := if !ok then rein
      else if k % 2 = 0 then { rein with iout := rein.iout.set r i.word.val }
      else { rein with vout := rein.vout.set r i.word.val }
    ({ s1 with rein := rein }, r)

/-- The ramp-rate write and the last place of a slot, each where it ends in the slot, with the rectifiers they addressed (R55). -/
def State.slotTail (s : State) (i : L1In) (fit : Nat) (ramp : Option Nat) : State × List Nat :=
  match ramp with
  | some r =>
    if fit = 0 then (s, [])
    else
      let s := s.rampWrite i r
      if fit = 1 then (s, [r]) else ((s.lastRead i).1, [r, (s.lastRead i).2])
  | none => if fit = 0 then (s, []) else ((s.lastRead i).1, [(s.lastRead i).2])

/-- The totals of a slot are served: an isolation's, the one left behind at a stop. -/
def State.slotServed (s : State) : State :=
  { s with brd := { s.brd with isoLimitDue := false }, rein := { s.rein with handover := none } }

/-- L1_SLOT (R55, R56, R97, R197): the limit writes, the ramp-rate write, the alert service or rotating read; a rectifier that
fails is counted. -/
def execL1Slot (i : L1In) (s : State) : Res := s.on fun s =>
  let tot := s.l1Total
  let q := if s.shelf = stPassive then [] else s.limitQueue (tot.map fun a => quot a s.rects.length)
  let ramp := if tot.isSome then s.rampDue else none
  let s := s.limitWrites i q
  let s := match tot with
    | some a => s.wrI REIN_L1_LIMIT (roundRat (a * 10))
    | none => s
  let r := s.slotServed.slotTail i (i.fit - q.length) ramp
  let asked := ((q.take i.fit).map (·.1) ++ r.2).eraseDups
  .next (forL asked (fun r t => t.rectResult r (match ansOf i r with | .failed _ => false | _ => true)) r.1).disarmStep

/-- PMBUS_CLEAR_FAULTS (R54, R26): on host request; in PASSIVE nothing that changes a rectifier is sent. -/
def execPmbusClearFaults (r : Fin 6) (s : State) : Res := s.on fun s =>
  if s.shelf = stPassive then .next s else .next (s.pmbus r 0x03 [])

end Sys2Proof.Machine
end

