-- ==== Sys2Proof/Machine/Spur.lean ====
section
/-! DEFINITION. The Spur link, the hint table, the trajectory streams and the commit (R216 to R242).
Powers are in 0.1 kW, positive in discharge for the storage and as drawn for the rack. -/

namespace Sys2Proof.Machine

/-! ### Power figures (R229, R233) -/

/-- The storage power now: VNODE times the shelf current, 0.1 kW. -/
def State.storPower (s : State) (deciAmp : Rat) : Int := roundRat ((s.meas.vnode : Rat) * deciAmp / 100000)

/-- G of R229, 0.1 kW: SP_EFF of the DEST 0x4 cascade, or the measured grid draw. -/
def State.gridNow (s : State) : Int :=
  match s.casOf 4 with
  | some c =>
    if s.casSt c ≠ 0 ∧ !s.suspended c then roundRat ((s.rdI (REIN_CAS_SP_EFF c) : Rat) * 4000 / 2 ^ 31)
    else roundRat (s.gridWatt / 100)
  | none => roundRat (s.gridWatt / 100)

/-- One side of the clamp of R233, 0.1 kW: the rating, or a headroom energy over T_HR. -/
def State.hrLimit (s : State) (joule : Nat) : Int :=
  roundRat (min (3000 * s.ratingFrac) (quot ((joule : Rat) * 10) (s.get FCST_HR_CFG_T_HR) / 100))

/-- P_dis and P_chg (R233). -/
def State.pDis (s : State) : Int := s.hrLimit (s.rdN EST_HR_DN)
def State.pChg (s : State) : Int := s.hrLimit (s.rdN EST_HR_UP)

/-- A sample's feed-forward and whether the clamp reduced it, from its load and its own grid draw (R229, R233). -/
def State.reclamp (s : State) (p : Sample) : Sample :=
  let raw := p.load - p.grid
  let v := clampI (-s.pChg) s.pDis raw
  { p with pff := v, clamped := v != raw }

/-- Put a changed window in place; each sample that became clamped sets HR_CLAMP and is counted (R233). -/
def State.putWindow (s : State) (w : List Sample) : State :=
  let old := s.fcst.window
  let n := (w.filter fun p => p.clamped && !(old.any fun q => q.step == p.step && q.clamped)).length
  let s := { s with fcst := { s.fcst with window := w } }
  if n = 0 then s else (s.bumpSat FCST_CNT_CLAMPED n).raiseBit FCST_STATUS_HR_CLAMP 237

/-- The committed sample of a step. -/
def State.sampleAt (s : State) (n : Nat) : Option Sample := s.fcst.window.find? (·.step == n)

/-! ### Hints on samples (R224, R231, R232) -/

/-- What a merged hint adds to each sample in its effect. -/
def Hint.amount (h : Hint) : Int := if h.inserted then h.sh else h.delta

/-- A hint's effect covers a sample; a hint-only sample formed from a load that already holds the
hint's step is left out (R231). -/
def Hint.covers (h : Hint) (p : Sample) : Bool :=
  h.merged && h.kh ≤ p.step && p.step < h.stop && !(p.hintOnly && h.kh + 51 ≤ p.step)

/-- The re-timing a hint applied to a step. -/
def Hint.retime (h : Hint) (n : Nat) : Int := ((h.retimed.find? (·.1 == n)).map (·.2)).getD 0

/-- A hint's sign. -/
def Hint.sign (h : Hint) : Int := if h.falls then -1 else 1

/-- MATCH_STEPS. -/
def State.matchSteps (s : State) : Nat := s.get FCST_MERGE_CFG_MATCH_STEPS

/-- The distance between two steps. -/
def stepGap (a b : Nat) : Nat := (a - b) + (b - a)

/-- Whether a hint may claim a sample's edge (R231). -/
def State.claimable (s : State) (h : Hint) (p : Sample) : Bool :=
  p.edge && !p.claimed && !p.hintOnly && p.sign == h.sign && stepGap p.step h.kh ≤ s.matchSteps && s.fcst.step ≤ p.step

/-- The edge a hint claims: the nearest one, the earlier of two as near (log 30). -/
def State.edgeFor (s : State) (h : Hint) : Option Sample :=
  (s.fcst.window.filter (s.claimable h)).foldl (fun b p => match b with
    | none => some p
    | some q => if stepGap p.step h.kh < stepGap q.step h.kh then some p else some q) none

/-- The load of a step, or another value where it is not committed. -/
def State.loadAt (s : State) (n : Nat) (dflt : Int) : Int := ((s.sampleAt n).map (·.load)).getD dflt

/-- The re-timing of R231 towards a hint's step: the samples from the step after the one in progress. -/
def State.retiming (s : State) (h : Hint) (e : Sample) (before : Int) : List (Nat × Int) :=
  (s.fcst.window.filter fun p => s.fcst.step < p.step &&
      ((h.kh ≤ p.step && p.step < e.step) || (e.step ≤ p.step && p.step < h.kh))).map fun p =>
    (p.step, (if h.kh < e.step then e.load else before) - p.load)

/-- What the merge makes of a hint (R231). -/
def State.merged (s : State) (h : Hint) : Hint :=
  match s.edgeFor h with
  | some e =>
    let before := s.loadAt (e.step - 1) e.load
    { h with merged := true, claim := some e.step, retimed := s.retiming h e before,
             delta := if h.known then h.sh - (e.load - before) else 0 }
  | none => { h with merged := true, inserted := true }

/-- Add a hint to the committed samples not yet in progress, or take it off again (R231, R232). -/
def State.shiftBy (s : State) (h : Hint) (k : Int) : List Sample :=
  s.fcst.window.map fun p =>
    if p.step ≤ s.fcst.step then p
    else s.reclamp { p with load := p.load + k * (h.retime p.step + (if h.covers p then h.amount else 0)) }

/-- Whether a sample's edge is the one a merged hint claims, where it stood or where the re-timing puts it, or inserts. -/
def Hint.owns (h : Hint) (p : Sample) : Bool :=
  h.claim == some p.step || ((h.claim.isSome || h.inserted) && p.step == h.kh)

/-- Whether an inserted hint has its step here (R230). -/
def State.insertedAt (s : State) (n : Nat) : Bool := s.fcst.hints.any fun h => h.inserted && h.kh == n

/-- EDGE and its sign on a committed sample (R230). -/
def State.markEdge (s : State) (p : Sample) : Sample :=
  let d := p.load - s.loadAt (p.step - 1) p.load
  { p with edge := decide (10 * s.get FCST_MERGE_CFG_EDGE_KW ≤ d.natAbs) || p.marked || s.insertedAt p.step, sign := d.sign }

/-- EDGE is judged again on the samples not yet in progress, after their loads changed (R230). -/
def State.reEdge (s : State) : State :=
  { s with fcst := { s.fcst with window := s.fcst.window.map fun p => if p.step ≤ s.fcst.step then p else s.markEdge p } }

/-- A hint merges (R231): it shifts the samples, and its edge is claimed. -/
def State.mergeHint (s : State) (h : Hint) : State :=
  let h' := s.merged h
  let s := { s with fcst := { s.fcst with hints := s.fcst.hints.map fun (g : Hint) => if g.slot = h.slot then h' else g } }
  ((s.putWindow ((s.shiftBy h' 1).map fun p => if h'.owns p then { p with claimed := true } else p)).reEdge).verbose 1 1

/-- Hints whose match window the commit pointer has reached merge (R231). -/
def State.mergeDue (s : State) (newest : Nat) : State :=
  forL (s.fcst.hints.filter fun h => !h.merged && h.kh + s.matchSteps ≤ newest) (fun h t => t.mergeHint h) s

/-- The newest committed step: the commit pointer. -/
def State.pointer (s : State) : Nat := s.fcst.window.foldl (fun m p => max m p.step) s.fcst.step

/-- A hint is withdrawn: what it applied is reversed, its edge released, its entry freed (R224, R232). -/
def State.withdraw (s : State) (h : Hint) : State :=
  let rest := s.fcst.hints.filter (·.slot != h.slot)
  let w := (s.shiftBy h (-1)).map fun p =>
    if h.owns p && !rest.any (fun g => g.owns p) then { p with claimed := false } else p
  { s.putWindow w with fcst := { (s.putWindow w).fcst with hints := rest } }.reEdge

/-- The lowest free entry of the hint table. -/
def State.freeSlot (s : State) : Nat :=
  ((List.range 32).find? fun i => !(s.fcst.hints.any (·.slot == i))).getD 0

/-- An accepted hint enters the table, and merges if the commit pointer has passed its match window (R224, R231). -/
def State.enterHint (s : State) (h : Hint) : State :=
  let h := { h with slot := s.freeSlot }
  let s := { s with fcst := { s.fcst with hints := s.fcst.hints ++ [h] } }
  if s.fcst.running && decide (h.kh + s.matchSteps ≤ s.pointer) then s.mergeHint h else s

/-- The hint table as the host reads it (R242). -/
def Hint.bytes (h : Hint) : List Byte :=
  leBytes 4 h.seq
    ++ leBytes 4 ((if h.falls then 0x100 else 0) + 0x200 * h.lane + (if h.merged then 0x400 else 0)
        + (if h.claim.isSome then 0x800 else 0) + (if h.inserted then 0x1000 else 0) + (if h.replace then 0x2000 else 0))
    ++ leBytes 8 h.kh ++ leBytes 4 h.dh ++ leBytesI 4 h.sh ++ leBytesI 4 h.delta ++ leBytes 4 h.capture

/-- A word of SPUR_HINT_TBL; a free entry reads zero (R242). -/
def State.hintWord (s : State) (i : Nat) : Word :=
  match s.fcst.hints.find? (·.slot == i / 8) with
  | some h => BitVec.ofNat 32 (leAt h.bytes (4 * (i % 8)) 4)
  | none => 0

/-! ### Acknowledges (R219 to R223) -/

/-- One bit of the CRC-16 of R219. -/
def crc16Bit (c : BitVec 16) : BitVec 16 := if c.getLsbD 15 then (c <<< 1) ^^^ 0x1021#16 else c <<< 1

/-- The CRC-16 of R219. -/
def crc16 (l : List Byte) : BitVec 16 :=
  l.foldl (fun (c : BitVec 16) (b : Byte) => crc16Bit <| crc16Bit <| crc16Bit <| crc16Bit <| crc16Bit <| crc16Bit <| crc16Bit <|
    crc16Bit (c ^^^ ((b.setWidth 16) <<< (8 : Nat)))) 0xFFFF#16

/-- An acknowledge frame (R219). -/
def ackFrame (status flags seq capture : Nat) : List Byte :=
  let body := leBytes 1 0x41 ++ leBytes 1 status ++ leBytes 1 flags ++ leBytes 4 seq ++ leBytes 4 capture
  [0xFB#8] ++ body ++ leBytes 2 (crc16 body).toNat ++ [0xFD#8, 0xBC#8]

/-- The usable entry of a stream for a step: VALID, and at or below HEAD_STEP (R226). -/
def State.usable (s : State) (x n : Nat) : Bool :=
  s.isSet (FCST_ENTRY_VALID x (n % 4096)) && decide (n ≤ s.fcst.heads.getD x 0)

/-- The streams that contribute load (R229). -/
def State.contributing (s : State) : List Nat :=
  (List.range 16).filter fun x => s.isSet (FCST_STR_CTRL_ENABLE x) && s.isSet (FCST_STR_CTRL_CONTRIB x)

/-- A forecast is present for a step: in its committed sample, or in the streams (R219, R229). -/
def State.forecastAt (s : State) (n : Nat) : Bool :=
  match s.sampleAt n with
  | some p => p.present
  | none => !s.isSet FCST_CTRL_HINT_ONLY && !s.contributing.isEmpty && s.contributing.all fun x => s.usable x n

/-- A frame is acknowledged (R219 to R222): its status bits, counter, latency and SEQ. -/
def State.acknowledge (s : State) (status lane seq lat : Nat) (fc : Bool) : State :=
  let s := { s with fcst := { s.fcst with acked := (seq :: s.fcst.acked).take 64 } }
  let s := if status = 3 then s.raiseBit SPUR_STATUS_DUP 236 else if status = 4 then s.raiseBit SPUR_STATUS_FULL 236 else s
  let s := if 312 < lat then s.raiseBit SPUR_STATUS_DEADLINE 236 else s
  let s := ((s.wrapReg SPUR_ACK_CNT).set SPUR_ACK_LAT_LAST lat).set SPUR_ACK_LAT_MAX (max lat (s.get SPUR_ACK_LAT_MAX))
  let flags := lane + (if fc then 2 else 0) + (if s.isSet FCST_STATUS_HR_REQ then 4 else 0)
  ((s.wrN SPUR_LAST_SEQ seq).emit (.spurAck (ackFrame status flags seq (s.now % 2 ^ 32)))).verbose 0 1

/-- Count a valid frame of a lane (R240). -/
def State.rxCount (s : State) (lane : Nat) : State := (s.bumpSat (if lane = 0 then SPUR_RX_CNT_L0 else SPUR_RX_CNT_L1) 1).verbose 0 1

/-- Whether a lane is in use (R241). -/
def State.laneOn (s : State) (lane : Nat) : Bool := s.isSet (if lane = 0 then SPUR_CTRL_LANE0_EN else SPUR_CTRL_LANE1_EN)

/-- A copy of a SEQ that ends within 1 µs of a valid copy on the other lane (R223). -/
def State.pairCopy (s : State) (lane seq : Nat) : Bool :=
  s.fcst.lastRx.any fun (l, q, t) => l != lane && q == seq && decide (s.elapsed ≤ t + 100)

/-- Remember a first copy of a lane, as long as a pair copy may follow (R223). -/
def State.noteRx (s : State) (lane seq : Nat) : State :=
  { s with fcst := { s.fcst with
    lastRx := (lane, seq, s.elapsed) :: s.fcst.lastRx.filter fun (_, _, t) => decide (s.elapsed ≤ t + 100) } }

/-- The hint of the table that REF_SEQ names (R222). -/
def State.hintByRef (s : State) (ref : Nat) : Option Hint := s.fcst.hints.find? (·.seq == ref)

/-- STATUS of a valid hint frame, in the table's order (R222). -/
def State.hintStatus (s : State) (i : HintIn) : Nat :=
  if i.ver.val ≠ 1 then 7
  else if !s.armedStates then 5
  else if i.seq.toNat ∈ s.fcst.acked then 3
  else if 4096000 < i.eta.toNat then 2
  else if i.replace ∧ s.hintByRef i.ref.toNat = none then 6
  else if i.eta.toNat < 1000 then 1
  else if 32 ≤ s.fcst.hints.length then 4
  else 0

/-- STATUS of a valid cancel frame (R222). -/
def State.cancelStatus (s : State) (i : CancelIn) : Nat :=
  if i.ver.val ≠ 1 then 7
  else if !s.armedStates then 5
  else if i.seq.toNat ∈ s.fcst.acked then 3
  else if s.hintByRef i.ref.toNat = none then 6
  else if 32 ≤ s.fcst.hints.length then 4
  else 0

/-- |S_h| of a magnitude class: its table entry; a class above 15 has none, and its value is free (log 31). -/
def State.magOf (s : State) (m : Nat) : Int :=
  if m < 16 then s.get (SPUR_MAG_TBL_MAG m) else Config.freeNat s.free

/-- A step of shelf time and so many ticks (R224). -/
def stepAt (ticks : Nat) : Nat := ticks / 1000

/-- The hint-table entry of an accepted frame (R224). -/
def State.mkHint (s : State) (i : HintIn) : Hint :=
  let kh := stepAt (s.now + i.eta.toNat)
  let dh := if i.duration = 0 then 0 else stepAt (s.now + i.eta.toNat + i.duration.toNat) - kh
  let hold := s.get FCST_HOLD_CFG_HINT_HOLD
  { slot := 0, seq := i.seq.toNat, falls := i.falls, lane := i.lane.val, replace := i.replace, kh := kh, dh := dh,
    sh := if i.falls then -s.magOf i.mag.val else s.magOf i.mag.val, known := i.mag.val != 0,
    capture := s.now % 2 ^ 32, srcId := i.srcId.val, stop := kh + (if dh ≠ 0 ∧ dh < hold then dh else hold) }

/-- A quiet window ends with a hint in the table, as R238 has it. -/
def State.quietByHint (s : State) : State := if s.fcst.hints.isEmpty then s else s.quietOff

/-- An ACCEPTED hint is entered; a REPLACE withdraws the hint it names in the same step; with MERGE_EN 0
nothing is entered (R222, R224, R239, R241). -/
def State.takeHint (s : State) (i : HintIn) : State :=
  let s := { s with fcst := { s.fcst with lastAccept := some s.elapsed } }
  if !s.isSet SPUR_CTRL_MERGE_EN then s
  else
    let h := s.mkHint i
    let s := { s with free := s.free + 1 }
    let s := match (if i.replace then s.hintByRef i.ref.toNat else none) with
      | some g => s.withdraw g
      | none => s
    (s.enterHint h).quietByHint

/-- The SPUR wake source fires, and a napping forecast partition wakes (R123, R127). -/
def State.hintWakes (s : State) : State :=
  let s := s.fireWake 4
  if s.isSet PWR_CTRL_FCST_NAP && s.inService && s.isSet PWR_WAKE_EN_SPUR then (s.clear PWR_CTRL_FCST_NAP).latchWake 0x1400
  else s

/-- SPUR_HINT: a valid hint frame ends (R217 to R224, R127, R153, R231); every valid one is a wake source and a step event,
a pair copy too (R218). -/
def execSpurHint (i : HintIn) (s : State) : Res := s.on fun s =>
  if !s.laneOn i.lane.val then .next s
  else
    let pair := s.pairCopy i.lane.val i.seq.toNat
    let s := ((s.rxCount i.lane.val).hintWakes).stepEvent [0, 1]
    if pair then .next s
    else
      let st := s.hintStatus i
      let fc := s.forecastAt (stepAt (s.now + i.eta.toNat))
      let live := s.isSet SPUR_STATUS_ACK_LIVE
      let s := s.noteRx i.lane.val i.seq.toNat
      if !live then .next s
      else
        let s := if st = 0 then (s.takeHint i).usMark 0 else s
        .next (s.acknowledge st i.lane.val i.seq.toNat i.lat.val fc)

/-- SPUR_CANCEL: a valid cancel frame ends; accepted, the named hint is withdrawn at once (R222, R224, R232). -/
def execSpurCancel (i : CancelIn) (s : State) : Res := s.on fun s =>
  if !s.laneOn i.lane.val then .next s
  else
    let s := s.rxCount i.lane.val
    if s.pairCopy i.lane.val i.seq.toNat then .next s
    else
      let st := s.cancelStatus i
      let ref := s.hintByRef i.ref.toNat
      let fc := (ref.map fun h => s.forecastAt h.kh).getD false
      let s := s.noteRx i.lane.val i.seq.toNat
      if !s.isSet SPUR_STATUS_ACK_LIVE then .next s
      else
        let s := match (if st = 0 then ref else none) with
          | some h => s.withdraw h
          | none => s
        .next (s.acknowledge st i.lane.val i.seq.toNat i.lat.val fc)

/-- SPUR_INVALID_FRAME: an invalid frame or a broken gap is counted and discarded (R216, R218). -/
def execSpurInvalidFrame (lane : Fin 2) (gap : Bool) (s : State) : Res := s.on fun s =>
  if !s.laneOn lane.val then .next s
  else .next ((s.bumpSat (if lane = 0 then SPUR_BAD_CNT_L0 else SPUR_BAD_CNT_L1) 1).raiseBit
    (if gap then SPUR_STATUS_GAP_ERR else SPUR_STATUS_BAD) 236)

/-- CLR_LAT_MAX clears the maximum latency (R241). -/
def execClrLatMax (s : State) : Res := s.on fun s => .next (s.set SPUR_ACK_LAT_MAX 0)

/-- SPUR_SYMBOL_LOCK: a lane gains or loses symbol lock (R65, R66, R241). -/
def execSpurSymbolLock (lane : Fin 2) (v : Bool) (s : State) : Res := s.on fun s =>
  let l := bitPut (s.get SPUR_STATUS_LOCK) lane.val v
  if l = s.get SPUR_STATUS_LOCK then .next s
  else
    .next ((s.set SPUR_STATUS_LOCK l).conn (14 + lane.val) v)

/-! ### Quiet windows (R237 to R239) -/

/-- QUIET_UNTIL of a stream. -/
def State.quietUntil (s : State) (x : Nat) : Nat := s.rd64 (FCST_STR_QUIET_LO x) (FCST_STR_QUIET_HI x)

/-- The earliest QUIET_UNTIL of the enabled streams. -/
def State.quietEnd (s : State) : Option Nat :=
  (((List.range 16).filter fun x => s.isSet (FCST_STR_CTRL_ENABLE x)).map s.quietUntil).min?

/-- The conditions of a quiet window (R238), while the commit runs. -/
def State.quietHolds (s : State) : Bool :=
  s.fcst.running && s.fcst.hints.isEmpty && !(s.fcst.stale.any fun x => s.isSet (FCST_STR_CTRL_ENABLE x)) && !(s.fcst.window.any (·.edge)) &&
    (match s.quietEnd with
     | some t => decide (s.now < t)
     | none => false)

/-- Evaluate the quiet window: declared, moved or ended (R238). -/
def State.quietEval (s : State) : State :=
  if s.quietHolds then (s.wr64 FCST_QUIET_END_LO FCST_QUIET_END_HI (s.quietEnd.getD 0)).set FCST_STATUS_QUIET 1
  else s.quietOff

/-- Remount moves a core of the forecast partition while the shelf is in use (R466). -/
def State.fcstMoving (s : State) : Bool :=
  s.get (RMT_KIND_STATE 2) == 3 && decide (s.get (RMT_KIND_TARGET 2) < 16) && s.armedStates

/-- A MODEL stream writes nothing while the forecast runtime is stopped (R372), its partition naps (R239) or one of its cores is
being substituted (R466); on the AKY-9512-C every stream is HOST (R227). -/
def State.streamMute (s : State) (x : Nat) : Bool :=
  s.otp.variant != .control && !s.isSet (FCST_STR_CTRL_SRC x) && (!s.fcst.model || s.isSet PWR_CTRL_FCST_NAP || s.fcstMoving)

/-- A stream declares, extends or shortens (R237, R238); an earlier value ends the window. -/
def State.quietPut (s : State) (x v : Nat) : State :=
  let s := if v < s.quietUntil x ∧ s.isSet (FCST_STR_CTRL_ENABLE x) then s.quietOff else s
  let s := s.wr64 (FCST_STR_QUIET_LO x) (FCST_STR_QUIET_HI x) v
  ({ s with fcst := { s.fcst with stale := s.fcst.stale.filter (· != x) } }).quietEval

/-- QUIET_UNTIL_WRITE (R237, R238). -/
def execQuietUntilWrite (x : Fin 16) (v : Word64) (s : State) : Res := s.on fun s =>
  .next (if s.streamMute x.val then s else s.quietPut x.val v.toNat)

/-- FCST_NAP_CHANGE: Tack firmware sets FCST_NAP under the conditions of R239, or clears it as the window's end comes within
5 ms or the window has ended. -/
def execFcstNapChange (v : Bool) (s : State) : Res := s.on fun s =>
  let ahead := s.rd64 FCST_QUIET_END_LO FCST_QUIET_END_HI - s.now
  let calm := match s.fcst.lastAccept with
    | some t => decide (t + 10 * tickMs ≤ s.elapsed)
    | none => true
  if v then
    (if s.inService && s.isSet FCST_STATUS_QUIET && calm && decide (s.get FCST_HOLD_CFG_NAP_MIN * 10 * tickMs ≤ ahead) then
      .next (s.set PWR_CTRL_FCST_NAP 1)
     else .next s)
  else if s.isSet FCST_STATUS_QUIET && decide (5 * tickMs < ahead) then .next s
  else .next (s.clear PWR_CTRL_FCST_NAP)

/-! ### Streams (R225, R226) -/

/-- FCST_STR_HEAD_LO applies HEAD_STEP with the HI last written, or is refused more than 4,096 steps beyond the commit
pointer (R226). -/
def State.headStep (s : State) (x : Nat) (lo : Word) : State :=
  let v := lo.toNat + 2 ^ 32 * s.rdN (FCST_STR_HEAD_HI x)
  let ptr := if s.fcst.running then s.pointer else s.now / 1000 + 50
  if ptr + 4096 < v then (s.raiseBit (FCST_STR_STATUS_HEAD_REFUSED x) 237).refuse (FCST_STR_HEAD_LO x) lo.toNat
  else { (s.wr (FCST_STR_HEAD_LO x) lo) with fcst := { s.fcst with heads := s.fcst.heads.set x v } }

/-- HEAD_STEP_WRITE (R226). -/
def execHeadStepWrite (x : Fin 16) (lo : Word) (s : State) : Res := s.on fun s =>
  .next (if s.streamMute x.val then s else s.headStep x.val lo)

/-! ### The commit (R228 to R236) -/

/-- L_m of the step just ended, 0.1 kW: G plus VNODE times the mean shelf current (R229). -/
def State.loadMeas (s : State) : Int :=
  let i : Rat := if s.fcst.curN = 0 then s.meas.isum else (s.fcst.curSum : Rat) / s.fcst.curN
  s.gridNow + s.storPower i

/-- Step k begins: L_m of step k − 1 is taken, and samples before it leave the window. -/
def State.beginStep (s : State) (k : Nat) : State :=
  let m := s.loadMeas
  let s := { s with fcst := { s.fcst with
    step := k, lm := (m :: s.fcst.lm).take 3, curSum := 0, curN := 0,
    window := s.fcst.window.filter fun p => k ≤ p.step + 1 } }
  s.setI FCST_LOAD_MEAS_L_M (roundDiv m 10)

/-- A stream's entry for a step is consumed, or the stream starves (R226, R229). -/
def State.consume (s : State) (n x : Nat) : State :=
  if s.usable x n then (s.clear (FCST_ENTRY_VALID x (n % 4096))).clear (FCST_STR_STATUS_STARVED x)
  else ((s.bumpSat (FCST_STR_STATUS_STARVED_CNT x) 1).set (FCST_STR_STATUS_STARVED x) 1).raiseBit FCST_STATUS_STARVED 237

/-- ΣLOAD, ΣCONF in 0.1 kW and whether an entry carries EDGE, where every contributing stream has a usable
entry for the step (R229). -/
def State.forecast (s : State) (n : Nat) : Option (Int × Int × Bool) :=
  let l := s.contributing
  let i := n % 4096
  if s.isSet FCST_CTRL_HINT_ONLY || l.isEmpty || !(l.all fun x => s.usable x n) then none
  else some (l.foldl (fun a x => a + s.getI (FCST_ENTRY_LOAD x i)) 0,
    l.foldl (fun a x => a + 10 * (s.get (FCST_ENTRY_CONF x i) : Int)) 0, l.any fun x => s.isSet (FCST_ENTRY_EDGE x i))

/-- The base after the confidence clamp (R229): its value, hint-only, and whether confidence reduced the change. -/
def State.baseOf (s : State) (f : Option (Int × Int × Bool)) (m : Int) : Int × Bool × Bool :=
  match f with
  | none => (m, true, false)
  | some (l, c, _) =>
    if 10 * (s.get FCST_MERGE_CFG_CONF_MAX : Int) < c then (m, true, false)
    else
      let d := l - m
      let r : Int := max 0 (d.natAbs - c)
      (if d < 0 then m - r else m + r, false, decide (0 < c ∧ d ≠ 0))

/-- BASE_RAMP in 0.1 kW. -/
def State.baseRamp (s : State) : Int := 10 * s.get FCST_HOLD_CFG_BASE_RAMP

/-- Every contributing stream has completed two horizons since the detection (R236). -/
def State.gensOn (s : State) : Bool :=
  s.contributing.all fun x => decide (2 ≤ (s.rdN (FCST_STR_GEN x) + 2 ^ 32 - s.fcst.genAt.getD x 0) % 2 ^ 32)

/-- Show the offset O (R240). -/
def State.showOffset (s : State) : State :=
  (s.setI FCST_OFFSET_O s.fcst.offset).setB FCST_STATUS_OFFSET (s.fcst.offset != 0)

/-- The offset returns to zero along BASE_RAMP once the streams have seen the step (R236). -/
def State.offsetDecay (s : State) : State :=
  if s.fcst.offset = 0 then s
  else
    let d := s.fcst.decay || s.gensOn
    let o := if d then towards s.fcst.offset 0 s.baseRamp else s.fcst.offset
    ({ s with fcst := { s.fcst with offset := o, decay := d && o != 0 } }).showOffset

/-- In hint-only operation the offset is zero (R236). -/
def State.offsetNone (s : State) : State :=
  if s.fcst.offset = 0 then s else ({ s with fcst := { s.fcst with offset := 0, decay := false } }).showOffset

/-- The base ramp between forecast and hint-only (R229): the value, and whether the ramp goes on. -/
def State.rampBase (s : State) (prev : Option Sample) (hintOnly : Bool) (v : Int) : Int × Bool :=
  match prev with
  | none => (v, false)
  | some p =>
    if s.fcst.ramping || p.hintOnly != hintOnly then
      let w := towards p.base v s.baseRamp
      (w, w != v)
    else (v, false)

/-- The sample of step n before its edge is marked (R229). -/
def State.formSample (s : State) (n : Nat) (f : Option (Int × Int × Bool)) (b : Int × Bool × Bool) : Sample × Bool :=
  let v := if b.2.1 then b.1 else b.1 + s.fcst.offset
  let r := s.rampBase (s.sampleAt (n - 1)) b.2.1 v
  let p : Sample := { step := n, base := r.1, load := r.1, pff := 0, grid := s.gridNow, edge := false,
                      marked := !b.2.1 && (f.map (·.2.2)).getD false, hintOnly := b.2.1,
                      present := f.isSome, conf := (f.map (·.2.1)).getD 0, confCut := b.2.2, clamped := false }
  (s.reclamp { p with load := s.fcst.hints.foldl (fun a h => if h.covers p then a + h.amount else a) r.1 }, r.2)

/-- Sample k + 50 is formed and committed, with its step event for a marked edge (R228 to R230). -/
def State.commitSample (s : State) (n : Nat) : State :=
  let f := s.forecast n
  let b := s.baseOf f (s.fcst.lm.headD 0)
  let s := if s.isSet FCST_CTRL_HINT_ONLY then s else forL s.contributing (fun x t => t.consume n x) s
  let s := if b.2.2 then s.raiseBit FCST_STATUS_CONF_CLAMP 237 else s
  let s := if b.2.1 then s.offsetNone else s.offsetDecay
  let (p, ramp) := s.formSample n f b
  let q := { s.markEdge p with claimed := s.insertedAt n }
  let s := { s with fcst := { s.fcst with ramping := ramp } }.putWindow (s.fcst.window ++ [q])
  if q.edge then (s.verbose 1 1).stepEvent [0, 1] else s

/-- Step k − 1 holds an unannounced step: its ε (R235). -/
def State.unannounced (s : State) (k : Nat) : Option Int :=
  match s.sampleAt (k - 1), s.fcst.lm with
  | some p, m :: _ :: m3 :: _ =>
    let lim := 10 * s.get FCST_MERGE_CFG_UNANN_KW
    if lim ≤ (m - p.load).natAbs ∧ lim ≤ (m - m3).natAbs
        ∧ !(s.fcst.hints.any fun h => stepGap h.kh (k - 1) ≤ s.matchSteps) then some (m - p.load)
    else none
  | _, _ => none

/-- The rebase (R236): ε on every sample after the one in progress, the offset, and the transfer Rein makes. -/
def State.rebaseBy (s : State) (k : Nat) (e : Int) : State :=
  let old := (s.sampleAt (k + 1)).map (·.pff)
  let s := s.putWindow (s.fcst.window.map fun p => if p.step ≤ k then p else s.reclamp { p with base := p.base + e, load := p.load + e })
  let gens := (List.range 16).map fun x => s.rdN (FCST_STR_GEN x)
  let hintOnly := ((s.sampleAt s.pointer).map (·.hintOnly)).getD true
  ({ s with fcst := { s.fcst with
      rebase := s.fcst.rebase ++ (old.map fun v => (k + 1, v)).toList, genAt := gens, decay := false,
      offset := if hintOnly then 0 else s.fcst.offset + e, stale := List.range 16 } }).reEdge.showOffset

/-- What the commit does at an unannounced step (R235, R236). -/
def State.takeUnannounced (s : State) (k : Nat) (e : Int) : State :=
  let s := ((s.raiseBit FCST_STATUS_UNANN 237).bumpSat FCST_CNT_UNANN 1).usMark 2
  let s := s.wr64 FCST_UNANN_TIME_LO FCST_UNANN_TIME_HI s.now
  let s := s.record kFault 1 2 0 0 0 false (leBytesI 4 e ++ zeros 5 ++ leBytes 1 s.shelf ++ zeros 2)
  (s.rebaseBy k e).quietOff

/-- A sample clamped, or a storage power beyond its headroom (R234). -/
def State.hrExcess (s : State) : Bool :=
  let p := s.storPower s.meas.isum
  s.fcst.window.any (fun q => s.fcst.step ≤ q.step && q.clamped) || decide (s.pDis < p) || decide (p < -s.pChg)

/-- HR_REQ and G_hr (R234). -/
def State.hrEval (s : State) : State :=
  let s := if s.hrExcess then s.set FCST_STATUS_HR_REQ 1 else s
  match s.sampleAt s.pointer with
  | some p => s.setI FCST_HR_TARGET_G_HR (p.load - p.pff)
  | none => s

/-- Show the step in progress (R240, R241). -/
def State.showNow (s : State) (k : Nat) : State :=
  match s.sampleAt k with
  | some p => ((s.setI FCST_NOW_P_FF p.pff).setI FCST_NOW_L (roundDiv p.load 10)).set FCST_STATUS_MODE (if p.hintOnly then 2 else 1)
  | none => s.set FCST_STATUS_MODE 2

/-- The check of step k − 1 (R235). -/
def State.checkUnannounced (s : State) (k : Nat) : State :=
  match s.unannounced k with
  | some e => s.takeUnannounced k e
  | none => s

/-- The telemetry record of step k, written as it ends (R396, R397). -/
def State.telStep (s : State) (k : Nat) (unann : Bool) : State :=
  match s.sampleAt k with
  | none => s
  | some p =>
    if s.dies = 0 then s
    else
      let bit := fun (i : Nat) (b : Bool) => if b then 2 ^ i else 0
      let bits := bit 0 p.edge + bit 1 unann + bit 2 (s.fcst.hints.any fun h => h.kh == k)
        + bit 3 (s.fcst.hints.any fun h => h.inserted && h.kh == k) + bit 4 p.clamped + bit 5 p.confCut
        + bit 6 (s.isSet FCST_STATUS_QUIET)
      s.memPut (sysBase + 0x80000000 + 32 * (k % telRecords))
        (leBytes 8 (1000 * k) ++ leBytesI 4 (s.fcst.lm.headD 0) ++ leBytesI 4 p.load ++ leBytesI 4 p.pff ++ leBytesI 4 p.grid
          ++ leBytesI 2 (roundDiv p.conf 10) ++ leBytes 1 (if p.hintOnly then 2 else 1) ++ leBytes 1 bits ++ zeros 4)

/-- COMMIT_STEP: step boundary t_k (R228). -/
def execCommitStep (s : State) : Res := s.on fun s =>
  if !s.fcst.running then .next s
  else
    let k := s.now / 1000
    let s := (s.beginStep k).commitSample (k + 50)
    let s := s.mergeDue (k + 50)
    let unann := (s.unannounced k).isSome
    .next (((((s.checkUnannounced k).quietEval.hrEval).telStep (k - 1) unann).showNow k))

/-- HINT_EXPIRY: the current step has passed the end of a hint's effect (R224). -/
def execHintExpiry (i : Fin 32) (s : State) : Res := s.on fun s =>
  .next { s with fcst := { s.fcst with
    hints := s.fcst.hints.filter fun h => !(h.slot == i.val && decide (h.stop ≤ s.now / 1000)) } }

/-- HR_RELEASE: HR_RELEASE_MS with neither a clamp nor an excess (R234). -/
def execHrRelease (s : State) : Res := s.on fun s =>
  if s.hrExcess then .next s else .next (s.clear FCST_STATUS_HR_REQ)

/-- The commit starts with the loops of R93 (R228). -/
def State.commitStart (s : State) : State :=
  { s with fcst := { s.fcst with
      running := true, step := s.now / 1000, startGen := (List.range 16).map fun x => s.rdN (FCST_STR_GEN x) } }.set FCST_STATUS_MODE 2

/-- One full horizon forecast (R93): every enabled MODEL stream has completed a horizon since the commit started, as its GEN
counts them (R226; DEDUCED, log 32). -/
def State.horizonDone (s : State) : Bool :=
  (List.range 16).all fun x => !s.isSet (FCST_STR_CTRL_ENABLE x) || s.isSet (FCST_STR_CTRL_SRC x)
    || s.rdN (FCST_STR_GEN x) != s.fcst.startGen.getD x 0

end Sys2Proof.Machine
end

