-- ==== Sys2Proof/Machine/Wear.lean ====
section
/-! DEFINITION. An arming attempt that fails before the contactor request (R95, R96), and Remount's wear
copy in MRAM: its bytes, its choice and its restore (R473 to R475). -/

namespace Sys2Proof.Machine

/-! ### Errors and failed attempts (R91, R95, R96) -/

/-- Show an ERR_CODE with its BOOT_ERR_INFO (R91). -/
def State.bootErr (s : State) (code info : Nat) : State := (s.set BOOT_STATUS_ERR_CODE code).wrN BOOT_ERR_INFO info

/-- ERR_CODE returns to 0x00, and BOOT_ERR_INFO to the skip count of R78 (R90, R91). -/
def State.bootErrClear (s : State) : State := s.bootErr 0 s.boot.skipped

/-- Under the auto policy a failed attempt leaves a retry to come, with RETRIES_LEFT loaded at the first one (R96). DESIGN CHOICE
(log 69): neither ARMED nor a new LOADED reloads it. -/
def State.retryAfter (s : State) : State :=
  if s.profileAt 0x8006 0 1 0 ≠ 1 then s
  else
    let s := if s.boot.retryLoaded then s else
      { s.set BOOT_STATUS_RETRIES_LEFT (s.profileAt 0x8006 4 1 3) with boot := { s.boot with retryLoaded := true } }
    { s with boot := { s.boot with retryWait := s.get BOOT_STATUS_RETRIES_LEFT != 0 } }

/-- An arming attempt fails before the contactors are requested: back to PASSIVE with the bundle kept, a
re-arm's recovery ended with its cause set (R95, R96, R421). -/
def State.armFail (s : State) (code info : Nat) : State :=
  let s := (s.bootErr code info).openDue [0, 1]
  let s := { s with boot := { s.boot with armStep := 0, contRequested := false, rearm := false } }
  let s := s.enter stPassive
  ((s.set BRD_STATUS_RECOV 0).clearCauses).retryAfter

/-- From the first LOADED on, the channels of a connector that MEZ_FITTED marks not fitted are held out of service (R504). -/
def State.unfitted (s : State) (n : Nat) : Bool := s.boot.everLoaded && !bitOf (s.profileAt 0x8003 0 1 0) (chanMez n)

/-! ### The wear copy (R473) -/

/-- The MRAM address of wear copy i. -/
def wearBase (i : Nat) : Nat := 0x1000 * (396 + 8 * i)

/-- A cell position's ROLE (R262). -/
def State.cellRole (s : State) (x p : Nat) : Nat := (s.ring.strs.getD x {}).role.getD p 0

/-- Give a position its role; the cell window follows with its next sweep (R258). -/
def State.setRole (s : State) (x p r : Nat) : State :=
  let q := s.ring.strs.getD x {}
  { s with ring := { s.ring with strs := s.ring.strs.set x { q with role := q.role.set p r } } }

/-- The identity of the shelf in a wear copy: the low words of the eight monitors, HALL_ID, SHELF_ID (R473). -/
def State.shelfIdent (s : State) : List Byte :=
  ((List.range 8).map fun i => leBytes 4 (s.rdN (RING_MON_UID_LO (i / 4) (i % 4)))).flatten
    ++ leBytes 2 (s.get FAB_ID_HALL_ID) ++ leBytes 2 (s.get FAB_ID_SHELF_ID)

/-- A phase channel's part of a wear copy. -/
def State.wearPhase (s : State) (n : Nat) : List Byte :=
  let w := s.rmt.phase.getD n {}
  leBytes 4 (w.secs / 36) ++ leBytes 4 w.cycles ++ leBytes 2 w.faults ++ leBytes 1 (s.get (HRN_CH_CTRL_ROLE n))
    ++ leBytes 1 ((s.rank n).getD 0xFF) ++ zeros 20

/-- A cell position's part. -/
def State.wearCell (s : State) (i : Nat) : List Byte :=
  let w := s.rmt.cells.getD i {}
  leBytes 1 (if w.retired then 2 else s.cellRole (i / 52) (i % 52)) ++ leBytes 1 w.swaps ++ zeros 2
    ++ leBytes 2 w.rAt ++ zeros 2

/-- A Larkspur physical core's part. -/
def State.wearCore (s : State) (i : Nat) : List Byte :=
  let w := s.rmt.cores.getD i {}
  leBytes 1 (s.get (LKS_PCORE_ROLE (i / 68) (i % 68))) ++ leBytes 1 (s.get (LKS_PCORE_LOGICAL (i / 68) (i % 68)))
    ++ leBytes 2 w.ceAt.length ++ leBytes 4 w.total

/-- A Tack core's part: the logical core it carries, 0xFF for none, and its failures (log 33). -/
def State.wearTack (s : State) (i : Nat) : List Byte :=
  leBytes 1 ((s.rmt.tackMap.findIdx? (· == i)).getD 0xFF) ++ leBytes 3 0 ++ leBytes 4 (s.rmt.tackFail.getD i 0)

/-- A repair-map entry's part. -/
def repairBytes (r : Repair) : List Byte :=
  leBytes 1 r.kind ++ leBytes 1 r.unit ++ leBytes 2 (min r.ce 65535) ++ leBytes 8 r.addr ++ leBytes 1 r.state ++ zeros 3

/-- A bank's crossbar map and its failures (log 33). -/
def State.wearBank (s : State) (b : Nat) : List Byte :=
  let l := (s.rmt.inputs.drop (28 * b)).take 28
  l.map (fun i => BitVec.ofNat 8 i.conv) ++ leBytes 4 (l.foldl (fun n i => n + i.fails) 0)

/-- The bytes of a wear copy of generation g (R473). -/
def State.wearBytes (s : State) (g : Nat) : List Byte :=
  let head := [0x52#8, 0x4D#8, 0x54#8, 0x57#8] ++ leBytes 4 g ++ leBytes 8 s.opsec ++ leBytes 4 (s.rdN SBG_CYCLES)
    ++ s.shelfIdent ++ zeros 8
  let body := head ++ ((List.range 104).map s.wearPhase).flatten ++ ((List.range 104).map s.wearCell).flatten
    ++ ((List.range 136).map s.wearCore).flatten
    ++ padTo 64 (((List.range 5).map s.wearTack).flatten)
    ++ padTo 4096 (((s.rmt.repairs.take 256).map repairBytes).flatten)
    ++ padTo 256 (((List.range 8).map s.wearBank).flatten)
    ++ padTo 128 ((s.rmt.mramMap.take 32).map fun p => leBytes 2 p.2 ++ leBytes 2 p.1).flatten
    ++ ((List.range 64).map fun i => padTo 32 (s.rmt.log.getD i [])).flatten
  withCrc (padTo 0x7FFC body)

/-- The MRAM writer has nothing that goes before a wear copy, and none of the copy's sectors is being remapped (R296, R467, R473). -/
def State.wearFree (s : State) : Bool :=
  s.hrn.lfrQ.isEmpty && !s.isSet EST_JNL_STATUS_BUSY && !s.isSet EST_JNL_STATUS_PENDING && (s.path 0).queue.isEmpty
    && !(List.range 8).any fun i => s.sectorMoving (wearBase s.rmt.copy + 0x1000 * i)

/-- A wear copy that is due is written once the writer is free (R473). -/
def State.wearGo (s : State) : State :=
  if s.rmt.due && s.wearFree then
    { s with
      mram := sparseWriteBytes s.mram (wearBase s.rmt.copy) (s.wearBytes (s.rmt.gen + 1)),
      rmt := { s.rmt with gen := s.rmt.gen + 1, copy := 1 - s.rmt.copy, due := false } }
  else s

/-- A wear copy becomes due; nothing after the write fence (R471, R473). -/
def State.writeWear (s : State) : State :=
  if s.fenced then s else ({ s with rmt := { s.rmt with due := true } }).wearGo

/-- A wear copy that power loss cuts off (R473): each of its 512-byte pieces is the new one or the old one, by a free choice
(log 2). -/
def State.tearWear (s : State) : State :=
  if !s.rmt.due then s
  else
    let f := s.fresh
    let a := wearBase s.rmt.copy
    let new := s.wearBytes (s.rmt.gen + 1)
    let old := sparseReadBytes s.mram a 0x8000
    { f.2 with
      mram := sparseWriteBytes s.mram a (((List.range 64).map fun i =>
        slice (if bitOf f.1 i then new else old) (512 * i) 512).flatten),
      rmt := { f.2.rmt with due := false } }

/-! ### The restore (R475) -/

/-- Wear copy i, if its MAGIC and CRC-32C check. -/
def State.wearCopy (s : State) (i : Nat) : Option (List Byte) :=
  if sparseReadBytes s.mram (wearBase i) 4 = [0x52#8, 0x4D#8, 0x54#8, 0x57#8] ∧ crcOk (sparseReadBytes s.mram (wearBase i) 0x8000) then
    some (sparseReadBytes s.mram (wearBase i) 0x8000)
  else none

/-- The winning copy: the valid one of the higher GEN, with its index. -/
def State.wearWinner (s : State) : Option (Nat × List Byte) :=
  match s.wearCopy 0, s.wearCopy 1 with
  | some a, some b => if leAt a 4 4 < leAt b 4 4 then some (1, b) else some (0, a)
  | some a, none => some (0, a)
  | none, some b => some (1, b)
  | none, none => none

/-- A repair-map entry read back; none where the entry is empty. -/
def repairOf (l : List Byte) : Option Repair :=
  if l.all (· == 0) then none
  else some { kind := leAt l 0 1, unit := leAt l 1 1, ce := leAt l 2 2, addr := leAt l 4 8, state := leAt l 12 1 }

/-- The entries of a table within bytes. -/
def tableOf (l : List Byte) (off n size : Nat) : List (List Byte) := (List.range n).map fun i => slice l (off + size * i) size

/-- The module-side records come back (kinds 2 to 9, R475). -/
def State.wearModule (s : State) (l : List Byte) : State :=
  let cores := tableOf l 0x1080 136 8
  let tack := tableOf l 0x14C0 5 8
  let s := { s with rmt := { s.rmt with
    cores := cores.map fun c => { ceAt := List.replicate (leAt c 2 2) s.opsec, total := leAt c 4 4, ue := 0 },
    tackMap := (List.range 4).map fun k => (tack.findIdx? fun c => leAt c 0 1 == k).getD k,
    tackFail := tack.map fun c => leAt c 4 4,
    repairs := (tableOf l 0x1500 256 16).filterMap repairOf,
    inputs := (List.range 224).map fun i => { conv := leAt l (0x2500 + 32 * (i / 28) + i % 28) 1 },
    mramMap := ((tableOf l 0x2600 32 4).filter fun e => leAt e 0 2 != 0).map fun e => (leAt e 2 2, leAt e 0 2),
    log := tableOf l 0x2680 64 32 } }
  if variantDies s.otp.variant = 0 then s
  else forN (68 * variantDies s.otp.variant) (fun i t =>
    let c := cores.getD i []
    let t := (t.set (LKS_PCORE_ROLE (i / 68) (i % 68)) (leAt c 0 1)).set (LKS_PCORE_LOGICAL (i / 68) (i % 68)) (leAt c 1 1)
    if leAt c 0 1 = 0 ∧ leAt c 1 1 < 64 then t.set (LKS_CORE_PHYS (i / 68) (leAt c 1 1)) (i % 68) else t) s

/-- The newest slot of the substitution log by SEQ, and the next SEQ (R474). -/
def State.logFind (s : State) : State :=
  let seqs := s.rmt.log.map fun e => leAt e 0 4
  let top := seqs.foldl Nat.max 0
  let i := (seqs.findIdx? (· == top)).getD 0
  if top = 0 then s
  else
    ({ s with rmt := { s.rmt with logSeq := top + 1, logNext := (i + 1) % 64 } }).set RMT_LOG_STATUS_NEWEST i

/-- The restore at power-up (R475): SHELF_FOREIGN until the shelf has been recognised, NO_WEAR without a copy. -/
def State.wearPowerUp (s : State) : State :=
  let s := (s.set RMT_STATUS_SHELF_FOREIGN 1).set RMT_STATUS_NO_WEAR 0
  match s.wearWinner with
  | none => s.set RMT_STATUS_NO_WEAR 1
  | some (i, l) => ({ (s.wearModule l) with rmt := { (s.wearModule l).rmt with gen := leAt l 4 4, copy := 1 - i, won := some l } }).logFind

/-- The rank that a spare channel's part of a wear copy names, if it is in service. -/
def spareRankOf (w : List Byte) : Option Nat := if leAt w 10 1 = 1 ∧ leAt w 11 1 < 48 then some (leAt w 11 1) else none

/-- The shelf-side records come back (kinds 0 and 1, R475): counts, channel roles and ranks, retired cells. -/
def State.wearShelf (s : State) (l : List Byte) : State :=
  let ph := tableOf l 0x40 104 32
  let ce := tableOf l 0xD40 104 8
  let s := { s with
    rmt := { s.rmt with
      phase := ph.map fun w => { secs := 36 * leAt w 0 4, cycles := leAt w 4 4, faults := leAt w 8 2 },
      cells := ce.map fun w => { swaps := leAt w 1 1, rAt := leAt w 4 2, retired := leAt w 0 1 == 2 } },
    hrn := { s.hrn with spareRank := (ph.drop 96).map spareRankOf } }
  let s := forN 104 (fun n t => t.set (HRN_CH_CTRL_ROLE n) (if t.unfitted n then 0 else leAt (ph.getD n []) 10 1 % 4)) s
  forN 104 (fun i t =>
    if leAt (ce.getD i []) 0 1 = 2 ∧ t.cellRole (i / 52) (i % 52) = 1 then t.setRole (i / 52) (i % 52) 2 else t) (s.clear RMT_STATUS_SHELF_FOREIGN)

/-- The shelf-side restore at the first enumeration of both strings, from the copy that won at power-up (R475). -/
def State.shelfRestore (s : State) : State :=
  if s.rmt.shelfDone then s
  else
    let copy := s.rmt.won
    let s := { s with rmt := { s.rmt with shelfDone := true, won := none } }
    match copy with
    | some l => if slice l 0x14 36 = s.shelfIdent then s.wearShelf l else s
    | none => s

end Sys2Proof.Machine
end

