-- ==== Sys2Proof/Machine/Journal.lean ====
section
/-! DEFINITION. The learned-value journal of the estimators (R294 to R300): an entry's bytes, its write,
the restore at the first arming, and the reference that the start-up average sets (R293). -/

namespace Sys2Proof.Machine

/-- Change a string's estimator. -/
def State.setEs (s : State) (x : Nat) (e : EstStr) : State := { s with est := { s.est with strs := s.est.strs.set x e } }

/-- Whether a string's contactor is closed, by its feedback (R46, R47). -/
def State.contClosed (s : State) (x : Nat) : Bool := bitOf (s.get SYS_CONN_STATUS_CONT_FB) x

/-! ### Entries (R294) -/

/-- The MRAM address of journal slot i. -/
def jnlBase (i : Nat) : Nat := 0x1000 * 384 + 512 * i

/-- Slot i, if its MAGIC and CRC-32C check (R297). -/
def State.jnlSlot (s : State) (i : Nat) : Option (List Byte) :=
  let l := sparseReadBytes s.mram (jnlBase i) 512
  if l.take 4 = [0x45#8, 0x53#8, 0x54#8, 0x4A#8] ∧ crcOk l then some l else none

/-- The valid slot of the highest GEN, with its bytes (R297). -/
def State.jnlWinner (s : State) : Option (Nat × List Byte) :=
  (List.range 64).foldl (fun b i =>
    match b, s.jnlSlot i with
    | none, some l => some (i, l)
    | some (j, m), some l => if leAt m 4 4 < leAt l 4 4 then some (i, l) else some (j, m)
    | b, none => b) none

/-- The journal registers that come from MRAM at power-up (R301). -/
def State.jnlPowerUp (s : State) : State :=
  match s.jnlWinner with
  | some (i, l) => ((s.set EST_JNL_STATUS_NEWEST i).set EST_JNL_STATUS_ANY 1).wrN EST_JNL_GEN (leAt l 4 4)
  | none => s

/-! ### The restore (R297, R298) -/

/-- A string's live values from an entry. -/
def State.jnlLoad (s : State) (l : List Byte) (x : Nat) : State :=
  let o := 0x20 + 16 * x
  let base := fun (p : Nat) => leAt l (0x110 + 104 * x + 2 * p) 2
  let e : EstStr := { s.es x with
    efc := (leAt l o 4 : Rat), bias := (leAtI l (o + 6) 2 : Rat), ref := leAt l (o + 8) 8,
    r := (List.range 52).map (fun p => (leAt l (0x40 + 104 * x + 2 * p) 2 : Rat)),
    rBase := (List.range 52).map (fun p => if base p = 0xFFFF then none else some (base p)) }
  let s := (s.setEs x e).wrN (EST_EFC x) (leAt l o 4)
  ((s.setI (EST_BIAS_SOC_OFFSET x) (leAtI l (o + 4) 2)).setI (EST_BIAS_I_BIAS x) (leAtI l (o + 6) 2)).wr64 (EST_REF_LO x) (EST_REF_HI x) e.ref

/-- A string starts without an entry: I_BIAS 0, R_INIT, no R_BASE; EFC stays as reset or the host left it (R298). -/
def State.jnlFresh (s : State) (x : Nat) : State :=
  s.setEs x { s.es x with
    bias := 0, r := List.replicate 52 (s.profileAt 0x8008 12 2 0 : Rat), rBase := List.replicate 52 none }

/-- The newest entry shows a contactor opening REST_S operating seconds back, or an earlier power cycle. -/
def State.relaxed (s : State) : Bool :=
  if !s.isSet EST_JNL_STATUS_ANY then false
  else
    match s.jnlSlot (s.get EST_JNL_STATUS_NEWEST) with
    | some l => (bitOf (leAt l 0x1C 1) 2 && decide (leAt l 0x10 8 + s.get EST_REST_CFG_REST_S ≤ s.opsec))
        || decide (leAt l 0x18 4 < s.rdN SBG_CYCLES)
    | none => false

/-- A start-up average of this power-up sets REF where the cells have relaxed (R293). -/
def State.startSetsRef (s : State) (x : Nat) : State :=
  match (s.es x).refAt with
  | some t => if s.relaxed then (s.setEs x { s.es x with ref := t }).wr64 (EST_REF_LO x) (EST_REF_HI x) t else s
  | none => s

/-- Learned values come back, once per power-up, at the first arming (R297, R298). -/
def State.restoreLearned (s : State) : State :=
  if s.boot.restored then s
  else
    let s := { s with boot := { s.boot with restored := true } }
    match s.jnlWinner with
    | some (_, l) => (((s.jnlLoad l 0).jnlLoad l 1).startSetsRef 0).startSetsRef 1
    | none => ((s.set EST_STATUS_NO_JOURNAL 1).jnlFresh 0 |>.jnlFresh 1).raise 0x040C 0 0 0

/-! ### The start-up reference (R293) -/

/-- The start-up average of a string sets v̂ of its ACTIVE and SPARE positions and counts as a reference (R293). -/
def State.startRef (s : State) (x : Nat) : State :=
  let e := s.es x
  let r := s.ring.strs.getD x {}
  let use := fun (p : Nat) => s.cellRole x p == 0 || s.cellRole x p == 1
  (s.setEs x { e with
    vhat := (List.range 52).map (fun p => if use p then quot (r.avgSum.getD p 0 : Nat) (r.avgN.getD (p / 13) 0 : Nat) else e.vhat.getD p 0),
    age := (List.range 52).map (fun p => if use p then 0 else e.age.getD p 0), refAt := some s.opsec }).startSetsRef x

/-! ### Writing (R295, R296) -/

/-- The slot of the entry that is being written: after the newest valid one and those that failed to verify (R296). -/
def State.jnlNext (s : State) : Nat :=
  (s.get EST_JNL_STATUS_NEWEST + (if s.isSet EST_JNL_STATUS_ANY then 1 else 0) + s.est.jnlSkip) % 64

/-- JOURNAL_PERIODIC: 600 operating seconds since the last entry, while a string is enumerated (R295). -/
def execJournalPeriodic (s : State) : Res := s.on fun s =>
  if s.get (RING_STATUS_ENUM 0) = 5 ∨ s.get (RING_STATUS_ENUM 1) = 5 then .next (s.jnlTrigger 0) else .next s

/-- A host trigger of the journal (R295). -/
def State.writeNow (s : State) : State := (s.jnlTrigger 6).clear EST_JNL_CTRL_WRITE_NOW

/-- WRITE_NOW (R295): queued, which clears the bit. -/
def execWriteNow (s : State) : Res := s.on fun s => .next s.writeNow

/-- A failed verify of a sector counts towards its remap (R460, R467). -/
def State.mramFailed (s : State) (sector : Nat) : State :=
  let l := s.rmt.mramFail
  let n := ((l.find? (·.1 == sector)).map (·.2)).getD 0
  { s with rmt := { s.rmt with mramFail := (sector, n + 1) :: l.filter (·.1 != sector) } }

/-- JOURNAL_WRITE_COMPLETE (R296): the entry, as it was when its write started, stands in the slot after the newest valid one; read
back wrong, the slot holds free bytes (log 2) and the entry is written again into the following slot, unless the write fence is set
(R299). A pending entry follows. -/
def execJournalWriteComplete (mismatch : Bool) (s : State) : Res := s.on fun s =>
  if !s.isSet EST_JNL_STATUS_BUSY || s.sectorMoving (jnlBase s.jnlNext) then .next s
  else
    let i := s.jnlNext
    if mismatch then
      let (n, s) := s.fresh
      let s := ({ s with mram := sparseWriteBytes s.mram (jnlBase i) (leBytes 512 n), est := { s.est with jnlSkip := s.est.jnlSkip + 1 } }.raiseBit
        EST_STATUS_VERIFY_ERR 240).mramFailed (384 + i / 8)
      if s.fenced then .next (({ s with est := { s.est with snap := [] } }.clear EST_JNL_STATUS_BUSY).bumpSat EST_JNL_STATUS_LOST 1)
      else .next s
    else
      let g := leAt s.est.snap 4 4
      let s := { s with
        mram := sparseWriteBytes s.mram (jnlBase i) s.est.snap, est := { s.est with snap := [], jnlSkip := 0 } }
      .next ((((s.clear EST_JNL_STATUS_BUSY).set EST_JNL_STATUS_NEWEST i).set EST_JNL_STATUS_ANY 1).wrN EST_JNL_GEN g).jnlStart.wearGo

/-- A host write of EST_x_EFC (R17, R298). -/
def State.efcWrite (s : State) (x : Nat) (v : Word) : State :=
  if s.shelf ≠ stPassive ∧ s.rd (EST_EFC x) ≠ v then s.refuse (EST_EFC x) v.toNat
  else
    let s := (s.wr (EST_EFC x) v).clear EST_STATUS_NO_JOURNAL
    s.setEs x { s.es x with efc := (v.toNat : Rat) }

/-- EFC_WRITE (R298). -/
def execEfcWrite (x : StrNo) (v : Word) (s : State) : Res := s.on fun s => .next (s.efcWrite x.val v)

end Sys2Proof.Machine
end

