-- ==== Sys2Proof/Machine/Ring.lean ====
section
/-! DEFINITION. The Hollyhock rings (R243 to R277): frames, heartbeats, enumeration, sweeps and breaks,
the cell window, limit, sum and candidate checks, open-wire tests, balancing, swaps. Voltages are in 100 µV. -/

namespace Sys2Proof.Machine

/-! ### Frames (R246 to R249) -/

/-- A string's ring. -/
def State.rs (s : State) (x : Nat) : RStr := s.ring.strs.getD x {}

/-- Change a string's ring. -/
def State.setRs (s : State) (x : Nat) (r : RStr) : State := { s with ring := { s.ring with strs := s.ring.strs.set x r } }

/-- A frame (R247): header, payload, CRC-32C. -/
def ringFrame (kind dest sweep dir mhb : Nat) (payload : List Byte) : List Byte :=
  withCrc (leBytes 1 kind ++ leBytes 1 dest ++ leBytes 1 sweep ++ leBytes 1 dir ++ leBytes 1 mhb
    ++ leBytes 2 payload.length ++ leBytes 1 1 ++ payload)

/-- A byte on the line, in half bits of 250 ns: Manchester, the least significant bit first, a 1 from low to high (R246). -/
def manchester (b : Byte) : List Bool :=
  ((List.range 8).map fun i => if b.getLsbD i then [false, true] else [true, false]).flatten

/-- A frame on the line (R246): the start delimiter, the bytes, the end delimiter, eight bit times of idle. -/
def ringLine (frame : List Byte) : List Bool :=
  [true, true, false, false] ++ (frame.map manchester).flatten ++ [false, false, true, true] ++ (List.replicate 8 [false, true]).flatten

/-- Send a frame from an end of a string's ring: 0 for end 1, 1 for end 2. -/
def State.sendRing (s : State) (x e kind dest : Nat) (payload : List Byte) : State :=
  s.emit (.ring x e kind (ringLine (ringFrame kind dest (s.rdN (RING_SEQ x) % 256) e s.ring.mhb payload)))

/-- Queue a command frame for the next sweep (R258): its kind, destination and payload after CMD_SEQ. -/
def State.queueFrame (s : State) (x kind dest : Nat) (payload : List Byte) : State :=
  s.setRs x { s.rs x with frames := (s.rs x).frames ++ [(kind + 256 * dest, payload)] }

/-- Queue a command frame ahead of those that wait: OPEN_WIRE and BYPASS keep the sweep that R269 and R274 give them. -/
def State.queueFront (s : State) (x kind dest : Nat) (payload : List Byte) : State :=
  s.setRs x { s.rs x with frames := (kind + 256 * dest, payload) :: (s.rs x).frames }

/-! ### What a sweep brings back (R249, R250, R263, R264) -/

/-- The bytes of a slot in a frame. -/
def slotBytes (f : List Byte) (m : Nat) : List Byte := (f.drop (8 + 44 * m)).take 44

/-- A slot is accepted when its CRC-16 checks and ADDR matches its index (R249, R250). -/
def parseSlot (l : List Byte) (m : Nat) : Option Slot :=
  if l.length = 44 ∧ leAt l 0 1 = m ∧ leAt l 42 2 = (crc16 (l.take 42)).toNat then
    some {
      hb := leAt l 1 1, echo := leAt l 2 1, result := leAt l 3 1, status := leAt l 4 2,
      volts := (List.range 13).map fun j => leAt l (6 + 2 * j) 2, t0 := leAtI l 32 2, t1 := leAtI l 34 2,
      bal := leAt l 36 2, byp := leAt l 38 2 }
  else none

/-- WRAP of a frame's FLAGS, with WRAP_ADDR (R247). -/
def wrapOf (f : List Byte) : Option Nat :=
  if 4 ≤ f.length ∧ bitOf (leAt f 3 1) 1 then some (leAt f 3 1 / 4 % 4) else none

/-- The hop of a break (R263): behind the monitor that wraps the frame from end 1, or before the one that wraps the frame from
end 2. -/
def breakHop (i : SweepIn) : Option Nat :=
  match wrapOf i.fwd, wrapOf i.rev with
  | some m, _ => some (m + 1)
  | none, some m => some m
  | none, none => none

/-- A sweep as the module reads it: a slot from end 1's frame, else from end 2's; a break shows as a wrap, a truncation or a
link loss at end 2, which 2 µs without a valid transition make (R246, R264). -/
def readSweep (linkUp : Bool) (i : SweepIn) : Sweep :=
  let a := (List.range 4).map fun m => parseSlot (slotBytes i.fwd m) m
  let b := (List.range 4).map fun m => parseSlot (slotBytes i.rev m) m
  let good := fun (f : List Byte) => f.length != 188 || crcOk f
  { slots := (List.range 4).map fun m => ((a.getD m none).or (b.getD m none)),
    far := (List.range 4).map fun m => (a.getD m none).isNone && (b.getD m none).isSome,
    crcGood := good i.fwd && good i.rev,
    broken := i.fwd.length != 188 || (wrapOf i.fwd).isSome || !linkUp || decide (200 < i.silence),
    hop := breakHop i, skew := i.skew.val }

/-- The link at end 2: lost after 2 µs without a valid transition, present again after 64 bit times of valid idle (R246). -/
def linkNow (was : Bool) (i : SweepIn) : Bool := if 200 < i.silence then decide (64 ≤ i.idle) else was || decide (64 ≤ i.idle)

/-- A ring event bit rises: its vector, and its Saddlebag record where no code of R417 carries it (R277). The index of such a
record is 32 × string + the bit's number (DESIGN CHOICE, log 60). -/
def State.ringEvt (s : State) (x : Nat) (f : Nat → Field) (coded : Bool) : State :=
  if s.isSet (f x) then s
  else
    let s := s.raiseBit (f x) (238 + x)
    if coded then s else s.record kFault 1 3 0 (32 * x + (f x).lo) 0 false (zeros 8 ++ leBytes 1 (32 * x + (f x).lo) ++ leBytes 1 s.shelf ++ zeros 2)

/-- RING is clocked (R119, R257). -/
def State.ringClocked (s : State) : Bool := s.isSet ⟨CLK_GATE_EFF, 6, 1⟩

/-- Whether a string's ring has been enumerated. -/
def State.ringDone (s : State) (x : Nat) : Bool := s.get (RING_STATUS_ENUM x) == 5

/-- A monitor's state (R277). -/
def State.monSt (s : State) (x m : Nat) : Nat := s.get (RING_MON_STATUS_MSTATE x m)

/-- MHB is frozen: no kick within 2 ms (R251). -/
def State.mhbFrozen (s : State) : Bool :=
  match s.ring.kick with
  | some t => decide (t + 2 * tickMs < s.elapsed)
  | none => true

/-- The monitors have been without the module's heartbeat for 3 ms (R251). -/
def State.hbAbsent (s : State) : Bool :=
  match s.ring.movedAt with
  | some t => decide (t + 3 * tickMs ≤ s.elapsed)
  | none => true

/-- The leases that run: none has ended or been voided by a lost heartbeat (R251, R272). -/
def State.liveLeases (s : State) (x : Nat) : List BalOn :=
  if s.hbAbsent then [] else (s.rs x).leases.filter fun o => s.elapsed < o.stop

/-! ### Cells (R262) -/

/-- Bit fields of a cell entry. -/
def cellBit (x p b : Nat) : Field := ⟨RING_CELL_0 x p, b, 1⟩
def cellVolt (x p : Nat) : Field := ⟨RING_CELL_0 x p, 0, 16⟩
def cellRoleF (x p : Nat) : Field := ⟨RING_CELL_1 x p, 8, 2⟩
def cellAge (x p : Nat) : Field := ⟨RING_CELL_1 x p, 0, 8⟩
def cellTemp (x p : Nat) : Field := ⟨RING_CELL_1 x p, 16, 16⟩

/-- A cell's voltage, and its VALID bit. -/
def State.volt (s : State) (x p : Nat) : Nat := s.get (cellVolt x p)
def State.cellOk (s : State) (x p : Nat) : Bool := s.isSet (cellBit x p 31)

/-- The positions of a string in a role. -/
def State.roleCells (s : State) (x r : Nat) : List Nat := (List.range 52).filter fun p => s.cellRole x p == r

/-- The mean of the string's ACTIVE cells that carry VALID (R267). -/
def State.vbar (s : State) (x : Nat) : Rat :=
  let l := (s.roleCells x 0).filter (s.cellOk x)
  quot (l.foldl (fun a p => a + (s.volt x p : Rat)) 0) l.length

/-! ### Balancing (R272, R273) -/

/-- The other positions of a monitor that balance; for a start, those that wait to start count too (DEDUCED, log 34). -/
def State.balOthers (s : State) (x pos mode : Nat) : List Nat :=
  let r := s.rs x
  let wait := if mode = 0 then [] else ((r.sent ++ r.queue).filter (·.mode != 0)).map (·.pos)
  (((s.liveLeases x).map (·.pos) ++ wait).filter fun p => p / 13 == pos / 13 && p != pos).eraseDups

/-- Whether a swap or a test acts on a monitor. -/
def State.swapping (s : State) (x : Nat) : Bool := let t := s.get (RING_SWAP_STATE x); 1 ≤ t && t ≤ 4
def State.swapOn (s : State) (x m : Nat) : Bool :=
  s.swapping x && (s.get (RING_SWAP_POS_IN x) / 13 == m || s.get (RING_SWAP_POS_OUT x) / 13 == m)
def State.testOn (s : State) (x m : Nat) : Bool :=
  match (s.rs x).test with
  | some t => t.req.mon == m
  | none => false

/-- The first matching CAUSE of R273; 0 where the entry is taken. A position above 51 has no cell and no monitor: of the causes
before 10 only those of the module and the string can match. An OFF has no current and no lease (log 34). -/
def State.balCause (s : State) (x pos mode cur lease : Nat) : Nat :=
  let role := s.cellRole x pos
  let bit := fun b => s.isSet (cellBit x pos b)
  let real := decide (pos < 52)
  if role = 2 ∨ role = 3 then 1
  else if real && (bit 28 || bit 27 || bit 29 || bit 26) then 2
  else if (real && s.monSt x (pos / 13) == 2) || s.mhbFrozen then 3
  else if real ∧ ((mode = 1 ∧ s.volt x pos ≤ s.get RING_VLIM_LO_UV_WARN) ∨ (mode = 2 ∧ s.get RING_VLIM_HI_OV_WARN ≤ s.volt x pos)) then 4
  else if 2 ≤ (s.balOthers x pos mode).length then 5
  else if s.testOn x (pos / 13) then 6
  else if 16 ≤ ((s.rs x).queue.filter (·.pos != pos)).length then 7
  else if s.swapOn x (pos / 13) then 8
  else if !s.ringDone x || !s.isSet RING_CTRL_BAL_EN then 9
  else if mode = 3 ∨ 52 ≤ pos ∨ (mode ≠ 0 ∧ (cur = 0 ∨ 20 < cur ∨ lease = 0 ∨ 1000 < lease)) then 10
  else 0

/-- Show the number of entries that wait (R276). -/
def State.showQueued (s : State) : State := s.set RING_BAL_STATUS_QUEUED ((s.rs 0).queue.length + (s.rs 1).queue.length)

/-- Queue an entry; it replaces an earlier one for its position (R272). -/
def State.queueBal (s : State) (x : Nat) (e : BalEnt) : State :=
  (s.setRs x { s.rs x with queue := (s.rs x).queue.filter (·.pos != e.pos) ++ [e] }).showQueued.verbose 3 3

/-- A refusal of a balancing command (R273). -/
def State.balRefuse (s : State) (cause : Nat) : State := (s.set RING_BAL_STATUS_CAUSE cause).raiseBit RING_BAL_STATUS_REFUSED 238

/-- An OFF for a position that balances. -/
def State.balOff (s : State) (x pos : Nat) : State :=
  if (s.liveLeases x).any (·.pos == pos) ∨ ((s.rs x).sent ++ (s.rs x).queue).any (·.pos == pos) then s.queueBal x ⟨pos, 0, 0, 0⟩ else s

/-- Balancing on a monitor stops and its leases are voided (R269, R274). -/
def State.balStop (s : State) (x m : Nat) : State :=
  forL ((List.range 13).map (13 * m + ·)) (fun p t => t.balOff x p) s

/-- A RING_BAL_CMD write (R272, R273). -/
def State.balCmd (s : State) (v : Word) : State :=
  let x := fieldGet v 31 1
  let pos := fieldGet v 25 6
  let mode := fieldGet v 23 2
  let cur := fieldGet v 18 5
  let lease := fieldGet v 8 10
  let c := s.balCause x pos mode cur lease
  if c = 0 then s.queueBal x ⟨pos, mode, cur, lease⟩ else s.balRefuse c

/-- BAL_CMD (R272). -/
def execBalCmd (v : Word) (s : State) : Res := s.on fun s => .next (s.balCmd v)

/-- BAL_EN written 0: OFF to every balancing position (R276). -/
def State.balDisable (s : State) : State :=
  forN 104 (fun i t => t.balOff (i / 52) (i % 52)) (s.clear RING_CTRL_BAL_EN)

/-- BAL_DISABLE (R276). -/
def execBalDisable (s : State) : Res := s.on fun s => .next s.balDisable

/-! ### Open-wire tests: BUSY, abort (R269, R276) -/

/-- An OPEN_WIRE frame for the next sweep (R247, R269). -/
def State.owFrame (s : State) (x m w : Nat) (on : Bool) : State :=
  s.queueFront x 0x32 m (leBytes 1 w ++ leBytes 1 on.toNat ++ zeros 1)

/-- BUSY: a test runs on either string. -/
def State.owBusy (s : State) : State := s.setB RING_OW_RESULT_BUSY ((s.rs 0).test.isSome || (s.rs 1).test.isSome)

/-- The last test's wire and outcome (R276). -/
def State.owShow (s : State) (x : Nat) (q : OwReq) (isOpen aborted : Bool) : State :=
  (((((s.set RING_OW_RESULT_STRING x).set RING_OW_RESULT_MON q.mon).set RING_OW_RESULT_WIRE q.wire).setB RING_OW_RESULT_OPEN
    isOpen).setB RING_OW_RESULT_ABORTED aborted).owBusy

/-- The running test aborts without a result; the sink, if it is on, goes off; a candidate is kept (R269, R270). -/
def State.owAbort (s : State) (x : Nat) : State :=
  match (s.rs x).test with
  | none => s
  | some t =>
    let r := s.rs x
    let s := s.setRs x { r with
      test := none, waiting := if t.req.src = 0 then t.req :: r.waiting else r.waiting,
      frames := r.frames.filter fun f => f.1 % 256 != 0x32 }
    let s := if r.sink.isSome || r.owSent.isSome then s.owFrame x t.req.mon t.req.wire false else s
    s.owShow x t.req false true

/-! ### Enumeration (R254 to R256) -/

/-- The conditions of a ring that end with its enumeration: suspect and deviating pairs, lost monitors, a lost ring (R252, R253,
R270). -/
def State.enumEnds (s : State) (x : Nat) : State :=
  let pair := fun (c : Nat) (p : Nat) (t : State) => (t.unraise c (52 * x + p - 1)).unraise c (52 * x + p)
  let s := forL (s.rs x).dev (pair 0x0405) (forL (s.rs x).suspect (pair 0x040A) s)
  (forN 4 (fun m t => t.unraise 0x0408 (4 * x + m)) s).unraise 0x0409 x

/-- Enumeration of a string starts: both ENUM_RESET frames, then ENUM_ASSIGN with counter 0; leases are void. A running test
aborts; a CONFIG that waits and a swap stay. -/
def State.enumStart (s : State) (x : Nat) : State :=
  let s := (s.owAbort x).enumEnds x
  let r := s.rs x
  let s := s.setRs x {
    t0 := r.t0, cmdSeq := r.cmdSeq, role := r.role, frames := r.frames.filter (fun f => f.1 % 256 == 0x30), linkUp := r.linkUp,
    sink := r.sink, autoNext := r.autoNext, pauseEnd := r.pauseEnd, swapN := r.swapN, swapBack := r.swapBack, calm := r.calm,
    swapSent := r.swapSent, swapAt := r.swapAt }
  let s := (s.wrN (RING_STATUS x) 0x00070000).set (RING_STATUS_ENUM x) 2
  let s := forN 4 (fun m t => t.wr (RING_MON_STATUS x m) 0) s
  let s := (s.sendRing x 0 0x20 0xFF []).sendRing x 1 0x20 0xFF []
  (s.sendRing x 0 0x21 0xFF (zeros 68)).showQueued

/-- An ENUM request: taken in PASSIVE or ISOLATED, refused elsewhere (R254). -/
def State.enumRequest (s : State) (x : Nat) : State :=
  let s := s.clear (if x = 0 then RING_CTRL_ENUM_A else RING_CTRL_ENUM_B)
  if s.shelf = stPassive ∨ s.shelf = stIsolated then s.enumStart x else s.ringEvt x RING_EVT_REFUSED false

/-- ENUM (R254). -/
def execEnum (x : StrNo) (s : State) : Res := s.on fun s => .next (s.enumRequest x.val)

/-- Enumeration fails (R255); in the enumeration step of arming the attempt fails with 0x22 (R91). -/
def State.enumFail (s : State) (x cause : Nat) : State :=
  let s := ((s.set (RING_STATUS_ENUM x) 6).set (RING_STATUS_FAIL_CAUSE x) cause).ringEvt x RING_EVT_ENUM_FAIL false
  if s.shelf = stArming ∧ s.boot.armStep = 3 then s.armFail 0x22 (x + 1) else s

/-- ENUM_ASSIGN_RETURN: the counter is checked, ENUM_VERIFY leaves end 2 (R254, R255). -/
def execEnumAssignReturn (x : StrNo) (counter : Fin 256) (recs : List EnumRec) (s : State) : Res := s.on fun s =>
  if s.get (RING_STATUS_ENUM x.val) ≠ 2 then .next s
  else if counter.val ≠ 4 then .next (s.enumFail x.val 1)
  else .next (((s.setRs x.val { s.rs x.val with assign := recs }).set (RING_STATUS_ENUM x.val) 3).sendRing x.val 1 0x22 0xFF (zeros 68))

/-- The first cause of R255 that the verify records show; 0 for none. -/
def verifyCause (assign recs : List EnumRec) : Nat :=
  if recs.length ≠ 4 then 2
  else if recs.map (fun r => r.addr.val) ≠ [3, 2, 1, 0] ∨ recs.any (fun r => !r.facing)
      ∨ recs.reverse.map (fun (r : EnumRec) => r.uid) ≠ assign.map (fun (r : EnumRec) => r.uid) then 3
  else if (assign ++ recs).any (fun r => r.version.val != 1) then 5
  else if (recs.map (fun (r : EnumRec) => r.uid)).eraseDups.length ≠ 4 then 6
  else 0

/-- A string's identities are known: its monitors are present, its start-up average begins (R254). -/
def State.enumVerified (s : State) (x : Nat) (recs : List EnumRec) : State :=
  let s := forN 4 (fun m t =>
    let u := ((recs.reverse.map (fun (r : EnumRec) => r.uid)).getD m 0).toNat
    ((t.wrN (RING_MON_UID_LO x m) u).wrN (RING_MON_UID_HI x m) (u / 2 ^ 32)).set (RING_MON_STATUS_MSTATE x m) 1) s
  let s := s.setRs x { s.rs x with firstSweep := true, avgN := List.replicate 4 0, avgSum := List.replicate 52 0 }
  let s := (s.set (RING_STATUS_ENUM x) 4).wr (RING_SEQ x) 0
  if 4 ≤ s.get (RING_STATUS_ENUM 0) ∧ s.get (RING_STATUS_ENUM 0) ≤ 5 ∧ 4 ≤ s.get (RING_STATUS_ENUM 1)
      ∧ s.get (RING_STATUS_ENUM 1) ≤ 5 then s.shelfRestore else s

/-- ENUM_VERIFY_RETURN: the records are checked against the assignment (R254, R255). -/
def execEnumVerifyReturn (x : StrNo) (recs : List EnumRec) (s : State) : Res := s.on fun s =>
  if s.get (RING_STATUS_ENUM x.val) ≠ 3 then .next s
  else
    let c := verifyCause (s.rs x.val).assign recs
    if c ≠ 0 then .next (s.enumFail x.val c) else .next (s.enumVerified x.val recs)

/-- ENUM_FRAME_TIMEOUT: a frame has not returned within 2 ms (R255). -/
def execEnumFrameTimeout (x : StrNo) (s : State) : Res := s.on fun s =>
  if s.get (RING_STATUS_ENUM x.val) = 2 ∨ s.get (RING_STATUS_ENUM x.val) = 3 then .next (s.enumFail x.val 4) else .next s

/-! ### Command frames (R257, R258, R263, R272) -/

/-- A frame leaves from some ends. -/
def State.sendFrom (s : State) (x : Nat) (ends : List Nat) (kind dest : Nat) (payload : List Byte) : State :=
  forL ends (fun e t => t.sendRing x e kind dest payload) s

/-- A BALANCE frame takes up to eight entries, which act at the next SWEEP (R248, R272). -/
def State.sendBalance (s : State) (x : Nat) (ends : List Nat) : State :=
  let r := s.rs x
  let l := r.queue.take 8
  let q := (r.cmdSeq + 1) % 256
  let s := s.sendFrom x ends 0x31 0xFF (leBytes 1 q ++ leBytes 1 l.length ++ zeros 2
    ++ (l.map fun b => leBytes 4 (Config.ringEntry 0x31 (b.pos + 64 * b.mode + 256 * b.cur + 0x10000 * b.lease))).flatten)
  let mons := (l.map fun b => b.pos / 13).eraseDups
  (s.setRs x { r with
    queue := r.queue.drop 8, sent := r.sent ++ l, cmdSeq := q,
    asked := mons.map (fun m => (m, q)) ++ r.asked.filter fun a => !(mons.contains a.1) }).showQueued

/-- An OPEN_WIRE frame, to be remembered as sent. -/
def owOf (c : Nat) (p : List Byte) : Option (Nat × Nat × Bool) :=
  if c % 256 = 0x32 then some (c / 256, leAt p 0 1, leAt p 1 1 == 1) else none

/-- The next command frame leaves from some ends. -/
def State.sendNext (s : State) (x : Nat) (ends : List Nat) : State :=
  match (s.rs x).frames with
  | (c, p) :: t =>
    let q := ((s.rs x).cmdSeq + 1) % 256
    let s := s.setRs x { s.rs x with frames := t, cmdSeq := q, owSent := (owOf c p).or (s.rs x).owSent }
    s.sendFrom x ends (c % 256) (c / 256) (leBytes 1 q ++ p)
  | [] => if (s.rs x).queue.isEmpty then s else s.sendBalance x ends

/-- Up to so many command frames leave end 2 of an intact ring (R257). -/
def State.sendCmds (x : Nat) : Nat → State → State
  | 0, s => s
  | k + 1, s => State.sendCmds x k (s.sendNext x [1])

/-- The ends from which a frame reaches its monitors in SPLIT: both for all monitors, one for a single one (R263). -/
def State.endsFor (s : State) (x dest : Nat) : List Nat :=
  let h := s.get (RING_STATUS_BREAK_HOP x)
  if 4 ≤ dest ∨ h = 7 then [0, 1] else if dest < h then [0] else [1]

/-- The ends of the next command frame; a BALANCE frame goes to all. -/
def State.nextEnds (s : State) (x : Nat) : List Nat := s.endsFor x (((s.rs x).frames.head?.map fun f => f.1 / 256).getD 255)

/-- The command frames of a sweep in SPLIT: one for each end, after its SWEEP (R263). -/
def State.splitCmds (s : State) (x : Nat) : State :=
  let a := s.nextEnds x
  let s := s.sendNext x a
  if a.length = 1 ∧ (s.nextEnds x).length = 1 ∧ s.nextEnds x ≠ a then s.sendNext x (s.nextEnds x) else s

/-- The BYPASS frame of a swap: bypass switch of one position, cell switch of the other. -/
def State.swapFrame (s : State) (x i o : Nat) : State :=
  s.queueFront x 0x33 0xFF (leBytes 1 2 ++ zeros 2 ++ leBytes 4 (Config.ringEntry 0x33 (2 * i + 1)) ++ leBytes 4 (Config.ringEntry 0x33 (2 * o)))

/-- The BYPASS frame of a swap leaves with this sweep and so executes at the next one: once the string has carried no current for
1 ms, or at once where the swap is reversed (R248, R274). -/
def State.swapSend (s : State) (x : Nat) : State :=
  let r := s.rs x
  let still : Bool := match r.calm with
    | some t => decide (t + tickMs ≤ s.elapsed)
    | none => false
  if s.get (RING_SWAP_STATE x) = 1 ∧ r.swapSent = none ∧ (r.swapBack ∨ still) then
    let i := s.get (RING_SWAP_POS_IN x)
    let o := s.get (RING_SWAP_POS_OUT x)
    (s.setRs x { r with swapSent := some r.t0 }).swapFrame x (if r.swapBack then o else i) (if r.swapBack then i else o)
  else s

/-- HEARTBEAT and the command frames leave end 2 of an intact ring, 120 µs into the sweep (R257). -/
def State.endTwo (s : State) (x : Nat) : State :=
  if !(s.rs x).cmdsDue then s
  else
    let s := (s.setRs x { s.rs x with cmdsDue := false }).swapSend x
    State.sendCmds x 4 (s.sendRing x 1 0x40 0xFF [])

/-! ### Sweep start (R251, R257, R258) -/

/-- At a SWEEP's start delimiter the monitors execute what the last sweep's frames brought: leases start, replace those of their
positions and end, the open-wire sink goes on or off (R248, R269, R272). -/
def State.execSent (s : State) (x : Nat) : State :=
  let r := s.rs x
  let new := if s.hbAbsent then [] else (r.sent.filter (·.mode != 0)).map fun b => (⟨b.pos, b.mode, b.cur, s.elapsed + b.lease * tickMs⟩ : BalOn)
  let sink := match r.owSent with
    | some (m, w, on) => if on then some (m, w) else none
    | none => r.sink
  s.setRs x { r with
    leases := ((s.liveLeases x).filter fun o => !(r.sent.any (·.pos == o.pos))) ++ new, sent := [], owSent := none, sink := sink }

/-- The sweep of one string starts, or is skipped while READ_HELD frames run or in the gap of a
PLL_REF change (R257, R258, R264, R506). In SPLIT both ends send, and their command frames follow (R263). -/
def State.sweepOne (s : State) (x vstr : Nat) : State :=
  let en := s.get (RING_STATUS_ENUM x)
  let r := s.rs x
  if (en ≠ 4 ∧ en ≠ 5) ∨ !s.ringClocked then s
  else if r.readHeld || s.relock then (s.bumpSat (RING_ERR_CNT_SKIPPED x) 1).ringEvt x RING_EVT_SKIPPED false
  else
    let s := s.execSent x
    let s := s.setRs x { s.rs x with t0 := s.now, vstr := vstr, cmdsDue := !r.split }
    let s := s.sendRing x 0 0x10 0xFF (zeros 176)
    if r.split then ((s.sendRing x 1 0x10 0xFF (zeros 176)).swapSend x).splitCmds x else s

/-- SWEEP_START: MHB advances with a kick in the preceding 2 ms; both rings sweep; VSTR is sampled, 10 mV; leases that outlived the
heartbeat are void (R251, R257). -/
def execSweepStart (vstrA vstrB : Nat) (s : State) : Res := s.on fun s =>
  let s := (s.setRs 0 { s.rs 0 with leases := s.liveLeases 0 }).setRs 1 { s.rs 1 with leases := s.liveLeases 1 }
  let s := { s with ring := { s.ring with
    moved := !s.mhbFrozen, mhb := if s.mhbFrozen then s.ring.mhb else (s.ring.mhb + 1) % 256,
    movedAt := if s.mhbFrozen then s.ring.movedAt else some s.elapsed } }
  .next ((s.sweepOne 0 vstrA).sweepOne 1 vstrB)

/-- The kick of the module heartbeat. -/
def State.ringKick (s : State) : State := { s with ring := { s.ring with kick := some s.elapsed } }

/-- RING_HB_KICK (R251). -/
def execRingHbKick (s : State) : Res := s.on fun s => .next s.ringKick

/-! ### Monitors (R250 to R253) -/

/-- The accepted slot of a monitor, and the reading of a position. -/
def slotOf (i : Sweep) (m : Nat) : Option Slot := i.slots.getD m none
def voltOf (i : Sweep) (p : Nat) : Option Nat := (slotOf i (p / 13)).map fun t => t.volts.getD (p % 13) 0
def tempOf (i : Sweep) (p : Nat) : Option Int := (slotOf i (p / 13)).map fun t => if p % 13 < 7 then t.t0 else t.t1

/-- REF_FAULT of a monitor's slot. -/
def refFaultOf (i : Sweep) (m : Nat) : Bool := ((slotOf i m).map fun t => bitOf t.status 13).getD false

/-- A monitor becomes lost (R252). -/
def State.monLost (s : State) (x m : Nat) : State :=
  let s := (s.set (RING_MON_STATUS_MSTATE x m) 2).set (RING_STATUS_MON_LOST x) (bitPut (s.get (RING_STATUS_MON_LOST x)) m true)
  let s := s.set (RING_STATUS_MON_RECOV x) (bitPut (s.get (RING_STATUS_MON_RECOV x)) m false)
  let s := s.setRs x { s.rs x with back := (s.rs x).back.set m 0, lostFor := (s.rs x).lostFor.set m 0 }
  s.ringEvt x RING_EVT_MON_LOST false

/-- A lost monitor returns and enters recovery (R252, R261). -/
def State.monBack (s : State) (x m : Nat) : State :=
  let s := (s.set (RING_MON_STATUS_MSTATE x m) 3).set (RING_STATUS_MON_LOST x) (bitPut (s.get (RING_STATUS_MON_LOST x)) m false)
  let s := s.set (RING_STATUS_MON_RECOV x) (bitPut (s.get (RING_STATUS_MON_RECOV x)) m true)
  let r := s.rs x
  let s := s.setRs x { r with
    miss := r.miss.set m 0, lostFor := r.lostFor.set m 0, recN := r.recN.set m 0,
    recSum := (List.range 52).map fun p => if p / 13 = m then 0 else r.recSum.getD p 0 }
  s.ringEvt x RING_EVT_MON_BACK false

/-- A lost monitor's sweep: it returns after three advancing heartbeats, and 0x0408 follows MON_GRACE (R252, R417). -/
def State.monAway (s : State) (x m : Nat) (live : Bool) : State :=
  let r := s.rs x
  let b := if live then r.back.getD m 0 + 1 else 0
  if 3 ≤ b then s.monBack x m
  else
    let n := r.lostFor.getD m 0 + 1
    let s := s.setRs x { r with back := r.back.set m b, lostFor := r.lostFor.set m n }
    if s.get BRD_RECOV_CFG_MON_GRACE * 1000 ≤ n then s.raiseOnce 0x0408 (4 * x + m) 0 0 else s

/-- Show a monitor's slot (R277), with the reference condition (R270); MHB_LOST voids its leases (R251). -/
def State.monShow (s : State) (x m : Nat) (t : Slot) : State :=
  let s := if bitOf t.status 15 then s.setRs x { s.rs x with leases := (s.rs x).leases.filter (·.pos / 13 != m) } else s
  let s := ((s.set (RING_MON_STATUS_HB x m) t.hb).set (RING_MON_STATUS_STATUS x m) t.status).set
    (RING_STATUS_MON_MHB_LOST x) (bitPut (s.get (RING_STATUS_MON_MHB_LOST x)) m (bitOf t.status 15))
  if bitOf t.status 13 then
    (if (0x0407, 4 * x + m) ∈ s.brd.active then s else (s.ringEvt x RING_EVT_REF_FAULT true).raise 0x0407 (4 * x + m) 0 0)
  else s.unraise 0x0407 (4 * x + m)

/-- The RESULT of a BALANCE frame, which CMD_ECHO names: a refusal sets the same CAUSE, and what the monitor does not balance has
no lease (R249, R273). -/
def State.monResult (s : State) (x m : Nat) (t : Slot) : State :=
  let r := s.rs x
  if (m, t.echo) ∈ r.asked then
    let bad := t.result == 2 || t.result == 5 || t.result == 6
    let s := s.setRs x { r with
      asked := r.asked.filter (·.1 != m),
      leases := if bad then r.leases.filter (fun o => o.pos / 13 != m || bitOf t.bal (o.pos % 13)) else r.leases }
    if bad then s.balRefuse t.result else s
  else s

/-- One monitor in one sweep (R252). -/
def State.monStep (i : Sweep) (x m : Nat) (s : State) : State :=
  let moved := s.ring.moved
  match slotOf i m with
  | none =>
    if s.monSt x m = 2 then s.monAway x m false
    else
      let n := (s.rs x).miss.getD m 0 + 1
      let s := s.setRs x { s.rs x with miss := (s.rs x).miss.set m n }
      if 3 ≤ n then s.monLost x m else s
  | some t =>
    let adv := t.hb != s.get (RING_MON_STATUS_HB x m)
    let s := (s.monShow x m t).monResult x m t
    if s.monSt x m = 2 then s.monAway x m adv
    else
      let n := if moved && !adv then (s.rs x).miss.getD m 0 + 1 else 0
      let s := s.setRs x { s.rs x with miss := (s.rs x).miss.set m n }
      if 3 ≤ n then s.monLost x m else s

/-- All four monitors lost: TOPO LOST and 0x0409 (R253). A ring that is heard again is INTACT or in SPLIT, as it was run. -/
def State.ringLost (s : State) (x : Nat) : State :=
  if s.get (RING_STATUS_MON_LOST x) = 15 then (s.set (RING_STATUS_TOPO x) 2).raiseOnce 0x0409 x 0 0
  else if s.get (RING_STATUS_TOPO x) = 2 then s.set (RING_STATUS_TOPO x) (if (s.rs x).split then 1 else 0)
  else s

/-! ### The cell window (R261 to R265, R270) -/

/-- The upper position of the sense-suspect pair that a position belongs to. -/
def State.suspectOf (s : State) (x p : Nat) : Option Nat := (s.rs x).suspect.find? fun u => u == p || u == p + 1

/-- A position whose wire carries the sink (R269). -/
def State.sinkOn (s : State) (x p : Nat) : Bool :=
  match (s.rs x).sink with
  | some (m, w) => p == 13 * m + w || p + 1 == 13 * m + w
  | none => false

/-- A position of a confirmed deviating pair (R270). -/
def State.devOf (s : State) (x p : Nat) : Bool := (s.rs x).dev.any fun u => u == p || u == p + 1

/-- The flags of a position that do not depend on a reading: SUSPECT, TEST, RECOV, CELL_DEV (R262). -/
def State.cellFlags (s : State) (x p : Nat) (recov : Bool) : State :=
  ((((s.setB (cellBit x p 28) (s.suspectOf x p).isSome).setB (cellBit x p 27) (s.sinkOn x p)).setB (cellBit x p 26) recov).setB
    (cellBit x p 24) (s.devOf x p)).set (cellRoleF x p) (s.cellRole x p)

/-- A cell not refreshed in this sweep (R262). -/
def State.cellStale (s : State) (x p : Nat) : State :=
  ((((s.clear (cellBit x p 31)).set (cellBit x p 29) 1).clear (cellBit x p 25)).bumpSat (cellAge x p) 1).cellFlags x p
    (s.monSt x (p / 13) == 3)

/-- The readings of a start-up average (R261). -/
def State.startWindow (s : State) : Nat := 2 ^ s.get RING_CFG_START_N

/-- The start-up average of a position, with this sweep's reading while the window is not full (R261). -/
def State.startAvg (s : State) (x p v : Nat) : Nat :=
  let n := (s.rs x).avgN.getD (p / 13) 0
  let sum := (s.rs x).avgSum.getD p 0
  if s.startWindow ≤ n then (roundDiv (sum : Nat) n).toNat else (roundDiv (sum + v : Nat) (n + 1)).toNat

/-- The value a position reports: the start-up or recovery average, the pair mean, or the reading (R261, R270). -/
def State.cellValue (s : State) (i : Sweep) (x p v : Nat) : Nat :=
  let r := s.rs x
  if s.get (RING_STATUS_ENUM x) = 4 then s.startAvg x p v
  else if s.monSt x (p / 13) = 3 then (roundDiv (r.recSum.getD p 0 + v : Nat) (r.recN.getD (p / 13) 0 + 1)).toNat
  else match s.suspectOf x p with
    | some u => (roundDiv ((voltOf i (u - 1)).getD v + (voltOf i u).getD v : Nat) 2).toNat
    | none => v

/-- A cell refreshed in this sweep (R262). -/
def State.cellFresh (s : State) (i : Sweep) (split : Bool) (x p v : Nat) (t : Slot) : State :=
  let recov := s.monSt x (p / 13) == 3 && (s.rs x).recN.getD (p / 13) 0 + 1 < 2 ^ s.get RING_CFG_RECOV_N
  let avg := s.monSt x (p / 13) == 3 || s.get (RING_STATUS_ENUM x) == 4
  let v' := s.cellValue i x p v
  let s := (((s.setB (cellBit x p 31) (!(recov || (s.suspectOf x p).isSome || s.sinkOn x p))).setB (cellBit x p 30)
    (split && i.far.getD (p / 13) false)).clear (cellBit x p 29)).cellFlags x p recov
  let s := ((s.setB (cellBit x p 25) (bitOf t.bal (p % 13))).setB (cellBit x p 22) avg).set (cellVolt x p) v'
  (s.setI (cellTemp x p) (if p % 13 < 7 then t.t0 else t.t1)).set (cellAge x p) 0

/-- One position's entry of the window in one sweep. -/
def State.cellStep (i : Sweep) (split : Bool) (x p : Nat) (s : State) : State :=
  match slotOf i (p / 13) with
  | some t => if s.monSt x (p / 13) = 2 ∨ refFaultOf i (p / 13) then s.cellStale x p
      else s.cellFresh i split x p (t.volts.getD (p % 13) 0) t
  | none => s.cellStale x p

/-- Recovery averages advance; a full one ends the recovery (R252, R261). -/
def State.recovStep (i : Sweep) (x m : Nat) (s : State) : State :=
  if s.monSt x m ≠ 3 ∨ (slotOf i m).isNone then s
  else
    let r := s.rs x
    let n := r.recN.getD m 0 + 1
    let s := s.setRs x { r with
      recN := r.recN.set m n,
      recSum := (List.range 52).map fun p => if p / 13 = m then r.recSum.getD p 0 + (voltOf i p).getD 0 else r.recSum.getD p 0 }
    if 2 ^ s.get RING_CFG_RECOV_N ≤ n then
      (s.set (RING_MON_STATUS_MSTATE x m) 1).set (RING_STATUS_MON_RECOV x) (bitPut (s.get (RING_STATUS_MON_RECOV x)) m false)
    else s

/-! ### Limits (R271) -/

/-- The reading that the limits see, and how far they move inwards: the pair mean of a suspect or tested pair. -/
def State.limitReading (s : State) (i : Sweep) (x p : Nat) : Option (Nat × Int × Nat) :=
  match voltOf i p, tempOf i p with
  | some v, some t =>
    let up := match s.suspectOf x p, (s.rs x).test with
      | some u, _ => some u
      | none, some k =>
        let u := 13 * k.req.mon + k.req.wire
        if p = u ∨ p + 1 = u then some u else none
      | none, none => none
    match up with
    | some u => some ((roundDiv ((voltOf i (u - 1)).getD v + (voltOf i u).getD v : Nat) 2).toNat, t, 50 * s.get RING_CHECK_SUSPECT_MARGIN)
    | none => some (v, t, 0)
  | _, _ => none

/-- A warn condition cancels the lease that would worsen the cell (R273). -/
def State.warnCancel (s : State) (x p : Nat) (hi lo : Bool) : State :=
  if (s.rs x).leases.any fun o => o.pos == p && ((hi && o.mode == 2) || (lo && o.mode == 1)) then s.queueBal x ⟨p, 0, 0, 0⟩ else s

/-- The two codes of a position's limits follow its conditions (R271, R417). -/
def State.limitCodes (s : State) (x p : Nat) (trip warn : Bool) (v : Nat) : State :=
  let s := if trip then s.raiseOnce 0x0403 (52 * x + p) v 0 else s.unraise 0x0403 (52 * x + p)
  if warn then s.raiseOnce 0x0404 (52 * x + p) v 0 else s.unraise 0x0404 (52 * x + p)

/-- Event bits of newly met conditions: trips 0 to 2 and warns 3 to 5 for OV, UV, OT. The record of a code of the position that
becomes active is that of the first new condition of its kind; every other bit has its own record (R277). -/
def State.limitEvts (s : State) (x p : Nat) (l : List Bool) : State :=
  let first := fun (c b : Nat) => if (c, 52 * x + p) ∈ s.brd.active then none else ((List.range 3).map (b + ·)).find? fun k => l.getD k false
  let trip := first 0x0403 0
  let warn := first 0x0404 3
  let f := fun (k : Nat) (g : Nat → Field) (t : State) =>
    if l.getD k false then t.ringEvt x g (trip == some k || warn == some k) else t
  f 5 RING_EVT_OT_WARN (f 4 RING_EVT_UV_WARN (f 3 RING_EVT_OV_WARN (f 2 RING_EVT_OT_TRIP (f 1 RING_EVT_UV_TRIP
    (f 0 RING_EVT_OV_TRIP s)))))

/-- One position against its limits (R271). -/
def State.limitCell (i : Sweep) (x p : Nat) (s : State) : State :=
  if s.cellRole x p = 2 ∨ s.monSt x (p / 13) = 2 ∨ refFaultOf i (p / 13) then s
  else
    match s.limitReading i x p with
    | none => s
    | some (v, t, m) =>
      let r := s.rs x
      let cnt := fun (b : Bool) (l : List Nat) => if b then min 2 (l.getD p 0 + 1) else 0
      let ov := cnt (s.get RING_VLIM_HI_OV_TRIP < v + m) r.ov
      let uv := cnt (v < s.get RING_VLIM_LO_UV_TRIP + m) r.uv
      let ot := cnt ((10 * s.get RING_TLIM_T_TRIP : Int) < t) r.ot
      let wo := decide (s.get RING_VLIM_HI_OV_WARN < v + m)
      let wu := decide (v < s.get RING_VLIM_LO_UV_WARN + m)
      let wt := decide ((10 * s.get RING_TLIM_T_WARN : Int) < t)
      let old := r.warn.getD p 0
      let s := s.setRs x { r with
        ov := r.ov.set p ov, uv := r.uv.set p uv, ot := r.ot.set p ot,
        warn := r.warn.set p (wo.toNat + 2 * wu.toNat + 4 * wt.toNat) }
      let s := s.setB (cellBit x p 23) (wo || wu || wt || ov != 0 || uv != 0 || ot != 0)
      let s := s.limitEvts x p [ov == 2 && r.ov.getD p 0 != 2, uv == 2 && r.uv.getD p 0 != 2, ot == 2 && r.ot.getD p 0 != 2,
        wo && !bitOf old 0, wu && !bitOf old 1, wt && !bitOf old 2]
      (s.warnCancel x p wo wu).limitCodes x p (ov == 2 || uv == 2 || ot == 2) (wo || wu || wt) v

/-! ### Sum check (R268) -/

/-- S in 10 mV: the ACTIVE positions' voltages, and IN's while a swap is verified. -/
def State.ringSum (s : State) (x : Nat) : Int :=
  let l := s.roleCells x 0 ++ (if s.get (RING_SWAP_STATE x) = 4 then [s.get (RING_SWAP_POS_IN x)] else [])
  roundDiv (l.foldl (fun a p => a + s.volt x p) 0 : Nat) 100

/-- The sum check passes in this sweep. -/
def State.sumOk (s : State) (x : Nat) : Bool := (s.ringSum x - (s.rs x).vstr).natAbs ≤ s.get RING_CHECK_SUM_TOL

/-- The sum check of a sweep that is not split: SUM_FAIL after three beyond SUM_TOL (R266, R268). -/
def State.sumCheck (s : State) (x : Nat) : State :=
  let ok := s.sumOk x
  let n := if ok then 0 else min 3 ((s.rs x).sumN + 1)
  let s := (s.setRs x { s.rs x with sumN := n })
  let s := (s.setI (RING_SUM_S x) (s.ringSum x)).set (RING_SUM_VSTR x) (s.rs x).vstr
  if ok then s.unraise 0x0406 x
  else if n = 3 ∧ (0x0406, x) ∉ s.brd.active then
    (s.ringEvt x RING_EVT_SUM_FAIL true).raise 0x0406 x (s.ringSum x - (s.rs x).vstr) (s.get RING_CHECK_SUM_TOL)
  else s

/-! ### Candidates and open-wire tests (R267, R269, R270) -/

/-- The pair (p − 1, p) is a candidate in this sweep (R267). -/
def State.isCand (s : State) (i : Sweep) (x p : Nat) : Bool :=
  let ok := fun q => (s.cellRole x q == 0 || s.cellRole x q == 1) && s.monSt x (q / 13) != 2 && !(refFaultOf i (q / 13))
  match voltOf i (p - 1), voltOf i p with
  | some a, some b =>
    let v := s.vbar x
    let lim : Rat := 50 * s.get RING_CHECK_SUSPECT_MV
    let dl := (a : Rat) - v
    let dh := (b : Rat) - v
    p % 13 != 0 && ok (p - 1) && ok p && decide (dl * dh < 0 ∧ lim < |dl| ∧ lim < |dh| ∧ |((a : Rat) + b) / 2 - v| ≤ lim / 2)
  | _, _ => false

/-- A confirmed deviation ends with its candidate condition (log 34). -/
def State.devEnds (s : State) (x p : Nat) : State :=
  if p ∈ (s.rs x).dev then
    ((s.setRs x { s.rs x with dev := (s.rs x).dev.filter (· != p) }).unraise 0x0405 (52 * x + p - 1)).unraise 0x0405 (52 * x + p)
  else s

/-- One pair in one sweep: three consecutive sweeps queue its test (R267). -/
def State.candStep (i : Sweep) (x p : Nat) (s : State) : State :=
  let c := s.isCand i x p
  let r := s.rs x
  let n := if c then min 3 (r.cand.getD p 0 + 1) else 0
  let s := s.setRs x { r with cand := r.cand.set p n }
  let q : OwReq := ⟨p / 13, p % 13, 0⟩
  let known := p ∈ r.suspect || p ∈ r.dev || r.waiting.any (fun w => w == q) || (r.test.map (·.req)) == some q
  if !c then s.devEnds x p
  else if n = 3 ∧ !known then s.setRs x { s.rs x with waiting := (s.rs x).waiting ++ [q] }
  else s

/-- The candidate checks of a sweep; they pause for 25 ms after a corner change (R260, R267). -/
def State.candCheck (s : State) (i : Sweep) (x : Nat) : State :=
  if s.elapsed < (s.rs x).pauseEnd then s else forN 52 (State.candStep i x) s

/-- A test can run on a monitor now (R269). -/
def State.owCan (s : State) (x m : Nat) : Bool :=
  (s.monSt x m == 1 || s.monSt x m == 3) && !(s.rs x).split && !s.swapOn x m

/-- The next waiting test of a string starts: balancing on its monitor stops, BUSY shows (R267, R269). -/
def State.owNext (s : State) (x : Nat) : State :=
  let r := s.rs x
  if r.test.isSome then s
  else
    match r.waiting.find? fun q => s.owCan x q.mon with
    | none => s
    | some q =>
      let s := s.setRs x { r with waiting := r.waiting.erase q, test := some { req := q } }
      (s.balStop x q.mon).owBusy

/-- A tested pair's entries show its decision in the same sweep (R262, R270). -/
def State.pairShow (s : State) (i : Sweep) (x p : Nat) : State :=
  forL [p - 1, p] (fun q t =>
    let t := (t.setB (cellBit x q 28) (t.suspectOf x q).isSome).setB (cellBit x q 24) (t.devOf x q)
    let t := if (t.suspectOf x q).isSome then t.clear (cellBit x q 31) else t
    match voltOf i q with
    | some v => t.set (cellVolt x q) (t.cellValue i x q v)
    | none => t) s

/-- A pair becomes sense-suspect (R270). -/
def State.owSuspect (s : State) (x p : Nat) : State :=
  let s := (s.setRs x { s.rs x with suspect := addOnce (s.rs x).suspect p }).ringEvt x RING_EVT_SUSPECT true
  (s.raiseOnce 0x040A (52 * x + p - 1) 0 0).raiseOnce 0x040A (52 * x + p) 0 0

/-- A pair is real cells (R270). -/
def State.owDev (s : State) (x p : Nat) : State :=
  let s := (s.setRs x { s.rs x with dev := addOnce (s.rs x).dev p }).ringEvt x RING_EVT_CELL_DEV true
  (s.raiseOnce 0x0405 (52 * x + p - 1) (s.volt x (p - 1)) 0).raiseOnce 0x0405 (52 * x + p) (s.volt x p) 0

/-- A pair stops being suspect (R270). -/
def State.owClear (s : State) (x p : Nat) : State :=
  if p ∈ (s.rs x).suspect then
    ((s.setRs x { s.rs x with suspect := (s.rs x).suspect.filter (· != p) }).unraise 0x040A (52 * x + p - 1)).unraise 0x040A (52 * x + p)
  else s

/-- The shift of a test: half the difference of the two positions' moves, 100 µV (R269). -/
def OwTest.shift (t : OwTest) : Rat :=
  (quot (t.sumHi : Nat) t.num - quot (t.baseHi : Nat) t.baseNum - (quot (t.sumLo : Nat) t.num - quot (t.baseLo : Nat) t.baseNum)) / 2

/-- The end of a test: its shift, and for a candidate the decision of R270. -/
def State.owEnd (s : State) (i : Sweep) (x : Nat) (t : OwTest) : State :=
  let p := 13 * t.req.mon + t.req.wire
  let isOpen := decide ((50 * s.get RING_CHECK_OW_MV : Nat) ≤ t.shift)
  let s := ((s.setRs x { s.rs x with test := none }).setI RING_OW_RESULT_SHIFT (roundRat t.shift)).owShow x t.req isOpen false
  let s := if isOpen then (if t.req.src = 0 then s.owSuspect x p else s)
    else if t.req.src = 0 ∧ (0x0406, x) ∉ s.brd.active then (s.owClear x p).owDev x p
    else s.owClear x p
  s.pairShow i x p

/-- A running test takes a sweep: baseline, settling, sink on. The frame that turns the sink on or off leaves in the last sweep of
its phase, so that it acts at the next one's start delimiter (R248, R269). -/
def State.owSweep (s : State) (i : Sweep) (x : Nat) (t : OwTest) (r : Option (Nat × Nat)) : State :=
  let n := 2 ^ s.get RING_CFG_TEST_N
  let put := fun (u : OwTest) => s.setRs x { s.rs x with test := some u }
  let t' := match r with
    | some (lo, hi) => { t with n := t.n + 1, num := t.num + 1, sumLo := t.sumLo + lo, sumHi := t.sumHi + hi }
    | none => { t with n := t.n + 1 }
  if t.phase = 0 then
    (if n ≤ t'.n then
      put { t with phase := 1, n := 0, num := 0, sumLo := 0, sumHi := 0, baseNum := t'.num, baseLo := t'.sumLo, baseHi := t'.sumHi }
     else if n = t'.n + 1 then (put t').owFrame x t.req.mon t.req.wire true
     else put t')
  else if (s.rs x).sink.isNone then s
  else if t.phase = 1 then put (if 2 ≤ t.n + 1 then { t with phase := 2, n := 0 } else { t with n := t.n + 1 })
  else if n ≤ t'.n then s.owEnd i x t'
  else if n = t'.n + 1 then (put t').owFrame x t.req.mon t.req.wire false
  else put t'

/-- The open-wire test of a string in one sweep (R269). -/
def State.owStep (s : State) (i : Sweep) (split : Bool) (x : Nat) : State :=
  match (s.rs x).test with
  | none => s.owNext x
  | some t =>
    if split || s.monSt x t.req.mon == 2 || s.swapOn x t.req.mon then s.owAbort x
    else
      match voltOf i (13 * t.req.mon + t.req.wire - 1), voltOf i (13 * t.req.mon + t.req.wire) with
      | some lo, some hi => s.owSweep i x t (some (lo, hi))
      | _, _ => s.owSweep i x t none

/-- Queue a test of an inner wire (R267, R276). -/
def State.owQueue (s : State) (x m w src : Nat) : State :=
  s.setRs x { s.rs x with waiting := (s.rs x).waiting ++ [⟨m, w, src⟩] }

/-- An inner wire (R276). -/
def wireOk (w : Nat) : Bool := decide (1 ≤ w ∧ w ≤ 12)

/-- START of a host open-wire test with the fields of RING_OW_CTRL (R276). -/
def State.owStart (s : State) : State :=
  let s := s.clear RING_OW_CTRL_START
  if s.ringDone (s.get RING_OW_CTRL_STRING) then
    s.owQueue (s.get RING_OW_CTRL_STRING) (s.get RING_OW_CTRL_MON) (s.get RING_OW_CTRL_WIRE) 1
  else s.refuse RING_OW_CTRL (s.rdN RING_OW_CTRL + 1)

/-- OPEN_WIRE_START: a host test of a named wire; a wire out of range keeps the field and is refused (R175, R269, R276). -/
def execOpenWireStart (x : StrNo) (m : Fin 4) (w : Fin 16) (s : State) : Res := s.on fun s =>
  let s := (s.set RING_OW_CTRL_STRING x.val).set RING_OW_CTRL_MON m.val
  .next (if wireOk w.val then (s.set RING_OW_CTRL_WIRE w.val).owStart
    else s.refuse RING_OW_CTRL ((s.set RING_OW_CTRL_WIRE w.val).rdN RING_OW_CTRL + 1))

/-- OPEN_WIRE_AUTO: the next of the 48 inner wires of a string (R269). -/
def execOpenWireAuto (x : StrNo) (s : State) : Res := s.on fun s =>
  if !s.isSet RING_CTRL_OW_AUTO || !s.ringDone x.val then .next s
  else
    let n := (s.rs x.val).autoNext
    .next ((s.setRs x.val { s.rs x.val with autoNext := (n + 1) % 48 }).owQueue x.val (n / 12) (n % 12 + 1) 2)

/-- A corner in effect: broadcast as CONFIG, the candidate checks pause for 25 ms (R260). -/
def State.cornerWrite (s : State) (v : Nat) : State :=
  let s := s.set RING_CFG_CORNER v
  forN 2 (fun x t =>
    let t := t.setRs x { t.rs x with
      frames := (t.rs x).frames.filter (fun f => f.1 % 256 != 0x30), pauseEnd := t.elapsed + 25 * tickMs }
    t.queueFrame x 0x30 0xFF (leBytes 1 v ++ zeros 2)) s

/-- CORNER_WRITE (R260). -/
def execCornerWrite (v : Fin 8) (s : State) : Res := s.on fun s => .next (s.cornerWrite v.val)

/-! ### Swaps (R274) -/

/-- Give two positions their roles. -/
def State.swapRoles (s : State) (x a ra b rb : Nat) : State := (s.setRole x a ra).setRole x b rb

/-- A swap ends FAILED (R274). -/
def State.swapFailed (s : State) (x cause : Nat) : State :=
  let s := (s.set (RING_SWAP_STATE x) 6).set (RING_SWAP_CAUSE x) cause
  if cause = 3 then s
  else (s.ringEvt x RING_EVT_SWAP_FAIL true).raise 0x040B (52 * x + s.get (RING_SWAP_POS_OUT x)) 0 0

/-- A swap may start (R274). -/
def State.swapOk (s : State) (x i o : Nat) : Bool :=
  s.cellRole x i == 1 && s.cellRole x o == 0 && s.monSt x (i / 13) != 2 && s.monSt x (o / 13) != 2 && s.ringDone x
    && decide (|(s.volt x i : Rat) - s.vbar x| ≤ 500)

/-- Remount requests a swap (R274). -/
def State.swapRequest (s : State) (x i o : Nat) : State :=
  let s' := (((s.set (RING_SWAP_POS_IN x) i).set (RING_SWAP_POS_OUT x) o).set (RING_SWAP_CAUSE x) 0)
  if s.swapping x then s
  else if !s.swapOk x i o then s'.swapFailed x 3
  else
    let s := (s'.set (RING_SWAP_STATE x) 1).setRs x { s.rs x with swapN := 0, swapBack := false, calm := none, swapSent := none }
    ((s.swapRoles x i 3 o 3).balStop x (i / 13)).balStop x (o / 13)

/-- SWAP_REQUEST (R274). -/
def execSwapRequest (x : StrNo) (i o : Fin 52) (s : State) : Res := s.on fun s => .next (s.swapRequest x.val i.val o.val)

/-- SWAP_BREAK: the BYPASS frame, sent with an earlier sweep, executes at this one's start delimiter, t1 (R274). -/
def execSwapBreak (x : StrNo) (s : State) : Res := s.on fun s =>
  let r := s.rs x.val
  match r.swapSent with
  | some t =>
    if s.get (RING_SWAP_STATE x.val) = 1 ∧ t < r.t0 then
      .next ((s.set (RING_SWAP_STATE x.val) 2).setRs x.val { r with swapAt := r.t0, swapN := 0 })
    else .next s
  | none => .next s

/-- SWAP_WAIT_TIMEOUT: 100 ms without the zero-current condition (R274); a reverse swap has no wait. -/
def execSwapWaitTimeout (x : StrNo) (s : State) : Res := s.on fun s =>
  if s.get (RING_SWAP_STATE x.val) = 1 ∧ (s.rs x.val).swapSent = none ∧ !(s.rs x.val).swapBack then
    .next ((s.swapRoles x.val (s.get (RING_SWAP_POS_IN x.val)) 1 (s.get (RING_SWAP_POS_OUT x.val)) 0).swapFailed x.val 1)
  else .next s

/-- SWAP_MAKE: the other two switches close; a reverse swap ends here (R274). -/
def execSwapMake (x : StrNo) (s : State) : Res := s.on fun s =>
  if s.get (RING_SWAP_STATE x.val) ≠ 2 then .next s
  else if (s.rs x.val).swapBack then
    .next ((s.swapRoles x.val (s.get (RING_SWAP_POS_IN x.val)) 1 (s.get (RING_SWAP_POS_OUT x.val)) 0).swapFailed x.val 2)
  else .next (s.set (RING_SWAP_STATE x.val) 3)

/-- What a sweep shows of the switches and of IN's reading, with the sum check where one is made (R266, R274). -/
def State.swapSeen (s : State) (i : Sweep) (split : Bool) (x a o : Nat) : Bool :=
  match slotOf i (a / 13), slotOf i (o / 13), voltOf i a with
  | some t, some u, some v =>
    !bitOf t.byp (a % 13) && bitOf u.byp (o % 13) && decide (v ≤ s.get RING_VLIM_HI_OV_WARN) && decide (s.get RING_VLIM_LO_UV_WARN ≤ v)
      && (split || s.sumOk x)
  | _, _, _ => false

/-- A swap is complete (R274, R288, R295, R473): IN ACTIVE with its resistance unlearned, OUT RETIRED. -/
def State.swapDone (s : State) (x a o : Nat) : State :=
  let s := ((s.swapRoles x a 0 o 2).set (RING_SWAP_STATE x) 5).ringEvt x RING_EVT_SWAP_DONE false
  let e := s.est.strs.getD x {}
  let c := s.rmt.cells.getD (52 * x + o) {}
  let e' := { e with r := e.r.set a (s.profileAt 0x8008 12 2 0 : Nat), rBase := e.rBase.set a none, obs := e.obs.set a 0 }
  let c' := { c with swaps := c.swaps + 1, retired := true, rAt := (roundRat (e.r.getD o 0)).toNat }
  let s := { s with est := { s.est with strs := s.est.strs.set x e' }, rmt := { s.rmt with cells := s.rmt.cells.set (52 * x + o) c' } }
  s.jnlTrigger 7

/-- A swap's verification takes a sweep that started after the switches moved; where it fails, the reverse swap runs at once
(R274). -/
def State.swapStep (s : State) (i : Sweep) (split : Bool) (x : Nat) : State :=
  let st := s.get (RING_SWAP_STATE x)
  let a := s.get (RING_SWAP_POS_IN x)
  let o := s.get (RING_SWAP_POS_OUT x)
  let r := s.rs x
  if (st ≠ 3 ∧ st ≠ 4) ∨ r.t0 ≤ r.swapAt then s
  else
    let s := s.set (RING_SWAP_STATE x) 4
    if !s.swapSeen i split x a o then (s.setRs x { r with swapBack := true, swapSent := none }).set (RING_SWAP_STATE x) 1
    else
      let s := s.setRs x { r with swapN := r.swapN + 1 }
      if 4 ≤ r.swapN + 1 then s.swapDone x a o else s

/-! ### The end of enumeration and of a sweep -/

/-- The first sweep: four bypassed positions, and the roles (R254 to R256). -/
def State.firstSweep (s : State) (i : Sweep) (x : Nat) : State :=
  let byp := fun p => ((slotOf i (p / 13)).map fun t => bitOf t.byp (p % 13)).getD false
  let s := s.setRs x { s.rs x with firstSweep := false }
  if ((List.range 52).filter byp).length ≠ 4 then s.enumFail x 8
  else forN 52 (fun p t => t.setRole x p (if byp p then (if (t.rmt.cells.getD (52 * x + p) {}).retired then 2 else 1) else 0)) s

/-- A cell beyond a trip limit in the start-up average (R255). -/
def State.avgTrip (s : State) (x p : Nat) : Bool :=
  s.cellRole x p != 2 && (decide (s.get RING_VLIM_HI_OV_TRIP < s.volt x p) || decide (s.volt x p < s.get RING_VLIM_LO_UV_TRIP)
    || decide ((10 * s.get RING_TLIM_T_TRIP : Int) < s.getI (cellTemp x p)))

/-- The start-up average takes a sweep, of a monitor without a slot nothing; complete, it is a reference and ends the enumeration (R254, R255, R293). -/
def State.avgStep (s : State) (i : Sweep) (x : Nat) : State :=
  if s.get (RING_STATUS_ENUM x) ≠ 4 then s
  else
    let r := s.rs x
    let takes := fun (m : Nat) => (slotOf i m).isSome && decide (r.avgN.getD m 0 < s.startWindow)
    let s := s.setRs x { r with
      avgN := (List.range 4).map (fun m => r.avgN.getD m 0 + (takes m).toNat),
      avgSum := (List.range 52).map fun p => r.avgSum.getD p 0 + if takes (p / 13) then (voltOf i p).getD 0 else 0 }
    if (s.rs x).avgN.any fun n => n < s.startWindow then s
    else if (List.range 52).any (s.avgTrip x) then s.enumFail x 7
    else ((s.startRef x).set (RING_STATUS_ENUM x) 5).ringEvt x RING_EVT_ENUM_DONE false

/-- The reference policy of RING_BAL_POL on one position: a 50 ms lease, renewed every 20 ms (R273). -/
def State.policyCell (x p : Nat) (s : State) : State :=
  let r := s.rs x
  let last := (r.renewed.find? (·.1 == p)).map (·.2)
  let d := (s.volt x p : Rat) - s.vbar x
  let off := s.setRs x { r with renewed := r.renewed.filter (·.1 != p) }
  if !s.cellOk x p || !(s.cellRole x p == 0 || s.cellRole x p == 1) then off
  else if |d| ≤ 10 * s.get RING_BAL_POL_START_MV ∧ (last.isNone ∨ |d| < 10 * s.get RING_BAL_POL_STOP_MV) then off
  else
    let mode := if 0 < d then 1 else 2
    let due := match last with
      | some t => decide (t + 20 * tickMs ≤ s.elapsed)
      | none => true
    if due && s.balCause x p mode (s.get RING_BAL_POL_I_CODE) 50 == 0 then
      (off.queueBal x ⟨p, mode, s.get RING_BAL_POL_I_CODE, 50⟩).setRs x
        { (off.queueBal x ⟨p, mode, s.get RING_BAL_POL_I_CODE, 50⟩).rs x with
          renewed := (p, s.elapsed) :: r.renewed.filter (·.1 != p) }
    else s

/-- The balancing policy of Tack firmware (R273). -/
def State.balPolicy (s : State) (x : Nat) : State :=
  if s.boot.fwRuns && s.isSet RING_CTRL_BAL_EN && s.ringDone x then forN 52 (State.policyCell x) s else s

/-- Positions balancing at the sample (R276). -/
def State.showBalancing (s : State) (i : Sweep) (x : Nat) : State :=
  s.set (if x = 0 then RING_BAL_STATUS_ACTIVE_A else RING_BAL_STATUS_ACTIVE_B)
    ((List.range 52).filter fun p => ((slotOf i (p / 13)).map fun t => bitOf t.bal (p % 13)).getD false).length

/-- CRC_ERR of a frame whose CRC-32C failed (R250). -/
def State.crcCheck (s : State) (i : Sweep) (x : Nat) : State :=
  if i.crcGood then s else (s.bumpSat (RING_ERR_CNT_CRC_ERR x) 1).ringEvt x RING_EVT_CRC_ERR false

/-- The monitors and the cell window of a sweep, changed together (R252, R258, R262). -/
def State.sweepCells (s : State) (i : Sweep) (split : Bool) (x : Nat) : State :=
  let s := (forN 4 (State.monStep i x) s).ringLost x
  let s := if (s.rs x).firstSweep then s.firstSweep i x else s
  let s := forN 4 (State.recovStep i x) (forN 52 (State.cellStep i split x) s)
  let s := (s.wrapReg (RING_SEQ x)).wr64 (RING_TIME_LO x) (RING_TIME_HI x) ((s.rs x).t0 + 100)
  s.set (RING_SKEW_TICKS x) (if split then i.skew else 0)

/-- The checks of a sweep (R257, R264 to R274). -/
def State.sweepChecks (s : State) (i : Sweep) (split : Bool) (x : Nat) : State :=
  let s := if split then s else s.sumCheck x
  let s := forN 52 (State.limitCell i x) s
  let s := if s.ringDone x then s.candCheck i x else s
  ((((s.owStep i split x).swapStep i split x).avgStep i x).showBalancing i x).balPolicy x

/-- A sweep of a string is complete; SPLIT where it was completed from end 2 (R277). -/
def State.sweepDone (s : State) (i : Sweep) (split two : Bool) (x : Nat) : State :=
  let s := s.crcCheck i x
  let s := if split then s.bumpSat (RING_ERR_CNT_SPLIT x) 1 else s
  let s := if two then s.ringEvt x RING_EVT_SPLIT false else s
  (s.sweepCells i split x).sweepChecks i split x

/-- The ring goes into SPLIT at a hop, or moves it (R263, R265). -/
def State.toSplit (s : State) (i : Sweep) (x : Nat) : State :=
  let s := s.set (RING_STATUS_BREAK_HOP x) (i.hop.getD 7)
  (if s.get (RING_STATUS_TOPO x) = 0 then s.set (RING_STATUS_TOPO x) 1 else s).setRs x { s.rs x with split := true, intact := 0 }

/-- A ring in SPLIT is INTACT again (R263); one whose monitors are all lost stays LOST. -/
def State.toIntact (s : State) (x : Nat) : State :=
  let s := if s.get (RING_STATUS_TOPO x) = 1 then s.set (RING_STATUS_TOPO x) 0 else s
  (s.set (RING_STATUS_BREAK_HOP x) 7).setRs x { s.rs x with split := false, intact := 0 }

/-- A sweep of a ring in SPLIT: eight frames from end 1 without WRAP make it INTACT again (R263). -/
def State.splitSweep (s : State) (i : Sweep) (x : Nat) : State :=
  let two := i.far.any id
  if i.broken then (s.toSplit i x).sweepDone i true two x
  else
    let n := (s.rs x).intact + 1
    let s := (s.setRs x { s.rs x with intact := n }).sweepDone i true two x
    if 8 ≤ n then s.toIntact x else s

/-- Whether a ring is swept: enumerated or in its start-up average, and RING clocked (R257). -/
def State.swept (s : State) (x : Nat) : Bool :=
  (s.get (RING_STATUS_ENUM x) == 4 || s.get (RING_STATUS_ENUM x) == 5) && s.ringClocked

/-- What a sweep brought, with the link at end 2 as it is after it (R246). -/
def State.hear (s : State) (x : Nat) (i : SweepIn) : State := s.setRs x { s.rs x with linkUp := linkNow (s.rs x).linkUp i }

/-- SWEEP_COMPLETE (R257, R263, R264): on an intact ring HEARTBEAT and the command frames have left end 2; a break in the frame
starts READ_HELD from both ends. -/
def execSweepComplete (x : StrNo) (i : SweepIn) (s : State) : Res := s.on fun s =>
  if !s.swept x.val then .next s
  else
    let w := readSweep (s.rs x.val).linkUp i
    let s := s.hear x.val i
    if (s.rs x.val).split then .next (s.splitSweep w x.val)
    else
      let s := s.endTwo x.val
      if w.broken then
        .next (((s.setRs x.val { s.rs x.val with readHeld := true }).sendRing x.val 0 0x11 0xFF (zeros 176)).sendRing x.val 1 0x11 0xFF (zeros 176))
      else .next (s.sweepDone w false false x.val)

/-- BREAK_DETECT: on a ring held INTACT, a break before the sweep passed, completed from end 2; no command frame leaves end 2 and
the commands wait (R264, R265). -/
def execBreakDetect (x : StrNo) (i : SweepIn) (s : State) : Res := s.on fun s =>
  if !s.swept x.val || (s.rs x.val).split then .next s
  else
    let w := readSweep true i
    let s := s.hear x.val i
    let s := s.setRs x.val { s.rs x.val with cmdsDue := false }
    .next (((s.sendRing x.val 1 0x11 0xFF (zeros 176)).toSplit w x.val).sweepDone w true true x.val)

/-- READ_HELD_COMPLETE: a break during the sweep, completed with held samples, no skew (R264). -/
def execReadHeldComplete (x : StrNo) (i : SweepIn) (s : State) : Res := s.on fun s =>
  if !(s.rs x.val).readHeld then .next s
  else
    let w := { readSweep true i with skew := 0 }
    let s := s.hear x.val i
    .next (((s.setRs x.val { s.rs x.val with readHeld := false }).toSplit w x.val).sweepDone w true true x.val)

end Sys2Proof.Machine
end

