-- ==== Sys2Proof/Machine/Est.lean ====
section
/-! DEFINITION. State estimation (R278 to R293): the cell estimate, SoC, headroom, capacity, resistance
learning, and the rest of a string. Exact arithmetic; v̂ in 100 µV, charge in µC, R_j in µΩ. -/

namespace Sys2Proof.Machine

/-! ### The STORAGE record (R285) -/

/-- C_DESIGN in 0.1 F, V_MIN and V_MAX in 100 µV. -/
def State.cDesign (s : State) : Nat := s.profileAt 0x8008 0 4 0
def State.vMin (s : State) : Nat := 10 * s.profileAt 0x8008 4 2 0
def State.vMax (s : State) : Nat := 10 * s.profileAt 0x8008 6 2 0

/-- The table of the record: whole cycles, and the fraction in 0.01 %. -/
def State.capTable (s : State) : List (Nat × Nat) :=
  (List.range (s.profileAt 0x8008 15 1 0)).map fun i => (s.profileAt 0x8008 (16 + 8 * i) 4 0, s.profileAt 0x8008 (20 + 8 * i) 2 0)

/-- The capacity fraction at an EFC in cycles, in 0.01 %: linear between points, the last value beyond (R284). -/
def capFrac (efc : Rat) : List (Nat × Nat) → Rat
  | [] => 0
  | [a] => a.2
  | a :: b :: t =>
    if efc < b.1 then (a.2 : Rat) + ((b.2 : Rat) - a.2) * (efc - a.1) / ((b.1 : Rat) - a.1) else capFrac efc (b :: t)

/-- C_eff of a string in 0.1 F (R284). -/
def State.cEff (s : State) (x : Nat) : Rat := s.cDesign * capFrac ((s.es x).efc / 100) s.capTable / 10000

/-! ### One run over one cell (R279 to R281, R287) -/

/-- The ticks between monitor 0's sample instants of this run's sweep and the last run's (R279). -/
def State.runTicks (s : State) (x : Nat) : Nat := (s.rs x).t0 - (s.es x).lastT0.getD (s.rs x).t0

/-- The charge of a run, µC, without the bias (R279). I_BIAS counts 10 mA and a tick is 10 ns. -/
def State.runCharge (s : State) (x : Nat) : Rat := (s.es x).charge / 100000 - (s.es x).bias * s.runTicks x / 10000

/-- The instant at which a position was sampled: its monitor's, or in a split sweep that of its half (R257, R265, R279). -/
def State.instant (s : State) (x p : Nat) : Nat :=
  (s.rs x).t0 + 100 + (if s.isSet (cellBit x p 30) then s.get (RING_SKEW_TICKS x) else if (s.rs x).split then 0 else 200 * (p / 13))

/-- i_s at a time, mA: of the sample that contains it (R279). -/
def State.ampsAt (s : State) (x t : Nat) : Rat := (((s.es x).hist.find? fun p => p.1 ≤ t).map (·.2)).getD 0

/-- Every value that i_s had in the w ticks up to a time, where the history reaches back so far. -/
def State.ampsOver (s : State) (x t w : Nat) : Option (List Rat) :=
  let l := (s.es x).hist.dropWhile fun p => t < p.1
  match l.dropWhile fun p => t < p.1 + w with
  | [] => none
  | q :: _ => some ((l.takeWhile fun p => t < p.1 + w).map (·.2) ++ [q.2])

/-- The filter corners in Hz (R260). -/
def cornerHz : List Nat := [50, 100, 200, 500, 1000, 2000, 5000, 10000]

/-- 5τ of the corner in effect, in ticks: 5 / (2π f_c) s (R287). -/
def State.fiveTau (s : State) : Nat := 79577472 / cornerHz.getD (s.get RING_CFG_CORNER) 50

/-- i_s stays within ±2 % of its value at a position's instant over the 5τ before it (R287). -/
def State.steady (s : State) (x p : Nat) : Bool :=
  let t := s.instant x p
  let i := s.ampsAt x t
  match s.ampsOver x t s.fiveTau with
  | some l => l.all fun v => decide (50 * |v - i| ≤ |i|)
  | none => false

/-- The own balancing charge of a position, µC: its commanded current over the interval (R279). -/
def State.balOwn (s : State) (x p : Nat) : Rat :=
  if !s.isSet (cellBit x p 25) then 0
  else
    match (s.rs x).leases.find? (·.pos == p) with
    | some o => if o.mode = 1 then (o.cur * s.runTicks x : Nat) / 1000 else -((o.cur * s.runTicks x : Nat) / 1000 : Rat)
    | none => 0

/-- A position's balancing charge: its own, and for an ACTIVE one its part of every cell-to-string transfer (R279). -/
def State.balCharge (s : State) (x p : Nat) : Rat :=
  let e := s.es x
  let eff : Rat := (s.profileAt 0x8008 14 1 0 : Rat) / 100
  let others := (List.range 52).filter fun j => j != p && decide (0 < s.balOwn x j)
  s.balOwn x p - (if s.cellRole x p = 0 then
    others.foldl (fun a j => a + quot (s.balOwn x j * e.vhat.getD j 0) (100 * (s.rs x).vstr : Nat) * eff) 0 else 0)

/-- A start-up average: it initialises v̂, and the run that follows neither counts charge nor corrects (R281, R293). -/
def State.startsHere (s : State) (x p : Nat) : Bool :=
  s.isSet (cellBit x p 22) && !s.isSet (cellBit x p 26) && !decide (p / 13 ∈ (s.es x).recov)

/-- The reading that corrects a position's v̂ and the current that goes with it, where R281 gives one. A SPARE
position carries no string current. -/
def State.corrects (s : State) (x p : Nat) : Option (Nat × Rat) :=
  let bit := fun b => s.isSet (cellBit x p b)
  if s.monSt x (p / 13) = 2 || bit 29 || bit 27 || bit 26 || s.startsHere x p then none
  else some (s.volt x p, if s.cellRole x p = 0 then s.ampsAt x (s.instant x p) else 0)

/-- Whether a position's age counter restarts (R281). -/
def State.ageResets (s : State) (x p : Nat) : Bool :=
  !(s.monSt x (p / 13) == 2 || s.isSet (cellBit x p 29) || s.isSet (cellBit x p 27) || s.isSet (cellBit x p 26))

/-- A reading that resistance learning may use (R281, R287). -/
def State.learnable (s : State) (x p : Nat) : Bool :=
  s.cellRole x p == 0 && s.isSet (cellBit x p 31) && !s.isSet (cellBit x p 30) && !s.isSet (cellBit x p 22)
    && decide (3 ≤ s.get RING_CFG_CORNER) && s.steady x p

/-- r_obs of a position, where R287 forms one, µΩ. -/
def State.rObs (s : State) (x p : Nat) (q : Rat) : Option Rat :=
  let e := s.es x
  let di := s.ampsAt x (s.instant x p) - e.lastI.getD p 0
  if !s.isSet EST_CTRL_LEARN_R || !s.learnable x p || decide (|di| < (1000 * s.get EST_CFG_R_DI_MIN : Nat)) then none
  else
    match e.lastV.getD p none with
    | some v => some (100000 * quot (-(quot q (10 * s.cEff x)) - ((s.volt x p : Int) - v : Int)) di)
    | none => none

/-- What a run leaves of one position. -/
structure EstPos where
  v : Rat
  r : Rat
  rBase : Option Nat
  obs : Nat
  age : Nat
  clamped : Bool
  reject : Bool
  deriving DecidableEq, Repr

/-- R_j and R_BASE_j after an observation (R287, R288). -/
def learned (e : EstStr) (p shift : Nat) (o : Option Rat) : Rat × Option Nat × Nat × Bool :=
  let r := e.r.getD p 0
  let b := e.rBase.getD p none
  let n := e.obs.getD p 0
  match o with
  | none => (r, b, n, false)
  | some v =>
    if v < 0 ∨ 20000 < v then (r, b, n, true)
    else
      let r' := r + (v - r) / 2 ^ shift
      (r', if n + 1 = 1024 ∧ b.isNone then some (roundRat r').toNat else b, n + 1, false)

/-- One position in one run (R280, R281, R287). -/
def State.estPos (s : State) (x p : Nat) : EstPos :=
  let e := s.es x
  let v := e.vhat.getD p 0
  let q := (if s.cellRole x p = 0 then s.runCharge x else 0) + s.balCharge x p
  let v1 := if s.startsHere x p then v else v - quot q (10 * s.cEff x)
  let v2 := match s.corrects x p with
    | some (m, cur) => v1 + ((m : Rat) + e.r.getD p 0 * cur / 100000 - v1) / 2 ^ s.get EST_CFG_K_SHIFT
    | none => v1
  let v3 := max (s.vMin : Rat) (min (s.vMax : Rat) v2)
  let l := learned e p (s.get EST_CFG_R_SHIFT) (s.rObs x p q)
  { v := v3, r := l.1, rBase := l.2.1, obs := l.2.2.1, clamped := v3 != v2, reject := l.2.2.2,
    age := if s.ageResets x p then 0 else min 255 (e.age.getD p 0 + 1) }

/-- Whether a position is estimated: ACTIVE or SPARE (R280). -/
def State.estimated (s : State) (x p : Nat) : Bool := s.cellRole x p == 0 || s.cellRole x p == 1

/-- A cell is uncertain (R281). -/
def State.uncertain (s : State) (x p : Nat) : Bool := decide (s.get EST_UNC_UNC_AGE ≤ (s.es x).age.getD p 0)

/-- A run changes one position, with the bits of EST_STATUS (R280, R281, R287). -/
def State.estCell (old : State) (x p : Nat) (s : State) : State :=
  if !old.estimated x p then s
  else
    let o := old.estPos x p
    let e := s.es x
    let s := s.setEs x { e with
      vhat := e.vhat.set p o.v, r := e.r.set p o.r, rBase := e.rBase.set p o.rBase, obs := e.obs.set p o.obs, age := e.age.set p o.age }
    let s := s.setB ⟨EST_CELL_0 x p, 30, 1⟩ o.clamped
    let s := if o.clamped then s.raiseBit EST_STATUS_CLAMPED 240 else s
    let s := if o.reject then s.raiseBit EST_STATUS_R_REJECT 240 else s
    if s.uncertain x p && !old.uncertain x p then s.raiseBit EST_STATUS_UNCERT 240 else s

/-! ### SoC and headroom (R282, R283) -/

/-- A cell's state of charge, a fraction of 1 (R282). -/
def State.socCell (s : State) (x p : Nat) : Rat :=
  let v := (s.es x).vhat.getD p 0
  quot (v * v - (s.vMin * s.vMin : Nat)) ((s.vMax : Rat) * s.vMax - (s.vMin * s.vMin : Nat))

/-- A string's state of charge: the mean over its ACTIVE positions (R282). -/
def State.socStr (s : State) (x : Nat) : Rat :=
  let l := s.roleCells x 0
  quot (l.foldl (fun a p => a + s.socCell x p) 0) l.length

/-- The shelf's: over the strings whose contactor is closed, or over both (R282). -/
def State.socShelf (s : State) : Rat :=
  if s.contClosed 0 && !s.contClosed 1 then s.socStr 0
  else if s.contClosed 1 && !s.contClosed 0 then s.socStr 1
  else (s.socStr 0 + s.socStr 1) / 2

/-- A fraction in 0.01 %. -/
def pct100 (q : Rat) : Nat := (clampI 0 10000 (roundRat (10000 * q))).toNat

/-- The string rests: its rest has reached RESTING (R290). -/
def State.resting (s : State) (x : Nat) : Bool := s.est.rest == some x && s.get EST_REST_STATUS_STATE == 2

/-- v̂ of the ACTIVE positions after the margins of R281: `up` moves towards the charge limit. -/
def State.margined (s : State) (x : Nat) (up : Bool) : List Rat :=
  (s.roleCells x 0).map fun p =>
    let m : Rat := if s.uncertain x p || s.isSet (cellBit x p 28) then 10 * s.get EST_UNC_UNC_MV else 0
    (s.es x).vhat.getD p 0 + (if up then m else -m)

/-- The smallest and the largest of a list. -/
def least (l : List Rat) : Rat := l.foldl (fun a b => min a b) (l.headD 0)
def most (l : List Rat) : Rat := l.foldl (fun a b => max a b) (l.headD 0)

/-- E_dn and E_up of a string, J (R283). -/
def State.energyDn (s : State) (x : Nat) : Rat :=
  let v := least (s.margined x false)
  let lo : Rat := 10 * s.get EST_LIM_V_LO
  max 0 (24 * s.cEff x * (v * v - lo * lo) / 1000000000)
def State.energyUp (s : State) (x : Nat) : Rat :=
  let v := most (s.margined x true)
  let hi : Rat := 10 * s.get EST_LIM_V_HI
  max 0 (24 * s.cEff x * (hi * hi - v * v) / 1000000000)

/-- The strings that carry headroom (R283). -/
def State.headStrings (s : State) : List Nat := (List.range 2).filter fun x => s.contClosed x && !s.resting x

/-- Show SoC and headroom (R282, R283, R301). -/
def State.showShelf (s : State) : State :=
  let s := ((s.set EST_SOC_A (pct100 (s.socStr 0))).set EST_SOC_B (pct100 (s.socStr 1))).set EST_SOC_SHELF_SOC (pct100 s.socShelf)
  (s.wrN EST_HR_DN (roundRat (s.headStrings.foldl (fun a x => a + s.energyDn x) 0)).toNat).wrN EST_HR_UP
    (roundRat (s.headStrings.foldl (fun a x => a + s.energyUp x) 0)).toNat

/-- Show one cell estimate (R303). -/
def State.showCell (x p : Nat) (s : State) : State :=
  let e := s.es x
  let w0 : Nat := s.rdN (EST_CELL_0 x p) / 0x40000000 % 2
  let w := (s.uncertain x p).toNat * 0x80000000 + w0 * 0x40000000 + pct100 (s.socCell x p) * 0x10000 + (roundRat (e.vhat.getD p 0)).toNat % 0x10000
  (s.wrN (EST_CELL_0 x p) w).wrN (EST_CELL_1 x p) ((e.rBase.getD p none).getD 0xFFFF * 0x10000 + (roundRat (e.r.getD p 0)).toNat % 0x10000)

/-- Show a string's registers (R301, R302). -/
def State.showStr (s : State) (x : Nat) : State :=
  let e := s.es x
  let act := s.roleCells x 0
  let s := (s.wrN (EST_EFC x) (roundRat e.efc).toNat).wrN (EST_CAP x) (roundRat (s.cEff x)).toNat
  let s := s.wrN (EST_RES x) (roundRat (act.foldl (fun a p => a + e.r.getD p 0) 0)).toNat
  let s := (s.setI (EST_BIAS_I_BIAS x) (roundRat e.bias)).wr64 (EST_REF_LO x) (EST_REF_HI x) e.ref
  let s := s.set (EST_STR_STATUS_UNCERT_CNT x) (act.filter (s.uncertain x)).length
  ((s.setB (EST_STR_STATUS_RESTING x) (s.resting x)).setB (EST_STR_STATUS_IN_SERVICE x) (s.contClosed x)).set (EST_STR_STATUS_RUN x) 1

/-! ### ESTIMATOR_RUN (R278) -/

/-- The readings of a rest's averaging (R290). -/
def State.restAverage (s : State) (x : Nat) : State :=
  if !s.est.averaging || s.est.rest != some x then s
  else
    let e := s.es x
    let ok := fun (p : Nat) => s.cellOk x p
    s.setEs x { e with
      restSum := (List.range 52).map (fun p => e.restSum.getD p 0 + (if ok p then s.volt x p else 0)),
      restN := (List.range 52).map (fun p => e.restN.getD p 0 + (if ok p then 1 else 0)) }

/-- What the next run needs of this one; the charge is taken. -/
def State.estNext (s : State) (x : Nat) : State :=
  s.setEs x { s.es x with
    charge := 0, lastT0 := some (s.rs x).t0,
    lastI := (List.range 52).map (fun p => s.ampsAt x (s.instant x p)),
    lastV := (List.range 52).map (fun p => if s.learnable x p then some (s.volt x p) else none),
    recov := (List.range 4).filter (fun m => s.monSt x m == 3) }

/-- EFC and then the cells of a string (R280, R284). -/
def State.estRun (s : State) (x : Nat) : State :=
  let e := s.es x
  let s := s.setEs x { e with efc := e.efc + |quot (s.runCharge x) (2 * s.cDesign * (s.vMax - s.vMin) / 10 : Rat)| }
  let s := forN 52 (State.estCell s x) s
  let s := forN 52 (State.showCell x) ((s.restAverage x).estNext x)
  (s.showStr x).showShelf.set (if x = 0 then EST_SEQ_A else EST_SEQ_B) (s.rdN (RING_SEQ x))

/-- ESTIMATOR_RUN: while the ring is enumerated and not lost (R278). -/
def execEstimatorRun (x : StrNo) (s : State) : Res := s.on fun s =>
  if s.get (RING_STATUS_ENUM x.val) = 5 ∧ s.get (RING_STATUS_TOPO x.val) ≠ 2 then .next (s.estRun x.val)
  else .next (s.clear (EST_STR_STATUS_RUN x.val))

/-! ### Rest rotation (R289 to R292) -/

/-- A string is due (R289). -/
def State.restDue (s : State) (x : Nat) : Bool :=
  s.est.dueNow == some x || decide ((s.es x).ref + 1800 * s.get EST_REST_CFG_REST_PERIOD ≤ s.opsec)

/-- The ring condition of R289. -/
def State.restRing (s : State) (x : Nat) : Bool :=
  s.get (RING_STATUS_TOPO x) == 0 && s.get (RING_STATUS_MON_LOST x) == 0 && s.get (RING_STATUS_MON_RECOV x) == 0
    && !s.swapping x && (s.rs x).test.isNone

/-- |storage power| averaged over the last 10 s, W: over the samples of the last ten checks, one a second (R289). -/
def State.powAvg (s : State) : Rat :=
  let l := (s.est.powHist.take 9) ++ [(s.est.powSum, s.est.powN)]
  let n := l.foldl (fun a p => a + p.2) 0
  if n = 0 then 0 else ((l.foldl (fun a p => a + p.1) 0 : Nat) : Rat) / (1000 * n : Nat)

/-- The second's mean joins those of the seconds before. -/
def State.powTurn (s : State) : State :=
  { s with est := { s.est with powSum := 0, powN := 0, powHist := ((s.est.powSum, s.est.powN) :: s.est.powHist).take 9 } }

/-- The string can rest (R289). -/
def State.canRest (s : State) (x : Nat) : Bool :=
  s.shelf == stArmed && s.isSet FCST_STATUS_QUIET
    && decide (s.now + (s.get EST_REST_CFG_REST_S + 5) * tickS ≤ s.rd64 FCST_QUIET_END_LO FCST_QUIET_END_HI)
    && decide (s.powAvg ≤ (1000 * s.get EST_REST_CFG_REST_PMAX : Nat)) && s.restRing x

/-- A rest starts (R290). -/
def State.restStart (s : State) (x : Nat) : State :=
  let held := (List.range 8).filter fun c => s.get (REIN_CAS_SRC_DEST_SEL c) == 2
  let s := { s with est := { s.est with rest := some x, averaging := false, held := held } }
  (((s.set EST_REST_STATUS_STATE 1).set EST_REST_STATUS_CAUSE 0).set EST_REST_STATUS_STRING x).forceShedString x

/-- The check of a rest: the due string starts, or SKIPPED counts (R289). -/
def State.restCheck (s : State) : State :=
  let st := s.get EST_REST_STATUS_STATE
  if !s.isSet EST_CTRL_REST_EN ∨ st = 1 ∨ st = 2 then s
  else
    match (List.range 2).find? s.restDue with
    | none => s
    | some x => if s.canRest x then s.restStart x else s.bumpSat EST_REST_STATUS_SKIPPED 1

/-- REST_CHECK (R289). -/
def execRestCheck (s : State) : Res := s.on fun s => .next s.restCheck.powTurn

/-- A string becomes due at once: the one with the older reference, A of two as old. -/
def State.restNow (s : State) : State :=
  { s with est := { s.est with dueNow := some (if (s.es 1).ref < (s.es 0).ref then 1 else 0) } }.clear EST_CTRL_REST_NOW

/-- REST_NOW (R289). -/
def execRestNow (s : State) : Res := s.on fun s => .next s.restNow

/-- The current of a string has stayed within 2 A for 1 ms (R290). -/
def State.restCalm (s : State) (x : Nat) : Bool :=
  match s.ampsOver x s.now tickMs with
  | some l => l.all fun v => decide (|v| ≤ 2000)
  | none => false

/-- REST_SHED_COMPLETE: |i_s| ≤ 2 A for 1 ms (R290). -/
def execRestShedComplete (s : State) : Res := s.on fun s =>
  if s.get EST_REST_STATUS_STATE ≠ 1 || !s.restCalm (s.get EST_REST_STATUS_STRING) then .next s
  else
    let s := s.set EST_REST_STATUS_STATE 2
    .next (s.set (EST_STR_STATUS_RESTING (s.get EST_REST_STATUS_STRING)) 1)

/-- A rest's holds end: FORCE_SHED, but for a string that STR_OUT holds, and the held cascades (R290, R291). -/
def State.restRelease (s : State) : State :=
  let x := s.get EST_REST_STATUS_STRING
  let s := if x ∈ s.brd.strOut then s else forL (stringChans x) (fun n t => t.clear (HRN_CH_CTRL_FORCE_SHED n)) s
  { s with est := { s.est with rest := none, averaging := false, held := [] } }.clear (EST_STR_STATUS_RESTING x)

/-- A rest aborts with its cause (R291): an F0 event. -/
def State.restAbort (s : State) (cause : Nat) : State :=
  (((s.restRelease.set EST_REST_STATUS_STATE 4).set EST_REST_STATUS_CAUSE cause).raiseBit EST_REST_STATUS_ABORT 240).raise 0x040D cause 0 0

/-- REST_SHED_TIMEOUT: the current condition is not met in time (R291). -/
def execRestShedTimeout (s : State) : Res := s.on fun s =>
  if s.get EST_REST_STATUS_STATE = 1 then .next (s.restAbort 4) else .next s

/-- The first matching cause of R291 that shows now; 0 for none. -/
def State.restCause (s : State) : Nat :=
  if !s.isSet FCST_STATUS_QUIET then 1
  else if s.shelf ≠ stArmed then 2
  else if s.isSet REIN_STATUS_UNSERVED then 3
  else if !s.restRing (s.get EST_REST_STATUS_STRING) then 5
  else if !s.isSet EST_CTRL_REST_EN then 6
  else 0

/-- REST_ABORT (R291). -/
def execRestAbort (s : State) : Res := s.on fun s =>
  if (s.get EST_REST_STATUS_STATE = 1 ∨ s.get EST_REST_STATUS_STATE = 2) ∧ s.restCause ≠ 0 then .next (s.restAbort s.restCause)
  else .next s

/-- REST_AVERAGE_START: the averages of the last 1,024 sweeps begin (R290). -/
def execRestAverageStart (s : State) : Res := s.on fun s =>
  if s.get EST_REST_STATUS_STATE ≠ 2 then .next s
  else
    let x := s.get EST_REST_STATUS_STRING
    let s := { s with est := { s.est with averaging := true } }
    .next (s.setEs x { s.es x with restSum := List.replicate 52 0, restN := List.replicate 52 0 })

/-- The new I_BIAS of a reference, 10 mA (R292). -/
def State.newBias (s : State) (x : Nat) (dv : Rat) : Rat :=
  let e := s.es x
  match e.refAt with
  | some t => max (-500) (min 500 (e.bias - quot (s.cEff x * dv) (2000 * ((s.opsec : Rat) - t))))
  | none => e.bias

/-- A reference is taken (R292). -/
def State.takeReference (s : State) (x : Nat) : State :=
  let e := s.es x
  let ok := fun (p : Nat) => s.estimated x p && decide (512 ≤ e.restN.getD p 0)
  let avg := fun (p : Nat) => ((e.restSum.getD p 0 : Rat)) / (e.restN.getD p 0 : Rat)
  let act := (s.roleCells x 0).filter ok
  let dv := quot (act.foldl (fun a p => a + (e.vhat.getD p 0 - avg p)) 0) act.length
  let old := s.socStr x
  let bias := s.newBias x dv
  let s := s.setEs x { e with
    vhat := (List.range 52).map (fun p => if ok p then avg p else e.vhat.getD p 0),
    bias := bias, ref := s.opsec, refAt := some s.opsec }
  let s := s.setI (EST_BIAS_SOC_OFFSET x) (roundRat (10000 * (s.socStr x - old)))
  { s with est := { s.est with dueNow := if s.est.dueNow = some x then none else s.est.dueNow } }

/-- REST_REFERENCE: the rest is DONE (R290, R292). -/
def execRestReference (s : State) : Res := s.on fun s =>
  if s.get EST_REST_STATUS_STATE ≠ 2 then .next s
  else
    let x := s.get EST_REST_STATUS_STRING
    let s := ((s.takeReference x).restRelease.set EST_REST_STATUS_STATE 3).raiseBit EST_REST_STATUS_DONE 240
    .next (((forN 52 (State.showCell x) s).showStr x).showShelf.jnlTrigger 5)

end Sys2Proof.Machine
end

