-- ==== Sys2Proof/Machine/Fabric.lean ====
section
/-! DEFINITION. The Turpor fabric (R304 to R317): identity and succession records, frames on the wire,
acceptance of control records, fabric time, paths. Stamps are in 1/256 tick. -/

namespace Sys2Proof.Machine

/-! ### Identity and succession (R304 to R306) -/

/-- The fabric frame of shelf time (R312). -/
def State.frame (s : State) : Nat := s.now / 2000

def State.shelfId (s : State) : Nat := s.get FAB_ID_SHELF_ID
def State.hallId (s : State) : Nat := s.get FAB_ID_HALL_ID
def State.team (s : State) : Nat := s.shelfId / 16
def State.member (s : State) : Nat := s.shelfId % 16

/-- The 596 bytes of the SUCCESSION record in effect, defaults included (R306). -/
def State.succession (s : State) : List Byte :=
  match s.profileRec 0x0009 with
  | some l => padTo 596 l
  | none =>
    leBytes 1 32 ++ zeros 3 ++ ((List.range 32).map fun i => leBytes 2 (16 * i)).flatten
      ++ (List.replicate 32 ((List.range 16).map fun k => (BitVec.ofNat 8 k : Byte))).flatten
      ++ leBytes 4 0 ++ leBytes 4 200000 ++ leBytes 4 1000 ++ leBytes 4 100

/-- HALL_LIST, TEAM_ORDER of a team as shelf IDs, and SUCC_DIGEST (R306). -/
def State.hallList (s : State) : List Nat := (List.range (leAt s.succession 0 1)).map fun i => leAt s.succession (4 + 2 * i) 2
def State.teamList (s : State) (t : Nat) : List Nat := (slice s.succession (68 + 16 * t) 16).map fun b => 16 * t + b.toNat
def State.succDigest (s : State) : Word := BitVec.ofNat 32 (leNat ((Config.sha3_512 s.succession).take 4))

/-- HALL_MIN and HALL_MAX in 10 W, HALL_RAMP in kW/s, HALL_TAU in 0.1 s, with the host's overrides (R323). -/
def State.hallMin (s : State) : Nat := 100 * (if s.rdN FAB_HALL_MIN = 0 then leAt s.succession 580 4 else s.rdN FAB_HALL_MIN)
def State.hallMax (s : State) : Nat := 100 * (if s.rdN FAB_HALL_MAX = 0 then leAt s.succession 584 4 else s.rdN FAB_HALL_MAX)
def State.hallRamp (s : State) : Nat :=
  if s.get FAB_HALL_CFG_HALL_RAMP = 0 then leAt s.succession 588 4 else 100 * s.get FAB_HALL_CFG_HALL_RAMP
def State.hallTau (s : State) : Nat := leAt s.succession 592 4

/-- FIRC stands for XTAL-A (R131). -/
def State.onFirc (s : State) : Bool := s.isSet CLK_SRC_SEL_PLL_REF

/-! ### Frames (R308 to R310) -/

/-- The Turpor MACs and the high section of PLL-LINK, which takes XTAL-A only, are clocked (R106, R118). -/
def State.fabClocked (s : State) : Bool := s.isSet CLK_GATE_EFF_FAB && s.isSet CLK_READY_XTAL_A

/-- A path is in use (R334). -/
def State.pathOn (s : State) (p : Nat) : Bool :=
  s.fabClocked && (if p = 0 then s.isSet FAB_CTRL_NEAR_EN else s.isSet FAB_CTRL_OFF_EN)

/-- A path's timing. -/
def State.pth (s : State) (p : Nat) : PathSt := s.fab.paths.getD p {}
def State.setPth (s : State) (p : Nat) (t : PathSt) : State := { s with fab := { s.fab with paths := s.fab.paths.set p t } }

/-- The module may send on a path: it is in use and its link is not lost (R334), control firmware runs (R75), and TX_DISABLE is
low (R50). -/
def State.canSend (s : State) (p : Nat) : Bool :=
  s.pathOn p && s.boot.fwRuns && !s.pins.txDisable.getD p false && !(s.pth p).linkLost

/-- Group and unicast addresses (R308). -/
def State.unicast (s : State) (id : Nat) : List Byte :=
  slice ((s.profileRec 0x8005).getD []) 12 4 ++ [BitVec.ofNat 8 (id / 256), BitVec.ofNat 8 id]
def State.teamGroup (s : State) (t : Nat) : List Byte := slice ((s.profileRec 0x8005).getD []) 8 4 ++ [0x00#8, BitVec.ofNat 8 t]
def State.hallGroup (s : State) : List Byte := slice ((s.profileRec 0x8005).getD []) 8 4 ++ [0x01#8, 0x00#8]

/-- Two bytes, most significant first. -/
def be16 (v : Nat) : List Byte := [BitVec.ofNat 8 (v / 256), BitVec.ofNat 8 v]

/-- An Ethernet frame of the fabric, without preamble and FCS (R308): addresses, the tag where VID is not 0, the EtherType. -/
def State.ether (s : State) (dest : List Byte) (pcp : Nat) (body : List Byte) : List Byte :=
  let vid := s.profileAt 0x8005 4 2 0
  dest ++ s.unicast s.shelfId ++ (if vid = 0 then [] else [0x81#8, 0x00#8] ++ be16 (pcp * 0x2000 + vid))
    ++ be16 (s.profileAt 0x8005 0 2 0) ++ body

/-- The header of R309. -/
def State.fabHeader (s : State) (kind path seq : Nat) : List Byte :=
  leBytes 1 1 ++ leBytes 1 kind ++ leBytes 2 (s.shelfId + 0x8000 * path) ++ leBytes 2 s.hallId ++ leBytes 2 (s.rdN SBG_CYCLES)
    ++ leBytes 4 seq ++ leBytes 4 s.frame

/-- A control message takes the next SEQ (R310). -/
def State.nextSeq (s : State) : State := { s with fab := { s.fab with seq := (s.fab.seq + 1) % 2 ^ 32 } }

/-- Send the copy of the current control message on one path, if it may go out there. -/
def State.sendOn (s : State) (p kind : Nat) (dest body : List Byte) : State :=
  if s.canSend p then
    s.emit (.fabric p (s.ether dest (s.profileAt 0x8005 6 1 0) (s.fabHeader kind p s.fab.seq ++ body)))
  else s

/-- A control message on every path in use (R310). -/
def State.sendControl (s : State) (kind : Nat) (dest body : List Byte) : State :=
  (s.nextSeq.sendOn 0 kind dest body).sendOn 1 kind dest body

/-! ### Acceptance (R310, R311) -/

/-- Whether a record passes a sender's window, and the window after it. -/
def winTake (w : Option RxWin) (h : FabHdr) : Option RxWin :=
  let fresh : RxWin := { src := h.src.val, inc := h.inc.val, high := h.seq.toNat, marks := 0 }
  match w with
  | none => some fresh
  | some w =>
    let n := h.seq.toNat
    if w.inc ≠ h.inc.val then some fresh
    else if w.high + 64 < n then some fresh
    else if w.high < n then
      some { w with high := n, marks := (w.marks * 2 ^ (n - w.high) + 2 ^ (n - w.high - 1)) % 2 ^ 64 }
    else if n < w.high ∧ w.high ≤ n + 64 ∧ !bitOf w.marks (w.high - n - 1) then
      some { w with marks := bitPut w.marks (w.high - n - 1) true }
    else none

/-- The module gives up its lead roles. -/
def State.dropLeads (s : State) : State :=
  { s with fab := { s.fab with starts := [none, none], ends := [none, none] } }.clear FAB_STATUS_HALL_LEAD |>.clear FAB_STATUS_TEAM_LEAD

/-- A conflict of shelf IDs (R311). Once it stands, each operating second repeats the code (R417). -/
def State.idConflict (s : State) : State :=
  if s.isSet FAB_STATUS_ID_CONFLICT then s else ((s.set FAB_STATUS_ID_CONFLICT 1).dropLeads).raise 0x0703 0 0 0

/-- What becomes of a control record. -/
inductive FabFate
  | taken | late | dropped
  deriving DecidableEq, Repr

/-- Judge a control record (R310, R311, R334): the path in use, the hall, the own identity, the window, the frame. A late record is
not accepted, so it leaves the window as it is. -/
def State.judge (s : State) (h : FabHdr) : FabFate × State :=
  if !s.pathOn h.path.val then (.dropped, s)
  else if h.hall.val ≠ s.hallId then (.dropped, s.bumpSat FAB_LATE_CNT_OTHER 1)
  else if h.src.val = s.shelfId then (.dropped, s.idConflict)
  else
    match winTake (s.fab.wins.find? (·.src == h.src.val)) h with
    | none => (.dropped, s.wrapReg FAB_DUP_CNT)
    | some w =>
      if h.frame.toNat ≠ s.frame % 2 ^ 32 then (.late, s.bumpSat FAB_LATE_CNT_LATE 1)
      else
        (.taken, { s with fab := { s.fab with wins := w :: s.fab.wins.filter (·.src != h.src.val) } }.wrapReg FAB_RX_CNT)

/-! ### Paths (R334) -/

/-- A path that is heard again comes back: by a SYNC, and on the hall lead by any record, unless RX_LOS or TX_FAULT still stands. -/
def State.pathHeard (s : State) (p : Nat) (sync : Bool) : State :=
  let s := (s.set (FAB_PATH_BLOCK_LOCK p) 1).setPth p { s.pth p with linkLost := false }
  if s.isSet (FAB_PATH_DOWN p) ∧ (sync ∨ s.isSet FAB_STATUS_HALL_LEAD) ∧ !s.isSet ⟨SYS_CONN_STATUS, 10 + p, 1⟩
      ∧ !s.isSet ⟨SYS_CONN_STATUS, 12 + p, 1⟩ then
    ((s.clear (FAB_PATH_DOWN p)).unraise 0x0701 p).unraise 0x0702 0
  else s

/-! ### Fabric time (R314 to R317) -/

/-- The time source: Near unless it is down (R314). -/
def State.timeSource (s : State) : Nat := if s.isSet (FAB_PATH_DOWN 0) then 1 else 0

/-- A SYNC was heard on some path within the last 16 frames. -/
def State.syncHeard (s : State) : Bool :=
  s.fab.paths.any fun t => match t.heard with
    | some f => decide (s.frame ≤ f + 16)
    | none => false

/-- TIME_HELD (R316): 40 ns are 1,024 units of 1/256 tick. -/
def State.timeHeld (s : State) : Bool :=
  if s.onFirc then false
  else if s.isSet FAB_STATUS_HALL_LEAD then true
  else
    let t := s.pth s.timeSource
    t.ests.length == 2 && t.ests.all (fun o => decide (o.natAbs ≤ 1024)) && t.delay.isSome
      && decide (s.elapsed ≤ t.delayAt + 2 * tickS) && !s.isSet FAB_STATUS_FAR && s.syncHeard

/-- Show TIME_HELD and the time source; without TIME_HELD the module takes no lead role (R335). -/
def State.showTime (s : State) : State :=
  let held := s.timeHeld
  let s := s.setB FAB_STATUS_TIME_HELD held
  let s := (s.setB (FAB_PATH_TIME_SRC 0) (s.timeSource == 0)).setB (FAB_PATH_TIME_SRC 1) (s.timeSource == 1)
  if held then s else s.dropLeads

/-- The offset sample of a SYNC copy on its path; before a delay is measured d is a free value (R314, log 2). -/
def State.offsetSample (s : State) (p : Nat) (rx tx : Int) : State :=
  let t := s.pth p
  let (d, s) := match t.delay with
    | some d => (d, s)
    | none => ((s.fresh.1 : Int), s.fresh.2)
  let raw := rx - tx
  let best := match t.best with
    | some (b, o) => if raw < b then some (raw, raw - d) else some (b, o)
    | none => some (raw, raw - d)
  s.setPth p { t with best := best, lastSync := some (tx, rx), heard := some s.frame }

/-- Steer an offset away (R314): 1/256 tick is 5,000 units. -/
def State.steerBy (s : State) (o : Int) : State := { s with fab := { s.fab with steer := -5000 * o } }

/-- The offset is back within ±40 ns: FAR and its code end (R317, R418). -/
def State.notFar (s : State) : State := (s.clear FAB_STATUS_FAR).unraise 0x0705 0

/-- OFFSET_ESTIMATE: a block of 16 frames ends on a path (R314, R316, R317). The hall lead steers nothing. -/
def execOffsetEstimate (p : Fin 2) (s : State) : Res := s.on fun s =>
  let t := s.pth p.val
  match t.best with
  | none => .next s.showTime
  | some (_, o) =>
    let s := s.setPth p.val { t with best := none, ests := (o :: t.ests).take 2 }
    if s.isSet FAB_STATUS_HALL_LEAD ∨ p.val ≠ s.timeSource then .next s.showTime
    else
      let s := (s.wrI FAB_TIME_OFS (roundDiv (o * 100) 256)).steerBy o
      if s.armedStates then
        (if 256000 < o.natAbs then
          .next ((if s.isSet FAB_STATUS_FAR then s else (s.set FAB_STATUS_FAR 1).raise 0x0705 0 (roundDiv (o * 100) 256) 100000).showTime)
         else .next ((if o.natAbs ≤ 1024 then s.notFar else s).showTime))
      else
        let s := if o.natAbs ≤ 1024 then s.notFar else s
        let s := if 25600 < o.natAbs ∧ s.shelf ≠ stDown then { s with fab := { s.fab with stepDue := some o } } else s
        .next s.showTime

/-- A shelf-time step counts as a skipped sweep of the enumerated rings (R317). -/
def State.stepSkips (s : State) : State :=
  forN 2 (fun x t => if t.ringDone x then (t.bumpSat (RING_ERR_CNT_SKIPPED x) 1).ringEvt x RING_EVT_SKIPPED false else t) s

/-- Stamps taken before a step say nothing after it. -/
def pathRestart (t : PathSt) : PathSt := { t with best := none, ests := [], lastSync := none, req := none, heard := none }

/-- One tick of shelf time (R115, R314): the count and the part of a tick steered so far, after a correction of at most 200 ppm,
which is 256 units. The count moves by 1, or by 0 or 2 where a whole tick has been steered. -/
def Fab.advance (f : Fab) (t : Word64) : Fab × Word64 :=
  let c := max (-256) (min 256 f.steer)
  let x := f.steered + c
  let f := { f with steer := f.steer - c }
  if x < 0 then ({ f with steered := x + 1280000 }, t)
  else if x < 1280000 then ({ f with steered := x }, t + 1)
  else ({ f with steered := x - 1280000 }, t + 2)

/-- TIME_STEP: at the frame boundary, outside the armed states (R317, R336). -/
def execTimeStep (s : State) : Res := s.on fun s =>
  match s.fab.stepDue with
  | none => .next s
  | some o =>
    let s := { s with fab := { s.fab with stepDue := none } }
    if s.armedStates then .next s
    else
      let old := s.now
      let s := { s with
        time := BitVec.ofInt 64 ((old : Int) - roundDiv o 256),
        fab := { s.fab with paths := s.fab.paths.map pathRestart, steer := 0 } }
      .next (((s.raiseBit FAB_STATUS_TIME_STEP 241).record kTimeStep 1 4 0 0 0 false (leBytes 8 old)).stepSkips.showTime)

/-! ### Delay measurement (R315, R322) -/

/-- A stamp in ticks and 1/256 tick. -/
def stampBytes (t : Nat) : List Byte := leBytes 8 (t / 256) ++ leBytes 1 t

/-- The frame is designated for a path's DELAY_REQ (R315): by the frame number, or as the first one after a change of hall lead. -/
def State.reqDue (s : State) (p : Nat) : Bool :=
  s.frame % 50000 == 64 * s.shelfId + 32 * p || ((s.pth p).measure && s.frame % 64 == s.shelfId % 64)

/-- DELAY_REQ_SEND (R315): on one path, to the hall lead, with its transmit stamp. -/
def execDelayReqSend (p : Fin 2) (t3 : Nat) (s : State) : Res := s.on fun s =>
  let lead := s.get FAB_LEADS_HALL
  if s.isSet FAB_STATUS_HALL_LEAD ∨ lead = 0x1FF ∨ s.isSet FAB_STATUS_ID_CONFLICT ∨ !s.reqDue p.val ∨ !s.canSend p.val then .next s
  else
    let s := s.nextSeq
    let s := s.setPth p.val { s.pth p.val with req := some (s.fab.seq, t3), measure := false }
    .next (s.sendOn p.val 4 (s.unicast lead) (stampBytes t3 ++ zeros 7))

/-- The module acts as lead: it holds the role, or lost it to a winning record in this frame (R332). -/
def State.holds (s : State) (hall : Bool) : Bool :=
  s.isSet (if hall then FAB_STATUS_HALL_LEAD else FAB_STATUS_TEAM_LEAD)
    || s.fab.ends.getD (if hall then 0 else 1) none == some s.frame

/-- DELAY_REQ_RECEIVED (R315): the hall lead keeps it for tick 700. -/
def execDelayReqReceived (h : FabHdr) (_t3 : Nat) (s : State) : Res := s.on fun s =>
  let (f, s) := s.judge h
  let s := if f = .dropped then s else s.pathHeard h.path.val false
  if f ≠ .taken ∨ !s.holds true then .next s
  else .next { s with fab := { s.fab with reqs := s.fab.reqs ++ [(h.src.val, h.path.val, h.seq.toNat, (h.stamp : Int))] } }

/-- One answer of the hall lead. -/
def State.sendResp (q : Nat × Nat × Nat × Int) (s : State) : State :=
  if s.canSend q.2.1 then s.nextSeq.sendOn q.2.1 5 (s.unicast q.1) (leBytes 4 q.2.2.1 ++ stampBytes q.2.2.2.toNat ++ zeros 3) else s

/-- DELAY_RESP_SEND (R315): the hall lead answers every DELAY_REQ of the frame. -/
def execDelayRespSend (s : State) : Res := s.on fun s =>
  let l := s.fab.reqs
  let s := { s with fab := { s.fab with reqs := [] } }
  if s.holds true then .next (forL l State.sendResp s) else .next s

/-- The path delay d of R314, shown in ns. -/
def State.setDelay (s : State) (p : Nat) (d : Int) : State :=
  (s.setPth p { s.pth p with delay := some d, delayAt := s.elapsed, req := none }).setI
    (if p = 0 then FAB_DELAY_NEAR else FAB_DELAY_OFF) (roundDiv (d * 10) 256)

/-- DELAY_RESP_RECEIVED (R314): d of the path, from its last SYNC and this exchange. -/
def execDelayRespReceived (h : FabHdr) (reqSeq : Word) (t4 : Nat) (s : State) : Res := s.on fun s =>
  let (f, s) := s.judge h
  let s := if f = .dropped then s else s.pathHeard h.path.val false
  if f ≠ .taken then .next s
  else
    match (s.pth h.path.val).req, (s.pth h.path.val).lastSync with
    | some (q, t3), some (t1, t2) =>
      if q = reqSeq.toNat then .next (s.setDelay h.path.val (roundDiv ((t2 - t1) + ((t4 : Int) - t3)) 2)).showTime else .next s
    | _, _ => .next s

/-! ### A path goes down (R334) -/

/-- A SYNC arrived on a path within the last three frames. -/
def State.syncNear (s : State) (p : Nat) : Bool :=
  match (s.pth p).heard with
  | some f => decide (s.frame < f + 3)
  | none => false

/-- PATH_DOWN: ALARM, 0x0701, and 0x0702 with both down; the cage's pin shows in SYS_CONN_STATUS (R66). A path that misses its SYNCs
is down only while the other delivers them. -/
def execPathDown (p : Fin 2) (c : PathCause) (s : State) : Res := s.on fun s =>
  let lost := fun (t : State) => t.setPth p.val { t.pth p.val with linkLost := true }
  let s := match c with
    | .noLock => lost (s.clear (FAB_PATH_BLOCK_LOCK p.val))
    | .los => lost (s.conn (10 + p.val) true)
    | .txFault => s.conn (12 + p.val) true
    | .missing => s
  if s.isSet (FAB_PATH_DOWN p.val) ∨ (c = .missing ∧ (s.syncNear p.val ∨ !s.syncNear (1 - p.val))) then .next s.showTime
  else
    let s := ((s.set (FAB_PATH_DOWN p.val) 1).raiseBit (FAB_PATH_ALARM p.val) 242).raise 0x0701 p.val 0 0
    let s := if s.isSet (FAB_PATH_DOWN (1 - p.val)) then s.raise 0x0702 0 0 0 else s
    .next s.showTime

end Sys2Proof.Machine
end

