-- ==== Sys2Proof/Machine/Leads.lean ====
section
/-! DEFINITION. The records of the fabric frame (R318 to R328): SYNC, SHARE, TEAM_SUMMARY, the hall and
team targets, the target selection; leads and succession (R330 to R333). Powers are in 10 W. -/

namespace Sys2Proof.Machine

/-! ### Leads (R330 to R332) -/

/-- A lead record may be sent: the role, no conflict, TIME_HELD, and the frame from which it starts (R311, R331, R335). -/
def State.leads (s : State) (hall : Bool) : Bool :=
  s.holds hall && !s.isSet FAB_STATUS_ID_CONFLICT
    && s.isSet FAB_STATUS_TIME_HELD
    && (match s.fab.starts.getD (if hall then 0 else 1) none with
        | some f => decide (f ≤ s.frame)
        | none => true)

/-- The rank of a shelf in a list; beyond the end when it is not in it. -/
def rankIn (l : List Nat) (id : Nat) : Nat := l.findIdx (· == id)

/-- A record's sender wins over the followed one: the higher epoch, then the earlier in the list (R332). -/
def wins (l : List Nat) (e id e0 id0 : Nat) : Bool := decide (e0 < e) || (e == e0 && decide (rankIn l id < rankIn l id0))

/-- Follow a lead: LEAD_CHANGE when it is another one (R332, R340). -/
def State.followHall (s : State) (id epoch : Nat) : State :=
  let s := if s.get FAB_LEADS_HALL = id then s
    else ({ s with fab := { s.fab with paths := s.fab.paths.map fun (t : PathSt) => { t with measure := true } } }).raiseBit
      FAB_STATUS_LEAD_CHANGE 241
  (s.set FAB_LEADS_HALL id).set FAB_EPOCH_HALL epoch
def State.followTeam (s : State) (id epoch : Nat) : State :=
  let s := if s.get FAB_LEADS_TEAM = id then s else s.raiseBit FAB_STATUS_LEAD_CHANGE 241
  (s.set FAB_LEADS_TEAM id).set FAB_EPOCH_TEAM epoch

/-- SHORT: the newest summary or SYNC carries SHORT_DIS or SHORT_CHG (R340). -/
def State.showShort (s : State) : State :=
  let a := match s.fab.sync with
    | some r => r.short
    | none => false
  let b := match s.fab.summ with
    | some r => r.flags % 4 != 0
    | none => false
  s.setB FAB_STATUS_SHORT (a || b)

/-- A member of the own team is live (R330); the module itself always. -/
def State.memberLive (s : State) (k : Nat) : Bool :=
  k == s.member || (match s.fab.shares.find? (·.member == k) with
    | some r => decide (s.frame < r.heard + 3)
    | none => false)

/-- What a module reports of another shelf of the hall: live, and the FLAGS of its SHARE (R321, R330). -/
def State.hallSeen (s : State) (id : Nat) : Option Nat :=
  if id / 16 = s.team then
    (if s.memberLive (id % 16) then (s.fab.shares.find? (·.member == id % 16)).map (·.flags) else none)
  else
    match s.fab.summs.find? (·.team == id / 16) with
    | some r =>
      if decide (s.frame < r.heard + 3) && bitOf r.live (id % 16) then (r.members[id % 16]?).map (fun (m : Int × Int × Nat × Nat × Nat) => m.2.2.2.1)
      else none
    | none => none

/-- The own SUCC_DIGEST agrees with the newest SYNC's, or none has been heard (R331). -/
def State.digestOk (s : State) : Bool :=
  match s.fab.digest with
  | some d => d == s.succDigest.toNat
  | none => true

/-- A shelf is live and eligible (R331): the module by its own state, another by what it last reported. -/
def State.eligible (s : State) (hall : Bool) (id : Nat) : Bool :=
  if id = s.shelfId then
    s.isSet FAB_CTRL_LEAD_EN && !s.isSet FAB_STATUS_ID_CONFLICT && s.digestOk
      && (if hall then !s.onFirc else s.isSet FAB_STATUS_TIME_HELD)
  else
    match s.hallSeen id with
    | none => false
    | some f =>
      bitOf f 3 && (hall || bitOf f 0)
        && (if id / 16 = s.team then
              (match s.fab.shares.find? (·.member == id % 16), s.fab.digest with
               | some r, some d => r.digest == d
               | _, _ => true)
            else true)

/-- The successor of a lead: the first live and eligible one after it, wrapping; from the start when none was heard (R331). -/
def State.successor (s : State) (hall : Bool) (failed : Nat) : Option Nat :=
  let l := if hall then s.hallList else s.teamList s.team
  let i := rankIn l failed
  (if i < l.length then l.drop (i + 1) ++ l.take (i + 1) else l).find? (s.eligible hall)

/-- The module takes a lead role: its first record in the next frame, after the listening time (R331). -/
def State.takeLead (s : State) (hall : Bool) : State :=
  let f := max (s.frame + 1) s.fab.listen
  if hall then
    let s := (s.followHall s.shelfId (s.get FAB_EPOCH_HALL + 1)).set FAB_STATUS_HALL_LEAD 1
    let paths := s.fab.paths.map fun (t : PathSt) => { t with measure := false }
    let (h, ts) := match s.fab.sync with
      | some y => ((y.h : Rat), y.targets)
      | none => (s.fab.h, s.fab.targets)
    { s with fab := { s.fab with
        starts := s.fab.starts.set 0 (some f), a := none, h := h, targets := ts, computed := none, reqs := [], paths := paths, steer := 0 } }
  else
    let s := (s.followTeam s.shelfId (s.get FAB_EPOCH_TEAM + 1)).set FAB_STATUS_TEAM_LEAD 1
    { s with fab := { s.fab with
        starts := s.fab.starts.set 1 (some f), office := s.frame, closed := none, absorbLeft := 0, lastFlex := 0, lastFixed := 0 } }

/-- A lead has failed: no record of it for 3 frames (R330), or, where none was ever heard, since the firmware's start (R331). A late
TEAM_SUMMARY counts as a record (R311). -/
def State.leadFailed (s : State) (hall : Bool) : Bool :=
  let last := if hall then s.fab.sync.map (·.frame) else (s.fab.summs.find? (·.team == s.team)).map (·.heard)
  match last with
  | some f => decide (f + 3 ≤ s.frame)
  | none => decide (s.fab.listen ≤ s.frame)

/-- LEAD_FAILURE: no record of a lead for 3 frames; the successor, if it is this module, takes over (R330, R331). -/
def execLeadFailure (hall : Bool) (s : State) : Res := s.on fun s =>
  if s.isSet (if hall then FAB_STATUS_HALL_LEAD else FAB_STATUS_TEAM_LEAD) ∨ !s.boot.fwRuns ∨ !s.leadFailed hall then .next s
  else if s.successor hall (s.get (if hall then FAB_LEADS_HALL else FAB_LEADS_TEAM)) = some s.shelfId then
    .next (s.takeLead hall).showTime
  else .next s

/-- The module yields its lead roles (R332). -/
def State.yieldLead (s : State) : State := (s.dropLeads.clear FAB_CTRL_LEAD_EN).clear FAB_CTRL_YIELD |>.showTime

/-- YIELD (R332, R340). -/
def execYield (s : State) : Res := s.on fun s => .next s.yieldLead

/-! ### SYNC (R318) -/

/-- The body of a SYNC copy with its transmit stamp. -/
def State.syncBody (s : State) (tx : Nat) : List Byte :=
  let hold := s.fab.computed != some (s.frame - 1)
  stampBytes tx ++ leBytes 1 (hold.toNat + s.fab.hallShort) ++ leBytes 2 (s.get FAB_EPOCH_HALL) ++ leBytesI 4 (roundRat s.fab.h)
    ++ leBytesI 4 s.fab.hallLoad ++ leBytesI 4 s.fab.hallGrid ++ leBytes 4 s.fab.hallLive ++ leBytes 4 s.succDigest.toNat
    ++ ((List.range 32).map fun t => leBytesI 4 (s.fab.targets.getD t 0)).flatten ++ zeros 16

/-- What the module keeps of its own SYNC. -/
def State.ownSync (s : State) : SyncRec :=
  { frame := s.frame, src := s.shelfId, epoch := s.get FAB_EPOCH_HALL,
    short := s.fab.hallShort != 0, h := roundRat s.fab.h, targets := s.fab.targets, live := s.fab.hallLive, digest := s.succDigest.toNat }

/-- SYNC_SEND: at tick 0, on each path with its own stamp (R314, R318). -/
def execSyncSend (tx0 tx1 : Nat) (s : State) : Res := s.on fun s =>
  if !s.leads true then .next s
  else
    let own := s.ownSync
    let b0 := s.syncBody tx0
    let b1 := s.syncBody tx1
    let s := if s.canSend 0 || s.canSend 1 then (s.nextSeq.sendOn 0 1 s.hallGroup b0).sendOn 1 1 s.hallGroup b1 else s
    .next (if s.isSet FAB_STATUS_HALL_LEAD then ({ s with fab := { s.fab with sync := some own, digest := some own.digest } }).showShort else s)

/-- Another digest in a SYNC (R331). -/
def State.checkDigest (s : State) (d : Word) : State :=
  if d = s.succDigest ∨ s.isSet FAB_STATUS_SUCC_MISMATCH then s
  else (s.raiseBit FAB_STATUS_SUCC_MISMATCH 241).raise 0x0704 0 0 0

/-- What the module keeps of a received SYNC. -/
def State.syncRec (s : State) (i : SyncIn) : SyncRec :=
  { frame := s.frame, src := i.hdr.src.val, epoch := i.epoch.val, short := 2 ≤ i.flags.val,
    h := i.h, targets := i.targets, live := i.live.toNat, digest := i.digest.toNat }

/-- A lead loses its role to a winning record; it acts to the end of the frame (R332). -/
def State.loseLead (s : State) (hall : Bool) : State :=
  let f := if hall then FAB_STATUS_HALL_LEAD else FAB_STATUS_TEAM_LEAD
  if s.isSet f then
    { s with fab := { s.fab with ends := s.fab.ends.set (if hall then 0 else 1) (some s.frame) } }.clear f
  else { s with fab := { s.fab with starts := s.fab.starts.set (if hall then 0 else 1) none } }

/-- Take an accepted SYNC: follow it if it wins, comes from the followed lead, or that one has failed; a losing own lead ends (R330,
R332). -/
def State.syncTake (s : State) (i : SyncIn) : State :=
  let s := s.checkDigest i.digest
  let lead := s.get FAB_LEADS_HALL
  let s := { s with fab := { s.fab with digest := some i.digest.toNat } }
  if lead = 0x1FF ∨ lead = i.hdr.src.val ∨ s.leadFailed true
      ∨ wins s.hallList i.epoch.val i.hdr.src.val (s.get FAB_EPOCH_HALL) lead then
    let s := { s with fab := { s.fab with sync := some (s.syncRec i) } }.loseLead true
    ((s.followHall i.hdr.src.val i.epoch.val).wrI FAB_HALL_TARGET i.h).showShort
  else s

/-- SYNC_RECEIVED (R310, R311, R314, R331, R332): every copy of the hall gives an offset sample. -/
def execSyncReceived (i : SyncIn) (s : State) : Res := s.on fun s =>
  let p := i.hdr.path.val
  let mine := s.pathOn p && i.hdr.hall.val == s.hallId && i.hdr.src.val != s.shelfId
  let s := if mine then ((s.offsetSample p i.hdr.stamp i.txTime).pathHeard p true).set (FAB_PATH_MISS p) 0 else s
  let (f, s) := s.judge i.hdr
  .next ((if f = .taken then s.syncTake i else s).showTime)

/-! ### SHARE (R319, R320) -/

/-- LOAD and GRID of the previous frame, 10 W. -/
def State.frameLoad (s : State) : Rat × Rat :=
  let b := s.fab
  if b.accFrame = s.frame ∨ b.accN = 0 then (b.prevLoad / 10, b.prevGrid / 10) else (b.accLoad / b.accN / 10, b.accGrid / b.accN / 10)

/-- P_dis and P_chg as a SHARE reports them. -/
def State.shareDis (s : State) : Int := if s.inService then 10 * s.pDis else 0
def State.shareChg (s : State) : Int := if s.inService then 10 * s.pChg else 0

/-- HR_DELTA: G_hr less the fabric target, while HR_REQ. -/
def State.hrDelta (s : State) : Int :=
  if s.isSet FCST_STATUS_HR_REQ then 10 * s.getI FCST_HR_TARGET_G_HR - s.rdI FAB_TARGET else 0

/-- The FLAGS of the own SHARE. -/
def State.shareFlags (s : State) : Nat :=
  s.get FAB_STATUS_TIME_HELD + 2 * s.get FCST_STATUS_HR_REQ + 4 * (!s.fab.alarms.isEmpty).toNat + 8 * s.get FAB_CTRL_LEAD_EN
    + 16 * s.get FAB_STATUS_ABSORBING

/-- The alarm slot: the oldest entry, or zeros. -/
def alarmBytes : List Alarm → List Byte
  | [] => zeros 32
  | a :: _ => leBytes 2 a.code ++ leBytes 1 a.cls ++ leBytes 1 a.reps ++ leBytes 4 a.seq ++ leBytes 8 a.time ++ padTo 12 a.detail ++ zeros 4

/-- The share record with the alarm record. -/
def State.shareBody (s : State) : List Byte :=
  leBytes 1 s.shelf ++ leBytes 1 s.shareFlags ++ zeros 2 ++ leBytesI 4 (roundRat s.frameLoad.1) ++ leBytesI 4 (roundRat s.frameLoad.2)
    ++ leBytesI 4 s.shareDis ++ leBytesI 4 s.shareChg ++ leBytesI 4 s.hrDelta ++ leBytes 4 (s.rdN FAB_TARGET)
    ++ leBytes 2 (s.get EST_SOC_SHELF_SOC) ++ leBytes 2 (roundRat (300 * s.ratingFrac)).toNat ++ leBytes 2 (s.get FAB_EPOCH_TEAM)
    ++ leBytes 2 (s.get FAB_EPOCH_HALL) ++ leBytes 4 s.succDigest.toNat ++ zeros 24 ++ alarmBytes s.fab.alarms

/-- What the module keeps of its own SHARE. -/
def State.ownShare (s : State) : ShareRec :=
  { frame := s.frame, member := s.member, state := s.shelf, flags := s.shareFlags, load := roundRat s.frameLoad.1, grid := roundRat s.frameLoad.2,
    hDis := s.shareDis, hChg := s.shareChg, hrDelta := s.hrDelta, target := s.rdI FAB_TARGET, soc := s.get EST_SOC_SHELF_SOC,
    digest := s.succDigest.toNat, heard := s.frame }

/-- Keep a member's newest SHARE. -/
def State.keepShare (s : State) (r : ShareRec) : State :=
  { s with fab := { s.fab with shares := r :: s.fab.shares.filter (·.member != r.member) } }

/-- SHARE_SEND: the share and the oldest alarm, to the team group (R319, R320); an alarm that cannot be sent stays queued. -/
def execShareSend (s : State) : Res := s.on fun s =>
  if !(s.canSend 0 || s.canSend 1) then .next s
  else
  let own := s.ownShare
  let s := s.sendControl 2 (s.teamGroup s.team) s.shareBody
  let s := ({ s with fab := { s.fab with alarms := s.fab.alarms.drop 1 } }).keepShare own
  .next (s.set FAB_ALARM_Q_QUEUED s.fab.alarms.length)

/-- A received alarm goes to the Saddlebag and the host rings (R320, R440). -/
def State.remoteAlarm (s : State) (src : Nat) (a : AlarmIn) : State :=
  s.record kRemoteAlarm 1 4 0 0 0 false (leBytes 2 src ++ leBytes 2 a.code.val ++ leBytes 1 a.cls.val ++ leBytes 1 a.reps.val
    ++ leBytes 4 a.seq.toNat ++ leBytes 8 a.time.toNat ++ padTo 12 a.detail)

/-- What the module keeps of a received SHARE. -/
def State.shareRec (s : State) (i : ShareIn) : ShareRec :=
  { frame := s.frame, member := i.hdr.src.val % 16, state := i.state.val, flags := i.flags.val, load := i.load, grid := i.grid,
    hDis := i.hDis, hChg := i.hChg, hrDelta := i.hrDelta, target := i.target, soc := i.soc.val, digest := i.digest.toNat, heard := s.frame }

/-- A late SHARE counts towards liveness only (R311). -/
def State.shareLate (s : State) (k : Nat) : State :=
  { s with fab := { s.fab with shares := s.fab.shares.map fun (r : ShareRec) => if r.member = k then { r with heard := s.frame } else r } }

/-- SHARE_RECEIVED (R311, R320, R325): from a member of the own team. -/
def execShareReceived (i : ShareIn) (s : State) : Res := s.on fun s =>
  let (f, s) := s.judge i.hdr
  let s := if f = .dropped then s else s.pathHeard i.hdr.path.val false
  if i.hdr.src.val / 16 ≠ s.team ∨ f = .dropped then .next s
  else if f = .late then .next (s.shareLate (i.hdr.src.val % 16))
  else
    let s := s.keepShare (s.shareRec i)
    .next (if bitOf i.flags.val 2 then s.remoteAlarm i.hdr.src.val i.alarm else s)

/-! ### The team's targets (R325, R326) -/

/-- How the team lead takes a member: not counted, flexible, or fixed at a grid draw F (R325). -/
inductive MemberClass
  | absent
  | flexible (r : ShareRec)
  | fixed (f : Int) (r : ShareRec)
  deriving DecidableEq, Repr

/-- The class of member k. -/
def State.classify (s : State) (k : Nat) : MemberClass :=
  match s.fab.shares.find? (·.member == k) with
  | none => .absent
  | some r =>
    if r.heard < s.fab.office then .absent
    else if r.frame ≠ s.frame then .fixed r.load r
    else if bitOf r.flags 1 then .fixed (r.target + r.hrDelta) r
    else if r.state = stArmed ∨ r.state = stDerated then (if bitOf r.flags 0 then .flexible r else .fixed r.grid r)
    else .fixed r.load r

/-- The parts of a class. -/
def MemberClass.load : MemberClass → Int
  | .absent => 0
  | .flexible r => r.load
  | .fixed f _ => f
def MemberClass.room (up : Bool) : MemberClass → Int
  | .flexible r => if up then r.hDis else r.hChg
  | _ => 0
def MemberClass.isFlex : MemberClass → Bool
  | .flexible _ => true
  | _ => false
def MemberClass.isFixed : MemberClass → Bool
  | .fixed _ _ => true
  | _ => false
def MemberClass.rec_ : MemberClass → Option ShareRec
  | .absent => none
  | .flexible r => some r
  | .fixed _ r => some r

/-- The share of a deficit that a headroom takes: in proportion, or all of it when the whole does not reach (R324, R326). -/
def splitShare (d : Int) (h sum : Int) : Rat :=
  if d = 0 then 0 else if (d.natAbs : Int) ≤ sum then (d : Rat) * h / sum else (if 0 < d then h else -h : Int)

/-- A mask of the members for which a test holds. -/
def maskOf (n : Nat) (f : Nat → Bool) : Nat := (List.range n).foldl (fun m k => if f k then m + 2 ^ k else m) 0

/-- A member's entry of the summary. -/
def memberEntry (d sum : Int) (c : MemberClass) : Int × Int × Nat × Nat × Nat :=
  match c with
  | .absent => (0, 0, 0, 0, 0)
  | .flexible r =>
    let sh := splitShare d (c.room (decide (0 < d))) sum
    (roundRat (r.load - sh), roundRat sh, r.state, r.flags, r.soc)
  | .fixed f r => (f, 0, r.state, r.flags, r.soc)

/-- The team target in use: that of the last SYNC followed, if its hall lead gave the team one (R324), else that of the last summary,
else a free value (R326, log 2). -/
def State.teamTarget (s : State) : Int × State :=
  match s.fab.sync.filter fun (y : SyncRec) => bitOf y.live s.team, s.fab.summ with
  | some y, _ => (y.targets.getD s.team 0, s)
  | none, some r => (r.target, s)
  | none, none => (signedOf 32 s.fresh.1, s.fresh.2)

/-- The summary of a collection: FLAGS are SHORT_DIS, SHORT_CHG, HOLD, ABSORB (R321). -/
def State.summarise (s : State) (target : Int) (absorb : Bool) : SummRec :=
  let cs := (List.range 16).map s.classify
  let sum := fun (f : MemberClass → Int) => cs.foldl (fun a c => a + f c) 0
  let d := sum MemberClass.load - target
  let room := sum (MemberClass.room (decide (0 < d)))
  let cls := fun (k : Nat) => cs.getD k .absent
  let short := decide (room < d.natAbs)
  let hold := match s.fab.sync with
    | some y => y.frame != s.frame
    | none => true
  { frame := s.frame, team := s.team, src := s.shelfId, epoch := s.get FAB_EPOCH_TEAM,
    flags := (short && decide (0 < d)).toNat + 2 * (short && decide (d < 0)).toNat + 4 * hold.toNat + 8 * absorb.toNat,
    live := maskOf 16 s.memberLive, flex := maskOf 16 (fun k => (cls k).isFlex), load := sum MemberClass.load,
    hDis := sum (MemberClass.room true), hChg := sum (MemberClass.room false), target := target,
    grid := (List.range 16).foldl (fun a k => if s.memberLive k then a + (((cls k).rec_.map (·.grid)).getD 0) else a) 0,
    alarm := maskOf 16 (fun k => match (cls k).rec_ with
      | some r => r.frame == s.frame && bitOf r.flags 2
      | none => false),
    members := cs.map (memberEntry d room), heard := s.frame }

/-- SHARE_COLLECTION_CLOSE: at tick 480 the team lead classifies and computes; ABSORB for 3 summaries (R325, R326). -/
def execShareCollectionClose (s : State) : Res := s.on fun s =>
  if !s.leads false then .next s
  else
    let cls := fun k => s.classify k
    let flex := maskOf 16 fun k => (cls k).isFlex
    let fixd := maskOf 16 fun k => (cls k).isFixed
    let change := (List.range 16).any fun k =>
      (bitOf s.fab.lastFlex k && !bitOf flex k) || (bitOf fixd k && !bitOf s.fab.lastFixed k)
    let left := if change then 3 else s.fab.absorbLeft
    let (t, s) := s.teamTarget
    let r := s.summarise t (decide (0 < left))
    .next { s with fab := { s.fab with closed := some r, absorbLeft := left - 1, lastFlex := flex, lastFixed := fixd } }

/-! ### TEAM_SUMMARY (R321, R332) -/

/-- The body of a TEAM_SUMMARY. -/
def summBody (r : SummRec) : List Byte :=
  leBytes 1 r.team ++ leBytes 1 r.flags ++ leBytes 2 r.epoch ++ leBytes 2 r.live ++ leBytes 2 r.flex ++ leBytesI 4 r.load ++ leBytesI 4 r.hDis
    ++ leBytesI 4 r.hChg ++ leBytesI 4 r.target ++ leBytesI 4 r.grid ++ leBytes 2 r.alarm ++ zeros 2
    ++ ((List.range 16).map fun k =>
        let m := r.members.getD k (0, 0, 0, 0, 0)
        leBytesI 4 m.1 ++ leBytesI 4 m.2.1 ++ leBytes 1 m.2.2.1 ++ leBytes 1 m.2.2.2.1 ++ leBytes 2 m.2.2.2.2 ++ zeros 2).flatten

/-- Keep a team's newest summary; the own team's is the one that is followed. -/
def State.keepSumm (s : State) (r : SummRec) : State :=
  let s := { s with fab := { s.fab with summs := r :: s.fab.summs.filter (·.team != r.team) } }
  if r.team = s.team then
    (({ s with fab := { s.fab with summ := some r } }).set FAB_TEAM_FLEX r.flex).set FAB_TEAM_LIVE r.live |>.showShort
  else s

/-- TEAM_SUMMARY_SEND: at tick 500, to the hall group (R321, R326). -/
def execTeamSummarySend (s : State) : Res := s.on fun s =>
  match s.fab.closed with
  | none => .next s
  | some r =>
    if !s.leads false ∨ r.frame ≠ s.frame then .next s
    else
      let s := if s.canSend 0 || s.canSend 1 then s.sendControl 3 s.hallGroup (summBody r) else s
      let s := { s with fab := { s.fab with closed := none } }
      .next (if s.isSet FAB_STATUS_TEAM_LEAD then s.keepSumm r else s)

/-- What the module keeps of a received summary. -/
def State.summRec (s : State) (i : SummIn) : SummRec :=
  { frame := s.frame, team := i.team.val, src := i.hdr.src.val, epoch := i.epoch.val, flags := i.flags.val, live := i.live.val, flex := i.flex.val,
    load := i.load, hDis := i.hDis, hChg := i.hChg, target := i.target, grid := i.grid, alarm := i.alarm.val, members := i.members, heard := s.frame }

/-- A late summary counts towards its sender's liveness only (R311). -/
def State.summLate (s : State) (team src : Nat) : State :=
  { s with fab := { s.fab with summs := s.fab.summs.map fun (r : SummRec) =>
      if r.team = team ∧ r.src = src then { r with heard := s.frame } else r } }

/-- Whether a summary of another team is the one to keep (R332). -/
def State.summWins (s : State) (i : SummIn) : Bool :=
  match s.fab.summs.find? (·.team == i.team.val) with
  | none => true
  | some r =>
    r.src == i.hdr.src.val || decide (r.heard + 3 ≤ s.frame) || wins (s.teamList i.team.val) i.epoch.val i.hdr.src.val r.epoch r.src

/-- Take an accepted summary (R332): of the own team the winner is followed, and a losing own lead ends. -/
def State.summTake (s : State) (i : SummIn) : State :=
  if i.team.val ≠ s.team then (if s.summWins i then s.keepSumm (s.summRec i) else s)
  else
    let lead := s.get FAB_LEADS_TEAM
    if lead = 0x1FF ∨ lead = i.hdr.src.val ∨ s.leadFailed false
        ∨ wins (s.teamList s.team) i.epoch.val i.hdr.src.val (s.get FAB_EPOCH_TEAM) lead then
      let s := s.loseLead false
      (s.followTeam i.hdr.src.val i.epoch.val).keepSumm (s.summRec i)
    else s

/-- TEAM_SUMMARY_RECEIVED (R310, R311, R332). -/
def execTeamSummaryReceived (i : SummIn) (s : State) : Res := s.on fun s =>
  let (f, s) := s.judge i.hdr
  let s := if f = .dropped then s else s.pathHeard i.hdr.path.val false
  .next (if f = .taken then s.summTake i else if f = .late then s.summLate i.team.val i.hdr.src.val else s)

/-! ### The target selection (R307, R327, R328) -/

/-- The stand-alone target and the average that makes it (R307). -/
def State.standalone (s : State) : Int × State :=
  if s.profileAt 0x000A 0 1 1 = 0 then
    (leAtI ((s.profileRec 0x000A).getD []) 4 4, s)
  else
    let tau := s.profileAt 0x000A 8 2 100
    match s.fab.saAvg with
    | some a =>
      let a := a + quot (s.frameLoad.1 - a) (5000 * tau : Nat)
      (roundRat a, { s with fab := { s.fab with saAvg := some a } })
    | none =>
      let (a, s) : Rat × State := match s.casOf 4 with
        | some c => ((s.rdI (REIN_CAS_SP_EFF c) : Rat) * 40000 / 2 ^ 31, s)
        | none => ((signedOf 32 s.fresh.1 : Rat), s.fresh.2)
      (roundRat a, { s with fab := { s.fab with saAvg := some a } })

/-- The own target of a summary that is new enough. -/
def State.fabricTarget (s : State) : Option (Int × Bool × Bool) :=
  match s.fab.summ with
  | some r =>
    if s.isSet FAB_STATUS_TIME_HELD && !s.isSet FAB_STATUS_ID_CONFLICT && decide (s.frame < r.frame + s.get FAB_ABS_CFG_TGT_HOLD) then
      (r.members[s.member]?).map fun (m : Int × Int × Nat × Nat × Nat) => (m.1, r.frame == s.frame, bitOf r.flags 3)
    else none
  | none => none

/-- MISS of a path, once per frame (R340). -/
def State.countMiss (s : State) (p : Nat) : State :=
  if (s.pth p).heard = some s.frame then s.set (FAB_PATH_MISS p) 0 else s.bumpSat (FAB_PATH_MISS p) 1

/-- TARGET_SELECT: at tick 1,000 (R327, R328). -/
def execTargetSelect (s : State) : Res := s.on fun s =>
  let s := ((s.countMiss 0).countMiss 1).showTime
  if !s.armedStates then .next (({ s with fab := { s.fab with saAvg := none } }.set FAB_STATUS_TGT_SRC 0).clear FAB_STATUS_ABSORBING)
  else
    match s.fabricTarget with
    | some (t, now, absorb) =>
      let s := ({ s with fab := { s.fab with saAvg := none } }.wrI FAB_TARGET t).set FAB_STATUS_TGT_SRC (if now then 1 else 2)
      .next (if absorb then s.set FAB_STATUS_ABSORBING 1 else s)
    | none =>
      let (t, s) := s.standalone
      .next ((s.wrI FAB_TARGET t).set FAB_STATUS_TGT_SRC 3)

/-! ### The hall target (R323, R324) -/

/-- The summaries that stand for live teams: at most 3 frames old. -/
def State.liveSumms (s : State) : List SummRec := s.fab.summs.filter fun r => decide (s.frame ≤ r.frame + 3)

/-- Where H starts on a new hall lead: the last H received; with none, a free value (R323, log 2). -/
def State.hallStart (s : State) : Rat × State :=
  if s.fab.computed.isSome then (s.fab.h, s)
  else
    match s.fab.sync with
    | some y => ((y.h : Rat), s)
    | none => ((signedOf 32 s.fresh.1 : Rat), s.fresh.2)

/-- The team targets (R324). -/
def hallTargets (l : List SummRec) (h : Rat) : List Int :=
  let sl : Int := l.foldl (fun a r => a + r.load) 0
  let d : Rat := sl - h
  let room := fun (r : SummRec) => if 0 < d then r.hDis else r.hChg
  let sum : Int := l.foldl (fun a r => a + room r) 0
  (List.range 32).map fun t =>
    match l.find? (·.team == t) with
    | none => 0
    | some r =>
      if d = 0 then r.load
      else if |d| ≤ sum then roundRat (r.load - d * room r / sum)
      else r.load - (if 0 < d then room r else -(room r))

/-- SHORT_DIS and SHORT_CHG of a hall split, as SYNC carries them. -/
def hallShortOf (l : List SummRec) (h : Rat) : Nat :=
  let d : Rat := (l.foldl (fun a r => a + r.load) 0 : Int) - h
  let sum : Int := l.foldl (fun a r => a + (if 0 < d then r.hDis else r.hChg)) 0
  if |d| ≤ sum then 0 else if 0 < d then 2 else 4

/-- HALL_TARGET_COMPUTE: at tick 1,100, A, H and the split (R323, R324). -/
def execHallTargetCompute (s : State) : Res := s.on fun s =>
  if !s.isSet FAB_STATUS_HALL_LEAD then .next s
  else
    let l := s.liveSumms
    let sl : Int := l.foldl (fun a r => a + r.load) 0
    let a := match s.fab.a with
      | none => (sl : Rat)
      | some a => a + quot (sl - a) (5000 * s.hallTau : Nat)
    let (h0, s) := s.hallStart
    let r : Rat := (s.hallRamp : Rat) / 500
    let h := max (s.hallMin : Rat) (min (s.hallMax : Rat) (if h0 < a then min a (h0 + r) else max a (h0 - r)))
    let s := { s with fab := { s.fab with
      a := some a, h := h, targets := hallTargets l h, hallShort := hallShortOf l h, hallLoad := sl,
      hallGrid := l.foldl (fun a (r : SummRec) => a + r.grid) 0, hallLive := maskOf 32 (fun t => l.any (·.team == t)), computed := some s.frame } }
    .next (s.wrI FAB_HALL_TARGET (roundRat h))

end Sys2Proof.Machine
end

