-- ==== Sys2Proof/Machine/LksMath.lean ====
section
/-! DEFINITION. Larkspur's arithmetic: the number formats (R353, R354), rounding and saturation (R356 to
R358), block scales (R355), fused multiply-add (R352) and the accumulation of a tile (R351). Exact rational
arithmetic, rounded once. -/

namespace Sys2Proof.Machine

/-! ### Formats -/

/-- Exponent bits, mantissa bits and bias of a floating format (R353). -/
def fmtShape : LFmt → Option (Nat × Nat × Int)
  | .fp32 => some (8, 23, 127)
  | .bf16 => some (8, 7, 127)
  | .fp16 => some (5, 10, 15)
  | .e4m3 => some (4, 3, 7)
  | .e5m2 => some (5, 2, 15)
  | .e3m2 => some (3, 2, 3)
  | .e2m3 => some (2, 3, 1)
  | .e2m1 => some (2, 1, 1)
  | _ => none

/-- Formats with infinities and several NaN patterns (R353). -/
def fmtIeee : LFmt → Bool
  | .fp32 | .bf16 | .fp16 | .e5m2 => true
  | _ => false

/-- Bits of an integer format, and the exponent of the unit its value counts. -/
def fmtInt : LFmt → Option (Nat × Nat)
  | .int8 => some (8, 0)
  | .int4 => some (4, 0)
  | .q131 => some (32, 31)
  | _ => none

/-- The code of the largest finite magnitude (R353). -/
def fmtMax (f : LFmt) : Nat :=
  match fmtShape f with
  | some (e, m, _) => if fmtIeee f then (2 ^ e - 1) * 2 ^ m - 1 else if f = .e4m3 then 126 else 2 ^ (e + m) - 1
  | none => 0

/-- The NaN that the module writes (R353). -/
def fmtNan (f : LFmt) : Nat :=
  match f with
  | .fp32 => 0x7FC00000
  | .bf16 => 0x7FC0
  | .fp16 => 0x7E00
  | .e4m3 => 0x7F
  | .e5m2 => 0x7E
  | _ => 0

/-- The exponent of a format's largest finite value, e_max of R355. -/
def fmtEmax : LFmt → Int
  | .e4m3 => 8
  | .e5m2 => 15
  | .e3m2 => 4
  | .int8 => 6
  | _ => 2

/-- A value: a NaN, an infinity or a signed magnitude (so that −0 is kept). -/
inductive LVal
  | nan
  | inf (neg : Bool)
  | fin (neg : Bool) (mag : Rat)
  deriving DecidableEq, Repr

/-- A power of two with an integer exponent. -/
def pow2 (e : Int) : Rat := if 0 ≤ e then ((2 ^ e.toNat : Nat) : Rat) else 1 / ((2 ^ (-e).toNat : Nat) : Rat)

/-- The value that a code stands for (R353, R354). -/
def decodeVal (f : LFmt) (code : Nat) : LVal :=
  match fmtShape f with
  | some (eb, mb, bias) =>
    let neg := code.testBit (eb + mb)
    let e := code / 2 ^ mb % 2 ^ eb
    let m := code % 2 ^ mb
    if fmtIeee f ∧ e = 2 ^ eb - 1 then (if m = 0 then .inf neg else .nan)
    else if f = .e4m3 ∧ e = 15 ∧ m = 7 then .nan
    else if e = 0 then .fin neg (pow2 (1 - bias - mb) * m)
    else .fin neg (pow2 (e - bias - mb) * (2 ^ mb + m : Nat))
  | none =>
    match fmtInt f with
    | some (w, q) =>
      let v := signedOf w code
      .fin (decide (v < 0)) ((v.natAbs : Rat) * pow2 (-(q : Int)))
    | none => .nan

/-- A value as an exact signed number. -/
def LVal.rat : LVal → Rat
  | .fin neg q => if neg then -q else q
  | _ => 0

/-- An exact number as a value; an exact zero is +0. -/
def ratVal (q : Rat) : LVal := .fin (decide (q < 0)) (abs q)

/-! ### Rounding (R356 to R358) -/

/-- The floor of the base-2 logarithm of a positive number. -/
def floorLog2 (q : Rat) : Int :=
  let k : Int := (Nat.log2 q.num.natAbs : Int) - Nat.log2 q.den
  if pow2 k ≤ q then k else k - 1

/-- Round a magnitude to an integer by a mode; r is the 16-bit draw of stochastic rounding. -/
def roundMag (mode : RMode) (r : Nat) (x : Rat) : Nat :=
  let f := x.floor.toNat
  let d := x - f
  match mode with
  | .rz => f
  | .rna => if 1 / 2 ≤ d then f + 1 else f
  | .rne => if 1 / 2 < d ∨ (d = 1 / 2 ∧ f % 2 = 1) then f + 1 else f
  | .sr => (x + (r : Rat) / 65536).floor.toNat

/-- Sticky flags of one result (R359). -/
structure LFlags where
  nv : Bool := false
  ovf : Bool := false
  uf : Bool := false
  deriving DecidableEq, Repr

/-- Flags join. -/
def LFlags.or (a b : LFlags) : LFlags := ⟨a.nv || b.nv, a.ovf || b.ovf, a.uf || b.uf⟩

/-- The sign bit of a code. -/
def signBit (f : LFmt) (neg : Bool) : Nat :=
  match fmtShape f with
  | some (e, m, _) => if neg then 2 ^ (e + m) else 0
  | none => 0

/-- What a magnitude beyond the largest finite value becomes (R357). -/
def overflowCode (f : LFmt) (sat neg : Bool) : Nat :=
  if fmtIeee f then (if sat then fmtMax f else fmtMax f + 1) + signBit f neg
  else if f = .e4m3 then (if sat then fmtMax f + signBit f neg else fmtNan f)
  else fmtMax f + signBit f neg

/-- A finite value in a floating format: its code, rounded once, with its flags. -/
def encodeFin (f : LFmt) (eb mb : Nat) (bias : Int) (mode : RMode) (sat : Bool) (r : Nat) (neg : Bool) (q : Rat) : Nat × LFlags :=
  if q = 0 then (signBit f neg, {})
  else
    let t := max (floorLog2 q) (1 - bias) - mb
    let n := roundMag mode r (q / pow2 t)
    let code := (t + mb + bias - 1).toNat * 2 ^ mb + n
    if fmtMax f < code ∨ 2 ^ (eb + mb) ≤ code then (overflowCode f sat neg, { ovf := true })
    else (signBit f neg + code, { uf := n == 0 })

/-- An integer held to the two's complement range of w bits, as its code. -/
def intCode (w : Nat) (v : Int) : Nat × LFlags :=
  let c := clampI (-(2 ^ (w - 1))) (2 ^ (w - 1) - 1) v
  ((c % 2 ^ w).toNat, { ovf := c != v })

/-- Convert a value to a format (R357): code and flags. -/
def encodeVal (f : LFmt) (mode : RMode) (sat : Bool) (r : Nat) (v : LVal) : Nat × LFlags :=
  match fmtShape f with
  | some (eb, mb, bias) =>
    match v with
    | .nan => if fmtIeee f || f == .e4m3 then (fmtNan f, {}) else (0, { nv := true })
    | .inf neg => if fmtIeee f then (fmtMax f + 1 + signBit f neg, {}) else (overflowCode f sat neg, { ovf := true })
    | .fin neg q => encodeFin f eb mb bias mode sat r neg q
  | none =>
    match fmtInt f with
    | none => (0, {})
    | some (w, q) =>
      match v with
      | .nan => (0, { nv := true })
      | .inf neg => (if neg then 2 ^ (w - 1) else 2 ^ (w - 1) - 1, { ovf := true })
      | .fin neg x =>
        let n : Int := roundMag mode r (x * pow2 q)
        let (c, fl) := intCode w (if neg then -n else n)
        (c, { fl with uf := n == 0 && x != 0 })

/-- A NaN source keeps its sign in FP8 E4M3 (R357). -/
def nanSign (from_ to_ : LFmt) (code out : Nat) : Nat :=
  if to_ = .e4m3 ∧ decodeVal from_ code = .nan then
    (match fmtShape from_ with
     | some (eb, mb, _) => if code.testBit (eb + mb) then 0xFF else 0x7F
     | none => out)
  else out

/-! ### Block scales (R355) -/

/-- A value times an E8M0 scale; 0xFF is a NaN. -/
def scaleVal (s : Nat) (v : LVal) : LVal :=
  if s = 255 then .nan
  else match v with
    | .fin neg q => .fin neg (q * pow2 ((s : Int) - 127))
    | x => x

/-- Formats that may carry block scales. -/
def fmtScaled : LFmt → Bool
  | .e4m3 | .e5m2 | .e3m2 | .e2m3 | .e2m1 | .int8 | .int4 => true
  | _ => false

/-- The scale of a block: none where the block has no largest finite nonzero magnitude, for which R355 states none. -/
def blockScale (f : LFmt) (l : List LVal) : Option Nat :=
  if l.any fun v => match v with | .fin _ _ => false | _ => true then none
  else
    let m := l.foldl (fun m v => max m (abs v.rat)) 0
    if m = 0 then none else some (clampI 0 254 (floorLog2 m - fmtEmax f + 127)).toNat

/-! ### Fused multiply-add (R352) -/

/-- The exact product of two values. -/
def mulVal (a b : LVal) : LVal × Bool :=
  match a, b with
  | .nan, _ => (.nan, false)
  | _, .nan => (.nan, false)
  | .inf x, .inf y => (.inf (x != y), false)
  | .inf x, .fin y q => if q = 0 then (.nan, true) else (.inf (x != y), false)
  | .fin x q, .inf y => if q = 0 then (.nan, true) else (.inf (x != y), false)
  | .fin x p, .fin y q => (.fin (x != y) (p * q), false)

/-- The exact sum of two values: opposite infinities make a NaN, an exact zero is +0 unless both are −0
(PRESUMED, log 35). -/
def addVal (a b : LVal) : LVal × Bool :=
  match a, b with
  | .nan, _ => (.nan, false)
  | _, .nan => (.nan, false)
  | .inf x, .inf y => if x = y then (.inf x, false) else (.nan, true)
  | .inf x, .fin _ _ => (.inf x, false)
  | .fin _ _, .inf y => (.inf y, false)
  | .fin x p, .fin y q =>
    let r := LVal.rat (.fin x p) + LVal.rat (.fin y q)
    if r = 0 then (.fin (x && y) 0, false) else (ratVal r, false)

/-- a × b + c, rounded once (R352; Q1.31 with Rein's rounding, R183). -/
def fmaCode (f : LFmt) (mode : RMode) (r : Nat) (a b c : Nat) : Nat × LFlags :=
  let (p, nv1) := mulVal (decodeVal f a) (decodeVal f b)
  let (v, nv2) := addVal p (decodeVal f c)
  let (x, fl) := encodeVal f (if f = .q131 then .rna else mode) false r v
  (x, { fl with nv := fl.nv || nv1 || nv2 })

/-! ### The matrix engine (R349 to R351) -/

/-- The pairs of formats that a matrix instruction takes (R350). -/
def pairOk (a b : LFmt) : Bool :=
  a == b || (let small := fun f => fmtScaled f && (fmtInt f).isNone
             let int := fun f => f == .int8 || f == .int4
             (small a && small b) || (int a && int b))

/-- How a tile accumulates: 0 FP32, 1 INT32, 2 the exact Q2.62 sums (R351). -/
def accKind (a : LFmt) (scaled : Bool) : Nat :=
  if a = .q131 then 2 else if (a == .int8 || a == .int4) && !scaled then 1 else 0

/-- The exact sum of products: values, and whether an invalid product or sum arose. -/
def dot : List (LVal × LVal) → LVal × Bool
  | [] => (.fin false 0, false)
  | (a, b) :: t =>
    let (p, n1) := mulVal a b
    let (s, n2) := dot t
    let (r, n3) := addVal p s
    (r, n1 || n2 || n3)

/-- One step of one cell in FP32: products and sum exact, scales exact, one rounding (R351). -/
def cellFp (acc : Int) (l : List (LVal × LVal)) (sa sb : Option Nat) : Int × LFlags :=
  let (s, nv1) := dot l
  let s := match sa with | some x => scaleVal x s | none => s
  let s := match sb with | some x => scaleVal x s | none => s
  let (v, nv2) := addVal s (decodeVal .fp32 acc.toNat)
  let (c, fl) := encodeVal .fp32 .rne false 0 v
  ((c : Int), { fl with nv := fl.nv || nv1 || nv2 })

/-- One step of one cell in INT32, saturating (R351). -/
def cellInt (acc : Int) (l : List (LVal × LVal)) : Int × LFlags :=
  let v := acc + l.foldl (fun (n : Int) x => n + (x.1.rat * x.2.rat).floor) 0
  let c := clampI (-(2 ^ 31)) (2 ^ 31 - 1) v
  (c, { ovf := c != v })

/-- One step of one cell of exact Q2.62 sums (R351). -/
def cellQ (acc : Int) (l : List (LVal × LVal)) : Int × LFlags :=
  (acc + l.foldl (fun (n : Int) x => n + (x.1.rat * x.2.rat * pow2 62).floor) 0, {})

/-- The steps of one cell in ascending K order (R351): the accumulator and its flags. -/
def cellSteps (kind : Nat) (row col : List LVal) (sa sb : Nat → Option Nat) : Nat → Nat → Int → LFlags → Int × LFlags
  | 0, _, acc, fl => (acc, fl)
  | n + 1, j, acc, fl =>
    let l := ((row.drop (32 * j)).take 32).zip ((col.drop (32 * j)).take 32)
    let (a, f) := if kind = 1 then cellInt acc l else if kind = 2 then cellQ acc l else cellFp acc l (sa j) (sb j)
    cellSteps kind row col sa sb n (j + 1) a (fl.or f)

/-- Bits of an element in memory (R353, R354). -/
def fmtBits : LFmt → Nat
  | .fp32 | .q131 => 32
  | .bf16 | .fp16 => 16
  | .e4m3 | .e5m2 | .int8 => 8
  | .e3m2 | .e2m3 => 6
  | .e2m1 | .int4 => 4

/-- Bytes that n elements take in memory. -/
def fmtBytes (f : LFmt) (n : Nat) : Nat := (n * fmtBits f + 7) / 8

/-- n elements out of memory: little-endian, elements narrower than a byte packed from bit 0 on (R354). -/
def unpack (f : LFmt) (n : Nat) (l : List Byte) : List Nat :=
  (List.range n).map fun i => leNat l / 2 ^ (fmtBits f * i) % 2 ^ fmtBits f

/-- The operands of a tile: A row by row, B row by row, and the block scales, A's by row, B's by column (R349, R355). -/
structure TileData where
  k : Nat
  fa : LFmt
  fb : LFmt
  a : List Nat
  b : List Nat
  sa : Option (List Nat)
  sb : Option (List Nat)
  deriving DecidableEq, Repr

/-- A tile: every cell's accumulator after its steps, row by row, and the joined flags. -/
def tile (i : TileData) (kind : Nat) (acc : List Int) : List Int × LFlags :=
  let steps := i.k / 32
  let rows := (List.range 32).map fun r => ((i.a.drop (i.k * r)).take i.k).map (decodeVal i.fa)
  let cols := (List.range 32).map fun c => (List.range i.k).map fun k => decodeVal i.fb (i.b.getD (32 * k + c) 0)
  let sc := fun (l : Option (List Nat)) (r j : Nat) => l.bind fun x => x[r * steps + j]?
  let cells := ((List.range 32).map fun r => (List.range 32).map fun c =>
    cellSteps kind (rows.getD r []) (cols.getD c []) (sc i.sa r) (sc i.sb c) steps 0 (acc.getD (32 * r + c) 0) {}).flatten
  (cells.map (·.1), cells.foldl (fun f x => f.or x.2) {})

/-- What a written-out cell becomes: Q1.31 is rounded once, ties away from zero, and saturated (R351). -/
def cellOut (kind : Nat) (x : Int) : Word × Bool :=
  if kind = 2 then
    (let (c, f) := encodeVal .q131 .rna false 0 (ratVal ((x : Rat) / 2 ^ 62))
     (BitVec.ofNat 32 c, f.ovf))
  else (BitVec.ofInt 32 x, false)

end Sys2Proof.Machine
end

