-- ==== Sys2Proof/Machine/LksTrans.lean ====
section
/-! DEFINITION. The transcendental unit (R352): for an operand in a function's domain any result within the stated error bound, the
same one for the same operand. The exact values are approximated far below the bounds by rational series (DESIGN CHOICE, log 51). -/

namespace Sys2Proof.Machine

/-! ### Reference values -/

/-- ln 2 and 2/√π to 50 places. -/
def ln2Rat : Rat := 69314718055994530941723212145817656807550013436026 / 10 ^ 50
def erfScale : Rat := 112837916709551257389615890312154517168810125865800 / 10 ^ 50

/-- The sum of the first n terms of a series. -/
def series (n : Nat) (f : Nat → Rat) : Rat := (List.range n).foldl (fun a k => a + f k) 0

/-- A square root, to 64 bits below the leading one. -/
def sqrtRat (q : Rat) : Rat :=
  let n : Int := 64 - floorLog2 q / 2
  (Nat.sqrt (q * pow2 (2 * n)).floor.toNat : Rat) * pow2 (-n)

/-- 2^x; beyond ±400 the result has left FP32's range. -/
def exp2Rat (x : Rat) : Rat :=
  let x := max (-400) (min 400 x)
  pow2 x.floor * series 40 fun k => ((x - x.floor) * ln2Rat) ^ k / (Nat.factorial k : Rat)

/-- log2 of a positive number. -/
def log2Rat (x : Rat) : Rat :=
  let k := floorLog2 x
  let m := x / pow2 k
  let z := (m - 1) / (m + 1)
  k + 2 * (series 50 fun j => z ^ (2 * j + 1) / (2 * j + 1 : Nat)) / ln2Rat

/-- sin and cos near 0. -/
def sinSeries (y : Rat) : Rat := series 20 fun j => (-1) ^ j * y ^ (2 * j + 1) / (Nat.factorial (2 * j + 1) : Rat)
def cosSeries (y : Rat) : Rat := series 20 fun j => (-1) ^ j * y ^ (2 * j) / (Nat.factorial (2 * j) : Rat)

/-- sin of x + q quarter turns. -/
def sinRat (x : Rat) (q : Int) : Rat :=
  let n := (2 * x / piRat + 1 / 2).floor
  let y := x - n * piRat / 2
  match (n + q) % 4 with
  | 0 => sinSeries y
  | 1 => cosSeries y
  | 2 => -sinSeries y
  | _ => -cosSeries y

/-- e^x. -/
def expRat (x : Rat) : Rat := exp2Rat (x / ln2Rat)

/-- erf; beyond ±6 it is ±1 far below the bound. -/
def erfRat (x : Rat) : Rat :=
  if 6 ≤ x then 1 else if x ≤ -6 then -1
  else erfScale * series 250 fun n => (-1) ^ n * x ^ (2 * n + 1) / ((Nat.factorial n * (2 * n + 1) : Nat) : Rat)

/-! ### The unit -/

/-- The function code of a transcendental. -/
def transCode : TransFn → Nat
  | .recip => 0 | .rsqrt => 1 | .exp2 => 2 | .log2 => 3 | .sin => 4 | .cos => 5 | .tanh => 6 | .sigmoid => 7 | .erf => 8

/-- The exact result of a function in its domain (R352). -/
def transRef (f : TransFn) (x : Rat) : Option Rat :=
  match f with
  | .recip => if x = 0 then none else some (1 / x)
  | .rsqrt => if x ≤ 0 then none else some (sqrtRat (1 / x))
  | .exp2 => some (exp2Rat x)
  | .log2 => if x ≤ 0 then none else some (log2Rat x)
  | .sin => if 2 ^ 20 < abs x then none else some (sinRat x 0)
  | .cos => if 2 ^ 20 < abs x then none else some (sinRat x 1)
  | .tanh => some (1 - 2 / (expRat (2 * x) + 1))
  | .sigmoid => some (1 / (1 + expRat (-x)))
  | .erf => some (erfRat x)

/-- One unit in the last place of FP32 at a value. -/
def ulp32 (q : Rat) : Rat := if q = 0 then pow2 (-149) else pow2 (max (floorLog2 (abs q)) (-126) - 23)

/-- The bound of R352 at the exact result. -/
def transTol (f : TransFn) (r : Rat) : Rat :=
  match f with
  | .recip | .rsqrt => ulp32 r
  | .exp2 | .log2 => 2 * ulp32 r
  | .sin | .cos => 4 * ulp32 r
  | .tanh | .sigmoid | .erf => max (4 * ulp32 r) (pow2 (-24))

/-- A code within the bound of an exact result. -/
def transNear (f : TransFn) (r : Rat) (c : Word) : Bool :=
  match decodeVal .fp32 c.toNat with
  | .fin neg q => decide (abs (LVal.rat (.fin neg q) - r) ≤ transTol f r)
  | _ => false

/-- The unit's result: a free value, within the bound of R352 where the operand lies in the domain; a free value that is not is
replaced by the exact result, rounded (log 2). -/
def transResult (f : TransFn) (x : Word) : Word :=
  let c := Config.transcendental (transCode f) x
  match decodeVal .fp32 x.toNat with
  | .fin neg q =>
    match transRef f (LVal.rat (.fin neg q)) with
    | some r => if transNear f r c then c else BitVec.ofNat 32 (encodeVal .fp32 .rne false 0 (ratVal r)).1
    | none => c
  | _ => c

end Sys2Proof.Machine
end

