-- ==== Sys2Proof/Machine/LksThread.lean ====
section
/-! DEFINITION. Larkspur threads: their registers and faults (R345 to R348), loads, stores, atomics and
fences, the matrix engine, the vector and transcendental unit, conversions (R349 to R359). Every operation
of a thread is complete at the end of its command (log 36). -/

namespace Sys2Proof.Machine

/-! ### Threads -/

/-- The job that runs on a core: a core runs one job at a time (R388). -/
def State.jobOn (s : State) (d c : Nat) : Option LJob :=
  s.lks.jobs.find? fun j => j.started && j.die == d && j.cmd.mask.testBit c

/-- A thread at its start (R389): its number, its core, ARG, and the generator's seed. -/
def threadInit (j : LJob) (c t : Nat) : LThr :=
  { die := j.die, core := c, thr := t,
    regs := [(0, BitVec.ofNat 32 t), (1, BitVec.ofNat 32 c), (2, BitVec.ofNat 32 j.cmd.arg), (3, BitVec.ofNat 32 (j.cmd.arg / 0x100000000))],
    seed := (j.cmd.seed * 64 + c) * 128 + t }

/-- Whether a record is the thread's. -/
def LThr.is (x : LThr) (a : ThrNo) : Bool := x.die == a.die.val && x.core == a.core.val && x.thr == a.thr.val

/-- STOP_ON_FAULT of a job's command (R383): its first fault stops every thread of the job (R390). -/
def LJob.stopped (j : LJob) : Bool := decide (0 < j.faulted) && j.cmd.flags.testBit 1

/-- A running thread: its core is in RUN, or in DRAINING while its threads finish, its job has it and has not stopped, it has not
faulted (R348, R373, R390); none issues while Larkspur's clocks are not ready (R128, R506). -/
def State.thread (s : State) (a : ThrNo) : Option (LJob × LThr) :=
  match (if s.lksHalted then none else s.jobOn a.die a.core) with
  | none => none
  | some j =>
    let t := (s.lks.threads.find? (·.is a)).getD (threadInit j a.core a.thr)
    if (s.coreSt a.die a.core ≠ cRun ∧ s.coreSt a.die a.core ≠ cDrain) ∨ j.cmd.threads ≤ a.thr.val ∨ t.faulted ∨ j.stopped then none else some (j, t)

/-- Keep a thread. -/
def State.setThread (s : State) (a : ThrNo) (t : LThr) : State :=
  { s with lks := { s.lks with threads := s.lks.threads.filter (fun x => !x.is a) ++ [t] } }

/-- A register of a thread. -/
def LThr.reg (t : LThr) (r : Nat) : Word := sparseRead (fun _ => 0) t.regs r

/-- Write a register; numbers from 256 on do not exist and drop the write. -/
def LThr.put (t : LThr) (r : Nat) (v : Word) : LThr :=
  if r < 256 then { t with regs := sparseWrite (fun _ => 0) t.regs r v } else t

/-- Write consecutive registers. -/
def LThr.puts (t : LThr) (r : Nat) (l : List Word) : LThr :=
  (List.range l.length).foldl (fun t i => t.put (r + i) (l.getD i 0)) t

/-- Join sticky flags (R359). -/
def LThr.flag (t : LThr) (f : LFlags) : LThr := { t with nv := t.nv || f.nv, ovf := t.ovf || f.ovf, uf := t.uf || f.uf }

/-- Change the jobs of a queue that answer a test. -/
def State.mapJobs (s : State) (p : LJob → Bool) (f : LJob → LJob) : State :=
  { s with lks := { s.lks with jobs := s.lks.jobs.map fun j => if p j then f j else j } }

/-- A fault counted in its job; the first one gives CAUSE, CORE, THREAD and FAULT_ADDR (R387). -/
def LJob.fault (j : LJob) (cause c t addr : Nat) : LJob :=
  if j.faulted = 0 then { j with faulted := 1, cause := cause, core := c, thread := t, addr := addr }
  else { j with faulted := j.faulted + 1 }

/-- A thread faults: it stops there, its job counts it (R348, R387). Consumed poison is an uncorrectable
error, and stops the forecast runtime on its cores (R365, R372). -/
def State.threadFault (s : State) (a : ThrNo) (cause addr : Nat) : State :=
  match s.thread a with
  | none => s
  | some (_, t) =>
    let s := s.setThread a { t with faulted := true }
    let s := s.mapJobs (fun j => j.started && j.die == a.die.val && j.cmd.mask.testBit a.core) (·.fault cause a.core a.thr addr)
    if cause = 5 then
      (let s := s.uncorrectable a.die
       if a.die = 0 ∧ a.core.val < 16 then s.forecastStop else s)
    else s

/-! ### Memory operations -/

/-- What a thread's access of n bytes meets (R348): the cause of a fault with its address and, for a refusal
by the fence, the KIND; or the address in the map. -/
inductive Access
  | fault (cause addr : Nat) (kind : Option Nat)
  | ok (addr : Nat) (m : LMem)
  deriving DecidableEq, Repr

/-- Check an access (R347, R348, R370): outside every range, refused by the fence, misaligned, an atomic to
DDR5, poisoned data read, in this order. -/
def State.access (s : State) (a : ThrNo) (j : LJob) (addr n : Nat) (reads atomic : Bool) : Access :=
  let p := canonAddr a.die a.core addr
  match s.memSpan p n with
  | none => .fault 1 addr none
  | some m =>
    match s.refusedAt (.core a.die a.core (j.q < 8)) m p n with
    | some k => .fault 2 addr (some k)
    | none =>
      if addr % n ≠ 0 then .fault 3 addr none
      else if atomic ∧ (m = .ddr 0 ∨ m = .ddr 1) then .fault 4 addr none
      else if reads ∧ s.poisoned p n then .fault 5 addr none
      else .ok p m

/-- Run a thread's access: a fault with its record, or what follows at the address, unless the access has to wait (R467). -/
def State.withAccess (s : State) (a : ThrNo) (addr n : Nat) (reads atomic : Bool)
    (f : Nat → LMem → LThr → State → State) : State :=
  match s.thread a with
  | none => s
  | some (j, t) =>
    match s.access a j addr n reads atomic with
    | .fault cause p kind =>
      let s := match kind with
        | some k => s.fenceHit (.core a.die a.core (j.q < 8)) k (canonAddr a.die a.core addr)
        | none => s
      s.threadFault a cause p
    | .ok p m => if s.moving p n then s else f p m t s

/-- The physical core that carries a logical core (R343). -/
def State.phys (s : State) (d c : Nat) : Nat := s.get (LKS_CORE_PHYS d c)

/-- A corrected error on a core's SRAM: the counts, and Remount's wear of the physical core (R365, R473). -/
def State.sramCorrected (s : State) (d c n : Nat) : State :=
  let p := s.phys d c
  let s := ((s.bumpSat (LKS_ECC_CE_SRAM d) n).bumpSat (LKS_CORE_CE_CNT d c) n).bumpSat (LKS_PCORE_CE_CNT d p) n
  { s with rmt := { s.rmt with cores := modAt s.rmt.cores (68 * d + p) fun (w : CoreWear) =>
      { w with ceAt := (List.replicate n s.opsec ++ w.ceAt).take 65535, total := min (w.total + n) 0xFFFFFFFF } } }

/-- Remount's count of corrected errors in a row, in a repair-map entry of its own (R365, R460, R473). -/
def State.rowCorrected (s : State) (kind unit addr : Nat) : State :=
  let a := Config.rowAddr kind unit addr
  let l := s.rmt.repairs
  match l.findIdx? fun r => r.kind == kind && r.unit == unit && r.addr == a && r.state == 0 with
  | some i => { s with rmt := { s.rmt with repairs := modAt l i fun (r : Repair) => { r with ce := r.ce + 1 } } }
  | none =>
    if l.length < 256 then
      { s with rmt := { s.rmt with repairs := l ++ [{ kind := kind, unit := unit, ce := 1, addr := a, state := 0 }] } }
    else s

/-- Remount's count of corrected errors in an HBM4 channel (R365, R460). -/
def State.chanCorrected (s : State) (stack addr : Nat) : State :=
  { s with rmt := { s.rmt with hbm := modAt s.rmt.hbm (33 * stack + Config.hbmChannel stack addr % 32) fun (w : ChanWear) =>
      { w with ceAt := (s.opsec :: w.ceAt).take 65535, total := min (w.total + 1) 0xFFFFFFFF } } }

/-- A corrected error in a memory at an address: counted, and reported to Remount (R365). -/
def State.memCorrected (s : State) (m : LMem) (addr : Nat) : State :=
  match m with
  | .sram d c => s.sramCorrected d c 1
  | .hbm0 => ((s.bumpSat (LKS_ECC_CE_HBM 0) 1).rowCorrected 3 0 addr).chanCorrected 0 addr
  | .sys => ((s.bumpSat (LKS_ECC_CE_HBM 0) 1).rowCorrected 3 0 addr).chanCorrected 0 addr
  | .hbm1 => ((s.bumpSat (LKS_ECC_CE_HBM 1) 1).rowCorrected 3 1 addr).chanCorrected 1 addr
  | .ddr k => s.rowCorrected 5 k addr

/-- THREAD_LOAD (R345, R346): 2^k words into consecutive registers. An error that the ECC corrects is counted,
one that it cannot poisons its 64 bytes, which this load consumes (R365). -/
def execThreadLoad (a : ThrNo) (rd : Fin 256) (addr : Nat) (k : Fin 8) (ecc : EccIn) (s : State) : Res := s.on fun s =>
  let n := 4 * 2 ^ k.val
  .next (s.withAccess a addr n true false fun p m t s =>
    match ecc with
    | .uncorrectable => (s.poisonAt p).threadFault a 5 addr
    | _ =>
      let s := if ecc = .corrected then s.memCorrected m p else s
      s.setThread a (t.puts rd ((List.range (2 ^ k.val)).map fun i => BitVec.ofNat 32 (s.memNat (p + 4 * i) 4))))

/-- THREAD_STORE (R345 to R347): 2^k words from consecutive registers. -/
def execThreadStore (a : ThrNo) (rs : Fin 256) (addr : Nat) (k : Fin 8) (s : State) : Res := s.on fun s =>
  .next (s.withAccess a addr (4 * 2 ^ k.val) false false fun p _ t s =>
    s.memPut p ((List.range (2 ^ k.val)).map fun i => leBytes 4 (t.reg (rs + i)).toNat).flatten)

/-- What an atomic leaves in memory, from the old value, the operand and the compare value (R347). -/
def atomResult (op : AtomOp) (w : Nat) (signed : Bool) (old v cmp : Nat) : Nat :=
  let less := fun x y => if signed then decide (signedOf w x < signedOf w y) else decide (x < y)
  match op with
  | .add => (old + v) % 2 ^ w
  | .min => if less v old then v else old
  | .max => if less old v then v else old
  | .swap => v
  | .cas => if old = cmp then v else old

/-- ATOMIC (R347): the old value comes back to rd, and to rd + 1 for 64 bits. -/
def execAtomic (a : ThrNo) (op : AtomOp) (wide signed : Bool) (addr : Nat) (rs rc rd : Fin 256) (s : State) : Res := s.on fun s =>
  let n := if wide then 8 else 4
  .next (s.withAccess a addr n true true fun p _ t s =>
    let val := fun (r : Nat) => (t.reg r).toNat + if wide then 0x100000000 * (t.reg (r + 1)).toNat else 0
    let old := s.memNat p n
    let s := s.memPut p (leBytes n (atomResult op (8 * n) signed old (val rs) (val rc)))
    let t := t.put rd (BitVec.ofNat 32 old)
    s.setThread a (if wide then t.put (rd + 1) (BitVec.ofNat 32 (old / 0x100000000)) else t))

/-- MEMORY_FENCE (R346): every earlier operation of the thread has taken effect at the end of its own command,
so the fence finds nothing to wait for. -/
def execMemoryFence (_a : ThrNo) (_scope : Scope) (s : State) : Res := s.on fun s => .next s

/-! ### The vector and transcendental unit -/

/-- The 16-bit draw of a thread's generator (R358). -/
def LThr.draw (t : LThr) (mode : RMode) : Nat × LThr :=
  if mode = .sr then (Config.randomBits (t.seed * 0x100000000 + t.draws) % 65536, { t with draws := t.draws + 1 }) else (0, t)

/-- VECTOR_OP (R352): n multiply-adds; formats without one are undefined instructions. -/
def execVectorOp (i : VecIn) (s : State) : Res := s.on fun s =>
  match s.thread i.at_ with
  | none => .next s
  | some (_, t) =>
    if i.fmt = .fp32 ∨ i.fmt = .bf16 ∨ i.fmt = .fp16 ∨ i.fmt = .q131 then
      let r := (List.range i.n).foldl (fun (u : LThr) k =>
        let (d, u) := u.draw i.mode
        let (c, f) := fmaCode i.fmt i.mode d (t.reg (i.a + k)).toNat (t.reg (i.b + k)).toNat (t.reg (i.c + k)).toNat
        (u.put (i.d + k) (BitVec.ofNat 32 c)).flag f) t
      .next (s.setThread i.at_ r)
    else .next (s.threadFault i.at_ 7 0)

/-- TRANSCENDENTAL (R352): one FP32 result, the same bits for the same input; the spec bounds its error
and does not state its bits (log 2). -/
def execTranscendental (a : ThrNo) (f : TransFn) (src dst : Fin 256) (s : State) : Res := s.on fun s =>
  match s.thread a with
  | none => .next s
  | some (_, t) => .next (s.setThread a (t.put dst (transResult f (t.reg src))))

/-- One converted element (R357): its code, its flags and the thread after its draw. -/
def convElem (i : ConvIn) (sc : Option Nat) (down : Nat) (t u : LThr) (k : Nat) : LThr :=
  let code := (t.reg (i.src + k)).toNat
  let v := decodeVal i.from_ code
  let v := match sc with | some x => scaleVal x v | none => v
  let v := if i.dstScale.isSome then scaleVal (254 - down) v else v
  let (d, u) := u.draw i.mode
  let (c, f) := encodeVal i.to_ i.mode i.sat d v
  (u.put (i.dst + k) (BitVec.ofNat 32 (nanSign i.from_ i.to_ code c))).flag f

/-- CONVERSION (R355 to R359): a block of elements, with the scale of R355 where the target takes one; where
R355 states no scale it is a free value (log 2). -/
def execConversion (i : ConvIn) (s : State) : Res := s.on fun s =>
  match s.thread i.at_ with
  | none => .next s
  | some (_, t) =>
    if (i.dstScale.isSome && !fmtScaled i.to_) || (i.srcScale.isSome && !fmtScaled i.from_) then .next (s.threadFault i.at_ 7 0)
    else
      let sc := i.srcScale.map fun r => (t.reg r).toNat % 256
      let vals := (List.range i.n).map fun k =>
        let v := decodeVal i.from_ (t.reg (i.src + k)).toNat
        match sc with | some x => scaleVal x v | none => v
      let known := blockScale i.to_ vals
      let free := i.dstScale.isSome && known.isNone
      let down := known.getD (Config.freeNat s.free % 255)
      let s := if free then { s with free := s.free + 1 } else s
      let u := (List.range i.n).foldl (convElem i sc down t) t
      let u := match i.dstScale with | some r => u.put r (BitVec.ofNat 32 down) | none => u
      .next (s.setThread i.at_ u)

/-! ### The matrix engine -/

/-- An accumulator set: zeros where nothing has accumulated. -/
def State.acc (s : State) (i : TileIn) : Option LAcc :=
  s.lks.accs.find? fun x => x.die == i.at_.die.val && x.core == i.at_.core.val && x.engine == i.engine.val && x.set_ == i.set_.val

/-- Keep an accumulator set; `none` restarts it from zeros. -/
def State.setAcc (s : State) (i : TileIn) (x : Option LAcc) : State :=
  let l := s.lks.accs.filter fun x => !(x.die == i.at_.die.val && x.core == i.at_.core.val && x.engine == i.engine.val && x.set_ == i.set_.val)
  { s with lks := { s.lks with accs := l ++ x.toList } }

/-- The cells that a tile starts from: zeros, the set's own, or free values where the set holds sums of
another kind (log 2). -/
def State.accStart (s : State) (i : TileIn) (kind : Nat) : List Int × State :=
  match s.acc i with
  | none => (List.replicate 1024 0, s)
  | some x =>
    if x.kind = kind then (x.cells, s)
    else ((List.range 1024).map fun k => ((Config.freeNat (s.free + k) % 2 ^ 31 : Nat) : Int), { s with free := s.free + 1024 })

/-- Write the tile out to the core's SRAM, row by row (R349), when its 4 KiB lie there. -/
def State.tileOut (s : State) (i : TileIn) (kind : Nat) (cells : List Int) (out : Nat) : State :=
  let words := cells.map (cellOut kind)
  s.withAccess i.at_ out 4096 false false fun p _ t s =>
    ((s.memPut p (words.map fun x => leBytes 4 x.1.toNat).flatten).setThread i.at_ (t.flag { ovf := words.any (·.2) })).setAcc i none

/-- The arrays that a tile reads from its core's SRAM: address and bytes of A, of B and of the block scales (R349, R354, R355). -/
def tileSpans (i : TileIn) : List (Nat × Nat) :=
  [(i.a, fmtBytes i.fa (32 * i.k)), (i.b, fmtBytes i.fb (32 * i.k))]
    ++ (i.sa.map fun x => (x, i.k)).toList ++ (i.sb.map fun x => (x, i.k)).toList

/-- The operands of a tile as they stand in the core's SRAM. -/
def State.tileData (s : State) (i : TileIn) : TileData :=
  let mem := fun (x n : Nat) => s.memBytes (sramBase i.at_.die i.at_.core + x) n
  { k := i.k, fa := i.fa, fb := i.fb,
    a := unpack i.fa (32 * i.k) (mem i.a (fmtBytes i.fa (32 * i.k))),
    b := unpack i.fb (32 * i.k) (mem i.b (fmtBytes i.fb (32 * i.k))),
    sa := i.sa.map fun x => (mem x i.k).map (·.toNat),
    sb := i.sb.map fun x => (mem x i.k).map (·.toNat) }

/-- MATRIX_TILE (R349 to R351, R354, R355): the format pair is checked at issue (R350), a K or a shape outside R349 is an undefined
instruction, an operand outside the core's SRAM or a poisoned one faults (R348). -/
def execMatrixTile (i : TileIn) (s : State) : Res := s.on fun s =>
  match s.thread i.at_ with
  | none => .next s
  | some _ =>
    if !pairOk i.fa i.fb then .next (s.threadFault i.at_ 6 0)
    else if i.k = 0 ∨ i.k % 32 ≠ 0 ∨ 4096 < i.k
        ∨ (i.sa.isSome && !fmtScaled i.fa) ∨ (i.sb.isSome && !fmtScaled i.fb) then .next (s.threadFault i.at_ 7 0)
    else
    match (tileSpans i).find? fun x => decide (0x600000 < x.1 + x.2) with
    | some x => .next (s.threadFault i.at_ 1 x.1)
    | none =>
    match (tileSpans i).find? fun x => s.poisoned (sramBase i.at_.die i.at_.core + x.1) x.2 with
    | some x => .next (s.threadFault i.at_ 5 x.1)
    | none =>
      let kind := accKind i.fa (i.sa.isSome || i.sb.isSome)
      let (start, s) := s.accStart i kind
      let (cells, f) := tile (s.tileData i) kind start
      match s.thread i.at_ with
      | none => .next s
      | some (_, t) =>
        let s := (s.setThread i.at_ (t.flag f)).setAcc i
          (some ⟨i.at_.die, i.at_.core, i.engine, i.set_, kind, cells⟩)
        .next (match i.out with | some o => s.tileOut i kind cells o | none => s)

end Sys2Proof.Machine
end

