-- ==== Sys2Proof/Machine/LksCore.lean ====
section
/-! DEFINITION. Larkspur's work distributor (R382 to R395): commands of a queue, completions, dispatch,
the end of a job; waking, sleeping and failing cores (R373, R374, R390 to R392). -/

namespace Sys2Proof.Machine

/-! ### Queues (R382 to R387) -/

/-- Queue q of die d. -/
def State.queue (s : State) (d q : Nat) : LQueue := s.lks.queues.getD (64 * d + q) {}
def State.setQueue (s : State) (d q : Nat) (x : LQueue) : State :=
  { s with lks := { s.lks with queues := s.lks.queues.set (64 * d + q) x } }

/-- Tack firmware owns queues 0 to 7 of each die (R382). -/
def tackQueue (q : Nat) : Bool := q < 8

/-- The entries of a queue's rings (R383, R387). -/
def State.qSize (s : State) (d q : Nat) : Nat := 2 ^ s.get (LKS_Q_CTRL_SIZE_LOG2 d q)

/-- CORES of a queue: the mask that narrows its jobs (R382). -/
def State.qCores (s : State) (d q : Nat) : Nat := s.rd64 (LKS_Q_CORES_LO d q) (LKS_Q_CORES_HI d q)

/-- The logical cores of a mask. -/
def maskCores (m : Nat) : List Nat := (List.range 64).filter fun c => m.testBit c

/-- The jobs of a queue. -/
def State.qJobs (s : State) (d q : Nat) : List LJob := s.lks.jobs.filter fun j => j.die == d && j.q == q

/-- BUSY, RUNNING and WAITING of a queue (R407, R408): a command between head and tail waits too. -/
def State.showQueue (s : State) (d q : Nat) : State :=
  let size := s.qSize d q
  let unfetched := (s.get (LKS_Q_DB_SQ_TAIL d q) + size - s.get (LKS_Q_PTR_SQ_HEAD d q)) % size
  let wait := (s.queue d q).waiting.length + (s.queue d q).acts.length + (if s.isSet (LKS_Q_CTRL_ENABLE d q) then unfetched else 0)
  let run := (s.qJobs d q).length
  ((s.setB (LKS_Q_STATUS_BUSY d q) (decide (0 < wait + run))).set (LKS_Q_RUN_RUNNING d q) run).set (LKS_Q_RUN_WAITING d q) wait

/-- Raise a status bit of a queue with the queue's vector (R497). -/
def State.qFlag (s : State) (f : Nat → Nat → Field) (d q : Nat) : State := s.raiseBit (f d q) (s.get (LKS_Q_CTRL_VEC d q))

/-! ### Completions (R387) -/

def stOk : Nat := 0
def stFaulted : Nat := 1
def stTimeout : Nat := 2
def stAborted : Nat := 3
def stBadCommand : Nat := 4
def stBadImage : Nat := 5
def stRefused : Nat := 6
def stFailed : Nat := 7
def stSram : Nat := 8

/-- The completion ring has no room: the tail is one entry behind the head (log 38). -/
def State.cqFull (s : State) (d q : Nat) : Bool :=
  (s.get (LKS_Q_PTR_CQ_TAIL d q) + 1) % s.qSize d q == s.get (LKS_Q_DB_CQ_HEAD d q) % s.qSize d q

/-- Write a completion record at the ring's tail with its PHASE, then its message (R381, R387). A record of a
Tack queue goes to module memory (R396), a host queue's to host memory. -/
def State.cqWrite (s : State) (d q : Nat) (body : List Byte) (msi : Bool) : State :=
  let tail := s.get (LKS_Q_PTR_CQ_TAIL d q)
  let ph := (s.queue d q).phase
  let body := modAt body 5 fun (b : Byte) => if ph then b ||| 1 else b
  let a := s.rd64 (LKS_Q_CQ_BASE_LO d q) (LKS_Q_CQ_BASE_HI d q) + 32 * tail
  let s := if tackQueue q then s.memPut a body else s.emit (.hostWrite a body)
  let s := s.set (LKS_Q_PTR_CQ_TAIL d q) ((tail + 1) % s.qSize d q)
  let s := if tail + 1 = s.qSize d q then s.setQueue d q { s.queue d q with phase := !ph } else s
  if msi && !tackQueue q then s.msix (s.get (LKS_Q_CTRL_VEC d q)) else s

/-- Complete a command: its record is written, or held while the ring is full, which sets CQ_FULL (R387). -/
def State.complete (s : State) (d q : Nat) (body : List Byte) (noMsi : Bool) : State :=
  if s.cqFull d q || (s.queue d q).held != [] then
    (s.setQueue d q { s.queue d q with held := (s.queue d q).held ++ [(body, !noMsi)] }).qFlag LKS_Q_STATUS_CQ_FULL d q
  else s.cqWrite d q body !noMsi

/-- A completion record (R387) of a command without a run. -/
def cqBody (c : LCmd) (status : Nat) : List Byte :=
  leBytes 4 c.tag ++ leBytes 1 status ++ zeros 1 ++ leBytes 2 c.head ++ zeros 24

/-- A completion record of a job: its threads' joined flags, its faults, its time in RUN. -/
def State.jobBody (s : State) (j : LJob) (status : Nat) : List Byte :=
  let ts := s.lks.threads.filter fun t => t.die == j.die && j.cmd.mask.testBit t.core
  let any := fun (p : LThr → Bool) => ts.any p
  let flags := 2 * (j.nv || any (·.nv)).toNat + 4 * (j.ovf || any (·.ovf)).toNat + 8 * (j.uf || any (·.uf)).toNat
  let us := if j.started then min ((s.elapsed - j.start) / 100) 0xFFFFFFFF else 0
  leBytes 4 j.cmd.tag ++ leBytes 1 status ++ leBytes 1 flags ++ leBytes 2 j.cmd.head ++ leBytes 4 j.faulted
    ++ leBytes 1 j.cause ++ leBytes 1 j.core ++ leBytes 2 j.thread ++ leBytes 8 j.addr ++ leBytes 4 us ++ zeros 4

/-- NO_MSI, WAIT and STOP_ON_FAULT of a command's FLAGS (R383). -/
def LCmd.wait (c : LCmd) : Bool := c.flags.testBit 0
def LCmd.noMsi (c : LCmd) : Bool := c.flags.testBit 2

/-! ### Cores and jobs -/

/-- The job that has taken a core, running or waiting for its cores to wake. -/
def State.jobHolds (s : State) (d c : Nat) : Bool := s.lks.jobs.any fun j => j.die == d && j.cmd.mask.testBit c

/-- A training burst holds a core (R398). -/
def State.burstHolds (s : State) (d c : Nat) : Bool := decide ((d, c) ∈ s.lks.train.cores)

/-- A core is free for a job (R388): IDLE, RETENTION or WAKING, running nothing. -/
def State.coreFree (s : State) (d c : Nat) : Bool :=
  (s.coreSt d c == cIdle || s.coreSt d c == cRet || s.coreSt d c == cWaking) && !s.jobHolds d c && !s.burstHolds d c

/-- The last thread of a core's job ends (R373, R391): IDLE, or DRAINING where a close is wanted. -/
def State.coreDone (s : State) (d c : Nat) : State :=
  if s.coreSt d c = cRun ∨ s.coreSt d c = cSusp then (if (s.core d c).gate then s.coreTo d c cIdle else s.coreTo d c cDrain)
  else s

/-- A job leaves its cores: its threads end. -/
def State.jobOff (s : State) (j : LJob) : State :=
  let s := { s with lks := { s.lks with
      jobs := s.lks.jobs.filter (· != j),
      threads := s.lks.threads.filter fun t => !(t.die == j.die && j.cmd.mask.testBit t.core) } }
  forL (maskCores j.cmd.mask) (fun c t => t.coreDone j.die c) s

/-- A job ends with a completion (R387, R390). -/
def State.jobEnd (s : State) (j : LJob) (status : Nat) : State :=
  (((s.jobOff j).complete j.die j.q (s.jobBody j status) j.cmd.noMsi)).showQueue j.die j.q

/-! ### Images (R395) -/

/-- An image's fields as its checks need them. -/
structure Brxi where
  loadOffset : Nat
  codeLen : Nat
  sramNeed : Nat
  id : Nat
  code : Nat
  deriving DecidableEq, Repr

/-- Whether the owner of a queue may read n bytes (R370, R395). -/
def State.ownerReads (s : State) (d q c a n : Nat) : Bool :=
  match s.memSpan a n with
  | none => false
  | some m => (s.refusedAt (.core d c (tackQueue q)) m a n).isNone

/-- The checks of R395 at dispatch, but for the CRC: the image, or the status that the job completes with. -/
def State.imageCheck (s : State) (d q : Nat) (c : LCmd) : Nat ⊕ Brxi :=
  let a := c.image
  let core := (maskCores c.mask).headD 0
  let n := s.memNat (a + 6) 2
  let code := (0x40 + 8 * n + 63) / 64 * 64
  let i : Brxi := ⟨s.memNat (a + 8) 4, s.memNat (a + 12) 4, s.memNat (a + 16) 4, s.memNat (a + 24) 8, a + code⟩
  if a % 4096 ≠ 0 ∨ !s.ownerReads d q core a (code + i.codeLen) then .inl stBadImage
  else if s.memBytes a 4 ≠ [0x42#8, 0x52#8, 0x58#8, 0x49#8] ∨ s.memNat (a + 4) 2 ≠ 1 ∨ s.memNat (a + 20) 4 ≠ 0
      ∨ s.memNat (a + 32) 28 ≠ 0 then .inl stBadImage
  else if n ≤ c.entry ∨ s.memNat (a + 0x40 + 8 * c.entry + 4) 2 < c.threads then .inl stBadImage
  else if 0x600000 < i.loadOffset + i.codeLen then .inl stBadImage
  else if 0x600000 < i.loadOffset + i.codeLen + i.sramNeed then .inl stSram
  else .inr i

/-- The CRC that an image's header carries covers the header, the entry table and the code (R395). -/
def State.imageCrc (s : State) (a : Nat) (i : Brxi) : Bool :=
  (crc32c (s.memBytes a 0x3C ++ s.memBytes (a + 0x40) (8 * s.memNat (a + 6) 2) ++ s.memBytes i.code i.codeLen)).toNat
    == s.memNat (a + 0x3C) 4

/-- Load the image into the cores that do not hold it (R395). -/
def State.loadImage (s : State) (j : LJob) (i : Brxi) : State :=
  let code := s.memBytes i.code i.codeLen
  forL (maskCores j.cmd.mask) (fun c t =>
    if (t.core j.die c).image = some i.id then t
    else (t.memPut (sramBase j.die c + i.loadOffset) code).setCore j.die c { t.core j.die c with image := some i.id }) s

/-- A dispatched job whose cores are all IDLE loads its image and starts (R389, R393, R395). -/
def State.jobStart (s : State) (j : LJob) : State :=
  let cs := maskCores j.cmd.mask
  if j.started || !cs.all fun c => s.coreSt j.die c == cIdle then s
  else
    match s.imageCheck j.die j.q j.cmd with
    | .inl st => s.jobEnd j st
    | .inr i =>
      if (cs.any fun c => (s.core j.die c).image != some i.id) && !s.imageCrc j.cmd.image i then s.jobEnd j stBadImage
      else
        let s := s.loadImage j i
        let s := s.mapJobs (· == j) fun j => { j with started := true, start := s.elapsed }
        (forL cs (fun c t => (t.coreTo j.die c cRun).set (LKS_CORE_THREADS j.die c) j.cmd.threads) s).showQueue j.die j.q

/-- Start every job of a die whose cores have become IDLE. -/
def State.jobsStart (s : State) (d : Nat) : State :=
  forL (s.lks.jobs.filter fun j => j.die == d) (fun j t => t.jobStart j) s

/-! ### In-order processing (R384, R386, R388) -/

/-- A WAKE or SLEEP in effect is done (R384): every named core IDLE, or in RETENTION. -/
def State.actDone (s : State) (d : Nat) (c : LCmd) : Bool :=
  (maskCores c.mask).all fun k => s.coreSt d k == (if c.op = 3 then cIdle else cRet)

/-- Complete the acts of a queue that are done. -/
def State.actsDone (s : State) (d q : Nat) : State :=
  forL (s.queue d q).acts (fun c t =>
    if t.actDone d c then
      (t.setQueue d q { t.queue d q with acts := (t.queue d q).acts.filter (· != c) }).complete d q (cqBody c stOk) c.noMsi
    else t) s

/-- SLEEP of one core: IDLE drains at once, a running job ends first (R391). -/
def State.sleepCore (s : State) (d c : Nat) : State :=
  if s.coreSt d c = cRun ∨ s.jobHolds d c then s.setCore d c { s.core d c with gate := false } else s.closeCore d c

/-- A command leaves the waiting list with a completion. -/
def State.finish (s : State) (d q : Nat) (c : LCmd) (status : Nat) : State :=
  (s.setQueue d q { s.queue d q with waiting := (s.queue d q).waiting.drop 1 }).complete d q (cqBody c status) c.noMsi

/-- Serve the queue's oldest waiting command if it can be served without a dispatch: the rest of it, and
whether the next one may follow (R384, R386). -/
def State.serve (s : State) (d q : Nat) : State × Bool :=
  match (s.queue d q).waiting with
  | [] => (s, false)
  | c :: rest =>
    let busy := s.qJobs d q != [] || (s.queue d q).acts != []
    let badMask := c.mask == 0 || c.mask != c.mask &&& s.qCores d q
    if !s.isSet (LKS_Q_CTRL_ENABLE d q) || s.cqFull d q || (s.queue d q).held != [] || (c.wait && busy) then (s, false)
    else if c.op = 2 then (if busy then (s, false) else (s.finish d q c stOk, true))
    else if c.op = 5 then (s.finish d q c stOk, true)
    else if c.op = 1 then
      (if badMask then (s.finish d q c stRefused, true)
       else if c.threads = 0 ∨ 128 < c.threads then (s.finish d q c stBadCommand, true)
       else if (maskCores c.mask).any fun k => s.coreSt d k == cFailed then (s.finish d q c stFailed, true)
       else
         (forL (maskCores c.mask) (fun k t => t.latchWake (2 ^ coreDomain d k)) s, false))
    else if c.op = 3 ∨ c.op = 4 then
      (if badMask then (s.finish d q c stRefused, true)
       else
         let s := s.setQueue d q { s.queue d q with waiting := rest, acts := (s.queue d q).acts ++ [c] }
         ((forL (maskCores c.mask) (fun k t => if c.op = 3 then t.openCore d k else t.sleepCore d k) s).actsDone d q, true))
    else (s.finish d q c stBadCommand, true)

/-- Serve a queue's commands in order as far as they go. -/
def State.drain : Nat → Nat → Nat → State → State
  | 0, _, _, s => s
  | n + 1, d, q, s =>
    let (t, more) := s.serve d q
    if more then State.drain n d q t else t

/-- A queue after anything that may let it go on. -/
def State.qRun (s : State) (d q : Nat) : State :=
  let s := s.actsDone d q
  (State.drain ((s.queue d q).waiting.length) d q s).showQueue d q

/-- A queue's ready LAUNCH, if its oldest waiting command is one (R388). -/
def State.readyHead (s : State) (d q : Nat) : Option LCmd :=
  match (s.queue d q).waiting with
  | c :: _ =>
    if c.op = 1 ∧ s.isSet (LKS_Q_CTRL_ENABLE d q) ∧ !s.cqFull d q ∧ (s.queue d q).held = [] ∧ !(c.wait && s.qJobs d q != []) then some c
    else none
  | [] => none

/-- STATE of LKS_TRAIN_STATUS (R409): the latest of transfer, promotion, evaluation, training that runs. -/
def State.showTrain (s : State) : State :=
  let t := s.lks.train
  s.set LKS_TRAIN_STATUS_STATE (if t.exporting then 4 else if t.reload then 3 else if t.evaluating then 2
    else if t.burst && t.cores != [] then 1 else 0)

/-- The host-partition cores that a burst may take on a die (R398): free, and not reserved by a ready head (R388). -/
def State.burstFree (s : State) (d : Nat) : List Nat :=
  let reserved := (List.range 64).foldl (fun m q => m ||| (match s.readyHead d q with | some c => c.mask | none => 0)) 0
  (List.range 64).filter fun c => (d != 0 || 16 ≤ c) && s.coreFree d c && !reserved.testBit c

/-- A burst takes cores as they become free, up to MAX_CORES of each die (R398). -/
def State.burstGrow (s : State) : State :=
  if !s.lks.train.burst then s
  else
    (forN s.dies (fun d t =>
      let have_ := (t.lks.train.cores.filter (·.1 == d)).length
      forL ((t.burstFree d).take (t.get LKS_TRAIN_CTRL_MAX_CORES - have_)) (fun c u =>
        let u := u.openCore d c
        let u := { u with lks := { u.lks with train := { u.lks.train with cores := u.lks.train.cores ++ [(d, c)] } } }
        if u.coreSt d c = cIdle then u.coreTo d c cRun else u) t) s).showTrain

/-- Every queue of a die after its cores have moved (R373, R384): acts complete, jobs start, commands follow. -/
def State.dieRun (s : State) (d : Nat) : State :=
  (forN 64 (fun q t => t.qRun d q) ((forN 64 (fun q t => t.actsDone d q) s).jobsStart d)).burstGrow

/-! ### Rows: fetched commands (R383, R384) -/

/-- A command as the module holds it. -/
def SqIn (s : State) (d q op : Nat) (c : SqCmd) : LCmd :=
  { op := op, flags := c.flags, entry := c.entry, tag := c.tag.toNat, image := c.image.toNat, mask := c.mask.toNat,
    arg := c.arg.toNat, seed := c.seed.toNat, timeout := c.timeout.toNat, threads := c.threads,
    head := (s.get (LKS_Q_PTR_SQ_HEAD d q) + 1) % s.qSize d q, born := s.elapsed }

/-- A command is fetched at the submission head: the head moves, the command waits its turn (R386). Nothing is
fetched from an absent die, a disabled queue or past the tail. -/
def State.fetched (s : State) (d q op : Nat) (c : SqCmd) : State :=
  if !s.dieOk d || !s.isSet (LKS_Q_CTRL_ENABLE d q) || s.get (LKS_Q_PTR_SQ_HEAD d q) == s.get (LKS_Q_DB_SQ_TAIL d q) then s
  else
    let x := SqIn s d q op c
    ((s.setQueue d q { s.queue d q with waiting := (s.queue d q).waiting ++ [x] }).set (LKS_Q_PTR_SQ_HEAD d q) x.head).qRun d q

/-- LAUNCH (R384): a job that waits for its cores; a bad mask or a failed core completes it at once. -/
def execLaunch (d : Fin 2) (q : Fin 64) (c : SqCmd) (s : State) : Res := s.on fun s => .next (s.fetched d q 1 c)

/-- BARRIER (R384). -/
def execBarrier (d : Fin 2) (q : Fin 64) (c : SqCmd) (s : State) : Res := s.on fun s => .next (s.fetched d q 2 c)

/-- WAKE (R384, R392). -/
def execWake (d : Fin 2) (q : Fin 64) (c : SqCmd) (s : State) : Res := s.on fun s => .next (s.fetched d q 3 c)

/-- SLEEP (R384, R391, R392). -/
def execSleep (d : Fin 2) (q : Fin 64) (c : SqCmd) (s : State) : Res := s.on fun s => .next (s.fetched d q 4 c)

/-- NOP (R384). -/
def execNop (d : Fin 2) (q : Fin 64) (c : SqCmd) (s : State) : Res := s.on fun s => .next (s.fetched d q 5 c)

/-- BAD_COMMAND: an OPCODE outside R383's five. -/
def execBadCommand (d : Fin 2) (q : Fin 64) (op : Fin 256) (c : SqCmd) (s : State) : Res := s.on fun s =>
  .next (if 1 ≤ op.val ∧ op.val ≤ 5 then s else s.fetched d q op c)

/-! ### Rows: doorbells (R385 to R387) -/

/-- A host write that Tack firmware's ownership refuses: an F0 event with its BAR4 or BAR0 offset (R382). -/
def State.tackOwned (s : State) (addr value : Nat) : State := s.lksNote (signedOf 32 addr) (signedOf 32 value) 0

/-- Whether a doorbell write is one that sets DB_ERR (R385). -/
def State.dbBad (s : State) (d q v : Nat) : Bool := !s.isSet (LKS_Q_CTRL_ENABLE d q) || s.qSize d q ≤ v

/-- SUBMISSION_DOORBELL (R385, R386): the new tail; a fetch that fails on PCIe disables the queue. -/
def execSubmissionDoorbell (d : Fin 2) (q : Fin 64) (v : Word) (byTack fetchFails : Bool) (s : State) : Res := s.on fun s =>
  if !s.dieOk d || (byTack && !tackQueue q) then .next s
  else if tackQueue q && !byTack then .next (s.tackOwned (0x800 * d + 0x20 * q) v.toNat)
  else if s.dbBad d q v.toNat then .next (s.qFlag LKS_Q_STATUS_DB_ERR d q)
  else
    let s := s.set (LKS_Q_DB_SQ_TAIL d q) v.toNat
    if fetchFails && !tackQueue q then
      .next (((s.set (LKS_Q_CTRL_ENABLE d q) 0).qFlag LKS_Q_STATUS_FETCH_ERR d q).showQueue d q)
    else .next (s.showQueue d q)

/-- Write held completions while the ring has room (R387). -/
def State.unhold : Nat → Nat → Nat → State → State
  | 0, _, _, s => s
  | n + 1, d, q, s =>
    match (s.queue d q).held with
    | [] => s
    | (b, msi) :: rest =>
      if s.cqFull d q then s
      else State.unhold n d q ((s.setQueue d q { s.queue d q with held := rest }).cqWrite d q b msi)

/-- COMPLETION_DOORBELL (R385, R387): the host's head; held completions follow and dispatch resumes. -/
def execCompletionDoorbell (d : Fin 2) (q : Fin 64) (v : Word) (byTack : Bool) (s : State) : Res := s.on fun s =>
  if !s.dieOk d || (byTack && !tackQueue q) then .next s
  else if tackQueue q && !byTack then .next (s.tackOwned (0x800 * d + 0x20 * q + 4) v.toNat)
  else if s.dbBad d q v.toNat then .next (s.qFlag LKS_Q_STATUS_DB_ERR d q)
  else
    let s := s.set (LKS_Q_DB_CQ_HEAD d q) v.toNat
    .next ((State.unhold (s.queue d q).held.length d q s).qRun d q)

/-! ### Rows: jobs (R388 to R391) -/

/-- Another queue's ready head reserves a core that this one names: Tack queues first, then the older, then
the lower-numbered queue (R388, R391). -/
def State.outranked (s : State) (d q : Nat) (c : LCmd) : Bool :=
  (List.range 64).any fun r =>
    r != q && match s.readyHead d r with
      | none => false
      | some e => e.mask &&& c.mask != 0 &&
          (if tackQueue r != tackQueue q then tackQueue r
           else decide (e.born < c.born) || (e.born == c.born && decide (r < q)))

/-- A job's host-partition cores take no dispatch while the die is suspended (R362). -/
def State.suspends (s : State) (d : Nat) (c : LCmd) : Bool :=
  s.isSet (LKS_DIE_STATUS_SUSPENDED d) && (maskCores c.mask).any fun k => d != 0 || 16 ≤ k

/-- A queue's ready head can be dispatched now: it holds its cores, and all of them are free (R362, R388). -/
def State.servable (s : State) (d q : Nat) : Bool :=
  match s.readyHead d q with
  | none => false
  | some c => !s.outranked d q c && !s.suspends d c && (maskCores c.mask).all (fun k => s.coreFree d k)

/-- The host queues in the order of the weighted round robin (R388): the one served last while it has serves left, then upwards,
around to it again. -/
def LDie.order (x : LDie) : List Nat :=
  let after := (List.range 56).map fun i => 8 + (x.rrQueue - 8 + 1 + i) % 56
  if 0 < x.rrLeft then x.rrQueue :: after else after

/-- A queue's turn (R388): Tack firmware's queues first, then the host queue that the round robin serves next. -/
def State.turn (s : State) (d q : Nat) : Bool :=
  tackQueue q || (!(List.range 8).any (s.servable d) && (s.lks.dies.getD d {}).order.find? (s.servable d) == some q)

/-- A host queue is served: WEIGHT serves in a row, one of them now (R388). -/
def State.rrServe (s : State) (d q : Nat) : State :=
  if tackQueue q then s
  else
    { s with lks := { s.lks with dies := modAt s.lks.dies d fun (x : LDie) =>
        { x with rrQueue := q, rrLeft := (if x.rrQueue = q ∧ 0 < x.rrLeft then x.rrLeft else s.get (LKS_Q_CTRL_WEIGHT d q)) - 1 } } }

/-- JOB_DISPATCH (R388, R389, R392, R395): the ready head of a queue whose turn it is takes its free cores, which wake; with
every core IDLE it starts. Nothing is dispatched while Larkspur's clocks are not ready (R128, R506). -/
def execJobDispatch (d : Fin 2) (q : Fin 64) (s : State) : Res := s.on fun s =>
  match s.readyHead d q with
  | none => .next s
  | some c =>
    if s.lksHalted || !s.dieOk d || !s.servable d q || !s.turn d q then .next s
    else
      let s := s.rrServe d q
      match s.imageCheck d q c with
      | .inl st => .next ((s.finish d q c st).qRun d q)
      | .inr _ =>
        let j : LJob := { die := d, q := q, cmd := c, start := s.elapsed, started := false }
        let s := s.setQueue d q { s.queue d q with waiting := (s.queue d q).waiting.drop 1 }
        let s := { s with lks := { s.lks with jobs := s.lks.jobs ++ [j] } }
        let s := forL (maskCores c.mask) (fun k t => t.openCore d k) s
        .next ((s.jobStart j).qRun d q)

/-- The running job of a queue with a TAG. -/
def State.jobBy (s : State) (d q tag : Nat) : Option LJob := (s.qJobs d q).find? fun j => j.started && j.cmd.tag == tag

/-- JOB_END (R387, R390): the last thread ends, or every thread has stopped after a fault; no thread ends while Larkspur's
clocks are not ready (R128, R506). -/
def execJobEnd (d : Fin 2) (q : Fin 64) (tag : Word) (s : State) : Res := s.on fun s =>
  match s.jobBy d q tag.toNat with
  | none => .next s
  | some j => .next (if s.lksHalted then s else (s.jobEnd j (if j.faulted = 0 then stOk else stFaulted)).dieRun d)

/-- A job's time in RUN has reached a nonzero TIMEOUT_US; while one of its cores is suspended none of it counts (R390). -/
def State.overdue (s : State) (j : LJob) : Bool :=
  j.cmd.timeout != 0 && decide (j.start + 100 * j.cmd.timeout ≤ s.elapsed) && !(maskCores j.cmd.mask).any fun c => s.coreSt j.die c == cSusp

/-- JOB_TIMEOUT (R390): RUN_US reaches a nonzero TIMEOUT_US. -/
def execJobTimeout (d : Fin 2) (q : Fin 64) (tag : Word) (s : State) : Res := s.on fun s =>
  match s.jobBy d q tag.toNat with
  | none => .next s
  | some j => .next (if s.overdue j then (s.jobEnd j stTimeout).dieRun d else s)

/-- Complete every unfetched command ABORTED: their TAG and NO_MSI, the heads from the submission head on. -/
def State.abortUnfetched (s : State) (d q : Nat) (l : List (Word × Bool)) : State :=
  let size := s.qSize d q
  let head := s.get (LKS_Q_PTR_SQ_HEAD d q)
  let n := (s.get (LKS_Q_DB_SQ_TAIL d q) + size - head) % size
  forN n (fun i t =>
    let x := l.getD i (0, false)
    let c : LCmd := { op := 0, flags := 4 * x.2.toNat, entry := 0, tag := x.1.toNat, image := 0, mask := 0, arg := 0,
                      seed := 0, timeout := 0, threads := 0, head := (head + i + 1) % size, born := 0 }
    t.complete d q (cqBody c stAborted) c.noMsi) s

/-- QUEUE_ABORT (R391): dispatch stops, running jobs stop, every command up to the tail completes ABORTED,
ENABLE reads 0. `rest` is what the host's ring holds past the submission head. -/
def execQueueAbort (d : Fin 2) (q : Fin 64) (rest : List (Word × Bool)) (byTack : Bool) (s : State) : Res := s.on fun s =>
  if !s.dieOk d || (byTack && !tackQueue q) then .next s
  else if tackQueue q && !byTack then .next (s.tackOwned (LKS_Q_CTRL d q) 2)
  else if !s.isSet (LKS_Q_CTRL_ENABLE d q) then .next (s.clear (LKS_Q_CTRL_ABORT d q))
  else
    let s := forL (s.qJobs d q) (fun j t => t.jobEnd j stAborted) s
    let cs := (s.queue d q).acts ++ (s.queue d q).waiting
    let s := s.setQueue d q { s.queue d q with waiting := [], acts := [] }
    let s := forL cs (fun c t => t.complete d q (cqBody c stAborted) c.noMsi) s
    let s := s.abortUnfetched d q rest
    let s := s.set (LKS_Q_PTR_SQ_HEAD d q) (s.get (LKS_Q_DB_SQ_TAIL d q))
    .next ((((s.clear (LKS_Q_CTRL_ENABLE d q)).clear (LKS_Q_CTRL_ABORT d q)).showQueue d q).dieRun d)

/-- A queue is enabled: its pointers and its PHASE start over (log 39). -/
def State.queueEnable (s : State) (d q : Nat) : State :=
  (((s.setQueue d q {}).wr (LKS_Q_PTR d q) 0).wr (LKS_Q_DB d q) 0).showQueue d q

/-- A PERST_N assertion or a link loss disables every host queue: running host jobs stop without a
completion (R394). -/
def State.hostQueuesOff (s : State) : State :=
  let s := forL (s.lks.jobs.filter fun j => !tackQueue j.q) (fun j t => t.jobOff j) s
  forN 2 (fun d t => if !t.dieOk d then t else (forN 56 (fun i u =>
    let q := 8 + i
    ((u.setQueue d q {}).clear (LKS_Q_CTRL_ENABLE d q)).showQueue d q) t).dieRun d) s

/-! ### Rows: cores (R362, R365, R373, R374, R392) -/

/-- CORE_WAKE_COMPLETE (R373): WAKING becomes IDLE, or RUN for a training burst that holds it, and DRAINING where a close was asked
for meanwhile; jobs that waited for it start. -/
def execCoreWakeComplete (d : Fin 2) (c : Fin 64) (s : State) : Res := s.on fun s =>
  if s.coreSt d c ≠ cWaking then .next s
  else
    let s := s.coreTo d c (if s.burstHolds d c then cRun else cIdle)
    let s := if (s.core d c).gate then s else s.closeCore d c
    .next (s.showAwake.dieRun d)

/-- CORE_DRAIN_COMPLETE (R373, R391): DRAINING becomes RETENTION once no thread is left; a gate opened
meanwhile opens again. A core whose job still runs has a thread left. -/
def execCoreDrainComplete (d : Fin 2) (c : Fin 64) (s : State) : Res := s.on fun s =>
  if s.coreSt d c ≠ cDrain ∨ (s.jobOn d c).isSome then .next s
  else
    let s := (s.coreTo d c cRet).showAwake
    .next ((if (s.core d c).gate then s.openCore d c else s).dieRun d)

/-- A core fails (R372, R373, R390): FAILED, its job completes CORE_FAILED, Remount's count, and the forecast
runtime stops for one of its cores. -/
def State.coreFail (s : State) (d c : Nat) : State :=
  let s := s.coreTo d c cFailed
  let s := match s.lks.jobs.find? fun j => j.die == d && j.cmd.mask.testBit c with
    | some j => s.jobEnd j stFailed
    | none => s
  let s := { s with lks := { s.lks with train := { s.lks.train with cores := s.lks.train.cores.filter (· != (d, c)) } },
                    rmt := { s.rmt with cores := modAt s.rmt.cores (68 * d + s.phys d c) fun (w : CoreWear) => { w with ue := w.ue + 1 } } }
  let s := (s.uncorrectable d).showAwake
  if d = 0 ∧ c < 16 then s.forecastStop else s

/-- CORE_FAILURE (R373). -/
def execCoreFailure (d : Fin 2) (c : Fin 64) (s : State) : Res := s.on fun s =>
  .next (if !s.dieOk d || s.coreSt d c == cFailed then s else (s.coreFail d c).dieRun d)

/-- SRAM_SCRUB (R365): a clocked core's SRAM is scrubbed; corrected errors count, an uncorrectable one fails it. -/
def execSramScrub (d : Fin 2) (c : Fin 64) (ce : Fin 256) (ue : Bool) (s : State) : Res := s.on fun s =>
  if !s.dieOk d || !(s.coreSt d c == cIdle || s.coreSt d c == cRun || s.coreSt d c == cDrain) then .next s
  else
    let s := if ce.val = 0 then s else s.sramCorrected d c ce
    .next (if ue then (s.coreFail d c).dieRun d else s)

/-- CORE_COPY_COMPLETE (R343, R374): the logical core runs on the spare, the old physical core is retired. From
COPYING the core returns to its state before; from FAILED its SRAM is undefined and it waits in RETENTION. -/
def execCoreCopyComplete (d : Fin 2) (c : Fin 64) (s : State) : Res := s.on fun s =>
  let x := s.core d c
  if x.spare = 0 ∨ (s.coreSt d c ≠ cCopy ∧ s.coreSt d c ≠ cFailed) then .next s
  else
    let failed := s.coreSt d c == cFailed
    let old := s.phys d c
    let s := if failed then s.memLose (sramBase d c) 0x600000 else s
    let s := ((s.set (LKS_PCORE_ROLE d old) 2).set (LKS_PCORE_LOGICAL d old) 127).set (LKS_PCORE_ROLE d x.spare) 0
    let s := ((s.set (LKS_PCORE_LOGICAL d x.spare) c).set (LKS_CORE_PHYS d c) x.spare).set (LKS_DIE_STATUS_SPARES_FREE d)
      (s.get (LKS_DIE_STATUS_SPARES_FREE d) - 1)
    let back := if failed then cRet else x.before
    let s := (s.coreTo d c back).setCore d c { (s.coreTo d c back).core d c with
        spare := 0, image := if back = cRet then none else x.image }
    .next ((if x.gate && back == cRet then s.openCore d c else s).dieRun d)

/-- A core has been in its state for IDLE_US of its die (R392). -/
def State.idleFor (s : State) (d c : Nat) : Bool := decide ((s.core d c).since + 100 * s.get (LKS_IDLE_CFG_IDLE_US d) ≤ s.elapsed)

/-- CORE_IDLE_TIMEOUT (R392): a core IDLE for IDLE_US, which no job has taken, has its gate closed. -/
def execCoreIdleTimeout (d : Fin 2) (c : Fin 64) (s : State) : Res := s.on fun s =>
  .next (if s.coreSt d c = cIdle ∧ s.get (LKS_IDLE_CFG_IDLE_US d) ≠ 0 ∧ s.idleFor d c ∧ !s.jobHolds d c ∧ !s.burstHolds d c
    then s.closeCore d c else s)

/-- The die of a Larkspur domain. -/
def domainDie (b : Nat) : Nat := if b = 14 then 1 else 0

/-- Whether a job runs or waits for dispatch on a domain (R392). -/
def State.domainBusy (s : State) (b : Nat) : Bool :=
  let on := fun (m : Nat) => (domainCores b).any fun x => m.testBit x.2
  s.lks.jobs.any (fun j => j.die == domainDie b && on j.cmd.mask)
    || (List.range 64).any (fun q => (s.queue (domainDie b) q).waiting.any fun c => c.op == 1 && on c.mask)
    || s.lks.train.cores.any fun x => x.1 == domainDie b && on (2 ^ x.2)

/-- LKS_WAKE_LATCH_CLEAR (R123, R392): Tack firmware clears the wake latch of a domain, by its CLK_EN bit; that of a Larkspur
domain once its cores have been in RETENTION for IDLE_US and no job waits for it. -/
def execLksWakeLatchClear (b : Fin 15) (s : State) : Res := s.on fun s =>
  if 12 ≤ b.val ∧ !((domainCores b).all (fun c => s.coreSt c.1 c.2 == cRet && s.idleFor c.1 c.2) && !s.domainBusy b) then .next s
  else .next { s with clk := { s.clk with wakeLatch := bitPut s.clk.wakeLatch b false } }

/-! ### Rows: power (R361, R362) -/

/-- The cap in effect: the lowest of the die's 150 W, HOST_CAP, the envelope's and the cooling curve's, and 0
above the junction limit (R361, R417, R430). -/
def State.capEff (s : State) (d env : Nat) : Nat :=
  if (s.lks.dies.getD d {}).hot then 0
  else min (min 150 (s.get (LKS_PWR_CAP_HOST_CAP d))) (min env (s.get BRD_COOL_LKS_CAP))

/-- Whether no host-partition core of a die is clocked (R361). -/
def State.hostAsleep (s : State) (d : Nat) : Bool :=
  (List.range 64).all fun c => (d == 0 && c < 16) || s.coreSt d c == cRet || s.coreSt d c == cSusp

/-- Show the duties and whether one is below 16 (R376, R377). -/
def State.showDuty (s : State) (d host fcst : Nat) : State :=
  let s := ((s.set (LKS_PWR_STATUS_HOST_DUTY d) host).set (LKS_PWR_STATUS_FCST_DUTY d) fcst).setB (LKS_DIE_STATUS_CAP_ACTIVE d)
    (decide (host < 16 ∨ fcst < 16))
  forN 64 (fun c t => t.set (LKS_CORE_DUTY d c) (if d = 0 ∧ c < 16 then fcst else host)) s

/-- HOST_DUTY and FCST_DUTY after a tick (R30, R361): the host's falls first; the forecast partition's, on die 0, only while every
other core of the module rests, and it is back at 16 before the host's rises. -/
def State.duties (s : State) (d power cap : Nat) : Nat × Nat :=
  let host := s.get (LKS_PWR_STATUS_HOST_DUTY d)
  let fcst := s.get (LKS_PWR_STATUS_FCST_DUTY d)
  if cap < power then (host - 1, if d = 0 ∧ (List.range s.dies).all s.hostAsleep then fcst - 1 else fcst)
  else if 100 * power ≤ 95 * cap ∧ power < cap then
    (if fcst < 16 then (host, fcst + 1)
     else if s.isSet (LKS_DIE_STATUS_SUSPENDED d) then (host, fcst)
     else (min (host + 1) 16, fcst))
  else (host, fcst)

/-- The instants from which a condition holds: kept while it holds, none while it does not. -/
def since (old : Option Nat) (now : Nat) (b : Bool) : Option Nat := if b then some (old.getD now) else none

/-- The times that R362 measures go on, with the new HOST_DUTY. -/
def State.dieTimes (s : State) (d host power cap : Nat) : State :=
  { s with lks := { s.lks with dies := modAt s.lks.dies d fun (x : LDie) =>
      { x with zeroSince := since x.zeroSince s.elapsed (host == 0), coolSince := since x.coolSince s.elapsed (decide (6 * power ≤ 5 * cap)) } } }

/-- POWER_CAP_TICK (R361): the estimate of the last 100 µs and the cap that the envelope sets, in W. -/
def execPowerCapTick (d : Fin 2) (power env : Nat) (s : State) : Res := s.on fun s =>
  if !s.dieOk d then .next s
  else
    let cap := s.capEff d env
    let u := s.duties d power cap
    let s := (s.set (LKS_PWR_STATUS_CAP_EFF d) cap).set (LKS_PWR_STATUS_POWER d) (min power 255)
    .next ((s.dieTimes d u.1 power cap).showDuty d u.1 u.2)

/-- A time of R362 has been reached. -/
def State.stood (s : State) (t : Option Nat) (n : Nat) : Bool :=
  match t with
  | some t => decide (t + n ≤ s.elapsed)
  | none => false

/-- The save area of a logical core (R362, R396). -/
def saveArea (d c : Nat) : Nat := sysBase + 0x1C000000 + 0x20000 * (64 * d + c)

/-- The host-partition cores of a die. -/
def hostCores (d : Nat) : List Nat := (List.range 64).filter fun c => d != 0 || 16 ≤ c

/-- HOST_CORE_SUSPEND (R362): with HOST_DUTY at 0 for 1 ms and the cap still exceeded, running host-partition cores are
saved and suspended. The layout of a save area is not stated: its bytes are undefined (log 2). -/
def execHostCoreSuspend (d : Fin 2) (s : State) : Res := s.on fun s =>
  if !s.dieOk d || s.get (LKS_PWR_STATUS_HOST_DUTY d) != 0 || s.isSet (LKS_DIE_STATUS_SUSPENDED d)
      || !s.stood (s.lks.dies.getD d {}).zeroSince tickMs
      || decide (s.get (LKS_PWR_STATUS_POWER d) ≤ s.get (LKS_PWR_STATUS_CAP_EFF d)) then .next s
  else
    let s := forL (hostCores d) (fun c t =>
      if t.coreSt d c = cRun then (t.memLose (saveArea d c) 0x20000).coreTo d c cSusp else t) s
    .next (s.set (LKS_DIE_STATUS_SUSPENDED d) 1)

/-- HOST_CORE_RESUME (R362, R390): once CAP_EFF has exceeded the estimate by 20 % for 10 ms the suspended cores run again, from
HOST_DUTY 1; the time suspended does not count. -/
def execHostCoreResume (d : Fin 2) (s : State) : Res := s.on fun s =>
  if !s.isSet (LKS_DIE_STATUS_SUSPENDED d) || !s.stood (s.lks.dies.getD d {}).coolSince (10 * tickMs) then .next s
  else
    let s := s.mapJobs (fun j => j.started && j.die == d.val && (maskCores j.cmd.mask).any fun c => s.coreSt d c == cSusp)
      fun (j : LJob) =>
        let c := ((maskCores j.cmd.mask).find? fun c => s.coreSt d c == cSusp).getD 0
        { j with start := j.start + (s.elapsed - (s.core d c).since) }
    let s := forL (hostCores d) (fun c t => if t.coreSt d c = cSusp then t.coreTo d c cRun else t) s
    .next (((s.set (LKS_DIE_STATUS_SUSPENDED d) 0).showDuty d (max 1 (s.get (LKS_PWR_STATUS_HOST_DUTY d)))
      (s.get (LKS_PWR_STATUS_FCST_DUTY d))).dieRun d)

end Sys2Proof.Machine
end

