-- ==== Sys2Proof/Machine/LksTier.lean ====
section
/-! DEFINITION. The tiering engine (R367, R368) and the host's window into module memory, BAR2 (R125, R366,
R370, R371, R379, R380). -/

namespace Sys2Proof.Machine

/-! ### Memory domains (R118, R125) -/

/-- The CLK_EN bit of a memory's domain; core SRAM has none. -/
def memDomain : LMem → Option Nat
  | .hbm0 | .sys => some 10
  | .hbm1 => some 11
  | .ddr k => some (if k = 0 then 8 else 9)
  | .sram _ _ => none

/-- An access to a memory in self-refresh sets its domain's wake latch (R125, R367). -/
def State.wakeMem (s : State) (m : LMem) : State :=
  match memDomain m with
  | some b => if bitOf s.clk.selfRefresh b then s.latchWake (2 ^ b) else s
  | none => s

/-! ### Tiering (R367, R368, R378) -/

/-- Channel ch of die d. -/
def State.tier (s : State) (d ch : Nat) : LTier := s.lks.tiers.getD (2 * d + ch) {}
def State.setTier (s : State) (d ch : Nat) (t : LTier) : State :=
  { s with lks := { s.lks with tiers := s.lks.tiers.set (2 * d + ch) t } }

/-- Show a channel's STATE and CAUSE; an ending posts its vector (R497). -/
def State.tierShow (s : State) (d ch st cause : Nat) : State :=
  let s := (s.set (LKS_TIER_STATUS_STATE d ch) st).set (LKS_TIER_STATUS_CAUSE d ch) cause
  if 3 ≤ st then s.msix (248 + 2 * d + ch) else s

/-- Whether a range lies whole in the die's own stack or in DDR5; for die 0 the system region is part of its
stack (R363, R367). The memory of its first byte. -/
def State.tierRange (s : State) (d a n : Nat) : Option LMem :=
  let own := fun (m : LMem) => match m with
    | .hbm0 | .sys => d == 0
    | .hbm1 => d == 1
    | .ddr _ => true
    | .sram _ _ => false
  match s.memOf a, s.memOf (a + n - 1) with
  | some x, some y => if own x && (x == y || (d == 0 && x == .hbm0 && y == .sys)) then some x else none
  | _, _ => none

/-- The KIND under which a range is refused to a channel, if any: the system region, the staging region (R370). -/
def State.tierKind (s : State) (ch a n : Nat) : Option Nat :=
  if ch = 1 ∧ a < 0x3800000000 ∧ sysBase < a + n then some 3
  else if s.staging ∧ a < ddrBase + 0x10000000 ∧ ddrBase < a + n then some 5
  else none

/-- The cause for which a START is refused, with the fence's KIND and address where it is the fence (R367, R378). -/
def State.tierCause (s : State) (d ch src dst n : Nat) : Option (Nat × Option (Nat × Nat)) :=
  let meets := fun (a b : Nat) => decide (a < b + n) && decide (b < a + n)
  if meets src dst || s.lks.tiers.any (fun t => t.active && ((decide (src < t.dst + t.len) && decide (t.dst < src + n))
      || (decide (dst < t.dst + t.len) && decide (t.dst < dst + n)))) && !(s.tier d ch).active then some (1, none)
  else if n = 0 then (if src % 4096 ≠ 0 ∨ dst % 4096 ≠ 0 then some (4, none) else if (s.tier d ch).active then some (5, none) else none)
  else if (s.tierRange d src n).isNone ∨ (s.tierRange d dst n).isNone then some (2, none)
  else
    match s.tierKind ch src n, s.tierKind ch dst n with
    | some k, _ => some (3, some (k, src))
    | none, some k => some (3, some (k, dst))
    | none, none =>
      if src % 4096 ≠ 0 ∨ dst % 4096 ≠ 0 then some (4, none)
      else if (s.tier d ch).active then some (5, none)
      else none

/-- Start a channel's descriptor, or refuse it with its cause (R367). -/
def State.tierStart (s : State) (d ch : Nat) : State :=
  let src := s.rd64 (LKS_TIER_SRC_LO d ch) (LKS_TIER_SRC_HI d ch)
  let dst := s.rd64 (LKS_TIER_DST_LO d ch) (LKS_TIER_DST_HI d ch)
  let n := 4096 * s.get (LKS_TIER_LEN_LEN d ch)
  let s := s.clear (LKS_TIER_CTRL_START d ch)
  match s.tierCause d ch src dst n with
  | some (cause, hit) =>
    let s := match hit with
      | some (k, a) => s.fenceHit (.tier d ch) k a
      | none => s
    s.tierShow d ch 6 cause
  | none =>
    let s := match s.memOf src with | some m => s.wakeMem m | none => s
    let s := match s.memOf dst with | some m => s.wakeMem m | none => s
    ((s.setTier d ch ⟨true, src, dst, n, []⟩).set (LKS_TIER_STATUS_DONE_4K d ch) 0).tierShow d ch 1 0

/-- TIER_START (R367): channel 0 is Tack firmware's; a host write to it is ignored and recorded. -/
def execTierStart (d : Fin 2) (ch : Fin 2) (byTack : Bool) (s : State) : Res := s.on fun s =>
  if !s.dieOk d || (byTack && ch.val == 1) then .next s
  else if ch.val == 0 && !byTack then .next (s.tackOwned (LKS_TIER_CTRL d ch) 1)
  else .next (s.tierStart d ch)

/-- A channel's copy stops; its destination is undefined and free again (R368). -/
def State.tierAbort (s : State) (d ch : Nat) : State :=
  let t := s.tier d ch
  let s := s.clear (LKS_TIER_CTRL_ABORT d ch)
  if t.active then ((s.setTier d ch {}).memLose t.dst t.len).tierShow d ch 5 0 else s

/-- TIER_ABORT (R368). -/
def execTierAbort (d : Fin 2) (ch : Fin 2) (byTack : Bool) (s : State) : Res := s.on fun s =>
  if !s.dieOk d || (byTack && ch.val == 1) then .next s
  else if ch.val == 0 && !byTack then .next (s.tackOwned (LKS_TIER_CTRL d ch) 2)
  else .next (s.tierAbort d ch)

/-- TIER_COPY_COMPLETE (R368): the copy ends after any recopy. `again` says whether a chunk was written again
during the recopy. Chunks written during the copy are stale without DIRTY_RETRY: their copies are undefined. -/
def execTierCopyComplete (d : Fin 2) (ch : Fin 2) (again : Bool) (s : State) : Res := s.on fun s =>
  let t := s.tier d ch
  if !t.active || s.moving t.src t.len || s.moving t.dst t.len then .next s
  else
    let bad := s.poisoned t.src t.len && 0 < t.len
    let retry := s.isSet (LKS_TIER_CTRL_DIRTY_RETRY d ch)
    let s := ((s.setTier d ch {}).memCopy t.src t.dst t.len).set (LKS_TIER_STATUS_DONE_4K d ch) (t.len / 4096)
    if retry && again && t.dirty != [] then .next ((s.memLose t.dst t.len).tierShow d ch 4 0)
    else
      let s := if retry then s else forL t.dirty (fun k u => u.memLose (t.dst + 4096 * k) 4096) s
      .next (if bad then s.tierShow d ch 7 6 else s.tierShow d ch 3 0)

/-! ### BAR2 (R379, R380) -/

/-- A DDR5 socket is fenced while kind 5 repairs one of its rows (R467). -/
def State.hpprFenced (s : State) (m : LMem) : Bool :=
  match m with
  | .ddr k => s.get (RMT_KIND_STATE 5) == 3 &&
      (match s.rmt.repairs[s.get (RMT_KIND_TARGET 5)]? with
       | some r => r.unit == k
       | none => false)
  | _ => false

/-- An access to BAR2 (R125, R366, R371, R379, R380): a read of n bytes, or a write, at an offset. What is unmapped or
refused reads 0 and drops the write. -/
def State.bar2 (s : State) (off n : Nat) (data : Option (List Byte)) : State :=
  if s.dies = 0 then (if data.isSome then s else s.emit (.bar2 off (zeros n)))
  else
    let len := match data with | some l => l.length | none => n
    let w := off / 2 ^ 34 % 4
    let a := s.get (LKS_BAR2_WIN_BASE w) * 2 ^ 34 + off % 2 ^ 34
    let none_ := fun (t : State) => if data.isSome then t else t.emit (.bar2 off (zeros len))
    match (if s.isSet (LKS_BAR2_WIN_EN w) then s.memSpan a len else none) with
    | none => none_ (s.raiseBit LKS_BAR2_STATUS_UNMAPPED 246)
    | some m =>
      let s := s.wakeMem m
      match s.refusedAt .bar2 m a len with
      | some k => none_ (s.fenceHit .bar2 k a)
      | none =>
        if s.hpprFenced m then none_ s
        else
          match data with
          | some l => s.memPut a l
          | none => s.emit (.bar2 off (s.memBytes a len))

end Sys2Proof.Machine
end

