-- ==== Sys2Proof/Machine/LksTrain.lean ====
section
/-! DEFINITION. Training the forecaster and its weights (R396 to R401), fleet training on the bulk channel
(R337, R402 to R405). -/

namespace Sys2Proof.Machine

/-! ### Weight slots (R396, R400) -/

/-- The address of a weight slot: 0 LIVE, 1 PREVIOUS, 2 CANDIDATE, 64 MiB each. -/
def slotBase (k : Nat) : Nat := sysBase + 0x10000000 + 0x4000000 * k
def slotSize : Nat := 0x4000000

/-- Exchange n bytes at two places that do not overlap: contents, undefined ranges, poison. -/
def State.memSwap (s : State) (a b n : Nat) : State :=
  let mv := fun (x : Nat) => if a ≤ x ∧ x < a + n then b + (x - a) else if b ≤ x ∧ x < b + n then a + (x - b) else x
  let und := (s.lks.undef.filter fun u => (u.1 < a + n && a < u.1 + u.2.1) || (u.1 < b + n && b < u.1 + u.2.1)).map fun (p, l, e, q) =>
    let lo := if p < a + n ∧ a < p + l then max p a else max p b
    let hi := if p < a + n ∧ a < p + l then min (p + l) (a + n) else min (p + l) (b + n)
    ((mv lo, hi - lo, e, q + (lo - p)) : Undef)
  { s with
    mem := s.mem.foldl (fun m x => sparseWrite blankByte m (mv x.1) x.2) [],
    lks := { s.lks with undef := cutUndef (cutUndef s.lks.undef a n) b n ++ und,
                        poison := s.lks.poison.map fun p => mv (64 * p) / 64 } }

/-- Write weights into a slot. -/
def State.slotPut (s : State) (k : Nat) (l : List Byte) : State := s.memPut (slotBase k) (l.take slotSize)

/-- Change the training record. -/
def State.setTrain (s : State) (t : LTrain) : State := { s with lks := { s.lks with train := t } }

/-- GEN of LIVE and of CANDIDATE (R407). -/
def State.showGen (s : State) : State :=
  (s.set LKS_TRAIN_GEN_LIVE s.lks.train.live.gen).set LKS_TRAIN_GEN_CAND s.lks.train.candidate.gen

/-- Set RESULT, with JUDGED (R399, R409). -/
def State.result (s : State) (r : Nat) : State := (s.set LKS_TRAIN_STATUS_RESULT r).raiseBit LKS_TRAIN_STATUS_JUDGED 252

/-- LIVE has changed (R400): PROMOTED, and the partition reloads, with the MODEL streams paused. -/
def State.liveChanged (s : State) : State :=
  let s := s.setTrain { s.lks.train with reload := true }
  let s := { s with fcst := { s.fcst with model := false } }
  ((s.raiseBit LKS_TRAIN_STATUS_PROMOTED 252).showGen).showTrain

/-- LIVE to PREVIOUS, CANDIDATE to LIVE (R400). -/
def State.promoteNow (s : State) : State :=
  let t := s.lks.train
  let s := (s.memCopy (slotBase 0) (slotBase 1) slotSize).memCopy (slotBase 2) (slotBase 0) slotSize
  (s.setTrain { t with previous := t.live, live := t.candidate }).liveChanged

/-- The module has a forecaster that trains (R3, R398). -/
def State.canTrain (s : State) : Bool := s.dies != 0

/-- PROMOTE (R400): of a passed candidate, or of any under FORCE; an empty CANDIDATE is refused. -/
def State.promote (s : State) : State :=
  let s := s.clear LKS_TRAIN_CTRL_PROMOTE
  if !s.canTrain then s
  else if !s.lks.train.candidate.present then s.result 4
  else if s.get LKS_TRAIN_STATUS_RESULT = 1 ∨ s.isSet LKS_TRAIN_CTRL_FORCE then s.promoteNow
  else s

def execPromote (s : State) : Res := s.on fun s => .next s.promote

/-- REVERT (R400): LIVE and PREVIOUS are exchanged; an empty PREVIOUS is refused. -/
def State.revert (s : State) : State :=
  let s := s.clear LKS_TRAIN_CTRL_REVERT
  if !s.canTrain then s
  else if !s.lks.train.previous.present then s.result 4
  else
    let t := s.lks.train
    ((s.memSwap (slotBase 0) (slotBase 1) slotSize).setTrain { t with live := t.previous, previous := t.live }).liveChanged

def execRevert (s : State) : Res := s.on fun s => .next s.revert

/-! ### Export and install (R401) -/

/-- XFER (R407). -/
def State.xfer (s : State) : Nat := s.rd64 LKS_TRAIN_XFER_LO LKS_TRAIN_XFER_HI

/-- Whether n bytes at XFER lie in host-visible HBM4 or DDR5, 4 KiB-aligned (R401, R407). -/
def State.xferOk (s : State) (n : Nat) : Bool :=
  s.xfer % 4096 == 0 && (match s.memSpan s.xfer n with
    | some (.sram _ _) => false
    | some m => (s.refusedAt .bar2 m s.xfer n).isNone
    | none => false)

/-- Start an EXPORT; without LIVE weights or with an XFER outside HBM4 and DDR5 it is refused. -/
def State.exportStart (s : State) : State :=
  let t := s.lks.train
  if !t.live.present || !s.xferOk (64 + t.live.len) then (s.clear LKS_TRAIN_CTRL_EXPORT).result 4
  else (s.setTrain { t with exporting := true, xferAt := s.xfer }).showTrain

/-- The first 60 bytes of a blob's header (R401). -/
def blobHead (model len gen : Nat) : List Byte :=
  [0x42#8, 0x52#8, 0x58#8, 0x57#8] ++ leBytes 2 1 ++ zeros 2 ++ leBytes 4 model ++ leBytes 4 len ++ leBytes 4 gen ++ zeros 40

/-- WEIGHT_EXPORT_COMPLETE: the blob stands at XFER, EXPORT clears, TRANSFERRED is set (R401). -/
def execWeightExportComplete (s : State) : Res := s.on fun s =>
  let t := s.lks.train
  if !t.exporting then .next s
  else
    let head := blobHead t.modelId t.live.len t.live.gen
    let crc := crc32c (head ++ s.memBytes (slotBase 0) t.live.len)
    let s := (s.memPut t.xferAt (head ++ leBytes 4 crc.toNat)).memCopy (slotBase 0) (t.xferAt + 64) t.live.len
    let s := s.setTrain { t with exporting := false }
    .next (((s.clear LKS_TRAIN_CTRL_EXPORT).raiseBit LKS_TRAIN_STATUS_TRANSFERRED 252).showTrain)

/-- Whether a blob of the runtime's model stands at XFER (R401). -/
def State.blobOk (s : State) : Bool :=
  let x := s.xfer
  let len := s.memNat (x + 12) 4
  s.xferOk 64 && decide (len ≤ slotSize - 64) && s.xferOk (64 + len)
    && s.memBytes x 8 == [0x42#8, 0x52#8, 0x58#8, 0x57#8, 1#8, 0#8, 0#8, 0#8] && s.memBytes (x + 20) 40 == zeros 40
    && (crc32c (s.memBytes x 60 ++ s.memBytes (x + 64) len)).toNat == s.memNat (x + 60) 4
    && s.memNat (x + 8) 4 == s.lks.train.modelId

/-- Take a blob into CANDIDATE for evaluation, or refuse it. -/
def State.installStart (s : State) : State :=
  if !s.blobOk then (s.clear LKS_TRAIN_CTRL_INSTALL).result 4
  else
    let len := s.memNat (s.xfer + 12) 4
    let gen := s.memNat (s.xfer + 16) 4
    let s := s.memCopy (s.xfer + 64) (slotBase 2) len
    ((s.setTrain { s.lks.train with candidate := ⟨true, gen, len⟩, evaluating := true }).showGen).showTrain

/-- An EXPORT or INSTALL request runs at once, or waits for the burst's end (R401). -/
def State.transfer (s : State) (kind : Nat) : State :=
  if !s.canTrain then s
  else if s.lks.train.burst then s.setTrain { s.lks.train with pend := addOnce s.lks.train.pend kind }
  else if kind = 1 then (if s.lks.train.exporting then s else s.exportStart)
  else (if s.lks.train.evaluating then s else s.installStart)

/-- EXPORT (R401). -/
def execExport (s : State) : Res := s.on fun s => .next ((if s.canTrain then s.set LKS_TRAIN_CTRL_EXPORT 1 else s).transfer 1)

/-- INSTALL (R401). -/
def execInstall (s : State) : Res := s.on fun s => .next ((if s.canTrain then s.set LKS_TRAIN_CTRL_INSTALL 1 else s).transfer 2)

/-! ### Bursts and judgement (R398, R399) -/

/-- TRAINING_BURST_START (R398): at each period, on the cores that are free; a burst not finished continues. -/
def execTrainingBurstStart (s : State) : Res := s.on fun s =>
  if !s.canTrain || !s.isSet LKS_TRAIN_CTRL_TRAIN_EN || !s.isSet SYS_CAPS_FCST_TRAIN || s.lks.train.burst then .next s
  else .next (s.setTrain { s.lks.train with burst := true }).burstGrow

/-- A burst ends: its cores are free again, and the transfers that waited run. -/
def State.burstEnd (s : State) : State :=
  let t := s.lks.train
  let s := s.setTrain { t with burst := false, cores := [], pend := [] }
  let s := forL t.cores (fun c u => (u.coreDone c.1 c.2)) s
  let s := if t.burst then forN s.dies (fun d u => u.dieRun d) s else s
  forL t.pend (fun k u => u.transfer k) s

/-- Whether a candidate passes the bounds of R399, or which bound fails. -/
def State.verdict (s : State) (live cand cover : Nat) : Nat :=
  if live * s.get LKS_TRAIN_BOUND_ACCEPT_PCT < 100 * cand then 2
  else if s.get LKS_TRAIN_BOUND_COVER_MAX < cover then 3
  else 1

/-- The weights that an evaluation brings go to CANDIDATE. -/
def State.candidatePut (s : State) (l : List Byte) (gen : Nat) : State :=
  (s.slotPut 2 l).setTrain { s.lks.train with candidate := { present := true, gen := gen, len := min l.length slotSize } }

/-- The evaluation of an installed blob ends: INSTALL clears, TRANSFERRED is set (R401). -/
def State.installEnd (s : State) : State :=
  if s.lks.train.evaluating then
    ((s.setTrain { s.lks.train with evaluating := false }).clear LKS_TRAIN_CTRL_INSTALL).raiseBit LKS_TRAIN_STATUS_TRANSFERRED 252
  else s

/-- CANDIDATE_JUDGED (R398 to R401): the evaluation of a burst, of an installed blob or of a fleet average ends. -/
def execCandidateJudged (i : JudgeIn) (s : State) : Res := s.on fun s =>
  if !s.canTrain || !(i.body.isSome || s.lks.train.candidate.present) then .next s
  else
    let s := match i.body with
      | some l => s.candidatePut l i.gen.val
      | none => s
    let s := (s.showGen.set LKS_TRAIN_MAE_LIVE i.maeLive.val).set LKS_TRAIN_MAE_CAND i.maeCand.val
    let r := s.verdict i.maeLive.val i.maeCand.val i.coverCand.val
    let s := (s.result r).installEnd
    let s := if r = 1 ∧ s.isSet LKS_TRAIN_CTRL_AUTO_PROMOTE then s.promoteNow else s
    .next s.burstEnd.showTrain

/-- FORECAST_RELOAD_COMPLETE (R372, R400): the partition holds LIVE again, with every one of its cores in order;
MODEL streams resume and 0x0707 clears. -/
def execForecastReloadComplete (s : State) : Res := s.on fun s =>
  if !s.canTrain || !s.lks.train.live.present || (List.range 16).any (fun c => s.coreSt 0 c == cFailed) then .next s
  else
    let s := s.setTrain { s.lks.train with reload := false }
    .next ({ s with fcst := { s.fcst with model := true } }.unraise 0x0707 0).showTrain

/-! ### Fleet rounds (R402 to R405) -/

/-- The members, ascending (R402). -/
def State.fleetMembers (s : State) : List Nat :=
  (List.range 512).filter fun i => (s.rdN (LKS_FLEET_MEMBERS (i / 32))).testBit (i % 32)

/-- The bulk conditions of R337. -/
def State.bulkOn (s : State) : Bool :=
  s.isSet FAB_CTRL_BULK_EN && s.profileAt 0x8005 4 2 0 != 0 && s.timeHeld && !s.isSet CLK_STATUS_HOLD

/-- The conditions of R402. -/
def State.fleetOn (s : State) : Bool :=
  s.canTrain && s.isSet LKS_FLEET_CTRL_JOIN && decide (s.shelfId ∈ s.fleetMembers) && s.isSet LKS_TRAIN_CTRL_TRAIN_EN
    && s.isSet SYS_CAPS_FCST_TRAIN && s.bulkOn

/-- Show ACTIVE and MEMBERS (R409). -/
def State.showFleet (s : State) : State :=
  if !s.canTrain then s
  else (s.setB LKS_FLEET_STATUS_ACTIVE s.fleetOn).set LKS_FLEET_STATUS_MEMBERS s.fleetMembers.length

/-- Elements in a chunk (R403). -/
def chunkSize : Nat := 2048

/-- Cut a list into n segments of k elements. -/
def segments (n k : Nat) (l : List Word) : List (List Word) := (List.range n).map fun i => (l.drop (k * i)).take k

/-- Chunks in a segment. -/
def LDir.chunks (d : LDir) : Nat := ((d.data.headD []).length + chunkSize - 1) / chunkSize

/-- A direction of a round at its start. -/
def LDir.begin (own : List Word) (count n : Nat) : LDir :=
  let k := (own.length + n - 1) / n
  let segs := segments n k own
  { data := segs, counts := segs.map fun _ => List.replicate ((k + chunkSize - 1) / chunkSize) count, phase := if n ≤ 1 then 2 else 0 }

/-- The segment that member r of n sends at a step of a phase, forward or backward (R402, R403). -/
def sendSeg (back : Bool) (n r phase step : Nat) : Nat :=
  if back then (if phase = 0 then (r + step) % n else (r + n - 1 + step) % n)
  else (if phase = 0 then (r + 2 * n - step) % n else (r + 1 + 2 * n - step) % n)

/-- The segment that it receives there: the one its predecessor sends. -/
def recvSeg (back : Bool) (n r phase step : Nat) : Nat :=
  sendSeg back n (if back then (r + 1) % n else (r + n - 1) % n) phase step

/-- One chunk of a segment. -/
def chunkOf (l : List Word) (c : Nat) : List Word := (l.drop (chunkSize * c)).take chunkSize

/-- Replace one chunk of a segment. -/
def putChunk (l : List Word) (c : Nat) (x : List Word) : List Word :=
  l.take (chunkSize * c) ++ (x ++ zeros32 (chunkOf l c).length).take (chunkOf l c).length ++ l.drop (chunkSize * (c + 1))
where zeros32 (n : Nat) : List Word := List.replicate n 0

/-- An FP32 sum, rounded to nearest even. -/
def fp32Add (a b : Word) : Word :=
  BitVec.ofNat 32 (encodeVal .fp32 .rne false 0 (addVal (decodeVal .fp32 a.toNat) (decodeVal .fp32 b.toNat)).1).1

/-- An FP32 sum divided by its COUNT; by 0 it is a free value (log 2). -/
def fp32Avg (w : Word) (n : Nat) : Word :=
  if n = 0 then BitVec.ofInt 32 (Config.quotByZero w.toNat)
  else match decodeVal .fp32 w.toNat with
    | .fin neg q => BitVec.ofNat 32 (encodeVal .fp32 .rne false 0 (.fin neg (q / n))).1
    | _ => w

/-- Use the chunk of a phase and step: summed in reduce-scatter, taken in all-gather. A chunk that has not
arrived leaves the member's own; the answer says so (R405). -/
def LDir.use (d : LDir) (back : Bool) (n r phase step c : Nat) : LDir × Bool :=
  let g := recvSeg back n r phase step
  let seg := d.data.getD g []
  match d.inbox.find? fun x => x.1 == phase && x.2.1 == step && x.2.2.1 == c with
  | none => (d, true)
  | some (_, _, _, cnt, words) =>
    let cur := chunkOf seg c
    let new := if phase = 0 then (cur.zip (words ++ List.replicate cur.length 0)).map fun x => fp32Add x.1 x.2 else words
    let cnt := if phase = 0 then ((d.counts.getD g []).getD c 0) + cnt else cnt
    ({ d with data := d.data.set g (putChunk seg c new), counts := modAt d.counts g fun (l : List Nat) => l.set c cnt,
              inbox := d.inbox.filter fun x => !(x.1 == phase && x.2.1 == step && x.2.2.1 == c) }, false)

/-- The chunk received a step before, used as the schedule reaches it. -/
def LDir.absorb (d : LDir) (back : Bool) (n r : Nat) : LDir × Bool :=
  if d.phase = 0 then (if d.step = 0 then (d, false) else d.use back n r 0 (d.step - 1) d.chunk)
  else if d.step = 0 then d.use back n r 0 (n - 2) d.chunk
  else d.use back n r 1 (d.step - 1) d.chunk

/-- The last step's chunks, used when the schedule has ended. -/
def LDir.close (d : LDir) (back : Bool) (n r : Nat) : LDir × Bool :=
  if n ≤ 1 then (d, false)
  else (List.range d.chunks).foldl (fun x c => let (e, m) := x.1.use back n r 1 (n - 2) c; (e, x.2 || m)) (d, false)

/-- The place in the schedule after one chunk. -/
def LDir.advance (d : LDir) (n : Nat) : LDir :=
  if d.chunk + 1 < d.chunks then { d with chunk := d.chunk + 1 }
  else if d.step + 2 < n then { d with chunk := 0, step := d.step + 1 }
  else { d with chunk := 0, step := 0, phase := d.phase + 1 }

/-- The average that a direction ends with, over its elements. -/
def LDir.average (d : LDir) : List Word :=
  ((List.range d.data.length).map fun g =>
    let seg := d.data.getD g []
    (List.range seg.length).map fun e => fp32Avg (seg.getD e 0) ((d.counts.getD g []).getD (e / chunkSize) 0)).flatten

/-- Change the fleet record. -/
def State.setFleet (s : State) (f : LFleet) : State := { s with lks := { s.lks with fleet := f } }

/-- The round ends: the averaged update goes to CANDIDATE, to be judged under R399 (R405). -/
def State.fleetEnd (s : State) : State :=
  let f := s.lks.fleet
  let l := (f.dirs.map (·.average)).flatten
  let alone := 1 < s.fleetMembers.length && f.dirs.any fun d => !d.heard
  let s := s.setFleet { f with running := false, dirs := [{}, {}] }
  let s := (s.slotPut 2 (l.map fun w => leBytes 4 w.toNat).flatten).wrN LKS_FLEET_ROUND f.round
  let s := onlyIf alone (·.raiseBit LKS_FLEET_STATUS_ALONE 253) s
  (s.setTrain { s.lks.train with candidate := ⟨true, s.lks.train.candidate.gen, min (4 * l.length) slotSize⟩ }).showGen

/-- FLEET_ROUND_START (R402): round k at frame k × ROUND_FRAMES; the update is a vector of FP32 elements with
the number of contributions in it. -/
def execFleetRoundStart (own : List Word) (count : Fin 513) (s : State) : Res := s.on fun s =>
  let s := s.showFleet
  if !s.fleetOn || s.get LKS_FLEET_CTRL_ROUND_FRAMES == 0 || s.frame % s.get LKS_FLEET_CTRL_ROUND_FRAMES != 0 then .next s
  else
    let n := s.fleetMembers.length
    let half := (own.length + 1) / 2
    let s := s.setFleet { round := s.frame / s.get LKS_FLEET_CTRL_ROUND_FRAMES, running := true,
                          dirs := [LDir.begin (own.take half) count n, LDir.begin (own.drop half) count n] }
    .next (if n ≤ 1 then s.fleetEnd else s)

/-! ### The bulk window (R337, R404) -/

/-- Bytes of a bulk frame on the wire: addresses, tag, EtherType, FCS, preamble and gap. -/
def bulkWire (body : List Byte) : Nat := 14 + 4 + 16 + body.length + 4 + 20

/-- The payload of a chunk with its bulk header (R404). -/
def bulkBody (round model count : Nat) (l : List Word) : List Byte :=
  let pay := (l.map fun w => leBytes 4 w.toNat).flatten
  leBytes 4 round ++ leBytes 4 model ++ leBytes 2 count ++ leBytes 2 pay.length ++ leBytes 4 (crc32c pay).toNat ++ pay

/-- One direction's turn in a bulk window: use the chunk due, send the next one, advance (R403 to R405). -/
def State.fleetTurn (back : Bool) (s : State) : State :=
  let f := s.lks.fleet
  let k := back.toNat
  let d := f.dirs.getD k {}
  let n := s.fleetMembers.length
  let r := s.fleetMembers.findIdx (· == s.shelfId)
  if !f.running || 2 ≤ d.phase then s
  else
    let (d, miss) := d.absorb back n r
    let g := sendSeg back n r d.phase d.step
    let seq := 2 ^ 31 * d.phase + 2 ^ 30 * k + 2 ^ 21 * d.step + d.chunk
    let peer := s.fleetMembers.getD (if back then (r + n - 1) % n else (r + 1) % n) 0
    let b : BulkOut := ⟨k, peer, seq, bulkBody f.round s.lks.train.modelId ((d.counts.getD g []).getD d.chunk 0)
      (chunkOf (d.data.getD g []) d.chunk)⟩
    let s := s.setFleet { f with dirs := f.dirs.set k (d.advance n) }
    let s := { s with fab := { s.fab with bulk := s.fab.bulk ++ [b] } }
    onlyIf miss (·.raiseBit LKS_FLEET_STATUS_PARTIAL 253) s

/-- Send the waiting bulk frames of a path within BUDGET and the window; the rest is deferred (R337). -/
def State.bulkSend (p : Nat) : List BulkOut → Nat → State → State
  | [], _, s => s
  | b :: t, left, s =>
    if b.path ≠ p then State.bulkSend p t left s
    else if bulkWire b.body ≤ left then
      let s := s.emit (.fabric p (s.ether (s.unicast b.dest) (s.profileAt 0x8005 7 1 0) (s.fabHeader 0x10 p b.seq ++ b.body)))
      let s := { s with fab := { s.fab with bulk := s.fab.bulk.filter (· != b) } }
      State.bulkSend p t (left - bulkWire b.body) (s.bumpWrap FAB_BULK_STATUS_SENT)
    else State.bulkSend p t 0 (s.bumpSat FAB_BULK_STATUS_DEFERRED 1)

/-- Every direction has run its schedule. -/
def State.fleetDone (s : State) : Bool := s.lks.fleet.running && s.lks.fleet.dirs.all fun d => 2 ≤ d.phase

/-- The chunks of the last step, then the round's end. -/
def State.fleetClose (s : State) : State :=
  let f := s.lks.fleet
  let n := s.fleetMembers.length
  let r := s.fleetMembers.findIdx (· == s.shelfId)
  let x := (f.dirs.getD 0 {}).close false n r
  let y := (f.dirs.getD 1 {}).close true n r
  let s := s.setFleet { f with dirs := [x.1, y.1] }
  (onlyIf (x.2 || y.2) (·.raiseBit LKS_FLEET_STATUS_PARTIAL 253) s).fleetEnd

/-- BULK_WINDOW (R337, R403, R405): a running round moves by one chunk in each direction, and waiting frames go
out. A round ends at once when a condition of R402 fails, with PARTIAL where TIME_HELD is lost. -/
def execBulkWindow (s : State) : Res := s.on fun s =>
  let s := s.showFleet
  if s.lks.fleet.running && !s.fleetOn then
    .next (onlyIf (!s.timeHeld) (·.raiseBit LKS_FLEET_STATUS_PARTIAL 253)
      (s.setFleet { s.lks.fleet with running := false, dirs := [{}, {}] }))
  else
    let s := if s.fleetDone then s.fleetClose else (s.fleetTurn false).fleetTurn true
    if !s.bulkOn then .next s
    else
      let budget := min (s.get FAB_BULK_CFG_BUDGET) 15625
      .next (forN 2 (fun p t => if bitOf (t.get FAB_BULK_CFG_PATHS) p && t.canSend p then State.bulkSend p t.fab.bulk budget t else t) s)

/-- BULK_FRAME_RECEIVED (R311, R334, R404, R405): of this hall, on a path in use; a chunk of this round and model joins the inbox of
its direction. -/
def execBulkFrameReceived (i : BulkIn) (s : State) : Res := s.on fun s =>
  let f := s.lks.fleet
  if !s.pathOn i.path.val then .next s
  else if i.hall.val ≠ s.hallId then .next (s.bumpSat FAB_LATE_CNT_OTHER 1)
  else if !s.canTrain then .next s
  else if !f.running || i.round.toNat != f.round % 2 ^ 32 || i.model.toNat != s.lks.train.modelId || !i.crcOk then
    .next (s.satReg LKS_FLEET_DISCARD 1)
  else
    let add := fun (d : LDir) => { d with
      inbox := d.inbox ++ [(i.phase.toNat, i.step.val, i.chunk, i.count.val, i.words)], heard := true }
    .next (s.setFleet { f with dirs := modAt f.dirs i.dir.toNat add })

end Sys2Proof.Machine
end

