-- ==== Sys2Proof/Machine/Bridle.lean ====
section
/-! DEFINITION. Bridle's commands: its own detectors (R415), feedback (R47), contactor openings and closes
(R25, R413, R507, R508), the watchdog (R420), recovery (R421 to R423), soft start (R427), cooling (R428 to
R430, R509), and host loss (R431). -/

namespace Sys2Proof.Machine

/-! ### Detectors (R415) -/

/-- BUS_OVER_VOLTAGE (R415): VBUS in 10 mV, held for 1 µs. -/
def execBusOverVoltage (vbus : Nat) (s : State) : Res := s.on fun s =>
  if s.get BRD_BUS_LIM_BUS_OV ≤ vbus then .next (s.raise 0x0101 0 vbus (s.get BRD_BUS_LIM_BUS_OV)) else .next s

/-- BUS_UNDER_VOLTAGE (R415): VBUS in 10 mV, held for 200 µs in ARMED or DERATED. -/
def execBusUnderVoltage (vbus : Nat) (s : State) : Res := s.on fun s =>
  if s.inService && decide (vbus < s.get BRD_BUS_LIM_BUS_UV) then .next (s.raise 0x0102 0 vbus (s.get BRD_BUS_LIM_BUS_UV))
  else .next s

/-- STRING_OVER_VOLTAGE (R415): VSTR in 0.1 V, held for 100 µs. -/
def execStringOverVoltage (x : StrNo) (v : Nat) (s : State) : Res := s.on fun s =>
  if s.get BRD_STR_LIM_STR_OV < v then .next (s.raise 0x0401 x.val v (s.get BRD_STR_LIM_STR_OV)) else .next s

/-- CONT_x_FB. -/
def State.contFb (s : State) (x : Nat) : Bool := bitOf (s.get SYS_CONN_STATUS_CONT_FB) x

/-- STRING_UNDER_VOLTAGE (R415): VSTR in 0.1 V, held for 100 µs with CONT_x_FB high. -/
def execStringUnderVoltage (x : StrNo) (v : Nat) (s : State) : Res := s.on fun s =>
  if s.contFb x.val && decide (v < s.get BRD_STR_LIM_STR_UV) then .next (s.raise 0x0402 x.val v (s.get BRD_STR_LIM_STR_UV))
  else .next s

/-- The limit and the measurement of temperature sensor k: Harness, Tack, board, plate (R415, R434). -/
def tempLim (k : Nat) : Field :=
  [BRD_TEMP_LIM_HRN_TRIP, BRD_TEMP_LIM_TACK_TRIP, BRD_TEMP_LIM_BOARD_TRIP, BRD_TEMP_LIM_PLATE_TRIP].getD k BRD_TEMP_LIM_PLATE_TRIP
def tempNow (k : Nat) : Field :=
  [BRD_TEMP_HRN, BRD_TEMP_TACK, BRD_TEMP_BOARD, BRD_TEMP_PLATE].getD k BRD_TEMP_PLATE

/-- TEMPERATURE_TRIP (R415): the sensor, and its reading in °C averaged over 10 ms. -/
def execTemperatureTrip (k : Fin 4) (t : Fin 256) (s : State) : Res := s.on fun s =>
  let s := s.set (tempNow k.val) t.val
  if s.get (tempLim k.val) < t.val then .next (s.raise (0x0506 + k.val) 0 t.val (s.get (tempLim k.val))) else .next s

/-- The measured value is within the threshold of the code, as its detector takes it (R415): VBUS or VNODE in 10 mV, VSTR in
0.1 V, a temperature in °C; 0x0103 where nothing has latched (log 28). -/
def State.within (s : State) (code v : Nat) : Bool :=
  if code = 0x0101 then decide (v < s.get BRD_BUS_LIM_BUS_OV)
  else if code = 0x0102 then decide (s.get BRD_BUS_LIM_BUS_UV ≤ v)
  else if code = 0x0401 then decide (v ≤ s.get BRD_STR_LIM_STR_OV)
  else if code = 0x0402 then decide (s.get BRD_STR_LIM_STR_UV ≤ v)
  else if 0x0506 ≤ code ∧ code ≤ 0x0509 then decide (v ≤ s.get (tempLim (code - 0x0506)))
  else code == 0x0103 && !s.isSet HRN_OV_CTRL_LATCHED && !s.hrn.ovOpen && decide (v < s.get HRN_OV_CFG_OV_THRESH)

/-- FAULT_CONDITION_CLEAR (R415): a measured value returns within the threshold in effect, and the code clears, without persistence
or hysteresis. -/
def execFaultConditionClear (code : Fin 65536) (idx : Fin 256) (v : Nat) (s : State) : Res := s.on fun s =>
  let s := if 0x0506 ≤ code.val ∧ code.val ≤ 0x0509 then s.set (tempNow (code.val - 0x0506)) (min v 255) else s
  .next (if s.within code.val v then s.unraise code.val idx.val else s)

/-- FEEDBACK_MISMATCH (R47, R415, R417): a limit missed, or a change with the enable steady, which
SYS_CONN_CHG records too (R66). -/
def execFeedbackMismatch (k : FbKind) (s : State) : Res := s.on fun s =>
  match k with
  | .notOpen w =>
    if !s.enOf w.val && s.fbOf w.val then .next (s.raise (if w.val = 2 then 0x0104 else 0x0106) (w.val % 2) 1 0) else .next s
  | .notClosed w =>
    if s.enOf w.val && !s.fbOf w.val then
      let s := { s with brd := { s.brd with returning := s.brd.returning.filter (· != w.val) } }
      .next (s.raise (if w.val = 2 then 0x0105 else 0x0107) (w.val % 2) 0 0)
    else .next s
  | .changed w =>
    let v := !s.fbOf w.val
    if v = s.enOf w.val then .next s
    else .next ((s.conn (if w.val = 2 then 20 else 18 + w.val) v).raise 0x0108 (if w.val = 2 then 3 else w.val) v.toNat 0)

/-! ### Contactors (R25, R413, R507, R508) -/

/-- CONTACTOR_OPEN_LOW_CURRENT (R413, R414): CONT_x_EN of a string whose opening is due falls, with the journal entry
of CAUSE bit 2 (R295). -/
def execContactorOpenLowCurrent (x : StrNo) (s : State) : Res := s.on fun s =>
  if decide (x.val ∈ s.brd.openDue) && !s.isSet HRN_OV_CTRL_LATCHED then
    let s := { s with brd := { s.brd with openDue := s.brd.openDue.filter (· != x.val) },
                      pins := { s.pins with contEn := s.pins.contEn.set x.val false } }
    .next (s.jnlTrigger 2)
  else .next s

/-- A cell trip of string x is active. -/
def State.tripActive (s : State) (x : Nat) : Bool := s.brd.active.any fun c => c.1 == 0x0403 && c.2 / 52 == x

/-- The protection conditions of R508 on the isolation (2) or on a contactor (0, 1). -/
def State.closeBlocked (s : State) (w : Nat) : Bool :=
  s.isSet HRN_OV_CTRL_LATCHED || s.isSet CLK_STATUS_HOLD || s.codeActive 0x0503
    || s.codeActive 0x0506 || s.codeActive 0x0507 || s.codeActive 0x0508 || s.codeActive 0x0509
    || (if w = 2 then s.codeActive 0x0101
        else decide ((0x0401, w) ∈ s.brd.active) || s.tripActive w || s.get (RING_STATUS_MON_LOST w) != 0
          || s.get (RING_STATUS_TOPO w) == 2)

/-- Whether an arming blocker of R508 is active. -/
def State.armBlocked (s : State) : Bool :=
  s.isSet CLK_STATUS_HOLD || s.codeActive 0x0103 || s.brd.active.any fun c => isLevel c.1 && decide (2 ≤ s.classOf c.1 c.2)

/-- The enable of the isolation or of a contactor goes high; EXTEST, CLAMP and HIGHZ hold it low (R63). -/
def State.closeNow (s : State) (w : Nat) : State :=
  if s.tapHolds then s
  else { s with pins := (if w = 2 then { s.pins with isoEn := true } else { s.pins with contEn := s.pins.contEn.set w true }) }

/-- A refused close is recorded (R25): an F0 event 0x0605 whose offset the spec does not state (log 42). -/
def State.refuseClose (s : State) : State :=
  let f := s.fresh
  f.2.refuse (f.1 % 2 ^ 32) 0

/-- FIRMWARE_CLOSE_REQUEST (R25, R508): 0 and 1 the contactors, 2 the isolation. Outside ARMED and DERATED, and in ARMING
before the sequence has asked for the contactors, the power path is held open (R69, R74; log 42). -/
def execFirmwareCloseRequest (w : Fin 3) (s : State) : Res := s.on fun s =>
  if !s.boot.fwRuns then .next s
  else if s.closeBlocked w.val || !(s.inService || (s.shelf == stArming && s.boot.contRequested)) then .next s.refuseClose
  else .next (s.closeNow w.val)

/-- A string held by STR_OUT may return (R507). -/
def State.mayReturn (s : State) (x : Nat) : Bool :=
  s.inService && decide (x ∈ s.brd.strOut) && !s.closeBlocked x
    && (List.range 4).all (fun m => s.monSt x m == 1)
    && (List.range 52).all fun p => !s.isSet (cellBit x p 29) && !s.isSet (cellBit x p 26)

/-- CONT_x_FB has risen for a returning string: the FORCE_SHED that STR_OUT set clears, and its codes (R507). -/
def State.strReturned (s : State) (x : Nat) : State :=
  let s := { s with brd := { s.brd with strOut := s.brd.strOut.filter (· != x), returning := s.brd.returning.filter (· != x) } }
  let s := forL (stringChans x) (fun n t => t.clear (HRN_CH_CTRL_FORCE_SHED n)) s
  let s := forL (s.brd.active.filter fun c => (c.1 == 0x0408 && c.2 / 4 == x) || (c.1 == 0x0409 && c.2 == x))
    (fun c t => t.unraise c.1 c.2) s
  s

/-- STRING_RETURN (R507): the contactor closes, and with its feedback high the string is back. -/
def execStringReturn (x : StrNo) (s : State) : Res := s.on fun s =>
  if decide (x.val ∈ s.brd.returning) && s.contFb x.val then .next (s.strReturned x.val)
  else if s.mayReturn x.val && !decide (x.val ∈ s.brd.openDue) then
    let s := (s.closeNow x.val)
    let s := { s with brd := { s.brd with returning := addOnce s.brd.returning x.val } }
    if s.contFb x.val then .next (s.strReturned x.val) else .next s
  else .next s

/-! ### The watchdog (R415, R420) -/

/-- WATCHDOG_KICK (R415, R420): the watchdog counts from the first kick after BUNDLE reaches LOADED. -/
def execWatchdogKick (s : State) : Res := s.on fun s =>
  if s.boot.fwRuns && s.get BOOT_STATUS_BUNDLE == 4 then .next (s.set BRD_STATUS_WDT_RUN 1) else .next s

/-- Both pump lines released to full speed (R23, R509). -/
def State.pumpsFull (s : State) : State := { s with pins := { s.pins with pumpDuty := [100, 100] } }

/-- WATCHDOG_EXPIRY (R420): the pumps are released, 0x0603, the Tack cores reset; the firmware restarts. -/
def execWatchdogExpiry (s : State) : Res := s.on fun s =>
  if s.isSet BRD_STATUS_WDT_RUN then
    let s := (s.clear BRD_STATUS_WDT_RUN).pumpsFull
    let s := { s with boot := { s.boot with fwRuns := false }, brd := { s.brd with fwRestart := true } }
    .next (s.raise 0x0603 0 (s.get BRD_WDT_CFG_TMO_MS) (s.get BRD_WDT_CFG_TMO_MS))
  else .next s

/-- Every logical Tack core has a physical core; without one the control firmware cannot run (R468). -/
def State.tackWhole (s : State) : Bool := s.rmt.tackMap.all (· < 5)

/-- BUNDLE takes a value; LOADED and REJECTED raise the boot-complete event (R86, R90, R497). -/
def State.bundleTo (s : State) (k : Nat) : State :=
  let s := (s.set BOOT_STATUS_BUNDLE k).showWait
  if k = 4 ∨ k = 5 then s.raiseBit SYS_EVT_BUNDLE_DONE 226 else s

/-- Control firmware starts: it listens for three frames before it sends lead records (R331). -/
def State.fwStart (s : State) : State :=
  { s with boot := { s.boot with fwRuns := s.tackWhole }, brd := { s.brd with fwRestart := false },
           fab := { s.fab with listen := s.frame + 3 } }

/-- FIRMWARE_RESTART_COMPLETE (R420): with the digest check passed the firmware runs again; otherwise LATCHED under
0x0603 at class F3, BUNDLE REJECTED. -/
def execFirmwareRestartComplete (ok : Bool) (s : State) : Res := s.on fun s =>
  if !s.brd.fwRestart then .next s
  else if ok && s.tackWhole then .next s.fwStart
  else
    let s := { s with brd := { s.brd with fwRestart := false } }
    let s := ((s.bundleTo 5).set SEC_SVN_LOADED_SVN 0xFF).logCode 0x0603 0 3 0 0
    .next (s.takeF3 0x0603).showWait.showAck

/-! ### Recovery and soft start (R421, R427) -/

/-- Enter ARMING at the first step of R93, where the attempt waits for its blockers (R93, R508). -/
def State.beginArming (s : State) (rearm : Bool) : State :=
  let s := { s with boot := { s.boot with armStep := 1, contRequested := false, rearm := rearm, retryWait := false },
                    brd := { s.brd with ssWindow := false, ssOff := false } }
  s.enter stArming

/-- HOLDOFF_EXPIRY (R421): the recovery re-arms, unless a DISARM is pending. -/
def execHoldoffExpiry (s : State) : Res := s.on fun s =>
  if s.get BRD_STATUS_RECOV = 1 ∧ s.brd.holdoff.isSome ∧ s.shelf = stIsolated ∧ !s.boot.disarmKept then
    let s := { s with brd := { s.brd with holdoff := none } }.set BRD_STATUS_RECOV 2
    .next (s.beginArming true)
  else .next s

/-- SETTLE_EXPIRY (R421). -/
def execSettleExpiry (s : State) : Res := s.on fun s =>
  if s.get BRD_STATUS_RECOV = 3 ∧ s.inService then .next (s.set BRD_STATUS_RECOV 0).clearCauses else .next s

/-- The precharge step of R93 (R157, R427): the Harness clock runs, BRD_DRV_EN is released but where R43, R44 or R504
holds it, MIN_ACTIVE channels of each string restart. -/
def State.precharge (s : State) : State :=
  let s := { s with pins := { s.pins with drvEn := s.pins.drvHeld.map fun h => !h && !s.tapHolds },
                    boot := { s.boot with armStep := 5 },
                    brd := { s.brd with ssWindow := true, ssOff := false } }.clear BRD_STATUS_FORCING
  s.harnessOn.startMinActive.checkCounts

/-- SOFT_START_OFF_EXPIRY (R427). -/
def execSoftStartOffExpiry (s : State) : Res := s.on fun s =>
  if s.brd.ssOff && s.shelf == stArming then .next s.precharge else .next s

/-- PRECHARGE_NOT_REACHED (R417, R427): VNODE and VBUS in 10 mV. -/
def execPrechargeNotReached (vnode vbus : Nat) (s : State) : Res := s.on fun s =>
  let d : Int := 10 * ((vnode : Int) - vbus)
  if s.shelf = stArming ∧ s.boot.armStep = 5 ∧ !s.brd.ssOff ∧ 1000 < d.natAbs then
    .next ((s.bootErr 0x24 (d % 2 ^ 32).toNat).softAbort 0x010A 0 d 1000)
  else .next s

/-! ### Cooling (R428 to R430, R509) -/

/-- A number of the COOLING record, or its default (R428). -/
def State.cool (s : State) (off n dflt : Nat) : Nat := s.profileAt 0x000C off n dflt

/-- The points of the cooling curve: inlet °C, storage %, Larkspur W (R428). -/
def State.coolPts (s : State) : List (Nat × Nat × Nat) :=
  match s.profileRec 0x000C with
  | some l => (List.range (leAt l 8 1)).map fun i => (leAt l (12 + 4 * i) 1, leAt l (13 + 4 * i) 1, leAt l (14 + 4 * i) 1)
  | none => [(30, 100, 100), (40, 80, 60), (45, 60, 30)]

/-- Linear interpolation of a curve at an inlet temperature, held beyond its ends (R430, log 5). -/
def curveAt (t : Nat) : List (Nat × Nat) → Nat
  | [] => 0
  | [p] => p.2
  | p :: q :: l =>
    if t ≤ p.1 then p.2
    else if t ≤ q.1 then (roundDiv (p.2 * (q.1 - t) + q.2 * (t - p.1) : Nat) (q.1 - p.1)).toNat
    else curveAt t (q :: l)

/-- A code of the cooling curve is active (R430). -/
def State.cooling (s : State) : Bool :=
  s.codeActive 0x0501 || s.codeActive 0x0502 || s.codeActive 0x0504 || s.codeActive 0x0505

/-- LKS_CAP at once: the curve's value, 20 W under 0x0503, 150 W without a derate (R417, R430). -/
def State.showLksCap (s : State) : State :=
  let c := if s.cooling then curveAt (s.get BRD_COOL_T_IN) (s.coolPts.map fun p => (p.1, p.2.2)) else 150
  s.set BRD_COOL_LKS_CAP (if s.codeActive 0x0503 then min c 20 else c)

/-- STOR_PCT one second on: at most 20 % down, 5 % up (R430). -/
def State.showStor (s : State) : State :=
  let want := if s.cooling then curveAt (s.get BRD_COOL_T_IN) (s.coolPts.map fun p => (p.1, p.2.1)) else 100
  let now := s.get BRD_COOL_STOR_PCT
  s.set BRD_COOL_STOR_PCT (if want < now then max want (now - 20) else min want (now + 5))

/-- The duty of the fitted pumps at an outlet temperature (R509). -/
def State.dutyAt (s : State) (tOut : Int) : Nat :=
  let lo := s.cool 9 1 0
  let tLo : Int := s.cool 10 1 0
  let tHi : Int := s.cool 11 1 0
  if lo = 0 ∨ !s.boot.fwRuns ∨ s.isSet CLK_STATUS_HOLD ∨ s.cooling ∨ s.codeActive 0x0503 ∨ tHi ≤ tOut then 100
  else if tOut ≤ tLo then lo
  else (roundDiv ((lo : Int) * (tHi - tOut) + 100 * (tOut - tLo)) (tHi - tLo).toNat).toNat

/-- Whether pump p is fitted (R428). -/
def State.pumpFitted (s : State) (p : Nat) : Bool := bitOf (s.cool 0 1 3) p

/-- Every fitted pump is lost (R429). -/
def State.pumpsLost (s : State) : Bool :=
  (s.pumpFitted 0 || s.pumpFitted 1) && (List.range 2).all fun p => !s.pumpFitted p || s.codeActive (0x0501 + p)

/-- A pump's speed in rpm from its tach pulses in one second, and the flow in 0.01 L/min from the pulses in two (R57, R428). -/
def State.rpm (s : State) (pulses : Nat) : Rat := (60 * pulses : Nat) / (s.cool 1 1 2 : Rat)
def State.flow (s : State) (pulses : Nat) : Rat := (3000 * pulses : Nat) / (s.cool 2 2 500 : Rat)

/-- PUMP_LOSS (R57, R429): pump p's tach, by its pulses in a second, below TACH_MIN for 1 s. -/
def execPumpLoss (p : Fin 2) (pulses : Nat) (s : State) : Res := s.on fun s =>
  let lim := s.cool 4 2 600
  let rpm := (s.rpm pulses).floor
  if s.boot.fwRuns && s.pumpFitted p.val && decide (s.rpm pulses < lim) then
    let s := s.set BRD_COOL_PUMP_LOST (bitPut (s.get BRD_COOL_PUMP_LOST) p.val true)
    let s := s.pumpsFull.raise (0x0501 + p.val) (p.val + 1) rpm lim
    .next (if s.pumpsLost then s.raise 0x0503 0 rpm lim else s).showLksCap
  else .next s

/-- FLOW_LOW (R57, R429): FLOW_PULSE, by its pulses in 2 s, low for 2 s. -/
def execFlowLow (pulses : Nat) (s : State) : Res := s.on fun s =>
  let lim := s.cool 6 2 120
  let flow := (s.flow pulses).floor
  if s.boot.fwRuns && decide (s.flow pulses < lim) then
    let low := decide (2 * s.flow pulses < lim)
    let s := s.pumpsFull.raise 0x0504 0 flow lim
    .next (if low then s.raise 0x0503 0 flow (lim / 2 : Nat) else s).showLksCap
  else .next s

/-- INLET_HIGH (R429): T_IN in °C, above 45 °C for 1 s. -/
def execInletHigh (t : Fin 256) (s : State) : Res := s.on fun s =>
  let s := s.set BRD_COOL_T_IN t.val
  if s.boot.fwRuns && decide (45 < t.val) then .next (s.pumpsFull.raise 0x0505 0 t.val 45).showLksCap else .next s

/-- COOLING_CLEAR (R429): the condition of 0x0501 + k has been absent for 10 s. -/
def execCoolingClear (k : Fin 5) (s : State) : Res := s.on fun s =>
  if k.val = 2 then .next (if s.pumpsLost then s else (s.unraise 0x0503 0).showLksCap)
  else
    let s := if k.val < 2 then s.set BRD_COOL_PUMP_LOST (bitPut (s.get BRD_COOL_PUMP_LOST) k.val false) else s
    .next (s.unraise (0x0501 + k.val) (if k.val < 2 then k.val + 1 else 0)).showLksCap

/-- PUMP_DUTY_UPDATE (R430, R509): T_IN and T_OUT in °C. -/
def execPumpDutyUpdate (tIn : Fin 256) (tOut : Int) (s : State) : Res := s.on fun s =>
  let s := s.set BRD_COOL_T_IN tIn.val
  let d := s.dutyAt tOut
  .next ({ s with pins := { s.pins with pumpDuty := [d, d] } }.showLksCap.showStor)

/-! ### Larkspur temperature (R417) -/

/-- A die's 0x050A mark. -/
def State.setHot (s : State) (d : Nat) (b : Bool) : State :=
  { s with lks := { s.lks with dies := modAt s.lks.dies d fun (x : LDie) => { x with hot := b } } }

/-- LARKSPUR_JUNCTION_HOT (R417): above 110 °C; on die 0 the forecast is lost (R27). -/
def execLarkspurJunctionHot (d : Fin 2) (t : Fin 256) (s : State) : Res := s.on fun s =>
  if d.val < variantDies s.otp.variant ∧ 110 < t.val then
    let s := (s.setHot d.val true).raise 0x050A d.val t.val 110
    .next (if d.val = 0 then s.forecastStop else s)
  else .next s

/-- LARKSPUR_JUNCTION_COOL (R417): below 100 °C. -/
def execLarkspurJunctionCool (d : Fin 2) (t : Fin 256) (s : State) : Res := s.on fun s =>
  if d.val < variantDies s.otp.variant ∧ t.val < 100 then .next ((s.setHot d.val false).unraise 0x050A d.val) else .next s

/-! ### The host (R431) -/

/-- The host is lost: HOST_LOST, its event, 0x0706 with index 0, and every host ring held (R431, R453). -/
def State.hostLost (s : State) : State :=
  if s.isSet BRD_STATUS_HOST_LOST then s
  else
    let s := ((s.set BRD_STATUS_HOST_LOST 1).raiseBit BRD_EVT_HOST 243).raise 0x0706 0 0 0
    forN 4 (fun r t => t.showLevel (r + 1)) s

/-- A kick of the host: a host that was lost is back (R431). -/
def State.hostKick (s : State) : State :=
  let s := { s with brd := { s.brd with hostKicked := true } }
  if s.isSet BRD_STATUS_HOST_LOST then
    let s := ((s.clear BRD_STATUS_HOST_LOST).raiseBit BRD_EVT_HOST 243).raise 0x0706 1 0 0
    forN 4 (fun r t => t.showLevel (r + 1)) s
  else s

/-- HOST_KICK (R431): the host timeout runs from a first kick; after a loss the host is back. -/
def execHostKick (s : State) : Res := s.on fun s => .next s.hostKick

/-- HOST_TIMEOUT (R431). -/
def execHostTimeout (s : State) : Res := s.on fun s =>
  if s.brd.hostKicked && s.get BRD_HOST_CFG_HOST_TMO != 0 then .next s.hostLost else .next s

end Sys2Proof.Machine
end

