-- ==== Sys2Proof/Machine/Clock.lean ====
section
/-! DEFINITION. Clocks and power modes: source selection and its moves (R107, R110 to R112, R506), loss and
clock-hold (R128 to R131), start-up (R115), the measurement counter (R136), domain gates and power modes
(R118 to R127). -/

namespace Sys2Proof.Machine

/-! ### Sources (R107, R110 to R112) -/

/-- The CLK_READY bit b, and the LOSS bit b of CLK_STATUS (R109, R114). -/
def readyBit (b : Nat) : Field := ⟨CLK_READY, b, 1⟩
def lossBit (b : Nat) : Field := ⟨CLK_STATUS, 8 + b, 1⟩

/-- Clear CLK_READY bits. -/
def State.unready (s : State) (bs : List Nat) : State := forL bs (fun b t => (t.clear (readyBit b)).refLost b) s

/-- A refused selection: the field keeps its value, SW_REFUSED, 0x0605 with the value written (R110). -/
def State.srcRefused (s : State) (v : Word) : State :=
  (s.raiseBit CLK_STATUS_SW_REFUSED 228).refuse CLK_SRC_SEL v.toNat

/-- A switch starts: SW_BUSY (R111). -/
def State.switchTo (s : State) (k : Switch) : State :=
  { s.set CLK_STATUS_SW_BUSY 1 with clk := { s.clk with switch := k } }

/-- The CLK_READY bit of a MAIN_SRC code; 0b11 names none (R113). -/
def mainBit (src : Nat) : Option Nat := if src = 0 then some 2 else if src = 1 then some 4 else if src = 2 then some 6 else none

/-- The MAIN_SRC field of a CLK_SRC_SEL write (R110, R111), and whether it is refused. -/
def State.mainTake (s : State) (v : Word) : State × Bool :=
  let src := v.toNat % 4
  if src = s.get CLK_SRC_SEL_MAIN_SRC then (s, false)
  else
    let ready := match mainBit src with
      | some b => s.isSet (readyBit b)
      | none => false
    if !ready || s.isSet CLK_STATUS_SW_BUSY || s.armedStates then (s, true)
    else ((s.set CLK_SRC_SEL_MAIN_SRC src).switchTo (.main src), false)

/-- Record a refused selection (R110). -/
def State.srcDone (v : Word) (r : State × Bool) : State := if r.2 then r.1.srcRefused v else r.1

/-- The MAIN_SRC field alone. -/
def State.mainSelect (s : State) (v : Word) : State := State.srcDone v (s.mainTake v)

/-- MAIN_SRC_SELECT (R110, R111): the value written to CLK_SRC_SEL. -/
def execMainSrcSelect (v : Word) (s : State) : Res := s.on fun s => .next (s.mainSelect v)

/-- The AON_SRC field of a CLK_SRC_SEL write (R110, R112): with AON_FIRC at 1 a write of the value shown moves the domain too. -/
def State.aonTake (s : State) (v : Word) : State × Bool :=
  let src := v.toNat / 256 % 2
  if src = s.get CLK_SRC_SEL_AON_SRC ∧ !s.isSet CLK_STATUS_AON_FIRC then (s, false)
  else if !s.isSet (readyBit src) || s.isSet CLK_STATUS_SW_BUSY then (s, true)
  else (((s.set CLK_SRC_SEL_AON_SRC src).clear CLK_STATUS_AON_FIRC).switchTo (.aon src), false)

/-- The AON_SRC field alone. -/
def State.aonSelect (s : State) (v : Word) : State := State.srcDone v (s.aonTake v)

/-- AON_SRC_SELECT (R110, R112): the value written to CLK_SRC_SEL. -/
def execAonSrcSelect (v : Word) (s : State) : Res := s.on fun s => .next (s.aonSelect v)

/-- The memory domains whose gates are open, CLK_EN layout. -/
def State.memOpen (s : State) : Nat := s.rdN CLK_GATE_EFF &&& 0x0F00

/-- A PLL_REF change starts (R506): the control domain and the main bus on FIRC, the memories in self-refresh, the
four PLLs not ready; 0x0608 is active while PLL_REF is 1 (R131, R417). -/
def State.pllRefStart (s : State) (src : Nat) : State :=
  let s := ((s.set CLK_SRC_SEL_PLL_REF src).switchTo (.pllRef src)).set CLK_STATUS_CTL_SRC 1
  let s := (s.set CLK_SRC_SEL_MAIN_SRC 0).unready [4, 5, 6, 7]
  let s := { s with clk := { s.clk with selfRefresh := 0x0F00 } }
  let s := (s.showTx).showAck
  if src = 1 then s.raise 0x0608 0 0 0 else s.unraise 0x0608 0

/-- The PLL_REF field of a CLK_SRC_SEL write (R110, R506). -/
def State.pllRefTake (s : State) (v : Word) : State × Bool :=
  let src := v.toNat / 16 % 2
  if src = s.get CLK_SRC_SEL_PLL_REF then (s, false)
  else if !s.isSet (readyBit (if src = 1 then 2 else 3)) || s.isSet CLK_STATUS_SW_BUSY || s.armedStates then (s, true)
  else (s.pllRefStart src, false)

/-- The PLL_REF field alone. -/
def State.pllRefSelect (s : State) (v : Word) : State := State.srcDone v (s.pllRefTake v)

/-- A write of CLK_SRC_SEL (R110, R111): MAIN_SRC, then AON_SRC, then PLL_REF; one record, whatever it refuses. -/
def State.srcWrite (s : State) (v : Word) : State :=
  let a := s.mainTake v
  let b := a.1.aonTake v
  let c := b.1.pllRefTake v
  State.srcDone v (c.1, a.2 || b.2 || c.2)

/-- PLL_REF_CHANGE (R506): the value written to CLK_SRC_SEL. -/
def execPllRefChange (v : Word) (s : State) : Res := s.on fun s => .next (s.pllRefSelect v)

/-- A PLL_REF change ends (R506): the relocked PLLs are ready, the control domain and the main bus are back on PLL-CTL, the
open memory domains leave self-refresh. -/
def State.pllRefDone (s : State) : State :=
  let s := (s.set CLK_READY_PLL_CTL 1).set CLK_READY_PLL_LINK 1
  let s := (s.setB CLK_READY_PLL_MEM s.clk.pllMem).setB CLK_READY_PLL_CORE s.clk.pllCore
  let s := ((s.set CLK_SRC_SEL_MAIN_SRC 1).clear CLK_STATUS_CTL_SRC).clear CLK_STATUS_SW_BUSY
  { s with clk := { s.clk with switch := .none, selfRefresh := 0x0F00 - s.memOpen } }.showAck

/-- CLOCK_SWITCH_COMPLETE (R111): SW_BUSY clears; a main bus that is back on PLL-CTL takes the control domain with it
(R131, log 43). -/
def execClockSwitchComplete (s : State) : Res := s.on fun s =>
  match s.clk.switch with
  | .main src =>
    let s := { s.clear CLK_STATUS_SW_BUSY with clk := { s.clk with switch := .none } }
    .next (if src = 1 then s.clear CLK_STATUS_CTL_SRC else s)
  | .aon _ => .next { s.clear CLK_STATUS_SW_BUSY with clk := { s.clk with switch := .none } }
  | _ => .next s

/-- A source or PLL may become ready (R107): FIRC for XTAL-A, the reference for a PLL, and the start of PLL-MEM and PLL-CORE. -/
def State.mayReady (s : State) (b : Nat) : Bool :=
  let ref := s.isSet (if s.get CLK_SRC_SEL_PLL_REF = 1 then CLK_READY_FIRC else CLK_READY_XTAL_A)
  if b = 3 then s.isSet CLK_READY_FIRC
  else if b = 4 ∨ b = 5 then ref
  else if b = 6 then ref && s.clk.pllMem
  else if b = 7 then ref && s.clk.pllCore
  else true

/-- Mark a source as seen. -/
def State.see (s : State) (b : Nat) : State := { s with clk := { s.clk with seen := s.clk.seen ||| 2 ^ b } }

/-- SOURCE_READY (R107, R115): at the first readiness of PLL-CTL the boot ROM moves the main bus to it, at that of XTAL-B
the always-on domain moves. -/
def execSourceReady (b : Fin 8) (s : State) : Res := s.on fun s =>
  if s.isSet (readyBit b.val) || !s.mayReady b.val then .next s
  else
    let first := !bitOf s.clk.seen b.val
    let s := (((s.set (readyBit b.val) 1).see b.val).unraise 0x0602 b.val).showAck
    let s := if b.val = 3 then { s with clk := { s.clk with xtalAt := s.elapsed } } else s
    if first && b.val == 4 && s.get CLK_SRC_SEL_MAIN_SRC == 0 && !s.isSet CLK_STATUS_SW_BUSY then
      .next ((s.set CLK_SRC_SEL_MAIN_SRC 1).switchTo (.main 1))
    else if first && b.val == 1 && s.get CLK_SRC_SEL_AON_SRC == 0 && !s.isSet CLK_STATUS_SW_BUSY then
      .next (((s.set CLK_SRC_SEL_AON_SRC 1).clear CLK_STATUS_AON_FIRC).switchTo (.aon 1))
    else .next s

/-! ### Loss and clock-hold (R128 to R131) -/

/-- An automatic move (R112): AUTO_MOVE, and the switch as glitch-free as a selected one. -/
def State.autoMove (s : State) (k : Switch) : State := (s.raiseBit CLK_STATUS_AUTO_MOVE 228).switchTo k

/-- The control domain and the main bus move to FIRC, if it is ready (R112). -/
def State.toFirc (s : State) : State :=
  if s.isSet CLK_READY_FIRC then ((s.set CLK_STATUS_CTL_SRC 1).set CLK_SRC_SEL_MAIN_SRC 0).autoMove (.main 0) else s

/-- The power path under forcing (R129), and the shelf state that follows (R130): out of ARMING, ARMED and DERATED into
ISOLATED, in place of R413; the contactors stay. -/
def State.forced (s : State) (b : Nat) : State :=
  let s := (s.drvOff.chansForced).set CLK_STATUS_HOLD 1
  let s := { s with clk := { s.clk with holdBits := addOnce s.clk.holdBits b } }
  let s := (s.isoOff.showTx).pumpsFull.showAck
  let armed := s.armedStates
  let s := s.raise 0x0601 b 0 0
  let s := if armed && s.armedStates then
      let s := { s with brd := { s.brd with ssWindow := false, ssOff := false, isoLimitDue := true, returning := [] },
                        boot := { s.boot with armStep := 0, contRequested := false, disarming := false,
                                              disarmKept := s.boot.disarmKept || s.boot.disarming } }
      ((s.jnlTrigger 3).cascadesOff.windowOff).enter stIsolated
    else s
  let s := if s.shelf = stIsolated then s.set SYS_SHELF_STATE_CLK_HOLD 1 else s
  (s.record kClockHold 0 0 0 b 0 true (leBytes 1 b ++ leBytes 4 (s.rdN CLK_STATUS))).checkHoldoff

/-- A forcing loss of the source of CLK_READY bit b (R112, R128, R129): what it stops, what moves. -/
def State.forcingLoss (s : State) (b : Nat) : State :=
  let s := (s.unready [b]).raiseBit (lossBit b) 228
  let s := if b = 3 ∧ s.get CLK_SRC_SEL_PLL_REF = 0 then (s.unready [4, 5, 6, 7]).toFirc
    else if b = 4 then s.toFirc
    else if b < 2 ∧ s.isSet CLK_READY_FIRC then
      ((s.set CLK_SRC_SEL_AON_SRC 0).set CLK_STATUS_AON_FIRC 1).autoMove (.aon 0)
    else s
  s.forced b

/-- CLOCK_LOSS_FORCING (R128, R129): XTAL-A, PLL-CTL, PLL-LINK, or the second of XTAL-B and SIRC, by its CLK_READY bit. -/
def execClockLossForcing (b : Fin 8) (s : State) : Res := s.on fun s =>
  let forcing := b.val == 3 || b.val == 4 || b.val == 5 || (b.val < 2 && !s.isSet (readyBit (1 - b.val)))
  if forcing && s.isSet (readyBit b.val) then .next (s.forcingLoss b.val) else .next s

/-- CLOCK_LOSS_NONFORCING (R128): FIRC, one of XTAL-B and SIRC with the other ready, PLL-MEM or PLL-CORE. -/
def execClockLossNonforcing (b : Fin 8) (s : State) : Res := s.on fun s =>
  let ok := b.val == 2 || b.val == 6 || b.val == 7 || (b.val < 2 && s.isSet (readyBit (1 - b.val)))
  if ok && s.isSet (readyBit b.val) then
    let s := ((s.unready [b.val]).raiseBit (lossBit b.val) 228).raise 0x0602 b.val 0 0
    if b.val = 1 ∧ s.get CLK_SRC_SEL_AON_SRC = 1 then .next ((s.set CLK_SRC_SEL_AON_SRC 0).autoMove (.aon 0))
    else .next (if 6 ≤ b.val then s.forecastStop else s)
  else .next s

/-- The PLLs that run are ready: what XTAL-A, or FIRC in its place, feeds (R106, R131). -/
def State.pllsReady (s : State) : Bool :=
  s.isSet CLK_READY_PLL_CTL && s.isSet CLK_READY_PLL_LINK
    && (s.isSet CLK_READY_PLL_MEM || !s.clk.pllMem) && (s.isSet CLK_READY_PLL_CORE || !s.clk.pllCore)

/-- What HOLD waits for (R131): each failed source ready and the PLLs that it feeds; for XTAL-A, FIRC in its place will do. -/
def State.holdOver (s : State) : Bool :=
  s.clk.holdBits.all fun b =>
    if b = 3 then (s.isSet CLK_READY_XTAL_A || s.get CLK_SRC_SEL_PLL_REF == 1) && s.pllsReady else s.isSet (readyBit b)

/-- CLOCK_HOLD_CLEAR (R131): HOLD clears, 0x0601 with it (log 43); the hold-off may run. -/
def execClockHoldClear (s : State) : Res := s.on fun s =>
  if s.isSet CLK_STATUS_HOLD && s.holdOver then
    let s := { s.clear CLK_STATUS_HOLD with clk := { s.clk with holdBits := [] } }
    let s := forN 8 (fun b t => t.unraise 0x0601 b) s
    let s := if s.shelf = stPassive then s.clear BRD_STATUS_FORCING else s
    .next (s.showTx).showAck.checkHoldoff
  else .next s

/-- XTAL_B_START_TIMEOUT (R115): the always-on domain stays on SIRC, 0x0602 with index 1. -/
def execXtalBStartTimeout (s : State) : Res := s.on fun s =>
  if s.isSet CLK_READY_XTAL_B || bitOf s.clk.seen 1 then .next s
  else .next (((s.see 1).raiseBit (lossBit 1) 228).raise 0x0602 1 0 0)

/-- XTAL_A_START_TIMEOUT (R115, R130): a clock-source failure in PASSIVE; the boot ROM goes on from FIRC. -/
def execXtalAStartTimeout (s : State) : Res := s.on fun s =>
  if s.isSet CLK_READY_XTAL_A || bitOf s.clk.seen 3 then .next s else .next (((s.see 3).see 4).forcingLoss 3)

/-! ### The measurement counter (R136) -/

/-- Whether a clock of R136's table is ready. -/
def State.clockReady (s : State) (code : Nat) : Bool :=
  if code < 8 then s.isSet (readyBit ([0, 1, 2, 3, 4, 5, 6, 7].getD code 0))
  else if code = 8 then s.isSet SYS_CONN_STATUS_SYNC_IN_ACT
  else decide (code < 12)

/-- START of the measured and the reference clock that the register selects (R136): a measurement begins or restarts, or ERR. -/
def State.fmeasStart (s : State) : State :=
  let ref := s.get CLK_FMEAS_CTRL_REF_SEL
  if 12 ≤ ref ∨ 12 ≤ s.get CLK_FMEAS_CTRL_DUT_SEL ∨ s.rdN CLK_FMEAS_GATE = 0 ∨ !s.clockReady ref then
    { ((s.clear CLK_FMEAS_CTRL_START).raiseBit CLK_FMEAS_CTRL_ERR 228) with clk := { s.clk with measuring := false } }
  else { s.set CLK_FMEAS_CTRL_START 1 with clk := { s.clk with measuring := true, measRef := ref } }

/-- FMEAS_START (R136). -/
def execFmeasStart (dut ref : Fin 16) (s : State) : Res := s.on fun s =>
  .next ((s.set CLK_FMEAS_CTRL_DUT_SEL dut.val).set CLK_FMEAS_CTRL_REF_SEL ref.val).fmeasStart

/-- FMEAS_DONE (R136): the count of the gate. A reference that lost ready meanwhile has ended the measurement in ERR. -/
def execFmeasDone (count : Nat) (s : State) : Res := s.on fun s =>
  if !s.clk.measuring then .next s
  else
    let s := { s.clear CLK_FMEAS_CTRL_START with clk := { s.clk with measuring := false } }
    .next (((s.wrN CLK_FMEAS_CNT_LO count).wrN CLK_FMEAS_CNT_HI (count / 2 ^ 32 % 65536)).raiseBit CLK_FMEAS_CTRL_DONE 228)

/-! ### Domain gates (R118 to R120) -/

/-- CLK_EN of the current mode; in transition, of the mode that it leads to (R118, R121). -/
def State.modeEn (s : State) : Nat :=
  let m := s.get PWR_STATUS_CUR_MODE
  let m := if m = 3 then s.clk.modePending.getD 0 else m
  if m = 0 then s.rdN CLK_EN_RUN else if m = 1 then s.rdN CLK_EN_SLEEP else s.rdN CLK_EN_DEEP

/-- The shelf-state floor (R119), CLK_EN layout. -/
def State.gateFloor (s : State) : Nat :=
  if s.shelf = stArming then
    0x70 ||| (if 5 ≤ s.boot.armStep then 0x80 else 0) ||| (if s.boot.armStep = 7 then 0x1400 else 0)
  else if s.inService then 0x4F0 ||| (if s.isSet PWR_CTRL_FCST_NAP then 0 else 0x1000)
  else if s.shelf = stIsolated ∨ s.shelf = stLatched then 0xF0
  else 0

/-- The gates that mode, floor and wake latches ask for (R119). -/
def State.gateWant (s : State) : Nat := (s.modeEn ||| s.gateFloor ||| s.clk.wakeLatch) &&& domainMask s.otp.variant

/-- A core that lets its domain close (R120, R373). -/
def State.coreRests (s : State) (d c : Nat) : Bool :=
  s.coreSt d c == cRet || s.coreSt d c == cFailed || s.coreSt d c == cSusp

/-- A Larkspur domain opens: its cores whose gate is open, in domain 12 every core, start to wake (R127, R373, R392). -/
def State.lksOpen (b : Nat) (s : State) : State :=
  let s := { (s.set ⟨CLK_GATE_EFF, b, 1⟩ 1) with clk := { s.clk with pllCore := true } }
  forL (domainCores b) (fun p t =>
    let t := if b = 12 then t.setCore p.1 p.2 { t.core p.1 p.2 with gate := true } else t
    if (t.core p.1 p.2).gate && t.coreSt p.1 p.2 == cRet then t.coreTo p.1 p.2 cWaking else t) s

/-- A Larkspur domain is asked to close: its cores drain, and it closes once they rest (R120). -/
def State.lksClose (b : Nat) (s : State) : State :=
  let s := forL (domainCores b) (fun p t => if t.coreRests p.1 p.2 then t else t.closeCore p.1 p.2) s
  if (domainCores b).all fun p => s.coreRests p.1 p.2 then s.set ⟨CLK_GATE_EFF, b, 1⟩ 0 else s

/-- One Larkspur domain follows the wanted gates. -/
def State.lksGate (want b : Nat) (s : State) : State :=
  let on := s.isSet ⟨CLK_GATE_EFF, b, 1⟩
  if bitOf want b && !on then s.lksOpen b else if !bitOf want b && on then s.lksClose b else s

/-- The other domains follow at once; a memory domain that closes enters self-refresh, one that opens leaves it and starts
PLL-MEM; a PLL that nothing uses stops (R106, R120); while the PLLs relock every memory stays in self-refresh (R506). -/
def State.plainGates (want : Nat) (s : State) : State :=
  let old := s.rdN CLK_GATE_EFF
  let s := s.wrN CLK_GATE_EFF ((old &&& 0x7000) ||| (want &&& 0x0FFF))
  let mem := want &&& 0x0F00
  let opened := mem - (mem &&& old)
  let s := { s with clk := { s.clk with
    selfRefresh := if s.relock then 0x0F00 else 0x0F00 - mem, pllMem := mem != 0 && (s.clk.pllMem || opened != 0) } }
  let core := s.rdN CLK_GATE_EFF &&& 0x7000 != 0
  let s := { s with clk := { s.clk with pllCore := s.clk.pllCore && core } }
  let s := if s.clk.pllMem then s else s.clear CLK_READY_PLL_MEM
  if s.clk.pllCore then s else s.clear CLK_READY_PLL_CORE

/-- Apply the wanted gates; LKS_BUSY while a Larkspur domain waits for its cores (R119, R120, R122). -/
def State.gates (s : State) : State :=
  let want := s.gateWant
  let s := (State.lksGate want 14 (State.lksGate want 13 (State.lksGate want 12 s))).plainGates want
  let wait := (s.rdN CLK_GATE_EFF &&& 0x7000) - (s.rdN CLK_GATE_EFF &&& want &&& 0x7000)
  ({ s with clk := { s.clk with gateWait := wait } }.setB PWR_STATUS_LKS_BUSY (wait != 0)).showAwake

/-- Deep-sleep is reached (R105, R106, R121): FIRC stops, and PLL-CTL unless CLK_EN_DEEP keeps a domain other than AON and
SPUR clocked. -/
def State.deepReached (s : State) : State :=
  s.unready (if s.rdN CLK_GATE_EFF &&& 0x7FFC = 0 then [2, 4] else [2])

/-- A mode transition ends once no Larkspur domain waits (R120, R121): the mode shows; a MODE written meanwhile applies now. -/
def State.modeDone (s : State) : State :=
  match s.clk.modePending with
  | none => s
  | some m =>
    if s.clk.gateWait ≠ 0 ∨ s.get PWR_STATUS_CUR_MODE ≠ 3 then s
    else
      let s := { s.set PWR_STATUS_CUR_MODE m with clk := { s.clk with modePending := none } }
      if m = 2 then s.deepReached
      else if m = s.get PWR_CTRL_MODE then s
      else { s.set PWR_STATUS_CUR_MODE 3 with clk := { s.clk with modePending := some (s.get PWR_CTRL_MODE) } }

/-- DOMAIN_GATE_CHANGE (R119 to R121): the gates follow, and a mode transition ends once no domain waits. -/
def execDomainGateChange (s : State) : Res := s.on fun s => .next s.gates.modeDone

/-! ### Power modes (R121 to R126) -/

/-- MODE is written (R121): the transition begins; in one in progress the new MODE waits for its end. -/
def State.modeSelect (s : State) (m : Bool) : State :=
  let s := s.setB PWR_CTRL_MODE m
  let cur := s.get PWR_STATUS_CUR_MODE
  if cur = 2 ∨ cur = 3 ∨ cur = m.toNat then s
  else { s.set PWR_STATUS_CUR_MODE 3 with clk := { s.clk with modePending := some m.toNat } }

/-- POWER_MODE_SELECT (R121): 1 selects Sleep. -/
def execPowerModeSelect (m : Bool) (s : State) : Res := s.on fun s => .next (s.modeSelect m)

/-- The conditions of R121 for Deep-sleep; PWR_STATUS.DEEP_READY shows them. -/
def State.deepReady (s : State) : Bool :=
  s.shelf == stPassive && s.isSet PWR_CTRL_DEEP_EN
    && (s.pcie.link.low || s.pcie.link == .down || s.pcie.dstate != 0)
    && !(s.get BOOT_STATUS_BUNDLE == 1 || s.get BOOT_STATUS_BUNDLE == 2 || s.get BOOT_STATUS_BUNDLE == 3)
    && (s.path 0).queue.isEmpty && s.hrn.lfrQ.isEmpty && !s.isSet EST_JNL_STATUS_BUSY
    && !s.isSet PWR_STATUS_LKS_BUSY && s.rd PWR_WAKE_SRC == 0

/-- DEEP_SLEEP_ENTRY (R121): the entry begins with the gates of CLK_EN_DEEP, and ends once no Larkspur domain waits. -/
def execDeepSleepEntry (s : State) : Res := s.on fun s =>
  if s.deepReady && decide (s.get PWR_STATUS_CUR_MODE < 2) then
    .next { s.set PWR_STATUS_CUR_MODE 3 with clk := { s.clk with modePending := some 2 } }.gates.modeDone
  else .next s

/-- In Deep-sleep, or entering it. -/
def State.asleep (s : State) : Bool :=
  s.get PWR_STATUS_CUR_MODE == 2 || (s.get PWR_STATUS_CUR_MODE == 3 && s.clk.modePending == some 2)

/-- An enabled source that has fired ends Deep-sleep (R123, R124): FIRC and PLL-CTL run, the gates are those of MODE,
LAST_WAKE; or it aborts the entry (R121). -/
def State.wake (s : State) : State :=
  match (List.range 4).find? fun b => bitOf (s.rdN PWR_WAKE_SRC &&& s.rdN PWR_WAKE_EN &&& 0xF) b with
  | none => s
  | some b =>
    if !s.asleep then s
    else
      let deep := s.get PWR_STATUS_CUR_MODE == 2
      let s := { s.set PWR_STATUS_CUR_MODE (s.get PWR_CTRL_MODE) with clk := { s.clk with modePending := none } }
      (if deep then
          ((s.set PWR_STATUS_LAST_WAKE b).set CLK_READY_FIRC 1).setB CLK_READY_PLL_CTL
            (s.isSet CLK_READY_XTAL_A || s.get CLK_SRC_SEL_PLL_REF == 1)
        else s).gates

/-- A wake source fires, and an enabled one ends Deep-sleep. -/
def State.wakeBy (b : Nat) (s : State) : State := (s.fireWake b).wake

/-- WAKE_SOURCE_FIRED (R123, R124): the source's bit; an enabled one other than SPUR ends Deep-sleep. -/
def execWakeSourceFired (b : Fin 5) (s : State) : Res := s.on fun s => .next (s.wakeBy b.val)

/-- WAKE_TIMER_EXPIRY (R123): the timer reaches 0 and fires TIMER; 0 is no timer. -/
def execWakeTimerExpiry (s : State) : Res := s.on fun s =>
  if s.rd PWR_WAKE_TIMER = 0 then .next s else .next ((s.wrN PWR_WAKE_TIMER 0).wakeBy 3)

/-- BAR2_WAKE_LATCH_EXPIRY (R125): memory domain 8 + m. -/
def execBar2WakeLatchExpiry (m : Fin 4) (s : State) : Res := s.on fun s =>
  .next { s with clk := { s.clk with wakeLatch := bitPut s.clk.wakeLatch (8 + m.val) false } }

end Sys2Proof.Machine
end

