-- ==== Sys2Proof/Machine/RegBase.lean ====
section
/-! DEFINITION. A register write, field by field (R8, R14 to R17, R175), and the registers of Rein (R186, R187,
R202 to R208, R213 to R215), which the profile's LOOPS record is written through too (R196). -/

namespace Sys2Proof.Machine

/-! ### Fields (R15, R17, R175) -/

/-- What one field takes from a write: its value afterwards, and whether the write was refused there. -/
def fieldTakes (passive : Bool) (cur v : Word) (f : FieldSpec) : Nat × Bool :=
  let c := fieldGet cur f.lo f.w
  let n := fieldGet v f.lo f.w
  let ranged := decide (f.min ≤ n ∧ n ≤ f.max)
  match f.acc with
  | .ro => (c, false)
  | .wo => (c, false)
  | .rw => if ranged then (n, false) else (c, true)
  | .rwl => if n = c then (c, false) else if passive && ranged then (n, false) else (c, true)
  | .w1c => (c - (c &&& n), false)
  | .w1s => (c ||| n, false)

/-- Two fields that must stand in order keep their values where the write would break it (R175). -/
def ordersKept (old new : List Nat) : List (Nat × Nat) → List Nat × Bool
  | [] => (new, false)
  | (i, j) :: t =>
    let (l, bad) := ordersKept old new t
    if l.getD i 0 < l.getD j 0 ∨ (l.getD i 0 = old.getD i 0 ∧ l.getD j 0 = old.getD j 0) then (l, bad)
    else ((l.set i (old.getD i 0)).set j (old.getD j 0), true)

/-- A register after a write, and whether some field was refused; reserved bits stay as they are (R14). -/
def RegSpec.takes (r : RegSpec) (passive : Bool) (cur v : Word) : Word × Bool :=
  let fs := r.fields.map (fieldTakes passive cur v)
  let old := r.fields.map fun f => fieldGet cur f.lo f.w
  let (new, bad) := ordersKept old (fs.map (·.1)) r.orders
  ((r.fields.zip new).foldl (fun w p => fieldPut w p.1.lo p.1.w p.2) cur, bad || fs.any (·.2))

/-- Write a register field by field; a refused field makes one F0 record (R15, R17, R175). A reserved offset ignores
the write. -/
def State.plainWrite (s : State) (a : Nat) (v : Word) : State :=
  match regSpec a with
  | none => s
  | some r =>
    let t := r.takes (s.shelf == stPassive) (s.rd a) v
    let s := s.wr a t.1
    if t.2 then s.refuse a v.toNat else s

/-! ### Rein's registers -/

/-- LEN of a bank within a write of REIN_CAS_CTRL: what is wrong with it, and the state after it. -/
def State.lenWrite (s : State) (c : Nat) (bankB : Bool) (v : Word) : Nat × State :=
  let n : Fin 16 := Fin.ofNat 16 (fieldGet v (if bankB then 28 else 24) 4)
  let cur := s.get (if bankB then REIN_CAS_CTRL_LEN_B c else REIN_CAS_CTRL_LEN_A c)
  if n.val = cur then (0, s)
  else
    match s.mapBad c (.len bankB n) with
    | 0 => (0, (s.mapPut c (.len bankB n)).showSections)
    | k => (k, s)

/-- HOLD within a write of REIN_CAS_CTRL (R205). -/
def State.holdWrite (s : State) (c : Nat) (h : Bool) : Bool × State :=
  if h && !s.isSet (REIN_CAS_CTRL_HOLD c) && (s.casDest c == 1 || s.casDest c == 4) && s.armedStates then (true, s)
  else (false, s.setB (REIN_CAS_CTRL_HOLD c) h)

/-- A write of REIN_CAS_CTRL (R17, R200 to R205, R215): one record, whatever it refuses. -/
def State.casCtrlWrite (s : State) (c : Nat) (v : Word) : State :=
  let auto := v.getLsbD 1 != s.isSet (REIN_CAS_CTRL_AUTO_START c)
  let locked := auto && s.shelf != stPassive
  let s := if locked then s else s.setB (REIN_CAS_CTRL_AUTO_START c) (v.getLsbD 1)
  let s := (s.set (REIN_CAS_CTRL_RATE_DIV c) (fieldGet v 8 16)).setB (REIN_CAS_CTRL_INIT_COPY c) (v.getLsbD 4)
  let a := s.lenWrite c false v
  let b := a.2.lenWrite c true v
  let s := b.2.setB (REIN_CAS_CTRL_BANK_SEL c) (v.getLsbD 3)
  let h := s.holdWrite c (v.getLsbD 2)
  let s := h.2
  let s := if v.getLsbD 0 && !s.isSet (REIN_CAS_CTRL_ENABLE c) then s.casEnable c
    else if !v.getLsbD 0 && s.isSet (REIN_CAS_CTRL_ENABLE c) then s.casDisable c else s
  let s := if a.1 = 1 ∨ b.1 = 1 ∨ h.1 then s.set (REIN_CAS_STATUS_REFUSED c) 1 else s
  if locked || a.1 != 0 || b.1 != 0 || h.1 then s.refuse (REIN_CAS_CTRL c) v.toNat else s

/-- A write of a cascade's clamp that would put OUT_MIN above OUT_MAX is refused (R187). -/
def State.clampWrite (s : State) (c off : Nat) (v : Word) : State :=
  let lo := if off = 0x20 then v.toInt else s.rdI (REIN_CAS_OUT_MIN c)
  let hi := if off = 0x20 then s.rdI (REIN_CAS_OUT_MAX c) else v.toInt
  let a := REIN_CAS_OUT_MIN c + (off - 0x20)
  if hi < lo then s.refuse a v.toNat else s.wr a v

/-- Whether some cascade shows FE_TRIP (R214). -/
def State.showFe (s : State) : State :=
  s.setB REIN_STATUS_FE ((List.range 8).any fun c => s.isSet (REIN_CAS_STATUS_FE_TRIP c))

/-- A write of a cascade's register. -/
def State.casRegWrite (s : State) (c off : Nat) (v : Word) : State :=
  if off = 0 then s.casCtrlWrite c v
  else if off = 4 then s.casSrcWrite c v
  else if off = 8 ∨ off = 0xC then s.mapWrite c (.word false (off == 0xC) v)
  else if off = 0x10 ∨ off = 0x14 then s.mapWrite c (.word true (off == 0x14) v)
  else if off = 0x20 ∨ off = 0x24 then s.clampWrite c off v
  else (s.plainWrite (REIN_CAS_CTRL c + off) v).showFe

/-- A write of REIN_TUNE_CTRL (R208, R211): the fields, then ABORT, then START. -/
def State.tuneCtrlWrite (s : State) (v : Word) : State :=
  let s := s.plainWrite REIN_TUNE_CTRL (v &&& ~~~3#32)
  let s := if v.getLsbD 1 then s.tuneAbort 5 else s
  if v.getLsbD 0 then s.tuneStart (s.get REIN_TUNE_CTRL_LOOP) else s

/-- A write within Rein's block (R196, R213). -/
def State.reinWrite (s : State) (a : Nat) (v : Word) : State :=
  if a = REIN_TUNE_CTRL then s.tuneCtrlWrite v
  else if 0x201000 ≤ a ∧ a < 0x201200 then s.casRegWrite ((a - 0x201000) / 0x40) ((a - 0x201000) % 0x40) v
  else if 0x202000 ≤ a ∧ a < 0x202800 ∧ (a - 0x202000) % 0x20 < 0x18 then
    s.coefWrite ((a - 0x202000) / 0x20) ((a - 0x202000) % 0x20 / 4) v
  else if 0x203000 ≤ a ∧ a < 0x203400 then s.secStateWrite ((a - 0x203000) / 0x10) ((a - 0x203000) % 0x10 / 4) v
  else s.plainWrite a v

end Sys2Proof.Machine
end

