-- ==== Sys2Proof/Machine/Profile.lean ====
section
/-! DEFINITION. The shelf profile: its header and digests (R76, R77, R512), the TLV rules with the layout of
every record (R43, R78, R79, R196, R285, R286, R304 to R307, R428, R449, R461, R503 to R505, R511), and the
topology check (R20, R196, R503). -/

namespace Sys2Proof.Machine

/-! ### Small checks -/

/-- The number at an offset of a record lies in a range. -/
def within (l : List Byte) (off n lo hi : Nat) : Bool := decide (lo ≤ leAt l off n ∧ leAt l off n ≤ hi)

/-- Bytes that must be zero. -/
def zeroAt (l : List Byte) (off n : Nat) : Bool := (slice l off n).all (· == 0)

/-- A list whose neighbours stand in a relation. -/
def chainOk (r : Nat → Nat → Bool) : List Nat → Bool
  | a :: b :: t => r a b && chainOk r (b :: t)
  | _ => true

/-- The numbers of a table of a record. -/
def column (l : List Byte) (off size n count : Nat) : List Nat := (List.range count).map fun i => leAt l (off + size * i) n

/-- A set of numbers without repeats. -/
def distinct (l : List Nat) : Bool := decide l.Nodup

/-! ### The records (R78) -/

/-- RECTIFIER (R505). -/
def rectOk (l : List Byte) : Bool :=
  l.length == 48 && within l 0 1 0 5 && within l 1 1 0x08 0x77 && leAt l 1 1 != 0x0C && within l 2 1 1 20 && within l 3 1 1 20
    && within l 5 1 0 2 && (if leAt l 5 1 = 2 then leAt l 4 1 == 0 else within l 4 1 0xD0 0xFD) && zeroAt l 6 2
    && zeroAt l (8 + leAt l 2 1) (20 - leAt l 2 1) && zeroAt l (28 + leAt l 3 1) (20 - leAt l 3 1)

/-- FABRIC_PATHS (R305). -/
def pathsOk (l : List Byte) : Bool :=
  l.length == 16 && within l 0 2 0x88B5 0x88B6 && within l 2 1 1 3 && within l 3 1 0 3 && within l 4 2 0 4094
    && within l 6 1 0 7 && decide (leAt l 7 1 < leAt l 6 1) && leAt l 8 1 % 4 == 3 && leAt l 12 1 % 4 == 2

/-- ARM_POLICY (R79). -/
def policyOk (l : List Byte) : Bool :=
  l.length == 8 && within l 0 1 0 1 && zeroAt l 1 1 && within l 2 2 1 600 && within l 4 1 0 15 && zeroAt l 5 3

/-- A register that LOOPS may name: aligned, within Rein's block, with an RW or RWL field (R196). -/
def loopAddrOk (off : Nat) : Bool :=
  off % 4 == 0 && decide (off ≤ 0x3FFF) &&
    (match regSpec (0x200000 + off) with
     | some r => r.fields.any fun f => f.acc == .rw || f.acc == .rwl
     | none => false)

/-- LOOPS (R196). -/
def loopsOk (l : List Byte) : Bool :=
  l.length % 8 == 0 && decide (8 ≤ l.length ∧ l.length ≤ 16384) && (column l 0 8 4 (l.length / 8)).all loopAddrOk

/-- STORAGE (R285, R286). -/
def storageOk (l : List Byte) : Bool :=
  let n := leAt l 15 1
  l.length == 16 + 8 * n && within l 0 4 1000 1000000 && within l 4 2 1000 4900
    && decide (leAt l 4 2 < leAt l 6 2) && within l 6 2 0 5000 && decide (leAt l 4 2 < leAt l 8 2) && decide (leAt l 8 2 < leAt l 10 2)
    && decide (leAt l 10 2 < leAt l 6 2) && within l 12 2 0 20000 && within l 14 1 50 100 && within l 15 1 2 16
    && leAt l 16 4 == 0 && chainOk (fun a b => decide (a < b)) (column l 16 8 4 n)
    && (column l 20 8 2 n).all (fun f => decide (1 ≤ f ∧ f ≤ 10000)) && chainOk (fun a b => decide (b ≤ a)) (column l 20 8 2 n)
    && (column l 22 8 2 n).all (· == 0)

/-- SUCCESSION (R306). -/
def succOk (l : List Byte) : Bool :=
  let ids := column l 4 2 2 32
  let n := leAt l 0 1
  l.length == 596 && within l 0 1 1 32 && zeroAt l 1 3 && (ids.take n).all (fun i => decide (i ≤ 511)) && distinct (ids.take n)
    && (ids.drop n).all (· == 0xFFFF)
    && (List.range 32).all (fun t => let o := column l (68 + 16 * t) 1 1 16; o.all (fun i => decide (i ≤ 15)) && distinct o)
    && within l 580 4 0 200000 && decide (leAt l 580 4 < leAt l 584 4) && within l 584 4 0 200000 && within l 588 4 1 1000000
    && within l 592 4 1 36000

/-- STANDALONE_TARGET (R307). -/
def standOk (l : List Byte) : Bool :=
  l.length == 12 && within l 0 1 0 1 && zeroAt l 1 1 && within l 2 2 1 60000
    && (leAt l 0 1 == 0 || within l 8 2 10 36000) && zeroAt l 10 2

/-- HANDOVER_LIMIT: a nonnegative LINEAR11 current (R511). -/
def handOk (l : List Byte) : Bool :=
  (l.length == 2 || (l.length == 4 && zeroAt l 2 2)) && decide (leAt l 0 2 % 2048 < 1024)

/-- COOLING (R428). -/
def coolOk (l : List Byte) : Bool :=
  let n := leAt l 8 1
  l.length == 12 + 4 * n && within l 0 1 0 3 && within l 1 1 1 8 && within l 2 2 1 10000 && within l 4 2 100 10000
    && within l 6 2 50 400 && within l 8 1 2 8
    && (if leAt l 9 1 = 0 then zeroAt l 10 2
        else within l 9 1 20 100 && within l 10 1 20 60 && decide (leAt l 10 1 < leAt l 11 1) && within l 11 1 0 70)
    && chainOk (fun a b => decide (a < b)) (column l 12 4 1 n) && chainOk (fun a b => decide (b ≤ a)) (column l 13 4 1 n)
    && (column l 14 4 1 n).all (fun c => decide (20 ≤ c ∧ c ≤ 150)) && chainOk (fun a b => decide (b ≤ a)) (column l 14 4 1 n)
    && (column l 15 4 1 n).all (· == 0)

/-- SPARE_POLICY (R461). -/
def spareOk (l : List Byte) : Bool :=
  l.length == 24 && leAt l 0 2 &&& 0xFDC0 == 0 && within l 2 2 1 2000 && within l 4 4 1000 100000000 && within l 8 1 10 100
    && within l 9 1 1 255 && within l 10 2 0 3000 && within l 12 2 110 500 && within l 14 1 1 255 && within l 15 1 1 255
    && within l 16 2 1 65535 && within l 18 1 1 255 && within l 19 1 1 255 && within l 20 1 1 15 && zeroAt l 21 3

/-- A register that a trigger list may name: aligned, within BAR0, not reserved, not write-only (R447). -/
def listAddrOk (a : Nat) : Bool :=
  a % 4 == 0 && decide (a < 0x4000000) &&
    (match regSpec a with
     | some r => !(r.fields.all fun f => f.acc == .wo)
     | none => false)

/-- TRIGGERS (R449). -/
def trigOk (l : List Byte) : Bool :=
  let n := leAt l 9 1
  l.length == 12 + 4 * n && within l 0 1 0 15 && within l 1 1 0 1 && within l 2 1 0 4
    && (if leAt l 2 1 = 3 then within l 8 1 0 6 else within l 8 1 0 3) && within l 9 1 1 32 && zeroAt l 10 2
    && (column l 12 4 4 n).all listAddrOk

/-- Whether a record of a known TYPE keeps its own layout (R78); none for an unknown TYPE. Three limits that no layout states
are DESIGN CHOICE (log 69): a LOOPS entry may not name a reserved offset, bits 7:2 of PATH_EN and FEC are zero, and the
STATE of a TRIGGERS record is 0 to 6. -/
def recordOk (t : Nat) (l : List Byte) : Option Bool :=
  if t = 0x8001 then some (l.length == 4 && within l 0 2 0 511)
  else if t = 0x8002 then some (l.length == 16 && zeroAt l 11 5)
  else if t = 0x8003 then some (l.length == 4 && decide (leAt l 0 1 < 16) && zeroAt l 1 3)
  else if t = 0x8004 then some (rectOk l)
  else if t = 0x8005 then some (pathsOk l)
  else if t = 0x8006 then some (policyOk l)
  else if t = 0x8007 then some (loopsOk l)
  else if t = 0x8008 then some (storageOk l)
  else if t = 0x0009 then some (succOk l)
  else if t = 0x000A then some (standOk l)
  else if t = 0x000B then some (handOk l)
  else if t = 0x000C then some (coolOk l)
  else if t = 0x000D then some (spareOk l)
  else if t = 0x000E then some (trigOk l)
  else none

/-- Whether a record stands beside those before it: no repeat of a type that does not repeat; a rectifier's INDEX and
ADDR, a list's LIST, once each (R78, R449, R505). -/
def besideOk (t : Nat) (l : List Byte) (before : List (Nat × List Byte)) : Bool :=
  let same := (before.filter (·.1 == t)).map (·.2)
  if t = 0x8004 then
    decide (same.length < 6) && same.all fun o => leAt o 0 1 != leAt l 0 1 && leAt o 1 1 != leAt l 1 1
  else if t = 0x000E then decide (same.length < 16) && same.all fun o => leAt o 0 1 != leAt l 0 1
  else same.isEmpty

/-- The TLV records of a body (R78), at most `fuel` of them: the records kept, the records skipped, or the offending TYPE. -/
def tlvScan : Nat → List Byte → List (Nat × List Byte) → Nat → Except Nat (List (Nat × List Byte) × Nat)
  | 0, _, acc, k => .ok (acc, k)
  | fuel + 1, b, acc, k =>
    if b.isEmpty then .ok (acc, k)
    else
      let t := leAt b 0 2
      let n := leAt b 2 2
      let room := 4 + (n + 3) / 4 * 4
      if b.length < room ∨ !zeroAt b (4 + n) (room - 4 - n) then .error t
      else
        let v := slice b 4 n
        match recordOk t v with
        | none => if 0x8000 ≤ t then .error t else tlvScan fuel (b.drop room) acc (k + 1)
        | some ok => if ok && besideOk t v acc then tlvScan fuel (b.drop room) (acc ++ [(t, v)]) k else .error t

/-- The critical types of R78, in the table's order. -/
def criticalTypes : List Nat := [0x8001, 0x8002, 0x8003, 0x8004, 0x8005, 0x8006, 0x8007, 0x8008]

/-- The TLV check (R78): the scan, then every critical type present, RECTIFIER exactly six times. -/
def tlvCheck (body : List Byte) : Except Nat (List (Nat × List Byte) × Nat) :=
  match tlvScan (body.length / 4) body [] 0 with
  | .error t => .error t
  | .ok (l, k) =>
    match criticalTypes.find? fun t => if t = 0x8004 then (l.filter (·.1 == t)).length != 6 else l.all (·.1 != t) with
    | some t => .error t
    | none => .ok (l, k)

/-! ### The topology check (R20, R196, R503) -/

/-- The value R503 requires of TOPOLOGY. -/
def topoBytes : List Byte := [2, 52, 48, 4, 13, 12, 13, 8, 104, 8, 6].map (BitVec.ofNat 8)

/-- The entries of LOOPS: register and value (R196). -/
def loopEntries (l : List Byte) : List (Nat × Word) :=
  (List.range (l.length / 8)).map fun i => (0x200000 + leAt l (8 * i) 4, BitVec.ofNat 32 (leAt l (8 * i + 4) 4))

/-- A REIN_CAS_SRC write that R186 refuses. -/
def State.srcConflict (s : State) (a : Nat) (v : Word) : Bool :=
  let c := (a - 0x201000) / 0x40
  let d := fieldGet v 0 3
  decide (0x201000 ≤ a ∧ a < 0x201200 ∧ (a - 0x201000) % 0x40 = 4) && (d == 1 || d == 4)
    && (List.range 8).any fun e => e != c && s.casDest e == d

/-- LOOPS leaves an auto-started cascade with DEST 0x1 and one with DEST 0x4, and nothing is refused under R186. -/
def State.loopsTopo (s : State) (l : List Byte) : Bool :=
  let r := (loopEntries l).foldl (fun (p : State × Bool) e =>
    if p.1.srcConflict e.1 e.2 then (p.1, false) else (p.1.reinWrite e.1 e.2, p.2)) (s, true)
  r.2 && (List.range 8).any (fun c => r.1.casDest c == 1 && r.1.isSet (REIN_CAS_CTRL_AUTO_START c))
    && (List.range 8).any fun c => r.1.casDest c == 4

/-- The topology check: the offending TYPE, if any. -/
def State.topoBad (s : State) (l : List (Nat × List Byte)) : Option Nat :=
  let at_ := fun t => ((l.find? (·.1 == t)).map (·.2)).getD []
  if (at_ 0x8002).take 11 ≠ topoBytes then some 0x8002
  else if !s.loopsTopo (at_ 0x8007) then some 0x8007
  else none

/-! ### The whole check (R76, R77, R512) -/

/-- What the boot ROM finds: the profile digest (R512), and an ERR_CODE with its BOOT_ERR_INFO, or the records, the
number skipped, and whether the profile is signed. -/
structure Found where
  digest : List Byte
  err : Option (Nat × Nat)
  recs : List (Nat × List Byte)
  skipped : Nat
  signed : Bool

/-- The bytes of the whole profile, as its header states them (R76). -/
def profileLen (b : List Byte) : Nat := 0x40 + leAt b 8 4 + 64 + (if leAt b 6 2 = 1 then 2592 + 4627 else 0)

/-- The header (R76, R77 step 2): MAGIC, FORMAT, the reserved bits and bytes, BODY_LEN, the whole within the density. -/
def headerOk (b : List Byte) (kib : Nat) : Bool :=
  let n := leAt b 8 4
  let whole := profileLen b
  slice b 0 4 == [0x41#8, 0x4B#8, 0x59#8, 0x50#8] && leAt b 4 2 == 1 && within b 6 2 0 1 && n % 4 == 0 && decide (n ≤ 1048576)
    && zeroAt b 0x10 48 && decide (whole ≤ 1024 * kib) && decide (whole ≤ b.length)

/-- The signature rules (R77 step 4): BOOT_ERR_INFO of a failure, 0 for none. -/
def State.sigBad (s : State) (b : List Byte) (n : Nat) : Nat :=
  if !s.otp.opkeyEn then 0
  else if leAt b 6 2 ≠ 1 then 1
  else
    let key := slice b (0x40 + n + 64) 2592
    if Config.sha3_512 key ≠ s.otp.opkeyHash then 2
    else if Config.mldsaVerify key (b.take (0x40 + n + 64)) (slice b (0x40 + n + 64 + 2592) 4627) then 0 else 3

/-- The checks of R77 in their order. -/
def State.checkProfile (s : State) (sfdp : Bool) (kib : Nat) (b : List Byte) : Found :=
  let fail := fun (d : List Byte) (c i : Nat) => ({ digest := d, err := some (c, i), recs := [], skipped := 0, signed := false } : Found)
  let n := leAt b 8 4
  let d := Config.sha3_512 (b.take (0x40 + n))
  if !sfdp then fail (zeros 64) 0x01 0
  else if !headerOk b kib then fail (zeros 64) 0x02 kib
  else if d ≠ slice b (0x40 + n) 64 then fail d 0x03 0
  else if s.sigBad b n ≠ 0 then fail d 0x04 (s.sigBad b n)
  else
    match tlvCheck (slice b 0x40 n) with
    | .error t => fail d 0x05 t
    | .ok (l, k) =>
      match s.topoBad l with
      | some t => fail d 0x06 t
      | none => { digest := d, err := none, recs := l, skipped := k, signed := s.otp.opkeyEn }

/-- Show the identity and the paths that the profile sets (R49, R304, R305): FAB_ID, FAB_CTRL and each path's FEC. -/
def State.showFabric (s : State) : State :=
  let id := s.profileAt 0x8001 0 2 0
  let s := ((s.set FAB_ID_SHELF_ID id).set FAB_ID_TEAM (id / 16)).set FAB_ID_HALL_ID (s.profileAt 0x8001 2 2 0)
  let en := s.profileAt 0x8005 2 1 0
  let fec := s.profileAt 0x8005 3 1 0
  let s := (s.setB (FAB_PATH_FEC 0) (bitOf fec 0)).setB (FAB_PATH_FEC 1) (bitOf fec 1)
  ((s.setB FAB_CTRL_NEAR_EN (bitOf en 0)).setB FAB_CTRL_OFF_EN (bitOf en 1)).showTx

/-- One profile SPI transaction (R59). -/
def State.spi (s : State) (instruction addrBytes addr len : Nat) : State := s.emit (.spi instruction addrBytes addr len)

/-- Quad read is used where the device has no quad-enable bit, or where that bit is already set (R60). -/
def sfdpQuad (d : Sfdp) : Bool :=
  match d.quadEnable with
  | none => true
  | some q => q.2

/-- The read instruction and its address bytes (R59, R60): 0x6B or 0x0B with three, 0x6C or 0x0C with four above 16 MiB. -/
def sfdpReader (d : Sfdp) : Nat × Nat :=
  if 16384 < d.kib then (if sfdpQuad d then 0x6C else 0x0C, 4) else (if sfdpQuad d then 0x6B else 0x0B, 3)

/-- What the boot ROM sends over the profile SPI (R59, R60): reset, SFDP, the status read that SFDP names, the header, and the
rest where the header is right. How many bytes one transaction reads is the model's choice (log 66). -/
def State.profileRead (s : State) (d : Sfdp) (b : List Byte) : State :=
  let s := ((s.spi 0x66 0 0 0).spi 0x99 0 0 0).spi 0x5A 3 0 256
  if !d.ok then s
  else
    let s := match d.quadEnable with
      | some q => s.spi q.1.val 0 0 1
      | none => s
    let s := s.spi (sfdpReader d).1 (sfdpReader d).2 0 0x40
    if headerOk b d.kib then s.spi (sfdpReader d).1 (sfdpReader d).2 0x40 (profileLen b - 0x40) else s

/-- PROFILE_READ_COMPLETE (R59 to R61, R77, R80, R512): what SFDP answered, and the bytes from offset 0. The
SPI bus is released, and link training starts if PERST_N is high (R37). -/
def execProfileReadComplete (d : Sfdp) (b : List Byte) (s : State) : Res := s.on fun s =>
  if s.get BOOT_STATUS_PROFILE ≠ 0 then .next s
  else
    let s := s.profileRead d b
    let f := s.checkProfile d.ok d.kib b
    let s := forN 16 (fun i t => t.wrN (BOOT_PROFILE_DIGEST i) (leAt f.digest (4 * i) 4)) s
    let s := s.conn 23 false
    let s := match f.err with
      | some (c, i) => (s.set BOOT_STATUS_PROFILE 3).bootErr c i
      | none =>
        let s := { s with boot := { s.boot with profile := f.recs, skipped := f.skipped } }
        ((s.set BOOT_STATUS_PROFILE (if f.signed then 1 else 2)).bootErrClear).showFabric
    .next (if s.pins.perst then s else { s with pcie := { s.pcie with link := .training } })

end Sys2Proof.Machine
end

