-- ==== Sys2Proof/Machine/Live.lean ====
section
/-! DEFINITION. What a read of BAR0 returns (R8, R14, R18): the register file, and the registers that show live
values (R172, R242, R423, R455, R459, R474, R477, R482). -/

namespace Sys2Proof.Machine

/-! ### SYS_IRQ_SUM (R482, R497) -/

/-- Some W1C bit of a register is set. -/
def State.w1cSet (s : State) (a : Nat) : Bool :=
  match regSpec a with
  | some r => r.fields.any fun f => f.acc == .w1c && fieldGet (s.rd a) f.lo f.w != 0
  | none => false

/-- A source of fixed vector 224 + v holds a set bit (R497). Vectors 233 and 248 to 251 have events and no bits. -/
def State.irqHeld (s : State) (v : Nat) : Bool :=
  match v with
  | 0 => s.isSet SYS_EVT_STATE_CHG
  | 1 => s.w1cSet SYS_CONN_CHG
  | 2 => s.isSet SYS_EVT_BUNDLE_DONE
  | 3 => s.isSet SEC_ATT_CTRL_DONE
  | 4 => s.w1cSet CLK_STATUS || s.w1cSet CLK_XING_OVR || s.w1cSet CLK_FMEAS_CTRL
  | 5 => (List.range 104).any fun n => s.w1cSet (HRN_CH_FAULT n)
  | 6 => (List.range 13).any fun g => s.isSet (HRN_GRP_STATUS_HICCUP g) || s.isSet (HRN_GRP_STATUS_ESC g)
  | 7 => s.isSet HRN_SYNC_STATUS_REFUSED || s.isSet HRN_SYNC_STATUS_LOST || s.isSet HRN_SHED_STATUS_STEP_ADD
      || s.isSet HRN_SHED_STATUS_ABORTED
  | 8 => s.w1cSet REIN_STATUS
  | 10 => s.isSet REIN_TUNE_STATUS_DONE
  | 11 => (List.range 8).any fun c => s.isSet (REIN_CAS_STATUS_FE_TRIP c)
  | 12 => s.w1cSet SPUR_STATUS
  | 13 => s.w1cSet FCST_STATUS || (List.range 16).any fun x => s.isSet (FCST_STR_STATUS_HEAD_REFUSED x)
  | 14 => s.w1cSet (RING_EVT 0) || s.isSet RING_BAL_STATUS_REFUSED
  | 15 => s.w1cSet (RING_EVT 1)
  | 16 => s.w1cSet EST_STATUS || s.isSet EST_REST_STATUS_DONE || s.isSet EST_REST_STATUS_ABORT || s.isSet EST_JNL_STATUS_WARN
      || s.isSet EST_JNL_STATUS_FENCE
  | 17 => s.w1cSet FAB_STATUS
  | 18 => s.isSet (FAB_PATH_ALARM 0) || s.isSet (FAB_PATH_ALARM 1)
  | 19 => s.w1cSet BRD_EVT
  | 20 => s.w1cSet SBG_STATUS || (List.range 16).any (fun l => s.isSet (SBG_LIST_STATUS_FIRED l))
      || (List.range 4).any fun r => s.w1cSet (TEL_R_STATUS r)
  | 21 => s.w1cSet RMT_STATUS
  | 22 => s.isSet (LKS_DIE_STATUS_UE 0) || s.isSet (LKS_DIE_STATUS_FENCE 0) || s.isSet (LKS_FENCE_ERR_VALID 0)
      || s.isSet LKS_BAR2_STATUS_UNMAPPED
  | 23 => s.isSet (LKS_DIE_STATUS_UE 1) || s.isSet (LKS_DIE_STATUS_FENCE 1) || s.isSet (LKS_FENCE_ERR_VALID 1)
  | 28 => s.w1cSet LKS_TRAIN_STATUS
  | 29 => s.w1cSet LKS_FLEET_STATUS
  | _ => false

/-- A queue names a vector in its VEC and holds a set LKS_Q_STATUS bit: a fixed vector named so carries that source too (R497). -/
def State.queueHeld (s : State) (v : Nat) : Bool :=
  (List.range 2).any fun d => (List.range 64).any fun q => s.get (LKS_Q_CTRL_VEC d q) == v && s.w1cSet (LKS_Q_STATUS d q)

/-- SYS_IRQ_SUM (R482). -/
def State.irqSum (s : State) : Nat :=
  (List.range 30).foldl (fun n v => if s.irqHeld v || s.queueHeld (224 + v) then n + 2 ^ v else n) 0

/-! ### Other live registers -/

/-- BRD_STATUS with STARTS and HOLDOFF_LEFT (R423, R434): the hold-off that remains, in 100 ms units, rounded up. -/
def State.brdStatus (s : State) : Word :=
  let hold := s.get BRD_RECOV_CFG_HOLDOFF
  let left := if s.get BRD_STATUS_RECOV = 1 then
      (match s.brd.holdoff with
       | some t => hold - (s.elapsed - t) / (100 * tickMs)
       | none => hold)
    else 0
  fieldPut (fieldPut (s.rd BRD_STATUS) 24 2 (min 2 s.recentStarts.length)) 8 8 left

/-- EST_x_STATUS (R300): RESTING and IN_SERVICE as they are now, RUN while the estimator runs on the string (R278). -/
def State.estStatus (s : State) (x : Nat) : Word :=
  fieldPut (fieldPut (fieldPut (s.rd (EST_STR_STATUS x)) 15 1 (s.resting x).toNat) 14 1 (s.contClosed x).toNat) 13 1
    (s.isSet (EST_STR_STATUS_RUN x) && s.ringDone x).toNat

/-- The word of MRAM at an address. -/
def State.mramWord (s : State) (a : Nat) : Word := BitVec.ofNat 32 (leNat (sparseReadBytes s.mram a 4))

/-- An entry of the repair map of one kind, as its target number names it. -/
def State.repairAt (s : State) (k i : Nat) : Option Repair := (s.rmt.repairs[i]?).filter (·.kind == k)

/-- RMT_WEAR_DATA of the selected part (R477): the four words. A value that the part does not have is free (log 2). -/
def State.wearData (s : State) : List Nat :=
  let i := s.get RMT_WEAR_SEL_INDEX
  match s.get RMT_WEAR_SEL_KIND with
  | 0 =>
    let w := s.rmt.phase.getD i {}
    [w.secs / 36, w.cycles, w.faults, if i < 104 then s.get (HRN_CH_CTRL_ROLE i) + 256 * ((s.rank i).getD (Config.freeNat s.free) % 64) else 0]
  | 1 =>
    if i < 104 then
      let e := s.est.strs.getD (i / 52) {}
      let r := (roundRat (e.r.getD (i % 52) 0)).toNat
      (match e.rBase.getD (i % 52) none with
       | some b => [r, b, (quot (100 * r : Nat) b).floor.toNat, s.cellRole (i / 52) (i % 52)]
       | none => [r, Config.freeNat s.free, Config.freeNat (s.free + 1), s.cellRole (i / 52) (i % 52)])
    else [0, 0, 0, 0]
  | 2 =>
    if i < 64 * variantDies s.otp.variant then
      let p := s.phys (i / 64) (i % 64)
      let w := s.rmt.cores.getD (68 * (i / 64) + p) {}
      [w.ceAt.length, w.total, w.ue, s.get (LKS_PCORE_ROLE (i / 64) p)]
    else [0, 0, 0, 0]
  | 4 =>
    let w := s.rmt.hbm.getD i {}
    [w.ceAt.length, w.total, 0, (s.rmt.hbmSpare.getD (i / 33) none == some (i % 33)).toNat]
  | 6 => [s.rmt.tackFail.getD i 0, 0, 0, (s.rmt.tackMap.getD i i != i).toNat]
  | 7 =>
    let w := s.rmt.inputs.getD (28 * (i / 32) + i % 32) {}
    if i % 32 < 28 then [w.last, w.fails, 0, w.conv] else [0, 0, 0, 0]
  | 8 =>
    let n := ((s.rmt.mramFail.find? (·.1 == i)).map (·.2)).getD 0
    [n, 0, 0, match s.rmt.mramMap.find? (·.1 == i) with
      | some m => 0x8000 + m.2
      | none => 0]
  | 9 => [s.rmt.xtalFail, 0, 0, s.get CLK_SRC_SEL_PLL_REF]
  | k =>
    match s.repairAt k i with
    | some r => [r.addr, r.addr / 2 ^ 32, r.ce, (r.state == 1).toNat]
    | none => [0, 0, 0, 0]

/-- A spare is marked worn (R462). -/
def State.wornSpare (s : State) (k p : Nat) : Bool := s.rmt.worn.any fun w => w.1 == k && w.2 == p

/-- The free spares of each kind (R457, R459, R463), lowest number first. -/
def State.freePhases (s : State) (x : Nat) : List Nat :=
  ((List.range 8).map (96 + ·)).filter fun n => chanString n == x && s.get (HRN_CH_CTRL_ROLE n) == 2 && !s.wornSpare 0 n
def State.freeCells (s : State) (x : Nat) : List Nat :=
  (List.range 52).filter fun p => s.cellRole x p == 1 && !s.wornSpare 1 (52 * x + p)
def State.freeCores (s : State) (d : Nat) : List Nat :=
  (List.range 68).filter fun p => s.get (LKS_PCORE_ROLE d p) == 1 && !s.wornSpare 2 (68 * d + p)
def State.freeConvs (s : State) (b : Nat) : List Nat :=
  [28, 29, 30, 31].filter fun c =>
    !((s.rmt.inputs.drop (28 * b)).take 28).any (fun i => i.conv == c) && !s.wornSpare 7 (32 * b + c)
def State.freeSectors (s : State) : List Nat :=
  ((List.range 32).map (480 + ·)).filter fun n => !s.rmt.mramMap.any (fun m => m.2 == n) && !s.wornSpare 8 n
/-- The spare HBM4 rows that a stack has used, in a bank or in all. -/
def State.rowsUsed (s : State) (stack : Nat) (bank : Option Nat) : Nat :=
  (s.rmt.repairs.filter fun r => r.kind == 3 && r.unit == stack && r.state != 0
    && (match bank with
        | some b => Config.rowBank stack r.addr == b
        | none => true)).length
def State.freeTack (s : State) : Bool := !s.rmt.tackMap.contains 4 && !s.wornSpare 6 4 && s.rmt.tackFail.getD 4 0 == 0
def State.freeChannel (s : State) (stack : Nat) : Bool :=
  (s.rmt.hbmSpare.getD stack none).isNone && !s.wornSpare 4 (33 * stack + 32)

/-- RMT_FREE0 to RMT_FREE2 (R477). The SPARE positions of a string show from its enumeration on, 4 before. -/
def State.freeWord (s : State) (i : Nat) : Nat :=
  let cell := fun (x : Nat) => if s.ringDone x then (s.freeCells x).length else 4
  if i = 0 then
    0x10000000 * (s.freePhases 1).length + 0x1000000 * (s.freePhases 0).length + 0x100000 * cell 1 + 0x10000 * cell 0
      + (if 2 ≤ variantDies s.otp.variant then 0x1000 * (s.freeCores 1).length else 0)
      + (if 1 ≤ variantDies s.otp.variant then 0x100 * (s.freeCores 0).length else 0)
      + 0x10 * s.freeTack.toNat
      + (if 2 ≤ variantDies s.otp.variant then 2 * (s.freeChannel 1).toNat else 0)
      + (if 1 ≤ variantDies s.otp.variant then (s.freeChannel 0).toNat else 0)
  else if i = 1 then
    (List.range 8).foldl (fun n b => n + (s.freeConvs b).length * 2 ^ (3 * b + 8)) s.freeSectors.length
  else
    (if 2 ≤ variantDies s.otp.variant then 0x10000 * (65535 - s.rowsUsed 1 none) else 0)
      + (if 1 ≤ variantDies s.otp.variant then 65535 - s.rowsUsed 0 none else 0)

/-- A word of RMT_LOG (R474, R476). -/
def State.logWord (s : State) (off : Nat) : Word := BitVec.ofNat 32 (leAt (s.rmt.log.getD (off / 32) []) (off % 32) 4)

/-- What a read of a BAR0 offset finds: a live register, or the register file; a register of an absent unit reads
zero (R8), and so does a write-only field (R15). -/
def State.live (s : State) (a : Nat) : Word :=
  if absentAddr s.otp.variant a then 0
  else if a = SYS_IRQ_SUM then BitVec.ofNat 32 s.irqSum
  else if a = BRD_STATUS then s.brdStatus
  else if a = REIN_L1_STATUS then
    fieldPut (s.rd a) 1 1 (s.isSet FCST_STATUS_HR_REQ || s.isSet FAB_STATUS_ABSORBING).toNat
  else if a = PWR_STATUS then fieldPut (s.rd a) 4 1 s.deepReady.toNat
  else if a = FAB_STATUS then (if s.armedStates then s.rd a else fieldPut (s.rd a) 16 2 0)
  else if a = EST_STR_STATUS 0 then s.estStatus 0
  else if a = EST_STR_STATUS 1 then s.estStatus 1
  else if 0x590000 ≤ a ∧ a < 0x5A0000 then
    (if s.get SBG_WIN_SEL_PAGE < 24 then s.mramWord (0x10000 * s.get SBG_WIN_SEL_PAGE + (a - 0x590000)) else 0)
  else if 0x114000 ≤ a ∧ a < 0x118000 then s.mramWord (0x1000 * 392 + (a - 0x114000))
  else if 0x5C0010 ≤ a ∧ a < 0x5C001C then BitVec.ofNat 32 (s.freeWord ((a - 0x5C0010) / 4))
  else if 0x5C0100 ≤ a ∧ a < 0x5C0900 then s.logWord (a - 0x5C0100)
  else if 0x5C0020 ≤ a ∧ a < 0x5C0030 then BitVec.ofNat 32 (s.wearData.getD ((a - 0x5C0020) / 4) 0)
  else if 0x280800 ≤ a ∧ a < 0x280C00 then s.hintWord ((a - 0x280800) / 4)
  else
    match regSpec a with
    | some r => r.fields.foldl (fun w f => if f.acc == .wo then fieldPut w f.lo f.w 0 else w) (s.rd a)
    | none => 0

/-! ### 64-bit values (R18) -/

/-- Whether an offset lies on one of n steps of s from a base. -/
def onStep (a base s n : Nat) : Bool := decide (base ≤ a) && (a - base) % s == 0 && decide ((a - base) / s < n)

/-- The offset of the high word, where an offset holds the low word of a 64-bit value (R18, R481). -/
def highOf (a : Nat) : Option Nat :=
  if a = 0 then some SYS_ID_SN
  else if a = 0x10028 ∨ a = 0x20010 ∨ a = 0x281028 ∨ a = 0x281030 ∨ a = 0x58000C ∨ a = 0x1000914
      ∨ onStep a 0x282008 0x40 16 ∨ onStep a 0x282018 0x40 16 ∨ onStep a 0x300110 0x80 2
      ∨ onStep a 0x300140 8 4 ∨ onStep a 0x3001C0 8 4 ∨ onStep a 0x380114 0x40 2
      ∨ onStep a 0x580108 0x10 16 ∨ onStep a 0x600108 0x40 4 ∨ onStep a 0x600110 0x40 4
      ∨ onStep a 0x280808 0x20 32 ∨ onStep a 0x5C0110 0x20 64 ∨ onStep a 0x5C0118 0x20 64
      ∨ onStep a 0x1000014 0x800000 2 ∨ onStep a 0x1000408 0x20 2 ∨ onStep a 0x1800408 0x20 2
      ∨ onStep a 0x1000410 0x20 2 ∨ onStep a 0x1800410 0x20 2
      ∨ onStep a 0x1010008 0x40 64 ∨ onStep a 0x1010010 0x40 64 ∨ onStep a 0x1010018 0x40 64
      ∨ onStep a 0x1810008 0x40 64 ∨ onStep a 0x1810010 0x40 64 ∨ onStep a 0x1810018 0x40 64 then some (a + 4)
  else none

/-- The high word of the 64-bit value whose low word stands at an offset now: DATA0 and DATA1 of RMT_WEAR_DATA hold one
while an HBM4 row or a DDR5 row is selected (R477). -/
def State.highNow (s : State) (a : Nat) : Option Nat :=
  if a = 0x5C0020 then (if s.get RMT_WEAR_SEL_KIND = 3 ∨ s.get RMT_WEAR_SEL_KIND = 5 then some 0x5C0024 else none)
  else highOf a

/-- A requester's read of an offset (R18): a low word latches its high word, a latched high word is returned once. -/
def State.readAs (s : State) (who a : Nat) : Word × State :=
  let mine := fun (l : Nat × Nat × Word) => l.1 == who && l.2.1 == a
  match s.highNow a with
  | some h =>
    (s.live a, { s with latches := (who, h, s.live h) :: s.latches.filter fun l => !(l.1 == who && l.2.1 == h) })
  | none =>
    match s.latches.find? mine with
    | some l => (l.2.2, { s with latches := s.latches.filter fun l => !mine l })
    | none => (s.live a, s)

/-- The bits of a word that its byte enables carry. -/
def laneMask (be : Nat) : Word :=
  BitVec.ofNat 32 ((List.range 4).foldl (fun m i => if bitOf be i then m + 255 * 256 ^ i else m) 0)

end Sys2Proof.Machine
end

