-- ==== Sys2Proof/Machine/Saddle.lean ====
section
/-! DEFINITION. The Saddlebag's writers: a record's bytes (R439, R440), the MRAM ring and the pinned slots (R442,
R444), snapshots (R447), GAP records (R451), host rings (R452, R453), incidents (R444), the control block (R443),
operating seconds (R436). -/

namespace Sys2Proof.Machine

/-! ### Bytes (R439, R440) -/

/-- The payload of a record from 0x20 on. A GAP whose path has accepted no record since carries the present tick as END. -/
def Rec.payload (r : Rec) (now : Nat) : List Byte :=
  if r.kind = kFault then
    leBytes 1 r.cls ++ leBytes 1 0 ++ leBytes 2 r.reps ++ leBytes 4 r.last ++ r.body ++ zeros 8
  else if r.kind = kGap then
    r.body.take 4 ++ leBytes 8 (if r.reps = 0 then now else r.last) ++ r.body.drop 4
  else r.body

/-- A record as it is written: header, payload, CRC-32C (R439). -/
def Rec.bytes (r : Rec) (now : Nat) : List Byte :=
  let flags := r.prio + (if r.pinned then 4 else 0) + (if r.incOpen then 8 else 0)
  withCrc (padTo (64 * r.units - 4) (leBytes 1 r.kind ++ leBytes 1 flags ++ leBytes 1 r.units ++ leBytes 1 r.domain
    ++ leBytes 4 r.seq ++ leBytes 8 r.time ++ leBytes 8 r.opsec ++ leBytes 4 r.cycles ++ leBytes 2 r.code ++ leBytes 2 r.incident
    ++ r.payload now))

/-! ### The MRAM writer (R442, R444) -/

/-- The units of the ring, and the MRAM address of a unit (R442). -/
def ringUnits : Nat := 20352
def ringAddr (u : Nat) : Nat := 0x1000 * 66 + 64 * u

/-- The first unit of a record of n units: a record never spans the ring's end (R442). -/
def State.ringAt (s : State) (n : Nat) : Nat := if s.sbg.ringNext + n ≤ ringUnits then s.sbg.ringNext else 0

/-- Show the ring's oldest and newest records (R455). -/
def State.showRing (s : State) : State :=
  match s.sbg.ringRecs.head?, s.sbg.ringRecs.getLast? with
  | some o, some n => (s.set SBG_RING_OLDEST o.1).set SBG_RING_NEWEST n.1
  | _, _ => s

/-- Bytes go into the ring at a unit; the records they overwrite are gone. -/
def State.ringWrite (s : State) (u : Nat) (l : List Byte) : State :=
  let n := l.length / 64
  let keep := s.sbg.ringRecs.filter fun p => p.1 + p.2 ≤ u || u + n ≤ p.1
  { s with mram := sparseWriteBytes s.mram (ringAddr u) l, sbg := { s.sbg with ringNext := u + n, ringRecs := keep } }

/-- The pinned slot that takes a record: that of its incident, while it holds fewer than 64 records (R444). -/
def State.pinSlot (s : State) (r : Rec) : Option Nat :=
  if r.incident = 0 then none
  else (List.range 16).find? fun i =>
    s.get (SBG_INC_SLOT_INCIDENT i) == r.incident && decide (s.get (SBG_INC_SLOT_PINNED i) < 64)

/-- Write a record whole, into its incident's slot or into the ring. -/
def State.mramRecord (s : State) (r : Rec) : State :=
  match s.pinSlot r with
  | some i =>
    let u := s.sbg.slotUnits.getD i 0
    let s := { s with
      mram := sparseWriteBytes s.mram (0x1000 * 2 + 0x4000 * i + 64 * u) ({ r with pinned := true }.bytes s.now),
      sbg := { s.sbg with slotUnits := s.sbg.slotUnits.set i (u + r.units) } }
    s.bumpSat (SBG_INC_SLOT_PINNED i) 1
  | none =>
    let u := s.ringAt r.units
    let s := s.ringWrite u (r.bytes s.now)
    { s with sbg := { s.sbg with ringRecs := s.sbg.ringRecs ++ [(u, r.units)] } }.showRing

/-- A write that does not verify: its units hold free bytes (log 2), the failure counts towards a remap of the sector
(R467), and the record waits on, in the ring for the units behind. -/
def State.mramMiss (s : State) (r : Rec) : State :=
  let f := s.fresh
  let l := leBytes (64 * r.units) f.1
  match s.pinSlot r with
  | some i =>
    let a := 0x1000 * 2 + 0x4000 * i + 64 * s.sbg.slotUnits.getD i 0
    { f.2 with mram := sparseWriteBytes s.mram a l }.mramFailed (a / 0x1000)
  | none => (f.2.ringWrite (s.ringAt r.units) l).showRing.mramFailed (66 + s.ringAt r.units / 64)

/-- LAST_FAULT_RECORD_WRITE (R172, R173, R296): the record at the head of the queue lands in the next slot, a journal entry being
written first; the journal follows. -/
def execLastFaultRecordWrite (s : State) : Res := s.on fun s =>
  match s.hrn.lfrQ with
  | [] => .next s
  | r :: t =>
    if s.isSet EST_JNL_STATUS_BUSY || s.sectorMoving (392 * 0x1000 + 0x100 * s.hrn.lfrSlot) then .next s
    else
      let i := s.hrn.lfrSlot
      let s := { s with
        mram := sparseWriteBytes s.mram (392 * 0x1000 + 0x100 * i) r.bytes,
        hrn := { s.hrn with lfrQ := t, lfrSlot := (i + 1) % 64 } }
      .next (((s.set HRN_LFR_STATUS_PENDING t.length).set HRN_LFR_STATUS_ANY 1).set HRN_LFR_STATUS_NEWEST i).jnlStart.wearGo

/-- The MRAM writer serves last-fault records first, then the journal (R296). -/
def State.writerTaken (s : State) : Bool := !s.hrn.lfrQ.isEmpty || s.isSet EST_JNL_STATUS_BUSY || s.isSet EST_JNL_STATUS_PENDING

/-- Where a record goes in MRAM: its incident's slot, or the ring. -/
def State.recAddr (s : State) (r : Rec) : Nat :=
  match s.pinSlot r with
  | some i => 0x1000 * 2 + 0x4000 * i + 64 * s.sbg.slotUnits.getD i 0
  | none => ringAddr (s.ringAt r.units)

/-- MRAM_RECORD_WRITE (R296, R442): the writer finishes the oldest record that waits, unless it has a last-fault record or a journal
entry to write; `mismatch` when the read-back differs. -/
def execMramRecordWrite (mismatch : Bool) (s : State) : Res := s.on fun s =>
  match (s.path 0).queue with
  | [] => .next s
  | q :: t =>
    if s.fenced || s.writerTaken || s.sectorMoving (s.recAddr q.rec_) then .next s
    else if mismatch then .next (s.mramMiss q.rec_)
    else
      let s := (s.setPath 0 { s.path 0 with queue := t }).mramRecord q.rec_
      .next ((if q.rec_.kind = kGap then s.raiseBit SBG_STATUS_GAP 244 else s).showLevel 0).wearGo

/-! ### The scan at power-up (R442) -/

/-- The units of the valid record at an MRAM address, if one begins there, with its SEQ. -/
def State.recAt (s : State) (a : Nat) : Option (Nat × Nat) :=
  let h := sparseReadBytes s.mram a 8
  let n := leAt h 2 1
  if leAt h 0 1 = 0 ∨ 9 < leAt h 0 1 ∨ n = 0 ∨ 4 < n then none
  else if crcOk (sparseReadBytes s.mram a (64 * n)) then some (n, leAt h 4 4) else none

/-- Every valid record of the ring: first unit, units, SEQ. -/
def State.ringScan (s : State) : List (Nat × Nat × Nat) :=
  (List.range ringUnits).filterMap fun u => (s.recAt (ringAddr u)).map fun p => (u, p.1, p.2)

/-- The highest SEQ of the pinned slots, one more than it; 0 where they hold no record. -/
def State.pinnedSeq (s : State) : Nat :=
  (List.range 4096).foldl (fun m u => match s.recAt (0x1000 * 2 + 64 * u) with
    | some r => max m (r.2 + 1)
    | none => m) 0

/-- The ring as the scan finds it: the newest record is the one of the highest SEQ; the answer is one more than it, 0 for none. -/
def State.ringFound (s : State) : State × Nat :=
  let l := s.ringScan
  match l.foldl (fun (b : Option (Nat × Nat × Nat)) (r : Nat × Nat × Nat) => match b with
      | none => some r
      | some q => if q.2.2 < r.2.2 then some r else some q) none with
  | none => ({ s with sbg := { s.sbg with ringNext := 0, ringRecs := [] } }, 0)
  | some n =>
    let recs : List (Nat × Nat × Nat) := (l.filter fun (r : Nat × Nat × Nat) => n.1 < r.1) ++ l.filter fun (r : Nat × Nat × Nat) => r.1 ≤ n.1
    let s := { s with sbg := { s.sbg with ringNext := n.1 + n.2.1, ringRecs := recs.map fun (r : Nat × Nat × Nat) => (r.1, r.2.1) } }
    (s.showRing, n.2.2 + 1)

/-! ### Snapshots (R446 to R448) -/

/-- The recorder's requester number in R18's latches, beyond the host's. -/
def recorder : Nat := 256

/-- Read the registers of a list in its order, each with R18's latch. -/
def State.listReads (s : State) (l : Nat) : Nat → List Word × State
  | 0 => ([], s)
  | k + 1 =>
    let p := s.listReads l k
    let r := p.2.readAs recorder (p.2.rdN (SBG_LIST_ADDR l k))
    (p.1 ++ [r.1], r.2)

/-- SNAPSHOT_COMPLETE (R440, R447): the reads of list l ended, `start` and `stop` ticks after its trigger; the values are
those of the registers as this command finds them. -/
def execSnapshotComplete (l : Fin 16) (start stop : Word) (s : State) : Res := s.on fun s =>
  match s.sbg.snaps.find? fun p => p.list == l.val with
  | none => .next s
  | some p =>
    let n := s.get (SBG_LIST_CFG_N l.val)
    let r := s.listReads l.val n
    let s := { r.2 with latches := r.2.latches.filter (·.1 != recorder),
                        sbg := { r.2.sbg with snaps := r.2.sbg.snaps.filter (·.list != l.val) } }
    let body := leBytes 1 l.val ++ leBytes 1 n ++ leBytes 2 p.missed ++ leBytes 4 start.toNat ++ leBytes 4 stop.toNat
      ++ padTo 128 (r.1.map fun w => leBytes 4 w.toNat).flatten
    let prio := if s.isSet (SBG_LIST_CFG_INCIDENT l.val) then 0 else 1
    let q := { s.mkRec kSnapshot prio 5 0 l.val 0 p.incOpen body with time := p.time, incident := p.incident }
    let s := (forN 5 (fun i t => t.toPath i q) (s.wrapReg SBG_SEQ)).showWakeN
    .next ((s.clear (SBG_LIST_STATUS_BUSY l.val)).raiseBit (SBG_LIST_STATUS_FIRED l.val) 244)

/-- A bit of SBG_TRIG is written 1: the list fires if its TKIND is 4 (R446, R455). -/
def State.trig (s : State) (l : Nat) : State := if s.get (SBG_LIST_CFG_TKIND l) = 4 then s.fireList l else s

/-- SBG_TRIG (R446). -/
def execSbgTrig (l : Fin 16) (s : State) : Res := s.on fun s => .next (s.trig l.val)

/-! ### Incidents, control block, operating seconds (R436, R443, R444) -/

/-- The host opens an incident, or joins the open one (R444). -/
def State.mark (s : State) : State := s.openIncident.clear SBG_CTRL_MARK

/-- MARK (R444). -/
def execMark (s : State) : Res := s.on fun s => .next s.mark

/-- INCIDENT_CLOSE (R444): the incident closes once 10 s have passed since its last opening event. -/
def execIncidentClose (s : State) : Res := s.on fun s =>
  .next (if s.sbg.incAt + 10 * tickS ≤ s.elapsed then s.clear SBG_STATUS_INC_OPEN else s)

/-- SBG_INC_KEEP is written, and the control block with it (R443). -/
def State.keepWrite (s : State) (v : Nat) : State := (s.set SBG_INC_KEEP_KEEP v).writeCb

/-- INC_KEEP_WRITE (R443). -/
def execIncKeepWrite (v : Fin 65536) (s : State) : Res := s.on fun s => .next (s.keepWrite v.val)

/-- CONTROL_BLOCK_PERIODIC (R443). -/
def execControlBlockPeriodic (s : State) : Res := s.on fun s => .next s.writeCb

/-- The indicators that count by the second: switching time of each channel, and the corrected errors of Larkspur's
cores and of HBM4 channels older than 24 operating hours leave their count (R460). -/
def State.wearSecond (s : State) : State :=
  { s with rmt := { s.rmt with
    phase := (List.range 104).map fun n =>
      let w := s.rmt.phase.getD n {}
      if stActive (s.chSt n) then { w with secs := w.secs + 1 } else w,
    cores := s.rmt.cores.map fun w => { w with ceAt := w.ceAt.filter fun t => s.opsec < t + 86400 },
    hbm := s.rmt.hbm.map fun w => { w with ceAt := w.ceAt.filter fun t => s.opsec < t + 86400 } } }

/-- Remount returns PLL_REF to XTAL-A (R470): in PASSIVE, once XTAL-A has been ready for 10 s. -/
def State.xtalBack (s : State) : State :=
  if s.rmt.firc && s.shelf == stPassive && s.isSet CLK_READY_XTAL_A && decide (s.clk.xtalAt + 10 * tickS ≤ s.elapsed)
      && !s.isSet CLK_STATUS_SW_BUSY && s.isSet CLK_SRC_SEL_PLL_REF then
    { s.pllRefStart 0 with rmt := { (s.pllRefStart 0).rmt with firc := false } }
  else s

/-- OPERATING_SECOND (R123, R436): the count, the wake timer down to 1 (WAKE_TIMER_EXPIRY takes it to 0), Remount's
seconds, XTAL-A as the reference again (R470), and 0x0703 once more while two shelves share an identity. -/
def execOperatingSecond (s : State) : Res := s.on fun s =>
  let s := s.wr64 SBG_OPSEC_LO SBG_OPSEC_HI ((s.opsec + 1) % 2 ^ 40)
  let s := if 1 < s.rdN PWR_WAKE_TIMER then s.wrN PWR_WAKE_TIMER (s.rdN PWR_WAKE_TIMER - 1) else s
  let s := s.wearSecond.xtalBack
  .next (if s.isSet FAB_STATUS_ID_CONFLICT then s.raise 0x0703 0 0 0 else s)

/-! ### GAP records (R451) -/

/-- The priorities that a gap has lost, as a mask. -/
def Gap.mask (g : Gap) : Nat :=
  (if 0 < g.lostP1 then 2 else 0) + (if 0 < g.lostP2 + g.sampled then 4 else 0) + (if 0 < g.lostP3 then 8 else 0)

/-- Deliver the pending GAP record of a path into its queue (R451). -/
def State.gapOut (s : State) (i : Nat) : State :=
  match (s.path i).gap with
  | none => s
  | some g =>
    let body := leBytes 1 g.cause ++ leBytes 1 i ++ zeros 2 ++ leBytes 4 g.lostP1 ++ leBytes 4 g.lostP2 ++ leBytes 4 g.sampled
      ++ leBytes 4 g.lostP3 ++ leBytes 4 g.xing
    let r := { s.mkRec kGap 0 5 0 i g.mask false body with
                time := g.time, reps := g.stop.isSome.toNat, last := g.stop.getD 0 }
    let s := (s.wrapReg SBG_SEQ).setPath i { s.path i with gap := none }
    (s.enqueue i r (s.level i == 2 || decide (pathCap i < (s.path i).fill + 2))).showLevel i

/-- A GAP record waits in a path's queue. -/
def State.gapWaits (s : State) (i : Nat) : Bool := (s.path i).queue.any fun q => q.rec_.kind == kGap

/-- GAP_RECORD_DUE (R451): on a path that is not held, at NORMAL or with room in the reserve. After the write fence
nothing goes to MRAM (R445). -/
def execGapRecordDue (i : Fin 5) (s : State) : Res := s.on fun s =>
  if (i.val = 0 ∧ s.fenced) ∨ s.held i.val ∨ s.gapWaits i.val then .next s
  else if s.level i.val = 0 ∨ (s.path i.val).reserveFill + 2 ≤ 256 then .next (s.gapOut i.val)
  else .next s

/-! ### Host rings (R452, R453) -/

/-- Ring r's host address of a unit, and of its tail word (R452). -/
def State.ringBase (s : State) (r : Nat) : Nat := s.rd64 (TEL_R_BASE_LO r) (TEL_R_BASE_HI r)
def State.ringWb (s : State) (r : Nat) : Nat := s.rd64 (TEL_R_WB_LO r) (TEL_R_WB_HI r)

/-- A PAD record of n units (R440, R452): its timestamps are those of the moment; the spec gives it no SEQ of its own
(log 2). -/
def State.padRec (s : State) (n : Nat) : List Byte × State :=
  let f := s.fresh
  ({ s.mkRec 0 0 5 0 0 0 false [] with units := n, seq := f.1, incident := 0 }.bytes s.now, f.2)

/-- Write bytes at ring r's tail, move the tail, write it back (R452). -/
def State.tailWrite (s : State) (r : Nat) (l : List Byte) : State :=
  let n := l.length / 64
  let tail := s.get (TEL_R_TAIL_UNIT r)
  let s := s.emit (.hostWrite (s.ringBase r + 64 * tail) l)
  let t := (tail + n) % s.ringSize r
  let s := (s.set (TEL_R_TAIL_UNIT r) t).emit (.hostWrite (s.ringWb r) (leBytes 4 t))
  s.setPath (r + 1) { s.path (r + 1) with sinceIrq := (s.path (r + 1)).sinceIrq + n }

/-- The ring's interrupt after THR units, and after a P0 record (R452). -/
def State.ringIrq (s : State) (r prio : Nat) : State :=
  let thr := s.get (TEL_R_CTRL_THR r)
  let p := s.path (r + 1)
  if thr ≤ p.sinceIrq then
    (s.setPath (r + 1) { p with sinceIrq := p.sinceIrq % max 1 thr }).msix (s.get (TEL_R_CTRL_VEC r))
  else if prio = 0 then s.msix (s.get (TEL_R_CTRL_VEC r))
  else s

/-- HOST_RING_RECORD_WRITE (R452): the oldest record of ring r's queue, behind a PAD where it would cross the end; a
write that fails on PCIe sets WB_ERR and clears ENABLE. -/
def execHostRingRecordWrite (r : Fin 4) (fail : Bool) (s : State) : Res := s.on fun s =>
  let r := r.val
  match (s.path (r + 1)).queue with
  | [] => .next s
  | q :: t =>
    if s.held (r + 1) || !(s.path (r + 1)).used then .next s
    else if fail then .next (((s.raiseBit (TEL_R_STATUS_WB_ERR r) 244).clear (TEL_R_CTRL_ENABLE r)).showLevel (r + 1))
    else
      let room := s.ringSize r - s.get (TEL_R_TAIL_UNIT r)
      let s := if room < q.rec_.units then (let p := s.padRec room; p.2.tailWrite r p.1) else s
      let s := s.setPath (r + 1) { s.path (r + 1) with queue := t }
      let s := (s.tailWrite r (q.rec_.bytes s.now)).ringIrq r q.rec_.prio
      .next ((if q.rec_.kind = kGap then s.raiseBit (TEL_R_STATUS_GAP r) 244 else s).showLevel (r + 1)).showWakeN

/-- A hold of ring r has ended (R453): the held records stand first, its GAP record behind them. -/
def State.holdEnd (s : State) (r : Nat) : State :=
  if s.held (r + 1) || s.gapWaits (r + 1) then s.showLevel (r + 1) else (s.gapOut (r + 1)).showLevel (r + 1)

/-- HOST_RING_HOLD_END (R453). -/
def execHostRingHoldEnd (r : Fin 4) (s : State) : Res := s.on fun s => .next (s.holdEnd r.val)

/-- TEL_R_HEAD is written (R452, R456): beyond the ring it is ignored; a hold by a full ring ends with it. -/
def State.headWrite (s : State) (r : Nat) (v : Word) : State :=
  let u := v.toNat % 2 ^ 20
  if s.ringSize r ≤ u then s.raiseBit (TEL_R_STATUS_HEAD_ERR r) 244
  else
    let was := s.held (r + 1)
    let s := (s.set (TEL_R_HEAD_UNIT r) u).showLevel (r + 1)
    if was then s.holdEnd r else s

/-- TEL_HEAD_WRITE (R452). -/
def execTelHeadWrite (r : Fin 4) (v : Word) (s : State) : Res := s.on fun s => .next (s.headWrite r.val v)

end Sys2Proof.Machine
end

