-- ==== Sys2Proof/Machine/Remount.lean ====
section
/-! DEFINITION. Remount (R457 to R477): triggers, the host's requests, the spare, the gate, the switch, the
verification and its log entry, for each kind of part; measurement inputs; Tack cores; FIRC for XTAL-A. -/

namespace Sys2Proof.Machine

/-! ### A kind's register (R462, R477) -/

def rIdle : Nat := 0
def rDue : Nat := 1
def rWait : Nat := 2
def rSwitch : Nat := 3
def rVerify : Nat := 4
def rDone : Nat := 5
def rFailed : Nat := 6
def rCancelled : Nat := 7

/-- The state of kind k, and its substitution. -/
def State.kst (s : State) (k : Nat) : Nat := s.get (RMT_KIND_STATE k)
def State.subst (s : State) (k : Nat) : Subst := s.rmt.subst.getD k {}

/-- Move kind k to a state with a cause. -/
def State.kindTo (s : State) (k st cause : Nat) : State :=
  (s.set (RMT_KIND_STATE k) st).set (RMT_KIND_CAUSE k) cause

/-- A kind that can take its next part (R462). -/
def State.kindFree (s : State) (k : Nat) : Bool :=
  s.kst k == rIdle || s.kst k == rDone || s.kst k == rFailed || s.kst k == rCancelled

/-- Set a bit of RMT_STATUS with its vector (R497). -/
def State.rmtFlag (s : State) (f : Field) : State := s.raiseBit f 245

/-- The thresholds of SPARE_POLICY (R461). -/
def State.spare (s : State) (off n dflt : Nat) : Nat := s.profileAt 0x000D off n dflt

/-! ### Parts and spares (R457, R463) -/

/-- A target lies in its kind's numbering (R477). -/
def State.targetOk (s : State) (k t : Nat) : Bool :=
  match k with
  | 0 | 1 => decide (t < 104)
  | 2 => decide (t < 64 * s.dies)
  | 3 | 5 => (s.repairAt k t).isSome
  | 4 => decide (t / 33 < s.dies ∧ t % 33 < 32)
  | 6 => decide (t < 4)
  | 7 => decide (t < 256 ∧ t % 32 < 28)
  | 8 => decide (t < 480)
  | _ => decide (t = 0)

/-- The SPARE position of a string with the smallest |v − v̄|, the lowest on equal values (R463). -/
def State.nearestCell (s : State) (x : Nat) : Option Nat :=
  (s.freeCells x).foldl (fun b p => match b with
    | none => some p
    | some q => if |(s.volt x p : Rat) - s.vbar x| < |(s.volt x q : Rat) - s.vbar x| then some p else some q) none

/-- The free spares that a target may take, in the numbering of RMT_KIND_k, the one to choose first (R463). -/
def State.spareList (s : State) (k t : Nat) : List Nat :=
  match k with
  | 0 => s.freePhases (chanString t)
  | 1 => ((s.nearestCell (t / 52)).toList ++ s.freeCells (t / 52)).map (52 * (t / 52) + ·)
  | 2 => (s.freeCores (t / 64)).map (68 * (t / 64) + ·)
  | 3 =>
    match s.repairAt 3 t with
    | some r =>
      let n := s.rowsUsed r.unit (some (Config.rowBank r.unit r.addr))
      (List.range (4 - n)).map (n + ·)
    | none => []
  | 4 => if s.freeChannel (t / 33) then [33 * (t / 33) + 32] else []
  | 6 => if s.freeTack then [4] else []
  | 7 => (s.freeConvs (t / 32)).map (32 * (t / 32) + ·)
  | 8 => s.freeSectors
  | _ => [0]

/-- Exchange a channel's ROLE, with what Harness makes of it (R148, R176); a channel that is not fitted stays out of service (R504). -/
def State.roleTo (s : State) (n role : Nat) : State :=
  let role := if s.unfitted n then 0 else role
  let s := s.set (HRN_CH_CTRL_ROLE n) role
  (if role = 1 then (if s.hrnClocked && s.chSt n == chOff then s.toRest n else s) else s.leaveService n).afterChans

/-- The wear of a channel is that of FAULTED entries (R460, R471). -/
def State.tooFaulty (s : State) (n : Nat) : Bool := s.spare 9 1 3 ≤ (s.rmt.phase.getD n {}).faults

/-- The channel of an ISNS or TEMP input, by the input's number 28 × bank + input (R458; log 44). -/
def inputChan (i : Nat) : Option Nat := if i < 208 then some (i % 104) else none

/-- A failed input of a bank without a free spare (R469). The readings that a health input then shows reach their
detectors as those detectors' commands; the four temperatures and TIN act here (log 44). -/
def State.inputDead (s : State) (i : Nat) : State :=
  match inputChan i with
  | some n => s.roleTo n 0
  | none =>
    if i = 208 then (s.set BRD_COOL_T_IN 46).pumpsFull.raise 0x0505 0 46 45 |>.showLksCap
    else if 210 ≤ i ∧ i < 214 then
      let k := i - 210
      (s.set (tempNow k) (s.get (tempLim k) + 1)).raise (0x0506 + k) 0 (s.get (tempLim k) + 1 : Nat) (s.get (tempLim k))
    else s

/-- The input of a target of kind 7. -/
def inputOf (t : Nat) : Nat := 28 * (t / 32) + t % 32

/-! ### The gate and the switch (R457, R464 to R467, R470) -/

/-- G12 lets a hold be placed (R464). -/
def State.spareGroupOk (s : State) : Bool :=
  let g := s.get (HRN_GRP_STATUS_STATE 12)
  g != 2 && g != 3 && g != 4

/-- PHASE_HOLD_PLACE (R464): in ARMING, ARMED and DERATED, with |I_s| ≤ PH_GATE_A, the target's group sheds and is held. -/
def execPhaseHoldPlace (s : State) : Res := s.on fun s =>
  let t := (s.subst 0).target
  let x := chanString t
  if s.kst 0 = rWait ∧ s.armedStates ∧ s.hrn.phHold.isNone ∧ s.spareGroupOk
      ∧ (s.hrn.strCmd.getD x 0).natAbs * 8192 ≤ s.spare 10 2 1000 * 2 ^ 31 then
    let s := { s with hrn := { s.hrn with phHold := some (x, t) } }
    .next (forL (groupChans (chanGroup t)) (fun n u =>
      if u.chSt n = chRun ∨ u.chSt n = chRestarting then u.beginShed n else u) s).afterChans
  else .next s

/-- No job, tiering copy or BAR2 window uses a stack (R467). -/
def State.stackUnused (s : State) (n : Nat) : Bool :=
  !s.lks.jobs.any (fun j => j.die == n)
    && !s.lks.tiers.any (fun t => t.active && (stackMeets n t.src t.len || stackMeets n t.dst t.len))
    && !(List.range 4).any fun w => s.isSet (LKS_BAR2_WIN_EN w) && stackMeets n (0x400000000 * s.get (LKS_BAR2_WIN_BASE w)) 0x400000000

/-- The gate of a kind's WAIT (R457, R464 to R467, R470, R472). -/
def State.gateMet (s : State) (k : Nat) : Bool :=
  let t := (s.subst k).target
  match k with
  | 0 =>
    if s.armedStates then s.phHeld t && (groupChans (chanGroup t)).all fun n => !stActive (s.chSt n) else true
  | 1 => s.get EST_REST_STATUS_STATE == 2 && s.get EST_REST_STATUS_STRING == t / 52 && !s.swapping (t / 52)
  | 2 =>
    let st := s.coreSt (t / 64) (t % 64)
    st == cFailed || ((st == cIdle || st == cRet) && !s.jobHolds (t / 64) (t % 64) && !s.burstHolds (t / 64) (t % 64))
  | 3 => bitOf (s.rdN CLK_GATE_EFF) (10 + ((s.repairAt 3 t).map (·.unit)).getD 0)
  | 4 => s.stackUnused (t / 33) && (t / 33 != 0 || s.shelf == stPassive)
  | 5 => s.shelf == stPassive && !(1 ≤ s.get BOOT_STATUS_BUNDLE && s.get BOOT_STATUS_BUNDLE ≤ 3)
  | 7 => s.hrnClocked
  | 9 => s.isSet CLK_STATUS_HOLD && s.isSet CLK_READY_FIRC && !s.isSet CLK_STATUS_SW_BUSY && s.get CLK_SRC_SEL_PLL_REF == 0
  | _ => true

/-- The phase switch, in one control-clock cycle (R149, R464). -/
def State.phaseSwitch (s : State) (t p : Nat) : State :=
  let s := s.set (HRN_CH_CTRL_ROLE t) 0
  let s := s.chPark t chOff
  let s := { s with hrn := { s.hrn with spareRank := s.hrn.spareRank.set (p - 96) (s.rank t) } }
  s.roleTo p 1

/-- Give an input a converter (R469). -/
def State.convTo (s : State) (t c : Nat) : State :=
  { s with rmt := { s.rmt with inputs := modAt s.rmt.inputs (inputOf t) fun (w : InputWear) => { w with conv := c, run := 0 } } }

/-- An input moves to a spare converter of its bank (R469): a phase current is sampled at its previous value once more. -/
def State.inputMove (s : State) (t c : Nat) : State :=
  let s := s.convTo t c
  if inputOf t < 104 then { s with meas := { s.meas with again := some (inputOf t) } } else s

/-- The mechanism of a kind starts (R464 to R468, R470). -/
def State.mechanism (s : State) (k : Nat) : State :=
  let u := s.subst k
  match k with
  | 0 => s.phaseSwitch u.target u.spare
  | 1 => s.swapRequest (u.target / 52) (u.spare % 52) (u.target % 52)
  | 2 =>
    let d := u.target / 64
    let c := u.target % 64
    let st := s.coreSt d c
    let s := s.setCore d c { s.core d c with before := st, spare := u.spare % 68 }
    if st = cFailed then s else s.coreTo d c cCopy
  | 6 => { s with rmt := { s.rmt with tackMap := s.rmt.tackMap.set u.target u.spare } }
  | 7 => s.inputMove u.target (u.spare % 32)
  | 8 => { s with rmt := { s.rmt with mramMap := (u.target, u.spare) :: s.rmt.mramMap.filter (·.1 != u.target) } }
  | 9 => { s.pllRefStart 1 with rmt := { (s.pllRefStart 1).rmt with firc := true } }
  | _ => s

/-- The gate of a WAIT is met: SWITCH. -/
def State.switchNow (s : State) (k : Nat) : State := (s.kindTo k rSwitch 0).mechanism k

/-- What happens to a part for which no spare is free (R469, R471). -/
def State.noSpare (s : State) (k t : Nat) : State :=
  let s := s.rmtFlag RMT_STATUS_NO_SPARE
  match k with
  | 0 => if s.tooFaulty t then s.roleTo t 0 else s
  | 7 => s.inputDead (inputOf t)
  | _ => s

/-- A substitution-log entry (R474). -/
def State.logEntry (s : State) (k : Nat) : List Byte :=
  let u := s.subst k
  leBytes 4 s.rmt.logSeq ++ leBytes 1 k ++ leBytes 1 (s.kst k) ++ leBytes 1 u.trigger ++ leBytes 1 (s.get (RMT_KIND_CAUSE k))
    ++ leBytes 2 u.target ++ leBytes 2 u.spare ++ leBytes 4 (s.rdN SBG_CYCLES) ++ leBytes 8 s.opsec ++ leBytes 8 s.now

/-- Write an entry into the next of the 64 slots, over the oldest (R474). -/
def State.logWrite (s : State) (k : Nat) : State :=
  let i := s.rmt.logNext
  let s := { s with rmt := { s.rmt with log := s.rmt.log.set i (s.logEntry k), logSeq := s.rmt.logSeq + 1, logNext := (i + 1) % 64 } }
  (s.set RMT_LOG_STATUS_NEWEST i).bumpSat RMT_LOG_STATUS_COUNT 1

/-! ### From a trigger to WAIT (R462) -/

/-- The substitution of kind k names a target, a spare and a trigger. -/
def State.named (s : State) (k t p trigger : Nat) : State :=
  (({ s with rmt := { s.rmt with subst := s.rmt.subst.set k ⟨t, p, trigger⟩ } }).set (RMT_KIND_TARGET k) t).set (RMT_KIND_SPARE k) p

/-- No spare is free for a part: FAILED (R462, R471). -/
def State.spareless (s : State) (k t trigger : Nat) : State :=
  (((((s.named k t 0 trigger).kindTo k rFailed 2).rmtFlag RMT_STATUS_FAILED).noSpare k t).logWrite k).writeWear

/-- A substitution whose gate stands open as it enters WAIT: a FAILED core, a channel while the phases are off, the kinds without a
gate and FIRC (R457, R464, R466, R470). -/
def State.atOnce (s : State) (k : Nat) : Bool :=
  match k with
  | 0 => !s.armedStates
  | 2 => s.coreSt ((s.subst 2).target / 64) ((s.subst 2).target % 64) == cFailed
  | 6 | 8 | 9 => s.gateMet k
  | _ => false

/-- A part enters WAIT with its spare, or the substitution fails for want of one. A cell's string becomes due (R465). -/
def State.toWait (s : State) (k t trigger : Nat) (named : Option Nat) : State :=
  let l := s.spareList k t
  match (match named with
    | some p => if p ∈ l then some p else l.head?
    | none => l.head?) with
  | some p =>
    let s := (s.named k t p trigger).kindTo k rWait 0
    let s := if k = 1 then { s with est := { s.est with dueNow := some (t / 52) } } else s
    if s.atOnce k then s.switchNow k else s
  | none => s.spareless k t trigger

/-- The next part of a kind that is free (R462): WAIT with AUTO, DUE without. -/
def State.takeUp (s : State) (k t trigger : Nat) : State :=
  if bitOf (s.get RMT_CTRL_AUTO) k then s.toWait k t trigger none
  else (((s.set (RMT_KIND_TARGET k) t).set (RMT_KIND_SPARE k) 0).kindTo k rDue 0).rmtFlag RMT_STATUS_DUE

/-- The parts of a kind that wait are taken in turn while the kind is free (R462). -/
def State.nextTurn (s : State) (k : Nat) : Nat → State
  | 0 => s
  | n + 1 =>
    if !s.kindFree k then s
    else
      match s.rmt.turn.find? (·.1 == k) with
      | none => s
      | some q =>
        State.nextTurn ({ s with rmt := { s.rmt with turn := s.rmt.turn.erase q } }.takeUp k q.2.1 q.2.2) k n

/-- After a substitution has ended. -/
def State.thenNext (s : State) (k : Nat) : State := s.nextTurn k s.rmt.turn.length

/-- A part is already being handled, or waits its turn. -/
def State.known (s : State) (k t : Nat) : Bool :=
  (!s.kindFree k && s.get (RMT_KIND_TARGET k) == t) || s.rmt.turn.any fun q => q.1 == k && q.2.1 == t

/-- A part meets its trigger (R462): taken up, or left waiting in order. -/
def State.due (s : State) (k t trigger : Nat) : State :=
  if s.known k t then s
  else if s.kindFree k then (s.takeUp k t trigger).thenNext k
  else { s with rmt := { s.rmt with turn := s.rmt.turn ++ [(k, t, trigger)] } }

/-- A WAIT whose spare has been taken or lost takes another, and fails where none remains (R462, R463). -/
def State.respare (s : State) (k : Nat) : State :=
  let u := s.subst k
  let l := s.spareList k u.target
  if u.spare ∈ l then s
  else match l.head? with
    | some p => s.named k u.target p u.trigger
    | none => (s.spareless k u.target u.trigger).thenNext k

/-- SUBSTITUTION_GATE_MET (R462): the mechanism runs, with a spare that is free. -/
def execSubstitutionGateMet (k : Fin 10) (s : State) : Res := s.on fun s =>
  if s.kst k.val = rWait ∧ s.gateMet k.val then
    let s := s.respare k.val
    .next (if s.kst k.val = rWait then s.switchNow k.val else s)
  else .next s

/-! ### SUBSTITUTION_TRIGGER (R460) -/

/-- The corrected errors that a controller reports with a trigger join the counts of the row, by its repair-map entry's number or
as the entry behind the last one, or of the channel (R460, R473). -/
def State.trigNote (s : State) (i : TrigIn) : State :=
  let k := i.kind.val
  let t := i.target.val
  if k = 3 ∨ k = 5 then
    let r : Repair := { kind := k, unit := i.unit.val, ce := i.ce.val, addr := i.addr.toNat, state := 0 }
    match s.rmt.repairs[t]? with
    | some o => if o.kind = k ∧ o.state = 0 then { s with rmt := { s.rmt with repairs := s.rmt.repairs.set t { o with ce := o.ce + i.ce } } } else s
    | none => if t = s.rmt.repairs.length ∧ t < 256 then { s with rmt := { s.rmt with repairs := s.rmt.repairs ++ [r] } } else s
  else if k = 4 then
    { s with rmt := { s.rmt with hbm := modAt s.rmt.hbm t fun (w : ChanWear) =>
        { w with ceAt := (List.replicate i.ce s.opsec ++ w.ceAt).take 65535, total := min (w.total + i.ce) 0xFFFFFFFF } } }
  else s

/-- Whether a part meets its trigger (R460): the trigger's code, 0 a threshold, 1 a failure. -/
def State.meets (s : State) (i : TrigIn) : Option Nat :=
  let t := i.target.val
  match i.kind.val with
  | 0 =>
    let w := s.rmt.phase.getD t {}
    if s.get (HRN_CH_CTRL_ROLE t) = 1 ∧ (360000 * s.spare 2 2 1000 ≤ w.secs ∨ s.spare 4 4 2000000 ≤ w.cycles ∨ s.tooFaulty t) then some 0 else none
  | 1 =>
    let e := s.est.strs.getD (t / 52) {}
    if s.cellRole (t / 52) (t % 52) ≠ 0 then none
    else (match e.rBase.getD (t % 52) none with
     | some b => if (b * s.spare 12 2 180 : Rat) / 100 ≤ e.r.getD (t % 52) 0 ∨ (0x0405, t) ∈ s.brd.active then some 0 else none
     | none => if (0x0405, t) ∈ s.brd.active then some 0 else none)
  | 2 =>
    let d := t / 64
    if s.coreSt d (t % 64) = cFailed then some 1
    else if s.spare 14 1 64 ≤ (s.rmt.cores.getD (68 * d + s.phys d (t % 64)) {}).ceAt.length then some 0 else none
  | 3 | 5 =>
    if i.ue then some 1
    else if s.spare (if i.kind.val = 3 then 15 else 18) 1 4 ≤ ((s.repairAt i.kind t).map (·.ce)).getD 0 then some 0 else none
  | 4 => if s.spare 16 2 1000 ≤ (s.rmt.hbm.getD t {}).ceAt.length then some 0 else none
  | 7 => if 3 ≤ (s.rmt.inputs.getD (inputOf t) {}).run then some 1 else none
  | 8 => if s.spare 20 1 2 ≤ ((s.rmt.mramFail.find? (·.1 == t)).map (·.2)).getD 0 then some 1 else none
  | _ => none

/-- SUBSTITUTION_TRIGGER (R460, R462). A part that does not meet its trigger changes nothing; kinds 6 and 9 are triggered by
TACK_CORE_FAILURE and FIRC_WAIT_EXPIRY. -/
def execSubstitutionTrigger (i : TrigIn) (s : State) : Res := s.on fun s =>
  let k := i.kind.val
  let s := s.trigNote i
  if !s.targetOk k i.target.val then .next s
  else
    match s.meets i with
    | some c =>
      if k = 5 ∧ !i.resource ∧ s.kindFree 5 then
        .next (s.spareless 5 i.target.val c)
      else .next (s.due k i.target.val c)
    | none => .next s

/-! ### The end of the switch (R462, R465) -/

/-- The state of one repair-map entry. -/
def State.repairTo (s : State) (t st : Nat) : State :=
  { s with rmt := { s.rmt with repairs := modAt s.rmt.repairs t fun (r : Repair) => { r with state := st } } }

/-- The mechanism has completed: what it leaves. -/
def State.switched (s : State) (k : Nat) : State :=
  let u := s.subst k
  match k with
  | 0 => { s with hrn := { s.hrn with phHold := none } }
  | 1 => { s with rmt := { s.rmt with cells := modAt s.rmt.cells u.target fun (w : CellWear) =>
            { w with swaps := min 255 (w.swaps + 1), retired := true,
                     rAt := (roundRat ((s.est.strs.getD (u.target / 52) {}).r.getD (u.target % 52) 0)).toNat } } }
  | 3 | 5 => s.repairTo u.target 1
  | 4 => { s with rmt := { s.rmt with hbmSpare := s.rmt.hbmSpare.set (u.target / 33) (some (u.target % 33)) } }
  | _ => s

/-- The owning block restores its own state after a failure (R462). -/
def State.restored (s : State) (k : Nat) : State :=
  let u := s.subst k
  match k with
  | 0 =>
    let s := { s with hrn := { s.hrn with phHold := none, spareRank := s.hrn.spareRank.set (u.spare - 96) none } }
    ((s.roleTo u.spare 2).chPark u.spare chOff).roleTo u.target 1
  | 2 =>
    let d := u.target / 64
    let c := u.target % 64
    let back := (s.core d c).before
    let s := s.setCore d c { s.core d c with spare := 0 }
    if s.coreSt d c = cCopy then s.coreTo d c back else s
  | 6 => { s with rmt := { s.rmt with tackMap := s.rmt.tackMap.set u.target 255 } }
  | 7 => s.convTo u.target (u.target % 32)
  | 8 => { s with rmt := { s.rmt with mramMap := s.rmt.mramMap.filter (·.1 != u.target) } }
  | _ => s

/-- A substitution ends FAILED outside VERIFY. -/
def State.substFailed (s : State) (k cause : Nat) : State :=
  ((((s.kindTo k rFailed cause).rmtFlag RMT_STATUS_FAILED).logWrite k).writeWear).thenNext k

/-- Mark a substitution's spare as worn (R462). -/
def State.wearSpare (s : State) (k : Nat) : State :=
  { s with rmt := { s.rmt with worn := addOnce s.rmt.worn (k, (s.subst k).spare) } }

/-- The ring's swap for a cell has ended (R465): DONE, refused or timed out, or failed on its sweeps. -/
def State.cellSwitched (s : State) : State :=
  let x := (s.subst 1).target / 52
  if s.get (RING_SWAP_STATE x) = 5 then (s.switched 1).kindTo 1 rVerify 0
  else if s.get (RING_SWAP_STATE x) = 6 then
    (if s.get (RING_SWAP_CAUSE x) = 2 then (s.wearSpare 1).substFailed 1 1 else s.substFailed 1 5)
  else s

/-- The end of a switch (R462): a cell's outcome is the ring's own, a core's waits for CORE_COPY_COMPLETE, FIRC's for
PLL_REF_CHANGE_COMPLETE. -/
def State.switchEnd (s : State) (k : Nat) (e : SwEnd) : State :=
  let u := s.subst k
  if k = 1 then s.cellSwitched
  else
    match e with
    | .done =>
      if (k = 2 ∧ (s.core (u.target / 64) (u.target % 64)).spare ≠ 0) ∨ (k = 9 ∧ s.isSet CLK_STATUS_SW_BUSY) then s
      else (s.switched k).kindTo k rVerify 0
    | .fault => (s.restored k).substFailed k 4
    | .refused => (s.restored k).substFailed k 5

/-- A control block and a wear copy that waited for the remap of their sector are written (R467). -/
def State.sectorDone (s : State) : State := (if s.sbg.cbDue then s.writeCb else s).wearGo

/-! ### VERIFY and the log (R462, R466, R474) -/

/-- The check failed (R462): the target is retired, the spare is worn and out of use. -/
def State.verifyFailed (s : State) (k : Nat) : State :=
  let u := s.subst k
  let s := s.wearSpare k
  match k with
  | 0 => { s.roleTo u.spare 0 with hrn := { (s.roleTo u.spare 0).hrn with spareRank := (s.roleTo u.spare 0).hrn.spareRank.set (u.spare - 96) none } }
  | 2 => (s.set (LKS_PCORE_ROLE (u.target / 64) (u.spare % 68)) 2).coreTo (u.target / 64) (u.target % 64) cFailed
  | 3 | 5 => s.repairTo u.target 2
  | 4 => { s with rmt := { s.rmt with hbmSpare := s.rmt.hbmSpare.set (u.target / 33) none } }
  | 6 => { s with rmt := { s.rmt with tackMap := s.rmt.tackMap.set u.target 255 } }
  | _ => s

/-- The check of a spare channel (R464): FLT_N high, TEMP within −40 to 150 °C, and, its gates being off, I_AVG within ±1 A. -/
def State.phaseSound (s : State) (n : Nat) : Bool :=
  let t := s.getI (HRN_CH_MEAS_TEMP n)
  !(s.chan n).flt && decide (-400 ≤ t) && decide (t ≤ 1500)
    && ((s.chan n).hi || (s.chan n).lo || decide ((s.getI (HRN_CH_MEAS_I_AVG n)).natAbs ≤ 10))

/-- Whether a kind's check passes, `ok` being the result of a self-test or a read-back (R464 to R467): a channel's is judged here, a
cell's has been the ring's own. -/
def State.sound (s : State) (k : Nat) (ok : Bool) : Bool :=
  match k with
  | 0 => s.phaseSound (s.subst 0).spare
  | 1 => true
  | _ => ok

/-- SUBSTITUTION_VERIFY (R462, R464 to R467). -/
def execSubstitutionVerify (k : Fin 10) (ok : Bool) (s : State) : Res := s.on fun s =>
  let k := k.val
  if s.kst k ≠ rVerify then .next s
  else
    let s := if s.sound k ok then (s.kindTo k rDone 0).rmtFlag RMT_STATUS_DONE
      else ((s.verifyFailed k).kindTo k rFailed 1).rmtFlag RMT_STATUS_FAILED
    .next ((s.logWrite k).writeWear.thenNext k)

/-! ### The host's requests (R462, R470, R472, R475) -/

/-- A REQ is accepted: its kind is free, or DUE for that very part (R462, R470, R472, R477). -/
def State.reqOk (s : State) (k t : Nat) : Bool :=
  if k = 9 then s.kst 9 == rDue && t == 0
  else k < 6 && s.targetOk k t && (s.kindFree k || (s.kst k == rDue && s.get (RMT_KIND_TARGET k) == t))

/-- RMT_REQ is written (R462, R463, R470). -/
def State.rmtReq (s : State) (v : Word) : State :=
  let k := fieldGet v 28 4
  let t := fieldGet v 16 12
  let p := fieldGet v 4 12
  if !s.reqOk k t then s.refuse RMT_REQ v.toNat
  else
    (s.toWait k t 2 (if p = 0xFFF then none else some p)).thenNext k

/-- RMT_REQ (R462). -/
def execRmtReq (v : Word) (s : State) : Res := s.on fun s => .next (s.rmtReq v)

/-- CANCEL of a kind (R462, R472): in WAIT, with every hold of its gate released; elsewhere discarded. -/
def State.rmtCancel (s : State) (k : Nat) : State :=
  let s := s.set RMT_CTRL_CANCEL (bitPut (s.get RMT_CTRL_CANCEL) k false)
  if s.kst k ≠ rWait then s
  else
    let s := if k = 0 then { s with hrn := { s.hrn with phHold := none } }
      else if k = 1 ∧ s.est.dueNow = some ((s.subst 1).target / 52) then { s with est := { s.est with dueNow := none } } else s
    (s.kindTo k rCancelled 3).thenNext k

/-- RMT_CANCEL (R462). -/
def execRmtCancel (k : Fin 10) (s : State) : Res := s.on fun s => .next (s.rmtCancel k.val)

/-- RMT_RETIRE is written (R475, R477): in PASSIVE only (R17), for a channel or a cell position. -/
def State.rmtRetire (s : State) (v : Word) : State :=
  let k := fieldGet v 28 4
  let t := fieldGet v 16 12
  if s.shelf ≠ stPassive ∨ 2 ≤ k ∨ 104 ≤ t then s.refuse RMT_RETIRE v.toNat
  else if k = 0 then s.roleTo t 0
  else
    let s := { s with rmt := { s.rmt with cells := modAt s.rmt.cells t fun (w : CellWear) => { w with retired := true } } }
    if s.cellRole (t / 52) (t % 52) = 1 then s.setRole (t / 52) (t % 52) 2 else s

/-- RMT_RETIRE (R475). -/
def execRmtRetire (v : Word) (s : State) : Res := s.on fun s => .next (s.rmtRetire v)

/-! ### Inputs, the wear copy, Tack cores, FIRC (R458, R468 to R470, R473) -/

/-- INPUT_TEST (R458): the deviation in 0.01 % of full scale; the third failed test in a row triggers kind 7. -/
def execInputTest (b : Fin 8) (i : Fin 28) (dev : Nat) (s : State) : Res := s.on fun s =>
  let w := s.rmt.inputs.getD (28 * b.val + i.val) {}
  let run := if 50 < dev then min 3 (w.run + 1) else 0
  let fails := run = 3 ∧ w.run ≠ 3
  let w := { w with run := run, last := dev, fails := if fails then w.fails + 1 else w.fails }
  let s := { s with rmt := { s.rmt with inputs := s.rmt.inputs.set (28 * b.val + i.val) w } }
  .next (if fails then s.due 7 (32 * b.val + i.val) 1 else s)

/-- WEAR_COPY_PERIODIC (R473). -/
def execWearCopyPeriodic (s : State) : Res := s.on fun s => .next s.writeWear

/-- TACK_CORE_FAILURE (R468): 0x0604; the logical core moves to the spare and waits for its verification, or the firmware
stops for want of one. -/
def execTackCoreFailure (c : Fin 4) (s : State) : Res := s.on fun s =>
  let p := s.rmt.tackMap.getD c.val c.val
  let s := s.raise 0x0604 c.val 0 0
  let s := { s with rmt := { s.rmt with tackFail := modAt s.rmt.tackFail p (· + 1) } }
  if s.freeTack && s.kindFree 6 then .next ((s.toWait 6 c.val 1 none).kindTo 6 rVerify 0)
  else
    let s := { s with rmt := { s.rmt with tackMap := s.rmt.tackMap.set c.val 255 }, boot := { s.boot with fwRuns := false } }
    .next (if s.kindFree 6 then (s.toWait 6 c.val 1 none).thenNext 6 else s.rmtFlag RMT_STATUS_NO_SPARE)

/-- FIRC_WAIT_EXPIRY (R460, R470): XTAL-A not ready for FIRC_WAIT_S in clock-hold. -/
def execFircWaitExpiry (s : State) : Res := s.on fun s =>
  if s.isSet CLK_STATUS_HOLD && !s.isSet CLK_READY_XTAL_A && s.get CLK_SRC_SEL_PLL_REF == 0 && !s.known 9 0 then
    let s := { s with rmt := { s.rmt with xtalFail := s.rmt.xtalFail + 1 } }
    .next (s.due 9 0 1)
  else .next s

end Sys2Proof.Machine
end

