-- ==== Sys2Proof/Machine/Power.lean ====
section
/-! DEFINITION. The input: DOWN and PASSIVE, power-up with what MRAM and fuses bring back (R33, R70, R74, R98, R102,
R436, R443, R475), over-voltage lockout, and the write fence (R172, R299, R445). -/

namespace Sys2Proof.Machine

/-! ### What MRAM brings back -/

/-- Control-block copy i, if its MAGIC and CRC-32C check (R443). -/
def State.cbAt (s : State) (i : Nat) : Option (List Byte) :=
  let l := sparseReadBytes s.mram (0x1000 * i) 0x124
  if l.take 4 = [0x53#8, 0x42#8, 0x47#8, 0x43#8] ∧ crcOk l then some l else none

/-- The valid copy with the higher GEN, with its index (R443). -/
def State.cbWinner (s : State) : Option (Nat × List Byte) :=
  match s.cbAt 0, s.cbAt 1 with
  | some a, some b => if leAt a 4 4 < leAt b 4 4 then some (1, b) else some (0, a)
  | some a, none => some (0, a)
  | none, some b => some (1, b)
  | none, none => none

/-- Slot i of a control block. -/
def State.cbSlotLoad (l : List Byte) (i : Nat) (s : State) : State :=
  let e := slice l (0x20 + 16 * i) 16
  let s := (s.set (SBG_INC_SLOT_INCIDENT i) (leAt e 0 4)).wr64 (SBG_INC_TIME_LO i) (SBG_INC_TIME_HI i) (leAt e 4 8)
  let s := s.set (SBG_INC_SLOT_PINNED i) (leAt e 12 1)
  s.set SBG_INC_KEEP_KEEP (bitPut (s.get SBG_INC_KEEP_KEEP) i (bitOf (leAt e 13 1) 0))

/-- The Saddlebag at power-up (R436, R442, R443): operating seconds one on, one more power cycle, the incident table, the ring
and the next SEQ as MRAM has them; the answer is the last SEQ written. -/
def State.sbgPowerUp (s : State) : State × Nat :=
  let cb := s.cbWinner
  let l := (cb.map (·.2)).getD []
  let s := { s with sbg := { s.sbg with cbGen := leAt l 4 4, incNum := leAt l 0x18 4,
                                        cbCopy := match cb with
                                          | some c => 1 - c.1
                                          | none => 0 } }
  let s := (s.wr64 SBG_OPSEC_LO SBG_OPSEC_HI ((leAt l 8 8 + 1) % 2 ^ 40)).wrN SBG_CYCLES (leAt l 0x10 4 + 1)
  let s := (forN 16 (State.cbSlotLoad l) s).setB SBG_STATUS_NO_CB cb.isNone
  let r := s.ringFound
  let next := max (leAt l 0x14 4) (max r.2 s.pinnedSeq)
  let last := if max r.2 s.pinnedSeq = 0 then leAt l 0x14 4 else max r.2 s.pinnedSeq
  (r.1.wrN SBG_SEQ next, (last + 2 ^ 32 - 1) % 2 ^ 32)

/-- Last-fault slot i, if its MAGIC and CRC-32C check: its SEQ (R172, R173). -/
def State.lfrAt (s : State) (i : Nat) : Option Nat :=
  let l := sparseReadBytes s.mram (392 * 0x1000 + 0x100 * i) 0x100
  if l.take 4 = [0x48#8, 0x4C#8, 0x46#8, 0x45#8] ∧ crcOk l then some (leAt l 4 4) else none

/-- The newest last-fault record shows at power-up (R172, R180). -/
def State.lfrPowerUp (s : State) : State :=
  match (List.range 64).foldl (fun (b : Option (Nat × Nat)) i => match b, s.lfrAt i with
      | some (j, m), some n => if m < n then some (i, n) else some (j, m)
      | none, some n => some (i, n)
      | b, none => b) none with
  | some (i, n) =>
    ({ s with hrn := { s.hrn with lfrSlot := (i + 1) % 64, lfrSeq := n + 1 } }.set HRN_LFR_STATUS_ANY 1).set HRN_LFR_STATUS_NEWEST i
  | none => s

/-! ### DOWN and PASSIVE (R69, R70, R74) -/

/-- The pins of SYS_CONN_STATUS that show their level from the start (R65). -/
def liveConn : Word := 0x3C3FFF

/-- The module without power: fuses, MRAM, sockets, PERST_N and what the host has sent stay; memory is lost (log 2). -/
def State.blank (s : State) : State :=
  { otp := s.otp, pins := { camm := s.pins.camm, perst := s.pins.perst }, mram := s.mram,
    lks := { undef := [(0, 0x1000000000000, s.free, 0)] }, out := s.out, free := s.free + 1, pending := s.pending }

/-- The always-on domain starts (R70): PASSIVE, with the live pins `conn`. The control block is written before any record (R436). -/
def State.powerUp (s : State) (conn : Word) : State :=
  let s := s.blank
  let s := s.wr SYS_CONN_STATUS ((s.rd SYS_CONN_STATUS &&& ~~~liveConn) ||| (conn &&& liveConn))
  let s := (s.set SEC_SVN_FUSED_SVN s.otp.rollback).wrN SYS_ID_SN (leNat (s.otp.serial.take 4))
  let s := { s with boot := { s.boot with idKey := true } }
  let r := s.sbgPowerUp
  let s := r.1.lfrPowerUp.jnlPowerUp.wearPowerUp.writeCb
  let s := s.record kPowerUp 0 0 0 0 0 false (leBytes 4 r.2 ++ leBytes 1 (s.isSet SBG_STATUS_NO_CB).toNat)
  s.record kState 1 5 0 0 0 false (leBytes 1 0 ++ leBytes 1 1)

/-- DOWN (R69): every output off, nothing recorded. -/
def State.goDown (s : State) : State :=
  let s := forN 104 (fun n t => t.chPark n chOff) s
  { s with pins := { s.pins with isoEn := false, contEn := [false, false], drvEn := [false, false, false, false],
                                 txDisable := [true, true], pumpDuty := [100, 100], powered := false, wakeN := false },
           pcie := {}, boot := { s.boot with fwRuns := false } }.set SYS_SHELF_STATE_STATE stDown

/-- VIN_START (R33, R70). -/
def execVinStart (conn : Word) (s : State) : Res :=
  if s.pins.powered || s.pins.ovLockout then .next s else .next (s.powerUp conn)

/-- A last-fault record whose write power loss cuts off leaves its slot undefined: each byte the record's or the slot's
previous one, by a free choice (R172, log 2). -/
def State.tearLfr (s : State) : State :=
  match s.hrn.lfrQ with
  | [] => s
  | r :: _ =>
    let f := s.fresh
    let a := 392 * 0x1000 + 0x100 * s.hrn.lfrSlot
    let old := sparseReadBytes s.mram a 0x100
    { f.2 with mram := sparseWriteBytes s.mram a ((List.range 0x100).map fun i =>
        if bitOf f.1 i then r.bytes.getD i 0 else old.getD i 0) }

/-- A journal entry whose write power loss cuts off leaves its slot undefined in the same way (R300). -/
def State.tearJnl (s : State) : State :=
  if !s.isSet EST_JNL_STATUS_BUSY then s
  else
    let f := s.fresh
    let a := jnlBase s.jnlNext
    let old := sparseReadBytes s.mram a 512
    { f.2 with mram := sparseWriteBytes s.mram a ((List.range 512).map fun i =>
        if bitOf f.1 i then s.est.snap.getD i 0 else old.getD i 0) }

/-- VIN_CONVERTER_STOP (R33, R70, R172, R300). -/
def execVinConverterStop (s : State) : Res := s.on fun s => .next (if s.isSet EST_JNL_STATUS_BUSY then s.tearJnl else if !s.hrn.lfrQ.isEmpty then s.tearLfr else s.tearWear).goDown

/-- The waiting records of the MRAM path are written on the hold-up (R299, R417). -/
def State.flushMram (s : State) : State :=
  if s.fenced then s
  else (((s.path 0).queue.foldl (fun (t : State) (q : QItem) => t.mramRecord q.rec_) s).setPath 0 { s.path 0 with queue := [] }).showLevel 0

/-- INPUT_OV_LOCKOUT (R33, R417): VIN in 10 mV; 0x010F is written on the hold-up, and DOWN follows. -/
def execInputOvLockout (vin : Nat) (s : State) : Res :=
  let s := if s.pins.powered then ((s.raise 0x010F 0 vin 6300).flushMram).goDown else s
  .next { s with pins := { s.pins with ovLockout := true } }

/-- INPUT_OV_RESTART (R33): the converter restarts, with the live pins `conn`. -/
def execInputOvRestart (conn : Word) (s : State) : Res :=
  if s.pins.ovLockout then .next ({ s with pins := { s.pins with ovLockout := false } }.powerUp conn) else .next s

/-! ### The write fence (R299, R445) -/

/-- WRITE_FENCE_WARNING (R299, R445): VIN in 10 mV. 0x010E comes before the P0-only span. -/
def execWriteFenceWarning (vin : Nat) (s : State) : Res := s.on fun s =>
  let s := ((s.raise 0x010E 0 vin 4400).raiseBit EST_JNL_STATUS_WARN 240).jnlTrigger 4
  .next ((s.set SBG_STATUS_P0_ONLY 1).writeCb.writeWear)

/-- The journal at the fence: an entry that is being written goes on, one that waits is dropped and counted (R299). -/
def State.fenceJournal (s : State) : State :=
  if !s.isSet EST_JNL_STATUS_PENDING then s
  else ({ s with est := { s.est with jnlCause := 0 } }.clear EST_JNL_STATUS_PENDING).bumpSat EST_JNL_STATUS_LOST 1

/-- The last-fault queue at the fence (R172). -/
def State.fenceLfr (s : State) (writing : Bool) : State :=
  let keep := s.hrn.lfrQ.take (if writing then 1 else 0)
  let lost := s.hrn.lfrQ.length - keep.length
  ({ s with hrn := { s.hrn with lfrQ := keep } }.bumpSat HRN_LFR_STATUS_LOST lost).set HRN_LFR_STATUS_PENDING keep.length

/-- The Saddlebag's queue at the fence: a record in progress is written, the others are neither written nor counted (R445). -/
def State.fenceSbg (s : State) (writing : Bool) : State :=
  let s' := match (s.path 0).queue with
    | q :: _ => if writing then s.mramRecord q.rec_ else s
    | [] => s
  s'.setPath 0 { s'.path 0 with queue := [], gap := none }

/-- WRITE_FENCE (R172, R299, R445): with the write that is in progress, which completes on the hold-up. -/
def execWriteFence (busy : MramBusy) (s : State) : Res := s.on fun s =>
  let s := s.fenceSbg (busy == .record)
  let s := s.fenceJournal.fenceLfr (busy == .lastFault && !s.isSet EST_JNL_STATUS_BUSY)
  let s := if busy == .wear then s.tearWear else { s with rmt := { s.rmt with due := false } }
  let s := ((s.raiseBit EST_JNL_STATUS_FENCE 240).set SBG_STATUS_FENCE 1).clear SBG_STATUS_P0_ONLY
  .next (s.showLevel 0)

/-- FENCE_WARN_CLEAR (R299): 10 ms above 45.0 V. -/
def execFenceWarnClear (s : State) : Res := s.on fun s =>
  let s := ((s.clear EST_JNL_STATUS_WARN).clear EST_JNL_STATUS_FENCE).clear SBG_STATUS_FENCE
  .next (s.unraise 0x010E 0)

/-- P0_ONLY_SPAN_END (R445). -/
def execP0OnlySpanEnd (s : State) : Res := s.on fun s => .next (s.clear SBG_STATUS_P0_ONLY)

end Sys2Proof.Machine
end

