-- ==== Sys2Proof/Machine/Load.lean ====
section
/-! DEFINITION. Downloading a bundle: LOAD (R84, R85, R88), the fetch (R87), the verification (R81 to R83, R513), LOADED with
the values that the profile sets (R196, R285, R449, R461, R504, R510), and the entry into arming by ARM (R70, R71, R96). -/

namespace Sys2Proof.Machine

/-! ### ARM (R70, R71, R96, R425) -/

/-- A BOOT_CTRL request is refused: its ERR_CODE, and the F0 record with the request's bit (R88, R90, R91). -/
def State.bootRefuse (s : State) (code info bit : Nat) : State := (s.bootErr code info).refuse BOOT_CTRL bit

/-- A bundle is loaded and the profile is valid (R70, R80). -/
def State.armReady (s : State) : Bool :=
  s.get BOOT_STATUS_BUNDLE == 4 && (s.get BOOT_STATUS_PROFILE == 1 || s.get BOOT_STATUS_PROFILE == 2)

/-- ARM becomes pending (R71, R425). -/
def State.armPend (s : State) (b : Bool) : State := (s.setB SYS_SHELF_STATE_ARM_PENDING b).setB BRD_PENDING_ARM b

/-- An arming attempt from PASSIVE: at once, or pending within MIN_OFF_MS of the last stop (R425). -/
def State.armGo (s : State) : State := if s.tooSoon s.brd.offSince then s.armPend true else s.beginArming false

/-- A host ARM resets the arming retries (R96): RETRIES_LEFT is loaded again at the next failure. Nothing else resets them
(DESIGN CHOICE, log 69). -/
def State.retryReset (s : State) : State :=
  { s with boot := { s.boot with retryLoaded := false, retryWait := false } }.set BOOT_STATUS_RETRIES_LEFT 0

/-- ARM: taken in PASSIVE, pending while a disarm stops, refused under 0x30; a host ARM resets the retries (R70, R71, R96). -/
def State.arm (s : State) : State :=
  if s.boot.disarming then (s.armPend true).retryReset
  else if s.shelf ≠ stPassive then s
  else if !s.armReady then s.bootRefuse 0x30 0 2
  else
    s.bootErrClear.retryReset.armGo

/-- ARM (R70). -/
def execArm (s : State) : Res := s.on fun s => .next s.arm

/-! ### LOAD (R84, R85, R88, R513) -/

/-- The loaded set goes (R84): no control firmware runs, the watchdog stops, SPUR_ACK is idle, and the pump lines are
released (R23). -/
def State.discardSet (s : State) : State :=
  let s := { s with boot := { s.boot with images := [], manifestDigest := [], staged := [], fwRuns := false, armedOnce := false },
                    brd := { s.brd with fwRestart := false }, fcst := { s.fcst with model := false } }
  (((s.set SEC_SVN_LOADED_SVN 0xFF).clear BRD_STATUS_WDT_RUN).showAck).pumpsFull

/-- The bundle is rejected (R84, R87). -/
def State.reject (s : State) (code info : Nat) : State :=
  (({ s with boot := { s.boot with staged := [] } }.bootErr code info).bundleTo 5).showAck

/-- The DMA address of the bundle (R89). -/
def State.srcAddr (s : State) : Nat := s.rd64 BOOT_SRC_ADDR_LO BOOT_SRC_ADDR_HI

/-- LOAD: the checks of R88 in order; accepted, the set is discarded, BOOT_SRC_LEN checked, and the fetch begins; PLL-MEM
starts for the staging region (R115). -/
def State.load (s : State) : State :=
  let b := s.get BOOT_STATUS_BUNDLE
  if s.shelf ≠ stPassive then s.bootRefuse 0x32 s.shelf 1
  else if b = 1 ∨ b = 2 ∨ b = 3 then s.bootRefuse 0x33 b 1
  else if s.rdN BOOT_SRC_ADDR_LO % 4096 ≠ 0 then s.bootRefuse 0x1A (s.rdN BOOT_SRC_ADDR_LO % 4096) 1
  else if s.camm 0 = 0 then s.bootRefuse 0x19 0 1
  else
    let s := s.bootErrClear.discardSet
    let n := s.rdN BOOT_SRC_LEN
    if n < 8192 ∨ 268435456 < n then s.reject 0x10 0
    else
      let s := { s with clk := { s.clk with pllMem := true } }.latchWake 0x100
      ((s.bundleTo 1).emit (.hostRead s.srcAddr n)).showAck

/-- LOAD (R88). -/
def execLoad (s : State) : Res := s.on fun s => .next s.load

/-- A PERST_N assertion or a link loss aborts a fetch (R84). -/
def State.fetchAbort (s : State) : State :=
  if s.get BOOT_STATUS_BUNDLE = 1 then
    ({ s with boot := { s.boot with staged := [] } }.bundleTo 0).bootErr 0x11 0x100
  else s

/-- FETCH_COMPLETION_ERROR (R87, R91): with the detail of ERR_CODE 0x11. -/
def execFetchCompletionError (info : Fin 65536) (s : State) : Res := s.on fun s =>
  if s.get BOOT_STATUS_BUNDLE = 1 then .next (s.reject 0x11 info.val) else .next s

/-- BUNDLE_FETCH_COMPLETE (R83, R87): the module's own copy, BOOT_SRC_LEN bytes. -/
def execBundleFetchComplete (bytes : List Byte) (s : State) : Res := s.on fun s =>
  if s.get BOOT_STATUS_BUNDLE = 1 then
    .next ({ s with boot := { s.boot with staged := padTo (s.rdN BOOT_SRC_LEN) bytes } }.bundleTo 2)
  else .next s

/-! ### The manifest (R81, R82, R513) -/

/-- All bytes of a range are zero. -/
def zeroRange (b : List Byte) (off n : Nat) : Bool := (slice b off n).all (· == 0)

/-- Fields of image entry i. -/
def entryAt (i : Nat) : Nat := 0x40 + 96 * i
def entType (b : List Byte) (i : Nat) : Nat := leAt b (entryAt i) 2
def entOff (b : List Byte) (i : Nat) : Nat := leAt b (entryAt i + 8) 8
def entLen (b : List Byte) (i : Nat) : Nat := leAt b (entryAt i + 0x10) 8

/-- The number of images, and MANIFEST_LEN. -/
def imageCount (b : List Byte) : Nat := leAt b 6 2
def manifestLen (b : List Byte) : Nat := 7283 + 96 * imageCount b

/-- The first check of a list that fails. -/
def firstBad (l : List (Bool × Nat)) : Option Nat := (l.find? fun p => !p.1).map (·.2)

/-- The header's first bad field before BUNDLE_LEN. -/
def headBad (b : List Byte) : Option Nat :=
  firstBad [(b.take 4 == [0x41#8, 0x4B#8, 0x59#8, 0x4D#8], 0), (leAt b 4 2 == 1, 4),
    (decide (2 ≤ imageCount b ∧ imageCount b ≤ 8), 6), (leAt b 8 4 == manifestLen b, 8),
    (decide (leAt b 12 1 ≤ 64), 12), (decide (leAt b 13 1 < 8), 13)]

/-- The first bad field of one entry. -/
def entryBad (b : List Byte) (i : Nat) : Option Nat :=
  let o := entryAt i
  firstBad [(decide (1 ≤ entType b i ∧ entType b i ≤ 4), o), (leAt b (o + 2) 2 == 0, o + 2),
    (entOff b i % 4096 == 0 && decide (manifestLen b ≤ entOff b i), o + 8),
    (decide (entOff b i + entLen b i ≤ leAt b 0x10 4), o + 0x10), (zeroRange b (o + 0x18) 8, o + 0x18)]

/-- The first rule between an entry and the earlier ones that is broken. -/
def entriesClash (b : List Byte) (i : Nat) : Option Nat :=
  let clash := fun (j : Nat) => decide (entOff b j < entOff b i + entLen b i ∧ entOff b i < entOff b j + entLen b j)
  firstBad [(!(List.range i).any fun j => entType b j == entType b i, entryAt i),
    (!(List.range i).any clash, entryAt i + 8)]

/-- Step 1 of R83: ERR_CODE and BOOT_ERR_INFO of the first failure (R513). -/
def layoutBad (b : List Byte) (len : Nat) : Option (Nat × Nat) :=
  match headBad b with
  | some o => some (0x12, o)
  | none =>
    if leAt b 0x10 4 ≠ len then some (0x10, 0)
    else if !zeroRange b 0x14 44 then some (0x12, 0x14)
    else
      match (List.range (imageCount b)).findSome? (entryBad b) with
      | some o => some (0x12, o)
      | none => ((List.range (imageCount b)).findSome? (entriesClash b)).map fun o => (0x12, o)

/-- The bit of VARIANT_MASK of a variant (R81). -/
def variantBit : Variant → Nat
  | .full => 0
  | .half => 1
  | .control => 2

/-- Step 7: the first image whose digest differs, or the first required type that no entry names (R82, R83). -/
def imagesBad (v : Variant) (b : List Byte) : Option Nat :=
  match (List.range (imageCount b)).find? fun i =>
      !(Config.sha3_512 (slice b (entOff b i) (entLen b i)) == slice b (entryAt i + 0x20) 64) with
  | some i => some (entType b i)
  | none => (if v = .control then [1, 2] else [1, 2, 3, 4]).find? fun t => !(List.range (imageCount b)).any fun i => entType b i == t

/-- The checks of R83 in order. The spec leaves two points open, and both are DESIGN CHOICE (log 69): BOOT_SRC_LEN is read
again here, so a write of it during FETCHING or VERIFYING counts (R513), and PROFILE_FORMAT is compared with 1 also while
the profile is invalid (step 6). -/
def State.bundleBad (s : State) (b : List Byte) : Option (Nat × Nat) :=
  let k := 0x40 + 96 * imageCount b
  let key := slice b k 2592
  match layoutBad b (s.rdN BOOT_SRC_LEN) with
  | some e => some e
  | none =>
    if !(Config.sha3_512 key == s.otp.vendorKeyHash) then some (0x13, 0)
    else if !Config.mldsaVerify key (b.take (k + 2592)) (slice b (k + 2592) 4627) then some (0x14, 0)
    else if leAt b 12 1 < s.otp.rollback then some (0x15, 256 * leAt b 12 1 + s.otp.rollback)
    else if !bitOf (leAt b 13 1) (variantBit s.otp.variant) then some (0x16, leAt b 13 1)
    else if leAt b 14 2 ≠ 1 then some (0x17, leAt b 14 2)
    else (imagesBad s.otp.variant b).map fun t => (0x18, t)

/-- BUNDLE_VERIFY_COMPLETE (R83, R87). -/
def execBundleVerifyComplete (s : State) : Res := s.on fun s =>
  if s.get BOOT_STATUS_BUNDLE ≠ 2 then .next s
  else
    match s.bundleBad s.boot.staged with
    | some e => .next (s.reject e.1 e.2)
    | none => .next (s.bundleTo 3)

/-! ### LOADED (R84, R87, R510) -/

/-- One TRIGGERS record goes into its list (R449). -/
def State.triggersPut (s : State) (l : List Byte) : State :=
  let n := leAt l 0 1
  let s := s.wrN (SBG_LIST_CFG n) (leAt l 3 1 * 0x1000000 + leAt l 8 1 * 0x10000 + leAt l 9 1 * 0x100 + leAt l 1 1 % 2 * 0x10 + leAt l 2 1)
  let s := s.wrN (SBG_LIST_CODE n) (leAt l 6 2 * 0x10000 + leAt l 4 2)
  forN (leAt l 9 1) (fun k t => t.wrN (SBG_LIST_ADDR n k) (leAt l (12 + 4 * k) 4)) s

/-- The channels of a connector that is not fitted go out of service (R504). -/
def State.mezRoles (s : State) (fitted : Nat) : State :=
  let s := forN 104 (fun n t => if bitOf fitted (chanMez n) then t else t.set (HRN_CH_CTRL_ROLE n) 0) s
  { s with pins := { s.pins with drvHeld := (List.range 4).map fun n => !bitOf fitted n || s.pins.drvHeld.getD n false } }

/-- The register values that the profile sets (R510): LOOPS, STORAGE, TRIGGERS, SPARE_POLICY, MEZ_FITTED. -/
def State.applyProfile (s : State) : State :=
  let s := (loopEntries ((s.profileRec 0x8007).getD [])).foldl (fun (t : State) (e : Nat × Word) => t.reinWrite e.1 e.2) s
  let s := (s.set EST_LIM_V_LO (s.profileAt 0x8008 8 2 0)).set EST_LIM_V_HI (s.profileAt 0x8008 10 2 0)
  let s := (s.boot.profile.filter (·.1 == 0x000E)).foldl (fun (t : State) (r : Nat × List Byte) => t.triggersPut r.2) s
  let auto := s.profileAt 0x000D 0 2 0x023F
  let s := (s.set RMT_CTRL_AUTO50 (auto % 64)).set RMT_CTRL_AUTO9 (auto / 512 % 2)
  s.mezRoles (s.profileAt 0x8003 0 1 0)

/-- The images that go into their targets, by TYPE with their digests (R82, R104); the C variant discards types 3 and 4. -/
def State.imagesOf (s : State) (b : List Byte) : List (Nat × List Byte) :=
  (((List.range (imageCount b)).map fun i => (entType b i, slice b (entryAt i + 0x20) 64)) : List (Nat × List Byte)).filter fun p =>
    p.1 < 3 || s.otp.variant != .control

/-- The forecaster weights of a bundle become LIVE, generation 0, and the forecast partition loads them (R372, R396). -/
def State.weightsIn (s : State) (b : List Byte) : State :=
  match (List.range (imageCount b)).find? fun i => entType b i == 4 with
  | none => s
  | some i =>
    let w := slice b (entOff b i) (entLen b i)
    let s := s.slotPut 0 w
    (s.setTrain { s.lks.train with live := { present := true, gen := 0, len := w.length }, reload := true }).showGen

/-- The first LOADED of a power-up applies the profile's values (R510). -/
def State.firstLoaded (s : State) : State :=
  if s.boot.everLoaded || !(s.get BOOT_STATUS_PROFILE == 1 || s.get BOOT_STATUS_PROFILE == 2) then s
  else { s with boot := { s.boot with everLoaded := true } }.applyProfile

/-- BUNDLE_LOADED (R84, R85, R87, R510): the set runs, the staging region is free again, and the auto policy arms. -/
def execBundleLoaded (s : State) : Res := s.on fun s =>
  if s.get BOOT_STATUS_BUNDLE ≠ 3 then .next s
  else
    let b := s.boot.staged
    let s := { s with boot := { s.boot with staged := [], images := s.imagesOf b, manifestDigest := Config.sha3_512 (b.take (manifestLen b)) } }
    let s := ((s.set SEC_SVN_LOADED_SVN (leAt b 12 1)).bundleTo 4).fwStart
    let s := if s.dies = 0 then s else s.weightsIn b
    let s := ((s.memLose ddrBase 0x10000000).showAck).firstLoaded
    .next (if s.shelf = stPassive ∧ s.armReady ∧ s.profileAt 0x8006 0 1 0 = 1 then s.armGo else s)

end Sys2Proof.Machine
end

