-- ==== Sys2Proof/Machine/Pcie.lean ====
section
/-! DEFINITION. The host link (R36 to R38, R84, R394, R431, R498), the SFP28 cages and the connector pins (R44, R47, R50, R65, R66). -/

namespace Sys2Proof.Machine

/-! ### The link and the host (R37, R38, R394, R431) -/

/-- Held messages go out once their vectors are unmasked, the function is in D0 and the link is up (R498). -/
def State.sendHeld (s : State) : State :=
  let go := s.pcie.pendingBits.filter fun v =>
    decide (v ∈ s.pcie.unmasked) && s.pcie.dstate == 0 && s.pcie.link.live
  let s := { s with pcie := { s.pcie with pendingBits := s.pcie.pendingBits.filter fun v => !go.contains v } }
  forL go (fun v t => t.emit (.msix v)) s

/-- The link has gone: host queues off, a fetch aborted, the host lost until a first kick after the return (R84, R394, R431). -/
def State.linkGone (s : State) : State :=
  let s := s.hostQueuesOff.fetchAbort
  { s with brd := { s.brd with hostKicked := false } }.hostLost

/-- PERST_ASSERT (R38, R84, R498): the PCIe function resets, with its MSI-X table and pending bits. -/
def execPerstAssert (s : State) : Res :=
  let s := { s with pins := { s.pins with perst := true } }
  if !s.pins.powered || s.pcie = {} then .next s
  else .next ({ s with pcie := {} }.wakeBy 0).linkGone

/-- PERST_DEASSERT (R37): training starts once the profile has been read. -/
def execPerstDeassert (s : State) : Res :=
  let s := { s with pins := { s.pins with perst := false } }
  if !s.pins.powered then .next s
  else
    let s := s.wakeBy 0
    .next (if s.get BOOT_STATUS_PROFILE ≠ 0 then { s with pcie := { s.pcie with link := .training } } else s)

/-- LINK_LOSS (R84, R394, R431). -/
def execLinkLoss (s : State) : Res := s.on fun s =>
  if s.pcie.link = .down then .next s
  else .next { s with pcie := { s.pcie with link := .down, crs := true } }.linkGone

/-- PCIE_LINK_UP (R36, R37): training completes at a data rate and with 2 ^ w lanes; the function is ready. -/
def execPcieLinkUp (gen : Fin 6) (w : Fin 4) (s : State) : Res := s.on fun s =>
  if s.pins.perst || s.get BOOT_STATUS_PROFILE == 0 then .next s
  else
    .next { s with pcie := { s.pcie with link := .up, gen := gen.val, width := 2 ^ w.val, crs := false, dstate := 0 } }.showWakeN.sendHeld

/-- PCIE_POWER_STATE_CHANGE (R36, R38, R121, R123, R431, R498): L1.1 is entered from L1, and both are left to L0. -/
def execPciePowerStateChange (m : PcieMove) (s : State) : Res := s.on fun s =>
  let toD := fun (d : Nat) => ({ s with pcie := { s.pcie with dstate := d } } : State).showWakeN
  let toL := fun (l : Link) => ({ s with pcie := { s.pcie with link := l } } : State).showWakeN
  match m with
  | .d0 => .next (toD 0).sendHeld
  | .d3hot => .next (toD 1)
  | .d3cold => .next (toD 2).hostLost
  | .l1 => .next (if s.pcie.link = .up then toL .l1 else s)
  | .l11 => .next (if s.pcie.link = .l1 then toL .l11 else s)
  | .l0 => if s.pcie.link.low then .next ((toL .up).wakeBy 0) else .next s

/-- MSIX_UNMASK (R498): the vector's table entry is written unmasked. -/
def execMsixUnmask (v : Fin 256) (addr : Word64) (data : Word) (s : State) : Res := s.on fun s =>
  .next { s with pcie := { s.pcie with
    unmasked := addOnce s.pcie.unmasked v.val,
    table := (v.val, addr, data) :: s.pcie.table.filter (·.1 != v.val) } }.sendHeld

/-! ### Connectors (R44, R50, R66) -/

/-- MEZ_PRES_CHANGE (R44): the connector 0 to 3 for J3 to J6, and whether its strap matches. -/
def execMezPresChange (n : Fin 4) (present idOk : Bool) (s : State) : Res := s.on fun s =>
  if s.isSet ⟨SYS_CONN_STATUS, n.val, 1⟩ = present then .next (s.conn (4 + n.val) idOk)
  else
    let s := (s.conn n.val present).conn (4 + n.val) idOk
    if s.shelf = stPassive then .next s
    else
      let s := { s with pins := { s.pins with drvHeld := s.pins.drvHeld.set n.val true, drvEn := s.pins.drvEn.set n.val false } }
      .next (s.raise 0x0109 (3 + n.val) present.toNat 0)

/-- The two SFF-8472 pages of a cage are read (R50). -/
def State.sfpRead (s : State) (p : Nat) : State := (s.emit (.i2cRead p 0xA0)).emit (.i2cRead p 0xA2)

/-- SFP_INSERTION (R50). -/
def execSfpInsertion (p : Fin 2) (s : State) : Res := s.on fun s => .next ((s.conn (8 + p.val) true).sfpRead p.val)

/-- SFP_PERIODIC_READ (R50): the cages that hold a module. -/
def execSfpPeriodicRead (s : State) : Res := s.on fun s =>
  .next (forN 2 (fun p t => if bitOf (t.get SYS_CONN_STATUS_SFP_PRES) p then t.sfpRead p else t) s)

/-- The pins of CONNECTOR_PIN_CHANGE: SFP28 removal, RX_LOS and TX_FAULT that clear, tach activity, the feedbacks where they follow
their enable, SMBALERT_N, SYNC_IN activity. The other pins, and the other changes of these, have rows of their own. -/
def State.pinChanges (s : State) (bit : Nat) (v : Bool) : Bool :=
  if 8 ≤ bit ∧ bit ≤ 13 then !v
  else if bit = 18 ∨ bit = 19 then v == s.enOf (bit - 18)
  else if bit = 20 then v == s.enOf 2
  else bit == 16 || bit == 17 || bit == 21 || bit == 22

/-- CONNECTOR_PIN_CHANGE (R65, R66): by the bit of SYS_CONN_STATUS. A contactor that closes ends a string's return (R507); the
hold-off may run once ISO_FB is low (R421). -/
def execConnectorPinChange (bit : Fin 24) (v : Bool) (s : State) : Res := s.on fun s =>
  if !s.pinChanges bit.val v then .next s
  else
    let s := s.conn bit.val v
    let x := bit.val - 18
    if (bit.val = 18 ∨ bit.val = 19) ∧ v ∧ x ∈ s.brd.returning then .next (s.strReturned x)
    else .next s.ovSettle.checkHoldoff

end Sys2Proof.Machine
end

