-- ==== Sys2Proof/Machine/Arm.lean ====
section
/-! DEFINITION. The arming sequence (R43, R53, R93 to R96, R504, R505, R508), disarming (R71, R97), leaving LATCHED (R70, R424),
and pending enables (R425, R426). -/

namespace Sys2Proof.Machine

/-! ### The steps of R93 -/

/-- Arming is at a step, with no DISARM in progress. -/
def State.atStep (s : State) (k : Nat) : Bool := s.shelf == stArming && s.boot.armStep == k && !s.boot.disarming

/-- The next step. -/
def State.stepTo (s : State) (k : Nat) : State := { s with boot := { s.boot with armStep := k } }

/-- The phase board of a connector is there with its strap right (R43). -/
def State.mezOk (s : State) (n : Nat) : Bool := s.isSet ⟨SYS_CONN_STATUS, n, 1⟩ && s.isSet ⟨SYS_CONN_STATUS, 4 + n, 1⟩

/-- The mezzanine checks (R43, R504): the connectors held low, and the first that is fitted and fails. -/
def State.mezCheck (s : State) : State × Option Nat :=
  let fitted := fun (n : Nat) => bitOf (s.profileAt 0x8003 0 1 0) n
  ({ s with pins := { s.pins with drvHeld := (List.range 4).map fun n => !fitted n || !s.mezOk n } },
   (List.range 4).find? fun n => fitted n && !s.mezOk n)

/-- What a rectifier answers meets its record (R53, R505): PEC and 1 MHz in CAPABILITY, Part II revision 1.3 or later, the two
block reads. The places of these bits are PMBus's (log 45). -/
def rectAnswers (l : List Byte) (a : RectId) : Bool :=
  a.answers && bitOf a.cap.val 7 && a.cap.val / 32 % 4 == 2 && decide (3 ≤ a.rev.val % 16)
    && a.id == slice l 8 (leAt l 2 1) && a.model == slice l 28 (leAt l 3 1)

/-- The identity reads of one rectifier (R54, R93). -/
def State.rectReads (s : State) (r : Nat) : State :=
  (((s.pmbus r 0x19 []).pmbus r 0x98 []).pmbus r 0x99 []).pmbus r 0x9A []

/-- The rectifiers are read in turn up to the first that fails (R53, R93). -/
def State.rectCheck (s : State) (ids : List RectId) : State × Option Nat :=
  match (List.range 6).find? fun r => !rectAnswers (s.rectRec r) (ids.getD r ⟨false, 0, 0, [], []⟩) with
  | some r => (forN (r + 1) (fun i t => t.rectReads i) s, some r)
  | none => (forN 6 (fun i t => t.rectReads i) s, none)

/-- ARM_FIRST_STEP (R93, R508): with no blocker active, the checks, and IOUT_OC_FAULT_RESPONSE to every rectifier. -/
def execArmFirstStep (ids : List RectId) (s : State) : Res := s.on fun s =>
  if !s.atStep 1 || s.armBlocked then .next s
  else
    match s.mezCheck with
    | (s, some n) => .next (s.armFail 0x20 (3 + n))
    | (s, none) =>
      match s.rectCheck ids with
      | (s, some r) => .next (s.armFail 0x21 r)
      | (s, none) => .next ((forN 6 (fun r t => t.pmbus r 0x47 (zeros 1)) s).stepTo 2)

/-- ARM_BLOCKER_TIMEOUT (R508). -/
def execArmBlockerTimeout (s : State) : Res := s.on fun s =>
  if s.atStep 1 && s.armBlocked then .next (s.armFail 0x25 1) else .next s

/-- ARM_CHECKS_PASSED (R93). -/
def execArmChecksPassed (s : State) : Res := s.on fun s =>
  if s.atStep 2 then .next (((s.enumStart 0).enumStart 1).stepTo 3) else .next s

/-- ARM_CONTACTOR_REQUEST (R25, R93, R297): learned values come back, and both contactors close, unless Bridle refuses one. -/
def execArmContactorRequest (s : State) : Res := s.on fun s =>
  if !s.atStep 3 || !s.ringDone 0 || !s.ringDone 1 then .next s
  else
    let s := s.restoreLearned
    if s.closeBlocked 0 then .next (s.refuseClose.armFail 0x23 2)
    else if s.closeBlocked 1 then .next (s.refuseClose.armFail 0x23 3)
    else .next { ((s.closeNow 0).closeNow 1).stepTo 4 with boot := { s.boot with armStep := 4, contRequested := true } }

/-- ARM_PRECHARGE_START (R93, R157). -/
def execArmPrechargeStart (s : State) : Res := s.on fun s =>
  if s.atStep 4 && s.contFb 0 && s.contFb 1 then .next s.precharge else .next s

/-- ARM_ISO_REQUEST (R25, R93): VNODE and VBUS in 10 mV, within 1.0 V; a refused close stays in ARMING (R95). -/
def execArmIsoRequest (vnode vbus : Nat) (s : State) : Res := s.on fun s =>
  if !s.atStep 5 || s.brd.ssOff || decide (100 < ((vnode : Int) - vbus).natAbs) then .next s
  else if s.closeBlocked 2 then .next (s.refuseClose.bootErr 0x23 1)
  else .next ((s.closeNow 2).stepTo 6)

/-- ARM_LOOPS_START (R93, R200, R228): ISO_FB is high; the cascades with AUTO_START start, and the commit. -/
def execArmLoopsStart (s : State) : Res := s.on fun s =>
  if !s.atStep 6 || !s.isSet SYS_CONN_STATUS_ISO_FB then .next s
  else
    let s := forN 8 (fun c t => if t.isSet (REIN_CAS_CTRL_AUTO_START c) then t.casBegin c else t) s
    .next (s.commitStart.stepTo 7)

/-- A cascade that runs is at its set-point and within its following-error limit (R93, R206). -/
def State.casSettled (s : State) (c : Nat) : Bool :=
  s.casSt c == 0 || (s.casSt c == 2 && (s.get (REIN_CAS_FE_CFG_FE_TIME c) == 0 || s.rdN (REIN_CAS_FE_LIMIT c) == 0
    || decide ((s.feError c).natAbs ≤ s.rdN (REIN_CAS_FE_LIMIT c))))

/-- What ARMED waits for (R93): every cascade within its limit at its set-point and, on F and H, one full horizon forecast. -/
def State.armedReady (s : State) : Bool :=
  s.atStep 7 && (List.range 8).all s.casSettled && (s.dies == 0 || s.horizonDone)

/-- A cascade with ENABLE at 1 starts where the shelf is ARMED (R200). -/
def State.enabledStart (s : State) : State :=
  forN 8 (fun c t => if t.isSet (REIN_CAS_CTRL_ENABLE c) && t.casSt c == 0 then t.casEnable c else t) s

/-- ARMED_REACHED (R93, R200, R421, R427). -/
def execArmedReached (s : State) : Res := s.on fun s =>
  if !s.armedReady then .next s
  else
    let s := { s.set BRD_STATUS_SS_USED 0 with
      brd := { s.brd with ssWindow := false, ssOff := false },
      boot := { s.boot with armStep := 0, contRequested := false, rearm := false, armedOnce := true } }
    let s := if s.get BRD_STATUS_RECOV = 2 then s.set BRD_STATUS_RECOV 3 else s
    .next ((s.enter stArmed).enabledStart.tuneAtArmed.showDerate)

/-- ARMING_TIMEOUT (R93, R95, R417): before the contactor request a failed attempt, after it the fault 0x010D. -/
def execArmingTimeout (s : State) : Res := s.on fun s =>
  let k := s.boot.armStep
  if s.shelf ≠ stArming ∨ s.boot.disarming then .next s
  else if !s.boot.contRequested then .next (s.armFail 0x25 k)
  else .next ((s.bootErr 0x25 k).raise 0x010D k 0 0)

/-- ARM_RETRY (R96). -/
def execArmRetry (s : State) : Res := s.on fun s =>
  if s.boot.retryWait && s.shelf == stPassive && s.armReady && s.get BOOT_STATUS_RETRIES_LEFT != 0 then
    let s := { s with boot := { s.boot with retryWait := false } }
    .next (s.set BOOT_STATUS_RETRIES_LEFT (s.get BOOT_STATUS_RETRIES_LEFT - 1)).armGo
  else .next s

/-! ### Disarming (R71, R97, R199) -/

/-- The feed-forward ends: I_ff joins OUT_BASE and the output of the DEST 0x1 cascade (R199). -/
def State.ffIntoBase (s : State) : State :=
  match s.casOf 1 with
  | some c =>
    if s.casSt c = 0 then s
    else (s.wrI (REIN_CAS_OUT_BASE c) (sat31 (s.rdI (REIN_CAS_OUT_BASE c) + s.iff))).wrI (REIN_CAS_OUT c) (sat31 (s.rdI (REIN_CAS_OUT c) + s.iff))
  | none => s

/-- The orderly stop begins (R97): the recovery ends (R421), the cascades but L1 stop, the journal is triggered (R295). -/
def State.disarmBegin (s : State) : State :=
  let s := (s.tuneAbort 5).ffIntoBase
  let s := { s with boot := { s.boot with disarming := true }, rein := { s.rein with restart := [] } }
  let s := forN 8 (fun c t => if t.casDest c ≠ 4 ∧ (t.casSt c = 1 ∨ t.casSt c = 2) then t.set (REIN_CAS_STATUS_STATE c) 3 else t) s
  (((s.set BRD_STATUS_RECOV 0).clearCauses).jnlTrigger 1).disarmStep

/-- DISARM (R70, R71, R96, R97): in PASSIVE it ends a pending ARM and the retries, in ISOLATED it is kept. -/
def State.disarm (s : State) : State :=
  if s.boot.disarming then s.armPend false
  else if s.armedStates then s.disarmBegin
  else if s.shelf = stIsolated then { s with boot := { s.boot with disarmKept := true } }
  else if s.shelf = stPassive then { s.armPend false with boot := { s.boot with retryWait := false } }
  else s

/-- DISARM (R97). -/
def execDisarm (s : State) : Res := s.on fun s => .next s.disarm

/-- The power path opens and PASSIVE is entered (R97), with the journal entry of the contactor opening (R295). -/
def State.toPassive (s : State) : State :=
  let closed := s.pins.contEn.any id
  let s := s.cascadesOff.windowOff
  let s := { s with pins := { s.pins with isoEn := false, contEn := [false, false], drvEn := [false, false, false, false] },
                    brd := { s.brd with openDue := [], openAfterOv := [], ssWindow := false, ssOff := false, returning := [] },
                    boot := { s.boot with armStep := 0, contRequested := false, rearm := false, disarming := false, disarmKept := false } }
  let s := if closed then s.jnlTrigger 2 else s
  ((s.set BRD_STATUS_RECOV 0).clearCauses).enter stPassive

/-- The orderly stop has come to the opening (R97): every cascade OFF, L1's last limits written, every phase shed. -/
def State.disarmed (s : State) : Bool :=
  (List.range 8).all (fun c => s.casSt c == 0) && s.rein.handover.isNone && s.rein.carried.isEmpty
    && (List.range 104).all fun n => !stActive (s.chSt n)

/-- DISARM_COMPLETE (R71, R97): the ramps have ended and the phases are shed; or the isolation is complete and a kept DISARM
leads to PASSIVE, once the over-voltage latch has gone (R414). -/
def execDisarmComplete (s : State) : Res := s.on fun s =>
  if s.boot.disarming && s.armedStates then .next (if s.disarmed then s.toPassive else s)
  else if s.boot.disarmKept && s.shelf == stIsolated && !s.isSet SYS_CONN_STATUS_ISO_FB && !s.isSet HRN_OV_CTRL_LATCHED then .next s.toPassive
  else .next s

/-! ### CLEAR_LATCH (R70, R424) -/

/-- The lowest active code of the latched set. -/
def State.lowestActive (s : State) : Option Nat :=
  (s.brd.causes.filter fun c => s.codeActive c.1).foldl (fun b c => match b with
    | none => some c.1
    | some m => some (min m c.1)) none

/-- CLEAR_LATCH: refused with 0x31 while a code of the set is active. -/
def State.clearLatch (s : State) : State :=
  if s.shelf ≠ stLatched then s
  else
    match s.lowestActive with
    | some c => s.bootRefuse 0x31 c 8
    | none =>
      let s := { s.clearCauses with brd := { s.clearCauses.brd with starts := [] }, boot := { s.boot with disarmKept := false } }
      (s.set BRD_STATUS_SS_USED 0).enter stPassive

/-- CLEAR_LATCH (R424). -/
def execClearLatch (s : State) : Res := s.on fun s => .next s.clearLatch

/-- A write of BOOT_CTRL (R71, R92): each request in turn; DISARM discards an ARM of the same write. -/
def State.bootCtrlWrite (s : State) (v : Word) : State :=
  let s := if v.getLsbD 0 then s.load else s
  let s := if v.getLsbD 2 then s.disarm else if v.getLsbD 1 then s.arm else s
  if v.getLsbD 3 then s.clearLatch else s

/-! ### PENDING_ENABLE_EXPIRY (R425, R426) -/

/-- A pending ARM executes, or is refused as a direct one (R426). -/
def State.armDue (s : State) : State :=
  if !s.isSet SYS_SHELF_STATE_ARM_PENDING || s.shelf != stPassive then s
  else
    let s := s.armPend false
    if s.armReady then s.bootErrClear.beginArming false else s.bootRefuse 0x30 0 2

/-- PENDING_ENABLE_EXPIRY (R425): MIN_OFF_MS after the function reached OFF. -/
def execPendingEnableExpiry (p : Pending) (s : State) : Res := s.on fun s =>
  match p with
  | .shelf => .next s.armDue
  | .cascade c =>
    if s.isSet (REIN_CAS_STATUS_ENABLE_PENDING c.val) && s.casSt c.val == 0 then
      let s := s.casPending c.val false
      .next (if s.inService && !s.boot.disarming then s.casBegin c.val else s)
    else .next s
  | .group g =>
    if bitOf (s.get BRD_PENDING_GRP) g.val then
      .next ((s.set BRD_PENDING_GRP (bitPut (s.get BRD_PENDING_GRP) g.val false)).groupUp g.val)
    else .next s

end Sys2Proof.Machine
end

