-- ==== Sys2Proof/Machine/Secure.lean ====
section
/-! DEFINITION. Rollback protection (R98, R99, R101), attestation (R102 to R104), the TAP (R62, R63). -/

namespace Sys2Proof.Machine

/-! ### Rollback (R99, R101) -/

/-- SEC_SVN_CTRL is written (R99): programming starts, or the write is recorded. Past the write fence no bit starts. -/
def State.svnRequest (s : State) (v : Word) : State :=
  let t := fieldGet v 0 8
  if fieldGet v 8 8 = 0x5A ∧ s.inService ∧ s.get SEC_SVN_FUSED_SVN < t ∧ t ≤ s.get SEC_SVN_LOADED_SVN
      ∧ s.get SEC_SVN_LOADED_SVN ≤ 64 ∧ !s.isSet SEC_SVN_BURNING ∧ s.boot.armedOnce then
    if s.fenced then s else { s.set SEC_SVN_BURNING 1 with boot := { s.boot with svnTarget := t } }
  else s.refuse SEC_SVN_CTRL v.toNat

/-- SVN_FUSE_REQUEST (R99). -/
def execSvnFuseRequest (v : Word) (s : State) : Res := s.on fun s => .next (s.svnRequest v)

/-- SVN_FUSE_BIT_BLOWN (R99). -/
def execSvnFuseBitBlown (s : State) : Res := s.on fun s =>
  if !s.isSet SEC_SVN_BURNING then .next s
  else
    let n := s.otp.rollback + 1
    let s := { s with otp := { s.otp with rollback := n } }.set SEC_SVN_FUSED_SVN n
    .next (if s.boot.svnTarget ≤ n ∨ s.fenced then s.clear SEC_SVN_BURNING else s)

/-! ### Attestation (R102 to R104) -/

/-- The report window reads zero (R103). -/
def State.reportClear (s : State) : State :=
  { s with regs := s.regs.filter fun p => !(0x21000 ≤ p.1 && p.1 < 0x23000) }

/-- REQ is set: ignored while a report is being built (R103). -/
def State.attRequest (s : State) : State :=
  if s.isSet SEC_ATT_CTRL_REQ then s else s.reportClear.set SEC_ATT_CTRL_REQ 1

/-- ATTESTATION_REQUEST (R103). -/
def execAttestationRequest (s : State) : Res := s.on fun s => .next s.attRequest

/-- n registers from an offset on, as bytes. -/
def State.regBytes (s : State) (a n : Nat) : List Byte := ((List.range n).map fun i => leBytes 4 (s.rdN (a + 4 * i))).flatten

/-- The entry of an image type in a report: zero where it is not loaded. -/
def State.imageEntry (s : State) (t : Nat) : List Byte :=
  match s.boot.images.find? (·.1 == t) with
  | some p => leBytes 4 t ++ padTo 64 p.2
  | none => zeros 68

/-- The signed part of a report (R104). The spec leaves three points open, which are DESIGN CHOICE (log 69): the nonce is the
one in SEC_ATT_NONCE when the report is done (R103); after a failed firmware restart the digests of manifest and images
stay as the set was loaded; and with no bundle loaded the manifest's digest is zero. -/
def State.reportBody (s : State) : List Byte :=
  [0x41#8, 0x4B#8, 0x59#8, 0x41#8] ++ leBytes 2 1 ++ leBytes 2 7699 ++ leBytes 8 s.now ++ padTo 16 s.otp.serial
    ++ s.regBytes 0x20120 8 ++ leBytes 1 s.shelf ++ leBytes 1 (s.get SEC_SVN_FUSED_SVN) ++ leBytes 1 (s.get SEC_SVN_LOADED_SVN)
    ++ leBytes 1 ((s.get BOOT_STATUS_PROFILE == 1).toNat + 2 * s.otp.opkeyEn.toNat + 4 * s.otp.debugLock.toNat)
    ++ leBytes 4 (s.rdN SYS_CAPS) ++ zeros 8 ++ s.regBytes 0x20040 16 ++ padTo 64 s.boot.manifestDigest
    ++ s.imageEntry 1 ++ s.imageEntry 2 ++ s.imageEntry 3 ++ s.imageEntry 4
    ++ padTo 2592 (Config.mldsaPublicKey s.otp.idSeed)

/-- ATTESTATION_REPORT_DONE (R103, R104). -/
def execAttestationReportDone (s : State) : Res := s.on fun s =>
  if !s.isSet SEC_ATT_CTRL_REQ then .next s
  else
    let body := s.reportBody
    let l := body ++ padTo 4627 (Config.mldsaSign s.otp.idSeed body s.free)
    let s := { s with free := s.free + 1 }
    let s := forN 1925 (fun i t => t.wrN (SEC_ATT_REPORT i) (leAt l (4 * i) 4)) s
    .next ((s.clear SEC_ATT_CTRL_REQ).raiseBit SEC_ATT_CTRL_DONE 227)

/-! ### The TAP (R62, R63) -/

/-- The TAP's instructions, as `tapIr` numbers them: 0 BYPASS, 1 IDCODE, 2 SAMPLE/PRELOAD, 3 EXTEST, 4 CLAMP, 5 HIGHZ. -/
def State.tapTo (s : State) (i : Nat) : State := { s with pins := { s.pins with tapIr := i } }

/-- EXTEST, CLAMP, HIGHZ (R63, R416): in PASSIVE, with the protected outputs low from then on while the instruction stands;
elsewhere BYPASS and a record, whose instruction code the spec does not give (log 2). -/
def State.tapTest (s : State) (i : Nat) : State :=
  if s.shelf = stPassive then s.tapTo i
  else
    let f := s.fresh
    (f.2.tapTo 0).refuse 0xFFFFFFFF (f.1 % 2 ^ 32)

/-- TAP_BYPASS (R62). -/
def execTapBypass (s : State) : Res := s.on fun s => .next (s.tapTo 0)

/-- TAP_IDCODE (R62): the value of SYS_ID, its low word. -/
def execTapIdcode (s : State) : Res := s.on fun s => .next ((s.tapTo 1).emit (.tap 1 (s.rd SYS_ID)))

/-- TAP_SAMPLE_PRELOAD (R62). -/
def execTapSamplePreload (s : State) : Res := s.on fun s => .next (s.tapTo 2)

/-- TAP_EXTEST (R63). -/
def execTapExtest (s : State) : Res := s.on fun s => .next (s.tapTest 3)

/-- TAP_CLAMP (R63). -/
def execTapClamp (s : State) : Res := s.on fun s => .next (s.tapTest 4)

/-- TAP_HIGHZ (R63). -/
def execTapHighz (s : State) : Res := s.on fun s => .next (s.tapTest 5)

end Sys2Proof.Machine
end

