-- ==== Sys2Proof/Machine/RegWrite.lean ====
section
/-! DEFINITION. What a write of BAR0 does, by the host or by Tack firmware, field by field under each field's access
code (R8, R13 to R17, R175, R478); a register whose write is a row of its own acts as that row does. -/

namespace Sys2Proof.Machine

/-! ### Fields with conditions of their own -/

/-- A write field by field (R15, R17, R175) in which the bits of `act` are requests taken elsewhere and the fields of
`held` keep their values; `bad` says that the write is refused in one of those. One record, with the whole value, for
whatever it refuses. -/
def State.heldWrite (s : State) (a : Nat) (v act : Word) (held : List (Nat × Nat)) (bad : Bool) : State :=
  match regSpec a with
  | none => s
  | some r =>
    let cur := s.rd a
    let w := held.foldl (fun w p => fieldPut w p.1 p.2 (fieldGet cur p.1 p.2)) (v &&& ~~~act)
    let t := r.takes (s.shelf == stPassive) cur w
    let s := s.wr a t.1
    if bad || t.2 then s.refuse a v.toNat else s

/-- A write field by field in which the fields of `veto` may not change. -/
def State.guardedWrite (s : State) (a : Nat) (v act : Word) (veto : List (Nat × Nat)) : State :=
  s.heldWrite a v act veto (veto.any fun p => fieldGet v p.1 p.2 != fieldGet (s.rd a) p.1 p.2)

/-- Do something for every bit set in a field of a write. -/
def forBits (v : Word) (lo n : Nat) (f : Nat → State → State) (s : State) : State :=
  forN n (fun i t => if v.getLsbD (lo + i) then f i t else t) s

/-! ### Clocks, boot, Harness -/

/-- Registers of clocks and power modes (R110, R121, R136); a CLK_EN field of a unit that the module lacks ignores the write (R3, R8, R108). -/
def State.clkWrite (s : State) (a : Nat) (v : Word) : State :=
  if a = CLK_SRC_SEL then s.srcWrite v
  else if a = CLK_EN_RUN ∨ a = CLK_EN_SLEEP ∨ a = CLK_EN_DEEP then
    s.plainWrite a (v &&& BitVec.ofNat 32 (domainMask s.otp.variant))
  else if a = CLK_FMEAS_CTRL then
    let s := s.guardedWrite a v 1 []
    if v.getLsbD 0 then s.fmeasStart else s
  else if a = PWR_CTRL then (s.guardedWrite a (fieldPut v 0 1 (s.get PWR_CTRL_MODE)) 0 []).modeSelect (v.getLsbD 0)
  else s.plainWrite a v

/-- Registers of boot and security (R92, R99, R103). -/
def State.bootWrite (s : State) (a : Nat) (v : Word) : State :=
  if a = BOOT_CTRL then s.bootCtrlWrite v
  else if a = SEC_SVN_CTRL then s.svnRequest v
  else if a = SEC_ATT_CTRL then
    let s := s.guardedWrite a v 1 []
    if v.getLsbD 0 then s.attRequest else s
  else s.plainWrite a v

/-- HRN_GRP_CTRL (R148, R178, R426). -/
def State.grpWrite (s : State) (g : Nat) (v : Word) : State :=
  let s := s.guardedWrite (HRN_GRP_CTRL g) (fieldPut v 0 1 (s.get (HRN_GRP_CTRL_ENABLE g))) 0 []
  if v.getLsbD 0 then s.groupEnable g else s.groupDisable g

/-- Registers of Harness (R162, R169, R174 to R178). CLEAR is judged by the VNODE measured now. -/
def State.hrnWrite (s : State) (a : Nat) (v : Word) : State :=
  if a < 0x106800 ∧ a % 0x100 = 0 then s.forceShed ((a - 0x100000) / 0x100) (v.getLsbD 4)
  else if 0x110000 ≤ a ∧ a < 0x110D00 ∧ a % 0x100 = 0 then s.grpWrite ((a - 0x110000) / 0x100) v
  else if a = HRN_SYNC_CTRL then
    (s.heldWrite a v 0 [(0, 2)] (fieldGet v 0 2 == 3)).syncSelect (fieldGet v 0 2)
  else if a = HRN_OV_CTRL then
    (if v.getLsbD 0 && s.isSet HRN_OV_CTRL_LATCHED && decide (s.meas.vnode < s.get HRN_OV_CFG_OV_THRESH) then s.ovRelease else s)
  else s.plainWrite a v

/-! ### Spur and forecast, ring, estimation, fabric, Bridle -/

/-- Registers of Spur and of the forecast (R226, R227, R237, R241). -/
def State.spurWrite (s : State) (a : Nat) (v : Word) : State :=
  let x := (a - 0x282000) / 0x40
  let o := (a - 0x282000) % 0x40
  if a = SPUR_CTRL then
    let s := s.guardedWrite a v 4 []
    if v.getLsbD 2 then s.set SPUR_ACK_LAT_MAX 0 else s
  else if 0x282000 ≤ a ∧ a < 0x282400 then
    if o = 0 then
      (if s.otp.variant == .control && !v.getLsbD 2 then s.heldWrite a v 0 [(2, 1)] true else s.plainWrite a v)
    else if o = 8 then s.headStep x v
    else if o = 0x18 then s.quietPut x (v.toNat + 2 ^ 32 * s.rdN (FCST_STR_QUIET_HI x))
    else if o = 0x1C then s.quietPut x (s.rdN (FCST_STR_QUIET_LO x) + 2 ^ 32 * v.toNat)
    else s.plainWrite a v
  else s.plainWrite a v

/-- Registers of the ring engine (R251, R254, R260, R272, R276). -/
def State.ringRegWrite (s : State) (byTack : Bool) (a : Nat) (v : Word) : State :=
  if a = RING_CTRL then
    let s := if s.isSet RING_CTRL_BAL_EN && !v.getLsbD 1 then s.balDisable else s
    forBits v 4 2 (fun x t => t.enumRequest x) (s.guardedWrite a v 0x30 [])
  else if a = RING_CFG then
    let c := fieldGet v 16 3
    let moved := c != s.get RING_CFG_CORNER
    let s := s.plainWrite a v
    if moved then s.cornerWrite c else s
  else if a = RING_BAL_CMD then s.balCmd v
  else if a = RING_HB_KICK then (if byTack then s.ringKick else s)
  else if a = RING_OW_CTRL then
    let s := s.guardedWrite a v 1 []
    if v.getLsbD 0 then (if wireOk (fieldGet v 9 4) then s.owStart else s.clear RING_OW_CTRL_START) else s
  else s.plainWrite a v

/-- Registers of state estimation (R289, R295, R298). -/
def State.estWrite (s : State) (a : Nat) (v : Word) : State :=
  if a = EST_CTRL then
    let s := s.guardedWrite a v 4 []
    if v.getLsbD 2 then s.restNow else s
  else if a = EST_JNL_CTRL then (if v.getLsbD 0 then s.writeNow else s)
  else if a = EST_EFC 0 then s.efcWrite 0 v
  else if a = EST_EFC 1 then s.efcWrite 1 v
  else s.plainWrite a v

/-- Registers of the fabric (R332, R340). -/
def State.fabWrite (s : State) (a : Nat) (v : Word) : State :=
  if a = FAB_CTRL then
    let s := s.guardedWrite a v 0x100 []
    if v.getLsbD 8 then s.yieldLead else s
  else s.plainWrite a v

/-- Registers of Bridle (R431, R433): only Tack firmware kicks its watchdog. -/
def State.brdWrite (s : State) (byTack : Bool) (a : Nat) (v : Word) : State :=
  if a = BRD_HOST_KICK then s.hostKick
  else if a = BRD_WDT_KICK then
    (if !byTack then s.refuse a v.toNat
     else if s.boot.fwRuns && s.get BOOT_STATUS_BUNDLE == 4 then s.set BRD_STATUS_WDT_RUN 1 else s)
  else s.plainWrite a v

/-! ### Saddlebag, telemetry, Remount -/

/-- Registers of Saddlebag (R443, R444, R446 to R448): a list's offsets stand while its TKIND is not 0. -/
def State.sbgWrite (s : State) (a : Nat) (v : Word) : State :=
  let l := (a - 0x581000) / 0x100
  if a = SBG_CTRL then (if v.getLsbD 1 then s.mark else s)
  else if a = SBG_INC_KEEP then s.keepWrite (fieldGet v 0 16)
  else if a = SBG_TRIG then forBits v 0 16 (fun i t => t.trig i) s
  else if 0x581000 ≤ a ∧ a < 0x582000 ∧ 0x80 ≤ a % 0x100 then
    (if s.get (SBG_LIST_CFG_TKIND l) ≠ 0 ∨ !listAddrOk v.toNat then s.refuse a v.toNat else s.plainWrite a v)
  else s.plainWrite a v

/-- TEL_R_CTRL (R452, R453, R456): SIZE_LOG2 stands while ENABLE is 1; a first ENABLE brings the ring into use, a later
one may end its hold. -/
def State.telCtrlWrite (s : State) (r : Nat) (v : Word) : State :=
  let was := s.held (r + 1)
  let s := s.guardedWrite (TEL_R_CTRL r) v 0 (if s.isSet (TEL_R_CTRL_ENABLE r) then [(8, 8)] else [])
  let s := if s.isSet (TEL_R_CTRL_ENABLE r) then s.setPath (r + 1) { s.path (r + 1) with used := true } else s
  if was then s.holdEnd r else s.showLevel (r + 1)

/-- Registers of telemetry (R452, R453, R455). -/
def State.telWrite (s : State) (a : Nat) (v : Word) : State :=
  let r := (a - 0x600100) / 0x40
  let o := (a - 0x600100) % 0x40
  if 0x600100 ≤ a ∧ a < 0x600200 then
    if o = 0 then s.telCtrlWrite r v
    else if 8 ≤ o ∧ o < 0x18 then s.guardedWrite a v 0 (if s.isSet (TEL_R_CTRL_ENABLE r) then [(0, 32)] else [])
    else if o = 0x18 then s.headWrite r v
    else s.plainWrite a v
  else s.plainWrite a v

/-- Registers of Remount (R462, R475, R477). -/
def State.rmtWrite (s : State) (a : Nat) (v : Word) : State :=
  if a = RMT_CTRL then forBits v 16 10 (fun k t => t.rmtCancel k) (s.guardedWrite a v 0x03FF0000 [])
  else if a = RMT_REQ then s.rmtReq v
  else if a = RMT_RETIRE then s.rmtRetire v
  else s.plainWrite a v

/-! ### Larkspur -/

/-- LKS_Q_CTRL (R382, R391, R408): SIZE_LOG2 stands while ENABLE is 1; a rise of ENABLE starts the queue's rings over.
QUEUE_ABORT does what the ABORT bit asks. -/
def State.qCtrlWrite (s : State) (d q : Nat) (v : Word) : State :=
  let on := s.isSet (LKS_Q_CTRL_ENABLE d q)
  let s := s.guardedWrite (LKS_Q_CTRL d q) v 0 (if on then [(8, 8)] else [])
  if !on && s.isSet (LKS_Q_CTRL_ENABLE d q) then s.queueEnable d q else s

/-- A register of queue q of die d at offset o of the queue's block (R382): a host write to a Tack queue is ignored and
recorded; the ring bases and CORES take writes only while ENABLE is 0, CORES only of the owner's cores. -/
def State.queueWrite (s : State) (byTack : Bool) (d q o a : Nat) (v : Word) : State :=
  let own := qCoresReset d q
  if tackQueue q != byTack then (if byTack then s else s.tackOwned a v.toNat)
  else if o = 0 then s.qCtrlWrite d q v
  else if 8 ≤ o ∧ o < 0x20 then
    let out := (o = 0x18 ∧ v &&& ~~~(BitVec.ofNat 32 own.1) ≠ 0) ∨ (o = 0x1C ∧ v &&& ~~~(BitVec.ofNat 32 own.2) ≠ 0)
    (if s.isSet (LKS_Q_CTRL_ENABLE d q) ∨ out then s.refuse a v.toNat else s.plainWrite a v)
  else s.plainWrite a v

/-- A register of tiering channel ch of die d (R367, R368, R378): channel 0 is Tack firmware's. -/
def State.tierWrite (s : State) (byTack : Bool) (d ch o a : Nat) (v : Word) : State :=
  if (ch == 0) != byTack then (if byTack then s else s.tackOwned a v.toNat)
  else if o = 0 then
    let s := s.guardedWrite a v 3 []
    let s := if v.getLsbD 1 then s.tierAbort d ch else s
    if v.getLsbD 0 then s.tierStart d ch else s
  else s.plainWrite a v

/-- LKS_TRAIN_CTRL (R400, R401): the fields, then PROMOTE, REVERT, INSTALL and EXPORT. -/
def State.trainWrite (s : State) (v : Word) : State :=
  let s := s.guardedWrite LKS_TRAIN_CTRL v 0x74 []
  let s := if v.getLsbD 2 then s.promote else s
  let s := if v.getLsbD 4 then s.revert else s
  let s := if v.getLsbD 5 then (s.set LKS_TRAIN_CTRL_INSTALL 1).transfer 2 else s
  if v.getLsbD 6 then (s.set LKS_TRAIN_CTRL_EXPORT 1).transfer 1 else s

/-- W of R403 for the members now: the frames that a round takes. -/
def State.roundFrames (s : State) : Nat :=
  let n := s.fleetMembers.length
  let v := Config.fleetElements s.lks.train.modelId
  if n = 0 then 0 else 2 * (n - 1) * (((((v + 1) / 2 + n - 1) / n) + chunkSize - 1) / chunkSize)

/-- LKS_FLEET_CTRL (R402, R403): a ROUND_FRAMES below W + 4 is refused and sets TOO_LONG; 0 means no rounds. -/
def State.fleetWrite (s : State) (v : Word) : State :=
  let n := fieldGet v 8 24
  let bad := n != 0 && decide (n < s.roundFrames + 4)
  let s := if bad then
      ((s.guardedWrite LKS_FLEET_CTRL (fieldPut v 8 24 (s.get LKS_FLEET_CTRL_ROUND_FRAMES)) 0 []).raiseBit
        LKS_FLEET_STATUS_TOO_LONG 253).refuse LKS_FLEET_CTRL v.toNat
    else s.plainWrite LKS_FLEET_CTRL v
  s.showFleet

/-- Registers of Larkspur (R375, R382, R407). -/
def State.lksWrite (s : State) (byTack : Bool) (a : Nat) (v : Word) : State :=
  let d := (a - 0x1000000) / 0x800000
  let o := (a - 0x1000000) % 0x800000
  if 0x10000 ≤ o ∧ o < 0x11000 then s.queueWrite byTack d ((o - 0x10000) / 0x40) (o % 0x40) a v
  else if 0x400 ≤ o ∧ o < 0x440 then s.tierWrite byTack d ((o - 0x400) / 0x20) (o % 0x20) a v
  else if a = LKS_TRAIN_CTRL then s.trainWrite v
  else if a = LKS_FLEET_CTRL then s.fleetWrite v
  else if 0x1000A10 ≤ a ∧ a < 0x1000A50 then (s.plainWrite a v).showFleet
  else s.plainWrite a v

/-! ### The row -/

/-- A whole word written to a register that stands on this module. -/
def State.regWrite (s : State) (byTack : Bool) (a : Nat) (v : Word) : State :=
  if a < 0x10000 then s.plainWrite a v
  else if a < 0x20000 then s.clkWrite a v
  else if a < 0x100000 then s.bootWrite a v
  else if a < 0x200000 then s.hrnWrite a v
  else if a < 0x280000 then s.reinWrite a v
  else if a < 0x300000 then s.spurWrite a v
  else if a < 0x380000 then s.ringRegWrite byTack a v
  else if a < 0x400000 then s.estWrite a v
  else if a < 0x500000 then s.fabWrite a v
  else if a < 0x580000 then s.brdWrite byTack a v
  else if a < 0x5C0000 then s.sbgWrite a v
  else if a < 0x600000 then s.rmtWrite a v
  else if a < 0x1000000 then s.telWrite a v
  else s.lksWrite byTack a v

end Sys2Proof.Machine
end

