-- ==== Sys2Proof/Machine/Access.lean ====
section
/-! DEFINITION. Accesses to BAR0 and BAR2: REGISTER_WRITE, LOW_WORD_READ and BAR2_ACCESS (R8, R13 to R18, R379, R478), the bus
ratios that they need (R116), their wait for a PLL_REF change (R506) or a move of HBM4 (R467), and the wake that they need in Deep-sleep (R118). -/

namespace Sys2Proof.Machine

/-- The bus ratios are within R116's limits: the main bus at or below 1 GHz, so MAIN_DIV 0 does not go with PLL-MEM; the
peripheral bus at or below half of it; the Harness bus at 1:1 or 1:2. -/
def State.busOk (s : State) : Bool :=
  !(s.get CLK_SRC_SEL_MAIN_SRC == 2 && s.get CLK_DIV_MAIN_DIV == 0) && s.get CLK_DIV_PERIPH_DIV != 0
    && decide (s.get CLK_DIV_HRN_BUS_DIV ≤ 1)

/-- A word written to BAR0 at an offset with byte enables (R8, R13 to R17, R478). A narrow or unaligned write is discarded and
recorded; a register of a unit that the module lacks, and a reserved offset, ignore the write. Outside the bus ratios the
access is undefined: whether it is lost and, if not, the value that lands are free (R116, KL-02; log 27). -/
def State.regAccess (s : State) (byTack : Bool) (a be : Nat) (v : Word) : State :=
  if be ≠ 15 ∨ a % 4 ≠ 0 then s.refuse a (v &&& laneMask be).toNat
  else if absentAddr s.otp.variant a || (regSpec a).isNone then s
  else if s.busOk then s.regWrite byTack a v
  else
    let f := s.fresh
    let g := f.2.fresh
    if f.1 % 2 = 0 then f.2 else g.2.regWrite byTack a (BitVec.ofNat 32 g.1)

/-- A requester reads the word at an offset of BAR0 (R13, R18); a read narrower than 32 bits returns the addressed bytes.
Outside the bus ratios the value is free (R116, log 27). -/
def State.regRead (s : State) (who a be : Nat) : State :=
  let r := if s.busOk then s.readAs who (a / 4 * 4) else (BitVec.ofNat 32 s.fresh.1, s.fresh.2)
  r.2.emit (.readData who (a / 4 * 4) be (r.1 &&& laneMask be))

/-- An access takes place. -/
def State.served (s : State) : HostAcc → State
  | .write byTack a be v => s.regAccess byTack a be v
  | .read who a be => s.regRead who a be
  | .bar2 off n data => s.bar2 off n data

/-- An access to HBM4 that Remount is moving has to wait (R467). -/
def State.meetsMove (s : State) : HostAcc → Bool
  | .bar2 off n data =>
    let w := off / 2 ^ 34 % 4
    s.isSet (LKS_BAR2_WIN_EN w)
      && s.moving (s.get (LKS_BAR2_WIN_BASE w) * 2 ^ 34 + off % 2 ^ 34) (match data with | some l => l.length | none => n)
  | _ => false

/-- An access takes place, or waits while the PLLs relock (R506) or Remount moves what it names (R467). -/
def State.arrive (s : State) (x : HostAcc) : State :=
  if s.relock || s.meetsMove x then { s with clk := { s.clk with waiting := s.clk.waiting ++ [x] } } else s.served x

/-- An access arrives (R118, R124, R506): in Deep-sleep Tack firmware rests, and the host reaches the module through an exit
from L1, which wakes it, and not otherwise. -/
def State.accessed (s : State) (byTack : Bool) (x : HostAcc) : State :=
  let up := s.pcie.link.low && s.pcie.dstate == 0 && !byTack
  if s.asleep && !up then s
  else (if s.asleep then ({ s with pcie := { s.pcie with link := .up } }.showWakeN).wakeBy 0 else s).arrive x

/-- REGISTER_WRITE (R8, R13 to R17, R478). -/
def execRegisterWrite (byTack : Bool) (a : Fin 67108864) (be : Fin 16) (v : Word) (s : State) : Res := s.on fun s =>
  .next (s.accessed byTack (.write byTack a.val be.val v))

/-- LOW_WORD_READ (R13, R18). -/
def execLowWordRead (who : Fin 256) (a : Fin 67108864) (be : Fin 16) (s : State) : Res := s.on fun s =>
  .next (s.accessed false (.read who.val a.val be.val))

/-- BAR2_ACCESS (R125, R366, R371, R379, R380): a read of n bytes, or a write, at a BAR2 offset. -/
def execBar2Access (off : Nat) (n : Fin 65) (data : Option (List Byte)) (s : State) : Res := s.on fun s =>
  .next (s.accessed false (.bar2 off n.val data))

/-- The accesses that waited follow in the order of their arrival. -/
def State.resumeAccesses (s : State) : State :=
  forL s.clk.waiting (fun x t => t.arrive x) { s with clk := { s.clk with waiting := [] } }

/-- PLL_REF_CHANGE_COMPLETE (R506): the relocked PLLs are ready, the domains resume, and the accesses that waited follow in
the order of their arrival. -/
def execPllRefChangeComplete (s : State) : Res := s.on fun s =>
  if !s.relock then .next s else .next s.pllRefDone.resumeAccesses

/-- SUBSTITUTION_SWITCH_COMPLETE (R462, R465, R467): the switch of a kind ends, and what waited for it goes on. -/
def execSubstitutionSwitchComplete (k : Fin 10) (e : SwEnd) (s : State) : Res := s.on fun s =>
  if s.kst k.val ≠ rSwitch then .next s
  else
    let s := s.switchEnd k.val e
    .next (if k.val = 3 ∨ k.val = 4 then s.resumeAccesses else if k.val = 8 then s.sectorDone else s)

end Sys2Proof.Machine
end

