-- ==== Sys2Proof/Machine/Dispatch.lean ====
section
/-! DEFINITION. Dispatch: one arm for every command, each a direct call of its meaning. -/

namespace Sys2Proof.Machine

def exec (i : Instr) (s : State) : Host.Outcome State Fault Refusal :=
  match i with
  | .registerWrite byTack a be v => Sys2Proof.Machine.execRegisterWrite byTack a be v s
  | .lowWordRead who a be => Sys2Proof.Machine.execLowWordRead who a be s
  | .vinStart conn => Sys2Proof.Machine.execVinStart conn s
  | .vinConverterStop => Sys2Proof.Machine.execVinConverterStop s
  | .inputOvLockout vin => Sys2Proof.Machine.execInputOvLockout vin s
  | .inputOvRestart conn => Sys2Proof.Machine.execInputOvRestart conn s
  | .writeFenceWarning vin => Sys2Proof.Machine.execWriteFenceWarning vin s
  | .writeFence busy => Sys2Proof.Machine.execWriteFence busy s
  | .fenceWarnClear => Sys2Proof.Machine.execFenceWarnClear s
  | .p0OnlySpanEnd => Sys2Proof.Machine.execP0OnlySpanEnd s
  | .perstAssert => Sys2Proof.Machine.execPerstAssert s
  | .perstDeassert => Sys2Proof.Machine.execPerstDeassert s
  | .linkLoss => Sys2Proof.Machine.execLinkLoss s
  | .mezPresChange n present idOk => Sys2Proof.Machine.execMezPresChange n present idOk s
  | .sfpInsertion p => Sys2Proof.Machine.execSfpInsertion p s
  | .sfpPeriodicRead => Sys2Proof.Machine.execSfpPeriodicRead s
  | .profileReadComplete d b => Sys2Proof.Machine.execProfileReadComplete d b s
  | .load => Sys2Proof.Machine.execLoad s
  | .fetchCompletionError info => Sys2Proof.Machine.execFetchCompletionError info s
  | .bundleFetchComplete bytes => Sys2Proof.Machine.execBundleFetchComplete bytes s
  | .bundleVerifyComplete => Sys2Proof.Machine.execBundleVerifyComplete s
  | .bundleLoaded => Sys2Proof.Machine.execBundleLoaded s
  | .arm => Sys2Proof.Machine.execArm s
  | .disarm => Sys2Proof.Machine.execDisarm s
  | .disarmComplete => Sys2Proof.Machine.execDisarmComplete s
  | .clearLatch => Sys2Proof.Machine.execClearLatch s
  | .armFirstStep ids => Sys2Proof.Machine.execArmFirstStep ids s
  | .armBlockerTimeout => Sys2Proof.Machine.execArmBlockerTimeout s
  | .armChecksPassed => Sys2Proof.Machine.execArmChecksPassed s
  | .armContactorRequest => Sys2Proof.Machine.execArmContactorRequest s
  | .armPrechargeStart => Sys2Proof.Machine.execArmPrechargeStart s
  | .armIsoRequest vnode vbus => Sys2Proof.Machine.execArmIsoRequest vnode vbus s
  | .armLoopsStart => Sys2Proof.Machine.execArmLoopsStart s
  | .armedReached => Sys2Proof.Machine.execArmedReached s
  | .armingTimeout => Sys2Proof.Machine.execArmingTimeout s
  | .armRetry => Sys2Proof.Machine.execArmRetry s
  | .svnFuseRequest v => Sys2Proof.Machine.execSvnFuseRequest v s
  | .svnFuseBitBlown => Sys2Proof.Machine.execSvnFuseBitBlown s
  | .attestationRequest => Sys2Proof.Machine.execAttestationRequest s
  | .attestationReportDone => Sys2Proof.Machine.execAttestationReportDone s
  | .mainSrcSelect v => Sys2Proof.Machine.execMainSrcSelect v s
  | .aonSrcSelect v => Sys2Proof.Machine.execAonSrcSelect v s
  | .pllRefChange v => Sys2Proof.Machine.execPllRefChange v s
  | .pllRefChangeComplete => Sys2Proof.Machine.execPllRefChangeComplete s
  | .clockSwitchComplete => Sys2Proof.Machine.execClockSwitchComplete s
  | .sourceReady b => Sys2Proof.Machine.execSourceReady b s
  | .clockLossForcing b => Sys2Proof.Machine.execClockLossForcing b s
  | .clockLossNonforcing b => Sys2Proof.Machine.execClockLossNonforcing b s
  | .clockHoldClear => Sys2Proof.Machine.execClockHoldClear s
  | .xtalBStartTimeout => Sys2Proof.Machine.execXtalBStartTimeout s
  | .xtalAStartTimeout => Sys2Proof.Machine.execXtalAStartTimeout s
  | .fmeasStart dut ref => Sys2Proof.Machine.execFmeasStart dut ref s
  | .fmeasDone count => Sys2Proof.Machine.execFmeasDone count s
  | .powerModeSelect m => Sys2Proof.Machine.execPowerModeSelect m s
  | .deepSleepEntry => Sys2Proof.Machine.execDeepSleepEntry s
  | .wakeSourceFired b => Sys2Proof.Machine.execWakeSourceFired b s
  | .wakeTimerExpiry => Sys2Proof.Machine.execWakeTimerExpiry s
  | .domainGateChange => Sys2Proof.Machine.execDomainGateChange s
  | .bar2WakeLatchExpiry m => Sys2Proof.Machine.execBar2WakeLatchExpiry m s
  | .switchingCycleStart n iAvg => Sys2Proof.Machine.execSwitchingCycleStart n iAvg s
  | .peakComparatorTrip n isns left => Sys2Proof.Machine.execPeakComparatorTrip n isns left s
  | .blankingEnd n isns left => Sys2Proof.Machine.execBlankingEnd n isns left s
  | .latestTurnOff n isns => Sys2Proof.Machine.execLatestTurnOff n isns s
  | .deadTimeExpiry n => Sys2Proof.Machine.execDeadTimeExpiry n s
  | .zeroCurrentDetect n => Sys2Proof.Machine.execZeroCurrentDetect n s
  | .peakLimitTrip n isns left => Sys2Proof.Machine.execPeakLimitTrip n isns left s
  | .hiccupOffExpiry g => Sys2Proof.Machine.execHiccupOffExpiry g s
  | .hiccupRetryComplete g => Sys2Proof.Machine.execHiccupRetryComplete g s
  | .runClearExpiry g => Sys2Proof.Machine.execRunClearExpiry g s
  | .shedAddSlot => Sys2Proof.Machine.execShedAddSlot s
  | .stepEvent xs => Sys2Proof.Machine.execStepEvent xs s
  | .stepHoldExpiry x => Sys2Proof.Machine.execStepHoldExpiry x s
  | .fltNLow n => Sys2Proof.Machine.execFltNLow n s
  | .stageTempCheck n temp => Sys2Proof.Machine.execStageTempCheck n temp s
  | .faultedChannelReturn n => Sys2Proof.Machine.execFaultedChannelReturn n s
  | .syncEdge interval phase => Sys2Proof.Machine.execSyncEdge interval phase s
  | .syncEdgeMissing => Sys2Proof.Machine.execSyncEdgeMissing s
  | .syncSrcSelect src => Sys2Proof.Machine.execSyncSrcSelect src s
  | .overVoltageDeclared vnode => Sys2Proof.Machine.execOverVoltageDeclared vnode s
  | .ovLowSwitchLatch n => Sys2Proof.Machine.execOvLowSwitchLatch n s
  | .ovNoIso => Sys2Proof.Machine.execOvNoIso s
  | .ovClear vnode => Sys2Proof.Machine.execOvClear vnode s
  | .ovAutoRelease => Sys2Proof.Machine.execOvAutoRelease s
  | .lastFaultRecordWrite => Sys2Proof.Machine.execLastFaultRecordWrite s
  | .groupEnable g => Sys2Proof.Machine.execGroupEnable g s
  | .groupDisable g => Sys2Proof.Machine.execGroupDisable g s
  | .forceShedWrite n v => Sys2Proof.Machine.execForceShedWrite n v s
  | .pendingEnableExpiry p => Sys2Proof.Machine.execPendingEnableExpiry p s
  | .reinSample inp => Sys2Proof.Machine.execReinSample inp s
  | .followingErrorTrip c => Sys2Proof.Machine.execFollowingErrorTrip c s
  | .cascadeEnable c => Sys2Proof.Machine.execCascadeEnable c s
  | .cascadeDisable c => Sys2Proof.Machine.execCascadeDisable c s
  | .bankSwitch c b => Sys2Proof.Machine.execBankSwitch c b s
  | .cascadeHold c => Sys2Proof.Machine.execCascadeHold c s
  | .cascadeHoldClear c => Sys2Proof.Machine.execCascadeHoldClear c s
  | .coefficientWrite k word v => Sys2Proof.Machine.execCoefficientWrite k word v s
  | .sectionStateWrite k word v => Sys2Proof.Machine.execSectionStateWrite k word v s
  | .mapWrite c w => Sys2Proof.Machine.execMapWrite c w s
  | .casSrcWrite c v => Sys2Proof.Machine.execCasSrcWrite c v s
  | .l1Slot inp => Sys2Proof.Machine.execL1Slot inp s
  | .pmbusClearFaults r => Sys2Proof.Machine.execPmbusClearFaults r s
  | .tuneStart c => Sys2Proof.Machine.execTuneStart c s
  | .tuneAbort => Sys2Proof.Machine.execTuneAbort s
  | .tuneTimeLimit => Sys2Proof.Machine.execTuneTimeLimit s
  | .spurHint inp => Sys2Proof.Machine.execSpurHint inp s
  | .spurCancel inp => Sys2Proof.Machine.execSpurCancel inp s
  | .spurInvalidFrame lane gap => Sys2Proof.Machine.execSpurInvalidFrame lane gap s
  | .clrLatMax => Sys2Proof.Machine.execClrLatMax s
  | .commitStep => Sys2Proof.Machine.execCommitStep s
  | .hintExpiry inp => Sys2Proof.Machine.execHintExpiry inp s
  | .hrRelease => Sys2Proof.Machine.execHrRelease s
  | .headStepWrite x lo => Sys2Proof.Machine.execHeadStepWrite x lo s
  | .quietUntilWrite x v => Sys2Proof.Machine.execQuietUntilWrite x v s
  | .sweepStart vstrA vstrB => Sys2Proof.Machine.execSweepStart vstrA vstrB s
  | .sweepComplete x inp => Sys2Proof.Machine.execSweepComplete x inp s
  | .breakDetect x inp => Sys2Proof.Machine.execBreakDetect x inp s
  | .readHeldComplete x inp => Sys2Proof.Machine.execReadHeldComplete x inp s
  | .ringHbKick => Sys2Proof.Machine.execRingHbKick s
  | .enum x => Sys2Proof.Machine.execEnum x s
  | .enumAssignReturn x counter recs => Sys2Proof.Machine.execEnumAssignReturn x counter recs s
  | .enumVerifyReturn x recs => Sys2Proof.Machine.execEnumVerifyReturn x recs s
  | .enumFrameTimeout x => Sys2Proof.Machine.execEnumFrameTimeout x s
  | .balCmd v => Sys2Proof.Machine.execBalCmd v s
  | .balDisable => Sys2Proof.Machine.execBalDisable s
  | .openWireStart x m w => Sys2Proof.Machine.execOpenWireStart x m w s
  | .openWireAuto x => Sys2Proof.Machine.execOpenWireAuto x s
  | .cornerWrite v => Sys2Proof.Machine.execCornerWrite v s
  | .swapRequest x pin pout => Sys2Proof.Machine.execSwapRequest x pin pout s
  | .swapBreak x => Sys2Proof.Machine.execSwapBreak x s
  | .swapWaitTimeout x => Sys2Proof.Machine.execSwapWaitTimeout x s
  | .swapMake x => Sys2Proof.Machine.execSwapMake x s
  | .estimatorRun x => Sys2Proof.Machine.execEstimatorRun x s
  | .restCheck => Sys2Proof.Machine.execRestCheck s
  | .restNow => Sys2Proof.Machine.execRestNow s
  | .restShedComplete => Sys2Proof.Machine.execRestShedComplete s
  | .restShedTimeout => Sys2Proof.Machine.execRestShedTimeout s
  | .restAverageStart => Sys2Proof.Machine.execRestAverageStart s
  | .restReference => Sys2Proof.Machine.execRestReference s
  | .restAbort => Sys2Proof.Machine.execRestAbort s
  | .journalPeriodic => Sys2Proof.Machine.execJournalPeriodic s
  | .writeNow => Sys2Proof.Machine.execWriteNow s
  | .journalWriteComplete mismatch => Sys2Proof.Machine.execJournalWriteComplete mismatch s
  | .efcWrite x v => Sys2Proof.Machine.execEfcWrite x v s
  | .syncSend tx0 tx1 => Sys2Proof.Machine.execSyncSend tx0 tx1 s
  | .shareSend => Sys2Proof.Machine.execShareSend s
  | .delayReqSend p t3 => Sys2Proof.Machine.execDelayReqSend p t3 s
  | .shareCollectionClose => Sys2Proof.Machine.execShareCollectionClose s
  | .teamSummarySend => Sys2Proof.Machine.execTeamSummarySend s
  | .delayRespSend => Sys2Proof.Machine.execDelayRespSend s
  | .targetSelect => Sys2Proof.Machine.execTargetSelect s
  | .hallTargetCompute => Sys2Proof.Machine.execHallTargetCompute s
  | .bulkWindow => Sys2Proof.Machine.execBulkWindow s
  | .syncReceived inp => Sys2Proof.Machine.execSyncReceived inp s
  | .shareReceived inp => Sys2Proof.Machine.execShareReceived inp s
  | .teamSummaryReceived inp => Sys2Proof.Machine.execTeamSummaryReceived inp s
  | .delayReqReceived h t3 => Sys2Proof.Machine.execDelayReqReceived h t3 s
  | .delayRespReceived h reqSeq t4 => Sys2Proof.Machine.execDelayRespReceived h reqSeq t4 s
  | .bulkFrameReceived inp => Sys2Proof.Machine.execBulkFrameReceived inp s
  | .offsetEstimate p => Sys2Proof.Machine.execOffsetEstimate p s
  | .timeStep => Sys2Proof.Machine.execTimeStep s
  | .leadFailure hall => Sys2Proof.Machine.execLeadFailure hall s
  | .pathDown p c => Sys2Proof.Machine.execPathDown p c s
  | .yield => Sys2Proof.Machine.execYield s
  | .matrixTile inp => Sys2Proof.Machine.execMatrixTile inp s
  | .vectorOp inp => Sys2Proof.Machine.execVectorOp inp s
  | .transcendental a f src dst => Sys2Proof.Machine.execTranscendental a f src dst s
  | .conversion inp => Sys2Proof.Machine.execConversion inp s
  | .threadLoad a rd addr k ecc => Sys2Proof.Machine.execThreadLoad a rd addr k ecc s
  | .threadStore a rs addr k => Sys2Proof.Machine.execThreadStore a rs addr k s
  | .atomic a op wide signed addr rs rc rd => Sys2Proof.Machine.execAtomic a op wide signed addr rs rc rd s
  | .memoryFence a scope => Sys2Proof.Machine.execMemoryFence a scope s
  | .powerCapTick d power env => Sys2Proof.Machine.execPowerCapTick d power env s
  | .hostCoreSuspend d => Sys2Proof.Machine.execHostCoreSuspend d s
  | .hostCoreResume d => Sys2Proof.Machine.execHostCoreResume d s
  | .sramScrub d c ce ue => Sys2Proof.Machine.execSramScrub d c ce ue s
  | .tierStart d ch byTack => Sys2Proof.Machine.execTierStart d ch byTack s
  | .tierAbort d ch byTack => Sys2Proof.Machine.execTierAbort d ch byTack s
  | .tierCopyComplete d ch again => Sys2Proof.Machine.execTierCopyComplete d ch again s
  | .coreWakeComplete d c => Sys2Proof.Machine.execCoreWakeComplete d c s
  | .coreDrainComplete d c => Sys2Proof.Machine.execCoreDrainComplete d c s
  | .coreFailure d c => Sys2Proof.Machine.execCoreFailure d c s
  | .coreCopyComplete d c => Sys2Proof.Machine.execCoreCopyComplete d c s
  | .bar2Access off n data => Sys2Proof.Machine.execBar2Access off n data s
  | .submissionDoorbell d q v byTack fetchFails => Sys2Proof.Machine.execSubmissionDoorbell d q v byTack fetchFails s
  | .completionDoorbell d q v byTack => Sys2Proof.Machine.execCompletionDoorbell d q v byTack s
  | .launch d q c => Sys2Proof.Machine.execLaunch d q c s
  | .barrier d q c => Sys2Proof.Machine.execBarrier d q c s
  | .wake d q c => Sys2Proof.Machine.execWake d q c s
  | .sleep d q c => Sys2Proof.Machine.execSleep d q c s
  | .nop d q c => Sys2Proof.Machine.execNop d q c s
  | .badCommand d q op c => Sys2Proof.Machine.execBadCommand d q op c s
  | .jobDispatch d q => Sys2Proof.Machine.execJobDispatch d q s
  | .jobEnd d q tag => Sys2Proof.Machine.execJobEnd d q tag s
  | .jobTimeout d q tag => Sys2Proof.Machine.execJobTimeout d q tag s
  | .queueAbort d q rest byTack => Sys2Proof.Machine.execQueueAbort d q rest byTack s
  | .coreIdleTimeout d c => Sys2Proof.Machine.execCoreIdleTimeout d c s
  | .trainingBurstStart => Sys2Proof.Machine.execTrainingBurstStart s
  | .candidateJudged inp => Sys2Proof.Machine.execCandidateJudged inp s
  | .promote => Sys2Proof.Machine.execPromote s
  | .revert => Sys2Proof.Machine.execRevert s
  | .exportWeights => Sys2Proof.Machine.execExport s
  | .install => Sys2Proof.Machine.execInstall s
  | .fleetRoundStart own count => Sys2Proof.Machine.execFleetRoundStart own count s
  | .busOverVoltage vbus => Sys2Proof.Machine.execBusOverVoltage vbus s
  | .busUnderVoltage vbus => Sys2Proof.Machine.execBusUnderVoltage vbus s
  | .stringOverVoltage x v => Sys2Proof.Machine.execStringOverVoltage x v s
  | .stringUnderVoltage x v => Sys2Proof.Machine.execStringUnderVoltage x v s
  | .temperatureTrip k t => Sys2Proof.Machine.execTemperatureTrip k t s
  | .feedbackMismatch k => Sys2Proof.Machine.execFeedbackMismatch k s
  | .faultConditionClear code idx v => Sys2Proof.Machine.execFaultConditionClear code idx v s
  | .contactorOpenLowCurrent x => Sys2Proof.Machine.execContactorOpenLowCurrent x s
  | .watchdogKick => Sys2Proof.Machine.execWatchdogKick s
  | .watchdogExpiry => Sys2Proof.Machine.execWatchdogExpiry s
  | .firmwareRestartComplete ok => Sys2Proof.Machine.execFirmwareRestartComplete ok s
  | .holdoffExpiry => Sys2Proof.Machine.execHoldoffExpiry s
  | .settleExpiry => Sys2Proof.Machine.execSettleExpiry s
  | .softStartOffExpiry => Sys2Proof.Machine.execSoftStartOffExpiry s
  | .pumpLoss p pulses => Sys2Proof.Machine.execPumpLoss p pulses s
  | .flowLow pulses => Sys2Proof.Machine.execFlowLow pulses s
  | .inletHigh t => Sys2Proof.Machine.execInletHigh t s
  | .coolingClear k => Sys2Proof.Machine.execCoolingClear k s
  | .pumpDutyUpdate tIn tOut => Sys2Proof.Machine.execPumpDutyUpdate tIn tOut s
  | .hostKick => Sys2Proof.Machine.execHostKick s
  | .hostTimeout => Sys2Proof.Machine.execHostTimeout s
  | .stringReturn x => Sys2Proof.Machine.execStringReturn x s
  | .firmwareCloseRequest w => Sys2Proof.Machine.execFirmwareCloseRequest w s
  | .mramRecordWrite mismatch => Sys2Proof.Machine.execMramRecordWrite mismatch s
  | .snapshotComplete l start stop => Sys2Proof.Machine.execSnapshotComplete l start stop s
  | .sbgTrig l => Sys2Proof.Machine.execSbgTrig l s
  | .mark => Sys2Proof.Machine.execMark s
  | .incidentClose => Sys2Proof.Machine.execIncidentClose s
  | .incKeepWrite v => Sys2Proof.Machine.execIncKeepWrite v s
  | .controlBlockPeriodic => Sys2Proof.Machine.execControlBlockPeriodic s
  | .operatingSecond => Sys2Proof.Machine.execOperatingSecond s
  | .gapRecordDue inp => Sys2Proof.Machine.execGapRecordDue inp s
  | .hostRingRecordWrite r fail => Sys2Proof.Machine.execHostRingRecordWrite r fail s
  | .telHeadWrite r v => Sys2Proof.Machine.execTelHeadWrite r v s
  | .hostRingHoldEnd r => Sys2Proof.Machine.execHostRingHoldEnd r s
  | .substitutionTrigger inp => Sys2Proof.Machine.execSubstitutionTrigger inp s
  | .rmtReq v => Sys2Proof.Machine.execRmtReq v s
  | .rmtCancel k => Sys2Proof.Machine.execRmtCancel k s
  | .rmtRetire v => Sys2Proof.Machine.execRmtRetire v s
  | .phaseHoldPlace => Sys2Proof.Machine.execPhaseHoldPlace s
  | .substitutionGateMet k => Sys2Proof.Machine.execSubstitutionGateMet k s
  | .substitutionSwitchComplete k e => Sys2Proof.Machine.execSubstitutionSwitchComplete k e s
  | .substitutionVerify k ok => Sys2Proof.Machine.execSubstitutionVerify k ok s
  | .inputTest b inp dev => Sys2Proof.Machine.execInputTest b inp dev s
  | .wearCopyPeriodic => Sys2Proof.Machine.execWearCopyPeriodic s
  | .tackCoreFailure c => Sys2Proof.Machine.execTackCoreFailure c s
  | .fircWaitExpiry => Sys2Proof.Machine.execFircWaitExpiry s
  | .msixUnmask v addr data => Sys2Proof.Machine.execMsixUnmask v addr data s
  | .tapBypass => Sys2Proof.Machine.execTapBypass s
  | .tapIdcode => Sys2Proof.Machine.execTapIdcode s
  | .tapSamplePreload => Sys2Proof.Machine.execTapSamplePreload s
  | .tapExtest => Sys2Proof.Machine.execTapExtest s
  | .tapClamp => Sys2Proof.Machine.execTapClamp s
  | .tapHighz => Sys2Proof.Machine.execTapHighz s
  | .prechargeNotReached vnode vbus => Sys2Proof.Machine.execPrechargeNotReached vnode vbus s
  | .larkspurJunctionHot d t => Sys2Proof.Machine.execLarkspurJunctionHot d t s
  | .larkspurJunctionCool d t => Sys2Proof.Machine.execLarkspurJunctionCool d t s
  | .spurSymbolLock lane v => Sys2Proof.Machine.execSpurSymbolLock lane v s
  | .connectorPinChange bit v => Sys2Proof.Machine.execConnectorPinChange bit v s
  | .pcieLinkUp gen w => Sys2Proof.Machine.execPcieLinkUp gen w s
  | .pciePowerStateChange m => Sys2Proof.Machine.execPciePowerStateChange m s
  | .fcstNapChange v => Sys2Proof.Machine.execFcstNapChange v s
  | .forecastReloadComplete => Sys2Proof.Machine.execForecastReloadComplete s
  | .weightExportComplete => Sys2Proof.Machine.execWeightExportComplete s
  | .lksWakeLatchClear x => Sys2Proof.Machine.execLksWakeLatchClear x s

end Sys2Proof.Machine
end

