-- ==== Sys2Proof/Machine/Step.lean ====
section
/-! DEFINITION. One step: the command at the front of the queue, or a tick of the idle module. -/

namespace Sys2Proof.Machine

/-- A tick of 10 ns in which no command waits (R11): time passes while the module has power, shelf time while its link clock
runs. Everything else that happens at a tick is a command of its own (log 3). -/
def State.tick (s : State) : State :=
  if s.pins.powered then
    if s.isSet CLK_READY_PLL_LINK then
      { s with elapsed := s.elapsed + 1, time := (s.fab.advance s.time).2, fab := (s.fab.advance s.time).1 }
    else { s with elapsed := s.elapsed + 1 }
  else s

/-- One step: the command that waits longest runs on the state with the queue's rest; an empty queue is a tick (log 3). -/
def step (s : State) : Host.Outcome State Fault Refusal :=
  match s.pending with
  | c :: rest => exec c { s with pending := rest }
  | [] => .next s.tick

/-- The command that a word spells at the front of the queue; the state as it is where the word spells none. -/
def State.withFetchWord (s : State) (nbits w : Nat) : State :=
  match decodeTableWord nbits w with
  | some c => { s with pending := c :: s.pending }
  | none => s

end Sys2Proof.Machine
end

