-- ==== Sys2Proof/Safety.lean ====
section
/-! DEFINITION. What claims about the module speak of: the canonical form of the stores, the shape of the lists that the
spec numbers (channels, groups, strings, cores, queues), and what a command leaves as it was. -/

namespace Sys2Proof.Machine

/-- The register file, the MRAM and module memory are in canonical form: addresses rising, nothing listed at its default. -/
def State.canonical (s : State) : Prop :=
  sparseWf s.dflt s.regs = true ∧ sparseWf blankByte s.mram = true ∧ sparseWf blankByte s.mem = true

/-- Two strings, four connectors, two paths, two pumps (R21, R31, R57). -/
def Pins.shaped (p : Pins) : Prop :=
  p.contEn.length = 2 ∧ p.drvEn.length = 4 ∧ p.drvHeld.length = 4 ∧ p.txDisable.length = 2

/-- Thirteen groups, two strings (R19, R21). -/
def Brd.shaped (b : Brd) : Prop := b.grpOffSince.length = 13 ∧ b.stringFrac.length = 2

/-- The MRAM path and four host rings; sixteen pinned slots; sixteen trigger lists (R442, R446, R452). -/
def Sbg.shaped (b : Sbg) : Prop := b.paths.length = 5 ∧ b.slotUnits.length = 16 ∧ b.listFired.length = 16

/-- 104 channels, thirteen groups, two strings, eight spare channels (R137, R149). -/
def Hrn.shaped (h : Hrn) : Prop :=
  h.chans.length = 104 ∧ h.grpDe.length = 13 ∧ h.stepHold.length = 2 ∧ h.spareRank.length = 8

/-- Eight cascades, six rectifiers (R181, R53). -/
def Rein.shaped (r : Rein) : Prop :=
  r.fe.length = 8 ∧ r.tripped.length = 8 ∧ r.offAt.length = 8 ∧ r.iout.length = 6 ∧ r.vout.length = 6 ∧ r.fails.length = 6
    ∧ r.rates.length = 6

/-- Sixteen streams (R225). -/
def Fcst.shaped (f : Fcst) : Prop := f.heads.length = 16

/-- 104 channels, 104 cells, 136 physical cores, four Tack cores of five, 224 inputs, ten kinds (R457, R458). -/
def Rmt.shaped (r : Rmt) : Prop :=
  r.phase.length = 104 ∧ r.cells.length = 104 ∧ r.cores.length = 136 ∧ r.tackMap.length = 4 ∧ r.tackFail.length = 5
    ∧ r.inputs.length = 224 ∧ r.subst.length = 10 ∧ r.log.length = 64

/-- Two paths; a hall and a team successor (R304, R331). -/
def Fab.shaped (f : Fab) : Prop := f.paths.length = 2 ∧ f.starts.length = 2

/-- Two dies of 64 queues and 64 logical cores, two tiering channels each (R341, R367, R382). -/
def Lks.shaped (l : Lks) : Prop :=
  l.queues.length = 128 ∧ l.cores.length = 128 ∧ l.dies.length = 2 ∧ l.tiers.length = 4

/-- Every numbered thing of the spec has its place in the state. -/
def State.shaped (s : State) : Prop :=
  s.pins.shaped ∧ s.brd.shaped ∧ s.sbg.shaped ∧ s.hrn.shaped ∧ s.rein.shaped ∧ s.fcst.shaped ∧ s.ring.strs.length = 2
    ∧ s.est.strs.length = 2 ∧ s.rmt.shaped ∧ s.fab.shaped ∧ s.lks.shaped

/-- From s to t nothing changes but BAR0 registers among the offsets given. -/
def State.onlyRegs (s t : State) (offsets : List Nat) : Prop :=
  t = { s with regs := t.regs } ∧ ∀ a, a ∉ offsets → t.rd a = s.rd a

end Sys2Proof.Machine
end

