-- ==== Sys2Proof/WellFormed.lean ====
section
/-! DEFINITION. Well-formed commands: operands of the sizes that the spec gives them. A command that is not well-formed is
one that nothing outside the block can send; `exec` answers it all the same. -/

namespace Sys2Proof

/-- A sweep's frames are at most 188 bytes long (R249). -/
def SweepIn.wf (i : SweepIn) : Bool := decide (i.fwd.length ≤ 188) && decide (i.rev.length ≤ 188)

/-- A tile's K is a multiple of 32 up to 4,096 (R349). -/
def TileIn.wf (i : TileIn) : Bool := i.k % 32 == 0 && decide (0 < i.k) && decide (i.k ≤ 4096)

/-- A BAR2 write carries one to 64 bytes, as a read's operand does: the model's transfer. -/
def bar2Data (data : Option (List Byte)) : Bool :=
  match data with
  | some l => decide (1 ≤ l.length ∧ l.length ≤ 64)
  | none => true

/-- The command's operands have the sizes of the rule that its row cites. -/
def Instr.wellFormed (i : Instr) : Bool :=
  match i with
  | .profileReadComplete d b => decide (b.length ≤ 1024 * d.kib)
  | .bundleFetchComplete bytes => decide (bytes.length ≤ 2 ^ 28)
  | .armFirstStep ids => ids.length == 6
  | .reinSample i => i.isns.length == 104
  | .l1Slot i => i.answers.length == 6
  | .sweepComplete _x i => i.wf
  | .breakDetect _x i => i.wf
  | .readHeldComplete _x i => i.wf
  | .enumAssignReturn _x _c recs => recs.length ≤ 4
  | .enumVerifyReturn _x recs => recs.length ≤ 4
  | .syncReceived i => i.targets.length == 32
  | .shareReceived i => i.alarm.detail.length == 12
  | .teamSummaryReceived i => i.members.length == 16
  | .bulkFrameReceived i => decide (i.words.length ≤ 2048)
  | .matrixTile i => i.wf
  | .bar2Access off _n data => decide (off < 2 ^ 36) && bar2Data data
  | .registerWrite .. => true
  | .lowWordRead .. => true
  | .vinStart .. => true
  | .vinConverterStop => true
  | .inputOvLockout .. => true
  | .inputOvRestart .. => true
  | .writeFenceWarning .. => true
  | .writeFence .. => true
  | .fenceWarnClear => true
  | .p0OnlySpanEnd => true
  | .perstAssert => true
  | .perstDeassert => true
  | .linkLoss => true
  | .mezPresChange .. => true
  | .sfpInsertion .. => true
  | .sfpPeriodicRead => true
  | .load => true
  | .fetchCompletionError .. => true
  | .bundleVerifyComplete => true
  | .bundleLoaded => true
  | .arm => true
  | .disarm => true
  | .disarmComplete => true
  | .clearLatch => true
  | .armBlockerTimeout => true
  | .armChecksPassed => true
  | .armContactorRequest => true
  | .armPrechargeStart => true
  | .armIsoRequest .. => true
  | .armLoopsStart => true
  | .armedReached => true
  | .armingTimeout => true
  | .armRetry => true
  | .svnFuseRequest .. => true
  | .svnFuseBitBlown => true
  | .attestationRequest => true
  | .attestationReportDone => true
  | .mainSrcSelect .. => true
  | .aonSrcSelect .. => true
  | .pllRefChange .. => true
  | .pllRefChangeComplete => true
  | .clockSwitchComplete => true
  | .sourceReady .. => true
  | .clockLossForcing .. => true
  | .clockLossNonforcing .. => true
  | .clockHoldClear => true
  | .xtalBStartTimeout => true
  | .xtalAStartTimeout => true
  | .fmeasStart .. => true
  | .fmeasDone .. => true
  | .powerModeSelect .. => true
  | .deepSleepEntry => true
  | .wakeSourceFired .. => true
  | .wakeTimerExpiry => true
  | .domainGateChange => true
  | .bar2WakeLatchExpiry .. => true
  | .switchingCycleStart .. => true
  | .peakComparatorTrip .. => true
  | .blankingEnd .. => true
  | .latestTurnOff .. => true
  | .deadTimeExpiry .. => true
  | .zeroCurrentDetect .. => true
  | .peakLimitTrip .. => true
  | .hiccupOffExpiry .. => true
  | .hiccupRetryComplete .. => true
  | .runClearExpiry .. => true
  | .shedAddSlot => true
  | .stepEvent .. => true
  | .stepHoldExpiry .. => true
  | .fltNLow .. => true
  | .stageTempCheck .. => true
  | .faultedChannelReturn .. => true
  | .syncEdge .. => true
  | .syncEdgeMissing => true
  | .syncSrcSelect .. => true
  | .overVoltageDeclared .. => true
  | .ovLowSwitchLatch .. => true
  | .ovNoIso => true
  | .ovClear .. => true
  | .ovAutoRelease => true
  | .lastFaultRecordWrite => true
  | .groupEnable .. => true
  | .groupDisable .. => true
  | .forceShedWrite .. => true
  | .pendingEnableExpiry .. => true
  | .followingErrorTrip .. => true
  | .cascadeEnable .. => true
  | .cascadeDisable .. => true
  | .bankSwitch .. => true
  | .cascadeHold .. => true
  | .cascadeHoldClear .. => true
  | .coefficientWrite .. => true
  | .sectionStateWrite .. => true
  | .mapWrite .. => true
  | .casSrcWrite .. => true
  | .pmbusClearFaults .. => true
  | .tuneStart .. => true
  | .tuneAbort => true
  | .tuneTimeLimit => true
  | .spurHint .. => true
  | .spurCancel .. => true
  | .spurInvalidFrame .. => true
  | .clrLatMax => true
  | .commitStep => true
  | .hintExpiry .. => true
  | .hrRelease => true
  | .headStepWrite .. => true
  | .quietUntilWrite .. => true
  | .sweepStart .. => true
  | .ringHbKick => true
  | .enum .. => true
  | .enumFrameTimeout .. => true
  | .balCmd .. => true
  | .balDisable => true
  | .openWireStart .. => true
  | .openWireAuto .. => true
  | .cornerWrite .. => true
  | .swapRequest .. => true
  | .swapBreak .. => true
  | .swapWaitTimeout .. => true
  | .swapMake .. => true
  | .estimatorRun .. => true
  | .restCheck => true
  | .restNow => true
  | .restShedComplete => true
  | .restShedTimeout => true
  | .restAverageStart => true
  | .restReference => true
  | .restAbort => true
  | .journalPeriodic => true
  | .writeNow => true
  | .journalWriteComplete .. => true
  | .efcWrite .. => true
  | .syncSend .. => true
  | .shareSend => true
  | .delayReqSend .. => true
  | .shareCollectionClose => true
  | .teamSummarySend => true
  | .delayRespSend => true
  | .targetSelect => true
  | .hallTargetCompute => true
  | .bulkWindow => true
  | .delayReqReceived .. => true
  | .delayRespReceived .. => true
  | .offsetEstimate .. => true
  | .timeStep => true
  | .leadFailure .. => true
  | .pathDown .. => true
  | .yield => true
  | .vectorOp .. => true
  | .transcendental .. => true
  | .conversion .. => true
  | .threadLoad .. => true
  | .threadStore .. => true
  | .atomic .. => true
  | .memoryFence .. => true
  | .powerCapTick .. => true
  | .hostCoreSuspend .. => true
  | .hostCoreResume .. => true
  | .sramScrub .. => true
  | .tierStart .. => true
  | .tierAbort .. => true
  | .tierCopyComplete .. => true
  | .coreWakeComplete .. => true
  | .coreDrainComplete .. => true
  | .coreFailure .. => true
  | .coreCopyComplete .. => true
  | .submissionDoorbell .. => true
  | .completionDoorbell .. => true
  | .launch .. => true
  | .barrier .. => true
  | .wake .. => true
  | .sleep .. => true
  | .nop .. => true
  | .badCommand .. => true
  | .jobDispatch .. => true
  | .jobEnd .. => true
  | .jobTimeout .. => true
  | .queueAbort .. => true
  | .coreIdleTimeout .. => true
  | .trainingBurstStart => true
  | .candidateJudged .. => true
  | .promote => true
  | .revert => true
  | .exportWeights => true
  | .install => true
  | .fleetRoundStart .. => true
  | .busOverVoltage .. => true
  | .busUnderVoltage .. => true
  | .stringOverVoltage .. => true
  | .stringUnderVoltage .. => true
  | .temperatureTrip .. => true
  | .feedbackMismatch .. => true
  | .faultConditionClear .. => true
  | .contactorOpenLowCurrent .. => true
  | .watchdogKick => true
  | .watchdogExpiry => true
  | .firmwareRestartComplete .. => true
  | .holdoffExpiry => true
  | .settleExpiry => true
  | .softStartOffExpiry => true
  | .pumpLoss .. => true
  | .flowLow .. => true
  | .inletHigh .. => true
  | .coolingClear .. => true
  | .pumpDutyUpdate .. => true
  | .hostKick => true
  | .hostTimeout => true
  | .stringReturn .. => true
  | .firmwareCloseRequest .. => true
  | .mramRecordWrite .. => true
  | .snapshotComplete .. => true
  | .sbgTrig .. => true
  | .mark => true
  | .incidentClose => true
  | .incKeepWrite .. => true
  | .controlBlockPeriodic => true
  | .operatingSecond => true
  | .gapRecordDue .. => true
  | .hostRingRecordWrite .. => true
  | .telHeadWrite .. => true
  | .hostRingHoldEnd .. => true
  | .substitutionTrigger .. => true
  | .rmtReq .. => true
  | .rmtCancel .. => true
  | .rmtRetire .. => true
  | .phaseHoldPlace => true
  | .substitutionGateMet .. => true
  | .substitutionSwitchComplete .. => true
  | .substitutionVerify .. => true
  | .inputTest .. => true
  | .wearCopyPeriodic => true
  | .tackCoreFailure .. => true
  | .fircWaitExpiry => true
  | .msixUnmask .. => true
  | .tapBypass => true
  | .tapIdcode => true
  | .tapSamplePreload => true
  | .tapExtest => true
  | .tapClamp => true
  | .tapHighz => true
  | .prechargeNotReached .. => true
  | .larkspurJunctionHot .. => true
  | .larkspurJunctionCool .. => true
  | .spurSymbolLock .. => true
  | .connectorPinChange .. => true
  | .pcieLinkUp .. => true
  | .pciePowerStateChange .. => true
  | .fcstNapChange .. => true
  | .forecastReloadComplete => true
  | .weightExportComplete => true
  | .lksWakeLatchClear .. => true

end Sys2Proof
end

