-- ==== Sys2Proof/Certificates/Slice0/Obligations.lean ====
section
/-! DEFINITION. The statements for the provers. Each `def Obligations.<Name> : Prop` says what its name says; the rules of
spec/ are cited in its docstring. A module has power while `pins.powered` is true (R33, R69). -/

section
open Sys2Proof Sys2Proof.Machine

/-! ### The machine as a whole -/

/-- A step runs the command at the front of the queue on the state with the queue's rest. -/
def Obligations.StepRunsTheFrontCommand : Prop :=
  ∀ (c : Instr) (rest : List Instr) (s : State), s.pending = c :: rest → step s = exec c { s with pending := rest }

/-- With no command waiting a step is one 10 ns tick: the time since power-up advances by one while there is power, and nothing
else changes but, while its link clock runs (R11), shelf time and what is left of its steering (R317): a steering of at most 200 ppm
of a tick (256 of 1,280,000 parts, log 49) joins the steered part, which carries into shelf time; without steering shelf time
advances by one. That a step on an empty queue is a tick is the model's choice (log 3). -/
def Obligations.IdleStepIsOneTick : Prop :=
  ∀ s : State, s.pending = [] →
    (s.pins.powered = true → s.isSet CLK_READY_PLL_LINK = true → s.fab.steer = 0 → 0 ≤ s.fab.steered → s.fab.steered < 1280000 →
      step s = .next { s with elapsed := s.elapsed + 1, time := s.time + 1 }) ∧
    (s.pins.powered = true → s.isSet CLK_READY_PLL_LINK = true →
      ∃ d : Fin 3, ∃ t, step s = .next t ∧ t.time = s.time + BitVec.ofNat 64 d ∧
        t.fab.steer = s.fab.steer - max (-256) (min 256 s.fab.steer) ∧
        t.fab.steered + 1280000 * (d.val : Int) = s.fab.steered + max (-256) (min 256 s.fab.steer) + 1280000 ∧
        t = { s with elapsed := s.elapsed + 1, time := t.time,
                     fab := { s.fab with steer := t.fab.steer, steered := t.fab.steered } }) ∧
    (s.pins.powered = true → s.isSet CLK_READY_PLL_LINK = false → step s = .next { s with elapsed := s.elapsed + 1 }) ∧
    (s.pins.powered = false → step s = .next s)

/-- The registers after reset whose values the spec states: identity (R481), SYS_CAPS of the three variants (R6), the shelf
state PASSIVE (R73), and every other register at the reset value of its row in R480 to R494; no command waits. -/
def Obligations.ResetShowsTheStatedValues : Prop :=
  State.reset.pending = [] ∧ State.reset.shelf = stPassive ∧ State.reset.rd SYS_ID = 0x195124B7 ∧
  (∀ a, State.reset.rd a = regReset .full a) ∧
  regReset .full SYS_CAPS = 0x10AB6801 ∧ regReset .half SYS_CAPS = 0x205BE801 ∧ regReset .control SYS_CAPS = 0x30046801 ∧
  State.reset.rd PWR_CTRL = 0x6402 ∧ State.reset.rd BOOT_STATUS = 1 ∧ State.reset.rd CLK_FMEAS_GATE = 0x02FAF080 ∧
  State.reset.rd (HRN_CH_CTRL 0) = 1 ∧ State.reset.rd (HRN_CH_CTRL 96) = 2 ∧
  State.reset.rd (HRN_GRP_TIMING 0) = 0x300000 ∧ State.reset.rd (HRN_GRP_TIMING 1) = 0x5300000

/-- The state after reset is canonical and has its shape. -/
def Obligations.ResetIsCanonicalAndShaped : Prop := State.reset.canonical ∧ State.reset.shaped

/-- From every state every step keeps the register file, the MRAM and module memory in canonical form. -/
def Obligations.EveryStepKeepsStoresCanonical : Prop :=
  ∀ s t : State, s.canonical → step s = .next t → t.canonical

/-- From every state every step keeps the numbered lists (channels, groups, strings, cores, queues, paths) in their lengths. -/
def Obligations.EveryStepKeepsTheShape : Prop :=
  ∀ s t : State, s.shaped → step s = .next t → t.shaped

/-- Every command completes in every state, and leaves the commands that wait behind it as they are. -/
def Obligations.EveryCommandCompletes : Prop :=
  ∀ (c : Instr) (s : State), ∃ t, exec c s = .next t ∧ t.pending = s.pending

/-- Fuses are blown by SVN_FUSE_BIT_BLOWN alone, one count at a time (R98, R99): every other command leaves the fuse block as
it is, and that one leaves everything in it but the rollback count, which never falls. -/
def Obligations.OnlyFuseBlowingChangesFuses : Prop :=
  ∀ (c : Instr) (s t : State), exec c s = .next t →
    (c ≠ .svnFuseBitBlown → t.otp = s.otp) ∧
    { t.otp with rollback := s.otp.rollback } = s.otp ∧
    (t.otp.rollback = s.otp.rollback ∨ t.otp.rollback = s.otp.rollback + 1)

/-- What has been sent is never taken back, and no free value is drawn twice (log 2). -/
def Obligations.SentStaysSentAndDrawsAdvance : Prop :=
  ∀ (c : Instr) (s t : State), exec c s = .next t → s.out <:+ t.out ∧ s.free ≤ t.free

/-- Shelf time and the time since power-up are moved by a power-up and by a time step alone (R11, R317); no other command
moves them, however long its effect takes. -/
def Obligations.OnlyPowerUpAndTimeStepMoveTime : Prop :=
  ∀ (c : Instr) (s t : State), (∀ w, c ≠ .vinStart w) → (∀ w, c ≠ .inputOvRestart w) → c ≠ .timeStep →
    exec c s = .next t → t.time = s.time ∧ t.elapsed = s.elapsed

/-- Module memory is written by Larkspur's own stores and copies, by completions, weights and save areas, by the host's window
and by losses of its contents alone: a command of the control, string, fabric and recording parts leaves every byte. -/
def Obligations.ControlCommandsLeaveModuleMemory : Prop :=
  ∀ (c : Instr) (s t : State), exec c s = .next t →
    (match c with
      | .threadLoad .. | .vectorOp .. | .transcendental .. | .conversion .. | .memoryFence .. | .powerCapTick .. | .tierStart ..
      | .coreIdleTimeout .. | .submissionDoorbell .. | .trainingBurstStart | .forecastReloadComplete | .lksWakeLatchClear ..
      | .spurHint .. | .spurCancel .. | .spurInvalidFrame .. | .clrLatMax | .hintExpiry .. | .hrRelease | .headStepWrite ..
      | .quietUntilWrite .. | .sweepStart .. | .sweepComplete .. | .breakDetect .. | .readHeldComplete .. | .ringHbKick
      | .enum .. | .enumAssignReturn .. | .enumVerifyReturn .. | .enumFrameTimeout .. | .balCmd .. | .balDisable
      | .openWireStart .. | .openWireAuto .. | .cornerWrite .. | .swapRequest .. | .swapBreak .. | .swapWaitTimeout ..
      | .swapMake .. | .estimatorRun .. | .restCheck .. | .restNow | .restShedComplete | .restShedTimeout | .restAverageStart
      | .restReference | .restAbort | .journalPeriodic | .writeNow | .journalWriteComplete .. | .efcWrite .. | .syncSend ..
      | .shareSend | .delayReqSend .. | .shareCollectionClose | .teamSummarySend | .delayRespSend | .targetSelect
      | .hallTargetCompute | .syncReceived .. | .shareReceived .. | .teamSummaryReceived .. | .delayReqReceived ..
      | .delayRespReceived .. | .bulkFrameReceived .. | .offsetEstimate .. | .leadFailure .. | .pathDown .. | .yield
      | .busOverVoltage .. | .busUnderVoltage .. | .stringOverVoltage .. | .stringUnderVoltage .. | .temperatureTrip ..
      | .feedbackMismatch .. | .watchdogKick | .watchdogExpiry | .pumpLoss .. | .flowLow .. | .pumpDutyUpdate .. | .hostKick
      | .hostTimeout | .mramRecordWrite .. | .snapshotComplete .. | .sbgTrig .. | .mark | .incidentClose | .incKeepWrite ..
      | .controlBlockPeriodic | .operatingSecond | .hostRingRecordWrite .. | .telHeadWrite .. | .rmtReq .. | .rmtCancel ..
      | .rmtRetire .. | .inputTest .. | .wearCopyPeriodic | .switchingCycleStart .. | .peakComparatorTrip .. | .fltNLow ..
      | .overVoltageDeclared .. | .groupEnable .. | .groupDisable .. | .cascadeEnable .. | .cascadeDisable ..
      | .coefficientWrite .. | .sectionStateWrite .. | .mapWrite .. | .l1Slot .. | .tuneStart .. | .load | .arm | .disarm
      | .clearLatch | .lowWordRead .. | .writeFence .. => t.mem = s.mem
      | _ => True)

/-- A module without power (R33, R69: every output off) answers nothing but its input and PERST_N: every other command leaves
it exactly as it is. -/
def Obligations.NothingActsWithoutPower : Prop :=
  ∀ (c : Instr) (s : State), s.pins.powered = false → (∀ w, c ≠ .vinStart w) → (∀ w, c ≠ .inputOvRestart w) →
    (∀ v, c ≠ .inputOvLockout v) → c ≠ .perstAssert → c ≠ .perstDeassert → exec c s = .next s

/-! ### Rules stated word for word -/

/-- The complete reset value of SYS_CAPS is 0x10AB_6801 on the AKY-9512-F, 0x205B_E801 on the AKY-9512-H and
0x3004_6801 on the AKY-9512-C (R6): a host that reads the register on a module of each variant right after reset gets
that word. -/
def Obligations.SysCapsResetValues : Prop :=
  ∀ (v : Variant) (who : Fin 256), ∃ t,
    exec (.lowWordRead who ⟨SYS_CAPS, by decide⟩ 15) { State.reset with otp := { State.reset.otp with variant := v } } = .next t ∧
    t.out = [.readData who.val SYS_CAPS 15 (match v with | .full => 0x10AB6801 | .half => 0x205BE801 | .control => 0x30046801)]

/-- A unit that SYS_CAPS reports as absent has these properties (R8): its registers read 0x0000_0000; writes to them
are ignored; its interrupts and MSI-X vectors never assert; doorbell writes addressed to it produce no completion.
Larkspur's dies are the units that a variant may lack and that have registers, vectors and doorbells; a narrow or
unaligned write is discarded under R13. The accesses are those of a module that is awake, with no PLL_REF change under
way and its bus ratios within R116's limits. -/
def Obligations.AbsentUnitsStaySilent : Prop :=
  ∀ s : State, s.pins.powered = true →
    (∀ (who : Fin 256) (a : Fin 67108864) (be : Fin 16), s.asleep = false → s.relock = false → s.busOk = true →
      absentAddr s.otp.variant (a.val / 4 * 4) = true → (s.latches.any fun l => l.1 == who.val && l.2.1 == a.val / 4 *
      4) = false → ∃ t, exec (.lowWordRead who a be) s = .next t ∧ t.regs = s.regs ∧ t.out = .readData who.val (a.val
      / 4 * 4) be.val 0 :: s.out) ∧
    (∀ (tack : Bool) (a : Fin 67108864) (v : Word), s.asleep = false → s.relock = false → a.val % 4 = 0 → absentAddr
      s.otp.variant a.val = true → exec (.registerWrite tack a 15 v) s = .next s) ∧
    (∀ (v : Nat), vectorAbsent s.otp.variant v = true → s.msix v = s) ∧
    (∀ (d : Fin 2) (q : Fin 64) (v : Word) (b f : Bool), s.dieOk d = false → exec (.submissionDoorbell d q v b f) s =
      .next s ∧ exec (.completionDoorbell d q v b) s = .next s) ∧
    (∀ (d : Fin 2), s.dieOk d = false → (∀ a, 0x1000000 + 0x800000 * d.val ≤ a → a < 0x1800000 + 0x800000 * d.val →
      absentAddr s.otp.variant a = true) ∧ vectorAbsent s.otp.variant (246 + d) = true ∧ vectorAbsent s.otp.variant
      (248 + 2 * d) = true ∧ vectorAbsent s.otp.variant (249 + 2 * d) = true)

/-- A change of MEZ_PRES_N in any shelf state other than PASSIVE makes Bridle drive BRD_DRV_EN of that connector low
and raise the mezzanine-presence fault 0x0109 with the connector's number; in PASSIVE the change is only recorded in
SYS_CONN_CHG, with the status that it is a change of (R44). That the wake source of the connectors fires with every
SYS_CONN_CHG bit is R123's. The time of 1 µs is not modelled. -/
def Obligations.MezzaninePresenceChanges : Prop :=
  ∀ s : State, s.pins.powered = true →
    (∀ (n : Fin 4) (present idOk : Bool), s.isSet ⟨SYS_CONN_STATUS, n.val, 1⟩ ≠ present → s.shelf = stPassive → ∃ t,
      exec (.mezPresChange n present idOk) s = .next t ∧ t.isSet ⟨SYS_CONN_STATUS, n.val, 1⟩ = present ∧ t.isSet
      ⟨SYS_CONN_CHG, n.val, 1⟩ = true ∧ t.isSet ⟨SYS_CONN_STATUS, 4 + n.val, 1⟩ = idOk ∧ t.isSet PWR_WAKE_SRC_CONN =
      true ∧ t.brd = s.brd ∧ t.sbg = s.sbg ∧ t.pins.drvEn = s.pins.drvEn ∧ t.pins.isoEn = s.pins.isoEn ∧ t.pins.contEn
      = s.pins.contEn ∧ t.shelf = s.shelf) ∧
    (∀ (n : Fin 4) (present idOk : Bool), s.isSet ⟨SYS_CONN_STATUS, n.val, 1⟩ ≠ present → s.shelf ≠ stPassive → n.val
      < s.pins.drvEn.length → n.val < s.pins.drvHeld.length → ∃ t, exec (.mezPresChange n present idOk) s = .next t ∧
      t.isSet ⟨SYS_CONN_STATUS, n.val, 1⟩ = present ∧ t.isSet ⟨SYS_CONN_CHG, n.val, 1⟩ = true ∧ t.isSet
      ⟨SYS_CONN_STATUS, 4 + n.val, 1⟩ = idOk ∧ t.isSet PWR_WAKE_SRC_CONN = true ∧ t.pins.drvEn.getD n.val true = false
      ∧ t.pins.drvHeld.getD n.val false = true ∧ ((0x0109, 3 + n.val) ∉ s.brd.active → t.get BRD_LAST_CODE = 0x0109 ∨
      t.get BRD_LAST_CODE = 0x0708)) ∧
    (∀ (n : Fin 4) (present idOk : Bool), s.isSet ⟨SYS_CONN_STATUS, n.val, 1⟩ = present → ∃ t, exec (.mezPresChange n
      present idOk) s = .next t ∧ t.isSet ⟨SYS_CONN_STATUS, n.val, 1⟩ = present ∧ t.brd = s.brd ∧ t.pins.drvEn =
      s.pins.drvEn ∧ t.shelf = s.shelf)

/-! ### Registers -/

/-- Outside Deep-sleep and a relock of the PLLs, REGISTER_WRITE completes so: a narrow or unaligned write is discarded
and recorded as one F0 event with its offset and the value of its lanes (R13); a write of an absent unit's register or
of a reserved offset changes nothing (R8, R478). Within the bus ratios of R116, shown on one register of each access
code: PWR_WAKE_TIMER (RW) takes the value; each bit of SYS_EVT (W1C) clears where a 1 is written and stays otherwise;
BOOT_SRC_ADDR_LO (RWL) takes a value in PASSIVE, and in every other state keeps its own, with an F0 event when the
value written differs; SYS_ID (RO) keeps its value (R15, R17). In Deep-sleep a write by Tack firmware, or one that
reaches no link in L1, changes nothing, and during a relock a write waits (R118, R506). -/
def Obligations.RegisterWriteFollowsTheAccessCode : Prop :=
  ∀ s : State, s.pins.powered = true →
    (∀ (b : Bool) (a : Fin 67108864) (be : Fin 16) (v : Word), s.asleep = false → s.relock = false → (be.val ≠ 15 ∨
      a.val % 4 ≠ 0) → exec (.registerWrite b a be v) s = .next (s.refuse a.val (v &&& laneMask be.val).toNat)) ∧
    (∀ (b : Bool) (a : Fin 67108864) (v : Word), s.asleep = false → s.relock = false → a.val % 4 = 0 → (absentAddr
      s.otp.variant a.val = true ∨ regSpec a.val = none) → exec (.registerWrite b a 15 v) s = .next s) ∧
    (∀ (b : Bool) (v : Word), s.asleep = false → s.relock = false → s.busOk = true → exec (.registerWrite b 0x10050 15
      v) s = .next (s.wr PWR_WAKE_TIMER v)) ∧
    (∀ (b : Bool) (v : Word), s.asleep = false → s.relock = false → s.busOk = true → exec (.registerWrite b 0x14 15 v)
      s = .next (s.wr SYS_EVT (s.rd SYS_EVT &&& ~~~(v &&& 3)))) ∧
    (∀ (b : Bool) (v : Word), s.asleep = false → s.relock = false → s.busOk = true → s.shelf = stPassive → exec
      (.registerWrite b 0x20010 15 v) s = .next (s.wr BOOT_SRC_ADDR_LO v)) ∧
    (∀ (b : Bool) (v : Word), s.asleep = false → s.relock = false → s.busOk = true → s.shelf ≠ stPassive → v ≠ s.rd
      BOOT_SRC_ADDR_LO → exec (.registerWrite b 0x20010 15 v) s = .next (s.refuse BOOT_SRC_ADDR_LO v.toNat)) ∧
    (∀ (b : Bool) (v : Word), s.asleep = false → s.relock = false → s.busOk = true → exec (.registerWrite b 0 15 v) s
      = .next s) ∧
    (∀ (b : Bool) (a : Fin 67108864) (be : Fin 16) (v : Word), s.asleep = true → (b = true ∨ s.pcie.link.low = false)
      → exec (.registerWrite b a be v) s = .next s) ∧
    (∀ (b : Bool) (a : Fin 67108864) (be : Fin 16) (v : Word), s.asleep = false → s.relock = true → exec
      (.registerWrite b a be v) s = .next
      { s with clk := { s.clk with waiting := s.clk.waiting ++ [.write b a.val be.val v] } })

/-- Whatever is written to a register, and whatever its fields take, a bit that lies in no field of the register keeps
its value (R14). -/
def Obligations.WritesKeepReservedBits : Prop :=
  ∀ (r : RegSpec) (passive : Bool) (cur v : Word) (i : Nat),
    (∀ f ∈ r.fields, i < f.lo ∨ f.lo + f.w ≤ i) → i < 32 →
      (r.takes passive cur v).1.getLsbD i = cur.getLsbD i

/-- In a register whose fields fit and do not overlap, with no pair of fields in a required order, every field reads
after a write what its code takes of the write, whatever the other fields take: RO and WO keep their value, RW takes a
value within its range, RWL also only in PASSIVE, W1C clears, W1S sets (R15, R17, R175). -/
def Obligations.AFieldTakesWhatItsCodeAllows : Prop :=
  ∀ (r : RegSpec) (passive : Bool) (cur v : Word), r.orders = [] →
    (∀ f ∈ r.fields, f.lo + f.w ≤ 32) →
    r.fields.Pairwise (fun f g => f.lo + f.w ≤ g.lo ∨ g.lo + g.w ≤ f.lo) →
    ∀ f ∈ r.fields, fieldGet (r.takes passive cur v).1 f.lo f.w = (fieldTakes passive cur v f).1

/-- At every BAR0 offset that is a register, the fields of its row of the register index fit in 32 bits and share no
bit (R12, R478), so that the statement on access codes holds of it. -/
def Obligations.EveryRegisterRowHasDisjointFields : Prop :=
  ∀ (a : Nat) (r : RegSpec), regSpec a = some r →
    (∀ f ∈ r.fields, f.lo + f.w ≤ 32) ∧ r.fields.Pairwise (fun f g => f.lo + f.w ≤ g.lo ∨ g.lo + g.w ≤ f.lo)

/-- Outside Deep-sleep and a relock, within the bus ratios of R116, LOW_WORD_READ answers the requester with the value
at the word's offset, the bytes that its byte enables address (R13, R18), and changes nothing but what is sent and
latched. The low word of a 64-bit value latches its high word for that requester, and that requester's next read of
the high word returns the latched value, once; a read of any other offset that is not latched returns the register's
own value. A register of an absent unit reads 0 (R8). Outside the ratios the value is a free one (R116). In Deep-sleep
a read that reaches no link in L1 changes nothing (R118), during a relock it waits (R506). -/
def Obligations.ReadsOfRegisters : Prop :=
  ∀ s : State, s.pins.powered = true →
    (∀ (who : Fin 256) (a : Fin 67108864) (be : Fin 16), s.asleep = false → s.relock = false → s.busOk = true →
      s.highNow (a.val / 4 * 4) = none → (∀ l ∈ s.latches, l.1 = who.val → l.2.1 ≠ a.val / 4 * 4) → exec (.lowWordRead
      who a be) s = .next
      { s with out := .readData who.val (a.val / 4 * 4) be.val (s.live (a.val / 4 * 4) &&& laneMask be.val) :: s.out }) ∧
    (∀ (who : Fin 256) (a : Fin 67108864) (be : Fin 16) (h : Nat), s.asleep = false → s.relock = false → s.busOk =
      true → s.highNow (a.val / 4 * 4) = some h → exec (.lowWordRead who a be) s = .next
      { s with out := .readData who.val (a.val / 4 * 4) be.val (s.live (a.val / 4 * 4) &&& laneMask be.val) :: s.out, latches := (who.val, h, s.live h) :: s.latches.filter fun l => !(l.1 == who.val && l.2.1 == h) }) ∧
    (∀ (who : Fin 256) (a : Fin 67108864) (be : Fin 16) (v : Word) (old : List (Nat × Nat × Word)), s.asleep = false →
      s.relock = false → s.busOk = true → s.highNow (a.val / 4 * 4) = none → s.latches = (who.val, a.val / 4 * 4, v)
      :: old → exec (.lowWordRead who a be) s = .next
      { s with out := .readData who.val (a.val / 4 * 4) be.val (v &&& laneMask be.val) :: s.out, latches := old.filter fun l => !(l.1 == who.val && l.2.1 == a.val / 4 * 4) }) ∧
    (∀ (a : Nat), absentAddr s.otp.variant a = true → s.live a = 0) ∧
    (∀ (who : Fin 256) (a : Fin 67108864) (be : Fin 16), s.asleep = false → s.relock = false → s.busOk = false → exec
      (.lowWordRead who a be) s = .next
      { s with out := .readData who.val (a.val / 4 * 4) be.val (BitVec.ofNat 32 s.fresh.1 &&& laneMask be.val) :: s.out, free := s.free + 1 }) ∧
    (∀ (who : Fin 256) (a : Fin 67108864) (be : Fin 16), s.asleep = true → s.pcie.link.low = false → exec
      (.lowWordRead who a be) s = .next s) ∧
    (∀ (who : Fin 256) (a : Fin 67108864) (be : Fin 16), s.asleep = false → s.relock = true → exec (.lowWordRead who a
      be) s = .next { s with clk := { s.clk with waiting := s.clk.waiting ++ [.read who.val a.val be.val] } })

/-! ### Input power, host link, connectors, profile -/

/-- With power, VIN_CONVERTER_STOP and INPUT_OV_LOCKOUT lead to DOWN with the isolation switch, the contactors, the
phase boards and the fabric transmitters off, the lockout kept (R33, R69); with no MRAM write under way the stop
leaves MRAM as it is (R172, R300). WRITE_FENCE_WARNING sets the journal's WARN and, until the fence, opens the span of
P0 records and counts a trigger of the journal, WRITE_FENCE sets both FENCE bits, ends that span, and drops what waits
for MRAM with the journal's and the last-fault queue's losses counted, FENCE_WARN_CLEAR takes WARN and both FENCE bits
back, and P0_ONLY_SPAN_END ends the span (R172, R299, R445). -/
def Obligations.InputPowerCommands : Prop :=
  ∀ s : State, s.pins.powered = true →
    (∃ t, exec .vinConverterStop s = .next t ∧ t.shelf = stDown ∧ t.pins.powered = false ∧ t.pins.isoEn = false ∧
      t.pins.contEn = [false, false] ∧ t.pins.drvEn = [false, false, false, false] ∧ t.pins.txDisable = [true, true] ∧
      t.out = s.out) ∧
    (s.isSet EST_JNL_STATUS_BUSY = false → s.hrn.lfrQ = [] → s.rmt.due = false → ∃ t, exec .vinConverterStop s = .next
      t ∧ t.mram = s.mram) ∧
    (∀ (vin : Nat), ∃ t, exec (.inputOvLockout vin) s = .next t ∧ t.shelf = stDown ∧ t.pins.powered = false ∧
      t.pins.ovLockout = true ∧ t.pins.isoEn = false ∧ t.pins.contEn = [false, false] ∧ t.pins.drvEn = [false, false,
      false, false] ∧ t.pins.txDisable = [true, true]) ∧
    (∀ (vin : Nat), ∃ t, exec (.writeFenceWarning vin) s = .next t ∧ t.isSet EST_JNL_STATUS_WARN = true ∧ t.isSet
      SBG_STATUS_P0_ONLY = true ∧ (0x010E, 0) ∈ t.brd.active) ∧
    (∀ (vin : Nat), s.fenced = false → ∃ t, exec (.writeFenceWarning vin) s = .next t ∧ (t.isSet
      EST_JNL_STATUS_PENDING = true ∨ t.isSet EST_JNL_STATUS_BUSY = true)) ∧
    (∀ (b : MramBusy), ∃ t, exec (.writeFence b) s = .next t ∧ t.isSet SBG_STATUS_FENCE = true ∧ t.isSet
      EST_JNL_STATUS_FENCE = true ∧ t.isSet SBG_STATUS_P0_ONLY = false ∧ (t.path 0).gap = none ∧ t.isSet
      EST_JNL_STATUS_PENDING = false ∧ t.rmt.due = false) ∧
    (∀ (b : MramBusy), s.isSet EST_JNL_STATUS_PENDING = true → ∃ t, exec (.writeFence b) s = .next t ∧ t.get
      EST_JNL_STATUS_LOST = min (s.get EST_JNL_STATUS_LOST + 1) (2 ^ EST_JNL_STATUS_LOST.w - 1)) ∧
    ((0x010E, 0) ∉ s.brd.active → ∃ t, exec .fenceWarnClear s = .next t ∧ t = { s with regs := t.regs } ∧ t.isSet
      EST_JNL_STATUS_WARN = false ∧ t.isSet EST_JNL_STATUS_FENCE = false ∧ t.isSet SBG_STATUS_FENCE = false) ∧
    ((0x010E, 0) ∈ s.brd.active → ∃ t, exec .fenceWarnClear s = .next t ∧ (0x010E, 0) ∉ t.brd.active ∧ t.isSet
      EST_JNL_STATUS_WARN = false ∧ t.isSet EST_JNL_STATUS_FENCE = false ∧ t.isSet SBG_STATUS_FENCE = false) ∧
    (exec .p0OnlySpanEnd s = .next (s.clear SBG_STATUS_P0_ONLY))

/-- Without power VIN_START starts the module where no over-voltage lockout stands, and INPUT_OV_RESTART where it
does: it is in PASSIVE, with power (R33, R70); while the lockout stands VIN_START does nothing, and a second VIN_START
of a running module does nothing; without a lockout INPUT_OV_RESTART does nothing. An over-voltage without power sets
the lockout alone. -/
def Obligations.InputReturns : Prop :=
  ∀ s : State,
    (∀ (conn : Word), s.pins.powered = false → s.pins.ovLockout = false → ∃ t, exec (.vinStart conn) s = .next t ∧ t =
      s.powerUp conn ∧ t.shelf = stPassive ∧ t.pins.powered = true ∧ t.pins.ovLockout = false) ∧
    (∀ (conn : Word), (s.pins.powered = true ∨ s.pins.ovLockout = true) → exec (.vinStart conn) s = .next s) ∧
    (∀ (conn : Word), s.pins.ovLockout = true → ∃ t, exec (.inputOvRestart conn) s = .next t ∧ t =
      ({ s with pins := { s.pins with ovLockout := false } } : State).powerUp conn ∧ t.shelf = stPassive ∧
      t.pins.powered = true ∧ t.pins.ovLockout = false) ∧
    (∀ (conn : Word), s.pins.ovLockout = false → exec (.inputOvRestart conn) s = .next s) ∧
    (∀ (vin : Nat), s.pins.powered = false → exec (.inputOvLockout vin) s = .next
      { s with pins := { s.pins with ovLockout := true } })

/-- The always-on domain starts in PASSIVE with no contactor, isolation switch or phase board driven, no job and no
firmware running; the fuses are as they were and FUSED_SVN shows their rollback count, shelf time and the time since
power-up start at zero, and SYS_CAPS reads as the variant's (R6, R70, R74, R98). -/
def Obligations.PowerUpStartsPassive : Prop :=
  ∀ s : State,
    ∀ (conn : Word), (s.powerUp conn).shelf = stPassive ∧ (s.powerUp conn).pins.powered = true ∧ (s.powerUp
      conn).pins.isoEn = false ∧ (s.powerUp conn).pins.contEn = [false, false] ∧ (s.powerUp conn).pins.drvEn = [false,
      false, false, false] ∧ (s.powerUp conn).boot.fwRuns = false ∧ (s.powerUp conn).lks.jobs = [] ∧ (s.powerUp
      conn).otp = s.otp ∧ (s.powerUp conn).get SEC_SVN_FUSED_SVN = s.otp.rollback % 256 ∧ (s.powerUp conn).time = 0 ∧
      (s.powerUp conn).elapsed = 0 ∧ (s.powerUp conn).rd SYS_CAPS = regReset s.otp.variant SYS_CAPS

/-- PERST_ASSERT resets the PCIe function, with its message table and pending bits, fires the wake source PCIE and
makes the host lost; a function that is in reset already stays as it is. PERST_DEASSERT starts training once the
profile has been read. PCIE_LINK_UP needs PERST_N high and the profile read: the function is ready in D0 with its data
rate and lanes, and what was held for unmasked vectors goes out. LINK_LOSS takes the link down, the host lost until it
kicks again, and does nothing without a link. The function moves between D0, D3hot and D3cold, the last with the host
lost, and the link from L0 to L1, from L1 to L1.1 and from both to L0, as the host sets them; WAKE_N shows a waiting
P0 record while the link is low or the function in D3. MSIX_UNMASK enters the vector's address and data, and sends its
held message in D0 with the link up (R36 to R38, R84, R123, R431, R498). -/
def Obligations.HostLinkCommands : Prop :=
  ∀ s : State, s.pins.powered = true →
    (s.pcie ≠ {} → ∃ t, exec .perstAssert s = .next t ∧ t.pins.perst = true ∧ t.pcie.link = Link.down ∧ t.pcie.table =
      [] ∧ t.pcie.unmasked = [] ∧ t.isSet PWR_WAKE_SRC_PCIE = true ∧ t.brd.hostKicked = false ∧ t.isSet
      BRD_STATUS_HOST_LOST = true) ∧
    (s.pcie = {} → exec .perstAssert s = .next { s with pins := { s.pins with perst := true } }) ∧
    (s.get BOOT_STATUS_PROFILE ≠ 0 → ∃ t, exec .perstDeassert s = .next t ∧ t.pcie.link = Link.training ∧ t.pins.perst
      = false ∧ t.isSet PWR_WAKE_SRC_PCIE = true) ∧
    (s.get BOOT_STATUS_PROFILE = 0 → ∃ t, exec .perstDeassert s = .next t ∧ t.pcie = s.pcie ∧ t.pins.perst = false ∧
      t.isSet PWR_WAKE_SRC_PCIE = true) ∧
    (s.pcie.link ≠ Link.down → ∃ t, exec .linkLoss s = .next t ∧ t.pcie.link = Link.down ∧ t.pcie.crs = true ∧
      t.brd.hostKicked = false ∧ t.isSet BRD_STATUS_HOST_LOST = true) ∧
    (s.pcie.link = Link.down → exec .linkLoss s = .next s) ∧
    (∀ (g : Fin 6) (w : Fin 4), s.pins.perst = false → s.get BOOT_STATUS_PROFILE ≠ 0 → ∃ t, exec (.pcieLinkUp g w) s =
      .next t ∧ t.pcie.link = Link.up ∧ t.pcie.gen = g.val ∧ t.pcie.width = 2 ^ w.val ∧ t.pcie.crs = false ∧
      t.pcie.dstate = 0 ∧ t.pins.wakeN = false ∧ t.regs = s.regs ∧ ∀ v ∈ s.pcie.pendingBits, v ∈ s.pcie.unmasked → v ∉
      t.pcie.pendingBits ∧ Out.msix v ∈ t.out) ∧
    (∀ (g : Fin 6) (w : Fin 4), (s.pins.perst = true ∨ s.get BOOT_STATUS_PROFILE = 0) → exec (.pcieLinkUp g w) s =
      .next s) ∧
    (∃ t, exec (.pciePowerStateChange .d0) s = .next t ∧ t.pcie.dstate = 0 ∧ t.pcie.link = s.pcie.link ∧ t.pins.wakeN
      = (s.p0Waiting && s.pcie.link.low) ∧ t.regs = s.regs) ∧
    (exec (.pciePowerStateChange .d3hot) s = .next
      { s with pcie := { s.pcie with dstate := 1 }, pins := { s.pins with wakeN := s.p0Waiting } }) ∧
    (∃ t, exec (.pciePowerStateChange .d3cold) s = .next t ∧ t.pcie.dstate = 2 ∧ t.isSet BRD_STATUS_HOST_LOST = true) ∧
    (s.pcie.link = Link.up → exec (.pciePowerStateChange .l1) s = .next
      { s with pcie := { s.pcie with link := Link.l1 }, pins := { s.pins with wakeN := s.p0Waiting } }) ∧
    (s.pcie.link = Link.l1 → exec (.pciePowerStateChange .l11) s = .next
      { s with pcie := { s.pcie with link := Link.l11 }, pins := { s.pins with wakeN := s.p0Waiting } }) ∧
    (s.pcie.link.low = true → ∃ t, exec (.pciePowerStateChange .l0) s = .next t ∧ t.pcie.link = Link.up ∧ t.pins.wakeN
      = (s.p0Waiting && s.pcie.dstate != 0) ∧ t.isSet PWR_WAKE_SRC_PCIE = true) ∧
    (s.pcie.link.low = false → exec (.pciePowerStateChange .l0) s = .next s ∧ exec (.pciePowerStateChange .l11) s =
      .next s) ∧
    (s.pcie.link ≠ Link.up → exec (.pciePowerStateChange .l1) s = .next s) ∧
    (∀ (v : Fin 256) (addr : Word64) (data : Word), ∃ t, exec (.msixUnmask v addr data) s = .next t ∧ v.val ∈
      t.pcie.unmasked ∧ (v.val, addr, data) ∈ t.pcie.table ∧ t.regs = s.regs ∧ (v.val ∈ s.pcie.pendingBits →
      s.pcie.dstate = 0 → s.pcie.link.live = true → Out.msix v.val ∈ t.out ∧ v.val ∉ t.pcie.pendingBits))

/-- SFP_INSERTION shows the cage's module with its change bit and reads its two pages A0h and A2h; each later period
reads both pages of every cage that holds a module, and nothing else changes (R50, R66). A Spur lane's symbol lock or
its loss shows in SPUR_STATUS and in SYS_CONN_STATUS, with the lane's change bit and the wake source CONN, and changes
nothing when it is the level that shows (R66, R123, R216). A pin that CONNECTOR_PIN_CHANGE carries shows its new
level, with its change bit and the wake source CONN, and changes nothing of any other row's pin (R65, R66, R123); a
contactor's feedback that rises while its string returns ends the return (R507). -/
def Obligations.ConnectorCommands : Prop :=
  ∀ s : State, s.pins.powered = true →
    (∀ (p : Fin 2), ∃ t, exec (.sfpInsertion p) s = .next t ∧ t.isSet ⟨SYS_CONN_STATUS, 8 + p.val, 1⟩ = true ∧
      (s.isSet ⟨SYS_CONN_STATUS, 8 + p.val, 1⟩ = false → t.isSet ⟨SYS_CONN_CHG, 8 + p.val, 1⟩ = true ∧ t.isSet
      PWR_WAKE_SRC_CONN = true) ∧ t.out.take 2 = [Out.i2cRead p.val 0xA2, Out.i2cRead p.val 0xA0]) ∧
    (exec .sfpPeriodicRead s = .next
      { s with out := (if bitOf (s.get SYS_CONN_STATUS_SFP_PRES) 1 then [Out.i2cRead 1 0xA2, Out.i2cRead 1 0xA0] else []) ++ (if bitOf (s.get SYS_CONN_STATUS_SFP_PRES) 0 then [Out.i2cRead 0 0xA2, Out.i2cRead 0 0xA0] else []) ++ s.out }) ∧
    (∀ (lane : Fin 2) (v : Bool), bitOf (s.get SPUR_STATUS_LOCK) lane.val ≠ v → bitOf (s.get SYS_CONN_STATUS_SPUR_SIG)
      lane.val ≠ v → ∃ t, exec (.spurSymbolLock lane v) s = .next t ∧ bitOf (t.get SPUR_STATUS_LOCK) lane.val = v ∧
      bitOf (t.get SYS_CONN_STATUS_SPUR_SIG) lane.val = v ∧ t.isSet ⟨SYS_CONN_CHG, 14 + lane.val, 1⟩ = true ∧ t.isSet
      PWR_WAKE_SRC_CONN = true) ∧
    (∀ (lane : Fin 2) (v : Bool), bitOf (s.get SPUR_STATUS_LOCK) lane.val = v → exec (.spurSymbolLock lane v) s =
      .next s) ∧
    (∀ (bit : Fin 24) (v : Bool), s.pinChanges bit.val v = true → s.isSet ⟨SYS_CONN_STATUS, bit.val, 1⟩ ≠ v → ∃ t,
      exec (.connectorPinChange bit v) s = .next t ∧ t.isSet ⟨SYS_CONN_STATUS, bit.val, 1⟩ = v ∧ t.isSet
      ⟨SYS_CONN_CHG, bit.val, 1⟩ = true ∧ t.isSet PWR_WAKE_SRC_CONN = true) ∧
    (∀ (x : StrNo), s.pins.contEn.getD x.val false = true → s.contFb x.val = false → x.val ∈ s.brd.returning → ∃ t,
      exec (.connectorPinChange ⟨18 + x.val, by omega⟩ true) s = .next t ∧ x.val ∉ t.brd.returning ∧ x.val ∉
      t.brd.strOut ∧ t.contFb x.val = true) ∧
    (∀ (bit : Fin 24) (v : Bool), s.pinChanges bit.val v = false → exec (.connectorPinChange bit v) s = .next s)

/-- PROFILE_READ_COMPLETE of the first read resets the device and asks for its SFDP first, then keeps the records of a
good profile and shows it VALID, signed or not, and shows a bad one INVALID with the failed check's ERR_CODE and
information; link training starts with PERST_N high, and a second read changes nothing (R37, R59, R77, R80). LOAD is
refused outside PASSIVE with ERR_CODE 0x32, while a bundle is in progress with 0x33, for an unaligned address with
0x1A and without a module in socket 0 with 0x19; accepted, it discards the loaded set and asks the host for
BOOT_SRC_LEN bytes at BOOT_SRC_ADDR, or rejects a length outside 8 KiB to 256 MiB with 0x10 (R84, R85, R88, R89). A
fetch that ends is verified next, with the module's own copy of BOOT_SRC_LEN bytes; a failed completion rejects the
bundle with 0x11, a failed check with its own code; a good one goes on to its images, and LOADED shows it with its
security version and starts the Tack firmware where enough Tack cores are whole (R83, R87, R91). -/
def Obligations.ProfileAndBundleCommands : Prop :=
  ∀ s : State, s.pins.powered = true →
    (∀ (d : Sfdp) (b : List Byte), s.get BOOT_STATUS_PROFILE = 0 → ∃ t, exec (.profileReadComplete d b) s = .next t ∧
      [Out.spi 0x5A 3 0 256, Out.spi 0x99 0 0 0, Out.spi 0x66 0 0 0] ++ s.out <:+ t.out ∧ (s.pins.perst = false →
      t.pcie.link = Link.training) ∧ ((s.checkProfile d.ok d.kib b).err = none → t.boot.profile = (s.checkProfile d.ok
      d.kib b).recs ∧ t.get BOOT_STATUS_PROFILE = (if s.otp.opkeyEn then 1 else 2)) ∧ (∀ e ∈ (s.checkProfile d.ok
      d.kib b).err, t.get BOOT_STATUS_PROFILE = 3 ∧ t.get BOOT_STATUS_ERR_CODE = e.1 % 256 ∧ t.rdN BOOT_ERR_INFO = e.2
      % 2 ^ 32)) ∧
    (∀ (d : Sfdp) (b : List Byte), s.get BOOT_STATUS_PROFILE ≠ 0 → exec (.profileReadComplete d b) s = .next s) ∧
    (s.shelf ≠ stPassive → exec .load s = .next (s.bootRefuse 0x32 s.shelf 1)) ∧
    (s.shelf = stPassive → (s.get BOOT_STATUS_BUNDLE = 1 ∨ s.get BOOT_STATUS_BUNDLE = 2 ∨ s.get BOOT_STATUS_BUNDLE =
      3) → exec .load s = .next (s.bootRefuse 0x33 (s.get BOOT_STATUS_BUNDLE) 1)) ∧
    (s.shelf = stPassive → (s.get BOOT_STATUS_BUNDLE = 0 ∨ 4 ≤ s.get BOOT_STATUS_BUNDLE) → s.rdN BOOT_SRC_ADDR_LO %
      4096 ≠ 0 → exec .load s = .next (s.bootRefuse 0x1A (s.rdN BOOT_SRC_ADDR_LO % 4096) 1)) ∧
    (s.shelf = stPassive → (s.get BOOT_STATUS_BUNDLE = 0 ∨ 4 ≤ s.get BOOT_STATUS_BUNDLE) → s.rdN BOOT_SRC_ADDR_LO %
      4096 = 0 → s.camm 0 = 0 → exec .load s = .next (s.bootRefuse 0x19 0 1)) ∧
    (s.shelf = stPassive → (s.get BOOT_STATUS_BUNDLE = 0 ∨ 4 ≤ s.get BOOT_STATUS_BUNDLE) → s.rdN BOOT_SRC_ADDR_LO %
      4096 = 0 → s.camm 0 ≠ 0 → 8192 ≤ s.rdN BOOT_SRC_LEN → s.rdN BOOT_SRC_LEN ≤ 268435456 → ∃ t, exec .load s = .next
      t ∧ t.get BOOT_STATUS_BUNDLE = 1 ∧ t.get SEC_SVN_LOADED_SVN = 0xFF ∧ t.boot.fwRuns = false ∧ t.boot.images = []
      ∧ t.out = Out.hostRead s.srcAddr (s.rdN BOOT_SRC_LEN) :: s.out) ∧
    (s.shelf = stPassive → (s.get BOOT_STATUS_BUNDLE = 0 ∨ 4 ≤ s.get BOOT_STATUS_BUNDLE) → s.rdN BOOT_SRC_ADDR_LO %
      4096 = 0 → s.camm 0 ≠ 0 → (s.rdN BOOT_SRC_LEN < 8192 ∨ 268435456 < s.rdN BOOT_SRC_LEN) → ∃ t, exec .load s =
      .next t ∧ t.get BOOT_STATUS_BUNDLE = 5 ∧ t.get BOOT_STATUS_ERR_CODE = 0x10 ∧ t.get SEC_SVN_LOADED_SVN = 0xFF ∧
      t.boot.fwRuns = false ∧ t.boot.images = []) ∧
    (∀ (info : Fin 65536), s.get BOOT_STATUS_BUNDLE = 1 → ∃ t, exec (.fetchCompletionError info) s = .next t ∧ t.get
      BOOT_STATUS_BUNDLE = 5 ∧ t.get BOOT_STATUS_ERR_CODE = 0x11 ∧ t.rdN BOOT_ERR_INFO = info.val ∧ t.boot.staged = []
      ∧ t.isSet SYS_EVT_BUNDLE_DONE = true) ∧
    (∀ (info : Fin 65536), s.get BOOT_STATUS_BUNDLE ≠ 1 → exec (.fetchCompletionError info) s = .next s) ∧
    (∀ (bytes : List Byte), s.get BOOT_STATUS_BUNDLE = 1 → ∃ t, exec (.bundleFetchComplete bytes) s = .next t ∧ t.get
      BOOT_STATUS_BUNDLE = 2 ∧ t.boot.staged = padTo (s.rdN BOOT_SRC_LEN) bytes) ∧
    (∀ (bytes : List Byte), s.get BOOT_STATUS_BUNDLE ≠ 1 → exec (.bundleFetchComplete bytes) s = .next s) ∧
    (s.get BOOT_STATUS_BUNDLE = 2 → ∃ t, exec .bundleVerifyComplete s = .next t ∧ t.get BOOT_STATUS_BUNDLE = (if
      s.bundleBad s.boot.staged = none then 3 else 5) ∧ (∀ e ∈ s.bundleBad s.boot.staged, t.get BOOT_STATUS_ERR_CODE =
      e.1 % 256 ∧ t.rdN BOOT_ERR_INFO = e.2 % 2 ^ 32 ∧ t.boot.staged = [] ∧ t.isSet SYS_EVT_BUNDLE_DONE = true)) ∧
    (s.get BOOT_STATUS_BUNDLE ≠ 2 → exec .bundleVerifyComplete s = .next s) ∧
    (s.get BOOT_STATUS_BUNDLE = 3 → ∃ t, exec .bundleLoaded s = .next t ∧ t.get BOOT_STATUS_BUNDLE = 4 ∧ t.get
      SEC_SVN_LOADED_SVN = leAt s.boot.staged 12 1 ∧ t.boot.staged = [] ∧ t.boot.fwRuns = s.tackWhole ∧ t.boot.images
      = s.imagesOf s.boot.staged ∧ t.isSet SYS_EVT_BUNDLE_DONE = true) ∧
    (s.get BOOT_STATUS_BUNDLE ≠ 3 → exec .bundleLoaded s = .next s)

/-! ### Arming, disarming, security, test access -/

/-- ARM in PASSIVE with a loaded bundle and a valid profile begins the arming sequence at its first step, or becomes
pending within MIN_OFF_MS of the last stop, with RETRIES_LEFT at 0 until a failure loads it; without them it is
refused with ERR_CODE 0x30; outside PASSIVE it is ignored, and while a disarm stops the shelf it becomes pending (R70,
R71, R92, R93, R96, R425). A retry begins the sequence again and takes one from RETRIES_LEFT, and none comes without
one waiting (R96). A pending ARM, cascade or group begins when its minimum off-time has passed, an ARM that may no
longer start is refused with 0x30, and nothing begins that is not pending (R425, R426). -/
def Obligations.ArmingStarts : Prop :=
  ∀ s : State, s.pins.powered = true →
    (s.boot.disarming = false → s.shelf = stPassive → s.armReady = true → s.tooSoon s.brd.offSince = false → ∃ t, exec
      .arm s = .next t ∧ t.shelf = stArming ∧ t.boot.armStep = 1 ∧ t.get BOOT_STATUS_RETRIES_LEFT = 0 ∧ t.get
      BOOT_STATUS_ERR_CODE = 0) ∧
    (s.boot.disarming = false → s.shelf = stPassive → s.armReady = true → s.tooSoon s.brd.offSince = true → ∃ t, exec
      .arm s = .next t ∧ t.shelf = stPassive ∧ t.isSet SYS_SHELF_STATE_ARM_PENDING = true ∧ t.get
      BOOT_STATUS_RETRIES_LEFT = 0) ∧
    (s.boot.disarming = false → s.shelf = stPassive → s.armReady = false → ∃ t, exec .arm s = .next t ∧ t.shelf =
      stPassive ∧ t.get BOOT_STATUS_ERR_CODE = 0x30 ∧ t.boot.armStep = s.boot.armStep) ∧
    (s.boot.disarming = false → s.shelf ≠ stPassive → exec .arm s = .next s) ∧
    (s.boot.disarming = true → ∃ t, exec .arm s = .next t ∧ t.shelf = s.shelf ∧ t.isSet SYS_SHELF_STATE_ARM_PENDING =
      true ∧ t.boot.disarming = true) ∧
    (s.boot.retryWait = true → s.shelf = stPassive → s.armReady = true → s.get BOOT_STATUS_RETRIES_LEFT ≠ 0 →
      s.tooSoon s.brd.offSince = false → ∃ t, exec .armRetry s = .next t ∧ t.shelf = stArming ∧ t.boot.armStep = 1 ∧
      t.get BOOT_STATUS_RETRIES_LEFT = s.get BOOT_STATUS_RETRIES_LEFT - 1 ∧ t.boot.retryWait = false) ∧
    ((s.boot.retryWait = false ∨ s.shelf ≠ stPassive ∨ s.armReady = false ∨ s.get BOOT_STATUS_RETRIES_LEFT = 0) → exec
      .armRetry s = .next s) ∧
    (s.isSet SYS_SHELF_STATE_ARM_PENDING = true → s.shelf = stPassive → s.armReady = true → ∃ t, exec
      (.pendingEnableExpiry .shelf) s = .next t ∧ t.shelf = stArming ∧ t.boot.armStep = 1 ∧ t.isSet
      SYS_SHELF_STATE_ARM_PENDING = false) ∧
    (s.isSet SYS_SHELF_STATE_ARM_PENDING = true → s.shelf = stPassive → s.armReady = false → ∃ t, exec
      (.pendingEnableExpiry .shelf) s = .next t ∧ t.shelf = stPassive ∧ t.get BOOT_STATUS_ERR_CODE = 0x30 ∧ t.isSet
      SYS_SHELF_STATE_ARM_PENDING = false) ∧
    (∀ (c : CasNo), s.isSet (REIN_CAS_STATUS_ENABLE_PENDING c.val) = true → s.casSt c.val = 0 → ∃ t, exec
      (.pendingEnableExpiry (.cascade c)) s = .next t ∧ t.isSet (REIN_CAS_STATUS_ENABLE_PENDING c.val) = false ∧
      (s.inService = true → s.boot.disarming = false → t.casSt c.val = 1)) ∧
    (∀ (g : GrpNo), bitOf (s.get BRD_PENDING_GRP) g.val = true → exec (.pendingEnableExpiry (.group g)) s = .next
      ((s.set BRD_PENDING_GRP (bitPut (s.get BRD_PENDING_GRP) g.val false)).groupUp g.val)) ∧
    (∀ (c : CasNo) (g : GrpNo), s.isSet SYS_SHELF_STATE_ARM_PENDING = false → s.isSet (REIN_CAS_STATUS_ENABLE_PENDING
      c.val) = false → bitOf (s.get BRD_PENDING_GRP) g.val = false → exec (.pendingEnableExpiry .shelf) s = .next s ∧
      exec (.pendingEnableExpiry (.cascade c)) s = .next s ∧ exec (.pendingEnableExpiry (.group g)) s = .next s)

/-- Each step of R93 leads to the next on its own condition: with no blocker active and the mezzanine and rectifier
checks passed, IOUT_OC_FAULT_RESPONSE goes to all six rectifiers; both rings' enumeration starts; once both are
enumerated both contactors are requested; with both closed back the precharge begins; with VNODE within 1.0 V of VBUS
the isolation switch is requested; with it closed back the commit starts; with every cascade settled and, with
Larkspur, one full horizon forecast, the shelf is ARMED or DERATED, where the soft-start budget is whole again (R43,
R53, R93, R427). A failed mezzanine check ends the attempt with ERR_CODE 0x20, a failed rectifier check with 0x21, a
blocker that lasts and a time limit before the contactor request with 0x25, a refused close with 0x23; a time limit
after that request raises 0x010D, which isolates the shelf. At another step, and without its condition, each command
changes nothing (R93, R95, R508). -/
def Obligations.ArmingStepsAdvance : Prop :=
  ∀ s : State, s.pins.powered = true →
    (∀ (ids : List RectId), s.atStep 1 = true → s.armBlocked = false → (∀ n : Fin 4, bitOf (s.profileAt 0x8003 0 1 0)
      n.val = true → s.mezOk n.val = true) → (∀ r : Fin 6, rectAnswers (s.rectRec r.val) (ids.getD r.val ⟨false, 0, 0,
      [], []⟩) = true) → ∃ t, exec (.armFirstStep ids) s = .next t ∧ t.boot.armStep = 2 ∧ t.shelf = stArming ∧ (∀ n :
      Fin 4, t.pins.drvHeld.getD n.val false = (!bitOf (s.profileAt 0x8003 0 1 0) n.val)) ∧ t.out.length =
      s.out.length + 30) ∧
    (∀ (ids : List RectId) (n : Nat), s.atStep 1 = true → s.armBlocked = false → s.mezCheck.2 = some n → ∃ t, exec
      (.armFirstStep ids) s = .next t ∧ t.shelf = stPassive ∧ t.boot.armStep = 0 ∧ t.get BOOT_STATUS_ERR_CODE = 0x20 ∧
      t.rdN BOOT_ERR_INFO = 3 + n) ∧
    (∀ (ids : List RectId) (r : Nat), s.atStep 1 = true → s.armBlocked = false → s.mezCheck.2 = none →
      (s.mezCheck.1.rectCheck ids).2 = some r → ∃ t, exec (.armFirstStep ids) s = .next t ∧ t.shelf = stPassive ∧
      t.boot.armStep = 0 ∧ t.get BOOT_STATUS_ERR_CODE = 0x21 ∧ t.rdN BOOT_ERR_INFO = r) ∧
    (∀ (ids : List RectId), (s.atStep 1 = false ∨ s.armBlocked = true) → exec (.armFirstStep ids) s = .next s) ∧
    (s.atStep 1 = true → s.armBlocked = true → ∃ t, exec .armBlockerTimeout s = .next t ∧ t.shelf = stPassive ∧
      t.boot.armStep = 0 ∧ t.get BOOT_STATUS_ERR_CODE = 0x25 ∧ t.rdN BOOT_ERR_INFO = 1) ∧
    ((s.atStep 1 = false ∨ s.armBlocked = false) → exec .armBlockerTimeout s = .next s) ∧
    (s.atStep 2 = true → ∃ t, exec .armChecksPassed s = .next t ∧ t.boot.armStep = 3 ∧ t.get (RING_STATUS_ENUM 0) = 2
      ∧ t.get (RING_STATUS_ENUM 1) = 2) ∧
    (s.atStep 2 = false → exec .armChecksPassed s = .next s) ∧
    (s.atStep 3 = true → s.ringDone 0 = true → s.ringDone 1 = true → s.boot.restored = true → s.closeBlocked 0 = false
      → s.closeBlocked 1 = false → s.tapHolds = false → s.pins.contEn.length = 2 → ∃ t, exec .armContactorRequest s =
      .next t ∧ t.boot.armStep = 4 ∧ t.boot.contRequested = true ∧ t.pins.contEn = [true, true] ∧ t.regs = s.regs) ∧
    (s.atStep 3 = true → s.ringDone 0 = true → s.ringDone 1 = true → s.boot.restored = true → s.closeBlocked 0 = true
      → ∃ t, exec .armContactorRequest s = .next t ∧ t.shelf = stPassive ∧ t.get BOOT_STATUS_ERR_CODE = 0x23 ∧ t.rdN
      BOOT_ERR_INFO = 2 ∧ t.pins.contEn = s.pins.contEn) ∧
    ((s.atStep 3 = false ∨ s.ringDone 0 = false ∨ s.ringDone 1 = false) → exec .armContactorRequest s = .next s) ∧
    (s.atStep 4 = true → s.contFb 0 = true → s.contFb 1 = true → exec .armPrechargeStart s = .next s.precharge) ∧
    (s.atStep 4 = true → s.contFb 0 = true → s.contFb 1 = true → ∃ t, exec .armPrechargeStart s = .next t ∧
      t.boot.armStep = 5 ∧ t.brd.ssOff = false) ∧
    ((s.atStep 4 = false ∨ s.contFb 0 = false ∨ s.contFb 1 = false) → exec .armPrechargeStart s = .next s) ∧
    (∀ (vnode vbus : Nat), s.atStep 5 = true → s.brd.ssOff = false → ((vnode : Int) - vbus).natAbs ≤ 100 →
      s.closeBlocked 2 = false → s.tapHolds = false → exec (.armIsoRequest vnode vbus) s = .next
      { s with pins := { s.pins with isoEn := true }, boot := { s.boot with armStep := 6 } }) ∧
    (∀ (vnode vbus : Nat), s.atStep 5 = true → s.brd.ssOff = false → ((vnode : Int) - vbus).natAbs ≤ 100 →
      s.closeBlocked 2 = true → ∃ t, exec (.armIsoRequest vnode vbus) s = .next t ∧ t.pins.isoEn = s.pins.isoEn ∧
      t.boot.armStep = 5 ∧ t.get BOOT_STATUS_ERR_CODE = 0x23 ∧ t.rdN BOOT_ERR_INFO = 1) ∧
    (∀ (vnode vbus : Nat), (s.atStep 5 = false ∨ s.brd.ssOff = true ∨ 100 < ((vnode : Int) - vbus).natAbs) → exec
      (.armIsoRequest vnode vbus) s = .next s) ∧
    (s.atStep 6 = true → s.isSet SYS_CONN_STATUS_ISO_FB = true → ∃ t, exec .armLoopsStart s = .next t ∧ t.boot.armStep
      = 7 ∧ t.fcst.running = true ∧ t.fcst.step = s.now / 1000 ∧ ∀ c : Fin 8, s.isSet (REIN_CAS_CTRL_AUTO_START c.val)
      = true → t.casSt c.val = 1) ∧
    ((s.atStep 6 = false ∨ s.isSet SYS_CONN_STATUS_ISO_FB = false) → exec .armLoopsStart s = .next s) ∧
    (s.atStep 7 = true → (∀ c : Fin 8, s.casSettled c.val = true) → (s.dies = 0 ∨ s.horizonDone = true) → ∃ t, exec
      .armedReached s = .next t ∧ t.inService = true ∧ t.get BRD_STATUS_SS_USED = 0 ∧ t.boot.armStep = 0 ∧
      t.boot.armedOnce = true) ∧
    (s.armedReady = false → exec .armedReached s = .next s) ∧
    (s.shelf = stArming → s.boot.disarming = false → s.boot.contRequested = false → ∃ t, exec .armingTimeout s = .next
      t ∧ t.shelf = stPassive ∧ t.boot.armStep = 0 ∧ t.get BOOT_STATUS_ERR_CODE = 0x25 ∧ t.rdN BOOT_ERR_INFO =
      s.boot.armStep % 2 ^ 32) ∧
    (s.shelf = stArming → s.boot.disarming = false → s.boot.contRequested = true → ∃ t, exec .armingTimeout s = .next
      t ∧ t.get BOOT_STATUS_ERR_CODE = 0x25 ∧ t.rdN BOOT_ERR_INFO = s.boot.armStep % 2 ^ 32 ∧ (t.shelf = stIsolated ∨
      t.shelf = stLatched) ∧ t.pins.isoEn = false) ∧
    ((s.shelf ≠ stArming ∨ s.boot.disarming = true) → exec .armingTimeout s = .next s)

/-- DISARM in an armed state begins the orderly stop: every cascade but L1's that starts or runs is stopping, and the
recovery ends with its cause set; in ISOLATED it is kept, in PASSIVE it ends a pending ARM and the retries, while the
stop runs it ends a pending ARM, and elsewhere it does nothing (R70, R71, R96, R97, R421). When every ramp has ended
and every phase is shed, or the isolation of a kept DISARM is complete, the isolation switch, the contactors and the
phase boards are off and the shelf is PASSIVE; before, nothing changes (R71, R97). CLEAR_LATCH leads from LATCHED to
PASSIVE once no code of the latched set is active, is refused with ERR_CODE 0x31 and the lowest active code before,
and does nothing elsewhere (R70, R424). -/
def Obligations.DisarmAndClearLatch : Prop :=
  ∀ s : State, s.pins.powered = true →
    (s.boot.disarming = false → s.armedStates = true → ∃ t, exec .disarm s = .next t ∧ t.boot.disarming = true ∧
      t.armedStates = true ∧ t.get BRD_STATUS_RECOV = 0 ∧ t.brd.causes = [] ∧ ∀ c : Fin 8, (s.casSt c.val = 1 ∨
      s.casSt c.val = 2) → s.casDest c.val ≠ 4 → t.casSt c.val = 3 ∨ t.casSt c.val = 0) ∧
    (s.boot.disarming = false → s.shelf = stIsolated → exec .disarm s = .next
      { s with boot := { s.boot with disarmKept := true } }) ∧
    (s.boot.disarming = false → s.shelf = stPassive → ∃ t, exec .disarm s = .next t ∧ t.shelf = stPassive ∧ t.isSet
      SYS_SHELF_STATE_ARM_PENDING = false ∧ t.boot.retryWait = false) ∧
    (s.boot.disarming = true → ∃ t, exec .disarm s = .next t ∧ t.shelf = s.shelf ∧ t.isSet SYS_SHELF_STATE_ARM_PENDING
      = false ∧ t.boot = s.boot) ∧
    (s.boot.disarming = false → s.shelf = stLatched → exec .disarm s = .next s) ∧
    (s.boot.disarming = true → s.armedStates = true → s.disarmed = true → ∃ t, exec .disarmComplete s = .next t ∧
      t.shelf = stPassive ∧ t.pins.isoEn = false ∧ t.pins.contEn = [false, false] ∧ t.pins.drvEn = [false, false,
      false, false] ∧ t.boot.disarming = false ∧ t.get BRD_STATUS_RECOV = 0 ∧ t.brd.causes = []) ∧
    (s.boot.disarming = false → s.boot.disarmKept = true → s.shelf = stIsolated → s.isSet SYS_CONN_STATUS_ISO_FB =
      false → s.isSet HRN_OV_CTRL_LATCHED = false → ∃ t, exec .disarmComplete s = .next t ∧ t.shelf = stPassive ∧
      t.pins.isoEn = false ∧ t.pins.contEn = [false, false] ∧ t.pins.drvEn = [false, false, false, false] ∧
      t.boot.disarmKept = false) ∧
    (s.boot.disarming = true → s.armedStates = true → s.disarmed = false → exec .disarmComplete s = .next s) ∧
    (s.boot.disarming = false → s.boot.disarmKept = false → exec .disarmComplete s = .next s) ∧
    (s.shelf = stLatched → s.lowestActive = none → ∃ t, exec .clearLatch s = .next t ∧ t.shelf = stPassive ∧
      t.brd.causes = [] ∧ t.brd.starts = [] ∧ t.get BRD_STATUS_SS_USED = 0) ∧
    (∀ (c : Nat), s.shelf = stLatched → s.lowestActive = some c → ∃ t, exec .clearLatch s = .next t ∧ t.shelf =
      stLatched ∧ t.get BOOT_STATUS_ERR_CODE = 0x31 ∧ t.rdN BOOT_ERR_INFO = c % 2 ^ 32 ∧ t.brd.causes = s.brd.causes) ∧
    (s.shelf ≠ stLatched → exec .clearLatch s = .next s)

/-- The state entered shows in SYS_SHELF_STATE and stays there through everything the entry brings with it; ARM_COUNT
counts every entry into ARMED, saturating, and no other; entering the state that the shelf is in does nothing;
entering ISOLATED or LATCHED cancels every pending enable; CLK_HOLD shows only while the shelf is ISOLATED (R70, R73,
R425). -/
def Obligations.EnteringAShelfState : Prop :=
  ∀ s : State,
    (∀ (k : Nat), k ≤ 6 → (s.enter k).shelf = k) ∧
    (s.enter s.shelf = s) ∧
    (s.shelf ≠ stArmed → (s.enter stArmed).get SYS_SHELF_STATE_ARM_COUNT = min (s.get SYS_SHELF_STATE_ARM_COUNT + 1)
      255) ∧
    (∀ (k : Nat), k ≤ 6 → k ≠ stArmed → (s.enter k).get SYS_SHELF_STATE_ARM_COUNT = s.get SYS_SHELF_STATE_ARM_COUNT) ∧
    (∀ (k : Nat), (k = stIsolated ∨ k = stLatched) → s.shelf ≠ k → (s.enter k).rd BRD_PENDING = 0 ∧ (s.enter k).isSet
      SYS_SHELF_STATE_ARM_PENDING = false) ∧
    (∀ (k : Nat), k ≤ 6 → k ≠ stIsolated → s.shelf ≠ k → (s.enter k).isSet SYS_SHELF_STATE_CLK_HOLD = false)

/-- A valid SEC_SVN_CTRL write in service starts programming towards its target; one without the key, out of service,
at or below the fused count, above the loaded version, above 64, while programming runs, before the bundle's first
arming, or past the write fence is discarded and recorded (R99). Each blown bit raises the fused count by one and the
count shown, and at the target programming ends (R98, R99). An attestation request sets REQ, with the report window at
zero, and is ignored while a report is being built; the report's end clears REQ and sets DONE (R103). BYPASS, IDCODE
and SAMPLE/PRELOAD are open in every shelf state, IDCODE answering with the word of SYS_ID (R62); EXTEST, CLAMP and
HIGHZ act in PASSIVE alone, and elsewhere leave the port in BYPASS, the power path's enables as they were, and one F0
record (R62, R63). The numbering of the instructions is the model's choice (log 62). -/
def Obligations.SecurityAndTestCommands : Prop :=
  ∀ s : State, s.pins.powered = true →
    (∀ (v : Word), fieldGet v 8 8 = 0x5A → s.inService = true → s.get SEC_SVN_FUSED_SVN < fieldGet v 0 8 → fieldGet v
      0 8 ≤ s.get SEC_SVN_LOADED_SVN → s.get SEC_SVN_LOADED_SVN ≤ 64 → s.isSet SEC_SVN_BURNING = false →
      s.boot.armedOnce = true → s.fenced = false → exec (.svnFuseRequest v) s = .next
      { s.set SEC_SVN_BURNING 1 with boot := { s.boot with svnTarget := fieldGet v 0 8 } }) ∧
    (∀ (v : Word), (fieldGet v 8 8 ≠ 0x5A ∨ s.inService = false ∨ fieldGet v 0 8 ≤ s.get SEC_SVN_FUSED_SVN ∨ s.get
      SEC_SVN_LOADED_SVN < fieldGet v 0 8 ∨ 64 < s.get SEC_SVN_LOADED_SVN ∨ s.isSet SEC_SVN_BURNING = true ∨
      s.boot.armedOnce = false ∨ s.fenced = true) → exec (.svnFuseRequest v) s = .next (s.refuse SEC_SVN_CTRL v.toNat)) ∧
    (s.isSet SEC_SVN_BURNING = true → ∃ t, exec .svnFuseBitBlown s = .next t ∧ t.otp =
      { s.otp with rollback := s.otp.rollback + 1 } ∧ t.get SEC_SVN_FUSED_SVN = (s.otp.rollback + 1) % 256 ∧
      (s.boot.svnTarget ≤ s.otp.rollback + 1 → t.isSet SEC_SVN_BURNING = false)) ∧
    (s.isSet SEC_SVN_BURNING = false → exec .svnFuseBitBlown s = .next s) ∧
    (s.isSet SEC_ATT_CTRL_REQ = false → ∃ t, exec .attestationRequest s = .next t ∧ t.isSet SEC_ATT_CTRL_REQ = true ∧
      t = { s with regs := t.regs } ∧ ∀ k : Fin 2048, t.rd (0x21000 + 4 * k.val) = 0) ∧
    (s.isSet SEC_ATT_CTRL_REQ = true → exec .attestationRequest s = .next s) ∧
    (s.isSet SEC_ATT_CTRL_REQ = true → ∃ t, exec .attestationReportDone s = .next t ∧ t.isSet SEC_ATT_CTRL_REQ = false
      ∧ t.isSet SEC_ATT_CTRL_DONE = true) ∧
    (s.isSet SEC_ATT_CTRL_REQ = false → exec .attestationReportDone s = .next s) ∧
    (exec .tapBypass s = .next { s with pins := { s.pins with tapIr := 0 } }) ∧
    (exec .tapIdcode s = .next { s with pins := { s.pins with tapIr := 1 }, out := .tap 1 (s.rd SYS_ID) :: s.out }) ∧
    (exec .tapSamplePreload s = .next { s with pins := { s.pins with tapIr := 2 } }) ∧
    (s.shelf = stPassive → exec .tapExtest s = .next { s with pins := { s.pins with tapIr := 3 } } ∧ exec .tapClamp s
      = .next { s with pins := { s.pins with tapIr := 4 } } ∧ exec .tapHighz s = .next
      { s with pins := { s.pins with tapIr := 5 } }) ∧
    (s.shelf ≠ stPassive → ∃ t, exec .tapExtest s = .next t ∧ exec .tapClamp s = .next t ∧ exec .tapHighz s = .next t
      ∧ t.pins.tapIr = 0 ∧ t.pins.isoEn = s.pins.isoEn ∧ t.pins.contEn = s.pins.contEn)

/-! ### Clocks, power modes, Harness -/

/-- A write of another MAIN_SRC moves the main bus to a ready source outside the armed states with no switch in
progress: the field shows the new source and SW_BUSY is set; otherwise every selection keeps its value, SW_REFUSED is
set and an F0 event 0x0605 is recorded (R110, R111). AON_SRC moves in the same way in every state, and a write of the
value shown moves it while AON_FIRC stands, which ends AON_FIRC (R112). PLL_REF moves outside the armed states: the
control domain and the main bus go to FIRC, the four PLLs are not ready, the memories are in self-refresh, and 0x0608
is active exactly while the new reference is FIRC (R417, R506). A write of the source in use changes nothing. A
completed switch clears SW_BUSY, and CTL_SRC where the main bus is back on PLL-CTL (the model's choice, log 43); a
completed relock makes PLL-CTL and PLL-LINK ready, with PLL-MEM and PLL-CORE where they run, and brings the control
domain and the main bus back to PLL-CTL, and a read that waited for it is then answered (R506). A source that may
become ready shows in CLK_READY (R107); the first PLL-CTL takes the main bus and the first XTAL-B the always-on domain
with it (R115). A forcing loss, of XTAL-A, PLL-CTL, PLL-LINK or the second of XTAL-B and SIRC, clears the ready bit
and sets the loss bit, opens the isolation switch, takes every driver enable low and sets HOLD; ARMING, ARMED and
DERATED end in ISOLATED, or in LATCHED where the storm rule applies, and another state stays (R112, R128, R129, R130,
R423); with FIRC ready the control domain and the main bus, or the always-on domain, move to it. A loss that forces
nothing clears the ready bit, sets the loss bit and is recorded as 0x0602 (R128). HOLD clears once every failed source
and the PLLs it feeds are ready, and 0x0601 with it (the model's choice, log 43), and not before (R131). A crystal
that does not start within its time is treated as lost (R115). An event of a source that is in that state already
changes nothing. -/
def Obligations.ClockCommands : Prop :=
  ∀ s : State, s.pins.powered = true →
    (∀ (v : Word) (b : Nat), v.toNat % 4 ≠ s.get CLK_SRC_SEL_MAIN_SRC → mainBit (v.toNat % 4) = some b → s.isSet
      (readyBit b) = true → s.isSet CLK_STATUS_SW_BUSY = false → s.armedStates = false → ∃ t, exec (.mainSrcSelect v)
      s = .next t ∧ t.get CLK_SRC_SEL_MAIN_SRC = v.toNat % 4 ∧ t.isSet CLK_STATUS_SW_BUSY = true ∧ t.clk.switch =
      Switch.main (v.toNat % 4)) ∧
    (∀ (v : Word), v.toNat % 4 ≠ s.get CLK_SRC_SEL_MAIN_SRC → (mainBit (v.toNat % 4) = none ∨ s.isSet
      CLK_STATUS_SW_BUSY = true ∨ s.armedStates = true) → ∃ t, exec (.mainSrcSelect v) s = .next t ∧ t.get
      CLK_SRC_SEL_MAIN_SRC = s.get CLK_SRC_SEL_MAIN_SRC ∧ t.get CLK_SRC_SEL_AON_SRC = s.get CLK_SRC_SEL_AON_SRC ∧
      t.get CLK_SRC_SEL_PLL_REF = s.get CLK_SRC_SEL_PLL_REF ∧ t.isSet CLK_STATUS_SW_REFUSED = true ∧ t.clk.switch =
      s.clk.switch ∧ ((0x0605, 0) ∉ s.brd.active → t.get BRD_LAST_CODE = 0x0605)) ∧
    (∀ (v : Word) (b : Nat), v.toNat % 4 ≠ s.get CLK_SRC_SEL_MAIN_SRC → mainBit (v.toNat % 4) = some b → s.isSet
      (readyBit b) = false → ∃ t, exec (.mainSrcSelect v) s = .next t ∧ t.get CLK_SRC_SEL_MAIN_SRC = s.get
      CLK_SRC_SEL_MAIN_SRC ∧ t.get CLK_SRC_SEL_AON_SRC = s.get CLK_SRC_SEL_AON_SRC ∧ t.get CLK_SRC_SEL_PLL_REF = s.get
      CLK_SRC_SEL_PLL_REF ∧ t.isSet CLK_STATUS_SW_REFUSED = true ∧ t.clk.switch = s.clk.switch ∧ ((0x0605, 0) ∉
      s.brd.active → t.get BRD_LAST_CODE = 0x0605)) ∧
    (∀ (v : Word), v.toNat % 4 = s.get CLK_SRC_SEL_MAIN_SRC → exec (.mainSrcSelect v) s = .next s) ∧
    (∀ (v : Word), (v.toNat / 256 % 2 ≠ s.get CLK_SRC_SEL_AON_SRC ∨ s.isSet CLK_STATUS_AON_FIRC = true) → s.isSet
      (readyBit (v.toNat / 256 % 2)) = true → s.isSet CLK_STATUS_SW_BUSY = false → ∃ t, exec (.aonSrcSelect v) s =
      .next t ∧ t.get CLK_SRC_SEL_AON_SRC = v.toNat / 256 % 2 ∧ t.isSet CLK_STATUS_AON_FIRC = false ∧ t.isSet
      CLK_STATUS_SW_BUSY = true ∧ t.clk.switch = Switch.aon (v.toNat / 256 % 2)) ∧
    (∀ (v : Word), (v.toNat / 256 % 2 ≠ s.get CLK_SRC_SEL_AON_SRC ∨ s.isSet CLK_STATUS_AON_FIRC = true) → (s.isSet
      (readyBit (v.toNat / 256 % 2)) = false ∨ s.isSet CLK_STATUS_SW_BUSY = true) → ∃ t, exec (.aonSrcSelect v) s =
      .next t ∧ t.get CLK_SRC_SEL_MAIN_SRC = s.get CLK_SRC_SEL_MAIN_SRC ∧ t.get CLK_SRC_SEL_AON_SRC = s.get
      CLK_SRC_SEL_AON_SRC ∧ t.get CLK_SRC_SEL_PLL_REF = s.get CLK_SRC_SEL_PLL_REF ∧ t.isSet CLK_STATUS_SW_REFUSED =
      true ∧ t.clk.switch = s.clk.switch ∧ ((0x0605, 0) ∉ s.brd.active → t.get BRD_LAST_CODE = 0x0605)) ∧
    (∀ (v : Word), v.toNat / 256 % 2 = s.get CLK_SRC_SEL_AON_SRC → s.isSet CLK_STATUS_AON_FIRC = false → exec
      (.aonSrcSelect v) s = .next s) ∧
    (∀ (v : Word), v.toNat / 16 % 2 ≠ s.get CLK_SRC_SEL_PLL_REF → s.isSet (readyBit (if v.toNat / 16 % 2 = 1 then 2
      else 3)) = true → s.isSet CLK_STATUS_SW_BUSY = false → s.armedStates = false → ∃ t, exec (.pllRefChange v) s =
      .next t ∧ t.get CLK_SRC_SEL_PLL_REF = v.toNat / 16 % 2 ∧ t.isSet CLK_STATUS_SW_BUSY = true ∧ t.isSet
      CLK_STATUS_CTL_SRC = true ∧ t.get CLK_SRC_SEL_MAIN_SRC = 0 ∧ t.relock = true ∧ t.clk.selfRefresh = 0x0F00 ∧ (∀ b
      : Fin 8, 4 ≤ b.val → t.isSet (readyBit b.val) = false) ∧ ((0x0608, 0) ∈ t.brd.active ↔ v.toNat / 16 % 2 = 1)) ∧
    (∀ (v : Word), v.toNat / 16 % 2 ≠ s.get CLK_SRC_SEL_PLL_REF → (s.isSet (readyBit (if v.toNat / 16 % 2 = 1 then 2
      else 3)) = false ∨ s.isSet CLK_STATUS_SW_BUSY = true ∨ s.armedStates = true) → ∃ t, exec (.pllRefChange v) s =
      .next t ∧ t.get CLK_SRC_SEL_MAIN_SRC = s.get CLK_SRC_SEL_MAIN_SRC ∧ t.get CLK_SRC_SEL_AON_SRC = s.get
      CLK_SRC_SEL_AON_SRC ∧ t.get CLK_SRC_SEL_PLL_REF = s.get CLK_SRC_SEL_PLL_REF ∧ t.isSet CLK_STATUS_SW_REFUSED =
      true ∧ t.clk.switch = s.clk.switch ∧ ((0x0605, 0) ∉ s.brd.active → t.get BRD_LAST_CODE = 0x0605)) ∧
    (∀ (v : Word), v.toNat / 16 % 2 = s.get CLK_SRC_SEL_PLL_REF → exec (.pllRefChange v) s = .next s) ∧
    (s.relock = true → s.clk.waiting = [] → ∃ t, exec .pllRefChangeComplete s = .next t ∧ t.isSet CLK_READY_PLL_CTL =
      true ∧ t.isSet CLK_READY_PLL_LINK = true ∧ t.isSet CLK_READY_PLL_MEM = s.clk.pllMem ∧ t.isSet CLK_READY_PLL_CORE
      = s.clk.pllCore ∧ t.get CLK_SRC_SEL_MAIN_SRC = 1 ∧ t.isSet CLK_STATUS_CTL_SRC = false ∧ t.isSet
      CLK_STATUS_SW_BUSY = false ∧ t.clk.switch = Switch.none) ∧
    (∀ (who a be : Nat), s.relock = true → s.clk.waiting = [.read who a be] → ∃ t, exec .pllRefChangeComplete s =
      .next t ∧ t.clk.waiting = [] ∧ t.relock = false ∧ ∃ v rest, t.out = .readData who (a / 4 * 4) be v :: rest) ∧
    (s.relock = false → exec .pllRefChangeComplete s = .next s) ∧
    (∀ (k : Nat), s.clk.switch = .main k → ∃ t, exec .clockSwitchComplete s = .next t ∧ t.isSet CLK_STATUS_SW_BUSY =
      false ∧ t.clk.switch = Switch.none ∧ t.isSet CLK_STATUS_CTL_SRC = (k != 1 && s.isSet CLK_STATUS_CTL_SRC)) ∧
    (∀ (k : Nat), s.clk.switch = .aon k → ∃ t, exec .clockSwitchComplete s = .next t ∧ t.isSet CLK_STATUS_SW_BUSY =
      false ∧ t.clk.switch = Switch.none ∧ t.isSet CLK_STATUS_CTL_SRC = s.isSet CLK_STATUS_CTL_SRC) ∧
    ((s.clk.switch = .none ∨ s.relock = true) → exec .clockSwitchComplete s = .next s) ∧
    (∀ (b : Fin 8), s.isSet (readyBit b.val) = false → s.mayReady b.val = true → ∃ t, exec (.sourceReady b) s = .next
      t ∧ t.isSet (readyBit b.val) = true ∧ t.clk.seen = s.clk.seen ||| 2 ^ b.val) ∧
    (s.isSet CLK_READY_PLL_CTL = false → s.mayReady 4 = true → bitOf s.clk.seen 4 = false → s.get CLK_SRC_SEL_MAIN_SRC
      = 0 → s.isSet CLK_STATUS_SW_BUSY = false → ∃ t, exec (.sourceReady 4) s = .next t ∧ t.get CLK_SRC_SEL_MAIN_SRC =
      1 ∧ t.clk.switch = Switch.main 1 ∧ t.isSet CLK_STATUS_SW_BUSY = true) ∧
    (s.isSet CLK_READY_XTAL_B = false → bitOf s.clk.seen 1 = false → s.get CLK_SRC_SEL_AON_SRC = 0 → s.isSet
      CLK_STATUS_SW_BUSY = false → ∃ t, exec (.sourceReady 1) s = .next t ∧ t.get CLK_SRC_SEL_AON_SRC = 1 ∧
      t.clk.switch = Switch.aon 1 ∧ t.isSet CLK_STATUS_SW_BUSY = true) ∧
    (∀ (b : Fin 8), (s.isSet (readyBit b.val) = true ∨ s.mayReady b.val = false) → exec (.sourceReady b) s = .next s) ∧
    (∀ (b : Fin 8), (b.val = 3 ∨ b.val = 4 ∨ b.val = 5 ∨ (b.val < 2 ∧ s.isSet (readyBit (1 - b.val)) = false)) →
      s.isSet (readyBit b.val) = true → ∃ t, exec (.clockLossForcing b) s = .next t ∧ t.isSet CLK_STATUS_HOLD = true ∧
      t.pins.isoEn = false ∧ t.pins.drvEn = [false, false, false, false] ∧ (s.armedStates = true → t.shelf =
      stIsolated ∨ t.shelf = stLatched) ∧ (s.armedStates = false → t.shelf = s.shelf) ∧ t.isSet (readyBit b.val) =
      false ∧ t.isSet (lossBit b.val) = true ∧ b.val ∈ t.clk.holdBits) ∧
    (∀ (b : Fin 8), ((b.val = 3 ∧ s.get CLK_SRC_SEL_PLL_REF = 0) ∨ b.val = 4) → s.isSet (readyBit b.val) = true →
      s.isSet CLK_READY_FIRC = true → ∃ t, exec (.clockLossForcing b) s = .next t ∧ t.get CLK_SRC_SEL_MAIN_SRC = 0 ∧
      t.isSet CLK_STATUS_CTL_SRC = true ∧ t.isSet CLK_STATUS_AUTO_MOVE = true ∧ t.clk.switch = Switch.main 0) ∧
    (∀ (b : Fin 8), b.val < 2 → s.isSet (readyBit (1 - b.val)) = false → s.isSet (readyBit b.val) = true → s.isSet
      CLK_READY_FIRC = true → ∃ t, exec (.clockLossForcing b) s = .next t ∧ t.get CLK_SRC_SEL_AON_SRC = 0 ∧ t.isSet
      CLK_STATUS_AON_FIRC = true ∧ t.isSet CLK_STATUS_AUTO_MOVE = true ∧ t.clk.switch = Switch.aon 0) ∧
    (∀ (b : Fin 8), (b.val = 2 ∨ b.val = 6 ∨ b.val = 7 ∨ (b.val < 2 ∧ s.isSet (readyBit (1 - b.val)) = true) ∨ s.isSet
      (readyBit b.val) = false) → exec (.clockLossForcing b) s = .next s) ∧
    (∀ (b : Fin 8), (b.val = 2 ∨ b.val = 6 ∨ b.val = 7 ∨ (b.val < 2 ∧ s.isSet (readyBit (1 - b.val)) = true)) →
      s.isSet (readyBit b.val) = true → ∃ t, exec (.clockLossNonforcing b) s = .next t ∧ t.isSet (readyBit b.val) =
      false ∧ t.isSet (lossBit b.val) = true ∧ (0x0602, b.val) ∈ t.brd.active ∧ t.shelf = s.shelf ∧ t.pins = s.pins ∧
      (b.val = 1 → s.get CLK_SRC_SEL_AON_SRC = 1 → t.get CLK_SRC_SEL_AON_SRC = 0)) ∧
    (∀ (b : Fin 8), (b.val = 3 ∨ b.val = 4 ∨ b.val = 5 ∨ (b.val < 2 ∧ s.isSet (readyBit (1 - b.val)) = false) ∨
      s.isSet (readyBit b.val) = false) → exec (.clockLossNonforcing b) s = .next s) ∧
    (s.isSet CLK_STATUS_HOLD = true → s.holdOver = true → ∃ t, exec .clockHoldClear s = .next t ∧ t.isSet
      CLK_STATUS_HOLD = false ∧ t.clk.holdBits = [] ∧ ∀ b : Fin 8, (0x0601, b.val) ∉ t.brd.active) ∧
    ((s.isSet CLK_STATUS_HOLD = false ∨ s.holdOver = false) → exec .clockHoldClear s = .next s) ∧
    (s.isSet CLK_READY_XTAL_B = false → bitOf s.clk.seen 1 = false → ∃ t, exec .xtalBStartTimeout s = .next t ∧ bitOf
      t.clk.seen 1 = true ∧ t.isSet (lossBit 1) = true ∧ (0x0602, 1) ∈ t.brd.active ∧ t.get CLK_SRC_SEL_AON_SRC =
      s.get CLK_SRC_SEL_AON_SRC) ∧
    ((s.isSet CLK_READY_XTAL_B = true ∨ bitOf s.clk.seen 1 = true) → exec .xtalBStartTimeout s = .next s) ∧
    (s.isSet CLK_READY_XTAL_A = false → bitOf s.clk.seen 3 = false → ∃ t, exec .xtalAStartTimeout s = .next t ∧
      t.isSet CLK_STATUS_HOLD = true ∧ t.pins.isoEn = false ∧ t.pins.drvEn = [false, false, false, false] ∧
      (s.armedStates = true → t.shelf = stIsolated ∨ t.shelf = stLatched) ∧ (s.armedStates = false → t.shelf =
      s.shelf) ∧ bitOf t.clk.seen 3 = true ∧ t.isSet (lossBit 3) = true ∧ (s.get CLK_SRC_SEL_PLL_REF = 0 → s.isSet
      CLK_READY_FIRC = true → t.get CLK_SRC_SEL_MAIN_SRC = 0 ∧ t.isSet CLK_STATUS_CTL_SRC = true)) ∧
    ((s.isSet CLK_READY_XTAL_A = true ∨ bitOf s.clk.seen 3 = true) → exec .xtalAStartTimeout s = .next s)

/-- A measurement with a ready reference, two clocks of the table and a gate starts, otherwise ERR is set; its end
shows the count and sets DONE (R136). A new MODE begins a transition out of Run or Sleep, and one written in a
transition waits for its end (R121). The gates of the plain domains follow the mode, the floor and the wake latches at
once; a transition ends when no Larkspur domain waits for its cores, and the next one begins where MODE was written
meanwhile (R119, R120, R121). Deep-sleep is entered when its conditions hold, and FIRC then stops; an enabled wake
source other than SPUR ends it in the mode MODE names, LAST_WAKE names the source, and FIRC and PLL-CTL run again; a
source that is not enabled, or one outside Deep-sleep, only sets its bit and no mode (R121, R123, R124); the wake
timer fires TIMER. A BAR2 wake latch clears when its 10 ms end (R125), a firmware-cleared latch at once and a Larkspur
one once its cores have rested (R127). FCST_NAP is set in a quiet window that is long enough, and cleared but for a
quiet window with more than 5 ms ahead (R239). -/
def Obligations.MeasurementAndPowerModes : Prop :=
  ∀ s : State, s.pins.powered = true →
    (∀ (dut ref : Fin 16), dut.val < 12 → ref.val < 12 → s.rdN CLK_FMEAS_GATE ≠ 0 → s.clockReady ref.val = true → ∃ t,
      exec (.fmeasStart dut ref) s = .next t ∧ t.clk.measuring = true ∧ t.clk.measRef = ref.val ∧ t.isSet
      CLK_FMEAS_CTRL_START = true ∧ t.get CLK_FMEAS_CTRL_DUT_SEL = dut.val ∧ t.get CLK_FMEAS_CTRL_REF_SEL = ref.val) ∧
    (∀ (dut ref : Fin 16), (12 ≤ dut.val ∨ 12 ≤ ref.val ∨ s.rdN CLK_FMEAS_GATE = 0 ∨ s.clockReady ref.val = false) → ∃
      t, exec (.fmeasStart dut ref) s = .next t ∧ t.clk.measuring = false ∧ t.isSet CLK_FMEAS_CTRL_START = false ∧
      t.isSet CLK_FMEAS_CTRL_ERR = true) ∧
    (∀ (n : Nat), s.clk.measuring = true → ∃ t, exec (.fmeasDone n) s = .next t ∧ t.isSet CLK_FMEAS_CTRL_DONE = true ∧
      t.isSet CLK_FMEAS_CTRL_START = false ∧ t.rdN CLK_FMEAS_CNT_LO = n % 2 ^ 32 ∧ t.rdN CLK_FMEAS_CNT_HI = n / 2 ^ 32
      % 65536 ∧ t.clk.measuring = false) ∧
    (∀ (n : Nat), s.clk.measuring = false → exec (.fmeasDone n) s = .next s) ∧
    (∀ (m : Bool), s.get PWR_STATUS_CUR_MODE < 2 → s.get PWR_STATUS_CUR_MODE ≠ m.toNat → ∃ t, exec (.powerModeSelect
      m) s = .next t ∧ t.get PWR_STATUS_CUR_MODE = 3 ∧ t.get PWR_CTRL_MODE = m.toNat ∧ t.clk.modePending = some
      m.toNat) ∧
    (∀ (m : Bool), (2 ≤ s.get PWR_STATUS_CUR_MODE ∨ s.get PWR_STATUS_CUR_MODE = m.toNat) → ∃ t, exec (.powerModeSelect
      m) s = .next t ∧ t.get PWR_STATUS_CUR_MODE = s.get PWR_STATUS_CUR_MODE ∧ t.get PWR_CTRL_MODE = m.toNat ∧ t.clk =
      s.clk) ∧
    (s.deepReady = true → s.get PWR_STATUS_CUR_MODE < 2 → ∃ t, exec .deepSleepEntry s = .next t ∧ (t.clk.gateWait = 0
      → t.get PWR_STATUS_CUR_MODE = 2 ∧ t.isSet CLK_READY_FIRC = false ∧ t.clk.modePending = none) ∧ (t.clk.gateWait ≠
      0 → t.get PWR_STATUS_CUR_MODE = 3 ∧ t.clk.modePending = some 2)) ∧
    ((s.deepReady = false ∨ 2 ≤ s.get PWR_STATUS_CUR_MODE) → exec .deepSleepEntry s = .next s) ∧
    (∀ (b : Fin 5), b.val < 4 → s.get PWR_STATUS_CUR_MODE = 2 → s.rdN PWR_WAKE_SRC &&& s.rdN PWR_WAKE_EN &&& 0xF = 0 →
      bitOf (s.rdN PWR_WAKE_EN) b.val = true → ∃ t, exec (.wakeSourceFired b) s = .next t ∧ bitOf (t.rdN PWR_WAKE_SRC)
      b.val = true ∧ t.get PWR_STATUS_CUR_MODE = s.get PWR_CTRL_MODE ∧ t.get PWR_STATUS_LAST_WAKE = b.val ∧ t.isSet
      CLK_READY_FIRC = true ∧ t.isSet CLK_READY_PLL_CTL = (s.isSet CLK_READY_XTAL_A || s.get CLK_SRC_SEL_PLL_REF == 1)) ∧
    (∀ (b : Fin 5), (s.asleep = false ∨ ((b.val = 4 ∨ bitOf (s.rdN PWR_WAKE_EN) b.val = false) ∧ s.rdN PWR_WAKE_SRC
      &&& s.rdN PWR_WAKE_EN &&& 0xF = 0)) → ∃ t, exec (.wakeSourceFired b) s = .next t ∧ t.rdN PWR_WAKE_SRC = s.rdN
      PWR_WAKE_SRC ||| 2 ^ b.val ∧ t.get PWR_STATUS_CUR_MODE = s.get PWR_STATUS_CUR_MODE ∧ t.get PWR_STATUS_LAST_WAKE
      = s.get PWR_STATUS_LAST_WAKE) ∧
    (s.rd PWR_WAKE_TIMER ≠ 0 → s.asleep = false → ∃ t, exec .wakeTimerExpiry s = .next t ∧ t.rd PWR_WAKE_TIMER = 0 ∧
      t.isSet PWR_WAKE_SRC_TIMER = true ∧ t.get PWR_STATUS_CUR_MODE = s.get PWR_STATUS_CUR_MODE) ∧
    (s.rd PWR_WAKE_TIMER ≠ 0 → s.get PWR_STATUS_CUR_MODE = 2 → s.rdN PWR_WAKE_SRC &&& s.rdN PWR_WAKE_EN &&& 0xF = 0 →
      bitOf (s.rdN PWR_WAKE_EN) 3 = true → ∃ t, exec .wakeTimerExpiry s = .next t ∧ t.rd PWR_WAKE_TIMER = 0 ∧ t.isSet
      PWR_WAKE_SRC_TIMER = true ∧ t.get PWR_STATUS_CUR_MODE = s.get PWR_CTRL_MODE ∧ t.get PWR_STATUS_LAST_WAKE = 3) ∧
    (s.rd PWR_WAKE_TIMER = 0 → exec .wakeTimerExpiry s = .next s) ∧
    (∀ (m : Nat), s.clk.modePending = some m → m < 2 → s.get PWR_STATUS_CUR_MODE = 3 → s.gates.clk.gateWait = 0 → ∃ t,
      exec .domainGateChange s = .next t ∧ t.rdN CLK_GATE_EFF &&& 0x0FFF = s.gateWant &&& 0x0FFF ∧ (m = s.get
      PWR_CTRL_MODE → t.get PWR_STATUS_CUR_MODE = m ∧ t.clk.modePending = none) ∧ (m ≠ s.get PWR_CTRL_MODE → t.get
      PWR_STATUS_CUR_MODE = 3 ∧ t.clk.modePending = some (s.get PWR_CTRL_MODE))) ∧
    (s.clk.modePending = some 2 → s.get PWR_STATUS_CUR_MODE = 3 → s.gates.clk.gateWait = 0 → ∃ t, exec
      .domainGateChange s = .next t ∧ t.rdN CLK_GATE_EFF &&& 0x0FFF = s.gateWant &&& 0x0FFF ∧ t.get
      PWR_STATUS_CUR_MODE = 2 ∧ t.clk.modePending = none ∧ t.isSet CLK_READY_FIRC = false) ∧
    ((s.clk.modePending = none ∨ s.get PWR_STATUS_CUR_MODE ≠ 3 ∨ s.gates.clk.gateWait ≠ 0) → ∃ t, exec
      .domainGateChange s = .next t ∧ t.rdN CLK_GATE_EFF &&& 0x0FFF = s.gateWant &&& 0x0FFF ∧ t.get
      PWR_STATUS_CUR_MODE = s.get PWR_STATUS_CUR_MODE ∧ t.clk.modePending = s.clk.modePending) ∧
    (∀ (m : Fin 4), exec (.bar2WakeLatchExpiry m) s = .next
      { s with clk := { s.clk with wakeLatch := bitPut s.clk.wakeLatch (8 + m.val) false } }) ∧
    (∀ (x : Fin 15), (x.val < 12 ∨ ((∀ c ∈ domainCores x.val, s.coreSt c.1 c.2 = cRet ∧ s.idleFor c.1 c.2 = true) ∧
      s.domainBusy x.val = false)) → exec (.lksWakeLatchClear x) s = .next
      { s with clk := { s.clk with wakeLatch := bitPut s.clk.wakeLatch x.val false } }) ∧
    (∀ (x : Fin 15), 12 ≤ x.val → ((∃ c ∈ domainCores x.val, s.coreSt c.1 c.2 ≠ cRet ∨ s.idleFor c.1 c.2 = false) ∨
      s.domainBusy x.val = true) → exec (.lksWakeLatchClear x) s = .next s) ∧
    (s.inService = true → s.isSet FCST_STATUS_QUIET = true → (∀ a ∈ s.fcst.lastAccept, a + 10 * tickMs ≤ s.elapsed) →
      s.get FCST_HOLD_CFG_NAP_MIN * 10 * tickMs ≤ s.rd64 FCST_QUIET_END_LO FCST_QUIET_END_HI - s.now → ∃ t, exec
      (.fcstNapChange true) s = .next t ∧ t.isSet PWR_CTRL_FCST_NAP = true) ∧
    ((s.inService = false ∨ s.isSet FCST_STATUS_QUIET = false ∨ (∃ a ∈ s.fcst.lastAccept, s.elapsed < a + 10 * tickMs)
      ∨ s.rd64 FCST_QUIET_END_LO FCST_QUIET_END_HI - s.now < s.get FCST_HOLD_CFG_NAP_MIN * 10 * tickMs) → exec
      (.fcstNapChange true) s = .next s) ∧
    ((s.isSet FCST_STATUS_QUIET = false ∨ s.rd64 FCST_QUIET_END_LO FCST_QUIET_END_HI - s.now ≤ 5 * tickMs) → ∃ t, exec
      (.fcstNapChange false) s = .next t ∧ t.isSet PWR_CTRL_FCST_NAP = false) ∧
    (s.isSet FCST_STATUS_QUIET = true → 5 * tickMs < s.rd64 FCST_QUIET_END_LO FCST_QUIET_END_HI - s.now → exec
      (.fcstNapChange false) s = .next s)

/-- With Harness clocked, and for G0 locked to the fabric only at the fabric's ticks (R158), a cycle start shows the
cycle's average current and counts the cycle in LIMIT_RUN, or returns it to 0 (R163, R176). A running channel with its
soft start over loads the magnitude of its reference, or 0 where the direction is to turn before a current zero; both
switches are off until the dead time ends (R139, R141, R146); past N_LIMIT limited cycles the group enters hiccup, or
escalates with its retries spent (R164, R165); a shedding channel counts its ramp down and rests when ramp and current
are over (R148, R151), a restarting one reaches RUN after its third cycle (R152), and a latched low switch closes
again (R168); channel 0 sends SYNC_OUT (R142). The comparator trips where ISNS in the direction of the reference has
reached the reference less the ramp (R137, R143): the control switch turns off, or the trip waits for the end of the
blanking, which then sets MIN_ON (R140). PEAK_LIMIT compared with |ISNS| does the same and marks the cycle limited,
and opens a latched low switch (R163, R168); the control switch turns off at the latest at the latest point (R140).
Each dead time ends with the switch that R137 names on, except under EXTEST, CLAMP and HIGHZ, where every gate stays
low (R41, R63); in diode emulation a zero current turns the synchronous switch off (R141). Events that meet no such
condition leave both switches as they are. -/
def Obligations.SwitchingCycleCommands : Prop :=
  ∀ s : State, s.pins.powered = true →
    (∀ (n : ChanNo) (i : Int), (s.hrnClocked = false ∨ (n = 0 ∧ s.get HRN_SYNC_CTRL_SYNC_SRC = 2 ∧ s.get
      HRN_SYNC_STATUS_LOCK = 2 ∧ s.fabStart = false)) → exec (.switchingCycleStart n i) s = .next s) ∧
    (∀ (n : ChanNo) (i : Int), s.hrnClocked = true → (n ≠ 0 ∨ s.get HRN_SYNC_CTRL_SYNC_SRC ≠ 2 ∨ s.get
      HRN_SYNC_STATUS_LOCK ≠ 2 ∨ s.fabStart = true) → n = 0 → ∃ t, exec (.switchingCycleStart n i) s = .next t ∧
      .syncOut ∈ t.out) ∧
    (∀ (n : ChanNo) (i : Int), s.hrn.chans.length = 104 → s.hrnClocked = true → (n ≠ 0 ∨ s.get HRN_SYNC_CTRL_SYNC_SRC
      ≠ 2 ∨ s.get HRN_SYNC_STATUS_LOCK ≠ 2 ∨ s.fabStart = true) → s.hrn.ovOpen = false → s.isSet HRN_OV_CTRL_LATCHED =
      false → (if (s.chan n.val).limited then min 127 (s.get (HRN_CH_STATUS_LIMIT_RUN n.val) + 1) else 0) ≤ s.nLimit
      (chanGroup n.val) → s.chSt n.val = chRun → (s.chan n.val).soft = 0 → ((s.chan n.val).ref = 0 ∨ (s.chan
      n.val).zeroSeen = true ∨ s.isSet (HRN_CH_STATUS_DIR n.val) = decide ((s.chan n.val).ref < 0)) → ∃ t, exec
      (.switchingCycleStart n i) s = .next t ∧ t.chSt n.val = chRun ∧ t.get (HRN_CH_MEAS_I_AVG n.val) = (BitVec.ofInt
      16 (s.sensed n.val i)).toNat ∧ t.get (HRN_CH_STATUS_LIMIT_RUN n.val) = (if (s.chan n.val).limited then min 127
      (s.get (HRN_CH_STATUS_LIMIT_RUN n.val) + 1) else 0) ∧ t.get (HRN_CH_STATUS_REF_CODE n.val) = min 1023 (s.chan
      n.val).ref.natAbs ∧ ((s.chan n.val).ref ≠ 0 → t.isSet (HRN_CH_STATUS_DIR n.val) = decide ((s.chan n.val).ref <
      0)) ∧ (t.chan n.val).hi = false ∧ (t.chan n.val).lo = false ∧ (t.chan n.val).dead = (if (s.chan n.val).ref = 0
      then 0 else 1)) ∧
    (∀ (n : ChanNo) (i : Int), s.hrn.chans.length = 104 → s.hrnClocked = true → (n ≠ 0 ∨ s.get HRN_SYNC_CTRL_SYNC_SRC
      ≠ 2 ∨ s.get HRN_SYNC_STATUS_LOCK ≠ 2 ∨ s.fabStart = true) → s.hrn.ovOpen = false → s.isSet HRN_OV_CTRL_LATCHED =
      false → (if (s.chan n.val).limited then min 127 (s.get (HRN_CH_STATUS_LIMIT_RUN n.val) + 1) else 0) ≤ s.nLimit
      (chanGroup n.val) → s.chSt n.val = chRun → (s.chan n.val).soft = 0 → (s.chan n.val).ref ≠ 0 → (s.chan
      n.val).zeroSeen = false → s.isSet (HRN_CH_STATUS_DIR n.val) ≠ decide ((s.chan n.val).ref < 0) → ∃ t, exec
      (.switchingCycleStart n i) s = .next t ∧ t.get (HRN_CH_STATUS_REF_CODE n.val) = 0 ∧ t.isSet (HRN_CH_STATUS_DIR
      n.val) = s.isSet (HRN_CH_STATUS_DIR n.val) ∧ t.isSet (HRN_CH_STATUS_DE n.val) = true ∧ (t.chan n.val).hi = false
      ∧ (t.chan n.val).lo = false ∧ (t.chan n.val).dead = 0) ∧
    (∀ (n : ChanNo) (i : Int), s.hrn.chans.length = 104 → s.hrnClocked = true → (n ≠ 0 ∨ s.get HRN_SYNC_CTRL_SYNC_SRC
      ≠ 2 ∨ s.get HRN_SYNC_STATUS_LOCK ≠ 2 ∨ s.fabStart = true) → s.hrn.ovOpen = false → s.isSet HRN_OV_CTRL_LATCHED =
      false → s.nLimit (chanGroup n.val) < (if (s.chan n.val).limited then min 127 (s.get (HRN_CH_STATUS_LIMIT_RUN
      n.val) + 1) else 0) → stActive (s.chSt n.val) = true → s.get (HRN_GRP_STATUS_RETRIES_USED (chanGroup n.val)) <
      s.get (HRN_GRP_HICCUP_RETRY_BUDGET (chanGroup n.val)) → ∃ t, exec (.switchingCycleStart n i) s = .next t ∧ t.get
      (HRN_GRP_STATUS_STATE (chanGroup n.val)) = 2 ∧ t.isSet (HRN_GRP_STATUS_HICCUP (chanGroup n.val)) = true ∧ t.chSt
      n.val = chHiccup ∧ t.get (HRN_CH_STATUS_LIMIT_RUN n.val) = 0 ∧ (t.chan n.val).hi = false ∧ (t.chan n.val).lo =
      false) ∧
    (∀ (n : ChanNo) (i : Int), s.hrn.chans.length = 104 → s.hrnClocked = true → (n ≠ 0 ∨ s.get HRN_SYNC_CTRL_SYNC_SRC
      ≠ 2 ∨ s.get HRN_SYNC_STATUS_LOCK ≠ 2 ∨ s.fabStart = true) → s.hrn.ovOpen = false → s.isSet HRN_OV_CTRL_LATCHED =
      false → s.nLimit (chanGroup n.val) < (if (s.chan n.val).limited then min 127 (s.get (HRN_CH_STATUS_LIMIT_RUN
      n.val) + 1) else 0) → stActive (s.chSt n.val) = true → s.get (HRN_GRP_HICCUP_RETRY_BUDGET (chanGroup n.val)) ≤
      s.get (HRN_GRP_STATUS_RETRIES_USED (chanGroup n.val)) → ∃ t, exec (.switchingCycleStart n i) s = .next t ∧ t.get
      (HRN_GRP_STATUS_STATE (chanGroup n.val)) = 4 ∧ t.isSet (HRN_GRP_STATUS_ESC (chanGroup n.val)) = true ∧ (t.chan
      n.val).hi = false ∧ (t.chan n.val).lo = false) ∧
    (∀ (n : ChanNo) (i : Int), s.hrn.chans.length = 104 → s.hrnClocked = true → (n ≠ 0 ∨ s.get HRN_SYNC_CTRL_SYNC_SRC
      ≠ 2 ∨ s.get HRN_SYNC_STATUS_LOCK ≠ 2 ∨ s.fabStart = true) → s.hrn.ovOpen = false → s.isSet HRN_OV_CTRL_LATCHED =
      false → (if (s.chan n.val).limited then min 127 (s.get (HRN_CH_STATUS_LIMIT_RUN n.val) + 1) else 0) ≤ s.nLimit
      (chanGroup n.val) → s.chSt n.val = chShedding → 0 < (s.chan n.val).shedLeft → ∃ t, exec (.switchingCycleStart n
      i) s = .next t ∧ t.chSt n.val = chShedding ∧ (t.chan n.val).shedLeft = (s.chan n.val).shedLeft - 1) ∧
    (∀ (n : ChanNo) (i : Int), s.hrn.chans.length = 104 → s.hrnClocked = true → (n ≠ 0 ∨ s.get HRN_SYNC_CTRL_SYNC_SRC
      ≠ 2 ∨ s.get HRN_SYNC_STATUS_LOCK ≠ 2 ∨ s.fabStart = true) → s.hrn.ovOpen = false → s.isSet HRN_OV_CTRL_LATCHED =
      false → (if (s.chan n.val).limited then min 127 (s.get (HRN_CH_STATUS_LIMIT_RUN n.val) + 1) else 0) ≤ s.nLimit
      (chanGroup n.val) → s.chSt n.val = chShedding → (s.chan n.val).shedLeft = 0 → (s.chan n.val).zeroSeen = true →
      (s.chan n.val).leaving = true → ∃ t, exec (.switchingCycleStart n i) s = .next t ∧ t.chSt n.val = chOff ∧
      (t.chan n.val).hi = false ∧ (t.chan n.val).lo = false) ∧
    (∀ (n : ChanNo) (i : Int), s.hrn.chans.length = 104 → s.hrnClocked = true → (n ≠ 0 ∨ s.get HRN_SYNC_CTRL_SYNC_SRC
      ≠ 2 ∨ s.get HRN_SYNC_STATUS_LOCK ≠ 2 ∨ s.fabStart = true) → s.hrn.ovOpen = false → s.isSet HRN_OV_CTRL_LATCHED =
      false → (if (s.chan n.val).limited then min 127 (s.get (HRN_CH_STATUS_LIMIT_RUN n.val) + 1) else 0) ≤ s.nLimit
      (chanGroup n.val) → s.chSt n.val = chShedding → (s.chan n.val).shedLeft = 0 → (s.chan n.val).zeroSeen = true →
      (s.chan n.val).leaving = false → s.serves n.val = true → (s.chan n.val).faultCode = 0 → s.get
      (HRN_GRP_STATUS_STATE (chanGroup n.val)) ≠ 2 → s.get (HRN_GRP_STATUS_STATE (chanGroup n.val)) ≠ 4 → ∃ t, exec
      (.switchingCycleStart n i) s = .next t ∧ t.chSt n.val = chShed ∧ (t.chan n.val).hi = false ∧ (t.chan n.val).lo =
      false) ∧
    (∀ (n : ChanNo) (i : Int), s.hrn.chans.length = 104 → s.hrnClocked = true → (n ≠ 0 ∨ s.get HRN_SYNC_CTRL_SYNC_SRC
      ≠ 2 ∨ s.get HRN_SYNC_STATUS_LOCK ≠ 2 ∨ s.fabStart = true) → s.hrn.ovOpen = false → s.isSet HRN_OV_CTRL_LATCHED =
      false → (if (s.chan n.val).limited then min 127 (s.get (HRN_CH_STATUS_LIMIT_RUN n.val) + 1) else 0) ≤ s.nLimit
      (chanGroup n.val) → s.chSt n.val = chRestarting → ∃ t, exec (.switchingCycleStart n i) s = .next t ∧ ((s.chan
      n.val).restart = 3 → t.chSt n.val = chRun ∧ (t.chan n.val).restart = 0) ∧ ((s.chan n.val).restart ≠ 3 → t.chSt
      n.val = chRestarting ∧ (t.chan n.val).restart = (s.chan n.val).restart + 1)) ∧
    (∀ (n : ChanNo) (i : Int), s.hrn.chans.length = 104 → s.hrnClocked = true → (n ≠ 0 ∨ s.get HRN_SYNC_CTRL_SYNC_SRC
      ≠ 2 ∨ s.get HRN_SYNC_STATUS_LOCK ≠ 2 ∨ s.fabStart = true) → s.chSt n.val = chOvLatch → ∃ t, exec
      (.switchingCycleStart n i) s = .next t ∧ (t.chan n.val).lo = (!s.tapHolds) ∧ t.get (HRN_CH_STATUS_LIMIT_RUN
      n.val) = s.get (HRN_CH_STATUS_LIMIT_RUN n.val)) ∧
    (∀ (n : ChanNo) (i : Int), s.hrn.chans.length = 104 → s.hrnClocked = true → (n ≠ 0 ∨ s.get HRN_SYNC_CTRL_SYNC_SRC
      ≠ 2 ∨ s.get HRN_SYNC_STATUS_LOCK ≠ 2 ∨ s.fabStart = true) → s.chSt n.val ≠ chOvLatch → (stActive (s.chSt n.val)
      = false ∨ s.hrn.ovOpen = true ∨ s.isSet HRN_OV_CTRL_LATCHED = true) → ∃ t, exec (.switchingCycleStart n i) s =
      .next t ∧ t.chSt n.val = s.chSt n.val ∧ (t.chan n.val).hi = (s.chan n.val).hi ∧ (t.chan n.val).lo = (s.chan
      n.val).lo ∧ t.get (HRN_CH_MEAS_I_AVG n.val) = (BitVec.ofInt 16 (s.sensed n.val i)).toNat) ∧
    (∀ (n : ChanNo) (i : Int) (left : Nat), s.hrn.chans.length = 104 → s.isSet (HRN_CH_STATUS_DIR n.val) = false →
      (s.peakTrips n.val i left = true ↔ (1600 * s.get (HRN_CH_STATUS_REF_CODE n.val) : Int) ≤ 1600 * i + ((s.chan
      n.val).slopeDis * (s.grpPeriod (chanGroup n.val) - left - (s.chan n.val).deadTime) : Nat)) ∧ (s.limitTrips n.val
      i = true ↔ (s.chan n.val).limit ≤ i.natAbs)) ∧
    (∀ (n : ChanNo) (i : Int) (left : Nat), s.hrn.chans.length = 104 → s.ctlOn n.val = true → (s.chan n.val).blank =
      false → s.peakTrips n.val (s.sensed n.val i) left = true → ∃ t, exec (.peakComparatorTrip n i left) s = .next t
      ∧ (t.chan n.val).hi = false ∧ (t.chan n.val).lo = false ∧ (t.chan n.val).peakNow = some (s.sensed n.val i) ∧
      (t.chan n.val).dead = (if left < 2 * (s.chan n.val).deadTime then 0 else 2)) ∧
    (∀ (n : ChanNo) (i : Int) (left : Nat), s.hrn.chans.length = 104 → s.ctlOn n.val = true → (s.chan n.val).blank =
      true → s.peakTrips n.val (s.sensed n.val i) left = true → ∃ t, exec (.peakComparatorTrip n i left) s = .next t ∧
      (t.chan n.val).tripSeen = true ∧ (t.chan n.val).hi = (s.chan n.val).hi ∧ (t.chan n.val).lo = (s.chan n.val).lo) ∧
    (∀ (n : ChanNo) (i : Int) (left : Nat), s.hrn.chans.length = 104 → (s.ctlOn n.val = false ∨ s.peakTrips n.val
      (s.sensed n.val i) left = false) → ∃ t, exec (.peakComparatorTrip n i left) s = .next t ∧ (t.chan n.val).hi =
      (s.chan n.val).hi ∧ (t.chan n.val).lo = (s.chan n.val).lo ∧ (t.chan n.val).tripSeen = (s.chan n.val).tripSeen ∧
      (t.chan n.val).isns = s.sensed n.val i) ∧
    (∀ (n : ChanNo) (i : Int) (left : Nat), s.hrn.chans.length = 104 → (s.chan n.val).blank = true → (s.chan
      n.val).tripSeen = true → s.ctlOn n.val = true → ∃ t, exec (.blankingEnd n i left) s = .next t ∧ (t.chan
      n.val).hi = false ∧ (t.chan n.val).lo = false ∧ (t.chan n.val).blank = false ∧ t.isSet (HRN_CH_FAULT_MIN_ON
      n.val) = true ∧ (t.chan n.val).dead = (if left < 2 * (s.chan n.val).deadTime then 0 else 2)) ∧
    (∀ (n : ChanNo) (i : Int) (left : Nat), s.hrn.chans.length = 104 → ((s.chan n.val).blank = false ∨ (s.chan
      n.val).tripSeen = false ∨ s.ctlOn n.val = false) → ∃ t, exec (.blankingEnd n i left) s = .next t ∧ (t.chan
      n.val).hi = (s.chan n.val).hi ∧ (t.chan n.val).lo = (s.chan n.val).lo ∧ (t.chan n.val).blank = false) ∧
    (∀ (n : ChanNo) (i : Int), s.hrn.chans.length = 104 → s.ctlOn n.val = true → ∃ t, exec (.latestTurnOff n i) s =
      .next t ∧ (t.chan n.val).hi = false ∧ (t.chan n.val).lo = false ∧ (t.chan n.val).dead = (if 48 < 2 * (s.chan
      n.val).deadTime then 0 else 2)) ∧
    (∀ (n : ChanNo) (i : Int), s.hrn.chans.length = 104 → s.ctlOn n.val = false → ∃ t, exec (.latestTurnOff n i) s =
      .next t ∧ (t.chan n.val).hi = (s.chan n.val).hi ∧ (t.chan n.val).lo = (s.chan n.val).lo) ∧
    (∀ (n : ChanNo), s.hrn.chans.length = 104 → stActive (s.chSt n.val) = true → (s.chan n.val).dead = 1 → ∃ t, exec
      (.deadTimeExpiry n) s = .next t ∧ (t.chan n.val).hi = (!s.isSet (HRN_CH_STATUS_DIR n.val) && !s.tapHolds) ∧
      (t.chan n.val).lo = (s.isSet (HRN_CH_STATUS_DIR n.val) && !s.tapHolds) ∧ (t.chan n.val).dead = 0 ∧ (t.chan
      n.val).blank = true) ∧
    (∀ (n : ChanNo), s.hrn.chans.length = 104 → stActive (s.chSt n.val) = true → (s.chan n.val).dead = 2 → (s.isSet
      (HRN_CH_STATUS_DE n.val) = false ∨ (s.chan n.val).zeroSeen = false) → ∃ t, exec (.deadTimeExpiry n) s = .next t
      ∧ (t.chan n.val).hi = (s.isSet (HRN_CH_STATUS_DIR n.val) && !s.tapHolds) ∧ (t.chan n.val).lo = (!s.isSet
      (HRN_CH_STATUS_DIR n.val) && !s.tapHolds) ∧ (t.chan n.val).dead = 0) ∧
    (∀ (n : ChanNo), s.hrn.chans.length = 104 → stActive (s.chSt n.val) = true → (s.chan n.val).dead = 2 → s.isSet
      (HRN_CH_STATUS_DE n.val) = true → (s.chan n.val).zeroSeen = true → ∃ t, exec (.deadTimeExpiry n) s = .next t ∧
      (t.chan n.val).hi = (s.chan n.val).hi ∧ (t.chan n.val).lo = (s.chan n.val).lo ∧ (t.chan n.val).dead = 0) ∧
    (∀ (n : ChanNo), s.hrn.chans.length = 104 → stActive (s.chSt n.val) = true → (s.chan n.val).dead = 3 → ∃ t, exec
      (.deadTimeExpiry n) s = .next t ∧ (t.chan n.val).hi = (s.chan n.val).hi ∧ (t.chan n.val).lo = false ∧ (t.chan
      n.val).dead = 0) ∧
    (∀ (n : ChanNo), (stActive (s.chSt n.val) = false ∨ (s.chan n.val).dead = 0 ∨ 3 < (s.chan n.val).dead) → exec
      (.deadTimeExpiry n) s = .next s) ∧
    (∀ (n : ChanNo), s.hrn.chans.length = 104 → s.isSet (HRN_CH_STATUS_DE n.val) = true → stActive (s.chSt n.val) =
      true → s.ctlOn n.val = false → (s.chan n.val).dead = 0 → ∃ t, exec (.zeroCurrentDetect n) s = .next t ∧ (t.chan
      n.val).hi = false ∧ (t.chan n.val).lo = false ∧ (t.chan n.val).zeroSeen = true) ∧
    (∀ (n : ChanNo), s.hrn.chans.length = 104 → (s.isSet (HRN_CH_STATUS_DE n.val) = false ∨ stActive (s.chSt n.val) =
      false ∨ s.ctlOn n.val = true ∨ (s.chan n.val).dead ≠ 0) → ∃ t, exec (.zeroCurrentDetect n) s = .next t ∧ (t.chan
      n.val).hi = (s.chan n.val).hi ∧ (t.chan n.val).lo = (s.chan n.val).lo ∧ (t.chan n.val).zeroSeen = true) ∧
    (∀ (n : ChanNo) (i : Int) (left : Nat), s.hrn.chans.length = 104 → s.limitTrips n.val (s.sensed n.val i) = true →
      stActive (s.chSt n.val) = true → s.ctlOn n.val = true → (s.chan n.val).blank = false → ∃ t, exec (.peakLimitTrip
      n i left) s = .next t ∧ (t.chan n.val).hi = false ∧ (t.chan n.val).lo = false ∧ (t.chan n.val).limited = true ∧
      t.isSet (HRN_CH_FAULT_LIMIT n.val) = true) ∧
    (∀ (n : ChanNo) (i : Int) (left : Nat), s.hrn.chans.length = 104 → s.limitTrips n.val (s.sensed n.val i) = true →
      stActive (s.chSt n.val) = true → s.ctlOn n.val = true → (s.chan n.val).blank = true → ∃ t, exec (.peakLimitTrip
      n i left) s = .next t ∧ (t.chan n.val).hi = (s.chan n.val).hi ∧ (t.chan n.val).lo = (s.chan n.val).lo ∧ (t.chan
      n.val).tripSeen = true ∧ (t.chan n.val).limited = true ∧ t.isSet (HRN_CH_FAULT_LIMIT n.val) = true) ∧
    (∀ (n : ChanNo) (i : Int) (left : Nat), s.hrn.chans.length = 104 → s.limitTrips n.val (s.sensed n.val i) = true →
      stActive (s.chSt n.val) = true → s.ctlOn n.val = false → ∃ t, exec (.peakLimitTrip n i left) s = .next t ∧
      (t.chan n.val).hi = (s.chan n.val).hi ∧ (t.chan n.val).lo = (s.chan n.val).lo ∧ (t.chan n.val).limited = true ∧
      t.isSet (HRN_CH_FAULT_LIMIT n.val) = true ∧ (t.chan n.val).dead = (if (s.chan n.val).dead = 1 then 0 else
      (s.chan n.val).dead)) ∧
    (∀ (n : ChanNo) (i : Int) (left : Nat), s.hrn.chans.length = 104 → s.limitTrips n.val (s.sensed n.val i) = true →
      s.chSt n.val = chOvLatch → ∃ t, exec (.peakLimitTrip n i left) s = .next t ∧ (t.chan n.val).hi = (s.chan
      n.val).hi ∧ (t.chan n.val).lo = false ∧ (t.chan n.val).limited = (s.chan n.val).limited) ∧
    (∀ (n : ChanNo) (i : Int) (left : Nat), s.hrn.chans.length = 104 → (s.limitTrips n.val (s.sensed n.val i) = false
      ∨ (s.chSt n.val ≠ chOvLatch ∧ stActive (s.chSt n.val) = false)) → ∃ t, exec (.peakLimitTrip n i left) s = .next
      t ∧ (t.chan n.val).hi = (s.chan n.val).hi ∧ (t.chan n.val).lo = (s.chan n.val).lo ∧ (t.chan n.val).limited =
      (s.chan n.val).limited)

/-- A group's off time ends in a retry, RETRIES_USED counted to its top, its channels restarting but for those that
leave or may not be added, which rest; with none restarting it is in RUN (R164). A completed retry is RUN again, its
channels in RUN, or SHED where the shed slots have shed meanwhile (R164), and a quiet time returns RETRIES_USED to 0
(R165). While the phases serve and no disarm runs, a string's slot restarts the lowest-ranked SHED channel above
ADD_A, sheds the highest-ranked RUN channel below DROP_A, or neither (R149, R150). A step event restarts the SHED
channels of its strings and ends their shedding (R153, R154), and its hold ends. ENABLE of a group shows at once and
its channels leave OFF for SHED where Harness is clocked, or it is pending (R426); a disabled group's active channels
shed and leave (R148, R178); FORCE_SHED sheds a running channel, and may not return under STR_OUT (R176, R507). Each
command changes nothing where its condition does not hold. FLT_N sets the channel's fault bit, raises 0x0203 and
faults the channel with both its switches off; an OFF, FAULTED, FORCED_OFF or latched channel keeps its state (R166,
R171). A stage temperature shows in HRN_CH_MEAS; with Harness clocked, above T_WARN it sets the channel's warning and
0x0204 and sheds a running channel, at or below it 0x0204 is not active; above T_TRIP it sets OT_TRIP and 0x0205 and
faults the channel, at or below it 0x0205 is not active (R166, R418). FLT_N high ends 0x0203; a faulted channel below
T_WARN with FLT_N and OT_TRIP cleared then returns: to OFF if it leaves or serves no more, to HICCUP with its group in
hiccup or escalated, to SHED otherwise; with a cause left it stays (R166, R171). -/
def Obligations.GroupAndFaultCommands : Prop :=
  ∀ s : State, s.pins.powered = true →
    (∀ (g : GrpNo), s.get (HRN_GRP_STATUS_STATE g.val) = 2 → s.isSet (HRN_GRP_CTRL_ENABLE g.val) = true →
      s.hrn.chans.length = 104 → ∃ t, exec (.hiccupOffExpiry g) s = .next t ∧ t.get (HRN_GRP_STATUS_RETRIES_USED
      g.val) = min (s.get (HRN_GRP_STATUS_RETRIES_USED g.val) + 1) (2 ^ (HRN_GRP_STATUS_RETRIES_USED g.val).w - 1) ∧
      t.get (HRN_GRP_STATUS_STATE g.val) = (if (groupChans g.val).any (fun n => t.chSt n == chRestarting) then 3 else
      1)) ∧
    (∀ (g : GrpNo) (n : Nat), s.get (HRN_GRP_STATUS_STATE g.val) = 2 → s.hrn.chans.length = 104 → n ∈ groupChans g.val
      → s.chSt n = chHiccup → ∃ t, exec (.hiccupOffExpiry g) s = .next t ∧ ((s.chan n).leaving = true → t.chSt n =
      chOff) ∧ ((s.chan n).leaving = false → s.heldDown n = false → (s.shedding || s.precharging) = true → t.chSt n =
      chRestarting ∧ (t.chan n).soft = 1) ∧ (s.heldDown n = true → s.serves n = true → (s.chan n).leaving = false →
      (s.chan n).faultCode = 0 → t.chSt n = chShed)) ∧
    (∀ (g : GrpNo), s.get (HRN_GRP_STATUS_STATE g.val) ≠ 2 → exec (.hiccupOffExpiry g) s = .next s) ∧
    (∀ (g : GrpNo), s.get (HRN_GRP_STATUS_STATE g.val) = 3 → ∃ t, exec (.hiccupRetryComplete g) s = .next t ∧ (s.isSet
      (HRN_GRP_CTRL_ENABLE g.val) = true → t.get (HRN_GRP_STATUS_STATE g.val) = 1) ∧ (∀ n ∈ groupChans g.val, s.chSt n
      = chRestarting → t.chSt n = chRun ∨ t.chSt n = chShed) ∧ (s.slotsSince g.val 0 = 0 → s.slotsSince g.val 1 = 0 →
      ∀ n ∈ groupChans g.val, s.chSt n = chRestarting → t.chSt n = chRun)) ∧
    (∀ (g : GrpNo), s.get (HRN_GRP_STATUS_STATE g.val) ≠ 3 → exec (.hiccupRetryComplete g) s = .next s) ∧
    (∀ (g : GrpNo), s.get (HRN_GRP_STATUS_STATE g.val) = 1 → exec (.runClearExpiry g) s = .next (s.set
      (HRN_GRP_STATUS_RETRIES_USED g.val) 0)) ∧
    (∀ (g : GrpNo), s.get (HRN_GRP_STATUS_STATE g.val) ≠ 1 → exec (.runClearExpiry g) s = .next s) ∧
    (∀ (x : StrNo) (k : Nat), s.shedding = true → s.boot.disarming = false → s.strAbove x.val (((stringChans
      x.val).filter fun m => s.chSt m == chRun || s.chSt m == chRestarting).length * s.shedGet HRN_SHED_CFG_ADD_A) =
      true → s.lowestRank ((stringChans x.val).filter fun m => s.chSt m == chShed && !s.heldDown m && !s.phHeld m) =
      some k → ∃ t, exec .shedAddSlot s = .next t ∧ t.chSt k = chRestarting ∧ ∀ n ∈ stringChans x.val, n ≠ k → t.chSt
      n = s.chSt n) ∧
    (∀ (x : StrNo) (k : Nat), s.shedding = true → s.boot.disarming = false → s.strAbove x.val (((stringChans
      x.val).filter fun m => s.chSt m == chRun || s.chSt m == chRestarting).length * s.shedGet HRN_SHED_CFG_ADD_A) =
      false → s.strBelow x.val (((stringChans x.val).filter fun m => s.chSt m == chRun || s.chSt m ==
      chRestarting).length * s.shedGet HRN_SHED_CFG_DROP_A) = true → s.shedGet HRN_SHED_CFG_MIN_ACTIVE < ((stringChans
      x.val).filter fun m => s.chSt m == chRun || s.chSt m == chRestarting).length → s.hrn.stepHold.getD x.val false =
      false → s.highestRank ((stringChans x.val).filter fun m => s.chSt m == chRun) = some k → ∃ t, exec .shedAddSlot
      s = .next t ∧ t.chSt k = chShedding ∧ ∀ n ∈ stringChans x.val, n ≠ k → t.chSt n = s.chSt n) ∧
    (∀ (x : StrNo), s.shedding = true → s.boot.disarming = false → s.strAbove x.val (((stringChans x.val).filter fun m
      => s.chSt m == chRun || s.chSt m == chRestarting).length * s.shedGet HRN_SHED_CFG_ADD_A) = false → (s.strBelow
      x.val (((stringChans x.val).filter fun m => s.chSt m == chRun || s.chSt m == chRestarting).length * s.shedGet
      HRN_SHED_CFG_DROP_A) = false ∨ ((stringChans x.val).filter fun m => s.chSt m == chRun || s.chSt m ==
      chRestarting).length ≤ s.shedGet HRN_SHED_CFG_MIN_ACTIVE ∨ s.hrn.stepHold.getD x.val false = true) → ∃ t, exec
      .shedAddSlot s = .next t ∧ ∀ n ∈ stringChans x.val, t.chSt n = s.chSt n) ∧
    ((s.shedding = false ∨ s.boot.disarming = true) → exec .shedAddSlot s = .next s) ∧
    (∀ (xs : Strings), (s.shedding = false ∨ s.boot.disarming = true) → exec (.stepEvent xs) s = .next s) ∧
    (∀ (xs : Strings) (x : Nat) (n : Nat), s.shedding = true → s.boot.disarming = false → s.hrn.chans.length = 104 →
      s.hrn.stepHold.length = 2 → x ∈ stringsOf xs → n ∈ stringChans x → s.serves n = true → s.heldDown n = false → ∃
      t, exec (.stepEvent xs) s = .next t ∧ t.hrn.stepHold.getD x false = true ∧ (s.chSt n = chShed → t.chSt n =
      chRestarting) ∧ (s.chSt n = chShedding → (s.chan n).leaving = false → t.chSt n = chRun) ∧ (s.chSt n ≠ chShed →
      s.chSt n ≠ chShedding → t.chSt n = s.chSt n)) ∧
    (∀ (x : StrNo), exec (.stepHoldExpiry x) s = .next
      { s with hrn := { s.hrn with stepHold := s.hrn.stepHold.set x.val false } }) ∧
    (∀ (g : GrpNo), s.isSet (HRN_GRP_CTRL_ENABLE g.val) = true → exec (.groupEnable g) s = .next s) ∧
    (∀ (g : GrpNo), s.isSet (HRN_GRP_CTRL_ENABLE g.val) = false → ((∃ n ∈ groupChans g.val, (s.chan n).leaving = true
      ∧ s.chSt n ≠ chOff) ∨ s.tooSoon (s.brd.grpOffSince.getD g.val none) = true) → ∃ t, exec (.groupEnable g) s =
      .next t ∧ t.isSet (HRN_GRP_CTRL_ENABLE g.val) = true ∧ bitOf (t.get BRD_PENDING_GRP) g.val = true ∧ ∀ n :
      ChanNo, t.chSt n.val = s.chSt n.val) ∧
    (∀ (g : GrpNo), s.isSet (HRN_GRP_CTRL_ENABLE g.val) = false → (∀ n ∈ groupChans g.val, (s.chan n).leaving = true →
      s.chSt n = chOff) → s.tooSoon (s.brd.grpOffSince.getD g.val none) = false → s.hrn.chans.length = 104 → bitOf
      (s.get BRD_PENDING_GRP) g.val = false → s.get (HRN_GRP_STATUS_STATE g.val) = 0 → ∃ t, exec (.groupEnable g) s =
      .next t ∧ t.isSet (HRN_GRP_CTRL_ENABLE g.val) = true ∧ (s.hrnClocked = false → ∀ n : ChanNo, t.chSt n.val =
      s.chSt n.val) ∧ (s.hrnClocked = true → t.get (HRN_GRP_STATUS_STATE g.val) = 1 ∧ ∀ n ∈ groupChans g.val, s.chSt n
      = chOff → (s.chan n).leaving = false → (s.chan n).faultCode = 0 → s.get (HRN_CH_CTRL_ROLE n) = 1 → t.chSt n =
      chShed)) ∧
    (∀ (g : GrpNo), s.isSet (HRN_GRP_CTRL_ENABLE g.val) = true → s.hrn.chans.length = 104 → ∃ t, exec (.groupDisable
      g) s = .next t ∧ t.isSet (HRN_GRP_CTRL_ENABLE g.val) = false ∧ bitOf (t.get BRD_PENDING_GRP) g.val = false ∧ ∀ n
      ∈ groupChans g.val, stActive (s.chSt n) = true → t.chSt n = chShedding ∧ (t.chan n).leaving = true) ∧
    (∀ (g : GrpNo), s.isSet (HRN_GRP_CTRL_ENABLE g.val) = false → exec (.groupDisable g) s = .next s) ∧
    (∀ (n : ChanNo), s.hrn.chans.length = 104 → ∃ t, exec (.forceShedWrite n true) s = .next t ∧ t.isSet
      (HRN_CH_CTRL_FORCE_SHED n.val) = true ∧ ((s.chSt n.val = chRun ∨ s.chSt n.val = chRestarting) → t.chSt n.val =
      chShedding ∧ (t.chan n.val).shedLeft = s.shedGet HRN_SHED_CFG_SHED_RAMP) ∧ (s.chSt n.val ≠ chRun → s.chSt n.val
      ≠ chRestarting → t.chSt n.val = s.chSt n.val)) ∧
    (∀ (n : ChanNo), (s.isSet (HRN_CH_CTRL_FORCE_SHED n.val) = false ∨ chanString n.val ∉ s.brd.strOut) → ∃ t, exec
      (.forceShedWrite n false) s = .next t ∧ t.isSet (HRN_CH_CTRL_FORCE_SHED n.val) = false ∧ t.chSt n.val = s.chSt
      n.val) ∧
    (∀ (n : ChanNo), s.isSet (HRN_CH_CTRL_FORCE_SHED n.val) = true → chanString n.val ∈ s.brd.strOut → ∃ t, exec
      (.forceShedWrite n false) s = .next t ∧ t.isSet (HRN_CH_CTRL_FORCE_SHED n.val) = true ∧ t.chSt n.val = s.chSt
      n.val) ∧
    (∀ (n : ChanNo), s.hrn.chans.length = 104 → ∃ t, exec (.fltNLow n) s = .next t ∧ t.isSet (HRN_CH_FAULT_FLT_N
      n.val) = true ∧ (t.chan n.val).flt = true ∧ (0x0203, n.val) ∈ t.brd.active ∧ ((s.chSt n.val = chOff ∨ s.chSt
      n.val = chFaulted ∨ s.chSt n.val = chForcedOff ∨ s.chSt n.val = chOvLatch) → t.chSt n.val = s.chSt n.val) ∧
      (¬(s.chSt n.val = chOff ∨ s.chSt n.val = chFaulted ∨ s.chSt n.val = chForcedOff ∨ s.chSt n.val = chOvLatch) →
      t.chSt n.val = chFaulted ∧ (t.chan n.val).hi = false ∧ (t.chan n.val).lo = false)) ∧
    (∀ (n : ChanNo) (v : Int), -2 ^ 15 ≤ v → v < 2 ^ 15 → s.hrnClocked = false → ∃ t, exec (.stageTempCheck n v) s =
      .next t ∧ t.getI (HRN_CH_MEAS_TEMP n.val) = v ∧ t.chSt n.val = s.chSt n.val ∧ t.brd = s.brd) ∧
    (∀ (n : ChanNo) (v : Int), -2 ^ 15 ≤ v → v < 2 ^ 15 → s.hrn.chans.length = 104 → s.hrnClocked = true → v ≤ 10 *
      s.get (HRN_GRP_TEMP_T_WARN (chanGroup n.val)) → v ≤ 10 * s.get (HRN_GRP_TEMP_T_TRIP (chanGroup n.val)) → ∃ t,
      exec (.stageTempCheck n v) s = .next t ∧ t.getI (HRN_CH_MEAS_TEMP n.val) = v ∧ t.chSt n.val = s.chSt n.val ∧
      (0x0204, n.val) ∉ t.brd.active ∧ (0x0205, n.val) ∉ t.brd.active ∧ (t.chan n.val).warm = (if v < 10 * s.get
      (HRN_GRP_TEMP_T_WARN (chanGroup n.val)) - 100 then false else (s.chan n.val).warm)) ∧
    (∀ (n : ChanNo) (v : Int), -2 ^ 15 ≤ v → v < 2 ^ 15 → s.hrn.chans.length = 104 → s.hrnClocked = true → 10 * s.get
      (HRN_GRP_TEMP_T_WARN (chanGroup n.val)) < v → v ≤ 10 * s.get (HRN_GRP_TEMP_T_TRIP (chanGroup n.val)) → ∃ t, exec
      (.stageTempCheck n v) s = .next t ∧ t.getI (HRN_CH_MEAS_TEMP n.val) = v ∧ t.isSet (HRN_CH_FAULT_OT_WARN n.val) =
      true ∧ (0x0204, n.val) ∈ t.brd.active ∧ (t.chan n.val).warm = true ∧ (0x0205, n.val) ∉ t.brd.active ∧ ((s.chSt
      n.val = chRun ∨ s.chSt n.val = chRestarting) → t.chSt n.val = chShedding) ∧ (s.chSt n.val ≠ chRun → s.chSt n.val
      ≠ chRestarting → t.chSt n.val = s.chSt n.val)) ∧
    (∀ (n : ChanNo) (v : Int), -2 ^ 15 ≤ v → v < 2 ^ 15 → s.hrn.chans.length = 104 → s.hrnClocked = true → 10 * s.get
      (HRN_GRP_TEMP_T_TRIP (chanGroup n.val)) < v → ∃ t, exec (.stageTempCheck n v) s = .next t ∧ t.getI
      (HRN_CH_MEAS_TEMP n.val) = v ∧ t.isSet (HRN_CH_FAULT_OT_TRIP n.val) = true ∧ (0x0205, n.val) ∈ t.brd.active ∧
      (¬(s.chSt n.val = chOff ∨ s.chSt n.val = chFaulted ∨ s.chSt n.val = chForcedOff ∨ s.chSt n.val = chOvLatch) →
      t.chSt n.val = chFaulted ∧ (t.chan n.val).hi = false ∧ (t.chan n.val).lo = false)) ∧
    (∀ (n : ChanNo), s.hrn.chans.length = 104 → s.chSt n.val = chFaulted → s.getI (HRN_CH_MEAS_TEMP n.val) < 10 *
      s.get (HRN_GRP_TEMP_T_WARN (chanGroup n.val)) → s.isSet (HRN_CH_FAULT_FLT_N n.val) = false → s.isSet
      (HRN_CH_FAULT_OT_TRIP n.val) = false → ∃ t, exec (.faultedChannelReturn n) s = .next t ∧ (t.chan n.val).flt =
      false ∧ (0x0203, n.val) ∉ t.brd.active ∧ t.chSt n.val = (if (s.chan n.val).leaving = true ∨ s.serves n.val =
      false then chOff else if s.get (HRN_GRP_STATUS_STATE (chanGroup n.val)) = 2 ∨ s.get (HRN_GRP_STATUS_STATE
      (chanGroup n.val)) = 4 then chHiccup else chShed)) ∧
    (∀ (n : ChanNo), s.hrn.chans.length = 104 → (s.chSt n.val ≠ chFaulted ∨ 10 * s.get (HRN_GRP_TEMP_T_WARN (chanGroup
      n.val)) ≤ s.getI (HRN_CH_MEAS_TEMP n.val) ∨ s.isSet (HRN_CH_FAULT_FLT_N n.val) = true ∨ s.isSet
      (HRN_CH_FAULT_OT_TRIP n.val) = true) → ∃ t, exec (.faultedChannelReturn n) s = .next t ∧ (t.chan n.val).flt =
      false ∧ (0x0203, n.val) ∉ t.brd.active ∧ t.chSt n.val = s.chSt n.val)

/-! ### Channel faults, Sync, over-voltage, Rein -/

/-- With an outside source, an edge is valid within 10 % of PERIOD after the last one with no stray edge in between,
and from the fabric only at its own cycle starts while fabric time is held; an edge that is not valid starts the
counts of good edges and of aligned cycles over and shows nothing (R158, R159). A valid one shows the interval and
clears MISSED; the eighth in a row begins acquisition, the fourth in a row within 0.5 degrees of the G0 start locks
the period to the source, and a locked period follows each interval (R161). A missing edge is counted up to 4, the
fourth in a row of a source in use is a loss: LOCK 3, LOST, 0x0206 (R160). A change of SYNC_SRC is an immediate loss
of the old source (R162); the reserved source, and the fabric with a PERIOD that is no multiple of 8, set REFUSED and
keep the field (R158, R162). Without an outside source edges count nothing. VNODE at OV_THRESH or above, with Harness
clocked, no sequence in progress and no latch, takes the gates of every channel off, opens the isolation switch and
raises 0x0103, which ends ARMING, ARMED and DERATED in ISOLATED or LATCHED (R167, R414); below it nothing happens.
With the isolation feedback low each channel that was active latches its low switch on, and its group shows OV_LATCH;
a channel forced off meanwhile does not; with the feedback still high the shelf is latched with NO_ISO and no low
switch on (R167). CLEAR below the threshold, or AUTO by itself, releases the latch: no channel is latched, 0x0103 is
not active, and the actions that waited complete (R169, R414). A waiting last-fault record goes to its slot of MRAM
once no journal entry is being written, the next one has its turn, and NEWEST, ANY and PENDING follow (R172, R296). -/
def Obligations.SyncAndOverVoltageCommands : Prop :=
  ∀ s : State, s.pins.powered = true →
    (∀ (i p : Nat), s.get HRN_SYNC_CTRL_SYNC_SRC = 0 → exec (.syncEdge i p) s = .next s ∧ exec .syncEdgeMissing s =
      .next s) ∧
    (∀ (i p : Nat), s.get HRN_SYNC_CTRL_SYNC_SRC ≠ 0 → (10 * i < 9 * s.get HRN_TIMING_PERIOD ∨ 11 * s.get
      HRN_TIMING_PERIOD < 10 * i ∨ s.hrn.stray = true ∨ (s.get HRN_SYNC_CTRL_SYNC_SRC = 2 ∧ (s.isSet
      FAB_STATUS_TIME_HELD = false ∨ s.fabStart = false))) → exec (.syncEdge i p) s = .next
      { s with hrn := { s.hrn with good := 0, aligned := 0, stray := decide (10 * i < 9 * s.get HRN_TIMING_PERIOD) } }) ∧
    (∀ (i p : Nat), s.get HRN_SYNC_CTRL_SYNC_SRC ≠ 0 → 9 * s.get HRN_TIMING_PERIOD ≤ 10 * i → 10 * i ≤ 11 * s.get
      HRN_TIMING_PERIOD → s.hrn.stray = false → (s.get HRN_SYNC_CTRL_SYNC_SRC = 2 → s.isSet FAB_STATUS_TIME_HELD =
      true ∧ s.fabStart = true) → i < 2 ^ HRN_SYNC_STATUS_MEAS_PERIOD.w → (s.get HRN_SYNC_STATUS_LOCK = 0 ∨ s.get
      HRN_SYNC_STATUS_LOCK = 3) → 7 ≤ s.hrn.good → ∃ t, exec (.syncEdge i p) s = .next t ∧ t.get HRN_SYNC_STATUS_LOCK
      = 1 ∧ t.hrn.good = s.hrn.good + 1 ∧ t.get HRN_SYNC_STATUS_MEAS_PERIOD = i ∧ t.get HRN_SYNC_STATUS_MISSED = 0) ∧
    (∀ (i p : Nat), s.get HRN_SYNC_CTRL_SYNC_SRC ≠ 0 → 9 * s.get HRN_TIMING_PERIOD ≤ 10 * i → 10 * i ≤ 11 * s.get
      HRN_TIMING_PERIOD → s.hrn.stray = false → (s.get HRN_SYNC_CTRL_SYNC_SRC = 2 → s.isSet FAB_STATUS_TIME_HELD =
      true ∧ s.fabStart = true) → i < 2 ^ HRN_SYNC_STATUS_MEAS_PERIOD.w → (s.get HRN_SYNC_STATUS_LOCK = 0 ∨ s.get
      HRN_SYNC_STATUS_LOCK = 3) → s.hrn.good < 7 → ∃ t, exec (.syncEdge i p) s = .next t ∧ t.get HRN_SYNC_STATUS_LOCK
      = s.get HRN_SYNC_STATUS_LOCK ∧ t.hrn.good = s.hrn.good + 1 ∧ t.get HRN_SYNC_STATUS_MEAS_PERIOD = i ∧ t.get
      HRN_SYNC_STATUS_MISSED = 0) ∧
    (∀ (i p : Nat), s.get HRN_SYNC_CTRL_SYNC_SRC ≠ 0 → 9 * s.get HRN_TIMING_PERIOD ≤ 10 * i → 10 * i ≤ 11 * s.get
      HRN_TIMING_PERIOD → s.hrn.stray = false → (s.get HRN_SYNC_CTRL_SYNC_SRC = 2 → s.isSet FAB_STATUS_TIME_HELD =
      true ∧ s.fabStart = true) → i < 2 ^ HRN_SYNC_STATUS_MEAS_PERIOD.w → s.get HRN_SYNC_STATUS_LOCK = 1 → (p % 3600 ≤
      5 ∨ 3595 ≤ p % 3600) → 3 ≤ s.hrn.aligned → ∃ t, exec (.syncEdge i p) s = .next t ∧ t.get HRN_SYNC_STATUS_LOCK =
      2 ∧ t.hrn.period100 = 100 * i ∧ (0x0206, 0) ∉ t.brd.active ∧ t.get HRN_SYNC_STATUS_MEAS_PERIOD = i ∧ t.get
      HRN_SYNC_STATUS_MISSED = 0) ∧
    (∀ (i p : Nat), s.get HRN_SYNC_CTRL_SYNC_SRC ≠ 0 → 9 * s.get HRN_TIMING_PERIOD ≤ 10 * i → 10 * i ≤ 11 * s.get
      HRN_TIMING_PERIOD → s.hrn.stray = false → (s.get HRN_SYNC_CTRL_SYNC_SRC = 2 → s.isSet FAB_STATUS_TIME_HELD =
      true ∧ s.fabStart = true) → i < 2 ^ HRN_SYNC_STATUS_MEAS_PERIOD.w → s.get HRN_SYNC_STATUS_LOCK = 1 → (p % 3600 ≤
      5 ∨ 3595 ≤ p % 3600) → s.hrn.aligned < 3 → ∃ t, exec (.syncEdge i p) s = .next t ∧ t.get HRN_SYNC_STATUS_LOCK =
      1 ∧ t.hrn.aligned = s.hrn.aligned + 1 ∧ t.get HRN_SYNC_STATUS_MEAS_PERIOD = i ∧ t.get HRN_SYNC_STATUS_MISSED = 0) ∧
    (∀ (i p : Nat), s.get HRN_SYNC_CTRL_SYNC_SRC ≠ 0 → 9 * s.get HRN_TIMING_PERIOD ≤ 10 * i → 10 * i ≤ 11 * s.get
      HRN_TIMING_PERIOD → s.hrn.stray = false → (s.get HRN_SYNC_CTRL_SYNC_SRC = 2 → s.isSet FAB_STATUS_TIME_HELD =
      true ∧ s.fabStart = true) → i < 2 ^ HRN_SYNC_STATUS_MEAS_PERIOD.w → s.get HRN_SYNC_STATUS_LOCK = 1 → 5 < p %
      3600 → p % 3600 < 3595 → ∃ t, exec (.syncEdge i p) s = .next t ∧ t.get HRN_SYNC_STATUS_LOCK = 1 ∧ t.hrn.aligned
      = 0 ∧ t.get HRN_SYNC_STATUS_MEAS_PERIOD = i ∧ t.get HRN_SYNC_STATUS_MISSED = 0) ∧
    (∀ (i p : Nat), s.get HRN_SYNC_CTRL_SYNC_SRC ≠ 0 → 9 * s.get HRN_TIMING_PERIOD ≤ 10 * i → 10 * i ≤ 11 * s.get
      HRN_TIMING_PERIOD → s.hrn.stray = false → (s.get HRN_SYNC_CTRL_SYNC_SRC = 2 → s.isSet FAB_STATUS_TIME_HELD =
      true ∧ s.fabStart = true) → i < 2 ^ HRN_SYNC_STATUS_MEAS_PERIOD.w → s.get HRN_SYNC_STATUS_LOCK = 2 → ∃ t, exec
      (.syncEdge i p) s = .next t ∧ t.get HRN_SYNC_STATUS_LOCK = 2 ∧ t.hrn.period100 = 100 * i ∧ t.get
      HRN_SYNC_STATUS_MEAS_PERIOD = i ∧ t.get HRN_SYNC_STATUS_MISSED = 0) ∧
    (s.get HRN_SYNC_CTRL_SYNC_SRC = 2 → s.isSet FAB_STATUS_TIME_HELD = true → exec .syncEdgeMissing s = .next s) ∧
    (s.get HRN_SYNC_CTRL_SYNC_SRC ≠ 0 → (s.get HRN_SYNC_CTRL_SYNC_SRC ≠ 2 ∨ s.isSet FAB_STATUS_TIME_HELD = false) →
      s.get HRN_SYNC_STATUS_MISSED = 3 → (s.get HRN_SYNC_STATUS_LOCK = 1 ∨ s.get HRN_SYNC_STATUS_LOCK = 2) → ∃ t, exec
      .syncEdgeMissing s = .next t ∧ t.get HRN_SYNC_STATUS_LOCK = 3 ∧ t.isSet HRN_SYNC_STATUS_LOST = true ∧ t.get
      HRN_SYNC_STATUS_MISSED = 4 ∧ (0x0206, 0) ∈ t.brd.active) ∧
    (s.get HRN_SYNC_CTRL_SYNC_SRC ≠ 0 → (s.get HRN_SYNC_CTRL_SYNC_SRC ≠ 2 ∨ s.isSet FAB_STATUS_TIME_HELD = false) →
      (s.get HRN_SYNC_STATUS_MISSED ≠ 3 ∨ s.get HRN_SYNC_STATUS_LOCK = 0 ∨ s.get HRN_SYNC_STATUS_LOCK = 3) → ∃ t, exec
      .syncEdgeMissing s = .next t ∧ t.get HRN_SYNC_STATUS_LOCK = s.get HRN_SYNC_STATUS_LOCK ∧ t.get
      HRN_SYNC_STATUS_MISSED = min 4 (s.get HRN_SYNC_STATUS_MISSED + 1) ∧ t.hrn.good = 0) ∧
    (∀ (src : Fin 4), src.val ≠ 3 → (src.val ≠ 2 ∨ s.get HRN_TIMING_PERIOD % 8 = 0) → src.val ≠ s.get
      HRN_SYNC_CTRL_SYNC_SRC → s.get HRN_SYNC_CTRL_SYNC_SRC ≠ 0 → ∃ t, exec (.syncSrcSelect src) s = .next t ∧ t.get
      HRN_SYNC_CTRL_SYNC_SRC = src.val ∧ t.get HRN_SYNC_STATUS_LOCK = 3 ∧ t.isSet HRN_SYNC_STATUS_LOST = true ∧ t.get
      HRN_SYNC_STATUS_MISSED = 0) ∧
    (∀ (src : Fin 4), src.val ≠ 3 → (src.val ≠ 2 ∨ s.get HRN_TIMING_PERIOD % 8 = 0) → src.val ≠ 0 → s.get
      HRN_SYNC_CTRL_SYNC_SRC = 0 → ∃ t, exec (.syncSrcSelect src) s = .next t ∧ t.get HRN_SYNC_CTRL_SYNC_SRC = src.val
      ∧ t.get HRN_SYNC_STATUS_LOCK = s.get HRN_SYNC_STATUS_LOCK ∧ t.get HRN_SYNC_STATUS_MISSED = 0 ∧ t.hrn.good = 0) ∧
    (∀ (src : Fin 4), src.val ≠ 3 → (src.val ≠ 2 ∨ s.get HRN_TIMING_PERIOD % 8 = 0) → src.val = s.get
      HRN_SYNC_CTRL_SYNC_SRC → exec (.syncSrcSelect src) s = .next s) ∧
    (∀ (src : Fin 4), (src.val = 3 ∨ (src.val = 2 ∧ s.get HRN_TIMING_PERIOD % 8 ≠ 0)) → ∃ t, exec (.syncSrcSelect src)
      s = .next t ∧ t.get HRN_SYNC_CTRL_SYNC_SRC = s.get HRN_SYNC_CTRL_SYNC_SRC ∧ t.isSet HRN_SYNC_STATUS_REFUSED =
      true ∧ (src.val = 3 → (0x0605, 0) ∉ s.brd.active → t.get BRD_LAST_CODE = 0x0605)) ∧
    (∀ (v : Nat), s.hrnClocked = true → s.hrn.ovOpen = false → s.isSet HRN_OV_CTRL_LATCHED = false → s.get
      HRN_OV_CFG_OV_THRESH ≤ v → ∃ t, exec (.overVoltageDeclared v) s = .next t ∧ t.pins.isoEn = false ∧ (∀ c ∈
      t.hrn.chans, c.hi = false ∧ c.lo = false) ∧ (0x0103, 0) ∈ t.brd.active ∧ (s.armedStates = true → (0x0103, 0) ∉
      s.brd.active → t.shelf = stIsolated ∨ t.shelf = stLatched)) ∧
    (∀ (v : Nat), s.hrn.ovOpen = false → (s.hrnClocked = false ∨ s.isSet HRN_OV_CTRL_LATCHED = true ∨ v < s.get
      HRN_OV_CFG_OV_THRESH) → exec (.overVoltageDeclared v) s = .next s) ∧
    (∀ (v : Nat), s.hrn.ovOpen = true → (s.isSet SYS_CONN_STATUS_ISO_FB = true ∨ s.isSet HRN_OV_CTRL_LATCHED = true) →
      exec (.overVoltageDeclared v) s = .next s) ∧
    (∀ (n : ChanNo), s.hrn.chans.length = 104 → s.hrn.ovOpen = true → n.val ∈ s.hrn.ovActive → s.isSet
      SYS_CONN_STATUS_ISO_FB = false → s.chSt n.val ≠ chForcedOff → ∃ t, exec (.ovLowSwitchLatch n) s = .next t ∧
      t.chSt n.val = chOvLatch ∧ (t.chan n.val).lo = (!s.tapHolds) ∧ (t.chan n.val).hi = false ∧ t.isSet
      HRN_OV_CTRL_LATCHED = true ∧ t.get (HRN_GRP_STATUS_STATE (chanGroup n.val)) = 5 ∧ n.val ∉ t.hrn.ovActive) ∧
    (∀ (n : ChanNo), s.hrn.ovOpen = true → n.val ∈ s.hrn.ovActive → s.isSet SYS_CONN_STATUS_ISO_FB = false → s.chSt
      n.val = chForcedOff → ∃ t, exec (.ovLowSwitchLatch n) s = .next t ∧ t.chSt n.val = chForcedOff ∧ n.val ∉
      t.hrn.ovActive ∧ t.isSet HRN_OV_CTRL_LATCHED = s.isSet HRN_OV_CTRL_LATCHED) ∧
    (∀ (n : ChanNo), (s.hrn.ovOpen = false ∨ n.val ∉ s.hrn.ovActive ∨ s.isSet SYS_CONN_STATUS_ISO_FB = true) → exec
      (.ovLowSwitchLatch n) s = .next s) ∧
    (s.hrn.ovOpen = true → s.isSet SYS_CONN_STATUS_ISO_FB = true → ∃ t, exec .ovNoIso s = .next t ∧ t.isSet
      HRN_OV_CTRL_NO_ISO = true ∧ t.isSet HRN_OV_CTRL_LATCHED = true ∧ t.hrn.ovOpen = false ∧ t.hrn.ovActive = []) ∧
    ((s.hrn.ovOpen = false ∨ s.isSet SYS_CONN_STATUS_ISO_FB = false) → exec .ovNoIso s = .next s) ∧
    (∀ (v : Nat), s.isSet HRN_OV_CTRL_LATCHED = true → v < s.get HRN_OV_CFG_OV_THRESH → ∃ t, exec (.ovClear v) s =
      .next t ∧ t.isSet HRN_OV_CTRL_LATCHED = false ∧ t.isSet HRN_OV_CTRL_NO_ISO = false ∧ (∀ n : ChanNo, t.chSt n.val
      ≠ chOvLatch) ∧ (0x0103, 0) ∉ t.brd.active ∧ t.brd.ovAction = 0 ∧ t.brd.openAfterOv = [] ∧ t.hrn.ovOpen = false) ∧
    (∀ (v : Nat), (s.isSet HRN_OV_CTRL_LATCHED = false ∨ s.get HRN_OV_CFG_OV_THRESH ≤ v) → exec (.ovClear v) s = .next
      s) ∧
    (s.isSet HRN_OV_CTRL_LATCHED = true → s.isSet HRN_OV_CFG_AUTO = true → ∃ t, exec .ovAutoRelease s = .next t ∧
      t.isSet HRN_OV_CTRL_LATCHED = false ∧ t.isSet HRN_OV_CTRL_NO_ISO = false ∧ (∀ n : ChanNo, t.chSt n.val ≠
      chOvLatch) ∧ (0x0103, 0) ∉ t.brd.active ∧ t.brd.ovAction = 0 ∧ t.brd.openAfterOv = [] ∧ t.hrn.ovOpen = false) ∧
    ((s.isSet HRN_OV_CTRL_LATCHED = false ∨ s.isSet HRN_OV_CFG_AUTO = false) → exec .ovAutoRelease s = .next s) ∧
    (∀ (r : Lfr) (l : List Lfr), s.hrn.lfrQ = r :: l → s.hrn.lfrSlot < 64 → l.length < 4 → s.isSet EST_JNL_STATUS_BUSY
      = false → s.sectorMoving (392 * 0x1000 + 0x100 * s.hrn.lfrSlot) = false → ∃ t, exec .lastFaultRecordWrite s =
      .next t ∧ (s.rmt.due = false → t.mram = sparseWriteBytes s.mram (392 * 0x1000 + 0x100 * s.hrn.lfrSlot) r.bytes)
      ∧ t.hrn.lfrQ = l ∧ t.hrn.lfrSlot = (s.hrn.lfrSlot + 1) % 64 ∧ t.get HRN_LFR_STATUS_NEWEST = s.hrn.lfrSlot ∧
      t.isSet HRN_LFR_STATUS_ANY = true ∧ t.get HRN_LFR_STATUS_PENDING = l.length) ∧
    ((s.hrn.lfrQ = [] ∨ s.isSet EST_JNL_STATUS_BUSY = true ∨ s.sectorMoving (392 * 0x1000 + 0x100 * s.hrn.lfrSlot) =
      true) → exec .lastFaultRecordWrite s = .next s)

/-- A Rein sample takes the measurements in every state (R189), the ISNS input that has just moved to a spare
converter at its previous value once more (R469); while the phases precharge it gives every channel the precharge
reference while VNODE stays more than 0.5 V below VBUS, and none otherwise (R194), and out of service it gives no
reference (R189). A following error that has lasted FE_TIME shows FE_TRIP and REIN_STATUS.FE and raises the cascade's
code once, outside the soft-start window (R206, R419). ENABLE starts a cascade in service, or is pending while it
stops or within its minimum off-time, and otherwise only shows; DISABLE stops a starting or running one over its ramp
and ends a pending enable (R200, R425). BANK_SEL is written, and taken later (R204). HOLD is refused for the bus and
the rectifier cascade in an armed state (R205). A coefficient, SHIFT and the two W1C bits of a section are written
(R202, R215); its state words only while no running cascade uses the section (R202). MAP and LEN change outside the
bank in effect where no section is used twice and LEN is at most 8, otherwise the register keeps its value (R175,
R203). REIN_CAS_SRC changes in PASSIVE only; a second cascade for destination 1 or 4, and the reserved codes, are
refused with an F0 event, and a reserved code leaves the other fields free to change (R17, R175, R186). -/
def Obligations.CascadeCommands : Prop :=
  ∀ s : State, s.pins.powered = true →
    (∀ (i : SampleIn), ∃ t, exec (.reinSample i) s = .next t ∧ t.meas.vbus = i.vbus ∧ t.meas.vnode = i.vnode ∧
      t.meas.vstr = [i.vstrA, i.vstrB] ∧ t.meas.isum = (List.range 104).foldl (fun a n => a + (if s.meas.again = some
      n then s.meas.isns.getD n 0 else i.isns.getD n 0)) 0 ∧ t.meas.again = none) ∧
    (∀ (i : SampleIn), s.hrn.chans.length = 104 → s.precharging = true → s.boot.disarming = false → ∃ t, exec
      (.reinSample i) s = .next t ∧ ∀ n : ChanNo, (t.chan n.val).ref = (if i.vnode + 50 < i.vbus then 10 * s.get
      REIN_SPLIT_CFG_PRECHG_A else 0)) ∧
    (∀ (i : SampleIn) (n : ChanNo), s.shedding = false → s.precharging = false → s.boot.disarming = false → ∃ t, exec
      (.reinSample i) s = .next t ∧ (t.chan n.val).ref = (s.chan n.val).ref ∧ t.rd REIN_CMD_TOT = s.rd REIN_CMD_TOT) ∧
    (∀ (c : CasNo), s.get (REIN_CAS_FE_CFG_FE_TIME c.val) ≠ 0 → s.get (REIN_CAS_FE_CFG_FE_TIME c.val) ≤ s.rein.fe.getD
      c.val 0 → s.rein.tripped.getD c.val false = false → (c ≠ 0 ∨ s.brd.ssWindow = false) → (0x0300 + c.val, c.val) ∉
      s.brd.active → ∃ t, exec (.followingErrorTrip c) s = .next t ∧ t.isSet (REIN_CAS_STATUS_FE_TRIP c.val) = true ∧
      t.isSet REIN_STATUS_FE = true ∧ (t.get BRD_LAST_CODE = 0x0300 + c.val ∨ t.get BRD_LAST_CODE = 0x0708)) ∧
    (∀ (c : CasNo), (s.get (REIN_CAS_FE_CFG_FE_TIME c.val) = 0 ∨ s.rein.fe.getD c.val 0 < s.get
      (REIN_CAS_FE_CFG_FE_TIME c.val) ∨ s.rein.tripped.getD c.val false = true) → exec (.followingErrorTrip c) s =
      .next s) ∧
    (∀ (c : CasNo), s.casSt c.val = 0 → s.inService = true → s.boot.disarming = false → s.tooSoon (s.rein.offAt.getD
      c.val none) = false → ∃ t, exec (.cascadeEnable c) s = .next t ∧ t.casSt c.val = 1 ∧ t.isSet
      (REIN_CAS_CTRL_ENABLE c.val) = true) ∧
    (∀ (c : CasNo), (s.casSt c.val = 3 ∨ (s.casSt c.val = 0 ∧ s.inService = true ∧ s.boot.disarming = false ∧
      s.tooSoon (s.rein.offAt.getD c.val none) = true)) → ∃ t, exec (.cascadeEnable c) s = .next t ∧ t.casSt c.val =
      s.casSt c.val ∧ t.isSet (REIN_CAS_CTRL_ENABLE c.val) = true ∧ t.isSet (REIN_CAS_STATUS_ENABLE_PENDING c.val) =
      true ∧ bitOf (t.get BRD_PENDING_CAS) c.val = true) ∧
    (∀ (c : CasNo), s.casSt c.val ≠ 3 → (s.casSt c.val ≠ 0 ∨ s.inService = false ∨ s.boot.disarming = true) → ∃ t,
      exec (.cascadeEnable c) s = .next t ∧ t.casSt c.val = s.casSt c.val ∧ t.isSet (REIN_CAS_CTRL_ENABLE c.val) =
      true ∧ t.isSet (REIN_CAS_STATUS_ENABLE_PENDING c.val) = s.isSet (REIN_CAS_STATUS_ENABLE_PENDING c.val)) ∧
    (∀ (c : CasNo), ∃ t, exec (.cascadeDisable c) s = .next t ∧ t.isSet (REIN_CAS_CTRL_ENABLE c.val) = false ∧ t.isSet
      (REIN_CAS_STATUS_ENABLE_PENDING c.val) = false ∧ bitOf (t.get BRD_PENDING_CAS) c.val = false ∧ t.casSt c.val =
      (if s.casSt c.val = 1 ∨ s.casSt c.val = 2 then 3 else s.casSt c.val)) ∧
    (∀ (c : CasNo) (b : Bool), ∃ t, exec (.bankSwitch c b) s = .next t ∧ t.get (REIN_CAS_CTRL_BANK_SEL c.val) =
      b.toNat ∧ t.get (REIN_CAS_STATUS_BANK_IN_USE c.val) = s.get (REIN_CAS_STATUS_BANK_IN_USE c.val)) ∧
    (∀ (c : CasNo), (s.casDest c.val ≠ 1 ∧ s.casDest c.val ≠ 4 ∨ s.armedStates = false) → exec (.cascadeHold c) s =
      .next (s.set (REIN_CAS_CTRL_HOLD c.val) 1)) ∧
    (∀ (c : CasNo), (s.casDest c.val = 1 ∨ s.casDest c.val = 4) → s.armedStates = true → ∃ t, exec (.cascadeHold c) s
      = .next t ∧ t.isSet (REIN_CAS_STATUS_REFUSED c.val) = true ∧ t.rd (REIN_CAS_CTRL c.val) = s.rd (REIN_CAS_CTRL
      c.val) ∧ ((0x0605, 0) ∉ s.brd.active → t.get BRD_LAST_CODE = 0x0605)) ∧
    (∀ (c : CasNo), exec (.cascadeHoldClear c) s = .next (s.set (REIN_CAS_CTRL_HOLD c.val) 0)) ∧
    (∀ (k : Fin 64) (word : Fin 6) (v : Word), word.val < 5 → exec (.coefficientWrite k word v) s = .next (s.wr
      (REIN_SEC_B0 k.val + 4 * word.val) v)) ∧
    (∀ (k : Fin 64) (v : Word), ∃ t, exec (.coefficientWrite k 5 v) s = .next t ∧ t.get (REIN_SEC_CFG_SHIFT k.val) =
      v.toNat % 8 ∧ t.isSet (REIN_SEC_CFG_SAT k.val) = (s.isSet (REIN_SEC_CFG_SAT k.val) && !v.getLsbD 7) ∧ t.isSet
      (REIN_SEC_CFG_REFUSED k.val) = (s.isSet (REIN_SEC_CFG_REFUSED k.val) && !v.getLsbD 8)) ∧
    (∀ (k : Fin 64) (word : Fin 4) (v : Word), (List.range 8).any (fun c => s.casSt c != 0 && (s.bankSlots c
      (s.bankInUse c)).contains k.val) = false → exec (.sectionStateWrite k word v) s = .next (s.wr (REIN_SEC_X1 k.val
      + 4 * word.val) v)) ∧
    (∀ (k : Fin 64) (word : Fin 4) (v : Word), (List.range 8).any (fun c => s.casSt c != 0 && (s.bankSlots c
      (s.bankInUse c)).contains k.val) = true → ∃ t, exec (.sectionStateWrite k word v) s = .next t ∧ t.rd
      (REIN_SEC_X1 k.val + 4 * word.val) = s.rd (REIN_SEC_X1 k.val + 4 * word.val) ∧ t.isSet (REIN_SEC_CFG_REFUSED
      k.val) = true ∧ ((0x0605, 0) ∉ s.brd.active → t.get BRD_LAST_CODE = 0x0605)) ∧
    (∀ (c : CasNo) (b u : Bool) (v : Word), s.mapBad c.val (.word b u v) = 0 → ∃ t, exec (.mapWrite c (.word b u v)) s
      = .next t ∧ t.rd (REIN_CAS_MAP_A0 c.val + 8 * b.toNat + 4 * u.toNat) = v &&& 0x3F3F3F3F) ∧
    (∀ (c : CasNo) (b : Bool) (n : Fin 16), s.mapBad c.val (.len b n) = 0 → ∃ t, exec (.mapWrite c (.len b n)) s =
      .next t ∧ t.get (if b then REIN_CAS_CTRL_LEN_B c.val else REIN_CAS_CTRL_LEN_A c.val) = n.val ∧ n.val ≤ 8) ∧
    (∀ (c : CasNo) (m : MapWrite), s.mapBad c.val m ≠ 0 → ∃ t, exec (.mapWrite c m) s = .next t ∧ t.rd (s.mapAddr
      c.val m).2.1 = s.rd (s.mapAddr c.val m).2.1 ∧ (s.mapBad c.val m = 1 → t.isSet (REIN_CAS_STATUS_REFUSED c.val) =
      true) ∧ ((0x0605, 0) ∉ s.brd.active → t.get BRD_LAST_CODE = 0x0605)) ∧
    (∀ (c : CasNo) (v : Word), s.shelf ≠ stPassive → ∃ t, exec (.casSrcWrite c v) s = .next t ∧ t.rd (REIN_CAS_SRC
      c.val) = s.rd (REIN_CAS_SRC c.val) ∧ (v &&& 0xF17 = s.rd (REIN_CAS_SRC c.val) → t = s) ∧ (v &&& 0xF17 ≠ s.rd
      (REIN_CAS_SRC c.val) → (0x0605, 0) ∉ s.brd.active → t.get BRD_LAST_CODE = 0x0605)) ∧
    (∀ (c : CasNo) (v : Word), s.shelf = stPassive → (fieldGet v 0 3 = 1 ∨ fieldGet v 0 3 = 4) → (List.range 8).any
      (fun d => d != c.val && s.casDest d == fieldGet v 0 3) = true → ∃ t, exec (.casSrcWrite c v) s = .next t ∧ t.rd
      (REIN_CAS_SRC c.val) = s.rd (REIN_CAS_SRC c.val) ∧ ((0x0605, 0) ∉ s.brd.active → t.get BRD_LAST_CODE = 0x0605)) ∧
    (∀ (c : CasNo) (v : Word), s.shelf = stPassive → (fieldGet v 0 3 ≠ 1 ∧ fieldGet v 0 3 ≠ 4 ∨ (List.range 8).any
      (fun d => d != c.val && s.casDest d == fieldGet v 0 3) = false) → ∃ t, exec (.casSrcWrite c v) s = .next t ∧
      t.casDest c.val = (if fieldGet v 0 3 = 7 then s.casDest c.val else fieldGet v 0 3) ∧ t.get
      (REIN_CAS_SRC_MEAS_SEL c.val) = (if 12 ≤ fieldGet v 8 4 then s.get (REIN_CAS_SRC_MEAS_SEL c.val) else fieldGet v
      8 4) ∧ t.get (REIN_CAS_SRC_SP_SRC c.val) = fieldGet v 4 1)

/-- An L1 slot ends the duties of an isolation and of a stop (R197, R511). In PASSIVE it makes the rotating read
alone, whose turn moves on by one of twelve; after an isolation it shows the total of ISO_LIMIT over the rectifiers
not lost and carries the writes that do not fit into the next slot (R55, R197). FAST_ACTIVE reads 1 while headroom is
requested or an absorption runs (R197). CLEAR_FAULTS goes to a rectifier outside PASSIVE alone (R26, R54). A tune
START is refused with CAUSE 10 for a cascade without a destination, in PASSIVE for one that is neither enabled nor
auto-started, and in service for one that does not run; with CAUSE 9 outside these states, without a long enough quiet
window, and, by the model's choice (log 70), while another runs or is pending. In PASSIVE it is pending, in a quiet
window it begins (R208). An abort and the time limit end a running tune with CAUSE 5 and 7, and do nothing without one
(R211). -/
def Obligations.RectifierAndTuneCommands : Prop :=
  ∀ s : State, s.pins.powered = true →
    (∀ (i : L1In), ∃ t, exec (.l1Slot i) s = .next t ∧ t.brd.isoLimitDue = false ∧ t.rein.handover = none) ∧
    (∀ (i : L1In), s.shelf = stPassive → i.alert = none → ∃ t, exec (.l1Slot i) s = .next t ∧ t.rein.rotate = (if
      i.fit = 0 then s.rein.rotate else (s.rein.rotate + 1) % 12) ∧ t.rein.carried = []) ∧
    (∀ (i : L1In), s.shelf ≠ stPassive → s.brd.isoLimitDue = true → s.get REIN_L1_ISO_ISO_LIMIT ≠ 0 → s.rein.carried =
      [] → ∃ t, exec (.l1Slot i) s = .next t ∧ t.rdI REIN_L1_LIMIT = 10 * (s.get REIN_L1_ISO_ISO_LIMIT *
      s.rects.length) ∧ t.rein.carried.length = s.rects.length - i.fit.val) ∧
    ((fieldGet (s.live REIN_L1_STATUS) 1 1 = 1 ↔ s.isSet FCST_STATUS_HR_REQ = true ∨ s.isSet FAB_STATUS_ABSORBING =
      true)) ∧
    (∀ (r : Fin 6), s.shelf = stPassive → exec (.pmbusClearFaults r) s = .next s) ∧
    (∀ (r : Fin 6), s.shelf ≠ stPassive → ∃ t, exec (.pmbusClearFaults r) s = .next t ∧ t.out.head? = some (.pmbus
      (leAt (s.rectRec r.val) 1 1) 0x03 [] (some (pecByte [BitVec.ofNat 8 (2 * leAt (s.rectRec r.val) 1 1), 0x03])))) ∧
    (∀ (c : CasNo), s.casDest c.val = 0 → ∃ t, exec (.tuneStart c) s = .next t ∧ t.get REIN_TUNE_STATUS_STATE = 6 ∧
      t.get REIN_TUNE_STATUS_CAUSE = 10 ∧ t.rein.tune = s.rein.tune ∧ t.rein.tunePending = s.rein.tunePending) ∧
    (∀ (c : CasNo), s.casDest c.val ≠ 0 → (s.rein.tune ≠ none ∨ s.rein.tunePending ≠ none) → ∃ t, exec (.tuneStart c)
      s = .next t ∧ t.get REIN_TUNE_STATUS_STATE = 6 ∧ t.get REIN_TUNE_STATUS_CAUSE = 9 ∧ t.rein.tune = s.rein.tune ∧
      t.rein.tunePending = s.rein.tunePending) ∧
    (∀ (c : CasNo), s.casDest c.val ≠ 0 → s.rein.tune = none → s.rein.tunePending = none → s.shelf = stPassive →
      (s.isSet (REIN_CAS_CTRL_ENABLE c.val) = true ∨ s.isSet (REIN_CAS_CTRL_AUTO_START c.val) = true) → ∃ t, exec
      (.tuneStart c) s = .next t ∧ t.rein.tunePending = some c.val ∧ t.get REIN_TUNE_STATUS_STATE = 1 ∧ t.get
      REIN_TUNE_STATUS_LOOP = c.val) ∧
    (∀ (c : CasNo), s.casDest c.val ≠ 0 → s.rein.tune = none → s.rein.tunePending = none → s.shelf = stPassive →
      s.isSet (REIN_CAS_CTRL_ENABLE c.val) = false → s.isSet (REIN_CAS_CTRL_AUTO_START c.val) = false → ∃ t, exec
      (.tuneStart c) s = .next t ∧ t.get REIN_TUNE_STATUS_STATE = 6 ∧ t.get REIN_TUNE_STATUS_CAUSE = 10 ∧ t.rein.tune
      = s.rein.tune ∧ t.rein.tunePending = s.rein.tunePending) ∧
    (∀ (c : CasNo), s.casDest c.val ≠ 0 → s.rein.tune = none → s.rein.tunePending = none → s.shelf ≠ stPassive →
      s.inService = false → ∃ t, exec (.tuneStart c) s = .next t ∧ t.get REIN_TUNE_STATUS_STATE = 6 ∧ t.get
      REIN_TUNE_STATUS_CAUSE = 9 ∧ t.rein.tune = s.rein.tune ∧ t.rein.tunePending = s.rein.tunePending) ∧
    (∀ (c : CasNo), s.casDest c.val ≠ 0 → s.rein.tune = none → s.rein.tunePending = none → s.inService = true →
      s.casSt c.val ≠ 1 → s.casSt c.val ≠ 2 → ∃ t, exec (.tuneStart c) s = .next t ∧ t.get REIN_TUNE_STATUS_STATE = 6
      ∧ t.get REIN_TUNE_STATUS_CAUSE = 10 ∧ t.rein.tune = s.rein.tune ∧ t.rein.tunePending = s.rein.tunePending) ∧
    (∀ (c : CasNo), s.casDest c.val ≠ 0 → s.rein.tune = none → s.rein.tunePending = none → s.inService = true →
      (s.casSt c.val = 1 ∨ s.casSt c.val = 2) → s.isSet FCST_STATUS_QUIET = true → s.now + s.tuneLimit c.val ≤ s.rd64
      FCST_QUIET_END_LO FCST_QUIET_END_HI → ∃ t, exec (.tuneStart c) s = .next t ∧ (∃ u, t.rein.tune = some u ∧ u.cas
      = c.val ∧ u.start = s.elapsed) ∧ t.get REIN_TUNE_STATUS_STATE = 2 ∧ t.get REIN_TUNE_STATUS_LOOP = c.val ∧
      t.isSet (REIN_CAS_STATUS_TUNING c.val) = true) ∧
    (∀ (c : CasNo), s.casDest c.val ≠ 0 → s.rein.tune = none → s.rein.tunePending = none → s.inService = true →
      (s.casSt c.val = 1 ∨ s.casSt c.val = 2) → (s.isSet FCST_STATUS_QUIET = false ∨ s.rd64 FCST_QUIET_END_LO
      FCST_QUIET_END_HI < s.now + s.tuneLimit c.val) → ∃ t, exec (.tuneStart c) s = .next t ∧ t.get
      REIN_TUNE_STATUS_STATE = 6 ∧ t.get REIN_TUNE_STATUS_CAUSE = 9 ∧ t.rein.tune = s.rein.tune ∧ t.rein.tunePending =
      s.rein.tunePending) ∧
    (∀ (u : Tune), s.rein.tune = some u → ∃ t, exec .tuneAbort s = .next t ∧ t.rein.tune = none ∧ t.get
      REIN_TUNE_STATUS_STATE = 5 ∧ t.get REIN_TUNE_STATUS_CAUSE = 5 ∧ t.isSet REIN_TUNE_STATUS_DONE = true ∧ t.isSet
      (REIN_CAS_STATUS_TUNING u.cas) = false) ∧
    (∀ (u : Tune), s.rein.tune = some u → ∃ t, exec .tuneTimeLimit s = .next t ∧ t.rein.tune = none ∧ t.get
      REIN_TUNE_STATUS_STATE = 5 ∧ t.get REIN_TUNE_STATUS_CAUSE = 7 ∧ t.isSet REIN_TUNE_STATUS_DONE = true ∧ t.isSet
      (REIN_CAS_STATUS_TUNING u.cas) = false) ∧
    (s.rein.tune = none → (∃ t, exec .tuneAbort s = .next t ∧ t.rein = s.rein ∧ t.rd REIN_TUNE_STATUS = s.rd
      REIN_TUNE_STATUS) ∧ exec .tuneTimeLimit s = .next s)

/-! ### Spur, forecast, rings, estimation, journal -/

/-- A valid hint on an enabled lane is counted and sets the Spur wake source, a pair copy too (R123, R218, R240);
while the acknowledge is live and the frame is no pair copy it is answered with its SEQ, counted and shown with its
latency (R219 to R221). STATUS 0 needs version 1, an armed state, a SEQ that is not acknowledged already, an ETA from
10 us to 40.96 ms, a named hint where it replaces one, and a free entry (R222); with MERGE_EN the hint is then in the
table at its step, with another STATUS or without MERGE_EN the table stays (R224, R241). A cancel is answered in the
same way; with STATUS 0 the hint it names is out of the table, otherwise the table stays (R222, R224). A pair copy,
and a frame without a live acknowledge, is counted and no more (R220, R223). On a lane that is off nothing happens. An
invalid frame is counted and sets BAD, or GAP_ERR for a gap (R218); CLR_LAT_MAX returns the greatest latency to 0
(R241). While the commit runs, every step becomes the step in progress of shelf time, and the sample 50 steps ahead is
committed (R228); stopped, it does nothing. A hint whose effect has ended leaves the table, the others stay (R224).
The headroom request is released once neither a clamp nor an excess remains, and not before (R234). A HEAD up to 4,096
steps beyond the commit pointer is taken, one beyond it sets HEAD_REFUSED and an F0 event and the register keeps its
value (R226); QUIET_UNTIL is taken as written, and ends a stream's staleness (R237, R238). A stream that may not write
changes nothing: a model stream while the runtime is stopped, the partition naps or one of its cores is being moved
(R227, R239, R372, R466). After a reload with a LIVE image and every core in order the forecast runs again and 0x0707
clears (R372, R400). -/
def Obligations.SpurAndForecastCommands : Prop :=
  ∀ s : State, s.pins.powered = true →
    (∀ (i : HintIn), s.laneOn i.lane.val = true → s.pairCopy i.lane.val i.seq.toNat = false → s.isSet
      SPUR_STATUS_ACK_LIVE = true → ∃ t, exec (.spurHint i) s = .next t ∧ t.rdN SPUR_LAST_SEQ = i.seq.toNat ∧
      t.fcst.acked.head? = some i.seq.toNat ∧ t.get SPUR_ACK_LAT_LAST = i.lat.val ∧ t.rdN SPUR_ACK_CNT = (s.rdN
      SPUR_ACK_CNT + 1) % 2 ^ 32 ∧ t.get (if i.lane = 0 then SPUR_RX_CNT_L0 else SPUR_RX_CNT_L1) = min (s.get (if
      i.lane = 0 then SPUR_RX_CNT_L0 else SPUR_RX_CNT_L1) + 1) (2 ^ (if i.lane = 0 then SPUR_RX_CNT_L0 else
      SPUR_RX_CNT_L1).w - 1) ∧ t.isSet PWR_WAKE_SRC_SPUR = true ∧ (s.hintStatus i ≠ 0 ∨ s.isSet SPUR_CTRL_MERGE_EN =
      false → t.fcst.hints = s.fcst.hints)) ∧
    (∀ (i : HintIn), s.laneOn i.lane.val = true → s.pairCopy i.lane.val i.seq.toNat = false → s.isSet
      SPUR_STATUS_ACK_LIVE = true → s.hintStatus i = 0 → s.isSet SPUR_CTRL_MERGE_EN = true → ∃ t, exec (.spurHint i) s
      = .next t ∧ ∃ h ∈ t.fcst.hints, h.seq = i.seq.toNat ∧ h.kh = (s.now + i.eta.toNat) / 1000 ∧ h.falls = i.falls) ∧
    (∀ (i : HintIn), s.hintStatus i = 0 ↔ i.ver.val = 1 ∧ s.armedStates = true ∧ i.seq.toNat ∉ s.fcst.acked ∧ 1000 ≤
      i.eta.toNat ∧ i.eta.toNat ≤ 4096000 ∧ (i.replace = true → s.hintByRef i.ref.toNat ≠ none) ∧ s.fcst.hints.length
      < 32) ∧
    (∀ (i : HintIn), s.laneOn i.lane.val = true → (s.pairCopy i.lane.val i.seq.toNat = true ∨ s.isSet
      SPUR_STATUS_ACK_LIVE = false) → ∃ t, exec (.spurHint i) s = .next t ∧ t.fcst.hints = s.fcst.hints ∧ t.fcst.acked
      = s.fcst.acked ∧ t.rd SPUR_LAST_SEQ = s.rd SPUR_LAST_SEQ ∧ t.rd SPUR_ACK_CNT = s.rd SPUR_ACK_CNT ∧ t.get (if
      i.lane = 0 then SPUR_RX_CNT_L0 else SPUR_RX_CNT_L1) = min (s.get (if i.lane = 0 then SPUR_RX_CNT_L0 else
      SPUR_RX_CNT_L1) + 1) (2 ^ (if i.lane = 0 then SPUR_RX_CNT_L0 else SPUR_RX_CNT_L1).w - 1) ∧ t.isSet
      PWR_WAKE_SRC_SPUR = true) ∧
    (∀ (i : HintIn), s.laneOn i.lane.val = false → exec (.spurHint i) s = .next s) ∧
    (∀ (i : CancelIn), s.laneOn i.lane.val = true → s.pairCopy i.lane.val i.seq.toNat = false → s.isSet
      SPUR_STATUS_ACK_LIVE = true → ∃ t, exec (.spurCancel i) s = .next t ∧ t.rdN SPUR_LAST_SEQ = i.seq.toNat ∧
      t.fcst.acked.head? = some i.seq.toNat ∧ t.get SPUR_ACK_LAT_LAST = i.lat.val ∧ t.rdN SPUR_ACK_CNT = (s.rdN
      SPUR_ACK_CNT + 1) % 2 ^ 32 ∧ t.get (if i.lane = 0 then SPUR_RX_CNT_L0 else SPUR_RX_CNT_L1) = min (s.get (if
      i.lane = 0 then SPUR_RX_CNT_L0 else SPUR_RX_CNT_L1) + 1) (2 ^ (if i.lane = 0 then SPUR_RX_CNT_L0 else
      SPUR_RX_CNT_L1).w - 1) ∧ (s.cancelStatus i ≠ 0 → t.fcst.hints = s.fcst.hints)) ∧
    (∀ (i : CancelIn) (g : Hint), s.laneOn i.lane.val = true → s.pairCopy i.lane.val i.seq.toNat = false → s.isSet
      SPUR_STATUS_ACK_LIVE = true → s.cancelStatus i = 0 → s.hintByRef i.ref.toNat = some g → ∃ t, exec (.spurCancel
      i) s = .next t ∧ t.fcst.hints = s.fcst.hints.filter (·.slot != g.slot)) ∧
    (∀ (i : CancelIn), s.laneOn i.lane.val = true → (s.pairCopy i.lane.val i.seq.toNat = true ∨ s.isSet
      SPUR_STATUS_ACK_LIVE = false) → ∃ t, exec (.spurCancel i) s = .next t ∧ t.fcst.hints = s.fcst.hints ∧
      t.fcst.acked = s.fcst.acked ∧ t.rd SPUR_LAST_SEQ = s.rd SPUR_LAST_SEQ ∧ t.rd SPUR_ACK_CNT = s.rd SPUR_ACK_CNT ∧
      t.get (if i.lane = 0 then SPUR_RX_CNT_L0 else SPUR_RX_CNT_L1) = min (s.get (if i.lane = 0 then SPUR_RX_CNT_L0
      else SPUR_RX_CNT_L1) + 1) (2 ^ (if i.lane = 0 then SPUR_RX_CNT_L0 else SPUR_RX_CNT_L1).w - 1)) ∧
    (∀ (i : CancelIn), s.laneOn i.lane.val = false → exec (.spurCancel i) s = .next s) ∧
    (∀ (lane : Fin 2) (gap : Bool), s.laneOn lane.val = true → ∃ t, exec (.spurInvalidFrame lane gap) s = .next t ∧
      t.get (if lane = 0 then SPUR_BAD_CNT_L0 else SPUR_BAD_CNT_L1) = min (s.get (if lane = 0 then SPUR_BAD_CNT_L0
      else SPUR_BAD_CNT_L1) + 1) (2 ^ (if lane = 0 then SPUR_BAD_CNT_L0 else SPUR_BAD_CNT_L1).w - 1) ∧ t.isSet (if gap
      then SPUR_STATUS_GAP_ERR else SPUR_STATUS_BAD) = true ∧ t.fcst = s.fcst) ∧
    (∀ (lane : Fin 2) (gap : Bool), s.laneOn lane.val = false → exec (.spurInvalidFrame lane gap) s = .next s) ∧
    (exec .clrLatMax s = .next (s.set SPUR_ACK_LAT_MAX 0)) ∧
    (s.fcst.running = false → exec .commitStep s = .next s) ∧
    (s.fcst.running = true → ∃ t, exec .commitStep s = .next t ∧ t.fcst.step = s.now / 1000 ∧ t.fcst.curN = 0 ∧
      t.fcst.running = true ∧ (∃ p ∈ t.fcst.window, p.step = s.now / 1000 + 50)) ∧
    (∀ (i : Fin 32), ∃ t, exec (.hintExpiry i) s = .next t ∧ t.regs = s.regs ∧ ∀ h ∈ s.fcst.hints, (h ∈ t.fcst.hints ↔
      ¬ (h.slot = i.val ∧ h.stop ≤ s.now / 1000))) ∧
    (s.hrExcess = false → ∃ t, exec .hrRelease s = .next t ∧ t.isSet FCST_STATUS_HR_REQ = false) ∧
    (s.hrExcess = true → exec .hrRelease s = .next s) ∧
    (∀ (x : Fin 16) (lo : Word), s.streamMute x.val = false → s.fcst.heads.length = 16 → lo.toNat + 2 ^ 32 * s.rdN
      (FCST_STR_HEAD_HI x.val) ≤ (if s.fcst.running then s.pointer else s.now / 1000 + 50) + 4096 → ∃ t, exec
      (.headStepWrite x lo) s = .next t ∧ t.rd (FCST_STR_HEAD_LO x.val) = lo ∧ t.fcst.heads.getD x.val 0 = lo.toNat +
      2 ^ 32 * s.rdN (FCST_STR_HEAD_HI x.val)) ∧
    (∀ (x : Fin 16) (lo : Word), s.streamMute x.val = false → (if s.fcst.running then s.pointer else s.now / 1000 +
      50) + 4096 < lo.toNat + 2 ^ 32 * s.rdN (FCST_STR_HEAD_HI x.val) → ∃ t, exec (.headStepWrite x lo) s = .next t ∧
      t.isSet (FCST_STR_STATUS_HEAD_REFUSED x.val) = true ∧ t.rd (FCST_STR_HEAD_LO x.val) = s.rd (FCST_STR_HEAD_LO
      x.val) ∧ t.fcst.heads = s.fcst.heads ∧ ((0x0605, 0) ∉ s.brd.active → t.get BRD_LAST_CODE = 0x0605)) ∧
    (∀ (x : Fin 16) (v : Word64), s.streamMute x.val = false → ∃ t, exec (.quietUntilWrite x v) s = .next t ∧ t.rd64
      (FCST_STR_QUIET_LO x.val) (FCST_STR_QUIET_HI x.val) = v.toNat ∧ x.val ∉ t.fcst.stale) ∧
    (∀ (x : Fin 16) (lo : Word) (v : Word64), s.streamMute x.val = true → exec (.headStepWrite x lo) s = .next s ∧
      exec (.quietUntilWrite x v) s = .next s) ∧
    (s.canTrain = true → s.lks.train.live.present = true → (List.range 16).any (fun c => s.coreSt 0 c == cFailed) =
      false → ∃ t, exec .forecastReloadComplete s = .next t ∧ t.fcst.model = true ∧ t.lks.train.reload = false ∧
      (0x0707, 0) ∉ t.brd.active) ∧
    ((s.canTrain = false ∨ s.lks.train.live.present = false ∨ (List.range 16).any (fun c => s.coreSt 0 c == cFailed) =
      true) → exec .forecastReloadComplete s = .next s)

/-- SWEEP_START moves the module's heartbeat unless firmware has let it freeze (R251); a ring that is enumerated, or
in its start-up average, and clocked takes the time and its string voltage, or counts a skipped sweep while held
samples are read or the PLLs relock (R257, R258, R264, R506). Another ring is not swept: its sweep brings nothing. A
sweep of an intact ring without a break, and one of a ring in SPLIT, is taken: SEQ moves by one, and TIME is 1 us
after its start (R258); a break in it starts a read of the held samples, a break before it makes the ring SPLIT and
shows the hop, and so does the end of the read (R263 to R265); the eighth frame without a break makes it intact again
(R263). ENUM starts in PASSIVE and ISOLATED and sets REFUSED elsewhere; a counter of 4 leads to verification, verified
records to the start-up average with every monitor present, and a wrong counter, a failed check and a missing frame to
ENUM 6 with its cause, which ends an attempt at arming in its third step with ERR_CODE 0x22 (R91, R254, R255).
RING_HB_KICK notes the time (R251). -/
def Obligations.RingSweepCommands : Prop :=
  ∀ s : State, s.pins.powered = true →
    (∀ (a b : Nat), s.swept 0 = false → s.swept 1 = false → ∃ t, exec (.sweepStart a b) s = .next t ∧ t.ring.moved =
      !s.mhbFrozen ∧ t.ring.mhb = (if s.mhbFrozen then s.ring.mhb else (s.ring.mhb + 1) % 256) ∧ t.regs = s.regs ∧
      t.out = s.out) ∧
    (∀ (a b : Nat) (x : StrNo), s.ring.strs.length = 2 → s.swept x.val = true → (s.rs x.val).readHeld = false →
      s.relock = false → ∃ t, exec (.sweepStart a b) s = .next t ∧ (t.rs x.val).t0 = s.now ∧ (t.rs x.val).vstr = (if x
      = 0 then a else b) ∧ (t.rs x.val).cmdsDue = (!(s.rs x.val).split) ∧ t.ring.mhb = (if s.mhbFrozen then s.ring.mhb
      else (s.ring.mhb + 1) % 256)) ∧
    (∀ (a b : Nat) (x : StrNo), s.ring.strs.length = 2 → s.swept x.val = true → ((s.rs x.val).readHeld = true ∨
      s.relock = true) → ∃ t, exec (.sweepStart a b) s = .next t ∧ (t.rs x.val).t0 = (s.rs x.val).t0 ∧ t.isSet
      (RING_EVT_SKIPPED x.val) = true ∧ t.get (RING_ERR_CNT_SKIPPED x.val) = min (s.get (RING_ERR_CNT_SKIPPED x.val) +
      1) (2 ^ (RING_ERR_CNT_SKIPPED x.val).w - 1)) ∧
    (∀ (x : StrNo) (i : SweepIn), s.swept x.val = false → exec (.sweepComplete x i) s = .next s ∧ exec (.breakDetect x
      i) s = .next s) ∧
    (∀ (x : StrNo) (i : SweepIn), (s.rs x.val).split = true → exec (.breakDetect x i) s = .next s) ∧
    (∀ (x : StrNo) (i : SweepIn), s.swept x.val = true → (s.rs x.val).split = false → (readSweep (s.rs x.val).linkUp
      i).broken = false → ∃ t, exec (.sweepComplete x i) s = .next t ∧ t.rd (RING_SEQ x.val) = s.rd (RING_SEQ x.val) +
      1 ∧ t.rd64 (RING_TIME_LO x.val) (RING_TIME_HI x.val) = ((s.rs x.val).t0 + 100) % 2 ^ 64) ∧
    (∀ (x : StrNo) (i : SweepIn), s.ring.strs.length = 2 → s.swept x.val = true → (s.rs x.val).split = false →
      (readSweep (s.rs x.val).linkUp i).broken = true → ∃ t, exec (.sweepComplete x i) s = .next t ∧ (t.rs
      x.val).readHeld = true ∧ t.rd (RING_SEQ x.val) = s.rd (RING_SEQ x.val) ∧ t.get (RING_STATUS_TOPO x.val) = s.get
      (RING_STATUS_TOPO x.val)) ∧
    (∀ (x : StrNo) (i : SweepIn), s.ring.strs.length = 2 → s.swept x.val = true → (s.rs x.val).split = true → ∃ t,
      exec (.sweepComplete x i) s = .next t ∧ t.rd (RING_SEQ x.val) = s.rd (RING_SEQ x.val) + 1 ∧ t.rd64 (RING_TIME_LO
      x.val) (RING_TIME_HI x.val) = ((s.rs x.val).t0 + 100) % 2 ^ 64 ∧ ((readSweep (s.rs x.val).linkUp i).broken =
      false → 7 ≤ (s.rs x.val).intact → (t.rs x.val).split = false ∧ t.get (RING_STATUS_BREAK_HOP x.val) = 7)) ∧
    (∀ (x : StrNo) (i : SweepIn), s.ring.strs.length = 2 → s.swept x.val = true → (s.rs x.val).split = false → ∃ t,
      exec (.breakDetect x i) s = .next t ∧ (t.rs x.val).split = true ∧ (t.rs x.val).cmdsDue = false ∧ (s.get
      (RING_STATUS_TOPO x.val) = 0 → t.get (RING_STATUS_TOPO x.val) = 1 ∨ t.get (RING_STATUS_TOPO x.val) = 2) ∧ t.get
      (RING_STATUS_BREAK_HOP x.val) = (breakHop i).getD 7 ∧ t.rd (RING_SEQ x.val) = s.rd (RING_SEQ x.val) + 1 ∧ t.rd64
      (RING_TIME_LO x.val) (RING_TIME_HI x.val) = ((s.rs x.val).t0 + 100) % 2 ^ 64) ∧
    (∀ (x : StrNo) (i : SweepIn), s.ring.strs.length = 2 → (s.rs x.val).readHeld = true → ∃ t, exec (.readHeldComplete
      x i) s = .next t ∧ (t.rs x.val).readHeld = false ∧ (t.rs x.val).split = true ∧ t.get (RING_STATUS_BREAK_HOP
      x.val) = (breakHop i).getD 7 ∧ t.get (RING_SKEW_TICKS x.val) = 0 ∧ t.rd (RING_SEQ x.val) = s.rd (RING_SEQ x.val)
      + 1 ∧ t.rd64 (RING_TIME_LO x.val) (RING_TIME_HI x.val) = ((s.rs x.val).t0 + 100) % 2 ^ 64) ∧
    (∀ (x : StrNo) (i : SweepIn), (s.rs x.val).readHeld = false → exec (.readHeldComplete x i) s = .next s) ∧
    (exec .ringHbKick s = .next { s with ring := { s.ring with kick := some s.elapsed } }) ∧
    (∀ (x : StrNo), (s.shelf = stPassive ∨ s.shelf = stIsolated) → ∃ t, exec (.enum x) s = .next t ∧ t.get
      (RING_STATUS_ENUM x.val) = 2) ∧
    (∀ (x : StrNo), s.shelf ≠ stPassive → s.shelf ≠ stIsolated → ∃ t, exec (.enum x) s = .next t ∧ t.get
      (RING_STATUS_ENUM x.val) = s.get (RING_STATUS_ENUM x.val) ∧ t.isSet (RING_EVT_REFUSED x.val) = true) ∧
    (∀ (x : StrNo) (l : List EnumRec), s.get (RING_STATUS_ENUM x.val) = 2 → ∃ t, exec (.enumAssignReturn x 4 l) s =
      .next t ∧ t.get (RING_STATUS_ENUM x.val) = 3 ∧ (s.ring.strs.length = 2 → (t.rs x.val).assign = l)) ∧
    (∀ (x : StrNo) (k : Fin 256) (l : List EnumRec), s.get (RING_STATUS_ENUM x.val) = 2 → k.val ≠ 4 → ∃ t, exec
      (.enumAssignReturn x k l) s = .next t ∧ t.get (RING_STATUS_ENUM x.val) = 6 ∧ t.get (RING_STATUS_FAIL_CAUSE
      x.val) = 1 ∧ t.isSet (RING_EVT_ENUM_FAIL x.val) = true ∧ (s.shelf = stArming → s.boot.armStep = 3 → t.shelf =
      stPassive ∧ t.get BOOT_STATUS_ERR_CODE = 0x22 ∧ t.rdN BOOT_ERR_INFO = x.val + 1)) ∧
    (∀ (x : StrNo) (k : Fin 256) (l : List EnumRec), s.get (RING_STATUS_ENUM x.val) ≠ 2 → exec (.enumAssignReturn x k
      l) s = .next s) ∧
    (∀ (x : StrNo) (l : List EnumRec), s.get (RING_STATUS_ENUM x.val) = 3 → verifyCause (s.rs x.val).assign l = 0 → ∃
      t, exec (.enumVerifyReturn x l) s = .next t ∧ t.get (RING_STATUS_ENUM x.val) = 4 ∧ t.rd (RING_SEQ x.val) = 0 ∧ ∀
      m : Fin 4, t.monSt x.val m.val = 1) ∧
    (∀ (x : StrNo) (l : List EnumRec), s.get (RING_STATUS_ENUM x.val) = 3 → verifyCause (s.rs x.val).assign l ≠ 0 → ∃
      t, exec (.enumVerifyReturn x l) s = .next t ∧ t.get (RING_STATUS_ENUM x.val) = 6 ∧ t.get (RING_STATUS_FAIL_CAUSE
      x.val) = verifyCause (s.rs x.val).assign l ∧ t.isSet (RING_EVT_ENUM_FAIL x.val) = true ∧ (s.shelf = stArming →
      s.boot.armStep = 3 → t.shelf = stPassive ∧ t.get BOOT_STATUS_ERR_CODE = 0x22 ∧ t.rdN BOOT_ERR_INFO = x.val + 1)) ∧
    (∀ (x : StrNo) (l : List EnumRec), s.get (RING_STATUS_ENUM x.val) ≠ 3 → exec (.enumVerifyReturn x l) s = .next s) ∧
    (∀ (x : StrNo), (s.get (RING_STATUS_ENUM x.val) = 2 ∨ s.get (RING_STATUS_ENUM x.val) = 3) → ∃ t, exec
      (.enumFrameTimeout x) s = .next t ∧ t.get (RING_STATUS_ENUM x.val) = 6 ∧ t.get (RING_STATUS_FAIL_CAUSE x.val) =
      4 ∧ t.isSet (RING_EVT_ENUM_FAIL x.val) = true ∧ (s.shelf = stArming → s.boot.armStep = 3 → t.shelf = stPassive ∧
      t.get BOOT_STATUS_ERR_CODE = 0x22 ∧ t.rdN BOOT_ERR_INFO = x.val + 1)) ∧
    (∀ (x : StrNo), s.get (RING_STATUS_ENUM x.val) ≠ 2 → s.get (RING_STATUS_ENUM x.val) ≠ 3 → exec (.enumFrameTimeout
      x) s = .next s)

/-- A balance command that meets its checks is queued in place of an earlier one for its position; one that does not
sets REFUSED and its cause and the queue stays (R272, R273). BAL_EN at 0 queues an OFF for every position that
balances (R276). An open-wire test of an inner wire of an enumerated ring waits for its turn; one of a ring that is
not, or of another wire, is recorded and nothing waits, and a bad WIRE keeps the field (R175, R269, R276); the
automatic test takes the next of the 48 inner wires while OW_AUTO is 1 on an enumerated ring (R269). A CORNER write is
kept, broadcast as CONFIG and pauses the candidate checks of both rings for 25 ms (R260). A swap is refused with CAUSE
3 where it may not start, starts with both positions out of their roles where it may, and a request during one changes
nothing; the switches open at the sweep after the BYPASS frame, a wait without its frame fails with CAUSE 1, and the
switches' closing verifies the swap or ends a reversed one with CAUSE 2; a failed one gives both positions their roles
back (R274). -/
def Obligations.RingCommandCommands : Prop :=
  ∀ s : State, s.pins.powered = true →
    (∀ (v : Word), s.ring.strs.length = 2 → s.balCause (fieldGet v 31 1) (fieldGet v 25 6) (fieldGet v 23 2) (fieldGet
      v 18 5) (fieldGet v 8 10) = 0 → ∃ t, exec (.balCmd v) s = .next t ∧ (t.rs (fieldGet v 31 1)).queue = (s.rs
      (fieldGet v 31 1)).queue.filter (·.pos != fieldGet v 25 6) ++ [⟨fieldGet v 25 6, fieldGet v 23 2, fieldGet v 18
      5, fieldGet v 8 10⟩]) ∧
    (∀ (v : Word), s.balCause (fieldGet v 31 1) (fieldGet v 25 6) (fieldGet v 23 2) (fieldGet v 18 5) (fieldGet v 8
      10) ≠ 0 → ∃ t, exec (.balCmd v) s = .next t ∧ t.isSet RING_BAL_STATUS_REFUSED = true ∧ t.get
      RING_BAL_STATUS_CAUSE = s.balCause (fieldGet v 31 1) (fieldGet v 25 6) (fieldGet v 23 2) (fieldGet v 18 5)
      (fieldGet v 8 10) ∧ (t.rs (fieldGet v 31 1)).queue = (s.rs (fieldGet v 31 1)).queue) ∧
    (∀ (x : StrNo) (p : Fin 52), s.ring.strs.length = 2 → ∃ t, exec .balDisable s = .next t ∧ t.isSet RING_CTRL_BAL_EN
      = false ∧ ((s.liveLeases x.val).any (·.pos == p.val) = true → (t.rs x.val).queue.any (fun e => e.pos == p.val &&
      e.mode == 0) = true)) ∧
    (∀ (x : StrNo) (m : Fin 4) (k : Fin 16), 1 ≤ k.val → k.val ≤ 12 → s.ringDone x.val = true → s.ring.strs.length = 2
      → ∃ t, exec (.openWireStart x m k) s = .next t ∧ (t.rs x.val).waiting = (s.rs x.val).waiting ++ [OwReq.mk m.val
      k.val 1] ∧ t.get RING_OW_CTRL_WIRE = k.val ∧ t.isSet RING_OW_CTRL_START = false) ∧
    (∀ (x : StrNo) (m : Fin 4) (k : Fin 16), (k.val = 0 ∨ 12 < k.val ∨ s.ringDone x.val = false) → ∃ t, exec
      (.openWireStart x m k) s = .next t ∧ (t.rs x.val).waiting = (s.rs x.val).waiting ∧ ((k.val = 0 ∨ 12 < k.val) →
      t.get RING_OW_CTRL_WIRE = s.get RING_OW_CTRL_WIRE) ∧ ((0x0605, 0) ∉ s.brd.active → t.get BRD_LAST_CODE = 0x0605)) ∧
    (∀ (x : StrNo), s.isSet RING_CTRL_OW_AUTO = true → s.ringDone x.val = true → s.ring.strs.length = 2 → ∃ t, exec
      (.openWireAuto x) s = .next t ∧ (t.rs x.val).autoNext = ((s.rs x.val).autoNext + 1) % 48 ∧ (t.rs x.val).waiting
      = (s.rs x.val).waiting ++ [OwReq.mk ((s.rs x.val).autoNext / 12) ((s.rs x.val).autoNext % 12 + 1) 2]) ∧
    (∀ (x : StrNo), (s.isSet RING_CTRL_OW_AUTO = false ∨ s.ringDone x.val = false) → exec (.openWireAuto x) s = .next
      s) ∧
    (∀ (v : Fin 8) (x : StrNo), s.ring.strs.length = 2 → ∃ t, exec (.cornerWrite v) s = .next t ∧ t.get
      RING_CFG_CORNER = v.val ∧ (t.rs x.val).pauseEnd = s.elapsed + 25 * tickMs ∧ (t.rs x.val).frames.getLast? = some
      (0x30 + 256 * 0xFF, leBytes 1 v.val ++ zeros 2)) ∧
    (∀ (x : StrNo) (i o : Fin 52), s.swapping x.val = true → exec (.swapRequest x i o) s = .next s) ∧
    (∀ (x : StrNo) (i o : Fin 52), s.swapping x.val = false → s.swapOk x.val i.val o.val = false → ∃ t, exec
      (.swapRequest x i o) s = .next t ∧ t.get (RING_SWAP_STATE x.val) = 6 ∧ t.get (RING_SWAP_CAUSE x.val) = 3 ∧ ∀ p :
      Fin 52, t.cellRole x.val p.val = s.cellRole x.val p.val) ∧
    (∀ (x : StrNo) (i o : Fin 52), (s.rs x.val).role.length = 52 → s.ring.strs.length = 2 → s.swapping x.val = false →
      s.swapOk x.val i.val o.val = true → ∃ t, exec (.swapRequest x i o) s = .next t ∧ t.get (RING_SWAP_STATE x.val) =
      1 ∧ t.get (RING_SWAP_POS_IN x.val) = i.val ∧ t.get (RING_SWAP_POS_OUT x.val) = o.val ∧ t.get (RING_SWAP_CAUSE
      x.val) = 0 ∧ t.cellRole x.val i.val = 3 ∧ t.cellRole x.val o.val = 3 ∧ (t.rs x.val).swapSent = none) ∧
    (∀ (x : StrNo) (k : Nat), s.ring.strs.length = 2 → s.get (RING_SWAP_STATE x.val) = 1 → (s.rs x.val).swapSent =
      some k → k < (s.rs x.val).t0 → ∃ t, exec (.swapBreak x) s = .next t ∧ t.get (RING_SWAP_STATE x.val) = 2 ∧ (t.rs
      x.val).swapAt = (s.rs x.val).t0 ∧ (t.rs x.val).swapN = 0) ∧
    (∀ (x : StrNo), (s.get (RING_SWAP_STATE x.val) ≠ 1 ∨ s.rs x.val = { s.rs x.val with swapSent := none } ∨ (s.rs
      x.val).t0 ≤ (s.rs x.val).swapSent.getD 0) → exec (.swapBreak x) s = .next s) ∧
    (∀ (x : StrNo), (s.rs x.val).role.length = 52 → s.ring.strs.length = 2 → s.get (RING_SWAP_STATE x.val) = 1 → (s.rs
      x.val).swapSent = none → (s.rs x.val).swapBack = false → ∃ t, exec (.swapWaitTimeout x) s = .next t ∧ t.get
      (RING_SWAP_STATE x.val) = 6 ∧ t.get (RING_SWAP_CAUSE x.val) = 1 ∧ t.isSet (RING_EVT_SWAP_FAIL x.val) = true ∧
      (s.get (RING_SWAP_POS_IN x.val) < 52 → s.get (RING_SWAP_POS_OUT x.val) < 52 → s.get (RING_SWAP_POS_IN x.val) ≠
      s.get (RING_SWAP_POS_OUT x.val) → t.cellRole x.val (s.get (RING_SWAP_POS_IN x.val)) = 1 ∧ t.cellRole x.val
      (s.get (RING_SWAP_POS_OUT x.val)) = 0)) ∧
    (∀ (x : StrNo), (s.get (RING_SWAP_STATE x.val) ≠ 1 ∨ (s.rs x.val).swapSent ≠ none ∨ (s.rs x.val).swapBack = true)
      → exec (.swapWaitTimeout x) s = .next s) ∧
    (∀ (x : StrNo), s.get (RING_SWAP_STATE x.val) = 2 → (s.rs x.val).swapBack = false → exec (.swapMake x) s = .next
      (s.set (RING_SWAP_STATE x.val) 3)) ∧
    (∀ (x : StrNo), (s.rs x.val).role.length = 52 → s.ring.strs.length = 2 → s.get (RING_SWAP_STATE x.val) = 2 → (s.rs
      x.val).swapBack = true → ∃ t, exec (.swapMake x) s = .next t ∧ t.get (RING_SWAP_STATE x.val) = 6 ∧ t.get
      (RING_SWAP_CAUSE x.val) = 2 ∧ t.isSet (RING_EVT_SWAP_FAIL x.val) = true ∧ (s.get (RING_SWAP_POS_IN x.val) < 52 →
      s.get (RING_SWAP_POS_OUT x.val) < 52 → s.get (RING_SWAP_POS_IN x.val) ≠ s.get (RING_SWAP_POS_OUT x.val) →
      t.cellRole x.val (s.get (RING_SWAP_POS_IN x.val)) = 1 ∧ t.cellRole x.val (s.get (RING_SWAP_POS_OUT x.val)) = 0)) ∧
    (∀ (x : StrNo), s.get (RING_SWAP_STATE x.val) ≠ 2 → exec (.swapMake x) s = .next s)

/-- The estimator runs on the sweep of an enumerated ring that is not lost: RUN and the sweep's SEQ show; otherwise
RUN is 0 and the estimates stay (R278). With REST_EN and no rest in progress the first due string starts its rest
where it can, FORCE_SHED on its channels in service, and counts as skipped where it cannot; otherwise the registers
stay (R289, R290). REST_NOW makes the string with the older reference due (R289). A current within 2 A for 1 ms leads
from the shed to the rest, the averaging starts afresh in it, and its reference sets DONE and the string's REF and
ends the holds (R290, R292). A shed that lasts, and each cause of R291 that shows, aborts it with ABORT and its cause
and ends the holds; where the step does not apply nothing changes. A trigger of the journal, the periodic one while a
string is enumerated and WRITE_NOW, starts the write of an entry that holds its cause where the writer is free, and
waits as pending where it is not; past the write fence it counts as lost (R295, R296, R299). A completed write puts
the entry into the next slot of MRAM and shows its slot and generation; a mismatch sets VERIFY_ERR and the next slot
is taken, or the entry is lost past the fence (R296, R299). Without a write in progress nothing completes. EFC is
written in PASSIVE, and elsewhere keeps its value, with an F0 event where the value differs (R17, R298). -/
def Obligations.EstimationAndJournalCommands : Prop :=
  ∀ s : State, s.pins.powered = true →
    (∀ (x : StrNo), s.est.strs.length = 2 → s.get (RING_STATUS_ENUM x.val) = 5 → s.get (RING_STATUS_TOPO x.val) ≠ 2 →
      ∃ t, exec (.estimatorRun x) s = .next t ∧ t.isSet (EST_STR_STATUS_RUN x.val) = true ∧ t.get (if x = 0 then
      EST_SEQ_A else EST_SEQ_B) = s.rdN (RING_SEQ x.val) ∧ (t.es x.val).lastT0 = some (s.rs x.val).t0 ∧ (t.es
      x.val).charge = 0) ∧
    (∀ (x : StrNo), (s.get (RING_STATUS_ENUM x.val) ≠ 5 ∨ s.get (RING_STATUS_TOPO x.val) = 2) → exec (.estimatorRun x)
      s = .next (s.clear (EST_STR_STATUS_RUN x.val))) ∧
    (∀ (x : StrNo), s.isSet EST_CTRL_REST_EN = true → s.get EST_REST_STATUS_STATE ≠ 1 → s.get EST_REST_STATUS_STATE ≠
      2 → (List.range 2).find? s.restDue = some x.val → s.canRest x.val = true → ∃ t, exec .restCheck s = .next t ∧
      t.get EST_REST_STATUS_STATE = 1 ∧ t.get EST_REST_STATUS_STRING = x.val ∧ t.est.rest = some x.val ∧ ∀ n ∈
      stringChans x.val, s.get (HRN_CH_CTRL_ROLE n) = 1 → t.isSet (HRN_CH_CTRL_FORCE_SHED n) = true) ∧
    (∀ (x : StrNo), s.isSet EST_CTRL_REST_EN = true → s.get EST_REST_STATUS_STATE ≠ 1 → s.get EST_REST_STATUS_STATE ≠
      2 → (List.range 2).find? s.restDue = some x.val → s.canRest x.val = false → ∃ t, exec .restCheck s = .next t ∧
      t.get EST_REST_STATUS_STATE = s.get EST_REST_STATUS_STATE ∧ t.get EST_REST_STATUS_SKIPPED = min (s.get
      EST_REST_STATUS_SKIPPED + 1) (2 ^ EST_REST_STATUS_SKIPPED.w - 1)) ∧
    ((s.isSet EST_CTRL_REST_EN = false ∨ s.get EST_REST_STATUS_STATE = 1 ∨ s.get EST_REST_STATUS_STATE = 2 ∨
      (List.range 2).find? s.restDue = none) → ∃ t, exec .restCheck s = .next t ∧ t.regs = s.regs ∧ t.est.rest =
      s.est.rest) ∧
    (∃ t, exec .restNow s = .next t ∧ t.est.dueNow = some (if (s.es 1).ref < (s.es 0).ref then 1 else 0) ∧ t.isSet
      EST_CTRL_REST_NOW = false) ∧
    (s.get EST_REST_STATUS_STATE = 1 → s.restCalm (s.get EST_REST_STATUS_STRING) = true → ∃ t, exec .restShedComplete
      s = .next t ∧ t.get EST_REST_STATUS_STATE = 2 ∧ t.isSet (EST_STR_STATUS_RESTING (s.get EST_REST_STATUS_STRING))
      = true) ∧
    ((s.get EST_REST_STATUS_STATE ≠ 1 ∨ s.restCalm (s.get EST_REST_STATUS_STRING) = false) → exec .restShedComplete s
      = .next s) ∧
    (s.get EST_REST_STATUS_STATE = 1 → ∃ t, exec .restShedTimeout s = .next t ∧ t.get EST_REST_STATUS_STATE = 4 ∧
      t.get EST_REST_STATUS_CAUSE = 4 ∧ t.isSet EST_REST_STATUS_ABORT = true ∧ t.est.rest = none ∧ t.est.held = [] ∧
      t.est.averaging = false ∧ (s.get EST_REST_STATUS_STRING ∉ s.brd.strOut → ∀ n ∈ stringChans (s.get
      EST_REST_STATUS_STRING), t.isSet (HRN_CH_CTRL_FORCE_SHED n) = false)) ∧
    (s.get EST_REST_STATUS_STATE ≠ 1 → exec .restShedTimeout s = .next s) ∧
    (s.est.strs.length = 2 → s.get EST_REST_STATUS_STATE = 2 → ∃ t, exec .restAverageStart s = .next t ∧
      t.est.averaging = true ∧ t.regs = s.regs ∧ (t.es (s.get EST_REST_STATUS_STRING)).restN = List.replicate 52 0) ∧
    (s.get EST_REST_STATUS_STATE ≠ 2 → exec .restAverageStart s = .next s ∧ exec .restReference s = .next s) ∧
    (s.est.strs.length = 2 → s.get EST_REST_STATUS_STATE = 2 → ∃ t, exec .restReference s = .next t ∧ t.get
      EST_REST_STATUS_STATE = 3 ∧ t.isSet EST_REST_STATUS_DONE = true ∧ (t.es (s.get EST_REST_STATUS_STRING)).ref =
      s.opsec ∧ t.est.rest = none ∧ t.est.held = [] ∧ t.est.averaging = false ∧ (s.get EST_REST_STATUS_STRING ∉
      s.brd.strOut → ∀ n ∈ stringChans (s.get EST_REST_STATUS_STRING), t.isSet (HRN_CH_CTRL_FORCE_SHED n) = false)) ∧
    ((s.get EST_REST_STATUS_STATE = 1 ∨ s.get EST_REST_STATUS_STATE = 2) → s.restCause ≠ 0 → ∃ t, exec .restAbort s =
      .next t ∧ t.get EST_REST_STATUS_STATE = 4 ∧ t.get EST_REST_STATUS_CAUSE = s.restCause ∧ t.isSet
      EST_REST_STATUS_ABORT = true ∧ t.est.rest = none ∧ t.est.held = [] ∧ t.est.averaging = false ∧ (s.get
      EST_REST_STATUS_STRING ∉ s.brd.strOut → ∀ n ∈ stringChans (s.get EST_REST_STATUS_STRING), t.isSet
      (HRN_CH_CTRL_FORCE_SHED n) = false)) ∧
    ((s.get EST_REST_STATUS_STATE ≠ 1 ∧ s.get EST_REST_STATUS_STATE ≠ 2 ∨ s.restCause = 0) → exec .restAbort s = .next
      s) ∧
    (s.fenced = false → s.isSet EST_JNL_STATUS_BUSY = false → s.hrn.lfrQ = [] → (s.get (RING_STATUS_ENUM 0) = 5 ∨
      s.get (RING_STATUS_ENUM 1) = 5) → ∃ t, exec .journalPeriodic s = .next t ∧ t.isSet EST_JNL_STATUS_BUSY = true ∧
      t.isSet EST_JNL_STATUS_PENDING = false ∧ t.est.snap.length = 512 ∧ bitOf (leAt t.est.snap 0x1C 1) 0 = true) ∧
    (s.fenced = false → (s.isSet EST_JNL_STATUS_BUSY = true ∨ s.hrn.lfrQ ≠ []) → (s.get (RING_STATUS_ENUM 0) = 5 ∨
      s.get (RING_STATUS_ENUM 1) = 5) → ∃ t, exec .journalPeriodic s = .next t ∧ t.isSet EST_JNL_STATUS_PENDING = true
      ∧ bitOf t.est.jnlCause 0 = true ∧ t.est.snap = s.est.snap) ∧
    (s.fenced = true → (s.get (RING_STATUS_ENUM 0) = 5 ∨ s.get (RING_STATUS_ENUM 1) = 5) → ∃ t, exec .journalPeriodic
      s = .next t ∧ t.get EST_JNL_STATUS_LOST = min (s.get EST_JNL_STATUS_LOST + 1) (2 ^ EST_JNL_STATUS_LOST.w - 1) ∧
      t.mram = s.mram) ∧
    (s.get (RING_STATUS_ENUM 0) ≠ 5 → s.get (RING_STATUS_ENUM 1) ≠ 5 → exec .journalPeriodic s = .next s) ∧
    (s.fenced = false → s.isSet EST_JNL_STATUS_BUSY = false → s.hrn.lfrQ = [] → ∃ t, exec .writeNow s = .next t ∧
      t.isSet EST_JNL_STATUS_BUSY = true ∧ t.isSet EST_JNL_STATUS_PENDING = false ∧ t.est.snap.length = 512 ∧ bitOf
      (leAt t.est.snap 0x1C 1) 6 = true ∧ t.isSet EST_JNL_CTRL_WRITE_NOW = false) ∧
    (s.fenced = false → (s.isSet EST_JNL_STATUS_BUSY = true ∨ s.hrn.lfrQ ≠ []) → ∃ t, exec .writeNow s = .next t ∧
      t.isSet EST_JNL_STATUS_PENDING = true ∧ bitOf t.est.jnlCause 6 = true ∧ t.est.snap = s.est.snap ∧ t.isSet
      EST_JNL_CTRL_WRITE_NOW = false) ∧
    (s.fenced = true → ∃ t, exec .writeNow s = .next t ∧ t.get EST_JNL_STATUS_LOST = min (s.get EST_JNL_STATUS_LOST +
      1) (2 ^ EST_JNL_STATUS_LOST.w - 1) ∧ t.mram = s.mram) ∧
    (s.isSet EST_JNL_STATUS_BUSY = true → s.sectorMoving (jnlBase s.jnlNext) = false → ∃ t, exec
      (.journalWriteComplete false) s = .next t ∧ (s.rmt.due = false → t.mram = sparseWriteBytes s.mram (jnlBase
      s.jnlNext) s.est.snap) ∧ t.get EST_JNL_STATUS_NEWEST = s.jnlNext ∧ t.isSet EST_JNL_STATUS_ANY = true ∧ t.rdN
      EST_JNL_GEN = leAt s.est.snap 4 4 ∧ (s.isSet EST_JNL_STATUS_PENDING = false → t.isSet EST_JNL_STATUS_BUSY =
      false)) ∧
    (s.isSet EST_JNL_STATUS_BUSY = true → s.sectorMoving (jnlBase s.jnlNext) = false → ∃ t, exec
      (.journalWriteComplete true) s = .next t ∧ t.isSet EST_STATUS_VERIFY_ERR = true ∧ t.est.jnlSkip = s.est.jnlSkip
      + 1 ∧ (s.fenced = false → t.isSet EST_JNL_STATUS_BUSY = true ∧ t.est.snap = s.est.snap) ∧ (s.fenced = true →
      t.isSet EST_JNL_STATUS_BUSY = false ∧ t.get EST_JNL_STATUS_LOST = min (s.get EST_JNL_STATUS_LOST + 1) (2 ^
      EST_JNL_STATUS_LOST.w - 1))) ∧
    (∀ (b : Bool), (s.isSet EST_JNL_STATUS_BUSY = false ∨ s.sectorMoving (jnlBase s.jnlNext) = true) → exec
      (.journalWriteComplete b) s = .next s) ∧
    (∀ (x : StrNo) (v : Word), s.shelf = stPassive → ∃ t, exec (.efcWrite x v) s = .next t ∧ t.rd (EST_EFC x.val) = v
      ∧ t.isSet EST_STATUS_NO_JOURNAL = false) ∧
    (∀ (x : StrNo) (v : Word), s.shelf ≠ stPassive → s.rd (EST_EFC x.val) ≠ v → ∃ t, exec (.efcWrite x v) s = .next t
      ∧ t.rd (EST_EFC x.val) = s.rd (EST_EFC x.val) ∧ ((0x0605, 0) ∉ s.brd.active → t.get BRD_LAST_CODE = 0x0605))

/-! ### The fabric -/

/-- A lead record is sent by a module that holds the role, or lost it in this frame, without an ID conflict, with
TIME_HELD, from its start frame on (R330 to R332, R335). The hall lead sends SYNC on each path that may carry it, with
that path's own transmit stamp, and keeps it as the frame's own (R314, R318); every module sends its SHARE with its
oldest alarm, which leaves the queue (R319, R320); in its designated frame a module other than the lead sends
DELAY_REQ to the hall lead on one path and keeps its own send time (R315); a team lead closes its collection into a
summary of its members' classes against the team's target, and sends it in the same frame (R321, R324 to R326); the
hall lead answers every request that waits (R315), and computes H by A, the ramp and the limits, and the teams'
targets from it (R323, R324). Each control message takes the next SEQ, its header carries path, sender, hall, INC, SEQ
and frame (R309, R310). A module that does not lead, and one that may send on no path, sends nothing. -/
def Obligations.FabricSendCommands : Prop :=
  ∀ s : State, s.pins.powered = true →
    (∀ (hall : Bool), s.leads hall = true ↔ (s.isSet (if hall then FAB_STATUS_HALL_LEAD else FAB_STATUS_TEAM_LEAD) =
      true ∨ s.fab.ends.getD (if hall then 0 else 1) none = some s.frame) ∧ s.isSet FAB_STATUS_ID_CONFLICT = false ∧
      s.isSet FAB_STATUS_TIME_HELD = true ∧ (s.fab.starts.getD (if hall then 0 else 1) none).getD 0 ≤ s.frame) ∧
    (∀ (a b : Nat), s.leads true = false → exec (.syncSend a b) s = .next s) ∧
    (∀ (a b : Nat), s.leads true = true → ∃ t, exec (.syncSend a b) s = .next t ∧ (∀ m : Fin 2, s.canSend m.val = true
      → Out.fabric m.val (s.ether (s.hallGroup) (s.profileAt 0x8005 6 1 0) ((leBytes 1 1 ++ leBytes 1 1 ++ leBytes 2
      (s.shelfId + 0x8000 * m.val) ++ leBytes 2 s.hallId ++ leBytes 2 (s.rdN SBG_CYCLES) ++ leBytes 4 ((s.fab.seq + 1)
      % 2 ^ 32) ++ leBytes 4 s.frame) ++ s.syncBody (if m = 0 then a else b))) ∈ t.out) ∧ ((s.canSend 0 = true ∨
      s.canSend 1 = true) → t.fab.seq = (s.fab.seq + 1) % 2 ^ 32) ∧ (s.isSet FAB_STATUS_HALL_LEAD = true → t.fab.sync
      = some s.ownSync ∧ t.fab.digest = some s.succDigest.toNat) ∧ (s.canSend 0 = false → s.canSend 1 = false → t.out
      = s.out)) ∧
    ((s.canSend 0 = true ∨ s.canSend 1 = true) → ∃ t, exec .shareSend s = .next t ∧ (∀ m : Fin 2, s.canSend m.val =
      true → Out.fabric m.val (s.ether (s.teamGroup s.team) (s.profileAt 0x8005 6 1 0) ((leBytes 1 1 ++ leBytes 1 2 ++
      leBytes 2 (s.shelfId + 0x8000 * m.val) ++ leBytes 2 s.hallId ++ leBytes 2 (s.rdN SBG_CYCLES) ++ leBytes 4
      ((s.fab.seq + 1) % 2 ^ 32) ++ leBytes 4 s.frame) ++ s.shareBody)) ∈ t.out) ∧ s.ownShare ∈ t.fab.shares ∧
      t.fab.alarms = s.fab.alarms.drop 1 ∧ t.get FAB_ALARM_Q_QUEUED = (s.fab.alarms.length - 1) % 2 ^
      FAB_ALARM_Q_QUEUED.w ∧ t.fab.seq = (s.fab.seq + 1) % 2 ^ 32) ∧
    (s.canSend 0 = false → s.canSend 1 = false → exec .shareSend s = .next s) ∧
    (∀ (p : Fin 2) (t3 : Nat), s.isSet FAB_STATUS_HALL_LEAD = false → s.get FAB_LEADS_HALL ≠ 0x1FF → s.isSet
      FAB_STATUS_ID_CONFLICT = false → (s.frame % 50000 = 64 * s.shelfId + 32 * p.val ∨ (s.pth p.val).measure = true ∧
      s.frame % 64 = s.shelfId % 64) → s.canSend p.val = true → s.fab.paths.length = 2 → ∃ t, exec (.delayReqSend p
      t3) s = .next t ∧ (t.pth p.val).req = some ((s.fab.seq + 1) % 2 ^ 32, (t3 : Int)) ∧ (t.pth p.val).measure =
      false ∧ t.fab.seq = (s.fab.seq + 1) % 2 ^ 32 ∧ Out.fabric p.val (s.ether (s.unicast (s.get FAB_LEADS_HALL))
      (s.profileAt 0x8005 6 1 0) ((leBytes 1 1 ++ leBytes 1 4 ++ leBytes 2 (s.shelfId + 0x8000 * p.val) ++ leBytes 2
      s.hallId ++ leBytes 2 (s.rdN SBG_CYCLES) ++ leBytes 4 ((s.fab.seq + 1) % 2 ^ 32) ++ leBytes 4 s.frame) ++
      (leBytes 8 (t3 / 256) ++ leBytes 1 t3 ++ zeros 7))) ∈ t.out) ∧
    (∀ (p : Fin 2) (t3 : Nat), (s.isSet FAB_STATUS_HALL_LEAD = true ∨ s.get FAB_LEADS_HALL = 0x1FF ∨ s.isSet
      FAB_STATUS_ID_CONFLICT = true ∨ s.reqDue p.val = false ∨ s.canSend p.val = false) → exec (.delayReqSend p t3) s
      = .next s) ∧
    (∀ (x : Int), s.leads false = true → (∃ y ∈ s.fab.sync, bitOf y.live s.team = true ∧ y.targets.getD s.team 0 = x)
      ∨ (∃ r ∈ s.fab.summ, (∀ y ∈ s.fab.sync, bitOf y.live s.team = false) ∧ r.target = x) → ∃ t, exec
      .shareCollectionClose s = .next t ∧ t.regs = s.regs ∧ t.out = s.out ∧ ∃ r ∈ t.fab.closed, r.frame = s.frame ∧
      r.team = s.team ∧ r.src = s.shelfId ∧ r.epoch = s.get FAB_EPOCH_TEAM ∧ r.target = x ∧ r.load = ((List.range
      16).map s.classify).foldl (fun a c => a + MemberClass.load c) 0 ∧ r.hDis = ((List.range 16).map
      s.classify).foldl (fun a c => a + MemberClass.room true c) 0 ∧ r.hChg = ((List.range 16).map s.classify).foldl
      (fun a c => a + MemberClass.room false c) 0 ∧ r.live = maskOf 16 s.memberLive ∧ r.members = ((List.range 16).map
      s.classify).map (memberEntry (r.load - x) (if 0 < r.load - x then r.hDis else r.hChg))) ∧
    (s.leads false = true → ∃ t, exec .shareCollectionClose s = .next t ∧ t.fab.closed.isSome = true ∧ t.regs = s.regs
      ∧ t.out = s.out) ∧
    (s.leads false = false → exec .shareCollectionClose s = .next s) ∧
    (∀ (r : SummRec), s.fab.closed = some r → s.leads false = true → r.frame = s.frame → r.team = s.team → ∃ t, exec
      .teamSummarySend s = .next t ∧ (∀ m : Fin 2, s.canSend m.val = true → Out.fabric m.val (s.ether (s.hallGroup)
      (s.profileAt 0x8005 6 1 0) ((leBytes 1 1 ++ leBytes 1 3 ++ leBytes 2 (s.shelfId + 0x8000 * m.val) ++ leBytes 2
      s.hallId ++ leBytes 2 (s.rdN SBG_CYCLES) ++ leBytes 4 ((s.fab.seq + 1) % 2 ^ 32) ++ leBytes 4 s.frame) ++
      summBody r)) ∈ t.out) ∧ t.fab.closed = none ∧ ((s.canSend 0 = true ∨ s.canSend 1 = true) → t.fab.seq =
      (s.fab.seq + 1) % 2 ^ 32) ∧ (s.isSet FAB_STATUS_TEAM_LEAD = true → r ∈ t.fab.summs ∧ t.fab.summ = some r ∧ t.get
      FAB_TEAM_FLEX = r.flex % 2 ^ FAB_TEAM_FLEX.w ∧ t.get FAB_TEAM_LIVE = r.live % 2 ^ FAB_TEAM_LIVE.w)) ∧
    ((s.fab.closed = none ∨ s.leads false = false ∨ (s.fab.closed.map SummRec.frame) ≠ some s.frame) → exec
      .teamSummarySend s = .next s) ∧
    (s.holds true = true → ∃ t, exec .delayRespSend s = .next t ∧ t.fab.reqs = [] ∧ t.regs = s.regs ∧ t.out.length =
      s.out.length + (s.fab.reqs.filter fun q => s.canSend q.2.1).length ∧ ∀ q ∈ s.fab.reqs, s.canSend q.2.1 = true →
      ∃ n, Out.fabric q.2.1 (s.ether (s.unicast q.1) (s.profileAt 0x8005 6 1 0) ((leBytes 1 1 ++ leBytes 1 5 ++
      leBytes 2 (s.shelfId + 0x8000 * q.2.1) ++ leBytes 2 s.hallId ++ leBytes 2 (s.rdN SBG_CYCLES) ++ leBytes 4 (n) ++
      leBytes 4 s.frame) ++ (leBytes 4 q.2.2.1 ++ stampBytes q.2.2.2.toNat ++ zeros 3))) ∈ t.out) ∧
    (s.holds true = false → exec .delayRespSend s = .next { s with fab := { s.fab with reqs := [] } }) ∧
    (∀ (a : Rat) (f : Nat), s.isSet FAB_STATUS_HALL_LEAD = true → s.fab.a = some a → s.fab.computed = some f → 0 <
      s.hallTau → ∃ t, exec .hallTargetCompute s = .next t ∧ t.fab.computed = some s.frame ∧ t.fab.hallLoad =
      s.liveSumms.foldl (fun c r => c + r.load) 0 ∧ t.fab.a = some (a + ((t.fab.hallLoad : Rat) - a) / (5000 *
      s.hallTau : Nat)) ∧ (∀ c ∈ t.fab.a, t.fab.h = max (s.hallMin : Rat) (min (s.hallMax : Rat) (if s.fab.h < c then
      min c (s.fab.h + (s.hallRamp : Rat) / 500) else max c (s.fab.h - (s.hallRamp : Rat) / 500)))) ∧ t.fab.targets =
      hallTargets s.liveSumms t.fab.h ∧ t.rd FAB_HALL_TARGET = BitVec.ofInt 32 (roundRat t.fab.h)) ∧
    (s.isSet FAB_STATUS_HALL_LEAD = true → ∃ t, exec .hallTargetCompute s = .next t ∧ t.fab.computed = some s.frame ∧
      t.rd FAB_HALL_TARGET = BitVec.ofInt 32 (roundRat t.fab.h) ∧ (s.hallMin : Rat) ≤ t.fab.h ∧ (s.fab.a = none →
      t.fab.a = some (t.fab.hallLoad : Rat)) ∧ t.fab.targets = hallTargets s.liveSumms t.fab.h) ∧
    (s.isSet FAB_STATUS_HALL_LEAD = false → exec .hallTargetCompute s = .next s)

/-- In each frame the target is the module's entry of its team's summary while that is of this frame or of fewer than
TGT_HOLD frames before, with fabric time held and no ID conflict, and the standalone policy's otherwise: the profile's
fixed value, or the running average of the shelf's load; TGT_SRC shows which, and the summary's ABSORB sets ABSORBING
(R307, R327 to R329). Outside ARMING, ARMED and DERATED there is none. Each path without a SYNC in the frame counts a
miss, and one with a SYNC starts over (R340). The best sample of a block becomes the path's newest estimate (R314,
R316). On the time source of a module that does not lead, it is shown in FAB_TIME_OFS and steered away; in the armed
states an offset above 10 us sets FAR with 0x0705 and is never stepped, elsewhere one above 1 us makes a time step
due, and one within 40 ns ends FAR (R314, R316, R317). A due step sets shelf time back by the offset at the frame
boundary, with TIME_STEP, and drops in the armed states; without one nothing happens (R317). A path that loses block
lock, reports LOS or a fault, or misses its SYNCs while the other delivers them, shows DOWN with its alarm and 0x0701,
and 0x0702 where both are down (R334). The successor of a failed lead takes the lead with the next epoch from the next
frame on, after the listening time; another module, a lead that has not failed, and a module without control firmware
leave the lead as it is (R330 to R332). YIELD gives up every lead and LEAD_EN (R332). -/
def Obligations.FabricTimeAndTargetCommands : Prop :=
  ∀ s : State, s.pins.powered = true →
    (s.armedStates = false → ∃ t, exec .targetSelect s = .next t ∧ t.get FAB_STATUS_TGT_SRC = 0 ∧ t.isSet
      FAB_STATUS_ABSORBING = false ∧ t.fab.saAvg = none ∧ t.rd FAB_TARGET = s.rd FAB_TARGET ∧ (∀ m : Fin 2, t.get
      (FAB_PATH_MISS m.val) = if (s.pth m.val).heard = some s.frame then 0 else min (s.get (FAB_PATH_MISS m.val) + 1)
      (2 ^ (FAB_PATH_MISS m.val).w - 1))) ∧
    (∀ (r : SummRec) (x : Int × Int × Nat × Nat × Nat), s.armedStates = true → s.timeHeld = true → s.isSet
      FAB_STATUS_ID_CONFLICT = false → s.fab.summ = some r → s.frame < r.frame + s.get FAB_ABS_CFG_TGT_HOLD →
      r.members[s.member]? = some x → ∃ t, exec .targetSelect s = .next t ∧ t.rd FAB_TARGET = BitVec.ofInt 32 x.1 ∧
      t.get FAB_STATUS_TGT_SRC = (if r.frame = s.frame then 1 else 2) ∧ t.isSet FAB_STATUS_ABSORBING = (bitOf r.flags
      3 || s.isSet FAB_STATUS_ABSORBING) ∧ t.fab.saAvg = none ∧ (∀ m : Fin 2, t.get (FAB_PATH_MISS m.val) = if (s.pth
      m.val).heard = some s.frame then 0 else min (s.get (FAB_PATH_MISS m.val) + 1) (2 ^ (FAB_PATH_MISS m.val).w - 1))) ∧
    (s.armedStates = true → (s.timeHeld = false ∨ s.isSet FAB_STATUS_ID_CONFLICT = true ∨ (∀ r ∈ s.fab.summ, r.frame +
      s.get FAB_ABS_CFG_TGT_HOLD ≤ s.frame ∨ r.members.length ≤ s.member)) → s.profileAt 0x000A 0 1 1 = 0 → ∃ t, exec
      .targetSelect s = .next t ∧ t.get FAB_STATUS_TGT_SRC = 3 ∧ t.rd FAB_TARGET = BitVec.ofInt 32 (leAtI
      ((s.profileRec 0x000A).getD []) 4 4) ∧ (∀ m : Fin 2, t.get (FAB_PATH_MISS m.val) = if (s.pth m.val).heard = some
      s.frame then 0 else min (s.get (FAB_PATH_MISS m.val) + 1) (2 ^ (FAB_PATH_MISS m.val).w - 1))) ∧
    (∀ (a : Rat), s.armedStates = true → (s.timeHeld = false ∨ s.isSet FAB_STATUS_ID_CONFLICT = true ∨ (∀ r ∈
      s.fab.summ, r.frame + s.get FAB_ABS_CFG_TGT_HOLD ≤ s.frame ∨ r.members.length ≤ s.member)) → s.profileAt 0x000A
      0 1 1 ≠ 0 → s.fab.saAvg = some a → 0 < s.profileAt 0x000A 8 2 100 → ∃ t, exec .targetSelect s = .next t ∧ t.get
      FAB_STATUS_TGT_SRC = 3 ∧ t.fab.saAvg = some (a + (s.frameLoad.1 - a) / (5000 * s.profileAt 0x000A 8 2 100 :
      Nat)) ∧ (∀ c ∈ t.fab.saAvg, t.rd FAB_TARGET = BitVec.ofInt 32 (roundRat c)) ∧ (∀ m : Fin 2, t.get (FAB_PATH_MISS
      m.val) = if (s.pth m.val).heard = some s.frame then 0 else min (s.get (FAB_PATH_MISS m.val) + 1) (2 ^
      (FAB_PATH_MISS m.val).w - 1))) ∧
    (s.armedStates = true → (s.timeHeld = false ∨ s.isSet FAB_STATUS_ID_CONFLICT = true ∨ (∀ r ∈ s.fab.summ, r.frame +
      s.get FAB_ABS_CFG_TGT_HOLD ≤ s.frame ∨ r.members.length ≤ s.member)) → s.fab.saAvg = none → s.profileAt 0x000A 0
      1 1 ≠ 0 → ∃ t, exec .targetSelect s = .next t ∧ t.get FAB_STATUS_TGT_SRC = 3 ∧ t.fab.saAvg.isSome = true ∧ (∀ c
      ∈ s.casOf 4, t.rd FAB_TARGET = BitVec.ofInt 32 (roundRat ((s.rdI (REIN_CAS_SP_EFF c) : Rat) * 40000 / 2 ^ 31)))
      ∧ (∀ m : Fin 2, t.get (FAB_PATH_MISS m.val) = if (s.pth m.val).heard = some s.frame then 0 else min (s.get
      (FAB_PATH_MISS m.val) + 1) (2 ^ (FAB_PATH_MISS m.val).w - 1))) ∧
    (∀ (p : Fin 2), s.fab.paths.length = 2 → (s.pth p.val).best = none → ∃ t, exec (.offsetEstimate p) s = .next t ∧
      t.fab.paths = s.fab.paths ∧ t.fab.steer = s.fab.steer ∧ t.fab.stepDue = s.fab.stepDue ∧ t.rd FAB_TIME_OFS = s.rd
      FAB_TIME_OFS) ∧
    (∀ (p : Fin 2) (r o : Int), s.fab.paths.length = 2 → (s.pth p.val).best = some (r, o) → (s.isSet
      FAB_STATUS_HALL_LEAD = true ∨ p.val ≠ s.timeSource) → ∃ t, exec (.offsetEstimate p) s = .next t ∧ (t.pth
      p.val).best = none ∧ (t.pth p.val).ests = (o :: (s.pth p.val).ests).take 2 ∧ t.fab.steer = s.fab.steer ∧
      t.fab.stepDue = s.fab.stepDue ∧ t.rd FAB_TIME_OFS = s.rd FAB_TIME_OFS) ∧
    (∀ (p : Fin 2) (r o : Int), s.fab.paths.length = 2 → (s.pth p.val).best = some (r, o) → s.isSet
      FAB_STATUS_HALL_LEAD = false → p.val = s.timeSource → s.armedStates = true → ∃ t, exec (.offsetEstimate p) s =
      .next t ∧ (t.pth p.val).best = none ∧ (t.pth p.val).ests = (o :: (s.pth p.val).ests).take 2 ∧ t.fab.steer =
      -5000 * o ∧ t.rd FAB_TIME_OFS = BitVec.ofInt 32 (roundDiv (o * 100) 256) ∧ t.fab.stepDue = s.fab.stepDue ∧
      t.isSet FAB_STATUS_FAR = (if 256000 < o.natAbs then true else if o.natAbs ≤ 1024 then false else s.isSet
      FAB_STATUS_FAR) ∧ (256000 < o.natAbs → s.isSet FAB_STATUS_FAR = false → (0x0705, 0) ∈ t.brd.active) ∧ (o.natAbs
      ≤ 1024 → (0x0705, 0) ∉ t.brd.active)) ∧
    (∀ (p : Fin 2) (r o : Int), s.fab.paths.length = 2 → (s.pth p.val).best = some (r, o) → s.isSet
      FAB_STATUS_HALL_LEAD = false → p.val = s.timeSource → s.armedStates = false → s.shelf ≠ stDown → ∃ t, exec
      (.offsetEstimate p) s = .next t ∧ (t.pth p.val).best = none ∧ (t.pth p.val).ests = (o :: (s.pth
      p.val).ests).take 2 ∧ t.fab.steer = -5000 * o ∧ t.rd FAB_TIME_OFS = BitVec.ofInt 32 (roundDiv (o * 100) 256) ∧
      t.fab.stepDue = (if 25600 < o.natAbs then some o else s.fab.stepDue) ∧ (o.natAbs ≤ 1024 → t.isSet FAB_STATUS_FAR
      = false ∧ (0x0705, 0) ∉ t.brd.active)) ∧
    (s.fab.stepDue = none → exec .timeStep s = .next s) ∧
    (∀ (o : Int), s.fab.stepDue = some o → s.armedStates = true → exec .timeStep s = .next
      { s with fab := { s.fab with stepDue := none } }) ∧
    (∀ (o : Int), s.fab.stepDue = some o → s.armedStates = false → ∃ t, exec .timeStep s = .next t ∧ t.time =
      BitVec.ofInt 64 ((s.now : Int) - roundDiv o 256) ∧ t.fab.stepDue = none ∧ t.fab.steer = 0 ∧ t.isSet
      FAB_STATUS_TIME_STEP = true ∧ ∀ q ∈ t.fab.paths, q.best = none ∧ q.ests = [] ∧ q.lastSync = none ∧ q.req = none) ∧
    (∀ (p : Fin 2), s.fab.paths.length = 2 → ∃ t, exec (.pathDown p .noLock) s = .next t ∧ t.isSet
      (FAB_PATH_BLOCK_LOCK p.val) = false ∧ (t.pth p.val).linkLost = true ∧ (s.isSet (FAB_PATH_DOWN p.val) = false →
      t.isSet (FAB_PATH_DOWN p.val) = true ∧ t.isSet (FAB_PATH_ALARM p.val) = true ∧ (0x0701, p.val) ∈ t.brd.active ∧
      (s.isSet (FAB_PATH_DOWN (1 - p.val)) = true → (0x0702, 0) ∈ t.brd.active))) ∧
    (∀ (p : Fin 2), s.fab.paths.length = 2 → ∃ t, exec (.pathDown p .los) s = .next t ∧ t.isSet ⟨SYS_CONN_STATUS, 10 +
      p.val, 1⟩ = true ∧ (t.pth p.val).linkLost = true ∧ (s.isSet (FAB_PATH_DOWN p.val) = false → t.isSet
      (FAB_PATH_DOWN p.val) = true ∧ t.isSet (FAB_PATH_ALARM p.val) = true ∧ (0x0701, p.val) ∈ t.brd.active ∧ (s.isSet
      (FAB_PATH_DOWN (1 - p.val)) = true → (0x0702, 0) ∈ t.brd.active))) ∧
    (∀ (p : Fin 2), ∃ t, exec (.pathDown p .txFault) s = .next t ∧ t.isSet ⟨SYS_CONN_STATUS, 12 + p.val, 1⟩ = true ∧
      (t.pth p.val).linkLost = (s.pth p.val).linkLost ∧ (s.isSet (FAB_PATH_DOWN p.val) = false → t.isSet
      (FAB_PATH_DOWN p.val) = true ∧ t.isSet (FAB_PATH_ALARM p.val) = true ∧ (0x0701, p.val) ∈ t.brd.active ∧ (s.isSet
      (FAB_PATH_DOWN (1 - p.val)) = true → (0x0702, 0) ∈ t.brd.active))) ∧
    (∀ (p : Fin 2) (f : Nat), s.isSet (FAB_PATH_DOWN p.val) = false → (∀ g ∈ (s.pth p.val).heard, g + 3 ≤ s.frame) →
      (s.pth (1 - p.val)).heard = some f → s.frame < f + 3 → ∃ t, exec (.pathDown p .missing) s = .next t ∧ t.isSet
      (FAB_PATH_DOWN p.val) = true ∧ t.isSet (FAB_PATH_ALARM p.val) = true ∧ (0x0701, p.val) ∈ t.brd.active ∧ (s.isSet
      (FAB_PATH_DOWN (1 - p.val)) = true → (0x0702, 0) ∈ t.brd.active)) ∧
    (∀ (p : Fin 2), (s.isSet (FAB_PATH_DOWN p.val) = true ∨ s.syncNear p.val = true ∨ s.syncNear (1 - p.val) = false)
      → ∃ t, exec (.pathDown p .missing) s = .next t ∧ t.isSet (FAB_PATH_DOWN p.val) = s.isSet (FAB_PATH_DOWN p.val) ∧
      t.brd = s.brd ∧ t.fab.paths = s.fab.paths) ∧
    (s.isSet FAB_STATUS_HALL_LEAD = false → s.boot.fwRuns = true → s.leadFailed true = true → s.successor true (s.get
      FAB_LEADS_HALL) = some s.shelfId → s.fab.starts.length = 2 → ∃ t, exec (.leadFailure true) s = .next t ∧ t.isSet
      FAB_STATUS_HALL_LEAD = true ∧ t.get FAB_LEADS_HALL = s.shelfId ∧ t.get FAB_EPOCH_HALL = (s.get FAB_EPOCH_HALL +
      1) % 2 ^ FAB_EPOCH_HALL.w ∧ t.fab.starts.getD 0 none = some (max (s.frame + 1) s.fab.listen) ∧ t.fab.reqs = [] ∧
      t.fab.steer = 0) ∧
    (s.isSet FAB_STATUS_TEAM_LEAD = false → s.boot.fwRuns = true → s.leadFailed false = true → s.timeHeld = true →
      s.successor false (s.get FAB_LEADS_TEAM) = some s.shelfId → s.fab.starts.length = 2 → ∃ t, exec (.leadFailure
      false) s = .next t ∧ t.isSet FAB_STATUS_TEAM_LEAD = true ∧ t.get FAB_LEADS_TEAM = s.shelfId ∧ t.get
      FAB_EPOCH_TEAM = (s.get FAB_EPOCH_TEAM + 1) % 2 ^ FAB_EPOCH_TEAM.w ∧ t.fab.starts.getD 1 none = some (max
      (s.frame + 1) s.fab.listen) ∧ t.fab.closed = none) ∧
    (∀ (k : Bool), (s.boot.fwRuns = false ∨ s.isSet (if k then FAB_STATUS_HALL_LEAD else FAB_STATUS_TEAM_LEAD) = true
      ∨ s.leadFailed k = false ∨ s.successor k (s.get (if k then FAB_LEADS_HALL else FAB_LEADS_TEAM)) ≠ some
      s.shelfId) → exec (.leadFailure k) s = .next s) ∧
    (∃ t, exec .yield s = .next t ∧ t.isSet FAB_STATUS_HALL_LEAD = false ∧ t.isSet FAB_STATUS_TEAM_LEAD = false ∧
      t.isSet FAB_CTRL_LEAD_EN = false ∧ t.isSet FAB_CTRL_YIELD = false)

/-- A record is taken when its path is in use, it is of the module's hall and another shelf's, its SEQ is new in the
sender's window and its frame is this one; it is then counted in FAB_RX_CNT (R310 to R312, R334). One of another hall,
a duplicate and a late one are counted in their own counters, one with the own shelf ID sets ID_CONFLICT with 0x0703
and ends the lead roles, and none of these changes what the module has kept, but a late one of a kept sender counts as
heard (R310, R311). Every SYNC copy of the hall gives its path a time sample and clears its misses (R314, R340). A
SYNC of the followed lead, or of one that wins by epoch, or the first one, is followed: its targets, hall target,
epoch and digest are kept and an own hall lead ends; another is not followed (R318, R330 to R332). A team mate's SHARE
is kept, and an alarm in it makes a record (R319, R320); a summary of the own team's lead is followed, and one of
another team kept where it wins (R321, R332); a module acting as hall lead keeps a DELAY_REQ for its answer, and a
DELAY_RESP to the module's own request gives the path's delay (R314, R315). -/
def Obligations.FabricReceiveCommands : Prop :=
  ∀ s : State, s.pins.powered = true →
    (∀ (h : FabHdr), (s.judge h).1 = .taken ↔ s.pathOn h.path.val = true ∧ h.hall.val = s.hallId ∧ h.src.val ≠
      s.shelfId ∧ winTake (s.fab.wins.find? (·.src == h.src.val)) h ≠ none ∧ h.frame.toNat = s.frame % 2 ^ 32) ∧
    (∀ (h : FabHdr) (x : RxWin), s.fab.wins.find? (·.src == h.src.val) = some x → winTake (s.fab.wins.find? (·.src ==
      h.src.val)) h = none ↔ x.inc = h.inc.val ∧ h.seq.toNat ≤ x.high ∧ (h.seq.toNat = x.high ∨ h.seq.toNat + 64 <
      x.high ∨ bitOf x.marks (x.high - h.seq.toNat - 1) = true)) ∧
    (∀ (i : SyncIn), s.pathOn i.hdr.path.val = false → ∃ t, exec (.syncReceived i) s = .next t ∧ t.fab.sync =
      s.fab.sync ∧ t.fab.reqs = s.fab.reqs ∧ t.get FAB_LEADS_HALL = s.get FAB_LEADS_HALL ∧ t.get FAB_LEADS_TEAM =
      s.get FAB_LEADS_TEAM ∧ t.fab.shares = s.fab.shares ∧ t.fab.summs = s.fab.summs ∧ t.rd FAB_RX_CNT = s.rd
      FAB_RX_CNT) ∧
    (∀ (i : SyncIn), s.pathOn i.hdr.path.val = true → i.hdr.hall.val ≠ s.hallId → ∃ t, exec (.syncReceived i) s =
      .next t ∧ t.fab.sync = s.fab.sync ∧ t.fab.reqs = s.fab.reqs ∧ t.get FAB_LEADS_HALL = s.get FAB_LEADS_HALL ∧
      t.get FAB_LEADS_TEAM = s.get FAB_LEADS_TEAM ∧ t.fab.shares = s.fab.shares ∧ t.fab.summs = s.fab.summs ∧ t.get
      FAB_LATE_CNT_OTHER = min (s.get FAB_LATE_CNT_OTHER + 1) (2 ^ FAB_LATE_CNT_OTHER.w - 1)) ∧
    (∀ (i : SyncIn), s.pathOn i.hdr.path.val = true → i.hdr.hall.val = s.hallId → i.hdr.src.val = s.shelfId → s.isSet
      FAB_STATUS_ID_CONFLICT = false → ∃ t, exec (.syncReceived i) s = .next t ∧ t.fab.sync = s.fab.sync ∧ t.fab.reqs
      = s.fab.reqs ∧ t.get FAB_LEADS_HALL = s.get FAB_LEADS_HALL ∧ t.get FAB_LEADS_TEAM = s.get FAB_LEADS_TEAM ∧
      t.fab.shares = s.fab.shares ∧ t.fab.summs = s.fab.summs ∧ t.isSet FAB_STATUS_ID_CONFLICT = true ∧ t.isSet
      FAB_STATUS_HALL_LEAD = false ∧ t.isSet FAB_STATUS_TEAM_LEAD = false ∧ ((0x0703, 0) ∉ s.brd.active → t.get
      BRD_LAST_CODE = 0x0703)) ∧
    (∀ (i : SyncIn), s.pathOn i.hdr.path.val = true → i.hdr.hall.val = s.hallId → i.hdr.src.val ≠ s.shelfId → winTake
      (s.fab.wins.find? (·.src == i.hdr.src.val)) i.hdr = none → ∃ t, exec (.syncReceived i) s = .next t ∧ t.fab.sync
      = s.fab.sync ∧ t.fab.reqs = s.fab.reqs ∧ t.get FAB_LEADS_HALL = s.get FAB_LEADS_HALL ∧ t.get FAB_LEADS_TEAM =
      s.get FAB_LEADS_TEAM ∧ t.fab.shares = s.fab.shares ∧ t.fab.summs = s.fab.summs ∧ t.rd FAB_DUP_CNT = s.rd
      FAB_DUP_CNT + 1 ∧ t.rd FAB_RX_CNT = s.rd FAB_RX_CNT) ∧
    (∀ (i : SyncIn), s.pathOn i.hdr.path.val = true → i.hdr.hall.val = s.hallId → i.hdr.src.val ≠ s.shelfId → winTake
      (s.fab.wins.find? (·.src == i.hdr.src.val)) i.hdr ≠ none → i.hdr.frame.toNat ≠ s.frame % 2 ^ 32 → ∃ t, exec
      (.syncReceived i) s = .next t ∧ t.fab.sync = s.fab.sync ∧ t.fab.reqs = s.fab.reqs ∧ t.get FAB_LEADS_HALL = s.get
      FAB_LEADS_HALL ∧ t.get FAB_LEADS_TEAM = s.get FAB_LEADS_TEAM ∧ t.get FAB_LATE_CNT_LATE = min (s.get
      FAB_LATE_CNT_LATE + 1) (2 ^ FAB_LATE_CNT_LATE.w - 1) ∧ t.fab.wins = s.fab.wins) ∧
    (∀ (i : ShareIn), s.pathOn i.hdr.path.val = false → exec (.shareReceived i) s = .next s) ∧
    (∀ (i : ShareIn), s.pathOn i.hdr.path.val = true → i.hdr.hall.val ≠ s.hallId → ∃ t, exec (.shareReceived i) s =
      .next t ∧ t.fab.sync = s.fab.sync ∧ t.fab.reqs = s.fab.reqs ∧ t.get FAB_LEADS_HALL = s.get FAB_LEADS_HALL ∧
      t.get FAB_LEADS_TEAM = s.get FAB_LEADS_TEAM ∧ t.fab.shares = s.fab.shares ∧ t.fab.summs = s.fab.summs ∧ t.get
      FAB_LATE_CNT_OTHER = min (s.get FAB_LATE_CNT_OTHER + 1) (2 ^ FAB_LATE_CNT_OTHER.w - 1)) ∧
    (∀ (i : ShareIn), s.pathOn i.hdr.path.val = true → i.hdr.hall.val = s.hallId → i.hdr.src.val = s.shelfId → s.isSet
      FAB_STATUS_ID_CONFLICT = false → ∃ t, exec (.shareReceived i) s = .next t ∧ t.fab.sync = s.fab.sync ∧ t.fab.reqs
      = s.fab.reqs ∧ t.get FAB_LEADS_HALL = s.get FAB_LEADS_HALL ∧ t.get FAB_LEADS_TEAM = s.get FAB_LEADS_TEAM ∧
      t.fab.shares = s.fab.shares ∧ t.fab.summs = s.fab.summs ∧ t.isSet FAB_STATUS_ID_CONFLICT = true ∧ t.isSet
      FAB_STATUS_HALL_LEAD = false ∧ t.isSet FAB_STATUS_TEAM_LEAD = false ∧ ((0x0703, 0) ∉ s.brd.active → t.get
      BRD_LAST_CODE = 0x0703)) ∧
    (∀ (i : ShareIn), s.pathOn i.hdr.path.val = true → i.hdr.hall.val = s.hallId → i.hdr.src.val ≠ s.shelfId → winTake
      (s.fab.wins.find? (·.src == i.hdr.src.val)) i.hdr = none → ∃ t, exec (.shareReceived i) s = .next t ∧ t.fab.sync
      = s.fab.sync ∧ t.fab.reqs = s.fab.reqs ∧ t.get FAB_LEADS_HALL = s.get FAB_LEADS_HALL ∧ t.get FAB_LEADS_TEAM =
      s.get FAB_LEADS_TEAM ∧ t.fab.shares = s.fab.shares ∧ t.fab.summs = s.fab.summs ∧ t.rd FAB_DUP_CNT = s.rd
      FAB_DUP_CNT + 1 ∧ t.rd FAB_RX_CNT = s.rd FAB_RX_CNT) ∧
    (∀ (i : ShareIn), s.pathOn i.hdr.path.val = true → i.hdr.hall.val = s.hallId → i.hdr.src.val ≠ s.shelfId → winTake
      (s.fab.wins.find? (·.src == i.hdr.src.val)) i.hdr ≠ none → i.hdr.frame.toNat ≠ s.frame % 2 ^ 32 → ∃ t, exec
      (.shareReceived i) s = .next t ∧ t.fab.sync = s.fab.sync ∧ t.fab.reqs = s.fab.reqs ∧ t.get FAB_LEADS_HALL =
      s.get FAB_LEADS_HALL ∧ t.get FAB_LEADS_TEAM = s.get FAB_LEADS_TEAM ∧ t.get FAB_LATE_CNT_LATE = min (s.get
      FAB_LATE_CNT_LATE + 1) (2 ^ FAB_LATE_CNT_LATE.w - 1) ∧ t.fab.wins = s.fab.wins) ∧
    (∀ (i : SummIn), s.pathOn i.hdr.path.val = false → ∃ t, exec (.teamSummaryReceived i) s = .next t ∧ t = s) ∧
    (∀ (i : SummIn), s.pathOn i.hdr.path.val = true → i.hdr.hall.val ≠ s.hallId → ∃ t, exec (.teamSummaryReceived i) s
      = .next t ∧ t.fab.sync = s.fab.sync ∧ t.fab.reqs = s.fab.reqs ∧ t.get FAB_LEADS_HALL = s.get FAB_LEADS_HALL ∧
      t.get FAB_LEADS_TEAM = s.get FAB_LEADS_TEAM ∧ t.fab.shares = s.fab.shares ∧ t.fab.summs = s.fab.summs ∧ t.get
      FAB_LATE_CNT_OTHER = min (s.get FAB_LATE_CNT_OTHER + 1) (2 ^ FAB_LATE_CNT_OTHER.w - 1)) ∧
    (∀ (i : SummIn), s.pathOn i.hdr.path.val = true → i.hdr.hall.val = s.hallId → i.hdr.src.val = s.shelfId → s.isSet
      FAB_STATUS_ID_CONFLICT = false → ∃ t, exec (.teamSummaryReceived i) s = .next t ∧ t.fab.sync = s.fab.sync ∧
      t.fab.reqs = s.fab.reqs ∧ t.get FAB_LEADS_HALL = s.get FAB_LEADS_HALL ∧ t.get FAB_LEADS_TEAM = s.get
      FAB_LEADS_TEAM ∧ t.fab.shares = s.fab.shares ∧ t.fab.summs = s.fab.summs ∧ t.isSet FAB_STATUS_ID_CONFLICT = true
      ∧ t.isSet FAB_STATUS_HALL_LEAD = false ∧ t.isSet FAB_STATUS_TEAM_LEAD = false ∧ ((0x0703, 0) ∉ s.brd.active →
      t.get BRD_LAST_CODE = 0x0703)) ∧
    (∀ (i : SummIn), s.pathOn i.hdr.path.val = true → i.hdr.hall.val = s.hallId → i.hdr.src.val ≠ s.shelfId → winTake
      (s.fab.wins.find? (·.src == i.hdr.src.val)) i.hdr = none → ∃ t, exec (.teamSummaryReceived i) s = .next t ∧
      t.fab.sync = s.fab.sync ∧ t.fab.reqs = s.fab.reqs ∧ t.get FAB_LEADS_HALL = s.get FAB_LEADS_HALL ∧ t.get
      FAB_LEADS_TEAM = s.get FAB_LEADS_TEAM ∧ t.fab.shares = s.fab.shares ∧ t.fab.summs = s.fab.summs ∧ t.rd
      FAB_DUP_CNT = s.rd FAB_DUP_CNT + 1 ∧ t.rd FAB_RX_CNT = s.rd FAB_RX_CNT) ∧
    (∀ (i : SummIn), s.pathOn i.hdr.path.val = true → i.hdr.hall.val = s.hallId → i.hdr.src.val ≠ s.shelfId → winTake
      (s.fab.wins.find? (·.src == i.hdr.src.val)) i.hdr ≠ none → i.hdr.frame.toNat ≠ s.frame % 2 ^ 32 → ∃ t, exec
      (.teamSummaryReceived i) s = .next t ∧ t.fab.sync = s.fab.sync ∧ t.fab.reqs = s.fab.reqs ∧ t.get FAB_LEADS_HALL
      = s.get FAB_LEADS_HALL ∧ t.get FAB_LEADS_TEAM = s.get FAB_LEADS_TEAM ∧ t.get FAB_LATE_CNT_LATE = min (s.get
      FAB_LATE_CNT_LATE + 1) (2 ^ FAB_LATE_CNT_LATE.w - 1) ∧ t.fab.wins = s.fab.wins) ∧
    (∀ (h : FabHdr) (t3 : Nat), s.pathOn h.path.val = false → exec (.delayReqReceived h t3) s = .next s) ∧
    (∀ (h : FabHdr) (t3 : Nat), s.pathOn h.path.val = true → h.hall.val ≠ s.hallId → ∃ t, exec (.delayReqReceived h
      t3) s = .next t ∧ t.fab.sync = s.fab.sync ∧ t.fab.reqs = s.fab.reqs ∧ t.get FAB_LEADS_HALL = s.get
      FAB_LEADS_HALL ∧ t.get FAB_LEADS_TEAM = s.get FAB_LEADS_TEAM ∧ t.fab.shares = s.fab.shares ∧ t.fab.summs =
      s.fab.summs ∧ t.get FAB_LATE_CNT_OTHER = min (s.get FAB_LATE_CNT_OTHER + 1) (2 ^ FAB_LATE_CNT_OTHER.w - 1)) ∧
    (∀ (h : FabHdr) (t3 : Nat), s.pathOn h.path.val = true → h.hall.val = s.hallId → h.src.val = s.shelfId → s.isSet
      FAB_STATUS_ID_CONFLICT = false → ∃ t, exec (.delayReqReceived h t3) s = .next t ∧ t.fab.sync = s.fab.sync ∧
      t.fab.reqs = s.fab.reqs ∧ t.get FAB_LEADS_HALL = s.get FAB_LEADS_HALL ∧ t.get FAB_LEADS_TEAM = s.get
      FAB_LEADS_TEAM ∧ t.fab.shares = s.fab.shares ∧ t.fab.summs = s.fab.summs ∧ t.isSet FAB_STATUS_ID_CONFLICT = true
      ∧ t.isSet FAB_STATUS_HALL_LEAD = false ∧ t.isSet FAB_STATUS_TEAM_LEAD = false ∧ ((0x0703, 0) ∉ s.brd.active →
      t.get BRD_LAST_CODE = 0x0703)) ∧
    (∀ (h : FabHdr) (t3 : Nat), s.pathOn h.path.val = true → h.hall.val = s.hallId → h.src.val ≠ s.shelfId → winTake
      (s.fab.wins.find? (·.src == h.src.val)) h = none → ∃ t, exec (.delayReqReceived h t3) s = .next t ∧ t.fab.sync =
      s.fab.sync ∧ t.fab.reqs = s.fab.reqs ∧ t.get FAB_LEADS_HALL = s.get FAB_LEADS_HALL ∧ t.get FAB_LEADS_TEAM =
      s.get FAB_LEADS_TEAM ∧ t.fab.shares = s.fab.shares ∧ t.fab.summs = s.fab.summs ∧ t.rd FAB_DUP_CNT = s.rd
      FAB_DUP_CNT + 1 ∧ t.rd FAB_RX_CNT = s.rd FAB_RX_CNT) ∧
    (∀ (h : FabHdr) (t3 : Nat), s.pathOn h.path.val = true → h.hall.val = s.hallId → h.src.val ≠ s.shelfId → winTake
      (s.fab.wins.find? (·.src == h.src.val)) h ≠ none → h.frame.toNat ≠ s.frame % 2 ^ 32 → ∃ t, exec
      (.delayReqReceived h t3) s = .next t ∧ t.fab.sync = s.fab.sync ∧ t.fab.reqs = s.fab.reqs ∧ t.get FAB_LEADS_HALL
      = s.get FAB_LEADS_HALL ∧ t.get FAB_LEADS_TEAM = s.get FAB_LEADS_TEAM ∧ t.get FAB_LATE_CNT_LATE = min (s.get
      FAB_LATE_CNT_LATE + 1) (2 ^ FAB_LATE_CNT_LATE.w - 1) ∧ t.fab.wins = s.fab.wins) ∧
    (∀ (h : FabHdr) (q : Word) (t4 : Nat), s.pathOn h.path.val = false → exec (.delayRespReceived h q t4) s = .next s) ∧
    (∀ (h : FabHdr) (q : Word) (t4 : Nat), s.pathOn h.path.val = true → h.hall.val ≠ s.hallId → ∃ t, exec
      (.delayRespReceived h q t4) s = .next t ∧ t.fab.sync = s.fab.sync ∧ t.fab.reqs = s.fab.reqs ∧ t.get
      FAB_LEADS_HALL = s.get FAB_LEADS_HALL ∧ t.get FAB_LEADS_TEAM = s.get FAB_LEADS_TEAM ∧ t.fab.shares =
      s.fab.shares ∧ t.fab.summs = s.fab.summs ∧ t.get FAB_LATE_CNT_OTHER = min (s.get FAB_LATE_CNT_OTHER + 1) (2 ^
      FAB_LATE_CNT_OTHER.w - 1)) ∧
    (∀ (h : FabHdr) (q : Word) (t4 : Nat), s.pathOn h.path.val = true → h.hall.val = s.hallId → h.src.val = s.shelfId
      → s.isSet FAB_STATUS_ID_CONFLICT = false → ∃ t, exec (.delayRespReceived h q t4) s = .next t ∧ t.fab.sync =
      s.fab.sync ∧ t.fab.reqs = s.fab.reqs ∧ t.get FAB_LEADS_HALL = s.get FAB_LEADS_HALL ∧ t.get FAB_LEADS_TEAM =
      s.get FAB_LEADS_TEAM ∧ t.fab.shares = s.fab.shares ∧ t.fab.summs = s.fab.summs ∧ t.isSet FAB_STATUS_ID_CONFLICT
      = true ∧ t.isSet FAB_STATUS_HALL_LEAD = false ∧ t.isSet FAB_STATUS_TEAM_LEAD = false ∧ ((0x0703, 0) ∉
      s.brd.active → t.get BRD_LAST_CODE = 0x0703)) ∧
    (∀ (h : FabHdr) (q : Word) (t4 : Nat), s.pathOn h.path.val = true → h.hall.val = s.hallId → h.src.val ≠ s.shelfId
      → winTake (s.fab.wins.find? (·.src == h.src.val)) h = none → ∃ t, exec (.delayRespReceived h q t4) s = .next t ∧
      t.fab.sync = s.fab.sync ∧ t.fab.reqs = s.fab.reqs ∧ t.get FAB_LEADS_HALL = s.get FAB_LEADS_HALL ∧ t.get
      FAB_LEADS_TEAM = s.get FAB_LEADS_TEAM ∧ t.fab.shares = s.fab.shares ∧ t.fab.summs = s.fab.summs ∧ t.rd
      FAB_DUP_CNT = s.rd FAB_DUP_CNT + 1 ∧ t.rd FAB_RX_CNT = s.rd FAB_RX_CNT) ∧
    (∀ (h : FabHdr) (q : Word) (t4 : Nat), s.pathOn h.path.val = true → h.hall.val = s.hallId → h.src.val ≠ s.shelfId
      → winTake (s.fab.wins.find? (·.src == h.src.val)) h ≠ none → h.frame.toNat ≠ s.frame % 2 ^ 32 → ∃ t, exec
      (.delayRespReceived h q t4) s = .next t ∧ t.fab.sync = s.fab.sync ∧ t.fab.reqs = s.fab.reqs ∧ t.get
      FAB_LEADS_HALL = s.get FAB_LEADS_HALL ∧ t.get FAB_LEADS_TEAM = s.get FAB_LEADS_TEAM ∧ t.get FAB_LATE_CNT_LATE =
      min (s.get FAB_LATE_CNT_LATE + 1) (2 ^ FAB_LATE_CNT_LATE.w - 1) ∧ t.fab.wins = s.fab.wins) ∧
    (∀ (i : SyncIn), s.pathOn i.hdr.path.val = true → i.hdr.hall.val = s.hallId → i.hdr.src.val ≠ s.shelfId →
      s.fab.paths.length = 2 → ∃ t, exec (.syncReceived i) s = .next t ∧ (t.pth i.hdr.path.val).lastSync = some
      ((i.txTime : Int), (i.hdr.stamp : Int)) ∧ (t.pth i.hdr.path.val).heard = some s.frame ∧ (t.pth
      i.hdr.path.val).linkLost = false ∧ t.get (FAB_PATH_MISS i.hdr.path.val) = 0 ∧ t.isSet (FAB_PATH_BLOCK_LOCK
      i.hdr.path.val) = true ∧ ((s.pth i.hdr.path.val).best = none → ∀ d ∈ (s.pth i.hdr.path.val).delay, (t.pth
      i.hdr.path.val).best = some ((i.hdr.stamp : Int) - i.txTime, (i.hdr.stamp : Int) - i.txTime - d))) ∧
    (∀ (i : SyncIn), (s.judge i.hdr).1 = .taken → (s.get FAB_LEADS_HALL = 0x1FF ∨ s.get FAB_LEADS_HALL = i.hdr.src.val
      ∨ s.get FAB_EPOCH_HALL < i.epoch.val ∨ s.leadFailed true = true) → ∃ t, exec (.syncReceived i) s = .next t ∧
      t.rd FAB_RX_CNT = s.rd FAB_RX_CNT + 1 ∧ t.rd FAB_HALL_TARGET = BitVec.ofInt 32 i.h ∧ t.fab.sync = some
      { frame := s.frame, src := i.hdr.src.val, epoch := i.epoch.val, short := 2 ≤ i.flags.val, h := i.h, targets := i.targets, live := i.live.toNat, digest := i.digest.toNat }
      ∧ t.fab.digest = some i.digest.toNat ∧ t.get FAB_LEADS_HALL = i.hdr.src.val ∧ t.get FAB_EPOCH_HALL = i.epoch.val
      ∧ t.isSet FAB_STATUS_HALL_LEAD = false ∧ (i.digest ≠ s.succDigest → t.isSet FAB_STATUS_SUCC_MISMATCH = true)) ∧
    (∀ (i : SyncIn), (s.judge i.hdr).1 = .taken → s.get FAB_LEADS_HALL ≠ 0x1FF → s.get FAB_LEADS_HALL ≠ i.hdr.src.val
      → s.leadFailed true = false → wins s.hallList i.epoch.val i.hdr.src.val (s.get FAB_EPOCH_HALL) (s.get
      FAB_LEADS_HALL) = false → ∃ t, exec (.syncReceived i) s = .next t ∧ t.rd FAB_RX_CNT = s.rd FAB_RX_CNT + 1 ∧
      t.fab.sync = s.fab.sync ∧ t.rd FAB_HALL_TARGET = s.rd FAB_HALL_TARGET ∧ t.get FAB_LEADS_HALL = s.get
      FAB_LEADS_HALL ∧ t.get FAB_EPOCH_HALL = s.get FAB_EPOCH_HALL) ∧
    (∀ (i : ShareIn), (s.judge i.hdr).1 = .taken → i.hdr.src.val / 16 = s.team → s.isSet (FAB_PATH_DOWN
      i.hdr.path.val) = false → ∃ t, exec (.shareReceived i) s = .next t ∧ t.rd FAB_RX_CNT = s.rd FAB_RX_CNT + 1 ∧
      s.shareRec i ∈ t.fab.shares ∧ (∀ r ∈ t.fab.shares, r.member = i.hdr.src.val % 16 → r = s.shareRec i) ∧ t.isSet
      (FAB_PATH_BLOCK_LOCK i.hdr.path.val) = true ∧ t.rd SBG_SEQ = s.rd SBG_SEQ + (if bitOf i.flags.val 2 then 1 else
      0)) ∧
    (∀ (i : ShareIn), (s.judge i.hdr).1 = .taken → i.hdr.src.val / 16 ≠ s.team → ∃ t, exec (.shareReceived i) s =
      .next t ∧ t.rd FAB_RX_CNT = s.rd FAB_RX_CNT + 1 ∧ t.fab.shares = s.fab.shares) ∧
    (∀ (i : SummIn), (s.judge i.hdr).1 = .taken → i.team.val ≠ s.team → ∃ t, exec (.teamSummaryReceived i) s = .next t
      ∧ t.rd FAB_RX_CNT = s.rd FAB_RX_CNT + 1 ∧ t.get FAB_LEADS_TEAM = s.get FAB_LEADS_TEAM ∧ t.fab.summ = s.fab.summ
      ∧ (s.summWins i = true → s.summRec i ∈ t.fab.summs) ∧ (s.summWins i = false → t.fab.summs = s.fab.summs)) ∧
    (∀ (i : SummIn), (s.judge i.hdr).1 = .taken → i.team.val = s.team → (s.get FAB_LEADS_TEAM = 0x1FF ∨ s.get
      FAB_LEADS_TEAM = i.hdr.src.val ∨ s.get FAB_EPOCH_TEAM < i.epoch.val ∨ s.leadFailed false = true) → ∃ t, exec
      (.teamSummaryReceived i) s = .next t ∧ t.fab.summ = some (s.summRec i) ∧ s.summRec i ∈ t.fab.summs ∧ t.get
      FAB_TEAM_FLEX = i.flex.val ∧ t.get FAB_TEAM_LIVE = i.live.val ∧ t.get FAB_LEADS_TEAM = i.hdr.src.val ∧ t.get
      FAB_EPOCH_TEAM = i.epoch.val ∧ t.isSet FAB_STATUS_TEAM_LEAD = false) ∧
    (∀ (i : SummIn), (s.judge i.hdr).1 = .taken → i.team.val = s.team → s.get FAB_LEADS_TEAM ≠ 0x1FF → s.get
      FAB_LEADS_TEAM ≠ i.hdr.src.val → s.leadFailed false = false → wins (s.teamList s.team) i.epoch.val i.hdr.src.val
      (s.get FAB_EPOCH_TEAM) (s.get FAB_LEADS_TEAM) = false → ∃ t, exec (.teamSummaryReceived i) s = .next t ∧
      t.fab.summ = s.fab.summ ∧ t.fab.summs = s.fab.summs ∧ t.get FAB_LEADS_TEAM = s.get FAB_LEADS_TEAM) ∧
    (∀ (i : ShareIn), s.pathOn i.hdr.path.val = true → i.hdr.hall.val = s.hallId → i.hdr.src.val ≠ s.shelfId →
      i.hdr.src.val / 16 = s.team → winTake (s.fab.wins.find? (·.src == i.hdr.src.val)) i.hdr ≠ none →
      i.hdr.frame.toNat ≠ s.frame % 2 ^ 32 → ∃ t, exec (.shareReceived i) s = .next t ∧ t.fab.shares =
      s.fab.shares.map (fun r => if r.member = i.hdr.src.val % 16 then { r with heard := s.frame } else r)) ∧
    (∀ (i : SummIn), s.pathOn i.hdr.path.val = true → i.hdr.hall.val = s.hallId → i.hdr.src.val ≠ s.shelfId → winTake
      (s.fab.wins.find? (·.src == i.hdr.src.val)) i.hdr ≠ none → i.hdr.frame.toNat ≠ s.frame % 2 ^ 32 → ∃ t, exec
      (.teamSummaryReceived i) s = .next t ∧ t.fab.summs = s.fab.summs.map (fun r => if r.team = i.team.val ∧ r.src =
      i.hdr.src.val then { r with heard := s.frame } else r)) ∧
    (∀ (h : FabHdr) (t3 : Nat), (s.judge h).1 = .taken → s.holds true = true → ∃ t, exec (.delayReqReceived h t3) s =
      .next t ∧ t.rd FAB_RX_CNT = s.rd FAB_RX_CNT + 1 ∧ t.fab.reqs = s.fab.reqs ++ [(h.src.val, h.path.val,
      h.seq.toNat, (h.stamp : Int))]) ∧
    (∀ (h : FabHdr) (t3 : Nat), (s.judge h).1 = .taken → s.holds true = false → ∃ t, exec (.delayReqReceived h t3) s =
      .next t ∧ t.rd FAB_RX_CNT = s.rd FAB_RX_CNT + 1 ∧ t.fab.reqs = s.fab.reqs) ∧
    (∀ (h : FabHdr) (q : Word) (t4 : Nat) (t1 t2 t3 : Int), (s.judge h).1 = .taken → (s.pth h.path.val).req = some
      (q.toNat, t3) → (s.pth h.path.val).lastSync = some (t1, t2) → s.fab.paths.length = 2 → ∃ t, exec
      (.delayRespReceived h q t4) s = .next t ∧ t.rd FAB_RX_CNT = s.rd FAB_RX_CNT + 1 ∧ (t.pth h.path.val).delay =
      some (roundDiv ((t2 - t1) + ((t4 : Int) - t3)) 2) ∧ (t.pth h.path.val).delayAt = s.elapsed ∧ (t.pth
      h.path.val).req = none) ∧
    (∀ (h : FabHdr) (q : Word) (t4 : Nat), (s.judge h).1 = .taken → (s.pth h.path.val).req.map Prod.fst ≠ some q.toNat
      → ∃ t, exec (.delayRespReceived h q t4) s = .next t ∧ t.rd FAB_RX_CNT = s.rd FAB_RX_CNT + 1 ∧ (t.pth
      h.path.val).delay = (s.pth h.path.val).delay)

/-! ### Larkspur -/

/-- A load that is let through brings 2^k words into consecutive registers; a corrected error is counted in the
memory's own counter, and an uncorrectable one poisons its 64 bytes, shows UE and faults the load with cause 5 (R345,
R348, R365). A store writes the words, in order, at the address of its access and no other byte (R346). An atomic
writes its result at its address, no other byte, and returns the old value (R347). An access that is not let through
is not performed: the thread faults and its job counts it, the first fault giving cause, core, thread and address; a
refusal by the fence is captured with its source and address (R348, R371). A fence finds nothing to wait for, since
every operation is complete at its command's end (R346; the model's choice, log 36). A thread that does not run
changes nothing, and an access to HBM4 that Remount moves waits (R467). -/
def Obligations.ThreadMemoryCommands : Prop :=
  ∀ s : State, s.pins.powered = true →
    (∀ (a : ThrNo) (j : LJob) (t : LThr) (rd : Fin 256) (addr p : Nat) (m : LMem) (k : Fin 8), s.thread a = some (j,
      t) → s.access a j addr (4 * 2 ^ k.val) true false = .ok p m → s.moving p (4 * 2 ^ k.val) = false → ∃ t', exec
      (.threadLoad a rd addr k .clean) s = .next t' ∧ (∃ x ∈ t'.lks.threads, x.is a = true ∧ ∀ i < 2 ^ k.val, rd.val +
      i < 256 → x.reg (rd.val + i) = BitVec.ofNat 32 (s.memNat (p + 4 * i) 4)) ∧ t'.mem = s.mem ∧ t'.regs = s.regs ∧
      t'.lks.jobs = s.lks.jobs ∧ t'.out = s.out) ∧
    (∀ (a : ThrNo) (j : LJob) (t : LThr) (rd : Fin 256) (addr p : Nat) (m : LMem) (k : Fin 8), s.thread a = some (j,
      t) → s.access a j addr (4 * 2 ^ k.val) true false = .ok p m → s.moving p (4 * 2 ^ k.val) = false → ∃ t', exec
      (.threadLoad a rd addr k .corrected) s = .next t' ∧ (∃ x ∈ t'.lks.threads, x.is a = true ∧ ∀ i < 2 ^ k.val,
      rd.val + i < 256 → x.reg (rd.val + i) = BitVec.ofNat 32 (s.memNat (p + 4 * i) 4)) ∧ t'.mem = s.mem ∧ (m = .hbm0
      ∨ m = .sys → t'.get (LKS_ECC_CE_HBM 0) = min (s.get (LKS_ECC_CE_HBM 0) + 1) (2 ^ (LKS_ECC_CE_HBM 0).w - 1)) ∧ (m
      = .hbm1 → t'.get (LKS_ECC_CE_HBM 1) = min (s.get (LKS_ECC_CE_HBM 1) + 1) (2 ^ (LKS_ECC_CE_HBM 1).w - 1)) ∧ (m =
      .sram a.die a.core → t'.get (LKS_ECC_CE_SRAM a.die) = min (s.get (LKS_ECC_CE_SRAM a.die) + 1) (2 ^
      (LKS_ECC_CE_SRAM a.die).w - 1) ∧ t'.get (LKS_CORE_CE_CNT a.die a.core) = min (s.get (LKS_CORE_CE_CNT a.die
      a.core) + 1) (2 ^ (LKS_CORE_CE_CNT a.die a.core).w - 1))) ∧
    (∀ (a : ThrNo) (j : LJob) (t : LThr) (rd : Fin 256) (addr p : Nat) (m : LMem) (k : Fin 8), s.thread a = some (j,
      t) → s.access a j addr (4 * 2 ^ k.val) true false = .ok p m → s.moving p (4 * 2 ^ k.val) = false → ∃ t', exec
      (.threadLoad a rd addr k .uncorrectable) s = .next t' ∧ (∃ x ∈ t'.lks.threads, x.is a = true ∧ x.faulted = true)
      ∧ (∃ e ∈ t'.lks.jobs, e.cmd = j.cmd ∧ e.die = j.die ∧ e.q = j.q ∧ e.faulted = j.faulted + 1 ∧ (j.faulted = 0 →
      e.cause = 5 ∧ e.core = a.core.val ∧ e.thread = a.thr.val ∧ e.addr = addr)) ∧ t'.mem = s.mem ∧ p / 64 ∈
      t'.lks.poison ∧ t'.isSet (LKS_DIE_STATUS_UE a.die) = true ∧ t'.get (LKS_ECC_UE a.die) = min (s.get (LKS_ECC_UE
      a.die) + 1) (2 ^ (LKS_ECC_UE a.die).w - 1)) ∧
    (∀ (a : ThrNo) (j : LJob) (t : LThr) (rs : Fin 256) (addr p : Nat) (m : LMem) (k : Fin 8), s.thread a = some (j,
      t) → s.access a j addr (4 * 2 ^ k.val) false false = .ok p m → s.moving p (4 * 2 ^ k.val) = false → ∃ t', exec
      (.threadStore a rs addr k) s = .next t' ∧ (∀ i < 2 ^ k.val, t'.memNat (p + 4 * i) 4 = (t.reg (rs.val +
      i)).toNat) ∧ t'.regs = s.regs ∧ t'.lks.jobs = s.lks.jobs ∧ t'.out = s.out ∧ t'.lks.threads = s.lks.threads ∧ (∀
      u, u < p ∨ p + 4 * 2 ^ k.val ≤ u → t'.memByte u = s.memByte u)) ∧
    (∀ (a : ThrNo) (j : LJob) (t : LThr) (op : AtomOp) (sg : Bool) (addr p : Nat) (m : LMem) (rs rc rd : Fin 256),
      s.thread a = some (j, t) → s.access a j addr 4 true true = .ok p m → s.moving p 4 = false → ∃ t', exec (.atomic
      a op false sg addr rs rc rd) s = .next t' ∧ t'.memNat p 4 = atomResult op 32 sg (s.memNat p 4) (t.reg rs).toNat
      (t.reg rc).toNat ∧ (∃ x ∈ t'.lks.threads, x.is a = true ∧ x.reg rd.val = BitVec.ofNat 32 (s.memNat p 4)) ∧
      t'.regs = s.regs ∧ t'.lks.jobs = s.lks.jobs ∧ t'.out = s.out ∧ (∀ u, u < p ∨ p + 4 ≤ u → t'.memByte u =
      s.memByte u)) ∧
    (∀ (a : ThrNo) (j : LJob) (t : LThr) (op : AtomOp) (sg : Bool) (addr p : Nat) (m : LMem) (rs rc rd : Fin 256),
      s.thread a = some (j, t) → s.access a j addr 8 true true = .ok p m → s.moving p 8 = false → ∃ t', exec (.atomic
      a op true sg addr rs rc rd) s = .next t' ∧ t'.memNat p 8 = atomResult op 64 sg (s.memNat p 8) ((t.reg rs).toNat
      + 0x100000000 * (t.reg (rs.val + 1)).toNat) ((t.reg rc).toNat + 0x100000000 * (t.reg (rc.val + 1)).toNat) ∧ (∃ x
      ∈ t'.lks.threads, x.is a = true ∧ (rd.val < 255 → x.reg rd.val = BitVec.ofNat 32 (s.memNat p 8) ∧ x.reg (rd.val
      + 1) = BitVec.ofNat 32 (s.memNat p 8 / 0x100000000))) ∧ t'.regs = s.regs ∧ t'.lks.jobs = s.lks.jobs ∧ t'.out =
      s.out ∧ (∀ u, u < p ∨ p + 8 ≤ u → t'.memByte u = s.memByte u)) ∧
    (∀ (op : AtomOp) (w v old c : Nat) (g : Bool), atomResult op w g old v c = (match op with
      | .add => (old + v) % 2 ^ w
      | .swap => v
      | .cas => if old = c then v else old
      | .min => if (if g then decide (signedOf w v < signedOf w old) else decide (v < old)) then v else old
      | .max => if (if g then decide (signedOf w old < signedOf w v) else decide (old < v)) then v else old)) ∧
    (∀ (a : ThrNo) (j : LJob) (t : LThr) (rd : Fin 256) (addr : Nat) (k : Fin 8) (ec : EccIn) (c v : Nat), s.thread a
      = some (j, t) → s.access a j addr (4 * 2 ^ k.val) true false = .fault c v none → ∃ t', exec (.threadLoad a rd
      addr k ec) s = .next t' ∧ (∃ x ∈ t'.lks.threads, x.is a = true ∧ x.faulted = true) ∧ (∃ e ∈ t'.lks.jobs, e.cmd =
      j.cmd ∧ e.die = j.die ∧ e.q = j.q ∧ e.faulted = j.faulted + 1 ∧ (j.faulted = 0 → e.cause = c ∧ e.core =
      a.core.val ∧ e.thread = a.thr.val ∧ e.addr = v)) ∧ t'.mem = s.mem) ∧
    (∀ (a : ThrNo) (j : LJob) (t : LThr) (rd : Fin 256) (addr : Nat) (k : Fin 8) (ec : EccIn) (c v kd : Nat), s.thread
      a = some (j, t) → s.access a j addr (4 * 2 ^ k.val) true false = .fault c v (some kd) → ∃ t', exec (.threadLoad
      a rd addr k ec) s = .next t' ∧ (∃ x ∈ t'.lks.threads, x.is a = true ∧ x.faulted = true) ∧ (∃ e ∈ t'.lks.jobs,
      e.cmd = j.cmd ∧ e.die = j.die ∧ e.q = j.q ∧ e.faulted = j.faulted + 1 ∧ (j.faulted = 0 → e.cause = c ∧ e.core =
      a.core.val ∧ e.thread = a.thr.val ∧ e.addr = v)) ∧ t'.mem = s.mem ∧ t'.isSet (LKS_FENCE_ERR_VALID a.die) = true
      ∧ t'.isSet (LKS_DIE_STATUS_FENCE a.die) = true ∧ t'.get (LKS_FENCE_ERR_COUNT a.die) = min (s.get
      (LKS_FENCE_ERR_COUNT a.die) + 1) (2 ^ (LKS_FENCE_ERR_COUNT a.die).w - 1) ∧ (s.isSet (LKS_FENCE_ERR_VALID a.die)
      = false → t'.get (LKS_FENCE_ERR_SOURCE a.die) = a.core.val ∧ t'.rdN (LKS_FENCE_ADDR_LO a.die) = canonAddr a.die
      a.core addr % 2 ^ 32)) ∧
    (∀ (a : ThrNo) (rd : Fin 256) (addr : Nat) (k : Fin 8) (ec : EccIn), s.thread a = none → exec (.threadLoad a rd
      addr k ec) s = .next s) ∧
    (∀ (a : ThrNo) (j : LJob) (t : LThr) (rd : Fin 256) (addr : Nat) (k : Fin 8) (ec : EccIn) (p : Nat) (m : LMem),
      s.thread a = some (j, t) → s.access a j addr (4 * 2 ^ k.val) true false = .ok p m → s.moving p (4 * 2 ^ k.val) =
      true → exec (.threadLoad a rd addr k ec) s = .next s) ∧
    (∀ (a : ThrNo) (j : LJob) (t : LThr) (rs : Fin 256) (addr : Nat) (k : Fin 8) (c v : Nat), s.thread a = some (j, t)
      → s.access a j addr (4 * 2 ^ k.val) false false = .fault c v none → ∃ t', exec (.threadStore a rs addr k) s =
      .next t' ∧ (∃ x ∈ t'.lks.threads, x.is a = true ∧ x.faulted = true) ∧ (∃ e ∈ t'.lks.jobs, e.cmd = j.cmd ∧ e.die
      = j.die ∧ e.q = j.q ∧ e.faulted = j.faulted + 1 ∧ (j.faulted = 0 → e.cause = c ∧ e.core = a.core.val ∧ e.thread
      = a.thr.val ∧ e.addr = v)) ∧ t'.mem = s.mem) ∧
    (∀ (a : ThrNo) (j : LJob) (t : LThr) (rs : Fin 256) (addr : Nat) (k : Fin 8) (c v kd : Nat), s.thread a = some (j,
      t) → s.access a j addr (4 * 2 ^ k.val) false false = .fault c v (some kd) → ∃ t', exec (.threadStore a rs addr
      k) s = .next t' ∧ (∃ x ∈ t'.lks.threads, x.is a = true ∧ x.faulted = true) ∧ (∃ e ∈ t'.lks.jobs, e.cmd = j.cmd ∧
      e.die = j.die ∧ e.q = j.q ∧ e.faulted = j.faulted + 1 ∧ (j.faulted = 0 → e.cause = c ∧ e.core = a.core.val ∧
      e.thread = a.thr.val ∧ e.addr = v)) ∧ t'.mem = s.mem ∧ t'.isSet (LKS_FENCE_ERR_VALID a.die) = true ∧ t'.isSet
      (LKS_DIE_STATUS_FENCE a.die) = true ∧ t'.get (LKS_FENCE_ERR_COUNT a.die) = min (s.get (LKS_FENCE_ERR_COUNT
      a.die) + 1) (2 ^ (LKS_FENCE_ERR_COUNT a.die).w - 1) ∧ (s.isSet (LKS_FENCE_ERR_VALID a.die) = false → t'.get
      (LKS_FENCE_ERR_SOURCE a.die) = a.core.val ∧ t'.rdN (LKS_FENCE_ADDR_LO a.die) = canonAddr a.die a.core addr % 2 ^
      32)) ∧
    (∀ (a : ThrNo) (rs : Fin 256) (addr : Nat) (k : Fin 8), s.thread a = none → exec (.threadStore a rs addr k) s =
      .next s) ∧
    (∀ (a : ThrNo) (j : LJob) (t : LThr) (rs : Fin 256) (addr : Nat) (k : Fin 8) (p : Nat) (m : LMem), s.thread a =
      some (j, t) → s.access a j addr (4 * 2 ^ k.val) false false = .ok p m → s.moving p (4 * 2 ^ k.val) = true → exec
      (.threadStore a rs addr k) s = .next s) ∧
    (∀ (a : ThrNo) (j : LJob) (t : LThr) (op : AtomOp) (wd sg : Bool) (addr : Nat) (rs rc rd : Fin 256) (c v : Nat),
      s.thread a = some (j, t) → s.access a j addr (if wd then 8 else 4) true true = .fault c v none → ∃ t', exec
      (.atomic a op wd sg addr rs rc rd) s = .next t' ∧ (∃ x ∈ t'.lks.threads, x.is a = true ∧ x.faulted = true) ∧ (∃
      e ∈ t'.lks.jobs, e.cmd = j.cmd ∧ e.die = j.die ∧ e.q = j.q ∧ e.faulted = j.faulted + 1 ∧ (j.faulted = 0 →
      e.cause = c ∧ e.core = a.core.val ∧ e.thread = a.thr.val ∧ e.addr = v)) ∧ t'.mem = s.mem) ∧
    (∀ (a : ThrNo) (j : LJob) (t : LThr) (op : AtomOp) (wd sg : Bool) (addr : Nat) (rs rc rd : Fin 256) (c v kd :
      Nat), s.thread a = some (j, t) → s.access a j addr (if wd then 8 else 4) true true = .fault c v (some kd) → ∃
      t', exec (.atomic a op wd sg addr rs rc rd) s = .next t' ∧ (∃ x ∈ t'.lks.threads, x.is a = true ∧ x.faulted =
      true) ∧ (∃ e ∈ t'.lks.jobs, e.cmd = j.cmd ∧ e.die = j.die ∧ e.q = j.q ∧ e.faulted = j.faulted + 1 ∧ (j.faulted =
      0 → e.cause = c ∧ e.core = a.core.val ∧ e.thread = a.thr.val ∧ e.addr = v)) ∧ t'.mem = s.mem ∧ t'.isSet
      (LKS_FENCE_ERR_VALID a.die) = true ∧ t'.isSet (LKS_DIE_STATUS_FENCE a.die) = true ∧ t'.get (LKS_FENCE_ERR_COUNT
      a.die) = min (s.get (LKS_FENCE_ERR_COUNT a.die) + 1) (2 ^ (LKS_FENCE_ERR_COUNT a.die).w - 1) ∧ (s.isSet
      (LKS_FENCE_ERR_VALID a.die) = false → t'.get (LKS_FENCE_ERR_SOURCE a.die) = a.core.val ∧ t'.rdN
      (LKS_FENCE_ADDR_LO a.die) = canonAddr a.die a.core addr % 2 ^ 32)) ∧
    (∀ (a : ThrNo) (op : AtomOp) (wd sg : Bool) (addr : Nat) (rs rc rd : Fin 256), s.thread a = none → exec (.atomic a
      op wd sg addr rs rc rd) s = .next s) ∧
    (∀ (a : ThrNo) (j : LJob) (t : LThr) (op : AtomOp) (wd sg : Bool) (addr : Nat) (rs rc rd : Fin 256) (p : Nat) (m :
      LMem), s.thread a = some (j, t) → s.access a j addr (if wd then 8 else 4) true true = .ok p m → s.moving p (if
      wd then 8 else 4) = true → exec (.atomic a op wd sg addr rs rc rd) s = .next s) ∧
    (∀ (a : ThrNo) (sc : Scope), exec (.memoryFence a sc) s = .next s)

/-- An access that faults on nothing lies, at the address that the map gives it, whole in one memory of the map, is
not refused by the partition fence, is aligned to its own size, does not perform an atomic on DDR5 and does not read
poisoned data; every other access faults, with cause 1 outside the map, 2 where the fence refuses, 3 misaligned, 4 for
an atomic on DDR5 and 5 for poisoned data (R348, R363, R370). -/
def Obligations.AccessesLetThrough : Prop :=
  ∀ (s : State) (a : ThrNo) (j : LJob) (addr n : Nat) (reads atomic : Bool),
    (∀ p m, s.access a j addr n reads atomic = .ok p m →
      p = canonAddr a.die a.core addr ∧ s.memOf p = some m ∧ (1 < n → s.memOf (p + n - 1) = some m) ∧
      s.refusedAt (.core a.die a.core (j.q < 8)) m p n = none ∧ addr % n = 0 ∧
      (atomic = true → m ≠ .ddr 0 ∧ m ≠ .ddr 1) ∧ (reads = true → s.poisoned p n = false)) ∧
    (∀ c x k, s.access a j addr n reads atomic = .fault c x k → x = addr ∧ (k.isSome = true ↔ c = 2) ∧
      ((c = 1 ∧ s.memSpan (canonAddr a.die a.core addr) n = none) ∨
       (c = 2 ∧ ∃ m, s.memSpan (canonAddr a.die a.core addr) n = some m ∧
         s.refusedAt (.core a.die a.core (j.q < 8)) m (canonAddr a.die a.core addr) n = k) ∨
       (c = 3 ∧ addr % n ≠ 0) ∨
       (c = 4 ∧ atomic = true ∧ ∃ e, s.memSpan (canonAddr a.die a.core addr) n = some (.ddr e)) ∨
       (c = 5 ∧ reads = true ∧ s.poisoned (canonAddr a.die a.core addr) n = true)))

/-- The bytes that a store writes at an address of module memory read back in order, and every byte outside them reads
as before, undefined ones too (R345, R346, R363). After a copy between ranges that do not overlap each byte of the
destination reads as the source's byte did, an undefined one as the same undefined byte, and every byte outside the
destination reads as before (R368). -/
def Obligations.StoreReadsBack : Prop :=
  (∀ (s : State) (a : Nat) (l : List Byte),
    (s.memPut a l).memBytes a l.length = l ∧
    ∀ x, x < a ∨ a + l.length ≤ x → (s.memPut a l).memByte x = s.memByte x) ∧
  ∀ (s : State) (src dst n : Nat), sparseWf blankByte s.mem = true → (src + n ≤ dst ∨ dst + n ≤ src) →
    (∀ i < n, (s.memCopy src dst n).memByte (dst + i) = s.memByte (src + i)) ∧
    ∀ x, x < dst ∨ dst + n ≤ x → (s.memCopy src dst n).memByte x = s.memByte x

/-- A matrix instruction whose formats make a pair of R350, whose K has R349's shape and whose operands lie whole and
unpoisoned in the core's SRAM accumulates its tile onto the engine's accumulator set, from zeros where the set holds
nothing, with the thread's sticky flags joined, and changes no memory; written out, the tile's 4 KiB stand at their
address and the set is empty (R349, R351, R359). Another format pair faults the thread with cause 6, another shape or
a scale for a format without one with cause 7, an operand outside the SRAM with cause 1, and a poisoned one with cause
5 (R348, R350). A vector multiply-add takes each lane's elements through the fused operation of its format, reading
every source before it writes, and a format without one faults with cause 7 (R348, R352). A transcendental writes one
FP32 result that depends on the function and the input alone (R352; where the spec does not state its bits they are a
free value, log 2). A conversion writes one converted element per register, with the source's block scale where it has
one, and the target's where it takes one; a scale for a format without one faults with cause 7 (R355, R357). A thread
that does not run changes nothing. -/
def Obligations.ThreadArithmeticCommands : Prop :=
  ∀ s : State, s.pins.powered = true →
    (∀ (i : TileIn) (j : LJob) (t : LThr), s.thread i.at_ = some (j, t) → pairOk i.fa i.fb = true → 0 < i.k → i.k % 32
      = 0 → i.k ≤ 4096 → (i.sa.isSome = true → fmtScaled i.fa = true) → (i.sb.isSome = true → fmtScaled i.fb = true) →
      (∀ x ∈ tileSpans i, x.1 + x.2 ≤ 0x600000) → (∀ x ∈ tileSpans i, s.poisoned (sramBase i.at_.die i.at_.core + x.1)
      x.2 = false) → i.out = none → s.acc i = none → ∃ t', exec (.matrixTile i) s = .next t' ∧ (∃ x ∈ t'.lks.accs,
      x.die = i.at_.die.val ∧ x.core = i.at_.core.val ∧ x.engine = i.engine.val ∧ x.set_ = i.set_.val ∧ x.kind =
      accKind i.fa (i.sa.isSome || i.sb.isSome) ∧ x.cells = (tile (s.tileData i) (accKind i.fa (i.sa.isSome ||
      i.sb.isSome)) (List.replicate 1024 0)).1) ∧ (∃ x ∈ t'.lks.threads, x.is i.at_ = true ∧ x.nv = (t.nv || (tile
      (s.tileData i) (accKind i.fa (i.sa.isSome || i.sb.isSome)) (List.replicate 1024 0)).2.nv) ∧ x.ovf = (t.ovf ||
      (tile (s.tileData i) (accKind i.fa (i.sa.isSome || i.sb.isSome)) (List.replicate 1024 0)).2.ovf) ∧ x.uf = (t.uf
      || (tile (s.tileData i) (accKind i.fa (i.sa.isSome || i.sb.isSome)) (List.replicate 1024 0)).2.uf)) ∧ t'.mem =
      s.mem ∧ t'.regs = s.regs ∧ t'.lks.jobs = s.lks.jobs) ∧
    (∀ (i : TileIn) (j : LJob) (t : LThr) (y : LAcc), s.thread i.at_ = some (j, t) → pairOk i.fa i.fb = true → 0 < i.k
      → i.k % 32 = 0 → i.k ≤ 4096 → (i.sa.isSome = true → fmtScaled i.fa = true) → (i.sb.isSome = true → fmtScaled
      i.fb = true) → (∀ x ∈ tileSpans i, x.1 + x.2 ≤ 0x600000) → (∀ x ∈ tileSpans i, s.poisoned (sramBase i.at_.die
      i.at_.core + x.1) x.2 = false) → i.out = none → s.acc i = some y → y.kind = accKind i.fa (i.sa.isSome ||
      i.sb.isSome) → ∃ t', exec (.matrixTile i) s = .next t' ∧ (∃ x ∈ t'.lks.accs, x.die = i.at_.die.val ∧ x.core =
      i.at_.core.val ∧ x.engine = i.engine.val ∧ x.set_ = i.set_.val ∧ x.kind = accKind i.fa (i.sa.isSome ||
      i.sb.isSome) ∧ x.cells = (tile (s.tileData i) (accKind i.fa (i.sa.isSome || i.sb.isSome)) y.cells).1) ∧ (∃ x ∈
      t'.lks.threads, x.is i.at_ = true ∧ x.nv = (t.nv || (tile (s.tileData i) (accKind i.fa (i.sa.isSome ||
      i.sb.isSome)) y.cells).2.nv) ∧ x.ovf = (t.ovf || (tile (s.tileData i) (accKind i.fa (i.sa.isSome ||
      i.sb.isSome)) y.cells).2.ovf) ∧ x.uf = (t.uf || (tile (s.tileData i) (accKind i.fa (i.sa.isSome || i.sb.isSome))
      y.cells).2.uf)) ∧ t'.mem = s.mem ∧ t'.regs = s.regs ∧ t'.lks.jobs = s.lks.jobs) ∧
    (∀ (i : TileIn) (j : LJob) (t : LThr) (y : LAcc), s.thread i.at_ = some (j, t) → pairOk i.fa i.fb = true → 0 < i.k
      → i.k % 32 = 0 → i.k ≤ 4096 → (i.sa.isSome = true → fmtScaled i.fa = true) → (i.sb.isSome = true → fmtScaled
      i.fb = true) → (∀ x ∈ tileSpans i, x.1 + x.2 ≤ 0x600000) → (∀ x ∈ tileSpans i, s.poisoned (sramBase i.at_.die
      i.at_.core + x.1) x.2 = false) → i.out = none → s.acc i = some y → y.kind ≠ accKind i.fa (i.sa.isSome ||
      i.sb.isSome) → ∃ t', exec (.matrixTile i) s = .next t' ∧ (∃ x ∈ t'.lks.accs, x.die = i.at_.die.val ∧ x.core =
      i.at_.core.val ∧ x.engine = i.engine.val ∧ x.set_ = i.set_.val ∧ x.kind = accKind i.fa (i.sa.isSome ||
      i.sb.isSome) ∧ x.cells.length = 1024) ∧ t'.mem = s.mem ∧ t'.regs = s.regs ∧ t'.lks.jobs = s.lks.jobs) ∧
    (∀ (i : TileIn) (j : LJob) (t : LThr) (o p : Nat) (m : LMem), s.thread i.at_ = some (j, t) → pairOk i.fa i.fb =
      true → 0 < i.k → i.k % 32 = 0 → i.k ≤ 4096 → (i.sa.isSome = true → fmtScaled i.fa = true) → (i.sb.isSome = true
      → fmtScaled i.fb = true) → (∀ x ∈ tileSpans i, x.1 + x.2 ≤ 0x600000) → (∀ x ∈ tileSpans i, s.poisoned (sramBase
      i.at_.die i.at_.core + x.1) x.2 = false) → i.out = some o → s.acc i = none → s.access i.at_ j o 4096 false false
      = .ok p m → s.moving p 4096 = false → ∃ t', exec (.matrixTile i) s = .next t' ∧ t'.memBytes p 4096 = ((tile
      (s.tileData i) (accKind i.fa (i.sa.isSome || i.sb.isSome)) (List.replicate 1024 0)).1.map fun c => leBytes 4
      (cellOut (accKind i.fa (i.sa.isSome || i.sb.isSome)) c).1.toNat).flatten ∧ (∀ u, u < p ∨ p + 4096 ≤ u →
      t'.memByte u = s.memByte u) ∧ (∀ x ∈ t'.lks.accs, ¬(x.die = i.at_.die.val ∧ x.core = i.at_.core.val ∧ x.engine =
      i.engine.val ∧ x.set_ = i.set_.val)) ∧ t'.regs = s.regs ∧ t'.lks.jobs = s.lks.jobs) ∧
    (∀ (i : TileIn) (j : LJob) (t : LThr), s.thread i.at_ = some (j, t) → pairOk i.fa i.fb = false → ∃ t', exec
      (.matrixTile i) s = .next t' ∧ (∃ x ∈ t'.lks.threads, x.is i.at_ = true ∧ x.faulted = true) ∧ (∃ e ∈
      t'.lks.jobs, e.cmd = j.cmd ∧ e.die = j.die ∧ e.q = j.q ∧ e.faulted = j.faulted + 1 ∧ (j.faulted = 0 → e.cause =
      6 ∧ e.core = i.at_.core.val ∧ e.thread = i.at_.thr.val ∧ e.addr = 0)) ∧ t'.mem = s.mem) ∧
    (∀ (i : TileIn) (j : LJob) (t : LThr), s.thread i.at_ = some (j, t) → pairOk i.fa i.fb = true → (i.k = 0 ∨ i.k %
      32 ≠ 0 ∨ 4096 < i.k ∨ (i.sa.isSome = true ∧ fmtScaled i.fa = false) ∨ (i.sb.isSome = true ∧ fmtScaled i.fb =
      false)) → ∃ t', exec (.matrixTile i) s = .next t' ∧ (∃ x ∈ t'.lks.threads, x.is i.at_ = true ∧ x.faulted = true)
      ∧ (∃ e ∈ t'.lks.jobs, e.cmd = j.cmd ∧ e.die = j.die ∧ e.q = j.q ∧ e.faulted = j.faulted + 1 ∧ (j.faulted = 0 →
      e.cause = 7 ∧ e.core = i.at_.core.val ∧ e.thread = i.at_.thr.val ∧ e.addr = 0)) ∧ t'.mem = s.mem) ∧
    (∀ (i : TileIn) (j : LJob) (t : LThr) (v : Nat × Nat), s.thread i.at_ = some (j, t) → pairOk i.fa i.fb = true → 0
      < i.k → i.k % 32 = 0 → i.k ≤ 4096 → (i.sa.isSome = true → fmtScaled i.fa = true) → (i.sb.isSome = true →
      fmtScaled i.fb = true) → (tileSpans i).find? (fun x => decide (0x600000 < x.1 + x.2)) = some v → ∃ t', exec
      (.matrixTile i) s = .next t' ∧ (∃ x ∈ t'.lks.threads, x.is i.at_ = true ∧ x.faulted = true) ∧ (∃ e ∈
      t'.lks.jobs, e.cmd = j.cmd ∧ e.die = j.die ∧ e.q = j.q ∧ e.faulted = j.faulted + 1 ∧ (j.faulted = 0 → e.cause =
      1 ∧ e.core = i.at_.core.val ∧ e.thread = i.at_.thr.val ∧ e.addr = v.1)) ∧ t'.mem = s.mem) ∧
    (∀ (i : TileIn) (j : LJob) (t : LThr) (v : Nat × Nat), s.thread i.at_ = some (j, t) → pairOk i.fa i.fb = true → 0
      < i.k → i.k % 32 = 0 → i.k ≤ 4096 → (i.sa.isSome = true → fmtScaled i.fa = true) → (i.sb.isSome = true →
      fmtScaled i.fb = true) → (∀ x ∈ tileSpans i, x.1 + x.2 ≤ 0x600000) → (tileSpans i).find? (fun x => s.poisoned
      (sramBase i.at_.die i.at_.core + x.1) x.2) = some v → ∃ t', exec (.matrixTile i) s = .next t' ∧ (∃ x ∈
      t'.lks.threads, x.is i.at_ = true ∧ x.faulted = true) ∧ (∃ e ∈ t'.lks.jobs, e.cmd = j.cmd ∧ e.die = j.die ∧ e.q
      = j.q ∧ e.faulted = j.faulted + 1 ∧ (j.faulted = 0 → e.cause = 5 ∧ e.core = i.at_.core.val ∧ e.thread =
      i.at_.thr.val ∧ e.addr = v.1)) ∧ t'.mem = s.mem) ∧
    (∀ (i : TileIn), s.thread i.at_ = none → exec (.matrixTile i) s = .next s) ∧
    (∀ (i : VecIn) (j : LJob) (t : LThr), s.thread i.at_ = some (j, t) → (i.fmt = .fp32 ∨ i.fmt = .bf16 ∨ i.fmt =
      .fp16 ∨ i.fmt = .q131) → i.mode ≠ .sr → ∃ t', exec (.vectorOp i) s = .next t' ∧ (∃ x ∈ t'.lks.threads, x.is
      i.at_ = true ∧ ∀ k < i.n.val, i.d.val + k < 256 → x.reg (i.d.val + k) = BitVec.ofNat 32 (fmaCode i.fmt i.mode 0
      (t.reg (i.a.val + k)).toNat (t.reg (i.b.val + k)).toNat (t.reg (i.c.val + k)).toNat).1) ∧ t'.mem = s.mem ∧
      t'.regs = s.regs ∧ t'.lks.jobs = s.lks.jobs ∧ t'.out = s.out) ∧
    (∀ (i : VecIn) (j : LJob) (t : LThr), s.thread i.at_ = some (j, t) → (i.fmt = .fp32 ∨ i.fmt = .bf16 ∨ i.fmt =
      .fp16 ∨ i.fmt = .q131) → i.mode = .sr → ∃ t', exec (.vectorOp i) s = .next t' ∧ (∃ x ∈ t'.lks.threads, x.is
      i.at_ = true ∧ x.draws = t.draws + i.n.val ∧ ∀ k < i.n.val, i.d.val + k < 256 → x.reg (i.d.val + k) =
      BitVec.ofNat 32 (fmaCode i.fmt .sr (Config.randomBits (t.seed * 0x100000000 + (t.draws + k)) % 65536) (t.reg
      (i.a.val + k)).toNat (t.reg (i.b.val + k)).toNat (t.reg (i.c.val + k)).toNat).1) ∧ t'.mem = s.mem ∧ t'.regs =
      s.regs ∧ t'.lks.jobs = s.lks.jobs ∧ t'.out = s.out) ∧
    (∀ (i : VecIn) (j : LJob) (t : LThr), s.thread i.at_ = some (j, t) → i.fmt ≠ .fp32 → i.fmt ≠ .bf16 → i.fmt ≠ .fp16
      → i.fmt ≠ .q131 → ∃ t', exec (.vectorOp i) s = .next t' ∧ (∃ x ∈ t'.lks.threads, x.is i.at_ = true ∧ x.faulted =
      true) ∧ (∃ e ∈ t'.lks.jobs, e.cmd = j.cmd ∧ e.die = j.die ∧ e.q = j.q ∧ e.faulted = j.faulted + 1 ∧ (j.faulted =
      0 → e.cause = 7 ∧ e.core = i.at_.core.val ∧ e.thread = i.at_.thr.val ∧ e.addr = 0)) ∧ t'.mem = s.mem) ∧
    (∀ (a : ThrNo) (j : LJob) (t : LThr) (f : TransFn) (src dst : Fin 256), s.thread a = some (j, t) → ∃ t', exec
      (.transcendental a f src dst) s = .next t' ∧ (∃ x ∈ t'.lks.threads, x.is a = true ∧ x.reg dst.val = transResult
      f (t.reg src.val)) ∧ t'.mem = s.mem ∧ t'.regs = s.regs ∧ t'.lks.jobs = s.lks.jobs ∧ t'.out = s.out) ∧
    (∀ (i : ConvIn) (j : LJob) (t : LThr), s.thread i.at_ = some (j, t) → i.srcScale = none → i.dstScale = none →
      i.mode ≠ .sr → ∃ t', exec (.conversion i) s = .next t' ∧ (∃ x ∈ t'.lks.threads, x.is i.at_ = true ∧ ∀ k <
      i.n.val, i.dst.val + k < 256 → x.reg (i.dst.val + k) = BitVec.ofNat 32 (nanSign i.from_ i.to_ (t.reg (i.src.val
      + k)).toNat (encodeVal i.to_ i.mode i.sat 0 (decodeVal i.from_ (t.reg (i.src.val + k)).toNat)).1)) ∧ t'.mem =
      s.mem ∧ t'.regs = s.regs ∧ t'.lks.jobs = s.lks.jobs ∧ t'.out = s.out) ∧
    (∀ (i : ConvIn) (j : LJob) (t : LThr) (r : Fin 256), s.thread i.at_ = some (j, t) → i.srcScale = some r →
      i.dstScale = none → fmtScaled i.from_ = true → i.mode ≠ .sr → ∃ t', exec (.conversion i) s = .next t' ∧ (∃ x ∈
      t'.lks.threads, x.is i.at_ = true ∧ ∀ k < i.n.val, i.dst.val + k < 256 → x.reg (i.dst.val + k) = BitVec.ofNat 32
      (nanSign i.from_ i.to_ (t.reg (i.src.val + k)).toNat (encodeVal i.to_ i.mode i.sat 0 (scaleVal ((t.reg r).toNat
      % 256) (decodeVal i.from_ (t.reg (i.src.val + k)).toNat))).1)) ∧ t'.mem = s.mem ∧ t'.regs = s.regs ∧ t'.lks.jobs
      = s.lks.jobs ∧ t'.out = s.out) ∧
    (∀ (i : ConvIn) (j : LJob) (t : LThr) (r : Fin 256) (w : Nat), s.thread i.at_ = some (j, t) → i.srcScale = none →
      i.dstScale = some r → fmtScaled i.to_ = true → i.mode ≠ .sr → blockScale i.to_ ((List.range i.n).map fun k =>
      decodeVal i.from_ (t.reg (i.src.val + k)).toNat) = some w → ∃ t', exec (.conversion i) s = .next t' ∧ (∃ x ∈
      t'.lks.threads, x.is i.at_ = true ∧ x.reg r.val = BitVec.ofNat 32 w ∧ ∀ k < i.n.val, i.dst.val + k < 256 →
      i.dst.val + k ≠ r.val → x.reg (i.dst.val + k) = BitVec.ofNat 32 (nanSign i.from_ i.to_ (t.reg (i.src.val +
      k)).toNat (encodeVal i.to_ i.mode i.sat 0 (scaleVal (254 - w) (decodeVal i.from_ (t.reg (i.src.val +
      k)).toNat))).1)) ∧ t'.mem = s.mem ∧ t'.regs = s.regs ∧ t'.lks.jobs = s.lks.jobs ∧ t'.out = s.out) ∧
    (∀ (i : ConvIn) (j : LJob) (t : LThr), s.thread i.at_ = some (j, t) → (i.dstScale.isSome = true ∧ fmtScaled i.to_
      = false ∨ i.srcScale.isSome = true ∧ fmtScaled i.from_ = false) → ∃ t', exec (.conversion i) s = .next t' ∧ (∃ x
      ∈ t'.lks.threads, x.is i.at_ = true ∧ x.faulted = true) ∧ (∃ e ∈ t'.lks.jobs, e.cmd = j.cmd ∧ e.die = j.die ∧
      e.q = j.q ∧ e.faulted = j.faulted + 1 ∧ (j.faulted = 0 → e.cause = 7 ∧ e.core = i.at_.core.val ∧ e.thread =
      i.at_.thr.val ∧ e.addr = 0)) ∧ t'.mem = s.mem) ∧
    (∀ (i : VecIn), s.thread i.at_ = none → exec (.vectorOp i) s = .next s) ∧
    (∀ (i : ConvIn), s.thread i.at_ = none → exec (.conversion i) s = .next s) ∧
    (∀ (a : ThrNo) (f : TransFn) (src dst : Fin 256), s.thread a = none → exec (.transcendental a f src dst) s = .next
      s)

/-- With no job, command or burst of the die, a waking core becomes IDLE, or DRAINING where its gate was closed
meanwhile, and a draining core RETENTION, or WAKING where its gate was opened and its domain is clocked (R373, R391).
An idle core's gate closes after IDLE_US, where no job and no burst holds it (R392). A failing core takes its job with
it, once, counts an uncorrectable error and ends its part of a burst; one of the forecast partition stops the forecast
runtime (R372, R373, R390). A copied core runs on its spare and the old physical core is RETIRED; from FAILED its SRAM
is lost (R343, R374). The 100 us tick shows CAP_EFF, the lowest of the caps, and the estimate; HOST_DUTY falls by one
step while the cap is exceeded, FCST_DUTY on die 0 only while every other core rests, and with margin FCST_DUTY rises
to 16 before HOST_DUTY does, which stays while the die is suspended (R30, R361). Suspension needs HOST_DUTY at 0 for 1
ms and an estimate above the cap, resumption 10 ms of margin; it puts every suspended core back into RUN with
HOST_DUTY at least 1 (R362). A scrub of a clocked core counts what it corrects, and an uncorrectable error fails the
core (R365). -/
def Obligations.CoreCommands : Prop :=
  ∀ s : State, s.pins.powered = true →
    (∀ (d : Fin 2) (c : Fin 64), s.dieOk d = true → s.lks.jobs = [] → s.lks.train.burst = false → s.lks.queues =
      List.replicate 128 {} → s.coreSt d c = cWaking → s.lks.cores.length = 128 → ∃ t, exec (.coreWakeComplete d c) s
      = .next t ∧ t.get (LKS_CORE_STATE d c.val) = (if (s.core d c).gate = true then cIdle else cDrain) ∧ t.lks.jobs =
      [] ∧ t.mem = s.mem) ∧
    (∀ (d : Fin 2) (c : Fin 64), s.coreSt d c = cWaking → ∃ t, exec (.coreWakeComplete d c) s = .next t ∧ t.pins =
      s.pins ∧ t.fcst = s.fcst) ∧
    (∀ (d : Fin 2) (c : Fin 64), s.coreSt d c ≠ cWaking → exec (.coreWakeComplete d c) s = .next s) ∧
    (∀ (d : Fin 2) (c : Fin 64), s.dieOk d = true → s.lks.jobs = [] → s.lks.train.burst = false → s.lks.queues =
      List.replicate 128 {} → s.coreSt d c = cDrain → (s.core d c).gate = false → s.lks.cores.length = 128 → ∃ t, exec
      (.coreDrainComplete d c) s = .next t ∧ t.get (LKS_CORE_STATE d c.val) = cRet ∧ t.get (LKS_CORE_THREADS d c) = 0
      ∧ t.mem = s.mem) ∧
    (∀ (d : Fin 2) (c : Fin 64), s.dieOk d = true → s.lks.jobs = [] → s.lks.train.burst = false → s.lks.queues =
      List.replicate 128 {} → s.coreSt d c = cDrain → (s.core d c).gate = true → s.lks.cores.length = 128 → bitOf
      (s.rdN CLK_GATE_EFF) (coreDomain d c) = true → ∃ t, exec (.coreDrainComplete d c) s = .next t ∧ t.get
      (LKS_CORE_STATE d c.val) = cWaking ∧ t.mem = s.mem) ∧
    (∀ (d : Fin 2) (c : Fin 64), (s.coreSt d c ≠ cDrain ∨ (s.jobOn d c).isSome = true) → exec (.coreDrainComplete d c)
      s = .next s) ∧
    (∀ (d : Fin 2) (c : Fin 64), s.coreSt d c = cIdle → s.get (LKS_IDLE_CFG_IDLE_US d) ≠ 0 → (s.core d c).since + 100
      * s.get (LKS_IDLE_CFG_IDLE_US d) ≤ s.elapsed → s.jobHolds d c = false → s.burstHolds d c = false →
      s.lks.cores.length = 128 → ∃ t, exec (.coreIdleTimeout d c) s = .next t ∧ t.get (LKS_CORE_STATE d c.val) =
      cDrain ∧ (t.core d c).gate = false ∧ t.mem = s.mem) ∧
    (∀ (d : Fin 2) (c : Fin 64), (s.coreSt d c ≠ cIdle ∨ s.get (LKS_IDLE_CFG_IDLE_US d) = 0 ∨ s.elapsed < (s.core d
      c).since + 100 * s.get (LKS_IDLE_CFG_IDLE_US d) ∨ s.jobHolds d c = true ∨ s.burstHolds d c = true) → exec
      (.coreIdleTimeout d c) s = .next s) ∧
    (∀ (d : Fin 2) (c : Fin 64), s.dieOk d = true → s.coreSt d c ≠ cFailed → ∃ t, exec (.coreFailure d c) s = .next t
      ∧ t.get (LKS_CORE_STATE d c.val) = cFailed ∧ t.isSet (LKS_DIE_STATUS_UE d) = true ∧ t.get (LKS_ECC_UE d) = min
      (s.get (LKS_ECC_UE d) + 1) (2 ^ (LKS_ECC_UE d).w - 1) ∧ ((d.val, c.val) : Nat × Nat) ∉ t.lks.train.cores ∧
      (d.val = 0 → c.val < 16 → t.fcst.model = false)) ∧
    (∀ (d : Fin 2) (c : Fin 64) (j : LJob), s.dieOk d = true → s.coreSt d c ≠ cFailed → s.lks.jobs.find? (fun e =>
      e.die == d.val && e.cmd.mask.testBit c) = some j → ∃ t, exec (.coreFailure d c) s = .next t ∧ j ∉ t.lks.jobs ∧
      (tackQueue j.q = false → s.cqFull j.die j.q = false → (s.queue j.die j.q).held = [] → Out.hostWrite (s.rd64
      (LKS_Q_CQ_BASE_LO j.die j.q) (LKS_Q_CQ_BASE_HI j.die j.q) + 32 * s.get (LKS_Q_PTR_CQ_TAIL j.die j.q)) (modAt
      (s.jobBody j stFailed) 5 fun b => if (s.queue j.die j.q).phase then b ||| 1 else b) ∈ t.out)) ∧
    (∀ (d : Fin 2) (c : Fin 64), (s.dieOk d = false ∨ s.coreSt d c = cFailed) → exec (.coreFailure d c) s = .next s) ∧
    (∀ (d : Fin 2) (c : Fin 64), ((s.core d c).spare = 0 ∨ s.coreSt d c ≠ cCopy ∧ s.coreSt d c ≠ cFailed) → exec
      (.coreCopyComplete d c) s = .next s) ∧
    (∀ (d : Fin 2) (c : Fin 64) (k : Nat), s.dieOk d = true → (s.core d c).spare = k → 64 ≤ k → k < 68 → s.phys d c <
      64 → s.lks.cores.length = 128 → s.lks.jobs = [] → s.lks.train.burst = false → s.lks.queues = List.replicate 128
      {} → s.coreSt d c = cCopy → (s.core d c).before = cIdle → ∃ t, exec (.coreCopyComplete d c) s = .next t ∧ t.phys
      d c = k ∧ t.get (LKS_PCORE_ROLE d (s.phys d c)) = 2 ∧ t.get (LKS_PCORE_LOGICAL d (s.phys d c)) = 127 ∧ t.get
      (LKS_PCORE_ROLE d k) = 0 ∧ t.get (LKS_PCORE_LOGICAL d k) = c.val ∧ t.get (LKS_DIE_STATUS_SPARES_FREE d) = (s.get
      (LKS_DIE_STATUS_SPARES_FREE d) - 1) % 2 ^ (LKS_DIE_STATUS_SPARES_FREE d).w ∧ t.get (LKS_CORE_STATE d c.val) =
      cIdle ∧ (t.core d c).spare = 0 ∧ (t.core d c).image = (s.core d c).image ∧ t.mem = s.mem) ∧
    (∀ (d : Fin 2) (c : Fin 64) (k : Nat), s.dieOk d = true → (s.core d c).spare = k → 64 ≤ k → k < 68 → s.phys d c <
      64 → s.lks.cores.length = 128 → s.lks.jobs = [] → s.lks.train.burst = false → s.lks.queues = List.replicate 128
      {} → s.coreSt d c = cFailed → (s.core d c).gate = false → ∃ t, exec (.coreCopyComplete d c) s = .next t ∧ t.phys
      d c = k ∧ t.get (LKS_PCORE_ROLE d (s.phys d c)) = 2 ∧ t.get (LKS_PCORE_LOGICAL d (s.phys d c)) = 127 ∧ t.get
      (LKS_PCORE_ROLE d k) = 0 ∧ t.get (LKS_PCORE_LOGICAL d k) = c.val ∧ t.get (LKS_DIE_STATUS_SPARES_FREE d) = (s.get
      (LKS_DIE_STATUS_SPARES_FREE d) - 1) % 2 ^ (LKS_DIE_STATUS_SPARES_FREE d).w ∧ t.get (LKS_CORE_STATE d c.val) =
      cRet ∧ (t.core d c).spare = 0 ∧ (t.core d c).image = none ∧ t.lks.undef = (s.memLose (sramBase d c)
      0x600000).lks.undef) ∧
    (∀ (d : Fin 2) (c : Fin 64) (k : Nat), s.dieOk d = true → (s.core d c).spare = k → 64 ≤ k → k < 68 → s.phys d c <
      64 → s.lks.cores.length = 128 → (s.coreSt d c = cCopy ∨ s.coreSt d c = cFailed) → ∃ t, exec (.coreCopyComplete d
      c) s = .next t ∧ t.phys d c = k ∧ t.get (LKS_PCORE_ROLE d (s.phys d c)) = 2 ∧ t.get (LKS_PCORE_LOGICAL d (s.phys
      d c)) = 127 ∧ t.get (LKS_PCORE_ROLE d k) = 0 ∧ t.get (LKS_PCORE_LOGICAL d k) = c.val ∧ t.get
      (LKS_DIE_STATUS_SPARES_FREE d) = (s.get (LKS_DIE_STATUS_SPARES_FREE d) - 1) % 2 ^ (LKS_DIE_STATUS_SPARES_FREE
      d).w) ∧
    (∀ (d : Fin 2) (p e : Nat), s.dieOk d = false → exec (.powerCapTick d p e) s = .next s) ∧
    (∀ (d : Fin 2) (p e : Nat), s.dieOk d = true → s.get (LKS_PWR_STATUS_HOST_DUTY d) ≤ 16 → s.get
      (LKS_PWR_STATUS_FCST_DUTY d) ≤ 16 → (if (s.lks.dies.getD d {}).hot = true then 0 else min (min 150 (s.get
      (LKS_PWR_CAP_HOST_CAP d))) (min e (s.get BRD_COOL_LKS_CAP))) < p → ∃ t, exec (.powerCapTick d p e) s = .next t ∧
      t.get (LKS_PWR_STATUS_CAP_EFF d) = (if (s.lks.dies.getD d {}).hot = true then 0 else min (min 150 (s.get
      (LKS_PWR_CAP_HOST_CAP d))) (min e (s.get BRD_COOL_LKS_CAP))) ∧ t.get (LKS_PWR_STATUS_POWER d) = min p 255 ∧
      t.isSet (LKS_DIE_STATUS_CAP_ACTIVE d) = decide (t.get (LKS_PWR_STATUS_HOST_DUTY d) < 16 ∨ t.get
      (LKS_PWR_STATUS_FCST_DUTY d) < 16) ∧ (∀ c : Fin 64, t.get (LKS_CORE_DUTY d c) = t.get (if d = 0 ∧ c < 16 then
      LKS_PWR_STATUS_FCST_DUTY d else LKS_PWR_STATUS_HOST_DUTY d)) ∧ t.mem = s.mem ∧ t.lks.jobs = s.lks.jobs ∧ t.get
      (LKS_PWR_STATUS_HOST_DUTY d) = s.get (LKS_PWR_STATUS_HOST_DUTY d) - 1 ∧ t.get (LKS_PWR_STATUS_FCST_DUTY d) = (if
      d.val = 0 ∧ (∀ k < s.dies, ∀ c : Fin 64, k = 0 ∧ c < 16 ∨ s.coreSt k c = cRet ∨ s.coreSt k c = cSusp) then s.get
      (LKS_PWR_STATUS_FCST_DUTY d) - 1 else s.get (LKS_PWR_STATUS_FCST_DUTY d))) ∧
    (∀ (d : Fin 2) (p e : Nat), s.dieOk d = true → s.get (LKS_PWR_STATUS_HOST_DUTY d) ≤ 16 → s.get
      (LKS_PWR_STATUS_FCST_DUTY d) ≤ 16 → 100 * p ≤ 95 * (if (s.lks.dies.getD d {}).hot = true then 0 else min (min
      150 (s.get (LKS_PWR_CAP_HOST_CAP d))) (min e (s.get BRD_COOL_LKS_CAP))) → p < (if (s.lks.dies.getD d {}).hot =
      true then 0 else min (min 150 (s.get (LKS_PWR_CAP_HOST_CAP d))) (min e (s.get BRD_COOL_LKS_CAP))) → ∃ t, exec
      (.powerCapTick d p e) s = .next t ∧ t.get (LKS_PWR_STATUS_CAP_EFF d) = (if (s.lks.dies.getD d {}).hot = true
      then 0 else min (min 150 (s.get (LKS_PWR_CAP_HOST_CAP d))) (min e (s.get BRD_COOL_LKS_CAP))) ∧ t.get
      (LKS_PWR_STATUS_POWER d) = min p 255 ∧ t.isSet (LKS_DIE_STATUS_CAP_ACTIVE d) = decide (t.get
      (LKS_PWR_STATUS_HOST_DUTY d) < 16 ∨ t.get (LKS_PWR_STATUS_FCST_DUTY d) < 16) ∧ (∀ c : Fin 64, t.get
      (LKS_CORE_DUTY d c) = t.get (if d = 0 ∧ c < 16 then LKS_PWR_STATUS_FCST_DUTY d else LKS_PWR_STATUS_HOST_DUTY d))
      ∧ t.mem = s.mem ∧ t.lks.jobs = s.lks.jobs ∧ t.get (LKS_PWR_STATUS_FCST_DUTY d) = min (s.get
      (LKS_PWR_STATUS_FCST_DUTY d) + 1) 16 ∧ t.get (LKS_PWR_STATUS_HOST_DUTY d) = (if s.get (LKS_PWR_STATUS_FCST_DUTY
      d) < 16 ∨ s.isSet (LKS_DIE_STATUS_SUSPENDED d) = true then s.get (LKS_PWR_STATUS_HOST_DUTY d) else min (s.get
      (LKS_PWR_STATUS_HOST_DUTY d) + 1) 16)) ∧
    (∀ (d : Fin 2) (p e : Nat), s.dieOk d = true → s.get (LKS_PWR_STATUS_HOST_DUTY d) ≤ 16 → s.get
      (LKS_PWR_STATUS_FCST_DUTY d) ≤ 16 → p ≤ (if (s.lks.dies.getD d {}).hot = true then 0 else min (min 150 (s.get
      (LKS_PWR_CAP_HOST_CAP d))) (min e (s.get BRD_COOL_LKS_CAP))) → (95 * (if (s.lks.dies.getD d {}).hot = true then
      0 else min (min 150 (s.get (LKS_PWR_CAP_HOST_CAP d))) (min e (s.get BRD_COOL_LKS_CAP))) < 100 * p ∨ (if
      (s.lks.dies.getD d {}).hot = true then 0 else min (min 150 (s.get (LKS_PWR_CAP_HOST_CAP d))) (min e (s.get
      BRD_COOL_LKS_CAP))) ≤ p) → ∃ t, exec (.powerCapTick d p e) s = .next t ∧ t.get (LKS_PWR_STATUS_CAP_EFF d) = (if
      (s.lks.dies.getD d {}).hot = true then 0 else min (min 150 (s.get (LKS_PWR_CAP_HOST_CAP d))) (min e (s.get
      BRD_COOL_LKS_CAP))) ∧ t.get (LKS_PWR_STATUS_POWER d) = min p 255 ∧ t.isSet (LKS_DIE_STATUS_CAP_ACTIVE d) =
      decide (t.get (LKS_PWR_STATUS_HOST_DUTY d) < 16 ∨ t.get (LKS_PWR_STATUS_FCST_DUTY d) < 16) ∧ (∀ c : Fin 64,
      t.get (LKS_CORE_DUTY d c) = t.get (if d = 0 ∧ c < 16 then LKS_PWR_STATUS_FCST_DUTY d else
      LKS_PWR_STATUS_HOST_DUTY d)) ∧ t.mem = s.mem ∧ t.lks.jobs = s.lks.jobs ∧ t.get (LKS_PWR_STATUS_HOST_DUTY d) =
      s.get (LKS_PWR_STATUS_HOST_DUTY d) ∧ t.get (LKS_PWR_STATUS_FCST_DUTY d) = s.get (LKS_PWR_STATUS_FCST_DUTY d)) ∧
    (∀ (d : Fin 2), s.dieOk d = true → s.get (LKS_PWR_STATUS_HOST_DUTY d) = 0 → s.isSet (LKS_DIE_STATUS_SUSPENDED d) =
      false → ∃ k ∈ (s.lks.dies.getD d {}).zeroSince, k + tickMs ≤ s.elapsed → s.get (LKS_PWR_STATUS_CAP_EFF d) <
      s.get (LKS_PWR_STATUS_POWER d) → ∃ t, exec (.hostCoreSuspend d) s = .next t ∧ t.isSet (LKS_DIE_STATUS_SUSPENDED
      d) = true ∧ (∀ c : Fin 64, t.coreSt d c = (if (d.val ≠ 0 ∨ 16 ≤ c.val) ∧ s.coreSt d c = cRun then cSusp else
      s.coreSt d c)) ∧ t.lks.jobs = s.lks.jobs ∧ t.lks.threads = s.lks.threads) ∧
    (∀ (d : Fin 2), (s.dieOk d = false ∨ s.get (LKS_PWR_STATUS_HOST_DUTY d) ≠ 0 ∨ s.isSet (LKS_DIE_STATUS_SUSPENDED d)
      = true ∨ s.get (LKS_PWR_STATUS_POWER d) ≤ s.get (LKS_PWR_STATUS_CAP_EFF d) ∨ ∀ k ∈ (s.lks.dies.getD d
      {}).zeroSince, s.elapsed < k + tickMs) → exec (.hostCoreSuspend d) s = .next s) ∧
    (∀ (d : Fin 2), (s.isSet (LKS_DIE_STATUS_SUSPENDED d) = false ∨ ∀ k ∈ (s.lks.dies.getD d {}).coolSince, s.elapsed
      < k + 10 * tickMs) → exec (.hostCoreResume d) s = .next s) ∧
    (∀ (d : Fin 2), s.dieOk d = true → s.isSet (LKS_DIE_STATUS_SUSPENDED d) = true → ∃ k ∈ (s.lks.dies.getD d
      {}).coolSince, k + 10 * tickMs ≤ s.elapsed → s.lks.jobs = [] → s.lks.train.burst = false → s.lks.queues =
      List.replicate 128 {} → ∃ t, exec (.hostCoreResume d) s = .next t ∧ t.isSet (LKS_DIE_STATUS_SUSPENDED d) = false
      ∧ t.mem = s.mem ∧ t.get (LKS_PWR_STATUS_HOST_DUTY d) = max 1 (s.get (LKS_PWR_STATUS_HOST_DUTY d)) ∧ ∀ c : Fin
      64, t.coreSt d c = (if (d.val ≠ 0 ∨ 16 ≤ c.val) ∧ s.coreSt d c = cSusp then cRun else s.coreSt d c)) ∧
    (∀ (d : Fin 2) (c : Fin 64) (n : Fin 256), s.dieOk d = true → (s.coreSt d c = cIdle ∨ s.coreSt d c = cRun ∨
      s.coreSt d c = cDrain) → ∃ t, exec (.sramScrub d c n false) s = .next t ∧ t.get (LKS_ECC_CE_SRAM d) = min (s.get
      (LKS_ECC_CE_SRAM d) + n) (2 ^ (LKS_ECC_CE_SRAM d).w - 1) ∧ t.get (LKS_CORE_CE_CNT d c) = min (s.get
      (LKS_CORE_CE_CNT d c) + n) (2 ^ (LKS_CORE_CE_CNT d c).w - 1) ∧ t.get (LKS_PCORE_CE_CNT d (s.phys d c)) = min
      (s.get (LKS_PCORE_CE_CNT d (s.phys d c)) + n) (2 ^ (LKS_PCORE_CE_CNT d (s.phys d c)).w - 1) ∧ t.mem = s.mem ∧
      t.lks = s.lks) ∧
    (∀ (d : Fin 2) (c : Fin 64) (n : Fin 256), s.dieOk d = true → (s.coreSt d c = cIdle ∨ s.coreSt d c = cRun ∨
      s.coreSt d c = cDrain) → ∃ t, exec (.sramScrub d c n true) s = .next t ∧ t.get (LKS_CORE_STATE d c.val) =
      cFailed ∧ t.isSet (LKS_DIE_STATUS_UE d) = true ∧ t.get (LKS_ECC_UE d) = min (s.get (LKS_ECC_UE d) + 1) (2 ^
      (LKS_ECC_UE d).w - 1) ∧ ((d.val, c.val) : Nat × Nat) ∉ t.lks.train.cores ∧ (d.val = 0 → c.val < 16 →
      t.fcst.model = false)) ∧
    (∀ (d : Fin 2) (c : Fin 64) (n : Fin 256) (u : Bool), (s.dieOk d = false ∨ s.coreSt d c ≠ cIdle ∧ s.coreSt d c ≠
      cRun ∧ s.coreSt d c ≠ cDrain) → exec (.sramScrub d c n u) s = .next s)

/-- A START by a channel's owner, Tack firmware's of channel 0 and the host's of channel 1, that nothing refuses takes
the descriptor and shows BUSY with no chunk done; one with a cause changes no memory and no copy and shows REFUSED
with it (R367, R378); the host's of channel 0 changes nothing but the record of it, and Tack firmware's of channel 1
nothing (R367). ABORT stops a copy with its destination undefined, and stops nothing where none runs (R368). A copy
that completes brings the source's bytes, undefined ranges and poison to the destination and shows DONE, or ERROR with
CAUSE 6 when poison went along; a chunk written meanwhile is stale without DIRTY_RETRY, and one written again in the
recopy ends it DIRTY with the destination undefined (R365, R368). Awake, through BAR2 an access in an enabled window
that the fence lets through reads or stores bytes of module memory and wakes its memory; a refused or unmapped one
stores nothing, reads zeros and shows in the fence's or the window's status (R125, R371, R379, R380); one to HBM4 that
moves, or while the PLLs relock, waits (R467, R506). -/
def Obligations.TieringAndBarTwoCommands : Prop :=
  ∀ s : State, s.pins.powered = true →
    (∀ (d ch : Fin 2) (tk : Bool), s.dieOk d = true → s.lks.tiers.length = 4 → (tk = true ↔ ch.val = 0) → (s.clear
      (LKS_TIER_CTRL_START d ch)).tierCause d ch (s.rd64 (LKS_TIER_SRC_LO d ch) (LKS_TIER_SRC_HI d ch)) (s.rd64
      (LKS_TIER_DST_LO d ch) (LKS_TIER_DST_HI d ch)) (4096 * s.get (LKS_TIER_LEN_LEN d ch)) = none → ∃ t, exec
      (.tierStart d ch tk) s = .next t ∧ t.tier d ch =
      { active := true, src := (s.rd64 (LKS_TIER_SRC_LO d ch) (LKS_TIER_SRC_HI d ch)), dst := (s.rd64 (LKS_TIER_DST_LO d ch) (LKS_TIER_DST_HI d ch)), len := (4096 * s.get (LKS_TIER_LEN_LEN d ch)), dirty := [] }
      ∧ t.get (LKS_TIER_STATUS_STATE d ch) = 1 ∧ t.get (LKS_TIER_STATUS_DONE_4K d ch) = 0 ∧ t.isSet
      (LKS_TIER_CTRL_START d ch) = false ∧ t.mem = s.mem) ∧
    (∀ (d ch : Fin 2) (tk : Bool) (c : Nat), s.dieOk d = true → (tk = true ↔ ch.val = 0) → ((s.clear
      (LKS_TIER_CTRL_START d ch)).tierCause d ch (s.rd64 (LKS_TIER_SRC_LO d ch) (LKS_TIER_SRC_HI d ch)) (s.rd64
      (LKS_TIER_DST_LO d ch) (LKS_TIER_DST_HI d ch)) (4096 * s.get (LKS_TIER_LEN_LEN d ch))).map Prod.fst = some c → ∃
      t, exec (.tierStart d ch tk) s = .next t ∧ t.get (LKS_TIER_STATUS_STATE d ch) = 6 ∧ t.get (LKS_TIER_STATUS_CAUSE
      d ch) = c ∧ t.mem = s.mem ∧ t.lks.tiers = s.lks.tiers) ∧
    (∀ (d : Fin 2), s.dieOk d = true → ∃ t, exec (.tierStart d 0 false) s = .next t ∧ t.rd SBG_SEQ = s.rd SBG_SEQ + 1
      ∧ t.lks = s.lks ∧ t.mem = s.mem ∧ t.get (LKS_TIER_STATUS_STATE d 0) = s.get (LKS_TIER_STATUS_STATE d 0)) ∧
    (∀ (d : Fin 2), s.dieOk d = true → ∃ t, exec (.tierAbort d 0 false) s = .next t ∧ t.rd SBG_SEQ = s.rd SBG_SEQ + 1
      ∧ t.lks = s.lks ∧ t.mem = s.mem ∧ t.get (LKS_TIER_STATUS_STATE d 0) = s.get (LKS_TIER_STATUS_STATE d 0)) ∧
    (∀ (d : Fin 2), exec (.tierStart d 1 true) s = .next s ∧ exec (.tierAbort d 1 true) s = .next s) ∧
    (∀ (d ch : Fin 2) (tk : Bool), s.dieOk d = false → exec (.tierStart d ch tk) s = .next s ∧ exec (.tierAbort d ch
      tk) s = .next s) ∧
    (∀ (d ch : Fin 2) (tk : Bool), s.dieOk d = true → (tk = true ↔ ch.val = 0) → (s.tier d ch).active = true →
      s.lks.tiers.length = 4 → ∃ t, exec (.tierAbort d ch tk) s = .next t ∧ (t.tier d ch).active = false ∧ t.get
      (LKS_TIER_STATUS_STATE d ch) = 5 ∧ t.get (LKS_TIER_STATUS_CAUSE d ch) = 0 ∧ t.lks.undef = (s.memLose (s.tier d
      ch).dst (s.tier d ch).len).lks.undef ∧ t.isSet (LKS_TIER_CTRL_ABORT d ch) = false) ∧
    (∀ (d ch : Fin 2) (tk : Bool), s.dieOk d = true → (tk = true ↔ ch.val = 0) → (s.tier d ch).active = false → exec
      (.tierAbort d ch tk) s = .next (s.clear (LKS_TIER_CTRL_ABORT d ch))) ∧
    (∀ (d ch : Fin 2) (again : Bool), (s.tier d ch).active = true → s.isSet (LKS_TIER_CTRL_DIRTY_RETRY d ch) = false →
      (s.tier d ch).dirty = [] → s.lks.tiers.length = 4 → s.moving (s.tier d ch).src (s.tier d ch).len = false →
      s.moving (s.tier d ch).dst (s.tier d ch).len = false → ∃ t, exec (.tierCopyComplete d ch again) s = .next t ∧
      t.mem = (s.memCopy (s.tier d ch).src (s.tier d ch).dst (s.tier d ch).len).mem ∧ t.lks.undef = (s.memCopy (s.tier
      d ch).src (s.tier d ch).dst (s.tier d ch).len).lks.undef ∧ t.lks.poison = (s.memCopy (s.tier d ch).src (s.tier d
      ch).dst (s.tier d ch).len).lks.poison ∧ t.get (LKS_TIER_STATUS_DONE_4K d ch) = (s.tier d ch).len / 4096 % 2 ^
      (LKS_TIER_STATUS_DONE_4K d ch).w ∧ (t.tier d ch).active = false ∧ t.get (LKS_TIER_STATUS_STATE d ch) = (if
      (s.poisoned (s.tier d ch).src (s.tier d ch).len = true ∧ 0 < (s.tier d ch).len) then 7 else 3) ∧ t.get
      (LKS_TIER_STATUS_CAUSE d ch) = (if (s.poisoned (s.tier d ch).src (s.tier d ch).len = true ∧ 0 < (s.tier d
      ch).len) then 6 else 0)) ∧
    (∀ (d ch : Fin 2) (again : Bool), (s.tier d ch).active = true → s.isSet (LKS_TIER_CTRL_DIRTY_RETRY d ch) = true →
      (again = false ∨ (s.tier d ch).dirty = []) → s.lks.tiers.length = 4 → s.moving (s.tier d ch).src (s.tier d
      ch).len = false → s.moving (s.tier d ch).dst (s.tier d ch).len = false → ∃ t, exec (.tierCopyComplete d ch
      again) s = .next t ∧ t.mem = (s.memCopy (s.tier d ch).src (s.tier d ch).dst (s.tier d ch).len).mem ∧ t.lks.undef
      = (s.memCopy (s.tier d ch).src (s.tier d ch).dst (s.tier d ch).len).lks.undef ∧ t.lks.poison = (s.memCopy
      (s.tier d ch).src (s.tier d ch).dst (s.tier d ch).len).lks.poison ∧ t.get (LKS_TIER_STATUS_DONE_4K d ch) =
      (s.tier d ch).len / 4096 % 2 ^ (LKS_TIER_STATUS_DONE_4K d ch).w ∧ (t.tier d ch).active = false ∧ t.get
      (LKS_TIER_STATUS_STATE d ch) = (if (s.poisoned (s.tier d ch).src (s.tier d ch).len = true ∧ 0 < (s.tier d
      ch).len) then 7 else 3) ∧ t.get (LKS_TIER_STATUS_CAUSE d ch) = (if (s.poisoned (s.tier d ch).src (s.tier d
      ch).len = true ∧ 0 < (s.tier d ch).len) then 6 else 0)) ∧
    (∀ (d ch : Fin 2), (s.tier d ch).active = true → s.isSet (LKS_TIER_CTRL_DIRTY_RETRY d ch) = true → (s.tier d
      ch).dirty ≠ [] → s.lks.tiers.length = 4 → s.moving (s.tier d ch).src (s.tier d ch).len = false → s.moving
      (s.tier d ch).dst (s.tier d ch).len = false → ∃ t, exec (.tierCopyComplete d ch true) s = .next t ∧ (t.tier d
      ch).active = false ∧ t.get (LKS_TIER_STATUS_STATE d ch) = 4 ∧ t.get (LKS_TIER_STATUS_CAUSE d ch) = 0 ∧
      t.lks.undef = ((s.memCopy (s.tier d ch).src (s.tier d ch).dst (s.tier d ch).len).memLose (s.tier d ch).dst
      (s.tier d ch).len).lks.undef) ∧
    (∀ (d ch : Fin 2) (again : Bool), (s.tier d ch).active = true → s.isSet (LKS_TIER_CTRL_DIRTY_RETRY d ch) = false →
      s.lks.tiers.length = 4 → s.moving (s.tier d ch).src (s.tier d ch).len = false → s.moving (s.tier d ch).dst
      (s.tier d ch).len = false → ∃ t, exec (.tierCopyComplete d ch again) s = .next t ∧ (t.tier d ch).active = false
      ∧ t.get (LKS_TIER_STATUS_STATE d ch) = (if (s.poisoned (s.tier d ch).src (s.tier d ch).len = true ∧ 0 < (s.tier
      d ch).len) then 7 else 3) ∧ t.get (LKS_TIER_STATUS_CAUSE d ch) = (if (s.poisoned (s.tier d ch).src (s.tier d
      ch).len = true ∧ 0 < (s.tier d ch).len) then 6 else 0) ∧ (∀ k ∈ (s.tier d ch).dirty, ∀ i < 4096, t.lks.undef.any
      (fun u => decide (u.1 ≤ (s.tier d ch).dst + 4096 * k + i) && decide ((s.tier d ch).dst + 4096 * k + i < u.1 +
      u.2.1)) = true)) ∧
    (∀ (d ch : Fin 2) (again : Bool), ((s.tier d ch).active = false ∨ s.moving (s.tier d ch).src (s.tier d ch).len =
      true ∨ s.moving (s.tier d ch).dst (s.tier d ch).len = true) → exec (.tierCopyComplete d ch again) s = .next s) ∧
    (∀ (off : Nat) (n : Fin 65) (m : LMem), s.asleep = false → s.relock = false → s.dies ≠ 0 → s.isSet
      (LKS_BAR2_WIN_EN (off / 2 ^ 34 % 4)) = true → s.moving (s.get (LKS_BAR2_WIN_BASE (off / 2 ^ 34 % 4)) * 2 ^ 34 +
      off % 2 ^ 34) n = false → s.memSpan (s.get (LKS_BAR2_WIN_BASE (off / 2 ^ 34 % 4)) * 2 ^ 34 + off % 2 ^ 34) n =
      some m → s.refusedAt .bar2 m (s.get (LKS_BAR2_WIN_BASE (off / 2 ^ 34 % 4)) * 2 ^ 34 + off % 2 ^ 34) n.val = none
      → s.hpprFenced m = false → ∃ t, exec (.bar2Access off n none) s = .next t ∧ t.out = Out.bar2 off (s.memBytes
      (s.get (LKS_BAR2_WIN_BASE (off / 2 ^ 34 % 4)) * 2 ^ 34 + off % 2 ^ 34) n) :: s.out ∧ (∀ k ∈ memDomain m, bitOf
      s.clk.selfRefresh k = true → bitOf (domainMask s.otp.variant) k = true → bitOf t.clk.wakeLatch k = true) ∧
      t.regs = s.regs ∧ t.mem = s.mem ∧ t.lks = s.lks) ∧
    (∀ (off : Nat) (l : List Byte) (m : LMem), s.asleep = false → s.relock = false → s.dies ≠ 0 → s.isSet
      (LKS_BAR2_WIN_EN (off / 2 ^ 34 % 4)) = true → s.moving (s.get (LKS_BAR2_WIN_BASE (off / 2 ^ 34 % 4)) * 2 ^ 34 +
      off % 2 ^ 34) l.length = false → s.memSpan (s.get (LKS_BAR2_WIN_BASE (off / 2 ^ 34 % 4)) * 2 ^ 34 + off % 2 ^
      34) l.length = some m → s.refusedAt .bar2 m (s.get (LKS_BAR2_WIN_BASE (off / 2 ^ 34 % 4)) * 2 ^ 34 + off % 2 ^
      34) l.length = none → s.hpprFenced m = false → ∃ t, exec (.bar2Access off 0 (some l)) s = .next t ∧ t.memBytes
      (s.get (LKS_BAR2_WIN_BASE (off / 2 ^ 34 % 4)) * 2 ^ 34 + off % 2 ^ 34) l.length = l ∧ t.mem = (s.memPut (s.get
      (LKS_BAR2_WIN_BASE (off / 2 ^ 34 % 4)) * 2 ^ 34 + off % 2 ^ 34) l).mem ∧ t.out = s.out ∧ (∀ k ∈ memDomain m,
      bitOf s.clk.selfRefresh k = true → bitOf (domainMask s.otp.variant) k = true → bitOf t.clk.wakeLatch k = true) ∧
      t.regs = s.regs) ∧
    (∀ (off k : Nat) (n : Fin 65) (m : LMem), s.asleep = false → s.relock = false → s.dies ≠ 0 → s.isSet
      (LKS_BAR2_WIN_EN (off / 2 ^ 34 % 4)) = true → s.moving (s.get (LKS_BAR2_WIN_BASE (off / 2 ^ 34 % 4)) * 2 ^ 34 +
      off % 2 ^ 34) n = false → s.memSpan (s.get (LKS_BAR2_WIN_BASE (off / 2 ^ 34 % 4)) * 2 ^ 34 + off % 2 ^ 34) n =
      some m → s.refusedAt .bar2 m (s.get (LKS_BAR2_WIN_BASE (off / 2 ^ 34 % 4)) * 2 ^ 34 + off % 2 ^ 34) n = some k →
      ∃ t, exec (.bar2Access off n none) s = .next t ∧ t.isSet (LKS_FENCE_ERR_VALID 0) = true ∧ t.isSet
      (LKS_DIE_STATUS_FENCE 0) = true ∧ t.get (LKS_FENCE_ERR_COUNT 0) = min (s.get (LKS_FENCE_ERR_COUNT 0) + 1) (2 ^
      (LKS_FENCE_ERR_COUNT 0).w - 1) ∧ (s.isSet (LKS_FENCE_ERR_VALID 0) = false → t.get (LKS_FENCE_ERR_SOURCE 0) =
      0xF0 ∧ t.get (LKS_FENCE_ERR_KIND 0) = k) ∧ t.out.head? = some (Out.bar2 off (zeros n)) ∧ t.mem = s.mem ∧ t.lks =
      s.lks) ∧
    (∀ (off k : Nat) (l : List Byte) (m : LMem), s.asleep = false → s.relock = false → s.dies ≠ 0 → s.isSet
      (LKS_BAR2_WIN_EN (off / 2 ^ 34 % 4)) = true → s.moving (s.get (LKS_BAR2_WIN_BASE (off / 2 ^ 34 % 4)) * 2 ^ 34 +
      off % 2 ^ 34) l.length = false → s.memSpan (s.get (LKS_BAR2_WIN_BASE (off / 2 ^ 34 % 4)) * 2 ^ 34 + off % 2 ^
      34) l.length = some m → s.refusedAt .bar2 m (s.get (LKS_BAR2_WIN_BASE (off / 2 ^ 34 % 4)) * 2 ^ 34 + off % 2 ^
      34) l.length = some k → ∃ t, exec (.bar2Access off 0 (some l)) s = .next t ∧ t.isSet (LKS_FENCE_ERR_VALID 0) =
      true ∧ t.isSet (LKS_DIE_STATUS_FENCE 0) = true ∧ t.get (LKS_FENCE_ERR_COUNT 0) = min (s.get (LKS_FENCE_ERR_COUNT
      0) + 1) (2 ^ (LKS_FENCE_ERR_COUNT 0).w - 1) ∧ (s.isSet (LKS_FENCE_ERR_VALID 0) = false → t.get
      (LKS_FENCE_ERR_SOURCE 0) = 0xF0 ∧ t.get (LKS_FENCE_ERR_KIND 0) = k) ∧ t.mem = s.mem ∧ t.lks = s.lks) ∧
    (∀ (off : Nat) (n : Fin 65), s.asleep = false → s.relock = false → s.dies ≠ 0 → (s.isSet (LKS_BAR2_WIN_EN (off / 2
      ^ 34 % 4)) = false ∨ (s.moving (s.get (LKS_BAR2_WIN_BASE (off / 2 ^ 34 % 4)) * 2 ^ 34 + off % 2 ^ 34) n = false
      ∧ s.memSpan (s.get (LKS_BAR2_WIN_BASE (off / 2 ^ 34 % 4)) * 2 ^ 34 + off % 2 ^ 34) n = none)) → ∃ t, exec
      (.bar2Access off n none) s = .next t ∧ t.isSet LKS_BAR2_STATUS_UNMAPPED = true ∧ t.mem = s.mem ∧ t.lks = s.lks ∧
      t.out.head? = some (Out.bar2 off (zeros n))) ∧
    (∀ (off : Nat) (l : List Byte), s.asleep = false → s.relock = false → s.dies ≠ 0 → (s.isSet (LKS_BAR2_WIN_EN (off
      / 2 ^ 34 % 4)) = false ∨ (s.moving (s.get (LKS_BAR2_WIN_BASE (off / 2 ^ 34 % 4)) * 2 ^ 34 + off % 2 ^ 34)
      l.length = false ∧ s.memSpan (s.get (LKS_BAR2_WIN_BASE (off / 2 ^ 34 % 4)) * 2 ^ 34 + off % 2 ^ 34) l.length =
      none)) → ∃ t, exec (.bar2Access off 0 (some l)) s = .next t ∧ t.isSet LKS_BAR2_STATUS_UNMAPPED = true ∧ t.mem =
      s.mem ∧ t.lks = s.lks) ∧
    (∀ (off : Nat) (n : Fin 65) (data : Option (List Byte)), s.asleep = false → s.relock = true → exec (.bar2Access
      off n data) s = .next { s with clk := { s.clk with waiting := s.clk.waiting ++ [.bar2 off n.val data] } }) ∧
    (∀ (off : Nat) (n : Fin 65), s.asleep = false → s.relock = false → s.isSet (LKS_BAR2_WIN_EN (off / 2 ^ 34 % 4)) =
      true → s.moving (s.get (LKS_BAR2_WIN_BASE (off / 2 ^ 34 % 4)) * 2 ^ 34 + off % 2 ^ 34) n = true → exec
      (.bar2Access off n none) s = .next
      { s with clk := { s.clk with waiting := s.clk.waiting ++ [.bar2 off n.val none] } })

/-- A doorbell beyond the ring or of a disabled queue sets DB_ERR and nothing else, a good one by the queue's owner
becomes the tail or the head, and the head lets a held completion out; a fetch that fails disables the queue with
FETCH_ERR, and the host's doorbell of a Tack queue is recorded and no more (R382, R385 to R387). A fetched command
moves the head; behind a held completion it waits in order; a fetch past the tail, of a disabled queue or an absent
die changes nothing (R386). In an idle queue NOP and BARRIER complete with OK and a bad opcode with BAD_COMMAND;
BARRIER waits while a job of the queue runs; LAUNCH waits for its cores, whose domains wake, or completes with
REFUSED, BAD_COMMAND or CORE_FAILED; WAKE opens its cores' gates and SLEEP drains them, each complete with OK once its
cores are IDLE or in RETENTION; a completion of a Tack queue goes to module memory (R384, R387, R391, R392, R396). A
ready LAUNCH that holds its cores, all of them free, in its queue's turn and with Larkspur's clocks ready, becomes a
job; with every core IDLE and its image there it runs, else its cores wake; a bad image completes with its status
(R388, R389, R395). A job's end writes its completion with OK, or FAULTED after a fault, or TIMEOUT once its limit is
reached, held where the ring is full, and frees its cores (R387, R390). ABORT stops the queue's jobs, completes what
waits with ABORTED and disables the queue (R391). -/
def Obligations.QueueCommands : Prop :=
  ∀ s : State, s.pins.powered = true →
    (∀ (d : Fin 2) (q : Fin 64) (c : SqCmd), s.dieOk d = true → s.isSet (LKS_Q_CTRL_ENABLE d q) = true → s.get
      (LKS_Q_PTR_SQ_HEAD d q) ≠ s.get (LKS_Q_DB_SQ_TAIL d q) → ∃ t, exec (.launch d q c) s = .next t ∧ t.get
      (LKS_Q_PTR_SQ_HEAD d q) = (s.get (LKS_Q_PTR_SQ_HEAD d q) + 1) % s.qSize d q % 2 ^ 16) ∧
    (∀ (d : Fin 2) (q : Fin 64) (c : SqCmd), s.dieOk d = true → s.isSet (LKS_Q_CTRL_ENABLE d q) = true → s.get
      (LKS_Q_PTR_SQ_HEAD d q) ≠ s.get (LKS_Q_DB_SQ_TAIL d q) → (s.queue d q).held ≠ [] → s.lks.queues.length = 128 →
      (s.queue d q).acts = [] → ∃ t, exec (.launch d q c) s = .next t ∧ t.get (LKS_Q_PTR_SQ_HEAD d q) = (s.get
      (LKS_Q_PTR_SQ_HEAD d q) + 1) % s.qSize d q % 2 ^ 16 ∧ (t.queue d q).waiting = (s.queue d q).waiting ++ [SqIn s d
      q 1 c]) ∧
    (∀ (d : Fin 2) (q : Fin 64) (c : SqCmd), (s.dieOk d = false ∨ s.isSet (LKS_Q_CTRL_ENABLE d q) = false ∨ s.get
      (LKS_Q_PTR_SQ_HEAD d q) = s.get (LKS_Q_DB_SQ_TAIL d q)) → exec (.launch d q c) s = .next s) ∧
    (∀ (d : Fin 2) (q : Fin 64) (c : SqCmd), s.dieOk d = true → s.isSet (LKS_Q_CTRL_ENABLE d q) = true → s.get
      (LKS_Q_PTR_SQ_HEAD d q) ≠ s.get (LKS_Q_DB_SQ_TAIL d q) → ∃ t, exec (.barrier d q c) s = .next t ∧ t.get
      (LKS_Q_PTR_SQ_HEAD d q) = (s.get (LKS_Q_PTR_SQ_HEAD d q) + 1) % s.qSize d q % 2 ^ 16) ∧
    (∀ (d : Fin 2) (q : Fin 64) (c : SqCmd), s.dieOk d = true → s.isSet (LKS_Q_CTRL_ENABLE d q) = true → s.get
      (LKS_Q_PTR_SQ_HEAD d q) ≠ s.get (LKS_Q_DB_SQ_TAIL d q) → (s.queue d q).held ≠ [] → s.lks.queues.length = 128 →
      (s.queue d q).acts = [] → ∃ t, exec (.barrier d q c) s = .next t ∧ t.get (LKS_Q_PTR_SQ_HEAD d q) = (s.get
      (LKS_Q_PTR_SQ_HEAD d q) + 1) % s.qSize d q % 2 ^ 16 ∧ (t.queue d q).waiting = (s.queue d q).waiting ++ [SqIn s d
      q 2 c]) ∧
    (∀ (d : Fin 2) (q : Fin 64) (c : SqCmd), (s.dieOk d = false ∨ s.isSet (LKS_Q_CTRL_ENABLE d q) = false ∨ s.get
      (LKS_Q_PTR_SQ_HEAD d q) = s.get (LKS_Q_DB_SQ_TAIL d q)) → exec (.barrier d q c) s = .next s) ∧
    (∀ (d : Fin 2) (q : Fin 64) (c : SqCmd), s.dieOk d = true → s.isSet (LKS_Q_CTRL_ENABLE d q) = true → s.get
      (LKS_Q_PTR_SQ_HEAD d q) ≠ s.get (LKS_Q_DB_SQ_TAIL d q) → ∃ t, exec (.wake d q c) s = .next t ∧ t.get
      (LKS_Q_PTR_SQ_HEAD d q) = (s.get (LKS_Q_PTR_SQ_HEAD d q) + 1) % s.qSize d q % 2 ^ 16) ∧
    (∀ (d : Fin 2) (q : Fin 64) (c : SqCmd), s.dieOk d = true → s.isSet (LKS_Q_CTRL_ENABLE d q) = true → s.get
      (LKS_Q_PTR_SQ_HEAD d q) ≠ s.get (LKS_Q_DB_SQ_TAIL d q) → (s.queue d q).held ≠ [] → s.lks.queues.length = 128 →
      (s.queue d q).acts = [] → ∃ t, exec (.wake d q c) s = .next t ∧ t.get (LKS_Q_PTR_SQ_HEAD d q) = (s.get
      (LKS_Q_PTR_SQ_HEAD d q) + 1) % s.qSize d q % 2 ^ 16 ∧ (t.queue d q).waiting = (s.queue d q).waiting ++ [SqIn s d
      q 3 c]) ∧
    (∀ (d : Fin 2) (q : Fin 64) (c : SqCmd), (s.dieOk d = false ∨ s.isSet (LKS_Q_CTRL_ENABLE d q) = false ∨ s.get
      (LKS_Q_PTR_SQ_HEAD d q) = s.get (LKS_Q_DB_SQ_TAIL d q)) → exec (.wake d q c) s = .next s) ∧
    (∀ (d : Fin 2) (q : Fin 64) (c : SqCmd), s.dieOk d = true → s.isSet (LKS_Q_CTRL_ENABLE d q) = true → s.get
      (LKS_Q_PTR_SQ_HEAD d q) ≠ s.get (LKS_Q_DB_SQ_TAIL d q) → ∃ t, exec (.sleep d q c) s = .next t ∧ t.get
      (LKS_Q_PTR_SQ_HEAD d q) = (s.get (LKS_Q_PTR_SQ_HEAD d q) + 1) % s.qSize d q % 2 ^ 16) ∧
    (∀ (d : Fin 2) (q : Fin 64) (c : SqCmd), s.dieOk d = true → s.isSet (LKS_Q_CTRL_ENABLE d q) = true → s.get
      (LKS_Q_PTR_SQ_HEAD d q) ≠ s.get (LKS_Q_DB_SQ_TAIL d q) → (s.queue d q).held ≠ [] → s.lks.queues.length = 128 →
      (s.queue d q).acts = [] → ∃ t, exec (.sleep d q c) s = .next t ∧ t.get (LKS_Q_PTR_SQ_HEAD d q) = (s.get
      (LKS_Q_PTR_SQ_HEAD d q) + 1) % s.qSize d q % 2 ^ 16 ∧ (t.queue d q).waiting = (s.queue d q).waiting ++ [SqIn s d
      q 4 c]) ∧
    (∀ (d : Fin 2) (q : Fin 64) (c : SqCmd), (s.dieOk d = false ∨ s.isSet (LKS_Q_CTRL_ENABLE d q) = false ∨ s.get
      (LKS_Q_PTR_SQ_HEAD d q) = s.get (LKS_Q_DB_SQ_TAIL d q)) → exec (.sleep d q c) s = .next s) ∧
    (∀ (d : Fin 2) (q : Fin 64) (c : SqCmd), s.dieOk d = true → s.isSet (LKS_Q_CTRL_ENABLE d q) = true → s.get
      (LKS_Q_PTR_SQ_HEAD d q) ≠ s.get (LKS_Q_DB_SQ_TAIL d q) → ∃ t, exec (.nop d q c) s = .next t ∧ t.get
      (LKS_Q_PTR_SQ_HEAD d q) = (s.get (LKS_Q_PTR_SQ_HEAD d q) + 1) % s.qSize d q % 2 ^ 16) ∧
    (∀ (d : Fin 2) (q : Fin 64) (c : SqCmd), s.dieOk d = true → s.isSet (LKS_Q_CTRL_ENABLE d q) = true → s.get
      (LKS_Q_PTR_SQ_HEAD d q) ≠ s.get (LKS_Q_DB_SQ_TAIL d q) → (s.queue d q).held ≠ [] → s.lks.queues.length = 128 →
      (s.queue d q).acts = [] → ∃ t, exec (.nop d q c) s = .next t ∧ t.get (LKS_Q_PTR_SQ_HEAD d q) = (s.get
      (LKS_Q_PTR_SQ_HEAD d q) + 1) % s.qSize d q % 2 ^ 16 ∧ (t.queue d q).waiting = (s.queue d q).waiting ++ [SqIn s d
      q 5 c]) ∧
    (∀ (d : Fin 2) (q : Fin 64) (c : SqCmd), (s.dieOk d = false ∨ s.isSet (LKS_Q_CTRL_ENABLE d q) = false ∨ s.get
      (LKS_Q_PTR_SQ_HEAD d q) = s.get (LKS_Q_DB_SQ_TAIL d q)) → exec (.nop d q c) s = .next s) ∧
    (∀ (d : Fin 2) (q : Fin 64) (op : Fin 256) (c : SqCmd), s.dieOk d = true → s.isSet (LKS_Q_CTRL_ENABLE d q) = true
      → s.get (LKS_Q_PTR_SQ_HEAD d q) ≠ s.get (LKS_Q_DB_SQ_TAIL d q) → (op.val = 0 ∨ 5 < op.val) → ∃ t, exec
      (.badCommand d q op c) s = .next t ∧ t.get (LKS_Q_PTR_SQ_HEAD d q) = (s.get (LKS_Q_PTR_SQ_HEAD d q) + 1) %
      s.qSize d q % 2 ^ 16) ∧
    (∀ (d : Fin 2) (q : Fin 64) (op : Fin 256) (c : SqCmd), (s.dieOk d = false ∨ s.isSet (LKS_Q_CTRL_ENABLE d q) =
      false ∨ s.get (LKS_Q_PTR_SQ_HEAD d q) = s.get (LKS_Q_DB_SQ_TAIL d q)) → exec (.badCommand d q op c) s = .next s) ∧
    (∀ (d : Fin 2) (q : Fin 64) (c : SqCmd), s.dieOk d = true → s.isSet (LKS_Q_CTRL_ENABLE d q) = true → s.get
      (LKS_Q_PTR_SQ_HEAD d q) ≠ s.get (LKS_Q_DB_SQ_TAIL d q) → s.lks.queues.length = 128 → (s.queue d q).waiting = []
      → (s.queue d q).acts = [] → (s.queue d q).held = [] → s.cqFull d q = false → tackQueue q = false → s.qJobs d q =
      [] → ∃ t, exec (.nop d q c) s = .next t ∧ Out.hostWrite (s.rd64 (LKS_Q_CQ_BASE_LO d q) (LKS_Q_CQ_BASE_HI d q) +
      32 * s.get (LKS_Q_PTR_CQ_TAIL d q)) (leBytes 4 (c.tag.toNat) ++ [BitVec.ofNat 8 stOk, if (s.queue d q).phase
      then 1 else 0] ++ leBytes 2 ((s.get (LKS_Q_PTR_SQ_HEAD d q) + 1) % s.qSize d q) ++ zeros 24) ∈ t.out ∧ (t.queue
      d q).waiting = [] ∧ (t.queue d q).acts = [] ∧ t.mem = s.mem ∧ t.lks.jobs = s.lks.jobs ∧ t.get (LKS_Q_PTR_SQ_HEAD
      d q) = (s.get (LKS_Q_PTR_SQ_HEAD d q) + 1) % s.qSize d q % 2 ^ 16) ∧
    (∀ (d : Fin 2) (q : Fin 64) (c : SqCmd), s.dieOk d = true → s.isSet (LKS_Q_CTRL_ENABLE d q) = true → s.get
      (LKS_Q_PTR_SQ_HEAD d q) ≠ s.get (LKS_Q_DB_SQ_TAIL d q) → s.lks.queues.length = 128 → (s.queue d q).waiting = []
      → (s.queue d q).acts = [] → (s.queue d q).held = [] → s.cqFull d q = false → tackQueue q = false → c.flags.val %
      2 = 0 → ∃ t, exec (.nop d q c) s = .next t ∧ Out.hostWrite (s.rd64 (LKS_Q_CQ_BASE_LO d q) (LKS_Q_CQ_BASE_HI d q)
      + 32 * s.get (LKS_Q_PTR_CQ_TAIL d q)) (leBytes 4 (c.tag.toNat) ++ [BitVec.ofNat 8 stOk, if (s.queue d q).phase
      then 1 else 0] ++ leBytes 2 ((s.get (LKS_Q_PTR_SQ_HEAD d q) + 1) % s.qSize d q) ++ zeros 24) ∈ t.out ∧ (t.queue
      d q).waiting = [] ∧ (t.queue d q).acts = [] ∧ t.mem = s.mem ∧ t.lks.jobs = s.lks.jobs ∧ t.get (LKS_Q_PTR_SQ_HEAD
      d q) = (s.get (LKS_Q_PTR_SQ_HEAD d q) + 1) % s.qSize d q % 2 ^ 16) ∧
    (∀ (d : Fin 2) (q : Fin 64) (c : SqCmd), s.dieOk d = true → s.isSet (LKS_Q_CTRL_ENABLE d q) = true → s.get
      (LKS_Q_PTR_SQ_HEAD d q) ≠ s.get (LKS_Q_DB_SQ_TAIL d q) → s.lks.queues.length = 128 → (s.queue d q).waiting = []
      → (s.queue d q).acts = [] → (s.queue d q).held = [] → s.cqFull d q = false → tackQueue q = false → s.qJobs d q =
      [] → ∃ t, exec (.barrier d q c) s = .next t ∧ Out.hostWrite (s.rd64 (LKS_Q_CQ_BASE_LO d q) (LKS_Q_CQ_BASE_HI d
      q) + 32 * s.get (LKS_Q_PTR_CQ_TAIL d q)) (leBytes 4 (c.tag.toNat) ++ [BitVec.ofNat 8 stOk, if (s.queue d
      q).phase then 1 else 0] ++ leBytes 2 ((s.get (LKS_Q_PTR_SQ_HEAD d q) + 1) % s.qSize d q) ++ zeros 24) ∈ t.out ∧
      (t.queue d q).waiting = [] ∧ (t.queue d q).acts = [] ∧ t.mem = s.mem ∧ t.lks.jobs = s.lks.jobs ∧ t.get
      (LKS_Q_PTR_SQ_HEAD d q) = (s.get (LKS_Q_PTR_SQ_HEAD d q) + 1) % s.qSize d q % 2 ^ 16) ∧
    (∀ (d : Fin 2) (q : Fin 64) (c : SqCmd), s.dieOk d = true → s.isSet (LKS_Q_CTRL_ENABLE d q) = true → s.get
      (LKS_Q_PTR_SQ_HEAD d q) ≠ s.get (LKS_Q_DB_SQ_TAIL d q) → s.lks.queues.length = 128 → (s.queue d q).waiting = []
      → (s.queue d q).acts = [] → (s.queue d q).held = [] → s.cqFull d q = false → tackQueue q = false → s.qJobs d q ≠
      [] → ∃ t, exec (.barrier d q c) s = .next t ∧ (t.queue d q).waiting = [SqIn s d q 2 c] ∧ t.out = s.out ∧ t.mem =
      s.mem ∧ t.lks.jobs = s.lks.jobs ∧ t.get (LKS_Q_PTR_SQ_HEAD d q) = (s.get (LKS_Q_PTR_SQ_HEAD d q) + 1) % s.qSize
      d q % 2 ^ 16) ∧
    (∀ (d : Fin 2) (q : Fin 64) (op : Fin 256) (c : SqCmd), s.dieOk d = true → s.isSet (LKS_Q_CTRL_ENABLE d q) = true
      → s.get (LKS_Q_PTR_SQ_HEAD d q) ≠ s.get (LKS_Q_DB_SQ_TAIL d q) → s.lks.queues.length = 128 → (s.queue d
      q).waiting = [] → (s.queue d q).acts = [] → (s.queue d q).held = [] → s.cqFull d q = false → tackQueue q = false
      → s.qJobs d q = [] → (op.val = 0 ∨ 5 < op.val) → ∃ t, exec (.badCommand d q op c) s = .next t ∧ Out.hostWrite
      (s.rd64 (LKS_Q_CQ_BASE_LO d q) (LKS_Q_CQ_BASE_HI d q) + 32 * s.get (LKS_Q_PTR_CQ_TAIL d q)) (leBytes 4
      (c.tag.toNat) ++ [BitVec.ofNat 8 stBadCommand, if (s.queue d q).phase then 1 else 0] ++ leBytes 2 ((s.get
      (LKS_Q_PTR_SQ_HEAD d q) + 1) % s.qSize d q) ++ zeros 24) ∈ t.out ∧ (t.queue d q).waiting = [] ∧ (t.queue d
      q).acts = [] ∧ t.mem = s.mem ∧ t.lks.jobs = s.lks.jobs) ∧
    (∀ (d : Fin 2) (q : Fin 64) (c : SqCmd), s.dieOk d = true → s.isSet (LKS_Q_CTRL_ENABLE d q) = true → s.get
      (LKS_Q_PTR_SQ_HEAD d q) ≠ s.get (LKS_Q_DB_SQ_TAIL d q) → s.lks.queues.length = 128 → (s.queue d q).waiting = []
      → (s.queue d q).acts = [] → (s.queue d q).held = [] → s.cqFull d q = false → tackQueue q = false → s.qJobs d q =
      [] → c.mask ≠ 0 → c.mask.toNat &&& s.qCores d q = c.mask.toNat → 0 < c.threads.val → c.threads.val ≤ 128 → ∀ k ∈
      maskCores c.mask.toNat, s.coreSt d k ≠ cFailed → ∃ t, exec (.launch d q c) s = .next t ∧ (t.queue d q).waiting =
      [SqIn s d q 1 c] ∧ t.out = s.out ∧ t.mem = s.mem ∧ t.lks.jobs = s.lks.jobs ∧ (∀ k ∈ maskCores c.mask.toNat,
      bitOf (domainMask s.otp.variant) (coreDomain d k) = true → bitOf t.clk.wakeLatch (coreDomain d k) = true) ∧
      t.get (LKS_Q_PTR_SQ_HEAD d q) = (s.get (LKS_Q_PTR_SQ_HEAD d q) + 1) % s.qSize d q % 2 ^ 16) ∧
    (∀ (d : Fin 2) (q : Fin 64) (c : SqCmd), s.dieOk d = true → s.isSet (LKS_Q_CTRL_ENABLE d q) = true → s.get
      (LKS_Q_PTR_SQ_HEAD d q) ≠ s.get (LKS_Q_DB_SQ_TAIL d q) → s.lks.queues.length = 128 → (s.queue d q).waiting = []
      → (s.queue d q).acts = [] → (s.queue d q).held = [] → s.cqFull d q = false → tackQueue q = false → s.qJobs d q =
      [] → (c.mask = 0 ∨ c.mask.toNat &&& s.qCores d q ≠ c.mask.toNat) → ∃ t, exec (.launch d q c) s = .next t ∧
      Out.hostWrite (s.rd64 (LKS_Q_CQ_BASE_LO d q) (LKS_Q_CQ_BASE_HI d q) + 32 * s.get (LKS_Q_PTR_CQ_TAIL d q))
      (leBytes 4 (c.tag.toNat) ++ [BitVec.ofNat 8 stRefused, if (s.queue d q).phase then 1 else 0] ++ leBytes 2
      ((s.get (LKS_Q_PTR_SQ_HEAD d q) + 1) % s.qSize d q) ++ zeros 24) ∈ t.out ∧ (t.queue d q).waiting = [] ∧ (t.queue
      d q).acts = [] ∧ t.mem = s.mem ∧ t.lks.jobs = s.lks.jobs ∧ t.get (LKS_Q_PTR_SQ_HEAD d q) = (s.get
      (LKS_Q_PTR_SQ_HEAD d q) + 1) % s.qSize d q % 2 ^ 16) ∧
    (∀ (d : Fin 2) (q : Fin 64) (c : SqCmd), s.dieOk d = true → s.isSet (LKS_Q_CTRL_ENABLE d q) = true → s.get
      (LKS_Q_PTR_SQ_HEAD d q) ≠ s.get (LKS_Q_DB_SQ_TAIL d q) → s.lks.queues.length = 128 → (s.queue d q).waiting = []
      → (s.queue d q).acts = [] → (s.queue d q).held = [] → s.cqFull d q = false → tackQueue q = false → s.qJobs d q =
      [] → c.mask ≠ 0 → c.mask.toNat &&& s.qCores d q = c.mask.toNat → (c.threads.val = 0 ∨ 128 < c.threads.val) → ∃
      t, exec (.launch d q c) s = .next t ∧ Out.hostWrite (s.rd64 (LKS_Q_CQ_BASE_LO d q) (LKS_Q_CQ_BASE_HI d q) + 32 *
      s.get (LKS_Q_PTR_CQ_TAIL d q)) (leBytes 4 (c.tag.toNat) ++ [BitVec.ofNat 8 stBadCommand, if (s.queue d q).phase
      then 1 else 0] ++ leBytes 2 ((s.get (LKS_Q_PTR_SQ_HEAD d q) + 1) % s.qSize d q) ++ zeros 24) ∈ t.out ∧ (t.queue
      d q).waiting = [] ∧ (t.queue d q).acts = [] ∧ t.mem = s.mem ∧ t.lks.jobs = s.lks.jobs ∧ t.get (LKS_Q_PTR_SQ_HEAD
      d q) = (s.get (LKS_Q_PTR_SQ_HEAD d q) + 1) % s.qSize d q % 2 ^ 16) ∧
    (∀ (d : Fin 2) (q : Fin 64) (c : SqCmd), s.dieOk d = true → s.isSet (LKS_Q_CTRL_ENABLE d q) = true → s.get
      (LKS_Q_PTR_SQ_HEAD d q) ≠ s.get (LKS_Q_DB_SQ_TAIL d q) → s.lks.queues.length = 128 → (s.queue d q).waiting = []
      → (s.queue d q).acts = [] → (s.queue d q).held = [] → s.cqFull d q = false → tackQueue q = false → s.qJobs d q =
      [] → c.mask ≠ 0 → c.mask.toNat &&& s.qCores d q = c.mask.toNat → 0 < c.threads.val → c.threads.val ≤ 128 → ∃ k ∈
      maskCores c.mask.toNat, s.coreSt d k = cFailed → ∃ t, exec (.launch d q c) s = .next t ∧ Out.hostWrite (s.rd64
      (LKS_Q_CQ_BASE_LO d q) (LKS_Q_CQ_BASE_HI d q) + 32 * s.get (LKS_Q_PTR_CQ_TAIL d q)) (leBytes 4 (c.tag.toNat) ++
      [BitVec.ofNat 8 stFailed, if (s.queue d q).phase then 1 else 0] ++ leBytes 2 ((s.get (LKS_Q_PTR_SQ_HEAD d q) +
      1) % s.qSize d q) ++ zeros 24) ∈ t.out ∧ (t.queue d q).waiting = [] ∧ (t.queue d q).acts = [] ∧ t.mem = s.mem ∧
      t.lks.jobs = s.lks.jobs ∧ t.get (LKS_Q_PTR_SQ_HEAD d q) = (s.get (LKS_Q_PTR_SQ_HEAD d q) + 1) % s.qSize d q % 2
      ^ 16) ∧
    (∀ (d : Fin 2) (q : Fin 64) (c : SqCmd), s.dieOk d = true → s.isSet (LKS_Q_CTRL_ENABLE d q) = true → s.get
      (LKS_Q_PTR_SQ_HEAD d q) ≠ s.get (LKS_Q_DB_SQ_TAIL d q) → s.lks.queues.length = 128 → (s.queue d q).waiting = []
      → (s.queue d q).acts = [] → (s.queue d q).held = [] → s.cqFull d q = false → tackQueue q = false → s.qJobs d q =
      [] → (c.mask = 0 ∨ c.mask.toNat &&& s.qCores d q ≠ c.mask.toNat) → ∃ t, exec (.wake d q c) s = .next t ∧
      Out.hostWrite (s.rd64 (LKS_Q_CQ_BASE_LO d q) (LKS_Q_CQ_BASE_HI d q) + 32 * s.get (LKS_Q_PTR_CQ_TAIL d q))
      (leBytes 4 (c.tag.toNat) ++ [BitVec.ofNat 8 stRefused, if (s.queue d q).phase then 1 else 0] ++ leBytes 2
      ((s.get (LKS_Q_PTR_SQ_HEAD d q) + 1) % s.qSize d q) ++ zeros 24) ∈ t.out ∧ (t.queue d q).waiting = [] ∧ (t.queue
      d q).acts = [] ∧ t.mem = s.mem ∧ t.lks.jobs = s.lks.jobs ∧ t.get (LKS_Q_PTR_SQ_HEAD d q) = (s.get
      (LKS_Q_PTR_SQ_HEAD d q) + 1) % s.qSize d q % 2 ^ 16) ∧
    (∀ (d : Fin 2) (q : Fin 64) (c : SqCmd), s.dieOk d = true → s.isSet (LKS_Q_CTRL_ENABLE d q) = true → s.get
      (LKS_Q_PTR_SQ_HEAD d q) ≠ s.get (LKS_Q_DB_SQ_TAIL d q) → s.lks.queues.length = 128 → (s.queue d q).waiting = []
      → (s.queue d q).acts = [] → (s.queue d q).held = [] → s.cqFull d q = false → tackQueue q = false → s.qJobs d q =
      [] → c.mask ≠ 0 → c.mask.toNat &&& s.qCores d q = c.mask.toNat → ∀ k ∈ maskCores c.mask.toNat, s.coreSt d k =
      cIdle → ∃ t, exec (.wake d q c) s = .next t ∧ Out.hostWrite (s.rd64 (LKS_Q_CQ_BASE_LO d q) (LKS_Q_CQ_BASE_HI d
      q) + 32 * s.get (LKS_Q_PTR_CQ_TAIL d q)) (leBytes 4 (c.tag.toNat) ++ [BitVec.ofNat 8 stOk, if (s.queue d
      q).phase then 1 else 0] ++ leBytes 2 ((s.get (LKS_Q_PTR_SQ_HEAD d q) + 1) % s.qSize d q) ++ zeros 24) ∈ t.out ∧
      (t.queue d q).waiting = [] ∧ (t.queue d q).acts = [] ∧ t.mem = s.mem ∧ t.lks.jobs = s.lks.jobs ∧ t.get
      (LKS_Q_PTR_SQ_HEAD d q) = (s.get (LKS_Q_PTR_SQ_HEAD d q) + 1) % s.qSize d q % 2 ^ 16) ∧
    (∀ (d : Fin 2) (q : Fin 64) (c : SqCmd), s.dieOk d = true → s.isSet (LKS_Q_CTRL_ENABLE d q) = true → s.get
      (LKS_Q_PTR_SQ_HEAD d q) ≠ s.get (LKS_Q_DB_SQ_TAIL d q) → s.lks.queues.length = 128 → (s.queue d q).waiting = []
      → (s.queue d q).acts = [] → (s.queue d q).held = [] → s.cqFull d q = false → tackQueue q = false → s.qJobs d q =
      [] → (c.mask = 0 ∨ c.mask.toNat &&& s.qCores d q ≠ c.mask.toNat) → ∃ t, exec (.sleep d q c) s = .next t ∧
      Out.hostWrite (s.rd64 (LKS_Q_CQ_BASE_LO d q) (LKS_Q_CQ_BASE_HI d q) + 32 * s.get (LKS_Q_PTR_CQ_TAIL d q))
      (leBytes 4 (c.tag.toNat) ++ [BitVec.ofNat 8 stRefused, if (s.queue d q).phase then 1 else 0] ++ leBytes 2
      ((s.get (LKS_Q_PTR_SQ_HEAD d q) + 1) % s.qSize d q) ++ zeros 24) ∈ t.out ∧ (t.queue d q).waiting = [] ∧ (t.queue
      d q).acts = [] ∧ t.mem = s.mem ∧ t.lks.jobs = s.lks.jobs ∧ t.get (LKS_Q_PTR_SQ_HEAD d q) = (s.get
      (LKS_Q_PTR_SQ_HEAD d q) + 1) % s.qSize d q % 2 ^ 16) ∧
    (∀ (d : Fin 2) (q : Fin 64) (c : SqCmd), s.dieOk d = true → s.isSet (LKS_Q_CTRL_ENABLE d q) = true → s.get
      (LKS_Q_PTR_SQ_HEAD d q) ≠ s.get (LKS_Q_DB_SQ_TAIL d q) → s.lks.queues.length = 128 → (s.queue d q).waiting = []
      → (s.queue d q).acts = [] → (s.queue d q).held = [] → s.cqFull d q = false → tackQueue q = false → s.qJobs d q =
      [] → s.lks.jobs = [] → c.mask ≠ 0 → c.mask.toNat &&& s.qCores d q = c.mask.toNat → ∀ k ∈ maskCores c.mask.toNat,
      s.coreSt d k = cRet → ∃ t, exec (.sleep d q c) s = .next t ∧ Out.hostWrite (s.rd64 (LKS_Q_CQ_BASE_LO d q)
      (LKS_Q_CQ_BASE_HI d q) + 32 * s.get (LKS_Q_PTR_CQ_TAIL d q)) (leBytes 4 (c.tag.toNat) ++ [BitVec.ofNat 8 stOk,
      if (s.queue d q).phase then 1 else 0] ++ leBytes 2 ((s.get (LKS_Q_PTR_SQ_HEAD d q) + 1) % s.qSize d q) ++ zeros
      24) ∈ t.out ∧ (t.queue d q).waiting = [] ∧ (t.queue d q).acts = [] ∧ t.mem = s.mem ∧ t.lks.jobs = s.lks.jobs ∧
      t.get (LKS_Q_PTR_SQ_HEAD d q) = (s.get (LKS_Q_PTR_SQ_HEAD d q) + 1) % s.qSize d q % 2 ^ 16) ∧
    (∀ (d : Fin 2) (q : Fin 64) (c : SqCmd), s.dieOk d = true → s.isSet (LKS_Q_CTRL_ENABLE d q) = true → s.get
      (LKS_Q_PTR_SQ_HEAD d q) ≠ s.get (LKS_Q_DB_SQ_TAIL d q) → s.lks.queues.length = 128 → (s.queue d q).waiting = []
      → (s.queue d q).acts = [] → (s.queue d q).held = [] → s.cqFull d q = false → tackQueue q = false → s.qJobs d q =
      [] → c.mask ≠ 0 → c.mask.toNat &&& s.qCores d q = c.mask.toNat → ∃ k ∈ maskCores c.mask.toNat, s.coreSt d k ≠
      cIdle → s.lks.cores.length = 128 → ∃ t, exec (.wake d q c) s = .next t ∧ (t.queue d q).acts = [SqIn s d q 3 c] ∧
      (t.queue d q).waiting = [] ∧ t.out = s.out ∧ t.mem = s.mem ∧ t.lks.jobs = s.lks.jobs ∧ (∀ k ∈ maskCores
      c.mask.toNat, (t.core d k).gate = true ∧ (s.coreSt d k = cRet → bitOf (s.rdN CLK_GATE_EFF) (coreDomain d k) =
      true → t.coreSt d k = cWaking)) ∧ t.get (LKS_Q_PTR_SQ_HEAD d q) = (s.get (LKS_Q_PTR_SQ_HEAD d q) + 1) % s.qSize
      d q % 2 ^ 16) ∧
    (∀ (d : Fin 2) (q : Fin 64) (c : SqCmd), s.dieOk d = true → s.isSet (LKS_Q_CTRL_ENABLE d q) = true → s.get
      (LKS_Q_PTR_SQ_HEAD d q) ≠ s.get (LKS_Q_DB_SQ_TAIL d q) → s.lks.queues.length = 128 → (s.queue d q).waiting = []
      → (s.queue d q).acts = [] → (s.queue d q).held = [] → s.cqFull d q = false → tackQueue q = false → s.qJobs d q =
      [] → s.lks.jobs = [] → c.mask ≠ 0 → c.mask.toNat &&& s.qCores d q = c.mask.toNat → ∃ k ∈ maskCores c.mask.toNat,
      s.coreSt d k ≠ cRet → s.lks.cores.length = 128 → ∃ t, exec (.sleep d q c) s = .next t ∧ (t.queue d q).acts =
      [SqIn s d q 4 c] ∧ (t.queue d q).waiting = [] ∧ t.out = s.out ∧ t.mem = s.mem ∧ t.lks.jobs = s.lks.jobs ∧ (∀ k ∈
      maskCores c.mask.toNat, (t.core d k).gate = false ∧ (s.coreSt d k = cIdle → t.coreSt d k = cDrain)) ∧ t.get
      (LKS_Q_PTR_SQ_HEAD d q) = (s.get (LKS_Q_PTR_SQ_HEAD d q) + 1) % s.qSize d q % 2 ^ 16) ∧
    (∀ (d : Fin 2) (q : Fin 64) (c : SqCmd), s.dieOk d = true → s.isSet (LKS_Q_CTRL_ENABLE d q) = true → s.get
      (LKS_Q_PTR_SQ_HEAD d q) ≠ s.get (LKS_Q_DB_SQ_TAIL d q) → s.lks.queues.length = 128 → (s.queue d q).waiting = []
      → (s.queue d q).acts = [] → (s.queue d q).held = [] → s.cqFull d q = false → s.qJobs d q = [] → tackQueue q =
      true → ∃ t, exec (.nop d q c) s = .next t ∧ t.memBytes (s.rd64 (LKS_Q_CQ_BASE_LO d q) (LKS_Q_CQ_BASE_HI d q) +
      32 * s.get (LKS_Q_PTR_CQ_TAIL d q)) 32 = (leBytes 4 (c.tag.toNat) ++ [BitVec.ofNat 8 stOk, if (s.queue d
      q).phase then 1 else 0] ++ leBytes 2 ((s.get (LKS_Q_PTR_SQ_HEAD d q) + 1) % s.qSize d q) ++ zeros 24) ∧ t.out =
      s.out) ∧
    (∀ (d : Fin 2) (q : Fin 64) (v : Word) (tk : Bool) (f : Bool), s.dieOk d = true → (tk = true ↔ tackQueue q = true)
      → (s.isSet (LKS_Q_CTRL_ENABLE d q) = false ∨ s.qSize d q ≤ v.toNat) → ∃ t, exec (.submissionDoorbell d q v tk f)
      s = .next t ∧ t.isSet (LKS_Q_STATUS_DB_ERR d q) = true ∧ t.lks = s.lks ∧ t.get (LKS_Q_DB_SQ_TAIL d q) = s.get
      (LKS_Q_DB_SQ_TAIL d q) ∧ t.get (LKS_Q_DB_CQ_HEAD d q) = s.get (LKS_Q_DB_CQ_HEAD d q)) ∧
    (∀ (d : Fin 2) (q : Fin 64) (v : Word) (tk : Bool) (f : Bool), s.dieOk d = true → tackQueue q = true → tk = false
      → ∃ t, exec (.submissionDoorbell d q v tk f) s = .next t ∧ t.rd SBG_SEQ = s.rd SBG_SEQ + 1 ∧ t.lks = s.lks ∧
      t.get (LKS_Q_DB_SQ_TAIL d q) = s.get (LKS_Q_DB_SQ_TAIL d q) ∧ t.get (LKS_Q_DB_CQ_HEAD d q) = s.get
      (LKS_Q_DB_CQ_HEAD d q)) ∧
    (∀ (d : Fin 2) (q : Fin 64) (v : Word) (tk : Bool) (f : Bool), (s.dieOk d = false ∨ tk = true ∧ tackQueue q =
      false) → exec (.submissionDoorbell d q v tk f) s = .next s) ∧
    (∀ (d : Fin 2) (q : Fin 64) (v : Word) (tk : Bool), s.dieOk d = true → (tk = true ↔ tackQueue q = true) → (s.isSet
      (LKS_Q_CTRL_ENABLE d q) = false ∨ s.qSize d q ≤ v.toNat) → ∃ t, exec (.completionDoorbell d q v tk) s = .next t
      ∧ t.isSet (LKS_Q_STATUS_DB_ERR d q) = true ∧ t.lks = s.lks ∧ t.get (LKS_Q_DB_SQ_TAIL d q) = s.get
      (LKS_Q_DB_SQ_TAIL d q) ∧ t.get (LKS_Q_DB_CQ_HEAD d q) = s.get (LKS_Q_DB_CQ_HEAD d q)) ∧
    (∀ (d : Fin 2) (q : Fin 64) (v : Word) (tk : Bool), s.dieOk d = true → tackQueue q = true → tk = false → ∃ t, exec
      (.completionDoorbell d q v tk) s = .next t ∧ t.rd SBG_SEQ = s.rd SBG_SEQ + 1 ∧ t.lks = s.lks ∧ t.get
      (LKS_Q_DB_SQ_TAIL d q) = s.get (LKS_Q_DB_SQ_TAIL d q) ∧ t.get (LKS_Q_DB_CQ_HEAD d q) = s.get (LKS_Q_DB_CQ_HEAD d
      q)) ∧
    (∀ (d : Fin 2) (q : Fin 64) (v : Word) (tk : Bool), (s.dieOk d = false ∨ tk = true ∧ tackQueue q = false) → exec
      (.completionDoorbell d q v tk) s = .next s) ∧
    (∀ (d : Fin 2) (q : Fin 64) (v : Word) (tk : Bool), s.dieOk d = true → (tk = true ↔ tackQueue q = true) → s.isSet
      (LKS_Q_CTRL_ENABLE d q) = true → v.toNat < s.qSize d q → ∃ t, exec (.submissionDoorbell d q v tk false) s =
      .next t ∧ t.get (LKS_Q_DB_SQ_TAIL d q) = v.toNat % 2 ^ 16 ∧ t.isSet (LKS_Q_CTRL_ENABLE d q) = true ∧ t.lks =
      s.lks ∧ t.out = s.out) ∧
    (∀ (d : Fin 2) (q : Fin 64) (v : Word), s.dieOk d = true → tackQueue q = false → s.isSet (LKS_Q_CTRL_ENABLE d q) =
      true → v.toNat < s.qSize d q → ∃ t, exec (.submissionDoorbell d q v false true) s = .next t ∧ t.isSet
      (LKS_Q_CTRL_ENABLE d q) = false ∧ t.isSet (LKS_Q_STATUS_FETCH_ERR d q) = true ∧ t.lks = s.lks) ∧
    (∀ (d : Fin 2) (q : Fin 64) (v : Word) (tk : Bool), s.dieOk d = true → (tk = true ↔ tackQueue q = true) → s.isSet
      (LKS_Q_CTRL_ENABLE d q) = true → v.toNat < s.qSize d q → (s.queue d q).waiting = [] → (s.queue d q).acts = [] →
      (s.queue d q).held = [] → ∃ t, exec (.completionDoorbell d q v tk) s = .next t ∧ t.get (LKS_Q_DB_CQ_HEAD d q) =
      v.toNat % 2 ^ 16 ∧ t.out = s.out ∧ t.lks.queues = s.lks.queues) ∧
    (∀ (d : Fin 2) (q : Fin 64) (v : Word) (b : List Byte) (m : Bool), s.dieOk d = true → tackQueue q = false →
      s.lks.queues.length = 128 → s.isSet (LKS_Q_CTRL_ENABLE d q) = true → v.toNat < s.qSize d q → (s.queue d
      q).waiting = [] → (s.queue d q).acts = [] → (s.queue d q).held = [(b, m)] → (s.get (LKS_Q_PTR_CQ_TAIL d q) + 1)
      % s.qSize d q ≠ v.toNat % 2 ^ 16 % s.qSize d q → ∃ t, exec (.completionDoorbell d q v false) s = .next t ∧
      (t.queue d q).held = [] ∧ Out.hostWrite (s.rd64 (LKS_Q_CQ_BASE_LO d q) (LKS_Q_CQ_BASE_HI d q) + 32 * s.get
      (LKS_Q_PTR_CQ_TAIL d q)) (modAt b 5 fun e => if (s.queue d q).phase then e ||| 1 else e) ∈ t.out ∧ t.get
      (LKS_Q_PTR_CQ_TAIL d q) = (s.get (LKS_Q_PTR_CQ_TAIL d q) + 1) % s.qSize d q % 2 ^ 16) ∧
    (∀ (d : Fin 2) (q : Fin 64) (c : LCmd), s.servable d q = true ∧ s.readyHead d q = some c ↔ (s.queue d
      q).waiting.head? = some c ∧ c.op = 1 ∧ s.isSet (LKS_Q_CTRL_ENABLE d q) = true ∧ s.cqFull d q = false ∧ (s.queue
      d q).held = [] ∧ (c.wait = true → s.qJobs d q = []) ∧ s.outranked d q c = false ∧ s.suspends d c = false ∧ (∀ k
      ∈ maskCores c.mask, s.coreFree d k = true)) ∧
    (∀ (d : Fin 2) (q : Fin 64) (c : LCmd) (i : Brxi), s.lksHalted = false → s.dieOk d = true → s.readyHead d q = some
      c → s.servable d q = true → s.turn d q = true → s.imageCheck d q c = .inr i → ((∀ k ∈ maskCores c.mask, (s.core
      d k).image = some i.id) ∨ s.imageCrc c.image i = true) → ∃ t, exec (.jobDispatch d q) s = .next t ∧ ∃ j ∈
      t.lks.jobs, j.die = d ∧ j.q = q ∧ j.cmd = c) ∧
    (∀ (d : Fin 2) (q : Fin 64) (c : LCmd) (i : Brxi), s.lksHalted = false → s.dieOk d = true → s.readyHead d q = some
      c → s.servable d q = true → s.turn d q = true → s.imageCheck d q c = .inr i → (∀ k ∈ maskCores c.mask, (s.core d
      k).image = some i.id ∧ s.coreSt d k = cIdle) → (s.queue d q).waiting = [c] → (s.queue d q).acts = [] →
      s.lks.jobs = [] → s.lks.queues.length = 128 → ∃ t, exec (.jobDispatch d q) s = .next t ∧ (t.queue d q).waiting =
      [] ∧ t.lks.jobs.length = 1 ∧ (∀ j ∈ t.lks.jobs, j.die = d ∧ j.q = q ∧ j.cmd = c ∧ j.started = true ∧ j.start =
      s.elapsed) ∧ t.mem = s.mem ∧ ∀ k ∈ maskCores c.mask, t.coreSt d k = cRun ∧ t.get (LKS_CORE_THREADS d k) =
      c.threads % 2 ^ (LKS_CORE_THREADS d k).w) ∧
    (∀ (d : Fin 2) (q : Fin 64) (c : LCmd) (i : Brxi), s.lksHalted = false → s.dieOk d = true → s.readyHead d q = some
      c → s.servable d q = true → s.turn d q = true → s.imageCheck d q c = .inr i → (∃ k ∈ maskCores c.mask, s.coreSt
      d k ≠ cIdle) → (s.queue d q).waiting = [c] → (s.queue d q).acts = [] → s.lks.queues.length = 128 →
      s.lks.cores.length = 128 → ∃ t, exec (.jobDispatch d q) s = .next t ∧ (t.queue d q).waiting = [] ∧
      t.lks.jobs.length = s.lks.jobs.length + 1 ∧ (∀ j ∈ s.lks.jobs, j ∈ t.lks.jobs) ∧ (∃ j ∈ t.lks.jobs, j.die = d ∧
      j.q = q ∧ j.cmd = c ∧ j.started = false ∧ j.start = s.elapsed) ∧ t.mem = s.mem ∧ ∀ k ∈ maskCores c.mask, (t.core
      d k).gate = true ∧ (s.coreSt d k = cRet → bitOf (s.rdN CLK_GATE_EFF) (coreDomain d k) = true → t.coreSt d k =
      cWaking)) ∧
    (∀ (d : Fin 2) (q : Fin 64) (c : LCmd) (n : Nat), s.lksHalted = false → s.dieOk d = true → s.readyHead d q = some
      c → s.servable d q = true → s.turn d q = true → tackQueue q = false → s.lks.queues.length = 128 → s.imageCheck d
      q c = .inl n → (s.queue d q).waiting = [c] → (s.queue d q).acts = [] → ∃ t, exec (.jobDispatch d q) s = .next t
      ∧ (t.queue d q).waiting = [] ∧ Out.hostWrite (s.rd64 (LKS_Q_CQ_BASE_LO d q) (LKS_Q_CQ_BASE_HI d q) + 32 * s.get
      (LKS_Q_PTR_CQ_TAIL d q)) (leBytes 4 (c.tag) ++ [BitVec.ofNat 8 n, if (s.queue d q).phase then 1 else 0] ++
      leBytes 2 (c.head) ++ zeros 24) ∈ t.out ∧ t.lks.jobs = s.lks.jobs) ∧
    (∀ (d : Fin 2) (q : Fin 64), (s.lksHalted = true ∨ s.dieOk d = false ∨ s.servable d q = false ∨ s.turn d q =
      false) → exec (.jobDispatch d q) s = .next s) ∧
    (∀ (d : Fin 2) (q : Fin 64) (g : Word) (j : LJob), s.jobBy d q g.toNat = some j → s.lks.queues.length = 128 →
      j.die = d → j.q = q → s.lksHalted = false → tackQueue q = false → s.cqFull d q = false → (s.queue d q).held = []
      → ∃ t, exec (.jobEnd d q g) s = .next t ∧ Out.hostWrite (s.rd64 (LKS_Q_CQ_BASE_LO d q) (LKS_Q_CQ_BASE_HI d q) +
      32 * s.get (LKS_Q_PTR_CQ_TAIL d q)) (modAt (s.jobBody j ((if j.faulted = 0 then stOk else stFaulted))) 5 fun b
      => if (s.queue d q).phase then b ||| 1 else b) ∈ t.out) ∧
    (∀ (d : Fin 2) (q : Fin 64) (g : Word) (j : LJob), s.jobBy d q g.toNat = some j → s.lks.queues.length = 128 →
      j.die = d → j.q = q → s.lksHalted = false → s.lks.jobs = [j] → s.lks.train.burst = false → s.lks.cores.length =
      128 → (s.queue d q).waiting = [] → (∀ k : Fin 64, (s.queue d k).waiting = [] ∧ (s.queue d k).acts = []) → ∃ t,
      exec (.jobEnd d q g) s = .next t ∧ (∀ k ∈ maskCores j.cmd.mask, s.coreSt d k = cRun → k < 64 → t.coreSt d k =
      (if (s.core d k).gate = true then cIdle else cDrain)) ∧ t.lks.jobs = [] ∧ (∀ x ∈ t.lks.threads, ¬(x.die = d.val
      ∧ j.cmd.mask.testBit x.core = true))) ∧
    (∀ (d : Fin 2) (q : Fin 64) (g : Word) (j : LJob), s.jobBy d q g.toNat = some j → s.lks.queues.length = 128 →
      j.die = d → j.q = q → s.lksHalted = false → (s.cqFull d q = true ∨ (s.queue d q).held ≠ []) → ∃ t, exec (.jobEnd
      d q g) s = .next t ∧ (s.jobBody j ((if j.faulted = 0 then stOk else stFaulted)), !j.cmd.noMsi) ∈ (t.queue d
      q).held ∧ t.isSet (LKS_Q_STATUS_CQ_FULL d q) = true) ∧
    (∀ (d : Fin 2) (q : Fin 64) (g : Word) (j : LJob), s.jobBy d q g.toNat = some j → s.lks.queues.length = 128 →
      j.die = d → j.q = q → j.cmd.timeout ≠ 0 → j.start + 100 * j.cmd.timeout ≤ s.elapsed → (∀ k ∈ maskCores
      j.cmd.mask, s.coreSt j.die k ≠ cSusp) → tackQueue q = false → s.cqFull d q = false → (s.queue d q).held = [] → ∃
      t, exec (.jobTimeout d q g) s = .next t ∧ Out.hostWrite (s.rd64 (LKS_Q_CQ_BASE_LO d q) (LKS_Q_CQ_BASE_HI d q) +
      32 * s.get (LKS_Q_PTR_CQ_TAIL d q)) (modAt (s.jobBody j (stTimeout)) 5 fun b => if (s.queue d q).phase then b
      ||| 1 else b) ∈ t.out) ∧
    (∀ (d : Fin 2) (q : Fin 64) (g : Word) (j : LJob), s.jobBy d q g.toNat = some j → s.lks.queues.length = 128 →
      j.die = d → j.q = q → j.cmd.timeout ≠ 0 → j.start + 100 * j.cmd.timeout ≤ s.elapsed → (∀ k ∈ maskCores
      j.cmd.mask, s.coreSt j.die k ≠ cSusp) → s.lks.jobs = [j] → s.lks.train.burst = false → s.lks.cores.length = 128
      → (s.queue d q).waiting = [] → (∀ k : Fin 64, (s.queue d k).waiting = [] ∧ (s.queue d k).acts = []) → ∃ t, exec
      (.jobTimeout d q g) s = .next t ∧ (∀ k ∈ maskCores j.cmd.mask, s.coreSt d k = cRun → k < 64 → t.coreSt d k = (if
      (s.core d k).gate = true then cIdle else cDrain)) ∧ t.lks.jobs = [] ∧ (∀ x ∈ t.lks.threads, ¬(x.die = d.val ∧
      j.cmd.mask.testBit x.core = true))) ∧
    (∀ (d : Fin 2) (q : Fin 64) (g : Word) (j : LJob), s.jobBy d q g.toNat = some j → s.lks.queues.length = 128 →
      j.die = d → j.q = q → j.cmd.timeout ≠ 0 → j.start + 100 * j.cmd.timeout ≤ s.elapsed → (∀ k ∈ maskCores
      j.cmd.mask, s.coreSt j.die k ≠ cSusp) → (s.cqFull d q = true ∨ (s.queue d q).held ≠ []) → ∃ t, exec (.jobTimeout
      d q g) s = .next t ∧ (s.jobBody j (stTimeout), !j.cmd.noMsi) ∈ (t.queue d q).held ∧ t.isSet
      (LKS_Q_STATUS_CQ_FULL d q) = true) ∧
    (∀ (d : Fin 2) (q : Fin 64) (g : Word), (s.jobBy d q g.toNat = none ∨ s.lksHalted = true) → exec (.jobEnd d q g) s
      = .next s) ∧
    (∀ (d : Fin 2) (q : Fin 64) (g : Word), (∀ j ∈ s.jobBy d q g.toNat, s.overdue j = false) → exec (.jobTimeout d q
      g) s = .next s) ∧
    (∀ (d : Fin 2) (q : Fin 64) (l : List (Word × Bool)) (tk : Bool), s.dieOk d = true → (tk = true ↔ tackQueue q =
      true) → s.isSet (LKS_Q_CTRL_ENABLE d q) = true → ∃ t, exec (.queueAbort d q l tk) s = .next t ∧ t.isSet
      (LKS_Q_CTRL_ENABLE d q) = false ∧ t.isSet (LKS_Q_CTRL_ABORT d q) = false ∧ t.get (LKS_Q_PTR_SQ_HEAD d q) = s.get
      (LKS_Q_DB_SQ_TAIL d q) ∧ (t.queue d q).waiting = [] ∧ (t.queue d q).acts = [] ∧ (∀ j ∈ s.qJobs d q, j.started =
      true → j ∉ t.lks.jobs)) ∧
    (∀ (d : Fin 2) (q : Fin 64) (l : List (Word × Bool)) (c : LCmd), s.dieOk d = true → s.lks.queues.length = 128 →
      s.isSet (LKS_Q_CTRL_ENABLE d q) = true → tackQueue q = false → s.qJobs d q = [] → (s.queue d q).acts = [] →
      (s.queue d q).waiting = [c] → (s.queue d q).held = [] → s.cqFull d q = false → ∃ t, exec (.queueAbort d q l
      false) s = .next t ∧ Out.hostWrite (s.rd64 (LKS_Q_CQ_BASE_LO d q) (LKS_Q_CQ_BASE_HI d q) + 32 * s.get
      (LKS_Q_PTR_CQ_TAIL d q)) (leBytes 4 (c.tag) ++ [BitVec.ofNat 8 stAborted, if (s.queue d q).phase then 1 else 0]
      ++ leBytes 2 (c.head) ++ zeros 24) ∈ t.out) ∧
    (∀ (d : Fin 2) (q : Fin 64) (l : List (Word × Bool)) (tk : Bool), s.dieOk d = true → (tk = true ↔ tackQueue q =
      true) → s.isSet (LKS_Q_CTRL_ENABLE d q) = false → exec (.queueAbort d q l tk) s = .next (s.clear
      (LKS_Q_CTRL_ABORT d q))) ∧
    (∀ (d : Fin 2) (q : Fin 64) (l : List (Word × Bool)), s.dieOk d = true → tackQueue q = true → ∃ t, exec
      (.queueAbort d q l false) s = .next t ∧ t.rd SBG_SEQ = s.rd SBG_SEQ + 1 ∧ t.lks = s.lks ∧ t.isSet
      (LKS_Q_CTRL_ENABLE d q) = s.isSet (LKS_Q_CTRL_ENABLE d q)) ∧
    (∀ (d : Fin 2) (q : Fin 64) (l : List (Word × Bool)) (tk : Bool), (s.dieOk d = false ∨ tk = true ∧ tackQueue q =
      false) → exec (.queueAbort d q l tk) s = .next s)

/-- A burst starts only where training is fitted and enabled and none runs, and takes free host-partition cores that
no ready head reserves, up to MAX_CORES of each die (R398). A judged candidate sets JUDGED and RESULT: PASSED where
the mean error and the coverage meet their bounds, else the bound that fails, and ends the burst; the weights that the
evaluation brings stand in CANDIDATE; under AUTO_PROMOTE a passed one is promoted (R398 to R400). PROMOTE of a passed
candidate, or of any under FORCE, brings CANDIDATE to LIVE and LIVE to PREVIOUS with PROMOTED and a reload, of another
changes nothing and of an empty one is refused; REVERT exchanges LIVE and PREVIOUS or is refused (R400). The reload's
end resumes the MODEL streams (R372, R400). EXPORT and INSTALL wait for a burst's end, are refused without LIVE
weights, at a bad XFER or for a bad blob; an export that ends writes the blob's header and the weights at XFER with
TRANSFERRED, and an installed blob stands in CANDIDATE for evaluation (R401). A fleet round starts only under R402's
conditions at its frame, with the own update cut in two directions; of one member alone it ends at once (R402, R403,
R405). A bulk frame on a path in use and of this hall joins its direction's inbox, one of another round or model, or
with a bad CRC, is counted and dropped (R311, R334, R404). A round ends when a condition of R402 fails, with PARTIAL
where TIME_HELD is lost; without a running round and R337's conditions a window sends nothing (R337, R405). -/
def Obligations.TrainingAndFleetCommands : Prop :=
  ∀ s : State, s.pins.powered = true →
    (s.canTrain = true → s.isSet LKS_TRAIN_CTRL_TRAIN_EN = true → s.isSet SYS_CAPS_FCST_TRAIN = true →
      s.lks.train.burst = false → ∃ t, exec .trainingBurstStart s = .next t ∧ t.lks.train.burst = true ∧ t.mem = s.mem
      ∧ t.out = s.out ∧ (s.lks.train.cores = [] → s.dies = 1 → t.lks.train.cores = ((s.burstFree 0).take (s.get
      LKS_TRAIN_CTRL_MAX_CORES)).map fun c => (0, c)) ∧ (s.lks.train.cores = [] → s.dies = 2 → t.lks.train.cores =
      ((s.burstFree 0).take (s.get LKS_TRAIN_CTRL_MAX_CORES)).map (fun c => (0, c)) ++ ((s.burstFree 1).take (s.get
      LKS_TRAIN_CTRL_MAX_CORES)).map (fun c => (1, c)))) ∧
    ((s.canTrain = false ∨ s.isSet LKS_TRAIN_CTRL_TRAIN_EN = false ∨ s.isSet SYS_CAPS_FCST_TRAIN = false ∨
      s.lks.train.burst = true) → exec .trainingBurstStart s = .next s) ∧
    (∀ (i : JudgeIn), s.canTrain = true → i.body = none → s.lks.train.candidate.present = true → ((if i.maeLive.val *
      s.get LKS_TRAIN_BOUND_ACCEPT_PCT < 100 * i.maeCand.val then 2 else if s.get LKS_TRAIN_BOUND_COVER_MAX <
      i.coverCand.val then 3 else 1) ≠ 1 ∨ s.isSet LKS_TRAIN_CTRL_AUTO_PROMOTE = false) → s.lks.train.pend = [] → ∃ t,
      exec (.candidateJudged i) s = .next t ∧ t.get LKS_TRAIN_STATUS_RESULT = (if i.maeLive.val * s.get
      LKS_TRAIN_BOUND_ACCEPT_PCT < 100 * i.maeCand.val then 2 else if s.get LKS_TRAIN_BOUND_COVER_MAX <
      i.coverCand.val then 3 else 1) ∧ t.isSet LKS_TRAIN_STATUS_JUDGED = true ∧ t.lks.train.evaluating = false ∧
      t.lks.train.burst = false ∧ t.get LKS_TRAIN_MAE_LIVE = i.maeLive.val ∧ t.get LKS_TRAIN_MAE_CAND = i.maeCand.val
      ∧ t.lks.train.live = s.lks.train.live ∧ t.lks.train.candidate = s.lks.train.candidate ∧ t.mem = s.mem ∧
      (s.lks.train.evaluating = true → t.isSet LKS_TRAIN_STATUS_TRANSFERRED = true ∧ t.isSet LKS_TRAIN_CTRL_INSTALL =
      false)) ∧
    (∀ (i : JudgeIn) (l : List Byte), s.canTrain = true → i.body = some l → l.length ≤ slotSize → ((if i.maeLive.val *
      s.get LKS_TRAIN_BOUND_ACCEPT_PCT < 100 * i.maeCand.val then 2 else if s.get LKS_TRAIN_BOUND_COVER_MAX <
      i.coverCand.val then 3 else 1) ≠ 1 ∨ s.isSet LKS_TRAIN_CTRL_AUTO_PROMOTE = false) → s.lks.train.pend = [] → ∃ t,
      exec (.candidateJudged i) s = .next t ∧ t.get LKS_TRAIN_STATUS_RESULT = (if i.maeLive.val * s.get
      LKS_TRAIN_BOUND_ACCEPT_PCT < 100 * i.maeCand.val then 2 else if s.get LKS_TRAIN_BOUND_COVER_MAX <
      i.coverCand.val then 3 else 1) ∧ t.isSet LKS_TRAIN_STATUS_JUDGED = true ∧ t.lks.train.evaluating = false ∧
      t.lks.train.burst = false ∧ t.get LKS_TRAIN_MAE_LIVE = i.maeLive.val ∧ t.get LKS_TRAIN_MAE_CAND = i.maeCand.val
      ∧ t.lks.train.live = s.lks.train.live ∧ t.lks.train.candidate = ⟨true, i.gen.val, l.length⟩ ∧ t.memBytes
      (slotBase 2) l.length = l) ∧
    (∀ (i : JudgeIn), s.canTrain = true → i.body = none → s.lks.train.candidate.present = true → (if i.maeLive.val *
      s.get LKS_TRAIN_BOUND_ACCEPT_PCT < 100 * i.maeCand.val then 2 else if s.get LKS_TRAIN_BOUND_COVER_MAX <
      i.coverCand.val then 3 else 1) = 1 → s.isSet LKS_TRAIN_CTRL_AUTO_PROMOTE = true → s.lks.train.pend = [] → ∃ t,
      exec (.candidateJudged i) s = .next t ∧ t.get LKS_TRAIN_STATUS_RESULT = (if i.maeLive.val * s.get
      LKS_TRAIN_BOUND_ACCEPT_PCT < 100 * i.maeCand.val then 2 else if s.get LKS_TRAIN_BOUND_COVER_MAX <
      i.coverCand.val then 3 else 1) ∧ t.isSet LKS_TRAIN_STATUS_JUDGED = true ∧ t.lks.train.evaluating = false ∧
      t.lks.train.burst = false ∧ t.get LKS_TRAIN_MAE_LIVE = i.maeLive.val ∧ t.get LKS_TRAIN_MAE_CAND = i.maeCand.val
      ∧ t.lks.train.live = s.lks.train.candidate ∧ t.lks.train.previous = s.lks.train.live ∧ t.isSet
      LKS_TRAIN_STATUS_PROMOTED = true ∧ t.fcst.model = false ∧ t.lks.train.reload = true ∧ t.get LKS_TRAIN_GEN_LIVE =
      t.lks.train.live.gen % 2 ^ LKS_TRAIN_GEN_LIVE.w ∧ t.mem = ((s.memCopy (slotBase 0) (slotBase 1)
      slotSize).memCopy (slotBase 2) (slotBase 0) slotSize).mem) ∧
    (∀ (i : JudgeIn), (s.canTrain = false ∨ i.body = none ∧ s.lks.train.candidate.present = false) → exec
      (.candidateJudged i) s = .next s) ∧
    (s.canTrain = true → s.lks.train.candidate.present = true → (s.get LKS_TRAIN_STATUS_RESULT = 1 ∨ s.isSet
      LKS_TRAIN_CTRL_FORCE = true) → ∃ t, exec .promote s = .next t ∧ t.lks.train.live = s.lks.train.candidate ∧
      t.lks.train.previous = s.lks.train.live ∧ t.isSet LKS_TRAIN_STATUS_PROMOTED = true ∧ t.fcst.model = false ∧
      t.lks.train.reload = true ∧ t.get LKS_TRAIN_GEN_LIVE = t.lks.train.live.gen % 2 ^ LKS_TRAIN_GEN_LIVE.w ∧ t.mem =
      ((s.memCopy (slotBase 0) (slotBase 1) slotSize).memCopy (slotBase 2) (slotBase 0) slotSize).mem) ∧
    ((s.canTrain = false ∨ s.lks.train.candidate.present = true ∧ s.get LKS_TRAIN_STATUS_RESULT ≠ 1 ∧ s.isSet
      LKS_TRAIN_CTRL_FORCE = false) → exec .promote s = .next (s.clear LKS_TRAIN_CTRL_PROMOTE)) ∧
    (s.canTrain = true → s.lks.train.candidate.present = false → ∃ t, exec .promote s = .next t ∧ t.isSet
      LKS_TRAIN_CTRL_PROMOTE = false ∧ t.get LKS_TRAIN_STATUS_RESULT = 4 ∧ t.isSet LKS_TRAIN_STATUS_JUDGED = true ∧
      t.lks.train = s.lks.train ∧ t.mem = s.mem) ∧
    (s.canTrain = true → s.lks.train.previous.present = true → ∃ t, exec .revert s = .next t ∧ t.lks.train.live =
      s.lks.train.previous ∧ t.lks.train.previous = s.lks.train.live ∧ t.isSet LKS_TRAIN_STATUS_PROMOTED = true ∧
      t.fcst.model = false ∧ t.lks.train.reload = true ∧ t.get LKS_TRAIN_GEN_LIVE = t.lks.train.live.gen % 2 ^
      LKS_TRAIN_GEN_LIVE.w ∧ t.mem = (s.memSwap (slotBase 0) (slotBase 1) slotSize).mem) ∧
    (s.canTrain = true → s.lks.train.previous.present = false → ∃ t, exec .revert s = .next t ∧ t.isSet
      LKS_TRAIN_CTRL_REVERT = false ∧ t.get LKS_TRAIN_STATUS_RESULT = 4 ∧ t.isSet LKS_TRAIN_STATUS_JUDGED = true ∧
      t.lks.train = s.lks.train ∧ t.mem = s.mem) ∧
    (s.canTrain = false → exec .revert s = .next (s.clear LKS_TRAIN_CTRL_REVERT)) ∧
    (s.canTrain = true → s.lks.train.live.present = true → (∀ c : Fin 16, s.coreSt 0 c ≠ cFailed) → ∃ t, exec
      .forecastReloadComplete s = .next t ∧ t.lks.train = { s.lks.train with reload := false } ∧ t.fcst.model = true ∧
      (0x0707, 0) ∉ t.brd.active ∧ t.mem = s.mem) ∧
    ((s.canTrain = false ∨ s.lks.train.live.present = false ∨ ∃ c : Fin 16, s.coreSt 0 c = cFailed) → exec
      .forecastReloadComplete s = .next s) ∧
    (s.canTrain = true → s.lks.train.burst = true → ∃ t, exec .exportWeights s = .next t ∧ t.lks.train =
      { s.lks.train with pend := addOnce s.lks.train.pend 1 } ∧ t.isSet LKS_TRAIN_CTRL_EXPORT = true ∧ t.mem = s.mem) ∧
    (s.canTrain = true → s.lks.train.burst = true → ∃ t, exec .install s = .next t ∧ t.lks.train =
      { s.lks.train with pend := addOnce s.lks.train.pend 2 } ∧ t.isSet LKS_TRAIN_CTRL_INSTALL = true ∧ t.mem = s.mem) ∧
    (s.canTrain = true → s.lks.train.burst = false → s.lks.train.exporting = false → s.xferOk (64 +
      s.lks.train.live.len) = true → s.lks.train.live.present = true → ∃ t, exec .exportWeights s = .next t ∧
      t.lks.train = { s.lks.train with exporting := true, xferAt := s.xfer } ∧ t.get LKS_TRAIN_STATUS_STATE = 4 ∧
      t.isSet LKS_TRAIN_CTRL_EXPORT = true ∧ t.mem = s.mem) ∧
    (s.canTrain = true → s.lks.train.burst = false → s.lks.train.exporting = false → (s.xferOk (64 +
      s.lks.train.live.len) = false ∨ s.lks.train.live.present = false) → ∃ t, exec .exportWeights s = .next t ∧
      t.isSet LKS_TRAIN_CTRL_EXPORT = false ∧ t.get LKS_TRAIN_STATUS_RESULT = 4 ∧ t.isSet LKS_TRAIN_STATUS_JUDGED =
      true ∧ t.lks.train = s.lks.train ∧ t.mem = s.mem) ∧
    (s.canTrain = true → s.lks.train.burst = false → s.lks.train.evaluating = false → s.blobOk = true → ∃ t, exec
      .install s = .next t ∧ t.lks.train =
      { s.lks.train with candidate := ⟨true, s.memNat (s.xfer + 16) 4, s.memNat (s.xfer + 12) 4⟩, evaluating := true }
      ∧ t.mem = (s.memCopy (s.xfer + 64) (slotBase 2) (s.memNat (s.xfer + 12) 4)).mem ∧ t.isSet LKS_TRAIN_CTRL_INSTALL
      = true) ∧
    (s.canTrain = true → s.lks.train.burst = false → s.lks.train.evaluating = false → s.blobOk = false → ∃ t, exec
      .install s = .next t ∧ t.isSet LKS_TRAIN_CTRL_INSTALL = false ∧ t.get LKS_TRAIN_STATUS_RESULT = 4 ∧ t.isSet
      LKS_TRAIN_STATUS_JUDGED = true ∧ t.lks.train = s.lks.train ∧ t.mem = s.mem) ∧
    ((s.canTrain = false ∨ s.lks.train.burst = false ∧ s.lks.train.exporting = true) → ∃ t, exec .exportWeights s =
      .next t ∧ t.lks = s.lks ∧ t.mem = s.mem) ∧
    ((s.canTrain = false ∨ s.lks.train.burst = false ∧ s.lks.train.evaluating = true) → ∃ t, exec .install s = .next t
      ∧ t.lks = s.lks ∧ t.mem = s.mem) ∧
    (s.lks.train.exporting = true → ∃ t, exec .weightExportComplete s = .next t ∧ t.lks.train =
      { s.lks.train with exporting := false } ∧ t.isSet LKS_TRAIN_CTRL_EXPORT = false ∧ t.isSet
      LKS_TRAIN_STATUS_TRANSFERRED = true ∧ ∃ h ∈ [blobHead s.lks.train.modelId s.lks.train.live.len
      s.lks.train.live.gen], t.mem = ((s.memPut s.lks.train.xferAt (h ++ leBytes 4 (crc32c (h ++ s.memBytes (slotBase
      0) s.lks.train.live.len)).toNat)).memCopy (slotBase 0) (s.lks.train.xferAt + 64) s.lks.train.live.len).mem) ∧
    (s.lks.train.exporting = false → exec .weightExportComplete s = .next s) ∧
    (s.fleetOn = true ↔ s.dies ≠ 0 ∧ s.isSet LKS_FLEET_CTRL_JOIN = true ∧ s.shelfId ∈ s.fleetMembers ∧ s.isSet
      LKS_TRAIN_CTRL_TRAIN_EN = true ∧ s.isSet SYS_CAPS_FCST_TRAIN = true ∧ s.isSet FAB_CTRL_BULK_EN = true ∧
      s.profileAt 0x8005 4 2 0 ≠ 0 ∧ s.timeHeld = true ∧ s.isSet CLK_STATUS_HOLD = false) ∧
    (∀ (own : List Word) (n : Fin 513), (s.fleetOn = false ∨ s.get LKS_FLEET_CTRL_ROUND_FRAMES = 0 ∨ s.frame % s.get
      LKS_FLEET_CTRL_ROUND_FRAMES ≠ 0) → ∃ t, exec (.fleetRoundStart own n) s = .next t ∧ t.lks = s.lks ∧ t.mem =
      s.mem ∧ t.out = s.out ∧ (s.canTrain = true → t.isSet LKS_FLEET_STATUS_ACTIVE = s.fleetOn ∧ t.get
      LKS_FLEET_STATUS_MEMBERS = s.fleetMembers.length % 2 ^ LKS_FLEET_STATUS_MEMBERS.w)) ∧
    (∀ (own : List Word) (n : Fin 513), s.fleetOn = true → s.get LKS_FLEET_CTRL_ROUND_FRAMES ≠ 0 → s.frame % s.get
      LKS_FLEET_CTRL_ROUND_FRAMES = 0 → 1 < s.fleetMembers.length → ∃ t, exec (.fleetRoundStart own n) s = .next t ∧
      t.lks.fleet.running = true ∧ t.lks.fleet.round = s.frame / s.get LKS_FLEET_CTRL_ROUND_FRAMES ∧ t.lks.fleet.dirs
      = [LDir.begin (own.take ((own.length + 1) / 2)) n s.fleetMembers.length, LDir.begin (own.drop ((own.length + 1)
      / 2)) n s.fleetMembers.length] ∧ t.isSet LKS_FLEET_STATUS_ACTIVE = true ∧ t.get LKS_FLEET_STATUS_MEMBERS =
      s.fleetMembers.length % 2 ^ LKS_FLEET_STATUS_MEMBERS.w ∧ t.mem = s.mem) ∧
    (∀ (own : List Word) (n : Fin 513), s.fleetOn = true → s.get LKS_FLEET_CTRL_ROUND_FRAMES ≠ 0 → s.frame % s.get
      LKS_FLEET_CTRL_ROUND_FRAMES = 0 → s.fleetMembers.length = 1 → ∃ t, exec (.fleetRoundStart own n) s = .next t ∧
      t.lks.fleet.running = false ∧ t.rdN LKS_FLEET_ROUND = s.frame / s.get LKS_FLEET_CTRL_ROUND_FRAMES % 2 ^ 32 ∧
      t.lks.train.candidate.present = true) ∧
    (∀ (i : BulkIn), s.canTrain = true → s.pathOn i.path.val = true → i.hall.val = s.hallId → s.lks.fleet.running =
      true → i.round.toNat = s.lks.fleet.round % 2 ^ 32 → i.model.toNat = s.lks.train.modelId → i.crcOk = true → exec
      (.bulkFrameReceived i) s = .next
      { s with lks := { s.lks with fleet := { s.lks.fleet with dirs := modAt s.lks.fleet.dirs i.dir.toNat fun (x : LDir) => { x with inbox := x.inbox ++ [(i.phase.toNat, i.step.val, i.chunk, i.count.val, i.words)], heard := true } } } }) ∧
    (∀ (i : BulkIn), s.canTrain = true → s.pathOn i.path.val = true → i.hall.val = s.hallId → (s.lks.fleet.running =
      false ∨ i.round.toNat ≠ s.lks.fleet.round % 2 ^ 32 ∨ i.model.toNat ≠ s.lks.train.modelId ∨ i.crcOk = false) → ∃
      t, exec (.bulkFrameReceived i) s = .next t ∧ t.rdN LKS_FLEET_DISCARD = min (s.rdN LKS_FLEET_DISCARD + 1) (2 ^ 32
      - 1) ∧ t.lks = s.lks) ∧
    (∀ (i : BulkIn), s.pathOn i.path.val = true → i.hall.val ≠ s.hallId → ∃ t, exec (.bulkFrameReceived i) s = .next t
      ∧ t.get FAB_LATE_CNT_OTHER = min (s.get FAB_LATE_CNT_OTHER + 1) (2 ^ FAB_LATE_CNT_OTHER.w - 1) ∧ t.lks = s.lks) ∧
    (∀ (i : BulkIn), (s.pathOn i.path.val = false ∨ s.canTrain = false ∧ i.hall.val = s.hallId) → exec
      (.bulkFrameReceived i) s = .next s) ∧
    (s.lks.fleet.running = true → s.fleetOn = false → ∃ t, exec .bulkWindow s = .next t ∧ t.lks.fleet.running = false
      ∧ t.lks.fleet.dirs = [{}, {}] ∧ (s.timeHeld = false → t.isSet LKS_FLEET_STATUS_PARTIAL = true) ∧ t.mem = s.mem ∧
      t.out = s.out) ∧
    (s.lks.fleet.running = false → s.bulkOn = false → ∃ t, exec .bulkWindow s = .next t ∧ t.lks = s.lks ∧ t.fab =
      s.fab ∧ t.mem = s.mem ∧ t.out = s.out) ∧
    (s.lks.fleet.running = false → s.bulkOn = true → s.fab.bulk = [] → ∃ t, exec .bulkWindow s = .next t ∧ t.lks =
      s.lks ∧ t.fab = s.fab ∧ t.mem = s.mem ∧ t.out = s.out) ∧
    (∀ (b : BulkOut), s.lks.fleet.running = false → s.bulkOn = true → s.fab.bulk = [b] → b.path < 2 → bitOf (s.get
      FAB_BULK_CFG_PATHS) b.path = true → s.canSend b.path = true → bulkWire b.body ≤ min (s.get FAB_BULK_CFG_BUDGET)
      15625 → ∃ t, exec .bulkWindow s = .next t ∧ t.fab.bulk = [] ∧ t.out = Out.fabric b.path (s.ether (s.unicast
      b.dest) (s.profileAt 0x8005 7 1 0) (s.fabHeader 0x10 b.path b.seq ++ b.body)) :: s.out ∧ t.get
      FAB_BULK_STATUS_SENT = (s.get FAB_BULK_STATUS_SENT + 1) % 2 ^ FAB_BULK_STATUS_SENT.w) ∧
    (∀ (b : BulkOut), s.lks.fleet.running = false → s.bulkOn = true → s.fab.bulk = [b] → b.path < 2 → bitOf (s.get
      FAB_BULK_CFG_PATHS) b.path = true → s.canSend b.path = true → min (s.get FAB_BULK_CFG_BUDGET) 15625 < bulkWire
      b.body → ∃ t, exec .bulkWindow s = .next t ∧ t.fab.bulk = [b] ∧ t.out = s.out ∧ t.get FAB_BULK_STATUS_DEFERRED =
      min (s.get FAB_BULK_STATUS_DEFERRED + 1) (2 ^ FAB_BULK_STATUS_DEFERRED.w - 1))

/-! ### Bridle, the Saddlebag, Remount -/

/-- Bus over-voltage is declared at BUS_OV and above, bus under-voltage below BUS_UV in ARMED and DERATED, string
over-voltage above STR_OV, string under-voltage below STR_UV with CONT_x_FB high, and a temperature, which its
register then shows, above its limit: each raises its code with its index, measured value and threshold, which is
active then; at the threshold's other side nothing is declared (R415). A feedback that misses its limit, or changes
with its enable steady, raises its code, the change with its bit of SYS_CONN_CHG, and where it misses none nothing
happens (R47, R66, R415). A value returned within its threshold clears the code of its detector at once, one that has
not leaves it active; an over-voltage that has latched nothing clears below OV_THRESH (the model's choice, log 28),
and a command that names another code changes nothing (R415). A Larkspur die above 110 °C raises 0x050A, stops, and on
die 0 takes the forecast's model away; below 100 °C it clears (R417). -/
def Obligations.BridleDetectorCommands : Prop :=
  ∀ s : State, s.pins.powered = true →
    (∀ (v : Nat), s.get BRD_BUS_LIM_BUS_OV ≤ v → ∃ t, exec (.busOverVoltage v) s = .next t ∧ t = s.raise 0x0101 0 v
      (s.get BRD_BUS_LIM_BUS_OV) ∧ (0x0101, 0) ∈ t.brd.active) ∧
    (∀ (v : Nat), v < s.get BRD_BUS_LIM_BUS_OV → exec (.busOverVoltage v) s = .next s) ∧
    (∀ (v : Nat), s.inService = true → v < s.get BRD_BUS_LIM_BUS_UV → ∃ t, exec (.busUnderVoltage v) s = .next t ∧ t =
      s.raise 0x0102 0 v (s.get BRD_BUS_LIM_BUS_UV) ∧ (0x0102, 0) ∈ t.brd.active) ∧
    (∀ (v : Nat), (s.inService = false ∨ s.get BRD_BUS_LIM_BUS_UV ≤ v) → exec (.busUnderVoltage v) s = .next s) ∧
    (∀ (x : StrNo) (v : Nat), s.get BRD_STR_LIM_STR_OV < v → ∃ t, exec (.stringOverVoltage x v) s = .next t ∧ t =
      s.raise 0x0401 x.val v (s.get BRD_STR_LIM_STR_OV) ∧ (0x0401, x.val) ∈ t.brd.active) ∧
    (∀ (x : StrNo) (v : Nat), v ≤ s.get BRD_STR_LIM_STR_OV → exec (.stringOverVoltage x v) s = .next s) ∧
    (∀ (x : StrNo) (v : Nat), bitOf (s.get SYS_CONN_STATUS_CONT_FB) x.val = true → v < s.get BRD_STR_LIM_STR_UV → ∃ t,
      exec (.stringUnderVoltage x v) s = .next t ∧ t = s.raise 0x0402 x.val v (s.get BRD_STR_LIM_STR_UV) ∧ (0x0402,
      x.val) ∈ t.brd.active) ∧
    (∀ (x : StrNo) (v : Nat), (bitOf (s.get SYS_CONN_STATUS_CONT_FB) x.val = false ∨ s.get BRD_STR_LIM_STR_UV ≤ v) →
      exec (.stringUnderVoltage x v) s = .next s) ∧
    (∀ (k : Fin 4) (c : Fin 256), s.get (tempLim k.val) < c.val → ∃ t, exec (.temperatureTrip k c) s = .next t ∧ t =
      (s.set (tempNow k.val) c.val).raise (0x0506 + k.val) 0 c.val (s.get (tempLim k.val)) ∧ (0x0506 + k.val, 0) ∈
      t.brd.active ∧ t.get (tempNow k.val) = c.val) ∧
    (∀ (k : Fin 4) (c : Fin 256), c.val ≤ s.get (tempLim k.val) → exec (.temperatureTrip k c) s = .next (s.set
      (tempNow k.val) c.val)) ∧
    ([tempLim 0, tempLim 1, tempLim 2, tempLim 3] = [BRD_TEMP_LIM_HRN_TRIP, BRD_TEMP_LIM_TACK_TRIP,
      BRD_TEMP_LIM_BOARD_TRIP, BRD_TEMP_LIM_PLATE_TRIP] ∧ [tempNow 0, tempNow 1, tempNow 2, tempNow 3] =
      [BRD_TEMP_HRN, BRD_TEMP_TACK, BRD_TEMP_BOARD, BRD_TEMP_PLATE]) ∧
    (∀ (i : Fin 256) (v : Nat), ∃ t, exec (.faultConditionClear 0x0101 i v) s = .next t ∧ ((0x0101, i.val) ∈
      t.brd.active ↔ (0x0101, i.val) ∈ s.brd.active ∧ s.get BRD_BUS_LIM_BUS_OV ≤ v) ∧ (s.get BRD_BUS_LIM_BUS_OV ≤ v →
      t = s)) ∧
    (∀ (i : Fin 256) (v : Nat), ∃ t, exec (.faultConditionClear 0x0102 i v) s = .next t ∧ ((0x0102, i.val) ∈
      t.brd.active ↔ (0x0102, i.val) ∈ s.brd.active ∧ v < s.get BRD_BUS_LIM_BUS_UV) ∧ (v < s.get BRD_BUS_LIM_BUS_UV →
      t = s)) ∧
    (∀ (i : Fin 256) (v : Nat), ∃ t, exec (.faultConditionClear 0x0401 i v) s = .next t ∧ ((0x0401, i.val) ∈
      t.brd.active ↔ (0x0401, i.val) ∈ s.brd.active ∧ s.get BRD_STR_LIM_STR_OV < v) ∧ (s.get BRD_STR_LIM_STR_OV < v →
      t = s)) ∧
    (∀ (i : Fin 256) (v : Nat), ∃ t, exec (.faultConditionClear 0x0402 i v) s = .next t ∧ ((0x0402, i.val) ∈
      t.brd.active ↔ (0x0402, i.val) ∈ s.brd.active ∧ v < s.get BRD_STR_LIM_STR_UV) ∧ (v < s.get BRD_STR_LIM_STR_UV →
      t = s)) ∧
    (∀ (n : Fin 65536) (k : Fin 4) (v : Nat), n.val = 0x0506 + k.val → ∃ t, exec (.faultConditionClear n 0 v) s =
      .next t ∧ ((n.val, 0) ∈ t.brd.active ↔ (n.val, 0) ∈ s.brd.active ∧ s.get (tempLim k.val) < v) ∧ t.get (tempNow
      k.val) = min v 255) ∧
    (∀ (v : Nat), ∃ t, exec (.faultConditionClear 0x0103 0 v) s = .next t ∧ ((0x0103, 0) ∈ t.brd.active ↔ (0x0103, 0)
      ∈ s.brd.active ∧ (s.isSet HRN_OV_CTRL_LATCHED = true ∨ s.hrn.ovOpen = true ∨ s.get HRN_OV_CFG_OV_THRESH ≤ v))) ∧
    (∀ (n : Fin 65536) (i : Fin 256) (v : Nat), n.val ∉ [0x0101, 0x0102, 0x0103, 0x0401, 0x0402, 0x0506, 0x0507,
      0x0508, 0x0509] → exec (.faultConditionClear n i v) s = .next s) ∧
    (∀ (w : Fin 3), s.enOf w.val = false → s.fbOf w.val = true → ∃ t, exec (.feedbackMismatch (.notOpen w)) s = .next
      t ∧ t = s.raise (if w.val = 2 then 0x0104 else 0x0106) (w.val % 2) 1 0 ∧ (s.brd.active = [] → t.get
      BRD_LAST_CODE = (if w.val = 2 then 0x0104 else 0x0106))) ∧
    (∀ (w : Fin 3), s.enOf w.val = true → s.fbOf w.val = false → ∃ t, exec (.feedbackMismatch (.notClosed w)) s =
      .next t ∧ w.val ∉ t.brd.returning ∧ (s.brd.active = [] → t.get BRD_LAST_CODE = (if w.val = 2 then 0x0105 else
      0x0107) ∨ t.get BRD_LAST_CODE = 0x0708)) ∧
    (∀ (w : Fin 3), s.fbOf w.val = s.enOf w.val → ∃ t, exec (.feedbackMismatch (.changed w)) s = .next t ∧ t.fbOf
      w.val = !s.fbOf w.val ∧ t.isSet ⟨SYS_CONN_CHG, if w.val = 2 then 20 else 18 + w.val, 1⟩ = true ∧ (s.brd.active =
      [] → t.get BRD_LAST_CODE = 0x0108 ∨ t.get BRD_LAST_CODE = 0x0708) ∧ exec (.feedbackMismatch (.notOpen w)) s =
      .next s ∧ exec (.feedbackMismatch (.notClosed w)) s = .next s) ∧
    (∀ (w : Fin 3), s.fbOf w.val ≠ s.enOf w.val → exec (.feedbackMismatch (.changed w)) s = .next s) ∧
    (∀ (d : Fin 2) (c : Fin 256), d.val < s.dies → 110 < c.val → ∃ t, exec (.larkspurJunctionHot d c) s = .next t ∧
      (d.val < s.lks.dies.length → (t.lks.dies.getD d.val {}).hot = true) ∧ (d.val = 0 → t.fcst.model = false) ∧
      (0x050A, d.val) ∈ t.brd.active ∧ (t.lks.dies.getD (1 - d.val) {}) = (s.lks.dies.getD (1 - d.val) {})) ∧
    (∀ (d : Fin 2) (c : Fin 256), d.val < s.dies → c.val < 100 → ∃ t, exec (.larkspurJunctionCool d c) s = .next t ∧
      (d.val < s.lks.dies.length → (t.lks.dies.getD d.val {}).hot = false) ∧ (0x050A, d.val) ∉ t.brd.active) ∧
    (∀ (d : Fin 2) (c : Fin 256), (s.dies ≤ d.val ∨ 100 ≤ c.val ∧ c.val ≤ 110) → exec (.larkspurJunctionHot d c) s =
      .next s ∧ exec (.larkspurJunctionCool d c) s = .next s)

/-- A due contactor opens at low current outside the over-voltage latch, with a journal entry (R295, R413, R414). A
firmware close is refused, and recorded, while a condition of R508 blocks its path or outside ARMED, DERATED and the
part of ARMING that has asked for the contactors, and drives its enable otherwise, but for a TAP that holds the
outputs (R25, R63, R508). A string returns, its contactor closed and with its feedback its FORCE_SHED and its codes
cleared, only when nothing holds it (R507). The watchdog counts from the first kick with the bundle loaded; its expiry
stops the firmware, releases the pumps and raises 0x0603; a restart that passes runs it again, and one that fails
leaves REJECTED and, in a state with power electronics on, LATCHED (R415, R420). The hold-off's expiry re-arms, unless
a DISARM waits, and the settle time's expiry ends the recovery with its cause set (R421). The soft-start off period
ends at the precharge step with BRD_DRV_EN released but where the board or the TAP holds it, and a precharge that is
not reached aborts, or latches with its budget spent (R63, R427). -/
def Obligations.ContactorAndRecoveryCommands : Prop :=
  ∀ s : State, s.pins.powered = true →
    (∀ (x : StrNo), x.val ∈ s.brd.openDue → s.isSet HRN_OV_CTRL_LATCHED = false → ∃ t, exec (.contactorOpenLowCurrent
      x) s = .next t ∧ t.pins.contEn = s.pins.contEn.set x.val false ∧ t.brd.openDue = s.brd.openDue.filter (· !=
      x.val) ∧ (s.fenced = false → t.isSet EST_JNL_STATUS_PENDING = true ∨ t.isSet EST_JNL_STATUS_BUSY = true)) ∧
    (∀ (x : StrNo), (x.val ∉ s.brd.openDue ∨ s.isSet HRN_OV_CTRL_LATCHED = true) → exec (.contactorOpenLowCurrent x) s
      = .next s) ∧
    (s.closeBlocked 2 = true ↔ (s.isSet HRN_OV_CTRL_LATCHED = true ∨ s.isSet CLK_STATUS_HOLD = true ∨ (∃ c ∈
      s.brd.active, c.1 ∈ [0x0503, 0x0506, 0x0507, 0x0508, 0x0509]) ∨ ∃ c ∈ s.brd.active, c.1 = 0x0101)) ∧
    (∀ (x : StrNo), s.closeBlocked x.val = true ↔ (s.isSet HRN_OV_CTRL_LATCHED = true ∨ s.isSet CLK_STATUS_HOLD = true
      ∨ (∃ c ∈ s.brd.active, c.1 ∈ [0x0503, 0x0506, 0x0507, 0x0508, 0x0509]) ∨ (0x0401, x.val) ∈ s.brd.active ∨ (∃ c ∈
      s.brd.active, c.1 = 0x0403 ∧ c.2 / 52 = x.val) ∨ s.get (RING_STATUS_MON_LOST x) ≠ 0 ∨ s.get (RING_STATUS_TOPO x)
      = 2)) ∧
    (∀ (w : Fin 3), s.boot.fwRuns = true → (s.closeBlocked w.val = true ∨ s.inService = false ∧ (s.shelf ≠ stArming ∨
      s.boot.contRequested = false)) → ∃ t, exec (.firmwareCloseRequest w) s = .next t ∧ t.pins.contEn = s.pins.contEn
      ∧ t.pins.isoEn = s.pins.isoEn ∧ ((0x0605, 0) ∉ s.brd.active → t.get BRD_LAST_CODE = 0x0605)) ∧
    (∀ (w : Fin 3), s.boot.fwRuns = true → s.closeBlocked w.val = false → (s.inService = true ∨ s.shelf = stArming ∧
      s.boot.contRequested = true) → exec (.firmwareCloseRequest w) s = .next
      { s with pins := if s.tapHolds then s.pins else if w.val = 2 then { s.pins with isoEn := true } else { s.pins with contEn := s.pins.contEn.set w.val true } }) ∧
    (∀ (w : Fin 3), s.boot.fwRuns = false → exec (.firmwareCloseRequest w) s = .next s) ∧
    (∀ (x : StrNo), x.val ∈ s.brd.returning → s.contFb x.val = true → ∃ t, exec (.stringReturn x) s = .next t ∧
      t.pins.contEn = s.pins.contEn ∧ x.val ∉ t.brd.returning ∧ t.brd.strOut = s.brd.strOut.filter (· != x.val) ∧ (∀ n
      : Fin 104, chanString n = x.val → t.isSet (HRN_CH_CTRL_FORCE_SHED n) = false) ∧ (0x0409, x.val) ∉ t.brd.active ∧
      (∀ m : Fin 4, (0x0408, 4 * x.val + m.val) ∉ t.brd.active)) ∧
    (∀ (x : StrNo), s.mayReturn x.val = true → x.val ∉ s.brd.openDue → s.contFb x.val = false → ∃ t, exec
      (.stringReturn x) s = .next t ∧ t.pins.contEn = (if s.tapHolds then s.pins.contEn else s.pins.contEn.set x.val
      true) ∧ t.brd.returning = addOnce s.brd.returning x.val ∧ t.brd.strOut = s.brd.strOut ∧ t.regs = s.regs) ∧
    (∀ (x : StrNo), x.val ∉ s.brd.returning → s.mayReturn x.val = true → x.val ∉ s.brd.openDue → s.contFb x.val = true
      → ∃ t, exec (.stringReturn x) s = .next t ∧ t.pins.contEn = (if s.tapHolds then s.pins.contEn else
      s.pins.contEn.set x.val true) ∧ x.val ∉ t.brd.returning ∧ t.brd.strOut = s.brd.strOut.filter (· != x.val) ∧ (∀ n
      : Fin 104, chanString n = x.val → t.isSet (HRN_CH_CTRL_FORCE_SHED n) = false) ∧ (0x0409, x.val) ∉ t.brd.active ∧
      (∀ m : Fin 4, (0x0408, 4 * x.val + m.val) ∉ t.brd.active)) ∧
    (∀ (x : StrNo), (x.val ∉ s.brd.returning ∨ s.contFb x.val = false) → (s.mayReturn x.val = false ∨ x.val ∈
      s.brd.openDue) → exec (.stringReturn x) s = .next s) ∧
    (∀ (x : StrNo), s.mayReturn x.val = true ↔ s.inService = true ∧ x.val ∈ s.brd.strOut ∧ s.closeBlocked x.val =
      false ∧ (∀ m : Fin 4, s.get (RING_MON_STATUS_MSTATE x m) = 1) ∧ ∀ p : Fin 52, s.isSet (cellBit x p 29) = false ∧
      s.isSet (cellBit x p 26) = false) ∧
    (s.boot.fwRuns = true → s.get BOOT_STATUS_BUNDLE = 4 → exec .watchdogKick s = .next (s.set BRD_STATUS_WDT_RUN 1)) ∧
    ((s.boot.fwRuns = false ∨ s.get BOOT_STATUS_BUNDLE ≠ 4) → exec .watchdogKick s = .next s) ∧
    (s.isSet BRD_STATUS_WDT_RUN = true → ∃ t, exec .watchdogExpiry s = .next t ∧ t.boot.fwRuns = false ∧
      t.brd.fwRestart = true ∧ t.pins.pumpDuty = [100, 100] ∧ t.isSet BRD_STATUS_WDT_RUN = false ∧ (s.brd.active = []
      → t.get BRD_LAST_CODE = 0x0603 ∨ t.get BRD_LAST_CODE = 0x0708) ∧ (s.brd.active = [] → s.armedStates = true →
      t.pins.isoEn = false ∧ (t.shelf = stIsolated ∨ t.shelf = stLatched))) ∧
    (s.isSet BRD_STATUS_WDT_RUN = false → exec .watchdogExpiry s = .next s) ∧
    (s.brd.fwRestart = true → s.rmt.tackMap.all (· < 5) = true → exec (.firmwareRestartComplete true) s = .next
      { s with boot := { s.boot with fwRuns := true }, brd := { s.brd with fwRestart := false }, fab := { s.fab with listen := s.frame + 3 } }) ∧
    (∀ (ok : Bool), s.brd.fwRestart = true → (ok = false ∨ s.rmt.tackMap.all (· < 5) = false) → (s.armedStates = true
      ∨ s.shelf = stIsolated) → ∃ t, exec (.firmwareRestartComplete ok) s = .next t ∧ t.shelf = stLatched ∧
      t.brd.fwRestart = false ∧ t.get BOOT_STATUS_BUNDLE = 5 ∧ t.pins.isoEn = false ∧ t.boot.fwRuns = s.boot.fwRuns ∧
      t.get SEC_SVN_LOADED_SVN = 0xFF ∧ t.get BRD_LAST_CODE = 0x0603) ∧
    (∀ (ok : Bool), s.brd.fwRestart = true → (ok = false ∨ s.rmt.tackMap.all (· < 5) = false) → s.armedStates = false
      → s.shelf ≠ stIsolated → ∃ t, exec (.firmwareRestartComplete ok) s = .next t ∧ t.shelf = s.shelf ∧
      t.brd.fwRestart = false ∧ t.get BOOT_STATUS_BUNDLE = 5 ∧ t.get BRD_LAST_CODE = 0x0603) ∧
    (∀ (ok : Bool), s.brd.fwRestart = false → exec (.firmwareRestartComplete ok) s = .next s) ∧
    (s.get BRD_STATUS_RECOV = 1 → s.brd.holdoff.isSome = true → s.shelf = stIsolated → s.boot.disarmKept = false → ∃
      t, exec .holdoffExpiry s = .next t ∧ t.shelf = stArming ∧ t.get BRD_STATUS_RECOV = 2 ∧ t.boot.armStep = 1 ∧
      t.boot.rearm = true ∧ t.brd.strOut = [] ∧ t.brd.causes = s.brd.causes ∧ t.pins.isoEn = s.pins.isoEn) ∧
    ((s.get BRD_STATUS_RECOV ≠ 1 ∨ s.brd.holdoff = none ∨ s.shelf ≠ stIsolated ∨ s.boot.disarmKept = true) → exec
      .holdoffExpiry s = .next s) ∧
    (s.get BRD_STATUS_RECOV = 3 → s.inService = true → ∃ t, exec .settleExpiry s = .next t ∧ t.get BRD_STATUS_RECOV =
      0 ∧ t.brd.causes = [] ∧ t.brd.holdoff = none ∧ t.get BRD_STATUS_CLASS = 0 ∧ t.shelf = s.shelf) ∧
    ((s.get BRD_STATUS_RECOV ≠ 3 ∨ s.inService = false) → exec .settleExpiry s = .next s) ∧
    (s.brd.ssOff = true → s.shelf = stArming → ∃ t, exec .softStartOffExpiry s = .next t ∧ t.boot.armStep = 5 ∧
      t.brd.ssOff = false ∧ t.brd.ssWindow = true ∧ t.pins.drvEn = s.pins.drvHeld.map (fun h => !h && !s.tapHolds) ∧
      t.isSet BRD_STATUS_FORCING = false) ∧
    ((s.brd.ssOff = false ∨ s.shelf ≠ stArming) → exec .softStartOffExpiry s = .next s) ∧
    (∀ (a b : Nat), s.shelf = stArming → s.boot.armStep = 5 → s.brd.ssOff = false → 1000 < (10 * ((a : Int) -
      b)).natAbs → s.get BRD_STATUS_SS_USED < s.get BRD_SS_CFG_SS_BUDGET → ∃ t, exec (.prechargeNotReached a b) s =
      .next t ∧ t.brd.ssOff = true ∧ t.pins.drvEn = [false, false, false, false] ∧ t.pins.isoEn = false ∧ t.shelf =
      stArming ∧ t.get BOOT_STATUS_ERR_CODE = 0x24 ∧ t.get BRD_STATUS_SS_USED = s.get BRD_STATUS_SS_USED + 1) ∧
    (∀ (a b : Nat), s.shelf = stArming → s.boot.armStep = 5 → s.brd.ssOff = false → 1000 < (10 * ((a : Int) -
      b)).natAbs → s.get BRD_SS_CFG_SS_BUDGET ≤ s.get BRD_STATUS_SS_USED → s.brd.active = [] → ∃ t, exec
      (.prechargeNotReached a b) s = .next t ∧ t.shelf = stLatched ∧ t.pins.drvEn = [false, false, false, false] ∧
      t.pins.isoEn = false ∧ t.get BRD_LAST_CODE = 0x010C) ∧
    (∀ (a b : Nat), (s.shelf ≠ stArming ∨ s.boot.armStep ≠ 5 ∨ s.brd.ssOff = true ∨ (10 * ((a : Int) - b)).natAbs ≤
      1000) → exec (.prechargeNotReached a b) s = .next s)

/-- In ARMING, ARMED and DERATED a code of class F2 other than 0x0601, or of class F3, that is not already active
opens the isolation switch, ends the arming sequence, turns every cascade off with its output at zero, discards the
committed window and leads to ISOLATED or, for F3, to LATCHED; for every code but 0x0103, a storm's included, every
BRD_DRV_EN is low (R410, R412, R413, R414, R421, R423). -/
def Obligations.RaisedFaultsIsolate : Prop :=
  ∀ (s : State) (code idx : Nat) (m t : Int), s.armedStates = true → (code, idx) ∉ s.brd.active → code < 65536 →
    (s.classOf code idx = 2 ∧ code ≠ 0x0601 ∨ s.classOf code idx = 3) →
    (s.raise code idx m t).pins.isoEn = false ∧
    ((s.raise code idx m t).shelf = stIsolated ∨ (s.raise code idx m t).shelf = stLatched) ∧
    (s.classOf code idx = 3 → (s.raise code idx m t).shelf = stLatched) ∧
    (s.raise code idx m t).boot.armStep = 0 ∧
    (s.raise code idx m t).fcst.window = [] ∧ (s.raise code idx m t).fcst.running = false ∧
    (∀ c, c < 8 → (s.raise code idx m t).get (REIN_CAS_STATUS_STATE c) = 0 ∧ (s.raise code idx m t).rdN (REIN_CAS_OUT c) = 0) ∧
    (code ≠ 0x0103 → (s.raise code idx m t).pins.drvEn = [false, false, false, false])

/-- A fitted pump whose tach pulses in a second, over the pulses per revolution, give less than TACH_MIN is lost, and
FLOW_PULSE, over the pulses per litre, below FLOW_MIN is a low flow, below half of it also the loss of cooling; each
raises its code with BRD_COOL's bit and releases the pumps to full speed while the firmware runs, as a high inlet
temperature does; a value at its limit raises nothing (R57, R428, R429). With every fitted pump lost 0x0503 is active,
and under it LKS_CAP is at most 20 W (R417, R429). A condition that has ended clears its code, and the loss of cooling
stays while every fitted pump is lost (R429). Both pumps' duty is 100 % without a curve, without firmware, in
clock-hold, under a cooling code and at the upper outlet temperature, DUTY_LO at the lower one, and on the line
between them in between; STOR_PCT moves by at most 20 down and 5 up (R430, R509). A host timeout needs a kick before
it and HOST_TMO nonzero; it sets HOST_LOST, holds the host rings in use and records 0x0706, and the next kick ends the
loss (R431, R453). -/
def Obligations.CoolingAndHostCommands : Prop :=
  ∀ s : State, s.pins.powered = true →
    (∀ (p : Fin 2) (n : Nat), s.boot.fwRuns = true → bitOf (s.cool 0 1 3) p.val = true → ((60 * n : Nat) : Rat) /
      ((s.cool 1 1 2 : Nat) : Rat) < ((s.cool 4 2 600 : Nat) : Rat) → ∃ t, exec (.pumpLoss p n) s = .next t ∧ (0x0501
      + p.val, p.val + 1) ∈ t.brd.active ∧ bitOf (t.get BRD_COOL_PUMP_LOST) p.val = true ∧ t.isSet BRD_STATUS_DERATE =
      true ∧ t.pins.pumpDuty = [100, 100] ∧ ((0x0503, 0) ∈ t.brd.active → t.get BRD_COOL_LKS_CAP ≤ 20) ∧ (t.pumpsLost
      = true → (0x0503, 0) ∈ t.brd.active)) ∧
    (∀ (p : Fin 2) (n : Nat), (s.boot.fwRuns = false ∨ bitOf (s.cool 0 1 3) p.val = false ∨ ((s.cool 4 2 600 : Nat) :
      Rat) ≤ ((60 * n : Nat) : Rat) / ((s.cool 1 1 2 : Nat) : Rat)) → exec (.pumpLoss p n) s = .next s) ∧
    (∀ (n : Nat), s.boot.fwRuns = true → ((3000 * n : Nat) : Rat) / ((s.cool 2 2 500 : Nat) : Rat) < ((s.cool 6 2 120
      : Nat) : Rat) → ∃ t, exec (.flowLow n) s = .next t ∧ (0x0504, 0) ∈ t.brd.active ∧ t.isSet BRD_STATUS_DERATE =
      true ∧ (2 * (((3000 * n : Nat) : Rat) / ((s.cool 2 2 500 : Nat) : Rat)) < ((s.cool 6 2 120 : Nat) : Rat) →
      (0x0503, 0) ∈ t.brd.active) ∧ ((0x0503, 0) ∉ s.brd.active → ((s.cool 6 2 120 : Nat) : Rat) ≤ 2 * (((3000 * n :
      Nat) : Rat) / ((s.cool 2 2 500 : Nat) : Rat)) → (0x0503, 0) ∉ t.brd.active) ∧ t.pins.pumpDuty = [100, 100] ∧
      ((0x0503, 0) ∈ t.brd.active → t.get BRD_COOL_LKS_CAP ≤ 20)) ∧
    (∀ (n : Nat), (s.boot.fwRuns = false ∨ ((s.cool 6 2 120 : Nat) : Rat) ≤ ((3000 * n : Nat) : Rat) / ((s.cool 2 2
      500 : Nat) : Rat)) → exec (.flowLow n) s = .next s) ∧
    (∀ (c : Fin 256), s.boot.fwRuns = true → 45 < c.val → ∃ t, exec (.inletHigh c) s = .next t ∧ (0x0505, 0) ∈
      t.brd.active ∧ t.get BRD_COOL_T_IN = c.val ∧ t.pins.pumpDuty = [100, 100]) ∧
    (∀ (c : Fin 256), (s.boot.fwRuns = false ∨ c.val ≤ 45) → exec (.inletHigh c) s = .next (s.set BRD_COOL_T_IN c.val)) ∧
    (∀ (k : Fin 2), ∃ t, exec (.coolingClear ⟨k.val, by omega⟩) s = .next t ∧ (0x0501 + k.val, k.val + 1) ∉
      t.brd.active ∧ bitOf (t.get BRD_COOL_PUMP_LOST) k.val = false) ∧
    (s.pumpsLost = false → ∃ t, exec (.coolingClear 2) s = .next t ∧ (0x0503, 0) ∉ t.brd.active ∧ (t.cooling = false →
      t.codeActive 0x0503 = false → t.get BRD_COOL_LKS_CAP = 150)) ∧
    (s.pumpsLost = true → exec (.coolingClear 2) s = .next s) ∧
    (∃ t, exec (.coolingClear 3) s = .next t ∧ (0x0504, 0) ∉ t.brd.active) ∧
    (∃ t, exec (.coolingClear 4) s = .next t ∧ (0x0505, 0) ∉ t.brd.active) ∧
    (∀ (c : Fin 256) (o : Int), ∃ t, exec (.pumpDutyUpdate c o) s = .next t ∧ s.get BRD_COOL_STOR_PCT - 20 ≤ t.get
      BRD_COOL_STOR_PCT ∧ t.get BRD_COOL_STOR_PCT ≤ s.get BRD_COOL_STOR_PCT + 5 ∧ (s.cooling = false → s.get
      BRD_COOL_STOR_PCT ≤ 100 → t.get BRD_COOL_STOR_PCT = min 100 (s.get BRD_COOL_STOR_PCT + 5))) ∧
    (∀ (c : Fin 256) (o : Int), (s.cool 9 1 0 = 0 ∨ s.boot.fwRuns = false ∨ s.isSet CLK_STATUS_HOLD = true ∨ s.cooling
      = true ∨ s.codeActive 0x0503 = true ∨ (s.cool 11 1 0 : Nat) ≤ o) → ∃ t, exec (.pumpDutyUpdate c o) s = .next t ∧
      t.pins.pumpDuty = [100, 100] ∧ t.get BRD_COOL_T_IN = c.val) ∧
    (∀ (c : Fin 256) (o : Int), s.boot.fwRuns = true → s.isSet CLK_STATUS_HOLD = false → s.cooling = false →
      s.codeActive 0x0503 = false → s.cool 9 1 0 ≠ 0 → o ≤ (s.cool 10 1 0 : Nat) → o < (s.cool 11 1 0 : Nat) → ∃ t,
      exec (.pumpDutyUpdate c o) s = .next t ∧ t.pins.pumpDuty = [s.cool 9 1 0, s.cool 9 1 0] ∧ t.get BRD_COOL_T_IN =
      c.val) ∧
    (∀ (c : Fin 256) (o : Int), s.boot.fwRuns = true → s.isSet CLK_STATUS_HOLD = false → s.cooling = false →
      s.codeActive 0x0503 = false → s.cool 9 1 0 ≠ 0 → (s.cool 10 1 0 : Nat) < o → o < (s.cool 11 1 0 : Nat) → ∃ t,
      exec (.pumpDutyUpdate c o) s = .next t ∧ t.pins.pumpDuty = [t.pins.pumpDuty.getD 0 0, t.pins.pumpDuty.getD 0 0]
      ∧ (2 * ((t.pins.pumpDuty.getD 0 0 : Int) * ((s.cool 11 1 0 : Nat) - (s.cool 10 1 0 : Nat) : Int) - ((s.cool 9 1
      0 : Nat) * ((s.cool 11 1 0 : Nat) - o) + 100 * (o - (s.cool 10 1 0 : Nat))))).natAbs ≤ ((s.cool 11 1 0 : Nat) -
      (s.cool 10 1 0 : Nat) : Int).natAbs) ∧
    (s.brd.hostKicked = true → s.get BRD_HOST_CFG_HOST_TMO ≠ 0 → s.isSet BRD_STATUS_HOST_LOST = false → ∃ t, exec
      .hostTimeout s = .next t ∧ t.isSet BRD_STATUS_HOST_LOST = true ∧ t.isSet BRD_EVT_HOST = true ∧ t.shelf = s.shelf
      ∧ ((0x0706, 0) ∉ s.brd.active → t.get BRD_LAST_CODE = 0x0706) ∧ ∀ r : Fin 4, (t.path (r + 1)).used = true →
      t.held (r + 1) = true ∧ t.isSet (TEL_R_STATUS_HELD r) = true) ∧
    ((s.brd.hostKicked = false ∨ s.get BRD_HOST_CFG_HOST_TMO = 0 ∨ s.isSet BRD_STATUS_HOST_LOST = true) → exec
      .hostTimeout s = .next s) ∧
    (s.isSet BRD_STATUS_HOST_LOST = true → ∃ t, exec .hostKick s = .next t ∧ t.brd.hostKicked = true ∧ t.isSet
      BRD_STATUS_HOST_LOST = false ∧ t.isSet BRD_EVT_HOST = true ∧ ((0x0706, 1) ∉ s.brd.active → t.get BRD_LAST_CODE =
      0x0706)) ∧
    (s.isSet BRD_STATUS_HOST_LOST = false → exec .hostKick s = .next
      { s with brd := { s.brd with hostKicked := true } })

/-- The MRAM writer writes the oldest record that waits whole, into its incident's slot or the ring, and takes it from
its queue, unless a last-fault record or a journal entry goes before it, its sector is being remapped or the write
fence is set; a write that reads back wrong changes no byte outside the record's and leaves the record waiting (R296,
R442, R444, R445, R467). A completed snapshot frees its list with FIRED; SBG_TRIG fires a list of TKIND 4 alone, which
is busy until then, and counts MISSED where the list is busy (R446, R447, R448). MARK opens an incident with the next
number, which closes 10 s after its last opening event; INC_KEEP, an opened incident and the periodic write put the
control block into its next copy (R443, R444). An operating second counts one, the wake timer down to 1, and the
switching seconds of the active channels (R123, R436, R460). A GAP record that is due goes into its path's queue once
(R451). The oldest record of a host ring is written at its tail, behind a PAD where it would cross the end, and the
tail moves by its units; a write that fails sets WB_ERR and clears ENABLE. A hold that ends lets the GAP record
follow, and a head beyond the ring sets HEAD_ERR and moves nothing (R452, R453). -/
def Obligations.RecorderCommands : Prop :=
  ∀ s : State, s.pins.powered = true →
    (∀ (b : Bool), (s.path 0).queue = [] → exec (.mramRecordWrite b) s = .next s) ∧
    (∀ (b : Bool) (q : QItem) (l : List QItem), (s.path 0).queue = q :: l → (s.fenced = true ∨ s.hrn.lfrQ ≠ [] ∨
      s.isSet EST_JNL_STATUS_BUSY = true ∨ s.isSet EST_JNL_STATUS_PENDING = true ∨ s.sectorMoving (s.recAddr q.rec_) =
      true) → exec (.mramRecordWrite b) s = .next s) ∧
    (∀ (q : QItem) (l : List QItem), (s.path 0).queue = q :: l → s.rmt.due = false → s.fenced = false → s.writerTaken
      = false → s.sectorMoving (s.recAddr q.rec_) = false → ∃ t, exec (.mramRecordWrite false) s = .next t ∧
      (s.pinSlot q.rec_ = none → t.mram = sparseWriteBytes s.mram (ringAddr (if s.sbg.ringNext + q.rec_.units ≤ 20352
      then s.sbg.ringNext else 0)) (q.rec_.bytes s.now)) ∧ (∀ i : Fin 16, s.pinSlot q.rec_ = some i.val → t.mram =
      sparseWriteBytes s.mram (0x2000 + 0x4000 * i + 64 * s.sbg.slotUnits.getD i 0) (({ q.rec_ with pinned := true } :
      Rec).bytes s.now) ∧ t.get (SBG_INC_SLOT_PINNED i) = min (s.get (SBG_INC_SLOT_PINNED i) + 1) (2 ^
      (SBG_INC_SLOT_PINNED i).w - 1)) ∧ (s.sbg.paths.length = 5 → (t.path 0).queue = l) ∧ (q.rec_.kind = kGap →
      t.isSet SBG_STATUS_GAP = true)) ∧
    (∀ (q : QItem) (l : List QItem), (s.path 0).queue = q :: l → s.fenced = false → s.writerTaken = false →
      s.sectorMoving (s.recAddr q.rec_) = false → ∃ t, exec (.mramRecordWrite true) s = .next t ∧ (t.path 0).queue = q
      :: l ∧ t.free = s.free + 1 ∧ (∀ u, u < s.recAddr q.rec_ ∨ s.recAddr q.rec_ + 64 * q.rec_.units ≤ u →
      sparseReadBytes t.mram u 1 = sparseReadBytes s.mram u 1)) ∧
    (∀ (l : Fin 16) (x y : Word), (s.sbg.snaps.any fun p => p.list == l.val) = false → exec (.snapshotComplete l x y)
      s = .next s) ∧
    (∀ (l : Fin 16) (x y : Word), (s.sbg.snaps.any fun p => p.list == l.val) = true → ∃ t, exec (.snapshotComplete l x
      y) s = .next t ∧ t.isSet (SBG_LIST_STATUS_BUSY l) = false ∧ t.isSet (SBG_LIST_STATUS_FIRED l) = true ∧
      (t.sbg.snaps.any fun p => p.list == l.val) = false ∧ t.rd SBG_SEQ = s.rd SBG_SEQ + 1 ∧ t.shelf = s.shelf) ∧
    (∀ (l : Fin 16), s.get (SBG_LIST_CFG_TKIND l) = 4 → s.isSet (SBG_LIST_STATUS_BUSY l) = false →
      s.sbg.listFired.getD l none = none → ∃ t, exec (.sbgTrig l) s = .next t ∧ t.isSet (SBG_LIST_STATUS_BUSY l) =
      true ∧ t.get (SBG_LIST_STATUS_MISSED l) = 0 ∧ (t.sbg.snaps.any fun p => p.list == l.val) = true ∧ (s.isSet
      (SBG_LIST_CFG_INCIDENT l) = true → t.isSet SBG_STATUS_INC_OPEN = true)) ∧
    (∀ (l : Fin 16), s.get (SBG_LIST_CFG_TKIND l) = 4 → s.isSet (SBG_LIST_STATUS_BUSY l) = true → ∃ t, exec (.sbgTrig
      l) s = .next t ∧ t.get (SBG_LIST_STATUS_MISSED l) = min (s.get (SBG_LIST_STATUS_MISSED l) + 1) (2 ^
      (SBG_LIST_STATUS_MISSED l).w - 1) ∧ t.sbg = s.sbg) ∧
    (∀ (l : Fin 16), s.get (SBG_LIST_CFG_TKIND l) ≠ 4 → exec (.sbgTrig l) s = .next s) ∧
    (s.isSet SBG_STATUS_INC_OPEN = false → ∃ t, exec .mark s = .next t ∧ t.isSet SBG_STATUS_INC_OPEN = true ∧
      t.sbg.incNum = s.sbg.incNum % 65535 + 1 ∧ t.sbg.incAt = s.elapsed ∧ t.isSet SBG_CTRL_MARK = false ∧ (s.pickSlot
      = none → t.isSet SBG_STATUS_INC_LOST = true) ∧ (∀ i : Fin 16, s.pickSlot = some i.val → t.get
      (SBG_INC_SLOT_INCIDENT i) = t.sbg.incNum ∧ t.get (SBG_INC_SLOT_PINNED i) = 0)) ∧
    (s.isSet SBG_STATUS_INC_OPEN = true → exec .mark s = .next
      { s.clear SBG_CTRL_MARK with sbg := { s.sbg with incAt := s.elapsed } }) ∧
    (s.sbg.incAt + 10 * tickS ≤ s.elapsed → exec .incidentClose s = .next (s.clear SBG_STATUS_INC_OPEN)) ∧
    (s.elapsed < s.sbg.incAt + 10 * tickS → exec .incidentClose s = .next s) ∧
    (∃ t, exec .controlBlockPeriodic s = .next t ∧ t.regs = s.regs ∧ (s.fenced = true → t.mram = s.mram ∧ t.sbg =
      s.sbg) ∧ (s.fenced = false → s.sectorMoving (0x1000 * s.sbg.cbCopy) = true → t.mram = s.mram ∧ t.sbg.cbDue =
      true) ∧ (s.fenced = false → s.sectorMoving (0x1000 * s.sbg.cbCopy) = false → t.sbg.cbGen = s.sbg.cbGen + 1 ∧
      t.sbg.cbCopy = 1 - s.sbg.cbCopy ∧ t.mram = sparseWriteBytes s.mram (0x1000 * s.sbg.cbCopy) (s.cbBytes
      (s.sbg.cbGen + 1)))) ∧
    (∀ (v : Fin 65536), ∃ t, exec (.incKeepWrite v) s = .next t ∧ t.get SBG_INC_KEEP_KEEP = v.val ∧ (s.fenced = true →
      t.mram = s.mram ∧ t.sbg = s.sbg) ∧ (s.fenced = false → s.sectorMoving (0x1000 * s.sbg.cbCopy) = true → t.mram =
      s.mram ∧ t.sbg.cbDue = true) ∧ (s.fenced = false → s.sectorMoving (0x1000 * s.sbg.cbCopy) = false → t.sbg.cbGen
      = s.sbg.cbGen + 1 ∧ t.sbg.cbCopy = 1 - s.sbg.cbCopy ∧ t.mram = sparseWriteBytes s.mram (0x1000 * s.sbg.cbCopy)
      ((s.set SBG_INC_KEEP_KEEP v.val).cbBytes (s.sbg.cbGen + 1)))) ∧
    (s.isSet FAB_STATUS_ID_CONFLICT = false → s.rmt.firc = false → ∃ t, exec .operatingSecond s = .next t ∧ t.opsec =
      (s.opsec + 1) % 2 ^ 40 ∧ t.rdN PWR_WAKE_TIMER = (if 1 < s.rdN PWR_WAKE_TIMER then s.rdN PWR_WAKE_TIMER - 1 else
      s.rdN PWR_WAKE_TIMER) ∧ t.out = s.out ∧ (∀ n : Fin 104, (t.rmt.phase.getD n {}).secs = (s.rmt.phase.getD n
      {}).secs + (if s.chSt n ∈ [chRestarting, chRun, chShedding] then 1 else 0)) ∧ t.clk = s.clk) ∧
    (s.isSet FAB_STATUS_ID_CONFLICT = true → ∃ t, exec .operatingSecond s = .next t ∧ t.opsec = (s.opsec + 1) % 2 ^ 40
      ∧ ((0x0703, 0) ∉ s.brd.active → t.get BRD_LAST_CODE = 0x0703)) ∧
    (∀ (i : Fin 5), s.held i.val = false → s.gapWaits i.val = false → (i.val = 0 → s.fenced = false) → (s.level i.val
      = 0 ∨ (s.path i.val).reserveFill + 2 ≤ 256) → i.val < s.sbg.paths.length → (s.path i.val).gap.isSome = true → ∃
      t, exec (.gapRecordDue i) s = .next t ∧ (t.path i.val).gap = none ∧ t.gapWaits i.val = true ∧ (t.path
      i.val).queue.length = (s.path i.val).queue.length + 1 ∧ t.rd SBG_SEQ = s.rd SBG_SEQ + 1) ∧
    (∀ (i : Fin 5), (s.path i.val).gap = none → s.held i.val = false → exec (.gapRecordDue i) s = .next s) ∧
    (∀ (i : Fin 5), (s.held i.val = true ∨ s.gapWaits i.val = true ∨ i.val = 0 ∧ s.fenced = true ∨ s.level i.val ≠ 0 ∧
      256 < (s.path i.val).reserveFill + 2) → exec (.gapRecordDue i) s = .next s) ∧
    (∀ (r : Fin 4) (f : Bool), ((s.path (r.val + 1)).queue = [] ∨ s.held (r.val + 1) = true ∨ (s.path (r.val +
      1)).used = false) → exec (.hostRingRecordWrite r f) s = .next s) ∧
    (∀ (r : Fin 4) (q : QItem) (l : List QItem), (s.path (r.val + 1)).queue = q :: l → s.held (r.val + 1) = false →
      (s.path (r.val + 1)).used = true → ∃ t, exec (.hostRingRecordWrite r true) s = .next t ∧ t.isSet
      (TEL_R_CTRL_ENABLE r) = false ∧ t.isSet (TEL_R_STATUS_WB_ERR r) = true ∧ t.isSet (TEL_R_STATUS_HELD r) = true ∧
      (t.path (r.val + 1)).queue = q :: l) ∧
    (∀ (r : Fin 4) (q : QItem) (l : List QItem), (s.path (r.val + 1)).queue = q :: l → s.held (r.val + 1) = false →
      (s.path (r.val + 1)).used = true → s.sbg.paths.length = 5 → q.rec_.units ≤ s.ringSize r - s.get (TEL_R_TAIL_UNIT
      r) → (q.rec_.bytes s.now).length = 64 * q.rec_.units → ∃ t, exec (.hostRingRecordWrite r false) s = .next t ∧
      (Out.hostWrite (s.ringBase r + 64 * s.get (TEL_R_TAIL_UNIT r)) (q.rec_.bytes s.now)) ∈ t.out ∧ (t.path (r.val +
      1)).queue = l ∧ t.get (TEL_R_TAIL_UNIT r) = (s.get (TEL_R_TAIL_UNIT r) + q.rec_.units) % s.ringSize r % 2 ^
      (TEL_R_TAIL_UNIT r).w ∧ (Out.hostWrite (s.ringWb r) (leBytes 4 ((s.get (TEL_R_TAIL_UNIT r) + q.rec_.units) %
      s.ringSize r))) ∈ t.out ∧ (q.rec_.kind = kGap → t.isSet (TEL_R_STATUS_GAP r) = true)) ∧
    (∀ (r : Fin 4) (q : QItem) (l : List QItem), (s.path (r.val + 1)).queue = q :: l → s.held (r.val + 1) = false →
      (s.path (r.val + 1)).used = true → s.sbg.paths.length = 5 → s.ringSize r - s.get (TEL_R_TAIL_UNIT r) <
      q.rec_.units → s.get (TEL_R_TAIL_UNIT r) < s.ringSize r → ∃ t, exec (.hostRingRecordWrite r false) s = .next t ∧
      (Out.hostWrite (s.ringBase r) (q.rec_.bytes s.now)) ∈ t.out ∧ (t.path (r.val + 1)).queue = l ∧ t.free = s.free +
      1) ∧
    (∀ (r : Fin 4), s.held (r.val + 1) = false → s.gapWaits (r.val + 1) = false → r.val + 1 < s.sbg.paths.length →
      (s.path (r.val + 1)).gap.isSome = true → ∃ t, exec (.hostRingHoldEnd r) s = .next t ∧ (t.path (r.val + 1)).gap =
      none ∧ t.gapWaits (r.val + 1) = true ∧ t.isSet (TEL_R_STATUS_HELD r) = t.held (r.val + 1)) ∧
    (∀ (r : Fin 4), (s.held (r.val + 1) = true ∨ s.gapWaits (r.val + 1) = true ∨ (s.path (r.val + 1)).gap = none) → ∃
      t, exec (.hostRingHoldEnd r) s = .next t ∧ t.sbg = s.sbg ∧ t.isSet (TEL_R_STATUS_HELD r) = s.held (r.val + 1) ∧
      t.get (TEL_R_STATUS_LEVEL r) = s.level (r.val + 1)) ∧
    (∀ (r : Fin 4) (v : Word), s.ringSize r ≤ v.toNat % 2 ^ 20 → ∃ t, exec (.telHeadWrite r v) s = .next t ∧ t.isSet
      (TEL_R_STATUS_HEAD_ERR r) = true ∧ t.get (TEL_R_HEAD_UNIT r) = s.get (TEL_R_HEAD_UNIT r) ∧ t.sbg = s.sbg) ∧
    (∀ (r : Fin 4) (v : Word), v.toNat % 2 ^ 20 < s.ringSize r → ∃ t, exec (.telHeadWrite r v) s = .next t ∧ t.get
      (TEL_R_HEAD_UNIT r) = v.toNat % 2 ^ 20 ∧ (s.held (r.val + 1) = false → t.sbg = s.sbg ∧ t.get (TEL_R_STATUS_LEVEL
      r) = t.level (r.val + 1)))

/-- The corrected errors that come with a trigger join their counts, and a part that does not meet its trigger changes
nothing else; for a channel, a core, a row, an HBM4 channel and a DDR5 row the clauses say when it does (R460). A part
that meets it is DUE, or with AUTO takes its first spare in WAIT, or fails for want of one; a part already named
changes nothing, and one whose kind is busy waits its turn (R462, R471). A host REQ that is not accepted is refused
and changes no substitution; an accepted one takes the spare it names where that is free, else the first, or ends
FAILED with cause 2 (R462, R463, R477). CANCEL acts in WAIT alone, and releases its gate's hold (R462). RETIRE acts in
PASSIVE alone, on a channel or a cell position (R475). The hold of a phase substitution is placed under its
conditions, and no channel of its group stays in RUN (R464). With its gate met a WAIT becomes SWITCH with its spare,
or another one that is free, or FAILED with none (R462); a completed mechanism leads to VERIFY, a failed one to FAILED
with its cause, a cell's outcome being the ring's own (R462, R465, R467); a verification that passes or fails ends in
DONE or FAILED with its log entry and a wear copy, a failed one with its spare worn (R462, R464, R473, R474). Three
failed input tests in a row trigger kind 7 (R458). A failed Tack core moves to the spare, or the firmware stops
(R468). FIRC replaces XTAL-A after FIRC_WAIT_S in clock-hold (R470). The wear copy is written at once where the writer
is free, else it is due, and not after the write fence (R473). -/
def Obligations.RemountCommands : Prop :=
  ∀ s : State, s.pins.powered = true →
    (∀ (i : TrigIn), ((s.trigNote i).targetOk i.kind i.target = false ∨ (s.trigNote i).meets i = none) → exec
      (.substitutionTrigger i) s = .next (s.trigNote i)) ∧
    (∀ (i : TrigIn), i.kind.val ≠ 3 → i.kind.val ≠ 4 → i.kind.val ≠ 5 → s.trigNote i = s) ∧
    (∀ (i : TrigIn), i.kind.val = 4 → i.target.val < s.rmt.hbm.length → s.trigNote i =
      { s with rmt := { s.rmt with hbm := (s.trigNote i).rmt.hbm } } ∧ ((s.trigNote i).rmt.hbm.getD i.target {}).total
      = min ((s.rmt.hbm.getD i.target {}).total + i.ce) 0xFFFFFFFF) ∧
    (∀ (i : TrigIn), (i.kind.val = 3 ∨ i.kind.val = 5) → i.target.val = s.rmt.repairs.length → i.target.val < 256 →
      s.trigNote i =
      { s with rmt := { s.rmt with repairs := s.rmt.repairs ++ [⟨i.kind.val, i.unit.val, i.ce.val, i.addr.toNat, 0⟩] } }) ∧
    (∀ (i : TrigIn), i.kind.val = 0 → (s.meets i).isSome = true ↔ s.get (HRN_CH_CTRL_ROLE i.target) = 1 ∧ (3600 * 100
      * s.spare 2 2 1000 ≤ (s.rmt.phase.getD i.target {}).secs ∨ s.spare 4 4 2000000 ≤ (s.rmt.phase.getD i.target
      {}).cycles ∨ s.spare 9 1 3 ≤ (s.rmt.phase.getD i.target {}).faults)) ∧
    (∀ (i : TrigIn), i.kind.val = 2 → (s.meets i).isSome = true ↔ s.coreSt (i.target / 64) (i.target % 64) = cFailed ∨
      s.spare 14 1 64 ≤ (s.rmt.cores.getD (68 * (i.target / 64) + s.phys (i.target / 64) (i.target % 64))
      {}).ceAt.length) ∧
    (∀ (i : TrigIn), i.kind.val = 3 → (s.meets i).isSome = true ↔ i.ue = true ∨ s.spare 15 1 4 ≤ ((s.repairAt 3
      i.target).map (·.ce)).getD 0) ∧
    (∀ (i : TrigIn), i.kind.val = 4 → (s.meets i).isSome = true ↔ s.spare 16 2 1000 ≤ (s.rmt.hbm.getD i.target
      {}).ceAt.length) ∧
    (∀ (i : TrigIn), i.kind.val = 5 → (s.meets i).isSome = true ↔ i.ue = true ∨ s.spare 18 1 4 ≤ ((s.repairAt 5
      i.target).map (·.ce)).getD 0) ∧
    (∀ (i : TrigIn) (c : Nat), s.rmt.turn = [] → (s.trigNote i).targetOk i.kind i.target = true → (s.trigNote i).meets
      i = some c → (s.trigNote i).known i.kind i.target = false → (s.trigNote i).kindFree i.kind = true → (i.kind.val
      ≠ 5 ∨ i.resource = true) → bitOf (s.get RMT_CTRL_AUTO) i.kind = false → ∃ t, exec (.substitutionTrigger i) s =
      .next t ∧ t.kst i.kind = rDue ∧ t.get (RMT_KIND_TARGET i.kind) = i.target.val ∧ t.isSet RMT_STATUS_DUE = true ∧
      t.hrn = s.hrn ∧ t.rmt.log = s.rmt.log) ∧
    (∀ (i : TrigIn) (c : Nat), s.rmt.turn = [] → (s.trigNote i).targetOk i.kind i.target = true → (s.trigNote i).meets
      i = some c → (s.trigNote i).known i.kind i.target = false → (s.trigNote i).kindFree i.kind = true → (i.kind.val
      ≠ 5 ∨ i.resource = true) → bitOf (s.get RMT_CTRL_AUTO) i.kind = true → (s.trigNote i).spareList i.kind i.target
      ≠ [] → ∃ t, exec (.substitutionTrigger i) s = .next t ∧ (t.kst i.kind = rWait ∨ t.kst i.kind = rSwitch) ∧ t.get
      (RMT_KIND_TARGET i.kind) = i.target.val ∧ (∃ p ∈ ((s.trigNote i).spareList i.kind i.target).head?, t.get
      (RMT_KIND_SPARE i.kind) = p % 4096)) ∧
    (∀ (i : TrigIn) (c : Nat), s.rmt.turn = [] → (s.trigNote i).targetOk i.kind i.target = true → (s.trigNote i).meets
      i = some c → (s.trigNote i).known i.kind i.target = false → (s.trigNote i).kindFree i.kind = true → (i.kind.val
      = 5 ∧ i.resource = false ∨ bitOf (s.get RMT_CTRL_AUTO) i.kind = true ∧ (s.trigNote i).spareList i.kind i.target
      = []) → ∃ t, exec (.substitutionTrigger i) s = .next t ∧ t.kst i.kind = rFailed ∧ t.get (RMT_KIND_TARGET i.kind)
      = i.target.val ∧ t.get (RMT_KIND_CAUSE i.kind) = 2 ∧ t.isSet RMT_STATUS_FAILED = true ∧ t.isSet
      RMT_STATUS_NO_SPARE = true ∧ t.rmt.logSeq = s.rmt.logSeq + 1 ∧ t.rmt.logNext = (s.rmt.logNext + 1) % 64) ∧
    (∀ (i : TrigIn) (c : Nat), (s.trigNote i).targetOk i.kind i.target = true → (s.trigNote i).meets i = some c →
      (s.trigNote i).known i.kind i.target = true → (s.trigNote i).kindFree i.kind = false → exec
      (.substitutionTrigger i) s = .next (s.trigNote i)) ∧
    (∀ (i : TrigIn) (c : Nat), (s.trigNote i).targetOk i.kind i.target = true → (s.trigNote i).meets i = some c →
      (s.trigNote i).known i.kind i.target = false → (s.trigNote i).kindFree i.kind = false → exec
      (.substitutionTrigger i) s = .next
      { (s.trigNote i) with rmt := { (s.trigNote i).rmt with turn := s.rmt.turn ++ [(i.kind.val, i.target.val, c)] } }) ∧
    (∀ (k u : Nat), s.reqOk k u = true ↔ (k = 9 ∧ s.kst 9 = rDue ∧ u = 0) ∨ (k < 6 ∧ s.targetOk k u = true ∧ (s.kst k
      ∈ [rIdle, rDone, rFailed, rCancelled] ∨ s.kst k = rDue ∧ s.get (RMT_KIND_TARGET k) = u))) ∧
    (∀ (v : Word), s.reqOk (fieldGet v 28 4) (fieldGet v 16 12) = false → ∃ t, exec (.rmtReq v) s = .next t ∧ t.rmt =
      s.rmt ∧ t.hrn = s.hrn ∧ ((0x0605, 0) ∉ s.brd.active → t.get BRD_LAST_CODE = 0x0605)) ∧
    (∀ (v : Word), s.reqOk (fieldGet v 28 4) (fieldGet v 16 12) = true → s.rmt.turn = [] → s.spareList (fieldGet v 28
      4) (fieldGet v 16 12) = [] → ∃ t, exec (.rmtReq v) s = .next t ∧ t.kst (fieldGet v 28 4) = rFailed ∧ t.get
      (RMT_KIND_TARGET (fieldGet v 28 4)) = (fieldGet v 16 12) ∧ t.get (RMT_KIND_CAUSE (fieldGet v 28 4)) = 2 ∧
      t.isSet RMT_STATUS_FAILED = true ∧ t.isSet RMT_STATUS_NO_SPARE = true ∧ t.rmt.logSeq = s.rmt.logSeq + 1 ∧
      t.rmt.logNext = (s.rmt.logNext + 1) % 64) ∧
    (∀ (v : Word), s.reqOk (fieldGet v 28 4) (fieldGet v 16 12) = true → s.rmt.turn = [] → s.spareList (fieldGet v 28
      4) (fieldGet v 16 12) ≠ [] → ∃ t, exec (.rmtReq v) s = .next t ∧ (t.kst (fieldGet v 28 4) = rWait ∨ t.kst
      (fieldGet v 28 4) = rSwitch) ∧ t.get (RMT_KIND_TARGET (fieldGet v 28 4)) = (fieldGet v 16 12) ∧ ((fieldGet v 4
      12) ∈ s.spareList (fieldGet v 28 4) (fieldGet v 16 12) → t.get (RMT_KIND_SPARE (fieldGet v 28 4)) = (fieldGet v
      4 12)) ∧ ((fieldGet v 4 12) ∉ s.spareList (fieldGet v 28 4) (fieldGet v 16 12) → ∃ p ∈ (s.spareList (fieldGet v
      28 4) (fieldGet v 16 12)).head?, t.get (RMT_KIND_SPARE (fieldGet v 28 4)) = p % 4096) ∧ ((fieldGet v 28 4) = 1 →
      t.est.dueNow = some ((fieldGet v 16 12) / 52))) ∧
    (∀ (k : Fin 10), s.kst k ≠ rWait → exec (.rmtCancel k) s = .next (s.set RMT_CTRL_CANCEL (bitPut (s.get
      RMT_CTRL_CANCEL) k false))) ∧
    (∀ (k : Fin 10), s.kst k = rWait → s.rmt.turn = [] → ∃ t, exec (.rmtCancel k) s = .next t ∧ t.kst k = rCancelled ∧
      t.get (RMT_KIND_CAUSE k) = 3 ∧ (k.val = 0 → t.hrn.phHold = none) ∧ (k.val = 1 → t.est.dueNow ≠ some ((s.subst
      1).target / 52)) ∧ t.rmt = s.rmt ∧ t.out = s.out) ∧
    (∀ (v : Word), (s.shelf ≠ stPassive ∨ 2 ≤ (fieldGet v 28 4) ∨ 104 ≤ (fieldGet v 16 12)) → ∃ t, exec (.rmtRetire v)
      s = .next t ∧ t.rmt = s.rmt ∧ t.ring = s.ring ∧ t.hrn = s.hrn ∧ ((0x0605, 0) ∉ s.brd.active → t.get
      BRD_LAST_CODE = 0x0605)) ∧
    (∀ (v : Word), s.shelf = stPassive → (fieldGet v 28 4) = 0 → (fieldGet v 16 12) < 104 → ∃ t, exec (.rmtRetire v) s
      = .next t ∧ t.get (HRN_CH_CTRL_ROLE (fieldGet v 16 12)) = 0 ∧ t.rmt = s.rmt) ∧
    (∀ (v : Word), s.shelf = stPassive → (fieldGet v 28 4) = 1 → (fieldGet v 16 12) < 104 → s.rmt.cells.length = 104 →
      ∃ t, exec (.rmtRetire v) s = .next t ∧ (t.rmt.cells.getD (fieldGet v 16 12) {}).retired = true ∧ (s.cellRole
      ((fieldGet v 16 12) / 52) ((fieldGet v 16 12) % 52) = 1 → t.cellRole ((fieldGet v 16 12) / 52) ((fieldGet v 16
      12) % 52) = 2 ∨ s.ring.strs.length ≤ (fieldGet v 16 12) / 52 ∨ (s.ring.strs.getD ((fieldGet v 16 12) / 52)
      {}).role.length ≤ (fieldGet v 16 12) % 52) ∧ t.regs = s.regs) ∧
    (s.kst 0 = rWait → s.armedStates = true → s.hrn.phHold = none → s.get (HRN_GRP_STATUS_STATE 12) ∉ [2, 3, 4] →
      (s.hrn.strCmd.getD (chanString (s.subst 0).target) 0).natAbs * 8192 ≤ s.spare 10 2 1000 * 2 ^ 31 → ∃ t, exec
      .phaseHoldPlace s = .next t ∧ t.hrn.phHold = some (chanString (s.subst 0).target, (s.subst 0).target) ∧ ∀ n :
      Fin 8, t.chSt (8 * ((s.subst 0).target / 8) + n) ∉ [chRun, chRestarting]) ∧
    ((s.kst 0 ≠ rWait ∨ s.armedStates = false ∨ s.hrn.phHold.isSome = true ∨ s.get (HRN_GRP_STATUS_STATE 12) ∈ [2, 3,
      4] ∨ s.spare 10 2 1000 * 2 ^ 31 < (s.hrn.strCmd.getD (chanString (s.subst 0).target) 0).natAbs * 8192) → exec
      .phaseHoldPlace s = .next s) ∧
    (∀ (k : Fin 10), s.kst k = rWait → s.gateMet k = true → (s.subst k).spare ∈ s.spareList k (s.subst k).target → ∃
      t, exec (.substitutionGateMet k) s = .next t ∧ t.kst k = rSwitch ∧ t.get (RMT_KIND_CAUSE k) = 0 ∧ (k.val = 0 →
      t.get (HRN_CH_CTRL_ROLE (s.subst 0).target) = 0 ∧ t.chSt (s.subst 0).target = chOff) ∧ (k.val = 7 →
      s.rmt.inputs.length = 224 → inputOf (s.subst 7).target < 224 → (t.rmt.inputs.getD (inputOf (s.subst 7).target)
      {}).conv = (s.subst 7).spare % 32 ∧ (inputOf (s.subst 7).target < 104 → t.meas.again = some (inputOf (s.subst
      7).target))) ∧ (k.val = 8 → t.rmt.mramMap = ((s.subst 8).target, (s.subst 8).spare) :: s.rmt.mramMap.filter (·.1
      != (s.subst 8).target)) ∧ (k.val = 9 → t.rmt.firc = true ∧ t.isSet CLK_STATUS_SW_BUSY = true) ∧ t.rmt.log =
      s.rmt.log) ∧
    (∀ (k : Fin 10), s.kst k = rWait → s.gateMet k = true → s.spareList k (s.subst k).target = [] → s.rmt.turn = [] →
      ∃ t, exec (.substitutionGateMet k) s = .next t ∧ t.kst k = rFailed ∧ t.get (RMT_KIND_CAUSE k) = 2 ∧ t.isSet
      RMT_STATUS_NO_SPARE = true ∧ t.rmt.logSeq = s.rmt.logSeq + 1 ∧ t.rmt.logNext = (s.rmt.logNext + 1) % 64) ∧
    (∀ (k : Fin 10) (p : Nat), s.kst k = rWait → s.gateMet k = true → (s.subst k).spare ∉ s.spareList k (s.subst
      k).target → (s.spareList k (s.subst k).target).head? = some p → ∃ t, exec (.substitutionGateMet k) s = .next t ∧
      t.kst k = rSwitch ∧ t.get (RMT_KIND_SPARE k) = p % 4096) ∧
    (∀ (k : Fin 10), (s.kst k ≠ rWait ∨ s.gateMet k = false) → exec (.substitutionGateMet k) s = .next s) ∧
    (∀ (k : Fin 10), s.kst k = rSwitch → (k.val ≠ 1 ∧ k.val ≠ 2 ∧ k.val ≠ 9) → s.clk.waiting = [] → ∃ t, exec
      (.substitutionSwitchComplete k .done) s = .next t ∧ t.kst k = rVerify ∧ t.get (RMT_KIND_CAUSE k) = 0 ∧ (k.val =
      0 → t.hrn.phHold = none) ∧ (k.val = 3 ∨ k.val = 5 → (s.subst k).target < s.rmt.repairs.length →
      (t.rmt.repairs[(s.subst k).target]?).map (·.state) = some 1) ∧ (k.val = 4 → (s.subst 4).target / 33 <
      s.rmt.hbmSpare.length → t.rmt.hbmSpare.getD ((s.subst 4).target / 33) none = some ((s.subst 4).target % 33)) ∧
      t.rmt.log = s.rmt.log) ∧
    (∀ (k : Fin 10), s.kst k = rSwitch → k.val ≠ 1 → s.rmt.turn = [] → s.clk.waiting = [] → (∃ t, exec
      (.substitutionSwitchComplete k .fault) s = .next t ∧ t.kst k = rFailed ∧ t.get (RMT_KIND_CAUSE k) = 4 ∧ t.isSet
      RMT_STATUS_FAILED = true ∧ t.rmt.logSeq = s.rmt.logSeq + 1 ∧ t.rmt.logNext = (s.rmt.logNext + 1) % 64) ∧ ∃ t,
      exec (.substitutionSwitchComplete k .refused) s = .next t ∧ t.kst k = rFailed ∧ t.get (RMT_KIND_CAUSE k) = 5 ∧
      t.isSet RMT_STATUS_FAILED = true ∧ t.rmt.logSeq = s.rmt.logSeq + 1 ∧ t.rmt.logNext = (s.rmt.logNext + 1) % 64) ∧
    (∀ (e : SwEnd), s.kst 1 = rSwitch → s.get (RING_SWAP_STATE ((s.subst 1).target / 52)) = 5 → ∃ t, exec
      (.substitutionSwitchComplete 1 e) s = .next t ∧ t.kst 1 = rVerify ∧ ((s.subst 1).target < s.rmt.cells.length →
      (t.rmt.cells.getD (s.subst 1).target {}).retired = true ∧ (t.rmt.cells.getD (s.subst 1).target {}).swaps = min
      255 ((s.rmt.cells.getD (s.subst 1).target {}).swaps + 1))) ∧
    (∀ (e : SwEnd), s.kst 1 = rSwitch → s.rmt.turn = [] → s.get (RING_SWAP_STATE ((s.subst 1).target / 52)) = 6 → ∃ t,
      exec (.substitutionSwitchComplete 1 e) s = .next t ∧ t.kst 1 = rFailed ∧ t.get (RMT_KIND_CAUSE 1) = (if s.get
      (RING_SWAP_CAUSE ((s.subst 1).target / 52)) = 2 then 1 else 5) ∧ (s.get (RING_SWAP_CAUSE ((s.subst 1).target /
      52)) = 2 → (1, (s.subst 1).spare) ∈ t.rmt.worn) ∧ t.rmt.logSeq = s.rmt.logSeq + 1 ∧ t.rmt.logNext =
      (s.rmt.logNext + 1) % 64) ∧
    (∀ (e : SwEnd), s.kst 1 = rSwitch → s.get (RING_SWAP_STATE ((s.subst 1).target / 52)) ∉ [5, 6] → exec
      (.substitutionSwitchComplete 1 e) s = .next s) ∧
    (s.kst 2 = rSwitch → exec (.substitutionSwitchComplete 2 .done) s = .next (if (s.core ((s.subst 2).target / 64)
      ((s.subst 2).target % 64)).spare ≠ 0 then s else s.kindTo 2 rVerify 0)) ∧
    (s.kst 9 = rSwitch → exec (.substitutionSwitchComplete 9 .done) s = .next (if s.isSet CLK_STATUS_SW_BUSY then s
      else s.kindTo 9 rVerify 0)) ∧
    (∀ (k : Fin 10) (e : SwEnd), s.kst k ≠ rSwitch → exec (.substitutionSwitchComplete k e) s = .next s) ∧
    (∀ (k : Fin 10) (ok : Bool), s.kst k = rVerify → s.rmt.turn = [] → s.sound k ok = true → ∃ t, exec
      (.substitutionVerify k ok) s = .next t ∧ t.kst k = rDone ∧ t.get (RMT_KIND_CAUSE k) = 0 ∧ t.isSet
      RMT_STATUS_DONE = true ∧ t.rmt.logSeq = s.rmt.logSeq + 1 ∧ t.rmt.logNext = (s.rmt.logNext + 1) % 64 ∧ (s.fenced
      = false → t.rmt.gen = s.rmt.gen + 1 ∨ t.rmt.due = true)) ∧
    (∀ (k : Fin 10) (ok : Bool), s.kst k = rVerify → s.rmt.turn = [] → s.sound k ok = false → ∃ t, exec
      (.substitutionVerify k ok) s = .next t ∧ t.kst k = rFailed ∧ t.get (RMT_KIND_CAUSE k) = 1 ∧ t.isSet
      RMT_STATUS_FAILED = true ∧ t.rmt.logSeq = s.rmt.logSeq + 1 ∧ t.rmt.logNext = (s.rmt.logNext + 1) % 64 ∧
      (s.fenced = false → t.rmt.gen = s.rmt.gen + 1 ∨ t.rmt.due = true) ∧ (k.val, (s.subst k).spare) ∈ t.rmt.worn ∧
      (k.val = 0 → t.get (HRN_CH_CTRL_ROLE (s.subst 0).spare) = 0)) ∧
    (∀ (k : Fin 10) (ok : Bool), s.sound k ok = (if k.val = 0 then s.phaseSound (s.subst 0).spare else if k.val = 1
      then true else ok)) ∧
    (∀ (n : Nat), s.phaseSound n = true ↔ (s.chan n).flt = false ∧ -400 ≤ s.getI (HRN_CH_MEAS_TEMP n) ∧ s.getI
      (HRN_CH_MEAS_TEMP n) ≤ 1500 ∧ ((s.chan n).hi = true ∨ (s.chan n).lo = true ∨ (s.getI (HRN_CH_MEAS_I_AVG
      n)).natAbs ≤ 10)) ∧
    (∀ (k : Fin 10) (ok : Bool), s.kst k ≠ rVerify → exec (.substitutionVerify k ok) s = .next s) ∧
    (∀ (b : Fin 8) (i : Fin 28) (n : Nat), n ≤ 50 → s.rmt.inputs.length = 224 → ∃ t, exec (.inputTest b i n) s = .next
      t ∧ (t.rmt.inputs.getD (28 * b.val + i.val) {}).run = 0 ∧ (t.rmt.inputs.getD (28 * b.val + i.val) {}).last = n ∧
      t.regs = s.regs) ∧
    (∀ (b : Fin 8) (i : Fin 28) (n : Nat), 50 < n → s.rmt.inputs.length = 224 → (s.rmt.inputs.getD (28 * b.val +
      i.val) {}).run ≠ 2 → (s.rmt.inputs.getD (28 * b.val + i.val) {}).run ≤ 3 → ∃ t, exec (.inputTest b i n) s =
      .next t ∧ (t.rmt.inputs.getD (28 * b.val + i.val) {}).run = min 3 ((s.rmt.inputs.getD (28 * b.val + i.val)
      {}).run + 1) ∧ t.regs = s.regs) ∧
    (∀ (b : Fin 8) (i : Fin 28) (n : Nat), 50 < n → s.rmt.inputs.length = 224 → (s.rmt.inputs.getD (28 * b.val +
      i.val) {}).run = 2 → s.kindFree 7 = true → s.rmt.turn = [] → bitOf (s.get RMT_CTRL_AUTO) 7 = false → ∃ t, exec
      (.inputTest b i n) s = .next t ∧ (t.rmt.inputs.getD (28 * b.val + i.val) {}).run = 3 ∧ (t.rmt.inputs.getD (28 *
      b.val + i.val) {}).fails = (s.rmt.inputs.getD (28 * b.val + i.val) {}).fails + 1 ∧ t.kst 7 = rDue ∧ t.get
      (RMT_KIND_TARGET 7) = 32 * b.val + i.val ∧ t.isSet RMT_STATUS_DUE = true) ∧
    (s.fenced = false → s.wearFree = true → ∃ t, exec .wearCopyPeriodic s = .next t ∧ t.rmt.gen = s.rmt.gen + 1 ∧
      t.rmt.copy = 1 - s.rmt.copy ∧ t.rmt.due = false ∧ t.mram = sparseWriteBytes s.mram (wearBase s.rmt.copy)
      (s.wearBytes (s.rmt.gen + 1)) ∧ t.regs = s.regs) ∧
    (s.fenced = false → s.wearFree = false → exec .wearCopyPeriodic s = .next
      { s with rmt := { s.rmt with due := true } }) ∧
    (s.fenced = true → exec .wearCopyPeriodic s = .next s) ∧
    (∀ (c : Fin 4), s.freeTack = true → s.kindFree 6 = true → c.val < s.rmt.tackMap.length → s.rmt.tackMap.getD c.val
      c.val < 4 → s.rmt.subst.length = 10 → ∃ t, exec (.tackCoreFailure c) s = .next t ∧ t.rmt.tackMap =
      s.rmt.tackMap.set c.val 4 ∧ t.kst 6 = rVerify ∧ t.get (RMT_KIND_TARGET 6) = c.val ∧ t.get (RMT_KIND_SPARE 6) = 4
      ∧ t.boot.fwRuns = s.boot.fwRuns ∧ ((0x0604, c.val) ∉ s.brd.active → t.get BRD_LAST_CODE = 0x0604)) ∧
    (∀ (c : Fin 4), (s.freeTack = false ∨ s.kindFree 6 = false ∨ s.rmt.tackMap.getD c.val c.val = 4) → ∃ t, exec
      (.tackCoreFailure c) s = .next t ∧ t.boot.fwRuns = false ∧ t.isSet RMT_STATUS_NO_SPARE = true ∧ (c.val <
      s.rmt.tackMap.length → t.rmt.tackMap.getD c.val 0 = 255) ∧ (s.kindFree 6 = true → s.rmt.turn = [] → t.kst 6 =
      rFailed ∧ t.get (RMT_KIND_CAUSE 6) = 2)) ∧
    ((s.isSet CLK_STATUS_HOLD = false ∨ s.isSet CLK_READY_XTAL_A = true ∨ s.get CLK_SRC_SEL_PLL_REF ≠ 0 ∨ s.known 9 0
      = true) → exec .fircWaitExpiry s = .next s) ∧
    (s.isSet CLK_STATUS_HOLD = true → s.isSet CLK_READY_XTAL_A = false → s.get CLK_SRC_SEL_PLL_REF = 0 → s.known 9 0 =
      false → s.kindFree 9 = true → s.rmt.turn = [] → bitOf (s.get RMT_CTRL_AUTO) 9 = false → ∃ t, exec
      .fircWaitExpiry s = .next t ∧ t.rmt.xtalFail = s.rmt.xtalFail + 1 ∧ t.kst 9 = rDue ∧ t.isSet RMT_STATUS_DUE =
      true ∧ t.clk = s.clk) ∧
    (s.isSet CLK_STATUS_HOLD = true → s.isSet CLK_READY_XTAL_A = false → s.get CLK_SRC_SEL_PLL_REF = 0 → s.known 9 0 =
      false → s.kindFree 9 = true → s.rmt.turn = [] → bitOf (s.get RMT_CTRL_AUTO) 9 = true → s.isSet CLK_READY_FIRC =
      true → s.isSet CLK_STATUS_SW_BUSY = false → ∃ t, exec .fircWaitExpiry s = .next t ∧ t.kst 9 = rSwitch ∧
      t.rmt.firc = true ∧ t.isSet CLK_STATUS_SW_BUSY = true)

/-! ### What commands leave alone -/

/-- Host work on Larkspur (queues, jobs, tiering, BAR2, training, fleet rounds) changes nothing that the model keeps
of Harness, Rein, the rings, the estimator, the measurements, Bridle, start-up and Remount (R30, R370, R371); a
recorder's write, a snapshot, a journal or wear copy, a report, a frequency measurement changes no pin but WAKE_N and
nothing that it keeps of Harness, Rein, the rings, Bridle, Larkspur, the fabric, the forecast and module memory; a
read does neither, but for Larkspur's domains and WAKE_N where it wakes the module from Deep-sleep. What each block
keeps beside its registers is the model's. -/
def Obligations.CommandsLeaveOtherBlocksAlone : Prop :=
  ∀ (c : Instr) (s t : State), exec c s = .next t →
    (match c with
      | .coreWakeComplete .. | .coreDrainComplete .. | .coreIdleTimeout .. | .hostCoreSuspend .. | .hostCoreResume ..
        | .powerCapTick .. | .launch .. | .barrier .. | .wake .. | .sleep .. | .nop .. | .badCommand ..
        | .jobDispatch .. | .jobEnd .. | .jobTimeout .. | .queueAbort .. | .completionDoorbell ..
        | .submissionDoorbell .. | .tierStart .. | .tierAbort .. | .tierCopyComplete .. | .bar2Access ..
        | .exportWeights | .install | .weightExportComplete | .promote | .revert | .trainingBurstStart
        | .candidateJudged .. | .fleetRoundStart .. | .bulkFrameReceived .. | .bulkWindow | .transcendental ..
        | .memoryFence .. | .lksWakeLatchClear .. =>
        t.hrn = s.hrn ∧ t.rein = s.rein ∧ t.ring = s.ring ∧ t.est = s.est ∧ t.meas = s.meas ∧ t.brd = s.brd ∧ t.boot = s.boot
        ∧ t.rmt = s.rmt ∧ t.latches = s.latches ∧ t.time = s.time
      | .snapshotComplete .. | .sbgTrig .. | .mark | .incidentClose | .incKeepWrite .. | .controlBlockPeriodic
        | .gapRecordDue .. | .hostRingRecordWrite .. | .hostRingHoldEnd .. | .telHeadWrite .. | .mramRecordWrite ..
        | .wearCopyPeriodic | .journalPeriodic | .writeNow | .restNow | .estimatorRun .. | .restReference
        | .restAverageStart | .attestationRequest | .attestationReportDone | .fmeasStart .. | .fmeasDone ..
        | .runClearExpiry .. =>
        { t.pins with wakeN := s.pins.wakeN } = s.pins ∧ t.hrn = s.hrn ∧ t.rein = s.rein ∧ t.ring = s.ring ∧ t.brd = s.brd ∧
        t.lks = s.lks ∧ t.fab = s.fab ∧ t.fcst = s.fcst ∧ t.mem = s.mem
      | .lowWordRead .. =>
        { t.pins with wakeN := s.pins.wakeN } = s.pins ∧ (s.asleep = false → t.pins = s.pins ∧ t.lks = s.lks) ∧ t.hrn = s.hrn
        ∧ t.rein = s.rein ∧ t.ring = s.ring ∧ t.brd = s.brd ∧ t.fab = s.fab ∧ t.fcst = s.fcst ∧ t.mem = s.mem ∧ t.rmt
        = s.rmt ∧ t.est = s.est ∧ t.boot = s.boot
      | _ => True)

end
end

