-- ==== Sys2Proof/Laws/Sparse.lean ====
section
/-! SUPPORT. The laws of a sparse store: a read after a write, and the canonical form that every write keeps. -/

namespace Sys2Proof.Machine

variable {α : Type} [DecidableEq α] {d : Nat → α}

omit [DecidableEq α] in
theorem sparseRead_erase_same (l : List (Nat × α)) (a : Nat) : sparseRead d (sparseErase l a) a = d a := by
  induction l with
  | nil => rfl
  | cons p t ih =>
    obtain ⟨b, y⟩ := p
    by_cases h : b = a
    · simpa [sparseErase, h] using ih
    · simpa [sparseErase, sparseRead, h] using ih

omit [DecidableEq α] in
theorem sparseRead_erase_ne (l : List (Nat × α)) {a c : Nat} (h : c ≠ a) :
    sparseRead d (sparseErase l a) c = sparseRead d l c := by
  induction l with
  | nil => rfl
  | cons p t ih =>
    obtain ⟨b, y⟩ := p
    by_cases hb : b = a
    · subst hb
      simpa [sparseErase, sparseRead, Ne.symm h] using ih
    · by_cases hc : b = c
      · subst hc
        simp [sparseErase, sparseRead, h]
      · simpa [sparseErase, sparseRead, hb, hc] using ih

omit [DecidableEq α] in
theorem sparseRead_insert_same (l : List (Nat × α)) (a : Nat) (x : α) :
    sparseRead d (sparseInsert (sparseErase l a) a x) a = x := by
  induction l with
  | nil => simp [sparseErase, sparseInsert, sparseRead]
  | cons p t ih =>
    obtain ⟨b, y⟩ := p
    by_cases hb : b = a
    · simpa [sparseErase, hb] using ih
    · by_cases hl : a < b
      · simp [sparseErase, sparseInsert, sparseRead, hb, hl]
      · simpa [sparseErase, sparseInsert, sparseRead, hb, hl] using ih

omit [DecidableEq α] in
theorem sparseRead_insert_ne (l : List (Nat × α)) {a c : Nat} (x : α) (h : c ≠ a) :
    sparseRead d (sparseInsert l a x) c = sparseRead d l c := by
  induction l with
  | nil => simp [sparseInsert, sparseRead, Ne.symm h]
  | cons p t ih =>
    obtain ⟨b, y⟩ := p
    by_cases hl : a < b
    · simp [sparseInsert, sparseRead, hl, Ne.symm h]
    · by_cases hc : b = c
      · subst hc
        simp [sparseInsert, sparseRead, hl]
      · simpa [sparseInsert, sparseRead, hl, hc] using ih

/-- A write is what the next read of its address returns. -/
theorem sparseRead_write_same (l : List (Nat × α)) (a : Nat) (x : α) : sparseRead d (sparseWrite d l a x) a = x := by
  unfold sparseWrite
  split
  · next h => rw [sparseRead_erase_same, h]
  · exact sparseRead_insert_same l a x

/-- A write leaves every other address as it was. -/
theorem sparseRead_write_ne (l : List (Nat × α)) {a c : Nat} (x : α) (h : c ≠ a) :
    sparseRead d (sparseWrite d l a x) c = sparseRead d l c := by
  unfold sparseWrite
  split
  · exact sparseRead_erase_ne l h
  · rw [sparseRead_insert_ne _ _ h, sparseRead_erase_ne l h]

/-- A read after a write, at any address. -/
theorem sparseRead_write (l : List (Nat × α)) (a c : Nat) (x : α) :
    sparseRead d (sparseWrite d l a x) c = if c = a then x else sparseRead d l c := by
  split
  · next h => rw [h, sparseRead_write_same]
  · next h => exact sparseRead_write_ne l x h

theorem sparseWfFrom_weaken {l : List (Nat × α)} {m n : Nat} (hm : m ≤ n) (h : sparseWfFrom d n l = true) :
    sparseWfFrom d m l = true := by
  cases l with
  | nil => rfl
  | cons p t =>
    obtain ⟨b, y⟩ := p
    simp only [sparseWfFrom, Bool.and_eq_true, decide_eq_true_eq] at h ⊢
    exact ⟨⟨Nat.le_trans hm h.1.1, h.1.2⟩, h.2⟩

theorem sparseWfFrom_erase {l : List (Nat × α)} {n : Nat} (a : Nat) (h : sparseWfFrom d n l = true) :
    sparseWfFrom d n (sparseErase l a) = true := by
  induction l generalizing n with
  | nil => rfl
  | cons p t ih =>
    obtain ⟨b, y⟩ := p
    simp only [sparseWfFrom, Bool.and_eq_true, decide_eq_true_eq] at h
    by_cases hb : b = a
    · simp only [sparseErase, hb, if_true]
      subst hb
      exact sparseWfFrom_weaken (by omega) (ih h.2)
    · simp only [sparseErase, if_neg hb, sparseWfFrom, Bool.and_eq_true, decide_eq_true_eq]
      exact ⟨h.1, ih h.2⟩

omit [DecidableEq α] in
theorem mem_sparseErase {l : List (Nat × α)} {a : Nat} {p : Nat × α} (h : p ∈ sparseErase l a) : p.1 ≠ a := by
  induction l with
  | nil => simp [sparseErase] at h
  | cons q t ih =>
    obtain ⟨b, y⟩ := q
    by_cases hb : b = a
    · simp only [sparseErase, hb, if_true] at h
      exact ih h
    · simp only [sparseErase, if_neg hb, List.mem_cons] at h
      rcases h with h | h
      · simpa [h] using hb
      · exact ih h

theorem sparseWfFrom_insert {l : List (Nat × α)} {n a : Nat} {x : α} (hx : x ≠ d a) (hn : n ≤ a)
    (ha : ∀ p ∈ l, p.1 ≠ a) (h : sparseWfFrom d n l = true) : sparseWfFrom d n (sparseInsert l a x) = true := by
  induction l generalizing n with
  | nil => simp [sparseInsert, sparseWfFrom, hx, hn]
  | cons p t ih =>
    obtain ⟨b, y⟩ := p
    have hb : b ≠ a := ha (b, y) (by simp)
    simp only [sparseWfFrom, Bool.and_eq_true, decide_eq_true_eq] at h
    by_cases hl : a < b
    · simp only [sparseInsert, if_pos hl, sparseWfFrom, Bool.and_eq_true, decide_eq_true_eq]
      exact ⟨⟨hn, by simpa using hx⟩, ⟨⟨hl, h.1.2⟩, h.2⟩⟩
    · simp only [sparseInsert, if_neg hl, sparseWfFrom, Bool.and_eq_true, decide_eq_true_eq]
      exact ⟨h.1, ih (by omega) (fun q hq => ha q (by simp [hq])) h.2⟩

/-- A write keeps the canonical form. -/
theorem sparseWf_write {l : List (Nat × α)} (a : Nat) (x : α) (h : sparseWf d l = true) :
    sparseWf d (sparseWrite d l a x) = true := by
  unfold sparseWrite sparseWf at *
  split
  · exact sparseWfFrom_erase a h
  · next hx =>
    exact sparseWfFrom_insert hx (Nat.zero_le a) (fun p hp => mem_sparseErase hp) (sparseWfFrom_erase a h)

theorem sparseWfFrom_filter {l : List (Nat × α)} {n : Nat} (f : Nat × α → Bool) (h : sparseWfFrom d n l = true) :
    sparseWfFrom d n (l.filter f) = true := by
  induction l generalizing n with
  | nil => rfl
  | cons p t ih =>
    obtain ⟨b, y⟩ := p
    simp only [sparseWfFrom, Bool.and_eq_true, decide_eq_true_eq] at h
    by_cases hf : f (b, y) = true
    · rw [List.filter_cons_of_pos hf]
      simp only [sparseWfFrom, Bool.and_eq_true, decide_eq_true_eq]
      exact ⟨h.1, ih h.2⟩
    · rw [List.filter_cons_of_neg hf]
      exact sparseWfFrom_weaken (by omega) (ih h.2)

/-- Taking entries out keeps the canonical form. -/
theorem sparseWf_filter {l : List (Nat × α)} (f : Nat × α → Bool) (h : sparseWf d l = true) :
    sparseWf d (l.filter f) = true := sparseWfFrom_filter f h

omit [DecidableEq α] in
/-- Entries taken out where the address is not the one read change nothing there. -/
theorem sparseRead_filter {l : List (Nat × α)} (f : Nat → Bool) (a : Nat) :
    sparseRead d (l.filter fun p => f p.1) a = if f a then sparseRead d l a else d a := by
  induction l with
  | nil => simp [sparseRead]
  | cons p t ih =>
    obtain ⟨b, y⟩ := p
    by_cases hb : b = a
    · subst hb
      cases hf : f b <;> simp [hf, sparseRead] at ih ⊢
      exact ih
    · cases hf : f b <;> simp [hf, sparseRead, hb, ih]

/-- A write of bytes keeps the canonical form. -/
theorem sparseWf_writeBytes (m : List (Nat × BitVec 8)) (a : Nat) (l : List (BitVec 8)) (h : sparseWf blankByte m = true) :
    sparseWf blankByte (sparseWriteBytes m a l) = true := by
  induction l generalizing m a with
  | nil => exact h
  | cons x t ih => exact ih _ _ (sparseWf_write a x h)

/-- A write of bytes leaves every address outside them as it was. -/
theorem sparseRead_writeBytes_outside (m : List (Nat × BitVec 8)) (a c : Nat) (l : List (BitVec 8))
    (h : c < a ∨ a + l.length ≤ c) : sparseRead blankByte (sparseWriteBytes m a l) c = sparseRead blankByte m c := by
  induction l generalizing m a with
  | nil => rfl
  | cons x t ih =>
    simp only [List.length_cons] at h
    rw [sparseWriteBytes, ih _ _ (by omega), sparseRead_write_ne _ _ (by omega)]

/-- Each written byte is what a read of its address returns. -/
theorem sparseRead_writeBytes_at (m : List (Nat × BitVec 8)) (a : Nat) (l : List (BitVec 8)) (i : Nat) (h : i < l.length) :
    sparseRead blankByte (sparseWriteBytes m a l) (a + i) = l[i] := by
  induction l generalizing m a i with
  | nil => simp at h
  | cons x t ih =>
    cases i with
    | zero =>
      rw [sparseWriteBytes, sparseRead_writeBytes_outside _ _ _ _ (by omega)]
      simpa using sparseRead_write_same (d := blankByte) m a x
    | succ i =>
      have h' : i < t.length := by simpa using h
      have := ih (sparseWrite blankByte m a x) (a + 1) i h'
      rw [sparseWriteBytes, show a + (i + 1) = a + 1 + i by omega, this]
      simp

/-- Bytes written are the bytes read back. -/
theorem sparseReadBytes_writeBytes (m : List (Nat × BitVec 8)) (a : Nat) (l : List (BitVec 8)) :
    sparseReadBytes (sparseWriteBytes m a l) a l.length = l := by
  suffices H : ∀ (k a : Nat) (m : List (Nat × BitVec 8)) (l : List (BitVec 8)), l.length = k →
      (∀ i (h : i < l.length), sparseRead blankByte m (a + i) = l[i]) → sparseReadBytes m a k = l from
    H _ a _ l rfl fun i h => sparseRead_writeBytes_at m a l i h
  intro k
  induction k with
  | zero =>
    intro a m l hl _
    rw [List.length_eq_zero_iff.mp hl]
    rfl
  | succ k ih =>
    intro a m l hl hr
    cases l with
    | nil => simp at hl
    | cons x t =>
      rw [sparseReadBytes]
      have h0 := hr 0 (by simp)
      simp only [Nat.add_zero, List.getElem_cons_zero] at h0
      rw [h0, ih (a + 1) m t (by simpa using hl) fun i h => by
        have := hr (i + 1) (by simpa using h)
        rw [show a + 1 + i = a + (i + 1) by omega, this]
        simp]

end Sys2Proof.Machine
end

