-- ==== Sys2Proof/Laws/Regs.lean ====
section
/-! SUPPORT. The laws of registers and fields: a read after a write, a field after a write of the same field, of another
field of its register, and of another register. -/

namespace Sys2Proof.Machine

/-- Two fields share no bit. -/
def Field.apart (f g : Field) : Prop := f.addr ≠ g.addr ∨ f.lo + f.w ≤ g.lo ∨ g.lo + g.w ≤ f.lo

theorem State.rd_wr (s : State) (a b : Nat) (v : Word) : (s.wr a v).rd b = if b = a then v else s.rd b :=
  sparseRead_write s.regs a b v

@[simp] theorem State.rd_wr_same (s : State) (a : Nat) (v : Word) : (s.wr a v).rd a = v :=
  sparseRead_write_same s.regs a v

theorem State.rd_wr_ne (s : State) {a b : Nat} (v : Word) (h : b ≠ a) : (s.wr a v).rd b = s.rd b :=
  sparseRead_write_ne s.regs v h

theorem fieldGet_eq (w : Word) (lo n : Nat) : fieldGet w lo n = w.toNat / 2 ^ lo % 2 ^ n := by
  simp [fieldGet, BitVec.extractLsb'_toNat, Nat.shiftRight_eq_div_pow]

theorem fieldPut_getLsbD (w : Word) (lo n v i : Nat) (hi : i < 32) :
    (fieldPut w lo n v).getLsbD i =
      if lo ≤ i ∧ i - lo < n then v.testBit (i - lo) else w.getLsbD i := by
  by_cases h1 : lo ≤ i
  · by_cases h2 : i - lo < n
    · simp [fieldPut, hi, h1, h2, Nat.not_lt.mpr h1, BitVec.getLsbD_ofNat, -BitVec.getLsbD_eq_getElem, show i - lo < 32 by omega]
    · simp [fieldPut, hi, h1, h2, Nat.not_lt.mpr h1, BitVec.getLsbD_ofNat]
  · simp [fieldPut, hi, h1, show i < lo by omega]

/-- A field that fits its register reads back what was put in it, cut to its width. -/
theorem fieldGet_put_same (w : Word) {lo n : Nat} (v : Nat) (h : lo + n ≤ 32) :
    fieldGet (fieldPut w lo n v) lo n = v % 2 ^ n := by
  apply Nat.eq_of_testBit_eq
  intro i
  rw [fieldGet, ← BitVec.getLsbD]
  by_cases hi : i < n
  · simp [hi, fieldPut_getLsbD w lo n v (lo + i) (by omega), Nat.testBit_mod_two_pow]
  · simp [hi, Nat.testBit_mod_two_pow]

/-- A field put leaves the register's other bits. -/
theorem fieldGet_put_other (w : Word) {lo n l m : Nat} (v : Nat) (h : lo + n ≤ l ∨ l + m ≤ lo) :
    fieldGet (fieldPut w lo n v) l m = fieldGet w l m := by
  apply Nat.eq_of_testBit_eq
  intro i
  rw [fieldGet, fieldGet, ← BitVec.getLsbD, ← BitVec.getLsbD]
  by_cases hi : i < m
  · by_cases hk : l + i < 32
    · have : ¬ (lo ≤ l + i ∧ l + i - lo < n) := by omega
      simp [hi, fieldPut_getLsbD w lo n v (l + i) hk, this]
    · simp [hi, BitVec.getLsbD_of_ge _ _ (Nat.not_lt.mp hk)]
  · simp [hi]

/-- A field set reads back its value, cut to its width. -/
theorem State.get_set_same (s : State) (f : Field) (v : Nat) (h : f.lo + f.w ≤ 32) : (s.set f v).get f = v % 2 ^ f.w := by
  simp [State.get, State.set, fieldGet_put_same _ v h]

/-- Setting a field leaves every field apart from it. -/
theorem State.get_set_apart (s : State) (f g : Field) (v : Nat) (h : f.apart g) : (s.set f v).get g = s.get g := by
  unfold State.get State.set
  by_cases ha : f.addr = g.addr
  · rw [← ha, State.rd_wr_same]
    exact fieldGet_put_other _ v (by rcases h with h | h | h <;> [exact absurd ha h; exact .inl h; exact .inr h])
  · rw [State.rd_wr_ne _ _ (Ne.symm ha)]

/-- Setting a field leaves every other register. -/
theorem State.rd_set_ne (s : State) (f : Field) (v : Nat) {a : Nat} (h : a ≠ f.addr) : (s.set f v).rd a = s.rd a :=
  State.rd_wr_ne s _ h

/-- Writing a whole register leaves the fields of every other one. -/
theorem State.get_wr_ne (s : State) {a : Nat} (v : Word) {f : Field} (h : f.addr ≠ a) : (s.wr a v).get f = s.get f := by
  unfold State.get
  rw [State.rd_wr_ne _ _ h]

/-- A field of a register written whole. -/
theorem State.get_wr_same (s : State) (v : Word) (f : Field) : (s.wr f.addr v).get f = fieldGet v f.lo f.w := by
  simp [State.get]

theorem State.isSet_iff (s : State) (f : Field) : s.isSet f = true ↔ s.get f ≠ 0 := by simp [State.isSet]

theorem State.isSet_set_one (s : State) (f : Field) (h : f.lo + f.w ≤ 32) (hw : 0 < f.w) : (s.set f 1).isSet f = true := by
  rw [State.isSet_iff, State.get_set_same s f 1 h]
  have : 1 < 2 ^ f.w := Nat.one_lt_two_pow (by omega)
  simp [Nat.mod_eq_of_lt this]

theorem State.isSet_set_zero (s : State) (f : Field) (h : f.lo + f.w ≤ 32) : (s.set f 0).isSet f = false := by
  have : (s.set f 0).get f = 0 := by simp [State.get_set_same s f 0 h]
  simp [State.isSet, this]

theorem State.rdN_wrN_same (s : State) (a v : Nat) : (s.wrN a v).rdN a = v % 2 ^ 32 := by
  simp [State.rdN, State.wrN, BitVec.toNat_ofNat]

theorem State.rdN_wrN_ne (s : State) {a b : Nat} (v : Nat) (h : b ≠ a) : (s.wrN a v).rdN b = s.rdN b := by
  simp [State.rdN, State.wrN, State.rd_wr_ne _ _ h]

theorem State.rdI_wrI_same (s : State) (a : Nat) (v : Int) (h : -2 ^ 31 ≤ v ∧ v < 2 ^ 31) : (s.wrI a v).rdI a = v := by
  simp only [State.rdI, State.wrI, State.rd_wr_same, BitVec.toInt_ofInt]
  exact Int.bmod_eq_of_le (by omega) (by omega)

end Sys2Proof.Machine
end

