-- ==== Sys2Proof/Laws/State.lean ====
section
/-! SUPPORT. What each update of the state leaves as it was: one lemma for every field and every update, and what a register
reads after an update that writes none. -/

namespace Sys2Proof.Machine

/-! ### Register updates are `wr` and `set` -/

@[simp] theorem State.setB_eq (s : State) (f : Field) (b : Bool) : s.setB f b = s.set f b.toNat := rfl
@[simp] theorem State.setI_eq (s : State) (f : Field) (v : Int) : s.setI f v = s.set f (v % 2 ^ f.w).toNat := rfl
@[simp] theorem State.clear_eq (s : State) (f : Field) : s.clear f = s.set f 0 := rfl
@[simp] theorem State.flag_eq (s : State) (f : Field) : s.flag f = s.set f 1 := rfl
@[simp] theorem State.wrI_eq (s : State) (a : Nat) (v : Int) : s.wrI a v = s.wr a (BitVec.ofInt 32 v) := rfl
@[simp] theorem State.wrN_eq (s : State) (a v : Nat) : s.wrN a v = s.wr a (BitVec.ofNat 32 v) := rfl

/-! ### `wr` -/

@[simp] theorem State.wr_otp (s : State) (a : Nat) (v : Word) : (s.wr a v).otp = s.otp := rfl
@[simp] theorem State.wr_pins (s : State) (a : Nat) (v : Word) : (s.wr a v).pins = s.pins := rfl
@[simp] theorem State.wr_pcie (s : State) (a : Nat) (v : Word) : (s.wr a v).pcie = s.pcie := rfl
@[simp] theorem State.wr_boot (s : State) (a : Nat) (v : Word) : (s.wr a v).boot = s.boot := rfl
@[simp] theorem State.wr_clk (s : State) (a : Nat) (v : Word) : (s.wr a v).clk = s.clk := rfl
@[simp] theorem State.wr_hrn (s : State) (a : Nat) (v : Word) : (s.wr a v).hrn = s.hrn := rfl
@[simp] theorem State.wr_meas (s : State) (a : Nat) (v : Word) : (s.wr a v).meas = s.meas := rfl
@[simp] theorem State.wr_rein (s : State) (a : Nat) (v : Word) : (s.wr a v).rein = s.rein := rfl
@[simp] theorem State.wr_rmt (s : State) (a : Nat) (v : Word) : (s.wr a v).rmt = s.rmt := rfl
@[simp] theorem State.wr_fcst (s : State) (a : Nat) (v : Word) : (s.wr a v).fcst = s.fcst := rfl
@[simp] theorem State.wr_ring (s : State) (a : Nat) (v : Word) : (s.wr a v).ring = s.ring := rfl
@[simp] theorem State.wr_est (s : State) (a : Nat) (v : Word) : (s.wr a v).est = s.est := rfl
@[simp] theorem State.wr_fab (s : State) (a : Nat) (v : Word) : (s.wr a v).fab = s.fab := rfl
@[simp] theorem State.wr_lks (s : State) (a : Nat) (v : Word) : (s.wr a v).lks = s.lks := rfl
@[simp] theorem State.wr_brd (s : State) (a : Nat) (v : Word) : (s.wr a v).brd = s.brd := rfl
@[simp] theorem State.wr_sbg (s : State) (a : Nat) (v : Word) : (s.wr a v).sbg = s.sbg := rfl
@[simp] theorem State.wr_mram (s : State) (a : Nat) (v : Word) : (s.wr a v).mram = s.mram := rfl
@[simp] theorem State.wr_mem (s : State) (a : Nat) (v : Word) : (s.wr a v).mem = s.mem := rfl
@[simp] theorem State.wr_latches (s : State) (a : Nat) (v : Word) : (s.wr a v).latches = s.latches := rfl
@[simp] theorem State.wr_time (s : State) (a : Nat) (v : Word) : (s.wr a v).time = s.time := rfl
@[simp] theorem State.wr_elapsed (s : State) (a : Nat) (v : Word) : (s.wr a v).elapsed = s.elapsed := rfl
@[simp] theorem State.wr_out (s : State) (a : Nat) (v : Word) : (s.wr a v).out = s.out := rfl
@[simp] theorem State.wr_free (s : State) (a : Nat) (v : Word) : (s.wr a v).free = s.free := rfl
@[simp] theorem State.wr_pending (s : State) (a : Nat) (v : Word) : (s.wr a v).pending = s.pending := rfl

/-! ### `set` -/

@[simp] theorem State.set_otp (s : State) (f : Field) (v : Nat) : (s.set f v).otp = s.otp := rfl
@[simp] theorem State.set_pins (s : State) (f : Field) (v : Nat) : (s.set f v).pins = s.pins := rfl
@[simp] theorem State.set_pcie (s : State) (f : Field) (v : Nat) : (s.set f v).pcie = s.pcie := rfl
@[simp] theorem State.set_boot (s : State) (f : Field) (v : Nat) : (s.set f v).boot = s.boot := rfl
@[simp] theorem State.set_clk (s : State) (f : Field) (v : Nat) : (s.set f v).clk = s.clk := rfl
@[simp] theorem State.set_hrn (s : State) (f : Field) (v : Nat) : (s.set f v).hrn = s.hrn := rfl
@[simp] theorem State.set_meas (s : State) (f : Field) (v : Nat) : (s.set f v).meas = s.meas := rfl
@[simp] theorem State.set_rein (s : State) (f : Field) (v : Nat) : (s.set f v).rein = s.rein := rfl
@[simp] theorem State.set_rmt (s : State) (f : Field) (v : Nat) : (s.set f v).rmt = s.rmt := rfl
@[simp] theorem State.set_fcst (s : State) (f : Field) (v : Nat) : (s.set f v).fcst = s.fcst := rfl
@[simp] theorem State.set_ring (s : State) (f : Field) (v : Nat) : (s.set f v).ring = s.ring := rfl
@[simp] theorem State.set_est (s : State) (f : Field) (v : Nat) : (s.set f v).est = s.est := rfl
@[simp] theorem State.set_fab (s : State) (f : Field) (v : Nat) : (s.set f v).fab = s.fab := rfl
@[simp] theorem State.set_lks (s : State) (f : Field) (v : Nat) : (s.set f v).lks = s.lks := rfl
@[simp] theorem State.set_brd (s : State) (f : Field) (v : Nat) : (s.set f v).brd = s.brd := rfl
@[simp] theorem State.set_sbg (s : State) (f : Field) (v : Nat) : (s.set f v).sbg = s.sbg := rfl
@[simp] theorem State.set_mram (s : State) (f : Field) (v : Nat) : (s.set f v).mram = s.mram := rfl
@[simp] theorem State.set_mem (s : State) (f : Field) (v : Nat) : (s.set f v).mem = s.mem := rfl
@[simp] theorem State.set_latches (s : State) (f : Field) (v : Nat) : (s.set f v).latches = s.latches := rfl
@[simp] theorem State.set_time (s : State) (f : Field) (v : Nat) : (s.set f v).time = s.time := rfl
@[simp] theorem State.set_elapsed (s : State) (f : Field) (v : Nat) : (s.set f v).elapsed = s.elapsed := rfl
@[simp] theorem State.set_out (s : State) (f : Field) (v : Nat) : (s.set f v).out = s.out := rfl
@[simp] theorem State.set_free (s : State) (f : Field) (v : Nat) : (s.set f v).free = s.free := rfl
@[simp] theorem State.set_pending (s : State) (f : Field) (v : Nat) : (s.set f v).pending = s.pending := rfl

/-! ### `emit` -/

@[simp] theorem State.emit_regs (s : State) (o : Out) : (s.emit o).regs = s.regs := rfl
@[simp] theorem State.emit_otp (s : State) (o : Out) : (s.emit o).otp = s.otp := rfl
@[simp] theorem State.emit_pins (s : State) (o : Out) : (s.emit o).pins = s.pins := rfl
@[simp] theorem State.emit_pcie (s : State) (o : Out) : (s.emit o).pcie = s.pcie := rfl
@[simp] theorem State.emit_boot (s : State) (o : Out) : (s.emit o).boot = s.boot := rfl
@[simp] theorem State.emit_clk (s : State) (o : Out) : (s.emit o).clk = s.clk := rfl
@[simp] theorem State.emit_hrn (s : State) (o : Out) : (s.emit o).hrn = s.hrn := rfl
@[simp] theorem State.emit_meas (s : State) (o : Out) : (s.emit o).meas = s.meas := rfl
@[simp] theorem State.emit_rein (s : State) (o : Out) : (s.emit o).rein = s.rein := rfl
@[simp] theorem State.emit_rmt (s : State) (o : Out) : (s.emit o).rmt = s.rmt := rfl
@[simp] theorem State.emit_fcst (s : State) (o : Out) : (s.emit o).fcst = s.fcst := rfl
@[simp] theorem State.emit_ring (s : State) (o : Out) : (s.emit o).ring = s.ring := rfl
@[simp] theorem State.emit_est (s : State) (o : Out) : (s.emit o).est = s.est := rfl
@[simp] theorem State.emit_fab (s : State) (o : Out) : (s.emit o).fab = s.fab := rfl
@[simp] theorem State.emit_lks (s : State) (o : Out) : (s.emit o).lks = s.lks := rfl
@[simp] theorem State.emit_brd (s : State) (o : Out) : (s.emit o).brd = s.brd := rfl
@[simp] theorem State.emit_sbg (s : State) (o : Out) : (s.emit o).sbg = s.sbg := rfl
@[simp] theorem State.emit_mram (s : State) (o : Out) : (s.emit o).mram = s.mram := rfl
@[simp] theorem State.emit_mem (s : State) (o : Out) : (s.emit o).mem = s.mem := rfl
@[simp] theorem State.emit_latches (s : State) (o : Out) : (s.emit o).latches = s.latches := rfl
@[simp] theorem State.emit_time (s : State) (o : Out) : (s.emit o).time = s.time := rfl
@[simp] theorem State.emit_elapsed (s : State) (o : Out) : (s.emit o).elapsed = s.elapsed := rfl
@[simp] theorem State.emit_free (s : State) (o : Out) : (s.emit o).free = s.free := rfl
@[simp] theorem State.emit_pending (s : State) (o : Out) : (s.emit o).pending = s.pending := rfl
@[simp] theorem State.emit_rd (s : State) (o : Out) (k : Nat) : (s.emit o).rd k = s.rd k := rfl
@[simp] theorem State.emit_get (s : State) (o : Out) (g : Field) : (s.emit o).get g = s.get g := rfl
@[simp] theorem State.emit_isSet (s : State) (o : Out) (g : Field) : (s.emit o).isSet g = s.isSet g := rfl
@[simp] theorem State.emit_getI (s : State) (o : Out) (g : Field) : (s.emit o).getI g = s.getI g := rfl

/-! ### `setChan` -/

@[simp] theorem State.setChan_regs (s : State) (n : Nat) (c : Chan) : (s.setChan n c).regs = s.regs := rfl
@[simp] theorem State.setChan_otp (s : State) (n : Nat) (c : Chan) : (s.setChan n c).otp = s.otp := rfl
@[simp] theorem State.setChan_pins (s : State) (n : Nat) (c : Chan) : (s.setChan n c).pins = s.pins := rfl
@[simp] theorem State.setChan_pcie (s : State) (n : Nat) (c : Chan) : (s.setChan n c).pcie = s.pcie := rfl
@[simp] theorem State.setChan_boot (s : State) (n : Nat) (c : Chan) : (s.setChan n c).boot = s.boot := rfl
@[simp] theorem State.setChan_clk (s : State) (n : Nat) (c : Chan) : (s.setChan n c).clk = s.clk := rfl
@[simp] theorem State.setChan_meas (s : State) (n : Nat) (c : Chan) : (s.setChan n c).meas = s.meas := rfl
@[simp] theorem State.setChan_rein (s : State) (n : Nat) (c : Chan) : (s.setChan n c).rein = s.rein := rfl
@[simp] theorem State.setChan_rmt (s : State) (n : Nat) (c : Chan) : (s.setChan n c).rmt = s.rmt := rfl
@[simp] theorem State.setChan_fcst (s : State) (n : Nat) (c : Chan) : (s.setChan n c).fcst = s.fcst := rfl
@[simp] theorem State.setChan_ring (s : State) (n : Nat) (c : Chan) : (s.setChan n c).ring = s.ring := rfl
@[simp] theorem State.setChan_est (s : State) (n : Nat) (c : Chan) : (s.setChan n c).est = s.est := rfl
@[simp] theorem State.setChan_fab (s : State) (n : Nat) (c : Chan) : (s.setChan n c).fab = s.fab := rfl
@[simp] theorem State.setChan_lks (s : State) (n : Nat) (c : Chan) : (s.setChan n c).lks = s.lks := rfl
@[simp] theorem State.setChan_brd (s : State) (n : Nat) (c : Chan) : (s.setChan n c).brd = s.brd := rfl
@[simp] theorem State.setChan_sbg (s : State) (n : Nat) (c : Chan) : (s.setChan n c).sbg = s.sbg := rfl
@[simp] theorem State.setChan_mram (s : State) (n : Nat) (c : Chan) : (s.setChan n c).mram = s.mram := rfl
@[simp] theorem State.setChan_mem (s : State) (n : Nat) (c : Chan) : (s.setChan n c).mem = s.mem := rfl
@[simp] theorem State.setChan_latches (s : State) (n : Nat) (c : Chan) : (s.setChan n c).latches = s.latches := rfl
@[simp] theorem State.setChan_time (s : State) (n : Nat) (c : Chan) : (s.setChan n c).time = s.time := rfl
@[simp] theorem State.setChan_elapsed (s : State) (n : Nat) (c : Chan) : (s.setChan n c).elapsed = s.elapsed := rfl
@[simp] theorem State.setChan_out (s : State) (n : Nat) (c : Chan) : (s.setChan n c).out = s.out := rfl
@[simp] theorem State.setChan_free (s : State) (n : Nat) (c : Chan) : (s.setChan n c).free = s.free := rfl
@[simp] theorem State.setChan_pending (s : State) (n : Nat) (c : Chan) : (s.setChan n c).pending = s.pending := rfl
@[simp] theorem State.setChan_rd (s : State) (n : Nat) (c : Chan) (k : Nat) : (s.setChan n c).rd k = s.rd k := rfl
@[simp] theorem State.setChan_get (s : State) (n : Nat) (c : Chan) (g : Field) : (s.setChan n c).get g = s.get g := rfl
@[simp] theorem State.setChan_isSet (s : State) (n : Nat) (c : Chan) (g : Field) : (s.setChan n c).isSet g = s.isSet g := rfl
@[simp] theorem State.setChan_getI (s : State) (n : Nat) (c : Chan) (g : Field) : (s.setChan n c).getI g = s.getI g := rfl

/-! ### `setRs` -/

@[simp] theorem State.setRs_regs (s : State) (x : Nat) (r : RStr) : (s.setRs x r).regs = s.regs := rfl
@[simp] theorem State.setRs_otp (s : State) (x : Nat) (r : RStr) : (s.setRs x r).otp = s.otp := rfl
@[simp] theorem State.setRs_pins (s : State) (x : Nat) (r : RStr) : (s.setRs x r).pins = s.pins := rfl
@[simp] theorem State.setRs_pcie (s : State) (x : Nat) (r : RStr) : (s.setRs x r).pcie = s.pcie := rfl
@[simp] theorem State.setRs_boot (s : State) (x : Nat) (r : RStr) : (s.setRs x r).boot = s.boot := rfl
@[simp] theorem State.setRs_clk (s : State) (x : Nat) (r : RStr) : (s.setRs x r).clk = s.clk := rfl
@[simp] theorem State.setRs_hrn (s : State) (x : Nat) (r : RStr) : (s.setRs x r).hrn = s.hrn := rfl
@[simp] theorem State.setRs_meas (s : State) (x : Nat) (r : RStr) : (s.setRs x r).meas = s.meas := rfl
@[simp] theorem State.setRs_rein (s : State) (x : Nat) (r : RStr) : (s.setRs x r).rein = s.rein := rfl
@[simp] theorem State.setRs_rmt (s : State) (x : Nat) (r : RStr) : (s.setRs x r).rmt = s.rmt := rfl
@[simp] theorem State.setRs_fcst (s : State) (x : Nat) (r : RStr) : (s.setRs x r).fcst = s.fcst := rfl
@[simp] theorem State.setRs_est (s : State) (x : Nat) (r : RStr) : (s.setRs x r).est = s.est := rfl
@[simp] theorem State.setRs_fab (s : State) (x : Nat) (r : RStr) : (s.setRs x r).fab = s.fab := rfl
@[simp] theorem State.setRs_lks (s : State) (x : Nat) (r : RStr) : (s.setRs x r).lks = s.lks := rfl
@[simp] theorem State.setRs_brd (s : State) (x : Nat) (r : RStr) : (s.setRs x r).brd = s.brd := rfl
@[simp] theorem State.setRs_sbg (s : State) (x : Nat) (r : RStr) : (s.setRs x r).sbg = s.sbg := rfl
@[simp] theorem State.setRs_mram (s : State) (x : Nat) (r : RStr) : (s.setRs x r).mram = s.mram := rfl
@[simp] theorem State.setRs_mem (s : State) (x : Nat) (r : RStr) : (s.setRs x r).mem = s.mem := rfl
@[simp] theorem State.setRs_latches (s : State) (x : Nat) (r : RStr) : (s.setRs x r).latches = s.latches := rfl
@[simp] theorem State.setRs_time (s : State) (x : Nat) (r : RStr) : (s.setRs x r).time = s.time := rfl
@[simp] theorem State.setRs_elapsed (s : State) (x : Nat) (r : RStr) : (s.setRs x r).elapsed = s.elapsed := rfl
@[simp] theorem State.setRs_out (s : State) (x : Nat) (r : RStr) : (s.setRs x r).out = s.out := rfl
@[simp] theorem State.setRs_free (s : State) (x : Nat) (r : RStr) : (s.setRs x r).free = s.free := rfl
@[simp] theorem State.setRs_pending (s : State) (x : Nat) (r : RStr) : (s.setRs x r).pending = s.pending := rfl
@[simp] theorem State.setRs_rd (s : State) (x : Nat) (r : RStr) (k : Nat) : (s.setRs x r).rd k = s.rd k := rfl
@[simp] theorem State.setRs_get (s : State) (x : Nat) (r : RStr) (g : Field) : (s.setRs x r).get g = s.get g := rfl
@[simp] theorem State.setRs_isSet (s : State) (x : Nat) (r : RStr) (g : Field) : (s.setRs x r).isSet g = s.isSet g := rfl
@[simp] theorem State.setRs_getI (s : State) (x : Nat) (r : RStr) (g : Field) : (s.setRs x r).getI g = s.getI g := rfl

/-! ### `setEs` -/

@[simp] theorem State.setEs_regs (s : State) (x : Nat) (e : EstStr) : (s.setEs x e).regs = s.regs := rfl
@[simp] theorem State.setEs_otp (s : State) (x : Nat) (e : EstStr) : (s.setEs x e).otp = s.otp := rfl
@[simp] theorem State.setEs_pins (s : State) (x : Nat) (e : EstStr) : (s.setEs x e).pins = s.pins := rfl
@[simp] theorem State.setEs_pcie (s : State) (x : Nat) (e : EstStr) : (s.setEs x e).pcie = s.pcie := rfl
@[simp] theorem State.setEs_boot (s : State) (x : Nat) (e : EstStr) : (s.setEs x e).boot = s.boot := rfl
@[simp] theorem State.setEs_clk (s : State) (x : Nat) (e : EstStr) : (s.setEs x e).clk = s.clk := rfl
@[simp] theorem State.setEs_hrn (s : State) (x : Nat) (e : EstStr) : (s.setEs x e).hrn = s.hrn := rfl
@[simp] theorem State.setEs_meas (s : State) (x : Nat) (e : EstStr) : (s.setEs x e).meas = s.meas := rfl
@[simp] theorem State.setEs_rein (s : State) (x : Nat) (e : EstStr) : (s.setEs x e).rein = s.rein := rfl
@[simp] theorem State.setEs_rmt (s : State) (x : Nat) (e : EstStr) : (s.setEs x e).rmt = s.rmt := rfl
@[simp] theorem State.setEs_fcst (s : State) (x : Nat) (e : EstStr) : (s.setEs x e).fcst = s.fcst := rfl
@[simp] theorem State.setEs_ring (s : State) (x : Nat) (e : EstStr) : (s.setEs x e).ring = s.ring := rfl
@[simp] theorem State.setEs_fab (s : State) (x : Nat) (e : EstStr) : (s.setEs x e).fab = s.fab := rfl
@[simp] theorem State.setEs_lks (s : State) (x : Nat) (e : EstStr) : (s.setEs x e).lks = s.lks := rfl
@[simp] theorem State.setEs_brd (s : State) (x : Nat) (e : EstStr) : (s.setEs x e).brd = s.brd := rfl
@[simp] theorem State.setEs_sbg (s : State) (x : Nat) (e : EstStr) : (s.setEs x e).sbg = s.sbg := rfl
@[simp] theorem State.setEs_mram (s : State) (x : Nat) (e : EstStr) : (s.setEs x e).mram = s.mram := rfl
@[simp] theorem State.setEs_mem (s : State) (x : Nat) (e : EstStr) : (s.setEs x e).mem = s.mem := rfl
@[simp] theorem State.setEs_latches (s : State) (x : Nat) (e : EstStr) : (s.setEs x e).latches = s.latches := rfl
@[simp] theorem State.setEs_time (s : State) (x : Nat) (e : EstStr) : (s.setEs x e).time = s.time := rfl
@[simp] theorem State.setEs_elapsed (s : State) (x : Nat) (e : EstStr) : (s.setEs x e).elapsed = s.elapsed := rfl
@[simp] theorem State.setEs_out (s : State) (x : Nat) (e : EstStr) : (s.setEs x e).out = s.out := rfl
@[simp] theorem State.setEs_free (s : State) (x : Nat) (e : EstStr) : (s.setEs x e).free = s.free := rfl
@[simp] theorem State.setEs_pending (s : State) (x : Nat) (e : EstStr) : (s.setEs x e).pending = s.pending := rfl
@[simp] theorem State.setEs_rd (s : State) (x : Nat) (e : EstStr) (k : Nat) : (s.setEs x e).rd k = s.rd k := rfl
@[simp] theorem State.setEs_get (s : State) (x : Nat) (e : EstStr) (g : Field) : (s.setEs x e).get g = s.get g := rfl
@[simp] theorem State.setEs_isSet (s : State) (x : Nat) (e : EstStr) (g : Field) : (s.setEs x e).isSet g = s.isSet g := rfl
@[simp] theorem State.setEs_getI (s : State) (x : Nat) (e : EstStr) (g : Field) : (s.setEs x e).getI g = s.getI g := rfl

/-! ### `setPth` -/

@[simp] theorem State.setPth_regs (s : State) (p : Nat) (t : PathSt) : (s.setPth p t).regs = s.regs := rfl
@[simp] theorem State.setPth_otp (s : State) (p : Nat) (t : PathSt) : (s.setPth p t).otp = s.otp := rfl
@[simp] theorem State.setPth_pins (s : State) (p : Nat) (t : PathSt) : (s.setPth p t).pins = s.pins := rfl
@[simp] theorem State.setPth_pcie (s : State) (p : Nat) (t : PathSt) : (s.setPth p t).pcie = s.pcie := rfl
@[simp] theorem State.setPth_boot (s : State) (p : Nat) (t : PathSt) : (s.setPth p t).boot = s.boot := rfl
@[simp] theorem State.setPth_clk (s : State) (p : Nat) (t : PathSt) : (s.setPth p t).clk = s.clk := rfl
@[simp] theorem State.setPth_hrn (s : State) (p : Nat) (t : PathSt) : (s.setPth p t).hrn = s.hrn := rfl
@[simp] theorem State.setPth_meas (s : State) (p : Nat) (t : PathSt) : (s.setPth p t).meas = s.meas := rfl
@[simp] theorem State.setPth_rein (s : State) (p : Nat) (t : PathSt) : (s.setPth p t).rein = s.rein := rfl
@[simp] theorem State.setPth_rmt (s : State) (p : Nat) (t : PathSt) : (s.setPth p t).rmt = s.rmt := rfl
@[simp] theorem State.setPth_fcst (s : State) (p : Nat) (t : PathSt) : (s.setPth p t).fcst = s.fcst := rfl
@[simp] theorem State.setPth_ring (s : State) (p : Nat) (t : PathSt) : (s.setPth p t).ring = s.ring := rfl
@[simp] theorem State.setPth_est (s : State) (p : Nat) (t : PathSt) : (s.setPth p t).est = s.est := rfl
@[simp] theorem State.setPth_lks (s : State) (p : Nat) (t : PathSt) : (s.setPth p t).lks = s.lks := rfl
@[simp] theorem State.setPth_brd (s : State) (p : Nat) (t : PathSt) : (s.setPth p t).brd = s.brd := rfl
@[simp] theorem State.setPth_sbg (s : State) (p : Nat) (t : PathSt) : (s.setPth p t).sbg = s.sbg := rfl
@[simp] theorem State.setPth_mram (s : State) (p : Nat) (t : PathSt) : (s.setPth p t).mram = s.mram := rfl
@[simp] theorem State.setPth_mem (s : State) (p : Nat) (t : PathSt) : (s.setPth p t).mem = s.mem := rfl
@[simp] theorem State.setPth_latches (s : State) (p : Nat) (t : PathSt) : (s.setPth p t).latches = s.latches := rfl
@[simp] theorem State.setPth_time (s : State) (p : Nat) (t : PathSt) : (s.setPth p t).time = s.time := rfl
@[simp] theorem State.setPth_elapsed (s : State) (p : Nat) (t : PathSt) : (s.setPth p t).elapsed = s.elapsed := rfl
@[simp] theorem State.setPth_out (s : State) (p : Nat) (t : PathSt) : (s.setPth p t).out = s.out := rfl
@[simp] theorem State.setPth_free (s : State) (p : Nat) (t : PathSt) : (s.setPth p t).free = s.free := rfl
@[simp] theorem State.setPth_pending (s : State) (p : Nat) (t : PathSt) : (s.setPth p t).pending = s.pending := rfl
@[simp] theorem State.setPth_rd (s : State) (p : Nat) (t : PathSt) (k : Nat) : (s.setPth p t).rd k = s.rd k := rfl
@[simp] theorem State.setPth_get (s : State) (p : Nat) (t : PathSt) (g : Field) : (s.setPth p t).get g = s.get g := rfl
@[simp] theorem State.setPth_isSet (s : State) (p : Nat) (t : PathSt) (g : Field) : (s.setPth p t).isSet g = s.isSet g := rfl
@[simp] theorem State.setPth_getI (s : State) (p : Nat) (t : PathSt) (g : Field) : (s.setPth p t).getI g = s.getI g := rfl

/-! ### `setPath` -/

@[simp] theorem State.setPath_regs (s : State) (i : Nat) (p : TPath) : (s.setPath i p).regs = s.regs := rfl
@[simp] theorem State.setPath_otp (s : State) (i : Nat) (p : TPath) : (s.setPath i p).otp = s.otp := rfl
@[simp] theorem State.setPath_pins (s : State) (i : Nat) (p : TPath) : (s.setPath i p).pins = s.pins := rfl
@[simp] theorem State.setPath_pcie (s : State) (i : Nat) (p : TPath) : (s.setPath i p).pcie = s.pcie := rfl
@[simp] theorem State.setPath_boot (s : State) (i : Nat) (p : TPath) : (s.setPath i p).boot = s.boot := rfl
@[simp] theorem State.setPath_clk (s : State) (i : Nat) (p : TPath) : (s.setPath i p).clk = s.clk := rfl
@[simp] theorem State.setPath_hrn (s : State) (i : Nat) (p : TPath) : (s.setPath i p).hrn = s.hrn := rfl
@[simp] theorem State.setPath_meas (s : State) (i : Nat) (p : TPath) : (s.setPath i p).meas = s.meas := rfl
@[simp] theorem State.setPath_rein (s : State) (i : Nat) (p : TPath) : (s.setPath i p).rein = s.rein := rfl
@[simp] theorem State.setPath_rmt (s : State) (i : Nat) (p : TPath) : (s.setPath i p).rmt = s.rmt := rfl
@[simp] theorem State.setPath_fcst (s : State) (i : Nat) (p : TPath) : (s.setPath i p).fcst = s.fcst := rfl
@[simp] theorem State.setPath_ring (s : State) (i : Nat) (p : TPath) : (s.setPath i p).ring = s.ring := rfl
@[simp] theorem State.setPath_est (s : State) (i : Nat) (p : TPath) : (s.setPath i p).est = s.est := rfl
@[simp] theorem State.setPath_fab (s : State) (i : Nat) (p : TPath) : (s.setPath i p).fab = s.fab := rfl
@[simp] theorem State.setPath_lks (s : State) (i : Nat) (p : TPath) : (s.setPath i p).lks = s.lks := rfl
@[simp] theorem State.setPath_brd (s : State) (i : Nat) (p : TPath) : (s.setPath i p).brd = s.brd := rfl
@[simp] theorem State.setPath_mram (s : State) (i : Nat) (p : TPath) : (s.setPath i p).mram = s.mram := rfl
@[simp] theorem State.setPath_mem (s : State) (i : Nat) (p : TPath) : (s.setPath i p).mem = s.mem := rfl
@[simp] theorem State.setPath_latches (s : State) (i : Nat) (p : TPath) : (s.setPath i p).latches = s.latches := rfl
@[simp] theorem State.setPath_time (s : State) (i : Nat) (p : TPath) : (s.setPath i p).time = s.time := rfl
@[simp] theorem State.setPath_elapsed (s : State) (i : Nat) (p : TPath) : (s.setPath i p).elapsed = s.elapsed := rfl
@[simp] theorem State.setPath_out (s : State) (i : Nat) (p : TPath) : (s.setPath i p).out = s.out := rfl
@[simp] theorem State.setPath_free (s : State) (i : Nat) (p : TPath) : (s.setPath i p).free = s.free := rfl
@[simp] theorem State.setPath_pending (s : State) (i : Nat) (p : TPath) : (s.setPath i p).pending = s.pending := rfl
@[simp] theorem State.setPath_rd (s : State) (i : Nat) (p : TPath) (k : Nat) : (s.setPath i p).rd k = s.rd k := rfl
@[simp] theorem State.setPath_get (s : State) (i : Nat) (p : TPath) (g : Field) : (s.setPath i p).get g = s.get g := rfl
@[simp] theorem State.setPath_isSet (s : State) (i : Nat) (p : TPath) (g : Field) : (s.setPath i p).isSet g = s.isSet g := rfl
@[simp] theorem State.setPath_getI (s : State) (i : Nat) (p : TPath) (g : Field) : (s.setPath i p).getI g = s.getI g := rfl

/-! ### `setQueue` -/

@[simp] theorem State.setQueue_regs (s : State) (d q : Nat) (x : LQueue) : (s.setQueue d q x).regs = s.regs := rfl
@[simp] theorem State.setQueue_otp (s : State) (d q : Nat) (x : LQueue) : (s.setQueue d q x).otp = s.otp := rfl
@[simp] theorem State.setQueue_pins (s : State) (d q : Nat) (x : LQueue) : (s.setQueue d q x).pins = s.pins := rfl
@[simp] theorem State.setQueue_pcie (s : State) (d q : Nat) (x : LQueue) : (s.setQueue d q x).pcie = s.pcie := rfl
@[simp] theorem State.setQueue_boot (s : State) (d q : Nat) (x : LQueue) : (s.setQueue d q x).boot = s.boot := rfl
@[simp] theorem State.setQueue_clk (s : State) (d q : Nat) (x : LQueue) : (s.setQueue d q x).clk = s.clk := rfl
@[simp] theorem State.setQueue_hrn (s : State) (d q : Nat) (x : LQueue) : (s.setQueue d q x).hrn = s.hrn := rfl
@[simp] theorem State.setQueue_meas (s : State) (d q : Nat) (x : LQueue) : (s.setQueue d q x).meas = s.meas := rfl
@[simp] theorem State.setQueue_rein (s : State) (d q : Nat) (x : LQueue) : (s.setQueue d q x).rein = s.rein := rfl
@[simp] theorem State.setQueue_rmt (s : State) (d q : Nat) (x : LQueue) : (s.setQueue d q x).rmt = s.rmt := rfl
@[simp] theorem State.setQueue_fcst (s : State) (d q : Nat) (x : LQueue) : (s.setQueue d q x).fcst = s.fcst := rfl
@[simp] theorem State.setQueue_ring (s : State) (d q : Nat) (x : LQueue) : (s.setQueue d q x).ring = s.ring := rfl
@[simp] theorem State.setQueue_est (s : State) (d q : Nat) (x : LQueue) : (s.setQueue d q x).est = s.est := rfl
@[simp] theorem State.setQueue_fab (s : State) (d q : Nat) (x : LQueue) : (s.setQueue d q x).fab = s.fab := rfl
@[simp] theorem State.setQueue_brd (s : State) (d q : Nat) (x : LQueue) : (s.setQueue d q x).brd = s.brd := rfl
@[simp] theorem State.setQueue_sbg (s : State) (d q : Nat) (x : LQueue) : (s.setQueue d q x).sbg = s.sbg := rfl
@[simp] theorem State.setQueue_mram (s : State) (d q : Nat) (x : LQueue) : (s.setQueue d q x).mram = s.mram := rfl
@[simp] theorem State.setQueue_mem (s : State) (d q : Nat) (x : LQueue) : (s.setQueue d q x).mem = s.mem := rfl
@[simp] theorem State.setQueue_latches (s : State) (d q : Nat) (x : LQueue) : (s.setQueue d q x).latches = s.latches := rfl
@[simp] theorem State.setQueue_time (s : State) (d q : Nat) (x : LQueue) : (s.setQueue d q x).time = s.time := rfl
@[simp] theorem State.setQueue_elapsed (s : State) (d q : Nat) (x : LQueue) : (s.setQueue d q x).elapsed = s.elapsed := rfl
@[simp] theorem State.setQueue_out (s : State) (d q : Nat) (x : LQueue) : (s.setQueue d q x).out = s.out := rfl
@[simp] theorem State.setQueue_free (s : State) (d q : Nat) (x : LQueue) : (s.setQueue d q x).free = s.free := rfl
@[simp] theorem State.setQueue_pending (s : State) (d q : Nat) (x : LQueue) : (s.setQueue d q x).pending = s.pending := rfl
@[simp] theorem State.setQueue_rd (s : State) (d q : Nat) (x : LQueue) (k : Nat) : (s.setQueue d q x).rd k = s.rd k := rfl
@[simp] theorem State.setQueue_get (s : State) (d q : Nat) (x : LQueue) (g : Field) : (s.setQueue d q x).get g = s.get g := rfl
@[simp] theorem State.setQueue_isSet (s : State) (d q : Nat) (x : LQueue) (g : Field) : (s.setQueue d q x).isSet g = s.isSet g := rfl
@[simp] theorem State.setQueue_getI (s : State) (d q : Nat) (x : LQueue) (g : Field) : (s.setQueue d q x).getI g = s.getI g := rfl

/-! ### `setCore` -/

@[simp] theorem State.setCore_regs (s : State) (d c : Nat) (x : LCore) : (s.setCore d c x).regs = s.regs := rfl
@[simp] theorem State.setCore_otp (s : State) (d c : Nat) (x : LCore) : (s.setCore d c x).otp = s.otp := rfl
@[simp] theorem State.setCore_pins (s : State) (d c : Nat) (x : LCore) : (s.setCore d c x).pins = s.pins := rfl
@[simp] theorem State.setCore_pcie (s : State) (d c : Nat) (x : LCore) : (s.setCore d c x).pcie = s.pcie := rfl
@[simp] theorem State.setCore_boot (s : State) (d c : Nat) (x : LCore) : (s.setCore d c x).boot = s.boot := rfl
@[simp] theorem State.setCore_clk (s : State) (d c : Nat) (x : LCore) : (s.setCore d c x).clk = s.clk := rfl
@[simp] theorem State.setCore_hrn (s : State) (d c : Nat) (x : LCore) : (s.setCore d c x).hrn = s.hrn := rfl
@[simp] theorem State.setCore_meas (s : State) (d c : Nat) (x : LCore) : (s.setCore d c x).meas = s.meas := rfl
@[simp] theorem State.setCore_rein (s : State) (d c : Nat) (x : LCore) : (s.setCore d c x).rein = s.rein := rfl
@[simp] theorem State.setCore_rmt (s : State) (d c : Nat) (x : LCore) : (s.setCore d c x).rmt = s.rmt := rfl
@[simp] theorem State.setCore_fcst (s : State) (d c : Nat) (x : LCore) : (s.setCore d c x).fcst = s.fcst := rfl
@[simp] theorem State.setCore_ring (s : State) (d c : Nat) (x : LCore) : (s.setCore d c x).ring = s.ring := rfl
@[simp] theorem State.setCore_est (s : State) (d c : Nat) (x : LCore) : (s.setCore d c x).est = s.est := rfl
@[simp] theorem State.setCore_fab (s : State) (d c : Nat) (x : LCore) : (s.setCore d c x).fab = s.fab := rfl
@[simp] theorem State.setCore_brd (s : State) (d c : Nat) (x : LCore) : (s.setCore d c x).brd = s.brd := rfl
@[simp] theorem State.setCore_sbg (s : State) (d c : Nat) (x : LCore) : (s.setCore d c x).sbg = s.sbg := rfl
@[simp] theorem State.setCore_mram (s : State) (d c : Nat) (x : LCore) : (s.setCore d c x).mram = s.mram := rfl
@[simp] theorem State.setCore_mem (s : State) (d c : Nat) (x : LCore) : (s.setCore d c x).mem = s.mem := rfl
@[simp] theorem State.setCore_latches (s : State) (d c : Nat) (x : LCore) : (s.setCore d c x).latches = s.latches := rfl
@[simp] theorem State.setCore_time (s : State) (d c : Nat) (x : LCore) : (s.setCore d c x).time = s.time := rfl
@[simp] theorem State.setCore_elapsed (s : State) (d c : Nat) (x : LCore) : (s.setCore d c x).elapsed = s.elapsed := rfl
@[simp] theorem State.setCore_out (s : State) (d c : Nat) (x : LCore) : (s.setCore d c x).out = s.out := rfl
@[simp] theorem State.setCore_free (s : State) (d c : Nat) (x : LCore) : (s.setCore d c x).free = s.free := rfl
@[simp] theorem State.setCore_pending (s : State) (d c : Nat) (x : LCore) : (s.setCore d c x).pending = s.pending := rfl
@[simp] theorem State.setCore_rd (s : State) (d c : Nat) (x : LCore) (k : Nat) : (s.setCore d c x).rd k = s.rd k := rfl
@[simp] theorem State.setCore_get (s : State) (d c : Nat) (x : LCore) (g : Field) : (s.setCore d c x).get g = s.get g := rfl
@[simp] theorem State.setCore_isSet (s : State) (d c : Nat) (x : LCore) (g : Field) : (s.setCore d c x).isSet g = s.isSet g := rfl
@[simp] theorem State.setCore_getI (s : State) (d c : Nat) (x : LCore) (g : Field) : (s.setCore d c x).getI g = s.getI g := rfl

/-! ### `setTier` -/

@[simp] theorem State.setTier_regs (s : State) (d c : Nat) (t : LTier) : (s.setTier d c t).regs = s.regs := rfl
@[simp] theorem State.setTier_otp (s : State) (d c : Nat) (t : LTier) : (s.setTier d c t).otp = s.otp := rfl
@[simp] theorem State.setTier_pins (s : State) (d c : Nat) (t : LTier) : (s.setTier d c t).pins = s.pins := rfl
@[simp] theorem State.setTier_pcie (s : State) (d c : Nat) (t : LTier) : (s.setTier d c t).pcie = s.pcie := rfl
@[simp] theorem State.setTier_boot (s : State) (d c : Nat) (t : LTier) : (s.setTier d c t).boot = s.boot := rfl
@[simp] theorem State.setTier_clk (s : State) (d c : Nat) (t : LTier) : (s.setTier d c t).clk = s.clk := rfl
@[simp] theorem State.setTier_hrn (s : State) (d c : Nat) (t : LTier) : (s.setTier d c t).hrn = s.hrn := rfl
@[simp] theorem State.setTier_meas (s : State) (d c : Nat) (t : LTier) : (s.setTier d c t).meas = s.meas := rfl
@[simp] theorem State.setTier_rein (s : State) (d c : Nat) (t : LTier) : (s.setTier d c t).rein = s.rein := rfl
@[simp] theorem State.setTier_rmt (s : State) (d c : Nat) (t : LTier) : (s.setTier d c t).rmt = s.rmt := rfl
@[simp] theorem State.setTier_fcst (s : State) (d c : Nat) (t : LTier) : (s.setTier d c t).fcst = s.fcst := rfl
@[simp] theorem State.setTier_ring (s : State) (d c : Nat) (t : LTier) : (s.setTier d c t).ring = s.ring := rfl
@[simp] theorem State.setTier_est (s : State) (d c : Nat) (t : LTier) : (s.setTier d c t).est = s.est := rfl
@[simp] theorem State.setTier_fab (s : State) (d c : Nat) (t : LTier) : (s.setTier d c t).fab = s.fab := rfl
@[simp] theorem State.setTier_brd (s : State) (d c : Nat) (t : LTier) : (s.setTier d c t).brd = s.brd := rfl
@[simp] theorem State.setTier_sbg (s : State) (d c : Nat) (t : LTier) : (s.setTier d c t).sbg = s.sbg := rfl
@[simp] theorem State.setTier_mram (s : State) (d c : Nat) (t : LTier) : (s.setTier d c t).mram = s.mram := rfl
@[simp] theorem State.setTier_mem (s : State) (d c : Nat) (t : LTier) : (s.setTier d c t).mem = s.mem := rfl
@[simp] theorem State.setTier_latches (s : State) (d c : Nat) (t : LTier) : (s.setTier d c t).latches = s.latches := rfl
@[simp] theorem State.setTier_time (s : State) (d c : Nat) (t : LTier) : (s.setTier d c t).time = s.time := rfl
@[simp] theorem State.setTier_elapsed (s : State) (d c : Nat) (t : LTier) : (s.setTier d c t).elapsed = s.elapsed := rfl
@[simp] theorem State.setTier_out (s : State) (d c : Nat) (t : LTier) : (s.setTier d c t).out = s.out := rfl
@[simp] theorem State.setTier_free (s : State) (d c : Nat) (t : LTier) : (s.setTier d c t).free = s.free := rfl
@[simp] theorem State.setTier_pending (s : State) (d c : Nat) (t : LTier) : (s.setTier d c t).pending = s.pending := rfl
@[simp] theorem State.setTier_rd (s : State) (d c : Nat) (t : LTier) (k : Nat) : (s.setTier d c t).rd k = s.rd k := rfl
@[simp] theorem State.setTier_get (s : State) (d c : Nat) (t : LTier) (g : Field) : (s.setTier d c t).get g = s.get g := rfl
@[simp] theorem State.setTier_isSet (s : State) (d c : Nat) (t : LTier) (g : Field) : (s.setTier d c t).isSet g = s.isSet g := rfl
@[simp] theorem State.setTier_getI (s : State) (d c : Nat) (t : LTier) (g : Field) : (s.setTier d c t).getI g = s.getI g := rfl

/-! ### `setThread` -/

@[simp] theorem State.setThread_regs (s : State) (a : ThrNo) (t : LThr) : (s.setThread a t).regs = s.regs := rfl
@[simp] theorem State.setThread_otp (s : State) (a : ThrNo) (t : LThr) : (s.setThread a t).otp = s.otp := rfl
@[simp] theorem State.setThread_pins (s : State) (a : ThrNo) (t : LThr) : (s.setThread a t).pins = s.pins := rfl
@[simp] theorem State.setThread_pcie (s : State) (a : ThrNo) (t : LThr) : (s.setThread a t).pcie = s.pcie := rfl
@[simp] theorem State.setThread_boot (s : State) (a : ThrNo) (t : LThr) : (s.setThread a t).boot = s.boot := rfl
@[simp] theorem State.setThread_clk (s : State) (a : ThrNo) (t : LThr) : (s.setThread a t).clk = s.clk := rfl
@[simp] theorem State.setThread_hrn (s : State) (a : ThrNo) (t : LThr) : (s.setThread a t).hrn = s.hrn := rfl
@[simp] theorem State.setThread_meas (s : State) (a : ThrNo) (t : LThr) : (s.setThread a t).meas = s.meas := rfl
@[simp] theorem State.setThread_rein (s : State) (a : ThrNo) (t : LThr) : (s.setThread a t).rein = s.rein := rfl
@[simp] theorem State.setThread_rmt (s : State) (a : ThrNo) (t : LThr) : (s.setThread a t).rmt = s.rmt := rfl
@[simp] theorem State.setThread_fcst (s : State) (a : ThrNo) (t : LThr) : (s.setThread a t).fcst = s.fcst := rfl
@[simp] theorem State.setThread_ring (s : State) (a : ThrNo) (t : LThr) : (s.setThread a t).ring = s.ring := rfl
@[simp] theorem State.setThread_est (s : State) (a : ThrNo) (t : LThr) : (s.setThread a t).est = s.est := rfl
@[simp] theorem State.setThread_fab (s : State) (a : ThrNo) (t : LThr) : (s.setThread a t).fab = s.fab := rfl
@[simp] theorem State.setThread_brd (s : State) (a : ThrNo) (t : LThr) : (s.setThread a t).brd = s.brd := rfl
@[simp] theorem State.setThread_sbg (s : State) (a : ThrNo) (t : LThr) : (s.setThread a t).sbg = s.sbg := rfl
@[simp] theorem State.setThread_mram (s : State) (a : ThrNo) (t : LThr) : (s.setThread a t).mram = s.mram := rfl
@[simp] theorem State.setThread_mem (s : State) (a : ThrNo) (t : LThr) : (s.setThread a t).mem = s.mem := rfl
@[simp] theorem State.setThread_latches (s : State) (a : ThrNo) (t : LThr) : (s.setThread a t).latches = s.latches := rfl
@[simp] theorem State.setThread_time (s : State) (a : ThrNo) (t : LThr) : (s.setThread a t).time = s.time := rfl
@[simp] theorem State.setThread_elapsed (s : State) (a : ThrNo) (t : LThr) : (s.setThread a t).elapsed = s.elapsed := rfl
@[simp] theorem State.setThread_out (s : State) (a : ThrNo) (t : LThr) : (s.setThread a t).out = s.out := rfl
@[simp] theorem State.setThread_free (s : State) (a : ThrNo) (t : LThr) : (s.setThread a t).free = s.free := rfl
@[simp] theorem State.setThread_pending (s : State) (a : ThrNo) (t : LThr) : (s.setThread a t).pending = s.pending := rfl
@[simp] theorem State.setThread_rd (s : State) (a : ThrNo) (t : LThr) (k : Nat) : (s.setThread a t).rd k = s.rd k := rfl
@[simp] theorem State.setThread_get (s : State) (a : ThrNo) (t : LThr) (g : Field) : (s.setThread a t).get g = s.get g := rfl
@[simp] theorem State.setThread_isSet (s : State) (a : ThrNo) (t : LThr) (g : Field) : (s.setThread a t).isSet g = s.isSet g := rfl
@[simp] theorem State.setThread_getI (s : State) (a : ThrNo) (t : LThr) (g : Field) : (s.setThread a t).getI g = s.getI g := rfl

/-! ### `setTrain` -/

@[simp] theorem State.setTrain_regs (s : State) (t : LTrain) : (s.setTrain t).regs = s.regs := rfl
@[simp] theorem State.setTrain_otp (s : State) (t : LTrain) : (s.setTrain t).otp = s.otp := rfl
@[simp] theorem State.setTrain_pins (s : State) (t : LTrain) : (s.setTrain t).pins = s.pins := rfl
@[simp] theorem State.setTrain_pcie (s : State) (t : LTrain) : (s.setTrain t).pcie = s.pcie := rfl
@[simp] theorem State.setTrain_boot (s : State) (t : LTrain) : (s.setTrain t).boot = s.boot := rfl
@[simp] theorem State.setTrain_clk (s : State) (t : LTrain) : (s.setTrain t).clk = s.clk := rfl
@[simp] theorem State.setTrain_hrn (s : State) (t : LTrain) : (s.setTrain t).hrn = s.hrn := rfl
@[simp] theorem State.setTrain_meas (s : State) (t : LTrain) : (s.setTrain t).meas = s.meas := rfl
@[simp] theorem State.setTrain_rein (s : State) (t : LTrain) : (s.setTrain t).rein = s.rein := rfl
@[simp] theorem State.setTrain_rmt (s : State) (t : LTrain) : (s.setTrain t).rmt = s.rmt := rfl
@[simp] theorem State.setTrain_fcst (s : State) (t : LTrain) : (s.setTrain t).fcst = s.fcst := rfl
@[simp] theorem State.setTrain_ring (s : State) (t : LTrain) : (s.setTrain t).ring = s.ring := rfl
@[simp] theorem State.setTrain_est (s : State) (t : LTrain) : (s.setTrain t).est = s.est := rfl
@[simp] theorem State.setTrain_fab (s : State) (t : LTrain) : (s.setTrain t).fab = s.fab := rfl
@[simp] theorem State.setTrain_brd (s : State) (t : LTrain) : (s.setTrain t).brd = s.brd := rfl
@[simp] theorem State.setTrain_sbg (s : State) (t : LTrain) : (s.setTrain t).sbg = s.sbg := rfl
@[simp] theorem State.setTrain_mram (s : State) (t : LTrain) : (s.setTrain t).mram = s.mram := rfl
@[simp] theorem State.setTrain_mem (s : State) (t : LTrain) : (s.setTrain t).mem = s.mem := rfl
@[simp] theorem State.setTrain_latches (s : State) (t : LTrain) : (s.setTrain t).latches = s.latches := rfl
@[simp] theorem State.setTrain_time (s : State) (t : LTrain) : (s.setTrain t).time = s.time := rfl
@[simp] theorem State.setTrain_elapsed (s : State) (t : LTrain) : (s.setTrain t).elapsed = s.elapsed := rfl
@[simp] theorem State.setTrain_out (s : State) (t : LTrain) : (s.setTrain t).out = s.out := rfl
@[simp] theorem State.setTrain_free (s : State) (t : LTrain) : (s.setTrain t).free = s.free := rfl
@[simp] theorem State.setTrain_pending (s : State) (t : LTrain) : (s.setTrain t).pending = s.pending := rfl
@[simp] theorem State.setTrain_rd (s : State) (t : LTrain) (k : Nat) : (s.setTrain t).rd k = s.rd k := rfl
@[simp] theorem State.setTrain_get (s : State) (t : LTrain) (g : Field) : (s.setTrain t).get g = s.get g := rfl
@[simp] theorem State.setTrain_isSet (s : State) (t : LTrain) (g : Field) : (s.setTrain t).isSet g = s.isSet g := rfl
@[simp] theorem State.setTrain_getI (s : State) (t : LTrain) (g : Field) : (s.setTrain t).getI g = s.getI g := rfl

/-! ### `setFleet` -/

@[simp] theorem State.setFleet_regs (s : State) (f : LFleet) : (s.setFleet f).regs = s.regs := rfl
@[simp] theorem State.setFleet_otp (s : State) (f : LFleet) : (s.setFleet f).otp = s.otp := rfl
@[simp] theorem State.setFleet_pins (s : State) (f : LFleet) : (s.setFleet f).pins = s.pins := rfl
@[simp] theorem State.setFleet_pcie (s : State) (f : LFleet) : (s.setFleet f).pcie = s.pcie := rfl
@[simp] theorem State.setFleet_boot (s : State) (f : LFleet) : (s.setFleet f).boot = s.boot := rfl
@[simp] theorem State.setFleet_clk (s : State) (f : LFleet) : (s.setFleet f).clk = s.clk := rfl
@[simp] theorem State.setFleet_hrn (s : State) (f : LFleet) : (s.setFleet f).hrn = s.hrn := rfl
@[simp] theorem State.setFleet_meas (s : State) (f : LFleet) : (s.setFleet f).meas = s.meas := rfl
@[simp] theorem State.setFleet_rein (s : State) (f : LFleet) : (s.setFleet f).rein = s.rein := rfl
@[simp] theorem State.setFleet_rmt (s : State) (f : LFleet) : (s.setFleet f).rmt = s.rmt := rfl
@[simp] theorem State.setFleet_fcst (s : State) (f : LFleet) : (s.setFleet f).fcst = s.fcst := rfl
@[simp] theorem State.setFleet_ring (s : State) (f : LFleet) : (s.setFleet f).ring = s.ring := rfl
@[simp] theorem State.setFleet_est (s : State) (f : LFleet) : (s.setFleet f).est = s.est := rfl
@[simp] theorem State.setFleet_fab (s : State) (f : LFleet) : (s.setFleet f).fab = s.fab := rfl
@[simp] theorem State.setFleet_brd (s : State) (f : LFleet) : (s.setFleet f).brd = s.brd := rfl
@[simp] theorem State.setFleet_sbg (s : State) (f : LFleet) : (s.setFleet f).sbg = s.sbg := rfl
@[simp] theorem State.setFleet_mram (s : State) (f : LFleet) : (s.setFleet f).mram = s.mram := rfl
@[simp] theorem State.setFleet_mem (s : State) (f : LFleet) : (s.setFleet f).mem = s.mem := rfl
@[simp] theorem State.setFleet_latches (s : State) (f : LFleet) : (s.setFleet f).latches = s.latches := rfl
@[simp] theorem State.setFleet_time (s : State) (f : LFleet) : (s.setFleet f).time = s.time := rfl
@[simp] theorem State.setFleet_elapsed (s : State) (f : LFleet) : (s.setFleet f).elapsed = s.elapsed := rfl
@[simp] theorem State.setFleet_out (s : State) (f : LFleet) : (s.setFleet f).out = s.out := rfl
@[simp] theorem State.setFleet_free (s : State) (f : LFleet) : (s.setFleet f).free = s.free := rfl
@[simp] theorem State.setFleet_pending (s : State) (f : LFleet) : (s.setFleet f).pending = s.pending := rfl
@[simp] theorem State.setFleet_rd (s : State) (f : LFleet) (k : Nat) : (s.setFleet f).rd k = s.rd k := rfl
@[simp] theorem State.setFleet_get (s : State) (f : LFleet) (g : Field) : (s.setFleet f).get g = s.get g := rfl
@[simp] theorem State.setFleet_isSet (s : State) (f : LFleet) (g : Field) : (s.setFleet f).isSet g = s.isSet g := rfl
@[simp] theorem State.setFleet_getI (s : State) (f : LFleet) (g : Field) : (s.setFleet f).getI g = s.getI g := rfl

@[simp] theorem State.emit_out (s : State) (o : Out) : (s.emit o).out = o :: s.out := rfl

/-! ### `msix` and `raiseBit` -/

@[simp] theorem State.msix_regs (s : State) (v : Nat) : (s.msix v).regs = s.regs := by
  unfold State.msix
  repeat' split
  all_goals rfl
@[simp] theorem State.msix_otp (s : State) (v : Nat) : (s.msix v).otp = s.otp := by
  unfold State.msix
  repeat' split
  all_goals rfl
@[simp] theorem State.msix_pins (s : State) (v : Nat) : (s.msix v).pins = s.pins := by
  unfold State.msix
  repeat' split
  all_goals rfl
@[simp] theorem State.msix_boot (s : State) (v : Nat) : (s.msix v).boot = s.boot := by
  unfold State.msix
  repeat' split
  all_goals rfl
@[simp] theorem State.msix_clk (s : State) (v : Nat) : (s.msix v).clk = s.clk := by
  unfold State.msix
  repeat' split
  all_goals rfl
@[simp] theorem State.msix_hrn (s : State) (v : Nat) : (s.msix v).hrn = s.hrn := by
  unfold State.msix
  repeat' split
  all_goals rfl
@[simp] theorem State.msix_meas (s : State) (v : Nat) : (s.msix v).meas = s.meas := by
  unfold State.msix
  repeat' split
  all_goals rfl
@[simp] theorem State.msix_rein (s : State) (v : Nat) : (s.msix v).rein = s.rein := by
  unfold State.msix
  repeat' split
  all_goals rfl
@[simp] theorem State.msix_rmt (s : State) (v : Nat) : (s.msix v).rmt = s.rmt := by
  unfold State.msix
  repeat' split
  all_goals rfl
@[simp] theorem State.msix_fcst (s : State) (v : Nat) : (s.msix v).fcst = s.fcst := by
  unfold State.msix
  repeat' split
  all_goals rfl
@[simp] theorem State.msix_ring (s : State) (v : Nat) : (s.msix v).ring = s.ring := by
  unfold State.msix
  repeat' split
  all_goals rfl
@[simp] theorem State.msix_est (s : State) (v : Nat) : (s.msix v).est = s.est := by
  unfold State.msix
  repeat' split
  all_goals rfl
@[simp] theorem State.msix_fab (s : State) (v : Nat) : (s.msix v).fab = s.fab := by
  unfold State.msix
  repeat' split
  all_goals rfl
@[simp] theorem State.msix_lks (s : State) (v : Nat) : (s.msix v).lks = s.lks := by
  unfold State.msix
  repeat' split
  all_goals rfl
@[simp] theorem State.msix_brd (s : State) (v : Nat) : (s.msix v).brd = s.brd := by
  unfold State.msix
  repeat' split
  all_goals rfl
@[simp] theorem State.msix_sbg (s : State) (v : Nat) : (s.msix v).sbg = s.sbg := by
  unfold State.msix
  repeat' split
  all_goals rfl
@[simp] theorem State.msix_mram (s : State) (v : Nat) : (s.msix v).mram = s.mram := by
  unfold State.msix
  repeat' split
  all_goals rfl
@[simp] theorem State.msix_mem (s : State) (v : Nat) : (s.msix v).mem = s.mem := by
  unfold State.msix
  repeat' split
  all_goals rfl
@[simp] theorem State.msix_latches (s : State) (v : Nat) : (s.msix v).latches = s.latches := by
  unfold State.msix
  repeat' split
  all_goals rfl
@[simp] theorem State.msix_time (s : State) (v : Nat) : (s.msix v).time = s.time := by
  unfold State.msix
  repeat' split
  all_goals rfl
@[simp] theorem State.msix_elapsed (s : State) (v : Nat) : (s.msix v).elapsed = s.elapsed := by
  unfold State.msix
  repeat' split
  all_goals rfl
@[simp] theorem State.msix_free (s : State) (v : Nat) : (s.msix v).free = s.free := by
  unfold State.msix
  repeat' split
  all_goals rfl
@[simp] theorem State.msix_pending (s : State) (v : Nat) : (s.msix v).pending = s.pending := by
  unfold State.msix
  repeat' split
  all_goals rfl

@[simp] theorem State.msix_rd (s : State) (v r : Nat) : (s.msix v).rd r = s.rd r := by simp [State.rd, State.dflt]
@[simp] theorem State.msix_get (s : State) (v : Nat) (g : Field) : (s.msix v).get g = s.get g := by simp [State.get]
@[simp] theorem State.msix_isSet (s : State) (v : Nat) (g : Field) : (s.msix v).isSet g = s.isSet g := by simp [State.isSet]
@[simp] theorem State.msix_getI (s : State) (v : Nat) (g : Field) : (s.msix v).getI g = s.getI g := by simp [State.getI]

@[simp] theorem State.raiseBit_otp (s : State) (g : Field) (v : Nat) : (s.raiseBit g v).otp = s.otp := by
  unfold State.raiseBit
  split <;> simp
@[simp] theorem State.raiseBit_pins (s : State) (g : Field) (v : Nat) : (s.raiseBit g v).pins = s.pins := by
  unfold State.raiseBit
  split <;> simp
@[simp] theorem State.raiseBit_boot (s : State) (g : Field) (v : Nat) : (s.raiseBit g v).boot = s.boot := by
  unfold State.raiseBit
  split <;> simp
@[simp] theorem State.raiseBit_clk (s : State) (g : Field) (v : Nat) : (s.raiseBit g v).clk = s.clk := by
  unfold State.raiseBit
  split <;> simp
@[simp] theorem State.raiseBit_hrn (s : State) (g : Field) (v : Nat) : (s.raiseBit g v).hrn = s.hrn := by
  unfold State.raiseBit
  split <;> simp
@[simp] theorem State.raiseBit_meas (s : State) (g : Field) (v : Nat) : (s.raiseBit g v).meas = s.meas := by
  unfold State.raiseBit
  split <;> simp
@[simp] theorem State.raiseBit_rein (s : State) (g : Field) (v : Nat) : (s.raiseBit g v).rein = s.rein := by
  unfold State.raiseBit
  split <;> simp
@[simp] theorem State.raiseBit_rmt (s : State) (g : Field) (v : Nat) : (s.raiseBit g v).rmt = s.rmt := by
  unfold State.raiseBit
  split <;> simp
@[simp] theorem State.raiseBit_fcst (s : State) (g : Field) (v : Nat) : (s.raiseBit g v).fcst = s.fcst := by
  unfold State.raiseBit
  split <;> simp
@[simp] theorem State.raiseBit_ring (s : State) (g : Field) (v : Nat) : (s.raiseBit g v).ring = s.ring := by
  unfold State.raiseBit
  split <;> simp
@[simp] theorem State.raiseBit_est (s : State) (g : Field) (v : Nat) : (s.raiseBit g v).est = s.est := by
  unfold State.raiseBit
  split <;> simp
@[simp] theorem State.raiseBit_fab (s : State) (g : Field) (v : Nat) : (s.raiseBit g v).fab = s.fab := by
  unfold State.raiseBit
  split <;> simp
@[simp] theorem State.raiseBit_lks (s : State) (g : Field) (v : Nat) : (s.raiseBit g v).lks = s.lks := by
  unfold State.raiseBit
  split <;> simp
@[simp] theorem State.raiseBit_brd (s : State) (g : Field) (v : Nat) : (s.raiseBit g v).brd = s.brd := by
  unfold State.raiseBit
  split <;> simp
@[simp] theorem State.raiseBit_sbg (s : State) (g : Field) (v : Nat) : (s.raiseBit g v).sbg = s.sbg := by
  unfold State.raiseBit
  split <;> simp
@[simp] theorem State.raiseBit_mram (s : State) (g : Field) (v : Nat) : (s.raiseBit g v).mram = s.mram := by
  unfold State.raiseBit
  split <;> simp
@[simp] theorem State.raiseBit_mem (s : State) (g : Field) (v : Nat) : (s.raiseBit g v).mem = s.mem := by
  unfold State.raiseBit
  split <;> simp
@[simp] theorem State.raiseBit_latches (s : State) (g : Field) (v : Nat) : (s.raiseBit g v).latches = s.latches := by
  unfold State.raiseBit
  split <;> simp
@[simp] theorem State.raiseBit_time (s : State) (g : Field) (v : Nat) : (s.raiseBit g v).time = s.time := by
  unfold State.raiseBit
  split <;> simp
@[simp] theorem State.raiseBit_elapsed (s : State) (g : Field) (v : Nat) : (s.raiseBit g v).elapsed = s.elapsed := by
  unfold State.raiseBit
  split <;> simp
@[simp] theorem State.raiseBit_free (s : State) (g : Field) (v : Nat) : (s.raiseBit g v).free = s.free := by
  unfold State.raiseBit
  split <;> simp
@[simp] theorem State.raiseBit_pending (s : State) (g : Field) (v : Nat) : (s.raiseBit g v).pending = s.pending := by
  unfold State.raiseBit
  split <;> simp

/-- A status bit is 1 after its rise, whether it was set or not. -/
theorem State.isSet_raiseBit (s : State) (f : Field) (v : Nat) (h : f.lo + f.w ≤ 32) (hw : 0 < f.w) :
    (s.raiseBit f v).isSet f = true := by
  unfold State.raiseBit
  split
  · assumption
  · rw [State.msix_isSet, State.isSet_set_one s f h hw]

/-- A one-bit status field reads 1 after its rise. -/
theorem State.get_raiseBit_same (s : State) (f : Field) (v : Nat) (h : f.lo + f.w ≤ 32) (hw : f.w = 1) :
    (s.raiseBit f v).get f = 1 := by
  have hs := (State.isSet_iff _ _).mp (State.isSet_raiseBit s f v h (by omega))
  have hb : (s.raiseBit f v).get f < 2 ^ f.w := by
    rw [State.get, fieldGet_eq]
    exact Nat.mod_lt _ (Nat.two_pow_pos _)
  rw [hw] at hb
  omega

/-- The rise of a status bit leaves every field apart from it. -/
theorem State.get_raiseBit_apart (s : State) (f g : Field) (v : Nat) (h : f.apart g) : (s.raiseBit f v).get g = s.get g := by
  unfold State.raiseBit
  split
  · rfl
  · rw [State.msix_get, State.get_set_apart s f g 1 h]

/-- The rise of a status bit leaves every other register. -/
theorem State.rd_raiseBit_ne (s : State) (f : Field) (v : Nat) {a : Nat} (h : a ≠ f.addr) : (s.raiseBit f v).rd a = s.rd a := by
  unfold State.raiseBit
  split
  · rfl
  · rw [State.msix_rd, State.rd_set_ne s f 1 h]

/-! ### Reading back what a list update put in -/

theorem State.chan_setChan (s : State) (n : Nat) (c : Chan) (h : n < s.hrn.chans.length) : (s.setChan n c).chan n = c := by
  simp [State.chan, State.setChan, List.getD_eq_getElem?_getD, h]

theorem State.chan_setChan_ne (s : State) {n m : Nat} (c : Chan) (h : m ≠ n) : (s.setChan n c).chan m = s.chan m := by
  simp [State.chan, State.setChan, List.getD_eq_getElem?_getD, List.getElem?_set_ne (Ne.symm h)]

theorem State.queue_setQueue (s : State) (d q : Nat) (x : LQueue) (h : 64 * d + q < s.lks.queues.length) :
    (s.setQueue d q x).queue d q = x := by
  simp [State.queue, State.setQueue, List.getD_eq_getElem?_getD, h]

theorem State.core_setCore (s : State) (d c : Nat) (x : LCore) (h : 64 * d + c < s.lks.cores.length) :
    (s.setCore d c x).core d c = x := by
  simp [State.core, State.setCore, List.getD_eq_getElem?_getD, h]

theorem State.rs_setRs (s : State) (x : Nat) (r : RStr) (h : x < s.ring.strs.length) : (s.setRs x r).rs x = r := by
  simp [State.rs, State.setRs, List.getD_eq_getElem?_getD, h]

theorem State.es_setEs (s : State) (x : Nat) (e : EstStr) (h : x < s.est.strs.length) : (s.setEs x e).es x = e := by
  simp [State.es, State.setEs, List.getD_eq_getElem?_getD, h]

theorem State.pth_setPth (s : State) (p : Nat) (t : PathSt) (h : p < s.fab.paths.length) : (s.setPth p t).pth p = t := by
  simp [State.pth, State.setPth, List.getD_eq_getElem?_getD, h]

theorem State.path_setPath (s : State) (i : Nat) (p : TPath) (h : i < s.sbg.paths.length) : (s.setPath i p).path i = p := by
  simp [State.path, State.setPath, List.getD_eq_getElem?_getD, h]

/-! ### Power -/

/-- A module with power runs the command's meaning. -/
theorem State.on_powered {s : State} (f : State → Res) (h : s.pins.powered = true) : s.on f = f s := by simp [State.on, h]

/-- A module without power stays as it is. -/
theorem State.on_unpowered {s : State} (f : State → Res) (h : s.pins.powered = false) : s.on f = .next s := by
  simp [State.on, h]

end Sys2Proof.Machine
end

