-- ==== Sys2Proof/Laws/Kept.lean ====
section
/-! SUPPORT. What every operation of the model keeps: the canonical form of the stores, the shape of the numbered lists, the
queue of waiting commands, the fuses, what has been sent, and the draws of free values. One lemma `<operation>_kept` for each operation says so; a claim about every step cites these. -/

-- One proof at a time: in the package's one text, proofs that wait for one another would each hold a thread.
set_option Elab.async false

namespace Sys2Proof.Machine

/-- What no command undoes, from s to t; with the first flag module memory, with the second the time are as they were too. -/
structure Kept (bm bt : Bool) (s t : State) : Prop where
  regs : sparseWf s.dflt s.regs = true → sparseWf t.dflt t.regs = true
  mram : sparseWf blankByte s.mram = true → sparseWf blankByte t.mram = true
  mem : sparseWf blankByte s.mem = true → sparseWf blankByte t.mem = true
  pins : s.pins.shaped → t.pins.shaped
  brd : s.brd.shaped → t.brd.shaped
  sbg : s.sbg.shaped → t.sbg.shaped
  hrn : s.hrn.shaped → t.hrn.shaped
  rein : s.rein.shaped → t.rein.shaped
  fcst : s.fcst.shaped → t.fcst.shaped
  ring : s.ring.strs.length = 2 → t.ring.strs.length = 2
  est : s.est.strs.length = 2 → t.est.strs.length = 2
  rmt : s.rmt.shaped → t.rmt.shaped
  fab : s.fab.shaped → t.fab.shaped
  lks : s.lks.shaped → t.lks.shaped
  pending : t.pending = s.pending
  otp : t.otp = s.otp
  out : s.out <:+ t.out
  free : s.free ≤ t.free
  sameMem : bm = true → t.mem = s.mem
  sameTime : bt = true → t.time = s.time ∧ t.elapsed = s.elapsed

theorem Kept.refl {bm bt : Bool} (s : State) : Kept bm bt s s where
  regs := id
  mram := id
  mem := id
  pins := id
  brd := id
  sbg := id
  hrn := id
  rein := id
  fcst := id
  ring := id
  est := id
  rmt := id
  fab := id
  lks := id
  pending := rfl
  otp := rfl
  out := List.suffix_rfl
  free := Nat.le_refl _
  sameMem := fun _ => rfl
  sameTime := fun _ => ⟨rfl, rfl⟩

theorem Kept.trans {bm bt : Bool} {s t u : State} (h : Kept bm bt s t) (k : Kept bm bt t u) : Kept bm bt s u where
  regs := k.regs ∘ h.regs
  mram := k.mram ∘ h.mram
  mem := k.mem ∘ h.mem
  pins := k.pins ∘ h.pins
  brd := k.brd ∘ h.brd
  sbg := k.sbg ∘ h.sbg
  hrn := k.hrn ∘ h.hrn
  rein := k.rein ∘ h.rein
  fcst := k.fcst ∘ h.fcst
  ring := k.ring ∘ h.ring
  est := k.est ∘ h.est
  rmt := k.rmt ∘ h.rmt
  fab := k.fab ∘ h.fab
  lks := k.lks ∘ h.lks
  pending := k.pending.trans h.pending
  otp := k.otp.trans h.otp
  out := h.out.trans k.out
  free := Nat.le_trans h.free k.free
  sameMem := fun e => (k.sameMem e).trans (h.sameMem e)
  sameTime := fun e => ⟨(k.sameTime e).1.trans (h.sameTime e).1, (k.sameTime e).2.trans (h.sameTime e).2⟩

/-- A write to the MRAM that keeps its form, after what else happened. -/
theorem Kept.torn {bm bt : Bool} {s₀ s t : State} {m : List (Nat × Byte)} (h : Kept bm bt s₀ s) (k : Kept bm bt s t)
    (hm : sparseWf blankByte s.mram = true → sparseWf blankByte m = true) : Kept bm bt s₀ { t with mram := m } :=
  h.trans { k with mram := hm }

/-- What keeps memory keeps everything else. -/
theorem Kept.loose {bm bt : Bool} {s t : State} (h : Kept bm bt s t) : Kept false bt s t :=
  { h with sameMem := fun e => absurd e (by simp) }

theorem Kept.variant {bm bt : Bool} {s t : State} (h : Kept bm bt s t) : t.otp.variant = s.otp.variant := by rw [h.otp]

theorem Kept.canonical {bm bt : Bool} {s t : State} (h : Kept bm bt s t) (c : s.canonical) : t.canonical :=
  ⟨h.regs c.1, h.mram c.2.1, h.mem c.2.2⟩

theorem Kept.shaped {bm bt : Bool} {s t : State} (h : Kept bm bt s t) (c : s.shaped) : t.shaped := by
  obtain ⟨a, b, c, d, e, f, g, i, j, k, l⟩ := c
  exact ⟨h.pins a, h.brd b, h.sbg c, h.hrn d, h.rein e, h.fcst f, h.ring g, h.est i, h.rmt j, h.fab k, h.lks l⟩

/-- `Kept` of a record written out, so that a proof can tell a record from any other state. -/
def KeptMk (bm bt : Bool) (s₀ : State) (regs : List (Nat × Word)) (otp : Otp) (pins : Pins) (pcie : Pcie) (boot : Boot) (clk : Clk)
    (hrn : Hrn) (meas : Meas) (rein : Rein) (rmt : Rmt) (fcst : Fcst) (ring : Ring) (est : Est) (fab : Fab) (lks : Lks)
    (brd : Brd) (sbg : Sbg) (mram mem : List (Nat × Byte)) (latches : List (Nat × Nat × Word)) (time : Word64)
    (elapsed : Nat) (out : List Out) (free : Nat) (pending : List Instr) : Prop :=
  Kept bm bt s₀ (State.mk regs otp pins pcie boot clk hrn meas rein rmt fcst ring est fab lks brd sbg mram mem latches time elapsed
    out free pending)

theorem kept_mk (bm bt : Bool) (s₀ : State) (regs : List (Nat × Word)) (otp : Otp) (pins : Pins) (pcie : Pcie) (boot : Boot) (clk : Clk)
    (hrn : Hrn) (meas : Meas) (rein : Rein) (rmt : Rmt) (fcst : Fcst) (ring : Ring) (est : Est) (fab : Fab) (lks : Lks)
    (brd : Brd) (sbg : Sbg) (mram mem : List (Nat × Byte)) (latches : List (Nat × Nat × Word)) (time : Word64)
    (elapsed : Nat) (out : List Out) (free : Nat) (pending : List Instr) :
    Kept bm bt s₀ (State.mk regs otp pins pcie boot clk hrn meas rein rmt fcst ring est fab lks brd sbg mram mem latches time elapsed
      out free pending) =
    KeptMk bm bt s₀ regs otp pins pcie boot clk hrn meas rein rmt fcst ring est fab lks brd sbg mram mem latches time elapsed
      out free pending := rfl

/-- A record update that leaves the registers, the fuses and the queue alone keeps what its other fields keep. -/
theorem Kept.upd {bm bt : Bool} {s₀ s : State} {regs : List (Nat × Word)} {otp : Otp} {pins : Pins} {pcie : Pcie} {boot : Boot} {clk : Clk}
    {hrn : Hrn} {meas : Meas} {rein : Rein} {rmt : Rmt} {fcst : Fcst} {ring : Ring} {est : Est} {fab : Fab} {lks : Lks}
    {brd : Brd} {sbg : Sbg} {mram mem : List (Nat × Byte)} {latches : List (Nat × Nat × Word)} {time : Word64}
    {elapsed : Nat} {out : List Out} {free : Nat} {pending : List Instr}
    (hr : regs = s.regs) (h : Kept bm bt s₀ s)
    (ho : otp = s.otp := by rfl)
    (hq : pending = s.pending := by rfl)
    (hpins : s.pins.shaped → pins.shaped := by first | with_reducible exact fun hh => hh | (
      intro hh; simp only [Pins.shaped] at hh ⊢; simp only [hh, List.length_set, List.length_map, length_modAt,
        List.length_replicate, List.length_cons, List.length_nil, List.length_range, apply_ite List.length, ite_self, and_self]))
    (hbrd : s.brd.shaped → brd.shaped := by first | with_reducible exact fun hh => hh | (
      intro hh; simp only [Brd.shaped] at hh ⊢; simp only [hh, List.length_set, List.length_map, length_modAt,
        List.length_replicate, List.length_cons, List.length_nil, List.length_range, apply_ite List.length, ite_self, and_self]))
    (hsbg : s.sbg.shaped → sbg.shaped := by first | with_reducible exact fun hh => hh | (
      intro hh; simp only [Sbg.shaped] at hh ⊢; simp only [hh, List.length_set, List.length_map, length_modAt,
        List.length_replicate, List.length_cons, List.length_nil, List.length_range, apply_ite List.length, ite_self, and_self]))
    (hhrn : s.hrn.shaped → hrn.shaped := by first | with_reducible exact fun hh => hh | (
      intro hh; simp only [Hrn.shaped] at hh ⊢; simp only [hh, List.length_set, List.length_map, length_modAt,
        List.length_replicate, List.length_cons, List.length_nil, List.length_range, apply_ite List.length, ite_self, and_self]))
    (hrein : s.rein.shaped → rein.shaped := by first | with_reducible exact fun hh => hh | (
      intro hh; simp only [Rein.shaped] at hh ⊢; simp only [hh, List.length_set, List.length_map, length_modAt,
        List.length_replicate, List.length_cons, List.length_nil, List.length_range, apply_ite List.length, ite_self, and_self]))
    (hfcst : s.fcst.shaped → fcst.shaped := by first | with_reducible exact fun hh => hh | (
      intro hh; simp only [Fcst.shaped] at hh ⊢; simp only [hh, List.length_set, List.length_map, length_modAt,
        List.length_replicate, List.length_cons, List.length_nil, List.length_range, apply_ite List.length, ite_self, and_self]))
    (hring : s.ring.strs.length = 2 → ring.strs.length = 2 := by first | with_reducible exact fun hh => hh | (
      intro hh; simp only [hh, List.length_set, List.length_map, List.length_cons, List.length_nil, apply_ite List.length, ite_self]))
    (hest : s.est.strs.length = 2 → est.strs.length = 2 := by first | with_reducible exact fun hh => hh | (
      intro hh; simp only [hh, List.length_set, List.length_map, List.length_cons, List.length_nil, apply_ite List.length, ite_self]))
    (hrmt : s.rmt.shaped → rmt.shaped := by first | with_reducible exact fun hh => hh | (
      intro hh; simp only [Rmt.shaped] at hh ⊢; simp only [hh, List.length_set, List.length_map, length_modAt,
        List.length_replicate, List.length_cons, List.length_nil, List.length_range, apply_ite List.length, ite_self, and_self]))
    (hfab : s.fab.shaped → fab.shaped := by first | with_reducible exact fun hh => hh | (
      intro hh; simp only [Fab.shaped] at hh ⊢; simp only [hh, List.length_set, List.length_map, length_modAt,
        List.length_replicate, List.length_cons, List.length_nil, List.length_range, apply_ite List.length, ite_self, and_self]))
    (hlks : s.lks.shaped → lks.shaped := by first | with_reducible exact fun hh => hh | (
      intro hh; simp only [Lks.shaped] at hh ⊢; simp only [hh, List.length_set, List.length_map, length_modAt,
        List.length_replicate, List.length_cons, List.length_nil, List.length_range, apply_ite List.length, ite_self, and_self]))
    (hmram : sparseWf blankByte s.mram = true → sparseWf blankByte mram = true := by
      first | with_reducible exact fun hh => hh | with_reducible exact sparseWf_writeBytes _ _ _)
    (hmem : sparseWf blankByte s.mem = true → sparseWf blankByte mem = true := by
      first | with_reducible exact fun hh => hh | with_reducible exact sparseWf_writeBytes _ _ _)
    (hout : s.out <:+ out := by first | with_reducible exact List.suffix_rfl | exact List.suffix_cons _ _)
    (hfree : s.free ≤ free := by first | with_reducible exact Nat.le_refl _ | exact Nat.le_succ _)
    (hm : bm = true → mem = s.mem := by first | exact fun _ => rfl | exact fun e => absurd e (by simp))
    (ht : bt = true → time = s.time ∧ elapsed = s.elapsed := by
      first | exact fun _ => ⟨rfl, rfl⟩ | exact fun e => absurd e (by simp)) :
    KeptMk bm bt s₀ regs otp pins pcie boot clk hrn meas rein rmt fcst ring est fab lks brd sbg mram mem latches time elapsed
      out free pending := by
  subst hr ho hq
  exact h.trans {
    regs := id, mram := hmram, mem := hmem, pins := hpins, brd := hbrd, sbg := hsbg, hrn := hhrn, rein := hrein, fcst := hfcst
    ring := hring, est := hest, rmt := hrmt, fab := hfab, lks := hlks, pending := rfl, otp := rfl
    out := hout, free := hfree, sameMem := hm, sameTime := ht }

@[simp] theorem length_modAt {α : Type} (l : List α) (i : Nat) (f : α → α) : (modAt l i f).length = l.length := by
  unfold modAt
  split <;> simp

theorem ite_kept {bm bt : Bool} {s₀ u v : State} {c : Prop} [Decidable c] (ha : Kept bm bt s₀ u) (hb : Kept bm bt s₀ v) :
    Kept bm bt s₀ (if c then u else v) := by
  split
  · exact ha
  · exact hb

theorem State.wr_kept {bm bt : Bool} {s₀ s : State} (a : Nat) (v : Word) (h : Kept bm bt s₀ s) : Kept bm bt s₀ (s.wr a v) :=
  h.trans { Kept.refl s with regs := sparseWf_write a v }

theorem forL_kept {bm bt : Bool} {α : Type} {s₀ s : State} {l : List α} {f : α → State → State} (h : Kept bm bt s₀ s)
    (hf : ∀ x t, Kept bm bt t (f x t)) : Kept bm bt s₀ (forL l f s) := by
  unfold forL
  induction l generalizing s with
  | nil => exact h
  | cons x t ih => exact ih (h.trans (hf x s))

theorem forN_kept {bm bt : Bool} {s₀ s : State} {n : Nat} {f : Nat → State → State} (h : Kept bm bt s₀ s) (hf : ∀ i t, Kept bm bt t (f i t)) :
    Kept bm bt s₀ (forN n f s) := forL_kept h hf

theorem foldl_kept {bm bt : Bool} {α : Type} {s₀ s : State} {l : List α} {f : State → α → State} (h : Kept bm bt s₀ s)
    (hf : ∀ t x, Kept bm bt t (f t x)) : Kept bm bt s₀ (l.foldl f s) := forL_kept (f := fun x t => f t x) h fun x t => hf t x

theorem onlyIf_kept {bm bt : Bool} {s₀ s : State} {c : Bool} {f : State → State} (h : Kept bm bt s₀ s) (hf : ∀ t, Kept bm bt t (f t)) :
    Kept bm bt s₀ (onlyIf c f s) := by
  unfold onlyIf
  split
  · exact h.trans (hf s)
  · exact h

end Sys2Proof.Machine
end

