-- ==== Sys2Proof/Laws/KeptControl.lean ====
section
/-! SUPPORT. What the operations of these parts keep (`Kept`): the register operations, the Saddlebag's records, protection, Harness, module memory and Rein. -/

-- One proof at a time: in the package's one text, proofs that wait for one another would each hold a thread.
set_option Elab.async false

namespace Sys2Proof.Machine

/-! ### Ops -/

theorem State.emit_kept {bm bt : Bool} {s₀ s : State} (o : Out) (h : Kept bm bt s₀ s) : Kept bm bt s₀ (s.emit o) := by
  unfold State.emit
  repeat' first | with_reducible exact h | (simp only [kept_mk]; refine Kept.upd rfl ?_)

theorem State.msix_kept {bm bt : Bool} {s₀ s : State} (v : Nat) (h : Kept bm bt s₀ s) : Kept bm bt s₀ (s.msix v) := by
  unfold State.msix
  repeat' (first
    | with_reducible exact h | with_reducible apply State.emit_kept | with_reducible apply ite_kept
    | (simp only [kept_mk]; refine Kept.upd rfl ?_))

theorem State.set_kept {bm bt : Bool} {s₀ s : State} (f : Field) (v : Nat) (h : Kept bm bt s₀ s) : Kept bm bt s₀ (s.set f v) := by
  unfold State.set
  repeat' first | with_reducible exact h | with_reducible apply State.wr_kept

theorem State.raiseBit_kept {bm bt : Bool} {s₀ s : State} (f : Field) (v : Nat) (h : Kept bm bt s₀ s) :
    Kept bm bt s₀ (s.raiseBit f v) := by
  unfold State.raiseBit
  repeat' (first
    | with_reducible exact h | with_reducible apply State.msix_kept | with_reducible apply State.set_kept
    | with_reducible apply ite_kept)

theorem State.wrN_kept {bm bt : Bool} {s₀ s : State} (a v : Nat) (h : Kept bm bt s₀ s) : Kept bm bt s₀ (s.wrN a v) := by
  unfold State.wrN
  repeat' first | with_reducible exact h | with_reducible apply State.wr_kept

theorem State.wrapReg_kept {bm bt : Bool} {s₀ s : State} (a : Nat) (h : Kept bm bt s₀ s) : Kept bm bt s₀ (s.wrapReg a) := by
  unfold State.wrapReg
  repeat' first | with_reducible exact h | with_reducible apply State.wrN_kept

theorem State.fresh_kept {bm bt : Bool} {s₀ s : State} (h : Kept bm bt s₀ s) : Kept bm bt s₀ s.fresh.2 := by
  unfold State.fresh
  repeat' first | with_reducible exact h | (simp only [kept_mk]; refine Kept.upd rfl ?_)

theorem State.wr64_kept {bm bt : Bool} {s₀ s : State} (lo hi v : Nat) (h : Kept bm bt s₀ s) : Kept bm bt s₀ (s.wr64 lo hi v) := by
  unfold State.wr64
  repeat' first | with_reducible exact h | with_reducible apply State.wrN_kept

theorem State.setB_kept {bm bt : Bool} {s₀ s : State} (f : Field) (b : Bool) (h : Kept bm bt s₀ s) :
    Kept bm bt s₀ (s.setB f b) := by
  unfold State.setB
  repeat' first | with_reducible exact h | with_reducible apply State.set_kept

theorem State.satReg_kept {bm bt : Bool} {s₀ s : State} (a n : Nat) (h : Kept bm bt s₀ s) : Kept bm bt s₀ (s.satReg a n) := by
  unfold State.satReg
  repeat' first | with_reducible exact h | with_reducible apply State.wrN_kept

theorem State.wrI_kept {bm bt : Bool} {s₀ s : State} (a : Nat) (v : Int) (h : Kept bm bt s₀ s) : Kept bm bt s₀ (s.wrI a v) := by
  unfold State.wrI
  repeat' first | with_reducible exact h | with_reducible apply State.wr_kept

theorem State.bumpSat_kept {bm bt : Bool} {s₀ s : State} (f : Field) (n : Nat) (h : Kept bm bt s₀ s) :
    Kept bm bt s₀ (s.bumpSat f n) := by
  unfold State.bumpSat
  repeat' first | with_reducible exact h | with_reducible apply State.set_kept

theorem State.clear_kept {bm bt : Bool} {s₀ s : State} (f : Field) (h : Kept bm bt s₀ s) : Kept bm bt s₀ (s.clear f) := by
  unfold State.clear
  repeat' first | with_reducible exact h | with_reducible apply State.set_kept

theorem State.setI_kept {bm bt : Bool} {s₀ s : State} (f : Field) (v : Int) (h : Kept bm bt s₀ s) :
    Kept bm bt s₀ (s.setI f v) := by
  unfold State.setI
  repeat' first | with_reducible exact h | with_reducible apply State.set_kept

theorem State.bumpWrap_kept {bm bt : Bool} {s₀ s : State} (f : Field) (h : Kept bm bt s₀ s) : Kept bm bt s₀ (s.bumpWrap f) := by
  unfold State.bumpWrap
  repeat' first | with_reducible exact h | with_reducible apply State.set_kept

theorem State.flag_kept {bm bt : Bool} {s₀ s : State} (f : Field) (h : Kept bm bt s₀ s) : Kept bm bt s₀ (s.flag f) := by
  unfold State.flag
  repeat' first | with_reducible exact h | with_reducible apply State.set_kept

/-! ### Records -/

theorem State.writeCb_kept {bm bt : Bool} {s₀ s : State} (h : Kept bm bt s₀ s) : Kept bm bt s₀ s.writeCb := by
  unfold State.writeCb
  repeat' first | with_reducible exact h | with_reducible apply ite_kept | (simp only [kept_mk]; refine Kept.upd rfl ?_)

theorem State.openIncident_kept {bm bt : Bool} {s₀ s : State} (h : Kept bm bt s₀ s) : Kept bm bt s₀ s.openIncident := by
  unfold State.openIncident
  try dsimp only
  repeat' (first
    | with_reducible exact h | with_reducible apply State.set_kept | with_reducible apply State.writeCb_kept
    | with_reducible apply State.raiseBit_kept | with_reducible apply State.wr64_kept | with_reducible apply State.wr_kept
    | (simp only [kept_mk]; refine Kept.upd rfl ?_) | split)

theorem State.showLevel_kept {bm bt : Bool} {s₀ s : State} (i : Nat) (h : Kept bm bt s₀ s) : Kept bm bt s₀ (s.showLevel i) := by
  unfold State.showLevel
  repeat' (first
    | with_reducible exact h | with_reducible apply State.set_kept | with_reducible apply State.setB_kept
    | with_reducible apply ite_kept)

theorem State.setPath_kept {bm bt : Bool} {s₀ s : State} (i : Nat) (p : TPath) (h : Kept bm bt s₀ s) :
    Kept bm bt s₀ (s.setPath i p) := by
  unfold State.setPath
  repeat' first | with_reducible exact h | (simp only [kept_mk]; refine Kept.upd rfl ?_)

theorem State.lose_kept {bm bt : Bool} {s₀ s : State} (i cause prio : Nat) (sampled : Bool) (h : Kept bm bt s₀ s) :
    Kept bm bt s₀ (s.lose i cause prio sampled) := by
  unfold State.lose
  repeat' (first
    | with_reducible exact h | with_reducible apply State.setPath_kept | with_reducible apply State.satReg_kept
    | with_reducible apply ite_kept)

theorem State.enqueue_kept {bm bt : Bool} {s₀ s : State} (i : Nat) (r : Rec) (reserve : Bool) (h : Kept bm bt s₀ s) :
    Kept bm bt s₀ (s.enqueue i r reserve) := by
  unfold State.enqueue
  repeat' first | with_reducible exact h | with_reducible apply State.setPath_kept

theorem State.toPath_kept {bm bt : Bool} {s₀ s : State} (i : Nat) (r : Rec) (h : Kept bm bt s₀ s) :
    Kept bm bt s₀ (s.toPath i r) := by
  unfold State.toPath
  repeat' (first
    | with_reducible exact h | with_reducible apply State.showLevel_kept | with_reducible apply State.lose_kept
    | with_reducible apply State.setPath_kept | with_reducible apply State.enqueue_kept | split)

theorem State.showWakeN_kept {bm bt : Bool} {s₀ s : State} (h : Kept bm bt s₀ s) : Kept bm bt s₀ s.showWakeN := by
  unfold State.showWakeN
  try dsimp only
  repeat' (first
    | with_reducible exact h | with_reducible exact Kept.refl _ | intro _
    | (simp only [kept_mk]; refine Kept.upd rfl ?_) | split)

theorem State.record_kept {bm bt : Bool} {s₀ s : State} (kind prio domain code key cls : Nat) (opens : Bool) (body : List Byte) (h : Kept bm bt s₀ s) :
    Kept bm bt s₀ (s.record kind prio domain code key cls opens body) := by
  unfold State.record
  repeat' (first
    | with_reducible exact h | with_reducible exact Kept.refl _ | with_reducible apply State.openIncident_kept
    | with_reducible apply State.wrapReg_kept | with_reducible apply forN_kept | with_reducible apply State.toPath_kept
    | with_reducible apply ite_kept | intro _ | (simp only [kept_mk]; refine Kept.upd rfl ?_))

theorem State.verbose_kept {bm bt : Bool} {s₀ s : State} (src domain : Nat) (h : Kept bm bt s₀ s) :
    Kept bm bt s₀ (s.verbose src domain) := by
  unfold State.verbose
  repeat' (first
    | with_reducible exact h | with_reducible apply State.fresh_kept | with_reducible apply State.record_kept
    | with_reducible apply ite_kept)

theorem State.alarmRepeat_kept {bm bt : Bool} {s₀ s : State} (code : Nat) (h : Kept bm bt s₀ s) :
    Kept bm bt s₀ (s.alarmRepeat code) := by
  unfold State.alarmRepeat
  repeat' first | with_reducible exact h | (simp only [kept_mk]; refine Kept.upd rfl ?_)

theorem State.lfr_kept {bm bt : Bool} {s₀ s : State} (code grp : Nat) (involved : List Nat) (h : Kept bm bt s₀ s) :
    Kept bm bt s₀ (s.lfr code grp involved) := by
  unfold State.lfr
  repeat' (first
    | with_reducible exact h | with_reducible apply State.bumpSat_kept | with_reducible apply State.set_kept
    | with_reducible apply ite_kept | (simp only [kept_mk]; refine Kept.upd rfl ?_))

theorem State.refLost_kept {bm bt : Bool} {s₀ s : State} (b : Nat) (h : Kept bm bt s₀ s) :
    Kept bm bt s₀ (State.refLost b s) := by
  unfold State.refLost
  try dsimp only
  repeat' (first
    | with_reducible exact h | with_reducible exact Kept.refl _ | with_reducible apply State.clear_kept
    | with_reducible apply State.raiseBit_kept | with_reducible apply ite_kept | intro _
    | (simp only [kept_mk]; refine Kept.upd rfl ?_) | split)

theorem State.alarm_kept {bm bt : Bool} {s₀ s : State} (code cls : Nat) (detail : List Byte) (h : Kept bm bt s₀ s) :
    Kept bm bt s₀ (s.alarm code cls detail) := by
  unfold State.alarm
  repeat' (first
    | with_reducible exact h | with_reducible apply State.alarmRepeat_kept | with_reducible apply State.set_kept
    | with_reducible apply ite_kept | (simp only [kept_mk]; refine Kept.upd rfl ?_))

theorem State.fireList_kept {bm bt : Bool} {s₀ s : State} (l : Nat) (h : Kept bm bt s₀ s) : Kept bm bt s₀ (s.fireList l) := by
  unfold State.fireList
  repeat' (first
    | with_reducible exact h | with_reducible apply State.bumpSat_kept | with_reducible apply State.openIncident_kept
    | with_reducible apply State.set_kept | with_reducible apply ite_kept | (simp only [kept_mk]; refine Kept.upd rfl ?_))

theorem State.fireOnFault_kept {bm bt : Bool} {s₀ s : State} (code cls : Nat) (h : Kept bm bt s₀ s) :
    Kept bm bt s₀ (s.fireOnFault code cls) := by
  unfold State.fireOnFault
  repeat' (first
    | with_reducible exact h | with_reducible exact Kept.refl _ | with_reducible apply forN_kept
    | with_reducible apply State.fireList_kept | with_reducible apply ite_kept | intro _)

theorem State.fireOnState_kept {bm bt : Bool} {s₀ s : State} (st : Nat) (h : Kept bm bt s₀ s) :
    Kept bm bt s₀ (s.fireOnState st) := by
  unfold State.fireOnState
  repeat' (first
    | with_reducible exact h | with_reducible exact Kept.refl _ | with_reducible apply forN_kept
    | with_reducible apply State.fireList_kept | with_reducible apply ite_kept | intro _)

theorem State.jnlStart_kept {bm bt : Bool} {s₀ s : State} (h : Kept bm bt s₀ s) : Kept bm bt s₀ s.jnlStart := by
  unfold State.jnlStart
  try dsimp only
  repeat' (first
    | with_reducible exact h | with_reducible exact Kept.refl _ | with_reducible apply State.clear_kept
    | with_reducible apply State.set_kept | with_reducible apply ite_kept | intro _
    | (simp only [kept_mk]; refine Kept.upd rfl ?_) | split)

theorem State.jnlTrigger_kept {bm bt : Bool} {s₀ s : State} (bit : Nat) (h : Kept bm bt s₀ s) :
    Kept bm bt s₀ (s.jnlTrigger bit) := by
  unfold State.jnlTrigger
  try dsimp only
  repeat' (first
    | with_reducible exact h | with_reducible exact Kept.refl _ | with_reducible apply State.bumpSat_kept
    | with_reducible apply State.set_kept | with_reducible apply State.jnlStart_kept | with_reducible apply ite_kept
    | intro _ | (simp only [kept_mk]; refine Kept.upd rfl ?_) | split)

/-! ### Protect -/

theorem State.tuneAbort_kept {bm bt : Bool} {s₀ s : State} (cause : Nat) (h : Kept bm bt s₀ s) :
    Kept bm bt s₀ (s.tuneAbort cause) := by
  unfold State.tuneAbort
  repeat' (first
    | with_reducible exact h | with_reducible apply State.set_kept | with_reducible apply State.raiseBit_kept
    | with_reducible apply State.clear_kept | (simp only [kept_mk]; refine Kept.upd rfl ?_) | split)

theorem State.showCauses_kept {bm bt : Bool} {s₀ s : State} (h : Kept bm bt s₀ s) : Kept bm bt s₀ s.showCauses := by
  unfold State.showCauses
  repeat' (first
    | with_reducible exact h | with_reducible exact Kept.refl _ | with_reducible apply forN_kept
    | with_reducible apply State.set_kept | with_reducible apply State.setB_kept | intro _)

theorem State.clearCauses_kept {bm bt : Bool} {s₀ s : State} (h : Kept bm bt s₀ s) : Kept bm bt s₀ s.clearCauses := by
  unfold State.clearCauses
  repeat' (first
    | with_reducible exact h | with_reducible apply State.showCauses_kept | (simp only [kept_mk]; refine Kept.upd rfl ?_))

theorem State.fbSettle_kept {bm bt : Bool} {s₀ s : State} (h : Kept bm bt s₀ s) : Kept bm bt s₀ s.fbSettle := by
  unfold State.fbSettle
  try dsimp only
  repeat' (first
    | with_reducible exact h | with_reducible exact Kept.refl _ | with_reducible apply ite_kept | intro _
    | (simp only [kept_mk]; refine Kept.upd rfl ?_) | split)

theorem State.join_kept {bm bt : Bool} {s₀ s : State} (code cls : Nat) (h : Kept bm bt s₀ s) :
    Kept bm bt s₀ (s.join code cls) := by
  unfold State.join
  repeat' (first
    | with_reducible exact h | with_reducible apply State.showCauses_kept | (simp only [kept_mk]; refine Kept.upd rfl ?_))

theorem State.checkHoldoff_kept {bm bt : Bool} {s₀ s : State} (h : Kept bm bt s₀ s) : Kept bm bt s₀ s.checkHoldoff := by
  unfold State.checkHoldoff
  try dsimp only
  repeat' (first
    | with_reducible exact h | with_reducible exact Kept.refl _ | with_reducible apply State.fbSettle_kept
    | with_reducible apply ite_kept | intro _ | (simp only [kept_mk]; refine Kept.upd rfl ?_) | split)

theorem State.showActive_kept {bm bt : Bool} {s₀ s : State} (h : Kept bm bt s₀ s) : Kept bm bt s₀ s.showActive := by
  unfold State.showActive
  repeat' (first
    | with_reducible exact h | with_reducible exact Kept.refl _ | with_reducible apply State.set_kept
    | with_reducible apply forN_kept | intro _)

theorem State.setChan_kept {bm bt : Bool} {s₀ s : State} (n : Nat) (c : Chan) (h : Kept bm bt s₀ s) :
    Kept bm bt s₀ (s.setChan n c) := by
  unfold State.setChan
  repeat' first | with_reducible exact h | (simp only [kept_mk]; refine Kept.upd rfl ?_)

theorem State.chPark_kept {bm bt : Bool} {s₀ s : State} (n st : Nat) (h : Kept bm bt s₀ s) : Kept bm bt s₀ (s.chPark n st) := by
  unfold State.chPark
  repeat' first | with_reducible exact h | with_reducible apply State.set_kept | with_reducible apply State.setChan_kept

theorem State.shedTake_kept {bm bt : Bool} {s₀ s : State} (h : Kept bm bt s₀ s) : Kept bm bt s₀ s.shedTake := by
  unfold State.shedTake
  try dsimp only
  repeat' (first
    | with_reducible exact h | with_reducible exact Kept.refl _ | intro _
    | (simp only [kept_mk]; refine Kept.upd rfl ?_) | split)

theorem State.chansForced_kept {bm bt : Bool} {s₀ s : State} (h : Kept bm bt s₀ s) : Kept bm bt s₀ s.chansForced := by
  unfold State.chansForced
  repeat' (first
    | with_reducible exact h | with_reducible exact Kept.refl _ | with_reducible apply State.showActive_kept
    | with_reducible apply forN_kept | with_reducible apply State.chPark_kept | with_reducible apply ite_kept | intro _)

theorem State.drvOff_kept {bm bt : Bool} {s₀ s : State} (h : Kept bm bt s₀ s) : Kept bm bt s₀ s.drvOff := by
  unfold State.drvOff
  repeat' (first
    | with_reducible exact h | with_reducible apply State.set_kept | (simp only [kept_mk]; refine Kept.upd rfl ?_))

theorem State.isoOff_kept {bm bt : Bool} {s₀ s : State} (h : Kept bm bt s₀ s) : Kept bm bt s₀ s.isoOff := by
  unfold State.isoOff
  repeat' first | with_reducible exact h | (simp only [kept_mk]; refine Kept.upd rfl ?_)

theorem State.pendingOff_kept {bm bt : Bool} {s₀ s : State} (h : Kept bm bt s₀ s) : Kept bm bt s₀ s.pendingOff := by
  unfold State.pendingOff
  repeat' (first
    | with_reducible exact h | with_reducible exact Kept.refl _ | with_reducible apply forN_kept
    | with_reducible apply State.set_kept | with_reducible apply State.wr_kept | with_reducible apply ite_kept | intro _)

theorem State.groupsFresh_kept {bm bt : Bool} {s₀ s : State} (h : Kept bm bt s₀ s) : Kept bm bt s₀ s.groupsFresh := by
  unfold State.groupsFresh
  split
  · refine h.trans { forN_kept (Kept.refl s) fun g t => ?_ with hrn := id }
    dsimp only
    split
    · exact State.set_kept _ _ (State.set_kept _ _ (Kept.refl t))
    · exact State.set_kept _ _ (Kept.refl t)
  · exact h

theorem State.showWait_kept {bm bt : Bool} {s₀ s : State} (h : Kept bm bt s₀ s) : Kept bm bt s₀ s.showWait := by
  unfold State.showWait
  repeat' first | with_reducible exact h | with_reducible apply State.setB_kept

theorem State.dropCodes_kept {bm bt : Bool} {s₀ s : State} (p : Nat → Bool) (h : Kept bm bt s₀ s) :
    Kept bm bt s₀ (s.dropCodes p) := by
  unfold State.dropCodes
  try dsimp only
  repeat' (first
    | with_reducible exact h | with_reducible exact Kept.refl _ | with_reducible apply State.setB_kept
    | with_reducible apply State.raiseBit_kept | with_reducible apply ite_kept | intro _
    | (simp only [kept_mk]; refine Kept.upd rfl ?_) | split)

theorem State.harnessOff_kept {bm bt : Bool} {s₀ s : State} (h : Kept bm bt s₀ s) : Kept bm bt s₀ s.harnessOff := by
  unfold State.harnessOff
  try dsimp only
  repeat' (first
    | with_reducible exact h | with_reducible exact Kept.refl _ | with_reducible apply State.chPark_kept
    | with_reducible apply State.showActive_kept | with_reducible apply State.set_kept
    | with_reducible apply State.dropCodes_kept | with_reducible apply forN_kept | with_reducible apply ite_kept
    | intro _ | (simp only [kept_mk]; refine Kept.upd rfl ?_) | split)

theorem State.strOutEnd_kept {bm bt : Bool} {s₀ s : State} (h : Kept bm bt s₀ s) : Kept bm bt s₀ s.strOutEnd := by
  unfold State.strOutEnd
  try dsimp only
  repeat' (first
    | with_reducible exact h | with_reducible exact Kept.refl _ | with_reducible apply State.clear_kept
    | with_reducible apply State.dropCodes_kept | with_reducible apply forL_kept | intro _
    | (simp only [kept_mk]; refine Kept.upd rfl ?_) | split)

theorem State.enter_kept {bm bt : Bool} {s₀ s : State} (st : Nat) (h : Kept bm bt s₀ s) : Kept bm bt s₀ (s.enter st) := by
  unfold State.enter
  dsimp only
  split
  · exact h
  apply State.showWait_kept
  repeat' (first
    | with_reducible exact h | with_reducible apply ite_kept
    | with_reducible apply State.harnessOff_kept | with_reducible apply State.groupsFresh_kept
    | with_reducible apply State.strOutEnd_kept | with_reducible apply State.set_kept
    | with_reducible apply State.bumpSat_kept | with_reducible apply State.tuneAbort_kept
    | with_reducible apply State.fireOnState_kept | with_reducible apply State.record_kept
    | with_reducible apply State.raiseBit_kept
    | refine Kept.trans ?_ { State.pendingOff_kept (Kept.refl _) with hrn := id })

theorem State.quietOff_kept {bm bt : Bool} {s₀ s : State} (h : Kept bm bt s₀ s) : Kept bm bt s₀ s.quietOff := by
  unfold State.quietOff
  repeat' (first
    | with_reducible exact h | with_reducible apply State.tuneAbort_kept | with_reducible apply State.clear_kept
    | with_reducible apply State.raiseBit_kept | with_reducible apply ite_kept)

theorem State.windowOff_kept {bm bt : Bool} {s₀ s : State} (h : Kept bm bt s₀ s) : Kept bm bt s₀ s.windowOff := by
  unfold State.windowOff
  repeat' (first
    | with_reducible exact h | with_reducible apply State.quietOff_kept | with_reducible apply State.set_kept
    | with_reducible apply State.clear_kept | (simp only [kept_mk]; refine Kept.upd rfl ?_))

theorem State.casOff_kept {bm bt : Bool} {s₀ s : State} (c : Nat) (h : Kept bm bt s₀ s) : Kept bm bt s₀ (s.casOff c) := by
  unfold State.casOff
  repeat' (first
    | with_reducible exact h | with_reducible apply State.clear_kept | with_reducible apply State.set_kept
    | (simp only [kept_mk]; refine Kept.upd rfl ?_))

theorem State.cascadesOff_kept {bm bt : Bool} {s₀ s : State} (h : Kept bm bt s₀ s) : Kept bm bt s₀ s.cascadesOff := by
  unfold State.cascadesOff
  repeat' (first
    | with_reducible exact h | with_reducible exact Kept.refl _ | with_reducible apply forN_kept
    | with_reducible apply State.wr_kept | with_reducible apply State.set_kept | with_reducible apply State.casOff_kept
    | intro _ | (simp only [kept_mk]; refine Kept.upd rfl ?_))

theorem State.openDue_kept {bm bt : Bool} {s₀ s : State} (xs : List Nat) (h : Kept bm bt s₀ s) : Kept bm bt s₀ (s.openDue xs) := by
  unfold State.openDue
  repeat' first | with_reducible exact h | with_reducible apply ite_kept | (simp only [kept_mk]; refine Kept.upd rfl ?_)

theorem State.isolate_kept {bm bt : Bool} {s₀ s : State} (code st cls : Nat) (xs : List Nat) (h : Kept bm bt s₀ s) :
    Kept bm bt s₀ (s.isolate code st cls xs) := by
  unfold State.isolate
  repeat' (first
    | with_reducible exact h | with_reducible apply State.chansForced_kept | with_reducible apply State.drvOff_kept
    | with_reducible apply State.isoOff_kept | with_reducible apply State.enter_kept
    | with_reducible apply State.windowOff_kept | with_reducible apply State.cascadesOff_kept
    | with_reducible apply State.jnlTrigger_kept | with_reducible apply State.openDue_kept | with_reducible apply ite_kept
    | (simp only [kept_mk]; refine Kept.upd rfl ?_))

theorem State.latch_kept {bm bt : Bool} {s₀ s : State} (code : Nat) (h : Kept bm bt s₀ s) : Kept bm bt s₀ (s.latch code) := by
  unfold State.latch
  repeat' (first
    | with_reducible exact h | with_reducible apply State.checkHoldoff_kept | with_reducible apply State.set_kept
    | with_reducible apply State.isolate_kept)

theorem State.takeF3_kept {bm bt : Bool} {s₀ s : State} (code : Nat) (h : Kept bm bt s₀ s) : Kept bm bt s₀ (s.takeF3 code) := by
  unfold State.takeF3
  repeat' (first
    | with_reducible exact h | with_reducible apply State.clearCauses_kept | with_reducible apply State.join_kept
    | with_reducible apply State.latch_kept | with_reducible apply ite_kept
    | (simp only [kept_mk]; refine Kept.upd rfl ?_))

theorem State.forceShedString_kept {bm bt : Bool} {s₀ s : State} (x : Nat) (h : Kept bm bt s₀ s) :
    Kept bm bt s₀ (s.forceShedString x) := by
  unfold State.forceShedString
  repeat' (first
    | with_reducible exact h | with_reducible exact Kept.refl _ | with_reducible apply forL_kept
    | with_reducible apply State.set_kept | with_reducible apply State.setChan_kept | with_reducible apply ite_kept
    | intro _)

theorem State.strOutAct_kept {bm bt : Bool} {s₀ s : State} (x : Nat) (h : Kept bm bt s₀ s) : Kept bm bt s₀ (s.strOutAct x) := by
  unfold State.strOutAct
  repeat' (first
    | with_reducible exact h | with_reducible apply State.openDue_kept | with_reducible apply State.forceShedString_kept
    | with_reducible apply ite_kept | (simp only [kept_mk]; refine Kept.upd rfl ?_))

theorem State.showDerate_kept {bm bt : Bool} {s₀ s : State} (h : Kept bm bt s₀ s) : Kept bm bt s₀ s.showDerate := by
  unfold State.showDerate
  repeat' (first
    | with_reducible exact h | with_reducible apply State.setB_kept | with_reducible apply State.enter_kept
    | with_reducible apply ite_kept)

theorem State.takeF0_kept {bm bt : Bool} {s₀ s : State} (code idx : Nat) (h : Kept bm bt s₀ s) :
    Kept bm bt s₀ (s.takeF0 code idx) := by
  unfold State.takeF0
  repeat' (first
    | with_reducible exact h | with_reducible apply State.raiseBit_kept | with_reducible apply State.strOutAct_kept
    | with_reducible apply State.showDerate_kept | with_reducible apply ite_kept)

theorem State.unraise_kept {bm bt : Bool} {s₀ s : State} (code idx : Nat) (h : Kept bm bt s₀ s) :
    Kept bm bt s₀ (s.unraise code idx) := by
  unfold State.unraise
  repeat' (first
    | with_reducible exact h | with_reducible apply State.showDerate_kept | with_reducible apply State.raiseBit_kept
    | with_reducible apply State.checkHoldoff_kept | with_reducible apply ite_kept
    | (simp only [kept_mk]; refine Kept.upd rfl ?_))

theorem State.ovSettle_kept {bm bt : Bool} {s₀ s : State} (h : Kept bm bt s₀ s) : Kept bm bt s₀ s.ovSettle := by
  unfold State.ovSettle
  try dsimp only
  repeat' (first
    | with_reducible exact h | with_reducible exact Kept.refl _ | with_reducible apply State.drvOff_kept
    | with_reducible apply State.chansForced_kept | with_reducible apply State.openDue_kept
    | with_reducible apply State.checkHoldoff_kept | with_reducible apply ite_kept | intro _
    | (simp only [kept_mk]; refine Kept.upd rfl ?_) | split)

theorem State.showAck_kept {bm bt : Bool} {s₀ s : State} (h : Kept bm bt s₀ s) : Kept bm bt s₀ s.showAck := by
  unfold State.showAck
  repeat' first | with_reducible exact h | with_reducible apply State.setB_kept

theorem State.usMark_kept {bm bt : Bool} {s₀ s : State} (bit : Nat) (h : Kept bm bt s₀ s) : Kept bm bt s₀ (s.usMark bit) := by
  unfold State.usMark
  repeat' first | with_reducible exact h | (simp only [kept_mk]; refine Kept.upd rfl ?_)

theorem State.showTx_kept {bm bt : Bool} {s₀ s : State} (h : Kept bm bt s₀ s) : Kept bm bt s₀ s.showTx := by
  unfold State.showTx
  repeat' first | with_reducible exact h | (simp only [kept_mk]; refine Kept.upd rfl ?_)

/-! ### Harness -/

theorem State.beginRestart_kept {bm bt : Bool} {s₀ s : State} (n soft : Nat) (h : Kept bm bt s₀ s) :
    Kept bm bt s₀ (s.beginRestart n soft) := by
  unfold State.beginRestart
  repeat' first | with_reducible exact h | with_reducible apply State.set_kept | with_reducible apply State.setChan_kept

theorem State.beginShed_kept {bm bt : Bool} {s₀ s : State} (n : Nat) (h : Kept bm bt s₀ s) : Kept bm bt s₀ (s.beginShed n) := by
  unfold State.beginShed
  repeat' first | with_reducible exact h | with_reducible apply State.set_kept | with_reducible apply State.setChan_kept

theorem State.leaveService_kept {bm bt : Bool} {s₀ s : State} (n : Nat) (h : Kept bm bt s₀ s) :
    Kept bm bt s₀ (s.leaveService n) := by
  unfold State.leaveService
  try dsimp only
  repeat' (first
    | with_reducible exact h | with_reducible exact Kept.refl _ | with_reducible apply State.setChan_kept
    | with_reducible apply State.beginShed_kept | with_reducible apply State.set_kept | with_reducible apply ite_kept
    | intro _ | (simp only [kept_mk]; refine Kept.upd rfl ?_) | split)

theorem State.enterFaulted_kept {bm bt : Bool} {s₀ s : State} (n : Nat) (h : Kept bm bt s₀ s) :
    Kept bm bt s₀ (s.enterFaulted n) := by
  unfold State.enterFaulted
  dsimp only
  exact (State.lfr_kept _ _ _ h).trans { State.chPark_kept _ _ (Kept.refl _) with
    rmt := fun hh => by simpa only [Rmt.shaped, length_modAt] using hh }

theorem State.toRest_kept {bm bt : Bool} {s₀ s : State} (n : Nat) (h : Kept bm bt s₀ s) : Kept bm bt s₀ (s.toRest n) := by
  unfold State.toRest
  try dsimp only
  repeat' (first
    | with_reducible exact h | with_reducible exact Kept.refl _ | with_reducible apply State.enterFaulted_kept
    | with_reducible apply State.chPark_kept | with_reducible apply State.setChan_kept | with_reducible apply ite_kept
    | intro _ | (simp only [kept_mk]; refine Kept.upd rfl ?_) | split)

theorem State.ctlOff_kept {bm bt : Bool} {s₀ s : State} (n : Nat) (isns : Int) (left : Nat) (h : Kept bm bt s₀ s) :
    Kept bm bt s₀ (s.ctlOff n isns left) := by
  unfold State.ctlOff
  repeat' first | with_reducible exact h | with_reducible apply State.setChan_kept

theorem State.retrySheds_kept {bm bt : Bool} {s₀ s : State} (g x : Nat) (h : Kept bm bt s₀ s) :
    Kept bm bt s₀ (s.retrySheds g x) := by
  unfold State.retrySheds
  try dsimp only
  repeat' (first
    | with_reducible exact h | with_reducible exact Kept.refl _ | with_reducible apply State.chPark_kept
    | with_reducible apply forN_kept | intro _ | (simp only [kept_mk]; refine Kept.upd rfl ?_) | split)

theorem State.groupDe_kept {bm bt : Bool} {s₀ s : State} (n : Nat) (h : Kept bm bt s₀ s) : Kept bm bt s₀ (s.groupDe n) := by
  unfold State.groupDe
  repeat' first | with_reducible exact h | (simp only [kept_mk]; refine Kept.upd rfl ?_)

theorem State.cycleLoad_kept {bm bt : Bool} {s₀ s : State} (n : Nat) (h : Kept bm bt s₀ s) : Kept bm bt s₀ (s.cycleLoad n) := by
  unfold State.cycleLoad
  repeat' (first
    | with_reducible exact h | with_reducible apply State.groupDe_kept | with_reducible apply State.setB_kept
    | with_reducible apply State.set_kept | with_reducible apply State.setChan_kept)

theorem State.sense_kept {bm bt : Bool} {s₀ s : State} (n : Nat) (raw : Int) (h : Kept bm bt s₀ s) :
    Kept bm bt s₀ (s.sense n raw) := by
  unfold State.sense
  try dsimp only
  repeat' (first
    | with_reducible exact h | with_reducible exact Kept.refl _ | with_reducible apply State.setChan_kept
    | with_reducible apply State.raiseBit_kept | with_reducible apply ite_kept | intro _
    | (simp only [kept_mk]; refine Kept.upd rfl ?_) | split)

theorem State.cycleEnd_kept {bm bt : Bool} {s₀ s : State} (n : Nat) (iAvg : Int) (h : Kept bm bt s₀ s) :
    Kept bm bt s₀ (s.cycleEnd n iAvg) := by
  unfold State.cycleEnd
  try dsimp only
  repeat' (first
    | with_reducible exact h | with_reducible exact Kept.refl _ | with_reducible apply State.setI_kept
    | with_reducible apply State.sense_kept | with_reducible apply State.setChan_kept
    | with_reducible apply State.set_kept | with_reducible apply ite_kept | intro _
    | (simp only [kept_mk]; refine Kept.upd rfl ?_) | split)

theorem State.groupStopped_kept {bm bt : Bool} {s₀ s : State} (g : Nat) (h : Kept bm bt s₀ s) : Kept bm bt s₀ (s.groupStopped g) := by
  unfold State.groupStopped
  split
  · simp only [kept_mk]
    exact Kept.upd rfl (State.set_kept _ _ h) (hbrd := fun hh => by simpa [Brd.shaped] using hh)
  · exact h

theorem State.harnessOn_kept {bm bt : Bool} {s₀ s : State} (h : Kept bm bt s₀ s) : Kept bm bt s₀ s.harnessOn := by
  unfold State.harnessOn
  try dsimp only
  repeat' (first
    | with_reducible exact h | with_reducible exact Kept.refl _ | with_reducible apply State.set_kept
    | with_reducible apply State.shedTake_kept | with_reducible apply State.toRest_kept
    | with_reducible apply forN_kept | with_reducible apply ite_kept | intro _ | split)

theorem State.unlatchChans_kept {bm bt : Bool} {s₀ s : State} (h : Kept bm bt s₀ s) : Kept bm bt s₀ s.unlatchChans := by
  unfold State.unlatchChans
  try dsimp only
  repeat' (first
    | with_reducible exact h | with_reducible exact Kept.refl _ | with_reducible apply State.toRest_kept
    | with_reducible apply State.set_kept | with_reducible apply State.groupStopped_kept
    | with_reducible apply forN_kept | with_reducible apply ite_kept | intro _
    | (simp only [kept_mk]; refine Kept.upd rfl ?_) | split)

theorem State.ovRelease_kept {bm bt : Bool} {s₀ s : State} (h : Kept bm bt s₀ s) : Kept bm bt s₀ s.ovRelease := by
  unfold State.ovRelease
  repeat' (first
    | with_reducible exact h | with_reducible apply State.unlatchChans_kept | with_reducible apply State.chansForced_kept
    | with_reducible apply State.drvOff_kept | with_reducible apply State.checkHoldoff_kept
    | with_reducible apply State.showActive_kept | with_reducible apply State.unraise_kept
    | with_reducible apply State.openDue_kept | with_reducible apply ite_kept
    | (simp only [kept_mk]; refine Kept.upd rfl ?_))

theorem State.startMinActive_kept {bm bt : Bool} {s₀ s : State} (h : Kept bm bt s₀ s) : Kept bm bt s₀ s.startMinActive := by
  unfold State.startMinActive
  repeat' (first
    | with_reducible exact h | with_reducible exact Kept.refl _ | with_reducible apply forN_kept
    | with_reducible apply State.beginRestart_kept | with_reducible apply State.showActive_kept | intro _ | split)

theorem State.slew_kept {bm bt : Bool} {s₀ s : State} (h : Kept bm bt s₀ s) : Kept bm bt s₀ s.slew := by
  unfold State.slew
  try dsimp only
  repeat' (first
    | with_reducible exact h | with_reducible exact Kept.refl _ | with_reducible apply State.set_kept
    | with_reducible apply ite_kept | intro _ | (simp only [kept_mk]; refine Kept.upd rfl ?_) | split)

theorem State.slot_kept {bm bt : Bool} {s₀ s : State} (x : Nat) (h : Kept bm bt s₀ s) : Kept bm bt s₀ (s.slot x) := by
  unfold State.slot
  try dsimp only
  repeat' (first
    | with_reducible exact h | with_reducible exact Kept.refl _ | with_reducible apply State.beginRestart_kept
    | with_reducible apply State.beginShed_kept | with_reducible apply State.set_kept | with_reducible apply ite_kept
    | intro _ | (simp only [kept_mk]; refine Kept.upd rfl ?_) | split)

/-! ### LksMem -/

theorem State.memPut_kept {bt : Bool} {s₀ s : State} (a : Nat) (l : List Byte) (h : Kept false bt s₀ s) :
    Kept false bt s₀ (s.memPut a l) := by
  unfold State.memPut
  repeat' first | with_reducible exact h | (simp only [kept_mk]; refine Kept.upd rfl ?_)

theorem State.latchWake_kept {bm bt : Bool} {s₀ s : State} (mask : Nat) (h : Kept bm bt s₀ s) :
    Kept bm bt s₀ (s.latchWake mask) := by
  unfold State.latchWake
  repeat' first | with_reducible exact h | (simp only [kept_mk]; refine Kept.upd rfl ?_)

theorem State.fireWake_kept {bm bt : Bool} {s₀ s : State} (b : Nat) (h : Kept bm bt s₀ s) :
    Kept bm bt s₀ (State.fireWake b s) := by
  unfold State.fireWake
  try dsimp only
  repeat' (first
    | with_reducible exact h | with_reducible exact Kept.refl _ | with_reducible apply State.set_kept
    | with_reducible apply State.latchWake_kept | with_reducible apply ite_kept | intro _ | split)

theorem State.logCode_kept {bm bt : Bool} {s₀ s : State} (code idx cls : Nat) (m t : Int) (h : Kept bm bt s₀ s) :
    Kept bm bt s₀ (s.logCode code idx cls m t) := by
  unfold State.logCode
  try dsimp only
  repeat' (first
    | with_reducible exact h | with_reducible exact Kept.refl _ | with_reducible apply State.raiseBit_kept
    | with_reducible apply State.set_kept | with_reducible apply State.lfr_kept
    | with_reducible apply State.tuneAbort_kept | with_reducible apply State.bumpSat_kept
    | with_reducible apply State.fireWake_kept | with_reducible apply State.record_kept
    | with_reducible apply State.alarm_kept | with_reducible apply State.fireOnFault_kept
    | with_reducible apply ite_kept | intro _ | split)

theorem State.storm_kept {bm bt : Bool} {s₀ s : State} (code : Nat) (h : Kept bm bt s₀ s) : Kept bm bt s₀ (s.storm code) := by
  unfold State.storm
  repeat' (first
    | with_reducible exact h | with_reducible apply State.logCode_kept | with_reducible apply State.bumpSat_kept
    | with_reducible apply State.raiseBit_kept | with_reducible apply State.latch_kept
    | with_reducible apply State.join_kept | with_reducible apply ite_kept | (simp only [kept_mk]; refine Kept.upd rfl ?_))

theorem State.startRecovery_kept {bm bt : Bool} {s₀ s : State} (code idx : Nat) (fresh : Bool) (h : Kept bm bt s₀ s) :
    Kept bm bt s₀ (s.startRecovery code idx fresh) := by
  unfold State.startRecovery
  repeat' (first
    | with_reducible exact h | with_reducible apply State.clearCauses_kept | with_reducible apply State.join_kept
    | with_reducible apply State.storm_kept | with_reducible apply State.set_kept
    | with_reducible apply State.checkHoldoff_kept | with_reducible apply State.isolate_kept
    | with_reducible apply ite_kept | (simp only [kept_mk]; refine Kept.upd rfl ?_))

theorem State.takeF2_kept {bm bt : Bool} {s₀ s : State} (code idx : Nat) (h : Kept bm bt s₀ s) :
    Kept bm bt s₀ (s.takeF2 code idx) := by
  unfold State.takeF2
  try dsimp only
  repeat' (first
    | with_reducible exact h | with_reducible exact Kept.refl _ | with_reducible apply State.startRecovery_kept
    | with_reducible apply State.jnlTrigger_kept | with_reducible apply State.openDue_kept
    | with_reducible apply State.checkHoldoff_kept | with_reducible apply State.join_kept
    | with_reducible apply ite_kept | intro _ | (simp only [kept_mk]; refine Kept.upd rfl ?_) | split)

theorem State.raise_kept {bm bt : Bool} {s₀ s : State} (code idx : Nat) (m x4 : Int) (h : Kept bm bt s₀ s) :
    Kept bm bt s₀ (s.raise code idx m x4) := by
  unfold State.raise
  repeat' (first
    | with_reducible exact h | with_reducible apply State.alarmRepeat_kept | with_reducible apply State.logCode_kept
    | with_reducible apply State.takeF3_kept | with_reducible apply State.takeF2_kept
    | with_reducible apply State.takeF0_kept | with_reducible apply ite_kept
    | (simp only [kept_mk]; refine Kept.upd rfl ?_))

theorem State.syncLost_kept {bm bt : Bool} {s₀ s : State} (h : Kept bm bt s₀ s) : Kept bm bt s₀ s.syncLost := by
  unfold State.syncLost
  repeat' (first
    | with_reducible exact h | with_reducible apply State.raise_kept | with_reducible apply State.raiseBit_kept
    | with_reducible apply State.set_kept | (simp only [kept_mk]; refine Kept.upd rfl ?_))

theorem State.syncSelect_kept {bm bt : Bool} {s₀ s : State} (src : Nat) (h : Kept bm bt s₀ s) :
    Kept bm bt s₀ (s.syncSelect src) := by
  unfold State.syncSelect
  repeat' (first
    | with_reducible exact h | with_reducible apply State.raiseBit_kept | with_reducible apply State.set_kept
    | with_reducible apply State.syncLost_kept | with_reducible apply ite_kept
    | (simp only [kept_mk]; refine Kept.upd rfl ?_))

theorem State.checkCounts_kept {bm bt : Bool} {s₀ s : State} (h : Kept bm bt s₀ s) : Kept bm bt s₀ s.checkCounts := by
  unfold State.checkCounts
  repeat' (first
    | with_reducible exact h | with_reducible exact Kept.refl _ | with_reducible apply forN_kept
    | with_reducible apply State.raise_kept | with_reducible apply State.unraise_kept | with_reducible apply ite_kept
    | intro _ | (simp only [kept_mk]; refine Kept.upd rfl ?_))

theorem State.afterChans_kept {bm bt : Bool} {s₀ s : State} (h : Kept bm bt s₀ s) : Kept bm bt s₀ s.afterChans := by
  unfold State.afterChans
  try dsimp only
  repeat' (first
    | with_reducible exact h | with_reducible exact Kept.refl _ | with_reducible apply State.groupStopped_kept
    | with_reducible apply State.showActive_kept | with_reducible apply State.checkCounts_kept
    | with_reducible apply forN_kept | intro _ | split)

theorem State.hiccup_kept {bm bt : Bool} {s₀ s : State} (g : Nat) (h : Kept bm bt s₀ s) : Kept bm bt s₀ (s.hiccup g) := by
  unfold State.hiccup
  try dsimp only
  repeat' (first
    | with_reducible exact h | with_reducible exact Kept.refl _ | with_reducible apply State.lfr_kept
    | with_reducible apply State.set_kept | with_reducible apply State.chPark_kept
    | with_reducible apply State.raiseBit_kept | with_reducible apply State.afterChans_kept
    | with_reducible apply State.raise_kept | with_reducible apply forL_kept | with_reducible apply ite_kept | intro _
    | (simp only [kept_mk]; refine Kept.upd rfl ?_) | split)

theorem State.groupUp_kept {bm bt : Bool} {s₀ s : State} (g : Nat) (h : Kept bm bt s₀ s) : Kept bm bt s₀ (s.groupUp g) := by
  unfold State.groupUp
  repeat' (first
    | with_reducible exact h | with_reducible exact Kept.refl _ | with_reducible apply State.set_kept
    | with_reducible apply State.afterChans_kept | with_reducible apply forL_kept | with_reducible apply State.toRest_kept
    | with_reducible apply ite_kept | intro _)

theorem State.groupEnable_kept {bm bt : Bool} {s₀ s : State} (g : Nat) (h : Kept bm bt s₀ s) :
    Kept bm bt s₀ (s.groupEnable g) := by
  unfold State.groupEnable
  repeat' (first
    | with_reducible exact h | with_reducible apply State.set_kept | with_reducible apply State.groupUp_kept
    | with_reducible apply ite_kept)

theorem State.groupDisable_kept {bm bt : Bool} {s₀ s : State} (g : Nat) (h : Kept bm bt s₀ s) :
    Kept bm bt s₀ (s.groupDisable g) := by
  unfold State.groupDisable
  repeat' (first
    | with_reducible exact h | with_reducible exact Kept.refl _ | with_reducible apply State.set_kept
    | with_reducible apply State.groupStopped_kept | with_reducible apply State.afterChans_kept
    | with_reducible apply forL_kept | with_reducible apply State.leaveService_kept | with_reducible apply ite_kept
    | intro _)

theorem State.stepEvent_kept {bm bt : Bool} {s₀ s : State} (xs : List Nat) (h : Kept bm bt s₀ s) :
    Kept bm bt s₀ (s.stepEvent xs) := by
  unfold State.stepEvent
  try dsimp only
  repeat' (first
    | with_reducible exact h | with_reducible exact Kept.refl _ | with_reducible apply State.usMark_kept
    | with_reducible apply State.tuneAbort_kept | with_reducible apply forL_kept | with_reducible apply onlyIf_kept
    | with_reducible apply State.raiseBit_kept | with_reducible apply State.set_kept
    | with_reducible apply State.setChan_kept | with_reducible apply State.beginRestart_kept
    | with_reducible apply State.afterChans_kept | intro _ | (simp only [kept_mk]; refine Kept.upd rfl ?_) | split)

theorem State.softAbort_kept {bm bt : Bool} {s₀ s : State} (code idx : Nat) (m x4 : Int) (h : Kept bm bt s₀ s) :
    Kept bm bt s₀ (s.softAbort code idx m x4) := by
  unfold State.softAbort
  repeat' (first
    | with_reducible exact h | with_reducible apply State.raise_kept | with_reducible apply State.raiseBit_kept
    | with_reducible apply State.bumpSat_kept | with_reducible apply State.windowOff_kept
    | with_reducible apply State.cascadesOff_kept | with_reducible apply State.isoOff_kept
    | with_reducible apply State.chansForced_kept | with_reducible apply State.drvOff_kept | with_reducible apply ite_kept
    | (simp only [kept_mk]; refine Kept.upd rfl ?_))

theorem State.refuse_kept {bm bt : Bool} {s₀ s : State} (addr value : Nat) (h : Kept bm bt s₀ s) :
    Kept bm bt s₀ (s.refuse addr value) := by
  unfold State.refuse
  repeat' first | with_reducible exact h | with_reducible apply State.raise_kept

theorem State.forceShed_kept {bm bt : Bool} {s₀ s : State} (n : Nat) (v : Bool) (h : Kept bm bt s₀ s) :
    Kept bm bt s₀ (s.forceShed n v) := by
  unfold State.forceShed
  repeat' (first
    | with_reducible exact h | with_reducible apply State.refuse_kept | with_reducible apply State.setB_kept
    | with_reducible apply State.afterChans_kept | with_reducible apply State.beginShed_kept
    | with_reducible apply ite_kept)

theorem State.conn_kept {bm bt : Bool} {s₀ s : State} (bit : Nat) (v : Bool) (h : Kept bm bt s₀ s) :
    Kept bm bt s₀ (s.conn bit v) := by
  unfold State.conn
  try dsimp only
  repeat' (first
    | with_reducible exact h | with_reducible exact Kept.refl _ | with_reducible apply State.setB_kept
    | with_reducible apply State.raiseBit_kept | with_reducible apply State.fireWake_kept
    | with_reducible apply State.refLost_kept | with_reducible apply ite_kept | intro _ | split)

theorem State.setCore_kept {bm bt : Bool} {s₀ s : State} (d c : Nat) (x : LCore) (h : Kept bm bt s₀ s) :
    Kept bm bt s₀ (s.setCore d c x) := by
  unfold State.setCore
  repeat' first | with_reducible exact h | (simp only [kept_mk]; refine Kept.upd rfl ?_)

theorem State.showCores_kept {bm bt : Bool} {s₀ s : State} (d : Nat) (h : Kept bm bt s₀ s) : Kept bm bt s₀ (s.showCores d) := by
  unfold State.showCores
  repeat' first | with_reducible exact h | with_reducible apply State.set_kept

theorem State.coreTo_kept {bm bt : Bool} {s₀ s : State} (d c st : Nat) (h : Kept bm bt s₀ s) :
    Kept bm bt s₀ (s.coreTo d c st) := by
  unfold State.coreTo
  repeat' (first
    | with_reducible exact h | with_reducible apply State.setCore_kept | with_reducible apply State.set_kept
    | with_reducible apply State.showCores_kept | with_reducible apply ite_kept)

theorem State.openCore_kept {bm bt : Bool} {s₀ s : State} (d c : Nat) (h : Kept bm bt s₀ s) : Kept bm bt s₀ (s.openCore d c) := by
  unfold State.openCore
  repeat' (first
    | with_reducible exact h | with_reducible apply State.latchWake_kept | with_reducible apply State.setCore_kept
    | with_reducible apply State.coreTo_kept | with_reducible apply ite_kept)

theorem State.closeCore_kept {bm bt : Bool} {s₀ s : State} (d c : Nat) (h : Kept bm bt s₀ s) :
    Kept bm bt s₀ (s.closeCore d c) := by
  unfold State.closeCore
  repeat' (first
    | with_reducible exact h | with_reducible apply State.setCore_kept | with_reducible apply State.coreTo_kept
    | with_reducible apply ite_kept)

theorem sparseWf_foldl_write {α : Type} (l : List α) (f : α → Nat × Byte) (m : List (Nat × Byte)) (h : sparseWf blankByte m = true) :
    sparseWf blankByte (l.foldl (fun m x => sparseWrite blankByte m (f x).1 (f x).2) m) = true := by
  induction l generalizing m with
  | nil => exact h
  | cons x t ih => exact ih _ (sparseWf_write _ _ h)

theorem State.memCopy_kept {bt : Bool} {s₀ s : State} (src dst n : Nat) (h : Kept false bt s₀ s) : Kept false bt s₀ (s.memCopy src dst n) := by
  unfold State.memCopy
  dsimp only
  simp only [kept_mk]
  exact Kept.upd rfl h (hmem := fun hm =>
    sparseWf_foldl_write _ (fun x : Nat × Byte => (dst + (x.1 - src), x.2)) _ (sparseWf_filter _ hm))

theorem State.showAwake_kept {bm bt : Bool} {s₀ s : State} (h : Kept bm bt s₀ s) : Kept bm bt s₀ s.showAwake := by
  unfold State.showAwake
  repeat' first | with_reducible exact h | with_reducible apply State.setB_kept

theorem State.uncorrectable_kept {bm bt : Bool} {s₀ s : State} (d : Nat) (h : Kept bm bt s₀ s) :
    Kept bm bt s₀ (s.uncorrectable d) := by
  unfold State.uncorrectable
  repeat' (first
    | with_reducible exact h | with_reducible apply State.raise_kept | with_reducible apply State.raiseBit_kept
    | with_reducible apply State.bumpSat_kept)

theorem State.forecastStop_kept {bm bt : Bool} {s₀ s : State} (h : Kept bm bt s₀ s) : Kept bm bt s₀ s.forecastStop := by
  unfold State.forecastStop
  repeat' (first
    | with_reducible exact h | with_reducible apply State.raise_kept | with_reducible apply ite_kept
    | (simp only [kept_mk]; refine Kept.upd rfl ?_))

theorem State.lksNote_kept {bm bt : Bool} {s₀ s : State} (m x2 : Int) (idx : Nat) (h : Kept bm bt s₀ s) :
    Kept bm bt s₀ (s.lksNote m x2 idx) := by
  unfold State.lksNote
  repeat' first | with_reducible exact h | with_reducible apply State.record_kept

theorem State.fenceHit_kept {bm bt : Bool} {s₀ s : State} (r : LReq) (kind a : Nat) (h : Kept bm bt s₀ s) :
    Kept bm bt s₀ (s.fenceHit r kind a) := by
  unfold State.fenceHit
  repeat' (first
    | with_reducible exact h | with_reducible apply State.wrN_kept | with_reducible apply State.set_kept
    | with_reducible apply State.raiseBit_kept | with_reducible apply State.lksNote_kept
    | with_reducible apply State.bumpSat_kept | with_reducible apply ite_kept)

theorem State.memLose_kept {bt : Bool} {s₀ s : State} (a n : Nat) (h : Kept false bt s₀ s) : Kept false bt s₀ (s.memLose a n) := by
  unfold State.memLose
  simp only [kept_mk]
  exact Kept.upd rfl h (hmem := fun hm => sparseWf_filter _ hm)

theorem State.poisonAt_kept {bm bt : Bool} {s₀ s : State} (a : Nat) (h : Kept bm bt s₀ s) : Kept bm bt s₀ (s.poisonAt a) := by
  unfold State.poisonAt
  repeat' first | with_reducible exact h | (simp only [kept_mk]; refine Kept.upd rfl ?_)

/-! ### Rein -/

theorem State.advance_kept {bm bt : Bool} {s₀ s : State} (k : Nat) (x y : Int) (h : Kept bm bt s₀ s) :
    Kept bm bt s₀ (s.advance k x y) := by
  unfold State.advance
  repeat' first | with_reducible exact h | with_reducible apply State.wrI_kept | with_reducible apply State.wr_kept

theorem State.tuneRefuse_kept {bm bt : Bool} {s₀ s : State} (cause : Nat) (h : Kept bm bt s₀ s) :
    Kept bm bt s₀ (s.tuneRefuse cause) := by
  unfold State.tuneRefuse
  repeat' first | with_reducible exact h | with_reducible apply State.set_kept | with_reducible apply State.clear_kept

theorem State.tuneBegin_kept {bm bt : Bool} {s₀ s : State} (c : Nat) (h : Kept bm bt s₀ s) : Kept bm bt s₀ (s.tuneBegin c) := by
  unfold State.tuneBegin
  repeat' (first
    | with_reducible exact h | with_reducible apply State.set_kept | (simp only [kept_mk]; refine Kept.upd rfl ?_))

theorem State.tuneStart_kept {bm bt : Bool} {s₀ s : State} (c : Nat) (h : Kept bm bt s₀ s) : Kept bm bt s₀ (s.tuneStart c) := by
  unfold State.tuneStart
  repeat' (first
    | with_reducible exact h | with_reducible apply State.clear_kept | with_reducible apply State.tuneRefuse_kept
    | with_reducible apply State.set_kept | with_reducible apply State.tuneBegin_kept | with_reducible apply ite_kept
    | (simp only [kept_mk]; refine Kept.upd rfl ?_))

theorem State.showSections_kept {bm bt : Bool} {s₀ s : State} (h : Kept bm bt s₀ s) : Kept bm bt s₀ s.showSections := by
  unfold State.showSections
  try dsimp only
  repeat' (first
    | with_reducible exact h | with_reducible exact Kept.refl _ | with_reducible apply forN_kept
    | with_reducible apply State.set_kept | with_reducible apply State.setB_kept | intro _ | split)

theorem State.mapPut_kept {bm bt : Bool} {s₀ s : State} (c : Nat) (x2 : MapWrite) (h : Kept bm bt s₀ s) :
    Kept bm bt s₀ (s.mapPut c x2) := by
  unfold State.mapPut
  repeat' first | with_reducible exact h | with_reducible apply State.wr_kept | with_reducible apply State.set_kept | split

theorem State.casPending_kept {bm bt : Bool} {s₀ s : State} (c : Nat) (b : Bool) (h : Kept bm bt s₀ s) :
    Kept bm bt s₀ (s.casPending c b) := by
  unfold State.casPending
  repeat' first | with_reducible exact h | with_reducible apply State.set_kept | with_reducible apply State.setB_kept

theorem State.casBegin_kept {bm bt : Bool} {s₀ s : State} (c : Nat) (h : Kept bm bt s₀ s) : Kept bm bt s₀ (s.casBegin c) := by
  unfold State.casBegin
  repeat' (first
    | with_reducible exact h | with_reducible apply State.set_kept | (simp only [kept_mk]; refine Kept.upd rfl ?_))

theorem State.casEnable_kept {bm bt : Bool} {s₀ s : State} (c : Nat) (h : Kept bm bt s₀ s) : Kept bm bt s₀ (s.casEnable c) := by
  unfold State.casEnable
  repeat' (first
    | with_reducible exact h | with_reducible apply State.set_kept | with_reducible apply State.casPending_kept
    | with_reducible apply State.casBegin_kept | with_reducible apply ite_kept)

theorem State.casDisable_kept {bm bt : Bool} {s₀ s : State} (c : Nat) (h : Kept bm bt s₀ s) : Kept bm bt s₀ (s.casDisable c) := by
  unfold State.casDisable
  try dsimp only
  repeat' (first
    | with_reducible exact h | with_reducible apply State.casPending_kept | with_reducible apply State.set_kept
    | with_reducible apply State.tuneAbort_kept | split)

theorem State.casSrcWrite_kept {bm bt : Bool} {s₀ s : State} (c : Nat) (v : Word) (h : Kept bm bt s₀ s) :
    Kept bm bt s₀ (s.casSrcWrite c v) := by
  unfold State.casSrcWrite
  repeat' (first
    | with_reducible exact h | with_reducible apply State.refuse_kept | with_reducible apply State.set_kept
    | with_reducible apply ite_kept)

theorem State.casRefuse_kept {bm bt : Bool} {s₀ s : State} (c addr value : Nat) (h : Kept bm bt s₀ s) :
    Kept bm bt s₀ (s.casRefuse c addr value) := by
  unfold State.casRefuse
  repeat' first | with_reducible exact h | with_reducible apply State.refuse_kept | with_reducible apply State.set_kept

theorem State.mapWrite_kept {bm bt : Bool} {s₀ s : State} (c : Nat) (w : MapWrite) (h : Kept bm bt s₀ s) :
    Kept bm bt s₀ (s.mapWrite c w) := by
  unfold State.mapWrite
  repeat' (first
    | with_reducible exact h | with_reducible apply State.showSections_kept | with_reducible apply State.mapPut_kept
    | with_reducible apply State.casRefuse_kept | with_reducible apply State.refuse_kept | split)

theorem State.coefWrite_kept {bm bt : Bool} {s₀ s : State} (k word : Nat) (v : Word) (h : Kept bm bt s₀ s) :
    Kept bm bt s₀ (s.coefWrite k word v) := by
  unfold State.coefWrite
  repeat' (first
    | with_reducible exact h | with_reducible apply State.wr_kept | with_reducible apply State.set_kept
    | with_reducible apply State.clear_kept | with_reducible apply ite_kept)

theorem State.secStateWrite_kept {bm bt : Bool} {s₀ s : State} (k word : Nat) (v : Word) (h : Kept bm bt s₀ s) :
    Kept bm bt s₀ (s.secStateWrite k word v) := by
  unfold State.secStateWrite
  repeat' (first
    | with_reducible exact h | with_reducible apply State.refuse_kept | with_reducible apply State.set_kept
    | with_reducible apply State.wr_kept | with_reducible apply ite_kept)

theorem State.capture_kept {bm bt : Bool} {s₀ s : State} (i : SampleIn) (h : Kept bm bt s₀ s) : Kept bm bt s₀ (s.capture i) := by
  unfold State.capture
  repeat' first | with_reducible exact h | (simp only [kept_mk]; refine Kept.upd rfl ?_)

theorem State.estSample_kept {bm bt : Bool} {s₀ s : State} (x : Nat) (h : Kept bm bt s₀ s) :
    Kept bm bt s₀ (State.estSample x s) := by
  unfold State.estSample
  try dsimp only
  repeat' (first
    | with_reducible exact h | with_reducible exact Kept.refl _ | with_reducible apply State.set_kept
    | with_reducible apply ite_kept | intro _ | (simp only [kept_mk]; refine Kept.upd rfl ?_) | split)

theorem State.estTake_kept {bm bt : Bool} {s₀ s : State} (h : Kept bm bt s₀ s) : Kept bm bt s₀ s.estTake := by
  unfold State.estTake
  try dsimp only
  repeat' (first
    | with_reducible exact h | with_reducible exact Kept.refl _ | with_reducible apply State.estSample_kept | intro _
    | (simp only [kept_mk]; refine Kept.upd rfl ?_) | split)

theorem State.casFe_kept {bm bt : Bool} {s₀ s : State} (c : Nat) (m : Int) (h : Kept bm bt s₀ s) :
    Kept bm bt s₀ (s.casFe c m) := by
  unfold State.casFe
  repeat' (first
    | with_reducible exact h | with_reducible apply State.set_kept | with_reducible apply ite_kept
    | (simp only [kept_mk]; refine Kept.upd rfl ?_))

theorem State.casHold_kept {bm bt : Bool} {s₀ s : State} (c : Nat) (h : Kept bm bt s₀ s) : Kept bm bt s₀ (s.casHold c) := by
  unfold State.casHold
  repeat' (first
    | with_reducible exact h | with_reducible apply State.casRefuse_kept | with_reducible apply State.set_kept
    | with_reducible apply ite_kept)

theorem State.casOutput_kept {bm bt : Bool} {s₀ s : State} (c : Nat) (b5 m : Int) (h : Kept bm bt s₀ s) : Kept bm bt s₀ (s.casOutput c b5 m) := by
  unfold State.casOutput
  extract_lets e slots lo hi
  split
  rename_i y l heq
  extract_lets raw fhi flo s1 s2 out prev r out2 s3
  have h1 : Kept bm bt s₀ s1 := by
    show Kept bm bt s₀ (ite _ _ _)
    split
    · exact forL_kept (State.set_kept _ _ h) fun p t => State.set_kept _ _ (Kept.refl t)
    · exact h
  clear_value s1
  have h2 : Kept bm bt s₀ s2 := by
    show Kept bm bt s₀ (ite _ _ _)
    split
    · exact h1
    · exact forL_kept h1 fun p t => State.advance_kept _ _ _ (Kept.refl t)
  clear_value s2
  have h3 : Kept bm bt s₀ s3 := State.wrI_kept _ _ (State.setB_kept _ _ (State.setB_kept _ _ h2))
  split
  · exact State.set_kept _ _ h3
  · exact h3

theorem State.casSetpoint_kept {bm bt : Bool} {s₀ s : State} (c : Nat) (b3 : Int) (h : Kept bm bt s₀ s) :
    Kept bm bt s₀ (s.casSetpoint c b3) := by
  unfold State.casSetpoint
  try dsimp only
  repeat' (first
    | with_reducible exact h | with_reducible exact Kept.refl _ | with_reducible apply State.wrI_kept
    | with_reducible apply State.set_kept | with_reducible apply State.clear_kept | with_reducible apply ite_kept
    | intro _ | split)

theorem State.copySection_kept {bm bt : Bool} {s₀ s : State} (k : Nat) (src : Option Nat) (h : Kept bm bt s₀ s) :
    Kept bm bt s₀ (s.copySection k src) := by
  unfold State.copySection
  repeat' first | with_reducible exact h | with_reducible apply State.wr_kept

theorem State.casStart_kept {bm bt : Bool} {s₀ s : State} (c : Nat) (h : Kept bm bt s₀ s) : Kept bm bt s₀ (s.casStart c) := by
  unfold State.casStart
  repeat' (first
    | with_reducible exact h | with_reducible exact Kept.refl _ | with_reducible apply forL_kept
    | with_reducible apply State.copySection_kept | with_reducible apply State.set_kept
    | with_reducible apply State.wrI_kept | intro _ | (simp only [kept_mk]; refine Kept.upd rfl ?_))

theorem State.casStopping_kept {bm bt : Bool} {s₀ s : State} (c : Nat) (h : Kept bm bt s₀ s) :
    Kept bm bt s₀ (s.casStopping c) := by
  unfold State.casStopping
  try dsimp only
  repeat' (first
    | with_reducible exact h | with_reducible exact Kept.refl _ | with_reducible apply State.wrI_kept
    | with_reducible apply State.clear_kept | with_reducible apply State.casOff_kept | with_reducible apply ite_kept
    | intro _ | (simp only [kept_mk]; refine Kept.upd rfl ?_) | split)

theorem State.takeBank_kept {bm bt : Bool} {s₀ s : State} (c : Nat) (h : Kept bm bt s₀ s) : Kept bm bt s₀ (s.takeBank c) := by
  unfold State.takeBank
  repeat' (first
    | with_reducible exact h | with_reducible exact Kept.refl _ | with_reducible apply forL_kept
    | with_reducible apply State.wr_kept | with_reducible apply State.showSections_kept
    | with_reducible apply State.set_kept | with_reducible apply ite_kept | intro _)

theorem State.tuneDone_kept {bm bt : Bool} {s₀ s : State} (x1 : Tune) (h : Kept bm bt s₀ s) : Kept bm bt s₀ (s.tuneDone x1) := by
  unfold State.tuneDone
  repeat' (first
    | with_reducible exact h | with_reducible apply State.clear_kept | with_reducible apply State.set_kept
    | with_reducible apply State.wrN_kept | with_reducible apply State.wr_kept | with_reducible apply State.wrI_kept
    | with_reducible apply State.setB_kept | with_reducible apply State.raiseBit_kept | with_reducible apply ite_kept
    | (simp only [kept_mk]; refine Kept.upd rfl ?_))

theorem State.tuneCycle_kept {bm bt : Bool} {s₀ s : State} (x1 : Tune) (now : Nat) (m : Int) (h : Kept bm bt s₀ s) :
    Kept bm bt s₀ (s.tuneCycle x1 now m) := by
  unfold State.tuneCycle
  repeat' (first
    | with_reducible exact h | with_reducible apply State.tuneDone_kept | with_reducible apply State.set_kept
    | with_reducible apply State.tuneAbort_kept | with_reducible apply ite_kept
    | (simp only [kept_mk]; refine Kept.upd rfl ?_))

theorem State.tuneSample_kept {bm bt : Bool} {s₀ s : State} (x1 : Tune) (b5 m : Int) (h : Kept bm bt s₀ s) :
    Kept bm bt s₀ (s.tuneSample x1 b5 m) := by
  unfold State.tuneSample
  try dsimp only
  repeat' (first
    | with_reducible exact h | with_reducible apply State.tuneAbort_kept | with_reducible apply State.tuneCycle_kept
    | with_reducible apply State.wrI_kept | (simp only [kept_mk]; refine Kept.upd rfl ?_) | split)

theorem State.cascade_kept {bm bt : Bool} {s₀ s : State} (s0 : State) (c : Nat) (h : Kept bm bt s₀ s) :
    Kept bm bt s₀ (State.cascade s0 c s) := by
  unfold State.cascade
  try dsimp only
  repeat' (first
    | with_reducible exact h | with_reducible exact Kept.refl _ | with_reducible apply State.takeBank_kept
    | with_reducible apply State.casStart_kept | with_reducible apply State.setB_kept
    | with_reducible apply State.clear_kept | with_reducible apply State.casSetpoint_kept
    | with_reducible apply State.casFe_kept | with_reducible apply State.tuneSample_kept
    | with_reducible apply State.casStopping_kept | with_reducible apply State.casOutput_kept
    | with_reducible apply ite_kept | intro _ | (simp only [kept_mk]; refine Kept.upd rfl ?_) | split)

theorem State.cascades_kept {bm bt : Bool} {s₀ s : State} (h : Kept bm bt s₀ s) : Kept bm bt s₀ s.cascades := by
  unfold State.cascades
  repeat' (first
    | with_reducible exact h | with_reducible exact Kept.refl _ | with_reducible apply forN_kept
    | with_reducible apply State.cascade_kept | with_reducible apply ite_kept | intro _)

theorem State.deliver_kept {bm bt : Bool} {s₀ s : State} (l : List Nat) (ref : Int) (h : Kept bm bt s₀ s) :
    Kept bm bt s₀ (s.deliver l ref) := by
  unfold State.deliver
  repeat' (first
    | with_reducible exact h | with_reducible exact Kept.refl _ | with_reducible apply forL_kept
    | with_reducible apply State.setChan_kept | intro _)

theorem State.deliverString_kept {bm bt : Bool} {s₀ s : State} (x : Nat) (share : Rat) (h : Kept bm bt s₀ s) :
    Kept bm bt s₀ (s.deliverString x share) := by
  unfold State.deliverString
  repeat' (first
    | with_reducible exact h | with_reducible exact Kept.refl _ | with_reducible apply forL_kept
    | with_reducible apply State.deliver_kept | with_reducible apply State.raiseBit_kept | with_reducible apply ite_kept
    | intro _)

theorem State.feRestart_kept {bm bt : Bool} {s₀ s : State} (c : Nat) (h : Kept bm bt s₀ s) : Kept bm bt s₀ (s.feRestart c) := by
  unfold State.feRestart
  repeat' first | with_reducible exact h | with_reducible apply State.set_kept | with_reducible apply ite_kept

theorem State.feFault_kept {bm bt : Bool} {s₀ s : State} (c : Nat) (h : Kept bm bt s₀ s) : Kept bm bt s₀ (s.feFault c) := by
  unfold State.feFault
  repeat' (first
    | with_reducible exact h | with_reducible apply State.softAbort_kept | with_reducible apply State.raise_kept
    | with_reducible apply State.feRestart_kept | with_reducible apply ite_kept)

theorem State.feTripped_kept {bm bt : Bool} {s₀ s : State} (c : Nat) (h : Kept bm bt s₀ s) : Kept bm bt s₀ (s.feTripped c) := by
  unfold State.feTripped
  repeat' (first
    | with_reducible exact h | with_reducible apply State.tuneAbort_kept | with_reducible apply State.set_kept
    | with_reducible apply State.raiseBit_kept | (simp only [kept_mk]; refine Kept.upd rfl ?_))

theorem State.frameMean_kept {bm bt : Bool} {s₀ s : State} (h : Kept bm bt s₀ s) : Kept bm bt s₀ s.frameMean := by
  unfold State.frameMean
  try dsimp only
  repeat' first | with_reducible exact h | (simp only [kept_mk]; refine Kept.upd rfl ?_) | split

theorem State.giveShares_kept {bm bt : Bool} {s₀ s : State} (a b : Rat) (h : Kept bm bt s₀ s) :
    Kept bm bt s₀ (s.giveShares a b) := by
  unfold State.giveShares
  repeat' (first
    | with_reducible exact h | with_reducible apply State.setI_kept | with_reducible apply State.deliverString_kept
    | (simp only [kept_mk]; refine Kept.upd rfl ?_))

theorem State.strStep_kept {bm bt : Bool} {s₀ s : State} (x : Nat) (old new : Int) (h : Kept bm bt s₀ s) :
    Kept bm bt s₀ (s.strStep x old new) := by
  unfold State.strStep
  try dsimp only
  repeat' (first
    | with_reducible exact h | with_reducible apply State.stepEvent_kept | (simp only [kept_mk]; refine Kept.upd rfl ?_)
    | split)

theorem State.giveStrings_kept {bm bt : Bool} {s₀ s : State} (a b : Rat) (h : Kept bm bt s₀ s) :
    Kept bm bt s₀ (s.giveStrings a b) := by
  unfold State.giveStrings
  repeat' (first
    | with_reducible exact h | with_reducible apply State.strStep_kept | with_reducible apply State.giveShares_kept)

theorem State.pmbus_kept {bm bt : Bool} {s₀ s : State} (r code : Nat) (data : List Byte) (h : Kept bm bt s₀ s) :
    Kept bm bt s₀ (s.pmbus r code data) := by
  unfold State.pmbus
  repeat' first | with_reducible exact h | with_reducible apply State.verbose_kept | with_reducible apply State.emit_kept

theorem State.unstick_kept {bm bt : Bool} {s₀ s : State} (stuck : Bool) (h : Kept bm bt s₀ s) :
    Kept bm bt s₀ (s.unstick stuck) := by
  unfold State.unstick
  try dsimp only
  repeat' (first
    | with_reducible exact h | with_reducible exact Kept.refl _ | with_reducible apply State.emit_kept
    | with_reducible apply ite_kept | intro _ | split)

theorem State.pmbusTry_kept {bm bt : Bool} {s₀ s : State} (a : RectAns) (r code : Nat) (data : List Byte) (h : Kept bm bt s₀ s) :
    Kept bm bt s₀ (s.pmbusTry a r code data) := by
  unfold State.pmbusTry
  try dsimp only
  repeat' (first
    | with_reducible exact h | with_reducible exact Kept.refl _ | with_reducible apply State.pmbus_kept
    | with_reducible apply State.unstick_kept | intro _ | (simp only [kept_mk]; refine Kept.upd rfl ?_) | split)

theorem State.lastRead_kept {bm bt : Bool} {s₀ s : State} (i : L1In) (h : Kept bm bt s₀ s) :
    Kept bm bt s₀ (s.lastRead i).1 := by
  unfold State.lastRead
  try dsimp only
  repeat' (first
    | with_reducible exact h | with_reducible exact Kept.refl _ | with_reducible apply State.emit_kept
    | with_reducible apply State.pmbus_kept | with_reducible apply State.verbose_kept
    | with_reducible apply State.pmbusTry_kept | with_reducible apply State.set_kept | with_reducible apply ite_kept
    | intro _ | (simp only [kept_mk]; refine Kept.upd rfl ?_) | split)

theorem State.slotServed_kept {bm bt : Bool} {s₀ s : State} (h : Kept bm bt s₀ s) : Kept bm bt s₀ s.slotServed := by
  unfold State.slotServed
  try dsimp only
  repeat' (first
    | with_reducible exact h | with_reducible exact Kept.refl _ | intro _
    | (simp only [kept_mk]; refine Kept.upd rfl ?_) | split)

theorem State.limitWrites_kept {bm bt : Bool} {s₀ s : State} (i : L1In) (q : List (Nat × Nat)) (h : Kept bm bt s₀ s) :
    Kept bm bt s₀ (s.limitWrites i q) := by
  unfold State.limitWrites
  try dsimp only
  repeat' (first
    | with_reducible exact h | with_reducible exact Kept.refl _ | with_reducible apply State.pmbusTry_kept
    | with_reducible apply State.bumpSat_kept | with_reducible apply forL_kept | intro _
    | (simp only [kept_mk]; refine Kept.upd rfl ?_) | split)

theorem State.prechargeRefs_kept {bm bt : Bool} {s₀ s : State} (h : Kept bm bt s₀ s) : Kept bm bt s₀ s.prechargeRefs := by
  unfold State.prechargeRefs
  repeat' first | with_reducible exact h | with_reducible apply State.deliver_kept

theorem State.rampWrite_kept {bm bt : Bool} {s₀ s : State} (i : L1In) (r : Nat) (h : Kept bm bt s₀ s) :
    Kept bm bt s₀ (s.rampWrite i r) := by
  unfold State.rampWrite
  try dsimp only
  repeat' (first
    | with_reducible exact h | with_reducible exact Kept.refl _ | with_reducible apply State.set_kept
    | with_reducible apply State.pmbusTry_kept | with_reducible apply ite_kept | intro _
    | (simp only [kept_mk]; refine Kept.upd rfl ?_) | split)

theorem State.slotTail_kept {bm bt : Bool} {s₀ s : State} (i : L1In) (fit : Nat) (ramp : Option Nat) (h : Kept bm bt s₀ s) :
    Kept bm bt s₀ (s.slotTail i fit ramp).1 := by
  unfold State.slotTail
  try dsimp only
  repeat' (first
    | with_reducible exact h | with_reducible exact Kept.refl _ | with_reducible apply State.rampWrite_kept
    | with_reducible apply State.lastRead_kept | with_reducible apply ite_kept | intro _
    | (simp only [kept_mk]; refine Kept.upd rfl ?_) | split)

theorem State.rebaseTransfer_kept {bm bt : Bool} {s₀ s : State} (h : Kept bm bt s₀ s) : Kept bm bt s₀ s.rebaseTransfer := by
  unfold State.rebaseTransfer
  repeat' (first
    | with_reducible exact h | with_reducible apply State.wrI_kept | (simp only [kept_mk]; refine Kept.upd rfl ?_) | split)

theorem State.rectResult_kept {bm bt : Bool} {s₀ s : State} (r : Nat) (ok : Bool) (h : Kept bm bt s₀ s) :
    Kept bm bt s₀ (s.rectResult r ok) := by
  unfold State.rectResult
  try dsimp only
  repeat' (first
    | with_reducible exact h | with_reducible apply State.unraise_kept | with_reducible apply State.msix_kept
    | with_reducible apply State.set_kept | with_reducible apply State.clear_kept | with_reducible apply State.wrI_kept
    | with_reducible apply State.raise_kept | (simp only [kept_mk]; refine Kept.upd rfl ?_) | split)

theorem State.traceUs_kept {bm bt : Bool} {s₀ s : State} (h : Kept bm bt s₀ s) : Kept bm bt s₀ s.traceUs := by
  unfold State.traceUs
  repeat' (first
    | with_reducible exact h | with_reducible apply State.record_kept | with_reducible apply ite_kept
    | (simp only [kept_mk]; refine Kept.upd rfl ?_))

theorem State.telUs_kept {bt : Bool} {s₀ s : State} (h : Kept false bt s₀ s) : Kept false bt s₀ s.telUs := by
  unfold State.telUs
  repeat' first | with_reducible exact h | with_reducible apply State.memPut_kept | with_reducible apply ite_kept

theorem State.sampleRecords_kept {bt : Bool} {s₀ s : State} (h : Kept false bt s₀ s) : Kept false bt s₀ s.sampleRecords := by
  unfold State.sampleRecords
  repeat' (first
    | with_reducible exact h | with_reducible apply State.traceUs_kept | with_reducible apply State.telUs_kept
    | (simp only [kept_mk]; refine Kept.upd rfl ?_))

theorem State.banks_kept {bm bt : Bool} {s₀ s : State} (h : Kept bm bt s₀ s) : Kept bm bt s₀ s.banks := by
  unfold State.banks
  try dsimp only
  repeat' (first
    | with_reducible exact h | with_reducible exact Kept.refl _ | with_reducible apply State.takeBank_kept
    | with_reducible apply forN_kept | with_reducible apply ite_kept | intro _ | split)

theorem State.disarmStep_kept {bm bt : Bool} {s₀ s : State} (h : Kept bm bt s₀ s) : Kept bm bt s₀ s.disarmStep := by
  unfold State.disarmStep
  try dsimp only
  repeat' (first
    | with_reducible exact h | with_reducible exact Kept.refl _ | with_reducible apply State.casOff_kept
    | with_reducible apply State.set_kept | with_reducible apply State.beginShed_kept
    | with_reducible apply State.afterChans_kept | with_reducible apply forN_kept | with_reducible apply ite_kept
    | intro _ | (simp only [kept_mk]; refine Kept.upd rfl ?_) | split)

theorem State.swapCalm_kept {bm bt : Bool} {s₀ s : State} (h : Kept bm bt s₀ s) : Kept bm bt s₀ s.swapCalm := by
  unfold State.swapCalm
  try dsimp only
  repeat' (first
    | with_reducible exact h | with_reducible exact Kept.refl _ | with_reducible apply State.set_kept
    | with_reducible apply forN_kept | with_reducible apply ite_kept | intro _
    | (simp only [kept_mk]; refine Kept.upd rfl ?_) | split)

theorem State.holdFree_kept {bm bt : Bool} {s₀ s : State} (h : Kept bm bt s₀ s) : Kept bm bt s₀ s.holdFree := by
  unfold State.holdFree
  try dsimp only
  repeat' (first
    | with_reducible exact h | with_reducible exact Kept.refl _ | with_reducible apply ite_kept | intro _
    | (simp only [kept_mk]; refine Kept.upd rfl ?_) | split)

theorem State.showTotal_kept {bm bt : Bool} {s₀ s : State} (h : Kept bm bt s₀ s) : Kept bm bt s₀ s.showTotal := by
  unfold State.showTotal
  repeat' (first
    | with_reducible exact h | with_reducible apply State.raiseBit_kept | with_reducible apply State.wrI_kept
    | with_reducible apply ite_kept)

theorem State.unservedAmps_kept {bm bt : Bool} {s₀ s : State} (x1 : Rat) (h : Kept bm bt s₀ s) :
    Kept bm bt s₀ (s.unservedAmps x1) := by
  unfold State.unservedAmps
  repeat' (first
    | with_reducible exact h | with_reducible apply State.wrI_kept | with_reducible apply State.unraise_kept
    | with_reducible apply State.raiseBit_kept | with_reducible apply State.raise_kept | with_reducible apply ite_kept
    | (simp only [kept_mk]; refine Kept.upd rfl ?_))

theorem State.split_kept {bm bt : Bool} {s₀ s : State} (h : Kept bm bt s₀ s) : Kept bm bt s₀ s.split := by
  unfold State.split
  repeat' (first
    | with_reducible exact h | with_reducible apply State.showTotal_kept | with_reducible apply State.raiseBit_kept
    | with_reducible apply State.giveStrings_kept | with_reducible apply State.unservedAmps_kept
    | with_reducible apply ite_kept)

theorem State.tuneAtArmed_kept {bm bt : Bool} {s₀ s : State} (h : Kept bm bt s₀ s) : Kept bm bt s₀ s.tuneAtArmed := by
  unfold State.tuneAtArmed
  repeat' (first
    | with_reducible exact h | with_reducible apply State.tuneBegin_kept | with_reducible apply State.tuneRefuse_kept
    | (simp only [kept_mk]; refine Kept.upd rfl ?_) | split)

end Sys2Proof.Machine
end

