-- ==== Sys2Proof/Laws/KeptStrings.lean ====
section
/-! SUPPORT. What the operations of these parts keep (`Kept`): the Spur island, the wear copy, the journal, the Hollyhock rings and estimation. -/

-- One proof at a time: in the package's one text, proofs that wait for one another would each hold a thread.
set_option Elab.async false

namespace Sys2Proof.Machine

/-! ### Spur -/

theorem State.acknowledge_kept {bm bt : Bool} {s₀ s : State} (status lane seq lat : Nat) (fc : Bool) (h : Kept bm bt s₀ s) :
    Kept bm bt s₀ (s.acknowledge status lane seq lat fc) := by
  unfold State.acknowledge
  repeat' (first
    | with_reducible exact h | with_reducible apply State.raiseBit_kept | with_reducible apply State.set_kept
    | with_reducible apply State.wrapReg_kept | with_reducible apply State.verbose_kept
    | with_reducible apply State.emit_kept | with_reducible apply State.wrN_kept | with_reducible apply ite_kept
    | (simp only [kept_mk]; refine Kept.upd rfl ?_))

theorem State.beginStep_kept {bm bt : Bool} {s₀ s : State} (k : Nat) (h : Kept bm bt s₀ s) : Kept bm bt s₀ (s.beginStep k) := by
  unfold State.beginStep
  repeat' (first
    | with_reducible exact h | with_reducible apply State.setI_kept | (simp only [kept_mk]; refine Kept.upd rfl ?_))

theorem State.putWindow_kept {bm bt : Bool} {s₀ s : State} (w : List Sample) (h : Kept bm bt s₀ s) :
    Kept bm bt s₀ (s.putWindow w) := by
  unfold State.putWindow
  repeat' (first
    | with_reducible exact h | with_reducible apply State.raiseBit_kept | with_reducible apply State.bumpSat_kept
    | with_reducible apply ite_kept | (simp only [kept_mk]; refine Kept.upd rfl ?_))

theorem State.reEdge_kept {bm bt : Bool} {s₀ s : State} (h : Kept bm bt s₀ s) : Kept bm bt s₀ s.reEdge := by
  unfold State.reEdge
  try dsimp only
  repeat' (first
    | with_reducible exact h | with_reducible exact Kept.refl _ | with_reducible apply ite_kept | intro _
    | (simp only [kept_mk]; refine Kept.upd rfl ?_) | split)

theorem State.showOffset_kept {bm bt : Bool} {s₀ s : State} (h : Kept bm bt s₀ s) : Kept bm bt s₀ s.showOffset := by
  unfold State.showOffset
  repeat' first | with_reducible exact h | with_reducible apply State.setB_kept | with_reducible apply State.setI_kept

theorem State.rebaseBy_kept {bm bt : Bool} {s₀ s : State} (k : Nat) (e : Int) (h : Kept bm bt s₀ s) :
    Kept bm bt s₀ (s.rebaseBy k e) := by
  unfold State.rebaseBy
  repeat' (first
    | with_reducible exact h | with_reducible apply State.putWindow_kept | with_reducible apply State.showOffset_kept
    | (simp only [kept_mk]; refine Kept.upd rfl ?_))

theorem State.takeUnannounced_kept {bm bt : Bool} {s₀ s : State} (k : Nat) (e : Int) (h : Kept bm bt s₀ s) :
    Kept bm bt s₀ (s.takeUnannounced k e) := by
  unfold State.takeUnannounced
  repeat' (first
    | with_reducible exact h | with_reducible apply State.usMark_kept | with_reducible apply State.bumpSat_kept
    | with_reducible apply State.raiseBit_kept | with_reducible apply State.wr64_kept
    | with_reducible apply State.record_kept | with_reducible apply State.quietOff_kept
    | with_reducible apply State.rebaseBy_kept)

theorem State.checkUnannounced_kept {bm bt : Bool} {s₀ s : State} (k : Nat) (h : Kept bm bt s₀ s) :
    Kept bm bt s₀ (s.checkUnannounced k) := by
  unfold State.checkUnannounced
  repeat' first | with_reducible exact h | with_reducible apply State.takeUnannounced_kept | split

theorem State.consume_kept {bm bt : Bool} {s₀ s : State} (n x : Nat) (h : Kept bm bt s₀ s) : Kept bm bt s₀ (s.consume n x) := by
  unfold State.consume
  repeat' (first
    | with_reducible exact h | with_reducible apply State.clear_kept | with_reducible apply State.raiseBit_kept
    | with_reducible apply State.set_kept | with_reducible apply State.bumpSat_kept | with_reducible apply ite_kept)

theorem State.offsetDecay_kept {bm bt : Bool} {s₀ s : State} (h : Kept bm bt s₀ s) : Kept bm bt s₀ s.offsetDecay := by
  unfold State.offsetDecay
  repeat' (first
    | with_reducible exact h | with_reducible apply State.showOffset_kept | with_reducible apply ite_kept
    | (simp only [kept_mk]; refine Kept.upd rfl ?_))

theorem State.offsetNone_kept {bm bt : Bool} {s₀ s : State} (h : Kept bm bt s₀ s) : Kept bm bt s₀ s.offsetNone := by
  unfold State.offsetNone
  try dsimp only
  repeat' (first
    | with_reducible exact h | with_reducible exact Kept.refl _ | with_reducible apply State.showOffset_kept
    | with_reducible apply ite_kept | intro _ | (simp only [kept_mk]; refine Kept.upd rfl ?_) | split)

theorem State.commitSample_kept {bm bt : Bool} {s₀ s : State} (n : Nat) (h : Kept bm bt s₀ s) :
    Kept bm bt s₀ (s.commitSample n) := by
  unfold State.commitSample
  try dsimp only
  repeat' (first
    | with_reducible exact h | with_reducible exact Kept.refl _ | with_reducible apply State.consume_kept
    | with_reducible apply State.raiseBit_kept | with_reducible apply State.offsetNone_kept
    | with_reducible apply State.offsetDecay_kept | with_reducible apply State.putWindow_kept
    | with_reducible apply State.verbose_kept | with_reducible apply State.stepEvent_kept
    | with_reducible apply forL_kept | with_reducible apply ite_kept | intro _
    | (simp only [kept_mk]; refine Kept.upd rfl ?_) | split)

theorem State.commitStart_kept {bm bt : Bool} {s₀ s : State} (h : Kept bm bt s₀ s) : Kept bm bt s₀ s.commitStart := by
  unfold State.commitStart
  repeat' (first
    | with_reducible exact h | with_reducible apply State.set_kept | (simp only [kept_mk]; refine Kept.upd rfl ?_))

theorem State.mergeHint_kept {bm bt : Bool} {s₀ s : State} (x1 : Hint) (h : Kept bm bt s₀ s) : Kept bm bt s₀ (s.mergeHint x1) := by
  unfold State.mergeHint
  repeat' (first
    | with_reducible exact h | with_reducible apply State.verbose_kept | with_reducible apply State.putWindow_kept
    | (simp only [kept_mk]; refine Kept.upd rfl ?_))

theorem State.enterHint_kept {bm bt : Bool} {s₀ s : State} (x1 : Hint) (h : Kept bm bt s₀ s) : Kept bm bt s₀ (s.enterHint x1) := by
  unfold State.enterHint
  repeat' (first
    | with_reducible exact h | with_reducible apply State.mergeHint_kept | with_reducible apply ite_kept
    | (simp only [kept_mk]; refine Kept.upd rfl ?_))

theorem State.headStep_kept {bm bt : Bool} {s₀ s : State} (x : Nat) (lo : Word) (h : Kept bm bt s₀ s) : Kept bm bt s₀ (s.headStep x lo) := by
  unfold State.headStep
  dsimp only
  apply ite_kept
  · exact State.refuse_kept _ _ (State.raiseBit_kept _ _ h)
  · simp only [kept_mk]
    exact Kept.upd rfl (State.wr_kept _ _ h) (hfcst := fun hh => by simpa [Fcst.shaped] using hh)

theorem State.hintWakes_kept {bm bt : Bool} {s₀ s : State} (h : Kept bm bt s₀ s) : Kept bm bt s₀ s.hintWakes := by
  unfold State.hintWakes
  try dsimp only
  repeat' (first
    | with_reducible exact h | with_reducible exact Kept.refl _ | with_reducible apply State.fireWake_kept
    | with_reducible apply State.clear_kept | with_reducible apply State.latchWake_kept | with_reducible apply ite_kept
    | intro _ | split)

theorem State.hrEval_kept {bm bt : Bool} {s₀ s : State} (h : Kept bm bt s₀ s) : Kept bm bt s₀ s.hrEval := by
  unfold State.hrEval
  repeat' (first
    | with_reducible exact h | with_reducible apply State.set_kept | with_reducible apply State.setI_kept
    | (simp only [kept_mk]; refine Kept.upd rfl ?_) | split)

theorem State.mergeDue_kept {bm bt : Bool} {s₀ s : State} (newest : Nat) (h : Kept bm bt s₀ s) :
    Kept bm bt s₀ (s.mergeDue newest) := by
  unfold State.mergeDue
  repeat' (first
    | with_reducible exact h | with_reducible exact Kept.refl _ | with_reducible apply forL_kept
    | with_reducible apply State.mergeHint_kept | intro _)

theorem State.noteRx_kept {bm bt : Bool} {s₀ s : State} (lane seq : Nat) (h : Kept bm bt s₀ s) :
    Kept bm bt s₀ (s.noteRx lane seq) := by
  unfold State.noteRx
  try dsimp only
  repeat' (first
    | with_reducible exact h | with_reducible exact Kept.refl _ | intro _
    | (simp only [kept_mk]; refine Kept.upd rfl ?_) | split)

theorem State.quietByHint_kept {bm bt : Bool} {s₀ s : State} (h : Kept bm bt s₀ s) : Kept bm bt s₀ s.quietByHint := by
  unfold State.quietByHint
  repeat' first | with_reducible exact h | with_reducible apply State.quietOff_kept | with_reducible apply ite_kept

theorem State.quietEval_kept {bm bt : Bool} {s₀ s : State} (h : Kept bm bt s₀ s) : Kept bm bt s₀ s.quietEval := by
  unfold State.quietEval
  repeat' (first
    | with_reducible exact h | with_reducible apply State.set_kept | with_reducible apply State.wr64_kept
    | with_reducible apply State.quietOff_kept | with_reducible apply ite_kept)

theorem State.quietPut_kept {bm bt : Bool} {s₀ s : State} (x v : Nat) (h : Kept bm bt s₀ s) : Kept bm bt s₀ (s.quietPut x v) := by
  unfold State.quietPut
  repeat' (first
    | with_reducible exact h | with_reducible apply State.quietOff_kept | with_reducible apply State.wr64_kept
    | with_reducible apply State.quietEval_kept | with_reducible apply ite_kept
    | (simp only [kept_mk]; refine Kept.upd rfl ?_))

theorem State.rxCount_kept {bm bt : Bool} {s₀ s : State} (lane : Nat) (h : Kept bm bt s₀ s) : Kept bm bt s₀ (s.rxCount lane) := by
  unfold State.rxCount
  repeat' first | with_reducible exact h | with_reducible apply State.verbose_kept | with_reducible apply State.bumpSat_kept

theorem State.showNow_kept {bm bt : Bool} {s₀ s : State} (k : Nat) (h : Kept bm bt s₀ s) : Kept bm bt s₀ (s.showNow k) := by
  unfold State.showNow
  repeat' first | with_reducible exact h | with_reducible apply State.set_kept | with_reducible apply State.setI_kept | split

theorem State.withdraw_kept {bm bt : Bool} {s₀ s : State} (x1 : Hint) (h : Kept bm bt s₀ s) : Kept bm bt s₀ (s.withdraw x1) := by
  unfold State.withdraw
  repeat' (first
    | with_reducible exact h | with_reducible apply State.putWindow_kept | (simp only [kept_mk]; refine Kept.upd rfl ?_))

theorem State.takeHint_kept {bm bt : Bool} {s₀ s : State} (i : HintIn) (h : Kept bm bt s₀ s) : Kept bm bt s₀ (s.takeHint i) := by
  unfold State.takeHint
  try dsimp only
  repeat' (first
    | with_reducible exact h | with_reducible apply State.withdraw_kept | with_reducible apply State.quietByHint_kept
    | with_reducible apply State.enterHint_kept | (simp only [kept_mk]; refine Kept.upd rfl ?_) | split)

theorem State.telStep_kept {bt : Bool} {s₀ s : State} (k : Nat) (unann : Bool) (h : Kept false bt s₀ s) :
    Kept false bt s₀ (s.telStep k unann) := by
  unfold State.telStep
  repeat' first | with_reducible exact h | with_reducible apply State.memPut_kept | split

/-! ### Wear -/

theorem State.bootErr_kept {bm bt : Bool} {s₀ s : State} (code info : Nat) (h : Kept bm bt s₀ s) :
    Kept bm bt s₀ (s.bootErr code info) := by
  unfold State.bootErr
  repeat' first | with_reducible exact h | with_reducible apply State.wrN_kept | with_reducible apply State.set_kept

theorem State.bootErrClear_kept {bm bt : Bool} {s₀ s : State} (h : Kept bm bt s₀ s) : Kept bm bt s₀ s.bootErrClear := by
  unfold State.bootErrClear
  repeat' first | with_reducible exact h | with_reducible apply State.bootErr_kept

theorem State.retryAfter_kept {bm bt : Bool} {s₀ s : State} (h : Kept bm bt s₀ s) : Kept bm bt s₀ s.retryAfter := by
  unfold State.retryAfter
  repeat' (first
    | with_reducible exact h | with_reducible apply State.set_kept | with_reducible apply ite_kept
    | (simp only [kept_mk]; refine Kept.upd rfl ?_))

theorem State.armFail_kept {bm bt : Bool} {s₀ s : State} (code info : Nat) (h : Kept bm bt s₀ s) :
    Kept bm bt s₀ (s.armFail code info) := by
  unfold State.armFail
  repeat' (first
    | with_reducible exact h | with_reducible apply State.openDue_kept | with_reducible apply State.bootErr_kept
    | with_reducible apply State.enter_kept | with_reducible apply State.clearCauses_kept
    | with_reducible apply State.set_kept | with_reducible apply State.retryAfter_kept | with_reducible apply ite_kept
    | (simp only [kept_mk]; refine Kept.upd rfl ?_))

theorem State.setRole_kept {bm bt : Bool} {s₀ s : State} (x p r : Nat) (h : Kept bm bt s₀ s) :
    Kept bm bt s₀ (s.setRole x p r) := by
  unfold State.setRole
  try dsimp only
  repeat' (first
    | with_reducible exact h | with_reducible exact Kept.refl _ | with_reducible apply State.set_kept | intro _
    | (simp only [kept_mk]; refine Kept.upd rfl ?_) | split)

theorem State.wearGo_kept {bm bt : Bool} {s₀ s : State} (h : Kept bm bt s₀ s) : Kept bm bt s₀ s.wearGo := by
  unfold State.wearGo
  try dsimp only
  repeat' (first
    | with_reducible exact h | with_reducible exact Kept.refl _ | with_reducible apply ite_kept | intro _
    | (simp only [kept_mk]; refine Kept.upd rfl ?_) | split)

theorem State.writeWear_kept {bm bt : Bool} {s₀ s : State} (h : Kept bm bt s₀ s) : Kept bm bt s₀ s.writeWear := by
  unfold State.writeWear
  try dsimp only
  repeat' (first
    | with_reducible exact h | with_reducible exact Kept.refl _ | with_reducible apply State.wearGo_kept
    | with_reducible apply ite_kept | intro _ | (simp only [kept_mk]; refine Kept.upd rfl ?_) | split)

theorem State.tearWear_kept {bm bt : Bool} {s₀ s : State} (h : Kept bm bt s₀ s) : Kept bm bt s₀ s.tearWear := by
  unfold State.tearWear
  split
  · exact h
  · exact h.trans { State.fresh_kept (Kept.refl s) with rmt := id, mram := sparseWf_writeBytes _ _ _ }

theorem State.wearShelf_kept {bm bt : Bool} {s₀ s : State} (l : List Byte) (h : Kept bm bt s₀ s) : Kept bm bt s₀ (s.wearShelf l) := by
  unfold State.wearShelf
  extract_lets ph ce y z s1 s2
  have h1 : Kept bm bt s₀ s1 := by
    show Kept bm bt s₀ (State.mk ..)
    simp only [kept_mk]
    exact Kept.upd rfl h (hrmt := fun hh => by simp only [Rmt.shaped] at hh; simp [Rmt.shaped, ph, ce, tableOf, hh, z])
      (hhrn := fun hh => by simp only [Hrn.shaped] at hh; simp [Hrn.shaped, ph, tableOf, hh, y])
  have h2 : Kept bm bt s₀ s2 := forN_kept h1 fun n t => State.set_kept _ _ (Kept.refl t)
  refine forN_kept (State.clear_kept _ h2) fun i t => ?_
  split
  · exact State.setRole_kept _ _ _ (Kept.refl t)
  · exact Kept.refl t

theorem State.shelfRestore_kept {bm bt : Bool} {s₀ s : State} (h : Kept bm bt s₀ s) : Kept bm bt s₀ s.shelfRestore := by
  unfold State.shelfRestore
  try dsimp only
  repeat' (first
    | with_reducible exact h | with_reducible apply State.wearShelf_kept | (simp only [kept_mk]; refine Kept.upd rfl ?_)
    | split)

theorem State.logFind_kept {bm bt : Bool} {s₀ s : State} (h : Kept bm bt s₀ s) : Kept bm bt s₀ s.logFind := by
  unfold State.logFind
  repeat' (first
    | with_reducible exact h | with_reducible apply State.set_kept | with_reducible apply ite_kept
    | (simp only [kept_mk]; refine Kept.upd rfl ?_))

theorem State.wearModule_kept {bm bt : Bool} {s₀ s : State} (l : List Byte) (h : Kept bm bt s₀ s) : Kept bm bt s₀ (s.wearModule l) := by
  unfold State.wearModule
  extract_lets cores tack z s1
  have h1 : Kept bm bt s₀ s1 := by
    show Kept bm bt s₀ (State.mk ..)
    simp only [kept_mk]
    exact Kept.upd rfl h (hrmt := fun hh => by simp only [Rmt.shaped] at hh; simp [Rmt.shaped, cores, tack, tableOf, hh, z])
  split
  · exact h1
  · refine forN_kept h1 fun i t => ?_
    dsimp only
    split
    · exact State.set_kept _ _ (State.set_kept _ _ (State.set_kept _ _ (Kept.refl t)))
    · exact State.set_kept _ _ (State.set_kept _ _ (Kept.refl t))

theorem State.wearPowerUp_kept {bm bt : Bool} {s₀ s : State} (h : Kept bm bt s₀ s) : Kept bm bt s₀ s.wearPowerUp := by
  unfold State.wearPowerUp
  repeat' (first
    | with_reducible exact h | with_reducible apply State.set_kept | with_reducible apply State.logFind_kept
    | with_reducible apply State.wearModule_kept | (simp only [kept_mk]; refine Kept.upd rfl ?_) | split)

/-! ### Journal -/

theorem State.setEs_kept {bm bt : Bool} {s₀ s : State} (x : Nat) (e : EstStr) (h : Kept bm bt s₀ s) :
    Kept bm bt s₀ (s.setEs x e) := by
  unfold State.setEs
  repeat' first | with_reducible exact h | (simp only [kept_mk]; refine Kept.upd rfl ?_)

theorem State.efcWrite_kept {bm bt : Bool} {s₀ s : State} (x : Nat) (v : Word) (h : Kept bm bt s₀ s) :
    Kept bm bt s₀ (s.efcWrite x v) := by
  unfold State.efcWrite
  repeat' (first
    | with_reducible exact h | with_reducible apply State.refuse_kept | with_reducible apply State.clear_kept
    | with_reducible apply State.wr_kept | with_reducible apply State.setEs_kept | with_reducible apply ite_kept)

theorem State.writeNow_kept {bm bt : Bool} {s₀ s : State} (h : Kept bm bt s₀ s) : Kept bm bt s₀ s.writeNow := by
  unfold State.writeNow
  repeat' first | with_reducible exact h | with_reducible apply State.clear_kept | with_reducible apply State.jnlTrigger_kept

theorem State.jnlFresh_kept {bm bt : Bool} {s₀ s : State} (x : Nat) (h : Kept bm bt s₀ s) : Kept bm bt s₀ (s.jnlFresh x) := by
  unfold State.jnlFresh
  repeat' first | with_reducible exact h | with_reducible apply State.setEs_kept

theorem State.startSetsRef_kept {bm bt : Bool} {s₀ s : State} (x : Nat) (h : Kept bm bt s₀ s) :
    Kept bm bt s₀ (s.startSetsRef x) := by
  unfold State.startSetsRef
  try dsimp only
  repeat' (first
    | with_reducible exact h | with_reducible exact Kept.refl _ | with_reducible apply State.setEs_kept
    | with_reducible apply State.wr64_kept | with_reducible apply ite_kept | intro _
    | (simp only [kept_mk]; refine Kept.upd rfl ?_) | split)

theorem State.startRef_kept {bm bt : Bool} {s₀ s : State} (x : Nat) (h : Kept bm bt s₀ s) :
    Kept bm bt s₀ (s.startRef x) := by
  unfold State.startRef
  try dsimp only
  repeat' (first
    | with_reducible exact h | with_reducible exact Kept.refl _ | with_reducible apply State.setEs_kept
    | with_reducible apply State.startSetsRef_kept | with_reducible apply ite_kept | intro _
    | (simp only [kept_mk]; refine Kept.upd rfl ?_) | split)

theorem State.jnlLoad_kept {bm bt : Bool} {s₀ s : State} (l : List Byte) (x : Nat) (h : Kept bm bt s₀ s) :
    Kept bm bt s₀ (s.jnlLoad l x) := by
  unfold State.jnlLoad
  repeat' (first
    | with_reducible exact h | with_reducible apply State.wrN_kept | with_reducible apply State.setEs_kept
    | with_reducible apply State.wr64_kept | with_reducible apply State.setI_kept)

theorem State.jnlPowerUp_kept {bm bt : Bool} {s₀ s : State} (h : Kept bm bt s₀ s) : Kept bm bt s₀ s.jnlPowerUp := by
  unfold State.jnlPowerUp
  repeat' first | with_reducible exact h | with_reducible apply State.wrN_kept | with_reducible apply State.set_kept | split

theorem State.mramFailed_kept {bm bt : Bool} {s₀ s : State} (sector : Nat) (h : Kept bm bt s₀ s) :
    Kept bm bt s₀ (s.mramFailed sector) := by
  unfold State.mramFailed
  repeat' first | with_reducible exact h | (simp only [kept_mk]; refine Kept.upd rfl ?_)

theorem State.restoreLearned_kept {bm bt : Bool} {s₀ s : State} (h : Kept bm bt s₀ s) : Kept bm bt s₀ s.restoreLearned := by
  unfold State.restoreLearned
  try dsimp only
  repeat' (first
    | with_reducible exact h | with_reducible exact Kept.refl _ | with_reducible apply State.jnlLoad_kept
    | with_reducible apply State.startSetsRef_kept | with_reducible apply State.set_kept
    | with_reducible apply State.jnlFresh_kept | with_reducible apply State.raise_kept | with_reducible apply ite_kept
    | intro _ | (simp only [kept_mk]; refine Kept.upd rfl ?_) | split)

/-! ### Ring -/

theorem State.setRs_kept {bm bt : Bool} {s₀ s : State} (x : Nat) (r : RStr) (h : Kept bm bt s₀ s) :
    Kept bm bt s₀ (s.setRs x r) := by
  unfold State.setRs
  repeat' first | with_reducible exact h | (simp only [kept_mk]; refine Kept.upd rfl ?_)

theorem State.ringEvt_kept {bm bt : Bool} {s₀ s : State} (x : Nat) (f : Nat → Field) (coded : Bool) (h : Kept bm bt s₀ s) :
    Kept bm bt s₀ (s.ringEvt x f coded) := by
  unfold State.ringEvt
  repeat' (first
    | with_reducible exact h | with_reducible apply State.raiseBit_kept | with_reducible apply State.record_kept
    | with_reducible apply ite_kept)

theorem State.enumFail_kept {bm bt : Bool} {s₀ s : State} (x cause : Nat) (h : Kept bm bt s₀ s) :
    Kept bm bt s₀ (s.enumFail x cause) := by
  unfold State.enumFail
  repeat' (first
    | with_reducible exact h | with_reducible apply State.ringEvt_kept | with_reducible apply State.set_kept
    | with_reducible apply State.armFail_kept | with_reducible apply ite_kept)

theorem State.avgStep_kept {bm bt : Bool} {s₀ s : State} (i : Sweep) (x : Nat) (h : Kept bm bt s₀ s) :
    Kept bm bt s₀ (s.avgStep i x) := by
  unfold State.avgStep
  try dsimp only
  repeat' (first
    | with_reducible exact h | with_reducible exact Kept.refl _ | with_reducible apply State.setRs_kept
    | with_reducible apply State.enumFail_kept | with_reducible apply State.startRef_kept
    | with_reducible apply State.set_kept | with_reducible apply State.ringEvt_kept | with_reducible apply ite_kept
    | intro _ | (simp only [kept_mk]; refine Kept.upd rfl ?_) | split)

theorem State.showQueued_kept {bm bt : Bool} {s₀ s : State} (h : Kept bm bt s₀ s) : Kept bm bt s₀ s.showQueued := by
  unfold State.showQueued
  repeat' first | with_reducible exact h | with_reducible apply State.set_kept

theorem State.queueBal_kept {bm bt : Bool} {s₀ s : State} (x : Nat) (e : BalEnt) (h : Kept bm bt s₀ s) :
    Kept bm bt s₀ (s.queueBal x e) := by
  unfold State.queueBal
  repeat' (first
    | with_reducible exact h | with_reducible apply State.verbose_kept | with_reducible apply State.showQueued_kept
    | with_reducible apply State.setRs_kept)

theorem State.balRefuse_kept {bm bt : Bool} {s₀ s : State} (cause : Nat) (h : Kept bm bt s₀ s) :
    Kept bm bt s₀ (s.balRefuse cause) := by
  unfold State.balRefuse
  repeat' first | with_reducible exact h | with_reducible apply State.raiseBit_kept | with_reducible apply State.set_kept

theorem State.balCmd_kept {bm bt : Bool} {s₀ s : State} (v : Word) (h : Kept bm bt s₀ s) : Kept bm bt s₀ (s.balCmd v) := by
  unfold State.balCmd
  repeat' (first
    | with_reducible exact h | with_reducible apply State.queueBal_kept | with_reducible apply State.balRefuse_kept
    | with_reducible apply ite_kept)

theorem State.balOff_kept {bm bt : Bool} {s₀ s : State} (x pos : Nat) (h : Kept bm bt s₀ s) : Kept bm bt s₀ (s.balOff x pos) := by
  unfold State.balOff
  repeat' first | with_reducible exact h | with_reducible apply State.queueBal_kept | with_reducible apply ite_kept

theorem State.balDisable_kept {bm bt : Bool} {s₀ s : State} (h : Kept bm bt s₀ s) : Kept bm bt s₀ s.balDisable := by
  unfold State.balDisable
  repeat' (first
    | with_reducible exact h | with_reducible exact Kept.refl _ | with_reducible apply forN_kept
    | with_reducible apply State.balOff_kept | with_reducible apply State.clear_kept | intro _)

theorem State.owBusy_kept {bm bt : Bool} {s₀ s : State} (h : Kept bm bt s₀ s) : Kept bm bt s₀ s.owBusy := by
  unfold State.owBusy
  try dsimp only
  repeat' (first
    | with_reducible exact h | with_reducible exact Kept.refl _ | with_reducible apply State.setB_kept | intro _
    | split)

theorem State.owShow_kept {bm bt : Bool} {s₀ s : State} (x : Nat) (q : OwReq) (isOpen aborted : Bool) (h : Kept bm bt s₀ s) :
    Kept bm bt s₀ (s.owShow x q isOpen aborted) := by
  unfold State.owShow
  try dsimp only
  repeat' (first
    | with_reducible exact h | with_reducible exact Kept.refl _ | with_reducible apply State.set_kept
    | with_reducible apply State.setB_kept | with_reducible apply State.owBusy_kept | intro _ | split)

theorem State.policyCell_kept {bm bt : Bool} {s₀ s : State} (x p : Nat) (h : Kept bm bt s₀ s) :
    Kept bm bt s₀ (State.policyCell x p s) := by
  unfold State.policyCell
  repeat' (first
    | with_reducible exact h | with_reducible apply State.setRs_kept | with_reducible apply State.queueBal_kept
    | with_reducible apply ite_kept)

theorem State.balPolicy_kept {bm bt : Bool} {s₀ s : State} (x : Nat) (h : Kept bm bt s₀ s) : Kept bm bt s₀ (s.balPolicy x) := by
  unfold State.balPolicy
  repeat' (first
    | with_reducible exact h | with_reducible exact Kept.refl _ | with_reducible apply forN_kept
    | with_reducible apply State.policyCell_kept | with_reducible apply ite_kept | intro _)

theorem State.balStop_kept {bm bt : Bool} {s₀ s : State} (x m : Nat) (h : Kept bm bt s₀ s) : Kept bm bt s₀ (s.balStop x m) := by
  unfold State.balStop
  repeat' (first
    | with_reducible exact h | with_reducible exact Kept.refl _ | with_reducible apply forL_kept
    | with_reducible apply State.balOff_kept | intro _)

theorem State.devEnds_kept {bm bt : Bool} {s₀ s : State} (x p : Nat) (h : Kept bm bt s₀ s) : Kept bm bt s₀ (s.devEnds x p) := by
  unfold State.devEnds
  repeat' (first
    | with_reducible exact h | with_reducible apply State.unraise_kept | with_reducible apply State.setRs_kept
    | with_reducible apply ite_kept)

theorem State.candStep_kept {bm bt : Bool} {s₀ s : State} (i : Sweep) (x p : Nat) (h : Kept bm bt s₀ s) :
    Kept bm bt s₀ (State.candStep i x p s) := by
  unfold State.candStep
  try dsimp only
  repeat' (first
    | with_reducible exact h | with_reducible exact Kept.refl _ | with_reducible apply State.setRs_kept
    | with_reducible apply State.set_kept | with_reducible apply State.devEnds_kept | with_reducible apply ite_kept
    | intro _ | (simp only [kept_mk]; refine Kept.upd rfl ?_) | split)

theorem State.candCheck_kept {bm bt : Bool} {s₀ s : State} (i : Sweep) (x : Nat) (h : Kept bm bt s₀ s) :
    Kept bm bt s₀ (s.candCheck i x) := by
  unfold State.candCheck
  try dsimp only
  repeat' (first
    | with_reducible exact h | with_reducible exact Kept.refl _ | with_reducible apply State.candStep_kept
    | with_reducible apply forN_kept | with_reducible apply ite_kept | intro _ | split)

theorem State.queueFrame_kept {bm bt : Bool} {s₀ s : State} (x kind dest : Nat) (payload : List Byte) (h : Kept bm bt s₀ s) :
    Kept bm bt s₀ (s.queueFrame x kind dest payload) := by
  unfold State.queueFrame
  repeat' first | with_reducible exact h | with_reducible apply State.setRs_kept

theorem State.queueFront_kept {bm bt : Bool} {s₀ s : State} (x kind dest : Nat) (payload : List Byte) (h : Kept bm bt s₀ s) :
    Kept bm bt s₀ (s.queueFront x kind dest payload) := by
  unfold State.queueFront
  try dsimp only
  repeat' (first
    | with_reducible exact h | with_reducible exact Kept.refl _ | with_reducible apply State.setRs_kept | intro _
    | (simp only [kept_mk]; refine Kept.upd rfl ?_) | split)

theorem State.owFrame_kept {bm bt : Bool} {s₀ s : State} (x m w : Nat) (on : Bool) (h : Kept bm bt s₀ s) :
    Kept bm bt s₀ (s.owFrame x m w on) := by
  unfold State.owFrame
  try dsimp only
  repeat' (first
    | with_reducible exact h | with_reducible exact Kept.refl _ | with_reducible apply State.queueFront_kept | intro _
    | split)

theorem State.cornerWrite_kept {bm bt : Bool} {s₀ s : State} (v : Nat) (h : Kept bm bt s₀ s) :
    Kept bm bt s₀ (s.cornerWrite v) := by
  unfold State.cornerWrite
  repeat' (first
    | with_reducible exact h | with_reducible exact Kept.refl _ | with_reducible apply State.set_kept
    | with_reducible apply forN_kept | with_reducible apply State.queueFrame_kept | with_reducible apply State.setRs_kept
    | with_reducible apply ite_kept | intro _)

theorem State.crcCheck_kept {bm bt : Bool} {s₀ s : State} (i : Sweep) (x : Nat) (h : Kept bm bt s₀ s) :
    Kept bm bt s₀ (s.crcCheck i x) := by
  unfold State.crcCheck
  try dsimp only
  repeat' (first
    | with_reducible exact h | with_reducible exact Kept.refl _ | with_reducible apply State.bumpSat_kept
    | with_reducible apply State.ringEvt_kept | with_reducible apply ite_kept | intro _ | split)

theorem State.sendRing_kept {bm bt : Bool} {s₀ s : State} (x e kind dest : Nat) (payload : List Byte) (h : Kept bm bt s₀ s) :
    Kept bm bt s₀ (s.sendRing x e kind dest payload) := by
  unfold State.sendRing
  repeat' first | with_reducible exact h | with_reducible apply State.emit_kept

theorem State.enumVerified_kept {bm bt : Bool} {s₀ s : State} (x : Nat) (recs : List EnumRec) (h : Kept bm bt s₀ s) :
    Kept bm bt s₀ (s.enumVerified x recs) := by
  unfold State.enumVerified
  repeat' (first
    | with_reducible exact h | with_reducible exact Kept.refl _ | with_reducible apply forN_kept
    | with_reducible apply State.set_kept | with_reducible apply State.wrN_kept | with_reducible apply State.setRs_kept
    | with_reducible apply State.wr_kept | with_reducible apply State.shelfRestore_kept | with_reducible apply ite_kept
    | intro _)

theorem State.sendFrom_kept {bm bt : Bool} {s₀ s : State} (x : Nat) (ends : List Nat) (kind dest : Nat) (payload : List Byte) (h : Kept bm bt s₀ s) :
    Kept bm bt s₀ (s.sendFrom x ends kind dest payload) := by
  unfold State.sendFrom
  try dsimp only
  repeat' (first
    | with_reducible exact h | with_reducible exact Kept.refl _ | with_reducible apply State.sendRing_kept
    | with_reducible apply forL_kept | intro _ | split)

theorem State.firstSweep_kept {bm bt : Bool} {s₀ s : State} (i : Sweep) (x : Nat) (h : Kept bm bt s₀ s) :
    Kept bm bt s₀ (s.firstSweep i x) := by
  unfold State.firstSweep
  try dsimp only
  repeat' (first
    | with_reducible exact h | with_reducible exact Kept.refl _ | with_reducible apply State.setRs_kept
    | with_reducible apply State.enumFail_kept | with_reducible apply State.setRole_kept
    | with_reducible apply forN_kept | with_reducible apply ite_kept | intro _
    | (simp only [kept_mk]; refine Kept.upd rfl ?_) | split)

theorem State.limitEvts_kept {bm bt : Bool} {s₀ s : State} (x p : Nat) (l : List Bool) (h : Kept bm bt s₀ s) :
    Kept bm bt s₀ (s.limitEvts x p l) := by
  unfold State.limitEvts
  try dsimp only
  repeat' (first
    | with_reducible exact h | with_reducible exact Kept.refl _ | with_reducible apply State.ringEvt_kept
    | with_reducible apply ite_kept | intro _ | split)

theorem State.raiseOnce_kept {bm bt : Bool} {s₀ s : State} (code idx : Nat) (m x4 : Int) (h : Kept bm bt s₀ s) :
    Kept bm bt s₀ (s.raiseOnce code idx m x4) := by
  unfold State.raiseOnce
  repeat' first | with_reducible exact h | with_reducible apply State.raise_kept | with_reducible apply ite_kept

theorem State.faultChan_kept {bm bt : Bool} {s₀ s : State} (n code : Nat) (m t : Int) (h : Kept bm bt s₀ s) :
    Kept bm bt s₀ (s.faultChan n code m t) := by
  unfold State.faultChan
  try dsimp only
  repeat' (first
    | with_reducible exact h | with_reducible exact Kept.refl _ | with_reducible apply State.setChan_kept
    | with_reducible apply State.enterFaulted_kept | with_reducible apply State.afterChans_kept
    | with_reducible apply State.raiseOnce_kept | with_reducible apply ite_kept | intro _
    | (simp only [kept_mk]; refine Kept.upd rfl ?_) | split)

theorem State.limitCodes_kept {bm bt : Bool} {s₀ s : State} (x p : Nat) (trip warn : Bool) (v : Nat) (h : Kept bm bt s₀ s) :
    Kept bm bt s₀ (s.limitCodes x p trip warn v) := by
  unfold State.limitCodes
  repeat' (first
    | with_reducible exact h | with_reducible apply State.raiseOnce_kept | with_reducible apply State.unraise_kept
    | with_reducible apply ite_kept)

theorem State.warnCancel_kept {bm bt : Bool} {s₀ s : State} (x p : Nat) (hi lo : Bool) (h : Kept bm bt s₀ s) :
    Kept bm bt s₀ (s.warnCancel x p hi lo) := by
  unfold State.warnCancel
  repeat' first | with_reducible exact h | with_reducible apply State.queueBal_kept | with_reducible apply ite_kept

theorem State.limitCell_kept {bm bt : Bool} {s₀ s : State} (i : Sweep) (x p : Nat) (h : Kept bm bt s₀ s) :
    Kept bm bt s₀ (State.limitCell i x p s) := by
  unfold State.limitCell
  try dsimp only
  repeat' (first
    | with_reducible exact h | with_reducible exact Kept.refl _ | with_reducible apply State.setRs_kept
    | with_reducible apply State.set_kept | with_reducible apply State.setB_kept
    | with_reducible apply State.limitEvts_kept | with_reducible apply State.warnCancel_kept
    | with_reducible apply State.limitCodes_kept | with_reducible apply ite_kept | intro _
    | (simp only [kept_mk]; refine Kept.upd rfl ?_) | split)

theorem State.swapFailed_kept {bm bt : Bool} {s₀ s : State} (x cause : Nat) (h : Kept bm bt s₀ s) :
    Kept bm bt s₀ (s.swapFailed x cause) := by
  unfold State.swapFailed
  repeat' (first
    | with_reducible exact h | with_reducible apply State.set_kept | with_reducible apply State.raise_kept
    | with_reducible apply State.ringEvt_kept | with_reducible apply ite_kept)

theorem State.swapRoles_kept {bm bt : Bool} {s₀ s : State} (x a ra b rb : Nat) (h : Kept bm bt s₀ s) :
    Kept bm bt s₀ (s.swapRoles x a ra b rb) := by
  unfold State.swapRoles
  try dsimp only
  repeat' (first
    | with_reducible exact h | with_reducible exact Kept.refl _ | with_reducible apply State.setRole_kept | intro _
    | split)

theorem State.swapRequest_kept {bm bt : Bool} {s₀ s : State} (x i o : Nat) (h : Kept bm bt s₀ s) :
    Kept bm bt s₀ (s.swapRequest x i o) := by
  unfold State.swapRequest
  repeat' (first
    | with_reducible exact h | with_reducible apply State.set_kept | with_reducible apply State.swapFailed_kept
    | with_reducible apply State.setRs_kept | with_reducible apply State.balStop_kept
    | with_reducible apply State.swapRoles_kept | with_reducible apply ite_kept)

theorem State.monBack_kept {bm bt : Bool} {s₀ s : State} (x m : Nat) (h : Kept bm bt s₀ s) : Kept bm bt s₀ (s.monBack x m) := by
  unfold State.monBack
  repeat' (first
    | with_reducible exact h | with_reducible apply State.set_kept | with_reducible apply State.setRs_kept
    | with_reducible apply State.ringEvt_kept)

theorem State.monAway_kept {bm bt : Bool} {s₀ s : State} (x m : Nat) (live : Bool) (h : Kept bm bt s₀ s) :
    Kept bm bt s₀ (s.monAway x m live) := by
  unfold State.monAway
  repeat' (first
    | with_reducible exact h | with_reducible apply State.monBack_kept | with_reducible apply State.setRs_kept
    | with_reducible apply State.raiseOnce_kept | with_reducible apply ite_kept)

theorem State.monLost_kept {bm bt : Bool} {s₀ s : State} (x m : Nat) (h : Kept bm bt s₀ s) : Kept bm bt s₀ (s.monLost x m) := by
  unfold State.monLost
  repeat' (first
    | with_reducible exact h | with_reducible apply State.set_kept | with_reducible apply State.setRs_kept
    | with_reducible apply State.ringEvt_kept)

theorem State.monResult_kept {bm bt : Bool} {s₀ s : State} (x m : Nat) (t : Slot) (h : Kept bm bt s₀ s) :
    Kept bm bt s₀ (s.monResult x m t) := by
  unfold State.monResult
  try dsimp only
  repeat' (first
    | with_reducible exact h | with_reducible exact Kept.refl _ | with_reducible apply State.setRs_kept
    | with_reducible apply State.balRefuse_kept | with_reducible apply ite_kept | intro _
    | (simp only [kept_mk]; refine Kept.upd rfl ?_) | split)

theorem State.monShow_kept {bm bt : Bool} {s₀ s : State} (x m : Nat) (t : Slot) (h : Kept bm bt s₀ s) :
    Kept bm bt s₀ (s.monShow x m t) := by
  unfold State.monShow
  try dsimp only
  repeat' (first
    | with_reducible exact h | with_reducible exact Kept.refl _ | with_reducible apply State.setRs_kept
    | with_reducible apply State.set_kept | with_reducible apply State.ringEvt_kept
    | with_reducible apply State.raise_kept | with_reducible apply State.unraise_kept | with_reducible apply ite_kept
    | intro _ | (simp only [kept_mk]; refine Kept.upd rfl ?_) | split)

theorem State.monStep_kept {bm bt : Bool} {s₀ s : State} (i : Sweep) (x m : Nat) (h : Kept bm bt s₀ s) :
    Kept bm bt s₀ (State.monStep i x m s) := by
  unfold State.monStep
  try dsimp only
  repeat' (first
    | with_reducible exact h | with_reducible exact Kept.refl _ | with_reducible apply State.monAway_kept
    | with_reducible apply State.setRs_kept | with_reducible apply State.set_kept
    | with_reducible apply State.monLost_kept | with_reducible apply State.monShow_kept
    | with_reducible apply State.monResult_kept | with_reducible apply ite_kept | intro _
    | (simp only [kept_mk]; refine Kept.upd rfl ?_) | split)

theorem State.owAbort_kept {bm bt : Bool} {s₀ s : State} (x : Nat) (h : Kept bm bt s₀ s) : Kept bm bt s₀ (s.owAbort x) := by
  unfold State.owAbort
  try dsimp only
  repeat' (first
    | with_reducible exact h | with_reducible exact Kept.refl _ | with_reducible apply State.setRs_kept
    | with_reducible apply State.owFrame_kept | with_reducible apply State.owShow_kept | with_reducible apply ite_kept
    | intro _ | (simp only [kept_mk]; refine Kept.upd rfl ?_) | split)

theorem State.enumEnds_kept {bm bt : Bool} {s₀ s : State} (x : Nat) (h : Kept bm bt s₀ s) :
    Kept bm bt s₀ (s.enumEnds x) := by
  unfold State.enumEnds
  try dsimp only
  repeat' (first
    | with_reducible exact h | with_reducible exact Kept.refl _ | with_reducible apply State.unraise_kept
    | with_reducible apply forN_kept | with_reducible apply forL_kept | intro _ | split)

theorem State.enumStart_kept {bm bt : Bool} {s₀ s : State} (x : Nat) (h : Kept bm bt s₀ s) :
    Kept bm bt s₀ (s.enumStart x) := by
  unfold State.enumStart
  try dsimp only
  repeat' (first
    | with_reducible exact h | with_reducible exact Kept.refl _ | with_reducible apply State.owAbort_kept
    | with_reducible apply State.enumEnds_kept | with_reducible apply State.setRs_kept
    | with_reducible apply State.wrN_kept | with_reducible apply State.set_kept | with_reducible apply State.wr_kept
    | with_reducible apply State.sendRing_kept | with_reducible apply State.showQueued_kept
    | with_reducible apply forN_kept | intro _ | split)

theorem State.enumRequest_kept {bm bt : Bool} {s₀ s : State} (x : Nat) (h : Kept bm bt s₀ s) :
    Kept bm bt s₀ (s.enumRequest x) := by
  unfold State.enumRequest
  repeat' (first
    | with_reducible exact h | with_reducible apply State.clear_kept | with_reducible apply State.enumStart_kept
    | with_reducible apply State.ringEvt_kept | with_reducible apply ite_kept)

theorem State.owClear_kept {bm bt : Bool} {s₀ s : State} (x p : Nat) (h : Kept bm bt s₀ s) : Kept bm bt s₀ (s.owClear x p) := by
  unfold State.owClear
  repeat' (first
    | with_reducible exact h | with_reducible apply State.unraise_kept | with_reducible apply State.setRs_kept
    | with_reducible apply ite_kept)

theorem State.owDev_kept {bm bt : Bool} {s₀ s : State} (x p : Nat) (h : Kept bm bt s₀ s) : Kept bm bt s₀ (s.owDev x p) := by
  unfold State.owDev
  repeat' (first
    | with_reducible exact h | with_reducible apply State.ringEvt_kept | with_reducible apply State.setRs_kept
    | with_reducible apply State.raiseOnce_kept)

theorem State.owSuspect_kept {bm bt : Bool} {s₀ s : State} (x p : Nat) (h : Kept bm bt s₀ s) :
    Kept bm bt s₀ (s.owSuspect x p) := by
  unfold State.owSuspect
  repeat' (first
    | with_reducible exact h | with_reducible apply State.ringEvt_kept | with_reducible apply State.setRs_kept
    | with_reducible apply State.raiseOnce_kept)

theorem State.owNext_kept {bm bt : Bool} {s₀ s : State} (x : Nat) (h : Kept bm bt s₀ s) : Kept bm bt s₀ (s.owNext x) := by
  unfold State.owNext
  try dsimp only
  repeat' (first
    | with_reducible exact h | with_reducible exact Kept.refl _ | with_reducible apply State.setRs_kept
    | with_reducible apply State.balStop_kept | with_reducible apply State.owBusy_kept | with_reducible apply ite_kept
    | intro _ | (simp only [kept_mk]; refine Kept.upd rfl ?_) | split)

theorem State.pairShow_kept {bm bt : Bool} {s₀ s : State} (i : Sweep) (x p : Nat) (h : Kept bm bt s₀ s) :
    Kept bm bt s₀ (s.pairShow i x p) := by
  unfold State.pairShow
  try dsimp only
  repeat' (first
    | with_reducible exact h | with_reducible exact Kept.refl _ | with_reducible apply State.setB_kept
    | with_reducible apply State.clear_kept | with_reducible apply State.set_kept | with_reducible apply forL_kept
    | with_reducible apply ite_kept | intro _ | (simp only [kept_mk]; refine Kept.upd rfl ?_) | split)

theorem State.owEnd_kept {bm bt : Bool} {s₀ s : State} (i : Sweep) (x : Nat) (t : OwTest) (h : Kept bm bt s₀ s) :
    Kept bm bt s₀ (s.owEnd i x t) := by
  unfold State.owEnd
  try dsimp only
  repeat' (first
    | with_reducible exact h | with_reducible exact Kept.refl _ | with_reducible apply State.setRs_kept
    | with_reducible apply State.setI_kept | with_reducible apply State.owShow_kept
    | with_reducible apply State.owSuspect_kept | with_reducible apply State.owClear_kept
    | with_reducible apply State.owDev_kept | with_reducible apply State.pairShow_kept | with_reducible apply ite_kept
    | intro _ | (simp only [kept_mk]; refine Kept.upd rfl ?_) | split)

theorem State.owQueue_kept {bm bt : Bool} {s₀ s : State} (x m w src : Nat) (h : Kept bm bt s₀ s) :
    Kept bm bt s₀ (s.owQueue x m w src) := by
  unfold State.owQueue
  repeat' first | with_reducible exact h | with_reducible apply State.setRs_kept

theorem State.owStart_kept {bm bt : Bool} {s₀ s : State} (h : Kept bm bt s₀ s) : Kept bm bt s₀ s.owStart := by
  unfold State.owStart
  repeat' (first
    | with_reducible exact h | with_reducible apply State.clear_kept | with_reducible apply State.owQueue_kept
    | with_reducible apply State.refuse_kept | with_reducible apply ite_kept)

theorem State.owSweep_kept {bm bt : Bool} {s₀ s : State} (i : Sweep) (x : Nat) (t : OwTest) (r : Option (Nat × Nat)) (h : Kept bm bt s₀ s) :
    Kept bm bt s₀ (s.owSweep i x t r) := by
  unfold State.owSweep
  try dsimp only
  repeat' (first
    | with_reducible exact h | with_reducible exact Kept.refl _ | with_reducible apply State.setRs_kept
    | with_reducible apply State.owFrame_kept | with_reducible apply State.owEnd_kept | with_reducible apply ite_kept
    | intro _ | (simp only [kept_mk]; refine Kept.upd rfl ?_) | split)

theorem State.owStep_kept {bm bt : Bool} {s₀ s : State} (i : Sweep) (split : Bool) (x : Nat) (h : Kept bm bt s₀ s) :
    Kept bm bt s₀ (s.owStep i split x) := by
  unfold State.owStep
  try dsimp only
  repeat' (first
    | with_reducible exact h | with_reducible exact Kept.refl _ | with_reducible apply State.owNext_kept
    | with_reducible apply State.owAbort_kept | with_reducible apply State.owSweep_kept | with_reducible apply ite_kept
    | intro _ | (simp only [kept_mk]; refine Kept.upd rfl ?_) | split)

theorem State.recovStep_kept {bm bt : Bool} {s₀ s : State} (i : Sweep) (x m : Nat) (h : Kept bm bt s₀ s) :
    Kept bm bt s₀ (State.recovStep i x m s) := by
  unfold State.recovStep
  try dsimp only
  repeat' (first
    | with_reducible exact h | with_reducible exact Kept.refl _ | with_reducible apply State.setRs_kept
    | with_reducible apply State.set_kept | with_reducible apply ite_kept | intro _
    | (simp only [kept_mk]; refine Kept.upd rfl ?_) | split)

theorem State.ringKick_kept {bm bt : Bool} {s₀ s : State} (h : Kept bm bt s₀ s) : Kept bm bt s₀ s.ringKick := by
  unfold State.ringKick
  repeat' first | with_reducible exact h | (simp only [kept_mk]; refine Kept.upd rfl ?_)

theorem State.ringLost_kept {bm bt : Bool} {s₀ s : State} (x : Nat) (h : Kept bm bt s₀ s) :
    Kept bm bt s₀ (s.ringLost x) := by
  unfold State.ringLost
  try dsimp only
  repeat' (first
    | with_reducible exact h | with_reducible exact Kept.refl _ | with_reducible apply State.set_kept
    | with_reducible apply State.raiseOnce_kept | with_reducible apply State.split_kept | with_reducible apply ite_kept
    | intro _ | split)

theorem State.cellFlags_kept {bm bt : Bool} {s₀ s : State} (x p : Nat) (recov : Bool) (h : Kept bm bt s₀ s) :
    Kept bm bt s₀ (s.cellFlags x p recov) := by
  unfold State.cellFlags
  try dsimp only
  repeat' (first
    | with_reducible exact h | with_reducible exact Kept.refl _ | with_reducible apply State.setB_kept
    | with_reducible apply State.set_kept | intro _ | split)

theorem State.cellStale_kept {bm bt : Bool} {s₀ s : State} (x p : Nat) (h : Kept bm bt s₀ s) :
    Kept bm bt s₀ (s.cellStale x p) := by
  unfold State.cellStale
  try dsimp only
  repeat' (first
    | with_reducible exact h | with_reducible exact Kept.refl _ | with_reducible apply State.clear_kept
    | with_reducible apply State.set_kept | with_reducible apply State.bumpSat_kept
    | with_reducible apply State.cellFlags_kept | intro _ | split)

theorem State.cellFresh_kept {bm bt : Bool} {s₀ s : State} (i : Sweep) (split : Bool) (x p v : Nat) (t : Slot) (h : Kept bm bt s₀ s) :
    Kept bm bt s₀ (s.cellFresh i split x p v t) := by
  unfold State.cellFresh
  try dsimp only
  repeat' (first
    | with_reducible exact h | with_reducible exact Kept.refl _ | with_reducible apply State.setB_kept
    | with_reducible apply State.clear_kept | with_reducible apply State.cellFlags_kept
    | with_reducible apply State.set_kept | with_reducible apply State.setI_kept | with_reducible apply ite_kept
    | intro _ | split)

theorem State.cellStep_kept {bm bt : Bool} {s₀ s : State} (i : Sweep) (split : Bool) (x p : Nat) (h : Kept bm bt s₀ s) :
    Kept bm bt s₀ (State.cellStep i split x p s) := by
  unfold State.cellStep
  try dsimp only
  repeat' (first
    | with_reducible exact h | with_reducible exact Kept.refl _ | with_reducible apply State.cellStale_kept
    | with_reducible apply State.cellFresh_kept | with_reducible apply ite_kept | intro _
    | (simp only [kept_mk]; refine Kept.upd rfl ?_) | split)

theorem State.sendBalance_kept {bm bt : Bool} {s₀ s : State} (x : Nat) (ends : List Nat) (h : Kept bm bt s₀ s) :
    Kept bm bt s₀ (s.sendBalance x ends) := by
  unfold State.sendBalance
  try dsimp only
  repeat' (first
    | with_reducible exact h | with_reducible exact Kept.refl _ | with_reducible apply State.sendFrom_kept
    | with_reducible apply State.setRs_kept | with_reducible apply State.showQueued_kept | intro _
    | (simp only [kept_mk]; refine Kept.upd rfl ?_) | split)

theorem State.sendNext_kept {bm bt : Bool} {s₀ s : State} (x : Nat) (ends : List Nat) (h : Kept bm bt s₀ s) :
    Kept bm bt s₀ (s.sendNext x ends) := by
  unfold State.sendNext
  try dsimp only
  repeat' (first
    | with_reducible exact h | with_reducible exact Kept.refl _ | with_reducible apply State.setRs_kept
    | with_reducible apply State.sendFrom_kept | with_reducible apply State.sendBalance_kept
    | with_reducible apply ite_kept | intro _ | (simp only [kept_mk]; refine Kept.upd rfl ?_) | split)

theorem State.sendCmds_kept {bm bt : Bool} {s₀ s : State} (x k : Nat) (h : Kept bm bt s₀ s) :
    Kept bm bt s₀ (State.sendCmds x k s) := by
  induction k generalizing s with
  | zero => exact h
  | succ k ih => exact ih (State.sendNext_kept _ _ h)

theorem State.splitCmds_kept {bm bt : Bool} {s₀ s : State} (x : Nat) (h : Kept bm bt s₀ s) :
    Kept bm bt s₀ (s.splitCmds x) := by
  unfold State.splitCmds
  try dsimp only
  repeat' (first
    | with_reducible exact h | with_reducible exact Kept.refl _ | with_reducible apply State.sendNext_kept
    | with_reducible apply ite_kept | intro _ | split)

theorem State.showBalancing_kept {bm bt : Bool} {s₀ s : State} (i : Sweep) (x : Nat) (h : Kept bm bt s₀ s) :
    Kept bm bt s₀ (s.showBalancing i x) := by
  unfold State.showBalancing
  try dsimp only
  repeat' (first
    | with_reducible exact h | with_reducible exact Kept.refl _ | with_reducible apply State.set_kept
    | with_reducible apply ite_kept | intro _ | split)

theorem State.sumCheck_kept {bm bt : Bool} {s₀ s : State} (x : Nat) (h : Kept bm bt s₀ s) : Kept bm bt s₀ (s.sumCheck x) := by
  unfold State.sumCheck
  repeat' (first
    | with_reducible exact h | with_reducible apply State.setRs_kept | with_reducible apply State.set_kept
    | with_reducible apply State.setI_kept | with_reducible apply State.unraise_kept
    | with_reducible apply State.raise_kept | with_reducible apply State.ringEvt_kept | with_reducible apply ite_kept)

theorem State.swapFrame_kept {bm bt : Bool} {s₀ s : State} (x i o : Nat) (h : Kept bm bt s₀ s) :
    Kept bm bt s₀ (s.swapFrame x i o) := by
  unfold State.swapFrame
  try dsimp only
  repeat' (first
    | with_reducible exact h | with_reducible exact Kept.refl _ | with_reducible apply State.queueFront_kept | intro _
    | split)

theorem State.swapSend_kept {bm bt : Bool} {s₀ s : State} (x : Nat) (h : Kept bm bt s₀ s) :
    Kept bm bt s₀ (s.swapSend x) := by
  unfold State.swapSend
  try dsimp only
  repeat' (first
    | with_reducible exact h | with_reducible exact Kept.refl _ | with_reducible apply State.setRs_kept
    | with_reducible apply State.swapFrame_kept | with_reducible apply ite_kept | intro _
    | (simp only [kept_mk]; refine Kept.upd rfl ?_) | split)

theorem State.endTwo_kept {bm bt : Bool} {s₀ s : State} (x : Nat) (h : Kept bm bt s₀ s) : Kept bm bt s₀ (s.endTwo x) := by
  unfold State.endTwo
  try dsimp only
  repeat' (first
    | with_reducible exact h | with_reducible exact Kept.refl _ | with_reducible apply State.setRs_kept
    | with_reducible apply State.swapSend_kept | with_reducible apply State.sendCmds_kept
    | with_reducible apply State.sendRing_kept | with_reducible apply ite_kept | intro _
    | (simp only [kept_mk]; refine Kept.upd rfl ?_) | split)

theorem State.execSent_kept {bm bt : Bool} {s₀ s : State} (x : Nat) (h : Kept bm bt s₀ s) :
    Kept bm bt s₀ (s.execSent x) := by
  unfold State.execSent
  try dsimp only
  repeat' (first
    | with_reducible exact h | with_reducible exact Kept.refl _ | with_reducible apply State.setRs_kept
    | with_reducible apply ite_kept | intro _ | (simp only [kept_mk]; refine Kept.upd rfl ?_) | split)

theorem State.swapDone_kept {bm bt : Bool} {s₀ s : State} (x a o : Nat) (h : Kept bm bt s₀ s) :
    Kept bm bt s₀ (s.swapDone x a o) := by
  unfold State.swapDone
  repeat' (first
    | with_reducible exact h | with_reducible apply State.ringEvt_kept | with_reducible apply State.set_kept
    | with_reducible apply State.swapRoles_kept | with_reducible apply State.jnlTrigger_kept
    | (simp only [kept_mk]; refine Kept.upd rfl ?_))

theorem State.swapStep_kept {bm bt : Bool} {s₀ s : State} (i : Sweep) (split : Bool) (x : Nat) (h : Kept bm bt s₀ s) :
    Kept bm bt s₀ (s.swapStep i split x) := by
  unfold State.swapStep
  try dsimp only
  repeat' (first
    | with_reducible exact h | with_reducible exact Kept.refl _ | with_reducible apply State.set_kept
    | with_reducible apply State.setRs_kept | with_reducible apply State.swapDone_kept | with_reducible apply ite_kept
    | intro _ | (simp only [kept_mk]; refine Kept.upd rfl ?_) | split)

theorem State.sweepChecks_kept {bm bt : Bool} {s₀ s : State} (i : Sweep) (split : Bool) (x : Nat) (h : Kept bm bt s₀ s) :
    Kept bm bt s₀ (s.sweepChecks i split x) := by
  unfold State.sweepChecks
  try dsimp only
  repeat' (first
    | with_reducible exact h | with_reducible exact Kept.refl _ | with_reducible apply State.sumCheck_kept
    | with_reducible apply State.limitCell_kept | with_reducible apply State.candCheck_kept
    | with_reducible apply State.owStep_kept | with_reducible apply State.swapStep_kept
    | with_reducible apply State.avgStep_kept | with_reducible apply State.showBalancing_kept
    | with_reducible apply State.balPolicy_kept | with_reducible apply forN_kept | with_reducible apply ite_kept
    | intro _ | split)

theorem State.sweepCells_kept {bm bt : Bool} {s₀ s : State} (i : Sweep) (split : Bool) (x : Nat) (h : Kept bm bt s₀ s) :
    Kept bm bt s₀ (s.sweepCells i split x) := by
  unfold State.sweepCells
  try dsimp only
  repeat' (first
    | with_reducible exact h | with_reducible exact Kept.refl _ | with_reducible apply State.monStep_kept
    | with_reducible apply State.ringLost_kept | with_reducible apply State.firstSweep_kept
    | with_reducible apply State.recovStep_kept | with_reducible apply State.cellStep_kept
    | with_reducible apply State.wrapReg_kept | with_reducible apply State.wr64_kept
    | with_reducible apply State.set_kept | with_reducible apply forN_kept | with_reducible apply ite_kept | intro _
    | split)

theorem State.sweepDone_kept {bm bt : Bool} {s₀ s : State} (i : Sweep) (split two : Bool) (x : Nat) (h : Kept bm bt s₀ s) :
    Kept bm bt s₀ (s.sweepDone i split two x) := by
  unfold State.sweepDone
  try dsimp only
  repeat' (first
    | with_reducible exact h | with_reducible exact Kept.refl _ | with_reducible apply State.crcCheck_kept
    | with_reducible apply State.bumpSat_kept | with_reducible apply State.ringEvt_kept
    | with_reducible apply State.sweepCells_kept | with_reducible apply State.sweepChecks_kept
    | with_reducible apply ite_kept | intro _ | split)

theorem State.toSplit_kept {bm bt : Bool} {s₀ s : State} (i : Sweep) (x : Nat) (h : Kept bm bt s₀ s) :
    Kept bm bt s₀ (s.toSplit i x) := by
  unfold State.toSplit
  try dsimp only
  repeat' (first
    | with_reducible exact h | with_reducible exact Kept.refl _ | with_reducible apply State.set_kept
    | with_reducible apply State.setRs_kept | with_reducible apply ite_kept | intro _
    | (simp only [kept_mk]; refine Kept.upd rfl ?_) | split)

theorem State.toIntact_kept {bm bt : Bool} {s₀ s : State} (x : Nat) (h : Kept bm bt s₀ s) :
    Kept bm bt s₀ (s.toIntact x) := by
  unfold State.toIntact
  try dsimp only
  repeat' (first
    | with_reducible exact h | with_reducible exact Kept.refl _ | with_reducible apply State.set_kept
    | with_reducible apply State.setRs_kept | with_reducible apply ite_kept | intro _
    | (simp only [kept_mk]; refine Kept.upd rfl ?_) | split)

theorem State.splitSweep_kept {bm bt : Bool} {s₀ s : State} (i : Sweep) (x : Nat) (h : Kept bm bt s₀ s) :
    Kept bm bt s₀ (s.splitSweep i x) := by
  unfold State.splitSweep
  try dsimp only
  repeat' (first
    | with_reducible exact h | with_reducible exact Kept.refl _ | with_reducible apply State.toSplit_kept
    | with_reducible apply State.sweepDone_kept | with_reducible apply State.setRs_kept
    | with_reducible apply State.toIntact_kept | with_reducible apply ite_kept | intro _
    | (simp only [kept_mk]; refine Kept.upd rfl ?_) | split)

theorem State.hear_kept {bm bt : Bool} {s₀ s : State} (x : Nat) (i : SweepIn) (h : Kept bm bt s₀ s) :
    Kept bm bt s₀ (s.hear x i) := by
  unfold State.hear
  try dsimp only
  repeat' (first
    | with_reducible exact h | with_reducible exact Kept.refl _ | with_reducible apply State.setRs_kept | intro _
    | (simp only [kept_mk]; refine Kept.upd rfl ?_) | split)

theorem State.sweepOne_kept {bm bt : Bool} {s₀ s : State} (x vstr : Nat) (h : Kept bm bt s₀ s) :
    Kept bm bt s₀ (s.sweepOne x vstr) := by
  unfold State.sweepOne
  try dsimp only
  repeat' (first
    | with_reducible exact h | with_reducible exact Kept.refl _ | with_reducible apply State.bumpSat_kept
    | with_reducible apply State.ringEvt_kept | with_reducible apply State.execSent_kept
    | with_reducible apply State.setRs_kept | with_reducible apply State.split_kept
    | with_reducible apply State.sendRing_kept | with_reducible apply State.swapSend_kept
    | with_reducible apply State.splitCmds_kept | with_reducible apply ite_kept | intro _
    | (simp only [kept_mk]; refine Kept.upd rfl ?_) | split)

/-! ### Est -/

theorem State.estCell_kept {bm bt : Bool} {s₀ s : State} (old : State) (x p : Nat) (h : Kept bm bt s₀ s) :
    Kept bm bt s₀ (State.estCell old x p s) := by
  unfold State.estCell
  try dsimp only
  repeat' (first
    | with_reducible exact h | with_reducible exact Kept.refl _ | with_reducible apply State.setEs_kept
    | with_reducible apply State.set_kept | with_reducible apply State.setB_kept
    | with_reducible apply State.raiseBit_kept | with_reducible apply ite_kept | intro _
    | (simp only [kept_mk]; refine Kept.upd rfl ?_) | split)

theorem State.estNext_kept {bm bt : Bool} {s₀ s : State} (x : Nat) (h : Kept bm bt s₀ s) : Kept bm bt s₀ (s.estNext x) := by
  unfold State.estNext
  try dsimp only
  repeat' (first
    | with_reducible exact h | with_reducible exact Kept.refl _ | with_reducible apply State.setEs_kept
    | with_reducible apply ite_kept | intro _ | (simp only [kept_mk]; refine Kept.upd rfl ?_) | split)

theorem State.showCell_kept {bm bt : Bool} {s₀ s : State} (x p : Nat) (h : Kept bm bt s₀ s) :
    Kept bm bt s₀ (State.showCell x p s) := by
  unfold State.showCell
  repeat' first | with_reducible exact h | with_reducible apply State.wrN_kept

theorem State.restAverage_kept {bm bt : Bool} {s₀ s : State} (x : Nat) (h : Kept bm bt s₀ s) :
    Kept bm bt s₀ (s.restAverage x) := by
  unfold State.restAverage
  repeat' first | with_reducible exact h | with_reducible apply State.setEs_kept | with_reducible apply ite_kept

theorem State.showShelf_kept {bm bt : Bool} {s₀ s : State} (h : Kept bm bt s₀ s) : Kept bm bt s₀ s.showShelf := by
  unfold State.showShelf
  repeat' first | with_reducible exact h | with_reducible apply State.set_kept | with_reducible apply State.wrN_kept

theorem State.showStr_kept {bm bt : Bool} {s₀ s : State} (x : Nat) (h : Kept bm bt s₀ s) : Kept bm bt s₀ (s.showStr x) := by
  unfold State.showStr
  repeat' (first
    | with_reducible exact h | with_reducible apply State.wrN_kept | with_reducible apply State.wr64_kept
    | with_reducible apply State.setI_kept | with_reducible apply State.set_kept | with_reducible apply State.setB_kept)

theorem State.estRun_kept {bm bt : Bool} {s₀ s : State} (x : Nat) (h : Kept bm bt s₀ s) : Kept bm bt s₀ (s.estRun x) := by
  unfold State.estRun
  try dsimp only
  repeat' (first
    | with_reducible exact h | with_reducible exact Kept.refl _ | with_reducible apply State.setEs_kept
    | with_reducible apply State.estCell_kept | with_reducible apply State.showCell_kept
    | with_reducible apply State.restAverage_kept | with_reducible apply State.estNext_kept
    | with_reducible apply State.showStr_kept | with_reducible apply State.showShelf_kept
    | with_reducible apply State.set_kept | with_reducible apply forN_kept | with_reducible apply ite_kept | intro _
    | (simp only [kept_mk]; refine Kept.upd rfl ?_) | split)

theorem State.powTurn_kept {bm bt : Bool} {s₀ s : State} (h : Kept bm bt s₀ s) : Kept bm bt s₀ s.powTurn := by
  unfold State.powTurn
  try dsimp only
  repeat' (first
    | with_reducible exact h | with_reducible exact Kept.refl _ | intro _
    | (simp only [kept_mk]; refine Kept.upd rfl ?_) | split)

theorem State.restNow_kept {bm bt : Bool} {s₀ s : State} (h : Kept bm bt s₀ s) : Kept bm bt s₀ s.restNow := by
  unfold State.restNow
  repeat' (first
    | with_reducible exact h | with_reducible apply State.clear_kept | (simp only [kept_mk]; refine Kept.upd rfl ?_))

theorem State.restRelease_kept {bm bt : Bool} {s₀ s : State} (h : Kept bm bt s₀ s) : Kept bm bt s₀ s.restRelease := by
  unfold State.restRelease
  repeat' (first
    | with_reducible exact h | with_reducible exact Kept.refl _ | with_reducible apply forL_kept
    | with_reducible apply State.clear_kept | with_reducible apply ite_kept | intro _
    | (simp only [kept_mk]; refine Kept.upd rfl ?_))

theorem State.restAbort_kept {bm bt : Bool} {s₀ s : State} (cause : Nat) (h : Kept bm bt s₀ s) :
    Kept bm bt s₀ (s.restAbort cause) := by
  unfold State.restAbort
  repeat' (first
    | with_reducible exact h | with_reducible apply State.raise_kept | with_reducible apply State.raiseBit_kept
    | with_reducible apply State.set_kept | with_reducible apply State.restRelease_kept)

theorem State.restStart_kept {bm bt : Bool} {s₀ s : State} (x : Nat) (h : Kept bm bt s₀ s) : Kept bm bt s₀ (s.restStart x) := by
  unfold State.restStart
  repeat' (first
    | with_reducible exact h | with_reducible apply State.forceShedString_kept | with_reducible apply State.set_kept
    | (simp only [kept_mk]; refine Kept.upd rfl ?_))

theorem State.restCheck_kept {bm bt : Bool} {s₀ s : State} (h : Kept bm bt s₀ s) : Kept bm bt s₀ s.restCheck := by
  unfold State.restCheck
  try dsimp only
  repeat' (first
    | with_reducible exact h | with_reducible exact Kept.refl _ | with_reducible apply State.restStart_kept
    | with_reducible apply State.bumpSat_kept | with_reducible apply ite_kept | intro _
    | (simp only [kept_mk]; refine Kept.upd rfl ?_) | split)

theorem State.takeReference_kept {bm bt : Bool} {s₀ s : State} (x : Nat) (h : Kept bm bt s₀ s) :
    Kept bm bt s₀ (s.takeReference x) := by
  unfold State.takeReference
  repeat' (first
    | with_reducible exact h | with_reducible apply State.setEs_kept | with_reducible apply State.setI_kept
    | (simp only [kept_mk]; refine Kept.upd rfl ?_))

end Sys2Proof.Machine
end

