-- ==== Sys2Proof/Laws/KeptLarkspur.lean ====
section
/-! SUPPORT. What the operations of these parts keep (`Kept`): the fabric and the Larkspur dies. -/

-- One proof at a time: in the package's one text, proofs that wait for one another would each hold a thread.
set_option Elab.async false

namespace Sys2Proof.Machine

/-! ### Fabric -/

theorem State.dropLeads_kept {bm bt : Bool} {s₀ s : State} (h : Kept bm bt s₀ s) : Kept bm bt s₀ s.dropLeads := by
  unfold State.dropLeads
  repeat' (first
    | with_reducible exact h | with_reducible apply State.clear_kept | (simp only [kept_mk]; refine Kept.upd rfl ?_))

theorem State.showTime_kept {bm bt : Bool} {s₀ s : State} (h : Kept bm bt s₀ s) : Kept bm bt s₀ s.showTime := by
  unfold State.showTime
  repeat' (first
    | with_reducible exact h | with_reducible apply State.setB_kept | with_reducible apply State.dropLeads_kept
    | with_reducible apply ite_kept)

theorem State.idConflict_kept {bm bt : Bool} {s₀ s : State} (h : Kept bm bt s₀ s) : Kept bm bt s₀ s.idConflict := by
  unfold State.idConflict
  try dsimp only
  repeat' (first
    | with_reducible exact h | with_reducible exact Kept.refl _ | with_reducible apply State.set_kept
    | with_reducible apply State.dropLeads_kept | with_reducible apply State.raise_kept | with_reducible apply ite_kept
    | intro _ | split)

theorem State.judge_kept {bm bt : Bool} {s₀ s : State} (x1 : FabHdr) (h : Kept bm bt s₀ s) : Kept bm bt s₀ (s.judge x1).2 := by
  unfold State.judge
  repeat' (first
    | with_reducible exact h | with_reducible apply State.bumpSat_kept | with_reducible apply State.idConflict_kept
    | with_reducible apply State.wrapReg_kept | (simp only [kept_mk]; refine Kept.upd rfl ?_) | split)

theorem State.nextSeq_kept {bm bt : Bool} {s₀ s : State} (h : Kept bm bt s₀ s) : Kept bm bt s₀ s.nextSeq := by
  unfold State.nextSeq
  repeat' first | with_reducible exact h | (simp only [kept_mk]; refine Kept.upd rfl ?_)

theorem State.setPth_kept {bm bt : Bool} {s₀ s : State} (p : Nat) (x2 : PathSt) (h : Kept bm bt s₀ s) :
    Kept bm bt s₀ (s.setPth p x2) := by
  unfold State.setPth
  repeat' first | with_reducible exact h | (simp only [kept_mk]; refine Kept.upd rfl ?_)

theorem State.offsetSample_kept {bm bt : Bool} {s₀ s : State} (p : Nat) (rx tx : Int) (h : Kept bm bt s₀ s) :
    Kept bm bt s₀ (s.offsetSample p rx tx) := by
  unfold State.offsetSample
  repeat' (first
    | with_reducible exact h | with_reducible apply State.fresh_kept | with_reducible apply State.setPth_kept | split)

theorem State.steerBy_kept {bm bt : Bool} {s₀ s : State} (o : Int) (h : Kept bm bt s₀ s) : Kept bm bt s₀ (s.steerBy o) := by
  unfold State.steerBy
  try dsimp only
  repeat' (first
    | with_reducible exact h | with_reducible exact Kept.refl _ | intro _
    | (simp only [kept_mk]; refine Kept.upd rfl ?_) | split)

theorem State.notFar_kept {bm bt : Bool} {s₀ s : State} (h : Kept bm bt s₀ s) : Kept bm bt s₀ s.notFar := by
  unfold State.notFar
  try dsimp only
  repeat' (first
    | with_reducible exact h | with_reducible exact Kept.refl _ | with_reducible apply State.clear_kept
    | with_reducible apply State.unraise_kept | intro _ | split)

theorem State.pathHeard_kept {bm bt : Bool} {s₀ s : State} (p : Nat) (sync : Bool) (h : Kept bm bt s₀ s) :
    Kept bm bt s₀ (s.pathHeard p sync) := by
  unfold State.pathHeard
  try dsimp only
  repeat' (first
    | with_reducible exact h | with_reducible exact Kept.refl _ | with_reducible apply State.set_kept
    | with_reducible apply State.setPth_kept | with_reducible apply State.clear_kept
    | with_reducible apply State.unraise_kept | with_reducible apply ite_kept | intro _
    | (simp only [kept_mk]; refine Kept.upd rfl ?_) | split)

theorem State.sendOn_kept {bm bt : Bool} {s₀ s : State} (p kind : Nat) (dest body : List Byte) (h : Kept bm bt s₀ s) :
    Kept bm bt s₀ (s.sendOn p kind dest body) := by
  unfold State.sendOn
  repeat' first | with_reducible exact h | with_reducible apply State.emit_kept | with_reducible apply ite_kept

theorem State.sendControl_kept {bm bt : Bool} {s₀ s : State} (kind : Nat) (dest body : List Byte) (h : Kept bm bt s₀ s) :
    Kept bm bt s₀ (s.sendControl kind dest body) := by
  unfold State.sendControl
  repeat' first | with_reducible exact h | with_reducible apply State.sendOn_kept | with_reducible apply State.nextSeq_kept

theorem State.sendResp_kept {bm bt : Bool} {s₀ s : State} (q : Nat × Nat × Nat × Int) (h : Kept bm bt s₀ s) :
    Kept bm bt s₀ (State.sendResp q s) := by
  unfold State.sendResp
  try dsimp only
  repeat' (first
    | with_reducible exact h | with_reducible exact Kept.refl _ | with_reducible apply State.nextSeq_kept
    | with_reducible apply State.sendOn_kept | with_reducible apply ite_kept | intro _ | split)

theorem State.setDelay_kept {bm bt : Bool} {s₀ s : State} (p : Nat) (d : Int) (h : Kept bm bt s₀ s) :
    Kept bm bt s₀ (s.setDelay p d) := by
  unfold State.setDelay
  repeat' first | with_reducible exact h | with_reducible apply State.setI_kept | with_reducible apply State.setPth_kept

theorem State.stepSkips_kept {bm bt : Bool} {s₀ s : State} (h : Kept bm bt s₀ s) : Kept bm bt s₀ s.stepSkips := by
  unfold State.stepSkips
  repeat' (first
    | with_reducible exact h | with_reducible exact Kept.refl _ | with_reducible apply forN_kept
    | with_reducible apply State.ringEvt_kept | with_reducible apply State.bumpSat_kept | with_reducible apply ite_kept
    | intro _)

/-! ### LksThread -/

theorem State.accStart_kept {bm bt : Bool} {s₀ s : State} (i : TileIn) (kind : Nat) (h : Kept bm bt s₀ s) : Kept bm bt s₀ (s.accStart i kind).2 := by
  unfold State.accStart
  split
  · exact h
  · split
    · exact h
    · dsimp only
      simp only [kept_mk]
      exact Kept.upd rfl h (hfree := Nat.le_add_right _ _)

theorem State.mapJobs_kept {bm bt : Bool} {s₀ s : State} (p : LJob → Bool) (f : LJob → LJob) (h : Kept bm bt s₀ s) :
    Kept bm bt s₀ (s.mapJobs p f) := by
  unfold State.mapJobs
  repeat' first | with_reducible exact h | (simp only [kept_mk]; refine Kept.upd rfl ?_)

theorem State.sramCorrected_kept {bm bt : Bool} {s₀ s : State} (d c n : Nat) (h : Kept bm bt s₀ s) :
    Kept bm bt s₀ (s.sramCorrected d c n) := by
  unfold State.sramCorrected
  repeat' (first
    | with_reducible exact h | with_reducible apply State.bumpSat_kept | (simp only [kept_mk]; refine Kept.upd rfl ?_))

theorem State.rowCorrected_kept {bm bt : Bool} {s₀ s : State} (kind unit addr : Nat) (h : Kept bm bt s₀ s) :
    Kept bm bt s₀ (s.rowCorrected kind unit addr) := by
  unfold State.rowCorrected
  try dsimp only
  repeat' (first
    | with_reducible exact h | with_reducible exact Kept.refl _ | with_reducible apply ite_kept | intro _
    | (simp only [kept_mk]; refine Kept.upd rfl ?_) | split)

theorem State.chanCorrected_kept {bm bt : Bool} {s₀ s : State} (stack addr : Nat) (h : Kept bm bt s₀ s) :
    Kept bm bt s₀ (s.chanCorrected stack addr) := by
  unfold State.chanCorrected
  try dsimp only
  repeat' (first
    | with_reducible exact h | with_reducible exact Kept.refl _ | intro _
    | (simp only [kept_mk]; refine Kept.upd rfl ?_) | split)

theorem State.memCorrected_kept {bm bt : Bool} {s₀ s : State} (m : LMem) (addr : Nat) (h : Kept bm bt s₀ s) :
    Kept bm bt s₀ (s.memCorrected m addr) := by
  unfold State.memCorrected
  try dsimp only
  repeat' (first
    | with_reducible exact h | with_reducible exact Kept.refl _ | with_reducible apply State.sramCorrected_kept
    | with_reducible apply State.bumpSat_kept | with_reducible apply State.rowCorrected_kept
    | with_reducible apply State.chanCorrected_kept | intro _ | (simp only [kept_mk]; refine Kept.upd rfl ?_) | split)

theorem State.setAcc_kept {bm bt : Bool} {s₀ s : State} (i : TileIn) (x : Option LAcc) (h : Kept bm bt s₀ s) :
    Kept bm bt s₀ (s.setAcc i x) := by
  unfold State.setAcc
  repeat' first | with_reducible exact h | (simp only [kept_mk]; refine Kept.upd rfl ?_)

theorem State.setThread_kept {bm bt : Bool} {s₀ s : State} (a : ThrNo) (x2 : LThr) (h : Kept bm bt s₀ s) :
    Kept bm bt s₀ (s.setThread a x2) := by
  unfold State.setThread
  repeat' first | with_reducible exact h | (simp only [kept_mk]; refine Kept.upd rfl ?_)

theorem State.threadFault_kept {bm bt : Bool} {s₀ s : State} (a : ThrNo) (cause addr : Nat) (h : Kept bm bt s₀ s) :
    Kept bm bt s₀ (s.threadFault a cause addr) := by
  unfold State.threadFault
  repeat' (first
    | with_reducible exact h | with_reducible apply State.setThread_kept | with_reducible apply State.mapJobs_kept
    | with_reducible apply State.uncorrectable_kept | with_reducible apply State.forecastStop_kept | split)

theorem State.withAccess_kept {bm bt : Bool} {s₀ s : State} (a : ThrNo) (addr n : Nat) (reads atomic : Bool)
    (f : Nat → LMem → LThr → State → State) (h : Kept bm bt s₀ s) (hf : ∀ p m t u, Kept bm bt u (f p m t u)) :
    Kept bm bt s₀ (s.withAccess a addr n reads atomic f) := by
  unfold State.withAccess
  split
  · exact h
  · split
    · dsimp only
      apply State.threadFault_kept
      split
      · exact State.fenceHit_kept _ _ _ h
      · exact h
    · split
      · exact h
      · exact h.trans (hf _ _ _ _)

theorem State.tileOut_kept {bt : Bool} {s₀ s : State} (i : TileIn) (kind : Nat) (cells : List Int) (out : Nat) (h : Kept false bt s₀ s) :
    Kept false bt s₀ (s.tileOut i kind cells out) := by
  unfold State.tileOut
  repeat' (first
    | with_reducible exact h | with_reducible exact Kept.refl _ | with_reducible apply State.withAccess_kept
    | with_reducible apply State.setAcc_kept | with_reducible apply State.setThread_kept
    | with_reducible apply State.memPut_kept | intro _)

/-! ### LksCore -/

theorem State.qFlag_kept {bm bt : Bool} {s₀ s : State} (f : Nat → Nat → Field) (d q : Nat) (h : Kept bm bt s₀ s) :
    Kept bm bt s₀ (s.qFlag f d q) := by
  unfold State.qFlag
  repeat' first | with_reducible exact h | with_reducible apply State.raiseBit_kept

theorem State.setQueue_kept {bm bt : Bool} {s₀ s : State} (d q : Nat) (x : LQueue) (h : Kept bm bt s₀ s) :
    Kept bm bt s₀ (s.setQueue d q x) := by
  unfold State.setQueue
  repeat' first | with_reducible exact h | (simp only [kept_mk]; refine Kept.upd rfl ?_)

theorem State.cqWrite_kept {bt : Bool} {s₀ s : State} (d q : Nat) (body : List Byte) (msi : Bool) (h : Kept false bt s₀ s) :
    Kept false bt s₀ (s.cqWrite d q body msi) := by
  unfold State.cqWrite
  repeat' (first
    | with_reducible exact h | with_reducible apply State.memPut_kept | with_reducible apply State.emit_kept
    | with_reducible apply State.set_kept | with_reducible apply State.setQueue_kept
    | with_reducible apply State.msix_kept | with_reducible apply ite_kept)

theorem State.complete_kept {bt : Bool} {s₀ s : State} (d q : Nat) (body : List Byte) (noMsi : Bool) (h : Kept false bt s₀ s) :
    Kept false bt s₀ (s.complete d q body noMsi) := by
  unfold State.complete
  repeat' (first
    | with_reducible exact h | with_reducible apply State.qFlag_kept | with_reducible apply State.setQueue_kept
    | with_reducible apply State.cqWrite_kept | with_reducible apply ite_kept)

theorem State.abortUnfetched_kept {bt : Bool} {s₀ s : State} (d q : Nat) (l : List (Word × Bool)) (h : Kept false bt s₀ s) :
    Kept false bt s₀ (s.abortUnfetched d q l) := by
  unfold State.abortUnfetched
  repeat' (first
    | with_reducible exact h | with_reducible exact Kept.refl _ | with_reducible apply forN_kept
    | with_reducible apply State.complete_kept | intro _)

theorem State.actsDone_kept {bt : Bool} {s₀ s : State} (d q : Nat) (h : Kept false bt s₀ s) :
    Kept false bt s₀ (s.actsDone d q) := by
  unfold State.actsDone
  repeat' (first
    | with_reducible exact h | with_reducible exact Kept.refl _ | with_reducible apply forL_kept
    | with_reducible apply State.complete_kept | with_reducible apply State.setQueue_kept | with_reducible apply ite_kept
    | intro _)

theorem State.coreDone_kept {bm bt : Bool} {s₀ s : State} (d c : Nat) (h : Kept bm bt s₀ s) : Kept bm bt s₀ (s.coreDone d c) := by
  unfold State.coreDone
  repeat' first | with_reducible exact h | with_reducible apply State.coreTo_kept | with_reducible apply ite_kept

theorem State.showTrain_kept {bm bt : Bool} {s₀ s : State} (h : Kept bm bt s₀ s) : Kept bm bt s₀ s.showTrain := by
  unfold State.showTrain
  repeat' first | with_reducible exact h | with_reducible apply State.set_kept

theorem State.burstGrow_kept {bm bt : Bool} {s₀ s : State} (h : Kept bm bt s₀ s) : Kept bm bt s₀ s.burstGrow := by
  unfold State.burstGrow
  repeat' (first
    | with_reducible exact h | with_reducible exact Kept.refl _ | with_reducible apply State.showTrain_kept
    | with_reducible apply forN_kept | with_reducible apply forL_kept | with_reducible apply State.openCore_kept
    | with_reducible apply State.coreTo_kept | with_reducible apply ite_kept | intro _
    | (simp only [kept_mk]; refine Kept.upd rfl ?_))

theorem State.showQueue_kept {bm bt : Bool} {s₀ s : State} (d q : Nat) (h : Kept bm bt s₀ s) :
    Kept bm bt s₀ (s.showQueue d q) := by
  unfold State.showQueue
  repeat' first | with_reducible exact h | with_reducible apply State.set_kept | with_reducible apply State.setB_kept

theorem State.finish_kept {bt : Bool} {s₀ s : State} (d q : Nat) (c : LCmd) (status : Nat) (h : Kept false bt s₀ s) :
    Kept false bt s₀ (s.finish d q c status) := by
  unfold State.finish
  repeat' (first
    | with_reducible exact h | with_reducible apply State.complete_kept | with_reducible apply State.setQueue_kept)

theorem State.sleepCore_kept {bm bt : Bool} {s₀ s : State} (d c : Nat) (h : Kept bm bt s₀ s) :
    Kept bm bt s₀ (s.sleepCore d c) := by
  unfold State.sleepCore
  repeat' (first
    | with_reducible exact h | with_reducible apply State.setCore_kept | with_reducible apply State.closeCore_kept
    | with_reducible apply ite_kept)

theorem State.serve_kept {bt : Bool} {s₀ s : State} (d q : Nat) (h : Kept false bt s₀ s) : Kept false bt s₀ (s.serve d q).1 := by
  unfold State.serve
  try dsimp only
  repeat' (first
    | with_reducible exact h | with_reducible exact Kept.refl _ | with_reducible apply State.finish_kept
    | with_reducible apply State.actsDone_kept | with_reducible apply forL_kept | with_reducible apply State.latchWake_kept
    | with_reducible apply State.setQueue_kept | with_reducible apply State.openCore_kept
    | with_reducible apply State.sleepCore_kept | intro _ | split)

theorem State.drain_kept {bt : Bool} {s₀ s : State} (n d q : Nat) (h : Kept false bt s₀ s) : Kept false bt s₀ (State.drain n d q s) := by
  induction n generalizing s with
  | zero => exact h
  | succ n ih =>
    unfold State.drain
    have h1 := State.serve_kept d q h
    generalize s.serve d q = r at h1
    obtain ⟨t, more⟩ := r
    dsimp only
    split
    · exact ih h1
    · exact h1

theorem State.qRun_kept {bt : Bool} {s₀ s : State} (d q : Nat) (h : Kept false bt s₀ s) : Kept false bt s₀ (s.qRun d q) := by
  unfold State.qRun
  repeat' (first
    | with_reducible exact h | with_reducible apply State.actsDone_kept | with_reducible apply State.showQueue_kept
    | with_reducible apply State.drain_kept)

theorem State.jobOff_kept {bm bt : Bool} {s₀ s : State} (j : LJob) (h : Kept bm bt s₀ s) : Kept bm bt s₀ (s.jobOff j) := by
  unfold State.jobOff
  repeat' (first
    | with_reducible exact h | with_reducible exact Kept.refl _ | with_reducible apply forL_kept
    | with_reducible apply State.coreDone_kept | intro _ | (simp only [kept_mk]; refine Kept.upd rfl ?_))

theorem State.jobEnd_kept {bt : Bool} {s₀ s : State} (j : LJob) (status : Nat) (h : Kept false bt s₀ s) :
    Kept false bt s₀ (s.jobEnd j status) := by
  unfold State.jobEnd
  repeat' (first
    | with_reducible exact h | with_reducible apply State.showQueue_kept | with_reducible apply State.complete_kept
    | with_reducible apply State.jobOff_kept)

theorem State.loadImage_kept {bt : Bool} {s₀ s : State} (j : LJob) (i : Brxi) (h : Kept false bt s₀ s) :
    Kept false bt s₀ (s.loadImage j i) := by
  unfold State.loadImage
  repeat' (first
    | with_reducible exact h | with_reducible exact Kept.refl _ | with_reducible apply forL_kept
    | with_reducible apply State.setCore_kept | with_reducible apply State.memPut_kept | with_reducible apply ite_kept
    | intro _)

theorem State.jobStart_kept {bt : Bool} {s₀ s : State} (j : LJob) (h : Kept false bt s₀ s) : Kept false bt s₀ (s.jobStart j) := by
  unfold State.jobStart
  try dsimp only
  repeat' (first
    | with_reducible exact h | with_reducible exact Kept.refl _ | with_reducible apply State.jobEnd_kept
    | with_reducible apply State.loadImage_kept | with_reducible apply State.mapJobs_kept
    | with_reducible apply State.showQueue_kept | with_reducible apply forL_kept | with_reducible apply State.set_kept
    | with_reducible apply State.coreTo_kept | intro _ | split)

theorem State.jobsStart_kept {bt : Bool} {s₀ s : State} (d : Nat) (h : Kept false bt s₀ s) : Kept false bt s₀ (s.jobsStart d) := by
  unfold State.jobsStart
  repeat' (first
    | with_reducible exact h | with_reducible exact Kept.refl _ | with_reducible apply forL_kept
    | with_reducible apply State.jobStart_kept | intro _)

theorem State.dieRun_kept {bt : Bool} {s₀ s : State} (d : Nat) (h : Kept false bt s₀ s) : Kept false bt s₀ (s.dieRun d) := by
  unfold State.dieRun
  try dsimp only
  repeat' (first
    | with_reducible exact h | with_reducible exact Kept.refl _ | with_reducible apply State.qRun_kept
    | with_reducible apply State.actsDone_kept | with_reducible apply State.jobsStart_kept
    | with_reducible apply State.burstGrow_kept | with_reducible apply forN_kept | intro _ | split)

theorem State.coreFail_kept {bt : Bool} {s₀ s : State} (d c : Nat) (h : Kept false bt s₀ s) :
    Kept false bt s₀ (s.coreFail d c) := by
  unfold State.coreFail
  try dsimp only
  repeat' (first
    | with_reducible exact h | with_reducible apply State.coreTo_kept | with_reducible apply State.jobEnd_kept
    | with_reducible apply State.showAwake_kept | with_reducible apply State.uncorrectable_kept
    | with_reducible apply State.forecastStop_kept | (simp only [kept_mk]; refine Kept.upd rfl ?_) | split)

theorem State.fetched_kept {bt : Bool} {s₀ s : State} (d q op : Nat) (c : SqCmd) (h : Kept false bt s₀ s) :
    Kept false bt s₀ (s.fetched d q op c) := by
  unfold State.fetched
  repeat' (first
    | with_reducible exact h | with_reducible apply State.qRun_kept | with_reducible apply State.set_kept
    | with_reducible apply State.setQueue_kept | with_reducible apply ite_kept)

theorem State.hostQueuesOff_kept {bt : Bool} {s₀ s : State} (h : Kept false bt s₀ s) : Kept false bt s₀ s.hostQueuesOff := by
  unfold State.hostQueuesOff
  repeat' (first
    | with_reducible exact h | with_reducible exact Kept.refl _ | with_reducible apply forL_kept
    | with_reducible apply State.jobOff_kept | with_reducible apply forN_kept | with_reducible apply State.dieRun_kept
    | with_reducible apply State.showQueue_kept | with_reducible apply State.clear_kept
    | with_reducible apply State.setQueue_kept | with_reducible apply ite_kept | intro _)

theorem State.tackOwned_kept {bm bt : Bool} {s₀ s : State} (addr value : Nat) (h : Kept bm bt s₀ s) :
    Kept bm bt s₀ (s.tackOwned addr value) := by
  unfold State.tackOwned
  repeat' first | with_reducible exact h | with_reducible apply State.lksNote_kept

theorem State.queueEnable_kept {bm bt : Bool} {s₀ s : State} (d q : Nat) (h : Kept bm bt s₀ s) :
    Kept bm bt s₀ (s.queueEnable d q) := by
  unfold State.queueEnable
  repeat' (first
    | with_reducible exact h | with_reducible apply State.showQueue_kept | with_reducible apply State.wr_kept
    | with_reducible apply State.setQueue_kept)

theorem State.showDuty_kept {bm bt : Bool} {s₀ s : State} (d host fcst : Nat) (h : Kept bm bt s₀ s) :
    Kept bm bt s₀ (s.showDuty d host fcst) := by
  unfold State.showDuty
  repeat' (first
    | with_reducible exact h | with_reducible exact Kept.refl _ | with_reducible apply State.setB_kept
    | with_reducible apply State.set_kept | with_reducible apply forN_kept | intro _)

theorem State.dieTimes_kept {bm bt : Bool} {s₀ s : State} (d host power cap : Nat) (h : Kept bm bt s₀ s) :
    Kept bm bt s₀ (s.dieTimes d host power cap) := by
  unfold State.dieTimes
  try dsimp only
  repeat' (first
    | with_reducible exact h | with_reducible exact Kept.refl _ | intro _
    | (simp only [kept_mk]; refine Kept.upd rfl ?_) | split)

theorem State.unhold_kept {bt : Bool} {s₀ s : State} (n d q : Nat) (h : Kept false bt s₀ s) : Kept false bt s₀ (State.unhold n d q s) := by
  induction n generalizing s with
  | zero => exact h
  | succ n ih =>
    unfold State.unhold
    split
    · exact h
    · split
      · exact h
      · exact ih (State.cqWrite_kept _ _ _ _ (State.setQueue_kept _ _ _ h))

theorem State.rrServe_kept {bm bt : Bool} {s₀ s : State} (d q : Nat) (h : Kept bm bt s₀ s) :
    Kept bm bt s₀ (s.rrServe d q) := by
  unfold State.rrServe
  try dsimp only
  repeat' (first
    | with_reducible exact h | with_reducible exact Kept.refl _ | with_reducible apply ite_kept | intro _
    | (simp only [kept_mk]; refine Kept.upd rfl ?_) | split)

/-! ### LksTier -/

theorem State.tierShow_kept {bm bt : Bool} {s₀ s : State} (d ch st cause : Nat) (h : Kept bm bt s₀ s) :
    Kept bm bt s₀ (s.tierShow d ch st cause) := by
  unfold State.tierShow
  repeat' (first
    | with_reducible exact h | with_reducible apply State.set_kept | with_reducible apply State.msix_kept
    | with_reducible apply ite_kept)

theorem State.setTier_kept {bm bt : Bool} {s₀ s : State} (d ch : Nat) (x3 : LTier) (h : Kept bm bt s₀ s) :
    Kept bm bt s₀ (s.setTier d ch x3) := by
  unfold State.setTier
  repeat' first | with_reducible exact h | (simp only [kept_mk]; refine Kept.upd rfl ?_)

theorem State.tierAbort_kept {bt : Bool} {s₀ s : State} (d ch : Nat) (h : Kept false bt s₀ s) :
    Kept false bt s₀ (s.tierAbort d ch) := by
  unfold State.tierAbort
  repeat' (first
    | with_reducible exact h | with_reducible apply State.clear_kept | with_reducible apply State.tierShow_kept
    | with_reducible apply State.memLose_kept | with_reducible apply State.setTier_kept | with_reducible apply ite_kept)

theorem State.wakeMem_kept {bm bt : Bool} {s₀ s : State} (m : LMem) (h : Kept bm bt s₀ s) : Kept bm bt s₀ (s.wakeMem m) := by
  unfold State.wakeMem
  repeat' first | with_reducible exact h | with_reducible apply State.latchWake_kept | split

theorem State.bar2_kept {bt : Bool} {s₀ s : State} (off n : Nat) (data : Option (List Byte)) (h : Kept false bt s₀ s) :
    Kept false bt s₀ (s.bar2 off n data) := by
  unfold State.bar2
  try dsimp only
  repeat' (first
    | with_reducible exact h | with_reducible exact Kept.refl _ | with_reducible apply State.emit_kept
    | with_reducible apply State.raiseBit_kept | with_reducible apply State.wakeMem_kept
    | with_reducible apply State.fenceHit_kept | with_reducible apply State.memPut_kept | with_reducible apply ite_kept
    | intro _ | (simp only [kept_mk]; refine Kept.upd rfl ?_) | split)

theorem State.tierStart_kept {bm bt : Bool} {s₀ s : State} (d ch : Nat) (h : Kept bm bt s₀ s) :
    Kept bm bt s₀ (s.tierStart d ch) := by
  unfold State.tierStart
  try dsimp only
  repeat' (first
    | with_reducible exact h | with_reducible apply State.clear_kept | with_reducible apply State.fenceHit_kept
    | with_reducible apply State.tierShow_kept | with_reducible apply State.wakeMem_kept
    | with_reducible apply State.set_kept | with_reducible apply State.setTier_kept | split)

/-! ### LksTrain -/

theorem State.bulkSend_kept {bm bt : Bool} {s₀ s : State} (p : Nat) (l : List BulkOut) (left : Nat) (h : Kept bm bt s₀ s) :
    Kept bm bt s₀ (State.bulkSend p l left s) := by
  induction l generalizing s left with
  | nil => exact h
  | cons b t ih =>
    unfold State.bulkSend
    split
    · exact ih _ h
    · split
      · apply ih
        apply State.bumpWrap_kept
        simp only [kept_mk]
        exact Kept.upd rfl (State.emit_kept _ h)
      · exact ih _ (State.bumpSat_kept _ _ h)

theorem State.setTrain_kept {bm bt : Bool} {s₀ s : State} (x1 : LTrain) (h : Kept bm bt s₀ s) : Kept bm bt s₀ (s.setTrain x1) := by
  unfold State.setTrain
  repeat' first | with_reducible exact h | (simp only [kept_mk]; refine Kept.upd rfl ?_)

theorem State.result_kept {bm bt : Bool} {s₀ s : State} (r : Nat) (h : Kept bm bt s₀ s) : Kept bm bt s₀ (s.result r) := by
  unfold State.result
  repeat' first | with_reducible exact h | with_reducible apply State.raiseBit_kept | with_reducible apply State.set_kept

theorem State.exportStart_kept {bm bt : Bool} {s₀ s : State} (h : Kept bm bt s₀ s) : Kept bm bt s₀ s.exportStart := by
  unfold State.exportStart
  repeat' (first
    | with_reducible exact h | with_reducible apply State.result_kept | with_reducible apply State.clear_kept
    | with_reducible apply State.showTrain_kept | with_reducible apply State.setTrain_kept | with_reducible apply ite_kept)

theorem State.showGen_kept {bm bt : Bool} {s₀ s : State} (h : Kept bm bt s₀ s) : Kept bm bt s₀ s.showGen := by
  unfold State.showGen
  repeat' first | with_reducible exact h | with_reducible apply State.set_kept

theorem State.installStart_kept {bt : Bool} {s₀ s : State} (h : Kept false bt s₀ s) : Kept false bt s₀ s.installStart := by
  unfold State.installStart
  repeat' (first
    | with_reducible exact h | with_reducible apply State.result_kept | with_reducible apply State.clear_kept
    | with_reducible apply State.memCopy_kept | with_reducible apply State.showTrain_kept
    | with_reducible apply State.showGen_kept | with_reducible apply State.setTrain_kept | with_reducible apply ite_kept)

theorem State.transfer_kept {bt : Bool} {s₀ s : State} (kind : Nat) (h : Kept false bt s₀ s) :
    Kept false bt s₀ (s.transfer kind) := by
  unfold State.transfer
  repeat' (first
    | with_reducible exact h | with_reducible apply State.setTrain_kept | with_reducible apply State.exportStart_kept
    | with_reducible apply State.installStart_kept | with_reducible apply ite_kept)

theorem State.burstEnd_kept {bt : Bool} {s₀ s : State} (h : Kept false bt s₀ s) : Kept false bt s₀ s.burstEnd := by
  unfold State.burstEnd
  repeat' (first
    | with_reducible exact h | with_reducible exact Kept.refl _ | with_reducible apply State.setTrain_kept
    | with_reducible apply forL_kept | with_reducible apply State.coreDone_kept | with_reducible apply forN_kept
    | with_reducible apply State.dieRun_kept | with_reducible apply State.transfer_kept | with_reducible apply ite_kept
    | intro _)

theorem State.slotPut_kept {bt : Bool} {s₀ s : State} (k : Nat) (l : List Byte) (h : Kept false bt s₀ s) :
    Kept false bt s₀ (s.slotPut k l) := by
  unfold State.slotPut
  repeat' first | with_reducible exact h | with_reducible apply State.memPut_kept

theorem State.candidatePut_kept {bt : Bool} {s₀ s : State} (l : List Byte) (gen : Nat) (h : Kept false bt s₀ s) :
    Kept false bt s₀ (s.candidatePut l gen) := by
  unfold State.candidatePut
  repeat' first | with_reducible exact h | with_reducible apply State.setTrain_kept | with_reducible apply State.slotPut_kept

theorem State.setFleet_kept {bm bt : Bool} {s₀ s : State} (f : LFleet) (h : Kept bm bt s₀ s) : Kept bm bt s₀ (s.setFleet f) := by
  unfold State.setFleet
  repeat' first | with_reducible exact h | (simp only [kept_mk]; refine Kept.upd rfl ?_)

theorem State.fleetEnd_kept {bt : Bool} {s₀ s : State} (h : Kept false bt s₀ s) : Kept false bt s₀ s.fleetEnd := by
  unfold State.fleetEnd
  repeat' (first
    | with_reducible exact h | with_reducible exact Kept.refl _ | with_reducible apply State.setFleet_kept
    | with_reducible apply State.wrN_kept | with_reducible apply State.slotPut_kept | with_reducible apply onlyIf_kept
    | with_reducible apply State.raiseBit_kept | with_reducible apply State.showGen_kept
    | with_reducible apply State.setTrain_kept | intro _)

theorem State.fleetClose_kept {bt : Bool} {s₀ s : State} (h : Kept false bt s₀ s) : Kept false bt s₀ s.fleetClose := by
  unfold State.fleetClose
  repeat' (first
    | with_reducible exact h | with_reducible exact Kept.refl _ | with_reducible apply State.setFleet_kept
    | with_reducible apply State.fleetEnd_kept | with_reducible apply onlyIf_kept
    | with_reducible apply State.raiseBit_kept | intro _)

theorem State.fleetTurn_kept {bm bt : Bool} {s₀ s : State} (back : Bool) (h : Kept bm bt s₀ s) :
    Kept bm bt s₀ (State.fleetTurn back s) := by
  unfold State.fleetTurn
  repeat' (first
    | with_reducible exact h | with_reducible exact Kept.refl _ | with_reducible apply State.setFleet_kept
    | with_reducible apply onlyIf_kept | with_reducible apply State.raiseBit_kept | with_reducible apply ite_kept
    | intro _ | (simp only [kept_mk]; refine Kept.upd rfl ?_))

theorem State.showFleet_kept {bm bt : Bool} {s₀ s : State} (h : Kept bm bt s₀ s) : Kept bm bt s₀ s.showFleet := by
  unfold State.showFleet
  repeat' (first
    | with_reducible exact h | with_reducible apply State.set_kept | with_reducible apply State.setB_kept
    | with_reducible apply ite_kept)

theorem State.installEnd_kept {bm bt : Bool} {s₀ s : State} (h : Kept bm bt s₀ s) : Kept bm bt s₀ s.installEnd := by
  unfold State.installEnd
  repeat' (first
    | with_reducible exact h | with_reducible apply State.raiseBit_kept | with_reducible apply State.clear_kept
    | with_reducible apply State.setTrain_kept | with_reducible apply ite_kept)

theorem State.liveChanged_kept {bm bt : Bool} {s₀ s : State} (h : Kept bm bt s₀ s) : Kept bm bt s₀ s.liveChanged := by
  unfold State.liveChanged
  repeat' (first
    | with_reducible exact h | with_reducible apply State.setTrain_kept | with_reducible apply State.showTrain_kept
    | with_reducible apply State.showGen_kept | with_reducible apply State.raiseBit_kept
    | (simp only [kept_mk]; refine Kept.upd rfl ?_))

theorem State.promoteNow_kept {bt : Bool} {s₀ s : State} (h : Kept false bt s₀ s) : Kept false bt s₀ s.promoteNow := by
  unfold State.promoteNow
  repeat' (first
    | with_reducible exact h | with_reducible apply State.memCopy_kept | with_reducible apply State.liveChanged_kept
    | with_reducible apply State.setTrain_kept)

theorem State.promote_kept {bt : Bool} {s₀ s : State} (h : Kept false bt s₀ s) : Kept false bt s₀ s.promote := by
  unfold State.promote
  repeat' (first
    | with_reducible exact h | with_reducible apply State.clear_kept | with_reducible apply State.result_kept
    | with_reducible apply State.promoteNow_kept | with_reducible apply ite_kept)

theorem State.memSwap_kept {bt : Bool} {s₀ s : State} (a b n : Nat) (h : Kept false bt s₀ s) : Kept false bt s₀ (s.memSwap a b n) := by
  unfold State.memSwap
  dsimp only
  simp only [kept_mk]
  exact Kept.upd rfl h (hmem := fun _ => sparseWf_foldl_write _
    (fun x : Nat × Byte => (if a ≤ x.1 ∧ x.1 < a + n then b + (x.1 - a) else if b ≤ x.1 ∧ x.1 < b + n then a + (x.1 - b) else x.1, x.2)) _ rfl)

theorem State.revert_kept {bt : Bool} {s₀ s : State} (h : Kept false bt s₀ s) : Kept false bt s₀ s.revert := by
  unfold State.revert
  repeat' (first
    | with_reducible exact h | with_reducible apply State.clear_kept | with_reducible apply State.result_kept
    | with_reducible apply State.liveChanged_kept | with_reducible apply State.setTrain_kept
    | with_reducible apply State.memSwap_kept | with_reducible apply ite_kept)

end Sys2Proof.Machine
end

