-- ==== Sys2Proof/Laws/KeptShelf.lean ====
section
/-! SUPPORT. What the operations of these parts keep (`Kept`): Bridle, clocks, the profile, the Saddlebag's writers, Remount, power, loading and arming. -/

-- One proof at a time: in the package's one text, proofs that wait for one another would each hold a thread.
set_option Elab.async false

namespace Sys2Proof.Machine

/-! ### Bridle -/

theorem State.beginArming_kept {bm bt : Bool} {s₀ s : State} (rearm : Bool) (h : Kept bm bt s₀ s) :
    Kept bm bt s₀ (s.beginArming rearm) := by
  unfold State.beginArming
  repeat' (first
    | with_reducible exact h | with_reducible apply State.enter_kept | (simp only [kept_mk]; refine Kept.upd rfl ?_))

theorem State.bundleTo_kept {bm bt : Bool} {s₀ s : State} (k : Nat) (h : Kept bm bt s₀ s) : Kept bm bt s₀ (s.bundleTo k) := by
  unfold State.bundleTo
  repeat' (first
    | with_reducible exact h | with_reducible apply State.showWait_kept | with_reducible apply State.set_kept
    | with_reducible apply State.raiseBit_kept | with_reducible apply ite_kept)

theorem State.hostKick_kept {bm bt : Bool} {s₀ s : State} (h : Kept bm bt s₀ s) : Kept bm bt s₀ s.hostKick := by
  unfold State.hostKick
  repeat' (first
    | with_reducible exact h | with_reducible exact Kept.refl _ | with_reducible apply State.raise_kept
    | with_reducible apply State.raiseBit_kept | with_reducible apply State.clear_kept | with_reducible apply forN_kept
    | with_reducible apply State.showLevel_kept | with_reducible apply ite_kept | intro _
    | (simp only [kept_mk]; refine Kept.upd rfl ?_))

theorem State.showLksCap_kept {bm bt : Bool} {s₀ s : State} (h : Kept bm bt s₀ s) : Kept bm bt s₀ s.showLksCap := by
  unfold State.showLksCap
  repeat' first | with_reducible exact h | with_reducible apply State.set_kept

theorem State.pumpsFull_kept {bm bt : Bool} {s₀ s : State} (h : Kept bm bt s₀ s) : Kept bm bt s₀ s.pumpsFull := by
  unfold State.pumpsFull
  repeat' first | with_reducible exact h | (simp only [kept_mk]; refine Kept.upd rfl ?_)

theorem State.closeNow_kept {bm bt : Bool} {s₀ s : State} (w : Nat) (h : Kept bm bt s₀ s) :
    Kept bm bt s₀ (s.closeNow w) := by
  unfold State.closeNow
  try dsimp only
  repeat' (first
    | with_reducible exact h | with_reducible exact Kept.refl _ | with_reducible apply State.set_kept
    | with_reducible apply ite_kept | intro _ | (simp only [kept_mk]; refine Kept.upd rfl ?_) | split)

theorem State.fwStart_kept {bm bt : Bool} {s₀ s : State} (h : Kept bm bt s₀ s) : Kept bm bt s₀ s.fwStart := by
  unfold State.fwStart
  repeat' first | with_reducible exact h | (simp only [kept_mk]; refine Kept.upd rfl ?_)

theorem State.hostLost_kept {bm bt : Bool} {s₀ s : State} (h : Kept bm bt s₀ s) : Kept bm bt s₀ s.hostLost := by
  unfold State.hostLost
  repeat' (first
    | with_reducible exact h | with_reducible exact Kept.refl _ | with_reducible apply State.raise_kept
    | with_reducible apply State.raiseBit_kept | with_reducible apply State.set_kept | with_reducible apply forN_kept
    | with_reducible apply State.showLevel_kept | with_reducible apply ite_kept | intro _)

theorem State.precharge_kept {bm bt : Bool} {s₀ s : State} (h : Kept bm bt s₀ s) : Kept bm bt s₀ s.precharge := by
  unfold State.precharge
  repeat' (first
    | with_reducible exact h | with_reducible apply State.clear_kept | with_reducible apply State.checkCounts_kept
    | with_reducible apply State.startMinActive_kept | with_reducible apply State.harnessOn_kept
    | (simp only [kept_mk]; refine Kept.upd rfl ?_))

theorem State.refuseClose_kept {bm bt : Bool} {s₀ s : State} (h : Kept bm bt s₀ s) : Kept bm bt s₀ s.refuseClose := by
  unfold State.refuseClose
  repeat' first | with_reducible exact h | with_reducible apply State.fresh_kept | with_reducible apply State.refuse_kept

theorem State.setHot_kept {bm bt : Bool} {s₀ s : State} (d : Nat) (b : Bool) (h : Kept bm bt s₀ s) :
    Kept bm bt s₀ (s.setHot d b) := by
  unfold State.setHot
  repeat' first | with_reducible exact h | (simp only [kept_mk]; refine Kept.upd rfl ?_)

theorem State.showStor_kept {bm bt : Bool} {s₀ s : State} (h : Kept bm bt s₀ s) : Kept bm bt s₀ s.showStor := by
  unfold State.showStor
  repeat' first | with_reducible exact h | with_reducible apply State.set_kept

theorem State.strReturned_kept {bm bt : Bool} {s₀ s : State} (x : Nat) (h : Kept bm bt s₀ s) :
    Kept bm bt s₀ (s.strReturned x) := by
  unfold State.strReturned
  repeat' (first
    | with_reducible exact h | with_reducible exact Kept.refl _ | with_reducible apply forL_kept
    | with_reducible apply State.clear_kept | with_reducible apply State.unraise_kept | intro _
    | (simp only [kept_mk]; refine Kept.upd rfl ?_))

/-! ### Clock -/

theorem State.srcRefused_kept {bm bt : Bool} {s₀ s : State} (v : Word) (h : Kept bm bt s₀ s) : Kept bm bt s₀ (s.srcRefused v) := by
  unfold State.srcRefused
  repeat' first | with_reducible exact h | with_reducible apply State.refuse_kept | with_reducible apply State.raiseBit_kept

theorem State.srcDone_kept {bm bt : Bool} {s₀ s : State} (v : Word) (r : Bool) (h : Kept bm bt s₀ s) : Kept bm bt s₀ (State.srcDone v (s, r)) := by
  unfold State.srcDone
  split
  · exact State.srcRefused_kept _ h
  · exact h

theorem State.switchTo_kept {bm bt : Bool} {s₀ s : State} (k : Switch) (h : Kept bm bt s₀ s) : Kept bm bt s₀ (s.switchTo k) := by
  unfold State.switchTo
  repeat' (first
    | with_reducible exact h | with_reducible apply State.set_kept | (simp only [kept_mk]; refine Kept.upd rfl ?_))

theorem State.aonTake_kept {bm bt : Bool} {s₀ s : State} (v : Word) (h : Kept bm bt s₀ s) : Kept bm bt s₀ (s.aonTake v).1 := by
  unfold State.aonTake
  try dsimp only
  repeat' (first
    | with_reducible exact h | with_reducible apply State.switchTo_kept | with_reducible apply State.clear_kept
    | with_reducible apply State.set_kept | split)

theorem State.aonSelect_kept {bm bt : Bool} {s₀ s : State} (v : Word) (h : Kept bm bt s₀ s) : Kept bm bt s₀ (s.aonSelect v) := by
  unfold State.aonSelect
  repeat' first | with_reducible exact h | with_reducible apply State.srcDone_kept | with_reducible apply State.aonTake_kept

theorem State.autoMove_kept {bm bt : Bool} {s₀ s : State} (k : Switch) (h : Kept bm bt s₀ s) : Kept bm bt s₀ (s.autoMove k) := by
  unfold State.autoMove
  repeat' (first
    | with_reducible exact h | with_reducible apply State.switchTo_kept | with_reducible apply State.raiseBit_kept)

theorem State.mainTake_kept {bm bt : Bool} {s₀ s : State} (v : Word) (h : Kept bm bt s₀ s) : Kept bm bt s₀ (s.mainTake v).1 := by
  unfold State.mainTake
  try dsimp only
  repeat' (first
    | with_reducible exact h | with_reducible apply State.switchTo_kept | with_reducible apply State.set_kept | split)

theorem State.unready_kept {bm bt : Bool} {s₀ s : State} (bs : List Nat) (h : Kept bm bt s₀ s) :
    Kept bm bt s₀ (s.unready bs) := by
  unfold State.unready
  try dsimp only
  repeat' (first
    | with_reducible exact h | with_reducible exact Kept.refl _ | with_reducible apply State.clear_kept
    | with_reducible apply State.refLost_kept | with_reducible apply forL_kept | intro _ | split)

theorem State.pllRefStart_kept {bm bt : Bool} {s₀ s : State} (src : Nat) (h : Kept bm bt s₀ s) :
    Kept bm bt s₀ (s.pllRefStart src) := by
  unfold State.pllRefStart
  repeat' (first
    | with_reducible exact h | with_reducible apply State.set_kept | with_reducible apply State.switchTo_kept
    | with_reducible apply State.unready_kept | with_reducible apply State.showAck_kept
    | with_reducible apply State.showTx_kept | with_reducible apply State.raise_kept
    | with_reducible apply State.unraise_kept | with_reducible apply ite_kept
    | (simp only [kept_mk]; refine Kept.upd rfl ?_))

theorem State.pllRefTake_kept {bm bt : Bool} {s₀ s : State} (v : Word) (h : Kept bm bt s₀ s) :
    Kept bm bt s₀ (s.pllRefTake v).1 := by
  unfold State.pllRefTake
  try dsimp only
  repeat' first | with_reducible exact h | with_reducible apply State.pllRefStart_kept | split

theorem State.srcWrite_kept {bm bt : Bool} {s₀ s : State} (v : Word) (h : Kept bm bt s₀ s) : Kept bm bt s₀ (s.srcWrite v) := by
  unfold State.srcWrite
  repeat' (first
    | with_reducible exact h | with_reducible apply State.mainTake_kept | with_reducible apply State.aonTake_kept
    | with_reducible apply State.pllRefTake_kept | with_reducible apply State.srcDone_kept)

theorem State.pllRefDone_kept {bm bt : Bool} {s₀ s : State} (h : Kept bm bt s₀ s) : Kept bm bt s₀ s.pllRefDone := by
  unfold State.pllRefDone
  try dsimp only
  repeat' (first
    | with_reducible exact h | with_reducible exact Kept.refl _ | with_reducible apply State.set_kept
    | with_reducible apply State.setB_kept | with_reducible apply State.clear_kept
    | with_reducible apply State.showAck_kept | intro _ | (simp only [kept_mk]; refine Kept.upd rfl ?_) | split)

theorem State.fmeasStart_kept {bm bt : Bool} {s₀ s : State} (h : Kept bm bt s₀ s) : Kept bm bt s₀ s.fmeasStart := by
  unfold State.fmeasStart
  repeat' (first
    | with_reducible exact h | with_reducible apply State.raiseBit_kept | with_reducible apply State.clear_kept
    | with_reducible apply State.set_kept | with_reducible apply ite_kept | (simp only [kept_mk]; refine Kept.upd rfl ?_))

theorem State.modeSelect_kept {bm bt : Bool} {s₀ s : State} (m : Bool) (h : Kept bm bt s₀ s) : Kept bm bt s₀ (s.modeSelect m) := by
  unfold State.modeSelect
  repeat' (first
    | with_reducible exact h | with_reducible apply State.setB_kept | with_reducible apply State.set_kept
    | with_reducible apply ite_kept | (simp only [kept_mk]; refine Kept.upd rfl ?_))

theorem State.forced_kept {bm bt : Bool} {s₀ s : State} (b : Nat) (h : Kept bm bt s₀ s) : Kept bm bt s₀ (s.forced b) := by
  unfold State.forced
  repeat' (first
    | with_reducible exact h | with_reducible apply State.set_kept | with_reducible apply State.chansForced_kept
    | with_reducible apply State.drvOff_kept | with_reducible apply State.showAck_kept
    | with_reducible apply State.pumpsFull_kept | with_reducible apply State.showTx_kept
    | with_reducible apply State.isoOff_kept | with_reducible apply State.raise_kept
    | with_reducible apply State.enter_kept | with_reducible apply State.windowOff_kept
    | with_reducible apply State.cascadesOff_kept | with_reducible apply State.jnlTrigger_kept
    | with_reducible apply State.checkHoldoff_kept | with_reducible apply State.record_kept
    | with_reducible apply ite_kept | (simp only [kept_mk]; refine Kept.upd rfl ?_))

theorem State.toFirc_kept {bm bt : Bool} {s₀ s : State} (h : Kept bm bt s₀ s) : Kept bm bt s₀ s.toFirc := by
  unfold State.toFirc
  repeat' (first
    | with_reducible exact h | with_reducible apply State.autoMove_kept | with_reducible apply State.set_kept
    | with_reducible apply ite_kept)

theorem State.forcingLoss_kept {bm bt : Bool} {s₀ s : State} (b : Nat) (h : Kept bm bt s₀ s) :
    Kept bm bt s₀ (s.forcingLoss b) := by
  unfold State.forcingLoss
  repeat' (first
    | with_reducible exact h | with_reducible apply State.raiseBit_kept | with_reducible apply State.unready_kept
    | with_reducible apply State.toFirc_kept | with_reducible apply State.autoMove_kept
    | with_reducible apply State.set_kept | with_reducible apply State.forced_kept | with_reducible apply ite_kept)

theorem State.plainGates_kept {bm bt : Bool} {s₀ s : State} (want : Nat) (h : Kept bm bt s₀ s) : Kept bm bt s₀ (State.plainGates want s) := by
  unfold State.plainGates
  extract_lets old s1 mem opened c1 s2 core c2 s3 s4
  have h2 : Kept bm bt s₀ s2 := by
    show Kept bm bt s₀ (State.mk ..)
    simp only [kept_mk]
    exact Kept.upd rfl (State.wrN_kept _ _ h)
  have h3 : Kept bm bt s₀ s3 := by
    show Kept bm bt s₀ (State.mk ..)
    simp only [kept_mk]
    exact Kept.upd rfl h2
  clear_value s3
  have h4 : Kept bm bt s₀ s4 := by
    show Kept bm bt s₀ (ite _ _ _)
    split
    · exact h3
    · exact State.clear_kept _ h3
  split
  · exact h4
  · exact State.clear_kept _ h4

theorem State.lksOpen_kept {bm bt : Bool} {s₀ s : State} (b : Nat) (h : Kept bm bt s₀ s) : Kept bm bt s₀ (State.lksOpen b s) := by
  unfold State.lksOpen
  repeat' (first
    | with_reducible exact h | with_reducible exact Kept.refl _ | with_reducible apply State.set_kept
    | with_reducible apply forL_kept | with_reducible apply State.setCore_kept | with_reducible apply State.coreTo_kept
    | with_reducible apply ite_kept | intro _ | (simp only [kept_mk]; refine Kept.upd rfl ?_))

theorem State.lksClose_kept {bm bt : Bool} {s₀ s : State} (b : Nat) (h : Kept bm bt s₀ s) :
    Kept bm bt s₀ (State.lksClose b s) := by
  unfold State.lksClose
  repeat' (first
    | with_reducible exact h | with_reducible exact Kept.refl _ | with_reducible apply forL_kept
    | with_reducible apply State.closeCore_kept | with_reducible apply State.set_kept | with_reducible apply ite_kept
    | intro _)

theorem State.lksGate_kept {bm bt : Bool} {s₀ s : State} (want b : Nat) (h : Kept bm bt s₀ s) :
    Kept bm bt s₀ (State.lksGate want b s) := by
  unfold State.lksGate
  repeat' (first
    | with_reducible exact h | with_reducible apply State.lksOpen_kept | with_reducible apply State.lksClose_kept
    | with_reducible apply ite_kept)

theorem State.gates_kept {bm bt : Bool} {s₀ s : State} (h : Kept bm bt s₀ s) : Kept bm bt s₀ s.gates := by
  unfold State.gates
  repeat' (first
    | with_reducible exact h | with_reducible apply State.plainGates_kept | with_reducible apply State.lksGate_kept
    | with_reducible apply State.showAwake_kept | with_reducible apply State.setB_kept
    | (simp only [kept_mk]; refine Kept.upd rfl ?_))

theorem State.deepReached_kept {bm bt : Bool} {s₀ s : State} (h : Kept bm bt s₀ s) : Kept bm bt s₀ s.deepReached := by
  unfold State.deepReached
  try dsimp only
  repeat' (first
    | with_reducible exact h | with_reducible exact Kept.refl _ | with_reducible apply State.unready_kept
    | with_reducible apply ite_kept | intro _ | split)

theorem State.modeDone_kept {bm bt : Bool} {s₀ s : State} (h : Kept bm bt s₀ s) : Kept bm bt s₀ s.modeDone := by
  unfold State.modeDone
  try dsimp only
  repeat' (first
    | with_reducible exact h | with_reducible exact Kept.refl _ | with_reducible apply State.set_kept
    | with_reducible apply State.deepReached_kept | with_reducible apply ite_kept | intro _
    | (simp only [kept_mk]; refine Kept.upd rfl ?_) | split)

theorem State.mainSelect_kept {bm bt : Bool} {s₀ s : State} (v : Word) (h : Kept bm bt s₀ s) : Kept bm bt s₀ (s.mainSelect v) := by
  unfold State.mainSelect
  repeat' first | with_reducible exact h | with_reducible apply State.srcDone_kept | with_reducible apply State.mainTake_kept

theorem State.pllRefSelect_kept {bm bt : Bool} {s₀ s : State} (v : Word) (h : Kept bm bt s₀ s) :
    Kept bm bt s₀ (s.pllRefSelect v) := by
  unfold State.pllRefSelect
  repeat' (first
    | with_reducible exact h | with_reducible apply State.srcDone_kept | with_reducible apply State.pllRefTake_kept)

theorem State.see_kept {bm bt : Bool} {s₀ s : State} (b : Nat) (h : Kept bm bt s₀ s) : Kept bm bt s₀ (s.see b) := by
  unfold State.see
  repeat' first | with_reducible exact h | (simp only [kept_mk]; refine Kept.upd rfl ?_)

theorem State.wake_kept {bm bt : Bool} {s₀ s : State} (h : Kept bm bt s₀ s) : Kept bm bt s₀ s.wake := by
  unfold State.wake
  try dsimp only
  repeat' (first
    | with_reducible exact h | with_reducible exact Kept.refl _ | with_reducible apply State.set_kept
    | with_reducible apply State.setB_kept | with_reducible apply State.gates_kept | with_reducible apply ite_kept
    | intro _ | (simp only [kept_mk]; refine Kept.upd rfl ?_) | split)

theorem State.wakeBy_kept {bm bt : Bool} {s₀ s : State} (b : Nat) (h : Kept bm bt s₀ s) :
    Kept bm bt s₀ (State.wakeBy b s) := by
  unfold State.wakeBy
  try dsimp only
  repeat' (first
    | with_reducible exact h | with_reducible exact Kept.refl _ | with_reducible apply State.fireWake_kept
    | with_reducible apply State.wake_kept | intro _ | split)

/-! ### RegBase -/

theorem State.plainWrite_kept {bm bt : Bool} {s₀ s : State} (a : Nat) (v : Word) (h : Kept bm bt s₀ s) :
    Kept bm bt s₀ (s.plainWrite a v) := by
  unfold State.plainWrite
  try dsimp only
  repeat' (first
    | with_reducible exact h | with_reducible apply State.wr_kept | with_reducible apply State.refuse_kept | split)

theorem State.tuneCtrlWrite_kept {bm bt : Bool} {s₀ s : State} (v : Word) (h : Kept bm bt s₀ s) :
    Kept bm bt s₀ (s.tuneCtrlWrite v) := by
  unfold State.tuneCtrlWrite
  repeat' (first
    | with_reducible exact h | with_reducible apply State.plainWrite_kept | with_reducible apply State.tuneAbort_kept
    | with_reducible apply State.tuneStart_kept | with_reducible apply ite_kept)

theorem State.lenWrite_kept {bm bt : Bool} {s₀ s : State} (c : Nat) (bankB : Bool) (v : Word) (h : Kept bm bt s₀ s) :
    Kept bm bt s₀ (s.lenWrite c bankB v).2 := by
  unfold State.lenWrite
  try dsimp only
  repeat' (first
    | with_reducible exact h | with_reducible apply State.showSections_kept | with_reducible apply State.mapPut_kept
    | split)

theorem State.holdWrite_kept {bm bt : Bool} {s₀ s : State} (c : Nat) (x2 : Bool) (h : Kept bm bt s₀ s) :
    Kept bm bt s₀ (s.holdWrite c x2).2 := by
  unfold State.holdWrite
  repeat' first | with_reducible exact h | with_reducible apply State.setB_kept | split

theorem State.casCtrlWrite_kept {bm bt : Bool} {s₀ s : State} (c : Nat) (v : Word) (h : Kept bm bt s₀ s) :
    Kept bm bt s₀ (s.casCtrlWrite c v) := by
  unfold State.casCtrlWrite
  repeat' (first
    | with_reducible exact h | with_reducible apply State.setB_kept | with_reducible apply State.set_kept
    | with_reducible apply State.lenWrite_kept | with_reducible apply State.holdWrite_kept
    | with_reducible apply State.casEnable_kept | with_reducible apply State.casDisable_kept
    | with_reducible apply State.refuse_kept | with_reducible apply ite_kept)

theorem State.clampWrite_kept {bm bt : Bool} {s₀ s : State} (c off : Nat) (v : Word) (h : Kept bm bt s₀ s) :
    Kept bm bt s₀ (s.clampWrite c off v) := by
  unfold State.clampWrite
  repeat' (first
    | with_reducible exact h | with_reducible apply State.refuse_kept | with_reducible apply State.wr_kept
    | with_reducible apply ite_kept)

theorem State.showFe_kept {bm bt : Bool} {s₀ s : State} (h : Kept bm bt s₀ s) : Kept bm bt s₀ s.showFe := by
  unfold State.showFe
  repeat' first | with_reducible exact h | with_reducible apply State.setB_kept

theorem State.casRegWrite_kept {bm bt : Bool} {s₀ s : State} (c off : Nat) (v : Word) (h : Kept bm bt s₀ s) :
    Kept bm bt s₀ (s.casRegWrite c off v) := by
  unfold State.casRegWrite
  repeat' (first
    | with_reducible exact h | with_reducible apply State.casCtrlWrite_kept | with_reducible apply State.casSrcWrite_kept
    | with_reducible apply State.mapWrite_kept | with_reducible apply State.clampWrite_kept
    | with_reducible apply State.showFe_kept | with_reducible apply State.plainWrite_kept | with_reducible apply ite_kept)

theorem State.reinWrite_kept {bm bt : Bool} {s₀ s : State} (a : Nat) (v : Word) (h : Kept bm bt s₀ s) :
    Kept bm bt s₀ (s.reinWrite a v) := by
  unfold State.reinWrite
  repeat' (first
    | with_reducible exact h | with_reducible apply State.tuneCtrlWrite_kept | with_reducible apply State.casRegWrite_kept
    | with_reducible apply State.coefWrite_kept | with_reducible apply State.secStateWrite_kept
    | with_reducible apply State.plainWrite_kept | with_reducible apply ite_kept)

/-! ### Profile -/

theorem State.showFabric_kept {bm bt : Bool} {s₀ s : State} (h : Kept bm bt s₀ s) : Kept bm bt s₀ s.showFabric := by
  unfold State.showFabric
  repeat' (first
    | with_reducible exact h | with_reducible apply State.set_kept | with_reducible apply State.showTx_kept
    | with_reducible apply State.setB_kept)

theorem State.spi_kept {bm bt : Bool} {s₀ s : State} (instruction addrBytes addr len : Nat) (h : Kept bm bt s₀ s) :
    Kept bm bt s₀ (s.spi instruction addrBytes addr len) := by
  unfold State.spi
  try dsimp only
  repeat' (first
    | with_reducible exact h | with_reducible exact Kept.refl _ | with_reducible apply State.emit_kept | intro _
    | split)

theorem State.profileRead_kept {bm bt : Bool} {s₀ s : State} (d : Sfdp) (b : List Byte) (h : Kept bm bt s₀ s) :
    Kept bm bt s₀ (s.profileRead d b) := by
  unfold State.profileRead
  try dsimp only
  repeat' (first
    | with_reducible exact h | with_reducible exact Kept.refl _ | with_reducible apply State.spi_kept
    | with_reducible apply ite_kept | intro _ | (simp only [kept_mk]; refine Kept.upd rfl ?_) | split)

/-! ### Live -/

theorem State.readAs_kept {bm bt : Bool} {s₀ s : State} (who a : Nat) (h : Kept bm bt s₀ s) :
    Kept bm bt s₀ (s.readAs who a).2 := by
  unfold State.readAs
  repeat' first | with_reducible exact h | (simp only [kept_mk]; refine Kept.upd rfl ?_) | split

/-! ### Saddle -/

theorem State.ringWrite_kept {bm bt : Bool} {s₀ s : State} (x1 : Nat) (l : List Byte) (h : Kept bm bt s₀ s) :
    Kept bm bt s₀ (s.ringWrite x1 l) := by
  unfold State.ringWrite
  repeat' first | with_reducible exact h | (simp only [kept_mk]; refine Kept.upd rfl ?_)

theorem State.showRing_kept {bm bt : Bool} {s₀ s : State} (h : Kept bm bt s₀ s) : Kept bm bt s₀ s.showRing := by
  unfold State.showRing
  repeat' first | with_reducible exact h | with_reducible apply State.set_kept | split

theorem State.mramRecord_kept {bm bt : Bool} {s₀ s : State} (r : Rec) (h : Kept bm bt s₀ s) : Kept bm bt s₀ (s.mramRecord r) := by
  unfold State.mramRecord
  repeat' (first
    | with_reducible exact h | with_reducible apply State.bumpSat_kept | with_reducible apply State.ringWrite_kept
    | with_reducible apply State.showRing_kept | (simp only [kept_mk]; refine Kept.upd rfl ?_) | split)

theorem State.gapOut_kept {bm bt : Bool} {s₀ s : State} (i : Nat) (h : Kept bm bt s₀ s) : Kept bm bt s₀ (s.gapOut i) := by
  unfold State.gapOut
  repeat' (first
    | with_reducible exact h | with_reducible apply State.setPath_kept | with_reducible apply State.wrapReg_kept
    | with_reducible apply State.showLevel_kept | with_reducible apply State.enqueue_kept | split)

theorem State.holdEnd_kept {bm bt : Bool} {s₀ s : State} (r : Nat) (h : Kept bm bt s₀ s) : Kept bm bt s₀ (s.holdEnd r) := by
  unfold State.holdEnd
  repeat' (first
    | with_reducible exact h | with_reducible apply State.showLevel_kept | with_reducible apply State.gapOut_kept
    | with_reducible apply ite_kept)

theorem State.headWrite_kept {bm bt : Bool} {s₀ s : State} (r : Nat) (v : Word) (h : Kept bm bt s₀ s) :
    Kept bm bt s₀ (s.headWrite r v) := by
  unfold State.headWrite
  repeat' (first
    | with_reducible exact h | with_reducible apply State.raiseBit_kept | with_reducible apply State.showLevel_kept
    | with_reducible apply State.set_kept | with_reducible apply State.holdEnd_kept | with_reducible apply ite_kept)

theorem State.keepWrite_kept {bm bt : Bool} {s₀ s : State} (v : Nat) (h : Kept bm bt s₀ s) : Kept bm bt s₀ (s.keepWrite v) := by
  unfold State.keepWrite
  repeat' first | with_reducible exact h | with_reducible apply State.writeCb_kept | with_reducible apply State.set_kept

theorem State.listReads_kept {bm bt : Bool} {s₀ s : State} (l k : Nat) (h : Kept bm bt s₀ s) : Kept bm bt s₀ (s.listReads l k).2 := by
  induction k with
  | zero => exact h
  | succ k ih => exact State.readAs_kept _ _ ih

theorem State.mark_kept {bm bt : Bool} {s₀ s : State} (h : Kept bm bt s₀ s) : Kept bm bt s₀ s.mark := by
  unfold State.mark
  repeat' (first
    | with_reducible exact h | with_reducible apply State.clear_kept | with_reducible apply State.openIncident_kept)

theorem State.mramMiss_kept {bm bt : Bool} {s₀ s : State} (r : Rec) (h : Kept bm bt s₀ s) : Kept bm bt s₀ (s.mramMiss r) := by
  unfold State.mramMiss
  extract_lets f l
  split
  · apply State.mramFailed_kept
    simp only [kept_mk]
    exact Kept.upd rfl (State.fresh_kept h) (hmram := fun hm => sparseWf_writeBytes s.mram _ _ hm)
  · exact State.mramFailed_kept _ (State.showRing_kept (State.ringWrite_kept _ _ (State.fresh_kept h)))

theorem State.padRec_kept {bm bt : Bool} {s₀ s : State} (n : Nat) (h : Kept bm bt s₀ s) : Kept bm bt s₀ (s.padRec n).2 := by
  unfold State.padRec
  repeat' first | with_reducible exact h | with_reducible apply State.fresh_kept

theorem State.ringFound_kept {bm bt : Bool} {s₀ s : State} (h : Kept bm bt s₀ s) : Kept bm bt s₀ s.ringFound.1 := by
  unfold State.ringFound
  try dsimp only
  repeat' (first
    | with_reducible exact h | with_reducible apply State.showRing_kept | (simp only [kept_mk]; refine Kept.upd rfl ?_)
    | split)

theorem State.trig_kept {bm bt : Bool} {s₀ s : State} (l : Nat) (h : Kept bm bt s₀ s) : Kept bm bt s₀ (s.trig l) := by
  unfold State.trig
  repeat' first | with_reducible exact h | with_reducible apply State.fireList_kept | with_reducible apply ite_kept

theorem State.ringIrq_kept {bm bt : Bool} {s₀ s : State} (r prio : Nat) (h : Kept bm bt s₀ s) :
    Kept bm bt s₀ (s.ringIrq r prio) := by
  unfold State.ringIrq
  repeat' (first
    | with_reducible exact h | with_reducible apply State.msix_kept | with_reducible apply State.setPath_kept
    | with_reducible apply ite_kept)

theorem State.tailWrite_kept {bm bt : Bool} {s₀ s : State} (r : Nat) (l : List Byte) (h : Kept bm bt s₀ s) :
    Kept bm bt s₀ (s.tailWrite r l) := by
  unfold State.tailWrite
  repeat' (first
    | with_reducible exact h | with_reducible apply State.emit_kept | with_reducible apply State.set_kept
    | with_reducible apply State.setPath_kept)

theorem State.wearSecond_kept {bm bt : Bool} {s₀ s : State} (h : Kept bm bt s₀ s) : Kept bm bt s₀ s.wearSecond := by
  unfold State.wearSecond
  repeat' first | with_reducible exact h | (simp only [kept_mk]; refine Kept.upd rfl ?_)

theorem State.xtalBack_kept {bm bt : Bool} {s₀ s : State} (h : Kept bm bt s₀ s) : Kept bm bt s₀ s.xtalBack := by
  unfold State.xtalBack
  try dsimp only
  repeat' (first
    | with_reducible exact h | with_reducible exact Kept.refl _ | with_reducible apply State.pllRefStart_kept
    | with_reducible apply ite_kept | intro _ | (simp only [kept_mk]; refine Kept.upd rfl ?_) | split)

/-! ### Remount -/

theorem State.kindTo_kept {bm bt : Bool} {s₀ s : State} (k st cause : Nat) (h : Kept bm bt s₀ s) :
    Kept bm bt s₀ (s.kindTo k st cause) := by
  unfold State.kindTo
  repeat' first | with_reducible exact h | with_reducible apply State.set_kept

theorem State.repairTo_kept {bm bt : Bool} {s₀ s : State} (x1 st : Nat) (h : Kept bm bt s₀ s) :
    Kept bm bt s₀ (s.repairTo x1 st) := by
  unfold State.repairTo
  repeat' first | with_reducible exact h | (simp only [kept_mk]; refine Kept.upd rfl ?_)

theorem State.switched_kept {bm bt : Bool} {s₀ s : State} (k : Nat) (h : Kept bm bt s₀ s) : Kept bm bt s₀ (s.switched k) := by
  unfold State.switched
  repeat' (first
    | with_reducible exact h | with_reducible apply State.repairTo_kept | (simp only [kept_mk]; refine Kept.upd rfl ?_)
    | split)

theorem State.rmtFlag_kept {bm bt : Bool} {s₀ s : State} (f : Field) (h : Kept bm bt s₀ s) : Kept bm bt s₀ (s.rmtFlag f) := by
  unfold State.rmtFlag
  repeat' first | with_reducible exact h | with_reducible apply State.raiseBit_kept

theorem State.roleTo_kept {bm bt : Bool} {s₀ s : State} (n role : Nat) (h : Kept bm bt s₀ s) :
    Kept bm bt s₀ (s.roleTo n role) := by
  unfold State.roleTo
  repeat' (first
    | with_reducible exact h | with_reducible apply State.set_kept | with_reducible apply State.afterChans_kept
    | with_reducible apply State.toRest_kept | with_reducible apply State.leaveService_kept
    | with_reducible apply ite_kept)

theorem State.inputDead_kept {bm bt : Bool} {s₀ s : State} (i : Nat) (h : Kept bm bt s₀ s) : Kept bm bt s₀ (s.inputDead i) := by
  unfold State.inputDead
  repeat' (first
    | with_reducible exact h | with_reducible apply State.roleTo_kept | with_reducible apply State.showLksCap_kept
    | with_reducible apply State.raise_kept | with_reducible apply State.pumpsFull_kept
    | with_reducible apply State.set_kept | split)

theorem State.noSpare_kept {bm bt : Bool} {s₀ s : State} (k x2 : Nat) (h : Kept bm bt s₀ s) : Kept bm bt s₀ (s.noSpare k x2) := by
  unfold State.noSpare
  try dsimp only
  repeat' (first
    | with_reducible exact h | with_reducible apply State.rmtFlag_kept | with_reducible apply State.roleTo_kept
    | with_reducible apply State.inputDead_kept | split)

theorem State.wearSpare_kept {bm bt : Bool} {s₀ s : State} (k : Nat) (h : Kept bm bt s₀ s) : Kept bm bt s₀ (s.wearSpare k) := by
  unfold State.wearSpare
  repeat' first | with_reducible exact h | (simp only [kept_mk]; refine Kept.upd rfl ?_)

theorem State.sectorDone_kept {bm bt : Bool} {s₀ s : State} (h : Kept bm bt s₀ s) : Kept bm bt s₀ s.sectorDone := by
  unfold State.sectorDone
  try dsimp only
  repeat' (first
    | with_reducible exact h | with_reducible exact Kept.refl _ | with_reducible apply State.writeCb_kept
    | with_reducible apply State.wearGo_kept | with_reducible apply ite_kept | intro _ | split)

theorem State.convTo_kept {bm bt : Bool} {s₀ s : State} (x1 c : Nat) (h : Kept bm bt s₀ s) : Kept bm bt s₀ (s.convTo x1 c) := by
  unfold State.convTo
  repeat' first | with_reducible exact h | (simp only [kept_mk]; refine Kept.upd rfl ?_)

theorem State.inputMove_kept {bm bt : Bool} {s₀ s : State} (x1 c : Nat) (h : Kept bm bt s₀ s) : Kept bm bt s₀ (s.inputMove x1 c) := by
  unfold State.inputMove
  repeat' (first
    | with_reducible exact h | with_reducible apply State.convTo_kept | with_reducible apply ite_kept | intro _
    | (simp only [kept_mk]; refine Kept.upd rfl ?_) | split)

theorem State.logWrite_kept {bm bt : Bool} {s₀ s : State} (k : Nat) (h : Kept bm bt s₀ s) : Kept bm bt s₀ (s.logWrite k) := by
  unfold State.logWrite
  repeat' (first
    | with_reducible exact h | with_reducible apply State.bumpSat_kept | with_reducible apply State.set_kept
    | (simp only [kept_mk]; refine Kept.upd rfl ?_))

theorem State.named_kept {bm bt : Bool} {s₀ s : State} (k t p trigger : Nat) (h : Kept bm bt s₀ s) :
    Kept bm bt s₀ (s.named k t p trigger) := by
  unfold State.named
  try dsimp only
  repeat' (first
    | with_reducible exact h | with_reducible exact Kept.refl _ | with_reducible apply State.set_kept | intro _
    | (simp only [kept_mk]; refine Kept.upd rfl ?_) | split)

theorem State.spareless_kept {bm bt : Bool} {s₀ s : State} (k t trigger : Nat) (h : Kept bm bt s₀ s) :
    Kept bm bt s₀ (s.spareless k t trigger) := by
  unfold State.spareless
  try dsimp only
  repeat' (first
    | with_reducible exact h | with_reducible exact Kept.refl _ | with_reducible apply State.named_kept
    | with_reducible apply State.kindTo_kept | with_reducible apply State.rmtFlag_kept
    | with_reducible apply State.noSpare_kept | with_reducible apply State.logWrite_kept
    | with_reducible apply State.writeWear_kept | intro _ | split)

theorem State.phaseSwitch_kept {bm bt : Bool} {s₀ s : State} (x1 p : Nat) (h : Kept bm bt s₀ s) :
    Kept bm bt s₀ (s.phaseSwitch x1 p) := by
  unfold State.phaseSwitch
  repeat' (first
    | with_reducible exact h | with_reducible apply State.set_kept | with_reducible apply State.chPark_kept
    | with_reducible apply State.roleTo_kept | (simp only [kept_mk]; refine Kept.upd rfl ?_))

theorem State.mechanism_kept {bm bt : Bool} {s₀ s : State} (k : Nat) (h : Kept bm bt s₀ s) : Kept bm bt s₀ (s.mechanism k) := by
  unfold State.mechanism
  repeat' (first
    | with_reducible exact h | with_reducible apply State.phaseSwitch_kept | with_reducible apply State.swapRequest_kept
    | with_reducible apply State.setCore_kept | with_reducible apply State.coreTo_kept
    | with_reducible apply State.inputMove_kept | with_reducible apply State.convTo_kept | with_reducible apply State.pllRefStart_kept
    | (simp only [kept_mk]; refine Kept.upd rfl ?_) | split)

theorem State.switchNow_kept {bm bt : Bool} {s₀ s : State} (k : Nat) (h : Kept bm bt s₀ s) : Kept bm bt s₀ (s.switchNow k) := by
  unfold State.switchNow
  repeat' first | with_reducible exact h | with_reducible apply State.mechanism_kept | with_reducible apply State.kindTo_kept

theorem State.toWait_kept {bm bt : Bool} {s₀ s : State} (k t trigger : Nat) (named : Option Nat) (h : Kept bm bt s₀ s) :
    Kept bm bt s₀ (s.toWait k t trigger named) := by
  unfold State.toWait
  try dsimp only
  repeat' (first
    | with_reducible exact h | with_reducible exact Kept.refl _ | with_reducible apply State.named_kept
    | with_reducible apply State.kindTo_kept | with_reducible apply State.switchNow_kept
    | with_reducible apply State.spareless_kept | with_reducible apply ite_kept | intro _
    | (simp only [kept_mk]; refine Kept.upd rfl ?_) | split)

theorem State.takeUp_kept {bm bt : Bool} {s₀ s : State} (k x2 trigger : Nat) (h : Kept bm bt s₀ s) :
    Kept bm bt s₀ (s.takeUp k x2 trigger) := by
  unfold State.takeUp
  repeat' (first
    | with_reducible exact h | with_reducible apply State.toWait_kept | with_reducible apply State.rmtFlag_kept
    | with_reducible apply State.kindTo_kept | with_reducible apply State.set_kept | with_reducible apply ite_kept)

theorem State.nextTurn_kept {bm bt : Bool} {s₀ s : State} (k n : Nat) (h : Kept bm bt s₀ s) : Kept bm bt s₀ (s.nextTurn k n) := by
  induction n generalizing s with
  | zero => exact h
  | succ n ih =>
    unfold State.nextTurn
    split
    · exact h
    · split
      · exact h
      · apply ih
        apply State.takeUp_kept
        simp only [kept_mk]
        exact Kept.upd rfl h

theorem State.thenNext_kept {bm bt : Bool} {s₀ s : State} (k : Nat) (h : Kept bm bt s₀ s) : Kept bm bt s₀ (s.thenNext k) := by
  unfold State.thenNext
  repeat' first | with_reducible exact h | with_reducible apply State.nextTurn_kept

theorem State.rmtCancel_kept {bm bt : Bool} {s₀ s : State} (k : Nat) (h : Kept bm bt s₀ s) : Kept bm bt s₀ (s.rmtCancel k) := by
  unfold State.rmtCancel
  repeat' (first
    | with_reducible exact h | with_reducible apply State.set_kept | with_reducible apply State.thenNext_kept
    | with_reducible apply State.kindTo_kept | with_reducible apply ite_kept
    | (simp only [kept_mk]; refine Kept.upd rfl ?_))

theorem State.respare_kept {bm bt : Bool} {s₀ s : State} (k : Nat) (h : Kept bm bt s₀ s) : Kept bm bt s₀ (s.respare k) := by
  unfold State.respare
  try dsimp only
  repeat' (first
    | with_reducible exact h | with_reducible exact Kept.refl _ | with_reducible apply State.named_kept
    | with_reducible apply State.spareless_kept | with_reducible apply State.thenNext_kept
    | with_reducible apply ite_kept | intro _ | (simp only [kept_mk]; refine Kept.upd rfl ?_) | split)

theorem State.due_kept {bm bt : Bool} {s₀ s : State} (k x2 trigger : Nat) (h : Kept bm bt s₀ s) :
    Kept bm bt s₀ (s.due k x2 trigger) := by
  unfold State.due
  repeat' (first
    | with_reducible exact h | with_reducible apply State.thenNext_kept | with_reducible apply State.takeUp_kept
    | with_reducible apply ite_kept | (simp only [kept_mk]; refine Kept.upd rfl ?_))

theorem State.substFailed_kept {bm bt : Bool} {s₀ s : State} (k cause : Nat) (h : Kept bm bt s₀ s) :
    Kept bm bt s₀ (s.substFailed k cause) := by
  unfold State.substFailed
  try dsimp only
  repeat' (first
    | with_reducible exact h | with_reducible exact Kept.refl _ | with_reducible apply State.kindTo_kept
    | with_reducible apply State.rmtFlag_kept | with_reducible apply State.logWrite_kept
    | with_reducible apply State.writeWear_kept | with_reducible apply State.thenNext_kept | intro _ | split)

theorem State.cellSwitched_kept {bm bt : Bool} {s₀ s : State} (h : Kept bm bt s₀ s) : Kept bm bt s₀ s.cellSwitched := by
  unfold State.cellSwitched
  repeat' (first
    | with_reducible exact h | with_reducible apply State.kindTo_kept | with_reducible apply State.switched_kept
    | with_reducible apply State.substFailed_kept | with_reducible apply State.wearSpare_kept
    | with_reducible apply ite_kept)

theorem State.rmtReq_kept {bm bt : Bool} {s₀ s : State} (v : Word) (h : Kept bm bt s₀ s) : Kept bm bt s₀ (s.rmtReq v) := by
  unfold State.rmtReq
  repeat' (first
    | with_reducible exact h | with_reducible apply State.refuse_kept | with_reducible apply State.thenNext_kept
    | with_reducible apply State.toWait_kept | with_reducible apply State.switchNow_kept | with_reducible apply ite_kept)

theorem State.rmtRetire_kept {bm bt : Bool} {s₀ s : State} (v : Word) (h : Kept bm bt s₀ s) : Kept bm bt s₀ (s.rmtRetire v) := by
  unfold State.rmtRetire
  repeat' (first
    | with_reducible exact h | with_reducible apply State.refuse_kept | with_reducible apply State.roleTo_kept
    | with_reducible apply State.set_kept | with_reducible apply ite_kept | (simp only [kept_mk]; refine Kept.upd rfl ?_))

theorem State.restored_kept {bm bt : Bool} {s₀ s : State} (k : Nat) (h : Kept bm bt s₀ s) : Kept bm bt s₀ (s.restored k) := by
  unfold State.restored
  repeat' (first
    | with_reducible exact h | with_reducible apply State.roleTo_kept | with_reducible apply State.chPark_kept
    | with_reducible apply State.setCore_kept | with_reducible apply State.coreTo_kept
    | with_reducible apply State.convTo_kept | (simp only [kept_mk]; refine Kept.upd rfl ?_) | split)

theorem State.switchEnd_kept {bm bt : Bool} {s₀ s : State} (k : Nat) (e : SwEnd) (h : Kept bm bt s₀ s) :
    Kept bm bt s₀ (s.switchEnd k e) := by
  unfold State.switchEnd
  try dsimp only
  repeat' (first
    | with_reducible exact h | with_reducible exact Kept.refl _ | with_reducible apply State.cellSwitched_kept
    | with_reducible apply State.switched_kept | with_reducible apply State.kindTo_kept
    | with_reducible apply State.restored_kept | with_reducible apply State.substFailed_kept
    | with_reducible apply ite_kept | intro _ | (simp only [kept_mk]; refine Kept.upd rfl ?_) | split)

theorem State.trigNote_kept {bm bt : Bool} {s₀ s : State} (i : TrigIn) (h : Kept bm bt s₀ s) : Kept bm bt s₀ (s.trigNote i) := by
  unfold State.trigNote
  try dsimp only
  repeat' first | with_reducible exact h | (simp only [kept_mk]; refine Kept.upd rfl ?_) | split

theorem State.verifyFailed_kept {bm bt : Bool} {s₀ s : State} (k : Nat) (h : Kept bm bt s₀ s) :
    Kept bm bt s₀ (s.verifyFailed k) := by
  unfold State.verifyFailed
  repeat' (first
    | with_reducible exact h | with_reducible apply State.wearSpare_kept | with_reducible apply State.roleTo_kept
    | with_reducible apply State.coreTo_kept | with_reducible apply State.set_kept
    | with_reducible apply State.repairTo_kept | (simp only [kept_mk]; refine Kept.upd rfl ?_) | split)

/-! ### Power -/

theorem State.blank_kept {s₀ s : State} (h : Kept false false s₀ s) : Kept false false s₀ s.blank :=
  h.trans {
    regs := fun _ => rfl, mram := id, mem := fun _ => rfl, pins := fun _ => ⟨rfl, rfl, rfl, rfl⟩, brd := fun _ => ⟨rfl, rfl⟩
    sbg := fun _ => ⟨rfl, rfl, rfl⟩, hrn := fun _ => by simp [State.blank, Hrn.shaped], rein := fun _ => by simp [State.blank, Rein.shaped]
    fcst := fun _ => by simp [State.blank, Fcst.shaped], ring := fun _ => rfl, est := fun _ => rfl
    rmt := fun _ => by simp [State.blank, Rmt.shaped], fab := fun _ => ⟨rfl, rfl⟩, lks := fun _ => by simp [State.blank, Lks.shaped]
    pending := rfl, otp := rfl, out := List.suffix_rfl, free := Nat.le_succ _
    sameMem := fun e => absurd e (by simp), sameTime := fun e => absurd e (by simp) }

theorem State.cbSlotLoad_kept {bm bt : Bool} {s₀ s : State} (l : List Byte) (i : Nat) (h : Kept bm bt s₀ s) :
    Kept bm bt s₀ (State.cbSlotLoad l i s) := by
  unfold State.cbSlotLoad
  repeat' first | with_reducible exact h | with_reducible apply State.wr64_kept | with_reducible apply State.set_kept

theorem State.fenceJournal_kept {bm bt : Bool} {s₀ s : State} (h : Kept bm bt s₀ s) : Kept bm bt s₀ s.fenceJournal := by
  unfold State.fenceJournal
  try dsimp only
  repeat' (first
    | with_reducible exact h | with_reducible exact Kept.refl _ | with_reducible apply State.clear_kept
    | with_reducible apply State.bumpSat_kept | with_reducible apply ite_kept | intro _
    | (simp only [kept_mk]; refine Kept.upd rfl ?_) | split)

theorem State.fenceLfr_kept {bm bt : Bool} {s₀ s : State} (writing : Bool) (h : Kept bm bt s₀ s) :
    Kept bm bt s₀ (s.fenceLfr writing) := by
  unfold State.fenceLfr
  repeat' (first
    | with_reducible exact h | with_reducible apply State.set_kept | with_reducible apply State.bumpSat_kept
    | (simp only [kept_mk]; refine Kept.upd rfl ?_))

theorem State.fenceSbg_kept {bm bt : Bool} {s₀ s : State} (writing : Bool) (h : Kept bm bt s₀ s) :
    Kept bm bt s₀ (s.fenceSbg writing) := by
  unfold State.fenceSbg
  repeat' (first
    | with_reducible exact h | with_reducible apply State.mramRecord_kept | with_reducible apply State.setPath_kept
    | split)

theorem State.flushMram_kept {bm bt : Bool} {s₀ s : State} (h : Kept bm bt s₀ s) : Kept bm bt s₀ s.flushMram := by
  unfold State.flushMram
  repeat' (first
    | with_reducible exact h | with_reducible exact Kept.refl _ | with_reducible apply State.showLevel_kept
    | with_reducible apply State.setPath_kept | with_reducible apply State.mramRecord_kept
    | with_reducible apply foldl_kept | with_reducible apply ite_kept | intro _)

theorem State.goDown_kept {bm bt : Bool} {s₀ s : State} (h : Kept bm bt s₀ s) : Kept bm bt s₀ s.goDown := by
  unfold State.goDown
  repeat' (first
    | with_reducible exact h | with_reducible exact Kept.refl _ | with_reducible apply forN_kept
    | with_reducible apply State.chPark_kept | with_reducible apply State.set_kept | intro _
    | (simp only [kept_mk]; refine Kept.upd rfl ?_))

theorem State.tearLfr_kept {bm bt : Bool} {s₀ s : State} (h : Kept bm bt s₀ s) : Kept bm bt s₀ s.tearLfr := by
  unfold State.tearLfr
  split
  · exact h
  · exact h.torn (State.fresh_kept (Kept.refl s)) (sparseWf_writeBytes _ _ _)

theorem State.tearJnl_kept {bm bt : Bool} {s₀ s : State} (h : Kept bm bt s₀ s) : Kept bm bt s₀ s.tearJnl := by
  unfold State.tearJnl
  split
  · exact h
  · exact h.torn (State.fresh_kept (Kept.refl s)) (sparseWf_writeBytes _ _ _)

theorem State.lfrPowerUp_kept {bm bt : Bool} {s₀ s : State} (h : Kept bm bt s₀ s) : Kept bm bt s₀ s.lfrPowerUp := by
  unfold State.lfrPowerUp
  repeat' (first
    | with_reducible exact h | with_reducible apply State.set_kept | (simp only [kept_mk]; refine Kept.upd rfl ?_) | split)

theorem State.sbgPowerUp_kept {bm bt : Bool} {s₀ s : State} (h : Kept bm bt s₀ s) : Kept bm bt s₀ s.sbgPowerUp.1 := by
  unfold State.sbgPowerUp
  repeat' (first
    | with_reducible exact h | with_reducible exact Kept.refl _ | with_reducible apply State.wrN_kept
    | with_reducible apply State.wr64_kept | with_reducible apply State.setB_kept | with_reducible apply forN_kept
    | with_reducible apply State.cbSlotLoad_kept | with_reducible apply State.ringFound_kept | intro _
    | (simp only [kept_mk]; refine Kept.upd rfl ?_))

theorem State.powerUp_kept {s₀ s : State} (conn : Word) (h : Kept false false s₀ s) : Kept false false s₀ (s.powerUp conn) := by
  unfold State.powerUp
  repeat' (first
    | with_reducible exact h | with_reducible apply State.blank_kept | with_reducible apply State.wr_kept
    | with_reducible apply State.wrN_kept | with_reducible apply State.set_kept
    | with_reducible apply State.sbgPowerUp_kept | with_reducible apply State.writeCb_kept
    | with_reducible apply State.wearPowerUp_kept | with_reducible apply State.jnlPowerUp_kept
    | with_reducible apply State.lfrPowerUp_kept | with_reducible apply State.record_kept
    | (simp only [kept_mk]; refine Kept.upd rfl ?_))

/-! ### Load -/

theorem State.triggersPut_kept {bm bt : Bool} {s₀ s : State} (l : List Byte) (h : Kept bm bt s₀ s) :
    Kept bm bt s₀ (s.triggersPut l) := by
  unfold State.triggersPut
  repeat' (first
    | with_reducible exact h | with_reducible exact Kept.refl _ | with_reducible apply State.wrN_kept
    | with_reducible apply forN_kept | intro _)

theorem State.mezRoles_kept {bm bt : Bool} {s₀ s : State} (fitted : Nat) (h : Kept bm bt s₀ s) :
    Kept bm bt s₀ (s.mezRoles fitted) := by
  unfold State.mezRoles
  repeat' (first
    | with_reducible exact h | with_reducible exact Kept.refl _ | with_reducible apply forN_kept
    | with_reducible apply State.set_kept | with_reducible apply ite_kept | intro _
    | (simp only [kept_mk]; refine Kept.upd rfl ?_))

theorem State.applyProfile_kept {bm bt : Bool} {s₀ s : State} (h : Kept bm bt s₀ s) : Kept bm bt s₀ s.applyProfile := by
  unfold State.applyProfile
  repeat' (first
    | with_reducible exact h | with_reducible exact Kept.refl _ | with_reducible apply State.reinWrite_kept
    | with_reducible apply State.set_kept | with_reducible apply State.triggersPut_kept
    | with_reducible apply State.mezRoles_kept | with_reducible apply foldl_kept | intro _)

theorem State.armPend_kept {bm bt : Bool} {s₀ s : State} (b : Bool) (h : Kept bm bt s₀ s) : Kept bm bt s₀ (s.armPend b) := by
  unfold State.armPend
  repeat' first | with_reducible exact h | with_reducible apply State.setB_kept

theorem State.bootRefuse_kept {bm bt : Bool} {s₀ s : State} (code info bit : Nat) (h : Kept bm bt s₀ s) :
    Kept bm bt s₀ (s.bootRefuse code info bit) := by
  unfold State.bootRefuse
  repeat' first | with_reducible exact h | with_reducible apply State.refuse_kept | with_reducible apply State.bootErr_kept

theorem State.armGo_kept {bm bt : Bool} {s₀ s : State} (h : Kept bm bt s₀ s) : Kept bm bt s₀ s.armGo := by
  unfold State.armGo
  repeat' (first
    | with_reducible exact h | with_reducible apply State.armPend_kept | with_reducible apply State.beginArming_kept
    | with_reducible apply ite_kept)

theorem State.retryReset_kept {bm bt : Bool} {s₀ s : State} (h : Kept bm bt s₀ s) : Kept bm bt s₀ s.retryReset := by
  unfold State.retryReset
  try dsimp only
  repeat' (first
    | with_reducible exact h | with_reducible exact Kept.refl _ | with_reducible apply State.set_kept | intro _
    | (simp only [kept_mk]; refine Kept.upd rfl ?_) | split)

theorem State.arm_kept {bm bt : Bool} {s₀ s : State} (h : Kept bm bt s₀ s) : Kept bm bt s₀ s.arm := by
  unfold State.arm
  try dsimp only
  repeat' (first
    | with_reducible exact h | with_reducible exact Kept.refl _ | with_reducible apply State.armPend_kept
    | with_reducible apply State.retryReset_kept | with_reducible apply State.bootRefuse_kept
    | with_reducible apply State.bootErrClear_kept | with_reducible apply State.armGo_kept
    | with_reducible apply ite_kept | intro _ | split)

theorem State.discardSet_kept {bm bt : Bool} {s₀ s : State} (h : Kept bm bt s₀ s) : Kept bm bt s₀ s.discardSet := by
  unfold State.discardSet
  repeat' (first
    | with_reducible exact h | with_reducible apply State.showAck_kept | with_reducible apply State.clear_kept
    | with_reducible apply State.set_kept | (simp only [kept_mk]; refine Kept.upd rfl ?_))

theorem State.reject_kept {bm bt : Bool} {s₀ s : State} (code info : Nat) (h : Kept bm bt s₀ s) :
    Kept bm bt s₀ (s.reject code info) := by
  unfold State.reject
  repeat' (first
    | with_reducible exact h | with_reducible apply State.showAck_kept | with_reducible apply State.bundleTo_kept
    | with_reducible apply State.bootErr_kept | (simp only [kept_mk]; refine Kept.upd rfl ?_))

theorem State.load_kept {bm bt : Bool} {s₀ s : State} (h : Kept bm bt s₀ s) : Kept bm bt s₀ s.load := by
  unfold State.load
  repeat' (first
    | with_reducible exact h | with_reducible apply State.bootRefuse_kept | with_reducible apply State.discardSet_kept
    | with_reducible apply State.bootErrClear_kept | with_reducible apply State.reject_kept
    | with_reducible apply State.latchWake_kept | with_reducible apply State.showAck_kept
    | with_reducible apply State.emit_kept | with_reducible apply State.bundleTo_kept | with_reducible apply ite_kept
    | (simp only [kept_mk]; refine Kept.upd rfl ?_))

theorem State.fetchAbort_kept {bm bt : Bool} {s₀ s : State} (h : Kept bm bt s₀ s) : Kept bm bt s₀ s.fetchAbort := by
  unfold State.fetchAbort
  repeat' (first
    | with_reducible exact h | with_reducible apply State.bootErr_kept | with_reducible apply State.bundleTo_kept
    | with_reducible apply ite_kept | (simp only [kept_mk]; refine Kept.upd rfl ?_))

theorem State.firstLoaded_kept {bm bt : Bool} {s₀ s : State} (h : Kept bm bt s₀ s) : Kept bm bt s₀ s.firstLoaded := by
  unfold State.firstLoaded
  repeat' (first
    | with_reducible exact h | with_reducible apply State.applyProfile_kept | with_reducible apply ite_kept
    | (simp only [kept_mk]; refine Kept.upd rfl ?_))

theorem State.weightsIn_kept {bt : Bool} {s₀ s : State} (b : List Byte) (h : Kept false bt s₀ s) :
    Kept false bt s₀ (s.weightsIn b) := by
  unfold State.weightsIn
  repeat' (first
    | with_reducible exact h | with_reducible apply State.slotPut_kept | with_reducible apply State.showGen_kept
    | with_reducible apply State.setTrain_kept | split)

/-! ### Pcie -/

theorem State.linkGone_kept {bt : Bool} {s₀ s : State} (h : Kept false bt s₀ s) : Kept false bt s₀ s.linkGone := by
  unfold State.linkGone
  repeat' (first
    | with_reducible exact h | with_reducible apply State.fetchAbort_kept | with_reducible apply State.hostQueuesOff_kept
    | with_reducible apply State.hostLost_kept | (simp only [kept_mk]; refine Kept.upd rfl ?_))

theorem State.sendHeld_kept {bm bt : Bool} {s₀ s : State} (h : Kept bm bt s₀ s) : Kept bm bt s₀ s.sendHeld := by
  unfold State.sendHeld
  repeat' (first
    | with_reducible exact h | with_reducible exact Kept.refl _ | with_reducible apply forL_kept
    | with_reducible apply State.emit_kept | intro _ | (simp only [kept_mk]; refine Kept.upd rfl ?_))

theorem State.sfpRead_kept {bm bt : Bool} {s₀ s : State} (p : Nat) (h : Kept bm bt s₀ s) : Kept bm bt s₀ (s.sfpRead p) := by
  unfold State.sfpRead
  repeat' first | with_reducible exact h | with_reducible apply State.emit_kept

/-! ### Arm -/

theorem State.armDue_kept {bm bt : Bool} {s₀ s : State} (h : Kept bm bt s₀ s) : Kept bm bt s₀ s.armDue := by
  unfold State.armDue
  repeat' (first
    | with_reducible exact h | with_reducible apply State.armPend_kept | with_reducible apply State.beginArming_kept
    | with_reducible apply State.bootErrClear_kept | with_reducible apply State.bootRefuse_kept
    | with_reducible apply ite_kept)

theorem State.ffIntoBase_kept {bm bt : Bool} {s₀ s : State} (h : Kept bm bt s₀ s) : Kept bm bt s₀ s.ffIntoBase := by
  unfold State.ffIntoBase
  repeat' first | with_reducible exact h | with_reducible apply State.wrI_kept | split

theorem State.disarmBegin_kept {bm bt : Bool} {s₀ s : State} (h : Kept bm bt s₀ s) : Kept bm bt s₀ s.disarmBegin := by
  unfold State.disarmBegin
  try dsimp only
  repeat' (first
    | with_reducible exact h | with_reducible exact Kept.refl _ | with_reducible apply State.tuneAbort_kept
    | with_reducible apply State.ffIntoBase_kept | with_reducible apply State.set_kept
    | with_reducible apply State.clearCauses_kept | with_reducible apply State.jnlTrigger_kept
    | with_reducible apply State.disarmStep_kept | with_reducible apply forN_kept | with_reducible apply ite_kept
    | intro _ | (simp only [kept_mk]; refine Kept.upd rfl ?_) | split)

theorem State.disarm_kept {bm bt : Bool} {s₀ s : State} (h : Kept bm bt s₀ s) : Kept bm bt s₀ s.disarm := by
  unfold State.disarm
  repeat' (first
    | with_reducible exact h | with_reducible apply State.armPend_kept | with_reducible apply State.disarmBegin_kept
    | with_reducible apply ite_kept | (simp only [kept_mk]; refine Kept.upd rfl ?_))

theorem State.clearLatch_kept {bm bt : Bool} {s₀ s : State} (h : Kept bm bt s₀ s) : Kept bm bt s₀ s.clearLatch := by
  unfold State.clearLatch
  try dsimp only
  repeat' (first
    | with_reducible exact h | with_reducible apply State.bootRefuse_kept | with_reducible apply State.clearCauses_kept
    | with_reducible apply State.enter_kept | with_reducible apply State.set_kept
    | (simp only [kept_mk]; refine Kept.upd rfl ?_) | split)

theorem State.bootCtrlWrite_kept {bm bt : Bool} {s₀ s : State} (v : Word) (h : Kept bm bt s₀ s) :
    Kept bm bt s₀ (s.bootCtrlWrite v) := by
  unfold State.bootCtrlWrite
  repeat' (first
    | with_reducible exact h | with_reducible apply State.load_kept | with_reducible apply State.disarm_kept
    | with_reducible apply State.arm_kept | with_reducible apply State.clearLatch_kept | with_reducible apply ite_kept)

theorem State.mezCheck_kept {bm bt : Bool} {s₀ s : State} (h : Kept bm bt s₀ s) : Kept bm bt s₀ s.mezCheck.1 := by
  unfold State.mezCheck
  repeat' first | with_reducible exact h | (simp only [kept_mk]; refine Kept.upd rfl ?_)

theorem State.rectReads_kept {bm bt : Bool} {s₀ s : State} (r : Nat) (h : Kept bm bt s₀ s) : Kept bm bt s₀ (s.rectReads r) := by
  unfold State.rectReads
  repeat' first | with_reducible exact h | with_reducible apply State.pmbus_kept

theorem State.rectCheck_kept {bm bt : Bool} {s₀ s : State} (ids : List RectId) (h : Kept bm bt s₀ s) :
    Kept bm bt s₀ (s.rectCheck ids).1 := by
  unfold State.rectCheck
  repeat' (first
    | with_reducible exact h | with_reducible exact Kept.refl _ | with_reducible apply forN_kept
    | with_reducible apply State.rectReads_kept | intro _ | split)

theorem State.enabledStart_kept {bm bt : Bool} {s₀ s : State} (h : Kept bm bt s₀ s) : Kept bm bt s₀ s.enabledStart := by
  unfold State.enabledStart
  try dsimp only
  repeat' (first
    | with_reducible exact h | with_reducible exact Kept.refl _ | with_reducible apply State.casEnable_kept
    | with_reducible apply forN_kept | with_reducible apply ite_kept | intro _ | split)

theorem State.stepTo_kept {bm bt : Bool} {s₀ s : State} (k : Nat) (h : Kept bm bt s₀ s) : Kept bm bt s₀ (s.stepTo k) := by
  unfold State.stepTo
  repeat' first | with_reducible exact h | (simp only [kept_mk]; refine Kept.upd rfl ?_)

theorem State.toPassive_kept {bm bt : Bool} {s₀ s : State} (h : Kept bm bt s₀ s) : Kept bm bt s₀ s.toPassive := by
  unfold State.toPassive
  repeat' (first
    | with_reducible exact h | with_reducible apply State.windowOff_kept | with_reducible apply State.cascadesOff_kept
    | with_reducible apply State.jnlTrigger_kept | with_reducible apply State.enter_kept
    | with_reducible apply State.clearCauses_kept | with_reducible apply State.set_kept | with_reducible apply ite_kept
    | (simp only [kept_mk]; refine Kept.upd rfl ?_))

end Sys2Proof.Machine
end

