-- ==== Sys2Proof/Laws/KeptHost.lean ====
section
/-! SUPPORT. What the operations of these parts keep (`Kept`): the fabric's leads, security and register writes. -/

-- One proof at a time: in the package's one text, proofs that wait for one another would each hold a thread.
set_option Elab.async false

namespace Sys2Proof.Machine

/-! ### Leads -/

theorem State.checkDigest_kept {bm bt : Bool} {s₀ s : State} (d : Word) (h : Kept bm bt s₀ s) :
    Kept bm bt s₀ (s.checkDigest d) := by
  unfold State.checkDigest
  repeat' (first
    | with_reducible exact h | with_reducible apply State.raise_kept | with_reducible apply State.raiseBit_kept
    | with_reducible apply ite_kept)

theorem State.loseLead_kept {bm bt : Bool} {s₀ s : State} (hall : Bool) (h : Kept bm bt s₀ s) :
    Kept bm bt s₀ (s.loseLead hall) := by
  unfold State.loseLead
  try dsimp only
  repeat' (first
    | with_reducible exact h | with_reducible exact Kept.refl _ | with_reducible apply State.set_kept
    | with_reducible apply State.clear_kept | with_reducible apply ite_kept | intro _
    | (simp only [kept_mk]; refine Kept.upd rfl ?_) | split)

theorem State.countMiss_kept {bm bt : Bool} {s₀ s : State} (p : Nat) (h : Kept bm bt s₀ s) : Kept bm bt s₀ (s.countMiss p) := by
  unfold State.countMiss
  repeat' (first
    | with_reducible exact h | with_reducible apply State.set_kept | with_reducible apply State.bumpSat_kept
    | with_reducible apply ite_kept)

theorem State.yieldLead_kept {bm bt : Bool} {s₀ s : State} (h : Kept bm bt s₀ s) : Kept bm bt s₀ s.yieldLead := by
  unfold State.yieldLead
  repeat' (first
    | with_reducible exact h | with_reducible apply State.showTime_kept | with_reducible apply State.clear_kept
    | with_reducible apply State.dropLeads_kept)

theorem State.followHall_kept {bm bt : Bool} {s₀ s : State} (id epoch : Nat) (h : Kept bm bt s₀ s) :
    Kept bm bt s₀ (s.followHall id epoch) := by
  unfold State.followHall
  dsimp only
  repeat' (first
    | with_reducible exact h | with_reducible apply State.raiseBit_kept | with_reducible apply State.set_kept
    | with_reducible apply ite_kept | (simp only [kept_mk]; refine Kept.upd rfl ?_))

theorem State.followTeam_kept {bm bt : Bool} {s₀ s : State} (id epoch : Nat) (h : Kept bm bt s₀ s) :
    Kept bm bt s₀ (s.followTeam id epoch) := by
  unfold State.followTeam
  repeat' (first
    | with_reducible exact h | with_reducible apply State.raiseBit_kept | with_reducible apply State.set_kept
    | with_reducible apply ite_kept)

theorem State.hallStart_kept {bm bt : Bool} {s₀ s : State} (h : Kept bm bt s₀ s) : Kept bm bt s₀ s.hallStart.2 := by
  unfold State.hallStart
  repeat' first | with_reducible exact h | with_reducible apply State.fresh_kept | split

theorem State.keepShare_kept {bm bt : Bool} {s₀ s : State} (r : ShareRec) (h : Kept bm bt s₀ s) :
    Kept bm bt s₀ (s.keepShare r) := by
  unfold State.keepShare
  repeat' first | with_reducible exact h | (simp only [kept_mk]; refine Kept.upd rfl ?_)

theorem State.showShort_kept {bm bt : Bool} {s₀ s : State} (h : Kept bm bt s₀ s) : Kept bm bt s₀ s.showShort := by
  unfold State.showShort
  repeat' first | with_reducible exact h | with_reducible apply State.setB_kept

theorem State.keepSumm_kept {bm bt : Bool} {s₀ s : State} (r : SummRec) (h : Kept bm bt s₀ s) : Kept bm bt s₀ (s.keepSumm r) := by
  unfold State.keepSumm
  repeat' (first
    | with_reducible exact h | with_reducible apply State.showShort_kept | with_reducible apply State.set_kept
    | with_reducible apply ite_kept | (simp only [kept_mk]; refine Kept.upd rfl ?_))

theorem State.remoteAlarm_kept {bm bt : Bool} {s₀ s : State} (src : Nat) (a : AlarmIn) (h : Kept bm bt s₀ s) :
    Kept bm bt s₀ (s.remoteAlarm src a) := by
  unfold State.remoteAlarm
  repeat' first | with_reducible exact h | with_reducible apply State.record_kept

theorem State.shareLate_kept {bm bt : Bool} {s₀ s : State} (k : Nat) (h : Kept bm bt s₀ s) : Kept bm bt s₀ (s.shareLate k) := by
  unfold State.shareLate
  repeat' first | with_reducible exact h | (simp only [kept_mk]; refine Kept.upd rfl ?_)

theorem State.standalone_kept {bm bt : Bool} {s₀ s : State} (h : Kept bm bt s₀ s) : Kept bm bt s₀ s.standalone.2 := by
  unfold State.standalone
  repeat' (first
    | with_reducible exact h | with_reducible apply State.fresh_kept | (simp only [kept_mk]; refine Kept.upd rfl ?_)
    | split)

theorem State.summLate_kept {bm bt : Bool} {s₀ s : State} (team src : Nat) (h : Kept bm bt s₀ s) :
    Kept bm bt s₀ (s.summLate team src) := by
  unfold State.summLate
  try dsimp only
  repeat' (first
    | with_reducible exact h | with_reducible exact Kept.refl _ | with_reducible apply ite_kept | intro _
    | (simp only [kept_mk]; refine Kept.upd rfl ?_) | split)

theorem State.summTake_kept {bm bt : Bool} {s₀ s : State} (i : SummIn) (h : Kept bm bt s₀ s) :
    Kept bm bt s₀ (s.summTake i) := by
  unfold State.summTake
  try dsimp only
  repeat' (first
    | with_reducible exact h | with_reducible exact Kept.refl _ | with_reducible apply State.keepSumm_kept
    | with_reducible apply State.loseLead_kept | with_reducible apply State.followTeam_kept
    | with_reducible apply ite_kept | intro _ | split)

theorem State.syncTake_kept {bm bt : Bool} {s₀ s : State} (i : SyncIn) (h : Kept bm bt s₀ s) :
    Kept bm bt s₀ (s.syncTake i) := by
  unfold State.syncTake
  try dsimp only
  repeat' (first
    | with_reducible exact h | with_reducible exact Kept.refl _ | with_reducible apply State.checkDigest_kept
    | with_reducible apply State.loseLead_kept | with_reducible apply State.followHall_kept
    | with_reducible apply State.wrI_kept | with_reducible apply State.showShort_kept | with_reducible apply ite_kept
    | intro _ | (simp only [kept_mk]; refine Kept.upd rfl ?_) | split)

theorem State.takeLead_kept {bm bt : Bool} {s₀ s : State} (hall : Bool) (h : Kept bm bt s₀ s) :
    Kept bm bt s₀ (s.takeLead hall) := by
  unfold State.takeLead
  repeat' (first
    | with_reducible exact h | with_reducible apply State.set_kept | with_reducible apply State.followHall_kept
    | with_reducible apply State.followTeam_kept | with_reducible apply ite_kept
    | (simp only [kept_mk]; refine Kept.upd rfl ?_))

theorem State.teamTarget_kept {bm bt : Bool} {s₀ s : State} (h : Kept bm bt s₀ s) : Kept bm bt s₀ s.teamTarget.2 := by
  unfold State.teamTarget
  repeat' first | with_reducible exact h | with_reducible apply State.fresh_kept | split

/-! ### Secure -/

theorem State.reportClear_kept {bm bt : Bool} {s₀ s : State} (h : Kept bm bt s₀ s) : Kept bm bt s₀ s.reportClear :=
  h.trans { Kept.refl s with regs := sparseWf_filter _ }

theorem State.attRequest_kept {bm bt : Bool} {s₀ s : State} (h : Kept bm bt s₀ s) : Kept bm bt s₀ s.attRequest := by
  unfold State.attRequest
  repeat' (first
    | with_reducible exact h | with_reducible apply State.set_kept | with_reducible apply State.reportClear_kept
    | with_reducible apply ite_kept)

theorem State.svnRequest_kept {bm bt : Bool} {s₀ s : State} (v : Word) (h : Kept bm bt s₀ s) : Kept bm bt s₀ (s.svnRequest v) := by
  unfold State.svnRequest
  repeat' (first
    | with_reducible exact h | with_reducible apply State.set_kept | with_reducible apply State.refuse_kept
    | with_reducible apply ite_kept | (simp only [kept_mk]; refine Kept.upd rfl ?_))

theorem State.tapTo_kept {bm bt : Bool} {s₀ s : State} (i : Nat) (h : Kept bm bt s₀ s) : Kept bm bt s₀ (s.tapTo i) := by
  unfold State.tapTo
  repeat' first | with_reducible exact h | (simp only [kept_mk]; refine Kept.upd rfl ?_)

theorem State.tapTest_kept {bm bt : Bool} {s₀ s : State} (i : Nat) (h : Kept bm bt s₀ s) : Kept bm bt s₀ (s.tapTest i) := by
  unfold State.tapTest
  repeat' (first
    | with_reducible exact h | with_reducible apply State.tapTo_kept | with_reducible apply State.fresh_kept
    | with_reducible apply State.refuse_kept | with_reducible apply ite_kept)

theorem State.heldWrite_kept {bm bt : Bool} {s₀ s : State} (a : Nat) (v act : Word) (held : List (Nat × Nat)) (bad : Bool) (h : Kept bm bt s₀ s) :
    Kept bm bt s₀ (s.heldWrite a v act held bad) := by
  unfold State.heldWrite
  try dsimp only
  repeat' (first
    | with_reducible exact h | with_reducible exact Kept.refl _ | with_reducible apply State.wr_kept
    | with_reducible apply State.refuse_kept | with_reducible apply foldl_kept | with_reducible apply ite_kept
    | intro _ | (simp only [kept_mk]; refine Kept.upd rfl ?_) | split)

/-! ### RegWrite -/

theorem State.guardedWrite_kept {bm bt : Bool} {s₀ s : State} (a : Nat) (v act : Word) (veto : List (Nat × Nat)) (h : Kept bm bt s₀ s) :
    Kept bm bt s₀ (s.guardedWrite a v act veto) := by
  unfold State.guardedWrite
  try dsimp only
  repeat' (first
    | with_reducible exact h | with_reducible exact Kept.refl _ | with_reducible apply State.heldWrite_kept | intro _
    | split)

theorem State.bootWrite_kept {bm bt : Bool} {s₀ s : State} (a : Nat) (v : Word) (h : Kept bm bt s₀ s) :
    Kept bm bt s₀ (s.bootWrite a v) := by
  unfold State.bootWrite
  repeat' (first
    | with_reducible exact h | with_reducible apply State.bootCtrlWrite_kept | with_reducible apply State.svnRequest_kept
    | with_reducible apply State.guardedWrite_kept | with_reducible apply State.attRequest_kept
    | with_reducible apply State.plainWrite_kept | with_reducible apply ite_kept)

theorem State.brdWrite_kept {bm bt : Bool} {s₀ s : State} (byTack : Bool) (a : Nat) (v : Word) (h : Kept bm bt s₀ s) :
    Kept bm bt s₀ (s.brdWrite byTack a v) := by
  unfold State.brdWrite
  repeat' (first
    | with_reducible exact h | with_reducible apply State.hostKick_kept | with_reducible apply State.refuse_kept
    | with_reducible apply State.set_kept | with_reducible apply State.plainWrite_kept | with_reducible apply ite_kept)

theorem State.clkWrite_kept {bm bt : Bool} {s₀ s : State} (a : Nat) (v : Word) (h : Kept bm bt s₀ s) :
    Kept bm bt s₀ (s.clkWrite a v) := by
  unfold State.clkWrite
  repeat' (first
    | with_reducible exact h | with_reducible apply State.srcWrite_kept | with_reducible apply State.guardedWrite_kept
    | with_reducible apply State.fmeasStart_kept | with_reducible apply State.modeSelect_kept
    | with_reducible apply State.plainWrite_kept | with_reducible apply ite_kept)

theorem State.estWrite_kept {bm bt : Bool} {s₀ s : State} (a : Nat) (v : Word) (h : Kept bm bt s₀ s) :
    Kept bm bt s₀ (s.estWrite a v) := by
  unfold State.estWrite
  repeat' (first
    | with_reducible exact h | with_reducible apply State.guardedWrite_kept | with_reducible apply State.restNow_kept
    | with_reducible apply State.writeNow_kept | with_reducible apply State.efcWrite_kept
    | with_reducible apply State.plainWrite_kept | with_reducible apply ite_kept)

theorem State.fabWrite_kept {bm bt : Bool} {s₀ s : State} (a : Nat) (v : Word) (h : Kept bm bt s₀ s) :
    Kept bm bt s₀ (s.fabWrite a v) := by
  unfold State.fabWrite
  repeat' (first
    | with_reducible exact h | with_reducible apply State.guardedWrite_kept | with_reducible apply State.yieldLead_kept
    | with_reducible apply State.plainWrite_kept | with_reducible apply ite_kept)

theorem State.fleetWrite_kept {bm bt : Bool} {s₀ s : State} (v : Word) (h : Kept bm bt s₀ s) : Kept bm bt s₀ (s.fleetWrite v) := by
  unfold State.fleetWrite
  repeat' (first
    | with_reducible exact h | with_reducible apply State.refuse_kept | with_reducible apply State.raiseBit_kept
    | with_reducible apply State.guardedWrite_kept | with_reducible apply State.plainWrite_kept
    | with_reducible apply State.showFleet_kept | with_reducible apply ite_kept)

theorem State.grpWrite_kept {bm bt : Bool} {s₀ s : State} (g : Nat) (v : Word) (h : Kept bm bt s₀ s) :
    Kept bm bt s₀ (s.grpWrite g v) := by
  unfold State.grpWrite
  repeat' (first
    | with_reducible exact h | with_reducible apply State.guardedWrite_kept | with_reducible apply State.groupEnable_kept
    | with_reducible apply State.groupDisable_kept | with_reducible apply ite_kept)

theorem State.hrnWrite_kept {bm bt : Bool} {s₀ s : State} (a : Nat) (v : Word) (h : Kept bm bt s₀ s) :
    Kept bm bt s₀ (s.hrnWrite a v) := by
  unfold State.hrnWrite
  try dsimp only
  repeat' (first
    | with_reducible exact h | with_reducible exact Kept.refl _ | with_reducible apply State.forceShed_kept
    | with_reducible apply State.grpWrite_kept | with_reducible apply State.heldWrite_kept
    | with_reducible apply State.syncSelect_kept | with_reducible apply State.ovRelease_kept
    | with_reducible apply State.plainWrite_kept | with_reducible apply ite_kept | intro _ | split)

theorem State.qCtrlWrite_kept {bm bt : Bool} {s₀ s : State} (d q : Nat) (v : Word) (h : Kept bm bt s₀ s) :
    Kept bm bt s₀ (s.qCtrlWrite d q v) := by
  unfold State.qCtrlWrite
  repeat' (first
    | with_reducible exact h | with_reducible apply State.guardedWrite_kept | with_reducible apply State.queueEnable_kept
    | with_reducible apply ite_kept)

theorem State.queueWrite_kept {bm bt : Bool} {s₀ s : State} (byTack : Bool) (d q o a : Nat) (v : Word) (h : Kept bm bt s₀ s) :
    Kept bm bt s₀ (s.queueWrite byTack d q o a v) := by
  unfold State.queueWrite
  repeat' (first
    | with_reducible exact h | with_reducible apply State.tackOwned_kept | with_reducible apply State.qCtrlWrite_kept
    | with_reducible apply State.refuse_kept | with_reducible apply State.plainWrite_kept | with_reducible apply ite_kept)

theorem State.tierWrite_kept {bt : Bool} {s₀ s : State} (byTack : Bool) (d ch o a : Nat) (v : Word) (h : Kept false bt s₀ s) :
    Kept false bt s₀ (s.tierWrite byTack d ch o a v) := by
  unfold State.tierWrite
  repeat' (first
    | with_reducible exact h | with_reducible apply State.tackOwned_kept | with_reducible apply State.guardedWrite_kept
    | with_reducible apply State.tierAbort_kept | with_reducible apply State.tierStart_kept
    | with_reducible apply State.plainWrite_kept | with_reducible apply ite_kept)

theorem State.trainWrite_kept {bt : Bool} {s₀ s : State} (v : Word) (h : Kept false bt s₀ s) :
    Kept false bt s₀ (s.trainWrite v) := by
  unfold State.trainWrite
  repeat' (first
    | with_reducible exact h | with_reducible apply State.guardedWrite_kept | with_reducible apply State.promote_kept
    | with_reducible apply State.revert_kept | with_reducible apply State.transfer_kept
    | with_reducible apply State.set_kept | with_reducible apply ite_kept)

theorem State.lksWrite_kept {bt : Bool} {s₀ s : State} (byTack : Bool) (a : Nat) (v : Word) (h : Kept false bt s₀ s) :
    Kept false bt s₀ (s.lksWrite byTack a v) := by
  unfold State.lksWrite
  repeat' (first
    | with_reducible exact h | with_reducible apply State.queueWrite_kept | with_reducible apply State.tierWrite_kept
    | with_reducible apply State.trainWrite_kept | with_reducible apply State.fleetWrite_kept
    | with_reducible apply State.showFleet_kept | with_reducible apply State.plainWrite_kept
    | with_reducible apply ite_kept)

theorem State.spurWrite_kept {bm bt : Bool} {s₀ s : State} (a : Nat) (v : Word) (h : Kept bm bt s₀ s) :
    Kept bm bt s₀ (s.spurWrite a v) := by
  unfold State.spurWrite
  try dsimp only
  repeat' (first
    | with_reducible exact h | with_reducible exact Kept.refl _ | with_reducible apply State.guardedWrite_kept
    | with_reducible apply State.set_kept | with_reducible apply State.heldWrite_kept
    | with_reducible apply State.plainWrite_kept | with_reducible apply State.headStep_kept
    | with_reducible apply State.quietPut_kept | with_reducible apply ite_kept | intro _ | split)

theorem forBits_kept {bm bt : Bool} {s₀ s : State} (v : Word) (lo n : Nat) (f : Nat → State → State) (h : Kept bm bt s₀ s)
    (hf : ∀ i t, Kept bm bt t (f i t)) : Kept bm bt s₀ (forBits v lo n f s) := by
  refine forN_kept h fun i t => ?_
  split
  · exact hf i t
  · exact Kept.refl t

theorem State.ringRegWrite_kept {bm bt : Bool} {s₀ s : State} (byTack : Bool) (a : Nat) (v : Word) (h : Kept bm bt s₀ s) :
    Kept bm bt s₀ (s.ringRegWrite byTack a v) := by
  unfold State.ringRegWrite
  try dsimp only
  repeat' (first
    | with_reducible exact h | with_reducible exact Kept.refl _ | with_reducible apply State.balDisable_kept
    | with_reducible apply State.enumRequest_kept | with_reducible apply State.guardedWrite_kept
    | with_reducible apply State.plainWrite_kept | with_reducible apply State.cornerWrite_kept
    | with_reducible apply State.balCmd_kept | with_reducible apply State.ringKick_kept
    | with_reducible apply State.owStart_kept | with_reducible apply State.clear_kept
    | with_reducible apply forBits_kept | with_reducible apply ite_kept | intro _ | split)

theorem State.sbgWrite_kept {bm bt : Bool} {s₀ s : State} (a : Nat) (v : Word) (h : Kept bm bt s₀ s) :
    Kept bm bt s₀ (s.sbgWrite a v) := by
  unfold State.sbgWrite
  repeat' (first
    | with_reducible exact h | with_reducible exact Kept.refl _ | with_reducible apply State.mark_kept
    | with_reducible apply State.keepWrite_kept | with_reducible apply forBits_kept | with_reducible apply State.trig_kept
    | with_reducible apply State.refuse_kept | with_reducible apply State.plainWrite_kept | with_reducible apply ite_kept
    | intro _)

theorem State.rmtWrite_kept {bm bt : Bool} {s₀ s : State} (a : Nat) (v : Word) (h : Kept bm bt s₀ s) :
    Kept bm bt s₀ (s.rmtWrite a v) := by
  unfold State.rmtWrite
  repeat' (first
    | with_reducible exact h | with_reducible exact Kept.refl _ | with_reducible apply forBits_kept
    | with_reducible apply State.rmtCancel_kept | with_reducible apply State.guardedWrite_kept
    | with_reducible apply State.rmtReq_kept | with_reducible apply State.rmtRetire_kept
    | with_reducible apply State.plainWrite_kept | with_reducible apply ite_kept | intro _)

theorem State.telCtrlWrite_kept {bm bt : Bool} {s₀ s : State} (r : Nat) (v : Word) (h : Kept bm bt s₀ s) :
    Kept bm bt s₀ (s.telCtrlWrite r v) := by
  unfold State.telCtrlWrite
  repeat' (first
    | with_reducible exact h | with_reducible apply State.guardedWrite_kept | with_reducible apply State.setPath_kept
    | with_reducible apply State.holdEnd_kept | with_reducible apply State.showLevel_kept | with_reducible apply ite_kept)

theorem State.telWrite_kept {bm bt : Bool} {s₀ s : State} (a : Nat) (v : Word) (h : Kept bm bt s₀ s) :
    Kept bm bt s₀ (s.telWrite a v) := by
  unfold State.telWrite
  try dsimp only
  repeat' (first
    | with_reducible exact h | with_reducible exact Kept.refl _ | with_reducible apply State.telCtrlWrite_kept
    | with_reducible apply State.guardedWrite_kept | with_reducible apply State.headWrite_kept
    | with_reducible apply State.plainWrite_kept | with_reducible apply ite_kept | intro _ | split)

theorem State.regWrite_kept {bt : Bool} {s₀ s : State} (byTack : Bool) (a : Nat) (v : Word) (h : Kept false bt s₀ s) :
    Kept false bt s₀ (s.regWrite byTack a v) := by
  unfold State.regWrite
  try dsimp only
  repeat' (first
    | with_reducible exact h | with_reducible exact Kept.refl _ | with_reducible apply State.plainWrite_kept
    | with_reducible apply State.clkWrite_kept | with_reducible apply State.bootWrite_kept
    | with_reducible apply State.hrnWrite_kept | with_reducible apply State.reinWrite_kept
    | with_reducible apply State.spurWrite_kept | with_reducible apply State.ringRegWrite_kept
    | with_reducible apply State.estWrite_kept | with_reducible apply State.fabWrite_kept
    | with_reducible apply State.brdWrite_kept | with_reducible apply State.sbgWrite_kept
    | with_reducible apply State.rmtWrite_kept | with_reducible apply State.telWrite_kept
    | with_reducible apply State.lksWrite_kept | with_reducible apply ite_kept | intro _ | split)

theorem State.regAccess_kept {bt : Bool} {s₀ s : State} (byTack : Bool) (a be : Nat) (v : Word) (h : Kept false bt s₀ s) :
    Kept false bt s₀ (s.regAccess byTack a be v) := by
  unfold State.regAccess
  try dsimp only
  repeat' (first
    | with_reducible exact h | with_reducible exact Kept.refl _ | with_reducible apply State.refuse_kept
    | with_reducible apply State.regWrite_kept | with_reducible apply State.fresh_kept | with_reducible apply ite_kept
    | intro _ | split)

theorem State.regRead_kept {bm bt : Bool} {s₀ s : State} (who a be : Nat) (h : Kept bm bt s₀ s) :
    Kept bm bt s₀ (s.regRead who a be) := by
  unfold State.regRead
  try dsimp only
  repeat' (first
    | with_reducible exact h | with_reducible exact Kept.refl _ | with_reducible apply State.readAs_kept
    | with_reducible apply State.fresh_kept | with_reducible apply State.emit_kept | with_reducible apply ite_kept
    | intro _ | split)

theorem State.served_kept {bt : Bool} {s₀ s : State} (x : HostAcc) (h : Kept false bt s₀ s) : Kept false bt s₀ (s.served x) := by
  cases x with
  | write byTack a be v => exact State.regAccess_kept _ _ _ _ h
  | read who a be => exact State.regRead_kept _ _ _ h
  | bar2 off n data => exact State.bar2_kept _ _ _ h

theorem State.arrive_kept {bt : Bool} {s₀ s : State} (x : HostAcc) (h : Kept false bt s₀ s) :
    Kept false bt s₀ (s.arrive x) := by
  unfold State.arrive
  split
  · simp only [kept_mk]
    exact Kept.upd rfl h
  · exact State.served_kept _ h

theorem State.accessed_kept {bt : Bool} {s₀ s : State} (byTack : Bool) (x : HostAcc) (h : Kept false bt s₀ s) :
    Kept false bt s₀ (s.accessed byTack x) := by
  unfold State.accessed
  try dsimp only
  repeat' (first
    | with_reducible exact h | with_reducible exact Kept.refl _ | with_reducible apply State.showWakeN_kept
    | with_reducible apply State.wakeBy_kept | with_reducible apply State.arrive_kept | with_reducible apply ite_kept
    | intro _ | (simp only [kept_mk]; refine Kept.upd rfl ?_) | split)

theorem State.resumeAccesses_kept {bt : Bool} {s₀ s : State} (h : Kept false bt s₀ s) :
    Kept false bt s₀ s.resumeAccesses := by
  unfold State.resumeAccesses
  try dsimp only
  repeat' (first
    | with_reducible exact h | with_reducible exact Kept.refl _ | with_reducible apply State.arrive_kept
    | with_reducible apply forL_kept | intro _ | (simp only [kept_mk]; refine Kept.upd rfl ?_) | split)

end Sys2Proof.Machine
end

