-- ==== Sys2Proof/Laws/PerInstr.lean ====
section
/-! SUPPORT. What is said of every command as syntax: no word spells it, since no row of the table gives bits (log 1). -/

-- One proof at a time: in the package's one text, proofs that wait for one another would each hold a thread.
set_option Elab.async false

namespace Sys2Proof.Laws

/-- No word of any length decodes to the command. -/
def NoWord.Statement (i : Instr) : Prop := ∀ nbits w, decodeTableWord nbits w ≠ some i

theorem NoWord.registerWrite (byTack : Bool) (a : Fin 67108864) (be : Fin 16) (v : Word) : Statement (.registerWrite byTack a be v) := by intro _ _ h; cases h
theorem NoWord.lowWordRead (who : Fin 256) (a : Fin 67108864) (be : Fin 16) : Statement (.lowWordRead who a be) := by intro _ _ h; cases h
theorem NoWord.vinStart (conn : Word) : Statement (.vinStart conn) := by intro _ _ h; cases h
theorem NoWord.inputOvLockout (vin : Nat) : Statement (.inputOvLockout vin) := by intro _ _ h; cases h
theorem NoWord.inputOvRestart (conn : Word) : Statement (.inputOvRestart conn) := by intro _ _ h; cases h
theorem NoWord.writeFenceWarning (vin : Nat) : Statement (.writeFenceWarning vin) := by intro _ _ h; cases h
theorem NoWord.writeFence (busy : MramBusy) : Statement (.writeFence busy) := by intro _ _ h; cases h
theorem NoWord.mezPresChange (n : Fin 4) (present : Bool) (idOk : Bool) : Statement (.mezPresChange n present idOk) := by intro _ _ h; cases h
theorem NoWord.sfpInsertion (p : Fin 2) : Statement (.sfpInsertion p) := by intro _ _ h; cases h
theorem NoWord.profileReadComplete (d : Sfdp) (b : List Byte) : Statement (.profileReadComplete d b) := by intro _ _ h; cases h
theorem NoWord.fetchCompletionError (info : Fin 65536) : Statement (.fetchCompletionError info) := by intro _ _ h; cases h
theorem NoWord.bundleFetchComplete (bytes : List Byte) : Statement (.bundleFetchComplete bytes) := by intro _ _ h; cases h
theorem NoWord.armFirstStep (ids : List RectId) : Statement (.armFirstStep ids) := by intro _ _ h; cases h
theorem NoWord.armIsoRequest (vnode : Nat) (vbus : Nat) : Statement (.armIsoRequest vnode vbus) := by intro _ _ h; cases h
theorem NoWord.svnFuseRequest (v : Word) : Statement (.svnFuseRequest v) := by intro _ _ h; cases h
theorem NoWord.mainSrcSelect (v : Word) : Statement (.mainSrcSelect v) := by intro _ _ h; cases h
theorem NoWord.aonSrcSelect (v : Word) : Statement (.aonSrcSelect v) := by intro _ _ h; cases h
theorem NoWord.pllRefChange (v : Word) : Statement (.pllRefChange v) := by intro _ _ h; cases h
theorem NoWord.sourceReady (b : Fin 8) : Statement (.sourceReady b) := by intro _ _ h; cases h
theorem NoWord.clockLossForcing (b : Fin 8) : Statement (.clockLossForcing b) := by intro _ _ h; cases h
theorem NoWord.clockLossNonforcing (b : Fin 8) : Statement (.clockLossNonforcing b) := by intro _ _ h; cases h
theorem NoWord.fmeasStart (dut : Fin 16) (ref : Fin 16) : Statement (.fmeasStart dut ref) := by intro _ _ h; cases h
theorem NoWord.fmeasDone (count : Nat) : Statement (.fmeasDone count) := by intro _ _ h; cases h
theorem NoWord.powerModeSelect (m : Bool) : Statement (.powerModeSelect m) := by intro _ _ h; cases h
theorem NoWord.wakeSourceFired (b : Fin 5) : Statement (.wakeSourceFired b) := by intro _ _ h; cases h
theorem NoWord.bar2WakeLatchExpiry (m : Fin 4) : Statement (.bar2WakeLatchExpiry m) := by intro _ _ h; cases h
theorem NoWord.switchingCycleStart (n : ChanNo) (iAvg : Int) : Statement (.switchingCycleStart n iAvg) := by intro _ _ h; cases h
theorem NoWord.peakComparatorTrip (n : ChanNo) (isns : Int) (left : Nat) : Statement (.peakComparatorTrip n isns left) := by intro _ _ h; cases h
theorem NoWord.blankingEnd (n : ChanNo) (isns : Int) (left : Nat) : Statement (.blankingEnd n isns left) := by intro _ _ h; cases h
theorem NoWord.latestTurnOff (n : ChanNo) (isns : Int) : Statement (.latestTurnOff n isns) := by intro _ _ h; cases h
theorem NoWord.deadTimeExpiry (n : ChanNo) : Statement (.deadTimeExpiry n) := by intro _ _ h; cases h
theorem NoWord.zeroCurrentDetect (n : ChanNo) : Statement (.zeroCurrentDetect n) := by intro _ _ h; cases h
theorem NoWord.peakLimitTrip (n : ChanNo) (isns : Int) (left : Nat) : Statement (.peakLimitTrip n isns left) := by intro _ _ h; cases h
theorem NoWord.hiccupOffExpiry (g : GrpNo) : Statement (.hiccupOffExpiry g) := by intro _ _ h; cases h
theorem NoWord.hiccupRetryComplete (g : GrpNo) : Statement (.hiccupRetryComplete g) := by intro _ _ h; cases h
theorem NoWord.runClearExpiry (g : GrpNo) : Statement (.runClearExpiry g) := by intro _ _ h; cases h
theorem NoWord.stepEvent (xs : Strings) : Statement (.stepEvent xs) := by intro _ _ h; cases h
theorem NoWord.stepHoldExpiry (x : StrNo) : Statement (.stepHoldExpiry x) := by intro _ _ h; cases h
theorem NoWord.fltNLow (n : ChanNo) : Statement (.fltNLow n) := by intro _ _ h; cases h
theorem NoWord.stageTempCheck (n : ChanNo) (temp : Int) : Statement (.stageTempCheck n temp) := by intro _ _ h; cases h
theorem NoWord.faultedChannelReturn (n : ChanNo) : Statement (.faultedChannelReturn n) := by intro _ _ h; cases h
theorem NoWord.syncEdge (interval : Nat) (phase : Nat) : Statement (.syncEdge interval phase) := by intro _ _ h; cases h
theorem NoWord.syncSrcSelect (src : Fin 4) : Statement (.syncSrcSelect src) := by intro _ _ h; cases h
theorem NoWord.overVoltageDeclared (vnode : Nat) : Statement (.overVoltageDeclared vnode) := by intro _ _ h; cases h
theorem NoWord.ovLowSwitchLatch (n : ChanNo) : Statement (.ovLowSwitchLatch n) := by intro _ _ h; cases h
theorem NoWord.ovClear (vnode : Nat) : Statement (.ovClear vnode) := by intro _ _ h; cases h
theorem NoWord.groupEnable (g : GrpNo) : Statement (.groupEnable g) := by intro _ _ h; cases h
theorem NoWord.groupDisable (g : GrpNo) : Statement (.groupDisable g) := by intro _ _ h; cases h
theorem NoWord.forceShedWrite (n : ChanNo) (v : Bool) : Statement (.forceShedWrite n v) := by intro _ _ h; cases h
theorem NoWord.pendingEnableExpiry (p : Pending) : Statement (.pendingEnableExpiry p) := by intro _ _ h; cases h
theorem NoWord.reinSample (i : SampleIn) : Statement (.reinSample i) := by intro _ _ h; cases h
theorem NoWord.followingErrorTrip (c : CasNo) : Statement (.followingErrorTrip c) := by intro _ _ h; cases h
theorem NoWord.cascadeEnable (c : CasNo) : Statement (.cascadeEnable c) := by intro _ _ h; cases h
theorem NoWord.cascadeDisable (c : CasNo) : Statement (.cascadeDisable c) := by intro _ _ h; cases h
theorem NoWord.bankSwitch (c : CasNo) (b : Bool) : Statement (.bankSwitch c b) := by intro _ _ h; cases h
theorem NoWord.cascadeHold (c : CasNo) : Statement (.cascadeHold c) := by intro _ _ h; cases h
theorem NoWord.cascadeHoldClear (c : CasNo) : Statement (.cascadeHoldClear c) := by intro _ _ h; cases h
theorem NoWord.coefficientWrite (k : Fin 64) (word : Fin 6) (v : Word) : Statement (.coefficientWrite k word v) := by intro _ _ h; cases h
theorem NoWord.sectionStateWrite (k : Fin 64) (word : Fin 4) (v : Word) : Statement (.sectionStateWrite k word v) := by intro _ _ h; cases h
theorem NoWord.mapWrite (c : CasNo) (w : MapWrite) : Statement (.mapWrite c w) := by intro _ _ h; cases h
theorem NoWord.casSrcWrite (c : CasNo) (v : Word) : Statement (.casSrcWrite c v) := by intro _ _ h; cases h
theorem NoWord.l1Slot (i : L1In) : Statement (.l1Slot i) := by intro _ _ h; cases h
theorem NoWord.pmbusClearFaults (r : Fin 6) : Statement (.pmbusClearFaults r) := by intro _ _ h; cases h
theorem NoWord.tuneStart (c : CasNo) : Statement (.tuneStart c) := by intro _ _ h; cases h
theorem NoWord.spurHint (i : HintIn) : Statement (.spurHint i) := by intro _ _ h; cases h
theorem NoWord.spurCancel (i : CancelIn) : Statement (.spurCancel i) := by intro _ _ h; cases h
theorem NoWord.spurInvalidFrame (lane : Fin 2) (gap : Bool) : Statement (.spurInvalidFrame lane gap) := by intro _ _ h; cases h
theorem NoWord.hintExpiry (i : Fin 32) : Statement (.hintExpiry i) := by intro _ _ h; cases h
theorem NoWord.headStepWrite (x : Fin 16) (lo : Word) : Statement (.headStepWrite x lo) := by intro _ _ h; cases h
theorem NoWord.quietUntilWrite (x : Fin 16) (v : Word64) : Statement (.quietUntilWrite x v) := by intro _ _ h; cases h
theorem NoWord.sweepStart (vstrA : Nat) (vstrB : Nat) : Statement (.sweepStart vstrA vstrB) := by intro _ _ h; cases h
theorem NoWord.sweepComplete (x : StrNo) (i : SweepIn) : Statement (.sweepComplete x i) := by intro _ _ h; cases h
theorem NoWord.breakDetect (x : StrNo) (i : SweepIn) : Statement (.breakDetect x i) := by intro _ _ h; cases h
theorem NoWord.readHeldComplete (x : StrNo) (i : SweepIn) : Statement (.readHeldComplete x i) := by intro _ _ h; cases h
theorem NoWord.enum (x : StrNo) : Statement (.enum x) := by intro _ _ h; cases h
theorem NoWord.enumAssignReturn (x : StrNo) (counter : Fin 256) (recs : List EnumRec) : Statement (.enumAssignReturn x counter recs) := by intro _ _ h; cases h
theorem NoWord.enumVerifyReturn (x : StrNo) (recs : List EnumRec) : Statement (.enumVerifyReturn x recs) := by intro _ _ h; cases h
theorem NoWord.enumFrameTimeout (x : StrNo) : Statement (.enumFrameTimeout x) := by intro _ _ h; cases h
theorem NoWord.balCmd (v : Word) : Statement (.balCmd v) := by intro _ _ h; cases h
theorem NoWord.openWireStart (x : StrNo) (m : Fin 4) (w : Fin 16) : Statement (.openWireStart x m w) := by intro _ _ h; cases h
theorem NoWord.openWireAuto (x : StrNo) : Statement (.openWireAuto x) := by intro _ _ h; cases h
theorem NoWord.cornerWrite (v : Fin 8) : Statement (.cornerWrite v) := by intro _ _ h; cases h
theorem NoWord.swapRequest (x : StrNo) (i : Fin 52) (o : Fin 52) : Statement (.swapRequest x i o) := by intro _ _ h; cases h
theorem NoWord.swapBreak (x : StrNo) : Statement (.swapBreak x) := by intro _ _ h; cases h
theorem NoWord.swapWaitTimeout (x : StrNo) : Statement (.swapWaitTimeout x) := by intro _ _ h; cases h
theorem NoWord.swapMake (x : StrNo) : Statement (.swapMake x) := by intro _ _ h; cases h
theorem NoWord.estimatorRun (x : StrNo) : Statement (.estimatorRun x) := by intro _ _ h; cases h
theorem NoWord.restCheck : Statement .restCheck := by intro _ _ h; cases h
theorem NoWord.journalWriteComplete (mismatch : Bool) : Statement (.journalWriteComplete mismatch) := by intro _ _ h; cases h
theorem NoWord.efcWrite (x : StrNo) (v : Word) : Statement (.efcWrite x v) := by intro _ _ h; cases h
theorem NoWord.syncSend (tx0 : Nat) (tx1 : Nat) : Statement (.syncSend tx0 tx1) := by intro _ _ h; cases h
theorem NoWord.delayReqSend (p : Fin 2) (t3 : Nat) : Statement (.delayReqSend p t3) := by intro _ _ h; cases h
theorem NoWord.syncReceived (i : SyncIn) : Statement (.syncReceived i) := by intro _ _ h; cases h
theorem NoWord.shareReceived (i : ShareIn) : Statement (.shareReceived i) := by intro _ _ h; cases h
theorem NoWord.teamSummaryReceived (i : SummIn) : Statement (.teamSummaryReceived i) := by intro _ _ h; cases h
theorem NoWord.delayReqReceived (h : FabHdr) (t3 : Nat) : Statement (.delayReqReceived h t3) := by intro _ _ h; cases h
theorem NoWord.delayRespReceived (h : FabHdr) (reqSeq : Word) (t4 : Nat) : Statement (.delayRespReceived h reqSeq t4) := by intro _ _ h; cases h
theorem NoWord.bulkFrameReceived (i : BulkIn) : Statement (.bulkFrameReceived i) := by intro _ _ h; cases h
theorem NoWord.offsetEstimate (p : Fin 2) : Statement (.offsetEstimate p) := by intro _ _ h; cases h
theorem NoWord.leadFailure (hall : Bool) : Statement (.leadFailure hall) := by intro _ _ h; cases h
theorem NoWord.pathDown (p : Fin 2) (c : PathCause) : Statement (.pathDown p c) := by intro _ _ h; cases h
theorem NoWord.matrixTile (i : TileIn) : Statement (.matrixTile i) := by intro _ _ h; cases h
theorem NoWord.vectorOp (i : VecIn) : Statement (.vectorOp i) := by intro _ _ h; cases h
theorem NoWord.transcendental (a : ThrNo) (f : TransFn) (src : Fin 256) (dst : Fin 256) : Statement (.transcendental a f src dst) := by intro _ _ h; cases h
theorem NoWord.conversion (i : ConvIn) : Statement (.conversion i) := by intro _ _ h; cases h
theorem NoWord.threadLoad (a : ThrNo) (rd : Fin 256) (addr : Nat) (k : Fin 8) (ecc : EccIn) : Statement (.threadLoad a rd addr k ecc) := by intro _ _ h; cases h
theorem NoWord.threadStore (a : ThrNo) (rs : Fin 256) (addr : Nat) (k : Fin 8) : Statement (.threadStore a rs addr k) := by intro _ _ h; cases h
theorem NoWord.atomic (a : ThrNo) (op : AtomOp) (wide : Bool) (signed : Bool) (addr : Nat) (rs : Fin 256) (rc : Fin 256) (rd : Fin 256) : Statement (.atomic a op wide signed addr rs rc rd) := by intro _ _ h; cases h
theorem NoWord.memoryFence (a : ThrNo) (scope : Scope) : Statement (.memoryFence a scope) := by intro _ _ h; cases h
theorem NoWord.powerCapTick (d : Fin 2) (power : Nat) (env : Nat) : Statement (.powerCapTick d power env) := by intro _ _ h; cases h
theorem NoWord.hostCoreSuspend (d : Fin 2) : Statement (.hostCoreSuspend d) := by intro _ _ h; cases h
theorem NoWord.hostCoreResume (d : Fin 2) : Statement (.hostCoreResume d) := by intro _ _ h; cases h
theorem NoWord.sramScrub (d : Fin 2) (c : Fin 64) (ce : Fin 256) (ue : Bool) : Statement (.sramScrub d c ce ue) := by intro _ _ h; cases h
theorem NoWord.tierStart (d : Fin 2) (ch : Fin 2) (byTack : Bool) : Statement (.tierStart d ch byTack) := by intro _ _ h; cases h
theorem NoWord.tierAbort (d : Fin 2) (ch : Fin 2) (byTack : Bool) : Statement (.tierAbort d ch byTack) := by intro _ _ h; cases h
theorem NoWord.tierCopyComplete (d : Fin 2) (ch : Fin 2) (again : Bool) : Statement (.tierCopyComplete d ch again) := by intro _ _ h; cases h
theorem NoWord.coreWakeComplete (d : Fin 2) (c : Fin 64) : Statement (.coreWakeComplete d c) := by intro _ _ h; cases h
theorem NoWord.coreDrainComplete (d : Fin 2) (c : Fin 64) : Statement (.coreDrainComplete d c) := by intro _ _ h; cases h
theorem NoWord.coreFailure (d : Fin 2) (c : Fin 64) : Statement (.coreFailure d c) := by intro _ _ h; cases h
theorem NoWord.coreCopyComplete (d : Fin 2) (c : Fin 64) : Statement (.coreCopyComplete d c) := by intro _ _ h; cases h
theorem NoWord.bar2Access (off : Nat) (n : Fin 65) (data : Option (List Byte)) : Statement (.bar2Access off n data) := by intro _ _ h; cases h
theorem NoWord.submissionDoorbell (d : Fin 2) (q : Fin 64) (v : Word) (byTack : Bool) (fetchFails : Bool) : Statement (.submissionDoorbell d q v byTack fetchFails) := by intro _ _ h; cases h
theorem NoWord.completionDoorbell (d : Fin 2) (q : Fin 64) (v : Word) (byTack : Bool) : Statement (.completionDoorbell d q v byTack) := by intro _ _ h; cases h
theorem NoWord.launch (d : Fin 2) (q : Fin 64) (c : SqCmd) : Statement (.launch d q c) := by intro _ _ h; cases h
theorem NoWord.barrier (d : Fin 2) (q : Fin 64) (c : SqCmd) : Statement (.barrier d q c) := by intro _ _ h; cases h
theorem NoWord.wake (d : Fin 2) (q : Fin 64) (c : SqCmd) : Statement (.wake d q c) := by intro _ _ h; cases h
theorem NoWord.sleep (d : Fin 2) (q : Fin 64) (c : SqCmd) : Statement (.sleep d q c) := by intro _ _ h; cases h
theorem NoWord.nop (d : Fin 2) (q : Fin 64) (c : SqCmd) : Statement (.nop d q c) := by intro _ _ h; cases h
theorem NoWord.badCommand (d : Fin 2) (q : Fin 64) (op : Fin 256) (c : SqCmd) : Statement (.badCommand d q op c) := by intro _ _ h; cases h
theorem NoWord.jobDispatch (d : Fin 2) (q : Fin 64) : Statement (.jobDispatch d q) := by intro _ _ h; cases h
theorem NoWord.jobEnd (d : Fin 2) (q : Fin 64) (tag : Word) : Statement (.jobEnd d q tag) := by intro _ _ h; cases h
theorem NoWord.jobTimeout (d : Fin 2) (q : Fin 64) (tag : Word) : Statement (.jobTimeout d q tag) := by intro _ _ h; cases h
theorem NoWord.queueAbort (d : Fin 2) (q : Fin 64) (rest : List (Word × Bool)) (byTack : Bool) : Statement (.queueAbort d q rest byTack) := by intro _ _ h; cases h
theorem NoWord.coreIdleTimeout (d : Fin 2) (c : Fin 64) : Statement (.coreIdleTimeout d c) := by intro _ _ h; cases h
theorem NoWord.candidateJudged (i : JudgeIn) : Statement (.candidateJudged i) := by intro _ _ h; cases h
theorem NoWord.fleetRoundStart (own : List Word) (count : Fin 513) : Statement (.fleetRoundStart own count) := by intro _ _ h; cases h
theorem NoWord.busOverVoltage (vbus : Nat) : Statement (.busOverVoltage vbus) := by intro _ _ h; cases h
theorem NoWord.busUnderVoltage (vbus : Nat) : Statement (.busUnderVoltage vbus) := by intro _ _ h; cases h
theorem NoWord.stringOverVoltage (x : StrNo) (v : Nat) : Statement (.stringOverVoltage x v) := by intro _ _ h; cases h
theorem NoWord.stringUnderVoltage (x : StrNo) (v : Nat) : Statement (.stringUnderVoltage x v) := by intro _ _ h; cases h
theorem NoWord.temperatureTrip (k : Fin 4) (t : Fin 256) : Statement (.temperatureTrip k t) := by intro _ _ h; cases h
theorem NoWord.feedbackMismatch (k : FbKind) : Statement (.feedbackMismatch k) := by intro _ _ h; cases h
theorem NoWord.faultConditionClear (code : Fin 65536) (idx : Fin 256) (v : Nat) : Statement (.faultConditionClear code idx v) := by intro _ _ h; cases h
theorem NoWord.contactorOpenLowCurrent (x : StrNo) : Statement (.contactorOpenLowCurrent x) := by intro _ _ h; cases h
theorem NoWord.firmwareRestartComplete (ok : Bool) : Statement (.firmwareRestartComplete ok) := by intro _ _ h; cases h
theorem NoWord.pumpLoss (p : Fin 2) (pulses : Nat) : Statement (.pumpLoss p pulses) := by intro _ _ h; cases h
theorem NoWord.flowLow (pulses : Nat) : Statement (.flowLow pulses) := by intro _ _ h; cases h
theorem NoWord.inletHigh (t : Fin 256) : Statement (.inletHigh t) := by intro _ _ h; cases h
theorem NoWord.coolingClear (k : Fin 5) : Statement (.coolingClear k) := by intro _ _ h; cases h
theorem NoWord.pumpDutyUpdate (tIn : Fin 256) (tOut : Int) : Statement (.pumpDutyUpdate tIn tOut) := by intro _ _ h; cases h
theorem NoWord.stringReturn (x : StrNo) : Statement (.stringReturn x) := by intro _ _ h; cases h
theorem NoWord.firmwareCloseRequest (w : Fin 3) : Statement (.firmwareCloseRequest w) := by intro _ _ h; cases h
theorem NoWord.mramRecordWrite (mismatch : Bool) : Statement (.mramRecordWrite mismatch) := by intro _ _ h; cases h
theorem NoWord.snapshotComplete (l : Fin 16) (start : Word) (stop : Word) : Statement (.snapshotComplete l start stop) := by intro _ _ h; cases h
theorem NoWord.sbgTrig (l : Fin 16) : Statement (.sbgTrig l) := by intro _ _ h; cases h
theorem NoWord.incKeepWrite (v : Fin 65536) : Statement (.incKeepWrite v) := by intro _ _ h; cases h
theorem NoWord.gapRecordDue (i : Fin 5) : Statement (.gapRecordDue i) := by intro _ _ h; cases h
theorem NoWord.hostRingRecordWrite (r : Fin 4) (fail : Bool) : Statement (.hostRingRecordWrite r fail) := by intro _ _ h; cases h
theorem NoWord.telHeadWrite (r : Fin 4) (v : Word) : Statement (.telHeadWrite r v) := by intro _ _ h; cases h
theorem NoWord.hostRingHoldEnd (r : Fin 4) : Statement (.hostRingHoldEnd r) := by intro _ _ h; cases h
theorem NoWord.substitutionTrigger (i : TrigIn) : Statement (.substitutionTrigger i) := by intro _ _ h; cases h
theorem NoWord.rmtReq (v : Word) : Statement (.rmtReq v) := by intro _ _ h; cases h
theorem NoWord.rmtCancel (k : Fin 10) : Statement (.rmtCancel k) := by intro _ _ h; cases h
theorem NoWord.rmtRetire (v : Word) : Statement (.rmtRetire v) := by intro _ _ h; cases h
theorem NoWord.substitutionGateMet (k : Fin 10) : Statement (.substitutionGateMet k) := by intro _ _ h; cases h
theorem NoWord.substitutionSwitchComplete (k : Fin 10) (e : SwEnd) : Statement (.substitutionSwitchComplete k e) := by intro _ _ h; cases h
theorem NoWord.substitutionVerify (k : Fin 10) (ok : Bool) : Statement (.substitutionVerify k ok) := by intro _ _ h; cases h
theorem NoWord.inputTest (b : Fin 8) (i : Fin 28) (dev : Nat) : Statement (.inputTest b i dev) := by intro _ _ h; cases h
theorem NoWord.tackCoreFailure (c : Fin 4) : Statement (.tackCoreFailure c) := by intro _ _ h; cases h
theorem NoWord.msixUnmask (v : Fin 256) (addr : Word64) (data : Word) : Statement (.msixUnmask v addr data) := by intro _ _ h; cases h
theorem NoWord.prechargeNotReached (vnode : Nat) (vbus : Nat) : Statement (.prechargeNotReached vnode vbus) := by intro _ _ h; cases h
theorem NoWord.larkspurJunctionHot (d : Fin 2) (t : Fin 256) : Statement (.larkspurJunctionHot d t) := by intro _ _ h; cases h
theorem NoWord.larkspurJunctionCool (d : Fin 2) (t : Fin 256) : Statement (.larkspurJunctionCool d t) := by intro _ _ h; cases h
theorem NoWord.spurSymbolLock (lane : Fin 2) (v : Bool) : Statement (.spurSymbolLock lane v) := by intro _ _ h; cases h
theorem NoWord.connectorPinChange (bit : Fin 24) (v : Bool) : Statement (.connectorPinChange bit v) := by intro _ _ h; cases h
theorem NoWord.pcieLinkUp (gen : Fin 6) (w : Fin 4) : Statement (.pcieLinkUp gen w) := by intro _ _ h; cases h
theorem NoWord.pciePowerStateChange (m : PcieMove) : Statement (.pciePowerStateChange m) := by intro _ _ h; cases h
theorem NoWord.fcstNapChange (v : Bool) : Statement (.fcstNapChange v) := by intro _ _ h; cases h
theorem NoWord.lksWakeLatchClear (x : Fin 15) : Statement (.lksWakeLatchClear x) := by intro _ _ h; cases h
theorem NoWord.vinConverterStop : Statement .vinConverterStop := by intro _ _ h; cases h
theorem NoWord.fenceWarnClear : Statement .fenceWarnClear := by intro _ _ h; cases h
theorem NoWord.p0OnlySpanEnd : Statement .p0OnlySpanEnd := by intro _ _ h; cases h
theorem NoWord.perstAssert : Statement .perstAssert := by intro _ _ h; cases h
theorem NoWord.perstDeassert : Statement .perstDeassert := by intro _ _ h; cases h
theorem NoWord.linkLoss : Statement .linkLoss := by intro _ _ h; cases h
theorem NoWord.sfpPeriodicRead : Statement .sfpPeriodicRead := by intro _ _ h; cases h
theorem NoWord.load : Statement .load := by intro _ _ h; cases h
theorem NoWord.bundleVerifyComplete : Statement .bundleVerifyComplete := by intro _ _ h; cases h
theorem NoWord.bundleLoaded : Statement .bundleLoaded := by intro _ _ h; cases h
theorem NoWord.arm : Statement .arm := by intro _ _ h; cases h
theorem NoWord.disarm : Statement .disarm := by intro _ _ h; cases h
theorem NoWord.disarmComplete : Statement .disarmComplete := by intro _ _ h; cases h
theorem NoWord.clearLatch : Statement .clearLatch := by intro _ _ h; cases h
theorem NoWord.armBlockerTimeout : Statement .armBlockerTimeout := by intro _ _ h; cases h
theorem NoWord.armChecksPassed : Statement .armChecksPassed := by intro _ _ h; cases h
theorem NoWord.armContactorRequest : Statement .armContactorRequest := by intro _ _ h; cases h
theorem NoWord.armPrechargeStart : Statement .armPrechargeStart := by intro _ _ h; cases h
theorem NoWord.armLoopsStart : Statement .armLoopsStart := by intro _ _ h; cases h
theorem NoWord.armedReached : Statement .armedReached := by intro _ _ h; cases h
theorem NoWord.armingTimeout : Statement .armingTimeout := by intro _ _ h; cases h
theorem NoWord.armRetry : Statement .armRetry := by intro _ _ h; cases h
theorem NoWord.svnFuseBitBlown : Statement .svnFuseBitBlown := by intro _ _ h; cases h
theorem NoWord.attestationRequest : Statement .attestationRequest := by intro _ _ h; cases h
theorem NoWord.attestationReportDone : Statement .attestationReportDone := by intro _ _ h; cases h
theorem NoWord.pllRefChangeComplete : Statement .pllRefChangeComplete := by intro _ _ h; cases h
theorem NoWord.clockSwitchComplete : Statement .clockSwitchComplete := by intro _ _ h; cases h
theorem NoWord.clockHoldClear : Statement .clockHoldClear := by intro _ _ h; cases h
theorem NoWord.xtalBStartTimeout : Statement .xtalBStartTimeout := by intro _ _ h; cases h
theorem NoWord.xtalAStartTimeout : Statement .xtalAStartTimeout := by intro _ _ h; cases h
theorem NoWord.deepSleepEntry : Statement .deepSleepEntry := by intro _ _ h; cases h
theorem NoWord.wakeTimerExpiry : Statement .wakeTimerExpiry := by intro _ _ h; cases h
theorem NoWord.domainGateChange : Statement .domainGateChange := by intro _ _ h; cases h
theorem NoWord.shedAddSlot : Statement .shedAddSlot := by intro _ _ h; cases h
theorem NoWord.syncEdgeMissing : Statement .syncEdgeMissing := by intro _ _ h; cases h
theorem NoWord.ovNoIso : Statement .ovNoIso := by intro _ _ h; cases h
theorem NoWord.ovAutoRelease : Statement .ovAutoRelease := by intro _ _ h; cases h
theorem NoWord.lastFaultRecordWrite : Statement .lastFaultRecordWrite := by intro _ _ h; cases h
theorem NoWord.tuneAbort : Statement .tuneAbort := by intro _ _ h; cases h
theorem NoWord.tuneTimeLimit : Statement .tuneTimeLimit := by intro _ _ h; cases h
theorem NoWord.clrLatMax : Statement .clrLatMax := by intro _ _ h; cases h
theorem NoWord.commitStep : Statement .commitStep := by intro _ _ h; cases h
theorem NoWord.hrRelease : Statement .hrRelease := by intro _ _ h; cases h
theorem NoWord.ringHbKick : Statement .ringHbKick := by intro _ _ h; cases h
theorem NoWord.balDisable : Statement .balDisable := by intro _ _ h; cases h
theorem NoWord.restNow : Statement .restNow := by intro _ _ h; cases h
theorem NoWord.restShedComplete : Statement .restShedComplete := by intro _ _ h; cases h
theorem NoWord.restShedTimeout : Statement .restShedTimeout := by intro _ _ h; cases h
theorem NoWord.restAverageStart : Statement .restAverageStart := by intro _ _ h; cases h
theorem NoWord.restReference : Statement .restReference := by intro _ _ h; cases h
theorem NoWord.restAbort : Statement .restAbort := by intro _ _ h; cases h
theorem NoWord.journalPeriodic : Statement .journalPeriodic := by intro _ _ h; cases h
theorem NoWord.writeNow : Statement .writeNow := by intro _ _ h; cases h
theorem NoWord.shareSend : Statement .shareSend := by intro _ _ h; cases h
theorem NoWord.shareCollectionClose : Statement .shareCollectionClose := by intro _ _ h; cases h
theorem NoWord.teamSummarySend : Statement .teamSummarySend := by intro _ _ h; cases h
theorem NoWord.delayRespSend : Statement .delayRespSend := by intro _ _ h; cases h
theorem NoWord.targetSelect : Statement .targetSelect := by intro _ _ h; cases h
theorem NoWord.hallTargetCompute : Statement .hallTargetCompute := by intro _ _ h; cases h
theorem NoWord.bulkWindow : Statement .bulkWindow := by intro _ _ h; cases h
theorem NoWord.timeStep : Statement .timeStep := by intro _ _ h; cases h
theorem NoWord.yield : Statement .yield := by intro _ _ h; cases h
theorem NoWord.trainingBurstStart : Statement .trainingBurstStart := by intro _ _ h; cases h
theorem NoWord.promote : Statement .promote := by intro _ _ h; cases h
theorem NoWord.revert : Statement .revert := by intro _ _ h; cases h
theorem NoWord.exportWeights : Statement .exportWeights := by intro _ _ h; cases h
theorem NoWord.install : Statement .install := by intro _ _ h; cases h
theorem NoWord.watchdogKick : Statement .watchdogKick := by intro _ _ h; cases h
theorem NoWord.watchdogExpiry : Statement .watchdogExpiry := by intro _ _ h; cases h
theorem NoWord.holdoffExpiry : Statement .holdoffExpiry := by intro _ _ h; cases h
theorem NoWord.settleExpiry : Statement .settleExpiry := by intro _ _ h; cases h
theorem NoWord.softStartOffExpiry : Statement .softStartOffExpiry := by intro _ _ h; cases h
theorem NoWord.hostKick : Statement .hostKick := by intro _ _ h; cases h
theorem NoWord.hostTimeout : Statement .hostTimeout := by intro _ _ h; cases h
theorem NoWord.mark : Statement .mark := by intro _ _ h; cases h
theorem NoWord.incidentClose : Statement .incidentClose := by intro _ _ h; cases h
theorem NoWord.controlBlockPeriodic : Statement .controlBlockPeriodic := by intro _ _ h; cases h
theorem NoWord.operatingSecond : Statement .operatingSecond := by intro _ _ h; cases h
theorem NoWord.phaseHoldPlace : Statement .phaseHoldPlace := by intro _ _ h; cases h
theorem NoWord.wearCopyPeriodic : Statement .wearCopyPeriodic := by intro _ _ h; cases h
theorem NoWord.fircWaitExpiry : Statement .fircWaitExpiry := by intro _ _ h; cases h
theorem NoWord.tapBypass : Statement .tapBypass := by intro _ _ h; cases h
theorem NoWord.tapIdcode : Statement .tapIdcode := by intro _ _ h; cases h
theorem NoWord.tapSamplePreload : Statement .tapSamplePreload := by intro _ _ h; cases h
theorem NoWord.tapExtest : Statement .tapExtest := by intro _ _ h; cases h
theorem NoWord.tapClamp : Statement .tapClamp := by intro _ _ h; cases h
theorem NoWord.tapHighz : Statement .tapHighz := by intro _ _ h; cases h
theorem NoWord.forecastReloadComplete : Statement .forecastReloadComplete := by intro _ _ h; cases h
theorem NoWord.weightExportComplete : Statement .weightExportComplete := by intro _ _ h; cases h

end Sys2Proof.Laws
end

