-- ==== Sys2Proof/Tests/Slice0.lean ====
section
/-! SUPPORT. The model's own tests: an ill-formed command for each check of WellFormed, values written out from the spec, and for
every statement with hypotheses a state and operands that meet them together, clause by clause. -/

-- One proof at a time: in the package's one text, proofs that wait for one another would each hold a thread.
set_option Elab.async false

section
set_option maxRecDepth 4000
open Sys2Proof Sys2Proof.Machine

/-! ### WellFormed refuses -/

/-- A read of one byte more than the device holds (R59, R60). -/
theorem test_illformed_profile (d : Sfdp) (b : List Byte) (h : b.length = 1024 * d.kib + 1) :
    (Instr.profileReadComplete d b).wellFormed = false := by
  simp [Instr.wellFormed, h]

/-- One byte more than 256 MiB (R85). -/
theorem test_illformed_bundle (l : List Byte) (h : l.length = 2 ^ 28 + 1) : (Instr.bundleFetchComplete l).wellFormed = false := by
  simp [Instr.wellFormed, h]

theorem test_illformed_arm_ids : (Instr.armFirstStep []).wellFormed = false := by decide
theorem test_illformed_sample (i : SampleIn) (h : i.isns = []) : (Instr.reinSample i).wellFormed = false := by
  simp [Instr.wellFormed, h]
theorem test_illformed_l1 (i : L1In) (h : i.answers = []) : (Instr.l1Slot i).wellFormed = false := by
  simp [Instr.wellFormed, h]
theorem test_illformed_sweep (x : StrNo) (i : SweepIn) (h : i.fwd.length = 189) :
    (Instr.sweepComplete x i).wellFormed = false ∧ (Instr.breakDetect x i).wellFormed = false ∧
    (Instr.readHeldComplete x i).wellFormed = false := by
  simp [Instr.wellFormed, SweepIn.wf, h]
theorem test_illformed_sweep_back (x : StrNo) (i : SweepIn) (h : i.rev.length = 189) :
    (Instr.sweepComplete x i).wellFormed = false := by
  simp [Instr.wellFormed, SweepIn.wf, h]
theorem test_illformed_enum (x : StrNo) (r : EnumRec) :
    (Instr.enumVerifyReturn x (List.replicate 5 r)).wellFormed = false := by
  simp [Instr.wellFormed]
theorem test_illformed_enum_assign (x : StrNo) (c : Fin 256) (r : EnumRec) :
    (Instr.enumAssignReturn x c (List.replicate 5 r)).wellFormed = false := by
  simp [Instr.wellFormed]
theorem test_illformed_sync (i : SyncIn) (h : i.targets = []) : (Instr.syncReceived i).wellFormed = false := by
  simp [Instr.wellFormed, h]
theorem test_illformed_share (i : ShareIn) (h : i.alarm.detail = []) : (Instr.shareReceived i).wellFormed = false := by
  simp [Instr.wellFormed, h]
theorem test_illformed_summary (i : SummIn) (h : i.members = []) : (Instr.teamSummaryReceived i).wellFormed = false := by
  simp [Instr.wellFormed, h]
theorem test_illformed_bulk (i : BulkIn) (h : i.words.length = 2049) : (Instr.bulkFrameReceived i).wellFormed = false := by
  simp [Instr.wellFormed, h]
theorem test_illformed_tile (i : TileIn) (h : i.k = 33) : (Instr.matrixTile i).wellFormed = false := by
  simp [Instr.wellFormed, TileIn.wf, h]
theorem test_illformed_bar2 : (Instr.bar2Access 0 4 (some [])).wellFormed = false := by decide
theorem test_illformed_bar2_offset : (Instr.bar2Access (2 ^ 36) 4 none).wellFormed = false := by decide

/-! ### No word spells a command -/

theorem test_no_word_spells : decodeTableWord 32 0 = none := rfl
theorem test_no_word_spells_shelf_command : Laws.NoWord.Statement .arm := Laws.NoWord.arm

/-! ### Values written out from the spec -/

/-- R5, R6: the variant's code stands in bits 31:28 of SYS_CAPS. -/
theorem test_caps_variant_code : regReset .control SYS_CAPS >>> 28 = 3#32 := by decide +kernel
/-- R363: logical core 3 of die 1. -/
theorem test_sram_address : sramBase 1 3 = 0x141800000 := by decide
/-- R304: shelf 37 is member 5 of team 2. -/
theorem test_team_of_shelf : (State.reset.set FAB_ID_SHELF_ID 37).team = 2 := by decide
/-- R353: the largest E4M3 number is 448. -/
theorem test_e4m3_largest : decodeVal .e4m3 0x7E = .fin false 448 := by decide +kernel
/-- R353: the smallest subnormal number of E2M1 is 0.5. -/
theorem test_e2m1_smallest : decodeVal .e2m1 1 = .fin false (1 / 2) := by decide +kernel
/-- R347: a signed minimum keeps −1, an unsigned one takes 1. -/
theorem test_atomic_min_signed : atomResult .min 32 true 0xFFFFFFFF 1 0 = 0xFFFFFFFF := by decide
theorem test_atomic_min_unsigned : atomResult .min 32 false 0xFFFFFFFF 1 0 = 1 := by decide
/-- R347: an addition wraps. -/
theorem test_atomic_add_wraps : atomResult .add 32 false 0xFFFFFFFF 2 0 = 1 := by decide
/-- R15, R480: writing 1 to a W1C bit of SYS_EVT clears it, and only it. -/
theorem test_w1c_clears : (match exec (.registerWrite false 0x14 15 1) (State.reset.wr SYS_EVT 3) with
    | .next t => t.rd SYS_EVT | _ => 9) = 2 := by decide +kernel
/-- R17: SYS_ID is read-only. -/
theorem test_ro_keeps : (match exec (.registerWrite false 0 15 0) State.reset with
    | .next t => t.rd SYS_ID | _ => 0) = 0x195124B7 := by decide +kernel
/-- R415, R412: 59.00 V on the bus of an armed shelf opens the isolation switch and isolates it; 58.99 V does nothing. -/
theorem test_bus_over_voltage : (match exec (.busOverVoltage 5900) (State.reset.set SYS_SHELF_STATE_STATE 3) with
    | .next t => (t.shelf, t.pins.isoEn) | _ => (9, true)) = (stIsolated, false) := by decide +kernel
theorem test_bus_below_threshold : (match exec (.busOverVoltage 5899) (State.reset.set SYS_SHELF_STATE_STATE 3) with
    | .next t => t.shelf | _ => 9) = stArmed := by decide +kernel
/-- R436: an operating second adds one. -/
theorem test_operating_second : (match exec .operatingSecond State.reset with
    | .next t => t.opsec | _ => 9) = 1 := by decide +kernel
/-- R33: a module without power answers no command of the shelf. -/
theorem test_down_ignores_arm : (match exec .arm { State.reset with pins := { State.reset.pins with powered := false } } with
    | .next t => t.shelf | _ => 9) = stPassive := by decide +kernel

/-! ### Hypotheses that are met -/

theorem witness_StepRunsTheFrontCommand : ∃ s : State, s.pending = .arm :: [.disarm] :=
  ⟨{ State.reset with pending := [.arm, .disarm] }, rfl⟩

theorem witness_IdleStepIsOneTick :
    (∃ s : State, s.pending = [] ∧ s.pins.powered = true ∧ s.isSet CLK_READY_PLL_LINK = true ∧ s.fab.steer = 0 ∧
      0 ≤ s.fab.steered ∧ s.fab.steered < 1280000) ∧
    (∃ s : State, s.pending = [] ∧ s.pins.powered = true ∧ s.isSet CLK_READY_PLL_LINK = false) ∧
    (∃ s : State, s.pending = [] ∧ s.pins.powered = false) :=
  ⟨⟨State.reset.set CLK_READY_PLL_LINK 1, by decide⟩, ⟨State.reset.set CLK_READY_PLL_LINK 0, by decide⟩,
   ⟨{ State.reset with pins := { State.reset.pins with powered := false } }, by decide⟩⟩

theorem witness_EveryStepKeepsStoresCanonical : ∃ s t : State, s.canonical ∧ step s = .next t :=
  ⟨{ State.reset with pending := [.mark] }, _, ⟨rfl, rfl, rfl⟩, rfl⟩

theorem witness_EveryStepKeepsTheShape : ∃ s t : State, s.shaped ∧ step s = .next t :=
  ⟨{ State.reset with pending := [.mark] }, _, by simp only [State.shaped, Pins.shaped, Brd.shaped, Sbg.shaped, Hrn.shaped,
    Rein.shaped, Fcst.shaped, Rmt.shaped, Fab.shaped, Lks.shaped]; decide, rfl⟩

theorem witness_OnlyFuseBlowingChangesFuses : ∃ t : State, exec .svnFuseBitBlown State.reset = .next t := ⟨_, rfl⟩

theorem witness_SentStaysSentAndDrawsAdvance : ∃ t : State, exec .sfpPeriodicRead State.reset = .next t := ⟨_, rfl⟩

theorem witness_OnlyPowerUpAndTimeStepMoveTime : ∃ t : State, exec .mark State.reset = .next t := ⟨_, rfl⟩

theorem witness_ControlCommandsLeaveModuleMemory : ∃ t : State, exec .operatingSecond State.reset = .next t := ⟨_, rfl⟩

theorem witness_NothingActsWithoutPower : ∃ s : State, s.pins.powered = false :=
  ⟨{ State.reset with pins := { State.reset.pins with powered := false } }, rfl⟩

theorem witness_AbsentUnitsStaySilent :
    (∃ (s : State) (who : Fin 256) (a : Fin 67108864), s.pins.powered = true ∧ s.asleep = false ∧ s.relock = false ∧
      s.busOk = true ∧ absentAddr s.otp.variant (a.val / 4 * 4) = true ∧ (s.latches.any fun l => l.1 == who.val &&
      l.2.1 == a.val / 4 * 4) = false) ∧
    (∃ (s : State) (a : Fin 67108864), s.pins.powered = true ∧ s.asleep = false ∧ s.relock = false ∧ a.val % 4 = 0 ∧
      absentAddr s.otp.variant a.val = true) ∧
    (∃ (s : State) (v : Nat), s.pins.powered = true ∧ vectorAbsent s.otp.variant v = true) ∧
    (∃ (s : State) (d : Fin 2), s.pins.powered = true ∧ s.dieOk d = false) :=
  ⟨⟨{ ({ ((State.reset.set CLK_DIV_PERIPH_DIV 1).set PWR_STATUS_CUR_MODE 0) with otp := { State.reset.otp with variant := .half } }) with clk := { State.reset.clk with switch := .none, waiting := [] }, latches := [] },
     3, 0x1800004, by decide⟩,
   ⟨{ ({ ((State.reset.set CLK_DIV_PERIPH_DIV 1).set PWR_STATUS_CUR_MODE 0) with otp := { State.reset.otp with variant := .half } }) with clk := { State.reset.clk with switch := .none, waiting := [] }, latches := [] },
     0x1800004, by decide⟩,
   ⟨{ ((State.reset.set CLK_DIV_PERIPH_DIV 1).set PWR_STATUS_CUR_MODE 0) with otp := { State.reset.otp with variant := .half } },
     247, by decide⟩,
   ⟨{ ((State.reset.set CLK_DIV_PERIPH_DIV 1).set PWR_STATUS_CUR_MODE 0) with otp := { State.reset.otp with variant := .half } },
     1, by decide⟩⟩

theorem witness_MezzaninePresenceChanges :
    (∃ (s : State) (n : Fin 4) (present : Bool), s.pins.powered = true ∧ s.isSet ⟨SYS_CONN_STATUS, n.val, 1⟩ ≠ present ∧
      s.shelf = stPassive) ∧
    (∃ (s : State) (n : Fin 4) (present : Bool), s.pins.powered = true ∧ s.isSet ⟨SYS_CONN_STATUS, n.val, 1⟩ ≠ present ∧
      s.shelf ≠ stPassive ∧ n.val < s.pins.drvEn.length ∧ n.val < s.pins.drvHeld.length) ∧
    (∃ (s : State) (n : Fin 4) (present : Bool), s.pins.powered = true ∧ s.isSet ⟨SYS_CONN_STATUS, n.val, 1⟩ = present) :=
  ⟨⟨(State.reset.set SYS_SHELF_STATE_STATE 1), 1, true, by decide⟩,
   ⟨(State.reset.set SYS_SHELF_STATE_STATE 3), 1, true, by decide⟩,
   ⟨(State.reset.set ⟨SYS_CONN_STATUS, 1, 1⟩ 0), 1, false, by decide⟩⟩

theorem witness_RegisterWriteFollowsTheAccessCode :
    (∃ (s : State) (a : Fin 67108864) (be : Fin 16), s.pins.powered = true ∧ s.asleep = false ∧ s.relock = false ∧
      ((be.val ≠ 15 ∨ a.val % 4 ≠ 0))) ∧
    (∃ (s : State) (a : Fin 67108864), s.pins.powered = true ∧ s.asleep = false ∧ s.relock = false ∧ a.val % 4 = 0 ∧
      ((absentAddr s.otp.variant a.val = true ∨ regSpec a.val = none))) ∧
    (∃ (s : State), s.pins.powered = true ∧ s.asleep = false ∧ s.relock = false ∧ s.busOk = true) ∧
    (∃ (s : State), s.pins.powered = true ∧ s.asleep = false ∧ s.relock = false ∧ s.busOk = true ∧ s.shelf = stPassive) ∧
    (∃ (s : State) (v : Word), s.pins.powered = true ∧ s.asleep = false ∧ s.relock = false ∧ s.busOk = true ∧ s.shelf ≠
      stPassive ∧ v ≠ s.rd BOOT_SRC_ADDR_LO) ∧
    (∃ (s : State) (b : Bool), s.pins.powered = true ∧ s.asleep = true ∧ ((b = true ∨ s.pcie.link.low = false))) ∧
    (∃ (s : State), s.pins.powered = true ∧ s.asleep = false ∧ s.relock = true) :=
  ⟨⟨State.reset, 0x14, 3, by decide⟩,
   ⟨State.reset, 0x24000, by decide⟩,
   ⟨State.reset, by decide⟩,
   ⟨State.reset, by decide⟩,
   ⟨State.reset.set SYS_SHELF_STATE_STATE 3, 7, by decide⟩,
   ⟨(State.reset.set PWR_STATUS_CUR_MODE 2), true, by decide⟩,
   ⟨{ State.reset with clk := { State.reset.clk with switch := .pllRef 1 } }, by decide⟩⟩

theorem witness_WritesKeepReservedBits :
    (∀ f ∈ (RegSpec.mk 0x14 1 4 1 4 0 [⟨1, 1, .w1c, 0, 1⟩, ⟨0, 1, .w1c, 0, 1⟩] []).fields, 2 < f.lo ∨ f.lo + f.w ≤ 2) ∧ 2 < 32 := by decide

theorem witness_AFieldTakesWhatItsCodeAllows :
    (RegSpec.mk 0x14 1 4 1 4 0 [⟨1, 1, .w1c, 0, 1⟩, ⟨0, 1, .w1c, 0, 1⟩] []).orders = [] ∧
    (∀ f ∈ (RegSpec.mk 0x14 1 4 1 4 0 [⟨1, 1, .w1c, 0, 1⟩, ⟨0, 1, .w1c, 0, 1⟩] []).fields, f.lo + f.w ≤ 32) ∧
    (RegSpec.mk 0x14 1 4 1 4 0 [⟨1, 1, .w1c, 0, 1⟩, ⟨0, 1, .w1c, 0, 1⟩] []).fields.Pairwise
      (fun f g => f.lo + f.w ≤ g.lo ∨ g.lo + g.w ≤ f.lo) := by decide

theorem witness_EveryRegisterRowHasDisjointFields :
    regSpec 0x14 = some ⟨0x14, 1, 0x4, 1, 0x4, 0x0, [⟨1, 1, .w1c, 0, 1⟩, ⟨0, 1, .w1c, 0, 1⟩], []⟩ := by decide

theorem witness_ReadsOfRegisters :
    (∃ (s : State) (who : Fin 256) (a : Fin 67108864), s.pins.powered = true ∧ s.asleep = false ∧ s.relock = false ∧
      s.busOk = true ∧ s.highNow (a.val / 4 * 4) = none ∧ ((∀ l ∈ s.latches, l.1 = who.val → l.2.1 ≠ a.val / 4 * 4))) ∧
    (∃ (s : State) (a : Fin 67108864) (h : Nat), s.pins.powered = true ∧ s.asleep = false ∧ s.relock = false ∧ s.busOk =
      true ∧ s.highNow (a.val / 4 * 4) = some h) ∧
    (∃ (s : State) (who : Fin 256) (a : Fin 67108864) (v : Word) (old : List (Nat × Nat × Word)), s.pins.powered = true ∧
      s.asleep = false ∧ s.relock = false ∧ s.busOk = true ∧ s.highNow (a.val / 4 * 4) = none ∧ s.latches = (who.val,
      a.val / 4 * 4, v) :: old) ∧
    (∃ (s : State) (a : Nat), s.pins.powered = true ∧ absentAddr s.otp.variant a = true) ∧
    (∃ (s : State), s.pins.powered = true ∧ s.asleep = false ∧ s.relock = false ∧ s.busOk = false) ∧
    (∃ (s : State), s.pins.powered = true ∧ s.asleep = true ∧ s.pcie.link.low = false) ∧
    (∃ (s : State), s.pins.powered = true ∧ s.asleep = false ∧ s.relock = true) :=
  ⟨⟨State.reset, 0, 4, by decide⟩,
   ⟨State.reset, 0, 8, by decide⟩,
   ⟨{ State.reset with latches := [(1, 8, 0x12345678#32), (1, 8, 5#32), (2, 8, 5#32)] }, 1, 8, 0x12345678, [(1, 8, 5#32),
     (2, 8, 5#32)], by decide⟩,
   ⟨{ State.reset with otp := { State.reset.otp with variant := .half } }, 0x1800000, by decide⟩,
   ⟨(State.reset.set CLK_DIV_PERIPH_DIV 0), by decide⟩,
   ⟨(State.reset.set PWR_STATUS_CUR_MODE 2), by decide⟩,
   ⟨{ State.reset with clk := { State.reset.clk with switch := .pllRef 1 } }, by decide⟩⟩

theorem witness_InputPowerCommands :
    (∃ (s : State), s.pins.powered = true ∧ s.isSet EST_JNL_STATUS_BUSY = false ∧ s.hrn.lfrQ = [] ∧ s.rmt.due = false) ∧
    (∃ (s : State), s.pins.powered = true ∧ s.fenced = false) ∧
    (∃ (s : State), s.pins.powered = true ∧ s.isSet EST_JNL_STATUS_PENDING = true) ∧
    (∃ (s : State), s.pins.powered = true ∧ (0x010E, 0) ∉ s.brd.active) ∧
    (∃ (s : State), s.pins.powered = true ∧ (0x010E, 0) ∈ s.brd.active) :=
  ⟨⟨State.reset, by decide⟩,
   ⟨State.reset, by decide⟩,
   ⟨(State.reset.set EST_JNL_STATUS_PENDING 1), by decide⟩,
   ⟨State.reset, by decide⟩,
   ⟨{ State.reset with brd := { State.reset.brd with active := [(0x010E, 0)] } }, by decide⟩⟩

theorem witness_InputReturns :
    (∃ (s : State), s.pins.powered = false ∧ s.pins.ovLockout = false) ∧
    (∃ (s : State), ((s.pins.powered = true ∨ s.pins.ovLockout = true))) ∧
    (∃ (s : State), s.pins.ovLockout = true) ∧
    (∃ (s : State), s.pins.ovLockout = false) ∧
    (∃ (s : State), s.pins.powered = false) :=
  ⟨⟨{ State.reset with pins := { State.reset.pins with powered := false } }, by decide⟩,
   ⟨State.reset, by decide⟩,
   ⟨{ State.reset with pins := { State.reset.pins with ovLockout := true } }, by decide⟩,
   ⟨State.reset, by decide⟩,
   ⟨{ State.reset with pins := { State.reset.pins with powered := false } }, by decide⟩⟩

theorem witness_HostLinkCommands :
    (∃ (s : State), s.pins.powered = true ∧ s.pcie ≠ {}) ∧
    (∃ (s : State), s.pins.powered = true ∧ s.pcie = {}) ∧
    (∃ (s : State), s.pins.powered = true ∧ s.get BOOT_STATUS_PROFILE ≠ 0) ∧
    (∃ (s : State), s.pins.powered = true ∧ s.get BOOT_STATUS_PROFILE = 0) ∧
    (∃ (s : State), s.pins.powered = true ∧ s.pcie.link ≠ Link.down) ∧
    (∃ (s : State), s.pins.powered = true ∧ s.pcie.link = Link.down) ∧
    (∃ (s : State), s.pins.powered = true ∧ s.pins.perst = false ∧ s.get BOOT_STATUS_PROFILE ≠ 0) ∧
    (∃ (s : State), s.pins.powered = true ∧ ((s.pins.perst = true ∨ s.get BOOT_STATUS_PROFILE = 0))) ∧
    (∃ (s : State), s.pins.powered = true ∧ s.pcie.link = Link.up) ∧
    (∃ (s : State), s.pins.powered = true ∧ s.pcie.link = Link.l1) ∧
    (∃ (s : State), s.pins.powered = true ∧ s.pcie.link.low = true) ∧
    (∃ (s : State), s.pins.powered = true ∧ s.pcie.link.low = false) ∧
    (∃ (s : State), s.pins.powered = true ∧ s.pcie.link ≠ Link.up) :=
  ⟨⟨{ State.reset with pcie := { State.reset.pcie with link := Link.up } }, by decide⟩,
   ⟨State.reset, by decide⟩,
   ⟨(State.reset.set BOOT_STATUS_PROFILE 1), by decide⟩,
   ⟨State.reset, by decide⟩,
   ⟨{ State.reset with pcie := { State.reset.pcie with link := Link.up } }, by decide⟩,
   ⟨State.reset, by decide⟩,
   ⟨{ (State.reset.set BOOT_STATUS_PROFILE 1) with pins := { State.reset.pins with perst := false } }, by decide⟩,
   ⟨State.reset, by decide⟩,
   ⟨{ State.reset with pcie := { State.reset.pcie with link := Link.up } }, by decide⟩,
   ⟨{ State.reset with pcie := { State.reset.pcie with link := Link.l1 } }, by decide⟩,
   ⟨{ State.reset with pcie := { State.reset.pcie with link := Link.l11 } }, by decide⟩,
   ⟨{ State.reset with pcie := { State.reset.pcie with link := Link.up } }, by decide⟩,
   ⟨State.reset, by decide⟩⟩

theorem witness_ConnectorCommands :
    (∃ (s : State) (lane : Fin 2) (v : Bool), s.pins.powered = true ∧ bitOf (s.get SPUR_STATUS_LOCK) lane.val ≠ v ∧ bitOf
      (s.get SYS_CONN_STATUS_SPUR_SIG) lane.val ≠ v) ∧
    (∃ (s : State) (lane : Fin 2) (v : Bool), s.pins.powered = true ∧ bitOf (s.get SPUR_STATUS_LOCK) lane.val = v) ∧
    (∃ (s : State) (bit : Fin 24) (v : Bool), s.pins.powered = true ∧ s.pinChanges bit.val v = true ∧ s.isSet
      ⟨SYS_CONN_STATUS, bit.val, 1⟩ ≠ v) ∧
    (∃ (s : State) (x : StrNo), s.pins.powered = true ∧ s.pins.contEn.getD x.val false = true ∧ s.contFb x.val = false ∧
      x.val ∈ s.brd.returning) ∧
    (∃ (s : State) (bit : Fin 24) (v : Bool), s.pins.powered = true ∧ s.pinChanges bit.val v = false) :=
  ⟨⟨State.reset, 0, true, by decide⟩,
   ⟨State.reset, 0, false, by decide⟩,
   ⟨(State.reset.set SYS_CONN_STATUS_SFP_PRES 3), 8, false, by decide⟩,
   ⟨{ State.reset with pins := { State.reset.pins with contEn := [true, true] }, brd := { State.reset.brd with returning := [1], strOut := [1] } },
     1, by decide⟩,
   ⟨State.reset, 8, true, by decide⟩⟩

theorem witness_ProfileAndBundleCommands :
    (∃ (s : State), s.pins.powered = true ∧ s.get BOOT_STATUS_PROFILE = 0) ∧
    (∃ (s : State), s.pins.powered = true ∧ s.get BOOT_STATUS_PROFILE ≠ 0) ∧
    (∃ (s : State), s.pins.powered = true ∧ s.shelf ≠ stPassive) ∧
    (∃ (s : State), s.pins.powered = true ∧ s.shelf = stPassive ∧ ((s.get BOOT_STATUS_BUNDLE = 1 ∨ s.get
      BOOT_STATUS_BUNDLE = 2 ∨ s.get BOOT_STATUS_BUNDLE = 3))) ∧
    (∃ (s : State), s.pins.powered = true ∧ s.shelf = stPassive ∧ ((s.get BOOT_STATUS_BUNDLE = 0 ∨ 4 ≤ s.get
      BOOT_STATUS_BUNDLE)) ∧ s.rdN BOOT_SRC_ADDR_LO % 4096 ≠ 0) ∧
    (∃ (s : State), s.pins.powered = true ∧ s.shelf = stPassive ∧ ((s.get BOOT_STATUS_BUNDLE = 0 ∨ 4 ≤ s.get
      BOOT_STATUS_BUNDLE)) ∧ s.rdN BOOT_SRC_ADDR_LO % 4096 = 0 ∧ s.camm 0 = 0) ∧
    (∃ (s : State), s.pins.powered = true ∧ s.shelf = stPassive ∧ ((s.get BOOT_STATUS_BUNDLE = 0 ∨ 4 ≤ s.get
      BOOT_STATUS_BUNDLE)) ∧ s.rdN BOOT_SRC_ADDR_LO % 4096 = 0 ∧ s.camm 0 ≠ 0 ∧ 8192 ≤ s.rdN BOOT_SRC_LEN ∧ s.rdN
      BOOT_SRC_LEN ≤ 268435456) ∧
    (∃ (s : State), s.pins.powered = true ∧ s.shelf = stPassive ∧ ((s.get BOOT_STATUS_BUNDLE = 0 ∨ 4 ≤ s.get
      BOOT_STATUS_BUNDLE)) ∧ s.rdN BOOT_SRC_ADDR_LO % 4096 = 0 ∧ s.camm 0 ≠ 0 ∧ ((s.rdN BOOT_SRC_LEN < 8192 ∨
      268435456 < s.rdN BOOT_SRC_LEN))) ∧
    (∃ (s : State), s.pins.powered = true ∧ s.get BOOT_STATUS_BUNDLE = 1) ∧
    (∃ (s : State), s.pins.powered = true ∧ s.get BOOT_STATUS_BUNDLE ≠ 1) ∧
    (∃ (s : State), s.pins.powered = true ∧ s.get BOOT_STATUS_BUNDLE = 1) ∧
    (∃ (s : State), s.pins.powered = true ∧ s.get BOOT_STATUS_BUNDLE = 2) ∧
    (∃ (s : State), s.pins.powered = true ∧ s.get BOOT_STATUS_BUNDLE ≠ 2) ∧
    (∃ (s : State), s.pins.powered = true ∧ s.get BOOT_STATUS_BUNDLE = 3) ∧
    (∃ (s : State), s.pins.powered = true ∧ s.get BOOT_STATUS_BUNDLE ≠ 3) :=
  ⟨⟨State.reset, by decide⟩,
   ⟨(State.reset.set BOOT_STATUS_PROFILE 1), by decide⟩,
   ⟨(State.reset.set SYS_SHELF_STATE_STATE 3), by decide⟩,
   ⟨(State.reset.set BOOT_STATUS_BUNDLE 2), by decide⟩,
   ⟨(State.reset.wrN BOOT_SRC_ADDR_LO 4), by decide⟩,
   ⟨{ State.reset with pins := { State.reset.pins with camm := [0, 128] } }, by decide⟩,
   ⟨(State.reset.wrN BOOT_SRC_LEN 65536), by decide⟩,
   ⟨(State.reset.wrN BOOT_SRC_LEN 8191), by decide⟩,
   ⟨(State.reset.set BOOT_STATUS_BUNDLE 1), by decide⟩,
   ⟨State.reset, by decide⟩,
   ⟨(((State.reset.set BOOT_STATUS_BUNDLE 1)).wrN BOOT_SRC_LEN 8), by decide⟩,
   ⟨(State.reset.set BOOT_STATUS_BUNDLE 2), by decide⟩,
   ⟨State.reset, by decide⟩,
   ⟨(State.reset.set BOOT_STATUS_BUNDLE 3), by decide⟩,
   ⟨State.reset, by decide⟩⟩

theorem witness_ArmingStarts :
    (∃ (s : State), s.pins.powered = true ∧ s.boot.disarming = false ∧ s.shelf = stPassive ∧ s.armReady = true ∧ s.tooSoon
      s.brd.offSince = false) ∧
    (∃ (s : State), s.pins.powered = true ∧ s.boot.disarming = false ∧ s.shelf = stPassive ∧ s.armReady = true ∧ s.tooSoon
      s.brd.offSince = true) ∧
    (∃ (s : State), s.pins.powered = true ∧ s.boot.disarming = false ∧ s.shelf = stPassive ∧ s.armReady = false) ∧
    (∃ (s : State), s.pins.powered = true ∧ s.boot.disarming = false ∧ s.shelf ≠ stPassive) ∧
    (∃ (s : State), s.pins.powered = true ∧ s.boot.disarming = true) ∧
    (∃ (s : State), s.pins.powered = true ∧ s.boot.retryWait = true ∧ s.shelf = stPassive ∧ s.armReady = true ∧ s.get
      BOOT_STATUS_RETRIES_LEFT ≠ 0 ∧ s.tooSoon s.brd.offSince = false) ∧
    (∃ (s : State), s.pins.powered = true ∧ ((s.boot.retryWait = false ∨ s.shelf ≠ stPassive ∨ s.armReady = false ∨ s.get
      BOOT_STATUS_RETRIES_LEFT = 0))) ∧
    (∃ (s : State), s.pins.powered = true ∧ s.isSet SYS_SHELF_STATE_ARM_PENDING = true ∧ s.shelf = stPassive ∧ s.armReady
      = true) ∧
    (∃ (s : State), s.pins.powered = true ∧ s.isSet SYS_SHELF_STATE_ARM_PENDING = true ∧ s.shelf = stPassive ∧ s.armReady
      = false) ∧
    (∃ (s : State) (c : CasNo), s.pins.powered = true ∧ s.isSet (REIN_CAS_STATUS_ENABLE_PENDING c.val) = true ∧ s.casSt
      c.val = 0) ∧
    (∃ (s : State) (g : GrpNo), s.pins.powered = true ∧ bitOf (s.get BRD_PENDING_GRP) g.val = true) ∧
    (∃ (s : State) (c : CasNo) (g : GrpNo), s.pins.powered = true ∧ s.isSet SYS_SHELF_STATE_ARM_PENDING = false ∧ s.isSet
      (REIN_CAS_STATUS_ENABLE_PENDING c.val) = false ∧ bitOf (s.get BRD_PENDING_GRP) g.val = false) :=
  ⟨⟨((State.reset.set BOOT_STATUS_BUNDLE 4).set BOOT_STATUS_PROFILE 2), by decide⟩,
   ⟨{ ((State.reset.set BOOT_STATUS_BUNDLE 4).set BOOT_STATUS_PROFILE 2) with brd := { State.reset.brd with offSince := some State.reset.elapsed } },
     by decide⟩,
   ⟨State.reset, by decide⟩,
   ⟨(State.reset.set SYS_SHELF_STATE_STATE 3), by decide⟩,
   ⟨{ (State.reset.set SYS_SHELF_STATE_STATE 3) with boot := { (State.reset.set SYS_SHELF_STATE_STATE 3).boot with disarming := true } },
     by decide⟩,
   ⟨{ (((State.reset.set BOOT_STATUS_BUNDLE 4).set BOOT_STATUS_PROFILE 2).set BOOT_STATUS_RETRIES_LEFT 3) with boot := { (((State.reset.set BOOT_STATUS_BUNDLE 4).set BOOT_STATUS_PROFILE 2).set BOOT_STATUS_RETRIES_LEFT 3).boot with retryWait := true } },
     by decide⟩,
   ⟨State.reset, by decide⟩,
   ⟨(((State.reset.set BOOT_STATUS_BUNDLE 4).set BOOT_STATUS_PROFILE 2).set SYS_SHELF_STATE_ARM_PENDING 1), by decide⟩,
   ⟨(State.reset.set SYS_SHELF_STATE_ARM_PENDING 1), by decide⟩,
   ⟨(State.reset.set (REIN_CAS_STATUS_ENABLE_PENDING 2) 1), 2, by decide⟩,
   ⟨(State.reset.set BRD_PENDING_GRP 8), 3, by decide⟩,
   ⟨State.reset, 1, 3, by decide⟩⟩

theorem witness_ArmingStepsAdvance :
    (∃ (s : State) (ids : List RectId), s.pins.powered = true ∧ s.atStep 1 = true ∧ s.armBlocked = false ∧ ((∀ n : Fin 4,
      bitOf (s.profileAt 0x8003 0 1 0) n.val = true → s.mezOk n.val = true)) ∧ ((∀ r : Fin 6, rectAnswers (s.rectRec
      r.val) (ids.getD r.val ⟨false, 0, 0, [], []⟩) = true))) ∧
    (∃ (s : State) (n : Nat), s.pins.powered = true ∧ s.atStep 1 = true ∧ s.armBlocked = false ∧ s.mezCheck.2 = some n) ∧
    (∃ (s : State) (ids : List RectId) (r : Nat), s.pins.powered = true ∧ s.atStep 1 = true ∧ s.armBlocked = false ∧
      s.mezCheck.2 = none ∧ (s.mezCheck.1.rectCheck ids).2 = some r) ∧
    (∃ (s : State), s.pins.powered = true ∧ ((s.atStep 1 = false ∨ s.armBlocked = true))) ∧
    (∃ (s : State), s.pins.powered = true ∧ s.atStep 1 = true ∧ s.armBlocked = true) ∧
    (∃ (s : State), s.pins.powered = true ∧ ((s.atStep 1 = false ∨ s.armBlocked = false))) ∧
    (∃ (s : State), s.pins.powered = true ∧ s.atStep 2 = true) ∧
    (∃ (s : State), s.pins.powered = true ∧ s.atStep 2 = false) ∧
    (∃ (s : State), s.pins.powered = true ∧ s.atStep 3 = true ∧ s.ringDone 0 = true ∧ s.ringDone 1 = true ∧
      s.boot.restored = true ∧ s.closeBlocked 0 = false ∧ s.closeBlocked 1 = false ∧ s.tapHolds = false ∧
      s.pins.contEn.length = 2) ∧
    (∃ (s : State), s.pins.powered = true ∧ s.atStep 3 = true ∧ s.ringDone 0 = true ∧ s.ringDone 1 = true ∧
      s.boot.restored = true ∧ s.closeBlocked 0 = true) ∧
    (∃ (s : State), s.pins.powered = true ∧ ((s.atStep 3 = false ∨ s.ringDone 0 = false ∨ s.ringDone 1 = false))) ∧
    (∃ (s : State), s.pins.powered = true ∧ s.atStep 4 = true ∧ s.contFb 0 = true ∧ s.contFb 1 = true) ∧
    (∃ (s : State), s.pins.powered = true ∧ ((s.atStep 4 = false ∨ s.contFb 0 = false ∨ s.contFb 1 = false))) ∧
    (∃ (s : State) (vnode : Nat) (vbus : Nat), s.pins.powered = true ∧ s.atStep 5 = true ∧ s.brd.ssOff = false ∧ ((vnode :
      Int) - vbus).natAbs ≤ 100 ∧ s.closeBlocked 2 = false ∧ s.tapHolds = false) ∧
    (∃ (s : State) (vnode : Nat) (vbus : Nat), s.pins.powered = true ∧ s.atStep 5 = true ∧ s.brd.ssOff = false ∧ ((vnode :
      Int) - vbus).natAbs ≤ 100 ∧ s.closeBlocked 2 = true) ∧
    (∃ (s : State) (vnode : Nat) (vbus : Nat), s.pins.powered = true ∧ ((s.atStep 5 = false ∨ s.brd.ssOff = true ∨ 100 <
      ((vnode : Int) - vbus).natAbs))) ∧
    (∃ (s : State), s.pins.powered = true ∧ s.atStep 6 = true ∧ s.isSet SYS_CONN_STATUS_ISO_FB = true) ∧
    (∃ (s : State), s.pins.powered = true ∧ ((s.atStep 6 = false ∨ s.isSet SYS_CONN_STATUS_ISO_FB = false))) ∧
    (∃ (s : State), s.pins.powered = true ∧ s.atStep 7 = true ∧ ((∀ c : Fin 8, s.casSettled c.val = true)) ∧ ((s.dies = 0
      ∨ s.horizonDone = true))) ∧
    (∃ (s : State), s.pins.powered = true ∧ s.armedReady = false) ∧
    (∃ (s : State), s.pins.powered = true ∧ s.shelf = stArming ∧ s.boot.disarming = false ∧ s.boot.contRequested = false) ∧
    (∃ (s : State), s.pins.powered = true ∧ s.shelf = stArming ∧ s.boot.disarming = false ∧ s.boot.contRequested = true) ∧
    (∃ (s : State), s.pins.powered = true ∧ ((s.shelf ≠ stArming ∨ s.boot.disarming = true))) :=
  ⟨⟨{ (State.reset.set SYS_SHELF_STATE_STATE 2) with boot := { (State.reset.set SYS_SHELF_STATE_STATE 2).boot with armStep := 1 } },
     List.replicate 6 ⟨true, 0xC0, 3, [], []⟩, by decide⟩,
   ⟨{ (State.reset.set SYS_SHELF_STATE_STATE 2) with boot := { (State.reset.set SYS_SHELF_STATE_STATE 2).boot with armStep := 1, profile := [(0x8003, [0x01#8])] } },
     0, by decide⟩,
   ⟨{ (State.reset.set SYS_SHELF_STATE_STATE 2) with boot := { (State.reset.set SYS_SHELF_STATE_STATE 2).boot with armStep := 1 } },
     [], 0, by decide⟩,
   ⟨State.reset, by decide⟩,
   ⟨{ ((State.reset.set SYS_SHELF_STATE_STATE 2).set CLK_STATUS_HOLD 1) with boot := { ((State.reset.set SYS_SHELF_STATE_STATE 2).set CLK_STATUS_HOLD 1).boot with armStep := 1 } },
     by decide⟩,
   ⟨State.reset, by decide⟩,
   ⟨{ (State.reset.set SYS_SHELF_STATE_STATE 2) with boot := { (State.reset.set SYS_SHELF_STATE_STATE 2).boot with armStep := 2 } },
     by decide⟩,
   ⟨State.reset, by decide⟩,
   ⟨{ (((State.reset.set SYS_SHELF_STATE_STATE 2).set (RING_STATUS_ENUM 0) 5).set (RING_STATUS_ENUM 1) 5) with boot := { (((State.reset.set SYS_SHELF_STATE_STATE 2).set (RING_STATUS_ENUM 0) 5).set (RING_STATUS_ENUM 1) 5).boot with armStep := 3, restored := true } },
     by decide⟩,
   ⟨{ ((((State.reset.set SYS_SHELF_STATE_STATE 2).set (RING_STATUS_ENUM 0) 5).set (RING_STATUS_ENUM 1) 5).set CLK_STATUS_HOLD 1) with boot := { ((((State.reset.set SYS_SHELF_STATE_STATE 2).set (RING_STATUS_ENUM 0) 5).set (RING_STATUS_ENUM 1) 5).set CLK_STATUS_HOLD 1).boot with armStep := 3, restored := true } },
     by decide⟩,
   ⟨State.reset, by decide⟩,
   ⟨{ ((((State.reset.set SYS_SHELF_STATE_STATE 2)).conn 18 true).conn 19 true) with boot := { ((((State.reset.set SYS_SHELF_STATE_STATE 2)).conn 18 true).conn 19 true).boot with armStep := 4 } },
     by decide⟩,
   ⟨State.reset, by decide⟩,
   ⟨{ (State.reset.set SYS_SHELF_STATE_STATE 2) with boot := { (State.reset.set SYS_SHELF_STATE_STATE 2).boot with armStep := 5 } },
     5200, 5250, by decide⟩,
   ⟨{ ((State.reset.set SYS_SHELF_STATE_STATE 2).set CLK_STATUS_HOLD 1) with boot := { ((State.reset.set SYS_SHELF_STATE_STATE 2).set CLK_STATUS_HOLD 1).boot with armStep := 5 } },
     5200, 5250, by decide⟩,
   ⟨State.reset, 5200, 5301, by decide⟩,
   ⟨{ ((State.reset.set SYS_SHELF_STATE_STATE 2).set SYS_CONN_STATUS_ISO_FB 1) with boot := { ((State.reset.set SYS_SHELF_STATE_STATE 2).set SYS_CONN_STATUS_ISO_FB 1).boot with armStep := 6 } },
     by decide⟩,
   ⟨State.reset, by decide⟩,
   ⟨{ { (State.reset.set SYS_SHELF_STATE_STATE 2) with boot := { (State.reset.set SYS_SHELF_STATE_STATE 2).boot with armStep := 7 } } with otp := { State.reset.otp with variant := .control } },
     by decide⟩,
   ⟨State.reset, by decide⟩,
   ⟨(State.reset.set SYS_SHELF_STATE_STATE 2), by decide⟩,
   ⟨{ (State.reset.set SYS_SHELF_STATE_STATE 2) with boot := { (State.reset.set SYS_SHELF_STATE_STATE 2).boot with contRequested := true } },
     by decide⟩,
   ⟨State.reset, by decide⟩⟩

theorem witness_DisarmAndClearLatch :
    (∃ (s : State), s.pins.powered = true ∧ s.boot.disarming = false ∧ s.armedStates = true) ∧
    (∃ (s : State), s.pins.powered = true ∧ s.boot.disarming = false ∧ s.shelf = stIsolated) ∧
    (∃ (s : State), s.pins.powered = true ∧ s.boot.disarming = false ∧ s.shelf = stPassive) ∧
    (∃ (s : State), s.pins.powered = true ∧ s.boot.disarming = true) ∧
    (∃ (s : State), s.pins.powered = true ∧ s.boot.disarming = false ∧ s.shelf = stLatched) ∧
    (∃ (s : State), s.pins.powered = true ∧ s.boot.disarming = true ∧ s.armedStates = true ∧ s.disarmed = true) ∧
    (∃ (s : State), s.pins.powered = true ∧ s.boot.disarming = false ∧ s.boot.disarmKept = true ∧ s.shelf = stIsolated ∧
      s.isSet SYS_CONN_STATUS_ISO_FB = false ∧ s.isSet HRN_OV_CTRL_LATCHED = false) ∧
    (∃ (s : State), s.pins.powered = true ∧ s.boot.disarming = true ∧ s.armedStates = true ∧ s.disarmed = false) ∧
    (∃ (s : State), s.pins.powered = true ∧ s.boot.disarming = false ∧ s.boot.disarmKept = false) ∧
    (∃ (s : State), s.pins.powered = true ∧ s.shelf = stLatched ∧ s.lowestActive = none) ∧
    (∃ (s : State) (c : Nat), s.pins.powered = true ∧ s.shelf = stLatched ∧ s.lowestActive = some c) ∧
    (∃ (s : State), s.pins.powered = true ∧ s.shelf ≠ stLatched) :=
  ⟨⟨(State.reset.set SYS_SHELF_STATE_STATE 3), by decide⟩,
   ⟨(State.reset.set SYS_SHELF_STATE_STATE 5), by decide⟩,
   ⟨(State.reset.set SYS_SHELF_STATE_STATE 1), by decide⟩,
   ⟨{ (State.reset.set SYS_SHELF_STATE_STATE 3) with boot := { (State.reset.set SYS_SHELF_STATE_STATE 3).boot with disarming := true } },
     by decide⟩,
   ⟨(State.reset.set SYS_SHELF_STATE_STATE 6), by decide⟩,
   ⟨{ { (State.reset.set SYS_SHELF_STATE_STATE 3) with boot := { (State.reset.set SYS_SHELF_STATE_STATE 3).boot with disarming := true } } with rein := { State.reset.rein with carried := [], handover := none } },
     by decide⟩,
   ⟨{ (State.reset.set SYS_SHELF_STATE_STATE 5) with boot := { (State.reset.set SYS_SHELF_STATE_STATE 5).boot with disarmKept := true } },
     by decide⟩,
   ⟨{ ((State.reset.set SYS_SHELF_STATE_STATE 3).set (REIN_CAS_STATUS_STATE 0) 3) with boot := { ((State.reset.set SYS_SHELF_STATE_STATE 3).set (REIN_CAS_STATUS_STATE 0) 3).boot with disarming := true } },
     by decide⟩,
   ⟨State.reset, by decide⟩,
   ⟨(State.reset.set SYS_SHELF_STATE_STATE 6), by decide⟩,
   ⟨{ (State.reset.set SYS_SHELF_STATE_STATE 6) with brd := { State.reset.brd with causes := [(0x0101, 2)], active := [(0x0101, 0)] } },
     0x0101, by decide⟩,
   ⟨State.reset, by decide⟩⟩

theorem witness_EnteringAShelfState :
    (∃ (k : Nat), k ≤ 6) ∧
    (∃ (s : State), s.shelf ≠ stArmed) ∧
    (∃ (k : Nat), k ≤ 6 ∧ k ≠ stArmed) ∧
    (∃ (s : State) (k : Nat), ((k = stIsolated ∨ k = stLatched)) ∧ s.shelf ≠ k) ∧
    (∃ (s : State) (k : Nat), k ≤ 6 ∧ k ≠ stIsolated ∧ s.shelf ≠ k) :=
  ⟨⟨3, by decide⟩,
   ⟨State.reset, by decide⟩,
   ⟨2, by decide⟩,
   ⟨State.reset, 5, by decide⟩,
   ⟨State.reset, 3, by decide⟩⟩

theorem witness_SecurityAndTestCommands :
    (∃ (s : State) (v : Word), s.pins.powered = true ∧ fieldGet v 8 8 = 0x5A ∧ s.inService = true ∧ s.get
      SEC_SVN_FUSED_SVN < fieldGet v 0 8 ∧ fieldGet v 0 8 ≤ s.get SEC_SVN_LOADED_SVN ∧ s.get SEC_SVN_LOADED_SVN ≤ 64 ∧
      s.isSet SEC_SVN_BURNING = false ∧ s.boot.armedOnce = true ∧ s.fenced = false) ∧
    (∃ (s : State) (v : Word), s.pins.powered = true ∧ ((fieldGet v 8 8 ≠ 0x5A ∨ s.inService = false ∨ fieldGet v 0 8 ≤
      s.get SEC_SVN_FUSED_SVN ∨ s.get SEC_SVN_LOADED_SVN < fieldGet v 0 8 ∨ 64 < s.get SEC_SVN_LOADED_SVN ∨ s.isSet
      SEC_SVN_BURNING = true ∨ s.boot.armedOnce = false ∨ s.fenced = true))) ∧
    (∃ (s : State), s.pins.powered = true ∧ s.isSet SEC_SVN_BURNING = true) ∧
    (∃ (s : State), s.pins.powered = true ∧ s.isSet SEC_SVN_BURNING = false) ∧
    (∃ (s : State), s.pins.powered = true ∧ s.isSet SEC_ATT_CTRL_REQ = false) ∧
    (∃ (s : State), s.pins.powered = true ∧ s.isSet SEC_ATT_CTRL_REQ = true) ∧
    (∃ (s : State), s.pins.powered = true ∧ s.shelf = stPassive) ∧
    (∃ (s : State), s.pins.powered = true ∧ s.shelf ≠ stPassive) :=
  ⟨⟨{ ((State.reset.set SYS_SHELF_STATE_STATE 3).set SEC_SVN_LOADED_SVN 4) with boot := { ((State.reset.set SYS_SHELF_STATE_STATE 3).set SEC_SVN_LOADED_SVN 4).boot with armedOnce := true } },
     0x5A02, by decide⟩,
   ⟨State.reset, 0x02, by decide⟩,
   ⟨(State.reset.set SEC_SVN_BURNING 1), by decide⟩,
   ⟨State.reset, by decide⟩,
   ⟨State.reset, by decide⟩,
   ⟨(State.reset.set SEC_ATT_CTRL_REQ 1), by decide⟩,
   ⟨State.reset, by decide⟩,
   ⟨(State.reset.set SYS_SHELF_STATE_STATE 3), by decide⟩⟩

theorem witness_ClockCommands :
    (∃ (s : State) (v : Word) (b : Nat), s.pins.powered = true ∧ v.toNat % 4 ≠ s.get CLK_SRC_SEL_MAIN_SRC ∧ mainBit
      (v.toNat % 4) = some b ∧ s.isSet (readyBit b) = true ∧ s.isSet CLK_STATUS_SW_BUSY = false ∧ s.armedStates =
      false) ∧
    (∃ (s : State) (v : Word), s.pins.powered = true ∧ v.toNat % 4 ≠ s.get CLK_SRC_SEL_MAIN_SRC ∧ ((mainBit (v.toNat % 4)
      = none ∨ s.isSet CLK_STATUS_SW_BUSY = true ∨ s.armedStates = true))) ∧
    (∃ (s : State) (v : Word) (b : Nat), s.pins.powered = true ∧ v.toNat % 4 ≠ s.get CLK_SRC_SEL_MAIN_SRC ∧ mainBit
      (v.toNat % 4) = some b ∧ s.isSet (readyBit b) = false) ∧
    (∃ (s : State) (v : Word), s.pins.powered = true ∧ v.toNat % 4 = s.get CLK_SRC_SEL_MAIN_SRC) ∧
    (∃ (s : State) (v : Word), s.pins.powered = true ∧ ((v.toNat / 256 % 2 ≠ s.get CLK_SRC_SEL_AON_SRC ∨ s.isSet
      CLK_STATUS_AON_FIRC = true)) ∧ s.isSet (readyBit (v.toNat / 256 % 2)) = true ∧ s.isSet CLK_STATUS_SW_BUSY =
      false) ∧
    (∃ (s : State) (v : Word), s.pins.powered = true ∧ ((v.toNat / 256 % 2 ≠ s.get CLK_SRC_SEL_AON_SRC ∨ s.isSet
      CLK_STATUS_AON_FIRC = true)) ∧ ((s.isSet (readyBit (v.toNat / 256 % 2)) = false ∨ s.isSet CLK_STATUS_SW_BUSY =
      true))) ∧
    (∃ (s : State) (v : Word), s.pins.powered = true ∧ v.toNat / 256 % 2 = s.get CLK_SRC_SEL_AON_SRC ∧ s.isSet
      CLK_STATUS_AON_FIRC = false) ∧
    (∃ (s : State) (v : Word), s.pins.powered = true ∧ v.toNat / 16 % 2 ≠ s.get CLK_SRC_SEL_PLL_REF ∧ s.isSet (readyBit
      (if v.toNat / 16 % 2 = 1 then 2 else 3)) = true ∧ s.isSet CLK_STATUS_SW_BUSY = false ∧ s.armedStates = false) ∧
    (∃ (s : State) (v : Word), s.pins.powered = true ∧ v.toNat / 16 % 2 ≠ s.get CLK_SRC_SEL_PLL_REF ∧ ((s.isSet (readyBit
      (if v.toNat / 16 % 2 = 1 then 2 else 3)) = false ∨ s.isSet CLK_STATUS_SW_BUSY = true ∨ s.armedStates = true))) ∧
    (∃ (s : State) (v : Word), s.pins.powered = true ∧ v.toNat / 16 % 2 = s.get CLK_SRC_SEL_PLL_REF) ∧
    (∃ (s : State), s.pins.powered = true ∧ s.relock = true ∧ s.clk.waiting = []) ∧
    (∃ (s : State) (who : Nat) (a : Nat) (be : Nat), s.pins.powered = true ∧ s.relock = true ∧ s.clk.waiting = [.read who
      a be]) ∧
    (∃ (s : State), s.pins.powered = true ∧ s.relock = false) ∧
    (∃ (s : State) (k : Nat), s.pins.powered = true ∧ s.clk.switch = .main k) ∧
    (∃ (s : State) (k : Nat), s.pins.powered = true ∧ s.clk.switch = .aon k) ∧
    (∃ (s : State), s.pins.powered = true ∧ ((s.clk.switch = .none ∨ s.relock = true))) ∧
    (∃ (s : State) (b : Fin 8), s.pins.powered = true ∧ s.isSet (readyBit b.val) = false ∧ s.mayReady b.val = true) ∧
    (∃ (s : State), s.pins.powered = true ∧ s.isSet CLK_READY_PLL_CTL = false ∧ s.mayReady 4 = true ∧ bitOf s.clk.seen 4 =
      false ∧ s.get CLK_SRC_SEL_MAIN_SRC = 0 ∧ s.isSet CLK_STATUS_SW_BUSY = false) ∧
    (∃ (s : State), s.pins.powered = true ∧ s.isSet CLK_READY_XTAL_B = false ∧ bitOf s.clk.seen 1 = false ∧ s.get
      CLK_SRC_SEL_AON_SRC = 0 ∧ s.isSet CLK_STATUS_SW_BUSY = false) ∧
    (∃ (s : State) (b : Fin 8), s.pins.powered = true ∧ ((s.isSet (readyBit b.val) = true ∨ s.mayReady b.val = false))) ∧
    (∃ (s : State) (b : Fin 8), s.pins.powered = true ∧ ((b.val = 3 ∨ b.val = 4 ∨ b.val = 5 ∨ (b.val < 2 ∧ s.isSet
      (readyBit (1 - b.val)) = false))) ∧ s.isSet (readyBit b.val) = true) ∧
    (∃ (s : State) (b : Fin 8), s.pins.powered = true ∧ (((b.val = 3 ∧ s.get CLK_SRC_SEL_PLL_REF = 0) ∨ b.val = 4)) ∧
      s.isSet (readyBit b.val) = true ∧ s.isSet CLK_READY_FIRC = true) ∧
    (∃ (s : State) (b : Fin 8), s.pins.powered = true ∧ b.val < 2 ∧ s.isSet (readyBit (1 - b.val)) = false ∧ s.isSet
      (readyBit b.val) = true ∧ s.isSet CLK_READY_FIRC = true) ∧
    (∃ (s : State) (b : Fin 8), s.pins.powered = true ∧ ((b.val = 2 ∨ b.val = 6 ∨ b.val = 7 ∨ (b.val < 2 ∧ s.isSet
      (readyBit (1 - b.val)) = true) ∨ s.isSet (readyBit b.val) = false))) ∧
    (∃ (s : State) (b : Fin 8), s.pins.powered = true ∧ ((b.val = 2 ∨ b.val = 6 ∨ b.val = 7 ∨ (b.val < 2 ∧ s.isSet
      (readyBit (1 - b.val)) = true))) ∧ s.isSet (readyBit b.val) = true) ∧
    (∃ (s : State) (b : Fin 8), s.pins.powered = true ∧ ((b.val = 3 ∨ b.val = 4 ∨ b.val = 5 ∨ (b.val < 2 ∧ s.isSet
      (readyBit (1 - b.val)) = false) ∨ s.isSet (readyBit b.val) = false))) ∧
    (∃ (s : State), s.pins.powered = true ∧ s.isSet CLK_STATUS_HOLD = true ∧ s.holdOver = true) ∧
    (∃ (s : State), s.pins.powered = true ∧ ((s.isSet CLK_STATUS_HOLD = false ∨ s.holdOver = false))) ∧
    (∃ (s : State), s.pins.powered = true ∧ s.isSet CLK_READY_XTAL_B = false ∧ bitOf s.clk.seen 1 = false) ∧
    (∃ (s : State), s.pins.powered = true ∧ ((s.isSet CLK_READY_XTAL_B = true ∨ bitOf s.clk.seen 1 = true))) ∧
    (∃ (s : State), s.pins.powered = true ∧ s.isSet CLK_READY_XTAL_A = false ∧ bitOf s.clk.seen 3 = false) ∧
    (∃ (s : State), s.pins.powered = true ∧ ((s.isSet CLK_READY_XTAL_A = true ∨ bitOf s.clk.seen 3 = true))) :=
  ⟨⟨(State.reset.set (readyBit 4) 1), 1, 4, by decide⟩,
   ⟨((State.reset.set (readyBit 4) 1).set SYS_SHELF_STATE_STATE 3), 1, by decide⟩,
   ⟨State.reset, 1, 4, by decide⟩,
   ⟨State.reset, 0, by decide⟩,
   ⟨(State.reset.set (readyBit 1) 1), 0x100, by decide⟩,
   ⟨State.reset, 0x100, by decide⟩,
   ⟨State.reset, 0, by decide⟩,
   ⟨(State.reset.set (readyBit 2) 1), 0x10, by decide⟩,
   ⟨(State.reset.set SYS_SHELF_STATE_STATE 3), 0x10, by decide⟩,
   ⟨State.reset, 0, by decide⟩,
   ⟨{ State.reset with clk := { State.reset.clk with switch := .pllRef 1 } }, by decide⟩,
   ⟨{ State.reset with clk := { State.reset.clk with switch := .pllRef 1, waiting := [.read 0 4 15] } }, 0, 4, 15,
     by decide⟩,
   ⟨State.reset, by decide⟩,
   ⟨{ State.reset with clk := { State.reset.clk with switch := .main 1 } }, 1, by decide⟩,
   ⟨{ State.reset with clk := { State.reset.clk with switch := .aon 1 } }, 1, by decide⟩,
   ⟨State.reset, by decide⟩,
   ⟨(State.reset.set (readyBit 0) 0), 0, by decide⟩,
   ⟨(State.reset.set CLK_READY_XTAL_A 1), by decide⟩,
   ⟨State.reset, by decide⟩,
   ⟨State.reset, 4, by decide⟩,
   ⟨(State.reset.set (readyBit 4) 1), 4, by decide⟩,
   ⟨((State.reset.set (readyBit 4) 1).set CLK_READY_FIRC 1), 4, by decide⟩,
   ⟨((State.reset.set (readyBit 0) 1).set CLK_READY_FIRC 1), 0, by decide⟩,
   ⟨State.reset, 7, by decide⟩,
   ⟨(State.reset.set (readyBit 7) 1), 7, by decide⟩,
   ⟨State.reset, 4, by decide⟩,
   ⟨(((State.reset.set CLK_STATUS_HOLD 1).set CLK_READY_PLL_CTL 1).set CLK_READY_PLL_LINK 1), by decide⟩,
   ⟨State.reset, by decide⟩,
   ⟨State.reset, by decide⟩,
   ⟨(State.reset.set CLK_READY_XTAL_B 1), by decide⟩,
   ⟨State.reset, by decide⟩,
   ⟨(State.reset.set CLK_READY_XTAL_A 1), by decide⟩⟩

theorem witness_MeasurementAndPowerModes :
    (∃ (s : State) (dut : Fin 16) (ref : Fin 16), s.pins.powered = true ∧ dut.val < 12 ∧ ref.val < 12 ∧ s.rdN
      CLK_FMEAS_GATE ≠ 0 ∧ s.clockReady ref.val = true) ∧
    (∃ (s : State) (dut : Fin 16) (ref : Fin 16), s.pins.powered = true ∧ ((12 ≤ dut.val ∨ 12 ≤ ref.val ∨ s.rdN
      CLK_FMEAS_GATE = 0 ∨ s.clockReady ref.val = false))) ∧
    (∃ (s : State), s.pins.powered = true ∧ s.clk.measuring = true) ∧
    (∃ (s : State), s.pins.powered = true ∧ s.clk.measuring = false) ∧
    (∃ (s : State) (m : Bool), s.pins.powered = true ∧ s.get PWR_STATUS_CUR_MODE < 2 ∧ s.get PWR_STATUS_CUR_MODE ≠
      m.toNat) ∧
    (∃ (s : State) (m : Bool), s.pins.powered = true ∧ ((2 ≤ s.get PWR_STATUS_CUR_MODE ∨ s.get PWR_STATUS_CUR_MODE =
      m.toNat))) ∧
    (∃ (s : State), s.pins.powered = true ∧ s.deepReady = true ∧ s.get PWR_STATUS_CUR_MODE < 2) ∧
    (∃ (s : State), s.pins.powered = true ∧ ((s.deepReady = false ∨ 2 ≤ s.get PWR_STATUS_CUR_MODE))) ∧
    (∃ (s : State) (b : Fin 5), s.pins.powered = true ∧ b.val < 4 ∧ s.get PWR_STATUS_CUR_MODE = 2 ∧ s.rdN PWR_WAKE_SRC &&&
      s.rdN PWR_WAKE_EN &&& 0xF = 0 ∧ bitOf (s.rdN PWR_WAKE_EN) b.val = true) ∧
    (∃ (s : State) (b : Fin 5), s.pins.powered = true ∧ ((s.asleep = false ∨ ((b.val = 4 ∨ bitOf (s.rdN PWR_WAKE_EN) b.val
      = false) ∧ s.rdN PWR_WAKE_SRC &&& s.rdN PWR_WAKE_EN &&& 0xF = 0)))) ∧
    (∃ (s : State), s.pins.powered = true ∧ s.rd PWR_WAKE_TIMER ≠ 0 ∧ s.asleep = false) ∧
    (∃ (s : State), s.pins.powered = true ∧ s.rd PWR_WAKE_TIMER ≠ 0 ∧ s.get PWR_STATUS_CUR_MODE = 2 ∧ s.rdN PWR_WAKE_SRC
      &&& s.rdN PWR_WAKE_EN &&& 0xF = 0 ∧ bitOf (s.rdN PWR_WAKE_EN) 3 = true) ∧
    (∃ (s : State), s.pins.powered = true ∧ s.rd PWR_WAKE_TIMER = 0) ∧
    (∃ (s : State) (m : Nat), s.pins.powered = true ∧ s.clk.modePending = some m ∧ m < 2 ∧ s.get PWR_STATUS_CUR_MODE = 3 ∧
      s.gates.clk.gateWait = 0) ∧
    (∃ (s : State), s.pins.powered = true ∧ s.clk.modePending = some 2 ∧ s.get PWR_STATUS_CUR_MODE = 3 ∧
      s.gates.clk.gateWait = 0) ∧
    (∃ (s : State), s.pins.powered = true ∧ ((s.clk.modePending = none ∨ s.get PWR_STATUS_CUR_MODE ≠ 3 ∨
      s.gates.clk.gateWait ≠ 0))) ∧
    (∃ (s : State) (x : Fin 15), s.pins.powered = true ∧ ((x.val < 12 ∨ ((∀ c ∈ domainCores x.val, s.coreSt c.1 c.2 = cRet
      ∧ s.idleFor c.1 c.2 = true) ∧ s.domainBusy x.val = false)))) ∧
    (∃ (s : State) (x : Fin 15), s.pins.powered = true ∧ 12 ≤ x.val ∧ (((∃ c ∈ domainCores x.val, s.coreSt c.1 c.2 ≠ cRet
      ∨ s.idleFor c.1 c.2 = false) ∨ s.domainBusy x.val = true))) ∧
    (∃ (s : State), s.pins.powered = true ∧ s.inService = true ∧ s.isSet FCST_STATUS_QUIET = true ∧ ((∀ a ∈
      s.fcst.lastAccept, a + 10 * tickMs ≤ s.elapsed)) ∧ s.get FCST_HOLD_CFG_NAP_MIN * 10 * tickMs ≤ s.rd64
      FCST_QUIET_END_LO FCST_QUIET_END_HI - s.now) ∧
    (∃ (s : State), s.pins.powered = true ∧ ((s.inService = false ∨ s.isSet FCST_STATUS_QUIET = false ∨ (∃ a ∈
      s.fcst.lastAccept, s.elapsed < a + 10 * tickMs) ∨ s.rd64 FCST_QUIET_END_LO FCST_QUIET_END_HI - s.now < s.get
      FCST_HOLD_CFG_NAP_MIN * 10 * tickMs))) ∧
    (∃ (s : State), s.pins.powered = true ∧ ((s.isSet FCST_STATUS_QUIET = false ∨ s.rd64 FCST_QUIET_END_LO
      FCST_QUIET_END_HI - s.now ≤ 5 * tickMs))) ∧
    (∃ (s : State), s.pins.powered = true ∧ s.isSet FCST_STATUS_QUIET = true ∧ 5 * tickMs < s.rd64 FCST_QUIET_END_LO
      FCST_QUIET_END_HI - s.now) :=
  ⟨⟨State.reset, 1, 9, by decide⟩,
   ⟨State.reset, 1, 13, by decide⟩,
   ⟨{ (State.reset.set CLK_FMEAS_CTRL_REF_SEL 9) with clk := { (State.reset.set CLK_FMEAS_CTRL_REF_SEL 9).clk with measuring := true } },
     by decide⟩,
   ⟨State.reset, by decide⟩,
   ⟨State.reset, true, by decide⟩,
   ⟨State.reset, false, by decide⟩,
   ⟨(State.reset.set PWR_CTRL_DEEP_EN 1), by decide⟩,
   ⟨(State.reset.set PWR_STATUS_CUR_MODE 2), by decide⟩,
   ⟨(State.reset.set PWR_STATUS_CUR_MODE 2), 1, by decide⟩,
   ⟨State.reset, 4, by decide⟩,
   ⟨(State.reset.wrN PWR_WAKE_TIMER 1), by decide⟩,
   ⟨(((State.reset.set PWR_STATUS_CUR_MODE 2).wrN PWR_WAKE_TIMER 1).wrN PWR_WAKE_EN 8), by decide⟩,
   ⟨State.reset, by decide⟩,
   ⟨{ (State.reset.set PWR_STATUS_CUR_MODE 3) with clk := { (State.reset.set PWR_STATUS_CUR_MODE 3).clk with modePending := some 1 } },
     1, by decide⟩,
   ⟨{ (State.reset.set PWR_STATUS_CUR_MODE 3) with clk := { (State.reset.set PWR_STATUS_CUR_MODE 3).clk with modePending := some 2 } },
     by decide⟩,
   ⟨State.reset, by decide⟩,
   ⟨State.reset, 1, by decide⟩,
   ⟨(State.reset.setCore 0 0 { State.reset.core 0 0 with since := 1000000 }), 12, by decide⟩,
   ⟨((((State.reset.set SYS_SHELF_STATE_STATE 3).set FCST_STATUS_QUIET 1)).wrN FCST_QUIET_END_LO 0xFFFFFFFF), by decide⟩,
   ⟨State.reset, by decide⟩,
   ⟨State.reset, by decide⟩,
   ⟨(((State.reset.set FCST_STATUS_QUIET 1)).wrN FCST_QUIET_END_LO 0xFFFFFFFF), by decide⟩⟩

theorem witness_SwitchingCycleCommands :
    (∃ (s : State) (n : ChanNo), s.pins.powered = true ∧ ((s.hrnClocked = false ∨ (n = 0 ∧ s.get HRN_SYNC_CTRL_SYNC_SRC =
      2 ∧ s.get HRN_SYNC_STATUS_LOCK = 2 ∧ s.fabStart = false)))) ∧
    (∃ (s : State) (n : ChanNo), s.pins.powered = true ∧ s.hrnClocked = true ∧ ((n ≠ 0 ∨ s.get HRN_SYNC_CTRL_SYNC_SRC ≠ 2
      ∨ s.get HRN_SYNC_STATUS_LOCK ≠ 2 ∨ s.fabStart = true)) ∧ n = 0) ∧
    (∃ (s : State) (n : ChanNo), s.pins.powered = true ∧ s.hrn.chans.length = 104 ∧ s.hrnClocked = true ∧ ((n ≠ 0 ∨ s.get
      HRN_SYNC_CTRL_SYNC_SRC ≠ 2 ∨ s.get HRN_SYNC_STATUS_LOCK ≠ 2 ∨ s.fabStart = true)) ∧ s.hrn.ovOpen = false ∧
      s.isSet HRN_OV_CTRL_LATCHED = false ∧ (if (s.chan n.val).limited then min 127 (s.get (HRN_CH_STATUS_LIMIT_RUN
      n.val) + 1) else 0) ≤ s.nLimit (chanGroup n.val) ∧ s.chSt n.val = chRun ∧ (s.chan n.val).soft = 0 ∧ (((s.chan
      n.val).ref = 0 ∨ (s.chan n.val).zeroSeen = true ∨ s.isSet (HRN_CH_STATUS_DIR n.val) = decide ((s.chan n.val).ref
      < 0)))) ∧
    (∃ (s : State) (n : ChanNo), s.pins.powered = true ∧ s.hrn.chans.length = 104 ∧ s.hrnClocked = true ∧ ((n ≠ 0 ∨ s.get
      HRN_SYNC_CTRL_SYNC_SRC ≠ 2 ∨ s.get HRN_SYNC_STATUS_LOCK ≠ 2 ∨ s.fabStart = true)) ∧ s.hrn.ovOpen = false ∧
      s.isSet HRN_OV_CTRL_LATCHED = false ∧ (if (s.chan n.val).limited then min 127 (s.get (HRN_CH_STATUS_LIMIT_RUN
      n.val) + 1) else 0) ≤ s.nLimit (chanGroup n.val) ∧ s.chSt n.val = chRun ∧ (s.chan n.val).soft = 0 ∧ (s.chan
      n.val).ref ≠ 0 ∧ (s.chan n.val).zeroSeen = false ∧ s.isSet (HRN_CH_STATUS_DIR n.val) ≠ decide ((s.chan
      n.val).ref < 0)) ∧
    (∃ (s : State) (n : ChanNo), s.pins.powered = true ∧ s.hrn.chans.length = 104 ∧ s.hrnClocked = true ∧ ((n ≠ 0 ∨ s.get
      HRN_SYNC_CTRL_SYNC_SRC ≠ 2 ∨ s.get HRN_SYNC_STATUS_LOCK ≠ 2 ∨ s.fabStart = true)) ∧ s.hrn.ovOpen = false ∧
      s.isSet HRN_OV_CTRL_LATCHED = false ∧ s.nLimit (chanGroup n.val) < (if (s.chan n.val).limited then min 127
      (s.get (HRN_CH_STATUS_LIMIT_RUN n.val) + 1) else 0) ∧ stActive (s.chSt n.val) = true ∧ s.get
      (HRN_GRP_STATUS_RETRIES_USED (chanGroup n.val)) < s.get (HRN_GRP_HICCUP_RETRY_BUDGET (chanGroup n.val))) ∧
    (∃ (s : State) (n : ChanNo), s.pins.powered = true ∧ s.hrn.chans.length = 104 ∧ s.hrnClocked = true ∧ ((n ≠ 0 ∨ s.get
      HRN_SYNC_CTRL_SYNC_SRC ≠ 2 ∨ s.get HRN_SYNC_STATUS_LOCK ≠ 2 ∨ s.fabStart = true)) ∧ s.hrn.ovOpen = false ∧
      s.isSet HRN_OV_CTRL_LATCHED = false ∧ s.nLimit (chanGroup n.val) < (if (s.chan n.val).limited then min 127
      (s.get (HRN_CH_STATUS_LIMIT_RUN n.val) + 1) else 0) ∧ stActive (s.chSt n.val) = true ∧ s.get
      (HRN_GRP_HICCUP_RETRY_BUDGET (chanGroup n.val)) ≤ s.get (HRN_GRP_STATUS_RETRIES_USED (chanGroup n.val))) ∧
    (∃ (s : State) (n : ChanNo), s.pins.powered = true ∧ s.hrn.chans.length = 104 ∧ s.hrnClocked = true ∧ ((n ≠ 0 ∨ s.get
      HRN_SYNC_CTRL_SYNC_SRC ≠ 2 ∨ s.get HRN_SYNC_STATUS_LOCK ≠ 2 ∨ s.fabStart = true)) ∧ s.hrn.ovOpen = false ∧
      s.isSet HRN_OV_CTRL_LATCHED = false ∧ (if (s.chan n.val).limited then min 127 (s.get (HRN_CH_STATUS_LIMIT_RUN
      n.val) + 1) else 0) ≤ s.nLimit (chanGroup n.val) ∧ s.chSt n.val = chShedding ∧ 0 < (s.chan n.val).shedLeft) ∧
    (∃ (s : State) (n : ChanNo), s.pins.powered = true ∧ s.hrn.chans.length = 104 ∧ s.hrnClocked = true ∧ ((n ≠ 0 ∨ s.get
      HRN_SYNC_CTRL_SYNC_SRC ≠ 2 ∨ s.get HRN_SYNC_STATUS_LOCK ≠ 2 ∨ s.fabStart = true)) ∧ s.hrn.ovOpen = false ∧
      s.isSet HRN_OV_CTRL_LATCHED = false ∧ (if (s.chan n.val).limited then min 127 (s.get (HRN_CH_STATUS_LIMIT_RUN
      n.val) + 1) else 0) ≤ s.nLimit (chanGroup n.val) ∧ s.chSt n.val = chShedding ∧ (s.chan n.val).shedLeft = 0 ∧
      (s.chan n.val).zeroSeen = true ∧ (s.chan n.val).leaving = true) ∧
    (∃ (s : State) (n : ChanNo), s.pins.powered = true ∧ s.hrn.chans.length = 104 ∧ s.hrnClocked = true ∧ ((n ≠ 0 ∨ s.get
      HRN_SYNC_CTRL_SYNC_SRC ≠ 2 ∨ s.get HRN_SYNC_STATUS_LOCK ≠ 2 ∨ s.fabStart = true)) ∧ s.hrn.ovOpen = false ∧
      s.isSet HRN_OV_CTRL_LATCHED = false ∧ (if (s.chan n.val).limited then min 127 (s.get (HRN_CH_STATUS_LIMIT_RUN
      n.val) + 1) else 0) ≤ s.nLimit (chanGroup n.val) ∧ s.chSt n.val = chShedding ∧ (s.chan n.val).shedLeft = 0 ∧
      (s.chan n.val).zeroSeen = true ∧ (s.chan n.val).leaving = false ∧ s.serves n.val = true ∧ (s.chan
      n.val).faultCode = 0 ∧ s.get (HRN_GRP_STATUS_STATE (chanGroup n.val)) ≠ 2 ∧ s.get (HRN_GRP_STATUS_STATE
      (chanGroup n.val)) ≠ 4) ∧
    (∃ (s : State) (n : ChanNo), s.pins.powered = true ∧ s.hrn.chans.length = 104 ∧ s.hrnClocked = true ∧ ((n ≠ 0 ∨ s.get
      HRN_SYNC_CTRL_SYNC_SRC ≠ 2 ∨ s.get HRN_SYNC_STATUS_LOCK ≠ 2 ∨ s.fabStart = true)) ∧ s.hrn.ovOpen = false ∧
      s.isSet HRN_OV_CTRL_LATCHED = false ∧ (if (s.chan n.val).limited then min 127 (s.get (HRN_CH_STATUS_LIMIT_RUN
      n.val) + 1) else 0) ≤ s.nLimit (chanGroup n.val) ∧ s.chSt n.val = chRestarting) ∧
    (∃ (s : State) (n : ChanNo), s.pins.powered = true ∧ s.hrn.chans.length = 104 ∧ s.hrnClocked = true ∧ ((n ≠ 0 ∨ s.get
      HRN_SYNC_CTRL_SYNC_SRC ≠ 2 ∨ s.get HRN_SYNC_STATUS_LOCK ≠ 2 ∨ s.fabStart = true)) ∧ s.chSt n.val = chOvLatch) ∧
    (∃ (s : State) (n : ChanNo), s.pins.powered = true ∧ s.hrn.chans.length = 104 ∧ s.hrnClocked = true ∧ ((n ≠ 0 ∨ s.get
      HRN_SYNC_CTRL_SYNC_SRC ≠ 2 ∨ s.get HRN_SYNC_STATUS_LOCK ≠ 2 ∨ s.fabStart = true)) ∧ s.chSt n.val ≠ chOvLatch ∧
      ((stActive (s.chSt n.val) = false ∨ s.hrn.ovOpen = true ∨ s.isSet HRN_OV_CTRL_LATCHED = true))) ∧
    (∃ (s : State) (n : ChanNo), s.pins.powered = true ∧ s.hrn.chans.length = 104 ∧ s.isSet (HRN_CH_STATUS_DIR n.val) =
      false) ∧
    (∃ (s : State) (n : ChanNo) (i : Int) (left : Nat), s.pins.powered = true ∧ s.hrn.chans.length = 104 ∧ s.ctlOn n.val =
      true ∧ (s.chan n.val).blank = false ∧ s.peakTrips n.val (s.sensed n.val i) left = true) ∧
    (∃ (s : State) (n : ChanNo) (i : Int) (left : Nat), s.pins.powered = true ∧ s.hrn.chans.length = 104 ∧ s.ctlOn n.val =
      true ∧ (s.chan n.val).blank = true ∧ s.peakTrips n.val (s.sensed n.val i) left = true) ∧
    (∃ (s : State) (n : ChanNo) (i : Int) (left : Nat), s.pins.powered = true ∧ s.hrn.chans.length = 104 ∧ ((s.ctlOn n.val
      = false ∨ s.peakTrips n.val (s.sensed n.val i) left = false))) ∧
    (∃ (s : State) (n : ChanNo), s.pins.powered = true ∧ s.hrn.chans.length = 104 ∧ (s.chan n.val).blank = true ∧ (s.chan
      n.val).tripSeen = true ∧ s.ctlOn n.val = true) ∧
    (∃ (s : State) (n : ChanNo), s.pins.powered = true ∧ s.hrn.chans.length = 104 ∧ (((s.chan n.val).blank = false ∨
      (s.chan n.val).tripSeen = false ∨ s.ctlOn n.val = false))) ∧
    (∃ (s : State) (n : ChanNo), s.pins.powered = true ∧ s.hrn.chans.length = 104 ∧ s.ctlOn n.val = true) ∧
    (∃ (s : State) (n : ChanNo), s.pins.powered = true ∧ s.hrn.chans.length = 104 ∧ s.ctlOn n.val = false) ∧
    (∃ (s : State) (n : ChanNo), s.pins.powered = true ∧ s.hrn.chans.length = 104 ∧ stActive (s.chSt n.val) = true ∧
      (s.chan n.val).dead = 1) ∧
    (∃ (s : State) (n : ChanNo), s.pins.powered = true ∧ s.hrn.chans.length = 104 ∧ stActive (s.chSt n.val) = true ∧
      (s.chan n.val).dead = 2 ∧ ((s.isSet (HRN_CH_STATUS_DE n.val) = false ∨ (s.chan n.val).zeroSeen = false))) ∧
    (∃ (s : State) (n : ChanNo), s.pins.powered = true ∧ s.hrn.chans.length = 104 ∧ stActive (s.chSt n.val) = true ∧
      (s.chan n.val).dead = 2 ∧ s.isSet (HRN_CH_STATUS_DE n.val) = true ∧ (s.chan n.val).zeroSeen = true) ∧
    (∃ (s : State) (n : ChanNo), s.pins.powered = true ∧ s.hrn.chans.length = 104 ∧ stActive (s.chSt n.val) = true ∧
      (s.chan n.val).dead = 3) ∧
    (∃ (s : State) (n : ChanNo), s.pins.powered = true ∧ ((stActive (s.chSt n.val) = false ∨ (s.chan n.val).dead = 0 ∨ 3 <
      (s.chan n.val).dead))) ∧
    (∃ (s : State) (n : ChanNo), s.pins.powered = true ∧ s.hrn.chans.length = 104 ∧ s.isSet (HRN_CH_STATUS_DE n.val) =
      true ∧ stActive (s.chSt n.val) = true ∧ s.ctlOn n.val = false ∧ (s.chan n.val).dead = 0) ∧
    (∃ (s : State) (n : ChanNo), s.pins.powered = true ∧ s.hrn.chans.length = 104 ∧ ((s.isSet (HRN_CH_STATUS_DE n.val) =
      false ∨ stActive (s.chSt n.val) = false ∨ s.ctlOn n.val = true ∨ (s.chan n.val).dead ≠ 0))) ∧
    (∃ (s : State) (n : ChanNo) (i : Int), s.pins.powered = true ∧ s.hrn.chans.length = 104 ∧ s.limitTrips n.val (s.sensed
      n.val i) = true ∧ stActive (s.chSt n.val) = true ∧ s.ctlOn n.val = true ∧ (s.chan n.val).blank = false) ∧
    (∃ (s : State) (n : ChanNo) (i : Int), s.pins.powered = true ∧ s.hrn.chans.length = 104 ∧ s.limitTrips n.val (s.sensed
      n.val i) = true ∧ stActive (s.chSt n.val) = true ∧ s.ctlOn n.val = true ∧ (s.chan n.val).blank = true) ∧
    (∃ (s : State) (n : ChanNo) (i : Int), s.pins.powered = true ∧ s.hrn.chans.length = 104 ∧ s.limitTrips n.val (s.sensed
      n.val i) = true ∧ stActive (s.chSt n.val) = true ∧ s.ctlOn n.val = false) ∧
    (∃ (s : State) (n : ChanNo) (i : Int), s.pins.powered = true ∧ s.hrn.chans.length = 104 ∧ s.limitTrips n.val (s.sensed
      n.val i) = true ∧ s.chSt n.val = chOvLatch) ∧
    (∃ (s : State) (n : ChanNo) (i : Int), s.pins.powered = true ∧ s.hrn.chans.length = 104 ∧ ((s.limitTrips n.val
      (s.sensed n.val i) = false ∨ (s.chSt n.val ≠ chOvLatch ∧ stActive (s.chSt n.val) = false)))) :=
  ⟨⟨State.reset, 0, by decide⟩,
   ⟨((State.reset.set SYS_SHELF_STATE_STATE 3).set (HRN_CH_STATUS_STATE 0) 3), 0, by decide⟩,
   ⟨((((State.reset.set SYS_SHELF_STATE_STATE 3).set (HRN_CH_STATUS_STATE 1) 3)).setChan 1
     { (((State.reset.set SYS_SHELF_STATE_STATE 3).set (HRN_CH_STATUS_STATE 1) 3)).chan 1 with ref := 300 }), 1,
     by decide⟩,
   ⟨((((State.reset.set SYS_SHELF_STATE_STATE 3).set (HRN_CH_STATUS_STATE 1) 3)).setChan 1
     { (((State.reset.set SYS_SHELF_STATE_STATE 3).set (HRN_CH_STATUS_STATE 1) 3)).chan 1 with ref := -300, zeroSeen := false }),
     1, by decide⟩,
   ⟨(((((State.reset.set SYS_SHELF_STATE_STATE 3).set (HRN_CH_STATUS_STATE 9) 3)).setChan 9
     { (((State.reset.set SYS_SHELF_STATE_STATE 3).set (HRN_CH_STATUS_STATE 9) 3)).chan 9 with limited := true }).set
     (HRN_CH_STATUS_LIMIT_RUN 9) 100), 9, by decide⟩,
   ⟨((((((State.reset.set SYS_SHELF_STATE_STATE 3).set (HRN_CH_STATUS_STATE 9) 3)).setChan 9
     { (((State.reset.set SYS_SHELF_STATE_STATE 3).set (HRN_CH_STATUS_STATE 9) 3)).chan 9 with limited := true }).set
     (HRN_CH_STATUS_LIMIT_RUN 9) 100).set (HRN_GRP_STATUS_RETRIES_USED 1) 15), 9, by decide⟩,
   ⟨((((State.reset.set SYS_SHELF_STATE_STATE 3).set (HRN_CH_STATUS_STATE 1) 4)).setChan 1
     { (((State.reset.set SYS_SHELF_STATE_STATE 3).set (HRN_CH_STATUS_STATE 1) 4)).chan 1 with shedLeft := 8 }), 1,
     by decide⟩,
   ⟨((((State.reset.set SYS_SHELF_STATE_STATE 3).set (HRN_CH_STATUS_STATE 1) 4)).setChan 1
     { (((State.reset.set SYS_SHELF_STATE_STATE 3).set (HRN_CH_STATUS_STATE 1) 4)).chan 1 with leaving := true, zeroSeen := true }),
     1, by decide⟩,
   ⟨((((((State.reset.set SYS_SHELF_STATE_STATE 3).set (HRN_CH_STATUS_STATE 1) 4)).setChan 1
     { (((State.reset.set SYS_SHELF_STATE_STATE 3).set (HRN_CH_STATUS_STATE 1) 4)).chan 1 with zeroSeen := true }).set
     (HRN_CH_CTRL_ROLE 1) 1).set (HRN_GRP_CTRL_ENABLE 0) 1), 1, by decide⟩,
   ⟨((((State.reset.set SYS_SHELF_STATE_STATE 3).set (HRN_CH_STATUS_STATE 1) 2)).setChan 1
     { (((State.reset.set SYS_SHELF_STATE_STATE 3).set (HRN_CH_STATUS_STATE 1) 2)).chan 1 with restart := 3 }), 1,
     by decide⟩,
   ⟨((State.reset.set SYS_SHELF_STATE_STATE 3).set (HRN_CH_STATUS_STATE 1) 7), 1, by decide⟩,
   ⟨((State.reset.set SYS_SHELF_STATE_STATE 3).set (HRN_CH_STATUS_STATE 1) 1), 1, by decide⟩,
   ⟨State.reset, 1, by decide⟩,
   ⟨((((State.reset.set SYS_SHELF_STATE_STATE 3).set (HRN_CH_STATUS_STATE 1) 3)).setChan 1
     { (((State.reset.set SYS_SHELF_STATE_STATE 3).set (HRN_CH_STATUS_STATE 1) 3)).chan 1 with hi := true }), 1, 300,
     100, by decide⟩,
   ⟨((((State.reset.set SYS_SHELF_STATE_STATE 3).set (HRN_CH_STATUS_STATE 1) 3)).setChan 1
     { (((State.reset.set SYS_SHELF_STATE_STATE 3).set (HRN_CH_STATUS_STATE 1) 3)).chan 1 with hi := true, blank := true }),
     1, 300, 100, by decide⟩,
   ⟨State.reset, 1, 300, 100, by decide⟩,
   ⟨((((State.reset.set SYS_SHELF_STATE_STATE 3).set (HRN_CH_STATUS_STATE 1) 3)).setChan 1
     { (((State.reset.set SYS_SHELF_STATE_STATE 3).set (HRN_CH_STATUS_STATE 1) 3)).chan 1 with hi := true, blank := true, tripSeen := true }),
     1, by decide⟩,
   ⟨((((State.reset.set SYS_SHELF_STATE_STATE 3).set (HRN_CH_STATUS_STATE 1) 3)).setChan 1
     { (((State.reset.set SYS_SHELF_STATE_STATE 3).set (HRN_CH_STATUS_STATE 1) 3)).chan 1 with hi := true, blank := true }),
     1, by decide⟩,
   ⟨((((State.reset.set SYS_SHELF_STATE_STATE 3).set (HRN_CH_STATUS_STATE 1) 3)).setChan 1
     { (((State.reset.set SYS_SHELF_STATE_STATE 3).set (HRN_CH_STATUS_STATE 1) 3)).chan 1 with hi := true }), 1,
     by decide⟩,
   ⟨State.reset, 1, by decide⟩,
   ⟨((((State.reset.set SYS_SHELF_STATE_STATE 3).set (HRN_CH_STATUS_STATE 1) 3)).setChan 1
     { (((State.reset.set SYS_SHELF_STATE_STATE 3).set (HRN_CH_STATUS_STATE 1) 3)).chan 1 with dead := 1 }), 1,
     by decide⟩,
   ⟨((((State.reset.set SYS_SHELF_STATE_STATE 3).set (HRN_CH_STATUS_STATE 1) 3)).setChan 1
     { (((State.reset.set SYS_SHELF_STATE_STATE 3).set (HRN_CH_STATUS_STATE 1) 3)).chan 1 with dead := 2 }), 1,
     by decide⟩,
   ⟨(((((State.reset.set SYS_SHELF_STATE_STATE 3).set (HRN_CH_STATUS_STATE 1) 3)).setChan 1
     { (((State.reset.set SYS_SHELF_STATE_STATE 3).set (HRN_CH_STATUS_STATE 1) 3)).chan 1 with dead := 2, zeroSeen := true }).set
     (HRN_CH_STATUS_DE 1) 1), 1, by decide⟩,
   ⟨((((State.reset.set SYS_SHELF_STATE_STATE 3).set (HRN_CH_STATUS_STATE 1) 2)).setChan 1
     { (((State.reset.set SYS_SHELF_STATE_STATE 3).set (HRN_CH_STATUS_STATE 1) 2)).chan 1 with dead := 3, lo := true }),
     1, by decide⟩,
   ⟨State.reset, 1, by decide⟩,
   ⟨(((((State.reset.set SYS_SHELF_STATE_STATE 3).set (HRN_CH_STATUS_STATE 1) 3)).setChan 1
     { (((State.reset.set SYS_SHELF_STATE_STATE 3).set (HRN_CH_STATUS_STATE 1) 3)).chan 1 with lo := true }).set
     (HRN_CH_STATUS_DE 1) 1), 1, by decide⟩,
   ⟨State.reset, 1, by decide⟩,
   ⟨((((State.reset.set SYS_SHELF_STATE_STATE 3).set (HRN_CH_STATUS_STATE 1) 3)).setChan 1
     { (((State.reset.set SYS_SHELF_STATE_STATE 3).set (HRN_CH_STATUS_STATE 1) 3)).chan 1 with hi := true }), 1, 1300,
     by decide⟩,
   ⟨((((State.reset.set SYS_SHELF_STATE_STATE 3).set (HRN_CH_STATUS_STATE 1) 3)).setChan 1
     { (((State.reset.set SYS_SHELF_STATE_STATE 3).set (HRN_CH_STATUS_STATE 1) 3)).chan 1 with hi := true, blank := true }),
     1, 1300, by decide⟩,
   ⟨((((State.reset.set SYS_SHELF_STATE_STATE 3).set (HRN_CH_STATUS_STATE 1) 3)).setChan 1
     { (((State.reset.set SYS_SHELF_STATE_STATE 3).set (HRN_CH_STATUS_STATE 1) 3)).chan 1 with dead := 1 }), 1, 1300,
     by decide⟩,
   ⟨((((State.reset.set SYS_SHELF_STATE_STATE 3).set (HRN_CH_STATUS_STATE 1) 7)).setChan 1
     { (((State.reset.set SYS_SHELF_STATE_STATE 3).set (HRN_CH_STATUS_STATE 1) 7)).chan 1 with lo := true }), 1, 1300,
     by decide⟩,
   ⟨((((State.reset.set SYS_SHELF_STATE_STATE 3).set (HRN_CH_STATUS_STATE 1) 3)).setChan 1
     { (((State.reset.set SYS_SHELF_STATE_STATE 3).set (HRN_CH_STATUS_STATE 1) 3)).chan 1 with lo := true, limit := 900 }),
     1, 3, by decide⟩⟩

theorem witness_GroupAndFaultCommands :
    (∃ (s : State) (g : GrpNo), s.pins.powered = true ∧ s.get (HRN_GRP_STATUS_STATE g.val) = 2 ∧ s.isSet
      (HRN_GRP_CTRL_ENABLE g.val) = true ∧ s.hrn.chans.length = 104) ∧
    (∃ (s : State) (g : GrpNo) (n : Nat), s.pins.powered = true ∧ s.get (HRN_GRP_STATUS_STATE g.val) = 2 ∧
      s.hrn.chans.length = 104 ∧ n ∈ groupChans g.val ∧ s.chSt n = chHiccup) ∧
    (∃ (s : State) (g : GrpNo), s.pins.powered = true ∧ s.get (HRN_GRP_STATUS_STATE g.val) ≠ 2) ∧
    (∃ (s : State) (g : GrpNo), s.pins.powered = true ∧ s.get (HRN_GRP_STATUS_STATE g.val) = 3) ∧
    (∃ (s : State) (g : GrpNo), s.pins.powered = true ∧ s.get (HRN_GRP_STATUS_STATE g.val) ≠ 3) ∧
    (∃ (s : State) (g : GrpNo), s.pins.powered = true ∧ s.get (HRN_GRP_STATUS_STATE g.val) = 1) ∧
    (∃ (s : State) (g : GrpNo), s.pins.powered = true ∧ s.get (HRN_GRP_STATUS_STATE g.val) ≠ 1) ∧
    (∃ (s : State) (x : StrNo) (k : Nat), s.pins.powered = true ∧ s.shedding = true ∧ s.boot.disarming = false ∧
      s.strAbove x.val (((stringChans x.val).filter fun m => s.chSt m == chRun || s.chSt m == chRestarting).length *
      s.shedGet HRN_SHED_CFG_ADD_A) = true ∧ s.lowestRank ((stringChans x.val).filter fun m => s.chSt m == chShed &&
      !s.heldDown m && !s.phHeld m) = some k) ∧
    (∃ (s : State) (x : StrNo) (k : Nat), s.pins.powered = true ∧ s.shedding = true ∧ s.boot.disarming = false ∧
      s.strAbove x.val (((stringChans x.val).filter fun m => s.chSt m == chRun || s.chSt m == chRestarting).length *
      s.shedGet HRN_SHED_CFG_ADD_A) = false ∧ s.strBelow x.val (((stringChans x.val).filter fun m => s.chSt m == chRun
      || s.chSt m == chRestarting).length * s.shedGet HRN_SHED_CFG_DROP_A) = true ∧ s.shedGet HRN_SHED_CFG_MIN_ACTIVE
      < ((stringChans x.val).filter fun m => s.chSt m == chRun || s.chSt m == chRestarting).length ∧
      s.hrn.stepHold.getD x.val false = false ∧ s.highestRank ((stringChans x.val).filter fun m => s.chSt m == chRun)
      = some k) ∧
    (∃ (s : State) (x : StrNo), s.pins.powered = true ∧ s.shedding = true ∧ s.boot.disarming = false ∧ s.strAbove x.val
      (((stringChans x.val).filter fun m => s.chSt m == chRun || s.chSt m == chRestarting).length * s.shedGet
      HRN_SHED_CFG_ADD_A) = false ∧ ((s.strBelow x.val (((stringChans x.val).filter fun m => s.chSt m == chRun ||
      s.chSt m == chRestarting).length * s.shedGet HRN_SHED_CFG_DROP_A) = false ∨ ((stringChans x.val).filter fun m =>
      s.chSt m == chRun || s.chSt m == chRestarting).length ≤ s.shedGet HRN_SHED_CFG_MIN_ACTIVE ∨ s.hrn.stepHold.getD
      x.val false = true))) ∧
    (∃ (s : State), s.pins.powered = true ∧ ((s.shedding = false ∨ s.boot.disarming = true))) ∧
    (∃ (s : State) (xs : Strings) (x : Nat) (n : Nat), s.pins.powered = true ∧ s.shedding = true ∧ s.boot.disarming =
      false ∧ s.hrn.chans.length = 104 ∧ s.hrn.stepHold.length = 2 ∧ x ∈ stringsOf xs ∧ n ∈ stringChans x ∧ s.serves n
      = true ∧ s.heldDown n = false) ∧
    (∃ (s : State) (g : GrpNo), s.pins.powered = true ∧ s.isSet (HRN_GRP_CTRL_ENABLE g.val) = true) ∧
    (∃ (s : State) (g : GrpNo), s.pins.powered = true ∧ s.isSet (HRN_GRP_CTRL_ENABLE g.val) = false ∧ (((∃ n ∈ groupChans
      g.val, (s.chan n).leaving = true ∧ s.chSt n ≠ chOff) ∨ s.tooSoon (s.brd.grpOffSince.getD g.val none) = true))) ∧
    (∃ (s : State) (g : GrpNo), s.pins.powered = true ∧ s.isSet (HRN_GRP_CTRL_ENABLE g.val) = false ∧ ((∀ n ∈ groupChans
      g.val, (s.chan n).leaving = true → s.chSt n = chOff)) ∧ s.tooSoon (s.brd.grpOffSince.getD g.val none) = false ∧
      s.hrn.chans.length = 104 ∧ bitOf (s.get BRD_PENDING_GRP) g.val = false ∧ s.get (HRN_GRP_STATUS_STATE g.val) = 0) ∧
    (∃ (s : State) (g : GrpNo), s.pins.powered = true ∧ s.isSet (HRN_GRP_CTRL_ENABLE g.val) = true ∧ s.hrn.chans.length =
      104) ∧
    (∃ (s : State) (g : GrpNo), s.pins.powered = true ∧ s.isSet (HRN_GRP_CTRL_ENABLE g.val) = false) ∧
    (∃ (s : State), s.pins.powered = true ∧ s.hrn.chans.length = 104) ∧
    (∃ (s : State) (n : ChanNo), s.pins.powered = true ∧ ((s.isSet (HRN_CH_CTRL_FORCE_SHED n.val) = false ∨ chanString
      n.val ∉ s.brd.strOut))) ∧
    (∃ (s : State) (n : ChanNo), s.pins.powered = true ∧ s.isSet (HRN_CH_CTRL_FORCE_SHED n.val) = true ∧ chanString n.val
      ∈ s.brd.strOut) ∧
    (∃ (s : State), s.pins.powered = true ∧ s.hrn.chans.length = 104) ∧
    (∃ (s : State) (v : Int), s.pins.powered = true ∧ -2 ^ 15 ≤ v ∧ v < 2 ^ 15 ∧ s.hrnClocked = false) ∧
    (∃ (s : State) (n : ChanNo) (v : Int), s.pins.powered = true ∧ -2 ^ 15 ≤ v ∧ v < 2 ^ 15 ∧ s.hrn.chans.length = 104 ∧
      s.hrnClocked = true ∧ v ≤ 10 * s.get (HRN_GRP_TEMP_T_WARN (chanGroup n.val)) ∧ v ≤ 10 * s.get
      (HRN_GRP_TEMP_T_TRIP (chanGroup n.val))) ∧
    (∃ (s : State) (n : ChanNo) (v : Int), s.pins.powered = true ∧ -2 ^ 15 ≤ v ∧ v < 2 ^ 15 ∧ s.hrn.chans.length = 104 ∧
      s.hrnClocked = true ∧ 10 * s.get (HRN_GRP_TEMP_T_WARN (chanGroup n.val)) < v ∧ v ≤ 10 * s.get
      (HRN_GRP_TEMP_T_TRIP (chanGroup n.val))) ∧
    (∃ (s : State) (n : ChanNo) (v : Int), s.pins.powered = true ∧ -2 ^ 15 ≤ v ∧ v < 2 ^ 15 ∧ s.hrn.chans.length = 104 ∧
      s.hrnClocked = true ∧ 10 * s.get (HRN_GRP_TEMP_T_TRIP (chanGroup n.val)) < v) ∧
    (∃ (s : State) (n : ChanNo), s.pins.powered = true ∧ s.hrn.chans.length = 104 ∧ s.chSt n.val = chFaulted ∧ s.getI
      (HRN_CH_MEAS_TEMP n.val) < 10 * s.get (HRN_GRP_TEMP_T_WARN (chanGroup n.val)) ∧ s.isSet (HRN_CH_FAULT_FLT_N
      n.val) = false ∧ s.isSet (HRN_CH_FAULT_OT_TRIP n.val) = false) ∧
    (∃ (s : State) (n : ChanNo), s.pins.powered = true ∧ s.hrn.chans.length = 104 ∧ ((s.chSt n.val ≠ chFaulted ∨ 10 *
      s.get (HRN_GRP_TEMP_T_WARN (chanGroup n.val)) ≤ s.getI (HRN_CH_MEAS_TEMP n.val) ∨ s.isSet (HRN_CH_FAULT_FLT_N
      n.val) = true ∨ s.isSet (HRN_CH_FAULT_OT_TRIP n.val) = true))) :=
  ⟨⟨((State.reset.set (HRN_GRP_STATUS_STATE 2) 2).set (HRN_GRP_CTRL_ENABLE 2) 1), 2, by decide⟩,
   ⟨(((State.reset.set (HRN_GRP_STATUS_STATE 2) 2).set (HRN_CH_STATUS_STATE 17) 5).set SYS_SHELF_STATE_STATE 3), 2, 17,
     by decide⟩,
   ⟨State.reset, 2, by decide⟩,
   ⟨(((State.reset.set (HRN_GRP_STATUS_STATE 2) 3).set (HRN_CH_STATUS_STATE 17) 2).set (HRN_CH_STATUS_STATE 18) 2), 2,
     by decide⟩,
   ⟨State.reset, 2, by decide⟩,
   ⟨(State.reset.set (HRN_GRP_STATUS_STATE 2) 1), 2, by decide⟩,
   ⟨State.reset, 2, by decide⟩,
   ⟨{ (((((State.reset.set SYS_SHELF_STATE_STATE 3)).set (HRN_CH_CTRL_ROLE 5) 1).set (HRN_GRP_CTRL_ENABLE 0) 1).set (HRN_CH_STATUS_STATE 5) 1) with hrn := { (((((State.reset.set SYS_SHELF_STATE_STATE 3)).set (HRN_CH_CTRL_ROLE 5) 1).set (HRN_GRP_CTRL_ENABLE 0) 1).set (HRN_CH_STATUS_STATE 5) 1).hrn with strCmd := [9000000000, 9000000000] } },
     0, 5, by decide⟩,
   ⟨((((State.reset.set SYS_SHELF_STATE_STATE 3).set (HRN_CH_STATUS_STATE 5) 3).set HRN_SHED_CFG_MIN_ACTIVE 0)).shedTake,
     0, 5, by decide +kernel⟩,
   ⟨(State.reset.set SYS_SHELF_STATE_STATE 3), 0, by decide⟩,
   ⟨State.reset, by decide⟩,
   ⟨(((((State.reset.set SYS_SHELF_STATE_STATE 3)).set (HRN_CH_CTRL_ROLE 50) 1).set (HRN_GRP_CTRL_ENABLE 6) 1).set
     (HRN_CH_STATUS_STATE 50) 1), .both, 1, 50, by decide⟩,
   ⟨(State.reset.set (HRN_GRP_CTRL_ENABLE 3) 1), 3, by decide⟩,
   ⟨((((State.reset.set (HRN_CH_STATUS_STATE 25) 4).set (HRN_GRP_CTRL_ENABLE 3) 0)).setChan 25
     { (((State.reset.set (HRN_CH_STATUS_STATE 25) 4).set (HRN_GRP_CTRL_ENABLE 3) 0)).chan 25 with leaving := true }),
     3, by decide⟩,
   ⟨((State.reset.set (HRN_GRP_CTRL_ENABLE 3) 0).set (HRN_GRP_STATUS_STATE 3) 0), 3, by decide⟩,
   ⟨(((((State.reset.set SYS_SHELF_STATE_STATE 3)).set (HRN_CH_CTRL_ROLE 25) 1).set (HRN_GRP_CTRL_ENABLE 3) 1).set
     (HRN_CH_STATUS_STATE 25) 3), 3, by decide⟩,
   ⟨(State.reset.set (HRN_GRP_CTRL_ENABLE 3) 0), 3, by decide⟩,
   ⟨State.reset, by decide⟩,
   ⟨State.reset, 5, by decide⟩,
   ⟨{ ((State.reset.set (HRN_CH_CTRL_FORCE_SHED 5) 1)) with brd := { ((State.reset.set (HRN_CH_CTRL_FORCE_SHED 5) 1)).brd with strOut := [0] } },
     5, by decide⟩,
   ⟨((State.reset.set SYS_SHELF_STATE_STATE 3).set (HRN_CH_STATUS_STATE 5) 3), by decide⟩,
   ⟨State.reset, 300, by decide⟩,
   ⟨((State.reset.set SYS_SHELF_STATE_STATE 3).set (HRN_CH_STATUS_STATE 5) 3), 5, 300, by decide⟩,
   ⟨(((State.reset.set SYS_SHELF_STATE_STATE 3).set (HRN_CH_STATUS_STATE 5) 3).set (HRN_GRP_TEMP_T_WARN 0) 100), 5, 1100,
     by decide⟩,
   ⟨((State.reset.set SYS_SHELF_STATE_STATE 3).set (HRN_CH_STATUS_STATE 5) 3), 5, 2000, by decide⟩,
   ⟨(((((State.reset.set SYS_SHELF_STATE_STATE 3)).set (HRN_CH_CTRL_ROLE 5) 1).set (HRN_GRP_CTRL_ENABLE 0) 1).set
     (HRN_CH_STATUS_STATE 5) 6), 5, by decide⟩,
   ⟨State.reset, 5, by decide⟩⟩

theorem witness_SyncAndOverVoltageCommands :
    (∃ (s : State), s.pins.powered = true ∧ s.get HRN_SYNC_CTRL_SYNC_SRC = 0) ∧
    (∃ (s : State) (i : Nat), s.pins.powered = true ∧ s.get HRN_SYNC_CTRL_SYNC_SRC ≠ 0 ∧ ((10 * i < 9 * s.get
      HRN_TIMING_PERIOD ∨ 11 * s.get HRN_TIMING_PERIOD < 10 * i ∨ s.hrn.stray = true ∨ (s.get HRN_SYNC_CTRL_SYNC_SRC =
      2 ∧ (s.isSet FAB_STATUS_TIME_HELD = false ∨ s.fabStart = false))))) ∧
    (∃ (s : State) (i : Nat), s.pins.powered = true ∧ s.get HRN_SYNC_CTRL_SYNC_SRC ≠ 0 ∧ 9 * s.get HRN_TIMING_PERIOD ≤ 10
      * i ∧ 10 * i ≤ 11 * s.get HRN_TIMING_PERIOD ∧ s.hrn.stray = false ∧ ((s.get HRN_SYNC_CTRL_SYNC_SRC = 2 → s.isSet
      FAB_STATUS_TIME_HELD = true ∧ s.fabStart = true)) ∧ i < 2 ^ HRN_SYNC_STATUS_MEAS_PERIOD.w ∧ ((s.get
      HRN_SYNC_STATUS_LOCK = 0 ∨ s.get HRN_SYNC_STATUS_LOCK = 3)) ∧ 7 ≤ s.hrn.good) ∧
    (∃ (s : State) (i : Nat), s.pins.powered = true ∧ s.get HRN_SYNC_CTRL_SYNC_SRC ≠ 0 ∧ 9 * s.get HRN_TIMING_PERIOD ≤ 10
      * i ∧ 10 * i ≤ 11 * s.get HRN_TIMING_PERIOD ∧ s.hrn.stray = false ∧ ((s.get HRN_SYNC_CTRL_SYNC_SRC = 2 → s.isSet
      FAB_STATUS_TIME_HELD = true ∧ s.fabStart = true)) ∧ i < 2 ^ HRN_SYNC_STATUS_MEAS_PERIOD.w ∧ ((s.get
      HRN_SYNC_STATUS_LOCK = 0 ∨ s.get HRN_SYNC_STATUS_LOCK = 3)) ∧ s.hrn.good < 7) ∧
    (∃ (s : State) (i : Nat) (p : Nat), s.pins.powered = true ∧ s.get HRN_SYNC_CTRL_SYNC_SRC ≠ 0 ∧ 9 * s.get
      HRN_TIMING_PERIOD ≤ 10 * i ∧ 10 * i ≤ 11 * s.get HRN_TIMING_PERIOD ∧ s.hrn.stray = false ∧ ((s.get
      HRN_SYNC_CTRL_SYNC_SRC = 2 → s.isSet FAB_STATUS_TIME_HELD = true ∧ s.fabStart = true)) ∧ i < 2 ^
      HRN_SYNC_STATUS_MEAS_PERIOD.w ∧ s.get HRN_SYNC_STATUS_LOCK = 1 ∧ ((p % 3600 ≤ 5 ∨ 3595 ≤ p % 3600)) ∧ 3 ≤
      s.hrn.aligned) ∧
    (∃ (s : State) (i : Nat) (p : Nat), s.pins.powered = true ∧ s.get HRN_SYNC_CTRL_SYNC_SRC ≠ 0 ∧ 9 * s.get
      HRN_TIMING_PERIOD ≤ 10 * i ∧ 10 * i ≤ 11 * s.get HRN_TIMING_PERIOD ∧ s.hrn.stray = false ∧ ((s.get
      HRN_SYNC_CTRL_SYNC_SRC = 2 → s.isSet FAB_STATUS_TIME_HELD = true ∧ s.fabStart = true)) ∧ i < 2 ^
      HRN_SYNC_STATUS_MEAS_PERIOD.w ∧ s.get HRN_SYNC_STATUS_LOCK = 1 ∧ ((p % 3600 ≤ 5 ∨ 3595 ≤ p % 3600)) ∧
      s.hrn.aligned < 3) ∧
    (∃ (s : State) (i : Nat) (p : Nat), s.pins.powered = true ∧ s.get HRN_SYNC_CTRL_SYNC_SRC ≠ 0 ∧ 9 * s.get
      HRN_TIMING_PERIOD ≤ 10 * i ∧ 10 * i ≤ 11 * s.get HRN_TIMING_PERIOD ∧ s.hrn.stray = false ∧ ((s.get
      HRN_SYNC_CTRL_SYNC_SRC = 2 → s.isSet FAB_STATUS_TIME_HELD = true ∧ s.fabStart = true)) ∧ i < 2 ^
      HRN_SYNC_STATUS_MEAS_PERIOD.w ∧ s.get HRN_SYNC_STATUS_LOCK = 1 ∧ 5 < p % 3600 ∧ p % 3600 < 3595) ∧
    (∃ (s : State) (i : Nat), s.pins.powered = true ∧ s.get HRN_SYNC_CTRL_SYNC_SRC ≠ 0 ∧ 9 * s.get HRN_TIMING_PERIOD ≤ 10
      * i ∧ 10 * i ≤ 11 * s.get HRN_TIMING_PERIOD ∧ s.hrn.stray = false ∧ ((s.get HRN_SYNC_CTRL_SYNC_SRC = 2 → s.isSet
      FAB_STATUS_TIME_HELD = true ∧ s.fabStart = true)) ∧ i < 2 ^ HRN_SYNC_STATUS_MEAS_PERIOD.w ∧ s.get
      HRN_SYNC_STATUS_LOCK = 2) ∧
    (∃ (s : State), s.pins.powered = true ∧ s.get HRN_SYNC_CTRL_SYNC_SRC = 2 ∧ s.isSet FAB_STATUS_TIME_HELD = true) ∧
    (∃ (s : State), s.pins.powered = true ∧ s.get HRN_SYNC_CTRL_SYNC_SRC ≠ 0 ∧ ((s.get HRN_SYNC_CTRL_SYNC_SRC ≠ 2 ∨
      s.isSet FAB_STATUS_TIME_HELD = false)) ∧ s.get HRN_SYNC_STATUS_MISSED = 3 ∧ ((s.get HRN_SYNC_STATUS_LOCK = 1 ∨
      s.get HRN_SYNC_STATUS_LOCK = 2))) ∧
    (∃ (s : State), s.pins.powered = true ∧ s.get HRN_SYNC_CTRL_SYNC_SRC ≠ 0 ∧ ((s.get HRN_SYNC_CTRL_SYNC_SRC ≠ 2 ∨
      s.isSet FAB_STATUS_TIME_HELD = false)) ∧ ((s.get HRN_SYNC_STATUS_MISSED ≠ 3 ∨ s.get HRN_SYNC_STATUS_LOCK = 0 ∨
      s.get HRN_SYNC_STATUS_LOCK = 3))) ∧
    (∃ (s : State) (src : Fin 4), s.pins.powered = true ∧ src.val ≠ 3 ∧ ((src.val ≠ 2 ∨ s.get HRN_TIMING_PERIOD % 8 = 0))
      ∧ src.val ≠ s.get HRN_SYNC_CTRL_SYNC_SRC ∧ s.get HRN_SYNC_CTRL_SYNC_SRC ≠ 0) ∧
    (∃ (s : State) (src : Fin 4), s.pins.powered = true ∧ src.val ≠ 3 ∧ ((src.val ≠ 2 ∨ s.get HRN_TIMING_PERIOD % 8 = 0))
      ∧ src.val ≠ 0 ∧ s.get HRN_SYNC_CTRL_SYNC_SRC = 0) ∧
    (∃ (s : State) (src : Fin 4), s.pins.powered = true ∧ src.val ≠ 3 ∧ ((src.val ≠ 2 ∨ s.get HRN_TIMING_PERIOD % 8 = 0))
      ∧ src.val = s.get HRN_SYNC_CTRL_SYNC_SRC) ∧
    (∃ (s : State) (src : Fin 4), s.pins.powered = true ∧ ((src.val = 3 ∨ (src.val = 2 ∧ s.get HRN_TIMING_PERIOD % 8 ≠
      0)))) ∧
    (∃ (s : State) (v : Nat), s.pins.powered = true ∧ s.hrnClocked = true ∧ s.hrn.ovOpen = false ∧ s.isSet
      HRN_OV_CTRL_LATCHED = false ∧ s.get HRN_OV_CFG_OV_THRESH ≤ v) ∧
    (∃ (s : State) (v : Nat), s.pins.powered = true ∧ s.hrn.ovOpen = false ∧ ((s.hrnClocked = false ∨ s.isSet
      HRN_OV_CTRL_LATCHED = true ∨ v < s.get HRN_OV_CFG_OV_THRESH))) ∧
    (∃ (s : State), s.pins.powered = true ∧ s.hrn.ovOpen = true ∧ ((s.isSet SYS_CONN_STATUS_ISO_FB = true ∨ s.isSet
      HRN_OV_CTRL_LATCHED = true))) ∧
    (∃ (s : State) (n : ChanNo), s.pins.powered = true ∧ s.hrn.chans.length = 104 ∧ s.hrn.ovOpen = true ∧ n.val ∈
      s.hrn.ovActive ∧ s.isSet SYS_CONN_STATUS_ISO_FB = false ∧ s.chSt n.val ≠ chForcedOff) ∧
    (∃ (s : State) (n : ChanNo), s.pins.powered = true ∧ s.hrn.ovOpen = true ∧ n.val ∈ s.hrn.ovActive ∧ s.isSet
      SYS_CONN_STATUS_ISO_FB = false ∧ s.chSt n.val = chForcedOff) ∧
    (∃ (s : State) (n : ChanNo), s.pins.powered = true ∧ ((s.hrn.ovOpen = false ∨ n.val ∉ s.hrn.ovActive ∨ s.isSet
      SYS_CONN_STATUS_ISO_FB = true))) ∧
    (∃ (s : State), s.pins.powered = true ∧ s.hrn.ovOpen = true ∧ s.isSet SYS_CONN_STATUS_ISO_FB = true) ∧
    (∃ (s : State), s.pins.powered = true ∧ ((s.hrn.ovOpen = false ∨ s.isSet SYS_CONN_STATUS_ISO_FB = false))) ∧
    (∃ (s : State) (v : Nat), s.pins.powered = true ∧ s.isSet HRN_OV_CTRL_LATCHED = true ∧ v < s.get HRN_OV_CFG_OV_THRESH) ∧
    (∃ (s : State) (v : Nat), s.pins.powered = true ∧ ((s.isSet HRN_OV_CTRL_LATCHED = false ∨ s.get HRN_OV_CFG_OV_THRESH ≤
      v))) ∧
    (∃ (s : State), s.pins.powered = true ∧ s.isSet HRN_OV_CTRL_LATCHED = true ∧ s.isSet HRN_OV_CFG_AUTO = true) ∧
    (∃ (s : State), s.pins.powered = true ∧ ((s.isSet HRN_OV_CTRL_LATCHED = false ∨ s.isSet HRN_OV_CFG_AUTO = false))) ∧
    (∃ (s : State) (r : Lfr) (l : List Lfr), s.pins.powered = true ∧ s.hrn.lfrQ = r :: l ∧ s.hrn.lfrSlot < 64 ∧ l.length <
      4 ∧ s.isSet EST_JNL_STATUS_BUSY = false ∧ s.sectorMoving (392 * 0x1000 + 0x100 * s.hrn.lfrSlot) = false) ∧
    (∃ (s : State), s.pins.powered = true ∧ ((s.hrn.lfrQ = [] ∨ s.isSet EST_JNL_STATUS_BUSY = true ∨ s.sectorMoving (392 *
      0x1000 + 0x100 * s.hrn.lfrSlot) = true))) :=
  ⟨⟨State.reset, by decide⟩,
   ⟨(State.reset.set HRN_SYNC_CTRL_SYNC_SRC 1), 5, by decide⟩,
   ⟨{ (((State.reset.set HRN_SYNC_CTRL_SYNC_SRC 1).set HRN_SYNC_STATUS_LOCK 0)) with hrn := { (((State.reset.set HRN_SYNC_CTRL_SYNC_SRC 1).set HRN_SYNC_STATUS_LOCK 0)).hrn with good := 7 } },
     (State.reset.get HRN_TIMING_PERIOD), by decide⟩,
   ⟨{ (((State.reset.set HRN_SYNC_CTRL_SYNC_SRC 1).set HRN_SYNC_STATUS_LOCK 3)) with hrn := { (((State.reset.set HRN_SYNC_CTRL_SYNC_SRC 1).set HRN_SYNC_STATUS_LOCK 3)).hrn with good := 2 } },
     (State.reset.get HRN_TIMING_PERIOD), by decide⟩,
   ⟨{ (((State.reset.set HRN_SYNC_CTRL_SYNC_SRC 1).set HRN_SYNC_STATUS_LOCK 1)) with hrn := { (((State.reset.set HRN_SYNC_CTRL_SYNC_SRC 1).set HRN_SYNC_STATUS_LOCK 1)).hrn with aligned := 3 } },
     (State.reset.get HRN_TIMING_PERIOD), 5, by decide⟩,
   ⟨{ (((State.reset.set HRN_SYNC_CTRL_SYNC_SRC 1).set HRN_SYNC_STATUS_LOCK 1)) with hrn := { (((State.reset.set HRN_SYNC_CTRL_SYNC_SRC 1).set HRN_SYNC_STATUS_LOCK 1)).hrn with aligned := 1 } },
     (State.reset.get HRN_TIMING_PERIOD), 5, by decide⟩,
   ⟨{ (((State.reset.set HRN_SYNC_CTRL_SYNC_SRC 1).set HRN_SYNC_STATUS_LOCK 1)) with hrn := { (((State.reset.set HRN_SYNC_CTRL_SYNC_SRC 1).set HRN_SYNC_STATUS_LOCK 1)).hrn with aligned := 3 } },
     (State.reset.get HRN_TIMING_PERIOD), 100, by decide⟩,
   ⟨{ (((State.reset.set HRN_SYNC_CTRL_SYNC_SRC 1).set HRN_SYNC_STATUS_LOCK 2)) with hrn := { (((State.reset.set HRN_SYNC_CTRL_SYNC_SRC 1).set HRN_SYNC_STATUS_LOCK 2)).hrn with good := 7 } },
     (State.reset.get HRN_TIMING_PERIOD), by decide⟩,
   ⟨((State.reset.set HRN_SYNC_CTRL_SYNC_SRC 2).set FAB_STATUS_TIME_HELD 1), by decide⟩,
   ⟨(((State.reset.set HRN_SYNC_CTRL_SYNC_SRC 1).set HRN_SYNC_STATUS_LOCK 2).set HRN_SYNC_STATUS_MISSED 3), by decide⟩,
   ⟨(((State.reset.set HRN_SYNC_CTRL_SYNC_SRC 1).set HRN_SYNC_STATUS_LOCK 2).set HRN_SYNC_STATUS_MISSED 1), by decide⟩,
   ⟨(State.reset.set HRN_SYNC_CTRL_SYNC_SRC 1), 0, by decide⟩,
   ⟨State.reset, 1, by decide⟩,
   ⟨State.reset, 0, by decide⟩,
   ⟨State.reset, 3, by decide⟩,
   ⟨((((State.reset.set SYS_SHELF_STATE_STATE 3).set (HRN_CH_STATUS_STATE 1) 3)).setChan 1
     { (((State.reset.set SYS_SHELF_STATE_STATE 3).set (HRN_CH_STATUS_STATE 1) 3)).chan 1 with hi := true }), 7000,
     by decide⟩,
   ⟨State.reset, 5000, by decide⟩,
   ⟨{ ((State.reset.set SYS_CONN_STATUS_ISO_FB 1)) with hrn := { ((State.reset.set SYS_CONN_STATUS_ISO_FB 1)).hrn with ovOpen := true, ovActive := [1] } },
     by decide⟩,
   ⟨{ ((State.reset.set SYS_SHELF_STATE_STATE 3).set (HRN_CH_STATUS_STATE 1) 3) with hrn := { ((State.reset.set SYS_SHELF_STATE_STATE 3).set (HRN_CH_STATUS_STATE 1) 3).hrn with ovOpen := true, ovActive := [1] } },
     1, by decide⟩,
   ⟨{ ((State.reset.set SYS_SHELF_STATE_STATE 3).set (HRN_CH_STATUS_STATE 1) 8) with hrn := { ((State.reset.set SYS_SHELF_STATE_STATE 3).set (HRN_CH_STATUS_STATE 1) 8).hrn with ovOpen := true, ovActive := [1] } },
     1, by decide⟩,
   ⟨State.reset, 1, by decide⟩,
   ⟨{ ((State.reset.set SYS_CONN_STATUS_ISO_FB 1)) with hrn := { ((State.reset.set SYS_CONN_STATUS_ISO_FB 1)).hrn with ovOpen := true, ovActive := [1] } },
     by decide⟩,
   ⟨State.reset, by decide⟩,
   ⟨(State.reset.set HRN_OV_CTRL_LATCHED 1), 5000, by decide⟩,
   ⟨State.reset, 7000, by decide⟩,
   ⟨((State.reset.set HRN_OV_CTRL_LATCHED 1).set HRN_OV_CFG_AUTO 1), by decide⟩,
   ⟨State.reset, by decide⟩,
   ⟨{ State.reset with hrn := { State.reset.hrn with lfrQ := [⟨zeros 256⟩] } }, ⟨zeros 256⟩, [], by decide⟩,
   ⟨State.reset, by decide⟩⟩

theorem witness_CascadeCommands :
    (∃ (s : State), s.pins.powered = true ∧ s.hrn.chans.length = 104 ∧ s.precharging = true ∧ s.boot.disarming = false) ∧
    (∃ (s : State), s.pins.powered = true ∧ s.shedding = false ∧ s.precharging = false ∧ s.boot.disarming = false) ∧
    (∃ (s : State) (c : CasNo), s.pins.powered = true ∧ s.get (REIN_CAS_FE_CFG_FE_TIME c.val) ≠ 0 ∧ s.get
      (REIN_CAS_FE_CFG_FE_TIME c.val) ≤ s.rein.fe.getD c.val 0 ∧ s.rein.tripped.getD c.val false = false ∧ ((c ≠ 0 ∨
      s.brd.ssWindow = false)) ∧ (0x0300 + c.val, c.val) ∉ s.brd.active) ∧
    (∃ (s : State) (c : CasNo), s.pins.powered = true ∧ ((s.get (REIN_CAS_FE_CFG_FE_TIME c.val) = 0 ∨ s.rein.fe.getD c.val
      0 < s.get (REIN_CAS_FE_CFG_FE_TIME c.val) ∨ s.rein.tripped.getD c.val false = true))) ∧
    (∃ (s : State) (c : CasNo), s.pins.powered = true ∧ s.casSt c.val = 0 ∧ s.inService = true ∧ s.boot.disarming = false
      ∧ s.tooSoon (s.rein.offAt.getD c.val none) = false) ∧
    (∃ (s : State) (c : CasNo), s.pins.powered = true ∧ ((s.casSt c.val = 3 ∨ (s.casSt c.val = 0 ∧ s.inService = true ∧
      s.boot.disarming = false ∧ s.tooSoon (s.rein.offAt.getD c.val none) = true)))) ∧
    (∃ (s : State) (c : CasNo), s.pins.powered = true ∧ s.casSt c.val ≠ 3 ∧ ((s.casSt c.val ≠ 0 ∨ s.inService = false ∨
      s.boot.disarming = true))) ∧
    (∃ (s : State) (c : CasNo), s.pins.powered = true ∧ ((s.casDest c.val ≠ 1 ∧ s.casDest c.val ≠ 4 ∨ s.armedStates =
      false))) ∧
    (∃ (s : State) (c : CasNo), s.pins.powered = true ∧ ((s.casDest c.val = 1 ∨ s.casDest c.val = 4)) ∧ s.armedStates =
      true) ∧
    (∃ (s : State) (word : Fin 6), s.pins.powered = true ∧ word.val < 5) ∧
    (∃ (s : State) (k : Fin 64), s.pins.powered = true ∧ (List.range 8).any (fun c => s.casSt c != 0 && (s.bankSlots c
      (s.bankInUse c)).contains k.val) = false) ∧
    (∃ (s : State) (k : Fin 64), s.pins.powered = true ∧ (List.range 8).any (fun c => s.casSt c != 0 && (s.bankSlots c
      (s.bankInUse c)).contains k.val) = true) ∧
    (∃ (s : State) (c : CasNo) (b : Bool) (u : Bool) (v : Word), s.pins.powered = true ∧ s.mapBad c.val (.word b u v) = 0) ∧
    (∃ (s : State) (c : CasNo) (b : Bool) (n : Fin 16), s.pins.powered = true ∧ s.mapBad c.val (.len b n) = 0) ∧
    (∃ (s : State) (c : CasNo) (m : MapWrite), s.pins.powered = true ∧ s.mapBad c.val m ≠ 0) ∧
    (∃ (s : State), s.pins.powered = true ∧ s.shelf ≠ stPassive) ∧
    (∃ (s : State) (c : CasNo) (v : Word), s.pins.powered = true ∧ s.shelf = stPassive ∧ ((fieldGet v 0 3 = 1 ∨ fieldGet v
      0 3 = 4)) ∧ (List.range 8).any (fun d => d != c.val && s.casDest d == fieldGet v 0 3) = true) ∧
    (∃ (s : State) (c : CasNo) (v : Word), s.pins.powered = true ∧ s.shelf = stPassive ∧ ((fieldGet v 0 3 ≠ 1 ∧ fieldGet v
      0 3 ≠ 4 ∨ (List.range 8).any (fun d => d != c.val && s.casDest d == fieldGet v 0 3) = false))) :=
  ⟨⟨{ ((State.reset.set SYS_SHELF_STATE_STATE 2)) with boot := { ((State.reset.set SYS_SHELF_STATE_STATE 2)).boot with armStep := 5 } },
     by decide⟩,
   ⟨State.reset, by decide⟩,
   ⟨{ ((State.reset.set (REIN_CAS_FE_CFG_FE_TIME 2) 3)) with rein := { ((State.reset.set (REIN_CAS_FE_CFG_FE_TIME 2) 3)).rein with fe := List.replicate 8 3 } },
     2, by decide⟩,
   ⟨State.reset, 2, by decide⟩,
   ⟨(State.reset.set SYS_SHELF_STATE_STATE 3), 2, by decide⟩,
   ⟨(State.reset.set (REIN_CAS_STATUS_STATE 2) 3), 2, by decide⟩,
   ⟨State.reset, 2, by decide⟩,
   ⟨State.reset, 2, by decide⟩,
   ⟨((State.reset.set SYS_SHELF_STATE_STATE 3).set (REIN_CAS_SRC_DEST_SEL 2) 1), 2, by decide⟩,
   ⟨State.reset, 2, by decide⟩,
   ⟨State.reset, 3, by decide⟩,
   ⟨(((State.reset.set (REIN_CAS_STATUS_STATE 1) 2).set (REIN_CAS_CTRL_LEN_A 1) 1).wrN (REIN_CAS_MAP_A0 1) 3), 3,
     by decide⟩,
   ⟨State.reset, 2, true, false, 7, by decide⟩,
   ⟨State.reset, 2, true, 0, by decide⟩,
   ⟨State.reset, 2, .len true 9, by decide⟩,
   ⟨(State.reset.set SYS_SHELF_STATE_STATE 3), by decide⟩,
   ⟨(State.reset.set (REIN_CAS_SRC_DEST_SEL 3) 1), 2, 1, by decide⟩,
   ⟨State.reset, 2, 0x212, by decide⟩⟩

theorem witness_RectifierAndTuneCommands :
    (∃ (s : State) (i : L1In), s.pins.powered = true ∧ s.shelf = stPassive ∧ i.alert = none) ∧
    (∃ (s : State), s.pins.powered = true ∧ s.shelf ≠ stPassive ∧ s.brd.isoLimitDue = true ∧ s.get REIN_L1_ISO_ISO_LIMIT ≠
      0 ∧ s.rein.carried = []) ∧
    (∃ (s : State), s.pins.powered = true ∧ s.shelf = stPassive) ∧
    (∃ (s : State), s.pins.powered = true ∧ s.shelf ≠ stPassive) ∧
    (∃ (s : State) (c : CasNo), s.pins.powered = true ∧ s.casDest c.val = 0) ∧
    (∃ (s : State) (c : CasNo), s.pins.powered = true ∧ s.casDest c.val ≠ 0 ∧ ((s.rein.tune ≠ none ∨ s.rein.tunePending ≠
      none))) ∧
    (∃ (s : State) (c : CasNo), s.pins.powered = true ∧ s.casDest c.val ≠ 0 ∧ s.rein.tune = none ∧ s.rein.tunePending =
      none ∧ s.shelf = stPassive ∧ ((s.isSet (REIN_CAS_CTRL_ENABLE c.val) = true ∨ s.isSet (REIN_CAS_CTRL_AUTO_START
      c.val) = true))) ∧
    (∃ (s : State) (c : CasNo), s.pins.powered = true ∧ s.casDest c.val ≠ 0 ∧ s.rein.tune = none ∧ s.rein.tunePending =
      none ∧ s.shelf = stPassive ∧ s.isSet (REIN_CAS_CTRL_ENABLE c.val) = false ∧ s.isSet (REIN_CAS_CTRL_AUTO_START
      c.val) = false) ∧
    (∃ (s : State) (c : CasNo), s.pins.powered = true ∧ s.casDest c.val ≠ 0 ∧ s.rein.tune = none ∧ s.rein.tunePending =
      none ∧ s.shelf ≠ stPassive ∧ s.inService = false) ∧
    (∃ (s : State) (c : CasNo), s.pins.powered = true ∧ s.casDest c.val ≠ 0 ∧ s.rein.tune = none ∧ s.rein.tunePending =
      none ∧ s.inService = true ∧ s.casSt c.val ≠ 1 ∧ s.casSt c.val ≠ 2) ∧
    (∃ (s : State) (c : CasNo), s.pins.powered = true ∧ s.casDest c.val ≠ 0 ∧ s.rein.tune = none ∧ s.rein.tunePending =
      none ∧ s.inService = true ∧ ((s.casSt c.val = 1 ∨ s.casSt c.val = 2)) ∧ s.isSet FCST_STATUS_QUIET = true ∧ s.now
      + s.tuneLimit c.val ≤ s.rd64 FCST_QUIET_END_LO FCST_QUIET_END_HI) ∧
    (∃ (s : State) (c : CasNo), s.pins.powered = true ∧ s.casDest c.val ≠ 0 ∧ s.rein.tune = none ∧ s.rein.tunePending =
      none ∧ s.inService = true ∧ ((s.casSt c.val = 1 ∨ s.casSt c.val = 2)) ∧ ((s.isSet FCST_STATUS_QUIET = false ∨
      s.rd64 FCST_QUIET_END_LO FCST_QUIET_END_HI < s.now + s.tuneLimit c.val))) ∧
    (∃ (s : State) (u : Tune), s.pins.powered = true ∧ s.rein.tune = some u) ∧
    (∃ (s : State), s.pins.powered = true ∧ s.rein.tune = none) :=
  ⟨⟨State.reset, ⟨3, [.ok], none, 5⟩, by decide⟩,
   ⟨{ (((State.reset.set SYS_SHELF_STATE_STATE 5).set REIN_L1_ISO_ISO_LIMIT 40)) with brd := { (((State.reset.set SYS_SHELF_STATE_STATE 5).set REIN_L1_ISO_ISO_LIMIT 40)).brd with isoLimitDue := true } },
     by decide⟩,
   ⟨State.reset, by decide⟩,
   ⟨(State.reset.set SYS_SHELF_STATE_STATE 3), by decide⟩,
   ⟨(State.reset.set (REIN_CAS_SRC_DEST_SEL 5) 0), 5, by decide⟩,
   ⟨{ ((State.reset.set (REIN_CAS_SRC_DEST_SEL 2) 2)) with rein := { ((State.reset.set (REIN_CAS_SRC_DEST_SEL 2) 2)).rein with tunePending := some 3 } },
     2, by decide⟩,
   ⟨((State.reset.set (REIN_CAS_SRC_DEST_SEL 2) 2).set (REIN_CAS_CTRL_ENABLE 2) 1), 2, by decide⟩,
   ⟨(((State.reset.set (REIN_CAS_SRC_DEST_SEL 2) 2).set (REIN_CAS_CTRL_AUTO_START 2) 0).set (REIN_CAS_CTRL_ENABLE 2) 0),
     2, by decide⟩,
   ⟨((State.reset.set (REIN_CAS_SRC_DEST_SEL 2) 2).set SYS_SHELF_STATE_STATE 5), 2, by decide⟩,
   ⟨((State.reset.set (REIN_CAS_SRC_DEST_SEL 2) 2).set SYS_SHELF_STATE_STATE 3), 2, by decide⟩,
   ⟨((((((State.reset.set (REIN_CAS_SRC_DEST_SEL 2) 2).set SYS_SHELF_STATE_STATE 3).set (REIN_CAS_STATUS_STATE 2) 2).set
     FCST_STATUS_QUIET 1)).wrN FCST_QUIET_END_HI 0xFFFFFF), 2, by decide⟩,
   ⟨(((State.reset.set (REIN_CAS_SRC_DEST_SEL 2) 2).set SYS_SHELF_STATE_STATE 3).set (REIN_CAS_STATUS_STATE 2) 2), 2,
     by decide⟩,
   ⟨{ State.reset with rein := { State.reset.rein with tune := some { cas := 2, u0 := 0, h := 1, start := 0, hi := 0, lo := 0 } } },
     { cas := 2, u0 := 0, h := 1, start := 0, hi := 0, lo := 0 }, by decide⟩,
   ⟨State.reset, by decide⟩⟩

theorem witness_SpurAndForecastCommands :
    (∃ (s : State) (i : HintIn), s.pins.powered = true ∧ s.laneOn i.lane.val = true ∧ s.pairCopy i.lane.val i.seq.toNat =
      false ∧ s.isSet SPUR_STATUS_ACK_LIVE = true) ∧
    (∃ (s : State) (i : HintIn), s.pins.powered = true ∧ s.laneOn i.lane.val = true ∧ s.pairCopy i.lane.val i.seq.toNat =
      false ∧ s.isSet SPUR_STATUS_ACK_LIVE = true ∧ s.hintStatus i = 0 ∧ s.isSet SPUR_CTRL_MERGE_EN = true) ∧
    (∃ (s : State) (i : HintIn), s.pins.powered = true ∧ s.laneOn i.lane.val = true ∧ ((s.pairCopy i.lane.val i.seq.toNat
      = true ∨ s.isSet SPUR_STATUS_ACK_LIVE = false))) ∧
    (∃ (s : State) (i : HintIn), s.pins.powered = true ∧ s.laneOn i.lane.val = false) ∧
    (∃ (s : State) (i : CancelIn), s.pins.powered = true ∧ s.laneOn i.lane.val = true ∧ s.pairCopy i.lane.val i.seq.toNat
      = false ∧ s.isSet SPUR_STATUS_ACK_LIVE = true) ∧
    (∃ (s : State) (i : CancelIn) (g : Hint), s.pins.powered = true ∧ s.laneOn i.lane.val = true ∧ s.pairCopy i.lane.val
      i.seq.toNat = false ∧ s.isSet SPUR_STATUS_ACK_LIVE = true ∧ s.cancelStatus i = 0 ∧ s.hintByRef i.ref.toNat =
      some g) ∧
    (∃ (s : State) (i : CancelIn), s.pins.powered = true ∧ s.laneOn i.lane.val = true ∧ ((s.pairCopy i.lane.val
      i.seq.toNat = true ∨ s.isSet SPUR_STATUS_ACK_LIVE = false))) ∧
    (∃ (s : State) (i : CancelIn), s.pins.powered = true ∧ s.laneOn i.lane.val = false) ∧
    (∃ (s : State) (lane : Fin 2), s.pins.powered = true ∧ s.laneOn lane.val = true) ∧
    (∃ (s : State) (lane : Fin 2), s.pins.powered = true ∧ s.laneOn lane.val = false) ∧
    (∃ (s : State), s.pins.powered = true ∧ s.fcst.running = false) ∧
    (∃ (s : State), s.pins.powered = true ∧ s.fcst.running = true) ∧
    (∃ (s : State), s.pins.powered = true ∧ s.hrExcess = false) ∧
    (∃ (s : State), s.pins.powered = true ∧ s.hrExcess = true) ∧
    (∃ (s : State) (x : Fin 16) (lo : Word), s.pins.powered = true ∧ s.streamMute x.val = false ∧ s.fcst.heads.length = 16
      ∧ lo.toNat + 2 ^ 32 * s.rdN (FCST_STR_HEAD_HI x.val) ≤ (if s.fcst.running then s.pointer else s.now / 1000 + 50)
      + 4096) ∧
    (∃ (s : State) (x : Fin 16) (lo : Word), s.pins.powered = true ∧ s.streamMute x.val = false ∧ (if s.fcst.running then
      s.pointer else s.now / 1000 + 50) + 4096 < lo.toNat + 2 ^ 32 * s.rdN (FCST_STR_HEAD_HI x.val)) ∧
    (∃ (s : State) (x : Fin 16), s.pins.powered = true ∧ s.streamMute x.val = false) ∧
    (∃ (s : State) (x : Fin 16), s.pins.powered = true ∧ s.streamMute x.val = true) ∧
    (∃ (s : State), s.pins.powered = true ∧ s.canTrain = true ∧ s.lks.train.live.present = true ∧ (List.range 16).any (fun
      c => s.coreSt 0 c == cFailed) = false) ∧
    (∃ (s : State), s.pins.powered = true ∧ ((s.canTrain = false ∨ s.lks.train.live.present = false ∨ (List.range 16).any
      (fun c => s.coreSt 0 c == cFailed) = true))) :=
  ⟨⟨(((State.reset.set SPUR_CTRL_LANE0_EN 1).set SPUR_CTRL_LANE1_EN 1).set SPUR_STATUS_ACK_LIVE 1), ⟨0, 1, false, false,
     7, 2000000, 4, 100, 0, 0, 10⟩, by decide⟩,
   ⟨(((((State.reset.set SYS_SHELF_STATE_STATE 3).set SPUR_CTRL_LANE0_EN 1).set SPUR_CTRL_LANE1_EN 1).set
     SPUR_STATUS_ACK_LIVE 1).set SPUR_CTRL_MERGE_EN 1), ⟨0, 1, false, false, 7, 2000000, 4, 100, 0, 0, 10⟩, by decide⟩,
   ⟨{ ((((State.reset.set SPUR_CTRL_LANE0_EN 1).set SPUR_CTRL_LANE1_EN 1).set SPUR_STATUS_ACK_LIVE 1)) with fcst := { ((((State.reset.set SPUR_CTRL_LANE0_EN 1).set SPUR_CTRL_LANE1_EN 1).set SPUR_STATUS_ACK_LIVE 1)).fcst with lastRx := [(1, 7, 0)] } },
     ⟨0, 1, false, false, 7, 2000000, 4, 100, 0, 0, 10⟩, by decide⟩,
   ⟨((((State.reset.set SPUR_CTRL_LANE0_EN 1).set SPUR_CTRL_LANE1_EN 1).set SPUR_STATUS_ACK_LIVE 1).set
     SPUR_CTRL_LANE0_EN 0), ⟨0, 1, false, false, 7, 2000000, 4, 100, 0, 0, 10⟩, by decide⟩,
   ⟨(((State.reset.set SPUR_CTRL_LANE0_EN 1).set SPUR_CTRL_LANE1_EN 1).set SPUR_STATUS_ACK_LIVE 1), ⟨1, 1, 9, 7, 11⟩,
     by decide⟩,
   ⟨{ ((((((State.reset.set SYS_SHELF_STATE_STATE 3).set SPUR_CTRL_LANE0_EN 1).set SPUR_CTRL_LANE1_EN 1).set SPUR_STATUS_ACK_LIVE 1).set SPUR_CTRL_MERGE_EN 1)) with fcst := { ((((((State.reset.set SYS_SHELF_STATE_STATE 3).set SPUR_CTRL_LANE0_EN 1).set SPUR_CTRL_LANE1_EN 1).set SPUR_STATUS_ACK_LIVE 1).set SPUR_CTRL_MERGE_EN 1)).fcst with hints := [{ slot := 0, seq := 7, falls := false, lane := 0, replace := false, kh := 2000, dh := 0, sh := 5, known := true, capture := 0, srcId := 0, stop := 2010 }] } },
     ⟨1, 1, 9, 7, 11⟩,
     { slot := 0, seq := 7, falls := false, lane := 0, replace := false, kh := 2000, dh := 0, sh := 5, known := true, capture := 0, srcId := 0, stop := 2010 },
     by decide⟩,
   ⟨((((State.reset.set SPUR_CTRL_LANE0_EN 1).set SPUR_CTRL_LANE1_EN 1).set SPUR_STATUS_ACK_LIVE 1).set
     SPUR_STATUS_ACK_LIVE 0), ⟨1, 1, 9, 7, 11⟩, by decide⟩,
   ⟨((((State.reset.set SPUR_CTRL_LANE0_EN 1).set SPUR_CTRL_LANE1_EN 1).set SPUR_STATUS_ACK_LIVE 1).set
     SPUR_CTRL_LANE1_EN 0), ⟨1, 1, 9, 7, 11⟩, by decide⟩,
   ⟨(((State.reset.set SPUR_CTRL_LANE0_EN 1).set SPUR_CTRL_LANE1_EN 1).set SPUR_STATUS_ACK_LIVE 1), 1, by decide⟩,
   ⟨((((State.reset.set SPUR_CTRL_LANE0_EN 1).set SPUR_CTRL_LANE1_EN 1).set SPUR_STATUS_ACK_LIVE 1).set
     SPUR_CTRL_LANE1_EN 0), 1, by decide⟩,
   ⟨State.reset, by decide⟩,
   ⟨{ ((State.reset.set SYS_SHELF_STATE_STATE 3)) with fcst := { ((State.reset.set SYS_SHELF_STATE_STATE 3)).fcst with running := true } },
     by decide⟩,
   ⟨State.reset, by decide +kernel⟩,
   ⟨{ State.reset with meas := { State.reset.meas with vnode := 5000, isum := 100000 } }, by decide +kernel⟩,
   ⟨{ State.reset with fcst := { State.reset.fcst with model := true } }, 3, 100, by decide⟩,
   ⟨{ State.reset with fcst := { State.reset.fcst with model := true } }, 3, 9000, by decide⟩,
   ⟨{ State.reset with fcst := { State.reset.fcst with model := true } }, 3, by decide⟩,
   ⟨State.reset, 3, by decide⟩,
   ⟨{ State.reset with lks := { State.reset.lks with train := { State.reset.lks.train with live := { State.reset.lks.train.live with present := true } } } },
     by decide⟩,
   ⟨State.reset, by decide⟩⟩

theorem witness_RingSweepCommands :
    (∃ (s : State), s.pins.powered = true ∧ s.swept 0 = false ∧ s.swept 1 = false) ∧
    (∃ (s : State) (x : StrNo), s.pins.powered = true ∧ s.ring.strs.length = 2 ∧ s.swept x.val = true ∧ (s.rs
      x.val).readHeld = false ∧ s.relock = false) ∧
    (∃ (s : State) (x : StrNo), s.pins.powered = true ∧ s.ring.strs.length = 2 ∧ s.swept x.val = true ∧ (((s.rs
      x.val).readHeld = true ∨ s.relock = true))) ∧
    (∃ (s : State) (x : StrNo), s.pins.powered = true ∧ s.swept x.val = false) ∧
    (∃ (s : State) (x : StrNo), s.pins.powered = true ∧ (s.rs x.val).split = true) ∧
    (∃ (s : State) (x : StrNo) (i : SweepIn), s.pins.powered = true ∧ s.swept x.val = true ∧ (s.rs x.val).split = false ∧
      (readSweep (s.rs x.val).linkUp i).broken = false) ∧
    (∃ (s : State) (x : StrNo) (i : SweepIn), s.pins.powered = true ∧ s.ring.strs.length = 2 ∧ s.swept x.val = true ∧
      (s.rs x.val).split = false ∧ (readSweep (s.rs x.val).linkUp i).broken = true) ∧
    (∃ (s : State) (x : StrNo), s.pins.powered = true ∧ s.ring.strs.length = 2 ∧ s.swept x.val = true ∧ (s.rs x.val).split
      = true) ∧
    (∃ (s : State) (x : StrNo), s.pins.powered = true ∧ s.ring.strs.length = 2 ∧ s.swept x.val = true ∧ (s.rs x.val).split
      = false) ∧
    (∃ (s : State) (x : StrNo), s.pins.powered = true ∧ s.ring.strs.length = 2 ∧ (s.rs x.val).readHeld = true) ∧
    (∃ (s : State) (x : StrNo), s.pins.powered = true ∧ (s.rs x.val).readHeld = false) ∧
    (∃ (s : State), s.pins.powered = true ∧ ((s.shelf = stPassive ∨ s.shelf = stIsolated))) ∧
    (∃ (s : State), s.pins.powered = true ∧ s.shelf ≠ stPassive ∧ s.shelf ≠ stIsolated) ∧
    (∃ (s : State) (x : StrNo), s.pins.powered = true ∧ s.get (RING_STATUS_ENUM x.val) = 2) ∧
    (∃ (s : State) (x : StrNo) (k : Fin 256), s.pins.powered = true ∧ s.get (RING_STATUS_ENUM x.val) = 2 ∧ k.val ≠ 4) ∧
    (∃ (s : State) (x : StrNo), s.pins.powered = true ∧ s.get (RING_STATUS_ENUM x.val) ≠ 2) ∧
    (∃ (s : State) (x : StrNo) (l : List EnumRec), s.pins.powered = true ∧ s.get (RING_STATUS_ENUM x.val) = 3 ∧
      verifyCause (s.rs x.val).assign l = 0) ∧
    (∃ (s : State) (x : StrNo) (l : List EnumRec), s.pins.powered = true ∧ s.get (RING_STATUS_ENUM x.val) = 3 ∧
      verifyCause (s.rs x.val).assign l ≠ 0) ∧
    (∃ (s : State) (x : StrNo), s.pins.powered = true ∧ s.get (RING_STATUS_ENUM x.val) ≠ 3) ∧
    (∃ (s : State) (x : StrNo), s.pins.powered = true ∧ ((s.get (RING_STATUS_ENUM x.val) = 2 ∨ s.get (RING_STATUS_ENUM
      x.val) = 3))) ∧
    (∃ (s : State) (x : StrNo), s.pins.powered = true ∧ s.get (RING_STATUS_ENUM x.val) ≠ 2 ∧ s.get (RING_STATUS_ENUM
      x.val) ≠ 3) :=
  ⟨⟨State.reset, by decide⟩,
   ⟨(((State.reset.set (RING_STATUS_ENUM 1) 5).set ⟨CLK_GATE_EFF, 6, 1⟩ 1).set (RING_STATUS_TOPO 1) 0), 1, by decide⟩,
   ⟨(((((State.reset.set (RING_STATUS_ENUM 1) 5).set ⟨CLK_GATE_EFF, 6, 1⟩ 1).set (RING_STATUS_TOPO 1) 0)).setRs 1
     { ((((State.reset.set (RING_STATUS_ENUM 1) 5).set ⟨CLK_GATE_EFF, 6, 1⟩ 1).set (RING_STATUS_TOPO 1) 0)).rs 1 with readHeld := true }),
     1, by decide⟩,
   ⟨State.reset, 1, by decide⟩,
   ⟨(((((State.reset.set (RING_STATUS_ENUM 1) 5).set ⟨CLK_GATE_EFF, 6, 1⟩ 1).set (RING_STATUS_TOPO 1) 0)).setRs 1
     { ((((State.reset.set (RING_STATUS_ENUM 1) 5).set ⟨CLK_GATE_EFF, 6, 1⟩ 1).set (RING_STATUS_TOPO 1) 0)).rs 1 with split := true }),
     1, by decide⟩,
   ⟨(((((State.reset.set (RING_STATUS_ENUM 1) 5).set ⟨CLK_GATE_EFF, 6, 1⟩ 1).set (RING_STATUS_TOPO 1) 0)).setRs 1
     { ((((State.reset.set (RING_STATUS_ENUM 1) 5).set ⟨CLK_GATE_EFF, 6, 1⟩ 1).set (RING_STATUS_TOPO 1) 0)).rs 1 with linkUp := true }),
     1, ⟨((List.replicate 184 0) ++ leBytes 4 (crc32c (List.replicate 184 0)).toNat), ((List.replicate 184 0) ++
     leBytes 4 (crc32c (List.replicate 184 0)).toNat), 0, 64, 0⟩, by decide +kernel⟩,
   ⟨(((State.reset.set (RING_STATUS_ENUM 1) 5).set ⟨CLK_GATE_EFF, 6, 1⟩ 1).set (RING_STATUS_TOPO 1) 0), 1, ⟨[], [], 300,
     0, 5⟩, by decide⟩,
   ⟨(((((State.reset.set (RING_STATUS_ENUM 1) 5).set ⟨CLK_GATE_EFF, 6, 1⟩ 1).set (RING_STATUS_TOPO 1) 0)).setRs 1
     { ((((State.reset.set (RING_STATUS_ENUM 1) 5).set ⟨CLK_GATE_EFF, 6, 1⟩ 1).set (RING_STATUS_TOPO 1) 0)).rs 1 with split := true }),
     1, by decide⟩,
   ⟨(((State.reset.set (RING_STATUS_ENUM 1) 5).set ⟨CLK_GATE_EFF, 6, 1⟩ 1).set (RING_STATUS_TOPO 1) 0), 1, by decide⟩,
   ⟨(State.reset.setRs 1 { State.reset.rs 1 with readHeld := true }), 1, by decide⟩,
   ⟨State.reset, 1, by decide⟩,
   ⟨State.reset, by decide⟩,
   ⟨(State.reset.set SYS_SHELF_STATE_STATE 3), by decide⟩,
   ⟨(State.reset.set (RING_STATUS_ENUM 1) 2), 1, by decide⟩,
   ⟨(State.reset.set (RING_STATUS_ENUM 1) 2), 1, 3, by decide⟩,
   ⟨State.reset, 1, by decide⟩,
   ⟨(((State.reset.set (RING_STATUS_ENUM 1) 3)).setRs 1
     { State.reset.rs 1 with assign := [⟨0, true, 1, 1⟩, ⟨1, true, 1, 2⟩, ⟨2, true, 1, 3⟩, ⟨3, true, 1, 4⟩] }), 1,
     [⟨3, true, 1, 4⟩, ⟨2, true, 1, 3⟩, ⟨1, true, 1, 2⟩, ⟨0, true, 1, 1⟩], by decide⟩,
   ⟨(State.reset.set (RING_STATUS_ENUM 1) 3), 1, [], by decide⟩,
   ⟨State.reset, 1, by decide⟩,
   ⟨(State.reset.set (RING_STATUS_ENUM 1) 2), 1, by decide⟩,
   ⟨State.reset, 1, by decide⟩⟩

theorem witness_RingCommandCommands :
    (∃ (s : State) (v : Word), s.pins.powered = true ∧ s.ring.strs.length = 2 ∧ s.balCause (fieldGet v 31 1) (fieldGet v
      25 6) (fieldGet v 23 2) (fieldGet v 18 5) (fieldGet v 8 10) = 0) ∧
    (∃ (s : State) (v : Word), s.pins.powered = true ∧ s.balCause (fieldGet v 31 1) (fieldGet v 25 6) (fieldGet v 23 2)
      (fieldGet v 18 5) (fieldGet v 8 10) ≠ 0) ∧
    (∃ (s : State), s.pins.powered = true ∧ s.ring.strs.length = 2) ∧
    (∃ (s : State) (x : StrNo) (k : Fin 16), s.pins.powered = true ∧ 1 ≤ k.val ∧ k.val ≤ 12 ∧ s.ringDone x.val = true ∧
      s.ring.strs.length = 2) ∧
    (∃ (s : State) (x : StrNo) (k : Fin 16), s.pins.powered = true ∧ ((k.val = 0 ∨ 12 < k.val ∨ s.ringDone x.val =
      false))) ∧
    (∃ (s : State) (x : StrNo), s.pins.powered = true ∧ s.isSet RING_CTRL_OW_AUTO = true ∧ s.ringDone x.val = true ∧
      s.ring.strs.length = 2) ∧
    (∃ (s : State) (x : StrNo), s.pins.powered = true ∧ ((s.isSet RING_CTRL_OW_AUTO = false ∨ s.ringDone x.val = false))) ∧
    (∃ (s : State) (x : StrNo), s.pins.powered = true ∧ s.swapping x.val = true) ∧
    (∃ (s : State) (x : StrNo) (i : Fin 52) (o : Fin 52), s.pins.powered = true ∧ s.swapping x.val = false ∧ s.swapOk
      x.val i.val o.val = false) ∧
    (∃ (s : State) (x : StrNo) (i : Fin 52) (o : Fin 52), s.pins.powered = true ∧ (s.rs x.val).role.length = 52 ∧
      s.ring.strs.length = 2 ∧ s.swapping x.val = false ∧ s.swapOk x.val i.val o.val = true) ∧
    (∃ (s : State) (x : StrNo) (k : Nat), s.pins.powered = true ∧ s.ring.strs.length = 2 ∧ s.get (RING_SWAP_STATE x.val) =
      1 ∧ (s.rs x.val).swapSent = some k ∧ k < (s.rs x.val).t0) ∧
    (∃ (s : State) (x : StrNo), s.pins.powered = true ∧ ((s.get (RING_SWAP_STATE x.val) ≠ 1 ∨ s.rs x.val =
      { s.rs x.val with swapSent := none } ∨ (s.rs x.val).t0 ≤ (s.rs x.val).swapSent.getD 0))) ∧
    (∃ (s : State) (x : StrNo), s.pins.powered = true ∧ (s.rs x.val).role.length = 52 ∧ s.ring.strs.length = 2 ∧ s.get
      (RING_SWAP_STATE x.val) = 1 ∧ (s.rs x.val).swapSent = none ∧ (s.rs x.val).swapBack = false) ∧
    (∃ (s : State) (x : StrNo), s.pins.powered = true ∧ ((s.get (RING_SWAP_STATE x.val) ≠ 1 ∨ (s.rs x.val).swapSent ≠ none
      ∨ (s.rs x.val).swapBack = true))) ∧
    (∃ (s : State) (x : StrNo), s.pins.powered = true ∧ s.get (RING_SWAP_STATE x.val) = 2 ∧ (s.rs x.val).swapBack = false) ∧
    (∃ (s : State) (x : StrNo), s.pins.powered = true ∧ (s.rs x.val).role.length = 52 ∧ s.ring.strs.length = 2 ∧ s.get
      (RING_SWAP_STATE x.val) = 2 ∧ (s.rs x.val).swapBack = true) ∧
    (∃ (s : State) (x : StrNo), s.pins.powered = true ∧ s.get (RING_SWAP_STATE x.val) ≠ 2) :=
  ⟨⟨{ (((((State.reset.set (RING_STATUS_ENUM 0) 5).set (RING_STATUS_TOPO 0) 0).set (RING_MON_STATUS_MSTATE 0 0) 1).set RING_CTRL_BAL_EN 1)) with ring := { State.reset.ring with kick := some 0 } },
     0, by decide⟩,
   ⟨State.reset, 0, by decide⟩,
   ⟨State.reset, by decide⟩,
   ⟨(State.reset.set (RING_STATUS_ENUM 1) 5), 1, 12, by decide⟩,
   ⟨State.reset, 1, 13, by decide⟩,
   ⟨((State.reset.set (RING_STATUS_ENUM 1) 5).set RING_CTRL_OW_AUTO 1), 1, by decide⟩,
   ⟨State.reset, 1, by decide⟩,
   ⟨(State.reset.set (RING_SWAP_STATE 1) 1), 1, by decide⟩,
   ⟨State.reset, 1, 12, 3, by decide⟩,
   ⟨((((State.reset.set (RING_STATUS_ENUM 1) 5).set (cellBit 1 3 31) 1)).setRs 1
     { (((State.reset.set (RING_STATUS_ENUM 1) 5).set (cellBit 1 3 31) 1)).rs 1 with role := (List.replicate 52 0).set 12 1 }),
     1, 12, 3, by decide +kernel⟩,
   ⟨(((((State.reset.set (RING_SWAP_STATE 1) 1).set (RING_SWAP_POS_IN 1) 12).set (RING_SWAP_POS_OUT 1) 3)).setRs 1
     { ((((State.reset.set (RING_SWAP_STATE 1) 1).set (RING_SWAP_POS_IN 1) 12).set (RING_SWAP_POS_OUT 1) 3)).rs 1 with swapSent := some 100, t0 := 200 }),
     1, 100, by decide⟩,
   ⟨State.reset, 1, by decide⟩,
   ⟨(((((State.reset.set (RING_SWAP_STATE 1) 1).set (RING_SWAP_POS_IN 1) 12).set (RING_SWAP_POS_OUT 1) 3)).setRs 1
     { ((((State.reset.set (RING_SWAP_STATE 1) 1).set (RING_SWAP_POS_IN 1) 12).set (RING_SWAP_POS_OUT 1) 3)).rs 1 with swapSent := none }),
     1, by decide⟩,
   ⟨State.reset, 1, by decide⟩,
   ⟨(((((State.reset.set (RING_SWAP_STATE 1) 2).set (RING_SWAP_POS_IN 1) 12).set (RING_SWAP_POS_OUT 1) 3)).setRs 1
     { ((((State.reset.set (RING_SWAP_STATE 1) 2).set (RING_SWAP_POS_IN 1) 12).set (RING_SWAP_POS_OUT 1) 3)).rs 1 with swapBack := false }),
     1, by decide⟩,
   ⟨(((((State.reset.set (RING_SWAP_STATE 1) 2).set (RING_SWAP_POS_IN 1) 12).set (RING_SWAP_POS_OUT 1) 3)).setRs 1
     { ((((State.reset.set (RING_SWAP_STATE 1) 2).set (RING_SWAP_POS_IN 1) 12).set (RING_SWAP_POS_OUT 1) 3)).rs 1 with swapBack := true }),
     1, by decide⟩,
   ⟨State.reset, 1, by decide⟩⟩

theorem witness_EstimationAndJournalCommands :
    (∃ (s : State) (x : StrNo), s.pins.powered = true ∧ s.est.strs.length = 2 ∧ s.get (RING_STATUS_ENUM x.val) = 5 ∧ s.get
      (RING_STATUS_TOPO x.val) ≠ 2) ∧
    (∃ (s : State) (x : StrNo), s.pins.powered = true ∧ ((s.get (RING_STATUS_ENUM x.val) ≠ 5 ∨ s.get (RING_STATUS_TOPO
      x.val) = 2))) ∧
    (∃ (s : State) (x : StrNo), s.pins.powered = true ∧ s.isSet EST_CTRL_REST_EN = true ∧ s.get EST_REST_STATUS_STATE ≠ 1
      ∧ s.get EST_REST_STATUS_STATE ≠ 2 ∧ (List.range 2).find? s.restDue = some x.val ∧ s.canRest x.val = true) ∧
    (∃ (s : State) (x : StrNo), s.pins.powered = true ∧ s.isSet EST_CTRL_REST_EN = true ∧ s.get EST_REST_STATUS_STATE ≠ 1
      ∧ s.get EST_REST_STATUS_STATE ≠ 2 ∧ (List.range 2).find? s.restDue = some x.val ∧ s.canRest x.val = false) ∧
    (∃ (s : State), s.pins.powered = true ∧ ((s.isSet EST_CTRL_REST_EN = false ∨ s.get EST_REST_STATUS_STATE = 1 ∨ s.get
      EST_REST_STATUS_STATE = 2 ∨ (List.range 2).find? s.restDue = none))) ∧
    (∃ (s : State), s.pins.powered = true ∧ s.get EST_REST_STATUS_STATE = 1 ∧ s.restCalm (s.get EST_REST_STATUS_STRING) =
      true) ∧
    (∃ (s : State), s.pins.powered = true ∧ ((s.get EST_REST_STATUS_STATE ≠ 1 ∨ s.restCalm (s.get EST_REST_STATUS_STRING)
      = false))) ∧
    (∃ (s : State), s.pins.powered = true ∧ s.get EST_REST_STATUS_STATE = 1) ∧
    (∃ (s : State), s.pins.powered = true ∧ s.get EST_REST_STATUS_STATE ≠ 1) ∧
    (∃ (s : State), s.pins.powered = true ∧ s.est.strs.length = 2 ∧ s.get EST_REST_STATUS_STATE = 2) ∧
    (∃ (s : State), s.pins.powered = true ∧ s.get EST_REST_STATUS_STATE ≠ 2) ∧
    (∃ (s : State), s.pins.powered = true ∧ ((s.get EST_REST_STATUS_STATE = 1 ∨ s.get EST_REST_STATUS_STATE = 2)) ∧
      s.restCause ≠ 0) ∧
    (∃ (s : State), s.pins.powered = true ∧ ((s.get EST_REST_STATUS_STATE ≠ 1 ∧ s.get EST_REST_STATUS_STATE ≠ 2 ∨
      s.restCause = 0))) ∧
    (∃ (s : State), s.pins.powered = true ∧ s.fenced = false ∧ s.isSet EST_JNL_STATUS_BUSY = false ∧ s.hrn.lfrQ = [] ∧
      ((s.get (RING_STATUS_ENUM 0) = 5 ∨ s.get (RING_STATUS_ENUM 1) = 5))) ∧
    (∃ (s : State), s.pins.powered = true ∧ s.fenced = false ∧ ((s.isSet EST_JNL_STATUS_BUSY = true ∨ s.hrn.lfrQ ≠ [])) ∧
      ((s.get (RING_STATUS_ENUM 0) = 5 ∨ s.get (RING_STATUS_ENUM 1) = 5))) ∧
    (∃ (s : State), s.pins.powered = true ∧ s.fenced = true ∧ ((s.get (RING_STATUS_ENUM 0) = 5 ∨ s.get (RING_STATUS_ENUM
      1) = 5))) ∧
    (∃ (s : State), s.pins.powered = true ∧ s.get (RING_STATUS_ENUM 0) ≠ 5 ∧ s.get (RING_STATUS_ENUM 1) ≠ 5) ∧
    (∃ (s : State), s.pins.powered = true ∧ s.fenced = false ∧ s.isSet EST_JNL_STATUS_BUSY = false ∧ s.hrn.lfrQ = []) ∧
    (∃ (s : State), s.pins.powered = true ∧ s.fenced = false ∧ ((s.isSet EST_JNL_STATUS_BUSY = true ∨ s.hrn.lfrQ ≠ []))) ∧
    (∃ (s : State), s.pins.powered = true ∧ s.fenced = true) ∧
    (∃ (s : State), s.pins.powered = true ∧ s.isSet EST_JNL_STATUS_BUSY = true ∧ s.sectorMoving (jnlBase s.jnlNext) =
      false) ∧
    (∃ (s : State), s.pins.powered = true ∧ s.isSet EST_JNL_STATUS_BUSY = true ∧ s.sectorMoving (jnlBase s.jnlNext) =
      false) ∧
    (∃ (s : State), s.pins.powered = true ∧ ((s.isSet EST_JNL_STATUS_BUSY = false ∨ s.sectorMoving (jnlBase s.jnlNext) =
      true))) ∧
    (∃ (s : State), s.pins.powered = true ∧ s.shelf = stPassive) ∧
    (∃ (s : State) (x : StrNo) (v : Word), s.pins.powered = true ∧ s.shelf ≠ stPassive ∧ s.rd (EST_EFC x.val) ≠ v) :=
  ⟨⟨((State.reset.set (RING_STATUS_ENUM 1) 5).set (RING_STATUS_TOPO 1) 0), 1, by decide⟩,
   ⟨State.reset, 1, by decide⟩,
   ⟨{ (((((((State.reset.set SYS_SHELF_STATE_STATE 3).set FCST_STATUS_QUIET 1).set (RING_STATUS_ENUM 0) 5).set (RING_STATUS_TOPO 0) 0).set EST_CTRL_REST_EN 1)).wrN FCST_QUIET_END_HI 0xFFFF) with est := { State.reset.est with dueNow := some 0 } },
     0, by decide⟩,
   ⟨{ ((State.reset.set EST_CTRL_REST_EN 1)) with est := { State.reset.est with dueNow := some 0 } }, 0, by decide⟩,
   ⟨State.reset, by decide⟩,
   ⟨{ ((State.reset.set EST_REST_STATUS_STATE 1)) with est := { State.reset.est with strs := [{ hist := [(0, 0)], lastAt := some 0 }, {}] }, time := 200000 },
     by decide +kernel⟩,
   ⟨State.reset, by decide⟩,
   ⟨(State.reset.set EST_REST_STATUS_STATE 1), by decide⟩,
   ⟨State.reset, by decide⟩,
   ⟨(State.reset.set EST_REST_STATUS_STATE 2), by decide⟩,
   ⟨State.reset, by decide⟩,
   ⟨(State.reset.set EST_REST_STATUS_STATE 2), by decide⟩,
   ⟨State.reset, by decide⟩,
   ⟨(State.reset.set (RING_STATUS_ENUM 0) 5), by decide⟩,
   ⟨((State.reset.set (RING_STATUS_ENUM 0) 5).set EST_JNL_STATUS_BUSY 1), by decide⟩,
   ⟨((State.reset.set (RING_STATUS_ENUM 0) 5).set EST_JNL_STATUS_FENCE 1), by decide⟩,
   ⟨State.reset, by decide⟩,
   ⟨State.reset, by decide⟩,
   ⟨(State.reset.set EST_JNL_STATUS_BUSY 1), by decide⟩,
   ⟨(State.reset.set EST_JNL_STATUS_FENCE 1), by decide⟩,
   ⟨((State.reset.set EST_JNL_STATUS_BUSY 1).set EST_JNL_STATUS_ANY 1), by decide⟩,
   ⟨(State.reset.set EST_JNL_STATUS_BUSY 1), by decide⟩,
   ⟨State.reset, by decide⟩,
   ⟨State.reset, by decide⟩,
   ⟨(State.reset.set SYS_SHELF_STATE_STATE 3), 1, 9, by decide⟩⟩

theorem witness_FabricSendCommands :
    (∃ (s : State), s.pins.powered = true ∧ s.leads true = false) ∧
    (∃ (s : State), s.pins.powered = true ∧ s.leads true = true) ∧
    (∃ (s : State), s.pins.powered = true ∧ ((s.canSend 0 = true ∨ s.canSend 1 = true))) ∧
    (∃ (s : State), s.pins.powered = true ∧ s.canSend 0 = false ∧ s.canSend 1 = false) ∧
    (∃ (s : State) (p : Fin 2), s.pins.powered = true ∧ s.isSet FAB_STATUS_HALL_LEAD = false ∧ s.get FAB_LEADS_HALL ≠
      0x1FF ∧ s.isSet FAB_STATUS_ID_CONFLICT = false ∧ ((s.frame % 50000 = 64 * s.shelfId + 32 * p.val ∨ (s.pth
      p.val).measure = true ∧ s.frame % 64 = s.shelfId % 64)) ∧ s.canSend p.val = true ∧ s.fab.paths.length = 2) ∧
    (∃ (s : State) (p : Fin 2), s.pins.powered = true ∧ ((s.isSet FAB_STATUS_HALL_LEAD = true ∨ s.get FAB_LEADS_HALL =
      0x1FF ∨ s.isSet FAB_STATUS_ID_CONFLICT = true ∨ s.reqDue p.val = false ∨ s.canSend p.val = false))) ∧
    (∃ (s : State) (x : Int), s.pins.powered = true ∧ s.leads false = true ∧ ((∃ y ∈ s.fab.sync, bitOf y.live s.team =
      true ∧ y.targets.getD s.team 0 = x) ∨ (∃ r ∈ s.fab.summ, (∀ y ∈ s.fab.sync, bitOf y.live s.team = false) ∧
      r.target = x))) ∧
    (∃ (s : State), s.pins.powered = true ∧ s.leads false = true) ∧
    (∃ (s : State), s.pins.powered = true ∧ s.leads false = false) ∧
    (∃ (s : State) (r : SummRec), s.pins.powered = true ∧ s.fab.closed = some r ∧ s.leads false = true ∧ r.frame = s.frame
      ∧ r.team = s.team) ∧
    (∃ (s : State), s.pins.powered = true ∧ ((s.fab.closed = none ∨ s.leads false = false ∨ (s.fab.closed.map
      SummRec.frame) ≠ some s.frame))) ∧
    (∃ (s : State), s.pins.powered = true ∧ s.holds true = true) ∧
    (∃ (s : State), s.pins.powered = true ∧ s.holds true = false) ∧
    (∃ (s : State) (a : Rat) (f : Nat), s.pins.powered = true ∧ s.isSet FAB_STATUS_HALL_LEAD = true ∧ s.fab.a = some a ∧
      s.fab.computed = some f ∧ 0 < s.hallTau) ∧
    (∃ (s : State), s.pins.powered = true ∧ s.isSet FAB_STATUS_HALL_LEAD = true) ∧
    (∃ (s : State), s.pins.powered = true ∧ s.isSet FAB_STATUS_HALL_LEAD = false) :=
  ⟨⟨State.reset, by decide⟩,
   ⟨{ (((((((((State.reset.set CLK_GATE_EFF_FAB 1).set CLK_READY_XTAL_A 1).set FAB_CTRL_NEAR_EN 1).set FAB_CTRL_OFF_EN 1).set FAB_ID_SHELF_ID 37).set FAB_ID_HALL_ID 1).set FAB_STATUS_HALL_LEAD 1).set FAB_STATUS_TIME_HELD 1)) with boot := { State.reset.boot with fwRuns := true }, pins := { State.reset.pins with txDisable := [false, false] } },
     by decide⟩,
   ⟨{ (((((((State.reset.set CLK_GATE_EFF_FAB 1).set CLK_READY_XTAL_A 1).set FAB_CTRL_NEAR_EN 1).set FAB_CTRL_OFF_EN 1).set FAB_ID_SHELF_ID 37).set FAB_ID_HALL_ID 1)) with boot := { State.reset.boot with fwRuns := true }, pins := { State.reset.pins with txDisable := [false, false] } },
     by decide⟩,
   ⟨State.reset, by decide⟩,
   ⟨{ ((((((((State.reset.set CLK_GATE_EFF_FAB 1).set CLK_READY_XTAL_A 1).set FAB_CTRL_NEAR_EN 1).set FAB_CTRL_OFF_EN 1).set FAB_ID_SHELF_ID 37).set FAB_ID_HALL_ID 1).set FAB_LEADS_HALL 5)) with boot := { State.reset.boot with fwRuns := true }, pins := { State.reset.pins with txDisable := [false, false] }, time := 2000 * (64 * 37 + 32) },
     1, by decide⟩,
   ⟨State.reset, 1, by decide⟩,
   ⟨{ (((((((((State.reset.set CLK_GATE_EFF_FAB 1).set CLK_READY_XTAL_A 1).set FAB_CTRL_NEAR_EN 1).set FAB_CTRL_OFF_EN 1).set FAB_ID_SHELF_ID 37).set FAB_ID_HALL_ID 1).set FAB_STATUS_TEAM_LEAD 1).set FAB_STATUS_TIME_HELD 1)) with boot := { State.reset.boot with fwRuns := true }, pins := { State.reset.pins with txDisable := [false, false] }, fab := { State.reset.fab with sync := some { frame := 0, src := 5, epoch := 1, short := false, h := 500, targets := List.replicate 32 7, live := 4, digest := 0 } } },
     7, by decide⟩,
   ⟨{ (((((((((State.reset.set CLK_GATE_EFF_FAB 1).set CLK_READY_XTAL_A 1).set FAB_CTRL_NEAR_EN 1).set FAB_CTRL_OFF_EN 1).set FAB_ID_SHELF_ID 37).set FAB_ID_HALL_ID 1).set FAB_STATUS_TEAM_LEAD 1).set FAB_STATUS_TIME_HELD 1)) with boot := { State.reset.boot with fwRuns := true }, pins := { State.reset.pins with txDisable := [false, false] } },
     by decide⟩,
   ⟨State.reset, by decide⟩,
   ⟨{ (((((((((State.reset.set CLK_GATE_EFF_FAB 1).set CLK_READY_XTAL_A 1).set FAB_CTRL_NEAR_EN 1).set FAB_CTRL_OFF_EN 1).set FAB_ID_SHELF_ID 37).set FAB_ID_HALL_ID 1).set FAB_STATUS_TEAM_LEAD 1).set FAB_STATUS_TIME_HELD 1)) with boot := { State.reset.boot with fwRuns := true }, pins := { State.reset.pins with txDisable := [false, false] }, fab := { State.reset.fab with closed := some { frame := 0, team := 2, src := 37, epoch := 1, flags := 0, live := 32, flex := 0, load := 5, hDis := 1, hChg := 1, target := 2, grid := 3, alarm := 0, members := List.replicate 16 (42, 0, 0, 0, 0), heard := 0 } } },
     { frame := 0, team := 2, src := 37, epoch := 1, flags := 0, live := 32, flex := 0, load := 5, hDis := 1, hChg := 1, target := 2, grid := 3, alarm := 0, members := List.replicate 16 (42, 0, 0, 0, 0), heard := 0 },
     by decide⟩,
   ⟨State.reset, by decide⟩,
   ⟨{ (((((((((State.reset.set CLK_GATE_EFF_FAB 1).set CLK_READY_XTAL_A 1).set FAB_CTRL_NEAR_EN 1).set FAB_CTRL_OFF_EN 1).set FAB_ID_SHELF_ID 37).set FAB_ID_HALL_ID 1).set FAB_STATUS_HALL_LEAD 1).set FAB_STATUS_TIME_HELD 1)) with boot := { State.reset.boot with fwRuns := true }, pins := { State.reset.pins with txDisable := [false, false] }, fab := { State.reset.fab with reqs := [(5, 0, 7, 900), (6, 1, 8, 901)] } },
     by decide⟩,
   ⟨State.reset, by decide⟩,
   ⟨{ (((((((((State.reset.set CLK_GATE_EFF_FAB 1).set CLK_READY_XTAL_A 1).set FAB_CTRL_NEAR_EN 1).set FAB_CTRL_OFF_EN 1).set FAB_ID_SHELF_ID 37).set FAB_ID_HALL_ID 1).set FAB_STATUS_HALL_LEAD 1).set FAB_STATUS_TIME_HELD 1)) with boot := { State.reset.boot with fwRuns := true }, pins := { State.reset.pins with txDisable := [false, false] }, fab := { State.reset.fab with a := some 0, computed := some 3 } },
     0, 3, by decide +kernel⟩,
   ⟨{ (((((((((State.reset.set CLK_GATE_EFF_FAB 1).set CLK_READY_XTAL_A 1).set FAB_CTRL_NEAR_EN 1).set FAB_CTRL_OFF_EN 1).set FAB_ID_SHELF_ID 37).set FAB_ID_HALL_ID 1).set FAB_STATUS_HALL_LEAD 1).set FAB_STATUS_TIME_HELD 1)) with boot := { State.reset.boot with fwRuns := true }, pins := { State.reset.pins with txDisable := [false, false] } },
     by decide⟩,
   ⟨State.reset, by decide⟩⟩

theorem witness_FabricTimeAndTargetCommands :
    (∃ (s : State), s.pins.powered = true ∧ s.armedStates = false) ∧
    (∃ (s : State) (r : SummRec) (x : Int × Int × Nat × Nat × Nat), s.pins.powered = true ∧ s.armedStates = true ∧
      s.timeHeld = true ∧ s.isSet FAB_STATUS_ID_CONFLICT = false ∧ s.fab.summ = some r ∧ s.frame < r.frame + s.get
      FAB_ABS_CFG_TGT_HOLD ∧ r.members[s.member]? = some x) ∧
    (∃ (s : State), s.pins.powered = true ∧ s.armedStates = true ∧ ((s.timeHeld = false ∨ s.isSet FAB_STATUS_ID_CONFLICT =
      true ∨ (∀ r ∈ s.fab.summ, r.frame + s.get FAB_ABS_CFG_TGT_HOLD ≤ s.frame ∨ r.members.length ≤ s.member))) ∧
      s.profileAt 0x000A 0 1 1 = 0) ∧
    (∃ (s : State) (a : Rat), s.pins.powered = true ∧ s.armedStates = true ∧ ((s.timeHeld = false ∨ s.isSet
      FAB_STATUS_ID_CONFLICT = true ∨ (∀ r ∈ s.fab.summ, r.frame + s.get FAB_ABS_CFG_TGT_HOLD ≤ s.frame ∨
      r.members.length ≤ s.member))) ∧ s.profileAt 0x000A 0 1 1 ≠ 0 ∧ s.fab.saAvg = some a ∧ 0 < s.profileAt 0x000A 8
      2 100) ∧
    (∃ (s : State), s.pins.powered = true ∧ s.armedStates = true ∧ ((s.timeHeld = false ∨ s.isSet FAB_STATUS_ID_CONFLICT =
      true ∨ (∀ r ∈ s.fab.summ, r.frame + s.get FAB_ABS_CFG_TGT_HOLD ≤ s.frame ∨ r.members.length ≤ s.member))) ∧
      s.fab.saAvg = none ∧ s.profileAt 0x000A 0 1 1 ≠ 0) ∧
    (∃ (s : State) (p : Fin 2), s.pins.powered = true ∧ s.fab.paths.length = 2 ∧ (s.pth p.val).best = none) ∧
    (∃ (s : State) (p : Fin 2) (r : Int) (o : Int), s.pins.powered = true ∧ s.fab.paths.length = 2 ∧ (s.pth p.val).best =
      some (r, o) ∧ ((s.isSet FAB_STATUS_HALL_LEAD = true ∨ p.val ≠ s.timeSource))) ∧
    (∃ (s : State) (p : Fin 2) (r : Int) (o : Int), s.pins.powered = true ∧ s.fab.paths.length = 2 ∧ (s.pth p.val).best =
      some (r, o) ∧ s.isSet FAB_STATUS_HALL_LEAD = false ∧ p.val = s.timeSource ∧ s.armedStates = true) ∧
    (∃ (s : State) (p : Fin 2) (r : Int) (o : Int), s.pins.powered = true ∧ s.fab.paths.length = 2 ∧ (s.pth p.val).best =
      some (r, o) ∧ s.isSet FAB_STATUS_HALL_LEAD = false ∧ p.val = s.timeSource ∧ s.armedStates = false ∧ s.shelf ≠
      stDown) ∧
    (∃ (s : State), s.pins.powered = true ∧ s.fab.stepDue = none) ∧
    (∃ (s : State) (o : Int), s.pins.powered = true ∧ s.fab.stepDue = some o ∧ s.armedStates = true) ∧
    (∃ (s : State) (o : Int), s.pins.powered = true ∧ s.fab.stepDue = some o ∧ s.armedStates = false) ∧
    (∃ (s : State), s.pins.powered = true ∧ s.fab.paths.length = 2) ∧
    (∃ (s : State), s.pins.powered = true ∧ s.fab.paths.length = 2) ∧
    (∃ (s : State) (p : Fin 2) (f : Nat), s.pins.powered = true ∧ s.isSet (FAB_PATH_DOWN p.val) = false ∧ ((∀ g ∈ (s.pth
      p.val).heard, g + 3 ≤ s.frame)) ∧ (s.pth (1 - p.val)).heard = some f ∧ s.frame < f + 3) ∧
    (∃ (s : State) (p : Fin 2), s.pins.powered = true ∧ ((s.isSet (FAB_PATH_DOWN p.val) = true ∨ s.syncNear p.val = true ∨
      s.syncNear (1 - p.val) = false))) ∧
    (∃ (s : State), s.pins.powered = true ∧ s.isSet FAB_STATUS_HALL_LEAD = false ∧ s.boot.fwRuns = true ∧ s.leadFailed
      true = true ∧ s.successor true (s.get FAB_LEADS_HALL) = some s.shelfId ∧ s.fab.starts.length = 2) ∧
    (∃ (s : State), s.pins.powered = true ∧ s.isSet FAB_STATUS_TEAM_LEAD = false ∧ s.boot.fwRuns = true ∧ s.leadFailed
      false = true ∧ s.timeHeld = true ∧ s.successor false (s.get FAB_LEADS_TEAM) = some s.shelfId ∧
      s.fab.starts.length = 2) ∧
    (∃ (s : State) (k : Bool), s.pins.powered = true ∧ ((s.boot.fwRuns = false ∨ s.isSet (if k then FAB_STATUS_HALL_LEAD
      else FAB_STATUS_TEAM_LEAD) = true ∨ s.leadFailed k = false ∨ s.successor k (s.get (if k then FAB_LEADS_HALL else
      FAB_LEADS_TEAM)) ≠ some s.shelfId))) :=
  ⟨⟨State.reset, by decide⟩,
   ⟨{ (((((((((State.reset.set CLK_GATE_EFF_FAB 1).set CLK_READY_XTAL_A 1).set FAB_CTRL_NEAR_EN 1).set FAB_CTRL_OFF_EN 1).set FAB_ID_SHELF_ID 37).set FAB_ID_HALL_ID 1).set SYS_SHELF_STATE_STATE 3).set FAB_STATUS_HALL_LEAD 1)) with boot := { State.reset.boot with fwRuns := true }, pins := { State.reset.pins with txDisable := [false, false] }, fab := { State.reset.fab with summ := some { ({ frame := 0, team := 2, src := 37, epoch := 1, flags := 0, live := 32, flex := 0, load := 5, hDis := 1, hChg := 1, target := 2, grid := 3, alarm := 0, members := List.replicate 16 (42, 0, 0, 0, 0), heard := 0 } : SummRec) with flags := 8 } } },
     { ({ frame := 0, team := 2, src := 37, epoch := 1, flags := 0, live := 32, flex := 0, load := 5, hDis := 1, hChg := 1, target := 2, grid := 3, alarm := 0, members := List.replicate 16 (42, 0, 0, 0, 0), heard := 0 } : SummRec) with flags := 8 },
     (42, 0, 0, 0, 0), by decide⟩,
   ⟨{ (State.reset.set SYS_SHELF_STATE_STATE 3) with boot := { State.reset.boot with profile := [(0x000A, zeros 12)] } },
     by decide⟩,
   ⟨{ (State.reset.set SYS_SHELF_STATE_STATE 3) with fab := { State.reset.fab with saAvg := some 0 } }, 0,
     by decide +kernel⟩,
   ⟨(State.reset.set SYS_SHELF_STATE_STATE 3), by decide⟩,
   ⟨State.reset, 1, by decide⟩,
   ⟨{ (((((((((State.reset.set CLK_GATE_EFF_FAB 1).set CLK_READY_XTAL_A 1).set FAB_CTRL_NEAR_EN 1).set FAB_CTRL_OFF_EN 1).set FAB_ID_SHELF_ID 37).set FAB_ID_HALL_ID 1).set FAB_STATUS_HALL_LEAD 1).set FAB_STATUS_TIME_HELD 1)) with boot := { State.reset.boot with fwRuns := true }, pins := { State.reset.pins with txDisable := [false, false] }, fab := { State.reset.fab with paths := [{ best := some (50, 10) }, {}] } },
     0, 50, 10, by decide⟩,
   ⟨{ ((((((((State.reset.set CLK_GATE_EFF_FAB 1).set CLK_READY_XTAL_A 1).set FAB_CTRL_NEAR_EN 1).set FAB_CTRL_OFF_EN 1).set FAB_ID_SHELF_ID 37).set FAB_ID_HALL_ID 1).set SYS_SHELF_STATE_STATE 3)) with boot := { State.reset.boot with fwRuns := true }, pins := { State.reset.pins with txDisable := [false, false] }, fab := { State.reset.fab with paths := [{ best := some (50, 300000) }, {}] } },
     0, 50, 300000, by decide⟩,
   ⟨{ (((((((State.reset.set CLK_GATE_EFF_FAB 1).set CLK_READY_XTAL_A 1).set FAB_CTRL_NEAR_EN 1).set FAB_CTRL_OFF_EN 1).set FAB_ID_SHELF_ID 37).set FAB_ID_HALL_ID 1)) with boot := { State.reset.boot with fwRuns := true }, pins := { State.reset.pins with txDisable := [false, false] }, fab := { State.reset.fab with paths := [{ best := some (50, 30000) }, {}] } },
     0, 50, 30000, by decide⟩,
   ⟨State.reset, by decide⟩,
   ⟨{ (State.reset.set SYS_SHELF_STATE_STATE 3) with fab := { State.reset.fab with stepDue := some 70000 } }, 70000,
     by decide⟩,
   ⟨{ State.reset with fab := { State.reset.fab with stepDue := some 70000 } }, 70000, by decide⟩,
   ⟨{ ((((((((State.reset.set CLK_GATE_EFF_FAB 1).set CLK_READY_XTAL_A 1).set FAB_CTRL_NEAR_EN 1).set FAB_CTRL_OFF_EN 1).set FAB_ID_SHELF_ID 37).set FAB_ID_HALL_ID 1).set (FAB_PATH_DOWN 0) 1)) with boot := { State.reset.boot with fwRuns := true }, pins := { State.reset.pins with txDisable := [false, false] } },
     by decide⟩,
   ⟨State.reset, by decide⟩,
   ⟨{ (((((((State.reset.set CLK_GATE_EFF_FAB 1).set CLK_READY_XTAL_A 1).set FAB_CTRL_NEAR_EN 1).set FAB_CTRL_OFF_EN 1).set FAB_ID_SHELF_ID 37).set FAB_ID_HALL_ID 1)) with boot := { State.reset.boot with fwRuns := true }, pins := { State.reset.pins with txDisable := [false, false] }, fab := { State.reset.fab with paths := [{ heard := some 0 }, {}] } },
     1, 0, by decide⟩,
   ⟨State.reset, 1, by decide⟩,
   ⟨{ (((State.reset.set FAB_CTRL_LEAD_EN 1).set FAB_LEADS_HALL 0x1FF)) with boot := { State.reset.boot with fwRuns := true, profile := [(0x8004, List.replicate 32 0#8)] } },
     by decide +kernel⟩,
   ⟨{ (((((State.reset.set FAB_CTRL_LEAD_EN 1).set FAB_LEADS_TEAM 0x1FF).set FAB_STATUS_HALL_LEAD 1).set FAB_STATUS_TIME_HELD 1)) with boot := { State.reset.boot with fwRuns := true, profile := [(0x8004, List.replicate 32 0#8)] } },
     by decide +kernel⟩,
   ⟨State.reset, true, by decide⟩⟩

theorem witness_FabricReceiveCommands :
    (∃ (s : State) (h : FabHdr) (x : RxWin), s.pins.powered = true ∧ s.fab.wins.find? (·.src == h.src.val) = some x) ∧
    (∃ (s : State) (i : SyncIn), s.pins.powered = true ∧ s.pathOn i.hdr.path.val = false) ∧
    (∃ (s : State) (i : SyncIn), s.pins.powered = true ∧ s.pathOn i.hdr.path.val = true ∧ i.hdr.hall.val ≠ s.hallId) ∧
    (∃ (s : State) (i : SyncIn), s.pins.powered = true ∧ s.pathOn i.hdr.path.val = true ∧ i.hdr.hall.val = s.hallId ∧
      i.hdr.src.val = s.shelfId ∧ s.isSet FAB_STATUS_ID_CONFLICT = false) ∧
    (∃ (s : State) (i : SyncIn), s.pins.powered = true ∧ s.pathOn i.hdr.path.val = true ∧ i.hdr.hall.val = s.hallId ∧
      i.hdr.src.val ≠ s.shelfId ∧ winTake (s.fab.wins.find? (·.src == i.hdr.src.val)) i.hdr = none) ∧
    (∃ (s : State) (i : SyncIn), s.pins.powered = true ∧ s.pathOn i.hdr.path.val = true ∧ i.hdr.hall.val = s.hallId ∧
      i.hdr.src.val ≠ s.shelfId ∧ winTake (s.fab.wins.find? (·.src == i.hdr.src.val)) i.hdr ≠ none ∧ i.hdr.frame.toNat
      ≠ s.frame % 2 ^ 32) ∧
    (∃ (s : State) (i : ShareIn), s.pins.powered = true ∧ s.pathOn i.hdr.path.val = false) ∧
    (∃ (s : State) (i : ShareIn), s.pins.powered = true ∧ s.pathOn i.hdr.path.val = true ∧ i.hdr.hall.val ≠ s.hallId) ∧
    (∃ (s : State) (i : ShareIn), s.pins.powered = true ∧ s.pathOn i.hdr.path.val = true ∧ i.hdr.hall.val = s.hallId ∧
      i.hdr.src.val = s.shelfId ∧ s.isSet FAB_STATUS_ID_CONFLICT = false) ∧
    (∃ (s : State) (i : ShareIn), s.pins.powered = true ∧ s.pathOn i.hdr.path.val = true ∧ i.hdr.hall.val = s.hallId ∧
      i.hdr.src.val ≠ s.shelfId ∧ winTake (s.fab.wins.find? (·.src == i.hdr.src.val)) i.hdr = none) ∧
    (∃ (s : State) (i : ShareIn), s.pins.powered = true ∧ s.pathOn i.hdr.path.val = true ∧ i.hdr.hall.val = s.hallId ∧
      i.hdr.src.val ≠ s.shelfId ∧ winTake (s.fab.wins.find? (·.src == i.hdr.src.val)) i.hdr ≠ none ∧ i.hdr.frame.toNat
      ≠ s.frame % 2 ^ 32) ∧
    (∃ (s : State) (i : SummIn), s.pins.powered = true ∧ s.pathOn i.hdr.path.val = false) ∧
    (∃ (s : State) (i : SummIn), s.pins.powered = true ∧ s.pathOn i.hdr.path.val = true ∧ i.hdr.hall.val ≠ s.hallId) ∧
    (∃ (s : State) (i : SummIn), s.pins.powered = true ∧ s.pathOn i.hdr.path.val = true ∧ i.hdr.hall.val = s.hallId ∧
      i.hdr.src.val = s.shelfId ∧ s.isSet FAB_STATUS_ID_CONFLICT = false) ∧
    (∃ (s : State) (i : SummIn), s.pins.powered = true ∧ s.pathOn i.hdr.path.val = true ∧ i.hdr.hall.val = s.hallId ∧
      i.hdr.src.val ≠ s.shelfId ∧ winTake (s.fab.wins.find? (·.src == i.hdr.src.val)) i.hdr = none) ∧
    (∃ (s : State) (i : SummIn), s.pins.powered = true ∧ s.pathOn i.hdr.path.val = true ∧ i.hdr.hall.val = s.hallId ∧
      i.hdr.src.val ≠ s.shelfId ∧ winTake (s.fab.wins.find? (·.src == i.hdr.src.val)) i.hdr ≠ none ∧ i.hdr.frame.toNat
      ≠ s.frame % 2 ^ 32) ∧
    (∃ (s : State) (h : FabHdr), s.pins.powered = true ∧ s.pathOn h.path.val = false) ∧
    (∃ (s : State) (h : FabHdr), s.pins.powered = true ∧ s.pathOn h.path.val = true ∧ h.hall.val ≠ s.hallId) ∧
    (∃ (s : State) (h : FabHdr), s.pins.powered = true ∧ s.pathOn h.path.val = true ∧ h.hall.val = s.hallId ∧ h.src.val =
      s.shelfId ∧ s.isSet FAB_STATUS_ID_CONFLICT = false) ∧
    (∃ (s : State) (h : FabHdr), s.pins.powered = true ∧ s.pathOn h.path.val = true ∧ h.hall.val = s.hallId ∧ h.src.val ≠
      s.shelfId ∧ winTake (s.fab.wins.find? (·.src == h.src.val)) h = none) ∧
    (∃ (s : State) (h : FabHdr), s.pins.powered = true ∧ s.pathOn h.path.val = true ∧ h.hall.val = s.hallId ∧ h.src.val ≠
      s.shelfId ∧ winTake (s.fab.wins.find? (·.src == h.src.val)) h ≠ none ∧ h.frame.toNat ≠ s.frame % 2 ^ 32) ∧
    (∃ (s : State) (i : SyncIn), s.pins.powered = true ∧ s.pathOn i.hdr.path.val = true ∧ i.hdr.hall.val = s.hallId ∧
      i.hdr.src.val ≠ s.shelfId ∧ s.fab.paths.length = 2) ∧
    (∃ (s : State) (i : SyncIn), s.pins.powered = true ∧ (s.judge i.hdr).1 = .taken ∧ ((s.get FAB_LEADS_HALL = 0x1FF ∨
      s.get FAB_LEADS_HALL = i.hdr.src.val ∨ s.get FAB_EPOCH_HALL < i.epoch.val ∨ s.leadFailed true = true))) ∧
    (∃ (s : State) (i : SyncIn), s.pins.powered = true ∧ (s.judge i.hdr).1 = .taken ∧ s.get FAB_LEADS_HALL ≠ 0x1FF ∧ s.get
      FAB_LEADS_HALL ≠ i.hdr.src.val ∧ s.leadFailed true = false ∧ wins s.hallList i.epoch.val i.hdr.src.val (s.get
      FAB_EPOCH_HALL) (s.get FAB_LEADS_HALL) = false) ∧
    (∃ (s : State) (i : ShareIn), s.pins.powered = true ∧ (s.judge i.hdr).1 = .taken ∧ i.hdr.src.val / 16 = s.team ∧
      s.isSet (FAB_PATH_DOWN i.hdr.path.val) = false) ∧
    (∃ (s : State) (i : ShareIn), s.pins.powered = true ∧ (s.judge i.hdr).1 = .taken ∧ i.hdr.src.val / 16 ≠ s.team) ∧
    (∃ (s : State) (i : SummIn), s.pins.powered = true ∧ (s.judge i.hdr).1 = .taken ∧ i.team.val ≠ s.team) ∧
    (∃ (s : State) (i : SummIn), s.pins.powered = true ∧ (s.judge i.hdr).1 = .taken ∧ i.team.val = s.team ∧ ((s.get
      FAB_LEADS_TEAM = 0x1FF ∨ s.get FAB_LEADS_TEAM = i.hdr.src.val ∨ s.get FAB_EPOCH_TEAM < i.epoch.val ∨
      s.leadFailed false = true))) ∧
    (∃ (s : State) (i : SummIn), s.pins.powered = true ∧ (s.judge i.hdr).1 = .taken ∧ i.team.val = s.team ∧ s.get
      FAB_LEADS_TEAM ≠ 0x1FF ∧ s.get FAB_LEADS_TEAM ≠ i.hdr.src.val ∧ s.leadFailed false = false ∧ wins (s.teamList
      s.team) i.epoch.val i.hdr.src.val (s.get FAB_EPOCH_TEAM) (s.get FAB_LEADS_TEAM) = false) ∧
    (∃ (s : State) (i : ShareIn), s.pins.powered = true ∧ s.pathOn i.hdr.path.val = true ∧ i.hdr.hall.val = s.hallId ∧
      i.hdr.src.val ≠ s.shelfId ∧ i.hdr.src.val / 16 = s.team ∧ winTake (s.fab.wins.find? (·.src == i.hdr.src.val))
      i.hdr ≠ none ∧ i.hdr.frame.toNat ≠ s.frame % 2 ^ 32) ∧
    (∃ (s : State) (i : SummIn), s.pins.powered = true ∧ s.pathOn i.hdr.path.val = true ∧ i.hdr.hall.val = s.hallId ∧
      i.hdr.src.val ≠ s.shelfId ∧ winTake (s.fab.wins.find? (·.src == i.hdr.src.val)) i.hdr ≠ none ∧ i.hdr.frame.toNat
      ≠ s.frame % 2 ^ 32) ∧
    (∃ (s : State) (h : FabHdr), s.pins.powered = true ∧ (s.judge h).1 = .taken ∧ s.holds true = true) ∧
    (∃ (s : State) (h : FabHdr), s.pins.powered = true ∧ (s.judge h).1 = .taken ∧ s.holds true = false) ∧
    (∃ (s : State) (h : FabHdr) (q : Word) (t1 : Int) (t2 : Int) (t3 : Int), s.pins.powered = true ∧ (s.judge h).1 =
      .taken ∧ (s.pth h.path.val).req = some (q.toNat, t3) ∧ (s.pth h.path.val).lastSync = some (t1, t2) ∧
      s.fab.paths.length = 2) ∧
    (∃ (s : State) (h : FabHdr) (q : Word), s.pins.powered = true ∧ (s.judge h).1 = .taken ∧ (s.pth h.path.val).req.map
      Prod.fst ≠ some q.toNat) :=
  ⟨⟨{ (((((((State.reset.set CLK_GATE_EFF_FAB 1).set CLK_READY_XTAL_A 1).set FAB_CTRL_NEAR_EN 1).set FAB_CTRL_OFF_EN 1).set FAB_ID_SHELF_ID 37).set FAB_ID_HALL_ID 1)) with boot := { State.reset.boot with fwRuns := true }, pins := { State.reset.pins with txDisable := [false, false] }, fab := { State.reset.fab with wins := [{ src := 5, inc := 0, high := 5, marks := 0 }] } },
     ⟨0, 5, 1, 0, 5, 0, 100⟩, { src := 5, inc := 0, high := 5, marks := 0 }, by decide⟩,
   ⟨(State.reset.set FAB_CTRL_NEAR_EN 0), ⟨⟨0, 5, 1, 0, 5, 0, 100⟩, 50, 0, 1, 500, 0, 0, List.replicate 32 7⟩, by decide⟩,
   ⟨{ (((((((State.reset.set CLK_GATE_EFF_FAB 1).set CLK_READY_XTAL_A 1).set FAB_CTRL_NEAR_EN 1).set FAB_CTRL_OFF_EN 1).set FAB_ID_SHELF_ID 37).set FAB_ID_HALL_ID 1)) with boot := { State.reset.boot with fwRuns := true }, pins := { State.reset.pins with txDisable := [false, false] } },
     ⟨⟨0, 5, 2, 0, 5, 0, 100⟩, 50, 0, 1, 500, 0, 0, List.replicate 32 7⟩, by decide⟩,
   ⟨{ (((((((State.reset.set CLK_GATE_EFF_FAB 1).set CLK_READY_XTAL_A 1).set FAB_CTRL_NEAR_EN 1).set FAB_CTRL_OFF_EN 1).set FAB_ID_SHELF_ID 37).set FAB_ID_HALL_ID 1)) with boot := { State.reset.boot with fwRuns := true }, pins := { State.reset.pins with txDisable := [false, false] } },
     ⟨⟨0, 37, 1, 0, 5, 0, 100⟩, 50, 0, 1, 500, 0, 0, List.replicate 32 7⟩, by decide⟩,
   ⟨{ (((((((State.reset.set CLK_GATE_EFF_FAB 1).set CLK_READY_XTAL_A 1).set FAB_CTRL_NEAR_EN 1).set FAB_CTRL_OFF_EN 1).set FAB_ID_SHELF_ID 37).set FAB_ID_HALL_ID 1)) with boot := { State.reset.boot with fwRuns := true }, pins := { State.reset.pins with txDisable := [false, false] }, fab := { State.reset.fab with wins := [{ src := 5, inc := 0, high := 5, marks := 0 }] } },
     ⟨⟨0, 5, 1, 0, 5, 0, 100⟩, 50, 0, 1, 500, 0, 0, List.replicate 32 7⟩, by decide⟩,
   ⟨{ (((((((State.reset.set CLK_GATE_EFF_FAB 1).set CLK_READY_XTAL_A 1).set FAB_CTRL_NEAR_EN 1).set FAB_CTRL_OFF_EN 1).set FAB_ID_SHELF_ID 37).set FAB_ID_HALL_ID 1)) with boot := { State.reset.boot with fwRuns := true }, pins := { State.reset.pins with txDisable := [false, false] } },
     ⟨⟨0, 5, 1, 0, 5, 3, 100⟩, 50, 0, 1, 500, 0, 0, List.replicate 32 7⟩, by decide⟩,
   ⟨(State.reset.set FAB_CTRL_NEAR_EN 0), ⟨⟨0, 5, 1, 0, 5, 0, 100⟩, 3, 4, 10, 10, 5, 5, 0, 0, 100, 0, ⟨0, 0, 0, 0, 0,
     List.replicate 12 0⟩⟩, by decide⟩,
   ⟨{ (((((((State.reset.set CLK_GATE_EFF_FAB 1).set CLK_READY_XTAL_A 1).set FAB_CTRL_NEAR_EN 1).set FAB_CTRL_OFF_EN 1).set FAB_ID_SHELF_ID 37).set FAB_ID_HALL_ID 1)) with boot := { State.reset.boot with fwRuns := true }, pins := { State.reset.pins with txDisable := [false, false] } },
     ⟨⟨0, 5, 2, 0, 5, 0, 100⟩, 3, 4, 10, 10, 5, 5, 0, 0, 100, 0, ⟨0, 0, 0, 0, 0, List.replicate 12 0⟩⟩, by decide⟩,
   ⟨{ (((((((State.reset.set CLK_GATE_EFF_FAB 1).set CLK_READY_XTAL_A 1).set FAB_CTRL_NEAR_EN 1).set FAB_CTRL_OFF_EN 1).set FAB_ID_SHELF_ID 37).set FAB_ID_HALL_ID 1)) with boot := { State.reset.boot with fwRuns := true }, pins := { State.reset.pins with txDisable := [false, false] } },
     ⟨⟨0, 37, 1, 0, 5, 0, 100⟩, 3, 4, 10, 10, 5, 5, 0, 0, 100, 0, ⟨0, 0, 0, 0, 0, List.replicate 12 0⟩⟩, by decide⟩,
   ⟨{ (((((((State.reset.set CLK_GATE_EFF_FAB 1).set CLK_READY_XTAL_A 1).set FAB_CTRL_NEAR_EN 1).set FAB_CTRL_OFF_EN 1).set FAB_ID_SHELF_ID 37).set FAB_ID_HALL_ID 1)) with boot := { State.reset.boot with fwRuns := true }, pins := { State.reset.pins with txDisable := [false, false] }, fab := { State.reset.fab with wins := [{ src := 5, inc := 0, high := 5, marks := 0 }] } },
     ⟨⟨0, 5, 1, 0, 5, 0, 100⟩, 3, 4, 10, 10, 5, 5, 0, 0, 100, 0, ⟨0, 0, 0, 0, 0, List.replicate 12 0⟩⟩, by decide⟩,
   ⟨{ (((((((State.reset.set CLK_GATE_EFF_FAB 1).set CLK_READY_XTAL_A 1).set FAB_CTRL_NEAR_EN 1).set FAB_CTRL_OFF_EN 1).set FAB_ID_SHELF_ID 37).set FAB_ID_HALL_ID 1)) with boot := { State.reset.boot with fwRuns := true }, pins := { State.reset.pins with txDisable := [false, false] } },
     ⟨⟨0, 5, 1, 0, 5, 3, 100⟩, 3, 4, 10, 10, 5, 5, 0, 0, 100, 0, ⟨0, 0, 0, 0, 0, List.replicate 12 0⟩⟩, by decide⟩,
   ⟨(State.reset.set FAB_CTRL_NEAR_EN 0), ⟨⟨0, 5, 1, 0, 5, 0, 100⟩, 3, 0, 1, 1, 1, 5, 1, 1, 2, 3, 0, List.replicate 16
     (0, 0, 0, 0, 0)⟩, by decide⟩,
   ⟨{ (((((((State.reset.set CLK_GATE_EFF_FAB 1).set CLK_READY_XTAL_A 1).set FAB_CTRL_NEAR_EN 1).set FAB_CTRL_OFF_EN 1).set FAB_ID_SHELF_ID 37).set FAB_ID_HALL_ID 1)) with boot := { State.reset.boot with fwRuns := true }, pins := { State.reset.pins with txDisable := [false, false] } },
     ⟨⟨0, 5, 2, 0, 5, 0, 100⟩, 3, 0, 1, 1, 1, 5, 1, 1, 2, 3, 0, List.replicate 16 (0, 0, 0, 0, 0)⟩, by decide⟩,
   ⟨{ (((((((State.reset.set CLK_GATE_EFF_FAB 1).set CLK_READY_XTAL_A 1).set FAB_CTRL_NEAR_EN 1).set FAB_CTRL_OFF_EN 1).set FAB_ID_SHELF_ID 37).set FAB_ID_HALL_ID 1)) with boot := { State.reset.boot with fwRuns := true }, pins := { State.reset.pins with txDisable := [false, false] } },
     ⟨⟨0, 37, 1, 0, 5, 0, 100⟩, 3, 0, 1, 1, 1, 5, 1, 1, 2, 3, 0, List.replicate 16 (0, 0, 0, 0, 0)⟩, by decide⟩,
   ⟨{ (((((((State.reset.set CLK_GATE_EFF_FAB 1).set CLK_READY_XTAL_A 1).set FAB_CTRL_NEAR_EN 1).set FAB_CTRL_OFF_EN 1).set FAB_ID_SHELF_ID 37).set FAB_ID_HALL_ID 1)) with boot := { State.reset.boot with fwRuns := true }, pins := { State.reset.pins with txDisable := [false, false] }, fab := { State.reset.fab with wins := [{ src := 5, inc := 0, high := 5, marks := 0 }] } },
     ⟨⟨0, 5, 1, 0, 5, 0, 100⟩, 3, 0, 1, 1, 1, 5, 1, 1, 2, 3, 0, List.replicate 16 (0, 0, 0, 0, 0)⟩, by decide⟩,
   ⟨{ (((((((State.reset.set CLK_GATE_EFF_FAB 1).set CLK_READY_XTAL_A 1).set FAB_CTRL_NEAR_EN 1).set FAB_CTRL_OFF_EN 1).set FAB_ID_SHELF_ID 37).set FAB_ID_HALL_ID 1)) with boot := { State.reset.boot with fwRuns := true }, pins := { State.reset.pins with txDisable := [false, false] } },
     ⟨⟨0, 5, 1, 0, 5, 3, 100⟩, 3, 0, 1, 1, 1, 5, 1, 1, 2, 3, 0, List.replicate 16 (0, 0, 0, 0, 0)⟩, by decide⟩,
   ⟨(State.reset.set FAB_CTRL_NEAR_EN 0), ⟨0, 5, 1, 0, 5, 0, 100⟩, by decide⟩,
   ⟨{ (((((((State.reset.set CLK_GATE_EFF_FAB 1).set CLK_READY_XTAL_A 1).set FAB_CTRL_NEAR_EN 1).set FAB_CTRL_OFF_EN 1).set FAB_ID_SHELF_ID 37).set FAB_ID_HALL_ID 1)) with boot := { State.reset.boot with fwRuns := true }, pins := { State.reset.pins with txDisable := [false, false] } },
     ⟨0, 5, 2, 0, 5, 0, 100⟩, by decide⟩,
   ⟨{ (((((((State.reset.set CLK_GATE_EFF_FAB 1).set CLK_READY_XTAL_A 1).set FAB_CTRL_NEAR_EN 1).set FAB_CTRL_OFF_EN 1).set FAB_ID_SHELF_ID 37).set FAB_ID_HALL_ID 1)) with boot := { State.reset.boot with fwRuns := true }, pins := { State.reset.pins with txDisable := [false, false] } },
     ⟨0, 37, 1, 0, 5, 0, 100⟩, by decide⟩,
   ⟨{ (((((((State.reset.set CLK_GATE_EFF_FAB 1).set CLK_READY_XTAL_A 1).set FAB_CTRL_NEAR_EN 1).set FAB_CTRL_OFF_EN 1).set FAB_ID_SHELF_ID 37).set FAB_ID_HALL_ID 1)) with boot := { State.reset.boot with fwRuns := true }, pins := { State.reset.pins with txDisable := [false, false] }, fab := { State.reset.fab with wins := [{ src := 5, inc := 0, high := 5, marks := 0 }] } },
     ⟨0, 5, 1, 0, 5, 0, 100⟩, by decide⟩,
   ⟨{ (((((((State.reset.set CLK_GATE_EFF_FAB 1).set CLK_READY_XTAL_A 1).set FAB_CTRL_NEAR_EN 1).set FAB_CTRL_OFF_EN 1).set FAB_ID_SHELF_ID 37).set FAB_ID_HALL_ID 1)) with boot := { State.reset.boot with fwRuns := true }, pins := { State.reset.pins with txDisable := [false, false] } },
     ⟨0, 5, 1, 0, 5, 3, 100⟩, by decide⟩,
   ⟨{ (((((((State.reset.set CLK_GATE_EFF_FAB 1).set CLK_READY_XTAL_A 1).set FAB_CTRL_NEAR_EN 1).set FAB_CTRL_OFF_EN 1).set FAB_ID_SHELF_ID 37).set FAB_ID_HALL_ID 1)) with boot := { State.reset.boot with fwRuns := true }, pins := { State.reset.pins with txDisable := [false, false] } },
     ⟨⟨0, 5, 1, 0, 5, 0, 100⟩, 50, 0, 1, 500, 0, 0, List.replicate 32 7⟩, by decide⟩,
   ⟨{ ((((((((State.reset.set CLK_GATE_EFF_FAB 1).set CLK_READY_XTAL_A 1).set FAB_CTRL_NEAR_EN 1).set FAB_CTRL_OFF_EN 1).set FAB_ID_SHELF_ID 37).set FAB_ID_HALL_ID 1).set FAB_LEADS_HALL 0x1FF)) with boot := { State.reset.boot with fwRuns := true }, pins := { State.reset.pins with txDisable := [false, false] } },
     ⟨⟨0, 5, 1, 0, 5, 0, 100⟩, 50, 0, 1, 500, 0, 0, List.replicate 32 7⟩, by decide⟩,
   ⟨{ (((((((((State.reset.set CLK_GATE_EFF_FAB 1).set CLK_READY_XTAL_A 1).set FAB_CTRL_NEAR_EN 1).set FAB_CTRL_OFF_EN 1).set FAB_ID_SHELF_ID 37).set FAB_ID_HALL_ID 1).set FAB_LEADS_HALL 9).set FAB_EPOCH_HALL 5)) with boot := { State.reset.boot with fwRuns := true }, pins := { State.reset.pins with txDisable := [false, false] }, fab := { State.reset.fab with sync := some { ({ frame := 0, src := 5, epoch := 1, short := false, h := 500, targets := List.replicate 32 7, live := 4, digest := 0 } : SyncRec) with src := 9 } } },
     ⟨⟨0, 5, 1, 0, 5, 0, 100⟩, 50, 0, 1, 500, 0, 0, List.replicate 32 7⟩, by decide⟩,
   ⟨{ (((((((State.reset.set CLK_GATE_EFF_FAB 1).set CLK_READY_XTAL_A 1).set FAB_CTRL_NEAR_EN 1).set FAB_CTRL_OFF_EN 1).set FAB_ID_SHELF_ID 37).set FAB_ID_HALL_ID 1)) with boot := { State.reset.boot with fwRuns := true }, pins := { State.reset.pins with txDisable := [false, false] } },
     ⟨⟨0, 40, 1, 0, 5, 0, 100⟩, 3, 4, 10, 10, 5, 5, 0, 0, 100, 0, ⟨0, 0, 0, 0, 0, List.replicate 12 0⟩⟩, by decide⟩,
   ⟨{ (((((((State.reset.set CLK_GATE_EFF_FAB 1).set CLK_READY_XTAL_A 1).set FAB_CTRL_NEAR_EN 1).set FAB_CTRL_OFF_EN 1).set FAB_ID_SHELF_ID 37).set FAB_ID_HALL_ID 1)) with boot := { State.reset.boot with fwRuns := true }, pins := { State.reset.pins with txDisable := [false, false] } },
     ⟨⟨0, 5, 1, 0, 5, 0, 100⟩, 3, 4, 10, 10, 5, 5, 0, 0, 100, 0, ⟨0, 0, 0, 0, 0, List.replicate 12 0⟩⟩, by decide⟩,
   ⟨{ (((((((State.reset.set CLK_GATE_EFF_FAB 1).set CLK_READY_XTAL_A 1).set FAB_CTRL_NEAR_EN 1).set FAB_CTRL_OFF_EN 1).set FAB_ID_SHELF_ID 37).set FAB_ID_HALL_ID 1)) with boot := { State.reset.boot with fwRuns := true }, pins := { State.reset.pins with txDisable := [false, false] } },
     ⟨⟨0, 5, 1, 0, 5, 0, 100⟩, 3, 0, 1, 1, 1, 5, 1, 1, 2, 3, 0, List.replicate 16 (0, 0, 0, 0, 0)⟩, by decide⟩,
   ⟨{ (((((((State.reset.set CLK_GATE_EFF_FAB 1).set CLK_READY_XTAL_A 1).set FAB_CTRL_NEAR_EN 1).set FAB_CTRL_OFF_EN 1).set FAB_ID_SHELF_ID 37).set FAB_ID_HALL_ID 1)) with boot := { State.reset.boot with fwRuns := true }, pins := { State.reset.pins with txDisable := [false, false] } },
     ⟨⟨0, 40, 1, 0, 5, 0, 100⟩, 2, 0, 1, 1, 1, 5, 1, 1, 2, 3, 0, List.replicate 16 (0, 0, 0, 0, 0)⟩, by decide⟩,
   ⟨{ (((((((((State.reset.set CLK_GATE_EFF_FAB 1).set CLK_READY_XTAL_A 1).set FAB_CTRL_NEAR_EN 1).set FAB_CTRL_OFF_EN 1).set FAB_ID_SHELF_ID 37).set FAB_ID_HALL_ID 1).set FAB_LEADS_TEAM 37).set FAB_EPOCH_TEAM 5)) with boot := { State.reset.boot with fwRuns := true }, pins := { State.reset.pins with txDisable := [false, false] }, fab := { State.reset.fab with summs := [{ frame := 0, team := 2, src := 37, epoch := 1, flags := 0, live := 32, flex := 0, load := 5, hDis := 1, hChg := 1, target := 2, grid := 3, alarm := 0, members := List.replicate 16 (42, 0, 0, 0, 0), heard := 0 }] } },
     ⟨⟨0, 40, 1, 0, 5, 0, 100⟩, 2, 0, 1, 1, 1, 5, 1, 1, 2, 3, 0, List.replicate 16 (0, 0, 0, 0, 0)⟩, by decide⟩,
   ⟨{ (((((((State.reset.set CLK_GATE_EFF_FAB 1).set CLK_READY_XTAL_A 1).set FAB_CTRL_NEAR_EN 1).set FAB_CTRL_OFF_EN 1).set FAB_ID_SHELF_ID 37).set FAB_ID_HALL_ID 1)) with boot := { State.reset.boot with fwRuns := true }, pins := { State.reset.pins with txDisable := [false, false] }, fab := { State.reset.fab with shares := [{ frame := 0, member := 8, state := 3, flags := 0, load := 0, grid := 0, hDis := 0, hChg := 0, hrDelta := 0, target := 0, soc := 0, digest := 0, heard := 0 }] } },
     ⟨⟨0, 40, 1, 0, 5, 3, 100⟩, 3, 4, 10, 10, 5, 5, 0, 0, 100, 0, ⟨0, 0, 0, 0, 0, List.replicate 12 0⟩⟩, by decide⟩,
   ⟨{ (((((((State.reset.set CLK_GATE_EFF_FAB 1).set CLK_READY_XTAL_A 1).set FAB_CTRL_NEAR_EN 1).set FAB_CTRL_OFF_EN 1).set FAB_ID_SHELF_ID 37).set FAB_ID_HALL_ID 1)) with boot := { State.reset.boot with fwRuns := true }, pins := { State.reset.pins with txDisable := [false, false] }, fab := { State.reset.fab with summs := [{ ({ frame := 0, team := 2, src := 37, epoch := 1, flags := 0, live := 32, flex := 0, load := 5, hDis := 1, hChg := 1, target := 2, grid := 3, alarm := 0, members := List.replicate 16 (42, 0, 0, 0, 0), heard := 0 } : SummRec) with src := 40 }] } },
     ⟨⟨0, 40, 1, 0, 5, 3, 100⟩, 2, 0, 1, 1, 1, 5, 1, 1, 2, 3, 0, List.replicate 16 (0, 0, 0, 0, 0)⟩, by decide⟩,
   ⟨{ (((((((((State.reset.set CLK_GATE_EFF_FAB 1).set CLK_READY_XTAL_A 1).set FAB_CTRL_NEAR_EN 1).set FAB_CTRL_OFF_EN 1).set FAB_ID_SHELF_ID 37).set FAB_ID_HALL_ID 1).set FAB_STATUS_HALL_LEAD 1).set FAB_STATUS_TIME_HELD 1)) with boot := { State.reset.boot with fwRuns := true }, pins := { State.reset.pins with txDisable := [false, false] } },
     ⟨0, 5, 1, 0, 5, 0, 100⟩, by decide⟩,
   ⟨{ (((((((State.reset.set CLK_GATE_EFF_FAB 1).set CLK_READY_XTAL_A 1).set FAB_CTRL_NEAR_EN 1).set FAB_CTRL_OFF_EN 1).set FAB_ID_SHELF_ID 37).set FAB_ID_HALL_ID 1)) with boot := { State.reset.boot with fwRuns := true }, pins := { State.reset.pins with txDisable := [false, false] } },
     ⟨0, 5, 1, 0, 5, 0, 100⟩, by decide⟩,
   ⟨{ (((((((State.reset.set CLK_GATE_EFF_FAB 1).set CLK_READY_XTAL_A 1).set FAB_CTRL_NEAR_EN 1).set FAB_CTRL_OFF_EN 1).set FAB_ID_SHELF_ID 37).set FAB_ID_HALL_ID 1)) with boot := { State.reset.boot with fwRuns := true }, pins := { State.reset.pins with txDisable := [false, false] }, fab := { State.reset.fab with paths := [{ req := some (9, 300), lastSync := some (100, 200) }, {}] } },
     ⟨0, 5, 1, 0, 5, 0, 100⟩, 9, 100, 200, 300, by decide⟩,
   ⟨{ (((((((State.reset.set CLK_GATE_EFF_FAB 1).set CLK_READY_XTAL_A 1).set FAB_CTRL_NEAR_EN 1).set FAB_CTRL_OFF_EN 1).set FAB_ID_SHELF_ID 37).set FAB_ID_HALL_ID 1)) with boot := { State.reset.boot with fwRuns := true }, pins := { State.reset.pins with txDisable := [false, false] } },
     ⟨0, 5, 1, 0, 5, 0, 100⟩, 9, by decide⟩⟩

theorem witness_ThreadMemoryCommands :
    (∃ (s : State) (a : ThrNo) (j : LJob) (t : LThr) (addr : Nat) (p : Nat) (m : LMem) (k : Fin 8), s.pins.powered = true
      ∧ s.thread a = some (j, t) ∧ s.access a j addr (4 * 2 ^ k.val) true false = .ok p m ∧ s.moving p (4 * 2 ^ k.val)
      = false) ∧
    (∃ (s : State) (a : ThrNo) (j : LJob) (t : LThr) (addr : Nat) (p : Nat) (m : LMem) (k : Fin 8), s.pins.powered = true
      ∧ s.thread a = some (j, t) ∧ s.access a j addr (4 * 2 ^ k.val) false false = .ok p m ∧ s.moving p (4 * 2 ^
      k.val) = false) ∧
    (∃ (s : State) (a : ThrNo) (j : LJob) (t : LThr) (addr : Nat) (p : Nat) (m : LMem), s.pins.powered = true ∧ s.thread a
      = some (j, t) ∧ s.access a j addr 4 true true = .ok p m ∧ s.moving p 4 = false) ∧
    (∃ (s : State) (a : ThrNo) (j : LJob) (t : LThr) (addr : Nat) (p : Nat) (m : LMem), s.pins.powered = true ∧ s.thread a
      = some (j, t) ∧ s.access a j addr 8 true true = .ok p m ∧ s.moving p 8 = false) ∧
    (∃ (s : State) (a : ThrNo) (j : LJob) (t : LThr) (addr : Nat) (k : Fin 8) (c : Nat) (v : Nat), s.pins.powered = true ∧
      s.thread a = some (j, t) ∧ s.access a j addr (4 * 2 ^ k.val) true false = .fault c v none) ∧
    (∃ (s : State) (a : ThrNo) (j : LJob) (t : LThr) (addr : Nat) (k : Fin 8) (c : Nat) (v : Nat) (kd : Nat),
      s.pins.powered = true ∧ s.thread a = some (j, t) ∧ s.access a j addr (4 * 2 ^ k.val) true false = .fault c v
      (some kd)) ∧
    (∃ (s : State) (a : ThrNo), s.pins.powered = true ∧ s.thread a = none) ∧
    (∃ (s : State) (a : ThrNo) (j : LJob) (t : LThr) (addr : Nat) (k : Fin 8) (p : Nat) (m : LMem), s.pins.powered = true
      ∧ s.thread a = some (j, t) ∧ s.access a j addr (4 * 2 ^ k.val) true false = .ok p m ∧ s.moving p (4 * 2 ^ k.val)
      = true) ∧
    (∃ (s : State) (a : ThrNo) (j : LJob) (t : LThr) (addr : Nat) (k : Fin 8) (c : Nat) (v : Nat), s.pins.powered = true ∧
      s.thread a = some (j, t) ∧ s.access a j addr (4 * 2 ^ k.val) false false = .fault c v none) ∧
    (∃ (s : State) (a : ThrNo) (j : LJob) (t : LThr) (addr : Nat) (k : Fin 8) (c : Nat) (v : Nat) (kd : Nat),
      s.pins.powered = true ∧ s.thread a = some (j, t) ∧ s.access a j addr (4 * 2 ^ k.val) false false = .fault c v
      (some kd)) ∧
    (∃ (s : State) (a : ThrNo) (j : LJob) (t : LThr) (addr : Nat) (k : Fin 8) (p : Nat) (m : LMem), s.pins.powered = true
      ∧ s.thread a = some (j, t) ∧ s.access a j addr (4 * 2 ^ k.val) false false = .ok p m ∧ s.moving p (4 * 2 ^
      k.val) = true) ∧
    (∃ (s : State) (a : ThrNo) (j : LJob) (t : LThr) (wd : Bool) (addr : Nat) (c : Nat) (v : Nat), s.pins.powered = true ∧
      s.thread a = some (j, t) ∧ s.access a j addr (if wd then 8 else 4) true true = .fault c v none) ∧
    (∃ (s : State) (a : ThrNo) (j : LJob) (t : LThr) (wd : Bool) (addr : Nat) (c : Nat) (v : Nat) (kd : Nat),
      s.pins.powered = true ∧ s.thread a = some (j, t) ∧ s.access a j addr (if wd then 8 else 4) true true = .fault c
      v (some kd)) ∧
    (∃ (s : State) (a : ThrNo) (j : LJob) (t : LThr) (wd : Bool) (addr : Nat) (p : Nat) (m : LMem), s.pins.powered = true
      ∧ s.thread a = some (j, t) ∧ s.access a j addr (if wd then 8 else 4) true true = .ok p m ∧ s.moving p (if wd
      then 8 else 4) = true) :=
  ⟨⟨{ (((((((State.reset.set (LKS_CORE_STATE 0 20) 3).set (LKS_Q_CTRL_ENABLE 0 9) 1).set (LKS_Q_CTRL_SIZE_LOG2 0 9) 4).set (LKS_Q_CTRL_VEC 0 9) 65).set CLK_READY_PLL_MEM 1).set CLK_READY_PLL_CORE 1)) with lks := { (((((((State.reset.set (LKS_CORE_STATE 0 20) 3).set (LKS_Q_CTRL_ENABLE 0 9) 1).set (LKS_Q_CTRL_SIZE_LOG2 0 9) 4).set (LKS_Q_CTRL_VEC 0 9) 65).set CLK_READY_PLL_MEM 1).set CLK_READY_PLL_CORE 1)).lks with jobs := [{ die := 0, q := 9, cmd := { op := 1, flags := 0, entry := 0, tag := 7, image := 0, mask := 0x100000, arg := 0, seed := 0, timeout := 0, threads := 4, head := 1, born := 0 }, start := 0, started := true }] } },
     ⟨0, 20, 1⟩,
     { die := 0, q := 9, cmd := { op := 1, flags := 0, entry := 0, tag := 7, image := 0, mask := 0x100000, arg := 0, seed := 0, timeout := 0, threads := 4, head := 1, born := 0 }, start := 0, started := true },
     threadInit
     ({ die := 0, q := 9, cmd := { op := 1, flags := 0, entry := 0, tag := 7, image := 0, mask := 0x100000, arg := 0, seed := 0, timeout := 0, threads := 4, head := 1, born := 0 }, start := 0, started := true })
     20 1, 0x8010000000, 0x8010000000, .ddr 0, 1, by decide +kernel⟩,
   ⟨{ (((((((State.reset.set (LKS_CORE_STATE 0 20) 3).set (LKS_Q_CTRL_ENABLE 0 9) 1).set (LKS_Q_CTRL_SIZE_LOG2 0 9) 4).set (LKS_Q_CTRL_VEC 0 9) 65).set CLK_READY_PLL_MEM 1).set CLK_READY_PLL_CORE 1)) with lks := { (((((((State.reset.set (LKS_CORE_STATE 0 20) 3).set (LKS_Q_CTRL_ENABLE 0 9) 1).set (LKS_Q_CTRL_SIZE_LOG2 0 9) 4).set (LKS_Q_CTRL_VEC 0 9) 65).set CLK_READY_PLL_MEM 1).set CLK_READY_PLL_CORE 1)).lks with jobs := [{ die := 0, q := 9, cmd := { op := 1, flags := 0, entry := 0, tag := 7, image := 0, mask := 0x100000, arg := 0, seed := 0, timeout := 0, threads := 4, head := 1, born := 0 }, start := 0, started := true }] } },
     ⟨0, 20, 1⟩,
     { die := 0, q := 9, cmd := { op := 1, flags := 0, entry := 0, tag := 7, image := 0, mask := 0x100000, arg := 0, seed := 0, timeout := 0, threads := 4, head := 1, born := 0 }, start := 0, started := true },
     threadInit
     ({ die := 0, q := 9, cmd := { op := 1, flags := 0, entry := 0, tag := 7, image := 0, mask := 0x100000, arg := 0, seed := 0, timeout := 0, threads := 4, head := 1, born := 0 }, start := 0, started := true })
     20 1, 0x8010000000, 0x8010000000, .ddr 0, 1, by decide +kernel⟩,
   ⟨{ (((((((State.reset.set (LKS_CORE_STATE 0 20) 3).set (LKS_Q_CTRL_ENABLE 0 9) 1).set (LKS_Q_CTRL_SIZE_LOG2 0 9) 4).set (LKS_Q_CTRL_VEC 0 9) 65).set CLK_READY_PLL_MEM 1).set CLK_READY_PLL_CORE 1)) with lks := { (((((((State.reset.set (LKS_CORE_STATE 0 20) 3).set (LKS_Q_CTRL_ENABLE 0 9) 1).set (LKS_Q_CTRL_SIZE_LOG2 0 9) 4).set (LKS_Q_CTRL_VEC 0 9) 65).set CLK_READY_PLL_MEM 1).set CLK_READY_PLL_CORE 1)).lks with jobs := [{ die := 0, q := 9, cmd := { op := 1, flags := 0, entry := 0, tag := 7, image := 0, mask := 0x100000, arg := 0, seed := 0, timeout := 0, threads := 4, head := 1, born := 0 }, start := 0, started := true }] } },
     ⟨0, 20, 1⟩,
     { die := 0, q := 9, cmd := { op := 1, flags := 0, entry := 0, tag := 7, image := 0, mask := 0x100000, arg := 0, seed := 0, timeout := 0, threads := 4, head := 1, born := 0 }, start := 0, started := true },
     threadInit
     ({ die := 0, q := 9, cmd := { op := 1, flags := 0, entry := 0, tag := 7, image := 0, mask := 0x100000, arg := 0, seed := 0, timeout := 0, threads := 4, head := 1, born := 0 }, start := 0, started := true })
     20 1, 0x4000, 0x10A004000, .sram 0 20, by decide +kernel⟩,
   ⟨{ (((((((State.reset.set (LKS_CORE_STATE 0 20) 3).set (LKS_Q_CTRL_ENABLE 0 9) 1).set (LKS_Q_CTRL_SIZE_LOG2 0 9) 4).set (LKS_Q_CTRL_VEC 0 9) 65).set CLK_READY_PLL_MEM 1).set CLK_READY_PLL_CORE 1)) with lks := { (((((((State.reset.set (LKS_CORE_STATE 0 20) 3).set (LKS_Q_CTRL_ENABLE 0 9) 1).set (LKS_Q_CTRL_SIZE_LOG2 0 9) 4).set (LKS_Q_CTRL_VEC 0 9) 65).set CLK_READY_PLL_MEM 1).set CLK_READY_PLL_CORE 1)).lks with jobs := [{ die := 0, q := 9, cmd := { op := 1, flags := 0, entry := 0, tag := 7, image := 0, mask := 0x100000, arg := 0, seed := 0, timeout := 0, threads := 4, head := 1, born := 0 }, start := 0, started := true }] } },
     ⟨0, 20, 1⟩,
     { die := 0, q := 9, cmd := { op := 1, flags := 0, entry := 0, tag := 7, image := 0, mask := 0x100000, arg := 0, seed := 0, timeout := 0, threads := 4, head := 1, born := 0 }, start := 0, started := true },
     threadInit
     ({ die := 0, q := 9, cmd := { op := 1, flags := 0, entry := 0, tag := 7, image := 0, mask := 0x100000, arg := 0, seed := 0, timeout := 0, threads := 4, head := 1, born := 0 }, start := 0, started := true })
     20 1, 0x4000, 0x10A004000, .sram 0 20, by decide +kernel⟩,
   ⟨{ (((((((State.reset.set (LKS_CORE_STATE 0 20) 3).set (LKS_Q_CTRL_ENABLE 0 9) 1).set (LKS_Q_CTRL_SIZE_LOG2 0 9) 4).set (LKS_Q_CTRL_VEC 0 9) 65).set CLK_READY_PLL_MEM 1).set CLK_READY_PLL_CORE 1)) with lks := { (((((((State.reset.set (LKS_CORE_STATE 0 20) 3).set (LKS_Q_CTRL_ENABLE 0 9) 1).set (LKS_Q_CTRL_SIZE_LOG2 0 9) 4).set (LKS_Q_CTRL_VEC 0 9) 65).set CLK_READY_PLL_MEM 1).set CLK_READY_PLL_CORE 1)).lks with jobs := [{ die := 0, q := 9, cmd := { op := 1, flags := 0, entry := 0, tag := 7, image := 0, mask := 0x100000, arg := 0, seed := 0, timeout := 0, threads := 4, head := 1, born := 0 }, start := 0, started := true }] } },
     ⟨0, 20, 1⟩,
     { die := 0, q := 9, cmd := { op := 1, flags := 0, entry := 0, tag := 7, image := 0, mask := 0x100000, arg := 0, seed := 0, timeout := 0, threads := 4, head := 1, born := 0 }, start := 0, started := true },
     threadInit
     ({ die := 0, q := 9, cmd := { op := 1, flags := 0, entry := 0, tag := 7, image := 0, mask := 0x100000, arg := 0, seed := 0, timeout := 0, threads := 4, head := 1, born := 0 }, start := 0, started := true })
     20 1, 0x700000, 1, 1, 0x700000, by decide +kernel⟩,
   ⟨{ (((((((State.reset.set (LKS_CORE_STATE 0 20) 3).set (LKS_Q_CTRL_ENABLE 0 9) 1).set (LKS_Q_CTRL_SIZE_LOG2 0 9) 4).set (LKS_Q_CTRL_VEC 0 9) 65).set CLK_READY_PLL_MEM 1).set CLK_READY_PLL_CORE 1)) with lks := { (((((((State.reset.set (LKS_CORE_STATE 0 20) 3).set (LKS_Q_CTRL_ENABLE 0 9) 1).set (LKS_Q_CTRL_SIZE_LOG2 0 9) 4).set (LKS_Q_CTRL_VEC 0 9) 65).set CLK_READY_PLL_MEM 1).set CLK_READY_PLL_CORE 1)).lks with jobs := [{ die := 0, q := 9, cmd := { op := 1, flags := 0, entry := 0, tag := 7, image := 0, mask := 0x100000, arg := 0, seed := 0, timeout := 0, threads := 4, head := 1, born := 0 }, start := 0, started := true }] } },
     ⟨0, 20, 1⟩,
     { die := 0, q := 9, cmd := { op := 1, flags := 0, entry := 0, tag := 7, image := 0, mask := 0x100000, arg := 0, seed := 0, timeout := 0, threads := 4, head := 1, born := 0 }, start := 0, started := true },
     threadInit
     ({ die := 0, q := 9, cmd := { op := 1, flags := 0, entry := 0, tag := 7, image := 0, mask := 0x100000, arg := 0, seed := 0, timeout := 0, threads := 4, head := 1, born := 0 }, start := 0, started := true })
     20 1, 0x3700000000, 1, 2, 0x3700000000, 3, by decide +kernel⟩,
   ⟨State.reset, ⟨0, 20, 1⟩, by decide +kernel⟩,
   ⟨{ ((((((((State.reset.set (LKS_CORE_STATE 0 20) 3).set (LKS_Q_CTRL_ENABLE 0 9) 1).set (LKS_Q_CTRL_SIZE_LOG2 0 9) 4).set (LKS_Q_CTRL_VEC 0 9) 65).set CLK_READY_PLL_MEM 1).set CLK_READY_PLL_CORE 1).set (RMT_KIND_STATE 4) 3)) with lks := { ((((((((State.reset.set (LKS_CORE_STATE 0 20) 3).set (LKS_Q_CTRL_ENABLE 0 9) 1).set (LKS_Q_CTRL_SIZE_LOG2 0 9) 4).set (LKS_Q_CTRL_VEC 0 9) 65).set CLK_READY_PLL_MEM 1).set CLK_READY_PLL_CORE 1).set (RMT_KIND_STATE 4) 3)).lks with jobs := [{ die := 0, q := 9, cmd := { op := 1, flags := 0, entry := 0, tag := 7, image := 0, mask := 0x100000, arg := 0, seed := 0, timeout := 0, threads := 4, head := 1, born := 0 }, start := 0, started := true }] } },
     ⟨0, 20, 1⟩,
     { die := 0, q := 9, cmd := { op := 1, flags := 0, entry := 0, tag := 7, image := 0, mask := 0x100000, arg := 0, seed := 0, timeout := 0, threads := 4, head := 1, born := 0 }, start := 0, started := true },
     threadInit
     ({ die := 0, q := 9, cmd := { op := 1, flags := 0, entry := 0, tag := 7, image := 0, mask := 0x100000, arg := 0, seed := 0, timeout := 0, threads := 4, head := 1, born := 0 }, start := 0, started := true })
     20 1, 0x2000000000, 1, 0x2000000000, .hbm0, by decide +kernel⟩,
   ⟨{ (((((((State.reset.set (LKS_CORE_STATE 0 20) 3).set (LKS_Q_CTRL_ENABLE 0 9) 1).set (LKS_Q_CTRL_SIZE_LOG2 0 9) 4).set (LKS_Q_CTRL_VEC 0 9) 65).set CLK_READY_PLL_MEM 1).set CLK_READY_PLL_CORE 1)) with lks := { (((((((State.reset.set (LKS_CORE_STATE 0 20) 3).set (LKS_Q_CTRL_ENABLE 0 9) 1).set (LKS_Q_CTRL_SIZE_LOG2 0 9) 4).set (LKS_Q_CTRL_VEC 0 9) 65).set CLK_READY_PLL_MEM 1).set CLK_READY_PLL_CORE 1)).lks with jobs := [{ die := 0, q := 9, cmd := { op := 1, flags := 0, entry := 0, tag := 7, image := 0, mask := 0x100000, arg := 0, seed := 0, timeout := 0, threads := 4, head := 1, born := 0 }, start := 0, started := true }] } },
     ⟨0, 20, 1⟩,
     { die := 0, q := 9, cmd := { op := 1, flags := 0, entry := 0, tag := 7, image := 0, mask := 0x100000, arg := 0, seed := 0, timeout := 0, threads := 4, head := 1, born := 0 }, start := 0, started := true },
     threadInit
     ({ die := 0, q := 9, cmd := { op := 1, flags := 0, entry := 0, tag := 7, image := 0, mask := 0x100000, arg := 0, seed := 0, timeout := 0, threads := 4, head := 1, born := 0 }, start := 0, started := true })
     20 1, 0x700000, 1, 1, 0x700000, by decide +kernel⟩,
   ⟨{ (((((((State.reset.set (LKS_CORE_STATE 0 20) 3).set (LKS_Q_CTRL_ENABLE 0 9) 1).set (LKS_Q_CTRL_SIZE_LOG2 0 9) 4).set (LKS_Q_CTRL_VEC 0 9) 65).set CLK_READY_PLL_MEM 1).set CLK_READY_PLL_CORE 1)) with lks := { (((((((State.reset.set (LKS_CORE_STATE 0 20) 3).set (LKS_Q_CTRL_ENABLE 0 9) 1).set (LKS_Q_CTRL_SIZE_LOG2 0 9) 4).set (LKS_Q_CTRL_VEC 0 9) 65).set CLK_READY_PLL_MEM 1).set CLK_READY_PLL_CORE 1)).lks with jobs := [{ die := 0, q := 9, cmd := { op := 1, flags := 0, entry := 0, tag := 7, image := 0, mask := 0x100000, arg := 0, seed := 0, timeout := 0, threads := 4, head := 1, born := 0 }, start := 0, started := true }] } },
     ⟨0, 20, 1⟩,
     { die := 0, q := 9, cmd := { op := 1, flags := 0, entry := 0, tag := 7, image := 0, mask := 0x100000, arg := 0, seed := 0, timeout := 0, threads := 4, head := 1, born := 0 }, start := 0, started := true },
     threadInit
     ({ die := 0, q := 9, cmd := { op := 1, flags := 0, entry := 0, tag := 7, image := 0, mask := 0x100000, arg := 0, seed := 0, timeout := 0, threads := 4, head := 1, born := 0 }, start := 0, started := true })
     20 1, 0x3700000000, 1, 2, 0x3700000000, 3, by decide +kernel⟩,
   ⟨{ ((((((((State.reset.set (LKS_CORE_STATE 0 20) 3).set (LKS_Q_CTRL_ENABLE 0 9) 1).set (LKS_Q_CTRL_SIZE_LOG2 0 9) 4).set (LKS_Q_CTRL_VEC 0 9) 65).set CLK_READY_PLL_MEM 1).set CLK_READY_PLL_CORE 1).set (RMT_KIND_STATE 4) 3)) with lks := { ((((((((State.reset.set (LKS_CORE_STATE 0 20) 3).set (LKS_Q_CTRL_ENABLE 0 9) 1).set (LKS_Q_CTRL_SIZE_LOG2 0 9) 4).set (LKS_Q_CTRL_VEC 0 9) 65).set CLK_READY_PLL_MEM 1).set CLK_READY_PLL_CORE 1).set (RMT_KIND_STATE 4) 3)).lks with jobs := [{ die := 0, q := 9, cmd := { op := 1, flags := 0, entry := 0, tag := 7, image := 0, mask := 0x100000, arg := 0, seed := 0, timeout := 0, threads := 4, head := 1, born := 0 }, start := 0, started := true }] } },
     ⟨0, 20, 1⟩,
     { die := 0, q := 9, cmd := { op := 1, flags := 0, entry := 0, tag := 7, image := 0, mask := 0x100000, arg := 0, seed := 0, timeout := 0, threads := 4, head := 1, born := 0 }, start := 0, started := true },
     threadInit
     ({ die := 0, q := 9, cmd := { op := 1, flags := 0, entry := 0, tag := 7, image := 0, mask := 0x100000, arg := 0, seed := 0, timeout := 0, threads := 4, head := 1, born := 0 }, start := 0, started := true })
     20 1, 0x2000000000, 1, 0x2000000000, .hbm0, by decide +kernel⟩,
   ⟨{ (((((((State.reset.set (LKS_CORE_STATE 0 20) 3).set (LKS_Q_CTRL_ENABLE 0 9) 1).set (LKS_Q_CTRL_SIZE_LOG2 0 9) 4).set (LKS_Q_CTRL_VEC 0 9) 65).set CLK_READY_PLL_MEM 1).set CLK_READY_PLL_CORE 1)) with lks := { (((((((State.reset.set (LKS_CORE_STATE 0 20) 3).set (LKS_Q_CTRL_ENABLE 0 9) 1).set (LKS_Q_CTRL_SIZE_LOG2 0 9) 4).set (LKS_Q_CTRL_VEC 0 9) 65).set CLK_READY_PLL_MEM 1).set CLK_READY_PLL_CORE 1)).lks with jobs := [{ die := 0, q := 9, cmd := { op := 1, flags := 0, entry := 0, tag := 7, image := 0, mask := 0x100000, arg := 0, seed := 0, timeout := 0, threads := 4, head := 1, born := 0 }, start := 0, started := true }] } },
     ⟨0, 20, 1⟩,
     { die := 0, q := 9, cmd := { op := 1, flags := 0, entry := 0, tag := 7, image := 0, mask := 0x100000, arg := 0, seed := 0, timeout := 0, threads := 4, head := 1, born := 0 }, start := 0, started := true },
     threadInit
     ({ die := 0, q := 9, cmd := { op := 1, flags := 0, entry := 0, tag := 7, image := 0, mask := 0x100000, arg := 0, seed := 0, timeout := 0, threads := 4, head := 1, born := 0 }, start := 0, started := true })
     20 1, false, 0x700000, 1, 0x700000, by decide +kernel⟩,
   ⟨{ (((((((State.reset.set (LKS_CORE_STATE 0 20) 3).set (LKS_Q_CTRL_ENABLE 0 9) 1).set (LKS_Q_CTRL_SIZE_LOG2 0 9) 4).set (LKS_Q_CTRL_VEC 0 9) 65).set CLK_READY_PLL_MEM 1).set CLK_READY_PLL_CORE 1)) with lks := { (((((((State.reset.set (LKS_CORE_STATE 0 20) 3).set (LKS_Q_CTRL_ENABLE 0 9) 1).set (LKS_Q_CTRL_SIZE_LOG2 0 9) 4).set (LKS_Q_CTRL_VEC 0 9) 65).set CLK_READY_PLL_MEM 1).set CLK_READY_PLL_CORE 1)).lks with jobs := [{ die := 0, q := 9, cmd := { op := 1, flags := 0, entry := 0, tag := 7, image := 0, mask := 0x100000, arg := 0, seed := 0, timeout := 0, threads := 4, head := 1, born := 0 }, start := 0, started := true }] } },
     ⟨0, 20, 1⟩,
     { die := 0, q := 9, cmd := { op := 1, flags := 0, entry := 0, tag := 7, image := 0, mask := 0x100000, arg := 0, seed := 0, timeout := 0, threads := 4, head := 1, born := 0 }, start := 0, started := true },
     threadInit
     ({ die := 0, q := 9, cmd := { op := 1, flags := 0, entry := 0, tag := 7, image := 0, mask := 0x100000, arg := 0, seed := 0, timeout := 0, threads := 4, head := 1, born := 0 }, start := 0, started := true })
     20 1, false, 0x3700000000, 2, 0x3700000000, 3, by decide +kernel⟩,
   ⟨{ ((((((((State.reset.set (LKS_CORE_STATE 0 20) 3).set (LKS_Q_CTRL_ENABLE 0 9) 1).set (LKS_Q_CTRL_SIZE_LOG2 0 9) 4).set (LKS_Q_CTRL_VEC 0 9) 65).set CLK_READY_PLL_MEM 1).set CLK_READY_PLL_CORE 1).set (RMT_KIND_STATE 4) 3)) with lks := { ((((((((State.reset.set (LKS_CORE_STATE 0 20) 3).set (LKS_Q_CTRL_ENABLE 0 9) 1).set (LKS_Q_CTRL_SIZE_LOG2 0 9) 4).set (LKS_Q_CTRL_VEC 0 9) 65).set CLK_READY_PLL_MEM 1).set CLK_READY_PLL_CORE 1).set (RMT_KIND_STATE 4) 3)).lks with jobs := [{ die := 0, q := 9, cmd := { op := 1, flags := 0, entry := 0, tag := 7, image := 0, mask := 0x100000, arg := 0, seed := 0, timeout := 0, threads := 4, head := 1, born := 0 }, start := 0, started := true }] } },
     ⟨0, 20, 1⟩,
     { die := 0, q := 9, cmd := { op := 1, flags := 0, entry := 0, tag := 7, image := 0, mask := 0x100000, arg := 0, seed := 0, timeout := 0, threads := 4, head := 1, born := 0 }, start := 0, started := true },
     threadInit
     ({ die := 0, q := 9, cmd := { op := 1, flags := 0, entry := 0, tag := 7, image := 0, mask := 0x100000, arg := 0, seed := 0, timeout := 0, threads := 4, head := 1, born := 0 }, start := 0, started := true })
     20 1, false, 0x2000000000, 0x2000000000, .hbm0, by decide +kernel⟩⟩

theorem witness_AccessesLetThrough :
    ({ (((((((State.reset.set (LKS_CORE_STATE 0 20) 3).set (LKS_Q_CTRL_ENABLE 0 9) 1).set (LKS_Q_CTRL_SIZE_LOG2 0 9) 4).set (LKS_Q_CTRL_VEC 0 9) 65).set CLK_READY_PLL_MEM 1).set CLK_READY_PLL_CORE 1)) with lks := { (((((((State.reset.set (LKS_CORE_STATE 0 20) 3).set (LKS_Q_CTRL_ENABLE 0 9) 1).set (LKS_Q_CTRL_SIZE_LOG2 0 9) 4).set (LKS_Q_CTRL_VEC 0 9) 65).set CLK_READY_PLL_MEM 1).set CLK_READY_PLL_CORE 1)).lks with jobs := [{ die := 0, q := 9, cmd := { op := 1, flags := 0, entry := 0, tag := 7, image := 0, mask := 0x100000, arg := 0, seed := 0, timeout := 0, threads := 4, head := 1, born := 0 }, start := 0, started := true }] } }).access
    ⟨0, 20, 1⟩
    ({ die := 0, q := 9, cmd := { op := 1, flags := 0, entry := 0, tag := 7, image := 0, mask := 0x100000, arg := 0, seed := 0, timeout := 0, threads := 4, head := 1, born := 0 }, start := 0, started := true })
    0x8010000000 4 true false = .ok 0x8010000000 (.ddr 0) ∧
    ({ (((((((State.reset.set (LKS_CORE_STATE 0 20) 3).set (LKS_Q_CTRL_ENABLE 0 9) 1).set (LKS_Q_CTRL_SIZE_LOG2 0 9) 4).set (LKS_Q_CTRL_VEC 0 9) 65).set CLK_READY_PLL_MEM 1).set CLK_READY_PLL_CORE 1)) with lks := { (((((((State.reset.set (LKS_CORE_STATE 0 20) 3).set (LKS_Q_CTRL_ENABLE 0 9) 1).set (LKS_Q_CTRL_SIZE_LOG2 0 9) 4).set (LKS_Q_CTRL_VEC 0 9) 65).set CLK_READY_PLL_MEM 1).set CLK_READY_PLL_CORE 1)).lks with jobs := [{ die := 0, q := 9, cmd := { op := 1, flags := 0, entry := 0, tag := 7, image := 0, mask := 0x100000, arg := 0, seed := 0, timeout := 0, threads := 4, head := 1, born := 0 }, start := 0, started := true }] } }).access
    ⟨0, 20, 1⟩
    ({ die := 0, q := 9, cmd := { op := 1, flags := 0, entry := 0, tag := 7, image := 0, mask := 0x100000, arg := 0, seed := 0, timeout := 0, threads := 4, head := 1, born := 0 }, start := 0, started := true })
    0x700000 4 true false = .fault 1 0x700000 none := by decide +kernel

theorem witness_StoreReadsBack :
    sparseWf blankByte State.reset.mem = true ∧ (5 + 3 ≤ 9 ∨ 9 + 3 ≤ 5) := by decide

theorem witness_ThreadArithmeticCommands :
    (∃ (s : State) (i : TileIn) (j : LJob) (t : LThr), s.pins.powered = true ∧ s.thread i.at_ = some (j, t) ∧ pairOk i.fa
      i.fb = true ∧ 0 < i.k ∧ i.k % 32 = 0 ∧ i.k ≤ 4096 ∧ ((i.sa.isSome = true → fmtScaled i.fa = true)) ∧
      ((i.sb.isSome = true → fmtScaled i.fb = true)) ∧ ((∀ x ∈ tileSpans i, x.1 + x.2 ≤ 0x600000)) ∧ ((∀ x ∈ tileSpans
      i, s.poisoned (sramBase i.at_.die i.at_.core + x.1) x.2 = false)) ∧ i.out = none ∧ s.acc i = none) ∧
    (∃ (s : State) (i : TileIn) (j : LJob) (t : LThr) (y : LAcc), s.pins.powered = true ∧ s.thread i.at_ = some (j, t) ∧
      pairOk i.fa i.fb = true ∧ 0 < i.k ∧ i.k % 32 = 0 ∧ i.k ≤ 4096 ∧ ((i.sa.isSome = true → fmtScaled i.fa = true)) ∧
      ((i.sb.isSome = true → fmtScaled i.fb = true)) ∧ ((∀ x ∈ tileSpans i, x.1 + x.2 ≤ 0x600000)) ∧ ((∀ x ∈ tileSpans
      i, s.poisoned (sramBase i.at_.die i.at_.core + x.1) x.2 = false)) ∧ i.out = none ∧ s.acc i = some y ∧ y.kind =
      accKind i.fa (i.sa.isSome || i.sb.isSome)) ∧
    (∃ (s : State) (i : TileIn) (j : LJob) (t : LThr) (y : LAcc), s.pins.powered = true ∧ s.thread i.at_ = some (j, t) ∧
      pairOk i.fa i.fb = true ∧ 0 < i.k ∧ i.k % 32 = 0 ∧ i.k ≤ 4096 ∧ ((i.sa.isSome = true → fmtScaled i.fa = true)) ∧
      ((i.sb.isSome = true → fmtScaled i.fb = true)) ∧ ((∀ x ∈ tileSpans i, x.1 + x.2 ≤ 0x600000)) ∧ ((∀ x ∈ tileSpans
      i, s.poisoned (sramBase i.at_.die i.at_.core + x.1) x.2 = false)) ∧ i.out = none ∧ s.acc i = some y ∧ y.kind ≠
      accKind i.fa (i.sa.isSome || i.sb.isSome)) ∧
    (∃ (s : State) (i : TileIn) (j : LJob) (t : LThr) (o : Nat) (p : Nat) (m : LMem), s.pins.powered = true ∧ s.thread
      i.at_ = some (j, t) ∧ pairOk i.fa i.fb = true ∧ 0 < i.k ∧ i.k % 32 = 0 ∧ i.k ≤ 4096 ∧ ((i.sa.isSome = true →
      fmtScaled i.fa = true)) ∧ ((i.sb.isSome = true → fmtScaled i.fb = true)) ∧ ((∀ x ∈ tileSpans i, x.1 + x.2 ≤
      0x600000)) ∧ ((∀ x ∈ tileSpans i, s.poisoned (sramBase i.at_.die i.at_.core + x.1) x.2 = false)) ∧ i.out = some
      o ∧ s.acc i = none ∧ s.access i.at_ j o 4096 false false = .ok p m ∧ s.moving p 4096 = false) ∧
    (∃ (s : State) (i : TileIn) (j : LJob) (t : LThr), s.pins.powered = true ∧ s.thread i.at_ = some (j, t) ∧ pairOk i.fa
      i.fb = false) ∧
    (∃ (s : State) (i : TileIn) (j : LJob) (t : LThr), s.pins.powered = true ∧ s.thread i.at_ = some (j, t) ∧ pairOk i.fa
      i.fb = true ∧ ((i.k = 0 ∨ i.k % 32 ≠ 0 ∨ 4096 < i.k ∨ (i.sa.isSome = true ∧ fmtScaled i.fa = false) ∨
      (i.sb.isSome = true ∧ fmtScaled i.fb = false)))) ∧
    (∃ (s : State) (i : TileIn) (j : LJob) (t : LThr) (v : Nat × Nat), s.pins.powered = true ∧ s.thread i.at_ = some (j,
      t) ∧ pairOk i.fa i.fb = true ∧ 0 < i.k ∧ i.k % 32 = 0 ∧ i.k ≤ 4096 ∧ ((i.sa.isSome = true → fmtScaled i.fa =
      true)) ∧ ((i.sb.isSome = true → fmtScaled i.fb = true)) ∧ (tileSpans i).find? (fun x => decide (0x600000 < x.1 +
      x.2)) = some v) ∧
    (∃ (s : State) (i : TileIn) (j : LJob) (t : LThr) (v : Nat × Nat), s.pins.powered = true ∧ s.thread i.at_ = some (j,
      t) ∧ pairOk i.fa i.fb = true ∧ 0 < i.k ∧ i.k % 32 = 0 ∧ i.k ≤ 4096 ∧ ((i.sa.isSome = true → fmtScaled i.fa =
      true)) ∧ ((i.sb.isSome = true → fmtScaled i.fb = true)) ∧ ((∀ x ∈ tileSpans i, x.1 + x.2 ≤ 0x600000)) ∧
      (tileSpans i).find? (fun x => s.poisoned (sramBase i.at_.die i.at_.core + x.1) x.2) = some v) ∧
    (∃ (s : State) (i : TileIn), s.pins.powered = true ∧ s.thread i.at_ = none) ∧
    (∃ (s : State) (i : VecIn) (j : LJob) (t : LThr), s.pins.powered = true ∧ s.thread i.at_ = some (j, t) ∧ ((i.fmt =
      .fp32 ∨ i.fmt = .bf16 ∨ i.fmt = .fp16 ∨ i.fmt = .q131)) ∧ i.mode ≠ .sr) ∧
    (∃ (s : State) (i : VecIn) (j : LJob) (t : LThr), s.pins.powered = true ∧ s.thread i.at_ = some (j, t) ∧ ((i.fmt =
      .fp32 ∨ i.fmt = .bf16 ∨ i.fmt = .fp16 ∨ i.fmt = .q131)) ∧ i.mode = .sr) ∧
    (∃ (s : State) (i : VecIn) (j : LJob) (t : LThr), s.pins.powered = true ∧ s.thread i.at_ = some (j, t) ∧ i.fmt ≠ .fp32
      ∧ i.fmt ≠ .bf16 ∧ i.fmt ≠ .fp16 ∧ i.fmt ≠ .q131) ∧
    (∃ (s : State) (a : ThrNo) (j : LJob) (t : LThr), s.pins.powered = true ∧ s.thread a = some (j, t)) ∧
    (∃ (s : State) (i : ConvIn) (j : LJob) (t : LThr), s.pins.powered = true ∧ s.thread i.at_ = some (j, t) ∧ i.srcScale =
      none ∧ i.dstScale = none ∧ i.mode ≠ .sr) ∧
    (∃ (s : State) (i : ConvIn) (j : LJob) (t : LThr) (r : Fin 256), s.pins.powered = true ∧ s.thread i.at_ = some (j, t)
      ∧ i.srcScale = some r ∧ i.dstScale = none ∧ fmtScaled i.from_ = true ∧ i.mode ≠ .sr) ∧
    (∃ (s : State) (i : ConvIn) (j : LJob) (t : LThr) (r : Fin 256) (w : Nat), s.pins.powered = true ∧ s.thread i.at_ =
      some (j, t) ∧ i.srcScale = none ∧ i.dstScale = some r ∧ fmtScaled i.to_ = true ∧ i.mode ≠ .sr ∧ blockScale i.to_
      ((List.range i.n).map fun k => decodeVal i.from_ (t.reg (i.src.val + k)).toNat) = some w) ∧
    (∃ (s : State) (i : ConvIn) (j : LJob) (t : LThr), s.pins.powered = true ∧ s.thread i.at_ = some (j, t) ∧
      ((i.dstScale.isSome = true ∧ fmtScaled i.to_ = false ∨ i.srcScale.isSome = true ∧ fmtScaled i.from_ = false))) ∧
    (∃ (s : State) (i : VecIn), s.pins.powered = true ∧ s.thread i.at_ = none) ∧
    (∃ (s : State) (i : ConvIn), s.pins.powered = true ∧ s.thread i.at_ = none) ∧
    (∃ (s : State) (a : ThrNo), s.pins.powered = true ∧ s.thread a = none) :=
  ⟨⟨{ (((((((State.reset.set (LKS_CORE_STATE 0 20) 3).set (LKS_Q_CTRL_ENABLE 0 9) 1).set (LKS_Q_CTRL_SIZE_LOG2 0 9) 4).set (LKS_Q_CTRL_VEC 0 9) 65).set CLK_READY_PLL_MEM 1).set CLK_READY_PLL_CORE 1)) with lks := { (((((((State.reset.set (LKS_CORE_STATE 0 20) 3).set (LKS_Q_CTRL_ENABLE 0 9) 1).set (LKS_Q_CTRL_SIZE_LOG2 0 9) 4).set (LKS_Q_CTRL_VEC 0 9) 65).set CLK_READY_PLL_MEM 1).set CLK_READY_PLL_CORE 1)).lks with jobs := [{ die := 0, q := 9, cmd := { op := 1, flags := 0, entry := 0, tag := 7, image := 0, mask := 0x100000, arg := 0, seed := 0, timeout := 0, threads := 4, head := 1, born := 0 }, start := 0, started := true }] } },
     { at_ := ⟨0, 20, 1⟩, engine := 1, set_ := 0, fa := .bf16, fb := .bf16, k := 32, a := 0, b := 4096, sa := none, sb := none, out := none },
     { die := 0, q := 9, cmd := { op := 1, flags := 0, entry := 0, tag := 7, image := 0, mask := 0x100000, arg := 0, seed := 0, timeout := 0, threads := 4, head := 1, born := 0 }, start := 0, started := true },
     threadInit
     ({ die := 0, q := 9, cmd := { op := 1, flags := 0, entry := 0, tag := 7, image := 0, mask := 0x100000, arg := 0, seed := 0, timeout := 0, threads := 4, head := 1, born := 0 }, start := 0, started := true })
     20 1, by decide +kernel⟩,
   ⟨{ (((((((State.reset.set (LKS_CORE_STATE 0 20) 3).set (LKS_Q_CTRL_ENABLE 0 9) 1).set (LKS_Q_CTRL_SIZE_LOG2 0 9) 4).set (LKS_Q_CTRL_VEC 0 9) 65).set CLK_READY_PLL_MEM 1).set CLK_READY_PLL_CORE 1)) with lks := { (((((((State.reset.set (LKS_CORE_STATE 0 20) 3).set (LKS_Q_CTRL_ENABLE 0 9) 1).set (LKS_Q_CTRL_SIZE_LOG2 0 9) 4).set (LKS_Q_CTRL_VEC 0 9) 65).set CLK_READY_PLL_MEM 1).set CLK_READY_PLL_CORE 1)).lks with jobs := [{ die := 0, q := 9, cmd := { op := 1, flags := 0, entry := 0, tag := 7, image := 0, mask := 0x100000, arg := 0, seed := 0, timeout := 0, threads := 4, head := 1, born := 0 }, start := 0, started := true }], accs := [⟨0, 20, 1, 0, 1, List.replicate 1024 3⟩] } },
     { at_ := ⟨0, 20, 1⟩, engine := 1, set_ := 0, fa := .int8, fb := .int8, k := 32, a := 0, b := 4096, sa := none, sb := none, out := none },
     { die := 0, q := 9, cmd := { op := 1, flags := 0, entry := 0, tag := 7, image := 0, mask := 0x100000, arg := 0, seed := 0, timeout := 0, threads := 4, head := 1, born := 0 }, start := 0, started := true },
     threadInit
     ({ die := 0, q := 9, cmd := { op := 1, flags := 0, entry := 0, tag := 7, image := 0, mask := 0x100000, arg := 0, seed := 0, timeout := 0, threads := 4, head := 1, born := 0 }, start := 0, started := true })
     20 1, ⟨0, 20, 1, 0, 1, List.replicate 1024 3⟩, by decide +kernel⟩,
   ⟨{ (((((((State.reset.set (LKS_CORE_STATE 0 20) 3).set (LKS_Q_CTRL_ENABLE 0 9) 1).set (LKS_Q_CTRL_SIZE_LOG2 0 9) 4).set (LKS_Q_CTRL_VEC 0 9) 65).set CLK_READY_PLL_MEM 1).set CLK_READY_PLL_CORE 1)) with lks := { (((((((State.reset.set (LKS_CORE_STATE 0 20) 3).set (LKS_Q_CTRL_ENABLE 0 9) 1).set (LKS_Q_CTRL_SIZE_LOG2 0 9) 4).set (LKS_Q_CTRL_VEC 0 9) 65).set CLK_READY_PLL_MEM 1).set CLK_READY_PLL_CORE 1)).lks with jobs := [{ die := 0, q := 9, cmd := { op := 1, flags := 0, entry := 0, tag := 7, image := 0, mask := 0x100000, arg := 0, seed := 0, timeout := 0, threads := 4, head := 1, born := 0 }, start := 0, started := true }], accs := [⟨0, 20, 1, 0, 1, List.replicate 1024 3⟩] } },
     { at_ := ⟨0, 20, 1⟩, engine := 1, set_ := 0, fa := .bf16, fb := .bf16, k := 32, a := 0, b := 4096, sa := none, sb := none, out := none },
     { die := 0, q := 9, cmd := { op := 1, flags := 0, entry := 0, tag := 7, image := 0, mask := 0x100000, arg := 0, seed := 0, timeout := 0, threads := 4, head := 1, born := 0 }, start := 0, started := true },
     threadInit
     ({ die := 0, q := 9, cmd := { op := 1, flags := 0, entry := 0, tag := 7, image := 0, mask := 0x100000, arg := 0, seed := 0, timeout := 0, threads := 4, head := 1, born := 0 }, start := 0, started := true })
     20 1, ⟨0, 20, 1, 0, 1, List.replicate 1024 3⟩, by decide +kernel⟩,
   ⟨{ (((((((State.reset.set (LKS_CORE_STATE 0 20) 3).set (LKS_Q_CTRL_ENABLE 0 9) 1).set (LKS_Q_CTRL_SIZE_LOG2 0 9) 4).set (LKS_Q_CTRL_VEC 0 9) 65).set CLK_READY_PLL_MEM 1).set CLK_READY_PLL_CORE 1)) with lks := { (((((((State.reset.set (LKS_CORE_STATE 0 20) 3).set (LKS_Q_CTRL_ENABLE 0 9) 1).set (LKS_Q_CTRL_SIZE_LOG2 0 9) 4).set (LKS_Q_CTRL_VEC 0 9) 65).set CLK_READY_PLL_MEM 1).set CLK_READY_PLL_CORE 1)).lks with jobs := [{ die := 0, q := 9, cmd := { op := 1, flags := 0, entry := 0, tag := 7, image := 0, mask := 0x100000, arg := 0, seed := 0, timeout := 0, threads := 4, head := 1, born := 0 }, start := 0, started := true }] } },
     { at_ := ⟨0, 20, 1⟩, engine := 1, set_ := 0, fa := .bf16, fb := .bf16, k := 32, a := 0, b := 4096, sa := none, sb := none, out := some 8192 },
     { die := 0, q := 9, cmd := { op := 1, flags := 0, entry := 0, tag := 7, image := 0, mask := 0x100000, arg := 0, seed := 0, timeout := 0, threads := 4, head := 1, born := 0 }, start := 0, started := true },
     threadInit
     ({ die := 0, q := 9, cmd := { op := 1, flags := 0, entry := 0, tag := 7, image := 0, mask := 0x100000, arg := 0, seed := 0, timeout := 0, threads := 4, head := 1, born := 0 }, start := 0, started := true })
     20 1, 8192, 0x10A002000, .sram 0 20, by decide +kernel⟩,
   ⟨{ (((((((State.reset.set (LKS_CORE_STATE 0 20) 3).set (LKS_Q_CTRL_ENABLE 0 9) 1).set (LKS_Q_CTRL_SIZE_LOG2 0 9) 4).set (LKS_Q_CTRL_VEC 0 9) 65).set CLK_READY_PLL_MEM 1).set CLK_READY_PLL_CORE 1)) with lks := { (((((((State.reset.set (LKS_CORE_STATE 0 20) 3).set (LKS_Q_CTRL_ENABLE 0 9) 1).set (LKS_Q_CTRL_SIZE_LOG2 0 9) 4).set (LKS_Q_CTRL_VEC 0 9) 65).set CLK_READY_PLL_MEM 1).set CLK_READY_PLL_CORE 1)).lks with jobs := [{ die := 0, q := 9, cmd := { op := 1, flags := 0, entry := 0, tag := 7, image := 0, mask := 0x100000, arg := 0, seed := 0, timeout := 0, threads := 4, head := 1, born := 0 }, start := 0, started := true }] } },
     { at_ := ⟨0, 20, 1⟩, engine := 1, set_ := 0, fa := .bf16, fb := .int8, k := 32, a := 0, b := 4096, sa := none, sb := none, out := none },
     { die := 0, q := 9, cmd := { op := 1, flags := 0, entry := 0, tag := 7, image := 0, mask := 0x100000, arg := 0, seed := 0, timeout := 0, threads := 4, head := 1, born := 0 }, start := 0, started := true },
     threadInit
     ({ die := 0, q := 9, cmd := { op := 1, flags := 0, entry := 0, tag := 7, image := 0, mask := 0x100000, arg := 0, seed := 0, timeout := 0, threads := 4, head := 1, born := 0 }, start := 0, started := true })
     20 1, by decide +kernel⟩,
   ⟨{ (((((((State.reset.set (LKS_CORE_STATE 0 20) 3).set (LKS_Q_CTRL_ENABLE 0 9) 1).set (LKS_Q_CTRL_SIZE_LOG2 0 9) 4).set (LKS_Q_CTRL_VEC 0 9) 65).set CLK_READY_PLL_MEM 1).set CLK_READY_PLL_CORE 1)) with lks := { (((((((State.reset.set (LKS_CORE_STATE 0 20) 3).set (LKS_Q_CTRL_ENABLE 0 9) 1).set (LKS_Q_CTRL_SIZE_LOG2 0 9) 4).set (LKS_Q_CTRL_VEC 0 9) 65).set CLK_READY_PLL_MEM 1).set CLK_READY_PLL_CORE 1)).lks with jobs := [{ die := 0, q := 9, cmd := { op := 1, flags := 0, entry := 0, tag := 7, image := 0, mask := 0x100000, arg := 0, seed := 0, timeout := 0, threads := 4, head := 1, born := 0 }, start := 0, started := true }] } },
     { at_ := ⟨0, 20, 1⟩, engine := 1, set_ := 0, fa := .bf16, fb := .bf16, k := 33, a := 0, b := 4096, sa := none, sb := none, out := none },
     { die := 0, q := 9, cmd := { op := 1, flags := 0, entry := 0, tag := 7, image := 0, mask := 0x100000, arg := 0, seed := 0, timeout := 0, threads := 4, head := 1, born := 0 }, start := 0, started := true },
     threadInit
     ({ die := 0, q := 9, cmd := { op := 1, flags := 0, entry := 0, tag := 7, image := 0, mask := 0x100000, arg := 0, seed := 0, timeout := 0, threads := 4, head := 1, born := 0 }, start := 0, started := true })
     20 1, by decide +kernel⟩,
   ⟨{ (((((((State.reset.set (LKS_CORE_STATE 0 20) 3).set (LKS_Q_CTRL_ENABLE 0 9) 1).set (LKS_Q_CTRL_SIZE_LOG2 0 9) 4).set (LKS_Q_CTRL_VEC 0 9) 65).set CLK_READY_PLL_MEM 1).set CLK_READY_PLL_CORE 1)) with lks := { (((((((State.reset.set (LKS_CORE_STATE 0 20) 3).set (LKS_Q_CTRL_ENABLE 0 9) 1).set (LKS_Q_CTRL_SIZE_LOG2 0 9) 4).set (LKS_Q_CTRL_VEC 0 9) 65).set CLK_READY_PLL_MEM 1).set CLK_READY_PLL_CORE 1)).lks with jobs := [{ die := 0, q := 9, cmd := { op := 1, flags := 0, entry := 0, tag := 7, image := 0, mask := 0x100000, arg := 0, seed := 0, timeout := 0, threads := 4, head := 1, born := 0 }, start := 0, started := true }] } },
     { at_ := ⟨0, 20, 1⟩, engine := 1, set_ := 0, fa := .bf16, fb := .bf16, k := 32, a := 0, b := 0x600000, sa := none, sb := none, out := none },
     { die := 0, q := 9, cmd := { op := 1, flags := 0, entry := 0, tag := 7, image := 0, mask := 0x100000, arg := 0, seed := 0, timeout := 0, threads := 4, head := 1, born := 0 }, start := 0, started := true },
     threadInit
     ({ die := 0, q := 9, cmd := { op := 1, flags := 0, entry := 0, tag := 7, image := 0, mask := 0x100000, arg := 0, seed := 0, timeout := 0, threads := 4, head := 1, born := 0 }, start := 0, started := true })
     20 1, (0x600000, 2048), by decide +kernel⟩,
   ⟨{ (((((((State.reset.set (LKS_CORE_STATE 0 20) 3).set (LKS_Q_CTRL_ENABLE 0 9) 1).set (LKS_Q_CTRL_SIZE_LOG2 0 9) 4).set (LKS_Q_CTRL_VEC 0 9) 65).set CLK_READY_PLL_MEM 1).set CLK_READY_PLL_CORE 1)) with lks := { (((((((State.reset.set (LKS_CORE_STATE 0 20) 3).set (LKS_Q_CTRL_ENABLE 0 9) 1).set (LKS_Q_CTRL_SIZE_LOG2 0 9) 4).set (LKS_Q_CTRL_VEC 0 9) 65).set CLK_READY_PLL_MEM 1).set CLK_READY_PLL_CORE 1)).lks with jobs := [{ die := 0, q := 9, cmd := { op := 1, flags := 0, entry := 0, tag := 7, image := 0, mask := 0x100000, arg := 0, seed := 0, timeout := 0, threads := 4, head := 1, born := 0 }, start := 0, started := true }], poison := [0x10A001000 / 64] } },
     { at_ := ⟨0, 20, 1⟩, engine := 1, set_ := 0, fa := .bf16, fb := .bf16, k := 32, a := 0, b := 4096, sa := none, sb := none, out := none },
     { die := 0, q := 9, cmd := { op := 1, flags := 0, entry := 0, tag := 7, image := 0, mask := 0x100000, arg := 0, seed := 0, timeout := 0, threads := 4, head := 1, born := 0 }, start := 0, started := true },
     threadInit
     ({ die := 0, q := 9, cmd := { op := 1, flags := 0, entry := 0, tag := 7, image := 0, mask := 0x100000, arg := 0, seed := 0, timeout := 0, threads := 4, head := 1, born := 0 }, start := 0, started := true })
     20 1, (4096, 2048), by decide +kernel⟩,
   ⟨State.reset,
     { at_ := ⟨0, 20, 1⟩, engine := 1, set_ := 0, fa := .bf16, fb := .bf16, k := 32, a := 0, b := 4096, sa := none, sb := none, out := none },
     by decide +kernel⟩,
   ⟨{ (((((((State.reset.set (LKS_CORE_STATE 0 20) 3).set (LKS_Q_CTRL_ENABLE 0 9) 1).set (LKS_Q_CTRL_SIZE_LOG2 0 9) 4).set (LKS_Q_CTRL_VEC 0 9) 65).set CLK_READY_PLL_MEM 1).set CLK_READY_PLL_CORE 1)) with lks := { (((((((State.reset.set (LKS_CORE_STATE 0 20) 3).set (LKS_Q_CTRL_ENABLE 0 9) 1).set (LKS_Q_CTRL_SIZE_LOG2 0 9) 4).set (LKS_Q_CTRL_VEC 0 9) 65).set CLK_READY_PLL_MEM 1).set CLK_READY_PLL_CORE 1)).lks with jobs := [{ die := 0, q := 9, cmd := { op := 1, flags := 0, entry := 0, tag := 7, image := 0, mask := 0x100000, arg := 0, seed := 0, timeout := 0, threads := 4, head := 1, born := 0 }, start := 0, started := true }] } },
     { at_ := ⟨0, 20, 1⟩, fmt := .fp32, n := 2, a := 10, b := 12, c := 14, d := 16, mode := .rne },
     { die := 0, q := 9, cmd := { op := 1, flags := 0, entry := 0, tag := 7, image := 0, mask := 0x100000, arg := 0, seed := 0, timeout := 0, threads := 4, head := 1, born := 0 }, start := 0, started := true },
     threadInit
     ({ die := 0, q := 9, cmd := { op := 1, flags := 0, entry := 0, tag := 7, image := 0, mask := 0x100000, arg := 0, seed := 0, timeout := 0, threads := 4, head := 1, born := 0 }, start := 0, started := true })
     20 1, by decide +kernel⟩,
   ⟨{ (((((((State.reset.set (LKS_CORE_STATE 0 20) 3).set (LKS_Q_CTRL_ENABLE 0 9) 1).set (LKS_Q_CTRL_SIZE_LOG2 0 9) 4).set (LKS_Q_CTRL_VEC 0 9) 65).set CLK_READY_PLL_MEM 1).set CLK_READY_PLL_CORE 1)) with lks := { (((((((State.reset.set (LKS_CORE_STATE 0 20) 3).set (LKS_Q_CTRL_ENABLE 0 9) 1).set (LKS_Q_CTRL_SIZE_LOG2 0 9) 4).set (LKS_Q_CTRL_VEC 0 9) 65).set CLK_READY_PLL_MEM 1).set CLK_READY_PLL_CORE 1)).lks with jobs := [{ die := 0, q := 9, cmd := { op := 1, flags := 0, entry := 0, tag := 7, image := 0, mask := 0x100000, arg := 0, seed := 0, timeout := 0, threads := 4, head := 1, born := 0 }, start := 0, started := true }] } },
     { at_ := ⟨0, 20, 1⟩, fmt := .bf16, n := 2, a := 10, b := 12, c := 14, d := 16, mode := .sr },
     { die := 0, q := 9, cmd := { op := 1, flags := 0, entry := 0, tag := 7, image := 0, mask := 0x100000, arg := 0, seed := 0, timeout := 0, threads := 4, head := 1, born := 0 }, start := 0, started := true },
     threadInit
     ({ die := 0, q := 9, cmd := { op := 1, flags := 0, entry := 0, tag := 7, image := 0, mask := 0x100000, arg := 0, seed := 0, timeout := 0, threads := 4, head := 1, born := 0 }, start := 0, started := true })
     20 1, by decide +kernel⟩,
   ⟨{ (((((((State.reset.set (LKS_CORE_STATE 0 20) 3).set (LKS_Q_CTRL_ENABLE 0 9) 1).set (LKS_Q_CTRL_SIZE_LOG2 0 9) 4).set (LKS_Q_CTRL_VEC 0 9) 65).set CLK_READY_PLL_MEM 1).set CLK_READY_PLL_CORE 1)) with lks := { (((((((State.reset.set (LKS_CORE_STATE 0 20) 3).set (LKS_Q_CTRL_ENABLE 0 9) 1).set (LKS_Q_CTRL_SIZE_LOG2 0 9) 4).set (LKS_Q_CTRL_VEC 0 9) 65).set CLK_READY_PLL_MEM 1).set CLK_READY_PLL_CORE 1)).lks with jobs := [{ die := 0, q := 9, cmd := { op := 1, flags := 0, entry := 0, tag := 7, image := 0, mask := 0x100000, arg := 0, seed := 0, timeout := 0, threads := 4, head := 1, born := 0 }, start := 0, started := true }] } },
     { at_ := ⟨0, 20, 1⟩, fmt := .int8, n := 2, a := 10, b := 12, c := 14, d := 16, mode := .rne },
     { die := 0, q := 9, cmd := { op := 1, flags := 0, entry := 0, tag := 7, image := 0, mask := 0x100000, arg := 0, seed := 0, timeout := 0, threads := 4, head := 1, born := 0 }, start := 0, started := true },
     threadInit
     ({ die := 0, q := 9, cmd := { op := 1, flags := 0, entry := 0, tag := 7, image := 0, mask := 0x100000, arg := 0, seed := 0, timeout := 0, threads := 4, head := 1, born := 0 }, start := 0, started := true })
     20 1, by decide +kernel⟩,
   ⟨{ (((((((State.reset.set (LKS_CORE_STATE 0 20) 3).set (LKS_Q_CTRL_ENABLE 0 9) 1).set (LKS_Q_CTRL_SIZE_LOG2 0 9) 4).set (LKS_Q_CTRL_VEC 0 9) 65).set CLK_READY_PLL_MEM 1).set CLK_READY_PLL_CORE 1)) with lks := { (((((((State.reset.set (LKS_CORE_STATE 0 20) 3).set (LKS_Q_CTRL_ENABLE 0 9) 1).set (LKS_Q_CTRL_SIZE_LOG2 0 9) 4).set (LKS_Q_CTRL_VEC 0 9) 65).set CLK_READY_PLL_MEM 1).set CLK_READY_PLL_CORE 1)).lks with jobs := [{ die := 0, q := 9, cmd := { op := 1, flags := 0, entry := 0, tag := 7, image := 0, mask := 0x100000, arg := 0, seed := 0, timeout := 0, threads := 4, head := 1, born := 0 }, start := 0, started := true }] } },
     ⟨0, 20, 1⟩,
     { die := 0, q := 9, cmd := { op := 1, flags := 0, entry := 0, tag := 7, image := 0, mask := 0x100000, arg := 0, seed := 0, timeout := 0, threads := 4, head := 1, born := 0 }, start := 0, started := true },
     threadInit
     ({ die := 0, q := 9, cmd := { op := 1, flags := 0, entry := 0, tag := 7, image := 0, mask := 0x100000, arg := 0, seed := 0, timeout := 0, threads := 4, head := 1, born := 0 }, start := 0, started := true })
     20 1, by decide +kernel⟩,
   ⟨{ (((((((State.reset.set (LKS_CORE_STATE 0 20) 3).set (LKS_Q_CTRL_ENABLE 0 9) 1).set (LKS_Q_CTRL_SIZE_LOG2 0 9) 4).set (LKS_Q_CTRL_VEC 0 9) 65).set CLK_READY_PLL_MEM 1).set CLK_READY_PLL_CORE 1)) with lks := { (((((((State.reset.set (LKS_CORE_STATE 0 20) 3).set (LKS_Q_CTRL_ENABLE 0 9) 1).set (LKS_Q_CTRL_SIZE_LOG2 0 9) 4).set (LKS_Q_CTRL_VEC 0 9) 65).set CLK_READY_PLL_MEM 1).set CLK_READY_PLL_CORE 1)).lks with jobs := [{ die := 0, q := 9, cmd := { op := 1, flags := 0, entry := 0, tag := 7, image := 0, mask := 0x100000, arg := 0, seed := 0, timeout := 0, threads := 4, head := 1, born := 0 }, start := 0, started := true }] } },
     { at_ := ⟨0, 20, 1⟩, n := 2, src := 10, dst := 20, from_ := .fp32, to_ := .bf16, mode := .rne, sat := false, srcScale := none, dstScale := none },
     { die := 0, q := 9, cmd := { op := 1, flags := 0, entry := 0, tag := 7, image := 0, mask := 0x100000, arg := 0, seed := 0, timeout := 0, threads := 4, head := 1, born := 0 }, start := 0, started := true },
     threadInit
     ({ die := 0, q := 9, cmd := { op := 1, flags := 0, entry := 0, tag := 7, image := 0, mask := 0x100000, arg := 0, seed := 0, timeout := 0, threads := 4, head := 1, born := 0 }, start := 0, started := true })
     20 1, by decide +kernel⟩,
   ⟨{ (((((((State.reset.set (LKS_CORE_STATE 0 20) 3).set (LKS_Q_CTRL_ENABLE 0 9) 1).set (LKS_Q_CTRL_SIZE_LOG2 0 9) 4).set (LKS_Q_CTRL_VEC 0 9) 65).set CLK_READY_PLL_MEM 1).set CLK_READY_PLL_CORE 1)) with lks := { (((((((State.reset.set (LKS_CORE_STATE 0 20) 3).set (LKS_Q_CTRL_ENABLE 0 9) 1).set (LKS_Q_CTRL_SIZE_LOG2 0 9) 4).set (LKS_Q_CTRL_VEC 0 9) 65).set CLK_READY_PLL_MEM 1).set CLK_READY_PLL_CORE 1)).lks with jobs := [{ die := 0, q := 9, cmd := { op := 1, flags := 0, entry := 0, tag := 7, image := 0, mask := 0x100000, arg := 0, seed := 0, timeout := 0, threads := 4, head := 1, born := 0 }, start := 0, started := true }] } },
     { at_ := ⟨0, 20, 1⟩, n := 2, src := 10, dst := 20, from_ := .e4m3, to_ := .fp32, mode := .rne, sat := false, srcScale := some 3, dstScale := none },
     { die := 0, q := 9, cmd := { op := 1, flags := 0, entry := 0, tag := 7, image := 0, mask := 0x100000, arg := 0, seed := 0, timeout := 0, threads := 4, head := 1, born := 0 }, start := 0, started := true },
     threadInit
     ({ die := 0, q := 9, cmd := { op := 1, flags := 0, entry := 0, tag := 7, image := 0, mask := 0x100000, arg := 0, seed := 0, timeout := 0, threads := 4, head := 1, born := 0 }, start := 0, started := true })
     20 1, 3, by decide +kernel⟩,
   ⟨{ (((((((State.reset.set (LKS_CORE_STATE 0 20) 3).set (LKS_Q_CTRL_ENABLE 0 9) 1).set (LKS_Q_CTRL_SIZE_LOG2 0 9) 4).set (LKS_Q_CTRL_VEC 0 9) 65).set CLK_READY_PLL_MEM 1).set CLK_READY_PLL_CORE 1)) with lks := { (((((((State.reset.set (LKS_CORE_STATE 0 20) 3).set (LKS_Q_CTRL_ENABLE 0 9) 1).set (LKS_Q_CTRL_SIZE_LOG2 0 9) 4).set (LKS_Q_CTRL_VEC 0 9) 65).set CLK_READY_PLL_MEM 1).set CLK_READY_PLL_CORE 1)).lks with jobs := [{ die := 0, q := 9, cmd := { op := 1, flags := 0, entry := 0, tag := 7, image := 0, mask := 0x100000, arg := 0x3F8000003F800000, seed := 0, timeout := 0, threads := 4, head := 1, born := 0 }, start := 0, started := true }] } },
     { at_ := ⟨0, 20, 1⟩, n := 2, src := 2, dst := 20, from_ := .fp32, to_ := .e4m3, mode := .rne, sat := false, srcScale := none, dstScale := some 3 },
     { die := 0, q := 9, cmd := { op := 1, flags := 0, entry := 0, tag := 7, image := 0, mask := 0x100000, arg := 0x3F8000003F800000, seed := 0, timeout := 0, threads := 4, head := 1, born := 0 }, start := 0, started := true },
     threadInit
     ({ die := 0, q := 9, cmd := { op := 1, flags := 0, entry := 0, tag := 7, image := 0, mask := 0x100000, arg := 0x3F8000003F800000, seed := 0, timeout := 0, threads := 4, head := 1, born := 0 }, start := 0, started := true })
     20 1, 3, 119, by decide +kernel⟩,
   ⟨{ (((((((State.reset.set (LKS_CORE_STATE 0 20) 3).set (LKS_Q_CTRL_ENABLE 0 9) 1).set (LKS_Q_CTRL_SIZE_LOG2 0 9) 4).set (LKS_Q_CTRL_VEC 0 9) 65).set CLK_READY_PLL_MEM 1).set CLK_READY_PLL_CORE 1)) with lks := { (((((((State.reset.set (LKS_CORE_STATE 0 20) 3).set (LKS_Q_CTRL_ENABLE 0 9) 1).set (LKS_Q_CTRL_SIZE_LOG2 0 9) 4).set (LKS_Q_CTRL_VEC 0 9) 65).set CLK_READY_PLL_MEM 1).set CLK_READY_PLL_CORE 1)).lks with jobs := [{ die := 0, q := 9, cmd := { op := 1, flags := 0, entry := 0, tag := 7, image := 0, mask := 0x100000, arg := 0, seed := 0, timeout := 0, threads := 4, head := 1, born := 0 }, start := 0, started := true }] } },
     { at_ := ⟨0, 20, 1⟩, n := 2, src := 10, dst := 20, from_ := .fp32, to_ := .bf16, mode := .rne, sat := false, srcScale := none, dstScale := some 3 },
     { die := 0, q := 9, cmd := { op := 1, flags := 0, entry := 0, tag := 7, image := 0, mask := 0x100000, arg := 0, seed := 0, timeout := 0, threads := 4, head := 1, born := 0 }, start := 0, started := true },
     threadInit
     ({ die := 0, q := 9, cmd := { op := 1, flags := 0, entry := 0, tag := 7, image := 0, mask := 0x100000, arg := 0, seed := 0, timeout := 0, threads := 4, head := 1, born := 0 }, start := 0, started := true })
     20 1, by decide +kernel⟩,
   ⟨State.reset, { at_ := ⟨0, 20, 1⟩, fmt := .fp32, n := 2, a := 10, b := 12, c := 14, d := 16, mode := .rne },
     by decide +kernel⟩,
   ⟨State.reset,
     { at_ := ⟨0, 20, 1⟩, n := 2, src := 10, dst := 20, from_ := .fp32, to_ := .bf16, mode := .rne, sat := false, srcScale := none, dstScale := none },
     by decide +kernel⟩,
   ⟨State.reset, ⟨0, 20, 1⟩, by decide +kernel⟩⟩

theorem witness_CoreCommands :
    (∃ (s : State) (d : Fin 2) (c : Fin 64), s.pins.powered = true ∧ s.dieOk d = true ∧ s.lks.jobs = [] ∧
      s.lks.train.burst = false ∧ s.lks.queues = List.replicate 128 {} ∧ s.coreSt d c = cWaking ∧ s.lks.cores.length =
      128) ∧
    (∃ (s : State) (d : Fin 2) (c : Fin 64), s.pins.powered = true ∧ s.coreSt d c = cWaking) ∧
    (∃ (s : State) (d : Fin 2) (c : Fin 64), s.pins.powered = true ∧ s.coreSt d c ≠ cWaking) ∧
    (∃ (s : State) (d : Fin 2) (c : Fin 64), s.pins.powered = true ∧ s.dieOk d = true ∧ s.lks.jobs = [] ∧
      s.lks.train.burst = false ∧ s.lks.queues = List.replicate 128 {} ∧ s.coreSt d c = cDrain ∧ (s.core d c).gate =
      false ∧ s.lks.cores.length = 128) ∧
    (∃ (s : State) (d : Fin 2) (c : Fin 64), s.pins.powered = true ∧ s.dieOk d = true ∧ s.lks.jobs = [] ∧
      s.lks.train.burst = false ∧ s.lks.queues = List.replicate 128 {} ∧ s.coreSt d c = cDrain ∧ (s.core d c).gate =
      true ∧ s.lks.cores.length = 128 ∧ bitOf (s.rdN CLK_GATE_EFF) (coreDomain d c) = true) ∧
    (∃ (s : State) (d : Fin 2) (c : Fin 64), s.pins.powered = true ∧ ((s.coreSt d c ≠ cDrain ∨ (s.jobOn d c).isSome =
      true))) ∧
    (∃ (s : State) (d : Fin 2) (c : Fin 64), s.pins.powered = true ∧ s.coreSt d c = cIdle ∧ s.get (LKS_IDLE_CFG_IDLE_US d)
      ≠ 0 ∧ (s.core d c).since + 100 * s.get (LKS_IDLE_CFG_IDLE_US d) ≤ s.elapsed ∧ s.jobHolds d c = false ∧
      s.burstHolds d c = false ∧ s.lks.cores.length = 128) ∧
    (∃ (s : State) (d : Fin 2) (c : Fin 64), s.pins.powered = true ∧ ((s.coreSt d c ≠ cIdle ∨ s.get (LKS_IDLE_CFG_IDLE_US
      d) = 0 ∨ s.elapsed < (s.core d c).since + 100 * s.get (LKS_IDLE_CFG_IDLE_US d) ∨ s.jobHolds d c = true ∨
      s.burstHolds d c = true))) ∧
    (∃ (s : State) (d : Fin 2) (c : Fin 64), s.pins.powered = true ∧ s.dieOk d = true ∧ s.coreSt d c ≠ cFailed) ∧
    (∃ (s : State) (d : Fin 2) (c : Fin 64) (j : LJob), s.pins.powered = true ∧ s.dieOk d = true ∧ s.coreSt d c ≠ cFailed
      ∧ s.lks.jobs.find? (fun e => e.die == d.val && e.cmd.mask.testBit c) = some j) ∧
    (∃ (s : State) (d : Fin 2) (c : Fin 64), s.pins.powered = true ∧ ((s.dieOk d = false ∨ s.coreSt d c = cFailed))) ∧
    (∃ (s : State) (d : Fin 2) (c : Fin 64), s.pins.powered = true ∧ (((s.core d c).spare = 0 ∨ s.coreSt d c ≠ cCopy ∧
      s.coreSt d c ≠ cFailed))) ∧
    (∃ (s : State) (d : Fin 2) (c : Fin 64) (k : Nat), s.pins.powered = true ∧ s.dieOk d = true ∧ (s.core d c).spare = k ∧
      64 ≤ k ∧ k < 68 ∧ s.phys d c < 64 ∧ s.lks.cores.length = 128 ∧ s.lks.jobs = [] ∧ s.lks.train.burst = false ∧
      s.lks.queues = List.replicate 128 {} ∧ s.coreSt d c = cCopy ∧ (s.core d c).before = cIdle) ∧
    (∃ (s : State) (d : Fin 2) (c : Fin 64) (k : Nat), s.pins.powered = true ∧ s.dieOk d = true ∧ (s.core d c).spare = k ∧
      64 ≤ k ∧ k < 68 ∧ s.phys d c < 64 ∧ s.lks.cores.length = 128 ∧ s.lks.jobs = [] ∧ s.lks.train.burst = false ∧
      s.lks.queues = List.replicate 128 {} ∧ s.coreSt d c = cFailed ∧ (s.core d c).gate = false) ∧
    (∃ (s : State) (d : Fin 2) (c : Fin 64) (k : Nat), s.pins.powered = true ∧ s.dieOk d = true ∧ (s.core d c).spare = k ∧
      64 ≤ k ∧ k < 68 ∧ s.phys d c < 64 ∧ s.lks.cores.length = 128 ∧ ((s.coreSt d c = cCopy ∨ s.coreSt d c =
      cFailed))) ∧
    (∃ (s : State) (d : Fin 2), s.pins.powered = true ∧ s.dieOk d = false) ∧
    (∃ (s : State) (d : Fin 2) (p : Nat) (e : Nat), s.pins.powered = true ∧ s.dieOk d = true ∧ s.get
      (LKS_PWR_STATUS_HOST_DUTY d) ≤ 16 ∧ s.get (LKS_PWR_STATUS_FCST_DUTY d) ≤ 16 ∧ (if (s.lks.dies.getD d {}).hot =
      true then 0 else min (min 150 (s.get (LKS_PWR_CAP_HOST_CAP d))) (min e (s.get BRD_COOL_LKS_CAP))) < p) ∧
    (∃ (s : State) (d : Fin 2) (p : Nat) (e : Nat), s.pins.powered = true ∧ s.dieOk d = true ∧ s.get
      (LKS_PWR_STATUS_HOST_DUTY d) ≤ 16 ∧ s.get (LKS_PWR_STATUS_FCST_DUTY d) ≤ 16 ∧ 100 * p ≤ 95 * (if
      (s.lks.dies.getD d {}).hot = true then 0 else min (min 150 (s.get (LKS_PWR_CAP_HOST_CAP d))) (min e (s.get
      BRD_COOL_LKS_CAP))) ∧ p < (if (s.lks.dies.getD d {}).hot = true then 0 else min (min 150 (s.get
      (LKS_PWR_CAP_HOST_CAP d))) (min e (s.get BRD_COOL_LKS_CAP)))) ∧
    (∃ (s : State) (d : Fin 2) (p : Nat) (e : Nat), s.pins.powered = true ∧ s.dieOk d = true ∧ s.get
      (LKS_PWR_STATUS_HOST_DUTY d) ≤ 16 ∧ s.get (LKS_PWR_STATUS_FCST_DUTY d) ≤ 16 ∧ p ≤ (if (s.lks.dies.getD d {}).hot
      = true then 0 else min (min 150 (s.get (LKS_PWR_CAP_HOST_CAP d))) (min e (s.get BRD_COOL_LKS_CAP))) ∧ ((95 * (if
      (s.lks.dies.getD d {}).hot = true then 0 else min (min 150 (s.get (LKS_PWR_CAP_HOST_CAP d))) (min e (s.get
      BRD_COOL_LKS_CAP))) < 100 * p ∨ (if (s.lks.dies.getD d {}).hot = true then 0 else min (min 150 (s.get
      (LKS_PWR_CAP_HOST_CAP d))) (min e (s.get BRD_COOL_LKS_CAP))) ≤ p))) ∧
    (∃ (s : State) (d : Fin 2), s.pins.powered = true ∧ s.dieOk d = true ∧ s.get (LKS_PWR_STATUS_HOST_DUTY d) = 0 ∧
      s.isSet (LKS_DIE_STATUS_SUSPENDED d) = false ∧ (∃ k ∈ (s.lks.dies.getD d {}).zeroSince, k + tickMs ≤ s.elapsed)
      ∧ s.get (LKS_PWR_STATUS_CAP_EFF d) < s.get (LKS_PWR_STATUS_POWER d)) ∧
    (∃ (s : State) (d : Fin 2), s.pins.powered = true ∧ ((s.dieOk d = false ∨ s.get (LKS_PWR_STATUS_HOST_DUTY d) ≠ 0 ∨
      s.isSet (LKS_DIE_STATUS_SUSPENDED d) = true ∨ s.get (LKS_PWR_STATUS_POWER d) ≤ s.get (LKS_PWR_STATUS_CAP_EFF d)
      ∨ ∀ k ∈ (s.lks.dies.getD d {}).zeroSince, s.elapsed < k + tickMs))) ∧
    (∃ (s : State) (d : Fin 2), s.pins.powered = true ∧ ((s.isSet (LKS_DIE_STATUS_SUSPENDED d) = false ∨ ∀ k ∈
      (s.lks.dies.getD d {}).coolSince, s.elapsed < k + 10 * tickMs))) ∧
    (∃ (s : State) (d : Fin 2), s.pins.powered = true ∧ s.dieOk d = true ∧ s.isSet (LKS_DIE_STATUS_SUSPENDED d) = true ∧
      (∃ k ∈ (s.lks.dies.getD d {}).coolSince, k + 10 * tickMs ≤ s.elapsed) ∧ s.lks.jobs = [] ∧ s.lks.train.burst =
      false ∧ s.lks.queues = List.replicate 128 {}) ∧
    (∃ (s : State) (d : Fin 2) (c : Fin 64), s.pins.powered = true ∧ s.dieOk d = true ∧ ((s.coreSt d c = cIdle ∨ s.coreSt
      d c = cRun ∨ s.coreSt d c = cDrain))) ∧
    (∃ (s : State) (d : Fin 2) (c : Fin 64), s.pins.powered = true ∧ s.dieOk d = true ∧ ((s.coreSt d c = cIdle ∨ s.coreSt
      d c = cRun ∨ s.coreSt d c = cDrain))) ∧
    (∃ (s : State) (d : Fin 2) (c : Fin 64), s.pins.powered = true ∧ ((s.dieOk d = false ∨ s.coreSt d c ≠ cIdle ∧ s.coreSt
      d c ≠ cRun ∧ s.coreSt d c ≠ cDrain))) :=
  ⟨⟨((State.reset.set (LKS_CORE_STATE 0 20) 1)).setCore 0 20 { gate := true }, 0, 20, by decide +kernel⟩,
   ⟨(State.reset.set (LKS_CORE_STATE 0 20) 1), 0, 20, by decide⟩,
   ⟨(State.reset.set (LKS_CORE_STATE 0 20) 2), 0, 20, by decide⟩,
   ⟨(State.reset.set (LKS_CORE_STATE 0 20) 4), 0, 20, by decide +kernel⟩,
   ⟨(((State.reset.set (LKS_CORE_STATE 0 20) 4).set ⟨CLK_GATE_EFF, 0, 32⟩ 0xFFFF)).setCore 0 20 { gate := true }, 0, 20,
     by decide +kernel⟩,
   ⟨(State.reset.set (LKS_CORE_STATE 0 20) 3), 0, 20, by decide⟩,
   ⟨{ ((State.reset.set (LKS_CORE_STATE 0 20) 2).set (LKS_IDLE_CFG_IDLE_US 0) 100) with elapsed := 20000 }, 0, 20,
     by decide⟩,
   ⟨(State.reset.set (LKS_CORE_STATE 0 20) 3), 0, 20, by decide⟩,
   ⟨(State.reset.set (LKS_CORE_STATE 0 20) 3), 0, 20, by decide⟩,
   ⟨{ ((State.reset.set (LKS_CORE_STATE 0 20) 3)) with lks := { ((State.reset.set (LKS_CORE_STATE 0 20) 3)).lks with jobs := [{ die := 0, q := 9, cmd := { op := 1, flags := 0, entry := 0, tag := 7, image := 0, mask := 0x100000, arg := 0, seed := 0, timeout := 0, threads := 4, head := 1, born := 0 }, start := 0, started := true }] } },
     0, 20,
     { die := 0, q := 9, cmd := { op := 1, flags := 0, entry := 0, tag := 7, image := 0, mask := 0x100000, arg := 0, seed := 0, timeout := 0, threads := 4, head := 1, born := 0 }, start := 0, started := true },
     by decide +kernel⟩,
   ⟨(State.reset.set (LKS_CORE_STATE 0 20) 7), 0, 20, by decide⟩,
   ⟨(State.reset.set (LKS_CORE_STATE 0 20) 6), 0, 20, by decide⟩,
   ⟨((((State.reset.set (LKS_CORE_STATE 0 20) 6).set (LKS_CORE_PHYS 0 20) 20).set (LKS_DIE_STATUS_SPARES_FREE 0)
     4)).setCore 0 20 { spare := 65, before := cIdle, gate := false, image := some 5 }, 0, 20, 65, by decide +kernel⟩,
   ⟨((((State.reset.set (LKS_CORE_STATE 0 20) 7).set (LKS_CORE_PHYS 0 20) 20).set (LKS_DIE_STATUS_SPARES_FREE 0)
     4)).setCore 0 20 { spare := 65, before := cIdle, gate := false, image := some 5 }, 0, 20, 65, by decide +kernel⟩,
   ⟨((((State.reset.set (LKS_CORE_STATE 0 20) 6).set (LKS_CORE_PHYS 0 20) 20).set (LKS_DIE_STATUS_SPARES_FREE 0)
     4)).setCore 0 20 { spare := 65, before := cIdle, gate := false, image := some 5 }, 0, 20, 65, by decide +kernel⟩,
   ⟨{ State.reset with otp := { State.reset.otp with variant := .control } }, 1, by decide⟩,
   ⟨((((State.reset.set (LKS_PWR_STATUS_HOST_DUTY 0) 5).set (LKS_PWR_STATUS_FCST_DUTY 0) 9).set (LKS_PWR_CAP_HOST_CAP 0)
     150).set BRD_COOL_LKS_CAP 150), 0, 160, 140, by decide⟩,
   ⟨((((State.reset.set (LKS_PWR_STATUS_HOST_DUTY 0) 5).set (LKS_PWR_STATUS_FCST_DUTY 0) 16).set (LKS_PWR_CAP_HOST_CAP 0)
     150).set BRD_COOL_LKS_CAP 150), 0, 60, 140, by decide⟩,
   ⟨((((State.reset.set (LKS_PWR_STATUS_HOST_DUTY 0) 5).set (LKS_PWR_STATUS_FCST_DUTY 0) 9).set (LKS_PWR_CAP_HOST_CAP 0)
     150).set BRD_COOL_LKS_CAP 150), 0, 139, 140, by decide⟩,
   ⟨{ { (((((State.reset.set (LKS_CORE_STATE 0 20) 3).set (LKS_PWR_STATUS_HOST_DUTY 0) 0).set (LKS_PWR_STATUS_POWER 0) 160).set (LKS_PWR_STATUS_CAP_EFF 0) 100)) with lks := { (((((State.reset.set (LKS_CORE_STATE 0 20) 3).set (LKS_PWR_STATUS_HOST_DUTY 0) 0).set (LKS_PWR_STATUS_POWER 0) 160).set (LKS_PWR_STATUS_CAP_EFF 0) 100)).lks with dies := [{ zeroSince := some 0 }, {}] } } with elapsed := 200000 },
     0, by decide⟩,
   ⟨((State.reset.set (LKS_CORE_STATE 0 20) 3).set (LKS_PWR_STATUS_HOST_DUTY 0) 3), 0, by decide⟩,
   ⟨State.reset, 0, by decide⟩,
   ⟨{ { (((State.reset.set (LKS_CORE_STATE 0 20) 5).set (LKS_DIE_STATUS_SUSPENDED 0) 1)) with lks := { (((State.reset.set (LKS_CORE_STATE 0 20) 5).set (LKS_DIE_STATUS_SUSPENDED 0) 1)).lks with dies := [{ coolSince := some 0 }, {}] } } with elapsed := 2000000 },
     0, by decide⟩,
   ⟨(State.reset.set (LKS_CORE_STATE 0 20) 2), 0, 20, by decide⟩,
   ⟨(State.reset.set (LKS_CORE_STATE 0 20) 3), 0, 20, by decide⟩,
   ⟨(State.reset.set (LKS_CORE_STATE 0 20) 0), 0, 20, by decide⟩⟩

theorem witness_TieringAndBarTwoCommands :
    (∃ (s : State) (d : Fin 2) (ch : Fin 2) (tk : Bool), s.pins.powered = true ∧ s.dieOk d = true ∧ s.lks.tiers.length = 4
      ∧ (tk = true ↔ ch.val = 0) ∧ (s.clear (LKS_TIER_CTRL_START d ch)).tierCause d ch (s.rd64 (LKS_TIER_SRC_LO d ch)
      (LKS_TIER_SRC_HI d ch)) (s.rd64 (LKS_TIER_DST_LO d ch) (LKS_TIER_DST_HI d ch)) (4096 * s.get (LKS_TIER_LEN_LEN d
      ch)) = none) ∧
    (∃ (s : State) (d : Fin 2) (ch : Fin 2) (tk : Bool) (c : Nat), s.pins.powered = true ∧ s.dieOk d = true ∧ (tk = true ↔
      ch.val = 0) ∧ ((s.clear (LKS_TIER_CTRL_START d ch)).tierCause d ch (s.rd64 (LKS_TIER_SRC_LO d ch)
      (LKS_TIER_SRC_HI d ch)) (s.rd64 (LKS_TIER_DST_LO d ch) (LKS_TIER_DST_HI d ch)) (4096 * s.get (LKS_TIER_LEN_LEN d
      ch))).map Prod.fst = some c) ∧
    (∃ (s : State) (d : Fin 2), s.pins.powered = true ∧ s.dieOk d = true) ∧
    (∃ (s : State) (d : Fin 2), s.pins.powered = true ∧ s.dieOk d = false) ∧
    (∃ (s : State) (d : Fin 2) (ch : Fin 2) (tk : Bool), s.pins.powered = true ∧ s.dieOk d = true ∧ (tk = true ↔ ch.val =
      0) ∧ (s.tier d ch).active = true ∧ s.lks.tiers.length = 4) ∧
    (∃ (s : State) (d : Fin 2) (ch : Fin 2) (tk : Bool), s.pins.powered = true ∧ s.dieOk d = true ∧ (tk = true ↔ ch.val =
      0) ∧ (s.tier d ch).active = false) ∧
    (∃ (s : State) (d : Fin 2) (ch : Fin 2), s.pins.powered = true ∧ (s.tier d ch).active = true ∧ s.isSet
      (LKS_TIER_CTRL_DIRTY_RETRY d ch) = false ∧ (s.tier d ch).dirty = [] ∧ s.lks.tiers.length = 4 ∧ s.moving (s.tier
      d ch).src (s.tier d ch).len = false ∧ s.moving (s.tier d ch).dst (s.tier d ch).len = false) ∧
    (∃ (s : State) (d : Fin 2) (ch : Fin 2) (again : Bool), s.pins.powered = true ∧ (s.tier d ch).active = true ∧ s.isSet
      (LKS_TIER_CTRL_DIRTY_RETRY d ch) = true ∧ ((again = false ∨ (s.tier d ch).dirty = [])) ∧ s.lks.tiers.length = 4
      ∧ s.moving (s.tier d ch).src (s.tier d ch).len = false ∧ s.moving (s.tier d ch).dst (s.tier d ch).len = false) ∧
    (∃ (s : State) (d : Fin 2) (ch : Fin 2), s.pins.powered = true ∧ (s.tier d ch).active = true ∧ s.isSet
      (LKS_TIER_CTRL_DIRTY_RETRY d ch) = true ∧ (s.tier d ch).dirty ≠ [] ∧ s.lks.tiers.length = 4 ∧ s.moving (s.tier d
      ch).src (s.tier d ch).len = false ∧ s.moving (s.tier d ch).dst (s.tier d ch).len = false) ∧
    (∃ (s : State) (d : Fin 2) (ch : Fin 2), s.pins.powered = true ∧ (s.tier d ch).active = true ∧ s.isSet
      (LKS_TIER_CTRL_DIRTY_RETRY d ch) = false ∧ s.lks.tiers.length = 4 ∧ s.moving (s.tier d ch).src (s.tier d ch).len
      = false ∧ s.moving (s.tier d ch).dst (s.tier d ch).len = false) ∧
    (∃ (s : State) (d : Fin 2) (ch : Fin 2), s.pins.powered = true ∧ (((s.tier d ch).active = false ∨ s.moving (s.tier d
      ch).src (s.tier d ch).len = true ∨ s.moving (s.tier d ch).dst (s.tier d ch).len = true))) ∧
    (∃ (s : State) (off : Nat) (n : Fin 65) (m : LMem), s.pins.powered = true ∧ s.asleep = false ∧ s.relock = false ∧
      s.dies ≠ 0 ∧ s.isSet (LKS_BAR2_WIN_EN (off / 2 ^ 34 % 4)) = true ∧ s.moving (s.get (LKS_BAR2_WIN_BASE (off / 2 ^
      34 % 4)) * 2 ^ 34 + off % 2 ^ 34) n = false ∧ s.memSpan (s.get (LKS_BAR2_WIN_BASE (off / 2 ^ 34 % 4)) * 2 ^ 34 +
      off % 2 ^ 34) n = some m ∧ s.refusedAt .bar2 m (s.get (LKS_BAR2_WIN_BASE (off / 2 ^ 34 % 4)) * 2 ^ 34 + off % 2
      ^ 34) n.val = none ∧ s.hpprFenced m = false) ∧
    (∃ (s : State) (off : Nat) (l : List Byte) (m : LMem), s.pins.powered = true ∧ s.asleep = false ∧ s.relock = false ∧
      s.dies ≠ 0 ∧ s.isSet (LKS_BAR2_WIN_EN (off / 2 ^ 34 % 4)) = true ∧ s.moving (s.get (LKS_BAR2_WIN_BASE (off / 2 ^
      34 % 4)) * 2 ^ 34 + off % 2 ^ 34) l.length = false ∧ s.memSpan (s.get (LKS_BAR2_WIN_BASE (off / 2 ^ 34 % 4)) * 2
      ^ 34 + off % 2 ^ 34) l.length = some m ∧ s.refusedAt .bar2 m (s.get (LKS_BAR2_WIN_BASE (off / 2 ^ 34 % 4)) * 2 ^
      34 + off % 2 ^ 34) l.length = none ∧ s.hpprFenced m = false) ∧
    (∃ (s : State) (off : Nat) (k : Nat) (n : Fin 65) (m : LMem), s.pins.powered = true ∧ s.asleep = false ∧ s.relock =
      false ∧ s.dies ≠ 0 ∧ s.isSet (LKS_BAR2_WIN_EN (off / 2 ^ 34 % 4)) = true ∧ s.moving (s.get (LKS_BAR2_WIN_BASE
      (off / 2 ^ 34 % 4)) * 2 ^ 34 + off % 2 ^ 34) n = false ∧ s.memSpan (s.get (LKS_BAR2_WIN_BASE (off / 2 ^ 34 % 4))
      * 2 ^ 34 + off % 2 ^ 34) n = some m ∧ s.refusedAt .bar2 m (s.get (LKS_BAR2_WIN_BASE (off / 2 ^ 34 % 4)) * 2 ^ 34
      + off % 2 ^ 34) n = some k) ∧
    (∃ (s : State) (off : Nat) (k : Nat) (l : List Byte) (m : LMem), s.pins.powered = true ∧ s.asleep = false ∧ s.relock =
      false ∧ s.dies ≠ 0 ∧ s.isSet (LKS_BAR2_WIN_EN (off / 2 ^ 34 % 4)) = true ∧ s.moving (s.get (LKS_BAR2_WIN_BASE
      (off / 2 ^ 34 % 4)) * 2 ^ 34 + off % 2 ^ 34) l.length = false ∧ s.memSpan (s.get (LKS_BAR2_WIN_BASE (off / 2 ^
      34 % 4)) * 2 ^ 34 + off % 2 ^ 34) l.length = some m ∧ s.refusedAt .bar2 m (s.get (LKS_BAR2_WIN_BASE (off / 2 ^
      34 % 4)) * 2 ^ 34 + off % 2 ^ 34) l.length = some k) ∧
    (∃ (s : State) (off : Nat) (n : Fin 65), s.pins.powered = true ∧ s.asleep = false ∧ s.relock = false ∧ s.dies ≠ 0 ∧
      ((s.isSet (LKS_BAR2_WIN_EN (off / 2 ^ 34 % 4)) = false ∨ (s.moving (s.get (LKS_BAR2_WIN_BASE (off / 2 ^ 34 % 4))
      * 2 ^ 34 + off % 2 ^ 34) n = false ∧ s.memSpan (s.get (LKS_BAR2_WIN_BASE (off / 2 ^ 34 % 4)) * 2 ^ 34 + off % 2
      ^ 34) n = none)))) ∧
    (∃ (s : State) (off : Nat) (l : List Byte), s.pins.powered = true ∧ s.asleep = false ∧ s.relock = false ∧ s.dies ≠ 0 ∧
      ((s.isSet (LKS_BAR2_WIN_EN (off / 2 ^ 34 % 4)) = false ∨ (s.moving (s.get (LKS_BAR2_WIN_BASE (off / 2 ^ 34 % 4))
      * 2 ^ 34 + off % 2 ^ 34) l.length = false ∧ s.memSpan (s.get (LKS_BAR2_WIN_BASE (off / 2 ^ 34 % 4)) * 2 ^ 34 +
      off % 2 ^ 34) l.length = none)))) ∧
    (∃ (s : State), s.pins.powered = true ∧ s.asleep = false ∧ s.relock = true) ∧
    (∃ (s : State) (off : Nat) (n : Fin 65), s.pins.powered = true ∧ s.asleep = false ∧ s.relock = false ∧ s.isSet
      (LKS_BAR2_WIN_EN (off / 2 ^ 34 % 4)) = true ∧ s.moving (s.get (LKS_BAR2_WIN_BASE (off / 2 ^ 34 % 4)) * 2 ^ 34 +
      off % 2 ^ 34) n = true) :=
  ⟨⟨(((((State.reset.set ⟨LKS_TIER_SRC_LO 0 1, 0, 32⟩ 0).set ⟨LKS_TIER_SRC_HI 0 1, 0, 32⟩ 0x20).set ⟨LKS_TIER_DST_LO 0 1,
     0, 32⟩ 0x20000000).set ⟨LKS_TIER_DST_HI 0 1, 0, 32⟩ 0x80).set (LKS_TIER_LEN_LEN 0 1) 2), 0, 1, false, by decide⟩,
   ⟨(((((State.reset.set ⟨LKS_TIER_SRC_LO 0 1, 0, 32⟩ 16).set ⟨LKS_TIER_SRC_HI 0 1, 0, 32⟩ 0x20).set ⟨LKS_TIER_DST_LO 0
     1, 0, 32⟩ 0x20000000).set ⟨LKS_TIER_DST_HI 0 1, 0, 32⟩ 0x80).set (LKS_TIER_LEN_LEN 0 1) 2), 0, 1, false, 4,
     by decide⟩,
   ⟨State.reset, 1, by decide⟩,
   ⟨{ State.reset with otp := { State.reset.otp with variant := .control } }, 1, by decide⟩,
   ⟨(State.reset).setTier 0 1 { active := true, src := 0x2000000000, dst := 0x8020000000, len := 8192, dirty := [] }, 0,
     1, false, by decide⟩,
   ⟨State.reset, 0, 1, false, by decide⟩,
   ⟨((State.reset.set (LKS_TIER_CTRL_DIRTY_RETRY 0 1) 0)).setTier 0 1
     { active := true, src := 0x2000000000, dst := 0x8020000000, len := 8192, dirty := [] }, 0, 1, by decide⟩,
   ⟨((State.reset.set (LKS_TIER_CTRL_DIRTY_RETRY 0 1) 1)).setTier 0 1
     { active := true, src := 0x2000000000, dst := 0x8020000000, len := 8192, dirty := [1] }, 0, 1, false, by decide⟩,
   ⟨((State.reset.set (LKS_TIER_CTRL_DIRTY_RETRY 0 1) 1)).setTier 0 1
     { active := true, src := 0x2000000000, dst := 0x8020000000, len := 8192, dirty := [1] }, 0, 1, by decide⟩,
   ⟨((State.reset.set (LKS_TIER_CTRL_DIRTY_RETRY 0 1) 0)).setTier 0 1
     { active := true, src := 0x2000000000, dst := 0x8020000000, len := 8192, dirty := [1] }, 0, 1, by decide⟩,
   ⟨State.reset, 0, 1, by decide⟩,
   ⟨((State.reset.set (LKS_BAR2_WIN_EN 1) 1).set (LKS_BAR2_WIN_BASE 1) 8), 0x400000040, 4, .hbm0, by decide +kernel⟩,
   ⟨((State.reset.set (LKS_BAR2_WIN_EN 1) 1).set (LKS_BAR2_WIN_BASE 1) 8), 0x400000040, [1, 2, 3, 4], .hbm0,
     by decide +kernel⟩,
   ⟨((State.reset.set (LKS_BAR2_WIN_EN 1) 1).set (LKS_BAR2_WIN_BASE 1) 13), 0x700000000, 3, 4, .sys, by decide +kernel⟩,
   ⟨((State.reset.set (LKS_BAR2_WIN_EN 1) 1).set (LKS_BAR2_WIN_BASE 1) 13), 0x700000000, 3, [1, 2, 3, 4], .sys,
     by decide +kernel⟩,
   ⟨(State.reset.set (LKS_BAR2_WIN_EN 1) 0), 0x400000040, 4, by decide⟩,
   ⟨(State.reset.set (LKS_BAR2_WIN_EN 1) 0), 0x400000040, [1, 2], by decide⟩,
   ⟨{ ((State.reset.set CLK_STATUS_SW_BUSY 1)) with clk := { ((State.reset.set CLK_STATUS_SW_BUSY 1)).clk with switch := .pllRef 0 } },
     by decide⟩,
   ⟨(((State.reset.set (LKS_BAR2_WIN_EN 1) 1).set (LKS_BAR2_WIN_BASE 1) 8).set (RMT_KIND_STATE 4) 3), 0x400000040, 4,
     by decide⟩⟩

theorem witness_QueueCommands :
    (∃ (s : State) (d : Fin 2) (q : Fin 64), s.pins.powered = true ∧ s.dieOk d = true ∧ s.isSet (LKS_Q_CTRL_ENABLE d q) =
      true ∧ s.get (LKS_Q_PTR_SQ_HEAD d q) ≠ s.get (LKS_Q_DB_SQ_TAIL d q)) ∧
    (∃ (s : State) (d : Fin 2) (q : Fin 64), s.pins.powered = true ∧ s.dieOk d = true ∧ s.isSet (LKS_Q_CTRL_ENABLE d q) =
      true ∧ s.get (LKS_Q_PTR_SQ_HEAD d q) ≠ s.get (LKS_Q_DB_SQ_TAIL d q) ∧ (s.queue d q).held ≠ [] ∧
      s.lks.queues.length = 128 ∧ (s.queue d q).acts = []) ∧
    (∃ (s : State) (d : Fin 2) (q : Fin 64), s.pins.powered = true ∧ ((s.dieOk d = false ∨ s.isSet (LKS_Q_CTRL_ENABLE d q)
      = false ∨ s.get (LKS_Q_PTR_SQ_HEAD d q) = s.get (LKS_Q_DB_SQ_TAIL d q)))) ∧
    (∃ (s : State) (d : Fin 2) (q : Fin 64) (op : Fin 256), s.pins.powered = true ∧ s.dieOk d = true ∧ s.isSet
      (LKS_Q_CTRL_ENABLE d q) = true ∧ s.get (LKS_Q_PTR_SQ_HEAD d q) ≠ s.get (LKS_Q_DB_SQ_TAIL d q) ∧ ((op.val = 0 ∨ 5
      < op.val))) ∧
    (∃ (s : State) (d : Fin 2) (q : Fin 64), s.pins.powered = true ∧ s.dieOk d = true ∧ s.isSet (LKS_Q_CTRL_ENABLE d q) =
      true ∧ s.get (LKS_Q_PTR_SQ_HEAD d q) ≠ s.get (LKS_Q_DB_SQ_TAIL d q) ∧ s.lks.queues.length = 128 ∧ (s.queue d
      q).waiting = [] ∧ (s.queue d q).acts = [] ∧ (s.queue d q).held = [] ∧ s.cqFull d q = false ∧ tackQueue q = false
      ∧ s.qJobs d q = []) ∧
    (∃ (s : State) (d : Fin 2) (q : Fin 64) (c : SqCmd), s.pins.powered = true ∧ s.dieOk d = true ∧ s.isSet
      (LKS_Q_CTRL_ENABLE d q) = true ∧ s.get (LKS_Q_PTR_SQ_HEAD d q) ≠ s.get (LKS_Q_DB_SQ_TAIL d q) ∧
      s.lks.queues.length = 128 ∧ (s.queue d q).waiting = [] ∧ (s.queue d q).acts = [] ∧ (s.queue d q).held = [] ∧
      s.cqFull d q = false ∧ tackQueue q = false ∧ c.flags.val % 2 = 0) ∧
    (∃ (s : State) (d : Fin 2) (q : Fin 64), s.pins.powered = true ∧ s.dieOk d = true ∧ s.isSet (LKS_Q_CTRL_ENABLE d q) =
      true ∧ s.get (LKS_Q_PTR_SQ_HEAD d q) ≠ s.get (LKS_Q_DB_SQ_TAIL d q) ∧ s.lks.queues.length = 128 ∧ (s.queue d
      q).waiting = [] ∧ (s.queue d q).acts = [] ∧ (s.queue d q).held = [] ∧ s.cqFull d q = false ∧ tackQueue q = false
      ∧ s.qJobs d q ≠ []) ∧
    (∃ (s : State) (d : Fin 2) (q : Fin 64) (op : Fin 256), s.pins.powered = true ∧ s.dieOk d = true ∧ s.isSet
      (LKS_Q_CTRL_ENABLE d q) = true ∧ s.get (LKS_Q_PTR_SQ_HEAD d q) ≠ s.get (LKS_Q_DB_SQ_TAIL d q) ∧
      s.lks.queues.length = 128 ∧ (s.queue d q).waiting = [] ∧ (s.queue d q).acts = [] ∧ (s.queue d q).held = [] ∧
      s.cqFull d q = false ∧ tackQueue q = false ∧ s.qJobs d q = [] ∧ ((op.val = 0 ∨ 5 < op.val))) ∧
    (∃ (s : State) (d : Fin 2) (q : Fin 64) (c : SqCmd), s.pins.powered = true ∧ s.dieOk d = true ∧ s.isSet
      (LKS_Q_CTRL_ENABLE d q) = true ∧ s.get (LKS_Q_PTR_SQ_HEAD d q) ≠ s.get (LKS_Q_DB_SQ_TAIL d q) ∧
      s.lks.queues.length = 128 ∧ (s.queue d q).waiting = [] ∧ (s.queue d q).acts = [] ∧ (s.queue d q).held = [] ∧
      s.cqFull d q = false ∧ tackQueue q = false ∧ s.qJobs d q = [] ∧ c.mask ≠ 0 ∧ c.mask.toNat &&& s.qCores d q =
      c.mask.toNat ∧ 0 < c.threads.val ∧ c.threads.val ≤ 128 ∧ (∀ k ∈ maskCores c.mask.toNat, s.coreSt d k ≠ cFailed)) ∧
    (∃ (s : State) (d : Fin 2) (q : Fin 64) (c : SqCmd), s.pins.powered = true ∧ s.dieOk d = true ∧ s.isSet
      (LKS_Q_CTRL_ENABLE d q) = true ∧ s.get (LKS_Q_PTR_SQ_HEAD d q) ≠ s.get (LKS_Q_DB_SQ_TAIL d q) ∧
      s.lks.queues.length = 128 ∧ (s.queue d q).waiting = [] ∧ (s.queue d q).acts = [] ∧ (s.queue d q).held = [] ∧
      s.cqFull d q = false ∧ tackQueue q = false ∧ s.qJobs d q = [] ∧ ((c.mask = 0 ∨ c.mask.toNat &&& s.qCores d q ≠
      c.mask.toNat))) ∧
    (∃ (s : State) (d : Fin 2) (q : Fin 64) (c : SqCmd), s.pins.powered = true ∧ s.dieOk d = true ∧ s.isSet
      (LKS_Q_CTRL_ENABLE d q) = true ∧ s.get (LKS_Q_PTR_SQ_HEAD d q) ≠ s.get (LKS_Q_DB_SQ_TAIL d q) ∧
      s.lks.queues.length = 128 ∧ (s.queue d q).waiting = [] ∧ (s.queue d q).acts = [] ∧ (s.queue d q).held = [] ∧
      s.cqFull d q = false ∧ tackQueue q = false ∧ s.qJobs d q = [] ∧ c.mask ≠ 0 ∧ c.mask.toNat &&& s.qCores d q =
      c.mask.toNat ∧ ((c.threads.val = 0 ∨ 128 < c.threads.val))) ∧
    (∃ (s : State) (d : Fin 2) (q : Fin 64) (c : SqCmd), s.pins.powered = true ∧ s.dieOk d = true ∧ s.isSet
      (LKS_Q_CTRL_ENABLE d q) = true ∧ s.get (LKS_Q_PTR_SQ_HEAD d q) ≠ s.get (LKS_Q_DB_SQ_TAIL d q) ∧
      s.lks.queues.length = 128 ∧ (s.queue d q).waiting = [] ∧ (s.queue d q).acts = [] ∧ (s.queue d q).held = [] ∧
      s.cqFull d q = false ∧ tackQueue q = false ∧ s.qJobs d q = [] ∧ c.mask ≠ 0 ∧ c.mask.toNat &&& s.qCores d q =
      c.mask.toNat ∧ 0 < c.threads.val ∧ c.threads.val ≤ 128 ∧ (∃ k ∈ maskCores c.mask.toNat, s.coreSt d k = cFailed)) ∧
    (∃ (s : State) (d : Fin 2) (q : Fin 64) (c : SqCmd), s.pins.powered = true ∧ s.dieOk d = true ∧ s.isSet
      (LKS_Q_CTRL_ENABLE d q) = true ∧ s.get (LKS_Q_PTR_SQ_HEAD d q) ≠ s.get (LKS_Q_DB_SQ_TAIL d q) ∧
      s.lks.queues.length = 128 ∧ (s.queue d q).waiting = [] ∧ (s.queue d q).acts = [] ∧ (s.queue d q).held = [] ∧
      s.cqFull d q = false ∧ tackQueue q = false ∧ s.qJobs d q = [] ∧ c.mask ≠ 0 ∧ c.mask.toNat &&& s.qCores d q =
      c.mask.toNat ∧ (∀ k ∈ maskCores c.mask.toNat, s.coreSt d k = cIdle)) ∧
    (∃ (s : State) (d : Fin 2) (q : Fin 64) (c : SqCmd), s.pins.powered = true ∧ s.dieOk d = true ∧ s.isSet
      (LKS_Q_CTRL_ENABLE d q) = true ∧ s.get (LKS_Q_PTR_SQ_HEAD d q) ≠ s.get (LKS_Q_DB_SQ_TAIL d q) ∧
      s.lks.queues.length = 128 ∧ (s.queue d q).waiting = [] ∧ (s.queue d q).acts = [] ∧ (s.queue d q).held = [] ∧
      s.cqFull d q = false ∧ tackQueue q = false ∧ s.qJobs d q = [] ∧ s.lks.jobs = [] ∧ c.mask ≠ 0 ∧ c.mask.toNat &&&
      s.qCores d q = c.mask.toNat ∧ (∀ k ∈ maskCores c.mask.toNat, s.coreSt d k = cRet)) ∧
    (∃ (s : State) (d : Fin 2) (q : Fin 64) (c : SqCmd), s.pins.powered = true ∧ s.dieOk d = true ∧ s.isSet
      (LKS_Q_CTRL_ENABLE d q) = true ∧ s.get (LKS_Q_PTR_SQ_HEAD d q) ≠ s.get (LKS_Q_DB_SQ_TAIL d q) ∧
      s.lks.queues.length = 128 ∧ (s.queue d q).waiting = [] ∧ (s.queue d q).acts = [] ∧ (s.queue d q).held = [] ∧
      s.cqFull d q = false ∧ tackQueue q = false ∧ s.qJobs d q = [] ∧ c.mask ≠ 0 ∧ c.mask.toNat &&& s.qCores d q =
      c.mask.toNat ∧ (∃ k ∈ maskCores c.mask.toNat, s.coreSt d k ≠ cIdle) ∧ s.lks.cores.length = 128) ∧
    (∃ (s : State) (d : Fin 2) (q : Fin 64) (c : SqCmd), s.pins.powered = true ∧ s.dieOk d = true ∧ s.isSet
      (LKS_Q_CTRL_ENABLE d q) = true ∧ s.get (LKS_Q_PTR_SQ_HEAD d q) ≠ s.get (LKS_Q_DB_SQ_TAIL d q) ∧
      s.lks.queues.length = 128 ∧ (s.queue d q).waiting = [] ∧ (s.queue d q).acts = [] ∧ (s.queue d q).held = [] ∧
      s.cqFull d q = false ∧ tackQueue q = false ∧ s.qJobs d q = [] ∧ s.lks.jobs = [] ∧ c.mask ≠ 0 ∧ c.mask.toNat &&&
      s.qCores d q = c.mask.toNat ∧ (∃ k ∈ maskCores c.mask.toNat, s.coreSt d k ≠ cRet) ∧ s.lks.cores.length = 128) ∧
    (∃ (s : State) (d : Fin 2) (q : Fin 64), s.pins.powered = true ∧ s.dieOk d = true ∧ s.isSet (LKS_Q_CTRL_ENABLE d q) =
      true ∧ s.get (LKS_Q_PTR_SQ_HEAD d q) ≠ s.get (LKS_Q_DB_SQ_TAIL d q) ∧ s.lks.queues.length = 128 ∧ (s.queue d
      q).waiting = [] ∧ (s.queue d q).acts = [] ∧ (s.queue d q).held = [] ∧ s.cqFull d q = false ∧ s.qJobs d q = [] ∧
      tackQueue q = true) ∧
    (∃ (s : State) (d : Fin 2) (q : Fin 64) (v : Word) (tk : Bool), s.pins.powered = true ∧ s.dieOk d = true ∧ (tk = true
      ↔ tackQueue q = true) ∧ ((s.isSet (LKS_Q_CTRL_ENABLE d q) = false ∨ s.qSize d q ≤ v.toNat))) ∧
    (∃ (s : State) (d : Fin 2) (q : Fin 64) (tk : Bool), s.pins.powered = true ∧ s.dieOk d = true ∧ tackQueue q = true ∧
      tk = false) ∧
    (∃ (s : State) (d : Fin 2) (q : Fin 64) (tk : Bool), s.pins.powered = true ∧ ((s.dieOk d = false ∨ tk = true ∧
      tackQueue q = false))) ∧
    (∃ (s : State) (d : Fin 2) (q : Fin 64) (v : Word) (tk : Bool), s.pins.powered = true ∧ s.dieOk d = true ∧ (tk = true
      ↔ tackQueue q = true) ∧ s.isSet (LKS_Q_CTRL_ENABLE d q) = true ∧ v.toNat < s.qSize d q) ∧
    (∃ (s : State) (d : Fin 2) (q : Fin 64) (v : Word), s.pins.powered = true ∧ s.dieOk d = true ∧ tackQueue q = false ∧
      s.isSet (LKS_Q_CTRL_ENABLE d q) = true ∧ v.toNat < s.qSize d q) ∧
    (∃ (s : State) (d : Fin 2) (q : Fin 64) (v : Word) (tk : Bool), s.pins.powered = true ∧ s.dieOk d = true ∧ (tk = true
      ↔ tackQueue q = true) ∧ s.isSet (LKS_Q_CTRL_ENABLE d q) = true ∧ v.toNat < s.qSize d q ∧ (s.queue d q).waiting =
      [] ∧ (s.queue d q).acts = [] ∧ (s.queue d q).held = []) ∧
    (∃ (s : State) (d : Fin 2) (q : Fin 64) (v : Word) (b : List Byte) (m : Bool), s.pins.powered = true ∧ s.dieOk d =
      true ∧ tackQueue q = false ∧ s.lks.queues.length = 128 ∧ s.isSet (LKS_Q_CTRL_ENABLE d q) = true ∧ v.toNat <
      s.qSize d q ∧ (s.queue d q).waiting = [] ∧ (s.queue d q).acts = [] ∧ (s.queue d q).held = [(b, m)] ∧ (s.get
      (LKS_Q_PTR_CQ_TAIL d q) + 1) % s.qSize d q ≠ v.toNat % 2 ^ 16 % s.qSize d q) ∧
    (∃ (s : State) (d : Fin 2) (q : Fin 64) (c : LCmd) (i : Brxi), s.pins.powered = true ∧ s.lksHalted = false ∧ s.dieOk d
      = true ∧ s.readyHead d q = some c ∧ s.servable d q = true ∧ s.turn d q = true ∧ s.imageCheck d q c = .inr i ∧
      (((∀ k ∈ maskCores c.mask, (s.core d k).image = some i.id) ∨ s.imageCrc c.image i = true))) ∧
    (∃ (s : State) (d : Fin 2) (q : Fin 64) (c : LCmd) (i : Brxi), s.pins.powered = true ∧ s.lksHalted = false ∧ s.dieOk d
      = true ∧ s.readyHead d q = some c ∧ s.servable d q = true ∧ s.turn d q = true ∧ s.imageCheck d q c = .inr i ∧
      ((∀ k ∈ maskCores c.mask, (s.core d k).image = some i.id ∧ s.coreSt d k = cIdle)) ∧ (s.queue d q).waiting = [c]
      ∧ (s.queue d q).acts = [] ∧ s.lks.jobs = [] ∧ s.lks.queues.length = 128) ∧
    (∃ (s : State) (d : Fin 2) (q : Fin 64) (c : LCmd) (i : Brxi), s.pins.powered = true ∧ s.lksHalted = false ∧ s.dieOk d
      = true ∧ s.readyHead d q = some c ∧ s.servable d q = true ∧ s.turn d q = true ∧ s.imageCheck d q c = .inr i ∧
      ((∃ k ∈ maskCores c.mask, s.coreSt d k ≠ cIdle)) ∧ (s.queue d q).waiting = [c] ∧ (s.queue d q).acts = [] ∧
      s.lks.queues.length = 128 ∧ s.lks.cores.length = 128) ∧
    (∃ (s : State) (d : Fin 2) (q : Fin 64) (c : LCmd) (n : Nat), s.pins.powered = true ∧ s.lksHalted = false ∧ s.dieOk d
      = true ∧ s.readyHead d q = some c ∧ s.servable d q = true ∧ s.turn d q = true ∧ tackQueue q = false ∧
      s.lks.queues.length = 128 ∧ s.imageCheck d q c = .inl n ∧ (s.queue d q).waiting = [c] ∧ (s.queue d q).acts = []) ∧
    (∃ (s : State) (d : Fin 2) (q : Fin 64), s.pins.powered = true ∧ ((s.lksHalted = true ∨ s.dieOk d = false ∨ s.servable
      d q = false ∨ s.turn d q = false))) ∧
    (∃ (s : State) (d : Fin 2) (q : Fin 64) (g : Word) (j : LJob), s.pins.powered = true ∧ s.jobBy d q g.toNat = some j ∧
      s.lks.queues.length = 128 ∧ j.die = d ∧ j.q = q ∧ s.lksHalted = false ∧ tackQueue q = false ∧ s.cqFull d q =
      false ∧ (s.queue d q).held = []) ∧
    (∃ (s : State) (d : Fin 2) (q : Fin 64) (g : Word) (j : LJob), s.pins.powered = true ∧ s.jobBy d q g.toNat = some j ∧
      s.lks.queues.length = 128 ∧ j.die = d ∧ j.q = q ∧ s.lksHalted = false ∧ s.lks.jobs = [j] ∧ s.lks.train.burst =
      false ∧ s.lks.cores.length = 128 ∧ (s.queue d q).waiting = [] ∧ ((∀ k : Fin 64, (s.queue d k).waiting = [] ∧
      (s.queue d k).acts = []))) ∧
    (∃ (s : State) (d : Fin 2) (q : Fin 64) (g : Word) (j : LJob), s.pins.powered = true ∧ s.jobBy d q g.toNat = some j ∧
      s.lks.queues.length = 128 ∧ j.die = d ∧ j.q = q ∧ s.lksHalted = false ∧ ((s.cqFull d q = true ∨ (s.queue d
      q).held ≠ []))) ∧
    (∃ (s : State) (d : Fin 2) (q : Fin 64) (g : Word) (j : LJob), s.pins.powered = true ∧ s.jobBy d q g.toNat = some j ∧
      s.lks.queues.length = 128 ∧ j.die = d ∧ j.q = q ∧ j.cmd.timeout ≠ 0 ∧ j.start + 100 * j.cmd.timeout ≤ s.elapsed
      ∧ ((∀ k ∈ maskCores j.cmd.mask, s.coreSt j.die k ≠ cSusp)) ∧ tackQueue q = false ∧ s.cqFull d q = false ∧
      (s.queue d q).held = []) ∧
    (∃ (s : State) (d : Fin 2) (q : Fin 64) (g : Word) (j : LJob), s.pins.powered = true ∧ s.jobBy d q g.toNat = some j ∧
      s.lks.queues.length = 128 ∧ j.die = d ∧ j.q = q ∧ j.cmd.timeout ≠ 0 ∧ j.start + 100 * j.cmd.timeout ≤ s.elapsed
      ∧ ((∀ k ∈ maskCores j.cmd.mask, s.coreSt j.die k ≠ cSusp)) ∧ s.lks.jobs = [j] ∧ s.lks.train.burst = false ∧
      s.lks.cores.length = 128 ∧ (s.queue d q).waiting = [] ∧ ((∀ k : Fin 64, (s.queue d k).waiting = [] ∧ (s.queue d
      k).acts = []))) ∧
    (∃ (s : State) (d : Fin 2) (q : Fin 64) (g : Word) (j : LJob), s.pins.powered = true ∧ s.jobBy d q g.toNat = some j ∧
      s.lks.queues.length = 128 ∧ j.die = d ∧ j.q = q ∧ j.cmd.timeout ≠ 0 ∧ j.start + 100 * j.cmd.timeout ≤ s.elapsed
      ∧ ((∀ k ∈ maskCores j.cmd.mask, s.coreSt j.die k ≠ cSusp)) ∧ ((s.cqFull d q = true ∨ (s.queue d q).held ≠ []))) ∧
    (∃ (s : State) (d : Fin 2) (q : Fin 64) (g : Word), s.pins.powered = true ∧ ((s.jobBy d q g.toNat = none ∨ s.lksHalted
      = true))) ∧
    (∃ (s : State) (d : Fin 2) (q : Fin 64) (g : Word), s.pins.powered = true ∧ ((∀ j ∈ s.jobBy d q g.toNat, s.overdue j =
      false))) ∧
    (∃ (s : State) (d : Fin 2) (q : Fin 64) (tk : Bool), s.pins.powered = true ∧ s.dieOk d = true ∧ (tk = true ↔ tackQueue
      q = true) ∧ s.isSet (LKS_Q_CTRL_ENABLE d q) = true) ∧
    (∃ (s : State) (d : Fin 2) (q : Fin 64) (c : LCmd), s.pins.powered = true ∧ s.dieOk d = true ∧ s.lks.queues.length =
      128 ∧ s.isSet (LKS_Q_CTRL_ENABLE d q) = true ∧ tackQueue q = false ∧ s.qJobs d q = [] ∧ (s.queue d q).acts = []
      ∧ (s.queue d q).waiting = [c] ∧ (s.queue d q).held = [] ∧ s.cqFull d q = false) ∧
    (∃ (s : State) (d : Fin 2) (q : Fin 64) (tk : Bool), s.pins.powered = true ∧ s.dieOk d = true ∧ (tk = true ↔ tackQueue
      q = true) ∧ s.isSet (LKS_Q_CTRL_ENABLE d q) = false) ∧
    (∃ (s : State) (d : Fin 2) (q : Fin 64), s.pins.powered = true ∧ s.dieOk d = true ∧ tackQueue q = true) :=
  ⟨⟨(((((State.reset.set (LKS_Q_CTRL_ENABLE 0 9) 1).set (LKS_Q_CTRL_SIZE_LOG2 0 9) 4).set (LKS_Q_CTRL_VEC 0 9) 65).set
     (LKS_Q_DB_SQ_TAIL 0 9) 3).set ⟨LKS_Q_CORES_LO 0 9, 0, 32⟩ 0x100000), 0, 9, by decide⟩,
   ⟨((((((State.reset.set (LKS_Q_CTRL_ENABLE 0 9) 1).set (LKS_Q_CTRL_SIZE_LOG2 0 9) 4).set (LKS_Q_CTRL_VEC 0 9) 65).set
     (LKS_Q_DB_SQ_TAIL 0 9) 3).set ⟨LKS_Q_CORES_LO 0 9, 0, 32⟩ 0x100000)).setQueue 0 9 { held := [([], true)] }, 0, 9,
     by decide⟩,
   ⟨State.reset, 0, 9, by decide⟩,
   ⟨(((((State.reset.set (LKS_Q_CTRL_ENABLE 0 9) 1).set (LKS_Q_CTRL_SIZE_LOG2 0 9) 4).set (LKS_Q_CTRL_VEC 0 9) 65).set
     (LKS_Q_DB_SQ_TAIL 0 9) 3).set ⟨LKS_Q_CORES_LO 0 9, 0, 32⟩ 0x100000), 0, 9, 9, by decide⟩,
   ⟨(((((State.reset.set (LKS_Q_CTRL_ENABLE 0 9) 1).set (LKS_Q_CTRL_SIZE_LOG2 0 9) 4).set (LKS_Q_CTRL_VEC 0 9) 65).set
     (LKS_Q_DB_SQ_TAIL 0 9) 3).set ⟨LKS_Q_CORES_LO 0 9, 0, 32⟩ 0x100000), 0, 9, by decide +kernel⟩,
   ⟨(((((State.reset.set (LKS_Q_CTRL_ENABLE 0 9) 1).set (LKS_Q_CTRL_SIZE_LOG2 0 9) 4).set (LKS_Q_CTRL_VEC 0 9) 65).set
     (LKS_Q_DB_SQ_TAIL 0 9) 3).set ⟨LKS_Q_CORES_LO 0 9, 0, 32⟩ 0x100000), 0, 9, ⟨0, 0, 7, 0, 0x100000, 0, 0, 0, 4⟩,
     by decide +kernel⟩,
   ⟨{ ((((((State.reset.set (LKS_Q_CTRL_ENABLE 0 9) 1).set (LKS_Q_CTRL_SIZE_LOG2 0 9) 4).set (LKS_Q_CTRL_VEC 0 9) 65).set (LKS_Q_DB_SQ_TAIL 0 9) 3).set ⟨LKS_Q_CORES_LO 0 9, 0, 32⟩ 0x100000)) with lks := { ((((((State.reset.set (LKS_Q_CTRL_ENABLE 0 9) 1).set (LKS_Q_CTRL_SIZE_LOG2 0 9) 4).set (LKS_Q_CTRL_VEC 0 9) 65).set (LKS_Q_DB_SQ_TAIL 0 9) 3).set ⟨LKS_Q_CORES_LO 0 9, 0, 32⟩ 0x100000)).lks with jobs := [{ die := 0, q := 9, cmd := { op := 1, flags := 0, entry := 0, tag := 7, image := 0, mask := 0x100000, arg := 0, seed := 0, timeout := 0, threads := 4, head := 1, born := 0 }, start := 0, started := true }] } },
     0, 9, by decide +kernel⟩,
   ⟨(((((State.reset.set (LKS_Q_CTRL_ENABLE 0 9) 1).set (LKS_Q_CTRL_SIZE_LOG2 0 9) 4).set (LKS_Q_CTRL_VEC 0 9) 65).set
     (LKS_Q_DB_SQ_TAIL 0 9) 3).set ⟨LKS_Q_CORES_LO 0 9, 0, 32⟩ 0x100000), 0, 9, 9, by decide +kernel⟩,
   ⟨(((((State.reset.set (LKS_Q_CTRL_ENABLE 0 9) 1).set (LKS_Q_CTRL_SIZE_LOG2 0 9) 4).set (LKS_Q_CTRL_VEC 0 9) 65).set
     (LKS_Q_DB_SQ_TAIL 0 9) 3).set ⟨LKS_Q_CORES_LO 0 9, 0, 32⟩ 0x100000), 0, 9, ⟨0, 0, 7, 0, 0x100000, 0, 0, 0, 4⟩,
     by decide +kernel⟩,
   ⟨(((((State.reset.set (LKS_Q_CTRL_ENABLE 0 9) 1).set (LKS_Q_CTRL_SIZE_LOG2 0 9) 4).set (LKS_Q_CTRL_VEC 0 9) 65).set
     (LKS_Q_DB_SQ_TAIL 0 9) 3).set ⟨LKS_Q_CORES_LO 0 9, 0, 32⟩ 0x100000), 0, 9, ⟨0, 0, 7, 0, 0, 0, 0, 0, 4⟩,
     by decide +kernel⟩,
   ⟨(((((State.reset.set (LKS_Q_CTRL_ENABLE 0 9) 1).set (LKS_Q_CTRL_SIZE_LOG2 0 9) 4).set (LKS_Q_CTRL_VEC 0 9) 65).set
     (LKS_Q_DB_SQ_TAIL 0 9) 3).set ⟨LKS_Q_CORES_LO 0 9, 0, 32⟩ 0x100000), 0, 9, ⟨0, 0, 7, 0, 0x100000, 0, 0, 0, 0⟩,
     by decide +kernel⟩,
   ⟨((((((State.reset.set (LKS_Q_CTRL_ENABLE 0 9) 1).set (LKS_Q_CTRL_SIZE_LOG2 0 9) 4).set (LKS_Q_CTRL_VEC 0 9) 65).set
     (LKS_Q_DB_SQ_TAIL 0 9) 3).set ⟨LKS_Q_CORES_LO 0 9, 0, 32⟩ 0x100000).set (LKS_CORE_STATE 0 20) 7), 0, 9, ⟨0, 0, 7,
     0, 0x100000, 0, 0, 0, 4⟩, by decide +kernel⟩,
   ⟨((((((State.reset.set (LKS_Q_CTRL_ENABLE 0 9) 1).set (LKS_Q_CTRL_SIZE_LOG2 0 9) 4).set (LKS_Q_CTRL_VEC 0 9) 65).set
     (LKS_Q_DB_SQ_TAIL 0 9) 3).set ⟨LKS_Q_CORES_LO 0 9, 0, 32⟩ 0x100000).set (LKS_CORE_STATE 0 20) 2), 0, 9, ⟨0, 0, 7,
     0, 0x100000, 0, 0, 0, 4⟩, by decide +kernel⟩,
   ⟨((((((State.reset.set (LKS_Q_CTRL_ENABLE 0 9) 1).set (LKS_Q_CTRL_SIZE_LOG2 0 9) 4).set (LKS_Q_CTRL_VEC 0 9) 65).set
     (LKS_Q_DB_SQ_TAIL 0 9) 3).set ⟨LKS_Q_CORES_LO 0 9, 0, 32⟩ 0x100000).set (LKS_CORE_STATE 0 20) 0), 0, 9, ⟨0, 0, 7,
     0, 0x100000, 0, 0, 0, 4⟩, by decide +kernel⟩,
   ⟨((((((State.reset.set (LKS_Q_CTRL_ENABLE 0 9) 1).set (LKS_Q_CTRL_SIZE_LOG2 0 9) 4).set (LKS_Q_CTRL_VEC 0 9) 65).set
     (LKS_Q_DB_SQ_TAIL 0 9) 3).set ⟨LKS_Q_CORES_LO 0 9, 0, 32⟩ 0x100000).set ⟨CLK_GATE_EFF, 0, 32⟩ 0xFFFF), 0, 9, ⟨0,
     0, 7, 0, 0x100000, 0, 0, 0, 4⟩, by decide +kernel⟩,
   ⟨((((((State.reset.set (LKS_Q_CTRL_ENABLE 0 9) 1).set (LKS_Q_CTRL_SIZE_LOG2 0 9) 4).set (LKS_Q_CTRL_VEC 0 9) 65).set
     (LKS_Q_DB_SQ_TAIL 0 9) 3).set ⟨LKS_Q_CORES_LO 0 9, 0, 32⟩ 0x100000).set (LKS_CORE_STATE 0 20) 2), 0, 9, ⟨0, 0, 7,
     0, 0x100000, 0, 0, 0, 4⟩, by decide +kernel⟩,
   ⟨((((((State.reset.set (LKS_Q_CTRL_ENABLE 0 3) 1).set (LKS_Q_CTRL_SIZE_LOG2 0 3) 4).set (LKS_Q_CTRL_VEC 0 3) 65).set
     (LKS_Q_DB_SQ_TAIL 0 3) 3).set ⟨LKS_Q_CORES_LO 0 3, 0, 32⟩ 0x100000).set ⟨LKS_Q_CQ_BASE_HI 0 3, 0, 32⟩ 0x37), 0,
     3, by decide +kernel⟩,
   ⟨(((((State.reset.set (LKS_Q_CTRL_ENABLE 0 9) 1).set (LKS_Q_CTRL_SIZE_LOG2 0 9) 4).set (LKS_Q_CTRL_VEC 0 9) 65).set
     (LKS_Q_DB_SQ_TAIL 0 9) 3).set ⟨LKS_Q_CORES_LO 0 9, 0, 32⟩ 0x100000), 0, 9, 16, false, by decide⟩,
   ⟨State.reset, 0, 3, false, by decide⟩,
   ⟨State.reset, 0, 9, true, by decide⟩,
   ⟨(((((State.reset.set (LKS_Q_CTRL_ENABLE 0 9) 1).set (LKS_Q_CTRL_SIZE_LOG2 0 9) 4).set (LKS_Q_CTRL_VEC 0 9) 65).set
     (LKS_Q_DB_SQ_TAIL 0 9) 3).set ⟨LKS_Q_CORES_LO 0 9, 0, 32⟩ 0x100000), 0, 9, 15, false, by decide⟩,
   ⟨(((((State.reset.set (LKS_Q_CTRL_ENABLE 0 9) 1).set (LKS_Q_CTRL_SIZE_LOG2 0 9) 4).set (LKS_Q_CTRL_VEC 0 9) 65).set
     (LKS_Q_DB_SQ_TAIL 0 9) 3).set ⟨LKS_Q_CORES_LO 0 9, 0, 32⟩ 0x100000), 0, 9, 15, by decide⟩,
   ⟨(((((State.reset.set (LKS_Q_CTRL_ENABLE 0 9) 1).set (LKS_Q_CTRL_SIZE_LOG2 0 9) 4).set (LKS_Q_CTRL_VEC 0 9) 65).set
     (LKS_Q_DB_SQ_TAIL 0 9) 3).set ⟨LKS_Q_CORES_LO 0 9, 0, 32⟩ 0x100000), 0, 9, 15, false, by decide⟩,
   ⟨((((((State.reset.set (LKS_Q_CTRL_ENABLE 0 9) 1).set (LKS_Q_CTRL_SIZE_LOG2 0 9) 4).set (LKS_Q_CTRL_VEC 0 9) 65).set
     (LKS_Q_DB_SQ_TAIL 0 9) 3).set ⟨LKS_Q_CORES_LO 0 9, 0, 32⟩ 0x100000)).setQueue 0 9 { held := [([1, 2], true)] },
     0, 9, 15, [1, 2], true, by decide +kernel⟩,
   ⟨((((((((((((((State.reset.set (LKS_Q_CTRL_ENABLE 0 9) 1).set (LKS_Q_CTRL_SIZE_LOG2 0 9) 4).set (LKS_Q_CTRL_VEC 0 9)
     65).set CLK_READY_PLL_MEM 1).set CLK_READY_PLL_CORE 1).set (LKS_CORE_STATE 0 20) 2)).memPut 0x8010000000 (leBytes
     4 0x49585242)).memPut 0x8010000004 [1, 0, 1, 0]).memPut 0x801000000C (leBytes 4 64)).memPut 0x8010000018 (leBytes
     8 5)).memPut 0x8010000044 [8, 0])).setCore 0 20 { image := some 5 }).setQueue 0 9
     { waiting := [{ op := 1, flags := 0, entry := 0, tag := 7, image := 0x8010000000, mask := 0x100000, arg := 0, seed := 0, timeout := 0, threads := 4, head := 1, born := 0 }] },
     0, 9,
     { op := 1, flags := 0, entry := 0, tag := 7, image := 0x8010000000, mask := 0x100000, arg := 0, seed := 0, timeout := 0, threads := 4, head := 1, born := 0 },
     ⟨0, 64, 0, 5, 0x8010000080⟩, by decide +kernel⟩,
   ⟨((((((((((((((State.reset.set (LKS_Q_CTRL_ENABLE 0 9) 1).set (LKS_Q_CTRL_SIZE_LOG2 0 9) 4).set (LKS_Q_CTRL_VEC 0 9)
     65).set CLK_READY_PLL_MEM 1).set CLK_READY_PLL_CORE 1).set (LKS_CORE_STATE 0 20) 2)).memPut 0x8010000000 (leBytes
     4 0x49585242)).memPut 0x8010000004 [1, 0, 1, 0]).memPut 0x801000000C (leBytes 4 64)).memPut 0x8010000018 (leBytes
     8 5)).memPut 0x8010000044 [8, 0])).setCore 0 20 { image := some 5 }).setQueue 0 9
     { waiting := [{ op := 1, flags := 0, entry := 0, tag := 7, image := 0x8010000000, mask := 0x100000, arg := 0, seed := 0, timeout := 0, threads := 4, head := 1, born := 0 }] },
     0, 9,
     { op := 1, flags := 0, entry := 0, tag := 7, image := 0x8010000000, mask := 0x100000, arg := 0, seed := 0, timeout := 0, threads := 4, head := 1, born := 0 },
     ⟨0, 64, 0, 5, 0x8010000080⟩, by decide +kernel⟩,
   ⟨(((((((((((((((State.reset.set (LKS_Q_CTRL_ENABLE 0 9) 1).set (LKS_Q_CTRL_SIZE_LOG2 0 9) 4).set (LKS_Q_CTRL_VEC 0 9)
     65).set CLK_READY_PLL_MEM 1).set CLK_READY_PLL_CORE 1).set (LKS_CORE_STATE 0 20) 0).set ⟨CLK_GATE_EFF, 0, 32⟩
     0xFFFF)).memPut 0x8010000000 (leBytes 4 0x49585242)).memPut 0x8010000004 [1, 0, 1, 0]).memPut 0x801000000C
     (leBytes 4 64)).memPut 0x8010000018 (leBytes 8 5)).memPut 0x8010000044 [8, 0])).setCore 0 20
     { image := some 5 }).setQueue 0 9
     { waiting := [{ op := 1, flags := 0, entry := 0, tag := 7, image := 0x8010000000, mask := 0x100000, arg := 0, seed := 0, timeout := 0, threads := 4, head := 1, born := 0 }] },
     0, 9,
     { op := 1, flags := 0, entry := 0, tag := 7, image := 0x8010000000, mask := 0x100000, arg := 0, seed := 0, timeout := 0, threads := 4, head := 1, born := 0 },
     ⟨0, 64, 0, 5, 0x8010000080⟩, by decide +kernel⟩,
   ⟨(((((((State.reset.set (LKS_Q_CTRL_ENABLE 0 9) 1).set (LKS_Q_CTRL_SIZE_LOG2 0 9) 4).set (LKS_Q_CTRL_VEC 0 9) 65).set
     CLK_READY_PLL_MEM 1).set CLK_READY_PLL_CORE 1).set (LKS_CORE_STATE 0 20) 2)).setQueue 0 9
     { waiting := [{ op := 1, flags := 0, entry := 0, tag := 7, image := 0, mask := 0x100000, arg := 0, seed := 0, timeout := 0, threads := 4, head := 1, born := 0 }] },
     0, 9,
     { op := 1, flags := 0, entry := 0, tag := 7, image := 0, mask := 0x100000, arg := 0, seed := 0, timeout := 0, threads := 4, head := 1, born := 0 },
     5, by decide +kernel⟩,
   ⟨State.reset, 0, 9, by decide⟩,
   ⟨{ ((((((((State.reset.set (LKS_Q_CTRL_ENABLE 0 9) 1).set (LKS_Q_CTRL_SIZE_LOG2 0 9) 4).set (LKS_Q_CTRL_VEC 0 9) 65).set (LKS_Q_DB_SQ_TAIL 0 9) 3).set ⟨LKS_Q_CORES_LO 0 9, 0, 32⟩ 0x100000).set CLK_READY_PLL_MEM 1).set CLK_READY_PLL_CORE 1)) with lks := { ((((((((State.reset.set (LKS_Q_CTRL_ENABLE 0 9) 1).set (LKS_Q_CTRL_SIZE_LOG2 0 9) 4).set (LKS_Q_CTRL_VEC 0 9) 65).set (LKS_Q_DB_SQ_TAIL 0 9) 3).set ⟨LKS_Q_CORES_LO 0 9, 0, 32⟩ 0x100000).set CLK_READY_PLL_MEM 1).set CLK_READY_PLL_CORE 1)).lks with jobs := [{ die := 0, q := 9, cmd := { op := 1, flags := 0, entry := 0, tag := 7, image := 0, mask := 0x100000, arg := 0, seed := 0, timeout := 0, threads := 4, head := 1, born := 0 }, start := 0, started := true }] } },
     0, 9, 7,
     { die := 0, q := 9, cmd := { op := 1, flags := 0, entry := 0, tag := 7, image := 0, mask := 0x100000, arg := 0, seed := 0, timeout := 0, threads := 4, head := 1, born := 0 }, start := 0, started := true },
     by decide +kernel⟩,
   ⟨{ ((((((((State.reset.set (LKS_Q_CTRL_ENABLE 0 9) 1).set (LKS_Q_CTRL_SIZE_LOG2 0 9) 4).set (LKS_Q_CTRL_VEC 0 9) 65).set (LKS_Q_DB_SQ_TAIL 0 9) 3).set ⟨LKS_Q_CORES_LO 0 9, 0, 32⟩ 0x100000).set CLK_READY_PLL_MEM 1).set CLK_READY_PLL_CORE 1)) with lks := { ((((((((State.reset.set (LKS_Q_CTRL_ENABLE 0 9) 1).set (LKS_Q_CTRL_SIZE_LOG2 0 9) 4).set (LKS_Q_CTRL_VEC 0 9) 65).set (LKS_Q_DB_SQ_TAIL 0 9) 3).set ⟨LKS_Q_CORES_LO 0 9, 0, 32⟩ 0x100000).set CLK_READY_PLL_MEM 1).set CLK_READY_PLL_CORE 1)).lks with jobs := [{ die := 0, q := 9, cmd := { op := 1, flags := 0, entry := 0, tag := 7, image := 0, mask := 0x100000, arg := 0, seed := 0, timeout := 0, threads := 4, head := 1, born := 0 }, start := 0, started := true }] } },
     0, 9, 7,
     { die := 0, q := 9, cmd := { op := 1, flags := 0, entry := 0, tag := 7, image := 0, mask := 0x100000, arg := 0, seed := 0, timeout := 0, threads := 4, head := 1, born := 0 }, start := 0, started := true },
     by decide +kernel⟩,
   ⟨({ ((((((((State.reset.set (LKS_Q_CTRL_ENABLE 0 9) 1).set (LKS_Q_CTRL_SIZE_LOG2 0 9) 4).set (LKS_Q_CTRL_VEC 0 9) 65).set (LKS_Q_DB_SQ_TAIL 0 9) 3).set ⟨LKS_Q_CORES_LO 0 9, 0, 32⟩ 0x100000).set CLK_READY_PLL_MEM 1).set CLK_READY_PLL_CORE 1)) with lks := { ((((((((State.reset.set (LKS_Q_CTRL_ENABLE 0 9) 1).set (LKS_Q_CTRL_SIZE_LOG2 0 9) 4).set (LKS_Q_CTRL_VEC 0 9) 65).set (LKS_Q_DB_SQ_TAIL 0 9) 3).set ⟨LKS_Q_CORES_LO 0 9, 0, 32⟩ 0x100000).set CLK_READY_PLL_MEM 1).set CLK_READY_PLL_CORE 1)).lks with jobs := [{ die := 0, q := 9, cmd := { op := 1, flags := 0, entry := 0, tag := 7, image := 0, mask := 0x100000, arg := 0, seed := 0, timeout := 0, threads := 4, head := 1, born := 0 }, start := 0, started := true }] } }).setQueue
     0 9 { held := [([], true)] }, 0, 9, 7,
     { die := 0, q := 9, cmd := { op := 1, flags := 0, entry := 0, tag := 7, image := 0, mask := 0x100000, arg := 0, seed := 0, timeout := 0, threads := 4, head := 1, born := 0 }, start := 0, started := true },
     by decide +kernel⟩,
   ⟨{ { ((((((((State.reset.set (LKS_Q_CTRL_ENABLE 0 9) 1).set (LKS_Q_CTRL_SIZE_LOG2 0 9) 4).set (LKS_Q_CTRL_VEC 0 9) 65).set (LKS_Q_DB_SQ_TAIL 0 9) 3).set ⟨LKS_Q_CORES_LO 0 9, 0, 32⟩ 0x100000).set CLK_READY_PLL_MEM 1).set CLK_READY_PLL_CORE 1)) with lks := { ((((((((State.reset.set (LKS_Q_CTRL_ENABLE 0 9) 1).set (LKS_Q_CTRL_SIZE_LOG2 0 9) 4).set (LKS_Q_CTRL_VEC 0 9) 65).set (LKS_Q_DB_SQ_TAIL 0 9) 3).set ⟨LKS_Q_CORES_LO 0 9, 0, 32⟩ 0x100000).set CLK_READY_PLL_MEM 1).set CLK_READY_PLL_CORE 1)).lks with jobs := [{ die := 0, q := 9, cmd := { op := 1, flags := 0, entry := 0, tag := 7, image := 0, mask := 0x100000, arg := 0, seed := 0, timeout := 9, threads := 4, head := 1, born := 0 }, start := 0, started := true }] } } with elapsed := 1000 },
     0, 9, 7,
     { die := 0, q := 9, cmd := { op := 1, flags := 0, entry := 0, tag := 7, image := 0, mask := 0x100000, arg := 0, seed := 0, timeout := 9, threads := 4, head := 1, born := 0 }, start := 0, started := true },
     by decide +kernel⟩,
   ⟨{ { ((((((((State.reset.set (LKS_Q_CTRL_ENABLE 0 9) 1).set (LKS_Q_CTRL_SIZE_LOG2 0 9) 4).set (LKS_Q_CTRL_VEC 0 9) 65).set (LKS_Q_DB_SQ_TAIL 0 9) 3).set ⟨LKS_Q_CORES_LO 0 9, 0, 32⟩ 0x100000).set CLK_READY_PLL_MEM 1).set CLK_READY_PLL_CORE 1)) with lks := { ((((((((State.reset.set (LKS_Q_CTRL_ENABLE 0 9) 1).set (LKS_Q_CTRL_SIZE_LOG2 0 9) 4).set (LKS_Q_CTRL_VEC 0 9) 65).set (LKS_Q_DB_SQ_TAIL 0 9) 3).set ⟨LKS_Q_CORES_LO 0 9, 0, 32⟩ 0x100000).set CLK_READY_PLL_MEM 1).set CLK_READY_PLL_CORE 1)).lks with jobs := [{ die := 0, q := 9, cmd := { op := 1, flags := 0, entry := 0, tag := 7, image := 0, mask := 0x100000, arg := 0, seed := 0, timeout := 9, threads := 4, head := 1, born := 0 }, start := 0, started := true }] } } with elapsed := 1000 },
     0, 9, 7,
     { die := 0, q := 9, cmd := { op := 1, flags := 0, entry := 0, tag := 7, image := 0, mask := 0x100000, arg := 0, seed := 0, timeout := 9, threads := 4, head := 1, born := 0 }, start := 0, started := true },
     by decide +kernel⟩,
   ⟨({ { ((((((((State.reset.set (LKS_Q_CTRL_ENABLE 0 9) 1).set (LKS_Q_CTRL_SIZE_LOG2 0 9) 4).set (LKS_Q_CTRL_VEC 0 9) 65).set (LKS_Q_DB_SQ_TAIL 0 9) 3).set ⟨LKS_Q_CORES_LO 0 9, 0, 32⟩ 0x100000).set CLK_READY_PLL_MEM 1).set CLK_READY_PLL_CORE 1)) with lks := { ((((((((State.reset.set (LKS_Q_CTRL_ENABLE 0 9) 1).set (LKS_Q_CTRL_SIZE_LOG2 0 9) 4).set (LKS_Q_CTRL_VEC 0 9) 65).set (LKS_Q_DB_SQ_TAIL 0 9) 3).set ⟨LKS_Q_CORES_LO 0 9, 0, 32⟩ 0x100000).set CLK_READY_PLL_MEM 1).set CLK_READY_PLL_CORE 1)).lks with jobs := [{ die := 0, q := 9, cmd := { op := 1, flags := 0, entry := 0, tag := 7, image := 0, mask := 0x100000, arg := 0, seed := 0, timeout := 9, threads := 4, head := 1, born := 0 }, start := 0, started := true }] } } with elapsed := 1000 }).setQueue
     0 9 { held := [([], true)] }, 0, 9, 7,
     { die := 0, q := 9, cmd := { op := 1, flags := 0, entry := 0, tag := 7, image := 0, mask := 0x100000, arg := 0, seed := 0, timeout := 9, threads := 4, head := 1, born := 0 }, start := 0, started := true },
     by decide +kernel⟩,
   ⟨State.reset, 0, 9, 7, by decide⟩,
   ⟨State.reset, 0, 9, 7, by decide⟩,
   ⟨{ ((((((State.reset.set (LKS_Q_CTRL_ENABLE 0 9) 1).set (LKS_Q_CTRL_SIZE_LOG2 0 9) 4).set (LKS_Q_CTRL_VEC 0 9) 65).set (LKS_Q_DB_SQ_TAIL 0 9) 3).set ⟨LKS_Q_CORES_LO 0 9, 0, 32⟩ 0x100000)) with lks := { ((((((State.reset.set (LKS_Q_CTRL_ENABLE 0 9) 1).set (LKS_Q_CTRL_SIZE_LOG2 0 9) 4).set (LKS_Q_CTRL_VEC 0 9) 65).set (LKS_Q_DB_SQ_TAIL 0 9) 3).set ⟨LKS_Q_CORES_LO 0 9, 0, 32⟩ 0x100000)).lks with jobs := [{ die := 0, q := 9, cmd := { op := 1, flags := 0, entry := 0, tag := 7, image := 0, mask := 0x100000, arg := 0, seed := 0, timeout := 0, threads := 4, head := 1, born := 0 }, start := 0, started := true }] } },
     0, 9, false, by decide⟩,
   ⟨((((State.reset.set (LKS_Q_CTRL_ENABLE 0 9) 1).set (LKS_Q_CTRL_SIZE_LOG2 0 9) 4).set (LKS_Q_CTRL_VEC 0 9)
     65)).setQueue 0 9
     { waiting := [{ op := 1, flags := 0, entry := 0, tag := 7, image := 0, mask := 0x100000, arg := 0, seed := 0, timeout := 0, threads := 4, head := 1, born := 0 }] },
     0, 9,
     { op := 1, flags := 0, entry := 0, tag := 7, image := 0, mask := 0x100000, arg := 0, seed := 0, timeout := 0, threads := 4, head := 1, born := 0 },
     by decide +kernel⟩,
   ⟨State.reset, 0, 9, false, by decide⟩,
   ⟨State.reset, 0, 3, by decide⟩⟩

theorem witness_TrainingAndFleetCommands :
    (∃ (s : State), s.pins.powered = true ∧ s.canTrain = true ∧ s.isSet LKS_TRAIN_CTRL_TRAIN_EN = true ∧ s.isSet
      SYS_CAPS_FCST_TRAIN = true ∧ s.lks.train.burst = false) ∧
    (∃ (s : State), s.pins.powered = true ∧ ((s.canTrain = false ∨ s.isSet LKS_TRAIN_CTRL_TRAIN_EN = false ∨ s.isSet
      SYS_CAPS_FCST_TRAIN = false ∨ s.lks.train.burst = true))) ∧
    (∃ (s : State) (i : JudgeIn), s.pins.powered = true ∧ s.canTrain = true ∧ i.body = none ∧
      s.lks.train.candidate.present = true ∧ (((if i.maeLive.val * s.get LKS_TRAIN_BOUND_ACCEPT_PCT < 100 *
      i.maeCand.val then 2 else if s.get LKS_TRAIN_BOUND_COVER_MAX < i.coverCand.val then 3 else 1) ≠ 1 ∨ s.isSet
      LKS_TRAIN_CTRL_AUTO_PROMOTE = false)) ∧ s.lks.train.pend = []) ∧
    (∃ (s : State) (i : JudgeIn) (l : List Byte), s.pins.powered = true ∧ s.canTrain = true ∧ i.body = some l ∧ l.length ≤
      slotSize ∧ (((if i.maeLive.val * s.get LKS_TRAIN_BOUND_ACCEPT_PCT < 100 * i.maeCand.val then 2 else if s.get
      LKS_TRAIN_BOUND_COVER_MAX < i.coverCand.val then 3 else 1) ≠ 1 ∨ s.isSet LKS_TRAIN_CTRL_AUTO_PROMOTE = false)) ∧
      s.lks.train.pend = []) ∧
    (∃ (s : State) (i : JudgeIn), s.pins.powered = true ∧ s.canTrain = true ∧ i.body = none ∧
      s.lks.train.candidate.present = true ∧ (if i.maeLive.val * s.get LKS_TRAIN_BOUND_ACCEPT_PCT < 100 *
      i.maeCand.val then 2 else if s.get LKS_TRAIN_BOUND_COVER_MAX < i.coverCand.val then 3 else 1) = 1 ∧ s.isSet
      LKS_TRAIN_CTRL_AUTO_PROMOTE = true ∧ s.lks.train.pend = []) ∧
    (∃ (s : State) (i : JudgeIn), s.pins.powered = true ∧ ((s.canTrain = false ∨ i.body = none ∧
      s.lks.train.candidate.present = false))) ∧
    (∃ (s : State), s.pins.powered = true ∧ s.canTrain = true ∧ s.lks.train.candidate.present = true ∧ ((s.get
      LKS_TRAIN_STATUS_RESULT = 1 ∨ s.isSet LKS_TRAIN_CTRL_FORCE = true))) ∧
    (∃ (s : State), s.pins.powered = true ∧ ((s.canTrain = false ∨ s.lks.train.candidate.present = true ∧ s.get
      LKS_TRAIN_STATUS_RESULT ≠ 1 ∧ s.isSet LKS_TRAIN_CTRL_FORCE = false))) ∧
    (∃ (s : State), s.pins.powered = true ∧ s.canTrain = true ∧ s.lks.train.candidate.present = false) ∧
    (∃ (s : State), s.pins.powered = true ∧ s.canTrain = true ∧ s.lks.train.previous.present = true) ∧
    (∃ (s : State), s.pins.powered = true ∧ s.canTrain = true ∧ s.lks.train.previous.present = false) ∧
    (∃ (s : State), s.pins.powered = true ∧ s.canTrain = false) ∧
    (∃ (s : State), s.pins.powered = true ∧ s.canTrain = true ∧ s.lks.train.live.present = true ∧ ((∀ c : Fin 16, s.coreSt
      0 c ≠ cFailed))) ∧
    (∃ (s : State), s.pins.powered = true ∧ ((s.canTrain = false ∨ s.lks.train.live.present = false ∨ ∃ c : Fin 16,
      s.coreSt 0 c = cFailed))) ∧
    (∃ (s : State), s.pins.powered = true ∧ s.canTrain = true ∧ s.lks.train.burst = true) ∧
    (∃ (s : State), s.pins.powered = true ∧ s.canTrain = true ∧ s.lks.train.burst = false ∧ s.lks.train.exporting = false
      ∧ s.xferOk (64 + s.lks.train.live.len) = true ∧ s.lks.train.live.present = true) ∧
    (∃ (s : State), s.pins.powered = true ∧ s.canTrain = true ∧ s.lks.train.burst = false ∧ s.lks.train.exporting = false
      ∧ ((s.xferOk (64 + s.lks.train.live.len) = false ∨ s.lks.train.live.present = false))) ∧
    (∃ (s : State), s.pins.powered = true ∧ s.canTrain = true ∧ s.lks.train.burst = false ∧ s.lks.train.evaluating = false
      ∧ s.blobOk = true) ∧
    (∃ (s : State), s.pins.powered = true ∧ s.canTrain = true ∧ s.lks.train.burst = false ∧ s.lks.train.evaluating = false
      ∧ s.blobOk = false) ∧
    (∃ (s : State), s.pins.powered = true ∧ ((s.canTrain = false ∨ s.lks.train.burst = false ∧ s.lks.train.exporting =
      true))) ∧
    (∃ (s : State), s.pins.powered = true ∧ ((s.canTrain = false ∨ s.lks.train.burst = false ∧ s.lks.train.evaluating =
      true))) ∧
    (∃ (s : State), s.pins.powered = true ∧ s.lks.train.exporting = true) ∧
    (∃ (s : State), s.pins.powered = true ∧ s.lks.train.exporting = false) ∧
    (∃ (s : State), s.pins.powered = true ∧ ((s.fleetOn = false ∨ s.get LKS_FLEET_CTRL_ROUND_FRAMES = 0 ∨ s.frame % s.get
      LKS_FLEET_CTRL_ROUND_FRAMES ≠ 0))) ∧
    (∃ (s : State), s.pins.powered = true ∧ s.fleetOn = true ∧ s.get LKS_FLEET_CTRL_ROUND_FRAMES ≠ 0 ∧ s.frame % s.get
      LKS_FLEET_CTRL_ROUND_FRAMES = 0 ∧ 1 < s.fleetMembers.length) ∧
    (∃ (s : State), s.pins.powered = true ∧ s.fleetOn = true ∧ s.get LKS_FLEET_CTRL_ROUND_FRAMES ≠ 0 ∧ s.frame % s.get
      LKS_FLEET_CTRL_ROUND_FRAMES = 0 ∧ s.fleetMembers.length = 1) ∧
    (∃ (s : State) (i : BulkIn), s.pins.powered = true ∧ s.canTrain = true ∧ s.pathOn i.path.val = true ∧ i.hall.val =
      s.hallId ∧ s.lks.fleet.running = true ∧ i.round.toNat = s.lks.fleet.round % 2 ^ 32 ∧ i.model.toNat =
      s.lks.train.modelId ∧ i.crcOk = true) ∧
    (∃ (s : State) (i : BulkIn), s.pins.powered = true ∧ s.canTrain = true ∧ s.pathOn i.path.val = true ∧ i.hall.val =
      s.hallId ∧ ((s.lks.fleet.running = false ∨ i.round.toNat ≠ s.lks.fleet.round % 2 ^ 32 ∨ i.model.toNat ≠
      s.lks.train.modelId ∨ i.crcOk = false))) ∧
    (∃ (s : State) (i : BulkIn), s.pins.powered = true ∧ s.pathOn i.path.val = true ∧ i.hall.val ≠ s.hallId) ∧
    (∃ (s : State) (i : BulkIn), s.pins.powered = true ∧ ((s.pathOn i.path.val = false ∨ s.canTrain = false ∧ i.hall.val =
      s.hallId))) ∧
    (∃ (s : State), s.pins.powered = true ∧ s.lks.fleet.running = true ∧ s.fleetOn = false) ∧
    (∃ (s : State), s.pins.powered = true ∧ s.lks.fleet.running = false ∧ s.bulkOn = false) ∧
    (∃ (s : State), s.pins.powered = true ∧ s.lks.fleet.running = false ∧ s.bulkOn = true ∧ s.fab.bulk = []) ∧
    (∃ (s : State) (b : BulkOut), s.pins.powered = true ∧ s.lks.fleet.running = false ∧ s.bulkOn = true ∧ s.fab.bulk = [b]
      ∧ b.path < 2 ∧ bitOf (s.get FAB_BULK_CFG_PATHS) b.path = true ∧ s.canSend b.path = true ∧ bulkWire b.body ≤ min
      (s.get FAB_BULK_CFG_BUDGET) 15625) ∧
    (∃ (s : State) (b : BulkOut), s.pins.powered = true ∧ s.lks.fleet.running = false ∧ s.bulkOn = true ∧ s.fab.bulk = [b]
      ∧ b.path < 2 ∧ bitOf (s.get FAB_BULK_CFG_PATHS) b.path = true ∧ s.canSend b.path = true ∧ min (s.get
      FAB_BULK_CFG_BUDGET) 15625 < bulkWire b.body) :=
  ⟨⟨((State.reset.set LKS_TRAIN_CTRL_TRAIN_EN 1).set SYS_CAPS_FCST_TRAIN 1), by decide⟩,
   ⟨{ (State.reset) with lks := { (State.reset).lks with train := { State.reset.lks.train with burst := true } } },
     by decide⟩,
   ⟨{ ((State.reset.set LKS_TRAIN_CTRL_AUTO_PROMOTE 0)) with lks := { ((State.reset.set LKS_TRAIN_CTRL_AUTO_PROMOTE 0)).lks with train := { State.reset.lks.train with candidate := ⟨true, 5, 64⟩ } } },
     ⟨none, 5, 100, 80, 10⟩, by decide +kernel⟩,
   ⟨(State.reset.set LKS_TRAIN_CTRL_AUTO_PROMOTE 0), ⟨some [1, 2, 3], 5, 100, 80, 10⟩, [1, 2, 3], by decide +kernel⟩,
   ⟨{ ((((State.reset.set LKS_TRAIN_CTRL_AUTO_PROMOTE 1).set LKS_TRAIN_BOUND_ACCEPT_PCT 100).set LKS_TRAIN_BOUND_COVER_MAX 100)) with lks := { ((((State.reset.set LKS_TRAIN_CTRL_AUTO_PROMOTE 1).set LKS_TRAIN_BOUND_ACCEPT_PCT 100).set LKS_TRAIN_BOUND_COVER_MAX 100)).lks with train := { State.reset.lks.train with candidate := ⟨true, 5, 64⟩ } } },
     ⟨none, 5, 100, 80, 10⟩, by decide +kernel⟩,
   ⟨State.reset, ⟨none, 5, 100, 80, 10⟩, by decide⟩,
   ⟨{ ((State.reset.set LKS_TRAIN_STATUS_RESULT 1)) with lks := { ((State.reset.set LKS_TRAIN_STATUS_RESULT 1)).lks with train := { State.reset.lks.train with candidate := ⟨true, 5, 64⟩ } } },
     by decide +kernel⟩,
   ⟨{ State.reset with otp := { State.reset.otp with variant := .control } }, by decide⟩,
   ⟨State.reset, by decide⟩,
   ⟨{ (State.reset) with lks := { (State.reset).lks with train := { State.reset.lks.train with previous := ⟨true, 4, 64⟩ } } },
     by decide⟩,
   ⟨State.reset, by decide⟩,
   ⟨{ State.reset with otp := { State.reset.otp with variant := .control } }, by decide⟩,
   ⟨{ (State.reset) with lks := { (State.reset).lks with train := { State.reset.lks.train with live := ⟨true, 4, 64⟩, reload := true } } },
     by decide⟩,
   ⟨State.reset, by decide⟩,
   ⟨{ (State.reset) with lks := { (State.reset).lks with train := { State.reset.lks.train with burst := true } } },
     by decide⟩,
   ⟨{ ((State.reset.set ⟨LKS_TRAIN_XFER_HI, 0, 32⟩ 0x20)) with lks := { ((State.reset.set ⟨LKS_TRAIN_XFER_HI, 0, 32⟩ 0x20)).lks with train := { State.reset.lks.train with live := ⟨true, 4, 64⟩ } } },
     by decide +kernel⟩,
   ⟨State.reset, by decide⟩,
   ⟨(((State.reset.set ⟨LKS_TRAIN_XFER_HI, 0, 32⟩ 0x20)).memPut 0x2000000000 (blobHead 0 0 5 ++ leBytes 4 (crc32c
     (blobHead 0 0 5)).toNat)), by decide +kernel⟩,
   ⟨State.reset, by decide +kernel⟩,
   ⟨{ State.reset with otp := { State.reset.otp with variant := .control } }, by decide⟩,
   ⟨{ State.reset with otp := { State.reset.otp with variant := .control } }, by decide⟩,
   ⟨{ ((State.reset.set ⟨LKS_TRAIN_XFER_HI, 0, 32⟩ 0x20)) with lks := { ((State.reset.set ⟨LKS_TRAIN_XFER_HI, 0, 32⟩ 0x20)).lks with train := { State.reset.lks.train with live := ⟨true, 4, 64⟩, exporting := true, xferAt := 0x2000000000 } } },
     by decide⟩,
   ⟨State.reset, by decide⟩,
   ⟨State.reset, by decide +kernel⟩,
   ⟨{ ((((((((State.reset.set LKS_FLEET_CTRL_JOIN 1).set LKS_TRAIN_CTRL_TRAIN_EN 1).set SYS_CAPS_FCST_TRAIN 1).set FAB_CTRL_BULK_EN 1).set FAB_CTRL_NEAR_EN 1).set FAB_STATUS_HALL_LEAD 1).set LKS_FLEET_CTRL_ROUND_FRAMES 5).set ⟨LKS_FLEET_MEMBERS 0, 0, 32⟩ 3) with boot := { State.reset.boot with profile := [(0x8005, List.replicate 32 1#8)] }, fab := { State.reset.fab with paths := [{ State.reset.pth 0 with ests := [0, 0], delay := some 0, heard := some 0 }, {}] } },
     by decide +kernel⟩,
   ⟨{ ((((((((State.reset.set LKS_FLEET_CTRL_JOIN 1).set LKS_TRAIN_CTRL_TRAIN_EN 1).set SYS_CAPS_FCST_TRAIN 1).set FAB_CTRL_BULK_EN 1).set FAB_CTRL_NEAR_EN 1).set FAB_STATUS_HALL_LEAD 1).set LKS_FLEET_CTRL_ROUND_FRAMES 5).set ⟨LKS_FLEET_MEMBERS 0, 0, 32⟩ 1) with boot := { State.reset.boot with profile := [(0x8005, List.replicate 32 1#8)] }, fab := { State.reset.fab with paths := [{ State.reset.pth 0 with ests := [0, 0], delay := some 0, heard := some 0 }, {}] } },
     by decide +kernel⟩,
   ⟨{ ((((State.reset.set CLK_GATE_EFF_FAB 1).set CLK_READY_XTAL_A 1).set FAB_CTRL_NEAR_EN 1)) with lks := { ((((State.reset.set CLK_GATE_EFF_FAB 1).set CLK_READY_XTAL_A 1).set FAB_CTRL_NEAR_EN 1)).lks with fleet := { round := 7, running := true } } },
     ⟨0, 1, 0, true, false, 3, 2, 7, 0, 4, [1, 2], true⟩, by decide⟩,
   ⟨(((State.reset.set CLK_GATE_EFF_FAB 1).set CLK_READY_XTAL_A 1).set FAB_CTRL_NEAR_EN 1), ⟨0, 1, 0, true, false, 3, 2,
     7, 0, 4, [1, 2], true⟩, by decide⟩,
   ⟨(((State.reset.set CLK_GATE_EFF_FAB 1).set CLK_READY_XTAL_A 1).set FAB_CTRL_NEAR_EN 1), ⟨0, 1, 9, true, false, 3, 2,
     7, 0, 4, [1, 2], true⟩, by decide⟩,
   ⟨(State.reset.set FAB_CTRL_NEAR_EN 0), ⟨0, 1, 0, true, false, 3, 2, 7, 0, 4, [1, 2], true⟩, by decide⟩,
   ⟨{ State.reset with lks := { State.reset.lks with fleet := { round := 7, running := true } } }, by decide +kernel⟩,
   ⟨State.reset, by decide⟩,
   ⟨{ ((((((((State.reset.set LKS_FLEET_CTRL_JOIN 1).set LKS_TRAIN_CTRL_TRAIN_EN 1).set SYS_CAPS_FCST_TRAIN 1).set FAB_CTRL_BULK_EN 1).set FAB_CTRL_NEAR_EN 1).set FAB_STATUS_HALL_LEAD 1).set LKS_FLEET_CTRL_ROUND_FRAMES 5).set ⟨LKS_FLEET_MEMBERS 0, 0, 32⟩ 3) with boot := { State.reset.boot with profile := [(0x8005, List.replicate 32 1#8)] }, fab := { State.reset.fab with paths := [{ State.reset.pth 0 with ests := [0, 0], delay := some 0, heard := some 0 }, {}] } },
     by decide +kernel⟩,
   ⟨{ ({ (((((((((((((State.reset.set LKS_FLEET_CTRL_JOIN 1).set LKS_TRAIN_CTRL_TRAIN_EN 1).set SYS_CAPS_FCST_TRAIN 1).set FAB_CTRL_BULK_EN 1).set FAB_CTRL_NEAR_EN 1).set FAB_STATUS_HALL_LEAD 1).set LKS_FLEET_CTRL_ROUND_FRAMES 5).set ⟨LKS_FLEET_MEMBERS 0, 0, 32⟩ 3).set CLK_GATE_EFF_FAB 1).set CLK_READY_XTAL_A 1).set FAB_CTRL_NEAR_EN 1).set FAB_BULK_CFG_PATHS 1).set FAB_BULK_CFG_BUDGET 9000) with boot := { State.reset.boot with profile := [(0x8005, List.replicate 32 1#8)] }, fab := { State.reset.fab with paths := [{ State.reset.pth 0 with ests := [0, 0], delay := some 0, heard := some 0 }, {}] } }) with boot := { ({ (((((((((((((State.reset.set LKS_FLEET_CTRL_JOIN 1).set LKS_TRAIN_CTRL_TRAIN_EN 1).set SYS_CAPS_FCST_TRAIN 1).set FAB_CTRL_BULK_EN 1).set FAB_CTRL_NEAR_EN 1).set FAB_STATUS_HALL_LEAD 1).set LKS_FLEET_CTRL_ROUND_FRAMES 5).set ⟨LKS_FLEET_MEMBERS 0, 0, 32⟩ 3).set CLK_GATE_EFF_FAB 1).set CLK_READY_XTAL_A 1).set FAB_CTRL_NEAR_EN 1).set FAB_BULK_CFG_PATHS 1).set FAB_BULK_CFG_BUDGET 9000) with boot := { State.reset.boot with profile := [(0x8005, List.replicate 32 1#8)] }, fab := { State.reset.fab with paths := [{ State.reset.pth 0 with ests := [0, 0], delay := some 0, heard := some 0 }, {}] } }).boot with fwRuns := true }, fab := { ({ (((((((((((((State.reset.set LKS_FLEET_CTRL_JOIN 1).set LKS_TRAIN_CTRL_TRAIN_EN 1).set SYS_CAPS_FCST_TRAIN 1).set FAB_CTRL_BULK_EN 1).set FAB_CTRL_NEAR_EN 1).set FAB_STATUS_HALL_LEAD 1).set LKS_FLEET_CTRL_ROUND_FRAMES 5).set ⟨LKS_FLEET_MEMBERS 0, 0, 32⟩ 3).set CLK_GATE_EFF_FAB 1).set CLK_READY_XTAL_A 1).set FAB_CTRL_NEAR_EN 1).set FAB_BULK_CFG_PATHS 1).set FAB_BULK_CFG_BUDGET 9000) with boot := { State.reset.boot with profile := [(0x8005, List.replicate 32 1#8)] }, fab := { State.reset.fab with paths := [{ State.reset.pth 0 with ests := [0, 0], delay := some 0, heard := some 0 }, {}] } }).fab with bulk := [⟨0, 1, 5, [1, 2]⟩] }, pins := { State.reset.pins with txDisable := [false, false] } },
     ⟨0, 1, 5, [1, 2]⟩, by decide +kernel⟩,
   ⟨{ ({ (((((((((((((State.reset.set LKS_FLEET_CTRL_JOIN 1).set LKS_TRAIN_CTRL_TRAIN_EN 1).set SYS_CAPS_FCST_TRAIN 1).set FAB_CTRL_BULK_EN 1).set FAB_CTRL_NEAR_EN 1).set FAB_STATUS_HALL_LEAD 1).set LKS_FLEET_CTRL_ROUND_FRAMES 5).set ⟨LKS_FLEET_MEMBERS 0, 0, 32⟩ 3).set CLK_GATE_EFF_FAB 1).set CLK_READY_XTAL_A 1).set FAB_CTRL_NEAR_EN 1).set FAB_BULK_CFG_PATHS 1).set FAB_BULK_CFG_BUDGET 10) with boot := { State.reset.boot with profile := [(0x8005, List.replicate 32 1#8)] }, fab := { State.reset.fab with paths := [{ State.reset.pth 0 with ests := [0, 0], delay := some 0, heard := some 0 }, {}] } }) with boot := { ({ (((((((((((((State.reset.set LKS_FLEET_CTRL_JOIN 1).set LKS_TRAIN_CTRL_TRAIN_EN 1).set SYS_CAPS_FCST_TRAIN 1).set FAB_CTRL_BULK_EN 1).set FAB_CTRL_NEAR_EN 1).set FAB_STATUS_HALL_LEAD 1).set LKS_FLEET_CTRL_ROUND_FRAMES 5).set ⟨LKS_FLEET_MEMBERS 0, 0, 32⟩ 3).set CLK_GATE_EFF_FAB 1).set CLK_READY_XTAL_A 1).set FAB_CTRL_NEAR_EN 1).set FAB_BULK_CFG_PATHS 1).set FAB_BULK_CFG_BUDGET 10) with boot := { State.reset.boot with profile := [(0x8005, List.replicate 32 1#8)] }, fab := { State.reset.fab with paths := [{ State.reset.pth 0 with ests := [0, 0], delay := some 0, heard := some 0 }, {}] } }).boot with fwRuns := true }, fab := { ({ (((((((((((((State.reset.set LKS_FLEET_CTRL_JOIN 1).set LKS_TRAIN_CTRL_TRAIN_EN 1).set SYS_CAPS_FCST_TRAIN 1).set FAB_CTRL_BULK_EN 1).set FAB_CTRL_NEAR_EN 1).set FAB_STATUS_HALL_LEAD 1).set LKS_FLEET_CTRL_ROUND_FRAMES 5).set ⟨LKS_FLEET_MEMBERS 0, 0, 32⟩ 3).set CLK_GATE_EFF_FAB 1).set CLK_READY_XTAL_A 1).set FAB_CTRL_NEAR_EN 1).set FAB_BULK_CFG_PATHS 1).set FAB_BULK_CFG_BUDGET 10) with boot := { State.reset.boot with profile := [(0x8005, List.replicate 32 1#8)] }, fab := { State.reset.fab with paths := [{ State.reset.pth 0 with ests := [0, 0], delay := some 0, heard := some 0 }, {}] } }).fab with bulk := [⟨0, 1, 5, [1, 2]⟩] }, pins := { State.reset.pins with txDisable := [false, false] } },
     ⟨0, 1, 5, [1, 2]⟩, by decide +kernel⟩⟩

theorem witness_BridleDetectorCommands :
    (∃ (s : State) (v : Nat), s.pins.powered = true ∧ s.get BRD_BUS_LIM_BUS_OV ≤ v) ∧
    (∃ (s : State) (v : Nat), s.pins.powered = true ∧ v < s.get BRD_BUS_LIM_BUS_OV) ∧
    (∃ (s : State) (v : Nat), s.pins.powered = true ∧ s.inService = true ∧ v < s.get BRD_BUS_LIM_BUS_UV) ∧
    (∃ (s : State) (v : Nat), s.pins.powered = true ∧ ((s.inService = false ∨ s.get BRD_BUS_LIM_BUS_UV ≤ v))) ∧
    (∃ (s : State) (v : Nat), s.pins.powered = true ∧ s.get BRD_STR_LIM_STR_OV < v) ∧
    (∃ (s : State) (v : Nat), s.pins.powered = true ∧ v ≤ s.get BRD_STR_LIM_STR_OV) ∧
    (∃ (s : State) (x : StrNo) (v : Nat), s.pins.powered = true ∧ bitOf (s.get SYS_CONN_STATUS_CONT_FB) x.val = true ∧ v <
      s.get BRD_STR_LIM_STR_UV) ∧
    (∃ (s : State) (x : StrNo) (v : Nat), s.pins.powered = true ∧ ((bitOf (s.get SYS_CONN_STATUS_CONT_FB) x.val = false ∨
      s.get BRD_STR_LIM_STR_UV ≤ v))) ∧
    (∃ (s : State) (k : Fin 4) (c : Fin 256), s.pins.powered = true ∧ s.get (tempLim k.val) < c.val) ∧
    (∃ (s : State) (k : Fin 4) (c : Fin 256), s.pins.powered = true ∧ c.val ≤ s.get (tempLim k.val)) ∧
    (∃ (s : State) (n : Fin 65536) (k : Fin 4), s.pins.powered = true ∧ n.val = 0x0506 + k.val) ∧
    (∃ (s : State) (n : Fin 65536), s.pins.powered = true ∧ n.val ∉ [0x0101, 0x0102, 0x0103, 0x0401, 0x0402, 0x0506,
      0x0507, 0x0508, 0x0509]) ∧
    (∃ (s : State) (w : Fin 3), s.pins.powered = true ∧ s.enOf w.val = false ∧ s.fbOf w.val = true) ∧
    (∃ (s : State) (w : Fin 3), s.pins.powered = true ∧ s.enOf w.val = true ∧ s.fbOf w.val = false) ∧
    (∃ (s : State) (w : Fin 3), s.pins.powered = true ∧ s.fbOf w.val = s.enOf w.val) ∧
    (∃ (s : State) (w : Fin 3), s.pins.powered = true ∧ s.fbOf w.val ≠ s.enOf w.val) ∧
    (∃ (s : State) (d : Fin 2) (c : Fin 256), s.pins.powered = true ∧ d.val < s.dies ∧ 110 < c.val) ∧
    (∃ (s : State) (d : Fin 2) (c : Fin 256), s.pins.powered = true ∧ d.val < s.dies ∧ c.val < 100) ∧
    (∃ (s : State) (d : Fin 2) (c : Fin 256), s.pins.powered = true ∧ ((s.dies ≤ d.val ∨ 100 ≤ c.val ∧ c.val ≤ 110))) :=
  ⟨⟨State.reset, 6000, by decide⟩,
   ⟨State.reset, 5899, by decide⟩,
   ⟨(State.reset.set SYS_SHELF_STATE_STATE 3), 4599, by decide⟩,
   ⟨(State.reset.set SYS_SHELF_STATE_STATE 3), 4600, by decide⟩,
   ⟨State.reset, 1851, by decide⟩,
   ⟨State.reset, 1850, by decide⟩,
   ⟨(State.reset.set SYS_CONN_STATUS_CONT_FB 2), 1, 1039, by decide⟩,
   ⟨State.reset, 1, 1040, by decide⟩,
   ⟨State.reset, 2, 200, by decide⟩,
   ⟨State.reset, 2, 20, by decide⟩,
   ⟨State.reset, 0x0507, 1, by decide⟩,
   ⟨State.reset, 0x0503, by decide⟩,
   ⟨(State.reset.set SYS_CONN_STATUS_CONT_FB 2), 1, by decide⟩,
   ⟨{ State.reset with pins := { State.reset.pins with isoEn := true } }, 2, by decide⟩,
   ⟨State.reset, 1, by decide⟩,
   ⟨(State.reset.set SYS_CONN_STATUS_CONT_FB 2), 1, by decide⟩,
   ⟨State.reset, 0, 111, by decide⟩,
   ⟨State.reset, 1, 99, by decide⟩,
   ⟨State.reset, 1, 105, by decide⟩⟩

theorem witness_ContactorAndRecoveryCommands :
    (∃ (s : State) (x : StrNo), s.pins.powered = true ∧ x.val ∈ s.brd.openDue ∧ s.isSet HRN_OV_CTRL_LATCHED = false) ∧
    (∃ (s : State) (x : StrNo), s.pins.powered = true ∧ ((x.val ∉ s.brd.openDue ∨ s.isSet HRN_OV_CTRL_LATCHED = true))) ∧
    (∃ (s : State) (w : Fin 3), s.pins.powered = true ∧ s.boot.fwRuns = true ∧ ((s.closeBlocked w.val = true ∨ s.inService
      = false ∧ (s.shelf ≠ stArming ∨ s.boot.contRequested = false)))) ∧
    (∃ (s : State) (w : Fin 3), s.pins.powered = true ∧ s.boot.fwRuns = true ∧ s.closeBlocked w.val = false ∧
      ((s.inService = true ∨ s.shelf = stArming ∧ s.boot.contRequested = true))) ∧
    (∃ (s : State), s.pins.powered = true ∧ s.boot.fwRuns = false) ∧
    (∃ (s : State) (x : StrNo), s.pins.powered = true ∧ x.val ∈ s.brd.returning ∧ s.contFb x.val = true) ∧
    (∃ (s : State) (x : StrNo), s.pins.powered = true ∧ s.mayReturn x.val = true ∧ x.val ∉ s.brd.openDue ∧ s.contFb x.val
      = false) ∧
    (∃ (s : State) (x : StrNo), s.pins.powered = true ∧ x.val ∉ s.brd.returning ∧ s.mayReturn x.val = true ∧ x.val ∉
      s.brd.openDue ∧ s.contFb x.val = true) ∧
    (∃ (s : State) (x : StrNo), s.pins.powered = true ∧ ((x.val ∉ s.brd.returning ∨ s.contFb x.val = false)) ∧
      ((s.mayReturn x.val = false ∨ x.val ∈ s.brd.openDue))) ∧
    (∃ (s : State), s.pins.powered = true ∧ s.boot.fwRuns = true ∧ s.get BOOT_STATUS_BUNDLE = 4) ∧
    (∃ (s : State), s.pins.powered = true ∧ ((s.boot.fwRuns = false ∨ s.get BOOT_STATUS_BUNDLE ≠ 4))) ∧
    (∃ (s : State), s.pins.powered = true ∧ s.isSet BRD_STATUS_WDT_RUN = true) ∧
    (∃ (s : State), s.pins.powered = true ∧ s.isSet BRD_STATUS_WDT_RUN = false) ∧
    (∃ (s : State), s.pins.powered = true ∧ s.brd.fwRestart = true ∧ s.rmt.tackMap.all (· < 5) = true) ∧
    (∃ (s : State) (ok : Bool), s.pins.powered = true ∧ s.brd.fwRestart = true ∧ ((ok = false ∨ s.rmt.tackMap.all (· < 5)
      = false)) ∧ ((s.armedStates = true ∨ s.shelf = stIsolated))) ∧
    (∃ (s : State) (ok : Bool), s.pins.powered = true ∧ s.brd.fwRestart = true ∧ ((ok = false ∨ s.rmt.tackMap.all (· < 5)
      = false)) ∧ s.armedStates = false ∧ s.shelf ≠ stIsolated) ∧
    (∃ (s : State), s.pins.powered = true ∧ s.brd.fwRestart = false) ∧
    (∃ (s : State), s.pins.powered = true ∧ s.get BRD_STATUS_RECOV = 1 ∧ s.brd.holdoff.isSome = true ∧ s.shelf =
      stIsolated ∧ s.boot.disarmKept = false) ∧
    (∃ (s : State), s.pins.powered = true ∧ ((s.get BRD_STATUS_RECOV ≠ 1 ∨ s.brd.holdoff = none ∨ s.shelf ≠ stIsolated ∨
      s.boot.disarmKept = true))) ∧
    (∃ (s : State), s.pins.powered = true ∧ s.get BRD_STATUS_RECOV = 3 ∧ s.inService = true) ∧
    (∃ (s : State), s.pins.powered = true ∧ ((s.get BRD_STATUS_RECOV ≠ 3 ∨ s.inService = false))) ∧
    (∃ (s : State), s.pins.powered = true ∧ s.brd.ssOff = true ∧ s.shelf = stArming) ∧
    (∃ (s : State), s.pins.powered = true ∧ ((s.brd.ssOff = false ∨ s.shelf ≠ stArming))) ∧
    (∃ (s : State) (a : Nat) (b : Nat), s.pins.powered = true ∧ s.shelf = stArming ∧ s.boot.armStep = 5 ∧ s.brd.ssOff =
      false ∧ 1000 < (10 * ((a : Int) - b)).natAbs ∧ s.get BRD_STATUS_SS_USED < s.get BRD_SS_CFG_SS_BUDGET) ∧
    (∃ (s : State) (a : Nat) (b : Nat), s.pins.powered = true ∧ s.shelf = stArming ∧ s.boot.armStep = 5 ∧ s.brd.ssOff =
      false ∧ 1000 < (10 * ((a : Int) - b)).natAbs ∧ s.get BRD_SS_CFG_SS_BUDGET ≤ s.get BRD_STATUS_SS_USED ∧
      s.brd.active = []) ∧
    (∃ (s : State) (a : Nat) (b : Nat), s.pins.powered = true ∧ ((s.shelf ≠ stArming ∨ s.boot.armStep ≠ 5 ∨ s.brd.ssOff =
      true ∨ (10 * ((a : Int) - b)).natAbs ≤ 1000))) :=
  ⟨⟨{ { State.reset with brd := { State.reset.brd with openDue := [0, 1] } } with pins := { { State.reset with brd := { State.reset.brd with openDue := [0, 1] } }.pins with contEn := [true, true] } },
     1, by decide⟩,
   ⟨State.reset, 1, by decide⟩,
   ⟨{ (State.reset.set HRN_OV_CTRL_LATCHED 1) with boot := { State.reset.boot with fwRuns := true } }, 2, by decide⟩,
   ⟨{ (State.reset.set SYS_SHELF_STATE_STATE 3) with boot := { State.reset.boot with fwRuns := true } }, 0, by decide⟩,
   ⟨State.reset, by decide⟩,
   ⟨{ (State.reset.set SYS_CONN_STATUS_CONT_FB 2) with brd := { (State.reset.set SYS_CONN_STATUS_CONT_FB 2).brd with returning := [1] } },
     1, by decide⟩,
   ⟨{ (((((State.reset.set SYS_SHELF_STATE_STATE 3).set (RING_MON_STATUS_MSTATE 1 0) 1).set (RING_MON_STATUS_MSTATE 1 1) 1).set (RING_MON_STATUS_MSTATE 1 2) 1).set (RING_MON_STATUS_MSTATE 1 3) 1) with brd := { (((((State.reset.set SYS_SHELF_STATE_STATE 3).set (RING_MON_STATUS_MSTATE 1 0) 1).set (RING_MON_STATUS_MSTATE 1 1) 1).set (RING_MON_STATUS_MSTATE 1 2) 1).set (RING_MON_STATUS_MSTATE 1 3) 1).brd with strOut := [1] } },
     1, by decide⟩,
   ⟨{ ((((((State.reset.set SYS_SHELF_STATE_STATE 3).set SYS_CONN_STATUS_CONT_FB 2).set (RING_MON_STATUS_MSTATE 1 0) 1).set (RING_MON_STATUS_MSTATE 1 1) 1).set (RING_MON_STATUS_MSTATE 1 2) 1).set (RING_MON_STATUS_MSTATE 1 3) 1) with brd := { ((((((State.reset.set SYS_SHELF_STATE_STATE 3).set SYS_CONN_STATUS_CONT_FB 2).set (RING_MON_STATUS_MSTATE 1 0) 1).set (RING_MON_STATUS_MSTATE 1 1) 1).set (RING_MON_STATUS_MSTATE 1 2) 1).set (RING_MON_STATUS_MSTATE 1 3) 1).brd with strOut := [1] } },
     1, by decide⟩,
   ⟨State.reset, 1, by decide⟩,
   ⟨{ (State.reset.set BOOT_STATUS_BUNDLE 4) with boot := { State.reset.boot with fwRuns := true } }, by decide⟩,
   ⟨State.reset, by decide⟩,
   ⟨(State.reset.set BRD_STATUS_WDT_RUN 1), by decide⟩,
   ⟨State.reset, by decide⟩,
   ⟨{ State.reset with brd := { State.reset.brd with fwRestart := true } }, by decide⟩,
   ⟨{ (State.reset.set SYS_SHELF_STATE_STATE 3) with brd := { (State.reset.set SYS_SHELF_STATE_STATE 3).brd with fwRestart := true } },
     false, by decide⟩,
   ⟨{ State.reset with brd := { State.reset.brd with fwRestart := true } }, false, by decide⟩,
   ⟨State.reset, by decide⟩,
   ⟨{ ((State.reset.set SYS_SHELF_STATE_STATE 5).set BRD_STATUS_RECOV 1) with brd := { ((State.reset.set SYS_SHELF_STATE_STATE 5).set BRD_STATUS_RECOV 1).brd with holdoff := some 0 } },
     by decide⟩,
   ⟨State.reset, by decide⟩,
   ⟨((State.reset.set SYS_SHELF_STATE_STATE 3).set BRD_STATUS_RECOV 3), by decide⟩,
   ⟨State.reset, by decide⟩,
   ⟨{ (State.reset.set SYS_SHELF_STATE_STATE 2) with brd := { (State.reset.set SYS_SHELF_STATE_STATE 2).brd with ssOff := true } },
     by decide⟩,
   ⟨State.reset, by decide⟩,
   ⟨{ (State.reset.set SYS_SHELF_STATE_STATE 2) with boot := { State.reset.boot with armStep := 5 } }, 5000, 4000,
     by decide⟩,
   ⟨{ ((State.reset.set SYS_SHELF_STATE_STATE 2).set BRD_SS_CFG_SS_BUDGET 0) with boot := { State.reset.boot with armStep := 5 }, brd := { State.reset.brd with active := [] } },
     5000, 4000, by decide⟩,
   ⟨State.reset, 5100, 5000, by decide⟩⟩

theorem witness_RaisedFaultsIsolate : ∃ s : State, s.armedStates = true ∧ (0x0101, 0) ∉ s.brd.active ∧ (s.classOf
    0x0101 0 = 2 ∧ (0x0101 : Nat) ≠ 0x0601 ∨ s.classOf 0x0101 0 = 3) := ⟨(State.reset.set SYS_SHELF_STATE_STATE 3), by
    decide⟩

theorem witness_CoolingAndHostCommands :
    (∃ (s : State) (p : Fin 2) (n : Nat), s.pins.powered = true ∧ s.boot.fwRuns = true ∧ bitOf (s.cool 0 1 3) p.val = true
      ∧ ((60 * n : Nat) : Rat) / ((s.cool 1 1 2 : Nat) : Rat) < ((s.cool 4 2 600 : Nat) : Rat)) ∧
    (∃ (s : State) (p : Fin 2) (n : Nat), s.pins.powered = true ∧ ((s.boot.fwRuns = false ∨ bitOf (s.cool 0 1 3) p.val =
      false ∨ ((s.cool 4 2 600 : Nat) : Rat) ≤ ((60 * n : Nat) : Rat) / ((s.cool 1 1 2 : Nat) : Rat)))) ∧
    (∃ (s : State) (n : Nat), s.pins.powered = true ∧ s.boot.fwRuns = true ∧ ((3000 * n : Nat) : Rat) / ((s.cool 2 2 500 :
      Nat) : Rat) < ((s.cool 6 2 120 : Nat) : Rat)) ∧
    (∃ (s : State) (n : Nat), s.pins.powered = true ∧ ((s.boot.fwRuns = false ∨ ((s.cool 6 2 120 : Nat) : Rat) ≤ ((3000 *
      n : Nat) : Rat) / ((s.cool 2 2 500 : Nat) : Rat)))) ∧
    (∃ (s : State) (c : Fin 256), s.pins.powered = true ∧ s.boot.fwRuns = true ∧ 45 < c.val) ∧
    (∃ (s : State) (c : Fin 256), s.pins.powered = true ∧ ((s.boot.fwRuns = false ∨ c.val ≤ 45))) ∧
    (∃ (s : State), s.pins.powered = true ∧ s.pumpsLost = false) ∧
    (∃ (s : State), s.pins.powered = true ∧ s.pumpsLost = true) ∧
    (∃ (s : State) (o : Int), s.pins.powered = true ∧ ((s.cool 9 1 0 = 0 ∨ s.boot.fwRuns = false ∨ s.isSet CLK_STATUS_HOLD
      = true ∨ s.cooling = true ∨ s.codeActive 0x0503 = true ∨ (s.cool 11 1 0 : Nat) ≤ o))) ∧
    (∃ (s : State) (o : Int), s.pins.powered = true ∧ s.boot.fwRuns = true ∧ s.isSet CLK_STATUS_HOLD = false ∧ s.cooling =
      false ∧ s.codeActive 0x0503 = false ∧ s.cool 9 1 0 ≠ 0 ∧ o ≤ (s.cool 10 1 0 : Nat) ∧ o < (s.cool 11 1 0 : Nat)) ∧
    (∃ (s : State) (o : Int), s.pins.powered = true ∧ s.boot.fwRuns = true ∧ s.isSet CLK_STATUS_HOLD = false ∧ s.cooling =
      false ∧ s.codeActive 0x0503 = false ∧ s.cool 9 1 0 ≠ 0 ∧ (s.cool 10 1 0 : Nat) < o ∧ o < (s.cool 11 1 0 : Nat)) ∧
    (∃ (s : State), s.pins.powered = true ∧ s.brd.hostKicked = true ∧ s.get BRD_HOST_CFG_HOST_TMO ≠ 0 ∧ s.isSet
      BRD_STATUS_HOST_LOST = false) ∧
    (∃ (s : State), s.pins.powered = true ∧ ((s.brd.hostKicked = false ∨ s.get BRD_HOST_CFG_HOST_TMO = 0 ∨ s.isSet
      BRD_STATUS_HOST_LOST = true))) ∧
    (∃ (s : State), s.pins.powered = true ∧ s.isSet BRD_STATUS_HOST_LOST = true) ∧
    (∃ (s : State), s.pins.powered = true ∧ s.isSet BRD_STATUS_HOST_LOST = false) :=
  ⟨⟨{ (State.reset.set BRD_COOL_LKS_CAP 150) with boot := { State.reset.boot with fwRuns := true } }, 1, 19,
     by decide +kernel⟩,
   ⟨State.reset, 1, 20, by decide +kernel⟩,
   ⟨{ (State.reset.set BRD_COOL_LKS_CAP 150) with boot := { State.reset.boot with fwRuns := true } }, 9,
     by decide +kernel⟩,
   ⟨State.reset, 20, by decide +kernel⟩,
   ⟨{ (State.reset.set BRD_COOL_LKS_CAP 150) with boot := { State.reset.boot with fwRuns := true } }, 46, by decide⟩,
   ⟨State.reset, 45, by decide⟩,
   ⟨State.reset, by decide⟩,
   ⟨{ State.reset with brd := { State.reset.brd with active := [(0x0501, 1), (0x0502, 2), (0x0503, 0)] } }, by decide⟩,
   ⟨State.reset, 40, by decide⟩,
   ⟨{ (State.reset) with boot := { State.reset.boot with fwRuns := true, profile := [(0x000C, leBytes 1 3 ++ leBytes 1 2 ++ leBytes 2 500 ++ leBytes 2 600 ++ leBytes 2 120 ++ leBytes 1 1 ++ leBytes 1 40 ++ leBytes 1 30 ++ leBytes 1 50 ++ [30#8, 100#8, 100#8, 0#8])] } },
     20, by decide⟩,
   ⟨{ (State.reset) with boot := { State.reset.boot with fwRuns := true, profile := [(0x000C, leBytes 1 3 ++ leBytes 1 2 ++ leBytes 2 500 ++ leBytes 2 600 ++ leBytes 2 120 ++ leBytes 1 1 ++ leBytes 1 40 ++ leBytes 1 30 ++ leBytes 1 50 ++ [30#8, 100#8, 100#8, 0#8])] } },
     37, by decide⟩,
   ⟨{ (State.reset.set BRD_HOST_CFG_HOST_TMO 5) with brd := { (State.reset.set BRD_HOST_CFG_HOST_TMO 5).brd with hostKicked := true } },
     by decide⟩,
   ⟨State.reset, by decide⟩,
   ⟨(State.reset.set BRD_STATUS_HOST_LOST 1), by decide⟩,
   ⟨State.reset, by decide⟩⟩

theorem witness_RecorderCommands :
    (∃ (s : State), s.pins.powered = true ∧ (s.path 0).queue = []) ∧
    (∃ (s : State) (q : QItem) (l : List QItem), s.pins.powered = true ∧ (s.path 0).queue = q :: l ∧ ((s.fenced = true ∨
      s.hrn.lfrQ ≠ [] ∨ s.isSet EST_JNL_STATUS_BUSY = true ∨ s.isSet EST_JNL_STATUS_PENDING = true ∨ s.sectorMoving
      (s.recAddr q.rec_) = true))) ∧
    (∃ (s : State) (q : QItem) (l : List QItem), s.pins.powered = true ∧ (s.path 0).queue = q :: l ∧ s.rmt.due = false ∧
      s.fenced = false ∧ s.writerTaken = false ∧ s.sectorMoving (s.recAddr q.rec_) = false) ∧
    (∃ (s : State) (q : QItem) (l : List QItem), s.pins.powered = true ∧ (s.path 0).queue = q :: l ∧ s.fenced = false ∧
      s.writerTaken = false ∧ s.sectorMoving (s.recAddr q.rec_) = false) ∧
    (∃ (s : State) (l : Fin 16), s.pins.powered = true ∧ (s.sbg.snaps.any fun p => p.list == l.val) = false) ∧
    (∃ (s : State) (l : Fin 16), s.pins.powered = true ∧ (s.sbg.snaps.any fun p => p.list == l.val) = true) ∧
    (∃ (s : State) (l : Fin 16), s.pins.powered = true ∧ s.get (SBG_LIST_CFG_TKIND l) = 4 ∧ s.isSet (SBG_LIST_STATUS_BUSY
      l) = false ∧ s.sbg.listFired.getD l none = none) ∧
    (∃ (s : State) (l : Fin 16), s.pins.powered = true ∧ s.get (SBG_LIST_CFG_TKIND l) = 4 ∧ s.isSet (SBG_LIST_STATUS_BUSY
      l) = true) ∧
    (∃ (s : State) (l : Fin 16), s.pins.powered = true ∧ s.get (SBG_LIST_CFG_TKIND l) ≠ 4) ∧
    (∃ (s : State), s.pins.powered = true ∧ s.isSet SBG_STATUS_INC_OPEN = false) ∧
    (∃ (s : State), s.pins.powered = true ∧ s.isSet SBG_STATUS_INC_OPEN = true) ∧
    (∃ (s : State), s.pins.powered = true ∧ s.sbg.incAt + 10 * tickS ≤ s.elapsed) ∧
    (∃ (s : State), s.pins.powered = true ∧ s.elapsed < s.sbg.incAt + 10 * tickS) ∧
    (∃ (s : State), s.pins.powered = true ∧ s.isSet FAB_STATUS_ID_CONFLICT = false ∧ s.rmt.firc = false) ∧
    (∃ (s : State), s.pins.powered = true ∧ s.isSet FAB_STATUS_ID_CONFLICT = true) ∧
    (∃ (s : State) (i : Fin 5), s.pins.powered = true ∧ s.held i.val = false ∧ s.gapWaits i.val = false ∧ ((i.val = 0 →
      s.fenced = false)) ∧ ((s.level i.val = 0 ∨ (s.path i.val).reserveFill + 2 ≤ 256)) ∧ i.val < s.sbg.paths.length ∧
      (s.path i.val).gap.isSome = true) ∧
    (∃ (s : State) (i : Fin 5), s.pins.powered = true ∧ (s.path i.val).gap = none ∧ s.held i.val = false) ∧
    (∃ (s : State) (i : Fin 5), s.pins.powered = true ∧ ((s.held i.val = true ∨ s.gapWaits i.val = true ∨ i.val = 0 ∧
      s.fenced = true ∨ s.level i.val ≠ 0 ∧ 256 < (s.path i.val).reserveFill + 2))) ∧
    (∃ (s : State) (r : Fin 4), s.pins.powered = true ∧ (((s.path (r.val + 1)).queue = [] ∨ s.held (r.val + 1) = true ∨
      (s.path (r.val + 1)).used = false))) ∧
    (∃ (s : State) (r : Fin 4) (q : QItem) (l : List QItem), s.pins.powered = true ∧ (s.path (r.val + 1)).queue = q :: l ∧
      s.held (r.val + 1) = false ∧ (s.path (r.val + 1)).used = true) ∧
    (∃ (s : State) (r : Fin 4) (q : QItem) (l : List QItem), s.pins.powered = true ∧ (s.path (r.val + 1)).queue = q :: l ∧
      s.held (r.val + 1) = false ∧ (s.path (r.val + 1)).used = true ∧ s.sbg.paths.length = 5 ∧ q.rec_.units ≤
      s.ringSize r - s.get (TEL_R_TAIL_UNIT r) ∧ (q.rec_.bytes s.now).length = 64 * q.rec_.units) ∧
    (∃ (s : State) (r : Fin 4) (q : QItem) (l : List QItem), s.pins.powered = true ∧ (s.path (r.val + 1)).queue = q :: l ∧
      s.held (r.val + 1) = false ∧ (s.path (r.val + 1)).used = true ∧ s.sbg.paths.length = 5 ∧ s.ringSize r - s.get
      (TEL_R_TAIL_UNIT r) < q.rec_.units ∧ s.get (TEL_R_TAIL_UNIT r) < s.ringSize r) ∧
    (∃ (s : State) (r : Fin 4), s.pins.powered = true ∧ s.held (r.val + 1) = false ∧ s.gapWaits (r.val + 1) = false ∧
      r.val + 1 < s.sbg.paths.length ∧ (s.path (r.val + 1)).gap.isSome = true) ∧
    (∃ (s : State) (r : Fin 4), s.pins.powered = true ∧ ((s.held (r.val + 1) = true ∨ s.gapWaits (r.val + 1) = true ∨
      (s.path (r.val + 1)).gap = none))) ∧
    (∃ (s : State) (r : Fin 4) (v : Word), s.pins.powered = true ∧ s.ringSize r ≤ v.toNat % 2 ^ 20) ∧
    (∃ (s : State) (r : Fin 4) (v : Word), s.pins.powered = true ∧ v.toNat % 2 ^ 20 < s.ringSize r) :=
  ⟨⟨State.reset, by decide⟩,
   ⟨((State.reset.set EST_JNL_STATUS_FENCE 1)).setPath 0
     { queue := [{ rec_ := { kind := 1, prio := 0, units := 1, domain := 2, seq := 5, time := 9, opsec := 3, cycles := 0, code := 0x0101, incident := 0, cls := 2, key := 0, reps := 0, last := 0, incOpen := false, pinned := false, body := [] }, reserve := false }] },
     { rec_ := { kind := 1, prio := 0, units := 1, domain := 2, seq := 5, time := 9, opsec := 3, cycles := 0, code := 0x0101, incident := 0, cls := 2, key := 0, reps := 0, last := 0, incOpen := false, pinned := false, body := [] }, reserve := false },
     [], by decide⟩,
   ⟨({ (((((State.reset.set EST_JNL_STATUS_FENCE 0).set EST_JNL_STATUS_BUSY 0).set EST_JNL_STATUS_PENDING 0).set (RMT_KIND_STATE 8) 0)) with hrn := { State.reset.hrn with lfrQ := [] }, rmt := { State.reset.rmt with due := false } }).setPath
     0
     { queue := [{ rec_ := { kind := 1, prio := 0, units := 1, domain := 2, seq := 5, time := 9, opsec := 3, cycles := 0, code := 0x0101, incident := 0, cls := 2, key := 0, reps := 0, last := 0, incOpen := false, pinned := false, body := [] }, reserve := false }] },
     { rec_ := { kind := 1, prio := 0, units := 1, domain := 2, seq := 5, time := 9, opsec := 3, cycles := 0, code := 0x0101, incident := 0, cls := 2, key := 0, reps := 0, last := 0, incOpen := false, pinned := false, body := [] }, reserve := false },
     [], by decide⟩,
   ⟨({ (((((State.reset.set EST_JNL_STATUS_FENCE 0).set EST_JNL_STATUS_BUSY 0).set EST_JNL_STATUS_PENDING 0).set (RMT_KIND_STATE 8) 0)) with hrn := { State.reset.hrn with lfrQ := [] }, rmt := { State.reset.rmt with due := false } }).setPath
     0
     { queue := [{ rec_ := { kind := 1, prio := 0, units := 1, domain := 2, seq := 5, time := 9, opsec := 3, cycles := 0, code := 0x0101, incident := 0, cls := 2, key := 0, reps := 0, last := 0, incOpen := false, pinned := false, body := [] }, reserve := false }] },
     { rec_ := { kind := 1, prio := 0, units := 1, domain := 2, seq := 5, time := 9, opsec := 3, cycles := 0, code := 0x0101, incident := 0, cls := 2, key := 0, reps := 0, last := 0, incOpen := false, pinned := false, body := [] }, reserve := false },
     [], by decide⟩,
   ⟨State.reset, 3, by decide⟩,
   ⟨{ State.reset with sbg := { State.reset.sbg with snaps := [⟨3, 0, 0, 0, false⟩] } }, 3, by decide⟩,
   ⟨{ ((State.reset.set (SBG_LIST_CFG_TKIND 3) 4).set (SBG_LIST_STATUS_BUSY 3) 0) with sbg := { ((State.reset.set (SBG_LIST_CFG_TKIND 3) 4).set (SBG_LIST_STATUS_BUSY 3) 0).sbg with listFired := List.replicate 16 none } },
     3, by decide⟩,
   ⟨((State.reset.set (SBG_LIST_CFG_TKIND 3) 4).set (SBG_LIST_STATUS_BUSY 3) 1), 3, by decide⟩,
   ⟨State.reset, 3, by decide⟩,
   ⟨State.reset, by decide⟩,
   ⟨(State.reset.set SBG_STATUS_INC_OPEN 1), by decide⟩,
   ⟨{ State.reset with elapsed := 20 * tickS }, by decide⟩,
   ⟨State.reset, by decide⟩,
   ⟨State.reset, by decide⟩,
   ⟨(State.reset.set FAB_STATUS_ID_CONFLICT 1), by decide⟩,
   ⟨(State.reset).setPath 2 { gap := some { time := 5, cause := 1, lostP1 := 3 } }, 2, by decide⟩,
   ⟨State.reset, 2, by decide⟩,
   ⟨(State.reset).setPath 2 { used := true }, 2, by decide⟩,
   ⟨State.reset, 1, by decide⟩,
   ⟨(((((State.reset.set (TEL_R_CTRL_ENABLE 1) 1).set (TEL_R_CTRL_SIZE_LOG2 1) 12).set (TEL_R_CTRL_THR 1) 4).set
     (TEL_R_CTRL_VEC 1) 70)).setPath 2
     { used := true, queue := [{ rec_ := { kind := 1, prio := 0, units := 1, domain := 2, seq := 5, time := 9, opsec := 3, cycles := 0, code := 0x0101, incident := 0, cls := 2, key := 0, reps := 0, last := 0, incOpen := false, pinned := false, body := [] }, reserve := false }] },
     1,
     { rec_ := { kind := 1, prio := 0, units := 1, domain := 2, seq := 5, time := 9, opsec := 3, cycles := 0, code := 0x0101, incident := 0, cls := 2, key := 0, reps := 0, last := 0, incOpen := false, pinned := false, body := [] }, reserve := false },
     [], by decide⟩,
   ⟨(((((State.reset.set (TEL_R_CTRL_ENABLE 1) 1).set (TEL_R_CTRL_SIZE_LOG2 1) 12).set (TEL_R_CTRL_THR 1) 4).set
     (TEL_R_CTRL_VEC 1) 70)).setPath 2
     { used := true, queue := [{ rec_ := { kind := 1, prio := 0, units := 1, domain := 2, seq := 5, time := 9, opsec := 3, cycles := 0, code := 0x0101, incident := 0, cls := 2, key := 0, reps := 0, last := 0, incOpen := false, pinned := false, body := [] }, reserve := false }] },
     1,
     { rec_ := { kind := 1, prio := 0, units := 1, domain := 2, seq := 5, time := 9, opsec := 3, cycles := 0, code := 0x0101, incident := 0, cls := 2, key := 0, reps := 0, last := 0, incOpen := false, pinned := false, body := [] }, reserve := false },
     [], by decide⟩,
   ⟨(((((((State.reset.set (TEL_R_CTRL_ENABLE 1) 1).set (TEL_R_CTRL_SIZE_LOG2 1) 12).set (TEL_R_CTRL_THR 1) 4).set
     (TEL_R_CTRL_VEC 1) 70).set (TEL_R_TAIL_UNIT 1) 4094).set (TEL_R_HEAD_UNIT 1) 100)).setPath 2
     { used := true, queue := [{ rec_ := { kind := 1, prio := 0, units := 3, domain := 2, seq := 5, time := 9, opsec := 3, cycles := 0, code := 0x0101, incident := 0, cls := 2, key := 0, reps := 0, last := 0, incOpen := false, pinned := false, body := [] }, reserve := false }] },
     1,
     { rec_ := { kind := 1, prio := 0, units := 3, domain := 2, seq := 5, time := 9, opsec := 3, cycles := 0, code := 0x0101, incident := 0, cls := 2, key := 0, reps := 0, last := 0, incOpen := false, pinned := false, body := [] }, reserve := false },
     [], by decide⟩,
   ⟨(State.reset).setPath 2 { used := false, gap := some { time := 5, cause := 1, lostP1 := 3 } }, 1, by decide⟩,
   ⟨State.reset, 1, by decide⟩,
   ⟨((((State.reset.set (TEL_R_CTRL_ENABLE 1) 1).set (TEL_R_CTRL_SIZE_LOG2 1) 12).set (TEL_R_CTRL_THR 1) 4).set
     (TEL_R_CTRL_VEC 1) 70), 1, 0x1000, by decide⟩,
   ⟨((((State.reset.set (TEL_R_CTRL_ENABLE 1) 1).set (TEL_R_CTRL_SIZE_LOG2 1) 12).set (TEL_R_CTRL_THR 1) 4).set
     (TEL_R_CTRL_VEC 1) 70), 1, 0xFFF, by decide⟩⟩

theorem witness_RemountCommands :
    (∃ (s : State) (i : TrigIn), s.pins.powered = true ∧ (((s.trigNote i).targetOk i.kind i.target = false ∨ (s.trigNote
      i).meets i = none))) ∧
    (∃ (s : State) (i : TrigIn), s.pins.powered = true ∧ i.kind.val ≠ 3 ∧ i.kind.val ≠ 4 ∧ i.kind.val ≠ 5) ∧
    (∃ (s : State) (i : TrigIn), s.pins.powered = true ∧ i.kind.val = 4 ∧ i.target.val < s.rmt.hbm.length) ∧
    (∃ (s : State) (i : TrigIn), s.pins.powered = true ∧ ((i.kind.val = 3 ∨ i.kind.val = 5)) ∧ i.target.val =
      s.rmt.repairs.length ∧ i.target.val < 256) ∧
    (∃ (s : State) (i : TrigIn), s.pins.powered = true ∧ i.kind.val = 0) ∧
    (∃ (s : State) (i : TrigIn), s.pins.powered = true ∧ i.kind.val = 2) ∧
    (∃ (s : State) (i : TrigIn), s.pins.powered = true ∧ i.kind.val = 3) ∧
    (∃ (s : State) (i : TrigIn), s.pins.powered = true ∧ i.kind.val = 4) ∧
    (∃ (s : State) (i : TrigIn), s.pins.powered = true ∧ i.kind.val = 5) ∧
    (∃ (s : State) (i : TrigIn) (c : Nat), s.pins.powered = true ∧ s.rmt.turn = [] ∧ (s.trigNote i).targetOk i.kind
      i.target = true ∧ (s.trigNote i).meets i = some c ∧ (s.trigNote i).known i.kind i.target = false ∧ (s.trigNote
      i).kindFree i.kind = true ∧ ((i.kind.val ≠ 5 ∨ i.resource = true)) ∧ bitOf (s.get RMT_CTRL_AUTO) i.kind = false) ∧
    (∃ (s : State) (i : TrigIn) (c : Nat), s.pins.powered = true ∧ s.rmt.turn = [] ∧ (s.trigNote i).targetOk i.kind
      i.target = true ∧ (s.trigNote i).meets i = some c ∧ (s.trigNote i).known i.kind i.target = false ∧ (s.trigNote
      i).kindFree i.kind = true ∧ ((i.kind.val ≠ 5 ∨ i.resource = true)) ∧ bitOf (s.get RMT_CTRL_AUTO) i.kind = true ∧
      (s.trigNote i).spareList i.kind i.target ≠ []) ∧
    (∃ (s : State) (i : TrigIn) (c : Nat), s.pins.powered = true ∧ s.rmt.turn = [] ∧ (s.trigNote i).targetOk i.kind
      i.target = true ∧ (s.trigNote i).meets i = some c ∧ (s.trigNote i).known i.kind i.target = false ∧ (s.trigNote
      i).kindFree i.kind = true ∧ ((i.kind.val = 5 ∧ i.resource = false ∨ bitOf (s.get RMT_CTRL_AUTO) i.kind = true ∧
      (s.trigNote i).spareList i.kind i.target = []))) ∧
    (∃ (s : State) (i : TrigIn) (c : Nat), s.pins.powered = true ∧ (s.trigNote i).targetOk i.kind i.target = true ∧
      (s.trigNote i).meets i = some c ∧ (s.trigNote i).known i.kind i.target = true ∧ (s.trigNote i).kindFree i.kind =
      false) ∧
    (∃ (s : State) (i : TrigIn) (c : Nat), s.pins.powered = true ∧ (s.trigNote i).targetOk i.kind i.target = true ∧
      (s.trigNote i).meets i = some c ∧ (s.trigNote i).known i.kind i.target = false ∧ (s.trigNote i).kindFree i.kind
      = false) ∧
    (∃ (s : State) (v : Word), s.pins.powered = true ∧ s.reqOk (fieldGet v 28 4) (fieldGet v 16 12) = false) ∧
    (∃ (s : State) (v : Word), s.pins.powered = true ∧ s.reqOk (fieldGet v 28 4) (fieldGet v 16 12) = true ∧ s.rmt.turn =
      [] ∧ s.spareList (fieldGet v 28 4) (fieldGet v 16 12) = []) ∧
    (∃ (s : State) (v : Word), s.pins.powered = true ∧ s.reqOk (fieldGet v 28 4) (fieldGet v 16 12) = true ∧ s.rmt.turn =
      [] ∧ s.spareList (fieldGet v 28 4) (fieldGet v 16 12) ≠ []) ∧
    (∃ (s : State) (k : Fin 10), s.pins.powered = true ∧ s.kst k ≠ rWait) ∧
    (∃ (s : State) (k : Fin 10), s.pins.powered = true ∧ s.kst k = rWait ∧ s.rmt.turn = []) ∧
    (∃ (s : State) (v : Word), s.pins.powered = true ∧ ((s.shelf ≠ stPassive ∨ 2 ≤ (fieldGet v 28 4) ∨ 104 ≤ (fieldGet v
      16 12)))) ∧
    (∃ (s : State) (v : Word), s.pins.powered = true ∧ s.shelf = stPassive ∧ (fieldGet v 28 4) = 0 ∧ (fieldGet v 16 12) <
      104) ∧
    (∃ (s : State) (v : Word), s.pins.powered = true ∧ s.shelf = stPassive ∧ (fieldGet v 28 4) = 1 ∧ (fieldGet v 16 12) <
      104 ∧ s.rmt.cells.length = 104) ∧
    (∃ (s : State), s.pins.powered = true ∧ s.kst 0 = rWait ∧ s.armedStates = true ∧ s.hrn.phHold = none ∧ s.get
      (HRN_GRP_STATUS_STATE 12) ∉ [2, 3, 4] ∧ (s.hrn.strCmd.getD (chanString (s.subst 0).target) 0).natAbs * 8192 ≤
      s.spare 10 2 1000 * 2 ^ 31) ∧
    (∃ (s : State), s.pins.powered = true ∧ ((s.kst 0 ≠ rWait ∨ s.armedStates = false ∨ s.hrn.phHold.isSome = true ∨ s.get
      (HRN_GRP_STATUS_STATE 12) ∈ [2, 3, 4] ∨ s.spare 10 2 1000 * 2 ^ 31 < (s.hrn.strCmd.getD (chanString (s.subst
      0).target) 0).natAbs * 8192))) ∧
    (∃ (s : State) (k : Fin 10), s.pins.powered = true ∧ s.kst k = rWait ∧ s.gateMet k = true ∧ (s.subst k).spare ∈
      s.spareList k (s.subst k).target) ∧
    (∃ (s : State) (k : Fin 10), s.pins.powered = true ∧ s.kst k = rWait ∧ s.gateMet k = true ∧ s.spareList k (s.subst
      k).target = [] ∧ s.rmt.turn = []) ∧
    (∃ (s : State) (k : Fin 10) (p : Nat), s.pins.powered = true ∧ s.kst k = rWait ∧ s.gateMet k = true ∧ (s.subst
      k).spare ∉ s.spareList k (s.subst k).target ∧ (s.spareList k (s.subst k).target).head? = some p) ∧
    (∃ (s : State) (k : Fin 10), s.pins.powered = true ∧ ((s.kst k ≠ rWait ∨ s.gateMet k = false))) ∧
    (∃ (s : State) (k : Fin 10), s.pins.powered = true ∧ s.kst k = rSwitch ∧ (k.val ≠ 1 ∧ k.val ≠ 2 ∧ k.val ≠ 9) ∧
      s.clk.waiting = []) ∧
    (∃ (s : State) (k : Fin 10), s.pins.powered = true ∧ s.kst k = rSwitch ∧ k.val ≠ 1 ∧ s.rmt.turn = [] ∧ s.clk.waiting =
      []) ∧
    (∃ (s : State), s.pins.powered = true ∧ s.kst 1 = rSwitch ∧ s.get (RING_SWAP_STATE ((s.subst 1).target / 52)) = 5) ∧
    (∃ (s : State), s.pins.powered = true ∧ s.kst 1 = rSwitch ∧ s.rmt.turn = [] ∧ s.get (RING_SWAP_STATE ((s.subst
      1).target / 52)) = 6) ∧
    (∃ (s : State), s.pins.powered = true ∧ s.kst 1 = rSwitch ∧ s.get (RING_SWAP_STATE ((s.subst 1).target / 52)) ∉ [5,
      6]) ∧
    (∃ (s : State), s.pins.powered = true ∧ s.kst 2 = rSwitch) ∧
    (∃ (s : State), s.pins.powered = true ∧ s.kst 9 = rSwitch) ∧
    (∃ (s : State) (k : Fin 10), s.pins.powered = true ∧ s.kst k ≠ rSwitch) ∧
    (∃ (s : State) (k : Fin 10) (ok : Bool), s.pins.powered = true ∧ s.kst k = rVerify ∧ s.rmt.turn = [] ∧ s.sound k ok =
      true) ∧
    (∃ (s : State) (k : Fin 10) (ok : Bool), s.pins.powered = true ∧ s.kst k = rVerify ∧ s.rmt.turn = [] ∧ s.sound k ok =
      false) ∧
    (∃ (s : State) (k : Fin 10), s.pins.powered = true ∧ s.kst k ≠ rVerify) ∧
    (∃ (s : State) (n : Nat), s.pins.powered = true ∧ n ≤ 50 ∧ s.rmt.inputs.length = 224) ∧
    (∃ (s : State) (b : Fin 8) (i : Fin 28) (n : Nat), s.pins.powered = true ∧ 50 < n ∧ s.rmt.inputs.length = 224 ∧
      (s.rmt.inputs.getD (28 * b.val + i.val) {}).run ≠ 2 ∧ (s.rmt.inputs.getD (28 * b.val + i.val) {}).run ≤ 3) ∧
    (∃ (s : State) (b : Fin 8) (i : Fin 28) (n : Nat), s.pins.powered = true ∧ 50 < n ∧ s.rmt.inputs.length = 224 ∧
      (s.rmt.inputs.getD (28 * b.val + i.val) {}).run = 2 ∧ s.kindFree 7 = true ∧ s.rmt.turn = [] ∧ bitOf (s.get
      RMT_CTRL_AUTO) 7 = false) ∧
    (∃ (s : State), s.pins.powered = true ∧ s.fenced = false ∧ s.wearFree = true) ∧
    (∃ (s : State), s.pins.powered = true ∧ s.fenced = false ∧ s.wearFree = false) ∧
    (∃ (s : State), s.pins.powered = true ∧ s.fenced = true) ∧
    (∃ (s : State) (c : Fin 4), s.pins.powered = true ∧ s.freeTack = true ∧ s.kindFree 6 = true ∧ c.val <
      s.rmt.tackMap.length ∧ s.rmt.tackMap.getD c.val c.val < 4 ∧ s.rmt.subst.length = 10) ∧
    (∃ (s : State) (c : Fin 4), s.pins.powered = true ∧ ((s.freeTack = false ∨ s.kindFree 6 = false ∨ s.rmt.tackMap.getD
      c.val c.val = 4))) ∧
    (∃ (s : State), s.pins.powered = true ∧ ((s.isSet CLK_STATUS_HOLD = false ∨ s.isSet CLK_READY_XTAL_A = true ∨ s.get
      CLK_SRC_SEL_PLL_REF ≠ 0 ∨ s.known 9 0 = true))) ∧
    (∃ (s : State), s.pins.powered = true ∧ s.isSet CLK_STATUS_HOLD = true ∧ s.isSet CLK_READY_XTAL_A = false ∧ s.get
      CLK_SRC_SEL_PLL_REF = 0 ∧ s.known 9 0 = false ∧ s.kindFree 9 = true ∧ s.rmt.turn = [] ∧ bitOf (s.get
      RMT_CTRL_AUTO) 9 = false) ∧
    (∃ (s : State), s.pins.powered = true ∧ s.isSet CLK_STATUS_HOLD = true ∧ s.isSet CLK_READY_XTAL_A = false ∧ s.get
      CLK_SRC_SEL_PLL_REF = 0 ∧ s.known 9 0 = false ∧ s.kindFree 9 = true ∧ s.rmt.turn = [] ∧ bitOf (s.get
      RMT_CTRL_AUTO) 9 = true ∧ s.isSet CLK_READY_FIRC = true ∧ s.isSet CLK_STATUS_SW_BUSY = false) :=
  ⟨⟨State.reset, ⟨0, 5, 0, 0x8000001000, 0, false, true⟩, by decide⟩,
   ⟨State.reset, ⟨0, 5, 0, 0x8000001000, 0, false, true⟩, by decide⟩,
   ⟨State.reset, ⟨4, 5, 0, 0x8000001000, 9, false, true⟩, by decide⟩,
   ⟨{ (State.reset) with rmt := { (State.reset).rmt with repairs := [] } }, ⟨3, 0, 0, 0x8000001000, 9, false, true⟩,
     by decide⟩,
   ⟨State.reset, ⟨0, 5, 0, 0x8000001000, 0, false, true⟩, by decide⟩,
   ⟨State.reset, ⟨2, 5, 0, 0x8000001000, 0, false, true⟩, by decide⟩,
   ⟨State.reset, ⟨3, 5, 0, 0x8000001000, 0, false, true⟩, by decide⟩,
   ⟨State.reset, ⟨4, 5, 0, 0x8000001000, 0, false, true⟩, by decide⟩,
   ⟨State.reset, ⟨5, 5, 0, 0x8000001000, 0, false, true⟩, by decide⟩,
   ⟨{ ((((State.reset.set (HRN_CH_CTRL_ROLE 5) 1).set (RMT_KIND_STATE 0) 0).set RMT_CTRL_AUTO 0)) with rmt := { ((((State.reset.set (HRN_CH_CTRL_ROLE 5) 1).set (RMT_KIND_STATE 0) 0).set RMT_CTRL_AUTO 0)).rmt with phase := List.replicate 104 { faults := 3 }, turn := [], worn := [] } },
     ⟨0, 5, 0, 0x8000001000, 0, false, true⟩, 0, by decide⟩,
   ⟨{ ({ (((((State.reset.set (HRN_CH_CTRL_ROLE 5) 1).set (HRN_CH_CTRL_ROLE 97) 2).set (RMT_KIND_STATE 0) 0).set RMT_CTRL_AUTO 1)) with rmt := { (((((State.reset.set (HRN_CH_CTRL_ROLE 5) 1).set (HRN_CH_CTRL_ROLE 97) 2).set (RMT_KIND_STATE 0) 0).set RMT_CTRL_AUTO 1)).rmt with phase := List.replicate 104 { faults := 3 }, turn := [], worn := [] } }) with hrn := { State.reset.hrn with phHold := none } },
     ⟨0, 5, 0, 0x8000001000, 0, false, true⟩, 0, by decide⟩,
   ⟨{ ((State.reset.set (RMT_KIND_STATE 5) 0)) with rmt := { ((State.reset.set (RMT_KIND_STATE 5) 0)).rmt with turn := [], repairs := [⟨5, 0, 1, 0x100, 0⟩] } },
     ⟨5, 0, 0, 0x8000001000, 0, true, false⟩, 1, by decide⟩,
   ⟨{ ((((State.reset.set (HRN_CH_CTRL_ROLE 5) 1).set (RMT_KIND_STATE 0) 1).set (RMT_KIND_TARGET 0) 5)) with rmt := { ((((State.reset.set (HRN_CH_CTRL_ROLE 5) 1).set (RMT_KIND_STATE 0) 1).set (RMT_KIND_TARGET 0) 5)).rmt with phase := List.replicate 104 { faults := 3 } } },
     ⟨0, 5, 0, 0x8000001000, 0, false, true⟩, 0, by decide⟩,
   ⟨{ ((((State.reset.set (HRN_CH_CTRL_ROLE 5) 1).set (RMT_KIND_STATE 0) 1).set (RMT_KIND_TARGET 0) 6)) with rmt := { ((((State.reset.set (HRN_CH_CTRL_ROLE 5) 1).set (RMT_KIND_STATE 0) 1).set (RMT_KIND_TARGET 0) 6)).rmt with phase := List.replicate 104 { faults := 3 }, turn := [] } },
     ⟨0, 5, 0, 0x8000001000, 0, false, true⟩, 0, by decide⟩,
   ⟨State.reset, 0x90000000, by decide⟩,
   ⟨{ ((State.reset.set (RMT_KIND_STATE 0) 0)) with rmt := { ((State.reset.set (RMT_KIND_STATE 0) 0)).rmt with turn := [], worn := (List.range 104).map fun n => (0, n) } },
     0x0005FFF0, by decide⟩,
   ⟨{ ((((State.reset.set (RMT_KIND_STATE 0) 0).set (HRN_CH_CTRL_ROLE 97) 2).set (HRN_CH_CTRL_ROLE 98) 2)) with rmt := { ((((State.reset.set (RMT_KIND_STATE 0) 0).set (HRN_CH_CTRL_ROLE 97) 2).set (HRN_CH_CTRL_ROLE 98) 2)).rmt with turn := [], worn := [] } },
     0x00050620, by decide⟩,
   ⟨State.reset, 0, by decide⟩,
   ⟨{ ((State.reset.set (RMT_KIND_STATE 0) 2)) with rmt := { ((State.reset.set (RMT_KIND_STATE 0) 2)).rmt with turn := [], subst := List.replicate 10 ⟨0, 0, 0⟩, worn := [] } },
     0, by decide⟩,
   ⟨State.reset, 0x20050000, by decide⟩,
   ⟨(State.reset.set SYS_SHELF_STATE_STATE 1), 0x00050000, by decide⟩,
   ⟨(State.reset.set SYS_SHELF_STATE_STATE 1), 0x10050000, by decide⟩,
   ⟨{ ({ ((((State.reset.set (RMT_KIND_STATE 0) 2).set SYS_SHELF_STATE_STATE 3).set (HRN_GRP_STATUS_STATE 12) 1)) with rmt := { ((((State.reset.set (RMT_KIND_STATE 0) 2).set SYS_SHELF_STATE_STATE 3).set (HRN_GRP_STATUS_STATE 12) 1)).rmt with turn := [], subst := List.replicate 10 ⟨5, 97, 0⟩, worn := [] } }) with hrn := { State.reset.hrn with phHold := none, strCmd := [0, 0] } },
     by decide⟩,
   ⟨State.reset, by decide⟩,
   ⟨{ ((State.reset.set (RMT_KIND_STATE 8) 2)) with rmt := { ((State.reset.set (RMT_KIND_STATE 8) 2)).rmt with turn := [], subst := List.replicate 10 ⟨7, 481, 0⟩, worn := [], mramMap := [] } },
     8, by decide⟩,
   ⟨{ ((State.reset.set (RMT_KIND_STATE 8) 2)) with rmt := { ((State.reset.set (RMT_KIND_STATE 8) 2)).rmt with turn := [], subst := List.replicate 10 ⟨7, 481, 0⟩, worn := (List.range 1000).map fun n => (8, n) } },
     8, by decide⟩,
   ⟨{ ((State.reset.set (RMT_KIND_STATE 8) 2)) with rmt := { ((State.reset.set (RMT_KIND_STATE 8) 2)).rmt with turn := [], subst := List.replicate 10 ⟨7, 3, 0⟩, worn := [], mramMap := [] } },
     8, 480, by decide⟩,
   ⟨State.reset, 7, by decide⟩,
   ⟨{ ((State.reset.set (RMT_KIND_STATE 7) 3)) with clk := { State.reset.clk with waiting := [] } }, 7, by decide⟩,
   ⟨{ ({ ((State.reset.set (RMT_KIND_STATE 7) 3)) with rmt := { ((State.reset.set (RMT_KIND_STATE 7) 3)).rmt with turn := [], subst := List.replicate 10 ⟨0, 0, 0⟩, worn := [] } }) with clk := { State.reset.clk with waiting := [] } },
     7, by decide⟩,
   ⟨{ (((State.reset.set (RMT_KIND_STATE 1) 3).set (RING_SWAP_STATE 0) 5)) with rmt := { (((State.reset.set (RMT_KIND_STATE 1) 3).set (RING_SWAP_STATE 0) 5)).rmt with turn := [], subst := List.replicate 10 ⟨5, 50, 0⟩, worn := [] } },
     by decide⟩,
   ⟨{ (((State.reset.set (RMT_KIND_STATE 1) 3).set (RING_SWAP_STATE 0) 6)) with rmt := { (((State.reset.set (RMT_KIND_STATE 1) 3).set (RING_SWAP_STATE 0) 6)).rmt with turn := [], subst := List.replicate 10 ⟨5, 50, 0⟩, worn := [] } },
     by decide⟩,
   ⟨{ (((State.reset.set (RMT_KIND_STATE 1) 3).set (RING_SWAP_STATE 0) 2)) with rmt := { (((State.reset.set (RMT_KIND_STATE 1) 3).set (RING_SWAP_STATE 0) 2)).rmt with turn := [], subst := List.replicate 10 ⟨5, 50, 0⟩, worn := [] } },
     by decide⟩,
   ⟨{ ((State.reset.set (RMT_KIND_STATE 2) 3)) with rmt := { ((State.reset.set (RMT_KIND_STATE 2) 3)).rmt with turn := [], subst := List.replicate 10 ⟨0, 0, 0⟩, worn := [] } },
     by decide⟩,
   ⟨{ ((State.reset.set (RMT_KIND_STATE 9) 3)) with rmt := { ((State.reset.set (RMT_KIND_STATE 9) 3)).rmt with turn := [], subst := List.replicate 10 ⟨0, 0, 0⟩, worn := [] } },
     by decide⟩,
   ⟨State.reset, 2, by decide⟩,
   ⟨{ ((State.reset.set (RMT_KIND_STATE 7) 4)) with rmt := { ((State.reset.set (RMT_KIND_STATE 7) 4)).rmt with turn := [], subst := List.replicate 10 ⟨0, 0, 0⟩, worn := [] } },
     7, true, by decide⟩,
   ⟨{ ((State.reset.set (RMT_KIND_STATE 7) 4)) with rmt := { ((State.reset.set (RMT_KIND_STATE 7) 4)).rmt with turn := [], subst := List.replicate 10 ⟨0, 0, 0⟩, worn := [] } },
     7, false, by decide⟩,
   ⟨State.reset, 7, by decide⟩,
   ⟨{ (State.reset) with rmt := { (State.reset).rmt with inputs := List.replicate 224 { conv := 0, run := 2 } } }, 50,
     by decide⟩,
   ⟨{ (State.reset) with rmt := { (State.reset).rmt with inputs := List.replicate 224 { conv := 0, run := 1 } } }, 3, 4,
     51, by decide⟩,
   ⟨{ (((State.reset.set (RMT_KIND_STATE 7) 0).set RMT_CTRL_AUTO 0)) with rmt := { (((State.reset.set (RMT_KIND_STATE 7) 0).set RMT_CTRL_AUTO 0)).rmt with turn := [], inputs := List.replicate 224 { conv := 0, run := 2 } } },
     3, 4, 51, by decide⟩,
   ⟨State.reset, by decide +kernel⟩,
   ⟨(State.reset).setPath 0
     { queue := [{ rec_ := { kind := 1, prio := 0, units := 1, domain := 2, seq := 5, time := 9, opsec := 3, cycles := 0, code := 0x0101, incident := 0, cls := 2, key := 0, reps := 0, last := 0, incOpen := false, pinned := false, body := [] }, reserve := false }] },
     by decide⟩,
   ⟨(State.reset.set EST_JNL_STATUS_FENCE 1), by decide⟩,
   ⟨{ ((State.reset.set (RMT_KIND_STATE 6) 0)) with rmt := { ((State.reset.set (RMT_KIND_STATE 6) 0)).rmt with worn := [], turn := [], tackMap := [0, 1, 2, 3], tackFail := [0, 0, 0, 0, 0] } },
     2, by decide⟩,
   ⟨{ ((State.reset.set (RMT_KIND_STATE 6) 4)) with rmt := { ((State.reset.set (RMT_KIND_STATE 6) 4)).rmt with tackMap := [4, 1, 2, 3] } },
     2, by decide⟩,
   ⟨State.reset, by decide⟩,
   ⟨{ ((((((State.reset.set CLK_STATUS_HOLD 1).set CLK_READY_XTAL_A 0).set RMT_CTRL_AUTO 0).set CLK_SRC_SEL_PLL_REF 0).set (RMT_KIND_STATE 9) 0)) with rmt := { ((((((State.reset.set CLK_STATUS_HOLD 1).set CLK_READY_XTAL_A 0).set RMT_CTRL_AUTO 0).set CLK_SRC_SEL_PLL_REF 0).set (RMT_KIND_STATE 9) 0)).rmt with turn := [] } },
     by decide⟩,
   ⟨{ ((((((((State.reset.set CLK_STATUS_HOLD 1).set CLK_READY_XTAL_A 0).set RMT_CTRL_AUTO 0x200).set CLK_SRC_SEL_PLL_REF 0).set CLK_READY_FIRC 1).set CLK_STATUS_SW_BUSY 0).set (RMT_KIND_STATE 9) 0)) with rmt := { ((((((((State.reset.set CLK_STATUS_HOLD 1).set CLK_READY_XTAL_A 0).set RMT_CTRL_AUTO 0x200).set CLK_SRC_SEL_PLL_REF 0).set CLK_READY_FIRC 1).set CLK_STATUS_SW_BUSY 0).set (RMT_KIND_STATE 9) 0)).rmt with turn := [] } },
     by decide⟩⟩

theorem witness_CommandsLeaveOtherBlocksAlone : ∃ t : State, exec (.mark) State.reset = .next t := ⟨_, rfl⟩

end
end

namespace Sys2Proof.Machine

/-! ### A tick -/

theorem step_eq_tick {s : State} (h : s.pending = []) : step s = .next s.tick := by
  simp [step, h]

/-- Shelf time moves by 0, 1 or 2 counts, and what the count leaves of the correction stays in the steered part. -/
theorem Fab.advance_spec (f : Fab) (t : Word64) :
    ∃ d : Fin 3, (f.advance t).2 = t + BitVec.ofNat 64 d ∧
      (f.advance t).1.steer = f.steer - max (-256) (min 256 f.steer) ∧
      (f.advance t).1.steered + 1280000 * (d.val : Int) = f.steered + max (-256) (min 256 f.steer) + 1280000 := by
  unfold Fab.advance
  dsimp only
  split
  · exact ⟨0, by simp, rfl, by simp⟩
  · split
    · exact ⟨1, rfl, rfl, by simp⟩
    · exact ⟨2, rfl, rfl, by simp; omega⟩

theorem Fab.advance_frame (f : Fab) (t : Word64) :
    (f.advance t).1 = { f with steer := (f.advance t).1.steer, steered := (f.advance t).1.steered } := by
  unfold Fab.advance
  dsimp only
  split
  · rfl
  · split <;> rfl

/-- Without a steering under way a tick is one count. -/
theorem Fab.advance_of_steer_zero {f : Fab} (t : Word64) (h : f.steer = 0) (h0 : 0 ≤ f.steered) (h1 : f.steered < 1280000) :
    f.advance t = (f, t + 1) := by
  have hc : max (-256) (min 256 f.steer) = 0 := by simp [h]
  unfold Fab.advance
  simp only [hc, add_zero, sub_zero, not_lt.mpr h0, h1, if_true, if_false]

/-- Settles O2: a step on an empty queue is the tick, by the cases of power and of the link clock. -/
theorem idleStepIsOneTick : Obligations.IdleStepIsOneTick := by
  intro s hq
  rw [step_eq_tick hq]
  refine ⟨fun hp hl hs h0 h1 => ?_, fun hp hl => ?_, fun hp hl => ?_, fun hp => ?_⟩
  · simp [State.tick, hp, hl, Fab.advance_of_steer_zero s.time hs h0 h1]
  · obtain ⟨d, ht, hs, hd⟩ := s.fab.advance_spec s.time
    refine ⟨d, s.tick, rfl, ?_⟩
    simp only [State.tick, hp, hl, if_true]
    exact ⟨ht, hs, hd, by rw [← Fab.advance_frame]⟩
  · simp [State.tick, hp, hl]
  · simp [State.tick, hp]

/-! ### Reset -/

/-- Settles O3, by evaluating the reset state; a register is read there as its row's reset value. -/
theorem resetShowsTheStatedValues : Obligations.ResetShowsTheStatedValues := by
  refine ⟨rfl, by decide, by decide, fun a => rfl, ?_⟩
  decide

/-! ### Words put together field by field -/

/-- A field's value fits its width. -/
theorem fieldGet_lt (w : Word) (lo n : Nat) : fieldGet w lo n < 2 ^ n := (w.extractLsb' lo n).isLt

/-- A word with the value of each field of a list put in, in the list's order. -/
def fieldsPut (w : Word) (l : List (FieldSpec × Nat)) : Word := l.foldl (fun w p => fieldPut w p.1.lo p.1.w p.2) w

theorem takes_eq_fieldsPut (r : RegSpec) (passive : Bool) (cur v : Word) :
    ∃ new, (r.takes passive cur v).1 = fieldsPut cur (r.fields.zip new) ∧
      (r.orders = [] → new = r.fields.map fun f => (fieldTakes passive cur v f).1) := by
  refine ⟨_, rfl, fun h => ?_⟩
  simp [h, ordersKept, Function.comp_def]

/-- A bit in no field of the list stays as it was. -/
theorem fieldsPut_getLsbD (w : Word) (l : List (FieldSpec × Nat)) {i : Nat} (hi : i < 32)
    (h : ∀ p ∈ l, i < p.1.lo ∨ p.1.lo + p.1.w ≤ i) : (fieldsPut w l).getLsbD i = w.getLsbD i := by
  induction l generalizing w with
  | nil => rfl
  | cons p l ih =>
    have hp := h p (by simp)
    rw [fieldsPut, List.foldl_cons, ← fieldsPut, ih _ fun q hq => h q (by simp [hq]), fieldPut_getLsbD _ _ _ _ _ hi, if_neg (by omega)]

/-- A field apart from every field of the list stays as it was. -/
theorem fieldGet_fieldsPut_apart (w : Word) (l : List (FieldSpec × Nat)) (f : FieldSpec)
    (h : ∀ p ∈ l, p.1.lo + p.1.w ≤ f.lo ∨ f.lo + f.w ≤ p.1.lo) :
    fieldGet (fieldsPut w l) f.lo f.w = fieldGet w f.lo f.w := by
  induction l generalizing w with
  | nil => rfl
  | cons p l ih =>
    rw [fieldsPut, List.foldl_cons, ← fieldsPut, ih _ fun q hq => h q (by simp [hq]),
      fieldGet_put_other _ _ (h p (by simp))]

/-- Where the fields fit and do not overlap, each reads the value put in it. -/
theorem fieldGet_fieldsPut (w : Word) (l : List FieldSpec) (g : FieldSpec → Nat) (hfit : ∀ f ∈ l, f.lo + f.w ≤ 32)
    (hdis : l.Pairwise fun f g => f.lo + f.w ≤ g.lo ∨ g.lo + g.w ≤ f.lo) {f : FieldSpec} (hf : f ∈ l)
    (hg : g f < 2 ^ f.w) : fieldGet (fieldsPut w (l.zip (l.map g))) f.lo f.w = g f := by
  induction l generalizing w with
  | nil => cases hf
  | cons k l ih =>
    obtain ⟨hk, hdis⟩ := List.pairwise_cons.mp hdis
    rw [List.map_cons, List.zip_cons_cons, fieldsPut, List.foldl_cons, ← fieldsPut]
    rcases List.mem_cons.mp hf with rfl | hf'
    · rw [fieldGet_fieldsPut_apart, fieldGet_put_same _ _ (hfit f (by simp)), Nat.mod_eq_of_lt hg]
      intro p hp
      exact (hk p.1 (List.of_mem_zip hp).1).symm
    · exact ih _ (fun f hf => hfit f (by simp [hf])) hdis hf'

/-- What a field takes fits its width. -/
theorem fieldTakes_lt (passive : Bool) (cur v : Word) (f : FieldSpec) : (fieldTakes passive cur v f).1 < 2 ^ f.w := by
  have hc := fieldGet_lt cur f.lo f.w
  have hn := fieldGet_lt v f.lo f.w
  unfold fieldTakes
  cases f.acc with
  | ro => exact hc
  | wo => exact hc
  | rw => dsimp only; split <;> assumption
  | rwl =>
    dsimp only
    split
    · exact hc
    · split <;> assumption
  | w1c => exact Nat.lt_of_le_of_lt (Nat.sub_le _ _) hc
  | w1s => exact Nat.or_lt_two_pow hc hn

/-- Settles O17, by induction on the fields put into the word. -/
theorem writesKeepReservedBits : Obligations.WritesKeepReservedBits := by
  intro r passive cur v i h hi
  obtain ⟨new, hnew, -⟩ := takes_eq_fieldsPut r passive cur v
  rw [hnew]
  exact fieldsPut_getLsbD _ _ hi fun p hp => h p.1 (List.of_mem_zip hp).1

/-- Settles O18, by induction on the fields put into the word, each apart from those after it. -/
theorem aFieldTakesWhatItsCodeAllows : Obligations.AFieldTakesWhatItsCodeAllows := by
  intro r passive cur v ho hfit hdis f hf
  obtain ⟨new, hnew, hmap⟩ := takes_eq_fieldsPut r passive cur v
  rw [hnew, hmap ho]
  exact fieldGet_fieldsPut cur r.fields (fun f => (fieldTakes passive cur v f).1) hfit hdis hf (fieldTakes_lt _ _ _ _)

/-! ### The rows of the map -/

/-- The fields of a row fit in 32 bits and share no bit (R12). -/
abbrev RegSpec.Disjoint (r : RegSpec) : Prop :=
  (∀ f ∈ r.fields, f.lo + f.w ≤ 32) ∧ r.fields.Pairwise fun f g => f.lo + f.w ≤ g.lo ∨ g.lo + g.w ≤ f.lo

theorem ite_rows {c : Prop} [Decidable c] {l m : List RegSpec} (hl : ∀ r ∈ l, r.Disjoint) (hm : ∀ r ∈ m, r.Disjoint) :
    ∀ r ∈ (if c then l else m), r.Disjoint := by
  split <;> assumption

/-- The map is finite: every row of every block is looked at. -/
theorem regBlock_disjoint (a : Nat) : ∀ r ∈ regBlock a, r.Disjoint := by
  unfold regBlock
  repeat' apply ite_rows
  all_goals decide

/-- Settles O19, by a look at every row of every block. -/
theorem everyRegisterRowHasDisjointFields : Obligations.EveryRegisterRowHasDisjointFields :=
  fun a r h => regBlock_disjoint a r (List.mem_of_find?_eq_some h)

/-! ### Accesses -/

section Access
variable {s : State}

theorem meetsMove_write (b : Bool) (a be : Nat) (v : Word) : s.meetsMove (.write b a be v) = false := rfl

theorem meetsMove_read (who a be : Nat) : s.meetsMove (.read who a be) = false := rfl

/-- An access that finds the module awake, its PLLs locked and nothing of it moving takes place at once. -/
theorem accessed_eq_served (b : Bool) {x : HostAcc} (ha : s.asleep = false) (hr : s.relock = false)
    (hm : s.meetsMove x = false) : s.accessed b x = s.served x := by
  simp [State.accessed, State.arrive, ha, hr, hm]

/-- During a relock an access waits (R506). -/
theorem accessed_of_relock (b : Bool) (x : HostAcc) (ha : s.asleep = false) (hr : s.relock = true) :
    s.accessed b x = { s with clk := { s.clk with waiting := s.clk.waiting ++ [x] } } := by
  simp [State.accessed, State.arrive, ha, hr]

/-- In Deep-sleep an access that does not come through an exit from L1 changes nothing (R118). -/
theorem accessed_of_asleep (x : HostAcc) {b : Bool} (ha : s.asleep = true) (hl : b = true ∨ s.pcie.link.low = false) :
    s.accessed b x = s := by
  rcases hl with h | h <;> simp [State.accessed, ha, h]

theorem exec_registerWrite (b : Bool) (a : Fin 67108864) (be : Fin 16) (v : Word) (hp : s.pins.powered = true) :
    exec (.registerWrite b a be v) s = .next (s.accessed b (.write b a be v)) := by
  change execRegisterWrite b a be v s = _
  exact State.on_powered _ hp

theorem exec_lowWordRead (who : Fin 256) (a : Fin 67108864) (be : Fin 16) (hp : s.pins.powered = true) :
    exec (.lowWordRead who a be) s = .next (s.accessed false (.read who a be)) := by
  change execLowWordRead who a be s = _
  exact State.on_powered _ hp

theorem exec_registerWrite_awake (b : Bool) (a : Fin 67108864) (be : Fin 16) (v : Word) (hp : s.pins.powered = true)
    (ha : s.asleep = false) (hr : s.relock = false) :
    exec (.registerWrite b a be v) s = .next (s.regAccess b a be v) := by
  rw [exec_registerWrite b a be v hp, accessed_eq_served b ha hr (meetsMove_write b a be v)]
  rfl

theorem exec_lowWordRead_awake (who : Fin 256) (a : Fin 67108864) (be : Fin 16) (hp : s.pins.powered = true)
    (ha : s.asleep = false) (hr : s.relock = false) :
    exec (.lowWordRead who a be) s = .next (s.regRead who a be) := by
  rw [exec_lowWordRead who a be hp, accessed_eq_served false ha hr (meetsMove_read who a be)]
  rfl

/-- A register of an absent unit, or a reserved offset, ignores a write (R8, R478). -/
theorem regAccess_of_nothing_there (b : Bool) {a : Nat} (v : Word) (ha : a % 4 = 0)
    (h : absentAddr s.otp.variant a = true ∨ regSpec a = none) : s.regAccess b a 15 v = s := by
  have h' : (absentAddr s.otp.variant a || (regSpec a).isNone) = true := by
    rcases h with h | h <;> simp [h]
  simp [State.regAccess, ha, h']

/-- Within the bus ratios a read answers with what the requester finds at the word (R13, R18). -/
theorem regRead_of_busOk (who a be : Nat) (hb : s.busOk = true) :
    s.regRead who a be = (s.readAs who (a / 4 * 4)).2.emit
      (.readData who (a / 4 * 4) be ((s.readAs who (a / 4 * 4)).1 &&& laneMask be)) := by
  simp [State.regRead, hb]

/-- Outside the bus ratios a read answers with a free value (R116). -/
theorem regRead_of_not_busOk (who a be : Nat) (hb : s.busOk = false) :
    s.regRead who a be = { s with
      out := .readData who (a / 4 * 4) be (BitVec.ofNat 32 s.fresh.1 &&& laneMask be) :: s.out, free := s.free + 1 } := by
  simp only [State.regRead, hb]
  rfl

/-- The low word of a 64-bit value latches its high word for the requester (R18). -/
theorem readAs_low (who : Nat) {a h : Nat} (hh : s.highNow a = some h) : s.readAs who a =
    (s.live a, { s with latches := (who, h, s.live h) :: s.latches.filter fun l => !(l.1 == who && l.2.1 == h) }) := by
  simp [State.readAs, hh]

/-- A high word that is not latched for the requester, or any other word, reads as the register's own value. -/
theorem readAs_plain (who : Nat) {a : Nat} (hh : s.highNow a = none) (hl : ∀ l ∈ s.latches, l.1 = who → l.2.1 ≠ a) :
    s.readAs who a = (s.live a, s) := by
  have hf : (s.latches.find? fun l => l.1 == who && l.2.1 == a) = none := by
    simpa [List.find?_eq_none] using hl
  simp only [State.readAs, hh, hf]

/-- A latched high word is returned once (R18). -/
theorem readAs_latched {who a : Nat} {v : Word} {old : List (Nat × Nat × Word)} (hh : s.highNow a = none)
    (hl : s.latches = (who, a, v) :: old) :
    s.readAs who a = (v, { s with latches := old.filter fun l => !(l.1 == who && l.2.1 == a) }) := by
  simp [State.readAs, hh, hl]

/-- A register of an absent unit reads zero (R8). -/
theorem live_absent {a : Nat} (h : absentAddr s.otp.variant a = true) : s.live a = 0 := by
  simp [State.live, h]

end Access

/-- SYS_CAPS shows its own register. -/
theorem live_SYS_CAPS (s : State) : s.live SYS_CAPS = s.rd SYS_CAPS := by
  simp [State.live, absentAddr, SYS_CAPS, SYS_IRQ_SUM, BRD_STATUS, REIN_L1_STATUS, PWR_STATUS, FAB_STATUS, EST_STR_STATUS,
    show regSpec 4 = some _ from rfl]

/-- A module of a variant right after reset. -/
def State.resetAs (v : Variant) : State := { State.reset with otp := { State.reset.otp with variant := v } }

theorem resetAs_awake (v : Variant) : (State.resetAs v).asleep = false ∧ (State.resetAs v).busOk = true := by
  cases v <;> decide

theorem resetAs_rd (v : Variant) (a : Nat) : (State.resetAs v).rd a = regReset v a := rfl

/-- Settles O13, by a read of the register's own value on the reset module of each variant. -/
theorem sysCapsResetValues : Obligations.SysCapsResetValues := by
  intro v who
  obtain ⟨ha, hb⟩ := resetAs_awake v
  refine ⟨_, exec_lowWordRead_awake (s := State.resetAs v) who ⟨SYS_CAPS, by decide⟩ 15 rfl ha rfl, ?_⟩
  rw [regRead_of_busOk _ _ _ hb, readAs_plain _ rfl (List.forall_mem_nil _)]
  show [_] = [_]
  rw [show SYS_CAPS / 4 * 4 = SYS_CAPS from rfl, live_SYS_CAPS, resetAs_rd]
  cases v <;> rfl

/-- Settles O20, by the cases of an access (awake, asleep, relocking) and of a read (low word, plain, latched, outside the ratios). -/
theorem readsOfRegisters : Obligations.ReadsOfRegisters := by
  intro s hp
  refine ⟨fun who a be ha hr hb hh hl => ?_, fun who a be h ha hr hb hh => ?_, fun who a be v old ha hr hb hh hl => ?_,
    fun a => live_absent, fun who a be ha hr hb => ?_, fun who a be ha hl => ?_, fun who a be ha hr => ?_⟩
  · rw [exec_lowWordRead_awake who a be hp ha hr, regRead_of_busOk _ _ _ hb, readAs_plain _ hh hl]
    rfl
  · rw [exec_lowWordRead_awake who a be hp ha hr, regRead_of_busOk _ _ _ hb, readAs_low _ hh]
    rfl
  · rw [exec_lowWordRead_awake who a be hp ha hr, regRead_of_busOk _ _ _ hb, readAs_latched hh hl]
    rfl
  · rw [exec_lowWordRead_awake who a be hp ha hr, regRead_of_not_busOk _ _ _ hb]
  · rw [exec_lowWordRead who a be hp, accessed_of_asleep _ ha (.inr hl)]
  · rw [exec_lowWordRead who a be hp, accessed_of_relock _ _ ha hr]

/-- What a module without a die lacks: its registers and its vectors (R8). -/
theorem dieOk_eq_false {s : State} {d : Nat} : s.dieOk d = false ↔ variantDies s.otp.variant ≤ d := by
  rw [State.dieOk, State.dies, decide_eq_false_iff_not, Nat.not_lt]

theorem absentAddr_of_die_absent {v : Variant} {d a : Nat} (h : variantDies v ≤ d) (hd : d < 2) (h0 : 0x1000000 + 0x800000 * d ≤ a)
    (h1 : a < 0x1800000 + 0x800000 * d) : absentAddr v a = true := by
  unfold absentAddr
  rcases (by omega : d = 0 ∨ d = 1) with rfl | rfl
  · have : variantDies v = 0 := by omega
    simp [this, show ¬ a < 16777216 by omega]
  · simp [show ¬ a < 16777216 by omega, show ¬ a < 25165824 by omega, show variantDies v < 2 by omega]

theorem vectorAbsent_of_die_absent {v : Variant} {d : Nat} (h : variantDies v ≤ d) (hd : d < 2) :
    vectorAbsent v (246 + d) = true ∧ vectorAbsent v (248 + 2 * d) = true ∧ vectorAbsent v (249 + 2 * d) = true := by
  unfold vectorAbsent
  rcases (by omega : d = 0 ∨ d = 1) with rfl | rfl
  · have : variantDies v = 0 := by omega
    simp [this]
  · simp [show variantDies v < 2 by omega]

theorem readAs_absent {s : State} (who : Nat) {a : Nat} (h : absentAddr s.otp.variant a = true)
    (hl : (s.latches.any fun l => l.1 == who && l.2.1 == a) = false) :
    (s.readAs who a).1 = 0 ∧ (s.readAs who a).2.regs = s.regs ∧ (s.readAs who a).2.out = s.out := by
  cases hh : s.highNow a with
  | some h' => simp [readAs_low who hh, live_absent h]
  | none =>
    have : ∀ l ∈ s.latches, l.1 = who → l.2.1 ≠ a := by simpa using hl
    simp [readAs_plain who hh this, live_absent h]

/-- Settles O14, by what an access of nothing there does and by the address and vector ranges of a die. -/
theorem absentUnitsStaySilent : Obligations.AbsentUnitsStaySilent := by
  intro s hp
  refine ⟨fun who a be ha hr hb h hl => ⟨_, exec_lowWordRead_awake who a be hp ha hr, ?_⟩, fun b a v ha hr h4 h => ?_,
    fun v h => by simp [State.msix, h], fun d q v b f hd => ?_, fun d hd => ?_⟩
  · obtain ⟨hv, hregs, hout⟩ := readAs_absent who.val h hl
    rw [regRead_of_busOk _ _ _ hb]
    simp [State.emit, hv, hregs, hout]
  · rw [exec_registerWrite_awake b a 15 v hp ha hr]
    exact congrArg _ (regAccess_of_nothing_there b v h4 (.inl h))
  · constructor
    · change execSubmissionDoorbell d q v b f s = _
      simp [execSubmissionDoorbell, State.on_powered _ hp, hd]
    · change execCompletionDoorbell d q v b s = _
      simp [execCompletionDoorbell, State.on_powered _ hp, hd]
  · have h := dieOk_eq_false.mp hd
    exact ⟨fun a => absentAddr_of_die_absent h d.isLt, vectorAbsent_of_die_absent h d.isLt⟩

/-- Refutes O16: a write of `SYS_ID` that keeps its value drops an entry of the register file that holds the reset value, so the
state with that entry is not left as it is. -/
theorem not_registerWriteFollowsTheAccessCode : ¬ Obligations.RegisterWriteFollowsTheAccessCode := by
  intro h
  obtain ⟨-, -, -, -, -, -, hid, -⟩ := h { State.reset with regs := [(SYS_ID, 0x195124B7)] } rfl
  have := hid false 0 (by decide) (by decide) (by decide)
  rw [exec_registerWrite_awake false 0 15 0 rfl (by decide) (by decide)] at this
  injection this with this
  have := congrArg State.regs this
  revert this
  decide

/-! ### Estimation -/

theorem State.get_lt (s : State) (f : Field) : s.get f < 2 ^ f.w := fieldGet_lt _ _ _

/-- Refutes O42: `RING_SEQ` has 32 bits and `EST_SEQ_A` 16, so a sweep with the number 65536 does not show in it. -/
theorem not_estimationAndJournalCommands : ¬ Obligations.EstimationAndJournalCommands := by
  intro h
  obtain ⟨hrun, -⟩ := h { State.reset with regs := [(RING_STATUS 0, 0x50000000), (RING_SEQ 0, 0x10000)] } rfl
  obtain ⟨t, -, -, hseq, -⟩ := hrun 0 rfl (by decide) (by decide)
  have hlt : t.get EST_SEQ_A < 2 ^ 16 := t.get_lt EST_SEQ_A
  rw [if_pos rfl] at hseq
  rw [hseq] at hlt
  revert hlt
  decide

end Sys2Proof.Machine

namespace Sys2Proof.Machine

/-! ### What a power-up settles before the restores from MRAM -/

/-- From s to t every register below the control blocks of the module, every pin but WAKE_N, the boot state, Larkspur, the fuses
and the time are as they were. -/
structure LowKept (s t : State) : Prop where
  low : ∀ a < 0x100000, t.rd a = s.rd a
  pins : { t.pins with wakeN := s.pins.wakeN } = s.pins
  boot : t.boot = s.boot
  lks : t.lks = s.lks
  otp : t.otp = s.otp
  time : t.time = s.time
  elapsed : t.elapsed = s.elapsed

theorem LowKept.refl (s : State) : LowKept s s := ⟨fun _ _ => rfl, rfl, rfl, rfl, rfl, rfl, rfl⟩

theorem LowKept.trans {s t u : State} (h : LowKept s t) (k : LowKept t u) : LowKept s u where
  low a ha := (k.low a ha).trans (h.low a ha)
  pins := by
    have hp := h.pins
    rw [← k.pins] at hp
    exact hp
  boot := k.boot.trans h.boot
  lks := k.lks.trans h.lks
  otp := k.otp.trans h.otp
  time := k.time.trans h.time
  elapsed := k.elapsed.trans h.elapsed

theorem LowKept.ite {s t u : State} {c : Prop} [Decidable c] (ht : LowKept s t) (hu : LowKept s u) :
    LowKept s (if c then t else u) := by
  split <;> assumption

theorem State.wr_lowKept (s : State) {a : Nat} (v : Word) (h : 0x100000 ≤ a) : LowKept s (s.wr a v) :=
  { LowKept.refl s with low := fun _ hb => State.rd_wr_ne s v (by omega) }

theorem State.wrN_lowKept (s : State) {a : Nat} (v : Nat) (h : 0x100000 ≤ a) : LowKept s (s.wrN a v) := State.wr_lowKept s _ h

theorem State.set_lowKept (s : State) {f : Field} (v : Nat) (h : 0x100000 ≤ f.addr) : LowKept s (s.set f v) := State.wr_lowKept s _ h

theorem State.setB_lowKept (s : State) {f : Field} (b : Bool) (h : 0x100000 ≤ f.addr) : LowKept s (s.setB f b) :=
  State.set_lowKept s _ h

theorem State.wr64_lowKept (s : State) {lo hi : Nat} (v : Nat) (hlo : 0x100000 ≤ lo) (hhi : 0x100000 ≤ hi) :
    LowKept s (s.wr64 lo hi v) :=
  (State.wrN_lowKept s _ hlo).trans (State.wrN_lowKept _ _ hhi)

theorem forN_lowKept {n : Nat} {f : Nat → State → State} (hf : ∀ i t, LowKept t (f i t)) (s : State) : LowKept s (forN n f s) := by
  unfold forN
  induction List.range n generalizing s with
  | nil => exact LowKept.refl s
  | cons i l ih => exact (hf i s).trans (ih _)

theorem State.sbg_lowKept (s : State) (b : Sbg) : LowKept s { s with sbg := b } := { LowKept.refl s with }

theorem State.rmt_lowKept (s : State) (r : Rmt) : LowKept s { s with rmt := r } := { LowKept.refl s with }

/-! #### Records -/

theorem State.setPath_lowKept (s : State) (i : Nat) (p : TPath) : LowKept s (s.setPath i p) := { LowKept.refl s with }

theorem State.showLevel_lowKept (s : State) (i : Nat) : LowKept s (s.showLevel i) :=
  LowKept.ite (State.set_lowKept s _ (by decide))
    ((State.set_lowKept s _ (by simp only [TEL_R_STATUS_LEVEL, TEL_R_STATUS]; omega)).trans
      (State.setB_lowKept _ _ (by simp only [TEL_R_STATUS_HELD, TEL_R_STATUS]; omega)))

theorem State.lose_lowKept (s : State) (i cause prio : Nat) (sampled : Bool) : LowKept s (s.lose i cause prio sampled) :=
  (State.setPath_lowKept s i _).trans
    (LowKept.ite (State.wrN_lowKept _ _ (by decide)) (State.wrN_lowKept _ _ (by simp only [TEL_R_LOST]; omega)))

theorem State.enqueue_lowKept (s : State) (i : Nat) (r : Rec) (reserve : Bool) : LowKept s (s.enqueue i r reserve) :=
  State.setPath_lowKept s i _

theorem State.toPath_lowKept (s : State) (i : Nat) (r : Rec) : LowKept s (s.toPath i r) := by
  unfold State.toPath
  refine LowKept.ite (LowKept.refl s) (LowKept.ite ((State.lose_lowKept s _ _ _ _).trans (State.showLevel_lowKept _ _)) ?_)
  split
  · refine LowKept.trans (LowKept.ite ?_ (State.setPath_lowKept s i _)) (State.showLevel_lowKept _ i)
    exact (State.setPath_lowKept s i _).trans (State.lose_lowKept _ _ _ _ _)
  · have hq := State.enqueue_lowKept s i r
    have hl := State.lose_lowKept s i
    refine LowKept.trans (LowKept.ite (hq _) (LowKept.ite (LowKept.ite (hq _) (hl _ _ _)) (LowKept.ite ?_
      (LowKept.ite (hq _) (hl _ _ _))))) (State.showLevel_lowKept _ i)
    refine LowKept.ite (hq _) (LowKept.ite (LowKept.ite ((hq _).trans (State.setPath_lowKept _ _ _)) ?_) (hl _ _ _))
    exact (State.setPath_lowKept s i _).trans (State.lose_lowKept _ _ _ _ _)

theorem State.showWakeN_lowKept (s : State) : LowKept s s.showWakeN := { LowKept.refl s with }

theorem State.record_lowKept (s : State) (kind prio domain code key cls : Nat) (body : List Byte) :
    LowKept s (s.record kind prio domain code key cls false body) := by
  have hseq : LowKept s (s.wrapReg SBG_SEQ) := State.wrN_lowKept s _ (by decide)
  unfold State.record
  rw [if_neg Bool.false_ne_true]
  exact hseq.trans ((forN_lowKept (fun i t => State.toPath_lowKept t i _) _).trans (State.showWakeN_lowKept _))

theorem State.writeCb_lowKept (s : State) : LowKept s s.writeCb :=
  LowKept.ite (LowKept.refl s) (LowKept.ite { LowKept.refl s with } { LowKept.refl s with })

/-! #### The restores at power-up (R172, R301, R436, R442, R443, R475) -/

theorem State.lfrPowerUp_lowKept (s : State) : LowKept s s.lfrPowerUp := by
  unfold State.lfrPowerUp
  split
  next i n _ =>
    have hslot : LowKept s { s with hrn := { s.hrn with lfrSlot := (i + 1) % 64, lfrSeq := n + 1 } } := { LowKept.refl s with }
    exact hslot.trans ((State.set_lowKept _ _ (by decide)).trans (State.set_lowKept _ _ (by decide)))
  · exact LowKept.refl s

theorem State.jnlPowerUp_lowKept (s : State) : LowKept s s.jnlPowerUp := by
  unfold State.jnlPowerUp
  split
  · exact (State.set_lowKept _ _ (by decide)).trans
      ((State.set_lowKept _ _ (by decide)).trans (State.wrN_lowKept _ _ (by decide)))
  · exact LowKept.refl s

theorem State.logFind_lowKept (s : State) : LowKept s s.logFind := by
  exact LowKept.ite (LowKept.refl s) ((State.rmt_lowKept s _).trans (State.set_lowKept _ _ (by decide)))

theorem State.wearModule_lowKept (s : State) (l : List Byte) : LowKept s (s.wearModule l) := by
  unfold State.wearModule
  refine LowKept.ite (State.rmt_lowKept s _) ((State.rmt_lowKept s _).trans (forN_lowKept (fun i t => ?_) _))
  refine LowKept.trans ((State.set_lowKept t _ ?_).trans (State.set_lowKept _ _ ?_))
    (LowKept.ite (State.set_lowKept _ _ ?_) (LowKept.refl _))
  · simp only [LKS_PCORE_ROLE, LKS_PCORE]; omega
  · simp only [LKS_PCORE_LOGICAL, LKS_PCORE]; omega
  · simp only [LKS_CORE_PHYS, LKS_CORE]; omega

theorem State.wearPowerUp_lowKept (s : State) : LowKept s s.wearPowerUp := by
  unfold State.wearPowerUp
  dsimp only
  refine LowKept.trans ((State.set_lowKept s (f := RMT_STATUS_SHELF_FOREIGN) 1 (by decide)).trans
    (State.set_lowKept _ (f := RMT_STATUS_NO_WEAR) 0 (by decide))) ?_
  split
  · exact State.set_lowKept _ _ (by decide)
  next i l _ => exact (State.wearModule_lowKept _ l).trans ((State.rmt_lowKept _ _).trans (State.logFind_lowKept _))

theorem State.cbSlotLoad_lowKept (l : List Byte) (i : Nat) (s : State) : LowKept s (State.cbSlotLoad l i s) := by
  unfold State.cbSlotLoad
  refine LowKept.trans (LowKept.trans ((State.set_lowKept s _ ?_).trans (State.wr64_lowKept _ _ ?_ ?_)) (State.set_lowKept _ _ ?_))
    (State.set_lowKept _ _ (by decide))
  · simp only [SBG_INC_SLOT_INCIDENT, SBG_INC_SLOT]; omega
  · simp only [SBG_INC_TIME_LO]; omega
  · simp only [SBG_INC_TIME_HI]; omega
  · simp only [SBG_INC_SLOT_PINNED, SBG_INC_SLOT]; omega

theorem State.showRing_lowKept (s : State) : LowKept s s.showRing := by
  unfold State.showRing
  split
  · exact (State.set_lowKept s _ (by decide)).trans (State.set_lowKept _ _ (by decide))
  · exact LowKept.refl s

theorem State.ringFound_lowKept (s : State) : LowKept s s.ringFound.1 := by
  unfold State.ringFound
  dsimp only
  split
  · exact State.sbg_lowKept s _
  · dsimp only
    exact LowKept.trans (State.sbg_lowKept s _) (State.showRing_lowKept _)

theorem State.sbgPowerUp_lowKept (s : State) : LowKept s s.sbgPowerUp.1 := by
  unfold State.sbgPowerUp
  dsimp only
  exact (State.sbg_lowKept s _).trans ((State.wr64_lowKept _ _ (by decide) (by decide)).trans
    ((State.wrN_lowKept _ _ (by decide)).trans ((forN_lowKept (State.cbSlotLoad_lowKept _) _).trans
    ((State.setB_lowKept _ _ (by decide)).trans ((State.ringFound_lowKept _).trans (State.wrN_lowKept _ _ (by decide)))))))

/-- The state that a power-up settles from the fuses and the pins before it looks at MRAM (R70, R98). -/
def State.fused (s : State) (conn : Word) : State :=
  let s := s.blank
  let s := s.wr SYS_CONN_STATUS ((s.rd SYS_CONN_STATUS &&& ~~~liveConn) ||| (conn &&& liveConn))
  let s := (s.set SEC_SVN_FUSED_SVN s.otp.rollback).wrN SYS_ID_SN (leNat (s.otp.serial.take 4))
  { s with boot := { s.boot with idKey := true } }

theorem State.powerUp_lowKept (s : State) (conn : Word) : LowKept (s.fused conn) (s.powerUp conn) :=
  LowKept.trans ((State.sbgPowerUp_lowKept _).trans ((State.lfrPowerUp_lowKept _).trans ((State.jnlPowerUp_lowKept _).trans
    ((State.wearPowerUp_lowKept _).trans (State.writeCb_lowKept _)))))
    ((State.record_lowKept _ _ _ _ _ _ _ _).trans (State.record_lowKept _ _ _ _ _ _ _ _))

theorem State.fused_rd (s : State) (conn : Word) {a : Nat} (hc : a ≠ SYS_CONN_STATUS) (hv : a ≠ SEC_SVN) (hi : a ≠ SYS_ID_SN) :
    (s.fused conn).rd a = regReset s.otp.variant a :=
  calc (s.fused conn).rd a
    _ = (((s.blank.wr SYS_CONN_STATUS _).set SEC_SVN_FUSED_SVN s.otp.rollback).wrN SYS_ID_SN _).rd a := rfl
    _ = s.blank.rd a := by rw [State.wrN, State.rd_wr_ne _ _ hi, State.rd_set_ne _ _ _ hv, State.rd_wr_ne _ _ hc]
    _ = regReset s.otp.variant a := rfl

theorem State.fused_svn (s : State) (conn : Word) : (s.fused conn).get SEC_SVN_FUSED_SVN = s.otp.rollback % 256 :=
  calc (s.fused conn).get SEC_SVN_FUSED_SVN
    _ = (((s.blank.wr SYS_CONN_STATUS _).set SEC_SVN_FUSED_SVN s.otp.rollback).wrN SYS_ID_SN _).get SEC_SVN_FUSED_SVN := rfl
    _ = s.otp.rollback % 256 := by rw [State.wrN, State.get_wr_ne _ _ (by decide), State.get_set_same _ _ _ (by decide)]; rfl

/-- Settles O23, because the restores from MRAM leave what the fuses and the blank state settle. -/
theorem powerUpStartsPassive : Obligations.PowerUpStartsPassive := by
  intro s conn
  have h := s.powerUp_lowKept conn
  have hpins : (s.powerUp conn).pins = { (s.fused conn).pins with wakeN := (s.powerUp conn).pins.wakeN } := by
    rw [← h.pins]
  have hshelf : (s.powerUp conn).shelf = (s.fused conn).shelf := congrArg (fieldGet · 0 3) (h.low SYS_SHELF_STATE (by decide))
  have hpassive : (s.fused conn).shelf = stPassive := by
    unfold State.shelf State.get
    rw [s.fused_rd conn (by decide) (by decide) (by decide)]
    cases s.otp.variant <;> decide
  refine ⟨hshelf.trans hpassive, ?_, ?_, ?_, ?_, ?_, ?_, h.otp, ?_, h.time, h.elapsed, ?_⟩
  · rw [hpins]; rfl
  · rw [hpins]; rfl
  · rw [hpins]; rfl
  · rw [hpins]; rfl
  · rw [h.boot]; rfl
  · rw [h.lks]; rfl
  · exact (congrArg (fieldGet · 0 8) (h.low SEC_SVN (by decide))).trans (s.fused_svn conn)
  · exact (h.low SYS_CAPS (by decide)).trans (s.fused_rd conn (by decide) (by decide) (by decide))

end Sys2Proof.Machine

section

-- One proof at a time, as in the laws of `Kept`.
set_option Elab.async false

namespace Sys2Proof.Machine

/-! ### What a command keeps -/

/-- A command completes in a state that keeps what `Kept` says. -/
def Answers (bm bt : Bool) (s : State) (r : Res) : Prop := ∃ t, r = .next t ∧ Kept bm bt s t

theorem next_answers {bm bt : Bool} {s t : State} (h : Kept bm bt s t) : Answers bm bt s (.next t) := ⟨t, rfl, h⟩

theorem ite_answers {bm bt : Bool} {s : State} {c : Prop} [Decidable c] {q r : Res} (hq : Answers bm bt s q)
    (hr : Answers bm bt s r) : Answers bm bt s (if c then q else r) := by
  split <;> assumption

/-- Without power a command changes nothing, so what it keeps with power it keeps. -/
theorem State.on_answers {bm bt : Bool} {s : State} {f : State → Res} (h : Answers bm bt s (f s)) :
    Answers bm bt s (s.on f) := by
  unfold State.on
  exact ite_answers h (next_answers (Kept.refl s))

/-! One lemma for each command, from those of its operations. -/

theorem execRegisterWrite_kept {bt : Bool} (byTack : Bool) (a : Fin 67108864) (be : Fin 16) (v : Word) (s : State) :
    Answers false bt s (execRegisterWrite byTack a be v s) := by
  unfold execRegisterWrite
  apply State.on_answers
  repeat' (first
    | with_reducible exact Kept.refl _ | with_reducible apply next_answers | with_reducible apply State.accessed_kept)

theorem execLowWordRead_kept {bt : Bool} (who : Fin 256) (a : Fin 67108864) (be : Fin 16) (s : State) :
    Answers false bt s (execLowWordRead who a be s) := by
  unfold execLowWordRead
  apply State.on_answers
  repeat' (first
    | with_reducible exact Kept.refl _ | with_reducible apply next_answers | with_reducible apply State.accessed_kept)

theorem execVinConverterStop_kept {bm bt : Bool} (s : State) : Answers bm bt s (execVinConverterStop s) := by
  unfold execVinConverterStop
  apply State.on_answers
  repeat' (first
    | with_reducible exact Kept.refl _ | with_reducible apply next_answers | with_reducible apply State.tearJnl_kept
    | with_reducible apply State.tearLfr_kept | with_reducible apply State.tearWear_kept
    | with_reducible apply State.goDown_kept | with_reducible apply ite_answers | with_reducible apply ite_kept)

theorem execInputOvLockout_kept {bt : Bool} (vin : Nat) (s : State) : Answers false bt s (execInputOvLockout vin s) := by
  unfold execInputOvLockout
  repeat' (first
    | with_reducible exact Kept.refl _ | with_reducible apply next_answers | with_reducible apply State.raise_kept
    | with_reducible apply State.flushMram_kept | with_reducible apply State.goDown_kept | with_reducible apply ite_answers
    | with_reducible apply ite_kept | (simp only [kept_mk]; refine Kept.upd rfl ?_))

theorem execWriteFenceWarning_kept {bm bt : Bool} (vin : Nat) (s : State) :
    Answers bm bt s (execWriteFenceWarning vin s) := by
  unfold execWriteFenceWarning
  apply State.on_answers
  repeat' (first
    | with_reducible exact Kept.refl _ | with_reducible apply next_answers | with_reducible apply State.raise_kept
    | with_reducible apply State.raiseBit_kept | with_reducible apply State.jnlTrigger_kept
    | with_reducible apply State.set_kept | with_reducible apply State.writeCb_kept
    | with_reducible apply State.writeWear_kept)

theorem execWriteFence_kept {bm bt : Bool} (busy : MramBusy) (s : State) : Answers bm bt s (execWriteFence busy s) := by
  unfold execWriteFence
  apply State.on_answers
  repeat' (first
    | with_reducible exact Kept.refl _ | with_reducible apply next_answers | with_reducible apply State.fenceSbg_kept
    | with_reducible apply State.fenceJournal_kept | with_reducible apply State.fenceLfr_kept
    | with_reducible apply State.tearWear_kept | with_reducible apply State.raiseBit_kept
    | with_reducible apply State.set_kept | with_reducible apply State.clear_kept | with_reducible apply State.showLevel_kept
    | with_reducible apply ite_answers | with_reducible apply ite_kept | (simp only [kept_mk]; refine Kept.upd rfl ?_))

theorem execFenceWarnClear_kept {bm bt : Bool} (s : State) : Answers bm bt s (execFenceWarnClear s) := by
  unfold execFenceWarnClear
  apply State.on_answers
  repeat' (first
    | with_reducible exact Kept.refl _ | with_reducible apply next_answers | with_reducible apply State.clear_kept
    | with_reducible apply State.unraise_kept)

theorem execP0OnlySpanEnd_kept {bm bt : Bool} (s : State) : Answers bm bt s (execP0OnlySpanEnd s) :=
    State.on_answers (next_answers (State.clear_kept _ (Kept.refl s)))

theorem execPerstAssert_kept {bt : Bool} (s : State) : Answers false bt s (execPerstAssert s) := by
  unfold execPerstAssert
  repeat' (first
    | with_reducible exact Kept.refl _ | with_reducible apply next_answers | with_reducible apply State.wakeBy_kept
    | with_reducible apply State.linkGone_kept | with_reducible apply ite_answers | with_reducible apply ite_kept
    | (simp only [kept_mk]; refine Kept.upd rfl ?_))

theorem execPerstDeassert_kept {bt : Bool} (s : State) : Answers false bt s (execPerstDeassert s) := by
  unfold execPerstDeassert
  repeat' (first
    | with_reducible exact Kept.refl _ | with_reducible apply next_answers | with_reducible apply State.wakeBy_kept
    | with_reducible apply ite_answers | with_reducible apply ite_kept | (simp only [kept_mk]; refine Kept.upd rfl ?_))

theorem execLinkLoss_kept {bt : Bool} (s : State) : Answers false bt s (execLinkLoss s) := by
  unfold execLinkLoss
  apply State.on_answers
  repeat' (first
    | with_reducible exact Kept.refl _ | with_reducible apply next_answers | with_reducible apply State.linkGone_kept
    | with_reducible apply ite_answers | with_reducible apply ite_kept | (simp only [kept_mk]; refine Kept.upd rfl ?_))

theorem execMezPresChange_kept {bm bt : Bool} (n : Fin 4) (present idOk : Bool) (s : State) :
    Answers bm bt s (execMezPresChange n present idOk s) := by
  unfold execMezPresChange
  apply State.on_answers
  repeat' (first
    | with_reducible exact Kept.refl _ | with_reducible apply next_answers | with_reducible apply State.conn_kept
    | with_reducible apply State.raise_kept | with_reducible apply ite_answers | with_reducible apply ite_kept
    | (simp only [kept_mk]; refine Kept.upd rfl ?_))

theorem execSfpInsertion_kept {bm bt : Bool} (p : Fin 2) (s : State) : Answers bm bt s (execSfpInsertion p s) := by
  unfold execSfpInsertion
  apply State.on_answers
  repeat' (first
    | with_reducible exact Kept.refl _ | with_reducible apply next_answers | with_reducible apply State.conn_kept
    | with_reducible apply State.sfpRead_kept)

theorem execSfpPeriodicRead_kept {bm bt : Bool} (s : State) : Answers bm bt s (execSfpPeriodicRead s) := by
  unfold execSfpPeriodicRead
  apply State.on_answers
  repeat' (first
    | with_reducible exact Kept.refl _ | with_reducible apply next_answers | with_reducible apply State.sfpRead_kept
    | with_reducible apply forN_kept | with_reducible apply ite_answers | with_reducible apply ite_kept | intro _)

theorem execProfileReadComplete_kept {bm bt : Bool} (d : Sfdp) (b : List Byte) (s : State) :
    Answers bm bt s (execProfileReadComplete d b s) := by
  unfold execProfileReadComplete
  apply State.on_answers
  repeat' (first
    | with_reducible exact Kept.refl _ | with_reducible apply next_answers | with_reducible apply State.profileRead_kept
    | with_reducible apply State.wrN_kept | with_reducible apply State.conn_kept | with_reducible apply State.set_kept
    | with_reducible apply State.bootErr_kept | with_reducible apply State.bootErrClear_kept
    | with_reducible apply State.showFabric_kept | with_reducible apply forN_kept | with_reducible apply ite_answers
    | with_reducible apply ite_kept | intro _ | (simp only [kept_mk]; refine Kept.upd rfl ?_) | split)

theorem execLoad_kept {bm bt : Bool} (s : State) : Answers bm bt s (execLoad s) :=
    State.on_answers (next_answers (State.load_kept (Kept.refl s)))

theorem execFetchCompletionError_kept {bm bt : Bool} (info : Fin 65536) (s : State) :
    Answers bm bt s (execFetchCompletionError info s) := by
  unfold execFetchCompletionError
  apply State.on_answers
  repeat' (first
    | with_reducible exact Kept.refl _ | with_reducible apply next_answers | with_reducible apply State.reject_kept
    | with_reducible apply ite_answers)

theorem execBundleFetchComplete_kept {bm bt : Bool} (bytes : List Byte) (s : State) :
    Answers bm bt s (execBundleFetchComplete bytes s) := by
  unfold execBundleFetchComplete
  apply State.on_answers
  repeat' (first
    | with_reducible exact Kept.refl _ | with_reducible apply next_answers | with_reducible apply State.bundleTo_kept
    | with_reducible apply ite_answers | with_reducible apply ite_kept | (simp only [kept_mk]; refine Kept.upd rfl ?_))

theorem execBundleVerifyComplete_kept {bm bt : Bool} (s : State) : Answers bm bt s (execBundleVerifyComplete s) := by
  unfold execBundleVerifyComplete
  apply State.on_answers
  repeat' (first
    | with_reducible exact Kept.refl _ | with_reducible apply next_answers | with_reducible apply State.reject_kept
    | with_reducible apply State.bundleTo_kept | with_reducible apply ite_answers | with_reducible apply ite_kept | split)

theorem execBundleLoaded_kept {bt : Bool} (s : State) : Answers false bt s (execBundleLoaded s) := by
  unfold execBundleLoaded
  apply State.on_answers
  repeat' (first
    | with_reducible exact Kept.refl _ | with_reducible apply next_answers | with_reducible apply State.set_kept
    | with_reducible apply State.bundleTo_kept | with_reducible apply State.weightsIn_kept
    | with_reducible apply State.memLose_kept | with_reducible apply State.showAck_kept
    | with_reducible apply State.firstLoaded_kept | with_reducible apply State.armGo_kept | with_reducible apply ite_answers
    | with_reducible apply ite_kept | (simp only [kept_mk]; refine Kept.upd rfl ?_))

theorem execArm_kept {bm bt : Bool} (s : State) : Answers bm bt s (execArm s) :=
    State.on_answers (next_answers (State.arm_kept (Kept.refl s)))

theorem execDisarm_kept {bm bt : Bool} (s : State) : Answers bm bt s (execDisarm s) :=
    State.on_answers (next_answers (State.disarm_kept (Kept.refl s)))

theorem execDisarmComplete_kept {bm bt : Bool} (s : State) : Answers bm bt s (execDisarmComplete s) := by
  unfold execDisarmComplete
  apply State.on_answers
  repeat' (first
    | with_reducible exact Kept.refl _ | with_reducible apply next_answers | with_reducible apply State.toPassive_kept
    | with_reducible apply ite_answers | with_reducible apply ite_kept)

theorem execClearLatch_kept {bm bt : Bool} (s : State) : Answers bm bt s (execClearLatch s) :=
    State.on_answers (next_answers (State.clearLatch_kept (Kept.refl s)))

theorem execArmBlockerTimeout_kept {bm bt : Bool} (s : State) : Answers bm bt s (execArmBlockerTimeout s) := by
  unfold execArmBlockerTimeout
  apply State.on_answers
  repeat' (first
    | with_reducible exact Kept.refl _ | with_reducible apply next_answers | with_reducible apply State.armFail_kept
    | with_reducible apply ite_answers)

theorem execArmChecksPassed_kept {bm bt : Bool} (s : State) : Answers bm bt s (execArmChecksPassed s) := by
  unfold execArmChecksPassed
  apply State.on_answers
  repeat' (first
    | with_reducible exact Kept.refl _ | with_reducible apply next_answers | with_reducible apply State.enumStart_kept
    | with_reducible apply State.stepTo_kept | with_reducible apply ite_answers)

theorem execArmContactorRequest_kept {bm bt : Bool} (s : State) : Answers bm bt s (execArmContactorRequest s) := by
  unfold execArmContactorRequest
  apply State.on_answers
  repeat' (first
    | with_reducible exact Kept.refl _ | with_reducible apply next_answers | with_reducible apply State.restoreLearned_kept
    | with_reducible apply State.refuseClose_kept | with_reducible apply State.armFail_kept
    | with_reducible apply State.closeNow_kept | with_reducible apply State.stepTo_kept | with_reducible apply ite_answers
    | with_reducible apply ite_kept | (simp only [kept_mk]; refine Kept.upd rfl ?_))

theorem execArmPrechargeStart_kept {bm bt : Bool} (s : State) : Answers bm bt s (execArmPrechargeStart s) := by
  unfold execArmPrechargeStart
  apply State.on_answers
  repeat' (first
    | with_reducible exact Kept.refl _ | with_reducible apply next_answers | with_reducible apply State.precharge_kept
    | with_reducible apply ite_answers)

theorem execArmIsoRequest_kept {bm bt : Bool} (vnode vbus : Nat) (s : State) :
    Answers bm bt s (execArmIsoRequest vnode vbus s) := by
  unfold execArmIsoRequest
  apply State.on_answers
  repeat' (first
    | with_reducible exact Kept.refl _ | with_reducible apply next_answers | with_reducible apply State.refuseClose_kept
    | with_reducible apply State.bootErr_kept | with_reducible apply State.closeNow_kept
    | with_reducible apply State.stepTo_kept | with_reducible apply ite_answers)

theorem execArmLoopsStart_kept {bm bt : Bool} (s : State) : Answers bm bt s (execArmLoopsStart s) := by
  unfold execArmLoopsStart
  apply State.on_answers
  repeat' (first
    | with_reducible exact Kept.refl _ | with_reducible apply next_answers | with_reducible apply State.casBegin_kept
    | with_reducible apply State.commitStart_kept | with_reducible apply State.stepTo_kept | with_reducible apply forN_kept
    | with_reducible apply ite_answers | with_reducible apply ite_kept | intro _)

theorem execArmingTimeout_kept {bm bt : Bool} (s : State) : Answers bm bt s (execArmingTimeout s) := by
  unfold execArmingTimeout
  apply State.on_answers
  repeat' (first
    | with_reducible exact Kept.refl _ | with_reducible apply next_answers | with_reducible apply State.armFail_kept
    | with_reducible apply State.bootErr_kept | with_reducible apply State.raise_kept | with_reducible apply ite_answers)

theorem execArmRetry_kept {bm bt : Bool} (s : State) : Answers bm bt s (execArmRetry s) := by
  unfold execArmRetry
  apply State.on_answers
  repeat' (first
    | with_reducible exact Kept.refl _ | with_reducible apply next_answers | with_reducible apply State.set_kept
    | with_reducible apply State.armGo_kept | with_reducible apply ite_answers | with_reducible apply ite_kept
    | (simp only [kept_mk]; refine Kept.upd rfl ?_))

theorem execSvnFuseRequest_kept {bm bt : Bool} (v : Word) (s : State) : Answers bm bt s (execSvnFuseRequest v s) :=
    State.on_answers (next_answers (State.svnRequest_kept _ (Kept.refl s)))

theorem execAttestationRequest_kept {bm bt : Bool} (s : State) : Answers bm bt s (execAttestationRequest s) :=
    State.on_answers (next_answers (State.attRequest_kept (Kept.refl s)))

theorem execAttestationReportDone_kept {bm bt : Bool} (s : State) : Answers bm bt s (execAttestationReportDone s) := by
  unfold execAttestationReportDone
  apply State.on_answers
  repeat' (first
    | with_reducible exact Kept.refl _ | with_reducible apply next_answers | with_reducible apply State.wrN_kept
    | with_reducible apply State.clear_kept | with_reducible apply State.raiseBit_kept | with_reducible apply forN_kept
    | with_reducible apply ite_answers | with_reducible apply ite_kept | intro _
    | (simp only [kept_mk]; refine Kept.upd rfl ?_))

theorem execMainSrcSelect_kept {bm bt : Bool} (v : Word) (s : State) : Answers bm bt s (execMainSrcSelect v s) :=
    State.on_answers (next_answers (State.mainSelect_kept _ (Kept.refl s)))

theorem execAonSrcSelect_kept {bm bt : Bool} (v : Word) (s : State) : Answers bm bt s (execAonSrcSelect v s) :=
    State.on_answers (next_answers (State.aonSelect_kept _ (Kept.refl s)))

theorem execPllRefChange_kept {bm bt : Bool} (v : Word) (s : State) : Answers bm bt s (execPllRefChange v s) :=
    State.on_answers (next_answers (State.pllRefSelect_kept _ (Kept.refl s)))

theorem execPllRefChangeComplete_kept {bt : Bool} (s : State) : Answers false bt s (execPllRefChangeComplete s) := by
  unfold execPllRefChangeComplete
  apply State.on_answers
  repeat' (first
    | with_reducible exact Kept.refl _ | with_reducible apply next_answers | with_reducible apply State.pllRefDone_kept
    | with_reducible apply State.resumeAccesses_kept | with_reducible apply ite_answers)

theorem execClockSwitchComplete_kept {bm bt : Bool} (s : State) : Answers bm bt s (execClockSwitchComplete s) := by
  unfold execClockSwitchComplete
  apply State.on_answers
  repeat' (first
    | with_reducible exact Kept.refl _ | with_reducible apply next_answers | with_reducible apply State.clear_kept
    | with_reducible apply ite_answers | with_reducible apply ite_kept | (simp only [kept_mk]; refine Kept.upd rfl ?_) | split)

theorem execSourceReady_kept {bm bt : Bool} (b : Fin 8) (s : State) : Answers bm bt s (execSourceReady b s) := by
  unfold execSourceReady
  apply State.on_answers
  repeat' (first
    | with_reducible exact Kept.refl _ | with_reducible apply next_answers | with_reducible apply State.set_kept
    | with_reducible apply State.see_kept | with_reducible apply State.unraise_kept | with_reducible apply State.showAck_kept
    | with_reducible apply State.clear_kept | with_reducible apply ite_answers | with_reducible apply ite_kept
    | (simp only [kept_mk]; refine Kept.upd rfl ?_))

theorem execClockLossForcing_kept {bm bt : Bool} (b : Fin 8) (s : State) : Answers bm bt s (execClockLossForcing b s) := by
  unfold execClockLossForcing
  apply State.on_answers
  repeat' (first
    | with_reducible exact Kept.refl _ | with_reducible apply next_answers | with_reducible apply State.forcingLoss_kept
    | with_reducible apply ite_answers)

theorem execClockLossNonforcing_kept {bm bt : Bool} (b : Fin 8) (s : State) :
    Answers bm bt s (execClockLossNonforcing b s) := by
  unfold execClockLossNonforcing
  apply State.on_answers
  repeat' (first
    | with_reducible exact Kept.refl _ | with_reducible apply next_answers | with_reducible apply State.unready_kept
    | with_reducible apply State.raiseBit_kept | with_reducible apply State.raise_kept | with_reducible apply State.set_kept
    | with_reducible apply State.autoMove_kept | with_reducible apply State.forecastStop_kept
    | with_reducible apply ite_answers | with_reducible apply ite_kept)

theorem execClockHoldClear_kept {bm bt : Bool} (s : State) : Answers bm bt s (execClockHoldClear s) := by
  unfold execClockHoldClear
  apply State.on_answers
  repeat' (first
    | with_reducible exact Kept.refl _ | with_reducible apply next_answers | with_reducible apply State.clear_kept
    | with_reducible apply State.unraise_kept | with_reducible apply State.showAck_kept
    | with_reducible apply State.checkHoldoff_kept | with_reducible apply forN_kept | with_reducible apply ite_answers
    | with_reducible apply ite_kept | intro _ | (simp only [kept_mk]; refine Kept.upd rfl ?_))

theorem execXtalBStartTimeout_kept {bm bt : Bool} (s : State) : Answers bm bt s (execXtalBStartTimeout s) := by
  unfold execXtalBStartTimeout
  apply State.on_answers
  repeat' (first
    | with_reducible exact Kept.refl _ | with_reducible apply next_answers | with_reducible apply State.see_kept
    | with_reducible apply State.raiseBit_kept | with_reducible apply State.raise_kept | with_reducible apply ite_answers)

theorem execXtalAStartTimeout_kept {bm bt : Bool} (s : State) : Answers bm bt s (execXtalAStartTimeout s) := by
  unfold execXtalAStartTimeout
  apply State.on_answers
  repeat' (first
    | with_reducible exact Kept.refl _ | with_reducible apply next_answers | with_reducible apply State.see_kept
    | with_reducible apply State.forcingLoss_kept | with_reducible apply ite_answers)

theorem execFmeasStart_kept {bm bt : Bool} (dut ref : Fin 16) (s : State) : Answers bm bt s (execFmeasStart dut ref s) := by
  unfold execFmeasStart
  apply State.on_answers
  repeat' (first
    | with_reducible exact Kept.refl _ | with_reducible apply next_answers | with_reducible apply State.set_kept
    | with_reducible apply State.fmeasStart_kept)

theorem execFmeasDone_kept {bm bt : Bool} (count : Nat) (s : State) : Answers bm bt s (execFmeasDone count s) := by
  unfold execFmeasDone
  apply State.on_answers
  repeat' (first
    | with_reducible exact Kept.refl _ | with_reducible apply next_answers | with_reducible apply State.clear_kept
    | with_reducible apply State.wrN_kept | with_reducible apply State.raiseBit_kept | with_reducible apply ite_answers
    | with_reducible apply ite_kept | (simp only [kept_mk]; refine Kept.upd rfl ?_))

theorem execPowerModeSelect_kept {bm bt : Bool} (m : Bool) (s : State) : Answers bm bt s (execPowerModeSelect m s) :=
    State.on_answers (next_answers (State.modeSelect_kept _ (Kept.refl s)))

theorem execDeepSleepEntry_kept {bm bt : Bool} (s : State) : Answers bm bt s (execDeepSleepEntry s) := by
  unfold execDeepSleepEntry
  apply State.on_answers
  repeat' (first
    | with_reducible exact Kept.refl _ | with_reducible apply next_answers | with_reducible apply State.set_kept
    | with_reducible apply State.gates_kept | with_reducible apply State.modeDone_kept | with_reducible apply ite_answers
    | with_reducible apply ite_kept | (simp only [kept_mk]; refine Kept.upd rfl ?_))

theorem execWakeSourceFired_kept {bm bt : Bool} (b : Fin 5) (s : State) : Answers bm bt s (execWakeSourceFired b s) :=
    State.on_answers (next_answers (State.wakeBy_kept _ (Kept.refl s)))

theorem execWakeTimerExpiry_kept {bm bt : Bool} (s : State) : Answers bm bt s (execWakeTimerExpiry s) := by
  unfold execWakeTimerExpiry
  apply State.on_answers
  repeat' (first
    | with_reducible exact Kept.refl _ | with_reducible apply next_answers | with_reducible apply State.wrN_kept
    | with_reducible apply State.wakeBy_kept | with_reducible apply ite_answers)

theorem execDomainGateChange_kept {bm bt : Bool} (s : State) : Answers bm bt s (execDomainGateChange s) :=
    State.on_answers (next_answers (State.modeDone_kept (State.gates_kept (Kept.refl s))))

theorem execBar2WakeLatchExpiry_kept {bm bt : Bool} (m : Fin 4) (s : State) :
    Answers bm bt s (execBar2WakeLatchExpiry m s) := by
  unfold execBar2WakeLatchExpiry
  apply State.on_answers
  repeat' (first
    | with_reducible exact Kept.refl _ | with_reducible apply next_answers | (simp only [kept_mk]; refine Kept.upd rfl ?_))

theorem execSwitchingCycleStart_kept {bm bt : Bool} (n : ChanNo) (iAvg : Int) (s : State) :
    Answers bm bt s (execSwitchingCycleStart n iAvg s) := by
  unfold execSwitchingCycleStart
  apply State.on_answers
  repeat' (first
    | with_reducible exact Kept.refl _ | with_reducible apply next_answers | with_reducible apply State.slew_kept
    | with_reducible apply State.emit_kept | with_reducible apply State.cycleEnd_kept
    | with_reducible apply State.setChan_kept | with_reducible apply State.hiccup_kept
    | with_reducible apply State.toRest_kept | with_reducible apply State.afterChans_kept
    | with_reducible apply State.cycleLoad_kept | with_reducible apply State.set_kept | with_reducible apply ite_answers
    | with_reducible apply ite_kept)

theorem execPeakComparatorTrip_kept {bm bt : Bool} (n : ChanNo) (isns : Int) (left : Nat) (s : State) :
    Answers bm bt s (execPeakComparatorTrip n isns left s) := by
  unfold execPeakComparatorTrip
  apply State.on_answers
  repeat' (first
    | with_reducible exact Kept.refl _ | with_reducible apply next_answers | with_reducible apply State.sense_kept
    | with_reducible apply State.setChan_kept | with_reducible apply State.ctlOff_kept | with_reducible apply ite_answers)

theorem execBlankingEnd_kept {bm bt : Bool} (n : ChanNo) (isns : Int) (left : Nat) (s : State) :
    Answers bm bt s (execBlankingEnd n isns left s) := by
  unfold execBlankingEnd
  apply State.on_answers
  repeat' (first
    | with_reducible exact Kept.refl _ | with_reducible apply next_answers | with_reducible apply State.sense_kept
    | with_reducible apply State.ctlOff_kept | with_reducible apply State.raiseBit_kept
    | with_reducible apply State.setChan_kept | with_reducible apply ite_answers)

theorem execLatestTurnOff_kept {bm bt : Bool} (n : ChanNo) (isns : Int) (s : State) :
    Answers bm bt s (execLatestTurnOff n isns s) := by
  unfold execLatestTurnOff
  apply State.on_answers
  repeat' (first
    | with_reducible exact Kept.refl _ | with_reducible apply next_answers | with_reducible apply State.sense_kept
    | with_reducible apply State.ctlOff_kept | with_reducible apply ite_answers)

theorem execDeadTimeExpiry_kept {bm bt : Bool} (n : ChanNo) (s : State) : Answers bm bt s (execDeadTimeExpiry n s) := by
  unfold execDeadTimeExpiry
  apply State.on_answers
  repeat' (first
    | with_reducible exact Kept.refl _ | with_reducible apply next_answers | with_reducible apply State.setChan_kept
    | with_reducible apply ite_answers)

theorem execZeroCurrentDetect_kept {bm bt : Bool} (n : ChanNo) (s : State) :
    Answers bm bt s (execZeroCurrentDetect n s) := by
  unfold execZeroCurrentDetect
  apply State.on_answers
  repeat' (first
    | with_reducible exact Kept.refl _ | with_reducible apply next_answers | with_reducible apply State.setChan_kept
    | with_reducible apply ite_answers)

theorem execPeakLimitTrip_kept {bm bt : Bool} (n : ChanNo) (isns : Int) (left : Nat) (s : State) :
    Answers bm bt s (execPeakLimitTrip n isns left s) := by
  unfold execPeakLimitTrip
  apply State.on_answers
  repeat' (first
    | with_reducible exact Kept.refl _ | with_reducible apply next_answers | with_reducible apply State.sense_kept
    | with_reducible apply State.setChan_kept | with_reducible apply State.raiseBit_kept
    | with_reducible apply State.ctlOff_kept | with_reducible apply ite_answers | with_reducible apply ite_kept)

theorem execHiccupOffExpiry_kept {bm bt : Bool} (g : GrpNo) (s : State) : Answers bm bt s (execHiccupOffExpiry g s) := by
  unfold execHiccupOffExpiry
  apply State.on_answers
  repeat' (first
    | with_reducible exact Kept.refl _ | with_reducible apply next_answers | with_reducible apply State.bumpSat_kept
    | with_reducible apply State.set_kept | with_reducible apply State.toRest_kept
    | with_reducible apply State.beginRestart_kept | with_reducible apply State.afterChans_kept
    | with_reducible apply forL_kept | with_reducible apply ite_answers | with_reducible apply ite_kept | intro _)

theorem execHiccupRetryComplete_kept {bm bt : Bool} (g : GrpNo) (s : State) :
    Answers bm bt s (execHiccupRetryComplete g s) := by
  unfold execHiccupRetryComplete
  apply State.on_answers
  repeat' (first
    | with_reducible exact Kept.refl _ | with_reducible apply next_answers | with_reducible apply State.set_kept
    | with_reducible apply State.retrySheds_kept | with_reducible apply State.setChan_kept
    | with_reducible apply State.afterChans_kept | with_reducible apply forL_kept | with_reducible apply ite_answers
    | with_reducible apply ite_kept | intro _)

theorem execRunClearExpiry_kept {bm bt : Bool} (g : GrpNo) (s : State) : Answers bm bt s (execRunClearExpiry g s) := by
  unfold execRunClearExpiry
  apply State.on_answers
  repeat' (first
    | with_reducible exact Kept.refl _ | with_reducible apply next_answers | with_reducible apply State.set_kept
    | with_reducible apply ite_answers)

theorem execShedAddSlot_kept {bm bt : Bool} (s : State) : Answers bm bt s (execShedAddSlot s) := by
  unfold execShedAddSlot
  apply State.on_answers
  repeat' (first
    | with_reducible exact Kept.refl _ | with_reducible apply next_answers | with_reducible apply State.slot_kept
    | with_reducible apply State.afterChans_kept | with_reducible apply ite_answers)

theorem execStepEvent_kept {bm bt : Bool} (xs : Strings) (s : State) : Answers bm bt s (execStepEvent xs s) := by
  unfold execStepEvent
  apply State.on_answers
  repeat' (first
    | with_reducible exact Kept.refl _ | with_reducible apply next_answers | with_reducible apply State.stepEvent_kept)

theorem execStepHoldExpiry_kept {bm bt : Bool} (x : StrNo) (s : State) : Answers bm bt s (execStepHoldExpiry x s) := by
  unfold execStepHoldExpiry
  apply State.on_answers
  repeat' (first
    | with_reducible exact Kept.refl _ | with_reducible apply next_answers | (simp only [kept_mk]; refine Kept.upd rfl ?_))

theorem execFltNLow_kept {bm bt : Bool} (n : ChanNo) (s : State) : Answers bm bt s (execFltNLow n s) := by
  unfold execFltNLow
  apply State.on_answers
  repeat' (first
    | with_reducible exact Kept.refl _ | with_reducible apply next_answers | with_reducible apply State.setChan_kept
    | with_reducible apply State.raiseBit_kept | with_reducible apply State.faultChan_kept)

theorem execStageTempCheck_kept {bm bt : Bool} (n : ChanNo) (temp : Int) (s : State) :
    Answers bm bt s (execStageTempCheck n temp s) := by
  unfold execStageTempCheck
  apply State.on_answers
  repeat' (first
    | with_reducible exact Kept.refl _ | with_reducible apply next_answers | with_reducible apply State.setI_kept
    | with_reducible apply State.raiseBit_kept | with_reducible apply State.beginShed_kept
    | with_reducible apply State.afterChans_kept | with_reducible apply State.raiseOnce_kept
    | with_reducible apply State.unraise_kept | with_reducible apply State.faultChan_kept | with_reducible apply ite_answers
    | with_reducible apply ite_kept | (simp only [kept_mk]; refine Kept.upd rfl ?_))

theorem execFaultedChannelReturn_kept {bm bt : Bool} (n : ChanNo) (s : State) :
    Answers bm bt s (execFaultedChannelReturn n s) := by
  unfold execFaultedChannelReturn
  apply State.on_answers
  repeat' (first
    | with_reducible exact Kept.refl _ | with_reducible apply next_answers | with_reducible apply State.setChan_kept
    | with_reducible apply State.unraise_kept | with_reducible apply State.toRest_kept
    | with_reducible apply State.afterChans_kept | with_reducible apply ite_answers)

theorem execSyncEdge_kept {bm bt : Bool} (interval phase : Nat) (s : State) :
    Answers bm bt s (execSyncEdge interval phase s) := by
  unfold execSyncEdge
  apply State.on_answers
  repeat' (first
    | with_reducible exact Kept.refl _ | with_reducible apply next_answers | with_reducible apply State.set_kept
    | with_reducible apply State.unraise_kept | with_reducible apply ite_answers | with_reducible apply ite_kept
    | (simp only [kept_mk]; refine Kept.upd rfl ?_))

theorem execSyncEdgeMissing_kept {bm bt : Bool} (s : State) : Answers bm bt s (execSyncEdgeMissing s) := by
  unfold execSyncEdgeMissing
  apply State.on_answers
  repeat' (first
    | with_reducible exact Kept.refl _ | with_reducible apply next_answers | with_reducible apply State.set_kept
    | with_reducible apply State.syncLost_kept | with_reducible apply ite_answers | with_reducible apply ite_kept
    | (simp only [kept_mk]; refine Kept.upd rfl ?_))

theorem execSyncSrcSelect_kept {bm bt : Bool} (src : Fin 4) (s : State) : Answers bm bt s (execSyncSrcSelect src s) := by
  unfold execSyncSrcSelect
  apply State.on_answers
  repeat' (first
    | with_reducible exact Kept.refl _ | with_reducible apply next_answers | with_reducible apply State.syncSelect_kept
    | with_reducible apply State.refuse_kept | with_reducible apply ite_answers | with_reducible apply ite_kept)

theorem execOverVoltageDeclared_kept {bm bt : Bool} (vnode : Nat) (s : State) :
    Answers bm bt s (execOverVoltageDeclared vnode s) := by
  unfold execOverVoltageDeclared
  apply State.on_answers
  repeat' (first
    | with_reducible exact Kept.refl _ | with_reducible apply next_answers | with_reducible apply State.ovSettle_kept
    | with_reducible apply State.lfr_kept | with_reducible apply State.raise_kept | with_reducible apply ite_answers
    | with_reducible apply ite_kept | (simp only [kept_mk]; refine Kept.upd rfl ?_))

theorem execOvLowSwitchLatch_kept {bm bt : Bool} (n : ChanNo) (s : State) : Answers bm bt s (execOvLowSwitchLatch n s) := by
  unfold execOvLowSwitchLatch
  apply State.on_answers
  repeat' (first
    | with_reducible exact Kept.refl _ | with_reducible apply next_answers | with_reducible apply State.ovSettle_kept
    | with_reducible apply State.chPark_kept | with_reducible apply State.set_kept
    | with_reducible apply State.showActive_kept | with_reducible apply ite_answers | with_reducible apply ite_kept
    | (simp only [kept_mk]; refine Kept.upd rfl ?_))

theorem execOvNoIso_kept {bm bt : Bool} (s : State) : Answers bm bt s (execOvNoIso s) := by
  unfold execOvNoIso
  apply State.on_answers
  repeat' (first
    | with_reducible exact Kept.refl _ | with_reducible apply next_answers | with_reducible apply State.toRest_kept
    | with_reducible apply State.set_kept | with_reducible apply State.afterChans_kept | with_reducible apply forL_kept
    | with_reducible apply ite_answers | with_reducible apply ite_kept | intro _
    | (simp only [kept_mk]; refine Kept.upd rfl ?_))

theorem execOvClear_kept {bm bt : Bool} (vnode : Nat) (s : State) : Answers bm bt s (execOvClear vnode s) := by
  unfold execOvClear
  apply State.on_answers
  repeat' (first
    | with_reducible exact Kept.refl _ | with_reducible apply next_answers | with_reducible apply State.ovRelease_kept
    | with_reducible apply ite_answers)

theorem execOvAutoRelease_kept {bm bt : Bool} (s : State) : Answers bm bt s (execOvAutoRelease s) := by
  unfold execOvAutoRelease
  apply State.on_answers
  repeat' (first
    | with_reducible exact Kept.refl _ | with_reducible apply next_answers | with_reducible apply State.ovRelease_kept
    | with_reducible apply ite_answers)

theorem execLastFaultRecordWrite_kept {bm bt : Bool} (s : State) : Answers bm bt s (execLastFaultRecordWrite s) := by
  unfold execLastFaultRecordWrite
  apply State.on_answers
  repeat' (first
    | with_reducible exact Kept.refl _ | with_reducible apply next_answers | with_reducible apply State.set_kept
    | with_reducible apply State.jnlStart_kept | with_reducible apply State.wearGo_kept | with_reducible apply ite_answers
    | with_reducible apply ite_kept | (simp only [kept_mk]; refine Kept.upd rfl ?_) | split)

theorem execGroupEnable_kept {bm bt : Bool} (g : GrpNo) (s : State) : Answers bm bt s (execGroupEnable g s) :=
    State.on_answers (next_answers (State.groupEnable_kept _ (Kept.refl s)))

theorem execGroupDisable_kept {bm bt : Bool} (g : GrpNo) (s : State) : Answers bm bt s (execGroupDisable g s) :=
    State.on_answers (next_answers (State.groupDisable_kept _ (Kept.refl s)))

theorem execForceShedWrite_kept {bm bt : Bool} (n : ChanNo) (v : Bool) (s : State) :
    Answers bm bt s (execForceShedWrite n v s) := State.on_answers (next_answers (State.forceShed_kept _ _ (Kept.refl s)))

theorem execPendingEnableExpiry_kept {bm bt : Bool} (p : Pending) (s : State) :
    Answers bm bt s (execPendingEnableExpiry p s) := by
  unfold execPendingEnableExpiry
  apply State.on_answers
  repeat' (first
    | with_reducible exact Kept.refl _ | with_reducible apply next_answers | with_reducible apply State.armDue_kept
    | with_reducible apply State.casPending_kept | with_reducible apply State.casBegin_kept
    | with_reducible apply State.set_kept | with_reducible apply State.groupUp_kept | with_reducible apply ite_answers
    | with_reducible apply ite_kept | split)

theorem execReinSample_kept {bt : Bool} (i : SampleIn) (s : State) : Answers false bt s (execReinSample i s) := by
  unfold execReinSample
  apply State.on_answers
  repeat' (first
    | with_reducible exact Kept.refl _ | with_reducible apply next_answers | with_reducible apply State.capture_kept
    | with_reducible apply State.frameMean_kept | with_reducible apply State.estTake_kept
    | with_reducible apply State.shedTake_kept | with_reducible apply State.holdFree_kept
    | with_reducible apply State.prechargeRefs_kept | with_reducible apply State.banks_kept
    | with_reducible apply State.rebaseTransfer_kept | with_reducible apply State.cascades_kept
    | with_reducible apply State.split_kept | with_reducible apply State.disarmStep_kept
    | with_reducible apply State.swapCalm_kept | with_reducible apply State.sampleRecords_kept
    | with_reducible apply ite_answers | with_reducible apply ite_kept)

theorem execFollowingErrorTrip_kept {bm bt : Bool} (c : CasNo) (s : State) :
    Answers bm bt s (execFollowingErrorTrip c s) := by
  unfold execFollowingErrorTrip
  apply State.on_answers
  repeat' (first
    | with_reducible exact Kept.refl _ | with_reducible apply next_answers | with_reducible apply State.feTripped_kept
    | with_reducible apply State.feFault_kept | with_reducible apply ite_answers)

theorem execCascadeEnable_kept {bm bt : Bool} (c : CasNo) (s : State) : Answers bm bt s (execCascadeEnable c s) :=
    State.on_answers (next_answers (State.casEnable_kept _ (Kept.refl s)))

theorem execCascadeDisable_kept {bm bt : Bool} (c : CasNo) (s : State) : Answers bm bt s (execCascadeDisable c s) :=
    State.on_answers (next_answers (State.casDisable_kept _ (Kept.refl s)))

theorem execBankSwitch_kept {bm bt : Bool} (c : CasNo) (b : Bool) (s : State) : Answers bm bt s (execBankSwitch c b s) := by
  unfold execBankSwitch
  apply State.on_answers
  repeat' (first
    | with_reducible exact Kept.refl _ | with_reducible apply next_answers | with_reducible apply State.setB_kept)

theorem execCascadeHold_kept {bm bt : Bool} (c : CasNo) (s : State) : Answers bm bt s (execCascadeHold c s) :=
    State.on_answers (next_answers (State.casHold_kept _ (Kept.refl s)))

theorem execCascadeHoldClear_kept {bm bt : Bool} (c : CasNo) (s : State) : Answers bm bt s (execCascadeHoldClear c s) := by
  unfold execCascadeHoldClear
  apply State.on_answers
  repeat' (first
    | with_reducible exact Kept.refl _ | with_reducible apply next_answers | with_reducible apply State.set_kept)

theorem execCoefficientWrite_kept {bm bt : Bool} (k : Fin 64) (word : Fin 6) (v : Word) (s : State) :
    Answers bm bt s (execCoefficientWrite k word v s) :=
    State.on_answers (next_answers (State.coefWrite_kept _ _ _ (Kept.refl s)))

theorem execSectionStateWrite_kept {bm bt : Bool} (k : Fin 64) (word : Fin 4) (v : Word) (s : State) :
    Answers bm bt s (execSectionStateWrite k word v s) :=
    State.on_answers (next_answers (State.secStateWrite_kept _ _ _ (Kept.refl s)))

theorem execMapWrite_kept {bm bt : Bool} (c : CasNo) (w : MapWrite) (s : State) : Answers bm bt s (execMapWrite c w s) :=
    State.on_answers (next_answers (State.mapWrite_kept _ _ (Kept.refl s)))

theorem execCasSrcWrite_kept {bm bt : Bool} (c : CasNo) (v : Word) (s : State) :
    Answers bm bt s (execCasSrcWrite c v s) := State.on_answers (next_answers (State.casSrcWrite_kept _ _ (Kept.refl s)))

theorem execL1Slot_kept {bm bt : Bool} (i : L1In) (s : State) : Answers bm bt s (execL1Slot i s) := by
  unfold execL1Slot
  apply State.on_answers
  repeat' (first
    | with_reducible exact Kept.refl _ | with_reducible apply next_answers | with_reducible apply State.limitWrites_kept
    | with_reducible apply State.wrI_kept | with_reducible apply State.slotServed_kept
    | with_reducible apply State.slotTail_kept | with_reducible apply State.rectResult_kept
    | with_reducible apply State.disarmStep_kept | with_reducible apply forL_kept | with_reducible apply ite_answers
    | with_reducible apply ite_kept | intro _ | split)

theorem execPmbusClearFaults_kept {bm bt : Bool} (r : Fin 6) (s : State) : Answers bm bt s (execPmbusClearFaults r s) := by
  unfold execPmbusClearFaults
  apply State.on_answers
  repeat' (first
    | with_reducible exact Kept.refl _ | with_reducible apply next_answers | with_reducible apply State.pmbus_kept
    | with_reducible apply ite_answers)

theorem execTuneStart_kept {bm bt : Bool} (c : CasNo) (s : State) : Answers bm bt s (execTuneStart c s) := by
  unfold execTuneStart
  apply State.on_answers
  repeat' (first
    | with_reducible exact Kept.refl _ | with_reducible apply next_answers | with_reducible apply State.set_kept
    | with_reducible apply State.tuneStart_kept)

theorem execTuneAbort_kept {bm bt : Bool} (s : State) : Answers bm bt s (execTuneAbort s) := by
  unfold execTuneAbort
  apply State.on_answers
  repeat' (first
    | with_reducible exact Kept.refl _ | with_reducible apply next_answers | with_reducible apply State.clear_kept
    | with_reducible apply State.tuneAbort_kept)

theorem execTuneTimeLimit_kept {bm bt : Bool} (s : State) : Answers bm bt s (execTuneTimeLimit s) :=
    State.on_answers (next_answers (State.tuneAbort_kept _ (Kept.refl s)))

theorem execSpurHint_kept {bm bt : Bool} (i : HintIn) (s : State) : Answers bm bt s (execSpurHint i s) := by
  unfold execSpurHint
  apply State.on_answers
  repeat' (first
    | with_reducible exact Kept.refl _ | with_reducible apply next_answers | with_reducible apply State.rxCount_kept
    | with_reducible apply State.hintWakes_kept | with_reducible apply State.stepEvent_kept
    | with_reducible apply State.noteRx_kept | with_reducible apply State.takeHint_kept
    | with_reducible apply State.usMark_kept | with_reducible apply State.acknowledge_kept | with_reducible apply ite_answers
    | with_reducible apply ite_kept)

theorem execSpurCancel_kept {bm bt : Bool} (i : CancelIn) (s : State) : Answers bm bt s (execSpurCancel i s) := by
  unfold execSpurCancel
  apply State.on_answers
  repeat' (first
    | with_reducible exact Kept.refl _ | with_reducible apply next_answers | with_reducible apply State.rxCount_kept
    | with_reducible apply State.noteRx_kept | with_reducible apply State.withdraw_kept
    | with_reducible apply State.acknowledge_kept | with_reducible apply ite_answers | with_reducible apply ite_kept | split)

theorem execSpurInvalidFrame_kept {bm bt : Bool} (lane : Fin 2) (gap : Bool) (s : State) :
    Answers bm bt s (execSpurInvalidFrame lane gap s) := by
  unfold execSpurInvalidFrame
  apply State.on_answers
  repeat' (first
    | with_reducible exact Kept.refl _ | with_reducible apply next_answers | with_reducible apply State.bumpSat_kept
    | with_reducible apply State.raiseBit_kept | with_reducible apply ite_answers)

theorem execClrLatMax_kept {bm bt : Bool} (s : State) : Answers bm bt s (execClrLatMax s) :=
    State.on_answers (next_answers (State.set_kept _ _ (Kept.refl s)))

theorem execCommitStep_kept {bt : Bool} (s : State) : Answers false bt s (execCommitStep s) := by
  unfold execCommitStep
  apply State.on_answers
  repeat' (first
    | with_reducible exact Kept.refl _ | with_reducible apply next_answers | with_reducible apply State.beginStep_kept
    | with_reducible apply State.commitSample_kept | with_reducible apply State.mergeDue_kept
    | with_reducible apply State.checkUnannounced_kept | with_reducible apply State.quietEval_kept
    | with_reducible apply State.hrEval_kept | with_reducible apply State.telStep_kept
    | with_reducible apply State.showNow_kept | with_reducible apply ite_answers)

theorem execHintExpiry_kept {bm bt : Bool} (i : Fin 32) (s : State) : Answers bm bt s (execHintExpiry i s) := by
  unfold execHintExpiry
  apply State.on_answers
  repeat' (first
    | with_reducible exact Kept.refl _ | with_reducible apply next_answers | (simp only [kept_mk]; refine Kept.upd rfl ?_))

theorem execHrRelease_kept {bm bt : Bool} (s : State) : Answers bm bt s (execHrRelease s) := by
  unfold execHrRelease
  apply State.on_answers
  repeat' (first
    | with_reducible exact Kept.refl _ | with_reducible apply next_answers | with_reducible apply State.clear_kept
    | with_reducible apply ite_answers)

theorem execHeadStepWrite_kept {bm bt : Bool} (x : Fin 16) (lo : Word) (s : State) :
    Answers bm bt s (execHeadStepWrite x lo s) := by
  unfold execHeadStepWrite
  apply State.on_answers
  repeat' (first
    | with_reducible exact Kept.refl _ | with_reducible apply next_answers | with_reducible apply State.headStep_kept
    | with_reducible apply ite_answers | with_reducible apply ite_kept)

theorem execQuietUntilWrite_kept {bm bt : Bool} (x : Fin 16) (v : Word64) (s : State) :
    Answers bm bt s (execQuietUntilWrite x v s) := by
  unfold execQuietUntilWrite
  apply State.on_answers
  repeat' (first
    | with_reducible exact Kept.refl _ | with_reducible apply next_answers | with_reducible apply State.quietPut_kept
    | with_reducible apply ite_answers | with_reducible apply ite_kept)

theorem execSweepStart_kept {bm bt : Bool} (vstrA vstrB : Nat) (s : State) :
    Answers bm bt s (execSweepStart vstrA vstrB s) := by
  unfold execSweepStart
  apply State.on_answers
  repeat' (first
    | with_reducible exact Kept.refl _ | with_reducible apply next_answers | with_reducible apply State.setRs_kept
    | with_reducible apply State.sweepOne_kept | with_reducible apply ite_answers | with_reducible apply ite_kept
    | (simp only [kept_mk]; refine Kept.upd rfl ?_))

theorem execSweepComplete_kept {bm bt : Bool} (x : StrNo) (i : SweepIn) (s : State) :
    Answers bm bt s (execSweepComplete x i s) := by
  unfold execSweepComplete
  apply State.on_answers
  repeat' (first
    | with_reducible exact Kept.refl _ | with_reducible apply next_answers | with_reducible apply State.hear_kept
    | with_reducible apply State.splitSweep_kept | with_reducible apply State.endTwo_kept
    | with_reducible apply State.setRs_kept | with_reducible apply State.sendRing_kept
    | with_reducible apply State.sweepDone_kept | with_reducible apply ite_answers)

theorem execBreakDetect_kept {bm bt : Bool} (x : StrNo) (i : SweepIn) (s : State) :
    Answers bm bt s (execBreakDetect x i s) := by
  unfold execBreakDetect
  apply State.on_answers
  repeat' (first
    | with_reducible exact Kept.refl _ | with_reducible apply next_answers | with_reducible apply State.hear_kept
    | with_reducible apply State.setRs_kept | with_reducible apply State.sendRing_kept
    | with_reducible apply State.toSplit_kept | with_reducible apply State.sweepDone_kept | with_reducible apply ite_answers)

theorem execReadHeldComplete_kept {bm bt : Bool} (x : StrNo) (i : SweepIn) (s : State) :
    Answers bm bt s (execReadHeldComplete x i s) := by
  unfold execReadHeldComplete
  apply State.on_answers
  repeat' (first
    | with_reducible exact Kept.refl _ | with_reducible apply next_answers | with_reducible apply State.hear_kept
    | with_reducible apply State.setRs_kept | with_reducible apply State.toSplit_kept
    | with_reducible apply State.sweepDone_kept | with_reducible apply ite_answers)

theorem execRingHbKick_kept {bm bt : Bool} (s : State) : Answers bm bt s (execRingHbKick s) :=
    State.on_answers (next_answers (State.ringKick_kept (Kept.refl s)))

theorem execEnum_kept {bm bt : Bool} (x : StrNo) (s : State) : Answers bm bt s (execEnum x s) :=
    State.on_answers (next_answers (State.enumRequest_kept _ (Kept.refl s)))

theorem execEnumAssignReturn_kept {bm bt : Bool} (x : StrNo) (counter : Fin 256) (recs : List EnumRec) (s : State) :
    Answers bm bt s (execEnumAssignReturn x counter recs s) := by
  unfold execEnumAssignReturn
  apply State.on_answers
  repeat' (first
    | with_reducible exact Kept.refl _ | with_reducible apply next_answers | with_reducible apply State.enumFail_kept
    | with_reducible apply State.setRs_kept | with_reducible apply State.set_kept | with_reducible apply State.sendRing_kept
    | with_reducible apply ite_answers)

theorem execEnumVerifyReturn_kept {bm bt : Bool} (x : StrNo) (recs : List EnumRec) (s : State) :
    Answers bm bt s (execEnumVerifyReturn x recs s) := by
  unfold execEnumVerifyReturn
  apply State.on_answers
  repeat' (first
    | with_reducible exact Kept.refl _ | with_reducible apply next_answers | with_reducible apply State.enumFail_kept
    | with_reducible apply State.enumVerified_kept | with_reducible apply ite_answers)

theorem execEnumFrameTimeout_kept {bm bt : Bool} (x : StrNo) (s : State) : Answers bm bt s (execEnumFrameTimeout x s) := by
  unfold execEnumFrameTimeout
  apply State.on_answers
  repeat' (first
    | with_reducible exact Kept.refl _ | with_reducible apply next_answers | with_reducible apply State.enumFail_kept
    | with_reducible apply ite_answers)

theorem execBalCmd_kept {bm bt : Bool} (v : Word) (s : State) : Answers bm bt s (execBalCmd v s) :=
    State.on_answers (next_answers (State.balCmd_kept _ (Kept.refl s)))

theorem execBalDisable_kept {bm bt : Bool} (s : State) : Answers bm bt s (execBalDisable s) :=
    State.on_answers (next_answers (State.balDisable_kept (Kept.refl s)))

theorem execOpenWireStart_kept {bm bt : Bool} (x : StrNo) (m : Fin 4) (w : Fin 16) (s : State) :
    Answers bm bt s (execOpenWireStart x m w s) := by
  unfold execOpenWireStart
  apply State.on_answers
  repeat' (first
    | with_reducible exact Kept.refl _ | with_reducible apply next_answers | with_reducible apply State.set_kept
    | with_reducible apply State.owStart_kept | with_reducible apply State.refuse_kept | with_reducible apply ite_answers
    | with_reducible apply ite_kept)

theorem execOpenWireAuto_kept {bm bt : Bool} (x : StrNo) (s : State) : Answers bm bt s (execOpenWireAuto x s) := by
  unfold execOpenWireAuto
  apply State.on_answers
  repeat' (first
    | with_reducible exact Kept.refl _ | with_reducible apply next_answers | with_reducible apply State.setRs_kept
    | with_reducible apply State.owQueue_kept | with_reducible apply ite_answers)

theorem execCornerWrite_kept {bm bt : Bool} (v : Fin 8) (s : State) : Answers bm bt s (execCornerWrite v s) :=
    State.on_answers (next_answers (State.cornerWrite_kept _ (Kept.refl s)))

theorem execSwapRequest_kept {bm bt : Bool} (x : StrNo) (i o : Fin 52) (s : State) :
    Answers bm bt s (execSwapRequest x i o s) := State.on_answers (next_answers (State.swapRequest_kept _ _ _ (Kept.refl s)))

theorem execSwapBreak_kept {bm bt : Bool} (x : StrNo) (s : State) : Answers bm bt s (execSwapBreak x s) := by
  unfold execSwapBreak
  apply State.on_answers
  dsimp only
  repeat' (first
    | with_reducible exact Kept.refl _ | with_reducible apply next_answers | with_reducible apply State.set_kept
    | with_reducible apply State.setRs_kept | with_reducible apply ite_answers | with_reducible apply ite_kept | split)

theorem execSwapWaitTimeout_kept {bm bt : Bool} (x : StrNo) (s : State) : Answers bm bt s (execSwapWaitTimeout x s) := by
  unfold execSwapWaitTimeout
  apply State.on_answers
  repeat' (first
    | with_reducible exact Kept.refl _ | with_reducible apply next_answers | with_reducible apply State.swapRoles_kept
    | with_reducible apply State.swapFailed_kept | with_reducible apply ite_answers)

theorem execSwapMake_kept {bm bt : Bool} (x : StrNo) (s : State) : Answers bm bt s (execSwapMake x s) := by
  unfold execSwapMake
  apply State.on_answers
  repeat' (first
    | with_reducible exact Kept.refl _ | with_reducible apply next_answers | with_reducible apply State.swapRoles_kept
    | with_reducible apply State.swapFailed_kept | with_reducible apply State.set_kept | with_reducible apply ite_answers)

theorem execEstimatorRun_kept {bm bt : Bool} (x : StrNo) (s : State) : Answers bm bt s (execEstimatorRun x s) := by
  unfold execEstimatorRun
  apply State.on_answers
  repeat' (first
    | with_reducible exact Kept.refl _ | with_reducible apply next_answers | with_reducible apply State.estRun_kept
    | with_reducible apply State.clear_kept | with_reducible apply ite_answers)

theorem execRestCheck_kept {bm bt : Bool} (s : State) : Answers bm bt s (execRestCheck s) :=
    State.on_answers (next_answers (State.powTurn_kept (State.restCheck_kept (Kept.refl s))))

theorem execRestNow_kept {bm bt : Bool} (s : State) : Answers bm bt s (execRestNow s) :=
    State.on_answers (next_answers (State.restNow_kept (Kept.refl s)))

theorem execRestShedComplete_kept {bm bt : Bool} (s : State) : Answers bm bt s (execRestShedComplete s) := by
  unfold execRestShedComplete
  apply State.on_answers
  repeat' (first
    | with_reducible exact Kept.refl _ | with_reducible apply next_answers | with_reducible apply State.set_kept
    | with_reducible apply ite_answers)

theorem execRestShedTimeout_kept {bm bt : Bool} (s : State) : Answers bm bt s (execRestShedTimeout s) := by
  unfold execRestShedTimeout
  apply State.on_answers
  repeat' (first
    | with_reducible exact Kept.refl _ | with_reducible apply next_answers | with_reducible apply State.restAbort_kept
    | with_reducible apply ite_answers)

theorem execRestAverageStart_kept {bm bt : Bool} (s : State) : Answers bm bt s (execRestAverageStart s) := by
  unfold execRestAverageStart
  apply State.on_answers
  repeat' (first
    | with_reducible exact Kept.refl _ | with_reducible apply next_answers | with_reducible apply ite_answers
    | with_reducible apply ite_kept | (simp only [kept_mk]; refine Kept.upd rfl ?_))

theorem execRestReference_kept {bm bt : Bool} (s : State) : Answers bm bt s (execRestReference s) := by
  unfold execRestReference
  apply State.on_answers
  repeat' (first
    | with_reducible exact Kept.refl _ | with_reducible apply next_answers | with_reducible apply State.takeReference_kept
    | with_reducible apply State.restRelease_kept | with_reducible apply State.set_kept
    | with_reducible apply State.raiseBit_kept | with_reducible apply State.showCell_kept
    | with_reducible apply State.showStr_kept | with_reducible apply State.showShelf_kept
    | with_reducible apply State.jnlTrigger_kept | with_reducible apply forN_kept | with_reducible apply ite_answers
    | with_reducible apply ite_kept | intro _)

theorem execRestAbort_kept {bm bt : Bool} (s : State) : Answers bm bt s (execRestAbort s) := by
  unfold execRestAbort
  apply State.on_answers
  repeat' (first
    | with_reducible exact Kept.refl _ | with_reducible apply next_answers | with_reducible apply State.restAbort_kept
    | with_reducible apply ite_answers)

theorem execJournalPeriodic_kept {bm bt : Bool} (s : State) : Answers bm bt s (execJournalPeriodic s) := by
  unfold execJournalPeriodic
  apply State.on_answers
  repeat' (first
    | with_reducible exact Kept.refl _ | with_reducible apply next_answers | with_reducible apply State.jnlTrigger_kept
    | with_reducible apply ite_answers)

theorem execWriteNow_kept {bm bt : Bool} (s : State) : Answers bm bt s (execWriteNow s) :=
    State.on_answers (next_answers (State.writeNow_kept (Kept.refl s)))

theorem execJournalWriteComplete_kept {bm bt : Bool} (mismatch : Bool) (s : State) :
    Answers bm bt s (execJournalWriteComplete mismatch s) := by
  unfold execJournalWriteComplete
  apply State.on_answers
  repeat' (first
    | with_reducible exact Kept.refl _ | with_reducible apply next_answers | with_reducible apply State.fresh_kept
    | with_reducible apply State.raiseBit_kept | with_reducible apply State.mramFailed_kept
    | with_reducible apply State.clear_kept | with_reducible apply State.bumpSat_kept | with_reducible apply State.set_kept
    | with_reducible apply State.wrN_kept | with_reducible apply State.jnlStart_kept | with_reducible apply State.wearGo_kept
    | with_reducible apply ite_answers | with_reducible apply ite_kept | (simp only [kept_mk]; refine Kept.upd rfl ?_))

theorem execEfcWrite_kept {bm bt : Bool} (x : StrNo) (v : Word) (s : State) : Answers bm bt s (execEfcWrite x v s) :=
    State.on_answers (next_answers (State.efcWrite_kept _ _ (Kept.refl s)))

theorem execSyncSend_kept {bm bt : Bool} (tx0 tx1 : Nat) (s : State) : Answers bm bt s (execSyncSend tx0 tx1 s) := by
  unfold execSyncSend
  apply State.on_answers
  repeat' (first
    | with_reducible exact Kept.refl _ | with_reducible apply next_answers | with_reducible apply State.nextSeq_kept
    | with_reducible apply State.sendOn_kept | with_reducible apply State.showShort_kept | with_reducible apply ite_answers
    | with_reducible apply ite_kept | (simp only [kept_mk]; refine Kept.upd rfl ?_))

theorem execShareSend_kept {bm bt : Bool} (s : State) : Answers bm bt s (execShareSend s) := by
  unfold execShareSend
  apply State.on_answers
  repeat' (first
    | with_reducible exact Kept.refl _ | with_reducible apply next_answers | with_reducible apply State.sendControl_kept
    | with_reducible apply State.set_kept | with_reducible apply ite_answers | with_reducible apply ite_kept
    | (simp only [kept_mk]; refine Kept.upd rfl ?_))

theorem execDelayReqSend_kept {bm bt : Bool} (p : Fin 2) (t3 : Nat) (s : State) :
    Answers bm bt s (execDelayReqSend p t3 s) := by
  unfold execDelayReqSend
  apply State.on_answers
  repeat' (first
    | with_reducible exact Kept.refl _ | with_reducible apply next_answers | with_reducible apply State.nextSeq_kept
    | with_reducible apply State.setPth_kept | with_reducible apply State.sendOn_kept | with_reducible apply ite_answers)

theorem execShareCollectionClose_kept {bm bt : Bool} (s : State) : Answers bm bt s (execShareCollectionClose s) := by
  unfold execShareCollectionClose
  apply State.on_answers
  repeat' (first
    | with_reducible exact Kept.refl _ | with_reducible apply next_answers | with_reducible apply State.teamTarget_kept
    | with_reducible apply ite_answers | with_reducible apply ite_kept | (simp only [kept_mk]; refine Kept.upd rfl ?_))

theorem execTeamSummarySend_kept {bm bt : Bool} (s : State) : Answers bm bt s (execTeamSummarySend s) := by
  unfold execTeamSummarySend
  apply State.on_answers
  repeat' (first
    | with_reducible exact Kept.refl _ | with_reducible apply next_answers | with_reducible apply State.sendControl_kept
    | with_reducible apply State.keepSumm_kept | with_reducible apply ite_answers | with_reducible apply ite_kept
    | (simp only [kept_mk]; refine Kept.upd rfl ?_) | split)

theorem execDelayRespSend_kept {bm bt : Bool} (s : State) : Answers bm bt s (execDelayRespSend s) := by
  unfold execDelayRespSend
  apply State.on_answers
  repeat' (first
    | with_reducible exact Kept.refl _ | with_reducible apply next_answers | with_reducible apply State.sendResp_kept
    | with_reducible apply forL_kept | with_reducible apply ite_answers | with_reducible apply ite_kept | intro _
    | (simp only [kept_mk]; refine Kept.upd rfl ?_))

theorem execTargetSelect_kept {bm bt : Bool} (s : State) : Answers bm bt s (execTargetSelect s) := by
  unfold execTargetSelect
  apply State.on_answers
  repeat' (first
    | with_reducible exact Kept.refl _ | with_reducible apply next_answers | with_reducible apply State.countMiss_kept
    | with_reducible apply State.showTime_kept | with_reducible apply State.set_kept | with_reducible apply State.clear_kept
    | with_reducible apply State.wrI_kept | with_reducible apply State.standalone_kept | with_reducible apply ite_answers
    | with_reducible apply ite_kept | (simp only [kept_mk]; refine Kept.upd rfl ?_) | split)

theorem execHallTargetCompute_kept {bm bt : Bool} (s : State) : Answers bm bt s (execHallTargetCompute s) := by
  unfold execHallTargetCompute
  apply State.on_answers
  repeat' (first
    | with_reducible exact Kept.refl _ | with_reducible apply next_answers | with_reducible apply State.hallStart_kept
    | with_reducible apply State.wrI_kept | with_reducible apply ite_answers | with_reducible apply ite_kept
    | (simp only [kept_mk]; refine Kept.upd rfl ?_))

theorem execBulkWindow_kept {bt : Bool} (s : State) : Answers false bt s (execBulkWindow s) := by
  unfold execBulkWindow
  apply State.on_answers
  repeat' (first
    | with_reducible exact Kept.refl _ | with_reducible apply next_answers | with_reducible apply State.showFleet_kept
    | with_reducible apply State.raiseBit_kept | with_reducible apply State.setFleet_kept
    | with_reducible apply State.fleetClose_kept | with_reducible apply State.fleetTurn_kept
    | with_reducible apply State.bulkSend_kept | with_reducible apply forN_kept | with_reducible apply onlyIf_kept
    | with_reducible apply ite_answers | with_reducible apply ite_kept | intro _)

theorem execSyncReceived_kept {bm bt : Bool} (i : SyncIn) (s : State) : Answers bm bt s (execSyncReceived i s) := by
  unfold execSyncReceived
  apply State.on_answers
  repeat' (first
    | with_reducible exact Kept.refl _ | with_reducible apply next_answers | with_reducible apply State.offsetSample_kept
    | with_reducible apply State.pathHeard_kept | with_reducible apply State.set_kept | with_reducible apply State.judge_kept
    | with_reducible apply State.syncTake_kept | with_reducible apply State.showTime_kept | with_reducible apply ite_answers
    | with_reducible apply ite_kept)

theorem execShareReceived_kept {bm bt : Bool} (i : ShareIn) (s : State) : Answers bm bt s (execShareReceived i s) := by
  unfold execShareReceived
  apply State.on_answers
  repeat' (first
    | with_reducible exact Kept.refl _ | with_reducible apply next_answers | with_reducible apply State.judge_kept
    | with_reducible apply State.pathHeard_kept | with_reducible apply State.shareLate_kept
    | with_reducible apply State.keepShare_kept | with_reducible apply State.remoteAlarm_kept
    | with_reducible apply ite_answers | with_reducible apply ite_kept)

theorem execTeamSummaryReceived_kept {bm bt : Bool} (i : SummIn) (s : State) :
    Answers bm bt s (execTeamSummaryReceived i s) := by
  unfold execTeamSummaryReceived
  apply State.on_answers
  repeat' (first
    | with_reducible exact Kept.refl _ | with_reducible apply next_answers | with_reducible apply State.judge_kept
    | with_reducible apply State.pathHeard_kept | with_reducible apply State.summTake_kept
    | with_reducible apply State.summLate_kept | with_reducible apply ite_answers | with_reducible apply ite_kept)

theorem execDelayReqReceived_kept {bm bt : Bool} (h : FabHdr) (_t3 : Nat) (s : State) :
    Answers bm bt s (execDelayReqReceived h _t3 s) := by
  unfold execDelayReqReceived
  apply State.on_answers
  repeat' (first
    | with_reducible exact Kept.refl _ | with_reducible apply next_answers | with_reducible apply State.judge_kept
    | with_reducible apply State.pathHeard_kept | with_reducible apply ite_answers | with_reducible apply ite_kept
    | (simp only [kept_mk]; refine Kept.upd rfl ?_))

theorem execDelayRespReceived_kept {bm bt : Bool} (h : FabHdr) (reqSeq : Word) (t4 : Nat) (s : State) :
    Answers bm bt s (execDelayRespReceived h reqSeq t4 s) := by
  unfold execDelayRespReceived
  apply State.on_answers
  repeat' (first
    | with_reducible exact Kept.refl _ | with_reducible apply next_answers | with_reducible apply State.judge_kept
    | with_reducible apply State.pathHeard_kept | with_reducible apply State.setDelay_kept
    | with_reducible apply State.showTime_kept | with_reducible apply ite_answers | with_reducible apply ite_kept | split)

theorem execBulkFrameReceived_kept {bm bt : Bool} (i : BulkIn) (s : State) :
    Answers bm bt s (execBulkFrameReceived i s) := by
  unfold execBulkFrameReceived
  apply State.on_answers
  repeat' (first
    | with_reducible exact Kept.refl _ | with_reducible apply next_answers | with_reducible apply State.bumpSat_kept
    | with_reducible apply State.satReg_kept | with_reducible apply State.setFleet_kept | with_reducible apply ite_answers)

theorem execOffsetEstimate_kept {bm bt : Bool} (p : Fin 2) (s : State) : Answers bm bt s (execOffsetEstimate p s) := by
  unfold execOffsetEstimate
  apply State.on_answers
  dsimp only
  repeat' (first
    | with_reducible exact Kept.refl _ | with_reducible apply next_answers | with_reducible apply State.showTime_kept
    | with_reducible apply State.setPth_kept | with_reducible apply State.wrI_kept | with_reducible apply State.steerBy_kept
    | with_reducible apply State.set_kept | with_reducible apply State.raise_kept | with_reducible apply State.notFar_kept
    | with_reducible apply ite_answers | with_reducible apply ite_kept | (simp only [kept_mk]; refine Kept.upd rfl ?_) | split)

theorem execLeadFailure_kept {bm bt : Bool} (hall : Bool) (s : State) : Answers bm bt s (execLeadFailure hall s) := by
  unfold execLeadFailure
  apply State.on_answers
  repeat' (first
    | with_reducible exact Kept.refl _ | with_reducible apply next_answers | with_reducible apply State.takeLead_kept
    | with_reducible apply State.showTime_kept | with_reducible apply ite_answers)

theorem execPathDown_kept {bm bt : Bool} (p : Fin 2) (c : PathCause) (s : State) : Answers bm bt s (execPathDown p c s) := by
  unfold execPathDown
  apply State.on_answers
  repeat' (first
    | with_reducible exact Kept.refl _ | with_reducible apply next_answers | with_reducible apply State.setPth_kept
    | with_reducible apply State.clear_kept | with_reducible apply State.conn_kept | with_reducible apply State.showTime_kept
    | with_reducible apply State.set_kept | with_reducible apply State.raiseBit_kept | with_reducible apply State.raise_kept
    | with_reducible apply ite_answers | with_reducible apply ite_kept | split)

theorem execYield_kept {bm bt : Bool} (s : State) : Answers bm bt s (execYield s) :=
    State.on_answers (next_answers (State.yieldLead_kept (Kept.refl s)))

theorem execMatrixTile_kept {bt : Bool} (i : TileIn) (s : State) : Answers false bt s (execMatrixTile i s) := by
  unfold execMatrixTile
  apply State.on_answers
  dsimp only
  repeat' (first
    | with_reducible exact Kept.refl _ | with_reducible apply next_answers | with_reducible apply State.threadFault_kept
    | with_reducible apply State.accStart_kept | with_reducible apply State.setThread_kept
    | with_reducible apply State.setAcc_kept | with_reducible apply State.tileOut_kept | with_reducible apply ite_answers
    | with_reducible apply ite_kept | split)

theorem execVectorOp_kept {bm bt : Bool} (i : VecIn) (s : State) : Answers bm bt s (execVectorOp i s) := by
  unfold execVectorOp
  apply State.on_answers
  repeat' (first
    | with_reducible exact Kept.refl _ | with_reducible apply next_answers | with_reducible apply State.setThread_kept
    | with_reducible apply State.threadFault_kept | with_reducible apply ite_answers | with_reducible apply ite_kept | split)

theorem execTranscendental_kept {bm bt : Bool} (a : ThrNo) (f : TransFn) (src dst : Fin 256) (s : State) :
    Answers bm bt s (execTranscendental a f src dst s) := by
  unfold execTranscendental
  apply State.on_answers
  repeat' (first
    | with_reducible exact Kept.refl _ | with_reducible apply next_answers | with_reducible apply State.setThread_kept | split)

theorem execConversion_kept {bm bt : Bool} (i : ConvIn) (s : State) : Answers bm bt s (execConversion i s) := by
  unfold execConversion
  apply State.on_answers
  repeat' (first
    | with_reducible exact Kept.refl _ | with_reducible apply next_answers | with_reducible apply State.threadFault_kept
    | with_reducible apply ite_answers | with_reducible apply ite_kept | (simp only [kept_mk]; refine Kept.upd rfl ?_) | split)

theorem execThreadLoad_kept {bm bt : Bool} (a : ThrNo) (rd : Fin 256) (addr : Nat) (k : Fin 8) (ecc : EccIn) (s : State) :
    Answers bm bt s (execThreadLoad a rd addr k ecc s) := by
  unfold execThreadLoad
  apply State.on_answers
  repeat' (first
    | with_reducible exact Kept.refl _ | with_reducible apply next_answers | with_reducible apply State.withAccess_kept
    | with_reducible apply State.poisonAt_kept | with_reducible apply State.threadFault_kept
    | with_reducible apply State.memCorrected_kept | with_reducible apply State.setThread_kept
    | with_reducible apply ite_answers | with_reducible apply ite_kept | intro _ | split)

theorem execThreadStore_kept {bt : Bool} (a : ThrNo) (rs : Fin 256) (addr : Nat) (k : Fin 8) (s : State) :
    Answers false bt s (execThreadStore a rs addr k s) := by
  unfold execThreadStore
  apply State.on_answers
  repeat' (first
    | with_reducible exact Kept.refl _ | with_reducible apply next_answers | with_reducible apply State.withAccess_kept
    | with_reducible apply State.memPut_kept | intro _)

theorem execAtomic_kept {bt : Bool} (a : ThrNo) (op : AtomOp) (wide signed : Bool) (addr : Nat) (rs rc rd : Fin 256)
    (s : State) :
    Answers false bt s (execAtomic a op wide signed addr rs rc rd s) := by
  unfold execAtomic
  apply State.on_answers
  repeat' (first
    | with_reducible exact Kept.refl _ | with_reducible apply next_answers | with_reducible apply State.withAccess_kept
    | with_reducible apply State.memPut_kept | with_reducible apply State.setThread_kept | with_reducible apply ite_answers
    | with_reducible apply ite_kept | intro _)

theorem execMemoryFence_kept {bm bt : Bool} (_a : ThrNo) (_scope : Scope) (s : State) :
    Answers bm bt s (execMemoryFence _a _scope s) := by
  unfold execMemoryFence
  apply State.on_answers
  repeat' (first
    | with_reducible exact Kept.refl _ | with_reducible apply next_answers)

theorem execPowerCapTick_kept {bm bt : Bool} (d : Fin 2) (power env : Nat) (s : State) :
    Answers bm bt s (execPowerCapTick d power env s) := by
  unfold execPowerCapTick
  apply State.on_answers
  repeat' (first
    | with_reducible exact Kept.refl _ | with_reducible apply next_answers | with_reducible apply State.set_kept
    | with_reducible apply State.dieTimes_kept | with_reducible apply State.showDuty_kept | with_reducible apply ite_answers)

theorem execHostCoreSuspend_kept {bt : Bool} (d : Fin 2) (s : State) : Answers false bt s (execHostCoreSuspend d s) := by
  unfold execHostCoreSuspend
  apply State.on_answers
  repeat' (first
    | with_reducible exact Kept.refl _ | with_reducible apply next_answers | with_reducible apply State.memLose_kept
    | with_reducible apply State.coreTo_kept | with_reducible apply State.set_kept | with_reducible apply forL_kept
    | with_reducible apply ite_answers | with_reducible apply ite_kept | intro _)

theorem execHostCoreResume_kept {bt : Bool} (d : Fin 2) (s : State) : Answers false bt s (execHostCoreResume d s) := by
  unfold execHostCoreResume
  apply State.on_answers
  repeat' (first
    | with_reducible exact Kept.refl _ | with_reducible apply next_answers | with_reducible apply State.mapJobs_kept
    | with_reducible apply State.coreTo_kept | with_reducible apply State.set_kept | with_reducible apply State.showDuty_kept
    | with_reducible apply State.dieRun_kept | with_reducible apply forL_kept | with_reducible apply ite_answers
    | with_reducible apply ite_kept | intro _)

theorem execSramScrub_kept {bt : Bool} (d : Fin 2) (c : Fin 64) (ce : Fin 256) (ue : Bool) (s : State) :
    Answers false bt s (execSramScrub d c ce ue s) := by
  unfold execSramScrub
  apply State.on_answers
  repeat' (first
    | with_reducible exact Kept.refl _ | with_reducible apply next_answers | with_reducible apply State.sramCorrected_kept
    | with_reducible apply State.coreFail_kept | with_reducible apply State.dieRun_kept | with_reducible apply ite_answers
    | with_reducible apply ite_kept)

theorem execTierStart_kept {bm bt : Bool} (d : Fin 2) (ch : Fin 2) (byTack : Bool) (s : State) :
    Answers bm bt s (execTierStart d ch byTack s) := by
  unfold execTierStart
  apply State.on_answers
  repeat' (first
    | with_reducible exact Kept.refl _ | with_reducible apply next_answers | with_reducible apply State.tackOwned_kept
    | with_reducible apply State.tierStart_kept | with_reducible apply ite_answers)

theorem execTierAbort_kept {bt : Bool} (d : Fin 2) (ch : Fin 2) (byTack : Bool) (s : State) :
    Answers false bt s (execTierAbort d ch byTack s) := by
  unfold execTierAbort
  apply State.on_answers
  repeat' (first
    | with_reducible exact Kept.refl _ | with_reducible apply next_answers | with_reducible apply State.tackOwned_kept
    | with_reducible apply State.tierAbort_kept | with_reducible apply ite_answers)

theorem execTierCopyComplete_kept {bt : Bool} (d : Fin 2) (ch : Fin 2) (again : Bool) (s : State) :
    Answers false bt s (execTierCopyComplete d ch again s) := by
  unfold execTierCopyComplete
  apply State.on_answers
  repeat' (first
    | with_reducible exact Kept.refl _ | with_reducible apply next_answers | with_reducible apply State.setTier_kept
    | with_reducible apply State.memCopy_kept | with_reducible apply State.set_kept | with_reducible apply State.memLose_kept
    | with_reducible apply State.tierShow_kept | with_reducible apply forL_kept | with_reducible apply ite_answers
    | with_reducible apply ite_kept | intro _)

theorem execCoreWakeComplete_kept {bt : Bool} (d : Fin 2) (c : Fin 64) (s : State) :
    Answers false bt s (execCoreWakeComplete d c s) := by
  unfold execCoreWakeComplete
  apply State.on_answers
  repeat' (first
    | with_reducible exact Kept.refl _ | with_reducible apply next_answers | with_reducible apply State.coreTo_kept
    | with_reducible apply State.closeCore_kept | with_reducible apply State.showAwake_kept
    | with_reducible apply State.dieRun_kept | with_reducible apply ite_answers | with_reducible apply ite_kept)

theorem execCoreDrainComplete_kept {bt : Bool} (d : Fin 2) (c : Fin 64) (s : State) :
    Answers false bt s (execCoreDrainComplete d c s) := by
  unfold execCoreDrainComplete
  apply State.on_answers
  repeat' (first
    | with_reducible exact Kept.refl _ | with_reducible apply next_answers | with_reducible apply State.coreTo_kept
    | with_reducible apply State.showAwake_kept | with_reducible apply State.openCore_kept
    | with_reducible apply State.dieRun_kept | with_reducible apply ite_answers | with_reducible apply ite_kept)

theorem execCoreFailure_kept {bt : Bool} (d : Fin 2) (c : Fin 64) (s : State) :
    Answers false bt s (execCoreFailure d c s) := by
  unfold execCoreFailure
  apply State.on_answers
  repeat' (first
    | with_reducible exact Kept.refl _ | with_reducible apply next_answers | with_reducible apply State.coreFail_kept
    | with_reducible apply State.dieRun_kept | with_reducible apply ite_answers | with_reducible apply ite_kept)

theorem execCoreCopyComplete_kept {bt : Bool} (d : Fin 2) (c : Fin 64) (s : State) :
    Answers false bt s (execCoreCopyComplete d c s) := by
  unfold execCoreCopyComplete
  apply State.on_answers
  repeat' (first
    | with_reducible exact Kept.refl _ | with_reducible apply next_answers | with_reducible apply State.memLose_kept
    | with_reducible apply State.set_kept | with_reducible apply State.coreTo_kept | with_reducible apply State.setCore_kept
    | with_reducible apply State.openCore_kept | with_reducible apply State.dieRun_kept | with_reducible apply ite_answers
    | with_reducible apply ite_kept)

theorem execBar2Access_kept {bt : Bool} (off : Nat) (n : Fin 65) (data : Option (List Byte)) (s : State) :
    Answers false bt s (execBar2Access off n data s) := by
  unfold execBar2Access
  apply State.on_answers
  repeat' (first
    | with_reducible exact Kept.refl _ | with_reducible apply next_answers | with_reducible apply State.accessed_kept)

theorem execSubmissionDoorbell_kept {bm bt : Bool} (d : Fin 2) (q : Fin 64) (v : Word) (byTack fetchFails : Bool) (s : State) :
    Answers bm bt s (execSubmissionDoorbell d q v byTack fetchFails s) := by
  unfold execSubmissionDoorbell
  apply State.on_answers
  repeat' (first
    | with_reducible exact Kept.refl _ | with_reducible apply next_answers | with_reducible apply State.tackOwned_kept
    | with_reducible apply State.qFlag_kept | with_reducible apply State.set_kept | with_reducible apply State.showQueue_kept
    | with_reducible apply ite_answers)

theorem execCompletionDoorbell_kept {bt : Bool} (d : Fin 2) (q : Fin 64) (v : Word) (byTack : Bool) (s : State) :
    Answers false bt s (execCompletionDoorbell d q v byTack s) := by
  unfold execCompletionDoorbell
  apply State.on_answers
  repeat' (first
    | with_reducible exact Kept.refl _ | with_reducible apply next_answers | with_reducible apply State.tackOwned_kept
    | with_reducible apply State.qFlag_kept | with_reducible apply State.set_kept | with_reducible apply State.unhold_kept
    | with_reducible apply State.qRun_kept | with_reducible apply ite_answers)

theorem execLaunch_kept {bt : Bool} (d : Fin 2) (q : Fin 64) (c : SqCmd) (s : State) :
    Answers false bt s (execLaunch d q c s) := State.on_answers (next_answers (State.fetched_kept _ _ _ _ (Kept.refl s)))

theorem execBarrier_kept {bt : Bool} (d : Fin 2) (q : Fin 64) (c : SqCmd) (s : State) :
    Answers false bt s (execBarrier d q c s) := State.on_answers (next_answers (State.fetched_kept _ _ _ _ (Kept.refl s)))

theorem execWake_kept {bt : Bool} (d : Fin 2) (q : Fin 64) (c : SqCmd) (s : State) :
    Answers false bt s (execWake d q c s) := State.on_answers (next_answers (State.fetched_kept _ _ _ _ (Kept.refl s)))

theorem execSleep_kept {bt : Bool} (d : Fin 2) (q : Fin 64) (c : SqCmd) (s : State) :
    Answers false bt s (execSleep d q c s) := State.on_answers (next_answers (State.fetched_kept _ _ _ _ (Kept.refl s)))

theorem execNop_kept {bt : Bool} (d : Fin 2) (q : Fin 64) (c : SqCmd) (s : State) :
    Answers false bt s (execNop d q c s) := State.on_answers (next_answers (State.fetched_kept _ _ _ _ (Kept.refl s)))

theorem execBadCommand_kept {bt : Bool} (d : Fin 2) (q : Fin 64) (op : Fin 256) (c : SqCmd) (s : State) :
    Answers false bt s (execBadCommand d q op c s) := by
  unfold execBadCommand
  apply State.on_answers
  repeat' (first
    | with_reducible exact Kept.refl _ | with_reducible apply next_answers | with_reducible apply State.fetched_kept
    | with_reducible apply ite_answers | with_reducible apply ite_kept)

theorem execJobDispatch_kept {bt : Bool} (d : Fin 2) (q : Fin 64) (s : State) :
    Answers false bt s (execJobDispatch d q s) := by
  unfold execJobDispatch
  apply State.on_answers
  dsimp only
  repeat' (first
    | with_reducible exact Kept.refl _ | with_reducible apply next_answers | with_reducible apply State.rrServe_kept
    | with_reducible apply State.finish_kept | with_reducible apply State.qRun_kept | with_reducible apply State.setQueue_kept
    | with_reducible apply State.openCore_kept | with_reducible apply State.jobStart_kept | with_reducible apply forL_kept
    | with_reducible apply ite_answers | with_reducible apply ite_kept | intro _
    | (simp only [kept_mk]; refine Kept.upd rfl ?_) | split)

theorem execJobEnd_kept {bt : Bool} (d : Fin 2) (q : Fin 64) (tag : Word) (s : State) :
    Answers false bt s (execJobEnd d q tag s) := by
  unfold execJobEnd
  apply State.on_answers
  repeat' (first
    | with_reducible exact Kept.refl _ | with_reducible apply next_answers | with_reducible apply State.jobEnd_kept
    | with_reducible apply State.dieRun_kept | with_reducible apply ite_answers | with_reducible apply ite_kept | split)

theorem execJobTimeout_kept {bt : Bool} (d : Fin 2) (q : Fin 64) (tag : Word) (s : State) :
    Answers false bt s (execJobTimeout d q tag s) := by
  unfold execJobTimeout
  apply State.on_answers
  repeat' (first
    | with_reducible exact Kept.refl _ | with_reducible apply next_answers | with_reducible apply State.jobEnd_kept
    | with_reducible apply State.dieRun_kept | with_reducible apply ite_answers | with_reducible apply ite_kept | split)

theorem execQueueAbort_kept {bt : Bool} (d : Fin 2) (q : Fin 64) (rest : List (Word × Bool)) (byTack : Bool) (s : State) :
    Answers false bt s (execQueueAbort d q rest byTack s) := by
  unfold execQueueAbort
  apply State.on_answers
  repeat' (first
    | with_reducible exact Kept.refl _ | with_reducible apply next_answers | with_reducible apply State.tackOwned_kept
    | with_reducible apply State.clear_kept | with_reducible apply State.jobEnd_kept
    | with_reducible apply State.setQueue_kept | with_reducible apply State.complete_kept
    | with_reducible apply State.abortUnfetched_kept | with_reducible apply State.set_kept
    | with_reducible apply State.showQueue_kept | with_reducible apply State.dieRun_kept | with_reducible apply forL_kept
    | with_reducible apply ite_answers | with_reducible apply ite_kept | intro _)

theorem execCoreIdleTimeout_kept {bm bt : Bool} (d : Fin 2) (c : Fin 64) (s : State) :
    Answers bm bt s (execCoreIdleTimeout d c s) := by
  unfold execCoreIdleTimeout
  apply State.on_answers
  repeat' (first
    | with_reducible exact Kept.refl _ | with_reducible apply next_answers | with_reducible apply State.closeCore_kept
    | with_reducible apply ite_answers | with_reducible apply ite_kept)

theorem execTrainingBurstStart_kept {bm bt : Bool} (s : State) : Answers bm bt s (execTrainingBurstStart s) := by
  unfold execTrainingBurstStart
  apply State.on_answers
  repeat' (first
    | with_reducible exact Kept.refl _ | with_reducible apply next_answers | with_reducible apply State.setTrain_kept
    | with_reducible apply State.burstGrow_kept | with_reducible apply ite_answers)

theorem execCandidateJudged_kept {bt : Bool} (i : JudgeIn) (s : State) : Answers false bt s (execCandidateJudged i s) := by
  unfold execCandidateJudged
  apply State.on_answers
  repeat' (first
    | with_reducible exact Kept.refl _ | with_reducible apply next_answers | with_reducible apply State.candidatePut_kept
    | with_reducible apply State.showGen_kept | with_reducible apply State.set_kept | with_reducible apply State.result_kept
    | with_reducible apply State.installEnd_kept | with_reducible apply State.promoteNow_kept
    | with_reducible apply State.burstEnd_kept | with_reducible apply State.showTrain_kept | with_reducible apply ite_answers
    | with_reducible apply ite_kept | split)

theorem execPromote_kept {bt : Bool} (s : State) : Answers false bt s (execPromote s) :=
    State.on_answers (next_answers (State.promote_kept (Kept.refl s)))

theorem execRevert_kept {bt : Bool} (s : State) : Answers false bt s (execRevert s) :=
    State.on_answers (next_answers (State.revert_kept (Kept.refl s)))

theorem execExport_kept {bt : Bool} (s : State) : Answers false bt s (execExport s) := by
  unfold execExport
  apply State.on_answers
  repeat' (first
    | with_reducible exact Kept.refl _ | with_reducible apply next_answers | with_reducible apply State.set_kept
    | with_reducible apply State.transfer_kept | with_reducible apply ite_answers | with_reducible apply ite_kept)

theorem execInstall_kept {bt : Bool} (s : State) : Answers false bt s (execInstall s) := by
  unfold execInstall
  apply State.on_answers
  repeat' (first
    | with_reducible exact Kept.refl _ | with_reducible apply next_answers | with_reducible apply State.set_kept
    | with_reducible apply State.transfer_kept | with_reducible apply ite_answers | with_reducible apply ite_kept)

theorem execFleetRoundStart_kept {bt : Bool} (own : List Word) (count : Fin 513) (s : State) :
    Answers false bt s (execFleetRoundStart own count s) := by
  unfold execFleetRoundStart
  apply State.on_answers
  repeat' (first
    | with_reducible exact Kept.refl _ | with_reducible apply next_answers | with_reducible apply State.showFleet_kept
    | with_reducible apply State.setFleet_kept | with_reducible apply State.fleetEnd_kept | with_reducible apply ite_answers
    | with_reducible apply ite_kept)

theorem execBusOverVoltage_kept {bm bt : Bool} (vbus : Nat) (s : State) : Answers bm bt s (execBusOverVoltage vbus s) := by
  unfold execBusOverVoltage
  apply State.on_answers
  repeat' (first
    | with_reducible exact Kept.refl _ | with_reducible apply next_answers | with_reducible apply State.raise_kept
    | with_reducible apply ite_answers)

theorem execBusUnderVoltage_kept {bm bt : Bool} (vbus : Nat) (s : State) : Answers bm bt s (execBusUnderVoltage vbus s) := by
  unfold execBusUnderVoltage
  apply State.on_answers
  repeat' (first
    | with_reducible exact Kept.refl _ | with_reducible apply next_answers | with_reducible apply State.raise_kept
    | with_reducible apply ite_answers)

theorem execStringOverVoltage_kept {bm bt : Bool} (x : StrNo) (v : Nat) (s : State) :
    Answers bm bt s (execStringOverVoltage x v s) := by
  unfold execStringOverVoltage
  apply State.on_answers
  repeat' (first
    | with_reducible exact Kept.refl _ | with_reducible apply next_answers | with_reducible apply State.raise_kept
    | with_reducible apply ite_answers)

theorem execStringUnderVoltage_kept {bm bt : Bool} (x : StrNo) (v : Nat) (s : State) :
    Answers bm bt s (execStringUnderVoltage x v s) := by
  unfold execStringUnderVoltage
  apply State.on_answers
  repeat' (first
    | with_reducible exact Kept.refl _ | with_reducible apply next_answers | with_reducible apply State.raise_kept
    | with_reducible apply ite_answers)

theorem execTemperatureTrip_kept {bm bt : Bool} (k : Fin 4) (t : Fin 256) (s : State) :
    Answers bm bt s (execTemperatureTrip k t s) := by
  unfold execTemperatureTrip
  apply State.on_answers
  repeat' (first
    | with_reducible exact Kept.refl _ | with_reducible apply next_answers | with_reducible apply State.set_kept
    | with_reducible apply State.raise_kept | with_reducible apply ite_answers)

theorem execFeedbackMismatch_kept {bm bt : Bool} (k : FbKind) (s : State) : Answers bm bt s (execFeedbackMismatch k s) := by
  unfold execFeedbackMismatch
  apply State.on_answers
  repeat' (first
    | with_reducible exact Kept.refl _ | with_reducible apply next_answers | with_reducible apply State.raise_kept
    | with_reducible apply State.conn_kept | with_reducible apply ite_answers | with_reducible apply ite_kept
    | (simp only [kept_mk]; refine Kept.upd rfl ?_) | split)

theorem execFaultConditionClear_kept {bm bt : Bool} (code : Fin 65536) (idx : Fin 256) (v : Nat) (s : State) :
    Answers bm bt s (execFaultConditionClear code idx v s) := by
  unfold execFaultConditionClear
  apply State.on_answers
  repeat' (first
    | with_reducible exact Kept.refl _ | with_reducible apply next_answers | with_reducible apply State.set_kept
    | with_reducible apply State.unraise_kept | with_reducible apply ite_answers | with_reducible apply ite_kept)

theorem execContactorOpenLowCurrent_kept {bm bt : Bool} (x : StrNo) (s : State) :
    Answers bm bt s (execContactorOpenLowCurrent x s) := by
  unfold execContactorOpenLowCurrent
  apply State.on_answers
  repeat' (first
    | with_reducible exact Kept.refl _ | with_reducible apply next_answers | with_reducible apply State.jnlTrigger_kept
    | with_reducible apply ite_answers | with_reducible apply ite_kept | (simp only [kept_mk]; refine Kept.upd rfl ?_))

theorem execWatchdogKick_kept {bm bt : Bool} (s : State) : Answers bm bt s (execWatchdogKick s) := by
  unfold execWatchdogKick
  apply State.on_answers
  repeat' (first
    | with_reducible exact Kept.refl _ | with_reducible apply next_answers | with_reducible apply State.set_kept
    | with_reducible apply ite_answers)

theorem execWatchdogExpiry_kept {bm bt : Bool} (s : State) : Answers bm bt s (execWatchdogExpiry s) := by
  unfold execWatchdogExpiry
  apply State.on_answers
  repeat' (first
    | with_reducible exact Kept.refl _ | with_reducible apply next_answers | with_reducible apply State.clear_kept
    | with_reducible apply State.pumpsFull_kept | with_reducible apply State.raise_kept | with_reducible apply ite_answers
    | with_reducible apply ite_kept | (simp only [kept_mk]; refine Kept.upd rfl ?_))

theorem execFirmwareRestartComplete_kept {bm bt : Bool} (ok : Bool) (s : State) :
    Answers bm bt s (execFirmwareRestartComplete ok s) := by
  unfold execFirmwareRestartComplete
  apply State.on_answers
  repeat' (first
    | with_reducible exact Kept.refl _ | with_reducible apply next_answers | with_reducible apply State.fwStart_kept
    | with_reducible apply State.bundleTo_kept | with_reducible apply State.set_kept | with_reducible apply State.logCode_kept
    | with_reducible apply State.takeF3_kept | with_reducible apply State.showWait_kept
    | with_reducible apply State.showAck_kept | with_reducible apply ite_answers | with_reducible apply ite_kept
    | (simp only [kept_mk]; refine Kept.upd rfl ?_))

theorem execHoldoffExpiry_kept {bm bt : Bool} (s : State) : Answers bm bt s (execHoldoffExpiry s) := by
  unfold execHoldoffExpiry
  apply State.on_answers
  repeat' (first
    | with_reducible exact Kept.refl _ | with_reducible apply next_answers | with_reducible apply State.set_kept
    | with_reducible apply State.beginArming_kept | with_reducible apply ite_answers | with_reducible apply ite_kept
    | (simp only [kept_mk]; refine Kept.upd rfl ?_))

theorem execSettleExpiry_kept {bm bt : Bool} (s : State) : Answers bm bt s (execSettleExpiry s) := by
  unfold execSettleExpiry
  apply State.on_answers
  repeat' (first
    | with_reducible exact Kept.refl _ | with_reducible apply next_answers | with_reducible apply State.set_kept
    | with_reducible apply State.clearCauses_kept | with_reducible apply ite_answers)

theorem execSoftStartOffExpiry_kept {bm bt : Bool} (s : State) : Answers bm bt s (execSoftStartOffExpiry s) := by
  unfold execSoftStartOffExpiry
  apply State.on_answers
  repeat' (first
    | with_reducible exact Kept.refl _ | with_reducible apply next_answers | with_reducible apply State.precharge_kept
    | with_reducible apply ite_answers)

theorem execPumpLoss_kept {bm bt : Bool} (p : Fin 2) (pulses : Nat) (s : State) :
    Answers bm bt s (execPumpLoss p pulses s) := by
  unfold execPumpLoss
  apply State.on_answers
  repeat' (first
    | with_reducible exact Kept.refl _ | with_reducible apply next_answers | with_reducible apply State.set_kept
    | with_reducible apply State.pumpsFull_kept | with_reducible apply State.raise_kept
    | with_reducible apply State.showLksCap_kept | with_reducible apply ite_answers | with_reducible apply ite_kept)

theorem execFlowLow_kept {bm bt : Bool} (pulses : Nat) (s : State) : Answers bm bt s (execFlowLow pulses s) := by
  unfold execFlowLow
  apply State.on_answers
  repeat' (first
    | with_reducible exact Kept.refl _ | with_reducible apply next_answers | with_reducible apply State.pumpsFull_kept
    | with_reducible apply State.raise_kept | with_reducible apply State.showLksCap_kept | with_reducible apply ite_answers
    | with_reducible apply ite_kept)

theorem execInletHigh_kept {bm bt : Bool} (t : Fin 256) (s : State) : Answers bm bt s (execInletHigh t s) := by
  unfold execInletHigh
  apply State.on_answers
  repeat' (first
    | with_reducible exact Kept.refl _ | with_reducible apply next_answers | with_reducible apply State.set_kept
    | with_reducible apply State.pumpsFull_kept | with_reducible apply State.raise_kept
    | with_reducible apply State.showLksCap_kept | with_reducible apply ite_answers)

theorem execCoolingClear_kept {bm bt : Bool} (k : Fin 5) (s : State) : Answers bm bt s (execCoolingClear k s) := by
  unfold execCoolingClear
  apply State.on_answers
  repeat' (first
    | with_reducible exact Kept.refl _ | with_reducible apply next_answers | with_reducible apply State.unraise_kept
    | with_reducible apply State.showLksCap_kept | with_reducible apply State.set_kept | with_reducible apply ite_answers
    | with_reducible apply ite_kept)

theorem execPumpDutyUpdate_kept {bm bt : Bool} (tIn : Fin 256) (tOut : Int) (s : State) :
    Answers bm bt s (execPumpDutyUpdate tIn tOut s) := by
  unfold execPumpDutyUpdate
  apply State.on_answers
  repeat' (first
    | with_reducible exact Kept.refl _ | with_reducible apply next_answers | with_reducible apply State.set_kept
    | with_reducible apply State.showLksCap_kept | with_reducible apply State.showStor_kept
    | (simp only [kept_mk]; refine Kept.upd rfl ?_))

theorem execHostKick_kept {bm bt : Bool} (s : State) : Answers bm bt s (execHostKick s) :=
    State.on_answers (next_answers (State.hostKick_kept (Kept.refl s)))

theorem execHostTimeout_kept {bm bt : Bool} (s : State) : Answers bm bt s (execHostTimeout s) := by
  unfold execHostTimeout
  apply State.on_answers
  repeat' (first
    | with_reducible exact Kept.refl _ | with_reducible apply next_answers | with_reducible apply State.hostLost_kept
    | with_reducible apply ite_answers)

theorem execStringReturn_kept {bm bt : Bool} (x : StrNo) (s : State) : Answers bm bt s (execStringReturn x s) := by
  unfold execStringReturn
  apply State.on_answers
  repeat' (first
    | with_reducible exact Kept.refl _ | with_reducible apply next_answers | with_reducible apply State.strReturned_kept
    | with_reducible apply State.closeNow_kept | with_reducible apply ite_answers | with_reducible apply ite_kept
    | (simp only [kept_mk]; refine Kept.upd rfl ?_))

theorem execFirmwareCloseRequest_kept {bm bt : Bool} (w : Fin 3) (s : State) :
    Answers bm bt s (execFirmwareCloseRequest w s) := by
  unfold execFirmwareCloseRequest
  apply State.on_answers
  repeat' (first
    | with_reducible exact Kept.refl _ | with_reducible apply next_answers | with_reducible apply State.refuseClose_kept
    | with_reducible apply State.closeNow_kept | with_reducible apply ite_answers)

theorem execMramRecordWrite_kept {bm bt : Bool} (mismatch : Bool) (s : State) :
    Answers bm bt s (execMramRecordWrite mismatch s) := by
  unfold execMramRecordWrite
  apply State.on_answers
  repeat' (first
    | with_reducible exact Kept.refl _ | with_reducible apply next_answers | with_reducible apply State.mramMiss_kept
    | with_reducible apply State.setPath_kept | with_reducible apply State.mramRecord_kept
    | with_reducible apply State.raiseBit_kept | with_reducible apply State.showLevel_kept
    | with_reducible apply State.wearGo_kept | with_reducible apply ite_answers | with_reducible apply ite_kept | split)

theorem execSnapshotComplete_kept {bm bt : Bool} (l : Fin 16) (start stop : Word) (s : State) :
    Answers bm bt s (execSnapshotComplete l start stop s) := by
  unfold execSnapshotComplete
  apply State.on_answers
  repeat' (first
    | with_reducible exact Kept.refl _ | with_reducible apply next_answers | with_reducible apply State.listReads_kept
    | with_reducible apply State.toPath_kept | with_reducible apply State.wrapReg_kept | with_reducible apply State.clear_kept
    | with_reducible apply State.raiseBit_kept | with_reducible apply forN_kept | with_reducible apply ite_answers
    | with_reducible apply ite_kept | intro _ | (simp only [kept_mk]; refine Kept.upd rfl ?_) | split)

theorem execSbgTrig_kept {bm bt : Bool} (l : Fin 16) (s : State) : Answers bm bt s (execSbgTrig l s) :=
    State.on_answers (next_answers (State.trig_kept _ (Kept.refl s)))

theorem execMark_kept {bm bt : Bool} (s : State) : Answers bm bt s (execMark s) :=
    State.on_answers (next_answers (State.mark_kept (Kept.refl s)))

theorem execIncidentClose_kept {bm bt : Bool} (s : State) : Answers bm bt s (execIncidentClose s) := by
  unfold execIncidentClose
  apply State.on_answers
  repeat' (first
    | with_reducible exact Kept.refl _ | with_reducible apply next_answers | with_reducible apply State.clear_kept
    | with_reducible apply ite_answers | with_reducible apply ite_kept)

theorem execIncKeepWrite_kept {bm bt : Bool} (v : Fin 65536) (s : State) : Answers bm bt s (execIncKeepWrite v s) :=
    State.on_answers (next_answers (State.keepWrite_kept _ (Kept.refl s)))

theorem execControlBlockPeriodic_kept {bm bt : Bool} (s : State) : Answers bm bt s (execControlBlockPeriodic s) :=
    State.on_answers (next_answers (State.writeCb_kept (Kept.refl s)))

theorem execOperatingSecond_kept {bm bt : Bool} (s : State) : Answers bm bt s (execOperatingSecond s) := by
  unfold execOperatingSecond
  apply State.on_answers
  repeat' (first
    | with_reducible exact Kept.refl _ | with_reducible apply next_answers | with_reducible apply State.wr64_kept
    | with_reducible apply State.wrN_kept | with_reducible apply State.wearSecond_kept
    | with_reducible apply State.xtalBack_kept | with_reducible apply State.raise_kept | with_reducible apply ite_answers
    | with_reducible apply ite_kept)

theorem execGapRecordDue_kept {bm bt : Bool} (i : Fin 5) (s : State) : Answers bm bt s (execGapRecordDue i s) := by
  unfold execGapRecordDue
  apply State.on_answers
  repeat' (first
    | with_reducible exact Kept.refl _ | with_reducible apply next_answers | with_reducible apply State.gapOut_kept
    | with_reducible apply ite_answers)

theorem execHostRingRecordWrite_kept {bm bt : Bool} (r : Fin 4) (fail : Bool) (s : State) :
    Answers bm bt s (execHostRingRecordWrite r fail s) := by
  unfold execHostRingRecordWrite
  apply State.on_answers
  dsimp only
  repeat' (first
    | with_reducible exact Kept.refl _ | with_reducible apply next_answers | with_reducible apply State.raiseBit_kept
    | with_reducible apply State.clear_kept | with_reducible apply State.showLevel_kept
    | with_reducible apply State.padRec_kept | with_reducible apply State.tailWrite_kept
    | with_reducible apply State.setPath_kept | with_reducible apply State.ringIrq_kept
    | with_reducible apply State.showWakeN_kept | with_reducible apply ite_answers | with_reducible apply ite_kept | split)

theorem execTelHeadWrite_kept {bm bt : Bool} (r : Fin 4) (v : Word) (s : State) :
    Answers bm bt s (execTelHeadWrite r v s) := State.on_answers (next_answers (State.headWrite_kept _ _ (Kept.refl s)))

theorem execHostRingHoldEnd_kept {bm bt : Bool} (r : Fin 4) (s : State) : Answers bm bt s (execHostRingHoldEnd r s) :=
    State.on_answers (next_answers (State.holdEnd_kept _ (Kept.refl s)))

theorem execSubstitutionTrigger_kept {bm bt : Bool} (i : TrigIn) (s : State) :
    Answers bm bt s (execSubstitutionTrigger i s) := by
  unfold execSubstitutionTrigger
  apply State.on_answers
  repeat' (first
    | with_reducible exact Kept.refl _ | with_reducible apply next_answers | with_reducible apply State.trigNote_kept
    | with_reducible apply State.spareless_kept | with_reducible apply State.due_kept | with_reducible apply ite_answers
    | with_reducible apply ite_kept | split)

theorem execRmtReq_kept {bm bt : Bool} (v : Word) (s : State) : Answers bm bt s (execRmtReq v s) :=
    State.on_answers (next_answers (State.rmtReq_kept _ (Kept.refl s)))

theorem execRmtCancel_kept {bm bt : Bool} (k : Fin 10) (s : State) : Answers bm bt s (execRmtCancel k s) :=
    State.on_answers (next_answers (State.rmtCancel_kept _ (Kept.refl s)))

theorem execRmtRetire_kept {bm bt : Bool} (v : Word) (s : State) : Answers bm bt s (execRmtRetire v s) :=
    State.on_answers (next_answers (State.rmtRetire_kept _ (Kept.refl s)))

theorem execPhaseHoldPlace_kept {bm bt : Bool} (s : State) : Answers bm bt s (execPhaseHoldPlace s) := by
  unfold execPhaseHoldPlace
  apply State.on_answers
  repeat' (first
    | with_reducible exact Kept.refl _ | with_reducible apply next_answers | with_reducible apply State.beginShed_kept
    | with_reducible apply State.afterChans_kept | with_reducible apply forL_kept | with_reducible apply ite_answers
    | with_reducible apply ite_kept | intro _ | (simp only [kept_mk]; refine Kept.upd rfl ?_))

theorem execSubstitutionGateMet_kept {bm bt : Bool} (k : Fin 10) (s : State) :
    Answers bm bt s (execSubstitutionGateMet k s) := by
  unfold execSubstitutionGateMet
  apply State.on_answers
  repeat' (first
    | with_reducible exact Kept.refl _ | with_reducible apply next_answers | with_reducible apply State.respare_kept
    | with_reducible apply State.switchNow_kept | with_reducible apply ite_answers | with_reducible apply ite_kept)

theorem execSubstitutionSwitchComplete_kept {bt : Bool} (k : Fin 10) (e : SwEnd) (s : State) :
    Answers false bt s (execSubstitutionSwitchComplete k e s) := by
  unfold execSubstitutionSwitchComplete
  apply State.on_answers
  repeat' (first
    | with_reducible exact Kept.refl _ | with_reducible apply next_answers | with_reducible apply State.switchEnd_kept
    | with_reducible apply State.resumeAccesses_kept | with_reducible apply State.sectorDone_kept
    | with_reducible apply ite_answers | with_reducible apply ite_kept)

theorem execSubstitutionVerify_kept {bm bt : Bool} (k : Fin 10) (ok : Bool) (s : State) :
    Answers bm bt s (execSubstitutionVerify k ok s) := by
  unfold execSubstitutionVerify
  apply State.on_answers
  repeat' (first
    | with_reducible exact Kept.refl _ | with_reducible apply next_answers | with_reducible apply State.kindTo_kept
    | with_reducible apply State.rmtFlag_kept | with_reducible apply State.verifyFailed_kept
    | with_reducible apply State.logWrite_kept | with_reducible apply State.writeWear_kept
    | with_reducible apply State.thenNext_kept | with_reducible apply ite_answers | with_reducible apply ite_kept)

theorem execInputTest_kept {bm bt : Bool} (b : Fin 8) (i : Fin 28) (dev : Nat) (s : State) :
    Answers bm bt s (execInputTest b i dev s) := by
  unfold execInputTest
  apply State.on_answers
  repeat' (first
    | with_reducible exact Kept.refl _ | with_reducible apply next_answers | with_reducible apply State.due_kept
    | with_reducible apply ite_answers | with_reducible apply ite_kept | (simp only [kept_mk]; refine Kept.upd rfl ?_))

theorem execWearCopyPeriodic_kept {bm bt : Bool} (s : State) : Answers bm bt s (execWearCopyPeriodic s) :=
    State.on_answers (next_answers (State.writeWear_kept (Kept.refl s)))

theorem execTackCoreFailure_kept {bm bt : Bool} (c : Fin 4) (s : State) : Answers bm bt s (execTackCoreFailure c s) := by
  unfold execTackCoreFailure
  apply State.on_answers
  repeat' (first
    | with_reducible exact Kept.refl _ | with_reducible apply next_answers | with_reducible apply State.raise_kept
    | with_reducible apply State.toWait_kept | with_reducible apply State.kindTo_kept
    | with_reducible apply State.thenNext_kept | with_reducible apply State.rmtFlag_kept | with_reducible apply ite_answers
    | with_reducible apply ite_kept | (simp only [kept_mk]; refine Kept.upd rfl ?_))

theorem execFircWaitExpiry_kept {bm bt : Bool} (s : State) : Answers bm bt s (execFircWaitExpiry s) := by
  unfold execFircWaitExpiry
  apply State.on_answers
  repeat' (first
    | with_reducible exact Kept.refl _ | with_reducible apply next_answers | with_reducible apply State.due_kept
    | with_reducible apply ite_answers | with_reducible apply ite_kept | (simp only [kept_mk]; refine Kept.upd rfl ?_))

theorem execMsixUnmask_kept {bm bt : Bool} (v : Fin 256) (addr : Word64) (data : Word) (s : State) :
    Answers bm bt s (execMsixUnmask v addr data s) := by
  unfold execMsixUnmask
  apply State.on_answers
  repeat' (first
    | with_reducible exact Kept.refl _ | with_reducible apply next_answers | with_reducible apply State.sendHeld_kept
    | (simp only [kept_mk]; refine Kept.upd rfl ?_))

theorem execTapBypass_kept {bm bt : Bool} (s : State) : Answers bm bt s (execTapBypass s) :=
    State.on_answers (next_answers (State.tapTo_kept _ (Kept.refl s)))

theorem execTapIdcode_kept {bm bt : Bool} (s : State) : Answers bm bt s (execTapIdcode s) := by
  unfold execTapIdcode
  apply State.on_answers
  repeat' (first
    | with_reducible exact Kept.refl _ | with_reducible apply next_answers | with_reducible apply State.tapTo_kept
    | with_reducible apply State.emit_kept)

theorem execTapSamplePreload_kept {bm bt : Bool} (s : State) : Answers bm bt s (execTapSamplePreload s) :=
    State.on_answers (next_answers (State.tapTo_kept _ (Kept.refl s)))

theorem execTapExtest_kept {bm bt : Bool} (s : State) : Answers bm bt s (execTapExtest s) :=
    State.on_answers (next_answers (State.tapTest_kept _ (Kept.refl s)))

theorem execTapClamp_kept {bm bt : Bool} (s : State) : Answers bm bt s (execTapClamp s) :=
    State.on_answers (next_answers (State.tapTest_kept _ (Kept.refl s)))

theorem execTapHighz_kept {bm bt : Bool} (s : State) : Answers bm bt s (execTapHighz s) :=
    State.on_answers (next_answers (State.tapTest_kept _ (Kept.refl s)))

theorem execPrechargeNotReached_kept {bm bt : Bool} (vnode vbus : Nat) (s : State) :
    Answers bm bt s (execPrechargeNotReached vnode vbus s) := by
  unfold execPrechargeNotReached
  apply State.on_answers
  repeat' (first
    | with_reducible exact Kept.refl _ | with_reducible apply next_answers | with_reducible apply State.bootErr_kept
    | with_reducible apply State.softAbort_kept | with_reducible apply ite_answers)

theorem execLarkspurJunctionHot_kept {bm bt : Bool} (d : Fin 2) (t : Fin 256) (s : State) :
    Answers bm bt s (execLarkspurJunctionHot d t s) := by
  unfold execLarkspurJunctionHot
  apply State.on_answers
  repeat' (first
    | with_reducible exact Kept.refl _ | with_reducible apply next_answers | with_reducible apply State.setHot_kept
    | with_reducible apply State.raise_kept | with_reducible apply State.forecastStop_kept | with_reducible apply ite_answers
    | with_reducible apply ite_kept)

theorem execLarkspurJunctionCool_kept {bm bt : Bool} (d : Fin 2) (t : Fin 256) (s : State) :
    Answers bm bt s (execLarkspurJunctionCool d t s) := by
  unfold execLarkspurJunctionCool
  apply State.on_answers
  repeat' (first
    | with_reducible exact Kept.refl _ | with_reducible apply next_answers | with_reducible apply State.setHot_kept
    | with_reducible apply State.unraise_kept | with_reducible apply ite_answers)

theorem execSpurSymbolLock_kept {bm bt : Bool} (lane : Fin 2) (v : Bool) (s : State) :
    Answers bm bt s (execSpurSymbolLock lane v s) := by
  unfold execSpurSymbolLock
  apply State.on_answers
  repeat' (first
    | with_reducible exact Kept.refl _ | with_reducible apply next_answers | with_reducible apply State.set_kept
    | with_reducible apply State.conn_kept | with_reducible apply ite_answers)

theorem execConnectorPinChange_kept {bm bt : Bool} (bit : Fin 24) (v : Bool) (s : State) :
    Answers bm bt s (execConnectorPinChange bit v s) := by
  unfold execConnectorPinChange
  apply State.on_answers
  repeat' (first
    | with_reducible exact Kept.refl _ | with_reducible apply next_answers | with_reducible apply State.conn_kept
    | with_reducible apply State.strReturned_kept | with_reducible apply State.ovSettle_kept
    | with_reducible apply State.checkHoldoff_kept | with_reducible apply ite_answers)

theorem execPcieLinkUp_kept {bm bt : Bool} (gen : Fin 6) (w : Fin 4) (s : State) :
    Answers bm bt s (execPcieLinkUp gen w s) := by
  unfold execPcieLinkUp
  apply State.on_answers
  repeat' (first
    | with_reducible exact Kept.refl _ | with_reducible apply next_answers | with_reducible apply State.sendHeld_kept
    | with_reducible apply ite_answers | with_reducible apply ite_kept | (simp only [kept_mk]; refine Kept.upd rfl ?_))

theorem execPciePowerStateChange_kept {bm bt : Bool} (m : PcieMove) (s : State) :
    Answers bm bt s (execPciePowerStateChange m s) := by
  unfold execPciePowerStateChange
  apply State.on_answers
  repeat' (first
    | with_reducible exact Kept.refl _ | with_reducible apply next_answers | with_reducible apply State.sendHeld_kept
    | with_reducible apply State.hostLost_kept | with_reducible apply State.wakeBy_kept | with_reducible apply ite_answers
    | with_reducible apply ite_kept | (simp only [kept_mk]; refine Kept.upd rfl ?_) | split)

theorem execFcstNapChange_kept {bm bt : Bool} (v : Bool) (s : State) : Answers bm bt s (execFcstNapChange v s) := by
  unfold execFcstNapChange
  apply State.on_answers
  repeat' (first
    | with_reducible exact Kept.refl _ | with_reducible apply next_answers | with_reducible apply State.set_kept
    | with_reducible apply State.clear_kept | with_reducible apply ite_answers)

theorem execForecastReloadComplete_kept {bm bt : Bool} (s : State) : Answers bm bt s (execForecastReloadComplete s) := by
  unfold execForecastReloadComplete
  apply State.on_answers
  repeat' (first
    | with_reducible exact Kept.refl _ | with_reducible apply next_answers | with_reducible apply State.setTrain_kept
    | with_reducible apply State.unraise_kept | with_reducible apply State.showTrain_kept | with_reducible apply ite_answers
    | with_reducible apply ite_kept | (simp only [kept_mk]; refine Kept.upd rfl ?_))

theorem execWeightExportComplete_kept {bt : Bool} (s : State) : Answers false bt s (execWeightExportComplete s) := by
  unfold execWeightExportComplete
  apply State.on_answers
  repeat' (first
    | with_reducible exact Kept.refl _ | with_reducible apply next_answers | with_reducible apply State.memPut_kept
    | with_reducible apply State.memCopy_kept | with_reducible apply State.setTrain_kept
    | with_reducible apply State.clear_kept | with_reducible apply State.raiseBit_kept
    | with_reducible apply State.showTrain_kept | with_reducible apply ite_answers)

theorem execLksWakeLatchClear_kept {bm bt : Bool} (b : Fin 15) (s : State) :
    Answers bm bt s (execLksWakeLatchClear b s) := by
  unfold execLksWakeLatchClear
  apply State.on_answers
  repeat' (first
    | with_reducible exact Kept.refl _ | with_reducible apply next_answers | with_reducible apply ite_answers
    | with_reducible apply ite_kept | (simp only [kept_mk]; refine Kept.upd rfl ?_))

/-! The commands whose answers match on a result or move time, and the fuse bit. -/

theorem execArmFirstStep_kept {bm bt : Bool} (ids : List RectId) (s : State) :
    Answers bm bt s (execArmFirstStep ids s) := by
  unfold execArmFirstStep
  refine State.on_answers (ite_answers (next_answers (Kept.refl s)) ?_)
  have hm := State.mezCheck_kept (bm := bm) (bt := bt) (Kept.refl s)
  split
  next t n ht =>
    rw [ht] at hm
    exact next_answers (State.armFail_kept _ _ hm)
  next t ht =>
    rw [ht] at hm
    have hr := State.rectCheck_kept ids hm
    split
    next u r hu =>
      rw [hu] at hr
      exact next_answers (State.armFail_kept _ _ hr)
    next u hu =>
      rw [hu] at hr
      exact next_answers (State.stepTo_kept _ (forN_kept hr fun _ t => State.pmbus_kept _ _ _ (Kept.refl t)))

theorem execArmedReached_kept {bm bt : Bool} (s : State) : Answers bm bt s (execArmedReached s) := by
  unfold execArmedReached
  refine State.on_answers (ite_answers (next_answers (Kept.refl s)) (next_answers ?_))
  have hused : Kept bm bt s (s.set BRD_STATUS_SS_USED 0) := State.set_kept _ _ (Kept.refl s)
  have hstep : Kept bm bt s { s.set BRD_STATUS_SS_USED 0 with
      brd := { s.brd with ssWindow := false, ssOff := false },
      boot := { s.boot with armStep := 0, contRequested := false, rearm := false, armedOnce := true } } :=
    Kept.upd rfl hused (hbrd := fun h => h)
  exact State.showDerate_kept (State.tuneAtArmed_kept (State.enabledStart_kept (State.enter_kept _
    (ite_kept (State.set_kept _ _ hstep) hstep))))

theorem execTimeStep_kept {bm : Bool} (s : State) : Answers bm false s (execTimeStep s) := by
  unfold execTimeStep
  apply State.on_answers
  split
  · exact next_answers (Kept.refl s)
  next o ho =>
    have hdue : Kept bm false s { s with fab := { s.fab with stepDue := none } } := Kept.upd rfl (Kept.refl s)
    refine ite_answers (next_answers hdue) (next_answers ?_)
    exact State.showTime_kept (State.stepSkips_kept (State.record_kept _ _ _ _ _ _ _ _ (State.raiseBit_kept _ _
      (hdue.trans (Kept.upd rfl (Kept.refl _))))))

theorem execVinStart_kept (conn : Word) (s : State) : Answers false false s (execVinStart conn s) :=
  ite_answers (next_answers (Kept.refl s)) (next_answers (State.powerUp_kept conn (Kept.refl s)))

theorem execInputOvRestart_kept (conn : Word) (s : State) : Answers false false s (execInputOvRestart conn s) :=
  ite_answers (next_answers (State.powerUp_kept conn (Kept.upd rfl (Kept.refl s)))) (next_answers (Kept.refl s))

/-- A blown fuse bit adds to the rollback count; everything else a command keeps it keeps (R98). -/
theorem execSvnFuseBitBlown_kept {bm bt : Bool} (s : State) : ∃ n t, execSvnFuseBitBlown s = .next t ∧
    Kept bm bt { s with otp := { s.otp with rollback := n } } t := by
  unfold execSvnFuseBitBlown
  cases hp : s.pins.powered
  · exact ⟨_, s, State.on_unpowered _ hp, Kept.refl s⟩
  · rw [State.on_powered _ hp]
    split
    · exact ⟨_, s, rfl, Kept.refl s⟩
    · exact ⟨_, _, rfl, ite_kept (State.clear_kept _ (State.set_kept _ _ (Kept.refl _))) (State.set_kept _ _ (Kept.refl _))⟩

/-! ### Every command -/

/-- The commands that move time: the two power-ups and a time step (R11, R317). -/
def MovesTime (c : Instr) : Prop := (∃ w, c = .vinStart w) ∨ (∃ w, c = .inputOvRestart w) ∨ c = .timeStep

/-- Where the flag says that a command keeps time, and it moves time, the claim is empty. -/
theorem answers_of_movesTime {bt : Bool} {c : Instr} {s : State} {r : Res} (hb : bt = true → ¬ MovesTime c) (hc : MovesTime c)
    (h : Answers false false s r) : Answers false bt s r := by
  cases bt with
  | false => exact h
  | true => exact absurd hc (hb rfl)

/-- What every command keeps but the one that blows a fuse bit; a command that does not move time keeps time too. -/
theorem exec_kept {bt : Bool} (c : Instr) (s : State) (hf : c ≠ .svnFuseBitBlown) (hb : bt = true → ¬ MovesTime c) :
    Answers false bt s (exec c s) := by
  cases c with
  | registerWrite => exact execRegisterWrite_kept ..
  | lowWordRead => exact execLowWordRead_kept ..
  | vinStart w => exact answers_of_movesTime hb (.inl ⟨w, rfl⟩) (execVinStart_kept w s)
  | vinConverterStop => exact execVinConverterStop_kept ..
  | inputOvLockout => exact execInputOvLockout_kept ..
  | inputOvRestart w => exact answers_of_movesTime hb (.inr (.inl ⟨w, rfl⟩)) (execInputOvRestart_kept w s)
  | writeFenceWarning => exact execWriteFenceWarning_kept ..
  | writeFence => exact execWriteFence_kept ..
  | fenceWarnClear => exact execFenceWarnClear_kept ..
  | p0OnlySpanEnd => exact execP0OnlySpanEnd_kept ..
  | perstAssert => exact execPerstAssert_kept ..
  | perstDeassert => exact execPerstDeassert_kept ..
  | linkLoss => exact execLinkLoss_kept ..
  | mezPresChange => exact execMezPresChange_kept ..
  | sfpInsertion => exact execSfpInsertion_kept ..
  | sfpPeriodicRead => exact execSfpPeriodicRead_kept ..
  | profileReadComplete => exact execProfileReadComplete_kept ..
  | load => exact execLoad_kept ..
  | fetchCompletionError => exact execFetchCompletionError_kept ..
  | bundleFetchComplete => exact execBundleFetchComplete_kept ..
  | bundleVerifyComplete => exact execBundleVerifyComplete_kept ..
  | bundleLoaded => exact execBundleLoaded_kept ..
  | arm => exact execArm_kept ..
  | disarm => exact execDisarm_kept ..
  | disarmComplete => exact execDisarmComplete_kept ..
  | clearLatch => exact execClearLatch_kept ..
  | armFirstStep => exact execArmFirstStep_kept ..
  | armBlockerTimeout => exact execArmBlockerTimeout_kept ..
  | armChecksPassed => exact execArmChecksPassed_kept ..
  | armContactorRequest => exact execArmContactorRequest_kept ..
  | armPrechargeStart => exact execArmPrechargeStart_kept ..
  | armIsoRequest => exact execArmIsoRequest_kept ..
  | armLoopsStart => exact execArmLoopsStart_kept ..
  | armedReached => exact execArmedReached_kept ..
  | armingTimeout => exact execArmingTimeout_kept ..
  | armRetry => exact execArmRetry_kept ..
  | svnFuseRequest => exact execSvnFuseRequest_kept ..
  | svnFuseBitBlown => exact absurd rfl hf
  | attestationRequest => exact execAttestationRequest_kept ..
  | attestationReportDone => exact execAttestationReportDone_kept ..
  | mainSrcSelect => exact execMainSrcSelect_kept ..
  | aonSrcSelect => exact execAonSrcSelect_kept ..
  | pllRefChange => exact execPllRefChange_kept ..
  | pllRefChangeComplete => exact execPllRefChangeComplete_kept ..
  | clockSwitchComplete => exact execClockSwitchComplete_kept ..
  | sourceReady => exact execSourceReady_kept ..
  | clockLossForcing => exact execClockLossForcing_kept ..
  | clockLossNonforcing => exact execClockLossNonforcing_kept ..
  | clockHoldClear => exact execClockHoldClear_kept ..
  | xtalBStartTimeout => exact execXtalBStartTimeout_kept ..
  | xtalAStartTimeout => exact execXtalAStartTimeout_kept ..
  | fmeasStart => exact execFmeasStart_kept ..
  | fmeasDone => exact execFmeasDone_kept ..
  | powerModeSelect => exact execPowerModeSelect_kept ..
  | deepSleepEntry => exact execDeepSleepEntry_kept ..
  | wakeSourceFired => exact execWakeSourceFired_kept ..
  | wakeTimerExpiry => exact execWakeTimerExpiry_kept ..
  | domainGateChange => exact execDomainGateChange_kept ..
  | bar2WakeLatchExpiry => exact execBar2WakeLatchExpiry_kept ..
  | switchingCycleStart => exact execSwitchingCycleStart_kept ..
  | peakComparatorTrip => exact execPeakComparatorTrip_kept ..
  | blankingEnd => exact execBlankingEnd_kept ..
  | latestTurnOff => exact execLatestTurnOff_kept ..
  | deadTimeExpiry => exact execDeadTimeExpiry_kept ..
  | zeroCurrentDetect => exact execZeroCurrentDetect_kept ..
  | peakLimitTrip => exact execPeakLimitTrip_kept ..
  | hiccupOffExpiry => exact execHiccupOffExpiry_kept ..
  | hiccupRetryComplete => exact execHiccupRetryComplete_kept ..
  | runClearExpiry => exact execRunClearExpiry_kept ..
  | shedAddSlot => exact execShedAddSlot_kept ..
  | stepEvent => exact execStepEvent_kept ..
  | stepHoldExpiry => exact execStepHoldExpiry_kept ..
  | fltNLow => exact execFltNLow_kept ..
  | stageTempCheck => exact execStageTempCheck_kept ..
  | faultedChannelReturn => exact execFaultedChannelReturn_kept ..
  | syncEdge => exact execSyncEdge_kept ..
  | syncEdgeMissing => exact execSyncEdgeMissing_kept ..
  | syncSrcSelect => exact execSyncSrcSelect_kept ..
  | overVoltageDeclared => exact execOverVoltageDeclared_kept ..
  | ovLowSwitchLatch => exact execOvLowSwitchLatch_kept ..
  | ovNoIso => exact execOvNoIso_kept ..
  | ovClear => exact execOvClear_kept ..
  | ovAutoRelease => exact execOvAutoRelease_kept ..
  | lastFaultRecordWrite => exact execLastFaultRecordWrite_kept ..
  | groupEnable => exact execGroupEnable_kept ..
  | groupDisable => exact execGroupDisable_kept ..
  | forceShedWrite => exact execForceShedWrite_kept ..
  | pendingEnableExpiry => exact execPendingEnableExpiry_kept ..
  | reinSample => exact execReinSample_kept ..
  | followingErrorTrip => exact execFollowingErrorTrip_kept ..
  | cascadeEnable => exact execCascadeEnable_kept ..
  | cascadeDisable => exact execCascadeDisable_kept ..
  | bankSwitch => exact execBankSwitch_kept ..
  | cascadeHold => exact execCascadeHold_kept ..
  | cascadeHoldClear => exact execCascadeHoldClear_kept ..
  | coefficientWrite => exact execCoefficientWrite_kept ..
  | sectionStateWrite => exact execSectionStateWrite_kept ..
  | mapWrite => exact execMapWrite_kept ..
  | casSrcWrite => exact execCasSrcWrite_kept ..
  | l1Slot => exact execL1Slot_kept ..
  | pmbusClearFaults => exact execPmbusClearFaults_kept ..
  | tuneStart => exact execTuneStart_kept ..
  | tuneAbort => exact execTuneAbort_kept ..
  | tuneTimeLimit => exact execTuneTimeLimit_kept ..
  | spurHint => exact execSpurHint_kept ..
  | spurCancel => exact execSpurCancel_kept ..
  | spurInvalidFrame => exact execSpurInvalidFrame_kept ..
  | clrLatMax => exact execClrLatMax_kept ..
  | commitStep => exact execCommitStep_kept ..
  | hintExpiry => exact execHintExpiry_kept ..
  | hrRelease => exact execHrRelease_kept ..
  | headStepWrite => exact execHeadStepWrite_kept ..
  | quietUntilWrite => exact execQuietUntilWrite_kept ..
  | sweepStart => exact execSweepStart_kept ..
  | sweepComplete => exact execSweepComplete_kept ..
  | breakDetect => exact execBreakDetect_kept ..
  | readHeldComplete => exact execReadHeldComplete_kept ..
  | ringHbKick => exact execRingHbKick_kept ..
  | enum => exact execEnum_kept ..
  | enumAssignReturn => exact execEnumAssignReturn_kept ..
  | enumVerifyReturn => exact execEnumVerifyReturn_kept ..
  | enumFrameTimeout => exact execEnumFrameTimeout_kept ..
  | balCmd => exact execBalCmd_kept ..
  | balDisable => exact execBalDisable_kept ..
  | openWireStart => exact execOpenWireStart_kept ..
  | openWireAuto => exact execOpenWireAuto_kept ..
  | cornerWrite => exact execCornerWrite_kept ..
  | swapRequest => exact execSwapRequest_kept ..
  | swapBreak => exact execSwapBreak_kept ..
  | swapWaitTimeout => exact execSwapWaitTimeout_kept ..
  | swapMake => exact execSwapMake_kept ..
  | estimatorRun => exact execEstimatorRun_kept ..
  | restCheck => exact execRestCheck_kept ..
  | restNow => exact execRestNow_kept ..
  | restShedComplete => exact execRestShedComplete_kept ..
  | restShedTimeout => exact execRestShedTimeout_kept ..
  | restAverageStart => exact execRestAverageStart_kept ..
  | restReference => exact execRestReference_kept ..
  | restAbort => exact execRestAbort_kept ..
  | journalPeriodic => exact execJournalPeriodic_kept ..
  | writeNow => exact execWriteNow_kept ..
  | journalWriteComplete => exact execJournalWriteComplete_kept ..
  | efcWrite => exact execEfcWrite_kept ..
  | syncSend => exact execSyncSend_kept ..
  | shareSend => exact execShareSend_kept ..
  | delayReqSend => exact execDelayReqSend_kept ..
  | shareCollectionClose => exact execShareCollectionClose_kept ..
  | teamSummarySend => exact execTeamSummarySend_kept ..
  | delayRespSend => exact execDelayRespSend_kept ..
  | targetSelect => exact execTargetSelect_kept ..
  | hallTargetCompute => exact execHallTargetCompute_kept ..
  | bulkWindow => exact execBulkWindow_kept ..
  | syncReceived => exact execSyncReceived_kept ..
  | shareReceived => exact execShareReceived_kept ..
  | teamSummaryReceived => exact execTeamSummaryReceived_kept ..
  | delayReqReceived f t3 => exact execDelayReqReceived_kept f t3 s
  | delayRespReceived => exact execDelayRespReceived_kept ..
  | bulkFrameReceived => exact execBulkFrameReceived_kept ..
  | offsetEstimate => exact execOffsetEstimate_kept ..
  | timeStep => exact answers_of_movesTime hb (.inr (.inr rfl)) (execTimeStep_kept s)
  | leadFailure => exact execLeadFailure_kept ..
  | pathDown => exact execPathDown_kept ..
  | yield => exact execYield_kept ..
  | matrixTile => exact execMatrixTile_kept ..
  | vectorOp => exact execVectorOp_kept ..
  | transcendental => exact execTranscendental_kept ..
  | conversion => exact execConversion_kept ..
  | threadLoad => exact execThreadLoad_kept ..
  | threadStore => exact execThreadStore_kept ..
  | atomic => exact execAtomic_kept ..
  | memoryFence a scope => exact execMemoryFence_kept a scope s
  | powerCapTick => exact execPowerCapTick_kept ..
  | hostCoreSuspend => exact execHostCoreSuspend_kept ..
  | hostCoreResume => exact execHostCoreResume_kept ..
  | sramScrub => exact execSramScrub_kept ..
  | tierStart => exact execTierStart_kept ..
  | tierAbort => exact execTierAbort_kept ..
  | tierCopyComplete => exact execTierCopyComplete_kept ..
  | coreWakeComplete => exact execCoreWakeComplete_kept ..
  | coreDrainComplete => exact execCoreDrainComplete_kept ..
  | coreFailure => exact execCoreFailure_kept ..
  | coreCopyComplete => exact execCoreCopyComplete_kept ..
  | bar2Access => exact execBar2Access_kept ..
  | submissionDoorbell => exact execSubmissionDoorbell_kept ..
  | completionDoorbell => exact execCompletionDoorbell_kept ..
  | launch => exact execLaunch_kept ..
  | barrier => exact execBarrier_kept ..
  | wake => exact execWake_kept ..
  | sleep => exact execSleep_kept ..
  | nop => exact execNop_kept ..
  | badCommand => exact execBadCommand_kept ..
  | jobDispatch => exact execJobDispatch_kept ..
  | jobEnd => exact execJobEnd_kept ..
  | jobTimeout => exact execJobTimeout_kept ..
  | queueAbort => exact execQueueAbort_kept ..
  | coreIdleTimeout => exact execCoreIdleTimeout_kept ..
  | trainingBurstStart => exact execTrainingBurstStart_kept ..
  | candidateJudged => exact execCandidateJudged_kept ..
  | promote => exact execPromote_kept ..
  | revert => exact execRevert_kept ..
  | exportWeights => exact execExport_kept ..
  | install => exact execInstall_kept ..
  | fleetRoundStart => exact execFleetRoundStart_kept ..
  | busOverVoltage => exact execBusOverVoltage_kept ..
  | busUnderVoltage => exact execBusUnderVoltage_kept ..
  | stringOverVoltage => exact execStringOverVoltage_kept ..
  | stringUnderVoltage => exact execStringUnderVoltage_kept ..
  | temperatureTrip => exact execTemperatureTrip_kept ..
  | feedbackMismatch => exact execFeedbackMismatch_kept ..
  | faultConditionClear => exact execFaultConditionClear_kept ..
  | contactorOpenLowCurrent => exact execContactorOpenLowCurrent_kept ..
  | watchdogKick => exact execWatchdogKick_kept ..
  | watchdogExpiry => exact execWatchdogExpiry_kept ..
  | firmwareRestartComplete => exact execFirmwareRestartComplete_kept ..
  | holdoffExpiry => exact execHoldoffExpiry_kept ..
  | settleExpiry => exact execSettleExpiry_kept ..
  | softStartOffExpiry => exact execSoftStartOffExpiry_kept ..
  | pumpLoss => exact execPumpLoss_kept ..
  | flowLow => exact execFlowLow_kept ..
  | inletHigh => exact execInletHigh_kept ..
  | coolingClear => exact execCoolingClear_kept ..
  | pumpDutyUpdate => exact execPumpDutyUpdate_kept ..
  | hostKick => exact execHostKick_kept ..
  | hostTimeout => exact execHostTimeout_kept ..
  | stringReturn => exact execStringReturn_kept ..
  | firmwareCloseRequest => exact execFirmwareCloseRequest_kept ..
  | mramRecordWrite => exact execMramRecordWrite_kept ..
  | snapshotComplete => exact execSnapshotComplete_kept ..
  | sbgTrig => exact execSbgTrig_kept ..
  | mark => exact execMark_kept ..
  | incidentClose => exact execIncidentClose_kept ..
  | incKeepWrite => exact execIncKeepWrite_kept ..
  | controlBlockPeriodic => exact execControlBlockPeriodic_kept ..
  | operatingSecond => exact execOperatingSecond_kept ..
  | gapRecordDue => exact execGapRecordDue_kept ..
  | hostRingRecordWrite => exact execHostRingRecordWrite_kept ..
  | telHeadWrite => exact execTelHeadWrite_kept ..
  | hostRingHoldEnd => exact execHostRingHoldEnd_kept ..
  | substitutionTrigger => exact execSubstitutionTrigger_kept ..
  | rmtReq => exact execRmtReq_kept ..
  | rmtCancel => exact execRmtCancel_kept ..
  | rmtRetire => exact execRmtRetire_kept ..
  | phaseHoldPlace => exact execPhaseHoldPlace_kept ..
  | substitutionGateMet => exact execSubstitutionGateMet_kept ..
  | substitutionSwitchComplete => exact execSubstitutionSwitchComplete_kept ..
  | substitutionVerify => exact execSubstitutionVerify_kept ..
  | inputTest => exact execInputTest_kept ..
  | wearCopyPeriodic => exact execWearCopyPeriodic_kept ..
  | tackCoreFailure => exact execTackCoreFailure_kept ..
  | fircWaitExpiry => exact execFircWaitExpiry_kept ..
  | msixUnmask => exact execMsixUnmask_kept ..
  | tapBypass => exact execTapBypass_kept ..
  | tapIdcode => exact execTapIdcode_kept ..
  | tapSamplePreload => exact execTapSamplePreload_kept ..
  | tapExtest => exact execTapExtest_kept ..
  | tapClamp => exact execTapClamp_kept ..
  | tapHighz => exact execTapHighz_kept ..
  | prechargeNotReached => exact execPrechargeNotReached_kept ..
  | larkspurJunctionHot => exact execLarkspurJunctionHot_kept ..
  | larkspurJunctionCool => exact execLarkspurJunctionCool_kept ..
  | spurSymbolLock => exact execSpurSymbolLock_kept ..
  | connectorPinChange => exact execConnectorPinChange_kept ..
  | pcieLinkUp => exact execPcieLinkUp_kept ..
  | pciePowerStateChange => exact execPciePowerStateChange_kept ..
  | fcstNapChange => exact execFcstNapChange_kept ..
  | forecastReloadComplete => exact execForecastReloadComplete_kept ..
  | weightExportComplete => exact execWeightExportComplete_kept ..
  | lksWakeLatchClear => exact execLksWakeLatchClear_kept ..

/-- A blown fuse bit leaves time as it was. -/
theorem exec_svnFuseBitBlown_sameTime {s t : State} (h : exec .svnFuseBitBlown s = .next t) :
    t.time = s.time ∧ t.elapsed = s.elapsed := by
  obtain ⟨n, u, hu, hk⟩ := execSvnFuseBitBlown_kept (bm := false) (bt := true) s
  injection h.symm.trans hu with htu
  exact htu ▸ hk.sameTime rfl

/-- Settles O10, by what each command keeps. -/
theorem onlyPowerUpAndTimeStepMoveTime : Obligations.OnlyPowerUpAndTimeStepMoveTime := by
  intro c s t hv hi hts h
  rcases Classical.em (c = .svnFuseBitBlown) with rfl | hf
  · exact exec_svnFuseBitBlown_sameTime h
  have hb : ¬ MovesTime c := by
    rintro (⟨w, hw⟩ | ⟨w, hw⟩ | hw)
    · exact hv w hw
    · exact hi w hw
    · exact hts hw
  obtain ⟨u, hu, hk⟩ := exec_kept (bt := true) c s hf fun _ => hb
  injection h.symm.trans hu with htu
  exact htu ▸ hk.sameTime rfl

end Sys2Proof.Machine

end


namespace Sys2Proof.Machine

/-! ### Every command and every step -/

/-- What every command keeps, with the fuse block of its result aside. -/
theorem exec_kept_but_otp (c : Instr) (s : State) :
    ∃ o t, exec c s = .next t ∧ Kept false false { s with otp := o } t := by
  rcases Classical.em (c = .svnFuseBitBlown) with rfl | hf
  · obtain ⟨_, t, ht, hk⟩ := execSvnFuseBitBlown_kept (bm := false) (bt := false) s
    exact ⟨_, t, ht, hk⟩
  · obtain ⟨t, ht, hk⟩ := exec_kept (bt := false) c s hf (by simp)
    exact ⟨s.otp, t, ht, hk⟩

theorem exec_shaped {c : Instr} {s t : State} (hs : s.shaped) (h : exec c s = .next t) : t.shaped := by
  obtain ⟨o, u, hu, hk⟩ := exec_kept_but_otp c s
  injection h.symm.trans hu with htu
  exact htu ▸ hk.shaped hs

theorem Fab.advance_shaped {f : Fab} (t : Word64) (h : f.shaped) : (f.advance t).1.shaped := by
  rw [Fab.advance_frame]
  exact h

theorem State.tick_shaped {s : State} (h : s.shaped) : s.tick.shaped := by
  obtain ⟨hpins, hbrd, hsbg, hhrn, hrein, hfcst, hring, hest, hrmt, hfab, hlks⟩ := h
  unfold State.tick
  split
  · split
    · exact ⟨hpins, hbrd, hsbg, hhrn, hrein, hfcst, hring, hest, hrmt, Fab.advance_shaped s.time hfab, hlks⟩
    · exact ⟨hpins, hbrd, hsbg, hhrn, hrein, hfcst, hring, hest, hrmt, hfab, hlks⟩
  · exact ⟨hpins, hbrd, hsbg, hhrn, hrein, hfcst, hring, hest, hrmt, hfab, hlks⟩

/-- Settles O6, by what every command keeps and, on an empty queue, by the tick. -/
theorem everyStepKeepsTheShape : Obligations.EveryStepKeepsTheShape := by
  intro s t hs h
  cases hq : s.pending with
  | nil =>
    rw [step_eq_tick hq] at h
    injection h with h
    exact h ▸ State.tick_shaped hs
  | cons c rest =>
    rw [show step s = exec c { s with pending := rest } by simp [step, hq]] at h
    exact exec_shaped (s := { s with pending := rest }) hs h

/-- Settles O9, by what every command keeps. -/
theorem sentStaysSentAndDrawsAdvance : Obligations.SentStaysSentAndDrawsAdvance := by
  intro c s t h
  obtain ⟨o, u, hu, hk⟩ := exec_kept_but_otp c s
  injection h.symm.trans hu with htu
  exact htu ▸ ⟨hk.out, hk.free⟩

end Sys2Proof.Machine


namespace Sys2Proof.Machine

/-! ### What a group of commands leaves alone -/

/-- The parts of the state that a group of commands may change beside the registers, the recorder and what is sent. -/
structure Parts where
  clk : Bool := false
  rmt : Bool := false
  fcst : Bool := false
  est : Bool := false
  fab : Bool := false
  lks : Bool := false
  mem : Bool := false
  latches : Bool := false

/-- The state without the registers, the recorder with its MRAM, WAKE_N, the function's messages, what has been sent and drawn,
and without the parts given: what two states share when only these differ. -/
def State.apart (p : Parts) (s : State) : State :=
  { s with
    regs := [], pins := { s.pins with wakeN := false }, pcie := {}, sbg := {}, mram := [], out := [], free := 0
    clk := if p.clk then {} else s.clk
    rmt := if p.rmt then {} else s.rmt
    fcst := if p.fcst then {} else s.fcst
    est := if p.est then {} else s.est
    fab := if p.fab then {} else s.fab
    lks := if p.lks then {} else s.lks
    mem := if p.mem then [] else s.mem
    latches := if p.latches then [] else s.latches }

section
variable {p : Parts}

@[simp] theorem apart_ite {c : Prop} [Decidable c] (s t : State) :
    (if c then s else t).apart p = if c then s.apart p else t.apart p := apply_ite _ _ _ _

theorem forL_apart {α : Type} {l : List α} {f : α → State → State} (s : State) (hf : ∀ x t, (f x t).apart p = t.apart p) :
    (forL l f s).apart p = s.apart p := by
  unfold forL
  induction l generalizing s with
  | nil => rfl
  | cons x l ih => rw [List.foldl_cons, ih, hf]

theorem forN_apart {n : Nat} {f : Nat → State → State} (s : State) (hf : ∀ i t, (f i t).apart p = t.apart p) :
    (forN n f s).apart p = s.apart p := forL_apart s hf

theorem onlyIf_apart {c : Bool} {f : State → State} (s : State) (hf : ∀ t, (f t).apart p = t.apart p) :
    (onlyIf c f s).apart p = s.apart p := by
  unfold onlyIf
  split
  · exact hf s
  · rfl

/-- An update of the registers, the function's messages, the recorder, the MRAM, what is sent and drawn. -/
@[simp] theorem recorder_apart (s : State) (regs : List (Nat × Word)) (pcie : Pcie) (sbg : Sbg) (mram : List (Nat × Byte))
    (out : List Out) (free : Nat) :
    State.apart p { s with regs := regs, pcie := pcie, sbg := sbg, mram := mram, out := out, free := free } = s.apart p := rfl

@[simp] theorem State.wr_apart (s : State) (a : Nat) (v : Word) : (s.wr a v).apart p = s.apart p := rfl
@[simp] theorem State.set_apart (s : State) (f : Field) (v : Nat) : (s.set f v).apart p = s.apart p := rfl
@[simp] theorem State.bumpSat_apart (s : State) (f : Field) (n : Nat) : (s.bumpSat f n).apart p = s.apart p := rfl
@[simp] theorem State.bumpWrap_apart (s : State) (f : Field) : (s.bumpWrap f).apart p = s.apart p := rfl
@[simp] theorem State.satReg_apart (s : State) (a n : Nat) : (s.satReg a n).apart p = s.apart p := rfl
@[simp] theorem State.wrapReg_apart (s : State) (a : Nat) : (s.wrapReg a).apart p = s.apart p := rfl
@[simp] theorem State.wr64_apart (s : State) (lo hi v : Nat) : (s.wr64 lo hi v).apart p = s.apart p := rfl
@[simp] theorem State.emit_apart (s : State) (o : Out) : (s.emit o).apart p = s.apart p := rfl
@[simp] theorem State.showWakeN_apart (s : State) : s.showWakeN.apart p = s.apart p := rfl
@[simp] theorem State.setPath_apart (s : State) (i : Nat) (q : TPath) : (s.setPath i q).apart p = s.apart p := rfl
@[simp] theorem State.fresh_apart (s : State) : s.fresh.2.apart p = s.apart p := rfl

@[simp] theorem State.msix_apart (s : State) (v : Nat) : (s.msix v).apart p = s.apart p := by
  unfold State.msix
  repeat' split
  all_goals rfl

@[simp] theorem State.raiseBit_apart (s : State) (f : Field) (v : Nat) : (s.raiseBit f v).apart p = s.apart p := by
  unfold State.raiseBit
  split <;> simp

/-! #### The recorder -/

@[simp] theorem State.writeCb_apart (s : State) : s.writeCb.apart p = s.apart p := by
  unfold State.writeCb
  repeat' split
  all_goals rfl

@[simp] theorem State.openIncident_apart (s : State) : s.openIncident.apart p = s.apart p := by
  unfold State.openIncident
  dsimp only
  repeat' split
  all_goals simp

@[simp] theorem State.showLevel_apart (s : State) (i : Nat) : (s.showLevel i).apart p = s.apart p := by
  unfold State.showLevel
  split <;> rfl

@[simp] theorem State.lose_apart (s : State) (i cause prio : Nat) (b : Bool) : (s.lose i cause prio b).apart p = s.apart p := by
  unfold State.lose
  dsimp only
  split <;> rfl

@[simp] theorem State.enqueue_apart (s : State) (i : Nat) (r : Rec) (b : Bool) : (s.enqueue i r b).apart p = s.apart p := rfl

@[simp] theorem State.toPath_apart (s : State) (i : Nat) (r : Rec) : (s.toPath i r).apart p = s.apart p := by
  unfold State.toPath
  repeat' split
  all_goals simp

@[simp] theorem State.record_apart (s : State) (kind prio domain code key cls : Nat) (opens : Bool) (body : List Byte) :
    (s.record kind prio domain code key cls opens body).apart p = s.apart p := by
  unfold State.record
  dsimp only
  rw [State.showWakeN_apart, forN_apart _ fun i t => t.toPath_apart i _]
  split <;> simp

@[simp] theorem State.fireList_apart (s : State) (l : Nat) : (s.fireList l).apart p = s.apart p := by
  unfold State.fireList
  simp only [apart_ite, State.bumpSat_apart, State.set_apart, recorder_apart, State.openIncident_apart, ite_self]

end

/-! ### Larkspur -/

/-- What host work on Larkspur may change. -/
abbrev Parts.larkspur : Parts := { clk := true, fcst := true, fab := true, lks := true, mem := true }

/-- An update of what Larkspur's operations may change. -/
@[simp] theorem larkspur_apart (s : State) (regs : List (Nat × Word)) (pcie : Pcie) (sbg : Sbg) (mram mem : List (Nat × Byte))
    (out : List Out) (free : Nat) (clk : Clk) (fcst : Fcst) (fab : Fab) (lks : Lks) :
    State.apart .larkspur { s with
      regs := regs, pcie := pcie, sbg := sbg, mram := mram, out := out, free := free, mem := mem, clk := clk, fcst := fcst,
      fab := fab, lks := lks } = s.apart .larkspur := rfl

end Sys2Proof.Machine


namespace Sys2Proof.Machine

/-! #### Wake latches and the states of cores -/

section
variable {p : Parts} (hc : p.clk = true)
include hc

theorem clk_apart (s : State) (regs : List (Nat × Word)) (clk : Clk) :
    State.apart p { s with regs := regs, clk := clk } = s.apart p := by
  simp only [State.apart, hc, if_true]

theorem State.latchWake_apart (s : State) (mask : Nat) : (s.latchWake mask).apart p = s.apart p := clk_apart hc s _ _

theorem State.fireWake_apart (b : Nat) (s : State) : (s.fireWake b).apart p = s.apart p := by
  unfold State.fireWake
  dsimp only
  rw [apart_ite, State.latchWake_apart hc, ite_self, State.set_apart]

variable (hl : p.lks = true)
include hl

omit hc in
theorem lks_apart (s : State) (lks : Lks) : State.apart p { s with lks := lks } = s.apart p := by
  simp only [State.apart, hl, if_true]

omit hc in
theorem State.setCore_apart (s : State) (d c : Nat) (x : LCore) : (s.setCore d c x).apart p = s.apart p := lks_apart hl s _

omit hc in
theorem State.coreTo_apart (s : State) (d c st : Nat) : (s.coreTo d c st).apart p = s.apart p := by
  unfold State.coreTo State.showCores
  simp [State.setCore_apart hl]

omit hc in
theorem State.closeCore_apart (s : State) (d c : Nat) : (s.closeCore d c).apart p = s.apart p := by
  unfold State.closeCore
  simp [State.setCore_apart hl, State.coreTo_apart hl]

theorem State.openCore_apart (s : State) (d c : Nat) : (s.openCore d c).apart p = s.apart p := by
  unfold State.openCore
  simp [State.setCore_apart hl, State.coreTo_apart hl, State.latchWake_apart hc]

/-! #### The gates of the domains, and a wake from Deep-sleep -/

theorem State.lksOpen_apart (b : Nat) (s : State) : (s.lksOpen b).apart p = s.apart p := by
  unfold State.lksOpen
  dsimp only
  rw [forL_apart, clk_apart hc, State.set_apart]
  intro x t
  simp [State.setCore_apart hl, State.coreTo_apart hl]

omit hc in
theorem State.lksClose_apart (b : Nat) (s : State) : (s.lksClose b).apart p = s.apart p := by
  have h : (forL (domainCores b) (fun q t => if t.coreRests q.1 q.2 then t else t.closeCore q.1 q.2) s).apart p = s.apart p :=
    forL_apart s fun q t => by simp [State.closeCore_apart hl]
  unfold State.lksClose
  simp [h]

theorem State.lksGate_apart (want b : Nat) (s : State) : (s.lksGate want b).apart p = s.apart p := by
  unfold State.lksGate
  simp [State.lksOpen_apart hc hl, State.lksClose_apart hl]

omit hl in
theorem State.plainGates_apart (want : Nat) (s : State) : (s.plainGates want).apart p = s.apart p := by
  unfold State.plainGates
  simp [clk_apart hc]

theorem State.gates_apart (s : State) : s.gates.apart p = s.apart p := by
  unfold State.gates State.showAwake
  simp [clk_apart hc, State.plainGates_apart hc, State.lksGate_apart hc hl]

theorem State.wake_apart (s : State) : s.wake.apart p = s.apart p := by
  unfold State.wake
  split
  · rfl
  · simp [State.gates_apart hc hl, clk_apart hc]

theorem State.wakeBy_apart (b : Nat) (s : State) : (s.wakeBy b).apart p = s.apart p := by
  rw [State.wakeBy, State.wake_apart hc hl, State.fireWake_apart hc]

end

end Sys2Proof.Machine


namespace Sys2Proof.Machine

/-! #### Queues, jobs and cores -/

@[simp] theorem State.latchWake_larkspur (s : State) (mask : Nat) :
    (s.latchWake mask).apart .larkspur = s.apart .larkspur := State.latchWake_apart rfl ..
@[simp] theorem State.coreTo_larkspur (s : State) (d c st : Nat) :
    (s.coreTo d c st).apart .larkspur = s.apart .larkspur := State.coreTo_apart rfl ..
@[simp] theorem State.openCore_larkspur (s : State) (d c : Nat) :
    (s.openCore d c).apart .larkspur = s.apart .larkspur := State.openCore_apart rfl rfl ..
@[simp] theorem State.closeCore_larkspur (s : State) (d c : Nat) :
    (s.closeCore d c).apart .larkspur = s.apart .larkspur := State.closeCore_apart rfl ..

@[simp] theorem State.setCore_larkspur (s : State) (d c : Nat) (x : LCore) :
    (s.setCore d c x).apart .larkspur = s.apart .larkspur := rfl
@[simp] theorem State.setQueue_larkspur (s : State) (d q : Nat) (x : LQueue) :
    (s.setQueue d q x).apart .larkspur = s.apart .larkspur := rfl
@[simp] theorem State.setThread_larkspur (s : State) (a : ThrNo) (t : LThr) :
    (s.setThread a t).apart .larkspur = s.apart .larkspur := rfl
@[simp] theorem State.mapJobs_larkspur (s : State) (q : LJob → Bool) (f : LJob → LJob) :
    (s.mapJobs q f).apart .larkspur = s.apart .larkspur := rfl
@[simp] theorem State.memPut_larkspur (s : State) (a : Nat) (l : List Byte) :
    (s.memPut a l).apart .larkspur = s.apart .larkspur := rfl
@[simp] theorem State.memLose_larkspur (s : State) (a n : Nat) :
    (s.memLose a n).apart .larkspur = s.apart .larkspur := rfl
@[simp] theorem State.memCopy_larkspur (s : State) (a b n : Nat) :
    (s.memCopy a b n).apart .larkspur = s.apart .larkspur := rfl
@[simp] theorem State.showQueue_larkspur (s : State) (d q : Nat) :
    (s.showQueue d q).apart .larkspur = s.apart .larkspur := rfl
@[simp] theorem State.showAwake_larkspur (s : State) : s.showAwake.apart .larkspur = s.apart .larkspur := rfl
@[simp] theorem State.showTrain_larkspur (s : State) : s.showTrain.apart .larkspur = s.apart .larkspur := rfl
@[simp] theorem State.qFlag_larkspur (s : State) (f : Nat → Nat → Field) (d q : Nat) :
    (s.qFlag f d q).apart .larkspur = s.apart .larkspur := State.raiseBit_apart ..
@[simp] theorem State.lksNote_larkspur (s : State) (m t : Int) (i : Nat) :
    (s.lksNote m t i).apart .larkspur = s.apart .larkspur := State.record_apart ..
@[simp] theorem State.tackOwned_larkspur (s : State) (a v : Nat) :
    (s.tackOwned a v).apart .larkspur = s.apart .larkspur := State.record_apart ..

@[simp] theorem State.fenceHit_larkspur (s : State) (r : LReq) (kind a : Nat) :
    (s.fenceHit r kind a).apart .larkspur = s.apart .larkspur := by
  unfold State.fenceHit
  simp

@[simp] theorem State.cqWrite_larkspur (s : State) (d q : Nat) (body : List Byte) (msi : Bool) :
    (s.cqWrite d q body msi).apart .larkspur = s.apart .larkspur := by
  unfold State.cqWrite
  simp only [apart_ite, State.msix_apart, State.setQueue_larkspur, State.set_apart, State.memPut_larkspur, State.emit_apart, ite_self]

@[simp] theorem State.complete_larkspur (s : State) (d q : Nat) (body : List Byte) (b : Bool) :
    (s.complete d q body b).apart .larkspur = s.apart .larkspur := by
  unfold State.complete
  split <;> simp

@[simp] theorem State.coreDone_larkspur (s : State) (d c : Nat) : (s.coreDone d c).apart .larkspur = s.apart .larkspur := by
  unfold State.coreDone
  repeat' split
  all_goals simp

@[simp] theorem State.jobOff_larkspur (s : State) (j : LJob) : (s.jobOff j).apart .larkspur = s.apart .larkspur := by
  unfold State.jobOff
  rw [forL_apart _ fun c t => t.coreDone_larkspur j.die c, larkspur_apart]

@[simp] theorem State.jobEnd_larkspur (s : State) (j : LJob) (st : Nat) :
    (s.jobEnd j st).apart .larkspur = s.apart .larkspur := by
  rw [State.jobEnd, State.showQueue_larkspur, State.complete_larkspur, State.jobOff_larkspur]

@[simp] theorem State.loadImage_larkspur (s : State) (j : LJob) (i : Brxi) :
    (s.loadImage j i).apart .larkspur = s.apart .larkspur := by
  unfold State.loadImage
  exact forL_apart s fun c t => by simp

@[simp] theorem State.jobStart_larkspur (s : State) (j : LJob) : (s.jobStart j).apart .larkspur = s.apart .larkspur := by
  unfold State.jobStart
  dsimp only
  split
  · rfl
  · split
    · simp
    · split
      · simp
      · refine (State.showQueue_larkspur ..).trans ((forL_apart _ fun c t => ?_).trans ?_)
        · rw [State.set_apart, State.coreTo_larkspur]
        · rw [State.mapJobs_larkspur, State.loadImage_larkspur]

@[simp] theorem State.jobsStart_larkspur (s : State) (d : Nat) : (s.jobsStart d).apart .larkspur = s.apart .larkspur :=
  forL_apart s fun j t => t.jobStart_larkspur j

@[simp] theorem State.actsDone_larkspur (s : State) (d q : Nat) : (s.actsDone d q).apart .larkspur = s.apart .larkspur :=
  forL_apart s fun c t => by simp

@[simp] theorem State.sleepCore_larkspur (s : State) (d c : Nat) : (s.sleepCore d c).apart .larkspur = s.apart .larkspur := by
  unfold State.sleepCore
  split <;> simp

@[simp] theorem State.finish_larkspur (s : State) (d q : Nat) (c : LCmd) (st : Nat) :
    (s.finish d q c st).apart .larkspur = s.apart .larkspur := by
  rw [State.finish, State.complete_larkspur, State.setQueue_larkspur]

@[simp] theorem State.serve_larkspur (s : State) (d q : Nat) : (s.serve d q).1.apart .larkspur = s.apart .larkspur := by
  have hopen (l : List Nat) (t : State) : (forL l (fun k t => t.openCore d k) t).apart .larkspur = t.apart .larkspur :=
    forL_apart t fun k u => u.openCore_larkspur d k
  have hsleep (l : List Nat) (t : State) : (forL l (fun k t => t.sleepCore d k) t).apart .larkspur = t.apart .larkspur :=
    forL_apart t fun k u => u.sleepCore_larkspur d k
  have hwake (l : List Nat) (t : State) :
      (forL l (fun k t => t.latchWake (2 ^ coreDomain d k)) t).apart .larkspur = t.apart .larkspur :=
    forL_apart t fun k u => u.latchWake_larkspur _
  unfold State.serve
  dsimp only
  repeat' split
  all_goals simp [hopen, hsleep, hwake]

@[simp] theorem State.drain_larkspur (n d q : Nat) (s : State) : (State.drain n d q s).apart .larkspur = s.apart .larkspur := by
  induction n generalizing s with
  | zero => rfl
  | succ n ih =>
    have h := s.serve_larkspur d q
    unfold State.drain
    generalize s.serve d q = r at h
    obtain ⟨t, more⟩ := r
    dsimp only
    split
    · rw [ih, h]
    · exact h

@[simp] theorem State.qRun_larkspur (s : State) (d q : Nat) : (s.qRun d q).apart .larkspur = s.apart .larkspur := by
  rw [State.qRun, State.showQueue_larkspur, State.drain_larkspur, State.actsDone_larkspur]

@[simp] theorem State.burstGrow_larkspur (s : State) : s.burstGrow.apart .larkspur = s.apart .larkspur := by
  unfold State.burstGrow
  split
  · rfl
  · refine (State.showTrain_larkspur _).trans (forN_apart s fun d t => forL_apart t fun c u => ?_)
    simp

@[simp] theorem State.dieRun_larkspur (s : State) (d : Nat) : (s.dieRun d).apart .larkspur = s.apart .larkspur := by
  rw [State.dieRun, State.burstGrow_larkspur, forN_apart _ fun q t => t.qRun_larkspur d q, State.jobsStart_larkspur,
    forN_apart _ fun q t => t.actsDone_larkspur d q]

@[simp] theorem State.fetched_larkspur (s : State) (d q op : Nat) (c : SqCmd) :
    (s.fetched d q op c).apart .larkspur = s.apart .larkspur := by
  unfold State.fetched
  split <;> simp

@[simp] theorem State.unhold_larkspur (n d q : Nat) (s : State) :
    (State.unhold n d q s).apart .larkspur = s.apart .larkspur := by
  induction n generalizing s with
  | zero => rfl
  | succ n ih =>
    unfold State.unhold
    split
    · rfl
    · split
      · rfl
      · rw [ih, State.cqWrite_larkspur, State.setQueue_larkspur]

@[simp] theorem State.rrServe_larkspur (s : State) (d q : Nat) : (s.rrServe d q).apart .larkspur = s.apart .larkspur := by
  unfold State.rrServe
  split <;> rfl

@[simp] theorem State.abortUnfetched_larkspur (s : State) (d q : Nat) (l : List (Word × Bool)) :
    (s.abortUnfetched d q l).apart .larkspur = s.apart .larkspur :=
  forN_apart s fun _ t => t.complete_larkspur ..

@[simp] theorem State.showDuty_larkspur (s : State) (d h f : Nat) : (s.showDuty d h f).apart .larkspur = s.apart .larkspur := by
  unfold State.showDuty
  exact forN_apart _ fun c t => t.set_apart _ _

/-! #### Tiering and BAR2 -/

@[simp] theorem State.setTier_larkspur (s : State) (d ch : Nat) (t : LTier) :
    (s.setTier d ch t).apart .larkspur = s.apart .larkspur := rfl

@[simp] theorem State.tierShow_larkspur (s : State) (d ch st cause : Nat) :
    (s.tierShow d ch st cause).apart .larkspur = s.apart .larkspur := by
  unfold State.tierShow
  simp

@[simp] theorem State.wakeMem_larkspur (s : State) (m : LMem) : (s.wakeMem m).apart .larkspur = s.apart .larkspur := by
  unfold State.wakeMem
  split <;> simp

@[simp] theorem State.tierStart_larkspur (s : State) (d ch : Nat) : (s.tierStart d ch).apart .larkspur = s.apart .larkspur := by
  unfold State.tierStart
  dsimp only
  repeat' split
  all_goals simp

@[simp] theorem State.tierAbort_larkspur (s : State) (d ch : Nat) : (s.tierAbort d ch).apart .larkspur = s.apart .larkspur := by
  unfold State.tierAbort
  simp

theorem State.bar2_larkspur (s : State) (off n : Nat) (data : Option (List Byte)) :
    (s.bar2 off n data).apart .larkspur = s.apart .larkspur := by
  unfold State.bar2
  dsimp only
  repeat' split
  all_goals simp

/-! #### Training and fleet rounds -/

@[simp] theorem State.setTrain_larkspur (s : State) (t : LTrain) : (s.setTrain t).apart .larkspur = s.apart .larkspur := rfl
@[simp] theorem State.setFleet_larkspur (s : State) (f : LFleet) : (s.setFleet f).apart .larkspur = s.apart .larkspur := rfl
@[simp] theorem State.memSwap_larkspur (s : State) (a b n : Nat) :
    (s.memSwap a b n).apart .larkspur = s.apart .larkspur := rfl
@[simp] theorem State.slotPut_larkspur (s : State) (k : Nat) (l : List Byte) :
    (s.slotPut k l).apart .larkspur = s.apart .larkspur := rfl
@[simp] theorem State.candidatePut_larkspur (s : State) (l : List Byte) (g : Nat) :
    (s.candidatePut l g).apart .larkspur = s.apart .larkspur := rfl
@[simp] theorem State.showGen_larkspur (s : State) : s.showGen.apart .larkspur = s.apart .larkspur := rfl
@[simp] theorem State.result_larkspur (s : State) (r : Nat) : (s.result r).apart .larkspur = s.apart .larkspur :=
  State.raiseBit_apart ..

@[simp] theorem State.liveChanged_larkspur (s : State) : s.liveChanged.apart .larkspur = s.apart .larkspur := by
  unfold State.liveChanged
  simp

@[simp] theorem State.promoteNow_larkspur (s : State) : s.promoteNow.apart .larkspur = s.apart .larkspur := by
  unfold State.promoteNow
  simp

@[simp] theorem State.promote_larkspur (s : State) : s.promote.apart .larkspur = s.apart .larkspur := by
  unfold State.promote
  dsimp only
  repeat' split
  all_goals simp

@[simp] theorem State.revert_larkspur (s : State) : s.revert.apart .larkspur = s.apart .larkspur := by
  unfold State.revert
  simp

@[simp] theorem State.exportStart_larkspur (s : State) : s.exportStart.apart .larkspur = s.apart .larkspur := by
  unfold State.exportStart
  simp

@[simp] theorem State.installStart_larkspur (s : State) : s.installStart.apart .larkspur = s.apart .larkspur := by
  unfold State.installStart
  simp

@[simp] theorem State.transfer_larkspur (s : State) (k : Nat) : (s.transfer k).apart .larkspur = s.apart .larkspur := by
  unfold State.transfer
  simp

@[simp] theorem State.installEnd_larkspur (s : State) : s.installEnd.apart .larkspur = s.apart .larkspur := by
  unfold State.installEnd
  simp

@[simp] theorem State.burstEnd_larkspur (s : State) : s.burstEnd.apart .larkspur = s.apart .larkspur := by
  unfold State.burstEnd
  dsimp only
  rw [forL_apart _ fun k u => u.transfer_larkspur k, apart_ite, forN_apart _ fun d u => u.dieRun_larkspur d, ite_self,
    forL_apart _ fun c u => u.coreDone_larkspur _ _, State.setTrain_larkspur]

@[simp] theorem State.showFleet_larkspur (s : State) : s.showFleet.apart .larkspur = s.apart .larkspur := by
  unfold State.showFleet
  simp

@[simp] theorem State.fleetEnd_larkspur (s : State) : s.fleetEnd.apart .larkspur = s.apart .larkspur := by
  unfold State.fleetEnd
  dsimp only
  rw [State.showGen_larkspur, State.setTrain_larkspur, onlyIf_apart _ fun t => t.raiseBit_apart _ _]
  simp

@[simp] theorem State.fleetTurn_larkspur (back : Bool) (s : State) :
    (State.fleetTurn back s).apart .larkspur = s.apart .larkspur := by
  unfold State.fleetTurn
  dsimp only
  split
  · rfl
  · rw [onlyIf_apart _ fun t => t.raiseBit_apart _ _]
    simp

@[simp] theorem State.bulkSend_larkspur (k : Nat) (l : List BulkOut) (left : Nat) (s : State) :
    (State.bulkSend k l left s).apart .larkspur = s.apart .larkspur := by
  induction l generalizing s left with
  | nil => rfl
  | cons b l ih =>
    unfold State.bulkSend
    dsimp only
    simp [ih]

@[simp] theorem State.fleetClose_larkspur (s : State) : s.fleetClose.apart .larkspur = s.apart .larkspur := by
  unfold State.fleetClose
  dsimp only
  rw [State.fleetEnd_larkspur, onlyIf_apart _ fun t => t.raiseBit_apart _ _, State.setFleet_larkspur]

end Sys2Proof.Machine


namespace Sys2Proof.Machine

/-! #### Commands that leave everything else -/

/-- A command completes, and changes only the parts given beside the registers, the recorder and what is sent. -/
def Spares (p : Parts) (s : State) (r : Res) : Prop := ∃ t, r = .next t ∧ t.apart p = s.apart p

theorem next_spares {p : Parts} {s t : State} (h : t.apart p = s.apart p) : Spares p s (.next t) := ⟨t, rfl, h⟩

/-- Without power a command changes nothing. -/
theorem State.on_spares {p : Parts} {s : State} {f : State → Res} (h : Spares p s (f s)) : Spares p s (s.on f) := by
  unfold State.on
  split
  · exact h
  · exact next_spares rfl

theorem Spares.next {p : Parts} {s t : State} {r : Res} (h : Spares p s r) (ht : r = .next t) : t.apart p = s.apart p := by
  obtain ⟨u, hu, hk⟩ := h
  injection ht.symm.trans hu with htu
  exact htu ▸ hk

theorem execCoreWakeComplete_larkspur (d : Fin 2) (c : Fin 64) (s : State) : Spares .larkspur s (execCoreWakeComplete d c s) := by
  refine State.on_spares ?_
  split
  · exact next_spares rfl
  · exact next_spares (by simp)

theorem execCoreDrainComplete_larkspur (d : Fin 2) (c : Fin 64) (s : State) : Spares .larkspur s (execCoreDrainComplete d c s) := by
  refine State.on_spares ?_
  split
  · exact next_spares rfl
  · refine next_spares ?_
    rw [State.dieRun_larkspur]
    split
    · rw [State.openCore_larkspur, State.showAwake_larkspur, State.coreTo_larkspur]
    · rw [State.showAwake_larkspur, State.coreTo_larkspur]

theorem execCoreIdleTimeout_larkspur (d : Fin 2) (c : Fin 64) (s : State) : Spares .larkspur s (execCoreIdleTimeout d c s) :=
  State.on_spares (next_spares (by simp only [apart_ite, State.closeCore_larkspur, ite_self]))

theorem execHostCoreSuspend_larkspur (d : Fin 2) (s : State) : Spares .larkspur s (execHostCoreSuspend d s) := by
  refine State.on_spares ?_
  split
  · exact next_spares rfl
  · refine next_spares ((State.set_apart ..).trans (forL_apart s fun c t => ?_))
    simp

theorem execHostCoreResume_larkspur (d : Fin 2) (s : State) : Spares .larkspur s (execHostCoreResume d s) := by
  refine State.on_spares ?_
  split
  · exact next_spares rfl
  · refine next_spares ?_
    rw [State.dieRun_larkspur, State.showDuty_larkspur, State.set_apart]
    exact (forL_apart _ fun c t => by simp).trans (State.mapJobs_larkspur ..)

theorem execPowerCapTick_larkspur (d : Fin 2) (power env : Nat) (s : State) :
    Spares .larkspur s (execPowerCapTick d power env s) := by
  refine State.on_spares ?_
  split
  · exact next_spares rfl
  · exact next_spares (State.showDuty_larkspur ..)

theorem fetched_spares (d : Fin 2) (q : Fin 64) (op : Nat) (c : SqCmd) (s : State) :
    Spares .larkspur s (s.on fun s => .next (s.fetched d q op c)) :=
  State.on_spares (next_spares (State.fetched_larkspur ..))

theorem execBadCommand_larkspur (d : Fin 2) (q : Fin 64) (op : Fin 256) (c : SqCmd) (s : State) :
    Spares .larkspur s (execBadCommand d q op c s) :=
  State.on_spares (next_spares (by simp only [apart_ite, State.fetched_larkspur, ite_self]))

theorem execJobDispatch_larkspur (d : Fin 2) (q : Fin 64) (s : State) : Spares .larkspur s (execJobDispatch d q s) := by
  refine State.on_spares ?_
  split
  · exact next_spares rfl
  · split
    · exact next_spares rfl
    · dsimp only
      split
      · exact next_spares (by simp)
      · refine next_spares ?_
        rw [State.qRun_larkspur, State.jobStart_larkspur]
        exact (forL_apart _ fun k t => t.openCore_larkspur d k).trans (by simp)

theorem execJobEnd_larkspur (d : Fin 2) (q : Fin 64) (tag : Word) (s : State) :
    Spares .larkspur s (execJobEnd d q tag s) := by
  refine State.on_spares ?_
  split
  · exact next_spares rfl
  · exact next_spares (by simp)

theorem execJobTimeout_larkspur (d : Fin 2) (q : Fin 64) (tag : Word) (s : State) :
    Spares .larkspur s (execJobTimeout d q tag s) := by
  refine State.on_spares ?_
  split
  · exact next_spares rfl
  · exact next_spares (by simp)

theorem execQueueAbort_larkspur (d : Fin 2) (q : Fin 64) (rest : List (Word × Bool)) (b : Bool) (s : State) :
    Spares .larkspur s (execQueueAbort d q rest b s) := by
  refine State.on_spares ?_
  split
  · exact next_spares rfl
  · split
    · exact next_spares (State.tackOwned_larkspur ..)
    · split
      · exact next_spares (State.set_apart ..)
      · refine next_spares ?_
        simp only [State.dieRun_larkspur, State.showQueue_larkspur, State.clear_eq, State.set_apart, State.abortUnfetched_larkspur]
        refine (forL_apart _ fun c t => t.complete_larkspur ..).trans ?_
        exact (State.setQueue_larkspur ..).trans (forL_apart s fun j t => t.jobEnd_larkspur j _)

theorem execCompletionDoorbell_larkspur (d : Fin 2) (q : Fin 64) (v : Word) (b : Bool) (s : State) :
    Spares .larkspur s (execCompletionDoorbell d q v b s) := by
  refine State.on_spares ?_
  repeat' split
  all_goals exact next_spares (by simp)

theorem execSubmissionDoorbell_larkspur (d : Fin 2) (q : Fin 64) (v : Word) (b fails : Bool) (s : State) :
    Spares .larkspur s (execSubmissionDoorbell d q v b fails s) := by
  refine State.on_spares ?_
  dsimp only
  repeat' split
  all_goals exact next_spares (by simp)

theorem execTierStart_larkspur (d ch : Fin 2) (b : Bool) (s : State) : Spares .larkspur s (execTierStart d ch b s) := by
  refine State.on_spares ?_
  repeat' split
  all_goals exact next_spares (by simp)

theorem execTierAbort_larkspur (d ch : Fin 2) (b : Bool) (s : State) : Spares .larkspur s (execTierAbort d ch b s) := by
  refine State.on_spares ?_
  repeat' split
  all_goals exact next_spares (by simp)

theorem execTierCopyComplete_larkspur (d ch : Fin 2) (again : Bool) (s : State) :
    Spares .larkspur s (execTierCopyComplete d ch again s) := by
  refine State.on_spares ?_
  dsimp only
  split
  · exact next_spares rfl
  · split
    · exact next_spares (by simp)
    · refine next_spares ?_
      simp only [apart_ite, State.tierShow_larkspur, forL_apart _ fun k u => State.memLose_larkspur u _ _, State.set_apart,
        State.memCopy_larkspur, State.setTier_larkspur, ite_self]

theorem execTrainingBurstStart_larkspur (s : State) : Spares .larkspur s (execTrainingBurstStart s) := by
  refine State.on_spares ?_
  split
  · exact next_spares rfl
  · exact next_spares (by simp)

theorem execPromote_larkspur (s : State) : Spares .larkspur s (execPromote s) :=
  State.on_spares (next_spares s.promote_larkspur)

theorem execRevert_larkspur (s : State) : Spares .larkspur s (execRevert s) :=
  State.on_spares (next_spares s.revert_larkspur)

theorem execExport_larkspur (s : State) : Spares .larkspur s (execExport s) :=
  State.on_spares (next_spares (by simp))

theorem execInstall_larkspur (s : State) : Spares .larkspur s (execInstall s) :=
  State.on_spares (next_spares (by simp))

theorem execCandidateJudged_larkspur (i : JudgeIn) (s : State) : Spares .larkspur s (execCandidateJudged i s) := by
  refine State.on_spares ?_
  split
  · exact next_spares rfl
  · refine next_spares ?_
    cases i.body <;> simp

theorem execWeightExportComplete_larkspur (s : State) : Spares .larkspur s (execWeightExportComplete s) := by
  refine State.on_spares ?_
  dsimp only
  split
  · exact next_spares rfl
  · exact next_spares (by simp)

theorem execFleetRoundStart_larkspur (own : List Word) (count : Fin 513) (s : State) :
    Spares .larkspur s (execFleetRoundStart own count s) := by
  refine State.on_spares ?_
  dsimp only
  split
  · exact next_spares (State.showFleet_larkspur s)
  · exact next_spares (by simp)

theorem execBulkFrameReceived_larkspur (i : BulkIn) (s : State) : Spares .larkspur s (execBulkFrameReceived i s) := by
  refine State.on_spares ?_
  dsimp only
  repeat' split
  all_goals exact next_spares (by simp)

/-- A path that may send in the window sends. -/
theorem bulkSends_larkspur (n : Nat) (s : State) :
    (forN 2 (fun k t => if bitOf (t.get FAB_BULK_CFG_PATHS) k && t.canSend k then State.bulkSend k t.fab.bulk n t else t) s).apart
      .larkspur = s.apart .larkspur :=
  forN_apart s fun k t => by simp only [apart_ite, State.bulkSend_larkspur, ite_self]

theorem execBulkWindow_larkspur (s : State) : Spares .larkspur s (execBulkWindow s) := by
  refine State.on_spares ?_
  dsimp only
  split
  · refine next_spares ((onlyIf_apart _ fun t => t.raiseBit_apart _ _).trans ?_)
    rw [State.setFleet_larkspur, State.showFleet_larkspur]
  · repeat' split
    all_goals exact next_spares (by simp only [bulkSends_larkspur, State.fleetClose_larkspur, State.fleetTurn_larkspur,
      State.showFleet_larkspur])

theorem execTranscendental_larkspur (a : ThrNo) (f : TransFn) (src dst : Fin 256) (s : State) :
    Spares .larkspur s (execTranscendental a f src dst s) := by
  refine State.on_spares ?_
  split <;> exact next_spares rfl

theorem execLksWakeLatchClear_larkspur (b : Fin 15) (s : State) : Spares .larkspur s (execLksWakeLatchClear b s) := by
  refine State.on_spares ?_
  split <;> exact next_spares rfl

/-! #### Accesses -/

section
variable {p : Parts} (hc : p.clk = true) (hl : p.lks = true)
include hc hl

/-- An access leaves what its serving leaves, but for the wake that it may need and its wait. -/
theorem State.accessed_apart (s : State) (b : Bool) (x : HostAcc) (hx : ∀ t : State, (t.served x).apart p = t.apart p) :
    (s.accessed b x).apart p = s.apart p := by
  have harrive (t : State) : (t.arrive x).apart p = t.apart p := by
    unfold State.arrive
    simp only [apart_ite, clk_apart hc, hx, ite_self]
  have hup (link : Link) : ({ s with pcie := { s.pcie with link := link } }.showWakeN).apart p = s.apart p := rfl
  unfold State.accessed
  simp only [apart_ite, harrive, State.wakeBy_apart hc hl, hup, ite_self]

end

theorem execBar2Access_larkspur (off : Nat) (n : Fin 65) (data : Option (List Byte)) (s : State) :
    Spares .larkspur s (execBar2Access off n data s) :=
  State.on_spares (next_spares (State.accessed_apart rfl rfl s _ _ fun t => t.bar2_larkspur ..))

/-- What a read may change: in Deep-sleep it wakes the module. -/
abbrev Parts.reading : Parts := { clk := true, lks := true, latches := true }

theorem State.readAs_apart {p : Parts} (hp : p.latches = true) (s : State) (who a : Nat) :
    (s.readAs who a).2.apart p = s.apart p := by
  unfold State.readAs
  dsimp only
  repeat' split
  all_goals simp [State.apart, hp]

theorem State.regRead_apart {p : Parts} (hp : p.latches = true) (s : State) (who a be : Nat) :
    (s.regRead who a be).apart p = s.apart p := by
  unfold State.regRead
  rw [State.emit_apart]
  split
  · exact State.readAs_apart hp s who _
  · rfl

theorem execLowWordRead_reading (who : Fin 256) (a : Fin 67108864) (be : Fin 16) (s : State) :
    Spares .reading s (execLowWordRead who a be s) :=
  State.on_spares (next_spares (State.accessed_apart rfl rfl s _ _ fun t => State.regRead_apart rfl t ..))

end Sys2Proof.Machine


namespace Sys2Proof.Machine

/-! ### Recording, the journal, the estimator, reports and measurements -/

/-- What the recording commands may change. -/
abbrev Parts.recording : Parts := { clk := true, rmt := true, est := true, latches := true }

/-- An update of what the recording commands may change. -/
@[simp] theorem recording_apart (s : State) (regs : List (Nat × Word)) (pcie : Pcie) (sbg : Sbg) (mram : List (Nat × Byte))
    (out : List Out) (free : Nat) (clk : Clk) (rmt : Rmt) (est : Est) (latches : List (Nat × Nat × Word)) :
    State.apart .recording { s with
      regs := regs, pcie := pcie, sbg := sbg, mram := mram, out := out, free := free, clk := clk, rmt := rmt, est := est,
      latches := latches } = s.apart .recording := rfl

/-! #### The MRAM -/

@[simp] theorem State.wearGo_recording (s : State) : s.wearGo.apart .recording = s.apart .recording := by
  unfold State.wearGo
  split <;> rfl

@[simp] theorem State.jnlStart_recording (s : State) : s.jnlStart.apart .recording = s.apart .recording := by
  unfold State.jnlStart
  split <;> rfl

@[simp] theorem State.jnlTrigger_recording (s : State) (b : Nat) : (s.jnlTrigger b).apart .recording = s.apart .recording := by
  unfold State.jnlTrigger
  split <;> simp

@[simp] theorem State.showRing_recording (s : State) : s.showRing.apart .recording = s.apart .recording := by
  unfold State.showRing
  split <;> rfl

@[simp] theorem State.ringWrite_recording (s : State) (u : Nat) (l : List Byte) :
    (s.ringWrite u l).apart .recording = s.apart .recording := rfl

@[simp] theorem State.mramFailed_recording (s : State) (n : Nat) : (s.mramFailed n).apart .recording = s.apart .recording := rfl

theorem State.mramMiss_recording (s : State) (r : Rec) : (s.mramMiss r).apart .recording = s.apart .recording := by
  unfold State.mramMiss
  dsimp only
  split
  · rfl
  · simp

theorem State.mramRecord_recording (s : State) (r : Rec) : (s.mramRecord r).apart .recording = s.apart .recording := by
  unfold State.mramRecord
  dsimp only
  split <;> simp

theorem execMramRecordWrite_recording (b : Bool) (s : State) : Spares .recording s (execMramRecordWrite b s) := by
  refine State.on_spares ?_
  split
  · exact next_spares rfl
  · dsimp only
    repeat' split
    all_goals exact next_spares (by simp [State.mramMiss_recording, State.mramRecord_recording])

theorem execWearCopyPeriodic_recording (s : State) : Spares .recording s (execWearCopyPeriodic s) :=
  State.on_spares (next_spares (by
    unfold State.writeWear
    split <;> simp))

theorem execJournalPeriodic_recording (s : State) : Spares .recording s (execJournalPeriodic s) := by
  refine State.on_spares ?_
  split <;> exact next_spares (by simp)

theorem execWriteNow_recording (s : State) : Spares .recording s (execWriteNow s) :=
  State.on_spares (next_spares ((State.set_apart ..).trans (s.jnlTrigger_recording 6)))

/-! #### Snapshots, incidents and rings -/

theorem State.listReads_recording (s : State) (l k : Nat) : (s.listReads l k).2.apart .recording = s.apart .recording := by
  induction k with
  | zero => rfl
  | succ k ih => exact (State.readAs_apart rfl _ _ _).trans ih

theorem execSnapshotComplete_recording (l : Fin 16) (a b : Word) (s : State) :
    Spares .recording s (execSnapshotComplete l a b s) := by
  refine State.on_spares ?_
  split
  · exact next_spares rfl
  · refine next_spares ((State.raiseBit_apart ..).trans ((State.set_apart ..).trans ((State.showWakeN_apart _).trans ?_)))
    refine (forN_apart _ fun i t => t.toPath_apart i _).trans ?_
    rw [State.wrapReg_apart, recording_apart, State.listReads_recording]

theorem execSbgTrig_recording (l : Fin 16) (s : State) : Spares .recording s (execSbgTrig l s) :=
  State.on_spares (next_spares (by
    unfold State.trig
    split <;> simp))

theorem execMark_recording (s : State) : Spares .recording s (execMark s) :=
  State.on_spares (next_spares ((State.set_apart ..).trans (State.openIncident_apart s)))

theorem execIncidentClose_recording (s : State) : Spares .recording s (execIncidentClose s) :=
  State.on_spares (next_spares (by simp))

theorem execIncKeepWrite_recording (v : Fin 65536) (s : State) : Spares .recording s (execIncKeepWrite v s) :=
  State.on_spares (next_spares ((State.writeCb_apart _).trans (State.set_apart ..)))

@[simp] theorem State.gapOut_recording (s : State) (i : Nat) : (s.gapOut i).apart .recording = s.apart .recording := by
  unfold State.gapOut
  split
  · rfl
  · simp

@[simp] theorem State.holdEnd_recording (s : State) (r : Nat) : (s.holdEnd r).apart .recording = s.apart .recording := by
  unfold State.holdEnd
  split <;> simp

theorem execControlBlockPeriodic_recording (s : State) : Spares .recording s (execControlBlockPeriodic s) :=
  State.on_spares (next_spares s.writeCb_apart)

theorem execHostRingHoldEnd_recording (r : Fin 4) (s : State) : Spares .recording s (execHostRingHoldEnd r s) :=
  State.on_spares (next_spares (s.holdEnd_recording r))

theorem execGapRecordDue_recording (i : Fin 5) (s : State) : Spares .recording s (execGapRecordDue i s) := by
  refine State.on_spares ?_
  repeat' split
  all_goals exact next_spares (by simp)

@[simp] theorem State.tailWrite_recording (s : State) (r : Nat) (l : List Byte) :
    (s.tailWrite r l).apart .recording = s.apart .recording := rfl

@[simp] theorem State.padRec_recording (s : State) (n : Nat) : (s.padRec n).2.apart .recording = s.apart .recording := rfl

@[simp] theorem State.ringIrq_recording (s : State) (r k : Nat) : (s.ringIrq r k).apart .recording = s.apart .recording := by
  unfold State.ringIrq
  dsimp only
  repeat' split
  all_goals simp

theorem execHostRingRecordWrite_recording (r : Fin 4) (fail : Bool) (s : State) :
    Spares .recording s (execHostRingRecordWrite r fail s) := by
  refine State.on_spares ?_
  dsimp only
  split
  · exact next_spares rfl
  · split
    · exact next_spares rfl
    · split
      · exact next_spares (by simp)
      · refine next_spares ?_
        simp only [State.showWakeN_apart, State.showLevel_apart, apart_ite, State.raiseBit_apart, State.ringIrq_recording,
          State.tailWrite_recording, State.setPath_apart, State.padRec_recording, ite_self]

theorem execTelHeadWrite_recording (r : Fin 4) (v : Word) (s : State) : Spares .recording s (execTelHeadWrite r v s) :=
  State.on_spares (next_spares (by
    unfold State.headWrite
    simp only [apart_ite, State.raiseBit_apart, State.holdEnd_recording, State.showLevel_apart, State.set_apart, ite_self]))

/-! #### The estimator and the rest -/

@[simp] theorem State.setEs_recording (s : State) (x : Nat) (e : EstStr) :
    (s.setEs x e).apart .recording = s.apart .recording := rfl


@[simp] theorem State.showCell_recording (x k : Nat) (s : State) :
    (s.showCell x k).apart .recording = s.apart .recording :=
  (State.wr_apart ..).trans (State.wr_apart ..)

@[simp] theorem State.showStr_recording (s : State) (x : Nat) : (s.showStr x).apart .recording = s.apart .recording :=
  calc (s.showStr x).apart .recording
    _ = _ := (State.set_apart ..).trans ((State.set_apart ..).trans ((State.set_apart ..).trans (State.set_apart ..)))
    _ = _ := (State.wr64_apart ..).trans (State.set_apart ..)
    _ = _ := (State.wr_apart ..).trans ((State.wr_apart ..).trans (State.wr_apart ..))

@[simp] theorem State.showShelf_recording (s : State) : s.showShelf.apart .recording = s.apart .recording :=
  calc s.showShelf.apart .recording
    _ = _ := (State.wr_apart ..).trans (State.wr_apart ..)
    _ = _ := (State.set_apart ..).trans ((State.set_apart ..).trans (State.set_apart ..))

@[simp] theorem State.estNext_recording (s : State) (x : Nat) : (s.estNext x).apart .recording = s.apart .recording := rfl
@[simp] theorem State.takeReference_recording (s : State) (x : Nat) :
    (s.takeReference x).apart .recording = s.apart .recording := by
  unfold State.takeReference
  simp only [recording_apart, State.setI_eq, State.set_apart, State.setEs_recording]

theorem raiseIf_apart {p : Parts} (c : Bool) (f : Field) (v : Nat) (s : State) :
    (if c then s.raiseBit f v else s).apart p = s.apart p := by
  split
  · exact s.raiseBit_apart f v
  · rfl

@[simp] theorem State.estCell_recording (old : State) (x k : Nat) (s : State) :
    (State.estCell old x k s).apart .recording = s.apart .recording := by
  unfold State.estCell
  split
  · rfl
  · rw [raiseIf_apart, raiseIf_apart, raiseIf_apart, State.setB_eq, State.set_apart, State.setEs_recording]

@[simp] theorem State.restAverage_recording (s : State) (x : Nat) :
    (s.restAverage x).apart .recording = s.apart .recording := by
  unfold State.restAverage
  split <;> rfl

@[simp] theorem State.restRelease_recording (s : State) : s.restRelease.apart .recording = s.apart .recording := by
  unfold State.restRelease
  simp only [State.clear_eq, State.set_apart, recording_apart]
  split
  · rfl
  · exact forL_apart _ fun n t => t.set_apart _ _

theorem State.estRun_recording (s : State) (x : Nat) : (s.estRun x).apart .recording = s.apart .recording := by
  refine (State.set_apart ..).trans ((State.showShelf_recording _).trans ((State.showStr_recording ..).trans ?_))
  refine (forN_apart _ fun k t => t.showCell_recording x k).trans ?_
  rw [State.estNext_recording, State.restAverage_recording]
  exact (forN_apart _ fun k t => State.estCell_recording _ x k t).trans (State.setEs_recording ..)

theorem execEstimatorRun_recording (x : StrNo) (s : State) : Spares .recording s (execEstimatorRun x s) := by
  refine State.on_spares ?_
  split
  · exact next_spares (State.estRun_recording s x)
  · exact next_spares rfl

theorem execRestNow_recording (s : State) : Spares .recording s (execRestNow s) := State.on_spares (next_spares rfl)

theorem execRestAverageStart_recording (s : State) : Spares .recording s (execRestAverageStart s) := by
  refine State.on_spares ?_
  split <;> exact next_spares rfl

theorem execRestReference_recording (s : State) : Spares .recording s (execRestReference s) := by
  refine State.on_spares ?_
  split
  · exact next_spares rfl
  · refine next_spares ?_
    rw [State.jnlTrigger_recording, State.showShelf_recording, State.showStr_recording]
    refine (forN_apart _ fun k t => t.showCell_recording _ k).trans ?_
    rw [State.raiseBit_apart, State.set_apart, State.restRelease_recording, State.takeReference_recording]

/-! #### Reports and measurements -/

theorem execAttestationRequest_recording (s : State) : Spares .recording s (execAttestationRequest s) :=
  State.on_spares (next_spares (by
    unfold State.attRequest
    split <;> rfl))

theorem execAttestationReportDone_recording (s : State) : Spares .recording s (execAttestationReportDone s) := by
  refine State.on_spares ?_
  split
  · exact next_spares rfl
  · refine next_spares ((State.raiseBit_apart ..).trans ((State.set_apart ..).trans ?_))
    exact (forN_apart _ fun i t => t.wr_apart _ _).trans rfl

theorem execFmeasStart_recording (dut ref : Fin 16) (s : State) : Spares .recording s (execFmeasStart dut ref s) :=
  State.on_spares (next_spares (by
    unfold State.fmeasStart
    dsimp only
    split <;> simp))

theorem execFmeasDone_recording (n : Nat) (s : State) : Spares .recording s (execFmeasDone n s) := by
  refine State.on_spares ?_
  split
  · exact next_spares rfl
  · exact next_spares (by simp)

theorem execRunClearExpiry_recording (g : GrpNo) (s : State) : Spares .recording s (execRunClearExpiry g s) := by
  refine State.on_spares ?_
  split <;> exact next_spares rfl

end Sys2Proof.Machine


namespace Sys2Proof.Machine

/-! ### The three groups of commands -/

/-- What two states share that differ in the parts given alone. -/
theorem same_of_apart {p : Parts} {s t : State} {α : Type} (h : t.apart p = s.apart p) (f : State → α) :
    f (t.apart p) = f (s.apart p) := congrArg f h

/-- WAKE_N aside, the pins are as they were. -/
theorem pins_of_apart {p : Parts} {s t : State} (h : t.apart p = s.apart p) :
    { t.pins with wakeN := s.pins.wakeN } = s.pins :=
  same_of_apart h fun u => { u.pins with wakeN := s.pins.wakeN }

theorem larkspur_leaves {s t : State} (h : t.apart .larkspur = s.apart .larkspur) :
    t.hrn = s.hrn ∧ t.rein = s.rein ∧ t.ring = s.ring ∧ t.est = s.est ∧ t.meas = s.meas ∧ t.brd = s.brd ∧ t.boot = s.boot
      ∧ t.rmt = s.rmt ∧ t.latches = s.latches ∧ t.time = s.time :=
  ⟨same_of_apart h State.hrn, same_of_apart h State.rein, same_of_apart h State.ring, same_of_apart h State.est, same_of_apart h State.meas,
    same_of_apart h State.brd, same_of_apart h State.boot, same_of_apart h State.rmt, same_of_apart h State.latches, same_of_apart h State.time⟩

theorem recording_leaves {s t : State} (h : t.apart .recording = s.apart .recording) :
    { t.pins with wakeN := s.pins.wakeN } = s.pins ∧ t.hrn = s.hrn ∧ t.rein = s.rein ∧ t.ring = s.ring ∧ t.brd = s.brd ∧
      t.lks = s.lks ∧ t.fab = s.fab ∧ t.fcst = s.fcst ∧ t.mem = s.mem :=
  ⟨pins_of_apart h, same_of_apart h State.hrn, same_of_apart h State.rein, same_of_apart h State.ring, same_of_apart h State.brd,
    same_of_apart h State.lks, same_of_apart h State.fab, same_of_apart h State.fcst, same_of_apart h State.mem⟩

theorem State.regRead_pins (s : State) (who a be : Nat) : (s.regRead who a be).pins = s.pins := by
  unfold State.regRead State.readAs
  dsimp only
  repeat' split
  all_goals rfl

/-- A read of a module that is awake leaves the pins and Larkspur, whether it waits for a relock or not. -/
theorem execLowWordRead_awake {s t : State} {who : Fin 256} {a : Fin 67108864} {be : Fin 16}
    (h : execLowWordRead who a be s = .next t) (ha : s.asleep = false) : t.pins = s.pins ∧ t.lks = s.lks := by
  cases hp : s.pins.powered with
  | false =>
    rw [execLowWordRead, State.on_unpowered _ hp] at h
    injection h with h
    exact h ▸ ⟨rfl, rfl⟩
  | true =>
    rw [execLowWordRead, State.on_powered _ hp] at h
    injection h with h
    subst h
    cases hr : s.relock with
    | true => rw [accessed_of_relock _ _ ha hr]; exact ⟨rfl, rfl⟩
    | false =>
      rw [accessed_eq_served false ha hr (meetsMove_read ..)]
      exact ⟨s.regRead_pins .., same_of_apart (State.regRead_apart (p := { latches := true }) rfl s who a be) State.lks⟩

theorem execLowWordRead_leaves {s t : State} {who : Fin 256} {a : Fin 67108864} {be : Fin 16}
    (h : execLowWordRead who a be s = .next t) :
    { t.pins with wakeN := s.pins.wakeN } = s.pins ∧ (s.asleep = false → t.pins = s.pins ∧ t.lks = s.lks) ∧ t.hrn = s.hrn
      ∧ t.rein = s.rein ∧ t.ring = s.ring ∧ t.brd = s.brd ∧ t.fab = s.fab ∧ t.fcst = s.fcst ∧ t.mem = s.mem ∧ t.rmt = s.rmt
      ∧ t.est = s.est ∧ t.boot = s.boot := by
  have hk := (execLowWordRead_reading who a be s).next h
  exact ⟨pins_of_apart hk, execLowWordRead_awake h, same_of_apart hk State.hrn, same_of_apart hk State.rein, same_of_apart hk State.ring,
    same_of_apart hk State.brd, same_of_apart hk State.fab, same_of_apart hk State.fcst, same_of_apart hk State.mem, same_of_apart hk State.rmt,
    same_of_apart hk State.est, same_of_apart hk State.boot⟩

/-- Settles O60, by what the commands of each group leave alone. -/
theorem commandsLeaveOtherBlocksAlone : Obligations.CommandsLeaveOtherBlocksAlone := by
  intro c s t h
  cases c with
  | coreWakeComplete d c => exact larkspur_leaves ((execCoreWakeComplete_larkspur d c s).next h)
  | coreDrainComplete d c => exact larkspur_leaves ((execCoreDrainComplete_larkspur d c s).next h)
  | coreIdleTimeout d c => exact larkspur_leaves ((execCoreIdleTimeout_larkspur d c s).next h)
  | hostCoreSuspend d => exact larkspur_leaves ((execHostCoreSuspend_larkspur d s).next h)
  | hostCoreResume d => exact larkspur_leaves ((execHostCoreResume_larkspur d s).next h)
  | powerCapTick d power env => exact larkspur_leaves ((execPowerCapTick_larkspur d power env s).next h)
  | launch d q c => exact larkspur_leaves ((fetched_spares d q 1 c s).next h)
  | barrier d q c => exact larkspur_leaves ((fetched_spares d q 2 c s).next h)
  | wake d q c => exact larkspur_leaves ((fetched_spares d q 3 c s).next h)
  | sleep d q c => exact larkspur_leaves ((fetched_spares d q 4 c s).next h)
  | nop d q c => exact larkspur_leaves ((fetched_spares d q 5 c s).next h)
  | badCommand d q op c => exact larkspur_leaves ((execBadCommand_larkspur d q op c s).next h)
  | jobDispatch d q => exact larkspur_leaves ((execJobDispatch_larkspur d q s).next h)
  | jobEnd d q tag => exact larkspur_leaves ((execJobEnd_larkspur d q tag s).next h)
  | jobTimeout d q tag => exact larkspur_leaves ((execJobTimeout_larkspur d q tag s).next h)
  | queueAbort d q rest b => exact larkspur_leaves ((execQueueAbort_larkspur d q rest b s).next h)
  | completionDoorbell d q v b => exact larkspur_leaves ((execCompletionDoorbell_larkspur d q v b s).next h)
  | submissionDoorbell d q v b f => exact larkspur_leaves ((execSubmissionDoorbell_larkspur d q v b f s).next h)
  | tierStart d ch b => exact larkspur_leaves ((execTierStart_larkspur d ch b s).next h)
  | tierAbort d ch b => exact larkspur_leaves ((execTierAbort_larkspur d ch b s).next h)
  | tierCopyComplete d ch again => exact larkspur_leaves ((execTierCopyComplete_larkspur d ch again s).next h)
  | bar2Access off n data => exact larkspur_leaves ((execBar2Access_larkspur off n data s).next h)
  | exportWeights => exact larkspur_leaves ((execExport_larkspur s).next h)
  | install => exact larkspur_leaves ((execInstall_larkspur s).next h)
  | weightExportComplete => exact larkspur_leaves ((execWeightExportComplete_larkspur s).next h)
  | promote => exact larkspur_leaves ((execPromote_larkspur s).next h)
  | revert => exact larkspur_leaves ((execRevert_larkspur s).next h)
  | trainingBurstStart => exact larkspur_leaves ((execTrainingBurstStart_larkspur s).next h)
  | candidateJudged i => exact larkspur_leaves ((execCandidateJudged_larkspur i s).next h)
  | fleetRoundStart own count => exact larkspur_leaves ((execFleetRoundStart_larkspur own count s).next h)
  | bulkFrameReceived i => exact larkspur_leaves ((execBulkFrameReceived_larkspur i s).next h)
  | bulkWindow => exact larkspur_leaves ((execBulkWindow_larkspur s).next h)
  | transcendental a f src dst => exact larkspur_leaves ((execTranscendental_larkspur a f src dst s).next h)
  | memoryFence a scope => exact larkspur_leaves ((State.on_spares (next_spares rfl) : Spares _ s (execMemoryFence a scope s)).next h)
  | lksWakeLatchClear b => exact larkspur_leaves ((execLksWakeLatchClear_larkspur b s).next h)
  | snapshotComplete l a b => exact recording_leaves ((execSnapshotComplete_recording l a b s).next h)
  | sbgTrig l => exact recording_leaves ((execSbgTrig_recording l s).next h)
  | mark => exact recording_leaves ((execMark_recording s).next h)
  | incidentClose => exact recording_leaves ((execIncidentClose_recording s).next h)
  | incKeepWrite v => exact recording_leaves ((execIncKeepWrite_recording v s).next h)
  | controlBlockPeriodic => exact recording_leaves ((execControlBlockPeriodic_recording s).next h)
  | gapRecordDue i => exact recording_leaves ((execGapRecordDue_recording i s).next h)
  | hostRingRecordWrite r fail => exact recording_leaves ((execHostRingRecordWrite_recording r fail s).next h)
  | hostRingHoldEnd r => exact recording_leaves ((execHostRingHoldEnd_recording r s).next h)
  | telHeadWrite r v => exact recording_leaves ((execTelHeadWrite_recording r v s).next h)
  | mramRecordWrite b => exact recording_leaves ((execMramRecordWrite_recording b s).next h)
  | wearCopyPeriodic => exact recording_leaves ((execWearCopyPeriodic_recording s).next h)
  | journalPeriodic => exact recording_leaves ((execJournalPeriodic_recording s).next h)
  | writeNow => exact recording_leaves ((execWriteNow_recording s).next h)
  | restNow => exact recording_leaves ((execRestNow_recording s).next h)
  | estimatorRun x => exact recording_leaves ((execEstimatorRun_recording x s).next h)
  | restReference => exact recording_leaves ((execRestReference_recording s).next h)
  | restAverageStart => exact recording_leaves ((execRestAverageStart_recording s).next h)
  | attestationRequest => exact recording_leaves ((execAttestationRequest_recording s).next h)
  | attestationReportDone => exact recording_leaves ((execAttestationReportDone_recording s).next h)
  | fmeasStart dut ref => exact recording_leaves ((execFmeasStart_recording dut ref s).next h)
  | fmeasDone n => exact recording_leaves ((execFmeasDone_recording n s).next h)
  | runClearExpiry g => exact recording_leaves ((execRunClearExpiry_recording g s).next h)
  | lowWordRead who a be => exact execLowWordRead_leaves h
  | _ => trivial

end Sys2Proof.Machine


namespace Sys2Proof.Machine

/-! ### What protection and recovery show of the state -/

/-- The fields that the statements about L1, the contactors and the recovery read, but for a channel's FORCE_SHED. -/
def seenFields : List Field :=
  [SYS_SHELF_STATE_STATE, BOOT_STATUS_BUNDLE, BOOT_STATUS_ERR_CODE, SEC_SVN_LOADED_SVN, ⟨REIN_L1_LIMIT, 0, 32⟩, BRD_LAST_CODE,
    BRD_STATUS_RECOV, BRD_STATUS_FORCING, BRD_STATUS_WDT_RUN, BRD_STATUS_SS_USED]

/-- A field that is seen. -/
abbrev Shown (f : Field) : Prop := f ∈ seenFields ∨ ∃ n : Fin 104, f = HRN_CH_CTRL_FORCE_SHED n

/-- What the statements about L1, the contactors and the recovery read of the state: the shelf's and the recovery's registers, and
what Bridle, the boot sequence and L1 keep beside them. -/
structure Seen where
  field : { f : Field // Shown f } → Nat
  pins : Pins
  boot : Boot
  fwRestart : Bool
  ssWindow : Bool
  ssOff : Bool
  isoLimitDue : Bool
  strOut : List Nat
  returning : List Nat
  causes : List (Nat × Nat)
  rotate : Nat
  carried : List (Nat × Nat)
  handover : Option Int

/-- What is seen of a state; WAKE_N, which every record moves, is not. -/
def State.seen (s : State) : Seen where
  field f := s.get f
  pins := { s.pins with wakeN := false }
  boot := s.boot
  fwRestart := s.brd.fwRestart
  ssWindow := s.brd.ssWindow
  ssOff := s.brd.ssOff
  isoLimitDue := s.brd.isoLimitDue
  strOut := s.brd.strOut
  returning := s.brd.returning
  causes := s.brd.causes
  rotate := s.rein.rotate
  carried := s.rein.carried
  handover := s.rein.handover

/-- What is seen with another value in a field. -/
def Seen.put (x : Seen) (f : Field) (v : Nat) : Seen := { x with field := fun g => if g = f then v % 2 ^ f.w else x.field g }

/-- A register that holds no field that is seen. -/
abbrev Hidden (a : Nat) : Prop :=
  a ≠ 0x10 ∧ a ≠ 0x20000 ∧ a ≠ 0x20100 ∧ a ≠ 0x20004C ∧ a ≠ 0x500000 ∧ a ≠ 0x500008 ∧ (a % 0x100 ≠ 0 ∨ a < 0x100000 ∨ 0x106800 ≤ a)

/-- A field apart from every field that is seen. -/
abbrev Field.Hidden (f : Field) : Prop :=
  (∀ g ∈ seenFields, f.addr ≠ g.addr ∨ f.lo + f.w ≤ g.lo ∨ g.lo + g.w ≤ f.lo) ∧
    (f.addr % 0x100 ≠ 0 ∨ f.addr < 0x100000 ∨ 0x106800 ≤ f.addr)

theorem Hidden.ne {a : Nat} {g : Field} (h : Hidden a) (hg : Shown g) : a ≠ g.addr := by
  obtain ⟨hshelf, hboot, hsvn, hlimit, hbrd, hlast, hch⟩ := h
  rcases hg with hg | ⟨n, rfl⟩
  · simp only [seenFields, List.mem_cons, List.not_mem_nil, or_false] at hg
    rcases hg with rfl | rfl | rfl | rfl | rfl | rfl | rfl | rfl | rfl | rfl <;> assumption
  · show a ≠ 0x100000 + 0x100 * n.val
    omega

theorem Hidden.field {f : Field} (h : Hidden f.addr) : f.Hidden :=
  ⟨fun _ hg => .inl (h.ne (.inl hg)), h.2.2.2.2.2.2⟩

theorem Field.Hidden.apart {f g : Field} (h : f.Hidden) (hg : Shown g) : f.apart g := by
  obtain ⟨hf, hch⟩ := h
  rcases hg with hg | ⟨n, rfl⟩
  · exact hf g hg
  · left
    show f.addr ≠ 0x100000 + 0x100 * n.val
    omega

/-- The fields that are seen share no bit. -/
theorem Shown.apart {f g : Field} (hf : Shown f) (hg : Shown g) (hne : g ≠ f) : f.apart g := by
  have hlist : ∀ f ∈ seenFields, ∀ g ∈ seenFields, g ≠ f → f.addr ≠ g.addr ∨ f.lo + f.w ≤ g.lo ∨ g.lo + g.w ≤ f.lo := by decide
  have hlow : ∀ f ∈ seenFields, f.addr < 0x100000 ∨ 0x106800 ≤ f.addr := by decide
  rcases hf with hf | ⟨n, rfl⟩ <;> rcases hg with hg | ⟨m, rfl⟩
  · exact hlist f hf g hg hne
  · left
    have := hlow f hf
    show f.addr ≠ 0x100000 + 0x100 * m.val
    omega
  · left
    have := hlow g hg
    show 0x100000 + 0x100 * n.val ≠ g.addr
    omega
  · left
    show 0x100000 + 0x100 * n.val ≠ 0x100000 + 0x100 * m.val
    intro h
    exact hne (by rw [show m = n from Fin.ext (by omega)])

theorem Shown.fits {f : Field} (hf : Shown f) : f.lo + f.w ≤ 32 := by
  have hlist : ∀ f ∈ seenFields, f.lo + f.w ≤ 32 := by decide
  rcases hf with hf | ⟨n, rfl⟩
  · exact hlist f hf
  · exact (by decide : 4 + 1 ≤ 32)

theorem State.wr_seen (s : State) {a : Nat} (v : Word) (h : Hidden a) : (s.wr a v).seen = s.seen := by
  have hget : ∀ f : { f : Field // Shown f }, (s.wr a v).get f = s.get f := fun f => s.get_wr_ne v (h.ne f.2).symm
  unfold State.seen
  simp only [hget, State.wr_pins, State.wr_boot, State.wr_brd, State.wr_rein]

theorem State.set_seen (s : State) {f : Field} (v : Nat) (h : f.Hidden) : (s.set f v).seen = s.seen := by
  have hget : ∀ g : { f : Field // Shown f }, (s.set f v).get g = s.get g := fun g => s.get_set_apart f g v (h.apart g.2)
  unfold State.seen
  simp only [hget, State.set_pins, State.set_boot, State.set_brd, State.set_rein]

theorem State.put_seen (s : State) {f : Field} (v : Nat) (hf : Shown f) : (s.set f v).seen = s.seen.put f v := by
  have hget : ∀ g : { f : Field // Shown f }, (s.set f v).get g = if g = f then v % 2 ^ f.w else s.get g := by
    intro g
    split
    next h =>
      rw [h]
      exact s.get_set_same f v hf.fits
    next h => exact s.get_set_apart f g v (hf.apart g.2 h)
  unfold State.seen Seen.put
  simp only [hget, State.set_pins, State.set_boot, State.set_brd, State.set_rein]

/-- What a state reads in a field that is seen. -/
theorem State.get_of_seen {s : State} {x : Seen} {f : Field} (h : s.seen = x) (hf : Shown f) : s.get f = x.field ⟨f, hf⟩ :=
  congrArg (fun y => y.field ⟨f, hf⟩) h

/-- What is not seen of the state changes. -/
theorem aside_seen (s : State) (pcie : Pcie) (clk : Clk) (hrn : Hrn) (meas : Meas) (rmt : Rmt) (fcst : Fcst) (ring : Ring) (est : Est)
    (fab : Fab) (lks : Lks) (sbg : Sbg) (mram mem : List (Nat × Byte)) (latches : List (Nat × Nat × Word)) (out : List Out) (free : Nat) :
    State.seen { s with
      pcie := pcie, clk := clk, hrn := hrn, meas := meas, rmt := rmt, fcst := fcst, ring := ring, est := est, fab := fab, lks := lks,
      sbg := sbg, mram := mram, mem := mem, latches := latches, out := out, free := free } = s.seen := rfl

@[simp] theorem seen_ite {c : Prop} [Decidable c] (s t : State) : (if c then s else t).seen = if c then s.seen else t.seen :=
  apply_ite _ _ _ _

/-- Two ways that both leave what is seen. -/
theorem seen_ite_of {c : Prop} [Decidable c] {s t : State} {r : Seen} (hs : s.seen = r) (ht : t.seen = r) :
    (if c then s else t).seen = r := by
  split <;> assumption

theorem forL_seen {α : Type} {l : List α} {f : α → State → State} (s : State) (hf : ∀ x ∈ l, ∀ t, (f x t).seen = t.seen) :
    (forL l f s).seen = s.seen := by
  unfold forL
  induction l generalizing s with
  | nil => rfl
  | cons x l ih => exact (ih _ fun y hy => hf y (List.mem_cons_of_mem x hy)).trans (hf x List.mem_cons_self s)

theorem forN_seen {n : Nat} {f : Nat → State → State} (s : State) (hf : ∀ i < n, ∀ t, (f i t).seen = t.seen) :
    (forN n f s).seen = s.seen := forL_seen s fun i hi => hf i (List.mem_range.1 hi)

theorem State.bumpSat_seen (s : State) {f : Field} (n : Nat) (h : f.Hidden) : (s.bumpSat f n).seen = s.seen := s.set_seen _ h

@[simp] theorem State.msix_seen (s : State) (v : Nat) : (s.msix v).seen = s.seen := by
  unfold State.msix
  repeat' split
  all_goals rfl

theorem State.raiseBit_seen (s : State) {f : Field} (v : Nat) (h : f.Hidden) : (s.raiseBit f v).seen = s.seen :=
  seen_ite_of rfl ((State.msix_seen _ v).trans (s.set_seen 1 h))

/-! #### The recorder -/

@[simp] theorem State.writeCb_seen (s : State) : s.writeCb.seen = s.seen := by
  unfold State.writeCb
  repeat' split
  all_goals rfl

theorem hidden_of_le {a : Nat} (h : 0x580000 ≤ a) : Hidden a := by omega

@[simp] theorem State.openIncident_seen (s : State) : s.openIncident.seen = s.seen := by
  unfold State.openIncident
  dsimp only
  refine seen_ite_of rfl ?_
  have hset : ∀ t : State, (t.set SBG_STATUS_INC_OPEN 1).seen = t.seen := fun t => t.set_seen 1 (by decide)
  split
  next =>
    rw [State.writeCb_seen, State.raiseBit_seen _ _ (by decide)]
    exact hset _
  next i _ =>
    have hslot : ∀ (t : State) (v : Word), (t.wr (SBG_INC_SLOT i) v).seen = t.seen :=
      fun t v => t.wr_seen v (hidden_of_le (by unfold SBG_INC_SLOT; omega))
    have hlo : ∀ (t : State) (v : Word), (t.wr (SBG_INC_TIME_LO i) v).seen = t.seen :=
      fun t v => t.wr_seen v (hidden_of_le (by unfold SBG_INC_TIME_LO; omega))
    have hhi : ∀ (t : State) (v : Word), (t.wr (SBG_INC_TIME_HI i) v).seen = t.seen :=
      fun t v => t.wr_seen v (hidden_of_le (by unfold SBG_INC_TIME_HI; omega))
    unfold State.wr64 State.wrN
    simp only [State.writeCb_seen, hhi, hlo, hslot, aside_seen, hset]

@[simp] theorem State.showLevel_seen (s : State) (i : Nat) : (s.showLevel i).seen = s.seen := by
  have hstatus : Hidden (TEL_R_STATUS (i - 1)) := hidden_of_le (by unfold TEL_R_STATUS; omega)
  refine seen_ite_of (s.set_seen _ (by decide)) ?_
  exact (State.set_seen _ _ (Hidden.field hstatus)).trans (s.set_seen _ (Hidden.field hstatus))

@[simp] theorem State.lose_seen (s : State) (i cause prio : Nat) (b : Bool) : (s.lose i cause prio b).seen = s.seen := by
  refine seen_ite_of (State.wr_seen _ _ (by decide)) (State.wr_seen _ _ (hidden_of_le ?_))
  unfold TEL_R_LOST
  omega

@[simp] theorem State.setPath_seen (s : State) (i : Nat) (q : TPath) : (s.setPath i q).seen = s.seen := rfl

@[simp] theorem State.enqueue_seen (s : State) (i : Nat) (r : Rec) (b : Bool) : (s.enqueue i r b).seen = s.seen := rfl

@[simp] theorem State.toPath_seen (s : State) (i : Nat) (r : Rec) : (s.toPath i r).seen = s.seen := by
  unfold State.toPath
  repeat' split
  all_goals simp

@[simp] theorem State.showWakeN_seen (s : State) : s.showWakeN.seen = s.seen := rfl

@[simp] theorem State.record_seen (s : State) (kind prio domain code key cls : Nat) (opens : Bool) (body : List Byte) :
    (s.record kind prio domain code key cls opens body).seen = s.seen := by
  have hseq : ∀ t : State, (t.wrapReg SBG_SEQ).seen = t.seen := fun t => t.wr_seen _ (by decide)
  unfold State.record
  dsimp only
  rw [State.showWakeN_seen, forN_seen _ fun i _ t => t.toPath_seen i _, hseq]
  exact seen_ite_of s.openIncident_seen rfl

@[simp] theorem State.verbose_seen (s : State) (src domain : Nat) : (s.verbose src domain).seen = s.seen :=
  seen_ite_of ((State.record_seen _ _ _ _ _ _ _ _ _).trans rfl) rfl

@[simp] theorem State.fireList_seen (s : State) (l : Nat) : (s.fireList l).seen = s.seen := by
  have hstatus : Hidden (SBG_LIST_STATUS l) := hidden_of_le (by unfold SBG_LIST_STATUS; omega)
  unfold State.fireList
  refine seen_ite_of (s.bumpSat_seen 1 (Hidden.field hstatus)) ?_
  refine (State.set_seen _ _ (Hidden.field hstatus)).trans ((State.set_seen _ _ (Hidden.field hstatus)).trans ?_)
  exact seen_ite_of s.openIncident_seen rfl

@[simp] theorem State.fireOnFault_seen (s : State) (code cls : Nat) : (s.fireOnFault code cls).seen = s.seen :=
  forN_seen s fun l _ t => seen_ite_of (t.fireList_seen l) (seen_ite_of (t.fireList_seen l) rfl)

@[simp] theorem State.fireOnState_seen (s : State) (st : Nat) : (s.fireOnState st).seen = s.seen :=
  forN_seen s fun l _ t => seen_ite_of (t.fireList_seen l) rfl

@[simp] theorem State.jnlStart_seen (s : State) : s.jnlStart.seen = s.seen :=
  seen_ite_of ((State.set_seen _ _ (by decide)).trans (State.set_seen _ _ (by decide))) rfl

@[simp] theorem State.jnlTrigger_seen (s : State) (bit : Nat) : (s.jnlTrigger bit).seen = s.seen :=
  seen_ite_of (s.bumpSat_seen 1 (by decide)) ((State.jnlStart_seen _).trans (State.set_seen _ _ (by decide)))

@[simp] theorem State.alarm_seen (s : State) (code cls : Nat) (detail : List Byte) : (s.alarm code cls detail).seen = s.seen :=
  (State.set_seen _ _ (by decide)).trans (seen_ite_of rfl rfl)

@[simp] theorem State.lfr_seen (s : State) (code grp : Nat) (involved : List Nat) : (s.lfr code grp involved).seen = s.seen :=
  seen_ite_of (s.bumpSat_seen 1 (by decide)) (State.set_seen _ _ (by decide))

@[simp] theorem State.fireWake_seen (s : State) (b : Nat) : (s.fireWake b).seen = s.seen := by
  have hset : (s.set ⟨PWR_WAKE_SRC, b, 1⟩ 1).seen = s.seen := s.set_seen 1 (Hidden.field (by decide : Hidden PWR_WAKE_SRC))
  exact seen_ite_of hset hset

/-! #### The shared operations of protection -/

theorem hidden_casStatus (c : Nat) : Hidden (REIN_CAS_STATUS c) := by
  unfold REIN_CAS_STATUS Hidden
  omega

@[simp] theorem State.tuneAbort_seen (s : State) (cause : Nat) : (s.tuneAbort cause).seen = s.seen := by
  have hcas : ∀ (t : State) (f : Field) (c v : Nat), f.addr = REIN_CAS_STATUS c → (t.set f v).seen = t.seen :=
    fun t f c v hf => t.set_seen v (Hidden.field (hf ▸ hidden_casStatus c))
  unfold State.tuneAbort
  split
  next => rfl
  next t _ =>
    refine (State.raiseBit_seen _ _ (by decide)).trans ((State.set_seen _ _ (by decide)).trans ((State.set_seen _ _ (by decide)).trans
      ((hcas _ _ t.cas _ rfl).trans ?_)))
    exact seen_ite_of (hcas _ _ t.cas _ rfl) rfl

end Sys2Proof.Machine


namespace Sys2Proof.Machine

/-! #### What is seen of a fault, an entry and an isolation -/

theorem Seen.put_put (x : Seen) (f : Field) (v w : Nat) : (x.put f v).put f w = x.put f w := by
  unfold Seen.put
  congr 1
  funext g
  simp only
  split <;> rfl

@[simp] theorem Seen.put_field (x : Seen) {f : Field} (v : Nat) (hf : Shown f) : (x.put f v).field ⟨f, hf⟩ = v % 2 ^ f.w := if_pos rfl

theorem State.put_self (s : State) (f : Field) : s.seen.put f (s.get f) = s.seen := by
  have hmod : s.get f % 2 ^ f.w = s.get f := Nat.mod_eq_of_lt (s.get_lt f)
  unfold Seen.put
  rw [hmod]
  unfold State.seen
  congr 1
  funext g
  simp only
  split
  next h => rw [h]
  · rfl

@[simp] theorem State.showWait_seen (s : State) : s.showWait.seen = s.seen := s.set_seen _ (by decide)

/-- Logging a fault shows its code. -/
@[simp] theorem State.logCode_seen (s : State) (code idx cls : Nat) (m t : Int) :
    (s.logCode code idx cls m t).seen = s.seen.put BRD_LAST_CODE code := by
  have hevt : (if cls = 0 then BRD_EVT_F0 else if cls = 1 then BRD_EVT_F1 else if cls = 2 then BRD_EVT_F2 else BRD_EVT_F3).Hidden := by
    repeat' split
    all_goals decide
  have hcount : ∀ u : State, (if cls = 2 then u.bumpSat BRD_COUNT_F2 1 else if cls = 3 then u.bumpSat BRD_COUNT_F3 1 else u).seen = u.seen :=
    fun u => seen_ite_of (u.bumpSat_seen 1 (by decide)) (seen_ite_of (u.bumpSat_seen 1 (by decide)) rfl)
  have hclass : ∀ (u : State) (v : Nat), (u.set BRD_LAST_CLASS v).seen = u.seen := fun u v => u.set_seen v (by decide)
  have hstate : ∀ (u : State) (v : Nat), (u.set BRD_LAST_STATE v).seen = u.seen := fun u v => u.set_seen v (by decide)
  unfold State.logCode
  dsimp only
  rw [State.fireOnFault_seen, seen_ite_of (State.alarm_seen _ _ _ _) rfl, State.record_seen, State.fireWake_seen, hcount,
    seen_ite_of (State.tuneAbort_seen _ _) rfl, seen_ite_of (State.lfr_seen _ _ _ _) rfl, hstate, hclass,
    State.put_seen _ _ (.inl (by decide)), State.raiseBit_seen _ _ hevt]

@[simp] theorem State.drvOff_seen (s : State) :
    s.drvOff.seen = { s.seen.put BRD_STATUS_FORCING 1 with pins := { s.seen.pins with drvEn := [false, false, false, false] } } :=
  State.put_seen _ 1 (.inl (by decide))

@[simp] theorem State.isoOff_seen (s : State) : s.isoOff.seen = { s.seen with pins := { s.seen.pins with isoEn := false } } := rfl

theorem hidden_chStatus (n : Nat) : Hidden (HRN_CH_STATUS n) := by
  unfold HRN_CH_STATUS Hidden
  omega

theorem hidden_grpStatus (g : Nat) : Hidden (HRN_GRP_STATUS g) := by
  unfold HRN_GRP_STATUS Hidden
  omega

@[simp] theorem State.setChState_seen (s : State) (n st : Nat) : (s.set (HRN_CH_STATUS_STATE n) st).seen = s.seen :=
  s.set_seen st (Hidden.field (hidden_chStatus n))

@[simp] theorem State.setGrpState_seen (s : State) (g st : Nat) : (s.set (HRN_GRP_STATUS_STATE g) st).seen = s.seen :=
  s.set_seen st (Hidden.field (hidden_grpStatus g))

@[simp] theorem State.chPark_seen (s : State) (n st : Nat) : (s.chPark n st).seen = s.seen := State.setChState_seen _ n st

@[simp] theorem State.showActive_seen (s : State) : s.showActive.seen = s.seen := by
  have hmask : ∀ (g v : Nat) (t : State), (t.set (HRN_GRP_STATUS_ACTIVE_MASK g) v).seen = t.seen :=
    fun g v t => t.set_seen v (Hidden.field (hidden_grpStatus g))
  exact (forN_seen _ fun g _ t => hmask g _ t).trans ((State.set_seen _ _ (by decide)).trans (s.set_seen _ (by decide)))

@[simp] theorem State.chansForced_seen (s : State) : s.chansForced.seen = s.seen :=
  (State.showActive_seen _).trans (forN_seen s fun n _ t => seen_ite_of (t.chPark_seen n _) (t.chPark_seen n _))

/-! ##### The cascades -/

/-- A field of a cascade's status is not seen. -/
@[simp] theorem State.setCas_seen (s : State) (c lo w v : Nat) : (s.set ⟨REIN_CAS_STATUS c, lo, w⟩ v).seen = s.seen :=
  s.set_seen v (Hidden.field (hidden_casStatus c))

/-- L1's and the tune's own fields change, beside those that are seen. -/
theorem rein_seen (s : State) (r : Rein) (hrot : r.rotate = s.rein.rotate) (hcar : r.carried = s.rein.carried)
    (hhand : r.handover = s.rein.handover) : State.seen { s with rein := r } = s.seen := by
  unfold State.seen
  simp only [hrot, hcar, hhand]
  rfl

@[simp] theorem State.casOff_seen (s : State) (c : Nat) : (s.casOff c).seen = s.seen :=
  (State.setCas_seen _ c _ _ 0).trans ((State.setCas_seen _ c _ _ 0).trans ((State.setCas_seen _ c _ _ 0).trans
    ((State.setCas_seen _ c _ _ 0).trans ((State.setCas_seen _ c _ _ 0).trans (rein_seen s _ rfl rfl rfl)))))

@[simp] theorem State.cascadesOff_seen (s : State) : s.cascadesOff.seen = { s.seen with carried := [], handover := none } := by
  have hout : ∀ (c : Nat) (t : State) (v : Word), (t.wr (REIN_CAS_OUT c) v).seen = t.seen :=
    fun c t v => t.wr_seen v (by unfold REIN_CAS_OUT Hidden; omega)
  have hbase : ∀ (c : Nat) (t : State) (v : Word), (t.wr (REIN_CAS_OUT_BASE c) v).seen = t.seen :=
    fun c t v => t.wr_seen v (by unfold REIN_CAS_OUT_BASE Hidden; omega)
  have hcas : ∀ t : State, (forN 8 (fun c t =>
      (((t.casOff c).wr (REIN_CAS_OUT c) 0).set (REIN_CAS_STATUS_ENABLE_PENDING c) 0).wr (REIN_CAS_OUT_BASE c) 0) t).seen = t.seen :=
    fun t => forN_seen t fun c _ u => (hbase c _ 0).trans ((State.setCas_seen _ c _ _ 0).trans ((hout c _ 0).trans (u.casOff_seen c)))
  have hshow : ∀ t : State, (((((t.set BRD_PENDING_CAS 0).wr REIN_CMD_TOT 0).wr REIN_CMD_STR 0).wr REIN_FF_NOW 0).wr REIN_UNSERVED 0).seen
      = t.seen :=
    fun t => (State.wr_seen _ _ (by decide)).trans ((State.wr_seen _ _ (by decide)).trans ((State.wr_seen _ _ (by decide)).trans
      ((State.wr_seen _ _ (by decide)).trans (t.set_seen 0 (by decide)))))
  have hend : ∀ t : State, State.seen { t with
      hrn := { t.hrn with strCmd := [0, 0], chans := t.hrn.chans.map fun c => { c with ref := 0 } }
      rein := { t.rein with restart := [], unserved := 0, carried := [], handover := none }
      brd := { t.brd with active := t.brd.active.filter (·.1 != 0x0310) } } = { t.seen with carried := [], handover := none } :=
    fun t => rfl
  unfold State.cascadesOff
  rw [hend, hshow, hcas]

@[simp] theorem State.quietOff_seen (s : State) : s.quietOff.seen = s.seen :=
  seen_ite_of ((State.tuneAbort_seen _ _).trans ((State.set_seen _ _ (by decide)).trans ((State.raiseBit_seen _ _ (by decide)).trans
    (State.set_seen _ _ (by decide))))) rfl

@[simp] theorem State.windowOff_seen (s : State) : s.windowOff.seen = s.seen :=
  (State.quietOff_seen _).trans ((State.set_seen _ _ (by decide)).trans ((State.set_seen _ _ (by decide)).trans
    ((State.set_seen _ _ (by decide)).trans (State.set_seen _ _ (by decide)))))

/-! ##### Entries -/

@[simp] theorem State.pendingOff_seen (s : State) : s.pendingOff.seen = s.seen := by
  have hctrl : ∀ g < 13, ∀ t : State, (t.set (HRN_GRP_CTRL_ENABLE g) 0).seen = t.seen := fun g hg t =>
    t.set_seen 0 (Hidden.field (by show Hidden (0x110000 + 0x100 * g); omega))
  exact (State.wr_seen _ _ (by decide)).trans ((State.set_seen _ _ (by decide)).trans
    (forN_seen s fun g hg t => seen_ite_of (hctrl g hg t) rfl))

/-- The entry of another state than ARMING and PASSIVE shows the state. -/
theorem State.enter_seen (s : State) {st : Nat} (harm : st ≠ stArming) (hpas : st ≠ stPassive) :
    (s.enter st).seen = s.seen.put SYS_SHELF_STATE_STATE st := by
  have harmed : ∀ t : State, (if st = stArmed then t.bumpSat SYS_SHELF_STATE_ARM_COUNT 1 else t).seen = t.seen :=
    fun t => seen_ite_of (t.bumpSat_seen 1 (by decide)) rfl
  have hpend : ∀ t : State, (if st = stIsolated ∨ st = stLatched then
      { t.pendingOff with hrn := { t.hrn with phHold := none, freshDue := true } } else t).seen = t.seen :=
    fun t => seen_ite_of t.pendingOff_seen rfl
  have hhold : ∀ t : State, (if st = stIsolated then t else t.set SYS_SHELF_STATE_CLK_HOLD 0).seen = t.seen :=
    fun t => seen_ite_of rfl (t.set_seen 0 (by decide))
  unfold State.enter
  by_cases h : s.shelf = st
  · rw [if_pos h, ← h]
    exact (s.put_self _).symm
  · rw [if_neg h]
    dsimp only
    rw [State.showWait_seen, if_neg hpas, if_neg harm, hhold, hpend, harmed, State.tuneAbort_seen, State.fireOnState_seen,
      State.record_seen, State.raiseBit_seen _ _ (by decide)]
    exact s.put_seen st (.inl (by decide))

theorem State.showDerate_seen (s : State) :
    s.showDerate.seen.put SYS_SHELF_STATE_STATE 0 = s.seen.put SYS_SHELF_STATE_STATE 0 := by
  have hset : ∀ b : Bool, (s.setB BRD_STATUS_DERATE b).seen = s.seen := fun b => s.set_seen _ (by decide)
  have henter : ∀ (b : Bool) (st : Nat), st ≠ stArming → st ≠ stPassive →
      ((s.setB BRD_STATUS_DERATE b).enter st).seen.put SYS_SHELF_STATE_STATE 0 = s.seen.put SYS_SHELF_STATE_STATE 0 := by
    intro b st harm hpas
    rw [State.enter_seen _ harm hpas, Seen.put_put, hset]
  unfold State.showDerate
  dsimp only
  split
  · exact henter _ stDerated (by decide) (by decide)
  · split
    · exact henter _ stArmed (by decide) (by decide)
    · rw [hset]

/-! ##### Isolation -/

@[simp] theorem State.checkHoldoff_seen (s : State) : s.checkHoldoff.seen = s.seen :=
  seen_ite_of rfl (seen_ite_of rfl (seen_ite_of rfl rfl))

@[simp] theorem State.openDue_seen (s : State) (xs : List Nat) : (s.openDue xs).seen = s.seen := seen_ite_of rfl rfl

@[simp] theorem State.showCauses_seen (s : State) : s.showCauses.seen = s.seen := by
  have hcause : ∀ i < 4, ∀ (v w : Nat) (t : State), ((t.set (BRD_CAUSE_EVEN i) v).set (BRD_CAUSE_ODD i) w).seen = t.seen := by
    intro i hi v w t
    have hid : Hidden (BRD_CAUSE i) := by
      unfold BRD_CAUSE Hidden
      omega
    exact (State.set_seen _ w (Hidden.field hid)).trans (t.set_seen v (Hidden.field hid))
  exact (State.set_seen _ _ (by decide)).trans ((State.set_seen _ _ (by decide)).trans (forN_seen s fun i hi t => hcause i hi _ _ t))

/-- What is seen after an isolation into a shelf state (R413). -/
def Seen.isolate (x : Seen) (st : Nat) : Seen :=
  { (x.put BRD_STATUS_FORCING 1).put SYS_SHELF_STATE_STATE st with
    pins := { x.pins with isoEn := false, drvEn := [false, false, false, false] }
    boot := { x.boot with armStep := 0, contRequested := false, disarming := false, disarmKept := x.boot.disarmKept || x.boot.disarming }
    ssWindow := false, ssOff := false, isoLimitDue := true, returning := [], carried := [], handover := none }

theorem State.isolate_seen (s : State) {code st : Nat} (cls : Nat) (xs : List Nat) (hov : code ≠ 0x0103) (harm : st ≠ stArming)
    (hpas : st ≠ stPassive) : (s.isolate code st cls xs).seen = s.seen.isolate st := by
  have hoff : s.drvOff.chansForced.isoOff.seen = { s.seen.put BRD_STATUS_FORCING 1 with
      pins := { s.seen.pins with isoEn := false, drvEn := [false, false, false, false] } } := by
    rw [State.isoOff_seen, State.chansForced_seen, State.drvOff_seen]
  have hkeep : ∀ t : State, State.seen { t with
      brd := { t.brd with ssWindow := false, ssOff := false, isoLimitDue := true, returning := [] }
      boot := { t.boot with
        armStep := 0, contRequested := false, disarming := false, disarmKept := t.boot.disarmKept || t.boot.disarming } } =
      { t.seen with
        boot := { t.seen.boot with
          armStep := 0, contRequested := false, disarming := false, disarmKept := t.seen.boot.disarmKept || t.seen.boot.disarming }
        ssWindow := false, ssOff := false, isoLimitDue := true, returning := [] } := fun t => rfl
  unfold State.isolate
  rw [if_neg hov]
  dsimp only
  rw [State.openDue_seen, seen_ite_of (State.jnlTrigger_seen _ _) rfl, State.enter_seen _ harm hpas, State.windowOff_seen,
    State.cascadesOff_seen, hkeep, hoff]
  rfl

/-- A latch isolates and ends the recovery (R412, R421). -/
theorem State.latch_seen (s : State) {code : Nat} (hov : code ≠ 0x0103) :
    (s.latch code).seen = (s.seen.isolate stLatched).put BRD_STATUS_RECOV 0 := by
  unfold State.latch
  rw [State.checkHoldoff_seen, State.put_seen _ 0 (.inl (by decide)), State.isolate_seen s 3 [0, 1] hov (by decide) (by decide)]

end Sys2Proof.Machine


namespace Sys2Proof.Machine

/-! #### Faults of class F0 -/

/-- What is seen but for the shelf state and the last code, which a fault of class F0 moves. -/
def State.calm (s : State) : Seen := (s.seen.put SYS_SHELF_STATE_STATE 0).put BRD_LAST_CODE 0

theorem calm_of_seen {s t : State} (h : t.seen = s.seen) : t.calm = s.calm := by
  unfold State.calm
  rw [h]

theorem Seen.put_comm (x : Seen) {f g : Field} (v w : Nat) (h : f ≠ g) : (x.put f v).put g w = (x.put g w).put f v := by
  unfold Seen.put
  congr 1
  funext k
  simp only
  split
  next hg => rw [if_neg (by rw [hg]; exact h.symm)]
  · rfl

theorem calm_of_shelfless {s t : State} (h : t.seen.put SYS_SHELF_STATE_STATE 0 = s.seen.put SYS_SHELF_STATE_STATE 0) :
    t.calm = s.calm := by
  unfold State.calm
  rw [h]

theorem calm_of_lastCode {s t : State} {v : Nat} (h : t.seen = s.seen.put BRD_LAST_CODE v) : t.calm = s.calm := by
  unfold State.calm
  rw [h, Seen.put_comm _ _ _ (by decide), Seen.put_put, Seen.put_comm _ _ _ (by decide)]

theorem calm_ite_of {c : Prop} [Decidable c] {s t u : State} (hs : s.calm = u.calm) (ht : t.calm = u.calm) :
    (if c then s else t).calm = u.calm := by
  split <;> assumption

theorem forL_calm {α : Type} {l : List α} {f : α → State → State} (s : State) (hf : ∀ x t, (f x t).calm = t.calm) :
    (forL l f s).calm = s.calm := by
  unfold forL
  induction l generalizing s with
  | nil => rfl
  | cons x l ih => exact (ih _).trans (hf x s)

theorem forN_calm {n : Nat} {f : Nat → State → State} (s : State) (hf : ∀ i t, (f i t).calm = t.calm) :
    (forN n f s).calm = s.calm := forL_calm s hf

theorem State.calm_field (s : State) {f : Field} (hf : Shown f) (hshelf : f ≠ SYS_SHELF_STATE_STATE) (hlast : f ≠ BRD_LAST_CODE) :
    s.calm.field ⟨f, hf⟩ = s.get f := by
  simp only [State.calm, Seen.put, if_neg hshelf, if_neg hlast]
  rfl

/-- What a calm change leaves of the fields that are seen. -/
theorem get_of_calm {s t : State} (h : t.calm = s.calm) {f : Field} (hf : Shown f) (hshelf : f ≠ SYS_SHELF_STATE_STATE)
    (hlast : f ≠ BRD_LAST_CODE) : t.get f = s.get f := by
  rw [← t.calm_field hf hshelf hlast, h, s.calm_field hf hshelf hlast]

theorem State.takeF0_calm (s : State) {code : Nat} (idx : Nat) (h8 : code ≠ 0x0408) (h9 : code ≠ 0x0409) :
    (s.takeF0 code idx).calm = s.calm := by
  unfold State.takeF0
  dsimp only
  rw [if_neg h8, if_neg h9]
  refine calm_ite_of ?_ rfl
  exact (calm_of_shelfless (State.showDerate_seen _)).trans (calm_of_seen (s.raiseBit_seen _ (by decide)))

/-- A code of class F0 that opens no contactor is logged, and may derate the shelf. -/
theorem State.raise_calm (s : State) {code idx : Nat} (m t : Int) (hcls : s.classOf code idx = 0) (h8 : code ≠ 0x0408)
    (h9 : code ≠ 0x0409) : (s.raise code idx m t).calm = s.calm := by
  have hlog : (s.logCode code idx 0 m t).calm = s.calm := calm_of_lastCode (s.logCode_seen code idx 0 m t)
  have hlevel : ∀ u : State, (if isLevel code then
      { u with brd := { u.brd with active := u.brd.active ++ [(code, idx)] } } else u).calm = u.calm := fun u => calm_ite_of rfl rfl
  unfold State.raise
  refine calm_ite_of rfl ?_
  dsimp only
  rw [hcls, if_neg (by decide), if_neg (by decide), if_pos rfl, State.takeF0_calm _ idx h8 h9, hlevel, hlog]

theorem State.unraise_calm (s : State) (code idx : Nat) : (s.unraise code idx).calm = s.calm := by
  have hdrop : ∀ l : List (Nat × Nat), State.calm { s with brd := { s.brd with active := l } } = s.calm := fun l => rfl
  have hderate : ∀ t : State, (if isDerating code then (t.raiseBit BRD_EVT_DERATE 243).showDerate else t).calm = t.calm := fun t =>
    calm_ite_of ((calm_of_shelfless (State.showDerate_seen _)).trans (calm_of_seen (t.raiseBit_seen _ (by decide)))) rfl
  unfold State.unraise
  dsimp only
  refine calm_ite_of ?_ rfl
  rw [calm_of_seen (State.checkHoldoff_seen _), hderate, hdrop]

theorem State.checkCounts_calm (s : State) : s.checkCounts.calm = s.calm := by
  unfold State.checkCounts
  refine calm_ite_of rfl (forN_calm s fun x t => ?_)
  have hraise : ∀ (u : State) (n : Nat), (u.raise 0x0207 x n 48).calm = u.calm :=
    fun u n => u.raise_calm n 48 rfl (by decide) (by decide)
  exact calm_ite_of ((hraise _ _).trans (calm_of_seen rfl)) ((State.unraise_calm _ _ _).trans (calm_of_seen rfl))

theorem State.groupStopped_seen (s : State) (g : Nat) : (s.groupStopped g).seen = s.seen :=
  seen_ite_of (s.setGrpState_seen g 0) rfl

theorem State.afterChans_calm (s : State) : s.afterChans.calm = s.calm :=
  (State.checkCounts_calm _).trans (calm_of_seen ((State.showActive_seen _).trans (forN_seen s fun g _ t => t.groupStopped_seen g)))

end Sys2Proof.Machine


namespace Sys2Proof.Machine

/-! ### The L1 slot -/

@[simp] theorem State.pmbus_seen (s : State) (r code : Nat) (data : List Byte) : (s.pmbus r code data).seen = s.seen :=
  State.verbose_seen _ 2 2

@[simp] theorem State.unstick_seen (s : State) (stuck : Bool) : (s.unstick stuck).seen = s.seen := seen_ite_of rfl rfl

@[simp] theorem State.pmbusTry_seen (s : State) (a : RectAns) (r code : Nat) (data : List Byte) :
    (s.pmbusTry a r code data).seen = s.seen := by
  cases a <;> simp only [State.pmbusTry, State.pmbus_seen, State.unstick_seen]

/-- The limit writes of a slot leave what does not fit (R55, R197). -/
theorem State.limitWrites_seen (s : State) (i : L1In) (q : List (Nat × Nat)) :
    (s.limitWrites i q).seen = { s.seen with carried := q.drop i.fit } := by
  have hsend : (forL (q.take i.fit) (fun p t => t.pmbusTry (ansOf i p.1) p.1 0x46 (leBytes 2 p.2)) s).seen = s.seen :=
    forL_seen s fun p _ t => t.pmbusTry_seen _ _ _ _
  have hrest : ∀ t : State, State.seen { t with rein := { t.rein with carried := q.drop i.fit } } =
      { t.seen with carried := q.drop i.fit } := fun t => rfl
  unfold State.limitWrites
  rw [State.bumpSat_seen _ _ (by decide), hrest, hsend]

@[simp] theorem State.rampWrite_seen (s : State) (i : L1In) (r : Nat) : (s.rampWrite i r).seen = s.seen :=
  (State.pmbusTry_seen _ _ _ _ _).trans (rein_seen s _ rfl rfl rfl)

/-- Without an alert the last place of a slot is the rotating read, whose turn moves on (R55). -/
theorem State.lastRead_seen (s : State) {i : L1In} (h : i.alert = none) :
    (s.lastRead i).1.seen = { s.seen with rotate := (s.rein.rotate + 1) % 12 } := by
  have hread : ∀ (t : State) (r : Rein), r.rotate = (s.rein.rotate + 1) % 12 → r.carried = t.rein.carried →
      r.handover = t.rein.handover → State.seen { t with rein := r } = { t.seen with rotate := (s.rein.rotate + 1) % 12 } := by
    intro t r hrot hcar hhand
    unfold State.seen
    simp only [hrot, hcar, hhand]
    rfl
  unfold State.lastRead
  rw [h]
  dsimp only
  rw [hread, State.pmbusTry_seen]
  all_goals
    repeat' split
    all_goals rfl

/-- An alert takes the place of the rotating read (R55). -/
theorem State.lastRead_seen_alert (s : State) {i : L1In} {a : Fin 6 × Fin 65536} (h : i.alert = some a) :
    (s.lastRead i).1.seen = s.seen := by
  unfold State.lastRead
  rw [h]
  exact (State.pmbusTry_seen _ _ _ _ _).trans (State.verbose_seen _ 2 2)

/-- Setting whether a rectifier is lost or L1 suspended shows nothing. -/
theorem State.setL1_seen (s : State) (lo w v : Nat) : ((s.set ⟨REIN_L1_STATUS, lo, w⟩ v).msix 233).seen = s.seen :=
  (State.msix_seen _ _).trans (s.set_seen v (Hidden.field (by decide : Hidden REIN_L1_STATUS)))

theorem State.rectResult_calm (s : State) (r : Nat) (ok : Bool) : (s.rectResult r ok).calm = s.calm := by
  have hset : ∀ (t : State) (lo w v : Nat), ((t.set ⟨REIN_L1_STATUS, lo, w⟩ v).msix 233).calm = t.calm :=
    fun t lo w v => calm_of_seen (t.setL1_seen lo w v)
  have hfails : ∀ l : List Nat, State.calm { s with rein := { s.rein with fails := l } } = s.calm := fun l => rfl
  have hlost : ∀ t : State, (t.raise 0x0311 r 0 0).calm = t.calm := fun t => t.raise_calm 0 0 rfl (by decide) (by decide)
  have hsusp : ∀ t : State, (t.raise 0x0312 0 0 0).calm = t.calm := fun t => t.raise_calm 0 0 rfl (by decide) (by decide)
  have heff : ∀ (t : State) (c : Nat) (v : Int), (t.wrI (REIN_CAS_SP_EFF c) v).calm = t.calm :=
    fun t c v => calm_of_seen (t.wr_seen _ (by unfold REIN_CAS_SP_EFF Hidden; omega))
  unfold State.rectResult
  cases ok
  · rw [if_neg Bool.false_ne_true]
    dsimp only
    split
    · split
      · rw [hsusp]
        exact (hset _ _ _ _).trans ((hlost _).trans ((hset _ _ _ _).trans (hfails _)))
      · exact (hlost _).trans ((hset _ _ _ _).trans (hfails _))
    · exact hfails _
  · rw [if_pos rfl]
    dsimp only
    refine calm_ite_of ?_ (hfails _)
    have hback : ∀ t : State, (((t.set REIN_L1_STATUS_LOST (bitPut (t.get REIN_L1_STATUS_LOST) r false)).msix 233).unraise 0x0311 r).calm
        = t.calm := fun t => (State.unraise_calm _ _ _).trans (hset t _ _ _)
    have hgo : ∀ t : State, (((t.clear REIN_L1_STATUS_SUSPENDED).msix 233).unraise 0x0312 0).calm = t.calm :=
      fun t => (State.unraise_calm _ _ _).trans (hset t _ _ _)
    refine calm_ite_of ?_ ((hback _).trans (hfails _))
    split
    · exact calm_ite_of ((hgo _).trans ((hback _).trans (hfails _)))
        ((heff _ _ _).trans ((hgo _).trans ((hback _).trans (hfails _))))
    · exact (hgo _).trans ((hback _).trans (hfails _))

theorem State.beginShed_seen (s : State) (n : Nat) : (s.beginShed n).seen = s.seen := State.setChState_seen _ n chShedding

theorem State.disarmStep_calm (s : State) : s.disarmStep.calm = s.calm := by
  have hshed : (forN 104 (fun n t => if t.chSt n = chRun ∨ t.chSt n = chRestarting then t.beginShed n else t) s).seen = s.seen :=
    forN_seen s fun n _ t => seen_ite_of (t.beginShed_seen n) rfl
  unfold State.disarmStep
  refine calm_ite_of rfl ?_
  split
  next c _ =>
    refine calm_ite_of (calm_of_seen (s.casOff_seen c)) (calm_ite_of rfl (calm_of_seen (s.setCas_seen c _ _ 3)))
  next =>
    exact calm_ite_of rfl ((State.afterChans_calm _).trans (calm_of_seen hshed))

/-- What remains of a slot once its writes are served: the ramp's write, the last place, the rectifiers' answers, the stop. -/
theorem State.slotTail_calm (s : State) (i : L1In) (fit : Nat) (ramp : Option Nat) :
    (s.slotTail i fit ramp).1.calm = s.calm ∨ (s.slotTail i fit ramp).1.calm = { s.calm with rotate := (s.rein.rotate + 1) % 12 } := by
  have hlast : ∀ t : State, t.seen = s.seen →
      (t.lastRead i).1.calm = s.calm ∨ (t.lastRead i).1.calm = { s.calm with rotate := (s.rein.rotate + 1) % 12 } := by
    intro t ht
    cases hal : i.alert with
    | none =>
      right
      have hrot : t.rein.rotate = s.rein.rotate := congrArg Seen.rotate ht
      unfold State.calm
      rw [t.lastRead_seen hal, ht, hrot]
      rfl
    | some a => exact .inl (calm_of_seen ((t.lastRead_seen_alert hal).trans ht))
  unfold State.slotTail
  cases ramp with
  | none =>
    dsimp only
    split
    · exact .inl rfl
    · exact hlast s rfl
  | some r =>
    dsimp only
    split
    · exact .inl rfl
    · split
      · exact .inl (calm_of_seen (s.rampWrite_seen i r))
      · exact hlast _ (s.rampWrite_seen i r)

end Sys2Proof.Machine


namespace Sys2Proof.Machine

/-- L1's total as a field that is seen. -/
abbrev limitField : Field := ⟨REIN_L1_LIMIT, 0, 32⟩

theorem State.get_limitField (s : State) : s.get limitField = (s.rd REIN_L1_LIMIT).toNat := by
  unfold State.get
  rw [fieldGet_eq, pow_zero, Nat.div_one]
  exact Nat.mod_eq_of_lt (s.rd REIN_L1_LIMIT).isLt

theorem State.wrLimit_seen (s : State) (v : Word) : (s.wr REIN_L1_LIMIT v).seen = s.seen.put limitField v.toNat := by
  have hget : ∀ g : { f : Field // Shown f }, (s.wr REIN_L1_LIMIT v).get g = if g = limitField then v.toNat % 2 ^ 32 else s.get g := by
    intro g
    split
    next h =>
      rw [h, State.get_limitField, State.rd_wr_same]
      exact (Nat.mod_eq_of_lt v.isLt).symm
    next h =>
      have hne : REIN_L1_LIMIT ≠ g.1.addr := by
        have hlist : ∀ g ∈ seenFields, g ≠ limitField → REIN_L1_LIMIT ≠ g.addr := by decide
        obtain ⟨g, hg | ⟨n, rfl⟩⟩ := g
        · exact hlist g hg h
        · show 0x20004C ≠ 0x100000 + 0x100 * n.val
          omega
      exact s.get_wr_ne v hne.symm
  unfold State.seen Seen.put
  simp only [hget, State.wr_pins, State.wr_boot, State.wr_brd, State.wr_rein]

/-- The limit writes that a slot has to send. -/
def State.slotQueue (s : State) : List (Nat × Nat) :=
  if s.shelf = stPassive then [] else s.limitQueue (s.l1Total.map fun a => quot a s.rects.length)

/-- The slot's limit writes, its total and the end of what it serves. -/
def State.slotWritten (s : State) (i : L1In) : State :=
  let t := s.limitWrites i s.slotQueue
  (match s.l1Total with
    | some a => t.wrI REIN_L1_LIMIT (roundRat (a * 10))
    | none => t).slotServed

/-- After its writes a slot makes its ramp write and its last place, and no more that is seen but the shelf state and the last code. -/
theorem exec_l1Slot (s : State) (i : L1In) (hp : s.pins.powered = true) :
    ∃ t, exec (.l1Slot i) s = .next t ∧ t.calm = ((s.slotWritten i).slotTail i (i.fit - s.slotQueue.length)
      (if s.l1Total.isSome then s.rampDue else none)).1.calm := by
  have hexec : exec (.l1Slot i) s = execL1Slot i s := rfl
  rw [hexec]
  unfold execL1Slot
  rw [State.on_powered _ hp]
  exact ⟨_, rfl, (State.disarmStep_calm _).trans (forL_calm _ fun r t => t.rectResult_calm r _)⟩

theorem State.slotServed_seen (s : State) : s.slotServed.seen = { s.seen with isoLimitDue := false, handover := none } := rfl

theorem State.slotWritten_seen_of_none (s : State) (i : L1In) (h : s.l1Total = none) :
    (s.slotWritten i).seen = { s.seen with carried := s.slotQueue.drop i.fit, isoLimitDue := false, handover := none } := by
  unfold State.slotWritten
  rw [h]
  dsimp only
  rw [State.slotServed_seen, State.limitWrites_seen]

theorem State.slotWritten_seen_of_some (s : State) (i : L1In) {a : Rat} (h : s.l1Total = some a) :
    (s.slotWritten i).seen = { s.seen.put limitField (BitVec.ofInt 32 (roundRat (a * 10))).toNat with
      carried := s.slotQueue.drop i.fit, isoLimitDue := false, handover := none } := by
  unfold State.slotWritten
  rw [h]
  dsimp only
  rw [State.slotServed_seen, State.wrI_eq, State.wrLimit_seen, State.limitWrites_seen]
  rfl

/-- A slot ends the duties of an isolation and of a stop (R197, R511). -/
theorem exec_l1Slot_served (s : State) (i : L1In) (hp : s.pins.powered = true) :
    ∃ t, exec (.l1Slot i) s = .next t ∧ t.brd.isoLimitDue = false ∧ t.rein.handover = none := by
  obtain ⟨t, hrun, hcalm⟩ := exec_l1Slot s i hp
  have hserved : (s.slotWritten i).calm.isoLimitDue = false ∧ (s.slotWritten i).calm.handover = none := ⟨rfl, rfl⟩
  refine ⟨t, hrun, ?_⟩
  rcases (s.slotWritten i).slotTail_calm i (i.fit - s.slotQueue.length) (if s.l1Total.isSome then s.rampDue else none) with h | h
  · have ht := hcalm.trans h
    exact ⟨(congrArg Seen.isoLimitDue ht).trans hserved.1, (congrArg Seen.handover ht).trans hserved.2⟩
  · have ht := hcalm.trans h
    exact ⟨(congrArg Seen.isoLimitDue ht).trans hserved.1, (congrArg Seen.handover ht).trans hserved.2⟩

/-- In PASSIVE a slot makes the rotating read alone (R55). -/
theorem exec_l1Slot_passive (s : State) (i : L1In) (hp : s.pins.powered = true) (hpas : s.shelf = stPassive) (hal : i.alert = none) :
    ∃ t, exec (.l1Slot i) s = .next t ∧
      t.rein.rotate = (if i.fit = 0 then s.rein.rotate else (s.rein.rotate + 1) % 12) ∧ t.rein.carried = [] := by
  obtain ⟨t, hrun, hcalm⟩ := exec_l1Slot s i hp
  have htot : s.l1Total = none := if_pos hpas
  have hq : s.slotQueue = [] := if_pos hpas
  have hw := s.slotWritten_seen_of_none i htot
  have hcar : (s.slotWritten i).rein.carried = [] := by
    rw [show (s.slotWritten i).rein.carried = s.slotQueue.drop i.fit from congrArg Seen.carried hw, hq, List.drop_nil]
  have hrot : (s.slotWritten i).rein.rotate = s.rein.rotate := congrArg Seen.rotate hw
  refine ⟨t, hrun, ?_⟩
  rw [htot, hq] at hcalm
  unfold State.slotTail at hcalm
  simp only [Option.isSome_none, Bool.false_eq_true, if_false, List.length_nil, Nat.sub_zero] at hcalm
  by_cases hfit : i.fit = 0
  · rw [if_pos hfit]
    rw [if_pos (by rw [hfit]; rfl)] at hcalm
    exact ⟨(congrArg Seen.rotate hcalm).trans hrot, (congrArg Seen.carried hcalm).trans hcar⟩
  · rw [if_neg hfit]
    rw [if_neg (show i.fit.val ≠ 0 from fun h => hfit (Fin.ext h))] at hcalm
    have hread := (s.slotWritten i).lastRead_seen hal
    have hrot' : ((s.slotWritten i).lastRead i).1.rein.rotate = (s.rein.rotate + 1) % 12 := by
      rw [show ((s.slotWritten i).lastRead i).1.rein.rotate = _ from congrArg Seen.rotate hread]
      show ((s.slotWritten i).rein.rotate + 1) % 12 = _
      rw [hrot]
    have hcar' : ((s.slotWritten i).lastRead i).1.rein.carried = [] := (congrArg Seen.carried hread).trans hcar
    exact ⟨(congrArg Seen.rotate hcalm).trans hrot', (congrArg Seen.carried hcalm).trans hcar'⟩

theorem roundRat_natCast (n : Nat) : roundRat (n : Rat) = n := by
  unfold roundRat roundDiv
  rw [Rat.num_natCast, Rat.den_natCast, if_pos (Int.natCast_nonneg n)]
  omega

theorem State.rects_length_le (s : State) : s.rects.length ≤ 6 :=
  (List.length_filter_le _ _).trans (by decide)

theorem State.limitQueue_length (s : State) (a : Rat) (h : s.rein.carried = []) : (s.limitQueue (some a)).length = s.rects.length := by
  simp [State.limitQueue, h]

/-- After an isolation a slot shows the total of ISO_LIMIT, and carries the writes that do not fit (R55, R197). -/
theorem exec_l1Slot_isolated (s : State) (i : L1In) (hp : s.pins.powered = true) (hpas : s.shelf ≠ stPassive)
    (hdue : s.brd.isoLimitDue = true) (hlim : s.get REIN_L1_ISO_ISO_LIMIT ≠ 0) (hcar : s.rein.carried = []) :
    ∃ t, exec (.l1Slot i) s = .next t ∧ t.rdI REIN_L1_LIMIT = 10 * (s.get REIN_L1_ISO_ISO_LIMIT * s.rects.length) ∧
      t.rein.carried.length = s.rects.length - i.fit.val := by
  obtain ⟨t, hrun, hcalm⟩ := exec_l1Slot s i hp
  have htot : s.l1Total = some ((s.get REIN_L1_ISO_ISO_LIMIT * s.rects.length : Nat) : Rat) := by
    unfold State.l1Total
    rw [if_neg hpas, if_pos hdue, if_neg hlim]
  have hq : s.slotQueue.length = s.rects.length := by
    unfold State.slotQueue
    rw [if_neg hpas, htot]
    exact s.limitQueue_length _ hcar
  have hw := s.slotWritten_seen_of_some i htot
  have hround : roundRat (((s.get REIN_L1_ISO_ISO_LIMIT * s.rects.length : Nat) : Rat) * 10) =
      ((10 * (s.get REIN_L1_ISO_ISO_LIMIT * s.rects.length) : Nat) : Int) := by
    rw [← roundRat_natCast]
    congr 1
    push_cast
    ring
  rw [hround] at hw
  have hlt : s.get REIN_L1_ISO_ISO_LIMIT * s.rects.length ≤ 65536 * 6 :=
    Nat.mul_le_mul (Nat.le_of_lt (s.get_lt REIN_L1_ISO_ISO_LIMIT)) s.rects_length_le
  have hcal : t.calm = (s.slotWritten i).calm ∨ t.calm = { (s.slotWritten i).calm with rotate := ((s.slotWritten i).rein.rotate + 1) % 12 } :=
    ((s.slotWritten i).slotTail_calm i _ _).imp hcalm.trans hcalm.trans
  have hfield : t.calm.field ⟨limitField, .inl (by decide)⟩ = (s.slotWritten i).calm.field ⟨limitField, .inl (by decide)⟩ := by
    rcases hcal with h | h <;> rw [h]
  have hcarr : t.rein.carried = (s.slotWritten i).rein.carried := by
    rcases hcal with h | h <;> exact congrArg Seen.carried h
  refine ⟨t, hrun, ?_, ?_⟩
  · have hget : t.get limitField = (BitVec.ofInt 32 ((10 * (s.get REIN_L1_ISO_ISO_LIMIT * s.rects.length) : Nat) : Int)).toNat := by
      rw [← t.calm_field (.inl (by decide)) (by decide) (by decide), hfield, State.calm_field _ _ (by decide) (by decide),
        State.get_of_seen hw (.inl (by decide))]
      exact (s.seen.put_field (f := limitField) (BitVec.ofInt 32 _).toNat (.inl (by decide))).trans (Nat.mod_eq_of_lt (BitVec.isLt _))
    rw [State.get_limitField] at hget
    unfold State.rdI
    rw [BitVec.eq_of_toNat_eq hget, BitVec.toInt_ofInt, Int.bmod_eq_of_le (by omega) (by omega)]
    push_cast
    ring
  · rw [hcarr, show (s.slotWritten i).rein.carried = _ from congrArg Seen.carried hw]
    show (s.slotQueue.drop i.fit).length = _
    rw [List.length_drop, hq]

end Sys2Proof.Machine


namespace Sys2Proof.Machine

/-! ### The reading of L1, and PMBus -/

/-- FAST_ACTIVE reads 1 while headroom is requested or an absorption runs (R197). -/
theorem live_fastActive (s : State) :
    fieldGet (s.live REIN_L1_STATUS) 1 1 = 1 ↔ s.isSet FCST_STATUS_HR_REQ = true ∨ s.isSet FAB_STATUS_ABSORBING = true := by
  have hlive : s.live REIN_L1_STATUS =
      fieldPut (s.rd REIN_L1_STATUS) 1 1 (s.isSet FCST_STATUS_HR_REQ || s.isSet FAB_STATUS_ABSORBING).toNat := by
    unfold State.live
    rw [if_neg (by cases s.otp.variant <;> decide), if_neg (by decide), if_neg (by decide), if_pos rfl]
  rw [hlive, fieldGet_put_same _ _ (by decide)]
  cases s.isSet FCST_STATUS_HR_REQ <;> cases s.isSet FAB_STATUS_ABSORBING <;> decide

theorem State.showLevel_out (s : State) (i : Nat) : (s.showLevel i).out = s.out := by
  unfold State.showLevel
  split <;> rfl

theorem State.lose_out (s : State) (i cause prio : Nat) (b : Bool) : (s.lose i cause prio b).out = s.out := by
  unfold State.lose
  dsimp only
  split <;> rfl

theorem State.enqueue_out (s : State) (i : Nat) (r : Rec) (b : Bool) : (s.enqueue i r b).out = s.out := rfl

theorem State.toPath_out (s : State) (i : Nat) (r : Rec) : (s.toPath i r).out = s.out := by
  unfold State.toPath
  repeat' split
  all_goals
    simp only [State.showLevel_out, State.lose_out, State.enqueue_out, State.setPath_out, apply_ite State.out, ite_self]

theorem forN_out {n : Nat} {f : Nat → State → State} (s : State) (hf : ∀ i t, (f i t).out = t.out) : (forN n f s).out = s.out := by
  unfold forN
  induction List.range n generalizing s with
  | nil => rfl
  | cons i l ih => exact (ih _).trans (hf i s)

/-- A record that opens no incident sends nothing. -/
theorem State.record_out (s : State) (kind prio domain code key cls : Nat) (body : List Byte) :
    (s.record kind prio domain code key cls false body).out = s.out := by
  have hwake : ∀ t : State, t.showWakeN.out = t.out := fun t => rfl
  unfold State.record
  rw [if_neg Bool.false_ne_true]
  dsimp only
  rw [hwake, forN_out _ fun i t => t.toPath_out i _]
  rfl

theorem State.verbose_out (s : State) (src domain : Nat) : (s.verbose src domain).out = s.out := by
  unfold State.verbose
  split
  · exact State.record_out _ _ _ _ _ _ _ _
  · rfl

theorem exec_pmbusClearFaults (s : State) (r : Fin 6) (hp : s.pins.powered = true) :
    exec (.pmbusClearFaults r) s = if s.shelf = stPassive then .next s else .next (s.pmbus r 0x03 []) := by
  have hexec : exec (.pmbusClearFaults r) s = execPmbusClearFaults r s := rfl
  rw [hexec]
  exact State.on_powered _ hp

/-! ### The tune's commands -/

/-- The state once a START of a loop's tune has been taken from REIN_TUNE_CTRL. -/
def State.tuneAsked (s : State) (c : Nat) : State := (s.set REIN_TUNE_CTRL_LOOP c).clear REIN_TUNE_CTRL_START

theorem State.rd_tuneAsked (s : State) (c : Nat) {a : Nat} (h : a ≠ REIN_TUNE_CTRL) : (s.tuneAsked c).rd a = s.rd a :=
  (State.rd_set_ne _ _ _ h).trans (s.rd_set_ne _ _ h)

theorem State.get_tuneAsked (s : State) (c : Nat) {f : Field} (h : f.addr ≠ REIN_TUNE_CTRL) : (s.tuneAsked c).get f = s.get f := by
  unfold State.get
  rw [s.rd_tuneAsked c h]

theorem State.isSet_tuneAsked (s : State) (c : Nat) {f : Field} (h : f.addr ≠ REIN_TUNE_CTRL) :
    (s.tuneAsked c).isSet f = s.isSet f := by
  unfold State.isSet
  rw [s.get_tuneAsked c h]

/-- START of a loop's tune, by the state before it (R208). -/
theorem exec_tuneStart (s : State) (c : CasNo) (hp : s.pins.powered = true) : exec (.tuneStart c) s = .next (
    if s.casDest c = 0 then (s.tuneAsked c).tuneRefuse 10
    else if s.rein.tune.isSome || s.rein.tunePending.isSome then (s.tuneAsked c).tuneRefuse 9
    else if s.shelf = stPassive then
      if s.isSet (REIN_CAS_CTRL_ENABLE c) || s.isSet (REIN_CAS_CTRL_AUTO_START c) then
        (({ s.tuneAsked c with rein := { (s.tuneAsked c).rein with tunePending := some c.val } }.set REIN_TUNE_STATUS_STATE 1).set
          REIN_TUNE_STATUS_CAUSE 0).set REIN_TUNE_STATUS_LOOP c
      else (s.tuneAsked c).tuneRefuse 10
    else if !s.inService then (s.tuneAsked c).tuneRefuse 9
    else if s.casSt c ≠ 1 ∧ s.casSt c ≠ 2 then (s.tuneAsked c).tuneRefuse 10
    else if s.isSet FCST_STATUS_QUIET && decide (s.now + s.tuneLimit c ≤ s.rd64 FCST_QUIET_END_LO FCST_QUIET_END_HI) then
      (s.tuneAsked c).tuneBegin c
    else (s.tuneAsked c).tuneRefuse 9) := by
  have hcas : ∀ a, 0x201000 ≤ a → a ≠ REIN_TUNE_CTRL := by
    intro a ha h
    rw [h] at ha
    exact absurd ha (by decide)
  have hdest : (s.tuneAsked c).casDest c = s.casDest c := s.get_tuneAsked c (hcas _ (by show 0x201000 ≤ 0x201004 + 0x40 * c.val; omega))
  have hst : (s.tuneAsked c).casSt c = s.casSt c := s.get_tuneAsked c (hcas _ (by show 0x201000 ≤ 0x201038 + 0x40 * c.val; omega))
  have hctrl : ∀ lo w, (s.tuneAsked c).get ⟨REIN_CAS_CTRL c, lo, w⟩ = s.get ⟨REIN_CAS_CTRL c, lo, w⟩ :=
    fun lo w => s.get_tuneAsked c (hcas _ (by show 0x201000 ≤ 0x201000 + 0x40 * c.val; omega))
  have hshelf : (s.tuneAsked c).shelf = s.shelf := s.get_tuneAsked c (by decide)
  have hserv : (s.tuneAsked c).inService = s.inService := by
    unfold State.inService
    rw [hshelf]
  have hquiet : (s.tuneAsked c).isSet FCST_STATUS_QUIET = s.isSet FCST_STATUS_QUIET := s.isSet_tuneAsked c (by decide)
  have hend : (s.tuneAsked c).rd64 FCST_QUIET_END_LO FCST_QUIET_END_HI = s.rd64 FCST_QUIET_END_LO FCST_QUIET_END_HI := by
    unfold State.rd64 State.rdN
    rw [s.rd_tuneAsked c (by decide), s.rd_tuneAsked c (by decide)]
  have hlim : (s.tuneAsked c).tuneLimit c = s.tuneLimit c := by
    unfold State.tuneLimit
    rw [show (s.tuneAsked c).get (REIN_CAS_CTRL_RATE_DIV c) = s.get (REIN_CAS_CTRL_RATE_DIV c) from hctrl _ _]
  have hen : (s.tuneAsked c).isSet (REIN_CAS_CTRL_ENABLE c) = s.isSet (REIN_CAS_CTRL_ENABLE c) := congrArg (· != 0) (hctrl _ _)
  have hauto : (s.tuneAsked c).isSet (REIN_CAS_CTRL_AUTO_START c) = s.isSet (REIN_CAS_CTRL_AUTO_START c) :=
    congrArg (· != 0) (hctrl _ _)
  have hnow : (s.tuneAsked c).now = s.now := rfl
  have htune : (s.tuneAsked c).rein.tune = s.rein.tune := rfl
  have hpend : (s.tuneAsked c).rein.tunePending = s.rein.tunePending := rfl
  have hexec : exec (.tuneStart c) s = s.on fun s => .next ((s.set REIN_TUNE_CTRL_LOOP c).tuneStart c) := rfl
  rw [hexec, State.on_powered _ hp]
  unfold State.tuneStart
  dsimp only
  rw [show (s.set REIN_TUNE_CTRL_LOOP c).clear REIN_TUNE_CTRL_START = s.tuneAsked c from rfl, hdest, hst, hshelf, hserv, hquiet, hend,
    hlim, hen, hauto, hnow, htune, hpend]

/-- A refused START shows state 6 and its cause (R208, R211). -/
theorem State.tuneRefuse_shows (s : State) (c : Nat) {k : Nat} (hk : k < 16) :
    ((s.tuneAsked c).tuneRefuse k).get REIN_TUNE_STATUS_STATE = 6 ∧ ((s.tuneAsked c).tuneRefuse k).get REIN_TUNE_STATUS_CAUSE = k ∧
      ((s.tuneAsked c).tuneRefuse k).rein.tune = s.rein.tune ∧
      ((s.tuneAsked c).tuneRefuse k).rein.tunePending = s.rein.tunePending := by
  refine ⟨?_, ?_, rfl, rfl⟩
  · exact (State.get_set_apart _ _ _ _ (.inr (.inr (by decide)))).trans (State.get_set_same _ _ _ (by decide))
  · exact (State.get_set_same _ _ _ (by decide)).trans (Nat.mod_eq_of_lt hk)

/-- A tune that begins shows state 2, its loop and TUNING (R208). -/
theorem State.tuneBegin_shows (s : State) (c : CasNo) :
    (∃ u, ((s.tuneAsked c).tuneBegin c).rein.tune = some u ∧ u.cas = c.val ∧ u.start = s.elapsed) ∧
      ((s.tuneAsked c).tuneBegin c).get REIN_TUNE_STATUS_STATE = 2 ∧
      ((s.tuneAsked c).tuneBegin c).get REIN_TUNE_STATUS_LOOP = c.val ∧
      ((s.tuneAsked c).tuneBegin c).isSet (REIN_CAS_STATUS_TUNING c.val) = true := by
  have hne : REIN_CAS_STATUS c.val ≠ REIN_TUNE_STATUS := by
    unfold REIN_CAS_STATUS REIN_TUNE_STATUS
    omega
  unfold State.tuneBegin
  dsimp only
  refine ⟨⟨_, rfl, rfl, rfl⟩, ?_, ?_, ?_⟩
  · exact (State.get_set_apart _ _ _ _ (.inr (.inr (by decide)))).trans ((State.get_set_apart _ _ _ _ (.inr (.inr (by decide)))).trans
      (State.get_set_same _ _ _ (by decide)))
  · exact (State.get_set_same _ _ _ (by decide)).trans (Nat.mod_eq_of_lt c.isLt)
  · rw [State.isSet_iff, State.get_set_apart _ _ _ _ (.inl hne.symm), State.get_set_apart _ _ _ _ (.inl hne.symm),
      State.get_set_apart _ _ _ _ (.inl hne.symm), State.get_set_apart _ _ _ _ (.inr (.inr (by decide : 5 + 1 ≤ 12))),
      State.get_set_same _ _ _ (by decide : 5 + 1 ≤ 32)]
    exact (by decide : 1 % 2 ^ 1 ≠ 0)

/-- The end of a running tune shows state 5 with its cause, and DONE (R211). -/
theorem State.tuneAbort_shows (s : State) {u : Tune} {k : Nat} (h : s.rein.tune = some u) (hk : k < 16) :
    (s.tuneAbort k).rein.tune = none ∧ (s.tuneAbort k).get REIN_TUNE_STATUS_STATE = 5 ∧
      (s.tuneAbort k).get REIN_TUNE_STATUS_CAUSE = k ∧ (s.tuneAbort k).isSet REIN_TUNE_STATUS_DONE = true ∧
      (s.tuneAbort k).isSet (REIN_CAS_STATUS_TUNING u.cas) = false := by
  have hne : REIN_TUNE_STATUS ≠ REIN_CAS_STATUS u.cas := by
    unfold REIN_CAS_STATUS REIN_TUNE_STATUS
    omega
  unfold State.tuneAbort
  rw [h]
  dsimp only
  refine ⟨?_, ?_, ?_, State.isSet_raiseBit _ _ _ (by decide) (by decide), ?_⟩
  · simp only [State.raiseBit_rein, State.set_rein, State.clear_eq]
    split <;> rfl
  · exact (State.get_raiseBit_apart _ _ _ _ (.inr (.inr (by decide)))).trans ((State.get_set_apart _ _ _ _ (.inr (.inr (by decide)))).trans
      (State.get_set_same _ _ _ (by decide)))
  · exact (State.get_raiseBit_apart _ _ _ _ (.inr (.inl (by decide)))).trans ((State.get_set_same _ _ _ (by decide)).trans
      (Nat.mod_eq_of_lt hk))
  · unfold State.isSet
    rw [State.get_raiseBit_apart _ _ _ _ (.inl hne), State.get_set_apart _ _ _ _ (.inl hne), State.get_set_apart _ _ _ _ (.inl hne),
      State.clear_eq, State.get_set_same _ _ _ (by decide : 5 + 1 ≤ 32)]
    rfl

end Sys2Proof.Machine


namespace Sys2Proof.Machine

/-- A START that is refused leaves the running and the pending tune, and shows why (R208, R211). -/
theorem exec_tuneStart_refused {s : State} {c : CasNo} {k : Nat} (hk : k < 16)
    (h : exec (.tuneStart c) s = .next ((s.tuneAsked c).tuneRefuse k)) : ∃ t, exec (.tuneStart c) s = .next t ∧
      t.get REIN_TUNE_STATUS_STATE = 6 ∧ t.get REIN_TUNE_STATUS_CAUSE = k ∧ t.rein.tune = s.rein.tune ∧
      t.rein.tunePending = s.rein.tunePending :=
  ⟨_, h, s.tuneRefuse_shows c hk⟩

/-- START of a loop with a destination while no tune runs or waits (R208). -/
theorem exec_tuneStart_idle {s : State} {c : CasNo} (hp : s.pins.powered = true) (hdest : s.casDest c.val ≠ 0)
    (htune : s.rein.tune = none) (hpend : s.rein.tunePending = none) : exec (.tuneStart c) s = .next (
    if s.shelf = stPassive then
      if s.isSet (REIN_CAS_CTRL_ENABLE c) || s.isSet (REIN_CAS_CTRL_AUTO_START c) then
        (({ s.tuneAsked c with rein := { (s.tuneAsked c).rein with tunePending := some c.val } }.set REIN_TUNE_STATUS_STATE 1).set
          REIN_TUNE_STATUS_CAUSE 0).set REIN_TUNE_STATUS_LOOP c
      else (s.tuneAsked c).tuneRefuse 10
    else if !s.inService then (s.tuneAsked c).tuneRefuse 9
    else if s.casSt c ≠ 1 ∧ s.casSt c ≠ 2 then (s.tuneAsked c).tuneRefuse 10
    else if s.isSet FCST_STATUS_QUIET && decide (s.now + s.tuneLimit c ≤ s.rd64 FCST_QUIET_END_LO FCST_QUIET_END_HI) then
      (s.tuneAsked c).tuneBegin c
    else (s.tuneAsked c).tuneRefuse 9) := by
  have hidle : ¬(s.rein.tune.isSome || s.rein.tunePending.isSome) = true := by
    rw [htune, hpend]
    decide
  rw [exec_tuneStart s c hp, if_neg hdest, if_neg hidle]

/-- In PASSIVE a START that may wait is PENDING (R208). -/
theorem exec_tuneStart_pending {s : State} {c : CasNo} (hp : s.pins.powered = true) (hdest : s.casDest c.val ≠ 0)
    (htune : s.rein.tune = none) (hpend : s.rein.tunePending = none) (hpas : s.shelf = stPassive)
    (hen : s.isSet (REIN_CAS_CTRL_ENABLE c.val) = true ∨ s.isSet (REIN_CAS_CTRL_AUTO_START c.val) = true) :
    ∃ t, exec (.tuneStart c) s = .next t ∧ t.rein.tunePending = some c.val ∧ t.get REIN_TUNE_STATUS_STATE = 1 ∧
      t.get REIN_TUNE_STATUS_LOOP = c.val := by
  have h := exec_tuneStart_idle hp hdest htune hpend
  rw [if_pos hpas, if_pos (by simpa using hen)] at h
  refine ⟨_, h, rfl, ?_, ?_⟩
  · exact (State.get_set_apart _ _ _ _ (.inr (.inr (by decide)))).trans ((State.get_set_apart _ _ _ _ (.inr (.inr (by decide)))).trans
      (State.get_set_same _ _ _ (by decide)))
  · exact (State.get_set_same _ _ _ (by decide)).trans (Nat.mod_eq_of_lt c.isLt)

theorem State.shelf_ne_passive_of_inService {s : State} (h : s.inService = true) : s.shelf ≠ stPassive := by
  intro hpas
  rw [State.inService, hpas] at h
  exact absurd h (by decide)

/-- Outside PASSIVE and out of service a START is refused; in service it starts a tune of a loop that runs and has a quiet window long
enough (R208, R211). -/
theorem exec_tuneStart_inService {s : State} {c : CasNo} (hp : s.pins.powered = true) (hdest : s.casDest c.val ≠ 0)
    (htune : s.rein.tune = none) (hpend : s.rein.tunePending = none) (hserv : s.inService = true) : exec (.tuneStart c) s = .next (
    if s.casSt c ≠ 1 ∧ s.casSt c ≠ 2 then (s.tuneAsked c).tuneRefuse 10
    else if s.isSet FCST_STATUS_QUIET && decide (s.now + s.tuneLimit c ≤ s.rd64 FCST_QUIET_END_LO FCST_QUIET_END_HI) then
      (s.tuneAsked c).tuneBegin c
    else (s.tuneAsked c).tuneRefuse 9) := by
  have hout : ¬(!s.inService) = true := by
    rw [hserv]
    decide
  rw [exec_tuneStart_idle hp hdest htune hpend, if_neg (State.shelf_ne_passive_of_inService hserv), if_neg hout]

theorem exec_tuneAbort (s : State) (hp : s.pins.powered = true) :
    exec .tuneAbort s = .next ((s.clear REIN_TUNE_CTRL_ABORT).tuneAbort 5) := by
  have hexec : exec .tuneAbort s = execTuneAbort s := rfl
  rw [hexec]
  exact State.on_powered _ hp

theorem exec_tuneTimeLimit (s : State) (hp : s.pins.powered = true) : exec .tuneTimeLimit s = .next (s.tuneAbort 7) := by
  have hexec : exec .tuneTimeLimit s = execTuneTimeLimit s := rfl
  rw [hexec]
  exact State.on_powered _ hp

theorem State.tuneAbort_of_none (s : State) (k : Nat) (h : s.rein.tune = none) : s.tuneAbort k = s := by
  unfold State.tuneAbort
  rw [h]

/-- Settles O38: a slot and its tail move no more that is seen than the shelf state and the last code, and a START is decided by
what the state was before it. -/
theorem rectifierAndTuneCommands : Obligations.RectifierAndTuneCommands := by
  unfold Obligations.RectifierAndTuneCommands
  intro s hp
  refine ⟨fun i => exec_l1Slot_served s i hp, fun i hpas hal => exec_l1Slot_passive s i hp hpas hal,
    fun i hpas hdue hlim hcar => exec_l1Slot_isolated s i hp hpas hdue hlim hcar, live_fastActive s, ?_, ?_, ?_, ?_, ?_, ?_, ?_, ?_,
    ?_, ?_, ?_, ?_, ?_⟩
  case refine_1 =>
    intro r hpas
    rw [exec_pmbusClearFaults s r hp, if_pos hpas]
  case refine_2 =>
    intro r hpas
    rw [exec_pmbusClearFaults s r hp, if_neg hpas]
    refine ⟨_, rfl, ?_⟩
    unfold State.pmbus
    rw [State.verbose_out, State.emit_out]
    rfl
  case refine_3 =>
    intro c hdest
    refine exec_tuneStart_refused (by decide) ?_
    rw [exec_tuneStart s c hp, if_pos hdest]
  case refine_4 =>
    intro c hdest hbusy
    refine exec_tuneStart_refused (by decide) ?_
    rw [exec_tuneStart s c hp, if_neg hdest, if_pos]
    simpa [Option.isSome_iff_ne_none] using hbusy
  case refine_5 =>
    intro c hdest htune hpend hpas hen
    exact exec_tuneStart_pending hp hdest htune hpend hpas hen
  case refine_6 =>
    intro c hdest htune hpend hpas hen hauto
    refine exec_tuneStart_refused (by decide) ?_
    rw [exec_tuneStart_idle hp hdest htune hpend, if_pos hpas, hen, hauto, Bool.or_false, if_neg Bool.false_ne_true]
  case refine_7 =>
    intro c hdest htune hpend hpas hserv
    refine exec_tuneStart_refused (by decide) ?_
    rw [exec_tuneStart_idle hp hdest htune hpend, if_neg hpas, hserv, Bool.not_false, if_pos rfl]
  case refine_8 =>
    intro c hdest htune hpend hserv h1 h2
    refine exec_tuneStart_refused (by decide) ?_
    rw [exec_tuneStart_inService hp hdest htune hpend hserv, if_pos ⟨h1, h2⟩]
  case refine_9 =>
    intro c hdest htune hpend hserv hst hquiet hend
    refine ⟨_, ?_, s.tuneBegin_shows c⟩
    rw [exec_tuneStart_inService hp hdest htune hpend hserv, if_neg (by omega), hquiet, decide_eq_true hend, Bool.and_self, if_pos rfl]
  case refine_10 =>
    intro c hdest htune hpend hserv hst hquiet
    refine exec_tuneStart_refused (by decide) ?_
    rw [exec_tuneStart_inService hp hdest htune hpend hserv, if_neg (by omega), if_neg]
    rcases hquiet with hquiet | hend
    · simp [hquiet]
    · simp [Nat.not_le.2 hend]
  case refine_11 =>
    intro u hu
    exact ⟨_, exec_tuneAbort s hp, State.tuneAbort_shows _ hu (by decide)⟩
  case refine_12 =>
    intro u hu
    exact ⟨_, exec_tuneTimeLimit s hp, State.tuneAbort_shows _ hu (by decide)⟩
  case refine_13 =>
    intro hnone
    refine ⟨⟨_, exec_tuneAbort s hp, ?_⟩, ?_⟩
    · rw [State.tuneAbort_of_none _ _ (show (s.clear REIN_TUNE_CTRL_ABORT).rein.tune = none from hnone)]
      exact ⟨rfl, s.rd_set_ne _ _ (by decide)⟩
    · rw [exec_tuneTimeLimit s hp, s.tuneAbort_of_none _ hnone]

end Sys2Proof.Machine


namespace Sys2Proof.Machine

/-! ### Contactors -/

/-- The journal's trigger moves neither the pins nor what Bridle keeps, and outside the write fence its entry is pending or being
written (R295, R296). -/
theorem State.jnlTrigger_shows (s : State) (bit : Nat) :
    (s.jnlTrigger bit).pins = s.pins ∧ (s.jnlTrigger bit).brd = s.brd ∧ (s.fenced = false →
      (s.jnlTrigger bit).isSet EST_JNL_STATUS_PENDING = true ∨ (s.jnlTrigger bit).isSet EST_JNL_STATUS_BUSY = true) := by
  unfold State.jnlTrigger
  cases s.fenced
  · rw [if_neg Bool.false_ne_true]
    unfold State.jnlStart
    split
    · exact ⟨rfl, rfl, fun _ => .inr (State.isSet_set_one _ _ (by decide) (by decide))⟩
    · exact ⟨rfl, rfl, fun _ => .inl (State.isSet_set_one _ _ (by decide) (by decide))⟩
  · rw [if_pos rfl]
    exact ⟨rfl, rfl, fun h => absurd h (by decide)⟩

theorem exec_contactorOpenLowCurrent (s : State) (x : StrNo) (hp : s.pins.powered = true) :
    exec (.contactorOpenLowCurrent x) s = if decide (x.val ∈ s.brd.openDue) && !s.isSet HRN_OV_CTRL_LATCHED then
      .next (State.jnlTrigger { s with
        brd := { s.brd with openDue := s.brd.openDue.filter (· != x.val) },
        pins := { s.pins with contEn := s.pins.contEn.set x.val false } } 2)
    else .next s := by
  have hexec : exec (.contactorOpenLowCurrent x) s = execContactorOpenLowCurrent x s := rfl
  rw [hexec]
  exact State.on_powered _ hp

theorem exec_contactorOpenLowCurrent_due {s : State} {x : StrNo} (hp : s.pins.powered = true) (hdue : x.val ∈ s.brd.openDue)
    (hov : s.isSet HRN_OV_CTRL_LATCHED = false) : ∃ t, exec (.contactorOpenLowCurrent x) s = .next t ∧
      t.pins.contEn = s.pins.contEn.set x.val false ∧ t.brd.openDue = s.brd.openDue.filter (· != x.val) ∧
      (s.fenced = false → t.isSet EST_JNL_STATUS_PENDING = true ∨ t.isSet EST_JNL_STATUS_BUSY = true) := by
  have h := exec_contactorOpenLowCurrent s x hp
  rw [decide_eq_true hdue, hov, Bool.not_false, Bool.and_self, if_pos rfl] at h
  obtain ⟨hpins, hbrd, hjnl⟩ := State.jnlTrigger_shows { s with
    brd := { s.brd with openDue := s.brd.openDue.filter (· != x.val) },
    pins := { s.pins with contEn := s.pins.contEn.set x.val false } } 2
  exact ⟨_, h, congrArg Pins.contEn hpins, congrArg Brd.openDue hbrd, hjnl⟩

theorem exec_contactorOpenLowCurrent_held {s : State} {x : StrNo} (hp : s.pins.powered = true)
    (h : x.val ∉ s.brd.openDue ∨ s.isSet HRN_OV_CTRL_LATCHED = true) : exec (.contactorOpenLowCurrent x) s = .next s := by
  rw [exec_contactorOpenLowCurrent s x hp, if_neg]
  rcases h with h | h <;> simp [h]

/-! #### Firmware's close (R25, R508) -/

theorem State.codeActive_iff (s : State) {code : Nat} (h : code ≠ 0x0103) :
    s.codeActive code = true ↔ ∃ c ∈ s.brd.active, c.1 = code := by
  simp [State.codeActive, h]

/-- The codes that block every close (R508). -/
theorem State.thermal_iff (s : State) :
    (s.codeActive 0x0503 || s.codeActive 0x0506 || s.codeActive 0x0507 || s.codeActive 0x0508 || s.codeActive 0x0509) = true ↔
      ∃ c ∈ s.brd.active, c.1 ∈ [0x0503, 0x0506, 0x0507, 0x0508, 0x0509] := by
  simp only [Bool.or_eq_true, s.codeActive_iff (show 0x0503 ≠ 0x0103 by decide), s.codeActive_iff (show 0x0506 ≠ 0x0103 by decide),
    s.codeActive_iff (show 0x0507 ≠ 0x0103 by decide), s.codeActive_iff (show 0x0508 ≠ 0x0103 by decide),
    s.codeActive_iff (show 0x0509 ≠ 0x0103 by decide), ← exists_or, ← and_or_left, List.mem_cons, List.not_mem_nil, or_false, or_assoc]

/-- What blocks a close, by its path (R508). -/
theorem State.closeBlocked_eq (s : State) (w : Nat) : s.closeBlocked w = (s.isSet HRN_OV_CTRL_LATCHED || s.isSet CLK_STATUS_HOLD ||
    (s.codeActive 0x0503 || s.codeActive 0x0506 || s.codeActive 0x0507 || s.codeActive 0x0508 || s.codeActive 0x0509) ||
    (if w = 2 then s.codeActive 0x0101
      else decide ((0x0401, w) ∈ s.brd.active) || s.tripActive w || s.get (RING_STATUS_MON_LOST w) != 0
        || s.get (RING_STATUS_TOPO w) == 2)) := by
  unfold State.closeBlocked
  simp only [Bool.or_assoc]

theorem State.closeBlocked_isolation (s : State) : s.closeBlocked 2 = true ↔ (s.isSet HRN_OV_CTRL_LATCHED = true ∨
    s.isSet CLK_STATUS_HOLD = true ∨ (∃ c ∈ s.brd.active, c.1 ∈ [0x0503, 0x0506, 0x0507, 0x0508, 0x0509]) ∨
    ∃ c ∈ s.brd.active, c.1 = 0x0101) := by
  rw [s.closeBlocked_eq, if_pos rfl, Bool.or_eq_true, Bool.or_eq_true, Bool.or_eq_true, s.thermal_iff, s.codeActive_iff (by decide),
    or_assoc, or_assoc]

theorem State.closeBlocked_contactor (s : State) (x : StrNo) : s.closeBlocked x.val = true ↔ (s.isSet HRN_OV_CTRL_LATCHED = true ∨
    s.isSet CLK_STATUS_HOLD = true ∨ (∃ c ∈ s.brd.active, c.1 ∈ [0x0503, 0x0506, 0x0507, 0x0508, 0x0509]) ∨
    (0x0401, x.val) ∈ s.brd.active ∨ (∃ c ∈ s.brd.active, c.1 = 0x0403 ∧ c.2 / 52 = x.val) ∨
    s.get (RING_STATUS_MON_LOST x) ≠ 0 ∨ s.get (RING_STATUS_TOPO x) = 2) := by
  have htrip : s.tripActive x.val = true ↔ ∃ c ∈ s.brd.active, c.1 = 0x0403 ∧ c.2 / 52 = x.val := by
    simp [State.tripActive]
  rw [s.closeBlocked_eq, if_neg (by omega)]
  simp only [Bool.or_eq_true, s.thermal_iff, htrip, decide_eq_true_eq, bne_iff_ne, beq_iff_eq, or_assoc]

/-- A code of class F0 that neither lasts nor derates is logged and no more. -/
theorem State.raise_event {s : State} {code idx : Nat} (m t : Int) (hcls : s.classOf code idx = 0) (hlev : isLevel code = false)
    (hder : isDerating code = false) (hact : (code, idx) ∉ s.brd.active) : s.raise code idx m t = s.logCode code idx 0 m t := by
  unfold State.raise State.takeF0
  rw [if_neg hact]
  dsimp only
  rw [hcls, hlev, hder, if_neg (by decide), if_neg (by decide), if_pos rfl, if_neg Bool.false_ne_true, if_neg Bool.false_ne_true]

theorem exec_firmwareCloseRequest (s : State) (w : Fin 3) (hp : s.pins.powered = true) : exec (.firmwareCloseRequest w) s =
    if !s.boot.fwRuns then .next s
    else if s.closeBlocked w.val || !(s.inService || (s.shelf == stArming && s.boot.contRequested)) then .next s.refuseClose
    else .next (s.closeNow w.val) := by
  have hexec : exec (.firmwareCloseRequest w) s = execFirmwareCloseRequest w s := rfl
  rw [hexec]
  exact State.on_powered _ hp

/-- What is seen of a refused close: its code, unless it is already active (R25). -/
theorem State.refuseClose_shows (s : State) : s.refuseClose.pins.contEn = s.pins.contEn ∧ s.refuseClose.pins.isoEn = s.pins.isoEn ∧
    ((0x0605, 0) ∉ s.brd.active → s.refuseClose.get BRD_LAST_CODE = 0x0605) := by
  have hcalm : s.refuseClose.calm = s.calm := s.fresh.2.raise_calm _ _ rfl (by decide) (by decide)
  refine ⟨congrArg (fun x => x.pins.contEn) hcalm, congrArg (fun x => x.pins.isoEn) hcalm, fun hact => ?_⟩
  have hev : s.refuseClose = _ := State.raise_event (s := s.fresh.2) (signedOf 32 (s.fresh.1 % 2 ^ 32)) (signedOf 32 0) rfl rfl rfl hact
  rw [hev, State.get_of_seen (State.logCode_seen _ _ _ _ _ _) (.inl (by decide)), Seen.put_field]
  rfl

theorem exec_firmwareCloseRequest_refused {s : State} {w : Fin 3} (hp : s.pins.powered = true) (hfw : s.boot.fwRuns = true)
    (h : s.closeBlocked w.val = true ∨ s.inService = false ∧ (s.shelf ≠ stArming ∨ s.boot.contRequested = false)) :
    exec (.firmwareCloseRequest w) s = .next s.refuseClose := by
  rw [exec_firmwareCloseRequest s w hp, hfw, Bool.not_true, if_neg Bool.false_ne_true, if_pos]
  rcases h with h | ⟨hserv, h | h⟩
  · rw [h, Bool.true_or]
  · simp [hserv, h]
  · simp [hserv, h]

theorem exec_firmwareCloseRequest_taken {s : State} {w : Fin 3} (hp : s.pins.powered = true) (hfw : s.boot.fwRuns = true)
    (hblk : s.closeBlocked w.val = false) (h : s.inService = true ∨ s.shelf = stArming ∧ s.boot.contRequested = true) :
    exec (.firmwareCloseRequest w) s = .next (s.closeNow w.val) := by
  rw [exec_firmwareCloseRequest s w hp, hfw, Bool.not_true, if_neg Bool.false_ne_true, hblk, if_neg]
  rcases h with h | ⟨hshelf, hcont⟩
  · simp [h]
  · simp [hshelf, hcont]

theorem State.closeNow_eq (s : State) (w : Nat) : s.closeNow w = { s with
    pins := if s.tapHolds then s.pins else if w = 2 then { s.pins with isoEn := true }
      else { s.pins with contEn := s.pins.contEn.set w true } } := by
  unfold State.closeNow
  split <;> rfl

end Sys2Proof.Machine


namespace Sys2Proof.Machine

/-! ### The return of a string (R507) -/

theorem brd_of_apart {p : Parts} {s t : State} (h : t.apart p = s.apart p) : t.brd = s.brd := same_of_apart h State.brd

theorem State.enter_brd (s : State) {st : Nat} (harm : st ≠ stArming) (hpas : st ≠ stPassive) : (s.enter st).brd = s.brd := by
  have hrec : ∀ (t : State) (body : List Byte), (t.record kState 1 2 0 0 0 false body).brd = t.brd :=
    fun t body => brd_of_apart (t.record_apart (p := {}) _ _ _ _ _ _ _ _)
  have hfire : ∀ t : State, (t.fireOnState st).brd = t.brd := fun t =>
    brd_of_apart (p := {}) (forN_apart t fun l u => (apart_ite _ _).trans (by rw [u.fireList_apart, ite_self]))
  have hgrp : ∀ t : State, (forN 13 (fun g t =>
      if bitOf (t.get BRD_PENDING_GRP) g then t.set (HRN_GRP_CTRL_ENABLE g) 0 else t) t).brd = t.brd := fun t =>
    brd_of_apart (p := {}) (forN_apart t fun g u => (apart_ite _ _).trans (by rw [State.set_apart, ite_self]))
  have htune : ∀ t : State, (t.tuneAbort 4).brd = t.brd := by
    intro t
    unfold State.tuneAbort
    split
    · rfl
    · rw [State.raiseBit_brd]
      split <;> rfl
  have harmed : ∀ t : State, (if st = stArmed then t.bumpSat SYS_SHELF_STATE_ARM_COUNT 1 else t).brd = t.brd := by
    intro t
    split <;> rfl
  have hpend : ∀ t : State, (if st = stIsolated ∨ st = stLatched then
      { t.pendingOff with hrn := { t.hrn with phHold := none, freshDue := true } } else t).brd = t.brd := by
    intro t
    split
    · exact hgrp t
    · rfl
  have hhold : ∀ t : State, (if st = stIsolated then t else t.set SYS_SHELF_STATE_CLK_HOLD 0).brd = t.brd := by
    intro t
    split <;> rfl
  have hwait : ∀ t : State, t.showWait.brd = t.brd := fun t => rfl
  unfold State.enter
  by_cases h : s.shelf = st
  · rw [if_pos h]
  · rw [if_neg h]
    dsimp only
    rw [hwait, if_neg hpas, if_neg harm, hhold, hpend, harmed, htune, hfire, hrec, State.raiseBit_brd, State.set_brd]

theorem State.showDerate_brd (s : State) : s.showDerate.brd = s.brd := by
  unfold State.showDerate
  dsimp only
  split
  · exact State.enter_brd _ (by decide) (by decide)
  · split
    · exact State.enter_brd _ (by decide) (by decide)
    · rfl

theorem State.checkHoldoff_active (s : State) {c : Nat × Nat} (h : c ∈ s.checkHoldoff.brd.active) : c ∈ s.brd.active := by
  have heq : s.checkHoldoff.brd.active = s.fbSettle.brd.active := by
    unfold State.checkHoldoff
    dsimp only
    repeat' split
    all_goals rfl
  rw [heq] at h
  exact List.mem_of_mem_filter h

/-- A code that clears is no longer active, and no other becomes so (R418). -/
theorem State.unraise_active (s : State) (code idx : Nat) {c : Nat × Nat} (h : c ∈ (s.unraise code idx).brd.active) :
    c ∈ s.brd.active ∧ c ≠ (code, idx) := by
  have hderate : ∀ t : State, (if isDerating code then (t.raiseBit BRD_EVT_DERATE 243).showDerate else t).brd = t.brd := by
    intro t
    split
    · rw [State.showDerate_brd, State.raiseBit_brd]
    · rfl
  unfold State.unraise at h
  split at h
  next hact =>
    have h := State.checkHoldoff_active _ h
    rw [hderate] at h
    have h := List.mem_filter.1 h
    exact ⟨h.1, by simpa using h.2⟩
  next hact => exact ⟨h, fun hc => hact (hc ▸ h)⟩

theorem forL_unraise_active (l : List (Nat × Nat)) (s : State) {c : Nat × Nat}
    (h : c ∈ (forL l (fun d t => t.unraise d.1 d.2) s).brd.active) : c ∈ s.brd.active ∧ c ∉ l := by
  induction l generalizing s with
  | nil => exact ⟨h, List.not_mem_nil⟩
  | cons d l ih =>
    obtain ⟨hact, hl⟩ := ih _ h
    obtain ⟨hs, hd⟩ := s.unraise_active d.1 d.2 hact
    exact ⟨hs, fun hm => (List.mem_cons.1 hm).elim hd hl⟩

/-- What is seen beside the fields. -/
def State.bare (s : State) : Seen := { s.seen with field := fun _ => 0 }

theorem bare_of_calm {s t : State} (h : t.calm = s.calm) : t.bare = s.bare := congrArg (fun x : Seen => { x with field := fun _ => 0 }) h

/-- FORCE_SHED of a list of channels is cleared. -/
def State.unforce (s : State) (l : List Nat) : State := forL l (fun n t => t.clear (HRN_CH_CTRL_FORCE_SHED n)) s

theorem State.unforce_bare (s : State) (l : List Nat) : (s.unforce l).bare = s.bare := by
  induction l generalizing s with
  | nil => rfl
  | cons n l ih => exact (ih (s.clear (HRN_CH_CTRL_FORCE_SHED n))).trans rfl

theorem State.clearForce_keeps (s : State) (m : Nat) {n : Nat} (h : s.get (HRN_CH_CTRL_FORCE_SHED n) = 0) :
    (s.clear (HRN_CH_CTRL_FORCE_SHED m)).get (HRN_CH_CTRL_FORCE_SHED n) = 0 := by
  by_cases hm : m = n
  · rw [hm]
    exact s.get_set_same _ 0 (by decide : 4 + 1 ≤ 32)
  · refine (s.get_set_apart _ _ 0 (.inl ?_)).trans h
    show 0x100000 + 0x100 * m ≠ 0x100000 + 0x100 * n
    omega

theorem State.unforce_keeps (s : State) (l : List Nat) {n : Nat} (h : s.get (HRN_CH_CTRL_FORCE_SHED n) = 0) :
    (s.unforce l).get (HRN_CH_CTRL_FORCE_SHED n) = 0 := by
  induction l generalizing s with
  | nil => exact h
  | cons m l ih => exact ih _ (s.clearForce_keeps m h)

theorem State.unforce_clears (s : State) {l : List Nat} {n : Nat} (h : n ∈ l) : (s.unforce l).get (HRN_CH_CTRL_FORCE_SHED n) = 0 := by
  induction l generalizing s with
  | nil => exact absurd h List.not_mem_nil
  | cons m l ih =>
    rcases List.mem_cons.1 h with rfl | h
    · exact State.unforce_keeps _ l (s.get_set_same _ 0 (by decide : 4 + 1 ≤ 32))
    · exact ih _ h

theorem mem_stringChans {n x : Nat} (hn : n < 104) (h : chanString n = x) : n ∈ stringChans x :=
  List.mem_filter.2 ⟨List.mem_range.2 hn, by simpa using h⟩

/-- A string that is back: its FORCE_SHED and its codes are cleared, and neither STR_OUT nor a return holds it (R507). -/
theorem State.strReturned_shows (s : State) (x : StrNo) : (s.strReturned x.val).pins.contEn = s.pins.contEn ∧
    x.val ∉ (s.strReturned x.val).brd.returning ∧ (s.strReturned x.val).brd.strOut = s.brd.strOut.filter (· != x.val) ∧
    (∀ n : Fin 104, chanString n = x.val → (s.strReturned x.val).isSet (HRN_CH_CTRL_FORCE_SHED n) = false) ∧
    (0x0409, x.val) ∉ (s.strReturned x.val).brd.active ∧
    ∀ m : Fin 4, (0x0408, 4 * x.val + m.val) ∉ (s.strReturned x.val).brd.active := by
  have hcodes : ∀ (l : List (Nat × Nat)) (t : State), (forL l (fun c u => u.unraise c.1 c.2) t).calm = t.calm :=
    fun l t => forL_calm t fun c u => u.unraise_calm c.1 c.2
  let u : State := { s with
    brd := { s.brd with strOut := s.brd.strOut.filter (· != x.val), returning := s.brd.returning.filter (· != x.val) } }
  let t : State := u.unforce (stringChans x.val)
  let codes := t.brd.active.filter fun c => (c.1 == 0x0408 && c.2 / 4 == x.val) || (c.1 == 0x0409 && c.2 == x.val)
  have hret : s.strReturned x.val = forL codes (fun c u => u.unraise c.1 c.2) t := rfl
  have hcalm : (s.strReturned x.val).calm = t.calm := hret ▸ hcodes codes t
  have hbare : (s.strReturned x.val).bare = u.bare := (bare_of_calm hcalm).trans (u.unforce_bare _)
  have hgone : ∀ c ∈ (s.strReturned x.val).brd.active, ¬(((c.1 == 0x0408 && c.2 / 4 == x.val) || (c.1 == 0x0409 && c.2 == x.val)) = true) := by
    intro c hc hcode
    rw [hret] at hc
    obtain ⟨ht, hl⟩ := forL_unraise_active codes t hc
    exact hl (List.mem_filter.2 ⟨ht, hcode⟩)
  refine ⟨congrArg (fun y => y.pins.contEn) hbare, ?_, congrArg Seen.strOut hbare, ?_, ?_, ?_⟩
  · rw [show (s.strReturned x.val).brd.returning = s.brd.returning.filter (· != x.val) from congrArg Seen.returning hbare]
    simp
  · intro n hn
    unfold State.isSet
    rw [get_of_calm hcalm (.inr ⟨n, rfl⟩) (by simp [HRN_CH_CTRL_FORCE_SHED, SYS_SHELF_STATE_STATE])
      (by simp [HRN_CH_CTRL_FORCE_SHED, BRD_LAST_CODE]), show t.get _ = 0 from u.unforce_clears (mem_stringChans n.isLt hn)]
    rfl
  · intro h
    exact hgone _ h (by simp)
  · intro m h
    exact hgone _ h (by simp; omega)

theorem exec_stringReturn (s : State) (x : StrNo) (hp : s.pins.powered = true) : exec (.stringReturn x) s =
    if decide (x.val ∈ s.brd.returning) && s.contFb x.val then .next (s.strReturned x.val)
    else if s.mayReturn x.val && !decide (x.val ∈ s.brd.openDue) then
      if s.contFb x.val then .next (State.strReturned { s.closeNow x.val with
        brd := { s.brd with returning := addOnce s.brd.returning x.val } } x.val)
      else .next { s.closeNow x.val with brd := { s.brd with returning := addOnce s.brd.returning x.val } }
    else .next s := by
  have hexec : exec (.stringReturn x) s = execStringReturn x s := rfl
  rw [hexec]
  unfold execStringReturn
  rw [State.on_powered _ hp, s.closeNow_eq]
  rfl

theorem State.mayReturn_iff (s : State) (x : StrNo) : s.mayReturn x.val = true ↔ s.inService = true ∧ x.val ∈ s.brd.strOut ∧
    s.closeBlocked x.val = false ∧ (∀ m : Fin 4, s.get (RING_MON_STATUS_MSTATE x m) = 1) ∧
    ∀ p : Fin 52, s.isSet (cellBit x p 29) = false ∧ s.isSet (cellBit x p 26) = false := by
  unfold State.mayReturn State.monSt
  simp only [Bool.and_eq_true, decide_eq_true_eq, Bool.not_eq_true', List.all_eq_true, List.mem_range, beq_iff_eq, and_assoc, Fin.forall_iff]

end Sys2Proof.Machine


namespace Sys2Proof.Machine

/-! ### The watchdog and the firmware's restart (R415, R420) -/

theorem State.clearCauses_seen (s : State) : s.clearCauses.seen = { s.seen with causes := [] } :=
  (State.showCauses_seen _).trans rfl

theorem State.join_seen (s : State) (code cls : Nat) : ∃ l, (s.join code cls).seen = { s.seen with causes := l } :=
  ⟨_, (State.showCauses_seen _).trans rfl⟩

/-- A latch with another set of causes. -/
def Seen.latch (x : Seen) (l : List (Nat × Nat)) : Seen := ({ x with causes := l }.isolate stLatched).put BRD_STATUS_RECOV 0

/-- The isolation of a recovery start, with another set of causes. -/
def Seen.recover (x : Seen) (l : List (Nat × Nat)) : Seen := ({ x with causes := l }.put BRD_STATUS_RECOV 1).isolate stIsolated

/-- A storm latches under 0x0708 (R423). -/
theorem State.storm_seen (s : State) {code : Nat} (hov : code ≠ 0x0103) :
    ∃ l, (s.storm code).seen = (s.seen.put BRD_LAST_CODE 0x0708).latch l := by
  have hlog : ((((s.logCode 0x0708 0 3 0 0).raiseBit BRD_EVT_STORM 243).bumpSat BRD_COUNT_STORMS 1)).seen =
      s.seen.put BRD_LAST_CODE 0x0708 := by
    rw [State.bumpSat_seen _ _ (by decide), State.raiseBit_seen _ _ (by decide), State.logCode_seen]
  obtain ⟨l, hjoin⟩ := State.join_seen (((s.logCode 0x0708 0 3 0 0).raiseBit BRD_EVT_STORM 243).bumpSat BRD_COUNT_STORMS 1) 0x0708 3
  refine ⟨l, ?_⟩
  unfold State.storm
  rw [if_neg hov]
  dsimp only
  rw [if_neg hov, State.latch_seen _ (by decide), hjoin, hlog]
  rfl

/-- A recovery start isolates, or it is the storm (R421 to R423). -/
theorem State.startRecovery_seen (s : State) {code : Nat} (idx : Nat) (fresh : Bool) (hov : code ≠ 0x0103) (hbus : code ≠ 0x0601) :
    ∃ l, (s.startRecovery code idx fresh).seen = s.seen.recover l ∨
      (s.startRecovery code idx fresh).seen = (s.seen.put BRD_LAST_CODE 0x0708).latch l := by
  have hjoin : ∃ l, ((if fresh then s.clearCauses else s).join code 2).seen = { s.seen with causes := l } := by
    obtain ⟨l, h⟩ := (if fresh then s.clearCauses else s).join_seen code 2
    refine ⟨l, h.trans ?_⟩
    cases fresh
    · rfl
    · rw [if_pos rfl, s.clearCauses_seen]
  have hstart : ∀ (t : State) (starts : List Nat), State.seen { t with brd := { t.brd with starts := starts, holdoff := none } } = t.seen :=
    fun t starts => rfl
  obtain ⟨l, hl⟩ := hjoin
  unfold State.startRecovery
  dsimp only
  generalize (if fresh then s.clearCauses else s).join code 2 = b at hl ⊢
  split
  · obtain ⟨m, hm⟩ := b.storm_seen hov
    refine ⟨m, .inr ?_⟩
    rw [hm, hl]
    rfl
  · refine ⟨l, .inl ?_⟩
    rw [State.checkHoldoff_seen, State.isolate_seen _ _ _ hov (by decide) (by decide),
      State.put_seen _ 1 (.inl (by decide)), hstart, hl]
    rfl

/-- An F2 code other than 0x0103 and 0x0601 joins the set, isolates, or is the storm (R421 to R423, R432). -/
theorem State.takeF2_seen (s : State) {code : Nat} (idx : Nat) (hov : code ≠ 0x0103) (hbus : code ≠ 0x0601) :
    ∃ l, (s.armedStates = false ∧ (s.takeF2 code idx).seen = { s.seen with causes := l }) ∨ (s.takeF2 code idx).seen = s.seen.recover l ∨
      (s.takeF2 code idx).seen = (s.seen.put BRD_LAST_CODE 0x0708).latch l := by
  have hstart := s.startRecovery_seen idx (s.get BRD_STATUS_RECOV == 0) hov hbus
  unfold State.takeF2
  cases s.armedStates
  · rw [if_neg Bool.false_ne_true]
    split
    · split
      · refine ⟨s.brd.causes, .inl ⟨rfl, ?_⟩⟩
        rw [State.checkHoldoff_seen, State.openDue_seen, State.jnlTrigger_seen]
        rfl
      · exact hstart.imp fun _ => Or.inr
    · split
      · exact (s.join_seen code 2).imp fun _ h => .inl ⟨rfl, h⟩
      · exact ⟨s.brd.causes, .inl ⟨rfl, rfl⟩⟩
  · rw [if_pos rfl]
    exact hstart.imp fun _ => Or.inr

theorem State.takeF3_seen_of_armed (s : State) {code : Nat} (hov : code ≠ 0x0103) (h : s.armedStates = true ∨ s.shelf = stIsolated) :
    ∃ l, (s.takeF3 code).seen = s.seen.latch l := by
  have hcond : (s.armedStates || s.shelf == stIsolated) = true := by simpa using h
  have hclear : (if s.get BRD_STATUS_RECOV = 0 then s.clearCauses else s).seen =
      { s.seen with causes := (if s.get BRD_STATUS_RECOV = 0 then s.clearCauses else s).brd.causes } := by
    split
    · exact s.clearCauses_seen
    · rfl
  obtain ⟨l, hl⟩ := (if s.get BRD_STATUS_RECOV = 0 then s.clearCauses else s).join_seen code 3
  refine ⟨l, ?_⟩
  unfold State.takeF3
  rw [if_pos hcond]
  dsimp only
  rw [if_neg hov, State.latch_seen _ hov, hl, hclear]
  rfl

theorem State.takeF3_seen_of_unarmed (s : State) (code : Nat) (harm : s.armedStates = false) (hiso : s.shelf ≠ stIsolated) :
    ∃ l, (s.takeF3 code).seen = { s.seen with causes := l } := by
  have hcond : (s.armedStates || s.shelf == stIsolated) = false := by simp [harm, hiso]
  unfold State.takeF3
  rw [hcond, if_neg Bool.false_ne_true]
  split
  · exact s.join_seen code 3
  · exact ⟨s.brd.causes, rfl⟩

theorem State.armedStates_of_shelf {s t : State} (h : t.shelf = s.shelf) : t.armedStates = s.armedStates := by
  unfold State.armedStates State.inService
  rw [h]

end Sys2Proof.Machine


namespace Sys2Proof.Machine

/-- What an F2 code other than 0x0103 and 0x0601 leaves, and where it leads in an armed state (R421, R423, R432). -/
theorem State.takeF2_shows (s : State) {code : Nat} (idx : Nat) (hov : code ≠ 0x0103) (hbus : code ≠ 0x0601) :
    (s.takeF2 code idx).boot.fwRuns = s.boot.fwRuns ∧ (s.takeF2 code idx).brd.fwRestart = s.brd.fwRestart ∧
    (s.takeF2 code idx).pins.pumpDuty = s.pins.pumpDuty ∧ (s.takeF2 code idx).get BRD_STATUS_WDT_RUN = s.get BRD_STATUS_WDT_RUN ∧
    ((s.takeF2 code idx).get BRD_LAST_CODE = s.get BRD_LAST_CODE ∨ (s.takeF2 code idx).get BRD_LAST_CODE = 0x0708) ∧
    (s.armedStates = true → (s.takeF2 code idx).pins.isoEn = false ∧
      ((s.takeF2 code idx).shelf = stIsolated ∨ (s.takeF2 code idx).shelf = stLatched)) := by
  obtain ⟨l, ⟨harm, h⟩ | h | h⟩ := s.takeF2_seen idx hov hbus
  · exact ⟨congrArg (fun x => x.boot.fwRuns) h, congrArg Seen.fwRestart h, congrArg (fun x => x.pins.pumpDuty) h,
      State.get_of_seen h (.inl (by decide)), .inl (State.get_of_seen h (.inl (by decide))),
      fun ht => absurd (harm.symm.trans ht) Bool.false_ne_true⟩
  · exact ⟨congrArg (fun x => x.boot.fwRuns) h, congrArg Seen.fwRestart h, congrArg (fun x => x.pins.pumpDuty) h,
      State.get_of_seen h (.inl (by decide)), .inl (State.get_of_seen h (.inl (by decide))),
      fun _ => ⟨congrArg (fun x => x.pins.isoEn) h, .inl (State.get_of_seen h (.inl (by decide)))⟩⟩
  · exact ⟨congrArg (fun x => x.boot.fwRuns) h, congrArg Seen.fwRestart h, congrArg (fun x => x.pins.pumpDuty) h,
      State.get_of_seen h (.inl (by decide)), .inr (State.get_of_seen h (.inl (by decide))),
      fun _ => ⟨congrArg (fun x => x.pins.isoEn) h, .inr (State.get_of_seen h (.inl (by decide)))⟩⟩

theorem exec_watchdogKick (s : State) (hp : s.pins.powered = true) : exec .watchdogKick s =
    if s.boot.fwRuns && s.get BOOT_STATUS_BUNDLE == 4 then .next (s.set BRD_STATUS_WDT_RUN 1) else .next s := by
  have hexec : exec .watchdogKick s = execWatchdogKick s := rfl
  rw [hexec]
  exact State.on_powered _ hp

/-- The state in which the watchdog's expiry raises 0x0603: the firmware stopped, the pumps at full speed (R420). -/
def State.watchdogTripped (s : State) : State :=
  { (s.clear BRD_STATUS_WDT_RUN).pumpsFull with boot := { s.boot with fwRuns := false }, brd := { s.brd with fwRestart := true } }

theorem exec_watchdogExpiry (s : State) (hp : s.pins.powered = true) : exec .watchdogExpiry s =
    if s.isSet BRD_STATUS_WDT_RUN then .next (s.watchdogTripped.raise 0x0603 0 (s.watchdogTripped.get BRD_WDT_CFG_TMO_MS)
      (s.watchdogTripped.get BRD_WDT_CFG_TMO_MS)) else .next s := by
  have hexec : exec .watchdogExpiry s = execWatchdogExpiry s := rfl
  rw [hexec]
  exact State.on_powered _ hp

theorem State.watchdogTripped_wdtRun (s : State) : s.watchdogTripped.get BRD_STATUS_WDT_RUN = 0 := s.get_set_same _ 0 (by decide)

theorem State.watchdogTripped_shelf (s : State) : s.watchdogTripped.shelf = s.shelf := s.get_set_apart _ _ 0 (.inl (by decide))

/-- 0x0603 with index 0 is of class F2 and does not last (R417). -/
theorem State.raise_watchdog (s : State) (m t : Int) : s.raise 0x0603 0 m t =
    if (0x0603, 0) ∈ s.brd.active then s.alarmRepeat 0x0603 else (s.logCode 0x0603 0 2 m t).takeF2 0x0603 0 := by
  have hcls : s.classOf 0x0603 0 = 2 := rfl
  have hlev : isLevel 0x0603 = false := rfl
  unfold State.raise
  dsimp only
  rw [hcls, hlev, if_neg (show (2 : Nat) ≠ 3 by decide), if_pos rfl, if_neg Bool.false_ne_true]

theorem exec_watchdogExpiry_running {s : State} (hp : s.pins.powered = true) (hrun : s.isSet BRD_STATUS_WDT_RUN = true) :
    ∃ t, exec .watchdogExpiry s = .next t ∧ t.boot.fwRuns = false ∧ t.brd.fwRestart = true ∧ t.pins.pumpDuty = [100, 100] ∧
      t.isSet BRD_STATUS_WDT_RUN = false ∧ (s.brd.active = [] → t.get BRD_LAST_CODE = 0x0603 ∨ t.get BRD_LAST_CODE = 0x0708) ∧
      (s.brd.active = [] → s.armedStates = true → t.pins.isoEn = false ∧ (t.shelf = stIsolated ∨ t.shelf = stLatched)) := by
  have hrun' := exec_watchdogExpiry s hp
  have hwdt : ∀ t : State, t.get BRD_STATUS_WDT_RUN = 0 → t.isSet BRD_STATUS_WDT_RUN = false := by
    intro t h
    unfold State.isSet
    rw [h]
    rfl
  rw [if_pos hrun, State.raise_watchdog] at hrun'
  by_cases hact : (0x0603, 0) ∈ s.watchdogTripped.brd.active
  · have hne : s.brd.active ≠ [] := List.ne_nil_of_mem hact
    rw [if_pos hact] at hrun'
    exact ⟨_, hrun', rfl, rfl, rfl, hwdt _ s.watchdogTripped_wdtRun, fun h => absurd h hne, fun h => absurd h hne⟩
  · rw [if_neg hact] at hrun'
    generalize s.watchdogTripped.get BRD_WDT_CFG_TMO_MS = k at hrun'
    have hlog := s.watchdogTripped.logCode_seen 0x0603 0 2 k k
    generalize s.watchdogTripped.logCode 0x0603 0 2 k k = b at hrun' hlog
    obtain ⟨hfw, hrestart, hpump, hw, hlast, harm⟩ :=
      b.takeF2_shows 0 (show 0x0603 ≠ 0x0103 by decide) (show 0x0603 ≠ 0x0601 by decide)
    refine ⟨_, hrun', hfw.trans (congrArg (fun x => x.boot.fwRuns) hlog), hrestart.trans (congrArg Seen.fwRestart hlog),
      hpump.trans (congrArg (fun x => x.pins.pumpDuty) hlog), ?_, fun _ => ?_, fun _ h => harm ?_⟩
    · exact hwdt _ (hw.trans ((State.get_of_seen hlog (.inl (by decide))).trans s.watchdogTripped_wdtRun))
    · exact hlast.imp_left fun h => h.trans (State.get_of_seen hlog (.inl (by decide)))
    · rw [← h]
      exact State.armedStates_of_shelf ((State.get_of_seen hlog (.inl (by decide))).trans s.watchdogTripped_shelf)

end Sys2Proof.Machine


namespace Sys2Proof.Machine

/-! ### A failed restart (R420) -/

@[simp] theorem State.showAck_seen (s : State) : s.showAck.seen = s.seen := s.set_seen _ (by decide)

theorem State.bundleTo_seen (s : State) (k : Nat) : (s.bundleTo k).seen = s.seen.put BOOT_STATUS_BUNDLE k := by
  have hset : ((s.set BOOT_STATUS_BUNDLE k).showWait).seen = s.seen.put BOOT_STATUS_BUNDLE k :=
    (State.showWait_seen _).trans (s.put_seen k (.inl (by decide)))
  exact seen_ite_of ((State.raiseBit_seen _ _ (by decide)).trans hset) hset

/-- The state in which a failed restart takes 0x0603 at class F3. -/
def State.restartFailed (s : State) : State :=
  ((State.bundleTo { s with brd := { s.brd with fwRestart := false } } 5).set SEC_SVN_LOADED_SVN 0xFF).logCode 0x0603 0 3 0 0

theorem State.restartFailed_seen (s : State) : s.restartFailed.seen =
    (({ s.seen with fwRestart := false }.put BOOT_STATUS_BUNDLE 5).put SEC_SVN_LOADED_SVN 0xFF).put BRD_LAST_CODE 0x0603 := by
  unfold State.restartFailed
  rw [State.logCode_seen, State.put_seen _ _ (.inl (by decide)), State.bundleTo_seen]
  rfl

theorem exec_firmwareRestartComplete (s : State) (ok : Bool) (hp : s.pins.powered = true) :
    exec (.firmwareRestartComplete ok) s = if !s.brd.fwRestart then .next s
      else if ok && s.tackWhole then .next s.fwStart else .next (s.restartFailed.takeF3 0x0603).showWait.showAck := by
  have hexec : exec (.firmwareRestartComplete ok) s = execFirmwareRestartComplete ok s := rfl
  rw [hexec]
  exact State.on_powered _ hp

theorem exec_firmwareRestartComplete_failed {s : State} {ok : Bool} (hp : s.pins.powered = true) (hrestart : s.brd.fwRestart = true)
    (h : ok = false ∨ s.rmt.tackMap.all (· < 5) = false) :
    exec (.firmwareRestartComplete ok) s = .next (s.restartFailed.takeF3 0x0603).showWait.showAck := by
  have hno : ¬(ok && s.tackWhole) = true := by
    unfold State.tackWhole
    rcases h with h | h <;> simp [h]
  rw [exec_firmwareRestartComplete s ok hp, hrestart, Bool.not_true, if_neg Bool.false_ne_true, if_neg hno]

theorem State.restartFailed_shelf (s : State) : s.restartFailed.shelf = s.shelf := State.get_of_seen s.restartFailed_seen (.inl (by decide))

/-- A failed restart in a state with power electronics on latches (R420). -/
theorem exec_firmwareRestartComplete_latched {s : State} {ok : Bool} (hp : s.pins.powered = true) (hrestart : s.brd.fwRestart = true)
    (h : ok = false ∨ s.rmt.tackMap.all (· < 5) = false) (hon : s.armedStates = true ∨ s.shelf = stIsolated) :
    ∃ t, exec (.firmwareRestartComplete ok) s = .next t ∧ t.shelf = stLatched ∧ t.brd.fwRestart = false ∧
      t.get BOOT_STATUS_BUNDLE = 5 ∧ t.pins.isoEn = false ∧ t.boot.fwRuns = s.boot.fwRuns ∧ t.get SEC_SVN_LOADED_SVN = 0xFF ∧
      t.get BRD_LAST_CODE = 0x0603 := by
  have hon' : s.restartFailed.armedStates = true ∨ s.restartFailed.shelf = stIsolated := by
    rw [State.armedStates_of_shelf s.restartFailed_shelf, s.restartFailed_shelf]
    exact hon
  obtain ⟨l, hl⟩ := s.restartFailed.takeF3_seen_of_armed (show 0x0603 ≠ 0x0103 by decide) hon'
  have hseen := (State.showAck_seen _).trans ((State.showWait_seen _).trans hl)
  rw [s.restartFailed_seen] at hseen
  have hrun := exec_firmwareRestartComplete_failed hp hrestart h
  generalize (s.restartFailed.takeF3 0x0603).showWait.showAck = t at hseen hrun
  exact ⟨t, hrun, State.get_of_seen hseen (.inl (by decide)), congrArg Seen.fwRestart hseen,
    State.get_of_seen hseen (.inl (by decide)), congrArg (fun x => x.pins.isoEn) hseen, congrArg (fun x => x.boot.fwRuns) hseen,
    State.get_of_seen hseen (.inl (by decide)), State.get_of_seen hseen (.inl (by decide))⟩

/-- A failed restart elsewhere leaves the shelf state (R420). -/
theorem exec_firmwareRestartComplete_rejected {s : State} {ok : Bool} (hp : s.pins.powered = true) (hrestart : s.brd.fwRestart = true)
    (h : ok = false ∨ s.rmt.tackMap.all (· < 5) = false) (harm : s.armedStates = false) (hiso : s.shelf ≠ stIsolated) :
    ∃ t, exec (.firmwareRestartComplete ok) s = .next t ∧ t.shelf = s.shelf ∧ t.brd.fwRestart = false ∧
      t.get BOOT_STATUS_BUNDLE = 5 ∧ t.get BRD_LAST_CODE = 0x0603 := by
  obtain ⟨l, hl⟩ := s.restartFailed.takeF3_seen_of_unarmed 0x0603 ((State.armedStates_of_shelf s.restartFailed_shelf).trans harm)
    (by rw [s.restartFailed_shelf]; exact hiso)
  have hseen := (State.showAck_seen _).trans ((State.showWait_seen _).trans hl)
  rw [s.restartFailed_seen] at hseen
  have hrun := exec_firmwareRestartComplete_failed hp hrestart h
  generalize (s.restartFailed.takeF3 0x0603).showWait.showAck = t at hseen hrun
  exact ⟨t, hrun, State.get_of_seen hseen (.inl (by decide)), congrArg Seen.fwRestart hseen,
    State.get_of_seen hseen (.inl (by decide)), State.get_of_seen hseen (.inl (by decide))⟩

/-! ### Recovery (R421) -/

/-- What is seen but for the channels' FORCE_SHED, which an entry of ARMING clears. -/
def State.unforced (s : State) : Seen := { s.seen with field := fun f => if f.1 ∈ seenFields then s.get f.1 else 0 }

theorem unforced_of_seen {s t : State} (h : t.seen = s.seen) : t.unforced = s.unforced := by
  have hget : ∀ f : { f : Field // Shown f }, t.get f = s.get f := fun f => State.get_of_seen h f.2
  unfold State.unforced
  rw [h]
  simp only [hget]

theorem State.clearForce_unforced (s : State) {n : Nat} (hn : n < 104) :
    (s.clear (HRN_CH_CTRL_FORCE_SHED n)).unforced = s.unforced := by
  have hlow : ∀ f ∈ seenFields, f.addr < 0x100000 ∨ 0x106800 ≤ f.addr := by decide
  have hfield : (fun f : { f : Field // Shown f } => if f.1 ∈ seenFields then (s.clear (HRN_CH_CTRL_FORCE_SHED n)).get f.1 else 0) =
      fun f => if f.1 ∈ seenFields then s.get f.1 else 0 := by
    funext f
    split
    next hf =>
      have := hlow f.1 hf
      refine s.get_set_apart _ _ 0 (.inl ?_)
      show 0x100000 + 0x100 * n ≠ f.1.addr
      omega
    · rfl
  exact congrArg (fun g => { s.seen with field := g }) hfield

theorem State.unforce_unforced (s : State) {l : List Nat} (hl : ∀ n ∈ l, n < 104) : (s.unforce l).unforced = s.unforced := by
  induction l generalizing s with
  | nil => rfl
  | cons n l ih =>
    exact (ih _ fun m hm => hl m (List.mem_cons_of_mem n hm)).trans (s.clearForce_unforced (hl n List.mem_cons_self))

theorem lt_of_mem_stringChans {n x : Nat} (h : n ∈ stringChans x) : n < 104 := List.mem_range.1 (List.mem_of_mem_filter h)

theorem State.dropCodes_seen (s : State) (p : Nat → Bool) : (s.dropCodes p).seen = s.seen := by
  have hset : ∀ (t : State) (b : Bool), (t.setB BRD_STATUS_DERATE b).seen = t.seen := fun t b => t.set_seen _ (by decide)
  unfold State.dropCodes
  exact seen_ite_of ((State.raiseBit_seen _ _ (by decide)).trans (hset _ _)) (hset _ _)

theorem State.groupsFresh_seen (s : State) : s.groupsFresh.seen = s.seen := by
  have hused : ∀ (g : Nat) (t : State), (t.set (HRN_GRP_STATUS_RETRIES_USED g) 0).seen = t.seen :=
    fun g t => t.set_seen 0 (Hidden.field (hidden_grpStatus g))
  unfold State.groupsFresh
  refine seen_ite_of ?_ rfl
  exact forN_seen s fun g _ t => seen_ite_of ((State.setGrpState_seen _ g 1).trans (hused g t)) (hused g t)

/-- Entering ARMING shows the state and ends every STR_OUT (R507). -/
theorem State.enterArming_unforced (s : State) (h : s.shelf ≠ stArming) : (s.enter stArming).unforced =
    { State.unforced (s.set SYS_SHELF_STATE_STATE stArming) with strOut := [], returning := [] } := by
  have hstr : ∀ t : State, t.strOutEnd.unforced = { t.unforced with strOut := [], returning := [] } := by
    intro t
    have hclear : (forL t.brd.strOut (fun x u => u.unforce (stringChans x)) t).unforced = t.unforced := by
      induction t.brd.strOut generalizing t with
      | nil => rfl
      | cons x l ih => exact (ih _).trans (t.unforce_unforced fun n => lt_of_mem_stringChans)
    have hend : ∀ u : State, State.unforced { u with brd := { u.brd with strOut := [], returning := [] } } =
        { u.unforced with strOut := [], returning := [] } := fun u => rfl
    exact (unforced_of_seen (State.dropCodes_seen _ _)).trans ((hend _).trans (congrArg (fun y : Seen => { y with strOut := [], returning := [] }) hclear))
  have hhold : ∀ t : State, (t.set SYS_SHELF_STATE_CLK_HOLD 0).seen = t.seen := fun t => t.set_seen 0 (by decide)
  unfold State.enter
  rw [if_neg h]
  dsimp only
  rw [unforced_of_seen (State.showWait_seen _), if_neg (by decide), if_pos rfl, unforced_of_seen (State.groupsFresh_seen _), hstr,
    if_neg (by decide), if_neg (by decide), if_neg (by decide)]
  have hbefore := (hhold _).trans ((State.tuneAbort_seen (((s.set SYS_SHELF_STATE_STATE stArming).raiseBit SYS_EVT_STATE_CHG 224).record kState 1 2
    0 0 0 false (leBytes 1 s.shelf ++ leBytes 1 stArming) |>.fireOnState stArming) 4).trans ((State.fireOnState_seen _ _).trans
    ((State.record_seen _ _ _ _ _ _ _ _ _).trans (State.raiseBit_seen _ _ (by decide)))))
  rw [unforced_of_seen hbefore]

end Sys2Proof.Machine


namespace Sys2Proof.Machine

/-! ### The hold-off and the settle time (R421) -/

theorem exec_holdoffExpiry (s : State) (hp : s.pins.powered = true) : exec .holdoffExpiry s =
    if s.get BRD_STATUS_RECOV = 1 ∧ s.brd.holdoff.isSome ∧ s.shelf = stIsolated ∧ !s.boot.disarmKept then
      .next (State.beginArming ({ s with brd := { s.brd with holdoff := none } }.set BRD_STATUS_RECOV 2) true)
    else .next s := by
  have hexec : exec .holdoffExpiry s = execHoldoffExpiry s := rfl
  rw [hexec]
  exact State.on_powered _ hp

/-- The state in which an attempt at arming enters ARMING. -/
def State.armingAsked (s : State) (rearm : Bool) : State :=
  { s with
    boot := { s.boot with armStep := 1, contRequested := false, rearm := rearm, retryWait := false }
    brd := { s.brd with ssWindow := false, ssOff := false } }

/-- The hold-off's expiry re-arms (R421). -/
theorem exec_holdoffExpiry_rearms {s : State} (hp : s.pins.powered = true) (hrecov : s.get BRD_STATUS_RECOV = 1)
    (hhold : s.brd.holdoff.isSome = true) (hiso : s.shelf = stIsolated) (hkept : s.boot.disarmKept = false) :
    ∃ t, exec .holdoffExpiry s = .next t ∧ t.shelf = stArming ∧ t.get BRD_STATUS_RECOV = 2 ∧ t.boot.armStep = 1 ∧
      t.boot.rearm = true ∧ t.brd.strOut = [] ∧ t.brd.causes = s.brd.causes ∧ t.pins.isoEn = s.pins.isoEn := by
  let u : State := { s with brd := { s.brd with holdoff := none } }.set BRD_STATUS_RECOV 2
  have hrun := exec_holdoffExpiry s hp
  rw [if_pos ⟨hrecov, hhold, hiso, by rw [hkept]; rfl⟩] at hrun
  have hshelf : (u.armingAsked true).shelf = stIsolated := (s.get_set_apart BRD_STATUS_RECOV SYS_SHELF_STATE_STATE 2 (.inl (by decide))).trans hiso
  have henter := (u.armingAsked true).enterArming_unforced (by rw [hshelf]; decide)
  have hfield : ∀ f, f ∈ seenFields → ((u.armingAsked true).enter stArming).get f =
      ((u.armingAsked true).set SYS_SHELF_STATE_STATE stArming).get f := by
    intro f hf
    have hval : ∀ v : State, v.unforced.field ⟨f, .inl hf⟩ = v.get f := fun v => if_pos hf
    rw [← hval, henter]
    exact hval _
  refine ⟨(u.armingAsked true).enter stArming, hrun, ?_, ?_, congrArg (fun x => x.boot.armStep) henter,
    congrArg (fun x => x.boot.rearm) henter, congrArg Seen.strOut henter, congrArg Seen.causes henter,
    congrArg (fun x => x.pins.isoEn) henter⟩
  · exact (hfield SYS_SHELF_STATE_STATE (by decide)).trans (State.get_set_same _ _ _ (by decide))
  · exact (hfield BRD_STATUS_RECOV (by decide)).trans ((State.get_set_apart _ _ _ _ (.inl (by decide))).trans
      (State.get_set_same { s with brd := { s.brd with holdoff := none } } BRD_STATUS_RECOV 2 (by decide)))

theorem exec_settleExpiry (s : State) (hp : s.pins.powered = true) : exec .settleExpiry s =
    if s.get BRD_STATUS_RECOV = 3 ∧ s.inService then .next (s.set BRD_STATUS_RECOV 0).clearCauses else .next s := by
  have hexec : exec .settleExpiry s = execSettleExpiry s := rfl
  rw [hexec]
  exact State.on_powered _ hp

/-- Showing the causes leaves what Bridle keeps. -/
theorem State.showCauses_brd (s : State) : s.showCauses.brd = s.brd := by
  have hcause : ∀ (cs : List Nat) (t : State), (forN 4 (fun i t =>
      (t.set (BRD_CAUSE_EVEN i) (cs.getD (2 * i) 0)).set (BRD_CAUSE_ODD i) (cs.getD (2 * i + 1) 0)) t).brd = t.brd :=
    fun cs t => brd_of_apart (p := {}) (forN_apart t fun i u => rfl)
  unfold State.showCauses
  dsimp only
  rw [State.set_brd, State.setB_eq, State.set_brd, hcause]

/-- The settle time's expiry ends the recovery with its cause set (R421). -/
theorem exec_settleExpiry_ends {s : State} (hp : s.pins.powered = true) (hrecov : s.get BRD_STATUS_RECOV = 3)
    (hserv : s.inService = true) : ∃ t, exec .settleExpiry s = .next t ∧ t.get BRD_STATUS_RECOV = 0 ∧ t.brd.causes = [] ∧
      t.brd.holdoff = none ∧ t.get BRD_STATUS_CLASS = 0 ∧ t.shelf = s.shelf := by
  have hrun := exec_settleExpiry s hp
  rw [if_pos ⟨hrecov, hserv⟩] at hrun
  have hseen := (s.set BRD_STATUS_RECOV 0).clearCauses_seen
  rw [s.put_seen 0 (.inl (by decide))] at hseen
  have hbrd : (s.set BRD_STATUS_RECOV 0).clearCauses.brd = { s.brd with causes := [], holdoff := none } := State.showCauses_brd _
  refine ⟨_, hrun, State.get_of_seen hseen (.inl (by decide)), congrArg Brd.causes hbrd, congrArg Brd.holdoff hbrd,
    State.get_set_same _ _ _ (by decide), State.get_of_seen hseen (.inl (by decide))⟩

/-! ### Soft start (R427) -/

@[simp] theorem State.toRest_seen (s : State) (n : Nat) : (s.toRest n).seen = s.seen := by
  have hfault : (s.enterFaulted n).seen = s.seen :=
    (show (s.enterFaulted n).seen = ((s.lfr (s.chan n).faultCode (chanGroup n) [n]).chPark n chFaulted).seen from rfl).trans
      ((State.chPark_seen _ n chFaulted).trans (s.lfr_seen _ _ _))
  unfold State.toRest
  exact seen_ite_of (seen_ite_of rfl hfault) (s.chPark_seen n _)

theorem State.harnessOn_seen (s : State) : s.harnessOn.seen = s.seen := by
  have htake : s.shedTake.seen = s.seen := rfl
  unfold State.harnessOn
  refine (forN_seen _ fun n _ t => seen_ite_of (t.toRest_seen n) rfl).trans ?_
  exact (forN_seen _ fun g _ t => seen_ite_of (t.setGrpState_seen g 1) rfl).trans htake

theorem State.beginRestart_seen (s : State) (n soft : Nat) : (s.beginRestart n soft).seen = s.seen := State.setChState_seen _ n chRestarting

theorem State.startMinActive_seen (s : State) : s.startMinActive.seen = s.seen := by
  unfold State.startMinActive
  refine (State.showActive_seen _).trans (forN_seen s fun x _ t => forN_seen t fun _ _ u => ?_)
  split
  · exact u.beginRestart_seen _ 0
  · rfl

/-- The state in which the Harness clock starts for the precharge. -/
def State.prechargeAsked (s : State) : State :=
  { s with
    pins := { s.pins with drvEn := s.pins.drvHeld.map fun h => !h && !s.tapHolds }
    boot := { s.boot with armStep := 5 }
    brd := { s.brd with ssWindow := true, ssOff := false } }.clear BRD_STATUS_FORCING

theorem exec_softStartOffExpiry (s : State) (hp : s.pins.powered = true) : exec .softStartOffExpiry s =
    if s.brd.ssOff && s.shelf == stArming then .next s.prechargeAsked.harnessOn.startMinActive.checkCounts else .next s := by
  have hexec : exec .softStartOffExpiry s = execSoftStartOffExpiry s := rfl
  rw [hexec]
  exact State.on_powered _ hp

/-- The soft-start off period ends at the precharge step (R427). -/
theorem exec_softStartOffExpiry_precharges {s : State} (hp : s.pins.powered = true) (hoff : s.brd.ssOff = true)
    (harm : s.shelf = stArming) : ∃ t, exec .softStartOffExpiry s = .next t ∧ t.boot.armStep = 5 ∧ t.brd.ssOff = false ∧
      t.brd.ssWindow = true ∧ t.pins.drvEn = s.pins.drvHeld.map (fun h => !h && !s.tapHolds) ∧ t.isSet BRD_STATUS_FORCING = false := by
  have hrun := exec_softStartOffExpiry s hp
  rw [hoff, harm, if_pos (by decide)] at hrun
  have hcalm : s.prechargeAsked.harnessOn.startMinActive.checkCounts.calm = s.prechargeAsked.calm :=
    (State.checkCounts_calm _).trans (calm_of_seen ((State.startMinActive_seen _).trans (State.harnessOn_seen _)))
  generalize s.prechargeAsked.harnessOn.startMinActive.checkCounts = t at hrun hcalm
  refine ⟨t, hrun, congrArg (fun x => x.boot.armStep) hcalm, congrArg Seen.ssOff hcalm, congrArg Seen.ssWindow hcalm,
    congrArg (fun x => x.pins.drvEn) hcalm, ?_⟩
  unfold State.isSet
  rw [get_of_calm hcalm (.inl (by decide)) (by decide) (by decide)]
  exact State.isSet_set_zero _ BRD_STATUS_FORCING (by decide)

end Sys2Proof.Machine


namespace Sys2Proof.Machine

theorem State.bootErr_seen (s : State) (code info : Nat) : (s.bootErr code info).seen = s.seen.put BOOT_STATUS_ERR_CODE code :=
  (State.wr_seen _ _ (by decide)).trans (s.put_seen code (.inl (by decide)))

theorem State.get_bootErr (s : State) (code info : Nat) {f : Field} (herr : f.addr ≠ BOOT_STATUS) (hinfo : f.addr ≠ BOOT_ERR_INFO) :
    (s.bootErr code info).get f = s.get f :=
  (State.get_wr_ne _ _ hinfo).trans (s.get_set_apart _ _ code (.inl herr.symm))

theorem exec_prechargeNotReached (s : State) (a b : Nat) (hp : s.pins.powered = true) : exec (.prechargeNotReached a b) s =
    if s.shelf = stArming ∧ s.boot.armStep = 5 ∧ !s.brd.ssOff ∧ 1000 < (10 * ((a : Int) - b)).natAbs then
      .next ((s.bootErr 0x24 (10 * ((a : Int) - b) % 2 ^ 32).toNat).softAbort 0x010A 0 (10 * ((a : Int) - b)) 1000)
    else .next s := by
  have hexec : exec (.prechargeNotReached a b) s = execPrechargeNotReached a b s := rfl
  rw [hexec]
  exact State.on_powered _ hp

/-- 0x010A is logged, at class F1, and leads to no other action (R417). -/
theorem State.raise_softAbort (s : State) (m t : Int) :
    ∃ k, (s.raise 0x010A 0 m t).seen = s.seen.put BRD_LAST_CODE k := by
  have hcls : s.classOf 0x010A 0 = 1 := rfl
  have hlev : isLevel 0x010A = false := rfl
  unfold State.raise
  split
  · exact ⟨s.get BRD_LAST_CODE, (s.put_self _).symm⟩
  · refine ⟨0x010A, ?_⟩
    dsimp only
    rw [hcls, hlev, if_neg Bool.false_ne_true, if_neg (show (1 : Nat) ≠ 3 by decide), if_neg (show (1 : Nat) ≠ 2 by decide),
      if_neg (show (1 : Nat) ≠ 0 by decide), State.logCode_seen]

/-- A precharge that is not reached aborts within the budget: forced off, the isolation open, the off period running (R427). -/
theorem State.softAbort_shows (s : State) (m t : Int) (h : s.get BRD_STATUS_SS_USED < s.get BRD_SS_CFG_SS_BUDGET) :
    (s.softAbort 0x010A 0 m t).brd.ssOff = true ∧ (s.softAbort 0x010A 0 m t).pins.drvEn = [false, false, false, false] ∧
    (s.softAbort 0x010A 0 m t).pins.isoEn = false ∧ (s.softAbort 0x010A 0 m t).shelf = s.shelf ∧
    (s.softAbort 0x010A 0 m t).get BOOT_STATUS_ERR_CODE = s.get BOOT_STATUS_ERR_CODE ∧
    (s.softAbort 0x010A 0 m t).get BRD_STATUS_SS_USED = s.get BRD_STATUS_SS_USED + 1 := by
  obtain ⟨k, hk⟩ := s.raise_softAbort m t
  have hbudget : s.get BRD_SS_CFG_SS_BUDGET < 16 := s.get_lt BRD_SS_CFG_SS_BUDGET
  unfold State.softAbort
  rw [if_neg (Nat.not_le.2 h)]
  dsimp only
  generalize s.raise 0x010A 0 m t = u at hk ⊢
  have hused : u.get BRD_STATUS_SS_USED = s.get BRD_STATUS_SS_USED := State.get_of_seen hk (.inl (by decide))
  have hbump : ((u.bumpSat BRD_STATUS_SS_USED 1).raiseBit BRD_EVT_SS_ABORT 243).seen =
      u.seen.put BRD_STATUS_SS_USED (s.get BRD_STATUS_SS_USED + 1) := by
    rw [State.raiseBit_seen _ _ (by decide)]
    unfold State.bumpSat
    rw [State.put_seen _ _ (.inl (by decide)), hused, show 2 ^ BRD_STATUS_SS_USED.w - 1 = 15 from rfl, Nat.min_eq_left (by omega)]
  generalize (u.bumpSat BRD_STATUS_SS_USED 1).raiseBit BRD_EVT_SS_ABORT 243 = v at hbump ⊢
  have hoff : State.seen { v.drvOff.chansForced.isoOff.cascadesOff with
      brd := { v.drvOff.chansForced.isoOff.cascadesOff.brd with ssOff := true } } =
      { v.seen.put BRD_STATUS_FORCING 1 with
        pins := { v.seen.pins with isoEn := false, drvEn := [false, false, false, false] }
        ssOff := true, carried := [], handover := none } := by
    have hset : ∀ w : State, State.seen { w with brd := { w.brd with ssOff := true } } = { w.seen with ssOff := true } := fun w => rfl
    rw [hset, State.cascadesOff_seen, State.isoOff_seen, State.chansForced_seen, State.drvOff_seen]
  rw [hbump, hk] at hoff
  have hshows : ∀ r : State, r.seen = { (((s.seen.put BRD_LAST_CODE k).put BRD_STATUS_SS_USED (s.get BRD_STATUS_SS_USED + 1)).put
      BRD_STATUS_FORCING 1) with
        pins := { s.seen.pins with isoEn := false, drvEn := [false, false, false, false] }
        ssOff := true, carried := [], handover := none } →
      r.brd.ssOff = true ∧ r.pins.drvEn = [false, false, false, false] ∧ r.pins.isoEn = false ∧ r.shelf = s.shelf ∧
      r.get BOOT_STATUS_ERR_CODE = s.get BOOT_STATUS_ERR_CODE ∧ r.get BRD_STATUS_SS_USED = s.get BRD_STATUS_SS_USED + 1 :=
    fun r hr => ⟨congrArg Seen.ssOff hr, congrArg (fun x => x.pins.drvEn) hr, congrArg (fun x => x.pins.isoEn) hr,
      State.get_of_seen hr (.inl (by decide)), State.get_of_seen hr (.inl (by decide)),
      (State.get_of_seen hr (.inl (by decide))).trans (Nat.mod_eq_of_lt (show _ < 2 ^ 4 by omega))⟩
  exact hshows _ hoff

/-- With the budget spent 0x010C latches (R427). -/
theorem State.softAbort_latches (s : State) (m t : Int) (h : s.get BRD_SS_CFG_SS_BUDGET ≤ s.get BRD_STATUS_SS_USED)
    (harm : s.shelf = stArming) (hact : s.brd.active = []) : (s.softAbort 0x010A 0 m t).shelf = stLatched ∧
    (s.softAbort 0x010A 0 m t).pins.drvEn = [false, false, false, false] ∧ (s.softAbort 0x010A 0 m t).pins.isoEn = false ∧
    (s.softAbort 0x010A 0 m t).get BRD_LAST_CODE = 0x010C := by
  have hcls : s.classOf 0x010C 0 = 3 := rfl
  have hlev : isLevel 0x010C = false := rfl
  have hraise : s.softAbort 0x010A 0 m t = (s.logCode 0x010C 0 3 m t).takeF3 0x010C := by
    unfold State.softAbort State.raise
    rw [if_pos h, hact, if_neg List.not_mem_nil]
    dsimp only
    rw [hcls, hlev, if_pos rfl, if_neg Bool.false_ne_true]
  have hlog := s.logCode_seen 0x010C 0 3 m t
  rw [hraise]
  generalize s.logCode 0x010C 0 3 m t = u at hlog ⊢
  have harmed : u.armedStates = true := by
    unfold State.armedStates
    rw [show u.shelf = stArming from (State.get_of_seen hlog (.inl (by decide))).trans harm]
    rfl
  obtain ⟨l, hl⟩ := u.takeF3_seen_of_armed (show 0x010C ≠ 0x0103 by decide) (.inl harmed)
  rw [hlog] at hl
  exact ⟨State.get_of_seen hl (.inl (by decide)), congrArg (fun x => x.pins.drvEn) hl, congrArg (fun x => x.pins.isoEn) hl,
    State.get_of_seen hl (.inl (by decide))⟩

theorem exec_prechargeNotReached_aborts {s : State} {a b : Nat} (hp : s.pins.powered = true) (harm : s.shelf = stArming)
    (hstep : s.boot.armStep = 5) (hoff : s.brd.ssOff = false) (hd : 1000 < (10 * ((a : Int) - b)).natAbs) :
    exec (.prechargeNotReached a b) s =
      .next ((s.bootErr 0x24 (10 * ((a : Int) - b) % 2 ^ 32).toNat).softAbort 0x010A 0 (10 * ((a : Int) - b)) 1000) := by
  rw [exec_prechargeNotReached s a b hp, if_pos ⟨harm, hstep, by rw [hoff]; rfl, hd⟩]

end Sys2Proof.Machine


namespace Sys2Proof.Machine

theorem State.closeNow_contEn (s : State) (x : StrNo) : (s.closeNow x.val).pins.contEn =
    if s.tapHolds then s.pins.contEn else s.pins.contEn.set x.val true := by
  rw [s.closeNow_eq]
  dsimp only
  rw [if_neg (show x.val ≠ 2 by omega)]
  split <;> rfl

/-- Settles O55: what a fault, an isolation and an entry leave is one equation on what is seen of the state, and each command is read
off it. -/
theorem contactorAndRecoveryCommands : Obligations.ContactorAndRecoveryCommands := by
  unfold Obligations.ContactorAndRecoveryCommands
  intro s hp
  refine ⟨fun x hdue hov => exec_contactorOpenLowCurrent_due hp hdue hov, fun x h => exec_contactorOpenLowCurrent_held hp h,
    s.closeBlocked_isolation, s.closeBlocked_contactor, ?refused, ?taken, ?stopped, ?returned, ?closing, ?closed, ?held, s.mayReturn_iff,
    ?kick, ?noKick, fun h => exec_watchdogExpiry_running hp h, ?noExpiry, ?restarted,
    fun ok hr h hon => exec_firmwareRestartComplete_latched hp hr h hon,
    fun ok hr h harm hiso => exec_firmwareRestartComplete_rejected hp hr h harm hiso, ?noRestart,
    fun hr hh hi hk => exec_holdoffExpiry_rearms hp hr hh hi hk, ?noRearm, fun hr hs => exec_settleExpiry_ends hp hr hs, ?noSettle,
    fun ho ha => exec_softStartOffExpiry_precharges hp ho ha, ?noPrecharge, ?aborts, ?latches, ?reached⟩
  case refused => exact fun w hfw h => ⟨_, exec_firmwareCloseRequest_refused hp hfw h, s.refuseClose_shows⟩
  case taken =>
    intro w hfw hblk h
    rw [exec_firmwareCloseRequest_taken hp hfw hblk h, s.closeNow_eq]
  case stopped =>
    intro w hfw
    rw [exec_firmwareCloseRequest s w hp, hfw, Bool.not_false, if_pos rfl]
  case returned =>
    intro x hret hfb
    refine ⟨_, ?_, s.strReturned_shows x⟩
    rw [exec_stringReturn s x hp, decide_eq_true hret, hfb, Bool.and_self, if_pos rfl]
  case closing =>
    intro x hmay hdue hfb
    refine ⟨{ s.closeNow x.val with brd := { s.brd with returning := addOnce s.brd.returning x.val } }, ?_, ?_, rfl, rfl, ?_⟩
    · rw [exec_stringReturn s x hp, hfb, Bool.and_false, if_neg Bool.false_ne_true, hmay, decide_eq_false hdue, if_pos (by decide),
        if_neg Bool.false_ne_true]
    · exact s.closeNow_contEn x
    · rw [s.closeNow_eq]
  case closed =>
    intro x hret hmay hdue hfb
    let u : State := { s.closeNow x.val with brd := { s.brd with returning := addOnce s.brd.returning x.val } }
    obtain ⟨hcont, hreturning, hstr, hforce, hring, hmon⟩ := u.strReturned_shows x
    refine ⟨u.strReturned x.val, ?_, hcont.trans (s.closeNow_contEn x), hreturning, hstr, hforce, hring, hmon⟩
    rw [exec_stringReturn s x hp, decide_eq_false hret, Bool.false_and, if_neg Bool.false_ne_true, hmay, decide_eq_false hdue, hfb,
      if_pos (by decide), if_pos rfl]
  case held =>
    intro x hret hmay
    rw [exec_stringReturn s x hp, if_neg, if_neg]
    · rcases hmay with h | h <;> simp [h]
    · rcases hret with h | h <;> simp [h]
  case kick =>
    intro hfw hb
    rw [exec_watchdogKick s hp, hfw, hb, if_pos (by decide)]
  case noKick =>
    intro h
    rw [exec_watchdogKick s hp, if_neg]
    rcases h with h | h <;> simp [h]
  case noExpiry =>
    intro h
    rw [exec_watchdogExpiry s hp, h, if_neg Bool.false_ne_true]
  case restarted =>
    intro hr hwhole
    have htack : s.tackWhole = true := hwhole
    rw [exec_firmwareRestartComplete s true hp, hr, htack, if_neg (by decide), if_pos (by decide)]
    unfold State.fwStart
    rw [htack]
  case noRestart =>
    intro ok h
    rw [exec_firmwareRestartComplete s ok hp, h, Bool.not_false, if_pos rfl]
  case noRearm =>
    intro h
    rw [exec_holdoffExpiry s hp, if_neg]
    rintro ⟨hrecov, hhold, hiso, hkept⟩
    rcases h with h | h | h | h
    · exact h hrecov
    · rw [h] at hhold
      exact absurd hhold (by decide)
    · exact h hiso
    · rw [h] at hkept
      exact absurd hkept (by decide)
  case noSettle =>
    intro h
    rw [exec_settleExpiry s hp, if_neg]
    rintro ⟨hrecov, hserv⟩
    rcases h with h | h
    · exact h hrecov
    · exact absurd (h.symm.trans hserv) Bool.false_ne_true
  case noPrecharge =>
    intro h
    rw [exec_softStartOffExpiry s hp, if_neg]
    rcases h with h | h <;> simp [h]
  case aborts =>
    intro a b harm hstep hoff hd hbudget
    have hget : ∀ info, ∀ f : Field, f.addr ≠ BOOT_STATUS → f.addr ≠ BOOT_ERR_INFO → (s.bootErr 0x24 info).get f = s.get f :=
      fun info f => s.get_bootErr 0x24 info
    refine ⟨_, exec_prechargeNotReached_aborts hp harm hstep hoff hd, ?_⟩
    generalize (10 * ((a : Int) - b) % 2 ^ 32).toNat = info
    obtain ⟨hss, hdrv, hiso, hshelf, herr, hused⟩ := (s.bootErr 0x24 info).softAbort_shows (10 * ((a : Int) - b)) 1000 (by
      rw [hget info _ (by decide) (by decide), hget info _ (by decide) (by decide)]
      exact hbudget)
    refine ⟨hss, hdrv, hiso, hshelf.trans ((hget info _ (by decide) (by decide)).trans harm), herr.trans ?_, hused.trans ?_⟩
    · exact State.get_of_seen (s.bootErr_seen 0x24 info) (.inl (by decide))
    · rw [hget info _ (by decide) (by decide)]
  case latches =>
    intro a b harm hstep hoff hd hbudget hact
    have hget : ∀ info, ∀ f : Field, f.addr ≠ BOOT_STATUS → f.addr ≠ BOOT_ERR_INFO → (s.bootErr 0x24 info).get f = s.get f :=
      fun info f => s.get_bootErr 0x24 info
    refine ⟨_, exec_prechargeNotReached_aborts hp harm hstep hoff hd, State.softAbort_latches _ _ _ ?_ ?_ hact⟩
    · rw [hget _ _ (by decide) (by decide), hget _ _ (by decide) (by decide)]
      exact hbudget
    · exact (hget _ _ (by decide) (by decide)).trans harm
  case reached =>
    intro a b h
    rw [exec_prechargeNotReached s a b hp, if_neg]
    rintro ⟨harm, hstep, hoff, hd⟩
    rcases h with h | h | h | h
    · exact h harm
    · exact h hstep
    · rw [h] at hoff
      exact absurd hoff (by decide)
    · omega

end Sys2Proof.Machine


namespace Sys2Proof.Machine

/-! ### What protection, the recorder and Larkspur's work leave beside their own registers -/

/-- The bits below Harness's registers, and of BRD_STATUS, that protection, the recorder, a wake and Larkspur's work write. -/
def busyFields : List Field :=
  [⟨SYS_SHELF_STATE, 0, 32⟩, SYS_EVT_STATE_CHG, ⟨CLK_READY, 0, 32⟩, ⟨CLK_GATE_EFF, 0, 32⟩, ⟨PWR_CTRL, 0, 32⟩, ⟨PWR_STATUS, 0, 32⟩,
    ⟨PWR_WAKE_SRC, 1, 1⟩, BOOT_STATUS_WAIT_HOST, ⟨BRD_STATUS, 0, 6⟩, ⟨BRD_STATUS, 7, 25⟩]

/-- The other registers that they write: Harness's, the cascades' outputs and states, and those from Spur to the fabric, Bridle's
events, the Saddlebag's and Larkspur's. -/
abbrev BusyAddr (a : Nat) : Prop :=
  (0x100000 ≤ a ∧ a < 0x201000) ∨ (0x201000 ≤ a ∧ 0x34 ≤ a % 0x40) ∨ (0x201200 ≤ a ∧ a < 0x500000) ∨
    (0x500000 < a ∧ a < 0x500024) ∨ a = BRD_PENDING ∨ 0x580000 ≤ a

/-- A field that lies in what they write. -/
abbrev Field.Busy (f : Field) : Prop :=
  BusyAddr f.addr ∨ ∃ b ∈ busyFields, f.addr = b.addr ∧ b.lo ≤ f.lo ∧ f.lo + f.w ≤ b.lo + b.w

/-- A field that lies apart from what they write. -/
structure Field.Aside (g : Field) : Prop where
  addr : ¬BusyAddr g.addr
  bits : ∀ b ∈ busyFields, g.addr ≠ b.addr ∨ g.lo + g.w ≤ b.lo ∨ b.lo + b.w ≤ g.lo

theorem Field.Aside.apart {f g : Field} (hg : g.Aside) (hf : f.Busy) : f.apart g := by
  rcases hf with hf | ⟨b, hb, haddr, hlo, hhi⟩
  · exact .inl fun h => hg.addr (h ▸ hf)
  · rcases hg.bits b hb with h | h | h
    · exact .inl fun hfg => h (hfg.symm.trans haddr)
    · exact .inr (.inr (by omega))
    · exact .inr (.inl (by omega))

/-- What the statements about the host link, the connectors and the bundle read of the state: one field, the function without its
held messages, and the boot state without the steps of arming and disarming. -/
structure Beside where
  field : Nat
  pcie : Pcie
  boot : Boot

/-- What is seen of a state beside the registers of protection. -/
def State.beside (g : Field) (s : State) : Beside where
  field := s.get g
  pcie := { s.pcie with pendingBits := [] }
  boot := { s.boot with
    armStep := 0, contRequested := false, rearm := false, retryWait := false, disarming := false, disarmKept := false }

section
variable {g : Field}

theorem get_of_beside {s t : State} (h : t.beside g = s.beside g) : t.get g = s.get g := congrArg Beside.field h

theorem isSet_of_beside {s t : State} (h : t.beside g = s.beside g) : t.isSet g = s.isSet g := by
  unfold State.isSet
  rw [get_of_beside h]

theorem beside_eq {s t : State} (hget : t.get g = s.get g) (hpcie : { t.pcie with pendingBits := [] } = { s.pcie with pendingBits := [] })
    (hboot : t.boot = s.boot) : t.beside g = s.beside g := by
  unfold State.beside
  rw [hget, hpcie, hboot]

theorem beside_ite_of {c : Prop} [Decidable c] {s t u : State} (hs : s.beside g = u.beside g) (ht : t.beside g = u.beside g) :
    (if c then s else t).beside g = u.beside g := by
  split <;> assumption

@[simp] theorem beside_ite {c : Prop} [Decidable c] (s t : State) :
    (if c then s else t).beside g = if c then s.beside g else t.beside g := apply_ite _ _ _ _

theorem forL_beside {α : Type} {l : List α} {f : α → State → State} (s : State) (hf : ∀ x ∈ l, ∀ t, (f x t).beside g = t.beside g) :
    (forL l f s).beside g = s.beside g := by
  unfold forL
  induction l generalizing s with
  | nil => rfl
  | cons x l ih => exact (ih _ fun y hy => hf y (List.mem_cons_of_mem x hy)).trans (hf x List.mem_cons_self s)

theorem forN_beside {n : Nat} {f : Nat → State → State} (s : State) (hf : ∀ i < n, ∀ t, (f i t).beside g = t.beside g) :
    (forN n f s).beside g = s.beside g := forL_beside s fun i hi => hf i (List.mem_range.1 hi)

/-- A change of the state beside the registers, the function and the boot state. -/
theorem other_beside (s : State) (pins : Pins) (clk : Clk) (hrn : Hrn) (meas : Meas) (rein : Rein) (rmt : Rmt) (fcst : Fcst) (ring : Ring)
    (est : Est) (fab : Fab) (lks : Lks) (brd : Brd) (sbg : Sbg) (mram mem : List (Nat × Byte)) (latches : List (Nat × Nat × Word))
    (out : List Out) (free : Nat) :
    State.beside g { s with
      pins := pins, clk := clk, hrn := hrn, meas := meas, rein := rein, rmt := rmt, fcst := fcst, ring := ring, est := est, fab := fab,
      lks := lks, brd := brd, sbg := sbg, mram := mram, mem := mem, latches := latches, out := out, free := free } = s.beside g := rfl

@[simp] theorem brd_beside (s : State) (b : Brd) : State.beside g { s with brd := b } = s.beside g :=
  beside_eq rfl rfl rfl
@[simp] theorem State.emit_beside (s : State) (o : Out) : (s.emit o).beside g = s.beside g := rfl
@[simp] theorem State.setPath_beside (s : State) (i : Nat) (q : TPath) : (s.setPath i q).beside g = s.beside g := rfl
@[simp] theorem State.enqueue_beside (s : State) (i : Nat) (r : Rec) (b : Bool) : (s.enqueue i r b).beside g = s.beside g := rfl
@[simp] theorem State.showWakeN_beside (s : State) : s.showWakeN.beside g = s.beside g := rfl
@[simp] theorem State.alarmRepeat_beside (s : State) (code : Nat) : (s.alarmRepeat code).beside g = s.beside g := rfl
@[simp] theorem State.isoOff_beside (s : State) : s.isoOff.beside g = s.beside g := rfl
@[simp] theorem State.latchWake_beside (s : State) (mask : Nat) : (s.latchWake mask).beside g = s.beside g := rfl
@[simp] theorem State.setChan_beside (s : State) (n : Nat) (c : Chan) : (s.setChan n c).beside g = s.beside g := rfl

@[simp] theorem State.msix_beside (s : State) (v : Nat) : (s.msix v).beside g = s.beside g := by
  unfold State.msix
  repeat' split
  all_goals rfl

@[simp] theorem State.writeCb_beside (s : State) : s.writeCb.beside g = s.beside g := by
  unfold State.writeCb
  repeat' split
  all_goals rfl

@[simp] theorem State.openDue_beside (s : State) (xs : List Nat) : (s.openDue xs).beside g = s.beside g := beside_ite_of rfl rfl

@[simp] theorem State.checkHoldoff_beside (s : State) : s.checkHoldoff.beside g = s.beside g :=
  beside_ite_of rfl (beside_ite_of rfl (beside_ite_of rfl rfl))

variable (hg : g.Aside)
include hg

theorem State.set_beside (s : State) {f : Field} (v : Nat) (hf : f.Busy) : (s.set f v).beside g = s.beside g :=
  beside_eq (s.get_set_apart f g v (hg.apart hf)) rfl rfl

theorem State.wr_beside (s : State) {a : Nat} (v : Word) (ha : BusyAddr a) : (s.wr a v).beside g = s.beside g :=
  beside_eq (s.get_wr_ne v fun h => hg.addr (h ▸ ha)) rfl rfl

theorem State.raiseBit_beside (s : State) {f : Field} (v : Nat) (hf : f.Busy) : (s.raiseBit f v).beside g = s.beside g :=
  beside_ite_of rfl ((State.msix_beside _ v).trans (s.set_beside hg 1 hf))

/-! #### The recorder -/

theorem State.openIncident_beside (s : State) : s.openIncident.beside g = s.beside g := by
  have hset : ∀ t : State, (t.set SBG_STATUS_INC_OPEN 1).beside g = t.beside g := fun t => t.set_beside hg 1 (by decide)
  unfold State.openIncident
  dsimp only
  refine beside_ite_of rfl ?_
  split
  next =>
    rw [State.writeCb_beside, State.raiseBit_beside hg _ _ (by decide)]
    exact hset _
  next i _ =>
    have hslot : ∀ (t : State) (v : Word), (t.wr (SBG_INC_SLOT i) v).beside g = t.beside g :=
      fun t v => t.wr_beside hg v (by unfold SBG_INC_SLOT; omega)
    have hlo : ∀ (t : State) (v : Word), (t.wr (SBG_INC_TIME_LO i) v).beside g = t.beside g :=
      fun t v => t.wr_beside hg v (by unfold SBG_INC_TIME_LO; omega)
    have hhi : ∀ (t : State) (v : Word), (t.wr (SBG_INC_TIME_HI i) v).beside g = t.beside g :=
      fun t v => t.wr_beside hg v (by unfold SBG_INC_TIME_HI; omega)
    unfold State.wr64 State.wrN
    simp only [State.writeCb_beside, hhi, hlo, hslot, other_beside, hset]

theorem State.showLevel_beside (s : State) (i : Nat) : (s.showLevel i).beside g = s.beside g := by
  have hstatus : 0x580000 ≤ TEL_R_STATUS (i - 1) := by unfold TEL_R_STATUS; omega
  have hset : ∀ (t : State) (f : Field) (v : Nat), f.addr = TEL_R_STATUS (i - 1) → (t.set f v).beside g = t.beside g :=
    fun t f v h => t.set_beside hg v (.inl (by omega))
  exact beside_ite_of (s.set_beside hg _ (by decide)) ((hset _ _ _ rfl).trans (hset _ _ _ rfl))

theorem State.lose_beside (s : State) (i cause prio : Nat) (b : Bool) : (s.lose i cause prio b).beside g = s.beside g :=
  beside_ite_of (State.wr_beside hg _ _ (by decide)) (State.wr_beside hg _ _ (by unfold TEL_R_LOST; omega))

theorem State.toPath_beside (s : State) (i : Nat) (r : Rec) : (s.toPath i r).beside g = s.beside g := by
  unfold State.toPath
  repeat' split
  all_goals simp [State.showLevel_beside hg, State.lose_beside hg]

theorem State.record_beside (s : State) (kind prio domain code key cls : Nat) (opens : Bool) (body : List Byte) :
    (s.record kind prio domain code key cls opens body).beside g = s.beside g := by
  have hseq : ∀ t : State, (t.wrapReg SBG_SEQ).beside g = t.beside g := fun t => t.wr_beside hg _ (by decide)
  unfold State.record
  dsimp only
  rw [State.showWakeN_beside, forN_beside _ fun i _ t => t.toPath_beside hg i _, hseq]
  exact beside_ite_of (s.openIncident_beside hg) rfl

theorem State.fireList_beside (s : State) (l : Nat) : (s.fireList l).beside g = s.beside g := by
  have hset : ∀ (t : State) (f : Field) (v : Nat), f.addr = SBG_LIST_STATUS l → (t.set f v).beside g = t.beside g :=
    fun t f v h => t.set_beside hg v (.inl (by unfold SBG_LIST_STATUS at h; omega))
  unfold State.fireList
  refine beside_ite_of (hset s _ _ rfl) ((hset _ _ _ rfl).trans ((hset _ _ _ rfl).trans ?_))
  exact beside_ite_of (s.openIncident_beside hg) rfl

theorem State.fireOnFault_beside (s : State) (code cls : Nat) : (s.fireOnFault code cls).beside g = s.beside g :=
  forN_beside s fun l _ t => beside_ite_of (t.fireList_beside hg l) (beside_ite_of (t.fireList_beside hg l) rfl)

theorem State.fireOnState_beside (s : State) (st : Nat) : (s.fireOnState st).beside g = s.beside g :=
  forN_beside s fun l _ t => beside_ite_of (t.fireList_beside hg l) rfl

theorem State.jnlTrigger_beside (s : State) (bit : Nat) : (s.jnlTrigger bit).beside g = s.beside g := by
  have hset : ∀ (t : State) (f : Field) (v : Nat), f.addr = EST_JNL_STATUS → (t.set f v).beside g = t.beside g :=
    fun t f v h => t.set_beside hg v (.inl (by rw [h]; decide))
  have hstart : ∀ t : State, t.jnlStart.beside g = t.beside g := fun t =>
    beside_ite_of ((hset _ _ _ rfl).trans (hset _ _ _ rfl)) rfl
  exact beside_ite_of (hset _ _ _ rfl) ((hstart _).trans (hset _ _ _ rfl))

theorem State.alarm_beside (s : State) (code cls : Nat) (detail : List Byte) : (s.alarm code cls detail).beside g = s.beside g :=
  (State.set_beside hg _ _ (by decide)).trans (beside_ite_of rfl rfl)

theorem State.lfr_beside (s : State) (code grp : Nat) (involved : List Nat) : (s.lfr code grp involved).beside g = s.beside g :=
  beside_ite_of (s.set_beside hg _ (by decide)) (State.set_beside hg _ _ (by decide))

/-- The wake source of Bridle's faults fires. -/
theorem State.fireBridle_beside (s : State) : (s.fireWake 1).beside g = s.beside g :=
  have hset : (s.set ⟨PWR_WAKE_SRC, 1, 1⟩ 1).beside g = s.beside g := s.set_beside hg 1 (by decide)
  beside_ite_of hset hset

/-! #### The cascades -/

theorem State.setCas_beside (s : State) (c lo w v : Nat) : (s.set ⟨REIN_CAS_STATUS c, lo, w⟩ v).beside g = s.beside g :=
  s.set_beside hg v (.inl (by show BusyAddr (0x201038 + 0x40 * c); omega))

theorem State.tuneAbort_beside (s : State) (cause : Nat) : (s.tuneAbort cause).beside g = s.beside g := by
  unfold State.tuneAbort
  split
  next => rfl
  next t _ =>
    refine (State.raiseBit_beside hg _ _ (by decide)).trans ((State.set_beside hg _ _ (by decide)).trans
      ((State.set_beside hg _ _ (by decide)).trans ((State.setCas_beside hg _ t.cas _ _ _).trans ?_)))
    exact beside_ite_of (State.setCas_beside hg _ t.cas _ _ _) rfl

theorem State.casOff_beside (s : State) (c : Nat) : (s.casOff c).beside g = s.beside g :=
  (State.setCas_beside hg _ c _ _ 0).trans ((State.setCas_beside hg _ c _ _ 0).trans ((State.setCas_beside hg _ c _ _ 0).trans
    ((State.setCas_beside hg _ c _ _ 0).trans (State.setCas_beside hg _ c _ _ 0))))

theorem State.cascadesOff_beside (s : State) : s.cascadesOff.beside g = s.beside g := by
  have hout : ∀ (c : Nat) (t : State) (v : Word), (t.wr (REIN_CAS_OUT c) v).beside g = t.beside g :=
    fun c t v => t.wr_beside hg v (by unfold REIN_CAS_OUT; omega)
  have hbase : ∀ (c : Nat) (t : State) (v : Word), (t.wr (REIN_CAS_OUT_BASE c) v).beside g = t.beside g :=
    fun c t v => t.wr_beside hg v (by unfold REIN_CAS_OUT_BASE; omega)
  have hcas : ∀ t : State, (forN 8 (fun c t =>
      (((t.casOff c).wr (REIN_CAS_OUT c) 0).set (REIN_CAS_STATUS_ENABLE_PENDING c) 0).wr (REIN_CAS_OUT_BASE c) 0) t).beside g =
      t.beside g := fun t => forN_beside t fun c _ u =>
    (hbase c _ 0).trans ((State.setCas_beside hg _ c _ _ 0).trans ((hout c _ 0).trans (u.casOff_beside hg c)))
  have hshow : ∀ t : State, (((((t.set BRD_PENDING_CAS 0).wr REIN_CMD_TOT 0).wr REIN_CMD_STR 0).wr REIN_FF_NOW 0).wr
      REIN_UNSERVED 0).beside g = t.beside g :=
    fun t => (State.wr_beside hg _ _ (by decide)).trans ((State.wr_beside hg _ _ (by decide)).trans ((State.wr_beside hg _ _ (by decide)).trans
      ((State.wr_beside hg _ _ (by decide)).trans (t.set_beside hg 0 (by decide)))))
  have hend : ∀ t : State, State.beside g { t with
      hrn := { t.hrn with strCmd := [0, 0], chans := t.hrn.chans.map fun c => { c with ref := 0 } }
      rein := { t.rein with restart := [], unserved := 0, carried := [], handover := none }
      brd := { t.brd with active := t.brd.active.filter (·.1 != 0x0310) } } = t.beside g := fun t => rfl
  unfold State.cascadesOff
  rw [hend, hshow, hcas]

/-! #### Faults -/

theorem State.logCode_beside (s : State) (code idx cls : Nat) (m t : Int) : (s.logCode code idx cls m t).beside g = s.beside g := by
  have hset : ∀ (u : State) (f : Field) (v : Nat), f.addr = BRD_LAST ∨ f.addr = BRD_COUNT → (u.set f v).beside g = u.beside g :=
    fun u f v h => u.set_beside hg v (.inl (by rcases h with h | h <;> rw [h] <;> decide))
  have hevt : (if cls = 0 then BRD_EVT_F0 else if cls = 1 then BRD_EVT_F1 else if cls = 2 then BRD_EVT_F2 else BRD_EVT_F3).Busy := by
    repeat' split
    all_goals decide
  have hcount : ∀ u : State, (if cls = 2 then u.bumpSat BRD_COUNT_F2 1 else if cls = 3 then u.bumpSat BRD_COUNT_F3 1 else u).beside g =
      u.beside g := fun u => beside_ite_of (hset u _ _ (.inr rfl)) (beside_ite_of (hset u _ _ (.inr rfl)) rfl)
  unfold State.logCode
  dsimp only
  rw [State.fireOnFault_beside hg, beside_ite_of (State.alarm_beside hg _ _ _ _) rfl, State.record_beside hg, State.fireBridle_beside hg,
    hcount, beside_ite_of (State.tuneAbort_beside hg _ _) rfl, beside_ite_of (State.lfr_beside hg _ _ _ _) rfl, hset _ _ _ (.inl rfl),
    hset _ _ _ (.inl rfl), hset _ _ _ (.inl rfl), State.raiseBit_beside hg _ _ hevt]

/-! #### The power path -/

theorem State.drvOff_beside (s : State) : s.drvOff.beside g = s.beside g := State.set_beside hg _ 1 (by decide)

theorem State.setChState_beside (s : State) {n : Nat} (st : Nat) (hn : n < 104) :
    (s.set (HRN_CH_STATUS_STATE n) st).beside g = s.beside g :=
  s.set_beside hg st (.inl (by show BusyAddr (0x100004 + 0x100 * n); omega))

theorem State.setGrp_beside (s : State) {i : Nat} (lo w v : Nat) (hi : i < 13) :
    (s.set ⟨HRN_GRP_STATUS i, lo, w⟩ v).beside g = s.beside g :=
  s.set_beside hg v (.inl (by show BusyAddr (0x11001C + 0x100 * i); omega))

theorem State.chPark_beside (s : State) {n : Nat} (st : Nat) (hn : n < 104) : (s.chPark n st).beside g = s.beside g :=
  State.setChState_beside hg _ st hn

theorem State.showActive_beside (s : State) : s.showActive.beside g = s.beside g :=
  (forN_beside _ fun _ hi t => t.setGrp_beside hg _ _ _ hi).trans
    ((State.set_beside hg _ _ (by decide)).trans (s.set_beside hg _ (by decide)))

theorem State.chansForced_beside (s : State) : s.chansForced.beside g = s.beside g :=
  (State.showActive_beside hg _).trans
    (forN_beside s fun _ hn t => beside_ite_of (t.chPark_beside hg _ hn) (t.chPark_beside hg _ hn))

theorem State.windowOff_beside (s : State) : s.windowOff.beside g = s.beside g := by
  have hquiet : ∀ t : State, t.quietOff.beside g = t.beside g := fun t =>
    beside_ite_of ((State.tuneAbort_beside hg _ _).trans ((State.set_beside hg _ _ (by decide)).trans
      ((State.raiseBit_beside hg _ _ (by decide)).trans (State.set_beside hg _ _ (by decide))))) rfl
  exact (hquiet _).trans ((State.set_beside hg _ _ (by decide)).trans ((State.set_beside hg _ _ (by decide)).trans
    ((State.set_beside hg _ _ (by decide)).trans (State.set_beside hg _ _ (by decide)))))

/-! #### Entries -/

theorem State.showWait_beside (s : State) : s.showWait.beside g = s.beside g := s.set_beside hg _ (by decide)

theorem State.pendingOff_beside (s : State) : s.pendingOff.beside g = s.beside g := by
  have hctrl : ∀ i < 13, ∀ t : State, (t.set (HRN_GRP_CTRL_ENABLE i) 0).beside g = t.beside g := fun i hi t =>
    t.set_beside hg 0 (.inl (by show BusyAddr (0x110000 + 0x100 * i); omega))
  exact (State.wr_beside hg _ _ (by decide)).trans ((State.set_beside hg _ _ (by decide)).trans
    (forN_beside s fun i hi t => beside_ite_of (hctrl i hi t) rfl))

theorem State.dropCodes_beside (s : State) (p : Nat → Bool) : (s.dropCodes p).beside g = s.beside g := by
  have hset : ∀ (t : State) (b : Bool), (t.setB BRD_STATUS_DERATE b).beside g = t.beside g := fun t b => t.set_beside hg _ (by decide)
  exact beside_ite_of ((State.raiseBit_beside hg _ _ (by decide)).trans (hset _ _)) (hset _ _)

theorem State.unforce_beside (s : State) {l : List Nat} (hl : ∀ n ∈ l, n < 104) : (s.unforce l).beside g = s.beside g :=
  forL_beside s fun n hn t => t.set_beside hg 0 (.inl (by
    have := hl n hn
    show BusyAddr (0x100000 + 0x100 * n)
    omega))

theorem State.strOutEnd_beside (s : State) : s.strOutEnd.beside g = s.beside g :=
  (State.dropCodes_beside hg _ _).trans (forL_beside s fun _ _ t => t.unforce_beside hg fun _ => lt_of_mem_stringChans)

theorem State.groupsFresh_beside (s : State) : s.groupsFresh.beside g = s.beside g :=
  beside_ite_of (forN_beside s fun _ hi t => beside_ite_of ((State.setGrp_beside hg _ _ _ _ hi).trans (t.setGrp_beside hg _ _ _ hi))
    (t.setGrp_beside hg _ _ _ hi)) rfl

theorem State.harnessOff_beside (s : State) : s.harnessOff.beside g = s.beside g := by
  unfold State.harnessOff
  refine (State.dropCodes_beside hg _ _).trans ?_
  have hgroups : ∀ u : State, (forN 13 (fun i t =>
      if t.get (HRN_GRP_STATUS_STATE i) = 4 then t else t.set (HRN_GRP_STATUS_STATE i) 0) u).beside g = u.beside g :=
    fun u => forN_beside u fun _ hi t => beside_ite_of rfl (t.setGrp_beside hg _ _ _ hi)
  have hchans : (forN 104 (fun n t => t.chPark n chOff) s).beside g = s.beside g :=
    forN_beside s fun _ hn t => t.chPark_beside hg _ hn
  exact (hgroups _).trans ((State.showActive_beside hg _).trans hchans)

/-- An entry of a shelf state. -/
theorem State.enter_beside (s : State) (st : Nat) : (s.enter st).beside g = s.beside g := by
  have harmed : ∀ t : State, (if st = stArmed then t.bumpSat SYS_SHELF_STATE_ARM_COUNT 1 else t).beside g = t.beside g :=
    fun t => beside_ite_of (t.set_beside hg _ (by decide)) rfl
  have hpend : ∀ t : State, (if st = stIsolated ∨ st = stLatched then
      { t.pendingOff with hrn := { t.hrn with phHold := none, freshDue := true } } else t).beside g = t.beside g :=
    fun t => beside_ite_of (t.pendingOff_beside hg) rfl
  have hhold : ∀ t : State, (if st = stIsolated then t else t.set SYS_SHELF_STATE_CLK_HOLD 0).beside g = t.beside g :=
    fun t => beside_ite_of rfl (t.set_beside hg 0 (by decide))
  have harming : ∀ t : State, (if st = stArming then t.strOutEnd.groupsFresh else t).beside g = t.beside g :=
    fun t => beside_ite_of ((State.groupsFresh_beside hg _).trans (t.strOutEnd_beside hg)) rfl
  have hpassive : ∀ t : State, (if st = stPassive then t.harnessOff else t).beside g = t.beside g :=
    fun t => beside_ite_of (t.harnessOff_beside hg) rfl
  unfold State.enter
  refine beside_ite_of rfl ?_
  dsimp only
  rw [State.showWait_beside hg, hpassive, harming, hhold, hpend, harmed, State.tuneAbort_beside hg, State.fireOnState_beside hg,
    State.record_beside hg, State.raiseBit_beside hg _ _ (by decide)]
  exact s.set_beside hg st (by decide)

theorem State.showDerate_beside (s : State) : s.showDerate.beside g = s.beside g := by
  have hset : ∀ b : Bool, (s.setB BRD_STATUS_DERATE b).beside g = s.beside g := fun b => s.set_beside hg _ (by decide)
  exact beside_ite_of ((State.enter_beside hg _ _).trans (hset _))
    (beside_ite_of ((State.enter_beside hg _ _).trans (hset _)) (hset _))

/-! #### Actions -/

theorem State.showCauses_beside (s : State) : s.showCauses.beside g = s.beside g := by
  have hcause : ∀ i < 4, ∀ (v w : Nat) (t : State), ((t.set (BRD_CAUSE_EVEN i) v).set (BRD_CAUSE_ODD i) w).beside g = t.beside g := by
    intro i hi v w t
    have hbusy : BusyAddr (BRD_CAUSE i) := by
      unfold BRD_CAUSE
      omega
    exact (State.set_beside hg _ w (.inl hbusy)).trans (t.set_beside hg v (.inl hbusy))
  exact (State.set_beside hg _ _ (by decide)).trans ((State.set_beside hg _ _ (by decide)).trans
    (forN_beside s fun i hi t => hcause i hi _ _ t))

theorem State.join_beside (s : State) (code cls : Nat) : (s.join code cls).beside g = s.beside g := State.showCauses_beside hg _

theorem State.clearCauses_beside (s : State) : s.clearCauses.beside g = s.beside g := State.showCauses_beside hg _

theorem State.isolate_beside (s : State) (code st cls : Nat) (xs : List Nat) : (s.isolate code st cls xs).beside g = s.beside g := by
  have hoff : (if code = 0x0103 then s else s.drvOff.chansForced).isoOff.beside g = s.beside g :=
    (State.isoOff_beside _).trans (beside_ite_of rfl ((State.chansForced_beside hg _).trans (s.drvOff_beside hg)))
  have hkeep : ∀ t : State, State.beside g { t with
      brd := { t.brd with ssWindow := false, ssOff := false, isoLimitDue := true, returning := [] }
      boot := { t.boot with
        armStep := 0, contRequested := false, disarming := false, disarmKept := t.boot.disarmKept || t.boot.disarming } } =
      t.beside g := fun t => rfl
  unfold State.isolate
  dsimp only
  rw [State.openDue_beside, beside_ite_of (State.jnlTrigger_beside hg _ _) rfl, State.enter_beside hg, State.windowOff_beside hg,
    State.cascadesOff_beside hg, hkeep, hoff]

theorem State.latch_beside (s : State) (code : Nat) : (s.latch code).beside g = s.beside g := by
  unfold State.latch
  rw [State.checkHoldoff_beside, State.set_beside hg _ _ (by decide), State.isolate_beside hg]

theorem State.storm_beside (s : State) (code : Nat) : (s.storm code).beside g = s.beside g := by
  have haction : ∀ t : State, (if code = 0x0103 then { t with brd := { t.brd with ovAction := 3 } } else t).beside g = t.beside g :=
    fun t => beside_ite_of rfl rfl
  unfold State.storm
  dsimp only
  rw [State.latch_beside hg, State.join_beside hg, haction]
  exact (State.set_beside hg _ _ (by decide)).trans ((State.raiseBit_beside hg _ _ (by decide)).trans (s.logCode_beside hg _ _ _ _ _))

theorem State.startRecovery_beside (s : State) (code idx : Nat) (fresh : Bool) :
    (s.startRecovery code idx fresh).beside g = s.beside g := by
  have hjoin : ((if fresh then s.clearCauses else s).join code 2).beside g = s.beside g :=
    (State.join_beside hg _ _ _).trans (beside_ite_of (s.clearCauses_beside hg) rfl)
  have hrecov : ∀ t : State, (t.set BRD_STATUS_RECOV 1).beside g = t.beside g := fun t => t.set_beside hg 1 (by decide)
  unfold State.startRecovery
  dsimp only
  generalize (if fresh then s.clearCauses else s).join code 2 = b at hjoin ⊢
  refine (beside_ite_of (b.storm_beside hg code) ?_).trans hjoin
  rw [State.checkHoldoff_beside]
  simp only [beside_ite, State.isolate_beside hg, hrecov, brd_beside, ite_self]

theorem State.takeF2_beside (s : State) (code idx : Nat) : (s.takeF2 code idx).beside g = s.beside g := by
  have hstart := s.startRecovery_beside hg code idx (s.get BRD_STATUS_RECOV == 0)
  refine beside_ite_of hstart (beside_ite_of (beside_ite_of ?_ hstart) (beside_ite_of (s.join_beside hg _ _) rfl))
  rw [State.checkHoldoff_beside, State.openDue_beside, State.jnlTrigger_beside hg]
  rfl

theorem State.takeF3_beside (s : State) (code : Nat) : (s.takeF3 code).beside g = s.beside g := by
  refine beside_ite_of ?_ (beside_ite_of (s.join_beside hg _ _) rfl)
  simp only [State.latch_beside hg, beside_ite, brd_beside, State.join_beside hg, State.clearCauses_beside hg, ite_self]

theorem State.strOutAct_beside (s : State) (x : Nat) : (s.strOutAct x).beside g = s.beside g := by
  have hforce : ∀ t : State, (t.forceShedString x).beside g = t.beside g := by
    refine fun t => forL_beside t fun n hn u => ?_
    have hn := lt_of_mem_stringChans hn
    have hset : (u.set (HRN_CH_CTRL_FORCE_SHED n) 1).beside g = u.beside g :=
      u.set_beside hg 1 (.inl (by show BusyAddr (0x100000 + 0x100 * n); omega))
    exact beside_ite_of rfl (beside_ite_of ((State.setChState_beside hg _ _ hn).trans hset) hset)
  refine beside_ite_of ?_ rfl
  rw [State.openDue_beside, hforce]
  rfl

theorem State.takeF0_beside (s : State) (code idx : Nat) : (s.takeF0 code idx).beside g = s.beside g := by
  have hevt : (s.raiseBit BRD_EVT_DERATE 243).beside g = s.beside g := s.raiseBit_beside hg _ (by decide)
  refine beside_ite_of ((State.showDerate_beside hg _).trans ?_) rfl
  exact beside_ite_of ((State.strOutAct_beside hg _ _).trans hevt) (beside_ite_of ((State.strOutAct_beside hg _ _).trans hevt) hevt)

/-- A fault leaves what lies beside the registers of protection. -/
theorem State.raise_beside (s : State) (code idx : Nat) (m t : Int) : (s.raise code idx m t).beside g = s.beside g := by
  have hlevel : ∀ u : State, (if isLevel code then
      { u with brd := { u.brd with active := u.brd.active ++ [(code, idx)] } } else u).beside g = u.beside g :=
    fun u => beside_ite_of rfl rfl
  have hlog := (hlevel _).trans (s.logCode_beside hg code idx (s.classOf code idx) m t)
  exact beside_ite_of rfl (beside_ite_of ((State.takeF3_beside hg _ _).trans hlog)
    (beside_ite_of ((State.takeF2_beside hg _ _ _).trans hlog) (beside_ite_of ((State.takeF0_beside hg _ _ _).trans hlog) hlog)))

theorem State.unraise_beside (s : State) (code idx : Nat) : (s.unraise code idx).beside g = s.beside g := by
  unfold State.unraise
  refine beside_ite_of ?_ rfl
  rw [State.checkHoldoff_beside]
  exact beside_ite_of ((State.showDerate_beside hg _).trans (State.raiseBit_beside hg _ _ (by decide))) rfl

theorem State.ovSettle_beside (s : State) : s.ovSettle.beside g = s.beside g := by
  unfold State.ovSettle
  refine beside_ite_of ?_ rfl
  dsimp only
  rw [State.checkHoldoff_beside, State.openDue_beside]
  exact beside_ite_of rfl ((State.chansForced_beside hg _).trans (State.drvOff_beside hg _))

end

end Sys2Proof.Machine


namespace Sys2Proof.Machine

/-! ### A code that is active already -/

/-- A code that is active already is a repeat and no new fault (R418). -/
theorem State.raise_of_active (s : State) {code idx : Nat} (m t : Int) (h : (code, idx) ∈ s.brd.active) :
    s.raise code idx m t = s.alarmRepeat code := if_pos h

theorem State.alarmRepeat_get (s : State) (code : Nat) (f : Field) : (s.alarmRepeat code).get f = s.get f := rfl

/-- A time limit that finds 0x010D active reports its step and is a repeat. -/
theorem exec_armingTimeout_repeat (s : State) (hp : s.pins.powered = true) (hshelf : s.shelf = stArming)
    (hdis : s.boot.disarming = false) (hreq : s.boot.contRequested = true) (hact : (0x010D, s.boot.armStep) ∈ s.brd.active) :
    exec .armingTimeout s = .next ((s.bootErr 0x25 s.boot.armStep).alarmRepeat 0x010D) := by
  have hexec : exec .armingTimeout s = execArmingTimeout s := rfl
  have hrepeat : (s.bootErr 0x25 s.boot.armStep).raise 0x010D s.boot.armStep 0 0 =
      (s.bootErr 0x25 s.boot.armStep).alarmRepeat 0x010D := State.raise_of_active _ 0 0 hact
  rw [hexec]
  unfold execArmingTimeout
  rw [State.on_powered _ hp]
  dsimp only
  rw [if_neg (by simp [hshelf, hdis]), hreq, if_neg (by decide), hrepeat]

/-- Power is on, the sequence of R93 runs with its contactors requested, and 0x010D is active from before. -/
def armingRepeat : State :=
  { State.reset.set SYS_SHELF_STATE_STATE 2 with
    pins := { State.reset.pins with powered := true }
    boot := { State.reset.boot with contRequested := true }
    brd := { State.reset.brd with active := [(0x010D, 0)] } }

/-- Refutes O28: a time limit after the contactor request raises 0x010D, but where 0x010D is active already the raise is a repeat,
and the shelf stays in ARMING. -/
theorem not_armingStepsAdvance : ¬ Obligations.ArmingStepsAdvance := by
  intro h
  have hshelf : armingRepeat.shelf = stArming := State.get_set_same _ _ 2 (by decide)
  obtain ⟨-, -, -, -, -, -, -, -, -, -, -, -, -, -, -, -, -, -, -, -, -, -, htimeout, -⟩ := h armingRepeat rfl
  obtain ⟨t, hexec, -, -, hiso, -⟩ := htimeout hshelf rfl rfl
  rw [exec_armingTimeout_repeat armingRepeat rfl hshelf rfl rfl List.mem_cons_self] at hexec
  injection hexec with ht
  have hkept : t.shelf = stArming := by
    rw [← ht]
    exact ((State.alarmRepeat_get _ _ _).trans (State.get_bootErr _ _ _ (by decide) (by decide))).trans hshelf
  rcases hiso with hiso | hiso <;> exact absurd (hkept.symm.trans hiso) (by decide)

theorem State.showLksCap_get (s : State) (f : Field) (h : BRD_COOL ≠ f.addr) : s.showLksCap.get f = s.get f :=
  s.get_set_apart _ _ _ (.inl h)

theorem State.pumpsFull_get (s : State) (f : Field) : s.pumpsFull.get f = s.get f := rfl

/-- The loss of a pump that is lost already, with a pump left, shows the pump and BRD_COOL.LKS_CAP alone. -/
theorem exec_pumpLoss_repeat (s : State) (p : Fin 2) (n : Nat) (hp : s.pins.powered = true) (hfw : s.boot.fwRuns = true)
    (hfit : s.pumpFitted p.val = true) (hlow : s.rpm n < s.cool 4 2 600) (hact : (0x0501 + p.val, p.val + 1) ∈ s.brd.active)
    (hleft : s.pumpsLost = false) : exec (.pumpLoss p n) s =
      .next (((s.set BRD_COOL_PUMP_LOST (bitPut (s.get BRD_COOL_PUMP_LOST) p.val true)).pumpsFull.alarmRepeat (0x0501 + p.val)).showLksCap) := by
  have hexec : exec (.pumpLoss p n) s = execPumpLoss p n s := rfl
  have hcond : (s.boot.fwRuns && s.pumpFitted p.val && decide (s.rpm n < s.cool 4 2 600)) = true := by simp [hfw, hfit, hlow]
  have hrepeat : ∀ m t : Int, (s.set BRD_COOL_PUMP_LOST (bitPut (s.get BRD_COOL_PUMP_LOST) p.val true)).pumpsFull.raise (0x0501 + p.val)
      (p.val + 1) m t = (s.set BRD_COOL_PUMP_LOST (bitPut (s.get BRD_COOL_PUMP_LOST) p.val true)).pumpsFull.alarmRepeat (0x0501 + p.val) :=
    fun m t => State.raise_of_active _ m t hact
  have hnone : ((s.set BRD_COOL_PUMP_LOST (bitPut (s.get BRD_COOL_PUMP_LOST) p.val true)).pumpsFull.alarmRepeat
      (0x0501 + p.val)).pumpsLost = false := hleft
  rw [hexec]
  unfold execPumpLoss
  rw [State.on_powered _ hp]
  dsimp only
  rw [if_pos hcond, hrepeat, hnone, if_neg Bool.false_ne_true]

/-- Power is on and the firmware runs; 0x0501 is active, and BRD_STATUS.DERATE shows the reset's 0. -/
def lostPumpRepeat : State :=
  { State.reset with
    pins := { State.reset.pins with powered := true }
    boot := { State.reset.boot with fwRuns := true }
    brd := { State.reset.brd with active := [(0x0501, 1)] } }

/-- Refutes O57: where 0x0501 is active already the loss of pump 0 is a repeat, which does not set BRD_STATUS.DERATE. -/
theorem not_coolingAndHostCommands : ¬ Obligations.CoolingAndHostCommands := by
  intro h
  have hfit : lostPumpRepeat.cool 0 1 3 = 3 := rfl
  have hstill : ((60 * 0 : Nat) : Rat) / ((lostPumpRepeat.cool 1 1 2 : Nat) : Rat) < ((lostPumpRepeat.cool 4 2 600 : Nat) : Rat) := by
    have hpulses : lostPumpRepeat.cool 1 1 2 = 2 := rfl
    have htach : lostPumpRepeat.cool 4 2 600 = 600 := rfl
    rw [hpulses, htach]
    norm_num
  have hreset : lostPumpRepeat.get BRD_STATUS_DERATE = 0 := by decide
  obtain ⟨hloss, -⟩ := h lostPumpRepeat rfl
  obtain ⟨t, hexec, -, -, hderate, -⟩ := hloss 0 0 rfl (by rw [hfit]; decide) hstill
  rw [exec_pumpLoss_repeat lostPumpRepeat 0 0 rfl rfl (by decide) hstill (by decide) (by decide)] at hexec
  injection hexec with ht
  have hzero : t.get BRD_STATUS_DERATE = 0 := by
    rw [← ht, State.showLksCap_get _ _ (by decide), State.alarmRepeat_get, State.pumpsFull_get, State.get_set_apart _ _ _ _ (.inl (by decide)),
      hreset]
  unfold State.isSet at hderate
  rw [hzero] at hderate
  exact absurd hderate (by decide)

end Sys2Proof.Machine


namespace Sys2Proof.Machine

/-! ### A module without power -/

/-- Settles O12: VIN_START, INPUT_OV_RESTART, INPUT_OV_LOCKOUT and the two edges of PERST_N alone act without power. -/
theorem nothingActsWithoutPower : Obligations.NothingActsWithoutPower := by
  intro c s hp hvin hrestart hlockout hassert hdeassert
  obtain ⟨u, rfl⟩ : ∃ u : State, s = { u with pins := { u.pins with powered := false } } := ⟨s, by rw [← hp]⟩
  cases c with
  | vinStart w => exact absurd rfl (hvin w)
  | inputOvRestart w => exact absurd rfl (hrestart w)
  | inputOvLockout v => exact absurd rfl (hlockout v)
  | perstAssert => exact absurd rfl hassert
  | perstDeassert => exact absurd rfl hdeassert
  | _ => rfl

/-- After a power-up no over-voltage lockout stands. -/
theorem State.powerUp_ovLockout (s : State) (conn : Word) : (s.powerUp conn).pins.ovLockout = false := by
  have hpins : (s.powerUp conn).pins = { (s.fused conn).pins with wakeN := (s.powerUp conn).pins.wakeN } := by
    rw [← (s.powerUp_lowKept conn).pins]
  rw [hpins]
  rfl

theorem exec_vinStart (s : State) (conn : Word) :
    exec (.vinStart conn) s = if s.pins.powered || s.pins.ovLockout then .next s else .next (s.powerUp conn) := rfl

theorem exec_inputOvRestart (s : State) (conn : Word) : exec (.inputOvRestart conn) s =
    if s.pins.ovLockout then .next (State.powerUp { s with pins := { s.pins with ovLockout := false } } conn) else .next s := rfl

theorem exec_inputOvLockout (s : State) (vin : Nat) (hp : s.pins.powered = false) :
    exec (.inputOvLockout vin) s = .next { s with pins := { s.pins with ovLockout := true } } := by
  have hexec : exec (.inputOvLockout vin) s = execInputOvLockout vin s := rfl
  rw [hexec]
  unfold execInputOvLockout
  rw [hp]
  rfl

/-- Settles O22: a power-up starts in PASSIVE (O23), without a lockout. -/
theorem inputReturns : Obligations.InputReturns := by
  have hstart : ∀ (s : State) (conn : Word), (s.powerUp conn).shelf = stPassive ∧ (s.powerUp conn).pins.powered = true := by
    intro s conn
    obtain ⟨hshelf, hpowered, -⟩ := powerUpStartsPassive s conn
    exact ⟨hshelf, hpowered⟩
  intro s
  refine ⟨fun conn hp hov => ?_, fun conn hno => ?_, fun conn hov => ?_, fun conn hov => ?_, fun vin hp => exec_inputOvLockout s vin hp⟩
  · obtain ⟨hshelf, hpowered⟩ := hstart s conn
    refine ⟨s.powerUp conn, ?_, rfl, hshelf, hpowered, s.powerUp_ovLockout conn⟩
    rw [exec_vinStart, if_neg (by simp [hp, hov])]
  · rw [exec_vinStart, if_pos (by simpa using hno)]
  · obtain ⟨hshelf, hpowered⟩ := hstart { s with pins := { s.pins with ovLockout := false } } conn
    refine ⟨_, ?_, rfl, hshelf, hpowered, State.powerUp_ovLockout _ conn⟩
    rw [exec_inputOvRestart, if_pos hov]
  · rw [exec_inputOvRestart, if_neg (by simp [hov])]

end Sys2Proof.Machine


namespace Sys2Proof.Machine

/-! ### Single bits -/

theorem bitOf_bitPut (v i : Nat) (b : Bool) : bitOf (bitPut v i b) i = b := by
  unfold bitOf bitPut
  cases b with
  | true => simp [Nat.testBit_or, Nat.testBit_two_pow_self]
  | false =>
    rw [if_neg Bool.false_ne_true, Nat.and_two_pow]
    cases h : v.testBit i with
    | false => simpa using h
    | true =>
      have hdiv : (v - 2 ^ i) / 2 ^ i = v / 2 ^ i - 1 := by simpa using Nat.sub_mul_div v (2 ^ i) 1
      rw [Nat.testBit_eq_decide_div_mod_eq, decide_eq_true_iff] at h
      rw [Bool.toNat_true, one_mul, Nat.testBit_eq_decide_div_mod_eq, hdiv, decide_eq_false_iff_not]
      omega

theorem bitPut_of_bitOf {v i : Nat} {b : Bool} (h : bitOf v i = b) : bitPut v i b = v := by
  unfold bitOf at h
  unfold bitPut
  cases b with
  | true =>
    rw [if_pos rfl]
    refine Nat.eq_of_testBit_eq fun j => ?_
    by_cases hj : j = i
    · rw [hj, Nat.testBit_or, h, Bool.true_or]
    · rw [Nat.testBit_or, Nat.testBit_two_pow_of_ne (Ne.symm hj), Bool.or_false]
  | false => rw [if_neg Bool.false_ne_true, Nat.and_two_pow, h, Bool.toNat_false, zero_mul, Nat.sub_zero]

/-- A bit of a field is the field of that bit. -/
theorem State.bitOf_get (s : State) {f : Field} {i : Nat} (hi : i < f.w) : bitOf (s.get f) i = s.isSet ⟨f.addr, f.lo + i, 1⟩ := by
  unfold bitOf State.isSet State.get
  rw [fieldGet_eq, fieldGet_eq, Nat.testBit_mod_two_pow, Nat.testBit_div_two_pow, Nat.testBit_eq_decide_div_mod_eq, pow_one,
    decide_eq_true hi, Bool.true_and, Nat.add_comm i]
  have hmod := Nat.mod_two_eq_zero_or_one ((s.rd f.addr).toNat / 2 ^ (f.lo + i))
  rcases hmod with h | h <;> rw [h] <;> rfl

/-- A bit of a field that has been set is the bit that was put. -/
theorem State.bitOf_get_set (s : State) {f : Field} {i : Nat} (v : Nat) (hf : f.lo + f.w ≤ 32) (hi : i < f.w) :
    bitOf ((s.set f v).get f) i = bitOf v i := by
  rw [State.get_set_same s f v hf]
  unfold bitOf
  rw [Nat.testBit_mod_two_pow, decide_eq_true hi, Bool.true_and]

theorem State.isSet_set_toNat (s : State) (f : Field) (b : Bool) (h : f.lo + f.w ≤ 32) (hw : 0 < f.w) : (s.set f b.toNat).isSet f = b := by
  cases b with
  | false => exact s.isSet_set_zero f h
  | true => exact s.isSet_set_one f h hw

theorem State.isSet_of_get {s t : State} {f : Field} (h : t.get f = s.get f) : t.isSet f = s.isSet f := by
  unfold State.isSet
  rw [h]

/-! ### A change of a connector's pin (R65, R66, R123) -/

/-- One bit of the connectors' levels. -/
abbrev connLevel (bit : Nat) : Field := ⟨SYS_CONN_STATUS, bit, 1⟩

/-- One bit of the connectors' changes. -/
abbrev connChange (bit : Nat) : Field := ⟨SYS_CONN_CHG, bit, 1⟩

theorem aside_of_addr {a : Nat} (lo w : Nat) (haddr : ¬BusyAddr a) (hbits : ∀ b ∈ busyFields, a ≠ b.addr) : Field.Aside ⟨a, lo, w⟩ :=
  ⟨haddr, fun b hb => .inl (hbits b hb)⟩

theorem aside_connLevel (bit : Nat) : (connLevel bit).Aside := aside_of_addr _ _ (by decide) (by decide)

theorem aside_connChange (bit : Nat) : (connChange bit).Aside := aside_of_addr _ _ (by decide) (by decide)

theorem aside_wakeConn : PWR_WAKE_SRC_CONN.Aside := ⟨by decide, by decide⟩

theorem State.get_fireWake (s : State) (b : Nat) {g : Field} (h : Field.apart ⟨PWR_WAKE_SRC, b, 1⟩ g) : (s.fireWake b).get g = s.get g := by
  have hset : (s.set ⟨PWR_WAKE_SRC, b, 1⟩ 1).get g = s.get g := s.get_set_apart _ g 1 h
  unfold State.fireWake
  dsimp only
  split <;> exact hset

theorem State.isSet_fireWake (s : State) {b : Nat} (hb : b < 32) : (s.fireWake b).isSet ⟨PWR_WAKE_SRC, b, 1⟩ = true := by
  have hset : (s.set ⟨PWR_WAKE_SRC, b, 1⟩ 1).isSet ⟨PWR_WAKE_SRC, b, 1⟩ = true := s.isSet_set_one _ (show b + 1 ≤ 32 from hb) Nat.one_pos
  unfold State.fireWake
  dsimp only
  split <;> exact hset

theorem State.get_refLost (s : State) (b : Nat) {g : Field} (h : CLK_FMEAS_CTRL ≠ g.addr) : (s.refLost b).get g = s.get g := by
  unfold State.refLost
  split
  · exact (State.get_raiseBit_apart _ _ g _ (.inl h)).trans (s.get_set_apart _ g 0 (.inl h))
  · rfl

/-- The steps of a change: the level, its change bit, the wake source and, for SYNC_IN, a reference that is lost. -/
theorem State.conn_of_ne (s : State) {bit : Nat} {v : Bool} (h : s.isSet (connLevel bit) ≠ v) : s.conn bit v =
    if bit = 22 ∧ v = false then
      (((s.set (connLevel bit) v.toNat).raiseBit (connChange bit) 225).fireWake 2).refLost 8
    else ((s.set (connLevel bit) v.toNat).raiseBit (connChange bit) 225).fireWake 2 := if_neg h

/-- What a change leaves: every field but the level, the change bit, the wake source and the frequency counter's control. -/
theorem State.get_conn (s : State) {bit : Nat} (v : Bool) {g : Field} (hlevel : (connLevel bit).apart g)
    (hchange : (connChange bit).apart g) (hwake : PWR_WAKE_SRC_CONN.apart g) (hfmeas : CLK_FMEAS_CTRL ≠ g.addr) :
    (s.conn bit v).get g = s.get g := by
  by_cases h : s.isSet (connLevel bit) = v
  · rw [State.conn, if_pos h]
  · have hsteps : (((s.set (connLevel bit) v.toNat).raiseBit (connChange bit) 225).fireWake 2).get g = s.get g :=
      (State.get_fireWake _ 2 hwake).trans ((State.get_raiseBit_apart _ _ g _ hchange).trans (s.get_set_apart _ g _ hlevel))
    rw [s.conn_of_ne h]
    split
    · exact (State.get_refLost _ 8 hfmeas).trans hsteps
    · exact hsteps

/-- The level shows after its change. -/
theorem State.isSet_conn (s : State) {bit : Nat} (v : Bool) (hb : bit < 32) : (s.conn bit v).isSet (connLevel bit) = v := by
  by_cases h : s.isSet (connLevel bit) = v
  · rw [State.conn, if_pos h]
    exact h
  · have hsteps : (((s.set (connLevel bit) v.toNat).raiseBit (connChange bit) 225).fireWake 2).isSet (connLevel bit) = v :=
      (State.isSet_of_get ((State.get_fireWake _ 2 (.inl (show PWR_WAKE_SRC ≠ SYS_CONN_STATUS by decide))).trans
        (State.get_raiseBit_apart _ _ _ _ (.inl (show SYS_CONN_CHG ≠ SYS_CONN_STATUS by decide))))).trans
        (s.isSet_set_toNat _ v (show bit + 1 ≤ 32 from hb) Nat.one_pos)
    rw [s.conn_of_ne h]
    split
    · exact (State.isSet_of_get (State.get_refLost _ 8 (show CLK_FMEAS_CTRL ≠ SYS_CONN_STATUS by decide))).trans hsteps
    · exact hsteps

/-- A level that changes sets its change bit and fires the wake source of the connectors (R66, R123). -/
theorem State.conn_changes (s : State) {bit : Nat} {v : Bool} (hb : bit < 32) (h : s.isSet (connLevel bit) ≠ v) :
    (s.conn bit v).isSet (connChange bit) = true ∧ (s.conn bit v).isSet PWR_WAKE_SRC_CONN = true := by
  have hchange : (((s.set (connLevel bit) v.toNat).raiseBit (connChange bit) 225).fireWake 2).isSet (connChange bit) = true :=
    (State.isSet_of_get (State.get_fireWake _ 2 (.inl (show PWR_WAKE_SRC ≠ SYS_CONN_CHG by decide)))).trans
      (State.isSet_raiseBit _ _ _ (show bit + 1 ≤ 32 from hb) Nat.one_pos)
  have hwake := State.isSet_fireWake ((s.set (connLevel bit) v.toNat).raiseBit (connChange bit) 225) (by decide : 2 < 32)
  rw [s.conn_of_ne h]
  split
  · exact ⟨(State.isSet_of_get (State.get_refLost _ 8 (show CLK_FMEAS_CTRL ≠ SYS_CONN_CHG by decide))).trans hchange,
      (State.isSet_of_get (State.get_refLost _ 8 (by decide))).trans hwake⟩
  · exact ⟨hchange, hwake⟩

/-- The wake source of the connectors stays set. -/
theorem State.wakeConn_conn (s : State) {bit : Nat} (v : Bool) (hb : bit < 32) (h : s.isSet PWR_WAKE_SRC_CONN = true) :
    (s.conn bit v).isSet PWR_WAKE_SRC_CONN = true := by
  by_cases hv : s.isSet (connLevel bit) = v
  · rw [State.conn, if_pos hv]
    exact h
  · exact (s.conn_changes hb hv).2

/-- A change of another pin leaves a pin's level and its change bit. -/
theorem State.conn_other (s : State) {bit other : Nat} (v : Bool) (h : bit ≠ other) :
    (s.conn bit v).isSet (connLevel other) = s.isSet (connLevel other) ∧
    (s.conn bit v).isSet (connChange other) = s.isSet (connChange other) := by
  have hlevel : ∀ a : Nat, Field.apart ⟨a, bit, 1⟩ ⟨a, other, 1⟩ := fun a => .inr (by
    show bit + 1 ≤ other ∨ other + 1 ≤ bit
    omega)
  exact ⟨State.isSet_of_get (s.get_conn v (hlevel _) (.inl (show SYS_CONN_CHG ≠ SYS_CONN_STATUS by decide))
      (.inl (show PWR_WAKE_SRC ≠ SYS_CONN_STATUS by decide)) (show CLK_FMEAS_CTRL ≠ SYS_CONN_STATUS by decide)),
    State.isSet_of_get (s.get_conn v (.inl (show SYS_CONN_STATUS ≠ SYS_CONN_CHG by decide)) (hlevel _)
      (.inl (show PWR_WAKE_SRC ≠ SYS_CONN_CHG by decide)) (show CLK_FMEAS_CTRL ≠ SYS_CONN_CHG by decide))⟩

theorem State.conn_shelf (s : State) (bit : Nat) (v : Bool) : (s.conn bit v).shelf = s.shelf :=
  s.get_conn v (.inl (show SYS_CONN_STATUS ≠ SYS_SHELF_STATE by decide)) (.inl (show SYS_CONN_CHG ≠ SYS_SHELF_STATE by decide))
    (.inl (show PWR_WAKE_SRC ≠ SYS_SHELF_STATE by decide)) (by decide)

theorem State.fireWake_keeps (s : State) (b : Nat) :
    (s.fireWake b).pins = s.pins ∧ (s.fireWake b).brd = s.brd ∧ (s.fireWake b).sbg = s.sbg := by
  unfold State.fireWake
  dsimp only
  split <;> exact ⟨rfl, rfl, rfl⟩

theorem State.refLost_keeps (s : State) (b : Nat) :
    (s.refLost b).pins = s.pins ∧ (s.refLost b).brd = s.brd ∧ (s.refLost b).sbg = s.sbg := by
  unfold State.refLost
  split <;> simp

/-- A change leaves the pins that the module drives, the protection and the recorder. -/
theorem State.conn_keeps (s : State) (bit : Nat) (v : Bool) :
    (s.conn bit v).pins = s.pins ∧ (s.conn bit v).brd = s.brd ∧ (s.conn bit v).sbg = s.sbg := by
  obtain ⟨hpins, hbrd, hsbg⟩ := ((s.set (connLevel bit) v.toNat).raiseBit (connChange bit) 225).fireWake_keeps 2
  simp only [State.raiseBit_pins, State.raiseBit_brd, State.raiseBit_sbg, State.set_pins, State.set_brd, State.set_sbg] at hpins hbrd hsbg
  by_cases h : s.isSet (connLevel bit) = v
  · rw [State.conn, if_pos h]
    exact ⟨rfl, rfl, rfl⟩
  · obtain ⟨hp, hb, hs⟩ := (((s.set (connLevel bit) v.toNat).raiseBit (connChange bit) 225).fireWake 2).refLost_keeps 8
    rw [s.conn_of_ne h]
    split
    · exact ⟨hp.trans hpins, hb.trans hbrd, hs.trans hsbg⟩
    · exact ⟨hpins, hbrd, hsbg⟩

end Sys2Proof.Machine


namespace Sys2Proof.Machine

/-! ### The connectors (R44, R50, R65, R66, R216, R507) -/

theorem exec_mezPresChange (s : State) (n : Fin 4) (present idOk : Bool) (hp : s.pins.powered = true) :
    exec (.mezPresChange n present idOk) s =
      if s.isSet (connLevel n.val) = present then .next (s.conn (4 + n.val) idOk)
      else if ((s.conn n.val present).conn (4 + n.val) idOk).shelf = stPassive then
        .next ((s.conn n.val present).conn (4 + n.val) idOk)
      else
        let u := (s.conn n.val present).conn (4 + n.val) idOk
        .next (State.raise { u with pins := { u.pins with
          drvHeld := u.pins.drvHeld.set n.val true, drvEn := u.pins.drvEn.set n.val false } } 0x0109 (3 + n.val) present.toNat 0) := by
  have hexec : exec (.mezPresChange n present idOk) s = execMezPresChange n present idOk s := rfl
  rw [hexec]
  exact State.on_powered _ hp

/-- A fault of class F2 that does not last and is not active is logged and acts. -/
theorem State.raise_f2 (s : State) {code idx : Nat} (m t : Int) (hact : (code, idx) ∉ s.brd.active) (hcls : s.classOf code idx = 2)
    (hlevel : isLevel code = false) : s.raise code idx m t = (s.logCode code idx 2 m t).takeF2 code idx := by
  unfold State.raise
  rw [if_neg hact]
  dsimp only
  rw [hcls, hlevel, if_neg Bool.false_ne_true, if_neg (by decide), if_pos rfl]

theorem drives_of_seen {s : State} {x : Seen} (h : s.seen = x) : s.pins.drvEn = x.pins.drvEn ∧ s.pins.drvHeld = x.pins.drvHeld := by
  subst h
  exact ⟨rfl, rfl⟩

/-- An F2 code other than 0x0103 and 0x0601 leaves the phase boards' enables or takes them all low, and holds as many. -/
theorem State.takeF2_drives (s : State) {code : Nat} (idx : Nat) (hov : code ≠ 0x0103) (hbus : code ≠ 0x0601) :
    ((s.takeF2 code idx).pins.drvEn = s.pins.drvEn ∨ (s.takeF2 code idx).pins.drvEn = [false, false, false, false]) ∧
    (s.takeF2 code idx).pins.drvHeld = s.pins.drvHeld := by
  obtain ⟨l, ⟨-, h⟩ | h | h⟩ := s.takeF2_seen idx hov hbus
  · exact ⟨.inl (drives_of_seen h).1, (drives_of_seen h).2⟩
  · exact ⟨.inr (drives_of_seen h).1, (drives_of_seen h).2⟩
  · exact ⟨.inr (drives_of_seen h).1, (drives_of_seen h).2⟩

/-- The mezzanine-presence fault leaves the phase boards' enables or takes them all low; a fresh one is the last code, or a storm is. -/
theorem State.raise_mezzanine (s : State) (n : Nat) (m : Int) :
    ((s.raise 0x0109 n m 0).pins.drvEn = s.pins.drvEn ∨ (s.raise 0x0109 n m 0).pins.drvEn = [false, false, false, false]) ∧
    (s.raise 0x0109 n m 0).pins.drvHeld = s.pins.drvHeld ∧ ((0x0109, n) ∉ s.brd.active →
      (s.raise 0x0109 n m 0).get BRD_LAST_CODE = 0x0109 ∨ (s.raise 0x0109 n m 0).get BRD_LAST_CODE = 0x0708) := by
  by_cases hact : (0x0109, n) ∈ s.brd.active
  · rw [s.raise_of_active m 0 hact]
    exact ⟨.inl rfl, rfl, fun h => absurd hact h⟩
  · have hlog := s.logCode_seen 0x0109 n 2 m 0
    obtain ⟨hdrv, hheld⟩ := (s.logCode 0x0109 n 2 m 0).takeF2_drives n (by decide : 0x0109 ≠ 0x0103) (by decide : 0x0109 ≠ 0x0601)
    obtain ⟨-, -, -, -, hlast, -⟩ := (s.logCode 0x0109 n 2 m 0).takeF2_shows n (by decide : 0x0109 ≠ 0x0103) (by decide : 0x0109 ≠ 0x0601)
    rw [s.raise_f2 m 0 hact rfl (by decide)]
    obtain ⟨hen, hhold⟩ := drives_of_seen hlog
    have hcode : (s.logCode 0x0109 n 2 m 0).get BRD_LAST_CODE = 0x0109 := State.get_of_seen hlog (.inl (by decide))
    rw [hen] at hdrv
    rw [hcode] at hlast
    exact ⟨hdrv, hheld.trans hhold, fun _ => hlast⟩

/-- Settles O15: the level, the strap and their change bits are those of two connector changes, which the fault leaves alone. -/
theorem mezzaninePresenceChanges : Obligations.MezzaninePresenceChanges := by
  intro s hp
  have hshows : ∀ (n : Fin 4) (present idOk : Bool), s.isSet (connLevel n.val) ≠ present →
      ((s.conn n.val present).conn (4 + n.val) idOk).isSet (connLevel n.val) = present ∧
      ((s.conn n.val present).conn (4 + n.val) idOk).isSet (connChange n.val) = true ∧
      ((s.conn n.val present).conn (4 + n.val) idOk).isSet (connLevel (4 + n.val)) = idOk ∧
      ((s.conn n.val present).conn (4 + n.val) idOk).isSet PWR_WAKE_SRC_CONN = true := by
    intro n present idOk h
    obtain ⟨hlevel, hchange⟩ := (s.conn n.val present).conn_other idOk (by omega : 4 + n.val ≠ n.val)
    obtain ⟨hset, hwake⟩ := s.conn_changes (by omega : n.val < 32) h
    exact ⟨hlevel.trans (s.isSet_conn present (by omega)), hchange.trans hset, State.isSet_conn _ idOk (by omega),
      State.wakeConn_conn _ idOk (by omega) hwake⟩
  have hkeeps : ∀ (n : Fin 4) (present idOk : Bool),
      ((s.conn n.val present).conn (4 + n.val) idOk).pins = s.pins ∧ ((s.conn n.val present).conn (4 + n.val) idOk).brd = s.brd ∧
      ((s.conn n.val present).conn (4 + n.val) idOk).sbg = s.sbg ∧ ((s.conn n.val present).conn (4 + n.val) idOk).shelf = s.shelf := by
    intro n present idOk
    obtain ⟨hpins, hbrd, hsbg⟩ := s.conn_keeps n.val present
    obtain ⟨hpins', hbrd', hsbg'⟩ := (s.conn n.val present).conn_keeps (4 + n.val) idOk
    exact ⟨hpins'.trans hpins, hbrd'.trans hbrd, hsbg'.trans hsbg, (State.conn_shelf _ _ _).trans (s.conn_shelf _ _)⟩
  refine ⟨fun n present idOk hne hpas => ?_, fun n present idOk hne hpas hen hheld => ?_, fun n present idOk heq => ?_⟩
  · obtain ⟨hlevel, hchange, hid, hwake⟩ := hshows n present idOk hne
    obtain ⟨hpins, hbrd, hsbg, hshelf⟩ := hkeeps n present idOk
    refine ⟨_, ?_, hlevel, hchange, hid, hwake, hbrd, hsbg, congrArg Pins.drvEn hpins, congrArg Pins.isoEn hpins,
      congrArg Pins.contEn hpins, hshelf⟩
    rw [exec_mezPresChange s n present idOk hp, if_neg hne, hshelf, if_pos hpas]
  · obtain ⟨hlevel, hchange, hid, hwake⟩ := hshows n present idOk hne
    obtain ⟨hpins, hbrd, hsbg, hshelf⟩ := hkeeps n present idOk
    rw [exec_mezPresChange s n present idOk hp, if_neg hne, hshelf, if_neg hpas]
    generalize (s.conn n.val present).conn (4 + n.val) idOk = u at *
    dsimp only
    rw [hpins]
    let v : State := { u with pins := { s.pins with drvHeld := s.pins.drvHeld.set n.val true, drvEn := s.pins.drvEn.set n.val false } }
    have hbeside : ∀ {g : Field}, g.Aside → (v.raise 0x0109 (3 + n.val) present.toNat 0).isSet g = u.isSet g := fun hg =>
      (isSet_of_beside (v.raise_beside hg _ _ _ _)).trans rfl
    obtain ⟨hdrv, hhold, hlast⟩ := v.raise_mezzanine (3 + n.val) present.toNat
    refine ⟨_, rfl, (hbeside (aside_connLevel _)).trans hlevel, (hbeside (aside_connChange _)).trans hchange,
      (hbeside (aside_connLevel _)).trans hid, (hbeside aside_wakeConn).trans hwake, ?_, ?_, fun h => hlast (hbrd ▸ h)⟩
    · rcases hdrv with h | h
      · rw [h]
        simp [v, hen]
      · rw [h]
        have hn := n.isLt
        interval_cases n.val <;> rfl
    · rw [hhold]
      simp [v, hheld]
  · obtain ⟨hpins, hbrd, -⟩ := s.conn_keeps (4 + n.val) idOk
    obtain ⟨hlevel, -⟩ := s.conn_other idOk (by omega : 4 + n.val ≠ n.val)
    refine ⟨_, ?_, hlevel.trans heq, hbrd, congrArg Pins.drvEn hpins, s.conn_shelf _ _⟩
    rw [exec_mezPresChange s n present idOk hp, if_pos heq]

end Sys2Proof.Machine


namespace Sys2Proof.Machine

/-! ### The commands of the connectors -/

section
variable {g : Field} (hg : g.Aside)
include hg

/-- A string that is back leaves what lies beside the registers of protection. -/
theorem State.strReturned_beside (s : State) (x : Nat) : (s.strReturned x).beside g = s.beside g := by
  have hcodes : ∀ (l : List (Nat × Nat)) (t : State), (forL l (fun c u => u.unraise c.1 c.2) t).beside g = t.beside g :=
    fun l t => forL_beside t fun c _ u => u.unraise_beside hg c.1 c.2
  have hforce : ∀ t : State, (t.unforce (stringChans x)).beside g = t.beside g := fun t => t.unforce_beside hg fun _ => lt_of_mem_stringChans
  have hrest : State.beside g { s with brd := { s.brd with
      strOut := s.brd.strOut.filter (· != x), returning := s.brd.returning.filter (· != x) } } = s.beside g := brd_beside s _
  unfold State.strReturned
  dsimp only
  rw [hcodes]
  exact (hforce _).trans hrest

end

theorem State.sfpRead_isSet (s : State) (p : Nat) (f : Field) : (s.sfpRead p).isSet f = s.isSet f := rfl

theorem State.sfpRead_out (s : State) (p : Nat) : (s.sfpRead p).out = .i2cRead p 0xA2 :: .i2cRead p 0xA0 :: s.out := rfl

theorem exec_sfpInsertion (s : State) (p : Fin 2) (hp : s.pins.powered = true) :
    exec (.sfpInsertion p) s = .next ((s.conn (8 + p.val) true).sfpRead p.val) := by
  have hexec : exec (.sfpInsertion p) s = execSfpInsertion p s := rfl
  rw [hexec]
  exact State.on_powered _ hp

/-- Both cages are read where they hold a module, which a read of the other does not change. -/
theorem exec_sfpPeriodicRead (s : State) (hp : s.pins.powered = true) : exec .sfpPeriodicRead s = .next
    { s with out := (if bitOf (s.get SYS_CONN_STATUS_SFP_PRES) 1 then [Out.i2cRead 1 0xA2, Out.i2cRead 1 0xA0] else []) ++
      (if bitOf (s.get SYS_CONN_STATUS_SFP_PRES) 0 then [Out.i2cRead 0 0xA2, Out.i2cRead 0 0xA0] else []) ++ s.out } := by
  have hexec : exec .sfpPeriodicRead s = execSfpPeriodicRead s := rfl
  have hread : ∀ b : Bool, (if b then s.sfpRead 0 else s).get SYS_CONN_STATUS_SFP_PRES = s.get SYS_CONN_STATUS_SFP_PRES := by
    intro b
    cases b <;> rfl
  have htwice : forN 2 (fun p t => if bitOf (t.get SYS_CONN_STATUS_SFP_PRES) p then t.sfpRead p else t) s =
      if bitOf ((if bitOf (s.get SYS_CONN_STATUS_SFP_PRES) 0 then s.sfpRead 0 else s).get SYS_CONN_STATUS_SFP_PRES) 1 then
        (if bitOf (s.get SYS_CONN_STATUS_SFP_PRES) 0 then s.sfpRead 0 else s).sfpRead 1
      else if bitOf (s.get SYS_CONN_STATUS_SFP_PRES) 0 then s.sfpRead 0 else s := rfl
  rw [hexec]
  unfold execSfpPeriodicRead
  rw [State.on_powered _ hp, htwice, hread]
  cases bitOf (s.get SYS_CONN_STATUS_SFP_PRES) 0 <;> cases bitOf (s.get SYS_CONN_STATUS_SFP_PRES) 1 <;> rfl

theorem exec_spurSymbolLock (s : State) (lane : Fin 2) (v : Bool) (hp : s.pins.powered = true) : exec (.spurSymbolLock lane v) s =
    if bitPut (s.get SPUR_STATUS_LOCK) lane.val v = s.get SPUR_STATUS_LOCK then .next s
    else .next ((s.set SPUR_STATUS_LOCK (bitPut (s.get SPUR_STATUS_LOCK) lane.val v)).conn (14 + lane.val) v) := by
  have hexec : exec (.spurSymbolLock lane v) s = execSpurSymbolLock lane v s := rfl
  rw [hexec]
  exact State.on_powered _ hp

/-- What a pin that CONNECTOR_PIN_CHANGE carries leads to once its level has changed (R47, R421, R507). -/
def State.pinFollow (s : State) (bit : Nat) (v : Bool) : State :=
  if (bit = 18 ∨ bit = 19) ∧ v ∧ bit - 18 ∈ s.brd.returning then s.strReturned (bit - 18) else s.ovSettle.checkHoldoff

theorem exec_connectorPinChange (s : State) (bit : Fin 24) (v : Bool) (hp : s.pins.powered = true) :
    exec (.connectorPinChange bit v) s =
      if s.pinChanges bit.val v then .next ((s.conn bit.val v).pinFollow bit.val v) else .next s := by
  have hexec : exec (.connectorPinChange bit v) s = execConnectorPinChange bit v s := rfl
  rw [hexec]
  unfold execConnectorPinChange State.pinFollow
  rw [State.on_powered _ hp]
  cases s.pinChanges bit.val v
  · rfl
  · dsimp only
    rw [if_neg (by decide), if_pos rfl]
    split <;> rfl

theorem State.pinFollow_beside {g : Field} (hg : g.Aside) (s : State) (bit : Nat) (v : Bool) :
    (s.pinFollow bit v).beside g = s.beside g :=
  beside_ite_of (s.strReturned_beside hg _) ((State.checkHoldoff_beside _).trans (s.ovSettle_beside hg))

theorem State.contFb_eq (s : State) (x : StrNo) : s.contFb x.val = s.isSet (connLevel (18 + x.val)) := s.bitOf_get x.isLt

/-- A contactor's feedback that follows its enable up is a pin that CONNECTOR_PIN_CHANGE carries. -/
theorem State.pinChanges_contFb (s : State) (x : StrNo) (hen : s.pins.contEn.getD x.val false = true) :
    s.pinChanges (18 + x.val) true = true := by
  have hx := x.isLt
  have hbit : 18 + x.val = 18 ∨ 18 + x.val = 19 := by omega
  have hne : x.val ≠ 2 := by omega
  unfold State.pinChanges State.enOf
  rw [if_neg (by omega), if_pos hbit, Nat.add_sub_cancel_left, if_neg hne, hen]
  rfl

/-- Settles O25, by what one connector change shows and what the rest of each command leaves beside it. -/
theorem connectorCommands : Obligations.ConnectorCommands := by
  intro s hp
  refine ⟨fun p => ?_, exec_sfpPeriodicRead s hp, fun lane v hlock hsig => ?_, fun lane v hlock => ?_, fun bit v hpin hne => ?_,
    fun x hen hfb hret => ?_, fun bit v hpin => ?_⟩
  · refine ⟨_, exec_sfpInsertion s p hp, ?_⟩
    simp only [State.sfpRead_isSet, State.sfpRead_out]
    exact ⟨s.isSet_conn true (by omega), fun h => s.conn_changes (by omega) (by rw [h]; decide), rfl⟩
  · have hput : bitOf (bitPut (s.get SPUR_STATUS_LOCK) lane.val v) lane.val = v := bitOf_bitPut _ _ _
    have hne : bitPut (s.get SPUR_STATUS_LOCK) lane.val v ≠ s.get SPUR_STATUS_LOCK := fun h => hlock (by rw [← h, hput])
    generalize hl : bitPut (s.get SPUR_STATUS_LOCK) lane.val v = l at hput hne
    have hlevel : (s.set SPUR_STATUS_LOCK l).isSet (connLevel (14 + lane.val)) ≠ v := by
      rw [State.isSet_of_get (s.get_set_apart _ _ l (.inl (show SPUR_STATUS ≠ SYS_CONN_STATUS by decide)))]
      rwa [s.bitOf_get lane.isLt] at hsig
    obtain ⟨hchange, hwake⟩ := State.conn_changes _ (by omega : 14 + lane.val < 32) hlevel
    refine ⟨(s.set SPUR_STATUS_LOCK l).conn (14 + lane.val) v, ?_, ?_, ?_, hchange, hwake⟩
    · rw [exec_spurSymbolLock s lane v hp, hl, if_neg hne]
    · rw [State.get_conn (g := SPUR_STATUS_LOCK) _ v (.inl (show SYS_CONN_STATUS ≠ SPUR_STATUS by decide)) (.inl (show SYS_CONN_CHG ≠ SPUR_STATUS by decide))
        (.inl (show PWR_WAKE_SRC ≠ SPUR_STATUS by decide)) (show CLK_FMEAS_CTRL ≠ SPUR_STATUS by decide)]
      exact (s.bitOf_get_set l (by decide) lane.isLt).trans hput
    · exact (State.bitOf_get _ lane.isLt).trans (State.isSet_conn _ v (by omega))
  · rw [exec_spurSymbolLock s lane v hp, if_pos (bitPut_of_bitOf hlock)]
  · obtain ⟨hchange, hwake⟩ := s.conn_changes (by omega : bit.val < 32) hne
    have hfollow : ∀ {g : Field}, g.Aside → ((s.conn bit.val v).pinFollow bit.val v).isSet g = (s.conn bit.val v).isSet g :=
      fun hg => isSet_of_beside (State.pinFollow_beside hg _ _ _)
    refine ⟨(s.conn bit.val v).pinFollow bit.val v, ?_, (hfollow (aside_connLevel _)).trans (s.isSet_conn v (by omega)), (hfollow (aside_connChange _)).trans hchange,
      (hfollow aside_wakeConn).trans hwake⟩
    rw [exec_connectorPinChange s bit v hp, if_pos hpin]
  · have hx := x.isLt
    obtain ⟨-, hbrd, -⟩ := s.conn_keeps (18 + x.val) true
    have hfollow : (s.conn (18 + x.val) true).pinFollow (18 + x.val) true = (s.conn (18 + x.val) true).strReturned x.val := by
      unfold State.pinFollow
      rw [Nat.add_sub_cancel_left, hbrd, if_pos ⟨by omega, rfl, hret⟩]
    obtain ⟨-, hback, hout, -⟩ := (s.conn (18 + x.val) true).strReturned_shows x
    refine ⟨(s.conn (18 + x.val) true).strReturned x.val, ?_, hback, ?_, ?_⟩
    · rw [exec_connectorPinChange s _ true hp, if_pos (s.pinChanges_contFb x hen), hfollow]
    · rw [hout]
      simp
    · rw [State.contFb_eq]
      exact (isSet_of_beside (State.strReturned_beside (aside_connLevel _) _ _)).trans (s.isSet_conn true (by omega))
  · rw [exec_connectorPinChange s bit v hp, if_neg (by simp [hpin])]

end Sys2Proof.Machine


namespace Sys2Proof.Machine

/-! ### The blocks that a fault's bookkeeping leaves, and the codes that stay active -/

/-- Bridle's state, Larkspur's and the forecast's: what the bookkeeping of a code leaves. -/
structure Bystanders where
  brd : Brd
  lks : Lks
  fcst : Fcst

def State.bystanders (s : State) : Bystanders := ⟨s.brd, s.lks, s.fcst⟩

theorem bystanders_of_apart {p : Parts} {s t : State} (hl : p.lks = false) (hf : p.fcst = false) (h : t.apart p = s.apart p) :
    t.bystanders = s.bystanders := by
  have hbrd : t.brd = s.brd := same_of_apart h State.brd
  have hlks : t.lks = s.lks := by simpa only [State.apart, hl, Bool.false_eq_true, if_false] using same_of_apart h State.lks
  have hfcst : t.fcst = s.fcst := by simpa only [State.apart, hf, Bool.false_eq_true, if_false] using same_of_apart h State.fcst
  unfold State.bystanders
  rw [hbrd, hlks, hfcst]

theorem bystanders_ite_of {c : Prop} [Decidable c] {s t : State} {x : Bystanders} (hs : s.bystanders = x) (ht : t.bystanders = x) :
    (if c then s else t).bystanders = x := by
  split <;> assumption

theorem forN_bystanders {n : Nat} {f : Nat → State → State} (s : State) (hf : ∀ i t, (f i t).bystanders = t.bystanders) :
    (forN n f s).bystanders = s.bystanders := by
  unfold forN
  induction List.range n generalizing s with
  | nil => rfl
  | cons x l ih => exact (ih _).trans (hf x s)

@[simp] theorem State.set_bystanders (s : State) (f : Field) (v : Nat) : (s.set f v).bystanders = s.bystanders := rfl

@[simp] theorem State.wr_bystanders (s : State) (a : Nat) (v : Word) : (s.wr a v).bystanders = s.bystanders := rfl

@[simp] theorem State.raiseBit_bystanders (s : State) (f : Field) (v : Nat) : (s.raiseBit f v).bystanders = s.bystanders :=
  bystanders_of_apart (p := {}) rfl rfl (s.raiseBit_apart f v)

@[simp] theorem State.alarmRepeat_bystanders (s : State) (code : Nat) : (s.alarmRepeat code).bystanders = s.bystanders := rfl

@[simp] theorem State.tuneAbort_bystanders (s : State) (cause : Nat) : (s.tuneAbort cause).bystanders = s.bystanders := by
  unfold State.tuneAbort
  split
  · rfl
  · rw [State.raiseBit_bystanders]
    exact bystanders_ite_of rfl rfl

@[simp] theorem State.record_bystanders (s : State) (kind prio domain code key cls : Nat) (opens : Bool) (body : List Byte) :
    (s.record kind prio domain code key cls opens body).bystanders = s.bystanders :=
  bystanders_of_apart (p := {}) rfl rfl (s.record_apart ..)

@[simp] theorem State.fireOnFault_bystanders (s : State) (code cls : Nat) : (s.fireOnFault code cls).bystanders = s.bystanders := by
  have hfire : ∀ (l : Nat) (t : State), (t.fireList l).bystanders = t.bystanders := fun l t =>
    bystanders_of_apart (p := {}) rfl rfl (t.fireList_apart l)
  exact forN_bystanders s fun l t => bystanders_ite_of (hfire l t) (bystanders_ite_of (hfire l t) rfl)

/-- The bookkeeping of a code leaves Bridle's state, Larkspur's and the forecast's. -/
theorem State.logCode_bystanders (s : State) (code idx cls : Nat) (m t : Int) : (s.logCode code idx cls m t).bystanders = s.bystanders := by
  have hlfr : ∀ u : State, (u.lfr code 0xFF []).bystanders = u.bystanders := fun u => bystanders_ite_of rfl rfl
  have hcount : ∀ u : State, (if cls = 2 then u.bumpSat BRD_COUNT_F2 1 else if cls = 3 then u.bumpSat BRD_COUNT_F3 1 else u).bystanders =
      u.bystanders := fun u => bystanders_ite_of rfl (bystanders_ite_of rfl rfl)
  have hwake : ∀ u : State, (u.fireWake 1).bystanders = u.bystanders := fun u => bystanders_ite_of rfl rfl
  have halarm : ∀ (u : State) (d : List Byte), (u.alarm code cls d).bystanders = u.bystanders := fun u d =>
    (State.set_bystanders _ _ _).trans (bystanders_ite_of rfl rfl)
  unfold State.logCode
  dsimp only
  rw [State.fireOnFault_bystanders, bystanders_ite_of (halarm _ _) rfl, State.record_bystanders, hwake, hcount,
    bystanders_ite_of (State.tuneAbort_bystanders _ _) rfl, bystanders_ite_of (hlfr _) rfl, State.set_bystanders, State.set_bystanders,
    State.set_bystanders, State.raiseBit_bystanders]

theorem brd_of_bystanders {s t : State} (h : t.bystanders = s.bystanders) : t.brd = s.brd := congrArg Bystanders.brd h

theorem lks_of_bystanders {s t : State} (h : t.bystanders = s.bystanders) : t.lks = s.lks := congrArg Bystanders.lks h

theorem fcst_of_bystanders {s t : State} (h : t.bystanders = s.bystanders) : t.fcst = s.fcst := congrArg Bystanders.fcst h

theorem State.logCode_brd (s : State) (code idx cls : Nat) (m t : Int) : (s.logCode code idx cls m t).brd = s.brd :=
  brd_of_bystanders (s.logCode_bystanders code idx cls m t)

/-- The cascades' change takes 0x0310 from the active codes, and the window's end none. -/
theorem State.cascadesOff_active (s : State) : s.cascadesOff.brd.active = s.brd.active.filter (·.1 != 0x0310) := by
  have hcas : ∀ t : State, (forN 8 (fun c t =>
      (((t.casOff c).wr (REIN_CAS_OUT c) 0).set (REIN_CAS_STATUS_ENABLE_PENDING c) 0).wr (REIN_CAS_OUT_BASE c) 0) t).bystanders = t.bystanders :=
    fun t => forN_bystanders t fun c u => rfl
  have hbrd : (forN 8 (fun c t =>
      (((t.casOff c).wr (REIN_CAS_OUT c) 0).set (REIN_CAS_STATUS_ENABLE_PENDING c) 0).wr (REIN_CAS_OUT_BASE c) 0) s).brd = s.brd :=
    brd_of_bystanders (hcas s)
  have hshow : ∀ t : State, (((((t.set BRD_PENDING_CAS 0).wr REIN_CMD_TOT 0).wr REIN_CMD_STR 0).wr REIN_FF_NOW 0).wr
      REIN_UNSERVED 0).brd = t.brd := fun t => rfl
  have hend : ∀ t : State, State.brd { t with
      hrn := { t.hrn with strCmd := [0, 0], chans := t.hrn.chans.map fun c => { c with ref := 0 } }
      rein := { t.rein with restart := [], unserved := 0, carried := [], handover := none }
      brd := { t.brd with active := t.brd.active.filter (·.1 != 0x0310) } } =
      { t.brd with active := t.brd.active.filter (·.1 != 0x0310) } := fun t => rfl
  unfold State.cascadesOff
  rw [hend, hshow, hbrd]

theorem State.windowOff_brd (s : State) : s.windowOff.brd = s.brd := by
  have hquiet : ∀ t : State, t.quietOff.brd = t.brd := by
    intro t
    unfold State.quietOff
    split
    · exact (brd_of_bystanders (State.tuneAbort_bystanders _ 2)).trans (brd_of_bystanders ((State.set_bystanders _ _ _).trans
        ((State.raiseBit_bystanders _ _ _).trans (State.set_bystanders _ _ _))))
    · rfl
  exact (hquiet _).trans rfl

theorem State.chansForced_brd (s : State) : s.chansForced.brd = s.brd := by
  have hpark : ∀ (n st : Nat) (t : State), (t.chPark n st).bystanders = t.bystanders := fun n st t => rfl
  have hmask : ∀ t : State, t.showActive.bystanders = t.bystanders := fun t => forN_bystanders _ fun g u => rfl
  exact brd_of_bystanders ((hmask _).trans (forN_bystanders s fun n t => bystanders_ite_of (hpark _ _ _) (hpark _ _ _)))

theorem State.isoOff_brd (s : State) : s.isoOff.brd = s.brd := rfl

theorem State.drvOff_brd (s : State) : s.drvOff.brd = s.brd := rfl

theorem State.jnlTrigger_brd (s : State) (bit : Nat) : (s.jnlTrigger bit).brd = s.brd := by
  unfold State.jnlTrigger State.jnlStart
  repeat' split
  all_goals rfl

theorem State.openDue_active (s : State) (xs : List Nat) : (s.openDue xs).brd.active = s.brd.active := by
  unfold State.openDue
  dsimp only
  split <;> rfl

theorem State.join_active (s : State) (code cls : Nat) : (s.join code cls).brd.active = s.brd.active := by
  unfold State.join
  rw [State.showCauses_brd]

theorem State.clearCauses_active (s : State) : s.clearCauses.brd.active = s.brd.active := by
  unfold State.clearCauses
  rw [State.showCauses_brd]

theorem mem_active_ite {p : Prop} [Decidable p] {s t : State} {c : Nat × Nat} (hs : c ∈ s.brd.active) (ht : c ∈ t.brd.active) :
    c ∈ (if p then s else t).brd.active := by
  split <;> assumption

/-- The hold-off's check takes none but 0x0108 from the active codes (R418). -/
theorem State.mem_checkHoldoff {s : State} {c : Nat × Nat} (hfb : c.1 ≠ 0x0108) (h : c ∈ s.brd.active) : c ∈ s.checkHoldoff.brd.active := by
  have heq : s.checkHoldoff.brd.active = s.fbSettle.brd.active := by
    unfold State.checkHoldoff
    dsimp only
    repeat' split
    all_goals rfl
  rw [heq]
  exact List.mem_filter.2 ⟨h, by simp [hfb]⟩

/-- An isolation takes none but 0x0310 from the active codes (R200). -/
theorem State.mem_isolate {s : State} {c : Nat × Nat} (code : Nat) {st : Nat} (cls : Nat) (xs : List Nat) (harm : st ≠ stArming)
    (hpas : st ≠ stPassive) (hcas : c.1 ≠ 0x0310) (h : c ∈ s.brd.active) : c ∈ (s.isolate code st cls xs).brd.active := by
  have hoff : (if code = 0x0103 then s else s.drvOff.chansForced).isoOff.brd = s.brd := by
    rw [State.isoOff_brd]
    split
    · rfl
    · rw [State.chansForced_brd, State.drvOff_brd]
  have hjnl : ∀ (b : Bool) (t : State), (if b && 2 ≤ cls then t.jnlTrigger 3 else t).brd = t.brd := by
    intro b t
    split
    · exact t.jnlTrigger_brd 3
    · rfl
  have hkeep : ∀ t : State, State.brd { t with
      brd := { t.brd with ssWindow := false, ssOff := false, isoLimitDue := true, returning := [] }
      boot := { t.boot with
        armStep := 0, contRequested := false, disarming := false, disarmKept := t.boot.disarmKept || t.boot.disarming } } =
      { t.brd with ssWindow := false, ssOff := false, isoLimitDue := true, returning := [] } := fun t => rfl
  unfold State.isolate
  dsimp only
  rw [State.openDue_active, hjnl, State.enter_brd _ harm hpas, State.windowOff_brd, State.cascadesOff_active, hkeep, hoff]
  exact List.mem_filter.2 ⟨h, by simpa using hcas⟩

/-- A code that a fault's action leaves active: neither a mismatched feedback nor L1's (R47, R200). -/
structure Stays (c : Nat × Nat) : Prop where
  feedback : c.1 ≠ 0x0108
  limit : c.1 ≠ 0x0310

section
variable {c : Nat × Nat} (hc : Stays c)
include hc

theorem State.mem_latch {s : State} (code : Nat) (h : c ∈ s.brd.active) : c ∈ (s.latch code).brd.active :=
  State.mem_checkHoldoff hc.feedback (State.mem_isolate code 3 [0, 1] (by decide) (by decide) hc.limit h)

theorem State.mem_storm {s : State} (code : Nat) (h : c ∈ s.brd.active) : c ∈ (s.storm code).brd.active := by
  have hlog : ((s.logCode 0x0708 0 3 0 0).raiseBit BRD_EVT_STORM 243).brd.active = s.brd.active := by
    rw [State.raiseBit_brd, State.logCode_brd]
  unfold State.storm
  dsimp only
  refine State.mem_latch hc _ ?_
  rw [State.join_active]
  split <;> exact hlog ▸ h

theorem State.mem_startRecovery {s : State} (code idx : Nat) (fresh : Bool) (h : c ∈ s.brd.active) :
    c ∈ (s.startRecovery code idx fresh).brd.active := by
  have hjoin : c ∈ ((if fresh then s.clearCauses else s).join code 2).brd.active := by
    rw [State.join_active]
    split
    · rwa [State.clearCauses_active]
    · exact h
  unfold State.startRecovery
  dsimp only
  generalize (if fresh then s.clearCauses else s).join code 2 = b at hjoin ⊢
  split
  · exact State.mem_storm hc code hjoin
  · refine State.mem_checkHoldoff hc.feedback ?_
    have hrecov : ∀ t : State, c ∈ t.brd.active → c ∈ (t.set BRD_STATUS_RECOV 1).brd.active := fun t ht => ht
    have hstart : ∀ t : State, c ∈ t.brd.active → c ∈ (if code = 0x0103 then { t with brd := { t.brd with ovAction := 2 } } else t).brd.active :=
      fun t ht => mem_active_ite ht ht
    refine mem_active_ite (hrecov _ (hstart _ hjoin)) (State.mem_isolate code 2 _ (by decide) (by decide) hc.limit (hrecov _ (hstart _ hjoin)))

theorem State.mem_takeF2 {s : State} (code idx : Nat) (h : c ∈ s.brd.active) : c ∈ (s.takeF2 code idx).brd.active := by
  unfold State.takeF2
  split
  · exact State.mem_startRecovery hc _ _ _ h
  · split
    · split
      · refine State.mem_checkHoldoff hc.feedback ?_
        rw [State.openDue_active, State.jnlTrigger_brd]
        exact h
      · exact State.mem_startRecovery hc _ _ _ h
    · split
      · rwa [State.join_active]
      · exact h

end


/-- A code joins the active ones. -/
def State.activate (s : State) (c : Nat × Nat) : State := { s with brd := { s.brd with active := s.brd.active ++ [c] } }

theorem State.mem_activate (s : State) (c : Nat × Nat) : c ∈ (s.activate c).brd.active :=
  List.mem_append_right _ (List.mem_singleton_self c)

theorem State.activate_active (s : State) (c : Nat × Nat) : (s.activate c).brd.active = s.brd.active ++ [c] := rfl

theorem State.activate_lks (s : State) (c : Nat × Nat) : (s.activate c).lks = s.lks := rfl

theorem State.activate_fcst (s : State) (c : Nat × Nat) : (s.activate c).fcst = s.fcst := rfl

theorem State.activate_seen (s : State) (c : Nat × Nat) : (s.activate c).seen = s.seen := rfl

/-- A level condition of class F2 that is not active is logged, is active, and acts (R418). -/
theorem State.raise_level_f2 (s : State) {code idx : Nat} (m t : Int) (hact : (code, idx) ∉ s.brd.active) (hcls : s.classOf code idx = 2)
    (hlevel : isLevel code = true) : s.raise code idx m t = ((s.logCode code idx 2 m t).activate (code, idx)).takeF2 code idx := by
  have htake : ¬(2 = 3) := by decide
  unfold State.raise
  rw [if_neg hact]
  dsimp only
  rw [hcls, if_neg htake, if_pos rfl, if_pos hlevel]
  rfl

/-- A level condition of class F0 that is not active and does not derate is logged and active (R418). -/
theorem State.raise_level_f0 (s : State) {code idx : Nat} (m t : Int) (hact : (code, idx) ∉ s.brd.active) (hcls : s.classOf code idx = 0)
    (hlevel : isLevel code = true) (hder : isDerating code = false) :
    s.raise code idx m t = (s.logCode code idx 0 m t).activate (code, idx) := by
  have hder : ¬(isDerating code = true) := by rw [hder]; decide
  have hlatch : ¬(0 = 3) := by decide
  have hisolate : ¬(0 = 2) := by decide
  unfold State.raise State.takeF0
  rw [if_neg hact]
  dsimp only
  rw [hcls, if_neg hlatch, if_neg hisolate, if_pos rfl, if_pos hlevel, if_neg hder]
  rfl

/-- A level condition of class F2 is active once it is raised (R418). -/
theorem State.mem_raise_f2 (s : State) {code idx : Nat} (m t : Int) (hcls : s.classOf code idx = 2) (hlevel : isLevel code = true)
    (hc : Stays (code, idx)) : (code, idx) ∈ (s.raise code idx m t).brd.active := by
  by_cases hact : (code, idx) ∈ s.brd.active
  · rw [s.raise_of_active m t hact]
    exact hact
  · rw [s.raise_level_f2 m t hact hcls hlevel]
    exact State.mem_takeF2 hc code idx (State.mem_activate _ _)

/-- A level condition of class F0 that does not derate is active once it is raised, beside Larkspur and the forecast (R418). -/
theorem State.raise_f0_keeps (s : State) {code idx : Nat} (m t : Int) (hcls : s.classOf code idx = 0) (hlevel : isLevel code = true)
    (hder : isDerating code = false) : (code, idx) ∈ (s.raise code idx m t).brd.active ∧ (s.raise code idx m t).lks = s.lks ∧
      (s.raise code idx m t).fcst = s.fcst ∧ ∀ c ∈ s.brd.active, c ∈ (s.raise code idx m t).brd.active := by
  by_cases hact : (code, idx) ∈ s.brd.active
  · have hrep := s.alarmRepeat_bystanders code
    rw [s.raise_of_active m t hact]
    exact ⟨hact, lks_of_bystanders hrep, fcst_of_bystanders hrep, fun c hc => brd_of_bystanders hrep ▸ hc⟩
  · have hlog := s.logCode_bystanders code idx 0 m t
    rw [s.raise_level_f0 m t hact hcls hlevel hder]
    refine ⟨State.mem_activate _ _, (State.activate_lks _ _).trans (lks_of_bystanders hlog),
      (State.activate_fcst _ _).trans (fcst_of_bystanders hlog), fun c hc => ?_⟩
    rw [State.activate_active, brd_of_bystanders hlog]
    exact List.mem_append_left _ hc

end Sys2Proof.Machine


namespace Sys2Proof.Machine

/-! ### Bridle's detectors (R47, R415, R417) -/

/-! #### What a raised code shows -/

theorem returning_of_seen {s : State} {x : Seen} (h : s.seen = x) : s.brd.returning = x.returning := by
  subst h
  rfl

/-- An F2 code other than 0x0103 and 0x0601 leaves the returns of strings or ends them all, and is the last code or a storm is. -/
theorem State.raise_f2_shows (s : State) {code idx : Nat} (m t : Int) (hcls : s.classOf code idx = 2) (hcode : code < 65536)
    (hov : code ≠ 0x0103) (hbus : code ≠ 0x0601) :
    ((s.raise code idx m t).brd.returning = s.brd.returning ∨ (s.raise code idx m t).brd.returning = []) ∧
    ((code, idx) ∉ s.brd.active → (s.raise code idx m t).get BRD_LAST_CODE = code ∨ (s.raise code idx m t).get BRD_LAST_CODE = 0x0708) := by
  by_cases hact : (code, idx) ∈ s.brd.active
  · rw [s.raise_of_active m t hact]
    exact ⟨.inl rfl, fun h => absurd hact h⟩
  · obtain ⟨u, hraise, hu⟩ : ∃ u : State, s.raise code idx m t = u.takeF2 code idx ∧ u.seen = s.seen.put BRD_LAST_CODE code := by
      cases hlevel : isLevel code
      · exact ⟨_, s.raise_f2 m t hact hcls hlevel, s.logCode_seen code idx 2 m t⟩
      · exact ⟨_, s.raise_level_f2 m t hact hcls hlevel, (State.activate_seen _ _).trans (s.logCode_seen code idx 2 m t)⟩
    have hlast : u.get BRD_LAST_CODE = code := (State.get_of_seen hu (.inl (by decide))).trans (Nat.mod_eq_of_lt hcode)
    have hret : u.brd.returning = s.brd.returning := returning_of_seen hu
    obtain ⟨-, -, -, -, hcodes, -⟩ := u.takeF2_shows idx hov hbus
    rw [hraise, ← hret, ← hlast]
    rw [hlast] at hcodes ⊢
    refine ⟨?_, fun _ => hcodes⟩
    obtain ⟨l, ⟨-, h⟩ | h | h⟩ := u.takeF2_seen idx hov hbus
    · exact .inl (returning_of_seen h)
    · exact .inr (returning_of_seen h)
    · exact .inr (returning_of_seen h)

/-- A code of class F3 that does not last is the last code once it is raised. -/
theorem State.raise_f3_shows (s : State) {code idx : Nat} (m t : Int) (hact : (code, idx) ∉ s.brd.active) (hcls : s.classOf code idx = 3)
    (hlevel : isLevel code = false) (hcode : code < 65536) (hov : code ≠ 0x0103) : (s.raise code idx m t).get BRD_LAST_CODE = code := by
  have hraise : s.raise code idx m t = (s.logCode code idx 3 m t).takeF3 code := by
    unfold State.raise
    rw [if_neg hact]
    dsimp only
    rw [hcls, hlevel, if_neg Bool.false_ne_true, if_pos rfl]
  have hlog : (s.logCode code idx 3 m t).get BRD_LAST_CODE = code :=
    (State.get_of_seen (s.logCode_seen code idx 3 m t) (.inl (by decide))).trans (Nat.mod_eq_of_lt hcode)
  rw [hraise]
  by_cases harm : (s.logCode code idx 3 m t).armedStates = true ∨ (s.logCode code idx 3 m t).shelf = stIsolated
  · obtain ⟨l, h⟩ := State.takeF3_seen_of_armed _ hov harm
    exact (State.get_of_seen h (.inl (by decide))).trans hlog
  · rw [not_or, Bool.not_eq_true] at harm
    obtain ⟨l, h⟩ := State.takeF3_seen_of_unarmed _ code harm.1 harm.2
    exact (State.get_of_seen h (.inl (by decide))).trans hlog

theorem stays_of_code {code idx : Nat} (hfb : code ≠ 0x0108) (hlimit : code ≠ 0x0310) : Stays (code, idx) := ⟨hfb, hlimit⟩

/-! #### Thresholds -/

theorem exec_busOverVoltage (s : State) (v : Nat) (hp : s.pins.powered = true) : exec (.busOverVoltage v) s =
    if s.get BRD_BUS_LIM_BUS_OV ≤ v then .next (s.raise 0x0101 0 v (s.get BRD_BUS_LIM_BUS_OV)) else .next s := by
  have hexec : exec (.busOverVoltage v) s = execBusOverVoltage v s := rfl
  rw [hexec]
  exact State.on_powered _ hp

theorem exec_busUnderVoltage (s : State) (v : Nat) (hp : s.pins.powered = true) : exec (.busUnderVoltage v) s =
    if s.inService && decide (v < s.get BRD_BUS_LIM_BUS_UV) then .next (s.raise 0x0102 0 v (s.get BRD_BUS_LIM_BUS_UV)) else .next s := by
  have hexec : exec (.busUnderVoltage v) s = execBusUnderVoltage v s := rfl
  rw [hexec]
  exact State.on_powered _ hp

theorem exec_stringOverVoltage (s : State) (x : StrNo) (v : Nat) (hp : s.pins.powered = true) : exec (.stringOverVoltage x v) s =
    if s.get BRD_STR_LIM_STR_OV < v then .next (s.raise 0x0401 x.val v (s.get BRD_STR_LIM_STR_OV)) else .next s := by
  have hexec : exec (.stringOverVoltage x v) s = execStringOverVoltage x v s := rfl
  rw [hexec]
  exact State.on_powered _ hp

theorem exec_stringUnderVoltage (s : State) (x : StrNo) (v : Nat) (hp : s.pins.powered = true) : exec (.stringUnderVoltage x v) s =
    if s.contFb x.val && decide (v < s.get BRD_STR_LIM_STR_UV) then .next (s.raise 0x0402 x.val v (s.get BRD_STR_LIM_STR_UV))
    else .next s := by
  have hexec : exec (.stringUnderVoltage x v) s = execStringUnderVoltage x v s := rfl
  rw [hexec]
  exact State.on_powered _ hp

theorem exec_temperatureTrip (s : State) (k : Fin 4) (c : Fin 256) (hp : s.pins.powered = true) : exec (.temperatureTrip k c) s =
    if (s.set (tempNow k.val) c.val).get (tempLim k.val) < c.val then
      .next ((s.set (tempNow k.val) c.val).raise (0x0506 + k.val) 0 c.val ((s.set (tempNow k.val) c.val).get (tempLim k.val)))
    else .next (s.set (tempNow k.val) c.val) := by
  have hexec : exec (.temperatureTrip k c) s = execTemperatureTrip k c s := rfl
  rw [hexec]
  exact State.on_powered _ hp

/-- The reading of a temperature sensor lies apart from the limits and beside what a fault writes. -/
theorem tempNow_beside (k : Fin 4) : (tempNow k.val).Aside ∧ (tempNow k.val).addr ≠ (tempLim k.val).addr ∧
    (tempNow k.val).lo + (tempNow k.val).w ≤ 32 ∧ (tempNow k.val).w = 8 := by
  have hk : ∀ k : Fin 4, (¬BusyAddr (tempNow k.val).addr ∧ ∀ b ∈ busyFields, (tempNow k.val).addr ≠ b.addr) ∧
      (tempNow k.val).addr ≠ (tempLim k.val).addr ∧ (tempNow k.val).lo + (tempNow k.val).w ≤ 32 ∧ (tempNow k.val).w = 8 := by decide
  obtain ⟨⟨haddr, hbits⟩, hne, hfit, hw⟩ := hk k
  exact ⟨⟨haddr, fun b hb => .inl (hbits b hb)⟩, hne, hfit, hw⟩

theorem State.get_tempNow (s : State) (k : Fin 4) {c : Nat} (hc : c < 256) : (s.set (tempNow k.val) c).get (tempNow k.val) = c := by
  obtain ⟨-, -, hfit, hw⟩ := tempNow_beside k
  rw [State.get_set_same _ _ _ hfit, hw]
  exact Nat.mod_eq_of_lt hc

theorem State.get_tempLim (s : State) (k : Fin 4) (c : Nat) : (s.set (tempNow k.val) c).get (tempLim k.val) = s.get (tempLim k.val) := by
  obtain ⟨-, hne, -⟩ := tempNow_beside k
  exact s.get_set_apart _ _ c (.inl hne)

/-- A code of a temperature is of class F2, lasts and stays (R417). -/
theorem temperature_code (s : State) (k : Fin 4) : s.classOf (0x0506 + k.val) 0 = 2 ∧ isLevel (0x0506 + k.val) = true ∧
    Stays (0x0506 + k.val, 0) := by
  have hk := k.isLt
  refine ⟨?_, ?_, ⟨?_, ?_⟩⟩
  · unfold State.classOf
    interval_cases k.val <;> rfl
  · interval_cases k.val <;> rfl
  · show 0x0506 + k.val ≠ 0x0108
    omega
  · show 0x0506 + k.val ≠ 0x0310
    omega

/-! #### A value that has returned -/

/-- FAULT_CONDITION_CLEAR on the state in which a temperature shows. -/
def State.returnTo (s : State) (code idx v : Nat) : State := if s.within code v then s.unraise code idx else s

theorem exec_faultConditionClear (s : State) (n : Fin 65536) (i : Fin 256) (v : Nat) (hp : s.pins.powered = true) :
    exec (.faultConditionClear n i v) s =
      .next ((if 0x0506 ≤ n.val ∧ n.val ≤ 0x0509 then s.set (tempNow (n.val - 0x0506)) (min v 255) else s).returnTo n.val i.val v) := by
  have hexec : exec (.faultConditionClear n i v) s = execFaultConditionClear n i v s := rfl
  rw [hexec]
  exact State.on_powered _ hp

/-- A code stays active where its value has not returned, and only there. -/
theorem State.returnTo_active (s : State) (code idx v : Nat) :
    (code, idx) ∈ (s.returnTo code idx v).brd.active ↔ (code, idx) ∈ s.brd.active ∧ s.within code v = false := by
  unfold State.returnTo
  cases s.within code v
  · simp
  · rw [if_pos rfl]
    simp only [Bool.true_eq_false, and_false, iff_false]
    intro h
    exact (s.unraise_active code idx h).2 rfl

theorem State.returnTo_of_outside {s : State} {code v : Nat} (idx : Nat) (h : s.within code v = false) : s.returnTo code idx v = s := by
  unfold State.returnTo
  rw [h, if_neg Bool.false_ne_true]

theorem State.returnTo_beside {g : Field} (hg : g.Aside) (s : State) (code idx v : Nat) : (s.returnTo code idx v).beside g = s.beside g :=
  beside_ite_of (s.unraise_beside hg code idx) rfl

/-! #### Feedbacks (R47, R66) -/

/-- The bit of SYS_CONN_STATUS that shows the feedback of a contactor or, for 2, of the isolation. -/
abbrev fbBit (w : Nat) : Nat := if w = 2 then 20 else 18 + w

theorem State.fbOf_eq (s : State) (w : Fin 3) : s.fbOf w.val = s.isSet (connLevel (fbBit w.val)) := by
  unfold State.fbOf fbBit
  split
  · rfl
  next hw => exact s.bitOf_get (show w.val < 2 by omega)

theorem exec_feedbackNotOpen (s : State) (w : Fin 3) (hp : s.pins.powered = true) : exec (.feedbackMismatch (.notOpen w)) s =
    if !s.enOf w.val && s.fbOf w.val then .next (s.raise (if w.val = 2 then 0x0104 else 0x0106) (w.val % 2) 1 0) else .next s := by
  have hexec : exec (.feedbackMismatch (.notOpen w)) s = execFeedbackMismatch (.notOpen w) s := rfl
  rw [hexec]
  exact State.on_powered _ hp

/-- No return waits for the feedback of a contactor (R507). -/
def State.returnEnded (s : State) (w : Nat) : State := { s with brd := { s.brd with returning := s.brd.returning.filter (· != w) } }

theorem State.returnEnded_returning (s : State) (w : Nat) : w ∉ (s.returnEnded w).brd.returning := by
  simp [State.returnEnded]

theorem State.returnEnded_active (s : State) (w : Nat) : (s.returnEnded w).brd.active = s.brd.active := rfl

theorem exec_feedbackNotClosed (s : State) (w : Fin 3) (hp : s.pins.powered = true) : exec (.feedbackMismatch (.notClosed w)) s =
    if s.enOf w.val && !s.fbOf w.val then
      .next ((s.returnEnded w.val).raise (if w.val = 2 then 0x0105 else 0x0107) (w.val % 2) 0 0)
    else .next s := by
  have hexec : exec (.feedbackMismatch (.notClosed w)) s = execFeedbackMismatch (.notClosed w) s := rfl
  rw [hexec]
  exact State.on_powered _ hp

theorem exec_feedbackChanged (s : State) (w : Fin 3) (hp : s.pins.powered = true) : exec (.feedbackMismatch (.changed w)) s =
    if (!s.fbOf w.val) = s.enOf w.val then .next s
    else .next ((s.conn (fbBit w.val) (!s.fbOf w.val)).raise 0x0108 (if w.val = 2 then 3 else w.val) (!s.fbOf w.val).toNat 0) := by
  have hexec : exec (.feedbackMismatch (.changed w)) s = execFeedbackMismatch (.changed w) s := rfl
  rw [hexec]
  exact State.on_powered _ hp

/-! #### Larkspur's junctions (R417) -/

theorem exec_larkspurJunctionHot (s : State) (d : Fin 2) (c : Fin 256) (hp : s.pins.powered = true) :
    exec (.larkspurJunctionHot d c) s =
      if d.val < s.dies ∧ 110 < c.val then
        .next (if d.val = 0 then ((s.setHot d.val true).raise 0x050A d.val c.val 110).forecastStop
          else (s.setHot d.val true).raise 0x050A d.val c.val 110)
      else .next s := by
  have hexec : exec (.larkspurJunctionHot d c) s = execLarkspurJunctionHot d c s := rfl
  rw [hexec]
  exact State.on_powered _ hp

theorem exec_larkspurJunctionCool (s : State) (d : Fin 2) (c : Fin 256) (hp : s.pins.powered = true) :
    exec (.larkspurJunctionCool d c) s =
      if d.val < s.dies ∧ c.val < 100 then .next ((s.setHot d.val false).unraise 0x050A d.val) else .next s := by
  have hexec : exec (.larkspurJunctionCool d c) s = execLarkspurJunctionCool d c s := rfl
  rw [hexec]
  exact State.on_powered _ hp

theorem getD_modAt {α : Type} (l : List α) (i : Nat) (f : α → α) (x : α) (h : i < l.length) : (modAt l i f).getD i x = f (l.getD i x) := by
  simp [modAt, h]

theorem getD_modAt_ne {α : Type} (l : List α) {i j : Nat} (f : α → α) (x : α) (h : i ≠ j) : (modAt l i f).getD j x = l.getD j x := by
  unfold modAt
  split
  · simp [List.getElem?_set_ne h]
  · rfl

theorem State.setHot_brd (s : State) (d : Nat) (b : Bool) : (s.setHot d b).brd = s.brd := rfl

theorem State.setHot_lks (s : State) (d : Nat) (b : Bool) :
    (s.setHot d b).lks.dies = modAt s.lks.dies d fun (x : LDie) => { x with hot := b } := rfl

/-- The forecast's model is away after a stop, which leaves Larkspur and the active codes (R27). -/
theorem State.forecastStop_shows (s : State) : s.forecastStop.fcst.model = false ∧ s.forecastStop.lks = s.lks ∧
    ∀ c ∈ s.brd.active, c ∈ s.forecastStop.brd.active := by
  unfold State.forecastStop
  cases hmodel : s.fcst.model
  · exact ⟨hmodel, rfl, fun c hc => hc⟩
  · rw [Bool.not_true, if_neg Bool.false_ne_true]
    obtain ⟨-, hlks, hfcst, hact⟩ := State.raise_f0_keeps { s with fcst := { s.fcst with model := false } } (code := 0x0707) (idx := 0) 0 0
      rfl (by decide) (by decide)
    exact ⟨by rw [hfcst], hlks, hact⟩

/-- A code that does not derate clears beside Larkspur. -/
theorem State.unraise_lks (s : State) {code : Nat} (idx : Nat) (hder : isDerating code = false) : (s.unraise code idx).lks = s.lks := by
  have hhold : ∀ t : State, t.checkHoldoff.lks = t.lks := by
    intro t
    unfold State.checkHoldoff
    dsimp only
    repeat' split
    all_goals rfl
  unfold State.unraise
  rw [hder]
  split
  · exact hhold _
  · rfl

/-- A die above its limit: its mark is set, its code is active, and the other die stays as it is (R417). -/
theorem State.junctionHot_shows (s : State) (d : Fin 2) (c : Nat) :
    (d.val < s.lks.dies.length → (((s.setHot d.val true).raise 0x050A d.val c 110).lks.dies.getD d.val {}).hot = true) ∧
    (0x050A, d.val) ∈ ((s.setHot d.val true).raise 0x050A d.val c 110).brd.active ∧
    ((s.setHot d.val true).raise 0x050A d.val c 110).lks.dies.getD (1 - d.val) {} = s.lks.dies.getD (1 - d.val) {} := by
  obtain ⟨hact, hlks, -⟩ := (s.setHot d.val true).raise_f0_keeps (code := 0x050A) (idx := d.val) c 110 rfl (by decide) (by decide)
  refine ⟨fun hd => ?_, hact, ?_⟩
  · rw [hlks, s.setHot_lks, getD_modAt _ _ _ _ hd]
  · rw [hlks, s.setHot_lks, getD_modAt_ne _ _ _ (by omega)]

/-- Settles O54: each command is its detector's comparison, a raised level condition stays active, and a returned one clears. -/
theorem bridleDetectorCommands : Obligations.BridleDetectorCommands := by
  intro s hp
  have hclear : ∀ (n : Fin 65536) (i : Fin 256) (v : Nat) (P : Prop), ¬(0x0506 ≤ n.val ∧ n.val ≤ 0x0509) →
      (s.within n.val v = false ↔ P) → ∃ t, exec (.faultConditionClear n i v) s = .next t ∧
        ((n.val, i.val) ∈ t.brd.active ↔ (n.val, i.val) ∈ s.brd.active ∧ P) ∧ (P → t = s) := by
    intro n i v P hn hP
    refine ⟨s.returnTo n.val i.val v, ?_, (s.returnTo_active n.val i.val v).trans (and_congr_right fun _ => hP),
      fun h => State.returnTo_of_outside _ (hP.2 h)⟩
    rw [exec_faultConditionClear s n i v hp, if_neg hn]
  refine ⟨fun v hv => ?_, fun v hv => ?_, fun v hserv hv => ?_, fun v hv => ?_, fun x v hv => ?_, fun x v hv => ?_,
    fun x v hfb hv => ?_, fun x v hv => ?_, fun k c hc => ?_, fun k c hc => ?_, ⟨rfl, rfl⟩, fun i v => ?_, fun i v => ?_,
    fun i v => ?_, fun i v => ?_, fun n k v hn => ?_, fun v => ?_, fun n i v hn => ?_, fun w hen hfb => ?_, fun w hen hfb => ?_,
    fun w heq => ?_, fun w hne => ?_, fun d c hd hc => ?_, fun d c hd hc => ?_, fun d c h => ?_⟩
  · exact ⟨_, by rw [exec_busOverVoltage s v hp, if_pos hv], rfl, s.mem_raise_f2 _ _ rfl (by decide) (stays_of_code (by decide) (by decide))⟩
  · rw [exec_busOverVoltage s v hp, if_neg (by omega)]
  · refine ⟨_, ?_, rfl, s.mem_raise_f2 _ _ rfl (by decide) (stays_of_code (by decide) (by decide))⟩
    rw [exec_busUnderVoltage s v hp, if_pos (by simp [hserv, hv])]
  · rw [exec_busUnderVoltage s v hp, if_neg]
    rcases hv with hv | hv <;> simp [hv]
  · refine ⟨_, ?_, rfl, s.mem_raise_f2 _ _ rfl (by decide) (stays_of_code (by decide) (by decide))⟩
    rw [exec_stringOverVoltage s x v hp, if_pos hv]
  · rw [exec_stringOverVoltage s x v hp, if_neg (by omega)]
  · refine ⟨_, ?_, rfl, s.mem_raise_f2 _ _ rfl (by decide) (stays_of_code (by decide) (by decide))⟩
    have hfb : s.contFb x.val = true := hfb
    rw [exec_stringUnderVoltage s x v hp, if_pos (by simp [hfb, hv])]
  · rw [exec_stringUnderVoltage s x v hp, if_neg]
    unfold State.contFb
    rcases hv with hv | hv <;> simp [hv]
  · obtain ⟨hcls, hlevel, hstays⟩ := temperature_code (s.set (tempNow k.val) c.val) k
    obtain ⟨hbeside, -⟩ := tempNow_beside k
    refine ⟨_, ?_, rfl, State.mem_raise_f2 _ _ _ hcls hlevel hstays,
      (get_of_beside (State.raise_beside hbeside _ _ _ _ _)).trans (s.get_tempNow k c.isLt)⟩
    rw [exec_temperatureTrip s k c hp, s.get_tempLim, if_pos hc]
  · rw [exec_temperatureTrip s k c hp, s.get_tempLim, if_neg (by omega)]
  · exact hclear 0x0101 i v _ (by decide) (decide_eq_false_iff_not.trans Nat.not_lt)
  · exact hclear 0x0102 i v _ (by decide) (decide_eq_false_iff_not.trans Nat.not_le)
  · exact hclear 0x0401 i v _ (by decide) (decide_eq_false_iff_not.trans Nat.not_le)
  · exact hclear 0x0402 i v _ (by decide) (decide_eq_false_iff_not.trans Nat.not_le)
  · have hk := k.isLt
    obtain ⟨hbeside, -⟩ := tempNow_beside k
    have htemp : 0x0506 ≤ n.val ∧ n.val ≤ 0x0509 := by omega
    have hwithin : (s.set (tempNow k.val) (min v 255)).within n.val v = decide (v ≤ s.get (tempLim k.val)) := by
      unfold State.within
      rw [if_neg (by omega), if_neg (by omega), if_neg (by omega), if_neg (by omega), if_pos htemp, hn, Nat.add_sub_cancel_left,
        s.get_tempLim]
    refine ⟨(s.set (tempNow k.val) (min v 255)).returnTo n.val 0 v, ?_, (State.returnTo_active _ n.val 0 v).trans (and_congr_right fun _ => ?_),
      (get_of_beside (State.returnTo_beside hbeside _ _ _ _)).trans (s.get_tempNow k (by omega))⟩
    · have hsensor : n.val - 0x0506 = k.val := by omega
      rw [exec_faultConditionClear s n 0 v hp, if_pos htemp, hsensor]
      rfl
    · rw [hwithin, decide_eq_false_iff_not, Nat.not_le]
  · have hwithin : s.within 0x0103 v = false ↔ s.isSet HRN_OV_CTRL_LATCHED = true ∨ s.hrn.ovOpen = true ∨ s.get HRN_OV_CFG_OV_THRESH ≤ v := by
      cases hlatch : s.isSet HRN_OV_CTRL_LATCHED <;> cases hopen : s.hrn.ovOpen <;> simp [State.within, hlatch, hopen]
    obtain ⟨t, ht, hact, -⟩ := hclear 0x0103 0 v _ (by decide) hwithin
    exact ⟨t, ht, hact⟩
  · have hother : s.within n.val v = false := by
      simp only [List.mem_cons, List.not_mem_nil, or_false, not_or] at hn
      unfold State.within
      rw [if_neg (by omega), if_neg (by omega), if_neg (by omega), if_neg (by omega), if_neg (by omega)]
      simp [hn]
    rw [exec_faultConditionClear s n i v hp, if_neg (by simp at hn; omega), State.returnTo_of_outside _ hother]
  · refine ⟨_, ?_, rfl, fun hact => ?_⟩
    · rw [exec_feedbackNotOpen s w hp, if_pos (by simp [hen, hfb])]
    · have hnone : ∀ c, c ∉ s.brd.active := by simp [hact]
      split
      · exact s.raise_f3_shows 1 0 (hnone _) rfl (by decide) (by decide) (by decide)
      · exact s.raise_f3_shows 1 0 (hnone _) rfl (by decide) (by decide) (by decide)
  · have hcls : (s.returnEnded w.val).classOf (if w.val = 2 then 0x0105 else 0x0107) (w.val % 2) = 2 := by
      split <;> rfl
    obtain ⟨hret, hlast⟩ := (s.returnEnded w.val).raise_f2_shows 0 0 hcls (by split <;> decide) (by split <;> decide) (by split <;> decide)
    refine ⟨_, ?_, ?_, fun h => hlast (by rw [s.returnEnded_active, h]; exact List.not_mem_nil)⟩
    · rw [exec_feedbackNotClosed s w hp, if_pos (by simp [hen, hfb])]
    · rcases hret with hret | hret <;> rw [hret]
      · exact s.returnEnded_returning w.val
      · exact List.not_mem_nil
  · have hv : s.isSet (connLevel (fbBit w.val)) ≠ !s.fbOf w.val := by
      rw [← s.fbOf_eq]
      cases s.fbOf w.val <;> decide
    have hbit : fbBit w.val < 32 := by
      unfold fbBit
      split <;> omega
    obtain ⟨-, hbrd, -⟩ := s.conn_keeps (fbBit w.val) (!s.fbOf w.val)
    obtain ⟨hchange, -⟩ := s.conn_changes hbit hv
    have hbeside : ∀ {g : Field}, g.Aside → ((s.conn (fbBit w.val) (!s.fbOf w.val)).raise 0x0108 (if w.val = 2 then 3 else w.val)
        (!s.fbOf w.val).toNat 0).isSet g = (s.conn (fbBit w.val) (!s.fbOf w.val)).isSet g :=
      fun hg => isSet_of_beside (State.raise_beside hg _ _ _ _ _)
    obtain ⟨-, hlast⟩ := (s.conn (fbBit w.val) (!s.fbOf w.val)).raise_f2_shows (code := 0x0108) (idx := if w.val = 2 then 3 else w.val)
      (!s.fbOf w.val).toNat 0 rfl (by decide) (by decide) (by decide)
    refine ⟨_, ?_, ?_, (hbeside (aside_connChange _)).trans hchange, fun h => hlast (by rw [hbrd, h]; exact List.not_mem_nil), ?_, ?_⟩
    · rw [exec_feedbackChanged s w hp, if_neg (by rw [← heq]; cases s.fbOf w.val <;> decide)]
    · rw [State.fbOf_eq]
      exact (hbeside (aside_connLevel _)).trans (s.isSet_conn _ hbit)
    · rw [exec_feedbackNotOpen s w hp, if_neg (by rw [heq]; cases s.enOf w.val <;> decide)]
    · rw [exec_feedbackNotClosed s w hp, if_neg (by rw [heq]; cases s.enOf w.val <;> decide)]
  · rw [exec_feedbackChanged s w hp, if_pos (by revert hne; cases s.fbOf w.val <;> cases s.enOf w.val <;> decide)]
  · obtain ⟨hhot, hact, hother⟩ := s.junctionHot_shows d c.val
    rw [exec_larkspurJunctionHot s d c hp, if_pos ⟨hd, hc⟩]
    by_cases hd0 : d.val = 0
    · obtain ⟨hmodel, hlks, hstay⟩ := ((s.setHot d.val true).raise 0x050A d.val c.val 110).forecastStop_shows
      rw [if_pos hd0]
      refine ⟨_, rfl, ?_, fun _ => hmodel, hstay _ hact, ?_⟩
      · rwa [hlks]
      · rwa [hlks]
    · rw [if_neg hd0]
      exact ⟨_, rfl, hhot, fun h => absurd h hd0, hact, hother⟩
  · refine ⟨(s.setHot d.val false).unraise 0x050A d.val, ?_, fun hlen => ?_, fun hact => ?_⟩
    · rw [exec_larkspurJunctionCool s d c hp, if_pos ⟨hd, hc⟩]
    · rw [State.unraise_lks _ _ (by decide), s.setHot_lks, getD_modAt _ _ _ _ hlen]
    · exact (State.unraise_active _ _ _ hact).2 rfl
  · rw [exec_larkspurJunctionHot s d c hp, exec_larkspurJunctionCool s d c hp, if_neg (by omega), if_neg (by omega)]
    exact ⟨rfl, rfl⟩

end Sys2Proof.Machine


namespace Sys2Proof.Machine

/-! ### What Larkspur's work and a wake leave beside their own registers -/

section
variable {g : Field}

/-- An update of Larkspur's blocks, the clocks, the memory and the messages. -/
theorem far_beside (s : State) (clk : Clk) (lks : Lks) (mem : List (Nat × Byte)) (out : List Out) :
    State.beside g { s with clk := clk, lks := lks, mem := mem, out := out } = s.beside g := beside_eq rfl rfl rfl

theorem State.setCore_beside (s : State) (d c : Nat) (x : LCore) : (s.setCore d c x).beside g = s.beside g := far_beside s _ _ _ _
theorem State.setQueue_beside (s : State) (d q : Nat) (x : LQueue) : (s.setQueue d q x).beside g = s.beside g := far_beside s _ _ _ _
theorem State.mapJobs_beside (s : State) (p : LJob → Bool) (f : LJob → LJob) : (s.mapJobs p f).beside g = s.beside g := far_beside s _ _ _ _
theorem State.memPut_beside (s : State) (a : Nat) (l : List Byte) : (s.memPut a l).beside g = s.beside g := far_beside s _ _ _ _

variable (hg : g.Aside)
include hg

/-- A field of Larkspur's registers. -/
theorem State.setFar_beside (s : State) {f : Field} (v : Nat) (hf : 0x1000000 ≤ f.addr) : (s.set f v).beside g = s.beside g :=
  s.set_beside hg v (.inl (by omega))

/-! #### Cores and domains -/

theorem State.coreTo_beside (s : State) (d c st : Nat) : (s.coreTo d c st).beside g = s.beside g := by
  have hdie : ∀ (t : State) (lo w v : Nat), (t.set ⟨LKS_DIE_STATUS d, lo, w⟩ v).beside g = t.beside g := fun t lo w v =>
    t.setFar_beside hg v (by show 0x1000000 ≤ 0x1000000 + 0x800000 * d; omega)
  have hcore : ∀ (t : State) (lo w v : Nat), (t.set ⟨LKS_CORE d c, lo, w⟩ v).beside g = t.beside g := fun t lo w v =>
    t.setFar_beside hg v (by show 0x1000000 ≤ LKS_CORE d c; unfold LKS_CORE; omega)
  have hshow : ∀ t : State, (t.showCores d).beside g = t.beside g := fun t => (hdie _ _ _ _).trans (hdie _ _ _ _)
  have hthreads : ∀ t : State, (if st = cRun ∨ st = cSusp ∨ st = cDrain then t else t.set (LKS_CORE_THREADS d c) 0).beside g = t.beside g :=
    fun t => beside_ite_of rfl (hcore _ _ _ _)
  unfold State.coreTo
  dsimp only
  rw [hshow]
  exact (hcore _ _ _ _).trans ((hthreads _).trans (State.setCore_beside _ _ _ _))

theorem State.openCore_beside (s : State) (d c : Nat) : (s.openCore d c).beside g = s.beside g := by
  have hgate : ((s.setCore d c { s.core d c with gate := true }).latchWake (2 ^ coreDomain d c)).beside g = s.beside g :=
    (State.latchWake_beside _ _).trans (s.setCore_beside d c _)
  exact beside_ite_of ((State.coreTo_beside hg _ _ _ _).trans hgate) hgate

theorem State.closeCore_beside (s : State) (d c : Nat) : (s.closeCore d c).beside g = s.beside g := by
  have hgate : (s.setCore d c { s.core d c with gate := false }).beside g = s.beside g := s.setCore_beside d c _
  exact beside_ite_of ((State.coreTo_beside hg _ _ _ _).trans hgate) hgate

theorem State.setGate_beside (s : State) (b v : Nat) (hb : b < 32) : (s.set ⟨CLK_GATE_EFF, b, 1⟩ v).beside g = s.beside g :=
  s.set_beside hg v (.inr ⟨⟨CLK_GATE_EFF, 0, 32⟩, by decide, rfl, Nat.zero_le _, by show b + 1 ≤ 0 + 32; omega⟩)

theorem State.lksOpen_beside (s : State) {b : Nat} (hb : b < 32) : (s.lksOpen b).beside g = s.beside g := by
  unfold State.lksOpen
  dsimp only
  rw [forL_beside, far_beside, State.setGate_beside hg s b 1 hb]
  intro x _ t
  have hgate : (if b = 12 then t.setCore x.1 x.2 { t.core x.1 x.2 with gate := true } else t).beside g = t.beside g :=
    beside_ite_of (t.setCore_beside _ _ _) rfl
  exact beside_ite_of ((State.coreTo_beside hg _ _ _ _).trans hgate) hgate

theorem State.lksClose_beside (s : State) {b : Nat} (hb : b < 32) : (s.lksClose b).beside g = s.beside g := by
  have hclose : (forL (domainCores b) (fun q t => if t.coreRests q.1 q.2 then t else t.closeCore q.1 q.2) s).beside g = s.beside g :=
    forL_beside s fun q _ t => beside_ite_of rfl (t.closeCore_beside hg _ _)
  exact beside_ite_of ((State.setGate_beside hg _ b 0 hb).trans hclose) hclose

theorem State.lksGate_beside (s : State) (want : Nat) {b : Nat} (hb : b < 32) : (s.lksGate want b).beside g = s.beside g :=
  beside_ite_of (s.lksOpen_beside hg hb) (beside_ite_of (s.lksClose_beside hg hb) rfl)

theorem State.showAwake_beside (s : State) : s.showAwake.beside g = s.beside g := s.set_beside hg _ (by decide)

/-- A write of the register that shows the open domains. -/
theorem State.wrGates_beside (s : State) (v : Word) : (s.wr CLK_GATE_EFF v).beside g = s.beside g := by
  refine beside_eq ?_ rfl rfl
  rcases hg.bits ⟨CLK_GATE_EFF, 0, 32⟩ (by decide) with h | h | h
  · exact s.get_wr_ne v h
  · have hw : g.w = 0 := by
      have h : g.lo + g.w ≤ 0 := h
      omega
    unfold State.get
    rw [fieldGet_eq, fieldGet_eq, hw, pow_zero, Nat.mod_one, Nat.mod_one]
  · have hlo : ∀ w : Word, w.toNat / 2 ^ g.lo = 0 := fun w =>
      Nat.div_eq_of_lt (lt_of_lt_of_le w.isLt (Nat.pow_le_pow_right (by decide) h))
    unfold State.get
    rw [fieldGet_eq, fieldGet_eq, hlo, hlo]

theorem State.plainGates_beside (s : State) (want : Nat) : (s.plainGates want).beside g = s.beside g := by
  have hready : ∀ (c : Prop) [Decidable c] (t : State) (b : Nat), b < 32 →
      (if c then t else t.set ⟨CLK_READY, b, 1⟩ 0).beside g = t.beside g := fun c _ t b hb =>
    beside_ite_of rfl (t.set_beside hg 0 (.inr ⟨⟨CLK_READY, 0, 32⟩, by decide, rfl, Nat.zero_le _, by show b + 1 ≤ 0 + 32; omega⟩))
  have hclk : ∀ (t : State) (clk : Clk), State.beside g { t with clk := clk } = t.beside g := fun t clk => far_beside t _ _ _ _
  unfold State.plainGates
  dsimp only
  refine (hready _ _ _ (by decide)).trans ((hready _ _ _ (by decide)).trans ?_)
  rw [hclk, hclk]
  exact State.wrGates_beside hg _ _

theorem State.gates_beside (s : State) : s.gates.beside g = s.beside g := by
  have hbusy : ∀ (t : State) (clk : Clk) (b : Bool), (State.setB { t with clk := clk } PWR_STATUS_LKS_BUSY b).beside g = t.beside g :=
    fun t clk b => (State.set_beside hg _ _ (by decide)).trans (far_beside t _ _ _ _)
  unfold State.gates
  dsimp only
  rw [State.showAwake_beside hg, hbusy, State.plainGates_beside hg, State.lksGate_beside hg _ _ (by decide),
    State.lksGate_beside hg _ _ (by decide), State.lksGate_beside hg _ _ (by decide)]

/-- A wake from Deep-sleep. -/
theorem State.wake_beside (s : State) : s.wake.beside g = s.beside g := by
  have hmode : ∀ (v : Nat) (clk : Clk), State.beside g { s.set PWR_STATUS_CUR_MODE v with clk := clk } = s.beside g := fun v clk =>
    (far_beside (s.set PWR_STATUS_CUR_MODE v) clk _ _ _).trans (s.set_beside hg v (by decide))
  have hdeep : ∀ (t : State) (b : Nat) (r : Bool),
      (((t.set PWR_STATUS_LAST_WAKE b).set CLK_READY_FIRC 1).setB CLK_READY_PLL_CTL r).beside g = t.beside g := fun t b r =>
    (State.set_beside hg _ _ (by decide)).trans ((State.set_beside hg _ _ (by decide)).trans (t.set_beside hg b (by decide)))
  unfold State.wake
  split
  · rfl
  · refine beside_ite_of rfl ?_
    dsimp only
    rw [State.gates_beside hg]
    exact beside_ite_of ((hdeep _ _ _).trans (hmode _ _)) (hmode _ _)

/-! #### Queues and jobs -/

/-- A field of a queue's registers. -/
theorem State.setQueueReg_beside (s : State) {f : Field} (d q v : Nat) (hf : f.addr = LKS_Q_CTRL d q ∨ f.addr = LKS_Q_STATUS d q ∨
    f.addr = LKS_Q_PTR d q ∨ f.addr = LKS_Q_RUN d q) : (s.set f v).beside g = s.beside g :=
  s.setFar_beside hg v (by
    unfold LKS_Q_CTRL LKS_Q_STATUS LKS_Q_PTR LKS_Q_RUN at hf
    omega)

theorem State.showQueue_beside (s : State) (d q : Nat) : (s.showQueue d q).beside g = s.beside g :=
  (State.setQueueReg_beside hg _ d q _ (.inr (.inr (.inr rfl)))).trans ((State.setQueueReg_beside hg _ d q _ (.inr (.inr (.inr rfl)))).trans
    (s.setQueueReg_beside hg d q _ (.inr (.inl rfl))))

theorem State.cqWrite_beside (s : State) (d q : Nat) (body : List Byte) (msi : Bool) : (s.cqWrite d q body msi).beside g = s.beside g := by
  have hput : ∀ (a : Nat) (l : List Byte), (if tackQueue q then s.memPut a l else s.emit (.hostWrite a l)).beside g = s.beside g :=
    fun a l => beside_ite_of (s.memPut_beside a l) (s.emit_beside _)
  have htail : ∀ (t : State) (v : Nat), (t.set (LKS_Q_PTR_CQ_TAIL d q) v).beside g = t.beside g := fun t v =>
    t.setQueueReg_beside hg d q v (.inr (.inr (.inl rfl)))
  have hphase : ∀ (c : Prop) [Decidable c] (t : State) (x : LQueue), (if c then t.setQueue d q x else t).beside g = t.beside g :=
    fun c _ t x => beside_ite_of (t.setQueue_beside d q x) rfl
  have hmsi : ∀ (b : Bool) (t : State) (v : Nat), (if b then t.msix v else t).beside g = t.beside g :=
    fun b t v => beside_ite_of (t.msix_beside v) rfl
  unfold State.cqWrite
  dsimp only
  rw [hmsi, hphase, htail, hput]

theorem State.complete_beside (s : State) (d q : Nat) (body : List Byte) (b : Bool) : (s.complete d q body b).beside g = s.beside g := by
  have hfull : ∀ (t : State) (v : Nat), (t.raiseBit (LKS_Q_STATUS_CQ_FULL d q) v).beside g = t.beside g := fun t v =>
    beside_ite_of rfl ((State.msix_beside _ v).trans (t.setQueueReg_beside hg d q 1 (.inr (.inl rfl))))
  exact beside_ite_of ((hfull _ _).trans (s.setQueue_beside d q _)) (s.cqWrite_beside hg d q body _)

theorem State.coreDone_beside (s : State) (d c : Nat) : (s.coreDone d c).beside g = s.beside g :=
  beside_ite_of (beside_ite_of (s.coreTo_beside hg d c _) (s.coreTo_beside hg d c _)) rfl

theorem State.jobOff_beside (s : State) (j : LJob) : (s.jobOff j).beside g = s.beside g :=
  (forL_beside _ fun c _ t => t.coreDone_beside hg j.die c).trans (far_beside s _ _ _ _)

theorem State.jobEnd_beside (s : State) (j : LJob) (st : Nat) : (s.jobEnd j st).beside g = s.beside g := by
  rw [State.jobEnd, State.showQueue_beside hg, State.complete_beside hg, State.jobOff_beside hg]

omit hg in
theorem State.loadImage_beside (s : State) (j : LJob) (i : Brxi) : (s.loadImage j i).beside g = s.beside g :=
  forL_beside s fun _ _ t => beside_ite_of rfl ((State.setCore_beside _ _ _ _).trans (t.memPut_beside _ _))

theorem State.jobStart_beside (s : State) (j : LJob) : (s.jobStart j).beside g = s.beside g := by
  have hthreads : ∀ (t : State) (c v : Nat), (t.set (LKS_CORE_THREADS j.die c) v).beside g = t.beside g := fun t c v =>
    t.setFar_beside hg v (by show 0x1000000 ≤ LKS_CORE j.die c; unfold LKS_CORE; omega)
  have hrun : ∀ t : State, (forL (maskCores j.cmd.mask) (fun c u =>
      (u.coreTo j.die c cRun).set (LKS_CORE_THREADS j.die c) j.cmd.threads) t).beside g = t.beside g := fun t =>
    forL_beside t fun c _ u => (hthreads _ c _).trans (u.coreTo_beside hg _ _ _)
  unfold State.jobStart
  dsimp only
  refine beside_ite_of rfl ?_
  split
  · exact s.jobEnd_beside hg j _
  · refine beside_ite_of (s.jobEnd_beside hg j _) ?_
    rw [State.showQueue_beside hg, hrun, State.mapJobs_beside, State.loadImage_beside]

theorem State.jobsStart_beside (s : State) (d : Nat) : (s.jobsStart d).beside g = s.beside g :=
  forL_beside s fun j _ t => t.jobStart_beside hg j

theorem State.actsDone_beside (s : State) (d q : Nat) : (s.actsDone d q).beside g = s.beside g :=
  forL_beside s fun _ _ t => beside_ite_of ((State.complete_beside hg _ _ _ _ _).trans (t.setQueue_beside _ _ _)) rfl

theorem State.sleepCore_beside (s : State) (d c : Nat) : (s.sleepCore d c).beside g = s.beside g :=
  beside_ite_of (s.setCore_beside d c _) (s.closeCore_beside hg d c)

theorem State.finish_beside (s : State) (d q : Nat) (c : LCmd) (st : Nat) : (s.finish d q c st).beside g = s.beside g := by
  rw [State.finish, State.complete_beside hg, State.setQueue_beside]

omit hg in
theorem beside_fst_ite {c : Prop} [Decidable c] {p q : State × Bool} {x : Beside} (hp : p.1.beside g = x) (hq : q.1.beside g = x) :
    (if c then p else q).1.beside g = x := by
  split <;> assumption

theorem State.serve_beside (s : State) (d q : Nat) : (s.serve d q).1.beside g = s.beside g := by
  have hcores : ∀ (p : Prop) [Decidable p] (l : List Nat) (t : State),
      (forL l (fun k u => if p then u.openCore d k else u.sleepCore d k) t).beside g = t.beside g := fun p _ l t =>
    forL_beside t fun k _ u => beside_ite_of (u.openCore_beside hg d k) (u.sleepCore_beside hg d k)
  have hwake : ∀ (l : List Nat) (t : State), (forL l (fun k u => u.latchWake (2 ^ coreDomain d k)) t).beside g = t.beside g :=
    fun l t => forL_beside t fun k _ u => u.latchWake_beside _
  have hfinish : ∀ (c : LCmd) (st : Nat), (s.finish d q c st).beside g = s.beside g := fun c st => s.finish_beside hg d q c st
  have hacts : ∀ (p : Prop) [Decidable p] (l : List Nat) (x : LQueue),
      ((forL l (fun k u => if p then u.openCore d k else u.sleepCore d k) (s.setQueue d q x)).actsDone d q).beside g = s.beside g :=
    fun p _ l x => (State.actsDone_beside hg _ _ _).trans ((hcores p l _).trans (s.setQueue_beside d q x))
  unfold State.serve
  dsimp only
  split
  · rfl
  next c rest _ =>
    have hop : ∀ (p : Prop) [Decidable p] (r : State × Bool), r.1.beside g = s.beside g →
        (if p then (s.finish d q c stRefused, true) else r).1.beside g = s.beside g := fun p _ r hr =>
      beside_fst_ite (hfinish c stRefused) hr
    refine beside_fst_ite rfl (beside_fst_ite (beside_fst_ite rfl (hfinish c stOk)) (beside_fst_ite (hfinish c stOk)
      (beside_fst_ite ?_ (beside_fst_ite ?_ (hfinish c stBadCommand)))))
    · exact hop _ _ (beside_fst_ite (hfinish c stBadCommand) (beside_fst_ite (hfinish c stFailed) (hwake _ s)))
    · exact hop _ _ (hacts _ _ _)

theorem State.drain_beside (n d q : Nat) (s : State) : (State.drain n d q s).beside g = s.beside g := by
  induction n generalizing s with
  | zero => rfl
  | succ n ih =>
    have h := s.serve_beside hg d q
    unfold State.drain
    generalize s.serve d q = r at h
    obtain ⟨t, more⟩ := r
    exact beside_ite_of ((ih t).trans h) h

theorem State.qRun_beside (s : State) (d q : Nat) : (s.qRun d q).beside g = s.beside g := by
  rw [State.qRun, State.showQueue_beside hg, State.drain_beside hg, State.actsDone_beside hg]

theorem State.burstGrow_beside (s : State) : s.burstGrow.beside g = s.beside g := by
  have hshow : ∀ t : State, t.showTrain.beside g = t.beside g := fun t => t.setFar_beside hg _ (by decide)
  have htrain : ∀ (t : State) (x : LTrain), State.beside g { t with lks := { t.lks with train := x } } = t.beside g :=
    fun t x => far_beside t _ _ _ _
  refine beside_ite_of rfl ((hshow _).trans (forN_beside s fun d _ t => forL_beside t fun c _ u => ?_))
  exact beside_ite_of ((State.coreTo_beside hg _ _ _ _).trans ((htrain _ _).trans (u.openCore_beside hg d c)))
    ((htrain _ _).trans (u.openCore_beside hg d c))

theorem State.dieRun_beside (s : State) (d : Nat) : (s.dieRun d).beside g = s.beside g := by
  rw [State.dieRun, State.burstGrow_beside hg, forN_beside _ fun q _ t => t.qRun_beside hg d q, State.jobsStart_beside hg,
    forN_beside _ fun q _ t => t.actsDone_beside hg d q]

/-- The host's queues close (R394). -/
theorem State.hostQueuesOff_beside (s : State) : s.hostQueuesOff.beside g = s.beside g := by
  have hclear : ∀ (t : State) (d q : Nat), (t.set (LKS_Q_CTRL_ENABLE d q) 0).beside g = t.beside g := fun t d q =>
    t.setQueueReg_beside hg d q 0 (.inl rfl)
  have hqueues : ∀ (d : Nat) (t : State), (forN 56 (fun i u =>
      ((u.setQueue d (8 + i) {}).clear (LKS_Q_CTRL_ENABLE d (8 + i))).showQueue d (8 + i)) t).beside g = t.beside g := fun d t =>
    forN_beside t fun i _ u => (State.showQueue_beside hg _ _ _).trans ((hclear _ _ _).trans (u.setQueue_beside _ _ _))
  unfold State.hostQueuesOff
  dsimp only
  rw [forN_beside, forL_beside _ fun j _ t => t.jobOff_beside hg j]
  intro d _ t
  exact beside_ite_of rfl ((State.dieRun_beside hg _ d).trans (hqueues d t))

end

end Sys2Proof.Machine


namespace Sys2Proof.Machine

/-! ### The host link (R36 to R38, R84, R123, R431, R498) -/

/-! #### A wake moves clocks and cores alone -/

/-- The state without the registers, the clocks and Larkspur's blocks, which a wake moves. -/
def State.unclocked (s : State) : State := { s with regs := [], clk := {}, lks := {} }

theorem unclocked_keeps {s t : State} (h : t.unclocked = s.unclocked) : t.pins = s.pins ∧ t.pcie = s.pcie ∧ t.brd = s.brd := by
  have hpins : t.unclocked.pins = s.unclocked.pins := congrArg State.pins h
  have hpcie : t.unclocked.pcie = s.unclocked.pcie := congrArg State.pcie h
  have hbrd : t.unclocked.brd = s.unclocked.brd := congrArg State.brd h
  exact ⟨hpins, hpcie, hbrd⟩

theorem unclocked_ite_of {c : Prop} [Decidable c] {s t u : State} (hs : s.unclocked = u.unclocked) (ht : t.unclocked = u.unclocked) :
    (if c then s else t).unclocked = u.unclocked := by
  split <;> assumption

theorem forL_unclocked {α : Type} {l : List α} {f : α → State → State} (s : State) (hf : ∀ x t, (f x t).unclocked = t.unclocked) :
    (forL l f s).unclocked = s.unclocked := by
  unfold forL
  induction l generalizing s with
  | nil => rfl
  | cons x l ih => exact (ih _).trans (hf x s)

theorem clocks_unclocked (s : State) (regs : List (Nat × Word)) (clk : Clk) (lks : Lks) :
    State.unclocked { s with regs := regs, clk := clk, lks := lks } = s.unclocked := rfl

theorem State.set_unclocked (s : State) (f : Field) (v : Nat) : (s.set f v).unclocked = s.unclocked := clocks_unclocked s _ _ _

theorem State.setCore_unclocked (s : State) (d c : Nat) (x : LCore) : (s.setCore d c x).unclocked = s.unclocked := clocks_unclocked s _ _ _

theorem State.coreTo_unclocked (s : State) (d c st : Nat) : (s.coreTo d c st).unclocked = s.unclocked := by
  have hthreads : ∀ t : State, (if st = cRun ∨ st = cSusp ∨ st = cDrain then t else t.set (LKS_CORE_THREADS d c) 0).unclocked = t.unclocked :=
    fun t => unclocked_ite_of rfl (t.set_unclocked _ _)
  unfold State.coreTo State.showCores
  dsimp only
  rw [State.set_unclocked, State.set_unclocked, State.set_unclocked, hthreads, State.setCore_unclocked]

theorem State.closeCore_unclocked (s : State) (d c : Nat) : (s.closeCore d c).unclocked = s.unclocked :=
  unclocked_ite_of ((State.coreTo_unclocked _ _ _ _).trans (s.setCore_unclocked _ _ _)) (s.setCore_unclocked _ _ _)

theorem State.lksOpen_unclocked (s : State) (b : Nat) : (s.lksOpen b).unclocked = s.unclocked := by
  unfold State.lksOpen
  dsimp only
  rw [forL_unclocked, clocks_unclocked, State.set_unclocked]
  intro x t
  have hgate : (if b = 12 then t.setCore x.1 x.2 { t.core x.1 x.2 with gate := true } else t).unclocked = t.unclocked :=
    unclocked_ite_of (t.setCore_unclocked _ _ _) rfl
  exact unclocked_ite_of ((State.coreTo_unclocked _ _ _ _).trans hgate) hgate

theorem State.lksClose_unclocked (s : State) (b : Nat) : (s.lksClose b).unclocked = s.unclocked := by
  have hclose : (forL (domainCores b) (fun q t => if t.coreRests q.1 q.2 then t else t.closeCore q.1 q.2) s).unclocked = s.unclocked :=
    forL_unclocked s fun q t => unclocked_ite_of rfl (t.closeCore_unclocked _ _)
  exact unclocked_ite_of ((State.set_unclocked _ _ _).trans hclose) hclose

theorem State.lksGate_unclocked (s : State) (want b : Nat) : (s.lksGate want b).unclocked = s.unclocked :=
  unclocked_ite_of (s.lksOpen_unclocked b) (unclocked_ite_of (s.lksClose_unclocked b) rfl)

theorem State.plainGates_unclocked (s : State) (want : Nat) : (s.plainGates want).unclocked = s.unclocked := by
  have hready : ∀ (c : Prop) [Decidable c] (f : Field) (t : State), (if c then t else t.set f 0).unclocked = t.unclocked :=
    fun c _ f t => unclocked_ite_of rfl (t.set_unclocked _ _)
  unfold State.plainGates
  exact (hready _ _ _).trans ((hready _ _ _).trans rfl)

theorem State.gates_unclocked (s : State) : s.gates.unclocked = s.unclocked := by
  unfold State.gates
  dsimp only
  rw [State.showAwake, State.setB_eq, State.set_unclocked, State.setB_eq, State.set_unclocked, clocks_unclocked,
    State.plainGates_unclocked, State.lksGate_unclocked, State.lksGate_unclocked, State.lksGate_unclocked]

theorem State.wakeBy_unclocked (s : State) (b : Nat) : (s.wakeBy b).unclocked = s.unclocked := by
  have hfire : (s.fireWake b).unclocked = s.unclocked := by
    unfold State.fireWake
    exact unclocked_ite_of rfl rfl
  have hmode : ∀ (t : State) (v : Nat) (clk : Clk), State.unclocked { t.set PWR_STATUS_CUR_MODE v with clk := clk } = t.unclocked :=
    fun t v clk => rfl
  have hwake : ∀ t : State, t.wake.unclocked = t.unclocked := by
    intro t
    unfold State.wake
    split
    · rfl
    · refine unclocked_ite_of rfl ?_
      dsimp only
      rw [State.gates_unclocked]
      exact unclocked_ite_of ((State.set_unclocked _ _ _).trans ((State.set_unclocked _ _ _).trans ((State.set_unclocked _ _ _).trans
        (hmode t _ _)))) (hmode t _ _)
  exact (hwake _).trans hfire

/-- A wake leaves the pins, the function and Bridle's state. -/
theorem State.wakeBy_keeps (s : State) (b : Nat) : (s.wakeBy b).pins = s.pins ∧ (s.wakeBy b).pcie = s.pcie ∧ (s.wakeBy b).brd = s.brd :=
  unclocked_keeps (s.wakeBy_unclocked b)

theorem aside_wakePcie : PWR_WAKE_SRC_PCIE.Aside := ⟨by decide, by decide⟩

theorem State.isSet_wakeBy (s : State) : (s.wakeBy 0).isSet PWR_WAKE_SRC_PCIE = true :=
  (isSet_of_beside (State.wake_beside aside_wakePcie _)).trans (s.isSet_fireWake (by decide))

theorem State.wakeBy_profile (s : State) : (s.wakeBy 0).get BOOT_STATUS_PROFILE = s.get BOOT_STATUS_PROFILE :=
  (get_of_beside (State.wake_beside ⟨by decide, by decide⟩ _)).trans (s.get_fireWake 0 (.inl (by decide)))

/-! #### The host is lost -/

/-- What the loss of the host leaves: the pins but WAKE_N, the function but its held messages, Bridle's own state. -/
structure HostKept (s t : State) : Prop where
  pins : { t.pins with wakeN := false } = { s.pins with wakeN := false }
  pcie : { t.pcie with pendingBits := [] } = { s.pcie with pendingBits := [] }
  brd : t.brd = s.brd

theorem HostKept.trans {s t u : State} (h : HostKept s t) (h' : HostKept t u) : HostKept s u :=
  ⟨h'.pins.trans h.pins, h'.pcie.trans h.pcie, h'.brd.trans h.brd⟩

theorem HostKept.perst {s t : State} (h : HostKept s t) : t.pins.perst = s.pins.perst := by
  have hperst : ({ t.pins with wakeN := false } : Pins).perst = ({ s.pins with wakeN := false } : Pins).perst := congrArg Pins.perst h.pins
  exact hperst

/-- The fields of the function that no message moves. -/
theorem function_kept {p q : Pcie} (h : { p with pendingBits := [] } = { q with pendingBits := [] }) :
    p.link = q.link ∧ p.dstate = q.dstate ∧ p.crs = q.crs ∧ p.unmasked = q.unmasked ∧ p.table = q.table := by
  injection h with hlink _ _ hd hcrs hmask htable
  exact ⟨hlink, hd, hcrs, hmask, htable⟩

theorem pins_of_seen {s t : State} {f : Field} {v : Nat} (h : t.seen = s.seen.put f v) :
    { t.pins with wakeN := false } = { s.pins with wakeN := false } := congrArg Seen.pins h

theorem aside_hostLost : BRD_STATUS_HOST_LOST.Aside := ⟨by decide, by decide⟩

/-- The fault of a lost or returned host is logged and no more (R417, R431). -/
theorem State.raise_host (s : State) (idx : Nat) : HostKept s (s.raise 0x0706 idx 0 0) := by
  by_cases hact : (0x0706, idx) ∈ s.brd.active
  · rw [s.raise_of_active 0 0 hact]
    exact ⟨rfl, rfl, rfl⟩
  · have hpcie := congrArg Beside.pcie (State.raise_beside aside_hostLost s 0x0706 idx 0 0)
    rw [State.raise_event 0 0 rfl (by decide) (by decide) hact] at hpcie ⊢
    exact ⟨pins_of_seen (s.logCode_seen 0x0706 idx 0 0 0), hpcie, s.logCode_brd 0x0706 idx 0 0 0⟩

theorem State.showLevels_beside {g : Field} (hg : g.Aside) (s : State) :
    (forN 4 (fun r t => t.showLevel (r + 1)) s).beside g = s.beside g := forN_beside s fun r _ t => t.showLevel_beside hg (r + 1)

theorem State.showLevels_host (s : State) : HostKept s (forN 4 (fun r t => t.showLevel (r + 1)) s) := by
  have hapart : (forN 4 (fun r t => t.showLevel (r + 1)) s).apart {} = s.apart {} := forN_apart s fun r t => t.showLevel_apart (r + 1)
  exact ⟨same_of_apart hapart State.pins, congrArg Beside.pcie (s.showLevels_beside aside_hostLost), brd_of_apart hapart⟩

/-- The loss shows as HOST_LOST with its event (R431). -/
def State.lossShown (s : State) : State := (s.set BRD_STATUS_HOST_LOST 1).raiseBit BRD_EVT_HOST 243

theorem State.hostLost_eq (s : State) : s.hostLost =
    if s.isSet BRD_STATUS_HOST_LOST then s else forN 4 (fun r t => t.showLevel (r + 1)) (s.lossShown.raise 0x0706 0 0 0) := rfl

theorem State.lossShown_beside {g : Field} (hg : g.Aside) (s : State) :
    (forN 4 (fun r t => t.showLevel (r + 1)) (s.lossShown.raise 0x0706 0 0 0)).beside g = (s.set BRD_STATUS_HOST_LOST 1).beside g :=
  (State.showLevels_beside hg _).trans ((State.raise_beside hg _ _ _ _ _).trans (State.raiseBit_beside hg _ 243 (by decide)))

/-- A lost host shows, and leaves what no loss moves (R431). -/
theorem State.hostLost_shows (s : State) : s.hostLost.isSet BRD_STATUS_HOST_LOST = true ∧ HostKept s s.hostLost := by
  rw [s.hostLost_eq]
  split
  next h => exact ⟨h, ⟨rfl, rfl, rfl⟩⟩
  next h =>
    have hset : HostKept s (s.set BRD_STATUS_HOST_LOST 1) := ⟨rfl, rfl, rfl⟩
    have hevt : HostKept (s.set BRD_STATUS_HOST_LOST 1) s.lossShown :=
      ⟨congrArg (fun p : Pins => { p with wakeN := false }) (State.raiseBit_pins _ _ _),
        congrArg Beside.pcie (State.raiseBit_beside aside_wakePcie _ 243 (by decide)), State.raiseBit_brd _ _ _⟩
    exact ⟨(isSet_of_beside (s.lossShown_beside aside_hostLost)).trans (s.isSet_set_one _ (by decide) (by decide)),
      hset.trans (hevt.trans ((State.raise_host _ 0).trans (State.showLevels_host _)))⟩

theorem State.hostLost_get (s : State) {g : Field} (hg : g.Aside) (hne : BRD_STATUS ≠ g.addr) : s.hostLost.get g = s.get g := by
  rw [s.hostLost_eq]
  split
  · rfl
  · exact (get_of_beside (s.lossShown_beside hg)).trans (s.get_set_apart _ g 1 (.inl hne))

/-- An aborted fetch leaves every register but those that show it, and the blocks but the boot state (R84). -/
theorem State.fetchAbort_keeps (s : State) : s.fetchAbort.get PWR_WAKE_SRC_PCIE = s.get PWR_WAKE_SRC_PCIE ∧ HostKept s s.fetchAbort := by
  unfold State.fetchAbort
  split
  · refine ⟨?_, ⟨rfl, rfl, rfl⟩⟩
    exact (State.get_bootErr _ _ _ (by decide) (by decide)).trans ((State.get_set_apart _ _ _ _ (.inl (by decide))).trans
      (State.get_set_apart _ _ _ _ (.inl (by decide))))
  · exact ⟨rfl, ⟨rfl, rfl, rfl⟩⟩

theorem State.hostQueuesOff_larkspur (s : State) : s.hostQueuesOff.apart .larkspur = s.apart .larkspur := by
  unfold State.hostQueuesOff
  dsimp only
  rw [forN_apart, forL_apart _ fun j t => t.jobOff_larkspur j]
  intro d t
  have hqueues : (forN 56 (fun i u => ((u.setQueue d (8 + i) {}).clear (LKS_Q_CTRL_ENABLE d (8 + i))).showQueue d (8 + i)) t).apart
      .larkspur = t.apart .larkspur := forN_apart t fun i u => by simp
  rw [apart_ite, State.dieRun_larkspur, hqueues, ite_self]

/-- The link has gone: the host is lost until it kicks again, and a wake source that fired stays (R84, R394, R431). -/
theorem State.linkGone_shows (s : State) : s.linkGone.isSet BRD_STATUS_HOST_LOST = true ∧ s.linkGone.brd.hostKicked = false ∧
    s.linkGone.pins.perst = s.pins.perst ∧ { s.linkGone.pcie with pendingBits := [] } = { s.pcie with pendingBits := [] } ∧
    s.linkGone.get PWR_WAKE_SRC_PCIE = s.get PWR_WAKE_SRC_PCIE := by
  have hoff := s.hostQueuesOff_beside aside_wakePcie
  obtain ⟨hget, habort⟩ := s.hostQueuesOff.fetchAbort_keeps
  let u : State := { s.hostQueuesOff.fetchAbort with brd := { s.hostQueuesOff.fetchAbort.brd with hostKicked := false } }
  obtain ⟨hlost, hkept⟩ := u.hostLost_shows
  have hperst : s.hostQueuesOff.pins.perst = s.pins.perst := same_of_apart s.hostQueuesOff_larkspur fun u => u.pins.perst
  refine ⟨hlost, congrArg Brd.hostKicked hkept.brd, hkept.perst.trans (habort.perst.trans hperst),
    hkept.pcie.trans (habort.pcie.trans (congrArg Beside.pcie hoff)), ?_⟩
  exact (u.hostLost_get aside_wakePcie (by decide)).trans (hget.trans (get_of_beside hoff))

/-! #### Held messages and WAKE_N -/

theorem forL_emit (l : List Nat) (s : State) :
    forL l (fun v t => t.emit (.msix v)) s = { s with out := (l.map Out.msix).reverse ++ s.out } := by
  unfold forL
  induction l generalizing s with
  | nil => rfl
  | cons v l ih =>
    rw [List.foldl_cons, ih]
    simp [State.emit]

/-- The held messages that may go: those of unmasked vectors, in D0 with the link up (R498). -/
def State.sendable (s : State) : List Nat := s.pcie.pendingBits.filter fun v =>
  decide (v ∈ s.pcie.unmasked) && s.pcie.dstate == 0 && s.pcie.link.live

theorem State.sendHeld_eq (s : State) : s.sendHeld = { s with
    pcie := { s.pcie with pendingBits := s.pcie.pendingBits.filter fun v => !s.sendable.contains v }
    out := (s.sendable.map Out.msix).reverse ++ s.out } := forL_emit _ _

theorem State.mem_sendable {s : State} {v : Nat} (hv : v ∈ s.pcie.pendingBits) (hmask : v ∈ s.pcie.unmasked) (hd : s.pcie.dstate = 0)
    (hlink : s.pcie.link.live = true) : v ∈ s.sendable :=
  List.mem_filter.2 ⟨hv, by simp [hmask, hd, hlink]⟩

/-- A message that may go is sent and no longer held. -/
theorem State.sendHeld_sends {s : State} {v : Nat} (h : v ∈ s.sendable) : v ∉ s.sendHeld.pcie.pendingBits ∧ Out.msix v ∈ s.sendHeld.out := by
  rw [s.sendHeld_eq]
  refine ⟨fun hv => ?_, List.mem_append_left _ (List.mem_reverse.2 (List.mem_map_of_mem h))⟩
  have hgone := (List.mem_filter.1 hv).2
  simp [h] at hgone

/-! #### The commands -/

theorem exec_perstAssert (s : State) (hp : s.pins.powered = true) : exec .perstAssert s =
    if s.pcie = {} then .next { s with pins := { s.pins with perst := true } }
    else .next ((State.wakeBy 0 { s with pins := { s.pins with perst := true }, pcie := {} }).linkGone) := by
  have hexec : exec .perstAssert s = execPerstAssert s := rfl
  rw [hexec]
  unfold execPerstAssert
  by_cases h : s.pcie = {}
  · simp [h]
  · simp [h, hp]

theorem exec_perstDeassert (s : State) (hp : s.pins.powered = true) : exec .perstDeassert s =
    let t := State.wakeBy 0 { s with pins := { s.pins with perst := false } }
    .next (if t.get BOOT_STATUS_PROFILE ≠ 0 then { t with pcie := { t.pcie with link := .training } } else t) := by
  have hexec : exec .perstDeassert s = execPerstDeassert s := rfl
  have hon : ¬((!s.pins.powered) = true) := by simp [hp]
  rw [hexec]
  exact if_neg hon

theorem exec_linkLoss (s : State) (hp : s.pins.powered = true) : exec .linkLoss s =
    if s.pcie.link = .down then .next s
    else .next (State.linkGone { s with pcie := { s.pcie with link := .down, crs := true } }) := by
  have hexec : exec .linkLoss s = execLinkLoss s := rfl
  rw [hexec]
  exact State.on_powered _ hp

/-- The function ready in D0, at a data rate and with its lanes (R36, R37). -/
def State.linkReady (s : State) (gen : Fin 6) (w : Fin 4) : State := State.showWakeN { s with
  pcie := { s.pcie with link := .up, gen := gen.val, width := 2 ^ w.val, crs := false, dstate := 0 } }

theorem exec_pcieLinkUp (s : State) (gen : Fin 6) (w : Fin 4) (hp : s.pins.powered = true) : exec (.pcieLinkUp gen w) s =
    if s.pins.perst || s.get BOOT_STATUS_PROFILE == 0 then .next s else .next (s.linkReady gen w).sendHeld := by
  have hexec : exec (.pcieLinkUp gen w) s = execPcieLinkUp gen w s := rfl
  rw [hexec]
  exact State.on_powered _ hp

/-- The function enters a power state, or the link one, and WAKE_N follows (R36, R38). -/
def State.toD (s : State) (d : Nat) : State := State.showWakeN { s with pcie := { s.pcie with dstate := d } }
def State.toL (s : State) (l : Link) : State := State.showWakeN { s with pcie := { s.pcie with link := l } }

theorem State.toD_eq (s : State) (d : Nat) : s.toD d = { s with
    pcie := { s.pcie with dstate := d }, pins := { s.pins with wakeN := s.p0Waiting && (s.pcie.link.low || d != 0) } } := rfl

theorem State.toL_eq (s : State) (l : Link) : s.toL l = { s with
    pcie := { s.pcie with link := l }, pins := { s.pins with wakeN := s.p0Waiting && (l.low || s.pcie.dstate != 0) } } := rfl

/-- What a move of the function or of its link leads to. -/
def State.moved (s : State) : PcieMove → State
  | .d0 => (s.toD 0).sendHeld
  | .d3hot => s.toD 1
  | .d3cold => (s.toD 2).hostLost
  | .l1 => if s.pcie.link = .up then s.toL .l1 else s
  | .l11 => if s.pcie.link = .l1 then s.toL .l11 else s
  | .l0 => if s.pcie.link.low then State.wakeBy 0 (s.toL .up) else s

theorem exec_pciePowerStateChange (s : State) (m : PcieMove) (hp : s.pins.powered = true) :
    exec (.pciePowerStateChange m) s = .next (s.moved m) := by
  have hexec : exec (.pciePowerStateChange m) s = execPciePowerStateChange m s := rfl
  rw [hexec]
  unfold execPciePowerStateChange
  rw [State.on_powered _ hp]
  cases m with
  | l0 =>
    cases hlow : s.pcie.link.low
    · simp [State.moved, hlow]
    · simp [State.moved, State.toL, hlow]
  | _ => rfl

/-- The vector's entry is written unmasked (R498). -/
def State.vectorEntered (s : State) (v : Nat) (addr : Word64) (data : Word) : State := { s with pcie := { s.pcie with
  unmasked := addOnce s.pcie.unmasked v
  table := (v, addr, data) :: s.pcie.table.filter (·.1 != v) } }

theorem exec_msixUnmask (s : State) (v : Fin 256) (addr : Word64) (data : Word) (hp : s.pins.powered = true) :
    exec (.msixUnmask v addr data) s = .next (s.vectorEntered v.val addr data).sendHeld := by
  have hexec : exec (.msixUnmask v addr data) s = execMsixUnmask v addr data s := rfl
  rw [hexec]
  exact State.on_powered _ hp

theorem mem_addOnce (l : List Nat) (x : Nat) : x ∈ addOnce l x := by
  unfold addOnce
  split <;> simp [*]

/-- Settles O24: the events of the host link, by what a wake, the loss of the host and the held messages change. -/
theorem hostLinkCommands : Obligations.HostLinkCommands := by
  intro s hp
  have hmove := fun m => exec_pciePowerStateChange s m hp
  refine ⟨fun hpcie => ?_, fun hpcie => ?_, fun hprofile => ?_, fun hprofile => ?_, fun hlink => ?_, fun hlink => ?_,
    fun gen w hperst hprofile => ?_, fun gen w h => ?_, ?_, ?_, ?_, fun hlink => ?_, fun hlink => ?_, fun hlow => ?_, fun hlow => ?_,
    fun hlink => ?_, fun v addr data => ?_⟩
  · rw [exec_perstAssert s hp, if_neg hpcie]
    let u : State := { s with pins := { s.pins with perst := true }, pcie := {} }
    obtain ⟨hlost, hkick, hperst, hfun, hwake⟩ := (u.wakeBy 0).linkGone_shows
    obtain ⟨hpins, hreset, -⟩ := u.wakeBy_keeps 0
    rw [hreset] at hfun
    obtain ⟨hlink, -, -, hmask, htable⟩ := function_kept hfun
    exact ⟨_, rfl, hperst.trans (congrArg Pins.perst hpins), hlink, htable, hmask, (State.isSet_of_get hwake).trans u.isSet_wakeBy, hkick,
      hlost⟩
  · rw [exec_perstAssert s hp, if_pos hpcie]
  · obtain ⟨hpins, -⟩ := State.wakeBy_keeps { s with pins := { s.pins with perst := false } } 0
    have hread : (State.wakeBy 0 { s with pins := { s.pins with perst := false } }).get BOOT_STATUS_PROFILE ≠ 0 := by
      rwa [State.wakeBy_profile]
    rw [exec_perstDeassert s hp]
    dsimp only
    rw [if_pos hread]
    exact ⟨_, rfl, rfl, congrArg Pins.perst hpins, State.isSet_wakeBy _⟩
  · obtain ⟨hpins, hkept, -⟩ := State.wakeBy_keeps { s with pins := { s.pins with perst := false } } 0
    have hunread : ¬((State.wakeBy 0 { s with pins := { s.pins with perst := false } }).get BOOT_STATUS_PROFILE ≠ 0) := by
      rw [State.wakeBy_profile]
      exact not_not.2 hprofile
    rw [exec_perstDeassert s hp]
    dsimp only
    rw [if_neg hunread]
    exact ⟨_, rfl, hkept, congrArg Pins.perst hpins, State.isSet_wakeBy _⟩
  · rw [exec_linkLoss s hp, if_neg hlink]
    obtain ⟨hlost, hkick, -, hfun, -⟩ := State.linkGone_shows { s with pcie := { s.pcie with link := .down, crs := true } }
    obtain ⟨hdown, -, hcrs, -⟩ := function_kept hfun
    exact ⟨_, rfl, hdown, hcrs, hkick, hlost⟩
  · rw [exec_linkLoss s hp, if_pos hlink]
  · have hsent : ∀ v ∈ s.pcie.pendingBits, v ∈ s.pcie.unmasked →
        v ∉ (s.linkReady gen w).sendHeld.pcie.pendingBits ∧ Out.msix v ∈ (s.linkReady gen w).sendHeld.out := fun v hv hmask =>
      State.sendHeld_sends (State.mem_sendable (s := s.linkReady gen w) hv hmask rfl rfl)
    have hwake : (s.linkReady gen w).pins.wakeN = false := Bool.and_false _
    refine ⟨(s.linkReady gen w).sendHeld, ?_, ?_⟩
    · rw [exec_pcieLinkUp s gen w hp, if_neg (by simp [hperst, hprofile])]
    · rw [State.sendHeld_eq] at hsent ⊢
      exact ⟨rfl, rfl, rfl, rfl, rfl, hwake, rfl, hsent⟩
  · rw [exec_pcieLinkUp s gen w hp, if_pos (by simpa using h)]
  · refine ⟨(s.toD 0).sendHeld, hmove .d0, ?_⟩
    rw [State.sendHeld_eq, s.toD_eq]
    have hwake : (s.p0Waiting && (s.pcie.link.low || (0 : Nat) != 0)) = (s.p0Waiting && s.pcie.link.low) := by simp
    exact ⟨rfl, rfl, hwake, rfl⟩
  · rw [hmove]
    show Host.Outcome.next (s.toD 1) = _
    rw [s.toD_eq]
    simp
  · obtain ⟨hlost, hkept⟩ := (s.toD 2).hostLost_shows
    obtain ⟨-, hd, -⟩ := function_kept hkept.pcie
    exact ⟨_, hmove .d3cold, hd, hlost⟩
  · rw [hmove, State.moved, if_pos hlink, s.toL_eq]
    simp [Link.low]
  · rw [hmove, State.moved, if_pos hlink, s.toL_eq]
    simp [Link.low]
  · obtain ⟨hpins, hpcie, -⟩ := (s.toL .up).wakeBy_keeps 0
    refine ⟨State.wakeBy 0 (s.toL .up), ?_, congrArg Pcie.link hpcie, ?_, State.isSet_wakeBy _⟩
    · rw [hmove, State.moved, if_pos hlow]
    · have hup : Link.up.low = false := rfl
      rw [hpins, s.toL_eq, hup, Bool.false_or]
  · have hl1 : s.pcie.link ≠ .l1 := by
      intro h
      rw [h] at hlow
      exact absurd hlow (by decide)
    rw [hmove, hmove, State.moved, State.moved, if_neg (by simp [hlow]), if_neg hl1]
    exact ⟨rfl, rfl⟩
  · rw [hmove, State.moved, if_neg hlink]
  · refine ⟨_, exec_msixUnmask s v addr data hp, ?_⟩
    have hsent : v.val ∈ s.pcie.pendingBits → s.pcie.dstate = 0 → s.pcie.link.live = true →
        v.val ∉ (s.vectorEntered v.val addr data).sendHeld.pcie.pendingBits ∧
        Out.msix v.val ∈ (s.vectorEntered v.val addr data).sendHeld.out := fun hv hd hlive =>
      State.sendHeld_sends (State.mem_sendable (s := s.vectorEntered v.val addr data) hv (mem_addOnce _ _) hd hlive)
    rw [State.sendHeld_eq] at hsent ⊢
    exact ⟨mem_addOnce _ _, List.mem_cons_self, rfl, fun hv hd hlive => (hsent hv hd hlive).symm⟩

end Sys2Proof.Machine


namespace Sys2Proof.Machine

/-! ### What the registers that LOOPS writes leave (R186, R196) -/

/-- A field of Rein's registers or above that is neither a cascade's source nor its AUTO_START. -/
structure Field.Tuned (f : Field) : Prop where
  above : 0x200000 ≤ f.addr
  src : ∀ c < 8, f.addr ≠ REIN_CAS_SRC c
  auto : ∀ c < 8, f.addr ≠ REIN_CAS_CTRL c ∨ f.lo + f.w ≤ 1 ∨ 2 ≤ f.lo

/-- A field that a write of Rein's registers leaves: below them, or a cascade's destination or AUTO_START. -/
structure Field.Untuned (g : Field) : Prop where
  aside : g.Aside
  place : g.addr < 0x200000 ∨ ∃ c < 8, g = REIN_CAS_SRC_DEST_SEL c ∨ g = REIN_CAS_CTRL_AUTO_START c

theorem Field.Untuned.apart {f g : Field} (hg : g.Untuned) (hf : f.Tuned) : f.apart g := by
  obtain ⟨habove, hsrc, hauto⟩ := hf
  rcases hg.place with h | ⟨c, hc, rfl | rfl⟩
  · exact .inl (by omega)
  · exact .inl (hsrc c hc)
  · exact hauto c hc

theorem tuned_of_addr {a : Nat} (lo w : Nat) (h : (0x200000 ≤ a ∧ a < 0x201000) ∨ 0x201200 ≤ a) : Field.Tuned ⟨a, lo, w⟩ := by
  refine ⟨?_, fun c hc => ?_, fun c hc => .inl ?_⟩
  · show 0x200000 ≤ a
    omega
  · show a ≠ 0x201004 + 0x40 * c
    omega
  · show a ≠ 0x201000 + 0x40 * c
    omega

/-- The registers of a cascade from its map on. -/
theorem tuned_of_cascade {a : Nat} (c lo w : Nat) (h : 0x201008 + 0x40 * c ≤ a ∧ a < 0x201040 + 0x40 * c) : Field.Tuned ⟨a, lo, w⟩ := by
  refine ⟨?_, fun d _ => ?_, fun d _ => .inl ?_⟩
  · show 0x200000 ≤ a
    omega
  · show a ≠ 0x201004 + 0x40 * d
    omega
  · show a ≠ 0x201000 + 0x40 * d
    omega

theorem tuned_ctrl (c : Nat) {lo w : Nat} (h : lo + w ≤ 1 ∨ 2 ≤ lo) : Field.Tuned ⟨REIN_CAS_CTRL c, lo, w⟩ := by
  refine ⟨?_, fun d _ => ?_, fun _ _ => .inr h⟩
  · show 0x200000 ≤ 0x201000 + 0x40 * c
    omega
  · show 0x201000 + 0x40 * c ≠ 0x201004 + 0x40 * d
    omega

theorem tuned_status (c lo w : Nat) : Field.Tuned ⟨REIN_CAS_STATUS c, lo, w⟩ :=
  tuned_of_cascade c _ _ (by unfold REIN_CAS_STATUS; omega)

theorem tuned_section (k lo w : Nat) : Field.Tuned ⟨REIN_SEC_CFG k, lo, w⟩ :=
  tuned_of_addr _ _ (by unfold REIN_SEC_CFG; omega)

/-- What is seen of a state beside a write of Rein's registers. -/
def State.untuned (g : Field) (s : State) : Beside × Nat := (s.beside g, s.shelf)

section
variable {g : Field}

theorem untuned_ite_of {c : Prop} [Decidable c] {s t u : State} (hs : s.untuned g = u.untuned g) (ht : t.untuned g = u.untuned g) :
    (if c then s else t).untuned g = u.untuned g := by
  split <;> assumption

theorem forN_untuned {n : Nat} {f : Nat → State → State} (s : State) (hf : ∀ i t, (f i t).untuned g = t.untuned g) :
    (forN n f s).untuned g = s.untuned g := by
  unfold forN
  induction List.range n generalizing s with
  | nil => rfl
  | cons x l ih => exact (ih _).trans (hf x s)

theorem State.msix_untuned (s : State) (v : Nat) : (s.msix v).untuned g = s.untuned g := by
  unfold State.msix
  repeat' split
  all_goals rfl

variable (hg : g.Untuned)
include hg

theorem State.set_untuned (s : State) {f : Field} (v : Nat) (hf : f.Tuned) : (s.set f v).untuned g = s.untuned g := by
  have hshelf : (s.set f v).shelf = s.shelf := s.get_set_apart f _ v (.inl (by
    have := hf.above
    show f.addr ≠ 0x10
    omega))
  unfold State.untuned
  rw [hshelf, beside_eq (g := g) (s.get_set_apart f g v (hg.apart hf)) rfl rfl]

theorem State.wr_untuned (s : State) {a : Nat} (v : Word) (hf : Field.Tuned ⟨a, 0, 32⟩) : (s.wr a v).untuned g = s.untuned g := by
  obtain ⟨habove, hsrc, hauto⟩ := hf
  simp only [Nat.reduceAdd, Nat.reduceLeDiff, or_false, or_self] at habove hsrc hauto
  have hne : g.addr ≠ a := by
    rcases hg.place with h | ⟨c, hc, rfl | rfl⟩
    · omega
    · exact (hsrc c hc).symm
    · exact (hauto c hc).symm
  have hshelf : (s.wr a v).shelf = s.shelf := s.get_wr_ne v (by
    show 0x10 ≠ a
    omega)
  unfold State.untuned
  rw [hshelf, beside_eq (g := g) (s.get_wr_ne v hne) rfl rfl]

theorem State.raiseBit_untuned (s : State) {f : Field} (v : Nat) (hf : f.Tuned) : (s.raiseBit f v).untuned g = s.untuned g :=
  untuned_ite_of rfl ((State.msix_untuned _ v).trans (s.set_untuned hg 1 hf))

omit hg in
/-- The F0 record of a refused access leaves the shelf state. -/
theorem State.refuse_shelf (s : State) (addr value : Nat) : (s.refuse addr value).shelf = s.shelf := by
  have hcls : s.classOf 0x0605 0 = 0 := rfl
  have hlog : (s.logCode 0x0605 0 0 (signedOf 32 addr) (signedOf 32 value)).shelf = s.shelf :=
    State.get_of_seen (s.logCode_seen _ _ _ _ _) (.inl (by decide))
  unfold State.refuse State.raise
  rw [hcls]
  split
  · rfl
  · exact hlog

theorem State.refuse_untuned (s : State) (addr value : Nat) : (s.refuse addr value).untuned g = s.untuned g := by
  unfold State.untuned
  rw [State.refuse_shelf, State.refuse, s.raise_beside hg.aside]

theorem State.tuneAbort_untuned (s : State) (cause : Nat) : (s.tuneAbort cause).untuned g = s.untuned g := by
  unfold State.tuneAbort
  split
  next => rfl
  next t _ =>
    have hstatus : ∀ (u : State) (lo w v : Nat), (u.set ⟨REIN_TUNE_STATUS, lo, w⟩ v).untuned g = u.untuned g :=
      fun u lo w v => u.set_untuned hg v (tuned_of_addr _ _ (by decide))
    refine (State.raiseBit_untuned hg _ _ (tuned_of_addr _ _ (by decide))).trans ((hstatus _ _ _ _).trans ((hstatus _ _ _ _).trans
      ((State.set_untuned hg _ _ (tuned_status t.cas _ _)).trans ?_)))
    exact untuned_ite_of (State.set_untuned hg _ _ (tuned_status t.cas _ _)) rfl

/-! #### A tune (R208, R211) -/

theorem State.tuneRefuse_untuned (s : State) (cause : Nat) : (s.tuneRefuse cause).untuned g = s.untuned g :=
  (State.set_untuned hg _ _ (tuned_of_addr _ _ (by decide))).trans ((State.set_untuned hg _ _ (tuned_of_addr _ _ (by decide))).trans
    (State.set_untuned hg _ _ (tuned_of_addr _ _ (by decide))))

theorem State.tuneBegin_untuned (s : State) (c : Nat) : (s.tuneBegin c).untuned g = s.untuned g :=
  (State.set_untuned hg _ _ (tuned_of_addr _ _ (by decide))).trans ((State.set_untuned hg _ _ (tuned_of_addr _ _ (by decide))).trans
    ((State.set_untuned hg _ _ (tuned_of_addr _ _ (by decide))).trans ((State.set_untuned hg _ _ (tuned_status c _ _)).trans
      (State.set_untuned hg _ _ (tuned_status c _ _)))))

theorem State.tuneStart_untuned (s : State) (c : Nat) : (s.tuneStart c).untuned g = s.untuned g := by
  have hclear : (s.clear REIN_TUNE_CTRL_START).untuned g = s.untuned g := s.set_untuned hg _ (tuned_of_addr _ _ (by decide))
  have hrefuse : ∀ k, ((s.clear REIN_TUNE_CTRL_START).tuneRefuse k).untuned g = s.untuned g :=
    fun k => (State.tuneRefuse_untuned hg _ k).trans hclear
  have hpend : ∀ u : State, (((({ u with rein := { u.rein with tunePending := some c } } : State).set REIN_TUNE_STATUS_STATE 1).set
      REIN_TUNE_STATUS_CAUSE 0).set REIN_TUNE_STATUS_LOOP c).untuned g = u.untuned g := fun u =>
    (State.set_untuned hg _ _ (tuned_of_addr _ _ (by decide))).trans ((State.set_untuned hg _ _ (tuned_of_addr _ _ (by decide))).trans
      (State.set_untuned hg _ _ (tuned_of_addr _ _ (by decide))))
  unfold State.tuneStart
  exact untuned_ite_of (hrefuse 10) (untuned_ite_of (hrefuse 9) (untuned_ite_of
    (untuned_ite_of ((hpend _).trans hclear) (hrefuse 10)) (untuned_ite_of (hrefuse 9) (untuned_ite_of (hrefuse 10)
      (untuned_ite_of ((State.tuneBegin_untuned hg _ c).trans hclear) (hrefuse 9))))))

theorem State.plainWrite_untuned (s : State) {a : Nat} (v : Word) (ha : Field.Tuned ⟨a, 0, 32⟩) :
    (s.plainWrite a v).untuned g = s.untuned g := by
  unfold State.plainWrite
  split
  next => rfl
  next => exact untuned_ite_of ((State.refuse_untuned hg _ _ _).trans (s.wr_untuned hg _ ha)) (s.wr_untuned hg _ ha)

theorem State.tuneCtrlWrite_untuned (s : State) (v : Word) : (s.tuneCtrlWrite v).untuned g = s.untuned g := by
  have hplain : (s.plainWrite REIN_TUNE_CTRL (v &&& ~~~3#32)).untuned g = s.untuned g :=
    s.plainWrite_untuned hg _ (tuned_of_addr _ _ (by decide))
  have habort := untuned_ite_of (c := v.getLsbD 1 = true) ((State.tuneAbort_untuned hg _ 5).trans hplain) hplain
  unfold State.tuneCtrlWrite
  exact untuned_ite_of ((State.tuneStart_untuned hg _ _).trans habort) habort

/-! #### Sections (R202, R203, R215) -/

theorem State.coefWrite_untuned (s : State) (k word : Nat) (v : Word) : (s.coefWrite k word v).untuned g = s.untuned g := by
  have hset : ∀ (u : State) (lo w n : Nat), (u.set ⟨REIN_SEC_CFG k, lo, w⟩ n).untuned g = u.untuned g :=
    fun u lo w n => u.set_untuned hg n (tuned_section k lo w)
  have hsat : ∀ u : State, (if v.getLsbD 7 then u.clear (REIN_SEC_CFG_SAT k) else u).untuned g = u.untuned g :=
    fun u => untuned_ite_of (hset _ _ _ _) rfl
  have hshift := (hsat _).trans (hset s 0 3 (fieldGet v 0 3))
  unfold State.coefWrite
  exact untuned_ite_of (s.wr_untuned hg _ (tuned_of_addr _ _ (by unfold REIN_SEC_B0; omega)))
    (untuned_ite_of ((hset _ _ _ _).trans hshift) hshift)

theorem State.secStateWrite_untuned (s : State) (k word : Nat) (v : Word) : (s.secStateWrite k word v).untuned g = s.untuned g :=
  untuned_ite_of ((State.refuse_untuned hg _ _ _).trans (s.set_untuned hg _ (tuned_section k _ _)))
    (s.wr_untuned hg _ (tuned_of_addr _ _ (by unfold REIN_SEC_X1; omega)))

theorem State.showSections_untuned (s : State) : s.showSections.untuned g = s.untuned g := by
  refine forN_untuned s fun k t => ?_
  have hset : ∀ (u : State) (lo w n : Nat), (u.set ⟨REIN_SEC_CFG k, lo, w⟩ n).untuned g = u.untuned g :=
    fun u lo w n => u.set_untuned hg n (tuned_section k lo w)
  dsimp only
  split
  all_goals exact (hset _ _ _ _).trans ((hset _ _ _ _).trans ((hset _ _ _ _).trans (hset _ _ _ _)))

/-! #### Cascades (R187, R200 to R205) -/

theorem State.casRefuse_untuned (s : State) (c addr value : Nat) : (s.casRefuse c addr value).untuned g = s.untuned g :=
  (State.refuse_untuned hg _ _ _).trans (s.set_untuned hg _ (tuned_status c _ _))

theorem State.mapPut_untuned (s : State) (c : Nat) (w : MapWrite) : (s.mapPut c w).untuned g = s.untuned g := by
  have hmap : ∀ (a : Nat) (v : Word), 0x201008 + 0x40 * c ≤ a ∧ a < 0x201040 + 0x40 * c → (s.wr a v).untuned g = s.untuned g :=
    fun a v h => s.wr_untuned hg v (tuned_of_cascade c 0 32 h)
  match w with
  | .word false false v => exact hmap _ _ (by unfold REIN_CAS_MAP_A0; omega)
  | .word false true v => exact hmap _ _ (by unfold REIN_CAS_MAP_A1; omega)
  | .word true false v => exact hmap _ _ (by unfold REIN_CAS_MAP_B0; omega)
  | .word true true v => exact hmap _ _ (by unfold REIN_CAS_MAP_B1; omega)
  | .len false n => exact s.set_untuned hg _ (tuned_ctrl c (by decide))
  | .len true n => exact s.set_untuned hg _ (tuned_ctrl c (by decide))

theorem State.mapWrite_untuned (s : State) (c : Nat) (w : MapWrite) : (s.mapWrite c w).untuned g = s.untuned g := by
  unfold State.mapWrite
  dsimp only
  split
  next => exact (State.showSections_untuned hg _).trans (s.mapPut_untuned hg c w)
  next => exact s.casRefuse_untuned hg c _ _
  next => exact s.refuse_untuned hg _ _

theorem State.lenWrite_untuned (s : State) (c : Nat) (bankB : Bool) (v : Word) : (s.lenWrite c bankB v).2.untuned g = s.untuned g := by
  have hput : ∀ w : MapWrite, (s.mapPut c w).showSections.untuned g = s.untuned g :=
    fun w => (State.showSections_untuned hg _).trans (s.mapPut_untuned hg c w)
  unfold State.lenWrite
  cases bankB
  all_goals
    simp only [Bool.false_eq_true, if_false, if_true]
    split
    · rfl
    · split
      · simp only [hput]
      · rfl

theorem State.holdWrite_untuned (s : State) (c : Nat) (h : Bool) : (s.holdWrite c h).2.untuned g = s.untuned g := by
  unfold State.holdWrite
  split
  · rfl
  · exact s.set_untuned hg _ (tuned_ctrl c (by decide))

theorem State.casPending_untuned (s : State) (c : Nat) (b : Bool) : (s.casPending c b).untuned g = s.untuned g :=
  (State.set_untuned hg _ _ (tuned_of_addr _ _ (by decide))).trans (s.set_untuned hg _ (tuned_status c _ _))

theorem State.casEnable_untuned (s : State) (c : Nat) : (s.casEnable c).untuned g = s.untuned g := by
  have henable : (s.set (REIN_CAS_CTRL_ENABLE c) 1).untuned g = s.untuned g := s.set_untuned hg 1 (tuned_ctrl c (by decide))
  have hpending := (State.casPending_untuned hg (s.set (REIN_CAS_CTRL_ENABLE c) 1) c true).trans henable
  have hbegin : ((s.set (REIN_CAS_CTRL_ENABLE c) 1).casBegin c).untuned g = s.untuned g :=
    (State.set_untuned hg _ _ (tuned_status c _ _)).trans henable
  exact untuned_ite_of hpending (untuned_ite_of (untuned_ite_of hpending hbegin) henable)

theorem State.casDisable_untuned (s : State) (c : Nat) : (s.casDisable c).untuned g = s.untuned g := by
  have hoff : ((s.set (REIN_CAS_CTRL_ENABLE c) 0).casPending c false).untuned g = s.untuned g :=
    (State.casPending_untuned hg _ c false).trans (s.set_untuned hg 0 (tuned_ctrl c (by decide)))
  have hstop : ∀ u : State, (if u.casSt c = 1 ∨ u.casSt c = 2 then u.set (REIN_CAS_STATUS_STATE c) 3 else u).untuned g = u.untuned g :=
    fun u => untuned_ite_of (u.set_untuned hg _ (tuned_status c _ _)) rfl
  unfold State.casDisable
  refine (hstop _).trans ?_
  split
  next => exact untuned_ite_of ((State.tuneAbort_untuned hg _ 5).trans hoff) hoff
  next => exact hoff

theorem State.clampWrite_untuned (s : State) (c : Nat) {off : Nat} (v : Word) (h : off = 0x20 ∨ off = 0x24) :
    (s.clampWrite c off v).untuned g = s.untuned g :=
  untuned_ite_of (s.refuse_untuned hg _ _) (s.wr_untuned hg _ (tuned_of_cascade c _ _ (by unfold REIN_CAS_OUT_MIN; omega)))

theorem State.showFe_untuned (s : State) : s.showFe.untuned g = s.untuned g := s.set_untuned hg _ (tuned_of_addr _ _ (by decide))

end

/-! ### A write of a cascade's AUTO_START and source -/

/-- AUTO_START within a write of REIN_CAS_CTRL (R17). -/
def State.autoWrite (s : State) (c : Nat) (v : Word) : State :=
  if v.getLsbD 1 != s.isSet (REIN_CAS_CTRL_AUTO_START c) && s.shelf != stPassive then s
  else s.setB (REIN_CAS_CTRL_AUTO_START c) (v.getLsbD 1)

/-- Of what is untuned, a write of REIN_CAS_CTRL changes AUTO_START alone. -/
theorem State.casCtrlWrite_untuned {g : Field} (hg : g.Untuned) (s : State) (c : Nat) (v : Word) :
    (s.casCtrlWrite c v).untuned g = (s.autoWrite c v).untuned g := by
  have hset : ∀ (u : State) {lo w n : Nat}, lo + w ≤ 1 ∨ 2 ≤ lo → (u.set ⟨REIN_CAS_CTRL c, lo, w⟩ n).untuned g = u.untuned g :=
    fun u _ _ n h => u.set_untuned hg n (tuned_ctrl c h)
  have hrate : ∀ u : State, ((u.set (REIN_CAS_CTRL_RATE_DIV c) (fieldGet v 8 16)).setB (REIN_CAS_CTRL_INIT_COPY c)
      (v.getLsbD 4)).untuned g = u.untuned g := fun u => (hset _ (by decide)).trans (hset u (by decide))
  have henable : ∀ u : State, (if v.getLsbD 0 && !u.isSet (REIN_CAS_CTRL_ENABLE c) then u.casEnable c
      else if !v.getLsbD 0 && u.isSet (REIN_CAS_CTRL_ENABLE c) then u.casDisable c else u).untuned g = u.untuned g := fun u =>
    untuned_ite_of (u.casEnable_untuned hg c) (untuned_ite_of (u.casDisable_untuned hg c) rfl)
  have hrefused : ∀ (p : Prop) [Decidable p] (u : State), (if p then u.set (REIN_CAS_STATUS_REFUSED c) 1 else u).untuned g = u.untuned g :=
    fun _ _ u => untuned_ite_of (u.set_untuned hg _ (tuned_status c _ _)) rfl
  have hrecord : ∀ (b : Bool) (u : State), (if b then u.refuse (REIN_CAS_CTRL c) v.toNat else u).untuned g = u.untuned g :=
    fun _ u => untuned_ite_of (u.refuse_untuned hg _ _) rfl
  unfold State.casCtrlWrite State.autoWrite
  dsimp only
  refine (hrecord _ _).trans ((hrefused _ _).trans ((henable _).trans ((State.holdWrite_untuned hg _ c _).trans
    ((hset _ (by decide)).trans ((State.lenWrite_untuned hg _ c true v).trans ((State.lenWrite_untuned hg _ c false v).trans (hrate _)))))))

end Sys2Proof.Machine


namespace Sys2Proof.Machine

/-! ### A write through LOOPS (R196) -/

/-- A register of a cascade that is neither its control nor its source. -/
theorem State.casRegWrite_untuned {g : Field} (hg : g.Untuned) (s : State) (c : Nat) {off : Nat} (v : Word) (hctrl : off ≠ 0)
    (hsrc : off ≠ 4) (hhi : off < 0x40) : (s.casRegWrite c off v).untuned g = s.untuned g := by
  have htuned : Field.Tuned ⟨REIN_CAS_CTRL c + off, 0, 32⟩ := by
    refine ⟨?_, fun d _ => ?_, fun d _ => .inl ?_⟩
    · show 0x200000 ≤ 0x201000 + 0x40 * c + off
      omega
    · show 0x201000 + 0x40 * c + off ≠ 0x201004 + 0x40 * d
      omega
    · show 0x201000 + 0x40 * c + off ≠ 0x201000 + 0x40 * d
      omega
  unfold State.casRegWrite
  rw [if_neg hctrl, if_neg hsrc]
  refine untuned_ite_of (s.mapWrite_untuned hg c _) (untuned_ite_of (s.mapWrite_untuned hg c _) ?_)
  split
  next h => exact s.clampWrite_untuned hg c v h
  next => exact (State.showFe_untuned hg _).trans (s.plainWrite_untuned hg v htuned)

/-- A write through LOOPS to a register that is no cascade's control and no cascade's source. -/
theorem State.reinWrite_untuned {g : Field} (hg : g.Untuned) (s : State) {a : Nat} (v : Word) (ha : 0x200000 ≤ a)
    (hctrl : ∀ c < 8, a ≠ REIN_CAS_CTRL c) (hsrc : ∀ c < 8, a ≠ REIN_CAS_SRC c) : (s.reinWrite a v).untuned g = s.untuned g := by
  have hplain : ¬(0x201000 ≤ a ∧ a < 0x201200) → (s.plainWrite a v).untuned g = s.untuned g :=
    fun h => s.plainWrite_untuned hg v (tuned_of_addr 0 32 (by omega))
  unfold State.reinWrite
  refine untuned_ite_of (s.tuneCtrlWrite_untuned hg v) ?_
  split
  next h =>
    have hc : (a - 0x201000) / 0x40 < 8 := by omega
    have hnc : a ≠ 0x201000 + 0x40 * ((a - 0x201000) / 0x40) := hctrl _ hc
    have hns : a ≠ 0x201004 + 0x40 * ((a - 0x201000) / 0x40) := hsrc _ hc
    exact s.casRegWrite_untuned hg _ v (by omega) (by omega) (by omega)
  next h =>
    exact untuned_ite_of (s.coefWrite_untuned hg _ _ _) (untuned_ite_of (s.secStateWrite_untuned hg _ _ _) (hplain h))

theorem State.reinWrite_ctrl (s : State) {c : Nat} (v : Word) (hc : c < 8) : s.reinWrite (REIN_CAS_CTRL c) v = s.casCtrlWrite c v := by
  have hin : 0x201000 ≤ REIN_CAS_CTRL c ∧ REIN_CAS_CTRL c < 0x201200 := by
    unfold REIN_CAS_CTRL
    omega
  have htune : REIN_CAS_CTRL c ≠ REIN_TUNE_CTRL := by
    show REIN_CAS_CTRL c ≠ 0x200080
    omega
  have hcas : (REIN_CAS_CTRL c - 0x201000) / 0x40 = c ∧ (REIN_CAS_CTRL c - 0x201000) % 0x40 = 0 := by
    unfold REIN_CAS_CTRL
    omega
  rw [State.reinWrite, if_neg htune, if_pos hin, hcas.1, hcas.2, State.casRegWrite, if_pos rfl]

theorem State.reinWrite_src (s : State) {c : Nat} (v : Word) (hc : c < 8) : s.reinWrite (REIN_CAS_SRC c) v = s.casSrcWrite c v := by
  have hin : 0x201000 ≤ REIN_CAS_SRC c ∧ REIN_CAS_SRC c < 0x201200 := by
    unfold REIN_CAS_SRC
    omega
  have htune : REIN_CAS_SRC c ≠ REIN_TUNE_CTRL := by
    show REIN_CAS_SRC c ≠ 0x200080
    omega
  have hcas : (REIN_CAS_SRC c - 0x201000) / 0x40 = c ∧ (REIN_CAS_SRC c - 0x201000) % 0x40 = 4 := by
    unfold REIN_CAS_SRC
    omega
  rw [State.reinWrite, if_neg htune, if_pos hin, hcas.1, hcas.2, State.casRegWrite, if_neg (by decide), if_pos rfl]

/-! #### A write of a cascade's source (R185, R186) -/

/-- The fields that an accepted write of REIN_CAS_SRC gives. -/
def State.srcTaken (s : State) (c : Nat) (v : Word) : State :=
  let s := s.set (REIN_CAS_SRC_SP_SRC c) (fieldGet v 4 1)
  let s := if fieldGet v 0 3 = 7 then s else s.set (REIN_CAS_SRC_DEST_SEL c) (fieldGet v 0 3)
  if 12 ≤ fieldGet v 8 4 then s else s.set (REIN_CAS_SRC_MEAS_SEL c) (fieldGet v 8 4)

theorem State.casSrcWrite_eq (s : State) (c : Nat) (v : Word) : s.casSrcWrite c v =
    if s.shelf ≠ stPassive then (if v &&& 0xF17 = s.rd (REIN_CAS_SRC c) then s else s.refuse (REIN_CAS_SRC c) v.toNat)
    else if (fieldGet v 0 3 = 1 ∨ fieldGet v 0 3 = 4) ∧ (List.range 8).any (fun d => d != c && s.casDest d == fieldGet v 0 3) then
      s.refuse (REIN_CAS_SRC c) v.toNat
    else if fieldGet v 0 3 = 7 ∨ 12 ≤ fieldGet v 8 4 then (s.srcTaken c v).refuse (REIN_CAS_SRC c) v.toNat
    else s.srcTaken c v := rfl

/-! #### What LOOPS leaves below Rein's registers -/

/-- A field below Rein's registers, apart from what protection writes. -/
structure Field.Below (g : Field) : Prop where
  aside : g.Aside
  low : g.addr < 0x200000

theorem Field.Below.untuned {g : Field} (hg : g.Below) : g.Untuned := ⟨hg.aside, .inl hg.low⟩

theorem beside_of_untuned {g : Field} {s t : State} (h : t.untuned g = s.untuned g) : t.beside g = s.beside g := congrArg Prod.fst h

section
variable {g : Field} (hg : g.Below)
include hg

theorem State.set_below (s : State) {f : Field} (v : Nat) (hf : 0x200000 ≤ f.addr) : (s.set f v).beside g = s.beside g :=
  beside_eq (s.get_set_apart f g v (.inl (by have := hg.low; omega))) rfl rfl

theorem State.wr_below (s : State) {a : Nat} (v : Word) (ha : 0x200000 ≤ a) : (s.wr a v).beside g = s.beside g :=
  beside_eq (s.get_wr_ne v (by have := hg.low; omega)) rfl rfl

theorem State.casSrcWrite_below (s : State) (c : Nat) (v : Word) : (s.casSrcWrite c v).beside g = s.beside g := by
  have hset : ∀ (u : State) (lo w n : Nat), (u.set ⟨REIN_CAS_SRC c, lo, w⟩ n).beside g = u.beside g :=
    fun u lo w n => u.set_below hg n (by show 0x200000 ≤ 0x201004 + 0x40 * c; omega)
  have hrefuse : ∀ u : State, (u.refuse (REIN_CAS_SRC c) v.toNat).beside g = u.beside g := fun u => u.raise_beside hg.aside _ _ _ _
  have hdest : ∀ u : State, (if fieldGet v 0 3 = 7 then u else u.set (REIN_CAS_SRC_DEST_SEL c) (fieldGet v 0 3)).beside g = u.beside g :=
    fun u => beside_ite_of rfl (hset u 0 3 _)
  have hmeas : ∀ u : State, (if 12 ≤ fieldGet v 8 4 then u else u.set (REIN_CAS_SRC_MEAS_SEL c) (fieldGet v 8 4)).beside g = u.beside g :=
    fun u => beside_ite_of rfl (hset u 8 4 _)
  have htaken : (s.srcTaken c v).beside g = s.beside g := (hmeas _).trans ((hdest _).trans (hset s 4 1 (fieldGet v 4 1)))
  rw [State.casSrcWrite_eq]
  exact beside_ite_of (beside_ite_of rfl (hrefuse s)) (beside_ite_of (hrefuse s)
    (beside_ite_of ((hrefuse _).trans htaken) htaken))

theorem State.autoWrite_below (s : State) (c : Nat) (v : Word) : (s.autoWrite c v).beside g = s.beside g :=
  beside_ite_of rfl (s.set_below hg _ (by show 0x200000 ≤ 0x201000 + 0x40 * c; omega))

/-- A write through LOOPS leaves what lies below Rein's registers. -/
theorem State.reinWrite_below (s : State) {a : Nat} (v : Word) (ha : 0x200000 ≤ a) : (s.reinWrite a v).beside g = s.beside g := by
  by_cases hctrl : ∃ c < 8, a = REIN_CAS_CTRL c
  · obtain ⟨c, hc, rfl⟩ := hctrl
    rw [s.reinWrite_ctrl v hc, beside_of_untuned (s.casCtrlWrite_untuned hg.untuned c v), s.autoWrite_below hg]
  · by_cases hsrc : ∃ c < 8, a = REIN_CAS_SRC c
    · obtain ⟨c, hc, rfl⟩ := hsrc
      rw [s.reinWrite_src v hc, s.casSrcWrite_below hg]
    · push Not at hctrl hsrc
      exact beside_of_untuned (s.reinWrite_untuned hg.untuned v ha hctrl hsrc)

end

theorem any_range_congr {n : Nat} {p q : Nat → Bool} (h : ∀ i < n, p i = q i) : (List.range n).any p = (List.range n).any q := by
  rw [Bool.eq_iff_iff, List.any_eq_true, List.any_eq_true]
  simp only [List.mem_range]
  exact exists_congr fun i => and_congr_right fun hi => by rw [h i hi]

/-! ### The topology check reads the loops' fields alone (R196, R503) -/

/-- The fields that the topology check reads: the shelf state, each cascade's destination and AUTO_START. -/
def LoopField (g : Field) : Prop :=
  g = SYS_SHELF_STATE_STATE ∨ ∃ c < 8, g = REIN_CAS_SRC_DEST_SEL c ∨ g = REIN_CAS_CTRL_AUTO_START c

/-- Two states that agree on them. -/
def LoopsAgree (s t : State) : Prop := ∀ g, LoopField g → s.get g = t.get g

theorem untuned_dest {c : Nat} (hc : c < 8) : (REIN_CAS_SRC_DEST_SEL c).Untuned := by
  refine ⟨⟨?_, fun b hb => .inl ?_⟩, .inr ⟨c, hc, .inl rfl⟩⟩
  · have hpending : 0x500000 ≤ BRD_PENDING := by decide
    show ¬BusyAddr (0x201004 + 0x40 * c)
    omega
  · have hlow : ∀ b ∈ busyFields, b.addr < 0x200000 ∨ 0x500000 ≤ b.addr := by decide
    have := hlow b hb
    show 0x201004 + 0x40 * c ≠ b.addr
    omega

theorem untuned_auto {c : Nat} (hc : c < 8) : (REIN_CAS_CTRL_AUTO_START c).Untuned := by
  refine ⟨⟨?_, fun b hb => .inl ?_⟩, .inr ⟨c, hc, .inr rfl⟩⟩
  · have hpending : 0x500000 ≤ BRD_PENDING := by decide
    show ¬BusyAddr (0x201000 + 0x40 * c)
    omega
  · have hlow : ∀ b ∈ busyFields, b.addr < 0x200000 ∨ 0x500000 ≤ b.addr := by decide
    have := hlow b hb
    show 0x201000 + 0x40 * c ≠ b.addr
    omega

theorem loopsAgree_of_untuned {s t : State} (h : ∀ g : Field, g.Untuned → t.untuned g = s.untuned g) : LoopsAgree t s := by
  rintro g (rfl | ⟨c, hc, rfl | rfl⟩)
  · exact congrArg Prod.snd (h _ (untuned_dest (c := 0) (by decide)))
  · exact get_of_beside (beside_of_untuned (h _ (untuned_dest hc)))
  · exact get_of_beside (beside_of_untuned (h _ (untuned_auto hc)))

namespace LoopsAgree
variable {s t u : State}

theorem symm (h : LoopsAgree s t) : LoopsAgree t s := fun g hg => (h g hg).symm

theorem trans (h : LoopsAgree s t) (h' : LoopsAgree t u) : LoopsAgree s u := fun g hg => (h g hg).trans (h' g hg)

theorem shelf (h : LoopsAgree s t) : s.shelf = t.shelf := h _ (.inl rfl)

theorem casDest (h : LoopsAgree s t) {c : Nat} (hc : c < 8) : s.casDest c = t.casDest c := h _ (.inr ⟨c, hc, .inl rfl⟩)

theorem autoStart (h : LoopsAgree s t) {c : Nat} (hc : c < 8) :
    s.isSet (REIN_CAS_CTRL_AUTO_START c) = t.isSet (REIN_CAS_CTRL_AUTO_START c) :=
  State.isSet_of_get (h _ (.inr ⟨c, hc, .inr rfl⟩))

/-- The same value goes into a field of both. -/
theorem set (h : LoopsAgree s t) {f : Field} (v : Nat) (hf : ∀ g, LoopField g → g = f ∨ f.apart g) (hw : f.lo + f.w ≤ 32) :
    LoopsAgree (s.set f v) (t.set f v) := by
  intro g hg
  rcases hf g hg with rfl | hapart
  · rw [s.get_set_same _ v hw, t.get_set_same _ v hw]
  · rw [s.get_set_apart _ _ v hapart, t.get_set_apart _ _ v hapart, h g hg]

theorem ite (h : LoopsAgree s t) {s' t' : State} (h' : LoopsAgree s' t') (c : Prop) [Decidable c] :
    LoopsAgree (if c then s else s') (if c then t else t') := by
  split <;> assumption

theorem setAuto (h : LoopsAgree s t) (c v : Nat) : LoopsAgree (s.set (REIN_CAS_CTRL_AUTO_START c) v) (t.set (REIN_CAS_CTRL_AUTO_START c) v) := by
  refine h.set v ?_ (by show 1 + 1 ≤ 32; decide)
  rintro g (rfl | ⟨d, -, rfl | rfl⟩)
  · right; left
    show 0x201000 + 0x40 * c ≠ 0x10
    omega
  · right; left
    show 0x201000 + 0x40 * c ≠ 0x201004 + 0x40 * d
    omega
  · by_cases hd : d = c
    · exact .inl (hd ▸ rfl)
    · right; left
      show 0x201000 + 0x40 * c ≠ 0x201000 + 0x40 * d
      omega

/-- A write of a field of a cascade's source: its destination, or a field that the check does not read. -/
theorem setSrc (h : LoopsAgree s t) (c : Nat) {lo w : Nat} (v : Nat) (hf : lo = 0 ∧ w = 3 ∨ 3 ≤ lo ∧ lo + w ≤ 32) :
    LoopsAgree (s.set ⟨REIN_CAS_SRC c, lo, w⟩ v) (t.set ⟨REIN_CAS_SRC c, lo, w⟩ v) := by
  refine h.set v ?_ (by show lo + w ≤ 32; omega)
  rintro g (rfl | ⟨d, -, rfl | rfl⟩)
  · right; left
    show 0x201004 + 0x40 * c ≠ 0x10
    omega
  · rcases hf with ⟨rfl, rfl⟩ | ⟨hlo, -⟩
    · by_cases hd : d = c
      · exact .inl (hd ▸ rfl)
      · right; left
        show 0x201004 + 0x40 * c ≠ 0x201004 + 0x40 * d
        omega
    · exact .inr (.inr (.inr hlo))
  · right; left
    show 0x201004 + 0x40 * c ≠ 0x201000 + 0x40 * d
    omega

theorem autoWrite (h : LoopsAgree s t) {c : Nat} (v : Word) (hc : c < 8) : LoopsAgree (s.autoWrite c v) (t.autoWrite c v) := by
  unfold State.autoWrite
  rw [h.autoStart hc, h.shelf]
  exact h.ite (h.setAuto c _) _

theorem srcTaken (h : LoopsAgree s t) (c : Nat) (v : Word) : LoopsAgree (s.srcTaken c v) (t.srcTaken c v) := by
  have hsp := h.setSrc c (lo := 4) (w := 1) (fieldGet v 4 1) (by decide)
  have hdest := hsp.ite (hsp.setSrc c (lo := 0) (w := 3) (fieldGet v 0 3) (by decide)) (fieldGet v 0 3 = 7)
  exact hdest.ite (hdest.setSrc c (lo := 8) (w := 4) (fieldGet v 8 4) (by decide)) (12 ≤ fieldGet v 8 4)

theorem refuse (s : State) (addr value : Nat) : LoopsAgree (s.refuse addr value) s :=
  loopsAgree_of_untuned fun _ hg => s.refuse_untuned hg addr value

theorem casSrcWrite (h : LoopsAgree s t) (c : Nat) (v : Word) : LoopsAgree (s.casSrcWrite c v) (t.casSrcWrite c v) := by
  have hkept : ∀ (u : State) (p : Prop) [Decidable p], LoopsAgree (if p then u else u.refuse (REIN_CAS_SRC c) v.toNat) u := by
    intro u p _
    split
    · exact fun _ _ => rfl
    · exact refuse u _ _
  have hrefused : ∀ {u w : State}, LoopsAgree u w →
      LoopsAgree (u.refuse (REIN_CAS_SRC c) v.toNat) (w.refuse (REIN_CAS_SRC c) v.toNat) :=
    fun huw => (refuse _ _ _).trans (huw.trans (refuse _ _ _).symm)
  have hdest : (List.range 8).any (fun d => d != c && s.casDest d == fieldGet v 0 3) =
      (List.range 8).any (fun d => d != c && t.casDest d == fieldGet v 0 3) :=
    any_range_congr fun d hd => by rw [h.casDest hd]
  rw [s.casSrcWrite_eq, t.casSrcWrite_eq, h.shelf, hdest]
  split
  · exact (hkept s _).trans (h.trans (hkept t _).symm)
  · exact (hrefused h).ite ((hrefused (h.srcTaken c v)).ite (h.srcTaken c v) _) _

theorem reinWrite (h : LoopsAgree s t) {a : Nat} (v : Word) (ha : 0x200000 ≤ a) : LoopsAgree (s.reinWrite a v) (t.reinWrite a v) := by
  by_cases hctrl : ∃ c < 8, a = REIN_CAS_CTRL c
  · obtain ⟨c, hc, rfl⟩ := hctrl
    have hauto : ∀ u : State, LoopsAgree (u.casCtrlWrite c v) (u.autoWrite c v) :=
      fun u => loopsAgree_of_untuned fun _ hg => u.casCtrlWrite_untuned hg c v
    rw [s.reinWrite_ctrl v hc, t.reinWrite_ctrl v hc]
    exact (hauto s).trans ((h.autoWrite v hc).trans (hauto t).symm)
  · by_cases hsrc : ∃ c < 8, a = REIN_CAS_SRC c
    · obtain ⟨c, hc, rfl⟩ := hsrc
      rw [s.reinWrite_src v hc, t.reinWrite_src v hc]
      exact h.casSrcWrite c v
    · push Not at hctrl hsrc
      have hkept : ∀ u : State, LoopsAgree (u.reinWrite a v) u :=
        fun u => loopsAgree_of_untuned fun _ hg => u.reinWrite_untuned hg v ha hctrl hsrc
      exact (hkept s).trans (h.trans (hkept t).symm)

theorem srcConflict (h : LoopsAgree s t) (a : Nat) (v : Word) : s.srcConflict a v = t.srcConflict a v := by
  have hdest : (List.range 8).any (fun e => e != (a - 0x201000) / 0x40 && s.casDest e == fieldGet v 0 3) =
      (List.range 8).any (fun e => e != (a - 0x201000) / 0x40 && t.casDest e == fieldGet v 0 3) :=
    any_range_congr fun e he => by rw [h.casDest he]
  unfold State.srcConflict
  dsimp only
  rw [hdest]

end LoopsAgree

/-- One entry of LOOPS in the topology check: the state after it, and whether nothing was refused so far. -/
def loopStep (p : State × Bool) (e : Nat × Word) : State × Bool :=
  if p.1.srcConflict e.1 e.2 then (p.1, false) else (p.1.reinWrite e.1 e.2, p.2)

theorem loopSteps_agree {s t : State} (h : LoopsAgree s t) (b : Bool) {l : List (Nat × Word)} (hl : ∀ e ∈ l, 0x200000 ≤ e.1) :
    LoopsAgree (l.foldl loopStep (s, b)).1 (l.foldl loopStep (t, b)).1 ∧ (l.foldl loopStep (s, b)).2 = (l.foldl loopStep (t, b)).2 := by
  induction l generalizing s t b with
  | nil => exact ⟨h, rfl⟩
  | cons e l ih =>
    have htail : ∀ x ∈ l, 0x200000 ≤ x.1 := fun x hx => hl x (List.mem_cons_of_mem e hx)
    rw [List.foldl_cons, List.foldl_cons, loopStep, loopStep, h.srcConflict]
    split
    · exact ih h false htail
    · exact ih (h.reinWrite e.2 (hl e List.mem_cons_self)) b htail

theorem le_of_mem_loopEntries {l : List Byte} {e : Nat × Word} (h : e ∈ loopEntries l) : 0x200000 ≤ e.1 := by
  obtain ⟨i, -, rfl⟩ := List.mem_map.1 h
  exact Nat.le_add_right _ _

theorem State.loopsTopo_eq (s : State) (l : List Byte) : s.loopsTopo l =
    (((loopEntries l).foldl loopStep (s, true)).2 &&
      (List.range 8).any (fun c => ((loopEntries l).foldl loopStep (s, true)).1.casDest c == 1 &&
        ((loopEntries l).foldl loopStep (s, true)).1.isSet (REIN_CAS_CTRL_AUTO_START c)) &&
      (List.range 8).any fun c => ((loopEntries l).foldl loopStep (s, true)).1.casDest c == 4) := rfl

namespace LoopsAgree
variable {s t : State}

theorem loopsTopo (h : LoopsAgree s t) (l : List Byte) : s.loopsTopo l = t.loopsTopo l := by
  obtain ⟨hagree, hok⟩ := loopSteps_agree h true fun _ => le_of_mem_loopEntries (l := l)
  rw [s.loopsTopo_eq, t.loopsTopo_eq, hok]
  congr 1
  · congr 1
    exact any_range_congr fun c hc => by rw [hagree.casDest hc, hagree.autoStart hc]
  · exact any_range_congr fun c hc => by rw [hagree.casDest hc]

/-- The checks of R77 read the loops' fields and the fuses alone. -/
theorem checkProfile (h : LoopsAgree s t) (hotp : s.otp = t.otp) (sfdp : Bool) (kib : Nat) (b : List Byte) :
    s.checkProfile sfdp kib b = t.checkProfile sfdp kib b := by
  have hsig : ∀ n, s.sigBad b n = t.sigBad b n := fun n => by
    unfold State.sigBad
    rw [hotp]
  have htopo : ∀ l, s.topoBad l = t.topoBad l := fun l => by
    unfold State.topoBad
    dsimp only
    rw [h.loopsTopo]
  unfold State.checkProfile
  simp only [hsig, htopo, hotp]

end LoopsAgree

end Sys2Proof.Machine


namespace Sys2Proof.Machine

/-! ### A bundle's states (R84 to R91) -/

theorem State.rdN_eq_get (s : State) (a : Nat) : s.rdN a = s.get ⟨a, 0, 32⟩ := by
  show (s.rd a).toNat = fieldGet (s.rd a) 0 32
  rw [fieldGet_eq, Nat.pow_zero, Nat.div_one, Nat.mod_eq_of_lt (s.rd a).isLt]

theorem State.get_showAck (s : State) {g : Field} (h : SPUR_STATUS ≠ g.addr) : s.showAck.get g = s.get g := s.get_set_apart _ g _ (.inl h)

theorem State.get_showWait (s : State) {g : Field} (h : BOOT_STATUS_WAIT_HOST.apart g) : s.showWait.get g = s.get g :=
  s.get_set_apart _ g _ h

theorem State.get_bundleTo_same (s : State) {k : Nat} (hk : k < 16) : (s.bundleTo k).get BOOT_STATUS_BUNDLE = k := by
  have hput : ((s.set BOOT_STATUS_BUNDLE k).showWait).get BOOT_STATUS_BUNDLE = k := by
    rw [State.get_showWait _ (.inr (.inl (by decide))), s.get_set_same _ k (by decide)]
    exact Nat.mod_eq_of_lt hk
  unfold State.bundleTo
  dsimp only
  split
  · exact (State.get_raiseBit_apart _ _ _ _ (.inl (by decide))).trans hput
  · exact hput

theorem State.get_bundleTo (s : State) (k : Nat) {g : Field} (hbundle : BOOT_STATUS_BUNDLE.apart g) (hwait : BOOT_STATUS_WAIT_HOST.apart g)
    (hdone : SYS_EVT_BUNDLE_DONE.apart g) : (s.bundleTo k).get g = s.get g := by
  have hput : ((s.set BOOT_STATUS_BUNDLE k).showWait).get g = s.get g :=
    (State.get_showWait _ hwait).trans (s.get_set_apart _ g k hbundle)
  unfold State.bundleTo
  dsimp only
  split
  · exact (State.get_raiseBit_apart _ _ _ _ hdone).trans hput
  · exact hput

theorem State.bundleTo_boot (s : State) (k : Nat) : (s.bundleTo k).boot = s.boot := by
  unfold State.bundleTo
  dsimp only
  split
  · exact State.raiseBit_boot _ _ _
  · rfl

/-- LOADED and REJECTED raise the boot-complete event. -/
theorem State.bundleTo_done (s : State) {k : Nat} (hk : k = 4 ∨ k = 5) : (s.bundleTo k).isSet SYS_EVT_BUNDLE_DONE = true := by
  rw [State.bundleTo, if_pos hk]
  exact State.isSet_raiseBit _ _ _ (by decide) (by decide)

/-- What a rejection shows: REJECTED, its ERR_CODE and BOOT_ERR_INFO, and the module's own copy gone. -/
theorem State.reject_shows (s : State) {code : Nat} (info : Nat) :
    (s.reject code info).get BOOT_STATUS_BUNDLE = 5 ∧ (s.reject code info).get BOOT_STATUS_ERR_CODE = code % 256 ∧
      (s.reject code info).rdN BOOT_ERR_INFO = info % 2 ^ 32 ∧ (s.reject code info).boot = { s.boot with staged := [] } ∧
      (s.reject code info).isSet SYS_EVT_BUNDLE_DONE = true := by
  unfold State.reject
  refine ⟨?_, ?_, ?_, ?_, ?_⟩
  · rw [State.get_showAck _ (by decide), State.get_bundleTo_same _ (by decide)]
  · rw [State.get_showAck _ (by decide),
      State.get_bundleTo _ _ (.inr (.inl (by decide))) (.inr (.inl (by decide))) (.inl (by decide))]
    exact (State.get_wr_ne _ _ (by decide)).trans (State.get_set_same _ _ _ (by decide))
  · rw [State.rdN_eq_get, State.get_showAck _ (by decide),
      State.get_bundleTo _ _ (.inl (by decide)) (.inl (by decide)) (.inl (by decide)), ← State.rdN_eq_get]
    exact State.rdN_wrN_same _ _ _
  · exact State.bundleTo_boot _ 5
  · rw [State.isSet_of_get (State.get_showAck _ (by decide))]
    exact State.bundleTo_done _ (.inr rfl)

theorem State.get_reject (s : State) (code info : Nat) {g : Field} (hboot : BOOT_STATUS ≠ g.addr) (hinfo : BOOT_ERR_INFO ≠ g.addr)
    (hdone : SYS_EVT_BUNDLE_DONE.apart g) (hack : SPUR_STATUS ≠ g.addr) : (s.reject code info).get g = s.get g := by
  unfold State.reject
  rw [State.get_showAck _ hack, State.get_bundleTo _ _ (.inl hboot) (.inl hboot) hdone, State.get_bootErr _ _ _ hboot.symm hinfo.symm]
  rfl

/-! #### LOAD (R84, R85, R88) -/

theorem exec_load (s : State) (hp : s.pins.powered = true) : exec .load s = .next s.load := by
  have hexec : exec .load s = execLoad s := rfl
  rw [hexec]
  exact State.on_powered _ hp

/-- The loaded set without its registers goes (R84). -/
def State.setDropped (s : State) : State :=
  { s with
    boot := { s.boot with images := [], manifestDigest := [], staged := [], fwRuns := false, armedOnce := false },
    brd := { s.brd with fwRestart := false }, fcst := { s.fcst with model := false } }

theorem State.discardSet_eq (s : State) :
    s.discardSet = (((s.setDropped.set SEC_SVN_LOADED_SVN 0xFF).set BRD_STATUS_WDT_RUN 0).showAck).pumpsFull := rfl

theorem State.setDropped_get (s : State) (g : Field) : s.setDropped.get g = s.get g := rfl

/-- An accepted LOAD discards the loaded set first (R84). -/
def State.unloaded (s : State) : State := s.bootErrClear.discardSet

theorem State.get_unloaded (s : State) {g : Field} (hboot : g.addr ≠ BOOT_STATUS) (hinfo : g.addr ≠ BOOT_ERR_INFO)
    (hsvn : SEC_SVN ≠ g.addr) (hrun : BRD_STATUS ≠ g.addr) (hack : SPUR_STATUS ≠ g.addr) : s.unloaded.get g = s.get g := by
  rw [State.unloaded, State.discardSet_eq, State.pumpsFull_get, State.get_showAck _ hack, State.get_set_apart _ _ g 0 (.inl hrun),
    State.get_set_apart _ _ g 0xFF (.inl hsvn), State.setDropped_get]
  exact s.get_bootErr 0 _ hboot hinfo

theorem State.unloaded_svn (s : State) : s.unloaded.get SEC_SVN_LOADED_SVN = 0xFF := by
  rw [State.unloaded, State.discardSet_eq, State.pumpsFull_get, State.get_showAck _ (by decide),
    State.get_set_apart _ _ _ 0 (.inl (by decide)), State.get_set_same _ _ _ (by decide)]
  decide

theorem State.setDropped_boot (s : State) : s.setDropped.boot.fwRuns = false ∧ s.setDropped.boot.images = [] := ⟨rfl, rfl⟩

theorem State.discardSet_keeps (s : State) : s.discardSet.boot = s.setDropped.boot ∧ s.discardSet.out = s.out := ⟨rfl, rfl⟩

theorem State.unloaded_boot (s : State) : s.unloaded.boot.fwRuns = false ∧ s.unloaded.boot.images = [] := by
  rw [State.unloaded, s.bootErrClear.discardSet_keeps.1]
  exact s.bootErrClear.setDropped_boot

theorem State.unloaded_out (s : State) : s.unloaded.out = s.out := s.bootErrClear.discardSet_keeps.2

theorem State.rdN_unloaded (s : State) {a : Nat} (hboot : a ≠ BOOT_STATUS) (hinfo : a ≠ BOOT_ERR_INFO) (hsvn : SEC_SVN ≠ a)
    (hrun : BRD_STATUS ≠ a) (hack : SPUR_STATUS ≠ a) : s.unloaded.rdN a = s.rdN a := by
  rw [State.rdN_eq_get, State.rdN_eq_get, s.get_unloaded hboot hinfo hsvn hrun hack]

theorem State.unloaded_len (s : State) : s.unloaded.rdN BOOT_SRC_LEN = s.rdN BOOT_SRC_LEN :=
  s.rdN_unloaded (by decide) (by decide) (by decide) (by decide) (by decide)

theorem State.unloaded_srcAddr (s : State) : s.unloaded.srcAddr = s.srcAddr := by
  unfold State.srcAddr State.rd64
  rw [s.rdN_unloaded (by decide) (by decide) (by decide) (by decide) (by decide),
    s.rdN_unloaded (by decide) (by decide) (by decide) (by decide) (by decide)]

/-- PLL-MEM starts for the staging region (R115). -/
def State.stagingOn (s : State) : State := State.latchWake { s with clk := { s.clk with pllMem := true } } 0x100

theorem State.stagingOn_get (s : State) (g : Field) : s.stagingOn.get g = s.get g := rfl

theorem State.stagingOn_keeps (s : State) : s.stagingOn.boot = s.boot ∧ s.stagingOn.out = s.out ∧ s.stagingOn.srcAddr = s.srcAddr :=
  ⟨rfl, rfl, rfl⟩

theorem State.bundleTo_out (s : State) {k : Nat} (hk : ¬(k = 4 ∨ k = 5)) : (s.bundleTo k).out = s.out := by
  rw [State.bundleTo, if_neg hk]
  rfl

theorem State.showAck_boot (s : State) : s.showAck.boot = s.boot := rfl

theorem State.showAck_out (s : State) : s.showAck.out = s.out := rfl

/-- The fetch begins: the host is asked for n bytes (R89). -/
def State.fetching (s : State) (n : Nat) : State := ((s.stagingOn.bundleTo 1).emit (.hostRead s.stagingOn.srcAddr n)).showAck

theorem State.load_eq (s : State) : s.load =
    if s.shelf ≠ stPassive then s.bootRefuse 0x32 s.shelf 1
    else if s.get BOOT_STATUS_BUNDLE = 1 ∨ s.get BOOT_STATUS_BUNDLE = 2 ∨ s.get BOOT_STATUS_BUNDLE = 3 then
      s.bootRefuse 0x33 (s.get BOOT_STATUS_BUNDLE) 1
    else if s.rdN BOOT_SRC_ADDR_LO % 4096 ≠ 0 then s.bootRefuse 0x1A (s.rdN BOOT_SRC_ADDR_LO % 4096) 1
    else if s.camm 0 = 0 then s.bootRefuse 0x19 0 1
    else if s.unloaded.rdN BOOT_SRC_LEN < 8192 ∨ 268435456 < s.unloaded.rdN BOOT_SRC_LEN then s.unloaded.reject 0x10 0
    else s.unloaded.fetching (s.unloaded.rdN BOOT_SRC_LEN) := rfl

theorem State.fetching_shows (s : State) (n : Nat) : (s.fetching n).get BOOT_STATUS_BUNDLE = 1 ∧
    (s.fetching n).get SEC_SVN_LOADED_SVN = s.get SEC_SVN_LOADED_SVN ∧ (s.fetching n).boot = s.boot ∧
    (s.fetching n).out = Out.hostRead s.srcAddr n :: s.out := by
  obtain ⟨hboot, hout, haddr⟩ := s.stagingOn_keeps
  unfold State.fetching
  refine ⟨?_, ?_, ?_, ?_⟩
  · rw [State.get_showAck _ (by decide), State.emit_get, State.get_bundleTo_same _ (by decide)]
  · rw [State.get_showAck _ (by decide), State.emit_get,
      State.get_bundleTo _ _ (.inl (by decide)) (.inl (by decide)) (.inl (by decide)), State.stagingOn_get]
  · rw [State.showAck_boot, State.emit_boot, State.bundleTo_boot, hboot]
  · rw [State.showAck_out, State.emit, State.bundleTo_out _ (by decide), hout, haddr]

/-! #### The fetch and the verification (R83, R87) -/

theorem exec_fetchCompletionError (s : State) (info : Fin 65536) (hp : s.pins.powered = true) : exec (.fetchCompletionError info) s =
    if s.get BOOT_STATUS_BUNDLE = 1 then .next (s.reject 0x11 info.val) else .next s := by
  have hexec : exec (.fetchCompletionError info) s = execFetchCompletionError info s := rfl
  rw [hexec]
  exact State.on_powered _ hp

/-- The module's own copy of the bundle, n bytes. -/
def State.copied (s : State) (l : List Byte) : State := { s with boot := { s.boot with staged := l } }

theorem exec_bundleFetchComplete (s : State) (bytes : List Byte) (hp : s.pins.powered = true) : exec (.bundleFetchComplete bytes) s =
    if s.get BOOT_STATUS_BUNDLE = 1 then .next ((s.copied (padTo (s.rdN BOOT_SRC_LEN) bytes)).bundleTo 2) else .next s := by
  have hexec : exec (.bundleFetchComplete bytes) s = execBundleFetchComplete bytes s := rfl
  rw [hexec]
  exact State.on_powered _ hp

theorem exec_bundleVerifyComplete (s : State) (hp : s.pins.powered = true) : exec .bundleVerifyComplete s =
    if s.get BOOT_STATUS_BUNDLE ≠ 2 then .next s
    else .next (((s.bundleBad s.boot.staged).map fun e => s.reject e.1 e.2).getD (s.bundleTo 3)) := by
  have hexec : exec .bundleVerifyComplete s = execBundleVerifyComplete s := rfl
  rw [hexec]
  unfold execBundleVerifyComplete
  rw [State.on_powered _ hp]
  cases s.bundleBad s.boot.staged <;> rfl

/-- What a verification shows: a good bundle goes on to its images, a bad one is rejected with the failed check's code. -/
theorem bundleVerifyComplete_shows {s : State} (hp : s.pins.powered = true) (h : s.get BOOT_STATUS_BUNDLE = 2) :
    ∃ t, exec .bundleVerifyComplete s = .next t ∧ t.get BOOT_STATUS_BUNDLE = (if s.bundleBad s.boot.staged = none then 3 else 5) ∧
      ∀ e ∈ s.bundleBad s.boot.staged, t.get BOOT_STATUS_ERR_CODE = e.1 % 256 ∧ t.rdN BOOT_ERR_INFO = e.2 % 2 ^ 32 ∧
        t.boot.staged = [] ∧ t.isSet SYS_EVT_BUNDLE_DONE = true := by
  rw [exec_bundleVerifyComplete s hp, if_neg (not_not_intro h)]
  cases hbad : s.bundleBad s.boot.staged with
  | none => exact ⟨s.bundleTo 3, rfl, s.get_bundleTo_same (by decide), fun _ he => by simp at he⟩
  | some e =>
    obtain ⟨hbundle, hcode, hinfo, hboot, hdone⟩ := s.reject_shows e.2 (code := e.1)
    refine ⟨s.reject e.1 e.2, rfl, hbundle, fun x hx => ?_⟩
    obtain rfl : e = x := Option.some.inj hx
    exact ⟨hcode, hinfo, by rw [hboot], hdone⟩

end Sys2Proof.Machine


namespace Sys2Proof.Machine

theorem forN_keeps {α : Type} (r : State → α) {n : Nat} {f : Nat → State → State} (s : State) (hf : ∀ i t, r (f i t) = r t) :
    r (forN n f s) = r s := by
  unfold forN
  induction List.range n generalizing s with
  | nil => rfl
  | cons i l ih => exact (ih _).trans (hf i s)

/-! ### The first read of the profile (R37, R59, R77, R80) -/

/-- The device is reset, and its SFDP is read (R59, R60). -/
def State.profileOpened (s : State) : State := ((s.spi 0x66 0 0 0).spi 0x99 0 0 0).spi 0x5A 3 0 256

/-- The status read that SFDP names (R60). -/
def State.quadRead (s : State) (d : Sfdp) : State :=
  match d.quadEnable with
  | some q => s.spi q.1.val 0 0 1
  | none => s

theorem State.profileRead_eq (s : State) (d : Sfdp) (b : List Byte) : s.profileRead d b =
    if !d.ok then s.profileOpened
    else if headerOk b d.kib then
      ((s.profileOpened.quadRead d).spi (sfdpReader d).1 (sfdpReader d).2 0 0x40).spi (sfdpReader d).1 (sfdpReader d).2 0x40
        (profileLen b - 0x40)
    else (s.profileOpened.quadRead d).spi (sfdpReader d).1 (sfdpReader d).2 0 0x40 := rfl

/-- The state without what it has sent. -/
def State.unsent (s : State) : State := { s with out := [] }

theorem State.spi_unsent (s : State) (i n a k : Nat) : (s.spi i n a k).unsent = s.unsent := rfl

theorem State.spi_out (s : State) (i n a k : Nat) : s.out <:+ (s.spi i n a k).out := List.suffix_cons _ _

theorem State.quadRead_unsent (s : State) (d : Sfdp) : (s.quadRead d).unsent = s.unsent := by
  unfold State.quadRead
  split <;> rfl

theorem State.quadRead_out (s : State) (d : Sfdp) : s.out <:+ (s.quadRead d).out := by
  unfold State.quadRead
  split
  · exact s.spi_out _ _ _ _
  · exact List.suffix_rfl

/-- A read of the profile only sends. -/
theorem State.profileRead_unsent (s : State) (d : Sfdp) (b : List Byte) : (s.profileRead d b).unsent = s.unsent := by
  have hopened : s.profileOpened.unsent = s.unsent := rfl
  rw [s.profileRead_eq]
  split
  · exact hopened
  · split <;> simp only [State.spi_unsent, State.quadRead_unsent, hopened]

theorem State.profileRead_out (s : State) (d : Sfdp) (b : List Byte) :
    [Out.spi 0x5A 3 0 256, Out.spi 0x99 0 0 0, Out.spi 0x66 0 0 0] ++ s.out <:+ (s.profileRead d b).out := by
  have hread := (State.quadRead_out s.profileOpened d).trans (State.spi_out _ (sfdpReader d).1 (sfdpReader d).2 0 0x40)
  rw [s.profileRead_eq]
  split
  · exact List.suffix_rfl
  · split
    · exact hread.trans (State.spi_out _ _ _ _ _)
    · exact hread

/-- What the state holds but for what it has sent. -/
theorem same_of_unsent {s t : State} {α : Type} (h : t.unsent = s.unsent) (f : State → α) (hf : ∀ u : State, f u.unsent = f u) :
    f t = f s := by
  rw [← hf t, h, hf]

theorem State.profileRead_get (s : State) (d : Sfdp) (b : List Byte) (g : Field) : (s.profileRead d b).get g = s.get g :=
  same_of_unsent (s.profileRead_unsent d b) (fun u => u.get g) fun _ => rfl

theorem State.profileRead_keeps (s : State) (d : Sfdp) (b : List Byte) :
    (s.profileRead d b).otp = s.otp ∧ (s.profileRead d b).pins = s.pins :=
  ⟨same_of_unsent (s.profileRead_unsent d b) State.otp fun _ => rfl, same_of_unsent (s.profileRead_unsent d b) State.pins fun _ => rfl⟩

theorem State.profileRead_checks (s : State) (d : Sfdp) (b : List Byte) :
    (s.profileRead d b).checkProfile d.ok d.kib b = s.checkProfile d.ok d.kib b :=
  LoopsAgree.checkProfile (fun g _ => s.profileRead_get d b g) (s.profileRead_keeps d b).1 _ _ _

/-- The digest shows (R512), and the SPI bus is released. -/
def State.digestShown (s : State) (f : Found) : State :=
  (forN 16 (fun i t => t.wrN (BOOT_PROFILE_DIGEST i) (leAt f.digest (4 * i) 4)) s).conn 23 false

/-- A checked profile shows: its error, or its records. -/
def State.foundShown (s : State) (f : Found) : State :=
  match f.err with
  | some (c, i) => (s.set BOOT_STATUS_PROFILE 3).bootErr c i
  | none =>
    (((State.set { s with boot := { s.boot with profile := f.recs, skipped := f.skipped } } BOOT_STATUS_PROFILE
      (if f.signed then 1 else 2)).bootErrClear).showFabric)

/-- Link training starts with PERST_N high (R37). -/
def State.training (s : State) : State := if s.pins.perst then s else { s with pcie := { s.pcie with link := .training } }

/-- The state after the read, with the digest of what was found. -/
def State.profileDigested (s : State) (d : Sfdp) (b : List Byte) : State :=
  (s.profileRead d b).digestShown (s.checkProfile d.ok d.kib b)

/-- The state that the first read leaves. -/
def State.profileFound (s : State) (d : Sfdp) (b : List Byte) : State :=
  ((s.profileDigested d b).foundShown (s.checkProfile d.ok d.kib b)).training

theorem exec_profileReadComplete (s : State) (d : Sfdp) (b : List Byte) (hp : s.pins.powered = true) :
    exec (.profileReadComplete d b) s = if s.get BOOT_STATUS_PROFILE ≠ 0 then .next s
      else .next (s.profileFound d b) := by
  have hexec : exec (.profileReadComplete d b) s = execProfileReadComplete d b s := rfl
  rw [hexec, State.profileFound, State.profileDigested, ← s.profileRead_checks d b]
  exact State.on_powered _ hp

theorem State.digestShown_out (s : State) (f : Found) : s.out <:+ (s.digestShown f).out := by
  have hdigest : (forN 16 (fun i t => t.wrN (BOOT_PROFILE_DIGEST i) (leAt f.digest (4 * i) 4)) s).out = s.out :=
    forN_out s fun _ _ => rfl
  rw [← hdigest]
  exact (State.conn_kept (bm := false) (bt := false) 23 false (Kept.refl _)).out

theorem State.digestShown_pins (s : State) (f : Found) : (s.digestShown f).pins = s.pins := by
  have hdigest : (forN 16 (fun i t => t.wrN (BOOT_PROFILE_DIGEST i) (leAt f.digest (4 * i) 4)) s).pins = s.pins :=
    forN_keeps State.pins s fun _ _ => rfl
  exact (State.conn_keeps _ 23 false).1.trans hdigest

theorem State.training_keeps (s : State) : s.training.out = s.out ∧ s.training.boot = s.boot := by
  unfold State.training
  split <;> exact ⟨rfl, rfl⟩

theorem State.training_get (s : State) (g : Field) : s.training.get g = s.get g := by
  unfold State.training
  split <;> rfl

theorem State.training_link (s : State) (h : s.pins.perst = false) : s.training.pcie.link = .training := by
  rw [State.training, if_neg (by simp [h])]

/-! #### What a checked profile shows -/

theorem State.showFabric_keeps (s : State) :
    s.showFabric.out = s.out ∧ s.showFabric.pins.perst = s.pins.perst ∧ s.showFabric.boot = s.boot := ⟨rfl, rfl, rfl⟩

theorem State.get_showFabric (s : State) {g : Field} (h : g.addr < 0x400000) : s.showFabric.get g = s.get g := by
  have hset : ∀ (t : State) (f : Field) (v : Nat), 0x400000 ≤ f.addr → (t.set f v).get g = t.get g :=
    fun t f v hf => t.get_set_apart f g v (.inl (by omega))
  have hfec : ∀ p, 0x400000 ≤ (FAB_PATH_FEC p).addr := fun p => by
    show 0x400000 ≤ FAB_PATH p
    unfold FAB_PATH
    omega
  have htx : ∀ t : State, t.showTx.get g = t.get g := fun _ => rfl
  unfold State.showFabric
  simp only [htx, State.setB_eq]
  rw [hset _ _ _ (by decide), hset _ _ _ (by decide), hset _ _ _ (hfec 1), hset _ _ _ (hfec 0), hset _ _ _ (by decide),
    hset _ _ _ (by decide), hset _ _ _ (by decide)]

/-- The records of a good profile are kept, and it shows whether it is signed. -/
def State.recordsKept (s : State) (f : Found) : State :=
  State.set { s with boot := { s.boot with profile := f.recs, skipped := f.skipped } } BOOT_STATUS_PROFILE (if f.signed then 1 else 2)

theorem State.foundShown_of_none (s : State) {f : Found} (h : f.err = none) :
    s.foundShown f = (s.recordsKept f).bootErrClear.showFabric := by
  unfold State.foundShown
  rw [h]
  rfl

theorem State.foundShown_of_some (s : State) {f : Found} {e : Nat × Nat} (h : f.err = some e) :
    s.foundShown f = (s.set BOOT_STATUS_PROFILE 3).bootErr e.1 e.2 := by
  unfold State.foundShown
  rw [h]

theorem State.bootErr_keeps (s : State) (code info : Nat) : (s.bootErr code info).out = s.out ∧ (s.bootErr code info).pins = s.pins ∧
    (s.bootErr code info).boot = s.boot := ⟨rfl, rfl, rfl⟩

theorem State.foundShown_keeps (s : State) (f : Found) :
    (s.foundShown f).out = s.out ∧ (s.foundShown f).pins.perst = s.pins.perst := by
  cases h : f.err with
  | none =>
    obtain ⟨hout, hperst, -⟩ := (s.recordsKept f).bootErrClear.showFabric_keeps
    obtain ⟨hout', hpins, -⟩ := (s.recordsKept f).bootErr_keeps 0 (s.recordsKept f).boot.skipped
    rw [s.foundShown_of_none h]
    exact ⟨hout.trans hout', hperst.trans (congrArg Pins.perst hpins)⟩
  | some e =>
    obtain ⟨hout, hpins, -⟩ := (s.set BOOT_STATUS_PROFILE 3).bootErr_keeps e.1 e.2
    rw [s.foundShown_of_some h]
    exact ⟨hout, congrArg Pins.perst hpins⟩

theorem State.foundShown_good (s : State) {f : Found} (h : f.err = none) :
    (s.foundShown f).boot.profile = f.recs ∧ (s.foundShown f).get BOOT_STATUS_PROFILE = if f.signed then 1 else 2 := by
  rw [s.foundShown_of_none h]
  obtain ⟨-, -, hboot⟩ := (s.recordsKept f).bootErrClear.showFabric_keeps
  obtain ⟨-, -, hboot'⟩ := (s.recordsKept f).bootErr_keeps 0 (s.recordsKept f).boot.skipped
  have herr : (s.recordsKept f).bootErrClear.get BOOT_STATUS_PROFILE = (s.recordsKept f).get BOOT_STATUS_PROFILE :=
    (State.get_wr_ne _ _ (by decide)).trans (State.get_set_apart _ _ _ _ (.inr (.inr (by decide))))
  refine ⟨?_, ?_⟩
  · rw [hboot.trans hboot']
    rfl
  · rw [State.get_showFabric _ (by decide), herr, State.recordsKept, State.get_set_same _ _ _ (by decide)]
    split <;> rfl

theorem State.foundShown_bad (s : State) {f : Found} {e : Nat × Nat} (h : f.err = some e) :
    (s.foundShown f).get BOOT_STATUS_PROFILE = 3 ∧ (s.foundShown f).get BOOT_STATUS_ERR_CODE = e.1 % 256 ∧
      (s.foundShown f).rdN BOOT_ERR_INFO = e.2 % 2 ^ 32 := by
  rw [s.foundShown_of_some h]
  refine ⟨?_, ?_, State.rdN_wrN_same _ _ _⟩
  · exact (State.get_wr_ne _ _ (by decide)).trans ((State.get_set_apart _ _ _ _ (.inr (.inr (by decide)))).trans
      (s.get_set_same _ 3 (by decide)))
  · exact (State.get_wr_ne _ _ (by decide)).trans (State.get_set_same _ _ _ (by decide))

/-- A good profile is signed where the operator key is in use (R77, R80). -/
theorem State.checkProfile_signed (s : State) (sfdp : Bool) (kib : Nat) (b : List Byte) (h : (s.checkProfile sfdp kib b).err = none) :
    (s.checkProfile sfdp kib b).signed = s.otp.opkeyEn := by
  revert h
  unfold State.checkProfile
  dsimp only
  repeat' split
  all_goals simp

/-- What the first read shows. -/
theorem profileReadComplete_shows {s : State} (hp : s.pins.powered = true) (d : Sfdp) (b : List Byte)
    (h : s.get BOOT_STATUS_PROFILE = 0) : ∃ t, exec (.profileReadComplete d b) s = .next t ∧
      [Out.spi 0x5A 3 0 256, Out.spi 0x99 0 0 0, Out.spi 0x66 0 0 0] ++ s.out <:+ t.out ∧
      (s.pins.perst = false → t.pcie.link = Link.training) ∧
      ((s.checkProfile d.ok d.kib b).err = none → t.boot.profile = (s.checkProfile d.ok d.kib b).recs ∧
        t.get BOOT_STATUS_PROFILE = (if s.otp.opkeyEn then 1 else 2)) ∧
      ∀ e ∈ (s.checkProfile d.ok d.kib b).err, t.get BOOT_STATUS_PROFILE = 3 ∧ t.get BOOT_STATUS_ERR_CODE = e.1 % 256 ∧
        t.rdN BOOT_ERR_INFO = e.2 % 2 ^ 32 := by
  obtain ⟨hout, hperst⟩ := (s.profileDigested d b).foundShown_keeps (s.checkProfile d.ok d.kib b)
  obtain ⟨htout, htboot⟩ := ((s.profileDigested d b).foundShown (s.checkProfile d.ok d.kib b)).training_keeps
  refine ⟨s.profileFound d b, ?_, ?_, fun hhigh => ?_, fun hgood => ?_, fun e he => ?_⟩
  · rw [exec_profileReadComplete s d b hp, if_neg (not_not_intro h)]
  · rw [State.profileFound, htout, hout]
    exact (s.profileRead_out d b).trans (State.digestShown_out _ _)
  · refine State.training_link _ ?_
    rw [hperst, State.profileDigested, State.digestShown_pins, (s.profileRead_keeps d b).2, hhigh]
  · obtain ⟨hrecs, hshown⟩ := (s.profileDigested d b).foundShown_good hgood
    rw [State.profileFound, htboot, hrecs, State.training_get, hshown, s.checkProfile_signed _ _ _ hgood]
    exact ⟨rfl, rfl⟩
  · obtain ⟨hshown, hcode, hinfo⟩ := (s.profileDigested d b).foundShown_bad he
    rw [State.rdN_eq_get] at hinfo ⊢
    rw [State.profileFound, State.training_get, State.training_get, State.training_get]
    exact ⟨hshown, hcode, hinfo⟩

end Sys2Proof.Machine


namespace Sys2Proof.Machine

/-! ### LOADED (R84, R87, R510) -/

section
variable {g : Field}

theorem foldl_beside {α : Type} {l : List α} {f : State → α → State} (s : State) (hf : ∀ x ∈ l, ∀ t, (f t x).beside g = t.beside g) :
    (l.foldl f s).beside g = s.beside g := forL_beside (f := fun x t => f t x) s hf

variable (hg : g.Below)
include hg

/-! #### The profile's values (R196, R285, R449, R461, R504, R510) -/

theorem State.triggersPut_below (s : State) (l : List Byte) : (s.triggersPut l).beside g = s.beside g := by
  have hcfg : ∀ (t : State) (v : Nat), (t.wrN (SBG_LIST_CFG (leAt l 0 1)) v).beside g = t.beside g :=
    fun t v => t.wr_below hg _ (by unfold SBG_LIST_CFG; omega)
  have hcode : ∀ (t : State) (v : Nat), (t.wrN (SBG_LIST_CODE (leAt l 0 1)) v).beside g = t.beside g :=
    fun t v => t.wr_below hg _ (by unfold SBG_LIST_CODE; omega)
  have haddr : ∀ (k : Nat) (t : State) (v : Nat), (t.wrN (SBG_LIST_ADDR (leAt l 0 1) k) v).beside g = t.beside g :=
    fun k t v => t.wr_below hg _ (by unfold SBG_LIST_ADDR; omega)
  exact (forN_beside _ fun k _ t => haddr k t _).trans ((hcode _ _).trans (hcfg _ _))

theorem State.mezRoles_below (s : State) (fitted : Nat) : (s.mezRoles fitted).beside g = s.beside g := by
  have hrole : ∀ n < 104, ∀ t : State, (if bitOf fitted (chanMez n) then t else t.set (HRN_CH_CTRL_ROLE n) 0).beside g = t.beside g :=
    fun n hn t => beside_ite_of rfl (t.set_beside hg.aside 0 (.inl (by show BusyAddr (0x100000 + 0x100 * n); omega)))
  exact forN_beside s hrole

/-- The register values that the profile sets lie above. -/
theorem State.applyProfile_below (s : State) : s.applyProfile.beside g = s.beside g := by
  have hloops : ∀ (l : List Byte) (t : State),
      ((loopEntries l).foldl (fun (t : State) (e : Nat × Word) => t.reinWrite e.1 e.2) t).beside g = t.beside g :=
    fun l t => foldl_beside t fun e he u => u.reinWrite_below hg e.2 (le_of_mem_loopEntries he)
  have htriggers : ∀ (l : List (Nat × List Byte)) (t : State),
      (l.foldl (fun (t : State) (r : Nat × List Byte) => t.triggersPut r.2) t).beside g = t.beside g :=
    fun l t => foldl_beside t fun r _ u => u.triggersPut_below hg r.2
  have hset : ∀ (t : State) {f : Field} (v : Nat), 0x200000 ≤ f.addr → (t.set f v).beside g = t.beside g :=
    fun t _ v hf => t.set_below hg v hf
  unfold State.applyProfile
  dsimp only
  rw [State.mezRoles_below hg, hset _ _ (by decide), hset _ _ (by decide), htriggers, hset _ _ (by decide), hset _ _ (by decide), hloops]

theorem State.showGen_below (s : State) : s.showGen.beside g = s.beside g :=
  (State.set_below hg _ _ (by decide)).trans (s.set_below hg _ (by decide))

theorem State.weightsIn_below (s : State) (b : List Byte) : (s.weightsIn b).beside g = s.beside g := by
  unfold State.weightsIn
  split
  · rfl
  · exact State.showGen_below hg _

/-! #### The auto policy arms (R70, R96) -/

theorem State.armPend_below (s : State) (b : Bool) : (s.armPend b).beside g = s.beside g :=
  (State.set_beside hg.aside _ _ (by decide)).trans (s.set_beside hg.aside _ (by decide))

theorem State.armGo_below (s : State) : s.armGo.beside g = s.beside g :=
  beside_ite_of (s.armPend_below hg true) (State.enter_beside hg.aside _ _)

end

/-! #### The stages of LOADED -/

/-- The set's images go into their targets. -/
def State.imagesIn (s : State) : State :=
  { s with boot := { s.boot with
    staged := [], images := s.imagesOf s.boot.staged, manifestDigest := Config.sha3_512 (s.boot.staged.take (manifestLen s.boot.staged)) } }

/-- LOADED shows the set with its security version, and the control firmware starts. -/
def State.setStarted (s : State) : State :=
  ((s.imagesIn.set SEC_SVN_LOADED_SVN (leAt s.boot.staged 12 1)).bundleTo 4).fwStart

/-- The forecaster's weights go in where a die is fitted, and the staging region is free again. -/
def State.setStored (s : State) : State :=
  let t := if s.setStarted.dies = 0 then s.setStarted else s.setStarted.weightsIn s.boot.staged
  (t.memLose ddrBase 0x10000000).showAck

/-- The profile's values are applied, and the auto policy arms. -/
def State.setLoaded (s : State) : State :=
  if s.setStored.firstLoaded.shelf = stPassive ∧ s.setStored.firstLoaded.armReady ∧
    s.setStored.firstLoaded.profileAt 0x8006 0 1 0 = 1 then s.setStored.firstLoaded.armGo else s.setStored.firstLoaded

theorem exec_bundleLoaded (s : State) (hp : s.pins.powered = true) : exec .bundleLoaded s =
    if s.get BOOT_STATUS_BUNDLE ≠ 3 then .next s else .next s.setLoaded := by
  have hexec : exec .bundleLoaded s = execBundleLoaded s := rfl
  rw [hexec]
  exact State.on_powered _ hp

theorem leAt_byte_lt (l : List Byte) (off : Nat) : leAt l off 1 < 256 := by
  show leNat ((l.drop off).take 1) < 256
  cases l.drop off with
  | nil => exact (by decide : 0 < 256)
  | cons b t =>
    show b.toNat + 256 * 0 < 256
    have := b.isLt
    omega

theorem State.fwStart_get (s : State) (g : Field) : s.fwStart.get g = s.get g := rfl

theorem State.fwStart_isSet (s : State) (g : Field) : s.fwStart.isSet g = s.isSet g := rfl

theorem State.fwStart_boot (s : State) : s.fwStart.boot = { s.boot with fwRuns := s.tackWhole } := rfl

theorem State.bundleTo_rmt (s : State) (k : Nat) : (s.bundleTo k).rmt = s.rmt := by
  unfold State.bundleTo
  dsimp only
  split
  · exact State.raiseBit_rmt _ _ _
  · rfl

/-- What the started set shows. -/
theorem State.setStarted_shows (s : State) : s.setStarted.get BOOT_STATUS_BUNDLE = 4 ∧
    s.setStarted.get SEC_SVN_LOADED_SVN = leAt s.boot.staged 12 1 ∧ s.setStarted.isSet SYS_EVT_BUNDLE_DONE = true ∧
    s.setStarted.boot.staged = [] ∧ s.setStarted.boot.fwRuns = s.tackWhole ∧ s.setStarted.boot.images = s.imagesOf s.boot.staged := by
  unfold State.setStarted
  refine ⟨?_, ?_, ?_, ?_⟩
  · rw [State.fwStart_get, State.get_bundleTo_same _ (by decide)]
  · rw [State.fwStart_get, State.get_bundleTo _ _ (.inl (by decide)) (.inl (by decide)) (.inl (by decide)),
      State.get_set_same _ _ _ (by decide)]
    exact Nat.mod_eq_of_lt (leAt_byte_lt _ _)
  · rw [State.fwStart_isSet, State.bundleTo_done _ (.inl rfl)]
  · rw [State.fwStart_boot, State.bundleTo_boot, State.tackWhole, State.bundleTo_rmt]
    exact ⟨rfl, rfl, rfl⟩

/-- What LOADED leaves once the set has started. -/
theorem State.setStored_below {g : Field} (hg : g.Below) (s : State) : s.setStored.beside g = s.setStarted.beside g := by
  have hweights : (if s.setStarted.dies = 0 then s.setStarted else s.setStarted.weightsIn s.boot.staged).beside g = s.setStarted.beside g :=
    beside_ite_of rfl (State.weightsIn_below hg _ _)
  have hlose : ∀ (t : State) (a n : Nat), (t.memLose a n).beside g = t.beside g := fun _ _ _ => rfl
  exact (State.set_below hg _ _ (by decide)).trans ((hlose _ _ _).trans hweights)

/-- A field and the loaded set. -/
def State.loadView (g : Field) (s : State) : Nat × List Byte × Bool × List (Nat × List Byte) :=
  (s.get g, s.boot.staged, s.boot.fwRuns, s.boot.images)

theorem loadView_of_beside {g : Field} {s t : State} (h : t.beside g = s.beside g) : t.loadView g = s.loadView g :=
  congrArg (fun x : Beside => (x.field, x.boot.staged, x.boot.fwRuns, x.boot.images)) h

theorem State.firstLoaded_view {g : Field} (hg : g.Below) (s : State) : s.firstLoaded.loadView g = s.loadView g := by
  unfold State.firstLoaded
  split
  · rfl
  · refine (loadView_of_beside (State.applyProfile_below hg _)).trans ?_
    rfl

/-- Once the set has started, LOADED leaves it and the registers below Rein's that protection does not write. -/
theorem State.setLoaded_view {g : Field} (hg : g.Below) (s : State) : s.setLoaded.loadView g = s.setStarted.loadView g := by
  have hfirst : s.setStored.firstLoaded.loadView g = s.setStarted.loadView g :=
    (s.setStored.firstLoaded_view hg).trans (loadView_of_beside (s.setStored_below hg))
  unfold State.setLoaded
  split
  · exact (loadView_of_beside (State.armGo_below hg _)).trans hfirst
  · exact hfirst

theorem State.get_setLoaded {g : Field} (hg : g.Below) (s : State) : s.setLoaded.get g = s.setStarted.get g :=
  congrArg Prod.fst (s.setLoaded_view hg)

theorem below_bundle : BOOT_STATUS_BUNDLE.Below := ⟨⟨by decide, by decide⟩, by decide⟩

theorem below_loadedSvn : SEC_SVN_LOADED_SVN.Below := ⟨⟨by decide, by decide⟩, by decide⟩

theorem below_bundleDone : SYS_EVT_BUNDLE_DONE.Below := ⟨⟨by decide, by decide⟩, by decide⟩

/-- What LOADED shows. -/
theorem bundleLoaded_shows {s : State} (hp : s.pins.powered = true) (h : s.get BOOT_STATUS_BUNDLE = 3) :
    ∃ t, exec .bundleLoaded s = .next t ∧ t.get BOOT_STATUS_BUNDLE = 4 ∧ t.get SEC_SVN_LOADED_SVN = leAt s.boot.staged 12 1 ∧
      t.boot.staged = [] ∧ t.boot.fwRuns = s.tackWhole ∧ t.boot.images = s.imagesOf s.boot.staged ∧
      t.isSet SYS_EVT_BUNDLE_DONE = true := by
  obtain ⟨hbundle, hsvn, hdone, hstaged, hruns, himages⟩ := s.setStarted_shows
  have hset := congrArg Prod.snd (s.setLoaded_view below_bundle)
  have hboot : s.setLoaded.boot.staged = s.setStarted.boot.staged ∧ s.setLoaded.boot.fwRuns = s.setStarted.boot.fwRuns ∧
      s.setLoaded.boot.images = s.setStarted.boot.images :=
    ⟨congrArg (fun x => x.1) hset, congrArg (fun x => x.2.1) hset, congrArg (fun x => x.2.2) hset⟩
  obtain ⟨hstaged', hruns', himages'⟩ := hboot
  refine ⟨s.setLoaded, ?_, ?_, ?_, hstaged'.trans hstaged, hruns'.trans hruns, himages'.trans himages, ?_⟩
  · rw [exec_bundleLoaded s hp, if_neg (not_not_intro h)]
  · rw [s.get_setLoaded below_bundle, hbundle]
  · rw [s.get_setLoaded below_loadedSvn, hsvn]
  · rw [State.isSet_of_get (s.get_setLoaded below_bundleDone), hdone]

/-! ### The obligation -/

/-- Settles O26: a read of the profile only sends, and its checks read the loops' fields alone; a bundle's states follow their
equations, and LOADED's values lie above the registers that show it. -/
theorem profileAndBundleCommands : Obligations.ProfileAndBundleCommands := by
  intro s hp
  have hload := exec_load s hp
  rw [State.load_eq] at hload
  obtain ⟨hruns, himages⟩ := s.unloaded_boot
  refine ⟨fun d b h => profileReadComplete_shows hp d b h, fun d b h => ?_, fun h => ?_, fun h hb => ?_, fun h hb ha => ?_,
    fun h hb ha hc => ?_, fun h hb ha hc hlo hhi => ?_, fun h hb ha hc hlen => ?_, fun info h => ?_, fun info h => ?_, fun bytes h => ?_,
    fun bytes h => ?_, fun h => bundleVerifyComplete_shows hp h, fun h => ?_, fun h => bundleLoaded_shows hp h, fun h => ?_⟩
  · rw [exec_profileReadComplete s d b hp, if_pos h]
  · rw [hload, if_pos h]
  · rw [hload, if_neg (not_not_intro h), if_pos hb]
  · rw [hload, if_neg (not_not_intro h), if_neg (by omega), if_pos ha]
  · rw [hload, if_neg (not_not_intro h), if_neg (by omega), if_neg (not_not_intro ha), if_pos hc]
  · obtain ⟨hbundle, hsvn, hboot, hout⟩ := s.unloaded.fetching_shows (s.unloaded.rdN BOOT_SRC_LEN)
    refine ⟨s.unloaded.fetching (s.unloaded.rdN BOOT_SRC_LEN), ?_, hbundle, hsvn.trans s.unloaded_svn, by rw [hboot, hruns],
      by rw [hboot, himages], ?_⟩
    · rw [hload, if_neg (not_not_intro h), if_neg (by omega), if_neg (not_not_intro ha), if_neg hc,
        if_neg (by rw [s.unloaded_len]; omega)]
    · rw [hout, s.unloaded_srcAddr, s.unloaded_len, s.unloaded_out]
  · obtain ⟨hbundle, hcode, -, hboot, -⟩ := s.unloaded.reject_shows 0 (code := 0x10)
    refine ⟨s.unloaded.reject 0x10 0, ?_, hbundle, hcode, ?_, by rw [hboot]; exact hruns, by rw [hboot]; exact himages⟩
    · rw [hload, if_neg (not_not_intro h), if_neg (by omega), if_neg (not_not_intro ha), if_neg hc,
        if_pos (by rw [s.unloaded_len]; exact hlen)]
    · rw [State.get_reject _ _ _ (by decide) (by decide) (.inl (by decide)) (by decide), s.unloaded_svn]
  · obtain ⟨hbundle, hcode, hinfo, hboot, hdone⟩ := s.reject_shows info.val (code := 0x11)
    refine ⟨s.reject 0x11 info.val, ?_, hbundle, hcode, ?_, by rw [hboot], hdone⟩
    · rw [exec_fetchCompletionError s info hp, if_pos h]
    · rw [hinfo]
      exact Nat.mod_eq_of_lt (by omega)
  · rw [exec_fetchCompletionError s info hp, if_neg h]
  · refine ⟨(s.copied (padTo (s.rdN BOOT_SRC_LEN) bytes)).bundleTo 2, ?_, State.get_bundleTo_same _ (by decide), ?_⟩
    · rw [exec_bundleFetchComplete s bytes hp, if_pos h]
    · rw [State.bundleTo_boot]
      rfl
  · rw [exec_bundleFetchComplete s bytes hp, if_neg h]
  · rw [exec_bundleVerifyComplete s hp, if_pos h]
  · rw [exec_bundleLoaded s hp, if_pos h]

end Sys2Proof.Machine


namespace Sys2Proof.Machine

/-! ### The fuses (R98, R99) -/

/-- A command that blows no fuse bit leaves the fuse block. -/
theorem exec_otp {c : Instr} {s t : State} (hc : c ≠ .svnFuseBitBlown) (h : exec c s = .next t) : t.otp = s.otp := by
  obtain ⟨u, hu, hk⟩ := exec_kept (bt := false) c s hc (by simp)
  injection h.symm.trans hu with htu
  exact htu ▸ hk.otp

/-- A blown bit adds one to the rollback count where programming runs, and does nothing elsewhere. -/
theorem exec_svnFuseBitBlown_otp {s t : State} (h : exec .svnFuseBitBlown s = .next t) :
    t.otp = s.otp ∨ t.otp = { s.otp with rollback := s.otp.rollback + 1 } := by
  have hexec : exec .svnFuseBitBlown s = execSvnFuseBitBlown s := rfl
  rw [hexec, execSvnFuseBitBlown] at h
  cases hp : s.pins.powered
  · rw [State.on_unpowered _ hp] at h
    injection h with h
    exact .inl (h ▸ rfl)
  · rw [State.on_powered _ hp] at h
    split at h
    · injection h with h
      exact .inl (h ▸ rfl)
    · injection h with h
      right
      rw [← h]
      split <;> rfl

/-- Settles O8: every other command keeps the fuse block, and a blown bit moves the rollback count alone. -/
theorem onlyFuseBlowingChangesFuses : Obligations.OnlyFuseBlowingChangesFuses := by
  intro c s t h
  refine ⟨fun hc => exec_otp hc h, ?_⟩
  have hotp : t.otp = s.otp ∨ t.otp = { s.otp with rollback := s.otp.rollback + 1 } := by
    rcases Classical.em (c = .svnFuseBitBlown) with rfl | hc
    · exact exec_svnFuseBitBlown_otp h
    · exact .inl (exec_otp hc h)
  rcases hotp with hotp | hotp <;> rw [hotp]
  · exact ⟨rfl, .inl rfl⟩
  · exact ⟨rfl, .inr rfl⟩

end Sys2Proof.Machine


namespace Sys2Proof.Machine

/-! ### What the recorder, an entry and protection leave of the shelf state's register and of the rings -/

/-- Fields apart, for `decide` where they are constants. -/
theorem apart_of {f g : Field} (h : f.addr ≠ g.addr ∨ f.lo + f.w ≤ g.lo ∨ g.lo + g.w ≤ f.lo) : f.apart g := h

/-- The rings' own registers, but for those where the status of a cascade beyond the eighth would lie. -/
abbrev RingAddr (a : Nat) : Prop := 0x300100 ≤ a ∧ a < 0x300200 ∧ a % 0x40 ≠ 0x38

/-- The address of another register. -/
abbrev Off (a : Nat) : Prop := a ≠ SYS_SHELF_STATE ∧ ¬RingAddr a

/-- The rings' side of the state: their registers and what they keep. -/
structure Side where
  regs : { a : Nat // RingAddr a } → Word
  ring : Ring

/-- The register of the shelf state, beside the rings. -/
structure Panel where
  shelf : Word
  side : Side

def State.panel (s : State) : Panel := ⟨s.rd SYS_SHELF_STATE, fun a => s.rd a, s.ring⟩

theorem panel_eq {s t : State} (hrd : ∀ a, ¬Off a → t.rd a = s.rd a) (hring : t.ring = s.ring) : t.panel = s.panel := by
  have hshelf := hrd SYS_SHELF_STATE (by decide)
  have hregs : (fun a : { a // RingAddr a } => t.rd a) = fun a : { a // RingAddr a } => s.rd a :=
    funext fun a => hrd a fun h => h.2 a.2
  unfold State.panel
  rw [hshelf, hregs, hring]

theorem rd_of_side {s t : State} (h : t.panel.side = s.panel.side) {a : Nat} (ha : RingAddr a) : t.rd a = s.rd a :=
  congrArg (fun x : Side => x.regs ⟨a, ha⟩) h

theorem get_of_side {s t : State} (h : t.panel.side = s.panel.side) {f : Field} (ha : RingAddr f.addr) : t.get f = s.get f := by
  unfold State.get
  rw [rd_of_side h ha]

theorem ring_of_side {s t : State} (h : t.panel.side = s.panel.side) : t.ring = s.ring := congrArg Side.ring h

theorem side_of_panel {s t : State} (h : t.panel = s.panel) : t.panel.side = s.panel.side := congrArg Panel.side h

theorem panel_ite_of {c : Prop} [Decidable c] {s t : State} {x : Panel} (hs : s.panel = x) (ht : t.panel = x) :
    (if c then s else t).panel = x := by
  split <;> assumption

theorem panel_ite {c : Prop} [Decidable c] (s t : State) : (if c then s else t).panel = if c then s.panel else t.panel :=
  apply_ite _ _ _ _

theorem side_ite_of {c : Prop} [Decidable c] {s t : State} {x : Side} (hs : s.panel.side = x) (ht : t.panel.side = x) :
    (if c then s else t).panel.side = x := by
  split <;> assumption

theorem forL_panel {α : Type} {l : List α} {f : α → State → State} (s : State) (hf : ∀ x ∈ l, ∀ t, (f x t).panel = t.panel) :
    (forL l f s).panel = s.panel := by
  unfold forL
  induction l generalizing s with
  | nil => rfl
  | cons x l ih => exact (ih _ fun y hy => hf y (List.mem_cons_of_mem x hy)).trans (hf x List.mem_cons_self s)

theorem forN_panel {n : Nat} {f : Nat → State → State} (s : State) (hf : ∀ i < n, ∀ t, (f i t).panel = t.panel) :
    (forN n f s).panel = s.panel := forL_panel s fun i hi => hf i (List.mem_range.1 hi)

/-- A change of the state beside the registers and the rings. -/
theorem other_panel (s : State) (pins : Pins) (pcie : Pcie) (boot : Boot) (clk : Clk) (hrn : Hrn) (meas : Meas) (rein : Rein) (rmt : Rmt)
    (fcst : Fcst) (est : Est) (fab : Fab) (lks : Lks) (brd : Brd) (sbg : Sbg) (mram mem : List (Nat × Byte))
    (latches : List (Nat × Nat × Word)) (out : List Out) (free : Nat) :
    State.panel { s with
      pins := pins, pcie := pcie, boot := boot, clk := clk, hrn := hrn, meas := meas, rein := rein, rmt := rmt, fcst := fcst, est := est,
      fab := fab, lks := lks, brd := brd, sbg := sbg, mram := mram, mem := mem, latches := latches, out := out, free := free } = s.panel := rfl

theorem State.wr_panel (s : State) {a : Nat} (v : Word) (ha : Off a) : (s.wr a v).panel = s.panel :=
  panel_eq (fun _ hb => s.rd_wr_ne v fun h => hb (h ▸ ha)) rfl

theorem State.set_panel (s : State) {f : Field} (v : Nat) (hf : Off f.addr) : (s.set f v).panel = s.panel := s.wr_panel _ hf

@[simp] theorem State.msix_panel (s : State) (v : Nat) : (s.msix v).panel = s.panel := by
  unfold State.msix
  repeat' split
  all_goals rfl

theorem State.raiseBit_panel (s : State) {f : Field} (v : Nat) (hf : Off f.addr) : (s.raiseBit f v).panel = s.panel :=
  panel_ite_of rfl ((State.msix_panel _ v).trans (s.set_panel 1 hf))

/-! #### The recorder -/

@[simp] theorem State.writeCb_panel (s : State) : s.writeCb.panel = s.panel := by
  unfold State.writeCb
  repeat' split
  all_goals rfl

theorem off_of_le {a : Nat} (h : 0x300200 ≤ a) : Off a := by
  unfold Off SYS_SHELF_STATE
  omega

theorem State.openIncident_panel (s : State) : s.openIncident.panel = s.panel := by
  have hset : ∀ t : State, (t.set SBG_STATUS_INC_OPEN 1).panel = t.panel := fun t => t.set_panel 1 (by decide)
  unfold State.openIncident
  dsimp only
  refine panel_ite_of rfl ?_
  split
  next =>
    rw [State.writeCb_panel, State.raiseBit_panel _ _ (by decide)]
    exact hset _
  next i _ =>
    have hslot : ∀ (t : State) (v : Word), (t.wr (SBG_INC_SLOT i) v).panel = t.panel :=
      fun t v => t.wr_panel v (off_of_le (by unfold SBG_INC_SLOT; omega))
    have hlo : ∀ (t : State) (v : Word), (t.wr (SBG_INC_TIME_LO i) v).panel = t.panel :=
      fun t v => t.wr_panel v (off_of_le (by unfold SBG_INC_TIME_LO; omega))
    have hhi : ∀ (t : State) (v : Word), (t.wr (SBG_INC_TIME_HI i) v).panel = t.panel :=
      fun t v => t.wr_panel v (off_of_le (by unfold SBG_INC_TIME_HI; omega))
    unfold State.wr64 State.wrN
    simp only [State.writeCb_panel, hhi, hlo, hslot, other_panel, hset]

theorem State.showLevel_panel (s : State) (i : Nat) : (s.showLevel i).panel = s.panel := by
  have hset : ∀ (t : State) (f : Field) (v : Nat), f.addr = TEL_R_STATUS (i - 1) → (t.set f v).panel = t.panel :=
    fun t f v h => t.set_panel v (off_of_le (by rw [h]; unfold TEL_R_STATUS; omega))
  exact panel_ite_of (s.set_panel _ (by decide)) ((hset _ _ _ rfl).trans (hset _ _ _ rfl))

theorem State.lose_panel (s : State) (i cause prio : Nat) (b : Bool) : (s.lose i cause prio b).panel = s.panel :=
  panel_ite_of (State.wr_panel _ _ (by decide)) (State.wr_panel _ _ (off_of_le (by unfold TEL_R_LOST; omega)))

theorem State.toPath_panel (s : State) (i : Nat) (r : Rec) : (s.toPath i r).panel = s.panel := by
  have hset : ∀ (t : State) (j : Nat) (q : TPath), (t.setPath j q).panel = t.panel := fun _ _ _ => rfl
  have hin : ∀ (t : State) (j : Nat) (q : Rec) (b : Bool), (t.enqueue j q b).panel = t.panel := fun _ _ _ _ => rfl
  unfold State.toPath
  repeat' split
  all_goals simp only [panel_ite, State.showLevel_panel, State.lose_panel, hset, hin, ite_self]

theorem State.record_panel (s : State) (kind prio domain code key cls : Nat) (opens : Bool) (body : List Byte) :
    (s.record kind prio domain code key cls opens body).panel = s.panel := by
  have hseq : ∀ t : State, (t.wrapReg SBG_SEQ).panel = t.panel := fun t => t.wr_panel _ (by decide)
  have hwake : ∀ t : State, t.showWakeN.panel = t.panel := fun _ => rfl
  unfold State.record
  dsimp only
  rw [hwake, forN_panel _ fun i _ t => t.toPath_panel i _, hseq]
  exact panel_ite_of s.openIncident_panel rfl

theorem State.verbose_panel (s : State) (src domain : Nat) : (s.verbose src domain).panel = s.panel :=
  panel_ite_of (State.record_panel _ _ _ _ _ _ _ _ _) rfl

theorem State.fireList_panel (s : State) (l : Nat) : (s.fireList l).panel = s.panel := by
  have hset : ∀ (t : State) (f : Field) (v : Nat), f.addr = SBG_LIST_STATUS l → (t.set f v).panel = t.panel :=
    fun t f v h => t.set_panel v (off_of_le (by rw [h]; unfold SBG_LIST_STATUS; omega))
  unfold State.fireList
  exact panel_ite_of (hset s _ _ rfl) ((hset _ _ _ rfl).trans ((hset _ _ _ rfl).trans (panel_ite_of s.openIncident_panel rfl)))

theorem State.fireOnFault_panel (s : State) (code cls : Nat) : (s.fireOnFault code cls).panel = s.panel :=
  forN_panel s fun l _ t => panel_ite_of (t.fireList_panel l) (panel_ite_of (t.fireList_panel l) rfl)

theorem State.fireOnState_panel (s : State) (st : Nat) : (s.fireOnState st).panel = s.panel :=
  forN_panel s fun l _ t => panel_ite_of (t.fireList_panel l) rfl

theorem State.jnlTrigger_panel (s : State) (bit : Nat) : (s.jnlTrigger bit).panel = s.panel := by
  have hset : ∀ (t : State) (f : Field) (v : Nat), f.addr = EST_JNL_STATUS → (t.set f v).panel = t.panel :=
    fun t f v h => t.set_panel v (by rw [h]; decide)
  have hstart : ∀ t : State, t.jnlStart.panel = t.panel := fun t => panel_ite_of ((hset _ _ _ rfl).trans (hset _ _ _ rfl)) rfl
  exact panel_ite_of (hset _ _ _ rfl) ((hstart _).trans (hset _ _ _ rfl))

/-! #### The cascades, the power path and the groups -/

theorem State.setCas_panel (s : State) (c lo w v : Nat) : (s.set ⟨REIN_CAS_STATUS c, lo, w⟩ v).panel = s.panel :=
  s.set_panel v (by show Off (0x201038 + 0x40 * c); unfold Off SYS_SHELF_STATE; omega)

theorem State.tuneAbort_panel (s : State) (cause : Nat) : (s.tuneAbort cause).panel = s.panel := by
  unfold State.tuneAbort
  split
  next => rfl
  next t _ =>
    refine (State.raiseBit_panel _ _ (by decide)).trans ((State.set_panel _ _ (by decide)).trans
      ((State.set_panel _ _ (by decide)).trans ((State.setCas_panel _ t.cas _ _ _).trans ?_)))
    exact panel_ite_of (State.setCas_panel _ t.cas _ _ _) rfl

theorem State.casOff_panel (s : State) (c : Nat) : (s.casOff c).panel = s.panel :=
  (State.setCas_panel _ c _ _ 0).trans ((State.setCas_panel _ c _ _ 0).trans ((State.setCas_panel _ c _ _ 0).trans
    ((State.setCas_panel _ c _ _ 0).trans (State.setCas_panel _ c _ _ 0))))

theorem State.cascadesOff_panel (s : State) : s.cascadesOff.panel = s.panel := by
  have hcas : ∀ t : State, (forN 8 (fun c t =>
      (((t.casOff c).wr (REIN_CAS_OUT c) 0).set (REIN_CAS_STATUS_ENABLE_PENDING c) 0).wr (REIN_CAS_OUT_BASE c) 0) t).panel = t.panel :=
    fun t => forN_panel t fun c hc u =>
      (State.wr_panel _ 0 (by unfold Off REIN_CAS_OUT_BASE SYS_SHELF_STATE; omega)).trans ((State.setCas_panel _ c _ _ 0).trans
        ((State.wr_panel _ 0 (by unfold Off REIN_CAS_OUT SYS_SHELF_STATE; omega)).trans (u.casOff_panel c)))
  have hshow : ∀ t : State, (((((t.set BRD_PENDING_CAS 0).wr REIN_CMD_TOT 0).wr REIN_CMD_STR 0).wr REIN_FF_NOW 0).wr
      REIN_UNSERVED 0).panel = t.panel :=
    fun t => (State.wr_panel _ _ (by decide)).trans ((State.wr_panel _ _ (by decide)).trans ((State.wr_panel _ _ (by decide)).trans
      ((State.wr_panel _ _ (by decide)).trans (t.set_panel 0 (by decide)))))
  have hend : ∀ t : State, State.panel { t with
      hrn := { t.hrn with strCmd := [0, 0], chans := t.hrn.chans.map fun c => { c with ref := 0 } }
      rein := { t.rein with restart := [], unserved := 0, carried := [], handover := none }
      brd := { t.brd with active := t.brd.active.filter (·.1 != 0x0310) } } = t.panel := fun t => rfl
  unfold State.cascadesOff
  rw [hend, hshow, hcas]

theorem State.setChState_panel (s : State) {n : Nat} (st : Nat) (hn : n < 104) : (s.set (HRN_CH_STATUS_STATE n) st).panel = s.panel :=
  s.set_panel st (by show Off (0x100004 + 0x100 * n); unfold Off SYS_SHELF_STATE; omega)

theorem State.setChCtrl_panel (s : State) {n : Nat} (lo w v : Nat) (hn : n < 104) : (s.set ⟨HRN_CH_CTRL n, lo, w⟩ v).panel = s.panel :=
  s.set_panel v (by show Off (0x100000 + 0x100 * n); unfold Off SYS_SHELF_STATE; omega)

theorem State.setGrp_panel (s : State) {i : Nat} (lo w v : Nat) (hi : i < 13) : (s.set ⟨HRN_GRP_STATUS i, lo, w⟩ v).panel = s.panel :=
  s.set_panel v (by show Off (0x11001C + 0x100 * i); unfold Off SYS_SHELF_STATE; omega)

theorem State.showActive_panel (s : State) : s.showActive.panel = s.panel :=
  (forN_panel _ fun _ hi t => t.setGrp_panel _ _ _ hi).trans ((State.set_panel _ _ (by decide)).trans (s.set_panel _ (by decide)))

theorem State.chPark_panel (s : State) {n : Nat} (st : Nat) (hn : n < 104) : (s.chPark n st).panel = s.panel := State.setChState_panel _ st hn

theorem State.chansForced_panel (s : State) : s.chansForced.panel = s.panel :=
  (State.showActive_panel _).trans (forN_panel s fun _ hn t => panel_ite_of (t.chPark_panel _ hn) (t.chPark_panel _ hn))

theorem State.windowOff_panel (s : State) : s.windowOff.panel = s.panel := by
  have hquiet : ∀ t : State, t.quietOff.panel = t.panel := fun t =>
    panel_ite_of ((State.tuneAbort_panel _ _).trans ((State.set_panel _ _ (by decide)).trans
      ((State.raiseBit_panel _ _ (by decide)).trans (State.set_panel _ _ (by decide))))) rfl
  exact (hquiet _).trans ((State.set_panel _ _ (by decide)).trans ((State.set_panel _ _ (by decide)).trans
    ((State.set_panel _ _ (by decide)).trans (State.set_panel _ _ (by decide)))))

/-! #### Entries (R70, R73, R425) -/

theorem State.showWait_panel (s : State) : s.showWait.panel = s.panel := s.set_panel _ (by decide)

theorem State.dropCodes_panel (s : State) (p : Nat → Bool) : (s.dropCodes p).panel = s.panel := by
  have hset : ∀ (t : State) (b : Bool), (t.setB BRD_STATUS_DERATE b).panel = t.panel := fun t b => t.set_panel _ (by decide)
  exact panel_ite_of ((State.raiseBit_panel _ _ (by decide)).trans (hset _ _)) (hset _ _)

theorem State.strOutEnd_panel (s : State) : s.strOutEnd.panel = s.panel :=
  (State.dropCodes_panel _ _).trans (forL_panel s fun _ _ t => forL_panel t fun _ hn u =>
    u.setChCtrl_panel _ _ 0 (lt_of_mem_stringChans hn))

theorem State.groupsFresh_panel (s : State) : s.groupsFresh.panel = s.panel :=
  panel_ite_of (forN_panel s fun _ hi t => panel_ite_of ((State.setGrp_panel _ _ _ _ hi).trans (t.setGrp_panel _ _ _ hi))
    (t.setGrp_panel _ _ _ hi)) rfl

theorem State.harnessOff_panel (s : State) : s.harnessOff.panel = s.panel := by
  have hgroups : ∀ u : State, (forN 13 (fun i t =>
      if t.get (HRN_GRP_STATUS_STATE i) = 4 then t else t.set (HRN_GRP_STATUS_STATE i) 0) u).panel = u.panel :=
    fun u => forN_panel u fun _ hi t => panel_ite_of rfl (t.setGrp_panel _ _ _ hi)
  have hchans : (forN 104 (fun n t => t.chPark n chOff) s).panel = s.panel := forN_panel s fun _ hn t => t.chPark_panel _ hn
  have hstop : ∀ (t : State) (b : Brd) (h : Hrn), State.panel { t with brd := b, hrn := h } = t.panel := fun _ _ _ => rfl
  unfold State.harnessOff
  dsimp only
  rw [State.dropCodes_panel, hstop, hgroups, State.showActive_panel, hchans]

/-- The groups whose enable is pending are disabled. -/
def State.grpPendingOff (s : State) : State :=
  forN 13 (fun g t => if bitOf (t.get BRD_PENDING_GRP) g then t.set (HRN_GRP_CTRL_ENABLE g) 0 else t) s

theorem State.pendingOff_eq (s : State) : s.pendingOff = (s.grpPendingOff.set SYS_SHELF_STATE_ARM_PENDING 0).wr BRD_PENDING 0 := rfl

theorem State.grpPendingOff_panel (s : State) : s.grpPendingOff.panel = s.panel :=
  forN_panel s fun i hi t => panel_ite_of
    (t.set_panel 0 (by show Off (0x110000 + 0x100 * i); unfold Off SYS_SHELF_STATE; omega)) rfl

/-- The state entered shows, with its event, its record, the capture lists that it fires and the tune that it aborts. -/
def State.entering (s : State) (st : Nat) : State :=
  (State.fireOnState (((s.set SYS_SHELF_STATE_STATE st).raiseBit SYS_EVT_STATE_CHG 224).record kState 1 2 0 0 0 false
    (leBytes 1 s.shelf ++ leBytes 1 st)) st).tuneAbort 4

theorem State.entering_panel (s : State) (st : Nat) : (s.entering st).panel = (s.set SYS_SHELF_STATE_STATE st).panel :=
  (State.tuneAbort_panel _ _).trans ((State.fireOnState_panel _ _).trans ((State.record_panel _ _ _ _ _ _ _ _ _).trans
    (State.raiseBit_panel _ _ (by decide))))

/-- What the entry of ISOLATED or LATCHED ends. -/
def State.isolatedEntry (s : State) : State :=
  { s.pendingOff with hrn := { s.hrn with phHold := none, freshDue := true } }

theorem State.enter_self (s : State) : s.enter s.shelf = s := if_pos rfl

/-- An entry, by its state. -/
theorem State.enter_eq {s : State} {st : Nat} (h : s.shelf ≠ st) : s.enter st =
    let t := s.entering st
    let t := if st = stArmed then t.bumpSat SYS_SHELF_STATE_ARM_COUNT 1 else t
    let t := if st = stIsolated ∨ st = stLatched then t.isolatedEntry else t
    let t := if st = stIsolated then t else t.set SYS_SHELF_STATE_CLK_HOLD 0
    let t := if st = stArming then t.strOutEnd.groupsFresh else t
    (if st = stPassive then t.harnessOff else t).showWait := by
  unfold State.enter
  rw [if_neg h]
  rfl

theorem State.enter_passive {s : State} (h : s.shelf ≠ stPassive) :
    s.enter stPassive = ((s.entering stPassive).set SYS_SHELF_STATE_CLK_HOLD 0).harnessOff.showWait := by
  rw [State.enter_eq h]
  dsimp only
  rw [if_pos rfl, if_neg (by decide), if_neg (by decide), if_neg (by decide), if_neg (by decide)]

end Sys2Proof.Machine


namespace Sys2Proof.Machine

/-! ### The register of the shelf state after an entry (R70, R73, R425) -/

theorem shelfWord_of_panel {s t : State} (h : t.panel = s.panel) : t.rd SYS_SHELF_STATE = s.rd SYS_SHELF_STATE := congrArg Panel.shelf h

theorem get_of_shelfWord {s t : State} (h : t.rd SYS_SHELF_STATE = s.rd SYS_SHELF_STATE) {f : Field} (hf : f.addr = SYS_SHELF_STATE) :
    t.get f = s.get f := by
  unfold State.get
  rw [hf, h]

theorem shelfWord_set {s t : State} (h : t.rd SYS_SHELF_STATE = s.rd SYS_SHELF_STATE) (lo w v : Nat) :
    (t.set ⟨SYS_SHELF_STATE, lo, w⟩ v).rd SYS_SHELF_STATE = (s.set ⟨SYS_SHELF_STATE, lo, w⟩ v).rd SYS_SHELF_STATE := by
  simp only [State.set, State.rd_wr_same, h]

theorem shelfWord_ite {c : Prop} [Decidable c] {s s' t t' : State} (hs : s'.rd SYS_SHELF_STATE = s.rd SYS_SHELF_STATE)
    (ht : t'.rd SYS_SHELF_STATE = t.rd SYS_SHELF_STATE) :
    (if c then s' else t').rd SYS_SHELF_STATE = (if c then s else t).rd SYS_SHELF_STATE := by
  split <;> assumption

/-- What an entry writes of the shelf state's register: the state, the count of ARMED, the pending ARM, the clocks' hold. -/
def State.marked (s : State) (st : Nat) : State :=
  let t := s.set SYS_SHELF_STATE_STATE st
  let t := if st = stArmed then t.bumpSat SYS_SHELF_STATE_ARM_COUNT 1 else t
  let t := if st = stIsolated ∨ st = stLatched then t.set SYS_SHELF_STATE_ARM_PENDING 0 else t
  if st = stIsolated then t else t.set SYS_SHELF_STATE_CLK_HOLD 0

theorem State.isolatedEntry_shelfWord (s : State) :
    s.isolatedEntry.rd SYS_SHELF_STATE = (s.set SYS_SHELF_STATE_ARM_PENDING 0).rd SYS_SHELF_STATE := by
  have hend : s.isolatedEntry.rd SYS_SHELF_STATE = s.pendingOff.rd SYS_SHELF_STATE := rfl
  rw [hend, State.pendingOff_eq, State.rd_wr_ne _ _ (by decide)]
  exact shelfWord_set (shelfWord_of_panel s.grpPendingOff_panel) _ _ _

theorem State.enter_shelfWord {s : State} {st : Nat} (h : s.shelf ≠ st) :
    (s.enter st).rd SYS_SHELF_STATE = (s.marked st).rd SYS_SHELF_STATE := by
  have hcount : ∀ {t u : State}, u.rd SYS_SHELF_STATE = t.rd SYS_SHELF_STATE →
      (u.bumpSat SYS_SHELF_STATE_ARM_COUNT 1).rd SYS_SHELF_STATE = (t.bumpSat SYS_SHELF_STATE_ARM_COUNT 1).rd SYS_SHELF_STATE := by
    intro t u hu
    unfold State.bumpSat
    rw [get_of_shelfWord hu rfl]
    exact shelfWord_set hu _ _ _
  rw [State.enter_eq h]
  dsimp only
  rw [shelfWord_of_panel (State.showWait_panel _), shelfWord_of_panel (panel_ite_of (State.harnessOff_panel _) rfl),
    shelfWord_of_panel (panel_ite_of ((State.groupsFresh_panel _).trans (State.strOutEnd_panel _)) rfl)]
  have hstate := shelfWord_of_panel (s.entering_panel st)
  have harmed := shelfWord_ite (c := st = stArmed) (hcount hstate) hstate
  have hpend := shelfWord_ite (c := st = stIsolated ∨ st = stLatched) ((State.isolatedEntry_shelfWord _).trans (shelfWord_set harmed _ _ 0)) harmed
  exact shelfWord_ite hpend (shelfWord_set hpend _ _ 0)

/-- A field of the shelf state's register after an entry. -/
theorem State.get_enter {s : State} {st : Nat} (h : s.shelf ≠ st) {f : Field} (hf : f.addr = SYS_SHELF_STATE) :
    (s.enter st).get f = (s.marked st).get f := get_of_shelfWord (State.enter_shelfWord h) hf

theorem get_ite_of {c : Prop} [Decidable c] {s t : State} {f : Field} {x : Nat} (hs : s.get f = x) (ht : t.get f = x) :
    (if c then s else t).get f = x := by
  split <;> assumption

/-- An entry leaves what lies apart from the fields that it writes. -/
theorem State.get_marked {s : State} {st : Nat} {f : Field} (hstate : SYS_SHELF_STATE_STATE.apart f)
    (hcount : st ≠ stArmed ∨ SYS_SHELF_STATE_ARM_COUNT.apart f) (hpend : (st ≠ stIsolated ∧ st ≠ stLatched) ∨ SYS_SHELF_STATE_ARM_PENDING.apart f)
    (hhold : SYS_SHELF_STATE_CLK_HOLD.apart f) : (s.marked st).get f = s.get f := by
  have h1 : (s.set SYS_SHELF_STATE_STATE st).get f = s.get f := s.get_set_apart _ f st hstate
  have h2 : ∀ {t : State}, t.get f = s.get f → (if st = stArmed then t.bumpSat SYS_SHELF_STATE_ARM_COUNT 1 else t).get f = s.get f := by
    intro t ht
    rcases hcount with hne | happ
    · rwa [if_neg hne]
    · exact get_ite_of ((t.get_set_apart _ f _ happ).trans ht) ht
  have h3 : ∀ {t : State}, t.get f = s.get f →
      (if st = stIsolated ∨ st = stLatched then t.set SYS_SHELF_STATE_ARM_PENDING 0 else t).get f = s.get f := by
    intro t ht
    rcases hpend with hne | happ
    · rwa [if_neg (by simpa using hne)]
    · exact get_ite_of ((t.get_set_apart _ f _ happ).trans ht) ht
  exact get_ite_of (h3 (h2 h1)) ((State.get_set_apart _ _ f _ hhold).trans (h3 (h2 h1)))

theorem State.shelf_marked (s : State) {st : Nat} (hst : st ≤ 6) : (s.marked st).get SYS_SHELF_STATE_STATE = st := by
  have h1 : (s.set SYS_SHELF_STATE_STATE st).get SYS_SHELF_STATE_STATE = st :=
    (s.get_set_same _ st (by decide)).trans (Nat.mod_eq_of_lt (show st < 8 by omega))
  have h2 : (if st = stArmed then (s.set SYS_SHELF_STATE_STATE st).bumpSat SYS_SHELF_STATE_ARM_COUNT 1 else s.set SYS_SHELF_STATE_STATE st).get
      SYS_SHELF_STATE_STATE = st := get_ite_of ((State.get_set_apart _ _ _ _ (apart_of (by decide))).trans h1) h1
  have h3 := get_ite_of (c := st = stIsolated ∨ st = stLatched)
    ((State.get_set_apart _ SYS_SHELF_STATE_ARM_PENDING SYS_SHELF_STATE_STATE 0 (apart_of (by decide))).trans h2) h2
  exact get_ite_of h3 ((State.get_set_apart _ _ _ _ (apart_of (by decide))).trans h3)

/-- The state entered shows. -/
theorem State.shelf_enter (s : State) {st : Nat} (hst : st ≤ 6) : (s.enter st).shelf = st := by
  by_cases h : s.shelf = st
  · rw [← h, State.enter_self]
  · exact (State.get_enter h rfl).trans (s.shelf_marked hst)

/-- ARMED is counted, up to 255. -/
theorem State.armCount_enterArmed {s : State} (h : s.shelf ≠ stArmed) :
    (s.enter stArmed).get SYS_SHELF_STATE_ARM_COUNT = min (s.get SYS_SHELF_STATE_ARM_COUNT + 1) 255 := by
  have hmark : s.marked stArmed = ((s.set SYS_SHELF_STATE_STATE stArmed).bumpSat SYS_SHELF_STATE_ARM_COUNT 1).set SYS_SHELF_STATE_CLK_HOLD 0 := rfl
  have hold : (s.set SYS_SHELF_STATE_STATE stArmed).get SYS_SHELF_STATE_ARM_COUNT = s.get SYS_SHELF_STATE_ARM_COUNT :=
    s.get_set_apart _ _ _ (apart_of (by decide))
  have hlt : min (s.get SYS_SHELF_STATE_ARM_COUNT + 1) 255 < 256 := by omega
  rw [State.get_enter h rfl, hmark, State.get_set_apart _ _ _ _ (apart_of (by decide)), State.bumpSat, State.get_set_same _ _ _ (by decide), hold]
  exact Nat.mod_eq_of_lt hlt

theorem State.armCount_enter (s : State) {st : Nat} (hst : st ≠ stArmed) :
    (s.enter st).get SYS_SHELF_STATE_ARM_COUNT = s.get SYS_SHELF_STATE_ARM_COUNT := by
  by_cases h : s.shelf = st
  · rw [← h, State.enter_self]
  · exact (State.get_enter h rfl).trans (State.get_marked (apart_of (by decide)) (.inl hst) (.inr (apart_of (by decide))) (apart_of (by decide)))

/-- The entry of ISOLATED or LATCHED ends a pending ARM. -/
theorem State.armPending_enter {s : State} {st : Nat} (hst : st = stIsolated ∨ st = stLatched) (h : s.shelf ≠ st) :
    (s.enter st).isSet SYS_SHELF_STATE_ARM_PENDING = false := by
  have hget : (s.marked st).get SYS_SHELF_STATE_ARM_PENDING = 0 := by
    unfold State.marked
    dsimp only
    rw [if_pos hst]
    exact get_ite_of (State.get_set_same _ _ _ (by decide))
      ((State.get_set_apart _ _ _ _ (apart_of (by decide))).trans (State.get_set_same _ _ _ (by decide)))
  rw [State.isSet, State.get_enter h rfl, hget]
  rfl

/-- The entry of ISOLATED or LATCHED ends every pending enable. -/
theorem State.brdPending_enter {s : State} {st : Nat} (hst : st = stIsolated ∨ st = stLatched) (h : s.shelf ≠ st) :
    (s.enter st).rd BRD_PENDING = 0 := by
  have hpend : ∀ t : State, t.isolatedEntry.rd BRD_PENDING = 0 := fun t => State.rd_wr_same (t.grpPendingOff.set _ 0) BRD_PENDING 0
  have hwait : ∀ t : State, t.showWait.rd BRD_PENDING = t.rd BRD_PENDING := fun t => t.rd_set_ne _ _ (by decide)
  have hnone : st ≠ stArming ∧ st ≠ stPassive := by rcases hst with rfl | rfl <;> decide
  rw [State.enter_eq h]
  dsimp only
  rw [hwait, if_neg hnone.1, if_neg hnone.2, if_pos hst]
  split
  · exact hpend _
  · exact (State.rd_set_ne _ _ _ (by decide)).trans (hpend _)

/-- The clocks' hold ends with the entry of any state but ISOLATED. -/
theorem State.clkHold_enter {s : State} {st : Nat} (hst : st ≠ stIsolated) (h : s.shelf ≠ st) :
    (s.enter st).isSet SYS_SHELF_STATE_CLK_HOLD = false := by
  have hget : (s.marked st).get SYS_SHELF_STATE_CLK_HOLD = 0 := by
    unfold State.marked
    dsimp only
    rw [if_neg hst, State.get_set_same _ _ _ (by decide)]
    rfl
  rw [State.isSet, State.get_enter h rfl, hget]
  rfl

/-- Settles O30: what an entry writes of SYS_SHELF_STATE is four fields, and whatever else it brings with it leaves that register. -/
theorem enteringAShelfState : Obligations.EnteringAShelfState := fun s =>
  ⟨fun _ hk => s.shelf_enter hk, s.enter_self, State.armCount_enterArmed, fun _ _ hk => s.armCount_enter hk,
    fun _ hk h => ⟨State.brdPending_enter hk h, State.armPending_enter hk h⟩, fun _ _ hk h => State.clkHold_enter hk h⟩

end Sys2Proof.Machine


namespace Sys2Proof.Machine

/-! ### What a fault's bookkeeping leaves of that register and of the rings -/

theorem State.alarm_panel (s : State) (code cls : Nat) (detail : List Byte) : (s.alarm code cls detail).panel = s.panel :=
  (State.set_panel _ _ (by decide)).trans (panel_ite_of rfl rfl)

theorem State.lfr_panel (s : State) (code grp : Nat) (involved : List Nat) : (s.lfr code grp involved).panel = s.panel :=
  panel_ite_of (s.set_panel _ (by decide)) (State.set_panel _ _ (by decide))

theorem State.fireWake_panel (s : State) (b : Nat) : (s.fireWake b).panel = s.panel :=
  have hset : (s.set ⟨PWR_WAKE_SRC, b, 1⟩ 1).panel = s.panel := s.set_panel 1 (show Off PWR_WAKE_SRC by decide)
  panel_ite_of hset hset

theorem State.logCode_panel (s : State) (code idx cls : Nat) (m t : Int) : (s.logCode code idx cls m t).panel = s.panel := by
  have hset : ∀ (u : State) (f : Field) (v : Nat), f.addr = BRD_LAST ∨ f.addr = BRD_COUNT → (u.set f v).panel = u.panel :=
    fun u f v h => u.set_panel v (by rcases h with h | h <;> rw [h] <;> decide)
  have hevt : Off (if cls = 0 then BRD_EVT_F0 else if cls = 1 then BRD_EVT_F1 else if cls = 2 then BRD_EVT_F2 else BRD_EVT_F3).addr := by
    repeat' split
    all_goals decide
  have hcount : ∀ u : State, (if cls = 2 then u.bumpSat BRD_COUNT_F2 1 else if cls = 3 then u.bumpSat BRD_COUNT_F3 1 else u).panel = u.panel :=
    fun u => panel_ite_of (hset u _ _ (.inr rfl)) (panel_ite_of (hset u _ _ (.inr rfl)) rfl)
  unfold State.logCode
  dsimp only
  rw [State.fireOnFault_panel, panel_ite_of (State.alarm_panel _ _ _ _) rfl, State.record_panel, State.fireWake_panel, hcount,
    panel_ite_of (State.tuneAbort_panel _ _) rfl, panel_ite_of (State.lfr_panel _ _ _ _) rfl, hset _ _ _ (.inl rfl), hset _ _ _ (.inl rfl),
    hset _ _ _ (.inl rfl), State.raiseBit_panel _ _ hevt]

/-- The F0 record of a refused access leaves the shelf state's register and the rings. -/
theorem State.refuse_panel (s : State) (addr value : Nat) : (s.refuse addr value).panel = s.panel := by
  have hlog := s.logCode_panel 0x0605 0 0 (signedOf 32 addr) (signedOf 32 value)
  have hcls : s.classOf 0x0605 0 = 0 := rfl
  unfold State.refuse State.raise
  rw [hcls]
  exact panel_ite_of rfl hlog

/-! ### What a fault leaves of the rings -/

theorem State.setShelf_side (s : State) {f : Field} (v : Nat) (hf : f.addr = SYS_SHELF_STATE) : (s.set f v).panel.side = s.panel.side := by
  have hring : ¬RingAddr f.addr := hf ▸ by decide
  have hregs : (fun a : { a // RingAddr a } => (s.set f v).rd a) = fun a : { a // RingAddr a } => s.rd a :=
    funext fun a => s.rd_set_ne f v fun h => hring (h ▸ a.2)
  unfold State.panel
  rw [hregs]
  rfl

theorem State.isolatedEntry_side (s : State) : s.isolatedEntry.panel.side = s.panel.side := by
  have hend : s.isolatedEntry.panel = s.pendingOff.panel := rfl
  rw [hend, State.pendingOff_eq, State.wr_panel _ _ (by decide), State.setShelf_side _ _ rfl, State.grpPendingOff_panel]

theorem side_ite {c : Prop} [Decidable c] (x y : Panel) : (if c then x else y).side = if c then x.side else y.side := apply_ite _ _ _ _

/-- An entry leaves the rings. -/
theorem State.enter_side (s : State) (st : Nat) : (s.enter st).panel.side = s.panel.side := by
  by_cases h : s.shelf = st
  · rw [← h, State.enter_self]
  · have hcount : ∀ t : State, (t.bumpSat SYS_SHELF_STATE_ARM_COUNT 1).panel.side = t.panel.side := fun t => t.setShelf_side _ rfl
    rw [State.enter_eq h]
    dsimp only
    rw [State.showWait_panel, panel_ite_of (State.harnessOff_panel _) rfl,
      panel_ite_of ((State.groupsFresh_panel _).trans (State.strOutEnd_panel _)) rfl, side_ite_of rfl (State.setShelf_side _ _ rfl),
      side_ite_of (State.isolatedEntry_side _) rfl, side_ite_of (hcount _) rfl, State.entering_panel,
      State.setShelf_side _ _ rfl]

theorem State.showDerate_side (s : State) : s.showDerate.panel.side = s.panel.side := by
  have hset : ∀ b : Bool, (s.setB BRD_STATUS_DERATE b).panel = s.panel := fun b => s.set_panel _ (by decide)
  unfold State.showDerate
  dsimp only
  rw [side_ite_of (State.enter_side _ _) (side_ite_of (State.enter_side _ _) rfl), hset]

theorem State.showCauses_panel (s : State) : s.showCauses.panel = s.panel := by
  have hcause : ∀ i < 4, ∀ (v w : Nat) (t : State), ((t.set (BRD_CAUSE_EVEN i) v).set (BRD_CAUSE_ODD i) w).panel = t.panel := by
    intro i hi v w t
    have hoff : Off (BRD_CAUSE i) := off_of_le (by unfold BRD_CAUSE; omega)
    exact (State.set_panel _ w hoff).trans (t.set_panel v hoff)
  exact (State.set_panel _ _ (by decide)).trans ((State.set_panel _ _ (by decide)).trans (forN_panel s fun i hi t => hcause i hi _ _ t))

theorem State.join_panel (s : State) (code cls : Nat) : (s.join code cls).panel = s.panel := State.showCauses_panel _

theorem State.clearCauses_panel (s : State) : s.clearCauses.panel = s.panel := State.showCauses_panel _

theorem State.openDue_panel (s : State) (xs : List Nat) : (s.openDue xs).panel = s.panel := panel_ite_of rfl rfl

theorem State.checkHoldoff_panel (s : State) : s.checkHoldoff.panel = s.panel :=
  panel_ite_of rfl (panel_ite_of rfl (panel_ite_of rfl rfl))

theorem State.isolate_side (s : State) (code st cls : Nat) (xs : List Nat) : (s.isolate code st cls xs).panel.side = s.panel.side := by
  have hdrv : ∀ t : State, t.drvOff.panel = t.panel := fun t => State.set_panel _ 1 (by decide)
  have hoff : (if code = 0x0103 then s else s.drvOff.chansForced).isoOff.panel = s.panel :=
    (panel_ite_of rfl ((State.chansForced_panel _).trans (hdrv s)) : (if code = 0x0103 then s else s.drvOff.chansForced).panel = s.panel)
  have hkeep : ∀ t : State, State.panel { t with
      brd := { t.brd with ssWindow := false, ssOff := false, isoLimitDue := true, returning := [] }
      boot := { t.boot with
        armStep := 0, contRequested := false, disarming := false, disarmKept := t.boot.disarmKept || t.boot.disarming } } =
      t.panel := fun t => rfl
  unfold State.isolate
  dsimp only
  rw [State.openDue_panel, panel_ite_of (State.jnlTrigger_panel _ _) rfl, State.enter_side, State.windowOff_panel, State.cascadesOff_panel,
    hkeep, hoff]

theorem State.latch_side (s : State) (code : Nat) : (s.latch code).panel.side = s.panel.side := by
  unfold State.latch
  rw [State.checkHoldoff_panel, State.set_panel _ _ (by decide), State.isolate_side]

theorem State.storm_side (s : State) (code : Nat) : (s.storm code).panel.side = s.panel.side := by
  have haction : ∀ t : State, (if code = 0x0103 then { t with brd := { t.brd with ovAction := 3 } } else t).panel = t.panel :=
    fun t => panel_ite_of rfl rfl
  unfold State.storm
  dsimp only
  rw [State.latch_side, State.join_panel, haction, State.bumpSat, State.set_panel _ _ (by decide), State.raiseBit_panel _ _ (by decide),
    State.logCode_panel]

theorem State.startRecovery_side (s : State) (code idx : Nat) (fresh : Bool) : (s.startRecovery code idx fresh).panel.side = s.panel.side := by
  have hjoin : ((if fresh then s.clearCauses else s).join code 2).panel = s.panel :=
    (State.join_panel _ _ _).trans (panel_ite_of s.clearCauses_panel rfl)
  have hrecov : ∀ t : State, (t.set BRD_STATUS_RECOV 1).panel = t.panel := fun t => t.set_panel 1 (by decide)
  have hbrd : ∀ (t : State) (b : Brd), State.panel { t with brd := b } = t.panel := fun _ _ => rfl
  unfold State.startRecovery
  dsimp only
  generalize (if fresh then s.clearCauses else s).join code 2 = b at hjoin ⊢
  refine (side_ite_of (b.storm_side code) ?_).trans (side_of_panel hjoin)
  rw [State.checkHoldoff_panel]
  simp only [panel_ite, side_ite, State.isolate_side, hrecov, hbrd, ite_self]

theorem State.takeF2_side (s : State) (code idx : Nat) : (s.takeF2 code idx).panel.side = s.panel.side := by
  have hstart := s.startRecovery_side code idx (s.get BRD_STATUS_RECOV == 0)
  refine side_ite_of hstart (side_ite_of (side_ite_of ?_ hstart) (side_ite_of (side_of_panel (s.join_panel _ _)) rfl))
  rw [State.checkHoldoff_panel, State.openDue_panel, State.jnlTrigger_panel]
  rfl

theorem State.takeF3_side (s : State) (code : Nat) : (s.takeF3 code).panel.side = s.panel.side := by
  have hact : ∀ t : State, (if code = 0x0103 then { t with brd := { t.brd with ovAction := 3 } } else t).panel = t.panel :=
    fun t => panel_ite_of rfl rfl
  refine side_ite_of ?_ (side_ite_of (side_of_panel (s.join_panel _ _)) rfl)
  dsimp only
  rw [State.latch_side, hact, State.join_panel, panel_ite_of s.clearCauses_panel rfl]

theorem State.strOutAct_panel (s : State) (x : Nat) : (s.strOutAct x).panel = s.panel := by
  have hforce : ∀ t : State, (t.forceShedString x).panel = t.panel := by
    refine fun t => forL_panel t fun n hn u => ?_
    have hn := lt_of_mem_stringChans hn
    have hset : (u.set (HRN_CH_CTRL_FORCE_SHED n) 1).panel = u.panel := u.setChCtrl_panel _ _ 1 hn
    exact panel_ite_of rfl (panel_ite_of ((State.setChState_panel _ _ hn).trans hset) hset)
  refine panel_ite_of ?_ rfl
  rw [State.openDue_panel, hforce]
  rfl

theorem State.takeF0_side (s : State) (code idx : Nat) : (s.takeF0 code idx).panel.side = s.panel.side := by
  have hevt : (s.raiseBit BRD_EVT_DERATE 243).panel = s.panel := s.raiseBit_panel _ (by decide)
  refine side_ite_of ((State.showDerate_side _).trans (side_of_panel ?_)) rfl
  exact panel_ite_of ((State.strOutAct_panel _ _).trans hevt) (panel_ite_of ((State.strOutAct_panel _ _).trans hevt) hevt)

/-- A fault leaves the rings. -/
theorem State.raise_side (s : State) (code idx : Nat) (m t : Int) : (s.raise code idx m t).panel.side = s.panel.side := by
  have hlevel : ∀ u : State, (if isLevel code then
      { u with brd := { u.brd with active := u.brd.active ++ [(code, idx)] } } else u).panel = u.panel := fun u => panel_ite_of rfl rfl
  have hlog := side_of_panel ((hlevel _).trans (s.logCode_panel code idx (s.classOf code idx) m t))
  exact side_ite_of rfl (side_ite_of ((State.takeF3_side _ _).trans hlog) (side_ite_of ((State.takeF2_side _ _ _).trans hlog)
    (side_ite_of ((State.takeF0_side _ _ _).trans hlog) hlog)))

theorem State.raiseOnce_side (s : State) (code idx : Nat) (m t : Int) : (s.raiseOnce code idx m t).panel.side = s.panel.side :=
  side_ite_of rfl (s.raise_side code idx m t)

theorem State.unraise_side (s : State) (code idx : Nat) : (s.unraise code idx).panel.side = s.panel.side := by
  unfold State.unraise
  refine side_ite_of ?_ rfl
  rw [State.checkHoldoff_panel]
  exact side_ite_of ((State.showDerate_side _).trans (side_of_panel (State.raiseBit_panel _ _ (by decide)))) rfl

theorem State.bootErr_panel (s : State) (code info : Nat) : (s.bootErr code info).panel = s.panel :=
  (State.wr_panel _ _ (by decide)).trans (s.set_panel _ (by decide))

/-- A failed attempt at arming leaves the rings. -/
theorem State.armFail_side (s : State) (code info : Nat) : (s.armFail code info).panel.side = s.panel.side := by
  have hretry : ∀ t : State, t.retryAfter.panel = t.panel := by
    intro t
    have hset : (t.set BOOT_STATUS_RETRIES_LEFT (t.profileAt 0x8006 4 1 3)).panel = t.panel := t.set_panel _ (by decide)
    unfold State.retryAfter
    refine panel_ite_of rfl ?_
    split
    · rfl
    · exact hset
  have hend : ∀ (t : State) (b : Boot), State.panel { t with boot := b } = t.panel := fun _ _ => rfl
  unfold State.armFail
  dsimp only
  rw [hretry, State.clearCauses_panel, State.set_panel _ _ (by decide), State.enter_side, hend, State.openDue_panel, State.bootErr_panel]

end Sys2Proof.Machine


namespace Sys2Proof.Machine

/-! ### A refused request, a pending ARM, and the begin of arming (R70, R88, R91, R96, R425) -/

theorem aside_errCode : BOOT_STATUS_ERR_CODE.Aside := ⟨by decide, by decide⟩

theorem aside_errInfo : Field.Aside ⟨BOOT_ERR_INFO, 0, 32⟩ := ⟨by decide, by decide⟩

theorem aside_retriesLeft : BOOT_STATUS_RETRIES_LEFT.Aside := ⟨by decide, by decide⟩

/-- What a refused request leaves: beside the error shown, one F0 record. -/
theorem State.bootRefuse_calm (s : State) (code info bit : Nat) : (s.bootRefuse code info bit).calm = (s.bootErr code info).calm :=
  State.raise_calm _ _ _ rfl (by decide) (by decide)

theorem State.bootRefuse_boot (s : State) (code info bit : Nat) : (s.bootRefuse code info bit).boot = s.boot :=
  congrArg Seen.boot (s.bootRefuse_calm code info bit)

theorem State.bootRefuse_causes (s : State) (code info bit : Nat) : (s.bootRefuse code info bit).brd.causes = s.brd.causes :=
  congrArg Seen.causes (s.bootRefuse_calm code info bit)

theorem State.bootRefuse_panel (s : State) (code info bit : Nat) : (s.bootRefuse code info bit).panel = s.panel :=
  (State.refuse_panel _ _ _).trans (s.bootErr_panel code info)

theorem State.bootRefuse_shelf (s : State) (code info bit : Nat) : (s.bootRefuse code info bit).shelf = s.shelf :=
  get_of_shelfWord (shelfWord_of_panel (s.bootRefuse_panel code info bit)) rfl

theorem State.get_bootErr_code (s : State) (code info : Nat) : (s.bootErr code info).get BOOT_STATUS_ERR_CODE = code % 256 :=
  (State.get_wr_ne _ _ (by decide)).trans (s.get_set_same _ code (by decide))

/-- The error that a refused request shows. -/
theorem State.bootRefuse_shows (s : State) (code info bit : Nat) : (s.bootRefuse code info bit).get BOOT_STATUS_ERR_CODE = code % 256 ∧
    (s.bootRefuse code info bit).rdN BOOT_ERR_INFO = info % 2 ^ 32 := by
  have hkeep : ∀ {g : Field}, g.Aside → (s.bootRefuse code info bit).get g = (s.bootErr code info).get g :=
    fun hg => get_of_beside (State.raise_beside hg _ 0x0605 0 _ _)
  refine ⟨(hkeep aside_errCode).trans (s.get_bootErr_code code info), ?_⟩
  rw [State.rdN_eq_get, hkeep aside_errInfo, ← State.rdN_eq_get]
  exact State.rdN_wrN_same _ _ _

theorem State.get_armPend (s : State) (b : Bool) {f : Field} (hshelf : SYS_SHELF_STATE_ARM_PENDING.apart f) (hbrd : BRD_PENDING ≠ f.addr) :
    (s.armPend b).get f = s.get f :=
  (State.get_set_apart _ _ f _ (.inl hbrd)).trans (s.get_set_apart _ f _ hshelf)

theorem State.armPend_shelf (s : State) (b : Bool) : (s.armPend b).shelf = s.shelf := s.get_armPend b (apart_of (by decide)) (by decide)

theorem State.isSet_armPend (s : State) (b : Bool) : (s.armPend b).isSet SYS_SHELF_STATE_ARM_PENDING = b :=
  (State.isSet_of_get (State.get_set_apart _ _ _ _ (.inl (by decide)))).trans (s.isSet_set_toNat _ b (by decide) (by decide))

theorem State.armReady_congr {s t : State} (h : ∀ f : Field, f.addr = BOOT_STATUS → t.get f = s.get f) : t.armReady = s.armReady := by
  unfold State.armReady
  rw [h _ rfl, h _ rfl]

theorem State.armReady_armPend (s : State) (b : Bool) : (s.armPend b).armReady = s.armReady :=
  State.armReady_congr fun f hf => s.get_armPend b (.inl (by rw [hf]; decide)) (by rw [hf]; decide)

/-- An attempt at arming begins at its first step. -/
theorem State.beginArming_shows {s : State} (rearm : Bool) (h : s.shelf ≠ stArming) :
    (s.beginArming rearm).shelf = stArming ∧
    (s.beginArming rearm).boot = { s.boot with armStep := 1, contRequested := false, rearm := rearm, retryWait := false } ∧
    (s.beginArming rearm).get SYS_SHELF_STATE_ARM_PENDING = s.get SYS_SHELF_STATE_ARM_PENDING ∧
    ∀ g : Field, g.Aside → (s.beginArming rearm).get g = s.get g := by
  have hbegin : s.beginArming rearm = (s.armingAsked rearm).enter stArming := rfl
  have hshelf : (s.armingAsked rearm).shelf ≠ stArming := h
  rw [hbegin]
  refine ⟨State.shelf_enter _ (by decide), congrArg Seen.boot (State.enterArming_unforced _ hshelf), ?_, fun g hg => ?_⟩
  · exact (State.get_enter hshelf rfl).trans (State.get_marked (apart_of (by decide)) (.inr (apart_of (by decide)))
      (.inl (by decide)) (apart_of (by decide)))
  · exact get_of_beside (State.enter_beside hg _ _)

theorem State.tooSoon_congr {s t : State} (hmin : t.get BRD_RECOV_CFG_MIN_OFF_MS = s.get BRD_RECOV_CFG_MIN_OFF_MS)
    (hnow : t.elapsed = s.elapsed) (o : Option Nat) : t.tooSoon o = s.tooSoon o := by
  unfold State.tooSoon State.minOff
  rw [hmin, hnow]

/-- The state in which a host's ARM goes ahead: no error shows, and the retries are reset. -/
def State.armAsked (s : State) : State := s.bootErrClear.retryReset

theorem State.get_armAsked (s : State) {f : Field} (hboot : BOOT_STATUS ≠ f.addr) (hinfo : f.addr ≠ BOOT_ERR_INFO) :
    s.armAsked.get f = s.get f :=
  (State.get_set_apart _ _ f _ (.inl hboot)).trans (s.get_bootErr _ _ hboot.symm hinfo)

theorem State.armAsked_retriesLeft (s : State) : s.armAsked.get BOOT_STATUS_RETRIES_LEFT = 0 := State.get_set_same _ _ _ (by decide)

theorem State.armAsked_errCode (s : State) : s.armAsked.get BOOT_STATUS_ERR_CODE = 0 :=
  (State.get_set_apart _ _ _ _ (apart_of (by decide))).trans (s.get_bootErr_code 0 s.boot.skipped)

theorem State.armAsked_tooSoon (s : State) : s.armAsked.tooSoon s.armAsked.brd.offSince = s.tooSoon s.brd.offSince :=
  State.tooSoon_congr (s.get_armAsked (by decide) (by decide)) rfl _

theorem State.armGo_soon {s : State} (h : s.tooSoon s.brd.offSince = true) : s.armGo = s.armPend true := if_pos h

theorem State.armGo_late {s : State} (h : s.tooSoon s.brd.offSince = false) : s.armGo = s.beginArming false :=
  if_neg (by rw [h]; exact Bool.false_ne_true)

/-! ### ARM (R70, R71, R92, R96) -/

theorem exec_arm (s : State) (hp : s.pins.powered = true) : exec .arm s = .next s.arm := by
  have hexec : exec .arm s = execArm s := rfl
  rw [hexec]
  exact State.on_powered _ hp

theorem State.arm_disarming {s : State} (h : s.boot.disarming = true) : s.arm = (s.armPend true).retryReset := if_pos h

theorem State.arm_elsewhere {s : State} (hd : s.boot.disarming = false) (h : s.shelf ≠ stPassive) : s.arm = s := by
  unfold State.arm
  rw [hd, if_neg Bool.false_ne_true, if_pos h]

theorem State.arm_refused {s : State} (hd : s.boot.disarming = false) (h : s.shelf = stPassive) (hr : s.armReady = false) :
    s.arm = s.bootRefuse 0x30 0 2 := by
  unfold State.arm
  rw [hd, hr, if_neg Bool.false_ne_true, if_neg (not_not_intro h)]
  rfl

theorem State.arm_taken {s : State} (hd : s.boot.disarming = false) (h : s.shelf = stPassive) (hr : s.armReady = true) :
    s.arm = s.armAsked.armGo := by
  unfold State.arm
  rw [hd, hr, if_neg Bool.false_ne_true, if_neg (not_not_intro h)]
  rfl

theorem State.armAsked_shelf (s : State) : s.armAsked.shelf = s.shelf := s.get_armAsked (by decide) (by decide)

/-- An ARM that is taken begins the sequence, or waits for the minimum off-time. -/
theorem State.arm_begins {s : State} (hd : s.boot.disarming = false) (h : s.shelf = stPassive) (hr : s.armReady = true)
    (hs : s.tooSoon s.brd.offSince = false) : s.arm.shelf = stArming ∧ s.arm.boot.armStep = 1 ∧
      s.arm.get BOOT_STATUS_RETRIES_LEFT = 0 ∧ s.arm.get BOOT_STATUS_ERR_CODE = 0 := by
  have hpassive : s.armAsked.shelf ≠ stArming := by rw [s.armAsked_shelf, h]; decide
  obtain ⟨hshelf, hboot, -, hget⟩ := State.beginArming_shows false hpassive
  rw [State.arm_taken hd h hr, State.armGo_late (s.armAsked_tooSoon.trans hs)]
  exact ⟨hshelf, congrArg Boot.armStep hboot, (hget _ aside_retriesLeft).trans s.armAsked_retriesLeft,
    (hget _ aside_errCode).trans s.armAsked_errCode⟩

theorem State.arm_waits {s : State} (hd : s.boot.disarming = false) (h : s.shelf = stPassive) (hr : s.armReady = true)
    (hs : s.tooSoon s.brd.offSince = true) : s.arm.shelf = stPassive ∧ s.arm.isSet SYS_SHELF_STATE_ARM_PENDING = true ∧
      s.arm.get BOOT_STATUS_RETRIES_LEFT = 0 := by
  rw [State.arm_taken hd h hr, State.armGo_soon (s.armAsked_tooSoon.trans hs)]
  exact ⟨(State.armPend_shelf _ _).trans (s.armAsked_shelf.trans h), State.isSet_armPend _ _,
    (State.get_armPend _ _ (.inl (by decide)) (by decide)).trans s.armAsked_retriesLeft⟩

/-! ### Retries and pending enables (R96, R425, R426) -/

theorem exec_armRetry (s : State) (hp : s.pins.powered = true) : exec .armRetry s =
    if s.boot.retryWait && s.shelf == stPassive && s.armReady && s.get BOOT_STATUS_RETRIES_LEFT != 0 then
      .next (State.armGo (State.set { s with boot := { s.boot with retryWait := false } } BOOT_STATUS_RETRIES_LEFT
        (s.get BOOT_STATUS_RETRIES_LEFT - 1)))
    else .next s := by
  have hexec : exec .armRetry s = execArmRetry s := rfl
  rw [hexec]
  exact State.on_powered _ hp

theorem armRetry_begins {s : State} (hp : s.pins.powered = true) (hw : s.boot.retryWait = true) (h : s.shelf = stPassive)
    (hr : s.armReady = true) (hl : s.get BOOT_STATUS_RETRIES_LEFT ≠ 0) (hs : s.tooSoon s.brd.offSince = false) :
    ∃ t, exec .armRetry s = .next t ∧ t.shelf = stArming ∧ t.boot.armStep = 1 ∧
      t.get BOOT_STATUS_RETRIES_LEFT = s.get BOOT_STATUS_RETRIES_LEFT - 1 ∧ t.boot.retryWait = false := by
  let u : State := State.set { s with boot := { s.boot with retryWait := false } } BOOT_STATUS_RETRIES_LEFT (s.get BOOT_STATUS_RETRIES_LEFT - 1)
  have hkeep : ∀ {f : Field}, BOOT_STATUS ≠ f.addr → u.get f = s.get f := fun hf => State.get_set_apart _ _ _ _ (.inl hf)
  have hleft : u.get BOOT_STATUS_RETRIES_LEFT = s.get BOOT_STATUS_RETRIES_LEFT - 1 := by
    have hlt : s.get BOOT_STATUS_RETRIES_LEFT < 16 := s.get_lt BOOT_STATUS_RETRIES_LEFT
    exact (State.get_set_same _ _ _ (by decide)).trans (Nat.mod_eq_of_lt (show s.get BOOT_STATUS_RETRIES_LEFT - 1 < 16 by omega))
  have hsoon : u.tooSoon u.brd.offSince = false := (State.tooSoon_congr (s := s) (hkeep (by decide)) rfl _).trans hs
  have hpassive : u.shelf ≠ stArming := by
    rw [show u.shelf = stPassive from (hkeep (by decide)).trans h]
    decide
  obtain ⟨hshelf, hboot, -, hget⟩ := State.beginArming_shows false hpassive
  refine ⟨u.armGo, ?_, ?_⟩
  · rw [exec_armRetry s hp, if_pos (by simp [hw, h, hr, hl])]
  · rw [State.armGo_late hsoon]
    exact ⟨hshelf, congrArg Boot.armStep hboot, (hget _ aside_retriesLeft).trans hleft, congrArg Boot.retryWait hboot⟩

theorem exec_pendingShelf (s : State) (hp : s.pins.powered = true) : exec (.pendingEnableExpiry .shelf) s = .next s.armDue := by
  have hexec : exec (.pendingEnableExpiry .shelf) s = execPendingEnableExpiry .shelf s := rfl
  rw [hexec]
  exact State.on_powered _ hp

theorem exec_pendingCascade (s : State) (c : CasNo) (hp : s.pins.powered = true) : exec (.pendingEnableExpiry (.cascade c)) s =
    if s.isSet (REIN_CAS_STATUS_ENABLE_PENDING c.val) && s.casSt c.val == 0 then
      .next (if (s.casPending c.val false).inService && !(s.casPending c.val false).boot.disarming then
        (s.casPending c.val false).casBegin c.val else s.casPending c.val false)
    else .next s := by
  have hexec : exec (.pendingEnableExpiry (.cascade c)) s = execPendingEnableExpiry (.cascade c) s := rfl
  rw [hexec]
  exact State.on_powered _ hp

theorem exec_pendingGroup (s : State) (g : GrpNo) (hp : s.pins.powered = true) : exec (.pendingEnableExpiry (.group g)) s =
    if bitOf (s.get BRD_PENDING_GRP) g.val then
      .next ((s.set BRD_PENDING_GRP (bitPut (s.get BRD_PENDING_GRP) g.val false)).groupUp g.val)
    else .next s := by
  have hexec : exec (.pendingEnableExpiry (.group g)) s = execPendingEnableExpiry (.group g) s := rfl
  rw [hexec]
  exact State.on_powered _ hp

theorem State.armDue_none {s : State} (h : s.isSet SYS_SHELF_STATE_ARM_PENDING = false) : s.armDue = s := by
  unfold State.armDue
  rw [h]
  rfl

theorem State.armDue_eq {s : State} (h : s.isSet SYS_SHELF_STATE_ARM_PENDING = true) (hp : s.shelf = stPassive) : s.armDue =
    if s.armReady then (s.armPend false).bootErrClear.beginArming false else (s.armPend false).bootRefuse 0x30 0 2 := by
  unfold State.armDue
  rw [h, hp]
  exact congrArg (fun b : Bool => if b then (s.armPend false).bootErrClear.beginArming false else (s.armPend false).bootRefuse 0x30 0 2)
    (s.armReady_armPend false)

/-- A pending ARM begins the sequence where it may start. -/
theorem State.armDue_begins {s : State} (h : s.isSet SYS_SHELF_STATE_ARM_PENDING = true) (hp : s.shelf = stPassive)
    (hr : s.armReady = true) : s.armDue.shelf = stArming ∧ s.armDue.boot.armStep = 1 ∧ s.armDue.isSet SYS_SHELF_STATE_ARM_PENDING = false := by
  have hclear : ∀ {f : Field}, f.addr = SYS_SHELF_STATE → (s.armPend false).bootErrClear.get f = (s.armPend false).get f :=
    fun hf => State.get_bootErr _ _ _ (by rw [hf]; decide) (by rw [hf]; decide)
  have hpassive : (s.armPend false).bootErrClear.shelf ≠ stArming := by
    rw [show (s.armPend false).bootErrClear.shelf = stPassive from (hclear rfl).trans ((s.armPend_shelf false).trans hp)]
    decide
  obtain ⟨hshelf, hboot, hpend, -⟩ := State.beginArming_shows false hpassive
  rw [State.armDue_eq h hp, if_pos hr]
  exact ⟨hshelf, congrArg Boot.armStep hboot, (State.isSet_of_get (hpend.trans (hclear rfl))).trans (s.isSet_armPend false)⟩

/-- A pending ARM that may no longer start is refused. -/
theorem State.armDue_refused {s : State} (h : s.isSet SYS_SHELF_STATE_ARM_PENDING = true) (hp : s.shelf = stPassive)
    (hr : s.armReady = false) : s.armDue.shelf = stPassive ∧ s.armDue.get BOOT_STATUS_ERR_CODE = 0x30 ∧
      s.armDue.isSet SYS_SHELF_STATE_ARM_PENDING = false := by
  obtain ⟨hcode, -⟩ := (s.armPend false).bootRefuse_shows 0x30 0 2
  have hpanel := (s.armPend false).bootRefuse_panel 0x30 0 2
  rw [State.armDue_eq h hp, hr, if_neg Bool.false_ne_true]
  exact ⟨(State.bootRefuse_shelf _ _ _ _).trans ((s.armPend_shelf false).trans hp), hcode,
    (State.isSet_of_get (get_of_shelfWord (shelfWord_of_panel hpanel) rfl)).trans (s.isSet_armPend false)⟩

/-- What a cascade whose pending enable ends shows. -/
theorem State.casPending_shows (s : State) (c : Nat) : (s.casPending c false).isSet (REIN_CAS_STATUS_ENABLE_PENDING c) = false ∧
    (s.casPending c false).inService = s.inService ∧ (s.casPending c false).boot = s.boot := by
  have hstatus : REIN_CAS_STATUS c % 0x40 = 0x38 := by unfold REIN_CAS_STATUS; omega
  have hshelf : (s.casPending c false).shelf = s.shelf :=
    (State.get_set_apart _ _ _ _ (.inl (by decide))).trans (s.get_set_apart _ _ _ (.inl fun h => by
      have hz := congrArg (· % 0x40) h
      exact absurd (hstatus.symm.trans hz) (by decide)))
  refine ⟨?_, ?_, rfl⟩
  · exact (State.isSet_of_get (State.get_set_apart _ _ _ _ (.inl fun h => by
      have hz := congrArg (· % 0x40) h
      exact absurd (hz.trans hstatus) (by decide)))).trans (s.isSet_set_zero _ (by show 2 + 1 ≤ 32; decide))
  · unfold State.inService
    rw [hshelf]

/-- A cascade that begins is starting; its pending bit stays as it is. -/
theorem State.casBegin_shows (s : State) (c : Nat) : (s.casBegin c).casSt c = 1 ∧
    (s.casBegin c).isSet (REIN_CAS_STATUS_ENABLE_PENDING c) = s.isSet (REIN_CAS_STATUS_ENABLE_PENDING c) :=
  ⟨State.get_set_same _ (REIN_CAS_STATUS_STATE c) 1 (by show 0 + 2 ≤ 32; decide),
    State.isSet_of_get (State.get_set_apart _ (REIN_CAS_STATUS_STATE c) _ 1 (.inr (.inl (by show 0 + 2 ≤ 2; decide))))⟩

theorem pendingCascade_begins {s : State} (hp : s.pins.powered = true) (c : CasNo)
    (h : s.isSet (REIN_CAS_STATUS_ENABLE_PENDING c.val) = true) (hst : s.casSt c.val = 0) :
    ∃ t, exec (.pendingEnableExpiry (.cascade c)) s = .next t ∧ t.isSet (REIN_CAS_STATUS_ENABLE_PENDING c.val) = false ∧
      (s.inService = true → s.boot.disarming = false → t.casSt c.val = 1) := by
  obtain ⟨hpend, hserv, hboot⟩ := s.casPending_shows c.val
  obtain ⟨hcas, hkeep⟩ := (s.casPending c.val false).casBegin_shows c.val
  refine ⟨_, (exec_pendingCascade s c hp).trans (if_pos (by simp [h, hst])), ?_, fun hs hd => ?_⟩
  · split
    · exact hkeep.trans hpend
    · exact hpend
  · rw [if_pos (by rw [hserv, hboot, hs, hd]; rfl)]
    exact hcas

/-! ### The obligation -/

/-- Settles O27, by the branches of ARM, of a retry and of a pending enable; an attempt that begins is an entry of ARMING. -/
theorem armingStarts : Obligations.ArmingStarts := by
  intro s hp
  refine ⟨fun hd h hr hs => ⟨_, exec_arm s hp, State.arm_begins hd h hr hs⟩, fun hd h hr hs => ⟨_, exec_arm s hp, State.arm_waits hd h hr hs⟩,
    fun hd h hr => ⟨_, exec_arm s hp, ?_⟩, fun hd h => by rw [exec_arm s hp, State.arm_elsewhere hd h],
    fun hd => ⟨_, exec_arm s hp, ?_⟩, fun hw h hr hl hs => armRetry_begins hp hw h hr hl hs, fun h => ?_,
    fun h hs hr => ⟨_, exec_pendingShelf s hp, State.armDue_begins h hs hr⟩,
    fun h hs hr => ⟨_, exec_pendingShelf s hp, State.armDue_refused h hs hr⟩, fun c h hst => pendingCascade_begins hp c h hst,
    fun g h => by rw [exec_pendingGroup s g hp, if_pos h], fun c g hs hc hg => ?_⟩
  · rw [State.arm_refused hd h hr]
    exact ⟨(s.bootRefuse_shelf _ _ _).trans h, (s.bootRefuse_shows 0x30 0 2).1, congrArg Boot.armStep (s.bootRefuse_boot _ _ _)⟩
  · have hkeep : ∀ {f : Field}, BOOT_STATUS ≠ f.addr → (s.armPend true).retryReset.get f = (s.armPend true).get f :=
      fun hf => State.get_set_apart _ _ _ _ (.inl hf)
    rw [State.arm_disarming hd]
    exact ⟨(hkeep (by decide)).trans (s.armPend_shelf true), (State.isSet_of_get (hkeep (by decide))).trans (s.isSet_armPend true), hd⟩
  · rw [exec_armRetry s hp, if_neg]
    rcases h with h | h | h | h <;> simp [h]
  · refine ⟨by rw [exec_pendingShelf s hp, State.armDue_none hs], ?_, ?_⟩
    · rw [exec_pendingCascade s c hp, hc]
      rfl
    · rw [exec_pendingGroup s g hp, if_neg (by rw [hg]; exact Bool.false_ne_true)]

end Sys2Proof.Machine


namespace Sys2Proof.Machine

/-! ### The entry of PASSIVE (R97, R424) -/

theorem Seen.put_field_ne (x : Seen) {f g : Field} (v : Nat) (hg : Shown g) (h : g ≠ f) : (x.put f v).field ⟨g, hg⟩ = x.field ⟨g, hg⟩ :=
  if_neg h

theorem State.harnessOff_seen (s : State) : s.harnessOff.seen = s.seen := by
  have hpark : (forN 104 (fun n t => t.chPark n chOff) s).seen = s.seen := forN_seen s fun n _ t => t.chPark_seen n chOff
  have hgroups : ∀ u : State, (forN 13 (fun i t =>
      if t.get (HRN_GRP_STATUS_STATE i) = 4 then t else t.set (HRN_GRP_STATUS_STATE i) 0) u).seen = u.seen :=
    fun u => forN_seen u fun g _ t => seen_ite_of rfl (t.setGrpState_seen g 0)
  have hstop : ∀ (t : State) (o : Option Nat) (l : List Nat) (h : Hrn),
      State.seen { t with brd := { t.brd with offSince := o, stringFrac := l }, hrn := h } = t.seen := fun _ _ _ _ => rfl
  unfold State.harnessOff
  dsimp only
  rw [State.dropCodes_seen, hstop, hgroups, State.showActive_seen, hpark]

theorem State.entering_seen (s : State) (st : Nat) : (s.entering st).seen = s.seen.put SYS_SHELF_STATE_STATE st := by
  unfold State.entering
  rw [State.tuneAbort_seen, State.fireOnState_seen, State.record_seen, State.raiseBit_seen _ _ (by decide), s.put_seen st (.inl (by decide))]

/-- The entry of PASSIVE shows the state. -/
theorem State.enterPassive_seen (s : State) : (s.enter stPassive).seen = s.seen.put SYS_SHELF_STATE_STATE stPassive := by
  by_cases h : s.shelf = stPassive
  · have hself := s.put_self SYS_SHELF_STATE_STATE
    rw [show s.get SYS_SHELF_STATE_STATE = stPassive from h] at hself
    rw [hself, ← h, State.enter_self]
  · rw [State.enter_passive h, State.showWait_seen, State.harnessOff_seen, State.set_seen _ _ (by decide), State.entering_seen]

theorem State.entering_brd (s : State) (st : Nat) : (s.entering st).brd = s.brd := by
  have hfire : ∀ t : State, (t.fireOnState st).bystanders = t.bystanders := fun t =>
    forN_bystanders t fun l u => bystanders_ite_of (bystanders_of_apart (p := {}) rfl rfl (u.fireList_apart l)) rfl
  refine brd_of_bystanders (s := s) ?_
  unfold State.entering
  rw [State.tuneAbort_bystanders, hfire, State.record_bystanders, State.raiseBit_bystanders, State.set_bystanders]

theorem State.dropCodes_starts (s : State) (p : Nat → Bool) : (s.dropCodes p).brd.starts = s.brd.starts := by
  unfold State.dropCodes
  dsimp only
  split
  · rw [State.raiseBit_brd]
    rfl
  · rfl

theorem State.harnessOff_starts (s : State) : s.harnessOff.brd.starts = s.brd.starts := by
  have hpark : (forN 104 (fun n t => t.chPark n chOff) s).brd = s.brd := forN_keeps State.brd s fun _ _ => rfl
  have hactive : ∀ t : State, t.showActive.brd = t.brd := fun t => forN_keeps State.brd _ fun _ _ => rfl
  have hgroups : ∀ u : State, (forN 13 (fun i t =>
      if t.get (HRN_GRP_STATUS_STATE i) = 4 then t else t.set (HRN_GRP_STATUS_STATE i) 0) u).brd = u.brd := fun u =>
    forN_keeps State.brd u fun i t => by split <;> rfl
  unfold State.harnessOff
  dsimp only
  rw [State.dropCodes_starts, hgroups, hactive, hpark]

/-- The entry of PASSIVE leaves the times of the recovery starts. -/
theorem State.enterPassive_starts (s : State) : (s.enter stPassive).brd.starts = s.brd.starts := by
  by_cases h : s.shelf = stPassive
  · rw [← h, State.enter_self]
  · have hwait : ∀ t : State, t.showWait.brd = t.brd := fun _ => rfl
    rw [State.enter_passive h, hwait, State.harnessOff_starts, State.set_brd, State.entering_brd]

/-! ### CLEAR_LATCH (R70, R424) -/

theorem exec_clearLatch (s : State) (hp : s.pins.powered = true) : exec .clearLatch s = .next s.clearLatch := by
  have hexec : exec .clearLatch s = execClearLatch s := rfl
  rw [hexec]
  exact State.on_powered _ hp

theorem State.clearLatch_elsewhere {s : State} (h : s.shelf ≠ stLatched) : s.clearLatch = s := if_pos h

theorem State.clearLatch_refused {s : State} {c : Nat} (h : s.shelf = stLatched) (hc : s.lowestActive = some c) :
    s.clearLatch = s.bootRefuse 0x31 c 8 := by
  unfold State.clearLatch
  rw [if_neg (not_not_intro h), hc]

/-- The state in which CLEAR_LATCH enters PASSIVE. -/
def State.latchCleared (s : State) : State :=
  State.set { s.clearCauses with brd := { s.clearCauses.brd with starts := [] }, boot := { s.boot with disarmKept := false } }
    BRD_STATUS_SS_USED 0

theorem State.clearLatch_taken {s : State} (h : s.shelf = stLatched) (hc : s.lowestActive = none) :
    s.clearLatch = s.latchCleared.enter stPassive := by
  unfold State.clearLatch
  rw [if_neg (not_not_intro h), hc]
  rfl

theorem State.latchCleared_causes (s : State) : s.latchCleared.brd.causes = [] :=
  congrArg Seen.causes s.clearCauses_seen

theorem State.latchCleared_ssUsed (s : State) : s.latchCleared.get BRD_STATUS_SS_USED = 0 := State.get_set_same _ _ _ (by decide)

/-- What CLEAR_LATCH shows where no code of the set is active. -/
theorem State.clearLatch_shows {s : State} (h : s.shelf = stLatched) (hc : s.lowestActive = none) :
    s.clearLatch.shelf = stPassive ∧ s.clearLatch.brd.causes = [] ∧ s.clearLatch.brd.starts = [] ∧ s.clearLatch.get BRD_STATUS_SS_USED = 0 := by
  have hseen := s.latchCleared.enterPassive_seen
  have hshown : Shown BRD_STATUS_SS_USED := .inl (by decide)
  rw [State.clearLatch_taken h hc]
  refine ⟨State.shelf_enter _ (by decide), ?_, (State.enterPassive_starts _).trans rfl, ?_⟩
  · exact (congrArg Seen.causes hseen).trans s.latchCleared_causes
  · exact (State.get_of_seen hseen hshown).trans ((Seen.put_field_ne _ _ hshown (by decide)).trans s.latchCleared_ssUsed)

/-! ### The orderly stop ends (R71, R97) -/

theorem exec_disarmComplete (s : State) (hp : s.pins.powered = true) : exec .disarmComplete s =
    if s.boot.disarming && s.armedStates then .next (if s.disarmed then s.toPassive else s)
    else if s.boot.disarmKept && s.shelf == stIsolated && !s.isSet SYS_CONN_STATUS_ISO_FB && !s.isSet HRN_OV_CTRL_LATCHED then .next s.toPassive
    else .next s := by
  have hexec : exec .disarmComplete s = execDisarmComplete s := rfl
  rw [hexec]
  exact State.on_powered _ hp

/-- The power path is off: the isolation switch, the contactors and the phase boards. -/
def State.pathOff (s : State) : State :=
  { s with
    pins := { s.pins with isoEn := false, contEn := [false, false], drvEn := [false, false, false, false] }
    brd := { s.brd with openDue := [], openAfterOv := [], ssWindow := false, ssOff := false, returning := [] }
    boot := { s.boot with armStep := 0, contRequested := false, rearm := false, disarming := false, disarmKept := false } }

theorem State.toPassive_eq (s : State) : s.toPassive =
    ((State.set (if s.pins.contEn.any id then s.cascadesOff.windowOff.pathOff.jnlTrigger 2 else s.cascadesOff.windowOff.pathOff)
      BRD_STATUS_RECOV 0).clearCauses).enter stPassive := rfl

/-- What the end of an orderly stop shows. -/
theorem State.toPassive_shows (s : State) : s.toPassive.shelf = stPassive ∧ s.toPassive.pins.isoEn = false ∧
    s.toPassive.pins.contEn = [false, false] ∧ s.toPassive.pins.drvEn = [false, false, false, false] ∧
    s.toPassive.boot.disarming = false ∧ s.toPassive.boot.disarmKept = false ∧ s.toPassive.get BRD_STATUS_RECOV = 0 ∧
    s.toPassive.brd.causes = [] := by
  have hoff : (if s.pins.contEn.any id then s.cascadesOff.windowOff.pathOff.jnlTrigger 2 else s.cascadesOff.windowOff.pathOff).seen =
      s.cascadesOff.windowOff.pathOff.seen := seen_ite_of (State.jnlTrigger_seen _ _) rfl
  rw [State.toPassive_eq]
  generalize (if s.pins.contEn.any id then s.cascadesOff.windowOff.pathOff.jnlTrigger 2 else s.cascadesOff.windowOff.pathOff) = u at hoff
  have hseen := (u.set BRD_STATUS_RECOV 0).clearCauses.enterPassive_seen
  rw [State.clearCauses_seen, State.put_seen _ 0 (.inl (by decide)), hoff] at hseen
  exact ⟨State.shelf_enter _ (by decide), congrArg (fun x => x.pins.isoEn) hseen, congrArg (fun x => x.pins.contEn) hseen,
    congrArg (fun x => x.pins.drvEn) hseen, congrArg (fun x => x.boot.disarming) hseen, congrArg (fun x => x.boot.disarmKept) hseen,
    State.get_of_seen hseen (.inl (by decide)), congrArg Seen.causes hseen⟩

end Sys2Proof.Machine


namespace Sys2Proof.Machine

/-! ### The armed states stay while the orderly stop runs (R97) -/

theorem State.armedStates_of_seen {s t : State} (h : t.seen = s.seen) : t.armedStates = s.armedStates :=
  State.armedStates_of_shelf (State.get_of_seen h (.inl (by decide)))

theorem armedStates_ite {c : Prop} [Decidable c] {s t : State} (hs : s.armedStates = true) (ht : t.armedStates = true) :
    (if c then s else t).armedStates = true := by
  split <;> assumption

/-- DERATE moves the shelf between two of the armed states. -/
theorem State.armed_showDerate {s : State} (h : s.armedStates = true) : s.showDerate.armedStates = true := by
  have hset : ∀ b : Bool, (s.setB BRD_STATUS_DERATE b).armedStates = true := fun b =>
    (State.armedStates_of_shelf (s.get_set_apart _ _ _ (.inl (by decide)))).trans h
  have henter : ∀ (t : State) (st : Nat), st = stDerated ∨ st = stArmed → (t.enter st).armedStates = true := by
    intro t st hst
    have hshelf : (t.enter st).shelf = st := t.shelf_enter (by rcases hst with rfl | rfl <;> decide)
    unfold State.armedStates State.inService
    rw [hshelf]
    rcases hst with rfl | rfl <;> rfl
  exact armedStates_ite (henter _ _ (.inl rfl)) (armedStates_ite (henter _ _ (.inr rfl)) (hset _))

/-- A code of class F0 that opens no contactor leaves an armed shelf armed. -/
theorem State.armed_raise {s : State} {code idx : Nat} (m t : Int) (hcls : s.classOf code idx = 0) (h8 : code ≠ 0x0408)
    (h9 : code ≠ 0x0409) (h : s.armedStates = true) : (s.raise code idx m t).armedStates = true := by
  have hlog : (s.logCode code idx 0 m t).armedStates = true := (State.armedStates_of_shelf
    (get_of_shelfWord (shelfWord_of_panel (s.logCode_panel code idx 0 m t)) rfl)).trans h
  have hlevel : ∀ u : State, u.armedStates = true → (if isLevel code then
      { u with brd := { u.brd with active := u.brd.active ++ [(code, idx)] } } else u).armedStates = true := fun u hu => armedStates_ite hu hu
  have hevt : ∀ u : State, u.armedStates = true → (u.raiseBit BRD_EVT_DERATE 243).armedStates = true := fun u hu =>
    (State.armedStates_of_seen (u.raiseBit_seen _ (by decide))).trans hu
  unfold State.raise
  refine armedStates_ite h ?_
  dsimp only
  rw [hcls, if_neg (by decide), if_neg (by decide), if_pos rfl]
  unfold State.takeF0
  dsimp only
  rw [if_neg h8, if_neg h9]
  exact armedStates_ite (State.armed_showDerate (hevt _ (hlevel _ hlog))) (hlevel _ hlog)

theorem State.armed_unraise {s : State} (code idx : Nat) (h : s.armedStates = true) : (s.unraise code idx).armedStates = true := by
  have hdrop : ∀ l : List (Nat × Nat), State.armedStates { s with brd := { s.brd with active := l } } = true := fun _ => h
  have hderate : ∀ u : State, u.armedStates = true →
      (if isDerating code then (u.raiseBit BRD_EVT_DERATE 243).showDerate else u).armedStates = true := fun u hu =>
    armedStates_ite (State.armed_showDerate ((State.armedStates_of_seen (u.raiseBit_seen _ (by decide))).trans hu)) hu
  unfold State.unraise
  refine armedStates_ite ?_ h
  rw [State.armedStates_of_seen (State.checkHoldoff_seen _)]
  exact hderate _ (hdrop _)

/-- What every step of a loop keeps, the loop keeps. -/
theorem forL_invariant {α : Type} {P : State → Prop} {l : List α} {f : α → State → State} (hf : ∀ x t, P t → P (f x t)) {s : State}
    (h : P s) : P (forL l f s) := by
  unfold forL
  induction l generalizing s with
  | nil => exact h
  | cons x l ih => exact ih (hf x s h)

theorem State.armed_checkCounts {s : State} (h : s.armedStates = true) : s.checkCounts.armedStates = true := by
  unfold State.checkCounts
  refine armedStates_ite h (forL_invariant (P := fun t => t.armedStates = true) (fun x t ht => ?_) h)
  exact armedStates_ite (State.armed_raise _ _ rfl (by decide) (by decide) ht) (State.armed_unraise _ _ ht)

theorem State.armed_disarmStep {s : State} (h : s.armedStates = true) : s.disarmStep.armedStates = true := by
  have hshed : (forN 104 (fun n t => if t.chSt n = chRun ∨ t.chSt n = chRestarting then t.beginShed n else t) s).seen = s.seen :=
    forN_seen s fun n _ t => seen_ite_of (t.beginShed_seen n) rfl
  have hafter : ∀ t : State, t.armedStates = true → t.afterChans.armedStates = true := fun t ht =>
    State.armed_checkCounts ((State.armedStates_of_seen ((State.showActive_seen _).trans (forN_seen t fun g _ u => u.groupStopped_seen g))).trans ht)
  unfold State.disarmStep
  refine armedStates_ite h ?_
  split
  next c _ =>
    exact armedStates_ite ((State.armedStates_of_seen (s.casOff_seen c)).trans h)
      (armedStates_ite h ((State.armedStates_of_seen (s.setCas_seen c _ _ 3)).trans h))
  next => exact armedStates_ite h (hafter _ ((State.armedStates_of_seen hshed).trans h))

/-- While a cascade but L1's runs, the stop waits for it. -/
theorem State.disarmStep_waits {s : State} {c : Nat} (hc : c < 8) (hd : s.casDest c ≠ 4) (hs : s.casSt c ≠ 0) : s.disarmStep = s := by
  have hany : (List.range 8).any (fun c => s.casDest c != 4 && s.casSt c != 0) = true :=
    List.any_eq_true.2 ⟨c, List.mem_range.2 hc, by simp [hd, hs]⟩
  unfold State.disarmStep
  rw [if_pos (by rw [hany, Bool.or_true])]

/-! ### The cascades that the orderly stop takes down (R97) -/

/-- A cascade but L1's that starts or runs is stopping. -/
def State.casStop (s : State) (c : Nat) : State :=
  if s.casDest c ≠ 4 ∧ (s.casSt c = 1 ∨ s.casSt c = 2) then s.set (REIN_CAS_STATUS_STATE c) 3 else s

theorem State.casSt_setCas (s : State) (c k v : Nat) : (s.set (REIN_CAS_STATUS_STATE k) v).casSt c = if k = c then v % 4 else s.casSt c := by
  split
  next h => exact h ▸ s.get_set_same _ v (by show 0 + 2 ≤ 32; decide)
  next h =>
    refine s.get_set_apart _ _ v (.inl fun h' => h ?_)
    have : 0x201038 + 0x40 * k = 0x201038 + 0x40 * c := h'
    omega

theorem State.casDest_setCas (s : State) (c k lo w v : Nat) : (s.set ⟨REIN_CAS_STATUS k, lo, w⟩ v).casDest c = s.casDest c := by
  refine s.get_set_apart _ _ v (.inl fun h => ?_)
  have : 0x201038 + 0x40 * k = 0x201004 + 0x40 * c := h
  omega

/-- A cascade but L1's that starts, runs or stops. -/
def State.goes (s : State) (c : Nat) : Prop := s.casDest c ≠ 4 ∧ (s.casSt c = 1 ∨ s.casSt c = 2 ∨ s.casSt c = 3)

/-- A cascade but L1's that is stopping. -/
def State.stops (s : State) (c : Nat) : Prop := s.casDest c ≠ 4 ∧ s.casSt c = 3

theorem State.goes_casStop {s : State} {c : Nat} (k : Nat) (h : s.goes c) : (s.casStop k).goes c := by
  unfold State.casStop
  split
  · refine ⟨(s.casDest_setCas c k _ _ 3).trans_ne h.1, ?_⟩
    rw [State.casSt_setCas]
    split
    · exact .inr (.inr rfl)
    · exact h.2
  · exact h

theorem State.stops_casStop {s : State} {c : Nat} (k : Nat) (h : s.stops c) : (s.casStop k).stops c := by
  unfold State.casStop
  split
  · refine ⟨(s.casDest_setCas c k _ _ 3).trans_ne h.1, ?_⟩
    rw [State.casSt_setCas]
    split
    · rfl
    · exact h.2
  · exact h

theorem State.stops_casStop_same {s : State} {c : Nat} (h : s.goes c) : (s.casStop c).stops c := by
  obtain ⟨hd, hs⟩ := h
  unfold State.casStop
  split
  · exact ⟨(s.casDest_setCas c c _ _ 3).trans_ne hd, (s.casSt_setCas c c 3).trans (if_pos rfl)⟩
  next hn =>
    refine ⟨hd, ?_⟩
    rcases hs with hs | hs | hs
    · exact absurd ⟨hd, .inl hs⟩ hn
    · exact absurd ⟨hd, .inr hs⟩ hn
    · exact hs

theorem State.stops_casStops {s : State} {c : Nat} (hc : c < 8) (h : s.goes c) : (forN 8 (fun k t => t.casStop k) s).stops c := by
  obtain ⟨l, r, hl⟩ := List.append_of_mem (List.mem_range.2 hc)
  have hsplit : forN 8 (fun k t => t.casStop k) s = forL r (fun k t => t.casStop k) ((forL l (fun k t => t.casStop k) s).casStop c) := by
    unfold forN forL
    rw [hl, List.foldl_append, List.foldl_cons]
  rw [hsplit]
  exact forL_invariant (P := fun t => t.stops c) (fun k _ => State.stops_casStop k)
    (State.stops_casStop_same (forL_invariant (P := fun t => t.goes c) (fun k _ => State.goes_casStop k) h))

/-! ### DISARM (R70, R71, R96, R97, R421) -/

theorem exec_disarm (s : State) (hp : s.pins.powered = true) : exec .disarm s = .next s.disarm := by
  have hexec : exec .disarm s = execDisarm s := rfl
  rw [hexec]
  exact State.on_powered _ hp

theorem State.disarm_stopping {s : State} (hd : s.boot.disarming = true) : s.disarm = s.armPend false := if_pos hd

theorem State.disarm_armed {s : State} (hd : s.boot.disarming = false) (h : s.armedStates = true) : s.disarm = s.disarmBegin := by
  unfold State.disarm
  rw [hd, if_neg Bool.false_ne_true, if_pos h]

/-- Outside the armed states. -/
theorem State.disarm_unarmed {s : State} (hd : s.boot.disarming = false) (h : s.armedStates = false) : s.disarm =
    if s.shelf = stIsolated then { s with boot := { s.boot with disarmKept := true } }
    else if s.shelf = stPassive then { s.armPend false with boot := { s.boot with retryWait := false } }
    else s := by
  unfold State.disarm
  rw [hd, h, if_neg Bool.false_ne_true, if_neg Bool.false_ne_true]

theorem State.armedStates_outside {s : State} {st : Nat} (h : s.shelf = st) (hst : st = stPassive ∨ st = stIsolated ∨ st = stLatched) :
    s.armedStates = false := by
  unfold State.armedStates State.inService
  rw [h]
  rcases hst with rfl | rfl | rfl <;> rfl

/-- The feed-forward's end moves a cascade's outputs alone. -/
theorem State.ffIntoBase_keeps (s : State) : s.ffIntoBase.seen = s.seen ∧
    ∀ f : Field, f.addr % 0x40 < 0x34 ∨ f.addr % 0x40 = 0x38 → s.ffIntoBase.get f = s.get f := by
  have hbase : ∀ c, REIN_CAS_OUT_BASE c % 0x40 = 0x3C := fun c => by unfold REIN_CAS_OUT_BASE; omega
  have hout : ∀ c, REIN_CAS_OUT c % 0x40 = 0x34 := fun c => by unfold REIN_CAS_OUT; omega
  unfold State.ffIntoBase
  split
  next c _ =>
    split
    · exact ⟨rfl, fun _ _ => rfl⟩
    · refine ⟨(State.wr_seen _ _ ?_).trans (s.wr_seen _ ?_), fun f hf => (State.get_wr_ne _ _ ?_).trans (s.get_wr_ne _ ?_)⟩
      · unfold REIN_CAS_OUT Hidden; omega
      · unfold REIN_CAS_OUT_BASE Hidden; omega
      · have := hout c; intro h; rw [h] at hf; omega
      · have := hbase c; intro h; rw [h] at hf; omega
  · exact ⟨rfl, fun _ _ => rfl⟩

/-- A cascade's state is apart from the other fields of its status, and from the tune's. -/
theorem State.casSt_setFlag (s : State) (c k lo w v : Nat) (h : 2 ≤ lo) : (s.set ⟨REIN_CAS_STATUS k, lo, w⟩ v).casSt c = s.casSt c :=
  s.get_set_apart _ _ v (.inr (.inr h))

theorem State.casSt_setTune (s : State) (c lo w v : Nat) : (s.set ⟨REIN_TUNE_STATUS, lo, w⟩ v).casSt c = s.casSt c := by
  refine s.get_set_apart _ _ v (.inl fun h => ?_)
  have : 0x200084 = 0x201038 + 0x40 * c := h
  omega

/-- A tune's end leaves a cascade that starts or runs going. -/
theorem State.goes_tuneAbort {s : State} {c : Nat} (cause : Nat) (hc : c < 8) (hd : s.casDest c ≠ 4) (hs : s.casSt c = 1 ∨ s.casSt c = 2) :
    (s.tuneAbort cause).goes c := by
  refine ⟨(get_of_beside (State.tuneAbort_beside (untuned_dest hc).aside s cause)).trans_ne hd, ?_⟩
  unfold State.tuneAbort
  split
  · rcases hs with hs | hs
    · exact .inl hs
    · exact .inr (.inl hs)
  next t _ =>
    have hshown : ∀ u : State, ((((u.clear (REIN_CAS_STATUS_TUNING t.cas)).set REIN_TUNE_STATUS_STATE 5).set REIN_TUNE_STATUS_CAUSE cause).raiseBit
        REIN_TUNE_STATUS_DONE 234).casSt c = u.casSt c := fun u =>
      (State.get_raiseBit_apart _ _ _ _ (.inl (by show 0x200084 ≠ 0x201038 + 0x40 * c; omega))).trans ((State.casSt_setTune _ c _ _ _).trans
        ((State.casSt_setTune _ c _ _ _).trans (u.casSt_setFlag c t.cas 5 1 0 (by decide))))
    dsimp only
    rw [hshown]
    split
    · rw [State.casSt_setCas]
      split
      · exact .inl rfl
      · rcases hs with hs | hs
        · exact .inl hs
        · exact .inr (.inl hs)
    · rcases hs with hs | hs
      · exact .inl hs
      · exact .inr (.inl hs)

/-- The orderly stop has begun: the tune and the feed-forward have ended. -/
def State.stopAsked (s : State) : State :=
  { (s.tuneAbort 5).ffIntoBase with
    boot := { (s.tuneAbort 5).ffIntoBase.boot with disarming := true }, rein := { (s.tuneAbort 5).ffIntoBase.rein with restart := [] } }

/-- The cascades stop, the recovery has ended, and the journal is triggered. -/
def State.stopBegun (s : State) : State := (((forN 8 (fun k t => t.casStop k) s.stopAsked).set BRD_STATUS_RECOV 0).clearCauses).jnlTrigger 1

theorem State.disarmBegin_eq (s : State) : s.disarmBegin = s.stopBegun.disarmStep := rfl

theorem State.stopAsked_seen (s : State) : s.stopAsked.seen = { s.seen with boot := { s.boot with disarming := true } } := by
  have hbefore : (s.tuneAbort 5).ffIntoBase.seen = s.seen := ((s.tuneAbort 5).ffIntoBase_keeps.1).trans (s.tuneAbort_seen 5)
  have hboot : (s.tuneAbort 5).ffIntoBase.boot = s.boot := congrArg Seen.boot hbefore
  have hset : s.stopAsked.seen = { (s.tuneAbort 5).ffIntoBase.seen with
      boot := { (s.tuneAbort 5).ffIntoBase.boot with disarming := true } } := rfl
  rw [hset, hbefore, hboot]

theorem State.stopBegun_seen (s : State) :
    s.stopBegun.seen = { s.seen.put BRD_STATUS_RECOV 0 with boot := { s.boot with disarming := true }, causes := [] } := by
  have hstop : ∀ t : State, (forN 8 (fun k u => u.casStop k) t).seen = t.seen := fun t =>
    forN_seen t fun k _ u => seen_ite_of (u.setCas_seen k _ _ 3) rfl
  unfold State.stopBegun
  rw [State.jnlTrigger_seen, State.clearCauses_seen, State.put_seen _ 0 (.inl (by decide)), hstop, State.stopAsked_seen]
  rfl

theorem State.casSt_setElse (s : State) {c : Nat} {f : Field} (v : Nat) (hc : c < 8) (hf : f.addr < 0x201000 ∨ 0x201200 ≤ f.addr) :
    (s.set f v).casSt c = s.casSt c := by
  refine s.get_set_apart f _ v (.inl fun h => ?_)
  have : f.addr = 0x201038 + 0x40 * c := h
  omega

theorem State.casSt_jnlTrigger (s : State) {c : Nat} (hc : c < 8) (bit : Nat) : (s.jnlTrigger bit).casSt c = s.casSt c := by
  have hset : ∀ (t : State) (f : Field) (v : Nat), f.addr = EST_JNL_STATUS → (t.set f v).casSt c = t.casSt c :=
    fun t f v hf => t.casSt_setElse v hc (.inr (by rw [hf]; decide))
  have hstart : ∀ t : State, t.jnlStart.casSt c = t.casSt c := fun t => get_ite_of ((hset _ _ _ rfl).trans (hset _ _ _ rfl)) rfl
  exact get_ite_of (hset _ _ _ rfl) ((hstart _).trans (hset _ _ _ rfl))

/-- What the recovery's end and the journal leave of a cascade. -/
theorem State.stops_recoveryEnd {s : State} {c : Nat} (hc : c < 8) (h : s.stops c) :
    (((s.set BRD_STATUS_RECOV 0).clearCauses).jnlTrigger 1).stops c := by
  have hcauses : ∀ t : State, t.clearCauses.casSt c = t.casSt c := by
    intro t
    have hbrd : ∀ (i : Nat), 0x201200 ≤ BRD_CAUSE i := fun i => by unfold BRD_CAUSE; omega
    have hloop : ∀ (cs : List Nat) (u : State), (forN 4 (fun i t =>
        (t.set (BRD_CAUSE_EVEN i) (cs.getD (2 * i) 0)).set (BRD_CAUSE_ODD i) (cs.getD (2 * i + 1) 0)) u).casSt c = u.casSt c := fun cs u =>
      forN_keeps (fun t => t.casSt c) u fun i t => (State.casSt_setElse _ _ hc (.inr (hbrd i))).trans (t.casSt_setElse _ hc (.inr (hbrd i)))
    exact (State.casSt_setElse _ _ hc (.inr (by decide))).trans ((State.casSt_setElse _ _ hc (.inr (by decide))).trans (hloop _ _))
  obtain ⟨hd, hs⟩ := h
  have haside := (untuned_dest hc).aside
  refine ⟨?_, ?_⟩
  · refine ((get_of_beside (State.jnlTrigger_beside haside _ 1)).trans ((get_of_beside (State.clearCauses_beside haside _)).trans
      (s.get_set_apart _ _ 0 (.inl fun h => ?_)))).trans_ne hd
    have : 0x500000 = 0x201004 + 0x40 * c := h
    omega
  · exact (State.casSt_jnlTrigger _ hc 1).trans ((hcauses _).trans ((s.casSt_setElse 0 hc (.inr (by decide))).trans hs))

/-- A cascade but L1's that starts or runs is stopping once the stop has begun. -/
theorem State.stops_stopBegun {s : State} {c : Nat} (hc : c < 8) (hs : s.casSt c = 1 ∨ s.casSt c = 2) (hd : s.casDest c ≠ 4) :
    s.stopBegun.stops c := by
  obtain ⟨hdest, hst⟩ := State.goes_tuneAbort 5 hc hd hs
  have hff := (s.tuneAbort 5).ffIntoBase_keeps.2
  have hasked : s.stopAsked.goes c := by
    refine ⟨(hff (REIN_CAS_SRC_DEST_SEL c) (.inl ?_)).trans_ne hdest, ?_⟩
    · show (0x201004 + 0x40 * c) % 0x40 < 0x34
      omega
    · have hsame : s.stopAsked.casSt c = (s.tuneAbort 5).casSt c := hff (REIN_CAS_STATUS_STATE c) (.inr (by
        show (0x201038 + 0x40 * c) % 0x40 = 0x38
        omega))
      rwa [hsame]
  exact State.stops_recoveryEnd hc (State.stops_casStops hc hasked)

/-- What DISARM in an armed state shows. -/
theorem State.disarmBegin_shows {s : State} (h : s.armedStates = true) : s.disarmBegin.boot.disarming = true ∧
    s.disarmBegin.armedStates = true ∧ s.disarmBegin.get BRD_STATUS_RECOV = 0 ∧ s.disarmBegin.brd.causes = [] ∧
    ∀ c : Fin 8, (s.casSt c.val = 1 ∨ s.casSt c.val = 2) → s.casDest c.val ≠ 4 → s.disarmBegin.casSt c.val = 3 := by
  have hseen := s.stopBegun_seen
  have hcalm := s.stopBegun.disarmStep_calm
  have hshown : Shown SYS_SHELF_STATE_STATE := .inl (by decide)
  have hshelf : s.stopBegun.shelf = s.shelf := (State.get_of_seen hseen hshown).trans (s.seen.put_field_ne (f := BRD_STATUS_RECOV) 0 hshown (by decide))
  have harmed : s.stopBegun.armedStates = true := (State.armedStates_of_shelf hshelf).trans h
  rw [State.disarmBegin_eq]
  refine ⟨(congrArg (fun x => x.boot.disarming) hcalm).trans (congrArg (fun x => x.boot.disarming) hseen), State.armed_disarmStep harmed, ?_,
    (congrArg Seen.causes hcalm).trans (congrArg Seen.causes hseen), fun c hs hd => ?_⟩
  · exact (get_of_calm hcalm (.inl (by decide)) (by decide) (by decide)).trans (State.get_of_seen hseen (.inl (by decide)))
  · obtain ⟨hdest, hst⟩ := State.stops_stopBegun c.isLt hs hd
    rw [State.disarmStep_waits c.isLt hdest (by rw [hst]; decide)]
    exact hst

/-! ### The obligation -/

/-- Settles O29: an orderly stop shows what its stages show, its end and CLEAR_LATCH enter PASSIVE, and a request that is refused only
shows its error. -/
theorem disarmAndClearLatch : Obligations.DisarmAndClearLatch := by
  intro s hp
  refine ⟨fun hd h => ?_, fun hd h => ?_, fun hd h => ?_, fun hd => ?_, fun hd h => ?_, fun hd h hdone => ?_, fun hd hk h hfb hov => ?_,
    fun hd h hdone => ?_, fun hd hk => ?_, fun h hc => ⟨_, exec_clearLatch s hp, State.clearLatch_shows h hc⟩, fun c h hc => ?_, fun h => ?_⟩
  · obtain ⟨hstop, harmed, hrecov, hcauses, hcas⟩ := State.disarmBegin_shows h
    exact ⟨_, (exec_disarm s hp).trans (congrArg _ (State.disarm_armed hd h)), hstop, harmed, hrecov, hcauses,
      fun c hs hdest => .inl (hcas c hs hdest)⟩
  · rw [exec_disarm s hp, State.disarm_unarmed hd (State.armedStates_outside h (.inr (.inl rfl))), if_pos h]
  · refine ⟨_, exec_disarm s hp, ?_⟩
    rw [State.disarm_unarmed hd (State.armedStates_outside h (.inl rfl)), if_neg (by rw [h]; decide), if_pos h]
    exact ⟨(s.armPend_shelf false).trans h, s.isSet_armPend false, rfl⟩
  · refine ⟨_, exec_disarm s hp, ?_⟩
    rw [State.disarm_stopping hd]
    exact ⟨s.armPend_shelf false, s.isSet_armPend false, rfl⟩
  · rw [exec_disarm s hp, State.disarm_unarmed hd (State.armedStates_outside h (.inr (.inr rfl))), if_neg (by rw [h]; decide),
      if_neg (by rw [h]; decide)]
  · obtain ⟨hshelf, hiso, hcont, hdrv, hstop, -, hrecov, hcauses⟩ := s.toPassive_shows
    refine ⟨s.toPassive, ?_, hshelf, hiso, hcont, hdrv, hstop, hrecov, hcauses⟩
    rw [exec_disarmComplete s hp, hd, h, hdone]
    rfl
  · obtain ⟨hshelf, hiso, hcont, hdrv, -, hkept, -, -⟩ := s.toPassive_shows
    refine ⟨s.toPassive, ?_, hshelf, hiso, hcont, hdrv, hkept⟩
    rw [exec_disarmComplete s hp, hd, hk, h, hfb, hov]
    rfl
  · rw [exec_disarmComplete s hp, hd, h, hdone]
    rfl
  · rw [exec_disarmComplete s hp, hd, hk]
    rfl
  · obtain ⟨hcode, hinfo⟩ := s.bootRefuse_shows 0x31 c 8
    refine ⟨_, (exec_clearLatch s hp).trans (congrArg _ (State.clearLatch_refused h hc)), (s.bootRefuse_shelf _ _ _).trans h, hcode, hinfo,
      s.bootRefuse_causes _ _ _⟩
  · rw [exec_clearLatch s hp, State.clearLatch_elsewhere h]

end Sys2Proof.Machine


namespace Sys2Proof.Machine

/-! ### The course of a string's sweeps: what a sweep's own registers show, and what the ring keeps of it (R257, R258, R263) -/

/-- The registers SEQ, TIME and SKEW of the two strings. -/
abbrev CourseAddr (a : Nat) : Prop :=
  0x300100 ≤ a ∧ a < 0x300200 ∧ (a % 0x80 = 0x08 ∨ a % 0x80 = 0x10 ∨ a % 0x80 = 0x14 ∨ a % 0x80 = 0x1C)

/-- The address of a register that holds neither these nor a ring's topology. -/
abbrev Beyond (a : Nat) : Prop := ¬(CourseAddr a ∨ a = 0x300100 ∨ a = 0x300180)

/-- What a string keeps of its sweeps. -/
structure RStr.Pace where
  t0 : Nat
  vstr : Nat
  split : Bool
  cmdsDue : Bool
  readHeld : Bool

def RStr.pace (r : RStr) : RStr.Pace := ⟨r.t0, r.vstr, r.split, r.cmdsDue, r.readHeld⟩

structure Course where
  regs : { a : Nat // CourseAddr a } → Word
  hop : StrNo → Nat
  topo : StrNo → Nat
  pace : Nat → RStr.Pace

def State.course (s : State) : Course where
  regs a := s.rd a
  hop x := s.get (RING_STATUS_BREAK_HOP x.val)
  topo x := s.get (RING_STATUS_TOPO x.val)
  pace x := (s.rs x).pace

theorem course_eq {s t : State} (hregs : ∀ a, CourseAddr a → t.rd a = s.rd a)
    (hhop : ∀ x : StrNo, t.get (RING_STATUS_BREAK_HOP x.val) = s.get (RING_STATUS_BREAK_HOP x.val))
    (htopo : ∀ x : StrNo, t.get (RING_STATUS_TOPO x.val) = s.get (RING_STATUS_TOPO x.val))
    (hpace : ∀ x, (t.rs x).pace = (s.rs x).pace) : t.course = s.course := by
  have hr : (fun a : { a // CourseAddr a } => t.rd a) = fun a : { a // CourseAddr a } => s.rd a := funext fun a => hregs a a.2
  unfold State.course
  rw [hr, funext hhop, funext htopo, funext hpace]

theorem rd_of_course {s t : State} (h : t.course = s.course) {a : Nat} (ha : CourseAddr a) : t.rd a = s.rd a :=
  congrArg (fun c : Course => c.regs ⟨a, ha⟩) h

theorem get_of_course {s t : State} (h : t.course = s.course) {f : Field} (hf : CourseAddr f.addr) : t.get f = s.get f := by
  unfold State.get
  rw [rd_of_course h hf]

theorem hop_of_course {s t : State} (h : t.course = s.course) (x : StrNo) :
    t.get (RING_STATUS_BREAK_HOP x.val) = s.get (RING_STATUS_BREAK_HOP x.val) := congrFun (congrArg Course.hop h) x

theorem topo_of_course {s t : State} (h : t.course = s.course) (x : StrNo) :
    t.get (RING_STATUS_TOPO x.val) = s.get (RING_STATUS_TOPO x.val) := congrFun (congrArg Course.topo h) x

theorem pace_of_course {s t : State} (h : t.course = s.course) (x : Nat) : (t.rs x).pace = (s.rs x).pace :=
  congrFun (congrArg Course.pace h) x

theorem course_ite_of {c : Prop} [Decidable c] {s t : State} {x : Course} (hs : s.course = x) (ht : t.course = x) :
    (if c then s else t).course = x := by
  split <;> assumption

theorem forL_course {α : Type} {l : List α} {f : α → State → State} (s : State) (hf : ∀ x ∈ l, ∀ t, (f x t).course = t.course) :
    (forL l f s).course = s.course := by
  unfold forL
  induction l generalizing s with
  | nil => rfl
  | cons x l ih => exact (ih _ fun y hy => hf y (List.mem_cons_of_mem x hy)).trans (hf x List.mem_cons_self s)

theorem forN_course {n : Nat} {f : Nat → State → State} (s : State) (hf : ∀ i < n, ∀ t, (f i t).course = t.course) :
    (forN n f s).course = s.course := forL_course s fun i hi => hf i (List.mem_range.1 hi)

theorem status_cases (x : StrNo) : RING_STATUS x.val = 0x300100 ∨ RING_STATUS x.val = 0x300180 := by
  unfold RING_STATUS
  omega

theorem State.wr_course (s : State) {a : Nat} (v : Word) (ha : Beyond a) : (s.wr a v).course = s.course := by
  have hstatus : ∀ x : StrNo, RING_STATUS x.val ≠ a := fun x h => ha (.inr (h ▸ status_cases x))
  exact course_eq (fun b hb => s.rd_wr_ne v fun h => ha (.inl (h ▸ hb))) (fun x => s.get_wr_ne v (hstatus x))
    (fun x => s.get_wr_ne v (hstatus x)) fun _ => rfl

theorem State.set_course (s : State) {f : Field} (v : Nat) (hf : Beyond f.addr) : (s.set f v).course = s.course := s.wr_course _ hf

/-- Another field of a ring's status. -/
theorem State.setStatus_course (s : State) (x : Nat) {lo w : Nat} (v : Nat) (h : lo + w ≤ 14 ∨ 19 ≤ lo) :
    (s.set ⟨RING_STATUS x, lo, w⟩ v).course = s.course := by
  refine course_eq (fun a ha => s.rd_set_ne _ v fun h' => ?_) (fun y => s.get_set_apart _ _ v (.inr ?_))
    (fun y => s.get_set_apart _ _ v (.inr ?_)) fun _ => rfl
  · have : a = 0x300100 + 0x80 * x := h'
    omega
  · show lo + w ≤ 16 ∨ 16 + 3 ≤ lo
    omega
  · show lo + w ≤ 14 ∨ 14 + 2 ≤ lo
    omega

theorem State.raiseBit_course (s : State) {f : Field} (v : Nat) (hf : Beyond f.addr) : (s.raiseBit f v).course = s.course := by
  have hmsix : ∀ t : State, (t.msix v).course = t.course := by
    intro t
    unfold State.msix
    repeat' split
    all_goals rfl
  exact course_ite_of rfl ((hmsix _).trans (s.set_course 1 hf))

theorem course_of_side {s t : State} (h : t.panel.side = s.panel.side) : t.course = s.course := by
  have hstatus : ∀ x : StrNo, RingAddr (RING_STATUS x.val) := fun x => by rcases status_cases x with h | h <;> rw [h] <;> decide
  refine course_eq (fun a ha => rd_of_side h (by omega)) (fun x => get_of_side h (hstatus x)) (fun x => get_of_side h (hstatus x)) fun x => ?_
  unfold State.rs
  rw [ring_of_side h]

theorem course_of_panel {s t : State} (h : t.panel = s.panel) : t.course = s.course := course_of_side (side_of_panel h)

theorem State.rs_setRs_ite (s : State) (x y : Nat) (r : RStr) :
    (s.setRs x r).rs y = if y = x ∧ x < s.ring.strs.length then r else s.rs y := by
  split
  next h => exact h.1 ▸ s.rs_setRs x r h.2
  next h =>
    unfold State.rs State.setRs
    rw [List.getD_eq_getElem?_getD, List.getD_eq_getElem?_getD, List.getElem?_set]
    split
    next hxy =>
      have hx : ¬x < s.ring.strs.length := fun hlt => h ⟨hxy.symm, hlt⟩
      rw [if_neg hx, ← hxy, List.getElem?_eq_none (Nat.le_of_not_lt hx)]
    next => rfl

theorem State.rs_setRs_ne (s : State) {x y : Nat} (r : RStr) (h : y ≠ x) : (s.setRs x r).rs y = s.rs y :=
  (s.rs_setRs_ite x y r).trans (if_neg fun h' => h h'.1)

theorem State.setRs_course (s : State) {x : Nat} {r : RStr} (h : r.pace = (s.rs x).pace := by rfl) : (s.setRs x r).course = s.course := by
  refine course_eq (fun _ _ => rfl) (fun _ => rfl) (fun _ => rfl) fun y => ?_
  rw [s.rs_setRs_ite]
  split
  next hy => rw [hy.1, h]
  next => rfl

theorem State.setRole_course (s : State) (x p r : Nat) : (s.setRole x p r).course = s.course :=
  s.setRs_course (r := { s.rs x with role := (s.rs x).role.set p r }) rfl

/-! #### Events and faults -/

theorem beyond_evt (x : Nat) : Beyond (RING_EVT x) := by unfold RING_EVT; omega

theorem State.ringEvt_course (s : State) (x : Nat) {f : Nat → Field} (coded : Bool) (hf : (f x).addr = RING_EVT x) :
    (s.ringEvt x f coded).course = s.course := by
  have hraise : ∀ v, (s.raiseBit (f x) v).course = s.course := fun v => s.raiseBit_course v (hf ▸ beyond_evt x)
  exact course_ite_of rfl (course_ite_of (hraise _) ((course_of_panel (State.record_panel ..)).trans (hraise _)))

theorem State.raise_course (s : State) (code idx : Nat) (m t : Int) : (s.raise code idx m t).course = s.course :=
  course_of_side (s.raise_side code idx m t)

theorem State.raiseOnce_course (s : State) (code idx : Nat) (m t : Int) : (s.raiseOnce code idx m t).course = s.course :=
  course_of_side (s.raiseOnce_side code idx m t)

theorem State.unraise_course (s : State) (code idx : Nat) : (s.unraise code idx).course = s.course :=
  course_of_side (s.unraise_side code idx)

theorem State.enumFail_course (s : State) (x cause : Nat) : (s.enumFail x cause).course = s.course := by
  have hshown : (((s.set (RING_STATUS_ENUM x) 6).set (RING_STATUS_FAIL_CAUSE x) cause).ringEvt x RING_EVT_ENUM_FAIL false).course = s.course :=
    (State.ringEvt_course _ _ _ rfl).trans ((State.setStatus_course _ _ _ (.inr (by decide))).trans
      (s.setStatus_course _ _ (.inr (by decide))))
  exact course_ite_of ((course_of_side (State.armFail_side ..)).trans hshown) hshown

/-! #### Frames -/

theorem State.showQueued_course (s : State) : s.showQueued.course = s.course := s.set_course _ (by decide)

theorem State.queueFront_course (s : State) (x kind dest : Nat) (payload : List Byte) : (s.queueFront x kind dest payload).course = s.course :=
  s.setRs_course

theorem State.queueBal_course (s : State) (x : Nat) (e : BalEnt) : (s.queueBal x e).course = s.course :=
  (course_of_panel (State.verbose_panel ..)).trans ((State.showQueued_course _).trans (s.setRs_course))

theorem State.balRefuse_course (s : State) (cause : Nat) : (s.balRefuse cause).course = s.course :=
  (State.raiseBit_course _ _ (by decide)).trans (s.set_course _ (by decide))

theorem State.balOff_course (s : State) (x p : Nat) : (s.balOff x p).course = s.course := course_ite_of (s.queueBal_course ..) rfl

theorem State.balStop_course (s : State) (x m : Nat) : (s.balStop x m).course = s.course := forL_course s fun p _ t => t.balOff_course x p

theorem State.sendFrom_course (s : State) (x : Nat) (ends : List Nat) (kind dest : Nat) (payload : List Byte) :
    (s.sendFrom x ends kind dest payload).course = s.course := forL_course s fun _ _ _ => rfl

theorem State.sendBalance_course (s : State) (x : Nat) (ends : List Nat) : (s.sendBalance x ends).course = s.course :=
  (State.showQueued_course _).trans ((State.setRs_course _ (by exact (pace_of_course (s.sendFrom_course ..) x).symm)).trans
    (s.sendFrom_course ..))

theorem State.sendNext_course (s : State) (x : Nat) (ends : List Nat) : (s.sendNext x ends).course = s.course := by
  unfold State.sendNext
  split
  · exact (State.sendFrom_course ..).trans (s.setRs_course)
  · exact course_ite_of rfl (s.sendBalance_course x ends)

theorem State.sendCmds_course (s : State) (x k : Nat) : (State.sendCmds x k s).course = s.course := by
  induction k generalizing s with
  | zero => rfl
  | succ k ih => exact (ih _).trans (s.sendNext_course x [1])

theorem State.splitCmds_course (s : State) (x : Nat) : (s.splitCmds x).course = s.course :=
  course_ite_of ((State.sendNext_course ..).trans (s.sendNext_course ..)) (s.sendNext_course ..)

theorem State.swapSend_course (s : State) (x : Nat) : (s.swapSend x).course = s.course :=
  course_ite_of ((State.queueFront_course ..).trans (s.setRs_course)) rfl

theorem State.execSent_course (s : State) (x : Nat) : (s.execSent x).course = s.course := s.setRs_course

/-! #### Monitors -/

theorem beyond_mon (x : Nat) {m : Nat} (hm : m < 4) : Beyond (RING_MON_STATUS x m) := by unfold RING_MON_STATUS; omega

theorem State.setLost_course (s : State) (x v : Nat) : (s.set (RING_STATUS_MON_LOST x) v).course = s.course :=
  s.setStatus_course x v (.inl (by decide))

theorem State.setRecov_course (s : State) (x v : Nat) : (s.set (RING_STATUS_MON_RECOV x) v).course = s.course :=
  s.setStatus_course x v (.inl (by decide))

theorem State.monLost_course (s : State) (x : Nat) {m : Nat} (hm : m < 4) : (s.monLost x m).course = s.course :=
  (State.ringEvt_course _ _ _ rfl).trans ((State.setRs_course _).trans ((State.setRecov_course ..).trans
    ((State.setLost_course ..).trans (s.set_course _ (beyond_mon x hm)))))

theorem State.monBack_course (s : State) (x : Nat) {m : Nat} (hm : m < 4) : (s.monBack x m).course = s.course :=
  (State.ringEvt_course _ _ _ rfl).trans ((State.setRs_course _).trans ((State.setRecov_course ..).trans
    ((State.setLost_course ..).trans (s.set_course _ (beyond_mon x hm)))))

theorem State.monAway_course (s : State) (x : Nat) {m : Nat} (live : Bool) (hm : m < 4) : (s.monAway x m live).course = s.course := by
  have hcount : ∀ b n : Nat, (s.setRs x { s.rs x with back := (s.rs x).back.set m b, lostFor := (s.rs x).lostFor.set m n }).course = s.course :=
    fun b n => s.setRs_course
  exact course_ite_of (s.monBack_course x hm) (course_ite_of ((State.raiseOnce_course ..).trans (hcount _ _)) (hcount _ _))

theorem State.monShow_course (s : State) (x : Nat) {m : Nat} (t : Slot) (hm : m < 4) : (s.monShow x m t).course = s.course := by
  have hshow : ∀ u : State, (((u.set (RING_MON_STATUS_HB x m) t.hb).set (RING_MON_STATUS_STATUS x m) t.status).set
      (RING_STATUS_MON_MHB_LOST x) (bitPut (u.get (RING_STATUS_MON_MHB_LOST x)) m (bitOf t.status 15))).course = u.course := fun u =>
    (State.setStatus_course _ _ _ (.inl (by decide))).trans ((State.set_course _ _ (beyond_mon x hm)).trans (u.set_course _ (beyond_mon x hm)))
  have hlost : ∀ u : State, u.course = s.course → (if bitOf t.status 13 then
      (if (0x0407, 4 * x + m) ∈ u.brd.active then u else (u.ringEvt x RING_EVT_REF_FAULT true).raise 0x0407 (4 * x + m) 0 0)
      else u.unraise 0x0407 (4 * x + m)).course = s.course := fun u hu =>
    course_ite_of (course_ite_of hu ((State.raise_course ..).trans ((State.ringEvt_course _ _ _ rfl).trans hu)))
      ((State.unraise_course ..).trans hu)
  exact hlost _ ((hshow _).trans (course_ite_of (s.setRs_course) rfl))

theorem State.monResult_course (s : State) (x m : Nat) (t : Slot) : (s.monResult x m t).course = s.course := by
  have hasked : ∀ l : List BalOn, (s.setRs x { s.rs x with asked := (s.rs x).asked.filter (·.1 != m), leases := l }).course = s.course :=
    fun l => s.setRs_course
  exact course_ite_of (course_ite_of ((State.balRefuse_course ..).trans (hasked _)) (hasked _)) rfl

theorem State.monStep_course (i : Sweep) (x : Nat) {m : Nat} (s : State) (hm : m < 4) : (State.monStep i x m s).course = s.course := by
  have hmiss : ∀ (u : State) (n : Nat), (if 3 ≤ n then (u.setRs x { u.rs x with miss := (u.rs x).miss.set m n }).monLost x m
      else u.setRs x { u.rs x with miss := (u.rs x).miss.set m n }).course = u.course := fun u n =>
    course_ite_of ((State.monLost_course _ x hm).trans (u.setRs_course)) (u.setRs_course)
  unfold State.monStep
  dsimp only
  split
  next => exact course_ite_of (s.monAway_course x false hm) (hmiss s _)
  next t _ =>
    have hheard : ((s.monShow x m t).monResult x m t).course = s.course := (State.monResult_course ..).trans (s.monShow_course x t hm)
    exact course_ite_of ((State.monAway_course _ x _ hm).trans hheard) ((hmiss _ _).trans hheard)

end Sys2Proof.Machine


namespace Sys2Proof.Machine

/-! ### What the cell window and the checks of a sweep leave of its course (R261 to R274) -/

theorem beyond_of_le {a : Nat} (h : 0x300200 ≤ a) : Beyond a := by
  unfold Beyond
  omega

theorem beyond_cell0 (x p : Nat) : Beyond (RING_CELL_0 x p) := beyond_of_le (by unfold RING_CELL_0; omega)

theorem beyond_cell1 (x p : Nat) : Beyond (RING_CELL_1 x p) := beyond_of_le (by unfold RING_CELL_1; omega)

theorem beyond_swap (x : Nat) : Beyond (RING_SWAP x) := by unfold RING_SWAP; omega

theorem beyond_errCnt (x : Nat) : Beyond (RING_ERR_CNT x) := by unfold RING_ERR_CNT; omega

theorem beyond_sum (x : Nat) : Beyond (RING_SUM x) := by unfold RING_SUM; omega

theorem State.setCell0_course (s : State) (x p lo w v : Nat) : (s.set ⟨RING_CELL_0 x p, lo, w⟩ v).course = s.course :=
  s.set_course v (beyond_cell0 x p)

theorem State.setCell1_course (s : State) (x p lo w v : Nat) : (s.set ⟨RING_CELL_1 x p, lo, w⟩ v).course = s.course :=
  s.set_course v (beyond_cell1 x p)

theorem State.cellFlags_course (s : State) (x p : Nat) (recov : Bool) : (s.cellFlags x p recov).course = s.course :=
  (State.setCell1_course ..).trans ((State.setCell0_course ..).trans ((State.setCell0_course ..).trans ((State.setCell0_course ..).trans
    (State.setCell0_course ..))))

theorem State.cellStale_course (s : State) (x p : Nat) : (s.cellStale x p).course = s.course :=
  (State.cellFlags_course ..).trans ((State.setCell1_course ..).trans ((State.setCell0_course ..).trans ((State.setCell0_course ..).trans
    (State.setCell0_course ..))))

theorem State.cellFresh_course (s : State) (i : Sweep) (split : Bool) (x p v : Nat) (t : Slot) :
    (s.cellFresh i split x p v t).course = s.course :=
  (State.setCell1_course ..).trans ((State.setCell1_course ..).trans ((State.setCell0_course ..).trans ((State.setCell0_course ..).trans
    ((State.setCell0_course ..).trans ((State.cellFlags_course ..).trans ((State.setCell0_course ..).trans ((State.setCell0_course ..).trans
      (State.setCell0_course ..))))))))

theorem State.cellStep_course (i : Sweep) (split : Bool) (x p : Nat) (s : State) : (State.cellStep i split x p s).course = s.course := by
  unfold State.cellStep
  split
  · exact course_ite_of (s.cellStale_course x p) (s.cellFresh_course ..)
  · exact s.cellStale_course x p

theorem State.recovStep_course (i : Sweep) (x : Nat) {m : Nat} (s : State) (hm : m < 4) : (State.recovStep i x m s).course = s.course := by
  have hnext : ∀ r : RStr, r.pace = (s.rs x).pace → (s.setRs x r).course = s.course := fun r h => s.setRs_course h
  exact course_ite_of rfl (course_ite_of ((State.setRecov_course ..).trans ((State.set_course _ _ (beyond_mon x hm)).trans (hnext _ rfl)))
    (hnext _ rfl))

theorem State.firstSweep_course (s : State) (i : Sweep) (x : Nat) : (s.firstSweep i x).course = s.course := by
  have hfirst : (s.setRs x { s.rs x with firstSweep := false }).course = s.course := s.setRs_course
  exact course_ite_of ((State.enumFail_course ..).trans hfirst) ((forN_course _ fun p _ t => t.setRole_course x p _).trans hfirst)

/-! #### Limits and the sum -/

theorem State.warnCancel_course (s : State) (x p : Nat) (hi lo : Bool) : (s.warnCancel x p hi lo).course = s.course :=
  course_ite_of (s.queueBal_course ..) rfl

theorem State.limitCodes_course (s : State) (x p : Nat) (trip warn : Bool) (v : Nat) : (s.limitCodes x p trip warn v).course = s.course := by
  have htrip : ∀ b : Bool, (if b = true then s.raiseOnce 0x0403 (52 * x + p) v 0 else s.unraise 0x0403 (52 * x + p)).course = s.course :=
    fun _ => course_ite_of (s.raiseOnce_course ..) (s.unraise_course ..)
  exact course_ite_of ((State.raiseOnce_course ..).trans (htrip trip)) ((State.unraise_course ..).trans (htrip trip))

theorem State.limitEvts_course (s : State) (x p : Nat) (l : List Bool) : (s.limitEvts x p l).course = s.course := by
  have hevt : ∀ (t : State) (k : Nat) (g : Nat → Field) (b : Bool), (g x).addr = RING_EVT x →
      (if l.getD k false then t.ringEvt x g b else t).course = t.course := fun t _ _ _ hg => course_ite_of (t.ringEvt_course x _ hg) rfl
  unfold State.limitEvts
  dsimp only
  rw [hevt _ 5 _ _ rfl, hevt _ 4 _ _ rfl, hevt _ 3 _ _ rfl, hevt _ 2 _ _ rfl, hevt _ 1 _ _ rfl, hevt _ 0 _ _ rfl]

theorem State.limitCell_course (i : Sweep) (x p : Nat) (s : State) : (State.limitCell i x p s).course = s.course := by
  unfold State.limitCell
  refine course_ite_of rfl ?_
  split
  · rfl
  · dsimp only
    rw [State.limitCodes_course, State.warnCancel_course, State.limitEvts_course]
    exact (State.setCell0_course ..).trans s.setRs_course

theorem State.sumCheck_course (s : State) (x : Nat) : (s.sumCheck x).course = s.course := by
  have hshown : ∀ (n a b : Nat), (((s.setRs x { s.rs x with sumN := n }).set (RING_SUM_S x) a).set (RING_SUM_VSTR x) b).course = s.course :=
    fun _ _ _ => (State.set_course _ _ (beyond_sum x)).trans ((State.set_course _ _ (beyond_sum x)).trans s.setRs_course)
  exact course_ite_of ((State.unraise_course ..).trans (hshown _ _ _)) (course_ite_of ((State.raise_course ..).trans
    ((State.ringEvt_course _ _ _ rfl).trans (hshown _ _ _))) (hshown _ _ _))

/-! #### Candidates and open-wire tests -/

theorem State.devEnds_course (s : State) (x p : Nat) : (s.devEnds x p).course = s.course :=
  course_ite_of ((State.unraise_course ..).trans ((State.unraise_course ..).trans s.setRs_course)) rfl

theorem State.candStep_course (i : Sweep) (x p : Nat) (s : State) : (State.candStep i x p s).course = s.course := by
  have hcand : ∀ l : List Nat, (s.setRs x { s.rs x with cand := l }).course = s.course := fun _ => s.setRs_course
  exact course_ite_of ((State.devEnds_course ..).trans (hcand _)) (course_ite_of ((State.setRs_course _).trans (hcand _)) (hcand _))

theorem State.candCheck_course (s : State) (i : Sweep) (x : Nat) : (s.candCheck i x).course = s.course :=
  course_ite_of rfl (forN_course s fun p _ t => State.candStep_course i x p t)

theorem State.setOw_course (s : State) (lo w v : Nat) : (s.set ⟨RING_OW_RESULT, lo, w⟩ v).course = s.course := s.set_course v (by
  show Beyond RING_OW_RESULT
  decide)

theorem State.owNext_course (s : State) (x : Nat) : (s.owNext x).course = s.course := by
  unfold State.owNext
  refine course_ite_of rfl ?_
  split
  · rfl
  · exact (State.setOw_course ..).trans ((State.balStop_course ..).trans s.setRs_course)

theorem State.owShow_course (s : State) (x : Nat) (q : OwReq) (isOpen aborted : Bool) : (s.owShow x q isOpen aborted).course = s.course :=
  (State.setOw_course ..).trans ((State.setOw_course ..).trans ((State.setOw_course ..).trans ((State.setOw_course ..).trans
    ((State.setOw_course ..).trans (State.setOw_course ..)))))

theorem State.owAbort_course (s : State) (x : Nat) : (s.owAbort x).course = s.course := by
  unfold State.owAbort
  split
  · rfl
  · exact (State.owShow_course ..).trans (course_ite_of ((State.queueFront_course ..).trans s.setRs_course) s.setRs_course)

theorem State.pairShow_course (s : State) (i : Sweep) (x p : Nat) : (s.pairShow i x p).course = s.course := by
  refine forL_course s fun q _ t => ?_
  have hflags : ∀ a b : Bool, ((t.setB (cellBit x q 28) a).setB (cellBit x q 24) b).course = t.course := fun _ _ =>
    (State.setCell0_course ..).trans (State.setCell0_course ..)
  have hok : ∀ u : State, u.course = t.course → (if (u.suspectOf x q).isSome then u.clear (cellBit x q 31) else u).course = t.course :=
    fun u hu => course_ite_of ((State.setCell0_course ..).trans hu) hu
  split
  · exact (State.setCell0_course ..).trans (hok _ (hflags _ _))
  · exact hok _ (hflags _ _)

theorem State.owSuspect_course (s : State) (x p : Nat) : (s.owSuspect x p).course = s.course :=
  (State.raiseOnce_course ..).trans ((State.raiseOnce_course ..).trans ((State.ringEvt_course _ _ _ rfl).trans s.setRs_course))

theorem State.owDev_course (s : State) (x p : Nat) : (s.owDev x p).course = s.course :=
  (State.raiseOnce_course ..).trans ((State.raiseOnce_course ..).trans ((State.ringEvt_course _ _ _ rfl).trans s.setRs_course))

theorem State.owClear_course (s : State) (x p : Nat) : (s.owClear x p).course = s.course :=
  course_ite_of ((State.unraise_course ..).trans ((State.unraise_course ..).trans s.setRs_course)) rfl

theorem State.owEnd_course (s : State) (i : Sweep) (x : Nat) (t : OwTest) : (s.owEnd i x t).course = s.course := by
  have hdecided : ∀ u : State, ∀ b : Bool, ∀ p : Nat, (if b then (if t.req.src = 0 then u.owSuspect x p else u)
      else if t.req.src = 0 ∧ (0x0406, x) ∉ u.brd.active then (u.owClear x p).owDev x p else u.owClear x p).course = u.course := fun u b p =>
    course_ite_of (course_ite_of (u.owSuspect_course x p) rfl)
      (course_ite_of ((State.owDev_course ..).trans (u.owClear_course x p)) (u.owClear_course x p))
  exact (State.pairShow_course ..).trans ((hdecided _ _ _).trans ((State.owShow_course ..).trans ((State.setOw_course ..).trans
    s.setRs_course)))

theorem State.owSweep_course (s : State) (i : Sweep) (x : Nat) (t : OwTest) (r : Option (Nat × Nat)) : (s.owSweep i x t r).course = s.course := by
  have hput : ∀ u : OwTest, (s.setRs x { s.rs x with test := some u }).course = s.course := fun _ => s.setRs_course
  have hframe : ∀ (u : OwTest) (on : Bool), ((s.setRs x { s.rs x with test := some u }).owFrame x t.req.mon t.req.wire on).course = s.course :=
    fun u on => (State.queueFront_course ..).trans (hput u)
  unfold State.owSweep
  exact course_ite_of (course_ite_of (hput _) (course_ite_of (hframe _ _) (hput _))) (course_ite_of rfl (course_ite_of (hput _)
    (course_ite_of (s.owEnd_course ..) (course_ite_of (hframe _ _) (hput _)))))

theorem State.owStep_course (s : State) (i : Sweep) (split : Bool) (x : Nat) : (s.owStep i split x).course = s.course := by
  unfold State.owStep
  split
  · exact s.owNext_course x
  · refine course_ite_of (s.owAbort_course x) ?_
    split
    all_goals exact s.owSweep_course ..

/-! #### Swaps, the start-up average, and the policy -/

theorem State.swapDone_course (s : State) (x a o : Nat) : (s.swapDone x a o).course = s.course := by
  have hshown : (((s.swapRoles x a 0 o 2).set (RING_SWAP_STATE x) 5).ringEvt x RING_EVT_SWAP_DONE false).course = s.course :=
    (State.ringEvt_course _ _ _ rfl).trans ((State.set_course _ _ (beyond_swap x)).trans ((State.setRole_course ..).trans
      (s.setRole_course ..)))
  exact (course_of_panel (State.jnlTrigger_panel ..)).trans hshown

theorem State.swapStep_course (s : State) (i : Sweep) (split : Bool) (x : Nat) : (s.swapStep i split x).course = s.course := by
  have hseen : (s.set (RING_SWAP_STATE x) 4).course = s.course := s.set_course _ (beyond_swap x)
  have hcount : ∀ r : RStr, r.pace = (s.rs x).pace → ((s.set (RING_SWAP_STATE x) 4).setRs x r).course = s.course := fun r h =>
    ((s.set (RING_SWAP_STATE x) 4).setRs_course h).trans hseen
  exact course_ite_of rfl (course_ite_of ((State.set_course _ _ (beyond_swap x)).trans (hcount _ rfl))
    (course_ite_of ((State.swapDone_course ..).trans (hcount _ rfl)) (hcount _ rfl)))

theorem State.startRef_course (s : State) (x : Nat) : (s.startRef x).course = s.course := by
  have href : ∀ (t : State) (v : Nat), (t.wr64 (EST_REF_LO x) (EST_REF_HI x) v).course = t.course := fun t v =>
    (State.wr_course _ _ (beyond_of_le (by unfold EST_REF_HI; omega))).trans (t.wr_course _ (beyond_of_le (by unfold EST_REF_LO; omega)))
  unfold State.startRef State.startSetsRef
  dsimp only
  split
  · exact course_ite_of (href _ _) rfl
  · rfl

theorem State.avgStep_course (s : State) (i : Sweep) (x : Nat) : (s.avgStep i x).course = s.course := by
  have hnext : ∀ r : RStr, r.pace = (s.rs x).pace → (s.setRs x r).course = s.course := fun r h => s.setRs_course h
  exact course_ite_of rfl (course_ite_of (hnext _ rfl) (course_ite_of ((State.enumFail_course ..).trans (hnext _ rfl))
    ((State.ringEvt_course _ _ _ rfl).trans ((State.setStatus_course _ x _ (.inr (by decide))).trans ((State.startRef_course ..).trans
      (hnext _ rfl))))))

theorem State.policyCell_course (x p : Nat) (s : State) : (State.policyCell x p s).course = s.course := by
  have hoff : ∀ l : List (Nat × Nat), (s.setRs x { s.rs x with renewed := l }).course = s.course := fun _ => s.setRs_course
  exact course_ite_of (hoff _) (course_ite_of (hoff _) (course_ite_of ((State.setRs_course _).trans ((State.queueBal_course ..).trans
    (hoff _))) rfl))

theorem State.balPolicy_course (s : State) (x : Nat) : (s.balPolicy x).course = s.course :=
  course_ite_of (forN_course s fun p _ t => State.policyCell_course x p t) rfl

theorem State.showBalancing_course (s : State) (i : Sweep) (x : Nat) : (s.showBalancing i x).course = s.course := by
  refine s.set_course _ ?_
  split <;> decide

theorem State.sweepChecks_course (s : State) (i : Sweep) (split : Bool) (x : Nat) : (s.sweepChecks i split x).course = s.course := by
  have hsum : (if split then s else s.sumCheck x).course = s.course := course_ite_of rfl (s.sumCheck_course x)
  have hlimits : ∀ t : State, (forN 52 (State.limitCell i x) t).course = t.course := fun t =>
    forN_course t fun p _ u => State.limitCell_course i x p u
  have hcand : ∀ t : State, (if t.ringDone x then t.candCheck i x else t).course = t.course := fun t => course_ite_of (t.candCheck_course i x) rfl
  unfold State.sweepChecks
  dsimp only
  rw [State.balPolicy_course, State.showBalancing_course, State.avgStep_course, State.swapStep_course, State.owStep_course, hcand, hlimits, hsum]

end Sys2Proof.Machine


namespace Sys2Proof.Machine

/-! ### A sweep that is taken (R257, R258, R263 to R265) -/

/-- The registers that a taken sweep moves: SEQ, TIME and SKEW. -/
def State.stamp (s : State) (x n v : Nat) : State :=
  ((s.wrapReg (RING_SEQ x)).wr64 (RING_TIME_LO x) (RING_TIME_HI x) n).set (RING_SKEW_TICKS x) v

/-- The monitors and the cell window of a sweep, before its registers show it. -/
def State.heard (s : State) (i : Sweep) (split : Bool) (x : Nat) : State :=
  forN 4 (State.recovStep i x) (forN 52 (State.cellStep i split x)
    (if (((forN 4 (State.monStep i x) s).ringLost x).rs x).firstSweep then ((forN 4 (State.monStep i x) s).ringLost x).firstSweep i x
      else (forN 4 (State.monStep i x) s).ringLost x))

theorem State.sweepCells_eq (s : State) (i : Sweep) (split : Bool) (x : Nat) : s.sweepCells i split x =
    (s.heard i split x).stamp x (((s.heard i split x).rs x).t0 + 100) (if split then i.skew else 0) := rfl

theorem State.rd_seq_wr (s : State) (x a : Nat) (v : Word) (h : a % 0x80 ≠ 8) : (s.wr a v).rd (RING_SEQ x) = s.rd (RING_SEQ x) :=
  s.rd_wr_ne v fun h' => by
    unfold RING_SEQ at h'
    omega

theorem State.stamp_seq (s : State) (x n v : Nat) : (s.stamp x n v).rd (RING_SEQ x) = s.rd (RING_SEQ x) + 1 := by
  have hlo : RING_TIME_LO x % 0x80 ≠ 8 := by unfold RING_TIME_LO; omega
  have hhi : RING_TIME_HI x % 0x80 ≠ 8 := by unfold RING_TIME_HI; omega
  have hskew : RING_SKEW x % 0x80 ≠ 8 := by unfold RING_SKEW; omega
  have hnext : (s.wrapReg (RING_SEQ x)).rd (RING_SEQ x) = BitVec.ofNat 32 ((s.rd (RING_SEQ x)).toNat + 1) := s.rd_wr_same _ _
  refine (State.rd_seq_wr _ x _ _ hskew).trans ((State.rd_seq_wr _ x _ _ hhi).trans ((State.rd_seq_wr _ x _ _ hlo).trans (hnext.trans ?_)))
  rw [BitVec.ofNat_add, BitVec.ofNat_toNat, BitVec.setWidth_eq]
  rfl

theorem State.stamp_time (s : State) (x n v : Nat) : (s.stamp x n v).rd64 (RING_TIME_LO x) (RING_TIME_HI x) = n % 2 ^ 64 := by
  have hskew : ∀ a, a < RING_SKEW x → (s.stamp x n v).rdN a = ((s.wrapReg (RING_SEQ x)).wr64 (RING_TIME_LO x) (RING_TIME_HI x) n).rdN a :=
    fun a ha => congrArg BitVec.toNat (State.rd_set_ne _ (RING_SKEW_TICKS x) _ (show a ≠ RING_SKEW x from Nat.ne_of_lt ha))
  have hlohi : RING_TIME_LO x ≠ RING_TIME_HI x := by unfold RING_TIME_LO RING_TIME_HI; omega
  unfold State.rd64
  rw [hskew _ (by unfold RING_TIME_LO RING_SKEW; omega), hskew _ (by unfold RING_TIME_HI RING_SKEW; omega)]
  unfold State.wr64
  rw [State.rdN_wrN_ne _ _ hlohi, State.rdN_wrN_same, State.rdN_wrN_same]
  omega

theorem State.stamp_skew (s : State) (x n v : Nat) : (s.stamp x n v).get (RING_SKEW_TICKS x) = v % 2 ^ 16 :=
  State.get_set_same _ _ _ (show 0 + 16 ≤ 32 by decide)

theorem State.stamp_status (s : State) (x n v : Nat) {f : Field} (h : f.addr = RING_STATUS x) : (s.stamp x n v).get f = s.get f := by
  have hwr : ∀ (t : State) (a : Nat) (w : Word), RING_STATUS x < a → (t.wr a w).get f = t.get f := fun t a w ha =>
    t.get_wr_ne w (h ▸ Nat.ne_of_lt ha)
  refine (hwr _ (RING_SKEW x) _ ?_).trans ((hwr _ (RING_TIME_HI x) _ ?_).trans ((hwr _ (RING_TIME_LO x) _ ?_).trans (hwr _ (RING_SEQ x) _ ?_)))
  · unfold RING_STATUS RING_SKEW; omega
  · unfold RING_STATUS RING_TIME_HI; omega
  · unfold RING_STATUS RING_TIME_LO; omega
  · unfold RING_STATUS RING_SEQ; omega

/-! #### The topology -/

/-- A lost ring changes the topology alone. -/
theorem State.ringLost_cases (s : State) (x : StrNo) : (s.ringLost x).course = s.course ∨
    ∃ v, (s.ringLost x).course = (s.set (RING_STATUS_TOPO x) v).course ∧ (v = 2 ∨ s.get (RING_STATUS_TOPO x) = 2) := by
  unfold State.ringLost
  split
  · exact .inr ⟨2, State.raiseOnce_course .., .inl rfl⟩
  · split
    next h => exact .inr ⟨_, rfl, .inr h⟩
    next => exact .inl rfl

/-- What a change of the topology leaves of the course. -/
theorem State.setTopo_keeps (s : State) (x : StrNo) (v : Nat) :
    (∀ a, CourseAddr a → (s.set (RING_STATUS_TOPO x) v).rd a = s.rd a) ∧
    (s.set (RING_STATUS_TOPO x) v).get (RING_STATUS_BREAK_HOP x) = s.get (RING_STATUS_BREAK_HOP x) := by
  refine ⟨fun a ha => s.rd_set_ne _ v fun h => ?_, s.get_set_apart _ _ v (.inr (.inl (show 14 + 2 ≤ 16 by decide)))⟩
  have : a = 0x300100 + 0x80 * x.val := h
  omega

theorem State.ringLost_keeps (s : State) (x : StrNo) : (∀ a, CourseAddr a → (s.ringLost x).rd a = s.rd a) ∧
    (s.ringLost x).get (RING_STATUS_BREAK_HOP x) = s.get (RING_STATUS_BREAK_HOP x) ∧ ((s.ringLost x).rs x).pace = (s.rs x).pace ∧
    (s.get (RING_STATUS_TOPO x) = 1 → (s.ringLost x).get (RING_STATUS_TOPO x) = 1 ∨ (s.ringLost x).get (RING_STATUS_TOPO x) = 2) := by
  rcases s.ringLost_cases x with h | ⟨v, h, hv⟩
  · exact ⟨fun a ha => rd_of_course h ha, hop_of_course h x, pace_of_course h x, fun h1 => .inl ((topo_of_course h x).trans h1)⟩
  · obtain ⟨hregs, hhop⟩ := s.setTopo_keeps x v
    refine ⟨fun a ha => (rd_of_course h ha).trans (hregs a ha), (hop_of_course h x).trans hhop, pace_of_course h x, fun h1 => .inr ?_⟩
    have hv2 : v = 2 := hv.resolve_right (by rw [h1]; decide)
    rw [topo_of_course h x, hv2]
    exact s.get_set_same _ 2 (show 14 + 2 ≤ 32 by decide)

/-! #### What a taken sweep shows -/

/-- A string's sweep has been taken with a skew: SEQ has moved by one, TIME is 1 µs after the start, and the break stays shown. -/
structure SweepTaken (x : StrNo) (skew : Nat) (s t : State) : Prop where
  seq : t.rd (RING_SEQ x.val) = s.rd (RING_SEQ x.val) + 1
  time : t.rd64 (RING_TIME_LO x.val) (RING_TIME_HI x.val) = ((s.rs x.val).t0 + 100) % 2 ^ 64
  skew : t.get (RING_SKEW_TICKS x.val) = skew % 2 ^ 16
  hop : t.get (RING_STATUS_BREAK_HOP x.val) = s.get (RING_STATUS_BREAK_HOP x.val)
  topo : s.get (RING_STATUS_TOPO x.val) = 1 → t.get (RING_STATUS_TOPO x.val) = 1 ∨ t.get (RING_STATUS_TOPO x.val) = 2
  pace : (t.rs x.val).pace = (s.rs x.val).pace

theorem courseAddr_seq (x : StrNo) : CourseAddr (RING_SEQ x.val) := by unfold RING_SEQ; omega

theorem State.heard_course (s : State) (i : Sweep) (split : Bool) (x : Nat) : (s.heard i split x).course =
    ((forN 4 (State.monStep i x) s).ringLost x).course :=
  (forN_course _ fun _ hm t => State.recovStep_course i x t hm).trans ((forN_course _ fun p _ t => State.cellStep_course i split x p t).trans
    (course_ite_of (State.firstSweep_course ..) rfl))

/-- The counts and the event of a sweep. -/
def State.counted (s : State) (i : Sweep) (split two : Bool) (x : Nat) : State :=
  let s := s.crcCheck i x
  let s := if split then s.bumpSat (RING_ERR_CNT_SPLIT x) 1 else s
  if two then s.ringEvt x RING_EVT_SPLIT false else s

theorem State.sweepDone_eq (s : State) (i : Sweep) (split two : Bool) (x : Nat) : s.sweepDone i split two x =
    ((s.counted i split two x).sweepCells i split x).sweepChecks i split x := rfl

theorem State.counted_course (s : State) (i : Sweep) (split two : Bool) (x : Nat) : (s.counted i split two x).course = s.course := by
  have hcrc : (s.crcCheck i x).course = s.course :=
    course_ite_of rfl ((State.ringEvt_course _ _ _ rfl).trans (s.set_course _ (beyond_errCnt x)))
  have hcount : (if split then (s.crcCheck i x).bumpSat (RING_ERR_CNT_SPLIT x) 1 else s.crcCheck i x).course = s.course :=
    course_ite_of ((State.set_course _ _ (beyond_errCnt x)).trans hcrc) hcrc
  exact course_ite_of ((State.ringEvt_course _ _ _ rfl).trans hcount) hcount

theorem State.sweepDone_taken (s : State) (i : Sweep) (split two : Bool) (x : StrNo) :
    SweepTaken x (if split then i.skew else 0) s (s.sweepDone i split two x.val) := by
  have hmons : ∀ t : State, (forN 4 (State.monStep i x) t).course = t.course := fun t =>
    forN_course t fun _ hm u => State.monStep_course i x u hm
  rw [State.sweepDone_eq]
  generalize hu : s.counted i split two x = u
  have hbefore : (forN 4 (State.monStep i x) u).course = s.course := (hmons u).trans (hu ▸ s.counted_course i split two x)
  have hheard := u.heard_course i split x
  have hchecks := (u.sweepCells i split x).sweepChecks_course i split x
  rw [u.sweepCells_eq] at hchecks ⊢
  obtain ⟨hregs, hhop, hpace, htopo⟩ := (forN 4 (State.monStep i x) u).ringLost_keeps x
  have hpace' : ((u.heard i split x).rs x).pace = (s.rs x).pace :=
    (pace_of_course hheard x).trans (hpace.trans (pace_of_course hbefore x))
  have ht0 : ((u.heard i split x).rs x).t0 = (s.rs x).t0 := congrArg RStr.Pace.t0 hpace'
  exact {
    seq := by
      rw [rd_of_course hchecks (courseAddr_seq x), State.stamp_seq, rd_of_course hheard (courseAddr_seq x), hregs _ (courseAddr_seq x),
        rd_of_course hbefore (courseAddr_seq x)]
    time := by
      unfold State.rd64 State.rdN
      rw [rd_of_course hchecks (by unfold RING_TIME_LO; omega), rd_of_course hchecks (by unfold RING_TIME_HI; omega), ← ht0]
      exact State.stamp_time ..
    skew := (get_of_course hchecks (show CourseAddr (RING_SKEW x.val) by unfold RING_SKEW; omega)).trans (State.stamp_skew ..)
    hop := by rw [hop_of_course hchecks, State.stamp_status _ _ _ _ rfl, hop_of_course hheard, hhop, hop_of_course hbefore]
    topo := fun h => by
      rw [topo_of_course hchecks, State.stamp_status _ _ _ _ rfl, topo_of_course hheard]
      exact htopo ((topo_of_course hbefore x).trans h)
    pace := (pace_of_course hchecks x).trans hpace' }

end Sys2Proof.Machine


namespace Sys2Proof.Machine

/-! ### SWEEP_COMPLETE, BREAK_DETECT and READ_HELD_COMPLETE (R257, R263 to R265) -/

@[simp] theorem State.setRs_strs_length (s : State) (x : Nat) (r : RStr) : (s.setRs x r).ring.strs.length = s.ring.strs.length :=
  List.length_set

theorem State.rs_setRs_str (s : State) (x : StrNo) (r : RStr) (hlen : s.ring.strs.length = 2) : (s.setRs x.val r).rs x.val = r :=
  s.rs_setRs x r (by rw [hlen]; exact x.isLt)

theorem State.hear_course (s : State) (x : Nat) (i : SweepIn) : (s.hear x i).course = s.course := s.setRs_course

theorem State.endTwo_course (s : State) (x : Nat) : (s.endTwo x).course = (s.setRs x { s.rs x with cmdsDue := false }).course := by
  have hdone : (s.rs x).cmdsDue = false → (s.setRs x { s.rs x with cmdsDue := false }).course = s.course := fun h =>
    s.setRs_course (by unfold RStr.pace; rw [h])
  unfold State.endTwo
  split
  next h => exact (hdone (by rwa [Bool.not_eq_true'] at h)).symm
  next => exact (State.sendCmds_course ..).trans (State.swapSend_course ..)

/-- A change of a string that keeps the start of its sweep. -/
theorem State.t0_setRs (s : State) (x : Nat) {r : RStr} (h : r.t0 = (s.rs x).t0 := by rfl) : ((s.setRs x r).rs x).t0 = (s.rs x).t0 := by
  rw [s.rs_setRs_ite]
  split
  · exact h
  · rfl

/-! #### The way into SPLIT and back -/

theorem State.toSplit_rs (s : State) (i : Sweep) (x : StrNo) (hlen : s.ring.strs.length = 2) :
    (s.toSplit i x.val).rs x.val = { s.rs x.val with split := true, intact := 0 } := by
  unfold State.toSplit
  exact State.rs_setRs_str _ x _ (by split <;> exact hlen)

theorem State.toSplit_keeps (s : State) (i : Sweep) (x : StrNo) (a : Nat) (ha : CourseAddr a) : (s.toSplit i x.val).rd a = s.rd a := by
  have hset : ∀ (t : State) (f : Field) (v : Nat), f.addr = RING_STATUS x → (t.set f v).rd a = t.rd a := fun t f v hf =>
    t.rd_set_ne f v fun h => by
      rw [h, hf] at ha
      unfold RING_STATUS at ha
      omega
  unfold State.toSplit
  rw [State.setRs_rd]
  split
  · exact (hset _ _ _ rfl).trans (hset _ _ _ rfl)
  · exact hset _ _ _ rfl

theorem State.toSplit_hop (s : State) (i : Sweep) (x : StrNo) :
    (s.toSplit i x.val).get (RING_STATUS_BREAK_HOP x.val) = i.hop.getD 7 % 2 ^ 3 := by
  have hset : (s.set (RING_STATUS_BREAK_HOP x) (i.hop.getD 7)).get (RING_STATUS_BREAK_HOP x) = i.hop.getD 7 % 2 ^ 3 :=
    s.get_set_same _ _ (show 16 + 3 ≤ 32 by decide)
  exact get_ite_of ((State.setTopo_keeps _ x 1).2.trans hset) hset

theorem State.toSplit_topo (s : State) (i : Sweep) (x : StrNo) (h : s.get (RING_STATUS_TOPO x.val) = 0) :
    (s.toSplit i x.val).get (RING_STATUS_TOPO x.val) = 1 := by
  have hset : (s.set (RING_STATUS_BREAK_HOP x) (i.hop.getD 7)).get (RING_STATUS_TOPO x) = 0 :=
    (s.get_set_apart _ _ _ (.inr (.inr (show 14 + 2 ≤ 16 by decide)))).trans h
  unfold State.toSplit
  dsimp only
  rw [State.setRs_get, if_pos hset]
  exact State.get_set_same _ _ 1 (show 14 + 2 ≤ 32 by decide)

/-- What a break's sweep shows. -/
structure BreakShown (x : StrNo) (w : Sweep) (s t : State) : Prop where
  seq : t.rd (RING_SEQ x.val) = s.rd (RING_SEQ x.val) + 1
  time : t.rd64 (RING_TIME_LO x.val) (RING_TIME_HI x.val) = ((s.rs x.val).t0 + 100) % 2 ^ 64
  skew : t.get (RING_SKEW_TICKS x.val) = w.skew % 2 ^ 16
  hop : t.get (RING_STATUS_BREAK_HOP x.val) = w.hop.getD 7 % 2 ^ 3
  topo : s.get (RING_STATUS_TOPO x.val) = 0 → t.get (RING_STATUS_TOPO x.val) = 1 ∨ t.get (RING_STATUS_TOPO x.val) = 2
  pace : (t.rs x.val).pace = { (s.rs x.val).pace with split := true }

theorem State.toSplit_shown (s : State) (w : Sweep) (two : Bool) (x : StrNo) (hlen : s.ring.strs.length = 2) :
    BreakShown x w s ((s.toSplit w x.val).sweepDone w true two x.val) := by
  have htaken := (s.toSplit w x.val).sweepDone_taken w true two x
  have hrs := s.toSplit_rs w x hlen
  exact {
    seq := htaken.seq.trans (by rw [s.toSplit_keeps w x _ (courseAddr_seq x)])
    time := htaken.time.trans (by rw [hrs])
    skew := htaken.skew
    hop := htaken.hop.trans (s.toSplit_hop w x)
    topo := fun h => htaken.topo (s.toSplit_topo w x h)
    pace := htaken.pace.trans (congrArg RStr.pace hrs) }

/-- A break's hop lies before or behind one of the four monitors, so it fits its field. -/
theorem breakHop_fits (i : SweepIn) : (breakHop i).getD 7 % 2 ^ 3 = (breakHop i).getD 7 := by
  have hwrap : ∀ (f : List Byte) (m : Nat), wrapOf f = some m → m < 4 := by
    intro f m h
    unfold wrapOf at h
    split at h
    · injection h with h
      omega
    · cases h
  unfold breakHop
  cases hfwd : wrapOf i.fwd with
  | some m =>
    have := hwrap _ _ hfwd
    show (m + 1) % 2 ^ 3 = m + 1
    omega
  | none =>
    cases hrev : wrapOf i.rev with
    | some m =>
      have := hwrap _ _ hrev
      show m % 2 ^ 3 = m
      omega
    | none => rfl

theorem State.toIntact_rs (s : State) (x : StrNo) (hlen : s.ring.strs.length = 2) : ((s.toIntact x.val).rs x.val).split = false := by
  unfold State.toIntact
  dsimp only
  rw [State.rs_setRs_str _ x _ (by split <;> exact hlen)]

theorem State.toIntact_hop (s : State) (x : StrNo) : (s.toIntact x.val).get (RING_STATUS_BREAK_HOP x.val) = 7 := by
  unfold State.toIntact
  rw [State.setRs_get]
  exact State.get_set_same _ _ 7 (show 16 + 3 ≤ 32 by decide)

theorem State.toIntact_keeps (s : State) (x : StrNo) (a : Nat) (ha : CourseAddr a) : (s.toIntact x.val).rd a = s.rd a := by
  have hset : ∀ (t : State) (f : Field) (v : Nat), f.addr = RING_STATUS x → (t.set f v).rd a = t.rd a := fun t f v hf =>
    t.rd_set_ne f v fun h => by
      rw [h, hf] at ha
      unfold RING_STATUS at ha
      omega
  unfold State.toIntact
  rw [State.setRs_rd, hset _ _ _ rfl]
  split
  · exact hset _ _ _ rfl
  · rfl

/-- A sweep of a ring in SPLIT is taken; the eighth frame without a break makes the ring INTACT again. -/
theorem State.splitSweep_shows (s : State) (w : Sweep) (x : StrNo) (hlen : s.ring.strs.length = 2) :
    (s.splitSweep w x.val).rd (RING_SEQ x.val) = s.rd (RING_SEQ x.val) + 1 ∧
    (s.splitSweep w x.val).rd64 (RING_TIME_LO x.val) (RING_TIME_HI x.val) = ((s.rs x.val).t0 + 100) % 2 ^ 64 ∧
    (w.broken = false → 7 ≤ (s.rs x.val).intact →
      ((s.splitSweep w x.val).rs x.val).split = false ∧ (s.splitSweep w x.val).get (RING_STATUS_BREAK_HOP x.val) = 7) := by
  unfold State.splitSweep
  dsimp only
  cases w.broken with
  | true =>
    have hshown := s.toSplit_shown w (w.far.any id) x hlen
    exact ⟨hshown.seq, hshown.time, fun h => absurd h (by decide)⟩
  | false =>
    rw [if_neg Bool.false_ne_true]
    generalize hu : s.setRs x.val { s.rs x.val with intact := (s.rs x.val).intact + 1 } = u
    have htaken := u.sweepDone_taken w true (w.far.any id) x
    have hlenDone := (State.sweepDone_kept (bm := false) (bt := false) w true (w.far.any id) x (Kept.refl u)).ring (by
      rw [← hu, State.setRs_strs_length, hlen])
    have hseq := htaken.seq
    have htime := htaken.time
    have ht0 : (u.rs x).t0 = (s.rs x).t0 := hu ▸ s.t0_setRs x
    have hrd : u.rd (RING_SEQ x) = s.rd (RING_SEQ x) := hu ▸ rfl
    rw [hrd] at hseq
    rw [ht0] at htime
    split
    · refine ⟨(State.toIntact_keeps _ x _ (courseAddr_seq x)).trans hseq, ?_, fun _ _ => ⟨State.toIntact_rs _ x hlenDone,
        State.toIntact_hop _ x⟩⟩
      unfold State.rd64 State.rdN
      rw [State.toIntact_keeps _ x _ (by unfold RING_TIME_LO; omega), State.toIntact_keeps _ x _ (by unfold RING_TIME_HI; omega)]
      exact htime
    next hn => exact ⟨hseq, htime, fun _ h => absurd (Nat.succ_le_succ h) hn⟩

/-! #### The commands -/

/-- Both ends ask for the held samples (R264). -/
def State.askHeld (s : State) (x : Nat) : State :=
  ((s.setRs x { s.rs x with readHeld := true }).sendRing x 0 0x11 0xFF (zeros 176)).sendRing x 1 0x11 0xFF (zeros 176)

theorem State.askHeld_readHeld (s : State) (x : StrNo) (hlen : s.ring.strs.length = 2) : ((s.askHeld x.val).rs x.val).readHeld = true :=
  congrArg RStr.readHeld (s.rs_setRs_str x { s.rs x.val with readHeld := true } hlen)

theorem State.askHeld_rd (s : State) (x a : Nat) : (s.askHeld x).rd a = s.rd a := rfl

theorem State.askHeld_get (s : State) (x : Nat) (f : Field) : (s.askHeld x).get f = s.get f := rfl

theorem exec_sweepComplete (s : State) (x : StrNo) (i : SweepIn) (hp : s.pins.powered = true) (h : s.swept x.val = true) :
    exec (.sweepComplete x i) s =
      if (s.rs x.val).split then .next ((s.hear x.val i).splitSweep (readSweep (s.rs x.val).linkUp i) x.val)
      else if (readSweep (s.rs x.val).linkUp i).broken then
        .next (((s.hear x.val i).endTwo x.val).askHeld x.val)
      else .next (((s.hear x.val i).endTwo x.val).sweepDone (readSweep (s.rs x.val).linkUp i) false false x.val) := by
  have hexec : exec (.sweepComplete x i) s = execSweepComplete x i s := rfl
  have hsplit : ((s.hear x.val i).rs x.val).split = (s.rs x.val).split := congrArg RStr.Pace.split (pace_of_course (s.hear_course x.val i) x.val)
  rw [hexec]
  unfold execSweepComplete
  rw [State.on_powered _ hp, h, if_neg (by decide)]
  dsimp only
  rw [hsplit]
  rfl

theorem sweepComplete_unswept (s : State) (x : StrNo) (i : SweepIn) (hp : s.pins.powered = true) (h : s.swept x.val = false) :
    exec (.sweepComplete x i) s = .next s := by
  have hexec : exec (.sweepComplete x i) s = execSweepComplete x i s := rfl
  rw [hexec]
  unfold execSweepComplete
  rw [State.on_powered _ hp, h]
  rfl

theorem exec_breakDetect (s : State) (x : StrNo) (i : SweepIn) (hp : s.pins.powered = true) : exec (.breakDetect x i) s =
    if !s.swept x.val || (s.rs x.val).split then .next s
    else .next (((((s.hear x.val i).setRs x.val { (s.hear x.val i).rs x.val with cmdsDue := false }).sendRing x.val 1 0x11 0xFF
      (zeros 176)).toSplit (readSweep true i) x.val).sweepDone (readSweep true i) true true x.val) := by
  have hexec : exec (.breakDetect x i) s = execBreakDetect x i s := rfl
  rw [hexec]
  unfold execBreakDetect
  rw [State.on_powered _ hp]

theorem exec_readHeldComplete (s : State) (x : StrNo) (i : SweepIn) (hp : s.pins.powered = true) : exec (.readHeldComplete x i) s =
    if !(s.rs x.val).readHeld then .next s
    else .next ((((s.hear x.val i).setRs x.val { (s.hear x.val i).rs x.val with readHeld := false }).toSplit
      { readSweep true i with skew := 0 } x.val).sweepDone { readSweep true i with skew := 0 } true true x.val) := by
  have hexec : exec (.readHeldComplete x i) s = execReadHeldComplete x i s := rfl
  rw [hexec]
  unfold execReadHeldComplete
  rw [State.on_powered _ hp]

/-- A sweep of an intact ring without a break is taken. -/
theorem sweepComplete_whole {s : State} {x : StrNo} {i : SweepIn} (hp : s.pins.powered = true) (h : s.swept x.val = true)
    (hs : (s.rs x.val).split = false) (hb : (readSweep (s.rs x.val).linkUp i).broken = false) :
    ∃ t, exec (.sweepComplete x i) s = .next t ∧ t.rd (RING_SEQ x.val) = s.rd (RING_SEQ x.val) + 1 ∧
      t.rd64 (RING_TIME_LO x.val) (RING_TIME_HI x.val) = ((s.rs x.val).t0 + 100) % 2 ^ 64 := by
  have hend := (s.hear x.val i).endTwo_course x.val
  have htaken := ((s.hear x.val i).endTwo x.val).sweepDone_taken (readSweep (s.rs x.val).linkUp i) false false x
  have ht0 : (((s.hear x.val i).endTwo x.val).rs x.val).t0 = (s.rs x.val).t0 :=
    (congrArg RStr.Pace.t0 (pace_of_course hend x)).trans ((State.t0_setRs _ _).trans (s.t0_setRs x))
  refine ⟨_, ?_, htaken.seq.trans (congrArg (· + 1) (rd_of_course hend (courseAddr_seq x))), htaken.time.trans (by rw [ht0])⟩
  rw [exec_sweepComplete s x i hp h, hs, hb]
  rfl

/-- A break in a sweep starts a read of the held samples and shows nothing yet. -/
theorem sweepComplete_broken {s : State} {x : StrNo} {i : SweepIn} (hp : s.pins.powered = true) (hlen : s.ring.strs.length = 2)
    (h : s.swept x.val = true) (hs : (s.rs x.val).split = false) (hb : (readSweep (s.rs x.val).linkUp i).broken = true) :
    ∃ t, exec (.sweepComplete x i) s = .next t ∧ (t.rs x.val).readHeld = true ∧ t.rd (RING_SEQ x.val) = s.rd (RING_SEQ x.val) ∧
      t.get (RING_STATUS_TOPO x.val) = s.get (RING_STATUS_TOPO x.val) := by
  have hend := (s.hear x.val i).endTwo_course x.val
  have hlenEnd : ((s.hear x.val i).endTwo x.val).ring.strs.length = 2 :=
    (State.endTwo_kept (bm := false) (bt := false) x (Kept.refl (s.hear x i))).ring ((s.setRs_strs_length ..).trans hlen)
  refine ⟨((s.hear x.val i).endTwo x.val).askHeld x.val, ?_, State.askHeld_readHeld _ x hlenEnd,
    (State.askHeld_rd ..).trans (rd_of_course hend (courseAddr_seq x)), (State.askHeld_get ..).trans (topo_of_course hend x)⟩
  rw [exec_sweepComplete s x i hp h, hs, hb]
  rfl

theorem sweepComplete_split {s : State} {x : StrNo} {i : SweepIn} (hp : s.pins.powered = true) (hlen : s.ring.strs.length = 2)
    (h : s.swept x.val = true) (hs : (s.rs x.val).split = true) :
    ∃ t, exec (.sweepComplete x i) s = .next t ∧ t.rd (RING_SEQ x.val) = s.rd (RING_SEQ x.val) + 1 ∧
      t.rd64 (RING_TIME_LO x.val) (RING_TIME_HI x.val) = ((s.rs x.val).t0 + 100) % 2 ^ 64 ∧
      ((readSweep (s.rs x.val).linkUp i).broken = false → 7 ≤ (s.rs x.val).intact →
        (t.rs x.val).split = false ∧ t.get (RING_STATUS_BREAK_HOP x.val) = 7) := by
  obtain ⟨hseq, htime, hwhole⟩ := (s.hear x.val i).splitSweep_shows (readSweep (s.rs x.val).linkUp i) x ((s.setRs_strs_length ..).trans hlen)
  have hrs : (s.hear x.val i).rs x.val = { s.rs x.val with linkUp := linkNow (s.rs x.val).linkUp i } := s.rs_setRs_str x _ hlen
  rw [hrs] at htime hwhole
  refine ⟨_, ?_, hseq, htime, hwhole⟩
  rw [exec_sweepComplete s x i hp h, hs]
  rfl

theorem breakDetect_shows {s : State} {x : StrNo} {i : SweepIn} (hp : s.pins.powered = true) (hlen : s.ring.strs.length = 2)
    (h : s.swept x.val = true) (hs : (s.rs x.val).split = false) :
    ∃ t, exec (.breakDetect x i) s = .next t ∧ (t.rs x.val).split = true ∧ (t.rs x.val).cmdsDue = false ∧
      (s.get (RING_STATUS_TOPO x.val) = 0 → t.get (RING_STATUS_TOPO x.val) = 1 ∨ t.get (RING_STATUS_TOPO x.val) = 2) ∧
      t.get (RING_STATUS_BREAK_HOP x.val) = (breakHop i).getD 7 ∧ t.rd (RING_SEQ x.val) = s.rd (RING_SEQ x.val) + 1 ∧
      t.rd64 (RING_TIME_LO x.val) (RING_TIME_HI x.val) = ((s.rs x.val).t0 + 100) % 2 ^ 64 := by
  have hlenHear : (s.hear x.val i).ring.strs.length = 2 := (s.setRs_strs_length ..).trans hlen
  have hrs := (s.hear x.val i).rs_setRs_str x { (s.hear x.val i).rs x.val with cmdsDue := false } hlenHear
  have ht0 : (((s.hear x.val i).setRs x.val { (s.hear x.val i).rs x.val with cmdsDue := false }).rs x.val).t0 = (s.rs x.val).t0 :=
    (State.t0_setRs _ _).trans (s.t0_setRs x)
  have hshown := (((s.hear x.val i).setRs x.val { (s.hear x.val i).rs x.val with cmdsDue := false }).sendRing x.val 1 0x11 0xFF
    (zeros 176)).toSplit_shown (readSweep true i) true x ((State.setRs_strs_length ..).trans hlenHear)
  refine ⟨_, ?_, congrArg RStr.Pace.split hshown.pace, (congrArg RStr.Pace.cmdsDue hshown.pace).trans (congrArg RStr.cmdsDue hrs), hshown.topo,
    hshown.hop.trans (breakHop_fits i), hshown.seq, hshown.time.trans (congrArg (fun n => (n + 100) % 2 ^ 64) ht0)⟩
  rw [exec_breakDetect s x i hp, h, hs]
  rfl

theorem readHeldComplete_shows {s : State} {x : StrNo} {i : SweepIn} (hp : s.pins.powered = true) (hlen : s.ring.strs.length = 2)
    (h : (s.rs x.val).readHeld = true) :
    ∃ t, exec (.readHeldComplete x i) s = .next t ∧ (t.rs x.val).readHeld = false ∧ (t.rs x.val).split = true ∧
      t.get (RING_STATUS_BREAK_HOP x.val) = (breakHop i).getD 7 ∧ t.get (RING_SKEW_TICKS x.val) = 0 ∧
      t.rd (RING_SEQ x.val) = s.rd (RING_SEQ x.val) + 1 ∧
      t.rd64 (RING_TIME_LO x.val) (RING_TIME_HI x.val) = ((s.rs x.val).t0 + 100) % 2 ^ 64 := by
  have hlenHear : (s.hear x.val i).ring.strs.length = 2 := (s.setRs_strs_length ..).trans hlen
  have hrs := (s.hear x.val i).rs_setRs_str x { (s.hear x.val i).rs x.val with readHeld := false } hlenHear
  have ht0 : (((s.hear x.val i).setRs x.val { (s.hear x.val i).rs x.val with readHeld := false }).rs x.val).t0 = (s.rs x.val).t0 :=
    (State.t0_setRs _ _).trans (s.t0_setRs x)
  have hshown := ((s.hear x.val i).setRs x.val { (s.hear x.val i).rs x.val with readHeld := false }).toSplit_shown
    { readSweep true i with skew := 0 } true x ((State.setRs_strs_length ..).trans hlenHear)
  refine ⟨_, ?_, (congrArg RStr.Pace.readHeld hshown.pace).trans (congrArg RStr.readHeld hrs), congrArg RStr.Pace.split hshown.pace,
    hshown.hop.trans (breakHop_fits i), hshown.skew, hshown.seq, hshown.time.trans (congrArg (fun n => (n + 100) % 2 ^ 64) ht0)⟩
  rw [exec_readHeldComplete s x i hp, h]
  rfl

end Sys2Proof.Machine


namespace Sys2Proof.Machine

/-! ### What a ring event shows (R277) -/

theorem ringAddr_evt (x : StrNo) : RingAddr (RING_EVT x.val) := by unfold RING_EVT; omega

theorem ringAddr_errCnt (x : StrNo) : RingAddr (RING_ERR_CNT x.val) := by unfold RING_ERR_CNT; omega

theorem ringAddr_status (x : StrNo) : RingAddr (RING_STATUS x.val) := by unfold RING_STATUS; omega

theorem State.isSet_ringEvt (s : State) (x : StrNo) {f : Nat → Field} (coded : Bool) (hf : (f x.val).addr = RING_EVT x.val)
    (hw : (f x.val).lo + 1 ≤ 32 ∧ (f x.val).w = 1) : (s.ringEvt x.val f coded).isSet (f x.val) = true := by
  obtain ⟨hlo, hw1⟩ := hw
  have hraise : ∀ v, (s.raiseBit (f x) v).isSet (f x) = true := fun v => s.isSet_raiseBit (f x) v (by rw [hw1]; exact hlo) (by rw [hw1]; decide)
  unfold State.ringEvt
  split
  · assumption
  · dsimp only
    split
    · exact hraise _
    · exact (State.isSet_of_get (get_of_side (side_of_panel (State.record_panel ..)) (hf ▸ ringAddr_evt x))).trans (hraise _)

/-- Another register of the rings. -/
theorem State.get_ringEvt_ne (s : State) (x : Nat) {f : Nat → Field} {g : Field} (coded : Bool) (hg : RingAddr g.addr)
    (h : (f x).addr ≠ g.addr) : (s.ringEvt x f coded).get g = s.get g := by
  have hraise : ∀ v, (s.raiseBit (f x) v).get g = s.get g := fun v => s.get_raiseBit_apart (f x) g v (.inl h)
  exact get_ite_of rfl (get_ite_of (hraise _) ((get_of_side (side_of_panel (State.record_panel ..)) hg).trans (hraise _)))

/-- An event without a code leaves the registers below 0x100000. -/
theorem State.get_ringEvt_low (s : State) (x : StrNo) {f : Nat → Field} {g : Field} (hf : (f x.val).addr = RING_EVT x.val)
    (hg : g.addr < 0x100000) : (s.ringEvt x.val f false).get g = s.get g := by
  have hraise : ∀ v, (s.raiseBit (f x) v).get g = s.get g := fun v => s.get_raiseBit_apart (f x) g v (.inl (by
    have := ringAddr_evt x
    omega))
  refine get_ite_of rfl ?_
  rw [if_neg Bool.false_ne_true]
  exact (congrArg (fun w => fieldGet w g.lo g.w) ((State.record_lowKept ..).low _ hg)).trans (hraise _)

theorem State.ringEvt_apart {p : Parts} (s : State) (x : Nat) (f : Nat → Field) (coded : Bool) :
    (s.ringEvt x f coded).apart p = s.apart p := by
  unfold State.ringEvt
  dsimp only
  split
  · rfl
  · split
    · exact s.raiseBit_apart ..
    · exact (State.record_apart ..).trans (s.raiseBit_apart ..)

/-! ### What the command frames of a string leave (R257, R263) -/

/-- The state beside a string's ring, its frames and the queue's number. -/
structure Aloof (y : Nat) where
  regs : { a : Nat // a ≠ RING_BAL_STATUS } → Word
  others : { x : Nat // x ≠ y } → RStr
  mhb : Nat
  clk : Clk
  time : Word64

def State.aloof (s : State) (y : Nat) : Aloof y where
  regs a := s.rd a
  others x := s.rs x
  mhb := s.ring.mhb
  clk := s.clk
  time := s.time

theorem rd_of_aloof {s t : State} {y : Nat} (h : t.aloof y = s.aloof y) {a : Nat} (ha : a ≠ RING_BAL_STATUS) : t.rd a = s.rd a :=
  congrArg (fun v : Aloof y => v.regs ⟨a, ha⟩) h

theorem rs_of_aloof {s t : State} {y x : Nat} (h : t.aloof y = s.aloof y) (hx : x ≠ y) : t.rs x = s.rs x :=
  congrArg (fun v : Aloof y => v.others ⟨x, hx⟩) h

theorem aloof_ite_of {c : Prop} [Decidable c] {s t : State} {y : Nat} {v : Aloof y} (hs : s.aloof y = v) (ht : t.aloof y = v) :
    (if c then s else t).aloof y = v := by
  split <;> assumption

theorem State.setRs_aloof (s : State) (y : Nat) (r : RStr) : (s.setRs y r).aloof y = s.aloof y := by
  have hothers : (fun x : { x // x ≠ y } => (s.setRs y r).rs x) = fun x : { x // x ≠ y } => s.rs x := funext fun x => s.rs_setRs_ne r x.2
  unfold State.aloof
  rw [hothers]
  rfl

theorem State.showQueued_aloof (s : State) (y : Nat) : s.showQueued.aloof y = s.aloof y := by
  have hregs : (fun a : { a // a ≠ RING_BAL_STATUS } => s.showQueued.rd a) = fun a : { a // a ≠ RING_BAL_STATUS } => s.rd a :=
    funext fun a => s.rd_set_ne _ _ a.2
  unfold State.aloof
  rw [hregs]
  rfl

theorem State.sendFrom_aloof (s : State) (y : Nat) (ends : List Nat) (kind dest : Nat) (payload : List Byte) :
    (s.sendFrom y ends kind dest payload).aloof y = s.aloof y := by
  unfold State.sendFrom forL
  induction ends generalizing s with
  | nil => rfl
  | cons e l ih => exact (ih _).trans rfl

theorem State.sendNext_aloof (s : State) (y : Nat) (ends : List Nat) : (s.sendNext y ends).aloof y = s.aloof y := by
  unfold State.sendNext
  split
  · exact (State.sendFrom_aloof ..).trans (s.setRs_aloof y _)
  · exact aloof_ite_of rfl ((State.showQueued_aloof ..).trans ((State.setRs_aloof ..).trans (s.sendFrom_aloof ..)))

theorem State.splitCmds_aloof (s : State) (y : Nat) : (s.splitCmds y).aloof y = s.aloof y :=
  aloof_ite_of ((State.sendNext_aloof ..).trans (s.sendNext_aloof ..)) (s.sendNext_aloof ..)

theorem State.swapSend_aloof (s : State) (y : Nat) : (s.swapSend y).aloof y = s.aloof y :=
  aloof_ite_of ((State.setRs_aloof ..).trans (s.setRs_aloof ..)) rfl

/-! ### The start of a string's sweep (R257, R258, R264, R506) -/

theorem State.swept_iff (s : State) (x : Nat) : s.swept x = true ↔
    (s.get (RING_STATUS_ENUM x) = 4 ∨ s.get (RING_STATUS_ENUM x) = 5) ∧ s.ringClocked = true := by
  unfold State.swept
  rw [Bool.and_eq_true, Bool.or_eq_true, beq_iff_eq, beq_iff_eq]

/-- A string's sweep starts: its time and its voltage are taken, and its frames leave. -/
def State.launch (s : State) (x vstr : Nat) : State :=
  let r := s.rs x
  let s := s.execSent x
  let s := s.setRs x { s.rs x with t0 := s.now, vstr := vstr, cmdsDue := !r.split }
  let s := s.sendRing x 0 0x10 0xFF (zeros 176)
  if r.split then ((s.sendRing x 1 0x10 0xFF (zeros 176)).swapSend x).splitCmds x else s

/-- A string's sweep is skipped, and counted. -/
def State.skip (s : State) (x : Nat) : State := (s.bumpSat (RING_ERR_CNT_SKIPPED x) 1).ringEvt x RING_EVT_SKIPPED false

theorem State.sweepOne_eq (s : State) (x vstr : Nat) : s.sweepOne x vstr =
    if s.swept x then (if (s.rs x).readHeld || s.relock then s.skip x else s.launch x vstr) else s := by
  have hcond : ((s.get (RING_STATUS_ENUM x) ≠ 4 ∧ s.get (RING_STATUS_ENUM x) ≠ 5) ∨ !s.ringClocked) ↔ ¬s.swept x = true := by
    rw [s.swept_iff, Bool.not_eq_true']
    cases s.ringClocked <;> simp
  have hunfold : s.sweepOne x vstr = if (s.get (RING_STATUS_ENUM x) ≠ 4 ∧ s.get (RING_STATUS_ENUM x) ≠ 5) ∨ !s.ringClocked then s
      else if (s.rs x).readHeld || s.relock then s.skip x else s.launch x vstr := rfl
  rw [hunfold]
  by_cases h : s.swept x = true
  · rw [if_neg fun h' => hcond.1 h' h, if_pos h]
  · rw [if_pos (hcond.2 h), if_neg h]

theorem State.launch_aloof (s : State) (x vstr : Nat) : (s.launch x vstr).aloof x = s.aloof x := by
  have hsend : ∀ (t : State) (o : Out), (((t.emit o).swapSend x).splitCmds x).aloof x = t.aloof x := fun t o =>
    (State.splitCmds_aloof ..).trans ((t.emit o).swapSend_aloof x)
  have hstart : ∀ r : RStr, ((s.execSent x).setRs x r).aloof x = s.aloof x := fun r => (State.setRs_aloof ..).trans (s.setRs_aloof ..)
  unfold State.launch
  dsimp only
  exact aloof_ite_of ((hsend _ _).trans (hstart _)) (hstart _)

/-- What the start of a string's sweep keeps of it. -/
theorem State.launch_pace (s : State) (x : StrNo) (vstr : Nat) (hlen : s.ring.strs.length = 2) : ((s.launch x.val vstr).rs x.val).pace =
    { (s.rs x.val).pace with t0 := s.now, vstr := vstr, cmdsDue := !(s.rs x.val).split } := by
  have hsent : (s.execSent x).course = s.course := s.execSent_course x
  have hlenSent : (s.execSent x).ring.strs.length = 2 := (s.setRs_strs_length ..).trans hlen
  have hstart : (((s.execSent x).setRs x { (s.execSent x).rs x with t0 := s.now, vstr := vstr, cmdsDue := !(s.rs x).split }).rs x).pace =
      { (s.rs x).pace with t0 := s.now, vstr := vstr, cmdsDue := !(s.rs x).split } := by
    rw [State.rs_setRs_str _ x _ hlenSent]
    exact congrArg (fun q : RStr.Pace => { q with t0 := s.now, vstr := vstr, cmdsDue := !(s.rs x).split }) (pace_of_course hsent x)
  have hsend : ∀ (t : State) (o : Out), (((t.emit o).swapSend x).splitCmds x).course = t.course := fun t o =>
    (State.splitCmds_course ..).trans ((t.emit o).swapSend_course x)
  unfold State.launch
  dsimp only
  split
  · exact (pace_of_course (hsend _ _) x).trans hstart
  · exact hstart

/-! #### What a skipped sweep shows and keeps -/

theorem State.skip_apart (s : State) (x : Nat) : (s.skip x).apart {} = s.apart {} := State.ringEvt_apart ..

theorem State.skip_keeps (s : State) (x : Nat) : (s.skip x).ring = s.ring ∧ (s.skip x).clk = s.clk ∧ (s.skip x).time = s.time :=
  have h := s.skip_apart x
  ⟨(congrArg State.ring h : ((s.skip x).apart {}).ring = (s.apart {}).ring), (congrArg State.clk h : ((s.skip x).apart {}).clk = (s.apart {}).clk),
    (congrArg State.time h : ((s.skip x).apart {}).time = (s.apart {}).time)⟩

theorem State.skip_shows (s : State) (x : StrNo) : (s.skip x.val).isSet (RING_EVT_SKIPPED x.val) = true ∧
    (s.skip x.val).get (RING_ERR_CNT_SKIPPED x.val) =
      min (s.get (RING_ERR_CNT_SKIPPED x.val) + 1) (2 ^ (RING_ERR_CNT_SKIPPED x.val).w - 1) := by
  refine ⟨State.isSet_ringEvt _ x false rfl ⟨show 1 + 1 ≤ 32 by decide, rfl⟩, ?_⟩
  have hevt : RING_EVT x.val ≠ RING_ERR_CNT x.val := by unfold RING_EVT RING_ERR_CNT; omega
  refine (State.get_ringEvt_ne _ _ false (ringAddr_errCnt x) hevt).trans ((s.get_set_same _ _ (show 8 + 8 ≤ 32 by decide)).trans ?_)
  show min _ (2 ^ 8 - 1) % 2 ^ 8 = min _ (2 ^ 8 - 1)
  omega

theorem State.get_skip_ne (s : State) {x : StrNo} {g : Field} (hg : RingAddr g.addr) (hevt : RING_EVT x.val ≠ g.addr)
    (hcnt : RING_ERR_CNT x.val ≠ g.addr) : (s.skip x.val).get g = s.get g :=
  (State.get_ringEvt_ne _ _ false hg hevt).trans (s.get_set_apart _ _ _ (.inl hcnt))

theorem State.get_skip_low (s : State) (x : StrNo) {g : Field} (hg : g.addr < 0x100000) : (s.skip x.val).get g = s.get g := by
  refine (State.get_ringEvt_low _ x rfl hg).trans (s.get_set_apart _ _ _ (.inl fun h => ?_))
  have := ringAddr_errCnt x
  have : RING_ERR_CNT x.val = g.addr := h
  omega

/-! #### The other string's start -/

/-- What a string's start reads and shows. -/
structure Sight where
  rs : RStr
  mhb : Nat
  clk : Clk
  time : Word64
  clocked : Nat
  enum : Nat
  evt : Nat
  cnt : Nat

def State.sight (s : State) (x : Nat) : Sight where
  rs := s.rs x
  mhb := s.ring.mhb
  clk := s.clk
  time := s.time
  clocked := s.get ⟨CLK_GATE_EFF, 6, 1⟩
  enum := s.get (RING_STATUS_ENUM x)
  evt := s.get (RING_EVT_SKIPPED x)
  cnt := s.get (RING_ERR_CNT_SKIPPED x)

theorem sight_ite_of {c : Prop} [Decidable c] {s t : State} {x : Nat} {v : Sight} (hs : s.sight x = v) (ht : t.sight x = v) :
    (if c then s else t).sight x = v := by
  split <;> assumption

theorem State.launch_sight (s : State) {x y : StrNo} (vstr : Nat) (h : x ≠ y) : (s.launch y.val vstr).sight x.val = s.sight x.val := by
  have haloof := s.launch_aloof y vstr
  have hne : x.val ≠ y.val := fun h' => h (Fin.ext h')
  have hget : ∀ f : Field, f.addr ≠ RING_BAL_STATUS → (s.launch y vstr).get f = s.get f := fun f hf =>
    congrArg (fun w => fieldGet w f.lo f.w) (rd_of_aloof haloof hf)
  have hstatus : RING_STATUS x.val ≠ RING_BAL_STATUS := by unfold RING_STATUS RING_BAL_STATUS; omega
  have hevt : RING_EVT x.val ≠ RING_BAL_STATUS := by unfold RING_EVT RING_BAL_STATUS; omega
  have hcnt : RING_ERR_CNT x.val ≠ RING_BAL_STATUS := by unfold RING_ERR_CNT RING_BAL_STATUS; omega
  have hmhb : (s.launch y vstr).ring.mhb = s.ring.mhb := congrArg Aloof.mhb haloof
  have hclk : (s.launch y vstr).clk = s.clk := congrArg Aloof.clk haloof
  have htime : (s.launch y vstr).time = s.time := congrArg Aloof.time haloof
  unfold State.sight
  rw [rs_of_aloof haloof hne, hmhb, hclk, htime, hget _ (by decide),
    hget (RING_STATUS_ENUM x) hstatus, hget (RING_EVT_SKIPPED x) hevt, hget (RING_ERR_CNT_SKIPPED x) hcnt]

theorem State.skip_sight (s : State) {x y : StrNo} (h : x ≠ y) : (s.skip y.val).sight x.val = s.sight x.val := by
  have hne : x.val ≠ y.val := fun h' => h (Fin.ext h')
  have hget : ∀ f : Field, RingAddr f.addr → f.addr / 0x80 = 0x6002 + x.val → (s.skip y).get f = s.get f := fun f hf ha =>
    s.get_skip_ne hf (by unfold RING_EVT; omega) (by unfold RING_ERR_CNT; omega)
  obtain ⟨hring, hclk, htime⟩ := s.skip_keeps y
  have hrs : (s.skip y).rs x = s.rs x := by unfold State.rs; rw [hring]
  unfold State.sight
  rw [hrs, hring, hclk, htime, s.get_skip_low y (by decide), hget (RING_STATUS_ENUM x) (ringAddr_status x) (by
    show (0x300100 + 0x80 * x.val) / 0x80 = _; omega), hget (RING_EVT_SKIPPED x) (ringAddr_evt x) (by
    show (0x300104 + 0x80 * x.val) / 0x80 = _; omega), hget (RING_ERR_CNT_SKIPPED x) (ringAddr_errCnt x) (by
    show (0x30010C + 0x80 * x.val) / 0x80 = _; omega)]

theorem State.sweepOne_sight (s : State) {x y : StrNo} (vstr : Nat) (h : x ≠ y) : (s.sweepOne y.val vstr).sight x.val = s.sight x.val := by
  rw [s.sweepOne_eq]
  exact sight_ite_of (sight_ite_of (s.skip_sight h) (s.launch_sight vstr h)) rfl

end Sys2Proof.Machine


namespace Sys2Proof.Machine

/-! ### SWEEP_START (R251, R257, R258, R264, R506) -/

/-- The module's heartbeat at a SWEEP_START; leases that outlived it are void. -/
def State.beat (s : State) : State :=
  let s := (s.setRs 0 { s.rs 0 with leases := s.liveLeases 0 }).setRs 1 { s.rs 1 with leases := s.liveLeases 1 }
  { s with ring := { s.ring with
    moved := !s.mhbFrozen, mhb := if s.mhbFrozen then s.ring.mhb else (s.ring.mhb + 1) % 256,
    movedAt := if s.mhbFrozen then s.ring.movedAt else some s.elapsed } }

/-- Both strings' sweeps start. -/
def State.start (s : State) (a b : Nat) : State := (s.beat.sweepOne 0 a).sweepOne 1 b

theorem exec_sweepStart (s : State) (a b : Nat) (hp : s.pins.powered = true) : exec (.sweepStart a b) s = .next (s.start a b) := by
  have hexec : exec (.sweepStart a b) s = execSweepStart a b s := rfl
  rw [hexec]
  unfold execSweepStart
  rw [State.on_powered _ hp]
  rfl

theorem State.beat_pace (s : State) (x : Nat) : (s.beat.rs x).pace = (s.rs x).pace := by
  have hleases : ((s.setRs 0 { s.rs 0 with leases := s.liveLeases 0 }).setRs 1 { s.rs 1 with leases := s.liveLeases 1 }).course = s.course := by
    refine (State.setRs_course _ ?_).trans s.setRs_course
    rw [s.rs_setRs_ne _ (by decide)]
    rfl
  exact pace_of_course hleases x

theorem State.beat_length (s : State) : s.beat.ring.strs.length = s.ring.strs.length :=
  (State.setRs_strs_length ..).trans (s.setRs_strs_length ..)

theorem State.beat_swept (s : State) (x : Nat) : s.beat.swept x = s.swept x := rfl

theorem State.beat_mhb (s : State) : s.beat.ring.mhb = if s.mhbFrozen then s.ring.mhb else (s.ring.mhb + 1) % 256 := rfl

theorem State.sweepOne_idle {s : State} {x : Nat} (vstr : Nat) (h : s.swept x = false) : s.sweepOne x vstr = s := by
  rw [s.sweepOne_eq, h]
  rfl

theorem swept_of_sight {s t : State} {x : Nat} (h : t.sight x = s.sight x) : t.swept x = s.swept x := by
  have henum : t.get (RING_STATUS_ENUM x) = s.get (RING_STATUS_ENUM x) := congrArg Sight.enum h
  have hclk : t.get ⟨CLK_GATE_EFF, 6, 1⟩ = s.get ⟨CLK_GATE_EFF, 6, 1⟩ := congrArg Sight.clocked h
  unfold State.swept State.ringClocked State.isSet
  rw [henum, hclk]

theorem relock_of_sight {s t : State} {x : Nat} (h : t.sight x = s.sight x) : t.relock = s.relock := by
  have hclk : t.clk = s.clk := congrArg Sight.clk h
  unfold State.relock
  rw [hclk]

theorem now_of_sight {s t : State} {x : Nat} (h : t.sight x = s.sight x) : t.now = s.now :=
  congrArg (fun v : Sight => v.time.toNat) h

/-- A string's sweep starts with what the heartbeat left, and the other string's start keeps it. -/
theorem State.start_sight (s : State) (a b : Nat) (x : StrNo) : ∃ u : State, u.sight x.val = s.beat.sight x.val ∧
    (s.ring.strs.length = 2 → u.ring.strs.length = 2) ∧
    (s.start a b).sight x.val = (u.sweepOne x.val (if x = 0 then a else b)).sight x.val := by
  have hlen : s.ring.strs.length = 2 → s.beat.ring.strs.length = 2 := fun h => s.beat_length.trans h
  match x with
  | 0 => exact ⟨s.beat, rfl, hlen, State.sweepOne_sight (y := 1) _ b (by decide)⟩
  | 1 =>
    exact ⟨s.beat.sweepOne 0 a, State.sweepOne_sight (y := 0) _ a (by decide),
      fun h => (State.sweepOne_kept (bm := false) (bt := false) 0 a (Kept.refl s.beat)).ring (hlen h), rfl⟩

theorem sweepStart_idle {s : State} (a b : Nat) (hp : s.pins.powered = true) (h0 : s.swept 0 = false) (h1 : s.swept 1 = false) :
    ∃ t, exec (.sweepStart a b) s = .next t ∧ t.ring.moved = !s.mhbFrozen ∧
      t.ring.mhb = (if s.mhbFrozen then s.ring.mhb else (s.ring.mhb + 1) % 256) ∧ t.regs = s.regs ∧ t.out = s.out := by
  refine ⟨s.beat, ?_, rfl, rfl, rfl, rfl⟩
  rw [exec_sweepStart s a b hp]
  unfold State.start
  rw [State.sweepOne_idle a (s.beat_swept 0 ▸ h0), State.sweepOne_idle b (s.beat_swept 1 ▸ h1)]

theorem sweepStart_starts {s : State} (a b : Nat) {x : StrNo} (hp : s.pins.powered = true) (hlen : s.ring.strs.length = 2)
    (h : s.swept x.val = true) (hr : (s.rs x.val).readHeld = false) (hl : s.relock = false) :
    ∃ t, exec (.sweepStart a b) s = .next t ∧ (t.rs x.val).t0 = s.now ∧ (t.rs x.val).vstr = (if x = 0 then a else b) ∧
      (t.rs x.val).cmdsDue = (!(s.rs x.val).split) ∧ t.ring.mhb = (if s.mhbFrozen then s.ring.mhb else (s.ring.mhb + 1) % 256) := by
  obtain ⟨u, hu, hulen, ht⟩ := s.start_sight a b x
  have hpace : (u.rs x).pace = (s.rs x).pace := (congrArg (fun v : Sight => v.rs.pace) hu).trans (s.beat_pace x)
  have hheld : (u.rs x).readHeld = false := (congrArg RStr.Pace.readHeld hpace).trans hr
  have hrelock : u.relock = false := (relock_of_sight hu).trans hl
  have hnow : u.now = s.now := (now_of_sight hu : u.now = s.beat.now)
  have hlaunch : u.sweepOne x (if x = 0 then a else b) = u.launch x (if x = 0 then a else b) := by
    rw [u.sweepOne_eq, (swept_of_sight hu).trans h, hheld, hrelock]
    rfl
  rw [hlaunch] at ht
  have hshown := (congrArg (fun v : Sight => v.rs.pace) ht).trans (u.launch_pace x (if x = 0 then a else b) (hulen hlen))
  refine ⟨_, exec_sweepStart s a b hp, (congrArg RStr.Pace.t0 hshown).trans hnow, congrArg RStr.Pace.vstr hshown,
    (congrArg RStr.Pace.cmdsDue hshown).trans (congrArg (fun q : RStr.Pace => !q.split) hpace), ?_⟩
  exact (congrArg Sight.mhb ht).trans ((congrArg Aloof.mhb (u.launch_aloof x _)).trans ((congrArg Sight.mhb hu).trans s.beat_mhb))

theorem sweepStart_skips {s : State} (a b : Nat) {x : StrNo} (hp : s.pins.powered = true) (h : s.swept x.val = true)
    (hr : (s.rs x.val).readHeld = true ∨ s.relock = true) :
    ∃ t, exec (.sweepStart a b) s = .next t ∧ (t.rs x.val).t0 = (s.rs x.val).t0 ∧ t.isSet (RING_EVT_SKIPPED x.val) = true ∧
      t.get (RING_ERR_CNT_SKIPPED x.val) =
        min (s.get (RING_ERR_CNT_SKIPPED x.val) + 1) (2 ^ (RING_ERR_CNT_SKIPPED x.val).w - 1) := by
  obtain ⟨u, hu, -, ht⟩ := s.start_sight a b x
  have hpace : (u.rs x).pace = (s.rs x).pace := (congrArg (fun v : Sight => v.rs.pace) hu).trans (s.beat_pace x)
  have hblocked : ((u.rs x).readHeld || u.relock) = true := by
    rw [relock_of_sight hu, show (u.rs x).readHeld = (s.rs x).readHeld from congrArg RStr.Pace.readHeld hpace]
    rw [Bool.or_eq_true]
    exact hr
  have hskip : u.sweepOne x (if x = 0 then a else b) = u.skip x := by
    rw [u.sweepOne_eq, (swept_of_sight hu).trans h, hblocked]
    rfl
  rw [hskip] at ht
  obtain ⟨hevt, hcnt⟩ := u.skip_shows x
  have hrs : (u.skip x).rs x = u.rs x := by unfold State.rs; rw [(u.skip_keeps x).1]
  have hcount : u.get (RING_ERR_CNT_SKIPPED x) = s.get (RING_ERR_CNT_SKIPPED x) := congrArg Sight.cnt hu
  refine ⟨_, exec_sweepStart s a b hp, ?_, (State.isSet_of_get (congrArg Sight.evt ht)).trans hevt, (congrArg Sight.cnt ht).trans ?_⟩
  · exact (congrArg (fun v : Sight => v.rs.t0) ht).trans ((congrArg RStr.t0 hrs).trans (congrArg RStr.Pace.t0 hpace))
  · exact hcnt.trans (by rw [hcount])

end Sys2Proof.Machine


namespace Sys2Proof.Machine

/-! ### A failed attempt at arming (R96) -/

theorem State.get_retryAfter (s : State) {f : Field} (h : BOOT_STATUS_RETRIES_LEFT.apart f) : s.retryAfter.get f = s.get f := by
  have hset : (s.set BOOT_STATUS_RETRIES_LEFT (s.profileAt 0x8006 4 1 3)).get f = s.get f := s.get_set_apart _ f _ h
  unfold State.retryAfter
  refine get_ite_of rfl ?_
  dsimp only
  split
  · rfl
  · exact hset

/-- The error as it stands before the shelf enters PASSIVE. -/
def State.armFailed (s : State) (code info : Nat) : State :=
  { (s.bootErr code info).openDue [0, 1] with
    boot := { ((s.bootErr code info).openDue [0, 1]).boot with armStep := 0, contRequested := false, rearm := false } }

theorem State.armFail_eq (s : State) (code info : Nat) : s.armFail code info =
    ((((s.armFailed code info).enter stPassive).set BRD_STATUS_RECOV 0).clearCauses).retryAfter := rfl

theorem State.get_armFailed (s : State) (code info : Nat) (f : Field) : (s.armFailed code info).get f = (s.bootErr code info).get f :=
  have hdue : ((s.bootErr code info).openDue [0, 1]).get f = (s.bootErr code info).get f := get_ite_of rfl rfl
  hdue

theorem State.armFail_shows (s : State) (code info : Nat) : (s.armFail code info).shelf = stPassive ∧
    (s.armFail code info).get BOOT_STATUS_ERR_CODE = code % 256 ∧ (s.armFail code info).rdN BOOT_ERR_INFO = info % 2 ^ 32 := by
  have hkeep : ∀ {g : Field}, g.Aside → BOOT_STATUS_RETRIES_LEFT.apart g → BRD_STATUS_RECOV.apart g →
      (s.armFail code info).get g = (s.bootErr code info).get g := fun {g} hg hretry hrecov => by
    rw [s.armFail_eq, State.get_retryAfter _ hretry, get_of_beside (State.clearCauses_beside hg _), State.get_set_apart _ _ g _ hrecov,
      get_of_beside (State.enter_beside hg _ _), State.get_armFailed]
  refine ⟨?_, (hkeep aside_errCode (apart_of (by decide)) (apart_of (by decide))).trans (s.get_bootErr_code code info), ?_⟩
  · have hcauses : ∀ t : State, t.clearCauses.shelf = t.shelf := fun t =>
      get_of_shelfWord (shelfWord_of_panel t.clearCauses_panel) rfl
    rw [s.armFail_eq]
    exact (State.get_retryAfter _ (apart_of (by decide))).trans ((hcauses _).trans ((State.get_set_apart _ _ _ _ (apart_of (by decide))).trans
      (State.shelf_enter _ (by decide))))
  · rw [State.rdN_eq_get, hkeep aside_errInfo (apart_of (by decide)) (apart_of (by decide)), ← State.rdN_eq_get]
    exact State.rdN_wrN_same _ _ _

/-! ### Enumeration fails (R91, R255) -/

/-- A failed enumeration as the ring shows it. -/
def State.enumFailed (s : State) (x cause : Nat) : State :=
  ((s.set (RING_STATUS_ENUM x) 6).set (RING_STATUS_FAIL_CAUSE x) cause).ringEvt x RING_EVT_ENUM_FAIL false

theorem State.enumFail_eq (s : State) (x cause : Nat) : s.enumFail x cause =
    if (s.enumFailed x cause).shelf = stArming ∧ (s.enumFailed x cause).boot.armStep = 3 then
      (s.enumFailed x cause).armFail 0x22 (x + 1) else s.enumFailed x cause := rfl

theorem State.enumFailed_shows (s : State) (x : StrNo) {cause : Nat} (hc : cause < 16) :
    (s.enumFailed x.val cause).get (RING_STATUS_ENUM x.val) = 6 ∧ (s.enumFailed x.val cause).get (RING_STATUS_FAIL_CAUSE x.val) = cause ∧
    (s.enumFailed x.val cause).isSet (RING_EVT_ENUM_FAIL x.val) = true := by
  have hevt : RING_EVT x.val ≠ RING_STATUS x.val := by unfold RING_EVT RING_STATUS; omega
  have hkeep : ∀ (t : State) (g : Field), g.addr = RING_STATUS x → (t.ringEvt x RING_EVT_ENUM_FAIL false).get g = t.get g := fun t g hg =>
    t.get_ringEvt_ne x false (hg ▸ ringAddr_status x) (hg ▸ hevt)
  refine ⟨(hkeep _ _ rfl).trans ((State.get_set_apart _ _ _ _ (.inr (.inl (show 24 + 4 ≤ 28 by decide)))).trans
    (s.get_set_same _ 6 (show 28 + 4 ≤ 32 by decide))), (hkeep _ _ rfl).trans ((State.get_set_same _ _ cause (show 24 + 4 ≤ 32 by decide)).trans
    (Nat.mod_eq_of_lt hc)), State.isSet_ringEvt _ x false rfl ⟨show 15 + 1 ≤ 32 by decide, rfl⟩⟩

theorem State.enumFailed_keeps (s : State) (x : StrNo) (cause : Nat) : (s.enumFailed x.val cause).shelf = s.shelf ∧
    (s.enumFailed x.val cause).boot = s.boot := by
  have hlow : ∀ (t : State) (f : Field) (v : Nat), f.addr = RING_STATUS x → (t.set f v).shelf = t.shelf := fun t f v hf =>
    t.get_set_apart _ _ v (.inl (by rw [hf]; show RING_STATUS x.val ≠ SYS_SHELF_STATE; unfold RING_STATUS SYS_SHELF_STATE; omega))
  have hboot := State.ringEvt_apart (p := {}) ((s.set (RING_STATUS_ENUM x) 6).set (RING_STATUS_FAIL_CAUSE x) cause) x.val RING_EVT_ENUM_FAIL false
  refine ⟨(State.get_ringEvt_low _ x rfl (by decide)).trans ((hlow _ _ _ rfl).trans (hlow _ _ _ rfl)), ?_⟩
  exact (congrArg State.boot hboot : ((s.enumFailed x.val cause).apart {}).boot = (s.apart {}).boot)

/-- What a failed enumeration shows; in arming's third step the attempt ends with it. -/
theorem State.enumFail_shows (s : State) (x : StrNo) {cause : Nat} (hc : cause < 16) :
    (s.enumFail x.val cause).get (RING_STATUS_ENUM x.val) = 6 ∧ (s.enumFail x.val cause).get (RING_STATUS_FAIL_CAUSE x.val) = cause ∧
    (s.enumFail x.val cause).isSet (RING_EVT_ENUM_FAIL x.val) = true ∧
    (s.shelf = stArming → s.boot.armStep = 3 → (s.enumFail x.val cause).shelf = stPassive ∧
      (s.enumFail x.val cause).get BOOT_STATUS_ERR_CODE = 0x22 ∧ (s.enumFail x.val cause).rdN BOOT_ERR_INFO = x.val + 1) := by
  obtain ⟨henum, hcause, hevt⟩ := s.enumFailed_shows x hc
  obtain ⟨hshelf, hboot⟩ := s.enumFailed_keeps x cause
  have hside := (s.enumFailed x cause).armFail_side 0x22 (x + 1)
  have hkeep : ∀ g : Field, RingAddr g.addr → (s.enumFail x cause).get g = (s.enumFailed x cause).get g := fun g hg => by
    rw [s.enumFail_eq]
    exact get_ite_of (get_of_side hside hg) rfl
  refine ⟨(hkeep _ (ringAddr_status x)).trans henum, (hkeep _ (ringAddr_status x)).trans hcause,
    (State.isSet_of_get (hkeep _ (ringAddr_evt x))).trans hevt, fun hs hstep => ?_⟩
  rw [s.enumFail_eq, if_pos ⟨hshelf.trans hs, by rw [hboot, hstep]⟩]
  obtain ⟨hpassive, hcode, hinfo⟩ := (s.enumFailed x cause).armFail_shows 0x22 (x + 1)
  exact ⟨hpassive, hcode, hinfo.trans (by omega)⟩

/-! ### ENUM (R254) -/

theorem State.sendRing_get (s : State) (x e kind dest : Nat) (payload : List Byte) (f : Field) :
    (s.sendRing x e kind dest payload).get f = s.get f := rfl

theorem State.enumStart_enum (s : State) (x : StrNo) : (s.enumStart x.val).get (RING_STATUS_ENUM x.val) = 2 := by
  have hset : ∀ t : State, (t.set (RING_STATUS_ENUM x) 2).get (RING_STATUS_ENUM x) = 2 := fun t =>
    t.get_set_same _ 2 (show 28 + 4 ≤ 32 by decide)
  have hmons : ∀ t : State, (forN 4 (fun m u => u.wr (RING_MON_STATUS x m) 0) t).get (RING_STATUS_ENUM x) = t.get (RING_STATUS_ENUM x) := fun t =>
    forN_keeps (fun u => u.get (RING_STATUS_ENUM x)) t fun m u => u.get_wr_ne _ (by
      show RING_STATUS x ≠ RING_MON_STATUS x m
      unfold RING_STATUS RING_MON_STATUS
      omega)
  have hqueued : ∀ t : State, t.showQueued.get (RING_STATUS_ENUM x) = t.get (RING_STATUS_ENUM x) := fun t =>
    t.get_set_apart _ _ _ (.inl (by show RING_BAL_STATUS ≠ RING_STATUS x; unfold RING_BAL_STATUS RING_STATUS; omega))
  unfold State.enumStart
  dsimp only
  rw [hqueued, State.sendRing_get, State.sendRing_get, State.sendRing_get, hmons, hset]

theorem exec_enum (s : State) (x : StrNo) (hp : s.pins.powered = true) : exec (.enum x) s = .next (s.enumRequest x.val) := by
  have hexec : exec (.enum x) s = execEnum x s := rfl
  rw [hexec]
  exact State.on_powered _ hp

/-- The request's bit is taken. -/
def State.enumAsked (s : State) (x : Nat) : State := s.clear (if x = 0 then RING_CTRL_ENUM_A else RING_CTRL_ENUM_B)

theorem State.get_enumAsked (s : State) (x : Nat) {f : Field} (h : RING_CTRL ≠ f.addr) : (s.enumAsked x).get f = s.get f := by
  refine s.get_set_apart _ f 0 (.inl ?_)
  split <;> exact h

theorem State.enumRequest_eq (s : State) (x : Nat) : s.enumRequest x =
    if s.shelf = stPassive ∨ s.shelf = stIsolated then (s.enumAsked x).enumStart x else (s.enumAsked x).ringEvt x RING_EVT_REFUSED false := by
  have hshelf : (s.enumAsked x).shelf = s.shelf := s.get_enumAsked x (by decide)
  rw [← hshelf]
  rfl

theorem enum_starts {s : State} {x : StrNo} (hp : s.pins.powered = true) (h : s.shelf = stPassive ∨ s.shelf = stIsolated) :
    ∃ t, exec (.enum x) s = .next t ∧ t.get (RING_STATUS_ENUM x.val) = 2 := by
  refine ⟨_, exec_enum s x hp, ?_⟩
  rw [s.enumRequest_eq, if_pos h]
  exact State.enumStart_enum _ x

theorem enum_refused {s : State} {x : StrNo} (hp : s.pins.powered = true) (h1 : s.shelf ≠ stPassive) (h2 : s.shelf ≠ stIsolated) :
    ∃ t, exec (.enum x) s = .next t ∧ t.get (RING_STATUS_ENUM x.val) = s.get (RING_STATUS_ENUM x.val) ∧
      t.isSet (RING_EVT_REFUSED x.val) = true := by
  have hevt : RING_EVT x.val ≠ RING_STATUS x.val := by unfold RING_EVT RING_STATUS; omega
  refine ⟨_, exec_enum s x hp, ?_⟩
  rw [s.enumRequest_eq, if_neg (not_or.2 ⟨h1, h2⟩)]
  refine ⟨(State.get_ringEvt_ne _ _ _ (ringAddr_status x) hevt).trans (s.get_enumAsked x ?_),
    State.isSet_ringEvt _ x false rfl ⟨show 19 + 1 ≤ 32 by decide, rfl⟩⟩
  show RING_CTRL ≠ RING_STATUS x.val
  unfold RING_CTRL RING_STATUS
  omega

/-! ### ENUM_ASSIGN_RETURN, ENUM_VERIFY_RETURN and ENUM_FRAME_TIMEOUT (R254, R255) -/

/-- The assignment's records are kept, and the verification leaves. -/
def State.enumAssigned (s : State) (x : Nat) (l : List EnumRec) : State :=
  ((s.setRs x { s.rs x with assign := l }).set (RING_STATUS_ENUM x) 3).sendRing x 1 0x22 0xFF (zeros 68)

theorem exec_enumAssignReturn (s : State) (x : StrNo) (k : Fin 256) (l : List EnumRec) (hp : s.pins.powered = true) :
    exec (.enumAssignReturn x k l) s = if s.get (RING_STATUS_ENUM x.val) ≠ 2 then .next s
      else if k.val ≠ 4 then .next (s.enumFail x.val 1) else .next (s.enumAssigned x.val l) := by
  have hexec : exec (.enumAssignReturn x k l) s = execEnumAssignReturn x k l s := rfl
  rw [hexec]
  unfold execEnumAssignReturn
  rw [State.on_powered _ hp]
  rfl

theorem State.enumAssigned_shows (s : State) (x : StrNo) (l : List EnumRec) : (s.enumAssigned x.val l).get (RING_STATUS_ENUM x.val) = 3 ∧
    (s.ring.strs.length = 2 → ((s.enumAssigned x.val l).rs x.val).assign = l) :=
  ⟨(State.sendRing_get ..).trans (State.get_set_same _ _ 3 (show 28 + 4 ≤ 32 by decide)),
    fun hlen => congrArg RStr.assign (s.rs_setRs_str x { s.rs x.val with assign := l } hlen)⟩

theorem exec_enumVerifyReturn (s : State) (x : StrNo) (l : List EnumRec) (hp : s.pins.powered = true) :
    exec (.enumVerifyReturn x l) s = if s.get (RING_STATUS_ENUM x.val) ≠ 3 then .next s
      else if verifyCause (s.rs x.val).assign l ≠ 0 then .next (s.enumFail x.val (verifyCause (s.rs x.val).assign l))
      else .next (s.enumVerified x.val l) := by
  have hexec : exec (.enumVerifyReturn x l) s = execEnumVerifyReturn x l s := rfl
  rw [hexec]
  unfold execEnumVerifyReturn
  rw [State.on_powered _ hp]

theorem exec_enumFrameTimeout (s : State) (x : StrNo) (hp : s.pins.powered = true) : exec (.enumFrameTimeout x) s =
    if s.get (RING_STATUS_ENUM x.val) = 2 ∨ s.get (RING_STATUS_ENUM x.val) = 3 then .next (s.enumFail x.val 4) else .next s := by
  have hexec : exec (.enumFrameTimeout x) s = execEnumFrameTimeout x s := rfl
  rw [hexec]
  unfold execEnumFrameTimeout
  rw [State.on_powered _ hp]

theorem verifyCause_lt (a l : List EnumRec) : verifyCause a l < 16 := by
  unfold verifyCause
  repeat' split
  all_goals decide

/-! #### The restore of the shelf's records (R475) -/

theorem forN_rd {n a : Nat} {f : Nat → State → State} (s : State) (hf : ∀ i < n, ∀ t, (f i t).rd a = t.rd a) : (forN n f s).rd a = s.rd a := by
  have hl : ∀ (l : List Nat) (t : State), (∀ i ∈ l, i < n) → (l.foldl (fun u i => f i u) t).rd a = t.rd a := by
    intro l
    induction l with
    | nil => exact fun _ _ => rfl
    | cons i l ih =>
      exact fun t hi => (ih _ fun j hj => hi j (List.mem_cons_of_mem i hj)).trans (hf i (hi i List.mem_cons_self) t)
  exact hl _ s fun i hi => List.mem_range.1 hi

theorem State.shelfRestore_rd (s : State) {a : Nat} (ha : 0x300100 ≤ a ∧ a < 0x300200) : s.shelfRestore.rd a = s.rd a := by
  have hwear : ∀ (t : State) (l : List Byte), (t.wearShelf l).rd a = t.rd a := by
    intro t l
    have hroles : ∀ (u : State) (v : State → Nat → Nat), (forN 104 (fun n w => w.set (HRN_CH_CTRL_ROLE n) (v w n)) u).rd a = u.rd a := fun u v =>
      forN_rd u fun n hn w => w.rd_set_ne _ _ (show a ≠ 0x100000 + 0x100 * n by omega)
    have hcells : ∀ (u : State) (c : State → Nat → Prop) [∀ w i, Decidable (c w i)],
        (forN 104 (fun i w => if c w i then w.setRole (i / 52) (i % 52) 2 else w) u).rd a = u.rd a := fun u c _ =>
      forN_rd u fun i _ w => by split <;> rfl
    have hclear : ∀ u : State, (u.clear RMT_STATUS_SHELF_FOREIGN).rd a = u.rd a := fun u => u.rd_set_ne _ _ (show a ≠ 0x5C0004 by omega)
    exact (hcells _ _).trans ((hclear _).trans ((hroles _ _).trans rfl))
  unfold State.shelfRestore
  split
  · rfl
  · dsimp only
    split
    · split
      · exact hwear _ _
      · rfl
    · rfl

/-! #### Verified records -/

/-- A step of a loop that makes a property, which the other steps keep, makes it for the loop. -/
theorem forN_reaches {P : State → Prop} {n i : Nat} {f : Nat → State → State} (hi : i < n) (hmake : ∀ t, P (f i t))
    (hkeep : ∀ j t, P t → P (f j t)) (s : State) : P (forN n f s) := by
  obtain ⟨l, r, hl⟩ := List.append_of_mem (List.mem_range.2 hi)
  have hsplit : forN n f s = forL r f (f i (forL l f s)) := by
    unfold forN forL
    rw [hl, List.foldl_append, List.foldl_cons]
  rw [hsplit]
  exact forL_invariant hkeep (hmake _)

/-- A monitor's identity is shown, and it is present. -/
def State.monFound (s : State) (x m u : Nat) : State :=
  ((s.wrN (RING_MON_UID_LO x m) u).wrN (RING_MON_UID_HI x m) (u / 2 ^ 32)).set (RING_MON_STATUS_MSTATE x m) 1

theorem State.monSt_monFound (s : State) (x m u : Nat) : (s.monFound x m u).monSt x m = 1 :=
  State.get_set_same _ _ 1 (show 24 + 4 ≤ 32 by decide)

/-- Where the monitors' status lies, no identity is written. -/
theorem State.rd_monFound_ne (s : State) {x m u a : Nat} (hlo : a ≠ RING_MON_UID_LO x m) (hhi : a ≠ RING_MON_UID_HI x m)
    (hst : a ≠ RING_MON_STATUS x m) : (s.monFound x m u).rd a = s.rd a :=
  (State.rd_set_ne _ _ _ hst).trans ((State.rd_wr_ne _ _ hhi).trans (s.rd_wr_ne _ hlo))

theorem State.monSt_monFound_of (s : State) {x m k u : Nat} (hm : m < 4) (h : s.monSt x m = 1) : (s.monFound x k u).monSt x m = 1 := by
  by_cases hk : k = m
  · rw [hk]
    exact s.monSt_monFound x m u
  · refine Eq.trans ?_ h
    unfold State.monSt State.get
    rw [s.rd_monFound_ne]
    · show RING_MON_STATUS x m ≠ _
      unfold RING_MON_STATUS RING_MON_UID_LO
      omega
    · show RING_MON_STATUS x m ≠ _
      unfold RING_MON_STATUS RING_MON_UID_HI
      omega
    · show RING_MON_STATUS x m ≠ _
      unfold RING_MON_STATUS
      omega

/-- The start-up average begins. -/
def State.averaging (s : State) (x : Nat) : State :=
  ((s.setRs x { s.rs x with firstSweep := true, avgN := List.replicate 4 0, avgSum := List.replicate 52 0 }).set (RING_STATUS_ENUM x) 4).wr
    (RING_SEQ x) 0

theorem State.averaging_shows (s : State) (x : StrNo) : (s.averaging x.val).get (RING_STATUS_ENUM x.val) = 4 ∧
    (s.averaging x.val).rd (RING_SEQ x.val) = 0 ∧ ∀ m : Fin 4, (s.averaging x.val).monSt x.val m.val = s.monSt x.val m.val := by
  have hstatus : RING_STATUS x.val ≠ RING_SEQ x.val := by unfold RING_STATUS RING_SEQ; omega
  have hmon : ∀ m : Fin 4, RING_MON_STATUS x.val m.val ≠ RING_SEQ x.val ∧ RING_STATUS x.val ≠ RING_MON_STATUS x.val m.val := fun m => by
    unfold RING_MON_STATUS RING_SEQ RING_STATUS
    omega
  unfold State.averaging State.monSt
  exact ⟨(State.get_wr_ne _ _ hstatus).trans (State.get_set_same _ _ 4 (show 28 + 4 ≤ 32 by decide)), State.rd_wr_same _ _ _,
    fun m => (State.get_wr_ne _ _ (hmon m).1).trans (State.get_set_apart _ _ _ _ (.inl (hmon m).2))⟩

/-- The monitors are found. -/
def State.monsFound (s : State) (x : Nat) (u : Nat → Nat) : State := forN 4 (fun m t => t.monFound x m (u m)) s

theorem State.monSt_monsFound (s : State) (x : Nat) (u : Nat → Nat) (m : Fin 4) : (s.monsFound x u).monSt x m.val = 1 :=
  forN_reaches (P := fun t => t.monSt x m.val = 1) (f := fun k t => t.monFound x k (u k)) m.isLt (fun t => t.monSt_monFound x m (u m))
    (fun _ t => t.monSt_monFound_of m.isLt) s

/-- The identities that verified records name. -/
def uidOf (l : List EnumRec) (m : Nat) : Nat := ((l.reverse.map (fun (r : EnumRec) => r.uid)).getD m 0).toNat

/-- What verified records show; the shelf's records come back beside it. -/
theorem State.enumVerified_shows (s : State) (x : StrNo) (l : List EnumRec) :
    (s.enumVerified x.val l).get (RING_STATUS_ENUM x.val) = 4 ∧ (s.enumVerified x.val l).rd (RING_SEQ x.val) = 0 ∧
    ∀ m : Fin 4, (s.enumVerified x.val l).monSt x.val m.val = 1 := by
  have hkeep : ∀ a : Nat, 0x300100 ≤ a ∧ a < 0x300200 → (s.enumVerified x l).rd a = ((s.monsFound x (uidOf l)).averaging x).rd a := by
    intro a ha
    unfold State.enumVerified
    dsimp only
    split
    · exact State.shelfRestore_rd _ ha
    · rfl
  obtain ⟨henum, hseq, hmon⟩ := (s.monsFound x (uidOf l)).averaging_shows x
  have hget : ∀ f : Field, 0x300100 ≤ f.addr ∧ f.addr < 0x300200 → (s.enumVerified x l).get f = ((s.monsFound x (uidOf l)).averaging x).get f := fun f hf =>
    congrArg (fun w => fieldGet w f.lo f.w) (hkeep f.addr hf)
  refine ⟨(hget _ ?_).trans henum, (hkeep _ ?_).trans hseq, fun m => (hget _ ?_).trans ((hmon m).trans (s.monSt_monsFound x _ m))⟩
  · show 0x300100 ≤ RING_STATUS x ∧ RING_STATUS x < 0x300200
    unfold RING_STATUS
    omega
  · unfold RING_SEQ
    omega
  · show 0x300100 ≤ RING_MON_STATUS x m ∧ RING_MON_STATUS x m < 0x300200
    unfold RING_MON_STATUS
    omega

end Sys2Proof.Machine


namespace Sys2Proof.Machine

/-! ### The commands of a ring: what each shows -/

/-- What a failed enumeration shows, with the attempt at arming that it may end. -/
theorem enumFail_next {s : State} {i : Instr} {x : StrNo} {cause : Nat} (hi : exec i s = .next (s.enumFail x.val cause)) (hc : cause < 16) :
    ∃ t, exec i s = .next t ∧ t.get (RING_STATUS_ENUM x.val) = 6 ∧ t.get (RING_STATUS_FAIL_CAUSE x.val) = cause ∧
      t.isSet (RING_EVT_ENUM_FAIL x.val) = true ∧ (s.shelf = stArming → s.boot.armStep = 3 → t.shelf = stPassive ∧
        t.get BOOT_STATUS_ERR_CODE = 0x22 ∧ t.rdN BOOT_ERR_INFO = x.val + 1) :=
  ⟨_, hi, s.enumFail_shows x hc⟩

theorem exec_ringHbKick (s : State) (hp : s.pins.powered = true) :
    exec .ringHbKick s = .next { s with ring := { s.ring with kick := some s.elapsed } } := by
  have hexec : exec .ringHbKick s = execRingHbKick s := rfl
  rw [hexec]
  exact State.on_powered _ hp

/-- Settles O40: a taken sweep moves its registers and no other part of it does, a break splits the ring, and enumeration ends in the
state that its records show. -/
theorem ringSweepCommands : Obligations.RingSweepCommands := by
  intro s hp
  refine ⟨fun a b => sweepStart_idle a b hp, fun a b x hlen h hr hl => sweepStart_starts a b hp hlen h hr hl,
    fun a b x _ h hr => sweepStart_skips a b hp h hr, fun x i h => ⟨sweepComplete_unswept s x i hp h, ?_⟩, fun x i h => ?_,
    fun x i h hs hb => sweepComplete_whole hp h hs hb, fun x i hlen h hs hb => sweepComplete_broken hp hlen h hs hb,
    fun x i hlen h hs => sweepComplete_split hp hlen h hs, fun x i hlen h hs => breakDetect_shows hp hlen h hs,
    fun x i hlen h => readHeldComplete_shows hp hlen h, fun x i h => ?_, exec_ringHbKick s hp, fun x h => enum_starts hp h,
    fun x h1 h2 => enum_refused hp h1 h2, fun x l h => ⟨s.enumAssigned x.val l, ?_, s.enumAssigned_shows x l⟩,
    fun x k l h hk => enumFail_next ?_ (by decide), fun x k l h => ?_, fun x l h hv => ⟨s.enumVerified x.val l, ?_, s.enumVerified_shows x l⟩,
    fun x l h hv => enumFail_next ?_ (verifyCause_lt _ _), fun x l h => ?_, fun x h => enumFail_next ?_ (by decide), fun x h2 h3 => ?_⟩
  · rw [exec_breakDetect s x i hp, h]
    rfl
  · rw [exec_breakDetect s x i hp, h, Bool.or_true, if_pos rfl]
  · rw [exec_readHeldComplete s x i hp, h]
    rfl
  · rw [exec_enumAssignReturn s x 4 l hp, h]
    rfl
  · rw [exec_enumAssignReturn s x k l hp, if_neg (not_not.2 h), if_pos hk]
  · rw [exec_enumAssignReturn s x k l hp, if_pos h]
  · rw [exec_enumVerifyReturn s x l hp, if_neg (not_not.2 h), if_neg (not_not.2 hv)]
  · rw [exec_enumVerifyReturn s x l hp, if_neg (not_not.2 h), if_pos hv]
  · rw [exec_enumVerifyReturn s x l hp, if_pos h]
  · rw [exec_enumFrameTimeout s x hp, if_pos h]
  · rw [exec_enumFrameTimeout s x hp, if_neg (not_or.2 ⟨h2, h3⟩)]

end Sys2Proof.Machine


namespace Sys2Proof.Machine

/-! ### A record judges WAKE_N anew (R38) -/

theorem forN_pins {n : Nat} {f : Nat → State → State} (s : State) (hf : ∀ i t, (f i t).pins = t.pins) : (forN n f s).pins = s.pins := by
  unfold forN
  induction List.range n generalizing s with
  | nil => rfl
  | cons i l ih => exact (ih _).trans (hf i s)

theorem pins_ite_of {c : Prop} [Decidable c] {s t : State} {p : Pins} (hs : s.pins = p) (ht : t.pins = p) :
    (if c then s else t).pins = p := by
  split <;> assumption

theorem State.openIncident_pins (s : State) : s.openIncident.pins = s.pins := by
  have hcb : ∀ t : State, t.writeCb.pins = t.pins := fun t => pins_ite_of rfl (pins_ite_of rfl rfl)
  unfold State.openIncident
  refine pins_ite_of rfl ?_
  dsimp only
  split
  · exact (hcb _).trans (State.raiseBit_pins _ _ _)
  · exact hcb _

theorem State.fireList_pins (s : State) (l : Nat) : (s.fireList l).pins = s.pins :=
  pins_ite_of rfl (pins_ite_of s.openIncident_pins rfl)

theorem State.fireOnFault_pins (s : State) (code cls : Nat) : (s.fireOnFault code cls).pins = s.pins :=
  forN_pins s fun l t => pins_ite_of (t.fireList_pins l) (pins_ite_of (t.fireList_pins l) rfl)

/-- With the function in D0 and the link out of L1 no record leaves WAKE_N asserted. -/
theorem State.record_wakeN (s : State) (kind prio domain code key cls : Nat) (opens : Bool) (body : List Byte)
    (hlink : (s.record kind prio domain code key cls opens body).pcie.link.low = false)
    (hd : (s.record kind prio domain code key cls opens body).pcie.dstate = 0) :
    (s.record kind prio domain code key cls opens body).pins.wakeN = false := by
  have hshow : ∀ t : State, t.showWakeN.pcie.link.low = false → t.showWakeN.pcie.dstate = 0 → t.showWakeN.pins.wakeN = false := by
    intro t hl h0
    show (t.p0Waiting && (t.showWakeN.pcie.link.low || t.showWakeN.pcie.dstate != 0)) = false
    rw [hl, h0]
    exact Bool.and_false _
  exact hshow _ hlink hd

/-- A logged code leaves the function as it was, and with it in D0 and the link out of L1 WAKE_N is not asserted. -/
theorem State.logCode_wakeN (s : State) (code idx cls : Nat) (m t : Int) (hlink : s.pcie.link.low = false) (hd : s.pcie.dstate = 0) :
    (s.logCode code idx cls m t).pins.wakeN = false := by
  have hall := congrArg Beside.pcie (State.logCode_beside aside_hostLost s code idx cls m t)
  have halarm : ∀ (c : Prop) [Decidable c] (u : State) (d : List Byte),
      (if c then u.alarm code cls d else u).pins = u.pins ∧ (if c then u.alarm code cls d else u).beside BRD_STATUS_HOST_LOST = u.beside _ :=
    fun c _ u d => ⟨pins_ite_of (pins_ite_of rfl rfl) rfl, beside_ite_of (State.alarm_beside aside_hostLost _ _ _ _) rfl⟩
  have hfire : ∀ u : State, (u.fireOnFault code cls).beside BRD_STATUS_HOST_LOST = u.beside _ := fun u =>
    u.fireOnFault_beside aside_hostLost code cls
  unfold State.logCode at hall ⊢
  dsimp only at hall ⊢
  rw [State.fireOnFault_pins, (halarm _ _ _).1]
  have hfunction := function_kept ((congrArg Beside.pcie ((hfire _).trans (halarm _ _ _).2)).symm.trans hall)
  exact State.record_wakeN _ _ _ _ _ _ _ _ _ (by rw [hfunction.1, hlink]) (by rw [hfunction.2.1, hd])

/-- A code of class F0 that does not derate the shelf moves no pin but those that its bookkeeping moves. -/
theorem State.raise_pins {s : State} {code idx : Nat} (m t : Int) (hcls : s.classOf code idx = 0) (hder : isDerating code = false)
    (hact : (code, idx) ∉ s.brd.active) : (s.raise code idx m t).pins = (s.logCode code idx 0 m t).pins := by
  unfold State.raise State.takeF0
  rw [if_neg hact]
  dsimp only
  rw [hcls, hder, if_neg (by decide), if_neg (by decide), if_pos rfl, if_neg Bool.false_ne_true]
  generalize s.logCode code idx 0 m t = u
  exact pins_ite_of rfl rfl

/-- Power is on, SIRC and FIRC are ready, and WAKE_N stands asserted though no record waits and the link is down. -/
def staleWakeN : State :=
  { State.reset with
    regs := [(CLK_READY, 5)]
    pins := { State.reset.pins with wakeN := true } }

/-- That state once FIRC's loss has shown in CLK_READY and CLK_STATUS. -/
def staleWakeNLoss : State := (staleWakeN.unready [2]).raiseBit (lossBit 2) 228

/-- Refutes O32: the record of a loss of FIRC releases a WAKE_N that stands without cause, so the loss does not leave the pins. -/
theorem not_clockCommands : ¬ Obligations.ClockCommands := by
  intro h
  have hnew : (staleWakeNLoss.raise 0x0602 2 0 0).pins.wakeN = false := by
    rw [State.raise_pins 0 0 rfl rfl (by decide)]
    exact staleWakeNLoss.logCode_wakeN 0x0602 2 0 0 0 (by decide) (by decide)
  obtain ⟨-, -, -, -, -, -, -, -, -, -, -, -, -, -, -, -, -, -, -, -, -, -, -, -, hloss, -⟩ := h staleWakeN rfl
  obtain ⟨t, hexec, -, -, -, -, hpins, -⟩ := hloss 2 (.inl rfl) (by decide)
  have hstep : exec (.clockLossNonforcing 2) staleWakeN = .next (staleWakeNLoss.raise 0x0602 2 0 0) := by
    have hexec : exec (.clockLossNonforcing 2) staleWakeN = execClockLossNonforcing 2 staleWakeN := rfl
    rw [hexec, execClockLossNonforcing, State.on_powered _ rfl, if_pos (by decide), if_neg (by decide), if_neg (by decide)]
    rfl
  rw [hstep] at hexec
  injection hexec with ht
  rw [← ht] at hpins
  have hstale : (staleWakeNLoss.raise 0x0602 2 0 0).pins.wakeN = true := congrArg Pins.wakeN hpins
  exact Bool.false_ne_true (hnew.symm.trans hstale)

end Sys2Proof.Machine


namespace Sys2Proof.Machine

/-! ### What the gates of the domains leave (R118 to R120) -/

/-- The bits of CLK_READY and PWR_STATUS that follow the gates of the domains. -/
def gateFields : List Field := [CLK_READY_PLL_MEM, CLK_READY_PLL_CORE, PWR_STATUS_LKS_BUSY, PWR_STATUS_FCST_AWAKE]

/-- A field that the gates of the domains leave: below Larkspur's registers, and none of the bits that show the gates. -/
abbrev Field.Ungated (g : Field) : Prop :=
  g.addr < 0x1000000 ∧ g.addr ≠ CLK_GATE_EFF ∧ ∀ f ∈ gateFields, f.addr ≠ g.addr ∨ f.lo + f.w ≤ g.lo ∨ g.lo + g.w ≤ f.lo

/-- What is read of the state beside its gates: a field, and the mode that a transition leads to. -/
structure Ungated where
  field : Nat
  pending : Option Nat

def State.ungated (g : Field) (s : State) : Ungated := ⟨s.get g, s.clk.modePending⟩

section
variable {g : Field}

theorem get_of_ungated {s t : State} (h : t.ungated g = s.ungated g) : t.get g = s.get g := congrArg Ungated.field h

theorem pending_of_ungated {s t : State} (h : t.ungated g = s.ungated g) : t.clk.modePending = s.clk.modePending := congrArg Ungated.pending h

theorem ungated_ite_of {c : Prop} [Decidable c] {s t u : State} (hs : s.ungated g = u.ungated g) (ht : t.ungated g = u.ungated g) :
    (if c then s else t).ungated g = u.ungated g := by
  split <;> assumption

theorem forL_ungated {α : Type} {l : List α} {f : α → State → State} (s : State) (hf : ∀ x t, (f x t).ungated g = t.ungated g) :
    (forL l f s).ungated g = s.ungated g := by
  unfold forL
  induction l generalizing s with
  | nil => rfl
  | cons x l ih => exact (ih _).trans (hf x s)

theorem State.set_ungated (s : State) {f : Field} (v : Nat) (h : f.apart g) : (s.set f v).ungated g = s.ungated g := by
  unfold State.ungated
  rw [s.get_set_apart f g v h, State.set_clk]

variable (hg : g.Ungated)
include hg

theorem State.setLks_ungated (s : State) {f : Field} (v : Nat) (hf : 0x1000000 ≤ f.addr) : (s.set f v).ungated g = s.ungated g :=
  s.set_ungated v (.inl (by
    obtain ⟨hfar, -, -⟩ := hg
    omega))

theorem State.setShown_ungated (s : State) {f : Field} (v : Nat) (hf : f ∈ gateFields) : (s.set f v).ungated g = s.ungated g :=
  s.set_ungated v (hg.2.2 f hf)

theorem State.setEff_ungated (s : State) (b v : Nat) : (s.set ⟨CLK_GATE_EFF, b, 1⟩ v).ungated g = s.ungated g :=
  s.set_ungated v (.inl (Ne.symm hg.2.1))

theorem State.coreTo_ungated (s : State) (d c st : Nat) : (s.coreTo d c st).ungated g = s.ungated g := by
  have hdie : ∀ (t : State) (lo w v : Nat), (t.set ⟨LKS_DIE_STATUS d, lo, w⟩ v).ungated g = t.ungated g := fun t lo w v =>
    t.setLks_ungated hg v (by show 0x1000000 ≤ 0x1000000 + 0x800000 * d; omega)
  have hcore : ∀ (t : State) (lo w v : Nat), (t.set ⟨LKS_CORE d c, lo, w⟩ v).ungated g = t.ungated g := fun t lo w v =>
    t.setLks_ungated hg v (by show 0x1000000 ≤ LKS_CORE d c; unfold LKS_CORE; omega)
  have hshow : ∀ t : State, (t.showCores d).ungated g = t.ungated g := fun t => (hdie _ _ _ _).trans (hdie _ _ _ _)
  exact (hshow _).trans ((hcore _ _ _ _).trans (ungated_ite_of rfl (hcore _ _ _ _)))

theorem State.closeCore_ungated (s : State) (d c : Nat) : (s.closeCore d c).ungated g = s.ungated g :=
  ungated_ite_of (State.coreTo_ungated hg _ _ _ _) rfl

theorem State.lksOpen_ungated (s : State) (b : Nat) : (s.lksOpen b).ungated g = s.ungated g := by
  refine (forL_ungated _ fun x t => ?_).trans (s.setEff_ungated hg b 1)
  have hgate : (if b = 12 then t.setCore x.1 x.2 { t.core x.1 x.2 with gate := true } else t).ungated g = t.ungated g := ungated_ite_of rfl rfl
  exact ungated_ite_of ((State.coreTo_ungated hg _ _ _ _).trans hgate) hgate

theorem State.lksClose_ungated (s : State) (b : Nat) : (s.lksClose b).ungated g = s.ungated g := by
  have hclose : (forL (domainCores b) (fun q t => if t.coreRests q.1 q.2 then t else t.closeCore q.1 q.2) s).ungated g = s.ungated g :=
    forL_ungated s fun q t => ungated_ite_of rfl (t.closeCore_ungated hg _ _)
  exact ungated_ite_of ((State.setEff_ungated hg _ b 0).trans hclose) hclose

theorem State.lksGate_ungated (s : State) (want b : Nat) : (s.lksGate want b).ungated g = s.ungated g :=
  ungated_ite_of (s.lksOpen_ungated hg b) (ungated_ite_of (s.lksClose_ungated hg b) rfl)

theorem State.plainGates_ungated (s : State) (want : Nat) : (s.plainGates want).ungated g = s.ungated g := by
  have hwr : ∀ v : Word, (s.wr CLK_GATE_EFF v).ungated g = s.ungated g := fun v => by
    unfold State.ungated
    rw [s.get_wr_ne v hg.2.1, State.wr_clk]
  have hready : ∀ (c : Bool) (t : State) (f : Field), f ∈ gateFields → (if c then t else t.clear f).ungated g = t.ungated g :=
    fun c t f hf => ungated_ite_of rfl (t.setShown_ungated hg 0 hf)
  exact (hready _ _ _ (by decide)).trans ((hready _ _ _ (by decide)).trans (hwr _))

/-- The gates leave every other field, and the mode that a transition leads to. -/
theorem State.gates_ungated (s : State) : s.gates.ungated g = s.ungated g := by
  have hbusy : ∀ (t : State) (n : Nat) (b : Bool),
      (State.setB { t with clk := { t.clk with gateWait := n } } PWR_STATUS_LKS_BUSY b).ungated g = t.ungated g :=
    fun t n b => State.setShown_ungated hg _ _ (by decide)
  have hawake : ∀ t : State, t.showAwake.ungated g = t.ungated g := fun t => t.setShown_ungated hg _ (by decide)
  refine (hawake _).trans ((hbusy _ _ _).trans ((State.plainGates_ungated hg _ _).trans ?_))
  rw [State.lksGate_ungated hg, State.lksGate_ungated hg, State.lksGate_ungated hg]

end

/-- The gates leave every other field. -/
theorem State.get_gates (s : State) {g : Field} (hg : g.Ungated) : s.gates.get g = s.get g := get_of_ungated (s.gates_ungated hg)

theorem State.gates_pending (s : State) : s.gates.clk.modePending = s.clk.modePending :=
  pending_of_ungated (s.gates_ungated (g := PWR_STATUS_CUR_MODE) (by decide))

theorem State.rdN_gates (s : State) {a : Nat} (ha : Field.Ungated ⟨a, 0, 32⟩) : s.gates.rdN a = s.rdN a := by
  rw [State.rdN_eq_get, State.rdN_eq_get, s.get_gates ha]

/-- The plain domains follow what is wanted at once (R119). -/
theorem State.gates_plain (s : State) : s.gates.rdN CLK_GATE_EFF &&& 0x0FFF = s.gateWant &&& 0x0FFF := by
  have hset : ∀ (t : State) (f : Field) (v : Nat), CLK_GATE_EFF ≠ f.addr → (t.set f v).rdN CLK_GATE_EFF = t.rdN CLK_GATE_EFF :=
    fun t f v h => congrArg BitVec.toNat (t.rd_set_ne f v h)
  have hready : ∀ (c : Bool) (t : State) (f : Field), CLK_GATE_EFF ≠ f.addr →
      (if c then t else t.clear f).rdN CLK_GATE_EFF = t.rdN CLK_GATE_EFF := by
    intro c t f h
    split
    · rfl
    · exact hset t f 0 h
  have hplain : ∀ (t : State) (want : Nat), (t.plainGates want).rdN CLK_GATE_EFF &&& 0x0FFF = want &&& 0x0FFF := by
    intro t want
    have hrd : (t.plainGates want).rdN CLK_GATE_EFF = (t.rdN CLK_GATE_EFF &&& 0x7000 ||| want &&& 0x0FFF) % 2 ^ 32 :=
      (hready _ _ _ (by decide)).trans ((hready _ _ _ (by decide)).trans (t.rdN_wrN_same _ _))
    have hlt : (t.rdN CLK_GATE_EFF &&& 0x7000 ||| want &&& 0x0FFF) < 2 ^ 32 :=
      Nat.or_lt_two_pow (lt_of_le_of_lt Nat.and_le_right (by decide)) (lt_of_le_of_lt Nat.and_le_right (by decide))
    rw [hrd, Nat.mod_eq_of_lt hlt, Nat.and_or_distrib_right, Nat.and_assoc, Nat.and_assoc]
    simp
  have hshow : ∀ (t : State) (n : Nat) (b : Bool),
      (State.setB { t with clk := { t.clk with gateWait := n } } PWR_STATUS_LKS_BUSY b).showAwake.rdN CLK_GATE_EFF = t.rdN CLK_GATE_EFF :=
    fun t n b => (hset _ _ _ (by decide)).trans (hset _ _ _ (by decide))
  exact (congrArg (· &&& 0x0FFF) (hshow _ _ _)).trans (hplain _ _)

/-! ### Clocks that lose ready (R105, R121, R136) -/

theorem State.unready_cons (s : State) (b : Nat) (bs : List Nat) : s.unready (b :: bs) = ((s.clear (readyBit b)).refLost b).unready bs := rfl

theorem State.refLost_pending (s : State) (b : Nat) : (s.refLost b).clk.modePending = s.clk.modePending := by
  unfold State.refLost
  split
  · rw [State.raiseBit_clk]
  · rfl

/-- A loss of readiness leaves what is neither in CLK_READY nor in the measurement's control. -/
theorem State.unready_keeps (s : State) (bs : List Nat) {g : Field} (hready : CLK_READY ≠ g.addr) (hmeas : CLK_FMEAS_CTRL ≠ g.addr) :
    (s.unready bs).get g = s.get g ∧ (s.unready bs).clk.modePending = s.clk.modePending := by
  induction bs generalizing s with
  | nil => exact ⟨rfl, rfl⟩
  | cons b bs ih =>
    obtain ⟨hget, hpend⟩ := ih ((s.clear (readyBit b)).refLost b)
    rw [s.unready_cons b bs, hget, hpend, State.get_refLost _ _ hmeas, State.refLost_pending]
    exact ⟨s.get_set_apart _ g 0 (.inl hready), rfl⟩

/-- A source that has lost ready, or was not ready before, is not ready. -/
theorem State.isSet_unready (s : State) (bs : List Nat) {b : Nat} (hb : b < 32) (h : b ∈ bs ∨ s.isSet (readyBit b) = false) :
    (s.unready bs).isSet (readyBit b) = false := by
  induction bs generalizing s with
  | nil => exact h.resolve_left List.not_mem_nil
  | cons x bs ih =>
    have hkeep : ((s.clear (readyBit x)).refLost x).isSet (readyBit b) = (s.clear (readyBit x)).isSet (readyBit b) :=
      State.isSet_of_get (State.get_refLost _ _ (show CLK_FMEAS_CTRL ≠ CLK_READY by decide))
    rw [s.unready_cons x bs]
    by_cases hx : b = x
    · subst hx
      exact ih _ (.inr (hkeep.trans (s.isSet_set_zero _ (show b + 1 ≤ 32 from hb))))
    · refine ih _ (h.imp (fun hm => (List.mem_cons.1 hm).resolve_left hx) fun hs => ?_)
      rw [hkeep, ← hs]
      exact State.isSet_of_get (s.get_set_apart _ _ 0 (.inr (show x + 1 ≤ b ∨ b + 1 ≤ x by omega)))

end Sys2Proof.Machine


namespace Sys2Proof.Machine

/-! ### Mode transitions (R121) -/

/-- The mode shown, and the one that a transition leads to. -/
def State.modeShown (s : State) (m : Nat) (p : Option Nat) : State :=
  { s.set PWR_STATUS_CUR_MODE m with clk := { s.clk with modePending := p } }

theorem State.get_modeShown (s : State) {m : Nat} (p : Option Nat) (hm : m < 4) : (s.modeShown m p).get PWR_STATUS_CUR_MODE = m :=
  (s.get_set_same PWR_STATUS_CUR_MODE m (by decide)).trans (Nat.mod_eq_of_lt hm)

theorem State.get_modeShown_apart (s : State) (m : Nat) (p : Option Nat) {g : Field} (h : PWR_STATUS_CUR_MODE.apart g) :
    (s.modeShown m p).get g = s.get g := s.get_set_apart _ g m h

theorem State.modeShown_pending (s : State) (m : Nat) (p : Option Nat) : (s.modeShown m p).clk.modePending = p := rfl

/-- A transition does not end without one, or while a Larkspur domain waits for its cores (R120, R121). -/
theorem State.modeDone_waits {s : State} (h : s.clk.modePending = none ∨ s.get PWR_STATUS_CUR_MODE ≠ 3 ∨ s.clk.gateWait ≠ 0) :
    s.modeDone = s := by
  unfold State.modeDone
  split
  · rfl
  next m hm =>
    have hpend : s.clk.modePending ≠ none := fun hn => absurd (hm.symm.trans hn) (by simp)
    rw [if_pos ((h.resolve_left hpend).symm)]

/-- What the end of a transition shows (R121). -/
theorem State.modeDone_ends {s : State} {m : Nat} (hm : s.clk.modePending = some m) (hcur : s.get PWR_STATUS_CUR_MODE = 3)
    (hwait : s.clk.gateWait = 0) : s.modeDone =
      if m = 2 then (s.modeShown m none).deepReached
      else if m = s.get PWR_CTRL_MODE then s.modeShown m none
      else (s.modeShown m none).modeShown 3 (some (s.get PWR_CTRL_MODE)) := by
  have hmode : (s.modeShown m none).get PWR_CTRL_MODE = s.get PWR_CTRL_MODE := s.get_modeShown_apart m none (.inl (by decide))
  unfold State.modeDone
  split
  next hn => exact absurd (hm.symm.trans hn) (by simp)
  next k hk =>
    obtain rfl : m = k := Option.some.inj (hm.symm.trans hk)
    rw [if_neg (not_or.2 ⟨not_not.2 hwait, not_not.2 hcur⟩)]
    show (if m = 2 then (s.modeShown m none).deepReached else if m = (s.modeShown m none).get PWR_CTRL_MODE then s.modeShown m none
      else (s.modeShown m none).modeShown 3 (some ((s.modeShown m none).get PWR_CTRL_MODE))) = _
    rw [hmode]

/-- Deep-sleep stops FIRC, and leaves the mode and every other field outside CLK_READY (R121). -/
theorem State.deepReached_shows (s : State) : s.deepReached.isSet CLK_READY_FIRC = false ∧
    s.deepReached.clk.modePending = s.clk.modePending ∧
    ∀ g : Field, CLK_READY ≠ g.addr → CLK_FMEAS_CTRL ≠ g.addr → s.deepReached.get g = s.get g := by
  have hbs : 2 ∈ (if s.rdN CLK_GATE_EFF &&& 0x7FFC = 0 then [2, 4] else [2]) := by
    split <;> decide
  exact ⟨State.isSet_unready s _ (by decide : 2 < 32) (.inl hbs),
    (s.unready_keeps _ (g := PWR_STATUS_CUR_MODE) (by decide) (by decide)).2, fun g h h' => (s.unready_keeps _ h h').1⟩

/-- The end of the entry of Deep-sleep (R121). -/
theorem State.modeDone_deep {s : State} (hm : s.clk.modePending = some 2) (hcur : s.get PWR_STATUS_CUR_MODE = 3) (hwait : s.clk.gateWait = 0) :
    s.modeDone.get PWR_STATUS_CUR_MODE = 2 ∧ s.modeDone.clk.modePending = none ∧ s.modeDone.isSet CLK_READY_FIRC = false ∧
      s.modeDone.rdN CLK_GATE_EFF = s.rdN CLK_GATE_EFF := by
  rw [State.modeDone_ends hm hcur hwait, if_pos rfl]
  obtain ⟨hfirc, hpend, hget⟩ := (s.modeShown 2 none).deepReached_shows
  refine ⟨(hget _ (by decide) (by decide)).trans (s.get_modeShown none (by decide)), hpend, hfirc, ?_⟩
  rw [State.rdN_eq_get, hget _ (by decide) (by decide), State.rdN_eq_get]
  exact s.get_modeShown_apart 2 none (.inl (by decide))

/-- The end of a transition into Run or Sleep: the mode shows, and one written meanwhile begins the next (R121). -/
theorem State.modeDone_awake {s : State} {m : Nat} (hm : s.clk.modePending = some m) (hlt : m < 2) (hcur : s.get PWR_STATUS_CUR_MODE = 3)
    (hwait : s.clk.gateWait = 0) : s.modeDone.rdN CLK_GATE_EFF = s.rdN CLK_GATE_EFF ∧
      (m = s.get PWR_CTRL_MODE → s.modeDone.get PWR_STATUS_CUR_MODE = m ∧ s.modeDone.clk.modePending = none) ∧
      (m ≠ s.get PWR_CTRL_MODE → s.modeDone.get PWR_STATUS_CUR_MODE = 3 ∧ s.modeDone.clk.modePending = some (s.get PWR_CTRL_MODE)) := by
  have heff : ∀ (t : State) (v : Nat) (p : Option Nat), (t.modeShown v p).rdN CLK_GATE_EFF = t.rdN CLK_GATE_EFF := fun t v p =>
    congrArg BitVec.toNat (t.rd_set_ne PWR_STATUS_CUR_MODE v (by decide))
  rw [State.modeDone_ends hm hcur hwait, if_neg (by omega)]
  by_cases h : m = s.get PWR_CTRL_MODE
  · rw [if_pos h]
    exact ⟨heff s m none, fun _ => ⟨s.get_modeShown none (by omega), s.modeShown_pending m none⟩, fun hne => absurd h hne⟩
  · rw [if_neg h]
    exact ⟨(heff _ _ _).trans (heff s m none), fun he => absurd he h, fun _ => ⟨State.get_modeShown _ _ (by decide), rfl⟩⟩

/-- The gates leave the mode that a MODE written asks for. -/
theorem State.gates_mode (s : State) : s.gates.get PWR_STATUS_CUR_MODE = s.get PWR_STATUS_CUR_MODE ∧
    s.gates.get PWR_CTRL_MODE = s.get PWR_CTRL_MODE ∧ s.gates.clk.modePending = s.clk.modePending :=
  ⟨s.get_gates (by decide), s.get_gates (by decide), s.gates_pending⟩

/-! ### Wake sources (R123, R124) -/

theorem State.rdN_fireWake (s : State) {b : Nat} (hb : b < 32) : (s.fireWake b).rdN PWR_WAKE_SRC = s.rdN PWR_WAKE_SRC ||| 2 ^ b := by
  have hput : (s.fireWake b).rdN PWR_WAKE_SRC = (fieldPut (s.rd PWR_WAKE_SRC) b 1 1).toNat := by
    have hset : (s.set ⟨PWR_WAKE_SRC, b, 1⟩ 1).rdN PWR_WAKE_SRC = (fieldPut (s.rd PWR_WAKE_SRC) b 1 1).toNat :=
      congrArg BitVec.toNat (s.rd_wr_same PWR_WAKE_SRC _)
    unfold State.fireWake
    dsimp only
    split <;> exact hset
  rw [hput]
  refine Nat.eq_of_testBit_eq fun i => ?_
  rw [Nat.testBit_or, Nat.testBit_two_pow]
  by_cases hi : i < 32
  · have hbit := fieldPut_getLsbD (s.rd PWR_WAKE_SRC) b 1 1 i hi
    rw [BitVec.getLsbD, BitVec.getLsbD] at hbit
    rw [hbit]
    by_cases h : b = i
    · subst h
      simp
    · rw [if_neg (by omega), decide_eq_false h, Bool.or_false]
      rfl
  · have hz : ∀ w : Word, w.toNat.testBit i = false := fun w => Nat.testBit_lt_two_pow
      (lt_of_lt_of_le w.isLt (Nat.pow_le_pow_right (by decide) (Nat.le_of_not_lt hi)))
    rw [hz, State.rdN, hz, decide_eq_false (by omega)]
    rfl

theorem State.rd_fireWake (s : State) (b : Nat) {a : Nat} (h : a ≠ PWR_WAKE_SRC) : (s.fireWake b).rd a = s.rd a := by
  have hset : (s.set ⟨PWR_WAKE_SRC, b, 1⟩ 1).rd a = s.rd a := s.rd_set_ne _ 1 h
  unfold State.fireWake
  dsimp only
  split <;> exact hset

theorem State.fireWake_pending (s : State) (b : Nat) : (s.fireWake b).clk.modePending = s.clk.modePending := by
  unfold State.fireWake
  dsimp only
  split <;> rfl

theorem State.fireWake_asleep (s : State) (b : Nat) : (s.fireWake b).asleep = s.asleep := by
  unfold State.asleep
  rw [State.get_fireWake _ _ (.inl (show PWR_WAKE_SRC ≠ PWR_STATUS by decide)), State.fireWake_pending]

/-- The enabled sources that have fired. -/
def State.fired (s : State) : Nat := s.rdN PWR_WAKE_SRC &&& s.rdN PWR_WAKE_EN &&& 0xF

theorem State.fired_fireWake (s : State) {b : Nat} (hb : b < 32) :
    (s.fireWake b).fired = (s.rdN PWR_WAKE_SRC ||| 2 ^ b) &&& s.rdN PWR_WAKE_EN &&& 0xF := by
  have hen : (s.fireWake b).rdN PWR_WAKE_EN = s.rdN PWR_WAKE_EN := congrArg BitVec.toNat (s.rd_fireWake b (by decide))
  unfold State.fired
  rw [s.rdN_fireWake hb, hen]

/-- A source that is not enabled, or is SPUR, is none that ends Deep-sleep (R124). -/
theorem State.fired_fireWake_masked {s : State} {b : Nat} (hb : b < 5) (h : b = 4 ∨ bitOf (s.rdN PWR_WAKE_EN) b = false) (hnone : s.fired = 0) :
    (s.fireWake b).fired = 0 := by
  have hbit : 2 ^ b &&& s.rdN PWR_WAKE_EN &&& 0xF = 0 := by
    refine Nat.eq_of_testBit_eq fun i => ?_
    rw [Nat.testBit_and, Nat.testBit_and, Nat.testBit_two_pow, Nat.zero_testBit]
    by_cases hi : b = i
    · subst hi
      rcases h with rfl | h
      · rw [show Nat.testBit 0xF 4 = false by decide, Bool.and_false]
      · rw [show (s.rdN PWR_WAKE_EN).testBit b = false from h, Bool.and_false, Bool.false_and]
    · rw [decide_eq_false hi, Bool.false_and, Bool.false_and]
  rw [s.fired_fireWake (by omega), Nat.and_or_distrib_right, Nat.and_or_distrib_right, hbit, Nat.or_zero]
  exact hnone

/-- With no other enabled source fired, an enabled one is the first of those that end Deep-sleep. -/
theorem State.find_fireWake {s : State} {b : Nat} (hb : b < 4) (hen : bitOf (s.rdN PWR_WAKE_EN) b = true) (hnone : s.fired = 0) :
    (List.range 4).find? (fun i => bitOf (s.fireWake b).fired i) = some b := by
  have hbits : ∀ i < 4, bitOf (s.fireWake b).fired i = decide (b = i) := by
    intro i hi
    have hold : (s.rdN PWR_WAKE_SRC &&& s.rdN PWR_WAKE_EN &&& 0xF).testBit i = false := by
      rw [show s.rdN PWR_WAKE_SRC &&& s.rdN PWR_WAKE_EN &&& 0xF = 0 from hnone]
      exact Nat.zero_testBit i
    have hlow : Nat.testBit 0xF i = true := (by decide : ∀ i < 4, Nat.testBit 0xF i = true) i hi
    unfold bitOf at hen ⊢
    rw [s.fired_fireWake (by omega), Nat.and_or_distrib_right, Nat.and_or_distrib_right, Nat.testBit_or, hold, Nat.testBit_and, Nat.testBit_and,
      Nat.testBit_two_pow, hlow, Bool.false_or, Bool.and_true]
    by_cases h : b = i
    · rw [← h, hen, Bool.and_true]
    · rw [decide_eq_false h, Bool.false_and]
  rw [List.find?_eq_some_iff_getElem]
  refine ⟨by rw [hbits b hb]; exact decide_eq_true rfl, b, by rw [List.length_range]; exact hb, List.getElem_range _, fun j hj => ?_⟩
  rw [List.getElem_range, hbits j (by omega), decide_eq_false (by omega)]
  rfl

/-- Outside Deep-sleep, and with no enabled source fired, nothing wakes. -/
theorem State.wake_rests {s : State} (h : s.asleep = false ∨ s.fired = 0) : s.wake = s := by
  unfold State.wake
  split
  · rfl
  next b hb =>
    rcases h with h | h
    · rw [h]
      rfl
    · have hbit := List.find?_some hb
      rw [show s.rdN PWR_WAKE_SRC &&& s.rdN PWR_WAKE_EN &&& 0xF = 0 from h, bitOf, Nat.zero_testBit] at hbit
      exact absurd hbit Bool.false_ne_true

/-- The state that a wake from Deep-sleep leads to, before its gates open (R124). -/
def State.woken (s : State) (b : Nat) : State :=
  let t := s.modeShown (s.get PWR_CTRL_MODE) none
  ((t.set PWR_STATUS_LAST_WAKE b).set CLK_READY_FIRC 1).setB CLK_READY_PLL_CTL (t.isSet CLK_READY_XTAL_A || t.get CLK_SRC_SEL_PLL_REF == 1)

/-- The first enabled source that has fired ends Deep-sleep (R123, R124). -/
theorem State.wake_deep {s : State} {b : Nat} (hdeep : s.get PWR_STATUS_CUR_MODE = 2) (hb : (List.range 4).find? (bitOf s.fired) = some b) :
    s.wake = (s.woken b).gates := by
  have hasleep : s.asleep = true := by
    unfold State.asleep
    rw [hdeep]
    rfl
  unfold State.wake
  split
  next hn => exact absurd (hb.symm.trans hn) (by simp)
  next c hc =>
    obtain rfl : b = c := Option.some.inj (hb.symm.trans hc)
    rw [hasleep, if_neg (by decide)]
    dsimp only
    rw [hdeep, if_pos (by decide)]
    rfl

/-- What a wake from Deep-sleep shows, and what it leaves (R123, R124). -/
theorem State.woken_gates_shows (s : State) {b : Nat} (hb : b < 256) :
    (s.woken b).gates.get PWR_STATUS_CUR_MODE = s.get PWR_CTRL_MODE ∧ (s.woken b).gates.get PWR_STATUS_LAST_WAKE = b ∧
    (s.woken b).gates.isSet CLK_READY_FIRC = true ∧
    (s.woken b).gates.isSet CLK_READY_PLL_CTL = (s.isSet CLK_READY_XTAL_A || s.get CLK_SRC_SEL_PLL_REF == 1) ∧
    (s.woken b).gates.rdN PWR_WAKE_SRC = s.rdN PWR_WAKE_SRC ∧ (s.woken b).gates.rd PWR_WAKE_TIMER = s.rd PWR_WAKE_TIMER := by
  have hmode : s.get PWR_CTRL_MODE < 2 := s.get_lt _
  have hxtal : (s.modeShown (s.get PWR_CTRL_MODE) none).isSet CLK_READY_XTAL_A = s.isSet CLK_READY_XTAL_A :=
    State.isSet_of_get (s.get_modeShown_apart _ _ (.inl (by decide)))
  have href : (s.modeShown (s.get PWR_CTRL_MODE) none).get CLK_SRC_SEL_PLL_REF = s.get CLK_SRC_SEL_PLL_REF :=
    s.get_modeShown_apart _ _ (.inl (by decide))
  have hrest : ∀ g : Field, PWR_STATUS_LAST_WAKE.apart g → CLK_READY ≠ g.addr → (s.woken b).get g = (s.modeShown (s.get PWR_CTRL_MODE) none).get g :=
    fun g h h' => (State.get_set_apart _ CLK_READY_PLL_CTL g _ (.inl h')).trans ((State.get_set_apart _ CLK_READY_FIRC g _ (.inl h')).trans
      (State.get_set_apart _ _ g _ h))
  have hword : ∀ a : Nat, Field.Ungated ⟨a, 0, 32⟩ → PWR_STATUS ≠ a → CLK_READY ≠ a → (s.woken b).gates.rdN a = s.rdN a := by
    intro a ha h h'
    rw [State.rdN_gates _ ha, State.rdN_eq_get, hrest ⟨a, 0, 32⟩ (.inl h) h', s.get_modeShown_apart _ _ (g := ⟨a, 0, 32⟩) (.inl h), State.rdN_eq_get]
  refine ⟨?_, ?_, ?_, ?_, hword _ (by decide) (by decide) (by decide), ?_⟩
  · rw [State.get_gates _ (by decide), hrest _ (apart_of (by decide)) (by decide), s.get_modeShown none (by omega)]
  · rw [State.get_gates _ (by decide)]
    refine (State.get_set_apart _ CLK_READY_PLL_CTL _ _ (.inl (by decide))).trans ((State.get_set_apart _ CLK_READY_FIRC _ _ (.inl (by decide))).trans
      ((State.get_set_same _ PWR_STATUS_LAST_WAKE b (by decide)).trans (Nat.mod_eq_of_lt hb)))
  · rw [State.isSet_of_get (State.get_gates _ (by decide))]
    exact (State.isSet_of_get (State.get_set_apart _ CLK_READY_PLL_CTL CLK_READY_FIRC _ (apart_of (by decide)))).trans
      (State.isSet_set_one _ CLK_READY_FIRC (by decide) (by decide))
  · rw [State.isSet_of_get (State.get_gates _ (by decide)), ← hxtal, ← href]
    exact State.isSet_set_toNat _ CLK_READY_PLL_CTL _ (by decide) (by decide)
  · exact BitVec.eq_of_toNat_eq (hword PWR_WAKE_TIMER (by decide) (by decide) (by decide))

end Sys2Proof.Machine


namespace Sys2Proof.Machine

/-! ### The measurement counter (R136) -/

/-- The clocks that the measurement counter's control selects. -/
def State.fmeasSelect (s : State) (dut ref : Nat) : State := (s.set CLK_FMEAS_CTRL_DUT_SEL dut).set CLK_FMEAS_CTRL_REF_SEL ref

theorem State.fmeasSelect_shows (s : State) (dut ref : Fin 16) :
    (s.fmeasSelect dut ref).get CLK_FMEAS_CTRL_DUT_SEL = dut ∧ (s.fmeasSelect dut ref).get CLK_FMEAS_CTRL_REF_SEL = ref :=
  ⟨(State.get_set_apart _ _ _ _ (apart_of (by decide))).trans ((s.get_set_same _ dut (by decide)).trans (Nat.mod_eq_of_lt dut.isLt)),
    (State.get_set_same _ _ _ (by decide)).trans (Nat.mod_eq_of_lt ref.isLt)⟩

theorem State.fmeasSelect_ready (s : State) (dut ref n : Nat) : (s.fmeasSelect dut ref).clockReady n = s.clockReady n := by
  have hset : ∀ g : Field, CLK_FMEAS_CTRL ≠ g.addr → (s.fmeasSelect dut ref).isSet g = s.isSet g := fun g h =>
    State.isSet_of_get ((State.get_set_apart _ _ g _ (.inl h)).trans (s.get_set_apart _ g _ (.inl h)))
  unfold State.clockReady
  rw [hset (readyBit _) (show CLK_FMEAS_CTRL ≠ CLK_READY by decide), hset SYS_CONN_STATUS_SYNC_IN_ACT (by decide)]

theorem State.fmeasSelect_gate (s : State) (dut ref : Nat) : (s.fmeasSelect dut ref).rdN CLK_FMEAS_GATE = s.rdN CLK_FMEAS_GATE :=
  congrArg BitVec.toNat ((State.rd_set_ne _ _ _ (by decide)).trans (s.rd_set_ne _ _ (by decide)))

/-- What a selection misses that starts no measurement (R136). -/
def State.fmeasRefused (s : State) (dut ref : Nat) : Prop :=
  12 ≤ dut ∨ 12 ≤ ref ∨ s.rdN CLK_FMEAS_GATE = 0 ∨ s.clockReady ref = false

theorem State.fmeasRefused_iff (s : State) (dut ref : Fin 16) :
    (12 ≤ (s.fmeasSelect dut ref).get CLK_FMEAS_CTRL_REF_SEL ∨ 12 ≤ (s.fmeasSelect dut ref).get CLK_FMEAS_CTRL_DUT_SEL ∨
      (s.fmeasSelect dut ref).rdN CLK_FMEAS_GATE = 0 ∨
      (!(s.fmeasSelect dut ref).clockReady ((s.fmeasSelect dut ref).get CLK_FMEAS_CTRL_REF_SEL)) = true) ↔ s.fmeasRefused dut ref := by
  obtain ⟨hdut, href⟩ := s.fmeasSelect_shows dut ref
  rw [hdut, href, s.fmeasSelect_ready, s.fmeasSelect_gate, State.fmeasRefused, Bool.not_eq_true']
  exact or_left_comm

theorem execFmeasStart_starts {s : State} (hp : s.pins.powered = true) (dut ref : Fin 16) (h : ¬ s.fmeasRefused dut ref) :
    ∃ t, exec (.fmeasStart dut ref) s = .next t ∧ t.clk.measuring = true ∧ t.clk.measRef = ref.val ∧
      t.isSet CLK_FMEAS_CTRL_START = true ∧ t.get CLK_FMEAS_CTRL_DUT_SEL = dut.val ∧ t.get CLK_FMEAS_CTRL_REF_SEL = ref.val := by
  obtain ⟨hdut, href⟩ := s.fmeasSelect_shows dut ref
  have hrun : (s.fmeasSelect dut ref).fmeasStart = { (s.fmeasSelect dut ref).set CLK_FMEAS_CTRL_START 1 with
      clk := { (s.fmeasSelect dut ref).clk with measuring := true, measRef := (s.fmeasSelect dut ref).get CLK_FMEAS_CTRL_REF_SEL } } :=
    if_neg (fun hr => h ((s.fmeasRefused_iff dut ref).1 hr))
  refine ⟨(s.fmeasSelect dut ref).fmeasStart, show execFmeasStart dut ref s = _ from State.on_powered _ hp, ?_⟩
  rw [hrun]
  exact ⟨rfl, href, (s.fmeasSelect dut ref).isSet_set_one CLK_FMEAS_CTRL_START (by decide) (by decide),
    ((s.fmeasSelect dut ref).get_set_apart CLK_FMEAS_CTRL_START _ 1 (apart_of (by decide))).trans hdut,
    ((s.fmeasSelect dut ref).get_set_apart CLK_FMEAS_CTRL_START _ 1 (apart_of (by decide))).trans href⟩

theorem execFmeasStart_fails {s : State} (hp : s.pins.powered = true) (dut ref : Fin 16) (h : s.fmeasRefused dut ref) :
    ∃ t, exec (.fmeasStart dut ref) s = .next t ∧ t.clk.measuring = false ∧ t.isSet CLK_FMEAS_CTRL_START = false ∧
      t.isSet CLK_FMEAS_CTRL_ERR = true := by
  have hrun : (s.fmeasSelect dut ref).fmeasStart = { (((s.fmeasSelect dut ref).clear CLK_FMEAS_CTRL_START).raiseBit CLK_FMEAS_CTRL_ERR 228) with
      clk := { (s.fmeasSelect dut ref).clk with measuring := false } } :=
    if_pos ((s.fmeasRefused_iff dut ref).2 h)
  refine ⟨(s.fmeasSelect dut ref).fmeasStart, show execFmeasStart dut ref s = _ from State.on_powered _ hp, ?_⟩
  rw [hrun]
  refine ⟨rfl, ?_, State.isSet_raiseBit _ CLK_FMEAS_CTRL_ERR 228 (by decide) (by decide)⟩
  exact (State.isSet_of_get (State.get_raiseBit_apart _ CLK_FMEAS_CTRL_ERR CLK_FMEAS_CTRL_START 228 (apart_of (by decide)))).trans
    (State.isSet_set_zero _ _ (by decide))

/-- The count of a measurement that has ended. -/
def State.fmeasCounted (s : State) (n : Nat) : State :=
  (State.wrN { s.clear CLK_FMEAS_CTRL_START with clk := { s.clk with measuring := false } } CLK_FMEAS_CNT_LO n).wrN CLK_FMEAS_CNT_HI
    (n / 2 ^ 32 % 65536)

theorem execFmeasDone_counts {s : State} (hp : s.pins.powered = true) (n : Nat) (h : s.clk.measuring = true) :
    ∃ t, exec (.fmeasDone n) s = .next t ∧ t.isSet CLK_FMEAS_CTRL_DONE = true ∧ t.isSet CLK_FMEAS_CTRL_START = false ∧
      t.rdN CLK_FMEAS_CNT_LO = n % 2 ^ 32 ∧ t.rdN CLK_FMEAS_CNT_HI = n / 2 ^ 32 % 65536 ∧ t.clk.measuring = false := by
  have hrd : ∀ (a : Nat), a ≠ CLK_FMEAS_CTRL → ((s.fmeasCounted n).raiseBit CLK_FMEAS_CTRL_DONE 228).rdN a = (s.fmeasCounted n).rdN a :=
    fun a ha => congrArg BitVec.toNat (State.rd_raiseBit_ne _ CLK_FMEAS_CTRL_DONE 228 ha)
  have hstart : (s.fmeasCounted n).get CLK_FMEAS_CTRL_START = (s.clear CLK_FMEAS_CTRL_START).get CLK_FMEAS_CTRL_START :=
    (State.get_wr_ne _ _ (by decide)).trans (State.get_wr_ne _ _ (by decide))
  refine ⟨(s.fmeasCounted n).raiseBit CLK_FMEAS_CTRL_DONE 228, (show execFmeasDone n s = _ from State.on_powered _ hp).trans ?_, State.isSet_raiseBit _ _ _ (by decide) (by decide),
    ?_, ?_, ?_, by rw [State.raiseBit_clk]; rfl⟩
  · rw [h]
    rfl
  · rw [State.isSet_of_get (State.get_raiseBit_apart _ CLK_FMEAS_CTRL_DONE _ 228 (apart_of (by decide))), State.isSet_of_get hstart]
    exact State.isSet_set_zero _ _ (by decide)
  · rw [hrd _ (by decide)]
    exact (State.rdN_wrN_ne _ _ (by decide)).trans (State.rdN_wrN_same _ _ _)
  · rw [hrd _ (by decide)]
    exact (State.rdN_wrN_same _ _ _).trans (Nat.mod_eq_of_lt (lt_trans (Nat.mod_lt _ (by decide)) (by decide)))

theorem execFmeasDone_rests {s : State} (hp : s.pins.powered = true) (n : Nat) (h : s.clk.measuring = false) : exec (.fmeasDone n) s = .next s := by
  refine (show execFmeasDone n s = _ from State.on_powered _ hp).trans ?_
  rw [h]
  rfl

end Sys2Proof.Machine


namespace Sys2Proof.Machine

/-! ### Power modes (R121) -/

theorem State.get_setMode (s : State) (m : Bool) : (s.setB PWR_CTRL_MODE m).get PWR_CTRL_MODE = m.toNat := by
  refine (s.get_set_same PWR_CTRL_MODE m.toNat (by decide)).trans (Nat.mod_eq_of_lt ?_)
  cases m <;> decide

theorem State.get_setMode_cur (s : State) (m : Bool) : (s.setB PWR_CTRL_MODE m).get PWR_STATUS_CUR_MODE = s.get PWR_STATUS_CUR_MODE :=
  s.get_set_apart PWR_CTRL_MODE _ _ (.inl (by decide))

theorem State.modeSelect_eq (s : State) (m : Bool) : s.modeSelect m =
    if s.get PWR_STATUS_CUR_MODE = 2 ∨ s.get PWR_STATUS_CUR_MODE = 3 ∨ s.get PWR_STATUS_CUR_MODE = m.toNat then s.setB PWR_CTRL_MODE m
    else (s.setB PWR_CTRL_MODE m).modeShown 3 (some m.toNat) := by
  rw [← s.get_setMode_cur m]
  rfl

theorem execPowerModeSelect_begins {s : State} (hp : s.pins.powered = true) (m : Bool) (hcur : s.get PWR_STATUS_CUR_MODE < 2)
    (hne : s.get PWR_STATUS_CUR_MODE ≠ m.toNat) : ∃ t, exec (.powerModeSelect m) s = .next t ∧ t.get PWR_STATUS_CUR_MODE = 3 ∧
      t.get PWR_CTRL_MODE = m.toNat ∧ t.clk.modePending = some m.toNat := by
  refine ⟨s.modeSelect m, show execPowerModeSelect m s = _ from State.on_powered _ hp, ?_⟩
  rw [s.modeSelect_eq m, if_neg (by omega)]
  exact ⟨State.get_modeShown _ _ (by decide), (State.get_modeShown_apart _ _ _ (.inl (by decide))).trans (s.get_setMode m), rfl⟩

theorem execPowerModeSelect_waits {s : State} (hp : s.pins.powered = true) (m : Bool)
    (h : 2 ≤ s.get PWR_STATUS_CUR_MODE ∨ s.get PWR_STATUS_CUR_MODE = m.toNat) : ∃ t, exec (.powerModeSelect m) s = .next t ∧
      t.get PWR_STATUS_CUR_MODE = s.get PWR_STATUS_CUR_MODE ∧ t.get PWR_CTRL_MODE = m.toNat ∧ t.clk = s.clk := by
  have hlt : s.get PWR_STATUS_CUR_MODE < 4 := s.get_lt _
  refine ⟨s.modeSelect m, show execPowerModeSelect m s = _ from State.on_powered _ hp, ?_⟩
  rw [s.modeSelect_eq m, if_pos (by omega)]
  exact ⟨s.get_setMode_cur m, s.get_setMode m, State.set_clk _ _ _⟩

/-! ### Deep-sleep and its end (R121, R123, R124) -/

theorem State.refLost_gateWait (s : State) (b : Nat) : (s.refLost b).clk.gateWait = s.clk.gateWait := by
  unfold State.refLost
  split
  · rw [State.raiseBit_clk]
  · rfl

theorem State.unready_gateWait (s : State) (bs : List Nat) : (s.unready bs).clk.gateWait = s.clk.gateWait := by
  induction bs generalizing s with
  | nil => rfl
  | cons b bs ih => exact (ih _).trans (State.refLost_gateWait _ b)

theorem State.modeDone_gateWait (s : State) : s.modeDone.clk.gateWait = s.clk.gateWait := by
  by_cases h : s.clk.modePending = none ∨ s.get PWR_STATUS_CUR_MODE ≠ 3 ∨ s.clk.gateWait ≠ 0
  · rw [State.modeDone_waits h]
  · obtain ⟨hpend, hcur, hwait⟩ : s.clk.modePending ≠ none ∧ s.get PWR_STATUS_CUR_MODE = 3 ∧ s.clk.gateWait = 0 := by
      simpa [not_or] using h
    obtain ⟨m, hm⟩ := Option.ne_none_iff_exists'.1 hpend
    have hshown : ∀ (t : State) (v : Nat) (p : Option Nat), (t.modeShown v p).clk.gateWait = t.clk.gateWait := fun _ _ _ => rfl
    rw [State.modeDone_ends hm hcur hwait]
    split
    · exact (State.unready_gateWait _ _).trans (hshown s m none)
    · split
      · exact hshown s m none
      · exact (hshown _ _ _).trans (hshown s m none)

/-- The entry of Deep-sleep as it begins. -/
def State.enteringDeep (s : State) : State := (s.modeShown 3 (some 2)).gates

theorem State.enteringDeep_shows (s : State) : s.enteringDeep.get PWR_STATUS_CUR_MODE = 3 ∧ s.enteringDeep.clk.modePending = some 2 := by
  obtain ⟨hcur, -, hpend⟩ := (s.modeShown 3 (some 2)).gates_mode
  exact ⟨hcur.trans (s.get_modeShown _ (by decide)), hpend.trans rfl⟩

theorem execDeepSleepEntry_enters {s : State} (hp : s.pins.powered = true) (hready : s.deepReady = true) (hcur : s.get PWR_STATUS_CUR_MODE < 2) :
    ∃ t, exec .deepSleepEntry s = .next t ∧
      (t.clk.gateWait = 0 → t.get PWR_STATUS_CUR_MODE = 2 ∧ t.isSet CLK_READY_FIRC = false ∧ t.clk.modePending = none) ∧
      (t.clk.gateWait ≠ 0 → t.get PWR_STATUS_CUR_MODE = 3 ∧ t.clk.modePending = some 2) := by
  obtain ⟨hmode, hpend⟩ := s.enteringDeep_shows
  refine ⟨s.enteringDeep.modeDone, (show execDeepSleepEntry s = _ from State.on_powered _ hp).trans ?_, ?_, ?_⟩
  · rw [hready, decide_eq_true hcur]
    rfl
  · intro h
    obtain ⟨hdone, hnone, hfirc, -⟩ := State.modeDone_deep hpend hmode ((State.modeDone_gateWait _).symm.trans h)
    exact ⟨hdone, hfirc, hnone⟩
  · intro h
    rw [State.modeDone_waits (.inr (.inr fun hw => h ((State.modeDone_gateWait _).trans hw)))]
    exact ⟨hmode, hpend⟩

theorem execDeepSleepEntry_rests {s : State} (hp : s.pins.powered = true) (h : s.deepReady = false ∨ 2 ≤ s.get PWR_STATUS_CUR_MODE) :
    exec .deepSleepEntry s = .next s := by
  refine (show execDeepSleepEntry s = _ from State.on_powered _ hp).trans (if_neg ?_)
  rw [Bool.and_eq_true, decide_eq_true_eq]
  rintro ⟨hready, hcur⟩
  rcases h with h | h
  · exact Bool.false_ne_true (h.symm.trans hready)
  · omega

/-- An enabled source, the only one that has fired, ends Deep-sleep (R123, R124). -/
theorem State.wakeBy_deep {s : State} {b : Nat} (hb : b < 4) (hdeep : s.get PWR_STATUS_CUR_MODE = 2) (hnone : s.fired = 0)
    (hen : bitOf (s.rdN PWR_WAKE_EN) b = true) : s.wakeBy b = ((s.fireWake b).woken b).gates :=
  State.wake_deep ((s.get_fireWake b (.inl (show PWR_WAKE_SRC ≠ PWR_STATUS by decide))).trans hdeep) (State.find_fireWake hb hen hnone)

/-- What such an end shows. -/
theorem State.wakeBy_deep_shows {s : State} {b : Nat} (hb : b < 4) (hdeep : s.get PWR_STATUS_CUR_MODE = 2) (hnone : s.fired = 0)
    (hen : bitOf (s.rdN PWR_WAKE_EN) b = true) : (s.wakeBy b).get PWR_STATUS_CUR_MODE = s.get PWR_CTRL_MODE ∧
    (s.wakeBy b).get PWR_STATUS_LAST_WAKE = b ∧ (s.wakeBy b).isSet CLK_READY_FIRC = true ∧
    (s.wakeBy b).isSet CLK_READY_PLL_CTL = (s.isSet CLK_READY_XTAL_A || s.get CLK_SRC_SEL_PLL_REF == 1) ∧
    (s.wakeBy b).rdN PWR_WAKE_SRC = s.rdN PWR_WAKE_SRC ||| 2 ^ b ∧ (s.wakeBy b).rd PWR_WAKE_TIMER = s.rd PWR_WAKE_TIMER := by
  have hfire : ∀ g : Field, PWR_WAKE_SRC ≠ g.addr → (s.fireWake b).get g = s.get g := fun g h => s.get_fireWake b (.inl h)
  obtain ⟨hmode, hlast, hfirc, hctl, hsrc, htimer⟩ := (s.fireWake b).woken_gates_shows (b := b) (by omega)
  rw [State.wakeBy_deep hb hdeep hnone hen]
  refine ⟨hmode.trans (hfire _ (by decide)), hlast, hfirc, ?_, hsrc.trans (s.rdN_fireWake (by omega)), htimer.trans (s.rd_fireWake b (by decide))⟩
  rw [hctl, State.isSet_of_get (hfire CLK_READY_XTAL_A (by decide)), hfire CLK_SRC_SEL_PLL_REF (by decide)]

/-- A source that does not end Deep-sleep sets its bit alone. -/
theorem State.wakeBy_rests {s : State} {b : Nat} (hb : b < 5)
    (h : s.asleep = false ∨ ((b = 4 ∨ bitOf (s.rdN PWR_WAKE_EN) b = false) ∧ s.fired = 0)) : s.wakeBy b = s.fireWake b :=
  State.wake_rests (h.imp (fun ha => (s.fireWake_asleep b).trans ha) fun ⟨hoff, hnone⟩ => State.fired_fireWake_masked hb hoff hnone)

theorem bitOf_or_two_pow (n b : Nat) : bitOf (n ||| 2 ^ b) b = true := by
  rw [bitOf, Nat.testBit_or, Nat.testBit_two_pow_self, Bool.or_true]

theorem execWakeSourceFired_wakes {s : State} (hp : s.pins.powered = true) (b : Fin 5) (hb : b.val < 4) (hdeep : s.get PWR_STATUS_CUR_MODE = 2)
    (hnone : s.fired = 0) (hen : bitOf (s.rdN PWR_WAKE_EN) b.val = true) : ∃ t, exec (.wakeSourceFired b) s = .next t ∧
      bitOf (t.rdN PWR_WAKE_SRC) b.val = true ∧ t.get PWR_STATUS_CUR_MODE = s.get PWR_CTRL_MODE ∧ t.get PWR_STATUS_LAST_WAKE = b.val ∧
      t.isSet CLK_READY_FIRC = true ∧ t.isSet CLK_READY_PLL_CTL = (s.isSet CLK_READY_XTAL_A || s.get CLK_SRC_SEL_PLL_REF == 1) := by
  obtain ⟨hmode, hlast, hfirc, hctl, hsrc, -⟩ := State.wakeBy_deep_shows hb hdeep hnone hen
  refine ⟨s.wakeBy b, show execWakeSourceFired b s = _ from State.on_powered _ hp, ?_, hmode, hlast, hfirc, hctl⟩
  rw [hsrc]
  exact bitOf_or_two_pow _ _

theorem execWakeSourceFired_marks {s : State} (hp : s.pins.powered = true) (b : Fin 5)
    (h : s.asleep = false ∨ ((b.val = 4 ∨ bitOf (s.rdN PWR_WAKE_EN) b.val = false) ∧ s.fired = 0)) :
    ∃ t, exec (.wakeSourceFired b) s = .next t ∧ t.rdN PWR_WAKE_SRC = s.rdN PWR_WAKE_SRC ||| 2 ^ b.val ∧
      t.get PWR_STATUS_CUR_MODE = s.get PWR_STATUS_CUR_MODE ∧ t.get PWR_STATUS_LAST_WAKE = s.get PWR_STATUS_LAST_WAKE := by
  refine ⟨s.wakeBy b, show execWakeSourceFired b s = _ from State.on_powered _ hp, ?_⟩
  rw [State.wakeBy_rests b.isLt h]
  exact ⟨s.rdN_fireWake (by omega), s.get_fireWake _ (.inl (show PWR_WAKE_SRC ≠ PWR_STATUS by decide)),
    s.get_fireWake _ (.inl (show PWR_WAKE_SRC ≠ PWR_STATUS by decide))⟩

/-! ### The wake timer (R123) -/

/-- The wake timer at its end. -/
def State.timerOut (s : State) : State := s.wrN PWR_WAKE_TIMER 0

theorem State.get_timerOut (s : State) {g : Field} (h : g.addr ≠ PWR_WAKE_TIMER) : s.timerOut.get g = s.get g := s.get_wr_ne _ h

theorem State.timerOut_asleep (s : State) : s.timerOut.asleep = s.asleep := by
  unfold State.asleep
  rw [s.get_timerOut (show PWR_STATUS ≠ PWR_WAKE_TIMER by decide)]
  rfl

theorem State.timerOut_rdN (s : State) {a : Nat} (h : a ≠ PWR_WAKE_TIMER) : s.timerOut.rdN a = s.rdN a := s.rdN_wrN_ne 0 h

theorem State.timerOut_fired (s : State) : s.timerOut.fired = s.fired := by
  unfold State.fired
  rw [s.timerOut_rdN (by decide), s.timerOut_rdN (by decide)]

theorem State.timerOut_zero (s : State) : s.timerOut.rd PWR_WAKE_TIMER = 0 := s.rd_wr_same _ _

theorem execWakeTimerExpiry_fires {s : State} (hp : s.pins.powered = true) (h : s.rd PWR_WAKE_TIMER ≠ 0) :
    exec .wakeTimerExpiry s = .next (s.timerOut.wakeBy 3) :=
  (show execWakeTimerExpiry s = _ from State.on_powered _ hp).trans (if_neg h)

theorem execWakeTimerExpiry_marks {s : State} (hp : s.pins.powered = true) (h : s.rd PWR_WAKE_TIMER ≠ 0) (ha : s.asleep = false) :
    ∃ t, exec .wakeTimerExpiry s = .next t ∧ t.rd PWR_WAKE_TIMER = 0 ∧ t.isSet PWR_WAKE_SRC_TIMER = true ∧
      t.get PWR_STATUS_CUR_MODE = s.get PWR_STATUS_CUR_MODE := by
  refine ⟨_, execWakeTimerExpiry_fires hp h, ?_⟩
  rw [State.wakeBy_rests (by decide) (.inl (s.timerOut_asleep.trans ha))]
  exact ⟨(State.rd_fireWake _ _ (by decide)).trans s.timerOut_zero, State.isSet_fireWake _ (by decide),
    (State.get_fireWake _ _ (.inl (by decide))).trans (s.get_timerOut (by decide))⟩

theorem execWakeTimerExpiry_wakes {s : State} (hp : s.pins.powered = true) (h : s.rd PWR_WAKE_TIMER ≠ 0) (hdeep : s.get PWR_STATUS_CUR_MODE = 2)
    (hnone : s.fired = 0) (hen : bitOf (s.rdN PWR_WAKE_EN) 3 = true) : ∃ t, exec .wakeTimerExpiry s = .next t ∧ t.rd PWR_WAKE_TIMER = 0 ∧
      t.isSet PWR_WAKE_SRC_TIMER = true ∧ t.get PWR_STATUS_CUR_MODE = s.get PWR_CTRL_MODE ∧ t.get PWR_STATUS_LAST_WAKE = 3 := by
  have hen' : bitOf (s.timerOut.rdN PWR_WAKE_EN) 3 = true := by
    rw [s.timerOut_rdN (by decide)]
    exact hen
  obtain ⟨hmode, hlast, -, -, hsrc, htimer⟩ := State.wakeBy_deep_shows (s := s.timerOut) (b := 3) (by decide)
    ((s.get_timerOut (by decide)).trans hdeep) (s.timerOut_fired.trans hnone) hen'
  refine ⟨_, execWakeTimerExpiry_fires hp h, htimer.trans s.timerOut_zero, ?_, hmode.trans (s.get_timerOut (by decide)), hlast⟩
  refine (State.isSet_of_get ?_).trans (s.timerOut.isSet_fireWake (show 3 < 32 by decide))
  rw [PWR_WAKE_SRC_TIMER, State.get, State.get, BitVec.eq_of_toNat_eq (hsrc.trans (s.timerOut.rdN_fireWake (by decide)).symm)]

/-! ### Domain gates (R119 to R121) -/

theorem execDomainGateChange_ends {s : State} (hp : s.pins.powered = true) {m : Nat} (hm : s.clk.modePending = some m) (hlt : m < 2)
    (hcur : s.get PWR_STATUS_CUR_MODE = 3) (hwait : s.gates.clk.gateWait = 0) : ∃ t, exec .domainGateChange s = .next t ∧
      t.rdN CLK_GATE_EFF &&& 0x0FFF = s.gateWant &&& 0x0FFF ∧
      (m = s.get PWR_CTRL_MODE → t.get PWR_STATUS_CUR_MODE = m ∧ t.clk.modePending = none) ∧
      (m ≠ s.get PWR_CTRL_MODE → t.get PWR_STATUS_CUR_MODE = 3 ∧ t.clk.modePending = some (s.get PWR_CTRL_MODE)) := by
  obtain ⟨hgcur, hgmode, hgpend⟩ := s.gates_mode
  obtain ⟨heff, hsame, hnext⟩ := State.modeDone_awake (hgpend.trans hm) hlt (hgcur.trans hcur) hwait
  rw [hgmode] at hsame hnext
  exact ⟨_, show execDomainGateChange s = _ from State.on_powered _ hp, by rw [heff, s.gates_plain], hsame, hnext⟩

theorem execDomainGateChange_sleeps {s : State} (hp : s.pins.powered = true) (hm : s.clk.modePending = some 2)
    (hcur : s.get PWR_STATUS_CUR_MODE = 3) (hwait : s.gates.clk.gateWait = 0) : ∃ t, exec .domainGateChange s = .next t ∧
      t.rdN CLK_GATE_EFF &&& 0x0FFF = s.gateWant &&& 0x0FFF ∧ t.get PWR_STATUS_CUR_MODE = 2 ∧ t.clk.modePending = none ∧
      t.isSet CLK_READY_FIRC = false := by
  obtain ⟨hgcur, -, hgpend⟩ := s.gates_mode
  obtain ⟨hdone, hnone, hfirc, heff⟩ := State.modeDone_deep (hgpend.trans hm) (hgcur.trans hcur) hwait
  exact ⟨_, show execDomainGateChange s = _ from State.on_powered _ hp, by rw [heff, s.gates_plain], hdone, hnone, hfirc⟩

theorem execDomainGateChange_waits {s : State} (hp : s.pins.powered = true)
    (h : s.clk.modePending = none ∨ s.get PWR_STATUS_CUR_MODE ≠ 3 ∨ s.gates.clk.gateWait ≠ 0) : ∃ t, exec .domainGateChange s = .next t ∧
      t.rdN CLK_GATE_EFF &&& 0x0FFF = s.gateWant &&& 0x0FFF ∧ t.get PWR_STATUS_CUR_MODE = s.get PWR_STATUS_CUR_MODE ∧
      t.clk.modePending = s.clk.modePending := by
  obtain ⟨hgcur, -, hgpend⟩ := s.gates_mode
  refine ⟨s.gates.modeDone, show execDomainGateChange s = _ from State.on_powered _ hp, ?_⟩
  rw [State.modeDone_waits (by rw [hgcur, hgpend]; exact h)]
  exact ⟨s.gates_plain, hgcur, hgpend⟩

/-! ### Wake latches (R125, R127, R392) -/

/-- Whether Larkspur's cores keep the wake latch of a domain (R392). -/
def State.latchHeld (s : State) (x : Nat) : Prop :=
  12 ≤ x ∧ ((∃ c ∈ domainCores x, s.coreSt c.1 c.2 ≠ cRet ∨ s.idleFor c.1 c.2 = false) ∨ s.domainBusy x = true)

theorem State.latchHeld_iff (s : State) (x : Nat) :
    (12 ≤ x ∧ (!((domainCores x).all (fun c => s.coreSt c.1 c.2 == cRet && s.idleFor c.1 c.2) && !s.domainBusy x)) = true) ↔ s.latchHeld x := by
  simp [State.latchHeld, imp_iff_not_or]

theorem execLksWakeLatchClear_clears {s : State} (hp : s.pins.powered = true) {x : Fin 15} (h : ¬ s.latchHeld x) :
    exec (.lksWakeLatchClear x) s = .next { s with clk := { s.clk with wakeLatch := bitPut s.clk.wakeLatch x.val false } } :=
  (show execLksWakeLatchClear x s = _ from State.on_powered _ hp).trans (if_neg (mt (s.latchHeld_iff x).1 h))

theorem execLksWakeLatchClear_keeps {s : State} (hp : s.pins.powered = true) {x : Fin 15} (h : s.latchHeld x) :
    exec (.lksWakeLatchClear x) s = .next s :=
  (show execLksWakeLatchClear x s = _ from State.on_powered _ hp).trans (if_pos ((s.latchHeld_iff x).2 h))

theorem State.not_latchHeld {s : State} {x : Nat}
    (h : x < 12 ∨ ((∀ c ∈ domainCores x, s.coreSt c.1 c.2 = cRet ∧ s.idleFor c.1 c.2 = true) ∧ s.domainBusy x = false)) : ¬ s.latchHeld x := by
  rintro ⟨hx, hheld⟩
  rcases h with h | ⟨hrest, hbusy⟩
  · omega
  · rcases hheld with ⟨c, hc, hcore⟩ | hb
    · obtain ⟨hret, hidle⟩ := hrest c hc
      exact hcore.elim (absurd hret) fun hi => Bool.false_ne_true (hi.symm.trans hidle)
    · exact Bool.false_ne_true (hbusy.symm.trans hb)

/-! ### FCST_NAP (R239) -/

/-- How far the end of the quiet window is ahead. -/
def State.quietAhead (s : State) : Nat := s.rd64 FCST_QUIET_END_LO FCST_QUIET_END_HI - s.now

/-- Whether FCST_NAP may be set (R239). -/
def State.napFits (s : State) : Prop :=
  s.inService = true ∧ s.isSet FCST_STATUS_QUIET = true ∧ (∀ a ∈ s.fcst.lastAccept, a + 10 * tickMs ≤ s.elapsed) ∧
    s.get FCST_HOLD_CFG_NAP_MIN * 10 * tickMs ≤ s.quietAhead

/-- No target was accepted for 10 ms. -/
theorem State.napCalm_iff (s : State) : (match s.fcst.lastAccept with
    | some t => decide (t + 10 * tickMs ≤ s.elapsed)
    | none => true) = true ↔ ∀ a ∈ s.fcst.lastAccept, a + 10 * tickMs ≤ s.elapsed := by
  cases s.fcst.lastAccept <;> simp

theorem execFcstNapChange_sets {s : State} (hp : s.pins.powered = true) (h : s.napFits) : ∃ t, exec (.fcstNapChange true) s = .next t ∧
    t.isSet PWR_CTRL_FCST_NAP = true := by
  obtain ⟨hsvc, hquiet, hcalm, hahead⟩ := h
  refine ⟨s.set PWR_CTRL_FCST_NAP 1, (show execFcstNapChange true s = _ from State.on_powered _ hp).trans ((if_pos rfl).trans (if_pos ?_)),
    s.isSet_set_one _ (by decide) (by decide)⟩
  simp only [Bool.and_eq_true, decide_eq_true_eq]
  exact ⟨⟨⟨hsvc, hquiet⟩, s.napCalm_iff.2 hcalm⟩, hahead⟩

theorem execFcstNapChange_refuses {s : State} (hp : s.pins.powered = true) (h : ¬ s.napFits) : exec (.fcstNapChange true) s = .next s := by
  refine (show execFcstNapChange true s = _ from State.on_powered _ hp).trans ((if_pos rfl).trans (if_neg fun hc => h ?_))
  simp only [Bool.and_eq_true, decide_eq_true_eq] at hc
  obtain ⟨⟨⟨hsvc, hquiet⟩, hcalm⟩, hahead⟩ := hc
  exact ⟨hsvc, hquiet, s.napCalm_iff.1 hcalm, hahead⟩

theorem State.not_napFits {s : State} (h : s.inService = false ∨ s.isSet FCST_STATUS_QUIET = false ∨
    (∃ a ∈ s.fcst.lastAccept, s.elapsed < a + 10 * tickMs) ∨ s.quietAhead < s.get FCST_HOLD_CFG_NAP_MIN * 10 * tickMs) : ¬ s.napFits := by
  rintro ⟨hsvc, hquiet, hcalm, hahead⟩
  rcases h with h | h | ⟨a, ha, hlt⟩ | h
  · exact Bool.false_ne_true (h.symm.trans hsvc)
  · exact Bool.false_ne_true (h.symm.trans hquiet)
  · exact absurd (hcalm a ha) (Nat.not_le.2 hlt)
  · exact absurd hahead (Nat.not_le.2 h)

theorem execFcstNapChange_clears {s : State} (hp : s.pins.powered = true) (h : s.isSet FCST_STATUS_QUIET = false ∨ s.quietAhead ≤ 5 * tickMs) :
    ∃ t, exec (.fcstNapChange false) s = .next t ∧ t.isSet PWR_CTRL_FCST_NAP = false := by
  refine ⟨s.clear PWR_CTRL_FCST_NAP, (show execFcstNapChange false s = _ from State.on_powered _ hp).trans
    ((if_neg Bool.false_ne_true).trans (if_neg ?_)), s.isSet_set_zero _ (by decide)⟩
  simp only [Bool.and_eq_true, decide_eq_true_eq]
  rintro ⟨hquiet, hahead⟩
  exact h.elim (fun h => Bool.false_ne_true (h.symm.trans hquiet)) fun h => absurd hahead (Nat.not_lt.2 h)

theorem execFcstNapChange_keeps {s : State} (hp : s.pins.powered = true) (hquiet : s.isSet FCST_STATUS_QUIET = true)
    (hahead : 5 * tickMs < s.quietAhead) : exec (.fcstNapChange false) s = .next s :=
  (show execFcstNapChange false s = _ from State.on_powered _ hp).trans ((if_neg Bool.false_ne_true).trans (if_pos (by
    simp only [Bool.and_eq_true, decide_eq_true_eq]
    exact ⟨hquiet, hahead⟩)))

/-- Settles O33: each command of the measurement counter, of the modes and of the wake sources by the lemma of its case. -/
theorem measurementAndPowerModes : Obligations.MeasurementAndPowerModes := by
  unfold Obligations.MeasurementAndPowerModes
  intro s hp
  refine ⟨fun dut ref hd hr hgate hready => execFmeasStart_starts hp dut ref ?_, fun dut ref => execFmeasStart_fails hp dut ref,
    execFmeasDone_counts hp, execFmeasDone_rests hp, execPowerModeSelect_begins hp, execPowerModeSelect_waits hp,
    execDeepSleepEntry_enters hp, execDeepSleepEntry_rests hp, execWakeSourceFired_wakes hp, execWakeSourceFired_marks hp,
    execWakeTimerExpiry_marks hp, execWakeTimerExpiry_wakes hp, fun h => ?_, fun m => execDomainGateChange_ends hp,
    execDomainGateChange_sleeps hp, execDomainGateChange_waits hp, fun m => ?_, fun x h => execLksWakeLatchClear_clears hp (State.not_latchHeld h),
    fun x h h' => execLksWakeLatchClear_keeps hp ⟨h, h'⟩, fun h h' h'' h''' => execFcstNapChange_sets hp ⟨h, h', h'', h'''⟩,
    fun h => execFcstNapChange_refuses hp (State.not_napFits h), execFcstNapChange_clears hp, execFcstNapChange_keeps hp⟩
  · rintro (h | h | h | h)
    · omega
    · omega
    · exact hgate h
    · exact Bool.false_ne_true (h.symm.trans hready)
  · exact (show execWakeTimerExpiry s = _ from State.on_powered _ hp).trans (if_pos h)
  · exact show execBar2WakeLatchExpiry m s = _ from State.on_powered _ hp

end Sys2Proof.Machine


namespace Sys2Proof.Machine

/-! ### What a record leaves (R450) -/

/-- A register that no path of a record writes. -/
abbrev PathFree (a : Nat) : Prop := a ≠ SBG_STATUS ∧ a ≠ SBG_LOST ∧ (a < 0x600100 ∨ 0x600200 ≤ a)

theorem rd_ite_of {c : Prop} [Decidable c] {s t : State} {a : Nat} {w : Word} (hs : s.rd a = w) (ht : t.rd a = w) :
    (if c then s else t).rd a = w := by
  split <;> assumption

theorem State.showLevel_rd (s : State) {i a : Nat} (hi : i < 5) (h : PathFree a) : (s.showLevel i).rd a = s.rd a := by
  obtain ⟨hstatus, -, hring⟩ := h
  have hr : a ≠ TEL_R_STATUS (i - 1) := by
    unfold TEL_R_STATUS
    omega
  exact rd_ite_of (s.rd_set_ne SBG_STATUS_LEVEL _ hstatus)
    ((State.rd_set_ne _ (TEL_R_STATUS_HELD (i - 1)) _ hr).trans (s.rd_set_ne (TEL_R_STATUS_LEVEL (i - 1)) _ hr))

theorem State.lose_rd (s : State) {i a : Nat} (cause prio : Nat) (b : Bool) (hi : i < 5) (h : PathFree a) :
    (s.lose i cause prio b).rd a = s.rd a := by
  obtain ⟨-, hlost, hring⟩ := h
  have hr : a ≠ TEL_R_LOST (i - 1) := by
    unfold TEL_R_LOST
    omega
  exact rd_ite_of (State.rd_wr_ne _ _ hlost) (State.rd_wr_ne _ _ hr)

theorem State.toPath_rd (s : State) {i a : Nat} (r : Rec) (hi : i < 5) (h : PathFree a) : (s.toPath i r).rd a = s.rd a := by
  have hlevel : ∀ {t : State}, t.rd a = s.rd a → (t.showLevel i).rd a = s.rd a := fun ht => (State.showLevel_rd _ hi h).trans ht
  have hlose : ∀ {t : State} (cause prio : Nat) (b : Bool), t.rd a = s.rd a → (t.lose i cause prio b).rd a = s.rd a :=
    fun cause prio b ht => (State.lose_rd _ cause prio b hi h).trans ht
  unfold State.toPath
  refine rd_ite_of rfl (rd_ite_of ((State.showLevel_rd _ (by decide) h).trans (State.lose_rd s _ _ _ (by decide) h)) ?_)
  split
  · exact hlevel (rd_ite_of (hlose _ _ _ rfl) rfl)
  · refine hlevel (rd_ite_of rfl (rd_ite_of (rd_ite_of rfl (hlose _ _ _ rfl)) (rd_ite_of ?_ (rd_ite_of rfl (hlose _ _ _ rfl)))))
    exact rd_ite_of rfl (rd_ite_of (rd_ite_of rfl (hlose _ _ _ rfl)) (hlose _ _ _ rfl))

theorem State.toPaths_rd (s : State) (r : Rec) {a : Nat} (h : PathFree a) : (forN 5 (fun i t => t.toPath i r) s).rd a = s.rd a := by
  have hstep : ∀ (l : List Nat), (∀ i ∈ l, i < 5) → ∀ t : State, (forL l (fun i u => u.toPath i r) t).rd a = t.rd a := by
    intro l
    induction l with
    | nil => exact fun _ _ => rfl
    | cons i l ih =>
      intro hl t
      exact (ih (fun j hj => hl j (List.mem_cons_of_mem i hj)) _).trans (t.toPath_rd r (hl i List.mem_cons_self) h)
  exact hstep (List.range 5) (fun i hi => List.mem_range.1 hi) s

/-- A record that opens no incident takes the next SEQ, and leaves every other register beside those of its paths. -/
theorem State.rd_record_paths (s : State) (kind prio domain code key cls : Nat) (body : List Byte) {a : Nat} (h : PathFree a) :
    (s.record kind prio domain code key cls false body).rd a = (s.wrapReg SBG_SEQ).rd a := by
  have hwake : ∀ t : State, t.showWakeN.rd a = t.rd a := fun _ => rfl
  unfold State.record
  rw [if_neg Bool.false_ne_true]
  dsimp only
  rw [hwake, State.toPaths_rd _ _ h]

/-- Beside SBG_SEQ, too. -/
theorem State.rd_record (s : State) (kind prio domain code key cls : Nat) (body : List Byte) {a : Nat} (h : PathFree a) (hseq : a ≠ SBG_SEQ) :
    (s.record kind prio domain code key cls false body).rd a = s.rd a :=
  (s.rd_record_paths _ _ _ _ _ _ _ h).trans (s.rd_wr_ne _ hseq)

/-- A record takes the next SEQ (R439). -/
theorem State.rd_record_seq (s : State) (kind prio domain code key cls : Nat) (body : List Byte) :
    (s.record kind prio domain code key cls false body).rd SBG_SEQ = s.rd SBG_SEQ + 1 := by
  refine (s.rd_record_paths _ _ _ _ _ _ _ (by decide)).trans ((s.rd_wr_same SBG_SEQ _).trans (BitVec.eq_of_toNat_eq ?_))
  rw [BitVec.toNat_ofNat, State.rdN, BitVec.toNat_add]
  rfl

theorem State.get_record (s : State) (kind prio domain code key cls : Nat) (body : List Byte) {g : Field} (h : PathFree g.addr) (hseq : g.addr ≠ SBG_SEQ) :
    (s.record kind prio domain code key cls false body).get g = s.get g :=
  congrArg (fieldGet · g.lo g.w) (s.rd_record kind prio domain code key cls body h hseq)

/-! ### A note of Larkspur's (R371, R437) -/

/-- A note leaves every register of Larkspur's. -/
theorem State.get_lksNote (s : State) (m t : Int) (idx : Nat) {g : Field} (h : 0x1000000 ≤ g.addr) : (s.lksNote m t idx).get g = s.get g := by
  unfold State.lksNote
  exact s.get_record _ _ _ _ _ _ _ (by unfold PathFree SBG_STATUS SBG_LOST; omega) (by unfold SBG_SEQ; omega)

theorem State.lksNote_seq (s : State) (m t : Int) (idx : Nat) : (s.lksNote m t idx).rd SBG_SEQ = s.rd SBG_SEQ + 1 := by
  unfold State.lksNote
  exact s.rd_record_seq _ _ _ _ _ _ _

theorem State.lksNote_apart {p : Parts} (s : State) (m t : Int) (idx : Nat) : (s.lksNote m t idx).apart p = s.apart p := by
  unfold State.lksNote
  exact State.record_apart _ _ _ _ _ _ _ _ _

theorem lks_of_apart {s t : State} (h : t.apart {} = s.apart {}) : t.lks = s.lks := same_of_apart h State.lks

theorem mem_of_apart {s t : State} (h : t.apart {} = s.apart {}) : t.mem = s.mem := same_of_apart h State.mem

theorem State.lksNote_lks (s : State) (m t : Int) (idx : Nat) : (s.lksNote m t idx).lks = s.lks := lks_of_apart (s.lksNote_apart m t idx)

theorem State.lksNote_mem (s : State) (m t : Int) (idx : Nat) : (s.lksNote m t idx).mem = s.mem := mem_of_apart (s.lksNote_apart m t idx)

/-- A write of the host's to what is Tack firmware's is recorded and changes nothing of Larkspur's (R367). -/
theorem State.tackOwned_notes (s : State) (a v : Nat) (g : Field) (h : 0x1000000 ≤ g.addr) : (s.tackOwned a v).rd SBG_SEQ = s.rd SBG_SEQ + 1 ∧
    (s.tackOwned a v).lks = s.lks ∧ (s.tackOwned a v).mem = s.mem ∧ (s.tackOwned a v).get g = s.get g :=
  ⟨s.lksNote_seq _ _ _, s.lksNote_lks _ _ _, s.lksNote_mem _ _ _, s.get_lksNote _ _ _ h⟩

/-! ### Undefined content (R366, R368) -/

/-- An address lies in a range of undefined content. -/
def Undef.holds (x : Nat) (u : Undef) : Bool := decide (u.1 ≤ x) && decide (x < u.1 + u.2.1)

theorem Undef.holds_iff (x : Nat) (u : Undef) : Undef.holds x u = true ↔ u.1 ≤ x ∧ x < u.1 + u.2.1 := by
  simp [Undef.holds]

/-- A cut leaves what lies outside it. -/
theorem Undef.cut_holds (u : Undef) (a n x : Nat) : (∃ v ∈ u.cut a n, Undef.holds x v = true) ↔ Undef.holds x u = true ∧ ¬ (a ≤ x ∧ x < a + n) := by
  obtain ⟨b, l, e, p⟩ := u
  have hleft : (∃ v ∈ (if b < a then [((b, min l (a - b), e, p) : Undef)] else []), Undef.holds x v = true) ↔ b ≤ x ∧ x < b + l ∧ x < a := by
    split
    · simp only [List.mem_singleton, exists_eq_left, Undef.holds_iff]
      omega
    · simp only [List.not_mem_nil, false_and, exists_false, false_iff]
      omega
  have hright : (∃ v ∈ (if a + n < b + l then [((max b (a + n), b + l - max b (a + n), e, p + (max b (a + n) - b)) : Undef)] else []),
      Undef.holds x v = true) ↔ b ≤ x ∧ x < b + l ∧ a + n ≤ x := by
    split
    · simp only [List.mem_singleton, exists_eq_left, Undef.holds_iff]
      omega
    · simp only [List.not_mem_nil, false_and, exists_false, false_iff]
      omega
  unfold Undef.cut
  simp only [List.mem_append, or_and_right, exists_or]
  rw [hleft, hright, Undef.holds_iff]
  dsimp only
  omega

/-- What of the undefined content a content for n bytes from a on leaves. -/
theorem cutUndef_holds (l : List Undef) (a n x : Nat) :
    (∃ v ∈ cutUndef l a n, Undef.holds x v = true) ↔ (∃ u ∈ l, Undef.holds x u = true) ∧ ¬ (a ≤ x ∧ x < a + n) := by
  have hone : ∀ u : Undef, (∃ v ∈ (if n = 0 ∨ u.1 + u.2.1 ≤ a ∨ a + n ≤ u.1 then [u] else u.cut a n), Undef.holds x v = true) ↔
      Undef.holds x u = true ∧ ¬ (a ≤ x ∧ x < a + n) := by
    intro u
    split
    · simp only [List.mem_singleton, exists_eq_left, Undef.holds_iff]
      omega
    · exact u.cut_holds a n x
  unfold cutUndef
  simp only [List.mem_flatten, List.mem_map]
  constructor
  · rintro ⟨v, ⟨_, ⟨u, hu, rfl⟩, hv⟩, hx⟩
    obtain ⟨hux, hout⟩ := (hone u).1 ⟨v, hv, hx⟩
    exact ⟨⟨u, hu, hux⟩, hout⟩
  · rintro ⟨⟨u, hu, hux⟩, hout⟩
    obtain ⟨v, hv, hx⟩ := (hone u).2 ⟨hux, hout⟩
    exact ⟨v, ⟨_, ⟨u, hu, rfl⟩, hv⟩, hx⟩

/-- The content of an address is undefined. -/
def State.undefAt (s : State) (x : Nat) : Prop := ∃ u ∈ s.lks.undef, Undef.holds x u = true

theorem State.undefAt_memLose (s : State) (a n x : Nat) : (s.memLose a n).undefAt x ↔ s.undefAt x ∨ (a ≤ x ∧ x < a + n) := by
  have hsplit : (s.memLose a n).undefAt x ↔ (∃ v ∈ cutUndef s.lks.undef a n, Undef.holds x v = true) ∨ Undef.holds x (a, n, s.free, 0) = true := by
    unfold State.undefAt State.memLose
    simp only [List.mem_append, or_and_right, exists_or, List.mem_singleton, exists_eq_left]
  rw [hsplit, cutUndef_holds, Undef.holds_iff, State.undefAt]
  by_cases h : a ≤ x ∧ x < a + n <;> simp [h]

/-- Each range that becomes undefined is so at the end. -/
theorem State.undefAt_losses (s : State) (l : List Nat) (base size x : Nat)
    (h : s.undefAt x ∨ ∃ k ∈ l, base + size * k ≤ x ∧ x < base + size * k + size) :
    (forL l (fun k u => u.memLose (base + size * k) size) s).undefAt x := by
  induction l generalizing s with
  | nil => exact h.resolve_right (by simp)
  | cons k l ih =>
    refine ih _ ?_
    rw [State.undefAt_memLose]
    rcases h with h | ⟨j, hj, hx⟩
    · exact .inl (.inl h)
    · rcases List.mem_cons.1 hj with rfl | hj
      · exact .inl (.inr hx)
      · exact .inr ⟨j, hj, hx⟩

/-- The bytes stored are the bytes read. -/
theorem State.memBytes_memPut (s : State) (a : Nat) (l : List Byte) : (s.memPut a l).memBytes a l.length = l := by
  have hbyte : ∀ i (hi : i < l.length), (s.memPut a l).memByte (a + i) = l[i] := by
    intro i hi
    have hnone : (s.memPut a l).lks.undef.find? (fun u => decide (u.1 ≤ a + i) && decide (a + i < u.1 + u.2.1)) = none := by
      rw [List.find?_eq_none]
      intro u hu hx
      obtain ⟨-, hout⟩ := (cutUndef_holds s.lks.undef a l.length (a + i)).1 ⟨u, hu, hx⟩
      omega
    unfold State.memByte
    rw [hnone]
    exact sparseRead_writeBytes_at s.mem a l i hi
  refine List.ext_getElem (by simp [State.memBytes]) fun i h h' => ?_
  simp only [State.memBytes, List.getElem_map, List.getElem_range]
  exact hbyte i h'

end Sys2Proof.Machine


namespace Sys2Proof.Machine

/-! ### A channel's status (R378) -/

theorem State.get_tierShow (s : State) (d ch st cause : Nat) (g : Field) :
    (s.tierShow d ch st cause).get g = ((s.set (LKS_TIER_STATUS_STATE d ch) st).set (LKS_TIER_STATUS_CAUSE d ch) cause).get g := by
  unfold State.tierShow
  dsimp only
  split
  · rw [State.msix_get]
  · rfl

theorem State.tierShow_shows (s : State) (d ch : Nat) {st cause : Nat} (hst : st < 16) (hcause : cause < 16) :
    (s.tierShow d ch st cause).get (LKS_TIER_STATUS_STATE d ch) = st ∧ (s.tierShow d ch st cause).get (LKS_TIER_STATUS_CAUSE d ch) = cause := by
  rw [State.get_tierShow, State.get_tierShow]
  refine ⟨(State.get_set_apart _ (LKS_TIER_STATUS_CAUSE d ch) (LKS_TIER_STATUS_STATE d ch) _ (.inr (.inl (show 24 + 4 ≤ 28 by decide)))).trans ?_, ?_⟩
  · exact (s.get_set_same (LKS_TIER_STATUS_STATE d ch) st (Nat.le_refl 32)).trans (Nat.mod_eq_of_lt hst)
  · exact (State.get_set_same _ (LKS_TIER_STATUS_CAUSE d ch) cause (show 28 ≤ 32 by decide)).trans (Nat.mod_eq_of_lt hcause)

/-- STATE and CAUSE stand above DONE_4K, in a register of their own. -/
theorem State.get_tierShow_apart (s : State) (d ch st cause : Nat) {g : Field} (h : LKS_TIER_STATUS d ch ≠ g.addr ∨ g.lo + g.w ≤ 24) :
    (s.tierShow d ch st cause).get g = s.get g := by
  rw [State.get_tierShow]
  refine (State.get_set_apart _ (LKS_TIER_STATUS_CAUSE d ch) g _ ?_).trans (s.get_set_apart (LKS_TIER_STATUS_STATE d ch) g _ ?_)
  · exact h.imp id fun h => .inr h
  · exact h.imp id fun h => .inr (show g.lo + g.w ≤ 28 by omega)

theorem State.tierShow_lks (s : State) (d ch st cause : Nat) : (s.tierShow d ch st cause).lks = s.lks := by
  unfold State.tierShow
  dsimp only
  split
  · rw [State.msix_lks]
    rfl
  · rfl

theorem State.tierShow_mem (s : State) (d ch st cause : Nat) : (s.tierShow d ch st cause).mem = s.mem := by
  unfold State.tierShow
  dsimp only
  split
  · rw [State.msix_mem]
    rfl
  · rfl

theorem tierStatus_ne_ctrl (d ch : Nat) : LKS_TIER_STATUS d ch ≠ LKS_TIER_CTRL d ch := by
  unfold LKS_TIER_STATUS LKS_TIER_CTRL
  omega

/-- DONE_4K stands below STATE and CAUSE. -/
theorem tierDone_low (d ch : Nat) : (LKS_TIER_STATUS_DONE_4K d ch).lo + (LKS_TIER_STATUS_DONE_4K d ch).w ≤ 24 := show 23 ≤ 24 by decide

theorem State.set_tier (s : State) (f : Field) (v d ch : Nat) : (s.set f v).tier d ch = s.tier d ch := rfl

theorem State.tier_setTier (s : State) {d ch : Fin 2} (t : LTier) (h : s.lks.tiers.length = 4) : (s.setTier d ch t).tier d ch = t := by
  have hlt : 2 * d.val + ch.val < s.lks.tiers.length := by omega
  unfold State.tier State.setTier
  rw [List.getD_eq_getElem _ _ (by rw [List.length_set]; exact hlt), List.getElem_set_self]

theorem tier_of_tiers {s t : State} (h : t.lks.tiers = s.lks.tiers) (d ch : Nat) : t.tier d ch = s.tier d ch := congrArg (List.getD · _ _) h

/-! ### The memory's domain wakes (R125) -/

/-- The state with other wake latches. -/
def State.latchesOf (s : State) (w : Nat) : State := { s with clk := { s.clk with wakeLatch := w } }

theorem State.wakeMem_latches (s : State) (m : LMem) : ∃ w, s.wakeMem m = s.latchesOf w := by
  unfold State.wakeMem
  split
  · split
    · exact ⟨_, rfl⟩
    · exact ⟨_, rfl⟩
  · exact ⟨_, rfl⟩

/-- The domain of a memory in self-refresh has its wake latch. -/
theorem State.wakeMem_latched (s : State) (m : LMem) : ∀ k ∈ memDomain m, bitOf s.clk.selfRefresh k = true →
    bitOf (domainMask s.otp.variant) k = true → bitOf (s.wakeMem m).clk.wakeLatch k = true := by
  intro k hk hsr hmask
  unfold State.wakeMem
  rw [Option.mem_def.1 hk]
  dsimp only
  rw [if_pos hsr]
  unfold bitOf at hmask ⊢
  show ((s.clk.wakeLatch ||| 2 ^ k) &&& domainMask s.otp.variant).testBit k = true
  rw [Nat.testBit_and, Nat.testBit_or, Nat.testBit_two_pow_self, hmask, Bool.or_true, Bool.and_true]

/-- The memory that holds an address, if any, wakes. -/
def State.wakeAt (s : State) (a : Nat) : State := match s.memOf a with | some m => s.wakeMem m | none => s

theorem State.wakeAt_latches (s : State) (a : Nat) : ∃ w, s.wakeAt a = s.latchesOf w := by
  unfold State.wakeAt
  split
  · exact s.wakeMem_latches _
  · exact ⟨_, rfl⟩

/-! ### START (R367) -/

/-- The descriptor of a channel, as the copy that it describes. -/
def State.tierDesc (s : State) (d ch : Nat) : LTier where
  active := true
  src := s.rd64 (LKS_TIER_SRC_LO d ch) (LKS_TIER_SRC_HI d ch)
  dst := s.rd64 (LKS_TIER_DST_LO d ch) (LKS_TIER_DST_HI d ch)
  len := 4096 * s.get (LKS_TIER_LEN_LEN d ch)

/-- The cause for which a descriptor is refused. -/
def State.tierVerdict (s : State) (d ch : Nat) : Option (Nat × Option (Nat × Nat)) :=
  (s.clear (LKS_TIER_CTRL_START d ch)).tierCause d ch (s.tierDesc d ch).src (s.tierDesc d ch).dst (s.tierDesc d ch).len

/-- The state that takes a descriptor. -/
def State.tierTaken (s : State) (d ch : Nat) : State :=
  ((((s.clear (LKS_TIER_CTRL_START d ch)).wakeAt (s.tierDesc d ch).src).wakeAt (s.tierDesc d ch).dst).setTier d ch (s.tierDesc d ch)).set
    (LKS_TIER_STATUS_DONE_4K d ch) 0

theorem State.tierStart_takes {s : State} {d ch : Nat} (h : s.tierVerdict d ch = none) : s.tierStart d ch = (s.tierTaken d ch).tierShow d ch 1 0 := by
  unfold State.tierStart
  dsimp only
  split
  next c hit hc => exact absurd (hc.symm.trans h) (by simp)
  · rfl

/-- What a descriptor taken leaves, but for the channel's copy and DONE_4K. -/
theorem State.tierTaken_latches (s : State) (d ch : Nat) : ∃ w, s.tierTaken d ch =
    (((s.clear (LKS_TIER_CTRL_START d ch)).latchesOf w).setTier d ch (s.tierDesc d ch)).set (LKS_TIER_STATUS_DONE_4K d ch) 0 := by
  obtain ⟨v, hv⟩ := (s.clear (LKS_TIER_CTRL_START d ch)).wakeAt_latches (s.tierDesc d ch).src
  obtain ⟨w, hw⟩ := ((s.clear (LKS_TIER_CTRL_START d ch)).latchesOf v).wakeAt_latches (s.tierDesc d ch).dst
  refine ⟨w, ?_⟩
  unfold State.tierTaken
  rw [hv, hw]
  rfl

/-- A fence that meets the range has recorded it. -/
def State.tierFence (s : State) (d ch : Nat) (hit : Option (Nat × Nat)) : State :=
  match hit with
  | some (k, a) => s.fenceHit (.tier d ch) k a
  | none => s

theorem State.tierStart_refuses {s : State} {d ch c : Nat} {hit : Option (Nat × Nat)} (h : s.tierVerdict d ch = some (c, hit)) :
    s.tierStart d ch = ((s.clear (LKS_TIER_CTRL_START d ch)).tierFence d ch hit).tierShow d ch 6 c := by
  unfold State.tierStart
  dsimp only
  split
  next k j hc =>
    obtain ⟨rfl, rfl⟩ : c = k ∧ hit = j := by simpa using h.symm.trans hc
    rfl
  next hn => exact absurd (h.symm.trans hn) (by simp)

theorem State.fenceHit_apart (s : State) (r : LReq) (k a : Nat) : (s.fenceHit r k a).apart {} = s.apart {} := by
  unfold State.fenceHit State.wrN
  dsimp only
  rw [State.lksNote_apart, State.raiseBit_apart, State.bumpSat_apart, apart_ite, State.wr_apart, State.wr_apart, State.set_apart, State.set_apart,
    State.raiseBit_apart, ite_self]

theorem State.tierFence_leaves (s : State) (d ch : Nat) (hit : Option (Nat × Nat)) :
    (s.tierFence d ch hit).lks = s.lks ∧ (s.tierFence d ch hit).mem = s.mem := by
  unfold State.tierFence
  split
  · exact ⟨lks_of_apart (s.fenceHit_apart _ _ _), mem_of_apart (s.fenceHit_apart _ _ _)⟩
  · exact ⟨rfl, rfl⟩

/-- The causes are those of R378. -/
theorem State.tierCause_lt {s : State} {d ch src dst n c : Nat} {hit : Option (Nat × Nat)} (h : s.tierCause d ch src dst n = some (c, hit)) : c < 16 := by
  suffices hall : ∀ x ∈ s.tierCause d ch src dst n, x.1 < 16 from hall _ h
  unfold State.tierCause
  dsimp only
  repeat' split
  all_goals simp

theorem execTierStart_owner {s : State} (hp : s.pins.powered = true) {d ch : Fin 2} {tk : Bool} (hd : s.dieOk d = true) (how : tk = true ↔ ch.val = 0) :
    exec (.tierStart d ch tk) s = .next (s.tierStart d ch) := by
  refine (show execTierStart d ch tk s = _ from State.on_powered _ hp).trans ?_
  have hother : (tk && ch.val == 1) = false ∧ (ch.val == 0 && !tk) = false := by
    cases tk <;> simp_all
  rw [hd, hother.1, hother.2]
  rfl

theorem execTierAbort_owner {s : State} (hp : s.pins.powered = true) {d ch : Fin 2} {tk : Bool} (hd : s.dieOk d = true) (how : tk = true ↔ ch.val = 0) :
    exec (.tierAbort d ch tk) s = .next (s.tierAbort d ch) := by
  refine (show execTierAbort d ch tk s = _ from State.on_powered _ hp).trans ?_
  have hother : (tk && ch.val == 1) = false ∧ (ch.val == 0 && !tk) = false := by
    cases tk <;> simp_all
  rw [hd, hother.1, hother.2]
  rfl

theorem execTierStart_takes {s : State} (hp : s.pins.powered = true) {d ch : Fin 2} {tk : Bool} (hd : s.dieOk d = true)
    (hlen : s.lks.tiers.length = 4) (how : tk = true ↔ ch.val = 0) (h : s.tierVerdict d ch = none) :
    ∃ t, exec (.tierStart d ch tk) s = .next t ∧ t.tier d ch = s.tierDesc d ch ∧ t.get (LKS_TIER_STATUS_STATE d ch) = 1 ∧
      t.get (LKS_TIER_STATUS_DONE_4K d ch) = 0 ∧ t.isSet (LKS_TIER_CTRL_START d ch) = false ∧ t.mem = s.mem := by
  obtain ⟨w, hw⟩ := s.tierTaken_latches d ch
  refine ⟨_, execTierStart_owner hp hd how, ?_⟩
  rw [State.tierStart_takes h]
  refine ⟨?_, (State.tierShow_shows _ d ch (by decide) (by decide)).1, ?_, ?_, ?_⟩
  · rw [tier_of_tiers (congrArg Lks.tiers (State.tierShow_lks _ _ _ _ _)), hw, State.set_tier]
    exact State.tier_setTier ((s.clear (LKS_TIER_CTRL_START d ch)).latchesOf w) _ hlen
  · rw [State.get_tierShow_apart _ _ _ _ _ (.inr (tierDone_low d ch)), hw]
    exact (State.get_set_same _ (LKS_TIER_STATUS_DONE_4K d ch) 0 (show 23 ≤ 32 by decide)).trans (Nat.zero_mod _)
  · rw [State.isSet_of_get (State.get_tierShow_apart _ d ch _ _ (g := LKS_TIER_CTRL_START d ch) (.inl (tierStatus_ne_ctrl d ch))), hw,
      State.isSet_of_get (State.get_set_apart _ (LKS_TIER_STATUS_DONE_4K d ch) (LKS_TIER_CTRL_START d ch) _ (.inl (tierStatus_ne_ctrl d ch)))]
    exact s.isSet_set_zero (LKS_TIER_CTRL_START d ch) (show 1 ≤ 32 by decide)
  · rw [State.tierShow_mem, hw]
    rfl

theorem execTierStart_refuses {s : State} (hp : s.pins.powered = true) {d ch : Fin 2} {tk : Bool} {c : Nat} (hd : s.dieOk d = true)
    (how : tk = true ↔ ch.val = 0) (h : (s.tierVerdict d ch).map Prod.fst = some c) :
    ∃ t, exec (.tierStart d ch tk) s = .next t ∧ t.get (LKS_TIER_STATUS_STATE d ch) = 6 ∧ t.get (LKS_TIER_STATUS_CAUSE d ch) = c ∧
      t.mem = s.mem ∧ t.lks.tiers = s.lks.tiers := by
  obtain ⟨⟨k, hit⟩, hcause, rfl⟩ := Option.map_eq_some_iff.1 h
  obtain ⟨hlks, hmem⟩ := (s.clear (LKS_TIER_CTRL_START d ch)).tierFence_leaves d ch hit
  refine ⟨_, execTierStart_owner hp hd how, ?_⟩
  rw [State.tierStart_refuses hcause]
  obtain ⟨hstate, hcode⟩ := ((s.clear (LKS_TIER_CTRL_START d ch)).tierFence d ch hit).tierShow_shows d ch (st := 6) (by decide)
    (State.tierCause_lt hcause)
  refine ⟨hstate, hcode, ?_, ?_⟩
  · rw [State.tierShow_mem, hmem]
    rfl
  · rw [State.tierShow_lks, hlks]
    rfl

/-! ### What is not the owner's, and a die that is absent (R367) -/

theorem tierStatus_far (d : Nat) : 0x1000000 ≤ (LKS_TIER_STATUS_STATE d 0).addr := by
  show 0x1000000 ≤ LKS_TIER_STATUS d 0
  unfold LKS_TIER_STATUS
  omega

theorem execTierStart_notes {s : State} (hp : s.pins.powered = true) (d : Fin 2) (hd : s.dieOk d = true) :
    ∃ t, exec (.tierStart d 0 false) s = .next t ∧ t.rd SBG_SEQ = s.rd SBG_SEQ + 1 ∧ t.lks = s.lks ∧ t.mem = s.mem ∧
      t.get (LKS_TIER_STATUS_STATE d 0) = s.get (LKS_TIER_STATUS_STATE d 0) := by
  refine ⟨s.tackOwned (LKS_TIER_CTRL d 0) 1, (show execTierStart d 0 false s = _ from State.on_powered _ hp).trans ?_,
    s.tackOwned_notes _ _ _ (tierStatus_far d)⟩
  rw [hd]
  rfl

theorem execTierAbort_notes {s : State} (hp : s.pins.powered = true) (d : Fin 2) (hd : s.dieOk d = true) :
    ∃ t, exec (.tierAbort d 0 false) s = .next t ∧ t.rd SBG_SEQ = s.rd SBG_SEQ + 1 ∧ t.lks = s.lks ∧ t.mem = s.mem ∧
      t.get (LKS_TIER_STATUS_STATE d 0) = s.get (LKS_TIER_STATUS_STATE d 0) := by
  refine ⟨s.tackOwned (LKS_TIER_CTRL d 0) 2, (show execTierAbort d 0 false s = _ from State.on_powered _ hp).trans ?_,
    s.tackOwned_notes _ _ _ (tierStatus_far d)⟩
  rw [hd]
  rfl

/-- The command does nothing where the die is absent, and Tack firmware's to channel 1 neither. -/
def State.tierIdle (s : State) (d ch : Fin 2) (tk : Bool) : Prop := s.dieOk d = false ∨ (tk = true ∧ ch.val = 1)

theorem exec_tierIdle {s : State} (hp : s.pins.powered = true) {d ch : Fin 2} {tk : Bool} (h : s.tierIdle d ch tk) :
    exec (.tierStart d ch tk) s = .next s ∧ exec (.tierAbort d ch tk) s = .next s := by
  have hidle : (!s.dieOk d || (tk && ch.val == 1)) = true := by
    rcases h with h | ⟨rfl, h⟩
    · rw [h]
      rfl
    · rw [h]
      exact Bool.or_true _
  exact ⟨(show execTierStart d ch tk s = _ from State.on_powered _ hp).trans (if_pos hidle),
    (show execTierAbort d ch tk s = _ from State.on_powered _ hp).trans (if_pos hidle)⟩

/-! ### ABORT (R368) -/

theorem execTierAbort_stops {s : State} (hp : s.pins.powered = true) {d ch : Fin 2} {tk : Bool} (hd : s.dieOk d = true)
    (how : tk = true ↔ ch.val = 0) (hrun : (s.tier d ch).active = true) (hlen : s.lks.tiers.length = 4) :
    ∃ t, exec (.tierAbort d ch tk) s = .next t ∧ (t.tier d ch).active = false ∧ t.get (LKS_TIER_STATUS_STATE d ch) = 5 ∧
      t.get (LKS_TIER_STATUS_CAUSE d ch) = 0 ∧ t.lks.undef = (s.memLose (s.tier d ch).dst (s.tier d ch).len).lks.undef ∧
      t.isSet (LKS_TIER_CTRL_ABORT d ch) = false := by
  have hstop : s.tierAbort d ch = (((s.clear (LKS_TIER_CTRL_ABORT d ch)).setTier d ch {}).memLose (s.tier d ch).dst (s.tier d ch).len).tierShow d ch 5 0 :=
    if_pos hrun
  refine ⟨_, execTierAbort_owner hp hd how, ?_⟩
  rw [hstop]
  obtain ⟨hstate, hcause⟩ := (((s.clear (LKS_TIER_CTRL_ABORT d ch)).setTier d ch {}).memLose (s.tier d ch).dst (s.tier d ch).len).tierShow_shows d ch
    (st := 5) (cause := 0) (by decide) (by decide)
  refine ⟨?_, hstate, hcause, ?_, ?_⟩
  · rw [tier_of_tiers (congrArg Lks.tiers (State.tierShow_lks _ _ _ _ _))]
    exact congrArg LTier.active ((s.clear (LKS_TIER_CTRL_ABORT d ch)).tier_setTier {} hlen)
  · rw [State.tierShow_lks]
    rfl
  · rw [State.isSet_of_get (State.get_tierShow_apart _ d ch _ _ (g := LKS_TIER_CTRL_ABORT d ch) (.inl (tierStatus_ne_ctrl d ch)))]
    exact s.isSet_set_zero (LKS_TIER_CTRL_ABORT d ch) (show 2 ≤ 32 by decide)

theorem execTierAbort_rests {s : State} (hp : s.pins.powered = true) {d ch : Fin 2} {tk : Bool} (hd : s.dieOk d = true)
    (how : tk = true ↔ ch.val = 0) (hrest : (s.tier d ch).active = false) :
    exec (.tierAbort d ch tk) s = .next (s.clear (LKS_TIER_CTRL_ABORT d ch)) := by
  rw [execTierAbort_owner hp hd how]
  refine congrArg _ (if_neg fun h => Bool.false_ne_true ?_)
  exact hrest.symm.trans h

/-! ### The end of a copy (R365, R368) -/

/-- A copy that has brought its source to its destination. -/
def State.tierCopied (s : State) (d ch : Nat) : State :=
  ((s.setTier d ch {}).memCopy (s.tier d ch).src (s.tier d ch).dst (s.tier d ch).len).set (LKS_TIER_STATUS_DONE_4K d ch) ((s.tier d ch).len / 4096)

/-- The chunks written meanwhile are stale in the destination. -/
def State.tierStale (s : State) (d ch : Nat) : State :=
  forL (s.tier d ch).dirty (fun k u => u.memLose ((s.tier d ch).dst + 4096 * k) 4096) (s.tierCopied d ch)

/-- The end that a copy shows, with poison or without. -/
def State.tierEnded (s : State) (d ch : Nat) (bad : Bool) : State := if bad then s.tierShow d ch 7 6 else s.tierShow d ch 3 0

/-- Poison is among the bytes copied. -/
def State.tierPoisoned (s : State) (d ch : Nat) : Bool := s.poisoned (s.tier d ch).src (s.tier d ch).len && 0 < (s.tier d ch).len

theorem State.tierEnded_eq (s : State) (d ch : Nat) (bad : Bool) :
    s.tierEnded d ch bad = s.tierShow d ch (if bad then 7 else 3) (if bad then 6 else 0) := by
  unfold State.tierEnded
  cases bad
  · rw [if_neg Bool.false_ne_true, if_neg Bool.false_ne_true, if_neg Bool.false_ne_true]
  · rw [if_pos rfl, if_pos rfl, if_pos rfl]

theorem State.tierEnded_shows (s : State) (d ch : Nat) (bad : Bool) :
    (s.tierEnded d ch bad).get (LKS_TIER_STATUS_STATE d ch) = (if bad then 7 else 3) ∧
    (s.tierEnded d ch bad).get (LKS_TIER_STATUS_CAUSE d ch) = (if bad then 6 else 0) := by
  rw [State.tierEnded_eq]
  exact s.tierShow_shows d ch (by cases bad <;> decide) (by cases bad <;> decide)

theorem State.tierEnded_leaves (s : State) (d ch : Nat) (bad : Bool) : (s.tierEnded d ch bad).lks = s.lks ∧ (s.tierEnded d ch bad).mem = s.mem ∧
    (s.tierEnded d ch bad).get (LKS_TIER_STATUS_DONE_4K d ch) = s.get (LKS_TIER_STATUS_DONE_4K d ch) := by
  rw [State.tierEnded_eq]
  exact ⟨s.tierShow_lks _ _ _ _, s.tierShow_mem _ _ _ _, s.get_tierShow_apart _ _ _ _ (.inr (tierDone_low d ch))⟩

/-- A copy may end: it runs, and no move of HBM4 holds it up. -/
def State.tierEnds (s : State) (d ch : Nat) : Prop :=
  (s.tier d ch).active = true ∧ s.moving (s.tier d ch).src (s.tier d ch).len = false ∧ s.moving (s.tier d ch).dst (s.tier d ch).len = false

/-- A chunk written again in the recopy. -/
def State.tierAgain (s : State) (d ch : Nat) (again : Bool) : Prop :=
  (s.isSet (LKS_TIER_CTRL_DIRTY_RETRY d ch) && again && (s.tier d ch).dirty != []) = true

section
variable {s : State} (hp : s.pins.powered = true) {d ch : Fin 2} (again : Bool)
include hp

theorem execTierCopyComplete_dirty (h : s.tierEnds d ch) (hagain : s.tierAgain d ch again) : exec (.tierCopyComplete d ch again) s =
    .next (((s.tierCopied d ch).memLose (s.tier d ch).dst (s.tier d ch).len).tierShow d ch 4 0) := by
  obtain ⟨hrun, hsrc, hdst⟩ := h
  exact (show execTierCopyComplete d ch again s = _ from State.on_powered _ hp).trans
    ((if_neg (by rw [hrun, hsrc, hdst]; decide)).trans (if_pos hagain))

theorem execTierCopyComplete_done (h : s.tierEnds d ch) (hagain : ¬ s.tierAgain d ch again) : exec (.tierCopyComplete d ch again) s =
    .next ((if s.isSet (LKS_TIER_CTRL_DIRTY_RETRY d ch) then s.tierCopied d ch else s.tierStale d ch).tierEnded d ch (s.tierPoisoned d ch)) := by
  obtain ⟨hrun, hsrc, hdst⟩ := h
  exact (show execTierCopyComplete d ch again s = _ from State.on_powered _ hp).trans
    ((if_neg (by rw [hrun, hsrc, hdst]; decide)).trans (if_neg hagain))

theorem execTierCopyComplete_rests (h : ¬ s.tierEnds d ch) : exec (.tierCopyComplete d ch again) s = .next s := by
  refine (show execTierCopyComplete d ch again s = _ from State.on_powered _ hp).trans (if_pos ?_)
  by_contra hc
  refine h ?_
  simpa [State.tierEnds, and_assoc] using hc

end

end Sys2Proof.Machine


namespace Sys2Proof.Machine

section
variable {s : State} (hp : s.pins.powered = true) {d ch : Fin 2} (again : Bool)

theorem ite_tierPoisoned (s : State) (d ch x y : Nat) : (if s.tierPoisoned d ch then x else y) =
    if s.poisoned (s.tier d ch).src (s.tier d ch).len = true ∧ 0 < (s.tier d ch).len then x else y :=
  if_congr (by simp [State.tierPoisoned]) rfl rfl

/-- A copy ended has left its channel. -/
theorem State.tierCopied_rests (hlen : s.lks.tiers.length = 4) : (s.tierCopied d ch).tier d ch = {} :=
  s.tier_setTier {} hlen

theorem State.losses_tiers (s : State) (l : List Nat) (base size : Nat) :
    (forL l (fun k u => u.memLose (base + size * k) size) s).lks.tiers = s.lks.tiers := by
  unfold forL
  induction l generalizing s with
  | nil => rfl
  | cons k l ih => exact ih _

theorem State.tierStale_rests (hlen : s.lks.tiers.length = 4) : (s.tierStale d ch).tier d ch = {} :=
  (tier_of_tiers ((s.tierCopied d ch).losses_tiers _ _ _) d ch).trans (State.tierCopied_rests hlen)

include hp

/-- A copy that ends whole: with the recopy done, or with nothing written meanwhile (R365, R368). -/
theorem execTierCopyComplete_copies (h : s.tierEnds d ch) (hagain : ¬ s.tierAgain d ch again)
    (hwhole : s.isSet (LKS_TIER_CTRL_DIRTY_RETRY d ch) = true ∨ (s.tier d ch).dirty = []) (hlen : s.lks.tiers.length = 4) :
    ∃ t, exec (.tierCopyComplete d ch again) s = .next t ∧
      t.mem = (s.memCopy (s.tier d ch).src (s.tier d ch).dst (s.tier d ch).len).mem ∧
      t.lks.undef = (s.memCopy (s.tier d ch).src (s.tier d ch).dst (s.tier d ch).len).lks.undef ∧
      t.lks.poison = (s.memCopy (s.tier d ch).src (s.tier d ch).dst (s.tier d ch).len).lks.poison ∧
      t.get (LKS_TIER_STATUS_DONE_4K d ch) = (s.tier d ch).len / 4096 % 2 ^ (LKS_TIER_STATUS_DONE_4K d ch).w ∧
      (t.tier d ch).active = false ∧
      t.get (LKS_TIER_STATUS_STATE d ch) = (if s.poisoned (s.tier d ch).src (s.tier d ch).len = true ∧ 0 < (s.tier d ch).len then 7 else 3) ∧
      t.get (LKS_TIER_STATUS_CAUSE d ch) = (if s.poisoned (s.tier d ch).src (s.tier d ch).len = true ∧ 0 < (s.tier d ch).len then 6 else 0) := by
  have hcopied : (if s.isSet (LKS_TIER_CTRL_DIRTY_RETRY d ch) then s.tierCopied d ch else s.tierStale d ch) = s.tierCopied d ch := by
    split
    · rfl
    next hno =>
      unfold State.tierStale
      rw [hwhole.resolve_left hno]
      rfl
  obtain ⟨hlks, hmem, hdone⟩ := (s.tierCopied d ch).tierEnded_leaves d ch (s.tierPoisoned d ch)
  obtain ⟨hstate, hcause⟩ := (s.tierCopied d ch).tierEnded_shows d ch (s.tierPoisoned d ch)
  refine ⟨_, (execTierCopyComplete_done hp again h hagain).trans (by rw [hcopied]), hmem, (congrArg Lks.undef hlks).trans rfl, (congrArg Lks.poison hlks).trans rfl,
    hdone.trans (State.get_set_same _ (LKS_TIER_STATUS_DONE_4K d ch) _ (show 23 ≤ 32 by decide)), ?_, ?_, ?_⟩
  · rw [tier_of_tiers (congrArg Lks.tiers hlks), State.tierCopied_rests hlen]
  · rw [hstate, ite_tierPoisoned]
  · rw [hcause, ite_tierPoisoned]

theorem execTierCopyComplete_writtenAgain (h : s.tierEnds d ch) (hagain : s.tierAgain d ch again) (hlen : s.lks.tiers.length = 4) :
    ∃ t, exec (.tierCopyComplete d ch again) s = .next t ∧ (t.tier d ch).active = false ∧ t.get (LKS_TIER_STATUS_STATE d ch) = 4 ∧
      t.get (LKS_TIER_STATUS_CAUSE d ch) = 0 ∧
      t.lks.undef = ((s.memCopy (s.tier d ch).src (s.tier d ch).dst (s.tier d ch).len).memLose (s.tier d ch).dst (s.tier d ch).len).lks.undef := by
  obtain ⟨hstate, hcause⟩ := ((s.tierCopied d ch).memLose (s.tier d ch).dst (s.tier d ch).len).tierShow_shows d ch (st := 4) (cause := 0)
    (by decide) (by decide)
  refine ⟨_, execTierCopyComplete_dirty hp again h hagain, ?_, hstate, hcause, ?_⟩
  · rw [tier_of_tiers (congrArg Lks.tiers (State.tierShow_lks _ _ _ _ _))]
    exact congrArg LTier.active (State.tierCopied_rests hlen)
  · rw [State.tierShow_lks]
    rfl

theorem execTierCopyComplete_stale (h : s.tierEnds d ch) (hretry : s.isSet (LKS_TIER_CTRL_DIRTY_RETRY d ch) = false) (hlen : s.lks.tiers.length = 4) :
    ∃ t, exec (.tierCopyComplete d ch again) s = .next t ∧ (t.tier d ch).active = false ∧
      t.get (LKS_TIER_STATUS_STATE d ch) = (if s.poisoned (s.tier d ch).src (s.tier d ch).len = true ∧ 0 < (s.tier d ch).len then 7 else 3) ∧
      t.get (LKS_TIER_STATUS_CAUSE d ch) = (if s.poisoned (s.tier d ch).src (s.tier d ch).len = true ∧ 0 < (s.tier d ch).len then 6 else 0) ∧
      ∀ k ∈ (s.tier d ch).dirty, ∀ i < 4096, t.lks.undef.any (fun u => decide (u.1 ≤ (s.tier d ch).dst + 4096 * k + i) &&
        decide ((s.tier d ch).dst + 4096 * k + i < u.1 + u.2.1)) = true := by
  have hagain : ¬ s.tierAgain d ch again := by
    unfold State.tierAgain
    rw [hretry]
    exact Bool.false_ne_true
  obtain ⟨hlks, -, -⟩ := (s.tierStale d ch).tierEnded_leaves d ch (s.tierPoisoned d ch)
  obtain ⟨hstate, hcause⟩ := (s.tierStale d ch).tierEnded_shows d ch (s.tierPoisoned d ch)
  refine ⟨_, (execTierCopyComplete_done hp again h hagain).trans (by rw [hretry, if_neg Bool.false_ne_true]), ?_, ?_, ?_, fun k hk i hi => ?_⟩
  · rw [tier_of_tiers (congrArg Lks.tiers hlks), State.tierStale_rests hlen]
  · rw [hstate, ite_tierPoisoned]
  · rw [hcause, ite_tierPoisoned]
  · rw [hlks, List.any_eq_true]
    exact (s.tierCopied d ch).undefAt_losses _ _ _ _ (.inr ⟨k, hk, by omega, by omega⟩)

end

/-! ### The fence meets BAR2 (R371, R376) -/

/-- The capture of a refused access through BAR2. -/
def State.fenceCaught (s : State) (kind a : Nat) : State :=
  if s.isSet (LKS_FENCE_ERR_VALID 0) then s
  else ((((s.raiseBit (LKS_FENCE_ERR_VALID 0) 246).set (LKS_FENCE_ERR_SOURCE 0) 0xF0).set (LKS_FENCE_ERR_KIND 0) kind).wrN
    (LKS_FENCE_ADDR_LO 0) a).wrN (LKS_FENCE_ADDR_HI 0) (a / 0x100000000 % 65536)

theorem State.fenceCaught_shows (s : State) {kind : Nat} (a : Nat) (hk : kind < 16) :
    (s.fenceCaught kind a).isSet (LKS_FENCE_ERR_VALID 0) = true ∧ (s.fenceCaught kind a).get (LKS_FENCE_ERR_COUNT 0) = s.get (LKS_FENCE_ERR_COUNT 0) ∧
    (s.isSet (LKS_FENCE_ERR_VALID 0) = false → (s.fenceCaught kind a).get (LKS_FENCE_ERR_SOURCE 0) = 0xF0 ∧
      (s.fenceCaught kind a).get (LKS_FENCE_ERR_KIND 0) = kind) := by
  unfold State.fenceCaught
  split
  next h => exact ⟨h, rfl, fun hn => absurd (hn.symm.trans h) Bool.false_ne_true⟩
  next =>
    have haddr : ∀ (t : State) (v w : Nat) (g : Field), g.addr = LKS_FENCE_ERR 0 →
        ((t.wrN (LKS_FENCE_ADDR_LO 0) v).wrN (LKS_FENCE_ADDR_HI 0) w).get g = t.get g := fun t v w g h =>
      (State.get_wr_ne _ _ (by rw [h]; decide)).trans (State.get_wr_ne _ _ (by rw [h]; decide))
    have hkind : ∀ (t : State) (g : Field), (LKS_FENCE_ERR_KIND 0).apart g → (t.set (LKS_FENCE_ERR_KIND 0) kind).get g = t.get g :=
      fun t g h => t.get_set_apart _ g kind h
    have hsource : ∀ (t : State) (g : Field), (LKS_FENCE_ERR_SOURCE 0).apart g → (t.set (LKS_FENCE_ERR_SOURCE 0) 0xF0).get g = t.get g :=
      fun t g h => t.get_set_apart _ g _ h
    refine ⟨?_, ?_, fun _ => ⟨?_, ?_⟩⟩
    · rw [State.isSet_of_get (haddr _ _ _ _ rfl), State.isSet_of_get (hkind _ _ (apart_of (by decide))),
        State.isSet_of_get (hsource _ _ (apart_of (by decide)))]
      exact State.isSet_raiseBit _ _ _ (by decide) (by decide)
    · rw [haddr _ _ _ _ rfl, hkind _ _ (apart_of (by decide)), hsource _ _ (apart_of (by decide))]
      exact State.get_raiseBit_apart _ _ _ _ (apart_of (by decide))
    · rw [haddr _ _ _ _ rfl, hkind _ _ (apart_of (by decide))]
      exact State.get_set_same _ (LKS_FENCE_ERR_SOURCE 0) 0xF0 (by decide)
    · rw [haddr _ _ _ _ rfl]
      exact (State.get_set_same _ (LKS_FENCE_ERR_KIND 0) kind (by decide)).trans (Nat.mod_eq_of_lt hk)

theorem State.fenceHit_bar2 (s : State) (kind a : Nat) : s.fenceHit .bar2 kind a =
    (((s.fenceCaught kind a).bumpSat (LKS_FENCE_ERR_COUNT 0) 1).raiseBit (LKS_DIE_STATUS_FENCE 0) 246).lksNote
      (signedOf 32 a) (signedOf 32 (a / 0x100000000)) 0xF0 := rfl

/-- What a refused access through BAR2 shows. -/
theorem State.fenceHit_shows (s : State) {kind : Nat} (a : Nat) (hk : kind < 16) :
    (s.fenceHit .bar2 kind a).isSet (LKS_FENCE_ERR_VALID 0) = true ∧ (s.fenceHit .bar2 kind a).isSet (LKS_DIE_STATUS_FENCE 0) = true ∧
    (s.fenceHit .bar2 kind a).get (LKS_FENCE_ERR_COUNT 0) = min (s.get (LKS_FENCE_ERR_COUNT 0) + 1) (2 ^ (LKS_FENCE_ERR_COUNT 0).w - 1) ∧
    (s.isSet (LKS_FENCE_ERR_VALID 0) = false → (s.fenceHit .bar2 kind a).get (LKS_FENCE_ERR_SOURCE 0) = 0xF0 ∧
      (s.fenceHit .bar2 kind a).get (LKS_FENCE_ERR_KIND 0) = kind) := by
  obtain ⟨hvalid, hcount, hcaught⟩ := s.fenceCaught_shows a hk
  have hnote : ∀ (t : State) (x y : Int) (g : Field), 0x1000000 ≤ g.addr → (t.lksNote x y 0xF0).get g = t.get g := fun t x y g h => t.get_lksNote x y _ h
  have hraise : ∀ (t : State) (g : Field), g.addr = LKS_FENCE_ERR 0 → (t.raiseBit (LKS_DIE_STATUS_FENCE 0) 246).get g = t.get g :=
    fun t g h => t.get_raiseBit_apart _ g _ (.inl (by rw [h]; decide))
  have hbump : ∀ (t : State) (g : Field), (LKS_FENCE_ERR_COUNT 0).apart g → (t.bumpSat (LKS_FENCE_ERR_COUNT 0) 1).get g = t.get g :=
    fun t g h => t.get_set_apart _ g _ h
  have hshown : ∀ g : Field, g.addr = LKS_FENCE_ERR 0 → (LKS_FENCE_ERR_COUNT 0).apart g →
      (s.fenceHit .bar2 kind a).get g = (s.fenceCaught kind a).get g := fun g h h' => by
    rw [s.fenceHit_bar2, hnote _ _ _ _ (by rw [h]; decide), hraise _ _ h, hbump _ _ h']
  refine ⟨(State.isSet_of_get (hshown _ rfl (apart_of (by decide)))).trans hvalid, ?_, ?_, fun h => ?_⟩
  · rw [s.fenceHit_bar2, State.isSet_of_get (hnote _ _ _ _ (by decide))]
    exact State.isSet_raiseBit _ _ _ (by decide) (by decide)
  · rw [s.fenceHit_bar2, hnote _ _ _ _ (by decide), hraise _ _ rfl]
    refine (State.get_set_same _ (LKS_FENCE_ERR_COUNT 0) _ (by decide)).trans ?_
    rw [hcount]
    exact Nat.mod_eq_of_lt (lt_of_le_of_lt (Nat.min_le_right _ _) (by decide))
  · obtain ⟨hsource, hkind⟩ := hcaught h
    exact ⟨(hshown _ rfl (apart_of (by decide))).trans hsource, (hshown _ rfl (apart_of (by decide))).trans hkind⟩

theorem State.memKind_lt (s : State) (m : LMem) (a n : Nat) : s.memKind m a n < 16 := by
  unfold State.memKind
  repeat' split
  all_goals decide

theorem State.refusedAt_lt {s : State} {r : LReq} {m : LMem} {a n k : Nat} (h : s.refusedAt r m a n = some k) : k < 16 := by
  unfold State.refusedAt at h
  dsimp only at h
  split at h
  · exact Option.some.inj h ▸ s.memKind_lt m a n
  · exact absurd h (by simp)

end Sys2Proof.Machine


namespace Sys2Proof.Machine

/-! ### BAR2 (R379, R380) -/

/-- The number of bytes of an access. -/
def accBytes (n : Nat) (data : Option (List Byte)) : Nat := match data with | some l => l.length | none => n

/-- The window that an offset of BAR2 lies in is enabled. -/
def State.winOn (s : State) (off : Nat) : Bool := s.isSet (LKS_BAR2_WIN_EN (off / 2 ^ 34 % 4))

/-- The address that an offset of BAR2 leads to. -/
def State.winAddr (s : State) (off : Nat) : Nat := s.get (LKS_BAR2_WIN_BASE (off / 2 ^ 34 % 4)) * 2 ^ 34 + off % 2 ^ 34

/-- The end of an access that reaches no memory: a read returns zeros. -/
def State.bar2None (s : State) (off n : Nat) (data : Option (List Byte)) : State :=
  if data.isSome then s else s.emit (.bar2 off (zeros (accBytes n data)))

/-- The end of an access that reaches its memory. -/
def State.bar2Served (s : State) (off n : Nat) (data : Option (List Byte)) (a : Nat) : State :=
  match data with
  | some l => s.memPut a l
  | none => s.emit (.bar2 off (s.memBytes a n))

section
variable {s : State} {off n : Nat} {data : Option (List Byte)}

/-- The access reaches no memory of the map. -/
def State.bar2Unmapped (s : State) (off n : Nat) (data : Option (List Byte)) : Prop :=
  s.winOn off = false ∨ s.memSpan (s.winAddr off) (accBytes n data) = none

theorem State.bar2_unmapped (hd : s.dies ≠ 0) (h : s.bar2Unmapped off n data) :
    s.bar2 off n data = (s.raiseBit LKS_BAR2_STATUS_UNMAPPED 246).bar2None off n data := by
  have hspan : (if s.winOn off then s.memSpan (s.winAddr off) (accBytes n data) else none) = none := by
    split
    next hon => exact h.resolve_left (by rw [hon]; decide)
    · rfl
  unfold State.bar2
  rw [if_neg hd]
  dsimp only
  split
  · rfl
  next m hm => exact absurd (hm.symm.trans hspan) (by simp)

theorem State.bar2_mapped {m : LMem} (hd : s.dies ≠ 0) (hon : s.winOn off = true) (hm : s.memSpan (s.winAddr off) (accBytes n data) = some m) :
    s.bar2 off n data =
      match (s.wakeMem m).refusedAt .bar2 m (s.winAddr off) (accBytes n data) with
      | some k => ((s.wakeMem m).fenceHit .bar2 k (s.winAddr off)).bar2None off n data
      | none => if (s.wakeMem m).hpprFenced m then (s.wakeMem m).bar2None off n data
        else (s.wakeMem m).bar2Served off n data (s.winAddr off) := by
  have hspan : (if s.winOn off then s.memSpan (s.winAddr off) (accBytes n data) else none) = some m := by
    rw [if_pos hon, hm]
  unfold State.bar2
  rw [if_neg hd]
  dsimp only
  split
  next hn => exact absurd (hn.symm.trans hspan) (by simp)
  next k hk =>
    obtain rfl : k = m := Option.some.inj (hk.symm.trans hspan)
    cases data <;> rfl

/-- What the wake latches do not show. -/
theorem State.latchesOf_refusedAt (s : State) (w : Nat) (m : LMem) (a k : Nat) : (s.latchesOf w).refusedAt .bar2 m a k = s.refusedAt .bar2 m a k := rfl

theorem State.latchesOf_hpprFenced (s : State) (w : Nat) (m : LMem) : (s.latchesOf w).hpprFenced m = s.hpprFenced m := rfl

theorem State.bar2_refused {m : LMem} {k : Nat} (hd : s.dies ≠ 0) (hon : s.winOn off = true)
    (hm : s.memSpan (s.winAddr off) (accBytes n data) = some m) (hk : s.refusedAt .bar2 m (s.winAddr off) (accBytes n data) = some k) :
    ∃ w, s.bar2 off n data = ((s.latchesOf w).fenceHit .bar2 k (s.winAddr off)).bar2None off n data := by
  obtain ⟨w, hw⟩ := s.wakeMem_latches m
  refine ⟨w, ?_⟩
  rw [State.bar2_mapped hd hon hm, hw, s.latchesOf_refusedAt, hk]

theorem State.bar2_served {m : LMem} (hd : s.dies ≠ 0) (hon : s.winOn off = true)
    (hm : s.memSpan (s.winAddr off) (accBytes n data) = some m) (hk : s.refusedAt .bar2 m (s.winAddr off) (accBytes n data) = none)
    (hh : s.hpprFenced m = false) : s.bar2 off n data = (s.wakeMem m).bar2Served off n data (s.winAddr off) := by
  obtain ⟨w, hw⟩ := s.wakeMem_latches m
  rw [State.bar2_mapped hd hon hm, hw, s.latchesOf_refusedAt, hk]
  dsimp only
  rw [s.latchesOf_hpprFenced, hh, if_neg Bool.false_ne_true]

/-! #### An access of the host's -/

theorem execBar2Access_awake (hp : s.pins.powered = true) {k : Fin 65} (ha : s.asleep = false) :
    exec (.bar2Access off k data) s = .next (s.arrive (.bar2 off k data)) := by
  refine (show execBar2Access off k data s = _ from State.on_powered _ hp).trans ?_
  unfold State.accessed
  rw [ha]
  rfl

/-- The access as one that waits (R467, R506). -/
def State.heldUp (s : State) (off n : Nat) (data : Option (List Byte)) : State :=
  { s with clk := { s.clk with waiting := s.clk.waiting ++ [.bar2 off n data] } }

theorem State.meetsMove_bar2 (s : State) (off n : Nat) (data : Option (List Byte)) :
    s.meetsMove (.bar2 off n data) = (s.winOn off && s.moving (s.winAddr off) (accBytes n data)) := by
  cases data <;> rfl

theorem State.arrive_waits (h : s.relock = true ∨ (s.winOn off = true ∧ s.moving (s.winAddr off) (accBytes n data) = true)) :
    s.arrive (.bar2 off n data) = s.heldUp off n data := by
  unfold State.arrive
  refine if_pos ?_
  rw [s.meetsMove_bar2, Bool.or_eq_true, Bool.and_eq_true]
  exact h

theorem State.arrive_goes (hr : s.relock = false) (h : s.winOn off = false ∨ s.moving (s.winAddr off) (accBytes n data) = false) :
    s.arrive (.bar2 off n data) = s.bar2 off n data := by
  unfold State.arrive
  refine (if_neg ?_).trans rfl
  rw [s.meetsMove_bar2, hr, Bool.false_or, Bool.and_eq_true]
  rintro ⟨hon, hmove⟩
  exact h.elim (fun h => Bool.false_ne_true (h.symm.trans hon)) fun h => Bool.false_ne_true (h.symm.trans hmove)

/-- The access finds the module awake with its PLLs locked, and Larkspur fitted. -/
structure State.bar2Open (s : State) : Prop where
  powered : s.pins.powered = true
  awake : s.asleep = false
  locked : s.relock = false
  fitted : s.dies ≠ 0

theorem execBar2Access_goes (ho : s.bar2Open) {k : Fin 65} (h : s.winOn off = false ∨ s.moving (s.winAddr off) (accBytes k data) = false) :
    exec (.bar2Access off k data) s = .next (s.bar2 off k data) := by
  rw [execBar2Access_awake ho.powered ho.awake, State.arrive_goes ho.locked h]

/-- The memory that an access reaches, whose move does not hold it up. -/
structure State.bar2Hits (s : State) (off n : Nat) (m : LMem) : Prop where
  on : s.winOn off = true
  still : s.moving (s.winAddr off) n = false
  span : s.memSpan (s.winAddr off) n = some m

theorem execBar2Access_reads (ho : s.bar2Open) {k : Fin 65} {m : LMem} (hm : s.bar2Hits off k m)
    (hk : s.refusedAt .bar2 m (s.winAddr off) k.val = none) (hh : s.hpprFenced m = false) :
    ∃ t, exec (.bar2Access off k none) s = .next t ∧ t.out = Out.bar2 off (s.memBytes (s.winAddr off) k) :: s.out ∧
      (∀ j ∈ memDomain m, bitOf s.clk.selfRefresh j = true → bitOf (domainMask s.otp.variant) j = true → bitOf t.clk.wakeLatch j = true) ∧
      t.regs = s.regs ∧ t.mem = s.mem ∧ t.lks = s.lks := by
  refine ⟨(s.wakeMem m).emit (.bar2 off ((s.wakeMem m).memBytes (s.winAddr off) k)), ?_, ?_, s.wakeMem_latched m, ?_⟩
  · exact (execBar2Access_goes ho (.inr hm.still)).trans (congrArg _ (State.bar2_served ho.fitted hm.on hm.span hk hh))
  · obtain ⟨w, hw⟩ := s.wakeMem_latches m
    rw [hw]
    rfl
  · obtain ⟨w, hw⟩ := s.wakeMem_latches m
    rw [hw]
    exact ⟨rfl, rfl, rfl⟩

theorem execBar2Access_writes (ho : s.bar2Open) {l : List Byte} {m : LMem} (hm : s.bar2Hits off l.length m)
    (hk : s.refusedAt .bar2 m (s.winAddr off) l.length = none) (hh : s.hpprFenced m = false) :
    ∃ t, exec (.bar2Access off 0 (some l)) s = .next t ∧ t.memBytes (s.winAddr off) l.length = l ∧
      t.mem = (s.memPut (s.winAddr off) l).mem ∧ t.out = s.out ∧
      (∀ j ∈ memDomain m, bitOf s.clk.selfRefresh j = true → bitOf (domainMask s.otp.variant) j = true → bitOf t.clk.wakeLatch j = true) ∧
      t.regs = s.regs := by
  refine ⟨(s.wakeMem m).memPut (s.winAddr off) l, ?_, State.memBytes_memPut _ _ _, ?_, ?_, s.wakeMem_latched m, ?_⟩
  · exact (execBar2Access_goes ho (.inr hm.still)).trans (congrArg _ (State.bar2_served ho.fitted hm.on hm.span hk hh))
  all_goals
    obtain ⟨w, hw⟩ := s.wakeMem_latches m
    rw [hw]
    rfl

theorem State.bar2None_emits (s : State) (off n : Nat) : s.bar2None off n none = s.emit (.bar2 off (zeros n)) := rfl

theorem State.bar2None_write (s : State) (off n : Nat) (l : List Byte) : s.bar2None off n (some l) = s := rfl

/-- What a refused access leaves and shows, but for the read's zeros. -/
structure State.bar2Fenced (s t : State) (k : Nat) : Prop where
  valid : t.isSet (LKS_FENCE_ERR_VALID 0) = true
  fence : t.isSet (LKS_DIE_STATUS_FENCE 0) = true
  count : t.get (LKS_FENCE_ERR_COUNT 0) = min (s.get (LKS_FENCE_ERR_COUNT 0) + 1) (2 ^ (LKS_FENCE_ERR_COUNT 0).w - 1)
  capture : s.isSet (LKS_FENCE_ERR_VALID 0) = false → t.get (LKS_FENCE_ERR_SOURCE 0) = 0xF0 ∧ t.get (LKS_FENCE_ERR_KIND 0) = k
  mem : t.mem = s.mem
  lks : t.lks = s.lks

theorem State.fenceHit_bar2Fenced (s : State) (w a : Nat) {k : Nat} (hk : k < 16) : s.bar2Fenced ((s.latchesOf w).fenceHit .bar2 k a) k := by
  obtain ⟨hvalid, hfence, hcount, hfirst⟩ := (s.latchesOf w).fenceHit_shows a hk
  have hleft := (s.latchesOf w).fenceHit_apart .bar2 k a
  exact ⟨hvalid, hfence, hcount, hfirst, (mem_of_apart hleft).trans rfl, (lks_of_apart hleft).trans rfl⟩

theorem State.bar2Fenced.emit {t : State} {k : Nat} (h : s.bar2Fenced t k) (o : Out) : s.bar2Fenced (t.emit o) k :=
  ⟨h.valid, h.fence, h.count, h.capture, h.mem, h.lks⟩

theorem execBar2Access_refusedRead (ho : s.bar2Open) {k : Fin 65} {m : LMem} {kind : Nat} (hm : s.bar2Hits off k m)
    (hk : s.refusedAt .bar2 m (s.winAddr off) k.val = some kind) :
    ∃ t, exec (.bar2Access off k none) s = .next t ∧ s.bar2Fenced t kind ∧ t.out.head? = some (Out.bar2 off (zeros k)) := by
  obtain ⟨w, hw⟩ := State.bar2_refused (data := none) ho.fitted hm.on hm.span hk
  exact ⟨_, (execBar2Access_goes ho (.inr hm.still)).trans (congrArg _ (hw.trans (State.bar2None_emits _ _ _))),
    (s.fenceHit_bar2Fenced w (s.winAddr off) (State.refusedAt_lt hk)).emit _, rfl⟩

theorem execBar2Access_refusedWrite (ho : s.bar2Open) {l : List Byte} {m : LMem} {kind : Nat} (hm : s.bar2Hits off l.length m)
    (hk : s.refusedAt .bar2 m (s.winAddr off) l.length = some kind) :
    ∃ t, exec (.bar2Access off 0 (some l)) s = .next t ∧ s.bar2Fenced t kind := by
  obtain ⟨w, hw⟩ := State.bar2_refused (n := 0) (data := some l) ho.fitted hm.on hm.span hk
  exact ⟨_, (execBar2Access_goes ho (.inr hm.still)).trans (congrArg _ (hw.trans (State.bar2None_write _ _ _ _))),
    s.fenceHit_bar2Fenced w (s.winAddr off) (State.refusedAt_lt hk)⟩

/-- The access reaches no memory of the map, and no move holds it up. -/
def State.bar2Misses (s : State) (off n : Nat) : Prop :=
  s.winOn off = false ∨ (s.moving (s.winAddr off) n = false ∧ s.memSpan (s.winAddr off) n = none)

theorem State.bar2Misses.still (h : s.bar2Misses off n) : s.winOn off = false ∨ s.moving (s.winAddr off) n = false := Or.imp id And.left h

theorem State.bar2Misses.unmapped (h : s.bar2Misses off n) : s.winOn off = false ∨ s.memSpan (s.winAddr off) n = none := Or.imp id And.right h

/-- The status of an unmapped access. -/
theorem State.raiseUnmapped (s : State) : (s.raiseBit LKS_BAR2_STATUS_UNMAPPED 246).isSet LKS_BAR2_STATUS_UNMAPPED = true ∧
    (s.raiseBit LKS_BAR2_STATUS_UNMAPPED 246).mem = s.mem ∧ (s.raiseBit LKS_BAR2_STATUS_UNMAPPED 246).lks = s.lks :=
  ⟨s.isSet_raiseBit _ _ (by decide) (by decide), s.raiseBit_mem _ _, s.raiseBit_lks _ _⟩

theorem execBar2Access_unmappedRead (ho : s.bar2Open) {k : Fin 65} (h : s.bar2Misses off k) :
    ∃ t, exec (.bar2Access off k none) s = .next t ∧ t.isSet LKS_BAR2_STATUS_UNMAPPED = true ∧ t.mem = s.mem ∧ t.lks = s.lks ∧
      t.out.head? = some (Out.bar2 off (zeros k)) := by
  obtain ⟨hset, hmem, hlks⟩ := s.raiseUnmapped
  refine ⟨(s.raiseBit LKS_BAR2_STATUS_UNMAPPED 246).emit (.bar2 off (zeros k)), ?_, hset, hmem, hlks, rfl⟩
  exact (execBar2Access_goes ho h.still).trans (congrArg _ (State.bar2_unmapped (data := none) ho.fitted h.unmapped))

theorem execBar2Access_unmappedWrite (ho : s.bar2Open) {l : List Byte} (h : s.bar2Misses off l.length) :
    ∃ t, exec (.bar2Access off 0 (some l)) s = .next t ∧ t.isSet LKS_BAR2_STATUS_UNMAPPED = true ∧ t.mem = s.mem ∧ t.lks = s.lks := by
  refine ⟨s.raiseBit LKS_BAR2_STATUS_UNMAPPED 246, ?_, s.raiseUnmapped⟩
  exact (execBar2Access_goes ho h.still).trans (congrArg _ (State.bar2_unmapped (n := 0) (data := some l) ho.fitted h.unmapped))

end

/-- Settles O51: each command of the tiering engine by the cases of its ends, each access to BAR2 by what it reaches. -/
theorem tieringAndBarTwoCommands : Obligations.TieringAndBarTwoCommands := by
  unfold Obligations.TieringAndBarTwoCommands
  intro s hp
  refine ⟨fun d ch tk hd hlen how h => execTierStart_takes hp hd hlen how h, fun d ch tk c hd how h => execTierStart_refuses hp hd how h,
    fun d hd => execTierStart_notes hp d hd, fun d hd => execTierAbort_notes hp d hd, fun d => exec_tierIdle hp (.inr ⟨rfl, rfl⟩),
    fun d ch tk hd => exec_tierIdle hp (.inl hd), fun d ch tk hd how hrun hlen => execTierAbort_stops hp hd how hrun hlen,
    fun d ch tk hd how hrest => execTierAbort_rests hp hd how hrest, ?_, ?_, ?_,
    fun d ch again hrun hretry hlen hsrc hdst => execTierCopyComplete_stale hp again ⟨hrun, hsrc, hdst⟩ hretry hlen, ?_, ?_, ?_, ?_, ?_, ?_, ?_, ?_, ?_⟩
  · intro d ch again hrun hretry hclean hlen hsrc hdst
    exact execTierCopyComplete_copies hp again ⟨hrun, hsrc, hdst⟩ (by unfold State.tierAgain; rw [hretry]; exact Bool.false_ne_true) (.inr hclean) hlen
  · intro d ch again hrun hretry hwritten hlen hsrc hdst
    refine execTierCopyComplete_copies hp again ⟨hrun, hsrc, hdst⟩ ?_ (.inl hretry) hlen
    unfold State.tierAgain
    rcases hwritten with h | h <;> simp [h]
  · intro d ch hrun hretry hdirty hlen hsrc hdst
    refine execTierCopyComplete_writtenAgain hp true ⟨hrun, hsrc, hdst⟩ ?_ hlen
    unfold State.tierAgain
    simp [hretry, hdirty]
  · intro d ch again h
    refine execTierCopyComplete_rests hp again ?_
    rintro ⟨hrun, hsrc, hdst⟩
    rcases h with h | h | h
    · exact Bool.false_ne_true (h.symm.trans hrun)
    · exact Bool.false_ne_true (hsrc.symm.trans h)
    · exact Bool.false_ne_true (hdst.symm.trans h)
  · intro off n m ha hr hd hon hstill hspan hk hh
    exact execBar2Access_reads ⟨hp, ha, hr, hd⟩ ⟨hon, hstill, hspan⟩ hk hh
  · intro off l m ha hr hd hon hstill hspan hk hh
    exact execBar2Access_writes ⟨hp, ha, hr, hd⟩ ⟨hon, hstill, hspan⟩ hk hh
  · intro off k n m ha hr hd hon hstill hspan hk
    obtain ⟨t, hrun, ⟨hvalid, hfence, hcount, hfirst, hmem, hlks⟩, hout⟩ :=
      execBar2Access_refusedRead (off := off) (k := n) ⟨hp, ha, hr, hd⟩ ⟨hon, hstill, hspan⟩ hk
    exact ⟨t, hrun, hvalid, hfence, hcount, hfirst, hout, hmem, hlks⟩
  · intro off k l m ha hr hd hon hstill hspan hk
    obtain ⟨t, hrun, hvalid, hfence, hcount, hfirst, hmem, hlks⟩ :=
      execBar2Access_refusedWrite (off := off) ⟨hp, ha, hr, hd⟩ ⟨hon, hstill, hspan⟩ hk
    exact ⟨t, hrun, hvalid, hfence, hcount, hfirst, hmem, hlks⟩
  · intro off n ha hr hd h
    exact execBar2Access_unmappedRead ⟨hp, ha, hr, hd⟩ h
  · intro off l ha hr hd h
    exact execBar2Access_unmappedWrite ⟨hp, ha, hr, hd⟩ h
  · intro off n data ha hr
    exact (execBar2Access_awake hp ha).trans (congrArg _ (State.arrive_waits (.inl hr)))
  · intro off n ha hr hon hmove
    exact (execBar2Access_awake hp ha).trans (congrArg _ (State.arrive_waits (.inr ⟨hon, hmove⟩)))

end Sys2Proof.Machine


namespace Sys2Proof.Machine

/-! ### Reading through the recorder's own updates -/

theorem proj_ite_of {α : Type} (f : State → α) {c : Prop} [Decidable c] {s t : State} {v : α} (hs : f s = v) (ht : f t = v) :
    f (if c then s else t) = v := by
  split <;> assumption

theorem get_of_rd {s t : State} {g : Field} (h : t.rd g.addr = s.rd g.addr) : t.get g = s.get g := congrArg (fieldGet · g.lo g.w) h

section
variable {α : Type} {f : State → α}

/-- A record on its way leaves what neither a path nor a register holds. -/
theorem State.toPath_proj (hpath : ∀ (s : State) (i : Nat) (p : TPath), f (s.setPath i p) = f s) (hreg : ∀ (s : State) (a : Nat) (v : Word), f (s.wr a v) = f s)
    (s : State) (i : Nat) (r : Rec) : f (s.toPath i r) = f s := by
  have hlevel : ∀ {t : State} (j : Nat), f t = f s → f (t.showLevel j) = f s := fun j ht =>
    proj_ite_of f ((hreg _ _ _).trans ht) ((hreg _ _ _).trans ((hreg _ _ _).trans ht))
  have hlose : ∀ {t : State} (j cause prio : Nat) (b : Bool), f t = f s → f (t.lose j cause prio b) = f s := fun j cause prio b ht =>
    proj_ite_of f ((hreg _ _ _).trans ((hpath _ _ _).trans ht)) ((hreg _ _ _).trans ((hpath _ _ _).trans ht))
  have henq : ∀ b : Bool, f (s.enqueue i r b) = f s := fun b => hpath _ _ _
  unfold State.toPath
  refine proj_ite_of f rfl (proj_ite_of f (hlevel _ (hlose _ _ _ _ rfl)) ?_)
  split
  · exact hlevel _ (proj_ite_of f (hlose _ _ _ _ (hpath _ _ _)) (hpath _ _ _))
  · refine hlevel _ (proj_ite_of f (henq _) (proj_ite_of f (proj_ite_of f (henq _) (hlose _ _ _ _ rfl)) (proj_ite_of f ?_
      (proj_ite_of f (henq _) (hlose _ _ _ _ rfl)))))
    exact proj_ite_of f (henq _) (proj_ite_of f (proj_ite_of f ((hpath _ _ _).trans (henq _)) (hlose _ _ _ _ (hpath _ _ _))) (hlose _ _ _ _ rfl))

theorem State.toPaths_proj (hpath : ∀ (s : State) (i : Nat) (p : TPath), f (s.setPath i p) = f s) (hreg : ∀ (s : State) (a : Nat) (v : Word), f (s.wr a v) = f s)
    (s : State) (r : Rec) : f (forN 5 (fun i t => t.toPath i r) s) = f s := by
  unfold forN
  induction List.range 5 generalizing s with
  | nil => rfl
  | cons i l ih => exact (ih _).trans (State.toPath_proj hpath hreg s i r)

end

/-! ### A path's level as it is shown (R450, R456) -/

theorem State.showLevel_sbg (s : State) (i : Nat) : (s.showLevel i).sbg = s.sbg := proj_ite_of State.sbg rfl rfl

theorem State.showLevel_mram (s : State) (i : Nat) : (s.showLevel i).mram = s.mram := proj_ite_of State.mram rfl rfl

theorem State.showLevel_rmt (s : State) (i : Nat) : (s.showLevel i).rmt = s.rmt := proj_ite_of State.rmt rfl rfl

theorem State.showLevel_free (s : State) (i : Nat) : (s.showLevel i).free = s.free := proj_ite_of State.free rfl rfl

theorem path_of_sbg {s t : State} (h : t.sbg = s.sbg) (i : Nat) : t.path i = s.path i := congrArg (fun b => b.paths.getD i {}) h

theorem State.showLevel_ring (s : State) (r : Nat) :
    s.showLevel (r + 1) = (s.set (TEL_R_STATUS_LEVEL r) (s.level (r + 1))).setB (TEL_R_STATUS_HELD r) (s.held (r + 1)) := rfl

/-- A ring's level leaves what lies apart from it in the ring's status. -/
theorem State.get_showLevel_ring (s : State) (r : Nat) {g : Field} (hlevel : (TEL_R_STATUS_LEVEL r).apart g) (hheld : (TEL_R_STATUS_HELD r).apart g) :
    (s.showLevel (r + 1)).get g = s.get g := by
  rw [s.showLevel_ring r]
  exact (State.get_set_apart _ (TEL_R_STATUS_HELD r) g _ hheld).trans (s.get_set_apart (TEL_R_STATUS_LEVEL r) g _ hlevel)

theorem State.get_showLevel_far (s : State) (r : Nat) {g : Field} (h : TEL_R_STATUS r ≠ g.addr) : (s.showLevel (r + 1)).get g = s.get g :=
  s.get_showLevel_ring r (.inl h) (.inl h)

theorem State.get_showLevel_low (s : State) (r : Nat) {g : Field} (h : g.lo + g.w ≤ 16) : (s.showLevel (r + 1)).get g = s.get g :=
  s.get_showLevel_ring r (.inr (.inr (show g.lo + g.w ≤ 30 by omega))) (.inr (.inr h))

theorem State.get_showLevel_mram (s : State) {g : Field} (h : SBG_STATUS_LEVEL.apart g) : (s.showLevel 0).get g = s.get g :=
  s.get_set_apart SBG_STATUS_LEVEL g _ h

theorem State.level_lt (s : State) (i : Nat) : s.level i < 4 := by
  unfold State.level
  repeat' split
  all_goals decide

/-- The level and the hold that a ring's status shows. -/
theorem State.showLevel_shows (s : State) (r : Nat) : (s.showLevel (r + 1)).isSet (TEL_R_STATUS_HELD r) = s.held (r + 1) ∧
    (s.showLevel (r + 1)).get (TEL_R_STATUS_LEVEL r) = s.level (r + 1) := by
  rw [s.showLevel_ring r]
  refine ⟨State.isSet_set_toNat _ (TEL_R_STATUS_HELD r) _ (show 17 ≤ 32 by decide) (show 0 < 1 by decide), ?_⟩
  refine (State.get_set_apart _ (TEL_R_STATUS_HELD r) (TEL_R_STATUS_LEVEL r) _ (.inr (.inl (show 17 ≤ 30 by decide)))).trans ?_
  exact (s.get_set_same (TEL_R_STATUS_LEVEL r) _ (show 32 ≤ 32 by decide)).trans (Nat.mod_eq_of_lt (s.level_lt _))

/-- What a ring's hold and level depend on. -/
structure SameRing (s t : State) (r : Nat) : Prop where
  sbg : t.sbg = s.sbg
  lost : t.get BRD_STATUS_HOST_LOST = s.get BRD_STATUS_HOST_LOST
  enable : t.get (TEL_R_CTRL_ENABLE r) = s.get (TEL_R_CTRL_ENABLE r)
  size : t.get (TEL_R_CTRL_SIZE_LOG2 r) = s.get (TEL_R_CTRL_SIZE_LOG2 r)
  head : t.get (TEL_R_HEAD_UNIT r) = s.get (TEL_R_HEAD_UNIT r)
  tail : t.get (TEL_R_TAIL_UNIT r) = s.get (TEL_R_TAIL_UNIT r)

theorem SameRing.held {s t : State} {r : Nat} (h : SameRing s t r) : t.held (r + 1) = s.held (r + 1) := by
  have hfull : ∀ n, t.ringFullFor r n = s.ringFullFor r n := by
    intro n
    unfold State.ringFullFor State.ringSize
    rw [h.size, h.head, h.tail]
  unfold State.held
  rw [path_of_sbg h.sbg, Nat.add_sub_cancel, h.enable, State.isSet_of_get h.lost]
  simp only [hfull]

theorem SameRing.level {s t : State} {r : Nat} (h : SameRing s t r) : t.level (r + 1) = s.level (r + 1) := by
  unfold State.level
  rw [h.held, path_of_sbg h.sbg]

theorem State.showLevel_sameRing (s : State) (r : Nat) : SameRing s (s.showLevel (r + 1)) r := by
  have hfar : ∀ g : Field, TEL_R_STATUS r ≠ g.addr → (s.showLevel (r + 1)).get g = s.get g := fun g h => s.get_showLevel_far r h
  refine ⟨s.showLevel_sbg _, hfar _ ?_, hfar _ ?_, hfar _ ?_, hfar _ ?_, hfar _ ?_⟩
  · show TEL_R_STATUS r ≠ BRD_STATUS
    unfold TEL_R_STATUS BRD_STATUS
    omega
  · show TEL_R_STATUS r ≠ TEL_R_CTRL r
    unfold TEL_R_STATUS TEL_R_CTRL
    omega
  · show TEL_R_STATUS r ≠ TEL_R_CTRL r
    unfold TEL_R_STATUS TEL_R_CTRL
    omega
  · show TEL_R_STATUS r ≠ TEL_R_HEAD r
    unfold TEL_R_STATUS TEL_R_HEAD
    omega
  · show TEL_R_STATUS r ≠ TEL_R_TAIL r
    unfold TEL_R_STATUS TEL_R_TAIL
    omega

/-! ### The MRAM writer (R442, R444) -/

/-- No wear copy goes out where none is due. -/
theorem State.wearGo_rests {s : State} (h : s.rmt.due = false) : s.wearGo = s := by
  unfold State.wearGo
  rw [h]
  rfl

theorem State.showRing_mram (s : State) : s.showRing.mram = s.mram := by
  unfold State.showRing
  split <;> rfl

theorem State.showRing_sbg (s : State) : s.showRing.sbg = s.sbg := by
  unfold State.showRing
  split <;> rfl

theorem State.showRing_rmt (s : State) : s.showRing.rmt = s.rmt := by
  unfold State.showRing
  split <;> rfl

theorem State.showRing_free (s : State) : s.showRing.free = s.free := by
  unfold State.showRing
  split <;> rfl

/-- A record outside every incident's slot goes into the ring. -/
theorem State.mramRecord_ring {s : State} {r : Rec} (h : s.pinSlot r = none) :
    (s.mramRecord r).mram = sparseWriteBytes s.mram (ringAddr (s.ringAt r.units)) (r.bytes s.now) ∧ (s.mramRecord r).rmt = s.rmt ∧
      (s.mramRecord r).sbg.paths = s.sbg.paths := by
  unfold State.mramRecord
  rw [h]
  refine ⟨(State.showRing_mram _).trans rfl, (State.showRing_rmt _).trans rfl, (congrArg Sbg.paths (State.showRing_sbg _)).trans rfl⟩

/-- A record of an incident with a slot goes into the slot, and counts there. -/
theorem State.mramRecord_slot {s : State} {r : Rec} {i : Nat} (h : s.pinSlot r = some i) :
    (s.mramRecord r).mram = sparseWriteBytes s.mram (0x2000 + 0x4000 * i + 64 * s.sbg.slotUnits.getD i 0) (({ r with pinned := true } : Rec).bytes s.now) ∧
      (s.mramRecord r).rmt = s.rmt ∧ (s.mramRecord r).sbg.paths = s.sbg.paths ∧
      (s.mramRecord r).get (SBG_INC_SLOT_PINNED i) = min (s.get (SBG_INC_SLOT_PINNED i) + 1) (2 ^ (SBG_INC_SLOT_PINNED i).w - 1) := by
  unfold State.mramRecord
  rw [h]
  refine ⟨rfl, rfl, rfl, ?_⟩
  refine (State.get_set_same _ (SBG_INC_SLOT_PINNED i) _ (show 16 ≤ 32 by decide)).trans (Nat.mod_eq_of_lt ?_)
  exact lt_of_le_of_lt (Nat.min_le_right _ _) (show 2 ^ 8 - 1 < 2 ^ 8 by decide)

theorem State.mramRecord_leaves (s : State) (r : Rec) : (s.mramRecord r).rmt = s.rmt ∧ (s.mramRecord r).sbg.paths = s.sbg.paths := by
  cases h : s.pinSlot r with
  | none =>
    obtain ⟨-, hrmt, hpaths⟩ := State.mramRecord_ring h
    exact ⟨hrmt, hpaths⟩
  | some i =>
    obtain ⟨-, hrmt, hpaths, -⟩ := State.mramRecord_slot h
    exact ⟨hrmt, hpaths⟩

/-- What holds the writer up (R296, R445, R467). -/
def State.writerHeld (s : State) (r : Rec) : Bool := s.fenced || s.writerTaken || s.sectorMoving (s.recAddr r)

theorem State.writerHeld_of {s : State} {r : Rec} (h : s.fenced = true ∨ s.hrn.lfrQ ≠ [] ∨ s.isSet EST_JNL_STATUS_BUSY = true ∨
    s.isSet EST_JNL_STATUS_PENDING = true ∨ s.sectorMoving (s.recAddr r) = true) : s.writerHeld r = true := by
  unfold State.writerHeld State.writerTaken
  rcases h with h | h | h | h | h
  · simp [h]
  · have hq : s.hrn.lfrQ.isEmpty = false := by
      simpa using h
    simp [hq]
  · simp [h]
  · simp [h]
  · simp [h]

/-- The record taken from its queue and written. -/
def State.recWritten (s : State) (r : Rec) (l : List QItem) : State := (s.setPath 0 { s.path 0 with queue := l }).mramRecord r

/-- A GAP record written shows in the status. -/
def State.gapShown (s : State) (kind : Nat) : State := if kind = kGap then s.raiseBit SBG_STATUS_GAP 244 else s

theorem State.gapShown_leaves (s : State) (kind : Nat) : (s.gapShown kind).sbg = s.sbg ∧ (s.gapShown kind).mram = s.mram ∧
    (s.gapShown kind).rmt = s.rmt := by
  unfold State.gapShown
  split
  · exact ⟨s.raiseBit_sbg _ _, s.raiseBit_mram _ _, s.raiseBit_rmt _ _⟩
  · exact ⟨rfl, rfl, rfl⟩

theorem State.get_gapShown (s : State) (kind : Nat) {g : Field} (h : SBG_STATUS ≠ g.addr) : (s.gapShown kind).get g = s.get g :=
  proj_ite_of (State.get · g) (s.get_raiseBit_apart _ _ _ (.inl h)) rfl

section
variable {s : State} (hp : s.pins.powered = true)
include hp

theorem execMramRecordWrite_empty (b : Bool) (h : (s.path 0).queue = []) : exec (.mramRecordWrite b) s = .next s := by
  refine (show execMramRecordWrite b s = _ from State.on_powered _ hp).trans ?_
  rw [h]

theorem execMramRecordWrite_held (b : Bool) {q : QItem} {l : List QItem} (h : (s.path 0).queue = q :: l) (hheld : s.writerHeld q.rec_ = true) :
    exec (.mramRecordWrite b) s = .next s := by
  refine (show execMramRecordWrite b s = _ from State.on_powered _ hp).trans ?_
  rw [h]
  exact if_pos hheld

theorem execMramRecordWrite_goes {q : QItem} {l : List QItem} (h : (s.path 0).queue = q :: l) (hfree : s.writerHeld q.rec_ = false) :
    exec (.mramRecordWrite false) s = .next (((s.recWritten q.rec_ l).gapShown q.rec_.kind).showLevel 0).wearGo := by
  refine (show execMramRecordWrite false s = _ from State.on_powered _ hp).trans ?_
  rw [h]
  exact (if_neg (fun hc => Bool.false_ne_true (hfree.symm.trans hc))).trans (if_neg Bool.false_ne_true)

theorem execMramRecordWrite_misses {q : QItem} {l : List QItem} (h : (s.path 0).queue = q :: l) (hfree : s.writerHeld q.rec_ = false) :
    exec (.mramRecordWrite true) s = .next (s.mramMiss q.rec_) := by
  refine (show execMramRecordWrite true s = _ from State.on_powered _ hp).trans ?_
  rw [h]
  exact (if_neg (fun hc => Bool.false_ne_true (hfree.symm.trans hc))).trans (if_pos rfl)

theorem execMramRecordWrite_writes {q : QItem} {l : List QItem} (h : (s.path 0).queue = q :: l) (hdue : s.rmt.due = false)
    (hfree : s.writerHeld q.rec_ = false) : ∃ t, exec (.mramRecordWrite false) s = .next t ∧
      (s.pinSlot q.rec_ = none → t.mram = sparseWriteBytes s.mram (ringAddr (s.ringAt q.rec_.units)) (q.rec_.bytes s.now)) ∧
      (∀ i : Fin 16, s.pinSlot q.rec_ = some i.val → t.mram = sparseWriteBytes s.mram (0x2000 + 0x4000 * i + 64 * s.sbg.slotUnits.getD i 0)
        (({ q.rec_ with pinned := true } : Rec).bytes s.now) ∧
        t.get (SBG_INC_SLOT_PINNED i) = min (s.get (SBG_INC_SLOT_PINNED i) + 1) (2 ^ (SBG_INC_SLOT_PINNED i).w - 1)) ∧
      (s.sbg.paths.length = 5 → (t.path 0).queue = l) ∧ (q.rec_.kind = kGap → t.isSet SBG_STATUS_GAP = true) := by
  obtain ⟨hrmt, hpaths⟩ := (s.setPath 0 { s.path 0 with queue := l }).mramRecord_leaves q.rec_
  obtain ⟨hgsbg, hgmram, hgrmt⟩ := (s.recWritten q.rec_ l).gapShown_leaves q.rec_.kind
  have hmram : (((s.recWritten q.rec_ l).gapShown q.rec_.kind).showLevel 0).mram = (s.recWritten q.rec_ l).mram := (State.showLevel_mram _ _).trans hgmram
  refine ⟨((s.recWritten q.rec_ l).gapShown q.rec_.kind).showLevel 0, (execMramRecordWrite_goes hp h hfree).trans (congrArg _ (State.wearGo_rests ?_)),
    fun hring => ?_, fun i hi => ⟨?_, ?_⟩, fun hlen => ?_, fun hkind => ?_⟩
  · rw [State.showLevel_rmt, hgrmt]
    exact (congrArg Rmt.due hrmt).trans hdue
  · rw [hmram]
    exact (State.mramRecord_ring (s := s.setPath 0 { s.path 0 with queue := l }) hring).1
  · rw [hmram]
    exact (State.mramRecord_slot (s := s.setPath 0 { s.path 0 with queue := l }) hi).1
  · have hne : SBG_STATUS ≠ SBG_INC_SLOT i := by
      unfold SBG_STATUS SBG_INC_SLOT
      omega
    rw [State.get_showLevel_mram _ (g := SBG_INC_SLOT_PINNED i) (.inl hne), State.get_gapShown _ _ (g := SBG_INC_SLOT_PINNED i) hne]
    obtain ⟨-, -, -, hcount⟩ := State.mramRecord_slot (s := s.setPath 0 { s.path 0 with queue := l }) hi
    exact hcount
  · have hpath : (((s.recWritten q.rec_ l).gapShown q.rec_.kind).showLevel 0).path 0 = (s.setPath 0 { s.path 0 with queue := l }).path 0 := by
      rw [path_of_sbg ((State.showLevel_sbg _ _).trans hgsbg)]
      exact congrArg (List.getD · 0 {}) hpaths
    rw [hpath, State.path_setPath _ _ _ (by omega)]
  · rw [State.isSet_of_get (State.get_showLevel_mram _ (apart_of (by decide)))]
    unfold State.gapShown
    rw [if_pos hkind]
    exact State.isSet_raiseBit _ _ _ (by decide) (by decide)

end

end Sys2Proof.Machine


namespace Sys2Proof.Machine

/-! ### A write that reads back wrong (R442, R467) -/

theorem length_leBytes (n v : Nat) : (leBytes n v).length = n := by
  induction n generalizing v with
  | zero => rfl
  | succ n ih => exact congrArg Nat.succ (ih _)

theorem sparseReadBytes_one (m : List (Nat × Byte)) (a : Nat) : sparseReadBytes m a 1 = [sparseRead blankByte m a] := rfl

/-- The failed write of a record. -/
theorem State.mramMiss_shows (s : State) (r : Rec) : (s.mramMiss r).sbg.paths = s.sbg.paths ∧ (s.mramMiss r).free = s.free + 1 ∧
    (s.mramMiss r).mram = sparseWriteBytes s.mram (s.recAddr r) (leBytes (64 * r.units) s.fresh.1) := by
  unfold State.mramMiss State.recAddr
  cases s.pinSlot r with
  | some i => exact ⟨rfl, rfl, rfl⟩
  | none =>
    have hfail : ∀ (t : State) (k : Nat), (t.mramFailed k).sbg = t.sbg ∧ (t.mramFailed k).free = t.free ∧ (t.mramFailed k).mram = t.mram :=
      fun t k => ⟨rfl, rfl, rfl⟩
    dsimp only
    refine ⟨?_, ?_, ?_⟩
    · rw [(hfail _ _).1, State.showRing_sbg]
      rfl
    · rw [(hfail _ _).2.1, State.showRing_free]
      rfl
    · rw [(hfail _ _).2.2, State.showRing_mram]
      rfl

theorem execMramRecordWrite_waits {s : State} (hp : s.pins.powered = true) {q : QItem} {l : List QItem} (h : (s.path 0).queue = q :: l)
    (hfree : s.writerHeld q.rec_ = false) : ∃ t, exec (.mramRecordWrite true) s = .next t ∧ (t.path 0).queue = q :: l ∧ t.free = s.free + 1 ∧
      (∀ u, u < s.recAddr q.rec_ ∨ s.recAddr q.rec_ + 64 * q.rec_.units ≤ u → sparseReadBytes t.mram u 1 = sparseReadBytes s.mram u 1) := by
  obtain ⟨hpaths, hdraw, hmram⟩ := s.mramMiss_shows q.rec_
  refine ⟨_, execMramRecordWrite_misses hp h hfree, (congrArg (fun p => (List.getD p 0 {}).queue) hpaths).trans h, hdraw, fun u hu => ?_⟩
  rw [sparseReadBytes_one, sparseReadBytes_one, hmram, sparseRead_writeBytes_outside _ _ _ _ (by rw [length_leBytes]; exact hu)]

/-! ### Snapshots (R446, R447) -/

/-- The reads of a list change no more than the latches. -/
theorem State.listReads_latches (s : State) (l k : Nat) : ∃ x, (s.listReads l k).2 = { s with latches := x } := by
  have hread : ∀ (t : State) (who a : Nat), ∃ x, (t.readAs who a).2 = { t with latches := x } := by
    intro t who a
    unfold State.readAs
    dsimp only
    repeat' split
    all_goals exact ⟨_, rfl⟩
  induction k with
  | zero => exact ⟨s.latches, rfl⟩
  | succ k ih =>
    obtain ⟨x, hx⟩ := ih
    obtain ⟨y, hy⟩ := hread (s.listReads l k).2 recorder ((s.listReads l k).2.rdN (SBG_LIST_ADDR l k))
    refine ⟨y, hy.trans ?_⟩
    rw [hx]

/-- A snapshot's list is read, and its reads are over. -/
def State.snapRead (s : State) (l : Nat) (x : List (Nat × Nat × Word)) : State :=
  { s with latches := x, sbg := { s.sbg with snaps := s.sbg.snaps.filter (·.list != l) } }

/-- The record of a snapshot whose reads took from x to y. -/
def State.snapRec (s : State) (p : Snap) (l n : Nat) (x y : Word) (ws : List Word) : Rec :=
  { s.mkRec kSnapshot (if s.isSet (SBG_LIST_CFG_INCIDENT l) then 0 else 1) 5 0 l 0 p.incOpen
      (leBytes 1 l ++ leBytes 1 n ++ leBytes 2 p.missed ++ leBytes 4 x.toNat ++ leBytes 4 y.toNat
        ++ padTo 128 (ws.map fun w => leBytes 4 w.toNat).flatten) with
    time := p.time, incident := p.incident }

/-- A snapshot's record goes on its way. -/
def State.snapSent (s : State) (q : Rec) : State := (forN 5 (fun i t => t.toPath i q) (s.wrapReg SBG_SEQ)).showWakeN

/-- A snapshot's list is free again. -/
def State.snapFreed (s : State) (l : Nat) : State := (s.clear (SBG_LIST_STATUS_BUSY l)).raiseBit (SBG_LIST_STATUS_FIRED l) 244

theorem snap_find_none {l : Nat} {ps : List Snap} (h : (ps.any fun p => p.list == l) = false) : ps.find? (fun p => p.list == l) = none := by
  rw [List.find?_eq_none]
  exact fun p hp hl => Bool.false_ne_true (h.symm.trans (List.any_eq_true.2 ⟨p, hp, hl⟩))

theorem State.snapSent_rd (s : State) (q : Rec) {a : Nat} (h : PathFree a) : (s.snapSent q).rd a = (s.wrapReg SBG_SEQ).rd a := by
  have hwake : ∀ t : State, t.showWakeN.rd a = t.rd a := fun _ => rfl
  unfold State.snapSent
  rw [hwake, State.toPaths_rd _ _ h]

theorem State.snapSent_snaps (s : State) (q : Rec) : (s.snapSent q).sbg.snaps = s.sbg.snaps := by
  have hwake : ∀ t : State, t.showWakeN.sbg.snaps = t.sbg.snaps := fun _ => rfl
  unfold State.snapSent
  rw [hwake]
  exact State.toPaths_proj (f := fun t => t.sbg.snaps) (fun _ _ _ => rfl) (fun _ _ _ => rfl) (s.wrapReg SBG_SEQ) q

theorem State.snapFreed_shows (s : State) (l : Nat) : (s.snapFreed l).isSet (SBG_LIST_STATUS_BUSY l) = false ∧
    (s.snapFreed l).isSet (SBG_LIST_STATUS_FIRED l) = true ∧ (s.snapFreed l).sbg = s.sbg ∧
    ∀ a, a ≠ SBG_LIST_STATUS l → (s.snapFreed l).rd a = s.rd a := by
  unfold State.snapFreed
  refine ⟨?_, State.isSet_raiseBit _ (SBG_LIST_STATUS_FIRED l) 244 (show 2 ≤ 32 by decide) (show 0 < 1 by decide), State.raiseBit_sbg _ _ _, fun a h => ?_⟩
  · rw [State.isSet_of_get (State.get_raiseBit_apart _ (SBG_LIST_STATUS_FIRED l) (SBG_LIST_STATUS_BUSY l) 244 (.inr (.inr (show 1 ≤ 1 by decide))))]
    exact s.isSet_set_zero (SBG_LIST_STATUS_BUSY l) (show 1 ≤ 32 by decide)
  · exact (State.rd_raiseBit_ne _ (SBG_LIST_STATUS_FIRED l) 244 h).trans (s.rd_set_ne (SBG_LIST_STATUS_BUSY l) 0 h)

section
variable {s : State} (hp : s.pins.powered = true)
include hp

theorem execSnapshotComplete_none (l : Fin 16) (x y : Word) (h : (s.sbg.snaps.any fun p => p.list == l.val) = false) :
    exec (.snapshotComplete l x y) s = .next s := by
  refine (show execSnapshotComplete l x y s = _ from State.on_powered _ hp).trans ?_
  rw [snap_find_none h]

theorem execSnapshotComplete_sends (l : Fin 16) (x y : Word) (h : (s.sbg.snaps.any fun p => p.list == l.val) = true) :
    ∃ z q, exec (.snapshotComplete l x y) s = .next (((s.snapRead l z).snapSent q).snapFreed l) := by
  obtain ⟨p, hfind⟩ : ∃ p, s.sbg.snaps.find? (fun p => p.list == l.val) = some p := by
    rw [← Option.isSome_iff_exists, List.find?_isSome]
    exact List.any_eq_true.1 h
  obtain ⟨z, hz⟩ := s.listReads_latches l (s.get (SBG_LIST_CFG_N l))
  refine ⟨z.filter (·.1 != recorder), (s.snapRead l (z.filter (·.1 != recorder))).snapRec p l (s.get (SBG_LIST_CFG_N l)) x y
    (s.listReads l (s.get (SBG_LIST_CFG_N l))).1, (show execSnapshotComplete l x y s = _ from State.on_powered _ hp).trans ?_⟩
  rw [hfind]
  dsimp only
  rw [hz]
  rfl

theorem execSnapshotComplete_frees (l : Fin 16) (x y : Word) (h : (s.sbg.snaps.any fun p => p.list == l.val) = true) :
    ∃ t, exec (.snapshotComplete l x y) s = .next t ∧ t.isSet (SBG_LIST_STATUS_BUSY l) = false ∧ t.isSet (SBG_LIST_STATUS_FIRED l) = true ∧
      (t.sbg.snaps.any fun p => p.list == l.val) = false ∧ t.rd SBG_SEQ = s.rd SBG_SEQ + 1 ∧ t.shelf = s.shelf := by
  obtain ⟨z, q, hrun⟩ := execSnapshotComplete_sends hp l x y h
  obtain ⟨hbusy, hfired, hsbg, hrd⟩ := ((s.snapRead l z).snapSent q).snapFreed_shows l
  have hfar : 0x581008 ≤ SBG_LIST_STATUS l := Nat.le_add_right _ _
  refine ⟨_, hrun, hbusy, hfired, ?_, ?_, get_of_rd ?_⟩
  · rw [hsbg, State.snapSent_snaps, List.any_eq_false]
    intro p hmem
    have hp : (p.list != l.val) = true := (List.mem_filter.1 hmem).2
    simpa using hp
  · rw [hrd _ (by unfold SBG_SEQ; omega), State.snapSent_rd _ _ (by decide)]
    refine (State.rd_wr_same _ _ _).trans (BitVec.eq_of_toNat_eq ?_)
    rw [BitVec.toNat_ofNat, BitVec.toNat_add]
    rfl
  · rw [hrd _ (by show SYS_SHELF_STATE ≠ _; unfold SYS_SHELF_STATE; omega), State.snapSent_rd _ _ (by decide)]
    exact (State.rd_wr_ne _ _ (by decide)).trans rfl

end

/-! ### Incidents (R443, R444) -/

/-- The time of an opening event. -/
def State.incNoted (s : State) : State := { s with sbg := { s.sbg with incAt := s.elapsed } }

/-- An incident with the next number. -/
def State.incNumbered (s : State) : State :=
  { s with sbg := { s.sbg with incAt := s.elapsed, incNum := s.sbg.incNum % 65535 + 1 } }.set SBG_STATUS_INC_OPEN 1

/-- The slot of an incident, and its time. -/
def State.incSlotted (s : State) (i n : Nat) : State :=
  ({ s with sbg := { s.sbg with slotUnits := s.sbg.slotUnits.set i 0 } }.wr (SBG_INC_SLOT i) (BitVec.ofNat 32 (n * 0x10000))).wr64 (SBG_INC_TIME_LO i)
    (SBG_INC_TIME_HI i) s.now

theorem State.openIncident_joins {s : State} (h : s.isSet SBG_STATUS_INC_OPEN = true) : s.openIncident = s.incNoted := if_pos h

theorem State.openIncident_opens {s : State} (h : s.isSet SBG_STATUS_INC_OPEN = false) : s.openIncident =
    match s.pickSlot with
    | none => (s.incNumbered.raiseBit SBG_STATUS_INC_LOST 244).writeCb
    | some i => (s.incNumbered.incSlotted i (s.sbg.incNum % 65535 + 1)).writeCb := by
  refine (if_neg fun hc => Bool.false_ne_true (h.symm.trans hc)).trans ?_
  rfl

/-- A fold that keeps what it has or takes the next element stays below the bound of both. -/
theorem foldl_pick_lt {g : Option Nat → Nat → Option Nat} (hg : ∀ b i, g b i = some i ∨ g b i = b) (l : List Nat) (b : Option Nat)
    (hb : ∀ j ∈ b, j < 16) (hl : ∀ i ∈ l, i < 16) : ∀ j ∈ l.foldl g b, j < 16 := by
  induction l generalizing b with
  | nil => exact hb
  | cons i l ih =>
    refine ih _ (fun j hj => ?_) fun k hk => hl k (List.mem_cons_of_mem i hk)
    rcases hg b i with h | h
    · rw [h] at hj
      exact Option.some.inj hj ▸ hl i List.mem_cons_self
    · rw [h] at hj
      exact hb j hj

/-- A slot picked is one of the sixteen. -/
theorem State.pickSlot_lt {s : State} {i : Nat} (h : s.pickSlot = some i) : i < 16 := by
  have hok : ∀ j ∈ (List.range 16).filter (fun i => !bitOf (s.get SBG_INC_KEEP_KEEP) i), j < 16 := fun j hj =>
    List.mem_range.1 (List.mem_filter.1 hj).1
  unfold State.pickSlot at h
  dsimp only at h
  split at h
  next j hj => exact Option.some.inj h ▸ hok j (List.mem_of_find?_eq_some hj)
  · refine foldl_pick_lt (fun b k => ?_) _ none (by simp) hok i h
    cases b with
    | none => exact .inl rfl
    | some j =>
      dsimp only
      split
      · exact .inl rfl
      · exact .inr rfl

theorem State.writeCb_rd (s : State) (a : Nat) : s.writeCb.rd a = s.rd a := by
  unfold State.writeCb
  exact proj_ite_of (State.rd · a) rfl (proj_ite_of (State.rd · a) rfl rfl)

theorem State.writeCb_inc (s : State) : s.writeCb.sbg.incNum = s.sbg.incNum ∧ s.writeCb.sbg.incAt = s.sbg.incAt := by
  unfold State.writeCb
  split
  · exact ⟨rfl, rfl⟩
  · split
    · exact ⟨rfl, rfl⟩
    · exact ⟨rfl, rfl⟩

/-- A register that an incident does not write. -/
abbrev IncFree (a : Nat) : Prop := a ≠ SBG_STATUS ∧ (a < 0x580100 ∨ 0x580200 ≤ a)

theorem State.incSlotted_rd (s : State) {i a : Nat} (n : Nat) (hi : i < 16) (h : a < 0x580100 ∨ 0x580200 ≤ a) : (s.incSlotted i n).rd a = s.rd a := by
  have hslot : a ≠ SBG_INC_SLOT i := by
    unfold SBG_INC_SLOT
    omega
  have hlo : a ≠ SBG_INC_TIME_LO i := by
    unfold SBG_INC_TIME_LO
    omega
  have hhi : a ≠ SBG_INC_TIME_HI i := by
    unfold SBG_INC_TIME_HI
    omega
  exact (State.rd_wr_ne _ _ hhi).trans ((State.rd_wr_ne _ _ hlo).trans ((State.rd_wr_ne _ _ hslot).trans rfl))

theorem State.rd_openIncident (s : State) {a : Nat} (h : IncFree a) : s.openIncident.rd a = s.rd a := by
  obtain ⟨hstatus, hslots⟩ := h
  have hnum : s.incNumbered.rd a = s.rd a := (State.rd_set_ne _ SBG_STATUS_INC_OPEN 1 hstatus).trans rfl
  cases hopen : s.isSet SBG_STATUS_INC_OPEN with
  | true =>
    rw [State.openIncident_joins hopen]
    rfl
  | false =>
    rw [State.openIncident_opens hopen]
    split
    · rw [State.writeCb_rd, State.rd_raiseBit_ne _ SBG_STATUS_INC_LOST 244 hstatus, hnum]
    next i hi => rw [State.writeCb_rd, State.incSlotted_rd _ _ (State.pickSlot_lt hi) hslots, hnum]

theorem State.incNumbered_open (s : State) : s.incNumbered.isSet SBG_STATUS_INC_OPEN = true := State.isSet_set_one _ _ (by decide) (by decide)

theorem State.incSlotted_status (s : State) {i : Nat} (n : Nat) (hi : i < 16) {g : Field} (h : g.addr = SBG_STATUS) :
    (s.incSlotted i n).get g = s.get g :=
  get_of_rd (by rw [h]; exact s.incSlotted_rd n hi (by decide))

/-- An incident is open once it is opened (R444). -/
theorem State.openIncident_isOpen (s : State) : s.openIncident.isSet SBG_STATUS_INC_OPEN = true := by
  have hcb : ∀ t : State, t.writeCb.get SBG_STATUS_INC_OPEN = t.get SBG_STATUS_INC_OPEN := fun t => get_of_rd (t.writeCb_rd _)
  cases hopen : s.isSet SBG_STATUS_INC_OPEN with
  | true =>
    rw [State.openIncident_joins hopen]
    exact hopen
  | false =>
    rw [State.openIncident_opens hopen]
    split
    · rw [State.isSet_of_get (hcb _), State.isSet_of_get (State.get_raiseBit_apart _ SBG_STATUS_INC_LOST _ 244 (apart_of (by decide)))]
      exact s.incNumbered_open
    next i hi =>
      rw [State.isSet_of_get (hcb _), State.isSet_of_get (State.incSlotted_status _ _ (State.pickSlot_lt hi) rfl)]
      exact s.incNumbered_open

end Sys2Proof.Machine


namespace Sys2Proof.Machine

/-! ### What an opened incident shows (R444) -/

theorem State.openIncident_notes (s : State) : s.openIncident.sbg.incAt = s.elapsed := by
  have hnum : s.incNumbered.sbg.incAt = s.elapsed := rfl
  cases hopen : s.isSet SBG_STATUS_INC_OPEN with
  | true =>
    rw [State.openIncident_joins hopen]
    rfl
  | false =>
    rw [State.openIncident_opens hopen]
    split
    · rw [(State.writeCb_inc _).2, State.raiseBit_sbg, hnum]
    · exact (State.writeCb_inc _).2

theorem State.openIncident_number {s : State} (h : s.isSet SBG_STATUS_INC_OPEN = false) :
    s.openIncident.sbg.incNum = s.sbg.incNum % 65535 + 1 := by
  have hnum : s.incNumbered.sbg.incNum = s.sbg.incNum % 65535 + 1 := rfl
  rw [State.openIncident_opens h]
  split
  · rw [(State.writeCb_inc _).1, State.raiseBit_sbg, hnum]
  · exact (State.writeCb_inc _).1

theorem State.openIncident_lost {s : State} (h : s.isSet SBG_STATUS_INC_OPEN = false) (hslot : s.pickSlot = none) :
    s.openIncident.isSet SBG_STATUS_INC_LOST = true := by
  rw [State.openIncident_opens h, hslot]
  dsimp only
  rw [State.isSet_of_get (get_of_rd (State.writeCb_rd _ _))]
  exact State.isSet_raiseBit _ _ _ (by decide) (by decide)

/-- The word of a fresh slot. -/
theorem State.incSlotted_slot (s : State) (i n : Nat) : (s.incSlotted i n).rd (SBG_INC_SLOT i) = BitVec.ofNat 32 (n * 0x10000) := by
  have hlo : SBG_INC_SLOT i ≠ SBG_INC_TIME_LO i := by
    unfold SBG_INC_SLOT SBG_INC_TIME_LO
    omega
  have hhi : SBG_INC_SLOT i ≠ SBG_INC_TIME_HI i := by
    unfold SBG_INC_SLOT SBG_INC_TIME_HI
    omega
  exact (State.rd_wr_ne _ _ hhi).trans ((State.rd_wr_ne _ _ hlo).trans (State.rd_wr_same _ _ _))

theorem State.openIncident_slot {s : State} {i : Nat} (h : s.isSet SBG_STATUS_INC_OPEN = false) (hslot : s.pickSlot = some i) :
    s.openIncident.get (SBG_INC_SLOT_INCIDENT i) = s.sbg.incNum % 65535 + 1 ∧ s.openIncident.get (SBG_INC_SLOT_PINNED i) = 0 := by
  have hword : s.openIncident.rd (SBG_INC_SLOT i) = BitVec.ofNat 32 ((s.sbg.incNum % 65535 + 1) * 0x10000) := by
    rw [State.openIncident_opens h, hslot]
    exact (State.writeCb_rd _ _).trans (State.incSlotted_slot _ _ _)
  have hfield : ∀ lo w : Nat, s.openIncident.get ⟨SBG_INC_SLOT i, lo, w⟩ = (s.sbg.incNum % 65535 + 1) * 0x10000 % 2 ^ 32 / 2 ^ lo % 2 ^ w := by
    intro lo w
    rw [State.get, hword, fieldGet_eq, BitVec.toNat_ofNat]
  refine ⟨(hfield 16 16).trans ?_, (hfield 8 8).trans ?_⟩
  · omega
  · omega

/-! ### Lists (R446 to R448) -/

/-- A list's snapshot in progress, from the state whose incident it has opened or not. -/
def State.snapBegun (s : State) (l : Nat) (p : Snap) : State :=
  ({ s with sbg := { s.sbg with snaps := s.sbg.snaps ++ [p], listFired := s.sbg.listFired.set l (some s.elapsed) } }.set (SBG_LIST_STATUS_BUSY l) 1).set
    (SBG_LIST_STATUS_MISSED l) 0

theorem State.snapBegun_shows (s : State) (l : Nat) (p : Snap) : (s.snapBegun l p).isSet (SBG_LIST_STATUS_BUSY l) = true ∧
    (s.snapBegun l p).get (SBG_LIST_STATUS_MISSED l) = 0 ∧ (s.snapBegun l p).sbg.snaps = s.sbg.snaps ++ [p] ∧
    ∀ a, a ≠ SBG_LIST_STATUS l → (s.snapBegun l p).rd a = s.rd a := by
  unfold State.snapBegun
  refine ⟨?_, ?_, rfl, fun a h => ?_⟩
  · rw [State.isSet_of_get (State.get_set_apart _ (SBG_LIST_STATUS_MISSED l) (SBG_LIST_STATUS_BUSY l) 0 (.inr (.inr (show 1 ≤ 16 by decide))))]
    exact State.isSet_set_one _ (SBG_LIST_STATUS_BUSY l) (show 1 ≤ 32 by decide) (show 0 < 1 by decide)
  · exact (State.get_set_same _ (SBG_LIST_STATUS_MISSED l) 0 (show 32 ≤ 32 by decide)).trans (Nat.zero_mod _)
  · exact (State.rd_set_ne _ (SBG_LIST_STATUS_MISSED l) 0 h).trans ((State.rd_set_ne _ (SBG_LIST_STATUS_BUSY l) 1 h).trans rfl)

/-- A list that is busy, or in its hold-off, counts the firing as missed. -/
def State.listShut (s : State) (l : Nat) : Bool :=
  s.isSet (SBG_LIST_STATUS_BUSY l) || match s.sbg.listFired.getD l none with
    | some t => s.elapsed - t < s.get (SBG_LIST_CFG_HOLDOFF_MS l) * tickMs
    | none => false

theorem State.fireList_missed {s : State} {l : Nat} (h : s.listShut l = true) : s.fireList l = s.bumpSat (SBG_LIST_STATUS_MISSED l) 1 := if_pos h

theorem State.fireList_fires {s : State} {l : Nat} (h : s.listShut l = false) :
    ∃ p : Snap, p.list = l ∧ s.fireList l = (if s.isSet (SBG_LIST_CFG_INCIDENT l) then s.openIncident else s).snapBegun l p := by
  refine ⟨_, ?_, (if_neg fun hc => Bool.false_ne_true (h.symm.trans hc)).trans rfl⟩
  rfl

section
variable {s : State} (hp : s.pins.powered = true)
include hp

theorem execSbgTrig_fires (l : Fin 16) (hkind : s.get (SBG_LIST_CFG_TKIND l) = 4) : exec (.sbgTrig l) s = .next (s.fireList l) :=
  (show execSbgTrig l s = _ from State.on_powered _ hp).trans (congrArg _ (if_pos hkind))

theorem execSbgTrig_rests (l : Fin 16) (hkind : s.get (SBG_LIST_CFG_TKIND l) ≠ 4) : exec (.sbgTrig l) s = .next s :=
  (show execSbgTrig l s = _ from State.on_powered _ hp).trans (congrArg _ (if_neg hkind))

theorem execSbgTrig_starts (l : Fin 16) (hkind : s.get (SBG_LIST_CFG_TKIND l) = 4) (hbusy : s.isSet (SBG_LIST_STATUS_BUSY l) = false)
    (hfresh : s.sbg.listFired.getD l none = none) : ∃ t, exec (.sbgTrig l) s = .next t ∧ t.isSet (SBG_LIST_STATUS_BUSY l) = true ∧
      t.get (SBG_LIST_STATUS_MISSED l) = 0 ∧ (t.sbg.snaps.any fun p => p.list == l.val) = true ∧
      (s.isSet (SBG_LIST_CFG_INCIDENT l) = true → t.isSet SBG_STATUS_INC_OPEN = true) := by
  have hopen : s.listShut l = false := by
    unfold State.listShut
    rw [hbusy, hfresh]
    rfl
  obtain ⟨p, hlist, hfire⟩ := State.fireList_fires hopen
  refine ⟨s.fireList l, execSbgTrig_fires hp l hkind, ?_⟩
  rw [hfire]
  obtain ⟨hb, hm, hsnaps, hrd⟩ := (if s.isSet (SBG_LIST_CFG_INCIDENT l) then s.openIncident else s).snapBegun_shows l p
  refine ⟨hb, hm, ?_, fun hinc => ?_⟩
  · rw [hsnaps, List.any_append, List.any_cons, hlist, beq_self_eq_true, Bool.true_or, Bool.or_true]
  · have hstatus : SBG_STATUS ≠ SBG_LIST_STATUS l := by
      unfold SBG_STATUS SBG_LIST_STATUS
      omega
    rw [State.isSet_of_get (get_of_rd (g := SBG_STATUS_INC_OPEN) (hrd _ hstatus)), if_pos hinc]
    exact s.openIncident_isOpen

theorem execSbgTrig_misses (l : Fin 16) (hkind : s.get (SBG_LIST_CFG_TKIND l) = 4) (hbusy : s.isSet (SBG_LIST_STATUS_BUSY l) = true) :
    ∃ t, exec (.sbgTrig l) s = .next t ∧
      t.get (SBG_LIST_STATUS_MISSED l) = min (s.get (SBG_LIST_STATUS_MISSED l) + 1) (2 ^ (SBG_LIST_STATUS_MISSED l).w - 1) ∧ t.sbg = s.sbg := by
  have hshut : s.listShut l = true := by
    unfold State.listShut
    rw [hbusy]
    rfl
  refine ⟨s.bumpSat (SBG_LIST_STATUS_MISSED l) 1, (execSbgTrig_fires hp l hkind).trans (congrArg _ (State.fireList_missed hshut)), ?_, rfl⟩
  refine (s.get_set_same (SBG_LIST_STATUS_MISSED l) _ (show 32 ≤ 32 by decide)).trans (Nat.mod_eq_of_lt ?_)
  exact lt_of_le_of_lt (Nat.min_le_right _ _) (show 2 ^ 16 - 1 < 2 ^ 16 by decide)

/-! ### MARK, the close and the control block (R443, R444) -/

theorem execMark_eq : exec .mark s = .next (s.openIncident.clear SBG_CTRL_MARK) := show execMark s = _ from State.on_powered _ hp

theorem execMark_opens (h : s.isSet SBG_STATUS_INC_OPEN = false) : ∃ t, exec .mark s = .next t ∧ t.isSet SBG_STATUS_INC_OPEN = true ∧
    t.sbg.incNum = s.sbg.incNum % 65535 + 1 ∧ t.sbg.incAt = s.elapsed ∧ t.isSet SBG_CTRL_MARK = false ∧
    (s.pickSlot = none → t.isSet SBG_STATUS_INC_LOST = true) ∧
    (∀ i : Fin 16, s.pickSlot = some i.val → t.get (SBG_INC_SLOT_INCIDENT i) = t.sbg.incNum ∧ t.get (SBG_INC_SLOT_PINNED i) = 0) := by
  have hget : ∀ g : Field, SBG_CTRL ≠ g.addr → (s.openIncident.clear SBG_CTRL_MARK).get g = s.openIncident.get g := fun g hg =>
    State.get_set_apart _ SBG_CTRL_MARK g 0 (.inl hg)
  have hsbg : (s.openIncident.clear SBG_CTRL_MARK).sbg = s.openIncident.sbg := State.set_sbg _ _ _
  refine ⟨_, execMark_eq hp, ?_, ?_, ?_, State.isSet_set_zero _ _ (by decide), fun hnone => ?_, fun i hi => ?_⟩
  · exact (State.isSet_of_get (hget _ (by decide))).trans s.openIncident_isOpen
  · rw [hsbg, State.openIncident_number h]
  · rw [hsbg, State.openIncident_notes]
  · exact (State.isSet_of_get (hget _ (by decide))).trans (State.openIncident_lost h hnone)
  · have hslot : SBG_CTRL ≠ SBG_INC_SLOT i := by
      unfold SBG_CTRL SBG_INC_SLOT
      omega
    obtain ⟨hinc, hpin⟩ := State.openIncident_slot h hi
    rw [hget _ hslot, hget _ hslot, hsbg, State.openIncident_number h]
    exact ⟨hinc, hpin⟩

theorem execMark_joins (h : s.isSet SBG_STATUS_INC_OPEN = true) :
    exec .mark s = .next { s.clear SBG_CTRL_MARK with sbg := { s.sbg with incAt := s.elapsed } } := by
  rw [execMark_eq hp, State.openIncident_joins h]
  rfl

theorem execIncidentClose_closes (h : s.sbg.incAt + 10 * tickS ≤ s.elapsed) : exec .incidentClose s = .next (s.clear SBG_STATUS_INC_OPEN) :=
  (show execIncidentClose s = _ from State.on_powered _ hp).trans (congrArg _ (if_pos h))

theorem execIncidentClose_rests (h : s.elapsed < s.sbg.incAt + 10 * tickS) : exec .incidentClose s = .next s :=
  (show execIncidentClose s = _ from State.on_powered _ hp).trans (congrArg _ (if_neg (Nat.not_le.2 h)))

end

/-- What the control block's write does (R443, R445, R467). -/
theorem State.writeCb_shows (s : State) : s.writeCb.regs = s.regs ∧ (s.fenced = true → s.writeCb.mram = s.mram ∧ s.writeCb.sbg = s.sbg) ∧
    (s.fenced = false → s.sectorMoving (0x1000 * s.sbg.cbCopy) = true → s.writeCb.mram = s.mram ∧ s.writeCb.sbg.cbDue = true) ∧
    (s.fenced = false → s.sectorMoving (0x1000 * s.sbg.cbCopy) = false → s.writeCb.sbg.cbGen = s.sbg.cbGen + 1 ∧
      s.writeCb.sbg.cbCopy = 1 - s.sbg.cbCopy ∧
      s.writeCb.mram = sparseWriteBytes s.mram (0x1000 * s.sbg.cbCopy) (s.cbBytes (s.sbg.cbGen + 1))) := by
  unfold State.writeCb
  refine ⟨proj_ite_of State.regs rfl (proj_ite_of State.regs rfl rfl), fun h => ?_, fun h hmove => ?_, fun h hstill => ?_⟩
  · rw [if_pos h]
    exact ⟨rfl, rfl⟩
  · rw [if_neg (by rw [h]; decide), if_pos hmove]
    exact ⟨rfl, rfl⟩
  · rw [if_neg (by rw [h]; decide), if_neg (by rw [hstill]; decide)]
    refine ⟨rfl, rfl, ?_⟩
    dsimp only

theorem State.keepSet_same (s : State) (v : Nat) : (s.set SBG_INC_KEEP_KEEP v).fenced = s.fenced ∧
    ∀ a, (s.set SBG_INC_KEEP_KEEP v).sectorMoving a = s.sectorMoving a := by
  have hget : ∀ g : Field, SBG_INC_KEEP ≠ g.addr → (s.set SBG_INC_KEEP_KEEP v).get g = s.get g := fun g h => s.get_set_apart _ g v (.inl h)
  refine ⟨State.isSet_of_get (hget _ (by decide)), fun a => ?_⟩
  unfold State.sectorMoving
  rw [hget _ (by decide), hget _ (by decide)]

theorem execIncKeepWrite_keeps {s : State} (hp : s.pins.powered = true) (v : Fin 65536) : ∃ t, exec (.incKeepWrite v) s = .next t ∧
    t.get SBG_INC_KEEP_KEEP = v.val ∧ (s.fenced = true → t.mram = s.mram ∧ t.sbg = s.sbg) ∧
    (s.fenced = false → s.sectorMoving (0x1000 * s.sbg.cbCopy) = true → t.mram = s.mram ∧ t.sbg.cbDue = true) ∧
    (s.fenced = false → s.sectorMoving (0x1000 * s.sbg.cbCopy) = false → t.sbg.cbGen = s.sbg.cbGen + 1 ∧ t.sbg.cbCopy = 1 - s.sbg.cbCopy ∧
      t.mram = sparseWriteBytes s.mram (0x1000 * s.sbg.cbCopy) ((s.set SBG_INC_KEEP_KEEP v.val).cbBytes (s.sbg.cbGen + 1))) := by
  obtain ⟨-, hfence, hmove, hgo⟩ := (s.set SBG_INC_KEEP_KEEP v).writeCb_shows
  obtain ⟨hfenced, hmoving⟩ := s.keepSet_same v
  rw [hfenced] at hfence hmove hgo
  rw [hmoving] at hmove hgo
  refine ⟨(s.set SBG_INC_KEEP_KEEP v).writeCb, show execIncKeepWrite v s = _ from State.on_powered _ hp, ?_, hfence, hmove, hgo⟩
  exact (get_of_rd (State.writeCb_rd _ _)).trans ((s.get_set_same SBG_INC_KEEP_KEEP v (by decide)).trans (Nat.mod_eq_of_lt v.isLt))

end Sys2Proof.Machine


namespace Sys2Proof.Machine

/-! ### An operating second (R123, R436, R460) -/

theorem State.rd64_wr64 (s : State) {lo hi : Nat} (v : Nat) (hne : lo ≠ hi) (hv : v < 2 ^ 64) : (s.wr64 lo hi v).rd64 lo hi = v := by
  have hlo : (s.wr64 lo hi v).rdN lo = v % 2 ^ 32 := (State.rdN_wrN_ne _ _ hne).trans (s.rdN_wrN_same lo v)
  have hhi : (s.wr64 lo hi v).rdN hi = v / 0x100000000 % 2 ^ 32 := State.rdN_wrN_same _ _ _
  unfold State.rd64
  rw [hlo, hhi]
  omega

/-- The count of operating seconds, one higher. -/
def State.secondUp (s : State) : State := s.wr64 SBG_OPSEC_LO SBG_OPSEC_HI ((s.opsec + 1) % 2 ^ 40)

/-- The wake timer, one lower down to 1. -/
def State.timerDown (s : State) : State := if 1 < s.rdN PWR_WAKE_TIMER then s.wrN PWR_WAKE_TIMER (s.rdN PWR_WAKE_TIMER - 1) else s

theorem State.secondUp_opsec (s : State) : s.secondUp.opsec = (s.opsec + 1) % 2 ^ 40 :=
  s.rd64_wr64 _ (by decide) (lt_trans (Nat.mod_lt _ (by decide)) (by decide))

theorem State.secondUp_rd (s : State) {a : Nat} (hlo : a ≠ SBG_OPSEC_LO) (hhi : a ≠ SBG_OPSEC_HI) : s.secondUp.rd a = s.rd a :=
  (State.rd_wr_ne _ _ hhi).trans (State.rd_wr_ne _ _ hlo)

theorem State.timerDown_rd (s : State) {a : Nat} (h : a ≠ PWR_WAKE_TIMER) : s.timerDown.rd a = s.rd a := rd_ite_of (s.rd_wr_ne _ h) rfl

theorem State.timerDown_timer (s : State) : s.timerDown.rdN PWR_WAKE_TIMER =
    if 1 < s.rdN PWR_WAKE_TIMER then s.rdN PWR_WAKE_TIMER - 1 else s.rdN PWR_WAKE_TIMER := by
  have hlt : s.rdN PWR_WAKE_TIMER < 2 ^ 32 := (s.rd PWR_WAKE_TIMER).isLt
  unfold State.timerDown
  split
  · rw [State.rdN_wrN_same, Nat.mod_eq_of_lt (by omega)]
  · rfl

theorem opsec_of_rd {s t : State} (hlo : t.rd SBG_OPSEC_LO = s.rd SBG_OPSEC_LO) (hhi : t.rd SBG_OPSEC_HI = s.rd SBG_OPSEC_HI) : t.opsec = s.opsec := by
  unfold State.opsec State.rd64 State.rdN
  rw [hlo, hhi]

theorem State.timerDown_leaves (s : State) : s.timerDown.clk = s.clk ∧ s.timerDown.out = s.out ∧ s.timerDown.rmt = s.rmt ∧ s.timerDown.brd = s.brd := by
  unfold State.timerDown
  split
  · exact ⟨rfl, rfl, rfl, rfl⟩
  · exact ⟨rfl, rfl, rfl, rfl⟩

/-- The state that a second has counted in. -/
def State.secondPassed (s : State) : State := s.secondUp.timerDown.wearSecond

theorem State.secondPassed_rd (s : State) (a : Nat) : s.secondPassed.rd a = s.secondUp.timerDown.rd a := rfl

theorem State.secondPassed_opsec (s : State) : s.secondPassed.opsec = (s.opsec + 1) % 2 ^ 40 := by
  have hup : ∀ a, a ≠ PWR_WAKE_TIMER → s.secondPassed.rd a = s.secondUp.rd a := fun a h => (s.secondPassed_rd a).trans (State.timerDown_rd _ h)
  exact (opsec_of_rd (hup _ (by decide)) (hup _ (by decide))).trans s.secondUp_opsec

theorem State.secondPassed_other (s : State) {a : Nat} (hlo : a ≠ SBG_OPSEC_LO) (hhi : a ≠ SBG_OPSEC_HI) (ht : a ≠ PWR_WAKE_TIMER) :
    s.secondPassed.rd a = s.rd a := (s.secondPassed_rd a).trans ((State.timerDown_rd _ ht).trans (s.secondUp_rd hlo hhi))

theorem State.secondPassed_timer (s : State) : s.secondPassed.rdN PWR_WAKE_TIMER =
    if 1 < s.rdN PWR_WAKE_TIMER then s.rdN PWR_WAKE_TIMER - 1 else s.rdN PWR_WAKE_TIMER := by
  have hup : s.secondUp.rdN PWR_WAKE_TIMER = s.rdN PWR_WAKE_TIMER := congrArg BitVec.toNat (s.secondUp_rd (by decide) (by decide))
  exact (State.timerDown_timer _).trans (by rw [hup])

theorem stActive_iff (st : Nat) : stActive st = true ↔ st ∈ [chRestarting, chRun, chShedding] := by
  simp [stActive, or_assoc]

theorem State.secondPassed_secs (s : State) (n : Fin 104) : (s.secondPassed.rmt.phase.getD n {}).secs =
    (s.rmt.phase.getD n {}).secs + (if s.chSt n ∈ [chRestarting, chRun, chShedding] then 1 else 0) := by
  have hst : s.secondUp.timerDown.chSt n = s.chSt n := get_of_rd ((State.timerDown_rd _ (by
    show HRN_CH_STATUS n ≠ PWR_WAKE_TIMER
    unfold HRN_CH_STATUS PWR_WAKE_TIMER
    omega)).trans (s.secondUp_rd (by
    show HRN_CH_STATUS n ≠ SBG_OPSEC_LO
    unfold HRN_CH_STATUS SBG_OPSEC_LO
    omega) (by
    show HRN_CH_STATUS n ≠ SBG_OPSEC_HI
    unfold HRN_CH_STATUS SBG_OPSEC_HI
    omega)))
  obtain ⟨-, -, hrmt, -⟩ := s.secondUp.timerDown_leaves
  have hphase : s.secondPassed.rmt.phase.getD n {} =
      if stActive (s.chSt n) then { s.rmt.phase.getD n {} with secs := (s.rmt.phase.getD n {}).secs + 1 } else s.rmt.phase.getD n {} := by
    have hlist : s.secondPassed.rmt.phase = (List.range 104).map fun n =>
        if stActive (s.secondUp.timerDown.chSt n) then
          { s.secondUp.timerDown.rmt.phase.getD n {} with secs := (s.secondUp.timerDown.rmt.phase.getD n {}).secs + 1 }
        else s.secondUp.timerDown.rmt.phase.getD n {} := rfl
    rw [hlist, List.getD_eq_getElem _ _ (by rw [List.length_map, List.length_range]; exact n.isLt), List.getElem_map, List.getElem_range, hst, hrmt]
    rfl
  rw [hphase]
  by_cases h : stActive (s.chSt n) = true
  · rw [if_pos h, if_pos ((stActive_iff _).1 h)]
  · rw [if_neg h, if_neg (mt (stActive_iff _).2 h)]
    rfl

theorem State.xtalBack_rests {s : State} (h : s.rmt.firc = false) : s.xtalBack = s := by
  unfold State.xtalBack
  rw [h]
  rfl

theorem execOperatingSecond_eq {s : State} (hp : s.pins.powered = true) : exec .operatingSecond s = .next
    (if s.secondPassed.xtalBack.isSet FAB_STATUS_ID_CONFLICT then s.secondPassed.xtalBack.raise 0x0703 0 0 0 else s.secondPassed.xtalBack) :=
  show execOperatingSecond s = _ from State.on_powered _ hp

theorem execOperatingSecond_counts {s : State} (hp : s.pins.powered = true) (hid : s.isSet FAB_STATUS_ID_CONFLICT = false) (hfirc : s.rmt.firc = false) :
    ∃ t, exec .operatingSecond s = .next t ∧ t.opsec = (s.opsec + 1) % 2 ^ 40 ∧
      t.rdN PWR_WAKE_TIMER = (if 1 < s.rdN PWR_WAKE_TIMER then s.rdN PWR_WAKE_TIMER - 1 else s.rdN PWR_WAKE_TIMER) ∧ t.out = s.out ∧
      (∀ n : Fin 104, (t.rmt.phase.getD n {}).secs = (s.rmt.phase.getD n {}).secs + (if s.chSt n ∈ [chRestarting, chRun, chShedding] then 1 else 0)) ∧
      t.clk = s.clk := by
  obtain ⟨hclk, hout, hrmt, -⟩ := s.secondUp.timerDown_leaves
  have hback : s.secondPassed.xtalBack = s.secondPassed := State.xtalBack_rests ((congrArg Rmt.firc hrmt).trans hfirc)
  have hid' : s.secondPassed.isSet FAB_STATUS_ID_CONFLICT = false :=
    (State.isSet_of_get (get_of_rd (s.secondPassed_other (by decide) (by decide) (by decide)))).trans hid
  refine ⟨s.secondPassed, (execOperatingSecond_eq hp).trans ?_, s.secondPassed_opsec, s.secondPassed_timer, hout, s.secondPassed_secs, hclk⟩
  rw [hback, hid', if_neg Bool.false_ne_true]

/-! #### XTAL-A as the reference again (R470) -/

/-- A register that a PLL_REF change in PASSIVE leaves. -/
abbrev PllFree (a : Nat) : Prop :=
  a ≠ CLK_SRC_SEL ∧ a ≠ CLK_STATUS ∧ a ≠ CLK_READY ∧ a ≠ CLK_FMEAS_CTRL ∧ a ≠ SPUR_STATUS ∧ a ≠ BRD_EVT ∧ a ≠ BRD_STATUS

theorem State.unready_rd (s : State) (bs : List Nat) {a : Nat} (hready : a ≠ CLK_READY) (hmeas : a ≠ CLK_FMEAS_CTRL) : (s.unready bs).rd a = s.rd a := by
  obtain ⟨hget, -⟩ := s.unready_keeps bs (g := ⟨a, 0, 32⟩) hready.symm hmeas.symm
  refine BitVec.eq_of_toNat_eq ?_
  show (s.unready bs).rdN a = s.rdN a
  rw [State.rdN_eq_get, State.rdN_eq_get, hget]

/-- In PASSIVE the derating bit follows and no state is entered. -/
theorem State.showDerate_passive {s : State} (h : s.shelf = stPassive) : ∃ b, s.showDerate = s.setB BRD_STATUS_DERATE b := by
  have hset : ∀ b : Bool, (s.setB BRD_STATUS_DERATE b).shelf = stPassive := fun b =>
    (State.get_set_apart _ BRD_STATUS_DERATE _ _ (.inl (by decide))).trans h
  refine ⟨s.brd.active.any fun c => isDerating c.1, ?_⟩
  unfold State.showDerate
  dsimp only
  rw [hset, show (stPassive == stArmed) = false by decide, show (stPassive == stDerated) = false by decide, Bool.and_false, Bool.and_false,
    if_neg Bool.false_ne_true, if_neg Bool.false_ne_true]

/-- The end of a derating code in PASSIVE. -/
theorem State.derate_passive {s : State} (h : s.shelf = stPassive) {a : Nat} (hevt : a ≠ BRD_EVT) (hstatus : a ≠ BRD_STATUS) :
    (s.raiseBit BRD_EVT_DERATE 243).showDerate.rd a = s.rd a := by
  obtain ⟨b, hb⟩ := State.showDerate_passive ((State.get_raiseBit_apart s BRD_EVT_DERATE _ 243 (.inl (by decide))).trans h)
  rw [hb]
  exact (State.rd_set_ne _ BRD_STATUS_DERATE _ hstatus).trans (s.rd_raiseBit_ne BRD_EVT_DERATE 243 hevt)

theorem State.checkHoldoff_rd (s : State) (a : Nat) : s.checkHoldoff.rd a = s.rd a := by
  unfold State.checkHoldoff
  exact rd_ite_of rfl (rd_ite_of rfl (rd_ite_of rfl rfl))

theorem State.unraise_passive {s : State} (code idx : Nat) (h : s.shelf = stPassive) {a : Nat} (ha : PllFree a) : (s.unraise code idx).rd a = s.rd a := by
  obtain ⟨-, -, -, -, -, hevt, hstatus⟩ := ha
  have hderate : ∀ t : State, t.shelf = stPassive → (t.raiseBit BRD_EVT_DERATE 243).showDerate.rd a = t.rd a := fun t ht =>
    State.derate_passive ht hevt hstatus
  unfold State.unraise
  refine rd_ite_of ?_ rfl
  rw [State.checkHoldoff_rd]
  exact rd_ite_of ((hderate _ (by exact h)).trans rfl) rfl

/-- The clocks' part of a PLL_REF change back to XTAL-A. -/
def State.pllRefMoved (s : State) : State :=
  let s := ((s.set CLK_SRC_SEL_PLL_REF 0).switchTo (.pllRef 0)).set CLK_STATUS_CTL_SRC 1
  let s := (s.set CLK_SRC_SEL_MAIN_SRC 0).unready [4, 5, 6, 7]
  let s := { s with clk := { s.clk with selfRefresh := 0x0F00 } }
  (s.showTx).showAck

theorem State.pllRefMoved_rd (s : State) {a : Nat} (h : PllFree a) : s.pllRefMoved.rd a = s.rd a := by
  obtain ⟨hsel, hstatus, hready, hmeas, hspur, -⟩ := h
  have hswitch : ∀ t : State, (t.switchTo (.pllRef 0)).rd a = t.rd a := fun t => t.rd_set_ne CLK_STATUS_SW_BUSY 1 hstatus
  have hun : (s.pllRefMoved).rd a = ((((s.set CLK_SRC_SEL_PLL_REF 0).switchTo (.pllRef 0)).set CLK_STATUS_CTL_SRC 1).set CLK_SRC_SEL_MAIN_SRC 0).rd a :=
    (State.rd_set_ne _ SPUR_STATUS_ACK_LIVE _ hspur).trans (State.unready_rd _ [4, 5, 6, 7] hready hmeas)
  rw [hun, State.rd_set_ne _ CLK_SRC_SEL_MAIN_SRC 0 hsel, State.rd_set_ne _ CLK_STATUS_CTL_SRC 1 hstatus, hswitch,
    s.rd_set_ne CLK_SRC_SEL_PLL_REF 0 hsel]

theorem State.pllRefStart_back (s : State) : s.pllRefStart 0 = s.pllRefMoved.unraise 0x0608 0 := rfl

theorem State.xtalBack_rd (s : State) {a : Nat} (h : PllFree a) : s.xtalBack.rd a = s.rd a := by
  unfold State.xtalBack
  split
  next hc =>
    simp only [Bool.and_eq_true, beq_iff_eq] at hc
    obtain ⟨⟨⟨⟨⟨-, hshelf⟩, -⟩, -⟩, -⟩, -⟩ := hc
    have hpassive : s.pllRefMoved.shelf = stPassive := (get_of_rd (s.pllRefMoved_rd (by decide))).trans hshelf
    have hstart : (s.pllRefStart 0).rd a = s.rd a := by
      rw [s.pllRefStart_back, State.unraise_passive _ _ hpassive h, s.pllRefMoved_rd h]
    exact hstart
  · rfl

/-! #### 0x0703 once more (R417) -/

theorem State.rd_fireList (s : State) {l a : Nat} (hl : l < 16) (h : IncFree a) (hlist : a < 0x581000 ∨ 0x582000 ≤ a) : (s.fireList l).rd a = s.rd a := by
  have hne : a ≠ SBG_LIST_STATUS l := by
    unfold SBG_LIST_STATUS
    omega
  cases hs : s.listShut l with
  | true =>
    rw [State.fireList_missed hs]
    exact s.rd_set_ne (SBG_LIST_STATUS_MISSED l) _ hne
  | false =>
    obtain ⟨p, -, hfire⟩ := State.fireList_fires hs
    obtain ⟨-, -, -, hrd⟩ := (if s.isSet (SBG_LIST_CFG_INCIDENT l) then s.openIncident else s).snapBegun_shows l p
    rw [hfire, hrd a hne]
    exact rd_ite_of (s.rd_openIncident h) rfl

theorem State.rd_fireOnFault (s : State) (code cls : Nat) {a : Nat} (h : IncFree a) (hlist : a < 0x581000 ∨ 0x582000 ≤ a) :
    (s.fireOnFault code cls).rd a = s.rd a := by
  have hstep : ∀ (f : Nat → State → State), (∀ l < 16, ∀ t : State, (f l t).rd a = t.rd a) → ∀ ls : List Nat, (∀ l ∈ ls, l < 16) →
      ∀ t : State, (forL ls f t).rd a = t.rd a := by
    intro f hf ls
    induction ls with
    | nil => exact fun _ _ => rfl
    | cons l ls ih =>
      intro hls t
      exact (ih (fun k hk => hls k (List.mem_cons_of_mem l hk)) _).trans (hf l (hls l List.mem_cons_self) t)
  refine hstep _ (fun l hl t => ?_) (List.range 16) (fun l hl => List.mem_range.1 hl) s
  exact rd_ite_of (t.rd_fireList hl h hlist) (rd_ite_of (t.rd_fireList hl h hlist) rfl)

/-- The log of an F0 code that does not derate leaves the operating seconds. -/
theorem State.logCode_opsec (s : State) {code : Nat} (idx : Nat) (m t : Int) (hder : isDerating code = false) :
    (s.logCode code idx 0 m t).opsec = s.opsec := by
  have hrd : ∀ a : Nat, a ≠ BRD_EVT → a ≠ BRD_LAST → a ≠ PWR_WAKE_SRC → PathFree a → a ≠ SBG_SEQ → IncFree a → (a < 0x581000 ∨ 0x582000 ≤ a) →
      (s.logCode code idx 0 m t).rd a = s.rd a := by
    intro a hevt hlast hwake hpath hseq hinc hlist
    unfold State.logCode
    dsimp only
    rw [State.rd_fireOnFault _ _ _ hinc hlist, hder, show (decide (2 ≤ 0) || false) = false from rfl, if_neg Bool.false_ne_true,
      if_neg (by decide : ¬ 2 ≤ 0), if_neg (by decide : ¬ 1 ≤ 0), if_neg (by decide : ¬ 0 = 2), if_neg (by decide : ¬ 0 = 3)]
    refine (State.rd_record _ _ _ _ _ _ _ _ hpath hseq).trans ((State.rd_fireWake _ _ hwake).trans ?_)
    rw [State.rd_set_ne _ BRD_LAST_STATE _ hlast, State.rd_set_ne _ BRD_LAST_CLASS _ hlast, State.rd_set_ne _ BRD_LAST_CODE _ hlast, if_pos rfl,
      State.rd_raiseBit_ne _ BRD_EVT_F0 243 hevt]
  exact opsec_of_rd (hrd _ (by decide) (by decide) (by decide) (by decide) (by decide) (by decide) (by decide))
    (hrd _ (by decide) (by decide) (by decide) (by decide) (by decide) (by decide) (by decide))

end Sys2Proof.Machine


namespace Sys2Proof.Machine

/-! #### The active codes across a change of the reference -/

theorem State.refLost_brd (s : State) (b : Nat) : (s.refLost b).brd = s.brd := by
  unfold State.refLost
  split
  · rw [State.raiseBit_brd]
    rfl
  · rfl

theorem State.unready_brd (s : State) (bs : List Nat) : (s.unready bs).brd = s.brd := by
  induction bs generalizing s with
  | nil => rfl
  | cons b bs ih => exact (ih _).trans (State.refLost_brd _ b)

theorem State.xtalBack_active (s : State) : ∀ c ∈ s.xtalBack.brd.active, c ∈ s.brd.active := by
  have hmoved : s.pllRefMoved.brd = s.brd := State.unready_brd (((((s.set CLK_SRC_SEL_PLL_REF 0).switchTo (.pllRef 0)).set CLK_STATUS_CTL_SRC 1)).set
    CLK_SRC_SEL_MAIN_SRC 0) [4, 5, 6, 7]
  intro c hc
  unfold State.xtalBack at hc
  split at hc
  · obtain ⟨hmem, -⟩ := State.unraise_active s.pllRefMoved 0x0608 0 hc
    rwa [hmoved] at hmem
  · exact hc

theorem State.raise_conflict_opsec (s : State) : (s.raise 0x0703 0 0 0).opsec = s.opsec := by
  by_cases hact : (0x0703, 0) ∈ s.brd.active
  · rw [s.raise_of_active 0 0 hact]
    rfl
  · rw [State.raise_event 0 0 rfl (by decide) (by decide) hact]
    exact s.logCode_opsec 0 0 0 (by decide)

theorem State.raise_conflict_last {s : State} (hact : (0x0703, 0) ∉ s.brd.active) : (s.raise 0x0703 0 0 0).get BRD_LAST_CODE = 0x0703 := by
  rw [State.raise_event 0 0 rfl (by decide) (by decide) hact]
  exact (State.get_of_seen (s.logCode_seen 0x0703 0 0 0 0) (.inl (by decide))).trans (Nat.mod_eq_of_lt (by decide))

theorem execOperatingSecond_conflict {s : State} (hp : s.pins.powered = true) (hid : s.isSet FAB_STATUS_ID_CONFLICT = true) :
    ∃ t, exec .operatingSecond s = .next t ∧ t.opsec = (s.opsec + 1) % 2 ^ 40 ∧
      ((0x0703, 0) ∉ s.brd.active → t.get BRD_LAST_CODE = 0x0703) := by
  obtain ⟨-, -, -, hbrd⟩ := s.secondUp.timerDown_leaves
  have hrd : ∀ a, PllFree a → s.secondPassed.xtalBack.rd a = s.secondPassed.rd a := fun a h => s.secondPassed.xtalBack_rd h
  have hid' : s.secondPassed.xtalBack.isSet FAB_STATUS_ID_CONFLICT = true :=
    (State.isSet_of_get (get_of_rd ((hrd _ (by decide)).trans (s.secondPassed_other (by decide) (by decide) (by decide))))).trans hid
  refine ⟨s.secondPassed.xtalBack.raise 0x0703 0 0 0, (execOperatingSecond_eq hp).trans (by rw [if_pos hid']), ?_, fun hact =>
    State.raise_conflict_last fun hmem => hact ?_⟩
  · rw [State.raise_conflict_opsec, opsec_of_rd (hrd _ (by decide)) (hrd _ (by decide)), s.secondPassed_opsec]
  · have hold := s.secondPassed.xtalBack_active _ hmem
    exact congrArg Brd.active hbrd ▸ hold

/-! ### GAP records (R451) -/

/-- The pending GAP record goes into its path's queue. -/
theorem State.gapOut_some {s : State} {i : Nat} {g : Gap} (h : (s.path i).gap = some g) : ∃ r b,
    s.gapOut i = (((s.wrapReg SBG_SEQ).setPath i { s.path i with gap := none }).enqueue i r b).showLevel i ∧ r.kind = kGap := by
  unfold State.gapOut
  rw [h]
  exact ⟨_, _, rfl, rfl⟩

theorem State.gapOut_none {s : State} {i : Nat} (h : (s.path i).gap = none) : s.gapOut i = s := by
  unfold State.gapOut
  rw [h]

/-- What a path holds once a record joins its queue. -/
theorem State.path_enqueue (s : State) {i : Nat} (r : Rec) (b : Bool) (hi : i < s.sbg.paths.length) :
    ((s.enqueue i r b).path i).queue.length = (s.path i).queue.length + 1 ∧ ((s.path i).gap = none → ((s.enqueue i r b).path i).gap = none) ∧
      (r.kind = kGap → (s.enqueue i r b).gapWaits i = true) := by
  unfold State.gapWaits State.enqueue
  dsimp only
  rw [State.path_setPath _ _ _ hi]
  refine ⟨?_, fun h => ?_, fun h => ?_⟩
  · rw [List.length_append, List.length_map]
    rfl
  · dsimp only
    rw [h]
    rfl
  · rw [List.any_append, List.any_cons, h]
    exact Bool.or_true _

theorem State.gapWaits_of_path {s t : State} {i : Nat} (h : t.path i = s.path i) : t.gapWaits i = s.gapWaits i := by
  unfold State.gapWaits
  rw [h]

/-- A GAP record that goes out stands in its queue, takes the next SEQ and leaves no other pending (R451). -/
theorem State.gapOut_shows {s : State} {i : Nat} (hi : i < 5) (hlen : i < s.sbg.paths.length) (hgap : (s.path i).gap.isSome = true) :
    ((s.gapOut i).path i).gap = none ∧ (s.gapOut i).gapWaits i = true ∧ ((s.gapOut i).path i).queue.length = (s.path i).queue.length + 1 ∧
      (s.gapOut i).rd SBG_SEQ = s.rd SBG_SEQ + 1 := by
  obtain ⟨g, hg⟩ := Option.isSome_iff_exists.1 hgap
  obtain ⟨r, b, hout, hkind⟩ := State.gapOut_some hg
  have hseq : (s.wrapReg SBG_SEQ).rd SBG_SEQ = s.rd SBG_SEQ + 1 := by
    refine (s.rd_wr_same SBG_SEQ _).trans (BitVec.eq_of_toNat_eq ?_)
    rw [BitVec.toNat_ofNat, State.rdN, BitVec.toNat_add]
    rfl
  have hset : ((s.wrapReg SBG_SEQ).setPath i { s.path i with gap := none }).path i = { s.path i with gap := none } :=
    State.path_setPath _ _ _ hlen
  obtain ⟨hq, hnone, hwaits⟩ := ((s.wrapReg SBG_SEQ).setPath i { s.path i with gap := none }).path_enqueue r b (i := i)
    (by rw [State.setPath, List.length_set]; exact hlen)
  rw [hset] at hq hnone
  rw [hout, path_of_sbg (State.showLevel_sbg _ _), State.gapWaits_of_path (path_of_sbg (State.showLevel_sbg _ _) i),
    State.showLevel_rd _ hi (by decide)]
  exact ⟨hnone rfl, hwaits hkind, hq, hseq⟩

section
variable {s : State} (hp : s.pins.powered = true)
include hp

theorem execGapRecordDue_goes {i : Fin 5} (hheld : s.held i.val = false) (hwaits : s.gapWaits i.val = false) (hfence : i.val = 0 → s.fenced = false)
    (hroom : s.level i.val = 0 ∨ (s.path i.val).reserveFill + 2 ≤ 256) : exec (.gapRecordDue i) s = .next (s.gapOut i) := by
  refine (show execGapRecordDue i s = _ from State.on_powered _ hp).trans ((if_neg ?_).trans (if_pos hroom))
  rintro (⟨h0, h⟩ | h | h)
  · exact Bool.false_ne_true ((hfence h0).symm.trans h)
  · exact Bool.false_ne_true (hheld.symm.trans h)
  · exact Bool.false_ne_true (hwaits.symm.trans h)

theorem execGapRecordDue_delivers {i : Fin 5} (hheld : s.held i.val = false) (hwaits : s.gapWaits i.val = false) (hfence : i.val = 0 → s.fenced = false)
    (hroom : s.level i.val = 0 ∨ (s.path i.val).reserveFill + 2 ≤ 256) (hlen : i.val < s.sbg.paths.length) (hgap : (s.path i.val).gap.isSome = true) :
    ∃ t, exec (.gapRecordDue i) s = .next t ∧ (t.path i.val).gap = none ∧ t.gapWaits i.val = true ∧
      (t.path i.val).queue.length = (s.path i.val).queue.length + 1 ∧ t.rd SBG_SEQ = s.rd SBG_SEQ + 1 :=
  ⟨_, execGapRecordDue_goes hp hheld hwaits hfence hroom, State.gapOut_shows i.isLt hlen hgap⟩

theorem execGapRecordDue_none {i : Fin 5} (hgap : (s.path i.val).gap = none) : exec (.gapRecordDue i) s = .next s := by
  refine (show execGapRecordDue i s = _ from State.on_powered _ hp).trans ?_
  rw [State.gapOut_none hgap, ite_self, ite_self]

/-- What holds a GAP record up. -/
def State.gapHeld (s : State) (i : Nat) : Prop := (i = 0 ∧ s.fenced = true) ∨ s.held i = true ∨ s.gapWaits i = true

theorem execGapRecordDue_held {i : Fin 5} (h : s.gapHeld i) : exec (.gapRecordDue i) s = .next s :=
  (show execGapRecordDue i s = _ from State.on_powered _ hp).trans (if_pos h)

theorem execGapRecordDue_full {i : Fin 5} (hlevel : s.level i.val ≠ 0) (hfull : 256 < (s.path i.val).reserveFill + 2) :
    exec (.gapRecordDue i) s = .next s := by
  by_cases h : s.gapHeld i
  · exact execGapRecordDue_held hp h
  · exact (show execGapRecordDue i s = _ from State.on_powered _ hp).trans ((if_neg h).trans (if_neg fun hroom =>
      hroom.elim hlevel (Nat.not_le.2 hfull)))

theorem execGapRecordDue_waits {i : Fin 5} (h : s.held i.val = true ∨ s.gapWaits i.val = true ∨ i.val = 0 ∧ s.fenced = true ∨
    s.level i.val ≠ 0 ∧ 256 < (s.path i.val).reserveFill + 2) : exec (.gapRecordDue i) s = .next s := by
  rcases h with h | h | h | ⟨hlevel, hfull⟩
  · exact execGapRecordDue_held hp (.inr (.inl h))
  · exact execGapRecordDue_held hp (.inr (.inr h))
  · exact execGapRecordDue_held hp (.inl h)
  · exact execGapRecordDue_full hp hlevel hfull

end

/-! ### The end of a hold (R453) -/

theorem State.holdEnd_shut {s : State} {r : Nat} (h : s.held (r + 1) = true ∨ s.gapWaits (r + 1) = true ∨ (s.path (r + 1)).gap = none) :
    s.holdEnd r = s.showLevel (r + 1) := by
  by_cases hshut : (s.held (r + 1) || s.gapWaits (r + 1)) = true
  · exact if_pos hshut
  · have hnone : (s.path (r + 1)).gap = none :=
      (or_assoc.2 h).resolve_left fun h => hshut (Bool.or_eq_true _ _ ▸ h)
    exact (if_neg hshut).trans (congrArg (State.showLevel · (r + 1)) (State.gapOut_none hnone))

theorem State.holdEnd_opens {s : State} {r : Nat} (hheld : s.held (r + 1) = false) (hwaits : s.gapWaits (r + 1) = false) :
    s.holdEnd r = (s.gapOut (r + 1)).showLevel (r + 1) :=
  if_neg (by rw [hheld, hwaits]; exact Bool.false_ne_true)

theorem execHostRingHoldEnd_follows {s : State} (hp : s.pins.powered = true) {r : Fin 4} (hheld : s.held (r.val + 1) = false)
    (hwaits : s.gapWaits (r.val + 1) = false) (hlen : r.val + 1 < s.sbg.paths.length) (hgap : (s.path (r.val + 1)).gap.isSome = true) :
    ∃ t, exec (.hostRingHoldEnd r) s = .next t ∧ (t.path (r.val + 1)).gap = none ∧ t.gapWaits (r.val + 1) = true ∧
      t.isSet (TEL_R_STATUS_HELD r) = t.held (r.val + 1) := by
  obtain ⟨hnone, hgone, -, -⟩ := State.gapOut_shows (by omega) hlen hgap
  refine ⟨s.holdEnd r, show execHostRingHoldEnd r s = _ from State.on_powered _ hp, ?_⟩
  have hpath := path_of_sbg (State.showLevel_sbg (s.gapOut (r.val + 1)) (r.val + 1)) (r.val + 1)
  rw [State.holdEnd_opens hheld hwaits, hpath, State.gapWaits_of_path hpath, (State.showLevel_sameRing _ _).held]
  exact ⟨hnone, hgone, (State.showLevel_shows _ _).1⟩

theorem execHostRingHoldEnd_shows {s : State} (hp : s.pins.powered = true) {r : Fin 4}
    (h : s.held (r.val + 1) = true ∨ s.gapWaits (r.val + 1) = true ∨ (s.path (r.val + 1)).gap = none) :
    ∃ t, exec (.hostRingHoldEnd r) s = .next t ∧ t.sbg = s.sbg ∧ t.isSet (TEL_R_STATUS_HELD r) = s.held (r.val + 1) ∧
      t.get (TEL_R_STATUS_LEVEL r) = s.level (r.val + 1) := by
  refine ⟨s.holdEnd r, show execHostRingHoldEnd r s = _ from State.on_powered _ hp, ?_⟩
  rw [State.holdEnd_shut h]
  exact ⟨s.showLevel_sbg _, s.showLevel_shows r⟩

/-! ### The head (R452, R456) -/

theorem telStatus_ne_head (r : Nat) : TEL_R_STATUS r ≠ TEL_R_HEAD r := by
  unfold TEL_R_STATUS TEL_R_HEAD
  omega

theorem telHead_ne_seq (r : Nat) : TEL_R_HEAD r ≠ SBG_SEQ := by
  unfold TEL_R_HEAD SBG_SEQ
  omega

theorem State.get_gapOut (s : State) (r : Nat) {g : Field} (h : TEL_R_STATUS r ≠ g.addr) (hseq : g.addr ≠ SBG_SEQ) : (s.gapOut (r + 1)).get g = s.get g := by
  cases hg : (s.path (r + 1)).gap with
  | none => rw [State.gapOut_none hg]
  | some x =>
    obtain ⟨q, b, hout, -⟩ := State.gapOut_some hg
    rw [hout, State.get_showLevel_far _ r h]
    exact s.get_wr_ne _ hseq

theorem State.get_holdEnd (s : State) (r : Nat) {g : Field} (h : TEL_R_STATUS r ≠ g.addr) (hseq : g.addr ≠ SBG_SEQ) : (s.holdEnd r).get g = s.get g :=
  proj_ite_of (State.get · g) (s.get_showLevel_far r h) ((State.get_showLevel_far _ r h).trans (s.get_gapOut r h hseq))

theorem execTelHeadWrite_beyond {s : State} (hp : s.pins.powered = true) (r : Fin 4) (v : Word) (h : s.ringSize r ≤ v.toNat % 2 ^ 20) :
    ∃ t, exec (.telHeadWrite r v) s = .next t ∧ t.isSet (TEL_R_STATUS_HEAD_ERR r) = true ∧
      t.get (TEL_R_HEAD_UNIT r) = s.get (TEL_R_HEAD_UNIT r) ∧ t.sbg = s.sbg := by
  refine ⟨s.raiseBit (TEL_R_STATUS_HEAD_ERR r) 244, (show execTelHeadWrite r v s = _ from State.on_powered _ hp).trans (congrArg _ (if_pos h)), ?_, ?_,
    s.raiseBit_sbg _ _⟩
  · exact s.isSet_raiseBit (TEL_R_STATUS_HEAD_ERR r) 244 (show 2 ≤ 32 by decide) (show 0 < 1 by decide)
  · exact s.get_raiseBit_apart (TEL_R_STATUS_HEAD_ERR r) (TEL_R_HEAD_UNIT r) 244 (.inl (telStatus_ne_head r))

/-- A head taken, with the level that follows. -/
def State.headTaken (s : State) (r u : Nat) : State := (s.set (TEL_R_HEAD_UNIT r) u).showLevel (r + 1)

theorem State.get_headTaken (s : State) (r : Nat) {u : Nat} (hu : u < 2 ^ 20) : (s.headTaken r u).get (TEL_R_HEAD_UNIT r) = u :=
  (State.get_showLevel_far _ r (g := TEL_R_HEAD_UNIT r) (telStatus_ne_head r)).trans
    ((s.get_set_same (TEL_R_HEAD_UNIT r) u (show 20 ≤ 32 by decide)).trans (Nat.mod_eq_of_lt hu))

theorem State.headWrite_moves {s : State} {r : Nat} {v : Word} (h : v.toNat % 2 ^ 20 < s.ringSize r) : s.headWrite r v =
    if s.held (r + 1) then (s.headTaken r (v.toNat % 2 ^ 20)).holdEnd r else s.headTaken r (v.toNat % 2 ^ 20) :=
  if_neg (Nat.not_le.2 h)

theorem execTelHeadWrite_moves {s : State} (hp : s.pins.powered = true) (r : Fin 4) (v : Word) (h : v.toNat % 2 ^ 20 < s.ringSize r) :
    ∃ t, exec (.telHeadWrite r v) s = .next t ∧ t.get (TEL_R_HEAD_UNIT r) = v.toNat % 2 ^ 20 ∧
      (s.held (r.val + 1) = false → t.sbg = s.sbg ∧ t.get (TEL_R_STATUS_LEVEL r) = t.level (r.val + 1)) := by
  have htaken := s.get_headTaken r (Nat.mod_lt v.toNat (by decide : 0 < 2 ^ 20))
  refine ⟨s.headWrite r v, show execTelHeadWrite r v s = _ from State.on_powered _ hp, ?_⟩
  rw [State.headWrite_moves h]
  cases hheld : s.held (r.val + 1) with
  | true =>
    rw [if_pos rfl]
    exact ⟨(State.get_holdEnd _ r (g := TEL_R_HEAD_UNIT r) (telStatus_ne_head r) (telHead_ne_seq r)).trans htaken, fun hn => absurd hn (by decide)⟩
  | false =>
    rw [if_neg Bool.false_ne_true]
    obtain ⟨-, hlevel⟩ := (s.set (TEL_R_HEAD_UNIT r) (v.toNat % 2 ^ 20)).showLevel_shows r
    exact ⟨htaken, fun _ => ⟨(State.showLevel_sbg _ _).trans (State.set_sbg _ _ _),
      hlevel.trans (State.showLevel_sameRing (s.set (TEL_R_HEAD_UNIT r) (v.toNat % 2 ^ 20)) r).level.symm⟩⟩

end Sys2Proof.Machine


namespace Sys2Proof.Machine

/-! ### The length of a record's bytes (R439) -/

theorem length_padTo (n : Nat) (l : List Byte) : (padTo n l).length = n := by
  unfold padTo zeros
  rw [List.length_take, List.length_append, List.length_replicate]
  omega

theorem Rec.length_bytes (r : Rec) (now : Nat) (h : 1 ≤ r.units) : (r.bytes now).length = 64 * r.units := by
  unfold Rec.bytes withCrc
  dsimp only
  rw [List.length_append, length_padTo, length_leBytes]
  omega

/-! ### A ring's tail (R452) -/

theorem State.mem_msix_out (s : State) (v : Nat) {o : Out} (h : o ∈ s.out) : o ∈ (s.msix v).out := by
  unfold State.msix
  repeat' split
  · exact h
  · exact h
  · exact List.mem_cons_of_mem _ h
  · exact h

/-- What the work that follows a tail's move leaves. -/
structure TailKept (s t : State) (r : Nat) : Prop where
  queue : (t.path (r + 1)).queue = (s.path (r + 1)).queue
  tail : t.get (TEL_R_TAIL_UNIT r) = s.get (TEL_R_TAIL_UNIT r)
  free : t.free = s.free
  out : ∀ o ∈ s.out, o ∈ t.out

theorem TailKept.trans {s t u : State} {r : Nat} (h : TailKept t u r) (h' : TailKept s t r) : TailKept s u r :=
  ⟨h.queue.trans h'.queue, h.tail.trans h'.tail, h.free.trans h'.free, fun o ho => h.out o (h'.out o ho)⟩

theorem State.msix_tailKept (s : State) (v r : Nat) : TailKept s (s.msix v) r :=
  ⟨congrArg TPath.queue (path_of_sbg (s.msix_sbg v) _), s.msix_get v _, s.msix_free v, fun _ => s.mem_msix_out v⟩

theorem State.ringIrq_tailKept (s : State) (r prio : Nat) (hlen : r + 1 < s.sbg.paths.length) : TailKept s (s.ringIrq r prio) r := by
  unfold State.ringIrq
  dsimp only
  split
  · have hpath : ∀ p : TPath, p.queue = (s.path (r + 1)).queue → TailKept s (s.setPath (r + 1) p) r := fun p hq =>
      ⟨by rw [State.path_setPath _ _ _ hlen, hq], rfl, rfl, fun _ h => h⟩
    exact (State.msix_tailKept _ _ r).trans (hpath _ rfl)
  · split
    · exact s.msix_tailKept _ r
    · exact ⟨rfl, rfl, rfl, fun _ h => h⟩

theorem telStatus_ne_tail (r : Nat) : TEL_R_STATUS r ≠ TEL_R_TAIL r := by
  unfold TEL_R_STATUS TEL_R_TAIL
  omega

/-- What a ring shows once a record of a kind is written. -/
def State.ringShown (s : State) (r kind : Nat) : State :=
  ((if kind = kGap then s.raiseBit (TEL_R_STATUS_GAP r) 244 else s).showLevel (r + 1)).showWakeN

theorem State.raiseBit_tailKept (s : State) (r v : Nat) : TailKept s (s.raiseBit (TEL_R_STATUS_GAP r) v) r := by
  refine ⟨congrArg TPath.queue (path_of_sbg (s.raiseBit_sbg _ _) _), s.get_raiseBit_apart (TEL_R_STATUS_GAP r) (TEL_R_TAIL_UNIT r) v
    (.inl (telStatus_ne_tail r)), ?_, fun o h => ?_⟩
  · unfold State.raiseBit
    split
    · rfl
    · exact State.msix_free _ v
  · unfold State.raiseBit
    split
    · exact h
    · exact State.mem_msix_out _ v h

theorem State.showLevel_tailKept (s : State) (r : Nat) : TailKept s (s.showLevel (r + 1)).showWakeN r := by
  have hwake : ∀ t : State, TailKept t t.showWakeN r := fun t => ⟨rfl, rfl, rfl, fun _ h => h⟩
  refine (hwake _).trans ⟨congrArg TPath.queue (path_of_sbg (s.showLevel_sbg _) _), s.get_showLevel_far r (telStatus_ne_tail r), s.showLevel_free _,
    fun o h => ?_⟩
  rw [s.showLevel_out]
  exact h

theorem State.ringShown_tailKept (s : State) (r kind : Nat) : TailKept s (s.ringShown r kind) r := by
  unfold State.ringShown
  refine (State.showLevel_tailKept _ r).trans ?_
  split
  · exact s.raiseBit_tailKept r 244
  · exact ⟨rfl, rfl, rfl, fun _ h => h⟩

theorem State.ringShown_gap (s : State) (r : Nat) : (s.ringShown r kGap).isSet (TEL_R_STATUS_GAP r) = true := by
  have hwake : ∀ (t : State) (g : Field), t.showWakeN.isSet g = t.isSet g := fun _ _ => rfl
  unfold State.ringShown
  rw [hwake, State.isSet_of_get (State.get_showLevel_low _ r (g := TEL_R_STATUS_GAP r) (show 3 ≤ 16 by decide)), if_pos rfl]
  exact s.isSet_raiseBit (TEL_R_STATUS_GAP r) 244 (show 3 ≤ 32 by decide) (show 0 < 1 by decide)

/-- The tail that bytes of n units lead to. -/
def State.tailAfter (s : State) (r n : Nat) : Nat := (s.get (TEL_R_TAIL_UNIT r) + n) % s.ringSize r

/-- Bytes written at the tail: the two writes to the host, the tail's move, and what stays (R452). -/
theorem State.tailWrite_out (s : State) (r : Nat) (l : List Byte) : (s.tailWrite r l).out =
    .hostWrite (s.ringWb r) (leBytes 4 (s.tailAfter r (l.length / 64))) ::
      .hostWrite (s.ringBase r + 64 * s.get (TEL_R_TAIL_UNIT r)) l :: s.out := rfl

theorem State.tailWrite_regs (s : State) (r : Nat) (l : List Byte) (a : Nat) :
    (s.tailWrite r l).rd a = (s.set (TEL_R_TAIL_UNIT r) (s.tailAfter r (l.length / 64))).rd a := rfl

theorem State.tailWrite_rd (s : State) (r : Nat) (l : List Byte) {a : Nat} (h : a ≠ TEL_R_TAIL r) : (s.tailWrite r l).rd a = s.rd a :=
  (s.tailWrite_regs r l a).trans (s.rd_set_ne (TEL_R_TAIL_UNIT r) _ h)

theorem State.tailWrite_tail (s : State) (r : Nat) (l : List Byte) :
    (s.tailWrite r l).get (TEL_R_TAIL_UNIT r) = s.tailAfter r (l.length / 64) % 2 ^ (TEL_R_TAIL_UNIT r).w :=
  (get_of_rd (s.tailWrite_regs r l _)).trans (s.get_set_same (TEL_R_TAIL_UNIT r) _ (show 20 ≤ 32 by decide))

theorem State.tailWrite_path (s : State) (r : Nat) (l : List Byte) (hlen : r + 1 < s.sbg.paths.length) :
    ((s.tailWrite r l).path (r + 1)).queue = (s.path (r + 1)).queue ∧ (s.tailWrite r l).sbg.paths.length = s.sbg.paths.length := by
  have hwrite : ∀ t : State, t.sbg = s.sbg → ((t.setPath (r + 1) { t.path (r + 1) with sinceIrq := (t.path (r + 1)).sinceIrq + l.length / 64 }).path
      (r + 1)).queue = (s.path (r + 1)).queue := fun t ht => by
    rw [State.path_setPath _ _ _ (by rw [ht]; exact hlen), path_of_sbg ht]
  exact ⟨hwrite _ rfl, List.length_set⟩

/-- The record at the head of a ring's queue goes out at the tail. -/
def State.ringPut (s : State) (r : Nat) (q : QItem) (l : List QItem) : State :=
  ((s.setPath (r + 1) { s.path (r + 1) with queue := l }).tailWrite r (q.rec_.bytes s.now)).ringIrq r q.rec_.prio

theorem State.ringPut_shows (s : State) (r : Nat) (q : QItem) (l : List QItem) (hlen : r + 1 < s.sbg.paths.length) :
    ((s.ringPut r q l).path (r + 1)).queue = l ∧
    (s.ringPut r q l).get (TEL_R_TAIL_UNIT r) = s.tailAfter r ((q.rec_.bytes s.now).length / 64) % 2 ^ (TEL_R_TAIL_UNIT r).w ∧
    (s.ringPut r q l).free = s.free ∧
    Out.hostWrite (s.ringBase r + 64 * s.get (TEL_R_TAIL_UNIT r)) (q.rec_.bytes s.now) ∈ (s.ringPut r q l).out ∧
    Out.hostWrite (s.ringWb r) (leBytes 4 (s.tailAfter r ((q.rec_.bytes s.now).length / 64))) ∈ (s.ringPut r q l).out := by
  have htaken : (s.setPath (r + 1) { s.path (r + 1) with queue := l }).sbg.paths.length = s.sbg.paths.length := List.length_set
  obtain ⟨hqueue, hpaths⟩ := (s.setPath (r + 1) { s.path (r + 1) with queue := l }).tailWrite_path r (q.rec_.bytes s.now) (by omega)
  obtain ⟨hq, ht, hf, ho⟩ := ((s.setPath (r + 1) { s.path (r + 1) with queue := l }).tailWrite r (q.rec_.bytes s.now)).ringIrq_tailKept r q.rec_.prio
    (by omega)
  rw [State.tailWrite_out] at ho
  refine ⟨?_, ht.trans (State.tailWrite_tail _ _ _), hf, ho _ (List.mem_cons_of_mem _ List.mem_cons_self), ho _ List.mem_cons_self⟩
  exact hq.trans (hqueue.trans (congrArg TPath.queue (State.path_setPath _ _ _ hlen)))

/-- A PAD goes out to the end of a ring. -/
def State.ringPadded (s : State) (r room : Nat) : State := (s.padRec room).2.tailWrite r (s.padRec room).1

/-- Behind a PAD the tail is at the ring's start (R452). -/
theorem State.ringPadded_shows (s : State) (r : Nat) (hlen : r + 1 < s.sbg.paths.length) (hin : s.get (TEL_R_TAIL_UNIT r) < s.ringSize r) :
    (s.ringPadded r (s.ringSize r - s.get (TEL_R_TAIL_UNIT r))).get (TEL_R_TAIL_UNIT r) = 0 ∧
    (s.ringPadded r (s.ringSize r - s.get (TEL_R_TAIL_UNIT r))).free = s.free + 1 ∧
    (s.ringPadded r (s.ringSize r - s.get (TEL_R_TAIL_UNIT r))).ringBase r = s.ringBase r ∧
    (s.ringPadded r (s.ringSize r - s.get (TEL_R_TAIL_UNIT r))).now = s.now ∧
    (s.ringPadded r (s.ringSize r - s.get (TEL_R_TAIL_UNIT r))).sbg.paths.length = s.sbg.paths.length := by
  generalize hroom : s.ringSize r - s.get (TEL_R_TAIL_UNIT r) = room
  have hbytes : (s.padRec room).1.length = 64 * room := Rec.length_bytes _ _ (show 1 ≤ room by omega)
  obtain ⟨-, hpaths⟩ := (s.padRec room).2.tailWrite_path r (s.padRec room).1 hlen
  have hrd : ∀ a, a ≠ TEL_R_TAIL r → (s.ringPadded r room).rdN a = s.rdN a := fun a h => congrArg BitVec.toNat (State.tailWrite_rd _ r _ h)
  refine ⟨(State.tailWrite_tail _ _ _).trans ?_, rfl, ?_, rfl, hpaths⟩
  · have hafter : (s.padRec room).2.tailAfter r ((s.padRec room).1.length / 64) = 0 := by
      show (s.get (TEL_R_TAIL_UNIT r) + (s.padRec room).1.length / 64) % s.ringSize r = 0
      rw [hbytes, Nat.mul_div_cancel_left _ (by decide), show s.get (TEL_R_TAIL_UNIT r) + room = s.ringSize r by omega, Nat.mod_self]
    rw [hafter, Nat.zero_mod]
  · unfold State.ringBase State.rd64
    rw [hrd _ (by unfold TEL_R_BASE_LO TEL_R_TAIL; omega), hrd _ (by unfold TEL_R_BASE_HI TEL_R_TAIL; omega)]

/-! ### A host ring's record (R452) -/

section
variable {s : State} (hp : s.pins.powered = true)
include hp

theorem execHostRingRecordWrite_empty (r : Fin 4) (f : Bool) (h : (s.path (r.val + 1)).queue = []) : exec (.hostRingRecordWrite r f) s = .next s := by
  refine (show execHostRingRecordWrite r f s = _ from State.on_powered _ hp).trans ?_
  dsimp only
  rw [h]

/-- A ring that is held, or has never been enabled, takes nothing. -/
def State.ringShut (s : State) (r : Nat) : Bool := s.held (r + 1) || !(s.path (r + 1)).used

variable {r : Fin 4} {q : QItem} {l : List QItem} (hq : (s.path (r.val + 1)).queue = q :: l)
include hq

theorem execHostRingRecordWrite_shut (f : Bool) (h : s.ringShut r = true) : exec (.hostRingRecordWrite r f) s = .next s := by
  refine (show execHostRingRecordWrite r f s = _ from State.on_powered _ hp).trans ?_
  dsimp only
  rw [hq]
  exact if_pos h

theorem execHostRingRecordWrite_fails (h : s.ringShut r = false) : exec (.hostRingRecordWrite r true) s =
    .next (((s.raiseBit (TEL_R_STATUS_WB_ERR r) 244).clear (TEL_R_CTRL_ENABLE r)).showLevel (r + 1)) := by
  refine (show execHostRingRecordWrite r true s = _ from State.on_powered _ hp).trans ?_
  dsimp only
  rw [hq]
  exact (if_neg (fun hc => Bool.false_ne_true (h.symm.trans hc))).trans (if_pos rfl)

theorem execHostRingRecordWrite_goes (h : s.ringShut r = false) : exec (.hostRingRecordWrite r false) s =
    .next (((if s.ringSize r - s.get (TEL_R_TAIL_UNIT r) < q.rec_.units then s.ringPadded r (s.ringSize r - s.get (TEL_R_TAIL_UNIT r)) else s).ringPut
      r q l).ringShown r q.rec_.kind) := by
  refine (show execHostRingRecordWrite r false s = _ from State.on_powered _ hp).trans ?_
  dsimp only
  rw [hq]
  exact (if_neg (fun hc => Bool.false_ne_true (h.symm.trans hc))).trans ((if_neg Bool.false_ne_true).trans rfl)

end

theorem State.ringShut_of {s : State} {r : Nat} (hheld : s.held (r + 1) = false) (hused : (s.path (r + 1)).used = true) : s.ringShut r = false := by
  unfold State.ringShut
  rw [hheld, hused]
  rfl

theorem execHostRingRecordWrite_rests {s : State} (hp : s.pins.powered = true) (r : Fin 4) (f : Bool)
    (h : (s.path (r.val + 1)).queue = [] ∨ s.held (r.val + 1) = true ∨ (s.path (r.val + 1)).used = false) :
    exec (.hostRingRecordWrite r f) s = .next s := by
  cases hq : (s.path (r.val + 1)).queue with
  | nil => exact execHostRingRecordWrite_empty hp r f hq
  | cons q l =>
    refine execHostRingRecordWrite_shut hp hq f ?_
    unfold State.ringShut
    rcases h with h | h | h
    · exact absurd (hq.symm.trans h) (by simp)
    · rw [h, Bool.true_or]
    · rw [h, Bool.not_false, Bool.or_true]

theorem telStatus_ne_ctrl (r : Nat) : TEL_R_STATUS r ≠ TEL_R_CTRL r := by
  unfold TEL_R_STATUS TEL_R_CTRL
  omega

/-- A ring in use whose ENABLE is clear is held (R453). -/
theorem State.held_of_disabled {s : State} {r : Nat} (hused : (s.path (r + 1)).used = true) (h : s.get (TEL_R_CTRL_ENABLE r) = 0) :
    s.held (r + 1) = true := by
  unfold State.held
  rw [hused, Nat.add_sub_cancel, h]
  simp

theorem execHostRingRecordWrite_lost {s : State} (hp : s.pins.powered = true) {r : Fin 4} {q : QItem} {l : List QItem}
    (hq : (s.path (r.val + 1)).queue = q :: l) (hheld : s.held (r.val + 1) = false) (hused : (s.path (r.val + 1)).used = true) :
    ∃ t, exec (.hostRingRecordWrite r true) s = .next t ∧ t.isSet (TEL_R_CTRL_ENABLE r) = false ∧ t.isSet (TEL_R_STATUS_WB_ERR r) = true ∧
      t.isSet (TEL_R_STATUS_HELD r) = true ∧ (t.path (r.val + 1)).queue = q :: l := by
  have hsbg : ((s.raiseBit (TEL_R_STATUS_WB_ERR r) 244).clear (TEL_R_CTRL_ENABLE r)).sbg = s.sbg := (State.set_sbg _ _ _).trans (s.raiseBit_sbg _ _)
  have hoff : ((s.raiseBit (TEL_R_STATUS_WB_ERR r) 244).clear (TEL_R_CTRL_ENABLE r)).get (TEL_R_CTRL_ENABLE r) = 0 :=
    (State.get_set_same _ (TEL_R_CTRL_ENABLE r) 0 (show 1 ≤ 32 by decide)).trans (Nat.zero_mod _)
  refine ⟨_, execHostRingRecordWrite_fails hp hq (State.ringShut_of hheld hused), ?_, ?_, ?_, ?_⟩
  · rw [State.isSet_of_get (State.get_showLevel_far _ r (g := TEL_R_CTRL_ENABLE r) (telStatus_ne_ctrl r))]
    exact State.isSet_set_zero _ (TEL_R_CTRL_ENABLE r) (show 1 ≤ 32 by decide)
  · have hclear : ((s.raiseBit (TEL_R_STATUS_WB_ERR r) 244).clear (TEL_R_CTRL_ENABLE r)).get (TEL_R_STATUS_WB_ERR r) =
        (s.raiseBit (TEL_R_STATUS_WB_ERR r) 244).get (TEL_R_STATUS_WB_ERR r) :=
      State.get_set_apart _ (TEL_R_CTRL_ENABLE r) (TEL_R_STATUS_WB_ERR r) 0 (.inl (telStatus_ne_ctrl r).symm)
    rw [State.isSet_of_get (State.get_showLevel_low _ r (g := TEL_R_STATUS_WB_ERR r) (show 1 ≤ 16 by decide)), State.isSet_of_get hclear]
    exact s.isSet_raiseBit (TEL_R_STATUS_WB_ERR r) 244 (show 1 ≤ 32 by decide) (show 0 < 1 by decide)
  · rw [(State.showLevel_shows _ r.val).1]
    exact State.held_of_disabled (by rw [path_of_sbg hsbg]; exact hused) hoff
  · rw [path_of_sbg ((State.showLevel_sbg _ _).trans hsbg), hq]

theorem execHostRingRecordWrite_writes {s : State} (hp : s.pins.powered = true) {r : Fin 4} {q : QItem} {l : List QItem}
    (hq : (s.path (r.val + 1)).queue = q :: l) (hheld : s.held (r.val + 1) = false) (hused : (s.path (r.val + 1)).used = true)
    (hlen : s.sbg.paths.length = 5) (hroom : q.rec_.units ≤ s.ringSize r - s.get (TEL_R_TAIL_UNIT r))
    (hbytes : (q.rec_.bytes s.now).length = 64 * q.rec_.units) : ∃ t, exec (.hostRingRecordWrite r false) s = .next t ∧
      (Out.hostWrite (s.ringBase r + 64 * s.get (TEL_R_TAIL_UNIT r)) (q.rec_.bytes s.now)) ∈ t.out ∧ (t.path (r.val + 1)).queue = l ∧
      t.get (TEL_R_TAIL_UNIT r) = (s.get (TEL_R_TAIL_UNIT r) + q.rec_.units) % s.ringSize r % 2 ^ (TEL_R_TAIL_UNIT r).w ∧
      (Out.hostWrite (s.ringWb r) (leBytes 4 ((s.get (TEL_R_TAIL_UNIT r) + q.rec_.units) % s.ringSize r))) ∈ t.out ∧
      (q.rec_.kind = kGap → t.isSet (TEL_R_STATUS_GAP r) = true) := by
  have hunits : (q.rec_.bytes s.now).length / 64 = q.rec_.units := by omega
  obtain ⟨hqueue, htail, -, hbody, hwb⟩ := s.ringPut_shows r q l (by omega)
  obtain ⟨hkq, hkt, -, hko⟩ := (s.ringPut r q l).ringShown_tailKept r q.rec_.kind
  rw [hunits] at htail hwb
  refine ⟨(s.ringPut r q l).ringShown r q.rec_.kind, (execHostRingRecordWrite_goes hp hq (State.ringShut_of hheld hused)).trans (by
    rw [if_neg (Nat.not_lt.2 hroom)]), hko _ hbody, hkq.trans hqueue, hkt.trans htail, hko _ hwb, fun hkind => ?_⟩
  rw [hkind]
  exact State.ringShown_gap _ _

theorem execHostRingRecordWrite_pads {s : State} (hp : s.pins.powered = true) {r : Fin 4} {q : QItem} {l : List QItem}
    (hq : (s.path (r.val + 1)).queue = q :: l) (hheld : s.held (r.val + 1) = false) (hused : (s.path (r.val + 1)).used = true)
    (hlen : s.sbg.paths.length = 5) (hroom : s.ringSize r - s.get (TEL_R_TAIL_UNIT r) < q.rec_.units)
    (hin : s.get (TEL_R_TAIL_UNIT r) < s.ringSize r) : ∃ t, exec (.hostRingRecordWrite r false) s = .next t ∧
      (Out.hostWrite (s.ringBase r) (q.rec_.bytes s.now)) ∈ t.out ∧ (t.path (r.val + 1)).queue = l ∧ t.free = s.free + 1 := by
  obtain ⟨hstart, hdraw, hbase, hnow, hpaths⟩ := s.ringPadded_shows r (by omega) hin
  obtain ⟨hqueue, -, hfree, hbody, -⟩ := (s.ringPadded r (s.ringSize r - s.get (TEL_R_TAIL_UNIT r))).ringPut_shows r q l (by omega)
  obtain ⟨hkq, -, hkf, hko⟩ := ((s.ringPadded r (s.ringSize r - s.get (TEL_R_TAIL_UNIT r))).ringPut r q l).ringShown_tailKept r q.rec_.kind
  rw [hstart, hbase, hnow, Nat.mul_zero, Nat.add_zero] at hbody
  exact ⟨((s.ringPadded r (s.ringSize r - s.get (TEL_R_TAIL_UNIT r))).ringPut r q l).ringShown r q.rec_.kind,
    (execHostRingRecordWrite_goes hp hq (State.ringShut_of hheld hused)).trans (by rw [if_pos hroom]), hko _ hbody, hkq.trans hqueue,
    hkf.trans (hfree.trans hdraw)⟩

/-- Settles O58: each of the recorder's commands by the cases of what it meets, the records' way into the paths leaving every other
register. -/
theorem recorderCommands : Obligations.RecorderCommands := by
  unfold Obligations.RecorderCommands
  intro s hp
  have hfree : ∀ q : QItem, s.fenced = false → s.writerTaken = false → s.sectorMoving (s.recAddr q.rec_) = false → s.writerHeld q.rec_ = false := by
    intro q hf hw hm
    unfold State.writerHeld
    rw [hf, hw, hm]
    rfl
  refine ⟨fun b h => execMramRecordWrite_empty hp b h, fun b q l h hheld => execMramRecordWrite_held hp b h (State.writerHeld_of hheld),
    fun q l h hdue hf hw hm => execMramRecordWrite_writes hp h hdue (hfree q hf hw hm),
    fun q l h hf hw hm => execMramRecordWrite_waits hp h (hfree q hf hw hm),
    fun l x y h => execSnapshotComplete_none hp l x y h, fun l x y h => execSnapshotComplete_frees hp l x y h,
    fun l hk hb hf => execSbgTrig_starts hp l hk hb hf, fun l hk hb => execSbgTrig_misses hp l hk hb, fun l hk => execSbgTrig_rests hp l hk,
    fun h => execMark_opens hp h, fun h => execMark_joins hp h, fun h => execIncidentClose_closes hp h, fun h => execIncidentClose_rests hp h,
    ⟨s.writeCb, show execControlBlockPeriodic s = _ from State.on_powered _ hp, s.writeCb_shows⟩, fun v => execIncKeepWrite_keeps hp v,
    fun hid hfirc => execOperatingSecond_counts hp hid hfirc, fun hid => execOperatingSecond_conflict hp hid,
    fun i hheld hwaits hfence hroom hlen hgap => execGapRecordDue_delivers hp hheld hwaits hfence hroom hlen hgap,
    fun i hgap _ => execGapRecordDue_none hp hgap, fun i h => execGapRecordDue_waits hp h,
    fun r f h => execHostRingRecordWrite_rests hp r f h, fun r q l h hheld hused => execHostRingRecordWrite_lost hp h hheld hused,
    fun r q l h hheld hused hlen hroom hbytes => execHostRingRecordWrite_writes hp h hheld hused hlen hroom hbytes,
    fun r q l h hheld hused hlen hroom hin => execHostRingRecordWrite_pads hp h hheld hused hlen hroom hin,
    fun r hheld hwaits hlen hgap => execHostRingHoldEnd_follows hp hheld hwaits hlen hgap, fun r h => execHostRingHoldEnd_shows hp h,
    fun r v h => execTelHeadWrite_beyond hp r v h, fun r v h => execTelHeadWrite_moves hp r v h⟩

end Sys2Proof.Machine
